-- ==== Sys2Proof/Word.lean ====
section
/-! DEFINITION. The plainest data of the model: bytes and byte strings, and the packing of bytes into numbers in
the order of the spec (least significant byte first). -/

namespace Sys2Proof

/-- One byte. -/
abbrev Byte := BitVec 8

/-- A string of bytes, byte 0 first. -/
abbrev Bytes := List Byte

end Sys2Proof
end

