-- ==== Sys2Proof/Syntax.lean ====
section
/-! DEFINITION. The commands of an ALS9640 node: the operand types the commands carry, and `Instr`, with one
constructor for each row of the table of operations and events. -/

namespace Sys2Proof

/-- The ten initiators on the node's interconnect, by master ID 0 to 9 (R55). -/
inductive MasterId
  | mcpu | pcieHost | fabric | mgp | dbg | disp | txbIn | rha | upd | key
  deriving DecidableEq, Repr

/-- Who makes a register-window access: the master (R55), for FABRIC and TXB_IN the source node it carries, and for a command that reads
the window the size of the access in bytes (R31). -/
structure Req where
  master : MasterId
  node : Nat := 0
  size : Nat := 4
  deriving DecidableEq, Repr

/-- A cell: the header of R171, field by field, and its 64 payload bytes. -/
structure Cell where
  tid : Nat
  kind : Nat
  dn : Bool := false
  vc : Nat := 0
  colour : Nat := 0
  sop : Bool
  eop : Bool
  poison : Bool := false
  twin : Bool := false
  seq : Nat := 0
  fill : Nat := 0
  rsv : Nat := 0
  age : Nat := 0
  payload : Bytes := []
  deriving DecidableEq, Repr

/-- A link frame as received on one lane: the eight 72-byte slots (R132) and the trailer of R135. -/
structure LinkFrame where
  slots : List Bytes
  crc : Nat
  seq : Nat
  sf : Bool
  ca : Bool
  ncell : Nat
  lmc : Bool
  value : Nat
  typ : Nat
  deriving DecidableEq, Repr

/-- The body of NODE_READY (R326, TYPE 0x41). -/
structure NodeInfo where
  device : Nat
  tier : Nat
  prio : Nat
  role : Nat
  upPorts : Nat
  parent : Nat
  sparent : Nat
  first : Nat
  size : Nat
  deriving DecidableEq, Repr

/-- A writer or reader whose ring is enabled (R349, R362): Type-C capture `d`, host frame window `w`,
receive stream `r` or send stream `s`. -/
inductive Writer
  | capture (d : Fin 2)
  | hostWin (w : Fin 64)
  | receive (r : Fin 8)
  | send (s : Fin 64)
  deriving DecidableEq, Repr

/-- The pixels of one tile of a captured frame, four bytes each (R341), row by row. -/
structure TilePix where
  tile : Nat
  pixels : Bytes
  deriving DecidableEq, Repr

/-- A tile packet as delivered: the tile header of R360 and, for RAW, the tile's pixels. -/
structure TilePkt where
  typ : Nat
  full : Bool := false
  forced : Bool := false
  ver : Nat := 1
  frame : Nat := 0
  tile : Nat := 0
  ord : Nat := 0
  sig : Nat := 0
  colour : Nat := 0
  src : Nat := 0
  pixels : Bytes := []
  poison : Bool := false
  deriving DecidableEq, Repr

/-- The transaction header of R415 and whether the packet ended poisoned. -/
structure TxbHdr where
  op : Nat
  ro : Bool := false
  ns : Bool := false
  win : Nat := 0
  tag : Nat := 0
  len : Nat := 0
  status : Nat := 0
  last : Bool := false
  pwseq : Nat := 0
  addr : Nat := 0
  offset : Nat := 0
  poison : Bool := false
  deriving DecidableEq, Repr

/-- The header of a USB REQ packet (R483). -/
structure UsbReq where
  ring : Nat
  slot : Nat
  treset : Bool := false
  zlp : Bool := false
  len : Nat
  reqseq : Nat
  devaddr : Nat
  ep : Nat
  isIn : Bool
  xtype : Nat
  mps : Nat
  speed : Nat
  port : Nat
  interval : Nat := 0
  tmoMs : Nat := 0
  setup : Bytes := []
  deriving DecidableEq, Repr

/-- The header of a USB CPL packet (R483). -/
structure UsbCpl where
  ring : Nat
  slot : Nat
  status : Nat
  actual : Nat
  reqseq : Nat
  toggle : Bool := false
  naks : Nat := 0
  frame : Nat := 0
  deriving DecidableEq, Repr

/-- The guard of a clasp switch that tripped (R503). -/
inductive TripCause
  | overVoltage | overCurrent | short | reverse
  deriving DecidableEq, Repr

/-- A Tsudy session request RD, WR, WRF or CLOSE (R677, R679). `len` is the block count and `tag` the eight tag
bytes as received. -/
structure TsudyFrame where
  seq : Nat
  off : Nat := 0
  count : Nat := 0
  words : List Nat := []
  tag : Bytes
  len : Nat
  deriving DecidableEq, Repr

/-- A PCI Express message from below the root port (R433). -/
inductive PcieMsg
  | aerCor | aerNonfatal | aerFatal
  | intx (line : Fin 4) (asserted : Bool)
  | pme
  deriving DecidableEq, Repr

/-- A USB Power Delivery message from the Type-C partner (R534). -/
inductive PdMsg
  /-- A Request by the sink for data object `pdo` at `ma` mA. -/
  | request (pdo ma : Nat)
  | drSwap
  | prSwap
  | vconnSwap
  /-- Source_Capabilities received while the node is a sink. -/
  | sourceCaps
  | getSourceCap
  | softReset
  | hardReset
  | vdmDiscover
  /-- Enter_Mode for the DisplayPort Alternate Mode. -/
  | enterMode
  | exitMode
  /-- The cable's e-marker answered, and reports a 5 A cable. -/
  | emarker (fiveAmp : Bool)
  | unsupported
  deriving DecidableEq, Repr

/-- The faults of a Type-C port that VBUS_FAULT reports (R541). -/
inductive VbusFault
  | overVoltage | overCurrent | vconnOverCurrent | ccOverVoltage | converter
  deriving DecidableEq, Repr

/-- A hub class request of the upstream host (R475). Ports count from 1 as the hub numbers them. -/
inductive HubReq
  | powerOn (port : Fin 8)
  | powerOff (port : Fin 8)
  | enable (port : Fin 8)
  | disable (port : Fin 8)
  | reset (port : Fin 8)
  | suspend (port : Fin 8)
  | resume (port : Fin 8)
  | sleepL1 (port : Fin 8)
  deriving DecidableEq, Repr

/-- The commands: one constructor for each row of the table of operations and events. -/
inductive Instr

  /-- POWER_ON_RESET (R9): Power-on or an always-on brown-out resets every register and every on-die memory, the AON domain included. -/
  | powerOnReset (brownout : Bool)
  /-- POR_RELEASE (R707): The internal POR is released: straps are sampled, CORE_VID drives code 8, and start-up begins with MAIN_EN low. -/
  | porRelease (straps : Nat)
  /-- HRST_N (R706): HRST_N held low takes effect and holds everything outside AON in reset until it is released. -/
  | hrstN (low : Bool) (straps : Nat)
  /-- RSTCMD (R710): A write of 0xC1A5 to TOP.RSTCMD starts HRST; any other value is ignored. -/
  | rstcmd (r : Req) (v : Nat)
  /-- SOFT_RESET (R9): A 1 written to PCTL.SRST resets the page's block registers, discards any pending commit and clears READY. -/
  | softReset (r : Req) (pg : Nat)
  /-- SOFT_RESET_DONE (R717): The soft reset completes, READY is set again and escalation clamps are released. -/
  | softResetDone (pg : Nat)
  /-- BLOCK_ENABLE (R36): A write of PCTL.EN enables or disables a block and starts or stops its state machine. -/
  | blockEnable (r : Req) (pg : Nat) (en : Bool)
  /-- REGISTER_WRITE (R716): A write to a register that has no row of its own passes the window checks and then sets the field under its access code. -/
  | registerWrite (r : Req) (addr size v : Nat)
  /-- LOW_WORD_READ (R32): Reading the low word of a 64-bit register latches its high word for the master that read it. -/
  | lowWordRead (r : Req) (addr : Nat)
  /-- TABLE_LOWEST_WORD_READ (R52): Reading an entry's lowest word copies the whole entry into the master's read latch. -/
  | tableLowestWordRead (r : Req) (addr : Nat)
  /-- TABLE_WORD_WRITE (R51): A write of a lower word of a table entry is staged for the writing master. -/
  | tableWordWrite (r : Req) (addr v : Nat)
  /-- TABLE_ENTRY_WRITE (R51): A write of an entry's highest word replaces the entry, together with the staged words, in one step. -/
  | tableEntryWrite (r : Req) (addr v : Nat)
  /-- TUNNEL_ENTRY_WRITE (R181): A write of word 7 of a tunnel table entry is checked and either replaces the entry or is refused with ENTRY_INVALID. -/
  | tunnelEntryWrite (r : Req) (idx : Fin 8192) (v : Nat)
  /-- SLOT_ENTRY_WRITE (R348): A write of word 15 of a frame-slot table entry is checked and either replaces the entry or is refused with SLOT_INVALID. -/
  | slotEntryWrite (r : Req) (idx : Fin 256) (v : Nat)
  /-- ESTAT_CLEAR (R39): A W1C write to ESTAT clears bits, releases ECAP when every bit is 0 and stops the escalation timer when no enabled bit remains. -/
  | estatClear (r : Req) (pg v newErr : Nat)
  /-- COMMIT (R43): A 1 written to COMMIT.GO sets PSTAT.CPEND. -/
  | commit (r : Req) (pg : Nat)
  /-- COMMIT_POINT (R43): At the block's commit point every shadow takes effect in one step and CPEND clears. -/
  | commitPoint (pg : Nat)
  /-- TXCOEF_COMMIT (R101): At a lane's commit point the custom coefficients take effect, or are refused with COEF_REFUSED. -/
  | txcoefCommit (l : Fin 32)
  /-- CNTCLR (R254): A write of CNTCLR.GO clears the page's counters. -/
  | cntclr (r : Req) (pg : Nat)
  /-- ESCALATION_EXPIRY (R652): A page's escalation timer expires and the page takes the computed stage. -/
  | escalationExpiry (pg : Nat)
  /-- VSET_WRITE (R75): A write of FIL.VSET.CODE is either refused or starts a voltage ramp, retargeting any ramp already running. -/
  | vsetWrite (r : Req) (v : Nat)
  /-- VID_STEP (R76): After STEP_US the ramp moves CORE_VID by one code, and RAMPING clears at the target. -/
  | vidStep
  /-- HSRATE_UPDATE (R68): Every 10 µs HSRATE takes the replica loop's rate, and RATE_LOW is set after three low updates. -/
  | hsrateUpdate (rate : Nat)
  /-- VMEAS_UPDATE (R66): A new core voltage measurement recomputes EFFCODE, GCAP and GUARD.LIMIT and may set UNDERVOLT. -/
  | vmeasUpdate (mv minMv : Nat)
  /-- TJ_UPDATE (R87): A junction temperature reading above 105 °C sets TJ_HIGH. -/
  | tjUpdate (temp : Nat)
  /-- FIL_SNAP (R70): A write of FIL.SNAP.GO copies the counters and sensors into the snapshot registers in one step. -/
  | filSnap (r : Req)
  /-- CLOCK_GATE_OFF (R81): Writing 0 to a CLK.GATE bit stops new cells from entering the block and waits for its crossings to drain. -/
  | clockGateOff (r : Req) (bit : Fin 13)
  /-- CLOCK_STOP (R81): Once the block's FIFOs are empty its clock stops and GSTAT clears. -/
  | clockStop (bit : Fin 13)
  /-- GATE_TIMEOUT (R81): A drain that has not finished within 100 µs abandons the gate and sets GATE_TIMEOUT. -/
  | gateTimeout (bit : Fin 13)
  /-- CLOCK_GATE_ON (R81): Writing 1 to a CLK.GATE bit starts the clock at once. -/
  | clockGateOn (r : Req) (bit : Fin 13)
  /-- PLL_UNLOCK (R82): A PLL that loses lock sets PLL_UNLOCK and holds its outputs low. -/
  | pllUnlock (pll : Fin 13)
  /-- PLL_RELOCK (R82): A PLL that relocks releases its outputs. -/
  | pllRelock (pll : Fin 13)
  /-- REF_LOSS (R85): Loss of REFCLK sets CLK.ESTAT.REF_LOSS. -/
  | refLoss
  /-- XTAL_LOSS (R78): Failure of the AON crystal switches CD0 to the RC oscillator and sets XTAL_LOSS. -/
  | xtalLoss
  /-- SIGNAL_DETECT (R104): Signal present for 10 µs without a break takes a lane from DETECT to ACQUIRE. -/
  | signalDetect (l : Fin 32)
  /-- SIGNAL_ABSENT (R104): Signal absent for 100 µs in ACQUIRE returns the lane to DETECT. -/
  | signalAbsent (l : Fin 32)
  /-- TRAIN_TIMEOUT (R104): TRAIN.LIMIT_MS passing in ACQUIRE or CONFIRM takes the lane to FAULT. -/
  | trainTimeout (l : Fin 32)
  /-- ATTEMPT_END (R106): An acquisition attempt ending without block lock steps the preset and restarts acquisition. -/
  | attemptEnd (l : Fin 32)
  /-- PRESET_STEP (R106): Every 1 ms while the partner is not locked, the transmit preset steps to the next PRESEQ entry. -/
  | presetStep (l : Fin 32)
  /-- TS_RECEIVED (R104): A training block received advances the lane through ACQUIRE, CONFIRM and READY. -/
  | tsReceived (l : Fin 32) (inverted : Bool) (block : Nat) (lag : Nat)
  /-- PORT_FORM_TIMER (R110): 16 ms after the first lane reached READY, the port forms with the lanes that are READY. -/
  | portFormTimer (p : Fin 8)
  /-- SKIP_RECEIVED (R95): A SKIP is removed from, or kept on, all active lanes together. -/
  | skipReceived (p : Fin 8) (level : Nat)
  /-- AM_RECEIVED (R97): An alignment marker deskews the lanes and is checked for its place and count. -/
  | amReceived (l : Fin 32) (block : Nat) (inPlace : Bool) (lag : Nat)
  /-- BLOCK_LOCK_LOSS (R96): 16 invalid sync headers within 64 blocks lose block lock, and an ACTIVE lane is retired. -/
  | blockLockLoss (l : Fin 32)
  /-- CDR_LOCK_LOSS (R111): Loss of CDR lock retires an ACTIVE lane. -/
  | cdrLockLoss (l : Fin 32)
  /-- SYNC_LIMIT (R111): More than SYNCLIM.LIMIT invalid sync headers within 1 ms retires the lane. -/
  | syncLimit (l : Fin 32) (n : Nat)
  /-- RETRAIN (R115): A write of CTL.RETRAIN retires an ACTIVE lane and takes the lane to DETECT. -/
  | retrain (r : Req) (l : Fin 32)
  /-- RETIRE_SEND (R113): At the next link-frame boundary the node sends RETIRE on every working lane and moves to the new set. -/
  | retireSend (p : Fin 8)
  /-- RETIRE_RECEIVED (R113): A received RETIRE is applied to the receiver and, when ACK is 0, answered. -/
  | retireReceived (p : Fin 8) (block : Nat)
  /-- EIDLE_SEND (R120): At a frame boundary the port sends EIDLE, and its lanes enter L1 or L2. -/
  | eidleSend (p : Fin 8)
  /-- EIDLE_RECEIVED (R119): A received EIDLE takes the partner's lanes into L1 or L2. -/
  | eidleReceived (p : Fin 8) (l2 : Bool)
  /-- FTS_RECEIVED (R120): FTS blocks detected by squelch start the L1 exit until frame lock. -/
  | ftsReceived (p : Fin 8) (frameLock : Bool)
  /-- BEACON_SEND (R124): A write of OLN.BEACON.SEND starts the wake beacon on every working lane of the port. -/
  | beaconSend (r : Req) (l : Fin 32)
  /-- BEACON_BURST (R124): Every 1 ms a 64 µs burst is sent, and after 32 bursts BEACON_UNANSWERED is set. -/
  | beaconBurst (p : Fin 8)
  /-- BEACON_DETECT (R125): A beacon recognised for 16 µs records the wake, votes the LNK domain on and starts the L2 exit. -/
  | beaconDetect (l : Fin 32)
  /-- LINK_FRAME_RECEIVED (R154): A link frame received is checked by CRC and sequence and accepted or dropped, and its trailer fields are used. -/
  | linkFrameReceived (p : Fin 8) (phys : Fin 4) (f : LinkFrame)
  /-- FRAME_GROUP_SEND (R138): The port fills and sends one frame group: cells, link management cells, replays, idle frames and information fields. -/
  | frameGroupSend (p : Fin 8)
  /-- REPLAY_TIMEOUT (R155): Expiry of the replay timer resends from the oldest unacknowledged frame. -/
  | replayTimeout (p : Fin 8)
  /-- CAP (R146): A received CAP is recorded, answered with CAPACK, and checked for a mismatch. -/
  | cap (p : Fin 8) (tok : Nat) (payload : Bytes)
  /-- CAPACK (R146): A CAPACK carrying the sender's TOKEN ends its CAP repeats, and the port moves to KEYING or UP. -/
  | capack (p : Fin 8) (tok : Nat)
  /-- CAP_REPEAT (R146): Every 100 µs without a CAPACK, CAP is sent again. -/
  | capRepeat (p : Fin 8)
  /-- CAPX_TIMEOUT (R143): CAPX.LIMIT_MS passing in CAPX takes the port DOWN. -/
  | capxTimeout (p : Fin 8)
  /-- KEYING_TIMEOUT (R143): CAPX.KEY_MS passing in KEYING takes the port DOWN. -/
  | keyingTimeout (p : Fin 8)
  /-- PORT_DOWN_CMD (R144): A write of OPT.CTL.DOWN takes the port DOWN. -/
  | portDownCmd (r : Req) (p : Fin 8)
  /-- MAILBOX_SEND (R142): A write of OPT.MBX_TXC.GO sends the mailbox as a link management cell. -/
  | mailboxSend (r : Req) (p : Fin 8)
  /-- MAILBOX (R142): A received mailbox cell lands in MBX_RXD or is discarded with OVERRUN. -/
  | mailbox (p : Fin 8) (typ len : Nat) (payload : Bytes)
  /-- WIDTH_REQUEST (R157): A write of OPT.WIDTH.GO refuses the target or sends WIDTH_REQ. -/
  | widthRequest (r : Req) (p : Fin 8)
  /-- WIDTH_REQ (R157): A received WIDTH_REQ is accepted, refused or resolved as a collision. -/
  | widthReq (p : Fin 8) (tok mask : Nat)
  /-- WIDTH_ACK (R157): An accepting WIDTH_ACK starts the RETIRE exchange to the target width. -/
  | widthAck (p : Fin 8) (tok status : Nat)
  /-- WIDTH_TIMEOUT (R157): No WIDTH_ACK within 1 ms fails the request. -/
  | widthTimeout (p : Fin 8)
  /-- PM_REQUEST (R159): A write of OPT.PM.GO stops the port taking tunnel cells. -/
  | pmRequest (r : Req) (p : Fin 8)
  /-- PM_REQ_SEND (R159): Once its replay buffer is empty, the port sends PM_REQ. -/
  | pmReqSend (p : Fin 8)
  /-- PM_REQ (R159): A received PM_REQ is refused, or accepted with the partner emptying its own replay. -/
  | pmReq (p : Fin 8) (tok : Nat) (l2 : Bool)
  /-- PM_ACK_SEND (R159): Once its own replay buffer is empty, the partner sends PM_ACK. -/
  | pmAckSend (p : Fin 8)
  /-- PM_ACK (R159): An accepting PM_ACK leads the requester to send EIDLE and both ends to enter LOWPOWER. -/
  | pmAck (p : Fin 8) (tok status state : Nat)
  /-- PM_TIMEOUT (R159): No PM_ACK within 1 ms returns the port to UP. -/
  | pmTimeout (p : Fin 8)
  /-- PM_EXIT (R159): A write of PM.EXIT, or a cell waiting on any VC, starts the exit from LOWPOWER. -/
  | pmExit (r : Option Req) (p : Fin 8)
  /-- TIME_MARKER (R161): Every PERIOD_US, or on TIME.GO, a TMARK is sent and timestamped, followed by a TIME cell. -/
  | timeMarker (r : Option Req) (p : Fin 8)
  /-- TIME (R162): A received TIME cell yields T1 to T4, OFFSET and DELAY, and CAS steers node time from them. -/
  | time (p : Fin 8) (payload : Bytes)
  /-- CRYPT_ARM (R164): A write of CRYPT.ARM sends KEY for phase 0, unless the slot is stale. -/
  | cryptArm (r : Req) (p : Fin 8)
  /-- KEY (R164): A received KEY is answered with KEYACK and arms or rolls the receive phase. -/
  | key (p : Fin 8) (tok phase span : Nat)
  /-- KEYACK (R164): A received KEYACK arms the direction or schedules the transmit switch. -/
  | keyack (p : Fin 8) (tok phase status : Nat)
  /-- CRYPT_ROLL (R166): A write of CRYPT.ROLL sends KEY naming the inactive phase 64 spans ahead. -/
  | cryptRoll (r : Req) (p : Fin 8)
  /-- TAG (R165): A TAG cell checks its span, and the span is released to the buffer or discarded with a NAK. -/
  | tag (p : Fin 8) (bytes : Bytes)
  /-- CELL_INGRESS (R217): A cell crossing into the core is checked, looked up at SOP, merged, metered, admitted and written into a bank. -/
  | cellIngress (pt : Fin 14) (parityErr : Bool) (c : Cell)
  /-- EGRESS_SELECT (R293): An egress point chooses the next cell by tier, weight, shaper and credit and reads it from the buffer. -/
  | egressSelect (pt : Fin 14)
  /-- REG_RD (R190): The register agent carries out a remote read of up to 12 words and sends REG_RSP. -/
  | regRd (src tok addr count : Nat)
  /-- REG_WR (R190): The register agent carries out a remote write of up to 12 words and sends REG_RSP. -/
  | regWr (src tok addr count : Nat) (data : List Nat)
  /-- REG_RSP (R192): A REG_RSP with the TOKEN under way loads RRQ_STAT and data; a late one is discarded. -/
  | regRsp (src tok status failidx count : Nat) (data : List Nat)
  /-- RRQ_SEND (R192): A write of RRQ_CTL.GO sends a remote register request with a new TOKEN. -/
  | rrqSend (r : Req) (v : Nat)
  /-- RRQ_TIMEOUT (R192): No response within RRQ_TMO fails the request with status 0xFF. -/
  | rrqTimeout
  /-- TUN_SETUP (R195): Fjarosh writes a PENDING entry into the lowest free way and answers TUN_ACK. -/
  | tunSetup (src tok : Nat) (entry : List Nat)
  /-- TUN_OPEN (R195): A PENDING entry becomes OPEN and TUN_ACK is answered. -/
  | tunOpen (src tok tid : Nat)
  /-- TUN_CLOSE (R195): An OPEN entry becomes DRAINING, or a PENDING one FREE, and TUN_ACK is answered. -/
  | tunClose (src tok tid : Nat)
  /-- TUN_ACK (R197): The crown advances or abandons a tunnel set-up or tear-down on each answer. -/
  | tunAck (src tok status typ tid idx : Nat)
  /-- TUNNEL_MSG_RETRY (R198): A set-up or tear-down message unanswered for 5 ms is resent, up to three times. -/
  | tunnelMsgRetry (tok : Nat)
  /-- PENDING_TIMEOUT (R196): A PENDING entry past PEND_MS returns to FREE and counts in CNT_EXPIRE. -/
  | pendingTimeout (idx : Fin 8192)
  /-- DRAINING_TIMEOUT (R196): A DRAINING entry past DRAIN_MS returns to FREE and frees its merge context. -/
  | drainingTimeout (idx : Fin 8192)
  /-- ORPHAN_RELEASE (R283): In the 1 ms check, CRT releases the record of an entry freed with carats held and sends an ORPHAN notice. -/
  | orphanRelease (idx : Fin 8192)
  /-- ROUTE_GEN_SWITCH (R186): A write of RTE.GEN.CUR switches every later lookup to the new routing generation. -/
  | routeGenSwitch (r : Req) (v : Nat)
  /-- MERGE_INIT (R204): A write of TWN.CCTL.INIT initialises the selected merge context. -/
  | mergeInit (r : Req)
  /-- PATH_SILENT (R204): A path that delivers nothing for SILENT.US sets its silent flag and ISTAT.SILENT. -/
  | pathSilent (ctx : Fin 1024) (pathB : Bool)
  /-- AGE_SWEEP (R244): Every SWEEP.PERIOD_US the head of each queue is tested and discarded when past its age limit. -/
  | ageSweep
  /-- SCRUB_SLOT (R252): The scrub reads a cell and writes it back corrected, unless it was written meanwhile. `flips` says in
  bits [1:0] how many bits of one word are wrong, and in bits [3:2] how many copies of the cell's next-cell number. -/
  | scrubSlot (bank : Fin 64) (idle : Bool) (flips : Nat) (writtenMeanwhile : Bool)
  /-- SCRUB_FORCED_ENTRY (R252): A bank with no idle slot for 10 ms enters forced scrub mode. -/
  | scrubForcedEntry (bank : Fin 64)
  /-- BUFFER_WIPE_DONE (R251): The buffer wipe completes, and SWB READY and WIPE_DONE are set. -/
  | bufferWipeDone
  /-- QCFG_WRITE (R240): A write of THR.QCFG is applied or refused with RESV_LIMIT or QCFG_INVALID. -/
  | qcfgWrite (r : Req) (v : Nat)
  /-- RESERVE (R266): CRT reserves an increase if every egress point and the core guard allow it, and answers CRT_ACK. -/
  | reserve (src tok tid txn amount egress : Nat)
  /-- CARAT_COMMIT (R271): CRT commits a reserved increase, loads the meter and answers CRT_ACK. -/
  | caratCommit (src tok tid txn : Nat)
  /-- ABORT (R271): CRT ends a reserved increase and answers CRT_ACK. -/
  | abort (src tok tid txn : Nat)
  /-- DECREASE (R281): CRT lowers COMMITTED, ending any reserved increase, and loads the meter. -/
  | decrease (src tok tid txn amount : Nat)
  /-- RELEASE (R271): CRT returns the record to NONE and removes its carats. -/
  | release (src tok tid txn : Nat)
  /-- CRT_ACK (R277): The crown advances, aborts or decreases the change across the path on each answer. -/
  | crtAck (src tok status typ tid txn committed : Nat)
  /-- CARAT_MSG_RETRY (R279): A reservation message unanswered for 5 ms is resent, and after three resends the crown takes its fallback action. -/
  | caratMsgRetry (tok : Nat)
  /-- HOLD_EXPIRY (R271): A RESERVED record past HOLD_MS returns to its committed amount. -/
  | holdExpiry (idx : Fin 8192)
  /-- WHEEL_SLOT (R299): The wheel pointer enters a slot, allows the queues entered there and moves due overflow entries. -/
  | wheelSlot (pt : Fin 14)
  /-- WHEEL_GRAN_WRITE (R301): A write of SCH.WHEEL.GRAN applies only while the page is disabled and the value is valid. -/
  | wheelGranWrite (r : Req) (pt : Fin 14) (v : Nat)
  /-- METER_INIT (R306): A write of MTR.MINIT.GO fills the selected meter's buckets. -/
  | meterInit (r : Req)
  /-- METER_CLEAR (R311): A write of MTR.MCLR.GO clears the selected meter's counts. -/
  | meterClear (r : Req)
  /-- NEIGHBOUR_SEND (R317): Every NBR_MS, or on any change, NEIGHBOUR is sent on every UP port. -/
  | neighbourSend
  /-- NEIGHBOUR (R318): A received NEIGHBOUR is stored and updates BEST, EPOCH, DGEN, tier and uplinks. -/
  | neighbour (p : Fin 8) (payload : Bytes)
  /-- CROWN_DECLARE (R319): A candidate whose BEST has been itself for SETTLE_MS declares itself crown. -/
  | crownDeclare
  /-- COUNT_SEND (R323): Once PARENT has settled and all child COUNTs are in, the node sends COUNT to its parent. -/
  | countSend
  /-- COUNT (R323): A child's COUNT is recorded, the parent's COUNT is resent, or the crown grants itself a block. -/
  | count (p : Fin 8) (n epoch : Nat)
  /-- GRANT (R324): A granted block gives the node its ID, child blocks, pool and routing. -/
  | grant (p : Fin 8) (first size tier epoch : Nat)
  /-- CROWN_HB_SEND (R328): Every HB.PERIOD_MS the crown sends CROWN_HB to the standby. -/
  | crownHbSend
  /-- CROWN_HB (R330): A heartbeat received at the standby restarts its miss count, and YIELD starts a takeover. -/
  | crownHb (src tok epoch : Nat) (yields : Bool) (openIntents timeNs : Nat)
  /-- HB_TIMEOUT (R330): HB.MISS periods without a heartbeat make the standby take over as crown. -/
  | hbTimeout
  /-- NODE_READY (R328): The crown records a ready node and, once every node is in, appoints a standby. -/
  | nodeReady (src tok : Nat) (info : NodeInfo)
  /-- LINK_EVENT (R335): The crown repairs routing and tunnels after a reported port change, silence or lack of IDs. -/
  | linkEvent (src tok event port partner tid partnerId cnt : Nat)
  /-- STANDBY (R327): Fjarosh appoints or revokes itself as standby crown and answers CAS_ACK. -/
  | standby (src tok : Nat) (appoint : Bool) (epoch : Nat)
  /-- ROUTE_SET (R327): Fjarosh writes the range into a new routing generation, switches it in and answers CAS_ACK. -/
  | routeSet (src tok first cnt port : Nat) (down valid : Bool) (tier : Nat)
  /-- ID_BLOCK (R325): The parent grants the crown's block to the waiting child. -/
  | idBlock (src tok first size port : Nat)
  /-- LEDGER (R329): The standby or the new crown records or closes an intent and answers CAS_ACK. -/
  | ledger (src tok op tid txn before after : Nat) (hops : List Nat)
  /-- CAS_ACK (R329): The crown continues the change that waited for the acknowledgement. -/
  | casAck (src tok status typ epoch : Nat)
  /-- REDISCOVER (R319): A write of CAS.CTL.REDISCOVER at the crown starts a new DGEN. -/
  | rediscover (r : Req)
  /-- YIELD (R330): A write of CAS.CTL.YIELD at the crown sets YIELD in the next heartbeat. -/
  | yield (r : Req)
  /-- UNRECONCILED_CHECK (R335): Every 100 ms the crown reads an unreconciled hop and resends its DECREASE or RELEASE. -/
  | unreconciledCheck
  /-- RING_ENABLE (R349): Enabling a writer or stream checks its ring and starts the zero-fill. -/
  | ringEnable (r : Req) (w : Writer)
  /-- RING_FILL_DONE (R349): The ring zero-fill ends, every slot is FREE and the writer starts. -/
  | ringFillDone (w : Writer)
  /-- CAPTURE_FRAME_START (R350): Capture begins a frame in the next FREE slot, or drops it when none is free. -/
  | captureFrameStart (d : Fin 2)
  /-- CAPTURE_COMMIT (R354): At the end of the last active line, capture commits the frame. -/
  | captureCommit (d : Fin 2) (pixels : List TilePix)
  /-- CAPTURE_ABORT (R354): Link loss, a mode change or CAPEN 0 aborts the frame and frees its slot. -/
  | captureAbort (d : Fin 2) (cause : Nat) (hact vact pclk : Nat)
  /-- HOST_PIXEL_WRITE (R359): A host write into the window's pixel area lands in the WRITING slot and is checked against raster order. -/
  | hostPixelWrite (w : Fin 64) (off : Nat) (data : Bytes)
  /-- FW_END (R357): FW_CTL.END waits for earlier writes, signs and commits the frame, and takes the next slot. -/
  | fwEnd (w : Fin 64)
  /-- FW_ABORT (R356): FW_CTL.ABORT discards the frame being written. -/
  | fwAbort (w : Fin 64)
  /-- SIGNATURES_READY (R346): The read path finishes signing the dirty tiles, and the frame commits. -/
  | signaturesReady (w : Fin 64)
  /-- CATCHUP_DONE (R355): The catch-up copy ends, and WREADY or the receive commit may proceed. -/
  | catchupDone (w : Writer)
  /-- STREAM_SEND_FRAME (R363): An idle send stream takes the newest READY slot and sends its changed tiles and END. -/
  | streamSendFrame (st : Fin 64)
  /-- REPAIR (R367): A write of REPAIR.GO queues a tile range, or overflows into FULL. -/
  | repair (r : Req) (v : Nat)
  /-- SEND_FULL (R363): A write of SCTL.FULL forces every tile in the next sent frame. -/
  | sendFull (r : Req)
  /-- TILE_RECEIVED (R371): A receive stream opens a frame if needed, records gaps and writes the tile. -/
  | tileReceived (tid : Nat) (t : TilePkt)
  /-- END_RECEIVED (R374): END closes the open frame, records gaps, and commits or aborts. -/
  | endReceived (tid : Nat) (t : TilePkt)
  /-- GAP_POP (R375): A write of RGAPPOP removes the oldest gap range. -/
  | gapPop (r : Req)
  /-- VBLANK_FLIP (R394): At the start of vertical blanking the head applies any commit and flips to the newest READY slot. -/
  | vblankFlip (h : Fin 4)
  /-- ACTIVE_END (R401): At the end of the active area SOSIG is loaded and FRZRUN is updated; `low` is the lowest level that
  the FIFO reached in it (R397, R408). -/
  | activeEnd (h : Fin 4) (low : Nat)
  /-- UNDERRUN (R398): A FIFO that cannot supply an active pixel shows UCOLOUR for the rest of the frame and stops fetching. -/
  | underrun (h : Fin 4) (line pixel : Nat)
  /-- HEAD_PLL_LOCK (R391): PLL_PIXn locks and the head goes from LOCK to WAIT_LINK. -/
  | headPllLock (h : Fin 4)
  /-- HEAD_LOCK_TIMEOUT (R391): No lock within 500 µs takes the head to FAULT. -/
  | headLockTimeout (h : Fin 4)
  /-- DP_TRAIN (R404): A write of DPT.CTL.TRAIN starts link training. -/
  | dpTrain (r : Req) (h : Fin 4)
  /-- DP_TRAIN_DONE (R404): Training ends TRAINED or FAILED, and a waiting head enters RUN. -/
  | dpTrainDone (h : Fin 4) (ok : Bool) (rate lanes : Nat)
  /-- DP_DOWN (R410): A write of DPT.CTL.DOWN stops the link, and the head goes to WAIT_LINK. -/
  | dpDown (r : Req) (h : Fin 4)
  /-- HPD_IRQ (R404): An HPD pulse of 0.25 ms to 2 ms sets IRQ and checks the link, retraining once if needed. -/
  | hpdIrq (h : Fin 4) (lostLock retrained : Bool)
  /-- HPD_LOSS (R404): HPD low for more than 2 ms sets LOSS, and the transmitter becomes NOLINK. -/
  | hpdLoss (h : Fin 4)
  /-- HPD_ARRIVE (R404): A rise of HPD sets ARRIVE. -/
  | hpdArrive (h : Fin 4)
  /-- AUX_TRANSACTION (R410): A write of AUXCTL.GO starts an AUX transaction. -/
  | auxTransaction (r : Req) (h : Fin 4) (v : Nat)
  /-- AUX_DONE (R410): The AUX transaction ends, after its retries, as done or failed. -/
  | auxDone (h : Fin 4) (ok : Bool) (reply n : Nat) (data : Bytes)
  /-- OUTBOUND_WRITE (R418): A write into an outbound window is cut into MWR packets and sent. -/
  | outboundWrite (fromBus : Bool) (addr : Nat) (ro ns : Bool) (data : Bytes)
  /-- OUTBOUND_READ (R420): A read into an outbound window takes tags and sends MRD packets. -/
  | outboundRead (fromBus : Bool) (addr len : Nat) (ro ns : Bool)
  /-- MWR (R426): An inbound MWR is taken into the landing buffer. -/
  | mwr (tid src : Nat) (h : TxbHdr) (data : Bytes)
  /-- POSTED_WRITE_ISSUE (R426): A landed write is issued to the bus in order, and a failure sends PERR. -/
  | postedWriteIssue (busOk : Bool)
  /-- MRD (R421): An inbound MRD waits for its preceding writes and for completion space. -/
  | mrd (tid src : Nat) (h : TxbHdr)
  /-- READ_ISSUE (R422): A read is issued to the bus once its writes have landed and its space is reserved. -/
  | readIssue
  /-- PWAIT_TIMEOUT (R421): Writes not landed within PWAIT.US issue the read anyway and set PW_GAP. -/
  | pwaitTimeout
  /-- BUS_COMPLETION (R423): Data from the bus returns as CPLD packets, or a failure as CPL. -/
  | busCompletion (ok : Bool) (data : Bytes)
  /-- CPLD (R425): Completion data reaches its requester, or is discarded as late. -/
  | cpld (tid : Nat) (h : TxbHdr) (data : Bytes)
  /-- CPL (R423): A completion without data ends its read with its status. -/
  | cpl (tid : Nat) (h : TxbHdr)
  /-- PERR (R430): A posted-error notice sets ESTAT.PERR and loads PERRLOG. -/
  | perr (tid src : Nat) (h : TxbHdr)
  /-- COMPLETION_TIMEOUT (R424): A tag without LAST after CTO completes with an error and enters quarantine. -/
  | completionTimeout (t : Fin 1024)
  /-- QUARANTINE_END (R424): After twice the timeout, a quarantined tag returns to use. -/
  | quarantineEnd (t : Fin 1024)
  /-- SIDEBAND_POLL (R434): Every POLL.PERIOD_US an SBRD is sent, and three unanswered polls set POLL_LOST. -/
  | sidebandPoll
  /-- SBRD (R434): The far bridge answers with SBRSP carrying SBSTAT and its MSI catch bits, which it clears. -/
  | sbrd (tid : Nat) (h : TxbHdr)
  /-- SBRSP (R434): The initiator loads SBFAR, ORs the catch bits into MSIFAR and forwards MSI-X where enabled. -/
  | sbrsp (tid : Nat) (h : TxbHdr) (sbstat catchBits : Nat)
  /-- MSI_CATCH (R435): A 4-byte write to MSICATCH sets a catch bit instead of being forwarded. -/
  | msiCatch (addr data : Nat)
  /-- FUNCTION_LEVEL_RESET (R440): An FLR from the host clears the endpoint's configuration state and sets ESTAT.FLR. -/
  | functionLevelReset
  /-- PCIE_LINK_CHANGE (R449): A change of DL_UP sets ISTAT.LINK, and a fall sets LINK_DOWN. -/
  | pcieLinkChange (up : Bool) (speed width ltssm : Nat)
  /-- MSIX_SEND (R449): A write of MSIXREQ.GO sends the vector to the host. -/
  | msixSend (r : Req) (v : Nat)
  /-- PFPOP (R429): A write of PFPOP removes the oldest posted-error entry. -/
  | pfpop (r : Req)
  /-- MEM_ENABLE (R444): A write of MEM.CFG.EN enables the controller, or is refused while a key is missing. -/
  | memEnable (r : Req) (en : Bool)
  /-- MEM_TRAIN (R452): A write of MPH.TRAIN.GO retrains the memory interface. -/
  | memTrain (r : Req)
  /-- MEM_TRAIN_DONE (R452): Training ends passed or failed. -/
  | memTrainDone (chOk : Nat)
  /-- MEM_WIPE_DONE (R445): The frame-memory wipe ends, the one-time key is discarded and WIPE.DONE is set. -/
  | memWipeDone (ms : Nat)
  /-- MEM_PROMOTE (R442): A low-priority request that has waited PROMOTE_US moves to level 3. -/
  | memPromote (level : Nat)
  /-- ETH_FRAME_RX (R457): A received Ethernet frame is mapped by VLAN and injected into its tunnel, or discarded. -/
  | ethFrameRx (m : Fin 2) (fcsOk : Bool) (room : Option Nat) (frame : Bytes)
  /-- ETH_FRAME_TX (R459): A packet at egress point 10 is matched by ETID and sent on its MAC, tag pushed where set. -/
  | ethFrameTx (tid : Nat) (poison : Bool) (frame : Bytes)
  /-- VMAP_WRITE (R456): A write of VMAP_B applies or refuses the staged VLAN map entry. -/
  | vmapWrite (r : Req) (m : Fin 2) (v : Nat)
  /-- ETH_LINK_CHANGE (R469): A change of MAC link state sets ISTAT.LINK, and a loss sets LINK_LOSS. -/
  | ethLinkChange (m : Fin 2) (up blockLock fecLock : Bool)
  /-- LUME_FRAME_RX (R464): A frame from a lume port is injected into its tunnel, or discarded. -/
  | lumeFrameRx (p : Fin 8) (fcsOk : Bool) (frame : Bytes)
  /-- LUME_FRAME_TX (R465): A LIGHTING packet is sent on its lume port and returns the port to TUNNEL. -/
  | lumeFrameTx (tid : Nat) (frame : Bytes)
  /-- PORT_MAP_WRITE (R464): A write of LMD.P_ETID applies or refuses the port map entry. -/
  | portMapWrite (r : Req) (v : Nat)
  /-- SCENE_ENTRY (R467): A port without tunnel packets for LOSS_MS, or at SOLITAIRE, enters SCENE. -/
  | sceneEntry (p : Fin 8)
  /-- SCENE_REPEAT (R467): Every PERIOD_MS in SCENE the port sends its used scene frames. -/
  | sceneRepeat (p : Fin 8)
  /-- T1L_LINK_CHANGE (R471): A change of 10BASE-T1L link state sets ISTAT.LINK. -/
  | t1lLinkChange (p : Fin 8) (up hi master : Bool) (sqi : Nat) (anFail : Bool)
  /-- UPSTREAM_CHANGE (R477): A change of UPSEL, or an attach or detach, detaches and resets the hub. -/
  | upstreamChange (r : Option Req) (v : Nat)
  /-- UPSTREAM_ATTACH (R477): After SWITCH_MS the hub attaches to the new upstream. -/
  | upstreamAttach (hs : Bool)
  /-- USB_OVERCURRENT (R475): An over-current on ports 1 to 4 unpowers the port and reports it. -/
  | usbOvercurrent (p : Fin 4)
  /-- HUB_SUSPEND (R495): After 3 ms of upstream idle the hub suspends. -/
  | hubSuspend
  /-- DOORBELL (R482): A write of RHA.DB sends the ring's owned descriptors as REQ packets, within the flight limits. -/
  | doorbell (r : Req) (ring : Fin 256)
  /-- REQ (R484): The agent holds a request and runs it on the hub in REQSEQ order. -/
  | req (tid : Nat) (h : UsbReq) (data : Bytes)
  /-- NAK_RETRY (R485): A NAKed transaction is retried at its next opportunity or interval. -/
  | nakRetry (slot : Fin 64)
  /-- USB_TRANSFER_TIMEOUT (R485): TMO_MS elapsing completes the request TIMEOUT. -/
  | usbTransferTimeout (slot : Fin 64)
  /-- USB_TRANSFER_DONE (R486): A transfer at the agent ends, and a CPL is sent up. -/
  | usbTransferDone (slot : Fin 64) (status actual : Nat) (toggle : Bool) (frame : Nat) (data : Bytes)
  /-- CPL_RECEIVED (R486): The session end writes IN data, fills the descriptor with OWN 0 and advances DONE. -/
  | cplReceived (tid : Nat) (c : UsbCpl) (data : Bytes)
  /-- CANCEL (R487): A write of RHA.CANCEL.GO sends a CANCEL for a request. -/
  | cancel (r : Req) (v : Nat)
  /-- CANCEL_RECEIVED (R487): The agent ends the request CANCELLED unless it has completed. -/
  | cancelReceived (tid ring slot reqseq : Nat)
  /-- BUSCTL (R495): A write of RHA.BUSCTL.GO sends a bus reset, suspend or resume. -/
  | busctl (r : Req) (v : Nat)
  /-- BUSCTL_RECEIVED (R495): The agent resets, suspends or resumes the bus and answers EVENT BUS_STATE. -/
  | busctlReceived (tid op : Nat)
  /-- EVENT (R488): An EVENT at the session end loads EVLOG and completes LOST any request below OLDEST. -/
  | event (tid ev bus : Nat) (wake : Bool) (oldest : Nat)
  /-- ALIVE (R488): Every ALIVE_MS the agent sends EVENT ALIVE with OLDEST. -/
  | alive
  /-- AGENT_LOST (R488): No packet for LOST_MS completes the tunnel's requests AGENT_LOST. -/
  | agentLost (tid : Nat)
  /-- REMOTE_WAKE (R496): A remote wake on a suspended bus is answered by the agent with resume and EVENT RESUMED. -/
  | remoteWake (port : Nat)
  /-- SETUP (R491): A SETUP packet at the device function is answered in hardware or passed to firmware. -/
  | setup (bytes : Bytes)
  /-- EP0_GO (R491): A write of EP0CTL.GO hands EP0BUF to hardware for the data stage. -/
  | ep0Go (r : Req) (len : Nat)
  /-- EP0_STALL (R491): A write of EP0CTL.STALL answers STALL until the next SETUP. -/
  | ep0Stall (r : Req)
  /-- STATUS_GO (R491): A write of EP0CTL.STATUS_GO completes the status stage. -/
  | statusGo (r : Req)
  /-- EP0_OUT_PACKET (R491): An EP0 OUT data packet lands in EP0BUF and sets ISTAT.EP0. -/
  | ep0OutPacket (data : Bytes)
  /-- EP1_INGO (R492): A write of EP1CTL.INGO sends the EP1 IN buffer. -/
  | ep1Ingo (r : Req) (len : Nat)
  /-- EP1_OUT_PACKET (R492): An EP1 OUT packet lands and sets OUTFULL. -/
  | ep1OutPacket (data : Bytes)
  /-- EP2_GO (R492): A write of EP2CTL.GO sends the EP2 IN buffer. -/
  | ep2Go (r : Req) (len : Nat)
  /-- WAKE_REQ (R493): A write of UDF.WAKE.REQ drives resume, or is refused. -/
  | wakeReq (r : Req)
  /-- USB_BUS_RESET (R494): A hub or port 7 reset aborts the control transfer and completes the affected requests BUS_RESET. -/
  | usbBusReset (port : Option (Fin 7))
  /-- HOST_RESUME (R497): A host resume is propagated downstream and absorbs any pending remote wake. -/
  | hostResume
  /-- DETECTION (R507): A SOURCE-preferring port runs detection, and an accepted signature closes SOURCE into BOOT. -/
  | detection (p : Fin 8) (r100 : Nat) (accept : Bool)
  /-- CLASP_CLOSURE (R502): A waiting closure is made once the guard mode allows it. -/
  | claspClosure (p : Fin 8)
  /-- CLASP_TRIP (R503): A guard trip opens the clasp switch and takes the port to FAULT. -/
  | claspTrip (p : Fin 8) (cause : TripCause)
  /-- OFFER (R515): The sink answers an OFFER with a REQUEST. -/
  | offer (p : Fin 8) (tok vbus imax pwr : Nat)
  /-- REQUEST (R515): The source answers a REQUEST with ACCEPT or REJECT. -/
  | request (p : Fin 8) (tok ireq pwr : Nat) (arm : Bool)
  /-- ACCEPT (R516): An ACCEPT starts the increase or decrease of the contract. -/
  | accept (p : Fin 8) (tok ireq : Nat) (arm : Bool)
  /-- REJECT (R515): A REJECT leaves the contract as it was. -/
  | reject (p : Fin 8) (tok reason : Nat)
  /-- READY (R516): READY takes the port into CONTRACT with the new current, and it is acknowledged. -/
  | ready (p : Fin 8) (tok icur ilim : Nat)
  /-- LIMIT_LOWER (R516): 20 ms to 25 ms after accepting a decrease, the source lowers I_LIM and sends READY. -/
  | limitLower (p : Fin 8)
  /-- STATUS (R511): A received clasp STATUS is recorded. -/
  | status (p : Fin 8) (tok vbus vcable icable pwr role : Nat)
  /-- STATUS_REQ (R511): A clasp STATUS_REQ is answered with STATUS. -/
  | statusReq (p : Fin 8) (tok : Nat)
  /-- SWAP_REQ (R519): A role-swap request is answered with SWAP_ACK or SWAP_NAK, collisions resolved by the upstream end. -/
  | swapReq (p : Fin 8) (tok pwr : Nat)
  /-- SWAP_ACK (R520): Both ends enter SWAP and run make-before-break or break-before-make. -/
  | swapAck (p : Fin 8) (tok pwr : Nat)
  /-- SWAP_NAK (R522): A refused swap ends, and after a collision the loser may retry later. -/
  | swapNak (p : Fin 8) (tok reason : Nat)
  /-- SRC_ON (R520): On SRC_ON the old source changes to SINK, or acknowledges a fast swap. -/
  | srcOn (p : Fin 8) (tok : Nat) (fast : Bool)
  /-- SRC_OFF (R521): On SRC_OFF the new source proceeds with its closure and offer. -/
  | srcOff (p : Fin 8) (tok : Nat)
  /-- CLASP_ACK (R511): An ACK confirms receipt of the answered clasp message. -/
  | claspAck (p : Fin 8) (tok ctype : Nat)
  /-- CLASP_RETRY (R513): A request unanswered for T_RETRY is resent, and after three resends TIMEOUT is set. -/
  | claspRetry (p : Fin 8)
  /-- T_SWAP_EXPIRY (R523): A swap still open after T_SWAP starts a hard reset. -/
  | tSwapExpiry (p : Fin 8)
  /-- CLASP_SWAP (R519): A write of CLP.CTL.SWAP sends SWAP_REQ. -/
  | claspSwap (r : Req) (p : Fin 8)
  /-- RENEG (R515): A write of CLP.CTL.RENEG sends a new OFFER or REQUEST. -/
  | reneg (r : Req) (p : Fin 8)
  /-- CONTRACT_OPEN (R517): A write of CLP.CTL.OPEN ends the contract, and the cable is bled. -/
  | contractOpen (r : Req) (p : Fin 8)
  /-- SF_ASSERT (R525): A bus below SF_DV makes the source assert SF, and its recovery clears it. -/
  | sfAssert (p : Fin 8)
  /-- FAST_SWAP (R526): An armed sink closes SOURCE within 15 µs of SF or a filtered cable drop. -/
  | fastSwap (p : Fin 8) (bySf : Bool)
  /-- SF_HANDOVER (R527): 20 µs to 25 µs after first sending SF to an armed partner, the source changes to SINK. -/
  | sfHandover (p : Fin 8)
  /-- CLASP_HARD_RESET (R530): A write of CTL.HRESET, or CA received, starts a clasp hard reset and bleeds the cable. -/
  | claspHardReset (r : Option Req) (p : Fin 8)
  /-- HARD_RESET_ELECT (R531): At safe-low the source role is elected, and the elected end closes into BOOT. -/
  | hardResetElect (p : Fin 8)
  /-- BLEED_TIMEOUT (R531): A cable not at safe-low within 25 ms sets BLEED_FAIL. -/
  | bleedTimeout (p : Fin 8)
  /-- TYPEC_ATTACH (R533): A Type-C attach or detach updates roles, may wake the node and changes the hub's port 5 + k. -/
  | typecAttach (k : Fin 2) (attached cc2 sink ufp emark5A frsReady : Bool)
  /-- FAST_ROLE_SWAP (R536): A bus fall or SOLITAIRE makes the port signal Fast Role Swap or remove VBUS. -/
  | fastRoleSwap (k : Fin 2)
  /-- DP_CONFIGURE (R537): DP Configure for pin assignment C or D enters Alt Mode, and capture may start. -/
  | dpConfigure (k : Fin 2) (pinD : Bool)
  /-- PD_HARDRESET (R540): A write of TCP.CTL.HARDRESET sends a PD Hard Reset. -/
  | pdHardreset (r : Req) (k : Fin 2)
  /-- TYPEC_DETACH (R540): A write of TCP.CTL.DETACH goes unattached for 1 s. -/
  | typecDetach (r : Req) (k : Fin 2)
  /-- HPD_CHANGE (R537): A change of DCP.CTL.HPD is sent as DP Status Update or Attention. -/
  | hpdChange (r : Req) (k : Fin 2) (hpd : Bool)
  /-- LPO_DETECT (R552): A detection accepts the signature and proceeds, or fails after 5 ms. -/
  | lpoDetect (n : Fin 8) (r100 : Nat) (valid : Bool)
  /-- DETECT_REPEAT (R554): 450 ms to 550 ms after a failed detection, the output detects again. -/
  | detectRepeat (n : Fin 8)
  /-- CLASSIFY (R552): SCCP classification powers classes 13 to 15 and refuses others or no answer within 20 ms. -/
  | classify (n : Fin 8) (cls : Option Nat)
  /-- RAMP_DONE (R552): The gate reaches fully on, the output enters ON, and power-good may assert. -/
  | rampDone (n : Fin 8)
  /-- RAMP_TIMEOUT (R543): A gate not fully on within RAMP_MS trips the fuse with cause RAMP. -/
  | rampTimeout (n : Fin 8)
  /-- CURRENT_LIMIT (R543): Output current reaching I_LIM regulates the gate and starts the fault timer. -/
  | currentLimit (n : Fin 8) (limiting : Bool)
  /-- FAULT_TIMER_EXPIRY (R543): The fault timer reaching FAULT_US trips and latches the output with cause OC. -/
  | faultTimerExpiry (n : Fin 8)
  /-- HARD_SHORT (R543): Current above 2 × I_LIM pulls the gate within 1 µs and latches with cause SHORT. -/
  | hardShort (n : Fin 8)
  /-- PG_HOLD_EXPIRY (R546): Power-good drops once PG_HOLD_US passes during limiting. -/
  | pgHoldExpiry (n : Fin 8)
  /-- OVERLOAD_CHECK (R555): Every 10 ms PAVG and VAAVG are updated, and an excess trips with cause OVERLOAD. -/
  | overloadCheck (n : Fin 8) (pavg vaavg joules : Nat)
  /-- FUSE_LIMIT_WRITE (R548): A write of ILIM or TIMER.FAULT_US is applied, or refused when E_BOUND exceeds ELIM. -/
  | fuseLimitWrite (r : Req) (n : Fin 8) (timer : Bool) (v : Nat)
  /-- BUS_UNDERVOLT (R557): VBUS below UV_DV for 100 µs sets UV. -/
  | busUndervolt (mv : Nat)
  /-- BUS_OVERVOLT (R557): VBUS above OV_DV opens every active lume output within 2 µs. -/
  | busOvervolt (mv : Nat)
  /-- BUS_OV_CLEAR (R557): VBUS below OV_DV − 1.0 V for 100 ms clears the OV cause. -/
  | busOvClear (mv : Nat)
  /-- BUS_SHED (R559): VBUS below SHED_DV for 1 ms opens the sheddable outputs. -/
  | busShed (mv : Nat)
  /-- SHED_CLEAR (R559): VBUS above SHED_DV + 1.0 V for 1 s clears the SHED cause. -/
  | shedClear (mv : Nat)
  /-- EMERGENCY_CHANGE (R560): A change of the emergency condition opens non-emergency outputs or releases them. -/
  | emergencyChange (batt : Bool)
  /-- WAIT_EXIT (R562): An output with no WAIT cause leaves WAIT in port order, 50 ms after the last. -/
  | waitExit
  /-- ENERGY_CLEAR (R556): A write of LPO.CNTCLR.ECLR clears ENERGY. -/
  | energyClear (r : Req) (n : Fin 8)
  /-- VOTE_WRITE (R570): A write of a vote register changes the domains on, or is ignored as foreign. -/
  | voteWrite (r : Req) (client : Fin 6) (v : Nat)
  /-- HARDWARE_VOTE (R570): A change of the lume or USB hardware vote changes the domains on. -/
  | hardwareVote
  /-- DRAIN_TIMEOUT (R574): A drain not finished within 100 µs discards the cells left and continues the power-down. -/
  | drainTimeout (d : Fin 12) (left : List Nat)
  /-- DOMAIN_RESET (R575): The domain's power-good is seen, the domain reset applies and the Kept fields are restored. -/
  | domainReset (d : Fin 12) (crcOk : Bool)
  /-- DOMAIN_READY (R575): Zero-fill ends, isolation is released and each page reports READY. -/
  | domainReady (d : Fin 12)
  /-- DOMAIN_FAIL (R575): No power-good within 500 µs leaves the domain off and sets DOMAIN_FAIL. -/
  | domainFail (d : Fin 12)
  /-- STATE_REQUEST (R581): A write of PDM.STATE.TARGET is refused, latched or starts a node state transition. -/
  | stateRequest (r : Req) (target : Nat)
  /-- TRANSITION_DONE (R582): A node state transition ends, and the latest latched target is evaluated. -/
  | transitionDone (us : Nat)
  /-- MAIN_PG_RISE (R587): MAIN_PG rising lets PDM turn on the voted main-rail domains. -/
  | mainPgRise
  /-- MAIN_PG_LOSS (R698): MAIN_PG low for 10 µs, or not risen within 50 ms, is a main-supply brown-out. -/
  | mainPgLoss
  /-- CORE_PG_LOSS (R588): CORE's power-good lost while on is a core-domain failure and enters SOLITAIRE. -/
  | corePgLoss
  /-- THERMAL_TRIP (R701): The junction above the trip level sets THERM_TRIP and enters SOLITAIRE. -/
  | thermalTrip
  /-- AON_BROWNOUT (R594): The always-on supply below its level writes a brown-out mark and resets the node as POR. -/
  | aonBrownout
  /-- MGP_ADDRESS_MATCH (R596): The clockless comparator matches the address while MGMT is off and raises a wake. -/
  | mgpAddressMatch (addr : Nat)
  /-- GPIO_WAKE (R595): An enabled AON wake input raises a wake. -/
  | gpioWake (g : Fin 8)
  /-- AON_TIMER_MATCH (R598): The AON timer equal to TCMP raises a wake. -/
  | aonTimerMatch
  /-- USB_RESUME_DETECT (R599): A line-state detector seeing resume on a suspended port holds it and raises a wake. -/
  | usbResumeDetect (p : Fin 6)
  /-- BOOT_START (R625): With MGMT ready the boot ROM forms the root, checks bundle and image, runs any copy and starts Fjarosh. -/
  | bootStart (pufOk : Bool) (corr : Nat)
  /-- KEY_GEN (R613): GEN fills the destination slot from the random source. -/
  | keyGen (r : Req) (v : Nat)
  /-- DERIVE (R610): DERIVE fills the destination slot with an HKDF key. -/
  | derive (r : Req) (v : Nat)
  /-- ECDH_GEN (R613): ECDH_GEN makes an ephemeral P-384 pair, or selects the static pair, and places its public key in PUB. -/
  | ecdhGen (r : Req) (v : Nat)
  /-- ECDH (R613): ECDH loads the agreement register from the peer key and destroys the ephemeral private key. -/
  | ecdh (r : Req) (v : Nat)
  /-- UNWRAP (R613): UNWRAP decrypts a wrapped key into the destination slot. -/
  | unwrap (r : Req) (v : Nat)
  /-- SEAL (R621): SEAL writes the key into the other copy, checks it, and switches the marker. -/
  | seal (r : Req) (v : Nat)
  /-- UNSEAL (R623): UNSEAL loads the slot from the marked copy after checking its tag. -/
  | unseal (r : Req) (v : Nat)
  /-- KEY_CLEAR (R613): CLEAR empties the destination slot. -/
  | keyClear (r : Req) (v : Nat)
  /-- ERASE (R621): ERASE writes the record's marker with VALID 0. -/
  | erase (r : Req) (v : Nat)
  /-- KEY_OP_DONE (R614): A key operation ends with CSTAT.DONE and its code, and sets ISTAT.DONE. -/
  | keyOpDone (storeOk : Bool)
  /-- SLOT_LOCK (R615): A write of KEY.LOCKSET locks slots until they are next emptied. -/
  | slotLock (r : Req) (v : Nat)
  /-- MEASUREMENT_EXTEND (R609): A write of KEY.MEXT from MCPU extends M5 with DATA, or is refused. -/
  | measurementExtend (r : Req)
  /-- UPDATE_START (R629): A write of UPD.CTL.START clears any armed record and begins landing. -/
  | updateStart (r : Req) (bundle : Bool)
  /-- BLOCK_DATA_WRITE (R629): A write of BLKDATA appends one block word. -/
  | blockDataWrite (r : Req) (v : Nat)
  /-- BLOCK_LAND (R629): A write of BLK.GO checks the block's CRC and erases, programs and reads it back. -/
  | blockLand (r : Req) (num : Nat)
  /-- BLOCK_LAND_DONE (R629): The block landing ends with its code, and LANDED is reached after the last block. -/
  | blockLandDone (flashOk : Bool)
  /-- VERIFY (R630): A write of UPD.CTL.VERIFY checks the staged header, signature, digest and SVN. -/
  | verify (r : Req)
  /-- VERIFY_DONE (R630): Verification ends VERIFIED or FAILED. -/
  | verifyDone
  /-- ACTIVATE (R631): A write of UPD.CTL.ACTIVATE arms an image or switches the bundle marker. -/
  | activate (r : Req)
  /-- UPDATE_ABORT (R633): A write of UPD.CTL.ABORT clears the update record and returns to IDLE. -/
  | updateAbort (r : Req)
  /-- SVNCOMMIT (R633): A write of UPD.CTL.SVNCOMMIT blows fuses up to the active image's SVN. -/
  | svncommit (r : Req)
  /-- BUNDLE_DECRYPT (R637): A write of BDEC.GO decrypts a bundle section into the clear buffer. -/
  | bundleDecrypt (r : Req) (v : Nat)
  /-- BUNDLE_DECRYPT_DONE (R637): The bundle decryption ends done, or failed with a cleared buffer. -/
  | bundleDecryptDone
  /-- BDEC_CLR (R637): A write of BDEC.CLR zero-fills the clear buffer. -/
  | bdecClr (r : Req)
  /-- ACCESS_ENTRY_WRITE (R643): A write of ACT1.EW7 applies the staged access table entry, or is refused. -/
  | accessEntryWrite (r : Req) (v : Nat)
  /-- ACCESS_SYNC (R648): A read of ACT.SYNC returns once every access accepted before the last entry write has completed. -/
  | accessSync (r : Req)
  /-- DEBUG_UNLOCK (R650): A write of DBG.CTL.UNLOCK checks the token and unlocks, or counts a failure. -/
  | debugUnlock (r : Req)
  /-- RELOCK (R650): A write of DBG.CTL.RELOCK ends the unlock. -/
  | relock (r : Req)
  /-- FAULT_INJECT (R655): A write of DBG.FI.GO injects one fault in TEST, or is refused. -/
  | faultInject (r : Req) (v : Nat)
  /-- DEBUG_ACCESS (R715): An access of the debug master is checked under the debug rules and answered with data, flag and code. -/
  | debugAccess (write : Bool) (addr size v : Nat)
  /-- LIFE_CYCLE_CHANGE (R656): A write of LCS.CTL.GO starts an allowed life-cycle change, or refuses it. -/
  | lifeCycleChange (r : Req)
  /-- LIFE_CYCLE_WIPE_DONE (R657): Fuses are blown and the config store is wiped, and HRST follows. -/
  | lifeCycleWipeDone (fuseOk : Bool) (straps : Nat)
  /-- LOCKET_WRITE (R661): A queued locket record is sealed and written into the ring. -/
  | locketWrite (storeOk : Bool)
  /-- LOCKET_FIRMWARE_RECORD (R660): A write of LKT.WCTL.GO queues WDATA as a firmware record. -/
  | locketFirmwareRecord (r : Req) (v : Nat)
  /-- LOCKET_READ (R663): A write of LKT.RSEQ loads that record into RDATA with its tag state. -/
  | locketRead (r : Req) (seq : Nat)
  /-- MARKCLR (R662): A write of LKT.CTL.MARKCLR clears the brown-out mark. -/
  | markclr (r : Req)
  /-- TELEMETRY_SNAPSHOT (R664): A write of SNAP.GO copies the sources into TEL1 and sends it where enabled. -/
  | telemetrySnapshot (r : Req)
  /-- TELEMETRY_PERIOD (R664): Every CFG.PERIOD_MS a snapshot is taken, or skipped with OVERRUN. -/
  | telemetryPeriod
  /-- TEL_SNAP (R666): A TEL_SNAP message takes a snapshot and is answered with TEL_ACK. -/
  | telSnap (src tok : Nat)
  /-- LKT_RD (R666): An LKT_RD message is answered with LKT_RSP carrying the record. -/
  | lktRd (src tok seq : Nat)
  /-- IDENT (R679): Tsudy IDENT is answered in hardware with identity and state. -/
  | ident (seq : Nat)
  /-- GETKEY (R679): Tsudy GETKEY is answered by MCPU with the static public key. -/
  | getkey (seq : Nat)
  /-- OPEN (R683): Tsudy OPEN closes any session, and Fjarosh answers SID and its ephemeral key. -/
  | openSess (seq keyIdx : Nat) (toolKey : Bytes)
  /-- AUTH (R683): Tsudy AUTH stores one chunk of signature and public key. -/
  | auth (seq chunk : Nat) (data : Bytes)
  /-- AUTH_GO (R683): Tsudy AUTH_GO verifies the tool and derives the session key, or answers AUTH_FAIL. -/
  | authGo (seq : Nat)
  /-- CLOSE (R684): Tsudy CLOSE ends the session. -/
  | close (f : TsudyFrame)
  /-- RD (R682): Tsudy RD reads up to 12 words as master MGP. -/
  | rd (f : TsudyFrame)
  /-- WR (R682): Tsudy WR writes up to 12 consecutive words as master MGP. -/
  | wr (f : TsudyFrame)
  /-- WRF (R682): Tsudy WRF writes up to 12 words to one offset. -/
  | wrf (f : TsudyFrame)
  /-- RESPONSE_READ (R680): A Block Read returns BUSY or the ready response, repeatably. -/
  | responseRead
  /-- SMBUS_TIMEOUT (R673): SCL held low for 25 ms to 35 ms abandons the transfer. -/
  | smbusTimeout
  /-- MCPU_OP_TIMEOUT (R680): An MCPU operation not completed within 10 ms ends MCPU_DOWN. -/
  | mcpuOpTimeout
  /-- SESSION_IDLE (R684): IDLE_S seconds without an accepted request close the session. -/
  | sessionIdle
  /-- SESSION_CLOSE (R684): A write of MGP.CTL.CLOSE closes the session. -/
  | sessionClose (r : Req)
  /-- AUTH_ACCEPT (R689): A write of AUTHCTL.ACCEPT answers the pending MCPU operation with REPLY. -/
  | authAccept (r : Req)
  /-- AUTH_REJECT (R689): A write of AUTHCTL.REJECT answers the pending operation with REFUSED or AUTH_FAIL. -/
  | authReject (r : Req)
  /-- CLAIM_TAKE (R688): A write of MGP.CLAIM.TAKE records the writer as owner when the claim is free. -/
  | claimTake (r : Req)
  /-- CLAIM_RELEASE (R688): A write of MGP.CLAIM.RELEASE by the owner clears the claim. -/
  | claimRelease (r : Req)
  /-- NODE_TIME_SET (R705): A write of TOP.NTCTL.SET loads NTSET into node time at the next CD2 cycle. -/
  | nodeTimeSet (r : Req)
  /-- BALL_FUNCTION_WRITE (R712): A write of GPX.BFUNC claims, changes or releases a ball function, or records a conflict. -/
  | ballFunctionWrite (r : Req) (v : Nat)
  /-- TIMER_CLAIM (R713): A write of TMR.TCLAIM.CLAIM takes a free timer for the writer. -/
  | timerClaim (r : Req) (v : Nat)
  /-- TIMER_RELEASE (R713): A write of TMR.TCLAIM.RELEASE by the holder frees the timer and clears EN. -/
  | timerRelease (r : Req)
  /-- TIMER_EXPIRY (R714): A general timer reaches 0, sets its ISTAT bit and reloads or stops. -/
  | timerExpiry (t : Fin 16)
  /-- TIMER_CAPTURE (R714): A rising edge on a capture timer's ball loads TCAP. -/
  | timerCapture (t : Fin 16)
  /-- XTAL_START (R704): The AON crystal completes its start-up, CLK.REFSTAT.XTAL_OK sets and CD0 moves from the RC oscillator to the crystal. -/
  | xtalStart
  /-- PLL_LOCK (R84): A PLL that has been enabled or powered reaches first lock, releasing its outputs, as PLL_SYS does at start to let MGMT turn on and start node time. -/
  | pllLock (pll : Fin 13)
  /-- CAPTURE_LINK_TRAIN (R353): The laptop trains the captured DisplayPort main link, which the sink answers in hardware, setting DCP.LINK or TRAIN_FAIL. -/
  | captureLinkTrain (d : Fin 2) (ok : Bool) (rate lanes hact vact pclk bpc : Nat)
  /-- PCIE_MESSAGE (R433): An AER, INTx or PME message from below the root port sets PCI.AERRX and ISTAT.AERRX and the sticky SBSTAT bits. -/
  | pcieMessage (m : PcieMsg)
  /-- HOST_CONFIG_WRITE (R449): A host configuration write changes Bus Master Enable or MSI-X enable, changing whether the bridge answers CA and whether MSI-X may be sent. -/
  | hostConfigWrite (bme msix : Bool)
  /-- PERST_CHANGE (R707): PCIE_PERST_N rising in endpoint mode lets the endpoint train its link. -/
  | perstChange (high : Bool)
  /-- MR4_READ (R451): A temperature reading from the LPDDR5X MR4 derates refresh and sets MEM.ESTAT.TEMP_HIGH above the derating range. -/
  | mr4Read (code : Nat) (aboveRange : Bool)
  /-- WCK_TRACKING (R452): Every MPH.TRACK.PERIOD_MS the WCK-to-DQ tracking runs and sets DRIFT when a trim moves beyond a quarter of its range. -/
  | wckTracking (b : Fin 8) (rdly wdly vref : Nat)
  /-- PD_MESSAGE (R534): A USB Power Delivery message from the Type-C partner, such as a Request, DR_Swap, PR_Swap, VCONN_Swap or a VDM, is answered and may change the contract, data role or Alt Mode. -/
  | pdMessage (k : Fin 2) (m : PdMsg)
  /-- VBUS_FAULT (R541): A VBUS over-voltage or over-current, VCONN over-current, CC over-voltage, or a converter that misses the contracted voltage sets its TCP.ESTAT bit. -/
  | vbusFault (k : Fin 2) (f : VbusFault)
  /-- LOCAL_SUPPLY_CHANGE (R557): The LOCAL_PG ball changes, BUS.STAT.LOCAL follows and each clasp port's POWER_OK and arming are re-evaluated. -/
  | localSupplyChange (pg : Bool)
  /-- HUB_REQUEST (R475): The upstream host sends a hub class request, such as port power, enable or reset, which the hub carries out. -/
  | hubRequest (q : HubReq)
  /-- DEVICE_CONNECT (R498): A device connects to or disconnects from a downstream hub port, changing PORTSTAT and setting ISTAT.PORTCHG. -/
  | deviceConnect (port : Fin 7) (connected : Bool) (speed : Nat)
  /-- IN_TRANSACTION (R492): The host's IN token takes a buffer handed to hardware on EP0, EP1 or EP2, sends the packet and sets its ISTAT bit. -/
  | inTransaction (ep : Fin 3)
  deriving DecidableEq, Repr

end Sys2Proof
end

