-- ==== Sys2Proof/Machine/Tab.lean ====
section
/-! DEFINITION. Sparse tables: a list of key and value pairs in one canonical form, with the keys strictly rising
and no entry equal to what an unlisted key reads as. Registers, table windows, frame memory, the config store and
the hidden state of every block that the spec numbers (ports, lanes, tags, slots ...) are such tables. -/

namespace Sys2Proof.Machine

/-- A sparse table from numbers to `α`. -/
abbrev Tab (α : Type) := List (Nat × α)

/-- What key `k` reads as: the listed value, or `d` where the key is not listed. -/
def Tab.get {α : Type} (d : α) (k : Nat) : Tab α → α
  | [] => d
  | (k', v) :: m => if k' = k then v else Tab.get d k m

/-- The value listed at key `k`, if any. -/
def Tab.find {α : Type} (k : Nat) : Tab α → Option α
  | [] => none
  | (k', v) :: m => if k' = k then some v else Tab.find k m

/-- Whether key `k` is listed. -/
def Tab.has {α : Type} (k : Nat) : Tab α → Bool
  | [] => false
  | (k', _) :: m => if k' = k then true else Tab.has k m

/-- `k` removed. -/
def Tab.del {α : Type} (k : Nat) : Tab α → Tab α
  | [] => []
  | (k', v) :: m => if k' = k then m else (k', v) :: Tab.del k m

/-- `v` listed at `k`, in rising order of the keys. -/
def Tab.ins {α : Type} (k : Nat) (v : α) : Tab α → Tab α
  | [] => [(k, v)]
  | (k', v') :: m =>
    if k < k' then (k, v) :: (k', v') :: m
    else if k = k' then (k, v) :: m
    else (k', v') :: Tab.ins k v m

/-- `v` written at `k`: the value an unlisted key reads as removes the entry. -/
def Tab.put {α : Type} [DecidableEq α] (d : α) (k : Nat) (v : α) (m : Tab α) : Tab α :=
  if v = d then Tab.del k m else Tab.ins k v m

/-- The keys of a table. -/
def Tab.keys {α : Type} (m : Tab α) : List Nat := m.map Prod.fst

/-- The keys rise strictly. -/
abbrev Tab.Sorted {α : Type} (m : Tab α) : Prop := (Tab.keys m).Pairwise (· < ·)

/-- The canonical form of a table whose unlisted keys read as `d`. -/
abbrev Tab.Wf {α : Type} (d : α) (m : Tab α) : Prop := Tab.Sorted m ∧ ∀ p ∈ m, p.2 ≠ d

/-- The values `f k` of a run of `n` keys from `k`, written into a table. -/
def Tab.putRun {α : Type} [DecidableEq α] (d : α) (k : Nat) : List α → Tab α → Tab α
  | [], m => m
  | v :: vs, m => Tab.putRun d (k + 1) vs (Tab.put d k v m)

/-- The values of a run of `n` keys from `k`. -/
def Tab.getRun {α : Type} (d : α) (k : Nat) : Nat → Tab α → List α
  | 0, _ => []
  | n + 1, m => Tab.get d k m :: Tab.getRun d (k + 1) n m

/-- The keys outside `[lo, hi)` are kept, the others read as unlisted. -/
def Tab.wipe {α : Type} (lo hi : Nat) (m : Tab α) : Tab α := m.filter fun p => p.1 < lo || hi ≤ p.1

end Sys2Proof.Machine
end

