-- ==== Sys2Proof/Machine/Reg.lean ====
section
/-! DEFINITION. What a register field is (R6, R7, R36, R48): where it lies, how it is accessed, what it resets to. -/

namespace Sys2Proof.Machine

/-- The access codes of R7; `hid` is the model's own mark of a piece of block state that the spec names and that no
register shows. -/
inductive Acc
  | rw | ro | w1c | w1s | wo | rws | rwl | rwo | hid
  deriving DecidableEq, Repr

/-- What the Reset column gives (R48): a number, hardware state, the configuration store, a strap, or a table of
another rule by class or point. -/
inductive Src
  | num | hw | cfg | strap | table
  deriving DecidableEq, Repr

/-- A register field. `pg` is the page index of instance 0, `off` the byte offset in the page (R30), `lo` the lowest
bit and `w` the width. Offsets from 0x1000 on are no window offsets: they name hidden state of the block. -/
structure Fld where
  pg : Nat
  off : Nat
  lo : Nat
  w : Nat
  acc : Acc
  rst : Nat
  src : Src
  kept : Bool
  deriving DecidableEq, Repr

/-- Hidden state at place `n` of the block of page `pg`: 64 bits wide, `rst` at reset. -/
def Fld.hidden (pg n : Nat) (rst : Nat := 0) : Fld := ⟨pg, 0x1000 + n, 0, 64, .hid, rst, .num, false⟩

/-- Word `j` of a register that the spec lists as a run of words; no run leaves its page of 1024 words. -/
def Fld.word (F : Fld) (j : Nat) : Fld := { F with off := F.off + 4 * (j % 1024) }

/-- The key of field `F` in instance `i` of its page, in bank `b` of its selector (0 where it has none). The block's
page, the offset and the lowest bit have places of their own, so that different fields never share a key. -/
def Fld.key (F : Fld) (i b : Nat) : Nat := ((b * 1024 + i) * 1024 + F.pg) * 2 ^ 18 + F.off * 32 + F.lo

/-- The page index of a key. -/
def keyPage (k : Nat) : Nat := k / 2 ^ 18 % 1024 + k / 2 ^ 28 % 1024

/-- The bank of a key. -/
def keyBank (k : Nat) : Nat := k / 2 ^ 38

/-- The offset of a key. -/
def keyOff (k : Nat) : Nat := k / 32 % 8192

/-- The lowest bit of a key. -/
def keyLo (k : Nat) : Nat := k % 32

/-! ### Kinds of state -/

/-- The kind of a register of the common header (R36), by its offset and its lowest bit: 240 LOCK; 229 PCTL and what PSTAT reports
of readiness; 228 CPEND; 227 EEN, ESC and IEN; 254 ESTAT, ECAP, ISTAT and the escalation. -/
def headKind (off lo : Nat) : Nat :=
  bif Nat.beq off 0x38 || Nat.beq off 0x1800 then 240
  else bif Nat.beq off 8 || Nat.beq off 0x1814 then 229
  else bif Nat.beq off 0xC then (bif Nat.beq lo 2 then 228 else 229)
  else bif Nat.beq off 0x14 || Nat.beq off 0x2C || Nat.beq off 0x34 then 227
  else 254

/-- The kind of the register at a key, for statements about what a command leaves alone: the page index of its block's instance 0
(R34); the kinds of `headKind` for the common header of every page; and a kind of its own for LCS.STATE, KEY.FUSE,
DBG.STAT, PDM.STATE, PDM.DOMON, CAS.EPOCH, UPD.STAT, OPT.STAT, CAS.NODEID and AON.BOOTCAUSE. -/
def keyKind (k : Nat) : Nat :=
  let pg := k / 2 ^ 18 % 1024
  let off := k / 32 % 8192
  bif Nat.beq pg 0 && (Nat.blt off 0x100 || Nat.ble 0x1800 off) then headKind off (k % 32)
  else bif Nat.beq pg 0xB && Nat.beq off 0x100 then 230
  else bif Nat.beq pg 0xE && Nat.beq off 0x204 then 231
  else bif Nat.beq pg 0xC && Nat.beq off 0x104 then 232
  else bif Nat.beq pg 4 && Nat.beq off 0x100 then 233
  else bif Nat.beq pg 4 && Nat.beq off 0x120 then 234
  else bif Nat.beq pg 0x68 && Nat.beq off 0x11C then 235
  else bif Nat.beq pg 0xF && Nat.beq off 0x104 then 236
  else bif Nat.beq pg 0x10 && Nat.beq off 0x108 then 237
  else bif Nat.beq pg 0x68 && Nat.beq off 0x110 then 238
  else bif Nat.beq pg 3 && Nat.beq off 0x130 then 239
  else pg

/-- The kind of a field. -/
def Fld.kind (F : Fld) : Nat := keyKind (F.key 0 0)

end Sys2Proof.Machine
end

