-- ==== Sys2Proof/Machine/RegMapA.lean ====
section
/-! DEFINITION. Register fields, one definition for each row of the register tables of the spec: the common header, and the pages of chapters 3 to 10. -/

namespace Sys2Proof.Machine

/-- PCTL_EN (R36): Block enable. -/
def HDR.PCTL_EN : Fld := ⟨0x0, 0x8, 0, 1, .rw, 0, .num, true⟩
/-- PCTL_SRST (R36): Soft reset of the block (class SRST). -/
def HDR.PCTL_SRST : Fld := ⟨0x0, 0x8, 1, 1, .w1s, 0, .num, false⟩
/-- PSTAT_READY (R36): Block has finished reset or restore and accepts work. -/
def HDR.PSTAT_READY : Fld := ⟨0x0, 0xC, 0, 1, .ro, 0, .num, false⟩
/-- PSTAT_DOM_ON (R36): The block's power domain is on (kept equal to PDM.DOMON). -/
def HDR.PSTAT_DOM_ON : Fld := ⟨0x0, 0xC, 1, 1, .ro, 0, .num, false⟩
/-- PSTAT_CPEND (R36): A commit is pending. -/
def HDR.PSTAT_CPEND : Fld := ⟨0x0, 0xC, 2, 1, .ro, 0, .num, false⟩
/-- ESTAT (R36): Block-specific error bits [30:0] and [31] SHADOW_BUSY. -/
def HDR.ESTAT : Fld := ⟨0x0, 0x10, 0, 32, .w1c, 0, .num, false⟩
/-- EEN (R36): Enable per ESTAT bit. -/
def HDR.EEN : Fld := ⟨0x0, 0x14, 0, 32, .rw, 0, .num, true⟩
/-- ECAP_ADDR_LO (R36): Captured address, low word. -/
def HDR.ECAP_ADDR_LO : Fld := ⟨0x0, 0x18, 0, 32, .ro, 0, .num, false⟩
/-- ECAP_ADDR_HI (R36): Captured address, high word. -/
def HDR.ECAP_ADDR_HI : Fld := ⟨0x0, 0x1C, 0, 32, .ro, 0, .num, false⟩
/-- ECAP_MASTER (R36): Master ID of the captured access. -/
def HDR.ECAP_MASTER : Fld := ⟨0x0, 0x20, 0, 5, .ro, 0, .num, false⟩
/-- ECAP_ATYPE (R36): Access type. -/
def HDR.ECAP_ATYPE : Fld := ⟨0x0, 0x20, 5, 3, .ro, 0, .num, false⟩
/-- ECAP_CODE (R36): Error code. -/
def HDR.ECAP_CODE : Fld := ⟨0x0, 0x20, 8, 8, .ro, 0, .num, false⟩
/-- ECAP_VALID (R36): A capture is held. -/
def HDR.ECAP_VALID : Fld := ⟨0x0, 0x20, 31, 1, .ro, 0, .num, false⟩
/-- ECAP_TIME_LO (R36): Node time of the capture in ns, low word. -/
def HDR.ECAP_TIME_LO : Fld := ⟨0x0, 0x24, 0, 32, .ro, 0, .num, false⟩
/-- ECAP_TIME_HI (R36): Node time of the capture in ns, high word. -/
def HDR.ECAP_TIME_HI : Fld := ⟨0x0, 0x28, 0, 32, .ro, 0, .num, false⟩
/-- ESC_TIME (R36): Escalation timeout in µs; 0 disables escalation. -/
def HDR.ESC_TIME : Fld := ⟨0x0, 0x2C, 0, 20, .rw, 0, .num, true⟩
/-- ESC_CEIL (R36): Highest escalation stage allowed, 0 to 3. -/
def HDR.ESC_CEIL : Fld := ⟨0x0, 0x2C, 20, 2, .rw, 0, .num, true⟩
/-- ISTAT (R36): Block-specific interrupt bits [30:0] and [31] ERR. -/
def HDR.ISTAT : Fld := ⟨0x0, 0x30, 0, 32, .w1c, 0, .num, false⟩
/-- IEN (R36): Enable per ISTAT bit. -/
def HDR.IEN : Fld := ⟨0x0, 0x34, 0, 32, .rw, 0, .num, true⟩
/-- LOCK_LCFG (R36): Locks every RWL field of the page. -/
def HDR.LOCK_LCFG : Fld := ⟨0x0, 0x38, 0, 1, .rwo, 0, .num, false⟩
/-- LOCK_LHDR (R36): Locks EEN, ESC and IEN. -/
def HDR.LOCK_LHDR : Fld := ⟨0x0, 0x38, 1, 1, .rwo, 0, .num, false⟩
/-- LOCK_LBLK (R36): Block-specific lock groups. -/
def HDR.LOCK_LBLK : Fld := ⟨0x0, 0x38, 2, 14, .rwo, 0, .num, false⟩
/-- COMMIT_GO (R36): Requests that the shadowed values take effect. -/
def HDR.COMMIT_GO : Fld := ⟨0x0, 0x3C, 0, 1, .w1s, 0, .num, false⟩

/-- Fields of the HDR page with their word counts, part 0. -/
def HDR.part0 : List (Fld × Nat) :=
  [(HDR.PCTL_EN, 1),
   (HDR.PCTL_SRST, 1),
   (HDR.PSTAT_READY, 1),
   (HDR.PSTAT_DOM_ON, 1),
   (HDR.PSTAT_CPEND, 1),
   (HDR.ESTAT, 1),
   (HDR.EEN, 1),
   (HDR.ECAP_ADDR_LO, 1),
   (HDR.ECAP_ADDR_HI, 1),
   (HDR.ECAP_MASTER, 1),
   (HDR.ECAP_ATYPE, 1),
   (HDR.ECAP_CODE, 1),
   (HDR.ECAP_VALID, 1),
   (HDR.ECAP_TIME_LO, 1),
   (HDR.ECAP_TIME_HI, 1),
   (HDR.ESC_TIME, 1)]
/-- Fields of the HDR page with their word counts, part 1. -/
def HDR.part1 : List (Fld × Nat) :=
  [(HDR.ESC_CEIL, 1),
   (HDR.ISTAT, 1),
   (HDR.IEN, 1),
   (HDR.LOCK_LCFG, 1),
   (HDR.LOCK_LHDR, 1),
   (HDR.LOCK_LBLK, 1),
   (HDR.COMMIT_GO, 1)]
/-- Every field of the HDR page, with the number of its words. -/
def HDR.all : List (Fld × Nat) := HDR.part0 ++ HDR.part1

/-- REFSTAT.REF_OK (R83): REFCLK present and within 300 ppm. -/
def CLK.REFSTAT_REF_OK : Fld := ⟨0x1, 0x100, 0, 1, .ro, 1, .hw, false⟩
/-- REFSTAT.XTAL_OK (R83): AON crystal running. -/
def CLK.REFSTAT_XTAL_OK : Fld := ⟨0x1, 0x100, 1, 1, .ro, 0, .hw, false⟩
/-- REFSTAT.AON_RC (R83): 1: CD0 runs from the RC oscillator. -/
def CLK.REFSTAT_AON_RC : Fld := ⟨0x1, 0x100, 2, 1, .ro, 1, .hw, false⟩
/-- PLLEN.EN (R83): Enable per PLL: [0] SYS, [1] MEM, [2] PCIE, [3] ETH, [4] USB, [8:5] LANE0–LANE3, [12:9] PIX0–PIX3. Bit 0 cannot be cleared. Hardware sets bit 9 + n when head n leaves OFF and clears it when the head enters OFF (R391). Writes to bits [12:9] are ignored.. -/
def CLK.PLLEN_EN : Fld := ⟨0x1, 0x104, 0, 13, .rw, 511, .num, true⟩
/-- PLLSTAT.LOCK (R83): Lock per PLL, bits as PLLEN. -/
def CLK.PLLSTAT_LOCK : Fld := ⟨0x1, 0x108, 0, 13, .ro, 0, .hw, false⟩
/-- GATE.HEAD (R83): Pixel clocks of DHD0–DHD3; 1: clock runs (R81). -/
def CLK.GATE_HEAD : Fld := ⟨0x1, 0x110, 0, 4, .rw, 15, .num, true⟩
/-- GATE.CAP (R83): Capture clocks of DCP0–DCP1. -/
def CLK.GATE_CAP : Fld := ⟨0x1, 0x110, 4, 2, .rw, 3, .num, true⟩
/-- GATE.TILE (R83): Tile engine DTL. -/
def CLK.GATE_TILE : Fld := ⟨0x1, 0x110, 6, 1, .rw, 1, .num, true⟩
/-- GATE.ETH (R83): ETH0–ETH1. -/
def CLK.GATE_ETH : Fld := ⟨0x1, 0x110, 7, 2, .rw, 3, .num, true⟩
/-- GATE.USB (R83): USB, UDF and RHA. -/
def CLK.GATE_USB : Fld := ⟨0x1, 0x110, 9, 1, .rw, 1, .num, true⟩
/-- GATE.LUME (R83): LMD and LMP0–LMP7. -/
def CLK.GATE_LUME : Fld := ⟨0x1, 0x110, 10, 1, .rw, 1, .num, true⟩
/-- GATE.PCIE (R83): PCI and PPH. -/
def CLK.GATE_PCIE : Fld := ⟨0x1, 0x110, 11, 1, .rw, 1, .num, true⟩
/-- GATE.MEM (R83): MEM and MPH. -/
def CLK.GATE_MEM : Fld := ⟨0x1, 0x110, 12, 1, .rw, 1, .num, true⟩
/-- GSTAT.RUN (R83): Clock running, bits as GATE. -/
def CLK.GSTAT_RUN : Fld := ⟨0x1, 0x114, 0, 13, .ro, 8191, .hw, false⟩
/-- AONCLK.FORCE_RC (R83): 1: CD0 runs from the RC oscillator. -/
def CLK.AONCLK_FORCE_RC : Fld := ⟨0x1, 0x120, 0, 1, .rwl, 0, .num, false⟩

/-- Fields of the CLK page with their word counts, part 0. -/
def CLK.part0 : List (Fld × Nat) :=
  [(CLK.REFSTAT_REF_OK, 1),
   (CLK.REFSTAT_XTAL_OK, 1),
   (CLK.REFSTAT_AON_RC, 1),
   (CLK.PLLEN_EN, 1),
   (CLK.PLLSTAT_LOCK, 1),
   (CLK.GATE_HEAD, 1),
   (CLK.GATE_CAP, 1),
   (CLK.GATE_TILE, 1),
   (CLK.GATE_ETH, 1),
   (CLK.GATE_USB, 1),
   (CLK.GATE_LUME, 1),
   (CLK.GATE_PCIE, 1),
   (CLK.GATE_MEM, 1),
   (CLK.GSTAT_RUN, 1),
   (CLK.AONCLK_FORCE_RC, 1)]
/-- Every field of the CLK page, with the number of its words. -/
def CLK.all : List (Fld × Nat) := CLK.part0

/-- VSET.CODE (R86): Requested VDD_CORE code (R63, R75). -/
def FIL.VSET_CODE : Fld := ⟨0x2, 0x100, 0, 5, .rw, 8, .num, true⟩
/-- VSET.RAMPING (R86): A voltage ramp is in progress. -/
def FIL.VSET_RAMPING : Fld := ⟨0x2, 0x100, 8, 1, .ro, 0, .num, false⟩
/-- VSLEW.STEP_US (R86): Time between code steps in µs, 1 to 255; 0 reads as 1. -/
def FIL.VSLEW_STEP_US : Fld := ⟨0x2, 0x104, 0, 8, .rw, 10, .num, true⟩
/-- VMEAS.MV (R86): Present VDD_CORE in mV. -/
def FIL.VMEAS_MV : Fld := ⟨0x2, 0x108, 0, 10, .ro, 800, .hw, false⟩
/-- VMEAS.MIN_MV (R86): Lowest VDD_CORE in the last 1 ms, in mV. -/
def FIL.VMEAS_MIN_MV : Fld := ⟨0x2, 0x108, 16, 10, .ro, 800, .hw, false⟩
/-- TJ.TEMP (R86): Junction temperature: TEMP / 4 − 40 °C. -/
def FIL.TJ_TEMP : Fld := ⟨0x2, 0x10C, 0, 10, .ro, 0, .hw, false⟩
/-- EFFCODE.CODE (R86): Effective code (R66). -/
def FIL.EFFCODE_CODE : Fld := ⟨0x2, 0x110, 0, 5, .ro, 8, .hw, false⟩
/-- GCAP_OPS.RATE (R86): GCAP_OPS at EFFCODE. -/
def FIL.GCAP_OPS_RATE : Fld := ⟨0x2, 0x114, 0, 16, .ro, 944, .hw, false⟩
/-- GCAP_CT.CT (R86): Guaranteed capacity in ct (R65). -/
def FIL.GCAP_CT_CT : Fld := ⟨0x2, 0x118, 0, 18, .ro, 24166, .hw, false⟩
/-- HSRATE.RATE (R86): Replica handshake rate (R68). -/
def FIL.HSRATE_RATE : Fld := ⟨0x2, 0x11C, 0, 16, .ro, 0, .hw, false⟩
/-- ADMLOAD.CT (R86): Admitted core load (R71). Hardware keeps it equal to the sum of the core charges of CRT's reservation records, so it follows the records and not FIL's resets. It reads 0 whenever the records are cleared: at POR, at HRST and at a domain reset of CORE. An SRST of FIL leaves it unchanged.. -/
def FIL.ADMLOAD_CT : Fld := ⟨0x2, 0x120, 0, 18, .ro, 0, .hw, false⟩
/-- HOLD.CT (R86): Core carats held back from admission. -/
def FIL.HOLD_CT : Fld := ⟨0x2, 0x124, 0, 16, .rwl, 1024, .num, false⟩
/-- GUARD.LIMIT (R86): GCAP_CT − HOLD, not below 0. -/
def FIL.GUARD_LIMIT : Fld := ⟨0x2, 0x128, 0, 18, .ro, 23142, .hw, false⟩
/-- OPS_LO.COUNT (R86): Cell operations, low word. -/
def FIL.OPS_LO_COUNT : Fld := ⟨0x2, 0x130, 0, 32, .ro, 0, .num, false⟩
/-- OPS_HI.COUNT (R86): Cell operations, high word. -/
def FIL.OPS_HI_COUNT : Fld := ⟨0x2, 0x134, 0, 32, .ro, 0, .num, false⟩
/-- UTIL.PERMILLE (R86): Load in the last 1 ms, in 0.1 % of HSRATE. Saturates at 1,023, and also reads 1,023 when HSRATE is 0 (R70).. -/
def FIL.UTIL_PERMILLE : Fld := ⟨0x2, 0x138, 0, 10, .ro, 0, .num, false⟩
/-- SNAP.GO (R86): Copy counters and sensors into 0x140–0x154. -/
def FIL.SNAP_GO : Fld := ⟨0x2, 0x13C, 0, 1, .w1s, 0, .num, false⟩
/-- SNAP_DATA, 6 words (R86): Snapshots of OPS_LO, OPS_HI, UTIL, HSRATE, VMEAS and TJ, in that order. -/
def FIL.SNAP_DATA : Fld := ⟨0x2, 0x140, 0, 32, .ro, 0, .num, false⟩

/-- Fields of the FIL page with their word counts, part 0. -/
def FIL.part0 : List (Fld × Nat) :=
  [(FIL.VSET_CODE, 1),
   (FIL.VSET_RAMPING, 1),
   (FIL.VSLEW_STEP_US, 1),
   (FIL.VMEAS_MV, 1),
   (FIL.VMEAS_MIN_MV, 1),
   (FIL.TJ_TEMP, 1),
   (FIL.EFFCODE_CODE, 1),
   (FIL.GCAP_OPS_RATE, 1),
   (FIL.GCAP_CT_CT, 1),
   (FIL.HSRATE_RATE, 1),
   (FIL.ADMLOAD_CT, 1),
   (FIL.HOLD_CT, 1),
   (FIL.GUARD_LIMIT, 1),
   (FIL.OPS_LO_COUNT, 1),
   (FIL.OPS_HI_COUNT, 1),
   (FIL.UTIL_PERMILLE, 1)]
/-- Fields of the FIL page with their word counts, part 1. -/
def FIL.part1 : List (Fld × Nat) :=
  [(FIL.SNAP_GO, 1),
   (FIL.SNAP_DATA, 6)]
/-- Every field of the FIL page, with the number of its words. -/
def FIL.all : List (Fld × Nat) := FIL.part0 ++ FIL.part1

/-- CTL.RETRAIN (R130): Retire if ACTIVE, then enter DETECT (R111, R115). -/
def OLN.CTL_RETRAIN : Fld := ⟨0x20, 0x100, 0, 1, .w1s, 0, .num, false⟩
/-- CTL.POL_INV (R130): Receive inversion used when CFG.AUTO_POL is 0. -/
def OLN.CTL_POL_INV : Fld := ⟨0x20, 0x100, 1, 1, .rw, 0, .num, true⟩
/-- CFG.CLASS (R130): Cable class (R127). -/
def OLN.CFG_CLASS : Fld := ⟨0x20, 0x104, 0, 2, .rw, 0, .cfg, true⟩
/-- CFG.TXSRC (R130): 0: presets; 1: TXCOEF. -/
def OLN.CFG_TXSRC : Fld := ⟨0x20, 0x104, 2, 1, .rw, 0, .num, true⟩
/-- CFG.AUTO_POL (R130): Automatic polarity (R98). -/
def OLN.CFG_AUTO_POL : Fld := ⟨0x20, 0x104, 3, 1, .rw, 1, .num, true⟩
/-- CFG.BEACON_EN (R130): Power the beacon detector (R125). -/
def OLN.CFG_BEACON_EN : Fld := ⟨0x20, 0x104, 4, 1, .rw, 1, .num, true⟩
/-- CFG.L2_EN (R130): 0: L2 requests become L1 (R123). -/
def OLN.CFG_L2_EN : Fld := ⟨0x20, 0x104, 5, 1, .rw, 1, .num, true⟩
/-- PRESEQ.SEQ (R130): Eight 3-bit preset numbers; entry k at [3k+2:3k]. -/
def OLN.PRESEQ_SEQ : Fld := ⟨0x20, 0x108, 0, 24, .rw, 0, .cfg, true⟩
/-- PRESEQ.LEN (R130): Number of entries minus 1. -/
def OLN.PRESEQ_LEN : Fld := ⟨0x20, 0x108, 24, 3, .rw, 0, .cfg, true⟩
/-- TXCOEF.PRE (R130): Custom PRE (R99, R101). -/
def OLN.TXCOEF_PRE : Fld := ⟨0x20, 0x10C, 0, 3, .rws, 0, .num, true⟩
/-- TXCOEF.POST (R130): Custom POST. -/
def OLN.TXCOEF_POST : Fld := ⟨0x20, 0x10C, 8, 4, .rws, 0, .num, true⟩
/-- TXCOEF.MAIN (R130): Custom MAIN. -/
def OLN.TXCOEF_MAIN : Fld := ⟨0x20, 0x10C, 16, 6, .rws, 40, .num, true⟩
/-- TXACT.PRE (R130): PRE in use. -/
def OLN.TXACT_PRE : Fld := ⟨0x20, 0x110, 0, 3, .ro, 0, .hw, false⟩
/-- TXACT.POST (R130): POST in use. -/
def OLN.TXACT_POST : Fld := ⟨0x20, 0x110, 8, 4, .ro, 0, .hw, false⟩
/-- TXACT.MAIN (R130): MAIN in use. -/
def OLN.TXACT_MAIN : Fld := ⟨0x20, 0x110, 16, 6, .ro, 0, .hw, false⟩
/-- TXACT.PRESET (R130): Preset in use. -/
def OLN.TXACT_PRESET : Fld := ⟨0x20, 0x110, 24, 3, .ro, 0, .hw, false⟩
/-- TXACT.CUSTOM (R130): 1: TXCOEF in use. -/
def OLN.TXACT_CUSTOM : Fld := ⟨0x20, 0x110, 27, 1, .ro, 0, .hw, false⟩
/-- RXCTL.FREEZE (R130): Hold all adapted values (R102). -/
def OLN.RXCTL_FREEZE : Fld := ⟨0x20, 0x114, 0, 1, .rw, 0, .num, true⟩
/-- RXCTL.DFE_EN (R130): DFE enabled. -/
def OLN.RXCTL_DFE_EN : Fld := ⟨0x20, 0x114, 1, 1, .rw, 1, .num, true⟩
/-- RXCTL.CTLE_MAX (R130): Highest CTLE peaking in dB. -/
def OLN.RXCTL_CTLE_MAX : Fld := ⟨0x20, 0x114, 4, 4, .rw, 15, .num, true⟩
/-- RXSTAT.CTLE (R130): CTLE peaking in use, dB. -/
def OLN.RXSTAT_CTLE : Fld := ⟨0x20, 0x118, 0, 4, .ro, 0, .hw, false⟩
/-- RXSTAT.CDR_LOCK (R130): CDR locked. -/
def OLN.RXSTAT_CDR_LOCK : Fld := ⟨0x20, 0x118, 4, 1, .ro, 0, .hw, false⟩
/-- RXSTAT.BLOCK_LOCK (R130): Block lock (R96). -/
def OLN.RXSTAT_BLOCK_LOCK : Fld := ⟨0x20, 0x118, 5, 1, .ro, 0, .hw, false⟩
/-- RXSTAT.FRAME_LOCK (R130): Frame lock (R97). -/
def OLN.RXSTAT_FRAME_LOCK : Fld := ⟨0x20, 0x118, 6, 1, .ro, 0, .hw, false⟩
/-- RXSTAT.POL_INV (R130): Receive inversion in use. -/
def OLN.RXSTAT_POL_INV : Fld := ⟨0x20, 0x118, 7, 1, .ro, 0, .hw, false⟩
/-- RXSTAT.SIGNAL (R130): Squelch reports signal present. -/
def OLN.RXSTAT_SIGNAL : Fld := ⟨0x20, 0x118, 8, 1, .ro, 0, .hw, false⟩
/-- DFE.TAP1 (R130): DFE taps, two's complement, in 1/64 of the slicer range. -/
def OLN.DFE_TAP1 : Fld := ⟨0x20, 0x11C, 0, 6, .ro, 0, .hw, false⟩
/-- DFE.TAP2 (R130): . -/
def OLN.DFE_TAP2 : Fld := ⟨0x20, 0x11C, 6, 5, .ro, 0, .hw, false⟩
/-- DFE.TAP3 (R130): . -/
def OLN.DFE_TAP3 : Fld := ⟨0x20, 0x11C, 11, 5, .ro, 0, .hw, false⟩
/-- DFE.TAP4 (R130): . -/
def OLN.DFE_TAP4 : Fld := ⟨0x20, 0x11C, 16, 5, .ro, 0, .hw, false⟩
/-- DFE.TAP5 (R130): . -/
def OLN.DFE_TAP5 : Fld := ⟨0x20, 0x11C, 21, 5, .ro, 0, .hw, false⟩
/-- DFE.TAP6 (R130): . -/
def OLN.DFE_TAP6 : Fld := ⟨0x20, 0x11C, 26, 5, .ro, 0, .hw, false⟩
/-- STAT.STATE (R130): Lane state code (R104). -/
def OLN.STAT_STATE : Fld := ⟨0x20, 0x120, 0, 4, .ro, 0, .num, false⟩
/-- STAT.PARTNER_LANE (R130): Sender lane in received TS. -/
def OLN.STAT_PARTNER_LANE : Fld := ⟨0x20, 0x120, 8, 2, .ro, 0, .hw, false⟩
/-- STAT.PARTNER_PORT (R130): Sender port in received TS. -/
def OLN.STAT_PARTNER_PORT : Fld := ⟨0x20, 0x120, 10, 3, .ro, 0, .hw, false⟩
/-- STAT.PARTNER_LOCKED (R130): RX_LOCKED in received TS. -/
def OLN.STAT_PARTNER_LOCKED : Fld := ⟨0x20, 0x120, 13, 1, .ro, 0, .hw, false⟩
/-- EYE.HEIGHT (R130): Eye height in 4 mV units. -/
def OLN.EYE_HEIGHT : Fld := ⟨0x20, 0x124, 0, 8, .ro, 0, .hw, false⟩
/-- EYE.WIDTH (R130): Eye width in 1/64 UI. -/
def OLN.EYE_WIDTH : Fld := ⟨0x20, 0x124, 8, 8, .ro, 0, .hw, false⟩
/-- STORE.VALID (R130): Saved coefficients present (R122). -/
def OLN.STORE_VALID : Fld := ⟨0x20, 0x128, 0, 1, .ro, 0, .num, false⟩
/-- SKEW.BLOCKS (R130): Lag behind the port's earliest lane (R109). -/
def OLN.SKEW_BLOCKS : Fld := ⟨0x20, 0x12C, 0, 7, .ro, 0, .hw, false⟩
/-- CNT_SYNC.COUNT (R130): Invalid sync headers, saturating. -/
def OLN.CNT_SYNC_COUNT : Fld := ⟨0x20, 0x130, 0, 32, .ro, 0, .num, false⟩
/-- CNT_LOCK.COUNT (R130): Block lock losses, saturating. -/
def OLN.CNT_LOCK_COUNT : Fld := ⟨0x20, 0x134, 0, 16, .ro, 0, .num, false⟩
/-- CNT_AM.COUNT (R130): Missed or misplaced AM blocks, saturating. -/
def OLN.CNT_AM_COUNT : Fld := ⟨0x20, 0x138, 0, 16, .ro, 0, .num, false⟩
/-- CNT_CTL.COUNT (R130): Lane control blocks failing the complement check. -/
def OLN.CNT_CTL_COUNT : Fld := ⟨0x20, 0x13C, 0, 16, .ro, 0, .num, false⟩
/-- CNT_TRAIN.ATTEMPTS (R130): Acquisition attempts (R106). -/
def OLN.CNT_TRAIN_ATTEMPTS : Fld := ⟨0x20, 0x140, 0, 16, .ro, 0, .num, false⟩
/-- CNT_TRAIN.STEPS (R130): Preset steps (R106). -/
def OLN.CNT_TRAIN_STEPS : Fld := ⟨0x20, 0x140, 16, 16, .ro, 0, .num, false⟩
/-- CNTCLR.GO (R130): Clear 0x130–0x140. -/
def OLN.CNTCLR_GO : Fld := ⟨0x20, 0x144, 0, 1, .w1s, 0, .num, false⟩
/-- TRAIN.LIMIT_MS (R130): Bring-up limit in ms, 1 to 255. -/
def OLN.TRAIN_LIMIT_MS : Fld := ⟨0x20, 0x148, 0, 8, .rw, 64, .num, true⟩
/-- TRAIN.ATTEMPT_MS (R130): Attempt length in ms, 1 to 255. -/
def OLN.TRAIN_ATTEMPT_MS : Fld := ⟨0x20, 0x148, 8, 8, .rw, 8, .num, true⟩
/-- SYNCLIM.LIMIT (R130): Invalid sync headers per 1 ms before retirement; 0 disables this cause. -/
def OLN.SYNCLIM_LIMIT : Fld := ⟨0x20, 0x14C, 0, 16, .rw, 16, .num, true⟩
/-- BEACON.SEND (R130): Start a beacon on the port (R124). -/
def OLN.BEACON_SEND : Fld := ⟨0x20, 0x150, 0, 1, .w1s, 0, .num, false⟩
/-- BEACON.SEEN (R130): Beacon recognised on this lane. -/
def OLN.BEACON_SEEN : Fld := ⟨0x20, 0x150, 1, 1, .w1c, 0, .num, false⟩

/-- Fields of the OLN page with their word counts, part 0. -/
def OLN.part0 : List (Fld × Nat) :=
  [(OLN.CTL_RETRAIN, 1),
   (OLN.CTL_POL_INV, 1),
   (OLN.CFG_CLASS, 1),
   (OLN.CFG_TXSRC, 1),
   (OLN.CFG_AUTO_POL, 1),
   (OLN.CFG_BEACON_EN, 1),
   (OLN.CFG_L2_EN, 1),
   (OLN.PRESEQ_SEQ, 1),
   (OLN.PRESEQ_LEN, 1),
   (OLN.TXCOEF_PRE, 1),
   (OLN.TXCOEF_POST, 1),
   (OLN.TXCOEF_MAIN, 1),
   (OLN.TXACT_PRE, 1),
   (OLN.TXACT_POST, 1),
   (OLN.TXACT_MAIN, 1),
   (OLN.TXACT_PRESET, 1)]
/-- Fields of the OLN page with their word counts, part 1. -/
def OLN.part1 : List (Fld × Nat) :=
  [(OLN.TXACT_CUSTOM, 1),
   (OLN.RXCTL_FREEZE, 1),
   (OLN.RXCTL_DFE_EN, 1),
   (OLN.RXCTL_CTLE_MAX, 1),
   (OLN.RXSTAT_CTLE, 1),
   (OLN.RXSTAT_CDR_LOCK, 1),
   (OLN.RXSTAT_BLOCK_LOCK, 1),
   (OLN.RXSTAT_FRAME_LOCK, 1),
   (OLN.RXSTAT_POL_INV, 1),
   (OLN.RXSTAT_SIGNAL, 1),
   (OLN.DFE_TAP1, 1),
   (OLN.DFE_TAP2, 1),
   (OLN.DFE_TAP3, 1),
   (OLN.DFE_TAP4, 1),
   (OLN.DFE_TAP5, 1),
   (OLN.DFE_TAP6, 1)]
/-- Fields of the OLN page with their word counts, part 2. -/
def OLN.part2 : List (Fld × Nat) :=
  [(OLN.STAT_STATE, 1),
   (OLN.STAT_PARTNER_LANE, 1),
   (OLN.STAT_PARTNER_PORT, 1),
   (OLN.STAT_PARTNER_LOCKED, 1),
   (OLN.EYE_HEIGHT, 1),
   (OLN.EYE_WIDTH, 1),
   (OLN.STORE_VALID, 1),
   (OLN.SKEW_BLOCKS, 1),
   (OLN.CNT_SYNC_COUNT, 1),
   (OLN.CNT_LOCK_COUNT, 1),
   (OLN.CNT_AM_COUNT, 1),
   (OLN.CNT_CTL_COUNT, 1),
   (OLN.CNT_TRAIN_ATTEMPTS, 1),
   (OLN.CNT_TRAIN_STEPS, 1),
   (OLN.CNTCLR_GO, 1),
   (OLN.TRAIN_LIMIT_MS, 1)]
/-- Fields of the OLN page with their word counts, part 3. -/
def OLN.part3 : List (Fld × Nat) :=
  [(OLN.TRAIN_ATTEMPT_MS, 1),
   (OLN.SYNCLIM_LIMIT, 1),
   (OLN.BEACON_SEND, 1),
   (OLN.BEACON_SEEN, 1)]
/-- Every field of the OLN page, with the number of its words. -/
def OLN.all : List (Fld × Nat) := OLN.part0 ++ OLN.part1 ++ OLN.part2 ++ OLN.part3

/-- CFG.WIDTH (R169): Configured width: 0 ×1, 1 ×2, 2 ×4. The value 3, whether written or loaded from the configuration store, is stored as 2 (×4).. -/
def OPT.CFG_WIDTH : Fld := ⟨0x10, 0x100, 0, 2, .rw, 0, .cfg, true⟩
/-- CFG.CRYPT (R169): Encryption policy (R149). -/
def OPT.CFG_CRYPT : Fld := ⟨0x10, 0x100, 4, 2, .rwl, 0, .cfg, false⟩
/-- CFG.PM_L1_OK (R169): Accept L1 requests. -/
def OPT.CFG_PM_L1_OK : Fld := ⟨0x10, 0x100, 8, 1, .rw, 1, .num, true⟩
/-- CFG.PM_L2_OK (R169): Accept L2 requests. -/
def OPT.CFG_PM_L2_OK : Fld := ⟨0x10, 0x100, 9, 1, .rw, 1, .num, true⟩
/-- CTL.DOWN (R169): Take the port DOWN (R144). -/
def OPT.CTL_DOWN : Fld := ⟨0x10, 0x104, 0, 1, .w1s, 0, .num, false⟩
/-- STAT.STATE (R169): Port state (R143). -/
def OPT.STAT_STATE : Fld := ⟨0x10, 0x108, 0, 3, .ro, 0, .num, false⟩
/-- STAT.WIDTH (R169): Width in use. -/
def OPT.STAT_WIDTH : Fld := ⟨0x10, 0x108, 4, 2, .ro, 0, .hw, false⟩
/-- STAT.ACTIVE (R169): Active physical lanes. -/
def OPT.STAT_ACTIVE : Fld := ⟨0x10, 0x108, 8, 4, .ro, 0, .hw, false⟩
/-- STAT.SPARE (R169): Spare physical lanes. -/
def OPT.STAT_SPARE : Fld := ⟨0x10, 0x108, 12, 4, .ro, 0, .hw, false⟩
/-- STAT.ENC (R169): Encryption on. -/
def OPT.STAT_ENC : Fld := ⟨0x10, 0x108, 16, 1, .ro, 0, .hw, false⟩
/-- STAT.SF_RX (R169): SF in the last accepted trailer. -/
def OPT.STAT_SF_RX : Fld := ⟨0x10, 0x108, 17, 1, .ro, 0, .hw, false⟩
/-- STAT.CA_RX (R169): CA in the last accepted trailer. -/
def OPT.STAT_CA_RX : Fld := ⟨0x10, 0x108, 18, 1, .ro, 0, .hw, false⟩
/-- STAT.TXPH (R169): Transmit key phase. -/
def OPT.STAT_TXPH : Fld := ⟨0x10, 0x108, 19, 1, .ro, 0, .hw, false⟩
/-- STAT.RXPH (R169): Receive key phase of the newest span. -/
def OPT.STAT_RXPH : Fld := ⟨0x10, 0x108, 20, 1, .ro, 0, .hw, false⟩
/-- PARTNER_ID_LO.ID (R169): Partner device ID, low word. -/
def OPT.PARTNER_ID_LO_ID : Fld := ⟨0x10, 0x10C, 0, 32, .ro, 0, .num, false⟩
/-- PARTNER_ID_HI.ID (R169): Partner device ID, high word. -/
def OPT.PARTNER_ID_HI_ID : Fld := ⟨0x10, 0x110, 0, 32, .ro, 0, .num, false⟩
/-- PARTNER.NODE (R169): Partner node ID. -/
def OPT.PARTNER_NODE : Fld := ⟨0x10, 0x114, 0, 14, .ro, 0, .num, false⟩
/-- PARTNER.NODE_VALID (R169): Node ID valid. -/
def OPT.PARTNER_NODE_VALID : Fld := ⟨0x10, 0x114, 15, 1, .ro, 0, .num, false⟩
/-- PARTNER.PORT (R169): Partner port. -/
def OPT.PARTNER_PORT : Fld := ⟨0x10, 0x114, 16, 3, .ro, 0, .num, false⟩
/-- PARTNER.ROLE (R169): Partner role. -/
def OPT.PARTNER_ROLE : Fld := ⟨0x10, 0x114, 20, 2, .ro, 0, .num, false⟩
/-- PARTNER.FACING (R169): CAP byte 26 [1:0]. -/
def OPT.PARTNER_FACING : Fld := ⟨0x10, 0x114, 22, 2, .ro, 0, .num, false⟩
/-- VCCRED_A.VC0 (R169): Credits advertised, VC0. -/
def OPT.VCCRED_A_VC0 : Fld := ⟨0x10, 0x118, 0, 12, .rw, 64, .num, true⟩
/-- VCCRED_A.VC1 (R169): VC1. -/
def OPT.VCCRED_A_VC1 : Fld := ⟨0x10, 0x118, 16, 12, .rw, 2048, .num, true⟩
/-- VCCRED_B.VC2 (R169): VC2. -/
def OPT.VCCRED_B_VC2 : Fld := ⟨0x10, 0x11C, 0, 12, .rw, 512, .num, true⟩
/-- VCCRED_B.VC3 (R169): VC3. -/
def OPT.VCCRED_B_VC3 : Fld := ⟨0x10, 0x11C, 16, 12, .rw, 1024, .num, true⟩
/-- TXCRED_A.VC0 (R169): Credits held toward the partner, VC0. -/
def OPT.TXCRED_A_VC0 : Fld := ⟨0x10, 0x120, 0, 12, .ro, 0, .num, false⟩
/-- TXCRED_A.VC1 (R169): VC1. -/
def OPT.TXCRED_A_VC1 : Fld := ⟨0x10, 0x120, 16, 12, .ro, 0, .num, false⟩
/-- TXCRED_B.VC2 (R169): VC2. -/
def OPT.TXCRED_B_VC2 : Fld := ⟨0x10, 0x124, 0, 12, .ro, 0, .num, false⟩
/-- TXCRED_B.VC3 (R169): VC3. -/
def OPT.TXCRED_B_VC3 : Fld := ⟨0x10, 0x124, 16, 12, .ro, 0, .num, false⟩
/-- REPLAY.TIMEOUT (R169): Replay timer in 100 ns units (R155). -/
def OPT.REPLAY_TIMEOUT : Fld := ⟨0x10, 0x128, 0, 16, .rw, 400, .num, true⟩
/-- REPLAY.INFLIGHT (R169): Unacknowledged frames. -/
def OPT.REPLAY_INFLIGHT : Fld := ⟨0x10, 0x128, 16, 9, .ro, 0, .num, false⟩
/-- WIDTH.TARGET (R169): Requested width. -/
def OPT.WIDTH_TARGET : Fld := ⟨0x10, 0x12C, 0, 2, .rw, 2, .num, false⟩
/-- WIDTH.GO (R169): Start request (R157). -/
def OPT.WIDTH_GO : Fld := ⟨0x10, 0x12C, 4, 1, .w1s, 0, .num, false⟩
/-- WIDTH.DONE (R169): 0 idle, 1 busy, 2 done, 3 failed. -/
def OPT.WIDTH_DONE : Fld := ⟨0x10, 0x12C, 8, 2, .ro, 0, .num, false⟩
/-- PM.TARGET (R169): 0 L1, 1 L2. -/
def OPT.PM_TARGET : Fld := ⟨0x10, 0x130, 0, 1, .rw, 0, .num, false⟩
/-- PM.GO (R169): Start request (R159). -/
def OPT.PM_GO : Fld := ⟨0x10, 0x130, 4, 1, .w1s, 0, .num, false⟩
/-- PM.EXIT (R169): Start exit. -/
def OPT.PM_EXIT : Fld := ⟨0x10, 0x130, 5, 1, .w1s, 0, .num, false⟩
/-- PM.STATE (R169): 0 L0, 1 entering, 2 L1, 3 L2. -/
def OPT.PM_STATE : Fld := ⟨0x10, 0x130, 8, 2, .ro, 0, .num, false⟩
/-- CRYPT.ARM (R169): Arm phase 0 (R164). -/
def OPT.CRYPT_ARM : Fld := ⟨0x10, 0x134, 0, 1, .w1s, 0, .num, false⟩
/-- CRYPT.ROLL (R169): Start rollover (R166). -/
def OPT.CRYPT_ROLL : Fld := ⟨0x10, 0x134, 1, 1, .w1s, 0, .num, false⟩
/-- CRYPT.ROLL_BUSY (R169): Rollover in progress. -/
def OPT.CRYPT_ROLL_BUSY : Fld := ⟨0x10, 0x134, 2, 1, .ro, 0, .num, false⟩
/-- KEYSEL.TX0 (R169): Key slot, transmit phase 0. -/
def OPT.KEYSEL_TX0 : Fld := ⟨0x10, 0x138, 0, 5, .rw, 0, .num, true⟩
/-- KEYSEL.TX1 (R169): Transmit phase 1. -/
def OPT.KEYSEL_TX1 : Fld := ⟨0x10, 0x138, 8, 5, .rw, 0, .num, true⟩
/-- KEYSEL.RX0 (R169): Receive phase 0. -/
def OPT.KEYSEL_RX0 : Fld := ⟨0x10, 0x138, 16, 5, .rw, 0, .num, true⟩
/-- KEYSEL.RX1 (R169): Receive phase 1. -/
def OPT.KEYSEL_RX1 : Fld := ⟨0x10, 0x138, 24, 5, .rw, 0, .num, true⟩
/-- TXSALT.SALT (R169): Transmit IV salt. -/
def OPT.TXSALT_SALT : Fld := ⟨0x10, 0x13C, 0, 32, .rw, 0, .num, false⟩
/-- RXSALT.SALT (R169): Receive IV salt. -/
def OPT.RXSALT_SALT : Fld := ⟨0x10, 0x140, 0, 32, .rw, 0, .num, false⟩
/-- SPAN_LO.COUNT (R169): Transmit span number, low word. -/
def OPT.SPAN_LO_COUNT : Fld := ⟨0x10, 0x144, 0, 32, .ro, 0, .num, false⟩
/-- SPAN_HI.COUNT (R169): Transmit span number, high word. -/
def OPT.SPAN_HI_COUNT : Fld := ⟨0x10, 0x148, 0, 32, .ro, 0, .num, false⟩
/-- CAPX.LIMIT_MS (R169): CAPX limit in ms, 1 to 255. -/
def OPT.CAPX_LIMIT_MS : Fld := ⟨0x10, 0x14C, 0, 8, .rw, 10, .num, true⟩
/-- CAPX.KEY_MS (R169): KEYING limit in ms, 1 to 65,535. -/
def OPT.CAPX_KEY_MS : Fld := ⟨0x10, 0x14C, 8, 16, .rw, 200, .num, true⟩
/-- TIME.PERIOD_US (R169): Time marker period in µs; 0 stops periodic markers. -/
def OPT.TIME_PERIOD_US : Fld := ⟨0x10, 0x150, 0, 16, .rw, 1000, .num, true⟩
/-- TIME.GO (R169): Send one marker now. -/
def OPT.TIME_GO : Fld := ⟨0x10, 0x150, 16, 1, .w1s, 0, .num, false⟩
/-- T1_LO–T4_HI.TIME, 8 words (R169): T1 to T4 of R162, low word then high word. -/
def OPT.T : Fld := ⟨0x10, 0x158, 0, 32, .ro, 0, .num, false⟩
/-- OFFSET.NS (R169): Partner minus own time, signed, saturating. -/
def OPT.OFFSET_NS : Fld := ⟨0x10, 0x178, 0, 32, .ro, 0, .num, false⟩
/-- DELAY.NS (R169): One-way delay. -/
def OPT.DELAY_NS : Fld := ⟨0x10, 0x17C, 0, 32, .ro, 0, .num, false⟩
/-- MBX_TXD.DATA, 16 words (R169): Mailbox payload to send, 16 words. -/
def OPT.MBX_TXD : Fld := ⟨0x10, 0x180, 0, 32, .rw, 0, .num, false⟩
/-- MBX_TXC.TYPE (R169): 0x10 to 0x1F. -/
def OPT.MBX_TXC_TYPE : Fld := ⟨0x10, 0x1C0, 0, 8, .rw, 16, .num, false⟩
/-- MBX_TXC.LEN (R169): 0 to 64. -/
def OPT.MBX_TXC_LEN : Fld := ⟨0x10, 0x1C0, 8, 7, .rw, 0, .num, false⟩
/-- MBX_TXC.GO (R169): Send (R142). -/
def OPT.MBX_TXC_GO : Fld := ⟨0x10, 0x1C0, 16, 1, .w1s, 0, .num, false⟩
/-- MBX_TXC.BUSY (R169): Not yet acknowledged. -/
def OPT.MBX_TXC_BUSY : Fld := ⟨0x10, 0x1C0, 17, 1, .ro, 0, .num, false⟩
/-- MBX_RXC.TYPE (R169): Received TYPE. -/
def OPT.MBX_RXC_TYPE : Fld := ⟨0x10, 0x1C4, 0, 8, .ro, 0, .num, false⟩
/-- MBX_RXC.LEN (R169): Received LEN. -/
def OPT.MBX_RXC_LEN : Fld := ⟨0x10, 0x1C4, 8, 7, .ro, 0, .num, false⟩
/-- MBX_RXC.VALID (R169): MBX_RXD holds a cell. -/
def OPT.MBX_RXC_VALID : Fld := ⟨0x10, 0x1C4, 16, 1, .w1c, 0, .num, false⟩
/-- MBX_RXC.OVERRUN (R169): A cell was discarded. -/
def OPT.MBX_RXC_OVERRUN : Fld := ⟨0x10, 0x1C4, 17, 1, .w1c, 0, .num, false⟩
/-- MBX_RXD.DATA, 16 words (R169): Received payload, 16 words. -/
def OPT.MBX_RXD : Fld := ⟨0x10, 0x200, 0, 32, .ro, 0, .num, false⟩
/-- CNT_TXFR.COUNT (R169): Sequenced frames sent, replays included. -/
def OPT.CNT_TXFR_COUNT : Fld := ⟨0x10, 0x240, 0, 32, .ro, 0, .num, false⟩
/-- CNT_RXFR.COUNT (R169): Sequenced frames accepted. -/
def OPT.CNT_RXFR_COUNT : Fld := ⟨0x10, 0x244, 0, 32, .ro, 0, .num, false⟩
/-- CNT_CRC.COUNT (R169): Frames failing R136. -/
def OPT.CNT_CRC_COUNT : Fld := ⟨0x10, 0x248, 0, 32, .ro, 0, .num, false⟩
/-- CNT_SEQ.COUNT (R169): Frames dropped ahead of EXPECT. -/
def OPT.CNT_SEQ_COUNT : Fld := ⟨0x10, 0x24C, 0, 32, .ro, 0, .num, false⟩
/-- CNT_DUP.COUNT (R169): Frames dropped behind EXPECT. -/
def OPT.CNT_DUP_COUNT : Fld := ⟨0x10, 0x250, 0, 32, .ro, 0, .num, false⟩
/-- CNT_NAK.SENT (R169): NAKs sent. -/
def OPT.CNT_NAK_SENT : Fld := ⟨0x10, 0x254, 0, 16, .ro, 0, .num, false⟩
/-- CNT_NAK.RCVD (R169): NAKs received. -/
def OPT.CNT_NAK_RCVD : Fld := ⟨0x10, 0x254, 16, 16, .ro, 0, .num, false⟩
/-- CNT_RTO.COUNT (R169): Replay timer expiries. -/
def OPT.CNT_RTO_COUNT : Fld := ⟨0x10, 0x258, 0, 32, .ro, 0, .num, false⟩
/-- CNT_AUTH.COUNT (R169): Tag failures. -/
def OPT.CNT_AUTH_COUNT : Fld := ⟨0x10, 0x25C, 0, 32, .ro, 0, .num, false⟩
/-- CNT_LOST.COUNT (R169): Frames discarded on entry to DOWN. -/
def OPT.CNT_LOST_COUNT : Fld := ⟨0x10, 0x260, 0, 32, .ro, 0, .num, false⟩
/-- CNT_CREDIT.COUNT (R169): Cells beyond advertised credit. -/
def OPT.CNT_CREDIT_COUNT : Fld := ⟨0x10, 0x264, 0, 16, .ro, 0, .num, false⟩
/-- CNT_CREDIT.LMC (R169): Link management cells of reserved TYPE. -/
def OPT.CNT_CREDIT_LMC : Fld := ⟨0x10, 0x264, 16, 16, .ro, 0, .num, false⟩
/-- CNTCLR.GO (R169): Clear 0x240–0x264. -/
def OPT.CNTCLR_GO : Fld := ⟨0x10, 0x268, 0, 1, .w1s, 0, .num, false⟩

/-- Fields of the OPT page with their word counts, part 0. -/
def OPT.part0 : List (Fld × Nat) :=
  [(OPT.CFG_WIDTH, 1),
   (OPT.CFG_CRYPT, 1),
   (OPT.CFG_PM_L1_OK, 1),
   (OPT.CFG_PM_L2_OK, 1),
   (OPT.CTL_DOWN, 1),
   (OPT.STAT_STATE, 1),
   (OPT.STAT_WIDTH, 1),
   (OPT.STAT_ACTIVE, 1),
   (OPT.STAT_SPARE, 1),
   (OPT.STAT_ENC, 1),
   (OPT.STAT_SF_RX, 1),
   (OPT.STAT_CA_RX, 1),
   (OPT.STAT_TXPH, 1),
   (OPT.STAT_RXPH, 1),
   (OPT.PARTNER_ID_LO_ID, 1),
   (OPT.PARTNER_ID_HI_ID, 1)]
/-- Fields of the OPT page with their word counts, part 1. -/
def OPT.part1 : List (Fld × Nat) :=
  [(OPT.PARTNER_NODE, 1),
   (OPT.PARTNER_NODE_VALID, 1),
   (OPT.PARTNER_PORT, 1),
   (OPT.PARTNER_ROLE, 1),
   (OPT.PARTNER_FACING, 1),
   (OPT.VCCRED_A_VC0, 1),
   (OPT.VCCRED_A_VC1, 1),
   (OPT.VCCRED_B_VC2, 1),
   (OPT.VCCRED_B_VC3, 1),
   (OPT.TXCRED_A_VC0, 1),
   (OPT.TXCRED_A_VC1, 1),
   (OPT.TXCRED_B_VC2, 1),
   (OPT.TXCRED_B_VC3, 1),
   (OPT.REPLAY_TIMEOUT, 1),
   (OPT.REPLAY_INFLIGHT, 1),
   (OPT.WIDTH_TARGET, 1)]
/-- Fields of the OPT page with their word counts, part 2. -/
def OPT.part2 : List (Fld × Nat) :=
  [(OPT.WIDTH_GO, 1),
   (OPT.WIDTH_DONE, 1),
   (OPT.PM_TARGET, 1),
   (OPT.PM_GO, 1),
   (OPT.PM_EXIT, 1),
   (OPT.PM_STATE, 1),
   (OPT.CRYPT_ARM, 1),
   (OPT.CRYPT_ROLL, 1),
   (OPT.CRYPT_ROLL_BUSY, 1),
   (OPT.KEYSEL_TX0, 1),
   (OPT.KEYSEL_TX1, 1),
   (OPT.KEYSEL_RX0, 1),
   (OPT.KEYSEL_RX1, 1),
   (OPT.TXSALT_SALT, 1),
   (OPT.RXSALT_SALT, 1),
   (OPT.SPAN_LO_COUNT, 1)]
/-- Fields of the OPT page with their word counts, part 3. -/
def OPT.part3 : List (Fld × Nat) :=
  [(OPT.SPAN_HI_COUNT, 1),
   (OPT.CAPX_LIMIT_MS, 1),
   (OPT.CAPX_KEY_MS, 1),
   (OPT.TIME_PERIOD_US, 1),
   (OPT.TIME_GO, 1),
   (OPT.T, 8),
   (OPT.OFFSET_NS, 1),
   (OPT.DELAY_NS, 1),
   (OPT.MBX_TXD, 16),
   (OPT.MBX_TXC_TYPE, 1),
   (OPT.MBX_TXC_LEN, 1),
   (OPT.MBX_TXC_GO, 1),
   (OPT.MBX_TXC_BUSY, 1),
   (OPT.MBX_RXC_TYPE, 1),
   (OPT.MBX_RXC_LEN, 1),
   (OPT.MBX_RXC_VALID, 1)]
/-- Fields of the OPT page with their word counts, part 4. -/
def OPT.part4 : List (Fld × Nat) :=
  [(OPT.MBX_RXC_OVERRUN, 1),
   (OPT.MBX_RXD, 16),
   (OPT.CNT_TXFR_COUNT, 1),
   (OPT.CNT_RXFR_COUNT, 1),
   (OPT.CNT_CRC_COUNT, 1),
   (OPT.CNT_SEQ_COUNT, 1),
   (OPT.CNT_DUP_COUNT, 1),
   (OPT.CNT_NAK_SENT, 1),
   (OPT.CNT_NAK_RCVD, 1),
   (OPT.CNT_RTO_COUNT, 1),
   (OPT.CNT_AUTH_COUNT, 1),
   (OPT.CNT_LOST_COUNT, 1),
   (OPT.CNT_CREDIT_COUNT, 1),
   (OPT.CNT_CREDIT_LMC, 1),
   (OPT.CNTCLR_GO, 1)]
/-- Every field of the OPT page, with the number of its words. -/
def OPT.all : List (Fld × Nat) := OPT.part0 ++ OPT.part1 ++ OPT.part2 ++ OPT.part3 ++ OPT.part4

/-- TIMERS.PEND_MS (R206): PENDING timeout in ms (R196). -/
def TUN.TIMERS_PEND_MS : Fld := ⟨0x40, 0x100, 0, 16, .rw, 200, .num, true⟩
/-- TIMERS.DRAIN_MS (R206): DRAINING time in ms, 1 to 255. -/
def TUN.TIMERS_DRAIN_MS : Fld := ⟨0x40, 0x100, 16, 8, .rw, 2, .num, true⟩
/-- FREE.COUNT (R206): Entries in FREE. -/
def TUN.FREE_COUNT : Fld := ⟨0x40, 0x104, 0, 14, .ro, 8192, .num, false⟩
/-- CNT_MISS.COUNT (R206): R182. -/
def TUN.CNT_MISS_COUNT : Fld := ⟨0x40, 0x110, 0, 32, .ro, 0, .num, false⟩
/-- CNT_PEND.COUNT (R206): R182. -/
def TUN.CNT_PEND_COUNT : Fld := ⟨0x40, 0x114, 0, 32, .ro, 0, .num, false⟩
/-- CNT_KIND.COUNT (R206): R27, R182, R188. -/
def TUN.CNT_KIND_COUNT : Fld := ⟨0x40, 0x118, 0, 32, .ro, 0, .num, false⟩
/-- CNT_HDR.COUNT (R206): R174, R203. -/
def TUN.CNT_HDR_COUNT : Fld := ⟨0x40, 0x11C, 0, 32, .ro, 0, .num, false⟩
/-- CNT_INGRESS.COUNT (R206): R182. -/
def TUN.CNT_INGRESS_COUNT : Fld := ⟨0x40, 0x120, 0, 32, .ro, 0, .num, false⟩
/-- CNT_PKTLEN.COUNT (R206): R173. -/
def TUN.CNT_PKTLEN_COUNT : Fld := ⟨0x40, 0x124, 0, 16, .ro, 0, .num, false⟩
/-- CNT_ABORT.COUNT (R206): R175. -/
def TUN.CNT_ABORT_COUNT : Fld := ⟨0x40, 0x128, 0, 16, .ro, 0, .num, false⟩
/-- CNT_EXPIRE.COUNT (R206): R196. -/
def TUN.CNT_EXPIRE_COUNT : Fld := ⟨0x40, 0x12C, 0, 16, .ro, 0, .num, false⟩
/-- CNTCLR.GO (R206): Clear 0x110–0x12C. -/
def TUN.CNTCLR_GO : Fld := ⟨0x40, 0x130, 0, 1, .w1s, 0, .num, false⟩
/-- RRQ_CTL.GO (R206): Send a request (R192). -/
def TUN.RRQ_CTL_GO : Fld := ⟨0x40, 0x140, 0, 1, .w1s, 0, .num, false⟩
/-- RRQ_CTL.WRITE (R206): 1: REG_WR; 0: REG_RD. -/
def TUN.RRQ_CTL_WRITE : Fld := ⟨0x40, 0x140, 1, 1, .rw, 0, .num, false⟩
/-- RRQ_CTL.COUNT (R206): Words, 1 to 12. -/
def TUN.RRQ_CTL_COUNT : Fld := ⟨0x40, 0x140, 2, 4, .rw, 1, .num, false⟩
/-- RRQ_CTL.DONE (R206): 0 idle, 1 busy, 2 done, 3 failed. -/
def TUN.RRQ_CTL_DONE : Fld := ⟨0x40, 0x140, 8, 2, .ro, 0, .num, false⟩
/-- RRQ_NODE.NODE (R206): Target node ID. -/
def TUN.RRQ_NODE_NODE : Fld := ⟨0x40, 0x144, 0, 14, .rw, 0, .num, false⟩
/-- RRQ_ADDR.ADDR (R206): Target window offset. -/
def TUN.RRQ_ADDR_ADDR : Fld := ⟨0x40, 0x148, 0, 24, .rw, 0, .num, false⟩
/-- RRQ_TMO.UNITS (R206): Timeout in 100 µs units. -/
def TUN.RRQ_TMO_UNITS : Fld := ⟨0x40, 0x14C, 0, 16, .rw, 100, .num, true⟩
/-- RRQ_STAT.STATUS (R206): R190; 0xFF on timeout. -/
def TUN.RRQ_STAT_STATUS : Fld := ⟨0x40, 0x150, 0, 8, .ro, 0, .num, false⟩
/-- RRQ_STAT.FAILIDX (R206): First failing word. -/
def TUN.RRQ_STAT_FAILIDX : Fld := ⟨0x40, 0x150, 8, 8, .ro, 0, .num, false⟩
/-- RRQ_STAT.TOKEN (R206): TOKEN of the last request. -/
def TUN.RRQ_STAT_TOKEN : Fld := ⟨0x40, 0x150, 16, 16, .ro, 0, .num, false⟩
/-- RRQ_DATA.DATA, 12 words (R206): Words 0 to 11. -/
def TUN.RRQ_DATA : Fld := ⟨0x40, 0x160, 0, 32, .rw, 0, .num, false⟩
/-- RRA_CNT.EXEC (R206): Requests carried out by the agent. -/
def TUN.RRA_CNT_EXEC : Fld := ⟨0x40, 0x190, 0, 16, .ro, 0, .num, false⟩
/-- RRA_CNT.LATE (R206): Responses discarded under R193. -/
def TUN.RRA_CNT_LATE : Fld := ⟨0x40, 0x190, 16, 16, .ro, 0, .num, false⟩

/-- Fields of the TUN page with their word counts, part 0. -/
def TUN.part0 : List (Fld × Nat) :=
  [(TUN.TIMERS_PEND_MS, 1),
   (TUN.TIMERS_DRAIN_MS, 1),
   (TUN.FREE_COUNT, 1),
   (TUN.CNT_MISS_COUNT, 1),
   (TUN.CNT_PEND_COUNT, 1),
   (TUN.CNT_KIND_COUNT, 1),
   (TUN.CNT_HDR_COUNT, 1),
   (TUN.CNT_INGRESS_COUNT, 1),
   (TUN.CNT_PKTLEN_COUNT, 1),
   (TUN.CNT_ABORT_COUNT, 1),
   (TUN.CNT_EXPIRE_COUNT, 1),
   (TUN.CNTCLR_GO, 1),
   (TUN.RRQ_CTL_GO, 1),
   (TUN.RRQ_CTL_WRITE, 1),
   (TUN.RRQ_CTL_COUNT, 1),
   (TUN.RRQ_CTL_DONE, 1)]
/-- Fields of the TUN page with their word counts, part 1. -/
def TUN.part1 : List (Fld × Nat) :=
  [(TUN.RRQ_NODE_NODE, 1),
   (TUN.RRQ_ADDR_ADDR, 1),
   (TUN.RRQ_TMO_UNITS, 1),
   (TUN.RRQ_STAT_STATUS, 1),
   (TUN.RRQ_STAT_FAILIDX, 1),
   (TUN.RRQ_STAT_TOKEN, 1),
   (TUN.RRQ_DATA, 12),
   (TUN.RRA_CNT_EXEC, 1),
   (TUN.RRA_CNT_LATE, 1)]
/-- Every field of the TUN page, with the number of its words. -/
def TUN.all : List (Fld × Nat) := TUN.part0 ++ TUN.part1

/-- UPLINK.PRIMARY (R208): Primary uplink port. -/
def RTE.UPLINK_PRIMARY : Fld := ⟨0x41, 0x100, 0, 3, .rw, 0, .num, true⟩
/-- UPLINK.P_VALID (R208): PRIMARY valid. -/
def RTE.UPLINK_P_VALID : Fld := ⟨0x41, 0x100, 3, 1, .rw, 0, .num, true⟩
/-- UPLINK.SECONDARY (R208): Secondary uplink port. -/
def RTE.UPLINK_SECONDARY : Fld := ⟨0x41, 0x100, 4, 3, .rw, 0, .num, true⟩
/-- UPLINK.S_VALID (R208): SECONDARY valid. -/
def RTE.UPLINK_S_VALID : Fld := ⟨0x41, 0x100, 7, 1, .rw, 0, .num, true⟩
/-- UPSTAT.P_UP (R208): Primary port UP. -/
def RTE.UPSTAT_P_UP : Fld := ⟨0x41, 0x104, 0, 1, .ro, 0, .hw, false⟩
/-- UPSTAT.S_UP (R208): Secondary port UP. -/
def RTE.UPSTAT_S_UP : Fld := ⟨0x41, 0x104, 1, 1, .ro, 0, .hw, false⟩
/-- GEN.CUR (R208): Routing generation (R186). -/
def RTE.GEN_CUR : Fld := ⟨0x41, 0x108, 0, 16, .rw, 0, .num, true⟩
/-- CNT_ROUTED.COUNT (R208): Node-routed cells forwarded on a port. -/
def RTE.CNT_ROUTED_COUNT : Fld := ⟨0x41, 0x110, 0, 32, .ro, 0, .num, false⟩
/-- CNT_UPDOWN.COUNT (R208): R185. -/
def RTE.CNT_UPDOWN_COUNT : Fld := ⟨0x41, 0x114, 0, 16, .ro, 0, .num, false⟩
/-- CNT_NOROUTE.COUNT (R208): R185. -/
def RTE.CNT_NOROUTE_COUNT : Fld := ⟨0x41, 0x118, 0, 16, .ro, 0, .num, false⟩
/-- CNT_LOCAL.COUNT (R208): Node-routed cells delivered to egress point 13. -/
def RTE.CNT_LOCAL_COUNT : Fld := ⟨0x41, 0x11C, 0, 32, .ro, 0, .num, false⟩
/-- CNTCLR.GO (R208): Clear 0x110–0x11C. -/
def RTE.CNTCLR_GO : Fld := ⟨0x41, 0x120, 0, 1, .w1s, 0, .num, false⟩

/-- Fields of the RTE page with their word counts, part 0. -/
def RTE.part0 : List (Fld × Nat) :=
  [(RTE.UPLINK_PRIMARY, 1),
   (RTE.UPLINK_P_VALID, 1),
   (RTE.UPLINK_SECONDARY, 1),
   (RTE.UPLINK_S_VALID, 1),
   (RTE.UPSTAT_P_UP, 1),
   (RTE.UPSTAT_S_UP, 1),
   (RTE.GEN_CUR, 1),
   (RTE.CNT_ROUTED_COUNT, 1),
   (RTE.CNT_UPDOWN_COUNT, 1),
   (RTE.CNT_NOROUTE_COUNT, 1),
   (RTE.CNT_LOCAL_COUNT, 1),
   (RTE.CNTCLR_GO, 1)]
/-- Every field of the RTE page, with the number of its words. -/
def RTE.all : List (Fld × Nat) := RTE.part0

/-- CSEL.CTX (R210): Selected merge context. -/
def TWN.CSEL_CTX : Fld := ⟨0x69, 0x100, 0, 10, .rw, 0, .num, false⟩
/-- CCTL.INIT (R210): Initialise the selected context (R204). -/
def TWN.CCTL_INIT : Fld := ⟨0x69, 0x104, 0, 1, .w1s, 0, .num, false⟩
/-- CCFG.ACTIVE (R210): Context in use. -/
def TWN.CCFG_ACTIVE : Fld := ⟨0x69, 0x108, 0, 1, .rw, 0, .num, false⟩
/-- CCFG.PORT_A (R210): Ingress port of path A. -/
def TWN.CCFG_PORT_A : Fld := ⟨0x69, 0x108, 4, 3, .rw, 0, .num, false⟩
/-- CCFG.PORT_B (R210): Ingress port of path B. -/
def TWN.CCFG_PORT_B : Fld := ⟨0x69, 0x108, 8, 3, .rw, 0, .num, false⟩
/-- CSTAT.HIGH (R210): Last SEQ delivered. -/
def TWN.CSTAT_HIGH : Fld := ⟨0x69, 0x10C, 0, 16, .ro, 0, .num, false⟩
/-- CSTAT.FIRST (R210): No packet delivered yet. -/
def TWN.CSTAT_FIRST : Fld := ⟨0x69, 0x10C, 16, 1, .ro, 1, .num, false⟩
/-- CSTAT.INPROG (R210): A copy in progress. -/
def TWN.CSTAT_INPROG : Fld := ⟨0x69, 0x10C, 17, 1, .ro, 0, .num, false⟩
/-- CSTAT.A_SILENT (R210): Path A silent. -/
def TWN.CSTAT_A_SILENT : Fld := ⟨0x69, 0x10C, 18, 1, .ro, 0, .num, false⟩
/-- CSTAT.B_SILENT (R210): Path B silent. -/
def TWN.CSTAT_B_SILENT : Fld := ⟨0x69, 0x10C, 19, 1, .ro, 0, .num, false⟩
/-- CNT_A.COUNT (R210): Packets delivered from path A. -/
def TWN.CNT_A_COUNT : Fld := ⟨0x69, 0x110, 0, 32, .ro, 0, .num, false⟩
/-- CNT_B.COUNT (R210): Packets delivered from path B. -/
def TWN.CNT_B_COUNT : Fld := ⟨0x69, 0x114, 0, 32, .ro, 0, .num, false⟩
/-- CNT_STALE.COUNT (R210): Copies discarded (R203, R205). -/
def TWN.CNT_STALE_COUNT : Fld := ⟨0x69, 0x118, 0, 32, .ro, 0, .num, false⟩
/-- CNT_POISON.COUNT (R210): Accepted copies ending poisoned. -/
def TWN.CNT_POISON_COUNT : Fld := ⟨0x69, 0x11C, 0, 16, .ro, 0, .num, false⟩
/-- SILENT.US (R210): Silence threshold in µs. -/
def TWN.SILENT_US : Fld := ⟨0x69, 0x120, 0, 16, .rw, 1000, .num, true⟩
/-- SILENT_FIRST.CTX (R210): First context found silent. -/
def TWN.SILENT_FIRST_CTX : Fld := ⟨0x69, 0x124, 0, 10, .ro, 0, .num, false⟩
/-- SILENT_FIRST.VALID (R210): CTX holds a capture. -/
def TWN.SILENT_FIRST_VALID : Fld := ⟨0x69, 0x124, 31, 1, .w1c, 0, .num, false⟩

/-- Fields of the TWN page with their word counts, part 0. -/
def TWN.part0 : List (Fld × Nat) :=
  [(TWN.CSEL_CTX, 1),
   (TWN.CCTL_INIT, 1),
   (TWN.CCFG_ACTIVE, 1),
   (TWN.CCFG_PORT_A, 1),
   (TWN.CCFG_PORT_B, 1),
   (TWN.CSTAT_HIGH, 1),
   (TWN.CSTAT_FIRST, 1),
   (TWN.CSTAT_INPROG, 1),
   (TWN.CSTAT_A_SILENT, 1),
   (TWN.CSTAT_B_SILENT, 1),
   (TWN.CNT_A_COUNT, 1),
   (TWN.CNT_B_COUNT, 1),
   (TWN.CNT_STALE_COUNT, 1),
   (TWN.CNT_POISON_COUNT, 1),
   (TWN.SILENT_US, 1),
   (TWN.SILENT_FIRST_CTX, 1)]
/-- Fields of the TWN page with their word counts, part 1. -/
def TWN.part1 : List (Fld × Nat) :=
  [(TWN.SILENT_FIRST_VALID, 1)]
/-- Every field of the TWN page, with the number of its words. -/
def TWN.all : List (Fld × Nat) := TWN.part0 ++ TWN.part1

/-- CFG.CT_EN (R254): Cut-through allowed, one bit per egress point (R222). Bits 9 and 11 to 13 are ignored.. -/
def SWB.CFG_CT_EN : Fld := ⟨0x48, 0x100, 0, 14, .rw, 1535, .num, true⟩
/-- FREE.COUNT (R254): Free cells. -/
def SWB.FREE_COUNT : Fld := ⟨0x48, 0x104, 0, 19, .ro, 393216, .num, false⟩
/-- MINFREE.COUNT (R254): Lowest FREE since the last CNTCLR. -/
def SWB.MINFREE_COUNT : Fld := ⟨0x48, 0x108, 0, 19, .ro, 393216, .num, false⟩
/-- DESC.FREE (R254): Free packet descriptors. -/
def SWB.DESC_FREE : Fld := ⟨0x48, 0x10C, 0, 18, .ro, 131072, .num, false⟩
/-- QENT.FREE (R254): Free queue entries. -/
def SWB.QENT_FREE : Fld := ⟨0x48, 0x110, 0, 18, .ro, 196608, .num, false⟩
/-- BSEL.BANK (R254): Bank selected for BSTAT. -/
def SWB.BSEL_BANK : Fld := ⟨0x48, 0x114, 0, 6, .rw, 0, .num, false⟩
/-- BSTAT.FREE (R254): Free cells in the selected bank. -/
def SWB.BSTAT_FREE : Fld := ⟨0x48, 0x118, 0, 13, .ro, 6144, .num, false⟩
/-- BSTAT.SCRUB_FORCED (R254): Scrub of the selected bank in forced mode. -/
def SWB.BSTAT_SCRUB_FORCED : Fld := ⟨0x48, 0x118, 16, 1, .ro, 0, .num, false⟩
/-- LOWMARK.COUNT (R254): ISTAT.LOWFREE is set when FREE falls below this value. -/
def SWB.LOWMARK_COUNT : Fld := ⟨0x48, 0x11C, 0, 19, .rw, 32768, .num, true⟩
/-- SCRUB.EN (R254): Scrub enabled. -/
def SWB.SCRUB_EN : Fld := ⟨0x48, 0x120, 0, 1, .rw, 1, .num, true⟩
/-- SCRUB.PERIOD_US (R254): Normal-mode spacing in µs, 1 to 255; 0 reads as 1. -/
def SWB.SCRUB_PERIOD_US : Fld := ⟨0x48, 0x120, 8, 8, .rw, 8, .num, true⟩
/-- SCRUB_STAT.LAST_PASS_MS (R254): Duration of the last full pass. -/
def SWB.SCRUB_STAT_LAST_PASS_MS : Fld := ⟨0x48, 0x124, 0, 16, .ro, 0, .num, false⟩
/-- SCRUB_STAT.PASSES (R254): Full passes since reset, wrapping. -/
def SWB.SCRUB_STAT_PASSES : Fld := ⟨0x48, 0x124, 16, 16, .ro, 0, .num, false⟩
/-- CE_LAST.CELL (R254): Cell of the last corrected payload read. -/
def SWB.CE_LAST_CELL : Fld := ⟨0x48, 0x128, 0, 19, .ro, 0, .num, false⟩
/-- CNT_CE.COUNT (R254): Corrected payload and side words (R249). -/
def SWB.CNT_CE_COUNT : Fld := ⟨0x48, 0x130, 0, 32, .ro, 0, .num, false⟩
/-- CNT_UE.COUNT (R254): Uncorrectable payload words (R249). -/
def SWB.CNT_UE_COUNT : Fld := ⟨0x48, 0x134, 0, 16, .ro, 0, .num, false⟩
/-- CNT_LINK_CE.COUNT (R254): Pointer words taken from the second copy (R250). -/
def SWB.CNT_LINK_CE_COUNT : Fld := ⟨0x48, 0x138, 0, 16, .ro, 0, .num, false⟩
/-- CNT_POISON.COUNT (R254): Packets poisoned at this node (R226). -/
def SWB.CNT_POISON_COUNT : Fld := ⟨0x48, 0x13C, 0, 32, .ro, 0, .num, false⟩
/-- CNT_TRUNC.COUNT (R254): Packets cut short for lack of cells (R242). -/
def SWB.CNT_TRUNC_COUNT : Fld := ⟨0x48, 0x140, 0, 16, .ro, 0, .num, false⟩
/-- CNT_NODESC.COUNT (R254): Packets refused for lack of descriptors or queue entries (R218). -/
def SWB.CNT_NODESC_COUNT : Fld := ⟨0x48, 0x144, 0, 32, .ro, 0, .num, false⟩
/-- CNT_SF.COUNT (R254): Target reads made store-and-forward (R222). -/
def SWB.CNT_SF_COUNT : Fld := ⟨0x48, 0x148, 0, 32, .ro, 0, .num, false⟩
/-- CNT_UNDERRUN.COUNT (R254): Ethernet frames ended early (R225). -/
def SWB.CNT_UNDERRUN_COUNT : Fld := ⟨0x48, 0x14C, 0, 16, .ro, 0, .num, false⟩
/-- CNT_PDROP.COUNT (R254): Poisoned packets discarded before leaving (R223). -/
def SWB.CNT_PDROP_COUNT : Fld := ⟨0x48, 0x150, 0, 32, .ro, 0, .num, false⟩
/-- CNTCLR.GO (R254): Clear 0x130–0x150 and reload MINFREE with FREE. -/
def SWB.CNTCLR_GO : Fld := ⟨0x48, 0x154, 0, 1, .w1s, 0, .num, false⟩

/-- Fields of the SWB page with their word counts, part 0. -/
def SWB.part0 : List (Fld × Nat) :=
  [(SWB.CFG_CT_EN, 1),
   (SWB.FREE_COUNT, 1),
   (SWB.MINFREE_COUNT, 1),
   (SWB.DESC_FREE, 1),
   (SWB.QENT_FREE, 1),
   (SWB.BSEL_BANK, 1),
   (SWB.BSTAT_FREE, 1),
   (SWB.BSTAT_SCRUB_FORCED, 1),
   (SWB.LOWMARK_COUNT, 1),
   (SWB.SCRUB_EN, 1),
   (SWB.SCRUB_PERIOD_US, 1),
   (SWB.SCRUB_STAT_LAST_PASS_MS, 1),
   (SWB.SCRUB_STAT_PASSES, 1),
   (SWB.CE_LAST_CELL, 1),
   (SWB.CNT_CE_COUNT, 1),
   (SWB.CNT_UE_COUNT, 1)]
/-- Fields of the SWB page with their word counts, part 1. -/
def SWB.part1 : List (Fld × Nat) :=
  [(SWB.CNT_LINK_CE_COUNT, 1),
   (SWB.CNT_POISON_COUNT, 1),
   (SWB.CNT_TRUNC_COUNT, 1),
   (SWB.CNT_NODESC_COUNT, 1),
   (SWB.CNT_SF_COUNT, 1),
   (SWB.CNT_UNDERRUN_COUNT, 1),
   (SWB.CNT_PDROP_COUNT, 1),
   (SWB.CNTCLR_GO, 1)]
/-- Every field of the SWB page, with the number of its words. -/
def SWB.all : List (Fld × Nat) := SWB.part0 ++ SWB.part1

/-- QSEL.CLASS (R256): Queue class. -/
def THR.QSEL_CLASS : Fld := ⟨0x49, 0x100, 0, 4, .rw, 0, .num, false⟩
/-- QSEL.POINT (R256): Egress point, 0 to 13. Values 14 and 15 set ESTAT.QSEL_INVALID, and the selected registers then read 0 and ignore writes.. -/
def THR.QSEL_POINT : Fld := ⟨0x49, 0x100, 8, 4, .rw, 0, .num, false⟩
/-- QCFG.ALPHA (R256): α code (R237). -/
def THR.QCFG_ALPHA : Fld := ⟨0x49, 0x104, 0, 4, .rw, 0, .table, true⟩
/-- QCFG.Y_SHIFT (R256): Yellow divisor exponent. -/
def THR.QCFG_Y_SHIFT : Fld := ⟨0x49, 0x104, 4, 3, .rw, 2, .num, true⟩
/-- QCFG.R_SHIFT (R256): Red divisor exponent. -/
def THR.QCFG_R_SHIFT : Fld := ⟨0x49, 0x104, 8, 3, .rw, 7, .num, true⟩
/-- QCFG.MIN (R256): Reserved cells, 0 to 4,095 (R240). -/
def THR.QCFG_MIN : Fld := ⟨0x49, 0x104, 16, 12, .rw, 0, .table, true⟩
/-- QSTAT.OCC (R256): Occupancy (R236). -/
def THR.QSTAT_OCC : Fld := ⟨0x49, 0x108, 0, 19, .ro, 0, .num, false⟩
/-- QPEAK.OCC (R256): Highest occupancy since the last CNTCLR. -/
def THR.QPEAK_OCC : Fld := ⟨0x49, 0x10C, 0, 19, .ro, 0, .num, false⟩
/-- QDROP.COUNT (R256): Packets refused at this queue. -/
def THR.QDROP_COUNT : Fld := ⟨0x49, 0x110, 0, 32, .ro, 0, .num, false⟩
/-- HEADROOM.CELLS (R256): Headroom pool (R235, R239). -/
def THR.HEADROOM_CELLS : Fld := ⟨0x49, 0x120, 0, 19, .rwl, 21504, .num, false⟩
/-- RESV.CELLS (R256): Sum of MIN. -/
def THR.RESV_CELLS : Fld := ⟨0x49, 0x124, 0, 19, .ro, 42336, .num, false⟩
/-- SHARED.CELLS (R256): 393,216 − HEADROOM − RESV. -/
def THR.SHARED_CELLS : Fld := ⟨0x49, 0x128, 0, 19, .ro, 329376, .num, false⟩
/-- SFREE.CELLS (R256): Free cells of SHARED. -/
def THR.SFREE_CELLS : Fld := ⟨0x49, 0x12C, 0, 19, .ro, 329376, .num, false⟩
/-- HDUSE.CELLS (R256): Cells drawn from HEADROOM. -/
def THR.HDUSE_CELLS : Fld := ⟨0x49, 0x130, 0, 19, .ro, 0, .num, false⟩
/-- CNT_REFUSE.COUNT (R256): Target refusals, all queues. -/
def THR.CNT_REFUSE_COUNT : Fld := ⟨0x49, 0x134, 0, 32, .ro, 0, .num, false⟩
/-- CNTCLR.GO (R256): Clear QPEAK and QDROP of every queue, and CNT_REFUSE. -/
def THR.CNTCLR_GO : Fld := ⟨0x49, 0x138, 0, 1, .w1s, 0, .num, false⟩

/-- Fields of the THR page with their word counts, part 0. -/
def THR.part0 : List (Fld × Nat) :=
  [(THR.QSEL_CLASS, 1),
   (THR.QSEL_POINT, 1),
   (THR.QCFG_ALPHA, 1),
   (THR.QCFG_Y_SHIFT, 1),
   (THR.QCFG_R_SHIFT, 1),
   (THR.QCFG_MIN, 1),
   (THR.QSTAT_OCC, 1),
   (THR.QPEAK_OCC, 1),
   (THR.QDROP_COUNT, 1),
   (THR.HEADROOM_CELLS, 1),
   (THR.RESV_CELLS, 1),
   (THR.SHARED_CELLS, 1),
   (THR.SFREE_CELLS, 1),
   (THR.HDUSE_CELLS, 1),
   (THR.CNT_REFUSE_COUNT, 1),
   (THR.CNTCLR_GO, 1)]
/-- Every field of the THR page, with the number of its words. -/
def THR.all : List (Fld × Nat) := THR.part0

/-- CSEL.CLASS (R258): Queue class selected. -/
def AGE.CSEL_CLASS : Fld := ⟨0x4A, 0x100, 0, 4, .rw, 0, .num, false⟩
/-- CCFG.RESLIM_US (R258): Residence limit in µs; 0 disables (R243). -/
def AGE.CCFG_RESLIM_US : Fld := ⟨0x4A, 0x104, 0, 16, .rw, 0, .table, true⟩
/-- CCFG.AGELIM (R258): Header AGE limit in µs; 255 disables. -/
def AGE.CCFG_AGELIM : Fld := ⟨0x4A, 0x104, 16, 8, .rw, 255, .num, true⟩
/-- CDROPS.COUNT (R258): Packets of the selected class discarded for age. -/
def AGE.CDROPS_COUNT : Fld := ⟨0x4A, 0x108, 0, 32, .ro, 0, .num, false⟩
/-- SWEEP.PERIOD_US (R258): Age sweep period in µs, 10 to 255; lower values read as 10. -/
def AGE.SWEEP_PERIOD_US : Fld := ⟨0x4A, 0x110, 0, 8, .rw, 100, .num, true⟩
/-- CNT_FLUSH.COUNT (R258): Packets flushed by a port leaving UP (R246). -/
def AGE.CNT_FLUSH_COUNT : Fld := ⟨0x4A, 0x114, 0, 32, .ro, 0, .num, false⟩
/-- CNT_DROPS.COUNT (R258): Packets discarded for age, all classes. -/
def AGE.CNT_DROPS_COUNT : Fld := ⟨0x4A, 0x118, 0, 32, .ro, 0, .num, false⟩
/-- LASTDROP.TID (R258): TID of the last packet discarded for age. -/
def AGE.LASTDROP_TID : Fld := ⟨0x4A, 0x11C, 0, 20, .ro, 0, .num, false⟩
/-- LASTDROP.CLASS (R258): Its queue class. -/
def AGE.LASTDROP_CLASS : Fld := ⟨0x4A, 0x11C, 20, 4, .ro, 0, .num, false⟩
/-- LASTDROP.POINT (R258): Its egress point. -/
def AGE.LASTDROP_POINT : Fld := ⟨0x4A, 0x11C, 24, 4, .ro, 0, .num, false⟩
/-- CNTCLR.GO (R258): Clear the CDROPS of every class, CNT_FLUSH and CNT_DROPS. -/
def AGE.CNTCLR_GO : Fld := ⟨0x4A, 0x120, 0, 1, .w1s, 0, .num, false⟩

/-- Fields of the AGE page with their word counts, part 0. -/
def AGE.part0 : List (Fld × Nat) :=
  [(AGE.CSEL_CLASS, 1),
   (AGE.CCFG_RESLIM_US, 1),
   (AGE.CCFG_AGELIM, 1),
   (AGE.CDROPS_COUNT, 1),
   (AGE.SWEEP_PERIOD_US, 1),
   (AGE.CNT_FLUSH_COUNT, 1),
   (AGE.CNT_DROPS_COUNT, 1),
   (AGE.LASTDROP_TID, 1),
   (AGE.LASTDROP_CLASS, 1),
   (AGE.LASTDROP_POINT, 1),
   (AGE.CNTCLR_GO, 1)]
/-- Every field of the AGE page, with the number of its words. -/
def AGE.all : List (Fld × Nat) := AGE.part0

/-- CNT_PKT.COUNT (R260): Packets with more than one target left after the arrival point is skipped (R231), admitted at one or more targets. The counts at 0x104, 0x108, 0x10C and 0x114 cover the same packets.. -/
def MCR.CNT_PKT_COUNT : Fld := ⟨0x4B, 0x100, 0, 32, .ro, 0, .num, false⟩
/-- CNT_COPY.COUNT (R260): Queue entries made for such packets. -/
def MCR.CNT_COPY_COUNT : Fld := ⟨0x4B, 0x104, 0, 32, .ro, 0, .num, false⟩
/-- CNT_TREFUSE.COUNT (R260): Targets of such packets refused (R233). -/
def MCR.CNT_TREFUSE_COUNT : Fld := ⟨0x4B, 0x108, 0, 32, .ro, 0, .num, false⟩
/-- CNT_NONE.COUNT (R260): Such packets refused at every target (R233). -/
def MCR.CNT_NONE_COUNT : Fld := ⟨0x4B, 0x10C, 0, 32, .ro, 0, .num, false⟩
/-- CNT_REFLECT.COUNT (R260): Targets skipped as the arrival point (R231). -/
def MCR.CNT_REFLECT_COUNT : Fld := ⟨0x4B, 0x110, 0, 16, .ro, 0, .num, false⟩
/-- CNT_EARLYEND.COUNT (R260): Targets that discarded such a packet before reading its end (R234). A transaction bridge target that receives a poisoned packet as its SOP cell alone (R223) counts as a delivery, not here.. -/
def MCR.CNT_EARLYEND_COUNT : Fld := ⟨0x4B, 0x114, 0, 32, .ro, 0, .num, false⟩
/-- INFLIGHT.COUNT (R260): Such packets held now. -/
def MCR.INFLIGHT_COUNT : Fld := ⟨0x4B, 0x118, 0, 18, .ro, 0, .num, false⟩
/-- INFLIGHT.PEAKREF (R260): Highest reference count since the last CNTCLR. -/
def MCR.INFLIGHT_PEAKREF : Fld := ⟨0x4B, 0x118, 24, 4, .ro, 0, .num, false⟩
/-- CNTCLR.GO (R260): Clear 0x100–0x114 and PEAKREF. -/
def MCR.CNTCLR_GO : Fld := ⟨0x4B, 0x120, 0, 1, .w1s, 0, .num, false⟩

/-- Fields of the MCR page with their word counts, part 0. -/
def MCR.part0 : List (Fld × Nat) :=
  [(MCR.CNT_PKT_COUNT, 1),
   (MCR.CNT_COPY_COUNT, 1),
   (MCR.CNT_TREFUSE_COUNT, 1),
   (MCR.CNT_NONE_COUNT, 1),
   (MCR.CNT_REFLECT_COUNT, 1),
   (MCR.CNT_EARLYEND_COUNT, 1),
   (MCR.INFLIGHT_COUNT, 1),
   (MCR.INFLIGHT_PEAKREF, 1),
   (MCR.CNTCLR_GO, 1)]
/-- Every field of the MCR page, with the number of its words. -/
def MCR.all : List (Fld × Nat) := MCR.part0

/-- CFG.HOLD_MS (R287): Hold time of a reserved increase in ms, 1 to 1,000; 0 reads as 1 (R271, R279). -/
def CRT.CFG_HOLD_MS : Fld := ⟨0x61, 0x100, 0, 10, .rw, 50, .num, true⟩
/-- CFG.NOTICE_EN (R287): Send CRT_NOTICE (R268, R283). -/
def CRT.CFG_NOTICE_EN : Fld := ⟨0x61, 0x100, 16, 1, .rw, 1, .num, true⟩
/-- PSEL.POINT (R287): Egress point, 0 to 13. Values 14 and 15 set ESTAT.PSEL_INVALID, and the selected registers then read 0 and ignore writes.. -/
def CRT.PSEL_POINT : Fld := ⟨0x61, 0x110, 0, 4, .rw, 0, .num, false⟩
/-- PCAP.CT (R287): Capacity (R263). For points 0 to 7 it reports the port and ignores writes.. -/
def CRT.PCAP_CT : Fld := ⟨0x61, 0x114, 0, 13, .rwl, 0, .table, false⟩
/-- PRES.CT (R287): Reserved total (R265). -/
def CRT.PRES_CT : Fld := ⟨0x61, 0x118, 0, 13, .ro, 0, .num, false⟩
/-- PCOMMIT.CT (R287): Sum of COMMITTED at the point. -/
def CRT.PCOMMIT_CT : Fld := ⟨0x61, 0x11C, 0, 13, .ro, 0, .num, false⟩
/-- PPEND.CT (R287): Sum of TARGET − COMMITTED at the point. -/
def CRT.PPEND_CT : Fld := ⟨0x61, 0x120, 0, 13, .ro, 0, .num, false⟩
/-- PFLOOR.CT (R287): CONTROL floor counted (R264). -/
def CRT.PFLOOR_CT : Fld := ⟨0x61, 0x124, 0, 5, .ro, 0, .num, false⟩
/-- PSHORT.POINTS (R287): Short points, one bit per point (R267). -/
def CRT.PSHORT_POINTS : Fld := ⟨0x61, 0x128, 0, 14, .ro, 0, .num, false⟩
/-- RSEL.ENTRY (R287): Tunnel table entry index of the selected record. -/
def CRT.RSEL_ENTRY : Fld := ⟨0x61, 0x140, 0, 13, .rw, 0, .num, false⟩
/-- RREC.COMMITTED (R287): Reservation in force, ct. -/
def CRT.RREC_COMMITTED : Fld := ⟨0x61, 0x144, 0, 12, .ro, 0, .num, false⟩
/-- RREC.TARGET (R287): Reserved total, ct. -/
def CRT.RREC_TARGET : Fld := ⟨0x61, 0x144, 16, 12, .ro, 0, .num, false⟩
/-- RREC.STATE (R287): Record state (R271). -/
def CRT.RREC_STATE : Fld := ⟨0x61, 0x144, 28, 2, .ro, 0, .num, false⟩
/-- RTXN.TXN (R287): Last TXN. -/
def CRT.RTXN_TXN : Fld := ⟨0x61, 0x148, 0, 16, .ro, 0, .num, false⟩
/-- RTXN.CROWN (R287): Node ID that sent it. -/
def CRT.RTXN_CROWN : Fld := ⟨0x61, 0x148, 16, 14, .ro, 0, .num, false⟩
/-- RHOLD.MS (R287): Hold time remaining, ms. -/
def CRT.RHOLD_MS : Fld := ⟨0x61, 0x14C, 0, 10, .ro, 0, .num, false⟩
/-- RECS.COUNT (R287): Records not in NONE. -/
def CRT.RECS_COUNT : Fld := ⟨0x61, 0x150, 0, 14, .ro, 0, .num, false⟩
/-- CNT_RESERVE.COUNT (R287): Reserves accepted. -/
def CRT.CNT_RESERVE_COUNT : Fld := ⟨0x61, 0x160, 0, 32, .ro, 0, .num, false⟩
/-- CNT_REFUSE.COUNT (R287): Reserves refused PORT_FULL or CORE_FULL. -/
def CRT.CNT_REFUSE_COUNT : Fld := ⟨0x61, 0x164, 0, 32, .ro, 0, .num, false⟩
/-- CNT_COMMIT.COUNT (R287): Commits applied. -/
def CRT.CNT_COMMIT_COUNT : Fld := ⟨0x61, 0x168, 0, 32, .ro, 0, .num, false⟩
/-- CNT_ABORT.COUNT (R287): Aborts applied. -/
def CRT.CNT_ABORT_COUNT : Fld := ⟨0x61, 0x16C, 0, 32, .ro, 0, .num, false⟩
/-- CNT_DECREASE.COUNT (R287): Decreases and releases applied. -/
def CRT.CNT_DECREASE_COUNT : Fld := ⟨0x61, 0x170, 0, 32, .ro, 0, .num, false⟩
/-- CNT_EXPIRE.COUNT (R287): Holds expired (R271). -/
def CRT.CNT_EXPIRE_COUNT : Fld := ⟨0x61, 0x174, 0, 16, .ro, 0, .num, false⟩
/-- CNT_ORPHAN.COUNT (R287): Records released under R283. -/
def CRT.CNT_ORPHAN_COUNT : Fld := ⟨0x61, 0x178, 0, 16, .ro, 0, .num, false⟩
/-- CNT_BADMSG.COUNT (R287): Messages answered with status 3 to 8. -/
def CRT.CNT_BADMSG_COUNT : Fld := ⟨0x61, 0x17C, 0, 16, .ro, 0, .num, false⟩
/-- LASTREF.TID (R287): TID of the last refused reserve. -/
def CRT.LASTREF_TID : Fld := ⟨0x61, 0x180, 0, 20, .ro, 0, .num, false⟩
/-- LASTREF.LIMIT (R287): Its LIMIT. -/
def CRT.LASTREF_LIMIT : Fld := ⟨0x61, 0x180, 20, 4, .ro, 0, .num, false⟩
/-- LASTREF.STATUS (R287): Its STATUS. -/
def CRT.LASTREF_STATUS : Fld := ⟨0x61, 0x180, 24, 4, .ro, 0, .num, false⟩
/-- CNTCLR.GO (R287): Clear 0x160–0x17C. -/
def CRT.CNTCLR_GO : Fld := ⟨0x61, 0x184, 0, 1, .w1s, 0, .num, false⟩

/-- Fields of the CRT page with their word counts, part 0. -/
def CRT.part0 : List (Fld × Nat) :=
  [(CRT.CFG_HOLD_MS, 1),
   (CRT.CFG_NOTICE_EN, 1),
   (CRT.PSEL_POINT, 1),
   (CRT.PCAP_CT, 1),
   (CRT.PRES_CT, 1),
   (CRT.PCOMMIT_CT, 1),
   (CRT.PPEND_CT, 1),
   (CRT.PFLOOR_CT, 1),
   (CRT.PSHORT_POINTS, 1),
   (CRT.RSEL_ENTRY, 1),
   (CRT.RREC_COMMITTED, 1),
   (CRT.RREC_TARGET, 1),
   (CRT.RREC_STATE, 1),
   (CRT.RTXN_TXN, 1),
   (CRT.RTXN_CROWN, 1),
   (CRT.RHOLD_MS, 1)]
/-- Fields of the CRT page with their word counts, part 1. -/
def CRT.part1 : List (Fld × Nat) :=
  [(CRT.RECS_COUNT, 1),
   (CRT.CNT_RESERVE_COUNT, 1),
   (CRT.CNT_REFUSE_COUNT, 1),
   (CRT.CNT_COMMIT_COUNT, 1),
   (CRT.CNT_ABORT_COUNT, 1),
   (CRT.CNT_DECREASE_COUNT, 1),
   (CRT.CNT_EXPIRE_COUNT, 1),
   (CRT.CNT_ORPHAN_COUNT, 1),
   (CRT.CNT_BADMSG_COUNT, 1),
   (CRT.LASTREF_TID, 1),
   (CRT.LASTREF_LIMIT, 1),
   (CRT.LASTREF_STATUS, 1),
   (CRT.CNTCLR_GO, 1)]
/-- Every field of the CRT page, with the number of its words. -/
def CRT.all : List (Fld × Nat) := CRT.part0 ++ CRT.part1

/-- WHEEL.GRAN (R309): Slot time 8 ns × 2^GRAN, 0 to 10 (R299, R301). -/
def SCH.WHEEL_GRAN : Fld := ⟨0x50, 0x100, 0, 4, .rw, 4, .num, true⟩
/-- WHEEL.POS (R309): Slot at the wheel pointer. -/
def SCH.WHEEL_POS : Fld := ⟨0x50, 0x100, 16, 10, .ro, 0, .num, false⟩
/-- AGEPRI.US (R309): Aged threshold in µs; 0 disables tier 3 (R295). -/
def SCH.AGEPRI_US : Fld := ⟨0x50, 0x104, 0, 8, .rw, 128, .num, true⟩
/-- AGEPRI.SPACING (R309): Tier 3 at most once per SPACING selections, 1 to 15; 0 reads as 1. -/
def SCH.AGEPRI_SPACING : Fld := ⟨0x50, 0x104, 8, 4, .rw, 8, .num, true⟩
/-- QSEL.CLASS (R309): Queue selected. -/
def SCH.QSEL_CLASS : Fld := ⟨0x50, 0x108, 0, 4, .rw, 0, .num, false⟩
/-- QMODE.STRICT (R309): 1: STRICT; 0: WEIGHTED. -/
def SCH.QMODE_STRICT : Fld := ⟨0x50, 0x10C, 0, 1, .rws, 0, .table, true⟩
/-- QMODE.WEIGHT (R309): Weight, 1 to 255; 0 reads as 1. Ignored when STRICT is 1.. -/
def SCH.QMODE_WEIGHT : Fld := ⟨0x50, 0x10C, 8, 8, .rws, 0, .table, true⟩
/-- SHAPE.RATE (R309): Shaper rate in ct; 0: shaper off (R296). -/
def SCH.SHAPE_RATE : Fld := ⟨0x50, 0x110, 0, 16, .rws, 0, .num, true⟩
/-- SHCFG.BURST (R309): Bucket size in 64-byte units; 0 reads as 1. -/
def SCH.SHCFG_BURST : Fld := ⟨0x50, 0x114, 0, 16, .rws, 512, .num, true⟩
/-- SHCFG.LMODE (R309): 0: CELL mode; 1: BYTE mode (R297). -/
def SCH.SHCFG_LMODE : Fld := ⟨0x50, 0x114, 16, 1, .rws, 0, .num, true⟩
/-- SHCFG.OVH (R309): Overhead in bytes, two's complement. -/
def SCH.SHCFG_OVH : Fld := ⟨0x50, 0x114, 24, 8, .rws, 0, .num, true⟩
/-- QSTAT.BACKLOG (R309): A packet is queued. -/
def SCH.QSTAT_BACKLOG : Fld := ⟨0x50, 0x118, 0, 1, .ro, 0, .num, false⟩
/-- QSTAT.CAND (R309): Candidate at the last selection (R291). -/
def SCH.QSTAT_CAND : Fld := ⟨0x50, 0x118, 1, 1, .ro, 0, .num, false⟩
/-- QSTAT.WHEEL (R309): Waiting in a wheel slot. -/
def SCH.QSTAT_WHEEL : Fld := ⟨0x50, 0x118, 2, 1, .ro, 0, .num, false⟩
/-- QSTAT.OVERFLOW (R309): Waiting in the overflow bucket. -/
def SCH.QSTAT_OVERFLOW : Fld := ⟨0x50, 0x118, 3, 1, .ro, 0, .num, false⟩
/-- QSTAT.NOCREDIT (R309): Head packet's VC holds no credit. -/
def SCH.QSTAT_NOCREDIT : Fld := ⟨0x50, 0x118, 4, 1, .ro, 0, .num, false⟩
/-- QSTAT.INPROG (R309): Head packet in progress. -/
def SCH.QSTAT_INPROG : Fld := ⟨0x50, 0x118, 5, 1, .ro, 0, .num, false⟩
/-- QSTAT.AGED (R309): Head packet aged (R295). -/
def SCH.QSTAT_AGED : Fld := ⟨0x50, 0x118, 6, 1, .ro, 0, .num, false⟩
/-- TOKENS.BYTES (R309): Shaper bucket, two's complement. -/
def SCH.TOKENS_BYTES : Fld := ⟨0x50, 0x11C, 0, 32, .ro, 32768, .hw, false⟩
/-- NETSLOT.SLOT (R309): Wheel slot of the queue's entry, valid while QSTAT.WHEEL is 1. -/
def SCH.NETSLOT_SLOT : Fld := ⟨0x50, 0x120, 0, 10, .ro, 0, .num, false⟩
/-- DEF.CELLS (R309): Weighted counter, two's complement (R294). -/
def SCH.DEF_CELLS : Fld := ⟨0x50, 0x124, 0, 32, .ro, 0, .num, false⟩
/-- QCELLS.COUNT (R309): Cells sent by the queue. -/
def SCH.QCELLS_COUNT : Fld := ⟨0x50, 0x128, 0, 32, .ro, 0, .num, false⟩
/-- QPKTS.COUNT (R309): Packets sent by the queue. -/
def SCH.QPKTS_COUNT : Fld := ⟨0x50, 0x12C, 0, 32, .ro, 0, .num, false⟩
/-- CNT_GREEN.COUNT (R309): Green cells sent, all queues. -/
def SCH.CNT_GREEN_COUNT : Fld := ⟨0x50, 0x140, 0, 32, .ro, 0, .num, false⟩
/-- CNT_YELLOW.COUNT (R309): Yellow cells sent. -/
def SCH.CNT_YELLOW_COUNT : Fld := ⟨0x50, 0x144, 0, 32, .ro, 0, .num, false⟩
/-- CNT_RED.COUNT (R309): Red cells sent. -/
def SCH.CNT_RED_COUNT : Fld := ⟨0x50, 0x148, 0, 32, .ro, 0, .num, false⟩
/-- CNT_AGED.COUNT (R309): Selections taken in tier 3 (R295). -/
def SCH.CNT_AGED_COUNT : Fld := ⟨0x50, 0x14C, 0, 32, .ro, 0, .num, false⟩
/-- CNT_OVF.COUNT (R309): Entries into the overflow bucket (R300). -/
def SCH.CNT_OVF_COUNT : Fld := ⟨0x50, 0x150, 0, 32, .ro, 0, .num, false⟩
/-- OVFSTAT.QUEUES (R309): Queues in the overflow bucket, one bit per class. -/
def SCH.OVFSTAT_QUEUES : Fld := ⟨0x50, 0x154, 0, 16, .ro, 0, .num, false⟩
/-- CNTCLR.GO (R309): Clear QCELLS and QPKTS of every queue, and 0x140–0x150. -/
def SCH.CNTCLR_GO : Fld := ⟨0x50, 0x158, 0, 1, .w1s, 0, .num, false⟩

/-- Fields of the SCH page with their word counts, part 0. -/
def SCH.part0 : List (Fld × Nat) :=
  [(SCH.WHEEL_GRAN, 1),
   (SCH.WHEEL_POS, 1),
   (SCH.AGEPRI_US, 1),
   (SCH.AGEPRI_SPACING, 1),
   (SCH.QSEL_CLASS, 1),
   (SCH.QMODE_STRICT, 1),
   (SCH.QMODE_WEIGHT, 1),
   (SCH.SHAPE_RATE, 1),
   (SCH.SHCFG_BURST, 1),
   (SCH.SHCFG_LMODE, 1),
   (SCH.SHCFG_OVH, 1),
   (SCH.QSTAT_BACKLOG, 1),
   (SCH.QSTAT_CAND, 1),
   (SCH.QSTAT_WHEEL, 1),
   (SCH.QSTAT_OVERFLOW, 1),
   (SCH.QSTAT_NOCREDIT, 1)]
/-- Fields of the SCH page with their word counts, part 1. -/
def SCH.part1 : List (Fld × Nat) :=
  [(SCH.QSTAT_INPROG, 1),
   (SCH.QSTAT_AGED, 1),
   (SCH.TOKENS_BYTES, 1),
   (SCH.NETSLOT_SLOT, 1),
   (SCH.DEF_CELLS, 1),
   (SCH.QCELLS_COUNT, 1),
   (SCH.QPKTS_COUNT, 1),
   (SCH.CNT_GREEN_COUNT, 1),
   (SCH.CNT_YELLOW_COUNT, 1),
   (SCH.CNT_RED_COUNT, 1),
   (SCH.CNT_AGED_COUNT, 1),
   (SCH.CNT_OVF_COUNT, 1),
   (SCH.OVFSTAT_QUEUES, 1),
   (SCH.CNTCLR_GO, 1)]
/-- Every field of the SCH page, with the number of its words. -/
def SCH.all : List (Fld × Nat) := SCH.part0 ++ SCH.part1

/-- MSEL.METER (R311): Meter selected, 0 to 8,190. The value 8,191 sets ESTAT.MSEL_INVALID, and the selected registers then read 0 and ignore writes.. -/
def MTR.MSEL_METER : Fld := ⟨0x60, 0x100, 0, 13, .rw, 0, .num, false⟩
/-- MCFG.AWARE (R311): 1: colour-aware; 0: colour-blind (R304). -/
def MTR.MCFG_AWARE : Fld := ⟨0x60, 0x104, 0, 1, .rw, 0, .num, false⟩
/-- MCFG.RED_DROP (R311): Discard red packets (R305). -/
def MTR.MCFG_RED_DROP : Fld := ⟨0x60, 0x104, 1, 1, .rw, 0, .num, false⟩
/-- MCFG.LMODE (R311): 0: CELL mode; 1: BYTE mode (R297). -/
def MTR.MCFG_LMODE : Fld := ⟨0x60, 0x104, 2, 1, .rw, 0, .num, false⟩
/-- MCFG.OVH (R311): Overhead in bytes, two's complement. -/
def MTR.MCFG_OVH : Fld := ⟨0x60, 0x104, 8, 8, .rw, 0, .num, false⟩
/-- MCIR.CT (R311): Committed rate, loaded by CRT (R269, R306, R307). -/
def MTR.MCIR_CT : Fld := ⟨0x60, 0x108, 0, 12, .rw, 0, .num, false⟩
/-- MPIR.CT (R311): Peak rate in ct; 0xFFFF: no limit, TP always full. -/
def MTR.MPIR_CT : Fld := ⟨0x60, 0x10C, 0, 16, .rw, 65535, .num, false⟩
/-- MCBS.UNITS (R311): Committed bucket in 64-byte units; 0 reads as 1. -/
def MTR.MCBS_UNITS : Fld := ⟨0x60, 0x110, 0, 16, .rw, 256, .num, false⟩
/-- MPBS.UNITS (R311): Peak bucket in 64-byte units; 0 reads as 1. -/
def MTR.MPBS_UNITS : Fld := ⟨0x60, 0x114, 0, 16, .rw, 4096, .num, false⟩
/-- MTC.BYTES (R311): TC, two's complement. -/
def MTR.MTC_BYTES : Fld := ⟨0x60, 0x118, 0, 32, .ro, 0, .hw, false⟩
/-- MTP.BYTES (R311): TP, two's complement. -/
def MTR.MTP_BYTES : Fld := ⟨0x60, 0x11C, 0, 32, .ro, 262144, .hw, false⟩
/-- MCNT_G.COUNT (R311): Packets coloured green. -/
def MTR.MCNT_G_COUNT : Fld := ⟨0x60, 0x120, 0, 32, .ro, 0, .num, false⟩
/-- MCNT_Y.COUNT (R311): Packets coloured yellow. -/
def MTR.MCNT_Y_COUNT : Fld := ⟨0x60, 0x124, 0, 32, .ro, 0, .num, false⟩
/-- MCNT_R.COUNT (R311): Packets coloured red, discarded ones included. -/
def MTR.MCNT_R_COUNT : Fld := ⟨0x60, 0x128, 0, 32, .ro, 0, .num, false⟩
/-- MCNT_DROP.COUNT (R311): Red packets discarded (R305). -/
def MTR.MCNT_DROP_COUNT : Fld := ⟨0x60, 0x12C, 0, 32, .ro, 0, .num, false⟩
/-- MINIT.GO (R311): Fill the selected meter's buckets (R306). -/
def MTR.MINIT_GO : Fld := ⟨0x60, 0x130, 0, 1, .w1s, 0, .num, false⟩
/-- MCLR.GO (R311): Clear 0x120–0x12C of the selected meter. -/
def MTR.MCLR_GO : Fld := ⟨0x60, 0x134, 0, 1, .w1s, 0, .num, false⟩
/-- CNT_UNMET.COUNT (R311): Packets injected at SOURCE entries with METER 0x1FFF (R303). -/
def MTR.CNT_UNMET_COUNT : Fld := ⟨0x60, 0x140, 0, 32, .ro, 0, .num, false⟩
/-- CNT_DROP.COUNT (R311): Red packets discarded, all meters. -/
def MTR.CNT_DROP_COUNT : Fld := ⟨0x60, 0x144, 0, 32, .ro, 0, .num, false⟩
/-- CNTCLR.GO (R311): Clear 0x140–0x144. -/
def MTR.CNTCLR_GO : Fld := ⟨0x60, 0x148, 0, 1, .w1s, 0, .num, false⟩

/-- Fields of the MTR page with their word counts, part 0. -/
def MTR.part0 : List (Fld × Nat) :=
  [(MTR.MSEL_METER, 1),
   (MTR.MCFG_AWARE, 1),
   (MTR.MCFG_RED_DROP, 1),
   (MTR.MCFG_LMODE, 1),
   (MTR.MCFG_OVH, 1),
   (MTR.MCIR_CT, 1),
   (MTR.MPIR_CT, 1),
   (MTR.MCBS_UNITS, 1),
   (MTR.MPBS_UNITS, 1),
   (MTR.MTC_BYTES, 1),
   (MTR.MTP_BYTES, 1),
   (MTR.MCNT_G_COUNT, 1),
   (MTR.MCNT_Y_COUNT, 1),
   (MTR.MCNT_R_COUNT, 1),
   (MTR.MCNT_DROP_COUNT, 1),
   (MTR.MINIT_GO, 1)]
/-- Fields of the MTR page with their word counts, part 1. -/
def MTR.part1 : List (Fld × Nat) :=
  [(MTR.MCLR_GO, 1),
   (MTR.CNT_UNMET_COUNT, 1),
   (MTR.CNT_DROP_COUNT, 1),
   (MTR.CNTCLR_GO, 1)]
/-- Every field of the MTR page, with the number of its words. -/
def MTR.all : List (Fld × Nat) := MTR.part0 ++ MTR.part1

/-- CFG.PRIO (R339): Crown priority; 0: not a candidate (R318). -/
def CAS.CFG_PRIO : Fld := ⟨0x68, 0x100, 0, 8, .rwl, 0, .cfg, false⟩
/-- CFG.SPARE (R339): Pool IDs (R323, R324). The configuration default is 8 for HEAD and TRUNK and 0 for ZONE.. -/
def CAS.CFG_SPARE : Fld := ⟨0x68, 0x100, 8, 8, .rwl, 0, .cfg, false⟩
/-- CFG.UPMASK (R339): Ports allowed as uplinks (R322). -/
def CAS.CFG_UPMASK : Fld := ⟨0x68, 0x100, 16, 8, .rwl, 0, .cfg, false⟩
/-- DISC.SETTLE_MS (R339): Settle time in ms; 0 reads as 1. -/
def CAS.DISC_SETTLE_MS : Fld := ⟨0x68, 0x104, 0, 8, .rw, 20, .num, true⟩
/-- DISC.NBR_MS (R339): NEIGHBOUR period in ms; 0 reads as 1. -/
def CAS.DISC_NBR_MS : Fld := ⟨0x68, 0x104, 8, 8, .rw, 1, .num, true⟩
/-- DISC.BASE (R339): The crown's node ID (R319). -/
def CAS.DISC_BASE : Fld := ⟨0x68, 0x104, 16, 14, .rwl, 0, .num, false⟩
/-- CTL.REDISCOVER (R339): At the crown, start a new DGEN under R319; ignored at other nodes. -/
def CAS.CTL_REDISCOVER : Fld := ⟨0x68, 0x108, 0, 1, .w1s, 0, .num, false⟩
/-- CTL.YIELD (R339): At the crown, hand over to the standby (R330). -/
def CAS.CTL_YIELD : Fld := ⟨0x68, 0x108, 1, 1, .w1s, 0, .num, false⟩
/-- STAT.DSTATE (R339): 0 IDLE, 1 ELECT, 2 WAIT_COUNT, 3 WAIT_GRANT, 4 GRANTED, 5 NO_ID, 6 ISOLATED. -/
def CAS.STAT_DSTATE : Fld := ⟨0x68, 0x10C, 0, 3, .ro, 0, .num, false⟩
/-- STAT.CROLE (R339): 0 none, 1 crown, 2 standby. -/
def CAS.STAT_CROLE : Fld := ⟨0x68, 0x10C, 4, 2, .ro, 0, .num, false⟩
/-- STAT.CAND (R339): The node is a candidate. -/
def CAS.STAT_CAND : Fld := ⟨0x68, 0x10C, 6, 1, .ro, 0, .hw, false⟩
/-- NODEID.ID (R339): Node ID. -/
def CAS.NODEID_ID : Fld := ⟨0x68, 0x110, 0, 14, .ro, 0, .num, false⟩
/-- NODEID.VALID (R339): Node ID valid. -/
def CAS.NODEID_VALID : Fld := ⟨0x68, 0x110, 15, 1, .ro, 0, .num, false⟩
/-- NODEID.TIER (R339): Tier, 15 when unknown. -/
def CAS.NODEID_TIER : Fld := ⟨0x68, 0x110, 16, 4, .ro, 15, .num, false⟩
/-- BLOCK.FIRST (R339): First ID of the block. -/
def CAS.BLOCK_FIRST : Fld := ⟨0x68, 0x114, 0, 14, .ro, 0, .num, false⟩
/-- BLOCK.SIZE (R339): Block size. -/
def CAS.BLOCK_SIZE : Fld := ⟨0x68, 0x114, 16, 15, .ro, 0, .num, false⟩
/-- POOL.FREE (R339): Free pool IDs. -/
def CAS.POOL_FREE : Fld := ⟨0x68, 0x118, 0, 15, .ro, 0, .num, false⟩
/-- EPOCH.EPOCH (R339): Crown epoch. -/
def CAS.EPOCH_EPOCH : Fld := ⟨0x68, 0x11C, 0, 16, .ro, 0, .num, false⟩
/-- EPOCH.DGEN (R339): Discovery generation. -/
def CAS.EPOCH_DGEN : Fld := ⟨0x68, 0x11C, 16, 16, .ro, 0, .num, false⟩
/-- CROWN.NODE (R339): Crown node ID. -/
def CAS.CROWN_NODE : Fld := ⟨0x68, 0x120, 0, 14, .ro, 0, .num, false⟩
/-- CROWN.VALID (R339): NODE valid. -/
def CAS.CROWN_VALID : Fld := ⟨0x68, 0x120, 15, 1, .ro, 0, .num, false⟩
/-- CROWN.STANDBY (R339): Standby crown node ID. -/
def CAS.CROWN_STANDBY : Fld := ⟨0x68, 0x120, 16, 14, .ro, 0, .num, false⟩
/-- CROWN.S_VALID (R339): STANDBY valid. -/
def CAS.CROWN_S_VALID : Fld := ⟨0x68, 0x120, 31, 1, .ro, 0, .num, false⟩
/-- BEST_LO.ID (R339): BEST device ID, low word. -/
def CAS.BEST_LO_ID : Fld := ⟨0x68, 0x124, 0, 32, .ro, 0, .num, false⟩
/-- BEST_HI.ID (R339): BEST device ID, high word. -/
def CAS.BEST_HI_ID : Fld := ⟨0x68, 0x128, 0, 32, .ro, 0, .num, false⟩
/-- BESTINFO.PRIO (R339): BEST PRIO. -/
def CAS.BESTINFO_PRIO : Fld := ⟨0x68, 0x12C, 0, 8, .ro, 0, .num, false⟩
/-- BESTINFO.DIST (R339): DIST. -/
def CAS.BESTINFO_DIST : Fld := ⟨0x68, 0x12C, 8, 4, .ro, 15, .num, false⟩
/-- PSEL.PORT (R339): Port selected. -/
def CAS.PSEL_PORT : Fld := ⟨0x68, 0x130, 0, 3, .rw, 0, .num, false⟩
/-- NBR.NODE (R339): Partner node ID. -/
def CAS.NBR_NODE : Fld := ⟨0x68, 0x134, 0, 14, .ro, 0, .num, false⟩
/-- NBR.NODE_VALID (R339): NODE valid. -/
def CAS.NBR_NODE_VALID : Fld := ⟨0x68, 0x134, 15, 1, .ro, 0, .num, false⟩
/-- NBR.TIER (R339): Partner tier. -/
def CAS.NBR_TIER : Fld := ⟨0x68, 0x134, 16, 4, .ro, 15, .num, false⟩
/-- NBR.REL (R339): 0 none, 1 PARENT, 2 SPARENT, 3 CHILD, 4 SCHILD, 5 LATERAL (R314). -/
def CAS.NBR_REL : Fld := ⟨0x68, 0x134, 20, 3, .ro, 0, .num, false⟩
/-- NBR.STORED (R339): A NEIGHBOUR is stored. -/
def CAS.NBR_STORED : Fld := ⟨0x68, 0x134, 23, 1, .ro, 0, .num, false⟩
/-- NBRCNT.COUNT (R339): COUNT received from the partner. -/
def CAS.NBRCNT_COUNT : Fld := ⟨0x68, 0x138, 0, 15, .ro, 0, .num, false⟩
/-- NBRCNT.VALID (R339): COUNT valid. -/
def CAS.NBRCNT_VALID : Fld := ⟨0x68, 0x138, 15, 1, .ro, 0, .num, false⟩
/-- PCROWN.NODE (R339): Previous crown (R327). Loaded with the old CAS.CROWN.NODE whenever that field changes to another node. At a crown, also loaded with any other node that a received NEIGHBOUR names as crown.. -/
def CAS.PCROWN_NODE : Fld := ⟨0x68, 0x13C, 0, 14, .ro, 0, .num, false⟩
/-- PCROWN.VALID (R339): NODE valid. -/
def CAS.PCROWN_VALID : Fld := ⟨0x68, 0x13C, 15, 1, .ro, 0, .num, false⟩
/-- HB.PERIOD_MS (R339): Heartbeat period in ms; 0 reads as 1. -/
def CAS.HB_PERIOD_MS : Fld := ⟨0x68, 0x140, 0, 8, .rw, 5, .num, true⟩
/-- HB.MISS (R339): Periods missed before takeover; 0 reads as 1. -/
def CAS.HB_MISS : Fld := ⟨0x68, 0x140, 8, 4, .rw, 4, .num, true⟩
/-- HBSTAT.AGE_MS (R339): ms since the last CROWN_HB, sent or received. -/
def CAS.HBSTAT_AGE_MS : Fld := ⟨0x68, 0x144, 0, 16, .ro, 0, .num, false⟩
/-- HBSTAT.OPEN (R339): Open intents (R329). -/
def CAS.HBSTAT_OPEN : Fld := ⟨0x68, 0x144, 16, 16, .ro, 0, .num, false⟩
/-- TSYNC.KP_SHIFT (R339): Phase gain exponent (R332). -/
def CAS.TSYNC_KP_SHIFT : Fld := ⟨0x68, 0x150, 0, 4, .rw, 1, .num, true⟩
/-- TSYNC.KI_SHIFT (R339): Frequency gain exponent. -/
def CAS.TSYNC_KI_SHIFT : Fld := ⟨0x68, 0x150, 4, 4, .rw, 3, .num, true⟩
/-- TSYNC.STEP_NS (R339): Step threshold in ns. -/
def CAS.TSYNC_STEP_NS : Fld := ⟨0x68, 0x150, 8, 16, .rw, 1000, .num, true⟩
/-- TSYNC.LOCK_NS (R339): Lock threshold in ns. -/
def CAS.TSYNC_LOCK_NS : Fld := ⟨0x68, 0x150, 24, 8, .rw, 16, .num, true⟩
/-- TSTAT.SRCPORT (R339): Time source port. -/
def CAS.TSTAT_SRCPORT : Fld := ⟨0x68, 0x154, 0, 3, .ro, 0, .num, false⟩
/-- TSTAT.SRC_VALID (R339): A source is in use. -/
def CAS.TSTAT_SRC_VALID : Fld := ⟨0x68, 0x154, 3, 1, .ro, 0, .num, false⟩
/-- TSTAT.LOCKED (R339): Locked (R332). -/
def CAS.TSTAT_LOCKED : Fld := ⟨0x68, 0x154, 4, 1, .ro, 0, .num, false⟩
/-- TSTAT.HOLDOVER (R339): No source. -/
def CAS.TSTAT_HOLDOVER : Fld := ⟨0x68, 0x154, 5, 1, .ro, 0, .num, false⟩
/-- TOFFSET.NS (R339): Last OFFSET applied, signed. -/
def CAS.TOFFSET_NS : Fld := ⟨0x68, 0x158, 0, 32, .ro, 0, .num, false⟩
/-- FADJ.PPB (R339): Frequency adjustment in 1/1,024 ppb, signed. -/
def CAS.FADJ_PPB : Fld := ⟨0x68, 0x15C, 0, 32, .ro, 0, .num, false⟩
/-- CNT_STEP.COUNT (R339): Time steps. -/
def CAS.CNT_STEP_COUNT : Fld := ⟨0x68, 0x160, 0, 16, .ro, 0, .num, false⟩
/-- CNT_NBR.COUNT (R339): NEIGHBOUR cells received. -/
def CAS.CNT_NBR_COUNT : Fld := ⟨0x68, 0x164, 0, 32, .ro, 0, .num, false⟩
/-- CNT_EVENT.COUNT (R339): LINK_EVENTs sent, and at the crown, twin-path tunnels running on one path. -/
def CAS.CNT_EVENT_COUNT : Fld := ⟨0x68, 0x168, 0, 32, .ro, 0, .num, false⟩
/-- CNT_TAKEOVER.COUNT (R339): Takeovers made by this node. -/
def CAS.CNT_TAKEOVER_COUNT : Fld := ⟨0x68, 0x16C, 0, 16, .ro, 0, .num, false⟩
/-- CNTCLR.GO (R339): Clear 0x160–0x16C. -/
def CAS.CNTCLR_GO : Fld := ⟨0x68, 0x170, 0, 1, .w1s, 0, .num, false⟩

/-- Fields of the CAS page with their word counts, part 0. -/
def CAS.part0 : List (Fld × Nat) :=
  [(CAS.CFG_PRIO, 1),
   (CAS.CFG_SPARE, 1),
   (CAS.CFG_UPMASK, 1),
   (CAS.DISC_SETTLE_MS, 1),
   (CAS.DISC_NBR_MS, 1),
   (CAS.DISC_BASE, 1),
   (CAS.CTL_REDISCOVER, 1),
   (CAS.CTL_YIELD, 1),
   (CAS.STAT_DSTATE, 1),
   (CAS.STAT_CROLE, 1),
   (CAS.STAT_CAND, 1),
   (CAS.NODEID_ID, 1),
   (CAS.NODEID_VALID, 1),
   (CAS.NODEID_TIER, 1),
   (CAS.BLOCK_FIRST, 1),
   (CAS.BLOCK_SIZE, 1)]
/-- Fields of the CAS page with their word counts, part 1. -/
def CAS.part1 : List (Fld × Nat) :=
  [(CAS.POOL_FREE, 1),
   (CAS.EPOCH_EPOCH, 1),
   (CAS.EPOCH_DGEN, 1),
   (CAS.CROWN_NODE, 1),
   (CAS.CROWN_VALID, 1),
   (CAS.CROWN_STANDBY, 1),
   (CAS.CROWN_S_VALID, 1),
   (CAS.BEST_LO_ID, 1),
   (CAS.BEST_HI_ID, 1),
   (CAS.BESTINFO_PRIO, 1),
   (CAS.BESTINFO_DIST, 1),
   (CAS.PSEL_PORT, 1),
   (CAS.NBR_NODE, 1),
   (CAS.NBR_NODE_VALID, 1),
   (CAS.NBR_TIER, 1),
   (CAS.NBR_REL, 1)]
/-- Fields of the CAS page with their word counts, part 2. -/
def CAS.part2 : List (Fld × Nat) :=
  [(CAS.NBR_STORED, 1),
   (CAS.NBRCNT_COUNT, 1),
   (CAS.NBRCNT_VALID, 1),
   (CAS.PCROWN_NODE, 1),
   (CAS.PCROWN_VALID, 1),
   (CAS.HB_PERIOD_MS, 1),
   (CAS.HB_MISS, 1),
   (CAS.HBSTAT_AGE_MS, 1),
   (CAS.HBSTAT_OPEN, 1),
   (CAS.TSYNC_KP_SHIFT, 1),
   (CAS.TSYNC_KI_SHIFT, 1),
   (CAS.TSYNC_STEP_NS, 1),
   (CAS.TSYNC_LOCK_NS, 1),
   (CAS.TSTAT_SRCPORT, 1),
   (CAS.TSTAT_SRC_VALID, 1),
   (CAS.TSTAT_LOCKED, 1)]
/-- Fields of the CAS page with their word counts, part 3. -/
def CAS.part3 : List (Fld × Nat) :=
  [(CAS.TSTAT_HOLDOVER, 1),
   (CAS.TOFFSET_NS, 1),
   (CAS.FADJ_PPB, 1),
   (CAS.CNT_STEP_COUNT, 1),
   (CAS.CNT_NBR_COUNT, 1),
   (CAS.CNT_EVENT_COUNT, 1),
   (CAS.CNT_TAKEOVER_COUNT, 1),
   (CAS.CNTCLR_GO, 1)]
/-- Every field of the CAS page, with the number of its words. -/
def CAS.all : List (Fld × Nat) := CAS.part0 ++ CAS.part1 ++ CAS.part2 ++ CAS.part3

end Sys2Proof.Machine
end

