-- ==== Sys2Proof/Machine/RegMapB.lean ====
section
/-! DEFINITION. Register fields, one definition for each row of the register tables of the spec: the pages of chapters 11 to 15. -/

namespace Sys2Proof.Machine

/-- CTL.HPD (R381): Assert hot-plug to the source. -/
def DCP.CTL_HPD : Fld := ⟨0x75, 0x100, 0, 1, .rw, 0, .num, true⟩
/-- CTL.CAPEN (R381): Enable writing into the ring (R349, R354). -/
def DCP.CTL_CAPEN : Fld := ⟨0x75, 0x100, 1, 1, .rw, 0, .num, true⟩
/-- RING.FIRST (R381): First slot of the capture ring. -/
def DCP.RING_FIRST : Fld := ⟨0x75, 0x104, 0, 8, .rw, 0, .num, true⟩
/-- LINK.RATE (R381): 0 none, 1 RBR, 2 HBR, 3 HBR2, 4 HBR3, 5 UHBR10. -/
def DCP.LINK_RATE : Fld := ⟨0x75, 0x108, 0, 3, .ro, 0, .num, false⟩
/-- LINK.LANES (R381): 0 none, 1 ×1, 2 ×2, 3 ×4. -/
def DCP.LINK_LANES : Fld := ⟨0x75, 0x108, 4, 2, .ro, 0, .num, false⟩
/-- LINK.TRAINED (R381): Link trained and in lock. -/
def DCP.LINK_TRAINED : Fld := ⟨0x75, 0x108, 6, 1, .ro, 0, .num, false⟩
/-- LINK.PIN_D (R381): Pin assignment D in use. -/
def DCP.LINK_PIN_D : Fld := ⟨0x75, 0x108, 7, 1, .ro, 0, .num, false⟩
/-- MODE.HACT (R381): Captured active pixels per line. -/
def DCP.MODE_HACT : Fld := ⟨0x75, 0x10C, 0, 13, .ro, 0, .num, false⟩
/-- MODE.VACT (R381): Captured active lines. -/
def DCP.MODE_VACT : Fld := ⟨0x75, 0x10C, 16, 13, .ro, 0, .num, false⟩
/-- MODE2.PCLK (R381): Pixel clock in units of 100 kHz. -/
def DCP.MODE2_PCLK : Fld := ⟨0x75, 0x110, 0, 16, .ro, 0, .num, false⟩
/-- MODE2.BPC (R381): 6 or 8. -/
def DCP.MODE2_BPC : Fld := ⟨0x75, 0x110, 16, 4, .ro, 0, .num, false⟩
/-- CSTAT.FIT (R381): Captured mode equals the ring (R354). -/
def DCP.CSTAT_FIT : Fld := ⟨0x75, 0x114, 0, 1, .ro, 0, .num, false⟩
/-- CSTAT.WRITING (R381): A frame is being written. -/
def DCP.CSTAT_WRITING : Fld := ⟨0x75, 0x114, 1, 1, .ro, 0, .num, false⟩
/-- CSTAT.FRAME (R381): Low 16 bits of the frame count. -/
def DCP.CSTAT_FRAME : Fld := ⟨0x75, 0x114, 16, 16, .ro, 0, .num, false⟩
/-- CNT_FRAMES.COUNT (R381): Frames committed. -/
def DCP.CNT_FRAMES_COUNT : Fld := ⟨0x75, 0x118, 0, 32, .ro, 0, .num, false⟩
/-- CNT_NOSLOT.COUNT (R381): Frames dropped for lack of a slot (R352). -/
def DCP.CNT_NOSLOT_COUNT : Fld := ⟨0x75, 0x11C, 0, 32, .ro, 0, .num, false⟩
/-- CNT_ABORT.COUNT (R381): Frames aborted (R354). -/
def DCP.CNT_ABORT_COUNT : Fld := ⟨0x75, 0x120, 0, 16, .ro, 0, .num, false⟩
/-- CNT_MODECHG.COUNT (R381): Mode changes (R354). -/
def DCP.CNT_MODECHG_COUNT : Fld := ⟨0x75, 0x124, 0, 16, .ro, 0, .num, false⟩
/-- CNTCLR.GO (R381): Clear 0x118–0x124. -/
def DCP.CNTCLR_GO : Fld := ⟨0x75, 0x128, 0, 1, .w1s, 0, .num, false⟩
/-- EDID.DATA, 128 words (R381): 512-byte EDID served to the source, byte 0 at [7:0] of 0x200. -/
def DCP.EDID : Fld := ⟨0x75, 0x200, 0, 32, .rw, 0, .num, true⟩

/-- Fields of the DCP page with their word counts, part 0. -/
def DCP.part0 : List (Fld × Nat) :=
  [(DCP.CTL_HPD, 1),
   (DCP.CTL_CAPEN, 1),
   (DCP.RING_FIRST, 1),
   (DCP.LINK_RATE, 1),
   (DCP.LINK_LANES, 1),
   (DCP.LINK_TRAINED, 1),
   (DCP.LINK_PIN_D, 1),
   (DCP.MODE_HACT, 1),
   (DCP.MODE_VACT, 1),
   (DCP.MODE2_PCLK, 1),
   (DCP.MODE2_BPC, 1),
   (DCP.CSTAT_FIT, 1),
   (DCP.CSTAT_WRITING, 1),
   (DCP.CSTAT_FRAME, 1),
   (DCP.CNT_FRAMES_COUNT, 1),
   (DCP.CNT_NOSLOT_COUNT, 1)]
/-- Fields of the DCP page with their word counts, part 1. -/
def DCP.part1 : List (Fld × Nat) :=
  [(DCP.CNT_ABORT_COUNT, 1),
   (DCP.CNT_MODECHG_COUNT, 1),
   (DCP.CNTCLR_GO, 1),
   (DCP.EDID, 128)]
/-- Every field of the DCP page, with the number of its words. -/
def DCP.all : List (Fld × Nat) := DCP.part0 ++ DCP.part1

/-- WINEN_LO.EN (R383): Host windows 0–31 enabled (R349, R356). -/
def DTL.WINEN_LO_EN : Fld := ⟨0x77, 0x100, 0, 32, .rw, 0, .num, true⟩
/-- WINEN_HI.EN (R383): Host windows 32–63. -/
def DTL.WINEN_HI_EN : Fld := ⟨0x77, 0x104, 0, 32, .rw, 0, .num, true⟩
/-- FILLSTAT.BUSY (R383): A ring is being zero-filled (R349). -/
def DTL.FILLSTAT_BUSY : Fld := ⟨0x77, 0x108, 0, 1, .ro, 0, .num, false⟩
/-- SSEL.STREAM (R383): Send stream selected. -/
def DTL.SSEL_STREAM : Fld := ⟨0x77, 0x110, 0, 6, .rw, 0, .num, false⟩
/-- SCTL.EN (R383): Stream enabled. -/
def DTL.SCTL_EN : Fld := ⟨0x77, 0x114, 0, 1, .rw, 0, .num, true⟩
/-- SCTL.FULL (R383): Send every tile in the next frame (R363). -/
def DTL.SCTL_FULL : Fld := ⟨0x77, 0x114, 1, 1, .w1s, 0, .num, false⟩
/-- SCTL.COPY_EN (R383): COPY allowed. -/
def DTL.SCTL_COPY_EN : Fld := ⟨0x77, 0x114, 2, 1, .rw, 1, .num, true⟩
/-- SSRC.FIRST (R383): First slot of the source ring. -/
def DTL.SSRC_FIRST : Fld := ⟨0x77, 0x118, 0, 8, .rw, 0, .num, true⟩
/-- SSRC.REFUNIT (R383): First unit of REFSIG (R362). -/
def DTL.SSRC_REFUNIT : Fld := ⟨0x77, 0x118, 8, 8, .rw, 0, .num, true⟩
/-- STID.TID (R383): Tunnel; commit point: next frame start. -/
def DTL.STID_TID : Fld := ⟨0x77, 0x11C, 0, 20, .rws, 0, .num, true⟩
/-- SPACE.PACE (R383): Pace in ct (R365). -/
def DTL.SPACE_PACE : Fld := ⟨0x77, 0x120, 0, 12, .rw, 400, .num, true⟩
/-- SPACE.REFRESH (R383): Refresh tiles per idle frame (R366). -/
def DTL.SPACE_REFRESH : Fld := ⟨0x77, 0x120, 16, 8, .rw, 8, .num, true⟩
/-- REPAIR.FIRST (R383): First tile of the range. -/
def DTL.REPAIR_FIRST : Fld := ⟨0x77, 0x124, 0, 13, .rw, 0, .num, false⟩
/-- REPAIR.LAST (R383): Last tile of the range. -/
def DTL.REPAIR_LAST : Fld := ⟨0x77, 0x124, 16, 13, .rw, 0, .num, false⟩
/-- REPAIR.GO (R383): Queue the range (R367). -/
def DTL.REPAIR_GO : Fld := ⟨0x77, 0x124, 31, 1, .w1s, 0, .num, false⟩
/-- SSTAT.BUSY (R383): A frame is being sent. -/
def DTL.SSTAT_BUSY : Fld := ⟨0x77, 0x128, 0, 1, .ro, 0, .num, false⟩
/-- SSTAT.REPAIRS (R383): Ranges queued. -/
def DTL.SSTAT_REPAIRS : Fld := ⟨0x77, 0x128, 1, 4, .ro, 0, .num, false⟩
/-- SSTAT.REPAIR_OVF (R383): A range overflowed into FULL. -/
def DTL.SSTAT_REPAIR_OVF : Fld := ⟨0x77, 0x128, 5, 1, .w1c, 0, .num, false⟩
/-- SSTAT.FRAME (R383): Low 16 bits of the frame count sent. -/
def DTL.SSTAT_FRAME : Fld := ⟨0x77, 0x128, 16, 16, .ro, 0, .num, false⟩
/-- S_CNT_FRAMES.COUNT (R383): Frames sent. -/
def DTL.S_CNT_FRAMES_COUNT : Fld := ⟨0x77, 0x12C, 0, 32, .ro, 0, .num, false⟩
/-- S_CNT_SKIP.COUNT (R383): Frames skipped (R369). -/
def DTL.S_CNT_SKIP_COUNT : Fld := ⟨0x77, 0x130, 0, 32, .ro, 0, .num, false⟩
/-- S_CNT_RAW.COUNT (R383): RAW tiles sent. -/
def DTL.S_CNT_RAW_COUNT : Fld := ⟨0x77, 0x134, 0, 32, .ro, 0, .num, false⟩
/-- S_CNT_FILL.COUNT (R383): FILL tiles sent. -/
def DTL.S_CNT_FILL_COUNT : Fld := ⟨0x77, 0x138, 0, 32, .ro, 0, .num, false⟩
/-- S_CNT_COPY.COUNT (R383): COPY tiles sent. -/
def DTL.S_CNT_COPY_COUNT : Fld := ⟨0x77, 0x13C, 0, 32, .ro, 0, .num, false⟩
/-- S_CNT_FORCED.COUNT (R383): Tiles sent with FORCED set. -/
def DTL.S_CNT_FORCED_COUNT : Fld := ⟨0x77, 0x140, 0, 32, .ro, 0, .num, false⟩
/-- RSEL.STREAM (R383): Receive stream selected. -/
def DTL.RSEL_STREAM : Fld := ⟨0x77, 0x180, 0, 3, .rw, 0, .num, false⟩
/-- RCTL.EN (R383): Stream enabled. -/
def DTL.RCTL_EN : Fld := ⟨0x77, 0x184, 0, 1, .rw, 0, .num, true⟩
/-- RRING.FIRST (R383): First slot of the receive ring. -/
def DTL.RRING_FIRST : Fld := ⟨0x77, 0x188, 0, 8, .rw, 0, .num, true⟩
/-- RTID0.TID (R383): First accepted tunnel. -/
def DTL.RTID0_TID : Fld := ⟨0x77, 0x18C, 0, 20, .rw, 0, .num, true⟩
/-- RTID0.VALID (R383): TID valid. -/
def DTL.RTID0_VALID : Fld := ⟨0x77, 0x18C, 31, 1, .rw, 0, .num, true⟩
/-- RTID1.TID (R383): Second accepted tunnel (R377). -/
def DTL.RTID1_TID : Fld := ⟨0x77, 0x190, 0, 20, .rw, 0, .num, true⟩
/-- RTID1.VALID (R383): TID valid. -/
def DTL.RTID1_VALID : Fld := ⟨0x77, 0x190, 31, 1, .rw, 0, .num, true⟩
/-- RSTAT.SYNC (R383): R374. -/
def DTL.RSTAT_SYNC : Fld := ⟨0x77, 0x194, 0, 1, .ro, 0, .num, false⟩
/-- RSTAT.OPEN (R383): A frame is open. -/
def DTL.RSTAT_OPEN : Fld := ⟨0x77, 0x194, 1, 1, .ro, 0, .num, false⟩
/-- RSTAT.CATCHUP (R383): Catch-up running. -/
def DTL.RSTAT_CATCHUP : Fld := ⟨0x77, 0x194, 2, 1, .ro, 0, .num, false⟩
/-- RSTAT.GAP_MERGED (R383): A range was merged into a full list (R375). -/
def DTL.RSTAT_GAP_MERGED : Fld := ⟨0x77, 0x194, 3, 1, .w1c, 0, .num, false⟩
/-- RSTAT.GAPS (R383): Ranges in the gap list. -/
def DTL.RSTAT_GAPS : Fld := ⟨0x77, 0x194, 4, 4, .ro, 0, .num, false⟩
/-- RSTAT.FRAME (R383): Last FRAME received. -/
def DTL.RSTAT_FRAME : Fld := ⟨0x77, 0x194, 16, 16, .ro, 0, .num, false⟩
/-- RGAP.FIRST (R383): Oldest gap range, first tile. -/
def DTL.RGAP_FIRST : Fld := ⟨0x77, 0x198, 0, 13, .ro, 0, .num, false⟩
/-- RGAP.LAST (R383): Its last tile. -/
def DTL.RGAP_LAST : Fld := ⟨0x77, 0x198, 16, 13, .ro, 0, .num, false⟩
/-- RGAP.VALID (R383): A range is held. -/
def DTL.RGAP_VALID : Fld := ⟨0x77, 0x198, 31, 1, .ro, 0, .num, false⟩
/-- RGAPPOP.GO (R383): Remove the oldest range. -/
def DTL.RGAPPOP_GO : Fld := ⟨0x77, 0x19C, 0, 1, .w1s, 0, .num, false⟩
/-- R_CNT_FRAMES.COUNT (R383): Frames ended, commits and empty ENDs. -/
def DTL.R_CNT_FRAMES_COUNT : Fld := ⟨0x77, 0x1A0, 0, 32, .ro, 0, .num, false⟩
/-- R_CNT_TILES.COUNT (R383): Tiles written. -/
def DTL.R_CNT_TILES_COUNT : Fld := ⟨0x77, 0x1A4, 0, 32, .ro, 0, .num, false⟩
/-- R_CNT_LOST.COUNT (R383): Tile packets missing by ORD (R371). -/
def DTL.R_CNT_LOST_COUNT : Fld := ⟨0x77, 0x1A8, 0, 32, .ro, 0, .num, false⟩
/-- R_CNT_SIGERR.COUNT (R383): R373. -/
def DTL.R_CNT_SIGERR_COUNT : Fld := ⟨0x77, 0x1AC, 0, 16, .ro, 0, .num, false⟩
/-- R_CNT_INCOMPLETE.COUNT (R383): Frames closed without END. -/
def DTL.R_CNT_INCOMPLETE_COUNT : Fld := ⟨0x77, 0x1B0, 0, 16, .ro, 0, .num, false⟩
/-- R_CNT_NOSLOT.COUNT (R383): Frames discarded for lack of a slot (R352). -/
def DTL.R_CNT_NOSLOT_COUNT : Fld := ⟨0x77, 0x1B4, 0, 16, .ro, 0, .num, false⟩
/-- CNT_NOSTREAM.COUNT (R383): DISPLAY packets no stream accepted (R370). -/
def DTL.CNT_NOSTREAM_COUNT : Fld := ⟨0x77, 0x1C0, 0, 32, .ro, 0, .num, false⟩
/-- CNT_GUARD.COUNT (R383): Writes dropped by the slot guard (R351). -/
def DTL.CNT_GUARD_COUNT : Fld := ⟨0x77, 0x1C4, 0, 32, .ro, 0, .num, false⟩
/-- CNT_DISORDER.COUNT (R383): Host frames signed on the read path (R359). -/
def DTL.CNT_DISORDER_COUNT : Fld := ⟨0x77, 0x1C8, 0, 16, .ro, 0, .num, false⟩
/-- CNTCLR.GO (R383): Clear every count of every stream, and 0x1C0–0x1C8. -/
def DTL.CNTCLR_GO : Fld := ⟨0x77, 0x1CC, 0, 1, .w1s, 0, .num, false⟩

/-- Fields of the DTL page with their word counts, part 0. -/
def DTL.part0 : List (Fld × Nat) :=
  [(DTL.WINEN_LO_EN, 1),
   (DTL.WINEN_HI_EN, 1),
   (DTL.FILLSTAT_BUSY, 1),
   (DTL.SSEL_STREAM, 1),
   (DTL.SCTL_EN, 1),
   (DTL.SCTL_FULL, 1),
   (DTL.SCTL_COPY_EN, 1),
   (DTL.SSRC_FIRST, 1),
   (DTL.SSRC_REFUNIT, 1),
   (DTL.STID_TID, 1),
   (DTL.SPACE_PACE, 1),
   (DTL.SPACE_REFRESH, 1),
   (DTL.REPAIR_FIRST, 1),
   (DTL.REPAIR_LAST, 1),
   (DTL.REPAIR_GO, 1),
   (DTL.SSTAT_BUSY, 1)]
/-- Fields of the DTL page with their word counts, part 1. -/
def DTL.part1 : List (Fld × Nat) :=
  [(DTL.SSTAT_REPAIRS, 1),
   (DTL.SSTAT_REPAIR_OVF, 1),
   (DTL.SSTAT_FRAME, 1),
   (DTL.S_CNT_FRAMES_COUNT, 1),
   (DTL.S_CNT_SKIP_COUNT, 1),
   (DTL.S_CNT_RAW_COUNT, 1),
   (DTL.S_CNT_FILL_COUNT, 1),
   (DTL.S_CNT_COPY_COUNT, 1),
   (DTL.S_CNT_FORCED_COUNT, 1),
   (DTL.RSEL_STREAM, 1),
   (DTL.RCTL_EN, 1),
   (DTL.RRING_FIRST, 1),
   (DTL.RTID0_TID, 1),
   (DTL.RTID0_VALID, 1),
   (DTL.RTID1_TID, 1),
   (DTL.RTID1_VALID, 1)]
/-- Fields of the DTL page with their word counts, part 2. -/
def DTL.part2 : List (Fld × Nat) :=
  [(DTL.RSTAT_SYNC, 1),
   (DTL.RSTAT_OPEN, 1),
   (DTL.RSTAT_CATCHUP, 1),
   (DTL.RSTAT_GAP_MERGED, 1),
   (DTL.RSTAT_GAPS, 1),
   (DTL.RSTAT_FRAME, 1),
   (DTL.RGAP_FIRST, 1),
   (DTL.RGAP_LAST, 1),
   (DTL.RGAP_VALID, 1),
   (DTL.RGAPPOP_GO, 1),
   (DTL.R_CNT_FRAMES_COUNT, 1),
   (DTL.R_CNT_TILES_COUNT, 1),
   (DTL.R_CNT_LOST_COUNT, 1),
   (DTL.R_CNT_SIGERR_COUNT, 1),
   (DTL.R_CNT_INCOMPLETE_COUNT, 1),
   (DTL.R_CNT_NOSLOT_COUNT, 1)]
/-- Fields of the DTL page with their word counts, part 3. -/
def DTL.part3 : List (Fld × Nat) :=
  [(DTL.CNT_NOSTREAM_COUNT, 1),
   (DTL.CNT_GUARD_COUNT, 1),
   (DTL.CNT_DISORDER_COUNT, 1),
   (DTL.CNTCLR_GO, 1)]
/-- Every field of the DTL page, with the number of its words. -/
def DTL.all : List (Fld × Nat) := DTL.part0 ++ DTL.part1 ++ DTL.part2 ++ DTL.part3

/-- SUMMARY.DHD (R406): ESTAT not 0 on DHD0–DHD3. -/
def DSP.SUMMARY_DHD : Fld := ⟨0x70, 0x100, 0, 4, .ro, 0, .num, false⟩
/-- SUMMARY.DPT (R406): DPT0–DPT3. -/
def DSP.SUMMARY_DPT : Fld := ⟨0x70, 0x100, 4, 4, .ro, 0, .num, false⟩
/-- SUMMARY.DCP (R406): DCP0–DCP1. -/
def DSP.SUMMARY_DCP : Fld := ⟨0x70, 0x100, 8, 2, .ro, 0, .num, false⟩
/-- SUMMARY.DTL (R406): DTL. -/
def DSP.SUMMARY_DTL : Fld := ⟨0x70, 0x100, 10, 1, .ro, 0, .num, false⟩
/-- SUMMARY.DSP (R406): DSP itself. -/
def DSP.SUMMARY_DSP : Fld := ⟨0x70, 0x100, 11, 1, .ro, 0, .num, false⟩
/-- BUDGET.USED (R406): Sum of PCLK of heads not OFF, in Mpx/s, rounded up (R389). -/
def DSP.BUDGET_USED : Fld := ⟨0x70, 0x104, 0, 13, .ro, 0, .num, false⟩
/-- BUDGET.LIMIT (R406): Scan-out limit in Mpx/s. -/
def DSP.BUDGET_LIMIT : Fld := ⟨0x70, 0x104, 16, 13, .ro, 4400, .num, false⟩
/-- VBSTAT.VBLANK (R406): Head in vertical blanking, one bit per head. -/
def DSP.VBSTAT_VBLANK : Fld := ⟨0x70, 0x108, 0, 4, .ro, 0, .num, false⟩
/-- VBSTAT.ODD (R406): Low bit of each head's STAT.FRAME. -/
def DSP.VBSTAT_ODD : Fld := ⟨0x70, 0x108, 8, 4, .ro, 0, .num, false⟩
/-- CTL.LOCKET (R406): Write locket records (R402). -/
def DSP.CTL_LOCKET : Fld := ⟨0x70, 0x10C, 0, 1, .rw, 1, .num, true⟩

/-- Fields of the DSP page with their word counts, part 0. -/
def DSP.part0 : List (Fld × Nat) :=
  [(DSP.SUMMARY_DHD, 1),
   (DSP.SUMMARY_DPT, 1),
   (DSP.SUMMARY_DCP, 1),
   (DSP.SUMMARY_DTL, 1),
   (DSP.SUMMARY_DSP, 1),
   (DSP.BUDGET_USED, 1),
   (DSP.BUDGET_LIMIT, 1),
   (DSP.VBSTAT_VBLANK, 1),
   (DSP.VBSTAT_ODD, 1),
   (DSP.CTL_LOCKET, 1)]
/-- Every field of the DSP page, with the number of its words. -/
def DSP.all : List (Fld × Nat) := DSP.part0

/-- SRC.RING (R408): First slot of the ring read (R385). -/
def DHD.SRC_RING : Fld := ⟨0x71, 0x100, 0, 8, .rws, 0, .num, true⟩
/-- SRC.EN (R408): Read the ring (R394). -/
def DHD.SRC_EN : Fld := ⟨0x71, 0x100, 8, 1, .rws, 0, .num, true⟩
/-- PCLK.KHZ (R408): Pixel rate in kHz (R388). -/
def DHD.PCLK_KHZ : Fld := ⟨0x71, 0x104, 0, 22, .rws, 148500, .num, true⟩
/-- HTIM.HACT (R408): Active pixels per line. -/
def DHD.HTIM_HACT : Fld := ⟨0x71, 0x108, 0, 13, .rws, 1920, .num, true⟩
/-- HTIM.HTOTAL (R408): Pixels per line. -/
def DHD.HTIM_HTOTAL : Fld := ⟨0x71, 0x108, 16, 13, .rws, 2200, .num, true⟩
/-- HSYNC.HFP (R408): Front porch in pixels. -/
def DHD.HSYNC_HFP : Fld := ⟨0x71, 0x10C, 0, 13, .rws, 88, .num, true⟩
/-- HSYNC.HSW (R408): Sync width in pixels. -/
def DHD.HSYNC_HSW : Fld := ⟨0x71, 0x10C, 16, 9, .rws, 44, .num, true⟩
/-- HSYNC.HPOL (R408): 1: sync active high. -/
def DHD.HSYNC_HPOL : Fld := ⟨0x71, 0x10C, 31, 1, .rws, 1, .num, true⟩
/-- VTIM.VACT (R408): Active lines. -/
def DHD.VTIM_VACT : Fld := ⟨0x71, 0x110, 0, 13, .rws, 1080, .num, true⟩
/-- VTIM.VTOTAL (R408): Lines per frame. -/
def DHD.VTIM_VTOTAL : Fld := ⟨0x71, 0x110, 16, 13, .rws, 1125, .num, true⟩
/-- VSYNC.VFP (R408): Front porch in lines. -/
def DHD.VSYNC_VFP : Fld := ⟨0x71, 0x114, 0, 13, .rws, 4, .num, true⟩
/-- VSYNC.VSW (R408): Sync width in lines. -/
def DHD.VSYNC_VSW : Fld := ⟨0x71, 0x114, 16, 9, .rws, 5, .num, true⟩
/-- VSYNC.VPOL (R408): 1: sync active high. -/
def DHD.VSYNC_VPOL : Fld := ⟨0x71, 0x114, 31, 1, .rws, 1, .num, true⟩
/-- ORG.ORGX (R408): Window origin, pixels (R390). -/
def DHD.ORG_ORGX : Fld := ⟨0x71, 0x118, 0, 13, .rws, 0, .num, true⟩
/-- ORG.ORGY (R408): Window origin, lines. -/
def DHD.ORG_ORGY : Fld := ⟨0x71, 0x118, 16, 13, .rws, 0, .num, true⟩
/-- BORDER.RGB (R408): Border colour: [7:0] blue, [15:8] green, [23:16] red. -/
def DHD.BORDER_RGB : Fld := ⟨0x71, 0x11C, 0, 24, .rws, 0, .num, true⟩
/-- UCOLOUR.RGB (R408): Colour after an underrun (R398). -/
def DHD.UCOLOUR_RGB : Fld := ⟨0x71, 0x120, 0, 24, .rw, 0, .num, true⟩
/-- FRZ.THRESH (R408): Damaged frames before FROZEN; 0 disables (R401). -/
def DHD.FRZ_THRESH : Fld := ⟨0x71, 0x124, 0, 8, .rw, 30, .num, true⟩
/-- FRZ.DMIN (R408): Least DAMAGE that counts; 0 reads as 1. -/
def DHD.FRZ_DMIN : Fld := ⟨0x71, 0x124, 16, 14, .rw, 1, .num, true⟩
/-- STAT.STATE (R408): Head state (R391). -/
def DHD.STAT_STATE : Fld := ⟨0x71, 0x130, 0, 3, .ro, 0, .num, false⟩
/-- STAT.VBLANK (R408): In vertical blanking. -/
def DHD.STAT_VBLANK : Fld := ⟨0x71, 0x130, 4, 1, .ro, 0, .num, false⟩
/-- STAT.FROZEN (R408): R401. -/
def DHD.STAT_FROZEN : Fld := ⟨0x71, 0x130, 5, 1, .ro, 0, .num, false⟩
/-- STAT.LINE (R408): Line now scanned. -/
def DHD.STAT_LINE : Fld := ⟨0x71, 0x130, 16, 13, .ro, 0, .num, false⟩
/-- FRAME.COUNT (R408): Frames scanned, wrapping. -/
def DHD.FRAME_COUNT : Fld := ⟨0x71, 0x134, 0, 32, .ro, 0, .num, false⟩
/-- SLOT.HELD (R408): Slot held. -/
def DHD.SLOT_HELD : Fld := ⟨0x71, 0x138, 0, 8, .ro, 0, .num, false⟩
/-- SLOT.VALID (R408): A slot is held. -/
def DHD.SLOT_VALID : Fld := ⟨0x71, 0x138, 8, 1, .ro, 0, .num, false⟩
/-- SLOT.AGE_FRAMES (R408): Frames since the last flip (R394). -/
def DHD.SLOT_AGE_FRAMES : Fld := ⟨0x71, 0x138, 16, 16, .ro, 0, .num, false⟩
/-- SOSIG.SIG (R408): Last scan-out signature (R400). -/
def DHD.SOSIG_SIG : Fld := ⟨0x71, 0x13C, 0, 32, .ro, 0, .num, false⟩
/-- FRZRUN.COUNT (R408): R401. -/
def DHD.FRZRUN_COUNT : Fld := ⟨0x71, 0x140, 0, 8, .ro, 0, .num, false⟩
/-- FIFO.LEVEL (R408): Pixels held. -/
def DHD.FIFO_LEVEL : Fld := ⟨0x71, 0x144, 0, 15, .ro, 0, .num, false⟩
/-- FIFO.LOW (R408): Lowest LEVEL in an active area since the last CNTCLR. -/
def DHD.FIFO_LOW : Fld := ⟨0x71, 0x144, 16, 15, .ro, 0, .num, false⟩
/-- CNT_UNDERRUN.COUNT (R408): Frames that underran (R398). -/
def DHD.CNT_UNDERRUN_COUNT : Fld := ⟨0x71, 0x148, 0, 32, .ro, 0, .num, false⟩
/-- CNT_FLIP.COUNT (R408): Flips (R394). -/
def DHD.CNT_FLIP_COUNT : Fld := ⟨0x71, 0x14C, 0, 32, .ro, 0, .num, false⟩
/-- CNT_FROZEN.COUNT (R408): Entries into FROZEN. -/
def DHD.CNT_FROZEN_COUNT : Fld := ⟨0x71, 0x150, 0, 16, .ro, 0, .num, false⟩
/-- CNT_REFUSED.COUNT (R408): Commits and enables refused (R393). -/
def DHD.CNT_REFUSED_COUNT : Fld := ⟨0x71, 0x154, 0, 16, .ro, 0, .num, false⟩
/-- CNTCLR.GO (R408): Clear 0x148–0x154, and reload FIFO.LOW with 16,384. -/
def DHD.CNTCLR_GO : Fld := ⟨0x71, 0x158, 0, 1, .w1s, 0, .num, false⟩

/-- Fields of the DHD page with their word counts, part 0. -/
def DHD.part0 : List (Fld × Nat) :=
  [(DHD.SRC_RING, 1),
   (DHD.SRC_EN, 1),
   (DHD.PCLK_KHZ, 1),
   (DHD.HTIM_HACT, 1),
   (DHD.HTIM_HTOTAL, 1),
   (DHD.HSYNC_HFP, 1),
   (DHD.HSYNC_HSW, 1),
   (DHD.HSYNC_HPOL, 1),
   (DHD.VTIM_VACT, 1),
   (DHD.VTIM_VTOTAL, 1),
   (DHD.VSYNC_VFP, 1),
   (DHD.VSYNC_VSW, 1),
   (DHD.VSYNC_VPOL, 1),
   (DHD.ORG_ORGX, 1),
   (DHD.ORG_ORGY, 1),
   (DHD.BORDER_RGB, 1)]
/-- Fields of the DHD page with their word counts, part 1. -/
def DHD.part1 : List (Fld × Nat) :=
  [(DHD.UCOLOUR_RGB, 1),
   (DHD.FRZ_THRESH, 1),
   (DHD.FRZ_DMIN, 1),
   (DHD.STAT_STATE, 1),
   (DHD.STAT_VBLANK, 1),
   (DHD.STAT_FROZEN, 1),
   (DHD.STAT_LINE, 1),
   (DHD.FRAME_COUNT, 1),
   (DHD.SLOT_HELD, 1),
   (DHD.SLOT_VALID, 1),
   (DHD.SLOT_AGE_FRAMES, 1),
   (DHD.SOSIG_SIG, 1),
   (DHD.FRZRUN_COUNT, 1),
   (DHD.FIFO_LEVEL, 1),
   (DHD.FIFO_LOW, 1),
   (DHD.CNT_UNDERRUN_COUNT, 1)]
/-- Fields of the DHD page with their word counts, part 2. -/
def DHD.part2 : List (Fld × Nat) :=
  [(DHD.CNT_FLIP_COUNT, 1),
   (DHD.CNT_FROZEN_COUNT, 1),
   (DHD.CNT_REFUSED_COUNT, 1),
   (DHD.CNTCLR_GO, 1)]
/-- Every field of the DHD page, with the number of its words. -/
def DHD.all : List (Fld × Nat) := DHD.part0 ++ DHD.part1 ++ DHD.part2

/-- CFG.RATE (R410): Highest rate tried: 1 RBR, 2 HBR, 3 HBR2, 4 HBR3, 5 UHBR10, 6 UHBR13.5; 0 and 7 refused with ESTAT.TRAIN_FAIL. -/
def DPT.CFG_RATE : Fld := ⟨0x78, 0x100, 0, 3, .rw, 4, .num, true⟩
/-- CFG.LANES (R410): Most lanes tried: 1 ×1, 2 ×2, 3 ×4. -/
def DPT.CFG_LANES : Fld := ⟨0x78, 0x100, 4, 2, .rw, 3, .num, true⟩
/-- CFG.FALLBACK (R410): On failure, try lower rates, then fewer lanes. -/
def DPT.CFG_FALLBACK : Fld := ⟨0x78, 0x100, 8, 1, .rw, 1, .num, true⟩
/-- CTL.TRAIN (R410): Start link training. -/
def DPT.CTL_TRAIN : Fld := ⟨0x78, 0x104, 0, 1, .w1s, 0, .num, false⟩
/-- CTL.DOWN (R410): Stop the link, state NOLINK. -/
def DPT.CTL_DOWN : Fld := ⟨0x78, 0x104, 1, 1, .w1s, 0, .num, false⟩
/-- STAT.STATE (R410): 0 NOLINK, 1 TRAINING, 2 TRAINED, 3 FAILED. -/
def DPT.STAT_STATE : Fld := ⟨0x78, 0x108, 0, 2, .ro, 0, .num, false⟩
/-- STAT.HPD (R410): HPD level. -/
def DPT.STAT_HPD : Fld := ⟨0x78, 0x108, 4, 1, .ro, 0, .hw, false⟩
/-- STAT.RATE (R410): Rate trained, coded as CFG.RATE. -/
def DPT.STAT_RATE : Fld := ⟨0x78, 0x108, 8, 3, .ro, 0, .num, false⟩
/-- STAT.LANES (R410): Lanes trained, coded as CFG.LANES. -/
def DPT.STAT_LANES : Fld := ⟨0x78, 0x108, 12, 2, .ro, 0, .num, false⟩
/-- HPDEV.IRQ (R410): IRQ_HPD seen (R404). -/
def DPT.HPDEV_IRQ : Fld := ⟨0x78, 0x10C, 0, 1, .w1c, 0, .num, false⟩
/-- HPDEV.LOSS (R410): Hot-plug lost. -/
def DPT.HPDEV_LOSS : Fld := ⟨0x78, 0x10C, 1, 1, .w1c, 0, .num, false⟩
/-- HPDEV.ARRIVE (R410): Hot-plug arrived. -/
def DPT.HPDEV_ARRIVE : Fld := ⟨0x78, 0x10C, 2, 1, .w1c, 0, .num, false⟩
/-- TXEQ.LANE (R410): Lane k in [8k+7:8k]. For 8b/10b: [1:0] swing level, [3:2] pre-emphasis level. For 128b/132b: [3:0] TX FFE preset.. -/
def DPT.TXEQ_LANE : Fld := ⟨0x78, 0x110, 0, 32, .ro, 0, .hw, false⟩
/-- AUXCTL.GO (R410): Start an AUX transaction. -/
def DPT.AUXCTL_GO : Fld := ⟨0x78, 0x120, 0, 1, .w1s, 0, .num, false⟩
/-- AUXCTL.CMD (R410): Request command, coded as in the DisplayPort AUX request. -/
def DPT.AUXCTL_CMD : Fld := ⟨0x78, 0x120, 4, 4, .rw, 9, .num, false⟩
/-- AUXCTL.ADDR (R410): DPCD address, or I²C-over-AUX address in [14:8]. -/
def DPT.AUXCTL_ADDR : Fld := ⟨0x78, 0x120, 8, 20, .rw, 0, .num, false⟩
/-- AUXCTL.LEN (R410): Bytes − 1, 0 to 15. -/
def DPT.AUXCTL_LEN : Fld := ⟨0x78, 0x120, 28, 4, .rw, 0, .num, false⟩
/-- AUXSTAT.DONE (R410): 0 idle, 1 busy, 2 done, 3 failed. -/
def DPT.AUXSTAT_DONE : Fld := ⟨0x78, 0x124, 0, 2, .ro, 0, .num, false⟩
/-- AUXSTAT.REPLY (R410): Reply command. -/
def DPT.AUXSTAT_REPLY : Fld := ⟨0x78, 0x124, 4, 4, .ro, 0, .num, false⟩
/-- AUXSTAT.BYTES (R410): Bytes returned or written. -/
def DPT.AUXSTAT_BYTES : Fld := ⟨0x78, 0x124, 8, 5, .ro, 0, .num, false⟩
/-- AUXDATA.DATA, 4 words (R410): 16 data bytes, byte 0 at [7:0] of 0x130. -/
def DPT.AUXDATA : Fld := ⟨0x78, 0x130, 0, 32, .rw, 0, .num, false⟩
/-- CNT_TRAINFAIL.COUNT (R410): Trainings ending FAILED. -/
def DPT.CNT_TRAINFAIL_COUNT : Fld := ⟨0x78, 0x140, 0, 16, .ro, 0, .num, false⟩
/-- CNT_HPDLOSS.COUNT (R410): Hot-plug losses. -/
def DPT.CNT_HPDLOSS_COUNT : Fld := ⟨0x78, 0x144, 0, 16, .ro, 0, .num, false⟩
/-- CNT_AUXERR.COUNT (R410): AUX transactions failed. -/
def DPT.CNT_AUXERR_COUNT : Fld := ⟨0x78, 0x148, 0, 16, .ro, 0, .num, false⟩
/-- CNTCLR.GO (R410): Clear 0x140–0x148. -/
def DPT.CNTCLR_GO : Fld := ⟨0x78, 0x14C, 0, 1, .w1s, 0, .num, false⟩

/-- Fields of the DPT page with their word counts, part 0. -/
def DPT.part0 : List (Fld × Nat) :=
  [(DPT.CFG_RATE, 1),
   (DPT.CFG_LANES, 1),
   (DPT.CFG_FALLBACK, 1),
   (DPT.CTL_TRAIN, 1),
   (DPT.CTL_DOWN, 1),
   (DPT.STAT_STATE, 1),
   (DPT.STAT_HPD, 1),
   (DPT.STAT_RATE, 1),
   (DPT.STAT_LANES, 1),
   (DPT.HPDEV_IRQ, 1),
   (DPT.HPDEV_LOSS, 1),
   (DPT.HPDEV_ARRIVE, 1),
   (DPT.TXEQ_LANE, 1),
   (DPT.AUXCTL_GO, 1),
   (DPT.AUXCTL_CMD, 1),
   (DPT.AUXCTL_ADDR, 1)]
/-- Fields of the DPT page with their word counts, part 1. -/
def DPT.part1 : List (Fld × Nat) :=
  [(DPT.AUXCTL_LEN, 1),
   (DPT.AUXSTAT_DONE, 1),
   (DPT.AUXSTAT_REPLY, 1),
   (DPT.AUXSTAT_BYTES, 1),
   (DPT.AUXDATA, 4),
   (DPT.CNT_TRAINFAIL_COUNT, 1),
   (DPT.CNT_HPDLOSS_COUNT, 1),
   (DPT.CNT_AUXERR_COUNT, 1),
   (DPT.CNTCLR_GO, 1)]
/-- Every field of the DPT page, with the number of its words. -/
def DPT.all : List (Fld × Nat) := DPT.part0 ++ DPT.part1

/-- CFG.MSI_FWD (R447): R436. -/
def TXB.CFG_MSI_FWD : Fld := ⟨0x80, 0x100, 0, 1, .rw, 0, .num, true⟩
/-- CFG.HOSTVEC (R447): MSI-X vector for TXB interrupts. -/
def TXB.CFG_HOSTVEC : Fld := ⟨0x80, 0x100, 8, 6, .rw, 0, .num, true⟩
/-- CFG.HOSTIRQ_EN (R447): Send HOSTVEC on an enabled ISTAT bit. -/
def TXB.CFG_HOSTIRQ_EN : Fld := ⟨0x80, 0x100, 16, 1, .rw, 0, .num, true⟩
/-- OWSEL.WIN (R447): Outbound window selected. -/
def TXB.OWSEL_WIN : Fld := ⟨0x80, 0x104, 0, 5, .rw, 0, .num, false⟩
/-- OW_CFG.EN (R447): Window enabled. -/
def TXB.OW_CFG_EN : Fld := ⟨0x80, 0x108, 0, 1, .rw, 0, .num, true⟩
/-- OW_CFG.SRC_BUS (R447): Accept PCIe requests. -/
def TXB.OW_CFG_SRC_BUS : Fld := ⟨0x80, 0x108, 1, 1, .rw, 0, .num, true⟩
/-- OW_CFG.SRC_MCPU (R447): Accept management CPU requests. -/
def TXB.OW_CFG_SRC_MCPU : Fld := ⟨0x80, 0x108, 2, 1, .rw, 0, .num, true⟩
/-- OW_CFG.SIZE_LOG2 (R447): 12 to 36. -/
def TXB.OW_CFG_SIZE_LOG2 : Fld := ⟨0x80, 0x108, 4, 6, .rw, 12, .num, true⟩
/-- OW_CFG.CUT (R447): R418. -/
def TXB.OW_CFG_CUT : Fld := ⟨0x80, 0x108, 12, 3, .rw, 6, .num, true⟩
/-- OW_CFG.TAGLIM (R447): R420; 0 reads as 1. -/
def TXB.OW_CFG_TAGLIM : Fld := ⟨0x80, 0x108, 16, 10, .rw, 64, .num, true⟩
/-- OW_BASE_LO.ADDR (R447): Local base, low word. -/
def TXB.OW_BASE_LO_ADDR : Fld := ⟨0x80, 0x10C, 0, 32, .rw, 0, .num, true⟩
/-- OW_BASE_HI.ADDR (R447): High word. -/
def TXB.OW_BASE_HI_ADDR : Fld := ⟨0x80, 0x110, 0, 32, .rw, 0, .num, true⟩
/-- OW_ORD.TID (R447): Ordered tunnel. -/
def TXB.OW_ORD_TID : Fld := ⟨0x80, 0x114, 0, 20, .rw, 0, .num, true⟩
/-- OW_REQ.TID (R447): Request tunnel. -/
def TXB.OW_REQ_TID : Fld := ⟨0x80, 0x118, 0, 20, .rw, 0, .num, true⟩
/-- OW_FAR.WIN (R447): Far target window. -/
def TXB.OW_FAR_WIN : Fld := ⟨0x80, 0x11C, 0, 5, .rw, 0, .num, true⟩
/-- OW_FOFF_LO.OFF (R447): Far offset, low word. -/
def TXB.OW_FOFF_LO_OFF : Fld := ⟨0x80, 0x120, 0, 32, .rw, 0, .num, true⟩
/-- OW_FOFF_HI.OFF (R447): High word. -/
def TXB.OW_FOFF_HI_OFF : Fld := ⟨0x80, 0x124, 0, 32, .rw, 0, .num, true⟩
/-- TWSEL.WIN (R447): Target window selected. -/
def TXB.TWSEL_WIN : Fld := ⟨0x80, 0x140, 0, 5, .rw, 0, .num, false⟩
/-- TW_CFG.EN (R447): Window enabled. -/
def TXB.TW_CFG_EN : Fld := ⟨0x80, 0x144, 0, 1, .rw, 0, .num, true⟩
/-- TW_CFG.BUS (R447): 0 PCIe, 1 LPDDR5X. -/
def TXB.TW_CFG_BUS : Fld := ⟨0x80, 0x144, 1, 1, .rw, 0, .num, true⟩
/-- TW_CFG.SIZE_LOG2 (R447): 12 to 40. -/
def TXB.TW_CFG_SIZE_LOG2 : Fld := ⟨0x80, 0x144, 4, 6, .rw, 12, .num, true⟩
/-- TW_CFG.GRAN (R447): R419. -/
def TXB.TW_CFG_GRAN : Fld := ⟨0x80, 0x144, 12, 3, .rw, 6, .num, true⟩
/-- TW_BASE_LO.ADDR (R447): Bus base, low word. -/
def TXB.TW_BASE_LO_ADDR : Fld := ⟨0x80, 0x148, 0, 32, .rw, 0, .num, true⟩
/-- TW_BASE_HI.ADDR (R447): High word. -/
def TXB.TW_BASE_HI_ADDR : Fld := ⟨0x80, 0x14C, 0, 32, .rw, 0, .num, true⟩
/-- CTO.UNITS (R447): R424, in 100 µs; 0 reads as 1. -/
def TXB.CTO_UNITS : Fld := ⟨0x80, 0x160, 0, 16, .rw, 50, .num, true⟩
/-- PWAIT.US (R447): R421. -/
def TXB.PWAIT_US : Fld := ⟨0x80, 0x164, 0, 16, .rw, 2000, .num, true⟩
/-- POLL.PERIOD_US (R447): R434; values below 10 read as 10. -/
def TXB.POLL_PERIOD_US : Fld := ⟨0x80, 0x168, 0, 16, .rw, 100, .num, true⟩
/-- POLL.EN (R447): Polling on. -/
def TXB.POLL_EN : Fld := ⟨0x80, 0x168, 16, 1, .rw, 0, .num, true⟩
/-- TAGS.INUSE (R447): Tags in use. -/
def TXB.TAGS_INUSE : Fld := ⟨0x80, 0x16C, 0, 11, .ro, 0, .num, false⟩
/-- TAGS.QUAR (R447): Tags in quarantine. -/
def TXB.TAGS_QUAR : Fld := ⟨0x80, 0x16C, 16, 11, .ro, 0, .num, false⟩
/-- LAND.FREE (R447): Landing buffer free, 64-byte units. -/
def TXB.LAND_FREE : Fld := ⟨0x80, 0x170, 0, 13, .ro, 4096, .num, false⟩
/-- CPLBUF.FREE (R447): Completion buffer free, 64-byte units. -/
def TXB.CPLBUF_FREE : Fld := ⟨0x80, 0x174, 0, 12, .ro, 2048, .num, false⟩
/-- PERRLOG.TID (R447): Last PERR received (R430). -/
def TXB.PERRLOG_TID : Fld := ⟨0x80, 0x180, 0, 20, .ro, 0, .num, false⟩
/-- PERRLOG.STATUS (R447): Its STATUS. -/
def TXB.PERRLOG_STATUS : Fld := ⟨0x80, 0x180, 24, 4, .ro, 0, .num, false⟩
/-- PERRNODE.NODE (R447): Its source node. -/
def TXB.PERRNODE_NODE : Fld := ⟨0x80, 0x184, 0, 14, .ro, 0, .num, false⟩
/-- PFSTAT.COUNT (R447): Posted-error FIFO entries. -/
def TXB.PFSTAT_COUNT : Fld := ⟨0x80, 0x190, 0, 5, .ro, 0, .num, false⟩
/-- PFSTAT.OVF (R447): An entry was lost. -/
def TXB.PFSTAT_OVF : Fld := ⟨0x80, 0x190, 8, 1, .w1c, 0, .num, false⟩
/-- PFADDR_LO.OFF (R447): Oldest entry, offset low word. -/
def TXB.PFADDR_LO_OFF : Fld := ⟨0x80, 0x194, 0, 32, .ro, 0, .num, false⟩
/-- PFADDR_HI.OFF (R447): High word. -/
def TXB.PFADDR_HI_OFF : Fld := ⟨0x80, 0x198, 0, 32, .ro, 0, .num, false⟩
/-- PFINFO.TID (R447): Ordered tunnel. -/
def TXB.PFINFO_TID : Fld := ⟨0x80, 0x19C, 0, 20, .ro, 0, .num, false⟩
/-- PFINFO.WIN (R447): Target window. -/
def TXB.PFINFO_WIN : Fld := ⟨0x80, 0x19C, 24, 5, .ro, 0, .num, false⟩
/-- PFINFO.STATUS (R447): R417. -/
def TXB.PFINFO_STATUS : Fld := ⟨0x80, 0x19C, 29, 3, .ro, 0, .num, false⟩
/-- PFNODE.NODE (R447): Source node. -/
def TXB.PFNODE_NODE : Fld := ⟨0x80, 0x1A0, 0, 14, .ro, 0, .num, false⟩
/-- PFPOP.GO (R447): Remove the oldest entry. -/
def TXB.PFPOP_GO : Fld := ⟨0x80, 0x1A4, 0, 1, .w1s, 0, .num, false⟩
/-- SBLOCAL.BITS (R447): R433. -/
def TXB.SBLOCAL_BITS : Fld := ⟨0x80, 0x1C0, 0, 32, .ro, 0, .hw, false⟩
/-- SBFAR.BITS (R447): Last polled far SBSTAT. -/
def TXB.SBFAR_BITS : Fld := ⟨0x80, 0x1C4, 0, 32, .ro, 0, .num, false⟩
/-- SBMASK.BITS (R447): Bits whose change sets ISTAT.SBCHG. -/
def TXB.SBMASK_BITS : Fld := ⟨0x80, 0x1C8, 0, 32, .rw, 0, .num, true⟩
/-- MSIFAR_LO.BITS (R447): Far MSI bits 0–31. -/
def TXB.MSIFAR_LO_BITS : Fld := ⟨0x80, 0x1CC, 0, 32, .w1c, 0, .num, false⟩
/-- MSIFAR_HI.BITS (R447): Far MSI bits 32–63. -/
def TXB.MSIFAR_HI_BITS : Fld := ⟨0x80, 0x1D0, 0, 32, .w1c, 0, .num, false⟩
/-- CNT_MWR.COUNT (R447): MWR sent. -/
def TXB.CNT_MWR_COUNT : Fld := ⟨0x80, 0x1E0, 0, 32, .ro, 0, .num, false⟩
/-- CNT_MRD.COUNT (R447): MRD sent. -/
def TXB.CNT_MRD_COUNT : Fld := ⟨0x80, 0x1E4, 0, 32, .ro, 0, .num, false⟩
/-- CNT_CTO.COUNT (R447): R424. -/
def TXB.CNT_CTO_COUNT : Fld := ⟨0x80, 0x1E8, 0, 16, .ro, 0, .num, false⟩
/-- CNT_LATE.COUNT (R447): R425. -/
def TXB.CNT_LATE_COUNT : Fld := ⟨0x80, 0x1EC, 0, 16, .ro, 0, .num, false⟩
/-- CNT_PERR_TX.COUNT (R447): R429. -/
def TXB.CNT_PERR_TX_COUNT : Fld := ⟨0x80, 0x1F0, 0, 16, .ro, 0, .num, false⟩
/-- CNT_PERR_RX.COUNT (R447): R430. -/
def TXB.CNT_PERR_RX_COUNT : Fld := ⟨0x80, 0x1F4, 0, 16, .ro, 0, .num, false⟩
/-- CNT_POISON.COUNT (R447): R416, R432. -/
def TXB.CNT_POISON_COUNT : Fld := ⟨0x80, 0x1F8, 0, 16, .ro, 0, .num, false⟩
/-- CNT_CUT.COUNT (R447): R418. -/
def TXB.CNT_CUT_COUNT : Fld := ⟨0x80, 0x1FC, 0, 32, .ro, 0, .num, false⟩
/-- CNT_PWAIT.COUNT (R447): R421. -/
def TXB.CNT_PWAIT_COUNT : Fld := ⟨0x80, 0x200, 0, 16, .ro, 0, .num, false⟩
/-- CNTCLR.GO (R447): Clear 0x1E0–0x200. -/
def TXB.CNTCLR_GO : Fld := ⟨0x80, 0x204, 0, 1, .w1s, 0, .num, false⟩

/-- Fields of the TXB page with their word counts, part 0. -/
def TXB.part0 : List (Fld × Nat) :=
  [(TXB.CFG_MSI_FWD, 1),
   (TXB.CFG_HOSTVEC, 1),
   (TXB.CFG_HOSTIRQ_EN, 1),
   (TXB.OWSEL_WIN, 1),
   (TXB.OW_CFG_EN, 1),
   (TXB.OW_CFG_SRC_BUS, 1),
   (TXB.OW_CFG_SRC_MCPU, 1),
   (TXB.OW_CFG_SIZE_LOG2, 1),
   (TXB.OW_CFG_CUT, 1),
   (TXB.OW_CFG_TAGLIM, 1),
   (TXB.OW_BASE_LO_ADDR, 1),
   (TXB.OW_BASE_HI_ADDR, 1),
   (TXB.OW_ORD_TID, 1),
   (TXB.OW_REQ_TID, 1),
   (TXB.OW_FAR_WIN, 1),
   (TXB.OW_FOFF_LO_OFF, 1)]
/-- Fields of the TXB page with their word counts, part 1. -/
def TXB.part1 : List (Fld × Nat) :=
  [(TXB.OW_FOFF_HI_OFF, 1),
   (TXB.TWSEL_WIN, 1),
   (TXB.TW_CFG_EN, 1),
   (TXB.TW_CFG_BUS, 1),
   (TXB.TW_CFG_SIZE_LOG2, 1),
   (TXB.TW_CFG_GRAN, 1),
   (TXB.TW_BASE_LO_ADDR, 1),
   (TXB.TW_BASE_HI_ADDR, 1),
   (TXB.CTO_UNITS, 1),
   (TXB.PWAIT_US, 1),
   (TXB.POLL_PERIOD_US, 1),
   (TXB.POLL_EN, 1),
   (TXB.TAGS_INUSE, 1),
   (TXB.TAGS_QUAR, 1),
   (TXB.LAND_FREE, 1),
   (TXB.CPLBUF_FREE, 1)]
/-- Fields of the TXB page with their word counts, part 2. -/
def TXB.part2 : List (Fld × Nat) :=
  [(TXB.PERRLOG_TID, 1),
   (TXB.PERRLOG_STATUS, 1),
   (TXB.PERRNODE_NODE, 1),
   (TXB.PFSTAT_COUNT, 1),
   (TXB.PFSTAT_OVF, 1),
   (TXB.PFADDR_LO_OFF, 1),
   (TXB.PFADDR_HI_OFF, 1),
   (TXB.PFINFO_TID, 1),
   (TXB.PFINFO_WIN, 1),
   (TXB.PFINFO_STATUS, 1),
   (TXB.PFNODE_NODE, 1),
   (TXB.PFPOP_GO, 1),
   (TXB.SBLOCAL_BITS, 1),
   (TXB.SBFAR_BITS, 1),
   (TXB.SBMASK_BITS, 1),
   (TXB.MSIFAR_LO_BITS, 1)]
/-- Fields of the TXB page with their word counts, part 3. -/
def TXB.part3 : List (Fld × Nat) :=
  [(TXB.MSIFAR_HI_BITS, 1),
   (TXB.CNT_MWR_COUNT, 1),
   (TXB.CNT_MRD_COUNT, 1),
   (TXB.CNT_CTO_COUNT, 1),
   (TXB.CNT_LATE_COUNT, 1),
   (TXB.CNT_PERR_TX_COUNT, 1),
   (TXB.CNT_PERR_RX_COUNT, 1),
   (TXB.CNT_POISON_COUNT, 1),
   (TXB.CNT_CUT_COUNT, 1),
   (TXB.CNT_PWAIT_COUNT, 1),
   (TXB.CNTCLR_GO, 1)]
/-- Every field of the TXB page, with the number of its words. -/
def TXB.all : List (Fld × Nat) := TXB.part0 ++ TXB.part1 ++ TXB.part2 ++ TXB.part3

/-- MODE.MODE (R449): 0 off, 1 endpoint, 2 root port (R21). -/
def PCI.MODE_MODE : Fld := ⟨0x81, 0x100, 0, 2, .ro, 0, .cfg, false⟩
/-- MODE.RPWIDTH (R449): Root port: 0 ×4, 1 ×8, 2 ×16. -/
def PCI.MODE_RPWIDTH : Fld := ⟨0x81, 0x100, 4, 2, .rwl, 0, .cfg, false⟩
/-- MODE.MAXGEN (R449): Highest rate, 1 (2.5 GT/s) to 5 (32 GT/s). -/
def PCI.MODE_MAXGEN : Fld := ⟨0x81, 0x100, 8, 3, .rwl, 5, .num, false⟩
/-- LSTAT.LTSSM (R449): LTSSM state. -/
def PCI.LSTAT_LTSSM : Fld := ⟨0x81, 0x104, 0, 6, .ro, 0, .hw, false⟩
/-- LSTAT.SPEED (R449): Rate in use, coded as MAXGEN. -/
def PCI.LSTAT_SPEED : Fld := ⟨0x81, 0x104, 8, 3, .ro, 0, .num, false⟩
/-- LSTAT.WIDTH (R449): Lanes in use. -/
def PCI.LSTAT_WIDTH : Fld := ⟨0x81, 0x104, 12, 5, .ro, 0, .num, false⟩
/-- LSTAT.DL_UP (R449): Data link up. -/
def PCI.LSTAT_DL_UP : Fld := ⟨0x81, 0x104, 20, 1, .ro, 0, .num, false⟩
/-- BARCFG.AP_LOG2 (R449): BAR4 size, 30 to 36. -/
def PCI.BARCFG_AP_LOG2 : Fld := ⟨0x81, 0x108, 0, 6, .rwl, 0, .cfg, false⟩
/-- IDS.VID (R449): Vendor ID. -/
def PCI.IDS_VID : Fld := ⟨0x81, 0x10C, 0, 16, .ro, 0, .cfg, false⟩
/-- IDS.DID (R449): Device ID. -/
def PCI.IDS_DID : Fld := ⟨0x81, 0x10C, 16, 16, .ro, 0, .cfg, false⟩
/-- CMDSTAT.BME (R449): Bus Master Enable set by the host. -/
def PCI.CMDSTAT_BME : Fld := ⟨0x81, 0x110, 0, 1, .ro, 0, .hw, false⟩
/-- CMDSTAT.MSIX_EN (R449): MSI-X enabled by the host. -/
def PCI.CMDSTAT_MSIX_EN : Fld := ⟨0x81, 0x110, 1, 1, .ro, 0, .hw, false⟩
/-- MSIXREQ.VEC (R449): Vector. -/
def PCI.MSIXREQ_VEC : Fld := ⟨0x81, 0x114, 0, 6, .rw, 0, .num, false⟩
/-- MSIXREQ.GO (R449): Send VEC to the host. -/
def PCI.MSIXREQ_GO : Fld := ⟨0x81, 0x114, 8, 1, .w1s, 0, .num, false⟩
/-- MSICATCH_LO.ADDR (R449): Root port catch address (R435). -/
def PCI.MSICATCH_LO_ADDR : Fld := ⟨0x81, 0x118, 0, 32, .rw, 0, .num, true⟩
/-- MSICATCH_HI.ADDR (R449): High word. -/
def PCI.MSICATCH_HI_ADDR : Fld := ⟨0x81, 0x11C, 0, 32, .rw, 0, .num, true⟩
/-- AERRX.COR (R449): ERR_COR received. -/
def PCI.AERRX_COR : Fld := ⟨0x81, 0x120, 0, 1, .w1c, 0, .num, false⟩
/-- AERRX.NONFATAL (R449): ERR_NONFATAL received. -/
def PCI.AERRX_NONFATAL : Fld := ⟨0x81, 0x120, 1, 1, .w1c, 0, .num, false⟩
/-- AERRX.FATAL (R449): ERR_FATAL received. -/
def PCI.AERRX_FATAL : Fld := ⟨0x81, 0x120, 2, 1, .w1c, 0, .num, false⟩
/-- PERST.ASSERT (R449): Drive PERST# (R439). -/
def PCI.PERST_ASSERT : Fld := ⟨0x81, 0x124, 0, 1, .rw, 1, .num, false⟩
/-- CNT_REPLAY.COUNT (R449): Data link replays. -/
def PCI.CNT_REPLAY_COUNT : Fld := ⟨0x81, 0x128, 0, 16, .ro, 0, .num, false⟩
/-- CNT_RXERR.COUNT (R449): Receiver and LCRC errors. -/
def PCI.CNT_RXERR_COUNT : Fld := ⟨0x81, 0x12C, 0, 16, .ro, 0, .num, false⟩
/-- CNT_UR.COUNT (R449): Requests answered Unsupported Request. -/
def PCI.CNT_UR_COUNT : Fld := ⟨0x81, 0x130, 0, 16, .ro, 0, .num, false⟩
/-- CNTCLR.GO (R449): Clear 0x128–0x130. -/
def PCI.CNTCLR_GO : Fld := ⟨0x81, 0x134, 0, 1, .w1s, 0, .num, false⟩
/-- MSIX_TABLE, 256 words (R449): MSI-X table, 64 entries as the base specification defines. -/
def PCI.MSIX_TABLE : Fld := ⟨0x81, 0x800, 0, 32, .rw, 0, .num, false⟩
/-- MSIX_PBA, 2 words (R449): Pending bits. -/
def PCI.MSIX_PBA : Fld := ⟨0x81, 0xC00, 0, 32, .ro, 0, .num, false⟩

/-- Fields of the PCI page with their word counts, part 0. -/
def PCI.part0 : List (Fld × Nat) :=
  [(PCI.MODE_MODE, 1),
   (PCI.MODE_RPWIDTH, 1),
   (PCI.MODE_MAXGEN, 1),
   (PCI.LSTAT_LTSSM, 1),
   (PCI.LSTAT_SPEED, 1),
   (PCI.LSTAT_WIDTH, 1),
   (PCI.LSTAT_DL_UP, 1),
   (PCI.BARCFG_AP_LOG2, 1),
   (PCI.IDS_VID, 1),
   (PCI.IDS_DID, 1),
   (PCI.CMDSTAT_BME, 1),
   (PCI.CMDSTAT_MSIX_EN, 1),
   (PCI.MSIXREQ_VEC, 1),
   (PCI.MSIXREQ_GO, 1),
   (PCI.MSICATCH_LO_ADDR, 1),
   (PCI.MSICATCH_HI_ADDR, 1)]
/-- Fields of the PCI page with their word counts, part 1. -/
def PCI.part1 : List (Fld × Nat) :=
  [(PCI.AERRX_COR, 1),
   (PCI.AERRX_NONFATAL, 1),
   (PCI.AERRX_FATAL, 1),
   (PCI.PERST_ASSERT, 1),
   (PCI.CNT_REPLAY_COUNT, 1),
   (PCI.CNT_RXERR_COUNT, 1),
   (PCI.CNT_UR_COUNT, 1),
   (PCI.CNTCLR_GO, 1),
   (PCI.MSIX_TABLE, 256),
   (PCI.MSIX_PBA, 2)]
/-- Every field of the PCI page, with the number of its words. -/
def PCI.all : List (Fld × Nat) := PCI.part0 ++ PCI.part1

/-- EQCFG.PRESET (R450): Initial transmit preset at 8 GT/s and above, P0 to P10; 11 to 15 read as 4. -/
def PPH.EQCFG_PRESET : Fld := ⟨0x82, 0x100, 0, 4, .rw, 4, .num, true⟩
/-- LANEMAP.REVERSED (R450): Lane reversal in use. -/
def PPH.LANEMAP_REVERSED : Fld := ⟨0x82, 0x104, 0, 1, .ro, 0, .hw, false⟩
/-- LANEMAP.POLINV (R450): Polarity inverted, one bit per lane. -/
def PPH.LANEMAP_POLINV : Fld := ⟨0x82, 0x104, 16, 16, .ro, 0, .hw, false⟩
/-- LSEL.LANE (R450): Lane selected. -/
def PPH.LSEL_LANE : Fld := ⟨0x82, 0x108, 0, 4, .rw, 0, .num, false⟩
/-- LEYE.HEIGHT (R450): Margin in voltage steps. -/
def PPH.LEYE_HEIGHT : Fld := ⟨0x82, 0x10C, 0, 8, .ro, 0, .hw, false⟩
/-- LEYE.WIDTH (R450): Margin in timing steps. -/
def PPH.LEYE_WIDTH : Fld := ⟨0x82, 0x10C, 8, 8, .ro, 0, .hw, false⟩
/-- LERR.COUNT (R450): Receiver errors on the lane. -/
def PPH.LERR_COUNT : Fld := ⟨0x82, 0x110, 0, 16, .ro, 0, .num, false⟩
/-- CNTCLR.GO (R450): Clear LERR of every lane. -/
def PPH.CNTCLR_GO : Fld := ⟨0x82, 0x114, 0, 1, .w1s, 0, .num, false⟩

/-- Fields of the PPH page with their word counts, part 0. -/
def PPH.part0 : List (Fld × Nat) :=
  [(PPH.EQCFG_PRESET, 1),
   (PPH.LANEMAP_REVERSED, 1),
   (PPH.LANEMAP_POLINV, 1),
   (PPH.LSEL_LANE, 1),
   (PPH.LEYE_HEIGHT, 1),
   (PPH.LEYE_WIDTH, 1),
   (PPH.LERR_COUNT, 1),
   (PPH.CNTCLR_GO, 1)]
/-- Every field of the PPH page, with the number of its words. -/
def PPH.all : List (Fld × Nat) := PPH.part0

/-- CFG.EN (R451): Controller enabled (R444). -/
def MEM.CFG_EN : Fld := ⟨0x88, 0x100, 0, 1, .rw, 0, .num, true⟩
/-- CFG.RATE (R451): 0 3200, 1 4266, 2 5500, 3 6400, 4 7500, 5 8533 MT/s. -/
def MEM.CFG_RATE : Fld := ⟨0x88, 0x100, 1, 3, .rwl, 0, .cfg, false⟩
/-- CFG.CAP (R451): 0 2, 1 4, 2 8, 3 12, 4 16 GiB. -/
def MEM.CFG_CAP : Fld := ⟨0x88, 0x100, 4, 3, .rwl, 0, .cfg, false⟩
/-- CFG.RANKS2 (R451): Two ranks per channel. -/
def MEM.CFG_RANKS2 : Fld := ⟨0x88, 0x100, 8, 1, .rwl, 0, .cfg, false⟩
/-- XTS.SLOT1 (R451): Key slot, first half of the key (R378). -/
def MEM.XTS_SLOT1 : Fld := ⟨0x88, 0x104, 0, 5, .rwl, 0, .num, false⟩
/-- XTS.SLOT2 (R451): Second half. -/
def MEM.XTS_SLOT2 : Fld := ⟨0x88, 0x104, 8, 5, .rwl, 0, .num, false⟩
/-- WIPE.BUSY (R451): Wipe running (R445). -/
def MEM.WIPE_BUSY : Fld := ⟨0x88, 0x108, 0, 1, .ro, 0, .num, false⟩
/-- WIPE.DONE (R451): Wipe complete. -/
def MEM.WIPE_DONE : Fld := ⟨0x88, 0x108, 1, 1, .ro, 0, .num, false⟩
/-- WIPE.PCT (R451): Progress in %. -/
def MEM.WIPE_PCT : Fld := ⟨0x88, 0x108, 8, 7, .ro, 0, .num, false⟩
/-- WIPE.MS (R451): Duration of the last wipe in ms. -/
def MEM.WIPE_MS : Fld := ⟨0x88, 0x108, 16, 16, .ro, 0, .num, false⟩
/-- REF.PERBANK (R451): Per-bank refresh. -/
def MEM.REF_PERBANK : Fld := ⟨0x88, 0x10C, 0, 1, .rw, 1, .num, true⟩
/-- REF.POSTPONE (R451): Most refreshes postponed, 0 to 8. -/
def MEM.REF_POSTPONE : Fld := ⟨0x88, 0x10C, 4, 4, .rw, 4, .num, true⟩
/-- STAT.SR (R451): In self-refresh. -/
def MEM.STAT_SR : Fld := ⟨0x88, 0x110, 0, 1, .ro, 0, .num, false⟩
/-- STAT.READY (R451): Serving levels 2 to 7. -/
def MEM.STAT_READY : Fld := ⟨0x88, 0x110, 1, 1, .ro, 0, .num, false⟩
/-- STAT.TEMP (R451): MR4 refresh-rate code. -/
def MEM.STAT_TEMP : Fld := ⟨0x88, 0x110, 8, 3, .ro, 0, .hw, false⟩
/-- PRIO.PROMOTE_US (R451): R442; 0 reads as 1. -/
def MEM.PRIO_PROMOTE_US : Fld := ⟨0x88, 0x114, 0, 16, .rw, 20, .num, true⟩
/-- HOLDMAX.NS (R451): R443. -/
def MEM.HOLDMAX_NS : Fld := ⟨0x88, 0x118, 0, 16, .ro, 0, .num, false⟩
/-- CNT_RD.COUNT (R451): 64-byte reads, wrapping. -/
def MEM.CNT_RD_COUNT : Fld := ⟨0x88, 0x120, 0, 32, .ro, 0, .num, false⟩
/-- CNT_WR.COUNT (R451): 64-byte writes, wrapping. -/
def MEM.CNT_WR_COUNT : Fld := ⟨0x88, 0x124, 0, 32, .ro, 0, .num, false⟩
/-- CNT_PROMOTE.COUNT (R451): R442. -/
def MEM.CNT_PROMOTE_COUNT : Fld := ⟨0x88, 0x128, 0, 32, .ro, 0, .num, false⟩
/-- CNT_NOTREADY.COUNT (R451): R444. -/
def MEM.CNT_NOTREADY_COUNT : Fld := ⟨0x88, 0x12C, 0, 32, .ro, 0, .num, false⟩
/-- CNTCLR.GO (R451): Clear 0x120–0x12C, and HOLDMAX. -/
def MEM.CNTCLR_GO : Fld := ⟨0x88, 0x130, 0, 1, .w1s, 0, .num, false⟩

/-- Fields of the MEM page with their word counts, part 0. -/
def MEM.part0 : List (Fld × Nat) :=
  [(MEM.CFG_EN, 1),
   (MEM.CFG_RATE, 1),
   (MEM.CFG_CAP, 1),
   (MEM.CFG_RANKS2, 1),
   (MEM.XTS_SLOT1, 1),
   (MEM.XTS_SLOT2, 1),
   (MEM.WIPE_BUSY, 1),
   (MEM.WIPE_DONE, 1),
   (MEM.WIPE_PCT, 1),
   (MEM.WIPE_MS, 1),
   (MEM.REF_PERBANK, 1),
   (MEM.REF_POSTPONE, 1),
   (MEM.STAT_SR, 1),
   (MEM.STAT_READY, 1),
   (MEM.STAT_TEMP, 1),
   (MEM.PRIO_PROMOTE_US, 1)]
/-- Fields of the MEM page with their word counts, part 1. -/
def MEM.part1 : List (Fld × Nat) :=
  [(MEM.HOLDMAX_NS, 1),
   (MEM.CNT_RD_COUNT, 1),
   (MEM.CNT_WR_COUNT, 1),
   (MEM.CNT_PROMOTE_COUNT, 1),
   (MEM.CNT_NOTREADY_COUNT, 1),
   (MEM.CNTCLR_GO, 1)]
/-- Every field of the MEM page, with the number of its words. -/
def MEM.all : List (Fld × Nat) := MEM.part0 ++ MEM.part1

/-- TRAIN.GO (R452): Retrain the interface. -/
def MPH.TRAIN_GO : Fld := ⟨0x89, 0x100, 0, 1, .w1s, 0, .num, false⟩
/-- TRAIN.DONE (R452): Training passed. -/
def MPH.TRAIN_DONE : Fld := ⟨0x89, 0x100, 1, 1, .ro, 0, .num, false⟩
/-- TRAIN.FAIL (R452): Training failed. -/
def MPH.TRAIN_FAIL : Fld := ⟨0x89, 0x100, 2, 1, .ro, 0, .num, false⟩
/-- TSTAT.CH_OK (R452): Device channels trained, one bit each. -/
def MPH.TSTAT_CH_OK : Fld := ⟨0x89, 0x104, 0, 4, .ro, 0, .num, false⟩
/-- BSEL.BYTE (R452): Byte lane, 0 to 7. -/
def MPH.BSEL_BYTE : Fld := ⟨0x89, 0x108, 0, 3, .rw, 0, .num, false⟩
/-- BTRIM.RDLY (R452): Read delay. -/
def MPH.BTRIM_RDLY : Fld := ⟨0x89, 0x10C, 0, 8, .ro, 0, .hw, false⟩
/-- BTRIM.WDLY (R452): Write delay. -/
def MPH.BTRIM_WDLY : Fld := ⟨0x89, 0x10C, 8, 8, .ro, 0, .hw, false⟩
/-- BTRIM.VREF (R452): Receive reference. -/
def MPH.BTRIM_VREF : Fld := ⟨0x89, 0x10C, 16, 8, .ro, 0, .hw, false⟩
/-- TRACK.PERIOD_MS (R452): WCK-to-DQ tracking period, run within refresh; 0 disables. -/
def MPH.TRACK_PERIOD_MS : Fld := ⟨0x89, 0x110, 0, 8, .rw, 100, .num, true⟩

/-- Fields of the MPH page with their word counts, part 0. -/
def MPH.part0 : List (Fld × Nat) :=
  [(MPH.TRAIN_GO, 1),
   (MPH.TRAIN_DONE, 1),
   (MPH.TRAIN_FAIL, 1),
   (MPH.TSTAT_CH_OK, 1),
   (MPH.BSEL_BYTE, 1),
   (MPH.BTRIM_RDLY, 1),
   (MPH.BTRIM_WDLY, 1),
   (MPH.BTRIM_VREF, 1),
   (MPH.TRACK_PERIOD_MS, 1)]
/-- Every field of the MPH page, with the number of its words. -/
def MPH.all : List (Fld × Nat) := MPH.part0

/-- CFG.SPEED (R469): 0 10GBASE-R, 1 25GBASE-R. -/
def ETH.CFG_SPEED : Fld := ⟨0x90, 0x100, 0, 1, .rw, 0, .cfg, true⟩
/-- CFG.FEC (R469): BASE-R FEC on. -/
def ETH.CFG_FEC : Fld := ⟨0x90, 0x100, 1, 1, .rw, 0, .num, true⟩
/-- CFG.MAXLEN (R469): Largest frame in bytes, 64 to 9,216. -/
def ETH.CFG_MAXLEN : Fld := ⟨0x90, 0x100, 16, 14, .rw, 1522, .num, true⟩
/-- TPID.TPID (R469): Outer tag TPID. -/
def ETH.TPID_TPID : Fld := ⟨0x90, 0x104, 0, 16, .rw, 33024, .num, true⟩
/-- STAT.BLOCK_LOCK (R469): PCS block lock. -/
def ETH.STAT_BLOCK_LOCK : Fld := ⟨0x90, 0x108, 0, 1, .ro, 0, .hw, false⟩
/-- STAT.LINK (R469): Link up, no local or remote fault. -/
def ETH.STAT_LINK : Fld := ⟨0x90, 0x108, 1, 1, .ro, 0, .hw, false⟩
/-- STAT.FEC_LOCK (R469): FEC block lock. -/
def ETH.STAT_FEC_LOCK : Fld := ⟨0x90, 0x108, 2, 1, .ro, 0, .hw, false⟩
/-- VSEL.V (R469): Entry selected, 0 to 4,094; 4,095 reads as 0. -/
def ETH.VSEL_V : Fld := ⟨0x90, 0x110, 0, 12, .rw, 0, .num, false⟩
/-- VMAP_A.ITID (R469): Injected tunnel (staged). -/
def ETH.VMAP_A_ITID : Fld := ⟨0x90, 0x114, 0, 20, .rw, 0, .num, true⟩
/-- VMAP_A.KIND (R469): 0 ETHERNET, 1 LIGHTING. -/
def ETH.VMAP_A_KIND : Fld := ⟨0x90, 0x114, 20, 1, .rw, 0, .num, true⟩
/-- VMAP_A.STRIP (R469): Strip on receive, push on transmit. -/
def ETH.VMAP_A_STRIP : Fld := ⟨0x90, 0x114, 21, 1, .rw, 0, .num, true⟩
/-- VMAP_A.PCP (R469): PCP pushed. -/
def ETH.VMAP_A_PCP : Fld := ⟨0x90, 0x114, 24, 3, .rw, 0, .num, true⟩
/-- VMAP_A.EN (R469): Entry enabled. -/
def ETH.VMAP_A_EN : Fld := ⟨0x90, 0x114, 31, 1, .rw, 0, .num, true⟩
/-- VMAP_B.ETID (R469): Transmitted tunnel; writing it applies the entry (R455, R456). -/
def ETH.VMAP_B_ETID : Fld := ⟨0x90, 0x118, 0, 20, .rw, 0, .num, true⟩
/-- CNT_RXOK.COUNT (R469): Frames injected whole. -/
def ETH.CNT_RXOK_COUNT : Fld := ⟨0x90, 0x120, 0, 32, .ro, 0, .num, false⟩
/-- CNT_RXFCS.COUNT (R469): R457. -/
def ETH.CNT_RXFCS_COUNT : Fld := ⟨0x90, 0x124, 0, 32, .ro, 0, .num, false⟩
/-- CNT_RXRUNT.COUNT (R469): R457. -/
def ETH.CNT_RXRUNT_COUNT : Fld := ⟨0x90, 0x128, 0, 16, .ro, 0, .num, false⟩
/-- CNT_RXLONG.COUNT (R469): R457. -/
def ETH.CNT_RXLONG_COUNT : Fld := ⟨0x90, 0x12C, 0, 16, .ro, 0, .num, false⟩
/-- CNT_NOMAP.COUNT (R469): R457. -/
def ETH.CNT_NOMAP_COUNT : Fld := ⟨0x90, 0x130, 0, 32, .ro, 0, .num, false⟩
/-- CNT_RXOVF.COUNT (R469): R458. -/
def ETH.CNT_RXOVF_COUNT : Fld := ⟨0x90, 0x134, 0, 32, .ro, 0, .num, false⟩
/-- CNT_RXCTL.COUNT (R469): R453. -/
def ETH.CNT_RXCTL_COUNT : Fld := ⟨0x90, 0x138, 0, 16, .ro, 0, .num, false⟩
/-- CNT_TXOK.COUNT (R469): Frames sent with a correct FCS. -/
def ETH.CNT_TXOK_COUNT : Fld := ⟨0x90, 0x13C, 0, 32, .ro, 0, .num, false⟩
/-- CNT_TXSTOMP.COUNT (R469): R461. -/
def ETH.CNT_TXSTOMP_COUNT : Fld := ⟨0x90, 0x140, 0, 32, .ro, 0, .num, false⟩
/-- CNT_TXNOMAP.COUNT (R469): R459; ETH0 only, 0 in ETH1. -/
def ETH.CNT_TXNOMAP_COUNT : Fld := ⟨0x90, 0x144, 0, 32, .ro, 0, .num, false⟩
/-- CNT_FEC.CE (R469): FEC blocks corrected. -/
def ETH.CNT_FEC_CE : Fld := ⟨0x90, 0x148, 0, 16, .ro, 0, .num, false⟩
/-- CNT_FEC.UE (R469): FEC blocks uncorrectable. -/
def ETH.CNT_FEC_UE : Fld := ⟨0x90, 0x148, 16, 16, .ro, 0, .num, false⟩
/-- CNTCLR.GO (R469): Clear 0x120–0x148. -/
def ETH.CNTCLR_GO : Fld := ⟨0x90, 0x14C, 0, 1, .w1s, 0, .num, false⟩

/-- Fields of the ETH page with their word counts, part 0. -/
def ETH.part0 : List (Fld × Nat) :=
  [(ETH.CFG_SPEED, 1),
   (ETH.CFG_FEC, 1),
   (ETH.CFG_MAXLEN, 1),
   (ETH.TPID_TPID, 1),
   (ETH.STAT_BLOCK_LOCK, 1),
   (ETH.STAT_LINK, 1),
   (ETH.STAT_FEC_LOCK, 1),
   (ETH.VSEL_V, 1),
   (ETH.VMAP_A_ITID, 1),
   (ETH.VMAP_A_KIND, 1),
   (ETH.VMAP_A_STRIP, 1),
   (ETH.VMAP_A_PCP, 1),
   (ETH.VMAP_A_EN, 1),
   (ETH.VMAP_B_ETID, 1),
   (ETH.CNT_RXOK_COUNT, 1),
   (ETH.CNT_RXFCS_COUNT, 1)]
/-- Fields of the ETH page with their word counts, part 1. -/
def ETH.part1 : List (Fld × Nat) :=
  [(ETH.CNT_RXRUNT_COUNT, 1),
   (ETH.CNT_RXLONG_COUNT, 1),
   (ETH.CNT_NOMAP_COUNT, 1),
   (ETH.CNT_RXOVF_COUNT, 1),
   (ETH.CNT_RXCTL_COUNT, 1),
   (ETH.CNT_TXOK_COUNT, 1),
   (ETH.CNT_TXSTOMP_COUNT, 1),
   (ETH.CNT_TXNOMAP_COUNT, 1),
   (ETH.CNT_FEC_CE, 1),
   (ETH.CNT_FEC_UE, 1),
   (ETH.CNTCLR_GO, 1)]
/-- Every field of the ETH page, with the number of its words. -/
def ETH.all : List (Fld × Nat) := ETH.part0 ++ ETH.part1

/-- PSEL.PORT (R470): Lume port selected. -/
def LMD.PSEL_PORT : Fld := ⟨0x92, 0x100, 0, 3, .rw, 0, .num, false⟩
/-- P_MAP.ITID (R470): Injected tunnel (R464). -/
def LMD.P_MAP_ITID : Fld := ⟨0x92, 0x104, 0, 20, .rw, 0, .num, true⟩
/-- P_MAP.EN (R470): Entry enabled. -/
def LMD.P_MAP_EN : Fld := ⟨0x92, 0x104, 31, 1, .rw, 0, .num, true⟩
/-- P_ETID.ETID (R470): Transmitted tunnel; writing it applies the entry. -/
def LMD.P_ETID_ETID : Fld := ⟨0x92, 0x108, 0, 20, .rw, 0, .num, true⟩
/-- P_CFG.LOSS_MS (R470): Tunnel silence before SCENE; 0 disables (R467). -/
def LMD.P_CFG_LOSS_MS : Fld := ⟨0x92, 0x10C, 0, 16, .rw, 2000, .num, true⟩
/-- P_CFG.PERIOD_MS (R470): Scene repeat period; 0 reads as 1. -/
def LMD.P_CFG_PERIOD_MS : Fld := ⟨0x92, 0x10C, 16, 16, .rw, 1000, .num, true⟩
/-- P_STAT.MODE (R470): 0 TUNNEL, 1 SCENE. -/
def LMD.P_STAT_MODE : Fld := ⟨0x92, 0x110, 0, 1, .ro, 0, .num, false⟩
/-- P_CNT_RX.COUNT (R470): Frames injected. -/
def LMD.P_CNT_RX_COUNT : Fld := ⟨0x92, 0x114, 0, 32, .ro, 0, .num, false⟩
/-- P_CNT_RXERR.COUNT (R470): R463, R464. -/
def LMD.P_CNT_RXERR_COUNT : Fld := ⟨0x92, 0x118, 0, 16, .ro, 0, .num, false⟩
/-- P_CNT_RXDROP.COUNT (R470): R467. -/
def LMD.P_CNT_RXDROP_COUNT : Fld := ⟨0x92, 0x11C, 0, 16, .ro, 0, .num, false⟩
/-- P_CNT_TX.COUNT (R470): Tunnel frames sent. -/
def LMD.P_CNT_TX_COUNT : Fld := ⟨0x92, 0x120, 0, 32, .ro, 0, .num, false⟩
/-- P_CNT_SCENE.COUNT (R470): Scene frames sent. -/
def LMD.P_CNT_SCENE_COUNT : Fld := ⟨0x92, 0x124, 0, 32, .ro, 0, .num, false⟩
/-- P_CNTCLR.GO (R470): Clear 0x114–0x124 of the port. -/
def LMD.P_CNTCLR_GO : Fld := ⟨0x92, 0x12C, 0, 1, .w1s, 0, .num, false⟩
/-- SCSEL.FRAME (R470): Scene frame of the port selected. -/
def LMD.SCSEL_FRAME : Fld := ⟨0x92, 0x130, 0, 2, .rw, 0, .num, false⟩
/-- SCLEN.BYTES (R470): Frame length; 0 unused (R466). -/
def LMD.SCLEN_BYTES : Fld := ⟨0x92, 0x140, 0, 9, .rw, 0, .num, true⟩
/-- CNT_TXNOMAP.COUNT (R470): R465. -/
def LMD.CNT_TXNOMAP_COUNT : Fld := ⟨0x92, 0x150, 0, 32, .ro, 0, .num, false⟩
/-- SCDATA.DATA, 64 words (R470): Scene frame bytes, byte 0 at [7:0] of 0x400. -/
def LMD.SCDATA : Fld := ⟨0x92, 0x400, 0, 32, .rw, 0, .num, true⟩

/-- Fields of the LMD page with their word counts, part 0. -/
def LMD.part0 : List (Fld × Nat) :=
  [(LMD.PSEL_PORT, 1),
   (LMD.P_MAP_ITID, 1),
   (LMD.P_MAP_EN, 1),
   (LMD.P_ETID_ETID, 1),
   (LMD.P_CFG_LOSS_MS, 1),
   (LMD.P_CFG_PERIOD_MS, 1),
   (LMD.P_STAT_MODE, 1),
   (LMD.P_CNT_RX_COUNT, 1),
   (LMD.P_CNT_RXERR_COUNT, 1),
   (LMD.P_CNT_RXDROP_COUNT, 1),
   (LMD.P_CNT_TX_COUNT, 1),
   (LMD.P_CNT_SCENE_COUNT, 1),
   (LMD.P_CNTCLR_GO, 1),
   (LMD.SCSEL_FRAME, 1),
   (LMD.SCLEN_BYTES, 1),
   (LMD.CNT_TXNOMAP_COUNT, 1)]
/-- Fields of the LMD page with their word counts, part 1. -/
def LMD.part1 : List (Fld × Nat) :=
  [(LMD.SCDATA, 64)]
/-- Every field of the LMD page, with the number of its words. -/
def LMD.all : List (Fld × Nat) := LMD.part0 ++ LMD.part1

/-- CFG.AN_EN (R471): Clause 98 auto-negotiation. -/
def LMP.CFG_AN_EN : Fld := ⟨0x93, 0x100, 0, 1, .rw, 1, .num, true⟩
/-- CFG.HI_OK (R471): 2.4 Vpp allowed, or forced when AN_EN is 0. -/
def LMP.CFG_HI_OK : Fld := ⟨0x93, 0x100, 1, 1, .rw, 1, .num, true⟩
/-- CFG.MASTER (R471): Prefer MASTER, or forced when AN_EN is 0. -/
def LMP.CFG_MASTER : Fld := ⟨0x93, 0x100, 2, 1, .rw, 1, .num, true⟩
/-- STAT.LINK (R471): Link up. -/
def LMP.STAT_LINK : Fld := ⟨0x93, 0x104, 0, 1, .ro, 0, .hw, false⟩
/-- STAT.HI (R471): 2.4 Vpp in use. -/
def LMP.STAT_HI : Fld := ⟨0x93, 0x104, 1, 1, .ro, 0, .hw, false⟩
/-- STAT.ROLE (R471): 1 MASTER. -/
def LMP.STAT_ROLE : Fld := ⟨0x93, 0x104, 2, 1, .ro, 0, .hw, false⟩
/-- STAT.SQI (R471): Signal quality, 0 worst to 7 best. -/
def LMP.STAT_SQI : Fld := ⟨0x93, 0x104, 4, 3, .ro, 0, .hw, false⟩
/-- CNT_SYM.COUNT (R471): Receive symbol errors. -/
def LMP.CNT_SYM_COUNT : Fld := ⟨0x93, 0x108, 0, 32, .ro, 0, .num, false⟩
/-- CNT_LINKLOSS.COUNT (R471): Link losses. -/
def LMP.CNT_LINKLOSS_COUNT : Fld := ⟨0x93, 0x10C, 0, 16, .ro, 0, .num, false⟩
/-- CNTCLR.GO (R471): Clear 0x108–0x10C. -/
def LMP.CNTCLR_GO : Fld := ⟨0x93, 0x110, 0, 1, .w1s, 0, .num, false⟩

/-- Fields of the LMP page with their word counts, part 0. -/
def LMP.part0 : List (Fld × Nat) :=
  [(LMP.CFG_AN_EN, 1),
   (LMP.CFG_HI_OK, 1),
   (LMP.CFG_MASTER, 1),
   (LMP.STAT_LINK, 1),
   (LMP.STAT_HI, 1),
   (LMP.STAT_ROLE, 1),
   (LMP.STAT_SQI, 1),
   (LMP.CNT_SYM_COUNT, 1),
   (LMP.CNT_LINKLOSS_COUNT, 1),
   (LMP.CNTCLR_GO, 1)]
/-- Every field of the LMP page, with the number of its words. -/
def LMP.all : List (Fld × Nat) := LMP.part0

/-- CFG.UPSEL (R498): Upstream choice (R476). -/
def USB.CFG_UPSEL : Fld := ⟨0xA0, 0x100, 0, 2, .rw, 0, .cfg, true⟩
/-- CFG.SWITCH_MS (R498): R477; values below 10 read as 10. -/
def USB.CFG_SWITCH_MS : Fld := ⟨0xA0, 0x100, 8, 8, .rw, 100, .num, true⟩
/-- CFG.PORTEN (R498): Hub ports 1–7 present. -/
def USB.CFG_PORTEN : Fld := ⟨0xA0, 0x100, 16, 7, .rw, 127, .num, true⟩
/-- STAT.UPACT (R498): Upstream in use. -/
def USB.STAT_UPACT : Fld := ⟨0xA0, 0x104, 0, 2, .ro, 0, .num, false⟩
/-- STAT.HS (R498): Upstream at high speed. -/
def USB.STAT_HS : Fld := ⟨0xA0, 0x104, 2, 1, .ro, 0, .num, false⟩
/-- STAT.SUSPENDED (R498): Hub suspended. -/
def USB.STAT_SUSPENDED : Fld := ⟨0xA0, 0x104, 3, 1, .ro, 0, .num, false⟩
/-- STAT.CONFIGURED (R498): Hub configured by its host. -/
def USB.STAT_CONFIGURED : Fld := ⟨0xA0, 0x104, 4, 1, .ro, 0, .num, false⟩
/-- PSEL.PORT (R498): Port 1–7; 0 reads as 1. -/
def USB.PSEL_PORT : Fld := ⟨0xA0, 0x108, 0, 3, .rw, 1, .num, false⟩
/-- PORTSTAT.CONNECT (R498): Device connected. -/
def USB.PORTSTAT_CONNECT : Fld := ⟨0xA0, 0x10C, 0, 1, .ro, 0, .num, false⟩
/-- PORTSTAT.ENABLE (R498): Port enabled. -/
def USB.PORTSTAT_ENABLE : Fld := ⟨0xA0, 0x10C, 1, 1, .ro, 0, .num, false⟩
/-- PORTSTAT.SUSPEND (R498): Port suspended. -/
def USB.PORTSTAT_SUSPEND : Fld := ⟨0xA0, 0x10C, 2, 1, .ro, 0, .num, false⟩
/-- PORTSTAT.OVERCURRENT (R498): R475. -/
def USB.PORTSTAT_OVERCURRENT : Fld := ⟨0xA0, 0x10C, 3, 1, .ro, 0, .num, false⟩
/-- PORTSTAT.POWER (R498): Port powered. -/
def USB.PORTSTAT_POWER : Fld := ⟨0xA0, 0x10C, 4, 1, .ro, 0, .num, false⟩
/-- PORTSTAT.SPEED (R498): 0 LS, 1 FS, 2 HS. -/
def USB.PORTSTAT_SPEED : Fld := ⟨0xA0, 0x10C, 5, 2, .ro, 0, .num, false⟩
/-- PORTSTAT.L1 (R498): Port in L1. -/
def USB.PORTSTAT_L1 : Fld := ⟨0xA0, 0x10C, 7, 1, .ro, 0, .num, false⟩
/-- CNT_OC.COUNT (R498): R475. -/
def USB.CNT_OC_COUNT : Fld := ⟨0xA0, 0x110, 0, 16, .ro, 0, .num, false⟩
/-- CNT_UPCHG.COUNT (R498): R477. -/
def USB.CNT_UPCHG_COUNT : Fld := ⟨0xA0, 0x114, 0, 16, .ro, 0, .num, false⟩
/-- CNT_WAKE.COUNT (R498): Remote wakes sent upstream. -/
def USB.CNT_WAKE_COUNT : Fld := ⟨0xA0, 0x118, 0, 16, .ro, 0, .num, false⟩
/-- CNT_TTERR.COUNT (R498): Split transactions failed in a TT. -/
def USB.CNT_TTERR_COUNT : Fld := ⟨0xA0, 0x11C, 0, 16, .ro, 0, .num, false⟩
/-- CNTCLR.GO (R498): Clear 0x110–0x11C. -/
def USB.CNTCLR_GO : Fld := ⟨0xA0, 0x120, 0, 1, .w1s, 0, .num, false⟩

/-- Fields of the USB page with their word counts, part 0. -/
def USB.part0 : List (Fld × Nat) :=
  [(USB.CFG_UPSEL, 1),
   (USB.CFG_SWITCH_MS, 1),
   (USB.CFG_PORTEN, 1),
   (USB.STAT_UPACT, 1),
   (USB.STAT_HS, 1),
   (USB.STAT_SUSPENDED, 1),
   (USB.STAT_CONFIGURED, 1),
   (USB.PSEL_PORT, 1),
   (USB.PORTSTAT_CONNECT, 1),
   (USB.PORTSTAT_ENABLE, 1),
   (USB.PORTSTAT_SUSPEND, 1),
   (USB.PORTSTAT_OVERCURRENT, 1),
   (USB.PORTSTAT_POWER, 1),
   (USB.PORTSTAT_SPEED, 1),
   (USB.PORTSTAT_L1, 1),
   (USB.CNT_OC_COUNT, 1)]
/-- Fields of the USB page with their word counts, part 1. -/
def USB.part1 : List (Fld × Nat) :=
  [(USB.CNT_UPCHG_COUNT, 1),
   (USB.CNT_WAKE_COUNT, 1),
   (USB.CNT_TTERR_COUNT, 1),
   (USB.CNTCLR_GO, 1)]
/-- Every field of the USB page, with the number of its words. -/
def USB.all : List (Fld × Nat) := USB.part0 ++ USB.part1

/-- CTL.CONNECT (R499): Attach to hub port 7 (R489). -/
def UDF.CTL_CONNECT : Fld := ⟨0xA1, 0x100, 0, 1, .rw, 0, .num, true⟩
/-- CTL.EP1_EN (R499): EP1 enabled. -/
def UDF.CTL_EP1_EN : Fld := ⟨0xA1, 0x100, 1, 1, .rw, 0, .num, true⟩
/-- CTL.EP2_EN (R499): EP2 enabled. -/
def UDF.CTL_EP2_EN : Fld := ⟨0xA1, 0x100, 2, 1, .rw, 0, .num, true⟩
/-- STAT.ADDR (R499): Device address. -/
def UDF.STAT_ADDR : Fld := ⟨0xA1, 0x104, 0, 7, .ro, 0, .num, false⟩
/-- STAT.CONFIGURED (R499): R490. -/
def UDF.STAT_CONFIGURED : Fld := ⟨0xA1, 0x104, 7, 1, .ro, 0, .num, false⟩
/-- STAT.SUSPENDED (R499): Device suspended. -/
def UDF.STAT_SUSPENDED : Fld := ⟨0xA1, 0x104, 8, 1, .ro, 0, .num, false⟩
/-- STAT.RWAKE_EN (R499): Remote wake enabled by the host. -/
def UDF.STAT_RWAKE_EN : Fld := ⟨0xA1, 0x104, 9, 1, .ro, 0, .num, false⟩
/-- STAT.CSTATE (R499): 0 IDLE, 1 DATA_IN, 2 DATA_OUT, 3 STATUS. -/
def UDF.STAT_CSTATE : Fld := ⟨0xA1, 0x104, 10, 2, .ro, 0, .num, false⟩
/-- STAT.CTRL_ABORT_RESET (R499): R494. -/
def UDF.STAT_CTRL_ABORT_RESET : Fld := ⟨0xA1, 0x104, 16, 1, .w1c, 0, .num, false⟩
/-- STAT.CTRL_ABORT_SETUP (R499): R491. -/
def UDF.STAT_CTRL_ABORT_SETUP : Fld := ⟨0xA1, 0x104, 17, 1, .w1c, 0, .num, false⟩
/-- SETUP_LO.DATA (R499): SETUP bytes 0–3. -/
def UDF.SETUP_LO_DATA : Fld := ⟨0xA1, 0x108, 0, 32, .ro, 0, .num, false⟩
/-- SETUP_HI.DATA (R499): SETUP bytes 4–7. -/
def UDF.SETUP_HI_DATA : Fld := ⟨0xA1, 0x10C, 0, 32, .ro, 0, .num, false⟩
/-- EP0CTL.LEN (R499): Bytes in EP0BUF, 0 to 64. -/
def UDF.EP0CTL_LEN : Fld := ⟨0xA1, 0x110, 0, 7, .rw, 0, .num, false⟩
/-- EP0CTL.GO (R499): Hand EP0BUF to hardware. -/
def UDF.EP0CTL_GO : Fld := ⟨0xA1, 0x110, 8, 1, .w1s, 0, .num, false⟩
/-- EP0CTL.STALL (R499): Answer STALL. -/
def UDF.EP0CTL_STALL : Fld := ⟨0xA1, 0x110, 9, 1, .w1s, 0, .num, false⟩
/-- EP0CTL.STATUS_GO (R499): Complete the status stage. -/
def UDF.EP0CTL_STATUS_GO : Fld := ⟨0xA1, 0x110, 10, 1, .w1s, 0, .num, false⟩
/-- EP0CTL.BUSY (R499): EP0BUF held by hardware. -/
def UDF.EP0CTL_BUSY : Fld := ⟨0xA1, 0x110, 12, 1, .ro, 0, .num, false⟩
/-- EP1CTL.INLEN (R499): EP1 IN bytes. -/
def UDF.EP1CTL_INLEN : Fld := ⟨0xA1, 0x114, 0, 10, .rw, 0, .num, false⟩
/-- EP1CTL.INGO (R499): Send EP1 IN. -/
def UDF.EP1CTL_INGO : Fld := ⟨0xA1, 0x114, 12, 1, .w1s, 0, .num, false⟩
/-- EP1CTL.INBUSY (R499): EP1 IN buffer held. -/
def UDF.EP1CTL_INBUSY : Fld := ⟨0xA1, 0x114, 13, 1, .ro, 0, .num, false⟩
/-- EP1CTL.OUTLEN (R499): EP1 OUT bytes received. -/
def UDF.EP1CTL_OUTLEN : Fld := ⟨0xA1, 0x114, 16, 10, .ro, 0, .num, false⟩
/-- EP1CTL.OUTFULL (R499): EP1 OUT buffer full (R492). -/
def UDF.EP1CTL_OUTFULL : Fld := ⟨0xA1, 0x114, 28, 1, .w1c, 0, .num, false⟩
/-- EP1CTL.HALT_IN (R499): Halted by the host. -/
def UDF.EP1CTL_HALT_IN : Fld := ⟨0xA1, 0x114, 29, 1, .ro, 0, .num, false⟩
/-- EP1CTL.HALT_OUT (R499): Halted by the host. -/
def UDF.EP1CTL_HALT_OUT : Fld := ⟨0xA1, 0x114, 30, 1, .ro, 0, .num, false⟩
/-- EP2CTL.LEN (R499): EP2 IN bytes. -/
def UDF.EP2CTL_LEN : Fld := ⟨0xA1, 0x118, 0, 7, .rw, 0, .num, false⟩
/-- EP2CTL.GO (R499): Send EP2 IN. -/
def UDF.EP2CTL_GO : Fld := ⟨0xA1, 0x118, 8, 1, .w1s, 0, .num, false⟩
/-- EP2CTL.BUSY (R499): EP2 buffer held. -/
def UDF.EP2CTL_BUSY : Fld := ⟨0xA1, 0x118, 9, 1, .ro, 0, .num, false⟩
/-- WAKE.REQ (R499): R493. -/
def UDF.WAKE_REQ : Fld := ⟨0xA1, 0x120, 0, 1, .w1s, 0, .num, false⟩
/-- WAKE.PENDING (R499): Wake pending. -/
def UDF.WAKE_PENDING : Fld := ⟨0xA1, 0x120, 1, 1, .ro, 0, .num, false⟩
/-- WAKE_ABSORBED.COUNT (R499): R497. -/
def UDF.WAKE_ABSORBED_COUNT : Fld := ⟨0xA1, 0x124, 0, 16, .ro, 0, .num, false⟩
/-- CNT_SETUP.COUNT (R499): SETUP packets. -/
def UDF.CNT_SETUP_COUNT : Fld := ⟨0xA1, 0x128, 0, 32, .ro, 0, .num, false⟩
/-- CNT_ABORT.COUNT (R499): Control transfers abandoned. -/
def UDF.CNT_ABORT_COUNT : Fld := ⟨0xA1, 0x12C, 0, 16, .ro, 0, .num, false⟩
/-- CNTCLR.GO (R499): Clear 0x124–0x12C. -/
def UDF.CNTCLR_GO : Fld := ⟨0xA1, 0x130, 0, 1, .w1s, 0, .num, false⟩
/-- EP0BUF.DATA, 16 words (R499): 64 bytes, byte 0 at [7:0] of 0x140. -/
def UDF.EP0BUF : Fld := ⟨0xA1, 0x140, 0, 32, .rw, 0, .num, false⟩
/-- EP1IN.DATA, 128 words (R499): 512 bytes. -/
def UDF.EP1IN : Fld := ⟨0xA1, 0x200, 0, 32, .rw, 0, .num, false⟩
/-- EP1OUT.DATA, 128 words (R499): 512 bytes. -/
def UDF.EP1OUT : Fld := ⟨0xA1, 0x400, 0, 32, .ro, 0, .num, false⟩
/-- EP2IN.DATA, 16 words (R499): 64 bytes. -/
def UDF.EP2IN : Fld := ⟨0xA1, 0x600, 0, 32, .rw, 0, .num, false⟩

/-- Fields of the UDF page with their word counts, part 0. -/
def UDF.part0 : List (Fld × Nat) :=
  [(UDF.CTL_CONNECT, 1),
   (UDF.CTL_EP1_EN, 1),
   (UDF.CTL_EP2_EN, 1),
   (UDF.STAT_ADDR, 1),
   (UDF.STAT_CONFIGURED, 1),
   (UDF.STAT_SUSPENDED, 1),
   (UDF.STAT_RWAKE_EN, 1),
   (UDF.STAT_CSTATE, 1),
   (UDF.STAT_CTRL_ABORT_RESET, 1),
   (UDF.STAT_CTRL_ABORT_SETUP, 1),
   (UDF.SETUP_LO_DATA, 1),
   (UDF.SETUP_HI_DATA, 1),
   (UDF.EP0CTL_LEN, 1),
   (UDF.EP0CTL_GO, 1),
   (UDF.EP0CTL_STALL, 1),
   (UDF.EP0CTL_STATUS_GO, 1)]
/-- Fields of the UDF page with their word counts, part 1. -/
def UDF.part1 : List (Fld × Nat) :=
  [(UDF.EP0CTL_BUSY, 1),
   (UDF.EP1CTL_INLEN, 1),
   (UDF.EP1CTL_INGO, 1),
   (UDF.EP1CTL_INBUSY, 1),
   (UDF.EP1CTL_OUTLEN, 1),
   (UDF.EP1CTL_OUTFULL, 1),
   (UDF.EP1CTL_HALT_IN, 1),
   (UDF.EP1CTL_HALT_OUT, 1),
   (UDF.EP2CTL_LEN, 1),
   (UDF.EP2CTL_GO, 1),
   (UDF.EP2CTL_BUSY, 1),
   (UDF.WAKE_REQ, 1),
   (UDF.WAKE_PENDING, 1),
   (UDF.WAKE_ABSORBED_COUNT, 1),
   (UDF.CNT_SETUP_COUNT, 1),
   (UDF.CNT_ABORT_COUNT, 1)]
/-- Fields of the UDF page with their word counts, part 2. -/
def UDF.part2 : List (Fld × Nat) :=
  [(UDF.CNTCLR_GO, 1),
   (UDF.EP0BUF, 16),
   (UDF.EP1IN, 128),
   (UDF.EP1OUT, 128),
   (UDF.EP2IN, 16)]
/-- Every field of the UDF page, with the number of its words. -/
def UDF.all : List (Fld × Nat) := UDF.part0 ++ UDF.part1 ++ UDF.part2

/-- CFG.MODE (R500): R478. -/
def RHA.CFG_MODE : Fld := ⟨0xA2, 0x100, 0, 2, .rw, 0, .num, true⟩
/-- CFG.ALIVE_MS (R500): R488; 0 reads as 1. -/
def RHA.CFG_ALIVE_MS : Fld := ⟨0xA2, 0x100, 8, 8, .rw, 20, .num, true⟩
/-- CFG.LOST_MS (R500): R488; 0 reads as 1. -/
def RHA.CFG_LOST_MS : Fld := ⟨0xA2, 0x100, 16, 16, .rw, 100, .num, true⟩
/-- STAT.BUS (R500): Agent: 0 RUN, 1 SUSPENDED, 2 RESUMING, 3 RESET. -/
def RHA.STAT_BUS : Fld := ⟨0xA2, 0x104, 0, 2, .ro, 0, .num, false⟩
/-- STAT.HELD (R500): Requests held, or in flight at the session end. -/
def RHA.STAT_HELD : Fld := ⟨0xA2, 0x104, 16, 7, .ro, 0, .num, false⟩
/-- A_DTID.TID (R500): Agent: accepted down tunnel. -/
def RHA.A_DTID_TID : Fld := ⟨0xA2, 0x108, 0, 20, .rw, 0, .num, true⟩
/-- A_DTID.VALID (R500): TID valid. -/
def RHA.A_DTID_VALID : Fld := ⟨0xA2, 0x108, 31, 1, .rw, 0, .num, true⟩
/-- A_UTID.TID (R500): Agent: up tunnel. -/
def RHA.A_UTID_TID : Fld := ⟨0xA2, 0x10C, 0, 20, .rw, 0, .num, true⟩
/-- RSEL.RING (R500): Ring selected. -/
def RHA.RSEL_RING : Fld := ⟨0xA2, 0x110, 0, 8, .rw, 0, .num, false⟩
/-- RCFG.DEVADDR (R500): Device address. -/
def RHA.RCFG_DEVADDR : Fld := ⟨0xA2, 0x114, 0, 7, .rw, 0, .num, true⟩
/-- RCFG.EP (R500): Endpoint. -/
def RHA.RCFG_EP : Fld := ⟨0xA2, 0x114, 7, 4, .rw, 0, .num, true⟩
/-- RCFG.IN (R500): Direction, bulk and interrupt. -/
def RHA.RCFG_IN : Fld := ⟨0xA2, 0x114, 11, 1, .rw, 0, .num, true⟩
/-- RCFG.XTYPE (R500): 0 CONTROL, 1 BULK, 2 INTERRUPT. -/
def RHA.RCFG_XTYPE : Fld := ⟨0xA2, 0x114, 12, 2, .rw, 0, .num, true⟩
/-- RCFG.SPEED (R500): 0 LS, 1 FS, 2 HS. -/
def RHA.RCFG_SPEED : Fld := ⟨0xA2, 0x114, 14, 2, .rw, 0, .num, true⟩
/-- RCFG.PORT (R500): Hub port. -/
def RHA.RCFG_PORT : Fld := ⟨0xA2, 0x114, 16, 3, .rw, 1, .num, true⟩
/-- RCFG.MPS (R500): Maximum packet size. -/
def RHA.RCFG_MPS : Fld := ⟨0xA2, 0x114, 19, 11, .rw, 8, .num, true⟩
/-- RCFG.EN (R500): Ring enabled (R480). -/
def RHA.RCFG_EN : Fld := ⟨0xA2, 0x114, 31, 1, .rw, 0, .num, true⟩
/-- RINTV.INTERVAL (R500): Interrupt interval, 125 µs units. -/
def RHA.RINTV_INTERVAL : Fld := ⟨0xA2, 0x118, 0, 8, .rw, 8, .num, true⟩
/-- RDTID.TID (R500): Down tunnel. -/
def RHA.RDTID_TID : Fld := ⟨0xA2, 0x11C, 0, 20, .rw, 0, .num, true⟩
/-- RUTID.TID (R500): Up tunnel. -/
def RHA.RUTID_TID : Fld := ⟨0xA2, 0x120, 0, 20, .rw, 0, .num, true⟩
/-- RPTR.HEAD (R500): Next descriptor to send. -/
def RHA.RPTR_HEAD : Fld := ⟨0xA2, 0x124, 0, 4, .ro, 0, .num, false⟩
/-- RPTR.DONE (R500): Next descriptor to complete. -/
def RHA.RPTR_DONE : Fld := ⟨0xA2, 0x124, 8, 4, .ro, 0, .num, false⟩
/-- RPTR.INFLIGHT (R500): Descriptors sent and not completed. -/
def RHA.RPTR_INFLIGHT : Fld := ⟨0xA2, 0x124, 16, 5, .ro, 0, .num, false⟩
/-- DB.RING (R500): Start sending the ring (R482). -/
def RHA.DB_RING : Fld := ⟨0xA2, 0x128, 0, 8, .wo, 0, .num, false⟩
/-- CANCEL.RING (R500): Ring of the request. -/
def RHA.CANCEL_RING : Fld := ⟨0xA2, 0x12C, 0, 8, .rw, 0, .num, false⟩
/-- CANCEL.SLOT (R500): Descriptor. -/
def RHA.CANCEL_SLOT : Fld := ⟨0xA2, 0x12C, 8, 4, .rw, 0, .num, false⟩
/-- CANCEL.GO (R500): Send CANCEL (R487). -/
def RHA.CANCEL_GO : Fld := ⟨0xA2, 0x12C, 16, 1, .w1s, 0, .num, false⟩
/-- BUSCTL.OP (R500): 1 RESET, 2 SUSPEND, 3 RESUME. -/
def RHA.BUSCTL_OP : Fld := ⟨0xA2, 0x130, 0, 2, .rw, 0, .num, false⟩
/-- BUSCTL.GO (R500): Send BUSCTL on the selected ring's RDTID (R495). -/
def RHA.BUSCTL_GO : Fld := ⟨0xA2, 0x130, 4, 1, .w1s, 0, .num, false⟩
/-- EVLOG.TID (R500): Up tunnel of the last EVENT other than ALIVE. -/
def RHA.EVLOG_TID : Fld := ⟨0xA2, 0x134, 0, 20, .ro, 0, .num, false⟩
/-- EVLOG.EVENT (R500): Its EVENT. -/
def RHA.EVLOG_EVENT : Fld := ⟨0xA2, 0x134, 20, 4, .ro, 0, .num, false⟩
/-- EVLOG.BUS (R500): Its bus state. -/
def RHA.EVLOG_BUS : Fld := ⟨0xA2, 0x134, 24, 2, .ro, 0, .num, false⟩
/-- EVLOG.WAKE (R500): Its wake-source bit. -/
def RHA.EVLOG_WAKE : Fld := ⟨0xA2, 0x134, 28, 1, .ro, 0, .num, false⟩
/-- CNT_REQ.COUNT (R500): Requests sent or received. -/
def RHA.CNT_REQ_COUNT : Fld := ⟨0xA2, 0x140, 0, 32, .ro, 0, .num, false⟩
/-- CNT_CPL.COUNT (R500): Completions. -/
def RHA.CNT_CPL_COUNT : Fld := ⟨0xA2, 0x144, 0, 32, .ro, 0, .num, false⟩
/-- CNT_NAK.COUNT (R500): R485. -/
def RHA.CNT_NAK_COUNT : Fld := ⟨0xA2, 0x148, 0, 32, .ro, 0, .num, false⟩
/-- CNT_LOST.COUNT (R500): R488. -/
def RHA.CNT_LOST_COUNT : Fld := ⟨0xA2, 0x14C, 0, 16, .ro, 0, .num, false⟩
/-- CNT_STRAY.COUNT (R500): R483. -/
def RHA.CNT_STRAY_COUNT : Fld := ⟨0xA2, 0x150, 0, 16, .ro, 0, .num, false⟩
/-- CNTCLR.GO (R500): Clear 0x140–0x150. -/
def RHA.CNTCLR_GO : Fld := ⟨0xA2, 0x154, 0, 1, .w1s, 0, .num, false⟩

/-- Fields of the RHA page with their word counts, part 0. -/
def RHA.part0 : List (Fld × Nat) :=
  [(RHA.CFG_MODE, 1),
   (RHA.CFG_ALIVE_MS, 1),
   (RHA.CFG_LOST_MS, 1),
   (RHA.STAT_BUS, 1),
   (RHA.STAT_HELD, 1),
   (RHA.A_DTID_TID, 1),
   (RHA.A_DTID_VALID, 1),
   (RHA.A_UTID_TID, 1),
   (RHA.RSEL_RING, 1),
   (RHA.RCFG_DEVADDR, 1),
   (RHA.RCFG_EP, 1),
   (RHA.RCFG_IN, 1),
   (RHA.RCFG_XTYPE, 1),
   (RHA.RCFG_SPEED, 1),
   (RHA.RCFG_PORT, 1),
   (RHA.RCFG_MPS, 1)]
/-- Fields of the RHA page with their word counts, part 1. -/
def RHA.part1 : List (Fld × Nat) :=
  [(RHA.RCFG_EN, 1),
   (RHA.RINTV_INTERVAL, 1),
   (RHA.RDTID_TID, 1),
   (RHA.RUTID_TID, 1),
   (RHA.RPTR_HEAD, 1),
   (RHA.RPTR_DONE, 1),
   (RHA.RPTR_INFLIGHT, 1),
   (RHA.DB_RING, 1),
   (RHA.CANCEL_RING, 1),
   (RHA.CANCEL_SLOT, 1),
   (RHA.CANCEL_GO, 1),
   (RHA.BUSCTL_OP, 1),
   (RHA.BUSCTL_GO, 1),
   (RHA.EVLOG_TID, 1),
   (RHA.EVLOG_EVENT, 1),
   (RHA.EVLOG_BUS, 1)]
/-- Fields of the RHA page with their word counts, part 2. -/
def RHA.part2 : List (Fld × Nat) :=
  [(RHA.EVLOG_WAKE, 1),
   (RHA.CNT_REQ_COUNT, 1),
   (RHA.CNT_CPL_COUNT, 1),
   (RHA.CNT_NAK_COUNT, 1),
   (RHA.CNT_LOST_COUNT, 1),
   (RHA.CNT_STRAY_COUNT, 1),
   (RHA.CNTCLR_GO, 1)]
/-- Every field of the RHA page, with the number of its words. -/
def RHA.all : List (Fld × Nat) := RHA.part0 ++ RHA.part1 ++ RHA.part2

end Sys2Proof.Machine
end

