-- ==== Sys2Proof/Machine/RegMapC.lean ====
section
/-! DEFINITION. Register fields, one definition for each row of the register tables of the spec: the pages of chapters 16 to 22. -/

namespace Sys2Proof.Machine

/-- CFG.SRC_CAP (R538): May take SOURCE (R506). -/
def CLP.CFG_SRC_CAP : Fld := ⟨0xB0, 0x100, 0, 1, .rwl, 0, .cfg, false⟩
/-- CFG.SNK_CAP (R538): May take SINK. -/
def CLP.CFG_SNK_CAP : Fld := ⟨0xB0, 0x100, 1, 1, .rwl, 0, .cfg, false⟩
/-- CFG.PREF (R538): 0 SINK, 1 SOURCE (R507). -/
def CLP.CFG_PREF : Fld := ⟨0xB0, 0x100, 2, 1, .rw, 0, .cfg, true⟩
/-- CFG.GUARD (R538): 0 ZERO, 1 TRACK (R502). -/
def CLP.CFG_GUARD : Fld := ⟨0xB0, 0x100, 3, 1, .rwl, 0, .cfg, false⟩
/-- CFG.FS_EN (R538): Arm as sink; accept ARM as source (R524). -/
def CLP.CFG_FS_EN : Fld := ⟨0xB0, 0x100, 4, 1, .rw, 0, .num, true⟩
/-- CFG.SPRIO (R538): Source priority; 0: never source after hard reset (R531). -/
def CLP.CFG_SPRIO : Fld := ⟨0xB0, 0x100, 8, 4, .rw, 0, .cfg, true⟩
/-- IMAX.OFFER (R538): Current offered as source, 10 mA; above 500 reads as 500. -/
def CLP.IMAX_OFFER : Fld := ⟨0xB0, 0x104, 0, 10, .rw, 0, .num, true⟩
/-- IMAX.CABLE (R538): Cable rating, 10 mA; 0: NOPOWER (R505). -/
def CLP.IMAX_CABLE : Fld := ⟨0xB0, 0x104, 16, 10, .rw, 0, .num, true⟩
/-- FS.VFS_DV (R538): V_FS in 100 mV, 380 to 440; others read as 400. -/
def CLP.FS_VFS_DV : Fld := ⟨0xB0, 0x108, 0, 9, .rw, 400, .num, true⟩
/-- FS.SF_DV (R538): SF level in 100 mV (R525). -/
def CLP.FS_SF_DV : Fld := ⟨0xB0, 0x108, 16, 9, .rw, 450, .num, true⟩
/-- GUARD.OV_DV (R538): Over-voltage level in 100 mV, 580 to 620. -/
def CLP.GUARD_OV_DV : Fld := ⟨0xB0, 0x10C, 0, 10, .rw, 600, .num, true⟩
/-- GUARD.RAMP_MS (R538): Ramp time limit in ms, 10 to 1,000. -/
def CLP.GUARD_RAMP_MS : Fld := ⟨0xB0, 0x10C, 16, 10, .rw, 1000, .num, true⟩
/-- TIMER.FAULT_US (R538): Fault timer in µs, 100 to 10,000. -/
def CLP.TIMER_FAULT_US : Fld := ⟨0xB0, 0x110, 0, 14, .rw, 1000, .num, true⟩
/-- CTL.HRESET (R538): Start a hard reset (R530). -/
def CLP.CTL_HRESET : Fld := ⟨0xB0, 0x114, 0, 1, .w1s, 0, .num, false⟩
/-- CTL.SWAP (R538): Send SWAP_REQ (R519). -/
def CLP.CTL_SWAP : Fld := ⟨0xB0, 0x114, 1, 1, .w1s, 0, .num, false⟩
/-- CTL.RENEG (R538): Send OFFER or REQUEST (R515). -/
def CLP.CTL_RENEG : Fld := ⟨0xB0, 0x114, 2, 1, .w1s, 0, .num, false⟩
/-- CTL.OPEN (R538): End the contract (R517). -/
def CLP.CTL_OPEN : Fld := ⟨0xB0, 0x114, 3, 1, .w1s, 0, .num, false⟩
/-- REQ.IREQ (R538): Current requested as sink, 10 mA. -/
def CLP.REQ_IREQ : Fld := ⟨0xB0, 0x118, 0, 10, .rw, 0, .num, true⟩
/-- REQ.ARM (R538): Ask for ARM in REQUEST. -/
def CLP.REQ_ARM : Fld := ⟨0xB0, 0x118, 16, 1, .rw, 1, .num, true⟩
/-- STAT.STATE (R538): 0 OFF, 1 IDLE, 2 DETECT, 3 BOOT, 4 CONTRACT, 5 SWAP, 6 HRESET, 7 FAULT, 8 NOPOWER. -/
def CLP.STAT_STATE : Fld := ⟨0xB0, 0x11C, 0, 4, .ro, 0, .num, false⟩
/-- STAT.ROLE (R538): 0 NONE, 1 SOURCE, 2 SINK. -/
def CLP.STAT_ROLE : Fld := ⟨0xB0, 0x11C, 4, 2, .ro, 0, .num, false⟩
/-- STAT.SW (R538): Switch direction (R501). -/
def CLP.STAT_SW : Fld := ⟨0xB0, 0x11C, 6, 2, .ro, 0, .num, false⟩
/-- STAT.POWER_OK (R538): R506. -/
def CLP.STAT_POWER_OK : Fld := ⟨0xB0, 0x11C, 8, 1, .ro, 0, .hw, false⟩
/-- STAT.UPSTREAM (R538): R518. -/
def CLP.STAT_UPSTREAM : Fld := ⟨0xB0, 0x11C, 9, 1, .ro, 0, .hw, false⟩
/-- STAT.ARMED (R538): R524. -/
def CLP.STAT_ARMED : Fld := ⟨0xB0, 0x11C, 10, 1, .ro, 0, .num, false⟩
/-- STAT.PG (R538): Clasp power-good (R503). -/
def CLP.STAT_PG : Fld := ⟨0xB0, 0x11C, 11, 1, .ro, 0, .num, false⟩
/-- STAT.SF_TX (R538): Asserting SF. -/
def CLP.STAT_SF_TX : Fld := ⟨0xB0, 0x11C, 12, 1, .ro, 0, .num, false⟩
/-- STAT.CA_TX (R538): Asserting CA. -/
def CLP.STAT_CA_TX : Fld := ⟨0xB0, 0x11C, 13, 1, .ro, 0, .num, false⟩
/-- CONTRACT.ICUR (R538): Current in force, 10 mA. -/
def CLP.CONTRACT_ICUR : Fld := ⟨0xB0, 0x120, 0, 10, .ro, 0, .num, false⟩
/-- CONTRACT.ILIM (R538): Current limit in force, 10 mA. -/
def CLP.CONTRACT_ILIM : Fld := ⟨0xB0, 0x120, 16, 10, .ro, 0, .num, false⟩
/-- PARTNER.SPRIO (R538): Partner's last PWR (R512). -/
def CLP.PARTNER_SPRIO : Fld := ⟨0xB0, 0x124, 0, 4, .ro, 0, .num, false⟩
/-- PARTNER.POWER_OK (R538): . -/
def CLP.PARTNER_POWER_OK : Fld := ⟨0xB0, 0x124, 4, 1, .ro, 0, .num, false⟩
/-- PARTNER.TRACK (R538): . -/
def CLP.PARTNER_TRACK : Fld := ⟨0xB0, 0x124, 5, 1, .ro, 0, .num, false⟩
/-- PARTNER.FS_CAP (R538): . -/
def CLP.PARTNER_FS_CAP : Fld := ⟨0xB0, 0x124, 6, 1, .ro, 0, .num, false⟩
/-- PARTNER.VALID (R538): PWR held. -/
def CLP.PARTNER_VALID : Fld := ⟨0xB0, 0x124, 7, 1, .ro, 0, .num, false⟩
/-- PARTNER.IMAX (R538): Last IMAX offered by the partner. -/
def CLP.PARTNER_IMAX : Fld := ⟨0xB0, 0x124, 16, 10, .ro, 0, .num, false⟩
/-- VCABLE.MV (R538): Cable voltage in mV. -/
def CLP.VCABLE_MV : Fld := ⟨0xB0, 0x128, 0, 16, .ro, 0, .hw, false⟩
/-- ICABLE.MA (R538): Current into the cable in mA, signed. -/
def CLP.ICABLE_MA : Fld := ⟨0xB0, 0x12C, 0, 16, .ro, 0, .hw, false⟩
/-- DET.R_100 (R538): Last signature in 100 Ω units. -/
def CLP.DET_R_100 : Fld := ⟨0xB0, 0x130, 0, 10, .ro, 0, .num, false⟩
/-- DET.PASS (R538): Last detection accepted. -/
def CLP.DET_PASS : Fld := ⟨0xB0, 0x130, 16, 1, .ro, 0, .num, false⟩
/-- CNT_MSG.TX (R538): Messages sent. -/
def CLP.CNT_MSG_TX : Fld := ⟨0xB0, 0x140, 0, 16, .ro, 0, .num, false⟩
/-- CNT_MSG.RX (R538): Messages received. -/
def CLP.CNT_MSG_RX : Fld := ⟨0xB0, 0x140, 16, 16, .ro, 0, .num, false⟩
/-- CNT_MSG2.BAD (R538): Reserved CTYPE (R512). -/
def CLP.CNT_MSG2_BAD : Fld := ⟨0xB0, 0x144, 0, 16, .ro, 0, .num, false⟩
/-- CNT_MSG2.TMO (R538): R513. -/
def CLP.CNT_MSG2_TMO : Fld := ⟨0xB0, 0x144, 16, 16, .ro, 0, .num, false⟩
/-- CNT_EVT.HRESET (R538): R530. -/
def CLP.CNT_EVT_HRESET : Fld := ⟨0xB0, 0x148, 0, 8, .ro, 0, .num, false⟩
/-- CNT_EVT.SWAP (R538): Swaps completed. -/
def CLP.CNT_EVT_SWAP : Fld := ⟨0xB0, 0x148, 8, 8, .ro, 0, .num, false⟩
/-- CNT_EVT.FSWAP (R538): R526. -/
def CLP.CNT_EVT_FSWAP : Fld := ⟨0xB0, 0x148, 16, 8, .ro, 0, .num, false⟩
/-- CNT_EVT.NAK (R538): SWAP_NAK received. -/
def CLP.CNT_EVT_NAK : Fld := ⟨0xB0, 0x148, 24, 8, .ro, 0, .num, false⟩
/-- CNT_TRIP.COUNT (R538): Guard trips. -/
def CLP.CNT_TRIP_COUNT : Fld := ⟨0xB0, 0x14C, 0, 16, .ro, 0, .num, false⟩
/-- CNTCLR.GO (R538): Clear 0x140–0x14C. -/
def CLP.CNTCLR_GO : Fld := ⟨0xB0, 0x150, 0, 1, .w1s, 0, .num, false⟩

/-- Fields of the CLP page with their word counts, part 0. -/
def CLP.part0 : List (Fld × Nat) :=
  [(CLP.CFG_SRC_CAP, 1),
   (CLP.CFG_SNK_CAP, 1),
   (CLP.CFG_PREF, 1),
   (CLP.CFG_GUARD, 1),
   (CLP.CFG_FS_EN, 1),
   (CLP.CFG_SPRIO, 1),
   (CLP.IMAX_OFFER, 1),
   (CLP.IMAX_CABLE, 1),
   (CLP.FS_VFS_DV, 1),
   (CLP.FS_SF_DV, 1),
   (CLP.GUARD_OV_DV, 1),
   (CLP.GUARD_RAMP_MS, 1),
   (CLP.TIMER_FAULT_US, 1),
   (CLP.CTL_HRESET, 1),
   (CLP.CTL_SWAP, 1),
   (CLP.CTL_RENEG, 1)]
/-- Fields of the CLP page with their word counts, part 1. -/
def CLP.part1 : List (Fld × Nat) :=
  [(CLP.CTL_OPEN, 1),
   (CLP.REQ_IREQ, 1),
   (CLP.REQ_ARM, 1),
   (CLP.STAT_STATE, 1),
   (CLP.STAT_ROLE, 1),
   (CLP.STAT_SW, 1),
   (CLP.STAT_POWER_OK, 1),
   (CLP.STAT_UPSTREAM, 1),
   (CLP.STAT_ARMED, 1),
   (CLP.STAT_PG, 1),
   (CLP.STAT_SF_TX, 1),
   (CLP.STAT_CA_TX, 1),
   (CLP.CONTRACT_ICUR, 1),
   (CLP.CONTRACT_ILIM, 1),
   (CLP.PARTNER_SPRIO, 1),
   (CLP.PARTNER_POWER_OK, 1)]
/-- Fields of the CLP page with their word counts, part 2. -/
def CLP.part2 : List (Fld × Nat) :=
  [(CLP.PARTNER_TRACK, 1),
   (CLP.PARTNER_FS_CAP, 1),
   (CLP.PARTNER_VALID, 1),
   (CLP.PARTNER_IMAX, 1),
   (CLP.VCABLE_MV, 1),
   (CLP.ICABLE_MA, 1),
   (CLP.DET_R_100, 1),
   (CLP.DET_PASS, 1),
   (CLP.CNT_MSG_TX, 1),
   (CLP.CNT_MSG_RX, 1),
   (CLP.CNT_MSG2_BAD, 1),
   (CLP.CNT_MSG2_TMO, 1),
   (CLP.CNT_EVT_HRESET, 1),
   (CLP.CNT_EVT_SWAP, 1),
   (CLP.CNT_EVT_FSWAP, 1),
   (CLP.CNT_EVT_NAK, 1)]
/-- Fields of the CLP page with their word counts, part 3. -/
def CLP.part3 : List (Fld × Nat) :=
  [(CLP.CNT_TRIP_COUNT, 1),
   (CLP.CNTCLR_GO, 1)]
/-- Every field of the CLP page, with the number of its words. -/
def CLP.all : List (Fld × Nat) := CLP.part0 ++ CLP.part1 ++ CLP.part2 ++ CLP.part3

/-- CFG.PROLE (R540): 0 off, 1 source only, 2 DRP. -/
def TCP.CFG_PROLE : Fld := ⟨0xB8, 0x100, 0, 2, .rw, 0, .cfg, true⟩
/-- CFG.TRYSRC (R540): Try.SRC (R533). -/
def TCP.CFG_TRYSRC : Fld := ⟨0xB8, 0x100, 2, 1, .rw, 1, .num, true⟩
/-- CFG.DR_ACCEPT (R540): Accept DR_Swap to UFP (R535). -/
def TCP.CFG_DR_ACCEPT : Fld := ⟨0xB8, 0x100, 3, 1, .rw, 1, .num, true⟩
/-- CFG.VCONN_EN (R540): Source VCONN. -/
def TCP.CFG_VCONN_EN : Fld := ⟨0xB8, 0x100, 4, 1, .rw, 1, .num, true⟩
/-- CFG.ALTMODE_EN (R540): Offer DisplayPort Alt Mode (R537). -/
def TCP.CFG_ALTMODE_EN : Fld := ⟨0xB8, 0x100, 5, 1, .rw, 1, .num, true⟩
/-- CFG.FRS_EN (R540): Signal Fast Role Swap (R536). -/
def TCP.CFG_FRS_EN : Fld := ⟨0xB8, 0x100, 6, 1, .rw, 1, .num, true⟩
/-- PDO.EN (R540): Fixed PDOs 5 V, 9 V, 15 V, 20 V. -/
def TCP.PDO_EN : Fld := ⟨0xB8, 0x104, 0, 4, .rw, 1, .num, true⟩
/-- PDOI_A.I5 (R540): 5 V current, 10 mA; above 500 reads as 500. -/
def TCP.PDOI_A_I5 : Fld := ⟨0xB8, 0x108, 0, 10, .rw, 300, .num, true⟩
/-- PDOI_A.I9 (R540): 9 V current. -/
def TCP.PDOI_A_I9 : Fld := ⟨0xB8, 0x108, 16, 10, .rw, 300, .num, true⟩
/-- PDOI_B.I15 (R540): 15 V current. -/
def TCP.PDOI_B_I15 : Fld := ⟨0xB8, 0x10C, 0, 10, .rw, 300, .num, true⟩
/-- PDOI_B.I20 (R540): 20 V current. -/
def TCP.PDOI_B_I20 : Fld := ⟨0xB8, 0x10C, 16, 10, .rw, 300, .num, true⟩
/-- STAT.ATTACHED (R540): Partner attached. -/
def TCP.STAT_ATTACHED : Fld := ⟨0xB8, 0x110, 0, 1, .ro, 0, .num, false⟩
/-- STAT.POLARITY (R540): 1: CC2 in use. -/
def TCP.STAT_POLARITY : Fld := ⟨0xB8, 0x110, 1, 1, .ro, 0, .num, false⟩
/-- STAT.PROLE (R540): 0 source, 1 sink. -/
def TCP.STAT_PROLE : Fld := ⟨0xB8, 0x110, 2, 1, .ro, 0, .num, false⟩
/-- STAT.DROLE (R540): 0 DFP, 1 UFP. -/
def TCP.STAT_DROLE : Fld := ⟨0xB8, 0x110, 3, 1, .ro, 0, .num, false⟩
/-- STAT.VCONN_ON (R540): VCONN sourced. -/
def TCP.STAT_VCONN_ON : Fld := ⟨0xB8, 0x110, 4, 1, .ro, 0, .num, false⟩
/-- STAT.CONTRACT (R540): PD contract in force. -/
def TCP.STAT_CONTRACT : Fld := ⟨0xB8, 0x110, 5, 1, .ro, 0, .num, false⟩
/-- STAT.ALTMODE (R540): DisplayPort Alt Mode entered. -/
def TCP.STAT_ALTMODE : Fld := ⟨0xB8, 0x110, 6, 1, .ro, 0, .num, false⟩
/-- STAT.PIN_D (R540): Pin assignment D. -/
def TCP.STAT_PIN_D : Fld := ⟨0xB8, 0x110, 7, 1, .ro, 0, .num, false⟩
/-- STAT.EMARK_5A (R540): Cable e-marker reports 5 A. -/
def TCP.STAT_EMARK_5A : Fld := ⟨0xB8, 0x110, 8, 1, .ro, 0, .num, false⟩
/-- STAT.FRS_READY (R540): Partner allows Fast Role Swap. -/
def TCP.STAT_FRS_READY : Fld := ⟨0xB8, 0x110, 9, 1, .ro, 0, .num, false⟩
/-- RDO.PDO (R540): PDO in the contract, 1 to 4. -/
def TCP.RDO_PDO : Fld := ⟨0xB8, 0x114, 0, 3, .ro, 0, .num, false⟩
/-- RDO.CUR (R540): Current in the contract, 10 mA. -/
def TCP.RDO_CUR : Fld := ⟨0xB8, 0x114, 16, 10, .ro, 0, .num, false⟩
/-- VBUS.MV (R540): VBUS in mV. -/
def TCP.VBUS_MV : Fld := ⟨0xB8, 0x118, 0, 16, .ro, 0, .hw, false⟩
/-- IBUS.MA (R540): VBUS current in mA. -/
def TCP.IBUS_MA : Fld := ⟨0xB8, 0x11C, 0, 16, .ro, 0, .hw, false⟩
/-- CTL.HARDRESET (R540): Send PD Hard Reset. -/
def TCP.CTL_HARDRESET : Fld := ⟨0xB8, 0x120, 0, 1, .w1s, 0, .num, false⟩
/-- CTL.DETACH (R540): Go unattached for 1 s. -/
def TCP.CTL_DETACH : Fld := ⟨0xB8, 0x120, 1, 1, .w1s, 0, .num, false⟩
/-- CNT_A.HRESET (R540): Hard resets sent or received. -/
def TCP.CNT_A_HRESET : Fld := ⟨0xB8, 0x124, 0, 16, .ro, 0, .num, false⟩
/-- CNT_A.FRS (R540): R536. -/
def TCP.CNT_A_FRS : Fld := ⟨0xB8, 0x124, 16, 16, .ro, 0, .num, false⟩
/-- CNT_MSGERR.COUNT (R540): PD messages failing CRC or retries. -/
def TCP.CNT_MSGERR_COUNT : Fld := ⟨0xB8, 0x128, 0, 16, .ro, 0, .num, false⟩
/-- CNTCLR.GO (R540): Clear 0x124–0x128. -/
def TCP.CNTCLR_GO : Fld := ⟨0xB8, 0x12C, 0, 1, .w1s, 0, .num, false⟩

/-- Fields of the TCP page with their word counts, part 0. -/
def TCP.part0 : List (Fld × Nat) :=
  [(TCP.CFG_PROLE, 1),
   (TCP.CFG_TRYSRC, 1),
   (TCP.CFG_DR_ACCEPT, 1),
   (TCP.CFG_VCONN_EN, 1),
   (TCP.CFG_ALTMODE_EN, 1),
   (TCP.CFG_FRS_EN, 1),
   (TCP.PDO_EN, 1),
   (TCP.PDOI_A_I5, 1),
   (TCP.PDOI_A_I9, 1),
   (TCP.PDOI_B_I15, 1),
   (TCP.PDOI_B_I20, 1),
   (TCP.STAT_ATTACHED, 1),
   (TCP.STAT_POLARITY, 1),
   (TCP.STAT_PROLE, 1),
   (TCP.STAT_DROLE, 1),
   (TCP.STAT_VCONN_ON, 1)]
/-- Fields of the TCP page with their word counts, part 1. -/
def TCP.part1 : List (Fld × Nat) :=
  [(TCP.STAT_CONTRACT, 1),
   (TCP.STAT_ALTMODE, 1),
   (TCP.STAT_PIN_D, 1),
   (TCP.STAT_EMARK_5A, 1),
   (TCP.STAT_FRS_READY, 1),
   (TCP.RDO_PDO, 1),
   (TCP.RDO_CUR, 1),
   (TCP.VBUS_MV, 1),
   (TCP.IBUS_MA, 1),
   (TCP.CTL_HARDRESET, 1),
   (TCP.CTL_DETACH, 1),
   (TCP.CNT_A_HRESET, 1),
   (TCP.CNT_A_FRS, 1),
   (TCP.CNT_MSGERR_COUNT, 1),
   (TCP.CNTCLR_GO, 1)]
/-- Every field of the TCP page, with the number of its words. -/
def TCP.all : List (Fld × Nat) := TCP.part0 ++ TCP.part1

/-- CFG.MODE (R565): 0 PODL, 1 LUME (R551). -/
def LPO.CFG_MODE : Fld := ⟨0xC0, 0x100, 0, 1, .rw, 0, .cfg, true⟩
/-- CFG.SHED (R565): Shed on bus droop (R559). -/
def LPO.CFG_SHED : Fld := ⟨0xC0, 0x100, 1, 1, .rw, 0, .cfg, true⟩
/-- CFG.EMERG (R565): Emergency output (R560). -/
def LPO.CFG_EMERG : Fld := ⟨0xC0, 0x100, 2, 1, .rw, 0, .cfg, true⟩
/-- CFG.AUTOON (R565): Start at start-up (R563). -/
def LPO.CFG_AUTOON : Fld := ⟨0xC0, 0x100, 3, 1, .rwl, 0, .cfg, false⟩
/-- ILIM.MA10 (R565): I_LIM in 10 mA, 10 to 250; others refused (R548). -/
def LPO.ILIM_MA10 : Fld := ⟨0xC0, 0x104, 0, 9, .rw, 100, .num, true⟩
/-- RAMP.DVDT (R565): Ramp slope in V/ms, 1 to 40; 0 reads as 1. -/
def LPO.RAMP_DVDT : Fld := ⟨0xC0, 0x108, 0, 6, .rw, 10, .num, true⟩
/-- RAMP.RAMP_MS (R565): Ramp time limit in ms, 10 to 1,000. -/
def LPO.RAMP_RAMP_MS : Fld := ⟨0xC0, 0x108, 16, 10, .rw, 100, .num, true⟩
/-- TIMER.FAULT_US (R565): Fault timer in µs, 100 to 10,000 (R548). -/
def LPO.TIMER_FAULT_US : Fld := ⟨0xC0, 0x10C, 0, 14, .rw, 1000, .num, true⟩
/-- TIMER.PG_HOLD_US (R565): Power-good hold in µs, 0 to 10,000 (R546). -/
def LPO.TIMER_PG_HOLD_US : Fld := ⟨0xC0, 0x10C, 16, 14, .rw, 500, .num, true⟩
/-- PLIM.CW (R565): Power limit in 10 mW, at most 9,600. -/
def LPO.PLIM_CW : Fld := ⟨0xC0, 0x110, 0, 14, .rwl, 0, .cfg, false⟩
/-- PLIM.VA10 (R565): VALIM in 10 mVA, at most 10,000. -/
def LPO.PLIM_VA10 : Fld := ⟨0xC0, 0x110, 16, 14, .rwl, 0, .cfg, false⟩
/-- ELIM.MJ (R565): FET energy limit in mJ (R548). Where the bundle's NODECFG section gives a value, it replaces 160 mJ during start-up.. -/
def LPO.ELIM_MJ : Fld := ⟨0xC0, 0x114, 0, 12, .rwl, 160, .num, false⟩
/-- STAT.STATE (R565): R552. -/
def LPO.STAT_STATE : Fld := ⟨0xC0, 0x118, 0, 3, .ro, 0, .num, false⟩
/-- STAT.PG (R565): Power-good (R545). -/
def LPO.STAT_PG : Fld := ⟨0xC0, 0x118, 3, 1, .ro, 0, .num, false⟩
/-- STAT.LATCHED (R565): Latched off (R544). -/
def LPO.STAT_LATCHED : Fld := ⟨0xC0, 0x118, 4, 1, .ro, 0, .num, false⟩
/-- STAT.WAITCAUSE (R565): R553. -/
def LPO.STAT_WAITCAUSE : Fld := ⟨0xC0, 0x118, 5, 3, .ro, 0, .num, false⟩
/-- STAT.CLASS (R565): Class read. -/
def LPO.STAT_CLASS : Fld := ⟨0xC0, 0x118, 8, 4, .ro, 0, .num, false⟩
/-- STAT.CLASS_VALID (R565): CLASS valid. -/
def LPO.STAT_CLASS_VALID : Fld := ⟨0xC0, 0x118, 12, 1, .ro, 0, .num, false⟩
/-- CPWR.CW (R565): Power limit of the class or scheme, 10 mW (R551). -/
def LPO.CPWR_CW : Fld := ⟨0xC0, 0x11C, 0, 14, .ro, 0, .num, false⟩
/-- VOUT.MV (R565): Output voltage in mV. -/
def LPO.VOUT_MV : Fld := ⟨0xC0, 0x120, 0, 16, .ro, 0, .hw, false⟩
/-- IOUT.MA (R565): Output current in mA. -/
def LPO.IOUT_MA : Fld := ⟨0xC0, 0x124, 0, 16, .ro, 0, .hw, false⟩
/-- PAVG.CW (R565): R555, 10 mW. -/
def LPO.PAVG_CW : Fld := ⟨0xC0, 0x128, 0, 14, .ro, 0, .num, false⟩
/-- PAVG.VA10 (R565): VAAVG, 10 mVA. -/
def LPO.PAVG_VA10 : Fld := ⟨0xC0, 0x128, 16, 14, .ro, 0, .num, false⟩
/-- DET.R_100 (R565): Last signature in 100 Ω units. -/
def LPO.DET_R_100 : Fld := ⟨0xC0, 0x12C, 0, 10, .ro, 0, .num, false⟩
/-- DET.PASS (R565): Last detection valid. -/
def LPO.DET_PASS : Fld := ⟨0xC0, 0x12C, 16, 1, .ro, 0, .num, false⟩
/-- ENERGY_LO.J (R565): Energy delivered, low word (R556). -/
def LPO.ENERGY_LO_J : Fld := ⟨0xC0, 0x130, 0, 32, .ro, 0, .num, false⟩
/-- ENERGY_HI.J (R565): High word. -/
def LPO.ENERGY_HI_J : Fld := ⟨0xC0, 0x134, 0, 32, .ro, 0, .num, false⟩
/-- CNT_TRIP.OC (R565): Trips with cause OC. -/
def LPO.CNT_TRIP_OC : Fld := ⟨0xC0, 0x140, 0, 8, .ro, 0, .num, false⟩
/-- CNT_TRIP.SHORT (R565): Cause SHORT. -/
def LPO.CNT_TRIP_SHORT : Fld := ⟨0xC0, 0x140, 8, 8, .ro, 0, .num, false⟩
/-- CNT_TRIP.OVERLOAD (R565): Cause OVERLOAD. -/
def LPO.CNT_TRIP_OVERLOAD : Fld := ⟨0xC0, 0x140, 16, 8, .ro, 0, .num, false⟩
/-- CNT_TRIP.RAMP (R565): Cause RAMP. -/
def LPO.CNT_TRIP_RAMP : Fld := ⟨0xC0, 0x140, 24, 8, .ro, 0, .num, false⟩
/-- CNT_DET.FAIL (R565): R554. -/
def LPO.CNT_DET_FAIL : Fld := ⟨0xC0, 0x144, 0, 16, .ro, 0, .num, false⟩
/-- CNT_DET.REFUSED (R565): Entries into REFUSED. -/
def LPO.CNT_DET_REFUSED : Fld := ⟨0xC0, 0x144, 16, 16, .ro, 0, .num, false⟩
/-- CNT_SHED.COUNT (R565): Opens under R557, R559 and R560. -/
def LPO.CNT_SHED_COUNT : Fld := ⟨0xC0, 0x148, 0, 16, .ro, 0, .num, false⟩
/-- CNTCLR.GO (R565): Clear 0x140–0x148. -/
def LPO.CNTCLR_GO : Fld := ⟨0xC0, 0x14C, 0, 1, .w1s, 0, .num, false⟩
/-- CNTCLR.ECLR (R565): Clear ENERGY. -/
def LPO.CNTCLR_ECLR : Fld := ⟨0xC0, 0x14C, 1, 1, .w1s, 0, .num, false⟩

/-- Fields of the LPO page with their word counts, part 0. -/
def LPO.part0 : List (Fld × Nat) :=
  [(LPO.CFG_MODE, 1),
   (LPO.CFG_SHED, 1),
   (LPO.CFG_EMERG, 1),
   (LPO.CFG_AUTOON, 1),
   (LPO.ILIM_MA10, 1),
   (LPO.RAMP_DVDT, 1),
   (LPO.RAMP_RAMP_MS, 1),
   (LPO.TIMER_FAULT_US, 1),
   (LPO.TIMER_PG_HOLD_US, 1),
   (LPO.PLIM_CW, 1),
   (LPO.PLIM_VA10, 1),
   (LPO.ELIM_MJ, 1),
   (LPO.STAT_STATE, 1),
   (LPO.STAT_PG, 1),
   (LPO.STAT_LATCHED, 1),
   (LPO.STAT_WAITCAUSE, 1)]
/-- Fields of the LPO page with their word counts, part 1. -/
def LPO.part1 : List (Fld × Nat) :=
  [(LPO.STAT_CLASS, 1),
   (LPO.STAT_CLASS_VALID, 1),
   (LPO.CPWR_CW, 1),
   (LPO.VOUT_MV, 1),
   (LPO.IOUT_MA, 1),
   (LPO.PAVG_CW, 1),
   (LPO.PAVG_VA10, 1),
   (LPO.DET_R_100, 1),
   (LPO.DET_PASS, 1),
   (LPO.ENERGY_LO_J, 1),
   (LPO.ENERGY_HI_J, 1),
   (LPO.CNT_TRIP_OC, 1),
   (LPO.CNT_TRIP_SHORT, 1),
   (LPO.CNT_TRIP_OVERLOAD, 1),
   (LPO.CNT_TRIP_RAMP, 1),
   (LPO.CNT_DET_FAIL, 1)]
/-- Fields of the LPO page with their word counts, part 2. -/
def LPO.part2 : List (Fld × Nat) :=
  [(LPO.CNT_DET_REFUSED, 1),
   (LPO.CNT_SHED_COUNT, 1),
   (LPO.CNTCLR_GO, 1),
   (LPO.CNTCLR_ECLR, 1)]
/-- Every field of the LPO page, with the number of its words. -/
def LPO.all : List (Fld × Nat) := LPO.part0 ++ LPO.part1 ++ LPO.part2

/-- CFG.UV_DV (R567): Under-voltage level in 100 mV (R557). -/
def BUS.CFG_UV_DV : Fld := ⟨0xC8, 0x100, 0, 10, .rw, 440, .num, true⟩
/-- CFG.OV_DV (R567): Over-voltage level in 100 mV, 575 to 620. -/
def BUS.CFG_OV_DV : Fld := ⟨0xC8, 0x100, 16, 10, .rw, 580, .num, true⟩
/-- SHED.SHED_DV (R567): Shed level in 100 mV (R559). -/
def BUS.SHED_SHED_DV : Fld := ⟨0xC8, 0x104, 0, 10, .rw, 460, .num, true⟩
/-- BUDGET.W (R567): Bus power budget in W (R558). -/
def BUS.BUDGET_W : Fld := ⟨0xC8, 0x108, 0, 12, .rwl, 0, .cfg, false⟩
/-- STAT.LOCAL (R567): Local supply power-good. -/
def BUS.STAT_LOCAL : Fld := ⟨0xC8, 0x10C, 0, 1, .ro, 0, .hw, false⟩
/-- STAT.BATT (R567): Bus fed from battery. -/
def BUS.STAT_BATT : Fld := ⟨0xC8, 0x10C, 1, 1, .ro, 0, .hw, false⟩
/-- STAT.UV (R567): R557. -/
def BUS.STAT_UV : Fld := ⟨0xC8, 0x10C, 2, 1, .ro, 0, .num, false⟩
/-- STAT.OV (R567): R557. -/
def BUS.STAT_OV : Fld := ⟨0xC8, 0x10C, 3, 1, .ro, 0, .num, false⟩
/-- STAT.SHEDDING (R567): Shed cause active (R559). -/
def BUS.STAT_SHEDDING : Fld := ⟨0xC8, 0x10C, 4, 1, .ro, 0, .num, false⟩
/-- STAT.EMERG (R567): Emergency condition (R560). -/
def BUS.STAT_EMERG : Fld := ⟨0xC8, 0x10C, 5, 1, .ro, 0, .num, false⟩
/-- VBUS.MV (R567): Bus voltage in mV. -/
def BUS.VBUS_MV : Fld := ⟨0xC8, 0x110, 0, 16, .ro, 0, .hw, false⟩
/-- VMIN.MV (R567): Lowest VBUS since the last CNTCLR. -/
def BUS.VMIN_MV : Fld := ⟨0xC8, 0x114, 0, 16, .ro, 0, .hw, false⟩
/-- ALLOC.LUME (R567): Lume power committed in W (R558). -/
def BUS.ALLOC_LUME : Fld := ⟨0xC8, 0x118, 0, 12, .ro, 0, .num, false⟩
/-- ALLOC.OTHER (R567): Type-C and clasp power committed in W. -/
def BUS.ALLOC_OTHER : Fld := ⟨0xC8, 0x118, 16, 12, .ro, 0, .num, false⟩
/-- CNT_UV.COUNT (R567): R557. -/
def BUS.CNT_UV_COUNT : Fld := ⟨0xC8, 0x120, 0, 16, .ro, 0, .num, false⟩
/-- CNT_OV.COUNT (R567): R557. -/
def BUS.CNT_OV_COUNT : Fld := ⟨0xC8, 0x124, 0, 16, .ro, 0, .num, false⟩
/-- CNTCLR.GO (R567): Clear 0x120–0x124 and reload VMIN with VBUS. -/
def BUS.CNTCLR_GO : Fld := ⟨0xC8, 0x128, 0, 1, .w1s, 0, .num, false⟩

/-- Fields of the BUS page with their word counts, part 0. -/
def BUS.part0 : List (Fld × Nat) :=
  [(BUS.CFG_UV_DV, 1),
   (BUS.CFG_OV_DV, 1),
   (BUS.SHED_SHED_DV, 1),
   (BUS.BUDGET_W, 1),
   (BUS.STAT_LOCAL, 1),
   (BUS.STAT_BATT, 1),
   (BUS.STAT_UV, 1),
   (BUS.STAT_OV, 1),
   (BUS.STAT_SHEDDING, 1),
   (BUS.STAT_EMERG, 1),
   (BUS.VBUS_MV, 1),
   (BUS.VMIN_MV, 1),
   (BUS.ALLOC_LUME, 1),
   (BUS.ALLOC_OTHER, 1),
   (BUS.CNT_UV_COUNT, 1),
   (BUS.CNT_OV_COUNT, 1)]
/-- Fields of the BUS page with their word counts, part 1. -/
def BUS.part1 : List (Fld × Nat) :=
  [(BUS.CNTCLR_GO, 1)]
/-- Every field of the BUS page, with the number of its words. -/
def BUS.all : List (Fld × Nat) := BUS.part0 ++ BUS.part1

/-- WAKEEN.EN (R600): Wake sources enabled (R595). -/
def AON.WAKEEN_EN : Fld := ⟨0x3, 0x100, 0, 7, .rw, 127, .num, false⟩
/-- WAKESRC.SEEN (R600): Sources recognised (R597). -/
def AON.WAKESRC_SEEN : Fld := ⟨0x3, 0x104, 0, 7, .w1c, 0, .num, false⟩
/-- WAKEFIRST.SRC (R600): First source. -/
def AON.WAKEFIRST_SRC : Fld := ⟨0x3, 0x108, 0, 3, .ro, 0, .num, false⟩
/-- WAKEFIRST.DETAIL (R600): Its detail (R595). -/
def AON.WAKEFIRST_DETAIL : Fld := ⟨0x3, 0x108, 8, 5, .ro, 0, .num, false⟩
/-- WAKEFIRST.VALID (R600): Capture held. -/
def AON.WAKEFIRST_VALID : Fld := ⟨0x3, 0x108, 31, 1, .ro, 0, .num, false⟩
/-- WAKETICK.TICK (R600): Low word of TIMER at the first source. -/
def AON.WAKETICK_TICK : Fld := ⟨0x3, 0x10C, 0, 32, .ro, 0, .num, false⟩
/-- GPIOWAKE.EN (R600): AON wake inputs enabled. -/
def AON.GPIOWAKE_EN : Fld := ⟨0x3, 0x110, 0, 8, .rw, 0, .num, false⟩
/-- GPIOWAKE.POL (R600): 1: active high or rising. -/
def AON.GPIOWAKE_POL : Fld := ⟨0x3, 0x110, 8, 8, .rw, 0, .num, false⟩
/-- GPIOWAKE.EDGE (R600): 1: edge, 0: level. -/
def AON.GPIOWAKE_EDGE : Fld := ⟨0x3, 0x110, 16, 8, .rw, 0, .num, false⟩
/-- TIMER_LO.COUNT (R600): AON timer, low word. -/
def AON.TIMER_LO_COUNT : Fld := ⟨0x3, 0x118, 0, 32, .ro, 0, .num, false⟩
/-- TIMER_HI.COUNT (R600): High bits. -/
def AON.TIMER_HI_COUNT : Fld := ⟨0x3, 0x11C, 0, 16, .ro, 0, .num, false⟩
/-- TCMP_LO.COUNT (R600): Compare, low word. -/
def AON.TCMP_LO_COUNT : Fld := ⟨0x3, 0x120, 0, 32, .rw, 0, .num, false⟩
/-- TCMP_HI.COUNT (R600): Compare, high bits. -/
def AON.TCMP_HI_COUNT : Fld := ⟨0x3, 0x124, 0, 16, .rw, 0, .num, false⟩
/-- TCTL.EN (R600): Timer wake armed (R598). -/
def AON.TCTL_EN : Fld := ⟨0x3, 0x128, 0, 1, .rw, 0, .num, false⟩
/-- BOOTCAUSE.CAUSE (R600): One bit each: [0] POR, [1] HRST_N ball, [2] TOP.RSTCMD, [3] BROWNOUT_AON, [4] WAKE_SLEEP, [5] ESCALATION, [6] WIPE. -/
def AON.BOOTCAUSE_CAUSE : Fld := ⟨0x3, 0x130, 0, 7, .ro, 1, .hw, false⟩
/-- REGSTAT.LP (R600): Regulator in low-power mode. -/
def AON.REGSTAT_LP : Fld := ⟨0x3, 0x134, 0, 1, .ro, 0, .num, false⟩
/-- REGSTAT.LPEST (R600): Low-power load estimate in 10 µA units, 0 to 10.23 mA (R592). -/
def AON.REGSTAT_LPEST : Fld := ⟨0x3, 0x134, 8, 10, .ro, 263, .hw, false⟩
/-- MGPWAKE.EN (R600): Address comparator enabled. -/
def AON.MGPWAKE_EN : Fld := ⟨0x3, 0x138, 0, 1, .rw, 1, .num, false⟩

/-- Fields of the AON page with their word counts, part 0. -/
def AON.part0 : List (Fld × Nat) :=
  [(AON.WAKEEN_EN, 1),
   (AON.WAKESRC_SEEN, 1),
   (AON.WAKEFIRST_SRC, 1),
   (AON.WAKEFIRST_DETAIL, 1),
   (AON.WAKEFIRST_VALID, 1),
   (AON.WAKETICK_TICK, 1),
   (AON.GPIOWAKE_EN, 1),
   (AON.GPIOWAKE_POL, 1),
   (AON.GPIOWAKE_EDGE, 1),
   (AON.TIMER_LO_COUNT, 1),
   (AON.TIMER_HI_COUNT, 1),
   (AON.TCMP_LO_COUNT, 1),
   (AON.TCMP_HI_COUNT, 1),
   (AON.TCTL_EN, 1),
   (AON.BOOTCAUSE_CAUSE, 1),
   (AON.REGSTAT_LP, 1)]
/-- Fields of the AON page with their word counts, part 1. -/
def AON.part1 : List (Fld × Nat) :=
  [(AON.REGSTAT_LPEST, 1),
   (AON.MGPWAKE_EN, 1)]
/-- Every field of the AON page, with the number of its words. -/
def AON.all : List (Fld × Nat) := AON.part0 ++ AON.part1

/-- STATE.TARGET (R601): Requested state (R581). -/
def PDM.STATE_TARGET : Fld := ⟨0x4, 0x100, 0, 3, .rw, 0, .num, false⟩
/-- STATE.CURRENT (R601): State code of R572. -/
def PDM.STATE_CURRENT : Fld := ⟨0x4, 0x100, 4, 3, .ro, 0, .num, false⟩
/-- STATE.LATCHED (R601): Latched target (R582). -/
def PDM.STATE_LATCHED : Fld := ⟨0x4, 0x100, 8, 3, .ro, 0, .num, false⟩
/-- STATE.BUSY (R601): Transition running. -/
def PDM.STATE_BUSY : Fld := ⟨0x4, 0x100, 12, 1, .ro, 0, .num, false⟩
/-- STATE.PENDING (R601): A target is latched. -/
def PDM.STATE_PENDING : Fld := ⟨0x4, 0x100, 13, 1, .ro, 0, .num, false⟩
/-- VOTE_FW.DOM (R601): R570. -/
def PDM.VOTE_FW_DOM : Fld := ⟨0x4, 0x104, 0, 12, .rw, 4095, .num, false⟩
/-- VOTE_HOST.DOM (R601): R570. -/
def PDM.VOTE_HOST_DOM : Fld := ⟨0x4, 0x108, 0, 12, .rw, 0, .num, false⟩
/-- VOTE_CROWN.DOM (R601): R570. -/
def PDM.VOTE_CROWN_DOM : Fld := ⟨0x4, 0x10C, 0, 12, .rw, 0, .num, false⟩
/-- VOTE_MGP.DOM (R601): R570. -/
def PDM.VOTE_MGP_DOM : Fld := ⟨0x4, 0x110, 0, 12, .rw, 0, .num, false⟩
/-- VOTE_LUME.DOM (R601): R570. -/
def PDM.VOTE_LUME_DOM : Fld := ⟨0x4, 0x114, 0, 12, .ro, 0, .hw, false⟩
/-- VOTE_USB.DOM (R601): R570. -/
def PDM.VOTE_USB_DOM : Fld := ⟨0x4, 0x118, 0, 12, .ro, 0, .hw, false⟩
/-- DOMON.ON (R601): Domains on. -/
def PDM.DOMON_ON : Fld := ⟨0x4, 0x120, 0, 12, .ro, 1, .hw, false⟩
/-- DOMREADY.READY (R601): Domains on and released from isolation. -/
def PDM.DOMREADY_READY : Fld := ⟨0x4, 0x124, 0, 12, .ro, 1, .hw, false⟩
/-- FLOOR.DOM (R601): Floor of the current state. -/
def PDM.FLOOR_DOM : Fld := ⟨0x4, 0x128, 0, 12, .ro, 2051, .hw, false⟩
/-- CEIL.DOM (R601): Ceiling of the current state. -/
def PDM.CEIL_DOM : Fld := ⟨0x4, 0x12C, 0, 12, .ro, 4095, .hw, false⟩
/-- STAT.PARTIAL (R601): R585. -/
def PDM.STAT_PARTIAL : Fld := ⟨0x4, 0x130, 0, 1, .ro, 0, .num, false⟩
/-- LAST.FROM (R601): State left by the last transition. -/
def PDM.LAST_FROM : Fld := ⟨0x4, 0x134, 0, 3, .ro, 0, .num, false⟩
/-- LAST.TO (R601): State reached. -/
def PDM.LAST_TO : Fld := ⟨0x4, 0x134, 4, 3, .ro, 0, .num, false⟩
/-- LAST_US.US (R601): Duration of the last transition in µs. -/
def PDM.LAST_US_US : Fld := ⟨0x4, 0x138, 0, 32, .ro, 0, .num, false⟩
/-- CNT_TRANS.COUNT (R601): Transitions completed. -/
def PDM.CNT_TRANS_COUNT : Fld := ⟨0x4, 0x140, 0, 32, .ro, 0, .num, false⟩
/-- CNT_REFUSE.COUNT (R601): R581. -/
def PDM.CNT_REFUSE_COUNT : Fld := ⟨0x4, 0x144, 0, 16, .ro, 0, .num, false⟩
/-- CNT_ABORT.COUNT (R601): R583. -/
def PDM.CNT_ABORT_COUNT : Fld := ⟨0x4, 0x148, 0, 16, .ro, 0, .num, false⟩
/-- CNT_DRAINLOSS.COUNT (R601): R574. -/
def PDM.CNT_DRAINLOSS_COUNT : Fld := ⟨0x4, 0x14C, 0, 16, .ro, 0, .num, false⟩
/-- CNTCLR.GO (R601): Clear 0x140–0x14C. -/
def PDM.CNTCLR_GO : Fld := ⟨0x4, 0x150, 0, 1, .w1s, 0, .num, false⟩

/-- Fields of the PDM page with their word counts, part 0. -/
def PDM.part0 : List (Fld × Nat) :=
  [(PDM.STATE_TARGET, 1),
   (PDM.STATE_CURRENT, 1),
   (PDM.STATE_LATCHED, 1),
   (PDM.STATE_BUSY, 1),
   (PDM.STATE_PENDING, 1),
   (PDM.VOTE_FW_DOM, 1),
   (PDM.VOTE_HOST_DOM, 1),
   (PDM.VOTE_CROWN_DOM, 1),
   (PDM.VOTE_MGP_DOM, 1),
   (PDM.VOTE_LUME_DOM, 1),
   (PDM.VOTE_USB_DOM, 1),
   (PDM.DOMON_ON, 1),
   (PDM.DOMREADY_READY, 1),
   (PDM.FLOOR_DOM, 1),
   (PDM.CEIL_DOM, 1),
   (PDM.STAT_PARTIAL, 1)]
/-- Fields of the PDM page with their word counts, part 1. -/
def PDM.part1 : List (Fld × Nat) :=
  [(PDM.LAST_FROM, 1),
   (PDM.LAST_TO, 1),
   (PDM.LAST_US_US, 1),
   (PDM.CNT_TRANS_COUNT, 1),
   (PDM.CNT_REFUSE_COUNT, 1),
   (PDM.CNT_ABORT_COUNT, 1),
   (PDM.CNT_DRAINLOSS_COUNT, 1),
   (PDM.CNTCLR_GO, 1)]
/-- Every field of the PDM page, with the number of its words. -/
def PDM.all : List (Fld × Nat) := PDM.part0 ++ PDM.part1

/-- NEED.BYTES (R603): R579. -/
def RET.NEED_BYTES : Fld := ⟨0x5, 0x100, 0, 17, .ro, 0, .hw, false⟩
/-- USED.BYTES (R603): Bytes held by valid regions. -/
def RET.USED_BYTES : Fld := ⟨0x5, 0x104, 0, 17, .ro, 0, .num, false⟩
/-- CAP.BYTES (R603): Capacity. -/
def RET.CAP_BYTES : Fld := ⟨0x5, 0x108, 0, 17, .ro, 65536, .num, false⟩
/-- VALID.DOM (R603): Regions holding a save (R580). -/
def RET.VALID_DOM : Fld := ⟨0x5, 0x10C, 0, 12, .ro, 0, .num, false⟩
/-- TIMES.SAVE_US (R603): Duration of the last save. -/
def RET.TIMES_SAVE_US : Fld := ⟨0x5, 0x110, 0, 16, .ro, 0, .num, false⟩
/-- TIMES.RESTORE_US (R603): Duration of the last restore. -/
def RET.TIMES_RESTORE_US : Fld := ⟨0x5, 0x110, 16, 16, .ro, 0, .num, false⟩
/-- CNT_CRC.COUNT (R603): R580, saturating. -/
def RET.CNT_CRC_COUNT : Fld := ⟨0x5, 0x114, 0, 16, .ro, 0, .num, false⟩
/-- CNTCLR.GO (R603): Clear CNT_CRC. -/
def RET.CNTCLR_GO : Fld := ⟨0x5, 0x118, 0, 1, .w1s, 0, .num, false⟩

/-- Fields of the RET page with their word counts, part 0. -/
def RET.part0 : List (Fld × Nat) :=
  [(RET.NEED_BYTES, 1),
   (RET.USED_BYTES, 1),
   (RET.CAP_BYTES, 1),
   (RET.VALID_DOM, 1),
   (RET.TIMES_SAVE_US, 1),
   (RET.TIMES_RESTORE_US, 1),
   (RET.CNT_CRC_COUNT, 1),
   (RET.CNTCLR_GO, 1)]
/-- Every field of the RET page, with the number of its words. -/
def RET.all : List (Fld × Nat) := RET.part0

/-- SSEL.SLOT (R638): Slot selected. -/
def KEY.SSEL_SLOT : Fld := ⟨0xE, 0x100, 0, 5, .rw, 0, .num, false⟩
/-- SATTR.RECIPIENT (R638): R612. -/
def KEY.SATTR_RECIPIENT : Fld := ⟨0xE, 0x104, 0, 3, .ro, 0, .num, false⟩
/-- SATTR.VALID (R638): Slot holds a key. -/
def KEY.SATTR_VALID : Fld := ⟨0xE, 0x104, 3, 1, .ro, 0, .num, false⟩
/-- SATTR.SEALED (R638): 0: VOLATILE. -/
def KEY.SATTR_SEALED : Fld := ⟨0xE, 0x104, 4, 1, .ro, 0, .num, false⟩
/-- SATTR.LOCKED (R638): R615. -/
def KEY.SATTR_LOCKED : Fld := ⟨0xE, 0x104, 5, 1, .ro, 0, .num, false⟩
/-- SATTR.INUSE (R638): R617. -/
def KEY.SATTR_INUSE : Fld := ⟨0xE, 0x104, 6, 1, .ro, 0, .num, false⟩
/-- LOCKSET.SLOTS (R638): Lock slots (R615). -/
def KEY.LOCKSET_SLOTS : Fld := ⟨0xE, 0x108, 0, 32, .w1s, 0, .num, false⟩
/-- LOCKED.SLOTS (R638): Locked slots. -/
def KEY.LOCKED_SLOTS : Fld := ⟨0xE, 0x10C, 0, 32, .ro, 0, .num, false⟩
/-- VALIDMAP.SLOTS (R638): Valid slots. -/
def KEY.VALIDMAP_SLOTS : Fld := ⟨0xE, 0x110, 0, 32, .ro, 0, .num, false⟩
/-- CMD.OP (R638): R613. -/
def KEY.CMD_OP : Fld := ⟨0xE, 0x120, 0, 4, .rw, 0, .num, false⟩
/-- CMD.DST (R638): Destination slot. -/
def KEY.CMD_DST : Fld := ⟨0xE, 0x120, 4, 5, .rw, 0, .num, false⟩
/-- CMD.SRC (R638): Source slot. -/
def KEY.CMD_SRC : Fld := ⟨0xE, 0x120, 9, 5, .rw, 0, .num, false⟩
/-- CMD.SRCSEL (R638): 0 slot, 1 ROOT, 2 zero salt (R610). -/
def KEY.CMD_SRCSEL : Fld := ⟨0xE, 0x120, 14, 2, .rw, 0, .num, false⟩
/-- CMD.RECIP (R638): Recipient of the result. -/
def KEY.CMD_RECIP : Fld := ⟨0xE, 0x120, 16, 3, .rw, 0, .num, false⟩
/-- CMD.SEALED (R638): Result may be sealed. -/
def KEY.CMD_SEALED : Fld := ⟨0xE, 0x120, 19, 1, .rw, 0, .num, false⟩
/-- CMD.USE_AGREE (R638): R610. -/
def KEY.CMD_USE_AGREE : Fld := ⟨0xE, 0x120, 20, 1, .rw, 0, .num, false⟩
/-- CMD.STATIC (R638): R611. -/
def KEY.CMD_STATIC : Fld := ⟨0xE, 0x120, 21, 1, .rw, 0, .num, false⟩
/-- CMD.GO (R638): Run. -/
def KEY.CMD_GO : Fld := ⟨0xE, 0x120, 31, 1, .w1s, 0, .num, false⟩
/-- PARAM.MASK (R638): M0–M5 selected. -/
def KEY.PARAM_MASK : Fld := ⟨0xE, 0x124, 0, 6, .rw, 0, .num, false⟩
/-- PARAM.INFOLEN (R638): Info bytes, 0 to 64. -/
def KEY.PARAM_INFOLEN : Fld := ⟨0xE, 0x124, 8, 7, .rw, 0, .num, false⟩
/-- PARAM.RECORD (R638): Sealed record. -/
def KEY.PARAM_RECORD : Fld := ⟨0xE, 0x124, 16, 6, .rw, 0, .num, false⟩
/-- CSTAT.DONE (R638): 0 idle, 1 busy, 2 done, 3 failed. -/
def KEY.CSTAT_DONE : Fld := ⟨0xE, 0x128, 0, 2, .ro, 0, .num, false⟩
/-- CSTAT.CODE (R638): R614. -/
def KEY.CSTAT_CODE : Fld := ⟨0xE, 0x128, 8, 4, .ro, 0, .num, false⟩
/-- DATA.DATA, 16 words (R638): 64 bytes, byte 0 at [7:0] of 0x140. -/
def KEY.DATA : Fld := ⟨0xE, 0x140, 0, 32, .rw, 0, .num, false⟩
/-- PUB.DATA, 13 words (R638): Public key, 49 bytes. -/
def KEY.PUB : Fld := ⟨0xE, 0x180, 0, 32, .ro, 0, .num, false⟩
/-- MSEL.REG (R638): M0 to M5. -/
def KEY.MSEL_REG : Fld := ⟨0xE, 0x1C0, 0, 3, .rw, 0, .num, false⟩
/-- MVAL.DATA, 12 words (R638): Selected register, 48 bytes. -/
def KEY.MVAL : Fld := ⟨0xE, 0x1C4, 0, 32, .ro, 0, .num, false⟩
/-- MEXT.GO (R638): Extend M5 with DATA bytes 0–47 (R609). -/
def KEY.MEXT_GO : Fld := ⟨0xE, 0x1F4, 0, 1, .w1s, 0, .num, false⟩
/-- MLOCK.LOCKED (R638): M0–M4 closed. -/
def KEY.MLOCK_LOCKED : Fld := ⟨0xE, 0x1F8, 0, 1, .ro, 0, .num, false⟩
/-- ROOT.OK (R638): K_root formed. -/
def KEY.ROOT_OK : Fld := ⟨0xE, 0x200, 0, 1, .ro, 0, .num, false⟩
/-- ROOT.PUF_CORR (R638): PUF bits corrected at start. -/
def KEY.ROOT_PUF_CORR : Fld := ⟨0xE, 0x200, 8, 8, .ro, 0, .num, false⟩
/-- FUSE.SVN (R638): Fused version count. -/
def KEY.FUSE_SVN : Fld := ⟨0xE, 0x204, 0, 7, .ro, 0, .hw, false⟩
/-- FUSE.KEYPRES (R638): Hash PRESENT fuses. -/
def KEY.FUSE_KEYPRES : Fld := ⟨0xE, 0x204, 8, 4, .ro, 0, .hw, false⟩
/-- FUSE.KEYREV (R638): Hash REVOKED fuses. -/
def KEY.FUSE_KEYREV : Fld := ⟨0xE, 0x204, 12, 4, .ro, 0, .hw, false⟩
/-- RAND.DATA (R638): A fresh random word at each read. -/
def KEY.RAND_DATA : Fld := ⟨0xE, 0x208, 0, 32, .ro, 0, .hw, false⟩
/-- DEVID_LO.ID (R638): Device ID, low word. -/
def KEY.DEVID_LO_ID : Fld := ⟨0xE, 0x20C, 0, 32, .ro, 0, .hw, false⟩
/-- DEVID_HI.ID (R638): High word. -/
def KEY.DEVID_HI_ID : Fld := ⟨0xE, 0x210, 0, 32, .ro, 0, .hw, false⟩
/-- CNT_OP.COUNT (R638): Operations run, saturating. -/
def KEY.CNT_OP_COUNT : Fld := ⟨0xE, 0x220, 0, 32, .ro, 0, .num, false⟩
/-- CNT_FAIL.COUNT (R638): Operations failed, saturating. -/
def KEY.CNT_FAIL_COUNT : Fld := ⟨0xE, 0x224, 0, 16, .ro, 0, .num, false⟩
/-- CNTCLR.GO (R638): Clear 0x220–0x224. -/
def KEY.CNTCLR_GO : Fld := ⟨0xE, 0x228, 0, 1, .w1s, 0, .num, false⟩

/-- Fields of the KEY page with their word counts, part 0. -/
def KEY.part0 : List (Fld × Nat) :=
  [(KEY.SSEL_SLOT, 1),
   (KEY.SATTR_RECIPIENT, 1),
   (KEY.SATTR_VALID, 1),
   (KEY.SATTR_SEALED, 1),
   (KEY.SATTR_LOCKED, 1),
   (KEY.SATTR_INUSE, 1),
   (KEY.LOCKSET_SLOTS, 1),
   (KEY.LOCKED_SLOTS, 1),
   (KEY.VALIDMAP_SLOTS, 1),
   (KEY.CMD_OP, 1),
   (KEY.CMD_DST, 1),
   (KEY.CMD_SRC, 1),
   (KEY.CMD_SRCSEL, 1),
   (KEY.CMD_RECIP, 1),
   (KEY.CMD_SEALED, 1),
   (KEY.CMD_USE_AGREE, 1)]
/-- Fields of the KEY page with their word counts, part 1. -/
def KEY.part1 : List (Fld × Nat) :=
  [(KEY.CMD_STATIC, 1),
   (KEY.CMD_GO, 1),
   (KEY.PARAM_MASK, 1),
   (KEY.PARAM_INFOLEN, 1),
   (KEY.PARAM_RECORD, 1),
   (KEY.CSTAT_DONE, 1),
   (KEY.CSTAT_CODE, 1),
   (KEY.DATA, 16),
   (KEY.PUB, 13),
   (KEY.MSEL_REG, 1),
   (KEY.MVAL, 12),
   (KEY.MEXT_GO, 1),
   (KEY.MLOCK_LOCKED, 1),
   (KEY.ROOT_OK, 1),
   (KEY.ROOT_PUF_CORR, 1),
   (KEY.FUSE_SVN, 1)]
/-- Fields of the KEY page with their word counts, part 2. -/
def KEY.part2 : List (Fld × Nat) :=
  [(KEY.FUSE_KEYPRES, 1),
   (KEY.FUSE_KEYREV, 1),
   (KEY.RAND_DATA, 1),
   (KEY.DEVID_LO_ID, 1),
   (KEY.DEVID_HI_ID, 1),
   (KEY.CNT_OP_COUNT, 1),
   (KEY.CNT_FAIL_COUNT, 1),
   (KEY.CNTCLR_GO, 1)]
/-- Every field of the KEY page, with the number of its words. -/
def KEY.all : List (Fld × Nat) := KEY.part0 ++ KEY.part1 ++ KEY.part2

/-- CTL.START (R640): R629, R633. -/
def UPD.CTL_START : Fld := ⟨0xF, 0x100, 0, 1, .w1s, 0, .num, false⟩
/-- CTL.VERIFY (R640): R630. -/
def UPD.CTL_VERIFY : Fld := ⟨0xF, 0x100, 1, 1, .w1s, 0, .num, false⟩
/-- CTL.ACTIVATE (R640): R631. -/
def UPD.CTL_ACTIVATE : Fld := ⟨0xF, 0x100, 2, 1, .w1s, 0, .num, false⟩
/-- CTL.ABORT (R640): R633. -/
def UPD.CTL_ABORT : Fld := ⟨0xF, 0x100, 3, 1, .w1s, 0, .num, false⟩
/-- CTL.SVNCOMMIT (R640): R633. -/
def UPD.CTL_SVNCOMMIT : Fld := ⟨0xF, 0x100, 4, 1, .w1s, 0, .num, false⟩
/-- CTL.TARGET (R640): 0 image, 1 bundle. -/
def UPD.CTL_TARGET : Fld := ⟨0xF, 0x100, 8, 1, .rw, 0, .num, false⟩
/-- STAT.STATE (R640): 0 IDLE, 1 LANDING, 2 LANDED, 3 VERIFYING, 4 VERIFIED, 5 ARMED, 6 FAILED. -/
def UPD.STAT_STATE : Fld := ⟨0xF, 0x104, 0, 3, .ro, 0, .num, false⟩
/-- STAT.RECOVERY (R640): R626. -/
def UPD.STAT_RECOVERY : Fld := ⟨0xF, 0x104, 3, 1, .ro, 0, .num, false⟩
/-- STAT.CODE (R640): R630. -/
def UPD.STAT_CODE : Fld := ⟨0xF, 0x104, 8, 4, .ro, 0, .num, false⟩
/-- BLK.NUM (R640): Block number, 0 to 8,192. -/
def UPD.BLK_NUM : Fld := ⟨0xF, 0x108, 0, 14, .rw, 0, .num, false⟩
/-- BLK.GO (R640): Land the block. -/
def UPD.BLK_GO : Fld := ⟨0xF, 0x108, 31, 1, .w1s, 0, .num, false⟩
/-- BLKCRC.CRC (R640): CRC-32C of the block. -/
def UPD.BLKCRC_CRC : Fld := ⟨0xF, 0x10C, 0, 32, .rw, 0, .num, false⟩
/-- BLKSTAT.DONE (R640): 0 idle, 1 busy, 2 done, 3 failed. -/
def UPD.BLKSTAT_DONE : Fld := ⟨0xF, 0x110, 0, 2, .ro, 0, .num, false⟩
/-- BLKSTAT.CODE (R640): R629. -/
def UPD.BLKSTAT_CODE : Fld := ⟨0xF, 0x110, 4, 4, .ro, 0, .num, false⟩
/-- BLKSTAT.WORDS (R640): Words written to BLKDATA, 0 to 1,024; further words are ignored. -/
def UPD.BLKSTAT_WORDS : Fld := ⟨0xF, 0x110, 16, 11, .ro, 0, .num, false⟩
/-- LANDED.COUNT (R640): Distinct blocks landed. -/
def UPD.LANDED_COUNT : Fld := ⟨0xF, 0x114, 0, 14, .ro, 0, .num, false⟩
/-- TKEY.SLOT (R640): Transport key slot (R627). -/
def UPD.TKEY_SLOT : Fld := ⟨0xF, 0x118, 0, 5, .rw, 21, .num, false⟩
/-- HDR.SVN (R640): Staged header SVN. -/
def UPD.HDR_SVN : Fld := ⟨0xF, 0x120, 0, 7, .ro, 0, .num, false⟩
/-- HDR.SFMT (R640): Staged SFMT. -/
def UPD.HDR_SFMT : Fld := ⟨0xF, 0x120, 8, 8, .ro, 0, .num, false⟩
/-- HDR_LEN.BYTES (R640): Staged body length. -/
def UPD.HDR_LEN_BYTES : Fld := ⟨0xF, 0x124, 0, 32, .ro, 0, .num, false⟩
/-- ACTIVE.SVN (R640): Active image SVN. -/
def UPD.ACTIVE_SVN : Fld := ⟨0xF, 0x128, 0, 7, .ro, 0, .hw, false⟩
/-- ACTIVE.SFMT (R640): Active SFMT. -/
def UPD.ACTIVE_SFMT : Fld := ⟨0xF, 0x128, 8, 8, .ro, 0, .hw, false⟩
/-- ACT_BUILD.BUILD (R640): Active build number. -/
def UPD.ACT_BUILD_BUILD : Fld := ⟨0xF, 0x12C, 0, 32, .ro, 0, .hw, false⟩
/-- FLOOR.SVN (R640): R631. -/
def UPD.FLOOR_SVN : Fld := ⟨0xF, 0x130, 0, 7, .ro, 0, .hw, false⟩
/-- COPY.STATE (R640): 0 none, 1 PENDING, 2 COPYING, 3 DONE. -/
def UPD.COPY_STATE : Fld := ⟨0xF, 0x134, 0, 2, .ro, 0, .hw, false⟩
/-- COPY.PCT (R640): Copy progress in %. -/
def UPD.COPY_PCT : Fld := ⟨0xF, 0x134, 8, 7, .ro, 0, .num, false⟩
/-- BSEQ.SEQ (R640): Active bundle BSEQ. -/
def UPD.BSEQ_SEQ : Fld := ⟨0xF, 0x138, 0, 32, .ro, 0, .hw, false⟩
/-- BLKDATA.DATA (R640): Block words, in order. -/
def UPD.BLKDATA_DATA : Fld := ⟨0xF, 0x180, 0, 32, .wo, 0, .num, false⟩
/-- CNT_BLK.COUNT (R640): Blocks landed, saturating. -/
def UPD.CNT_BLK_COUNT : Fld := ⟨0xF, 0x190, 0, 32, .ro, 0, .num, false⟩
/-- CNT_CRC.COUNT (R640): R629, saturating. -/
def UPD.CNT_CRC_COUNT : Fld := ⟨0xF, 0x194, 0, 16, .ro, 0, .num, false⟩
/-- CNTCLR.GO (R640): Clear 0x190–0x194. -/
def UPD.CNTCLR_GO : Fld := ⟨0xF, 0x198, 0, 1, .w1s, 0, .num, false⟩
/-- BDEC.SECTION (R640): Section index in the active bundle (R637). -/
def UPD.BDEC_SECTION : Fld := ⟨0xF, 0x1A0, 0, 6, .rw, 0, .num, false⟩
/-- BDEC.SLOT (R640): Bundle key slot. -/
def UPD.BDEC_SLOT : Fld := ⟨0xF, 0x1A0, 8, 5, .rw, 20, .num, false⟩
/-- BDEC.WOFF (R640): 2 KiB part of the clear buffer shown in BCLEAR. -/
def UPD.BDEC_WOFF : Fld := ⟨0xF, 0x1A0, 16, 4, .rw, 0, .num, false⟩
/-- BDEC.GO (R640): Decrypt the section. -/
def UPD.BDEC_GO : Fld := ⟨0xF, 0x1A0, 24, 1, .w1s, 0, .num, false⟩
/-- BDEC.CLR (R640): Zero-fill the clear buffer. -/
def UPD.BDEC_CLR : Fld := ⟨0xF, 0x1A0, 25, 1, .w1s, 0, .num, false⟩
/-- BDEC.DONE (R640): 0 idle, 1 busy, 2 done, 3 failed. -/
def UPD.BDEC_DONE : Fld := ⟨0xF, 0x1A0, 26, 2, .ro, 0, .num, false⟩
/-- BDEC.CODE (R640): R637. -/
def UPD.BDEC_CODE : Fld := ⟨0xF, 0x1A0, 28, 4, .ro, 0, .num, false⟩
/-- BDLEN.BYTES (R640): Plaintext length of the last section decrypted. -/
def UPD.BDLEN_BYTES : Fld := ⟨0xF, 0x1A4, 0, 16, .ro, 0, .num, false⟩
/-- BCLEAR.DATA, 512 words (R640): 2 KiB of the clear buffer, from byte WOFF × 2,048. -/
def UPD.BCLEAR : Fld := ⟨0xF, 0x400, 0, 32, .ro, 0, .num, false⟩

/-- Fields of the UPD page with their word counts, part 0. -/
def UPD.part0 : List (Fld × Nat) :=
  [(UPD.CTL_START, 1),
   (UPD.CTL_VERIFY, 1),
   (UPD.CTL_ACTIVATE, 1),
   (UPD.CTL_ABORT, 1),
   (UPD.CTL_SVNCOMMIT, 1),
   (UPD.CTL_TARGET, 1),
   (UPD.STAT_STATE, 1),
   (UPD.STAT_RECOVERY, 1),
   (UPD.STAT_CODE, 1),
   (UPD.BLK_NUM, 1),
   (UPD.BLK_GO, 1),
   (UPD.BLKCRC_CRC, 1),
   (UPD.BLKSTAT_DONE, 1),
   (UPD.BLKSTAT_CODE, 1),
   (UPD.BLKSTAT_WORDS, 1),
   (UPD.LANDED_COUNT, 1)]
/-- Fields of the UPD page with their word counts, part 1. -/
def UPD.part1 : List (Fld × Nat) :=
  [(UPD.TKEY_SLOT, 1),
   (UPD.HDR_SVN, 1),
   (UPD.HDR_SFMT, 1),
   (UPD.HDR_LEN_BYTES, 1),
   (UPD.ACTIVE_SVN, 1),
   (UPD.ACTIVE_SFMT, 1),
   (UPD.ACT_BUILD_BUILD, 1),
   (UPD.FLOOR_SVN, 1),
   (UPD.COPY_STATE, 1),
   (UPD.COPY_PCT, 1),
   (UPD.BSEQ_SEQ, 1),
   (UPD.BLKDATA_DATA, 1),
   (UPD.CNT_BLK_COUNT, 1),
   (UPD.CNT_CRC_COUNT, 1),
   (UPD.CNTCLR_GO, 1),
   (UPD.BDEC_SECTION, 1)]
/-- Fields of the UPD page with their word counts, part 2. -/
def UPD.part2 : List (Fld × Nat) :=
  [(UPD.BDEC_SLOT, 1),
   (UPD.BDEC_WOFF, 1),
   (UPD.BDEC_GO, 1),
   (UPD.BDEC_CLR, 1),
   (UPD.BDEC_DONE, 1),
   (UPD.BDEC_CODE, 1),
   (UPD.BDLEN_BYTES, 1),
   (UPD.BCLEAR, 512)]
/-- Every field of the UPD page, with the number of its words. -/
def UPD.all : List (Fld × Nat) := UPD.part0 ++ UPD.part1 ++ UPD.part2

/-- CFG.LOADED (R667): R647. -/
def ACT.CFG_LOADED : Fld := ⟨0x8, 0x100, 0, 1, .rwo, 0, .num, false⟩
/-- STAT.ENABLED (R667): Enabled entries. -/
def ACT.STAT_ENABLED : Fld := ⟨0x8, 0x104, 0, 10, .ro, 0, .num, false⟩
/-- STAT.LOCKED (R667): Locked entries. -/
def ACT.STAT_LOCKED : Fld := ⟨0x8, 0x104, 16, 10, .ro, 0, .num, false⟩
/-- SYNC.WRITES (R667): Entry writes applied; the read waits under R648. -/
def ACT.SYNC_WRITES : Fld := ⟨0x8, 0x108, 0, 32, .ro, 0, .num, false⟩
/-- VIOL.ENTRY (R667): Entry matched by the captured refusal. -/
def ACT.VIOL_ENTRY : Fld := ⟨0x8, 0x10C, 0, 9, .ro, 0, .num, false⟩
/-- VIOL.NONE (R667): No entry matched. -/
def ACT.VIOL_NONE : Fld := ⟨0x8, 0x10C, 9, 1, .ro, 0, .num, false⟩
/-- VIOL.NODE (R667): Its source node. -/
def ACT.VIOL_NODE : Fld := ⟨0x8, 0x10C, 16, 14, .ro, 0, .num, false⟩
/-- LASTVIOL.MASTER (R667): Last refusal: master. -/
def ACT.LASTVIOL_MASTER : Fld := ⟨0x8, 0x110, 0, 5, .ro, 0, .num, false⟩
/-- LASTVIOL.CODE (R667): Its code (R646). -/
def ACT.LASTVIOL_CODE : Fld := ⟨0x8, 0x110, 8, 8, .ro, 0, .num, false⟩
/-- LASTVIOL.ENTRY (R667): Its entry. -/
def ACT.LASTVIOL_ENTRY : Fld := ⟨0x8, 0x110, 16, 9, .ro, 0, .num, false⟩
/-- CNT_VIOL.COUNT (R667): Refusals, saturating. -/
def ACT.CNT_VIOL_COUNT : Fld := ⟨0x8, 0x114, 0, 32, .ro, 0, .num, false⟩
/-- CNTCLR.GO (R667): Clear CNT_VIOL. -/
def ACT.CNTCLR_GO : Fld := ⟨0x8, 0x118, 0, 1, .w1s, 0, .num, false⟩
/-- ESEL.ENTRY (R667): Entry written. -/
def ACT.ESEL_ENTRY : Fld := ⟨0x9, 0x100, 0, 9, .rw, 0, .num, false⟩
/-- EW0–EW6.DATA, 7 words (R667): Staged words 0 to 6. -/
def ACT.EW : Fld := ⟨0x9, 0x120, 0, 32, .rw, 0, .num, false⟩
/-- EW7.DATA (R667): Word 7; writing it applies the entry (R643). -/
def ACT.EW7_DATA : Fld := ⟨0x9, 0x13C, 0, 32, .rw, 0, .num, false⟩

/-- Fields of the ACT page with their word counts, part 0. -/
def ACT.part0 : List (Fld × Nat) :=
  [(ACT.CFG_LOADED, 1),
   (ACT.STAT_ENABLED, 1),
   (ACT.STAT_LOCKED, 1),
   (ACT.SYNC_WRITES, 1),
   (ACT.VIOL_ENTRY, 1),
   (ACT.VIOL_NONE, 1),
   (ACT.VIOL_NODE, 1),
   (ACT.LASTVIOL_MASTER, 1),
   (ACT.LASTVIOL_CODE, 1),
   (ACT.LASTVIOL_ENTRY, 1),
   (ACT.CNT_VIOL_COUNT, 1),
   (ACT.CNTCLR_GO, 1),
   (ACT.ESEL_ENTRY, 1),
   (ACT.EW, 7),
   (ACT.EW7_DATA, 1)]
/-- Every field of the ACT page, with the number of its words. -/
def ACT.all : List (Fld × Nat) := ACT.part0

/-- CFG.SEALSLOT (R669): Seal key slot (R661). -/
def LKT.CFG_SEALSLOT : Fld := ⟨0xA, 0x100, 0, 5, .rwl, 19, .num, false⟩
/-- HEAD.SEQ (R669): SEQ of the next record. -/
def LKT.HEAD_SEQ : Fld := ⟨0xA, 0x104, 0, 32, .ro, 0, .hw, false⟩
/-- OLDEST.SEQ (R669): Oldest SEQ held. -/
def LKT.OLDEST_SEQ : Fld := ⟨0xA, 0x108, 0, 32, .ro, 0, .hw, false⟩
/-- BOOT.COUNT (R669): Present BOOT. -/
def LKT.BOOT_COUNT : Fld := ⟨0xA, 0x10C, 0, 16, .ro, 0, .hw, false⟩
/-- MARK_LO.TICK (R669): Mark, AON timer low word (R662). -/
def LKT.MARK_LO_TICK : Fld := ⟨0xA, 0x110, 0, 32, .ro, 0, .hw, false⟩
/-- MARK_HI.TICK (R669): High bits. -/
def LKT.MARK_HI_TICK : Fld := ⟨0xA, 0x114, 0, 16, .ro, 0, .hw, false⟩
/-- MARK_HI.VALID (R669): Mark held. -/
def LKT.MARK_HI_VALID : Fld := ⟨0xA, 0x114, 31, 1, .ro, 0, .hw, false⟩
/-- CTL.MARKCLR (R669): Clear the mark. -/
def LKT.CTL_MARKCLR : Fld := ⟨0xA, 0x118, 0, 1, .w1s, 0, .num, false⟩
/-- WCTL.TYPE (R669): Type of a firmware record. -/
def LKT.WCTL_TYPE : Fld := ⟨0xA, 0x120, 0, 8, .rw, 128, .num, false⟩
/-- WCTL.GO (R669): Queue WDATA as bytes 16–47. -/
def LKT.WCTL_GO : Fld := ⟨0xA, 0x120, 31, 1, .w1s, 0, .num, false⟩
/-- WDATA.DATA, 8 words (R669): 32 bytes. -/
def LKT.WDATA : Fld := ⟨0xA, 0x140, 0, 32, .rw, 0, .num, false⟩
/-- RSEQ.SEQ (R669): Record to read (R663). -/
def LKT.RSEQ_SEQ : Fld := ⟨0xA, 0x180, 0, 32, .rw, 0, .num, false⟩
/-- RSTAT.TAG (R669): R663. -/
def LKT.RSTAT_TAG : Fld := ⟨0xA, 0x184, 0, 2, .ro, 0, .num, false⟩
/-- RSTAT.ABSENT (R669): Not in the ring. -/
def LKT.RSTAT_ABSENT : Fld := ⟨0xA, 0x184, 4, 1, .ro, 0, .num, false⟩
/-- RSTAT.BUSY (R669): Load in progress. -/
def LKT.RSTAT_BUSY : Fld := ⟨0xA, 0x184, 8, 1, .ro, 0, .num, false⟩
/-- RDATA.DATA, 16 words (R669): The record, byte 0 at [7:0] of 0x200. -/
def LKT.RDATA : Fld := ⟨0xA, 0x200, 0, 32, .ro, 0, .num, false⟩
/-- CNT_LOST.COUNT (R669): R661, saturating. -/
def LKT.CNT_LOST_COUNT : Fld := ⟨0xA, 0x240, 0, 16, .ro, 0, .num, false⟩

/-- Fields of the LKT page with their word counts, part 0. -/
def LKT.part0 : List (Fld × Nat) :=
  [(LKT.CFG_SEALSLOT, 1),
   (LKT.HEAD_SEQ, 1),
   (LKT.OLDEST_SEQ, 1),
   (LKT.BOOT_COUNT, 1),
   (LKT.MARK_LO_TICK, 1),
   (LKT.MARK_HI_TICK, 1),
   (LKT.MARK_HI_VALID, 1),
   (LKT.CTL_MARKCLR, 1),
   (LKT.WCTL_TYPE, 1),
   (LKT.WCTL_GO, 1),
   (LKT.WDATA, 8),
   (LKT.RSEQ_SEQ, 1),
   (LKT.RSTAT_TAG, 1),
   (LKT.RSTAT_ABSENT, 1),
   (LKT.RSTAT_BUSY, 1),
   (LKT.RDATA, 16)]
/-- Fields of the LKT page with their word counts, part 1. -/
def LKT.part1 : List (Fld × Nat) :=
  [(LKT.CNT_LOST_COUNT, 1)]
/-- Every field of the LKT page, with the number of its words. -/
def LKT.all : List (Fld × Nat) := LKT.part0 ++ LKT.part1

/-- STATE.LC (R670): Life-cycle byte (R610). -/
def LCS.STATE_LC : Fld := ⟨0xB, 0x100, 0, 3, .ro, 1, .hw, false⟩
/-- TARGET.LC (R670): Requested life cycle. -/
def LCS.TARGET_LC : Fld := ⟨0xB, 0x104, 0, 3, .rw, 0, .num, false⟩
/-- CONFIRM.VALUE (R670): R656. -/
def LCS.CONFIRM_VALUE : Fld := ⟨0xB, 0x108, 0, 32, .rw, 0, .num, false⟩
/-- CTL.GO (R670): Start the change. -/
def LCS.CTL_GO : Fld := ⟨0xB, 0x10C, 0, 1, .w1s, 0, .num, false⟩
/-- STAT.DONE (R670): 0 idle, 1 busy, 3 refused. -/
def LCS.STAT_DONE : Fld := ⟨0xB, 0x110, 0, 2, .ro, 0, .num, false⟩
/-- STAT.CODE (R670): R656. -/
def LCS.STAT_CODE : Fld := ⟨0xB, 0x110, 8, 4, .ro, 0, .num, false⟩
/-- NONCE.DATA, 8 words (R670): 32 bytes, renewed at reset and after each attempt. -/
def LCS.NONCE : Fld := ⟨0xB, 0x180, 0, 32, .ro, 0, .hw, false⟩
/-- AUTHPUB.DATA, 25 words (R670): Signer public key, 97 bytes, uncompressed. -/
def LCS.AUTHPUB : Fld := ⟨0xB, 0x1A0, 0, 32, .rw, 0, .num, false⟩
/-- AUTHSIG.DATA, 24 words (R670): Signature r ‖ s, 96 bytes. -/
def LCS.AUTHSIG : Fld := ⟨0xB, 0x210, 0, 32, .rw, 0, .num, false⟩
/-- AUTHKEY.INDEX (R670): Signer hash index. -/
def LCS.AUTHKEY_INDEX : Fld := ⟨0xB, 0x270, 0, 2, .rw, 0, .num, false⟩

/-- Fields of the LCS page with their word counts, part 0. -/
def LCS.part0 : List (Fld × Nat) :=
  [(LCS.STATE_LC, 1),
   (LCS.TARGET_LC, 1),
   (LCS.CONFIRM_VALUE, 1),
   (LCS.CTL_GO, 1),
   (LCS.STAT_DONE, 1),
   (LCS.STAT_CODE, 1),
   (LCS.NONCE, 8),
   (LCS.AUTHPUB, 25),
   (LCS.AUTHSIG, 24),
   (LCS.AUTHKEY_INDEX, 1)]
/-- Every field of the LCS page, with the number of its words. -/
def LCS.all : List (Fld × Nat) := LCS.part0

/-- CTL.UNLOCK (R671): Check the token (R650). -/
def DBG.CTL_UNLOCK : Fld := ⟨0xC, 0x100, 0, 1, .w1s, 0, .num, false⟩
/-- CTL.RELOCK (R671): End the unlock. -/
def DBG.CTL_RELOCK : Fld := ⟨0xC, 0x100, 1, 1, .w1s, 0, .num, false⟩
/-- STAT.STATE (R671): 0 CLOSED, 1 OPEN by life cycle, 2 UNLOCKED. -/
def DBG.STAT_STATE : Fld := ⟨0xC, 0x104, 0, 2, .ro, 0, .num, false⟩
/-- STAT.ATTACHED (R671): Debug port attached. -/
def DBG.STAT_ATTACHED : Fld := ⟨0xC, 0x104, 4, 1, .ro, 0, .hw, false⟩
/-- STAT.FAILS (R671): Failed tokens. -/
def DBG.STAT_FAILS : Fld := ⟨0xC, 0x104, 8, 2, .ro, 0, .num, false⟩
/-- STAT.LOCKOUT (R671): R650. -/
def DBG.STAT_LOCKOUT : Fld := ⟨0xC, 0x104, 10, 1, .ro, 0, .num, false⟩
/-- FI.KIND (R671): R655. -/
def DBG.FI_KIND : Fld := ⟨0xC, 0x110, 0, 3, .rw, 0, .num, false⟩
/-- FI.BIT (R671): ESTAT bit. -/
def DBG.FI_BIT : Fld := ⟨0xC, 0x110, 3, 5, .rw, 0, .num, false⟩
/-- FI.PAGE (R671): Page index, port or attachment. -/
def DBG.FI_PAGE : Fld := ⟨0xC, 0x110, 8, 12, .rw, 0, .num, false⟩
/-- FI.GO (R671): Inject. -/
def DBG.FI_GO : Fld := ⟨0xC, 0x110, 31, 1, .w1s, 0, .num, false⟩
/-- CNT_FI.COUNT (R671): Injections, saturating. -/
def DBG.CNT_FI_COUNT : Fld := ⟨0xC, 0x114, 0, 16, .ro, 0, .num, false⟩
/-- NONCE.DATA, 8 words (R671): 32 bytes, renewed at reset and after each attempt. -/
def DBG.NONCE : Fld := ⟨0xC, 0x180, 0, 32, .ro, 0, .hw, false⟩
/-- AUTHPUB.DATA, 25 words (R671): Signer public key, 97 bytes, uncompressed. -/
def DBG.AUTHPUB : Fld := ⟨0xC, 0x1A0, 0, 32, .rw, 0, .num, false⟩
/-- AUTHSIG.DATA, 24 words (R671): Signature r ‖ s, 96 bytes. -/
def DBG.AUTHSIG : Fld := ⟨0xC, 0x210, 0, 32, .rw, 0, .num, false⟩
/-- AUTHKEY.INDEX (R671): Signer hash index. -/
def DBG.AUTHKEY_INDEX : Fld := ⟨0xC, 0x270, 0, 2, .rw, 0, .num, false⟩

/-- Fields of the DBG page with their word counts, part 0. -/
def DBG.part0 : List (Fld × Nat) :=
  [(DBG.CTL_UNLOCK, 1),
   (DBG.CTL_RELOCK, 1),
   (DBG.STAT_STATE, 1),
   (DBG.STAT_ATTACHED, 1),
   (DBG.STAT_FAILS, 1),
   (DBG.STAT_LOCKOUT, 1),
   (DBG.FI_KIND, 1),
   (DBG.FI_BIT, 1),
   (DBG.FI_PAGE, 1),
   (DBG.FI_GO, 1),
   (DBG.CNT_FI_COUNT, 1),
   (DBG.NONCE, 8),
   (DBG.AUTHPUB, 25),
   (DBG.AUTHSIG, 24),
   (DBG.AUTHKEY_INDEX, 1)]
/-- Every field of the DBG page, with the number of its words. -/
def DBG.all : List (Fld × Nat) := DBG.part0

/-- CFG.PERIOD_MS (R672): Snapshot period; 0 stops periodic snapshots. -/
def TEL.CFG_PERIOD_MS : Fld := ⟨0x6, 0x100, 0, 16, .rw, 0, .num, true⟩
/-- CFG.SEND (R672): Send on TID (R665). -/
def TEL.CFG_SEND : Fld := ⟨0x6, 0x100, 16, 1, .rw, 0, .num, true⟩
/-- TID.TID (R672): TELEMETRY tunnel. -/
def TEL.TID_TID : Fld := ⟨0x6, 0x104, 0, 20, .rw, 0, .num, true⟩
/-- SNAP.GO (R672): Take a snapshot. -/
def TEL.SNAP_GO : Fld := ⟨0x6, 0x108, 0, 1, .w1s, 0, .num, false⟩
/-- SSTAT.BUSY (R672): Snapshot or send in progress. -/
def TEL.SSTAT_BUSY : Fld := ⟨0x6, 0x10C, 0, 1, .ro, 0, .num, false⟩
/-- SRCSEL.SRC (R672): Source selected. -/
def TEL.SRCSEL_SRC : Fld := ⟨0x6, 0x110, 0, 6, .rw, 0, .num, false⟩
/-- SRC.PAGE (R672): Page index. -/
def TEL.SRC_PAGE : Fld := ⟨0x6, 0x114, 0, 12, .rw, 0, .num, true⟩
/-- SRC.OFFSET (R672): Byte offset, a multiple of 4. -/
def TEL.SRC_OFFSET : Fld := ⟨0x6, 0x114, 12, 12, .rw, 0, .num, true⟩
/-- SRC.COUNT (R672): Words, 0 to 64; 0: unused. -/
def TEL.SRC_COUNT : Fld := ⟨0x6, 0x114, 24, 7, .rw, 0, .num, true⟩
/-- SRCPOS.WORD (R672): First snapshot word of the source. -/
def TEL.SRCPOS_WORD : Fld := ⟨0x6, 0x118, 0, 10, .ro, 0, .num, false⟩
/-- ESCCNT.STAGE1 (R672): Stage 1 escalations, saturating. -/
def TEL.ESCCNT_STAGE1 : Fld := ⟨0x6, 0x120, 0, 16, .ro, 0, .num, false⟩
/-- ESCCNT.STAGE2 (R672): Stage 2 escalations, saturating. -/
def TEL.ESCCNT_STAGE2 : Fld := ⟨0x6, 0x120, 16, 16, .ro, 0, .num, false⟩
/-- ESCLAST.PAGE (R672): Page of the last escalation. -/
def TEL.ESCLAST_PAGE : Fld := ⟨0x6, 0x124, 0, 12, .ro, 0, .num, false⟩
/-- ESCLAST.STAGE (R672): Its stage. -/
def TEL.ESCLAST_STAGE : Fld := ⟨0x6, 0x124, 12, 2, .ro, 0, .num, false⟩
/-- ESCLAST.VALID (R672): Capture held. -/
def TEL.ESCLAST_VALID : Fld := ⟨0x6, 0x124, 31, 1, .ro, 0, .num, false⟩
/-- CNT_SNAP.COUNT (R672): Snapshots taken, saturating. -/
def TEL.CNT_SNAP_COUNT : Fld := ⟨0x6, 0x128, 0, 32, .ro, 0, .num, false⟩
/-- CNT_SENT.COUNT (R672): Snapshots sent, saturating. -/
def TEL.CNT_SENT_COUNT : Fld := ⟨0x6, 0x12C, 0, 32, .ro, 0, .num, false⟩
/-- SNAPNUM.NUM (R672): Number of the snapshot held. -/
def TEL.SNAPNUM_NUM : Fld := ⟨0x7, 0x100, 0, 32, .ro, 0, .num, false⟩
/-- SNAPTIME_LO.NS (R672): Node time of the snapshot, low word. -/
def TEL.SNAPTIME_LO_NS : Fld := ⟨0x7, 0x108, 0, 32, .ro, 0, .num, false⟩
/-- SNAPTIME_HI.NS (R672): High word. -/
def TEL.SNAPTIME_HI_NS : Fld := ⟨0x7, 0x10C, 0, 32, .ro, 0, .num, false⟩
/-- SNAPDATA.DATA, 956 words (R672): Snapshot words (R664). -/
def TEL.SNAPDATA : Fld := ⟨0x7, 0x110, 0, 32, .ro, 0, .num, false⟩

/-- Fields of the TEL page with their word counts, part 0. -/
def TEL.part0 : List (Fld × Nat) :=
  [(TEL.CFG_PERIOD_MS, 1),
   (TEL.CFG_SEND, 1),
   (TEL.TID_TID, 1),
   (TEL.SNAP_GO, 1),
   (TEL.SSTAT_BUSY, 1),
   (TEL.SRCSEL_SRC, 1),
   (TEL.SRC_PAGE, 1),
   (TEL.SRC_OFFSET, 1),
   (TEL.SRC_COUNT, 1),
   (TEL.SRCPOS_WORD, 1),
   (TEL.ESCCNT_STAGE1, 1),
   (TEL.ESCCNT_STAGE2, 1),
   (TEL.ESCLAST_PAGE, 1),
   (TEL.ESCLAST_STAGE, 1),
   (TEL.ESCLAST_VALID, 1),
   (TEL.CNT_SNAP_COUNT, 1)]
/-- Fields of the TEL page with their word counts, part 1. -/
def TEL.part1 : List (Fld × Nat) :=
  [(TEL.CNT_SENT_COUNT, 1),
   (TEL.SNAPNUM_NUM, 1),
   (TEL.SNAPTIME_LO_NS, 1),
   (TEL.SNAPTIME_HI_NS, 1),
   (TEL.SNAPDATA, 956)]
/-- Every field of the TEL page, with the number of its words. -/
def TEL.all : List (Fld × Nat) := TEL.part0 ++ TEL.part1

/-- ADDR.ADDR (R689): Port address (R674). -/
def MGP.ADDR_ADDR : Fld := ⟨0xD, 0x100, 0, 7, .ro, 0, .strap, false⟩
/-- CFG.IDLE_S (R689): Session idle limit in s; 0 reads as 1 (R684). -/
def MGP.CFG_IDLE_S : Fld := ⟨0xD, 0x104, 0, 16, .rw, 300, .num, true⟩
/-- CFG.KSLOT (R689): Session key slot (R678). -/
def MGP.CFG_KSLOT : Fld := ⟨0xD, 0x104, 16, 5, .rwl, 18, .num, false⟩
/-- SESS.OPEN (R689): Session open. -/
def MGP.SESS_OPEN : Fld := ⟨0xD, 0x108, 0, 1, .ro, 0, .num, false⟩
/-- SESS.AUTHING (R689): OPEN answered, AUTH_GO pending. -/
def MGP.SESS_AUTHING : Fld := ⟨0xD, 0x108, 1, 1, .ro, 0, .num, false⟩
/-- SESS.KEYIDX (R689): Signer index of the session. -/
def MGP.SESS_KEYIDX : Fld := ⟨0xD, 0x108, 2, 2, .ro, 0, .num, false⟩
/-- SESS.SEQ (R689): Last accepted SEQ. -/
def MGP.SESS_SEQ : Fld := ⟨0xD, 0x108, 16, 16, .ro, 0, .num, false⟩
/-- SID.SID (R689): Session identifier. -/
def MGP.SID_SID : Fld := ⟨0xD, 0x10C, 0, 32, .ro, 0, .num, false⟩
/-- CTL.CLOSE (R689): Close the session. -/
def MGP.CTL_CLOSE : Fld := ⟨0xD, 0x110, 0, 1, .w1s, 0, .num, false⟩
/-- CLAIM.TAKE (R689): R688. -/
def MGP.CLAIM_TAKE : Fld := ⟨0xD, 0x114, 0, 1, .w1s, 0, .num, false⟩
/-- CLAIM.RELEASE (R689): R688. -/
def MGP.CLAIM_RELEASE : Fld := ⟨0xD, 0x114, 1, 1, .w1s, 0, .num, false⟩
/-- CLAIM.OWNER (R689): Master ID of the holder. -/
def MGP.CLAIM_OWNER : Fld := ⟨0xD, 0x114, 8, 5, .ro, 0, .num, false⟩
/-- CLAIM.HELD (R689): Claim held. -/
def MGP.CLAIM_HELD : Fld := ⟨0xD, 0x114, 15, 1, .ro, 0, .num, false⟩
/-- BUS.SCL (R689): SCL level. -/
def MGP.BUS_SCL : Fld := ⟨0xD, 0x118, 0, 1, .ro, 0, .hw, false⟩
/-- BUS.SDA (R689): SDA level. -/
def MGP.BUS_SDA : Fld := ⟨0xD, 0x118, 1, 1, .ro, 0, .hw, false⟩
/-- BUS.MODE (R689): Last transfer: 0 Sm, 1 Fm, 2 Fm+. -/
def MGP.BUS_MODE : Fld := ⟨0xD, 0x118, 4, 2, .ro, 0, .num, false⟩
/-- AUTHCTL.ACCEPT (R689): Open the session (R683). -/
def MGP.AUTHCTL_ACCEPT : Fld := ⟨0xD, 0x11C, 0, 1, .w1s, 0, .num, false⟩
/-- AUTHCTL.REJECT (R689): Answer AUTH_FAIL. -/
def MGP.AUTHCTL_REJECT : Fld := ⟨0xD, 0x11C, 1, 1, .w1s, 0, .num, false⟩
/-- AUTHCTL.PENDING (R689): A GETKEY, OPEN or AUTH_GO awaits MCPU. -/
def MGP.AUTHCTL_PENDING : Fld := ⟨0xD, 0x11C, 2, 1, .ro, 0, .num, false⟩
/-- AUTHCTL.OP (R689): Its OP. -/
def MGP.AUTHCTL_OP : Fld := ⟨0xD, 0x11C, 4, 4, .ro, 0, .num, false⟩
/-- CNT_REQ.COUNT (R689): Requests accepted. -/
def MGP.CNT_REQ_COUNT : Fld := ⟨0xD, 0x120, 0, 32, .ro, 0, .num, false⟩
/-- CNT_PEC.COUNT (R689): R675. -/
def MGP.CNT_PEC_COUNT : Fld := ⟨0xD, 0x124, 0, 16, .ro, 0, .num, false⟩
/-- CNT_AUTH.AUTHFAIL (R689): R683. -/
def MGP.CNT_AUTH_AUTHFAIL : Fld := ⟨0xD, 0x128, 0, 16, .ro, 0, .num, false⟩
/-- CNT_AUTH.TAG (R689): R682. -/
def MGP.CNT_AUTH_TAG : Fld := ⟨0xD, 0x128, 16, 16, .ro, 0, .num, false⟩
/-- CNT_SEQ.COUNT (R689): R682. -/
def MGP.CNT_SEQ_COUNT : Fld := ⟨0xD, 0x12C, 0, 16, .ro, 0, .num, false⟩
/-- CNT_TIMEOUT.COUNT (R689): R673. -/
def MGP.CNT_TIMEOUT_COUNT : Fld := ⟨0xD, 0x130, 0, 16, .ro, 0, .num, false⟩
/-- CNT_WAKE.COUNT (R689): R676. -/
def MGP.CNT_WAKE_COUNT : Fld := ⟨0xD, 0x134, 0, 16, .ro, 0, .num, false⟩
/-- CNTCLR.GO (R689): Clear 0x120–0x134. -/
def MGP.CNTCLR_GO : Fld := ⟨0xD, 0x138, 0, 1, .w1s, 0, .num, false⟩
/-- AUTHBUF.DATA, 64 words (R689): OPEN parameters from byte 0x00 to 0x31 (50 bytes); SIG ‖ PUB from byte 0x38 to 0xF8 (193 bytes), SIG first. -/
def MGP.AUTHBUF : Fld := ⟨0xD, 0x200, 0, 32, .ro, 0, .num, false⟩
/-- REPLY.DATA, 16 words (R689): Response data for the pending MCPU OP, byte 0 at [7:0] of 0x300. -/
def MGP.REPLY : Fld := ⟨0xD, 0x300, 0, 32, .rw, 0, .num, false⟩

/-- Fields of the MGP page with their word counts, part 0. -/
def MGP.part0 : List (Fld × Nat) :=
  [(MGP.ADDR_ADDR, 1),
   (MGP.CFG_IDLE_S, 1),
   (MGP.CFG_KSLOT, 1),
   (MGP.SESS_OPEN, 1),
   (MGP.SESS_AUTHING, 1),
   (MGP.SESS_KEYIDX, 1),
   (MGP.SESS_SEQ, 1),
   (MGP.SID_SID, 1),
   (MGP.CTL_CLOSE, 1),
   (MGP.CLAIM_TAKE, 1),
   (MGP.CLAIM_RELEASE, 1),
   (MGP.CLAIM_OWNER, 1),
   (MGP.CLAIM_HELD, 1),
   (MGP.BUS_SCL, 1),
   (MGP.BUS_SDA, 1),
   (MGP.BUS_MODE, 1)]
/-- Fields of the MGP page with their word counts, part 1. -/
def MGP.part1 : List (Fld × Nat) :=
  [(MGP.AUTHCTL_ACCEPT, 1),
   (MGP.AUTHCTL_REJECT, 1),
   (MGP.AUTHCTL_PENDING, 1),
   (MGP.AUTHCTL_OP, 1),
   (MGP.CNT_REQ_COUNT, 1),
   (MGP.CNT_PEC_COUNT, 1),
   (MGP.CNT_AUTH_AUTHFAIL, 1),
   (MGP.CNT_AUTH_TAG, 1),
   (MGP.CNT_SEQ_COUNT, 1),
   (MGP.CNT_TIMEOUT_COUNT, 1),
   (MGP.CNT_WAKE_COUNT, 1),
   (MGP.CNTCLR_GO, 1),
   (MGP.AUTHBUF, 64),
   (MGP.REPLY, 16)]
/-- Every field of the MGP page, with the number of its words. -/
def MGP.all : List (Fld × Nat) := MGP.part0 ++ MGP.part1

/-- IDENT.PART (R710): Part number. -/
def TOP.IDENT_PART : Fld := ⟨0x0, 0x100, 0, 16, .ro, 38464, .num, false⟩
/-- IDENT.SIREV (R710): Silicon revision. -/
def TOP.IDENT_SIREV : Fld := ⟨0x0, 0x100, 16, 8, .ro, 0, .hw, false⟩
/-- NODECFG.ROLE (R710): R22. -/
def TOP.NODECFG_ROLE : Fld := ⟨0x0, 0x104, 0, 2, .ro, 0, .cfg, false⟩
/-- NODECFG.CROWN_OK (R710): R22. -/
def TOP.NODECFG_CROWN_OK : Fld := ⟨0x0, 0x104, 2, 1, .ro, 0, .cfg, false⟩
/-- NODECFG.STANDALONE (R710): R24. -/
def TOP.NODECFG_STANDALONE : Fld := ⟨0x0, 0x104, 3, 1, .ro, 0, .cfg, false⟩
/-- RSTCMD.KEY (R710): 0xC1A5 starts HRST; other values are ignored. -/
def TOP.RSTCMD_KEY : Fld := ⟨0x0, 0x108, 0, 16, .wo, 0, .num, false⟩
/-- STRAPS.MGP_A (R710): R693. -/
def TOP.STRAPS_MGP_A : Fld := ⟨0x0, 0x10C, 0, 3, .ro, 0, .strap, false⟩
/-- STRAPS.QSPI_TWIN (R710): . -/
def TOP.STRAPS_QSPI_TWIN : Fld := ⟨0x0, 0x10C, 3, 1, .ro, 0, .strap, false⟩
/-- STRAPS.RECOV_N (R710): . -/
def TOP.STRAPS_RECOV_N : Fld := ⟨0x0, 0x10C, 4, 1, .ro, 0, .strap, false⟩
/-- RAILS.MAIN_EN (R710): MAIN_EN level. -/
def TOP.RAILS_MAIN_EN : Fld := ⟨0x0, 0x110, 0, 1, .ro, 0, .num, false⟩
/-- RAILS.MAIN_PG (R710): MAIN_PG level. -/
def TOP.RAILS_MAIN_PG : Fld := ⟨0x0, 0x110, 1, 1, .ro, 0, .hw, false⟩
/-- RAILS.THERM_TRIP (R710): Above the thermal trip (R701). -/
def TOP.RAILS_THERM_TRIP : Fld := ⟨0x0, 0x110, 2, 1, .ro, 0, .hw, false⟩
/-- NTIME_LO.NS (R710): Node time, low word (R32). -/
def TOP.NTIME_LO_NS : Fld := ⟨0x0, 0x118, 0, 32, .ro, 0, .num, false⟩
/-- NTIME_HI.NS (R710): High word. -/
def TOP.NTIME_HI_NS : Fld := ⟨0x0, 0x11C, 0, 32, .ro, 0, .num, false⟩
/-- NTSET_LO.NS (R710): Value to load, low word. -/
def TOP.NTSET_LO_NS : Fld := ⟨0x0, 0x120, 0, 32, .rw, 0, .num, false⟩
/-- NTSET_HI.NS (R710): High word. -/
def TOP.NTSET_HI_NS : Fld := ⟨0x0, 0x124, 0, 32, .rw, 0, .num, false⟩
/-- NTCTL.SET (R710): Load NTSET (R705). -/
def TOP.NTCTL_SET : Fld := ⟨0x0, 0x128, 0, 1, .w1s, 0, .num, false⟩
/-- NTCTL.RUN (R710): Node time advancing. -/
def TOP.NTCTL_RUN : Fld := ⟨0x0, 0x128, 1, 1, .ro, 0, .num, false⟩
/-- NTCTL.AONREF (R710): Resumed from the AON count. -/
def TOP.NTCTL_AONREF : Fld := ⟨0x0, 0x128, 2, 1, .w1c, 0, .num, false⟩

/-- Fields of the TOP page with their word counts, part 0. -/
def TOP.part0 : List (Fld × Nat) :=
  [(TOP.IDENT_PART, 1),
   (TOP.IDENT_SIREV, 1),
   (TOP.NODECFG_ROLE, 1),
   (TOP.NODECFG_CROWN_OK, 1),
   (TOP.NODECFG_STANDALONE, 1),
   (TOP.RSTCMD_KEY, 1),
   (TOP.STRAPS_MGP_A, 1),
   (TOP.STRAPS_QSPI_TWIN, 1),
   (TOP.STRAPS_RECOV_N, 1),
   (TOP.RAILS_MAIN_EN, 1),
   (TOP.RAILS_MAIN_PG, 1),
   (TOP.RAILS_THERM_TRIP, 1),
   (TOP.NTIME_LO_NS, 1),
   (TOP.NTIME_HI_NS, 1),
   (TOP.NTSET_LO_NS, 1),
   (TOP.NTSET_HI_NS, 1)]
/-- Fields of the TOP page with their word counts, part 1. -/
def TOP.part1 : List (Fld × Nat) :=
  [(TOP.NTCTL_SET, 1),
   (TOP.NTCTL_RUN, 1),
   (TOP.NTCTL_AONREF, 1)]
/-- Every field of the TOP page, with the number of its words. -/
def TOP.all : List (Fld × Nat) := TOP.part0 ++ TOP.part1

/-- BSEL.BALL (R712): GPIO ball selected, 0 to 23. -/
def GPX.BSEL_BALL : Fld := ⟨0xD0, 0x100, 0, 5, .rw, 0, .num, false⟩
/-- BFUNC.FUNC (R712): R711. -/
def GPX.BFUNC_FUNC : Fld := ⟨0xD0, 0x104, 0, 2, .rw, 0, .num, true⟩
/-- BFUNC.DIR (R712): 1: output. -/
def GPX.BFUNC_DIR : Fld := ⟨0xD0, 0x104, 8, 1, .rw, 0, .num, true⟩
/-- BFUNC.OUT (R712): Output level. -/
def GPX.BFUNC_OUT : Fld := ⟨0xD0, 0x104, 9, 1, .rw, 0, .num, true⟩
/-- BFUNC.PULL (R712): 0 none, 1 down, 2 up. -/
def GPX.BFUNC_PULL : Fld := ⟨0xD0, 0x104, 10, 2, .rw, 1, .num, true⟩
/-- BFUNC.DRIVE (R712): 2, 4, 8 or 12 mA. -/
def GPX.BFUNC_DRIVE : Fld := ⟨0xD0, 0x104, 12, 2, .rw, 1, .num, true⟩
/-- BFUNC.AONHOLD (R712): R712. -/
def GPX.BFUNC_AONHOLD : Fld := ⟨0xD0, 0x104, 14, 1, .rw, 0, .num, true⟩
/-- IN_ALL.LEVEL (R712): Input level of every ball. -/
def GPX.IN_ALL_LEVEL : Fld := ⟨0xD0, 0x108, 0, 24, .ro, 0, .hw, false⟩
/-- CONFLICT.BALL (R712): Ball of the first refused claim. -/
def GPX.CONFLICT_BALL : Fld := ⟨0xD0, 0x10C, 0, 5, .ro, 0, .num, false⟩
/-- CONFLICT.ASKED (R712): Function asked for. -/
def GPX.CONFLICT_ASKED : Fld := ⟨0xD0, 0x10C, 8, 2, .ro, 0, .num, false⟩
/-- CONFLICT.HELD (R712): Function held. -/
def GPX.CONFLICT_HELD : Fld := ⟨0xD0, 0x10C, 12, 2, .ro, 0, .num, false⟩
/-- CONFLICT.VALID (R712): Capture held. -/
def GPX.CONFLICT_VALID : Fld := ⟨0xD0, 0x10C, 31, 1, .w1c, 0, .num, false⟩

/-- Fields of the GPX page with their word counts, part 0. -/
def GPX.part0 : List (Fld × Nat) :=
  [(GPX.BSEL_BALL, 1),
   (GPX.BFUNC_FUNC, 1),
   (GPX.BFUNC_DIR, 1),
   (GPX.BFUNC_OUT, 1),
   (GPX.BFUNC_PULL, 1),
   (GPX.BFUNC_DRIVE, 1),
   (GPX.BFUNC_AONHOLD, 1),
   (GPX.IN_ALL_LEVEL, 1),
   (GPX.CONFLICT_BALL, 1),
   (GPX.CONFLICT_ASKED, 1),
   (GPX.CONFLICT_HELD, 1),
   (GPX.CONFLICT_VALID, 1)]
/-- Every field of the GPX page, with the number of its words. -/
def GPX.all : List (Fld × Nat) := GPX.part0

/-- TSEL.TIMER (R714): Timer selected. -/
def TMR.TSEL_TIMER : Fld := ⟨0xD1, 0x100, 0, 4, .rw, 0, .num, false⟩
/-- TCLAIM.OWNER (R714): Owner ID recorded at CLAIM. -/
def TMR.TCLAIM_OWNER : Fld := ⟨0xD1, 0x104, 0, 8, .rw, 0, .num, false⟩
/-- TCLAIM.CLAIM (R714): Take the timer (R713). -/
def TMR.TCLAIM_CLAIM : Fld := ⟨0xD1, 0x104, 8, 1, .w1s, 0, .num, false⟩
/-- TCLAIM.RELEASE (R714): Give it back. -/
def TMR.TCLAIM_RELEASE : Fld := ⟨0xD1, 0x104, 9, 1, .w1s, 0, .num, false⟩
/-- TCLAIM.MASTER (R714): Master ID of the holder. -/
def TMR.TCLAIM_MASTER : Fld := ⟨0xD1, 0x104, 16, 5, .ro, 0, .num, false⟩
/-- TCLAIM.HELD (R714): Timer held. -/
def TMR.TCLAIM_HELD : Fld := ⟨0xD1, 0x104, 24, 1, .ro, 0, .num, false⟩
/-- TCFG.EN (R714): Running. -/
def TMR.TCFG_EN : Fld := ⟨0xD1, 0x108, 0, 1, .rw, 0, .num, true⟩
/-- TCFG.MODE (R714): 0 one-shot, 1 periodic, 2 capture; 3 reads as 0. -/
def TMR.TCFG_MODE : Fld := ⟨0xD1, 0x108, 1, 2, .rw, 0, .num, true⟩
/-- TCFG.OUTEN (R714): Drive the ball under FUNC 3. -/
def TMR.TCFG_OUTEN : Fld := ⟨0xD1, 0x108, 3, 1, .rw, 0, .num, true⟩
/-- TCFG.PRESC (R714): Divide by 2^PRESC. -/
def TMR.TCFG_PRESC : Fld := ⟨0xD1, 0x108, 4, 4, .rw, 0, .num, true⟩
/-- TLOAD.COUNT (R714): Start value. -/
def TMR.TLOAD_COUNT : Fld := ⟨0xD1, 0x10C, 0, 32, .rw, 0, .num, true⟩
/-- TCOUNT.COUNT (R714): Present count. -/
def TMR.TCOUNT_COUNT : Fld := ⟨0xD1, 0x110, 0, 32, .ro, 0, .num, false⟩
/-- TCAP.COUNT (R714): Last capture. -/
def TMR.TCAP_COUNT : Fld := ⟨0xD1, 0x114, 0, 32, .ro, 0, .num, false⟩
/-- HELDMAP.TIMERS (R714): Held timers. -/
def TMR.HELDMAP_TIMERS : Fld := ⟨0xD1, 0x120, 0, 16, .ro, 0, .num, false⟩

/-- Fields of the TMR page with their word counts, part 0. -/
def TMR.part0 : List (Fld × Nat) :=
  [(TMR.TSEL_TIMER, 1),
   (TMR.TCLAIM_OWNER, 1),
   (TMR.TCLAIM_CLAIM, 1),
   (TMR.TCLAIM_RELEASE, 1),
   (TMR.TCLAIM_MASTER, 1),
   (TMR.TCLAIM_HELD, 1),
   (TMR.TCFG_EN, 1),
   (TMR.TCFG_MODE, 1),
   (TMR.TCFG_OUTEN, 1),
   (TMR.TCFG_PRESC, 1),
   (TMR.TLOAD_COUNT, 1),
   (TMR.TCOUNT_COUNT, 1),
   (TMR.TCAP_COUNT, 1),
   (TMR.HELDMAP_TIMERS, 1)]
/-- Every field of the TMR page, with the number of its words. -/
def TMR.all : List (Fld × Nat) := TMR.part0

end Sys2Proof.Machine
end

