-- ==== Sys2Proof/Machine/Hidden.lean ====
section
/-! DEFINITION. Scalar state of the blocks that the spec names and no register field shows: counters, flags and
numbers of each block's own machine. Each is 0 at reset unless its last argument says
otherwise, and resets with its block (Machine/Resets.lean). -/

namespace Sys2Proof.Machine

/-- R47: LOCK of the page has been written since POR or HRST. -/
def HDR.hLockSet : Fld := Fld.hidden 0x0 0x800
/-- R652: the escalation timer of the page runs. -/
def HDR.hEscRun : Fld := Fld.hidden 0x0 0x804
/-- R652: the stage the page last took; 0 where none within the last second. -/
def HDR.hEscStage : Fld := Fld.hidden 0x0 0x808
/-- R652: an enabled bit has been set again since that stage. -/
def HDR.hEscAgain : Fld := Fld.hidden 0x0 0x80C
/-- R652: node cycles when the page last took a stage. -/
def HDR.hEscAt : Fld := Fld.hidden 0x0 0x810
/-- R717: a soft reset of the page is running. -/
def HDR.hSrstBusy : Fld := Fld.hidden 0x0 0x814
/-- R7: CFG.LOADED has been written since POR or HRST. -/
def ACT.hLoadedSet : Fld := Fld.hidden 0x8 0x0
/-- R82: PLLs that lost lock and have not relocked, one bit each as PLLEN. -/
def CLK.hUnlocked : Fld := Fld.hidden 0x1 0x0
/-- R63: the code driven on CORE_VID[4:0]. -/
def FIL.hVid : Fld := Fld.hidden 0x2 0x0 8
/-- R66, R76: the code from which the present ramp started. -/
def FIL.hStart : Fld := Fld.hidden 0x2 0x4 8
/-- R74: the node is in the condition of CAP_SHORT. -/
def FIL.hShort : Fld := Fld.hidden 0x2 0x8
/-- R87: the node is in the condition of UNDERVOLT. -/
def FIL.hUv : Fld := Fld.hidden 0x2 0xC
/-- R87: the node is in the condition of TJ_HIGH. -/
def FIL.hHot : Fld := Fld.hidden 0x2 0x10
/-- R69: consecutive updates of HSRATE below GCAP_OPS. -/
def FIL.hLow : Fld := Fld.hidden 0x2 0x14
/-- R81: clocks whose gate was written 0 and that wait for their crossing FIFOs to drain, bits as GATE. -/
def CLK.hStopping : Fld := Fld.hidden 0x1 0x4
/-- R187, R192: the TOKEN last used by this node. -/
def TUN.hTok : Fld := Fld.hidden 0x40 0x0
/-- R235: cells charged to a queue, by point × 16 + class. -/
def THR.hCharged : Fld := Fld.hidden 0x49 0x0
/-- R235: cells charged to SHARED. -/
def SWB.hShared : Fld := Fld.hidden 0x48 0x0
/-- R214: bank pointer, by ingress point. -/
def SWB.hPtr : Fld := Fld.hidden 0x48 0x4
/-- R655: flipped bits that the next buffer write takes. -/
def SWB.hFlip : Fld := Fld.hidden 0x48 0x8
/-- R251: a wipe is running. -/
def SWB.hWiping : Fld := Fld.hidden 0x48 0xC
/-- R655: attachments whose next FIFO entry takes a parity error. -/
def FIL.hParity : Fld := Fld.hidden 0x2 0x18
/-- R79: cells in the crossing FIFO from the core to an attachment, by attachment as R87 numbers them, from 8 on. -/
def FIL.hFifo : Fld := Fld.hidden 0x2 0x1C
/-- R192: the request sent is a write. -/
def TUN.hRrqWr : Fld := Fld.hidden 0x40 0x4
/-- R280: the request sent belongs to a reading of reservation records. -/
def TUN.hSettle : Fld := Fld.hidden 0x40 0x8
/-- R277: the TXN that the crown last gave to a change. -/
def CAS.hTxn : Fld := Fld.hidden 0x68 0x28
/-- R204: paths of a context that have delivered since its INIT: bit 0 A, bit 1 B. -/
def TWN.hHeard : Fld := Fld.hidden 0x69 0x4
/-- R204: paths of a context that have become silent: bit 0 A, bit 1 B. -/
def TWN.hQuiet : Fld := Fld.hidden 0x69 0x0
/-- R295: selections until tier 3 may be taken again. -/
def SCH.hAgedGap : Fld := Fld.hidden 0x50 0x0
/-- R300: next eligible time of a queue in the overflow bucket, ns. -/
def SCH.hNet : Fld := Fld.hidden 0x50 0x4
/-- R252: cells of a bank visited in the present scrub pass. -/
def SWB.hScrubRow : Fld := Fld.hidden 0x48 0x10
/-- R252: CD2 cycle at which the present scrub pass began, plus 1; 0 before its first visit. -/
def SWB.hScrubStart : Fld := Fld.hidden 0x48 0x14
/-- R419: Max_Payload_Size of the PCI Express link, 128 × 2^n bytes. -/
def PCI.hMps : Fld := Fld.hidden 0x81 0x10
/-- R407: the frame of a head lacks frame memory: 1 from its start on, 2 since some later moment. -/
def DHD.hNoMem : Fld := Fld.hidden 0x71 0x10
/-- R398: where the frame of a head underran: line × 2^13 + pixel. -/
def DHD.hUnderAt : Fld := Fld.hidden 0x71 0x14
/-- R252: operations of a bank since its last scrub slot in forced mode, up to 1,024. -/
def SWB.hForeground : Fld := Fld.hidden 0x48 0x18
/-- R139, R150: cumulative count of a VC's cells freed, by VC. -/
def OPT.hFreed : Fld := Fld.hidden 0x10 0x0
/-- R150, R152: cells of a VC accepted and not yet freed, by VC. -/
def OPT.hHeld : Fld := Fld.hidden 0x10 0x4
/-- R159: the port has stopped taking tunnel cells for a power request. -/
def OPT.hPmHold : Fld := Fld.hidden 0x10 0x8
/-- R225, R460: when the MAC has sent every byte it holds of the frames it has begun, in units of 0.02 ns of CD2 time. -/
def ETH.hDry : Fld := Fld.hidden 0x90 0x4
/-- R460: bytes that the MAC holds of a frame it has not begun to send. -/
def ETH.hWait : Fld := Fld.hidden 0x90 0x8
/-- R460: the MAC has begun to send the frame whose cells arrive. -/
def ETH.hBegun : Fld := Fld.hidden 0x90 0xC
/-- R319: the highest EPOCH heard. -/
def CAS.hMaxEpoch : Fld := Fld.hidden 0x68 0x0
/-- R319: the highest DGEN heard. -/
def CAS.hMaxDgen : Fld := Fld.hidden 0x68 0x4
/-- R324, R325: the first free ID of the pool; at the crown, of its own free IDs beyond its pool too. -/
def CAS.hPoolNext : Fld := Fld.hidden 0x68 0x8
/-- R330: the next heartbeat carries YIELD. -/
def CAS.hYield : Fld := Fld.hidden 0x68 0xC
/-- R334: the node has no uplink left and has not found a new one. -/
def CAS.hIsolated : Fld := Fld.hidden 0x68 0x10
/-- R322: the tier would exceed 8. -/
def CAS.hDeep : Fld := Fld.hidden 0x68 0x14
/-- R332: consecutive time results within LOCK_NS. -/
def CAS.hNear : Fld := Fld.hidden 0x68 0x18
/-- R332: consecutive time results above LOCK_NS. -/
def CAS.hFar : Fld := Fld.hidden 0x68 0x1C
/-- R332: node time still to be slewed, ns, two's complement of 64 bits. -/
def CAS.hSlew : Fld := Fld.hidden 0x68 0x20
/-- R332: CD2 cycles over which the slew is spread. -/
def CAS.hSlewFor : Fld := Fld.hidden 0x68 0x24
/-- R705: the fraction of node time, in units of 2^-32 ns. -/
def TOP.hFrac : Fld := Fld.hidden 0x0 0x0
/-- R705: NTCTL.SET has been written, and NTSET is loaded at the next CD2 cycle. -/
def TOP.hSetNow : Fld := Fld.hidden 0x0 0x4
/-- R693: levels of the strap balls, as STRAPS has its bits. -/
def TOP.hStraps : Fld := Fld.hidden 0x0 0x8
/-- R106: index i of PRESEQ in use. -/
def OLN.hPreIx : Fld := Fld.hidden 0x20 0x0
/-- R104: consecutive valid TS blocks received in ACQUIRE. -/
def OLN.hTsRun : Fld := Fld.hidden 0x20 0x4
/-- R104: consecutive TS blocks received with RX_LOCKED = 1 in CONFIRM. -/
def OLN.hLockRun : Fld := Fld.hidden 0x20 0x8
/-- R108: tie value in received TS. -/
def OLN.hTie : Fld := Fld.hidden 0x20 0xC
/-- R109: arrival of the lane in blocks. -/
def OLN.hLag : Fld := Fld.hidden 0x20 0x10
/-- R97: AM count expected next, plus 1; 0 where none has been received. -/
def OLN.hAmNext : Fld := Fld.hidden 0x20 0x14
/-- R97: AM blocks missed or misplaced in succession. -/
def OLN.hAmMiss : Fld := Fld.hidden 0x20 0x18
/-- R156: charges without an ACK in between of a frame the lane carried. -/
def OLN.hCharge : Fld := Fld.hidden 0x20 0x1C
/-- R91: the last 58 bits that the lane's scrambler has sent, the oldest in bit 0. -/
def OLN.hScr : Fld := Fld.hidden 0x20 0x20
/-- R105: place in its training frame of the next block that the lane sends. -/
def OLN.hTrain : Fld := Fld.hidden 0x20 0x24
/-- R98: the polarity is fixed until the next DETECT. -/
def OLN.hPolFix : Fld := Fld.hidden 0x20 0x28
/-- R122: what the lane saved as it entered L2, by place in the list of the saved values. -/
def OLN.hSaved : Fld := Fld.hidden 0x20 0x2C
/-- R102, R122: the CDR phase in use, which no register reports. -/
def OLN.hCdrPhase : Fld := Fld.hidden 0x20 0x30
/-- R139: frame groups before an ACK is due again. -/
def OPT.hAckWait : Fld := Fld.hidden 0x10 0xF8
/-- R139: frame groups for which the count of a VC has waited to be sent, by VC. -/
def OPT.hCredAge : Fld := Fld.hidden 0x10 0xFC
/-- R107: the lanes are wired reversed. -/
def OPT.hRev : Fld := Fld.hidden 0x10 0xE8
/-- R110: 16 ms have passed since the first lane reached READY. -/
def OPT.hFormDue : Fld := Fld.hidden 0x10 0xEC
/-- R120: the partner's EIDLE waits for the end of a retirement: 1 for L1, 2 for L2. -/
def OPT.hEidle : Fld := Fld.hidden 0x10 0xF0
/-- R107: the partner's port in TS as the port formed. -/
def OPT.hFar : Fld := Fld.hidden 0x10 0xF4
/-- R96: training blocks heard with valid sync headers since the receiver began to acquire, whatever they hold. -/
def OLN.hHdrRun : Fld := Fld.hidden 0x20 0x34
/-- R323: the crown's COUNT did not fit, and it grants nothing until REDISCOVER. -/
def CAS.hTooMany : Fld := Fld.hidden 0x68 0x2C
/-- R325: device ID of the child that a port's block was granted to, by port. -/
def CAS.hGrantDev : Fld := Fld.hidden 0x68 0x30
/-- R106: the entry of PRESEQ that applies at the end of the next TS block, plus 1; 0 for none. -/
def OLN.hPreNext : Fld := Fld.hidden 0x20 0x38
/-- R113, R117: the retired mask that the answer to a RETIRE carries. -/
def OPT.hAnsMask : Fld := Fld.hidden 0x10 0x100
/-- R149: the encryption policy that the last CAP sent reported. -/
def OPT.hCrypt : Fld := Fld.hidden 0x10 0x104
/-- R125: AON beacon enable, by lane. -/
def AON.hBeaconEn : Fld := Fld.hidden 0x3 0x0 1
/-- R108: tie value of the port. -/
def OPT.hTie : Fld := Fld.hidden 0x10 0xC
/-- R110: a lane has reached READY since the port was last DOWN. -/
def OPT.hReady : Fld := Fld.hidden 0x10 0x10
/-- R108: logical lane k is physical lane 3 - k at this end. -/
def OPT.hMirror : Fld := Fld.hidden 0x10 0x14
/-- R113: logical lanes the transmitter uses. -/
def OPT.hTxSet : Fld := Fld.hidden 0x10 0x18
/-- R113: logical lanes the receiver uses. -/
def OPT.hRxSet : Fld := Fld.hidden 0x10 0x1C
/-- R113: 1 a RETIRE with ACK = 0 is to be sent, 2 one was sent and waits for its answer. -/
def OPT.hRet : Fld := Fld.hidden 0x10 0x20
/-- R113: a RETIRE with ACK = 1 is to be sent. -/
def OPT.hRetAns : Fld := Fld.hidden 0x10 0x24
/-- R113, R117: logical lanes that the RETIREs under way retire. -/
def OPT.hRetMask : Fld := Fld.hidden 0x10 0x28
/-- R113, R157: active set that the RETIRE to be sent names; 0 where R112 gives it. -/
def OPT.hRetSet : Fld := Fld.hidden 0x10 0x2C
/-- R156: extended sequence number of the first frame sent since the last retirement, plus 1: a resend of an earlier frame is
charged to no lane. -/
def OPT.hNoCharge : Fld := Fld.hidden 0x10 0x30
/-- R124: a beacon is being sent, plus the physical lane that started it. -/
def OPT.hBcn : Fld := Fld.hidden 0x10 0x34
/-- R124: beacon bursts sent. -/
def OPT.hBursts : Fld := Fld.hidden 0x10 0x38
/-- R94: frame groups sent since L0 began. -/
def OPT.hGroups : Fld := Fld.hidden 0x10 0x3C
/-- R93: AM count. -/
def OPT.hAmCount : Fld := Fld.hidden 0x10 0x40
/-- R95: blocks in the deskew buffer. -/
def OPT.hDeskew : Fld := Fld.hidden 0x10 0x44
/-- R163: extended sequence number of the next new frame. -/
def OPT.hTxExt : Fld := Fld.hidden 0x10 0x48
/-- R154, R163: EXPECT as an extended sequence number. -/
def OPT.hRxExt : Fld := Fld.hidden 0x10 0x4C
/-- R139, R165: extended sequence number that the next ACK names, plus 1. -/
def OPT.hAckExt : Fld := Fld.hidden 0x10 0x50
/-- R154: EXPECT for which a NAK has been raised, plus 1. -/
def OPT.hNakFor : Fld := Fld.hidden 0x10 0x54
/-- R155: a resend is under way. -/
def OPT.hResend : Fld := Fld.hidden 0x10 0x58
/-- R155: extended sequence number of the next frame to resend. -/
def OPT.hResendAt : Fld := Fld.hidden 0x10 0x5C
/-- R139: an ACK is to be sent. -/
def OPT.hAckPend : Fld := Fld.hidden 0x10 0x60
/-- R139: a NAK is to be sent. -/
def OPT.hNakPend : Fld := Fld.hidden 0x10 0x64
/-- R139: CREDIT value last sent, by VC. -/
def OPT.hCredSent : Fld := Fld.hidden 0x10 0x68
/-- R150: CREDIT value last received, by VC. -/
def OPT.hCredLast : Fld := Fld.hidden 0x10 0x6C
/-- R150: credits advertised at CAPX, by VC. -/
def OPT.hAdv : Fld := Fld.hidden 0x10 0x70
/-- R140: TOKEN last used. -/
def OPT.hTok : Fld := Fld.hidden 0x10 0x74
/-- R146: TOKEN of the CAP sent. -/
def OPT.hCapTok : Fld := Fld.hidden 0x10 0x78
/-- R146: the CAP sent has been acknowledged. -/
def OPT.hCapAck : Fld := Fld.hidden 0x10 0x7C
/-- R147: CAP byte 26 as sent. -/
def OPT.hFace : Fld := Fld.hidden 0x10 0x80
/-- R157: TOKEN of the WIDTH_REQ that waits for its answer. -/
def OPT.hWidthTok : Fld := Fld.hidden 0x10 0x84
/-- R157: target active mask of the request. -/
def OPT.hWidthMask : Fld := Fld.hidden 0x10 0x88
/-- R157: 1 WIDTH_REQ sent, 2 accepted and its RETIRE under way. -/
def OPT.hWidth : Fld := Fld.hidden 0x10 0x8C
/-- R159: power request: 1 waits for the replay buffer, 2 PM_REQ sent, 3 accepted. -/
def OPT.hPm : Fld := Fld.hidden 0x10 0x90
/-- R159: TOKEN of PM_REQ. -/
def OPT.hPmTok : Fld := Fld.hidden 0x10 0x94
/-- R159: target of the own request, and the state that EIDLE names. -/
def OPT.hPmL2 : Fld := Fld.hidden 0x10 0x98
/-- R159: the partner's request: 1 accepted and PM_ACK waits, 2 PM_ACK sent. -/
def OPT.hPmPart : Fld := Fld.hidden 0x10 0x9C
/-- R159: TOKEN of the partner's PM_REQ. -/
def OPT.hPmPartTok : Fld := Fld.hidden 0x10 0xA0
/-- R159: target of the partner's PM_REQ. -/
def OPT.hPmPartL2 : Fld := Fld.hidden 0x10 0xA4
/-- R120: exit from LOWPOWER under way. -/
def OPT.hExit : Fld := Fld.hidden 0x10 0xA8
/-- R161: number of the last TMARK sent. -/
def OPT.hMark : Fld := Fld.hidden 0x10 0xAC
/-- R161: 1 a TMARK is to be sent, 2 one was sent in this frame group and its TIME cell follows. -/
def OPT.hMarkPend : Fld := Fld.hidden 0x10 0xB0
/-- R161: transmit time of a TMARK, plus 1, by its number. -/
def OPT.hMarkTime : Fld := Fld.hidden 0x10 0xB4
/-- R161: number of the last TMARK received. -/
def OPT.hRxMark : Fld := Fld.hidden 0x10 0xB8
/-- R161: receive time of a TMARK, plus 1, by its number. -/
def OPT.hRxMarkTime : Fld := Fld.hidden 0x10 0xBC
/-- R164: the transmit direction is armed. -/
def OPT.hTxArm : Fld := Fld.hidden 0x10 0xC0
/-- R164: the receive direction is armed. -/
def OPT.hRxArm : Fld := Fld.hidden 0x10 0xC4
/-- R163, R166: first span under the transmit phase in use. -/
def OPT.hTxFrom : Fld := Fld.hidden 0x10 0xC8
/-- R163, R166: first span under the receive phase in use. -/
def OPT.hRxFrom : Fld := Fld.hidden 0x10 0xCC
/-- R164, R166: TOKEN of the KEY that waits for its answer, plus 1. -/
def OPT.hKeyTok : Fld := Fld.hidden 0x10 0xD0
/-- R164, R166: first span that the KEY sent names. -/
def OPT.hKeySpan : Fld := Fld.hidden 0x10 0xD4
/-- R166: 1 the transmitter's KEY is accepted and the switch waits, 2 switched and earlier spans not yet acknowledged. -/
def OPT.hRoll : Fld := Fld.hidden 0x10 0xD8
/-- R166: span of an accepted KEY at which the receiver switches, plus 1. -/
def OPT.hRxRoll : Fld := Fld.hidden 0x10 0xDC
/-- R167: tag failures in a row on the present span. -/
def OPT.hTagFail : Fld := Fld.hidden 0x10 0xE0
/-- R164: slots written since the port last left UP, by port. -/
def KEY.hFresh : Fld := Fld.hidden 0xE 0x0
/-- R349: the ring of a writer is being zero-filled, by writer. -/
def DTL.hFill : Fld := Fld.hidden 0x77 0x0
/-- R350: slot that a writer is writing, plus 1, by writer. -/
def DTL.hSlot : Fld := Fld.hidden 0x77 0x4
/-- R350: slot that a writer last committed, plus 1, by writer. -/
def DTL.hLast : Fld := Fld.hidden 0x77 0x8
/-- R347: frame count of a writer, by writer. -/
def DTL.hCount : Fld := Fld.hidden 0x77 0xC
/-- R359: next byte of the pixel area in raster order, by window. -/
def DTL.hExpect : Fld := Fld.hidden 0x77 0x10
/-- R356: DISORDER in the present frame, by window. -/
def DTL.hDisorder : Fld := Fld.hidden 0x77 0x14
/-- R356: FW_DROP, by window. -/
def DTL.hDrop : Fld := Fld.hidden 0x77 0x18
/-- R357: END taken, signatures not ready, by window. -/
def DTL.hEnd : Fld := Fld.hidden 0x77 0x1C
/-- R371: FRAME of the open frame, by receive stream. -/
def DTL.hOpen : Fld := Fld.hidden 0x77 0x20
/-- R371: expected ORD, by receive stream. -/
def DTL.hOrd : Fld := Fld.hidden 0x77 0x24
/-- R371: last + 1, by receive stream. -/
def DTL.hTile : Fld := Fld.hidden 0x77 0x28
/-- R374: tiles in error in the open frame, by receive stream. -/
def DTL.hErr : Fld := Fld.hidden 0x77 0x2C
/-- R374: the open frame has an error, by receive stream. -/
def DTL.hBad : Fld := Fld.hidden 0x77 0x30
/-- R374: END received, the commit waits for the catch-up: 1, with FULL 2, by receive stream. -/
def DTL.hWait : Fld := Fld.hidden 0x77 0x34
/-- R363: FULL of a send stream. -/
def DTL.hFull : Fld := Fld.hidden 0x77 0x38
/-- R350, R363: the slot that a send stream is sending, plus 1. -/
def DTL.hSendSlot : Fld := Fld.hidden 0x77 0x44
/-- R365: what a send stream's pace has earned, in 1/32 byte. -/
def DTL.hPace : Fld := Fld.hidden 0x77 0x48
/-- R361: the cells of its packet that a send stream has offered. -/
def DTL.hCell : Fld := Fld.hidden 0x77 0x4C
/-- R172: the send stream whose packet is open on a display attachment, plus 1. -/
def DTL.hOwner : Fld := Fld.hidden 0x77 0x50
/-- R365: when a display attachment is free, in tenths of a CD2 cycle. -/
def DTL.hAttach : Fld := Fld.hidden 0x77 0x54
/-- R363: FRAME of the slot last sent, plus 1, by send stream. -/
def DTL.hSent : Fld := Fld.hidden 0x77 0x3C
/-- R366: rolling refresh pointer, by send stream. -/
def DTL.hRoll : Fld := Fld.hidden 0x77 0x40
/-- R398: the present frame has underrun. -/
def DHD.hUnder : Fld := Fld.hidden 0x71 0x0
/-- R401: the present frame is damaged. -/
def DHD.hDamage : Fld := Fld.hidden 0x71 0x4
/-- R391: raster position in units of 10^-7 pixel from line 0. -/
def DHD.hRaster : Fld := Fld.hidden 0x71 0x8
/-- R435: MSI catch bits. -/
def TXB.hCatch : Fld := Fld.hidden 0x80 0x0
/-- R434: polls sent without a reply since. -/
def TXB.hPolls : Fld := Fld.hidden 0x80 0x4
/-- R421: MWR packets sent, modulo 65536, by ordered tunnel. -/
def TXB.hSent : Fld := Fld.hidden 0x80 0x8
/-- R421: MWR packets landed, modulo 65536, by source node. -/
def TXB.hLanded : Fld := Fld.hidden 0x80 0xC
/-- R418: number of the next read of a local requester. -/
def TXB.hRead : Fld := Fld.hidden 0x80 0x10
/-- R707: PCIE_PERST_N is high. -/
def PCI.hPerst : Fld := Fld.hidden 0x81 0x0
/-- R445: the wipe that follows POR and HRST is still due. -/
def MEM.hWipe : Fld := Fld.hidden 0x88 0x0 1
/-- R455: VMAP_A as staged, plus 1. -/
def ETH.hStage : Fld := Fld.hidden 0x90 0x0
/-- R464: P_MAP as staged, plus 1, by port. -/
def LMD.hStage : Fld := Fld.hidden 0x92 0x0
/-- R477: the hub presents itself to its upstream. -/
def USB.hAttached : Fld := Fld.hidden 0xA0 0x0
/-- R496, R497: a remote wake has gone upstream, and the host's resume is awaited. -/
def USB.hWoken : Fld := Fld.hidden 0xA0 0x4
/-- R497: CD2 cycle at which the resume of the upstream host ends. -/
def USB.hResume : Fld := Fld.hidden 0xA0 0x8
/-- R491: the open control transfer has an IN data stage. -/
def UDF.hIn : Fld := Fld.hidden 0xA1 0x0
/-- R491: EP0 answers STALL until the next SETUP. -/
def UDF.hStall : Fld := Fld.hidden 0xA1 0x4
/-- R490: EP2 halted by the host. -/
def UDF.hHalt2 : Fld := Fld.hidden 0xA1 0x8
/-- R482: next REQSEQ, by down tunnel. -/
def RHA.hSeq : Fld := Fld.hidden 0xA2 0x0
/-- R488: REQSEQ the agent expects next. -/
def RHA.hNext : Fld := Fld.hidden 0xA2 0x4
/-- R482: the ring has been rung and descriptors may wait, by ring. -/
def RHA.hRung : Fld := Fld.hidden 0xA2 0x8
/-- R495: CD2 cycle at which resume signalling ends. -/
def RHA.hResume : Fld := Fld.hidden 0xA2 0x10
/-- R484: data toggle, by ring. -/
def RHA.hToggle : Fld := Fld.hidden 0xA2 0xC
/-- R574, R575: what a domain is doing: 1 switch closed and power-good not seen, 2 reset and being filled, 3 draining, 4 power-good missed. -/
def PDM.hDom : Fld := Fld.hidden 0x4 0x0
/-- R582: votes that act on the domains. -/
def PDM.hVotes : Fld := Fld.hidden 0x4 0x4 4094
/-- R582: state that the running transition leads to. -/
def PDM.hGoal : Fld := Fld.hidden 0x4 0x8
/-- R585: ports asked into LOWPOWER by the running transition. -/
def PDM.hAsked : Fld := Fld.hidden 0x4 0xC
/-- R597: a wake has been recognised and ISTAT.WAKE is due. -/
def PDM.hWake : Fld := Fld.hidden 0x4 0x10
/-- R597: a source has been recognised since the last entry began. -/
def AON.hFirst : Fld := Fld.hidden 0x3 0x4
/-- R502: closure that waits: 1 SOURCE, 2 SINK. -/
def CLP.hWant : Fld := Fld.hidden 0xB0 0x0
/-- R516: current accepted and not yet in force, plus 1. -/
def CLP.hPend : Fld := Fld.hidden 0xB0 0x4
/-- R516: a decrease waits for the limit to be lowered. -/
def CLP.hLower : Fld := Fld.hidden 0xB0 0x8
/-- R524: the last REQUEST carried ARM. -/
def CLP.hArmAsk : Fld := Fld.hidden 0xB0 0xC
/-- R524: the source has accepted ARM. -/
def CLP.hArmed : Fld := Fld.hidden 0xB0 0x10
/-- R511: ROLE of the partner's last STATUS. -/
def CLP.hFar : Fld := Fld.hidden 0xB0 0x14
/-- R509, R532: a contract has been held since POR or HRST. -/
def CLP.hHad : Fld := Fld.hidden 0xB0 0x18
/-- R531: ROLE before the hard reset. -/
def CLP.hBefore : Fld := Fld.hidden 0xB0 0x1C
/-- R513: the negotiation in BOOT is to be tried again. -/
def CLP.hAgain : Fld := Fld.hidden 0xB0 0x20
/-- R527: the SRC_ON sent carries FAST. -/
def CLP.hFast : Fld := Fld.hidden 0xB0 0x24
/-- R530: CD2 cycle at which CA ends. -/
def CLP.hCa : Fld := Fld.hidden 0xB0 0x28
/-- R537: Enter Mode has been accepted. -/
def TCP.hMode : Fld := Fld.hidden 0xB8 0x0
/-- R558: the output met the budget when its turn came. -/
def LPO.hBudget : Fld := Fld.hidden 0xC0 0x0
/-- R543: the current limit acts and the fault timer runs. -/
def LPO.hLimit : Fld := Fld.hidden 0xC0 0x4
/-- R554: a detection has failed and is to be repeated. -/
def LPO.hRepeat : Fld := Fld.hidden 0xC0 0x8
/-- R533: the VBUS converter is enabled, as TCPk_VEN drives it. -/
def TCP.hVen : Fld := Fld.hidden 0xB8 0x4
/-- R540: CD2 cycle until which the port stays unattached. -/
def TCP.hAway : Fld := Fld.hidden 0xB8 0xC
/-- R536: VBUS was removed at a bus fall or in SOLITAIRE, until the partner leaves. -/
def TCP.hCut : Fld := Fld.hidden 0xB8 0x8
/-- R557: VBUS has been measured, so VMIN holds. -/
def BUS.hSeen : Fld := Fld.hidden 0xC8 0x0
/-- R625: Fjarosh runs. -/
def UPD.hFw : Fld := Fld.hidden 0xF 0x0
/-- R705: node time as copied when MGMT turned off. -/
def RET.hNs : Fld := Fld.hidden 0x5 0x0
/-- R705: AON timer count at that instant. -/
def RET.hTick : Fld := Fld.hidden 0x5 0x4
/-- R599: hub ports suspended when PERI went off. -/
def AON.hUsbSusp : Fld := Fld.hidden 0x3 0x8
/-- R599: hub ports whose resume is held until the hub runs. -/
def AON.hUsbHeld : Fld := Fld.hidden 0x3 0xC
/-- R706: HRST_N is low. -/
def AON.hHeld : Fld := Fld.hidden 0x3 0x10
/-- R613: the word written to CMD with GO. -/
def KEY.hCmd : Fld := Fld.hidden 0xE 0x4
/-- R613: PARAM at that write. -/
def KEY.hParam : Fld := Fld.hidden 0xE 0x8
/-- R625: the boot ROM has run since MGMT was last reset. -/
def UPD.hBoot : Fld := Fld.hidden 0xF 0x4
/-- R631: copy named by the bundle marker, plus 1. -/
def UPD.hBundle : Fld := Fld.hidden 0xF 0x8
/-- R636: 1 from the activation of a bundle to the next start, 2 from that start to the one after it. -/
def UPD.hNewBundle : Fld := Fld.hidden 0xF 0x20
/-- R634: format number of the stored settings. -/
def UPD.hSfmt : Fld := Fld.hidden 0xF 0xC
/-- R629: block that is being landed. -/
def UPD.hBlk : Fld := Fld.hidden 0xF 0x10
/-- R637: section, slot and window of the bundle decryption that runs. -/
def UPD.hBdec : Fld := Fld.hidden 0xF 0x14
/-- R658: life-cycle stamp of the config store. -/
def LCS.hStamp : Fld := Fld.hidden 0xB 0x0 1
/-- R629: area of the flash or the config store that is staged: 1, 2 or 3. -/
def UPD.hArea : Fld := Fld.hidden 0xF 0x18
/-- R629: the block that is being landed fails its CRC. -/
def UPD.hCrcBad : Fld := Fld.hidden 0xF 0x1C
/-- R656: life cycle that the running change leads to. -/
def LCS.hTo : Fld := Fld.hidden 0xB 0x4
/-- R655: the next trailer sent on the port carries a wrong CRC. -/
def OPT.hBadCrc : Fld := Fld.hidden 0x10 0xE4
/-- R682: TAG failures in a row. -/
def MGP.hTagFails : Fld := Fld.hidden 0xD 0x0
/-- R677: SEQ of the request that awaits MCPU. -/
def MGP.hSeq : Fld := Fld.hidden 0xD 0x4
/-- R676: a wake by address is to be counted. -/
def AON.hMgpWake : Fld := Fld.hidden 0x3 0x14
/-- R22, R23: the role that the node started in: ROLE, CROWN_OK in bit 2, and bit 3 once the settings have been loaded since POR
or HRST. -/
def AON.hRole : Fld := Fld.hidden 0x3 0x18
/-- R714: a one-shot timer has stopped at 0, by timer. -/
def TMR.hStop : Fld := Fld.hidden 0xD1 0x0
/-- R714: level of the timer's output, by timer. -/
def TMR.hOut : Fld := Fld.hidden 0xD1 0x4

end Sys2Proof.Machine
end

