-- ==== Sys2Proof/Config.lean ====
section
/-! DEFINITION. What an implementation fixes and what the spec leaves open. Every constant here has no body that a
proof can see: a claim is true whatever it is. -/

namespace Sys2Proof

/-- Value number `n` of the values that the spec leaves open: the state counts how many were drawn, and each use
cuts its value to the width it needs. -/
opaque Config.free : Nat → Nat

/-- PID.VER of each page type (R36): the page layout version, which the spec does not state. -/
opaque Config.pageVersion : Nat → Nat

/-- PCAP.BLK of each page type (R36): block-specific capabilities, which the spec does not state. -/
opaque Config.pageCaps : Nat → Nat

/-- The bytes that a packed save of these fields takes (R579 gives the packing in outline only). -/
opaque Config.packedBytes : List (Nat × Nat) → Nat

/-- The power limit of the PoDL table for a class, in 10 mW (R551 cites the standard's table, which is not restated). -/
opaque Config.podlPower : Nat → Nat

/-- SHA-384 (the standard's function, not restated here). -/
opaque Config.sha384 : Bytes → Bytes

/-- HKDF-SHA-384 of a salt, input key material and an info string (R606, R610). -/
opaque Config.hkdf : (salt ikm info : Bytes) → Bytes

/-- The AES-256-GCM or GMAC tag of data under a key and a nonce. -/
opaque Config.gmac : (key nonce data : Bytes) → Bytes

/-- The AES-256-GCM tag over additional data and ciphertext (R163). -/
opaque Config.gcmTag : (key nonce aad ct : Bytes) → Bytes

/-- AES-256-GCM encryption of data under a key and a nonce. -/
opaque Config.gcmCrypt : (key nonce data : Bytes) → Bytes

/-- AES-256-GCM decryption of data under a key and a nonce. -/
opaque Config.gcmDecrypt : (key nonce data : Bytes) → Bytes

/-- XTS-AES-256 encryption of a 64-byte unit under a 512-bit key and a tweak (R378). -/
opaque Config.xtsEncrypt : (key : Bytes) → (tweak : Nat) → (unit : Bytes) → Bytes

/-- XTS-AES-256 decryption of a 64-byte unit under a 512-bit key and a tweak (R378). -/
opaque Config.xtsDecrypt : (key : Bytes) → (tweak : Nat) → (unit : Bytes) → Bytes

/-- AES-256-CTR of data under a key and an initial counter block. -/
opaque Config.ctr : (key iv data : Bytes) → Bytes

/-- Whether an ECDSA P-384 signature over a message verifies under a public key. -/
opaque Config.ecdsaOk : (pub msg sig : Bytes) → Bool

/-- The compressed P-384 public key of a private key. -/
opaque Config.p384Pub : Bytes → Bytes

/-- The ECDH P-384 shared secret of a private key and a public key. -/
opaque Config.ecdh : (priv pub : Bytes) → Bytes

/-- Whether a compressed point lies on P-384. -/
opaque Config.onCurve : Bytes → Bool

/-- A number of the scalar range of P-384 made of 32 bytes (R611). -/
opaque Config.scalar : Bytes → Bytes

/-- The device secret and the PUF key of the node, one after the other (R605, R606). -/
opaque Config.rootSecret : Bytes

/-- SHA-384 of the boot ROM contents (R608). -/
opaque Config.romDigest : Bytes

/-- SHA-384 of the life-cycle byte, the PRESENT and REVOKED fuses and the device configuration fuses (R608). -/
opaque Config.fuseDigest : (lc present revoked : Nat) → Bytes

/-- The settings that the sections of a bundle carry for the fields whose Reset column is CFG (R48, R635): keys and
values. The spec gives no format for the contents of these sections. -/
opaque Config.bundleSettings : Bytes → List (Nat × Nat)

/-- Half of the flash, in bytes (R627): a bank. -/
opaque Config.bankBytes : Nat

/-- A tunnel as the crown plans it (R197): its ID, the nodes of its path with the words of each node's entry, the source first;
the paths they form, each from the source to a target; its reservation in ct; and whether the entries assign a queue class and
virtual channels of their own in place of those of the kind (R25, R26). -/
structure TunPlan where
  tid : Nat
  hops : List (Nat × List Nat)
  paths : List (List Nat)
  ct : Nat
  own : Bool
  deriving DecidableEq, Repr, Inhabited

/-- What the crown decides to change (R197, R277, R278): a set-up of one tunnel or of the two of a pair, after which the
endpoints are moved to it, each move a word written to a register of a node, and the tunnel `old` is torn down where one is
named (R335, R377); a tear-down; or another reservation. -/
inductive Wish
  | none
  | setup (plans : List TunPlan) (moves : List (Nat × Nat × Nat)) (old : Option Nat)
  | teardown (tid : Nat)
  | amount (tid ct : Nat)
  deriving DecidableEq, Repr, Inhabited

/-- The crown's decision of a moment: which tunnels there are, on which paths and with which amounts, the spec leaves to the crown
(R178, R194, R197). -/
opaque Config.wish : Nat → Wish

end Sys2Proof
end

