-- ==== Sys2Proof/Machine/State.lean ====
section
/-! DEFINITION. The state of a node as plain data. `Hub` is everything but the queue of commands; `State` adds the
queue. Registers, and the scalar hidden state of each block, lie in `regs`, one entry for each field, keyed by page,
bank, offset and bit (Machine/Reg.lean); the register maps and the hidden fields are named in Machine/RegMap*.lean
and Machine/Hidden.lean. What is a list or a record of its own stands in a field below. -/

namespace Sys2Proof.Machine

/-- Why a step stops. No command of this model faults: the spec gives every event an effect or lets it change
nothing. The one constructor keeps the type inhabited; no meaning raises it. -/
inductive Fault
  | never
  deriving DecidableEq, Repr

/-- Why a command has no meaning. -/
inductive Refusal
  /-- The command of this mnemonic has no meaning yet (raised by the dispatcher only; safe: the run ends). -/
  | notModelled (mnemonic : String)
  deriving DecidableEq, Repr

/-- The answer a master last received from the register window, in the form of its path (R61, R646). -/
inductive Resp
  | none
  /-- The access was carried out; read data, words in order. -/
  | ok (data : List Nat)
  /-- Bus error response to MCPU. -/
  | busError (data : List Nat)
  /-- Completion with Unsupported Request to the PCIe host. -/
  | unsupported
  /-- A posted write dropped without response. -/
  | dropped
  /-- Reply with a status of R190 to FABRIC. -/
  | fabric (status : Nat) (data : List Nat)
  /-- Reply with a status of R681 to MGP. -/
  | tsudy (status : Nat) (data : List Nat)
  /-- Debug access response with its error flag and code (R715). -/
  | debug (code : Nat) (data : List Nat)
  deriving DecidableEq, Repr

/-- The staging buffer of one master in one table window (R51): the entry whose lower words are staged, and the
words staged, by word number. -/
structure Staging where
  entry : Nat := 0
  words : Tab Nat := []
  deriving DecidableEq, Repr

/-- The latch of the upper word of a 64-bit register for one master (R32). -/
structure Latch64 where
  valid : Bool := false
  addr : Nat := 0
  high : Nat := 0
  deriving DecidableEq, Repr

/-- The read latch of one master (R52): an entry of a table window, by the offset of its lowest word. -/
structure TabLatch where
  valid : Bool := false
  addr : Nat := 0
  words : List Nat := []
  deriving DecidableEq, Repr

/-- A locket record waiting in the writer's queue (R660, R661): the fields of its layout, and for a record of
Fjarosh the 32 bytes that take the place of bytes 16 to 47. -/
structure LkRec where
  typ : Nat
  time : Nat := 0
  timeAon : Bool := false
  lc : Nat := 0
  page : Nat := 0
  stage : Nat := 0
  estat : Nat := 0
  info : Nat := 0
  addr : Nat := 0
  etime : Nat := 0
  detail : Nat := 0
  own : Option Bytes := none
  deriving DecidableEq, Repr

/-- A node-routed CONTROL message that leaves the node (R187): the header fields and the body from byte 8 on. -/
structure CtlMsg where
  typ : Nat
  resp : Bool := false
  dst : Nat
  tok : Nat
  body : Bytes := []
  deriving DecidableEq, Repr

/-- The buckets of a meter (R304), in 1/32 byte, and the CD2 cycle at which they were last brought up to date. One
ct is 1/32 byte per CD2 cycle. -/
structure Meter where
  tc : Int := 0
  tp : Int := 8388608
  at_ : Nat := 0
  deriving DecidableEq, Repr

/-- A cell held in the shared buffer (R212): its number, payload and FILL, how many bits of its first word are
flipped, and the pool it is charged to (R235: 0 RESV, 1 SHARED, 2 HEADROOM). -/
structure PCell where
  num : Nat
  data : Bytes
  fill : Nat
  flips : Nat
  pool : Nat
  deriving DecidableEq, Repr

/-- A target that still holds a packet (R231, R233): the egress point, whether it may cut through (R222), the cells
it has read, and, once it has started, the AGE its cells leave with (R176), the bytes charged to its shaper (R297)
and the display attachment (R292). -/
structure Tgt where
  pt : Nat
  ct : Bool
  started : Bool := false
  read : Nat := 0
  age : Nat := 0
  charge : Int := 0
  attach : Nat := 0
  /-- The shaper values under which it started (R308): whether its queue was shaped, the length mode and the overhead. -/
  shaped : Bool := false
  byteMode : Bool := false
  ovh : Int := 0
  deriving DecidableEq, Repr

/-- A cell read out by an egress point, and the queue class it left (R309). -/
structure OutCell where
  cls : Nat
  cell : Cell
  deriving DecidableEq, Repr

/-- A packet descriptor (R215) with its cells in order. -/
structure Pkt where
  /-- Its number among the 131,072 descriptors (R213). -/
  desc : Nat := 0
  tid : Nat
  kind : Nat
  vc : Nat
  dn : Bool
  twin : Bool
  seq : Nat
  colour : Nat
  cls : Nat
  tgts : List Tgt
  ingress : Nat
  tin : Nat
  age : Nat
  cells : List PCell := []
  poison : Bool := false
  complete : Bool := false
  early : Bool := false
  multi : Bool := false
  /-- Queue entries taken. -/
  nq : Nat := 0
  /-- The charge queue of R235: point × 16 + class. -/
  chargeQ : Nat := 0
  meter : Nat := 0x1FFF
  mbytes : Int := 0
  /-- The length mode and the overhead of the meter when it coloured the packet (R311). -/
  mByte : Bool := false
  mOvh : Int := 0
  /-- R250, R261: neither read nor freed again until the next wipe. -/
  stuck : Bool := false
  deriving DecidableEq, Repr

/-- A twin copy that a merge accepted and that has not ended (R203): context, whether it came by path B, and SEQ. -/
structure Copy where
  ctx : Nat
  pathB : Bool
  seq : Nat
  deriving DecidableEq, Repr

/-- An open-packet record of one ingress point and virtual channel (R172, R213): the descriptor that its cells join,
or none where they are discarded. -/
structure OpenPk where
  id : Option Nat := none
  /-- R173: 512 cells have arrived, and the rest is discarded up to the next SOP cell. -/
  long : Bool := false
  tid : Nat := 0
  n : Nat := 0
  entry : Option Nat := none
  copy : Option Copy := none
  bad : Bool := false
  deriving DecidableEq, Repr

/-- A per-queue shaper bucket (R296), in 1/32 byte, and the CD2 cycle at which it was last brought up to date. An
unlisted bucket is full. -/
structure Shaper where
  tok : Int := 1099511627776
  at_ : Nat := 0
  deriving DecidableEq, Repr

/-- One step of a change that the crown carries out (R197, R277, R278, R325): messages of one TYPE, sent together,
whose answers the crown awaits before it goes on. -/
structure ChgStep where
  typ : Nat
  msgs : List (Nat × Bytes)
  deriving DecidableEq, Repr

/-- One tunnel of a change: its ID and its pair's, the TXN, the amounts before and after in ct, the nodes of its path, the source
first, and for a set-up the words of each node's entry. -/
structure Leg where
  tid : Nat
  pair : Nat := 0
  txn : Nat := 0
  before : Nat := 0
  after : Nat := 0
  hops : List Nat := []
  ents : List (List Nat) := []
  deriving DecidableEq, Repr

/-- What a change at the crown is: a run of ROUTE_SETs, a set-up, a tear-down, an increase or a decrease, or the putting right of
hops (R280). -/
inductive ChgKind
  | routes
  | setup
  | teardown
  | amount
  | mend
  deriving DecidableEq, Repr

/-- A change under way at the crown, of one tunnel or of the two of a pair (R199); the first of `steps` is the one under way. -/
structure Change where
  kind : ChgKind := .routes
  legs : List Leg := []
  /-- LEDGER INTENTs not yet acknowledged (R329). -/
  waits : Nat := 0
  steps : List ChgStep := []
  /-- Hops, each with the tunnel, that answered TUN_SETUP with OK. -/
  ok : List (Nat × Nat) := []
  /-- Hops that answered the step under way with OK. -/
  done : List (Nat × Nat) := []
  /-- Another status that a hop answered the step under way with, 255 for no answer; 0: none. -/
  bad : Nat := 0
  /-- The change has failed, and its steps undo it (R198, R277, R279). -/
  undo : Bool := false
  /-- The set-up is tried again with another TID (R198). -/
  retry : Bool := false
  /-- The words that move the endpoints to the new tunnel, by node and window offset (R335). -/
  moves : List (Nat × Nat × Nat) := []
  /-- The tunnel to tear down after the set-up. -/
  old : Option Nat := none
  deriving DecidableEq, Repr

/-- A tunnel that the crown has set up: its pair, the nodes of its path, the source first, and its reservation; `gone` is 0, or the
node time in ns from which its ID may be assigned again (R178). -/
structure Path where
  pair : Nat := 0
  hops : List Nat := []
  ct : Nat := 0
  gone : Nat := 0
  deriving DecidableEq, Repr

/-- A request of this node that awaits its answer: the message, how often it was sent again (R198, R279), and the
change it belongs to. -/
structure Ask where
  msg : CtlMsg
  tries : Nat := 0
  chg : Option Nat := none
  deriving DecidableEq, Repr

/-- A hop that the crown holds as unreconciled (R279, R335): the message it did not answer. -/
structure Unrec where
  hop : Nat
  typ : Nat
  tid : Nat
  txn : Nat
  amount : Nat
  deriving DecidableEq, Repr

/-- A reading of reservation records by remote register access (R280, R335): the tunnel, the source, the hops still to be read; of
the hop under way, the access next made and the entry index found; and of each hop read, COMMITTED and STATE. For an
unreconciled hop, the message that it did not answer. -/
structure Settle where
  tid : Nat
  txn : Nat
  src : Nat
  hops : List Nat
  stage : Nat := 0
  idx : Nat := 0
  found : List (Nat × Nat × Nat) := []
  unrec : Option Unrec := none
  deriving DecidableEq, Repr

/-- A ledger intent (R326, R329). -/
structure Intent where
  src : Nat
  tid : Nat
  txn : Nat
  before : Nat
  after : Nat
  hops : List Nat
  deriving DecidableEq, Repr

/-- A link management cell (R140), and whether it is the mailbox's (R142). -/
structure Lmc where
  typ : Nat
  tok : Nat := 0
  payload : Bytes := []
  mbx : Bool := false
  deriving DecidableEq, Repr

/-- The last NEIGHBOUR received on a port (R316, R317). -/
structure Nbr where
  device : Nat := 0
  node : Nat := 0
  nodeValid : Bool := false
  tier : Nat := 15
  crown : Bool := false
  cand : Bool := false
  prio : Nat := 0
  epoch : Nat := 0
  dgen : Nat := 0
  crownNode : Nat := 0
  crownValid : Bool := false
  standby : Nat := 0
  standbyValid : Bool := false
  parent : Bool := false
  sparent : Bool := false
  dist : Nat := 15
  bestPrio : Nat := 0
  best : Nat := 0
  deriving DecidableEq, Repr

/-- A sequenced frame in a port's replay buffer (R153): its extended sequence number since CAPX, what its slots and
trailer hold, the physical lane that last carried it, and whether it carries the mailbox cell. -/
structure RFrame where
  ext : Nat
  ncell : Nat
  lmc : Bool
  slots : List Bytes
  lane : Nat
  mbx : Bool := false
  deriving DecidableEq, Repr

/-- What a lane's transmitter sends: a 66-bit block, by its sync header and payload (R90), or a burst of the wake beacon (R124). -/
inductive Wire
  | blk (hdr payload : Nat)
  | burst
  deriving DecidableEq, Repr

/-- A transaction packet that the bridge has sent (R415, R416): the tunnel it goes on, or, where `rev` is set, the
tunnel whose link's ordered tunnel carries it in the reverse direction; its header and its data. -/
structure TxbMsg where
  tid : Nat
  rev : Bool := false
  h : TxbHdr
  data : Bytes := []
  deriving DecidableEq, Repr

/-- A tag in use or in quarantine (R420, R424): its outbound window, the read and the offset in it of the piece that
holds it, the link's ordered tunnel, the piece's length and the bytes received. -/
structure TxbTag where
  win : Nat
  rd : Nat
  off : Nat
  ord : Nat
  len : Nat
  got : Nat := 0
  quar : Bool := false
  /-- Its read has ended, and its LAST completion is still awaited (R420, R425). -/
  dead : Bool := false
  deriving DecidableEq, Repr

/-- A piece of a read that waits for a tag (R418, R420). -/
structure TxbPiece where
  rd : Nat
  off : Nat
  win : Nat
  req : Nat
  h : TxbHdr
  deriving DecidableEq, Repr

/-- A read of a local requester (R418): pieces not complete, whether one has failed, and the data by offset. -/
structure TxbRead where
  fromBus : Bool
  addr : Nat
  left : Nat
  failed : Bool := false
  parts : Tab Bytes := []
  deriving DecidableEq, Repr

/-- An answer to a local requester (R413, R423): 0 with the data, 1 Unsupported Request, 2 Completer Abort; the
management CPU sees 1 and 2 as a bus error. -/
structure TxbAns where
  fromBus : Bool
  addr : Nat
  status : Nat
  data : Bytes := []
  deriving DecidableEq, Repr

/-- An MWR in the landing buffer, or an MRD that waits or is issued (R421, R422, R426): tunnel, source node, header
and data. -/
structure TxbIn where
  tid : Nat
  src : Nat
  h : TxbHdr
  data : Bytes := []
  deriving DecidableEq, Repr

/-- An entry of the posted-error FIFO (R429). -/
structure TxbErr where
  off : Nat
  tid : Nat
  win : Nat
  status : Nat
  node : Nat
  deriving DecidableEq, Repr

/-- A request that the bridge has issued on PCI Express (R419). -/
structure PcieReq where
  addr : Nat
  len : Nat
  /-- The data of a write; none for a read. -/
  data : Option Bytes
  ro : Bool
  ns : Bool
  deriving DecidableEq, Repr

/-- A packet of a USB tunnel (R483). -/
inductive UsbPkt
  | req (q : UsbReq) (data : Bytes)
  | cancel (ring slot reqseq : Nat)
  | busctl (op : Nat)
  | cpl (c : UsbCpl) (data : Bytes)
  | event (ev bus : Nat) (wake : Bool) (oldest : Nat)
  deriving DecidableEq, Repr

/-- A request in flight at the session end (R482): its ring and descriptor, REQSEQ and tunnels. -/
structure UsbFlight where
  ring : Nat
  slot : Nat
  seq : Nat
  dtid : Nat
  utid : Nat
  len : Nat
  deriving DecidableEq, Repr

/-- A request that the agent holds (R484), in the order of arrival `ord`: the request, its OUT data and its NAKs. -/
structure UsbHeld where
  q : UsbReq
  ord : Nat
  data : Bytes := []
  naks : Nat := 0
  deriving DecidableEq, Repr

/-- A clasp request that awaits its answer (R510, R513): CTYPE, TOKEN and payload, how often it was sent again, and
whether the port has carried it yet. -/
structure ClaspAsk where
  ctype : Nat
  tok : Nat
  payload : Bytes
  tries : Nat := 0
  sent : Bool := false
  deriving DecidableEq, Repr

/-- A USB Power Delivery message that a Type-C port has sent (R534 to R537). -/
inductive PdOut
  | accept
  | reject
  | notSupported
  /-- The PDOs offered: number and current in 10 mA. -/
  | sourceCaps (pdos : List (Nat × Nat))
  | request (ma : Nat)
  | hardReset
  | fastRoleSwap
  /-- Discover SVIDs and Discover Modes answered: the SVID, and whether pin assignments C and D are offered. -/
  | modes (svid : Nat) (pinC pinD : Bool)
  | vdmAck
  | vdmNak
  /-- DP Status Update or Attention with the HPD level. -/
  | dpStatus (hpd : Bool)
  deriving DecidableEq, Repr

/-- A node, but for its queue of commands. -/
structure Hub where
  /-- Every register field and every hidden scalar, by key. -/
  regs : Tab Nat := []
  /-- Shadow values of RWS fields written since the last commit (R43). -/
  shadow : Tab Nat := []
  /-- Retention memory: Kept fields saved, by key (R579). -/
  ret : Tab Nat := []
  /-- The table windows, one 32-bit word for each word offset of the window (R50). -/
  tab : Tab Nat := []
  /-- Staging buffers, by master × 8 + table (R51). -/
  staging : Tab Staging := []
  /-- 64-bit read latches, by master (R32). -/
  latch64 : Tab Latch64 := []
  /-- Table read latches, by master (R52). -/
  tabLatch : Tab TabLatch := []
  /-- The last answer of the window, by master (R61). -/
  resp : Tab Resp := []
  /-- Frame memory, LPDDR5X, by byte address (R341). -/
  fmem : Tab Byte := []
  /-- The settings of the config store for the fields whose Reset column is CFG, by key (R48). -/
  cfg : Tab Nat := []
  /-- CD2 cycles since power-on (R78); the model's own count of time. -/
  cyc : Nat := 0
  /-- How many open values were drawn (the model's own field). -/
  freeIx : Nat := 0
  /-- Cell operations and replica rate of each 10 µs of the last 1 ms, newest first (R70). -/
  filWin : List (Nat × Nat) := []
  /-- The locket writer's queue, oldest first, at most 8 records (R661). -/
  lkQueue : List LkRec := []
  /-- The locket ring in the config store: 64-byte records by SEQ (R660). -/
  lkRing : Tab Bytes := []
  /-- Node-routed CONTROL messages sent, oldest first (R187). -/
  ctlOut : List CtlMsg := []
  /-- The meters, by number; an unlisted meter holds its buckets of R306 after reset. -/
  meters : Tab Meter := []
  /-- Packet descriptors held, by the model's own descriptor number (R215). -/
  pkts : Tab Pkt := []
  /-- The next descriptor number. -/
  pktNext : Nat := 0
  /-- Open-packet records, by ingress point × 4 + VC (R213). -/
  opens : Tab OpenPk := []
  /-- The queues, by egress point × 16 + class: descriptor numbers, head first (R289). -/
  queues : Tab (List Nat) := []
  /-- Cells read out by each egress point and not yet taken by a frame group; at points 8 to 13, delivered. -/
  egOut : Tab (List OutCell) := []
  /-- Cells that the core's inputs hold back, by ingress point, oldest first (R67, R251). -/
  stalled : Tab (List Cell) := []
  /-- Shaper buckets, by egress point × 16 + class (R296). -/
  shapers : Tab Shaper := []
  /-- Requests that await an answer, by TOKEN. -/
  asks : Tab Ask := []
  /-- Changes under way at the crown, by the model's own number (R197, R277). -/
  changes : Tab Change := []
  /-- Tunnels that this node has set up as crown, by tunnel ID (R178, R197). -/
  paths : Tab Path := []
  /-- Readings of reservation records that wait or are under way, in order (R280, R335). -/
  settles : List Settle := []
  /-- Hops held as unreconciled (R279). -/
  unrec : List Unrec := []
  /-- Intents held: open ones at the standby crown, and those a new crown has to settle (R329, R330). -/
  intents : List Intent := []
  /-- Link management cells that wait on each port, in the order they were raised (R141). -/
  lmcQ : Tab (List Lmc) := []
  /-- The stored NEIGHBOUR of each port (R317). -/
  nbrs : Tab Nbr := []
  /-- The ID block granted to the child on each port: first ID and size (R324, R325). -/
  granted : Tab (Nat × Nat) := []
  /-- Nodes that reported NODE_READY, by node ID (R328). -/
  ready : Tab NodeInfo := []
  /-- Sequenced frames sent and not yet covered by an ACK, by port, oldest first (R153). -/
  replay : Tab (List RFrame) := []
  /-- Frames accepted whose span has not passed its tag check, by port (R165). -/
  spanRx : Tab (List RFrame) := []
  /-- The additional data and the ciphertext of the transmit span under way, by port (R163). -/
  spanTx : Tab (Bytes × Bytes) := []
  /-- What each lane's transmitter has sent, oldest first, by lane (R90). -/
  wire : Tab (List Wire) := []
  /-- The last CAP payload received, by port (R146). -/
  capRx : Tab Bytes := []
  /-- Key material of the key store, by slot (R610, R611). -/
  keys : Tab Bytes := []
  /-- The gap list of each receive stream, oldest first (R375). -/
  gaps : Tab (List (Nat × Nat)) := []
  /-- The repair ranges queued at each send stream (R367). -/
  repairs : Tab (List (Nat × Nat)) := []
  /-- Tiles that the open frame of each receive stream has written (R376). -/
  tileDone : Tab (List Nat) := []
  /-- Tile packets sent by each send stream toward its display attachment, oldest first (R362, R363). -/
  tileOut : Tab (List TilePkt) := []
  /-- Transaction packets sent, oldest first (R416). -/
  txbOut : List TxbMsg := []
  /-- Tags in use or in quarantine (R420). -/
  tags : Tab TxbTag := []
  /-- Pieces that wait for a tag, in order (R420). -/
  rdWait : List TxbPiece := []
  /-- Reads of local requesters under way, by the model's own number (R418). -/
  reads : Tab TxbRead := []
  /-- Answers given to local requesters, oldest first (R423). -/
  rdAns : List TxbAns := []
  /-- The landing buffer, in order of arrival (R426). -/
  land : List TxbIn := []
  /-- MRDs that wait for their writes and for completion space (R421, R422). -/
  rdIn : List TxbIn := []
  /-- Reads issued to the bus, oldest first, with the data that memory gave (R422). -/
  rdBus : List TxbIn := []
  /-- The posted-error FIFO (R429). -/
  pfifo : List TxbErr := []
  /-- Requests issued on PCI Express, oldest first (R419). -/
  pcieOut : List PcieReq := []
  /-- MSI-X vectors sent to the host, oldest first (R436, R449). -/
  msixOut : List Nat := []
  /-- Ethernet frames sent, oldest first, by MAC (R459). -/
  ethOut : Tab (List Bytes) := []
  /-- Frames sent on the lume pairs, oldest first, by port (R465, R467). -/
  lumeOut : Tab (List Bytes) := []
  /-- USB tunnel packets sent, oldest first, each with its tunnel (R483). -/
  usbOut : List (Nat × UsbPkt) := []
  /-- Requests in flight at the session end, oldest first (R482). -/
  usbFly : List UsbFlight := []
  /-- Requests that the agent holds, by slot (R484). -/
  usbHeld : Tab UsbHeld := []
  /-- Packets that the device function has sent to the host, oldest first, each with its endpoint (R491, R492). -/
  udfOut : List (Nat × Bytes) := []
  /-- The clasp request of each port that awaits its answer (R513). -/
  claspAsk : Tab ClaspAsk := []
  /-- Power Delivery messages sent, oldest first, by Type-C port (R534). -/
  pdOut : Tab (List PdOut) := []
  /-- K_root, while it is formed (R606). -/
  root : Bytes := []
  /-- The ephemeral private key held in the key engine, if any (R613). -/
  ephemeral : Bytes := []
  /-- The agreement register (R610, R613). -/
  agree : Bytes := []
  /-- Sealed records: copies of 64 bytes, by record × 2 + copy (R620). -/
  recs : Tab Bytes := []
  /-- The marker words of the sealed records, by record (R620). -/
  marks : Tab Nat := []
  /-- The signer key hashes in the fuses, by index (R605). -/
  signers : Tab Bytes := []
  /-- The flash and the bundle copies of the config store, by byte (R627, R629): area × 2^26 + offset, with the areas 0 active
  bank, 1 staging bank, 2 and 3 bundle copies. An unlisted byte is erased and reads 0xFF. -/
  flash : Tab Byte := []
  /-- The words written to BLKDATA since the last GO, oldest first (R629). -/
  blk : List Nat := []
  /-- Blocks landed since START (R629). -/
  landed : Tab Nat := []
  /-- The clear buffer of the bundle decrypt engine (R637). -/
  clear : Bytes := []
  /-- The words of the block that is being landed (R629). -/
  landing : List Nat := []
  /-- Telemetry packets sent, oldest first, each with its tunnel (R665). -/
  telOut : List (Nat × Bytes) := []
  /-- The response that the management port holds; empty while none is ready (R680). -/
  mgpResp : Bytes := []
  /-- What the last Block Read of the management port returned (R680). -/
  mgpRead : Bytes := []
  deriving DecidableEq, Repr

/-- The state of the machine: the node and the commands that wait, first in, first out. -/
structure State where
  hub : Hub := {}
  pending : List Instr := []
  deriving DecidableEq, Repr

/-- The machine right after power-on reset: every register at the value its Reset column gives (Fld.dflt), every memory
empty, nothing waiting. Only the domain AON is on, and its four pages have finished reset (R9, R706, R717); the crystal does not
run yet, and CD0 runs from the RC oscillator (R78, R704). -/
def State.reset : State :=
  { hub := { regs := (CLK.REFSTAT_AON_RC.key 0 0, 1) :: [1, 3, 4, 5].map fun pg => (HDR.PSTAT_READY.key pg 0, 1) } }

end Sys2Proof.Machine
end

