-- ==== Sys2Proof/Machine/Ops.lean ====
section
/-! DEFINITION. The shared operations: reading and writing register fields, errors and interrupts of a page,
counters, shadows and locks, the register window's checks and answers, table words, and the reset classes. -/

namespace Sys2Proof.Machine

/-! ### Numbers and bytes -/

/-- Bits `[lo + w - 1 : lo]` of `n`. -/
def bits (n lo w : Nat) : Nat := n / 2 ^ lo % 2 ^ w

/-- `n` with bits `[lo + w - 1 : lo]` replaced by `v`. -/
def setBits (n lo w v : Nat) : Nat := n - bits n lo w * 2 ^ lo + v % 2 ^ w * 2 ^ lo

/-- `n` with every bit of `m` cleared. -/
def clrMask (n m : Nat) : Nat := n - (n &&& m)

/-- 1 for true, 0 for false. -/
def bnat (b : Bool) : Nat := if b then 1 else 0

/-- A two's complement value of `w` bits. -/
def toSigned (w n : Nat) : Int := if n % 2 ^ w < 2 ^ (w - 1) then (n % 2 ^ w : Nat) else (n % 2 ^ w : Nat) - (2 ^ w : Nat)

/-- The `w`-bit two's complement code of `z`. -/
def ofSigned (w : Nat) (z : Int) : Nat := (z % (2 ^ w : Nat)).toNat

/-- ⌈a / b⌉. -/
def ceilDiv (a b : Nat) : Nat := (a + b - 1) / b

/-- The little-endian value of a byte string. -/
def leNat : Bytes → Nat
  | [] => 0
  | b :: bs => b.toNat + 256 * leNat bs

/-- `n` bytes of `v`, least significant first. -/
def natLe : Nat → Nat → Bytes
  | 0, _ => []
  | n + 1, v => BitVec.ofNat 8 v :: natLe n (v / 256)

/-- The little-endian value of the `n` bytes from byte `i`. -/
def leAt (bs : Bytes) (i n : Nat) : Nat := leNat ((bs.drop i).take n)

/-- A byte string cut or filled with zeros to `n` bytes. -/
def padTo (n : Nat) (bs : Bytes) : Bytes := (bs ++ List.replicate (n - bs.length) 0).take n

/-- The 32-bit words of a byte string, least significant byte first. -/
def toWords : Nat → Bytes → List Nat
  | 0, _ => []
  | n + 1, bs => leNat (bs.take 4) :: toWords n (bs.drop 4)

/-- The bytes of 32-bit words, least significant byte first. -/
def ofWords (ws : List Nat) : Bytes := ws.flatMap (natLe 4)

/-- One bit shifted through the reflected polynomial of CRC-32C (R136). -/
def crcBit (c : Nat) : Nat := if c % 2 = 1 then (c / 2) ^^^ 0x82F63B78 else c / 2

/-- One byte taken into the register of CRC-32C. -/
def crcByte (c : Nat) (b : Byte) : Nat := Nat.repeat crcBit 8 (c ^^^ b.toNat)

/-- CRC-32C of R136: reflected polynomial 0x1EDC_6F41, initial value and final exclusive-OR all ones. -/
def crc32c (bs : Bytes) : Nat := (bs.foldl crcByte 0xFFFFFFFF) ^^^ 0xFFFFFFFF

/-- The master ID of R55. -/
def masterNum : MasterId → Nat
  | .mcpu => 0 | .pcieHost => 1 | .fabric => 2 | .mgp => 3 | .dbg => 4
  | .disp => 5 | .txbIn => 6 | .rha => 7 | .upd => 8 | .key => 9

/-! ### Register fields -/

/-- The value of field `F` after reset in bank `b`: the Reset column, or the class or point tables of R238, R290
and R263. -/
def Fld.dflt (F : Fld) (b : Nat) : Nat :=
  match F.src with
  | .table =>
    let c := b % 16
    if F.pg = 0x49 then
      if F.lo = 0 then [9, 8, 8, 8, 7, 7, 7, 7, 6, 6, 6, 6, 5, 5, 5, 3].getD c 0
      else [256, 64, 512, 512, 256, 256, 256, 256, 128, 128, 128, 128, 32, 32, 64, 16].getD c 0
    else if F.pg = 0x4A then
      [10000, 20000, 5000, 5000, 20000, 20000, 20000, 20000, 10000, 10000, 10000, 10000, 5000, 5000, 2000,
        50000].getD c 0
    else if F.pg = 0x50 then
      if F.lo = 0 then [1, 1].getD c 0
      else [64, 64, 64, 64, 32, 32, 32, 32, 16, 16, 16, 16, 8, 8, 8, 1].getD c 0
    else if F.pg = 0x61 then [0, 0, 0, 0, 0, 0, 0, 0, 2400, 4600, 480, 4, 2, 16].getD b 0
    else 0
  | _ => F.rst

namespace Hub

/-- The value of field `F` in instance `i` of its page and bank `b` of its selector. -/
def rd (h : Hub) (F : Fld) (i : Nat := 0) (b : Nat := 0) : Nat := Tab.get (F.dflt b) (F.key i b) h.regs

/-- The node with field `F` at `v`, cut to the field's width. -/
def wr (h : Hub) (F : Fld) (v : Nat) (i : Nat := 0) (b : Nat := 0) : Hub :=
  { h with regs := Tab.put (F.dflt b) (F.key i b) (v % 2 ^ F.w) h.regs }

/-- Whether field `F` is other than 0. -/
def on (h : Hub) (F : Fld) (i : Nat := 0) (b : Nat := 0) : Bool := h.rd F i b != 0

/-- Bit `n` of field `F`. -/
def bit (h : Hub) (F : Fld) (n : Nat) (i : Nat := 0) (b : Nat := 0) : Bool := (h.rd F i b).testBit n

/-- Bit `n` of field `F` set or cleared. -/
def wrBit (h : Hub) (F : Fld) (n : Nat) (v : Bool) (i : Nat := 0) (b : Nat := 0) : Hub :=
  h.wr F (setBits (h.rd F i b) n 1 (bnat v)) i b

/-- `n` added to a saturating counter. -/
def cntN (h : Hub) (F : Fld) (n : Nat) (i : Nat := 0) (b : Nat := 0) : Hub :=
  h.wr F (min (2 ^ F.w - 1) (h.rd F i b + n)) i b

/-- One added to a saturating counter. -/
def cnt (h : Hub) (F : Fld) (i : Nat := 0) (b : Nat := 0) : Hub := h.cntN F 1 i b

/-- `n` subtracted from a count, not below 0. -/
def dec (h : Hub) (F : Fld) (n : Nat) (i : Nat := 0) (b : Nat := 0) : Hub := h.wr F (h.rd F i b - n) i b

/-- The node where `c` holds, changed by `f`; unchanged otherwise. -/
def when (h : Hub) (c : Bool) (f : Hub → Hub) : Hub := if c then f h else h

/-- The change `f a` for each `a` of a list, in order. -/
def each {α : Type} (h : Hub) (l : List α) (f : α → Hub → Hub) : Hub := l.foldl (fun h a => f a h) h

/-- A value that the spec leaves open, and the node with the next one to draw. -/
def free (h : Hub) : Nat × Hub := (Config.free h.freeIx, { h with freeIx := h.freeIx + 1 })

/-- Field `F` takes a value that the spec leaves open. -/
def wrFree (h : Hub) (F : Fld) (i : Nat := 0) (b : Nat := 0) : Hub :=
  { h with freeIx := h.freeIx + 1 }.wr F (Config.free h.freeIx) i b

/-- Node time in ns (R705). -/
def now (h : Hub) : Nat := h.rd TOP.NTIME_HI_NS * 2 ^ 32 + h.rd TOP.NTIME_LO_NS

/-- The AON timer (R598). -/
def aonTimer (h : Hub) : Nat := h.rd AON.TIMER_HI_COUNT * 2 ^ 32 + h.rd AON.TIMER_LO_COUNT

end Hub

/-! ### Pages -/

/-- One row of the page index (R34): the first page, how many, and what the header and the window need to know:
the block's power domain (R18, R569), its clock bit in CLK.GATE (R83) as first bit and whether each instance has
its own, and whether the page raises interrupts and escalates (R36, R40, R402). -/
structure PageRow where
  first : Nat
  count : Nat
  dom : Nat
  /-- Instances that share one domain before the next begins; 0: one domain for all. -/
  perDom : Nat := 0
  gate : Option Nat := none
  gateEach : Bool := false
  irq : Bool := true
  deriving DecidableEq, Repr

/-- The page index of R34. -/
def pageIndex : List PageRow :=
  [⟨0x000, 1, 1, 0, none, false, true⟩, ⟨0x001, 1, 0, 0, none, false, true⟩, ⟨0x002, 1, 2, 0, none, false, true⟩,
   ⟨0x003, 1, 0, 0, none, false, true⟩, ⟨0x004, 1, 0, 0, none, false, true⟩, ⟨0x005, 1, 0, 0, none, false, true⟩,
   ⟨0x006, 2, 1, 0, none, false, true⟩, ⟨0x008, 2, 1, 0, none, false, true⟩, ⟨0x00A, 1, 1, 0, none, false, true⟩,
   ⟨0x00B, 1, 1, 0, none, false, true⟩, ⟨0x00C, 1, 1, 0, none, false, true⟩, ⟨0x00D, 1, 1, 0, none, false, true⟩,
   ⟨0x00E, 1, 1, 0, none, false, true⟩, ⟨0x00F, 1, 1, 0, none, false, true⟩,
   ⟨0x010, 8, 3, 2, none, false, true⟩, ⟨0x020, 32, 3, 8, none, false, true⟩,
   ⟨0x040, 1, 2, 0, none, false, true⟩, ⟨0x041, 1, 2, 0, none, false, true⟩, ⟨0x048, 1, 2, 0, none, false, true⟩,
   ⟨0x049, 1, 2, 0, none, false, true⟩, ⟨0x04A, 1, 2, 0, none, false, true⟩, ⟨0x04B, 1, 2, 0, none, false, true⟩,
   ⟨0x050, 14, 2, 0, none, false, true⟩, ⟨0x060, 1, 2, 0, none, false, true⟩, ⟨0x061, 1, 2, 0, none, false, true⟩,
   ⟨0x068, 1, 2, 0, none, false, true⟩, ⟨0x069, 1, 2, 0, none, false, true⟩,
   ⟨0x070, 1, 7, 0, none, false, false⟩, ⟨0x071, 4, 7, 0, some 0, true, false⟩,
   ⟨0x075, 2, 7, 0, some 4, true, false⟩, ⟨0x077, 1, 7, 0, some 6, false, false⟩,
   ⟨0x078, 4, 7, 0, none, false, false⟩,
   ⟨0x080, 1, 2, 0, none, false, true⟩, ⟨0x081, 1, 9, 0, some 11, false, true⟩, ⟨0x082, 1, 9, 0, some 11, false, true⟩,
   ⟨0x088, 1, 8, 0, some 12, false, true⟩, ⟨0x089, 1, 8, 0, some 12, false, true⟩,
   ⟨0x090, 2, 10, 0, some 7, true, true⟩, ⟨0x092, 1, 10, 0, some 10, false, true⟩,
   ⟨0x093, 8, 10, 0, some 10, false, true⟩,
   ⟨0x0A0, 1, 10, 0, some 9, false, true⟩, ⟨0x0A1, 1, 10, 0, some 9, false, true⟩,
   ⟨0x0A2, 1, 10, 0, some 9, false, true⟩,
   ⟨0x0B0, 8, 11, 0, none, false, true⟩, ⟨0x0B8, 2, 11, 0, none, false, true⟩, ⟨0x0C0, 8, 11, 0, none, false, true⟩,
   ⟨0x0C8, 1, 11, 0, none, false, true⟩, ⟨0x0D0, 1, 1, 0, none, false, true⟩, ⟨0x0D1, 1, 1, 0, none, false, true⟩]

/-- The row of the page index that lists page `pg`. -/
def pageRow? (pg : Nat) : Option PageRow := pageIndex.find? fun r => r.first ≤ pg && pg < r.first + r.count

/-- Every register page of R34. -/
def allPages : List Nat := pageIndex.flatMap fun r => (List.range r.count).map (r.first + ·)

/-- The power domain of a register page (R18). -/
def pageDom (pg : Nat) : Nat :=
  match pageRow? pg with
  | some r => if r.perDom = 0 then r.dom else r.dom + (pg - r.first) / r.perDom
  | none => 0

/-- The fields of the block-specific registers, by the page index of the block's instance 0 (R34, R36). -/
def pageFields (first : Nat) : List (Fld × Nat) :=
  match first with
  | 0x00 => TOP.all | 0x01 => CLK.all | 0x02 => FIL.all | 0x03 => AON.all | 0x04 => PDM.all | 0x05 => RET.all
  | 0x06 => TEL.all | 0x08 => ACT.all | 0x0A => LKT.all | 0x0B => LCS.all | 0x0C => DBG.all | 0x0D => MGP.all
  | 0x0E => KEY.all | 0x0F => UPD.all | 0x10 => OPT.all | 0x20 => OLN.all | 0x40 => TUN.all | 0x41 => RTE.all
  | 0x48 => SWB.all | 0x49 => THR.all | 0x4A => AGE.all | 0x4B => MCR.all | 0x50 => SCH.all | 0x60 => MTR.all
  | 0x61 => CRT.all | 0x68 => CAS.all | 0x69 => TWN.all | 0x70 => DSP.all | 0x71 => DHD.all | 0x75 => DCP.all
  | 0x77 => DTL.all | 0x78 => DPT.all | 0x80 => TXB.all | 0x81 => PCI.all | 0x82 => PPH.all | 0x88 => MEM.all
  | 0x89 => MPH.all | 0x90 => ETH.all | 0x92 => LMD.all | 0x93 => LMP.all | 0xA0 => USB.all | 0xA1 => UDF.all
  | 0xA2 => RHA.all | 0xB0 => CLP.all | 0xB8 => TCP.all | 0xC0 => LPO.all | 0xC8 => BUS.all | 0xD0 => GPX.all
  | 0xD1 => TMR.all
  | _ => []

/-- Whether two-page blocks put this page second (R35): TEL1 and ACT1. -/
def secondPage (pg : Nat) : Bool := pg == 7 || pg == 9

/-- The fields at word offset `off` of page `pg`, each with its instance number. The header's fields have the page
index as their instance. -/
def fieldsAt (pg off : Nat) : List (Fld × Nat) :=
  if off < 0x100 then
    HDR.all.filterMap fun p => if p.1.off = off then some (p.1, pg) else none
  else
    match pageRow? pg with
    | none => []
    | some r =>
      (pageFields r.first).filterMap fun (F, n) =>
        let i := if secondPage pg || F.pg ≠ r.first then 0 else pg - r.first
        if F.pg + i = pg && F.off ≤ off && off < F.off + 4 * n && (off - F.off) % 4 = 0
        then some ({ F with off := off }, i) else none

/-- The field a key names, where the key lies on a register page. -/
def fieldOf (k : Nat) : Option Fld :=
  ((fieldsAt (keyPage k) (keyOff k / 4 * 4)).find? fun p => p.1.lo = keyLo k).map (·.1)

/-- Fields that only POR and HRST reset (R10): LOCK, RWL and RWO fields, and the marks that go with them. -/
def keepOnSoft (k : Nat) : Bool :=
  keyOff k == 0x38 || keyOff k == HDR.hLockSet.off || k == ACT.hLoadedSet.key 0 0 ||
  (keyOff k < 0x1000 && match fieldOf k with
    | some F => F.acc == .rwl || F.acc == .rwo
    | none => false)

/-- Kept fields (R12, R49). -/
def keptKey (k : Nat) : Bool :=
  keyOff k < 0x1000 && match fieldOf k with
    | some F => F.kept
    | none => false

/-! ### Power and clocks -/

namespace Hub

/-- Whether domain `d` is on (PDM.DOMON). -/
def domOn (h : Hub) (d : Nat) : Bool := h.bit PDM.DOMON_ON d

/-- Whether the node is in SOLITAIRE (R572). -/
def solitaire (h : Hub) : Bool := h.rd PDM.STATE_CURRENT == 2

/-- Whether a block runs on PLL_SYS alone, by CD1, CD2 or its division by 64 (R78): the management blocks, the ports, the bridge, the
tile engine and transmitters, and lume data (DESIGN CHOICE, log entry 95). -/
def onSys (pg : Nat) : Bool :=
  let d := pageDom pg
  d == 1 || (3 ≤ d && d ≤ 6) || pg == 0x80 || pg == 0x70 || (0x77 ≤ pg && pg ≤ 0x7B) || (0x92 ≤ pg && pg ≤ 0x9A)

/-- Whether the clock of page `pg` runs: its bit of CLK.GSTAT is 1 (R60), and its PLL is enabled and has not lost lock (R82, R84). A
head's page is reachable while its PLL is off (R391). -/
def clockRuns (h : Hub) (pg : Nat) : Bool :=
  (match pageRow? pg with
   | some r => match r.gate with
     | some g => h.bit CLK.GSTAT_RUN (if r.gateEach then g + (pg - r.first) else g)
     | none => true
   | none => true) &&
  !(onSys pg && h.bit CLK.hUnlocked 0) &&
  !(let u := h.rd CLK.hUnlocked ||| clrMask 0x1FF (h.rd CLK.PLLEN_EN)
    if 0x71 ≤ pg ∧ pg ≤ 0x74 then u.testBit (9 + (pg - 0x71))
    else if 0x20 ≤ pg ∧ pg ≤ 0x3F then u.testBit (5 + (pg - 0x20) / 8)
    else if pg = 0x81 ∨ pg = 0x82 then u.testBit 2
    else if pg = 0x88 ∨ pg = 0x89 then u.testBit 1
    else if pg = 0x90 ∨ pg = 0x91 then u.testBit 3
    else if 0xA0 ≤ pg ∧ pg ≤ 0xA2 then u.testBit 4
    else false)

/-- Whether the block of page `pg` accepts work: its domain is on and not being turned off (R574), it is READY (R717)
and its clock runs. -/
def up (h : Hub) (pg : Nat) : Bool :=
  h.domOn (pageDom pg) && h.rd PDM.hDom 0 (pageDom pg) != 3 && h.on HDR.PSTAT_READY pg && h.clockRuns pg

/-- Whether the block of page `pg` accepts work and is enabled. -/
def live (h : Hub) (pg : Nat) : Bool := h.up pg && h.on HDR.PCTL_EN pg

end Hub

/-! ### Errors and interrupts -/

/-- What an error captures (R36, R37). A part that the spec does not state for an error is `none`, and loads a free value. -/
structure Cap where
  lo : Option Nat := none
  hi : Option Nat := none
  master : Option Nat := none
  atype : Option Nat := none
  code : Option Nat := none
  deriving DecidableEq, Repr

/-- Whether ISTAT and IEN of a page read 0 and ignore writes (R35, R40). -/
def noIrq (pg : Nat) : Bool := secondPage pg || (0x70 ≤ pg && pg ≤ 0x7B)

namespace Hub

/-- Interrupt bit `n` of page `pg` set. -/
def irq (h : Hub) (pg n : Nat) : Hub := if noIrq pg then h else h.wrBit HDR.ISTAT n true pg

/-- Field `F` of page `pg` takes a value, or one that the spec leaves open. -/
def wrOpen (h : Hub) (F : Fld) (o : Option Nat) (pg : Nat) : Hub :=
  match o with
  | some v => h.wr F v pg
  | none => h.wrFree F pg

/-- The capture loaded where none is held (R38). -/
def capture (h : Hub) (pg : Nat) (c : Cap) : Hub :=
  if h.on HDR.ECAP_VALID pg then h
  else
    h.wrOpen HDR.ECAP_ADDR_LO c.lo pg |>.wrOpen HDR.ECAP_ADDR_HI c.hi pg |>.wrOpen HDR.ECAP_MASTER c.master pg
      |>.wrOpen HDR.ECAP_ATYPE c.atype pg |>.wrOpen HDR.ECAP_CODE c.code pg |>.wr HDR.ECAP_VALID 1 pg
      |>.wr HDR.ECAP_TIME_LO (h.now % 2 ^ 32) pg |>.wr HDR.ECAP_TIME_HI (h.now / 2 ^ 32) pg

/-- The escalation timer started where it is stopped (R652); ESC.TIME 0 disables it, and display pages have none. -/
def startEsc (h : Hub) (pg : Nat) : Hub :=
  if noIrq pg || h.rd HDR.ESC_TIME pg == 0 then h
  else h.wr HDR.hEscRun 1 pg |>.wr HDR.hEscAgain (bnat (h.on HDR.hEscStage pg)) pg

/-- Error bit `n` of page `pg` occurs (R38): the bit is set, and an enabled error that takes it from 0 to 1 loads
the capture, sets ISTAT.ERR and starts the escalation timer. -/
def raiseBit (h : Hub) (pg n : Nat) (c : Cap) : Hub :=
  let h' := h.wrBit HDR.ESTAT n true pg
  if h.bit HDR.EEN n pg then ((h'.capture pg c).irq pg 31).startEsc pg else h'

/-- A record queued for the locket writer; one that finds 8 waiting is lost (R661). -/
def locketPut (h : Hub) (r : LkRec) : Hub :=
  if h.lkQueue.length < 8 then
    { h with lkQueue := h.lkQueue ++ [{ r with
        time := if h.on TOP.NTCTL_RUN then h.now else h.aonTimer, timeAon := !h.on TOP.NTCTL_RUN,
        lc := h.rd LCS.STATE_LC }] }
  else
    let h1 := h.cnt LKT.CNT_LOST_COUNT
    if h.bit HDR.ESTAT 0 0x0A then h1 else h1.raiseBit 0x0A 0 {}

/-- ECAP_INFO of page `pg` (R36, R37). -/
def ecapInfo (h : Hub) (pg : Nat) : Nat :=
  ([HDR.ECAP_MASTER, HDR.ECAP_ATYPE, HDR.ECAP_CODE, HDR.ECAP_VALID].map fun F => h.rd F pg * 2 ^ F.lo).sum

/-- A record that carries the ESTAT and ECAP of page `pg` (R653, R402). -/
def pageRec (h : Hub) (typ pg stage : Nat) : LkRec :=
  { typ := typ, page := pg, stage := stage, estat := h.rd HDR.ESTAT pg, info := h.ecapInfo pg,
    addr := h.rd HDR.ECAP_ADDR_HI pg * 2 ^ 32 + h.rd HDR.ECAP_ADDR_LO pg,
    etime := h.rd HDR.ECAP_TIME_HI pg * 2 ^ 32 + h.rd HDR.ECAP_TIME_LO pg }

/-- DSP.SUMMARY follows the ESTAT of the display pages (R403). -/
def refreshSummary (h : Hub) : Hub :=
  let m (first n : Nat) : Nat := ((List.range n).map fun k => bnat (h.on HDR.ESTAT (first + k)) * 2 ^ k).sum
  h.wr DSP.SUMMARY_DHD (m 0x71 4) |>.wr DSP.SUMMARY_DPT (m 0x78 4) |>.wr DSP.SUMMARY_DCP (m 0x75 2)
    |>.wr DSP.SUMMARY_DTL (m 0x77 1) |>.wr DSP.SUMMARY_DSP (m 0x70 1)

/-- Error bit `n` of page `pg` occurs. A bit that is set already changes nothing, and the second page of a block has no
errors (R35). On a display page, DSP.SUMMARY follows and the engine writes a locket record (R402, R403). -/
def raise (h : Hub) (pg n : Nat) (c : Cap := {}) : Hub :=
  if secondPage pg || h.bit HDR.ESTAT n pg then h
  else
    let h1 := h.raiseBit pg n c
    if 0x70 ≤ pg && pg ≤ 0x7B then
      let h2 := h1.refreshSummary
      if h.on DSP.CTL_LOCKET then h2.locketPut (h2.pageRec 1 pg 0) else h2
    else h1

/-- The writing of `v` to ESTAT (R7, R39, R652): bits clear, the capture is released when every bit is 0, and the
escalation timer stops when no enabled bit is left. -/
def clearEstat (h : Hub) (pg v : Nat) : Hub :=
  let es := clrMask (h.rd HDR.ESTAT pg) v
  let h1 := h.wr HDR.ESTAT es pg
  let h2 := if es = 0 then h1.wr HDR.ECAP_VALID 0 pg else h1
  let h3 := if 0x70 ≤ pg && pg ≤ 0x7B then h2.refreshSummary else h2
  if es &&& h.rd HDR.EEN pg = 0 then h3.wr HDR.hEscRun 0 pg else h3

/-! ### Shadows and commits -/

/-- The value of an RWS field that a read returns: the value last written (R7). -/
def rdShadow (h : Hub) (F : Fld) (i : Nat := 0) (b : Nat := 0) : Nat :=
  if Tab.has (F.key i b) h.shadow then Tab.get 0 (F.key i b) h.shadow else h.rd F i b

/-- Every shadow of page `pg` takes effect, and CPEND clears (R43). -/
def commitPage (h : Hub) (pg : Nat) : Hub :=
  let mine := h.shadow.filter fun p => keyPage p.1 == pg
  let h1 : Hub := mine.foldl (fun (h : Hub) (p : Nat × Nat) =>
    match fieldOf p.1 with
    | some F =>
      let b := keyBank p.1
      { h with regs := Tab.put (F.dflt b) p.1 p.2 h.regs }
    | none => h) h
  { h1 with shadow := h.shadow.filter fun p => keyPage p.1 != pg }.wr HDR.PSTAT_CPEND 0 pg

/-- The pending values of page `pg` are discarded (R13, R46). -/
def dropShadow (h : Hub) (pg : Nat) : Hub :=
  { h with shadow := h.shadow.filter fun p => keyPage p.1 != pg }.wr HDR.PSTAT_CPEND 0 pg

end Hub

/-! ### Selectors -/

/-- One range of selector-indexed offsets of a page: the bank is the sum of selector × weight (R210, R256, R258,
R287, R309, R311, R339, R383, R447, R450, R452, R469, R470, R498, R500, R638, R672, R712, R714). `limit` is the
first selection that is invalid, and `wraps` says that an invalid selection reads as selection 0 (R469). On the USB
page a selection of 0 reads as 1 (R498). -/
structure BankRow where
  page : Nat
  lo : Nat
  hi : Nat
  sel : List (Fld × Nat)
  limit : Nat := 2 ^ 32
  wraps : Bool := false
  deriving DecidableEq, Repr

/-- The selector-indexed offsets of every page. -/
def bankRows : List BankRow :=
  [⟨0x69, 0x108, 0x11C, [(TWN.CSEL_CTX, 1)], 2 ^ 32, false⟩, ⟨0x48, 0x118, 0x118, [(SWB.BSEL_BANK, 1)], 2 ^ 32, false⟩,
   ⟨0x49, 0x104, 0x110, [(THR.QSEL_POINT, 16), (THR.QSEL_CLASS, 1)], 224, false⟩,
   ⟨0x4A, 0x104, 0x108, [(AGE.CSEL_CLASS, 1)], 2 ^ 32, false⟩, ⟨0x61, 0x114, 0x124, [(CRT.PSEL_POINT, 1)], 14, false⟩,
   ⟨0x61, 0x144, 0x14C, [(CRT.RSEL_ENTRY, 1)], 2 ^ 32, false⟩, ⟨0x60, 0x104, 0x12C, [(MTR.MSEL_METER, 1)], 8191, false⟩,
   ⟨0x68, 0x134, 0x138, [(CAS.PSEL_PORT, 1)], 2 ^ 32, false⟩, ⟨0x77, 0x114, 0x144, [(DTL.SSEL_STREAM, 1)], 2 ^ 32, false⟩,
   ⟨0x77, 0x184, 0x1B4, [(DTL.RSEL_STREAM, 1)], 2 ^ 32, false⟩, ⟨0x80, 0x108, 0x124, [(TXB.OWSEL_WIN, 1)], 2 ^ 32, false⟩,
   ⟨0x80, 0x144, 0x14C, [(TXB.TWSEL_WIN, 1)], 2 ^ 32, false⟩, ⟨0x82, 0x10C, 0x110, [(PPH.LSEL_LANE, 1)], 2 ^ 32, false⟩,
   ⟨0x89, 0x10C, 0x10C, [(MPH.BSEL_BYTE, 1)], 2 ^ 32, false⟩,
   ⟨0x92, 0x104, 0x12C, [(LMD.PSEL_PORT, 1)], 2 ^ 32, false⟩,
   ⟨0x92, 0x140, 0x140, [(LMD.PSEL_PORT, 4), (LMD.SCSEL_FRAME, 1)], 2 ^ 32, false⟩,
   ⟨0x92, 0x400, 0x4FC, [(LMD.PSEL_PORT, 4), (LMD.SCSEL_FRAME, 1)], 2 ^ 32, false⟩,
   ⟨0xA0, 0x10C, 0x10C, [(USB.PSEL_PORT, 1)], 2 ^ 32, false⟩, ⟨0xA2, 0x114, 0x124, [(RHA.RSEL_RING, 1)], 2 ^ 32, false⟩,
   ⟨0x0E, 0x104, 0x104, [(KEY.SSEL_SLOT, 1)], 2 ^ 32, false⟩, ⟨0x0E, 0x1C4, 0x1F0, [(KEY.MSEL_REG, 1)], 2 ^ 32, false⟩,
   ⟨0x06, 0x114, 0x118, [(TEL.SRCSEL_SRC, 1)], 2 ^ 32, false⟩, ⟨0xD0, 0x104, 0x104, [(GPX.BSEL_BALL, 1)], 24, false⟩,
   ⟨0xD1, 0x104, 0x114, [(TMR.TSEL_TIMER, 1)], 2 ^ 32, false⟩] ++
  ((List.range 14).map fun e => ⟨0x50 + e, 0x10C, 0x12C, [(SCH.QSEL_CLASS, 1)], 2 ^ 32, false⟩) ++
  [⟨0x90, 0x114, 0x118, [(ETH.VSEL_V, 1)], 4095, true⟩, ⟨0x91, 0x114, 0x118, [(ETH.VSEL_V, 1)], 4095, true⟩]

namespace Hub

/-- The bank that offset `off` of page `pg` reaches at present, or `none` where the selection is invalid. -/
def bankOf (h : Hub) (pg off : Nat) : Option Nat :=
  match bankRows.find? fun r => r.page = pg && r.lo ≤ off && off ≤ r.hi with
  | none => some 0
  | some r =>
    let i := match pageRow? pg with
      | some p => pg - p.first
      | none => 0
    let b := (r.sel.map fun (F, w) => h.rd F i * w).sum
    if b = 0 ∧ pg = 0xA0 then some 1 else if b < r.limit then some b else if r.wraps then some 0 else none

/-! ### Reading and writing one word of a page -/

/-- PID, PCAP and PSTAT of page `pg` (R35, R36, R40). -/
def headerWord (h : Hub) (pg off : Nat) : Nat :=
  let row := (pageRow? pg).getD { first := pg, count := 1, dom := 0 }
  let fs := pageFields (if secondPage pg then pg else row.first)
  if off = 0 then row.first * 2 ^ 16 + (pg - row.first) * 2 ^ 8 + Config.pageVersion row.first % 256
  else if off = 4 then
    let raises := bnat (row.irq && !secondPage pg)
    bnat (fs.any fun p => p.1.acc == .rws) + 2 * bnat (fs.any fun p => p.1.kept) + 4 * raises + 8 * raises +
      Config.pageCaps row.first % 2 ^ 28 * 16
  else if secondPage pg && (off = 0x10 || off = 0x14 || (0x18 ≤ off && off ≤ 0x34)) then 0
  else if noIrq pg && (off = 0x30 || off = 0x34) then 0
  else
    (HDR.all.map fun (F, _) =>
      if F.off = off && F.acc ≠ .w1s then
        (if off = 0x0C && F.lo = 1 then bnat (h.domOn (pageDom pg)) else h.rd F pg) * 2 ^ F.lo
      else 0).sum

/-- The word at offset `off` of page `pg` (R6, R7): every field in its place, reserved bits 0, RWS fields as last
written, W1S and WO fields 0. -/
def readReg (h : Hub) (pg off : Nat) : Nat :=
  if off < 0x100 then h.headerWord pg off
  else
    match h.bankOf pg off with
    | none => 0
    | some b =>
      ((fieldsAt pg off).map fun (F, i) =>
        match F.acc with
        | .w1s => 0
        | .wo => 0
        | .rws => h.rdShadow F i b * 2 ^ F.lo
        | _ => h.rd F i b * 2 ^ F.lo).sum

/-- The writing of `v` to field `F` under its access code (R7, R43, R45, R47); `c` is what an error of the write captures. -/
def writeFld (h : Hub) (F : Fld) (v : Nat) (i b : Nat) (c : Cap := {}) : Hub :=
  let pg := F.pg + i
  match F.acc with
  | .rw => h.wr F v i b
  | .wo => h.wr F v i b
  | .w1c => h.wr F (clrMask (h.rd F i b) v) i b
  | .rwl => if h.on HDR.LOCK_LCFG pg then h else h.wr F v i b
  | .rws =>
    if h.on HDR.PSTAT_CPEND pg then h.raise pg 31 c
    else { h with shadow := Tab.ins (F.key i b) (v % 2 ^ F.w) h.shadow }
  | _ => h

/-- The writing of `v` to LOCK of page `pg`: the first write after POR or HRST fixes every bit (R47). -/
def writeLock (h : Hub) (pg v : Nat) : Hub :=
  if h.on HDR.hLockSet pg then h
  else
    h.wr HDR.hLockSet 1 pg |>.wr HDR.LOCK_LCFG (bits v 0 1) pg |>.wr HDR.LOCK_LHDR (bits v 1 1) pg
      |>.wr HDR.LOCK_LBLK (bits v 2 14) pg

/-- The writing of `v` to the word at offset `off` of page `pg`, field by field under their access codes. Actions
of W1S fields have commands of their own and do not start here. -/
def writeReg (h : Hub) (pg off v : Nat) (c : Cap := {}) : Hub :=
  if off < 0x100 then
    if secondPage pg && 0x10 ≤ off && off ≤ 0x34 then h
    else if noIrq pg && (off = 0x30 || off = 0x34) then h
    else if off = 0x38 then h.writeLock pg v
    else if off = 0x10 then h.clearEstat pg v
    else if (off = 0x14 || off = 0x2C || off = 0x34) && h.on HDR.LOCK_LHDR pg then h
    else (fieldsAt pg off).foldl (fun h p => h.writeFld { p.1 with pg := 0 } (bits v p.1.lo p.1.w) pg 0 c) h
  else if pg = 8 && off = 0x100 then
    if h.on ACT.hLoadedSet then h else h.wr ACT.CFG_LOADED (bits v 0 1) |>.wr ACT.hLoadedSet 1
  else
    match h.bankOf pg off with
    | none => h
    | some b => (fieldsAt pg off).foldl (fun h p => h.writeFld p.1 (bits v p.1.lo p.1.w) p.2 b c) h

/-! ### Table windows -/

end Hub

/-- One row of the table-window map (R50): base offset, stride in bytes, entries, domain, read-only. -/
structure TableRow where
  base : Nat
  stride : Nat
  entries : Nat
  dom : Nat
  readOnly : Bool
  deriving DecidableEq, Repr

/-- The table windows of R50. -/
def tableRows : List TableRow :=
  [⟨0x400000, 32, 8192, 2, false⟩, ⟨0x440000, 8, 16384, 2, false⟩, ⟨0x460000, 64, 256, 7, false⟩,
   ⟨0x480000, 4, 262144, 7, true⟩, ⟨0x580000, 32, 8192, 10, false⟩, ⟨0x5C0000, 32, 512, 1, true⟩]

/-- The number and the row of the table whose window holds offset `a`. -/
def tableAt (a : Nat) : Option (Nat × TableRow) :=
  ((List.range 6).zip tableRows).find? fun p => p.2.base ≤ a && a < p.2.base + p.2.stride * p.2.entries

/-- The bits that the spec lists in word `w` of an entry of table `t` (R180, R184, R347, R481); the others are reserved, and read
as 0 (R6). -/
def tableMask (t w : Nat) : Nat :=
  match t with
  | 0 => [0x7FFFFFFF, 0x3F3FFF, 0x3FF3FFF, 0xFFFFF, 0xBFFF3FFF, 0xFFFF1FFF, 0xFFFFFFFF, 0xFFFFFF].getD w 0
  | 1 => [0xF1F, 0xFFFF].getD w 0
  | 2 => [0x3FFFF, 0x1FFF1FFF, 0x3FFFF, 0x3F07, 0xFF, 0xFFFFFFFF, 0x7FFF3FFF, 0xFFFFFFFF, 0, 0, 0, 0, 0, 0, 0, 0xFF].getD w 0
  | 4 => [0xFFFF000F, 0x0FFF1FFF, 0xFFFF, 0, 0xFFFFFFFF, 0xFFFFFFFF, 0x11FFFFF, 0xFFFFFFFF].getD w 0
  | _ => 0xFFFFFFFF

/-- The words written to entry `e` of table `t`, with the reserved bits at 0. Entries 4,096 to 8,191 of the descriptor window are the
data pool, whose words have no reserved bits (R479). -/
def maskWords (t e : Nat) (ws : List Nat) : List Nat :=
  ws.zipIdx.map fun p => p.1 &&& tableMask (if t = 4 ∧ 4096 ≤ e then 5 else t) p.2

namespace Hub

/-- The 32-bit word of a table at window offset `a`. -/
def tword (h : Hub) (a : Nat) : Nat := Tab.get 0 (a / 4) h.tab

/-- The word of a table at window offset `a` set to `v`. -/
def setTword (h : Hub) (a v : Nat) : Hub := { h with tab := Tab.put 0 (a / 4) (v % 2 ^ 32) h.tab }

/-- The words of a run from window offset `a`. -/
def twords (h : Hub) (a n : Nat) : List Nat := Tab.getRun 0 (a / 4) n h.tab

/-- The words of a run from window offset `a` set, all at once (R53). -/
def setTwords (h : Hub) (a : Nat) (ws : List Nat) : Hub :=
  { h with tab := Tab.putRun 0 (a / 4) (ws.map (· % 2 ^ 32)) h.tab }

/-- A field of a table word. -/
def tfld (h : Hub) (a lo w : Nat) : Nat := bits (h.tword a) lo w

/-- A field of a table word set. -/
def setTfld (h : Hub) (a lo w v : Nat) : Hub := h.setTword a (setBits (h.tword a) lo w v)

end Hub

/-! ### The access check -/

/-- Why the register window or the access table refuses an access (R716). `viol` carries the code of R646 and the
entry matched. -/
inductive AccErr
  | sizeAlign
  | unpopulated
  | tableRo
  | viol (code : Nat) (entry : Option Nat)
  | domainOff
  deriving DecidableEq, Repr

namespace Hub

/-- Word `w` of access table entry `e` (R642). -/
def actWord (h : Hub) (e w : Nat) : Nat := h.tword (0x5C0000 + 32 * e + 4 * w)

/-- Whether entry `e` is enabled (word 7 bit 0). -/
def actEn (h : Hub) (e : Nat) : Bool := (h.actWord e 7).testBit 0

/-- Whether entry `e` is locked (word 7 bit 1). -/
def actLocked (h : Hub) (e : Nat) : Bool := (h.actWord e 7).testBit 1

/-- ACT.STAT counted from the access table, which outlives MGMT (R642, R667). -/
def refreshActs (h : Hub) : Hub :=
  h.wr ACT.STAT_ENABLED ((List.range 512).countP h.actEn) |>.wr ACT.STAT_LOCKED ((List.range 512).countP h.actLocked)

/-- Whether entry `e` holds page `page` of `space` (R644). -/
def actHolds (h : Hub) (e space page : Nat) : Bool :=
  h.actEn e && bits (h.actWord e 3) 16 2 == space && bits (h.actWord e 0) 0 28 ≤ page &&
    page ≤ bits (h.actWord e 1) 0 28

/-- Whether entry `e` fits the master and, for FABRIC and TXB_IN, the source node. -/
def actFits (h : Hub) (e : Nat) (m : MasterId) (node : Nat) : Bool :=
  (bits (h.actWord e 2) 0 10).testBit (masterNum m) &&
    (!(m == .fabric || m == .txbIn) || bits (h.actWord e 3) 0 14 == node || (h.actWord e 3).testBit 15)

/-- The first entry matched: locked enabled entries in ascending index, then unlocked ones (R644). -/
def actMatch (h : Hub) (p : Nat → Bool) : Option Nat :=
  match (List.range 512).find? fun e => h.actLocked e && p e with
  | some e => some e
  | none => (List.range 512).find? fun e => !h.actLocked e && p e

/-- What an access does and carries. -/
structure Attr where
  write : Bool
  ro : Bool := false
  ns : Bool := false
  deriving DecidableEq, Repr

/-- Whether entry `e` permits the access: `none`, or the code NO_PERM or ATTR (R644, R645). -/
def actPermits (h : Hub) (e space : Nat) (a : Attr) : Option Nat :=
  if !(h.actWord e 2).testBit (if a.write then 17 else 16) then some 2
  else if space ≠ 0 && ((a.ro && !(h.actWord e 4).testBit 0) || (a.ns && !(h.actWord e 4).testBit 1)) then some 3
  else none

/-- The access table on one access (R644 steps 2 to 5, R649): `none` where it is allowed. -/
def actCheck (h : Hub) (m : MasterId) (node space page : Nat) (a : Attr) : Option AccErr :=
  if m = .dbg then
    let lc := h.rd LCS.STATE_LC
    let hit := h.actMatch fun e => h.actHolds e space page
    let perm (e : Nat) : Bool := (h.actWord e 2).testBit (if a.write then 17 else 16)
    let ok :=
      if lc = 1 ∨ lc = 2 ∨ lc = 3 ∨ lc = 5 then
        match hit with
        | some e => if h.actLocked e then (bits (h.actWord e 2) 0 10).testBit 4 && perm e else perm e
        | none => lc == 1 || lc == 2
      else if lc = 4 ∧ h.rd DBG.STAT_STATE = 2 then
        match hit with
        | some e => h.actLocked e && (h.actWord e 7).testBit 2 && perm e
        | none => false
      else false
    if ok then none else some (.viol 5 hit)
  else
    match h.actMatch fun e => h.actHolds e space page && h.actFits e m node with
    | some e => (h.actPermits e space a).map fun c => .viol c (some e)
    | none =>
      if m = .mcpu ∨ m = .disp ∨ m = .rha ∨ m = .upd ∨ m = .key then none
      else if m = .mgp ∧ h.rd ACT.CFG_LOADED = 0 then none
      else some (.viol 1 none)

/-- Whether the fixed limits of R57, and of R657 while a life-cycle change runs, refuse the access. -/
def fixedRefuses (h : Hub) (r : Req) (write : Bool) (pg : Nat) : Bool :=
  (write && (pg == 8 || pg == 9) && r.master != .mcpu) ||
  (write && pg == 0xB && r.master != .mcpu && r.master != .mgp) ||
  (pg == 0xC && r.master != .mcpu && r.master != .dbg) ||
  (r.master == .fabric &&
    !((h.on CAS.CROWN_VALID && h.rd CAS.CROWN_NODE == r.node) ||
      (h.on CAS.CROWN_S_VALID && h.rd CAS.CROWN_STANDBY == r.node) ||
      (List.range 512).any fun e => h.actEn e && (bits (h.actWord e 2) 0 10).testBit 2 &&
        bits (h.actWord e 3) 0 14 == r.node && !(h.actWord e 3).testBit 15)) ||
  (h.rd LCS.STAT_DONE == 1 && (r.master == .pcieHost || r.master == .fabric || r.master == .dbg))

/-- Whether the master has a path to the register window at present (R54, R56). -/
def reaches (h : Hub) (m : MasterId) : Bool :=
  match m with
  | .mcpu => true
  | .pcieHost => h.rd TOP.NODECFG_ROLE == 0 && h.rd PCI.MODE_MODE == 1
  | .fabric => h.domOn 2 && (List.range 8).any fun p => h.rd OPT.STAT_STATE p == 3 || h.rd OPT.STAT_STATE p == 4
  | .mgp => h.on MGP.SESS_OPEN
  | .dbg => h.on DBG.STAT_ATTACHED
  | _ => false

/-- The checks of R716, in order, on an access of `size` bytes at window offset `addr`. Of a table window, step 5 asks for the
domain alone: R60 speaks of pages only (DESIGN CHOICE, log entry 92). -/
def check (h : Hub) (r : Req) (write : Bool) (addr size : Nat) : Option AccErr :=
  let pg := addr / 4096
  if !((size == 4 && addr % 4 == 0) ||
      (size == 8 && addr % 8 == 0 && (r.master == .mcpu || r.master == .pcieHost))) then some .sizeAlign
  else if (pageRow? pg).isNone && (tableAt addr).isNone then some .unpopulated
  else if write && (match tableAt addr with | some (_, t) => t.readOnly | none => false) then some .tableRo
  else if h.fixedRefuses r write pg then some (.viol 4 none)
  else
    match h.actCheck r.master r.node 0 pg { write := write } with
    | some e => some e
    | none =>
      match tableAt addr with
      | some (_, t) => if h.domOn t.dom then none else some .domainOff
      | none =>
        if !h.domOn (pageDom pg) || (addr % 4096 ≥ 0x100 && !h.clockRuns pg) then some .domainOff else none

/-- The answer to master `m` set (R61). -/
def answer (h : Hub) (m : MasterId) (a : Resp) : Hub := { h with resp := Tab.put Resp.none (masterNum m) a h.resp }

/-- The form that a refusal takes on each path (R61, R646, R715, R716). -/
def refusal (m : MasterId) (write : Bool) (e : AccErr) (n : Nat) : Resp :=
  let ones := if write then [] else List.replicate n 0xFFFFFFFF
  let status := match e with
    | .domainOff => 1 | .viol _ _ => 2 | .unpopulated => 3 | .sizeAlign => 4 | .tableRo => 6
  match m with
  | .mcpu => .busError ones
  | .pcieHost => if write then .dropped else .unsupported
  | .fabric => .fabric status ones
  | .mgp => .tsudy (if status = 6 then 13 else status) ones
  | .dbg =>
    .debug (match e with
      | .unpopulated => 1 | .sizeAlign => 2 | .domainOff => 3 | .tableRo => 4 | .viol c _ => c) ones
  | _ => .none

/-- What an error of a window access captures (R37): the window offset, and in the high word the source node of FABRIC. -/
def accCap (r : Req) (write : Bool) (addr : Nat) (code : Option Nat := none) : Cap :=
  { lo := some addr, hi := some (if r.master = .fabric then r.node % 2 ^ 14 else 0), master := some (masterNum r.master),
    atype := some ((if (tableAt addr).isSome then 2 else 0) + bnat write), code := code }

/-- What an error of a write of `r` to the register of field `F`, instance `i`, captures (R37). -/
def regCap (r : Req) (F : Fld) (i : Nat) : Cap := accCap r true ((F.pg + i) * 4096 + F.off)

/-- A refusal of the access table, to master `m` with code `code`, recorded in ACT (R646). -/
def violation (h : Hub) (c : Cap) (m code node : Nat) (entry : Option Nat) : Hub :=
  let first := !h.bit HDR.ESTAT 0 8 && h.bit HDR.EEN 0 8 && !h.on HDR.ECAP_VALID 8
  let h := (h.raise 8 0 c).irq 8 0
  let h := h.cnt ACT.CNT_VIOL_COUNT |>.wr ACT.LASTVIOL_MASTER m |>.wr ACT.LASTVIOL_CODE code
    |>.wr ACT.LASTVIOL_ENTRY (entry.getD 0)
  if first then
    h.wr ACT.VIOL_ENTRY (entry.getD 0) |>.wr ACT.VIOL_NONE (bnat entry.isNone) |>.wr ACT.VIOL_NODE node
  else h

/-- The access table on an access of `n` bytes at `addr` in SPACE MEM or PCIE (R644, R645): the code and the entry of the
first page refused. -/
def actPages (h : Hub) (m : MasterId) (node space addr n : Nat) (a : Attr) : Option (Nat × Option Nat) :=
  (List.range ((addr + n - 1) / 4096 - addr / 4096 + 1)).findSome? fun k =>
    match h.actCheck m node space (addr / 4096 + k) a with
    | some (.viol c e) => some (c, e)
    | _ => none

/-- Such a refusal recorded in ACT (R37, R646): ATYPE 4 memory read, 5 memory write. -/
def memViolation (h : Hub) (m : MasterId) (node addr : Nat) (write : Bool) (code : Nat) (e : Option Nat) : Hub :=
  h.violation { lo := some (addr % 2 ^ 32), hi := some (addr / 2 ^ 32), master := some (masterNum m),
                atype := some (4 + bnat write), code := some code } (masterNum m) code node e

/-- A refused access recorded where R42 or R646 says, without the answer. -/
def recordRefusal (h : Hub) (r : Req) (write : Bool) (addr : Nat) (e : AccErr) : Hub :=
  match e with
  | .unpopulated => h.raise 0 0 (accCap r write addr (some 1))
  | .sizeAlign => h.raise 0 1 (accCap r write addr (some 2))
  | .domainOff => h.raise 0 2 (accCap r write addr (some 3))
  | .tableRo => h.raise 0 3 (accCap r write addr (some 4))
  | .viol c en => h.violation (accCap r write addr (some c)) (masterNum r.master) c (if r.master = .fabric then r.node else 0) en

/-- The 64-bit latch of a master cleared: every access clears it, and a read of a low word loads it again (R32). -/
def dropLatch (h : Hub) (m : MasterId) : Hub := { h with latch64 := Tab.wipe (masterNum m) (masterNum m + 1) h.latch64 }

/-- A write of `r` to window offset `addr`: refused under R716, or `f` carried out and answered. A master with no
path to the window makes no access. -/
def asWrite (h : Hub) (r : Req) (addr size : Nat) (f : Hub → Hub) : Hub :=
  if !h.reaches r.master then h
  else
    match h.check r true addr size with
    | some e => ((h.dropLatch r.master).recordRefusal r true addr e).answer r.master (refusal r.master true e 0)
    | none => (f (h.dropLatch r.master)).answer r.master (if r.master = .pcieHost then .none else .ok [])

/-- A write of `r` to the register of field `F`, instance `i`. -/
def asReg (h : Hub) (r : Req) (F : Fld) (i : Nat) (f : Hub → Hub) : Hub :=
  h.asWrite r ((F.pg + i) * 4096 + F.off) 4 f

/-- A write of `r` to the register of field `F`, instance `i`, that sets the block to work: `f` is carried out where the block
accepts work (R717). -/
def asGo (h : Hub) (r : Req) (F : Fld) (i : Nat) (f : Hub → Hub) : Hub :=
  h.asReg r F i fun h => h.when (h.up (F.pg + i)) f

/-- A read of `r` of `size` bytes at window offset `addr`: refused under R716, or `f` gives the words and the node
after the read. -/
def asRead (h : Hub) (r : Req) (addr size : Nat) (f : Hub → List Nat × Hub) : Hub :=
  if !h.reaches r.master then h
  else
    match h.check r false addr size with
    | some e =>
      (((h.dropLatch r.master).recordRefusal r false addr e).when (r.master == .pcieHost) fun h => h.cnt PCI.CNT_UR_COUNT).answer r.master
        (refusal r.master false e (size / 4))
    | none => let (ws, h') := f (h.dropLatch r.master); h'.answer r.master (.ok ws)

end Hub

/-! ### Outcomes -/

/-- The outcome of a command: the node changed by `f`, and the queue as it stands. -/
def State.act (s : State) (f : Hub → Hub) : Host.Outcome State Fault Refusal := .next { s with hub := f s.hub }

end Sys2Proof.Machine
end

