-- ==== Sys2Proof/Machine/Blocks.lean ====
section
/-! DEFINITION. What a lane's transmitter puts on the wire: 66-bit blocks (R90), the scrambler (R91), lane control
blocks (R93), and a link frame and its slots laid on 73 blocks (R92, R132, R135). -/

namespace Sys2Proof.Machine

/-- A lane control block: the type, the content of bits [31:8], and their complement above (R93). -/
def ctlBlock (typ v : Nat) : Nat :=
  let lo := (typ % 2 ^ 8 + v * 2 ^ 8) % 2 ^ 32
  lo + (2 ^ 32 - 1 - lo) * 2 ^ 32

/-- Whether a block passes its complement check. -/
def blockOk (v : Nat) : Bool := v / 2 ^ 32 % 2 ^ 32 == 2 ^ 32 - 1 - v % 2 ^ 32

/-- `n` bits of `x`, 39 at most, through the scrambler x⁵⁸ + x³⁹ + 1 (R91): each bit sent is the bit given, exclusive-or the
bits sent 39 and 58 before it. `st` holds the last 58 bits sent, the oldest in bit 0. -/
def scrPart (n x st : Nat) : Nat × Nat :=
  let y := Nat.xor (Nat.xor x st) (st / 2 ^ 19) % 2 ^ n
  (y, (st + y * 2 ^ 58) / 2 ^ n)

/-- A payload through the scrambler, bit 0 first (R90, R91): the payload sent, and the scrambler after it. -/
def scramble (st x : Nat) : Nat × Nat :=
  let (a, s1) := scrPart 39 x st
  let (b, s2) := scrPart 25 (x / 2 ^ 39) s1
  (a + b * 2 ^ 39, s2)

/-- Blocks through the scrambler one after another: their sync headers as given, and the scrambler after them. -/
def scrambleAll (st : Nat) : List (Nat × Nat) → List Wire × Nat
  | [] => ([], st)
  | b :: bs =>
    let a := scramble st b.2
    let r := scrambleAll a.2 bs
    (.blk b.1 a.1 :: r.1, r.2)

/-- The sync header of a data block, and that of a control block (R90). -/
def dataHdr : Nat := 1
def ctlHdr : Nat := 2

/-- The payloads of the nine data blocks of a slot: byte j at bits [8 (j mod 8) + 7 : 8 (j mod 8)] of block ⌊j / 8⌋ (R132). -/
def slotWords (s : Bytes) : List Nat := (List.range 9).map fun i => leAt (padTo 72 s) (8 * i) 8

/-- Trailer bits [63:32] (R135). -/
def trailerHigh (f : LinkFrame) : Nat :=
  f.seq % 2 ^ 10 + bnat f.sf * 2 ^ 10 + bnat f.ca * 2 ^ 11 + f.ncell % 16 * 2 ^ 12 + bnat f.lmc * 2 ^ 16 +
    f.value % 2 ^ 12 * 2 ^ 17 + f.typ % 8 * 2 ^ 29

/-- The blocks of a link frame before the scrambler: 72 data blocks, slot k on blocks 9k to 9k + 8, and the trailer as a control
block (R92, R132, R135). -/
def frameBlocks (f : LinkFrame) : List (Nat × Nat) :=
  (f.slots.flatMap slotWords).map (dataHdr, ·) ++ [(ctlHdr, f.crc % 2 ^ 32 + trailerHigh f * 2 ^ 32)]

/-- PRE, MAIN and POST of a preset (R100). -/
def presetCoef (n : Nat) : Nat × Nat × Nat :=
  [(0, 40, 0), (0, 36, 4), (0, 32, 8), (0, 28, 12), (2, 34, 4), (2, 30, 8), (3, 27, 10), (4, 24, 12)].getD n (0, 40, 0)

namespace Hub

/-- What lane `l` sends, after what it has sent. -/
def wirePut (h : Hub) (l : Nat) (w : Wire) : Hub :=
  { h with wire := Tab.ins l (Tab.get [] l h.wire ++ [w]) h.wire }

/-- A lane control block sent on lane `l`: it passes no scrambler and does not advance it (R91, R93). -/
def ctlPut (h : Hub) (l v : Nat) : Hub := h.wirePut l (.blk ctlHdr v)

/-- A scrambled block sent on lane `l` (R91). -/
def scrPut (h : Hub) (l hdr v : Nat) : Hub :=
  let (y, st) := scramble (h.rd OLN.hScr l) v
  (h.wirePut l (.blk hdr y)).wr OLN.hScr st l

/-- A link frame sent on lane `l` (R92). -/
def framePut (h : Hub) (l : Nat) (f : LinkFrame) : Hub :=
  let out := scrambleAll (h.rd OLN.hScr l) (frameBlocks f)
  ({ h with wire := Tab.ins l (Tab.get [] l h.wire ++ out.1) h.wire } : Hub).wr OLN.hScr out.2 l

/-- The TS block of lane `l` (R93, R104, R108): its physical lane and port, the preset in use, RX_LOCKED from CONFIRM on,
CONFIRMED from READY on, CUSTOM and the port's tie value. -/
def tsBlock (h : Hub) (l : Nat) : Nat :=
  let s := h.rd OLN.STAT_STATE l
  ctlBlock 0x1E (l % 4 + l / 4 * 2 ^ 2 + h.rd OLN.TXACT_PRESET l * 2 ^ 5 + bnat (s == 3 || s == 4 || s == 6) * 2 ^ 8 +
    bnat (s == 4 || s == 6) * 2 ^ 9 + h.rd OLN.TXACT_CUSTOM l * 2 ^ 10 + h.rd OPT.hTie (l / 4) % 2 ^ 12 * 2 ^ 12)

/-- The preset at the present entry of PRESEQ (R106). -/
def preset (h : Hub) (l : Nat) : Nat := bits (h.rd OLN.PRESEQ_SEQ l) (3 * h.rd OLN.hPreIx l) 3

/-- TXACT follows the source of the coefficients (R101, R106). -/
def refreshTx (l : Nat) (h : Hub) : Hub :=
  let custom := h.rd OLN.CFG_TXSRC l
  let (pre, main, post) := if custom = 1 then
      (h.rd OLN.TXCOEF_PRE l, h.rd OLN.TXCOEF_MAIN l, h.rd OLN.TXCOEF_POST l) else presetCoef (h.preset l)
  h.wr OLN.TXACT_PRE pre l |>.wr OLN.TXACT_MAIN main l |>.wr OLN.TXACT_POST post l
    |>.wr OLN.TXACT_PRESET (h.preset l) l |>.wr OLN.TXACT_CUSTOM custom l

/-- A preset stepped to applies at the end of a TS block (R106). -/
def applyPreset (l : Nat) (h : Hub) : Hub :=
  h.when (h.on OLN.hPreNext l) fun h =>
    (h.wr OLN.hPreIx (h.rd OLN.hPreNext l - 1) l |>.wr OLN.hPreNext 0 l).refreshTx l

/-- The next block of lane `l`'s training frames: a TS block, then 31 data blocks of scrambled zeros (R105). -/
def trainPut (h : Hub) (l : Nat) : Hub :=
  let n := h.rd OLN.hTrain l % 32
  (if n = 0 then (h.ctlPut l (h.tsBlock l)).applyPreset l else h.scrPut l dataHdr 0).wr OLN.hTrain ((n + 1) % 32) l

/-- What lane `l` sends by itself in one cycle of CD2 (R90, R104, R105, R120): training frames in DETECT, ACQUIRE, CONFIRM, READY and
SPARE and in an exit from L2, FTS in an exit from L1. Link frames are sent by a command. -/
def laneCycle (l : Nat) (h : Hub) : Hub :=
  let s := h.rd OLN.STAT_STATE l
  let exit := h.on OPT.hExit (l / 4)
  if s = 0 ∨ s = 5 ∨ 9 ≤ s ∨ ((s = 7 ∨ s = 8) ∧ exit = false) then h
  else if s = 7 then h.ctlPut l (ctlBlock 0x78 0)
  else h.trainPut l

end Hub

end Sys2Proof.Machine
end

