-- ==== Sys2Proof/Machine/Record.lean ====
section
/-! DEFINITION. What every block may send out of itself: node-routed CONTROL messages
(R187), carat notices (R268) and link events (R335). -/

namespace Sys2Proof.Machine

namespace Hub

/-- A message handed to egress point 13's injection side (R187). -/
def ctlSend (h : Hub) (m : CtlMsg) : Hub := h.when (h.domOn 2) fun h => { h with ctlOut := h.ctlOut ++ [m] }

/-- A request of this node with a new TOKEN (R187, R192). -/
def ctlAsk (h : Hub) (typ dst : Nat) (body : Bytes) : Hub :=
  let t := (h.rd TUN.hTok + 1) % 2 ^ 16
  (h.wr TUN.hTok t).ctlSend { typ := typ, dst := dst, tok := t, body := body }

/-- A request to the crown and to the standby crown recorded in CAS (R273, R326, R335). -/
def toCrowns (h : Hub) (typ : Nat) (body : Bytes) : Hub :=
  (h.when (h.on CAS.CROWN_VALID) fun h => h.ctlAsk typ (h.rd CAS.CROWN_NODE) body).when
    (h.on CAS.CROWN_S_VALID) fun h => h.ctlAsk typ (h.rd CAS.CROWN_STANDBY) body

/-- A CRT_NOTICE (R268, R272, R283): event, egress point (14: the core), tunnel, capacity and reserved total. -/
def crtNotice (h : Hub) (event point tid cap total : Nat) : Hub :=
  h.when (h.on CRT.CFG_NOTICE_EN) fun h =>
    h.toCrowns 0x26 (natLe 1 event ++ natLe 1 point ++ natLe 2 0 ++ natLe 4 tid ++ natLe 2 cap ++ natLe 2 total)

/-- A LINK_EVENT sent (R326, R335), counted in CAS.CNT_EVENT (R339). -/
def linkEvent (h : Hub) (event port partner tid device count : Nat) : Hub :=
  (h.when (h.on CAS.CROWN_VALID || h.on CAS.CROWN_S_VALID) fun h => h.cnt CAS.CNT_EVENT_COUNT).toCrowns 0x42
    (natLe 1 event ++ natLe 1 port ++ natLe 2 partner ++ natLe 4 tid ++ natLe 8 device ++ natLe 2 count)

end Hub

end Sys2Proof.Machine
end

