-- ==== Sys2Proof/Machine/Filigree.lean ====
section
/-! DEFINITION. The filigree core's capacity against its voltage, the capacity guard, and the clock islands
(chapter 3: R62 to R88; R704 and R84 for the crystal and the PLLs). -/

namespace Sys2Proof.Machine

/-- GCAP_OPS of code `n` in units of 10 M ops/s (R64). -/
def gcapOps (n : Nat) : Nat := if n ≤ 8 then 768 + 22 * n else 944 + 20 * (n - 8)

/-- GCAP_OPS of code `n` in ct, rounded down (R65). -/
def gcapCt (n : Nat) : Nat := gcapOps n * 10000000 / 390625

/-- The highest code whose lower band edge does not lie above `mv`; 0 below the band of code 0 (R66). -/
def bandCode (mv : Nat) : Nat := min 16 ((mv - 705) / 10)

/-- The charge to the core of `r` ct with `m` target egress points (R71). -/
def coreCharge (r m : Nat) : Nat := ceilDiv (r * (1 + m)) 2

/-- The field of CLK.GATE that holds bit `n`, and the bit's place in it (R83). -/
def gateFld (n : Nat) : Fld × Nat :=
  if n < 4 then (CLK.GATE_HEAD, n) else if n < 6 then (CLK.GATE_CAP, n - 4) else if n = 6 then (CLK.GATE_TILE, 0)
  else if n < 9 then (CLK.GATE_ETH, n - 7) else if n = 9 then (CLK.GATE_USB, 0)
  else if n = 10 then (CLK.GATE_LUME, 0) else if n = 11 then (CLK.GATE_PCIE, 0) else (CLK.GATE_MEM, 0)

/-- The power domain that holds PLL `n` (R78, R84). -/
def pllDom (n : Nat) : Nat :=
  if n = 0 then 0 else if n = 1 then 8 else if n = 2 then 9 else if n < 5 then 10 else if n < 9 then 3 + (n - 5) else 7

/-- Depth in cells of the crossing FIFO to an attachment, numbered as R87 does (R79). -/
def fifoDepth (a : Nat) : Nat := [32, 32, 64, 16, 4, 4, 8].getD (a - 8) 0

/-- The attachments whose FIFOs a bit of CLK.GATE covers (R79, R81): tile engine, Ethernet, USB and lume. -/
def gateFifos (n : Nat) : List Nat :=
  if n = 6 then [8, 9] else if n = 7 ∨ n = 8 then [11] else if n = 9 then [12] else if n = 10 then [13] else []

/-- The gate bits of the clock that takes cells from the FIFO of an attachment. -/
def fifoGates (a : Nat) : List Nat := (List.range 13).filter fun n => (gateFifos n).contains a

/-- The page of the block behind an attachment, whose domain takes the cells (R18, R79). -/
def fifoPage (a : Nat) : Nat := [0x70, 0x70, 0x80, 0x90, 0xA0, 0x92, 0].getD (a - 8) 0

namespace Hub

/-- EFFCODE of R66: the lowest of the code requested, the code a ramp started from, and the code the measured
voltage supports. -/
def effCode (h : Hub) : Nat :=
  let base := min (h.rd FIL.VSET_CODE) (bandCode (h.rd FIL.VMEAS_MIN_MV))
  if h.on FIL.VSET_RAMPING then min base (h.rd FIL.hStart) else base

/-- EFFCODE, GCAP and GUARD follow their inputs, and CAP_SHORT is set on a fresh entry into its condition (R65, R66,
R72, R74, R268). -/
def refreshCap (h : Hub) : Hub :=
  let e := h.effCode
  let lim := gcapCt e - h.rd FIL.HOLD_CT
  let short := decide (lim < h.rd FIL.ADMLOAD_CT)
  let h1 := h.wr FIL.EFFCODE_CODE e |>.wr FIL.GCAP_OPS_RATE (gcapOps e) |>.wr FIL.GCAP_CT_CT (gcapCt e)
    |>.wr FIL.GUARD_LIMIT lim |>.wr FIL.hShort (bnat short)
  if short && !h.on FIL.hShort then (h1.raise 2 0).crtNotice 2 14 0 lim (h.rd FIL.ADMLOAD_CT) else h1

/-- The effect of a write of `v` to FIL.VSET (R75, R76). -/
def vsetWrite (h : Hub) (r : Req) (v : Nat) : Hub :=
  let c := bits v 0 5
  let present := if h.on FIL.VSET_RAMPING then h.rd FIL.hVid else h.rd FIL.VSET_CODE
  if c > 16 || (c < present && gcapCt c < h.rd FIL.ADMLOAD_CT + h.rd FIL.HOLD_CT) then
    h.raise 2 2 { lo := c, master := masterNum r.master, atype := some 1, code := some 1,
                  hi := some (if r.master = .fabric then r.node % 2 ^ 14 else 0) }
  else if c = h.rd FIL.hVid then
    (h.wr FIL.VSET_CODE c |>.wr FIL.VSET_RAMPING 0 |>.wr FIL.hStart c).refreshCap
  else
    (h.wr FIL.hStart (h.rd FIL.hVid) |>.wr FIL.VSET_CODE c |>.wr FIL.VSET_RAMPING 1).refreshCap

/-- One code step of a ramp (R76). -/
def vidStep (h : Hub) : Hub :=
  if h.on FIL.VSET_RAMPING then
    let v := h.rd FIL.hVid
    let t := h.rd FIL.VSET_CODE
    let v' := if v < t then v + 1 else v - 1
    let h1 := h.wr FIL.hVid v'
    (if v' = t then h1.wr FIL.VSET_RAMPING 0 |>.wr FIL.hStart t else h1).refreshCap
  else h

/-- A replica-loop update (R68, R69, R70, R87): RATE_LOW on the third consecutive update below GCAP_OPS; UTIL over
the last 1 ms, or since the reset of FIL where that is later. UTIL is rounded down, and changes at these updates only (DESIGN
CHOICE, log entry 93). -/
def hsrateUpdate (h : Hub) (rate : Nat) : Hub :=
  let n := if rate < h.rd FIL.GCAP_OPS_RATE then h.rd FIL.hLow + 1 else 0
  let ops := h.rd FIL.OPS_HI_COUNT * 2 ^ 32 + h.rd FIL.OPS_LO_COUNT
  let win := ((ops, rate % 2 ^ 16) :: h.filWin).take 101
  let done := ops - ((win[100]?.map (·.1)).getD 0)
  let room := ((win.take 100).map fun p => p.2 * 100).sum
  let util := if room = 0 then 1023 else min 1023 (done * 1000 / room)
  let h1 := { h with filWin := win }.wr FIL.HSRATE_RATE rate |>.wr FIL.hLow n |>.wr FIL.UTIL_PERMILLE util
  if n = 3 then h1.raise 2 1 else h1

/-- A voltage measurement (R66, R87). -/
def vmeasUpdate (h : Hub) (mv minMv : Nat) : Hub :=
  let low := decide (minMv < 705)
  let h1 := h.wr FIL.VMEAS_MV mv |>.wr FIL.VMEAS_MIN_MV minMv |>.wr FIL.hUv (bnat low)
  (if low && !h.on FIL.hUv then h1.raise 2 3 else h1).refreshCap

/-- A temperature measurement (R87): TJ_HIGH on a fresh entry above 105 °C, TEMP 580. -/
def tjUpdate (h : Hub) (t : Nat) : Hub :=
  let hot := decide (t > 580)
  let h1 := h.wr FIL.TJ_TEMP t |>.wr FIL.hHot (bnat hot)
  if hot && !h.on FIL.hHot then h1.raise 2 5 else h1

/-- The copy of FIL.SNAP.GO (R70, R86). -/
def filSnap (h : Hub) : Hub :=
  h.wr (FIL.SNAP_DATA.word 0) (h.rd FIL.OPS_LO_COUNT) |>.wr (FIL.SNAP_DATA.word 1) (h.rd FIL.OPS_HI_COUNT)
    |>.wr (FIL.SNAP_DATA.word 2) (h.rd FIL.UTIL_PERMILLE) |>.wr (FIL.SNAP_DATA.word 3) (h.rd FIL.HSRATE_RATE)
    |>.wr (FIL.SNAP_DATA.word 4) (h.readReg 2 0x108) |>.wr (FIL.SNAP_DATA.word 5) (h.rd FIL.TJ_TEMP)

/-- `n` cell operations completed (R28, R70). -/
def countOps (h : Hub) (n : Nat) : Hub :=
  let t := h.rd FIL.OPS_HI_COUNT * 2 ^ 32 + h.rd FIL.OPS_LO_COUNT + n
  h.wr FIL.OPS_LO_COUNT (t % 2 ^ 32) |>.wr FIL.OPS_HI_COUNT (t / 2 ^ 32)

/-- A 0 written to bit `n` of CLK.GATE (R81): the gate waits for the crossing FIFOs. -/
def gateOff (h : Hub) (n : Nat) : Hub :=
  let (F, i) := gateFld n
  if h.bit CLK.GSTAT_RUN n then h.wrBit F i false |>.wrBit CLK.hStopping n true else h.wrBit F i false

/-- Whether the clock of gate bit `n` may run: SOLITAIRE holds Ethernet and USB off (R19). -/
def gateMayRun (h : Hub) (n : Nat) : Bool := h.rd PDM.STATE_CURRENT != 2 || n < 7 || 9 < n

/-- A 1 written to bit `n` of CLK.GATE (R81): the clock runs. -/
def gateOn (h : Hub) (n : Nat) : Hub :=
  let (F, i) := gateFld n
  h.wrBit F i true |>.wrBit CLK.hStopping n false |>.wrBit CLK.GSTAT_RUN n (h.gateMayRun n)

/-- Whether the island behind local attachment `a` has its clock (R81, R82): one of the two MACs' clocks, at the Ethernet block. -/
def islandRuns (h : Hub) (a : Nat) : Bool := (if a = 11 then [0x90, 0x91] else [if a ≤ 9 then 0x77 else fifoPage a]).any h.clockRuns

/-- Bit `n` of CLK.GATE written (R81): the clock follows while CLK accepts work (R717). -/
def gateSet (h : Hub) (n : Nat) (run : Bool) : Hub :=
  if !h.up 1 then h.wrBit (gateFld n).1 (gateFld n).2 run else if run then h.gateOn n else h.gateOff n

/-- The clocks follow CLK.GATE as CLK accepts work again (R717). -/
def gateFollow (h : Hub) : Hub :=
  h.each (List.range 13) fun n h =>
    let run := h.bit (gateFld n).1 (gateFld n).2
    h.when (run != (h.bit CLK.GSTAT_RUN n && !h.bit CLK.hStopping n)) fun h => h.gateSet n run

/-- Whether the FIFO to attachment `a` takes a cell from the core: its block's domain is on and takes work (R574, R577), it is not
full (R79), and its block's clock is not waiting to stop (R81). The two MACs of the Ethernet block have a clock each, tested where the
packet's MAC is known. Once the clock has stopped, the FIFO still takes cells until it is full (DESIGN CHOICE, log entry 155). -/
def fifoTakes (h : Hub) (a : Nat) : Bool :=
  h.domOn (pageDom (fifoPage a)) && h.rd PDM.hDom 0 (pageDom (fifoPage a)) != 3 &&
    decide (h.rd FIL.hFifo 0 a < fifoDepth a) && (a == 11 || (fifoGates a).all fun n => !h.bit CLK.hStopping n)

/-- The island behind attachment `a` takes a cell from its FIFO, at a moment that the spec leaves open (R79); a stopped clock takes
none. -/
def fifoDrain (a : Nat) (h : Hub) : Hub :=
  h.when (h.on FIL.hFifo 0 a && h.domOn (pageDom (fifoPage a)) && h.islandRuns a) fun h =>
    let (v, h1) := h.free
    h1.dec FIL.hFifo (v % 2) 0 a

/-- Whether the islands of gate bit `n` have a cell in progress: a packet that a display attachment is sending, or bytes that a MAC
has not sent yet (R81). -/
def islandBusy (h : Hub) (n : Nat) : Bool :=
  (n == 6 && [0, 1].any fun a => h.on DTL.hOwner 0 a) ||
    ((n == 7 || n == 8) && (h.on ETH.hBegun (n - 7) || h.on ETH.hWait (n - 7) || decide (h.cyc * 125 < h.rd ETH.hDry (n - 7))))

end Hub

/-- VSET_WRITE (R75). -/
def execVsetWrite (r : Req) (v : Nat) (s : State) : Host.Outcome State Fault Refusal :=
  s.act fun h => h.asGo r FIL.VSET_CODE 0 fun h => h.vsetWrite r v

/-- VID_STEP (R76): the time for the next code step of a ramp has come. -/
def execVidStep (s : State) : Host.Outcome State Fault Refusal :=
  s.act fun h => h.when (h.domOn 2) Hub.vidStep

/-- HSRATE_UPDATE (R68). -/
def execHsrateUpdate (rate : Nat) (s : State) : Host.Outcome State Fault Refusal :=
  s.act fun h => h.when (h.domOn 2) fun h => h.hsrateUpdate rate

/-- VMEAS_UPDATE (R66). -/
def execVmeasUpdate (mv minMv : Nat) (s : State) : Host.Outcome State Fault Refusal :=
  s.act fun h => h.when (h.domOn 2) fun h => h.vmeasUpdate mv minMv

/-- TJ_UPDATE (R87). -/
def execTjUpdate (temp : Nat) (s : State) : Host.Outcome State Fault Refusal :=
  s.act fun h => h.when (h.domOn 2) fun h => h.tjUpdate temp

/-- FIL_SNAP (R70): a 1 written to FIL.SNAP.GO. -/
def execFilSnap (r : Req) (s : State) : Host.Outcome State Fault Refusal :=
  s.act fun h => h.asGo r FIL.SNAP_GO 0 Hub.filSnap

/-- CLOCK_GATE_OFF (R81): a 0 written to bit `bit` of CLK.GATE. -/
def execClockGateOff (r : Req) (bit : Fin 13) (s : State) : Host.Outcome State Fault Refusal :=
  s.act fun h => h.asReg r CLK.GATE_HEAD 0 fun h => h.gateSet bit false

/-- CLOCK_STOP (R81): the crossing FIFOs of a gate that waits are empty in both directions and no cell is in progress, and the clock
stops. -/
def execClockStop (bit : Fin 13) (s : State) : Host.Outcome State Fault Refusal :=
  s.act fun h => h.when (h.bit CLK.hStopping bit && !h.islandBusy bit && (gateFifos bit).all fun a =>
      !h.on FIL.hFifo 0 a && (Tab.get [] (if a = 8 then 8 else a - 1) h.stalled).isEmpty) fun h =>
    h.wrBit CLK.hStopping bit false |>.wrBit CLK.GSTAT_RUN bit false

/-- GATE_TIMEOUT (R81): the FIFOs did not drain within 100 µs; the gate is abandoned. -/
def execGateTimeout (bit : Fin 13) (s : State) : Host.Outcome State Fault Refusal :=
  s.act fun h => h.when (h.bit CLK.hStopping bit) fun h =>
    ((h.wrBit (gateFld bit).1 (gateFld bit).2 true).wrBit CLK.hStopping bit false).raise 1 3 { lo := some (2 ^ bit.val) }

/-- CLOCK_GATE_ON (R81): a 1 written to bit `bit` of CLK.GATE. -/
def execClockGateOn (r : Req) (bit : Fin 13) (s : State) : Host.Outcome State Fault Refusal :=
  s.act fun h => h.asReg r CLK.GATE_HEAD 0 fun h => h.gateSet bit true

/-- PLL_UNLOCK (R82, R85): a locked PLL loses lock. -/
def execPllUnlock (pll : Fin 13) (s : State) : Host.Outcome State Fault Refusal :=
  s.act fun h => h.when (h.bit CLK.PLLSTAT_LOCK pll) fun h =>
    ((h.wrBit CLK.PLLSTAT_LOCK pll false |>.wrBit CLK.hUnlocked pll true).raise 1 0 { lo := some (2 ^ pll.val) }).when
      (pll.val == 0) fun h => h.wr TOP.NTCTL_RUN 0

/-- PLL_RELOCK (R82). A PLL that relocks on REFCLK shows that it is back: REF_OK reads 1 again (DESIGN CHOICE, log entry 94). -/
def execPllRelock (pll : Fin 13) (s : State) : Host.Outcome State Fault Refusal :=
  s.act fun h => h.when (h.bit CLK.hUnlocked pll) fun h =>
    (h.wrBit CLK.PLLSTAT_LOCK pll true |>.wrBit CLK.hUnlocked pll false |>.wr CLK.REFSTAT_REF_OK 1).when
      (pll.val == 0) fun h => h.wr TOP.NTCTL_RUN 1

/-- REF_LOSS (R85): REFCLK is absent or beyond 300 ppm. -/
def execRefLoss (s : State) : Host.Outcome State Fault Refusal :=
  s.act fun h => (h.wr CLK.REFSTAT_REF_OK 0).raise 1 1

/-- XTAL_LOSS (R78, R85): the crystal fails, and CD0 runs from the RC oscillator. -/
def execXtalLoss (s : State) : Host.Outcome State Fault Refusal :=
  s.act fun h => (h.wr CLK.REFSTAT_XTAL_OK 0 |>.wr CLK.REFSTAT_AON_RC 1).raise 1 2

/-- XTAL_START (R704): the crystal runs, and CD0 leaves the RC oscillator unless FORCE_RC holds it there. -/
def execXtalStart (s : State) : Host.Outcome State Fault Refusal :=
  s.act fun h => h.wr CLK.REFSTAT_XTAL_OK 1 |>.wr CLK.REFSTAT_AON_RC (h.rd CLK.AONCLK_FORCE_RC)

end Sys2Proof.Machine
end

