-- ==== Sys2Proof/Machine/Ledger.lean ====
section
/-! DEFINITION. What the tunnel table holds (R179, R180), the ledgers of the carat allotment engine (R262 to R271),
and the buckets of the ingress meters (R304 to R307), as shared operations. -/

namespace Sys2Proof.Machine

/-! ### Tunnel table entries -/

/-- A tunnel table entry as its eight words (R180). -/
abbrev Ent := List Nat

namespace Ent

/-- Word 0: the tunnel ID. -/
def tid (e : Ent) : Nat := bits (e.getD 0 0) 0 20
/-- Word 0: KIND. -/
def kind (e : Ent) : Nat := bits (e.getD 0 0) 20 3
/-- Word 0: STATE, 0 FREE, 1 PENDING, 2 OPEN, 3 DRAINING. -/
def state (e : Ent) : Nat := bits (e.getD 0 0) 23 2
/-- Word 0: MCAST. -/
def mcast (e : Ent) : Bool := (e.getD 0 0).testBit 25
/-- Word 0: SOURCE. -/
def source (e : Ent) : Bool := (e.getD 0 0).testBit 26
/-- Word 0: TWIN. -/
def twin (e : Ent) : Bool := (e.getD 0 0).testBit 27
/-- Word 0: SPLIT. -/
def split (e : Ent) : Bool := (e.getD 0 0).testBit 28
/-- Word 0: MERGE. -/
def merge (e : Ent) : Bool := (e.getD 0 0).testBit 29
/-- Word 0: VCKEEP. -/
def vckeep (e : Ent) : Bool := (e.getD 0 0).testBit 30
/-- Word 1: EGRESS. -/
def egress (e : Ent) : Nat := bits (e.getD 1 0) 0 14
/-- Word 1: QCLASS. -/
def qclass (e : Ent) : Nat := bits (e.getD 1 0) 16 4
/-- Word 1: VC. -/
def vc (e : Ent) : Nat := bits (e.getD 1 0) 20 2
/-- Word 2: INGRESS. -/
def ingress (e : Ent) : Nat := bits (e.getD 2 0) 0 14
/-- Word 2: TWNCTX. -/
def twnctx (e : Ent) : Nat := bits (e.getD 2 0) 16 10
/-- Word 5: METER. -/
def meter (e : Ent) : Nat := bits (e.getD 5 0) 0 13
/-- Word 5: TXSEQ. -/
def txseq (e : Ent) : Nat := bits (e.getD 5 0) 16 16
/-- Word 7: STAMP_MS. -/
def stamp (e : Ent) : Nat := bits (e.getD 7 0) 8 16

end Ent

/-- The bits set in a mask of egress points, in ascending order. -/
def pointsOf (m : Nat) : List Nat := (List.range 14).filter m.testBit

/-- The set of a tunnel ID (R179). -/
def tunSet (tid : Nat) : Nat := bits tid 0 11 ^^^ (bits tid 11 9 * 4)

/-- The window offset of a tunnel table entry (R50). -/
def tunAddr (idx : Nat) : Nat := 0x400000 + 32 * idx

namespace Hub

/-- A tunnel table entry. -/
def tun (h : Hub) (idx : Nat) : Ent := h.twords (tunAddr idx) 8

/-- The four entry indexes of a tunnel ID's set. -/
def tunWays (tid : Nat) : List Nat := (List.range 4).map (4 * tunSet tid + ·)

/-- The entry that holds a tunnel ID in a state other than FREE. -/
def tunFind (h : Hub) (tid : Nat) : Option Nat :=
  (tunWays tid).find? fun i => (h.tun i).state != 0 && (h.tun i).tid == tid

/-- TUN.FREE counted from the table (R206). -/
def refreshFree (h : Hub) : Hub :=
  h.wr TUN.FREE_COUNT (8192 - h.tab.countP fun p =>
    decide (0x400000 ≤ p.1 * 4 && p.1 * 4 < 0x440000) && p.1 % 8 == 0 && bits p.2 23 2 != 0)

/-- Whether port `p` is in state UP (R143). -/
def portUp (h : Hub) (p : Nat) : Bool := h.domOn (3 + p / 2) && h.rd OPT.STAT_STATE p == 3

/-- RTE.UPSTAT follows the uplink ports (R208). -/
def refreshUpstat (h : Hub) : Hub :=
  h.wr RTE.UPSTAT_P_UP (bnat (h.on RTE.UPLINK_P_VALID && h.portUp (h.rd RTE.UPLINK_PRIMARY)))
    |>.wr RTE.UPSTAT_S_UP (bnat (h.on RTE.UPLINK_S_VALID && h.portUp (h.rd RTE.UPLINK_SECONDARY)))

/-! ### Capacities and floors -/

/-- Allocatable carats of a port at width code `w` (R4, R263). -/
def widthCt (w : Nat) : Nat := if w = 0 then 216 else if w = 1 then 432 else 864

/-- The CONTROL floor of a role (R21). -/
def roleFloor (r : Nat) : Nat := if r = 0 then 16 else if r = 1 then 8 else 4

/-- PCAP of egress point `e` (R263). -/
def pcap (h : Hub) (e : Nat) : Nat :=
  if e < 8 then (if h.portUp e then widthCt (h.rd OPT.STAT_WIDTH e) else 0) else h.rd CRT.PCAP_CT 0 e

/-- FLOOR of egress point `e` (R264). -/
def pfloor (h : Hub) (e : Nat) : Nat :=
  if e < 8 && h.portUp e then
    if (h.on RTE.UPLINK_P_VALID && h.rd RTE.UPLINK_PRIMARY == e) ||
       (h.on RTE.UPLINK_S_VALID && h.rd RTE.UPLINK_SECONDARY == e) then roleFloor (h.rd TOP.NODECFG_ROLE)
    else roleFloor (h.rd OPT.PARTNER_ROLE e)
  else 0

/-- PRES of egress point `e` (R265). -/
def pres (h : Hub) (e : Nat) : Nat := h.pfloor e + h.rd CRT.PCOMMIT_CT 0 e + h.rd CRT.PPEND_CT 0 e

/-- The ledger registers of point `e` follow their inputs, and entry to the short condition is noticed (R267,
R268). -/
def refreshPoint (e : Nat) (h : Hub) : Hub :=
  let cap := h.pcap e
  let tot := h.pres e
  let short := (e ≥ 8 || h.portUp e) && decide (tot > cap)
  let h1 := (if e < 8 then h.wr CRT.PCAP_CT cap 0 e else h) |>.wr CRT.PFLOOR_CT (h.pfloor e) 0 e
    |>.wr CRT.PRES_CT tot 0 e |>.wrBit CRT.PSHORT_POINTS e short
  if short && !h.bit CRT.PSHORT_POINTS e then
    ((h1.raise 0x61 0 { lo := e }).irq 0x61 2).crtNotice 1 e 0 cap tot
  else h1

/-- Every point's ledger and the uplink status follow the ports, the roles and the records. -/
def refreshPoints (h : Hub) : Hub :=
  h.when (h.domOn 2) fun h => h.refreshUpstat.each (List.range 14) refreshPoint

/-! ### Meters -/

/-- The committed bucket's size in 1/32 byte; 0 units read as 1 (R311). -/
def mcbs (h : Hub) (m : Nat) : Int := (max 1 (h.rd MTR.MCBS_UNITS 0 m) * 64 * 32 : Nat)

/-- The peak bucket's size in 1/32 byte. -/
def mpbs (h : Hub) (m : Nat) : Int := (max 1 (h.rd MTR.MPBS_UNITS 0 m) * 64 * 32 : Nat)

/-- The peak rate in ct: a PIR below CIR acts as equal to CIR (R302). -/
def mpir (h : Hub) (m : Nat) : Nat := max (h.rd MTR.MPIR_CT 0 m) (h.rd MTR.MCIR_CT 0 m)

/-- The buckets of meter `m` brought up to date (R304): TC fills at CIR up to CBS, and stays at 0 or below while CIR
is 0; TP fills at PIR up to PBS, and is always full at PIR 0xFFFF. -/
def meterNow (h : Hub) (m : Nat) : Meter :=
  let b := Tab.get {} m h.meters
  let dt : Int := (h.cyc - b.at_ : Nat)
  let cir := h.rd MTR.MCIR_CT 0 m
  { tc := if cir = 0 then min b.tc 0 else min (b.tc + cir * dt) (h.mcbs m),
    tp := if h.rd MTR.MPIR_CT 0 m = 0xFFFF then h.mpbs m else min (b.tp + h.mpir m * dt) (h.mpbs m),
    at_ := h.cyc }

/-- The buckets of meter `m` set, and MTC and MTP shown in whole bytes. -/
def meterSet (h : Hub) (m : Nat) (b : Meter) : Hub :=
  { h with meters := Tab.ins m b h.meters }.wr MTR.MTC_BYTES (ofSigned 32 (b.tc / 32)) 0 m
    |>.wr MTR.MTP_BYTES (ofSigned 32 (b.tp / 32)) 0 m

/-- The committed rate of meter `m` set: TC keeps its value, but a change that lowers CIR clears a positive TC
(R307). -/
def setMcir (h : Hub) (m v : Nat) : Hub :=
  let b := h.meterNow m
  let b' := if v < h.rd MTR.MCIR_CT 0 m then { b with tc := min b.tc 0 } else b
  (h.wr MTR.MCIR_CT v 0 m).meterSet m b'

/-- MINIT (R306): TC to CBS, or to 0 while CIR is 0, and TP to PBS. -/
def meterFill (h : Hub) (m : Nat) : Hub :=
  h.meterSet m { tc := if h.rd MTR.MCIR_CT 0 m = 0 then 0 else h.mcbs m, tp := h.mpbs m, at_ := h.cyc }

/-! ### Reservation records -/

/-- The entry indexes whose record is in a state other than NONE. -/
def crtLive (h : Hub) : List Nat :=
  h.regs.filterMap fun p => if p.1 % 2 ^ 38 = CRT.RREC_STATE.key 0 0 then some (keyBank p.1) else none

/-- The committed rate of the meter that entry `i` names is loaded with the sum of COMMITTED over the records whose
entries name it (R269); a load that counts two or more records is marked METER_SHARED (R312). -/
def loadMeter (h : Hub) (i : Nat) : Hub :=
  let m := (h.tun i).meter
  if m = 0x1FFF then h
  else
    let l := h.crtLive.filter fun j => (h.tun j).meter == m
    let h1 := h.setMcir m ((l.map fun j => h.rd CRT.RREC_COMMITTED 0 j).sum)
    h1.when (decide (2 ≤ l.length)) fun h => h.raise 0x60 1 { lo := m, hi := (h.tun i).tid }

/-- Record `i` set to `committed`, `target` and `state`, with the ledgers of R265 and FIL.ADMLOAD, and then the meter
(R276). -/
def setRec (h : Hub) (i committed target state : Nat) : Hub :=
  let oc := h.rd CRT.RREC_COMMITTED 0 i
  let ot := h.rd CRT.RREC_TARGET 0 i
  let es := pointsOf (h.tun i).egress
  let m := es.length
  let h1 := h.wr FIL.ADMLOAD_CT (h.rd FIL.ADMLOAD_CT + coreCharge target m - coreCharge ot m)
  let h2 := h1.each es fun e h =>
    h.wr CRT.PCOMMIT_CT (h.rd CRT.PCOMMIT_CT 0 e + committed - oc) 0 e
      |>.wr CRT.PPEND_CT (h.rd CRT.PPEND_CT 0 e + (target - committed) - (ot - oc)) 0 e
  let h3 := h2.wr CRT.RECS_COUNT
      (h.rd CRT.RECS_COUNT + bnat (state != 0) - bnat (h.rd CRT.RREC_STATE 0 i != 0))
    |>.wr CRT.RREC_COMMITTED committed 0 i |>.wr CRT.RREC_TARGET target 0 i |>.wr CRT.RREC_STATE state 0 i
    |>.wr CRT.RHOLD_MS (if state = 2 then max 1 (h.rd CRT.CFG_HOLD_MS) else 0) 0 i
  let h4 := h3.refreshCap.refreshPoints
  if committed = oc then h4 else h4.loadMeter i

/-- The increase reserved on record `i` ended (R271, R281): TARGET returns to COMMITTED. -/
def endReserve (h : Hub) (i : Nat) : Hub :=
  let c := h.rd CRT.RREC_COMMITTED 0 i
  h.setRec i c c (if c = 0 then 0 else 1)

/-- The change a record takes as its last (R270). -/
def setTxn (h : Hub) (i txn src : Nat) : Hub := h.wr CRT.RTXN_TXN txn 0 i |>.wr CRT.RTXN_CROWN src 0 i

end Hub

end Sys2Proof.Machine
end

