-- ==== Sys2Proof/Machine/Buffer.lean ====
section
/-! DEFINITION. The shared buffer: pools and banks (R212 to R216, R235), admission (R236), packets and their targets
(R226 to R234), ageing (R243 to R245), flushes (R246), the wipe and the scrub (R251 to R253). -/

namespace Sys2Proof.Machine

/-- The queue of an egress point and a class, as THR and the queue table number it. -/
def queueOf (pt cls : Nat) : Nat := pt * 16 + cls

namespace Hub

/-! ### Pools -/

/-- RESV, SHARED and SFREE follow MIN, HEADROOM and the cells held (R235). -/
def refreshThr (h : Hub) : Hub :=
  let resv := ((List.range 224).map fun q => h.rd THR.QCFG_MIN 0 q).sum
  let shared := 393216 - h.rd THR.HEADROOM_CELLS - resv
  h.wr THR.RESV_CELLS resv |>.wr THR.SHARED_CELLS shared |>.wr THR.SFREE_CELLS (shared - h.rd SWB.hShared)

/-- The pool that the next cell of charge queue `q` is charged to (R235). -/
def poolFor (h : Hub) (q : Nat) : Nat :=
  if h.rd THR.hCharged 0 q < h.rd THR.QCFG_MIN 0 q then 0
  else if h.rd THR.SFREE_CELLS = 0 then 2 else 1

/-- The rows of bank `b` whose cells packets hold (R212, R213). -/
def heldIn (h : Hub) (b : Nat) : List Nat :=
  ((h.pkts.flatMap fun p => p.2.cells.map (·.num)).filter fun n => n % 64 == b).map (· / 64)

/-- The first number modulo `m` from `v` on, among `n + 1`, that none of `held` is. -/
def freeFrom (held : List Nat) (m v : Nat) : Nat → Nat
  | 0 => v % m
  | n + 1 => if held.contains (v % m) then freeFrom held m (v + 1) n else v % m

/-- A cell taken from bank `b` and pool `pool` for queue `q`, with the marks of R242 and R254. -/
def takeCell (h : Hub) (q b pool : Nat) : Hub :=
  let free := h.rd SWB.FREE_COUNT
  let h1 := h.wr SWB.FREE_COUNT (free - 1) |>.wr SWB.MINFREE_COUNT (min (h.rd SWB.MINFREE_COUNT) (free - 1))
    |>.wr SWB.BSTAT_FREE (h.rd SWB.BSTAT_FREE 0 b - 1) 0 b |>.wr THR.hCharged (h.rd THR.hCharged 0 q + 1) 0 q
  let h2 := if pool = 1 then h1.wr SWB.hShared (h.rd SWB.hShared + 1) |>.wr THR.SFREE_CELLS (h.rd THR.SFREE_CELLS - 1)
    else if pool = 2 then (h1.wr THR.HDUSE_CELLS (h.rd THR.HDUSE_CELLS + 1)).raise 0x48 4 else h1
  if h.rd SWB.LOWMARK_COUNT ≤ free && free - 1 < h.rd SWB.LOWMARK_COUNT then h2.irq 0x48 1 else h2

/-- A cell of charge queue `q` returned to its bank and its pool (R216). -/
def giveCell (q : Nat) (c : PCell) (h : Hub) : Hub :=
  let b := c.num % 64
  let h1 := h.wr SWB.FREE_COUNT (h.rd SWB.FREE_COUNT + 1) |>.wr SWB.BSTAT_FREE (h.rd SWB.BSTAT_FREE 0 b + 1) 0 b
    |>.wr THR.hCharged (h.rd THR.hCharged 0 q - 1) 0 q
  if c.pool = 1 then
    let used := h.rd SWB.hShared - 1
    h1.wr SWB.hShared used |>.wr THR.SFREE_CELLS (h.rd THR.SHARED_CELLS - used)
  else if c.pool = 2 then h1.wr THR.HDUSE_CELLS (h.rd THR.HDUSE_CELLS - 1) else h1

/-- The bank the next cell of ingress point `i` goes into (R214): the first from its pointer on with a free cell. -/
def bankFor (h : Hub) (i : Nat) : Nat :=
  let p := h.rd SWB.hPtr 0 i
  (((List.range 64).map fun k => (p + k) % 64).find? fun b => h.rd SWB.BSTAT_FREE 0 b != 0).getD p

/-! ### Queues -/

/-- A queue's descriptor numbers, head first. -/
def queue (h : Hub) (q : Nat) : List Nat := Tab.get [] q h.queues

/-- A queue set, and QSTAT.BACKLOG with it; the weighted counter returns to 0 when the queue empties (R294). -/
def setQueue (h : Hub) (q : Nat) (l : List Nat) : Hub :=
  let h1 := { h with queues := Tab.put [] q l h.queues }.wr SCH.QSTAT_BACKLOG (bnat !l.isEmpty) (q / 16) (q % 16)
  if l.isEmpty then h1.wr SCH.DEF_CELLS 0 (q / 16) (q % 16) |>.wr SCH.QSTAT_INPROG 0 (q / 16) (q % 16) else h1

/-- Occupancy of a queue raised by `n` cells, and its peak (R236, R256). -/
def occUp (n q : Nat) (h : Hub) : Hub :=
  let o := h.rd THR.QSTAT_OCC 0 q + n
  h.wr THR.QSTAT_OCC o 0 q |>.wr THR.QPEAK_OCC (max o (h.rd THR.QPEAK_OCC 0 q)) 0 q

/-! ### Shapers -/

/-- A bucket's size in 1/32 byte (R296): BURST × 64 bytes, 0 units reading as 1. -/
def burst (h : Hub) (e c : Nat) : Int := (max 1 (h.rd SCH.SHCFG_BURST e c) * 64 * 32 : Nat)

/-- TOKENS of a queue brought up to date (R296): it grows at RATE up to BURST × 64 bytes. -/
def shaperNow (h : Hub) (e c : Nat) : Shaper :=
  let b := Tab.get {} (queueOf e c) h.shapers
  { tok := min (b.tok + h.rd SCH.SHAPE_RATE e c * (h.cyc - b.at_ : Nat)) (h.burst e c), at_ := h.cyc }

/-- TOKENS of a queue set, and shown in whole bytes. -/
def shaperSet (h : Hub) (e c : Nat) (b : Shaper) : Hub :=
  { h with shapers := Tab.ins (queueOf e c) b h.shapers }.wr SCH.TOKENS_BYTES (ofSigned 32 (b.tok / 32)) e c

/-- A wheel slot's time in ns (R299). -/
def slotNs (h : Hub) (e : Nat) : Nat := 8 * 2 ^ h.rd SCH.WHEEL_GRAN e

/-- Queue `c` entered on the wheel with next eligible time `net` (R300), or in the overflow bucket. -/
def wheelEnter (h : Hub) (e c net : Nat) : Hub :=
  if net < h.now + 1023 * h.slotNs e then
    h.wr SCH.NETSLOT_SLOT (ceilDiv net (h.slotNs e) % 1024) e c |>.wr SCH.QSTAT_WHEEL 1 e c
      |>.wr SCH.QSTAT_OVERFLOW 0 e c |>.wrBit SCH.OVFSTAT_QUEUES c false e
  else
    (h.wr SCH.hNet net e c |>.wr SCH.QSTAT_WHEEL 0 e c |>.wr SCH.QSTAT_OVERFLOW 1 e c |>.wrBit SCH.OVFSTAT_QUEUES c true e).cnt
      SCH.CNT_OVF_COUNT e

/-- The end of a packet that queue `c` has started (R296): a queue whose TOKENS is below 0 is entered on the wheel. -/
def shaperEnd (h : Hub) (e c : Nat) : Hub :=
  let b := h.shaperNow e c
  let rate := h.rd SCH.SHAPE_RATE e c
  h.when (rate != 0 && decide (b.tok < 0)) fun h =>
    (h.shaperSet e c b).wheelEnter e c (h.now + ceilDiv ((-b.tok).toNat * 5) (2 * rate))

/-! ### Packets -/

/-- The descriptor of number `id`. -/
def pkt (h : Hub) (id : Nat) : Option Pkt := Tab.find id h.pkts

/-- A descriptor written. -/
def setPkt (h : Hub) (id : Nat) (p : Pkt) : Hub := { h with pkts := Tab.ins id p h.pkts }

/-- Every cell, the descriptor and the queue entries of a packet returned to their free lists (R216). A packet under
LINK_UE returns none of them (R250). -/
def freePkt (h : Hub) (id : Nat) (p : Pkt) : Hub :=
  if p.stuck then h.setPkt id { p with tgts := [] }
  else
    let h1 := h.each p.cells (giveCell p.chargeQ)
    let h2 := { h1 with pkts := Tab.del id h1.pkts }.wr SWB.DESC_FREE (h.rd SWB.DESC_FREE + 1)
      |>.wr SWB.QENT_FREE (h.rd SWB.QENT_FREE + p.nq)
    if p.multi then h2.dec MCR.INFLIGHT_COUNT 1 else h2

/-- Packet `id` discarded at every target, its cells, descriptor and queue entries withheld until the next wipe (R250, R261). -/
def strand (h : Hub) (id : Nat) (p : Pkt) : Hub :=
  (h.each p.tgts fun t h =>
    let q := queueOf t.pt p.cls
    let h1 := (h.setQueue q ((h.queue q).filter (· != id))).dec THR.QSTAT_OCC p.cells.length 0 q
    (h1.when p.multi fun h => h.cnt MCR.CNT_EARLYEND_COUNT).when t.started fun h => h.shaperEnd t.pt p.cls).setPkt id
      { p with tgts := [], stuck := true }

/-- Whether some queue lists packet `id`. -/
def listed (h : Hub) (id : Nat) : Bool := h.queues.any fun q => q.2.contains id

/-- A REF_FAULT over packet `id` (R261): no queue lists it any longer, it is stranded, and its TID is captured. Of a number that no
descriptor has, there is no TID to capture. -/
def refFault (id : Nat) (h : Hub) : Hub :=
  let h1 := match h.pkt id with
    | some p => (h.strand id p).raise 0x4B 0 { lo := p.tid }
    | none => h.raise 0x4B 0
  h1.each (Tab.keys h1.queues) fun q h => h.when ((h.queue q).contains id) fun h => h.setQueue q ((h.queue q).filter (· != id))

/-- Whether packet `id` has egress point `e` among its targets. -/
def targets (h : Hub) (id e : Nat) : Bool := (h.pkt id).any fun p => p.tgts.any fun t => t.pt == e

/-- The queue entries of point `e` whose packet has been released there: each is a REF_FAULT (R261). -/
def purge (h : Hub) (e : Nat) : Hub :=
  h.each (((List.range 16).flatMap fun c => h.queue (queueOf e c)).filter fun id => !h.targets id e) refFault

/-- The target at `pt` is done with packet `id` (R216): it leaves its queue, and the last one frees the packet. A reference count
that would fall below 0, or a queue that still lists the packet as it is released, is a REF_FAULT (R261). -/
def leave (h : Hub) (id pt : Nat) : Hub :=
  match h.pkt id with
  | none => refFault id h
  | some p =>
    if p.tgts.any fun t => t.pt == pt then
      let q := queueOf pt p.cls
      let p' := { p with tgts := p.tgts.filter fun t => t.pt != pt }
      let h1 := (h.setQueue q ((h.queue q).filter (· != id))).dec THR.QSTAT_OCC p.cells.length 0 q
      if !p'.tgts.isEmpty then h1.setPkt id p'
      else if h1.listed id then refFault id (h1.setPkt id p')
      else h1.freePkt id p'
    else refFault id h

/-- The target at `pt` discards packet `id` before its end (R234); a packet that has started ends there for the shaper (R296). -/
def discard (h : Hub) (id pt : Nat) : Hub :=
  match h.pkt id with
  | none => h
  | some p =>
    ((h.when p.multi fun h => h.cnt MCR.CNT_EARLYEND_COUNT).leave id pt).when
      (p.tgts.any fun t => t.pt == pt && t.started) fun h => h.shaperEnd pt p.cls

/-- Targets that become eligible only at COMPLETE and have not started discard a poisoned packet (R223, R229); the
transaction bridge takes its SOP cell instead. -/
def settlePoison (h : Hub) (id : Nat) : Hub :=
  match h.pkt id with
  | none => h
  | some p =>
    if p.poison && p.complete then
      h.each (p.tgts.filter fun t => !t.ct && !t.started && t.pt != 9) fun t h =>
        (h.cnt SWB.CNT_PDROP_COUNT).discard id t.pt
    else h

/-- Packet `id` is poisoned at this node (R226), counted once. -/
def poisonPkt (h : Hub) (id : Nat) : Hub :=
  match h.pkt id with
  | none => h
  | some p =>
    if p.poison then h else ((h.setPkt id { p with poison := true }).cnt SWB.CNT_POISON_COUNT).settlePoison id

/-- COMPLETE of packet `id` set (R215), and its store-and-forward targets counted (R222). -/
def completePkt (h : Hub) (id : Nat) : Hub :=
  match h.pkt id with
  | none => h
  | some p =>
    ((h.setPkt id { p with complete := true }).cntN SWB.CNT_SF_COUNT
      (p.tgts.filter fun t => !t.ct).length).settlePoison id

/-- Packet `id` ends early (R227): poisoned and complete, with no tail cell written. A stranded one is left as it is (R250). -/
def endEarly (h : Hub) (id : Nat) : Hub :=
  match h.pkt id with
  | none => h
  | some p => if p.stuck then h else ((h.setPkt id { p with early := true }).poisonPkt id).completePkt id

/-- A read or a write of a cell of bank `b` completed (R28, R252). -/
def bankOp (b : Nat) (h : Hub) : Hub := (h.countOps 1).wr SWB.hForeground (min 1024 (h.rd SWB.hForeground 0 b + 1)) 0 b

/-- One cell of packet `id` written (R214, R219, R235), one cell operation (R28): into a free cell of its bank, which one the spec
leaves open (R213). The caller has found a free cell in the buffer. -/
def writeCell (h : Hub) (id : Nat) (c : Cell) : Hub :=
  match h.pkt id with
  | none => h
  | some p =>
    let b := h.bankFor p.ingress
    let pool := h.poolFor p.chargeQ
    let (row, h0) := h.free
    let held := h.heldIn b
    let pc : PCell := { num := freeFrom held 6144 row held.length * 64 + b, data := padTo 64 c.payload, fill := c.fill,
                        flips := h.rd SWB.hFlip, pool := pool }
    let h1 := ((h0.takeCell p.chargeQ b pool).wr SWB.hPtr ((b + 1) % 64) 0 p.ingress).wr SWB.hFlip 0
    ((h1.setPkt id { p with cells := p.cells ++ [pc] }).each p.tgts fun t h =>
      h.occUp 1 (queueOf t.pt p.cls)).bankOp b

/-! ### Admission -/

/-- Whether queue `q` admits a packet of colour `k` (R236, R237). -/
def admits (h : Hub) (k q : Nat) : Bool :=
  let occ := h.rd THR.QSTAT_OCC 0 q
  let min := h.rd THR.QCFG_MIN 0 q
  let a := h.rd THR.QCFG_ALPHA 0 q
  let sfree := h.rd THR.SFREE_CELLS
  let shift := if k = 0 then 0 else if k = 1 then h.rd THR.QCFG_Y_SHIFT 0 q else h.rd THR.QCFG_R_SHIFT 0 q
  decide (occ < min) ||
    (decide (0 < sfree) && (a == 15 || decide ((occ - min) * 2 ^ (7 + shift) < sfree * 2 ^ a)))

/-- The rate rank of an ingress or egress point (R221). -/
def rank (h : Hub) (pt : Nat) : Nat :=
  if pt < 8 then (if h.rd OPT.STAT_WIDTH pt = 0 then 1 else if h.rd OPT.STAT_WIDTH pt = 1 then 3 else 4)
  else if pt = 8 then 5 else if pt = 9 then 6 else if pt = 10 then 2 else 0

/-- Whether a packet from `ingress` may cut through at `pt` (R221, R222). -/
def cutThrough (h : Hub) (ingress pt : Nat) (poison : Bool) : Bool :=
  if pt = 8 then h.bit SWB.CFG_CT_EN 8
  else if pt < 8 ∨ pt = 10 then
    h.bit SWB.CFG_CT_EN pt && !poison && decide (h.rank pt ≤ h.rank ingress) &&
      (pt == 10 || h.rd OPT.STAT_STATE pt == 3 || h.rd OPT.STAT_STATE pt == 4)
  else false

/-! ### Merge contexts -/

/-- The tunnel ID of the entry that merges under a context, 0 where none does. -/
def ctxTid (h : Hub) (ctx : Nat) : Nat :=
  ((h.tab.find? fun p =>
    let i := (p.1 * 4 - 0x400000) / 32
    decide (0x400000 ≤ p.1 * 4 && p.1 * 4 < 0x440000) && p.1 % 8 == 0 && (h.tun i).state != 0 && (h.tun i).merge &&
      (h.tun i).twnctx == ctx).map fun p => bits p.2 0 20).getD 0

/-- The silence flag of a path set (R204), captured where no other is, and the crowns hear of it (R335). -/
def silence (h : Hub) (ctx : Nat) (pathB : Bool) : Hub :=
  let h1 := (h.wr (if pathB then TWN.CSTAT_B_SILENT else TWN.CSTAT_A_SILENT) 1 0 ctx).irq 0x69 0
  let h2 := h1.when (!h1.on TWN.SILENT_FIRST_VALID) fun h =>
    h.wr TWN.SILENT_FIRST_CTX ctx |>.wr TWN.SILENT_FIRST_VALID 1
  h2.linkEvent 4 (h.rd (if pathB then TWN.CCFG_PORT_B else TWN.CCFG_PORT_A) 0 ctx) 0 (h.ctxTid ctx) 0 0

/-- A path of a context delivers (R204): its own flag clears, and the flag of a path that became silent while both
were is set now. -/
def pathDelivers (h : Hub) (ctx : Nat) (pathB : Bool) : Hub :=
  let h1 := (h.wr (if pathB then TWN.CSTAT_B_SILENT else TWN.CSTAT_A_SILENT) 0 0 ctx).wrBit TWN.hQuiet (bnat pathB) false 0 ctx
    |>.wrBit TWN.hHeard (bnat pathB) true 0 ctx
  h1.when (h.bit TWN.hQuiet (bnat !pathB) 0 ctx &&
    !h.on (if pathB then TWN.CSTAT_A_SILENT else TWN.CSTAT_B_SILENT) 0 ctx) fun h => h.silence ctx !pathB

/-- An accepted copy ends (R203). -/
def copyEnd (h : Hub) (c : Copy) (poison : Bool) : Hub :=
  let h1 := h.wr TWN.CSTAT_INPROG 0 0 c.ctx
  if poison then h1.cnt TWN.CNT_POISON_COUNT 0 c.ctx
  else (h1.wr TWN.CSTAT_HIGH c.seq 0 c.ctx |>.wr TWN.CSTAT_FIRST 0 0 c.ctx).cnt
    (if c.pathB then TWN.CNT_B_COUNT else TWN.CNT_A_COUNT) 0 c.ctx

/-- A merge context freed with its entry (R196): what a copy already accepted does at its end changes nothing. -/
def freeContext (h : Hub) (ctx : Nat) : Hub :=
  { h with opens := h.opens.map fun (p : Nat × OpenPk) =>
      match p.2.copy with
      | some c => if c.ctx = ctx then (p.1, { p.2 with copy := none }) else p
      | none => p }.wr TWN.CCFG_ACTIVE 0 0 ctx |>.wr TWN.CSTAT_INPROG 0 0 ctx

/-! ### Open packets -/

/-- The open-packet record `k` closes with a packet that ends early (R175, R226, R230). -/
def closeOpen (h : Hub) (k : Nat) : Hub :=
  match Tab.find k h.opens with
  | none => h
  | some o =>
    let h1 := { h with opens := Tab.del k h.opens }
    let h2 := match o.id with
      | some id => h1.endEarly id
      | none => h1
    match o.copy with
    | some c => h2.copyEnd c true
    | none => h2

/-- Every open packet of ingress point `pt` closes poisoned (R226, R230). -/
def closeIngress (h : Hub) (pt : Nat) : Hub :=
  h.each ((List.range 4).map (pt * 4 + ·)) fun k h => h.closeOpen k

/-- Every packet queued at egress point `pt` is discarded there and counted as flushed, as its port leaves UP (R246). -/
def flushPoint (h : Hub) (pt : Nat) : Hub :=
  let ids := (List.range 16).flatMap fun c => h.queue (queueOf pt c)
  let h1 := h.each ids fun id h => (h.cnt AGE.CNT_FLUSH_COUNT).discard id pt
  { h1 with egOut := Tab.del pt h1.egOut }.irq 0x4A 0

/-! ### Ageing -/

/-- The AGE a packet would leave with now (R176). -/
def leavingAge (h : Hub) (p : Pkt) : Nat := min 255 (p.age + ceilDiv (h.now - p.tin) 1000)

/-- Whether a packet that has not started is past the limits of its class (R243). -/
def tooOld (h : Hub) (p : Pkt) : Bool :=
  let lim := h.rd AGE.CCFG_RESLIM_US 0 p.cls
  let age := h.rd AGE.CCFG_AGELIM 0 p.cls
  (lim != 0 && decide (h.now - p.tin > lim * 1000)) || (age != 255 && decide (h.leavingAge p > age))

/-- Packet `id` discarded for age at `pt` (R245). -/
def ageDrop (h : Hub) (id pt : Nat) (p : Pkt) : Hub :=
  let h1 := h.cnt AGE.CDROPS_COUNT 0 p.cls |>.cnt AGE.CNT_DROPS_COUNT |>.wr AGE.LASTDROP_TID p.tid
    |>.wr AGE.LASTDROP_CLASS p.cls |>.wr AGE.LASTDROP_POINT pt
  ((h1.raise 0x4A 0 { lo := some (p.tid + pt * 2 ^ 24) }).irq 0x4A 1).discard id pt

/-- The heads of queue `q` past their age discarded, one after another (R244). -/
def sweepQueue (h : Hub) (q : Nat) : Nat → Hub
  | 0 => h
  | n + 1 =>
    match h.queue q with
    | [] => h
    | id :: _ =>
      match h.pkt id with
      | none => ((h.purge (q / 16))).sweepQueue q n
      | some p =>
        if (p.tgts.any fun t => t.pt == q / 16 && t.started) || !h.tooOld p then h
        else (h.ageDrop id (q / 16) p).sweepQueue q n

/-- The age sweep (R244): the head of every non-empty queue. -/
def ageSweep (h : Hub) : Hub :=
  h.each (Tab.keys h.queues) fun q h => h.sweepQueue q (h.queue q).length

/-! ### Wipe -/

/-- The buffer cleared (R251): every cell, descriptor, queue and open-packet record, and the free lists rebuilt. -/
def clearBuffer (h : Hub) : Hub :=
  let h1 := { h with pkts := [], opens := [], queues := [], egOut := h.egOut.filter fun p => p.1 < 8 }
  let h2 := h1.wr SWB.FREE_COUNT 393216 |>.wr SWB.DESC_FREE 131072 |>.wr SWB.QENT_FREE 196608
    |>.wr SWB.hShared 0 |>.wr THR.HDUSE_CELLS 0 |>.wr MCR.INFLIGHT_COUNT 0
  let h3 := h2.each (List.range 64) fun b h => h.wr SWB.BSTAT_FREE 6144 0 b
  let h4 := h3.each (List.range 224) fun q h => h.wr THR.QSTAT_OCC 0 0 q |>.wr THR.hCharged 0 0 q
    |>.wr SCH.QSTAT_BACKLOG 0 (q / 16) (q % 16) |>.wr SCH.QSTAT_INPROG 0 (q / 16) (q % 16)
    |>.wr SCH.DEF_CELLS 0 (q / 16) (q % 16)
  h4.refreshThr

/-! ### Scrub -/

/-- One more cell of bank `b` visited; the pass ends when every cell of every bank has been (R252). The pass begins with its first
visit. -/
def scrubPass (h : Hub) (b : Nat) : Hub :=
  let h0 := h.when (!h.on SWB.hScrubStart) fun h => h.wr SWB.hScrubStart (h.cyc + 1)
  let h1 := h0.wr SWB.hScrubRow (min 6144 (h.rd SWB.hScrubRow 0 b + 1)) 0 b
  if (List.range 64).all fun b => h1.rd SWB.hScrubRow 0 b == 6144 then
    (h1.each (List.range 64) fun b h => h.wr SWB.hScrubRow 0 0 b).wr SWB.SCRUB_STAT_LAST_PASS_MS
        ((h.cyc + 1 - h1.rd SWB.hScrubStart) / 400000)
      |>.wr SWB.SCRUB_STAT_PASSES (h.rd SWB.SCRUB_STAT_PASSES + 1) |>.wr SWB.hScrubStart 0
  else h1

/-- The packet that holds cell `num`, and the cell. -/
def holder (h : Hub) (num : Nat) : Option (Nat × Pkt × PCell) :=
  h.pkts.findSome? fun p => (p.2.cells.find? fun c => c.num == num).map fun c => (p.1, p.2, c)

/-- The wrong bits of a held cell's first word set. -/
def setFlips (h : Hub) (num n : Nat) : Hub :=
  match h.holder num with
  | some (id, p, _) => h.setPkt id { p with cells := p.cells.map fun c => if c.num = num then { c with flips := n } else c }
  | none => h

/-- A word of cell `num` corrected (R249). -/
def corrected (num : Nat) (h : Hub) : Hub := (h.cnt SWB.CNT_CE_COUNT).wr SWB.CE_LAST_CELL num

/-- `flips` wrong bits found in a payload word of cell `num` (R249): one is corrected, and written back unless the cell was written or
freed meanwhile (R253); two make the word uncorrectable and poison the packet that holds the cell. -/
def scrubWord (h : Hub) (num flips : Nat) (writtenMeanwhile : Bool) : Hub :=
  if flips = 0 then h
  else if flips = 1 then (corrected num h).when (!writtenMeanwhile) fun h => h.setFlips num 0
  else
    let h1 := ((h.cnt SWB.CNT_UE_COUNT).raise 0x48 0 { lo := num }).when (!writtenMeanwhile) fun h => h.setFlips num flips
    match h1.holder num with
    | some x => h1.poisonPkt x.1
    | none => h1

/-- `link` wrong copies found of a word that is held twice, whose number is `lo` (R250, R255): a word lost in both copies strands the
packet that owns it, if one does. -/
def scrubLink (h : Hub) (num lo link : Nat) : Hub :=
  if link = 0 then h
  else if link = 1 then h.cnt SWB.CNT_LINK_CE_COUNT
  else
    let h1 := h.raise 0x48 1 { lo := lo }
    match h1.holder num with
    | some x => h1.strand x.1 x.2.1
    | none => h1

/-- What the scrub finds in the next cell of bank `b` (R249, R250, R252): by bits [1:0] of `found`, or as the model holds it for the
cell, wrong bits in a payload word; by bits [5:4], in the side word, which lost is one lost copy of the next-cell number that it
carries; by bits [3:2], wrong copies of the next-cell number, or of the free-list word of a free cell; by bits [7:6], of the
descriptor of the packet that holds the cell. That its operand names them so is the model's choice (log entry 134). A stranded
packet's cells are not read (R250). -/
def scrubRead (h : Hub) (b found : Nat) (writtenMeanwhile : Bool) : Hub :=
  let num := h.rd SWB.hScrubRow 0 b * 64 + b
  let owner := h.holder num
  if owner.any fun x => x.2.1.stuck then h
  else
    let kept := (owner.map fun x => x.2.2.flips).getD 0
    let side := bits found 4 2
    let h1 := h.scrubWord num (if bits found 0 2 = 0 then kept else bits found 0 2) writtenMeanwhile
    let h2 := h1.when (side == 1) (corrected num)
    let h3 := h2.scrubLink num num (max (bits found 2 2) (bnat (decide (2 ≤ side))))
    match owner with
    | some x => h3.scrubLink num (2 ^ 31 + x.2.1.desc) (bits found 6 2)
    | none => h3

end Hub

/-- AGE_SWEEP (R244). -/
def execAgeSweep (s : State) : Host.Outcome State Fault Refusal :=
  s.act fun h => h.when (h.up 0x4A) Hub.ageSweep

/-- Whether the scrub takes a slot of bank `b` (R252): an idle one, or in forced mode one per 1,024 foreground operations. A bank
whose every cell has been visited waits for the pass to end (log entry 134). -/
def Hub.scrubTakes (h : Hub) (b : Nat) (idle : Bool) : Bool :=
  decide (h.rd SWB.hScrubRow 0 b < 6144) && (idle || (h.on SWB.BSTAT_SCRUB_FORCED 0 b && decide (1024 ≤ h.rd SWB.hForeground 0 b)))

/-- SCRUB_SLOT (R252, R253): a slot of bank `bank` for the scrub, and what it finds. An idle slot ends forced mode. -/
def execScrubSlot (bank : Fin 64) (idle : Bool) (flips : Nat) (writtenMeanwhile : Bool) (s : State) :
    Host.Outcome State Fault Refusal :=
  s.act fun h => h.when (h.up 0x48 && h.on SWB.SCRUB_EN) fun h =>
    (h.when (h.scrubTakes bank idle) fun h =>
      ((h.wr SWB.hForeground 0 0 bank).scrubRead bank flips writtenMeanwhile).scrubPass bank).when idle fun h =>
        h.wr SWB.BSTAT_SCRUB_FORCED 0 0 bank

/-- SCRUB_FORCED_ENTRY (R252): a bank without an idle slot for 10 ms. -/
def execScrubForcedEntry (bank : Fin 64) (s : State) : Host.Outcome State Fault Refusal :=
  s.act fun h => h.when (h.up 0x48 && h.on SWB.SCRUB_EN) fun h =>
    (h.wr SWB.BSTAT_SCRUB_FORCED 1 0 bank).wr SWB.hForeground 0 0 bank

/-- BUFFER_WIPE_DONE (R251, R717): READY and WIPE_DONE are set; of pages reset together, each reports READY now. -/
def execBufferWipeDone (s : State) : Host.Outcome State Fault Refusal :=
  s.act fun h => h.when (h.on SWB.hWiping && h.domOn 2) fun h =>
    (((h.wr SWB.hWiping 0).wr HDR.PSTAT_READY 1 0x48 |>.wr HDR.hSrstBusy 0 0x48).each [0x49, 0x4A, 0x4B] fun pg h =>
      h.when (h.rd HDR.hSrstBusy pg == 2) fun h => h.wr HDR.PSTAT_READY 1 pg |>.wr HDR.hSrstBusy 0 pg).irq 0x48 0

/-- The effect of a write of `v` to THR.QCFG (R237, R240, R241, R256): refused under an invalid selection, an invalid
code or too large a RESV, else applied to the queue selected. -/
def Hub.qcfgWrite (h : Hub) (v : Nat) (c : Cap := {}) : Hub :=
  let q := queueOf (h.rd THR.QSEL_POINT) (h.rd THR.QSEL_CLASS)
  let a := bits v 0 4
  let resv := h.rd THR.RESV_CELLS - h.rd THR.QCFG_MIN 0 q + bits v 16 12
  if 224 ≤ q then h
  else if 11 ≤ a ∧ a ≤ 14 then
    (h.raise 0x49 2 c).when (decide (196608 < resv + h.rd THR.HEADROOM_CELLS)) fun h => h.raise 0x49 0 c
  else if 196608 < resv + h.rd THR.HEADROOM_CELLS then h.raise 0x49 0 c
  else (h.wr THR.QCFG_ALPHA a 0 q |>.wr THR.QCFG_Y_SHIFT (bits v 4 3) 0 q |>.wr THR.QCFG_R_SHIFT (bits v 8 3) 0 q
    |>.wr THR.QCFG_MIN (bits v 16 12) 0 q).refreshThr

/-- QCFG_WRITE (R240). -/
def execQcfgWrite (r : Req) (v : Nat) (s : State) : Host.Outcome State Fault Refusal :=
  s.act fun h => h.asReg r THR.QCFG_ALPHA 0 fun h => h.qcfgWrite v (Hub.regCap r THR.QCFG_ALPHA 0)

end Sys2Proof.Machine
end

