-- ==== Sys2Proof/Machine/Ingress.lean ====
section
/-! DEFINITION. A cell crossing into the core (R217): the header checks (R172 to R175), the tunnel lookup and the
node-routed route (R182 to R187), the twin merge (R203), the ingress meter (R303 to R305), admission (R231, R236) and
the write into a bank. -/

namespace Sys2Proof.Machine

/-- What the lookup decides for a packet (R183): every cell follows it. -/
structure Plan where
  cell : Cell
  age : Nat
  vc : Nat
  cls : Nat
  egress : Nat
  /-- The tunnel table entry, none for a node-routed packet. -/
  entry : Option Nat := none
  meter : Nat := 0x1FFF
  injected : Bool := false
  merge : Option Nat := none
  deriving DecidableEq, Repr

/-- Whether a cell breaks a header check of R174; `held` says that its virtual channel has a packet open. -/
def cellBad (c : Cell) (held : Bool) : Bool :=
  c.kind % 8 == 7 || c.colour % 4 == 3 || c.rsv != 0 || (!c.eop && c.fill != 0) || (c.poison && !c.eop) ||
    (c.dn && decide (0x4000 ≤ c.tid)) || c.tid == 0xFFFFF || (!c.twin && c.seq != 0) || (!c.sop && !held)

/-- The cells of a packet whose payload is `bs` (R171, R172). -/
def packetCells (tid kind vc : Nat) (poison : Bool) (bs : Bytes) : List Cell :=
  let n := ceilDiv bs.length 64
  (List.range n).map fun i =>
    let last := i + 1 == n
    { tid := tid, kind := kind, vc := vc, sop := i == 0, eop := last, poison := last && poison,
      fill := if last then bs.length % 64 else 0, payload := padTo 64 ((bs.drop (64 * i)).take 64) }

/-- The charge of a cell under a length mode and an overhead (R297), `sofar` bytes of its packet being charged. -/
def cellCharge (byteMode : Bool) (ovh : Int) (eop : Bool) (fill : Nat) (sofar : Int) : Int :=
  if !eop then 64
  else
    let c : Int := (if byteMode then (if fill = 0 then 64 else (fill : Int)) else 64) + ovh
    max c (-sofar)

namespace Hub

/-- The attachment through whose crossing FIFO a cell comes to ingress point `pt`, as R87 numbers them: a send stream uses the
display attachment of its number (R362). -/
def attachIn (h : Hub) (pt tid : Nat) : Nat :=
  if pt < 8 then pt
  else if pt = 8 then 8 + (((List.range 64).find? fun s => h.rd DTL.STID_TID 0 s == tid).getD 0) % 2
  else pt + 1

/-- The open-packet record that a cell belongs to: one for each virtual channel of an ingress point (R172, R213), and one for each
display attachment at point 8 (R239). -/
def openKey (h : Hub) (pt : Nat) (c : Cell) : Nat := pt * 4 + (if pt = 8 then h.attachIn pt c.tid - 8 else c.vc % 4)

/-! ### Lookup -/

/-- A packet counted as a kind mismatch (R182, R207). -/
def kindMismatch (h : Hub) (tid : Nat) : Hub := (h.cnt TUN.CNT_KIND_COUNT).raise 0x40 1 { lo := tid }

/-- The SOP cell of a CONTROL packet as the core takes it from the management CPU: SRC_NODE is the node's own ID
(R187). -/
def ownSource (h : Hub) (c : Cell) : Cell :=
  let p := padTo 64 c.payload
  let v := setBits (leAt p 2 2) 0 14 (h.rd CAS.NODEID_ID)
  { c with payload := p.take 2 ++ natLe 2 v ++ p.drop 4 }

/-- The route of a node-routed cell (R185): the egress point and DN, or the node with the discard counted. -/
def route (h : Hub) (pt : Nat) (c : Cell) : Hub ⊕ (Nat × Bool) :=
  let d := c.tid
  let noroute := Sum.inl ((h.cnt RTE.CNT_NOROUTE_COUNT).raise 0x41 1 { lo := d })
  let e0 := h.tword (0x440000 + 8 * d)
  let valid := e0.testBit 4 && bits (h.tword (0x440000 + 8 * d + 4)) 0 16 == h.rd RTE.GEN_CUR
  if !h.on CAS.NODEID_VALID && pt ≠ 13 then noroute
  else if h.on CAS.NODEID_VALID && d == h.rd CAS.NODEID_ID then .inr (13, c.dn)
  else if valid && e0.testBit 3 then (if h.portUp (e0 % 8) then .inr (e0 % 8, true) else noroute)
  else if c.dn then .inl ((h.cnt RTE.CNT_UPDOWN_COUNT).raise 0x41 0 { lo := d })
  else if h.on RTE.UPLINK_P_VALID && h.portUp (h.rd RTE.UPLINK_PRIMARY) then .inr (h.rd RTE.UPLINK_PRIMARY, c.dn)
  else if h.on RTE.UPLINK_S_VALID && h.portUp (h.rd RTE.UPLINK_SECONDARY) then .inr (h.rd RTE.UPLINK_SECONDARY, c.dn)
  else noroute

/-- The lookup of an SOP cell (R182, R185, R202): the node with its discard counted, or the packet's plan. -/
def lookup (h : Hub) (pt : Nat) (c0 : Cell) : Hub × Option Plan :=
  let c := if pt = 13 && c0.kind == 0 then h.ownSource c0 else c0
  let age := if 8 ≤ pt then 0 else c.age % 256
  if c.tid < 0x4000 then
    if c.kind ≠ 0 then (h.kindMismatch c.tid, none)
    else
      match h.route pt c with
      | .inl h' => (h', none)
      | .inr (e, dn) =>
        (h, some { cell := { c with dn := dn, colour := if pt = 13 then 0 else c.colour }, age := age, vc := 0, cls := 0,
                   egress := 2 ^ e })
  else
    match h.tunFind c.tid with
    | none => (h.cnt TUN.CNT_MISS_COUNT, none)
    | some i =>
      let e := h.tun i
      if e.state = 1 then (h.cnt TUN.CNT_PEND_COUNT, none)
      else if e.kind ≠ c.kind then (h.kindMismatch c.tid, none)
      else if !e.ingress.testBit pt then (h.cnt TUN.CNT_INGRESS_COUNT, none)
      else
        let inj := decide (8 ≤ pt) && e.source
        if inj && e.state == 3 then (h, none)
        else
          let stamp := inj && e.twin
          let c1 := if stamp then { c with twin := true, seq := e.txseq } else c
          let h1 := if stamp then h.setTfld (tunAddr i + 20) 16 16 (e.txseq + 1) else h
          (h1, some { cell := c1, age := age, vc := if e.vckeep then c.vc % 4 else e.vc, cls := e.qclass,
                      egress := if e.split then bits e.egress 0 8 else e.egress, entry := some i, meter := e.meter, injected := inj,
                      merge := if e.merge then some e.twnctx else none })

/-! ### Merge -/

/-- The merge of R203 and R211 at an SOP cell: the node, and the copy accepted, or none where it is discarded. -/
def mergeSop (h : Hub) (pt ctx : Nat) (c : Cell) : Hub × Option Copy :=
  let isA := pt == h.rd TWN.CCFG_PORT_A 0 ctx
  let isB := pt == h.rd TWN.CCFG_PORT_B 0 ctx
  if !h.on TWN.CCFG_ACTIVE 0 ctx then ((h.raise 0x69 0).cnt TUN.CNT_HDR_COUNT, none)
  else if !isA && !isB then (h.cnt TUN.CNT_INGRESS_COUNT, none)
  else if !c.twin then (h.cnt TUN.CNT_HDR_COUNT, none)
  else
    let d := (c.seq + 65536 - h.rd TWN.CSTAT_HIGH 0 ctx) % 65536
    let h1 := h.pathDelivers ctx (!isA)
    if !h.on TWN.CSTAT_INPROG 0 ctx && (h.on TWN.CSTAT_FIRST 0 ctx || (1 ≤ d && d ≤ 32767)) then
      (h1.wr TWN.CSTAT_INPROG 1 0 ctx, some { ctx := ctx, pathB := !isA, seq := c.seq % 65536 })
    else (h1.cnt TWN.CNT_STALE_COUNT 0 ctx, none)

/-- An accepted copy that is discarded before a cell of it is written (R203). -/
def copyDrop (h : Hub) (c : Option Copy) : Hub :=
  match c with
  | some c => h.wr TWN.CSTAT_INPROG 0 0 c.ctx
  | none => h

/-! ### Metering -/

/-- The colour a meter gives a packet (R304). -/
def meterColour (h : Hub) (m arriving : Nat) : Nat :=
  let b := h.meterNow m
  let aware := h.on MTR.MCFG_AWARE 0 m
  if aware && arriving == 2 then 2
  else if aware && arriving == 1 then (if 0 < b.tp then 1 else 2)
  else if b.tp ≤ 0 then 2
  else if 0 < b.tc then 0
  else 1

/-- The ingress meter at an SOP cell (R303, R305): the node with the colour counted, and the colour, or none where a
red packet is discarded. -/
def meterSop (h : Hub) (pt : Nat) (p : Plan) : Hub × Option Nat :=
  let k := h.meterColour p.meter (if 8 ≤ pt then 0 else p.cell.colour)
  let h1 := h.cnt (if k = 0 then MTR.MCNT_G_COUNT else if k = 1 then MTR.MCNT_Y_COUNT else MTR.MCNT_R_COUNT) 0 p.meter
  if p.entry = none then (h, some p.cell.colour)
  else if p.meter = 0x1FFF then
    if p.injected then (h.cnt MTR.CNT_UNMET_COUNT, some (if p.cell.kind = 0 then 0 else 1)) else (h, some p.cell.colour)
  else
    if k = 2 && h.on MTR.MCFG_RED_DROP 0 p.meter then
      (((h1.cnt MTR.MCNT_DROP_COUNT 0 p.meter).cnt MTR.CNT_DROP_COUNT).irq 0x60 0, none)
    else (h1, some k)

/-- The charge of one written cell of packet `id` to its meter (R297, R304), in the mode in which the packet was coloured (R311). -/
def meterCharge (h : Hub) (id : Nat) (eop : Bool) (fill : Nat) : Hub :=
  match h.pkt id with
  | none => h
  | some p =>
    if p.meter = 0x1FFF then h
    else
      let c := cellCharge p.mByte p.mOvh eop fill p.mbytes
      let b := h.meterNow p.meter
      let b' : Meter := if p.colour = 0 then { b with tc := b.tc - c * 32, tp := b.tp - c * 32 }
        else if p.colour = 1 then { b with tp := b.tp - c * 32 } else b
      (h.setPkt id { p with mbytes := p.mbytes + c }).meterSet p.meter b'

/-! ### The SOP cell -/

/-- Every packet's first cell refused at `ts`, counted where R218, R231 and R233 say. -/
def refuseAll (h : Hub) (multi : Bool) (ts : List Nat) : Hub :=
  h.when multi fun h => (h.cnt MCR.CNT_NONE_COUNT).cntN MCR.CNT_TREFUSE_COUNT ts.length

/-- The targets of a plan tested against their queues (R231, R236): each refusal is counted. -/
def admitTargets (h : Hub) (k cls : Nat) (ts : List Nat) : Hub × List Nat :=
  let ok := ts.filter fun t => h.admits k (queueOf t cls)
  (h.each (ts.filter fun t => !h.admits k (queueOf t cls)) fun t h =>
    h.cnt THR.QDROP_COUNT 0 (queueOf t cls) |>.cnt THR.CNT_REFUSE_COUNT, ok)

/-- Steps 3 to 5 of R217 from the meter on: the packet is coloured, admitted and begun with its SOP cell. The answer
is its descriptor number, or none where it is discarded or refused at every target. -/
def takeIn (h : Hub) (pt : Nat) (par : Bool) (p : Plan) : Hub × Option Nat :=
  match h.meterSop pt p with
  | (h1, none) => (h1, none)
  | (h1, some k) =>
    let all := pointsOf p.egress
    let ts := if 1 < all.length then all.filter (· != pt) else all
    let multi := decide (1 < ts.length)
    let h2 := h1.cntN MCR.CNT_REFLECT_COUNT (all.length - ts.length)
    let (h3, ok) := h2.admitTargets k p.cls ts
    if ok.isEmpty then (h3.refuseAll multi ts, none)
    else if h3.rd SWB.DESC_FREE = 0 ∨ h3.rd SWB.QENT_FREE < ok.length then
      (((h3.cnt SWB.CNT_NODESC_COUNT).raise 0x48 2).refuseAll multi ts, none)
    else if h3.rd SWB.FREE_COUNT = 0 then
      (((h3.cnt SWB.CNT_TRUNC_COUNT).raise 0x48 3).refuseAll multi ts, none)
    else
      let id := h3.pktNext
      let arrivedBad := p.cell.eop && p.cell.poison
      let taken := h3.pkts.map fun q => q.2.desc
      let (v, h3) := h3.free
      let d : Pkt :=
        { desc := freeFrom taken 131072 v taken.length, mByte := h3.on MTR.MCFG_LMODE 0 p.meter,
          mOvh := toSigned 8 (h3.rd MTR.MCFG_OVH 0 p.meter), tid := p.cell.tid, kind := p.cell.kind, vc := p.vc, dn := p.cell.dn, twin := p.cell.twin, seq := p.cell.seq,
          colour := k, cls := p.cls, ingress := pt, tin := h3.now, age := p.age, multi := multi, nq := ok.length,
          chargeQ := queueOf (ok.headD 0) p.cls, meter := if p.entry = none then 0x1FFF else p.meter,
          poison := arrivedBad || par,
          tgts := ok.map fun t => { pt := t, ct := h3.cutThrough pt t (arrivedBad || par) } }
      let h4 := { h3 with pktNext := id + 1 }.setPkt id d |>.wr SWB.DESC_FREE (h3.rd SWB.DESC_FREE - 1)
        |>.wr SWB.QENT_FREE (h3.rd SWB.QENT_FREE - ok.length)
      let h5 := h4.when (par && !arrivedBad) fun h => h.cnt SWB.CNT_POISON_COUNT
      let h6 := h5.when multi fun h =>
        (((h.cnt MCR.CNT_PKT_COUNT).cntN MCR.CNT_COPY_COUNT ok.length).cntN MCR.CNT_TREFUSE_COUNT
          (ts.length - ok.length)).wr MCR.INFLIGHT_COUNT (h.rd MCR.INFLIGHT_COUNT + 1)
      let h7 := ((h6.wr MCR.INFLIGHT_PEAKREF (max (h6.rd MCR.INFLIGHT_PEAKREF) ok.length)).writeCell id p.cell).meterCharge id p.cell.eop p.cell.fill
      let h8 := h7.each ok fun t h => h.setQueue (queueOf t p.cls) (h.queue (queueOf t p.cls) ++ [id])
      (if p.cell.eop then h8.completePkt id else h8, some id)

/-- The cells of a packet counted in the entry that its lookup found (R180). -/
def countCell (h : Hub) (o : OpenPk) : Hub :=
  match o.entry with
  | some i => h.setTword (tunAddr i + 24) ((h.tword (tunAddr i + 24) + 1) % 2 ^ 32)
  | none => h

/-- An accepted copy's end at the EOP cell of its packet (R203). -/
def copyEop (h : Hub) (o : OpenPk) (poison : Bool) : Hub :=
  match o.copy with
  | none => h
  | some c =>
    let bad := poison || o.bad || (match o.id.bind h.pkt with | some p => p.poison | none => false)
    h.copyEnd c bad

/-- An SOP cell begins a packet (R217 step 3). -/
def sopCell (h : Hub) (pt : Nat) (par : Bool) (c : Cell) : Hub :=
  let k := h.openKey pt c
  let (h1, plan) := h.lookup pt c
  let (h2, copy, id) : Hub × Option Copy × Option Nat :=
    match plan with
    | none => (h1, none, none)
    | some p =>
      match p.merge with
      | none => let (h', id) := h1.takeIn pt par p; (h', none, id)
      | some ctx =>
        match h1.mergeSop pt ctx p.cell with
        | (h', none) => (h', none, none)
        | (h', some cp) =>
          match h'.takeIn pt par p with
          | (h'', some id) => (h'', some cp, some id)
          | (h'', none) => (h''.copyDrop (some cp), none, none)
  let o : OpenPk := { id := id, tid := c.tid, n := 1, entry := if c.tid < 0x4000 then none else h.tunFind c.tid, copy := copy,
                      bad := par }
  let h3 := h2.countCell o
  if c.eop then h3.copyEop o c.poison else { h3 with opens := Tab.ins k o h3.opens }

/-! ### Every other cell -/

/-- A further cell of the packet open in record `k` (R173, R219, R242). Of a stranded packet none is written (R250). -/
def nextCell (h : Hub) (k : Nat) (par : Bool) (c : Cell) (o : OpenPk) : Hub :=
  let n := o.n + 1
  let long := n == 512 && !c.eop
  let h1 := if long then (h.cnt TUN.CNT_PKTLEN_COUNT).raise 0x40 5 else h
  let h2 := h1.countCell o
  let eop := c.eop || long
  let held := (o.id.bind h2.pkt).filter fun p => !p.stuck
  let cut := held.isSome && h2.rd SWB.FREE_COUNT == 0
  let o' := { o with n := n, bad := o.bad || par || long || cut }
  let h3 := match o.id, held with
    | some id, some p =>
      if cut then ((h2.cnt SWB.CNT_TRUNC_COUNT).raise 0x48 3).endEarly id
      else
        let arrivedBad := c.eop && c.poison
        let h4 := h2.when ((par || long) && !arrivedBad) fun h => h.poisonPkt id
        let h5 := h4.when (arrivedBad && !p.poison) fun h => h.setPkt id { p with poison := true }
        let h6 := (h5.writeCell id c).meterCharge id eop c.fill
        if eop then h6.completePkt id else h6
    | _, _ => h2
  let h4 := if eop then h3.copyEop o' c.poison else h3
  let o'' := if long then { o' with long := true, id := none, copy := none }
    else if cut then { o' with id := none } else o'
  { h4 with opens := if c.eop then Tab.del k h4.opens else Tab.ins k o'' h4.opens }

/-- One cell at ingress point `pt` (R217): the FIFO's parity (R80), the checks of R174 and R175, and then the SOP or a
further cell of the open packet. -/
def cellIn (h : Hub) (pt : Nat) (parityErr : Bool) (c : Cell) : Hub :=
  let a := h.attachIn pt c.tid
  let par := parityErr || h.bit FIL.hParity a
  let h1 := h.when par fun h => (h.wrBit FIL.hParity a false).raise 2 4 { lo := a }
  let k := h.openKey pt c
  let o := Tab.find k h1.opens
  let long := match o with | some o => o.long | none => false
  if cellBad c o.isSome then
    ((h1.cnt TUN.CNT_HDR_COUNT).raise 0x40 2).when (!long) fun h => h.closeOpen k
  else
    match o with
    | none => h1.sopCell pt par c
    | some o =>
      if o.long then (if c.sop then { h1 with opens := Tab.del k h1.opens }.sopCell pt par c else h1)
      else if c.sop || c.tid ≠ o.tid then
        let h2 := (h1.cnt TUN.CNT_ABORT_COUNT).closeOpen k
        if c.sop then h2.sopCell pt par c else h2
      else h1.nextCell k par c o

/-- The credit of a tunnel cell at a port is freed once the buffer has taken or discarded it (R151). -/
def freeCredit (h : Hub) (pt vc : Nat) : Hub :=
  h.when (decide (pt < 8)) fun h =>
    (h.wr OPT.hFreed (h.rd OPT.hFreed pt (vc % 4) + 1) pt (vc % 4)).wr OPT.hHeld (h.rd OPT.hHeld pt (vc % 4) - 1) pt
      (vc % 4)

/-- Whether ingress point `pt` may offer cells to the core: the core runs and is not being wiped (R67, R251), every block that a
cell passes on its way into the buffer accepts work (R717, log entry 147), an Ocael port is UP (R221), and a local block's clock runs
(R82). -/
def mayEnter (h : Hub) (pt : Nat) : Bool :=
  [0x40, 0x41, 0x48, 0x49, 0x4B, 0x60, 0x69].all h.up && (if pt < 8 then h.portUp pt else h.islandRuns (pt + 1))

/-- Cells that the FIFO of ingress point `pt` toward the core holds (R79): 32 for each of the two display attachments. -/
def inDepth (pt : Nat) : Nat := if pt = 8 then 64 else fifoDepth (pt + 1)

/-- Whether the FIFO of ingress point `pt` toward the core is not full (R79). What stands behind a full one in `stalled` is still the
block's, which stalls. -/
def roomIn (h : Hub) (pt : Nat) : Bool := decide ((Tab.get [] pt h.stalled).length < inDepth pt)

/-- The cells held back at ingress point `pt` cross into the core as soon as it takes cells again (R67, R251). -/
def feed (pt : Nat) (h : Hub) : Hub :=
  let cs := Tab.get [] pt h.stalled
  h.when (h.mayEnter pt && !cs.isEmpty) fun h => { h with stalled := Tab.del pt h.stalled }.each cs fun c h => h.cellIn pt false c

/-- Cells offered to the core at ingress point `pt`, behind those held back there (R217). -/
def inject (h : Hub) (pt : Nat) (cs : List Cell) : Hub :=
  { h with stalled := Tab.put [] pt (Tab.get [] pt h.stalled ++ cs) h.stalled }.feed pt

/-- Whether a cell of `vc` waits that the link layer has taken and released (R151, R152, R165): one of a frame accepted within its
credit and, under encryption, of a span whose tag was checked. -/
def released (h : Hub) (pt vc : Nat) : Bool := 8 ≤ pt || h.on OPT.hHeld pt (vc % 4)

end Hub

/-- CELL_INGRESS (R151, R165, R217): from an encrypted port comes only a cell that a checked span has released. -/
def execCellIngress (pt : Fin 14) (parityErr : Bool) (c : Cell) (s : State) : Host.Outcome State Fault Refusal :=
  s.act fun h => h.when (h.mayEnter pt && h.released pt c.vc) fun h => (h.cellIn pt parityErr c).freeCredit pt c.vc

end Sys2Proof.Machine
end

