-- ==== Sys2Proof/Machine/Egress.lean ====
section
/-! DEFINITION. Egress (chapter 9): candidates, tiers, the weighted counters, age priority, the per-queue shapers, the
calendar wheel, and the reading of a cell out of the buffer. -/

namespace Sys2Proof.Machine

/-- What the scheduler knows of one class's head packet at a selection. -/
structure Head where
  cls : Nat
  id : Nat
  pkt : Pkt
  tgt : Tgt
  deriving DecidableEq, Repr

/-! ### Ethernet frames -/

/-- One bit shifted through the reflected polynomial of the CRC-32 of IEEE 802.3. -/
def fcsBit (c : Nat) : Nat := if c % 2 = 1 then (c / 2) ^^^ 0xEDB88320 else c / 2

/-- The frame check sequence of IEEE 802.3 over `bs`, as the four bytes that follow them. -/
def fcs (bs : Bytes) : Bytes :=
  natLe 4 ((bs.foldl (fun c b => Nat.repeat fcsBit 8 (c ^^^ b.toNat)) 0xFFFFFFFF) ^^^ 0xFFFFFFFF)

/-- The bytes of a frame with an outer tag pushed (R459). -/
def tagged (tpid pcp vid : Nat) (bs : Bytes) : Bytes :=
  bs.take 12 ++ (natLe 2 tpid).reverse ++ (natLe 2 (pcp * 8192 + vid)).reverse ++ bs.drop 12

namespace Hub

/-! ### The wheel -/

/-- The wheel pointer enters its next slot (R299, R300): the queues entered there become allowed, and at slot 0 the
overflow entries that are now near move to their slots. -/
def wheelStep (h : Hub) (e : Nat) : Hub :=
  let pos := (h.rd SCH.WHEEL_POS e + 1) % 1024
  let h1 := (h.wr SCH.WHEEL_POS pos e).each (List.range 16) fun c h =>
    h.when (h.on SCH.QSTAT_WHEEL e c && h.rd SCH.NETSLOT_SLOT e c == pos) fun h => h.wr SCH.QSTAT_WHEEL 0 e c
  if pos = 0 then
    h1.each (List.range 16) fun c h =>
      h.when (h.on SCH.QSTAT_OVERFLOW e c && decide (h.rd SCH.hNet e c < h.now + 1023 * h.slotNs e)) fun h =>
        h.wheelEnter e c (h.rd SCH.hNet e c)
  else h1

/-- The commit point of a scheduler page (R296, R298, R308): TOKENS is brought up to date first; a queue that becomes
STRICT leaves DEF at 0; TOKENS fills where RATE rises from 0. -/
def schCommit (h : Hub) (e : Nat) : Hub :=
  if h.on HDR.PSTAT_CPEND (0x50 + e) then
    let h1 := h.each (List.range 16) fun c h => h.shaperSet e c (h.shaperNow e c)
    let h2 := h1.commitPage (0x50 + e)
    h2.each (List.range 16) fun c h' =>
      let h3 := h'.when (h'.on SCH.QMODE_STRICT e c) fun h => h.wr SCH.DEF_CELLS 0 e c
      if h1.rd SCH.SHAPE_RATE e c = 0 && h3.rd SCH.SHAPE_RATE e c != 0 then
        h3.shaperSet e c { tok := h3.burst e c, at_ := h3.cyc }
      else h3.shaperSet e c (h3.shaperNow e c)
  else h

/-- Whether egress point `e` makes no selection, so that the default commit point applies (R308). -/
def noSelection (h : Hub) (e : Nat) : Bool := !h.on HDR.PCTL_EN (0x50 + e) || (decide (e < 8) && !h.portUp e)

/-! ### The Ethernet MACs -/

/-- The MAC and entry whose ETID is `tid` (R459). -/
def ethMatch (h : Hub) (tid : Nat) : Option (Nat × Nat) :=
  (List.range (2 * 4095)).findSome? fun k =>
    if h.on ETH.VMAP_A_EN (k / 4095) (k % 4095) && h.rd ETH.VMAP_B_ETID (k / 4095) (k % 4095) == tid then
      some (k / 4095, k % 4095) else none

/-- The time that MAC `m` takes to send a byte, in units of 0.02 ns (R453). -/
def byteTime (h : Hub) (m : Nat) : Nat := if h.on ETH.CFG_SPEED m then 16 else 40

/-- Bytes free in the transmit buffer of MAC `m` (R460). -/
def macFree (h : Hub) (m : Nat) : Nat :=
  20480 - (ceilDiv (h.rd ETH.hDry m - h.cyc * 125) (h.byteTime m) + h.rd ETH.hWait m)

/-- `n` bytes of a frame put into the transmit buffer of MAC `m` (R460): sending starts with 512 bytes, or with all of it; a frame is
followed by the gap and the preamble of the next. -/
def macPut (h : Hub) (m n : Nat) (eop : Bool) : Hub :=
  let w := h.rd ETH.hWait m + n
  if h.on ETH.hBegun m || eop || 512 ≤ w then
    h.wr ETH.hDry (max (h.rd ETH.hDry m) (h.cyc * 125) + (w + if eop then 20 else 0) * h.byteTime m) m
      |>.wr ETH.hWait 0 m |>.wr ETH.hBegun (bnat !eop) m
  else h.wr ETH.hWait w m

/-! ### Candidates -/

/-- The credit a port holds toward its partner on a virtual channel (R150). -/
def credFld (vc : Nat) : Fld :=
  if vc = 0 then OPT.TXCRED_A_VC0 else if vc = 1 then OPT.TXCRED_A_VC1 else if vc = 2 then OPT.TXCRED_B_VC2
  else OPT.TXCRED_B_VC3

/-- The head packets of point `e`, by class. -/
def heads (h : Hub) (e : Nat) : List Head :=
  (List.range 16).filterMap fun c =>
    match h.queue (queueOf e c) with
    | [] => none
    | id :: _ =>
      match h.pkt id with
      | none => none
      | some p => (p.tgts.find? fun t => t.pt == e).map fun t => ⟨c, id, p, t⟩

/-- Whether the head's next cell has been written (R222, R225, R227). -/
def nextReady (x : Head) : Bool :=
  (x.tgt.ct || x.pkt.complete || x.tgt.started) &&
    (decide (x.tgt.read < x.pkt.cells.length) || (x.pkt.early && x.pkt.complete))

/-- Whether point `e` can take a new packet from the head (R292). -/
def canStart (e : Nat) (hs : List Head) (x : Head) : Bool :=
  let busy := hs.filter fun y => y.tgt.started
  if e < 8 then !busy.any fun y => y.pkt.vc == x.pkt.vc
  else if e = 8 then decide (busy.length < 2)
  else busy.isEmpty

/-- The attachment that the head's cells leave by at egress point 8 (R292): attachment 0 first where both are free. -/
def nextAttach (h : Hub) (e : Nat) (x : Head) : Nat :=
  if x.tgt.started then x.tgt.attach
  else if (h.heads e).any fun y => y.tgt.started && y.tgt.attach == 0 then 1 else 0

/-- The number of an egress point's attachment, as R87 has it. -/
def attachOf (e a : Nat) : Nat := if e < 8 then e else if e = 8 then 8 + a else e + 1

/-- Whether the block behind point `e` takes the head's next cell: its FIFO does (R79, R81), and at the Ethernet block the packet's
MAC runs and has MAXLEN bytes free (R460). -/
def taken (h : Hub) (e : Nat) (x : Head) : Bool :=
  e < 8 || (h.fifoTakes (attachOf e (h.nextAttach e x)) &&
    (e != 10 ||
      match h.ethMatch x.pkt.tid with
      | some (m, _) => !h.bit CLK.hStopping (7 + m) && decide (h.rd ETH.CFG_MAXLEN m ≤ h.macFree m)
      | none => true))

/-- Whether the head is a candidate (R291). -/
def isCand (h : Hub) (e : Nat) (hs : List Head) (x : Head) : Bool :=
  (8 ≤ e || h.on (credFld x.pkt.vc) e) && h.taken e x &&
  (x.tgt.started || h.rd SCH.SHAPE_RATE e x.cls == 0 ||
    (!h.on SCH.QSTAT_WHEEL e x.cls && !h.on SCH.QSTAT_OVERFLOW e x.cls)) &&
  nextReady x && (x.tgt.started || canStart e hs x)

/-- The candidates of a selection (R291). At egress point 8 a free attachment is offered first: the queue in progress on the
other attachment offers nothing to it (R292). -/
def cands (h : Hub) (e : Nat) (hs : List Head) : List Head :=
  let cs := hs.filter (h.isCand e hs)
  if e == 8 && cs.any fun x => !x.tgt.started then cs.filter fun x => !x.tgt.started else cs

/-- The AGE the head leaves with: fixed once it has started (R176). -/
def headAge (h : Hub) (x : Head) : Nat := if x.tgt.started then x.tgt.age else h.leavingAge x.pkt

/-- Whether the head is aged (R295). -/
def isAged (h : Hub) (e : Nat) (x : Head) : Bool :=
  h.rd SCH.AGEPRI_US e != 0 && decide (h.rd SCH.AGEPRI_US e ≤ h.headAge x)

/-- The status bits of queue `c` of the point that follow its head packet (R309). -/
def showHead (h : Hub) (e c : Nat) (x : Option Head) : Hub :=
  let is (f : Head → Bool) : Nat := bnat (x.any f)
  h.wr SCH.QSTAT_NOCREDIT (is fun x => decide (e < 8) && !h.on (credFld x.pkt.vc) e) e c
    |>.wr SCH.QSTAT_INPROG (is fun x => x.tgt.started) e c |>.wr SCH.QSTAT_AGED (is (h.isAged e)) e c

/-- The status bits of every queue of the point at a selection (R309). -/
def showHeads (h : Hub) (e : Nat) (hs cs : List Head) : Hub :=
  h.each (List.range 16) fun c h =>
    (h.wr SCH.QSTAT_CAND (bnat (cs.any fun y => y.cls == c)) e c).showHead e c (hs.find? fun x => x.cls == c)

/-! ### The choice -/

/-- DEF of a queue (R294). -/
def defOf (h : Hub) (e c : Nat) : Int := toSigned 32 (h.rd SCH.DEF_CELLS e c)

/-- WEIGHT of a queue; 0 reads as 1. -/
def weight (h : Hub) (e c : Nat) : Nat := max 1 (h.rd SCH.QMODE_WEIGHT e c)

/-- The rounds of R294 that a queue needs until its DEF is above 0. -/
def roundsFor (h : Hub) (e c : Nat) : Nat :=
  if 0 < h.defOf e c then 0 else (-(h.defOf e c)).toNat / (4 * h.weight e c) + 1

/-- The loop of R294 over the candidates `cs`: as many rounds as the first of them needs, to every WEIGHTED queue of
the point with a packet queued. -/
def addRounds (h : Hub) (e : Nat) (cs : List Head) : Hub :=
  let k := cs.foldl (fun m x => min m (h.roundsFor e x.cls)) (2 ^ 32)
  if k = 0 ∨ cs.isEmpty then h
  else
    h.each (List.range 16) fun c h =>
      h.when (!h.on SCH.QMODE_STRICT e c && !(h.queue (queueOf e c)).isEmpty) fun h =>
        h.wr SCH.DEF_CELLS (ofSigned 32 (min (h.defOf e c + (k * (4 * h.weight e c) : Nat)) (4 * h.weight e c : Nat))) e c

/-- The element of a list with the highest measure, the first on a tie. -/
def best {α : Type} (f : α → Int) : List α → Option α
  | [] => none
  | x :: l =>
    match best f l with
    | none => some x
    | some y => if f x < f y then some y else some x

/-- The tier and the head that a selection takes (R293, R294), with DEF brought forward for tiers 4 and 5. -/
def choose (h : Hub) (e : Nat) (cs : List Head) : Hub × Option (Nat × Head) :=
  match (if e < 8 then cs.find? fun x => x.pkt.vc == 0 else none) with
  | some x => (h, some (1, x))
  | none =>
    match cs.find? fun x => h.on SCH.QMODE_STRICT e x.cls with
    | some x => (h, some (2, x))
    | none =>
      match (if h.rd SCH.hAgedGap e = 0 then best (fun x => (h.headAge x : Int)) (cs.filter (h.isAged e)) else none) with
      | some x => (h, some (3, x))
      | none =>
        let green := cs.filter fun x => x.pkt.colour == 0
        let set := if green.isEmpty then cs else green
        let h1 := h.addRounds e set
        (h1, (best (fun x => h1.defOf e x.cls) set).map fun x => (if green.isEmpty then 5 else 4, x))

/-! ### Reading a cell -/

/-- The header of a cell of packet `p` as it leaves (R171, R176, R227). -/
def cellOut (p : Pkt) (age : Nat) (sop eop poison : Bool) (fill : Nat) (data : Bytes) : Cell :=
  { tid := p.tid, kind := p.kind, dn := p.dn, vc := p.vc, colour := p.colour, sop := sop, eop := eop, poison := poison,
    twin := p.twin, seq := p.seq, fill := fill, age := age, payload := data }

/-- A cell's payload read (R249): one wrong bit is corrected and counted, two poison the packet and leave the word's
contents open. -/
def readCell (h : Hub) (id : Nat) (c : PCell) : Hub × Bytes :=
  if c.flips = 0 then (h, c.data)
  else if c.flips = 1 then (corrected c.num h, c.data)
  else
    let (w, h1) := h.free
    (((h1.cnt SWB.CNT_UE_COUNT).raise 0x48 0 { lo := c.num }).poisonPkt id, natLe 8 w ++ c.data.drop 8)

/-- A cell of queue `x.cls` of point `e` counted as sent: on a port with its frame, elsewhere into the crossing FIFO (R309). -/
def countSent (e : Nat) (x : OutCell) (h : Hub) : Hub :=
  ((h.cnt SCH.QCELLS_COUNT e x.cls).cnt
    (if x.cell.colour = 0 then SCH.CNT_GREEN_COUNT else if x.cell.colour = 1 then SCH.CNT_YELLOW_COUNT else SCH.CNT_RED_COUNT) e).when
      x.cell.eop fun h => h.cnt SCH.QPKTS_COUNT e x.cls

/-- What follows a cell taken from queue `x.cls` of point `e`: the weighted counter and the shaper (R294, R296). `last` says that the
packet has ended at this target, `shaped` that its queue was shaped when it started (R308). -/
def afterCell (h : Hub) (e : Nat) (x : Head) (charge : Int) (shaped last : Bool) : Hub :=
  let c := x.cls
  let h1 := h.when (!h.on SCH.QMODE_STRICT e c && !(h.queue (queueOf e c)).isEmpty) fun h =>
    h.wr SCH.DEF_CELLS (ofSigned 32 (h.defOf e c - 1)) e c
  let h2 := h1.when shaped fun h =>
    let b := h.shaperNow e c
    h.shaperSet e c { b with tok := b.tok - charge * 32 }
  if last then h2.shaperEnd e c else h2

/-- A change of the target of packet `id` at point `e`. -/
def mapTgt (h : Hub) (id e : Nat) (f : Tgt → Tgt) : Hub :=
  match h.pkt id with
  | some p => h.setPkt id { p with tgts := p.tgts.map fun (t : Tgt) => if t.pt = e then f t else t }
  | none => h

/-- The entry in the FIFO to attachment `a` takes the parity error that is due, if one is (R80, R655): its packet is poisoned. -/
def fifoParity (h : Hub) (a id : Nat) : Hub :=
  h.when (h.bit FIL.hParity a) fun h => (((h.wrBit FIL.hParity a false).raise 2 4 { lo := a }).poisonPkt id)

/-- A cell of class `cls` put to the output of point `e`: at a port a credit is spent (R150), elsewhere it stands in the crossing FIFO
of attachment `a` and is counted (R79, R309), and at the Ethernet block its bytes go to the packet's MAC (R460). A node-routed cell is
counted (R208). -/
def output (h : Hub) (e a cls : Nat) (c : Cell) : Hub :=
  let h1 := { h with egOut := Tab.put [] e (Tab.get [] e h.egOut ++ [({ cls := cls, cell := c } : OutCell)]) h.egOut }
  let h2 := if e < 8 then h1.wr (credFld c.vc) (h1.rd (credFld c.vc) e - 1) e
    else countSent e ⟨cls, c⟩ (h1.wr FIL.hFifo (h1.rd FIL.hFifo 0 a + 1) 0 a)
  let h3 := if e = 10 then
      match h2.ethMatch c.tid with
      | some (m, _) => h2.macPut m (if c.eop && c.fill != 0 then c.fill else 64) c.eop
      | none => h2
    else h2
  if c.tid < 0x4000 then
    if e < 8 then h3.cnt RTE.CNT_ROUTED_COUNT else if e = 13 then h3.cnt RTE.CNT_LOCAL_COUNT else h3
  else h3

/-- The chosen head's next cell read out, put to the egress point's output, and its effects made. The target has started
before the cell is read, so that an error found in it leaves the packet to it (R229). -/
def emit (h : Hub) (e : Nat) (x : Head) : Hub :=
  let started := x.tgt.started
  let age := h.headAge x
  let byteMode := if started then x.tgt.byteMode else h.on SCH.SHCFG_LMODE e x.cls
  let ovh := if started then x.tgt.ovh else toSigned 8 (h.rd SCH.SHCFG_OVH e x.cls)
  let shaped := if started then x.tgt.shaped else h.on SCH.SHAPE_RATE e x.cls
  let alone := e == 9 && !started && x.pkt.poison
  let tail := decide (x.pkt.cells.length ≤ x.tgt.read)
  let attach := h.nextAttach e x
  let h0 := (h.mapTgt x.id e fun t => { t with started := true, read := t.read + 1, age := age, attach := attach, shaped := shaped,
                                                byteMode := byteMode, ovh := ovh }).fifoParity
    (attachOf e attach) x.id
  let (h1, data, fill) : Hub × Bytes × Nat :=
    match x.pkt.cells[x.tgt.read]? with
    | some pc => let (h', d) := h0.readCell x.id pc; (h'.bankOp (pc.num % 64), d, pc.fill)
    | none => (h0, List.replicate 64 0, 0)
  let poison := match h1.pkt x.id with | some p => p.poison | none => x.pkt.poison
  let lastCell := x.tgt.read + 1 == x.pkt.cells.length
  let eop := alone || tail ||
    (lastCell && x.pkt.complete && (!x.pkt.early || x.pkt.cells.length == 1 && !started))
  let out := cellOut x.pkt age (!started) eop (eop && poison) (if eop && !alone then fill else 0) data
  let charge := cellCharge (byteMode && !tail) ovh eop out.fill x.tgt.charge
  let h2 := (h1.mapTgt x.id e fun t => { t with charge := t.charge + charge }).output e (attachOf e attach) x.cls out
  (h2.wr SCH.QSTAT_INPROG (bnat !eop) e x.cls).when eop (fun h => h.leave x.id e) |>.afterCell e x charge shaped eop

/-- The cells of the last packet in a list of cells read out. -/
def lastPacket (l : List Cell) : List Cell := l.foldl (fun acc c => if c.sop then [c] else acc ++ [c]) []

/-- The Ethernet egress finds the next cell of its frame not written when the MAC has sent every byte it held (R225):
the frame ends with a stomped FCS (R461), and the packet's remaining cells are discarded for this target. -/
def underrun (h : Hub) (hs : List Head) : Hub :=
  match hs.find? fun x => x.tgt.started && !nextReady x with
  | none => h
  | some x =>
    match h.ethMatch x.pkt.tid with
    | none => h
    | some (m, v) =>
      h.when (h.on ETH.hBegun m && decide (h.rd ETH.hDry m ≤ h.cyc * 125)) fun h =>
        let fr := (lastPacket ((Tab.get [] 10 h.egOut).map (·.cell))).flatMap fun c => padTo 64 c.payload
        let body := if h.on ETH.VMAP_A_STRIP m v then tagged (h.rd ETH.TPID_TPID m) (h.rd ETH.VMAP_A_PCP m v) v fr else fr
        let h1 := ({ h with ethOut := Tab.put [] m (Tab.get [] m h.ethOut ++ [body ++ (fcs body).map fun b => ~~~b]) h.ethOut }.cnt
          ETH.CNT_TXSTOMP_COUNT m).wr ETH.hBegun 0 m
        (h1.cnt SWB.CNT_UNDERRUN_COUNT).discard x.id 10

/-- One selection of point `e` (R291, R293): heads past their age are discarded as they are selected (R244). `n` bounds
the discards. -/
def selectFrom (h : Hub) (e : Nat) : Nat → Hub
  | 0 => h
  | n + 1 =>
    let hs := h.heads e
    let cs := h.cands e hs
    match h.choose e cs with
    | (h1, none) => (h1.showHeads e hs cs).when (e == 10) fun h => h.underrun hs
    | (h1, some (tier, x)) =>
      if !x.tgt.started && h1.tooOld x.pkt then (h1.ageDrop x.id e x.pkt).selectFrom e n
      else if e = 13 && x.pkt.kind = 0 && !x.tgt.started && reservedType ((x.pkt.cells.head?.map (·.data)).getD []) then
        ((h1.cnt TUN.CNT_KIND_COUNT).leave x.id e).selectFrom e n
      else
        let h2 := if tier = 3 then (h1.cnt SCH.CNT_AGED_COUNT e).wr SCH.hAgedGap (max 1 (h1.rd SCH.AGEPRI_SPACING e) - 1) e
          else h1.wr SCH.hAgedGap (h1.rd SCH.hAgedGap e - 1) e
        (h2.showHeads e hs cs).emit e x
where
  /-- Whether a CONTROL payload's TYPE is reserved (R188, R272, R326, R666). -/
  reservedType (d : Bytes) : Bool :=
    let t := (d.headD 0).toNat
    !((0x01 ≤ t && t ≤ 0x03) || (0x10 ≤ t && t ≤ 0x13) || (0x20 ≤ t && t ≤ 0x26) || (0x40 ≤ t && t ≤ 0x46) || t == 0x4F ||
      (0x60 ≤ t && t ≤ 0x63))

/-- A selection at egress point `e` (R291): none while the scheduler page is disabled, at an Ocael port that is not UP
or has stopped taking tunnel cells (R159), or where the crossing FIFO of a port is full (R79). Queue entries of released packets are dropped first (R261). -/
def egressSelect (h : Hub) (e : Nat) : Hub :=
  h.when (h.live (0x50 + e) && h.up 0x48 &&
      (8 ≤ e || (h.portUp e && !h.on OPT.hPmHold e && decide ((Tab.get [] e h.egOut).length < 32)))) fun h =>
    let h1 := (h.schCommit e).purge e
    h1.selectFrom e ((h1.pkts.length + 1))

end Hub

/-- EGRESS_SELECT (R293): one selection of egress point `pt`. -/
def execEgressSelect (pt : Fin 14) (s : State) : Host.Outcome State Fault Refusal :=
  s.act fun h => h.egressSelect pt

/-- WHEEL_SLOT (R299). -/
def execWheelSlot (pt : Fin 14) (s : State) : Host.Outcome State Fault Refusal :=
  s.act fun h => h.when (h.up (0x50 + pt)) fun h => h.wheelStep pt

/-- The effect of a write of `v` to SCH.WHEEL.GRAN (R301). -/
def Hub.granWrite (h : Hub) (e v : Nat) (c : Cap := {}) : Hub :=
  if h.on HDR.PCTL_EN (0x50 + e) then h.raise (0x50 + e) 0 c
  else if 11 ≤ v then h.raise (0x50 + e) 1 c
  else h.wr SCH.WHEEL_GRAN v e

/-- WHEEL_GRAN_WRITE (R301). -/
def execWheelGranWrite (r : Req) (pt : Fin 14) (v : Nat) (s : State) : Host.Outcome State Fault Refusal :=
  s.act fun h => h.asReg r SCH.WHEEL_GRAN pt fun h => h.granWrite pt (bits v 0 4) (Hub.regCap r SCH.WHEEL_GRAN pt)

/-- The meter that MSEL selects is valid (R311). -/
def Hub.mselOk (h : Hub) : Bool := decide (h.rd MTR.MSEL_METER < 8191)

/-- METER_INIT (R306): a 1 written to MTR.MINIT.GO. -/
def execMeterInit (r : Req) (s : State) : Host.Outcome State Fault Refusal :=
  s.act fun h => h.asGo r MTR.MINIT_GO 0 fun h => h.when h.mselOk fun h => h.meterFill (h.rd MTR.MSEL_METER)

/-- The counts of one meter cleared (R311). -/
def Hub.meterClear (h : Hub) (m : Nat) : Hub :=
  h.wr MTR.MCNT_G_COUNT 0 0 m |>.wr MTR.MCNT_Y_COUNT 0 0 m |>.wr MTR.MCNT_R_COUNT 0 0 m |>.wr MTR.MCNT_DROP_COUNT 0 0 m

/-- METER_CLEAR (R311): a 1 written to MTR.MCLR.GO. -/
def execMeterClear (r : Req) (s : State) : Host.Outcome State Fault Refusal :=
  s.act fun h => h.asGo r MTR.MCLR_GO 0 fun h => h.when h.mselOk fun h => h.meterClear (h.rd MTR.MSEL_METER)

end Sys2Proof.Machine
end

