-- ==== Sys2Proof/Machine/Crown.lean ====
section
/-! DEFINITION. The changes that the crown carries out across the hops of a path (R197 to R199, R277 to R279, R325,
R329): the steps of each, sending a step's messages, taking their answers, resending, and what follows where a step fails;
the requester of remote register access (R192); and the reading of reservation records with it (R280, R335). -/

namespace Sys2Proof.Machine

/-! ### Messages and steps -/

/-- The body of a message that names a tunnel and nothing else (R194). -/
def tidBody (tid : Nat) : Bytes := natLe 4 tid

/-- The body of RESERVE or DECREASE (R272). -/
def amountBody (tid txn amount : Nat) : Bytes := natLe 4 tid ++ natLe 2 txn ++ natLe 2 amount ++ natLe 2 0

/-- The body of COMMIT, ABORT or RELEASE (R272). -/
def txnBody (tid txn : Nat) : Bytes := natLe 4 tid ++ natLe 2 txn

/-- The tunnel that a tunnel or reservation message names (R194, R272). -/
def bodyTid (b : Bytes) : Nat := leAt b 0 4 % 2 ^ 20

namespace Leg

/-- The source of the path. -/
def src (l : Leg) : Nat := l.hops.headD 0

/-- The hops but for the source. -/
def others (l : Leg) : List Nat := l.hops.drop 1

/-- The entry that TUN_SETUP carries to a hop (R180, R194, R199): the planned words with the tunnel's own ID, STATE PENDING, SOURCE at
the source alone, and PAIR_TID. -/
def entry (l : Leg) (isSrc : Bool) (e : List Nat) : List Nat :=
  [setBits (setBits (setBits (e.getD 0 0) 0 20 l.tid) 23 2 1) 26 1 (bnat isSrc), e.getD 1 0, e.getD 2 0, l.pair, e.getD 4 0,
   e.getD 5 0, 0, e.getD 7 0]

/-- TUN_SETUP to every hop. -/
def setupMsgs (l : Leg) : List (Nat × Bytes) :=
  (l.hops.zip l.ents).zipIdx.map fun p => (p.1.1, ofWords (l.entry (p.2 == 0) p.1.2))

/-- The steps of an increase (R277). -/
def increase (l : Leg) : List ChgStep :=
  [⟨0x20, l.hops.map fun n => (n, amountBody l.tid l.txn l.after)⟩, ⟨0x21, l.others.map fun n => (n, txnBody l.tid l.txn)⟩,
   ⟨0x21, [(l.src, txnBody l.tid l.txn)]⟩]

/-- The steps of a decrease to `amount` (R278). -/
def decrease (l : Leg) (amount : Nat) : List ChgStep :=
  [⟨0x23, [(l.src, amountBody l.tid l.txn amount)]⟩, ⟨0x23, l.others.map fun n => (n, amountBody l.tid l.txn amount)⟩]

/-- What a LEDGER message says of the tunnel (R326): `op` 1 INTENT, 2 DONE. -/
def ledger (l : Leg) (op : Nat) : Bytes :=
  natLe 4 op ++ natLe 4 l.tid ++ natLe 2 l.txn ++ natLe 2 l.before ++ natLe 2 l.after ++ natLe 2 l.hops.length ++
    l.hops.flatMap (natLe 2)

end Leg

/-- One message of TYPE `typ` to a set of hops for each tunnel of a change. -/
def legStep (ls : List Leg) (typ : Nat) (hops : Leg → List Nat) (body : Leg → Bytes) : ChgStep :=
  ⟨typ, ls.flatMap fun l => (hops l).map fun n => (n, body l)⟩

/-- The queue classes that a tunnel of a kind takes by default: the first, and how many (R25). -/
def kindClass (kind : Nat) : Nat × Nat := [(0, 1), (1, 1), (4, 4), (8, 4), (12, 2), (14, 1), (15, 1)].getD kind (15, 1)

/-- Whether tunnels of a kind come in pairs (R25). -/
def pairedKind (kind : Nat) : Bool := [0, 1, 3, 4, 5].contains kind

/-- The words of an entry with the default queue class and virtual channels of its kind (R25, R26): of a kind with several classes,
the one that the planned word names counts from the first. TRANSACTION cells keep their virtual channel. -/
def defaultEntry (e : List Nat) : List Nat :=
  let w := e.getD 0 0
  let kind := bits w 20 3
  let (first, span) := kindClass kind
  let cls := if w.testBit 27 then (if first < 8 then 2 else 3) else first + bits (e.getD 1 0) 16 4 % span
  [setBits w 30 1 (bnat (kind == 3)), setBits (setBits (e.getD 1 0) 16 4 cls) 20 2 (bnat (kind != 0))] ++ e.drop 2

/-- The moves of a tunnel's endpoints, each a REG_WR of one word (R189, R335). -/
def moveStep (moves : List (Nat × Nat × Nat)) : ChgStep :=
  ⟨0x02, moves.map fun m => (m.1, natLe 4 (m.2.1 % 2 ^ 24 + 2 ^ 24) ++ natLe 4 0 ++ natLe 4 m.2.2)⟩

/-- The steps of a set-up (R197, R199): every tunnel is set up and reserved for before any is opened, and the sources open last. -/
def setupSteps (ls : List Leg) : List ChgStep :=
  ⟨0x10, ls.flatMap Leg.setupMsgs⟩ :: (ls.flatMap fun l => if l.after = 0 then [] else l.increase) ++
    [legStep ls 0x11 Leg.others fun l => tidBody l.tid, legStep ls 0x11 (fun l => [l.src]) fun l => tidBody l.tid]

/-- The steps of a tear-down and of the release after it (R197, R278). -/
def tearSteps (ls : List Leg) : List ChgStep :=
  [legStep ls 0x12 (fun l => [l.src]) fun l => tidBody l.tid, legStep ls 0x12 Leg.others fun l => tidBody l.tid,
   legStep ls 0x24 (fun l => [l.src]) fun l => txnBody l.tid l.txn, legStep ls 0x24 Leg.others fun l => txnBody l.tid l.txn]

/-- The steps that send something. -/
def sending (l : List ChgStep) : List ChgStep := l.filter fun s => !s.msgs.isEmpty

/-- Whether one candidate is better than another (R318): higher PRIO, then the lower device ID. -/
def betterCand (prio dev prio' dev' : Nat) : Bool := decide (prio' < prio) || (prio == prio' && decide (dev < dev'))

namespace Hub

/-! ### NEIGHBOUR -/

/-- The node's device ID. -/
def deviceId (h : Hub) : Nat := h.rd KEY.DEVID_HI_ID * 2 ^ 32 + h.rd KEY.DEVID_LO_ID

/-- A link management cell raised at port `p` (R141). -/
def lmcSend (h : Hub) (p typ tok : Nat) (payload : Bytes) : Hub :=
  { h with lmcQ := Tab.ins p (Tab.get [] p h.lmcQ ++ [{ typ := typ, tok := tok, payload := payload }]) h.lmcQ }

/-- The ports in state UP. -/
def upPorts (h : Hub) : List Nat := (List.range 8).filter h.portUp

/-- Whether the node is a candidate (R318). -/
def isCandidate (h : Hub) : Bool := h.on TOP.NODECFG_CROWN_OK && h.on CAS.CFG_PRIO

/-- BEST as a device ID. -/
def bestDev (h : Hub) : Nat := h.rd CAS.BEST_HI_ID * 2 ^ 32 + h.rd CAS.BEST_LO_ID

/-- The NEIGHBOUR payload that the node would send on port `p` (R316). -/
def nbrPayload (h : Hub) (p : Nat) : Bytes :=
  let role := h.rd CAS.STAT_CROLE
  let flags := h.rd CAS.NODEID_TIER + bnat h.isCandidate * 16 + bnat (role == 1) * 32 + bnat (role == 2) * 64
  let id (v ok : Nat) : Nat := v + ok * 2 ^ 15
  natLe 8 h.deviceId ++ natLe 2 (id (h.rd CAS.NODEID_ID) (h.rd CAS.NODEID_VALID)) ++ natLe 1 flags ++
    natLe 1 (h.rd CAS.CFG_PRIO) ++ natLe 2 (h.rd CAS.EPOCH_EPOCH) ++ natLe 2 (h.rd CAS.EPOCH_DGEN) ++
    natLe 2 (id (h.rd CAS.CROWN_NODE) (h.rd CAS.CROWN_VALID)) ++
    natLe 2 (id (h.rd CAS.CROWN_STANDBY) (h.rd CAS.CROWN_S_VALID)) ++
    natLe 1 (bnat (h.rd CAS.NBR_REL 0 p == 1) + 2 * bnat (h.rd CAS.NBR_REL 0 p == 2)) ++ natLe 1 (h.rd CAS.BESTINFO_DIST) ++
    natLe 1 (h.rd CAS.BESTINFO_PRIO) ++ natLe 1 0 ++ natLe 8 h.bestDev ++ natLe 8 0

/-- NEIGHBOUR sent on port `p`. -/
def nbrSend (p : Nat) (h : Hub) : Hub := h.lmcSend p 0x11 0 (h.nbrPayload p)

/-- A change `f` of the cascade state, with NEIGHBOUR sent at once on every UP port where its content changes
(R317). -/
def nbrChange (h : Hub) (f : Hub → Hub) : Hub :=
  let h' := f h
  h'.each (h'.upPorts.filter fun p => h'.nbrPayload p != h.nbrPayload p) nbrSend

/-- Whether `src` is the crown or the standby crown recorded in CAS (R194, R274). -/
def isCrown (h : Hub) (src : Nat) : Bool :=
  (h.on CAS.CROWN_VALID && h.rd CAS.CROWN_NODE == src) || (h.on CAS.CROWN_S_VALID && h.rd CAS.CROWN_STANDBY == src)

/-- Whether Fjarosh can act: MGMT runs, and the boot ROM has started it (R187, R195, R625). -/
def fwOn (h : Hub) : Bool := h.up 0 && h.on UPD.hFw

/-- A request sent under change `g` and recorded until it is answered. -/
def askFor (h : Hub) (g : Option Nat) (typ dst : Nat) (body : Bytes) : Hub :=
  let t := (h.rd TUN.hTok + 1) % 2 ^ 16
  let m : CtlMsg := { typ := typ, dst := dst, tok := t, body := body }
  { (h.wr TUN.hTok t).ctlSend m with asks := Tab.ins t { msg := m, chg := g } h.asks }

/-! ### The standby crown -/

/-- The candidates that the node knows, each with its PRIO and device ID: the nodes that reported ready, and its own
neighbours, whose NEIGHBOUR says so. A new crown may have heard no NODE_READY (log entry 114). -/
def candidates (h : Hub) : List (Nat × Nat × Nat) :=
  (h.ready.filterMap fun p => if p.2.prio = 0 ∨ p.2.role = 2 then none else some (p.1, p.2.prio, p.2.device)) ++
    h.nbrs.filterMap fun p => if p.2.cand && p.2.nodeValid then some (p.2.node, p.2.prio, p.2.device) else none

/-- The best candidate among the nodes known, the node itself left out (R328). -/
def bestReady (h : Hub) : Option Nat :=
  (h.candidates.foldl (fun (b : Option (Nat × Nat × Nat)) p =>
    if p.1 = h.rd CAS.NODEID_ID then b
    else
      match b with
      | none => some p
      | some q => if betterCand p.2.1 p.2.2 q.2.1 q.2.2 then some p else b) none).map (·.1)

/-- Whether a STANDBY of this node awaits its answer. -/
def appointing (h : Hub) : Bool := h.asks.any fun a => a.2.msg.typ == 0x43

/-- The crown appoints the best candidate as standby (R328). -/
def appoint (h : Hub) : Hub :=
  match h.bestReady with
  | some n => h.askFor none 0x43 n (natLe 2 1 ++ natLe 2 (h.rd CAS.EPOCH_EPOCH))
  | none => h

/-- A new crown appoints a standby once it has settled every intent (R330). -/
def afterSettling (h : Hub) : Hub :=
  h.when (h.rd CAS.STAT_CROLE == 1 && !h.on CAS.CROWN_S_VALID && h.settles.isEmpty &&
    !(h.changes.any fun c => c.2.kind == .mend) && !h.appointing) Hub.appoint

/-! ### Tunnel IDs -/

/-- The tunnel of an ID, where it stands (R178). -/
def standing (h : Hub) (tid : Nat) : Option Path := (Tab.find tid h.paths).filter fun p => p.gone == 0

/-- Whether a change of the tunnel is under way. -/
def changing (h : Hub) (tid : Nat) : Bool := h.changes.any fun c => c.2.legs.any fun l => l.tid == tid

/-- Whether the crown may give the ID to a new tunnel (R177, R178): no tunnel that it set up or learned of from the ledger, and none
in this node's own table, holds it. -/
def givable (h : Hub) (tid : Nat) : Bool :=
  decide (0x4000 ≤ tid && tid < 0xFFFFF) && !h.changing tid && !(h.intents.any (·.tid == tid)) && (h.tunFind tid).isNone &&
    match Tab.find tid h.paths with
    | some p => p.gone != 0 && decide (p.gone ≤ h.now)
    | none => true

/-- An ID that may be given, at a place that the spec leaves open, and the node with the next open value to draw. -/
def drawTid (h : Hub) (avoid : List Nat) : Nat × Hub :=
  let (v, h1) := h.free
  let t (k : Nat) : Nat := 0x4000 + (v + k) % 0xFBFFF
  let n := h.paths.length + ((h.changes.map fun c => c.2.legs.length)).sum + h.intents.length + avoid.length + 8193
  ((((List.range n).map t).find? fun x => h.givable x && !avoid.contains x).getD (t 0), h1)

/-- The tunnels of a set-up under new IDs, each pair naming its own again (R198, R199). -/
def renamed (h : Hub) (ls : List Leg) : List Leg × Hub :=
  match ls with
  | [a] => let (x, h1) := h.drawTid [a.tid]; ([{ a with tid := x }], h1)
  | [a, b] =>
    let (x, h1) := h.drawTid [a.tid, b.tid]
    let (y, h2) := h1.drawTid [a.tid, b.tid, x]
    ([{ a with tid := x, pair := y }, { b with tid := y, pair := x }], h2)
  | _ => (ls, h)

/-- Each tunnel of a change with a TXN of its own (R277). -/
def numbered (h : Hub) : List Leg → List Leg × Hub
  | [] => ([], h)
  | l :: ls =>
    let n := (h.rd CAS.hTxn + 1) % 2 ^ 16
    let (rest, h1) := (h.wr CAS.hTxn n).numbered ls
    ({ l with txn := n } :: rest, h1)

/-! ### Running a change -/

/-- Intents open at the crown (R328, R329). -/
def openIntents (h : Hub) : Nat := (h.changes.map fun c => c.2.legs.length).sum

/-- Change `g` is over, answered or not. -/
def endChange (h : Hub) (g : Nat) : Hub :=
  { h with changes := Tab.del g h.changes, asks := h.asks.filter fun a => a.2.chg != some g }

/-- The messages of the step at the front of change `g` sent. -/
def sendStep (h : Hub) (g : Nat) (c : Change) : Hub :=
  match c.steps with
  | [] => h
  | st :: _ =>
    { h with changes := Tab.ins g { c with done := [], bad := 0 } h.changes }.each st.msgs fun m h =>
      h.askFor (some g) st.typ m.1 m.2

/-- A change begun (R329): with a standby crown its LEDGER INTENTs go first, at most 8 being open at once. -/
def openChange (h : Hub) (c : Change) : Hub :=
  let g := (h.changes.getLast?.map fun p => p.1 + 1).getD 0
  if c.steps.isEmpty || (!c.legs.isEmpty && decide (8 < h.openIntents + c.legs.length)) then h
  else if h.on CAS.CROWN_S_VALID && !c.legs.isEmpty then
    { h with changes := Tab.ins g { c with waits := c.legs.length } h.changes }.each c.legs fun l h =>
      h.askFor (some g) 0x46 (h.rd CAS.CROWN_STANDBY) (l.ledger 1)
  else h.sendStep g c

/-- A set-up begun (R197, R199), the endpoints' moves after it (R335). -/
def beginSetup (h : Hub) (legs : List Leg) (moves : List (Nat × Nat × Nat)) (old : Option Nat) : Hub :=
  let (ls, h1) := h.numbered legs
  h1.openChange { kind := .setup, legs := ls, steps := sending (setupSteps ls ++ [moveStep moves]), moves := moves, old := old }

/-- A standing tunnel as part of a change to `after` ct. -/
def legOf (h : Hub) (tid after : Nat) : Option Leg :=
  (h.standing tid).map fun p => { tid := tid, pair := p.pair, before := p.ct, after := after, hops := p.hops }

/-- The tear-down of a tunnel begun, with its pair (R197, R199). -/
def beginTear (h : Hub) (tid : Nat) : Hub :=
  match h.legOf tid 0 with
  | none => h
  | some l =>
    let legs := l :: (if l.pair = 0 then [] else (h.legOf l.pair 0).toList)
    if legs.any fun l => h.changing l.tid then h
    else
      let (ls, h1) := h.numbered legs
      h1.openChange { kind := .teardown, legs := ls, steps := sending (tearSteps ls) }

/-- An increase or a decrease begun (R277, R278). -/
def beginAmount (h : Hub) (tid ct : Nat) : Hub :=
  match h.legOf tid ct with
  | none => h
  | some l =>
    if h.changing tid || l.before == ct then h
    else
      let (ls, h1) := h.numbered [l]
      h1.openChange { kind := .amount, legs := ls,
                      steps := sending (ls.flatMap fun l => if l.before < ct then l.increase else l.decrease ct) }

/-- The tunnels of a set-up as the crown planned them. -/
def legsOf (plans : List TunPlan) : List Leg :=
  plans.map fun p =>
    { tid := p.tid, pair := ((plans.map (·.tid)).find? (· != p.tid)).getD 0, after := p.ct, hops := p.hops.map (·.1),
      ents := p.hops.map fun q => if p.own then q.2 else defaultEntry q.2 }

/-- Tier and device ID of a node, as far as the crown knows them (R326). -/
def place (h : Hub) (n : Nat) : Option (Nat × Nat) :=
  if n = h.rd CAS.NODEID_ID then some (0, h.deviceId) else (Tab.find n h.ready).map fun i => (i.tier, i.device)

/-- Whether a path obeys up*/down* (R315): once it has taken a down hop, it takes no up hop. A path over a node that the crown
does not know cannot be computed. -/
def upDown (h : Hub) (down : Bool) : List Nat → Bool
  | a :: b :: l =>
    match h.place a, h.place b with
    | some (ta, da), some (tb, db) =>
      let up := decide (tb < ta) || (tb == ta && decide (db < da))
      !(down && up) && h.upDown (!up) (b :: l)
    | _, _ => false
  | _ => true

/-- The kind of a planned tunnel. -/
def planKind (p : TunPlan) : Nat := bits (((p.hops.head?.map (·.2)).getD []).getD 0 0) 20 3

/-- Whether the crown may set a tunnel up as planned (R25, R178, R262, R315, R412): its ID may be given, its hops are of one kind and
form the paths named, each under up*/down* from the source, and the cells of a TRANSACTION tunnel keep their virtual
channel. -/
def planOk (h : Hub) (p : TunPlan) : Bool :=
  let nodes := p.hops.map (·.1)
  h.givable p.tid && !p.hops.isEmpty && nodes.Nodup && decide (p.ct ≤ 4095) &&
    (p.hops.all fun q => bits (q.2.getD 0 0) 20 3 == planKind p && (!p.own || planKind p != 3 || (q.2.getD 0 0).testBit 30)) &&
    (p.paths.all fun l => l.head? == nodes.head? && l.all nodes.contains && h.upDown false l) &&
    nodes.all fun n => p.paths.any fun l => l.contains n

/-- What the crown has decided is begun, where the rules allow it; tunnels of a paired kind come in pairs of that kind, and no
others do (R25, R199). -/
def carryOut (h : Hub) (w : Wish) : Hub :=
  match w with
  | .none => h
  | .setup plans moves old =>
    h.when ((match plans with
      | [p] => !pairedKind (planKind p) && h.planOk p
      | [p, q] => pairedKind (planKind p) && planKind p == planKind q && p.tid != q.tid && h.planOk p && h.planOk q
      | _ => false)) fun h => h.beginSetup (legsOf plans) moves old
  | .teardown tid => h.beginTear tid
  | .amount tid ct => h.when (decide (ct ≤ 4095)) fun h => h.beginAmount tid ct

/-- When the ID of a tunnel that now goes may be given again (R178). -/
def goneAt (h : Hub) : Nat := h.now + 1000000000 + (h.rd TUN.TIMERS_PEND_MS + h.rd TUN.TIMERS_DRAIN_MS) * 1000000

/-- What a change that ended leaves recorded of its tunnels (R178): an ID that came back is not given again until 1 s after its last
hop is free. -/
def recordLegs (h : Hub) (c : Change) : Hub :=
  let gone : Path := { gone := h.goneAt }
  h.each c.legs fun l h =>
    let p : Option Path :=
      match c.kind with
      | .setup => some (if c.undo then gone else { pair := l.pair, hops := l.hops, ct := l.after })
      | .teardown => if c.undo then none else some gone
      | .amount | .mend => if c.undo then none else some { pair := l.pair, hops := l.hops, ct := l.after }
      | _ => none
    match p with
    | some p => { h with paths := Tab.ins l.tid p h.paths }
    | none => h

/-- Change `g` ends: the standby hears LEDGER DONE (R329), a set-up that met a full set begins again under another TID, and a
tunnel that the new one replaces is torn down (R198, R335). -/
def finish (h : Hub) (g : Nat) (c : Change) : Hub :=
  let h1 := h.endChange g
  let h2 := h1.when (h1.on CAS.CROWN_S_VALID) fun h => h.each c.legs fun l h =>
    h.askFor none 0x46 (h.rd CAS.CROWN_STANDBY) (l.ledger 2)
  let h3 := h2.recordLegs c
  match c.kind with
  | .setup =>
    if c.undo then
      if c.retry then let (ls, h4) := h3.renamed c.legs; h4.beginSetup ls c.moves c.old else h3
    else
      match c.old with
      | some t => h3.beginTear t
      | none => h3
  | .mend => h3.afterSettling
  | _ => h3

/-- The step at the front of change `g` begins; a change with no step left ends. -/
def startStep (h : Hub) (g : Nat) (c : Change) : Hub := if c.steps.isEmpty then h.finish g c else h.sendStep g c

/-- Change `g` goes on with the steps that undo it; a set-up then closes every hop that set its entry up (R198). -/
def undoBy (h : Hub) (g : Nat) (c : Change) (steps : List ChgStep) : Hub :=
  let close : ChgStep := ⟨0x12, c.ok.map fun p => (p.1, tidBody p.2)⟩
  h.startStep g { c with undo := true, steps := sending (steps ++ if c.kind = .setup then [close] else []) }

/-- Change `g` fails in the step of TYPE `typ` (R197, R198, R277 to R279). -/
def failChange (h : Hub) (g : Nat) (c : Change) (typ : Nat) : Hub :=
  let rest := c.steps.drop 1
  let msgs := match c.steps with | st :: _ => st.msgs | [] => []
  let tid := (msgs.head?.map fun m => bodyTid m.2).getD 0
  let l := (c.legs.find? fun l => l.tid == tid).getD { tid := tid }
  if typ = 0x10 then h.undoBy g { c with retry := c.bad == 1 } []
  else if typ = 0x20 then h.undoBy g c [⟨0x22, c.done.map fun p => (p.1, txnBody l.tid l.txn)⟩]
  else if typ = 0x21 then
    if msgs.any fun m => m.1 == l.src then h.undoBy g c (l.decrease l.before)
    else
      h.undoBy g c [⟨0x22, (l.hops.filter fun n => !(c.done.map (·.1)).contains n).map fun n => (n, txnBody l.tid l.txn)⟩,
        ⟨0x23, c.done.map fun p => (p.1, amountBody l.tid l.txn l.before)⟩]
  else if typ = 0x12 then
    if c.bad = 255 then h.startStep g { c with steps := rest } else h.finish g { c with undo := true }
  else if typ = 0x23 then
    h.startStep g { c with undo := c.undo || msgs.any fun m => m.1 == l.src, steps := rest.filter fun s => s.typ != typ }
  else if typ = 0x24 then
    h.startStep g { c with steps := sending (rest.map fun s => if s.typ = typ then
      { s with msgs := s.msgs.filter fun m => (c.done.map (·.2)).contains (bodyTid m.2) } else s) }
  else h.undoBy g c []

/-- An answer of `hop` about tunnel `tid` to a request of TYPE `typ` under change `g`: with the last answer of a step the next
begins, or the change fails. Of the steps that undo a change, only a DECREASE that fails holds others back (R278). -/
def answered (h : Hub) (g hop tid typ status : Nat) : Hub :=
  match Tab.find g h.changes with
  | none => h
  | some c =>
    let c1 : Change :=
      if status = 0 then { c with done := c.done ++ [(hop, tid)], ok := if typ = 0x10 then c.ok ++ [(hop, tid)] else c.ok }
      else { c with bad := if c.bad = 1 then 1 else status }
    let h1 := { h with changes := Tab.ins g c1 h.changes }
    if h1.asks.any fun p => p.2.chg == some g then h1
    else if c1.bad ≠ 0 && (!c1.undo || typ == 0x23) then h1.failChange g c1 typ
    else h1.startStep g { c1 with steps := c1.steps.drop 1 }

/-- The standby crown has failed (R337): it is no longer announced, and the crown appoints another. -/
def standbyLost (h : Hub) : Hub :=
  let sb := h.rd CAS.CROWN_STANDBY
  ({ h with ready := Tab.del sb h.ready }.wr CAS.CROWN_STANDBY 0 |>.wr CAS.CROWN_S_VALID 0).irq 0x68 1 |>.appoint

/-- A LEDGER INTENT of change `g` answered (R329): with the last one the change begins; it does not where one is refused, and DONE then
closes those that were accepted. One
that stays unanswered shows that the standby has failed (R337). -/
def intentAcked (h : Hub) (g status : Nat) : Hub :=
  match Tab.find g h.changes with
  | none => h
  | some c =>
    if status ≠ 0 then
      let h1 := h.endChange g
      if !h.on CAS.CROWN_S_VALID then h1
      else if status = 255 then h1.nbrChange Hub.standbyLost
      else h1.each c.legs fun l h => h.askFor none 0x46 (h.rd CAS.CROWN_STANDBY) (l.ledger 2)
    else if c.waits ≤ 1 then h.sendStep g { c with waits := 0 }
    else { h with changes := Tab.ins g { c with waits := c.waits - 1 } h.changes }

/-- A request of change `g` is answered with `status`, 255 where it stayed unanswered. -/
def settleAsk (h : Hub) (a : Ask) (status : Nat) : Hub :=
  match a.chg with
  | none => h
  | some g => if a.msg.typ = 0x46 then h.intentAcked g status else h.answered g a.msg.dst (bodyTid a.msg.body) a.msg.typ status

/-- The answer with token `tok` from `src`: the request is answered and the change it belongs to goes on (R197, R277,
R329). An answer that fits no request changes nothing. A TUN_SETUP answered EXISTS is sent again as if it had no answer, which
bridges the gap until the old entry is FREE (R201). -/
def takeAnswer (h : Hub) (src tok status typ : Nat) : Hub :=
  match Tab.find tok h.asks with
  | none => h
  | some a =>
    if a.msg.dst ≠ src ∨ a.msg.typ ≠ typ ∨ (typ = 0x10 ∧ status = 3 ∧ a.tries < 3) then h
    else { h with asks := Tab.del tok h.asks }.settleAsk a status

/-- A request unanswered for 5 ms (R198, R279): sent again unchanged, up to three times. After that a DECREASE or a
RELEASE leaves its hop unreconciled, and the request counts as answered with a failure. -/
def retryAsk (h : Hub) (tok : Nat) : Hub :=
  match Tab.find tok h.asks with
  | none => h
  | some a =>
    if a.tries < 3 then { h.ctlSend a.msg with asks := Tab.ins tok { a with tries := a.tries + 1 } h.asks }
    else
      let h1 := { h with asks := Tab.del tok h.asks }
      let h2 := if a.msg.typ = 0x23 ∨ a.msg.typ = 0x24 then
        { h1 with unrec := h1.unrec ++ [{ hop := a.msg.dst, typ := a.msg.typ, tid := leAt a.msg.body 0 4,
                                          txn := leAt a.msg.body 4 2, amount := leAt a.msg.body 6 2 }] }
        else h1
      h2.settleAsk a 255

/-! ### Remote register access -/

/-- The requester sends one request (R192), or refuses while one is under way. -/
def rrqSend (h : Hub) (c : Cap := {}) : Hub :=
  if h.rd TUN.RRQ_CTL_DONE = 1 then h.raise 0x40 4 c
  else
    let wr := h.on TUN.RRQ_CTL_WRITE
    let n := h.rd TUN.RRQ_CTL_COUNT
    let data := if wr then (List.range 12).map (fun i => if i < n then h.rd (TUN.RRQ_DATA.word i) else 0) else []
    let h1 := h.ctlAsk (if wr then 2 else 1) (h.rd TUN.RRQ_NODE_NODE)
      (natLe 4 (h.rd TUN.RRQ_ADDR_ADDR + n * 2 ^ 24) ++ natLe 4 0 ++ ofWords data)
    h1.wr TUN.RRQ_STAT_TOKEN (h1.rd TUN.hTok) |>.wr TUN.hRrqWr (bnat wr) |>.wr TUN.hSettle 0 |>.wr TUN.RRQ_CTL_DONE 1

/-! ### Reading reservation records -/

/-- The access of a reading's stage (R280): whether it writes, the window offset and the word. Stages 0 to 3 read word 0 of
the ways of the tunnel's set, 4 selects the record of the entry found, and 5 reads it. -/
def settleAccess (s : Settle) : Bool × Nat × Nat :=
  if s.stage < 4 then (false, tunAddr (4 * tunSet s.tid + s.stage), 0)
  else if s.stage = 4 then (true, 0x61000 + CRT.RSEL_ENTRY.off, s.idx)
  else (false, 0x61000 + CRT.RREC_COMMITTED.off, 0)

/-- The next access of the readings made, where the requester is idle. -/
def settleGo (h : Hub) : Hub :=
  match h.settles with
  | [] => h
  | s :: _ =>
    h.when (h.up 0x40 && h.rd TUN.RRQ_CTL_DONE != 1) fun h =>
      let (w, a, v) := settleAccess s
      ((h.wr TUN.RRQ_NODE_NODE (s.hops.headD 0) |>.wr TUN.RRQ_ADDR_ADDR a |>.wr TUN.RRQ_CTL_WRITE (bnat w)
        |>.wr TUN.RRQ_CTL_COUNT 1 |>.wr (TUN.RRQ_DATA.word 0) v).rrqSend).wr TUN.hSettle 1

/-- A reading after an access: the next stage, or the next hop with what was found at this one. -/
def settleNext (s : Settle) (ok : Bool) (v : Nat) : Settle :=
  let next (f : List (Nat × Nat × Nat)) : Settle := { s with hops := s.hops.drop 1, stage := 0, found := s.found ++ f }
  let hop := s.hops.headD 0
  if !ok then next []
  else if s.stage < 4 then
    if bits v 23 2 ≠ 0 ∧ bits v 0 20 = s.tid % 2 ^ 20 then { s with stage := 4, idx := 4 * tunSet s.tid + s.stage }
    else if s.stage = 3 then next [(hop, 0, 0)] else { s with stage := s.stage + 1 }
  else if s.stage = 4 then { s with stage := 5 }
  else next [(hop, bits v 0 12, bits v 28 2)]

/-- The steps that put the hops of a tunnel right against its source (R280): DECREASE for a hop above it, and RESERVE and COMMIT for
one below. -/
def mendSteps (l : Leg) (found : List (Nat × Nat × Nat)) : List ChgStep :=
  let hops (f : Nat → Bool) : List Nat := (found.filter fun p => f p.2.1).map (·.1)
  let low := hops (decide <| · < l.after)
  [⟨0x23, (hops (decide <| l.after < ·)).map fun n => (n, amountBody l.tid l.txn l.after)⟩,
   ⟨0x20, low.map fun n => (n, amountBody l.tid l.txn l.after)⟩, ⟨0x21, low.map fun n => (n, txnBody l.tid l.txn)⟩]

/-- A reading that has ended (R280, R335 step 5): the hops that differ from the source are put right; an unreconciled hop whose
record matches, or is released, is struck off, and any other gets its message again. -/
def settleEnd (h : Hub) (s : Settle) : Hub :=
  match s.unrec with
  | some u =>
    match s.found.head? with
    | some (_, c, st) =>
      if st = 0 ∨ (u.typ = 0x23 ∧ c = u.amount) then { h with unrec := h.unrec.filter (· != u) } else resend h u
    | none => resend h u
  | none =>
    let h1 := { h with intents := h.intents.filter fun i => !(i.tid == s.tid && i.txn == s.txn) }
    match s.found.find? fun p => p.1 == s.src with
    | some (_, a, _) =>
      let hops := s.src :: (s.found.map (·.1)).filter (· != s.src)
      let (ls, h2) := h1.numbered [{ tid := s.tid, before := a, after := a, hops := hops }]
      let c : Change := { kind := .mend, legs := ls, steps := sending (ls.flatMap fun l => mendSteps l s.found) }
      if c.steps.isEmpty then h2.recordLegs c else h2.openChange c
    | none => h1
where
  /-- The message sent again. -/
  resend (h : Hub) (u : Unrec) : Hub :=
    h.askFor none u.typ u.hop (if u.typ = 0x23 then amountBody u.tid u.txn u.amount else txnBody u.tid u.txn)

/-- The answer to an access of the readings: `ok` says that it was carried out, and `v` is the word read. -/
def settleIn (h : Hub) (ok : Bool) (v : Nat) : Hub :=
  match h.settles with
  | [] => h
  | s :: l =>
    let s1 := settleNext s ok v
    if s1.hops.isEmpty then (({ h with settles := l }.settleEnd s1).afterSettling).settleGo
    else { h with settles := s1 :: l }.settleGo

/-- Readings queued. -/
def settleAll (h : Hub) (l : List Settle) : Hub :=
  { h with settles := h.settles ++ l.filter fun (s : Settle) => !s.hops.isEmpty && !h.settles.contains s }.settleGo

/-- The reading of an open intent's records (R280). -/
def settleOf (i : Intent) : Settle := { tid := i.tid, txn := i.txn, src := i.hops.headD 0, hops := i.hops }

end Hub

end Sys2Proof.Machine
end

