-- ==== Sys2Proof/Machine/Tunnels.lean ====
section
/-! DEFINITION. The tunnel table (R179 to R183, R194 to R201), the routing generation (R186), merge contexts (R204)
and the answers of remote register access (R192, R193). -/

namespace Sys2Proof.Machine

namespace Hub

/-! ### Staging of wide table entries -/

/-- The words that a write of the highest word puts in place: staged ones, the present ones elsewhere, and `v` (R51). -/
def stagedWords (h : Hub) (m : MasterId) (t : Nat) (row : TableRow) (e v : Nat) : List Nat :=
  let st := Tab.get {} (masterNum m * 8 + t) h.staging
  let n := row.stride / 4
  (List.range n).map fun w =>
    if w + 1 = n then v
    else
      match (if st.entry = e then Tab.find w st.words else none) with
      | some x => x
      | none => h.tword (row.base + row.stride * e + 4 * w)

/-- The staging of a master in a table cleared (R51). -/
def clearStaging (h : Hub) (m : MasterId) (t : Nat) : Hub :=
  { h with staging := Tab.del (masterNum m * 8 + t) h.staging }

/-- A lower word of entry `e` staged (R51): staging for another entry of the table is discarded. -/
def stage (h : Hub) (m : MasterId) (t e w v : Nat) : Hub :=
  let st := Tab.get {} (masterNum m * 8 + t) h.staging
  let words := if st.entry = e then st.words else []
  { h with staging := Tab.ins (masterNum m * 8 + t) { entry := e, words := Tab.ins w v words } h.staging }

/-! ### Entries -/

/-- Low 16 bits of node time in ms (R180). -/
def stampMs (h : Hub) : Nat := h.now / 1000000 % 2 ^ 16

/-- Whether hardware refuses entry `e` at index `i` (R181). -/
def entBad (h : Hub) (i : Nat) (e : Ent) : Bool :=
  (e.state != 0 &&
    (decide (e.tid < 0x4000) || e.tid == 0xFFFFF || tunSet e.tid != i / 4 ||
     ((List.range 4).any fun w =>
       let j := i / 4 * 4 + w
       j != i && (h.tun j).state != 0 && (h.tun j).tid == e.tid) ||
     e.kind == 7 || (if e.kind = 0 then e.vc != 0 else e.vc == 0 && !e.vckeep) ||
     (decide (1 < (pointsOf e.egress).length) && !e.mcast && !e.split) ||
     (e.mcast && e.kind != 0 && e.kind != 2) ||
     (e.split && (pointsOf (bits e.egress 0 8)).length != 2) ||
     (e.state == 2 && (e.egress == 0 || e.ingress == 0)))) ||
  (e.egress != (h.tun i).egress && h.rd CRT.RREC_STATE 0 i != 0)

/-- Entry `i` moves to STATE `st` (R180, R196): STAMP_MS is taken, TUN.FREE follows, and a merge context is freed with
its entry. -/
def tunState (h : Hub) (i st : Nat) : Hub :=
  let e := h.tun i
  if e.state = st then h
  else
    let h1 := (h.setTfld (tunAddr i) 23 2 st).setTfld (tunAddr i + 28) 8 16 h.stampMs
    let h2 := h1.wr TUN.FREE_COUNT (h.rd TUN.FREE_COUNT + bnat (st == 0) - bnat (e.state == 0))
    if st = 0 && e.merge then h2.freeContext e.twnctx else h2

/-- Entry `i` replaced by `ws`, with the checks of R181 made; reserved bits stay 0 (R6, R180). -/
def tunReplace (h : Hub) (i : Nat) (ws : Ent) (c : Cap := {}) : Hub :=
  if h.entBad i ws then h.raise 0x40 0 { c with lo := some (tunAddr i) }
  else
    let old := h.tun i
    let h1 := h.setTwords (tunAddr i) (maskWords 0 i ws)
    if old.state = ws.state then h1.setTfld (tunAddr i + 28) 8 16 old.stamp
    else
      let h2 := (h1.setTfld (tunAddr i + 28) 8 16 h.stampMs).wr TUN.FREE_COUNT
        (h.rd TUN.FREE_COUNT + bnat (ws.state == 0) - bnat (old.state == 0))
      if ws.state = 0 && old.merge then h2.freeContext old.twnctx else h2

/-- The answer to a tunnel message (R194). -/
def tunAck (h : Hub) (src tok status typ tid idx : Nat) : Hub :=
  h.ctlSend { typ := 0x13, resp := true, dst := src, tok := tok,
              body := natLe 1 status ++ natLe 1 typ ++ natLe 2 0 ++ natLe 4 tid ++ natLe 2 idx }

/-- A merge context initialised (R204). -/
def initContext (h : Hub) (ctx : Nat) : Hub :=
  h.wr TWN.CSTAT_FIRST 1 0 ctx |>.wr TWN.CSTAT_INPROG 0 0 ctx |>.wr TWN.CNT_A_COUNT 0 0 ctx |>.wr TWN.CNT_B_COUNT 0 0 ctx
    |>.wr TWN.CNT_STALE_COUNT 0 0 ctx |>.wr TWN.CNT_POISON_COUNT 0 0 ctx |>.wr TWN.CSTAT_A_SILENT 0 0 ctx
    |>.wr TWN.CSTAT_B_SILENT 0 0 ctx |>.wr TWN.hQuiet 0 0 ctx |>.wr TWN.hHeard 0 0 ctx

/-- The lowest merge context that is not in use. -/
def freeCtx (h : Hub) : Option Nat := (List.range 1024).find? fun c => !h.on TWN.CCFG_ACTIVE 0 c

/-- Whether a set-up's entry is the one held (R195), TXSEQ, CELLS, STAMP_MS and STATE set aside, and the merge context
where Fjarosh chose it. -/
def sameEntry (old new : Ent) : Bool :=
  setBits (old.getD 0 0) 23 2 0 == setBits (new.getD 0 0) 23 2 0 && old.getD 1 0 == new.getD 1 0 &&
    (if new.merge then old.ingress == new.ingress else old.getD 2 0 == new.getD 2 0) && old.getD 3 0 == new.getD 3 0 &&
    old.getD 4 0 == new.getD 4 0 && old.meter == new.meter && bits (old.getD 7 0) 0 8 == bits (new.getD 7 0) 0 8

/-- What an error of a table write of Fjarosh captures beside the window offset (R37). -/
def fwTabCap : Cap := { hi := some 0, master := some 0, atype := some 3 }

/-- TUN_SETUP as Fjarosh handles it (R194, R195, R201): the status, the index answered, and the node. -/
def setup (h : Hub) (src : Nat) (entry : Ent) : Nat × Nat × Hub :=
  let ws0 := (List.range 8).map fun w => entry.getD w 0 % 2 ^ 32
  let ws := [setBits (ws0.getD 0 0) 23 2 1, ws0.getD 1 0, ws0.getD 2 0, ws0.getD 3 0, ws0.getD 4 0,
             setBits (ws0.getD 5 0) 16 16 0, 0, ws0.getD 7 0]
  let tid := Ent.tid ws
  if !h.isCrown src then (6, 0, h)
  else
    match h.tunFind tid with
    | some i => if (h.tun i).state ≠ 3 && sameEntry (h.tun i) ws then (0, i, h) else (3, i, h)
    | none =>
      match (tunWays tid).find? fun i => (h.tun i).state == 0 with
      | none => (1, 0, h)
      | some i =>
        if Ent.merge ws then
          match h.freeCtx with
          | none => (5, i, h)
          | some c =>
            let ws1 := ws.set 2 (setBits (ws.getD 2 0) 16 10 c)
            let h1 := h.initContext c
            if h1.entBad i ws1 then (2, i, h1.tunReplace i ws1 fwTabCap)
            else
              let ps := pointsOf (bits (Ent.ingress ws) 0 8)
              let h2 := h1.wr TWN.CCFG_ACTIVE 1 0 c |>.wr TWN.CCFG_PORT_A (ps.getD 0 0) 0 c
                |>.wr TWN.CCFG_PORT_B (ps.getD 1 0) 0 c
              (0, i, h2.tunReplace i ws1 fwTabCap)
        else (if h.entBad i ws then 2 else 0, i, h.tunReplace i ws fwTabCap)

end Hub

/-- TUN_SETUP (R195). -/
def execTunSetup (src tok : Nat) (entry : List Nat) (s : State) : Host.Outcome State Fault Refusal :=
  s.act fun h => h.when (h.fwOn && h.up 0x40) fun h =>
    let (st, i, h1) := h.setup src entry
    h1.tunAck src tok st 0x10 (Ent.tid entry) i

/-- TUN_OPEN (R195): a PENDING entry becomes OPEN, unless R181 refuses that. -/
def execTunOpen (src tok tid : Nat) (s : State) : Host.Outcome State Fault Refusal :=
  s.act fun h => h.when (h.fwOn && h.up 0x40) fun h =>
    if !h.isCrown src then h.tunAck src tok 6 0x11 tid 0
    else
      match h.tunFind tid with
      | none => h.tunAck src tok 4 0x11 tid 0
      | some i =>
        let e := h.tun i
        if e.state = 1 then
          if e.egress = 0 ∨ e.ingress = 0 then (h.raise 0x40 0 { Hub.fwTabCap with lo := some (tunAddr i) }).tunAck src tok 2 0x11 tid i
          else (h.tunState i 2).tunAck src tok 0 0x11 tid i
        else h.tunAck src tok (if e.state = 2 then 0 else 4) 0x11 tid i

/-- TUN_CLOSE (R195): OPEN becomes DRAINING, PENDING becomes FREE, and anything else is answered OK. -/
def execTunClose (src tok tid : Nat) (s : State) : Host.Outcome State Fault Refusal :=
  s.act fun h => h.when (h.fwOn && h.up 0x40) fun h =>
    if !h.isCrown src then h.tunAck src tok 6 0x12 tid 0
    else
      match h.tunFind tid with
      | none => h.tunAck src tok 0 0x12 tid 0
      | some i =>
        let st := (h.tun i).state
        (if st = 2 then h.tunState i 3 else if st = 1 then h.tunState i 0 else h).tunAck src tok 0 0x12 tid i

/-- TUN_ACK at the crown (R197, R198): the TOKEN names the request, so TID and index tell nothing more. -/
def execTunAck (src tok status typ _tid _idx : Nat) (s : State) : Host.Outcome State Fault Refusal :=
  s.act fun h => h.when h.fwOn fun h => h.takeAnswer src tok status typ

/-- TUNNEL_MSG_RETRY (R198). -/
def execTunnelMsgRetry (tok : Nat) (s : State) : Host.Outcome State Fault Refusal :=
  s.act fun h => h.when h.fwOn fun h => h.retryAsk tok

/-- PENDING_TIMEOUT (R196): a PENDING entry past PEND_MS. -/
def execPendingTimeout (idx : Fin 8192) (s : State) : Host.Outcome State Fault Refusal :=
  s.act fun h => h.when (h.up 0x40 && (h.tun idx).state == 1) fun h =>
    ((h.tunState idx 0).cnt TUN.CNT_EXPIRE_COUNT).irq 0x40 1

/-- DRAINING_TIMEOUT (R196): a DRAINING entry past DRAIN_MS. -/
def execDrainingTimeout (idx : Fin 8192) (s : State) : Host.Outcome State Fault Refusal :=
  s.act fun h => h.when (h.up 0x40 && (h.tun idx).state == 3) fun h => h.tunState idx 0

/-- TUNNEL_ENTRY_WRITE (R181): a write of word 7 of a tunnel table entry. -/
def execTunnelEntryWrite (r : Req) (idx : Fin 8192) (v : Nat) (s : State) : Host.Outcome State Fault Refusal :=
  s.act fun h => h.asWrite r (tunAddr idx + 28) 4 fun h =>
    (h.tunReplace idx (h.stagedWords r.master 0 ⟨0x400000, 32, 8192, 2, false⟩ idx (v % 2 ^ 32))
      (Hub.accCap r true (tunAddr idx + 28))).clearStaging r.master 0

/-- ROUTE_GEN_SWITCH (R186): a write of RTE.GEN.CUR. -/
def execRouteGenSwitch (r : Req) (v : Nat) (s : State) : Host.Outcome State Fault Refusal :=
  s.act fun h => h.asReg r RTE.GEN_CUR 0 fun h => h.wr RTE.GEN_CUR v

/-- MERGE_INIT (R204): a 1 written to TWN.CCTL.INIT. -/
def execMergeInit (r : Req) (s : State) : Host.Outcome State Fault Refusal :=
  s.act fun h => h.asGo r TWN.CCTL_INIT 0 fun h => h.initContext (h.rd TWN.CSEL_CTX)

/-- A path of an active context becomes silent (R204): its flag is set if the other path has delivered within the same
interval. -/
def Hub.pathSilent (h : Hub) (ctx : Nat) (pathB : Bool) : Hub :=
  (h.wrBit TWN.hQuiet (bnat pathB) true 0 ctx).when
    (!h.bit TWN.hQuiet (bnat !pathB) 0 ctx && h.bit TWN.hHeard (bnat !pathB) 0 ctx) fun h => h.silence ctx pathB

/-- PATH_SILENT (R204). -/
def execPathSilent (ctx : Fin 1024) (pathB : Bool) (s : State) : Host.Outcome State Fault Refusal :=
  s.act fun h => h.when (h.up 0x69 && h.on TWN.CCFG_ACTIVE 0 ctx) fun h => h.pathSilent ctx pathB

/-- RRQ_SEND (R192): a write of `v` to RRQ_CTL with GO set. -/
def execRrqSend (r : Req) (v : Nat) (s : State) : Host.Outcome State Fault Refusal :=
  s.act fun h => h.asGo r TUN.RRQ_CTL_GO 0 fun h =>
    (h.wr TUN.RRQ_CTL_WRITE (bits v 1 1) |>.wr TUN.RRQ_CTL_COUNT (bits v 2 4)).rrqSend (Hub.regCap r TUN.RRQ_CTL_GO 0)

/-- REG_RSP (R192, R193). -/
def execRegRsp (src tok status failidx count : Nat) (data : List Nat) (s : State) : Host.Outcome State Fault Refusal :=
  s.act fun h => h.when (h.up 0x40) fun h =>
    if h.rd TUN.RRQ_CTL_DONE = 1 ∧ tok % 2 ^ 16 = h.rd TUN.RRQ_STAT_TOKEN then
      let h1 := h.wr TUN.RRQ_STAT_STATUS status |>.wr TUN.RRQ_STAT_FAILIDX failidx
      let h2 := h1.when (!h.on TUN.hRrqWr) fun h =>
        h.each (List.range (min 12 count)) fun i h => h.wr (TUN.RRQ_DATA.word i) (data.getD i 0)
      let h3 := (h2.wr TUN.RRQ_CTL_DONE (if status = 0 then 2 else 3)).irq 0x40 0
      if h.on TUN.hSettle then (h3.wr TUN.hSettle 0).settleIn (status == 0) (data.getD 0 0) else h3.settleGo
    else if (Tab.find (tok % 2 ^ 16) h.asks).any fun a => a.msg.typ == 0x02 then h.takeAnswer src (tok % 2 ^ 16) status 0x02
    else h.cnt TUN.RRA_CNT_LATE

/-- RRQ_TIMEOUT (R192): no response within RRQ_TMO. -/
def execRrqTimeout (s : State) : Host.Outcome State Fault Refusal :=
  s.act fun h => h.when (h.up 0x40 && h.rd TUN.RRQ_CTL_DONE == 1) fun h =>
    let h1 := (h.wr TUN.RRQ_CTL_DONE 3 |>.wr TUN.RRQ_STAT_STATUS 0xFF).raise 0x40 3
    if h.on TUN.hSettle then (h1.wr TUN.hSettle 0).settleIn false 0 else h1.settleGo

end Sys2Proof.Machine
end

