-- ==== Sys2Proof/Machine/Carat.lean ====
section
/-! DEFINITION. The messages of the carat allotment engine (R272 to R283) and the crown's side of them (R277 to
R280, R335). -/

namespace Sys2Proof.Machine

/-- The answer of CRT to one message: STATUS, LIMIT, AVAIL and the record's entry index, if any (R272, R274). -/
structure CrtAns where
  status : Nat
  limit : Nat := 15
  avail : Nat := 0
  idx : Option Nat := none
  deriving DecidableEq, Repr

namespace Hub

/-- The record held for a tunnel ID: that of its entry, else one that its entry left behind in FREE (R262, R283). -/
def recFind (h : Hub) (tid : Nat) : Option Nat :=
  match h.tunFind tid with
  | some i => some i
  | none => (tunWays tid).find? fun i => (h.tun i).tid == tid && h.rd CRT.RREC_STATE 0 i != 0

/-- The counts and marks of a message that is not answered OK (R276, R288), and CRT_ACK with the record's values after the message
(R272, R273). -/
def crtAnswer (h : Hub) (src tok typ tid txn : Nat) (a : CrtAns) : Hub :=
  let h1 := if a.status = 6 then h.raise 0x61 1 { lo := some (src % 2 ^ 14) } else h
  let h2 := if a.status = 1 ∨ a.status = 2 then
      ((h1.cnt CRT.CNT_REFUSE_COUNT).irq 0x61 0).wr CRT.LASTREF_TID tid |>.wr CRT.LASTREF_LIMIT a.limit
        |>.wr CRT.LASTREF_STATUS a.status
    else if 3 ≤ a.status ∧ a.status ≤ 8 then h1.cnt CRT.CNT_BADMSG_COUNT else h1
  let rec_ := h2.recFind tid
  let c := (rec_.map fun i => h2.rd CRT.RREC_COMMITTED 0 i).getD 0
  let t := (rec_.map fun i => h2.rd CRT.RREC_TARGET 0 i).getD 0
  h2.ctlSend { typ := 0x25, resp := true, dst := src, tok := tok,
               body := natLe 1 a.status ++ natLe 1 typ ++ natLe 1 a.limit ++ natLe 1 0 ++ natLe 4 tid ++ natLe 2 txn ++
                 natLe 2 c ++ natLe 2 t ++ natLe 2 a.avail }

/-- The tests of R266 for a change of record `i` from a total of `a` to `b` ct: the first refusal, if any. -/
def fits (h : Hub) (i a b : Nat) : Option CrtAns :=
  let es := pointsOf (h.tun i).egress
  let m := es.length
  match es.find? fun e => decide (h.pcap e + a < h.pres e + b) with
  | some e => some { status := 1, limit := e, avail := h.pcap e - h.pres e, idx := some i }
  | none =>
    if h.rd FIL.GUARD_LIMIT + coreCharge a m < h.rd FIL.ADMLOAD_CT + coreCharge b m then
      some { status := 2, limit := 14, avail := h.rd FIL.GUARD_LIMIT - h.rd FIL.ADMLOAD_CT, idx := some i }
    else none

/-- RESERVE at an entry that is PENDING or OPEN (R266, R274, R275). -/
def reserveAt (h : Hub) (src txn amount egress i : Nat) : Hub × CrtAns :=
  let c := h.rd CRT.RREC_COMMITTED 0 i
  let t := h.rd CRT.RREC_TARGET 0 i
  let st := h.rd CRT.RREC_STATE 0 i
  let same := h.rd CRT.RTXN_TXN 0 i == txn % 2 ^ 16
  if egress ≠ 0 && egress ≠ (h.tun i).egress then (h, { status := 5, idx := some i })
  else if amount < c ∨ 4095 < amount then (h, { status := 8, idx := some i })
  else if st = 2 && !same then (h, { status := 3, idx := some i })
  else if same && ((st == 2 && amount == t) || (st == 1 && amount == c)) then (h, { status := 0, idx := some i })
  else
    match (if amount ≤ t then none else h.fits i t amount) with
    | some a => (h, a)
    | none =>
      (((h.setTxn i txn src).setRec i c amount (if amount = c then bnat (c != 0) else 2)).cnt CRT.CNT_RESERVE_COUNT,
       { status := 0, idx := some i })

end Hub

/-- RESERVE (R266, R274, R275). -/
def execReserve (src tok tid txn amount egress : Nat) (s : State) : Host.Outcome State Fault Refusal :=
  s.act fun h => h.when (h.up 0x61) fun h =>
    let (h1, a) : Hub × CrtAns :=
      if !h.isCrown src then (h, { status := 6 })
      else
        match h.tunFind tid with
        | none => (h, { status := 4 })
        | some i => if (h.tun i).state = 3 then (h, { status := 4 }) else h.reserveAt src txn amount egress i
    h1.crtAnswer src tok 0x20 tid txn a

/-- CARAT_COMMIT, the message COMMIT (R271, R274, R275). -/
def execCaratCommit (src tok tid txn : Nat) (s : State) : Host.Outcome State Fault Refusal :=
  s.act fun h => h.when (h.up 0x61) fun h =>
    let (h1, a) : Hub × CrtAns :=
      if !h.isCrown src then (h, { status := 6 })
      else
        match h.tunFind tid with
        | none => (h, { status := 4 })
        | some i =>
          if (h.tun i).state = 3 then (h, { status := 4 })
          else if h.rd CRT.RTXN_TXN 0 i ≠ txn % 2 ^ 16 then (h, { status := 7, idx := some i })
          else if h.rd CRT.RREC_STATE 0 i = 2 then
            let t := h.rd CRT.RREC_TARGET 0 i
            (((h.setTxn i txn src).setRec i t t 1).cnt CRT.CNT_COMMIT_COUNT, { status := 0, idx := some i })
          else (h, { status := 0, idx := some i })
    h1.crtAnswer src tok 0x21 tid txn a

/-- ABORT (R271, R274, R275), also for a record that its entry left behind in FREE. -/
def execAbort (src tok tid txn : Nat) (s : State) : Host.Outcome State Fault Refusal :=
  s.act fun h => h.when (h.up 0x61) fun h =>
    let (h1, a) : Hub × CrtAns :=
      if !h.isCrown src then (h, { status := 6 })
      else
        match h.recFind tid with
        | none => (h, { status := 0 })
        | some i =>
          if h.rd CRT.RTXN_TXN 0 i ≠ txn % 2 ^ 16 then (h, { status := 7, idx := some i })
          else if h.rd CRT.RREC_STATE 0 i = 2 then
            (((h.setTxn i txn src).endReserve i).cnt CRT.CNT_ABORT_COUNT, { status := 0, idx := some i })
          else (h, { status := 0, idx := some i })
    h1.crtAnswer src tok 0x22 tid txn a

/-- DECREASE and RELEASE at a record (R271, R281): a reserved increase ends, and the record falls to `amount` at
once. -/
def Hub.lowerTo (h : Hub) (src txn amount i : Nat) : Hub :=
  ((h.setTxn i txn src).setRec i amount amount (bnat (amount != 0))).cnt CRT.CNT_DECREASE_COUNT

/-- DECREASE and RELEASE for a TID held in no entry other than FREE: the record is left in NONE (R274). -/
def Hub.dropRec (h : Hub) (src txn tid : Nat) : Hub :=
  match h.recFind tid with
  | some i => h.lowerTo src txn 0 i
  | none => h

/-- DECREASE (R271, R274, R281). -/
def execDecrease (src tok tid txn amount : Nat) (s : State) : Host.Outcome State Fault Refusal :=
  s.act fun h => h.when (h.up 0x61) fun h =>
    let (h1, a) : Hub × CrtAns :=
      if !h.isCrown src then (h, { status := 6 })
      else
        match h.tunFind tid with
        | none => (h.dropRec src txn tid, { status := 0 })
        | some i =>
          if h.rd CRT.RREC_COMMITTED 0 i < amount then (h, { status := 8, idx := some i })
          else (h.lowerTo src txn amount i, { status := 0, idx := some i })
    h1.crtAnswer src tok 0x23 tid txn a

/-- RELEASE (R271, R274). -/
def execRelease (src tok tid txn : Nat) (s : State) : Host.Outcome State Fault Refusal :=
  s.act fun h => h.when (h.up 0x61) fun h =>
    let (h1, a) : Hub × CrtAns :=
      if !h.isCrown src then (h, { status := 6 })
      else
        match h.tunFind tid with
        | none => (h.dropRec src txn tid, { status := 0 })
        | some i => (h.lowerTo src txn 0 i, { status := 0, idx := some i })
    h1.crtAnswer src tok 0x24 tid txn a

/-- CRT_ACK at the crown (R277, R279, R335): the request that the TOKEN names is answered, and a hop held as
unreconciled is struck off. -/
def execCrtAck (src tok status typ tid txn _committed : Nat) (s : State) : Host.Outcome State Fault Refusal :=
  s.act fun h => h.when h.fwOn fun h =>
    let h1 := h.takeAnswer src tok status typ
    if status = 0 then
      { h1 with unrec := h1.unrec.filter fun u => !(u.hop == src && u.typ == typ && u.tid == tid && u.txn == txn) }
    else h1

/-- CARAT_MSG_RETRY (R279). -/
def execCaratMsgRetry (tok : Nat) (s : State) : Host.Outcome State Fault Refusal :=
  s.act fun h => h.when h.fwOn fun h => h.retryAsk tok

/-- HOLD_EXPIRY (R271): a RESERVED record past its hold. -/
def execHoldExpiry (idx : Fin 8192) (s : State) : Host.Outcome State Fault Refusal :=
  s.act fun h => h.when (h.up 0x61 && h.rd CRT.RREC_STATE 0 idx == 2) fun h =>
    (((h.endReserve idx).cnt CRT.CNT_EXPIRE_COUNT).raise 0x61 2 { lo := (h.tun idx).tid }).irq 0x61 1

/-- ORPHAN_RELEASE (R283): the record of an entry that is FREE. -/
def execOrphanRelease (idx : Fin 8192) (s : State) : Host.Outcome State Fault Refusal :=
  s.act fun h => h.when (h.up 0x61 && (h.tun idx).state == 0 && h.rd CRT.RREC_STATE 0 idx != 0) fun h =>
    (((((h.setRec idx 0 0 0).loadMeter idx).cnt CRT.CNT_ORPHAN_COUNT).raise 0x61 3 { lo := (h.tun idx).tid }).irq 0x61 3).crtNotice 3 0
      (h.tun idx).tid 0 0

/-- UNRECONCILED_CHECK (R335 step 5): the record of each unreconciled hop is read, and its message is sent again until the record
matches. -/
def execUnreconciledCheck (s : State) : Host.Outcome State Fault Refusal :=
  s.act fun h => h.when (h.fwOn && h.rd CAS.STAT_CROLE == 1) fun h =>
    h.settleAll ((h.unrec.filter fun u => !h.settles.any fun s => s.unrec == some u).map fun u =>
      { tid := u.tid, txn := u.txn, src := u.hop, hops := [u.hop], unrec := some u })

end Sys2Proof.Machine
end

