-- ==== Sys2Proof/Machine/Cascade.lean ====
section
/-! DEFINITION. Discovery, the crown election, tiers and uplinks, and fabric time, as shared operations (R313 to R322,
R332, R334). -/

namespace Sys2Proof.Machine

/-- A NEIGHBOUR payload read (R316). -/
def parseNbr (p : Bytes) : Nbr :=
  let b (i : Nat) : Nat := leAt p i 1
  { device := leAt p 0 8, node := leAt p 8 2 % 2 ^ 14, nodeValid := (leAt p 8 2).testBit 15, tier := b 10 % 16,
    cand := (b 10).testBit 4, crown := (b 10).testBit 5, prio := b 11, epoch := leAt p 12 2, dgen := leAt p 14 2, crownNode := leAt p 16 2 % 2 ^ 14,
    crownValid := (leAt p 16 2).testBit 15, standby := leAt p 18 2 % 2 ^ 14, standbyValid := (leAt p 18 2).testBit 15,
    parent := (b 20).testBit 0, sparent := (b 20).testBit 1, dist := b 21, bestPrio := b 22, best := leAt p 24 8 }

namespace Hub

/-- Whether cascade runs: CORE and MGMT are on and the node is not stand-alone (R24, R340). -/
def casOn (h : Hub) : Bool := h.up 0x68 && h.fwOn && !h.on TOP.NODECFG_STANDALONE

/-- The port of a relation (R314), if any: 1 PARENT, 2 SPARENT. -/
def relPort (h : Hub) (rel : Nat) : Option Nat := (List.range 8).find? fun p => h.rd CAS.NBR_REL 0 p == rel

/-- NODEID set, with ISTAT.NODEID on a change (R340). -/
def setNodeId (h : Hub) (id valid tier : Nat) : Hub :=
  let same := h.rd CAS.NODEID_ID == id && h.rd CAS.NODEID_VALID == valid && h.rd CAS.NODEID_TIER == tier
  (h.wr CAS.NODEID_ID id |>.wr CAS.NODEID_VALID valid |>.wr CAS.NODEID_TIER tier).when (!same) fun h => h.irq 0x68 0

/-- CAS.CROWN set, with ISTAT.CROWN on a change, and PCROWN loaded with the old node where the node changes (R327,
R339, R340). -/
def setCrown (h : Hub) (node valid standby sValid : Nat) : Hub :=
  let same := h.rd CAS.CROWN_NODE == node && h.rd CAS.CROWN_VALID == valid && h.rd CAS.CROWN_STANDBY == standby &&
    h.rd CAS.CROWN_S_VALID == sValid
  let h1 := h.when (h.on CAS.CROWN_VALID && h.rd CAS.CROWN_NODE != node) fun h =>
    h.wr CAS.PCROWN_NODE (h.rd CAS.CROWN_NODE) |>.wr CAS.PCROWN_VALID 1
  (h1.wr CAS.CROWN_NODE node |>.wr CAS.CROWN_VALID valid |>.wr CAS.CROWN_STANDBY standby
    |>.wr CAS.CROWN_S_VALID sValid).when (!same) fun h => h.irq 0x68 1

/-! ### Election, tiers, uplinks -/

/-- BEST and DIST over the stored NEIGHBOURs, while the node holds no epoch (R318). -/
def refreshBest (h : Hub) : Hub :=
  let own : Nat × Nat × Nat := if h.isCandidate then (h.rd CAS.CFG_PRIO, h.deviceId, 0) else (0, 0, 15)
  let (prio, dev, dist) := h.nbrs.foldl (fun (b : Nat × Nat × Nat) (p : Nat × Nbr) =>
    let n := p.2
    if n.dist ≤ 7 ∧ 0 < n.bestPrio then
      if b.2.2 = 15 ∨ betterCand n.bestPrio n.best b.1 b.2.1 = true ∨
          (n.best = b.2.1 ∧ n.bestPrio = b.1 ∧ n.dist + 1 < b.2.2) then (n.bestPrio, n.best, n.dist + 1) else b
    else b) own
  let h1 := h.wr CAS.STAT_CAND (bnat h.isCandidate)
  if h.on CAS.EPOCH_EPOCH then h1
  else h1.wr CAS.BESTINFO_PRIO prio |>.wr CAS.BESTINFO_DIST dist |>.wr CAS.BEST_LO_ID (dev % 2 ^ 32)
    |>.wr CAS.BEST_HI_ID (dev / 2 ^ 32)

/-- The neighbours that stand at the node's upstream tier on ports allowed as uplinks, best first (R322). -/
def uplinkOrder (h : Hub) (tier : Nat) : List (Nat × Nbr) :=
  let l := h.nbrs.filter fun p => p.2.tier == tier && p.2.epoch == h.rd CAS.EPOCH_EPOCH && h.bit CAS.CFG_UPMASK p.1
  l.mergeSort fun a b => decide (a.2.device < b.2.device) || (a.2.device == b.2.device && decide (a.1 ≤ b.1))

/-- The relation of each port to its partner (R314), given the uplink ports; a NEIGHBOUR of a lower EPOCH says nothing (R320), and of
a node with an ID every other UP port is LATERAL. -/
def setRels (h : Hub) (parent sparent : Option Nat) : Hub :=
  h.each (List.range 8) fun p h =>
    let n := Tab.get ({} : Nbr) p h.nbrs
    let now := n.epoch == h.rd CAS.EPOCH_EPOCH
    h.wr CAS.NBR_REL (if parent = some p then 1 else if sparent = some p then 2 else if now && n.parent then 3
      else if now && n.sparent then 4 else if h.on CAS.NODEID_VALID && h.portUp p then 5 else 0) 0 p

/-- The time source follows the uplinks (R332). -/
def refreshSource (h : Hub) : Hub :=
  let src := match h.relPort 1 with
    | some p => if h.portUp p then some p else (h.relPort 2).filter h.portUp
    | none => (h.relPort 2).filter h.portUp
  match src with
  | some p => h.wr CAS.TSTAT_SRCPORT p |>.wr CAS.TSTAT_SRC_VALID 1 |>.wr CAS.TSTAT_HOLDOVER 0
  | none => h.wr CAS.TSTAT_SRC_VALID 0 |>.wr CAS.TSTAT_HOLDOVER (bnat (h.rd CAS.STAT_CROLE != 1))

/-- RTE.UPLINK written from PARENT and SPARENT (R324, R334). -/
def writeUplink (h : Hub) : Hub :=
  let h1 := match h.relPort 1 with
    | some p => h.wr RTE.UPLINK_PRIMARY p |>.wr RTE.UPLINK_P_VALID 1
    | none => h.wr RTE.UPLINK_P_VALID 0
  (match h.relPort 2 with
    | some p => h1.wr RTE.UPLINK_SECONDARY p |>.wr RTE.UPLINK_S_VALID 1
    | none => h1.wr RTE.UPLINK_S_VALID 0).refreshPoints

/-- The uplinks changed by `f`: a node with an ID writes RTE.UPLINK where they are no longer the same (R324, R334, R336). -/
def uplinkChange (h : Hub) (f : Hub → Hub) : Hub :=
  let h' := f h
  h'.when (h'.on CAS.NODEID_VALID && (h'.relPort 1 != h.relPort 1 || h'.relPort 2 != h.relPort 2)) Hub.writeUplink

/-- The node gives up its ID and block: no working path leads to the crown within the limit (R313, R322, R334). -/
def noId (h : Hub) : Hub :=
  ((h.setRels none none).wr CAS.STAT_DSTATE 5 |>.wr CAS.BLOCK_FIRST 0 |>.wr CAS.BLOCK_SIZE 0
    |>.wr CAS.POOL_FREE 0).setNodeId 0 0 15

/-- Tier, PARENT and SPARENT under the current EPOCH (R322): a crown stands at tier 0 and has no uplink. A node whose tier
would exceed 8 keeps no PARENT, and no node ID or block (R313, R334). -/
def refreshTier (h0 : Hub) : Hub := h0.uplinkChange fun h =>
  let stored := h.nbrs.filter fun p => p.2.epoch == h.rd CAS.EPOCH_EPOCH
  let cur := stored.filter fun p => p.2.tier != 15
  if h.rd CAS.STAT_CROLE = 1 ∨ h.on CAS.EPOCH_EPOCH = false then (h.setRels none none).refreshSource
  else if cur.isEmpty then
    (if stored.isEmpty || !h.on CAS.NODEID_VALID then h.setRels none none else h.noId).refreshSource
  else
    let low := cur.foldl (fun (m : Nat) (p : Nat × Nbr) => min m p.2.tier) 15
    if 8 < low + 1 then
      (h.noId.wr CAS.hDeep 1 |>.when (!h.on CAS.hDeep) fun h => (h.raise 0x68 1).linkEvent 6 0 0 0 0 0).refreshSource
    else
      let order := h.uplinkOrder low
      let h1 := (h.setRels ((order.head?).map (·.1)) ((order.drop 1).head?.map (·.1))).wr CAS.hDeep 0
      let h2 := h1.when (!order.isEmpty && h1.on CAS.hIsolated) fun h =>
        h.wr CAS.hIsolated 0 |>.wr CAS.STAT_DSTATE (if h.on CAS.NODEID_VALID then 4 else 2)
      (h2.setNodeId (h.rd CAS.NODEID_ID) (h.rd CAS.NODEID_VALID) (low + 1)).refreshSource

/-- What a higher DGEN clears (R320): node ID, block, counts, grants and routing generation, and every tunnel table
entry. -/
def clearDiscovery (h : Hub) : Hub :=
  let gone : Path := { gone := h.goneAt }
  let h1 := { h with granted := [], ready := [], paths := h.paths.map fun (p : Nat × Path) => (p.1, gone) }.setNodeId 0 0 (h.rd CAS.NODEID_TIER)
    |>.wr CAS.BLOCK_FIRST 0 |>.wr CAS.BLOCK_SIZE 0 |>.wr CAS.POOL_FREE 0 |>.wr RTE.GEN_CUR 0 |>.wr CAS.STAT_DSTATE 2
    |>.wr CAS.hTooMany 0
  let h2 := h1.each (List.range 8) fun p h => h.wr CAS.NBRCNT_VALID 0 0 p
  let h3 := { h2 with tab := Tab.wipe (0x440000 / 4) (0x460000 / 4) h2.tab }
  let idxs := (Tab.keys h3.tab).filterMap fun k =>
    if 0x400000 / 4 ≤ k ∧ k < 0x440000 / 4 ∧ k % 8 = 0 then some ((k - 0x400000 / 4) / 8) else none
  h3.each idxs fun i h => h.tunState i 0

/-- What LEDGER INTENT says of an intent taken over from another crown (R326). -/
def intentBody (i : Intent) : Bytes :=
  ({ tid := i.tid, txn := i.txn, before := i.before, after := i.after, hops := i.hops : Leg }).ledger 1

/-- The crown yields (R321): CROLE clears, DEPOSED and its record are written, and each open intent, its own and those it
was still settling, goes to the new crown, again until it is answered. -/
def depose (h : Hub) : Hub :=
  let bodies := (h.changes.flatMap fun c => c.2.legs.map (·.ledger 1)) ++ h.intents.map intentBody
  let h1 := ((h.wr CAS.STAT_CROLE 0).raise 0x68 3).locketPut { typ := 9, page := 0x68 }
  { h1 with changes := [], asks := [], paths := [], settles := [], unrec := [], intents := [] }.each bodies fun b h =>
    h.askFor none 0x46 (h.rd CAS.CROWN_NODE) b

/-- The crown's own place in a discovery that begins: tier 0 and BASE as its ID (R319). -/
def crownPlace (h : Hub) : Hub :=
  let base := h.rd CAS.DISC_BASE
  ((h.setNodeId base 1 0).setCrown base 1 0 0).refreshTier

/-- What a stored NEIGHBOUR makes the node take over (R320, R321); at a crown, any other node that it names as crown is
kept as the previous one (R339). -/
def hearNbr (h : Hub) (p : Nat) (n : Nbr) : Hub :=
  let e := h.rd CAS.EPOCH_EPOCH
  let d := h.rd CAS.EPOCH_DGEN
  let crown := h.rd CAS.STAT_CROLE == 1
  let yields := crown && (decide (e < n.epoch) || (n.epoch == e && n.crown &&
    betterCand n.prio n.device (h.rd CAS.CFG_PRIO) h.deviceId))
  let h := h.when (crown && !yields && n.crownValid && n.crownNode != h.rd CAS.CROWN_NODE) fun h =>
    h.wr CAS.PCROWN_NODE n.crownNode |>.wr CAS.PCROWN_VALID 1
  if n.epoch < e then h
  else
    let take := decide (e < n.epoch) || yields || (!crown && h.rd CAS.NBR_REL 0 p == 1 && e != 0)
    let h1 := h.when take fun h =>
      (h.wr CAS.EPOCH_EPOCH n.epoch).setCrown n.crownNode (bnat n.crownValid) n.standby (bnat n.standbyValid)
    let h3 := h1.when yields Hub.depose
    let h4 := h3.when (h3.rd CAS.STAT_CROLE == 2 && decide (e < n.epoch) && !(n.standbyValid &&
      n.standby == h3.rd CAS.NODEID_ID)) fun h => h.wr CAS.STAT_CROLE 0
    h4.when (decide (d < n.dgen)) fun h =>
      ((h.wr CAS.EPOCH_DGEN n.dgen).clearDiscovery).when (h.rd CAS.STAT_CROLE == 1) Hub.crownPlace

/-- A NEIGHBOUR received on port `p` (R317, R318, R320 to R322). -/
def neighbourIn (h : Hub) (p : Nat) (payload : Bytes) : Hub :=
  let n := parseNbr payload
  let h0 := { h with nbrs := Tab.ins p n h.nbrs }.cnt CAS.CNT_NBR_COUNT
    |>.wr CAS.NBR_NODE n.node 0 p |>.wr CAS.NBR_NODE_VALID (bnat n.nodeValid) 0 p |>.wr CAS.NBR_TIER n.tier 0 p
    |>.wr CAS.NBR_STORED 1 0 p |>.wr CAS.hMaxEpoch (max n.epoch (h.rd CAS.hMaxEpoch))
    |>.wr CAS.hMaxDgen (max n.dgen (h.rd CAS.hMaxDgen))
  let h1 := h0.when (h0.rd CAS.STAT_DSTATE == 0) fun h => h.wr CAS.STAT_DSTATE 1
  let h2 := ((h1.hearNbr p n).refreshBest).refreshTier
  (h2.when (h2.on CAS.EPOCH_EPOCH && h2.rd CAS.STAT_DSTATE == 1) fun h => h.wr CAS.STAT_DSTATE 2).refreshPoints

/-! ### Losing a port -/

/-- The ports of the children, in ascending order (R314). -/
def children (h : Hub) : List Nat := (List.range 8).filter fun p => h.rd CAS.NBR_REL 0 p == 3

/-- COUNT = 1 + the child COUNTs + SPARE (R323). -/
def countSum (h : Hub) : Nat :=
  1 + ((h.children.map fun p => h.rd CAS.NBRCNT_COUNT 0 p).sum) + h.rd CAS.CFG_SPARE

/-- Whether a COUNT has arrived from every child. -/
def countsIn (h : Hub) : Bool := h.children.all fun p => h.on CAS.NBRCNT_VALID 0 p

/-- COUNT sent on the PARENT port. -/
def countUp (h : Hub) : Hub :=
  match h.relPort 1 with
  | some p => h.lmcSend p 0x12 0 (natLe 2 h.countSum ++ natLe 2 (h.rd CAS.EPOCH_EPOCH))
  | none => h

/-- COUNT again at once where the sum was `old` and has changed, while the node waits for its grant (R323). -/
def recount (h : Hub) (old : Nat) : Hub :=
  h.when (h.rd CAS.STAT_DSTATE == 3 && h.countSum != old && h.countsIn) Hub.countUp

/-- Cascade's part where port `p` leaves UP (R317, R322, R334 to R336): the stored NEIGHBOUR is dropped, the crowns hear
PORT_DOWN where the port is DOWN, SPARENT takes the place of a lost PARENT, and new uplinks are looked for. -/
def casPortLost (h0 : Hub) (p : Nat) (down : Bool := true) : Hub :=
  let rel := h0.rd CAS.NBR_REL 0 p
  let partner := h0.rd CAS.NBR_NODE 0 p
  let dev := (Tab.get ({} : Nbr) p h0.nbrs).device
  let sp := (h0.relPort 2).filter h0.portUp
  let drop (h : Hub) : Hub :=
    { h with nbrs := Tab.del p h.nbrs }.wr CAS.NBR_STORED 0 0 p |>.wr CAS.NBR_REL 0 0 p
      |>.wr CAS.NBR_NODE_VALID 0 0 p |>.wr CAS.NBR_NODE 0 0 p |>.wr CAS.NBR_TIER 15 0 p |>.wr CAS.NBRCNT_VALID 0 0 p
  if !h0.casOn then drop h0
  else
    (h0.nbrChange fun h =>
      let h2 := ((drop h).when down fun h => h.linkEvent 1 p partner 0 dev 0).refreshBest
      if rel = 1 then
        match sp with
        | some q =>
          let h3 := ((h2.wr CAS.NBR_REL 1 0 q).writeUplink).refreshSource
          (h3.linkEvent 3 q (h3.rd CAS.NBR_NODE 0 q) 0 (Tab.get ({} : Nbr) q h3.nbrs).device 0).refreshTier
        | none =>
          let h3 := h2.refreshTier.writeUplink
          h3.when ((h3.relPort 1).isNone && h3.rd CAS.STAT_DSTATE != 5) fun h =>
            (h.wr CAS.hIsolated 1 |>.wr CAS.STAT_DSTATE 6).raise 0x68 6
      else if rel = 2 then h2.refreshTier.writeUplink
      else h2.refreshPoints).recount h0.countSum

/-- Cascade's part where port `p` comes UP (R314, R335). -/
def casPortUp (h : Hub) (p : Nat) : Hub :=
  h.when h.casOn fun h => ((h.when (h.on CAS.NODEID_VALID) fun h => h.wr CAS.NBR_REL 5 0 p).nbrSend p).linkEvent 2 p
    (h.rd OPT.PARTNER_NODE p) 0 (h.rd OPT.PARTNER_ID_HI_ID p * 2 ^ 32 + h.rd OPT.PARTNER_ID_LO_ID p) 0

/-! ### Fabric time -/

/-- Node time stepped by `d` ns (R332). -/
def stepTime (h : Hub) (d : Int) : Hub :=
  let t := (((h.now : Int) + d) % (2 ^ 64 : Nat)).toNat
  h.wr TOP.NTIME_LO_NS (t % 2 ^ 32) |>.wr TOP.NTIME_HI_NS (t / 2 ^ 32)

/-- A time result of the source port (R332): a step beyond STEP_NS, else the frequency and phase steering; and LOCKED
over eight results. `period` is OPT.TIME.PERIOD_US of the port. -/
def steer (h : Hub) (offset : Int) (period : Nat) : Hub :=
  let near := decide (offset.natAbs ≤ h.rd CAS.TSYNC_LOCK_NS)
  let n := if near then h.rd CAS.hNear + 1 else 0
  let f := if near then 0 else h.rd CAS.hFar + 1
  let locked := if 8 ≤ n then 1 else if 8 ≤ f then 0 else h.rd CAS.TSTAT_LOCKED
  let h0 := (h.wr CAS.hNear n |>.wr CAS.hFar f |>.wr CAS.TOFFSET_NS (ofSigned 32 offset)
    |>.wr CAS.TSTAT_LOCKED locked).when (locked != h.rd CAS.TSTAT_LOCKED) fun h => h.irq 0x68 2
  if h.rd CAS.TSYNC_STEP_NS < offset.natAbs then
    ((h0.stepTime offset).cnt CAS.CNT_STEP_COUNT).raise 0x68 5
  else
    let fadj := toSigned 32 (h.rd CAS.FADJ_PPB) +
      offset * 1000000 * 1024 / ((max 1 period : Nat) * 2 ^ h.rd CAS.TSYNC_KI_SHIFT)
    let lim : Int := 200000 * 1024
    h0.wr CAS.FADJ_PPB (ofSigned 32 (max (-lim) (min lim fadj)))
      |>.wr CAS.hSlew (ofSigned 64 (offset * 2 ^ 32 / 2 ^ h.rd CAS.TSYNC_KP_SHIFT)) |>.wr CAS.hSlewFor (period * 400)

end Hub

end Sys2Proof.Machine
end

