-- ==== Sys2Proof/Machine/Link.lean ====
section
/-! DEFINITION. The shared operations of Ocael lanes and ports: lane states and transmit equalisation (R99 to R108),
logical lanes, active sets and port formation (R108 to R113), port states and the entry into DOWN (R143 to R145),
power states of lanes (R119 to R123). -/

namespace Sys2Proof.Machine

/-- The bits set in a mask of four lanes. -/
def lanesOf (m : Nat) : List Nat := (List.range 4).filter m.testBit

/-- The mask of a list of lanes. -/
def maskOf (l : List Nat) : Nat := (l.map (2 ^ ·)).sum

/-- The widest of ×4, ×2 and ×1 that `n` lanes allow, as a number of lanes. -/
def widest (n : Nat) : Nat := if 4 ≤ n then 4 else if 2 ≤ n then 2 else n

/-- A width code as a number of lanes (R169). That a WIDTH.TARGET of 3 is ×4, as the rule says of CFG.WIDTH, is the model's choice
(log entry 161). -/
def lanesOfWidth (w : Nat) : Nat := if w = 0 then 1 else if w = 1 then 2 else 4

/-- A number of lanes as a width code. -/
def widthOfLanes (n : Nat) : Nat := if n ≤ 1 then 0 else if n = 2 then 1 else 2

/-- Whether a coefficient set obeys R99. -/
def coefOk (pre main post : Nat) : Bool :=
  pre + main + post == 40 && decide (pre ≤ 6 ∧ post ≤ 14 ∧ 20 ≤ main ∧ pre + post + 8 ≤ main)

namespace Hub

/-! ### Lanes -/

/-- Lane `l`'s state code (R104). -/
def lane (h : Hub) (l : Nat) : Nat := h.rd OLN.STAT_STATE l

/-- The commit point of TXCOEF (R101): the pending coefficients take effect, or are refused. -/
def txCommit (l : Nat) (h : Hub) : Hub :=
  if !h.on HDR.PSTAT_CPEND (0x20 + l) then h
  else if coefOk (h.rdShadow OLN.TXCOEF_PRE l) (h.rdShadow OLN.TXCOEF_MAIN l) (h.rdShadow OLN.TXCOEF_POST l) then
    (h.commitPage (0x20 + l)).refreshTx l
  else (h.dropShadow (0x20 + l)).raise (0x20 + l) 4

/-- Whether every lane of LNK domain `k` is in L2, OFF or RETIRED (R121). -/
def lanesIdle (h : Hub) (k : Nat) : Bool :=
  (List.range 8).all fun j => let s := h.lane (8 * k + j); s == 8 || s == 0 || s == 9

/-- PLL_LANE of domain `k` is off while every lane of it is in L2, OFF or RETIRED (R121). -/
def refreshLanePll (h : Hub) (k : Nat) : Hub :=
  h.when (h.lanesIdle k) fun h =>
    h.wrBit CLK.PLLSTAT_LOCK (5 + k) false |>.wrBit CLK.hUnlocked (5 + k) false

/-- The values that lane `l`'s receiver has adapted to (R102): the spec gives the bounds and no values, and free values stand
for them. A DFE that is not enabled takes no part. -/
def adapt (l : Nat) (h : Hub) : Hub :=
  let (c, h1) := h.free
  let h2 := ((h1.wr OLN.RXSTAT_CTLE (min (c % 16) (h.rd OLN.RXCTL_CTLE_MAX l)) l).wrFree OLN.hCdrPhase l).wrFree OLN.DFE_TAP1 l
    |>.wrFree OLN.DFE_TAP2 l |>.wrFree OLN.DFE_TAP3 l |>.wrFree OLN.DFE_TAP4 l |>.wrFree OLN.DFE_TAP5 l |>.wrFree OLN.DFE_TAP6 l
  h2.when (!h.on OLN.RXCTL_DFE_EN l) fun h =>
    h.wr OLN.DFE_TAP1 0 l |>.wr OLN.DFE_TAP2 0 l |>.wr OLN.DFE_TAP3 0 l |>.wr OLN.DFE_TAP4 0 l |>.wr OLN.DFE_TAP5 0 l
      |>.wr OLN.DFE_TAP6 0 l

/-- Whether lane `l`'s receiver is on and acquires or tracks the signal: from ACQUIRE to SPARE (R102, R104). -/
def tracks (h : Hub) (l : Nat) : Bool := decide (2 ≤ h.lane l ∧ h.lane l ≤ 6)

/-- The adapted values as the receiver of lane `l` stops tracking, or is frozen (R102, R119, R122): those of that moment, unless
FREEZE holds them already. -/
def holdAdapted (l : Nat) (h : Hub) : Hub := h.when (h.tracks l && !h.on OLN.RXCTL_FREEZE l) (adapt l)

/-- The receiver of lane `l` begins to acquire anew (R96, R104): no block lock, and no training block counted. -/
def freshLock (l : Nat) (h : Hub) : Hub :=
  h.wr OLN.RXSTAT_BLOCK_LOCK 0 l |>.wr OLN.RXSTAT_FRAME_LOCK 0 l |>.wr OLN.hTsRun 0 l |>.wr OLN.hHdrRun 0 l
    |>.wr OLN.hLockRun 0 l

/-- Lane `l` takes state `s` (R104, R131): a lane in electrical idle applies a pending TXCOEF at once (R101), FAULT
drops the saved coefficients (R122), a receiver that is off holds no lock, and where it tracks no signal, squelch reports none
until it detects one anew. -/
def setLane (h0 : Hub) (l s : Nat) : Hub :=
  if h0.lane l = s then h0
  else
    let h := h0.when (s == 0 || s == 1 || 7 ≤ s) (holdAdapted l)
    let h1 := (h.wr OLN.STAT_STATE s l).irq (0x20 + l) 0
    let h2 := h1.when (s == 10) fun h => h.wr OLN.STORE_VALID 0 l
    let h3 := h2.when (s == 0 || s == 1 || 8 ≤ s) fun h =>
      (h.wr OLN.RXSTAT_CDR_LOCK 0 l).freshLock l |>.wr OLN.hAmNext 0 l |>.wr OLN.hAmMiss 0 l
    let h4 := h3.when (s == 0 || s == 1 || 7 ≤ s) fun h => h.wr OLN.RXSTAT_SIGNAL 0 l
    (h4.when (s == 0 || s == 9 || s == 10) (Hub.txCommit l)).refreshLanePll (l / 8)

/-- A new tie value drawn for port `p`; what its lanes heard of the partner's counts no more (R108). -/
def drawTie (h : Hub) (p : Nat) : Hub :=
  let (v, h1) := h.free
  (h1.wr OPT.hTie (v % 2 ^ 12) p).each (List.range 4) fun k h => h.wr OLN.hTie 0 (4 * p + k)

/-- Lane `l` enters DETECT (R104): the preset returns to entry 0 of PRESEQ and the polarity is found anew. R108 has the port draw a
tie value 'on entering DETECT', which only lanes do: that it draws as a lane enters DETECT while no lane of it trains, in
states 1 to 4, is the model's choice (log entry 157). -/
def toDetect (h : Hub) (l : Nat) : Hub :=
  let p := l / 4
  let training := (List.range 4).any fun k => let s := h.lane (4 * p + k); decide (1 ≤ s ∧ s ≤ 4)
  ((h.when (!training) fun h => h.drawTie p).setLane l 1).wr OLN.hPreIx 0 l |>.wr OLN.hPreNext 0 l |>.wr OLN.RXSTAT_POL_INV 0 l
    |>.wr OLN.hPolFix 0 l |>.wr OLN.hTrain 0 l |>.wr OLN.STAT_PARTNER_LOCKED 0 l |>.refreshTx l

/-- PCTL.EN of lane `l` is 1 (R104, R127): the lane leaves OFF, except with CLASS 3 and in a stand-alone node (R24). -/
def laneEnable (l : Nat) (h : Hub) (c : Cap := {}) : Hub :=
  if h.lane l ≠ 0 ∨ h.on TOP.NODECFG_STANDALONE = true then h
  else if h.rd OLN.CFG_CLASS l = 3 then h.raise (0x20 + l) 7 c
  else h.toDetect l

/-- The preset stepped to the next entry of PRESEQ, which applies at the end of a TS block (R106). -/
def stepPreset (h : Hub) (l : Nat) : Hub :=
  let now := if h.on OLN.hPreNext l then h.rd OLN.hPreNext l - 1 else h.rd OLN.hPreIx l
  (h.wr OLN.hPreNext ((now + 1) % (h.rd OLN.PRESEQ_LEN l + 1) + 1) l).cnt OLN.CNT_TRAIN_STEPS l

/-! ### Logical lanes and active sets -/

/-- Logical lane of physical lane `k` of port `p`, and the other way round (R108). -/
def logical (h : Hub) (p k : Nat) : Nat := if h.on OPT.hMirror p then 3 - k else k

/-- The lane number of logical lane `k` of port `p`. -/
def laneNo (h : Hub) (p k : Nat) : Nat := 4 * p + h.logical p k

/-- The working lanes of port `p`, logical: ACTIVE and SPARE (R112). -/
def working (h : Hub) (p : Nat) : List Nat :=
  (List.range 4).filter fun k => h.lane (h.laneNo p k) == 5 || h.lane (h.laneNo p k) == 6

/-- A lane control block sent on logical lanes of port `p`. -/
def sendBlock (h : Hub) (p : Nat) (ks : List Nat) (v : Nat) : Hub :=
  h.each ks fun k h => h.ctlPut (h.laneNo p k) v

/-- STAT.ACTIVE and STAT.SPARE of port `p` follow its lanes. -/
def refreshPortLanes (h : Hub) (p : Nat) : Hub :=
  let inState (s : Nat) : Nat := maskOf ((List.range 4).filter fun k => h.lane (h.laneNo p k) == s)
  h.wr OPT.STAT_SPARE (inState 6) p |>.wr OPT.STAT_ACTIVE (inState 5) p

/-- The active set that R112 gives: the widest that the working lanes allow, no wider than the present width, which stands in
STAT.WIDTH until the port transmits on the new set, on the lowest logical lanes. A spare that arrives too late for the
deskew buffer is not selected (R109). -/
def newSet (h : Hub) (p : Nat) : List Nat :=
  let w := (h.working p).filter fun k =>
    h.lane (h.laneNo p k) == 5 || decide (h.rd OLN.SKEW_BLOCKS (h.laneNo p k) ≤ 48)
  w.take (min (widest w.length) (lanesOfWidth (h.rd OPT.STAT_WIDTH p)))

/-- Port `p` transmits on the logical lanes of `m`; its other working lanes become spares, and pending coefficients of
lanes that stay ACTIVE take effect (R112, R113, R118). -/
def applySet (h : Hub) (p m : Nat) : Hub :=
  let h1 := h.each (h.working p) fun k h =>
    let l := h.laneNo p k
    if m.testBit k then (h.when (h.lane l == 5) (Hub.txCommit l)).setLane l 5 else h.setLane l 6
  ((h1.wr OPT.hTxSet m p |>.wr OPT.STAT_WIDTH (widthOfLanes (lanesOf m).length) p).refreshPortLanes p).refreshPoints

/-! ### Port states -/

/-- Port `p` takes state `s` (R143, R170); leaving UP ends the freshness of the key slots (R164). -/
def setPort (h : Hub) (p s : Nat) : Hub :=
  let old := h.rd OPT.STAT_STATE p
  if old = s then h
  else ((h.wr OPT.STAT_STATE s p).irq (0x10 + p) 0).when (old == 3) fun h => h.wr KEY.hFresh 0 0 p

/-- Whether a width request of port `p` has not yet sent its RETIRE (R158). -/
def widthOpen (h : Hub) (p : Nat) : Bool := h.rd OPT.hWidth p == 1 || (h.rd OPT.hWidth p == 2 && h.rd OPT.hRet p == 1)

/-- A width request ends with `done` (R157, R158). -/
def endWidth (h : Hub) (p done : Nat) : Hub :=
  h.wr OPT.WIDTH_DONE done p |>.wr OPT.hWidth 0 p |>.wr OPT.hWidthTok 0 p

/-- The power requests of port `p` forgotten. -/
def endPm (h : Hub) (p st : Nat) : Hub :=
  h.wr OPT.hPm 0 p |>.wr OPT.hPmPart 0 p |>.wr OPT.hPmHold 0 p |>.wr OPT.PM_STATE st p

/-- The hidden fields of a port that start afresh at CAPX and end at DOWN (R145). -/
def linkFields : List Fld :=
  [OPT.hTxSet, OPT.hRxSet, OPT.hRet, OPT.hRetAns, OPT.hRetMask, OPT.hRetSet, OPT.hNoCharge, OPT.hBcn, OPT.hBursts,
   OPT.hGroups, OPT.hAmCount, OPT.hDeskew, OPT.hTxExt, OPT.hRxExt, OPT.hAckExt, OPT.hNakFor, OPT.hResend, OPT.hResendAt,
   OPT.hAnsMask, OPT.hCrypt, OPT.hAckPend, OPT.hNakPend, OPT.hCapAck, OPT.hMarkPend, OPT.hTxArm, OPT.hRxArm, OPT.hTxFrom, OPT.hRxFrom,
   OPT.hAckWait, OPT.hKeyTok, OPT.hKeySpan, OPT.hRoll, OPT.hRxRoll, OPT.hTagFail, OPT.hExit, OPT.hReady, OPT.hFormDue, OPT.hEidle,
   OPT.SPAN_LO_COUNT, OPT.SPAN_HI_COUNT, OPT.STAT_ENC, OPT.STAT_TXPH, OPT.STAT_RXPH, OPT.CRYPT_ROLL_BUSY,
   OPT.REPLAY_INFLIGHT, OPT.TXCRED_A_VC0, OPT.TXCRED_A_VC1, OPT.TXCRED_B_VC2, OPT.TXCRED_B_VC3]

/-- The link state of port `p` cleared: replay, credits, key phases, spans and what waits to be sent (R145). -/
def clearLink (h : Hub) (p : Nat) : Hub :=
  let h1 := h.each linkFields fun F h => h.wr F 0 p
  let h2 := h1.each [OPT.hFreed, OPT.hHeld, OPT.hCredSent, OPT.hCredLast, OPT.hAdv, OPT.hCredAge] fun F h =>
    h.each (List.range 4) fun v h => h.wr F 0 p v
  let h3 := h2.each (List.range 4) fun k h => h.wr OLN.hCharge 0 (4 * p + k)
  { h3 with replay := Tab.del p h3.replay, spanRx := Tab.del p h3.spanRx, spanTx := Tab.del p h3.spanTx,
            capRx := Tab.del p h3.capRx, lmcQ := Tab.del p h3.lmcQ, egOut := Tab.del p h3.egOut }

/-- Whether the block of port `p` is powered and ready. -/
def portOn (h : Hub) (p : Nat) : Bool := h.up (0x10 + p)

/-- Port `p` enters DOWN (R144, R145, R226, R246, R334): the frames not acknowledged are lost, requests under way end,
its working lanes go to DETECT, its open packets are closed and its queues flushed. `cause` is the code of R144;
a capability mismatch has none. A mailbox cell not yet acknowledged is lost with its frame: BUSY clears and MBX_TX is not set,
which the spec leaves open (log entry 107). -/
def portDown (h : Hub) (p : Nat) (cause : Option Nat) : Hub :=
  let st := h.rd OPT.STAT_STATE p
  if st = 0 then h
  else
    let lost := (Tab.get [] p h.replay).length
    let h1 := h.cntN OPT.CNT_LOST_COUNT lost p
    let h2 := match cause with
      | some c => h1.raise (0x10 + p) 7 { lo := c }
      | none => h1
    let h3 := h2.when (h2.rd OPT.WIDTH_DONE p == 1) fun h => h.endWidth p 3
    let h4 := ((h3.endPm p 0).wr OPT.MBX_TXC_BUSY 0 p |>.clearLink p).setPort p 0
    let h5 := h4.each (List.range 4) fun k h =>
      let l := 4 * p + k
      h.when (decide (4 ≤ h.lane l ∧ h.lane l ≤ 8)) fun h => h.toDetect l
    let h6 := h5.wr OPT.STAT_ACTIVE 0 p |>.wr OPT.STAT_SPARE 0 p
    let h7 := h6.when (h6.up 0x48) fun h =>
      (h.closeIngress p).when (cause.isSome && (st == 3 || st == 4)) fun h => h.flushPoint p
    ((h7.when (st == 3 || st == 4) fun h => h.casPortLost p).refreshPoints)

/-! ### Retirement -/

/-- Port `p` is to send a RETIRE for its physical lane `k` (R113); a width request that has not sent its RETIRE ends (R158), and
resends of the frames sent so far are charged to no lane (R156). -/
def askRetire (h : Hub) (k p : Nat) : Hub :=
  (h.wr OPT.hRet 1 p |>.wr OPT.hRetMask (h.rd OPT.hRetMask p ||| 2 ^ h.logical p k) p |>.wr OPT.hRetSet 0 p
    |>.wr OPT.hNoCharge (h.rd OPT.hTxExt p + 1) p).when (h.widthOpen p) fun h => h.endWidth p 3

/-- An ACTIVE lane of port `p`, physical lane `k`, is out of use (R113, R116): the port is to send RETIRE, or goes DOWN at once where
no lane is left that can carry it. -/
def lostLane (k p : Nat) (h : Hub) : Hub :=
  if h.newSet p = [] then h.portDown p (some 0) else h.askRetire k p

/-- Lane `l`, ACTIVE or SPARE, is retired by this node for a cause of R111 (R111 to R113, R116, R118, R131, R158): the port
sends RETIRE at its next link-frame boundary, or goes DOWN. -/
def retireLane (h : Hub) (l cause : Nat) : Hub :=
  let p := l / 4
  let active := h.lane l == 5
  let h1 := h.when (h.on HDR.PSTAT_CPEND (0x20 + l)) fun h => h.dropShadow (0x20 + l)
  let h2 := ((h1.setLane l 9).raise (0x20 + l) 2 { lo := cause }).irq (0x20 + l) 2
  let h3 := h2.refreshPortLanes p
  h3.when active (lostLane (l % 4) p)

/-- Block lock is lost on lane `l` (R96, R97, R104): a lane in CONFIRM begins a new acquisition at entry 0 of PRESEQ (R106). On a
lane that is retired for it, LOCK_LOSS and RETIRED rise together; that LOCK_LOSS is captured first is the model's choice (log
entry 158). -/
def lockLoss (h : Hub) (l : Nat) : Hub :=
  let h1 := ((h.cnt OLN.CNT_LOCK_COUNT l).freshLock l).raise (0x20 + l) 1
  let s := h.lane l
  if s = 5 ∨ s = 6 then h1.retireLane l 0
  else if s = 3 then (h1.wr OLN.hPreNext 1 l |>.cnt OLN.CNT_TRAIN_ATTEMPTS l).setLane l 2
  else h1

/-! ### Formation -/

/-- The next TOKEN of port `p`. -/
def nextTok (h : Hub) (p : Nat) : Nat × Hub :=
  let t := (h.rd OPT.hTok p + 1) % 2 ^ 16
  (t, h.wr OPT.hTok t p)

/-- The CAP payload of port `p` (R147), with the credits taken at CAPX (R150). -/
def capPayload (h : Hub) (p : Nat) : Bytes :=
  natLe 8 h.deviceId ++ natLe 2 (h.rd CAS.NODEID_ID + h.rd CAS.NODEID_VALID * 2 ^ 15) ++
    natLe 1 (h.rd TOP.NODECFG_ROLE + h.rd TOP.NODECFG_CROWN_OK * 4) ++ natLe 1 p ++
    natLe 1 (h.rd OPT.CFG_WIDTH p + h.rd OPT.STAT_WIDTH p * 16) ++
    natLe 1 (h.rd OLN.CFG_CLASS (4 * p) + h.rd OPT.hCrypt p * 4 + h.rd CLP.CFG_SRC_CAP p * 16 +
      h.rd CLP.CFG_SNK_CAP p * 32) ++
    natLe 2 0x0100 ++ natLe 2 (h.rd OPT.hAdv p 0) ++ natLe 2 (h.rd OPT.hAdv p 1) ++
    natLe 2 (h.rd OPT.hAdv p 2) ++ natLe 2 (h.rd OPT.hAdv p 3) ++ natLe 2 511 ++
    natLe 1 (h.rd OPT.hFace p) ++ List.replicate 37 0

/-- CAP sent on port `p` with the TOKEN of this capability exchange; the policy it reports is the one that counts (R149). -/
def sendCap (h : Hub) (p : Nat) : Hub :=
  let h1 := h.wr OPT.hCrypt (h.rd OPT.CFG_CRYPT p) p
  h1.lmcSend p 1 (h1.rd OPT.hCapTok p) (h1.capPayload p)

/-- A clasp request that the port has not carried yet is sent (R510). -/
def claspFlush (h : Hub) (p : Nat) : Hub :=
  match Tab.find p h.claspAsk with
  | some a =>
    if a.sent then h
    else
      ({ h with claspAsk := Tab.ins p { a with sent := true } h.claspAsk }.lmcSend p 0x0B a.tok a.payload).cnt
        CLP.CNT_MSG_TX p
  | none => h

/-- Port `p` enters CAPX on the logical lanes of `m` (R143, R145, R146, R150): sequence numbers start at 0, the credits
advertised are taken, and CAP is sent. -/
def enterCapx (h : Hub) (p m : Nat) : Hub :=
  let known := h.on CAS.CROWN_VALID
  let h1 := ((h.clearLink p).wr OPT.hTxSet m p |>.wr OPT.hRxSet m p
    |>.wr OPT.hFace (if known then 2 + bnat (h.relPort 1 == some p) else 0) p
    |>.wr OPT.hAdv (h.rd OPT.VCCRED_A_VC0 p) p 0 |>.wr OPT.hAdv (h.rd OPT.VCCRED_A_VC1 p) p 1
    |>.wr OPT.hAdv (h.rd OPT.VCCRED_B_VC2 p) p 2 |>.wr OPT.hAdv (h.rd OPT.VCCRED_B_VC3 p) p 3).setPort p 1
  let (t, h2) := h1.nextTok p
  ((h2.wr OPT.hCapTok t p).sendCap p).claspFlush p

/-- The partner's port that most of the lanes `ks` name (R107). -/
def mostFar (h : Hub) (ks : List Nat) : Nat :=
  let count (f : Nat) : Nat := (ks.filter fun l => h.rd OLN.STAT_PARTNER_PORT l == f).length
  (List.range 8).foldl (fun b f => if count b < count f then f else b) 0

/-- The lane of the partner that physical lane `k` meets, in order or reversed (R107). -/
def meets (rev : Bool) (k : Nat) : Nat := if rev then 3 - k else k

/-- The choices of `n` of the lanes `ks`, those with lower lanes first. -/
def choices : Nat → List Nat → List (List Nat)
  | 0, _ => [[]]
  | _ + 1, [] => []
  | n + 1, k :: ks => (choices n ks).map (k :: ·) ++ choices (n + 1) ks

/-- The earliest lag of the lanes `ks`. -/
def earliest (lag : Nat → Nat) (ks : List Nat) : Nat := ks.foldl (fun m k => min m (lag k)) (2 ^ 32)

/-- The lanes a port selects of `ks`, `n` at most: the widest of ×4, ×2 and ×1, on the lowest lanes, of which none arrives more
than 48 blocks behind the earliest of them (R109, R110). -/
def select (lag : Nat → Nat) (ks : List Nat) (n : Nat) : List Nat :=
  ((([4, 2, 1].filter (· ≤ n)).flatMap (choices · ks)).find? fun c =>
    c.all fun k => decide (lag k ≤ earliest lag c + 48)).getD []

/-- The port forms with the lanes that are READY (R107 to R110): a lane that fits neither the order nor the partner's port of
most lanes stays in READY, and the others that are not selected become spares. With equal port numbers in reversed order it
waits until a tie value of the partner has been heard that differs from its own. -/
def formPort (h : Hub) (p : Nat) : Hub :=
  let ready := (List.range 4).filter fun k => h.lane (4 * p + k) == 4
  let far := h.mostFar (ready.map (4 * p + ·))
  let same := ready.filter fun k => h.rd OLN.STAT_PARTNER_PORT (4 * p + k) == far
  let fit (rev : Bool) : List Nat := same.filter fun k => h.rd OLN.STAT_PARTNER_LANE (4 * p + k) == meets rev k
  let rev := decide ((fit false).length < (fit true).length)
  let fits := fit rev
  let h1 := h.each (ready.filter fun k => !fits.contains k) fun k h => h.raise (0x20 + 4 * p + k) 5
  let tieFar := (fits.head?.map fun k => h.rd OLN.hTie (4 * p + k)).getD 0
  let own := h.rd OPT.hTie p
  if fits.isEmpty ∨ (rev = true ∧ far = p ∧ tieFar = 0) then h1
  else if rev && far == p && own + 1 == tieFar then h1.drawTie p
  else
    let lead := decide (p < far) || (p == far && decide (own + 1 < tieFar))
    let h2 := h1.wr OPT.hMirror (bnat (rev && !lead)) p |>.wr OPT.hRev (bnat rev) p |>.wr OPT.hFar far p
    let lag (k : Nat) : Nat := h2.rd OLN.hLag (h2.laneNo p k)
    let ks := (fits.map (h2.logical p)).mergeSort (· ≤ ·)
    let sel := select lag ks (lanesOfWidth (h2.rd OPT.CFG_WIDTH p))
    let h3 := h2.each ks fun k h =>
      (h.wr OLN.SKEW_BLOCKS (min 127 (lag k - earliest lag ks)) (h2.laneNo p k)).when
        (decide (earliest lag sel + 48 < lag k)) fun h => h.raise (0x20 + h2.laneNo p k) 3
    let h4 := h3.each ks fun k h => h.setLane (h.laneNo p k) (if sel.contains k then 5 else 6)
    ((h4.wr OPT.STAT_WIDTH (widthOfLanes sel.length) p).refreshPortLanes p).enterCapx p (maskOf sel)

/-- Whether port `p` may form: it is DOWN, enabled and ready. -/
def mayForm (h : Hub) (p : Nat) : Bool := h.live (0x10 + p) && h.rd OPT.STAT_STATE p == 0

/-- Port `p` forms where it may (R110): once every lane whose page is enabled is READY, or 16 ms after the first one was. Which
lanes count as configured, and that the port's own PCTL.EN gates its formation, is this model's reading (log entry 99). -/
def tryForm (p : Nat) (h : Hub) : Hub :=
  let lane (k : Nat) : Nat := h.lane (4 * p + k)
  h.when (h.mayForm p && (List.range 4).any (lane · == 4) &&
    (h.on OPT.hFormDue p || (List.range 4).all fun k => !h.live (0x20 + 4 * p + k) || lane k == 4)) fun h => h.formPort p

/-- The exit of port `p` from LOWPOWER is complete once no lane of its active set is in L1 or L2 or in bring-up (R120, R122, R143, R159):
the port is UP on those of them that are ACTIVE. -/
def backUp (h : Hub) (p : Nat) : Hub :=
  let set := lanesOf (h.rd OPT.hTxSet p)
  let state (k : Nat) : Nat := h.lane (h.laneNo p k)
  h.when (h.rd OPT.STAT_STATE p == 4 && h.on OPT.hExit p && set.any (state · == 5) &&
    set.all fun k => state k == 0 || state k == 5 || state k == 6 || decide (9 ≤ state k)) fun h =>
      ((((h.refreshPortLanes p).wr OPT.PM_STATE 0 p |>.wr OPT.hExit 0 p).setPort p 3).refreshPoints).casPortUp p

/-- Lane `l` has reached READY at a port that has formed (R107, R109, R110, R115): one that does not fit the port's order or
its partner stays in READY; any other becomes a spare, or returns to the active set it held in LOWPOWER. -/
def lateReady (h : Hub) (l : Nat) : Hub :=
  let p := l / 4
  if h.rd OLN.STAT_PARTNER_LANE l ≠ meets (h.on OPT.hRev p) (l % 4) ∨ h.rd OLN.STAT_PARTNER_PORT l ≠ h.rd OPT.hFar p then
    h.raise (0x20 + l) 5
  else
    let first := ((List.range 4).filter fun k => h.lane (4 * p + k) == 5).foldl
      (fun m k => min m (h.rd OLN.hLag (4 * p + k))) (h.rd OLN.hLag l)
    let skew := h.rd OLN.hLag l - first
    let h1 := (h.wr OLN.SKEW_BLOCKS (min 127 skew) l).when (decide (48 < skew)) fun h => h.raise (0x20 + l) 3
    let back := h.rd OPT.STAT_STATE p == 4 && (h.rd OPT.hTxSet p).testBit (h.logical p (l % 4)) && decide (skew ≤ 48)
    ((h1.setLane l (if back then 5 else 6)).refreshPortLanes p).backUp p

/-- Lane `l` has reached READY (R104, R110). -/
def laneReady (h : Hub) (l : Nat) : Hub :=
  let p := l / 4
  if h.rd OPT.STAT_STATE p = 0 then (h.wr OPT.hReady 1 p).tryForm p else h.lateReady l

/-! ### Power states -/

/-- Whether port `p`'s lanes turn L2 into L1 (R123). The rule speaks of one lane; that one such lane of the four, in use or not,
turns the whole port's L2 into L1 is this model's choice (log entry 97). -/
def l2AsL1 (h : Hub) (p : Nat) : Bool :=
  (List.range 4).any fun k => h.rd OLN.CFG_CLASS (4 * p + k) == 2 || h.rd OLN.CFG_L2_EN (4 * p + k) == 0

/-- What a lane saves as it enters L2 (R122): the equaliser, the CDR phase and the transmit coefficients. -/
def savedFlds : List Fld :=
  [OLN.RXSTAT_CTLE, OLN.DFE_TAP1, OLN.DFE_TAP2, OLN.DFE_TAP3, OLN.DFE_TAP4, OLN.DFE_TAP5, OLN.DFE_TAP6, OLN.hCdrPhase,
   OLN.TXACT_PRE, OLN.TXACT_POST, OLN.TXACT_MAIN, OLN.TXACT_PRESET, OLN.TXACT_CUSTOM]

/-- Lane `l` saves its trained values (R122). -/
def saveLane (l : Nat) (h : Hub) : Hub :=
  (h.each savedFlds.zipIdx fun p h => h.wr OLN.hSaved (h.rd p.1 l) l p.2).wr OLN.STORE_VALID 1 l

/-- Lane `l` restores the values saved (R122). -/
def restoreLane (l : Nat) (h : Hub) : Hub := h.each savedFlds.zipIdx fun p h => h.wr p.1 (h.rd OLN.hSaved l p.2) l

/-- The eye of lane `l` measured (R103): the spec gives no values, and free values stand for them. -/
def measureEye (l : Nat) (h : Hub) : Hub := h.when (h.tracks l) fun h => (h.wrFree OLN.EYE_HEIGHT l).wrFree OLN.EYE_WIDTH l

/-- Port `p` enters LOWPOWER in L1 or L2 (R119, R120, R122, R159). -/
def enterLow (h : Hub) (p : Nat) (l2 : Bool) : Hub :=
  let h1 := h.each (h.working p) fun k h =>
    let l := h.laneNo p k
    (h.setLane l (if l2 then 8 else 7)).when l2 (saveLane l)
  ((((h1.endPm p (if l2 then 3 else 2)).wr OPT.hExit 0 p |>.wr OPT.hEidle 0 p |>.setPort p 4).irq (0x10 + p) 6).casPortLost p false).refreshPoints

/-- The lanes of port `p` in L1 or L2 return from LOWPOWER (R120, R143, R159), those in L2 with the values saved (R122). -/
def exitLow (h : Hub) (p : Nat) : Hub :=
  let set := h.rd OPT.hTxSet p
  let h1 := h.each (List.range 4) fun k h =>
    let l := h.laneNo p k
    h.when (h.lane l == 7 || h.lane l == 8) fun h =>
      ((h.when (h.lane l == 8) (restoreLane l)).setLane l (if set.testBit k then 5 else 6)).wr OLN.RXSTAT_SIGNAL 1 l
        |>.wr OLN.RXSTAT_CDR_LOCK 1 l |>.wr OLN.RXSTAT_BLOCK_LOCK 1 l |>.wr OLN.RXSTAT_FRAME_LOCK 1 l
  ((h1.refreshPortLanes p).wr OPT.hExit 1 p).backUp p

/-- The exit of port `p` from LOWPOWER starts (R120, R122): its lanes send FTS from L1, and training frames at the preset in use
from L2, block by block (`laneCycle`); lanes in L2 without saved coefficients run full bring-up. -/
def startExit (h : Hub) (p : Nat) : Hub :=
  if h.rd OPT.STAT_STATE p ≠ 4 ∨ h.on OPT.hExit p = true then h
  else
    let h1 := h.wr OPT.hExit 1 p
    h1.each (List.range 4) fun k h =>
      let l := h.laneNo p k
      if h.lane l = 7 then h.ctlPut l (ctlBlock 0x78 0)
      else if h.lane l = 8 then (if h.rd OLN.STORE_VALID l = 0 then h.toDetect l else h.wr OLN.hTrain 0 l)
      else h

end Hub

end Sys2Proof.Machine
end

