-- ==== Sys2Proof/Machine/Lanes.lean ====
section
/-! DEFINITION. The commands of Ocael lanes (chapter 4: R89 to R131), but for the recognition of a wake beacon, which
stands in Machine/Power.lean. -/

namespace Sys2Proof.Machine

namespace Hub

/-- The polarity that lane `l`'s receiver uses in ACQUIRE, until it is fixed (R98): what the valid TS shows, or CTL.POL_INV. -/
def findPolarity (h : Hub) (l : Nat) (inverted valid : Bool) : Hub :=
  if h.lane l ≠ 2 ∨ h.on OLN.hPolFix l = true then h
  else if h.on OLN.CFG_AUTO_POL l then h.when valid fun h => h.wr OLN.RXSTAT_POL_INV (bnat inverted) l
  else h.wr OLN.RXSTAT_POL_INV (h.rd OLN.CTL_POL_INV l) l

/-- What a valid TS tells the lane and its port (R93, R108, R109, R124). The partner sends one tie value on all of its lanes, so
the last one heard stands for every lane that meets the same port. The run of valid TS counts from ACQUIRE on (R104). -/
def tsHeard (h : Hub) (l block lag : Nat) : Hub :=
  let far := bits block 10 3
  let h1 := h.wr OLN.STAT_PARTNER_LANE (bits block 8 2) l |>.wr OLN.STAT_PARTNER_PORT far l
    |>.wr OLN.STAT_PARTNER_LOCKED (bits block 16 1) l |>.wr OLN.hLag lag l |>.wr OPT.hBcn 0 (l / 4)
  (h1.each (List.range 4) fun k h =>
    let j := l / 4 * 4 + k
    h.when (h.rd OLN.STAT_PARTNER_PORT j == far) fun h => h.wr OLN.hTie (bits block 20 12 + 1) j).wr OLN.hTsRun
      (if 2 ≤ h.lane l then h.rd OLN.hTsRun l + 1 else 0) l

/-- A training block stands amid blocks with valid sync headers, whatever it holds: with the third one since the receiver
began to acquire, 64 consecutive blocks have carried them, and the receiver has block lock (R96). -/
def hdrsHeard (h : Hub) (l : Nat) : Hub :=
  h.when (decide (2 ≤ h.lane l ∧ h.lane l ≤ 4)) fun h =>
    let n := h.rd OLN.hHdrRun l + 1
    (h.wr OLN.hHdrRun n l).when (decide (3 ≤ n)) fun h => h.wr OLN.RXSTAT_CDR_LOCK 1 l |>.wr OLN.RXSTAT_BLOCK_LOCK 1 l

/-- A training block received on lane `l` (R93, R96, R98, R104, R108): one that arrives with the other polarity than the
receiver uses, or that fails its complement check, is no valid TS. A receiver that is off takes none, and on an ACTIVE lane a
TS stands where L0 has none, which ends frame lock (R97). -/
def tsIn (h0 : Hub) (l : Nat) (inverted : Bool) (block lag : Nat) : Hub :=
  let p := l / 4
  let s := h0.lane l
  let h := ((h0.findPolarity l inverted (blockOk block && block % 256 == 0x1E)).hdrsHeard l).when (s == 5) fun h =>
    h.wr OLN.RXSTAT_FRAME_LOCK 0 l
  if s = 0 ∨ s = 7 ∨ 9 ≤ s ∨ (s = 8 ∧ h0.on OPT.hExit p = false) then h0
  else if h.rd OLN.RXSTAT_POL_INV l ≠ bnat inverted then h.wr OLN.hTsRun 0 l |>.wr OLN.hLockRun 0 l
  else if !blockOk block then (h.cnt OLN.CNT_CTL_COUNT l).wr OLN.hTsRun 0 l |>.wr OLN.hLockRun 0 l
  else if block % 256 ≠ 0x1E then h.wr OLN.hTsRun 0 l |>.wr OLN.hLockRun 0 l
  else
    let h1 := h.tsHeard l block lag
    if s = 2 then
      h1.when (decide (64 ≤ h1.rd OLN.hTsRun l)) fun h => (h.wr OLN.hLockRun 0 l |>.wr OLN.hPolFix 1 l |>.wr OLN.hPreNext 0 l).setLane l 3
    else if s = 3 then
      let n := if bits block 16 1 = 1 then h1.rd OLN.hLockRun l + 1 else 0
      let h2 := h1.wr OLN.hLockRun n l
      if 16 ≤ n then (h2.setLane l 4).laneReady l else h2
    else if s = 4 && bits block 20 12 + 1 != h0.rd OLN.hTie l then h1.tryForm p
    else if s = 8 then h1.exitLow p
    else h1

/-- An alignment marker received on lane `l` (R97, R109): deskew, and its place and count. A marker missed or out of place
ends frame lock until a good one. -/
def amIn (h : Hub) (l block : Nat) (inPlace : Bool) (lag : Nat) : Hub :=
  if !blockOk block then h.cnt OLN.CNT_CTL_COUNT l
  else
    let n := bits block 16 16
    let next := h.rd OLN.hAmNext l
    let good := inPlace && (next == 0 || n + 1 == next)
    let h1 := (h.wr OLN.SKEW_BLOCKS (min 127 lag) l |>.wr OLN.hAmNext ((n + 1) % 2 ^ 16 + 1) l).when
      (decide (48 < lag)) fun h => h.raise (0x20 + l) 3
    if good then h1.wr OLN.hAmMiss 0 l |>.wr OLN.RXSTAT_FRAME_LOCK 1 l
    else
      let h2 := (h1.cnt OLN.CNT_AM_COUNT l).wr OLN.RXSTAT_FRAME_LOCK 0 l
      if h2.on OLN.hAmMiss l then (h2.wr OLN.hAmMiss 0 l).lockLoss l else h2.wr OLN.hAmMiss 1 l

/-- The effect of CTL.RETRAIN on lane `l` (R111, R115, R122). -/
def retrainLane (h : Hub) (l : Nat) : Hub :=
  let h1 := h.wr OLN.STORE_VALID 0 l
  if h1.lane l = 0 then h1
  else ((h1.when (h1.lane l == 5) fun h => h.retireLane l 4).toDetect l).refreshPortLanes (l / 4)

/-- As a RETIRE that retires lanes is sent, the frames sent before it are those whose resend is charged to no lane (R156). -/
def freeOfCharge (p : Nat) (h : Hub) : Hub :=
  h.when (h.on OPT.hRetMask p || h.on OPT.hAnsMask p) fun h => h.wr OPT.hNoCharge (h.rd OPT.hTxExt p + 1) p

/-- The next link-frame boundary of port `p` with a RETIRE to send (R113, R116, R117): first an answer, then a
retirement of this node that has not been sent yet. An answer names the lanes the partner's RETIRE named, or the union where
the two crossed, and no lane that this node has retired. -/
def sendRetire (h : Hub) (p : Nat) : Hub :=
  let ks := h.working p
  let block (mask set ack : Nat) : Nat := ctlBlock 0x55 (mask + set * 16 + ack * 256)
  if h.on OPT.hRetAns p then
    let told := Nat.land (h.rd OPT.hRetSet p) (maskOf ks)
    let set := if told = 0 then maskOf (h.newSet p) else told
    if set = 0 then h.portDown p (some 0)
    else (((h.sendBlock p ks (block (h.rd OPT.hAnsMask p) set 1)).freeOfCharge p).applySet p set).wr OPT.hRetAns 0 p
      |>.wr OPT.hAnsMask 0 p |>.wr OPT.hRetSet 0 p
  else if h.rd OPT.hRet p = 1 then
    let set := if h.rd OPT.hWidth p = 2 ∧ h.rd OPT.hRetMask p = 0 then h.rd OPT.hWidthMask p else maskOf (h.newSet p)
    if set = 0 then h.portDown p (some 0)
    else (((h.sendBlock p ks (block (h.rd OPT.hRetMask p) set 0)).wr OPT.hRet 2 p).freeOfCharge p).applySet p set
  else h

/-- Lanes that a received RETIRE retires (R131). -/
def retireTold (h : Hub) (p mask : Nat) : Hub :=
  (h.each (lanesOf mask) fun k h =>
    let l := h.laneNo p k
    h.when (h.lane l == 5 || h.lane l == 6) fun h =>
      ((h.when (h.on HDR.PSTAT_CPEND (0x20 + l)) fun h => h.dropShadow (0x20 + l)).setLane l 9).irq (0x20 + l) 2
    ).refreshPortLanes p

/-- A RETIRE received on port `p` (R113, R116, R117, R157, R158). -/
def retireIn (h : Hub) (p block : Nat) : Hub :=
  let mask := bits block 8 4
  let act := bits block 12 4
  let h1 := (h.retireTold p mask).wr OPT.hRxSet act p
  let h2 := h1.when (decide (mask ≠ 0)) fun h =>
    (h.wr OPT.hNoCharge (h.rd OPT.hTxExt p + 1) p).when (h.widthOpen p) fun h =>
      (h.when (h.rd OPT.hWidth p == 2) fun h => h.wr OPT.hRet 0 p).endWidth p 3
  if block.testBit 16 then
    if h.rd OPT.hRet p = 2 then
      (h2.wr OPT.hRet 0 p |>.wr OPT.hRetMask 0 p |>.wr OPT.hRetSet 0 p).when (h.rd OPT.hWidth p == 2) fun h =>
        (h.endWidth p 2).irq (0x10 + p) 5
    else h2
  else
    let crossed := h.rd OPT.hRet p == 2
    let h4 := h2.wr OPT.hRetAns 1 p |>.wr OPT.hAnsMask (if crossed then mask ||| h2.rd OPT.hRetMask p else mask) p
      |>.wr OPT.hRetSet (if h.on OPT.hRet p then 0 else act) p
    if (h4.working p).isEmpty then h4.portDown p (some 0) else h4

/-- An EIDLE of the partner that waited for the end of a retirement (R120). -/
def eidleDue (p : Nat) (h : Hub) : Hub :=
  h.when (h.on OPT.hEidle p && !h.on OPT.hRet p && !h.on OPT.hRetAns p && h.rd OPT.STAT_STATE p == 3) fun h =>
    h.enterLow p (h.rd OPT.hEidle p == 2)

/-- Port `p` sends EIDLE and its lanes enter the state agreed (R120, R159). -/
def sendEidle (h : Hub) (p : Nat) : Hub :=
  let l2 := h.on OPT.hPmL2 p
  (h.sendBlock p (lanesOf (h.rd OPT.hTxSet p)) (ctlBlock 0x66 (bnat l2))).enterLow p l2

/-- One beacon burst of port `p`, on each lane that is not OFF, RETIRED or in FAULT (R124). After 32 bursts
BEACON_UNANSWERED is set on the lane whose BEACON.SEND was written; the spec names no lane (log entry 100). -/
def burstOut (h : Hub) (p : Nat) : Hub :=
  let n := h.rd OPT.hBursts p + 1
  let h1 := (h.wr OPT.hBursts n p).each ((List.range 4).filter fun k => decide (1 ≤ h.lane (4 * p + k) ∧ h.lane (4 * p + k) ≤ 8))
    fun k h => h.wirePut (4 * p + k) .burst
  if 32 ≤ n then (h1.wr OPT.hBcn 0 p).raise (0x20 + 4 * p + (h.rd OPT.hBcn p - 1)) 6 else h1

/-- A write of BEACON.SEND on lane `l` (R124). That the partner is in L2, or in a node state whose LNK domain is off, the node
takes from its own side: its port is in L2 or DOWN (log entry 98). -/
def startBeacon (h : Hub) (l : Nat) : Hub :=
  let p := l / 4
  h.when (h.rd OPT.PM_STATE p == 3 || h.rd OPT.STAT_STATE p == 0) fun h =>
    h.wr OPT.hBcn (l % 4 + 1) p |>.wr OPT.hBursts 0 p

end Hub

/-- TXCOEF_COMMIT (R101): the commit point of lane `l`; in L1 and L2 there is none. -/
def execTxcoefCommit (l : Fin 32) (s : State) : Host.Outcome State Fault Refusal :=
  s.act fun h => h.when (h.up (0x20 + l) && h.lane l != 7 && h.lane l != 8) (Hub.txCommit l)

/-- SIGNAL_DETECT (R104). -/
def execSignalDetect (l : Fin 32) (s : State) : Host.Outcome State Fault Refusal :=
  s.act fun h => h.when (h.up (0x20 + l) && h.lane l == 1) fun h =>
    (((h.freshLock l).wr OLN.RXSTAT_SIGNAL 1 l).cnt OLN.CNT_TRAIN_ATTEMPTS l).setLane l 2

/-- SIGNAL_ABSENT (R104). -/
def execSignalAbsent (l : Fin 32) (s : State) : Host.Outcome State Fault Refusal :=
  s.act fun h => h.when (h.up (0x20 + l) && h.lane l == 2) fun h => (h.wr OLN.RXSTAT_SIGNAL 0 l).toDetect l

/-- TRAIN_TIMEOUT (R104). -/
def execTrainTimeout (l : Fin 32) (s : State) : Host.Outcome State Fault Refusal :=
  s.act fun h => h.when (h.up (0x20 + l) && (h.lane l == 2 || h.lane l == 3)) fun h =>
    ((h.setLane l 10).raise (0x20 + l) 0).backUp (l / 4)

/-- ATTEMPT_END (R106): an attempt ends without block lock; the preset steps and the receiver starts again. -/
def execAttemptEnd (l : Fin 32) (s : State) : Host.Outcome State Fault Refusal :=
  s.act fun h => h.when (h.up (0x20 + l) && h.lane l == 2 && !h.on OLN.RXSTAT_BLOCK_LOCK l) fun h =>
    ((h.stepPreset l).cnt OLN.CNT_TRAIN_ATTEMPTS l).wr OLN.RXSTAT_CDR_LOCK 0 l |>.wr OLN.hTsRun 0 l |>.wr OLN.hHdrRun 0 l

/-- PRESET_STEP (R106): own block lock stands and the partner reports RX_LOCKED = 0. -/
def execPresetStep (l : Fin 32) (s : State) : Host.Outcome State Fault Refusal :=
  s.act fun h => h.when (h.up (0x20 + l) && h.lane l == 2 && h.on OLN.RXSTAT_BLOCK_LOCK l &&
    !h.on OLN.STAT_PARTNER_LOCKED l) fun h => h.stepPreset l

/-- TS_RECEIVED (R104). -/
def execTsReceived (l : Fin 32) (inverted : Bool) (block lag : Nat) (s : State) : Host.Outcome State Fault Refusal :=
  s.act fun h => h.when (h.up (0x20 + l)) fun h => h.tsIn l inverted block lag

/-- PORT_FORM_TIMER (R110): 16 ms have passed since the port's first lane reached READY. -/
def execPortFormTimer (p : Fin 8) (s : State) : Host.Outcome State Fault Refusal :=
  s.act fun h => h.when (h.portOn p && h.rd OPT.STAT_STATE p == 0 && h.on OPT.hReady p) fun h =>
    (h.wr OPT.hFormDue 1 p).tryForm p

/-- SKIP_RECEIVED (R95): above half full, the SKIP is removed from all active lanes; else it stays as one idle cycle. -/
def execSkipReceived (p : Fin 8) (level : Nat) (s : State) : Host.Outcome State Fault Refusal :=
  s.act fun h => h.when (h.portOn p && h.on OPT.STAT_STATE p) fun h =>
    h.wr OPT.hDeskew (if 32 < level then level - 1 else level) p

/-- AM_RECEIVED (R97). -/
def execAmReceived (l : Fin 32) (block : Nat) (inPlace : Bool) (lag : Nat) (s : State) :
    Host.Outcome State Fault Refusal :=
  s.act fun h => h.when (h.up (0x20 + l) && h.lane l == 5) fun h => h.amIn l block inPlace lag

/-- BLOCK_LOCK_LOSS (R96): 16 invalid sync headers within 64 blocks. -/
def execBlockLockLoss (l : Fin 32) (s : State) : Host.Outcome State Fault Refusal :=
  s.act fun h => h.when (h.up (0x20 + l) && decide (2 ≤ h.lane l ∧ h.lane l ≤ 6)) fun h =>
    (h.cntN OLN.CNT_SYNC_COUNT 16 l).lockLoss l

/-- CDR_LOCK_LOSS (R111). -/
def execCdrLockLoss (l : Fin 32) (s : State) : Host.Outcome State Fault Refusal :=
  s.act fun h => h.when (h.up (0x20 + l)) fun h =>
    (h.wr OLN.RXSTAT_CDR_LOCK 0 l).when (h.lane l == 5) fun h => h.retireLane l 1

/-- SYNC_LIMIT (R111): `n` invalid sync headers within 1 ms. -/
def execSyncLimit (l : Fin 32) (n : Nat) (s : State) : Host.Outcome State Fault Refusal :=
  s.act fun h => h.when (h.up (0x20 + l)) fun h =>
    ((h.cntN OLN.CNT_SYNC_COUNT n l).when (n != 0 && !h.on OLN.RXSTAT_BLOCK_LOCK l) fun h => h.wr OLN.hHdrRun 0 l).when (h.lane l == 5 && h.on OLN.SYNCLIM_LIMIT l &&
      decide (h.rd OLN.SYNCLIM_LIMIT l < n)) fun h => h.retireLane l 2

/-- RETRAIN (R115): a 1 written to OLN.CTL.RETRAIN. -/
def execRetrain (r : Req) (l : Fin 32) (s : State) : Host.Outcome State Fault Refusal :=
  s.act fun h => h.asGo r OLN.CTL_RETRAIN l fun h => h.retrainLane l

/-- RETIRE_SEND (R113). -/
def execRetireSend (p : Fin 8) (s : State) : Host.Outcome State Fault Refusal :=
  s.act fun h => h.when (h.portOn p && h.on OPT.STAT_STATE p) fun h => (h.sendRetire p).eidleDue p

/-- RETIRE_RECEIVED (R93, R113): a RETIRE that fails its complement check is discarded and counted; the command names no lane, and
that the lowest active lane counts it is the model's choice (log entry 156). -/
def execRetireReceived (p : Fin 8) (block : Nat) (s : State) : Host.Outcome State Fault Refusal :=
  s.act fun h => h.when (h.portOn p && h.on OPT.STAT_STATE p) fun h =>
    if blockOk block && block % 256 == 0x55 then (h.retireIn p block).eidleDue p
    else h.cnt OLN.CNT_CTL_COUNT (h.laneNo p ((lanesOf (h.rd OPT.hRxSet p)).headD 0))

/-- EIDLE_SEND (R120, R160): the frame boundary at which an agreed power request sends EIDLE. A retirement under way
completes first, and a crossing request is answered first. -/
def execEidleSend (p : Fin 8) (s : State) : Host.Outcome State Fault Refusal :=
  s.act fun h => h.when (h.portOn p && h.rd OPT.STAT_STATE p == 3 && h.rd OPT.hPm p == 3 && h.rd OPT.hPmPart p != 1 &&
    !h.on OPT.hRet p && !h.on OPT.hRetAns p) fun h => h.sendEidle p

/-- EIDLE_RECEIVED (R119, R120, R159): the partner's EIDLE, after this node's PM_ACK; a retirement under way completes before
the entry. -/
def execEidleReceived (p : Fin 8) (l2 : Bool) (s : State) : Host.Outcome State Fault Refusal :=
  s.act fun h => h.when (h.portOn p && h.rd OPT.STAT_STATE p == 3 && h.rd OPT.hPmPart p == 2) fun h =>
    (h.wr OPT.hEidle (if l2 then 2 else 1) p).eidleDue p

/-- FTS_RECEIVED (R120): squelch detects FTS blocks in L1, and frame lock ends the exit. -/
def execFtsReceived (p : Fin 8) (frameLock : Bool) (s : State) : Host.Outcome State Fault Refusal :=
  s.act fun h => h.when (h.portOn p && h.rd OPT.STAT_STATE p == 4 && h.rd OPT.PM_STATE p == 2) fun h =>
    if frameLock then h.exitLow p
    else (h.each (List.range 4) fun k h => h.when (h.lane (4 * p + k) == 7) fun h => h.wr OLN.RXSTAT_SIGNAL 1 (4 * p + k)).startExit p

/-- BEACON_SEND (R124): a 1 written to OLN.BEACON.SEND. -/
def execBeaconSend (r : Req) (l : Fin 32) (s : State) : Host.Outcome State Fault Refusal :=
  s.act fun h => h.asGo r OLN.BEACON_SEND l fun h => h.startBeacon l

/-- BEACON_BURST (R124). -/
def execBeaconBurst (p : Fin 8) (s : State) : Host.Outcome State Fault Refusal :=
  s.act fun h => h.when (h.portOn p && h.on OPT.hBcn p) fun h => h.burstOut p

end Sys2Proof.Machine
end

