-- ==== Sys2Proof/Machine/Frames.lean ====
section
/-! DEFINITION. Link frames: their bytes and trailer (R132 to R137), what a frame group carries (R138, R139), replay
(R153 to R156), and link encryption (R163 to R168), as shared operations. -/

namespace Sys2Proof.Machine

/-- The 72 bytes of a tunnel cell in its slot (R132, R171). -/
def cellBytes (c : Cell) : Bytes :=
  natLe 8 (c.tid % 2 ^ 20 + c.kind % 8 * 2 ^ 20 + bnat c.dn * 2 ^ 23 + c.vc % 4 * 2 ^ 24 + c.colour % 4 * 2 ^ 26 +
    bnat c.sop * 2 ^ 28 + bnat c.eop * 2 ^ 29 + bnat c.poison * 2 ^ 30 + bnat c.twin * 2 ^ 31 + c.seq % 2 ^ 16 * 2 ^ 32 +
    c.fill % 64 * 2 ^ 48 + c.rsv % 4 * 2 ^ 54 + c.age % 256 * 2 ^ 56) ++ padTo 64 c.payload

/-- The 72 bytes of a link management cell (R140). -/
def lmcBytes (m : Lmc) : Bytes :=
  natLe 1 m.typ ++ natLe 1 (min 64 m.payload.length) ++ natLe 2 m.tok ++ natLe 4 0 ++ padTo 64 m.payload

/-- The CRC of a frame (R136). -/
def frameCrc (f : LinkFrame) : Nat := crc32c ((f.slots.map (padTo 72)).flatten ++ natLe 4 (trailerHigh f))

/-- Whether a received frame passes R136. -/
def frameOk (f : LinkFrame) : Bool :=
  f.slots.length == 8 && f.crc == frameCrc f && decide (f.ncell ≤ 8) && !(f.lmc && f.ncell == 0)

/-- A number's bytes, most significant first. -/
def natBe (n v : Nat) : Bytes := (natLe n v).reverse

/-- The IV of a span (R163). -/
def spanIv (salt span : Nat) : Bytes := natBe 4 salt ++ natBe 8 span

/-- The additional data of one frame (R163). -/
def frameAad (ext ncell : Nat) (lmc : Bool) : Bytes := natBe 2 (ext % 1024 + ncell * 2 ^ 10 + bnat lmc * 2 ^ 14)

/-- The bytes of a span that a frame carries: every slot, but for the TAG slot of the span's last frame (R163). -/
def spanBytes (ext : Nat) (slots : List Bytes) : Bytes :=
  if ext % 16 = 15 then (slots.drop 1).flatten else slots.flatten

/-- A byte string cut into slots of 72 bytes. -/
def toSlots : Nat → Bytes → List Bytes
  | 0, _ => []
  | n + 1, bs => bs.take 72 :: toSlots n (bs.drop 72)

/-- The slots of frame `ext` enciphered or deciphered under a key: the counter runs on over the span's frames, 36
blocks for each, from 2 (R163). -/
def cryptSlots (key : Bytes) (salt ext : Nat) (slots : List Bytes) : List Bytes :=
  let out := Config.ctr key (spanIv salt (ext / 16) ++ natBe 4 (2 + 36 * (ext % 16))) (spanBytes ext slots)
  if ext % 16 = 15 then (slots.take 1) ++ toSlots 7 out else toSlots 8 out

namespace Hub

/-! ### Keys -/

/-- The key slot of a transmit or receive phase (KEYSEL). -/
def keySlot (h : Hub) (p : Nat) (tx : Bool) (phase : Nat) : Nat :=
  if tx then (if phase = 0 then h.rd OPT.KEYSEL_TX0 p else h.rd OPT.KEYSEL_TX1 p)
  else if phase = 0 then h.rd OPT.KEYSEL_RX0 p else h.rd OPT.KEYSEL_RX1 p

/-- Whether a slot holds a key for recipient 1 (R164). -/
def linkKey (h : Hub) (slot : Nat) : Bool := h.on KEY.SATTR_VALID 0 slot && h.rd KEY.SATTR_RECIPIENT 0 slot == 1

/-- Whether a slot was written since port `p` last left UP (R164). -/
def freshSlot (h : Hub) (p slot : Nat) : Bool := h.bit KEY.hFresh slot 0 p

/-- Whether a phase may be armed with a slot (R164): it holds a key of recipient 1 and was written since the port last left UP. -/
def armable (h : Hub) (p slot : Nat) : Bool := h.linkKey slot && h.freshSlot p slot

/-- The phase of a transmit or receive span: the one in use from its first span on, and the other one before. -/
def phaseOf (h : Hub) (p : Nat) (tx : Bool) (span : Nat) : Nat :=
  let cur := if tx then h.rd OPT.STAT_TXPH p else h.rd OPT.STAT_RXPH p
  if (if tx then h.rd OPT.hTxFrom p else h.rd OPT.hRxFrom p) ≤ span then cur else 1 - cur

/-- Whether frame `ext` is enciphered: its direction is armed and its span not earlier than the first armed one. -/
def ciphered (h : Hub) (p : Nat) (tx : Bool) (ext : Nat) : Bool :=
  if tx then h.on OPT.hTxArm p && decide (h.rd OPT.hTxArm p ≤ ext / 16 + 1)
  else h.on OPT.hRxArm p && decide (h.rd OPT.hRxArm p ≤ ext / 16 + 1)

/-- The key of a span: only a slot of recipient 1 feeds the cipher (R164). -/
def spanKey (h : Hub) (p : Nat) (tx : Bool) (span : Nat) : Bytes :=
  let slot := h.keySlot p tx (h.phaseOf p tx span)
  if h.linkKey slot then Tab.get [] slot h.keys else []

/-! ### Frames to send -/

/-- Up to `n` tunnel cells taken for a frame, those of VC0 first (R150), and counted as sent (R309). -/
def takeCells (h : Hub) (p n : Nat) : List Cell × Hub :=
  let q := Tab.get [] p h.egOut
  let order := (q.filter fun x => x.cell.vc == 0) ++ q.filter fun x => x.cell.vc != 0
  ((order.take n).map (·.cell),
    { h with egOut := Tab.put [] p (order.drop n) h.egOut }.each (order.take n) (countSent p))

/-- The transmitter's switch to the next phase at the span agreed (R166). -/
def rollTx (h : Hub) (p : Nat) : Hub :=
  let span := h.rd OPT.hTxExt p / 16
  let h1 := h.when (h.rd OPT.hRoll p == 1 && decide (h.rd OPT.hKeySpan p ≤ span)) fun h =>
    h.wr OPT.STAT_TXPH (1 - h.rd OPT.STAT_TXPH p) p |>.wr OPT.hTxFrom (h.rd OPT.hKeySpan p) p |>.wr OPT.hRoll 2 p
  h1.when (h1.on OPT.hTxArm p && h1.rd OPT.hTxExt p % 16 == 0 && span - h1.rd OPT.hTxFrom p == 2 ^ 31) fun h =>
    h.irq (0x10 + p) 3

/-- A new sequenced frame of port `p` for lane number `l`, if anything waits (R133, R134, R141, R153, R163): the TAG of
a span goes first, other link management cells in order, and tunnel cells in UP. -/
def newFrame (h0 : Hub) (p l : Nat) : Option RFrame × Hub :=
  let h := h0.rollTx p
  let ext := h.rd OPT.hTxExt p
  let enc := h.ciphered p true ext
  let tag := enc && ext % 16 == 15
  let lq := Tab.get [] p h.lmcQ
  let lmc := tag || !lq.isEmpty
  let (cells, h1) := if h.rd OPT.STAT_STATE p = 3 then h.takeCells p (8 - bnat lmc) else ([], h)
  if 511 ≤ (Tab.get [] p h.replay).length ∨ (lmc = false ∧ cells.isEmpty = true) then (none, h)
  else
    let n := cells.length + bnat lmc
    let first : List Bytes := if tag then [List.replicate 72 0] else (lq.head?.map lmcBytes).toList
    let plain := first ++ cells.map cellBytes ++ List.replicate (8 - n) (List.replicate 72 0)
    let key := h.spanKey p true (ext / 16)
    let salt := h.rd OPT.TXSALT_SALT p
    let sent := if enc then cryptSlots key salt ext plain else plain
    let (aad, ct) := if ext % 16 = 0 then (([] : Bytes), ([] : Bytes)) else Tab.get ([], []) p h.spanTx
    let aad' := aad ++ frameAad ext n lmc
    let ct' := ct ++ spanBytes ext sent
    let slots := if tag then
        lmcBytes { typ := 9, payload := padTo 16 (Config.gcmTag key (spanIv salt (ext / 16)) aad' ct') } :: sent.drop 1
      else sent
    let mbx := !tag && (lq.head?.map (·.mbx)).getD false
    let f : RFrame := { ext := ext, ncell := n, lmc := lmc, slots := slots, lane := l, mbx := mbx }
    let h2 : Hub := { h1 with
      lmcQ := if tag then h1.lmcQ else Tab.put [] p (lq.drop 1) h1.lmcQ,
      spanTx := if enc then Tab.ins p (aad', ct') h1.spanTx else h1.spanTx,
      replay := Tab.ins p (Tab.get [] p h1.replay ++ [f]) h1.replay }
    let next := ext + 1
    (some f, h2.wr OPT.hTxExt next p |>.wr OPT.SPAN_LO_COUNT (next / 16 % 2 ^ 32) p
      |>.wr OPT.SPAN_HI_COUNT (next / 16 / 2 ^ 32) p |>.wr OPT.REPLAY_INFLIGHT (Tab.get [] p h2.replay).length p)

/-- The VC whose changed count has waited longest, the lowest of several (R139). -/
def creditDue (h : Hub) (p : Nat) : Option Nat :=
  ((List.range 4).filter fun v => h.rd OPT.hFreed p v % 1024 != h.rd OPT.hCredSent p v).foldl (fun b v =>
    match b with
    | some u => if h.rd OPT.hCredAge p u < h.rd OPT.hCredAge p v then some v else b
    | none => some v) none

/-- An ACK of the last frame accepted; the next one is due in the fourth frame group after it (R139). -/
def ackField (h : Hub) (p : Nat) : Nat × Nat × Hub :=
  (1, (h.rd OPT.hAckExt p + 1023) % 1024, (h.wr OPT.hAckPend 0 p).wr OPT.hAckWait 4 p)

/-- The information field of a trailer (R135, R139, R161): NAK, an ACK that is due, CREDIT, an early ACK, and a TMARK on the
lowest lane. That an ACK sent within the last three groups gives way to CREDIT, and the VC that has waited longest goes
first, is how this model keeps the spacing of R139 (log entry 105). -/
def infoField (h : Hub) (p : Nat) (lowest : Bool) : Nat × Nat × Hub :=
  if h.on OPT.hNakPend p then
    (2, h.rd OPT.hRxExt p % 1024, (h.wr OPT.hNakPend 0 p |>.wr OPT.hNakFor (h.rd OPT.hRxExt p + 1) p).cnt OPT.CNT_NAK_SENT p)
  else if h.on OPT.hAckPend p && h.rd OPT.hAckWait p == 0 then h.ackField p
  else
    match h.creditDue p with
    | some v =>
      let c := h.rd OPT.hFreed p v % 1024
      (3, v * 1024 + c, h.wr OPT.hCredSent c p v |>.wr OPT.hCredAge 0 p v)
    | none =>
      if h.on OPT.hAckPend p then h.ackField p
      else if h.rd OPT.hMarkPend p == 1 && lowest then
        let n := (h.rd OPT.hMark p + 1) % 4096
        (4, n, h.wr OPT.hMark n p |>.wr OPT.hMarkTime (h.now + 1) p n |>.wr OPT.hMarkPend 2 p)
      else (0, 0, h)

/-- The TIME cell that follows a TMARK sent in this group (R161). Before any TMARK of the partner has arrived, bytes 16, 17 and 24
to 31 are 0, the model's choice (log entry 106). -/
def timeOut (p : Nat) (h : Hub) : Hub :=
  h.when (h.rd OPT.hMarkPend p == 2) fun h =>
    let n := h.rd OPT.hMark p
    let rx := h.rd OPT.hRxMark p
    (h.wr OPT.hMarkPend 0 p).lmcSend p 0x0A 0 (natLe 8 n ++ natLe 8 (h.rd OPT.hMarkTime p n - 1) ++ natLe 8 (rx - 1) ++
      natLe 8 (if rx = 0 then 0 else h.rd OPT.hRxMarkTime p (rx - 1) - 1))

/-- The spacing of ACK and CREDIT counted on at the end of a frame group (R139). -/
def ageFields (p : Nat) (h : Hub) : Hub :=
  (h.wr OPT.hAckWait (h.rd OPT.hAckWait p - 1) p).each (List.range 4) fun v h =>
    h.wr OPT.hCredAge (if h.rd OPT.hFreed p v % 1024 = h.rd OPT.hCredSent p v then 0 else h.rd OPT.hCredAge p v + 1) p v

/-- One link frame sent on logical lane `k` of port `p` (R133, R137, R138, R155): a resend, a new frame, or an idle
frame. An injected fault spoils the CRC (R655). -/
def sendFrame (h : Hub) (p k : Nat) (lowest : Bool) : Hub :=
  let l := h.laneNo p k
  let again := if h.on OPT.hResend p then
      (Tab.get [] p h.replay).find? fun f => decide (h.rd OPT.hResendAt p ≤ f.ext) else none
  let (frame, h1) : Option RFrame × Hub := match again with
    | some f =>
      (some f, { h with replay := Tab.ins p ((Tab.get [] p h.replay).map fun (g : RFrame) =>
        if g.ext = f.ext then { g with lane := l } else g) h.replay }.wr OPT.hResendAt (f.ext + 1) p)
    | none => (h.wr OPT.hResend 0 p).newFrame p l
  let (typ, value, h2) := h1.infoField p lowest
  let f : LinkFrame :=
    { slots := match frame with | some f => f.slots | none => List.replicate 8 (List.replicate 72 0),
      crc := 0, seq := (match frame with | some f => f.ext | none => h2.rd OPT.hTxExt p) % 1024,
      sf := h2.on CLP.STAT_SF_TX p, ca := h2.on CLP.STAT_CA_TX p,
      ncell := match frame with | some f => f.ncell | none => 0,
      lmc := match frame with | some f => f.lmc | none => false, value := value, typ := typ }
  let h3 := h2.when frame.isSome fun h => h.cnt OPT.CNT_TXFR_COUNT p
  if h3.on OPT.hBadCrc p then
    let (v, h4) := (h3.wr OPT.hBadCrc 0 p).free
    h4.framePut l { f with crc := (frameCrc f + 1 + v % (2 ^ 32 - 1)) % 2 ^ 32 }
  else h3.framePut l { f with crc := frameCrc f }

/-- A frame group of port `p` on the lanes in use, a lane that has just been retired not among them (R111, R138), and the SKIP or
AM that follows it (R94). A key used for 2³² spans takes the
port DOWN (R166). -/
def sendGroup (h : Hub) (p : Nat) : Hub :=
  let ks := (lanesOf (h.rd OPT.hTxSet p)).filter (h.working p).contains
  let h1 := ((h.each ks fun k h => h.sendFrame p k (ks.head? == some k)).timeOut p).ageFields p
  let n := h1.rd OPT.hGroups p + 1
  let h2 := h1.wr OPT.hGroups n p
  let h3 :=
    if n % 4096 = 0 then
      let c := (h2.rd OPT.hAmCount p + 1) % 2 ^ 16
      (h2.wr OPT.hAmCount c p).each ks fun k h =>
        h.ctlPut (h.laneNo p k) (ctlBlock 0x4B (h.logical p k + c * 2 ^ 8))
    else if n % 16 = 0 then h2.sendBlock p ks (ctlBlock 0x33 0)
    else h2
  h3.when (h3.on OPT.hTxArm p && decide (2 ^ 32 ≤ h3.rd OPT.hTxExt p / 16 - h3.rd OPT.hTxFrom p)) fun h =>
    h.portDown p (some 4)

/-! ### Replay -/

/-- Rollover ends at the transmitter once every frame of an earlier span is acknowledged (R166). -/
def rollDone (h : Hub) (p : Nat) : Hub :=
  h.when (h.rd OPT.hRoll p == 2 && (Tab.get [] p h.replay).all fun f => decide (16 * h.rd OPT.hTxFrom p ≤ f.ext))
    fun h => ((h.wr OPT.hRoll 0 p).wr OPT.CRYPT_ROLL_BUSY 0 p).irq (0x10 + p) 4

/-- An ACK of SEQ `v` (R155, R156, R142): the frames it covers are freed. -/
def ackIn (h : Hub) (p v : Nat) : Hub :=
  let covered (f : RFrame) : Bool := decide ((v + 1024 - f.ext % 1024) % 1024 < 512)
  let q := Tab.get [] p h.replay
  let gone := q.filter covered
  let left := q.filter fun f => !covered f
  if gone.isEmpty then h
  else
    let h1 := { h with replay := Tab.put [] p left h.replay }.wr OPT.REPLAY_INFLIGHT left.length p
    let h2 := h1.each gone fun f h => h.wr OLN.hCharge 0 f.lane
    (h2.when (gone.any (·.mbx)) fun h => (h.wr OPT.MBX_TXC_BUSY 0 p).irq (0x10 + p) 2).rollDone p

/-- A resend from frame `f` scheduled, and charged to the lane that last carried it; the 64th charge retires the lane
(R155, R156). -/
def resendFrom (h : Hub) (p : Nat) (f : RFrame) (charge : Bool) : Hub :=
  let h1 := h.wr OPT.hResend 1 p |>.wr OPT.hResendAt f.ext p
  if !charge || decide (f.ext + 1 < h.rd OPT.hNoCharge p) then h1
  else
    let n := h1.rd OLN.hCharge f.lane + 1
    let h2 := h1.wr OLN.hCharge n f.lane
    if 64 ≤ n ∧ h2.lane f.lane = 5 then
      ((h2.wr OLN.hCharge 0 f.lane).raise (0x10 + p) 6 { lo := some (f.lane % 4) }).retireLane f.lane 3
    else h2

/-- A NAK of SEQ `v` (R155, R167): under encryption, one that names a span whose TAG was sent is taken as a tag
failure, which charges no lane. -/
def nakIn (h : Hub) (p v : Nat) : Hub :=
  let h1 := h.cnt OPT.CNT_NAK_RCVD p
  match (Tab.get [] p h1.replay).find? fun f => f.ext % 1024 == v with
  | none => h1
  | some f =>
    let tagFail := h1.ciphered p true f.ext && f.ext % 16 == 0 && decide (f.ext + 16 ≤ h1.rd OPT.hTxExt p)
    h1.resendFrom p f (!tagFail)

/-- Credits returned by a CREDIT field (R139, R150). -/
def creditIn (h : Hub) (p v : Nat) : Hub :=
  let vc := v / 1024 % 4
  let c := v % 1024
  let n := (c + 1024 - h.rd OPT.hCredLast p vc) % 1024
  h.wr OPT.hCredLast c p vc |>.wr (credFld vc) (min 4095 (h.rd (credFld vc) p + n)) p

/-! ### Frames received -/

/-- A NAK raised for EXPECT, once for each value (R154). -/
def raiseNak (h : Hub) (p : Nat) : Hub :=
  let e := h.rd OPT.hRxExt p + 1
  h.when (h.rd OPT.hNakFor p != e) fun h => h.wr OPT.hNakFor e p |>.wr OPT.hNakPend 1 p

/-- Whether a TYPE of link management cell is reserved (R140). -/
def lmcReserved (t : Nat) : Bool := !((1 ≤ t && t ≤ 0x0B) || (0x10 ≤ t && t ≤ 0x1F))

/-- The cells of an accepted frame taken (R141, R152): a reserved link management cell is discarded, and a tunnel cell
beyond the credit advertised too. -/
def takeFrame (p : Nat) (f : RFrame) (h : Hub) : Hub :=
  let h1 := h.when (f.lmc && lmcReserved (leAt (f.slots.headD []) 0 1)) fun h => h.cnt OPT.CNT_CREDIT_LMC p
  h1.when (h1.rd OPT.STAT_STATE p == 3) fun h =>
    h.each ((f.slots.take f.ncell).drop (bnat f.lmc)) fun s h =>
      let vc := bits (leAt s 0 8) 24 2
      if h.rd OPT.hAdv p vc ≤ h.rd OPT.hHeld p vc then (h.cnt OPT.CNT_CREDIT_COUNT p).raise (0x10 + p) 5
      else h.wr OPT.hHeld (h.rd OPT.hHeld p vc + 1) p vc

/-- The receiver's switch to the next phase at the span agreed (R166). -/
def rollRx (h : Hub) (p : Nat) : Hub :=
  let r := h.rd OPT.hRxRoll p
  h.when (r != 0 && decide (r - 1 ≤ h.rd OPT.hRxExt p / 16)) fun h =>
    h.wr OPT.STAT_RXPH (1 - h.rd OPT.STAT_RXPH p) p |>.wr OPT.hRxFrom (r - 1) p |>.wr OPT.hRxRoll 0 p

/-- A sequenced frame with SEQ = EXPECT accepted (R154, R165): under encryption its cells wait for the span's tag. -/
def acceptFrame (h : Hub) (p l : Nat) (f : LinkFrame) : Hub :=
  let h0 := h.rollRx p
  let ext := h0.rd OPT.hRxExt p
  let rf : RFrame := { ext := ext, ncell := f.ncell, lmc := f.lmc, slots := f.slots.map (padTo 72), lane := l }
  let h1 := (h0.cnt OPT.CNT_RXFR_COUNT p).wr OPT.hRxExt (ext + 1) p |>.wr OPT.hAckPend 1 p
  if h1.ciphered p false ext then
    { h1 with spanRx := Tab.ins p (Tab.get [] p h1.spanRx ++ [rf]) h1.spanRx }
  else (h1.wr OPT.hAckExt (ext + 1) p).takeFrame p rf

/-- A link frame received on a lane of port `p` (R97, R136, R137, R154, R539): its trailer stands in place, so the lane holds frame
lock where no AM was missed. -/
def frameIn (g : Hub) (p l : Nat) (f : LinkFrame) : Hub :=
  let h := g.when (!g.on OLN.hAmMiss l) fun h => h.wr OLN.RXSTAT_FRAME_LOCK 1 l
  if !frameOk f then (h.cnt OPT.CNT_CRC_COUNT p).raiseNak p
  else
    let h0 := h.when (h.on OPT.STAT_SF_RX p != f.sf) fun h => h.irq (0xB0 + p) 5
    let h1 := h0.wr OPT.STAT_SF_RX (bnat f.sf) p |>.wr OPT.STAT_CA_RX (bnat f.ca) p
    let h2 :=
      if f.typ = 1 then h1.ackIn p (f.value % 1024) else if f.typ = 2 then h1.nakIn p (f.value % 1024)
      else if f.typ = 3 then h1.creditIn p f.value
      else if f.typ = 4 then
        h1.wr OPT.hRxMark (f.value % 4096 + 1) p |>.wr OPT.hRxMarkTime (h1.now + 1) p (f.value % 4096)
      else h1
    if f.ncell = 0 then h2
    else
      let d := (f.seq + 1024 - h2.rd OPT.hRxExt p % 1024) % 1024
      if d = 0 then h2.acceptFrame p l f
      else if d ≤ 511 then (h2.cnt OPT.CNT_SEQ_COUNT p).raiseNak p
      else h2.cnt OPT.CNT_DUP_COUNT p

/-- The check of the oldest complete span against its TAG (R165, R167). -/
def tagIn (h : Hub) (p : Nat) (tag : Bytes) : Hub :=
  let q := Tab.get [] p h.spanRx
  match q with
  | [] => h
  | f0 :: _ =>
    let span := f0.ext / 16
    let fs := q.filter fun f => f.ext / 16 == span
    if fs.length < 16 then h
    else
      let key := h.spanKey p false span
      let salt := h.rd OPT.RXSALT_SALT p
      let aad := fs.flatMap fun f => frameAad f.ext f.ncell f.lmc
      let ct := fs.flatMap fun f => spanBytes f.ext f.slots
      if padTo 16 (Config.gcmTag key (spanIv salt span) aad ct) = padTo 16 tag then
        let h1 := { h with spanRx := Tab.put [] p (q.filter fun f => f.ext / 16 != span) h.spanRx }
          |>.wr OPT.hTagFail 0 p |>.wr OPT.hAckExt (16 * span + 16) p |>.wr OPT.hAckPend 1 p
        h1.each fs fun f h => h.takeFrame p { f with slots := cryptSlots key salt f.ext f.slots }
      else
        let n := h.rd OPT.hTagFail p + 1
        let h1 := (h.cnt OPT.CNT_AUTH_COUNT p).wr OPT.hTagFail n p
        if 4 ≤ n then (h1.raise (0x10 + p) 4).portDown p (some 3)
        else
          { h1 with spanRx := Tab.del p h1.spanRx }.wr OPT.hRxExt (16 * span) p |>.wr OPT.hNakFor (16 * span + 1) p
            |>.wr OPT.hNakPend 1 p

end Hub

/-- FRAME_GROUP_SEND (R138). -/
def execFrameGroupSend (p : Fin 8) (s : State) : Host.Outcome State Fault Refusal :=
  s.act fun h => h.when (h.portOn p && decide (1 ≤ h.rd OPT.STAT_STATE p ∧ h.rd OPT.STAT_STATE p ≤ 3)) fun h =>
    h.sendGroup p

/-- LINK_FRAME_RECEIVED (R111, R154): a frame on physical lane `phys` of port `p`; a lane out of use takes none. -/
def execLinkFrameReceived (p : Fin 8) (phys : Fin 4) (f : LinkFrame) (s : State) : Host.Outcome State Fault Refusal :=
  s.act fun h => h.when (h.portOn p && decide (1 ≤ h.rd OPT.STAT_STATE p ∧ h.rd OPT.STAT_STATE p ≤ 3) &&
    (h.rd OPT.hRxSet p).testBit (h.logical p phys) && (h.lane (4 * p + phys) == 5 || h.lane (4 * p + phys) == 6)) fun h => h.frameIn p (4 * p + phys) f

/-- REPLAY_TIMEOUT (R155). -/
def execReplayTimeout (p : Fin 8) (s : State) : Host.Outcome State Fault Refusal :=
  s.act fun h => h.when (h.portOn p) fun h =>
    match Tab.get [] p.val h.replay with
    | [] => h
    | f :: _ => (h.cnt OPT.CNT_RTO_COUNT p).resendFrom p f true

/-- TAG (R165). -/
def execTag (p : Fin 8) (bytes : Bytes) (s : State) : Host.Outcome State Fault Refusal :=
  s.act fun h => h.when (h.portOn p) fun h => h.tagIn p bytes

end Sys2Proof.Machine
end

