-- ==== Sys2Proof/Machine/Ports.lean ====
section
/-! DEFINITION. The commands of the Ocael link layer (chapter 5) but for link frames: capability exchange, the mailbox,
width changes, power requests, time transfer and key arming (R142 to R168). -/

namespace Sys2Proof.Machine

namespace Hub

/-! ### Capability exchange -/

/-- Port `p` comes UP (R143, R335). -/
def goUp (h : Hub) (p : Nat) : Hub := ((h.setPort p 3).refreshPoints).casPortUp p

/-- Whether the encryption policies that the CAPs of the two sides report exclude each other (R149): one is 0 and the other 2, or the
partner's is the reserved 3. -/
def capClash (own far : Nat) : Bool := far == 3 || (own == 0 && far == 2) || (own == 2 && far == 0)

/-- The policies clash: the port goes DOWN with CAP_MISMATCH (R149). -/
def capMismatch (h : Hub) (p : Nat) : Hub := (h.raise (0x10 + p) 1).portDown p none

/-- Both CAPs acknowledged (R143, R149): KEYING where neither side's policy is 0, else UP. The policies are those that the CAPs report,
and this side's last CAP may differ from the one it had sent as the partner's came. -/
def capDone (h : Hub) (p : Nat) : Hub :=
  let got := Tab.get [] p h.capRx
  let own := h.rd OPT.hCrypt p
  let far := bits (leAt got 13 1) 2 2
  if h.rd OPT.STAT_STATE p = 1 ∧ h.on OPT.hCapAck p = true ∧ got.isEmpty = false then
    if capClash own far then h.capMismatch p else if own = 0 ∨ far = 0 then h.goUp p else h.setPort p 2
  else h

/-- A CAP received (R146 to R149): answered, and one that differs from the last replaces it. In CAPX its credits become
the starting transmit credits; a mismatch takes the port DOWN. -/
def capIn (h : Hub) (p tok : Nat) (payload : Bytes) : Hub :=
  let c := padTo 64 payload
  let b (i n : Nat) : Nat := leAt c i n
  let h0 := h.lmcSend p 2 tok []
  if Tab.get [] p h.capRx = c then h0.capDone p
  else
    let h1 := { h0 with capRx := Tab.ins p c h0.capRx }.wr OPT.PARTNER_ID_LO_ID (b 0 4) p
      |>.wr OPT.PARTNER_ID_HI_ID (b 4 4) p |>.wr OPT.PARTNER_NODE (b 8 2 % 2 ^ 14) p
      |>.wr OPT.PARTNER_NODE_VALID (bits (b 8 2) 15 1) p |>.wr OPT.PARTNER_PORT (b 11 1) p
      |>.wr OPT.PARTNER_ROLE (b 10 1) p |>.wr OPT.PARTNER_FACING (b 26 1) p
    let h2 := h1.when (h.rd OPT.STAT_STATE p == 1) fun h =>
      h.wr OPT.TXCRED_A_VC0 (b 16 2) p |>.wr OPT.TXCRED_A_VC1 (b 18 2) p |>.wr OPT.TXCRED_B_VC2 (b 20 2) p
        |>.wr OPT.TXCRED_B_VC3 (b 22 2) p
    let h3 := (h2.when (b 13 1 % 4 != h.rd OLN.CFG_CLASS (4 * p)) fun h => h.raise (0x10 + p) 11).refreshPoints
    if capClash (h.rd OPT.hCrypt p) (bits (b 13 1) 2 2) then h3.capMismatch p else h3.capDone p

/-! ### Mailbox -/

/-- The mailbox sent as a link management cell (R142), with TYPE as it stands and 64 bytes where LEN says more, which the spec
leaves open (log entry 164). A GO while BUSY, or while the port is DOWN, changes nothing; the spec does
not say (log entry 108). -/
def mbxSend (h : Hub) (p : Nat) : Hub :=
  let st := h.rd OPT.STAT_STATE p
  if h.on OPT.MBX_TXC_BUSY p ∨ st = 0 then h
  else
    let ws := (List.range 16).map fun j => h.rd (OPT.MBX_TXD.word j) p
    let m : Lmc := { typ := h.rd OPT.MBX_TXC_TYPE p, payload := (ofWords ws).take (h.rd OPT.MBX_TXC_LEN p), mbx := true }
    { h with lmcQ := Tab.ins p (Tab.get [] p h.lmcQ ++ [m]) h.lmcQ }.wr OPT.MBX_TXC_BUSY 1 p

/-- A mailbox cell received (R142). -/
def mbxIn (h : Hub) (p typ len : Nat) (payload : Bytes) : Hub :=
  if h.on OPT.MBX_RXC_VALID p then h.wr OPT.MBX_RXC_OVERRUN 1 p
  else
    let h1 := h.wr OPT.MBX_RXC_TYPE typ p |>.wr OPT.MBX_RXC_LEN len p |>.wr OPT.MBX_RXC_VALID 1 p
    (h1.each ((List.range 16).zip (toWords 16 (padTo 64 (payload.take len)))) fun (j, w) h =>
      h.wr (OPT.MBX_RXD.word j) w p).irq (0x10 + p) 1

/-! ### Width -/

/-- The write of WIDTH.GO (R157 step 1, R284): refused, or WIDTH_REQ is sent with the lowest lanes of the target. A port that is not
UP answers DONE = 3 with no ESTAT bit, the model's choice (log entry 160). -/
def widthGo (h : Hub) (p : Nat) (c : Cap := {}) : Hub :=
  let t := lanesOfWidth (h.rd OPT.WIDTH_TARGET p)
  let now := lanesOfWidth (h.rd OPT.STAT_WIDTH p)
  if h.rd OPT.WIDTH_DONE p = 1 then h
  else if h.rd OPT.STAT_STATE p ≠ 3 then h.wr OPT.WIDTH_DONE 3 p
  else if lanesOfWidth (h.rd OPT.CFG_WIDTH p) < t ∨ (t < now ∧ widthCt (widthOfLanes t) < h.pres p) then
    (h.wr OPT.WIDTH_DONE 3 p).raise (0x10 + p) 8 c
  else
    let (tok, h1) := h.nextTok p
    (h1.wr OPT.WIDTH_DONE 1 p |>.wr OPT.hWidth 1 p |>.wr OPT.hWidthTok (tok + 1) p |>.wr OPT.hWidthMask (2 ^ t - 1) p)
      |>.lmcSend p 3 tok (natLe 1 (2 ^ t - 1))

/-- Whether this node's width request wins over a crossing one (R158). Where both ends or neither reported that it faces the crown,
the lower device ID wins; the spec says so only where facing is unknown at both (log entry 162). -/
def widthWins (h : Hub) (p : Nat) : Bool :=
  let own := h.rd OPT.hFace p % 4
  let far := h.rd OPT.PARTNER_FACING p
  if own = 3 ∧ far ≠ 3 then true
  else if far = 3 ∧ own ≠ 3 then false
  else decide (h.deviceId < h.rd OPT.PARTNER_ID_HI_ID p * 2 ^ 32 + h.rd OPT.PARTNER_ID_LO_ID p)

/-- A WIDTH_REQ received (R157 step 3, R158). -/
def widthReqIn (h : Hub) (p tok mask : Nat) : Hub :=
  let m := mask % 16
  let ok := m != 0 && (lanesOf m).all fun k => h.lane (h.laneNo p k) == 5 || h.lane (h.laneNo p k) == 6
  if h.rd OPT.hWidth p = 1 ∧ h.widthWins p = true then h.lmcSend p 4 tok (natLe 1 2)
  else
    (h.when (h.rd OPT.hWidth p == 1) fun h => h.endWidth p 3).lmcSend p 4 tok (natLe 1 (bnat (!ok)))

/-- A WIDTH_ACK received (R157 step 4): accepted, the RETIRE of the next link-frame boundary carries the target. -/
def widthAckIn (h : Hub) (p tok status : Nat) : Hub :=
  if h.rd OPT.hWidth p = 1 ∧ h.rd OPT.hWidthTok p = tok + 1 then
    if status = 0 then
      h.wr OPT.hWidth 2 p |>.wr OPT.hWidthTok 0 p |>.wr OPT.hRet 1 p |>.wr OPT.hRetMask 0 p
        |>.wr OPT.hRetSet (h.rd OPT.hWidthMask p) p
    else h.endWidth p 3
  else h

/-! ### Power requests -/

/-- Whether a width change or a retirement is under way (R160). -/
def lanesBusy (h : Hub) (p : Nat) : Bool := h.on OPT.hRet p || h.on OPT.hRetAns p || h.on OPT.hWidth p

/-- Whether the replay buffer is empty, and no cell taken waits to be sent (R159). -/
def drained (h : Hub) (p : Nat) : Bool := (Tab.get [] p h.replay).isEmpty && (Tab.get [] p h.egOut).isEmpty

/-- The write of PM.GO (R159 step 1). -/
def pmGo (h : Hub) (p l2 : Nat) : Hub :=
  h.when (h.rd OPT.STAT_STATE p == 3 && !h.on OPT.hPm p) fun h =>
    h.wr OPT.hPm 1 p |>.wr OPT.hPmHold 1 p |>.wr OPT.PM_STATE 1 p |>.wr OPT.hPmL2 l2 p

/-- PM_REQ sent (R159 step 2). -/
def pmSend (h : Hub) (p : Nat) : Hub :=
  let (tok, h1) := h.nextTok p
  (h1.wr OPT.hPm 2 p |>.wr OPT.hPmTok tok p).lmcSend p 5 tok (natLe 1 (h.rd OPT.hPmL2 p))

/-- A PM_REQ received (R159 step 3). A requester whose own wait timed out sends no EIDLE, and the spec gives this hold no end: the
port keeps it, with PM.STATE 1, until the next EIDLE or DOWN (log entry 163). -/
def pmReqIn (h : Hub) (p tok : Nat) (l2 : Bool) : Hub :=
  if h.on (if l2 then OPT.CFG_PM_L2_OK else OPT.CFG_PM_L1_OK) p then
    h.wr OPT.hPmPart 1 p |>.wr OPT.hPmPartTok tok p |>.wr OPT.hPmPartL2 (bnat l2) p |>.wr OPT.hPmHold 1 p
      |>.wr OPT.PM_STATE 1 p
  else h.lmcSend p 6 tok (natLe 1 1 ++ natLe 1 (bnat l2))

/-- The state that both ends enter for a target of the partner: L1 where this node's lanes turn L2 into L1, or where two
crossing requests differ (R123, R159, R160). An own PM_REQ not yet sent crosses nothing. -/
def pmLevel (h : Hub) (p l2 : Nat) : Nat :=
  if h.l2AsL1 p || (decide (2 ≤ h.rd OPT.hPm p) && h.rd OPT.hPmL2 p != l2) then 0 else l2

/-- PM_ACK sent once this node's replay buffer is empty (R159 step 3). -/
def pmAckOut (h : Hub) (p : Nat) : Hub :=
  let lev := h.pmLevel p (h.rd OPT.hPmPartL2 p)
  (h.wr OPT.hPmPart 2 p).lmcSend p 6 (h.rd OPT.hPmPartTok p) (natLe 1 0 ++ natLe 1 lev)

/-- The own request ends without LOWPOWER, and the port resumes UP (R159). -/
def pmResume (h : Hub) (p : Nat) : Hub :=
  (h.wr OPT.hPm 0 p).when (!h.on OPT.hPmPart p) fun h => h.wr OPT.hPmHold 0 p |>.wr OPT.PM_STATE 0 p

/-- The request of the port ends refused or timed out (R159). A port asked on an entry to STANDBY then leaves PDM.STAT.PARTIAL
at 1 (R585). -/
def pmRefused (h : Hub) (p : Nat) : Hub :=
  (h.pmResume p).when (h.on PDM.STATE_BUSY && h.rd PDM.hGoal == 1 && h.bit PDM.hAsked p) fun h => h.wr PDM.STAT_PARTIAL 1

/-- A PM_ACK received (R159 step 4, R160). -/
def pmAckIn (h : Hub) (p tok status state : Nat) : Hub :=
  if h.rd OPT.hPm p = 2 ∧ h.rd OPT.hPmTok p = tok then
    if status ≠ 0 then (h.pmRefused p).irq (0x10 + p) 7
    else
      let own := h.rd OPT.hPmL2 p
      let crossed := h.on OPT.hPmPart p && h.rd OPT.hPmPartL2 p != own
      h.wr OPT.hPm 3 p |>.wr OPT.hPmL2 (if state = 0 ∨ h.l2AsL1 p = true ∨ crossed = true then 0 else own) p
  else h

/-! ### Time -/

/-- A 32-bit signed value, saturating (R169). The spec says so of OFFSET; that DELAY saturates alike is the model's choice (log
entry 109). -/
def satSigned32 (z : Int) : Nat := ofSigned 32 (max (-(2 ^ 31 : Nat)) (min ((2 ^ 31 - 1 : Nat) : Int) z))

/-- A TIME cell received (R161, R162): the four times, and the source port's result steers node time (R332). A cell that names a
marker whose own time this port never took gives no T1 or T4 and is passed over (log entry 106). An odd sum is halved
toward minus infinity, which the spec leaves open (log entry 109). -/
def timeIn (h : Hub) (p : Nat) (payload : Bytes) : Hub :=
  let c := padTo 64 payload
  let far := leAt c 0 2 % 4096
  let own := leAt c 16 2 % 4096
  if h.rd OPT.hMarkTime p own = 0 ∨ h.rd OPT.hRxMarkTime p far = 0 then h
  else
    let t1 := h.rd OPT.hMarkTime p own - 1
    let t2 := leAt c 24 8
    let t3 := leAt c 8 8
    let t4 := h.rd OPT.hRxMarkTime p far - 1
    let a : Int := (t2 : Int) - t1
    let b : Int := (t4 : Int) - t3
    let off := (a - b) / 2
    let h1 := h.each ((List.range 4).zip [t1, t2, t3, t4]) fun (j, t) h =>
      h.wr (OPT.T.word (2 * j)) (t % 2 ^ 32) p |>.wr (OPT.T.word (2 * j + 1)) (t / 2 ^ 32) p
    let h2 := (h1.wr OPT.OFFSET_NS (satSigned32 off) p |>.wr OPT.DELAY_NS (satSigned32 ((a + b) / 2)) p).irq (0x10 + p) 8
    h2.when (h.casOn && h.on CAS.TSTAT_SRC_VALID && h.rd CAS.TSTAT_SRCPORT == p && h.rd CAS.STAT_CROLE != 1) fun h =>
      h.steer off (h.rd OPT.TIME_PERIOD_US p)

/-! ### Keys -/

/-- Both directions armed: KEYING ends in UP with encryption on (R143, R164). -/
def armed (h : Hub) (p : Nat) : Hub :=
  h.when (h.rd OPT.STAT_STATE p == 2 && h.on OPT.hTxArm p && h.on OPT.hRxArm p) fun h => (h.wr OPT.STAT_ENC 1 p).goUp p

/-- KEY sent for a phase and its first span (R164, R166). -/
def keySend (h : Hub) (p phase span : Nat) : Hub :=
  let (tok, h1) := h.nextTok p
  (h1.wr OPT.hKeyTok (tok + 1) p |>.wr OPT.hKeySpan span p).lmcSend p 7 tok (natLe 8 phase ++ natLe 8 span)

/-- The write of CRYPT.ARM (R164): phase 0 and the next span. -/
def armGo (h : Hub) (p : Nat) (c : Cap := {}) : Hub :=
  if h.rd OPT.STAT_STATE p ≠ 2 then h
  else if !h.armable p (h.keySlot p true 0) then h.raise (0x10 + p) 3 c
  else h.keySend p 0 (h.rd OPT.hTxExt p / 16 + 1)

/-- The write of CRYPT.ROLL (R166): the inactive phase, 64 spans ahead. -/
def rollGo (h : Hub) (p : Nat) (c : Cap := {}) : Hub :=
  let phase := 1 - h.rd OPT.STAT_TXPH p
  if h.rd OPT.STAT_STATE p ≠ 3 ∨ h.on OPT.STAT_ENC p = false ∨ h.on OPT.CRYPT_ROLL_BUSY p = true then h
  else if !h.armable p (h.keySlot p true phase) then h.raise (0x10 + p) 3 c
  else (h.wr OPT.CRYPT_ROLL_BUSY 1 p).keySend p phase (h.rd OPT.hTxExt p / 16 + 64)

/-- A KEY received (R164, R166, R168): refused where its slot holds no fresh link key or its span has already been
sent. -/
def keyIn (h : Hub) (p tok phase span : Nat) : Hub :=
  let slot := h.keySlot p false (phase % 2)
  let ok := h.armable p slot && decide (h.rd OPT.hRxExt p ≤ 16 * span)
  let h1 := h.lmcSend p 8 tok (natLe 1 phase ++ natLe 1 (bnat (!ok)))
  if !ok then h1.when (!h.armable p slot) fun h => h.raise (0x10 + p) 3
  else if h.on OPT.hRxArm p && h.rd OPT.STAT_STATE p == 3 then h1.wr OPT.hRxRoll (span + 1) p
  else (h1.wr OPT.hRxArm (span + 1) p |>.wr OPT.hRxFrom span p |>.wr OPT.STAT_RXPH phase p).armed p

/-- A KEYACK received (R164, R166, R168). -/
def keyackIn (h : Hub) (p tok status : Nat) : Hub :=
  if h.rd OPT.hKeyTok p ≠ tok + 1 then h
  else
    let h1 := h.wr OPT.hKeyTok 0 p
    if h.on OPT.CRYPT_ROLL_BUSY p then
      if status = 0 then h1.wr OPT.hRoll 1 p else h1.wr OPT.CRYPT_ROLL_BUSY 0 p
    else if status = 0 then
      (h1.wr OPT.hTxArm (h.rd OPT.hKeySpan p + 1) p |>.wr OPT.hTxFrom (h.rd OPT.hKeySpan p) p).armed p
    else h1

/-- Whether port `p` exchanges link management cells: it is powered, and in CAPX, KEYING or UP. -/
def linkUp (h : Hub) (p : Nat) : Bool :=
  h.portOn p && decide (1 ≤ h.rd OPT.STAT_STATE p ∧ h.rd OPT.STAT_STATE p ≤ 3)

end Hub

/-- CAP (R146). -/
def execCap (p : Fin 8) (tok : Nat) (payload : Bytes) (s : State) : Host.Outcome State Fault Refusal :=
  s.act fun h => h.when (h.linkUp p) fun h => h.capIn p tok payload

/-- CAPACK (R146): it ends the repeats where it carries the TOKEN of the CAP sent. -/
def execCapack (p : Fin 8) (tok : Nat) (s : State) : Host.Outcome State Fault Refusal :=
  s.act fun h => h.when (h.portOn p && h.rd OPT.STAT_STATE p == 1 && h.rd OPT.hCapTok p == tok) fun h =>
    (h.wr OPT.hCapAck 1 p).capDone p

/-- CAP_REPEAT (R146): 100 µs have passed without a CAPACK. -/
def execCapRepeat (p : Fin 8) (s : State) : Host.Outcome State Fault Refusal :=
  s.act fun h => h.when (h.portOn p && h.rd OPT.STAT_STATE p == 1 && !h.on OPT.hCapAck p) fun h => h.sendCap p

/-- CAPX_TIMEOUT (R143). -/
def execCapxTimeout (p : Fin 8) (s : State) : Host.Outcome State Fault Refusal :=
  s.act fun h => h.when (h.portOn p && h.rd OPT.STAT_STATE p == 1) fun h =>
    (h.raise (0x10 + p) 0).portDown p (some 1)

/-- KEYING_TIMEOUT (R143). -/
def execKeyingTimeout (p : Fin 8) (s : State) : Host.Outcome State Fault Refusal :=
  s.act fun h => h.when (h.portOn p && h.rd OPT.STAT_STATE p == 2) fun h =>
    (h.raise (0x10 + p) 2).portDown p (some 2)

/-- PORT_DOWN_CMD (R144): a 1 written to OPT.CTL.DOWN. -/
def execPortDownCmd (r : Req) (p : Fin 8) (s : State) : Host.Outcome State Fault Refusal :=
  s.act fun h => h.asGo r OPT.CTL_DOWN p fun h => h.portDown p (some 5)

/-- MAILBOX_SEND (R142): a 1 written to OPT.MBX_TXC.GO. -/
def execMailboxSend (r : Req) (p : Fin 8) (s : State) : Host.Outcome State Fault Refusal :=
  s.act fun h => h.asGo r OPT.MBX_TXC_GO p fun h => h.mbxSend p

/-- MAILBOX (R142). A cell of TYPE CLASP under a reserved CTYPE, and one of a reserved TYPE, is counted and discarded (R141, R511,
R512); the other types have commands of their own. -/
def execMailbox (p : Fin 8) (typ len : Nat) (payload : Bytes) (s : State) : Host.Outcome State Fault Refusal :=
  s.act fun h => h.when (h.linkUp p) fun h =>
    if typ = 0x0B then
      h.when (h.live (0xB0 + p) && decide (leAt payload 0 1 = 0 ∨ 13 < leAt payload 0 1)) fun h => h.cnt CLP.CNT_MSG2_BAD p
    else if 0x10 ≤ typ ∧ typ ≤ 0x1F then h.mbxIn p typ len payload
    else h.when (Hub.lmcReserved typ) fun h => h.cnt OPT.CNT_CREDIT_LMC p

/-- WIDTH_REQUEST (R157): a 1 written to OPT.WIDTH.GO. -/
def execWidthRequest (r : Req) (p : Fin 8) (s : State) : Host.Outcome State Fault Refusal :=
  s.act fun h => h.asGo r OPT.WIDTH_GO p fun h => h.widthGo p (Hub.regCap r OPT.WIDTH_GO p)

/-- WIDTH_REQ (R157). -/
def execWidthReq (p : Fin 8) (tok mask : Nat) (s : State) : Host.Outcome State Fault Refusal :=
  s.act fun h => h.when (h.portOn p && h.rd OPT.STAT_STATE p == 3) fun h => h.widthReqIn p tok mask

/-- WIDTH_ACK (R157). -/
def execWidthAck (p : Fin 8) (tok status : Nat) (s : State) : Host.Outcome State Fault Refusal :=
  s.act fun h => h.when (h.portOn p && h.rd OPT.STAT_STATE p == 3) fun h => h.widthAckIn p tok status

/-- WIDTH_TIMEOUT (R157): no WIDTH_ACK within 1 ms. -/
def execWidthTimeout (p : Fin 8) (s : State) : Host.Outcome State Fault Refusal :=
  s.act fun h => h.when (h.portOn p && h.rd OPT.hWidth p == 1) fun h => (h.endWidth p 3).raise (0x10 + p) 9

/-- PM_REQUEST (R159): a 1 written to OPT.PM.GO. -/
def execPmRequest (r : Req) (p : Fin 8) (s : State) : Host.Outcome State Fault Refusal :=
  s.act fun h => h.asGo r OPT.PM_GO p fun h => h.pmGo p (h.rd OPT.PM_TARGET p)

/-- PM_REQ_SEND (R159, R160): the replay buffer is empty, and no width change or retirement is under way. -/
def execPmReqSend (p : Fin 8) (s : State) : Host.Outcome State Fault Refusal :=
  s.act fun h => h.when (h.portOn p && h.rd OPT.hPm p == 1 && h.drained p && !h.lanesBusy p) fun h => h.pmSend p

/-- PM_REQ (R159). -/
def execPmReq (p : Fin 8) (tok : Nat) (l2 : Bool) (s : State) : Host.Outcome State Fault Refusal :=
  s.act fun h => h.when (h.portOn p && h.rd OPT.STAT_STATE p == 3) fun h => h.pmReqIn p tok l2

/-- PM_ACK_SEND (R159): the partner's request was accepted, and this node's replay buffer is empty. -/
def execPmAckSend (p : Fin 8) (s : State) : Host.Outcome State Fault Refusal :=
  s.act fun h => h.when (h.portOn p && h.rd OPT.hPmPart p == 1 && h.drained p && !h.lanesBusy p) fun h => h.pmAckOut p

/-- PM_ACK (R159). -/
def execPmAck (p : Fin 8) (tok status state : Nat) (s : State) : Host.Outcome State Fault Refusal :=
  s.act fun h => h.when (h.portOn p && h.rd OPT.STAT_STATE p == 3) fun h => h.pmAckIn p tok status state

/-- PM_TIMEOUT (R159): no PM_ACK within 1 ms. -/
def execPmTimeout (p : Fin 8) (s : State) : Host.Outcome State Fault Refusal :=
  s.act fun h => h.when (h.portOn p && h.rd OPT.hPm p == 2) fun h => (h.pmRefused p).raise (0x10 + p) 10

/-- PM_EXIT (R159, R120): a 1 written to OPT.PM.EXIT, or a cell that waits on a virtual channel. -/
def execPmExit (r : Option Req) (p : Fin 8) (s : State) : Host.Outcome State Fault Refusal :=
  s.act fun h =>
    match r with
    | some r => h.asGo r OPT.PM_EXIT p fun h => h.startExit p
    | none => h.when (h.portOn p) fun h => h.startExit p

/-- TIME_MARKER (R161): a 1 written to OPT.TIME.GO, or the period; none in LOWPOWER. -/
def execTimeMarker (r : Option Req) (p : Fin 8) (s : State) : Host.Outcome State Fault Refusal :=
  s.act fun h =>
    match r with
    | some r => h.asGo r OPT.TIME_GO p fun h => h.when (h.linkUp p) fun h => h.wr OPT.hMarkPend 1 p
    | none => h.when (h.linkUp p && h.on OPT.TIME_PERIOD_US p) fun h =>
        h.wr OPT.hMarkPend 1 p

/-- TIME (R162). -/
def execTime (p : Fin 8) (payload : Bytes) (s : State) : Host.Outcome State Fault Refusal :=
  s.act fun h => h.when (h.linkUp p) fun h => h.timeIn p payload

/-- CRYPT_ARM (R164): a 1 written to OPT.CRYPT.ARM. -/
def execCryptArm (r : Req) (p : Fin 8) (s : State) : Host.Outcome State Fault Refusal :=
  s.act fun h => h.asGo r OPT.CRYPT_ARM p fun h => h.armGo p (Hub.regCap r OPT.CRYPT_ARM p)

/-- KEY (R164). -/
def execKey (p : Fin 8) (tok phase span : Nat) (s : State) : Host.Outcome State Fault Refusal :=
  s.act fun h => h.when (h.linkUp p) fun h => h.keyIn p tok phase span

/-- KEYACK (R164). -/
def execKeyack (p : Fin 8) (tok _phase status : Nat) (s : State) : Host.Outcome State Fault Refusal :=
  s.act fun h => h.when (h.linkUp p) fun h => h.keyackIn p tok status

/-- CRYPT_ROLL (R166): a 1 written to OPT.CRYPT.ROLL. -/
def execCryptRoll (r : Req) (p : Fin 8) (s : State) : Host.Outcome State Fault Refusal :=
  s.act fun h => h.asGo r OPT.CRYPT_ROLL p fun h => h.rollGo p (Hub.regCap r OPT.CRYPT_ROLL p)

end Sys2Proof.Machine
end

