-- ==== Sys2Proof/Machine/Slots.lean ====
section
/-! DEFINITION. Frame memory and the frame-slot table (R341 to R352): slots, rings, signatures, the slot guard, and
the states a slot passes through, as shared operations. -/

namespace Sys2Proof.Machine

/-- The signature of a tile of zeros: CRC-32C over 16,384 zero bytes (R344, R349). -/
def zeroSig : Nat := 0x94640B85

/-- The window offset of word `w` of slot `k` (R347). -/
def slotAddr (k w : Nat) : Nat := 0x460000 + 64 * k + 4 * w

/-- Which writer or reader of a ring a number of the model names. -/
def writerNo : Writer → Nat
  | .capture d => d
  | .hostWin w => 2 + w
  | .receive r => 66 + r
  | .send s => 74 + s

/-- A 4-byte pixel with its X byte 0 (R341). -/
def dropX (bs : Bytes) : Bytes := bs.zipIdx.map fun p => if p.2 % 4 = 3 then 0 else p.1

/-- A component of a source at 6 bpc widened to 8: its two most significant bits also in the two least significant (R341). -/
def widen6 (b : Byte) : Byte := b / 4 * 4 + b / 64

/-- Whether every pixel of a tile carries the same blue, green and red (R344). -/
def uniform : Bytes → Bool
  | b :: g :: r :: _ :: rest => go b g r rest
  | _ => true
where
  /-- Every further pixel equals the first. -/
  go (b g r : Byte) : Bytes → Bool
    | b' :: g' :: r' :: _ :: rest => b' == b && g' == g && r' == r && go b g r rest
    | _ => true

namespace Hub

/-! ### Frame memory -/

/-- Whether the LPDDR5X controller serves requests of levels 2 to 7 (R444, R446). -/
def memReady (h : Hub) : Bool := h.up 0x88 && h.on MEM.STAT_READY && !h.on MEM.STAT_SR

/-- The LPDDR5X installed, in bytes (R451). -/
def memBytes (h : Hub) : Nat := ([2, 4, 8, 12, 16].getD (h.rd MEM.CFG_CAP) 2) * 2 ^ 30

/-- `n` bytes of frame memory from `a`. -/
def fget (h : Hub) (a n : Nat) : Bytes := Tab.getRun 0 a n h.fmem

/-- Bytes written to frame memory from `a`. -/
def fput (h : Hub) (a : Nat) (bs : Bytes) : Hub := { h with fmem := Tab.putRun 0 a bs h.fmem }

/-- 64-byte units that `n` bytes from `a` touch. -/
def units (a n : Nat) : Nat := if n = 0 then 0 else (a + n - 1) / 64 - a / 64 + 1

/-- A read of `n` bytes from `a` counted (R451). -/
def countRd (h : Hub) (a n : Nat) : Hub := h.wr MEM.CNT_RD_COUNT (h.rd MEM.CNT_RD_COUNT + units a n)

/-- A write of `n` bytes from `a` counted (R451). -/
def countWr (h : Hub) (a n : Nat) : Hub := h.wr MEM.CNT_WR_COUNT (h.rd MEM.CNT_WR_COUNT + units a n)

/-- A request of the display engine that the memory controller refuses, counted while the controller runs (R444). -/
def notReady (h : Hub) : Hub := h.when (h.up 0x88) fun h => h.cnt MEM.CNT_NOTREADY_COUNT

/-- MEM.STAT.READY and the bridge's bit for it follow the enable, the training and the wipe (R433, R444, R445). -/
def refreshMem (h : Hub) : Hub :=
  let ok := h.up 0x88 && h.on MEM.CFG_EN && h.on MPH.TRAIN_DONE && !h.on MEM.WIPE_BUSY
  (h.wr MEM.STAT_READY (bnat ok)).wrBit TXB.SBLOCAL_BITS 11 (ok && !h.on MEM.STAT_SR)

/-! ### Slots -/

/-- Word `w` of slot `k`. -/
def slotWord (h : Hub) (k w : Nat) : Nat := h.tword (slotAddr k w)

/-- A field of slot `k`. -/
def slotFld (h : Hub) (k w lo n : Nat) : Nat := bits (h.slotWord k w) lo n

/-- A field of slot `k` set by hardware. -/
def setSlot (h : Hub) (k w lo n v : Nat) : Hub := h.setTfld (slotAddr k w) lo n v

/-- BASE in bytes. -/
def slotBase (h : Hub) (k : Nat) : Nat := h.slotFld k 0 0 18 * 65536
/-- WIDTH. -/
def slotW (h : Hub) (k : Nat) : Nat := h.slotFld k 1 0 13
/-- HEIGHT. -/
def slotH (h : Hub) (k : Nat) : Nat := h.slotFld k 1 16 13
/-- TW of R342. -/
def slotTw (h : Hub) (k : Nat) : Nat := ceilDiv (h.slotW k) 64
/-- TH of R342. -/
def slotTh (h : Hub) (k : Nat) : Nat := ceilDiv (h.slotH k) 64
/-- Tiles of the slot's grid. -/
def slotTiles (h : Hub) (k : Nat) : Nat := h.slotTw k * h.slotTh k
/-- The slot's size in bytes. -/
def slotBytes (h : Hub) (k : Nat) : Nat := h.slotTiles k * 16384
/-- SIG_EN. -/
def sigEn (h : Hub) (k : Nat) : Bool := h.slotFld k 2 16 1 == 1
/-- INHERIT. -/
def inherits (h : Hub) (k : Nat) : Bool := h.slotFld k 2 17 1 == 1
/-- OWNER. -/
def slotOwner (h : Hub) (k : Nat) : Nat := h.slotFld k 3 0 3
/-- INST. -/
def slotInst (h : Hub) (k : Nat) : Nat := h.slotFld k 3 8 6
/-- STATE: 0 FREE, 1 WRITING, 2 READY, 3 DONE. -/
def slotState (h : Hub) (k : Nat) : Nat := h.slotFld k 4 0 2
/-- STATE set. -/
def setState (h : Hub) (k st : Nat) : Hub := h.setSlot k 4 0 2 st
/-- Whether a head or a send stream holds the slot. -/
def held (h : Hub) (k : Nat) : Bool := h.slotFld k 4 2 5 != 0
/-- FRAME. -/
def slotFrame (h : Hub) (k : Nat) : Nat := h.slotWord k 5

/-- The window offset of a signature: entry `t` of the units from `u` (R345). -/
def sigAddr (u t : Nat) : Nat := 0x480000 + 4 * (u * 1024 + t)

/-- The signature of tile `t` of slot `k`. -/
def sig (h : Hub) (k t : Nat) : Nat := h.tword (sigAddr (h.slotFld k 2 8 8) t)

/-- The signature of tile `t` of slot `k` set, where the slot keeps signatures. -/
def setSig (h : Hub) (k t v : Nat) : Hub :=
  h.when (h.sigEn k) fun h => h.setTword (sigAddr (h.slotFld k 2 8 8) t) v

/-- The address of row `y` of tile `t` (R342). -/
def tileRow (h : Hub) (k t y : Nat) : Nat :=
  let tw := h.slotTw k
  h.slotBase k + (t / tw * 64 + y) * (tw * 256) + t % tw * 256

/-- The 16,384 bytes of tile `t`, row by row (R344). -/
def tileBytes (h : Hub) (k t : Nat) : Bytes := (List.range 64).flatMap fun y => h.fget (h.tileRow k t y) 256

/-- How many bytes of each row of tile `t`, and how many of its rows, lie inside WIDTH × HEIGHT (R342). -/
def tileVis (h : Hub) (k t : Nat) : Nat × Nat :=
  let tw := h.slotTw k
  (min 256 ((h.slotW k - t % tw * 64) * 4), min 64 (h.slotH k - t / tw * 64))

/-- Pixels written into tile `t`, the X bytes at 0 and the padding left alone (R341, R342). -/
def putTile (h : Hub) (k t : Nat) (px : Bytes) : Hub :=
  let (nb, ny) := h.tileVis k t
  let px := dropX (padTo 16384 px)
  h.each (List.range ny) fun y h => (h.fput (h.tileRow k t y) ((px.drop (256 * y)).take nb)).countWr (h.tileRow k t y) nb

/-- Tile `t` signed from frame memory (R344, R346). -/
def signTile (k t : Nat) (h : Hub) : Hub := h.setSig k t (crc32c (dropX (h.tileBytes k t)))

/-! ### Rings -/

/-- The cycle of slots from `first` along NEXT, where it returns within 2 to 8 slots (R349). -/
def ring (h : Hub) (first : Nat) : Option (List Nat) :=
  let seq := (List.range 9).map fun n => Nat.repeat (fun k => h.slotFld k 2 0 8) n first
  match (List.range 9).find? fun n => decide (1 ≤ n) && seq.getD n 0 == first with
  | some n => if 2 ≤ n then some (seq.take n) else none
  | none => none

/-- OWNER and INST of a writer (R347). -/
def ownerOf : Writer → Nat × Nat
  | .capture d => (1 + d, 0)
  | .hostWin w => (3, w)
  | .receive r => (4, r)
  | .send _ => (0, 0)

/-- The first slot of a writer's or reader's ring: the slot its register names; of a host window, the lowest slot that
names it. -/
def ringFirst (h : Hub) (w : Writer) : Nat :=
  match w with
  | .capture d => h.rd DCP.RING_FIRST d
  | .hostWin n => ((List.range 256).find? fun k => h.slotOwner k == 3 && h.slotInst k == n).getD 0
  | .receive r => h.rd DTL.RRING_FIRST 0 r
  | .send s => h.rd DTL.SSRC_FIRST 0 s

/-- The slots of a writer's or reader's ring, empty where it is no ring. -/
def ringOf (h : Hub) (w : Writer) : List Nat := (h.ring (h.ringFirst w)).getD []

/-- Whether a ring may be enabled (R349). -/
def ringOk (h : Hub) (w : Writer) : Bool :=
  let ks := h.ringOf w
  let f := h.ringFirst w
  let (o, i) := ownerOf w
  !ks.isEmpty &&
  match w with
  | .send _ => ks.all h.sigEn
  | _ =>
    ks.all (fun k => h.slotOwner k == o && h.slotInst k == i && h.slotWord k 1 == h.slotWord f 1 &&
      h.slotFld k 2 16 2 == h.slotFld f 2 16 2) &&
    ((List.range 64).all fun s => !h.on DTL.SCTL_EN 0 s || !ks.contains (h.rd DTL.SSRC_FIRST 0 s) || h.sigEn f) &&
    (match w with
     | .capture _ => !h.inherits f
     | .receive _ => h.sigEn f && h.inherits f
     | _ => true)

/-- Whether the node has the frame source at all: host frame windows at a HEAD alone (R21), and only capture on a stand-alone node
(R24). -/
def sourceOk (h : Hub) (w : Writer) : Bool :=
  match w with
  | .hostWin _ => h.rd TOP.NODECFG_ROLE == 0 && !h.on TOP.NODECFG_STANDALONE
  | .receive _ => !h.on TOP.NODECFG_STANDALONE
  | _ => true

/-- The page that holds a writer's or reader's enable bit. -/
def writerPage : Writer → Nat
  | .capture d => 0x75 + d
  | _ => 0x77

/-- Whether the host reaches the frame windows: through PCI Express in endpoint mode and the transaction bridge (R18, R356). -/
def hostOn (h : Hub) : Bool := h.up 0x80 && h.up 0x81 && h.rd PCI.MODE_MODE == 1

/-- Whether a writer or reader is enabled. -/
def ringEn (h : Hub) (w : Writer) : Bool :=
  match w with
  | .capture d => h.on DCP.CTL_CAPEN d
  | .hostWin n => if n.val < 32 then h.bit DTL.WINEN_LO_EN n else h.bit DTL.WINEN_HI_EN (n - 32)
  | .receive r => h.on DTL.RCTL_EN 0 r
  | .send s => h.on DTL.SCTL_EN 0 s

/-- A writer's or reader's enable bit set or cleared. -/
def setRingEn (h : Hub) (w : Writer) (v : Bool) : Hub :=
  match w with
  | .capture d => h.wr DCP.CTL_CAPEN (bnat v) d
  | .hostWin n => if n.val < 32 then h.wrBit DTL.WINEN_LO_EN n v else h.wrBit DTL.WINEN_HI_EN (n - 32) v
  | .receive r => h.wr DTL.RCTL_EN (bnat v) 0 r
  | .send s => h.wr DTL.SCTL_EN (bnat v) 0 s

/-- The READY slot of a ring, if any (R350). -/
def readySlot (h : Hub) (ks : List Nat) : Option Nat := ks.find? fun k => h.slotState k == 2

/-- A writer begins a frame (R350, R355): the first FREE slot after its last one becomes WRITING, and the catch-up runs
where the ring inherits and has a READY slot. -/
def beginFrame (h : Hub) (w : Writer) : Hub :=
  let n := writerNo w
  let ks := h.ringOf w
  let last := h.rd DTL.hLast 0 n
  let order := match (if last = 0 then none else ks.findIdx? fun k => k + 1 == last) with
    | some j => ks.drop (j + 1) ++ ks.take (j + 1)
    | none => ks
  match order.find? fun k => h.slotState k == 0 with
  | none => h.wr DTL.hSlot 0 0 n
  | some k =>
    (h.setState k 1).wr DTL.hSlot (k + 1) 0 n |>.setSlot k 4 7 1 (bnat (h.inherits k && (h.readySlot ks).isSome))

/-- Slot `k` without a writer or a READY mark becomes FREE where nothing holds it, else DONE (R350). -/
def retire (h : Hub) (k : Nat) : Hub := h.setState k (if h.held k then 3 else 0)

/-- A host window takes its next slot (R355, R357). -/
def nextHostFrame (h : Hub) (n : Fin 64) : Hub :=
  ((h.wr DTL.hExpect 0 0 (writerNo (.hostWin n))).wr DTL.hDisorder 0 0 n).beginFrame (.hostWin n)

/-- A hold on slot `k` set or cleared; a DONE slot with no hold left becomes FREE (R350), and a host window that waits for a free
slot takes it (R352, R357). -/
def hold (h : Hub) (k bit : Nat) (v : Bool) : Hub :=
  let h1 := h.setSlot k 4 bit 1 (bnat v)
  h1.when (h1.slotState k == 3 && !h1.held k) fun h =>
    let n := Fin.ofNat 64 (h.slotInst k)
    (h.setState k 0).when (h.slotOwner k == 3 && h.ringEn (.hostWin n) && !h.on DTL.hFill 0 (writerNo (.hostWin n)) &&
      !h.on DTL.hSlot 0 (writerNo (.hostWin n))) fun h => h.nextHostFrame n

/-- A writer commits the slot it is writing (R347, R350). DAMAGE counts the tiles whose signature differs from the
ring's newest frame. -/
def commitSlot (h : Hub) (w : Writer) (err : Nat) (incomplete : Bool) : Hub :=
  let n := writerNo w
  match h.rd DTL.hSlot 0 n with
  | 0 => h
  | k + 1 =>
    let prev := h.readySlot (h.ringOf w)
    let damage := if h.sigEn k then
        ((List.range (h.slotTiles k)).filter fun t =>
          h.sig k t != match prev with | some q => h.sig q t | none => zeroSig).length else 0
    let h1 := match prev with | some q => h.retire q | none => h
    let c := (h.rd DTL.hCount 0 n + 1) % 2 ^ 32
    (h1.setState k 2).setTword (slotAddr k 5) c
      |>.setTword (slotAddr k 6) (damage % 2 ^ 14 + err % 2 ^ 14 * 2 ^ 16 + bnat incomplete * 2 ^ 30)
      |>.setTword (slotAddr k 7) h.now
      |>.wr DTL.hCount c 0 n |>.wr DTL.hLast (k + 1) 0 n |>.wr DTL.hSlot 0 0 n

/-- A writer aborts the slot it is writing (R350). -/
def abortSlot (h : Hub) (w : Writer) : Hub :=
  match h.rd DTL.hSlot 0 (writerNo w) with
  | 0 => h
  | k + 1 => ((h.setState k 0).setSlot k 4 7 1 0).wr DTL.hSlot 0 0 (writerNo w)

/-- The catch-up of a writer's open frame (R355, R376): every tile whose signature differs from the READY slot's, and
that the frame has not written, is copied with its signature. -/
def catchUp (h : Hub) (w : Writer) (skip : List Nat) : Hub :=
  match h.rd DTL.hSlot 0 (writerNo w), h.readySlot (h.ringOf w) with
  | k + 1, some q =>
    if h.slotFld k 4 7 1 = 0 then h
    else
      (h.each ((List.range (h.slotTiles k)).filter fun t => h.sig k t != h.sig q t && !skip.contains t) fun t h =>
        (h.putTile k t (h.tileBytes q t)).setSig k t (h.sig q t)).setSlot k 4 7 1 0
  | _, _ => h

/-! ### The guard -/

/-- The slot with an owner that a write of `n` bytes at `a` falls in, if any (R351). -/
def guardedSlot (h : Hub) (a n : Nat) : Option Nat :=
  (List.range 256).find? fun k => h.slotOwner k != 0 && decide (h.slotBase k < a + n) &&
    decide (a < h.slotBase k + h.slotBytes k)

/-- Whether the captured mode equals the ring (R354). -/
def captureFits (h : Hub) (d : Nat) : Bool :=
  let k := h.rd DCP.RING_FIRST d
  h.rd DCP.MODE_HACT d == h.slotW k && h.rd DCP.MODE_VACT d == h.slotH k

/-- CSTAT.FIT follows the mode and the ring; a mode that does not fit sets MISFIT. -/
def refreshFit (h : Hub) (d : Nat) : Hub :=
  let f := h.captureFits d
  (h.wr DCP.CSTAT_FIT (bnat f) d).when (!f && h.on DCP.CTL_CAPEN d && h.on DCP.LINK_TRAINED d) fun h =>
    h.raise (0x75 + d) 1

/-- A write that the slot guard drops (R351). -/
def guardDrop (h : Hub) (a master : Nat) : Hub :=
  (h.cnt DTL.CNT_GUARD_COUNT).raise 0x77 2 { lo := some (a % 2 ^ 32), hi := some (a / 2 ^ 32), master := master, atype := some 5 }

/-- Whether the new entry `ws` for slot `k` is refused (R348). -/
def slotBad (h : Hub) (k : Nat) (ws : List Nat) : Bool :=
  let w (i : Nat) : Nat := ws.getD i 0
  let owner := bits (w 3) 0 3
  let wd := bits (w 1) 0 13
  let ht := bits (w 1) 16 13
  let base := bits (w 0) 0 18 * 65536
  let tiles := ceilDiv wd 64 * ceilDiv ht 64
  let own (o i : Nat) : Option Writer :=
    if o = 1 then some (.capture 0) else if o = 2 then some (.capture 1)
    else if o = 3 then some (.hostWin (Fin.ofNat 64 i)) else if o = 4 then some (.receive (Fin.ofNat 8 i)) else none
  (match own (h.slotOwner k) (h.slotInst k) with | some x => h.ringEn x | none => false) ||
  h.slotState k != 0 || h.held k ||
  (owner != 0 &&
    (decide (wd < 64 ∨ 7680 < wd ∨ ht < 64 ∨ 4320 < ht) || decide (h.memBytes < base + tiles * 16384) ||
     ((List.range 256).any fun j => j != k && h.slotOwner j != 0 && decide (h.slotBase j < base + tiles * 16384) &&
       decide (base < h.slotBase j + h.slotBytes j)) ||
     (bits (w 2) 16 1 == 1 && decide (256 < bits (w 2) 8 8 + ceilDiv tiles 1024))))

/-- The write of word 15 of slot `k` (R347, R348); reserved bits stay 0 (R6). -/
def slotReplace (h : Hub) (k : Nat) (ws : List Nat) (c : Cap := {}) : Hub :=
  if h.slotBad k ws then h.raise 0x77 0 { c with lo := some (slotAddr k 0) }
  else
    (h.setTwords (slotAddr k 0) (maskWords 2 k (ws.zipIdx.map fun p => if 4 ≤ p.2 ∧ p.2 ≤ 7 then h.slotWord k p.2 else p.1))).each
      ((List.range 2).filter fun d => h.up (0x75 + d) && h.rd DCP.RING_FIRST d == k) fun d h => h.refreshFit d

end Hub

/-- SLOT_ENTRY_WRITE (R348): a write of word 15 of a frame-slot table entry. -/
def execSlotEntryWrite (r : Req) (idx : Fin 256) (v : Nat) (s : State) : Host.Outcome State Fault Refusal :=
  s.act fun h => h.asWrite r (slotAddr idx 15) 4 fun h =>
    (h.slotReplace idx (h.stagedWords r.master 2 ⟨0x460000, 64, 256, 7, false⟩ idx (v % 2 ^ 32))
      (Hub.accCap r true (slotAddr idx 15))).clearStaging r.master 2

end Sys2Proof.Machine
end

