-- ==== Sys2Proof/Machine/Tiles.lean ====
section
/-! DEFINITION. Frame writers and tile streams (chapter 11: R349 to R376, R384): capture, host frame windows, send
streams and receive streams. -/

namespace Sys2Proof.Machine

/-- A range added to a list of ranges: it merges with the last entry where the two overlap or adjoin (R375). -/
def mergeLast (l : List (Nat × Nat)) (r : Nat × Nat) : Option (List (Nat × Nat)) :=
  match l.getLast? with
  | none => none
  | some e =>
    if r.1 ≤ e.2 + 1 ∧ e.1 ≤ r.2 + 1 then some (l.dropLast ++ [(min e.1 r.1, max e.2 r.2)]) else none

/-- A range merged into the entries of a queue that it overlaps or adjoins (R367), if any. -/
def mergeAny (l : List (Nat × Nat)) (r : Nat × Nat) : Option (List (Nat × Nat)) :=
  let near (e : Nat × Nat) : Bool := decide (r.1 ≤ e.2 + 1 ∧ e.1 ≤ r.2 + 1)
  let hit := l.filter near
  if hit.isEmpty then none
  else
    let m := hit.foldl (fun (a : Nat × Nat) e => (min a.1 e.1, max a.2 e.2)) r
    some ((l.filter fun e => !near e) ++ [m])

namespace Hub

/-! ### Enabling rings -/

/-- The enable bit of a writer or reader written 1 (R349, R362, R384): refused, or the ring is filled with zeros; a send
stream takes the all-zero reference. Nothing is done for a source that the node has not. -/
def enableRing (h : Hub) (w : Writer) (c : Cap := {}) : Hub :=
  if h.ringEn w || !h.up (writerPage w) || !h.sourceOk w then h
  else if !h.ringOk w then
    match w with
    | .capture d => h.raise (0x75 + d) 3 c
    | .hostWin n => h.raise 0x77 1 { c with lo := some n.val }
    | .receive r => h.raise 0x77 1 { c with lo := some r.val }
    | .send s => h.raise 0x77 1 { c with lo := some s.val }
  else
    match w with
    | .send s =>
      let u := h.rd DTL.SSRC_REFUNIT 0 s
      let n := h.slotTiles (h.ringFirst w)
      ((h.setRingEn w true).each (List.range n) fun t h => h.setTword (sigAddr u t) zeroSig).wr DTL.hSent 0 0 s
        |>.wr DTL.hRoll 0 0 s
    | _ =>
      let h1 := (h.setRingEn w true).wr DTL.hFill 1 0 (writerNo w) |>.wr DTL.FILLSTAT_BUSY 1
      match w with
      | .capture d => h1.refreshFit d
      | .receive r => h1.wr DTL.RSTAT_SYNC 0 0 r
      | _ => h1

/-- RGAP and RSTAT.GAPS follow the gap list (R375). -/
def refreshGap (h : Hub) (r : Nat) : Hub :=
  let q := Tab.get [] r h.gaps
  let (a, b) := q.headD (0, 0)
  h.wr DTL.RGAP_FIRST a 0 r |>.wr DTL.RGAP_LAST b 0 r |>.wr DTL.RGAP_VALID (bnat !q.isEmpty) 0 r
    |>.wr DTL.RSTAT_GAPS q.length 0 r

/-- Receive stream `r` has no frame open, and no catch-up runs for it (R350, R383). -/
def rxClosed (h : Hub) (r : Nat) : Hub := h.wr DTL.RSTAT_OPEN 0 0 r |>.wr DTL.RSTAT_CATCHUP 0 0 r |>.wr DTL.hWait 0 0 r

/-- The zero-fill of a writer's ring ends (R349): every slot is FREE, and its signatures are those of zero tiles. A writer that was
disabled meanwhile does not start. -/
def fillDone (h : Hub) (w : Writer) : Hub :=
  let n := writerNo w
  let h1 := h.each (h.ringOf w) fun k h =>
    let h1 : Hub := { h with fmem := Tab.wipe (h.slotBase k) (h.slotBase k + h.slotBytes k) h.fmem }
    (h1.each (List.range (h.slotTiles k)) fun t h => h.setSig k t zeroSig).setState k 0 |>.setSlot k 4 7 1 0
  let h2 := h1.wr DTL.hFill 0 0 n |>.wr DTL.hSlot 0 0 n |>.wr DTL.hLast 0 0 n
  let h3 := h2.wr DTL.FILLSTAT_BUSY (bnat ((List.range 74).any fun j => h2.on DTL.hFill 0 j))
  match w with
  | .hostWin i => h3.when (h3.ringEn w) fun h => h.nextHostFrame i
  | .receive r => ({ h3 with gaps := Tab.del r h3.gaps }.refreshGap r).rxClosed r
  | _ => h3

/-- Whether a writer may write: enabled, filled, and DISP and frame memory serve it. -/
def writerOn (h : Hub) (w : Writer) : Bool :=
  h.up 0x77 && h.ringEn w && !h.on DTL.hFill 0 (writerNo w)

/-! ### Capture -/

/-- The first line of a captured frame (R352, R354). -/
def captureStart (h : Hub) (d : Fin 2) : Hub :=
  let h1 := h.refreshFit d
  if !h1.on DCP.CSTAT_FIT d then h1
  else
    let h2 := h1.beginFrame (.capture d)
    if h2.on DTL.hSlot 0 d then h2.wr DCP.CSTAT_WRITING 1 d else h2.cnt DCP.CNT_NOSLOT_COUNT d

/-- The end of a captured frame's last active line (R346, R354): its tiles are in the slot, signed, and committed. -/
def captureCommit (h : Hub) (d : Fin 2) (px : List TilePix) : Hub :=
  match h.rd DTL.hSlot 0 d with
  | 0 => h
  | k + 1 =>
    let h1 := h.each (px.filter fun t => decide (t.tile < h.slotTiles k)) fun t h =>
      h.putTile k t.tile (if h.rd DCP.MODE2_BPC d = 6 then t.pixels.map widen6 else t.pixels)
    let h2 := (h1.each (List.range (h1.slotTiles k)) fun t h => signTile k t h).commitSlot (.capture d) 0 false
    (h2.cnt DCP.CNT_FRAMES_COUNT d).wr DCP.CSTAT_WRITING 0 d |>.wr DCP.CSTAT_FRAME (h2.slotFrame k) d

/-- The frame under capture aborted and counted (R350, R354). -/
def captureDrop (h : Hub) (d : Fin 2) : Hub :=
  if h.on DTL.hSlot 0 d then
    ((h.abortSlot (.capture d)).cnt DCP.CNT_ABORT_COUNT d).wr DCP.CSTAT_WRITING 0 d
  else h

/-- A cause of R354: 0 loss of the link or of lock, 1 a change of active size or pixel clock; a write of 0 to CTL.CAPEN
else. -/
def captureCause (h : Hub) (d : Fin 2) (cause hact vact pclk : Nat) : Hub :=
  let h1 := h.captureDrop d
  if cause = 0 then
    ((h1.wr DCP.LINK_TRAINED 0 d |>.wr DCP.LINK_RATE 0 d |>.wr DCP.LINK_LANES 0 d).raise (0x75 + d) 0)
  else if cause = 1 then
    ((h1.wr DCP.MODE_HACT hact d |>.wr DCP.MODE_VACT vact d |>.wr DCP.MODE2_PCLK pclk d).cnt DCP.CNT_MODECHG_COUNT d).refreshFit d
  else h1

/-- What capture supports of a link and a mode (R353): RBR to UHBR10, 1, 2 or 4 lanes, 6 or 8 bpc, and the limits of size and clock. -/
def captureTakes (rate lanes hact vact pclk bpc : Nat) : Bool :=
  decide (1 ≤ rate ∧ rate ≤ 5 ∧ 1 ≤ lanes ∧ lanes ≤ 3 ∧ hact ≤ 7680 ∧ vact ≤ 4320 ∧ pclk ≤ 12000) && (bpc == 6 || bpc == 8)

/-- The laptop trains the captured link (R353). Training to what capture does not support fails (DESIGN CHOICE, log entry 165). -/
def captureTrain (h : Hub) (d : Fin 2) (ok : Bool) (rate lanes hact vact pclk bpc : Nat) : Hub :=
  if ok && captureTakes rate lanes hact vact pclk bpc then
    let changed := h.rd DCP.MODE_HACT d != hact || h.rd DCP.MODE_VACT d != vact || h.rd DCP.MODE2_PCLK d != pclk
    let h1 := (h.when changed fun h => (h.captureDrop d).when (h.on DCP.MODE_HACT d) fun h => h.cnt DCP.CNT_MODECHG_COUNT d)
    (h1.wr DCP.LINK_RATE rate d |>.wr DCP.LINK_LANES (if h.on DCP.LINK_PIN_D d then min 2 lanes else lanes) d
      |>.wr DCP.LINK_TRAINED 1 d |>.wr DCP.MODE_HACT hact d |>.wr DCP.MODE_VACT vact d |>.wr DCP.MODE2_PCLK pclk d
      |>.wr DCP.MODE2_BPC bpc d).refreshFit d
  else
    ((h.captureDrop d).wr DCP.LINK_TRAINED 0 d |>.wr DCP.LINK_RATE 0 d |>.wr DCP.LINK_LANES 0 d).raise (0x75 + d) 2

/-! ### Host frame windows -/

/-- WREADY of window `n` (R355, R356): a slot is WRITING and its catch-up has ended. -/
def wready (h : Hub) (n : Nat) : Bool :=
  match h.rd DTL.hSlot 0 (2 + n) with
  | 0 => false
  | k + 1 => h.slotState k == 1 && h.slotFld k 4 7 1 == 0 && !h.on DTL.hEnd 0 n

/-- One byte of a write at byte `rel` of the slot's raster: the X byte and the padding keep 0 (R341, R342). -/
def putRaster (k rel : Nat) (b : Byte) (h : Hub) : Hub :=
  let stride := h.slotTw k * 256
  if stride = 0 then h
  else if rel % 4 = 3 ∨ h.slotW k * 4 ≤ rel % stride ∨ h.slotH k ≤ rel / stride then h
  else h.fput (h.slotBase k + rel) [b]

/-- The place in the pixel area that follows byte `rel` in raster order (R359). -/
def nextRaster (h : Hub) (k rel : Nat) : Nat :=
  let stride := h.slotTw k * 256
  if stride = 0 then rel else if h.slotW k * 4 ≤ rel % stride then (rel / stride + 1) * stride else rel

/-- What the word at offset `off` of window `n` reads as (R356); the pixel area reads as 0. No row of the table carries such a read. -/
def fwWord (h : Hub) (n : Fin 64) (off : Nat) : Nat :=
  let k := h.ringFirst (.hostWin n)
  if off = 0 then n + 2 ^ 16
  else if off = 4 then h.slotWord k 1
  else if off = 8 then h.slotTw k * 256
  else if off = 0xC then
    bnat (h.wready n) + bnat (h.inherits k) * 2 + h.rd DTL.hDisorder 0 n * 4 + h.rd DTL.hCount 0 (2 + n) % 2 ^ 16 * 2 ^ 16
  else if off = 0x14 then h.rd DTL.hDrop 0 n
  else 0

/-- A host write at offset `off` of window `n` (R351, R352, R356, R358, R359, R645). What lies past the slot's end is no part of the
pixel area; the guard counts it where it falls in another slot with an owner. -/
def hostWrite (h : Hub) (n : Fin 64) (off : Nat) (data : Bytes) : Hub :=
  let drop (h : Hub) : Hub := h.wr DTL.hDrop (min (2 ^ 32 - 1) (h.rd DTL.hDrop 0 n + 1)) 0 n
  if off < 0x1000000 then h
  else if !h.memReady then drop h.notReady
  else if !(h.writerOn (.hostWin n) && h.wready n) then drop h
  else
    let k := h.rd DTL.hSlot 0 (2 + n) - 1
    let rel := off - 0x1000000
    let a := h.slotBase k + rel
    let fin := max a (h.slotBase k + h.slotBytes k)
    if h.slotBytes k < rel + data.length then
      (drop h).when (h.guardedSlot fin (a + data.length - fin)).isSome fun h => h.guardDrop a 1
    else
      match h.actPages .pcieHost 0 1 a data.length { write := true } with
      | some (c, e) => (drop h).memViolation .pcieHost 0 a true c e
      | none =>
      let h1 := (h.each data.zipIdx fun (b, i) h => putRaster k (rel + i) b h).countWr a data.length
      if h.inherits k then h1
      else
        let h2 := h1.when (rel != h.rd DTL.hExpect 0 (2 + n) && !h.on DTL.hDisorder 0 n) fun h =>
          (h.wr DTL.hDisorder 1 0 n).cnt DTL.CNT_DISORDER_COUNT
        h2.wr DTL.hExpect (h.nextRaster k (rel + data.length)) 0 (2 + n)

/-- The signatures of a host frame are ready (R346, R357): it commits, and the window takes its next slot. -/
def hostCommit (h : Hub) (n : Fin 64) : Hub :=
  match h.rd DTL.hSlot 0 (2 + n) with
  | 0 => h.wr DTL.hEnd 0 0 n
  | k + 1 =>
    let h1 := h.each (List.range (h.slotTiles k)) fun t h => signTile k t h
    ((h1.wr DTL.hEnd 0 0 n).commitSlot (.hostWin n) 0 false).nextHostFrame n

/-! ### Sending -/

/-- The pending STID of stream `s` takes effect at its frame start (R362). -/
def stidCommit (h : Hub) (s : Nat) : Hub :=
  let k := DTL.STID_TID.key 0 s
  if h.on HDR.PSTAT_CPEND 0x77 && Tab.has k h.shadow then
    let h1 := { h with shadow := Tab.del k h.shadow }.wr DTL.STID_TID (Tab.get 0 k h.shadow) 0 s
    h1.when (!h1.shadow.any fun p => keyPage p.1 == 0x77) fun h => h.wr HDR.PSTAT_CPEND 0 0x77
  else h

/-- Send stream `s` begins to send the frame of slot `k`, which it holds (R350, R363 to R367, R369): the tile packets that the frame
needs, and END, wait to be offered. -/
def sendFrameOf (h0 : Hub) (s k : Nat) : Hub :=
  let h := h0.stidCommit s
  let n := h.slotTiles k
  let frame := h.slotFrame k
  let u := h.rd DTL.SSRC_REFUNIT 0 s
  let refs := h.twords (sigAddr u 0) n
  let full := h.on DTL.hFull 0 s
  let ranges := Tab.get [] s h.repairs
  let changed := (List.range n).any fun t => h.sig k t != refs.getD t 0
  let refresh := !full && !changed && ranges.isEmpty
  let roll := h.rd DTL.hRoll 0 s
  let win := min n (h.rd DTL.SPACE_REFRESH 0 s)
  let forcedAt (t : Nat) : Bool :=
    full || (ranges.any fun r => decide (r.1 ≤ t ∧ t ≤ r.2)) || (refresh && decide ((t + n - roll) % n < win))
  let copyOf (t : Nat) : Option Nat := (List.range n).find? fun v => v != t && refs.getD v 0 == h.sig k t
  let send := (List.range n).filter fun t => forcedAt t || h.sig k t != refs.getD t 0
  let pkts : List TilePkt := send.zipIdx.map fun (t, ord) =>
    let px := h.tileBytes k t
    let base : TilePkt := { typ := 0, forced := forcedAt t, frame := frame % 2 ^ 16, tile := t, ord := ord, sig := h.sig k t }
    if uniform px then { base with typ := 1, colour := leAt px 0 3 }
    else
      match (if !forcedAt t && h.on DTL.SCTL_COPY_EN 0 s then copyOf t else none) with
      | some v => { base with typ := 2, src := v }
      | none => { base with pixels := px }
  let last : TilePkt := { typ := 3, full := full, frame := frame % 2 ^ 16, tile := 0, ord := pkts.length,
                          sig := h.slotTw k + h.slotTh k * 256 }
  let num (typ : Nat) : Nat := (pkts.filter fun p => p.typ == typ).length
  let h1 : Hub := { h with tileOut := Tab.ins s (Tab.get [] s h.tileOut ++ pkts ++ [last]) h.tileOut,
                           repairs := Tab.del s h.repairs }
  let h2 := (h1.each send fun t h => h.setTword (sigAddr u t) (h.sig k t)).hold k 6 true
  let sent := h.rd DTL.hSent 0 s
  let skipped := if sent = 0 then 0 else (frame + 2 ^ 32 - (sent - 1) - 1) % 2 ^ 32
  h2.wr DTL.SSTAT_BUSY 1 0 s |>.wr DTL.hSendSlot (k + 1) 0 s |>.cntN DTL.S_CNT_SKIP_COUNT skipped 0 s |>.cntN DTL.S_CNT_RAW_COUNT (num 0) 0 s
    |>.cntN DTL.S_CNT_FILL_COUNT (num 1) 0 s |>.cntN DTL.S_CNT_COPY_COUNT (num 2) 0 s
    |>.cntN DTL.S_CNT_FORCED_COUNT (pkts.filter (·.forced)).length 0 s |>.wr DTL.hFull (if full then 2 else 0) 0 s
    |>.wr DTL.SSTAT_REPAIRS 0 0 s |>.wr DTL.hSent (frame + 1) 0 s
    |>.wr DTL.hRoll (if refresh && n != 0 then (roll + win) % n else roll) 0 s

/-- A send stream that is idle takes its ring's READY slot where it is newer than the last one sent (R363, R369). -/
def sendNext (h : Hub) (s : Fin 64) : Hub :=
  match (if h.on DTL.SSTAT_BUSY 0 s then none else h.readySlot (h.ringOf (.send s))) with
  | some k => if h.rd DTL.hSent 0 s = h.slotFrame k + 1 then h else h.sendFrameOf s k
  | none => h

/-- END of send stream `s` is queued (R363): the stream is idle again, and its slot is held no longer unless another stream sends it. -/
def sendEnd (h : Hub) (s : Nat) : Hub :=
  let k := h.rd DTL.hSendSlot 0 s
  let h1 := (h.cnt DTL.S_CNT_FRAMES_COUNT 0 s).wr DTL.SSTAT_BUSY 0 0 s |>.wr DTL.hSendSlot 0 0 s
    |>.wr DTL.SSTAT_FRAME (h.rd DTL.hSent 0 s - 1) 0 s
  (h1.when (h1.rd DTL.hFull 0 s == 2) fun h => h.wr DTL.hFull 0 0 s).when
    (k != 0 && !(List.range 64).any fun j => h1.rd DTL.hSendSlot 0 j == k) fun h => h.hold (k - 1) 6 false

/-- A write of DTL.REPAIR (R367). -/
def repairWrite (h : Hub) (v : Nat) (c : Cap := {}) : Hub :=
  let s := h.rd DTL.SSEL_STREAM
  let h1 := h.wr DTL.REPAIR_FIRST (bits v 0 13) 0 s |>.wr DTL.REPAIR_LAST (bits v 16 13) 0 s
  if !v.testBit 31 || !h.up 0x77 then h1
  else
    let q := Tab.get [] s h1.repairs
    let r := (bits v 0 13, bits v 16 13)
    match mergeAny q r with
    | some q' => { h1 with repairs := Tab.ins s q' h1.repairs }.wr DTL.SSTAT_REPAIRS q'.length 0 s
    | none =>
      if q.length < 8 then
        { h1 with repairs := Tab.ins s (q ++ [r]) h1.repairs }.wr DTL.SSTAT_REPAIRS (q.length + 1) 0 s
      else ((h1.wr DTL.hFull 1 0 s).wr DTL.SSTAT_REPAIR_OVF 1 0 s).raise 0x77 4 c

/-! ### Receiving -/

/-- The range `a` to `b` added to the gap list of stream `r` (R375); an empty range adds nothing. -/
def addGap (h : Hub) (r a b : Nat) : Hub :=
  if b < a then h
  else
    let q := Tab.get [] r h.gaps
    match mergeLast q (a, b) with
    | some q' => { h with gaps := Tab.ins r q' h.gaps }.refreshGap r
    | none =>
      if q.length < 8 then { h with gaps := Tab.ins r (q ++ [(a, b)]) h.gaps }.refreshGap r
      else
        let e := (q.getLast?).getD (a, b)
        { h with gaps := Tab.ins r (q.dropLast ++ [(min e.1 a, max e.2 b)]) h.gaps }.refreshGap r
          |>.wr DTL.RSTAT_GAP_MERGED 1 0 r

/-- An error of R371, R373 or R374: SYNC clears, and the frame is not free of error. -/
def rxError (h : Hub) (r : Nat) : Hub := h.wr DTL.hBad 1 0 r |>.wr DTL.RSTAT_SYNC 0 0 r

/-- The stream that accepts a DISPLAY packet (R370). -/
def streamFor (h : Hub) (tid : Nat) : Option Nat :=
  (List.range 8).find? fun r => h.on DTL.RCTL_EN 0 r && !h.on DTL.hFill 0 (66 + r) &&
    ((h.on DTL.RTID0_VALID 0 r && h.rd DTL.RTID0_TID 0 r == tid) ||
      (h.on DTL.RTID1_VALID 0 r && h.rd DTL.RTID1_TID 0 r == tid))

/-- The slot of the stream's open frame, plus 1. -/
def rxSlot (h : Hub) (r : Nat) : Nat := h.rd DTL.hSlot 0 (66 + r)

/-- Frame `frame` opened (R352, R355, R371). -/
def rxOpen (h : Hub) (r : Fin 8) (frame : Nat) : Hub :=
  let h1 := { h with tileDone := Tab.del r.val h.tileDone }.beginFrame (.receive r)
    |>.wr DTL.hOpen frame 0 r |>.wr DTL.hOrd 0 0 r |>.wr DTL.hTile 0 0 r |>.wr DTL.hErr 0 0 r |>.wr DTL.hBad 0 0 r
    |>.wr DTL.hWait 0 0 r |>.wr DTL.RSTAT_OPEN 1 0 r
  match h1.rxSlot r with
  | 0 =>
    let n := h1.slotTiles (h1.rd DTL.RRING_FIRST 0 r)
    ((h1.addGap r 0 (n - 1)).cnt DTL.R_CNT_NOSLOT_COUNT 0 r).rxError r
  | k + 1 => h1.wr DTL.RSTAT_CATCHUP (h1.slotFld k 4 7 1) 0 r

/-- The open frame commits (R374); a catch-up still running is completed first. -/
def rxCommit (h : Hub) (r : Fin 8) (incomplete full : Bool) : Hub :=
  let h1 := (h.catchUp (.receive r) (Tab.get [] r.val h.tileDone)).wr DTL.RSTAT_CATCHUP 0 0 r
  let h2 := (h1.when (h1.rxSlot r != 0) fun h => h.commitSlot (.receive r) (h.rd DTL.hErr 0 r) incomplete).wr
    DTL.RSTAT_OPEN 0 0 r |>.wr DTL.hWait 0 0 r |>.cnt DTL.R_CNT_FRAMES_COUNT 0 r
  if incomplete then h2.cnt DTL.R_CNT_INCOMPLETE_COUNT 0 r
  else h2.when (full && !h2.on DTL.hBad 0 r) fun h => h.wr DTL.RSTAT_SYNC 1 0 r

/-- The open frame gives way to another (R371, R374): one whose END waits for the catch-up has ended as its END says, any other is
incomplete. -/
def rxSupersede (h : Hub) (r : Fin 8) : Hub := h.rxCommit r (!h.on DTL.hWait 0 r) (h.rd DTL.hWait 0 r == 2)

/-- The frame that a packet belongs to is open afterwards (R371, R374). -/
def rxFrame (h : Hub) (r : Fin 8) (frame : Nat) : Hub :=
  let h0 := h.wr DTL.RSTAT_FRAME frame 0 r
  if !h0.on DTL.RSTAT_OPEN 0 r then h0.rxOpen r frame
  else if h0.rd DTL.hOpen 0 r = frame then h0
  else (h0.rxSupersede r).rxOpen r frame

/-- A tile written (R372, R373). -/
def rxWrite (h : Hub) (r : Fin 8) (k : Nat) (t : TilePkt) : Hub :=
  let ready := h.readySlot (h.ringOf (.receive r))
  let (h1, bad) : Hub × Bool :=
    if t.typ = 0 then (h.putTile k t.tile t.pixels, crc32c (dropX (padTo 16384 t.pixels)) != t.sig)
    else if t.typ = 1 then
      (h.putTile k t.tile ((List.replicate 4096 (natLe 3 t.colour ++ [0])).flatten), false)
    else
      match ready with
      | some q => (h.putTile k t.tile (h.tileBytes q t.src), h.sig q t.src != t.sig)
      | none => (h, true)
  let h2 := { h1 with tileDone := Tab.ins r.val (t.tile :: Tab.get [] r.val h1.tileDone) h1.tileDone }
  let h3 := (h2.setSig k t.tile t.sig).cnt DTL.R_CNT_TILES_COUNT 0 r
  if bad then
    ((((h3.addGap r t.tile t.tile).cnt DTL.R_CNT_SIGERR_COUNT 0 r).wr DTL.hErr (h3.rd DTL.hErr 0 r + 1) 0 r).rxError r).raise
      0x77 3
  else h3

/-- A RAW, FILL or COPY packet (R371). -/
def rxTile (h : Hub) (r : Fin 8) (t : TilePkt) : Hub :=
  let h1 := h.rxFrame r t.frame
  match h1.rxSlot r with
  | 0 => h1
  | k + 1 =>
    if h1.slotTiles k ≤ t.tile then (h1.rxError r).raise 0x77 3
    else
      let e := h1.rd DTL.hOrd 0 r
      let h2 := h1.when (decide (e < t.ord)) fun h =>
        (((h.when (decide (h.rd DTL.hTile 0 r < t.tile)) fun h => h.addGap r (h.rd DTL.hTile 0 r) (t.tile - 1)).cntN
          DTL.R_CNT_LOST_COUNT (t.ord - e) 0 r)).rxError r
      if t.ord < e then h2
      else (h2.rxWrite r k t).wr DTL.hOrd (t.ord + 1) 0 r |>.wr DTL.hTile (t.tile + 1) 0 r

/-- An END packet (R374). -/
def rxEnd (h : Hub) (r : Fin 8) (t : TilePkt) : Hub :=
  let other := h.on DTL.RSTAT_OPEN 0 r && h.rd DTL.hOpen 0 r != t.frame
  let h0 := h.when other fun h => h.rxSupersede r
  if t.ord = 0 ∧ h0.on DTL.RSTAT_OPEN 0 r = false then
    (h0.wr DTL.RSTAT_FRAME t.frame 0 r).cnt DTL.R_CNT_FRAMES_COUNT 0 r
  else
    let h1 := h0.rxFrame r t.frame
    let k := h1.rd DTL.RRING_FIRST 0 r
    let n := h1.slotTiles k
    let h2 := h1.when (decide (h1.rd DTL.hOrd 0 r < t.ord)) fun h =>
      (h.addGap r (h.rd DTL.hTile 0 r) (n - 1)).rxError r
    if bits t.sig 0 7 ≠ h2.slotTw k ∨ bits t.sig 8 7 ≠ h2.slotTh k then
      (((h2.abortSlot (.receive r)).rxError r).rxClosed r).raise 0x77 3
    else if h2.on DTL.RSTAT_CATCHUP 0 r then h2.wr DTL.hWait (if t.full then 2 else 1) 0 r
    else h2.rxCommit r false t.full

/-- A catch-up ends (R355, R374, R376). -/
def catchupEnd (h : Hub) (w : Writer) : Hub :=
  match w with
  | .receive r =>
    let h1 := (h.catchUp w (Tab.get [] r.val h.tileDone)).wr DTL.RSTAT_CATCHUP 0 0 r
    h1.when (h1.on DTL.hWait 0 r) fun h => h.rxCommit r false (h.rd DTL.hWait 0 r == 2)
  | _ => h.catchUp w []

end Hub

/-- RING_ENABLE (R349): the enable bit of a writer or reader written 1. -/
def execRingEnable (r : Req) (w : Writer) (s : State) : Host.Outcome State Fault Refusal :=
  s.act fun h =>
    match w with
    | .capture d => h.asReg r DCP.CTL_CAPEN d fun h => h.enableRing w (Hub.regCap r DCP.CTL_CAPEN d)
    | .hostWin n =>
      let F := if n.val < 32 then DTL.WINEN_LO_EN else DTL.WINEN_HI_EN
      h.asReg r F 0 fun h => h.enableRing w (Hub.regCap r F 0)
    | .receive _ => h.asReg r DTL.RCTL_EN 0 fun h => h.enableRing w (Hub.regCap r DTL.RCTL_EN 0)
    | .send _ => h.asReg r DTL.SCTL_EN 0 fun h => h.enableRing w (Hub.regCap r DTL.SCTL_EN 0)

/-- RING_FILL_DONE (R349); the fill waits while the memory controller refuses its writes (R444). -/
def execRingFillDone (w : Writer) (s : State) : Host.Outcome State Fault Refusal :=
  s.act fun h => h.when (h.up 0x77 && h.on DTL.hFill 0 (writerNo w)) fun h => if h.memReady then h.fillDone w else h.notReady

/-- CAPTURE_FRAME_START (R354). -/
def execCaptureFrameStart (d : Fin 2) (s : State) : Host.Outcome State Fault Refusal :=
  s.act fun h => h.when (h.up (0x75 + d) && h.writerOn (.capture d) && h.on DCP.LINK_TRAINED d &&
    !h.on DTL.hSlot 0 d) fun h => if h.memReady then h.captureStart d else h.notReady

/-- CAPTURE_COMMIT (R354): `pixels` holds the frame's tiles. A frame whose writes the memory controller refuses (R444) is dropped (DESIGN
CHOICE, log entry 166). -/
def execCaptureCommit (d : Fin 2) (pixels : List TilePix) (s : State) : Host.Outcome State Fault Refusal :=
  s.act fun h => h.when (h.up (0x75 + d) && h.on DTL.hSlot 0 d) fun h =>
    if h.memReady then h.captureCommit d pixels else (h.captureDrop d).notReady

/-- CAPTURE_ABORT (R354). -/
def execCaptureAbort (d : Fin 2) (cause hact vact pclk : Nat) (s : State) : Host.Outcome State Fault Refusal :=
  s.act fun h => h.when (h.up (0x75 + d)) fun h => h.captureCause d cause hact vact pclk

/-- CAPTURE_LINK_TRAIN (R353, R537): the sink answers while CTL.HPD is 1, after DP Configure. -/
def execCaptureLinkTrain (d : Fin 2) (ok : Bool) (rate lanes hact vact pclk bpc : Nat) (s : State) :
    Host.Outcome State Fault Refusal :=
  s.act fun h => h.when (h.up (0x75 + d) && h.on DCP.CTL_HPD d && h.on TCP.STAT_ALTMODE d) fun h =>
    h.captureTrain d ok rate lanes hact vact pclk bpc

/-- HOST_PIXEL_WRITE (R359): a host write at offset `off` of frame window `w`. -/
def execHostPixelWrite (w : Fin 64) (off : Nat) (data : Bytes) (s : State) : Host.Outcome State Fault Refusal :=
  s.act fun h => h.when (h.up 0x77 && h.hostOn) fun h => h.hostWrite w off data

/-- FW_END (R357): FW_CTL.END written. -/
def execFwEnd (w : Fin 64) (s : State) : Host.Outcome State Fault Refusal :=
  s.act fun h => h.when (h.writerOn (.hostWin w) && h.hostOn && h.wready w) fun h => h.wr DTL.hEnd 1 0 w

/-- FW_ABORT (R356): FW_CTL.ABORT written; the frame is discarded, and the window takes its next slot. -/
def execFwAbort (w : Fin 64) (s : State) : Host.Outcome State Fault Refusal :=
  s.act fun h => h.when (h.writerOn (.hostWin w) && h.hostOn && h.on DTL.hSlot 0 (2 + w)) fun h =>
    ((h.abortSlot (.hostWin w)).wr DTL.hEnd 0 0 w).nextHostFrame w

/-- SIGNATURES_READY (R357). -/
def execSignaturesReady (w : Fin 64) (s : State) : Host.Outcome State Fault Refusal :=
  s.act fun h => h.when (h.up 0x77 && h.on DTL.hEnd 0 w) fun h => if h.memReady then h.hostCommit w else h.notReady

/-- CATCHUP_DONE (R355). -/
def execCatchupDone (w : Writer) (s : State) : Host.Outcome State Fault Refusal :=
  s.act fun h => h.when (h.up 0x77) fun h => if h.memReady then h.catchupEnd w else h.notReady

/-- STREAM_SEND_FRAME (R363). -/
def execStreamSendFrame (st : Fin 64) (s : State) : Host.Outcome State Fault Refusal :=
  s.act fun h => h.when (h.up 0x77 && h.on DTL.SCTL_EN 0 st) fun h => if h.memReady then h.sendNext st else h.notReady

/-- REPAIR (R367): a write of DTL.REPAIR. -/
def execRepair (r : Req) (v : Nat) (s : State) : Host.Outcome State Fault Refusal :=
  s.act fun h => h.asReg r DTL.REPAIR_FIRST 0 fun h => h.repairWrite v (Hub.regCap r DTL.REPAIR_FIRST 0)

/-- SEND_FULL (R363): a 1 written to DTL.SCTL.FULL. -/
def execSendFull (r : Req) (s : State) : Host.Outcome State Fault Refusal :=
  s.act fun h => h.asGo r DTL.SCTL_FULL 0 fun h => h.wr DTL.hFull 1 0 (h.rd DTL.SSEL_STREAM)

/-- TILE_RECEIVED (R371): a DISPLAY packet on tunnel `tid`; a poisoned one is dropped (R370). -/
def execTileReceived (tid : Nat) (t : TilePkt) (s : State) : Host.Outcome State Fault Refusal :=
  s.act fun h => h.when (h.up 0x77 && h.domOn 2 && !t.poison) fun h =>
    match h.streamFor tid with
    | none => h.cnt DTL.CNT_NOSTREAM_COUNT
    | some r => if h.memReady then h.rxTile (Fin.ofNat 8 r) t else h.notReady

/-- END_RECEIVED (R374). -/
def execEndReceived (tid : Nat) (t : TilePkt) (s : State) : Host.Outcome State Fault Refusal :=
  s.act fun h => h.when (h.up 0x77 && h.domOn 2 && !t.poison) fun h =>
    match h.streamFor tid with
    | none => h.cnt DTL.CNT_NOSTREAM_COUNT
    | some r => if h.memReady then h.rxEnd (Fin.ofNat 8 r) t else h.notReady

/-- GAP_POP (R375): a 1 written to DTL.RGAPPOP. -/
def execGapPop (r : Req) (s : State) : Host.Outcome State Fault Refusal :=
  s.act fun h => h.asGo r DTL.RGAPPOP_GO 0 fun h =>
    let i := h.rd DTL.RSEL_STREAM
    { h with gaps := Tab.put [] i ((Tab.get [] i h.gaps).drop 1) h.gaps }.refreshGap i

end Sys2Proof.Machine
end

