-- ==== Sys2Proof/Machine/Heads.lean ====
section
/-! DEFINITION. Display heads and DisplayPort transmitters (chapter 12: R385 to R411). -/

namespace Sys2Proof.Machine

/-- Payload of one lane at a rate, in units of 1 Mb/s (R387). -/
def laneMbps (rate : Nat) : Nat := [0, 1296, 2160, 4320, 6480, 9670, 13060].getD rate 0

/-- Lanes of a LANES code (R410). -/
def dpLanes (code : Nat) : Nat := [0, 1, 2, 4].getD code 0

namespace Hub

/-- Head `n`'s state code (R391). -/
def head (h : Hub) (n : Nat) : Nat := h.rd DHD.STAT_STATE n

/-- BUDGET.USED (R389, R406): the pixel rates of the heads not OFF, in Mpx/s, rounded up. -/
def refreshBudget (h : Hub) : Hub :=
  h.wr DSP.BUDGET_USED (ceilDiv (((List.range 4).filter fun n => h.head n != 0).map fun n => h.rd DHD.PCLK_KHZ n).sum 1000)

/-- VBSTAT's bits of head `n` follow it (R406). -/
def refreshVb (n : Nat) (h : Hub) : Hub :=
  (h.wrBit DSP.VBSTAT_VBLANK n (h.on DHD.STAT_VBLANK n)).wrBit DSP.VBSTAT_ODD n (h.rd DHD.FRAME_COUNT n % 2 == 1)

/-- Head `n` takes state `st`; leaving RUN ends its raster, and PLL_PIXn is enabled outside OFF (R83) and has to lock in LOCK (R391). -/
def setHead (h : Hub) (n st : Nat) : Hub :=
  let h0 := (h.wrBit CLK.PLLEN_EN (9 + n) (st != 0)).when (st < 2) fun h =>
    h.wrBit CLK.PLLSTAT_LOCK (9 + n) false |>.wrBit CLK.hUnlocked (9 + n) false
  let h1 := h0.wr DHD.STAT_STATE st n
  (h1.when (st != 3) fun h => ((h.wr DHD.STAT_VBLANK 0 n).wrBit DSP.VBSTAT_VBLANK n false).wr DHD.FIFO_LEVEL 0 n).refreshBudget

/-- The hold of head `n` released (R350, R391). -/
def releaseHead (h : Hub) (n : Nat) : Hub :=
  if h.on DHD.SLOT_VALID n then
    ((h.hold (h.rd DHD.SLOT_HELD n) (2 + n) false).wr DHD.SLOT_VALID 0 n).wr DHD.SLOT_HELD 0 n
  else h

/-- Whether a mode obeys R388; the fields are read by `f`. -/
def modeOk (f : Fld → Nat) : Bool :=
  let ha := f DHD.HTIM_HACT
  let ht := f DHD.HTIM_HTOTAL
  let fp := f DHD.HSYNC_HFP
  let sw := f DHD.HSYNC_HSW
  let va := f DHD.VTIM_VACT
  let vt := f DHD.VTIM_VTOTAL
  let vf := f DHD.VSYNC_VFP
  let vw := f DHD.VSYNC_VSW
  let pc := f DHD.PCLK_KHZ
  decide (64 ≤ ha ∧ ha ≤ 7680 ∧ ha % 4 = 0 ∧ ha + 80 ≤ ht ∧ ht ≤ 8188 ∧ ht % 4 = 0 ∧ fp % 4 = 0 ∧ sw % 4 = 0 ∧ 4 ≤ sw ∧
    fp + sw ≤ ht - ha) &&
  decide (64 ≤ va ∧ va ≤ 4320 ∧ va + 8 ≤ vt ∧ vt ≤ 8191 ∧ 1 ≤ vf ∧ 1 ≤ vw ∧ vf + vw < vt - va ∧ 25000 ≤ pc ∧ pc ≤ 2160000)

/-- Whether head `n` at pixel rate `khz` keeps the sum of R389. -/
def budgetOk (h : Hub) (n khz : Nat) : Bool :=
  decide ((((List.range 4).filter fun m => m != n && h.head m != 0).map fun m => h.rd DHD.PCLK_KHZ m).sum + khz ≤ 4400000)

/-- Whether transmitter `n` is TRAINED. -/
def trained (h : Hub) (n : Nat) : Bool := h.rd DPT.STAT_STATE n == 2

/-- Whether the link of transmitter `n` carries pixel rate `khz` (R387). -/
def linkCarries (h : Hub) (n khz : Nat) : Bool :=
  decide (khz * 24 ≤ laneMbps (h.rd DPT.STAT_RATE n) * dpLanes (h.rd DPT.STAT_LANES n) * 1000)

/-- The rules that the values `f` of head `n` break (R393), each as its ESTAT bit: R388, R389 where the head counts toward the sum, and
R387 in RUN. -/
def modeFaults (h : Hub) (n : Nat) (counts run : Bool) (f : Fld → Nat) : List Nat :=
  (if modeOk f then [] else [1]) ++ (if counts && !h.budgetOk n (f DHD.PCLK_KHZ) then [2] else []) ++
    (if run && !h.linkCarries n (f DHD.PCLK_KHZ) then [3] else [])

/-- A refused commit or enable counted, with the errors `bits` (R393). -/
def refuseMode (h : Hub) (n : Nat) (bits : List Nat) (c : Cap := {}) : Hub :=
  (h.cnt DHD.CNT_REFUSED_COUNT n).each bits fun b h => h.raise (0x71 + n) b c

/-- Head `n` in WAIT_LINK looks at its transmitter (R391): TRAINED and R387 met starts the raster at line VACT. -/
def waitLink (h : Hub) (n : Nat) : Hub :=
  if h.head n ≠ 2 ∨ h.trained n = false then h
  else if h.linkCarries n (h.rd DHD.PCLK_KHZ n) then
    let v := h.rd DHD.VTIM_VACT n
    (((h.setHead n 3).wr DHD.STAT_VBLANK 1 n).wrBit DSP.VBSTAT_VBLANK n true).wr DHD.STAT_LINE v n
      |>.wr DHD.hRaster (v * h.rd DHD.HTIM_HTOTAL n * 10000000) n
  else h.raise (0x71 + n) 3

/-- PCTL.EN of head `n` written 1 (R389, R391, R393). -/
def headEnable (n : Nat) (h : Hub) (c : Cap := {}) : Hub :=
  if h.head n ≠ 0 then h
  else
    let bad := h.modeFaults n true false fun F => h.rd F n
    if bad.isEmpty then h.setHead n 1 else h.refuseMode n bad c

/-- A head that stands OFF with PCTL.EN at 1, because its clock did not run or its values were refused, goes to LOCK once its values
pass R393 (R391). -/
def lateHead (n : Nat) (h : Hub) : Hub :=
  h.when (h.head n == 0 && h.live (0x71 + n) && (h.modeFaults n true false fun F => h.rd F n).isEmpty) fun h => h.setHead n 1

/-- PCTL.EN of head `n` written 0 (R391): OFF, and the hold is released. -/
def headDisable (n : Nat) (h : Hub) : Hub := (h.releaseHead n).setHead n 0

/-- The commit point of head `n` (R392, R393). -/
def headCommit (n : Nat) (h : Hub) : Hub :=
  let pg := 0x71 + n
  if !h.on HDR.PSTAT_CPEND pg then h
  else
    let new (F : Fld) : Nat := h.rdShadow F n
    let bad := h.modeFaults n (h.head n != 0) (h.head n == 3) new
    if !bad.isEmpty then (h.dropShadow pg).refuseMode n bad
    else
      let clock := new DHD.PCLK_KHZ != h.rd DHD.PCLK_KHZ n
      let h1 := (h.commitPage pg).refreshBudget
      let h2 := h1.when (!h1.on DHD.SRC_EN n) fun h => h.releaseHead n
      if clock && (h2.head n == 2 || h2.head n == 3) then h2.setHead n 1 else h2

/-- The flip of head `n` (R394 to R396, R401): a slot of another ring than the one now read is released, though the new ring has no
READY slot. -/
def flip (h : Hub) (n : Nat) : Hub :=
  let ks := h.ring (h.rd DHD.SRC_RING n)
  let r := if h.on DHD.SRC_EN n then ks.bind h.readySlot else none
  let age (h : Hub) : Hub := h.cnt DHD.SLOT_AGE_FRAMES n
  if !h.on DHD.SRC_EN n then (h.releaseHead n).wr DHD.hDamage 0 n
  else
    match r with
    | some k =>
      if h.on DHD.SLOT_VALID n && h.rd DHD.SLOT_HELD n == k then (age h).wr DHD.hDamage 0 n
      else
        (((h.hold k (2 + n) true).releaseHead n).wr DHD.SLOT_HELD k n |>.wr DHD.SLOT_VALID 1 n
          |>.wr DHD.SLOT_AGE_FRAMES 0 n |>.cnt DHD.CNT_FLIP_COUNT n).wr DHD.hDamage
            (bnat (decide (max 1 (h.rd DHD.FRZ_DMIN n) ≤ h.slotFld k 6 0 14))) n
    | none =>
      let foreign := h.on DHD.SLOT_VALID n && !(ks.any fun l => l.contains (h.rd DHD.SLOT_HELD n))
      ((age h).when foreign fun h => h.releaseHead n).wr DHD.hDamage 0 n

/-- Head `n` in RUN finds the memory controller without service (R407, R444): the frame lacks memory from its start on, 1, or since a
later moment, 2. MEM_UNAVAIL tells that MEMC is off or in self-refresh. -/
def lackMem (n since : Nat) (h : Hub) : Hub :=
  ((h.wr DHD.hNoMem since n).when (!h.domOn 8 || h.on MEM.STAT_SR) fun h => h.raise 0x70 0).notReady

/-- The start of vertical blanking of head `n` in RUN (R392, R394, R395, R398, R407): the flip follows a commit, though it takes the
head to LOCK. -/
def vblank (h : Hub) (n : Nat) : Hub :=
  let h1 := (h.headCommit n).flip n
  if h1.head n ≠ 3 then h1
  else
    let v := h1.rd DHD.VTIM_VACT n
    let h2 := ((h1.wr DHD.STAT_VBLANK 1 n).wrBit DSP.VBSTAT_VBLANK n true).wr DHD.STAT_LINE v n
      |>.wr DHD.hRaster (v * h1.rd DHD.HTIM_HTOTAL n * 10000000) n |>.wr DHD.hUnder 0 n |>.wr DHD.FIFO_LEVEL 16384 n
    (h2.wr DHD.hNoMem 0 n).when (!h2.memReady) (lackMem n 1)

/-- The first `n` bytes of the slot that head `n` shows fetched in reads of 2 KiB, and counted (R397, R451). -/
def fetched (h : Hub) (n bytes : Nat) : Hub :=
  let k := h.rd DHD.SLOT_HELD n
  h.when (h.on DHD.SLOT_VALID n) fun h => h.countRd (h.slotBase k) (min (h.slotBytes k) (ceilDiv bytes 2048 * 2048))

/-- An underrun of head `n` at a line and a pixel (R398): one affects one frame, whose fetch stops there. -/
def headUnderrun (h : Hub) (n line pixel : Nat) : Hub :=
  if h.on DHD.hUnder n then h
  else
    let at_ := (line + h.rd DHD.ORG_ORGY n) * (h.slotTw (h.rd DHD.SLOT_HELD n) * 256) + 4 * (pixel + h.rd DHD.ORG_ORGX n)
    (((h.fetched n at_).wr DHD.hUnder 1 n |>.wr DHD.hUnderAt (line % 2 ^ 13 * 2 ^ 13 + pixel % 2 ^ 13) n |>.wr DHD.FIFO_LEVEL 0 n
      |>.wr DHD.FIFO_LOW 0 n).cnt DHD.CNT_UNDERRUN_COUNT n).raise (0x71 + n) 0 { lo := some (line % 2 ^ 13 + pixel % 2 ^ 13 * 2 ^ 16) }

/-- Blue, green and red of pixel (`x`, `y`) of the active area of head `n` as sent (R390, R398): slot pixel (x + ORGX, y + ORGY) of the
slot held, BORDER where there is none, and UCOLOUR from an underrun on. -/
def headPixel (h : Hub) (n x y : Nat) : Bytes :=
  let k := h.rd DHD.SLOT_HELD n
  let sx := x + h.rd DHD.ORG_ORGX n
  let sy := y + h.rd DHD.ORG_ORGY n
  if h.on DHD.hUnder n && decide (h.rd DHD.hUnderAt n ≤ y * 2 ^ 13 + x) then natLe 3 (h.rd DHD.UCOLOUR_RGB n)
  else if h.on DHD.SLOT_VALID n && decide (sx < h.slotW k ∧ sy < h.slotH k) then
    h.fget (h.slotBase k + sy * (h.slotTw k * 256) + 4 * sx) 3
  else natLe 3 (h.rd DHD.BORDER_RGB n)

/-- The signature of the frame that head `n` has sent (R400). -/
def frameSig (h : Hub) (n : Nat) : Nat :=
  crc32c ((List.range (h.rd DHD.VTIM_VACT n)).flatMap fun y =>
    (List.range (h.rd DHD.HTIM_HACT n)).flatMap fun x => h.headPixel n x y ++ [0])

/-- A frame of head `n` that lacked memory underruns (R407): from its first pixel on where it began so, else at a pixel that hangs on
what the FIFO held, a free value. -/
def starve (n : Nat) (h : Hub) : Hub :=
  if h.rd DHD.hNoMem n = 0 then h
  else if h.rd DHD.hNoMem n = 1 then h.headUnderrun n 0 0
  else
    let (v, h1) := h.free
    h1.headUnderrun n (v % 2 ^ 13) (v / 2 ^ 13)

/-- The end of the active area of head `n`, in which the FIFO went down to `low` pixels (R397, R399 to R401, R407, R408). -/
def activeEnd (h0 : Hub) (n low : Nat) : Hub :=
  let h := starve n ((h0.wr DHD.FIFO_LOW (min (h0.rd DHD.FIFO_LOW n) low) n).when (!h0.memReady && !h0.on DHD.hNoMem n) (lackMem n 2))
  let sig := h.frameSig n
  let f := (h.rd DHD.FRAME_COUNT n + 1) % 2 ^ 32
  let h1 := (h.wr DHD.FRAME_COUNT f n).wrBit DSP.VBSTAT_ODD n (f % 2 == 1)
  if h1.on DHD.hUnder n then h1
  else
    let h1 := h1.fetched n (h1.slotBytes (h1.rd DHD.SLOT_HELD n))
    let changed := h1.rd DHD.SOSIG_SIG n != sig
    let run := if changed then 0
      else if h1.on DHD.hDamage n then min 255 (h1.rd DHD.FRZRUN_COUNT n + 1) else h1.rd DHD.FRZRUN_COUNT n
    let h2 := h1.wr DHD.SOSIG_SIG sig n |>.wr DHD.FRZRUN_COUNT run n
    if changed then h2.wr DHD.STAT_FROZEN 0 n
    else
      h2.when (h2.on DHD.FRZ_THRESH n && decide (h2.rd DHD.FRZ_THRESH n ≤ run) && !h2.on DHD.STAT_FROZEN n) fun h =>
        ((h.wr DHD.STAT_FROZEN 1 n).cnt DHD.CNT_FROZEN_COUNT n).raise (0x71 + n) 4

/-! ### Transmitters -/

/-- Transmitter `n` leaves TRAINED for state `st` (R391, R405): its head goes to WAIT_LINK at once and keeps its hold. -/
def setLink (h : Hub) (n st : Nat) : Hub :=
  let h1 := h.wr DPT.STAT_STATE st n
  let h2 := h1.when (st != 2) fun h => h.wr DPT.STAT_RATE 0 n |>.wr DPT.STAT_LANES 0 n
  h2.when (st != 2 && h2.head n == 3) fun h => h.setHead n 2

/-- CTL.TRAIN of transmitter `n` (R410). -/
def dpTrain (h : Hub) (n : Nat) (c : Cap := {}) : Hub :=
  let rate := h.rd DPT.CFG_RATE n
  if rate = 0 ∨ rate = 7 then h.raise (0x78 + n) 0 c
  else if h.rd DPT.STAT_STATE n = 1 then h
  else h.setLink n 1

/-- Whether transmitter `n` may train at a rate and a lane count (R386, R410): those of CFG, or with FALLBACK lower ones. -/
def mayTrain (h : Hub) (n rate lanes : Nat) : Bool :=
  let r := h.rd DPT.CFG_RATE n
  let l := h.rd DPT.CFG_LANES n
  decide (1 ≤ rate ∧ rate ≤ 6 ∧ 1 ≤ lanes ∧ lanes ≤ 3) &&
    (if h.on DPT.CFG_FALLBACK n then decide (rate ≤ r ∧ lanes ≤ l) else rate == r && lanes == l)

/-- Training of transmitter `n` ends (R391, R410, R411); the equalisation that it found is left open. It cannot succeed at a rate or
lane count that it does not try (DESIGN CHOICE, log entry 165). -/
def dpTrainDone (h : Hub) (n : Nat) (ok : Bool) (rate lanes : Nat) : Hub :=
  if ok && h.mayTrain n rate lanes then
    ((((h.wr DPT.STAT_RATE rate n).wr DPT.STAT_LANES lanes n).wrFree DPT.TXEQ_LANE n).setLink n 2).waitLink n
  else ((h.setLink n 3).cnt DPT.CNT_TRAINFAIL_COUNT n).raise (0x78 + n) 0

/-- IRQ_HPD at transmitter `n` (R404): a lane that has lost lock is retrained once at the same rate and lane count. -/
def hpdIrq (h : Hub) (n : Nat) (lostLock retrained : Bool) : Hub :=
  let h1 := h.wr DPT.HPDEV_IRQ 1 n
  if !lostLock || !h1.trained n then h1
  else
    let rate := h1.rd DPT.STAT_RATE n
    let lanes := h1.rd DPT.STAT_LANES n
    if retrained then
      (((h1.setLink n 1).wr DPT.STAT_RATE rate n |>.wr DPT.STAT_LANES lanes n).setLink n 2).waitLink n
    else ((h1.setLink n 3).cnt DPT.CNT_TRAINFAIL_COUNT n).raise (0x78 + n) 3

/-- Hot-plug lost at transmitter `n` (R404, R411). -/
def hpdLost (h : Hub) (n : Nat) : Hub :=
  (((h.wr DPT.HPDEV_LOSS 1 n |>.wr DPT.STAT_HPD 0 n).cnt DPT.CNT_HPDLOSS_COUNT n).setLink n 0).raise (0x78 + n) 1

/-- A write of AUXCTL (R410). -/
def auxWrite (h : Hub) (n v : Nat) : Hub :=
  let h1 := h.wr DPT.AUXCTL_CMD (bits v 4 4) n |>.wr DPT.AUXCTL_ADDR (bits v 8 20) n |>.wr DPT.AUXCTL_LEN (bits v 28 4) n
  h1.when (v.testBit 0 && h.up (0x78 + n) && h.rd DPT.AUXSTAT_DONE n != 1) fun h => h.wr DPT.AUXSTAT_DONE 1 n

/-- An AUX transaction ends (R410, R411). -/
def auxEnd (h : Hub) (n : Nat) (ok : Bool) (reply bytes : Nat) (data : Bytes) : Hub :=
  let h1 := h.wr DPT.AUXSTAT_REPLY reply n |>.wr DPT.AUXSTAT_BYTES bytes n |>.wr DPT.AUXSTAT_DONE (if ok then 2 else 3) n
  let h2 := h1.when (!data.isEmpty) fun h =>
    h.each ((List.range 4).zip (toWords 4 (padTo 16 data))) fun (j, w) h => h.wr (DPT.AUXDATA.word j) w n
  h2.when (!ok) fun h => (h.cnt DPT.CNT_AUXERR_COUNT n).raise (0x78 + n) 2

end Hub

/-- VBLANK_FLIP (R394). -/
def execVblankFlip (h : Fin 4) (s : State) : Host.Outcome State Fault Refusal :=
  s.act fun u => u.when (u.up (0x71 + h) && u.head h == 3) fun u => u.vblank h

/-- ACTIVE_END (R400, R408). -/
def execActiveEnd (h : Fin 4) (low : Nat) (s : State) : Host.Outcome State Fault Refusal :=
  s.act fun u => u.when (u.up (0x71 + h) && u.head h == 3) fun u => u.activeEnd h low

/-- UNDERRUN (R398). -/
def execUnderrun (h : Fin 4) (line pixel : Nat) (s : State) : Host.Outcome State Fault Refusal :=
  s.act fun u => u.when (u.up (0x71 + h) && u.head h == 3) fun u => u.headUnderrun h line pixel

/-- HEAD_PLL_LOCK (R391). -/
def execHeadPllLock (h : Fin 4) (s : State) : Host.Outcome State Fault Refusal :=
  s.act fun u => u.when (u.up (0x71 + h) && u.head h == 1) fun u => ((u.setHead h 2).wrBit CLK.PLLSTAT_LOCK (9 + h) true).waitLink h

/-- HEAD_LOCK_TIMEOUT (R391). -/
def execHeadLockTimeout (h : Fin 4) (s : State) : Host.Outcome State Fault Refusal :=
  s.act fun u => u.when (u.up (0x71 + h) && u.head h == 1) fun u => (u.setHead h 4).raise (0x71 + h) 5

/-- DP_TRAIN (R410): a 1 written to DPT.CTL.TRAIN. -/
def execDpTrain (r : Req) (h : Fin 4) (s : State) : Host.Outcome State Fault Refusal :=
  s.act fun u => u.asGo r DPT.CTL_TRAIN h fun u => u.dpTrain h (Hub.regCap r DPT.CTL_TRAIN h)

/-- DP_TRAIN_DONE (R410). -/
def execDpTrainDone (h : Fin 4) (ok : Bool) (rate lanes : Nat) (s : State) : Host.Outcome State Fault Refusal :=
  s.act fun u => u.when (u.up (0x78 + h) && u.rd DPT.STAT_STATE h == 1) fun u => u.dpTrainDone h ok rate lanes

/-- DP_DOWN (R410): a 1 written to DPT.CTL.DOWN. -/
def execDpDown (r : Req) (h : Fin 4) (s : State) : Host.Outcome State Fault Refusal :=
  s.act fun u => u.asGo r DPT.CTL_DOWN h fun u => u.setLink h 0

/-- HPD_IRQ (R404). -/
def execHpdIrq (h : Fin 4) (lostLock retrained : Bool) (s : State) : Host.Outcome State Fault Refusal :=
  s.act fun u => u.when (u.up (0x78 + h)) fun u => u.hpdIrq h lostLock retrained

/-- HPD_LOSS (R404). -/
def execHpdLoss (h : Fin 4) (s : State) : Host.Outcome State Fault Refusal :=
  s.act fun u => u.when (u.up (0x78 + h)) fun u => u.hpdLost h

/-- HPD_ARRIVE (R404). -/
def execHpdArrive (h : Fin 4) (s : State) : Host.Outcome State Fault Refusal :=
  s.act fun u => u.when (u.up (0x78 + h)) fun u => u.wr DPT.HPDEV_ARRIVE 1 h |>.wr DPT.STAT_HPD 1 h

/-- AUX_TRANSACTION (R410): a write of DPT.AUXCTL. -/
def execAuxTransaction (r : Req) (h : Fin 4) (v : Nat) (s : State) : Host.Outcome State Fault Refusal :=
  s.act fun u => u.asReg r DPT.AUXCTL_GO h fun u => u.auxWrite h v

/-- AUX_DONE (R410): the end of the transaction, after the retries that the hardware makes by itself. -/
def execAuxDone (h : Fin 4) (ok : Bool) (reply n : Nat) (data : Bytes) (s : State) : Host.Outcome State Fault Refusal :=
  s.act fun u => u.when (u.up (0x78 + h) && u.rd DPT.AUXSTAT_DONE h == 1) fun u => u.auxEnd h ok reply n data

end Sys2Proof.Machine
end

