-- ==== Sys2Proof/Machine/Bridge.lean ====
section
/-! DEFINITION. The transaction bridge (R412 to R436, R447, R448): outbound and target windows, cuts, tags and reads,
the landing buffer, far-side errors, and side-band signals. -/

namespace Sys2Proof.Machine

namespace Hub

/-! ### MSI-X -/

/-- MSI-X vector `v` sent to the host (R437, R449): where the host has masked the vector, its pending bit is set. -/
def msix (h : Hub) (v : Nat) : Hub :=
  if h.up 0x81 && h.rd PCI.MODE_MODE == 1 && h.on PCI.CMDSTAT_MSIX_EN then
    if (h.rd (PCI.MSIX_TABLE.word (4 * (v % 64) + 3))).testBit 0 then
      h.wrBit (PCI.MSIX_PBA.word (v % 64 / 32)) (v % 32) true
    else { h with msixOut := h.msixOut ++ [v % 64] }
  else h

/-- Pending vectors that the host has unmasked are sent (R437). -/
def msixFlush (h : Hub) : Hub :=
  h.each (List.range 64) fun v h =>
    h.when (h.bit (PCI.MSIX_PBA.word (v / 32)) (v % 32) && h.on PCI.CMDSTAT_MSIX_EN &&
        !(h.rd (PCI.MSIX_TABLE.word (4 * v + 3))).testBit 0) fun h =>
      (h.wrBit (PCI.MSIX_PBA.word (v / 32)) (v % 32) false).msix v

/-- The change `f`, and HOSTVEC to the host where it sets an enabled bit of TXB.ISTAT (R430, R447). -/
def txbDo (h : Hub) (f : Hub → Hub) : Hub :=
  let h' := f h
  h'.when (h'.on TXB.CFG_HOSTIRQ_EN &&
      clrMask (h'.rd HDR.ISTAT 0x80) (h.rd HDR.ISTAT 0x80) &&& h'.rd HDR.IEN 0x80 != 0) fun h =>
    h.msix (h.rd TXB.CFG_HOSTVEC)

/-! ### Outbound windows -/

/-- The base of outbound window `w`. -/
def owBase (h : Hub) (w : Nat) : Nat := h.rd TXB.OW_BASE_HI_ADDR 0 w * 2 ^ 32 + h.rd TXB.OW_BASE_LO_ADDR 0 w

/-- The offset that outbound window `w` adds. -/
def owFoff (h : Hub) (w : Nat) : Nat := h.rd TXB.OW_FOFF_HI_OFF 0 w * 2 ^ 32 + h.rd TXB.OW_FOFF_LO_OFF 0 w

/-- The outbound window that takes a request (R413). -/
def owMatch (h : Hub) (fromBus : Bool) (addr : Nat) : Option Nat :=
  (List.range 32).find? fun w =>
    h.on TXB.OW_CFG_EN 0 w && (if fromBus then h.on TXB.OW_CFG_SRC_BUS 0 w else h.on TXB.OW_CFG_SRC_MCPU 0 w) &&
    decide (h.owBase w ≤ addr) && decide (addr < h.owBase w + 2 ^ h.rd TXB.OW_CFG_SIZE_LOG2 0 w)

/-- The far offset of local address `addr` in outbound window `w` (R413). -/
def farOff (h : Hub) (w addr : Nat) : Nat := (addr - h.owBase w + h.owFoff w) % 2 ^ 64

end Hub

/-- The pieces of `n` bytes from `a`, cut at every multiple of `step`: start and length of each, ascending (R418). -/
def cuts (step a n : Nat) : List (Nat × Nat) :=
  (List.range ((a + n - 1) / step - a / step + 1)).filterMap fun k =>
    let lo := max a ((a / step + k) * step)
    let hi := min (a + n) ((a / step + k + 1) * step)
    if lo < hi then some (lo, hi - lo) else none

namespace Hub

/-- The cut of outbound window `w` in bytes (R418). -/
def owCut (h : Hub) (w : Nat) : Nat := 64 * 2 ^ min 6 (h.rd TXB.OW_CFG_CUT 0 w)

/-- A transaction packet sent. -/
def txbSend (h : Hub) (m : TxbMsg) : Hub := { h with txbOut := h.txbOut ++ [m] }

/-- A write into an outbound window cut into MWR packets and sent (R413, R418). -/
def outWrite (h : Hub) (fromBus : Bool) (addr : Nat) (ro ns : Bool) (data : Bytes) : Hub :=
  match h.owMatch fromBus addr with
  | none => h.raise 0x80 2 { lo := some (addr % 2 ^ 32), hi := some (addr / 2 ^ 32), atype := some 5, master := bnat fromBus }
  | some w =>
    let ord := h.rd TXB.OW_ORD_TID 0 w
    let far := h.farOff w addr
    let ps := cuts (h.owCut w) far data.length
    let h1 := h.each ps fun (a, n) h => h.txbSend
      { tid := ord, h := { op := 0, ro := ro, ns := ns, win := h.rd TXB.OW_FAR_WIN 0 w, len := n, addr := a },
        data := (data.drop (a - far)).take n }
    (h1.cntN TXB.CNT_MWR_COUNT ps.length).cntN TXB.CNT_CUT_COUNT (ps.length - 1) |>.wr TXB.hSent
      ((h.rd TXB.hSent 0 ord + ps.length) % 65536) 0 ord

/-! ### Tags and reads -/

/-- TAGS follows the tags (R447). -/
def refreshTags (h : Hub) : Hub :=
  let q := (h.tags.filter fun p => p.2.quar).length
  (h.wr TXB.TAGS_INUSE (h.tags.length - q)).wr TXB.TAGS_QUAR q

/-- The tag that a read of outbound window `w` may take: the lowest free one, within TAGLIM (R420). -/
def freeTag (h : Hub) (w : Nat) : Option Nat :=
  if (h.tags.filter fun p => p.2.win == w && !p.2.quar).length < max 1 (h.rd TXB.OW_CFG_TAGLIM 0 w) then
    (List.range 1024).find? fun t => !Tab.has t h.tags
  else none

/-- Waiting pieces take tags and are sent, in order in each request tunnel (R420, R421, R427). `stuck` holds the
request tunnels whose first piece waits. -/
def sendReads (stuck : List Nat) : List TxbPiece → Hub → Hub
  | [], h => h.refreshTags
  | p :: ps, h =>
    let wait (h : Hub) : Hub := sendReads (p.req :: stuck) ps { h with rdWait := h.rdWait ++ [p] }
    if stuck.contains p.req then wait h
    else
      match h.freeTag p.win with
      | none => wait h
      | some t =>
        let ord := h.rd TXB.OW_ORD_TID 0 p.win
        let tg : TxbTag := { win := p.win, rd := p.rd, off := p.off, ord := ord, len := p.h.len }
        let h1 : Hub := { h with tags := Tab.ins t tg h.tags }
        sendReads stuck ps ((h1.txbSend
          { tid := p.req, h := { p.h with tag := t, pwseq := h.rd TXB.hSent 0 ord } }).cnt TXB.CNT_MRD_COUNT)

/-- Waiting pieces tried again. -/
def retryReads (h : Hub) : Hub := sendReads [] h.rdWait { h with rdWait := [] }

/-- An answer to a local requester (R413, R423). -/
def answerRead (h : Hub) (a : TxbAns) : Hub :=
  { h with rdAns := h.rdAns ++ [a] }.when (a.fromBus && a.status == 1) fun h => h.cnt PCI.CNT_UR_COUNT

/-- A read into an outbound window cut into pieces that take tags (R413, R418, R420). -/
def outRead (h : Hub) (fromBus : Bool) (addr len : Nat) (ro ns : Bool) : Hub :=
  match h.owMatch fromBus addr with
  | none =>
    (h.raise 0x80 2 { lo := some (addr % 2 ^ 32), hi := some (addr / 2 ^ 32), atype := some 4, master := bnat fromBus }).answerRead
      { fromBus := fromBus, addr := addr, status := 1 }
  | some w =>
    let far := h.farOff w addr
    let ps := cuts (h.owCut w) far len
    let id := h.rd TXB.hRead
    let h1 : Hub := { h with
      reads := Tab.ins id { fromBus := fromBus, addr := addr, left := ps.length } h.reads,
      rdWait := h.rdWait ++ ps.map fun (a, n) =>
        { rd := id, off := a - far, win := w, req := h.rd TXB.OW_REQ_TID 0 w,
          h := { op := 1, ro := ro, ns := ns, win := h.rd TXB.OW_FAR_WIN 0 w, len := n, addr := a } } }
    ((h1.wr TXB.hRead (id + 1)).cntN TXB.CNT_CUT_COUNT (ps.length - 1)).retryReads

/-- A piece of read `id` is complete; the last one completes the read to its requester (R418, R423). -/
def pieceDone (h : Hub) (id : Nat) (ok : Bool) : Hub :=
  match Tab.find id h.reads with
  | none => h
  | some r =>
    let r := { r with left := r.left - 1, failed := r.failed || !ok }
    if r.left = 0 then
      { h with reads := Tab.del id h.reads }.answerRead
        { fromBus := r.fromBus, addr := r.addr, status := if r.failed then 2 else 0,
          data := if r.failed then [] else (r.parts.map Prod.snd).flatten }
    else { h with reads := Tab.ins id r h.reads }

/-- The LAST completion of tag `t` has come: the tag is free again (R420), and its read ends where it has not yet. -/
def endTag (h : Hub) (t : Nat) (tg : TxbTag) (ok : Bool) : Hub :=
  let h1 : Hub := { h with tags := Tab.del t h.tags }
  (if tg.dead then h1 else h1.pieceDone tg.rd ok).retryReads

/-- The read of tag `t` ends with Completer Abort (R425, R432); the tag is held until its LAST completion or its timeout (R420). -/
def abortTag (h : Hub) (t : Nat) (tg : TxbTag) (last : Bool) : Hub :=
  if last then h.endTag t tg false
  else if tg.dead then h
  else { h with tags := Tab.ins t { tg with dead := true } h.tags }.pieceDone tg.rd false

/-- The other direction of a tunnel, as this node's table pairs it (R178); the tunnel itself where the table has no entry. -/
def pairOf (h : Hub) (tid : Nat) : Nat :=
  match h.tunFind tid with
  | some i => bits ((h.tun i).getD 3 0) 0 20
  | none => tid

/-- The ordered tunnel on which the writes arrive that a request on tunnel `req` follows, and the tunnel on which its answers go back
(R412, R416, R421): by an outbound window of the link, or the tunnel of class 8 that comes to the bridge where the request's does
(DEDUCED, log entry 127). -/
def linkOf (h : Hub) (req : Nat) : Nat × Nat :=
  match (List.range 32).find? fun w => h.on TXB.OW_CFG_EN 0 w && h.rd TXB.OW_REQ_TID 0 w == h.pairOf req with
  | some w => (h.pairOf (h.rd TXB.OW_ORD_TID 0 w), h.rd TXB.OW_ORD_TID 0 w)
  | none =>
    let e := match h.tunFind req with | some i => h.tun i | none => []
    let ord := match h.tab.find? fun p =>
        let o := h.tun ((p.1 * 4 - 0x400000) / 32)
        decide (0x400000 ≤ p.1 * 4 && p.1 * 4 < 0x440000) && p.1 % 8 == 0 && o.state != 0 && o.kind == 3 && o.qclass == 8 &&
          o.egress.testBit 9 && o.ingress == e.ingress with
      | some p => bits p.2 0 20
      | none => req
    (ord, h.pairOf ord)

/-- The tag that a completion on tunnel `tid` belongs to (R425): `tid` is the other direction of the ordered tunnel of the tag's link;
none where it comes late. -/
def liveTag (h : Hub) (tid t : Nat) : Option TxbTag :=
  match Tab.find t h.tags with
  | some tg => if tg.quar || h.pairOf tg.ord != tid then none else some tg
  | none => none

/-- A packet of an operation that does not exist (R416). -/
def badOp (h : Hub) : Hub := (h.cnt TXB.CNT_POISON_COUNT).raise 0x80 5

/-- A CPLD (R423, R425, R432). -/
def cpldIn (h : Hub) (tid : Nat) (c : TxbHdr) (data : Bytes) : Hub :=
  match h.liveTag tid c.tag with
  | none => h.cnt TXB.CNT_LATE_COUNT
  | some tg =>
    if tg.dead || c.poison || c.offset != tg.got then h.abortTag c.tag tg c.last
    else
      let got := tg.got + c.len
      let parts (r : TxbRead) : TxbRead :=
        { r with parts := Tab.ins tg.off (Tab.get [] tg.off r.parts ++ padTo c.len data) r.parts }
      let h1 : Hub := match Tab.find tg.rd h.reads with
        | some r => { h with reads := Tab.ins tg.rd (parts r) h.reads }
        | none => h
      if c.last then h1.endTag c.tag tg (got == tg.len)
      else { h1 with tags := Tab.ins c.tag { tg with got := got } h1.tags }

/-! ### Target windows -/

/-- The base of target window `w`. -/
def twBase (h : Hub) (w : Nat) : Nat := h.rd TXB.TW_BASE_HI_ADDR 0 w * 2 ^ 32 + h.rd TXB.TW_BASE_LO_ADDR 0 w

/-- Whether PCI Express takes requests of the bridge (R417). -/
def pcieOk (h : Hub) : Bool :=
  h.up 0x81 && h.on PCI.LSTAT_DL_UP && (h.rd PCI.MODE_MODE == 2 || (h.rd PCI.MODE_MODE == 1 && h.on PCI.CMDSTAT_BME))

/-- Why the far bridge cannot carry out `n` bytes at `off` of target window `w` for node `src`: a STATUS of R417, 0
where it can; with the node after the check, which records a refusal where R444, R451 or R646 says. -/
def farCheck (h : Hub) (src : Nat) (t : TxbHdr) (off n : Nat) (write : Bool) : Nat × Hub :=
  let w := t.win % 32
  let a := h.twBase w + off
  let mem := h.on TXB.TW_CFG_BUS 0 w
  if !h.on TXB.TW_CFG_EN 0 w || decide (2 ^ h.rd TXB.TW_CFG_SIZE_LOG2 0 w < off + n) then (1, h)
  else
    match h.actPages .txbIn src (if mem then 1 else 2) a n { write := write, ro := t.ro, ns := t.ns } with
    | some (c, e) => (4, h.memViolation .txbIn src a write c e)
    | none =>
      if mem then
        if !h.memReady then (2, h.notReady)
        else if h.memBytes < a + n then
          (2, h.raise 0x88 1 { lo := some (a % 2 ^ 32), hi := some (a / 2 ^ 32), master := some 6, atype := some (4 + bnat write) })
        else if write && (h.guardedSlot a n).isSome then (5, h.guardDrop a 6)
        else (0, h)
      else (if h.pcieOk then 0 else 2, h)

/-- How the far bridge cuts a write on its bus: at 64 B × 2^GRAN on LPDDR5X, at the multiples of Max_Payload_Size, which divides 4 KiB, on
PCI Express (R419). -/
def farCuts (h : Hub) (t : TxbHdr) : List (Nat × Nat) :=
  let w := t.win % 32
  let b := h.twBase w
  let step := if h.on TXB.TW_CFG_BUS 0 w then 64 * 2 ^ h.rd TXB.TW_CFG_GRAN 0 w else 128 * 2 ^ min 2 (h.rd PCI.hMps)
  (cuts step (b + t.addr) t.len).map fun (a, n) => (a - b, n)

/-! ### Posted writes -/

/-- The posted-error registers follow the FIFO (R429, R447). -/
def refreshPf (h : Hub) : Hub :=
  let e := h.pfifo.headD { off := 0, tid := 0, win := 0, status := 0, node := 0 }
  h.wr TXB.PFSTAT_COUNT h.pfifo.length |>.wr TXB.PFADDR_LO_OFF e.off |>.wr TXB.PFADDR_HI_OFF (e.off / 2 ^ 32)
    |>.wr TXB.PFINFO_TID e.tid |>.wr TXB.PFINFO_WIN e.win |>.wr TXB.PFINFO_STATUS e.status
    |>.wr TXB.PFNODE_NODE e.node

/-- A posted write that the bridge cannot carry out: logged, and PERR sent (R429). -/
def postError (h : Hub) (m : TxbIn) (status : Nat) : Hub :=
  let e : TxbErr := { off := m.h.addr, tid := m.tid, win := m.h.win % 32, status := status, node := m.src }
  let h1 := if h.pfifo.length < 16 then { h with pfifo := h.pfifo ++ [e] }.refreshPf else h.wr TXB.PFSTAT_OVF 1
  (h1.txbSend { tid := m.tid, rev := true, h := { op := 4, win := m.h.win, status := status, addr := m.h.addr } }).cnt
    TXB.CNT_PERR_TX_COUNT

/-- Landing-buffer units of a packet (R426, R447). -/
def landUnits (m : TxbIn) : Nat := ceilDiv m.h.len 64

/-- LAND follows the landing buffer (R447). -/
def refreshLand (h : Hub) : Hub := h.wr TXB.LAND_FREE (4096 - (h.land.map landUnits).sum)

/-- An inbound MWR (R421, R426, R432). One that finds the landing buffer full waits behind it in the crossing FIFO, in its order. -/
def mwrIn (h : Hub) (m : TxbIn) : Hub :=
  let h1 := h.wr TXB.hLanded ((h.rd TXB.hLanded 0 m.tid + 1) % 65536) 0 m.tid
  if m.h.poison then (h1.cnt TXB.CNT_POISON_COUNT).postError m 3
  else { h1 with land := h1.land ++ [m] }.refreshLand

/-- The pieces of a landed write carried out in order, up to the first that fails; its STATUS (R419, R429). -/
def issuePieces (m : TxbIn) (busOk : Bool) : List (Nat × Nat) → Hub → Nat × Hub
  | [], h => (0, h)
  | (off, n) :: ps, h =>
    let (st, h1) := h.farCheck m.src m.h off n true
    let mem := h1.on TXB.TW_CFG_BUS 0 (m.h.win % 32)
    let st := if st = 0 ∧ mem = false ∧ busOk = false then 2 else st
    if st ≠ 0 then (st, h1)
    else
      let a := h1.twBase (m.h.win % 32) + off
      let bs := ((padTo m.h.len m.data).drop (off - m.h.addr)).take n
      issuePieces m busOk ps
        (if mem then (h1.fput a bs).countWr a n
         else { h1 with pcieOut := h1.pcieOut ++ [{ addr := a, len := n, data := some bs, ro := m.h.ro, ns := m.h.ns }] })

/-- The oldest landed write is issued to the bus (R414, R426, R429). -/
def issueWrite (h : Hub) (busOk : Bool) : Hub :=
  match h.land with
  | [] => h
  | m :: rest =>
    let h0 := { h with land := rest }.refreshLand
    let inWin := h0.on TXB.TW_CFG_EN 0 (m.h.win % 32) &&
      decide (m.h.addr + m.h.len ≤ 2 ^ h0.rd TXB.TW_CFG_SIZE_LOG2 0 (m.h.win % 32))
    let (st, h1) := if inWin then issuePieces m busOk (h0.farCuts m.h) h0 else (1, h0)
    if st = 0 then h1 else h1.postError m st

/-! ### Inbound reads -/

/-- A CPL with STATUS (R423). -/
def cplSend (h : Hub) (m : TxbIn) (status : Nat) : Hub :=
  h.txbSend { tid := m.tid, rev := true, h := { op := 3, tag := m.h.tag, status := status, last := true } }

/-- Whether the count of writes landed from the ordered tunnel of read `m` has reached PWSEQ (R421). -/
def writesLanded (h : Hub) (m : TxbIn) : Bool :=
  decide ((h.rd TXB.hLanded 0 (h.linkOf m.tid).1 + 65536 - m.h.pwseq % 65536) % 65536 < 32768)

/-- Whether the writes that read `m` follows have landed and been issued (R421). -/
def writesDone (h : Hub) (m : TxbIn) : Bool :=
  let ord := (h.linkOf m.tid).1
  let waiting := (h.land.filter fun x => x.tid == ord).length
  decide ((h.rd TXB.hLanded 0 ord + 65536 * 2 - waiting - m.h.pwseq % 65536) % 65536 < 32768)

/-- Whether completion space for the whole read is free (R422). -/
def cplRoom (h : Hub) (m : TxbIn) : Bool := decide (ceilDiv m.h.len 64 ≤ h.rd TXB.CPLBUF_FREE)

/-- The requests that read `m` makes on PCI Express (R419). -/
def busReads (h : Hub) (m : TxbIn) : List (Nat × Nat) :=
  if h.on TXB.TW_CFG_BUS 0 (m.h.win % 32) then [] else cuts 4096 (h.twBase (m.h.win % 32) + m.h.addr) m.h.len

/-- Whether read `m` may be issued: after its writes, with completion space (R421, R422), and within the 256 non-posted requests that
PCI Express may have outstanding (R437). -/
def mayIssue (h : Hub) (m : TxbIn) : Bool :=
  h.writesDone m && h.cplRoom m && decide (((m :: h.rdBus).map fun x => (h.busReads x).length).sum ≤ 256)

/-- Read `m` issued to the bus, or ended with a CPL where the bridge cannot carry it out (R414, R422, R423). -/
def issueRead (h : Hub) (m : TxbIn) : Hub :=
  let (st, h1) := h.farCheck m.src m.h m.h.addr m.h.len false
  if st ≠ 0 then h1.cplSend m st
  else
    let a := h1.twBase (m.h.win % 32) + m.h.addr
    let h2 := h1.dec TXB.CPLBUF_FREE (ceilDiv m.h.len 64)
    if h2.on TXB.TW_CFG_BUS 0 (m.h.win % 32) then
      { h2 with rdBus := h2.rdBus ++ [{ m with data := h2.fget a m.h.len }] }.countRd a m.h.len
    else
      { h2 with
        rdBus := h2.rdBus ++ [{ m with data := [] }],
        pcieOut := h2.pcieOut ++ (h2.busReads m).map fun (b, n) =>
          { addr := b, len := n, data := none, ro := m.h.ro, ns := m.h.ns } }

/-- The first waiting read that satisfies `p` taken out of the list (R422). -/
def takeRead (h : Hub) (p : TxbIn → Bool) : Option (TxbIn × Hub) :=
  match h.rdIn.find? p with
  | some m => some (m, { h with rdIn := h.rdIn.erase m })
  | none => none

/-- Data of read `m` returned from the bus (R423): CPLD packets of at most 1,024 bytes in ascending OFFSET, and a CPL
with Completer Abort where the bus failed part-way. -/
def busDone (h : Hub) (ok : Bool) (data : Bytes) : Hub :=
  match h.rdBus with
  | [] => h
  | m :: rest =>
    let mem := !m.data.isEmpty
    let all := if ok then padTo m.h.len (if mem then m.data else data)
      else (if mem then m.data else data).take (min data.length m.h.len)
    let ps := if all.isEmpty then [] else cuts 1024 0 all.length
    let h1 : Hub := { h with rdBus := rest }
    let h2 := (h1.wr TXB.CPLBUF_FREE (h1.rd TXB.CPLBUF_FREE + ceilDiv m.h.len 64)).each ps fun (o, n) h => h.txbSend
      { tid := m.tid, rev := true, data := (all.drop o).take n,
        h := { op := 2, tag := m.h.tag, len := n, offset := o, last := ok && o + n == all.length } }
    if ok then h2 else h2.cplSend m 2

/-! ### Posted-error notices -/

/-- A PERR received on tunnel `tid`, the other direction of the window's ordered tunnel (R430, R431). -/
def perrIn (h : Hub) (tid src : Nat) (c : TxbHdr) : Hub :=
  let hit := (List.range 32).find? fun w =>
    h.on TXB.OW_CFG_EN 0 w && h.pairOf (h.rd TXB.OW_ORD_TID 0 w) == tid && h.rd TXB.OW_FAR_WIN 0 w == c.win
  let a := match hit with
    | some w => (h.owBase w + c.addr + 2 ^ 64 - h.owFoff w) % 2 ^ 64
    | none => c.addr
  let atype := if hit.isSome then 4 else 5
  ((h.raise 0x80 0 { lo := some (a % 2 ^ 32), hi := some (a / 2 ^ 32), master := some 6, atype := some atype, code := c.status }).irq 0x80 0).cnt TXB.CNT_PERR_RX_COUNT
    |>.wr TXB.PERRLOG_TID tid |>.wr TXB.PERRLOG_STATUS c.status |>.wr TXB.PERRNODE_NODE src

/-! ### Side band -/

/-- A poll sent; the third period without a reply before it is reported (R434). -/
def pollSend (h : Hub) : Hub :=
  h.txbDo fun h =>
    ((h.when (decide (3 ≤ h.rd TXB.hPolls)) fun h => h.raise 0x80 4).txbSend
      { tid := h.rd TXB.OW_REQ_TID, h := { op := 5 } }).wr TXB.hPolls (min 3 (h.rd TXB.hPolls) + 1)

/-- SBSTAT shows WAKE# as the ball stands (R433): a root port's input, whose level no row of the table carries, a free value. -/
def seeWake (h : Hub) : Hub :=
  h.when (h.up 0x81 && h.rd PCI.MODE_MODE == 2) fun h =>
    let (v, h') := h.free
    h'.wrBit TXB.SBLOCAL_BITS 2 (v % 2 == 1)

/-- A poll answered (R433, R434). -/
def pollIn (h0 : Hub) (tid : Nat) (c : TxbHdr) : Hub :=
  let h := h0.seeWake
  let sb := h.rd TXB.SBLOCAL_BITS
  let body := natLe 4 sb ++ natLe 4 0 ++ natLe 8 (h.rd TXB.hCatch)
  (h.txbSend { tid := tid, rev := true, h := { op := 6, tag := c.tag }, data := body }).wr TXB.hCatch 0
    |>.wr TXB.SBLOCAL_BITS (setBits sb 7 4 0)

/-- A reply to a poll (R434, R436, R448). -/
def pollReply (h : Hub) (sb catchBits : Nat) : Hub :=
  let old := h.rd TXB.MSIFAR_HI_BITS * 2 ^ 32 + h.rd TXB.MSIFAR_LO_BITS
  let new := clrMask (catchBits % 2 ^ 64) old
  let diff := (h.rd TXB.SBFAR_BITS ^^^ (sb % 2 ^ 32)) &&& h.rd TXB.SBMASK_BITS
  let all := old ||| new
  let h1 := (h.wr TXB.hPolls 0).wr TXB.SBFAR_BITS sb |>.when (diff != 0) fun h => h.irq 0x80 2
  let h2 := h1.wr TXB.MSIFAR_LO_BITS all |>.wr TXB.MSIFAR_HI_BITS (all / 2 ^ 32)
  if !h.on TXB.CFG_MSI_FWD then h2.when (new != 0) fun h => h.irq 0x80 3
  else if h.rd PCI.MODE_MODE = 1 then
    let h3 := h2.each ((List.range 64).filter fun k => new.testBit k) fun k h => h.msix k
    (h3.wr TXB.MSIFAR_LO_BITS (clrMask all new)).wr TXB.MSIFAR_HI_BITS (clrMask all new / 2 ^ 32)
  else h2

/-- A write from the PCI Express link (R413, R435, R439): below a root port, one of 4 bytes to the catch address sets a catch bit, and
any other goes to the outbound windows. -/
def busWrite (h : Hub) (addr : Nat) (ro ns : Bool) (data : Bytes) : Hub :=
  if h.rd PCI.MODE_MODE = 2 ∧ data.length = 4 ∧ addr = h.rd PCI.MSICATCH_HI_ADDR * 2 ^ 32 + h.rd PCI.MSICATCH_LO_ADDR then
    h.wrBit TXB.hCatch (leAt data 0 4 % 64) true
  else h.txbDo fun h => h.outWrite true addr ro ns data

/-- A packet that needs no bridge data path but its header, discarded and counted where it is poisoned (R432). -/
def unlessPoison (h : Hub) (c : TxbHdr) (f : Hub → Hub) : Hub :=
  if c.op ≥ 7 then h.badOp else if c.poison then h.cnt TXB.CNT_POISON_COUNT else f h

end Hub

/-! ### Commands -/

/-- OUTBOUND_WRITE (R413, R418, R435). -/
def execOutboundWrite (fromBus : Bool) (addr : Nat) (ro ns : Bool) (data : Bytes) (s : State) :
    Host.Outcome State Fault Refusal :=
  s.act fun h => h.when (h.up 0x80 && (!fromBus || (h.up 0x81 && h.on PCI.LSTAT_DL_UP))) fun h =>
    if fromBus then h.busWrite addr ro ns data else h.txbDo fun h => h.outWrite false addr ro ns data

/-- OUTBOUND_READ (R413, R418, R420). -/
def execOutboundRead (fromBus : Bool) (addr len : Nat) (ro ns : Bool) (s : State) :
    Host.Outcome State Fault Refusal :=
  s.act fun h => h.when (h.up 0x80 && decide (0 < len) && (!fromBus || (h.up 0x81 && h.on PCI.LSTAT_DL_UP))) fun h =>
    h.txbDo fun h => h.outRead fromBus addr len ro ns

/-- MWR (R421, R426, R432). -/
def execMwr (tid src : Nat) (c : TxbHdr) (data : Bytes) (s : State) : Host.Outcome State Fault Refusal :=
  s.act fun h => h.when (h.up 0x80) fun h =>
    h.txbDo fun h => if c.op ≥ 7 then h.badOp else h.mwrIn { tid := tid, src := src, h := c, data := data }

/-- POSTED_WRITE_ISSUE (R426, R429). -/
def execPostedWriteIssue (busOk : Bool) (s : State) : Host.Outcome State Fault Refusal :=
  s.act fun h => h.when (h.up 0x80) fun h => h.issueWrite busOk

/-- MRD (R421, R432). -/
def execMrd (tid src : Nat) (c : TxbHdr) (s : State) : Host.Outcome State Fault Refusal :=
  s.act fun h => h.when (h.up 0x80) fun h =>
    h.txbDo fun h =>
      let m : TxbIn := { tid := tid, src := src, h := c }
      if c.op ≥ 7 then h.badOp
      else if c.poison then (h.cnt TXB.CNT_POISON_COUNT).cplSend m 3
      else { h with rdIn := h.rdIn ++ [m] }

/-- READ_ISSUE (R421, R422): the first waiting read whose writes have been issued and whose completion space is free. -/
def execReadIssue (s : State) : Host.Outcome State Fault Refusal :=
  s.act fun h => h.when (h.up 0x80) fun h =>
    match h.takeRead h.mayIssue with
    | some (m, h1) => h1.issueRead m
    | none => h

/-- PWAIT_TIMEOUT (R421): the first waiting read whose PWSEQ the count of writes landed has not reached. -/
def execPwaitTimeout (s : State) : Host.Outcome State Fault Refusal :=
  s.act fun h => h.when (h.up 0x80) fun h =>
    match h.rdIn.find? fun m => !h.writesLanded m with
    | none => h
    | some m =>
      h.txbDo fun h =>
        let h1 := ((h.wr TXB.hLanded (m.h.pwseq % 65536) 0 (h.linkOf m.tid).1).cnt TXB.CNT_PWAIT_COUNT).raise 0x80 3
        if h1.cplRoom m then { h1 with rdIn := h1.rdIn.erase m }.issueRead m else h1

/-- BUS_COMPLETION (R423). -/
def execBusCompletion (ok : Bool) (data : Bytes) (s : State) : Host.Outcome State Fault Refusal :=
  s.act fun h => h.when (h.up 0x80) fun h => h.busDone ok data

/-- CPLD (R423, R425, R432). -/
def execCpld (tid : Nat) (c : TxbHdr) (data : Bytes) (s : State) : Host.Outcome State Fault Refusal :=
  s.act fun h => h.when (h.up 0x80) fun h =>
    h.txbDo fun h =>
      if c.op ≥ 7 then h.badOp else (h.when c.poison fun h => h.cnt TXB.CNT_POISON_COUNT).cpldIn tid c data

/-- CPL (R423, R425, R432): a read without all its data ends with an error. -/
def execCpl (tid : Nat) (c : TxbHdr) (s : State) : Host.Outcome State Fault Refusal :=
  s.act fun h => h.when (h.up 0x80) fun h =>
    h.txbDo fun h => h.unlessPoison c fun h =>
      match h.liveTag tid c.tag with
      | none => h.cnt TXB.CNT_LATE_COUNT
      | some tg => h.endTag c.tag tg (c.status == 0 && tg.got == tg.len)

/-- PERR (R430, R431, R432). -/
def execPerr (tid src : Nat) (c : TxbHdr) (s : State) : Host.Outcome State Fault Refusal :=
  s.act fun h => h.when (h.up 0x80) fun h => h.txbDo fun h => h.unlessPoison c fun h => h.perrIn tid src c

/-- COMPLETION_TIMEOUT (R424). -/
def execCompletionTimeout (t : Fin 1024) (s : State) : Host.Outcome State Fault Refusal :=
  s.act fun h => h.when (h.up 0x80) fun h =>
    match Tab.find t.val h.tags with
    | none => h
    | some tg =>
      if tg.quar then h
      else
        h.txbDo fun h =>
          let h1 : Hub := { h with tags := Tab.ins t.val { tg with quar := true } h.tags }
          ((((h1.cnt TXB.CNT_CTO_COUNT).raise 0x80 1).irq 0x80 1).when (!tg.dead) fun h => h.pieceDone tg.rd false).retryReads

/-- QUARANTINE_END (R424). -/
def execQuarantineEnd (t : Fin 1024) (s : State) : Host.Outcome State Fault Refusal :=
  s.act fun h => h.when (h.up 0x80) fun h =>
    match Tab.find t.val h.tags with
    | some tg => if tg.quar then { h with tags := Tab.del t.val h.tags }.retryReads else h
    | none => h

/-- SIDEBAND_POLL (R434). -/
def execSidebandPoll (s : State) : Host.Outcome State Fault Refusal :=
  s.act fun h => h.when (h.up 0x80 && h.on TXB.POLL_EN) fun h => h.pollSend

/-- SBRD (R433, R434). -/
def execSbrd (tid : Nat) (c : TxbHdr) (s : State) : Host.Outcome State Fault Refusal :=
  s.act fun h => h.when (h.up 0x80) fun h => h.txbDo fun h => h.unlessPoison c fun h => h.pollIn tid c

/-- SBRSP (R434, R436). -/
def execSbrsp (_tid : Nat) (c : TxbHdr) (sbstat catchBits : Nat) (s : State) : Host.Outcome State Fault Refusal :=
  s.act fun h => h.when (h.up 0x80) fun h => h.txbDo fun h => h.unlessPoison c fun h => h.pollReply sbstat catchBits

/-- MSI_CATCH (R435, R439): an inbound 4-byte write below the root port, caught or forwarded. -/
def execMsiCatch (addr data : Nat) (s : State) : Host.Outcome State Fault Refusal :=
  s.act fun h => h.when (h.up 0x80 && h.up 0x81 && h.rd PCI.MODE_MODE == 2 && h.on PCI.LSTAT_DL_UP) fun h =>
    h.busWrite addr false false (natLe 4 data)

/-- PFPOP (R429). -/
def execPfpop (r : Req) (s : State) : Host.Outcome State Fault Refusal :=
  s.act fun h => h.asGo r TXB.PFPOP_GO 0 fun h => { h with pfifo := h.pfifo.drop 1 }.refreshPf

end Sys2Proof.Machine
end

