-- ==== Sys2Proof/Machine/Pcie.lean ====
section
/-! DEFINITION. The PCI Express controller and PHY (R437 to R440, R449, R450) and the LPDDR5X controller and PHY (R441
to R446, R451, R452). -/

namespace Sys2Proof.Machine

namespace Hub

/-! ### PCI Express -/

/-- Lanes that the controller is configured for (R437, R449). -/
def pcieLanes (h : Hub) : Nat :=
  if h.rd PCI.MODE_MODE = 2 then [4, 8, 16].getD (h.rd PCI.MODE_RPWIDTH) 16 else 16

/-- What training finds of the link (R437, R450): values that no row of the table carries, each free. Equalisation, which 8 GT/s and above
need, may have failed on the way. -/
def pcieTrained (h : Hub) : Hub :=
  let (v, h1) := ((h.wrFree PPH.LANEMAP_REVERSED).wrFree PPH.LANEMAP_POLINV).free
  let h2 := h1.wr PCI.hMps (v % 3)
  (h2.when (v / 3 % 2 == 1 && decide (3 ≤ h.rd PCI.LSTAT_SPEED)) fun h => h.raise 0x82 0).each (List.range 16) fun l h =>
    (h.wrFree PPH.LEYE_HEIGHT 0 l).wrFree PPH.LEYE_WIDTH 0 l

/-- Errors that a running link may have counted (R449, R450): how many since the last look hangs on the wire, a free value. -/
def linkErrors (F : Fld) (b : Nat) (h : Hub) : Hub :=
  let (v, h') := h.free
  h'.cntN F v 0 b

/-- The data link comes up or goes down (R433, R449, R450). -/
def pcieLink (h : Hub) (up : Bool) (speed width ltssm : Nat) : Hub :=
  let was := h.on PCI.LSTAT_DL_UP
  let h1 := h.wr PCI.LSTAT_LTSSM ltssm |>.wr PCI.LSTAT_SPEED (if up then min speed (h.rd PCI.MODE_MAXGEN) else 0)
    |>.wr PCI.LSTAT_WIDTH (if up then min width h.pcieLanes else 0) |>.wr PCI.LSTAT_DL_UP (bnat up)
    |>.wrBit TXB.SBLOCAL_BITS 0 up |>.wrBit TXB.SBLOCAL_BITS 1 up
  let h2 := h1.when (was != up) fun h => h.irq 0x81 0
  let h3 := h2.when (was && !up) fun h => h.raise 0x81 0
  h3.when (up && !was) fun h => h.pcieTrained.when (decide (width < h.pcieLanes)) fun h => h.raise 0x82 1

/-- Whether the link may train: in endpoint mode PERST_N is high, in root-port mode PERST# is released (R439, R707). -/
def pcieMayTrain (h : Hub) : Bool :=
  (h.rd PCI.MODE_MODE == 1 && h.on PCI.hPerst) || (h.rd PCI.MODE_MODE == 2 && !h.on PCI.PERST_ASSERT)

/-- The link goes down where it may no longer be up (R439, R707). -/
def pcieHold (h : Hub) : Hub := h.when (h.on PCI.LSTAT_DL_UP && !h.pcieMayTrain) fun h => h.pcieLink false 0 0 0

/-- The endpoint's configuration state cleared (R440): the command bits, and the MSI-X table and its pending bits. -/
def clearConfig (h : Hub) : Hub :=
  ((h.wr PCI.CMDSTAT_BME 0).wr PCI.CMDSTAT_MSIX_EN 0).each (List.range 258) fun j h =>
    if j < 256 then h.wr (PCI.MSIX_TABLE.word j) 0 else h.wr (PCI.MSIX_PBA.word (j - 256)) 0

/-- The host's reads complete to nobody, and their tags wait in quarantine (R425, R440). -/
def dropHostReads (h : Hub) : Hub :=
  let mine (id : Nat) : Bool := match Tab.find id h.reads with | some r => r.fromBus | none => true
  { h with
    tags := h.tags.map fun (p : Nat × TxbTag) => if mine p.2.rd then (p.1, { p.2 with quar := true }) else p
    rdWait := h.rdWait.filter fun p => !mine p.rd
    reads := h.reads.filter fun p => !p.2.fromBus }.retryReads

/-- A message from below the root port (R433, R449). -/
def pcieMsg (h : Hub) (m : PcieMsg) : Hub :=
  match m with
  | .aerCor => ((h.wr PCI.AERRX_COR 1).irq 0x81 1).wrBit TXB.SBLOCAL_BITS 7 true
  | .aerNonfatal => ((h.wr PCI.AERRX_NONFATAL 1).irq 0x81 1).wrBit TXB.SBLOCAL_BITS 8 true
  | .aerFatal => (((h.wr PCI.AERRX_FATAL 1).irq 0x81 1).wrBit TXB.SBLOCAL_BITS 9 true).raise 0x81 1
  | .intx l a => h.wrBit TXB.SBLOCAL_BITS (3 + l) a
  | .pme => h.wrBit TXB.SBLOCAL_BITS 10 true

/-! ### LPDDR5X -/

/-- Whether the two key slots of MEM.XTS hold keys of recipient 6 (R444). -/
def memKeys (h : Hub) : Bool :=
  let ok (k : Nat) : Bool := h.on KEY.SATTR_VALID 0 k && h.rd KEY.SATTR_RECIPIENT 0 k == 6
  ok (h.rd MEM.XTS_SLOT1) && ok (h.rd MEM.XTS_SLOT2)

/-- Where `keys` holds the key under which frame memory stands, behind the 32 key slots. -/
def memKeyAt : Nat := 32

/-- The 512-bit key that the slots of MEM.XTS form (R378). -/
def xtsKey (h : Hub) : Bytes :=
  padTo 32 (Tab.get [] (h.rd MEM.XTS_SLOT1) h.keys) ++ padTo 32 (Tab.get [] (h.rd MEM.XTS_SLOT2) h.keys)

/-- The controller takes the key of its slots (R378, R379). `fmem` holds what frame memory reads as under the key in use, so each 64-byte
unit that stood enciphered under another key now reads as that text deciphered under the new one; its tweak is its address / 64. -/
def takeXtsKey (h : Hub) : Hub :=
  let old := Tab.get [] memKeyAt h.keys
  let new := h.xtsKey
  if old = new then h
  else
    let h1 := h.each (h.fmem.map fun p => p.1 / 64).eraseDups fun u h =>
      h.fput (64 * u) (padTo 64 (Config.xtsDecrypt new u (Config.xtsEncrypt old u (h.fget (64 * u) 64))))
    { h1 with keys := Tab.ins memKeyAt new h1.keys }

/-- A write of MEM.CFG.EN (R444). -/
def memSetEn (h : Hub) (en : Bool) (c : Cap := {}) : Hub :=
  if !en then (h.wr MEM.CFG_EN 0).refreshMem
  else if !h.memKeys then h.raise 0x88 0 c
  else ((h.takeXtsKey).wr MEM.CFG_EN 1).refreshMem

/-- Training starts (R452). -/
def memTrain (h : Hub) : Hub :=
  (((h.wr MPH.TRAIN_DONE 0).wr MPH.TRAIN_FAIL 0).wr MPH.TSTAT_CH_OK 0).refreshMem

/-- Training ends (R445, R452): the trims hold what it found, and a wipe that is due starts. -/
def memTrained (h : Hub) (chOk : Nat) : Hub :=
  let h1 := (h.wr MPH.TSTAT_CH_OK chOk).each (List.range 8) fun b h =>
    ((h.wrFree MPH.BTRIM_RDLY 0 b).wrFree MPH.BTRIM_WDLY 0 b).wrFree MPH.BTRIM_VREF 0 b
  if chOk % 16 = 15 then
    ((h1.wr MPH.TRAIN_DONE 1).when (h1.on MEM.hWipe) fun h =>
      h.wr MEM.WIPE_BUSY 1 |>.wr MEM.WIPE_DONE 0 |>.wr MEM.WIPE_PCT 0).refreshMem
  else ((h1.wr MPH.TRAIN_FAIL 1).raise 0x89 0).refreshMem

/-- The wipe ends (R445). What memory that was wiped under the one-time key reads as is left open; this model has it read as zeros (DESIGN
CHOICE, log entry 167). -/
def memWiped (h : Hub) (ms : Nat) : Hub :=
  ({ h with fmem := [] }.wr MEM.WIPE_BUSY 0 |>.wr MEM.hWipe 0 |>.wr MEM.WIPE_DONE 1 |>.wr MEM.WIPE_PCT 100
    |>.wr MEM.WIPE_MS (min 65535 ms)).refreshMem

/-- Whether two trims of 8 bits differ by more than a quarter of their range (R452). -/
def drifted (a b : Nat) : Bool := decide (64 < (a - b) + (b - a))

/-- WCK-to-DQ tracking of one byte lane (R452). -/
def wckTrack (h : Hub) (b rdly wdly vref : Nat) : Hub :=
  let far := drifted (h.rd MPH.BTRIM_RDLY 0 b) (rdly % 256) || drifted (h.rd MPH.BTRIM_WDLY 0 b) (wdly % 256) ||
    drifted (h.rd MPH.BTRIM_VREF 0 b) (vref % 256)
  (h.wr MPH.BTRIM_RDLY rdly 0 b |>.wr MPH.BTRIM_WDLY wdly 0 b |>.wr MPH.BTRIM_VREF vref 0 b).when far fun h =>
    h.raise 0x89 1

end Hub

/-- FUNCTION_LEVEL_RESET (R440). -/
def execFunctionLevelReset (s : State) : Host.Outcome State Fault Refusal :=
  s.act fun h => h.when (h.up 0x81 && h.rd PCI.MODE_MODE == 1) fun h => (h.clearConfig.dropHostReads).raise 0x81 2

/-- PCIE_LINK_CHANGE (R449). -/
def execPcieLinkChange (up : Bool) (speed width ltssm : Nat) (s : State) : Host.Outcome State Fault Refusal :=
  s.act fun h => h.when (h.up 0x81 && (!up || h.pcieMayTrain)) fun h => h.pcieLink up speed width ltssm

/-- MSIX_SEND (R449). -/
def execMsixSend (r : Req) (v : Nat) (s : State) : Host.Outcome State Fault Refusal :=
  s.act fun h => h.asGo r PCI.MSIXREQ_GO 0 fun h =>
    (h.wr PCI.MSIXREQ_VEC v).when (v.testBit 8) fun h => h.msix (v % 64)

/-- PCIE_MESSAGE (R433, R449). -/
def execPcieMessage (m : PcieMsg) (s : State) : Host.Outcome State Fault Refusal :=
  s.act fun h => h.when (h.up 0x81 && h.rd PCI.MODE_MODE == 2 && h.on PCI.LSTAT_DL_UP) fun h => h.pcieMsg m

/-- HOST_CONFIG_WRITE (R449). -/
def execHostConfigWrite (bme msix : Bool) (s : State) : Host.Outcome State Fault Refusal :=
  s.act fun h => h.when (h.up 0x81 && h.rd PCI.MODE_MODE == 1) fun h =>
    ((h.wr PCI.CMDSTAT_BME (bnat bme)).wr PCI.CMDSTAT_MSIX_EN (bnat msix)).msixFlush

/-- PERST_CHANGE (R707): the ball is an input in endpoint mode (R688). -/
def execPerstChange (high : Bool) (s : State) : Host.Outcome State Fault Refusal :=
  s.act fun h => (h.wr PCI.hPerst (bnat high)).when (h.rd PCI.MODE_MODE == 1 && h.up 0x81) fun h => h.pcieHold

/-- MEM_ENABLE (R444). -/
def execMemEnable (r : Req) (en : Bool) (s : State) : Host.Outcome State Fault Refusal :=
  s.act fun h => h.asReg r MEM.CFG_EN 0 fun h => h.memSetEn en (Hub.regCap r MEM.CFG_EN 0)

/-- MEM_TRAIN (R452). -/
def execMemTrain (r : Req) (s : State) : Host.Outcome State Fault Refusal :=
  s.act fun h => h.asGo r MPH.TRAIN_GO 0 fun h => h.memTrain

/-- MEM_TRAIN_DONE (R445, R452). -/
def execMemTrainDone (chOk : Nat) (s : State) : Host.Outcome State Fault Refusal :=
  s.act fun h => h.when (h.up 0x89 && !h.on MPH.TRAIN_DONE && !h.on MPH.TRAIN_FAIL) fun h => h.memTrained chOk

/-- MEM_WIPE_DONE (R445). -/
def execMemWipeDone (ms : Nat) (s : State) : Host.Outcome State Fault Refusal :=
  s.act fun h => h.when (h.up 0x88 && h.on MEM.WIPE_BUSY) fun h => h.memWiped ms

/-- MEM_PROMOTE (R442). -/
def execMemPromote (level : Nat) (s : State) : Host.Outcome State Fault Refusal :=
  s.act fun h => h.when (h.memReady && decide (5 ≤ level ∧ level ≤ 7)) fun h => h.cnt MEM.CNT_PROMOTE_COUNT

/-- MR4_READ (R451). -/
def execMr4Read (code : Nat) (aboveRange : Bool) (s : State) : Host.Outcome State Fault Refusal :=
  s.act fun h => h.when (h.up 0x88) fun h =>
    (h.wr MEM.STAT_TEMP code).when aboveRange fun h => h.raise 0x88 2

/-- WCK_TRACKING (R452). -/
def execWckTracking (b : Fin 8) (rdly wdly vref : Nat) (s : State) : Host.Outcome State Fault Refusal :=
  s.act fun h => h.when (h.up 0x89 && h.on MPH.TRAIN_DONE && h.on MPH.TRACK_PERIOD_MS) fun h =>
    h.wckTrack b rdly wdly vref

end Sys2Proof.Machine
end

