-- ==== Sys2Proof/Machine/Ether.lean ====
section
/-! DEFINITION. The Ethernet MACs and their VLAN maps (R453 to R462, R469), and the lume data ports, their port map and
their emergency scenes (R463 to R468, R470, R471). -/

namespace Sys2Proof.Machine

/-- A frame with its last four bytes replaced by the complement of the correct FCS of the others (R461). -/
def stomp (fr : Bytes) : Bytes :=
  let body := fr.take (fr.length - 4)
  body ++ (fcs body).map fun b => ~~~b

/-- A two-byte field of a frame, most significant byte first. -/
def be16 (fr : Bytes) (i : Nat) : Nat := (fr.getD i 0).toNat * 256 + (fr.getD (i + 1) 0).toNat

/-- A frame without its outer tag, with a recomputed FCS (R457). -/
def stripTag (fr : Bytes) : Bytes :=
  let body := fr.take 12 ++ (fr.drop 16).take (fr.length - 20)
  body ++ fcs body

/-- A frame with an outer tag pushed and a recomputed FCS (R459). -/
def pushTag (tpid pcp vid : Nat) (fr : Bytes) : Bytes :=
  let body := tagged tpid pcp vid (fr.take (fr.length - 4))
  body ++ fcs body

/-- The cells of a frame as one packet of a pseudo-wire (R454). -/
def frameCells (tid kind : Nat) (poison : Bool) (fr : Bytes) : List Cell := packetCells tid kind 1 poison fr

/-- Whether a TID lies in the range that the crown assigns (R177). -/
def assignable (tid : Nat) : Bool := decide (0x4000 ≤ tid ∧ tid ≤ 0xFFFFE)

namespace Hub

/-! ### Ethernet receive -/

/-- The VLAN map entry of a frame at MAC `m` (R455): 0 for an untagged frame. -/
def vmapIndex (h : Hub) (m : Nat) (fr : Bytes) : Nat :=
  if be16 fr 12 = h.rd ETH.TPID_TPID m then be16 fr 14 % 4096 else 0

/-- Bytes that the receive buffer of MAC `m` holds (R458): what the core holds back beyond its FIFO of the cells injected under the MAC's
entries. -/
def macHeld (h : Hub) (m : Nat) : Nat :=
  64 * (((Tab.get [] 10 h.stalled).drop (inDepth 10)).filter fun c =>
    (List.range 4095).any fun v => h.on ETH.VMAP_A_EN m v && h.rd ETH.VMAP_A_ITID m v == c.tid).length

/-- A frame received at MAC `m` (R453, R457, R458): `full` gives the bytes for which the receive buffer had room, where it ran full; it
also runs full by what it holds already. -/
def ethRx (h : Hub) (m : Nat) (fcsOk : Bool) (full : Option Nat) (fr : Bytes) : Hub :=
  let ovf (h : Hub) : Hub := (h.cnt ETH.CNT_RXOVF_COUNT m).raise (0x90 + m) 2
  let maxLen := min 9216 (h.rd ETH.CFG_MAXLEN m)
  let v := h.vmapIndex m fr
  let strip := v != 0 && h.on ETH.VMAP_A_STRIP m v
  let left := 32768 - h.macHeld m
  let room := match full with
    | some n => some (min n left)
    | none => if left < fr.length then some left else none
  if fr.length < 64 then h.cnt ETH.CNT_RXRUNT_COUNT m
  else if be16 fr 12 = 0x8808 then h.cnt ETH.CNT_RXCTL_COUNT m
  else if v = 4095 ∨ h.on ETH.VMAP_A_EN m v = false then h.cnt ETH.CNT_NOMAP_COUNT m
  else
    match room with
    | some n =>
      if n < 64 then ovf h
      else
        let cut := fr.take (min n maxLen)
        ovf (h.inject 10 (frameCells (h.rd ETH.VMAP_A_ITID m v) (if h.on ETH.VMAP_A_KIND m v then 1 else 5) true
          (if strip then cut.take 12 ++ cut.drop 16 else cut)))
    | none =>
      let long := decide (maxLen < fr.length)
      let fr := fr.take maxLen
      let sent := if strip then stripTag fr else fr
      let h1 := h.inject 10 (frameCells (h.rd ETH.VMAP_A_ITID m v) (if h.on ETH.VMAP_A_KIND m v then 1 else 5)
        (long || !fcsOk) sent)
      if long then h1.cnt ETH.CNT_RXLONG_COUNT m
      else if fcsOk then h1.cnt ETH.CNT_RXOK_COUNT m
      else h1.cnt ETH.CNT_RXFCS_COUNT m

/-! ### Ethernet transmit -/

/-- A packet that reaches egress point 10 (R459, R461). -/
def ethTx (h : Hub) (tid : Nat) (poison : Bool) (fr : Bytes) : Hub :=
  match h.ethMatch tid with
  | none => h.when (h.up 0x90) fun h => h.cnt ETH.CNT_TXNOMAP_COUNT
  | some (m, v) => h.when (h.up (0x90 + m)) fun h =>
    let fr := if h.on ETH.VMAP_A_STRIP m v then pushTag (h.rd ETH.TPID_TPID m) (h.rd ETH.VMAP_A_PCP m v) v fr else fr
    let sent := if poison then stomp fr else fr
    { h with ethOut := Tab.put [] m (Tab.get [] m h.ethOut ++ [sent]) h.ethOut }.cnt
      (if poison then ETH.CNT_TXSTOMP_COUNT else ETH.CNT_TXOK_COUNT) m

/-- A write of VMAP_A of MAC `m`: staged (R455). -/
def vmapStage (h : Hub) (m v : Nat) : Hub := h.wr ETH.hStage (v % 2 ^ 32 + 1) m

/-- A write of VMAP_B of MAC `m` (R455, R456): the entry that VSEL selects takes the staged word and ETID, or the
write is refused. -/
def vmapApply (h : Hub) (m v : Nat) (c : Cap := {}) : Hub :=
  let k := if h.rd ETH.VSEL_V m = 4095 then 0 else h.rd ETH.VSEL_V m
  let etid := bits v 0 20
  let old := h.rd ETH.VMAP_A_ITID m k + h.rd ETH.VMAP_A_KIND m k * 2 ^ 20 + h.rd ETH.VMAP_A_STRIP m k * 2 ^ 21 +
    h.rd ETH.VMAP_A_PCP m k * 2 ^ 24 + h.rd ETH.VMAP_A_EN m k * 2 ^ 31
  let a := if h.rd ETH.hStage m = 0 then old else h.rd ETH.hStage m - 1
  let taken := match h.ethMatch etid with
    | some p => p != (m, k)
    | none => false
  let bad := bits a 31 1 == 1 &&
    (!assignable (bits a 0 20) || !assignable etid || (bits a 21 1 == 1 && k == 0) || taken)
  let h1 := h.wr ETH.hStage 0 m
  if bad then h1.raise (0x90 + m) 1 c
  else
    h1.wr ETH.VMAP_A_ITID (bits a 0 20) m k |>.wr ETH.VMAP_A_KIND (bits a 20 1) m k
      |>.wr ETH.VMAP_A_STRIP (bits a 21 1) m k |>.wr ETH.VMAP_A_PCP (bits a 24 3) m k
      |>.wr ETH.VMAP_A_EN (bits a 31 1) m k |>.wr ETH.VMAP_B_ETID etid m k

/-- The link state of MAC `m` changes (R469). -/
def ethLink (h : Hub) (m : Nat) (up block fec : Bool) : Hub :=
  let was := h.on ETH.STAT_LINK m
  let h1 := h.wr ETH.STAT_LINK (bnat up) m |>.wr ETH.STAT_BLOCK_LOCK (bnat block) m
    |>.wr ETH.STAT_FEC_LOCK (bnat fec) m
  (h1.when (was != up) fun h => h.irq (0x90 + m) 0).when (was && !up) fun h => h.raise (0x90 + m) 0

/-! ### Lume ports -/

/-- The mode of lume port `p` set (R467). -/
def lumeMode (h : Hub) (p : Nat) (scene : Bool) : Hub :=
  if h.on LMD.P_STAT_MODE 0 p == scene then h else (h.wr LMD.P_STAT_MODE (bnat scene) 0 p).irq 0x92 0

/-- The lume port whose enabled entry transmits `tid` (R465). -/
def lumeMatch (h : Hub) (tid : Nat) : Option Nat :=
  (List.range 8).find? fun p => h.on LMD.P_MAP_EN 0 p && h.rd LMD.P_ETID_ETID 0 p == tid

/-- A frame put on the pair of lume port `p`. -/
def lumeSend (p : Nat) (fr : Bytes) (h : Hub) : Hub :=
  { h with lumeOut := Tab.put [] p (Tab.get [] p h.lumeOut ++ [fr]) h.lumeOut }

/-- A frame from lume port `p` (R463, R464, R467). -/
def lumeRx (h : Hub) (p : Nat) (fcsOk : Bool) (fr : Bytes) : Hub :=
  if fr.length < 64 ∨ 1522 < fr.length ∨ fcsOk = false then h.cnt LMD.P_CNT_RXERR_COUNT 0 p
  else if !h.domOn 2 then h.cnt LMD.P_CNT_RXDROP_COUNT 0 p
  else if !h.on LMD.P_MAP_EN 0 p then h
  else (h.inject 12 (frameCells (h.rd LMD.P_MAP_ITID 0 p) 1 false fr)).cnt LMD.P_CNT_RX_COUNT 0 p

/-- A LIGHTING packet that reaches egress point 12 (R463, R465, R467, R468). -/
def lumeTx (h : Hub) (tid : Nat) (fr : Bytes) : Hub :=
  match h.lumeMatch tid with
  | none => h.cnt LMD.CNT_TXNOMAP_COUNT
  | some p =>
    (if fr.length < 64 ∨ 1522 < fr.length then h.cnt LMD.P_CNT_RXERR_COUNT 0 p
      else (lumeSend p fr h).cnt LMD.P_CNT_TX_COUNT 0 p).when (!h.solitaire) fun h => h.lumeMode p false

/-- A write of P_MAP: staged for the port that PSEL selects (R455, R464). -/
def pmapStage (h : Hub) (v : Nat) : Hub := h.wr LMD.hStage (v % 2 ^ 32 + 1) 0 (h.rd LMD.PSEL_PORT)

/-- A write of P_ETID (R456, R464). -/
def pmapApply (h : Hub) (v : Nat) (c : Cap := {}) : Hub :=
  let p := h.rd LMD.PSEL_PORT
  let etid := bits v 0 20
  let a := if h.rd LMD.hStage 0 p = 0 then h.rd LMD.P_MAP_ITID 0 p + h.rd LMD.P_MAP_EN 0 p * 2 ^ 31
    else h.rd LMD.hStage 0 p - 1
  let taken := match h.lumeMatch etid with
    | some q => q != p
    | none => false
  let h1 := h.wr LMD.hStage 0 0 p
  if bits a 31 1 == 1 && (!assignable (bits a 0 20) || !assignable etid || taken) then h1.raise 0x92 0 c
  else
    h1.wr LMD.P_MAP_ITID (bits a 0 20) 0 p |>.wr LMD.P_MAP_EN (bits a 31 1) 0 p |>.wr LMD.P_ETID_ETID etid 0 p

/-- The bytes of scene frame `f` of port `p`, empty where it is unused (R466). -/
def sceneFrame (h : Hub) (p f : Nat) : Bytes :=
  let n := h.rd LMD.SCLEN_BYTES 0 (4 * p + f)
  if n < 64 then []
  else (ofWords ((List.range 64).map fun j => h.rd (LMD.SCDATA.word j) 0 (4 * p + f))).take n

/-- The used scene frames of port `p` sent in order (R467). -/
def sceneSend (h : Hub) (p : Nat) : Hub :=
  h.each ((List.range 4).filter fun f => !(h.sceneFrame p f).isEmpty) fun f h =>
    (lumeSend p (h.sceneFrame p f) h).cnt LMD.P_CNT_SCENE_COUNT 0 p

end Hub

/-! ### Commands -/

/-- ETH_FRAME_RX (R457). -/
def execEthFrameRx (m : Fin 2) (fcsOk : Bool) (room : Option Nat) (frame : Bytes) (s : State) :
    Host.Outcome State Fault Refusal :=
  s.act fun h => h.when (h.up (0x90 + m)) fun h => h.ethRx m fcsOk room frame

/-- ETH_FRAME_TX (R459). -/
def execEthFrameTx (tid : Nat) (poison : Bool) (frame : Bytes) (s : State) : Host.Outcome State Fault Refusal :=
  s.act fun h => h.when (h.domOn 2) fun h => h.ethTx tid poison frame

/-- VMAP_WRITE (R456). -/
def execVmapWrite (r : Req) (m : Fin 2) (v : Nat) (s : State) : Host.Outcome State Fault Refusal :=
  s.act fun h => h.asReg r ETH.VMAP_B_ETID m fun h => h.vmapApply m v (Hub.regCap r ETH.VMAP_B_ETID m)

/-- ETH_LINK_CHANGE (R469). -/
def execEthLinkChange (m : Fin 2) (up blockLock fecLock : Bool) (s : State) : Host.Outcome State Fault Refusal :=
  s.act fun h => h.when (h.up (0x90 + m)) fun h => h.ethLink m up blockLock fecLock

/-- LUME_FRAME_RX (R464). -/
def execLumeFrameRx (p : Fin 8) (fcsOk : Bool) (frame : Bytes) (s : State) : Host.Outcome State Fault Refusal :=
  s.act fun h => h.when (h.up 0x92) fun h => h.lumeRx p fcsOk frame

/-- LUME_FRAME_TX (R465): a tunnel carries packets only while CORE is on (R20). -/
def execLumeFrameTx (tid : Nat) (frame : Bytes) (s : State) : Host.Outcome State Fault Refusal :=
  s.act fun h => h.when (h.up 0x92 && h.domOn 2) fun h => h.lumeTx tid frame

/-- PORT_MAP_WRITE (R464). -/
def execPortMapWrite (r : Req) (v : Nat) (s : State) : Host.Outcome State Fault Refusal :=
  s.act fun h => h.asReg r LMD.P_ETID_ETID 0 fun h => h.pmapApply v (Hub.regCap r LMD.P_ETID_ETID 0)

/-- SCENE_ENTRY (R467). -/
def execSceneEntry (p : Fin 8) (s : State) : Host.Outcome State Fault Refusal :=
  s.act fun h => h.when (h.up 0x92 && (h.solitaire || h.on LMD.P_CFG_LOSS_MS 0 p)) fun h => h.lumeMode p true

/-- SCENE_REPEAT (R467). -/
def execSceneRepeat (p : Fin 8) (s : State) : Host.Outcome State Fault Refusal :=
  s.act fun h => h.when (h.up 0x92 && h.on LMD.P_STAT_MODE 0 p) fun h => h.sceneSend p

/-- T1L_LINK_CHANGE (R463, R471): the PHY of a lume port trains or loses its link. -/
def execT1lLinkChange (p : Fin 8) (up hi master : Bool) (sqi : Nat) (anFail : Bool) (s : State) :
    Host.Outcome State Fault Refusal :=
  s.act fun h => h.when (h.up (0x93 + p)) fun h =>
    let was := h.on LMP.STAT_LINK p
    let an := h.on LMP.CFG_AN_EN p
    let h1 := h.wr LMP.STAT_LINK (bnat up) p
      |>.wr LMP.STAT_HI (bnat (up && (if an then hi && h.on LMP.CFG_HI_OK p else h.on LMP.CFG_HI_OK p))) p
      |>.wr LMP.STAT_ROLE (bnat (up && (if an then master else h.on LMP.CFG_MASTER p))) p
      |>.wr LMP.STAT_SQI (if up then sqi else 0) p
    let h2 := (h1.when (was != up) fun h => h.irq (0x93 + p) 0).when (was && !up) fun h =>
      (h.cnt LMP.CNT_LINKLOSS_COUNT p).raise (0x93 + p) 0
    h2.when (an && anFail) fun h => h.raise (0x93 + p) 1

end Sys2Proof.Machine
end

