-- ==== Sys2Proof/Machine/Usb.lean ====
section
/-! DEFINITION. The USB block: the hub and its upstream (R472 to R477, R498), the remote host agent at both ends (R478
to R488, R495 to R497, R500), and the device function (R489 to R494, R499). -/

namespace Sys2Proof.Machine

/-- The window offset of word `w` of descriptor `i` of ring `r` (R479, R481); at the agent end, of request `i` where `r` is 0. -/
def descAddr (r i w : Nat) : Nat := 0x580000 + 32 * (16 * r + i) + 4 * w

/-- The window offset of pool unit `b` (R479). -/
def poolAddr (b : Nat) : Nat := 0x580000 + 32 * (4096 + b)

/-- Bytes as the words of whole pool units (R479). -/
def unitWords (bs : Bytes) : List Nat := toWords (8 * ceilDiv bs.length 32) bs

namespace Hub

/-! ### Hub ports -/

/-- The bits of PORTSTAT of port `n` as one number. -/
def portStat (h : Hub) (n : Nat) : Nat :=
  ([USB.PORTSTAT_CONNECT, USB.PORTSTAT_ENABLE, USB.PORTSTAT_SUSPEND, USB.PORTSTAT_OVERCURRENT, USB.PORTSTAT_POWER,
    USB.PORTSTAT_SPEED, USB.PORTSTAT_L1].map fun F => h.rd F 0 n * 2 ^ F.lo).sum

/-- PORTSTAT of port `n` set; every change sets ISTAT.PORTCHG (R498). -/
def setPortStat (h : Hub) (n v : Nat) : Hub :=
  let h1 := h.each [USB.PORTSTAT_CONNECT, USB.PORTSTAT_ENABLE, USB.PORTSTAT_SUSPEND, USB.PORTSTAT_OVERCURRENT,
    USB.PORTSTAT_POWER, USB.PORTSTAT_SPEED, USB.PORTSTAT_L1] fun F h => h.wr F (bits v F.lo F.w) 0 n
  h1.when (h.portStat n != v % 256) fun h => h.irq 0xA0 1

/-- A port without a device: no connection, not enabled, not suspended (R474). POWER and OVERCURRENT stay. -/
def portEmpty (h : Hub) (n : Nat) : Hub := h.setPortStat n (h.portStat n &&& 0x18)

/-- Whether hub port 5 + k may carry a device (R474). -/
def typecDown (h : Hub) (k : Nat) : Bool :=
  h.rd USB.STAT_UPACT != 2 + k && h.on TCP.STAT_ATTACHED k && h.rd TCP.STAT_DROLE k == 0

/-- Whether hub port `n` may carry a device (R473, R474, R489, R498). -/
def portUsable (h : Hub) (n : Nat) : Bool :=
  h.bit USB.CFG_PORTEN (n - 1) &&
  (if n = 7 then h.on UDF.CTL_CONNECT
   else h.on USB.PORTSTAT_POWER 0 n && (n ≤ 4 || h.typecDown (n - 5)))

/-! ### The device function's bus state -/

/-- The device function returns to address 0, unconfigured (R477, R494). -/
def udfDefault (h : Hub) : Hub :=
  h.wr UDF.STAT_ADDR 0 |>.wr UDF.STAT_CONFIGURED 0 |>.wr UDF.STAT_RWAKE_EN 0 |>.wr UDF.EP1CTL_HALT_IN 0
    |>.wr UDF.EP1CTL_HALT_OUT 0 |>.wr UDF.hHalt2 0

/-- The open control transfer ends, and EP0 data is discarded (R491, R494). -/
def ep0Drop (h : Hub) : Hub :=
  h.wr UDF.STAT_CSTATE 0 |>.wr UDF.EP0CTL_BUSY 0 |>.wr UDF.EP0CTL_LEN 0

/-- A reset of hub port 7 (R494). -/
def udfReset (h : Hub) : Hub :=
  let h1 := h.when (h.on UDF.STAT_CSTATE) fun h => (h.wr UDF.STAT_CTRL_ABORT_RESET 1).cnt UDF.CNT_ABORT_COUNT
  ((h1.ep0Drop.udfDefault.wr UDF.STAT_SUSPENDED 0).wr UDF.hStall 0).irq 0xA1 5

/-- The device function is suspended or resumes (R493, R499). -/
def udfSuspend (h : Hub) (v : Bool) : Hub :=
  if h.on UDF.STAT_SUSPENDED == v then h
  else
    let h1 := (h.wr UDF.STAT_SUSPENDED (bnat v)).irq 0xA1 (if v then 6 else 7)
    h1.when (!v) fun h => h.wr UDF.WAKE_PENDING 0

/-- UDF.CTL.CONNECT written (R489): hub port 7 connects or disconnects. -/
def udfConnect (h : Hub) (v : Bool) : Hub :=
  let h1 := h.wr UDF.CTL_CONNECT (bnat v)
  if v then h1.when (h1.bit USB.CFG_PORTEN 6) fun h => h.setPortStat 7 (h.portStat 7 ||| 0x51)
  else ((h1.portEmpty 7).ep0Drop).udfDefault

/-- A write of USB.CFG.PORTEN: a port that is present no more carries nothing, and the device function comes back with its port (R498). -/
def portsPresent (h : Hub) : Hub :=
  (h.each ((List.range 7).filter fun n => !h.bit USB.CFG_PORTEN n) fun n h => if n = 6 then h.portEmpty 7 else h.setPortStat (n + 1) 0).when
    (h.bit USB.CFG_PORTEN 6 && h.on UDF.CTL_CONNECT) fun h => h.setPortStat 7 (h.portStat 7 ||| 0x51)

/-! ### The agent's requests -/

/-- The agent's requests in the order of their arrival, each with its slot. -/
def heldList (h : Hub) : List (Nat × UsbHeld) := h.usbHeld.mergeSort fun a b => a.2.ord ≤ b.2.ord

/-- OLDEST of an EVENT (R488): the lowest REQSEQ held, or the next one expected. -/
def oldest (h : Hub) : Nat := match h.heldList with | [] => h.rd RHA.hNext | p :: _ => p.2.q.reqseq

/-- RHA.STAT.HELD follows what is held, or in flight at the session end (R500). -/
def refreshHeld (h : Hub) : Hub := h.wr RHA.STAT_HELD (h.usbHeld.length + h.usbFly.length)

/-- A packet sent on a USB tunnel. -/
def usbSend (h : Hub) (tid : Nat) (p : UsbPkt) : Hub := { h with usbOut := h.usbOut ++ [(tid, p)] }

/-- An EVENT of the agent (R483, R488). -/
def eventSend (h : Hub) (ev : Nat) (wake : Bool) : Hub :=
  h.usbSend (h.rd RHA.A_UTID_TID) (.event ev (h.rd RHA.STAT_BUS) wake h.oldest)

/-- The held request in slot `sl` completes, and its CPL is sent (R486). -/
def heldDone (h : Hub) (sl : Nat) (x : UsbHeld) (status actual frame : Nat) (toggle : Bool) (data : Bytes) : Hub :=
  let c : UsbCpl :=
    { ring := x.q.ring, slot := x.q.slot, status := status, actual := actual, reqseq := x.q.reqseq, toggle := toggle,
      naks := x.naks, frame := frame }
  let h0 := h.when (!data.isEmpty) fun h => h.setTwords (poolAddr (bits (h.tword (descAddr 0 sl 1)) 16 12)) (unitWords data)
  let h1 := { h0 with usbHeld := Tab.del sl h.usbHeld }.usbSend (h.rd RHA.A_UTID_TID) (.cpl c data)
  ((h1.cnt RHA.CNT_CPL_COUNT).wr RHA.hToggle (bnat toggle) 0 x.q.ring).refreshHeld
    |>.setTfld (descAddr 0 sl 0) 0 1 0

/-- A held request ends before its transfer does: what the transfer had moved, and the microframe, are values that the
spec leaves open. -/
def heldEnd (status : Nat) (p : Nat × UsbHeld) (h : Hub) : Hub :=
  let (a, h1) := h.free
  let (f, h2) := h1.free
  h2.heldDone p.1 p.2 status (a % (p.2.q.len + 1)) (f % 65536) (h2.on RHA.hToggle 0 p.2.q.ring) []

/-- Every held request that satisfies `c` ends with a status, in order (R477, R494). -/
def heldEndAll (h : Hub) (status : Nat) (c : UsbHeld → Bool) : Hub :=
  h.each (h.heldList.filter fun p => c p.2) (heldEnd status)

/-- Whether the request in slot `sl` is the one its ring runs at present (R484). -/
def heldHead (h : Hub) (sl : Nat) : Option UsbHeld :=
  match Tab.find sl h.usbHeld with
  | none => none
  | some x => if h.usbHeld.any fun p => p.2.q.ring == x.q.ring && p.2.ord < x.ord then none else some x

/-- Whether this node is an agent. -/
def agent (h : Hub) : Bool := h.live 0xA2 && h.rd RHA.CFG_MODE == 1

/-- Whether this node is a session end. -/
def session (h : Hub) : Bool := h.live 0xA2 && h.rd RHA.CFG_MODE == 2

/-! ### Upstream selection -/

/-- The hub returns to its reset state (R477): ports 1 to 6 lose power, and the device function is unconfigured. -/
def hubReset (h : Hub) : Hub :=
  let h1 := h.each [1, 2, 3, 4, 5, 6] fun n h => h.setPortStat n 0
  (h1.setPortStat 7 (h1.portStat 7 &&& 0x51)).udfReset |>.wr USB.STAT_SUSPENDED 0 |>.wr USB.STAT_CONFIGURED 0 |>.wr USB.hWoken 0
    |>.wr USB.hResume 0

/-- The upstream that UPSEL chooses where it is in use, else 0 (R476). -/
def upactOf (h : Hub) : Nat :=
  match h.rd USB.CFG_UPSEL with
  | 1 => if h.rd RHA.CFG_MODE = 1 then 1 else 0
  | 2 => if h.on TCP.STAT_ATTACHED 0 && h.on TCP.STAT_DROLE 0 then 2 else 0
  | 3 => if h.on TCP.STAT_ATTACHED 1 && h.on TCP.STAT_DROLE 1 then 3 else 0
  | _ => 0

/-- The upstream follows its choice (R474, R476, R477); `detach` says that a detach changed it. -/
def refreshUp (h : Hub) (detach : Bool) : Hub :=
  let new := h.upactOf
  let old := h.rd USB.STAT_UPACT
  if !h.up 0xA0 then h
  else
    let h0 := h.wr USB.STAT_UPACT new
    let h1 := h0.each [0, 1] fun k h => h.when (!h.typecDown k) fun h => h.portEmpty (5 + k)
    if new = old then h1
    else
      let h2 := (h1.hubReset.wr USB.hAttached 0).wr USB.STAT_HS 0
      let h3 := h2.when (old == 1) fun h => h.heldEndAll 9 fun _ => true
      ((h3.cnt USB.CNT_UPCHG_COUNT).irq 0xA0 0).when detach fun h => h.raise 0xA0 1

/-! ### Bus control -/

/-- A reset of hub port `n`, or of the whole hub where `n` is 0 (R494). -/
def usbReset (h : Hub) (n : Nat) : Hub :=
  let h1 := if n = 0 then h.hubReset else if n = 7 then h.udfReset else h
  h1.when (h1.agent && h1.rd USB.STAT_UPACT == 1) fun h => h.heldEndAll 7 fun x => n == 0 || x.q.port == n

/-- A wake of the device function that meets a host's resume counts as delivered (R497). -/
def wakeAbsorbed (h : Hub) : Hub := (h.wr UDF.WAKE_PENDING 0).cnt UDF.WAKE_ABSORBED_COUNT

/-- The bus resumes (R495, R497): a wake of the device function that is pending counts as delivered, except where the hub had sent it
upstream already and this resume answers it. -/
def busResume (h : Hub) : Hub :=
  let h1 := h.when (h.on UDF.WAKE_PENDING && !h.on USB.hWoken) wakeAbsorbed
  ((h1.udfSuspend false).wr USB.STAT_SUSPENDED 0).wr USB.hWoken 0

/-- Whether a host's resume is being signalled (R495, R497). -/
def resuming (h : Hub) : Bool := h.agent && h.rd USB.STAT_UPACT == 1 && h.rd RHA.STAT_BUS == 2 || decide (h.cyc < h.rd USB.hResume)

/-- A remote wake on a suspended bus (R496 to R498): the agent answers it itself; another upstream is sent it once. -/
def remoteWake (h : Hub) : Hub :=
  if h.on USB.hWoken then h
  else
    let h1 := (h.cnt USB.CNT_WAKE_COUNT).irq 0xA0 2
    if h1.agent && h1.rd USB.STAT_UPACT == 1 && h1.rd RHA.STAT_BUS == 1 then
      (((h1.wr RHA.STAT_BUS 0).udfSuspend false).wr USB.STAT_SUSPENDED 0).eventSend 3 true
    else h1.wr USB.hWoken 1

/-- A resume that a line-state detector held while PERI was off (R599): carried as R496 says once the hub runs. -/
def heldResume (h : Hub) : Hub :=
  let h1 := (h.cnt USB.CNT_WAKE_COUNT).irq 0xA0 2
  h1.when (h1.agent && h1.rd USB.STAT_UPACT == 1) fun h => h.eventSend 3 true

/-- A BUSCTL at the agent (R495): resume signalling is driven for 20 ms; how long a reset is driven the spec leaves open. The hub takes
part while the agent is its upstream. -/
def busctlIn (h : Hub) (op : Nat) : Hub :=
  let mine := h.rd USB.STAT_UPACT == 1
  let h1 :=
    if op = 1 then
      let (t, h') := h.free
      (((h'.when mine fun h => h.usbReset 0).wr RHA.STAT_BUS 3).wr RHA.hResume (h.cyc + t % 2 ^ 30))
    else if op = 2 then h.wr RHA.STAT_BUS 1
    else ((h.wr RHA.STAT_BUS 2).wr RHA.hResume (h.cyc + 8000000)).when mine busResume
  h1.eventSend 2 false

/-- A hub class request of the upstream host (R472, R473, R475). -/
def hubReq (h : Hub) (q : HubReq) : Hub :=
  let ok (n : Nat) : Bool := decide (1 ≤ n ∧ n ≤ 7) && h.bit USB.CFG_PORTEN (n - 1)
  match q with
  | .powerOn p => h.when (ok p) fun h => h.setPortStat p (h.portStat p &&& 0xF7 ||| 0x10)
  | .powerOff p => h.when (ok p && p != 7) fun h => h.setPortStat p 0
  | .enable p => h.when (ok p && h.on USB.PORTSTAT_CONNECT 0 p) fun h => h.setPortStat p (h.portStat p ||| 2)
  | .disable p => h.when (ok p) fun h => h.setPortStat p (h.portStat p &&& 0x79)
  | .sleepL1 p => h.when (ok p && h.on USB.PORTSTAT_ENABLE 0 p) fun h => h.setPortStat p (h.portStat p ||| 0x80)
  | .reset p => h.when (ok p && h.on USB.PORTSTAT_CONNECT 0 p) fun h =>
      (h.setPortStat p (h.portStat p &&& 0x7B ||| 2)).usbReset p
  | .suspend p => h.when (ok p && h.on USB.PORTSTAT_ENABLE 0 p) fun h =>
      (h.setPortStat p (h.portStat p ||| 4)).when (p == 7) fun h => h.udfSuspend true
  | .resume p => h.when (ok p && (h.on USB.PORTSTAT_SUSPEND 0 p || h.on USB.PORTSTAT_L1 0 p)) fun h =>
      (h.setPortStat p (h.portStat p &&& 0x7B)).when (p == 7) fun h => h.udfSuspend false

/-! ### The session end -/

end Hub

/-- The largest packet of a transfer type at a speed (R480): 0 where the speed has no such pipe. -/
def mpsLimit (xtype speed : Nat) : Nat :=
  match xtype, speed with
  | 0, 0 => 8 | 0, _ => 64
  | 1, 0 => 0 | 1, 1 => 64 | 1, _ => 512
  | 2, 0 => 8 | 2, 1 => 64 | 2, _ => 1024
  | _, _ => 0

namespace Hub

/-- A write of RHA.CFG.MODE (R478). -/
def rhaMode (h : Hub) (v : Nat) (c : Cap := {}) : Hub :=
  if h.on HDR.PCTL_EN 0xA2 || !h.up 0xA2 then h
  else if v % 4 = 2 ∧ h.rd TOP.NODECFG_ROLE ≠ 0 then h.raise 0xA2 0 c
  else (h.wr RHA.CFG_MODE v).refreshUp false

/-- A write of RHA.RCFG of the ring selected (R480). -/
def rcfgWrite (h : Hub) (v : Nat) (c : Cap := {}) : Hub :=
  let r := h.rd RHA.RSEL_RING
  let bad := decide (mpsLimit (bits v 12 2) (bits v 14 2) < bits v 19 11) || bits v 16 3 == 0 || bits v 12 2 == 3 ||
    !assignable (h.rd RHA.RDTID_TID 0 r) || !assignable (h.rd RHA.RUTID_TID 0 r)
  if bits v 31 1 == 1 && bad then h.raise 0xA2 4 c
  else
    h.wr RHA.RCFG_DEVADDR (bits v 0 7) 0 r |>.wr RHA.RCFG_EP (bits v 7 4) 0 r |>.wr RHA.RCFG_IN (bits v 11 1) 0 r
      |>.wr RHA.RCFG_XTYPE (bits v 12 2) 0 r |>.wr RHA.RCFG_SPEED (bits v 14 2) 0 r
      |>.wr RHA.RCFG_PORT (bits v 16 3) 0 r |>.wr RHA.RCFG_MPS (bits v 19 11) 0 r |>.wr RHA.RCFG_EN (bits v 31 1) 0 r

/-- A descriptor handed back to software (R481, R486): words 6 and 7 filled, OWN cleared, RPTR.DONE advanced. -/
def descDone (h : Hub) (r i status actual naks frame : Nat) (toggle : Bool) : Hub :=
  let h1 := h.setTwords (descAddr r i 6)
    [status % 256 + actual % 8192 * 256 + bnat toggle * 2 ^ 24, min naks 65535 + frame % 65536 * 65536]
  let h2 := h1.setTfld (descAddr r i 0) 0 1 0
  (h2.wr RHA.RPTR_DONE (h2.rd RHA.RPTR_DONE 0 r + 1) 0 r).when (h2.tfld (descAddr r i 0) 1 1 == 1) fun h => h.irq 0xA2 0

/-- A descriptor that the session end completes by itself: toggle and microframe are values that the spec leaves
open. -/
def descFail (h : Hub) (r i status actual naks : Nat) : Hub :=
  let (t, h1) := h.free
  let (f, h2) := h1.free
  (h2.descDone r i status actual naks f (t % 2 == 1)).cnt RHA.CNT_CPL_COUNT

/-- A request in flight ends at the session end without a CPL (R488). -/
def flyFail (status : Nat) (x : UsbFlight) (h : Hub) : Hub :=
  let (a, h1) := h.free
  let (n, h2) := h1.free
  let h3 : Hub := { h2 with usbFly := h2.usbFly.erase x }
  ((h3.dec RHA.RPTR_INFLIGHT 1 0 x.ring).descFail x.ring x.slot status a n).refreshHeld

/-- The next owned descriptor of ring `r` sent, or completed BAD_REQUEST; none where nothing can be sent (R482). -/
def ringStep (h : Hub) (r : Nat) : Option Hub :=
  let i := h.rd RHA.RPTR_HEAD 0 r
  let w (n : Nat) : Nat := h.tword (descAddr r i n)
  let len := bits (w 1) 0 13
  let buf := bits (w 1) 16 12
  if (w 0).testBit 0 = false ∨ 16 ≤ h.rd RHA.RPTR_INFLIGHT 0 r then none
  else
    let h1 := h.wr RHA.RPTR_HEAD (i + 1) 0 r
    if !h.on RHA.RCFG_EN 0 r || decide (4096 < len) || decide (4096 < buf + ceilDiv len 32) then
      some (h1.descFail r i 12 0 0)
    else
      let dtid := h.rd RHA.RDTID_TID 0 r
      let mine := h.usbFly.filter fun x => x.dtid == dtid
      if 64 ≤ mine.length ∨ 65536 < (mine.map UsbFlight.len).sum + len then none
      else
        let control := h.rd RHA.RCFG_XTYPE 0 r == 0
        let isIn := if control then (w 4).testBit 7 else h.on RHA.RCFG_IN 0 r
        let seq := h.rd RHA.hSeq 0 dtid
        let q : UsbReq :=
          { ring := r, slot := i, treset := (w 0).testBit 3, zlp := (w 0).testBit 2, len := len, reqseq := seq,
            devaddr := h.rd RHA.RCFG_DEVADDR 0 r, ep := h.rd RHA.RCFG_EP 0 r, isIn := isIn,
            xtype := h.rd RHA.RCFG_XTYPE 0 r, mps := h.rd RHA.RCFG_MPS 0 r, speed := h.rd RHA.RCFG_SPEED 0 r,
            port := h.rd RHA.RCFG_PORT 0 r, interval := h.rd RHA.RINTV_INTERVAL 0 r, tmoMs := bits (w 2) 0 16,
            setup := if control then natLe 4 (w 4) ++ natLe 4 (w 5) else [] }
        let data := if isIn then [] else (ofWords (h.twords (poolAddr buf) (8 * ceilDiv len 32))).take len
        let x : UsbFlight := { ring := r, slot := i, seq := seq, dtid := dtid, utid := h.rd RHA.RUTID_TID 0 r, len := len }
        let h2 : Hub := { h1 with usbFly := h1.usbFly ++ [x] }
        some (((h2.usbSend dtid (.req q data)).wr RHA.hSeq ((seq + 1) % 65536) 0 dtid
          |>.wr RHA.RPTR_INFLIGHT (h.rd RHA.RPTR_INFLIGHT 0 r + 1) 0 r |>.cnt RHA.CNT_REQ_COUNT).refreshHeld)

/-- Ring `r` sent in order until nothing more can be sent (R482). -/
def ringSend (r : Nat) : Nat → Hub → Hub
  | 0, h => h
  | n + 1, h =>
    match h.ringStep r with
    | some h1 => ringSend r n h1
    | none => h

/-- Rings with descriptors that waited for room go on (R482). -/
def ringsGo (h : Hub) : Hub :=
  h.each ((List.range 256).filter fun r => h.on RHA.hRung 0 r) fun r h => ringSend r 16 h

/-- A stray packet (R483). -/
def stray (h : Hub) : Hub := (h.cnt RHA.CNT_STRAY_COUNT).raise 0xA2 3

/-- A CPL at the session end (R483, R486). -/
def cplIn (h : Hub) (tid : Nat) (c : UsbCpl) (data : Bytes) : Hub :=
  if h.rd RHA.RUTID_TID 0 c.ring != tid then h.stray
  else
    match h.usbFly.find? fun x => x.ring == c.ring && x.slot == c.slot && x.seq == c.reqseq with
    | none => h
    | some x =>
      let buf := bits (h.tword (descAddr x.ring x.slot 1)) 16 12
      let n := min c.actual (min x.len data.length)
      let old := ofWords (h.twords (poolAddr buf) (8 * ceilDiv n 32))
      let h1 := h.when (decide (0 < n)) fun h =>
        h.setTwords (poolAddr buf) (unitWords (data.take n ++ old.drop n))
      let h2 : Hub := { h1 with usbFly := h1.usbFly.erase x }
      (((h2.dec RHA.RPTR_INFLIGHT 1 0 x.ring).descDone x.ring x.slot c.status c.actual c.naks c.frame c.toggle).cnt
        RHA.CNT_CPL_COUNT).refreshHeld.ringsGo

/-- An EVENT at the session end (R488, R500). -/
def eventIn (h : Hub) (tid ev bus : Nat) (wake : Bool) (old : Nat) : Hub :=
  let h1 := h.when (ev != 1) fun h =>
    (h.wr RHA.EVLOG_TID tid |>.wr RHA.EVLOG_EVENT ev |>.wr RHA.EVLOG_BUS bus |>.wr RHA.EVLOG_WAKE (bnat wake)).irq 0xA2 1
  let lost := h1.usbFly.filter fun x => x.utid == tid &&
    decide ((old + 65535 - x.seq) % 65536 < 32768)
  (h1.each lost fun x h => ((flyFail 10 x h).cnt RHA.CNT_LOST_COUNT).raise 0xA2 2).ringsGo

/-! ### The agent -/

/-- A REQ at the agent (R479, R484, R486): its entry of the descriptor window takes the request's fields, its buffer
at a place that the spec leaves open, where the data of an OUT stands. -/
def reqIn (h : Hub) (q : UsbReq) (data : Bytes) : Hub :=
  match (List.range 64).find? fun sl => !Tab.has sl h.usbHeld with
  | none => h
  | some sl =>
    let x : UsbHeld := { q := q, ord := (h.heldList.getLast?.map fun p => p.2.ord + 1).getD 0, data := data }
    let (v, h0) := h.free
    let b := v % (2049 - min 2048 (ceilDiv q.len 32))
    let ws : List Nat := [1 + bnat q.zlp * 4 + bnat q.treset * 8, q.len % 8192 + b * 65536, q.tmoMs % 65536, 0,
      leAt q.setup 0 4, leAt q.setup 4 4, 0, 0]
    let h1 : Hub := (({ h0 with usbHeld := Tab.ins sl x h0.usbHeld } : Hub).setTwords (descAddr 0 sl 0) ws).when (!data.isEmpty) fun h =>
      h.setTwords (poolAddr b) (unitWords (data.take q.len))
    let h2 := ((h1.wr RHA.hNext ((q.reqseq + 1) % 65536)).cnt RHA.CNT_REQ_COUNT).refreshHeld
    let h3 := h2.when q.treset fun h => h.wr RHA.hToggle 0 0 q.ring
    if h3.rd USB.STAT_UPACT = 1 then h3 else heldEnd 9 (sl, x) h3

/-! ### Control transfers of the device function -/

/-- A SETUP packet at the device function (R490, R491). -/
def setupIn (h : Hub) (bs : Bytes) : Hub :=
  let typ := (bs.getD 0 0).toNat
  let rq := (bs.getD 1 0).toNat
  let val := leAt bs 2 2
  let idx := leAt bs 4 2
  let len := leAt bs 6 2
  let h := (h.when (h.on UDF.STAT_CSTATE) fun h =>
    (h.ep0Drop.wr UDF.STAT_CTRL_ABORT_SETUP 1).cnt UDF.CNT_ABORT_COUNT).wr UDF.hStall 0
  let pass (h : Hub) : Hub :=
    let isIn := decide (128 ≤ typ)
    let st := if len = 0 then 3 else if isIn then 1 else 2
    ((h.wr UDF.SETUP_LO_DATA (leAt bs 0 4) |>.wr UDF.SETUP_HI_DATA (leAt bs 4 4) |>.wr UDF.STAT_CSTATE st
      |>.wr UDF.hIn (bnat (isIn && len != 0)) |>.wr UDF.EP0CTL_BUSY (bnat (st == 2))).cnt UDF.CNT_SETUP_COUNT).irq 0xA1 0
  let say (h : Hub) (v : Nat) : Hub := { h with udfOut := h.udfOut ++ [(0, natLe 2 v)] }
  match rq, typ with
  | 5, 0 => h.wr UDF.STAT_ADDR (val % 128)
  | 9, 0 => pass (h.wr UDF.STAT_CONFIGURED (bnat (val != 0)))
  | 0, 0x80 => let (f, h1) := h.free; say h1 (f % 2 + 2 * h1.rd UDF.STAT_RWAKE_EN)
  | 0, 0x81 => say h 0
  | 0, 0x82 =>
    say h (if idx = 0x81 then h.rd UDF.EP1CTL_HALT_IN else if idx = 1 then h.rd UDF.EP1CTL_HALT_OUT
      else if idx = 0x82 then h.rd UDF.hHalt2 else 0)
  | r, 0 => if (r = 1 ∨ r = 3) ∧ val = 1 then h.wr UDF.STAT_RWAKE_EN (bnat (r == 3)) else pass h
  | r, 2 =>
    if (r = 1 ∨ r = 3) ∧ val = 0 then
      if idx = 0x81 then h.wr UDF.EP1CTL_HALT_IN (bnat (r == 3))
      else if idx = 1 then h.wr UDF.EP1CTL_HALT_OUT (bnat (r == 3))
      else if idx = 0x82 then h.wr UDF.hHalt2 (bnat (r == 3))
      else h
    else pass h
  | _, _ => pass h

/-- The bytes of a run of buffer words. -/
def bufBytes (h : Hub) (F : Fld) (n : Nat) : Bytes := (ofWords ((List.range (ceilDiv n 4)).map fun j => h.rd (F.word j))).take n

/-- Bytes stored in a run of buffer words. -/
def setBuf (h : Hub) (F : Fld) (bs : Bytes) : Hub :=
  h.each ((toWords (ceilDiv bs.length 4) bs).zipIdx) fun (w, j) h => h.wr (F.word j) w

/-- An OUT packet on EP0 (R491): data of a data stage, or the zero-length status of an IN transfer. -/
def ep0Out (h : Hub) (data : Bytes) : Hub :=
  if h.on UDF.hStall then h
  else if h.on UDF.hIn && data.isEmpty && h.on UDF.STAT_CSTATE then h.ep0Drop
  else if h.rd UDF.STAT_CSTATE = 2 ∧ h.on UDF.EP0CTL_BUSY = true then
    ((h.setBuf UDF.EP0BUF (data.take 64)).wr UDF.EP0CTL_LEN (min 64 data.length) |>.wr UDF.EP0CTL_BUSY 0).irq 0xA1 1
  else h

/-- An IN token of the host on an endpoint (R491, R492). -/
def inToken (h : Hub) (ep : Nat) : Hub :=
  if ep = 0 then
    if h.on UDF.hStall then h
    else if h.rd UDF.STAT_CSTATE = 2 then (h.wr UDF.STAT_CSTATE 3).wr UDF.EP0CTL_BUSY 0
    else if h.rd UDF.STAT_CSTATE = 1 ∧ h.on UDF.EP0CTL_BUSY = true then
      let n := min 64 (h.rd UDF.EP0CTL_LEN)
      let h1 : Hub := { h with udfOut := h.udfOut ++ [(0, h.bufBytes UDF.EP0BUF n)] }
      ((h1.wr UDF.EP0CTL_BUSY 0).irq 0xA1 1).when (decide (n < 64)) fun h => h.wr UDF.STAT_CSTATE 3
    else h
  else if ep = 1 then
    h.when (h.on UDF.CTL_EP1_EN && h.on UDF.STAT_CONFIGURED && h.on UDF.EP1CTL_INBUSY && !h.on UDF.EP1CTL_HALT_IN) fun h =>
      ({ h with udfOut := h.udfOut ++ [(1, h.bufBytes UDF.EP1IN (min 512 (h.rd UDF.EP1CTL_INLEN)))] }.wr
        UDF.EP1CTL_INBUSY 0).irq 0xA1 2
  else
    h.when (h.on UDF.CTL_EP2_EN && h.on UDF.STAT_CONFIGURED && h.on UDF.EP2CTL_BUSY && !h.on UDF.hHalt2) fun h =>
      ({ h with udfOut := h.udfOut ++ [(2, h.bufBytes UDF.EP2IN (min 64 (h.rd UDF.EP2CTL_LEN)))] }.wr
        UDF.EP2CTL_BUSY 0).irq 0xA1 4

/-- Whether the device function is on the bus. -/
def udfLive (h : Hub) : Bool := h.up 0xA1 && h.on UDF.CTL_CONNECT && h.on USB.hAttached && !h.on UDF.STAT_SUSPENDED

end Hub

/-! ### Commands -/

/-- UPSTREAM_CHANGE (R476, R477): a write of `v` to USB.CFG.UPSEL, or a change of the chosen upstream by itself. -/
def execUpstreamChange (r : Option Req) (v : Nat) (s : State) : Host.Outcome State Fault Refusal :=
  s.act fun h =>
    match r with
    | some r => h.asReg r USB.CFG_UPSEL 0 fun h => (h.wr USB.CFG_UPSEL v).refreshUp false
    | none => h.refreshUp true

/-- UPSTREAM_ATTACH (R477 step 4). -/
def execUpstreamAttach (hs : Bool) (s : State) : Host.Outcome State Fault Refusal :=
  s.act fun h => h.when (h.up 0xA0 && h.on USB.STAT_UPACT && !h.on USB.hAttached) fun h =>
    (h.wr USB.hAttached 1).wr USB.STAT_HS (bnat (hs || h.rd USB.STAT_UPACT == 1))

/-- USB_OVERCURRENT (R475). -/
def execUsbOvercurrent (p : Fin 4) (s : State) : Host.Outcome State Fault Refusal :=
  s.act fun h => h.when (h.up 0xA0 && h.on USB.PORTSTAT_POWER 0 (p + 1)) fun h =>
    ((h.setPortStat (p + 1) 8).cnt USB.CNT_OC_COUNT).raise 0xA0 0 { lo := some (p + 1) }

/-- HUB_SUSPEND (R495). -/
def execHubSuspend (s : State) : Host.Outcome State Fault Refusal :=
  s.act fun h => h.when (h.up 0xA0 && h.on USB.hAttached && (h.rd USB.STAT_UPACT != 1 || h.rd RHA.STAT_BUS == 1)) fun h =>
    (h.wr USB.STAT_SUSPENDED 1).when (h.on UDF.CTL_CONNECT) fun h => h.udfSuspend true

/-- DOORBELL (R482). -/
def execDoorbell (r : Req) (ring : Fin 256) (s : State) : Host.Outcome State Fault Refusal :=
  s.act fun h => h.asGo r RHA.DB_RING 0 fun h =>
    (h.wr RHA.DB_RING ring).when h.session fun h => Hub.ringSend ring 16 (h.wr RHA.hRung 1 0 ring)

/-- REQ (R483, R484): accepted by the agent only from the tunnel A_DTID names; a session end has no ring that a request could name. -/
def execReq (tid : Nat) (q : UsbReq) (data : Bytes) (s : State) : Host.Outcome State Fault Refusal :=
  s.act fun h => h.when (h.domOn 2) fun h =>
    if h.session then h.stray
    else h.when (h.agent && h.on RHA.A_DTID_VALID && h.rd RHA.A_DTID_TID == tid) fun h => h.reqIn q data

/-- NAK_RETRY (R485). -/
def execNakRetry (slot : Fin 64) (s : State) : Host.Outcome State Fault Refusal :=
  s.act fun h => h.when (h.agent && h.rd RHA.STAT_BUS == 0) fun h =>
    match h.heldHead slot with
    | some x =>
      { h with usbHeld := Tab.ins slot.val { x with naks := min 65535 (x.naks + 1) } h.usbHeld }.cnt RHA.CNT_NAK_COUNT
    | none => h

/-- USB_TRANSFER_TIMEOUT (R485). -/
def execUsbTransferTimeout (slot : Fin 64) (s : State) : Host.Outcome State Fault Refusal :=
  s.act fun h => h.when (h.agent && h.rd RHA.STAT_BUS == 0) fun h =>
    match h.heldHead slot with
    | some x => if x.q.tmoMs = 0 then h else Hub.heldEnd 3 (slot.val, x) h
    | none => h

/-- USB_TRANSFER_DONE (R486). -/
def execUsbTransferDone (slot : Fin 64) (status actual : Nat) (toggle : Bool) (frame : Nat) (data : Bytes) (s : State) :
    Host.Outcome State Fault Refusal :=
  s.act fun h => h.when (h.agent && h.rd RHA.STAT_BUS == 0) fun h =>
    match h.heldHead slot with
    | some x => h.heldDone slot x status actual frame toggle (if x.q.isIn then data.take actual else [])
    | none => h

/-- CPL_RECEIVED (R486). -/
def execCplReceived (tid : Nat) (c : UsbCpl) (data : Bytes) (s : State) : Host.Outcome State Fault Refusal :=
  s.act fun h => h.when (h.session && h.domOn 2) fun h => h.cplIn tid c data

/-- CANCEL (R487): a write of `v` to RHA.CANCEL. -/
def execCancel (r : Req) (v : Nat) (s : State) : Host.Outcome State Fault Refusal :=
  s.act fun h => h.asGo r RHA.CANCEL_GO 0 fun h =>
    let h1 := (h.wr RHA.CANCEL_RING v).wr RHA.CANCEL_SLOT (bits v 8 4)
    if v.testBit 16 && h1.session then
      match h1.usbFly.find? fun x => x.ring == v % 256 && x.slot == bits v 8 4 with
      | some x => h1.usbSend x.dtid (.cancel x.ring x.slot x.seq)
      | none => h1
    else h1

/-- CANCEL_RECEIVED (R487). -/
def execCancelReceived (tid ring slot reqseq : Nat) (s : State) : Host.Outcome State Fault Refusal :=
  s.act fun h => h.when (h.agent && h.domOn 2 && h.on RHA.A_DTID_VALID && h.rd RHA.A_DTID_TID == tid) fun h =>
    h.heldEndAll 6 fun x => x.q.ring == ring && x.q.slot == slot && x.q.reqseq == reqseq

/-- BUSCTL (R495): a write of `v` to RHA.BUSCTL. -/
def execBusctl (r : Req) (v : Nat) (s : State) : Host.Outcome State Fault Refusal :=
  s.act fun h => h.asGo r RHA.BUSCTL_GO 0 fun h =>
    (h.wr RHA.BUSCTL_OP v).when (v.testBit 4 && v % 4 != 0 && h.session) fun h =>
      h.usbSend (h.rd RHA.RDTID_TID 0 (h.rd RHA.RSEL_RING)) (.busctl (v % 4))

/-- BUSCTL_RECEIVED (R495). -/
def execBusctlReceived (tid op : Nat) (s : State) : Host.Outcome State Fault Refusal :=
  s.act fun h => h.when (h.agent && h.domOn 2 && h.on RHA.A_DTID_VALID && h.rd RHA.A_DTID_TID == tid &&
      decide (1 ≤ op ∧ op ≤ 3)) fun h => h.busctlIn op

/-- EVENT (R488). -/
def execEvent (tid ev bus : Nat) (wake : Bool) (oldest : Nat) (s : State) : Host.Outcome State Fault Refusal :=
  s.act fun h => h.when (h.session && h.domOn 2) fun h => h.eventIn tid ev bus wake oldest

/-- ALIVE (R488). -/
def execAlive (s : State) : Host.Outcome State Fault Refusal :=
  s.act fun h => h.when (h.agent && (!h.usbHeld.isEmpty || h.on RHA.A_DTID_VALID)) fun h => h.eventSend 1 false

/-- AGENT_LOST (R488): `tid` is the up tunnel that has been silent. -/
def execAgentLost (tid : Nat) (s : State) : Host.Outcome State Fault Refusal :=
  s.act fun h => h.when (h.session &&
      (List.range 256).any fun r => h.on RHA.RCFG_EN 0 r && h.rd RHA.RUTID_TID 0 r == tid) fun h =>
    ((h.each (h.usbFly.filter fun x => x.utid == tid) (Hub.flyFail 11)).raise 0xA2 1 { lo := tid }).irq 0xA2 2

/-- REMOTE_WAKE (R496): a remote wake from a hub port on a suspended bus. -/
def execRemoteWake (port : Nat) (s : State) : Host.Outcome State Fault Refusal :=
  s.act fun h => h.when (h.up 0xA0 && decide (1 ≤ port ∧ port ≤ 7) && h.on USB.hAttached &&
      (h.on USB.STAT_SUSPENDED || (h.rd USB.STAT_UPACT == 1 && h.rd RHA.STAT_BUS == 1))) fun h => h.remoteWake

/-- SETUP (R491). -/
def execSetup (bytes : Bytes) (s : State) : Host.Outcome State Fault Refusal :=
  s.act fun h => h.when h.udfLive fun h => h.setupIn bytes

/-- EP0_GO (R491). -/
def execEp0Go (r : Req) (len : Nat) (s : State) : Host.Outcome State Fault Refusal :=
  s.act fun h => h.asGo r UDF.EP0CTL_GO 0 fun h =>
    (h.wr UDF.EP0CTL_LEN len).when (h.rd UDF.STAT_CSTATE == 1 || h.rd UDF.STAT_CSTATE == 2) fun h =>
      h.wr UDF.EP0CTL_BUSY 1

/-- EP0_STALL (R491). -/
def execEp0Stall (r : Req) (s : State) : Host.Outcome State Fault Refusal :=
  s.act fun h => h.asGo r UDF.EP0CTL_STALL 0 fun h => h.ep0Drop.wr UDF.hStall 1

/-- STATUS_GO (R491). -/
def execStatusGo (r : Req) (s : State) : Host.Outcome State Fault Refusal :=
  s.act fun h => h.asGo r UDF.EP0CTL_STATUS_GO 0 fun h =>
    h.when (!h.on UDF.hIn && h.on UDF.STAT_CSTATE) fun h => h.ep0Drop

/-- EP0_OUT_PACKET (R491). -/
def execEp0OutPacket (data : Bytes) (s : State) : Host.Outcome State Fault Refusal :=
  s.act fun h => h.when h.udfLive fun h => h.ep0Out data

/-- EP1_INGO (R492). -/
def execEp1Ingo (r : Req) (len : Nat) (s : State) : Host.Outcome State Fault Refusal :=
  s.act fun h => h.asGo r UDF.EP1CTL_INGO 0 fun h => (h.wr UDF.EP1CTL_INLEN len).wr UDF.EP1CTL_INBUSY 1

/-- EP1_OUT_PACKET (R492). -/
def execEp1OutPacket (data : Bytes) (s : State) : Host.Outcome State Fault Refusal :=
  s.act fun h => h.when (h.udfLive && h.on UDF.CTL_EP1_EN && h.on UDF.STAT_CONFIGURED && !h.on UDF.EP1CTL_OUTFULL &&
      !h.on UDF.EP1CTL_HALT_OUT) fun h =>
    ((h.setBuf UDF.EP1OUT (data.take 512)).wr UDF.EP1CTL_OUTLEN (min 512 data.length)
      |>.wr UDF.EP1CTL_OUTFULL 1).irq 0xA1 3

/-- EP2_GO (R492). -/
def execEp2Go (r : Req) (len : Nat) (s : State) : Host.Outcome State Fault Refusal :=
  s.act fun h => h.asGo r UDF.EP2CTL_GO 0 fun h => (h.wr UDF.EP2CTL_LEN len).wr UDF.EP2CTL_BUSY 1

/-- IN_TRANSACTION (R491, R492). -/
def execInTransaction (ep : Fin 3) (s : State) : Host.Outcome State Fault Refusal :=
  s.act fun h => h.when h.udfLive fun h => h.inToken ep

/-- WAKE_REQ (R493). -/
def execWakeReq (r : Req) (s : State) : Host.Outcome State Fault Refusal :=
  s.act fun h => h.asGo r UDF.WAKE_REQ 0 fun h =>
    if h.on UDF.STAT_SUSPENDED && h.on UDF.STAT_RWAKE_EN then h.wr UDF.WAKE_PENDING 1
    else if h.on UDF.STAT_RWAKE_EN && h.resuming then h.wakeAbsorbed else h.raise 0xA1 0 (Hub.regCap r UDF.WAKE_REQ 0)

/-- USB_BUS_RESET (R494): port 1 to 7, or the whole hub. -/
def execUsbBusReset (port : Option (Fin 7)) (s : State) : Host.Outcome State Fault Refusal :=
  s.act fun h => h.when (h.up 0xA0) fun h => h.usbReset (match port with | some p => p + 1 | none => 0)

/-- HOST_RESUME (R497): how long the host signals it the spec leaves open. -/
def execHostResume (s : State) : Host.Outcome State Fault Refusal :=
  s.act fun h => h.when (h.up 0xA0 && h.on USB.STAT_SUSPENDED) fun h =>
    let (t, h') := h.free
    (h'.wr USB.hResume (h.cyc + t % 2 ^ 30)).busResume

/-- HUB_REQUEST (R473, R475): a hub whose host asks for a port is one that its host has configured (R498). -/
def execHubRequest (q : HubReq) (s : State) : Host.Outcome State Fault Refusal :=
  s.act fun h => h.when (h.up 0xA0 && h.on USB.hAttached) fun h => (h.wr USB.STAT_CONFIGURED 1).hubReq q

/-- DEVICE_CONNECT (R474, R498): port 7 follows UDF.CTL.CONNECT alone (R489). -/
def execDeviceConnect (port : Fin 7) (connected : Bool) (speed : Nat) (s : State) : Host.Outcome State Fault Refusal :=
  s.act fun h => h.when (h.up 0xA0 && port != 6) fun h =>
    if connected then
      h.when (h.portUsable (port + 1)) fun h =>
        h.setPortStat (port + 1) (h.portStat (port + 1) &&& 0x18 ||| 1 ||| (speed % 4 * 32))
    else h.portEmpty (port + 1)

end Sys2Proof.Machine
end

