-- ==== Sys2Proof/Machine/Domains.lean ====
section
/-! DEFINITION. Votes, domain masks, node state transitions and wake sources (R569 to R573, R581 to R587, R592, R595 to
R597, R718) as shared operations. What turning a domain off or on does to its blocks stands in Machine/Power.lean. -/

namespace Sys2Proof.Machine

/-- The floor mask of a node state (R572). -/
def floorMask (st : Nat) : Nat := [0x803, 0x903, 0xC03, 0x801].getD st 0x803

/-- The ceiling mask of a node state (R572). -/
def ceilMask (st : Nat) : Nat := [0xFFF, 0xF7F, 0xC03, 0x801].getD st 0xFFF

/-- Whether a domain lies on the main rails (R569). -/
def mainDom (d : Nat) : Bool := 2 ≤ d && d ≤ 9

namespace Hub

/-- The six votes together, bit 0 ignored (R570). -/
def votes (h : Hub) : Nat :=
  ([PDM.VOTE_FW_DOM, PDM.VOTE_HOST_DOM, PDM.VOTE_CROWN_DOM, PDM.VOTE_MGP_DOM, PDM.VOTE_LUME_DOM, PDM.VOTE_USB_DOM].foldl
    (fun m F => m ||| h.rd F) 0) / 2 * 2

/-- The node state whose masks act: the goal of a running transition, else the current state. -/
def effState (h : Hub) : Nat := if h.on PDM.STATE_BUSY then h.rd PDM.hGoal else h.rd PDM.STATE_CURRENT

/-- Whether a domain is to be on (R571). -/
def wanted (h : Hub) (d : Nat) : Bool :=
  ((h.rd PDM.hVotes ||| floorMask h.effState) &&& ceilMask h.effState).testBit d

/-- Whether a domain does nothing at present but stay on or off. -/
def settled (h : Hub) (d : Nat) : Bool := h.rd PDM.hDom 0 d == 0

/-- A domain is turned off or on as the masks say (R571, R574, R575). No domain turns on before PLL_SYS has locked (R587,
R707), MGMT goes off last (R586), and a domain on main rails waits for MAIN_PG (R587). A domain whose power-good was
missed stays off until it is wanted anew. -/
def moveDomain (d : Nat) (h : Hub) : Hub :=
  if h.wanted d then
    h.when (!h.domOn d && h.settled d && h.bit CLK.PLLSTAT_LOCK 0 && (!mainDom d || h.on TOP.RAILS_MAIN_PG)) fun h => h.wr PDM.hDom 1 0 d
  else if d = 1 ∧ (List.range 12).any (fun e => e != 0 && e != 1 && e != 11 && (h.domOn e || !h.settled e)) = true then h
  else if h.rd PDM.hDom 0 d = 1 ∨ h.rd PDM.hDom 0 d = 4 then h.wr PDM.hDom 0 0 d
  else h.when (h.domOn d && h.settled d) fun h => h.wr PDM.hDom 3 0 d

/-- Every domain moved as the masks say. -/
def refreshDomains (h : Hub) : Hub := h.each [2, 3, 4, 5, 6, 7, 8, 9, 10, 11, 1] moveDomain

/-- Votes written outside a transition act at once (R582). -/
def refreshVotes (h : Hub) : Hub :=
  if h.on PDM.STATE_BUSY then h else (h.wr PDM.hVotes h.votes).refreshDomains

/-- LPEST in 10 µA (R592, R593, R600). -/
def refreshLpest (h : Hub) : Hub :=
  let bitsOn (n w : Nat) : Nat := ((List.range w).filter fun k => n.testBit k).length
  let ua := 1700 + 10 * h.rd AON.MGPWAKE_EN + 120 * bnat (h.bit AON.WAKEEN_EN 5) + 5 * bitsOn (h.rd AON.GPIOWAKE_EN) 8 +
    25 * ((List.range 32).filter fun l => h.on AON.hBeaconEn 0 l).length
  (h.wr AON.REGSTAT_LPEST (ceilDiv ua 10)).when (decide (2700 < ua)) fun h => h.raise 3 1

/-- FLOOR and CEIL report the current state's masks (R601). -/
def refreshMasks (h : Hub) : Hub :=
  (h.wr PDM.FLOOR_DOM (floorMask (h.rd PDM.STATE_CURRENT))).wr PDM.CEIL_DOM (ceilMask (h.rd PDM.STATE_CURRENT))

/-- The entry into STANDBY begins (R585). -/
def beginStandby (h : Hub) : Hub :=
  let up := (List.range 8).filter fun p => h.rd OPT.STAT_STATE p == 3
  let isUplink (p : Nat) : Bool := (h.on RTE.UPLINK_P_VALID && h.rd RTE.UPLINK_PRIMARY == p) ||
    (h.on RTE.UPLINK_S_VALID && h.rd RTE.UPLINK_SECONDARY == p)
  let h1 := h.each up fun p h => h.pmGo p (bnat (!isUplink p))
  ((h1.wr PDM.hAsked ((up.map (2 ^ ·)).sum)).wr PDM.STAT_PARTIAL 0).when (h1.domOn 8) fun h =>
    (h.wr MEM.STAT_SR 1).refreshMem

/-- A node state transition begins (R582, R585, R586, R587). -/
def beginTransition (h : Hub) (goal : Nat) : Hub :=
  let h0 := (h.wr PDM.STATE_BUSY 1 |>.wr PDM.hGoal goal |>.wr PDM.hVotes h.votes).when (goal != 0) fun h =>
    h.wr AON.hFirst 0
  let h1 :=
    if goal = 1 then h0.beginStandby
    else if goal = 3 then
      let fw := h0.rd PDM.VOTE_FW_DOM &&& ceilMask 3
      let h2 := h0.wr PDM.VOTE_FW_DOM fw
      h2.wr PDM.hVotes h2.votes
    else
      ((h0.wr AON.REGSTAT_LP 0).wr MEM.STAT_SR 0).refreshMem.each
        ((List.range 8).filter fun p => h0.rd OPT.STAT_STATE p == 4) fun p h => h.startExit p
  h1.refreshDomains

/-- A wake source is recognised (R584, R595, R597). -/
def wake (h : Hub) (src detail : Nat) : Hub :=
  let st := h.effState
  if !(h.bit AON.WAKEEN_EN src && (st == 1 || st == 3)) then
    h.when (h.bit AON.WAKEEN_EN src && h.on PDM.STATE_BUSY && decide (h.rd PDM.STATE_CURRENT % 2 = 1)) fun h =>
      (h.wrBit AON.WAKESRC_SEEN src true).wr PDM.hWake 1
  else
    let h1 := (h.wrBit AON.WAKESRC_SEEN src true).wr PDM.hWake 1
    let h2 := h1.when (!h1.on AON.hFirst) fun h =>
      h.wr AON.hFirst 1 |>.wr AON.WAKEFIRST_SRC src |>.wr AON.WAKEFIRST_DETAIL detail |>.wr AON.WAKEFIRST_VALID 1
        |>.wr AON.WAKETICK_TICK h.aonTimer
    if h2.on PDM.STATE_BUSY then (h2.wr PDM.STATE_LATCHED 0).wr PDM.STATE_PENDING 1 else h2.beginTransition 0

/-- A vote register takes `v` (R570, R573, R582): a bit that newly names a domain outside the ceiling is a wake. -/
def setVote (h : Hub) (client : Nat) (F : Fld) (v : Nat) : Hub :=
  let new := clrMask (v % 4096) (h.rd F)
  ((h.wr F v).when (clrMask new (ceilMask h.effState) / 2 != 0) fun h => h.wake 6 client).refreshVotes

/-- VOTE_LUME and VOTE_USB as the hardware has them (R570). -/
def hwVotes (h : Hub) : Nat × Nat :=
  (bnat ((List.range 8).any fun n => h.on HDR.PCTL_EN (0xB0 + n) || h.on HDR.PCTL_EN (0xC0 + n)) * 2048,
    bnat ((h.on USB.STAT_UPACT && !h.on USB.STAT_SUSPENDED) || h.on UDF.WAKE_PENDING) * 1024)

/-- A request for a node state refused (R581). -/
def refuseState (h : Hub) (reason client : Nat) (c : Cap) : Hub :=
  (h.cnt PDM.CNT_REFUSE_COUNT).raise 4 0 { c with lo := some (reason + client * 16) }

/-- The Kept fields that a save of every domain outside the SLEEP ceiling would take, and RET.NEED (R579). -/
def refreshNeed (h : Hub) : Hub :=
  let kept := h.regs.filter fun p => keptKey p.1 && !(ceilMask 3).testBit (pageDom (keyPage p.1))
  h.wr RET.NEED_BYTES (Config.packedBytes kept)

/-- A write of PDM.STATE.TARGET (R581, R582, R718). -/
def askState (h : Hub) (m : MasterId) (target : Nat) (c : Cap := {}) : Hub :=
  let h := h.refreshNeed
  let cur := h.rd PDM.STATE_CURRENT
  let held := ([PDM.VOTE_HOST_DOM, PDM.VOTE_CROWN_DOM, PDM.VOTE_MGP_DOM, PDM.VOTE_LUME_DOM, PDM.VOTE_USB_DOM].zipIdx).find?
    fun p => clrMask (h.rd p.1) (ceilMask target) / 2 != 0
  let refuse (reason client : Nat) : Hub := h.refuseState reason client c
  if !(m == .mcpu || m == .pcieHost || m == .fabric || m == .mgp) then refuse 6 0
  else if target = 2 ∨ 4 ≤ target then refuse 5 0
  else if cur = 2 then refuse 4 0
  else
    match held with
    | some p => refuse 1 (p.2 + 1)
    | none =>
      if target = 3 ∧ 65536 < h.rd RET.NEED_BYTES then refuse 2 0
      else if target = 3 ∧ 270 < h.rd AON.REGSTAT_LPEST then refuse 3 0
      else
        let h1 := h.wr PDM.STATE_TARGET target
        if h1.on PDM.STATE_BUSY then (h1.wr PDM.STATE_LATCHED target).wr PDM.STATE_PENDING 1
        else if target = cur then h1
        else if cur = 0 ∨ target = 0 then h1.beginTransition target
        else ((h1.wr PDM.STATE_LATCHED target).wr PDM.STATE_PENDING 1).beginTransition 0

/-- The latched target is evaluated as a transition ends (R582, R718). -/
def nextTransition (h : Hub) : Hub :=
  if !h.on PDM.STATE_PENDING then h.refreshVotes
  else
    let t := h.rd PDM.STATE_LATCHED
    let cur := h.rd PDM.STATE_CURRENT
    if t = cur then (h.wr PDM.STATE_PENDING 0 |>.wr PDM.STATE_LATCHED 0).refreshVotes
    else if cur = 0 ∨ t = 0 then (h.wr PDM.STATE_PENDING 0 |>.wr PDM.STATE_LATCHED 0).beginTransition t
    else h.beginTransition 0

/-- Whether the running transition has done its work (R585, R586, R587). -/
def transitionOver (h : Hub) : Bool :=
  h.on PDM.STATE_BUSY &&
  match h.rd PDM.hGoal with
  | 1 => !h.domOn 7 && h.settled 7 && (List.range 8).all fun p => !(h.rd PDM.hAsked).testBit p || !h.on OPT.hPm p
  | 3 => (List.range 12).all fun d => d == 0 || d == 11 || (!h.domOn d && h.settled d)
  | _ =>
    if h.rd PDM.STATE_CURRENT = 3 then h.bit PDM.DOMREADY_READY 1
    else (h.rd PDM.hDom 0 7 == 4 || (h.settled 7 && (h.domOn 7 || !h.wanted 7))) && !h.on MEM.STAT_SR

/-- A transition ends (R585 to R587, R597, R601). -/
def endTransition (h : Hub) (us : Nat) : Hub :=
  let old := h.rd PDM.STATE_CURRENT
  let goal := h.rd PDM.hGoal
  let h1 := (h.wr PDM.STATE_BUSY 0 |>.wr PDM.STATE_CURRENT goal |>.wr PDM.LAST_FROM old |>.wr PDM.LAST_TO goal
    |>.wr PDM.LAST_US_US us |>.cnt PDM.CNT_TRANS_COUNT).irq 4 0 |>.refreshMasks
  let h2 :=
    if goal = 1 then h1
    else if goal = 3 then
      (({ h1 with fmem := [] } : Hub).wr AON.REGSTAT_LP 1 |>.wr TOP.RAILS_MAIN_EN 0 |>.wr CLK.PLLSTAT_LOCK 0).wr CLK.hUnlocked 0
        |>.wr TOP.NTCTL_RUN 0
    else
      ((h1.wr TOP.RAILS_MAIN_EN 1).when (h1.on PDM.hWake) fun h => (h.wr PDM.hWake 0).irq 4 1)
  h2.nextTransition

end Hub

end Sys2Proof.Machine
end

