-- ==== Sys2Proof/Machine/Clasp.lean ====
section
/-! DEFINITION. The clasp contracts on Ocael cables (R501 to R532, R538, R539) and the node-bus power that they share
with the lume outputs (R506, R509, R558). -/

namespace Sys2Proof.Machine

/-- The current limit in BOOT, in 10 mA (R504). -/
def iBoot : Nat := 75

/-- I_LIM of a contract current, in 10 mA (R504). -/
def iLimOf (icur : Nat) : Nat := max iBoot (icur * 12 / 10)

namespace Hub

/-! ### The node bus -/

/-- Whether the node bus is fed only through a port in BOOT before the first CONTRACT (R509). -/
def bootFed (h : Hub) : Bool :=
  !h.on CLP.hHad && !h.on BUS.STAT_LOCAL && !h.on BUS.STAT_BATT &&
  (List.range 8).any fun n => h.rd CLP.STAT_ROLE n == 2 && h.rd CLP.STAT_STATE n == 3

/-- STAT.ARMED of a port follows its conditions (R524). -/
def refreshArmed (n : Nat) (h : Hub) : Hub :=
  h.wr CLP.STAT_ARMED (bnat (h.on CLP.CFG_FS_EN n && h.on CLP.CFG_SRC_CAP n && h.on CLP.STAT_POWER_OK n &&
    h.on CLP.CFG_GUARD n && h.rd CLP.STAT_STATE n == 4 && h.rd CLP.STAT_ROLE n == 2 && h.on CLP.hArmed n)) n

/-- Millivolts of the Type-C supply that PDO `i` offers (R534). -/
def pdoMv (i : Nat) : Nat := [5000, 9000, 15000, 20000].getD i 5000

/-- The current of PDO `i` of Type-C port `k` in 10 mA (R535, R540): above 3.00 A only with a 5 A cable. -/
def pdoCur (h : Hub) (k i : Nat) : Nat :=
  let v := min 500 (h.rd ([TCP.PDOI_A_I5, TCP.PDOI_A_I9, TCP.PDOI_B_I15, TCP.PDOI_B_I20].getD i TCP.PDOI_A_I5) k)
  if h.on TCP.STAT_EMARK_5A k then v else min 300 v

/-- The maximum power of Type-C port `k`'s highest enabled PDO, in 10 µW (R558). -/
def pdoPower (h : Hub) (k : Nat) : Nat :=
  match (List.range 4).reverse.find? fun i => h.bit TCP.PDO_EN i k with
  | some i => pdoMv i * min 500 (h.rd ([TCP.PDOI_A_I5, TCP.PDOI_A_I9, TCP.PDOI_B_I15, TCP.PDOI_B_I20].getD i TCP.PDOI_A_I5) k)
  | none => 0

/-- What the lume outputs have committed, in 10 mW (R558). -/
def lumeSum (h : Hub) : Nat :=
  ((List.range 8).map fun n => if 2 ≤ h.rd LPO.STAT_STATE n ∧ h.rd LPO.STAT_STATE n ≤ 5 then h.rd LPO.PLIM_CW n else 0).sum

/-- Whether the power of output `n` fits the budget (R558). -/
def budgetFits (h : Hub) (n : Nat) : Bool :=
  decide (h.lumeSum + h.rd LPO.PLIM_CW n + h.rd BUS.ALLOC_OTHER * 100 ≤ h.rd BUS.BUDGET_W * 100)

/-- BUS.ALLOC follows what is committed (R558). -/
def refreshAlloc (h : Hub) : Hub :=
  let lume := h.lumeSum
  let clasp := ((List.range 8).map fun n => if h.rd CLP.STAT_ROLE n = 1 then h.rd CLP.CONTRACT_ICUR n * 57000 else 0).sum
  (h.wr BUS.ALLOC_LUME (ceilDiv lume 100)).wr BUS.ALLOC_OTHER (ceilDiv (h.pdoPower 0 + h.pdoPower 1 + clasp) 100000)

/-- WAITCAUSE of an output in WAIT (R553): the highest-numbered cause that holds it. BUDGET stands from the attempt that
met it until the power fits again (R558). -/
def refreshCause (n : Nat) (h : Hub) : Hub :=
  let h1 := h.when (h.budgetFits n) fun h => h.wr LPO.hBudget 0 n
  let emerg := h1.on LPO.CFG_EMERG n
  let c :=
    if h1.rd LPO.STAT_STATE n ≠ 1 then 0
    else if h1.on BUS.STAT_OV then 5
    else if h1.on BUS.STAT_EMERG && !emerg then 4
    else if h1.on BUS.STAT_SHEDDING && h1.on LPO.CFG_SHED n && !emerg then 3
    else if h1.on LPO.hBudget n then 2
    else if h1.bootFed then 1 else 0
  h1.wr LPO.STAT_WAITCAUSE c n

/-- The VBUS converter of Type-C port `k` follows its conditions (R509, R535, R536); a source whose VBUS goes off holds no
contract. -/
def refreshVen (k : Nat) (h : Hub) : Hub :=
  let src := h.on TCP.STAT_ATTACHED k && h.rd TCP.STAT_PROLE k == 0
  let ven := src && !h.bootFed && !h.on TCP.hCut k && h.rd PDM.STATE_CURRENT != 2
  (h.wr TCP.hVen (bnat ven) k).when (src && !ven) fun h =>
    h.wr TCP.STAT_CONTRACT 0 k |>.wr TCP.RDO_PDO 0 k |>.wr TCP.RDO_CUR 0 k

/-- What hangs on the node bus, brought up to date: POWER_OK, ARMED, the VBUS converters, ALLOC and WAITCAUSE (R506, R509,
R524, R553, R558). -/
def refreshBus (h : Hub) : Hub :=
  let sinks := (List.range 8).filter fun n => h.rd CLP.STAT_ROLE n == 2 && h.on CLP.STAT_SW n
  let inRange := decide (44000 ≤ h.rd BUS.VBUS_MV ∧ h.rd BUS.VBUS_MV ≤ 57000)
  let h1 := h.each (List.range 8) fun n h =>
    (h.wr CLP.STAT_POWER_OK (bnat (inRange && (h.on BUS.STAT_LOCAL || h.on BUS.STAT_BATT || sinks.any (· != n)))) n
      |>.wr CLP.STAT_UPSTREAM (bnat (h.widthWins n)) n) |> refreshArmed n
  ((refreshVen 1 (refreshVen 0 h1)).refreshAlloc).each (List.range 8) refreshCause

/-! ### The switch -/

/-- STATE of a clasp port set; every change sets ISTAT.STATE (R539). -/
def setClp (h : Hub) (n st : Nat) : Hub :=
  (if h.rd CLP.STAT_STATE n = st then h else (h.wr CLP.STAT_STATE st n).irq (0xB0 + n) 0).refreshBus

/-- The switch of a port moved (R501, R503): a closed switch has reached power-good. -/
def setSw (h : Hub) (n sw : Nat) : Hub :=
  h.wr CLP.STAT_SW sw n |>.wr CLP.STAT_PG (bnat (sw != 0)) n |>.wr CLP.hWant 0 n

/-- The contract of a port ends, and what was being asked or awaited is dropped (R517). -/
def endContract (h : Hub) (n : Nat) : Hub :=
  { h with claspAsk := Tab.del n h.claspAsk }.wr CLP.CONTRACT_ICUR 0 n |>.wr CLP.CONTRACT_ILIM 0 n |>.wr CLP.hPend 0 n
    |>.wr CLP.hLower 0 n |>.wr CLP.hArmAsk 0 n |>.wr CLP.hArmed 0 n |>.wr CLP.hAgain 0 n |>.wr CLP.hWant 0 n

/-- A port opens and takes state `st` with ROLE NONE. -/
def openClp (h : Hub) (n st : Nat) : Hub :=
  ((((h.endContract n).setSw n 0).wr CLP.STAT_ROLE 0 n |>.wr CLP.STAT_SF_TX 0 n |>.wr CLP.STAT_CA_TX 0 n).setClp n st)

/-- Whether port `n` carries no power: an optical cable, or none rated (R505). -/
def noCable (h : Hub) (n : Nat) : Bool := h.rd OLN.CFG_CLASS (4 * n) == 2 || h.rd CLP.IMAX_CABLE n == 0

/-- NOPOWER follows the cable (R505). -/
def noPower (h : Hub) (n : Nat) : Hub :=
  let st := h.rd CLP.STAT_STATE n
  if h.solitaire || !h.live (0xB0 + n) || st == 0 || st == 7 then h
  else if st = 8 then (if h.noCable n then h else h.setClp n 1)
  else if h.noCable n then h.openClp n 8
  else h

/-- PCTL.EN of a CLP page written (R503, R505, R517). In SOLITAIRE the switch holds its state against commands (R19, R528). -/
def claspEnable (h : Hub) (n : Nat) (en : Bool) : Hub :=
  if h.solitaire then h
  else if !en then h.openClp n 0
  else if h.rd CLP.STAT_STATE n ≠ 0 then h
  else h.setClp n (if h.noCable n then 8 else 1)

/-! ### Messages -/

/-- Whether clasp messages flow on port `p` (R510). -/
def claspFlows (h : Hub) (p : Nat) : Bool := 1 ≤ h.rd OPT.STAT_STATE p && h.rd OPT.STAT_STATE p ≤ 3

/-- PWR of a port (R512). -/
def pwrOf (h : Hub) (n : Nat) : Nat :=
  h.rd CLP.CFG_SPRIO n + h.rd CLP.STAT_POWER_OK n * 16 + h.rd CLP.CFG_GUARD n * 32 + h.rd CLP.CFG_FS_EN n * 64

/-- A clasp payload of 12 bytes (R511): CTYPE, and fields at their byte offsets, each given as place, size and value. -/
def claspBody (ctype : Nat) (fs : List (Nat × Nat × Nat)) : Bytes :=
  (List.range 12).map fun i =>
    if i = 0 then BitVec.ofNat 8 ctype
    else match fs.find? fun f => f.1 ≤ i && i < f.1 + f.2.1 with
      | some (o, _, v) => BitVec.ofNat 8 (v / 256 ^ (i - o))
      | none => 0

/-- A message that awaits no answer (R510). A port in LOWPOWER starts its exit. -/
def claspSay (h : Hub) (n tok ctype : Nat) (fs : List (Nat × Nat × Nat)) : Hub :=
  if h.claspFlows n then (h.lmcSend n 0x0B tok (claspBody ctype fs)).cnt CLP.CNT_MSG_TX n
  else if h.rd OPT.STAT_STATE n = 4 then ((h.lmcSend n 0x0B tok (claspBody ctype fs)).cnt CLP.CNT_MSG_TX n).startExit n
  else h

/-- A request under TOKEN `tok` that awaits its answer (R510, R513). A port that is DOWN carries it once it reaches
CAPX. -/
def claspAskTok (h : Hub) (n tok ctype : Nat) (fs : List (Nat × Nat × Nat)) : Hub :=
  let flows := h.claspFlows n || h.rd OPT.STAT_STATE n == 4
  { h with claspAsk := Tab.ins n { ctype := ctype, tok := tok, payload := claspBody ctype fs, sent := flows } h.claspAsk
    }.claspSay n tok ctype fs

/-- A request of this end with a new TOKEN. -/
def claspRequest (h : Hub) (n ctype : Nat) (fs : List (Nat × Nat × Nat)) : Hub :=
  let (t, h1) := h.nextTok n
  h1.claspAskTok n t ctype fs

/-- IMAX offered (R515). -/
def imaxOffer (h : Hub) (n : Nat) : Nat := min (min (h.rd CLP.IMAX_OFFER n) (h.rd CLP.IMAX_CABLE n)) 500

/-- OFFER sent (R511, R515). -/
def sendOffer (h : Hub) (n : Nat) : Hub :=
  h.claspRequest n 1 [(4, 2, h.rd BUS.VBUS_MV / 100), (6, 2, h.imaxOffer n), (10, 1, h.pwrOf n)]

/-- What follows a write to a CLP page that changed IMAX offered from `old` (R505, R515, R524). -/
def claspFollow (h : Hub) (n old : Nat) : Hub :=
  ((h.refreshArmed n).refreshBus.noPower n) |> fun h =>
    h.when (h.imaxOffer n != old && h.rd CLP.STAT_ROLE n == 1 && (h.rd CLP.STAT_STATE n == 3 || h.rd CLP.STAT_STATE n == 4)) fun h =>
      h.sendOffer n

/-- The fields of REQUEST (R511, R515). -/
def requestBody (h : Hub) (n : Nat) : List (Nat × Nat × Nat) :=
  [(4, 2, h.rd CLP.REQ_IREQ n), (10, 1, h.pwrOf n), (11, 1, h.rd CLP.REQ_ARM n)]

/-- A message received is counted, and its PWR loads PARTNER (R512). -/
def loadPwr (h : Hub) (n pwr : Nat) : Hub :=
  h.wr CLP.PARTNER_SPRIO pwr n |>.wr CLP.PARTNER_POWER_OK (bits pwr 4 1) n |>.wr CLP.PARTNER_TRACK (bits pwr 5 1) n
    |>.wr CLP.PARTNER_FS_CAP (bits pwr 6 1) n |>.wr CLP.PARTNER_VALID 1 n

/-- The request of a port is answered, where it is of type `ctype` under `tok`. -/
def asked (h : Hub) (n ctype tok : Nat) : Bool :=
  match Tab.find n h.claspAsk with
  | some a => a.ctype == ctype && a.tok == tok % 65536
  | none => false

/-- No request awaits an answer any more. -/
def unask (h : Hub) (n : Nat) : Hub := { h with claspAsk := Tab.del n h.claspAsk }

/-- Whether both ends are in TRACK (R520). -/
def bothTrack (h : Hub) (n : Nat) : Bool := h.on CLP.CFG_GUARD n && h.on CLP.PARTNER_TRACK n

/-- Whether a clasp block and its port take messages. -/
def claspOn (h : Hub) (n : Nat) : Bool :=
  h.live (0xB0 + n) && h.claspFlows n && h.rd CLP.STAT_STATE n != 0 && h.rd CLP.STAT_STATE n != 8

/-! ### Negotiation -/

/-- The contract is in force: STATE CONTRACT, ICUR and ILIM loaded (R516). -/
def inForce (h : Hub) (n icur ilim : Nat) : Hub :=
  ((h.wr CLP.CONTRACT_ICUR icur n |>.wr CLP.CONTRACT_ILIM ilim n |>.wr CLP.hPend 0 n |>.wr CLP.hLower 0 n
    |>.wr CLP.hHad 1).irq (0xB0 + n) 1).setClp n 4

/-- The source puts the accepted current in force and sends READY (R516). -/
def sourceReady (h : Hub) (n : Nat) : Hub :=
  let i := h.rd CLP.hPend n - 1
  (h.inForce n i (iLimOf i)).claspRequest n 5 [(4, 2, i), (6, 2, iLimOf i)]

/-- The source's change after ACCEPT (R516). -/
def sourceChange (h : Hub) (n ireq : Nat) : Hub :=
  let h1 := h.wr CLP.hPend (ireq + 1) n
  if ireq < h.rd CLP.CONTRACT_ICUR n then h1.wr CLP.hLower 1 n
  else if h.on CLP.PARTNER_TRACK n || h.rd CLP.hFar n == 2 || h.rd CLP.STAT_STATE n == 4 then h1.sourceReady n
  else (h1.setSw n 0).wr CLP.hWant 1 n

/-- A REQUEST at the source (R515). -/
def requestIn (h : Hub) (n tok ireq pwr : Nat) (arm : Bool) : Hub :=
  let h1 := (h.loadPwr n pwr).when (h.asked n 1 tok) fun h => h.unask n
  if h.rd CLP.STAT_ROLE n ≠ 1 then h1
  else if h.rd CLP.STAT_STATE n = 5 ∨ h.rd CLP.STAT_STATE n = 6 then h1.claspSay n tok 4 [(4, 1, 2)]
  else if h.imaxOffer n < ireq then h1.claspSay n tok 4 [(4, 1, 1)]
  else
    let ok := arm && h.on CLP.CFG_FS_EN n && h.on CLP.CFG_GUARD n
    ((h1.wr CLP.hArmed (bnat ok) n).claspSay n tok 3 [(4, 2, ireq), (11, 1, bnat ok)]).sourceChange n ireq

/-- An OFFER at the sink (R508, R515). -/
def offerIn (h : Hub) (n tok imax pwr : Nat) : Hub :=
  let h1 := (h.loadPwr n pwr).wr CLP.PARTNER_IMAX imax n
  let h2 := h1.when (h1.rd CLP.STAT_STATE n == 1 && h1.rd CLP.STAT_ROLE n == 0 && h1.on CLP.CFG_SNK_CAP n) fun h =>
    (h.wr CLP.STAT_ROLE 2 n).setClp n 3
  if h2.rd CLP.STAT_ROLE n = 2 then
    (h2.wr CLP.hArmAsk (h2.rd CLP.REQ_ARM n) n).claspAskTok n tok 2 (h2.requestBody n)
  else h2

/-- An ACCEPT at the sink (R516, R524): a sink not yet closed closes at once in TRACK, and waits for its cable in
ZERO. -/
def acceptIn (h : Hub) (n tok ireq : Nat) (arm : Bool) : Hub :=
  if !h.asked n 2 tok then h
  else
    let h1 := (h.unask n).wr CLP.hPend (ireq + 1) n |>.wr CLP.hArmed (bnat (arm && h.on CLP.hArmAsk n)) n
    if h1.rd CLP.STAT_SW n = 2 then h1.refreshBus
    else if h1.on CLP.CFG_GUARD n then (h1.setSw n 2).refreshBus
    else h1.wr CLP.hWant 2 n

/-- READY at the sink (R511, R516). -/
def readyIn (h : Hub) (n tok icur ilim : Nat) : Hub :=
  let h1 := h.claspSay n tok 13 [(4, 1, 5)]
  h1.when (h1.rd CLP.STAT_ROLE n == 2) fun h => h.inForce n icur ilim

/-- Negotiation begun anew from this end's side (R515). -/
def renegotiate (h : Hub) (n : Nat) : Hub :=
  if h.rd CLP.STAT_ROLE n = 1 then h.sendOffer n
  else if h.rd CLP.STAT_ROLE n = 2 then
    (h.wr CLP.hArmAsk (h.rd CLP.REQ_ARM n) n).claspRequest n 2 (h.requestBody n)
  else h

/-- A port enters BOOT as SOURCE with its switch closed, and offers (R508, R515, R532). -/
def bootSource (h : Hub) (n ilim : Nat) : Hub :=
  (((h.setSw n 1).wr CLP.STAT_ROLE 1 n |>.wr CLP.CONTRACT_ILIM ilim n).setClp n 3).sendOffer n

/-- Whether a signature is accepted (R504): between the two ranges the detector decides. -/
def detPass (r100 : Nat) (accept : Bool) : Bool :=
  if 210 ≤ r100 ∧ r100 ≤ 270 then true else if r100 < 190 ∨ 290 < r100 then false else accept

/-! ### Swaps -/

/-- A swap is complete at this end: BOOT in the new role (R520, R521, R523, R539). -/
def swapDone (h : Hub) (n : Nat) : Hub := ((h.cnt CLP.CNT_EVT_SWAP n).irq (0xB0 + n) 2).setClp n 3

/-- Both ends enter SWAP (R519 to R521): the contract ends and its limit stands. The new source in TRACK and the old
source in ZERO have a closure to make. -/
def swapStart (h : Hub) (n : Nat) : Hub :=
  let lim := h.rd CLP.CONTRACT_ILIM n
  let h1 := (((h.endContract n).wr CLP.CONTRACT_ILIM lim n).setClp n 5)
  if h.bothTrack n then h1.when (h1.rd CLP.STAT_ROLE n == 2) fun h => h.wr CLP.hWant 1 n
  else h1.when (h1.rd CLP.STAT_ROLE n == 1) fun h => (h.setSw n 0).wr CLP.hWant 2 n

/-- Why a SWAP_REQ is refused (R511, R519); 0 where it is not. -/
def swapRefusal (h : Hub) (n pwr : Nat) : Nat :=
  let sink := h.rd CLP.STAT_ROLE n == 2
  let ok := if sink then h.on CLP.STAT_POWER_OK n && h.on CLP.CFG_SPRIO n else bits pwr 4 1 == 1 && bits pwr 0 4 != 0
  let cap := if sink then h.on CLP.CFG_SRC_CAP n else ((Tab.get [] n h.capRx).getD 13 0).toNat.testBit 4
  if !ok then 2 else if !cap then 3 else if h.rd CLP.STAT_STATE n ≠ 4 then 4 else 0

/-- A SWAP_REQ (R519, R522). -/
def swapReqIn (h : Hub) (n tok pwr : Nat) : Hub :=
  let mine := match Tab.find n h.claspAsk with | some a => a.ctype == 8 | none => false
  let h1 := h.loadPwr n pwr
  if mine && h1.widthWins n then h1.claspSay n tok 10 [(4, 1, 1)]
  else
    let h2 := h1.when mine fun h => h.unask n
    match h2.swapRefusal n pwr with
    | 0 => (h2.claspSay n tok 9 [(10, 1, h2.pwrOf n)]).swapStart n
    | r => h2.claspSay n tok 10 [(4, 1, r)]

/-- The waiting closure of a port is made (R502, R508, R516, R520, R521): in IDLE, that of a powered sink. -/
def closure (h : Hub) (n : Nat) : Hub :=
  let swap := h.rd CLP.STAT_STATE n == 5
  match h.rd CLP.hWant n with
  | 1 =>
    let h1 := h.setSw n 1
    if swap then (((h1.wr CLP.STAT_ROLE 1 n).wr CLP.hFast 0 n).refreshBus).claspRequest n 11 [(4, 1, 0)]
    else if h1.on CLP.hPend n then h1.sourceReady n
    else h1.refreshBus
  | 2 =>
    let h1 := (h.setSw n 2).refreshBus
    if swap then ((h1.wr CLP.STAT_ROLE 2 n).refreshBus).claspRequest n 12 [] else h1
  | _ =>
    h.when (h.rd CLP.STAT_STATE n == 1 && h.rd CLP.CFG_PREF n == 0 && h.on CLP.CFG_SNK_CAP n) fun h =>
      ((h.setSw n 2).wr CLP.STAT_ROLE 2 n).setClp n 3

/-- A source hands the cable over to the partner that feeds it (R527): it changes to SINK where its guard mode is TRACK. -/
def yieldCable (h : Hub) (n : Nat) : Hub :=
  ((h.setSw n (if h.on CLP.CFG_GUARD n then 2 else 0)).wr CLP.STAT_ROLE 2 n |>.wr CLP.STAT_SF_TX 0 n |>.wr CLP.hArmed 0 n).refreshBus

/-- SRC_ON (R520, R521, R527). -/
def srcOnIn (h : Hub) (n tok : Nat) (fast : Bool) : Hub :=
  let h1 := h.claspSay n tok 13 [(4, 1, 11)]
  if fast then h1.when (h1.rd CLP.STAT_ROLE n == 1) fun h => h.yieldCable n
  else if h1.rd CLP.STAT_STATE n ≠ 5 then h1
  else if h1.rd CLP.STAT_ROLE n = 1 then
    (((h1.setSw n 2).wr CLP.STAT_ROLE 2 n).claspRequest n 12 []).swapDone n
  else h1.swapDone n

/-- SRC_OFF (R520, R521): the new source offers; where the swap broke first, it closes and sends SRC_ON before. -/
def srcOffIn (h : Hub) (n tok : Nat) : Hub :=
  let h1 := h.claspSay n tok 13 [(4, 1, 12)]
  if h1.rd CLP.STAT_STATE n ≠ 5 then h1
  else if h1.rd CLP.STAT_ROLE n = 1 then (h1.swapDone n).sendOffer n
  else
    let h2 := ((h1.setSw n 1).wr CLP.STAT_ROLE 1 n).wr CLP.hFast 0 n
    let (t, h3) := h2.nextTok n
    ((h3.claspSay n t 11 [(4, 1, 0)]).swapDone n).sendOffer n

/-! ### Fast swap -/

/-- An armed sink closes SOURCE (R526, R527, R528): it keeps the contract's limit, and sends SRC_ON with FAST. -/
def fastSwap (h : Hub) (n : Nat) : Hub :=
  let h1 := (((h.setSw n 1).wr CLP.STAT_ROLE 1 n |>.wr CLP.hArmed 0 n |>.wr CLP.hFast 1 n).cnt CLP.CNT_EVT_FSWAP n).irq
    (0xB0 + n) 3
  (h1.refreshBus).claspRequest n 11 [(4, 1, 1)]

/-- SF as the bus has it (R525). -/
def refreshSf (h : Hub) (n : Nat) : Hub :=
  let v := h.rd BUS.VBUS_MV
  let lvl := h.rd CLP.FS_SF_DV n * 100
  if h.rd CLP.STAT_ROLE n ≠ 1 then h.wr CLP.STAT_SF_TX 0 n
  else if v < lvl then h.wr CLP.STAT_SF_TX 1 n
  else if lvl + 1000 < v then h.wr CLP.STAT_SF_TX 0 n
  else h

/-! ### Hard reset -/

/-- A clasp hard reset (R530, R531): CA stands for 1.0 ms to 1.2 ms. -/
def claspHardReset (h : Hub) (n : Nat) : Hub :=
  let st := h.rd CLP.STAT_STATE n
  if st = 0 ∨ st = 6 ∨ st = 7 ∨ st = 8 then h
  else
    let role := h.rd CLP.STAT_ROLE n
    let (v, h1) := h.free
    (((((h1.endContract n).setSw n 0).wr CLP.hBefore role n |>.wr CLP.STAT_CA_TX 1 n |>.wr CLP.hCa (h.cyc + 400000 + v % 80001) n
      |>.cnt CLP.CNT_EVT_HRESET n).raise
      (0xB0 + n) 6).irq (0xB0 + n) 4).setClp n 6

/-- The source role at safe-low (R531): 1 this end, 2 the partner, 0 neither. -/
def electRole (h : Hub) (n : Nat) : Nat :=
  let me := h.on CLP.STAT_POWER_OK n && h.on CLP.CFG_SPRIO n
  let it := h.on CLP.PARTNER_POWER_OK n && h.on CLP.PARTNER_SPRIO n
  let a := h.rd CLP.CFG_SPRIO n
  let b := h.rd CLP.PARTNER_SPRIO n
  if !h.on CLP.PARTNER_VALID n then h.rd CLP.hBefore n
  else if me && it then (if b < a ∨ (a = b ∧ h.widthWins n = true) then 1 else 2)
  else if me then 1 else if it then 2 else 0

/-- The elected end closes SOURCE into BOOT, the other closes SINK (R531, R532). -/
def elect (h : Hub) (n : Nat) : Hub :=
  match h.electRole n with
  | 1 => h.bootSource n (min 500 (h.rd CLP.IMAX_OFFER n))
  | 2 => if h.on CLP.CFG_SNK_CAP n then ((h.setSw n 2).wr CLP.STAT_ROLE 2 n).setClp n 3 else h.openClp n 1
  | _ => h.openClp n 1

/-- Voltage and current of the cable as measured: values that the spec leaves open (R538). -/
def claspMeasure (h : Hub) (n : Nat) : Hub := (h.wrFree CLP.VCABLE_MV n).wrFree CLP.ICABLE_MA n

/-- A guard trip (R503, R539). -/
def claspTrip (h : Hub) (n : Nat) (c : TripCause) : Hub :=
  let h1 := h.claspMeasure n
  let bit := match c with | .overVoltage => 0 | .overCurrent => 1 | .short => 2 | .reverse => 3
  ((h1.openClp n 7).cnt CLP.CNT_TRIP_COUNT n).raise (0xB0 + n) bit
    { lo := h1.rd CLP.VCABLE_MV n, hi := h1.rd CLP.ICABLE_MA n }

/-- STATUS of this end (R511). -/
def statusBody (h : Hub) (n : Nat) : List (Nat × Nat × Nat) :=
  let i := toSigned 16 (h.rd CLP.ICABLE_MA n) / 10
  [(4, 2, h.rd BUS.VBUS_MV / 100), (6, 2, h.rd CLP.VCABLE_MV n / 100), (8, 2, ofSigned 16 i), (10, 1, h.pwrOf n),
    (11, 1, h.rd CLP.STAT_ROLE n + h.rd CLP.STAT_STATE n * 16)]

/-- A request without an answer for T_RETRY (R513). -/
def claspRetry (h : Hub) (n : Nat) : Hub :=
  match Tab.find n h.claspAsk with
  | some a =>
    if !a.sent && !h.claspFlows n then h
    else if a.tries < 3 then
      { h with claspAsk := Tab.ins n { a with tries := a.tries + 1, sent := h.claspFlows n || a.sent } h.claspAsk }.when
        (h.claspFlows n) fun h => (h.lmcSend n 0x0B a.tok a.payload).cnt CLP.CNT_MSG_TX n
    else
      let h1 := ((h.unask n).cnt CLP.CNT_MSG2_TMO n).raise (0xB0 + n) 5
      match h1.rd CLP.STAT_STATE n with
      | 3 => h1.wr CLP.hAgain 1 n
      | 5 => h1.claspHardReset n
      | _ => h1
  | none => h.when (h.on CLP.hAgain n && h.rd CLP.STAT_STATE n == 3) fun h => (h.wr CLP.hAgain 0 n).renegotiate n

end Hub

/-! ### Commands -/

/-- DETECTION (R507, R508). -/
def execDetection (p : Fin 8) (r100 : Nat) (accept : Bool) (s : State) : Host.Outcome State Fault Refusal :=
  s.act fun h => h.when (h.live (0xB0 + p) && !h.solitaire && h.rd CLP.STAT_STATE p == 1 && h.rd CLP.STAT_SW p == 0 &&
      h.on CLP.CFG_PREF p && h.on CLP.CFG_SRC_CAP p && h.on CLP.STAT_POWER_OK p && !h.bootFed) fun h =>
    let ok := Hub.detPass r100 accept
    let h1 := (h.wr CLP.DET_R_100 (min 1023 r100) p).wr CLP.DET_PASS (bnat ok) p
    if ok then h1.bootSource p iBoot else h1.raise (0xB0 + p) 7

/-- CLASP_CLOSURE (R502). -/
def execClaspClosure (p : Fin 8) (s : State) : Host.Outcome State Fault Refusal :=
  s.act fun h => h.when (h.live (0xB0 + p) && !h.solitaire) fun h => h.closure p

/-- CLASP_TRIP (R503). -/
def execClaspTrip (p : Fin 8) (cause : TripCause) (s : State) : Host.Outcome State Fault Refusal :=
  s.act fun h => h.when (h.up (0xB0 + p) && h.on CLP.STAT_SW p) fun h => h.claspTrip p cause

/-- OFFER (R515). -/
def execOffer (p : Fin 8) (tok _vbus imax pwr : Nat) (s : State) : Host.Outcome State Fault Refusal :=
  s.act fun h => h.when (h.claspOn p) fun h => (h.cnt CLP.CNT_MSG_RX p).offerIn p tok imax pwr

/-- REQUEST (R515). -/
def execRequest (p : Fin 8) (tok ireq pwr : Nat) (arm : Bool) (s : State) : Host.Outcome State Fault Refusal :=
  s.act fun h => h.when (h.claspOn p) fun h => (h.cnt CLP.CNT_MSG_RX p).requestIn p tok ireq pwr arm

/-- ACCEPT (R516). -/
def execAccept (p : Fin 8) (tok ireq : Nat) (arm : Bool) (s : State) : Host.Outcome State Fault Refusal :=
  s.act fun h => h.when (h.claspOn p) fun h => (h.cnt CLP.CNT_MSG_RX p).acceptIn p tok ireq arm

/-- REJECT (R515). -/
def execReject (p : Fin 8) (tok _reason : Nat) (s : State) : Host.Outcome State Fault Refusal :=
  s.act fun h => h.when (h.claspOn p) fun h => (h.cnt CLP.CNT_MSG_RX p).when (h.asked p 2 tok) fun h => h.unask p

/-- READY (R516). -/
def execReady (p : Fin 8) (tok icur ilim : Nat) (s : State) : Host.Outcome State Fault Refusal :=
  s.act fun h => h.when (h.claspOn p) fun h => (h.cnt CLP.CNT_MSG_RX p).readyIn p tok icur ilim

/-- LIMIT_LOWER (R516). -/
def execLimitLower (p : Fin 8) (s : State) : Host.Outcome State Fault Refusal :=
  s.act fun h => h.when (h.live (0xB0 + p) && h.on CLP.hLower p && h.rd CLP.STAT_ROLE p == 1) fun h => h.sourceReady p

/-- STATUS (R511, R512). -/
def execStatus (p : Fin 8) (tok _vbus _vcable _icable pwr role : Nat) (s : State) : Host.Outcome State Fault Refusal :=
  s.act fun h => h.when (h.claspOn p) fun h =>
    (((h.cnt CLP.CNT_MSG_RX p).loadPwr p pwr).wr CLP.hFar (role % 4) p).when (h.asked p 7 tok) fun h => h.unask p

/-- STATUS_REQ (R511): the cable's voltage and current as measured are values that the spec leaves open. -/
def execStatusReq (p : Fin 8) (tok : Nat) (s : State) : Host.Outcome State Fault Refusal :=
  s.act fun h => h.when (h.claspOn p) fun h =>
    let h1 := (h.cnt CLP.CNT_MSG_RX p).claspMeasure p
    h1.claspSay p tok 6 (h1.statusBody p)

/-- SWAP_REQ (R519, R522). -/
def execSwapReq (p : Fin 8) (tok pwr : Nat) (s : State) : Host.Outcome State Fault Refusal :=
  s.act fun h => h.when (h.claspOn p) fun h => (h.cnt CLP.CNT_MSG_RX p).swapReqIn p tok pwr

/-- SWAP_ACK (R519, R520). -/
def execSwapAck (p : Fin 8) (tok pwr : Nat) (s : State) : Host.Outcome State Fault Refusal :=
  s.act fun h => h.when (h.claspOn p) fun h =>
    ((h.cnt CLP.CNT_MSG_RX p).loadPwr p pwr).when (h.asked p 8 tok) fun h => (h.unask p).swapStart p

/-- SWAP_NAK (R522). -/
def execSwapNak (p : Fin 8) (tok _reason : Nat) (s : State) : Host.Outcome State Fault Refusal :=
  s.act fun h => h.when (h.claspOn p) fun h =>
    ((h.cnt CLP.CNT_MSG_RX p).cnt CLP.CNT_EVT_NAK p).when (h.asked p 8 tok) fun h => h.unask p

/-- SRC_ON (R520, R521, R527). -/
def execSrcOn (p : Fin 8) (tok : Nat) (fast : Bool) (s : State) : Host.Outcome State Fault Refusal :=
  s.act fun h => h.when (h.claspOn p) fun h => (h.cnt CLP.CNT_MSG_RX p).srcOnIn p tok fast

/-- SRC_OFF (R520, R521). -/
def execSrcOff (p : Fin 8) (tok : Nat) (s : State) : Host.Outcome State Fault Refusal :=
  s.act fun h => h.when (h.claspOn p) fun h => (h.cnt CLP.CNT_MSG_RX p).srcOffIn p tok

/-- CLASP_ACK (R511, R527): after a fast SRC_ON the new source offers. -/
def execClaspAck (p : Fin 8) (tok ctype : Nat) (s : State) : Host.Outcome State Fault Refusal :=
  s.act fun h => h.when (h.claspOn p) fun h =>
    (h.cnt CLP.CNT_MSG_RX p).when (h.asked p ctype tok) fun h =>
      (h.unask p).when (ctype == 11 && h.on CLP.hFast p) fun h => (h.wr CLP.hFast 0 p).sendOffer p

/-- CLASP_RETRY (R513). -/
def execClaspRetry (p : Fin 8) (s : State) : Host.Outcome State Fault Refusal :=
  s.act fun h => h.when (h.live (0xB0 + p)) fun h => h.claspRetry p

/-- T_SWAP_EXPIRY (R523, R530). -/
def execTSwapExpiry (p : Fin 8) (s : State) : Host.Outcome State Fault Refusal :=
  s.act fun h => h.when (h.live (0xB0 + p) && h.rd CLP.STAT_STATE p == 5) fun h => h.claspHardReset p

/-- CLASP_SWAP (R519). -/
def execClaspSwap (r : Req) (p : Fin 8) (s : State) : Host.Outcome State Fault Refusal :=
  s.act fun h => h.asReg r CLP.CTL_SWAP p fun h =>
    h.when (h.live (0xB0 + p) && h.on CLP.STAT_ROLE p) fun h => h.claspRequest p 8 [(10, 1, h.pwrOf p)]

/-- RENEG (R515). -/
def execReneg (r : Req) (p : Fin 8) (s : State) : Host.Outcome State Fault Refusal :=
  s.act fun h => h.asReg r CLP.CTL_RENEG p fun h => h.when (h.live (0xB0 + p)) fun h => h.renegotiate p

/-- CONTRACT_OPEN (R517). -/
def execContractOpen (r : Req) (p : Fin 8) (s : State) : Host.Outcome State Fault Refusal :=
  s.act fun h => h.asReg r CLP.CTL_OPEN p fun h =>
    h.when (h.live (0xB0 + p) && !h.solitaire && (h.rd CLP.STAT_STATE p == 4 || h.rd CLP.STAT_STATE p == 3)) fun h => h.openClp p 1

/-- SF_ASSERT (R525). -/
def execSfAssert (p : Fin 8) (s : State) : Host.Outcome State Fault Refusal :=
  s.act fun h => h.when (h.live (0xB0 + p)) fun h => h.refreshSf p

/-- FAST_SWAP (R526). -/
def execFastSwap (p : Fin 8) (bySf : Bool) (s : State) : Host.Outcome State Fault Refusal :=
  s.act fun h => h.when (h.live (0xB0 + p) && h.on CLP.STAT_ARMED p &&
      (if bySf then h.on OPT.STAT_SF_RX p else h.rd OPT.STAT_STATE p == 0 || h.rd OPT.STAT_STATE p == 4)) fun h =>
    h.fastSwap p

/-- SF_HANDOVER (R527). -/
def execSfHandover (p : Fin 8) (s : State) : Host.Outcome State Fault Refusal :=
  s.act fun h => h.when (h.live (0xB0 + p) && h.on CLP.STAT_SF_TX p && h.rd CLP.STAT_ROLE p == 1 && h.on CLP.hArmed p) fun h => h.yieldCable p

/-- CLASP_HARD_RESET (R530): a write of CTL.HRESET, or CA received. -/
def execClaspHardReset (r : Option Req) (p : Fin 8) (s : State) : Host.Outcome State Fault Refusal :=
  s.act fun h =>
    match r with
    | some r => h.asReg r CLP.CTL_HRESET p fun h => h.when (h.live (0xB0 + p) && !h.solitaire) fun h => h.claspHardReset p
    | none => h.when (h.live (0xB0 + p) && h.on OPT.STAT_CA_RX p) fun h => h.claspHardReset p

/-- HARD_RESET_ELECT (R531, R532). -/
def execHardResetElect (p : Fin 8) (s : State) : Host.Outcome State Fault Refusal :=
  s.act fun h => h.when (h.live (0xB0 + p) && h.rd CLP.STAT_STATE p == 6) fun h => h.elect p

/-- BLEED_TIMEOUT (R531). -/
def execBleedTimeout (p : Fin 8) (s : State) : Host.Outcome State Fault Refusal :=
  s.act fun h => h.when (h.live (0xB0 + p) && h.rd CLP.STAT_STATE p == 6) fun h => h.raise (0xB0 + p) 4

end Sys2Proof.Machine
end

