-- ==== Sys2Proof/Machine/Discovery.lean ====
section
/-! DEFINITION. The cascade's messages and events (R317 to R335): NEIGHBOUR, COUNT, GRANT, the crown's heartbeat and
takeover, the standby, routing changes, the ledger, and the repair after link events. -/

namespace Sys2Proof.Machine

namespace Hub

/-- What the crown decides by itself (R197, R277, R278, R335): at most one change each millisecond, and none while intents are being
settled (R330). -/
def crownWork (h : Hub) : Hub :=
  h.when (h.casOn && h.rd CAS.STAT_CROLE == 1 && h.settles.isEmpty) fun h =>
    { h with freeIx := h.freeIx + 1 }.carryOut (Config.wish h.freeIx)

/-! ### Counts and grants -/

/-- GRANT sent on port `p` for the block it holds (R316). -/
def grantSend (p : Nat) (h : Hub) : Hub :=
  match Tab.find p h.granted with
  | some b => h.lmcSend p 0x13 0 (natLe 2 b.1 ++ natLe 2 b.2 ++ natLe 1 (h.rd CAS.NODEID_TIER + 1) ++ natLe 1 0 ++
      natLe 2 (h.rd CAS.EPOCH_EPOCH))
  | none => h

/-- One routing table entry written (R184). -/
def setRoute (h : Hub) (d port : Nat) (down valid : Bool) (tier gen : Nat) : Hub :=
  (h.setTword (0x440000 + 8 * d) (port % 8 + bnat down * 8 + bnat valid * 16 + tier % 16 * 256)).setTword
    (0x440000 + 8 * d + 4) (gen % 2 ^ 16)

/-- The routes of a child's block (R324): the child's tier for its own ID, 15 for the rest. -/
def blockRoutes (h : Hub) (port first size tier gen : Nat) : Hub :=
  h.each (List.range size) fun k h => h.setRoute (first + k) port true true (if k = 0 then tier else 15) gen

/-- The next routing generation (R186). -/
def nextGen (h : Hub) : Nat := (h.rd RTE.GEN_CUR + 1) % 2 ^ 16

/-- The valid entries of the present generation carried into generation `gen`, unchanged (R327). -/
def carryRoutes (h : Hub) (gen : Nat) : Hub :=
  let cur := h.rd RTE.GEN_CUR
  let ds := (Tab.keys h.tab).filterMap fun k =>
    if 0x440000 / 4 ≤ k ∧ k < 0x460000 / 4 ∧ k % 2 = 0 then some ((k - 0x440000 / 4) / 2) else none
  h.each (ds.filter fun d => bits (h.tword (0x440000 + 8 * d + 4)) 0 16 == cur) fun d h =>
    h.setTword (0x440000 + 8 * d + 4) gen

/-- A new routing generation that holds every route of the present one and the change `f`, switched in at once
(R186, R327). -/
def reroute (h : Hub) (f : Nat → Hub → Hub) : Hub :=
  let g := h.nextGen
  (f g (h.carryRoutes g)).wr RTE.GEN_CUR g

/-- NODE_READY sent to the crown and to the standby crown (R326). -/
def nodeReadySend (h : Hub) : Hub :=
  let up := (h.upPorts.map fun p => 2 ^ p).sum
  let partner (rel : Nat) : Nat := match h.relPort rel with
    | some p => h.rd CAS.NBR_NODE 0 p
    | none => 0xFFFF
  h.toCrowns 0x41 (natLe 8 h.deviceId ++ natLe 1 (h.rd CAS.NODEID_TIER) ++ natLe 1 (h.rd CAS.CFG_PRIO) ++
    natLe 1 (h.rd TOP.NODECFG_ROLE) ++ natLe 1 up ++ natLe 2 (partner 1) ++ natLe 2 (partner 2) ++
    natLe 2 (h.rd CAS.BLOCK_FIRST) ++ natLe 2 (h.rd CAS.BLOCK_SIZE))

/-- What a node granted the block [first, first + size) does, in order (R324). -/
def takeBlock (h : Hub) (first size : Nat) : Hub :=
  let spare := h.rd CAS.CFG_SPARE
  let h1 := (h.setNodeId first 1 (h.rd CAS.NODEID_TIER)).wr CAS.BLOCK_FIRST first |>.wr CAS.BLOCK_SIZE size
    |>.wr CAS.POOL_FREE spare |>.wr CAS.hPoolNext (first + size - spare) |>.wr CAS.STAT_DSTATE 4
  let h2 := h1.when (h1.rd CAS.STAT_CROLE == 1) fun h =>
    h.setCrown first 1 (h.rd CAS.CROWN_STANDBY) (h.rd CAS.CROWN_S_VALID)
  let blocks := (h2.children.foldl (fun (acc : Nat × List (Nat × Nat × Nat)) p =>
    let n := h2.rd CAS.NBRCNT_COUNT 0 p
    (acc.1 + n, acc.2 ++ [(p, acc.1, n)])) (first + 1, [])).2
  let h3 := { h2 with granted := blocks, tab := Tab.wipe (0x440000 / 4) (0x460000 / 4) h2.tab }
  let g := h3.nextGen
  let h4 := (h3.each blocks fun b h => h.blockRoutes b.1 b.2.1 b.2.2 (h.rd CAS.NODEID_TIER + 1) g).wr RTE.GEN_CUR g
  let h5 := (h4.writeUplink.refreshTier).each blocks fun b h =>
    h.wr CAS.hGrantDev (Tab.get ({} : Nbr) b.1 h.nbrs).device 0 b.1
  ((h5.each (blocks.map (·.1)) grantSend).each h5.upPorts nbrSend).nodeReadySend

/-- The crown's check of its own COUNT and its own grant (R323); after TOO_MANY it waits for REDISCOVER. -/
def crownGrant (h : Hub) : Hub :=
  let base := h.rd CAS.DISC_BASE
  if h.rd CAS.STAT_DSTATE = 4 ∨ h.countsIn = false ∨ h.on CAS.hTooMany = true then h
  else if base + h.countSum ≤ 16384 then h.takeBlock base h.countSum
  else (h.wr CAS.hTooMany 1).raise 0x68 0

/-- A child that appears after the grant (R325): a block from the pool, or LINK_EVENT NO_ID. The child that holds the port's block
already gets the same GRANT again where the block is large enough. -/
def lateChild (h : Hub) (p n : Nat) : Hub :=
  let dev := (Tab.get ({} : Nbr) p h.nbrs).device
  let (_, had) := Tab.get (0, 0) p h.granted
  if 0 < n ∧ n ≤ had ∧ h.rd CAS.hGrantDev 0 p = dev % 2 ^ 64 then h.grantSend p
  else if n ≤ h.rd CAS.POOL_FREE then
    let first := h.rd CAS.hPoolNext
    let h1 := { h with granted := Tab.ins p (first, n) h.granted }.wr CAS.hPoolNext (first + n)
      |>.wr CAS.POOL_FREE (h.rd CAS.POOL_FREE - n) |>.wr CAS.hGrantDev dev 0 p
    (h1.reroute fun g h => h.blockRoutes p first n (h.rd CAS.NODEID_TIER + 1) g).grantSend p
  else
    (h.raise 0x68 2).linkEvent 5 p (h.rd CAS.NBR_NODE 0 p) 0 dev n

/-- A COUNT received (R323, R325). -/
def countIn (h : Hub) (p n : Nat) : Hub :=
  let h1 := h.wr CAS.NBRCNT_COUNT n 0 p |>.wr CAS.NBRCNT_VALID 1 0 p
  if h.rd CAS.STAT_DSTATE = 4 then h1.lateChild p n
  else if h.rd CAS.STAT_CROLE = 1 then h1.crownGrant
  else h1.recount h.countSum

/-! ### Crown and standby -/

/-- The standby takes over as crown (R330). -/
def takeover (h : Hub) : Hub :=
  let h1 := h.nbrChange fun h =>
    let e := (h.rd CAS.EPOCH_EPOCH + 1) % 2 ^ 16
    let h1 := (h.wr CAS.EPOCH_EPOCH e |>.wr CAS.hMaxEpoch (max e (h.rd CAS.hMaxEpoch)) |>.wr CAS.STAT_CROLE 1
      |>.wr CAS.hYield 0).cnt CAS.CNT_TAKEOVER_COUNT
    ((h1.setCrown (h.rd CAS.NODEID_ID) 1 0 0).setNodeId (h.rd CAS.NODEID_ID) (h.rd CAS.NODEID_VALID) 0).refreshTier
  (h1.settleAll (h1.intents.map settleOf)).afterSettling

/-- The answer to a cascade message (R326, R327). -/
def casAck (h : Hub) (src tok status typ : Nat) : Hub :=
  h.ctlSend { typ := 0x4F, resp := true, dst := src, tok := tok,
              body := natLe 1 status ++ natLe 1 typ ++ natLe 2 (h.rd CAS.EPOCH_EPOCH) }

/-- Whether a message comes from the crown recorded in CAS (R327). -/
def fromCrown (h : Hub) (src : Nat) : Bool := h.on CAS.CROWN_VALID && h.rd CAS.CROWN_NODE == src

/-- The nodes from `n` up to the crown, by the PARENTs they reported; `fuel` bounds the tiers. -/
def pathUp (h : Hub) (n : Nat) : Nat → List Nat
  | 0 => [n]
  | k + 1 =>
    match Tab.find n h.ready with
    | some i => if n = h.rd CAS.NODEID_ID ∨ i.parent = 0xFFFF ∨ i.parent = n then [n] else n :: h.pathUp i.parent k
    | none => [n]

/-- A ROUTE_SET step for one node (R326). The port is the one that a LINK_EVENT named for that node, and at the crown the one whose
NEIGHBOUR names the next node; of any other node nothing the spec carries to the crown tells it, and it stays open. -/
def routeStep (h : Hub) (known : List (Nat × Nat)) (node first size : Nat) (valid : Bool) (next : Nat) : ChgStep × Hub :=
  let own := if node = h.rd CAS.NODEID_ID then (List.range 8).find? fun p => h.on CAS.NBR_NODE_VALID 0 p && h.rd CAS.NBR_NODE 0 p == next
    else none
  let (v, h1) := h.free
  let p := ((known.find? (·.1 == node)).map (·.2)).or own |>.getD v
  (⟨0x44, [(node, natLe 2 first ++ natLe 2 size ++ natLe 1 (p % 8 + 8 + bnat valid * 16) ++ natLe 1 15)]⟩, h1)

/-- ROUTE_SET steps for a list of nodes, in order, from the one nearest to `below` up. -/
def routeSteps (h : Hub) (known : List (Nat × Nat)) (first size : Nat) (valid : Bool) (below : Nat) : List Nat → List ChgStep × Hub
  | [] => ([], h)
  | n :: l =>
    let (s, h1) := h.routeStep known n first size valid below
    let (ss, h2) := h1.routeSteps known first size valid n l
    (s :: ss, h2)

/-- The crown's repair after a link event (R325, R335 steps 1 and 2), and the loss of the standby's uplinks, one after the other, until none is left (R337). The changes that move tunnels to
other paths are among those that the crown decides (Hub.crownWork). -/
def repairEvent (h : Hub) (src event port partner count : Nat) : Hub :=
  if event = 5 then
    let first := h.rd CAS.hPoolNext
    let free := h.rd CAS.POOL_FREE
    if count ≤ free then
      let h1 := h.wr CAS.hPoolNext (first + count) |>.wr CAS.POOL_FREE (free - count)
      let (ss, h2) := h1.routeSteps [(src, port)] first count true src (h1.pathUp src 8)
      h2.openChange { steps := ss ++ [⟨0x45, [(src, natLe 2 first ++ natLe 2 count ++ natLe 1 port)]⟩] }
    else h
  else if event = 3 then
    match Tab.find src h.ready with
    | none => h
    | some i =>
      let old := (h.pathUp src 8).drop 1
      let h1 := { h with ready := Tab.ins src { i with parent := partner, sparent := 0xFFFF } h.ready }
      let new := (h1.pathUp src 8).drop 1
      let meet := (new.find? old.contains).getD (h.rd CAS.NODEID_ID)
      let (a, h2) := h1.routeSteps [] i.first i.size true src (new.takeWhile (· != meet) ++ [meet])
      let (b, h3) := h2.routeSteps [] i.first i.size false src (old.takeWhile (· != meet))
      h3.openChange { steps := a ++ b }
  else if event = 4 then h.cnt CAS.CNT_EVENT_COUNT
  else if event = 1 ∧ h.on CAS.CROWN_S_VALID = true ∧ partner = h.rd CAS.CROWN_STANDBY then
    match Tab.find partner h.ready with
    | some i =>
      let left := [i.parent, i.sparent].filter fun n => n != src && n != 0xFFFF
      let h1 := { h with ready := Tab.ins partner { i with parent := left.headD 0xFFFF, sparent := (left.drop 1).headD 0xFFFF } h.ready }
      if left.isEmpty then h1.nbrChange Hub.standbyLost else h1
    | none => h
  else h

/-- What the standby learns of a tunnel as its change is DONE, against a takeover (R178, R329, R330): it stands with its new amount, or
is gone where a change to 0 ct ends one that stood. -/
def learnDone (h : Hub) (i : Option Intent) : Hub :=
  match i with
  | none => h
  | some i =>
    let gone := i.after == 0 && (i.before != 0 || (h.standing i.tid).isSome)
    { h with paths := Tab.ins i.tid (if gone then { gone := h.goneAt } else { hops := i.hops, ct := i.after }) h.paths }

end Hub

/-- NEIGHBOUR_SEND (R317): NEIGHBOUR on every UP port, and the COUNT and the GRANTs that wait for an answer again. -/
def execNeighbourSend (s : State) : Host.Outcome State Fault Refusal :=
  s.act fun h => h.when h.casOn fun h =>
    let h1 := h.refreshBest.each h.upPorts Hub.nbrSend
    let h2 := h1.when (h1.rd CAS.STAT_DSTATE == 3) Hub.countUp
    h2.each (h2.children.filter fun p => !(Tab.get ({} : Nbr) p h2.nbrs).nodeValid) Hub.grantSend

/-- NEIGHBOUR (R318): one received on port `p`. -/
def execNeighbour (p : Fin 8) (payload : Bytes) (s : State) : Host.Outcome State Fault Refusal :=
  s.act fun h => h.when (h.casOn && h.portUp p) fun h => (h.nbrChange fun h => h.neighbourIn p payload).recount h.countSum

/-- CROWN_DECLARE (R319): a candidate whose BEST has been itself for SETTLE_MS. -/
def execCrownDeclare (s : State) : Host.Outcome State Fault Refusal :=
  s.act fun h0 =>
    let h := h0.when h0.casOn fun h => h.nbrChange Hub.refreshBest
    h.when (h.casOn && h.isCandidate && h.rd CAS.STAT_CROLE != 1 && h.rd CAS.EPOCH_EPOCH == 0 &&
        h.bestDev == h.deviceId) fun h => h.nbrChange fun h =>
      let e := max 1 (h.rd CAS.hMaxEpoch + 1)
      let d := max 1 (h.rd CAS.hMaxDgen + 1)
      (h.wr CAS.EPOCH_EPOCH e |>.wr CAS.EPOCH_DGEN d |>.wr CAS.hMaxEpoch e |>.wr CAS.hMaxDgen d
        |>.wr CAS.STAT_CROLE 1 |>.wr CAS.STAT_DSTATE 2).crownPlace

/-- COUNT_SEND (R323): PARENT has settled and every child COUNT is in. -/
def execCountSend (s : State) : Host.Outcome State Fault Refusal :=
  s.act fun h => h.when (h.casOn && h.on CAS.EPOCH_EPOCH && h.countsIn) fun h =>
    if h.rd CAS.STAT_CROLE = 1 then h.crownGrant
    else
      match h.relPort 1 with
      | some _ => (h.when (h.rd CAS.STAT_DSTATE != 4) fun h => h.wr CAS.STAT_DSTATE 3).countUp
      | none => h

/-- COUNT (R323): one received on port `p`. -/
def execCount (p : Fin 8) (n epoch : Nat) (s : State) : Host.Outcome State Fault Refusal :=
  s.act fun h => h.when (h.casOn && h.portUp p && epoch == h.rd CAS.EPOCH_EPOCH && h.on CAS.EPOCH_EPOCH) fun h =>
    h.countIn p n

/-- GRANT (R324): one received on the PARENT port under the current EPOCH. -/
def execGrant (p : Fin 8) (first size tier epoch : Nat) (s : State) : Host.Outcome State Fault Refusal :=
  s.act fun h => h.when (h.casOn && h.relPort 1 == some p.val && epoch == h.rd CAS.EPOCH_EPOCH &&
      !h.on CAS.NODEID_VALID) fun h =>
    (h.wr CAS.NODEID_TIER tier).takeBlock (first % 2 ^ 14) (size % 2 ^ 15)

/-- CROWN_HB_SEND (R328, R330): the crown's heartbeat to the standby, with YIELD once that is asked for. -/
def execCrownHbSend (s : State) : Host.Outcome State Fault Refusal :=
  s.act fun h => h.when (h.casOn && h.rd CAS.STAT_CROLE == 1 && h.on CAS.CROWN_S_VALID) fun h =>
    let openN := h.openIntents
    let h1 := h.ctlAsk 0x40 (h.rd CAS.CROWN_STANDBY) (natLe 2 (h.rd CAS.EPOCH_EPOCH) ++ natLe 1 (h.rd CAS.hYield) ++
      natLe 1 0 ++ natLe 2 openN ++ natLe 2 0 ++ natLe 8 h.now)
    h1.wr CAS.hYield 0 |>.wr CAS.HBSTAT_AGE_MS 0 |>.wr CAS.HBSTAT_OPEN openN

/-- CROWN_HB (R330): one received at the standby; YIELD starts a takeover. -/
def execCrownHb (src _tok epoch : Nat) (yields : Bool) (openIntents _timeNs : Nat) (s : State) :
    Host.Outcome State Fault Refusal :=
  s.act fun h => h.when (h.casOn && h.rd CAS.STAT_CROLE == 2 && h.fromCrown src &&
      epoch == h.rd CAS.EPOCH_EPOCH) fun h =>
    let h1 := h.wr CAS.HBSTAT_AGE_MS 0 |>.wr CAS.HBSTAT_OPEN openIntents
    if yields then h1.takeover else h1

/-- HB_TIMEOUT (R330): no heartbeat for MISS periods at the standby. -/
def execHbTimeout (s : State) : Host.Outcome State Fault Refusal :=
  s.act fun h => h.when (h.casOn && h.rd CAS.STAT_CROLE == 2) fun h => (h.takeover).raise 0x68 4

/-- NODE_READY (R328) at the crown or the standby. The crown appoints a standby once every node that it granted itself
is ready. -/
def execNodeReady (src _tok : Nat) (info : NodeInfo) (s : State) : Host.Outcome State Fault Refusal :=
  s.act fun h => h.when (h.casOn && h.on CAS.STAT_CROLE) fun h =>
    let h1 := { h with ready := Tab.ins src info h.ready }.irq 0x68 3
    h1.when (h1.rd CAS.STAT_CROLE == 1 && !h1.on CAS.CROWN_S_VALID && !h1.appointing && h1.settles.isEmpty &&
      h1.granted.all fun p => (Tab.find p.2.1 h1.ready).isSome) Hub.appoint

/-- LINK_EVENT (R325, R335) at the crown or the standby. -/
def execLinkEvent (src _tok event port partner _tid _partnerId cnt : Nat) (s : State) :
    Host.Outcome State Fault Refusal :=
  s.act fun h => h.when (h.casOn && h.on CAS.STAT_CROLE) fun h =>
    (h.irq 0x68 3).when (h.rd CAS.STAT_CROLE == 1) fun h => h.repairEvent src event port partner cnt

/-- STANDBY (R327, R328). -/
def execStandby (src tok : Nat) (appoint : Bool) (epoch : Nat) (s : State) : Host.Outcome State Fault Refusal :=
  s.act fun h => h.when h.casOn fun h =>
    if !h.fromCrown src then h.casAck src tok 1 0x43
    else if epoch < h.rd CAS.EPOCH_EPOCH then h.casAck src tok 3 0x43
    else
      let h1 := h.nbrChange fun h => h.wr CAS.STAT_CROLE (if appoint then 2 else 0)
      ((if appoint then h1 else { h1 with paths := [], intents := [] }).wr CAS.HBSTAT_AGE_MS 0).casAck src tok 0 0x43

/-- ROUTE_SET (R327). -/
def execRouteSet (src tok first cnt port : Nat) (down valid : Bool) (tier : Nat) (s : State) :
    Host.Outcome State Fault Refusal :=
  s.act fun h => h.when h.casOn fun h =>
    if !h.fromCrown src then h.casAck src tok 1 0x44
    else if cnt = 0 ∨ 16384 < cnt ∨ 16384 < first + cnt ∨ 8 ≤ port then h.casAck src tok 2 0x44
    else
      (h.reroute fun g h => h.each (List.range cnt) fun k h => h.setRoute (first + k) port down valid tier g).casAck src
        tok 0 0x44

/-- ID_BLOCK (R325, R327): the parent grants the crown's block to the child on `port`. -/
def execIdBlock (src tok first size port : Nat) (s : State) : Host.Outcome State Fault Refusal :=
  s.act fun h => h.when h.casOn fun h =>
    if !h.fromCrown src then h.casAck src tok 1 0x45
    else if 8 ≤ port ∨ size = 0 ∨ 16384 < first + size then h.casAck src tok 2 0x45
    else
      let h1 := { h with granted := Tab.ins port (first, size) h.granted }.wr CAS.hGrantDev
        (Tab.get ({} : Nbr) port h.nbrs).device 0 port
      ((h1.reroute fun g h => h.blockRoutes port first size (h.rd CAS.NODEID_TIER + 1) g).grantSend port).casAck src tok 0
        0x45

/-- LEDGER (R327, R329): an intent recorded or closed. -/
def execLedger (src tok op tid txn before after : Nat) (hops : List Nat) (s : State) :
    Host.Outcome State Fault Refusal :=
  s.act fun h => h.when h.casOn fun h =>
    let settling := h.rd CAS.STAT_CROLE == 1
    let atCrown := h.rd CAS.STAT_CROLE == 1 && h.on CAS.PCROWN_VALID && h.rd CAS.PCROWN_NODE == src && op == 1
    if !h.fromCrown src && !atCrown then h.casAck src tok 1 0x46
    else if op = 1 then
      let it : Intent := ⟨src, tid, txn, before, after, hops⟩
      let l := h.intents.filter (fun i => !(i.tid == tid && i.txn == txn)) ++ [it]
      (({ h with intents := l }.wr CAS.HBSTAT_OPEN l.length).casAck src tok 0 0x46).when settling fun h => h.settleAll [Hub.settleOf it]
    else if op = 2 then
      let l := h.intents.filter fun i => !(i.tid == tid && i.txn == txn)
      ({ h.learnDone (h.intents.find? fun i => i.tid == tid && i.txn == txn) with intents := l }.wr CAS.HBSTAT_OPEN l.length).casAck src tok 0 0x46
    else h.casAck src tok 2 0x46

/-- CAS_ACK (R329): the request that the TOKEN names is answered; a standby that accepted is announced (R328). -/
def execCasAck (src tok status typ _epoch : Nat) (s : State) : Host.Outcome State Fault Refusal :=
  s.act fun h => h.when h.casOn fun h =>
    let named := match Tab.find tok h.asks with
      | some a => a.msg.dst == src && a.msg.typ == typ && typ == 0x43
      | none => false
    let h1 := h.takeAnswer src tok status typ
    h1.when (named && status == 0 && h1.rd CAS.STAT_CROLE == 1) fun h =>
      h.nbrChange fun h => h.setCrown (h.rd CAS.CROWN_NODE) 1 src 1

/-- REDISCOVER (R319, R339): at the crown, a new DGEN; ignored elsewhere. -/
def Hub.rediscover (h : Hub) : Hub :=
  h.when (h.rd CAS.STAT_CROLE == 1) fun h => h.nbrChange fun h =>
    let d := max (h.rd CAS.EPOCH_DGEN) (h.rd CAS.hMaxDgen) + 1
    (h.wr CAS.EPOCH_DGEN d |>.wr CAS.hMaxDgen d).clearDiscovery.crownPlace

/-- REDISCOVER (R319): a 1 written to CAS.CTL.REDISCOVER. -/
def execRediscover (r : Req) (s : State) : Host.Outcome State Fault Refusal :=
  s.act fun h => h.asGo r CAS.CTL_REDISCOVER 0 Hub.rediscover

/-- YIELD (R330): a 1 written to CAS.CTL.YIELD at the crown. -/
def execYield (r : Req) (s : State) : Host.Outcome State Fault Refusal :=
  s.act fun h => h.asGo r CAS.CTL_YIELD 0 fun h => h.when (h.rd CAS.STAT_CROLE == 1) fun h => h.wr CAS.hYield 1

end Sys2Proof.Machine
end

