-- ==== Sys2Proof/Machine/TypeC.lean ====
section
/-! DEFINITION. The Type-C ports: attachment, Power Delivery, Fast Role Swap and DisplayPort Alt Mode (R533 to R537, R540,
R541). -/

namespace Sys2Proof.Machine

namespace Hub

/-- A Power Delivery message sent. -/
def pdSend (h : Hub) (k : Nat) (m : PdOut) : Hub := { h with pdOut := Tab.put [] k (Tab.get [] k h.pdOut ++ [m]) h.pdOut }

/-- VBUS voltage and current as measured: values that the spec leaves open. -/
def pdMeasure (h : Hub) (k : Nat) : Hub := (h.wrFree TCP.VBUS_MV k).wrFree TCP.IBUS_MA k

/-- The PDOs that port `k` offers (R534, R535); none while VBUS stays off. -/
def pdOffer (h : Hub) (k : Nat) : List (Nat × Nat) :=
  if h.on TCP.hVen k then ((List.range 4).filter fun i => h.bit TCP.PDO_EN i k).map fun i => (i + 1, h.pdoCur k i) else []

/-- The contract of port `k` ends. -/
def pdDrop (h : Hub) (k : Nat) : Hub :=
  h.wr TCP.STAT_CONTRACT 0 k |>.wr TCP.RDO_PDO 0 k |>.wr TCP.RDO_CUR 0 k

/-- A contract in force: PDO number and current in 10 mA (R540, R541). -/
def pdContract (h : Hub) (k pdo cur : Nat) : Hub :=
  (((h.wr TCP.STAT_CONTRACT 1 k |>.wr TCP.RDO_PDO pdo k |>.wr TCP.RDO_CUR cur k).irq (0xB8 + k) 1).pdMeasure k)

/-- DisplayPort Alt Mode left: a captured link is lost (R354). -/
def altExit (h : Hub) (k : Fin 2) : Hub :=
  let was := h.on TCP.STAT_ALTMODE k
  (h.wr TCP.STAT_ALTMODE 0 k |>.wr TCP.STAT_PIN_D 0 k |>.wr TCP.hMode 0 k).when (was && h.up (0x75 + k)) fun h =>
    (h.wr DCP.LINK_PIN_D 0 k).when (h.on DCP.LINK_TRAINED k) fun h => h.captureCause k 0 0 0 0

/-- The hub and the node bus take up what changed at port `k` (R474, R476, R535). -/
def pdFollow (h : Hub) (detach : Bool) : Hub := h.refreshBus.refreshUp detach

/-- Attachment of a partner (R533, R595); a sink role needs DRP. -/
def pdAttach (h : Hub) (k : Fin 2) (cc2 sink ufp emark5A frsReady : Bool) : Hub :=
  let was := h.on TCP.STAT_ATTACHED k
  let h1 := (h.wr TCP.STAT_ATTACHED 1 k |>.wr TCP.STAT_POLARITY (bnat cc2) k |>.wr TCP.STAT_PROLE (bnat sink) k
    |>.wr TCP.STAT_DROLE (bnat ufp) k |>.wr TCP.STAT_VCONN_ON (bnat (!sink && h.on TCP.CFG_VCONN_EN k)) k
    |>.wr TCP.STAT_EMARK_5A (bnat emark5A) k |>.wr TCP.STAT_FRS_READY (bnat frsReady) k |>.wr TCP.hCut 0 k).pdDrop k
  let h2 := ((h1.altExit k).pdMeasure k).pdFollow false
  let h3 := h2.when (h2.on TCP.hVen k) fun h => h.pdSend k (.sourceCaps (h.pdOffer k))
  if was then h3 else (h3.irq (0xB8 + k) 0).wake 2 k

/-- The partner leaves, or the port goes unattached (R540). -/
def pdDetach (h : Hub) (k : Fin 2) : Hub :=
  if !h.on TCP.STAT_ATTACHED k then h
  else
    let h1 := (h.wr TCP.STAT_ATTACHED 0 k |>.wr TCP.STAT_POLARITY 0 k |>.wr TCP.STAT_PROLE 0 k |>.wr TCP.STAT_DROLE 0 k
      |>.wr TCP.STAT_VCONN_ON 0 k |>.wr TCP.STAT_EMARK_5A 0 k |>.wr TCP.STAT_FRS_READY 0 k |>.wr TCP.hCut 0 k).pdDrop k
    (((h1.altExit k).pdMeasure k).pdFollow true).irq (0xB8 + k) 0

/-- What a write of TCP.CFG changes (R533, R540): a role that the port may not take any more leaves it unattached, and VCONN goes off
with its enable. -/
def pdConfig (h : Hub) (k : Fin 2) : Hub :=
  let role := h.rd TCP.CFG_PROLE k
  ((h.when (!h.on TCP.CFG_VCONN_EN k) fun h => h.wr TCP.STAT_VCONN_ON 0 k).when
    (role == 0 || h.rd TCP.STAT_PROLE k == 1 && role != 2) fun h => h.pdDetach k).refreshBus

/-- A PD hard reset sent or received (R534, R540): the contract and the modes end, the data role follows the power
role. -/
def pdReset (h : Hub) (k : Fin 2) : Hub :=
  let h1 := ((h.cnt TCP.CNT_A_HRESET k).irq (0xB8 + k) 4).pdDrop k
  let h2 := (h1.wr TCP.STAT_DROLE (h1.rd TCP.STAT_PROLE k) k).altExit k
  let h3 := (h2.pdMeasure k).pdFollow false
  h3.when (h3.on TCP.hVen k) fun h => h.pdSend k (.sourceCaps (h.pdOffer k))

/-- A Request (R534, R535): `pdo` is 1 for 5 V to 4 for 20 V, as RDO.PDO counts. -/
def pdRequest (h : Hub) (k pdo ma : Nat) : Hub :=
  if h.on TCP.hVen k && decide (1 ≤ pdo ∧ pdo ≤ 4) && h.bit TCP.PDO_EN (pdo - 1) k && decide (ma ≤ 10 * h.pdoCur k (pdo - 1))
  then (h.pdSend k .accept).pdContract k pdo (ceilDiv ma 10)
  else h.pdSend k .reject

/-- A Power Delivery message of the partner (R534, R535, R537). -/
def pdMessage (h : Hub) (k : Fin 2) (m : PdMsg) : Hub :=
  let source := h.rd TCP.STAT_PROLE k == 0
  match m with
  | .request pdo ma => if source then h.pdRequest k pdo ma else h.pdSend k .notSupported
  | .drSwap =>
    if h.on TCP.hMode k then (h.pdSend k .hardReset).pdReset k
    else if h.rd TCP.STAT_DROLE k = 1 then ((h.pdSend k .accept).wr TCP.STAT_DROLE 0 k).pdFollow false
    else if h.on TCP.CFG_DR_ACCEPT k then ((h.pdSend k .accept).wr TCP.STAT_DROLE 1 k).pdFollow false
    else h.pdSend k .reject
  | .prSwap =>
    if source || h.bootFed then h.pdSend k .reject
    else
      let h1 := ((((h.pdSend k .accept).wr TCP.STAT_PROLE 0 k).pdDrop k).pdMeasure k).pdFollow false
      h1.when (h1.on TCP.hVen k) fun h => h.pdSend k (.sourceCaps (h.pdOffer k))
  | .vconnSwap =>
    if h.on TCP.STAT_VCONN_ON k then (h.pdSend k .accept).wr TCP.STAT_VCONN_ON 0 k
    else if h.on TCP.CFG_VCONN_EN k then (h.pdSend k .accept).wr TCP.STAT_VCONN_ON 1 k
    else h.pdSend k .reject
  | .sourceCaps => if source then h.pdSend k .notSupported else (h.pdSend k (.request 100)).pdContract k 1 10
  | .getSourceCap => h.pdSend k (if source then .sourceCaps (h.pdOffer k) else .notSupported)
  | .softReset => (h.pdSend k .accept).when (source && h.on TCP.hVen k) fun h => h.pdSend k (.sourceCaps (h.pdOffer k))
  | .hardReset => h.pdReset k
  | .vdmDiscover =>
    h.pdSend k (if h.on TCP.CFG_ALTMODE_EN k then .modes 0xFF01 true true else .vdmNak)
  | .enterMode =>
    if h.on TCP.CFG_ALTMODE_EN k then (h.pdSend k .vdmAck).wr TCP.hMode 1 k else h.pdSend k .vdmNak
  | .exitMode => if h.on TCP.hMode k then (h.pdSend k .vdmAck).altExit k else h.pdSend k .vdmNak
  | .emarker fiveAmp => h.wr TCP.STAT_EMARK_5A (bnat fiveAmp) k
  | .unsupported => h.pdSend k .notSupported

/-- DP Configure for pin assignment C or D (R537). -/
def dpConfigure (h : Hub) (k : Fin 2) (pinD : Bool) : Hub :=
  (((h.pdSend k .vdmAck).wr TCP.STAT_ALTMODE 1 k |>.wr TCP.STAT_PIN_D (bnat pinD) k).irq (0xB8 + k) 2).when
    (h.up (0x75 + k)) fun h => h.wr DCP.LINK_PIN_D (bnat pinD) k

/-- A bus fall or SOLITAIRE at a sourcing port (R536): Fast Role Swap where the partner allows it, else VBUS is
removed. -/
def fastRoleSwap (h : Hub) (k : Fin 2) : Hub :=
  let h1 := h.pdDrop k
  let h2 :=
    if h1.on TCP.CFG_FRS_EN k && h1.on TCP.STAT_FRS_READY k then
      (((h1.pdSend k .fastRoleSwap).cnt TCP.CNT_A_FRS k).irq (0xB8 + k) 3).wr TCP.STAT_PROLE 1 k
    else h1.wr TCP.hCut 1 k
  (h2.pdMeasure k).refreshBus

/-- A fault of R541. -/
def vbusFault (h : Hub) (k : Nat) (f : VbusFault) : Hub :=
  h.raise (0xB8 + k) (match f with
    | .overVoltage => 0 | .overCurrent => 1 | .vconnOverCurrent => 2 | .ccOverVoltage => 3 | .converter => 4)

/-- DCP.CTL.HPD written (R381, R537): a change is sent while Alt Mode is entered. -/
def hpdWrite (h : Hub) (k : Nat) (hpd : Bool) : Hub :=
  let was := h.on DCP.CTL_HPD k
  (h.wr DCP.CTL_HPD (bnat hpd) k).when (was != hpd && h.on TCP.STAT_ALTMODE k) fun h => h.pdSend k (.dpStatus hpd)

end Hub

/-! ### Commands -/

/-- TYPEC_ATTACH (R533, R595). -/
def execTypecAttach (k : Fin 2) (attached cc2 sink ufp emark5A frsReady : Bool) (s : State) :
    Host.Outcome State Fault Refusal :=
  s.act fun h => h.when (h.up (0xB8 + k)) fun h =>
    if attached then
      h.when (h.on TCP.CFG_PROLE k && decide (h.rd TCP.hAway k ≤ h.cyc) && (!sink || h.rd TCP.CFG_PROLE k == 2)) fun h => h.pdAttach k cc2 sink ufp emark5A frsReady
    else h.pdDetach k

/-- FAST_ROLE_SWAP (R536). -/
def execFastRoleSwap (k : Fin 2) (s : State) : Host.Outcome State Fault Refusal :=
  s.act fun h => h.when (h.up (0xB8 + k) && h.on TCP.STAT_ATTACHED k && h.rd TCP.STAT_PROLE k == 0 && !h.on TCP.hCut k &&
      (h.rd PDM.STATE_CURRENT == 2 || decide (h.rd BUS.VBUS_MV < h.rd CLP.FS_SF_DV * 100))) fun h => h.fastRoleSwap k

/-- DP_CONFIGURE (R537): refused outside the mode, as the structured VDMs of the standard are. -/
def execDpConfigure (k : Fin 2) (pinD : Bool) (s : State) : Host.Outcome State Fault Refusal :=
  s.act fun h => h.when (h.up (0xB8 + k) && h.on TCP.STAT_ATTACHED k) fun h =>
    if h.on TCP.hMode k && h.on TCP.CFG_ALTMODE_EN k then h.dpConfigure k pinD else h.pdSend k .vdmNak

/-- PD_HARDRESET (R540). -/
def execPdHardreset (r : Req) (k : Fin 2) (s : State) : Host.Outcome State Fault Refusal :=
  s.act fun h => h.asReg r TCP.CTL_HARDRESET k fun h =>
    h.when (h.up (0xB8 + k) && h.on TCP.STAT_ATTACHED k) fun h => (h.pdSend k .hardReset).pdReset k

/-- TYPEC_DETACH (R540): the port goes unattached, and stays so for 1 s. -/
def execTypecDetach (r : Req) (k : Fin 2) (s : State) : Host.Outcome State Fault Refusal :=
  s.act fun h => h.asReg r TCP.CTL_DETACH k fun h => h.when (h.up (0xB8 + k)) fun h =>
    (h.wr TCP.hAway (h.cyc + 400000000) k).pdDetach k

/-- HPD_CHANGE (R381, R537): a write of DCP.CTL that changes HPD. -/
def execHpdChange (r : Req) (k : Fin 2) (hpd : Bool) (s : State) : Host.Outcome State Fault Refusal :=
  s.act fun h => h.asReg r DCP.CTL_HPD k fun h => h.hpdWrite k hpd

/-- PD_MESSAGE (R534, R535, R537). -/
def execPdMessage (k : Fin 2) (m : PdMsg) (s : State) : Host.Outcome State Fault Refusal :=
  s.act fun h => h.when (h.up (0xB8 + k) && h.on TCP.STAT_ATTACHED k) fun h => h.pdMessage k m

/-- VBUS_FAULT (R541). -/
def execVbusFault (k : Fin 2) (f : VbusFault) (s : State) : Host.Outcome State Fault Refusal :=
  s.act fun h => h.when (h.up (0xB8 + k)) fun h => h.vbusFault k f

end Sys2Proof.Machine
end

