-- ==== Sys2Proof/Machine/Lpo.lean ====
section
/-! DEFINITION. The lume power outputs and the node bus (R542 to R568). -/

namespace Sys2Proof.Machine

namespace Hub

/-! ### The output's state -/

/-- STATE of an output set; every change sets ISTAT.STATE (R566). -/
def setLpo (h : Hub) (n st : Nat) : Hub :=
  (if h.rd LPO.STAT_STATE n = st then h else (h.wr LPO.STAT_STATE st n).irq (0xC0 + n) 0).refreshBus

/-- STAT.PG set; every change sets ISTAT.PG (R566). -/
def setLpoPg (h : Hub) (n : Nat) (pg : Bool) : Hub :=
  if h.on LPO.STAT_PG n = pg then h else (h.wr LPO.STAT_PG (bnat pg) n).irq (0xC0 + n) 1

/-- The gate pulled, and state `st` taken. -/
def lpoOff (h : Hub) (n st : Nat) : Hub :=
  (((h.wr LPO.hLimit 0 n).wr LPO.hRepeat 0 n).setLpoPg n false).setLpo n st

/-- PCTL.EN of an LPO page written (R544, R552): only a change from 0 to 1 starts the output. -/
def lpoEnable (h : Hub) (n : Nat) (en : Bool) : Hub :=
  if !en then (h.wr LPO.hBudget 0 n).lpoOff n 0
  else if h.rd LPO.STAT_STATE n ≠ 0 then h
  else (h.wr LPO.STAT_LATCHED 0 n).setLpo n 1

/-- VOUT and IOUT as sampled: values that the spec leaves open. -/
def lpoMeasure (h : Hub) (n : Nat) : Hub := (h.wrFree LPO.VOUT_MV n).wrFree LPO.IOUT_MA n

/-- A trip (R544, R566): error bit `bit`, counted in `F`, with VOUT and IOUT captured. -/
def lpoTrip (h : Hub) (n bit : Nat) (F : Fld) : Hub :=
  let h1 := h.lpoMeasure n
  (((h1.wr LPO.STAT_LATCHED 1 n).cnt F n).raise (0xC0 + n) bit
    { lo := h1.rd LPO.VOUT_MV n, hi := h1.rd LPO.IOUT_MA n }).lpoOff n 6

/-- Whether the fuse of an output conducts: RAMP or ON. -/
def lpoClosed (h : Hub) (n : Nat) : Bool := h.rd LPO.STAT_STATE n == 4 || h.rd LPO.STAT_STATE n == 5

/-! ### Detection and classification -/

/-- The outcome of a detection (R551, R552, R554). -/
def lpoDetect (h : Hub) (n r100 : Nat) (valid : Bool) : Hub :=
  let h1 := (h.wr LPO.DET_R_100 (min 1023 r100) n).wr LPO.DET_PASS (bnat valid) n
  if !valid then ((h1.cnt LPO.CNT_DET_FAIL n).raise (0xC0 + n) 4).wr LPO.hRepeat 1 n
  else if h1.on LPO.CFG_MODE n then (h1.wr LPO.CPWR_CW (h1.rd LPO.PLIM_CW n) n).setLpo n 4
  else h1.setLpo n 3

/-- The outcome of a classification (R550 to R552). -/
def lpoClassify (h : Hub) (n : Nat) (cls : Option Nat) : Hub :=
  let h1 := match cls with
    | some c => (h.wr LPO.STAT_CLASS c n).wr LPO.STAT_CLASS_VALID 1 n
    | none => h.wr LPO.STAT_CLASS_VALID 0 n
  match cls with
  | some c =>
    if 13 ≤ c ∧ c ≤ 15 then (h1.wr LPO.CPWR_CW (min (h1.rd LPO.PLIM_CW n) (Config.podlPower c)) n).setLpo n 4
    else ((h1.cnt LPO.CNT_DET_REFUSED n).raise (0xC0 + n) 5).lpoOff n 7
  | none => ((h1.cnt LPO.CNT_DET_REFUSED n).raise (0xC0 + n) 5).lpoOff n 7

/-- An output whose turn has come leaves WAIT, or meets the budget (R558, R562). The flag says that one has left. -/
def lpoLeave (n : Nat) (p : Bool × Hub) : Bool × Hub :=
  let (left, h) := p
  if left || h.rd LPO.STAT_STATE n != 1 || h.on LPO.STAT_WAITCAUSE n || !h.live (0xC0 + n) then p
  else if !h.budgetFits n then
    (false, ((h.wr LPO.hBudget 1 n).raise 0xC8 2 { lo := n }).refreshBus)
  else (true, h.setLpo n 2)

/-- The next output leaves WAIT (R562). -/
def waitExit (h : Hub) : Hub := ((List.range 8).foldl (fun p n => lpoLeave n p) (false, h)).2

/-! ### Limits -/

/-- CPWR follows a PLIM rewritten while it is set (R551). -/
def refreshCpwr (h : Hub) (n : Nat) : Hub :=
  h.when (h.on LPO.CPWR_CW n) fun h =>
    h.wr LPO.CPWR_CW (if h.on LPO.CFG_MODE n then h.rd LPO.PLIM_CW n else min (h.rd LPO.CPWR_CW n) (h.rd LPO.PLIM_CW n)) n

/-- The update of R555 and the energy delivered since the last (R556). -/
def overloadCheck (h : Hub) (n pavg vaavg joules : Nat) : Hub :=
  let e := (h.rd LPO.ENERGY_HI_J n * 2 ^ 32 + h.rd LPO.ENERGY_LO_J n + joules) % 2 ^ 64
  let h1 := (h.lpoMeasure n).wr LPO.PAVG_CW (min 16383 pavg) n |>.wr LPO.PAVG_VA10 (min 16383 vaavg) n
    |>.wr LPO.ENERGY_LO_J e n |>.wr LPO.ENERGY_HI_J (e / 2 ^ 32) n
  h1.when (h1.lpoClosed n &&
      (decide (min (h1.rd LPO.PLIM_CW n) (h1.rd LPO.CPWR_CW n) < pavg) || decide (h1.rd LPO.PLIM_VA10 n < vaavg))) fun h =>
    h.lpoTrip n 2 LPO.CNT_TRIP_OVERLOAD

/-- E_BOUND of R548 in nJ. -/
def eBound (ma10 faultUs : Nat) : Nat := 57 * ma10 * (11 * faultUs + 22)

/-- A write of ILIM, or of TIMER where `timer` is set (R548, R565). -/
def fuseWrite (h : Hub) (n : Nat) (timer : Bool) (v : Nat) (c : Cap := {}) : Hub :=
  let ma := if timer then h.rd LPO.ILIM_MA10 n else bits v 0 9
  let us := if timer then bits v 0 14 else h.rd LPO.TIMER_FAULT_US n
  if ma < 10 ∨ 250 < ma ∨ h.rd LPO.ELIM_MJ n * 1000000 < eBound ma us then h.raise (0xC0 + n) 6 c
  else if timer then (h.wr LPO.TIMER_FAULT_US us n).wr LPO.TIMER_PG_HOLD_US (bits v 16 14) n
  else h.wr LPO.ILIM_MA10 ma n

/-! ### The node bus -/

/-- VBUS measured (R557, R567). -/
def busMeasure (h : Hub) (mv : Nat) : Hub :=
  let m := min 65535 mv
  ((h.wr BUS.VBUS_MV m).wr BUS.VMIN_MV (if h.on BUS.hSeen then min (h.rd BUS.VMIN_MV) m else m)).wr BUS.hSeen 1
    |>.when (decide (h.rd BUS.CFG_UV_DV * 100 ≤ m)) fun h => h.wr BUS.STAT_UV 0

/-- An output that is past WAIT opens and goes back to WAIT (R552, R557, R559, R560, R565). -/
def lpoShed (p : Nat → Hub → Bool) (n : Nat) (h : Hub) : Hub :=
  h.when (decide (2 ≤ h.rd LPO.STAT_STATE n ∧ h.rd LPO.STAT_STATE n ≤ 5) && p n h) fun h =>
    (h.cnt LPO.CNT_SHED_COUNT n).lpoOff n 1

/-- The outputs that `p` picks open. -/
def shedAll (h : Hub) (p : Nat → Hub → Bool) : Hub := h.each (List.range 8) (lpoShed p)

/-- STAT.EMERG follows BATT and SOLITAIRE, and opens what is no emergency output (R560). -/
def refreshEmerg (h : Hub) : Hub :=
  let e := h.on BUS.STAT_BATT || h.rd PDM.STATE_CURRENT == 2
  let h1 := if h.on BUS.STAT_EMERG = e then h else (h.wr BUS.STAT_EMERG (bnat e)).irq 0xC8 2
  (h1.when e fun h => h.shedAll fun n h => !h.on LPO.CFG_EMERG n).refreshBus

end Hub

/-! ### Commands -/

/-- LPO_DETECT (R552). -/
def execLpoDetect (n : Fin 8) (r100 : Nat) (valid : Bool) (s : State) : Host.Outcome State Fault Refusal :=
  s.act fun h => h.when (h.live (0xC0 + n) && h.rd LPO.STAT_STATE n == 2 && !h.on LPO.hRepeat n) fun h =>
    h.lpoDetect n r100 valid

/-- DETECT_REPEAT (R554). -/
def execDetectRepeat (n : Fin 8) (s : State) : Host.Outcome State Fault Refusal :=
  s.act fun h => h.when (h.live (0xC0 + n) && h.rd LPO.STAT_STATE n == 2) fun h => h.wr LPO.hRepeat 0 n

/-- CLASSIFY (R550, R552). -/
def execClassify (n : Fin 8) (cls : Option Nat) (s : State) : Host.Outcome State Fault Refusal :=
  s.act fun h => h.when (h.live (0xC0 + n) && h.rd LPO.STAT_STATE n == 3) fun h => h.lpoClassify n cls

/-- RAMP_DONE (R545, R546, R552): a fault timer that runs keeps power-good low. -/
def execRampDone (n : Fin 8) (s : State) : Host.Outcome State Fault Refusal :=
  s.act fun h => h.when (h.live (0xC0 + n) && h.rd LPO.STAT_STATE n == 4) fun h =>
    (h.setLpo n 5).setLpoPg n (!h.on LPO.hLimit n)

/-- RAMP_TIMEOUT (R543). -/
def execRampTimeout (n : Fin 8) (s : State) : Host.Outcome State Fault Refusal :=
  s.act fun h => h.when (h.live (0xC0 + n) && h.rd LPO.STAT_STATE n == 4) fun h => h.lpoTrip n 3 LPO.CNT_TRIP_RAMP

/-- CURRENT_LIMIT (R543, R545, R546). -/
def execCurrentLimit (n : Fin 8) (limiting : Bool) (s : State) : Host.Outcome State Fault Refusal :=
  s.act fun h => h.when (h.live (0xC0 + n) && h.lpoClosed n) fun h =>
    (h.wr LPO.hLimit (bnat limiting) n).when (!limiting && h.rd LPO.STAT_STATE n == 5) fun h => h.setLpoPg n true

/-- FAULT_TIMER_EXPIRY (R543). -/
def execFaultTimerExpiry (n : Fin 8) (s : State) : Host.Outcome State Fault Refusal :=
  s.act fun h => h.when (h.live (0xC0 + n) && h.lpoClosed n && h.on LPO.hLimit n) fun h => h.lpoTrip n 0 LPO.CNT_TRIP_OC

/-- HARD_SHORT (R543). -/
def execHardShort (n : Fin 8) (s : State) : Host.Outcome State Fault Refusal :=
  s.act fun h => h.when (h.live (0xC0 + n) && h.lpoClosed n) fun h => h.lpoTrip n 1 LPO.CNT_TRIP_SHORT

/-- PG_HOLD_EXPIRY (R546). -/
def execPgHoldExpiry (n : Fin 8) (s : State) : Host.Outcome State Fault Refusal :=
  s.act fun h => h.when (h.live (0xC0 + n) && h.rd LPO.STAT_STATE n == 5 && h.on LPO.hLimit n) fun h => h.setLpoPg n false

/-- OVERLOAD_CHECK (R555, R556): the means in 10 mW and 10 mVA. -/
def execOverloadCheck (n : Fin 8) (pavg vaavg joules : Nat) (s : State) : Host.Outcome State Fault Refusal :=
  s.act fun h => h.when (h.live (0xC0 + n)) fun h => h.overloadCheck n pavg vaavg joules

/-- FUSE_LIMIT_WRITE (R548, R549). -/
def execFuseLimitWrite (r : Req) (n : Fin 8) (timer : Bool) (v : Nat) (s : State) : Host.Outcome State Fault Refusal :=
  s.act fun h => h.asReg r (if timer then LPO.TIMER_FAULT_US else LPO.ILIM_MA10) n fun h =>
    h.fuseWrite n timer v (Hub.regCap r (if timer then LPO.TIMER_FAULT_US else LPO.ILIM_MA10) n)

/-- BUS_UNDERVOLT (R557). -/
def execBusUndervolt (mv : Nat) (s : State) : Host.Outcome State Fault Refusal :=
  s.act fun h => h.when (h.up 0xC8 && decide (mv < h.rd BUS.CFG_UV_DV * 100)) fun h =>
    ((((h.busMeasure mv).wr BUS.STAT_UV 1).cnt BUS.CNT_UV_COUNT).raise 0xC8 0).refreshBus

/-- BUS_OVERVOLT (R557). -/
def execBusOvervolt (mv : Nat) (s : State) : Host.Outcome State Fault Refusal :=
  s.act fun h => h.when (h.up 0xC8 && decide (h.rd BUS.CFG_OV_DV * 100 < mv)) fun h =>
    (((((h.busMeasure mv).wr BUS.STAT_OV 1).cnt BUS.CNT_OV_COUNT).raise 0xC8 1 { lo := some (min 65535 mv) }).shedAll
      fun _ _ => true).refreshBus

/-- BUS_OV_CLEAR (R557). -/
def execBusOvClear (mv : Nat) (s : State) : Host.Outcome State Fault Refusal :=
  s.act fun h => h.when (h.up 0xC8 && h.on BUS.STAT_OV && decide (mv + 1000 < h.rd BUS.CFG_OV_DV * 100)) fun h =>
    ((h.busMeasure mv).wr BUS.STAT_OV 0).refreshBus

/-- BUS_SHED (R559, R561). -/
def execBusShed (mv : Nat) (s : State) : Host.Outcome State Fault Refusal :=
  s.act fun h => h.when (h.up 0xC8 && decide (mv < h.rd BUS.SHED_SHED_DV * 100)) fun h =>
    let h1 := h.busMeasure mv
    let h2 := if h1.on BUS.STAT_SHEDDING then h1 else (h1.wr BUS.STAT_SHEDDING 1).irq 0xC8 1
    (h2.shedAll fun n h => h.on LPO.CFG_SHED n && !h.on LPO.CFG_EMERG n).refreshBus

/-- SHED_CLEAR (R559). -/
def execShedClear (mv : Nat) (s : State) : Host.Outcome State Fault Refusal :=
  s.act fun h => h.when (h.up 0xC8 && h.on BUS.STAT_SHEDDING && decide (h.rd BUS.SHED_SHED_DV * 100 + 1000 < mv)) fun h =>
    (((h.busMeasure mv).wr BUS.STAT_SHEDDING 0).irq 0xC8 1).refreshBus

/-- EMERGENCY_CHANGE (R560): the battery-feed ball. -/
def execEmergencyChange (batt : Bool) (s : State) : Host.Outcome State Fault Refusal :=
  s.act fun h => h.when (h.up 0xC8) fun h =>
    (if h.on BUS.STAT_BATT = batt then h else (h.wr BUS.STAT_BATT (bnat batt)).irq 0xC8 0).refreshEmerg

/-- LOCAL_SUPPLY_CHANGE (R506, R557): the local supply's power-good ball. -/
def execLocalSupplyChange (pg : Bool) (s : State) : Host.Outcome State Fault Refusal :=
  s.act fun h => h.when (h.up 0xC8) fun h => (h.wr BUS.STAT_LOCAL (bnat pg)).refreshBus

/-- WAIT_EXIT (R562). -/
def execWaitExit (s : State) : Host.Outcome State Fault Refusal :=
  s.act fun h => h.when (h.up 0xC8) fun h => h.refreshBus.waitExit

/-- ENERGY_CLEAR (R556). -/
def execEnergyClear (r : Req) (n : Fin 8) (s : State) : Host.Outcome State Fault Refusal :=
  s.act fun h => h.asGo r LPO.CNTCLR_ECLR n fun h => (h.wr LPO.ENERGY_LO_J 0 n).wr LPO.ENERGY_HI_J 0 n

end Sys2Proof.Machine
end

