-- ==== Sys2Proof/Machine/Resets.lean ====
section
/-! DEFINITION. The reset classes (R9 to R13, R717): what a soft reset of a page, a domain reset and HRST or POR leave of
the registers and of each block's own state, and how a block gives up what it is doing. -/

namespace Sys2Proof.Machine

/-- Whether a key names one of these fields, in any instance and bank. -/
def isFld (k : Nat) (fs : List Fld) : Bool :=
  fs.any fun F => keyOff k == F.off && keyLo k == F.lo &&
    (match pageRow? F.pg with
     | some r => decide (F.pg ≤ keyPage k ∧ keyPage k < r.first + r.count)
     | none => false)

/-- Whether the field of a key reports hardware state or a strap (R48). -/
def isHw (k : Nat) : Bool :=
  decide (keyOff k < 0x1000) && match fieldOf k with
    | some F => F.src == .hw || F.src == .strap
    | none => false

/-- The common header's registers that SRST leaves: all but ESTAT, ECAP, ISTAT and the commit (R9), and the memory of the
escalation. READY follows R717. -/
def headerStays (k : Nat) : Bool :=
  let o := keyOff k
  (o < 0x100 && !(o == 0x10 || (0x18 ≤ o && o ≤ 0x28) || o == 0x30 || (o == 0x0C && keyLo k == 2))) ||
    o == HDR.hEscStage.off || o == HDR.hEscAgain.off || o == HDR.hEscAt.off || o == HDR.hSrstBusy.off

/-- Fields that a rule of their own keeps through SRST of their page (R11): node time (R705), MAIN_EN (R706), the node
state (R20), what reports the buffer's, the admission records' and the hardware's present state, and the outcomes of
authentication that stand until POR or HRST (R650). -/
def softStays : List Fld :=
  [TOP.NTIME_LO_NS, TOP.NTIME_HI_NS, TOP.NTCTL_RUN, TOP.hFrac, TOP.RAILS_MAIN_EN, TOP.hStraps, CLK.hUnlocked, FIL.hFifo, FIL.hUv,
   FIL.hHot, FIL.hLow, FIL.hShort, PDM.STATE_CURRENT, PDM.hDom, AON.hRole, AON.hBeaconEn, AON.hUsbSusp, AON.hUsbHeld, AON.hHeld, AON.hFirst, AON.hMgpWake,
   CRT.RREC_COMMITTED, CRT.RREC_TARGET, CRT.RREC_STATE, CRT.RTXN_TXN, CRT.RTXN_CROWN, CRT.RHOLD_MS, CRT.PRES_CT,
   CRT.PCOMMIT_CT, CRT.PPEND_CT, CRT.PFLOOR_CT, CRT.PSHORT_POINTS, CRT.RECS_COUNT,
   THR.QSTAT_OCC, THR.hCharged, THR.HDUSE_CELLS, MCR.INFLIGHT_COUNT, SCH.QSTAT_BACKLOG, SCH.QSTAT_INPROG,
   DBG.STAT_STATE, DBG.STAT_FAILS, DBG.STAT_LOCKOUT, PCI.hPerst, MEM.hWipe, MEM.WIPE_BUSY, MEM.WIPE_DONE, MEM.WIPE_PCT, MEM.WIPE_MS, CLP.hHad, UPD.hFw, UPD.hBoot, UPD.hBundle, UPD.hNewBundle,
   UPD.hSfmt, LCS.hStamp, KEY.hFresh, KEY.ROOT_OK, KEY.MLOCK_LOCKED] ++
  (List.range 12).map fun j => KEY.MVAL.word j

/-- Whether an entry of page `keyPage k` survives SRST of its page. -/
def softKeeps (k : Nat) : Bool := keepOnSoft k || headerStays k || isHw k || isFld k softStays

/-- Whether an entry survives the reset of its domain (R9, R578): locks, RWL and RWO fields, what reports hardware of
MGMT, LUME and FIL, the outcomes of R650, and node time (R705). -/
def domainKeeps (k : Nat) : Bool :=
  let pg := keyPage k
  keepOnSoft k || ((pageDom pg ≤ 1 || pageDom pg == 11 || pg == 2) && isHw k && !isFld k [FIL.ADMLOAD_CT]) ||
    isFld k [UPD.hBundle, UPD.hNewBundle, UPD.hSfmt, LCS.hStamp, DBG.STAT_STATE, DBG.STAT_FAILS, DBG.STAT_LOCKOUT, TOP.RAILS_MAIN_EN, CLP.hHad,
      TOP.hStraps, TOP.NTIME_LO_NS, TOP.NTIME_HI_NS, TOP.hFrac, TOP.NTCTL_RUN, MEM.hWipe]

/-- Whether an entry survives HRST, and POR where `por` is set (R9): what reports fuses, balls, sensors and the config
store, and through HRST the AON timer and the wake record of the AON page. -/
def hardKeeps (por : Bool) (k : Nat) : Bool :=
  let pg := keyPage k
  (pageDom pg == 1 && isHw k) || isFld k [UPD.hBundle, UPD.hNewBundle, UPD.hSfmt, LCS.hStamp, TOP.hStraps] ||
    isFld k [CLK.REFSTAT_REF_OK, CLK.REFSTAT_XTAL_OK, FIL.VMEAS_MV, FIL.VMEAS_MIN_MV, FIL.TJ_TEMP,
      BUS.STAT_LOCAL, BUS.STAT_BATT, BUS.VBUS_MV, BUS.VMIN_MV, BUS.hSeen, PCI.hPerst, AON.hHeld] ||
    (!por && isFld k [TOP.RAILS_MAIN_EN, AON.TIMER_LO_COUNT, AON.TIMER_HI_COUNT, AON.WAKESRC_SEEN, AON.WAKEFIRST_SRC,
      AON.WAKEFIRST_DETAIL, AON.WAKEFIRST_VALID, AON.WAKETICK_TICK, AON.hFirst])

/-- Kept fields that a restore of DISP does not bring back (R380). -/
def notRestored (k : Nat) : Bool :=
  isFld k [DTL.WINEN_LO_EN, DTL.WINEN_HI_EN, DTL.SCTL_EN, DTL.RCTL_EN, DCP.CTL_CAPEN, DHD.SRC_EN]

namespace Hub

/-! ### Giving up -/

/-- Lane `l` goes OFF (R104): a port that used it takes a new active set (R112). -/
def laneOff (l : Nat) (h : Hub) : Hub :=
  let p := l / 4
  let active := h.lane l == 5
  (((h.setLane l 0).refreshPortLanes p).when active (lostLane (l % 4) p)).tryForm p

/-- Every writer of the frame slots. -/
def allWriters : List Writer :=
  (List.finRange 2).map .capture ++ (List.finRange 64).map .hostWin ++ (List.finRange 8).map .receive

/-- The block of page `pg` gives up what it is doing. -/
def quiesce (pg : Nat) (h : Hub) : Hub :=
  if 0x10 ≤ pg ∧ pg ≤ 0x17 then h.portDown (pg - 0x10) none
  else if 0x20 ≤ pg ∧ pg ≤ 0x3F then h.laneOff (pg - 0x20)
  else if 0x71 ≤ pg ∧ pg ≤ 0x74 then h.headDisable (pg - 0x71)
  else if pg = 0x75 then h.captureDrop 0
  else if pg = 0x76 then h.captureDrop 1
  else if pg = 0x77 then (((h.wr DTL.WINEN_LO_EN 0 |>.wr DTL.WINEN_HI_EN 0).captureDrop 0).captureDrop 1 |>.each allWriters fun w h => h.abortSlot w).each (List.range 256) fun k h => h.hold k 6 false
  else if 0x78 ≤ pg ∧ pg ≤ 0x7B then h.setLink (pg - 0x78) 0
  else if pg = 0x81 then h.pcieLink false 0 0 0
  else if 0xB0 ≤ pg ∧ pg ≤ 0xB7 then (if h.solitaire then h else h.openClp (pg - 0xB0) 0)
  else if pg = 0xB8 then h.pdDetach 0
  else if pg = 0xB9 then h.pdDetach 1
  else if 0xC0 ≤ pg ∧ pg ≤ 0xC7 then (h.wr LPO.hBudget 0 (pg - 0xC0)).lpoOff (pg - 0xC0) 0
  else h

/-- What the block of page `pg` holds beside its registers is emptied. -/
def dropLists (pg : Nat) (h : Hub) : Hub :=
  if pg = 0x02 then { h with filWin := [] }
  else if pg = 0x0D then { h with mgpResp := [], mgpRead := [] }
  else if pg = 0x0E then { h with keys := [], ephemeral := [], agree := [] }
  else if pg = 0x0F then { h with blk := [], landed := [], clear := [], landing := [] }
  else if 0x10 ≤ pg ∧ pg ≤ 0x17 then
    let p := pg - 0x10
    { h with lmcQ := Tab.del p h.lmcQ, capRx := Tab.del p h.capRx, replay := Tab.del p h.replay, spanRx := Tab.del p h.spanRx
             spanTx := Tab.del p h.spanTx }
  else if pg = 0x48 then (h.clearBuffer).wr SWB.hWiping 1
  else if 0x50 ≤ pg ∧ pg ≤ 0x5D then { h with shapers := h.shapers.filter fun p => p.1 / 16 != pg - 0x50 }
  else if pg = 0x60 then { h with meters := [] }
  else if pg = 0x68 then
    { h with changes := [], unrec := [], intents := [], paths := [], settles := [], granted := [], ready := [], nbrs := []
             asks := h.asks.filter fun p => p.2.chg.isNone }
  else if pg = 0x77 then { h with gaps := [], repairs := [], tileDone := [], tileOut := [] }
  else if pg = 0x80 then
    ({ h with tags := [], rdWait := [], reads := [], land := [], rdIn := [], rdBus := [], pfifo := [] } : Hub)
  else if pg = 0xA2 then { h with usbFly := [], usbHeld := [] }
  else if 0xB0 ≤ pg ∧ pg ≤ 0xB7 then { h with claspAsk := Tab.del (pg - 0xB0) h.claspAsk }
  else h

/-! ### Registers -/

/-- The entries of the registers that `c` picks are removed, so that each reads as its Reset column says. -/
def clearRegs (h : Hub) (c : Nat → Bool) : Hub := { h with regs := h.regs.filter fun p => !c p.1 }

/-- The default PRESEQ of a cable class (R127): SEQ, three bits to an entry, and LEN. -/
def classSeq (c : Nat) : Nat × Nat :=
  let code (l : List Nat) : Nat × Nat := ((l.zipIdx.map fun p => p.1 * 8 ^ p.2).sum, l.length - 1)
  match c with
  | 0 => code [5, 2, 6, 4, 7, 3, 1, 0]
  | 1 => code [2, 4, 1, 5]
  | 2 => code [1, 0, 2, 4]
  | _ => (0, 0)

/-- PRESEQ of lane `l` at the default of its class, where the config store gives none (R128). -/
def seqDefault (l : Nat) (h : Hub) : Hub :=
  if Tab.has (OLN.PRESEQ_SEQ.key l 0) h.cfg || Tab.has (OLN.PRESEQ_LEN.key l 0) h.cfg then h
  else
    let (s, n) := classSeq (h.rd OLN.CFG_CLASS l)
    h.wr OLN.PRESEQ_SEQ s l |>.wr OLN.PRESEQ_LEN n l

/-- PCI.MODE as the node's role fixes it (R21): endpoint at a HEAD, else root port or off as configured. -/
def pciRole (h : Hub) : Hub :=
  h.when (h.on AON.hRole) fun h =>
    h.wr PCI.MODE_MODE (if h.rd AON.hRole % 4 = 0 then 1 else if h.rd PCI.MODE_MODE = 2 then 2 else 0)

/-- The fields of pages that `c` picks whose Reset column is CFG return to the setting of the config store, where they
are not locked ones (R11, R48, R128); the role stays the one that the node started in (R22, R23). -/
def cfgReset (h : Hub) (c : Nat → Bool) : Hub :=
  let h1 : Hub := (h.cfg.filter fun p => c (keyPage p.1) && !keepOnSoft p.1).foldl (fun (h : Hub) (p : Nat × Nat) =>
    match fieldOf p.1 with
    | some F => { h with regs := Tab.put (F.dflt (keyBank p.1)) p.1 p.2 h.regs }
    | none => h) h
  (h1.when (c 0) fun h => h.wr TOP.NODECFG_ROLE (h.rd AON.hRole) |>.wr TOP.NODECFG_CROWN_OK (h.rd AON.hRole / 4)).when (c 0x81) pciRole |>.each
    ((List.range 32).filter fun l => c (0x20 + l)) seqDefault

/-- The nonces of LCS and DBG renewed (R670, R671). -/
def renewNonce (F : Fld) (h : Hub) : Hub := h.each (List.range 8) fun j h => h.wrFree (F.word j)

/-- What hangs on registers of other pages follows a reset of page `pg`. A reset of FIL puts CORE_VID at VSET.CODE at once, with no ramp
(DESIGN CHOICE, log entry 154). -/
def afterReset (pg : Nat) (h : Hub) : Hub :=
  if pg = 0x01 then
    ((h.wr CLK.GSTAT_RUN 8191).each [7, 8, 9] fun n h => h.wrBit CLK.GSTAT_RUN n (h.gateMayRun n)).each (List.range 4) fun n h => h.wrBit CLK.PLLEN_EN (9 + n) (h.head n != 0)
  else if pg = 0x02 then (h.wr FIL.hVid (h.rd FIL.VSET_CODE) |>.wr FIL.hStart (h.rd FIL.VSET_CODE)).refreshCap
  else if pg = 0x03 then h.refreshLpest
  else if pg = 0x04 then h.refreshVotes
  else if pg = 0x08 then h.refreshActs
  else if pg = 0x0B then h.renewNonce LCS.NONCE
  else if pg = 0x0C then h.renewNonce DBG.NONCE
  else if pg = 0x40 then h.refreshFree
  else if pg = 0x41 then h.refreshUpstat
  else if pg = 0x48 ∨ pg = 0x49 then h.refreshThr
  else if 0x20 ≤ pg ∧ pg ≤ 0x3F then
    (h.refreshTx (pg - 0x20)).wr AON.hBeaconEn (h.rd OLN.CFG_BEACON_EN (pg - 0x20)) 0 (pg - 0x20) |>.refreshLpest
  else if 0x70 ≤ pg ∧ pg ≤ 0x74 then ((h.each (List.range 4) refreshVb).refreshBudget).refreshSummary
  else if pg = 0x75 ∨ pg = 0x76 then
    (h.wr DCP.LINK_PIN_D (bnat (h.on TCP.STAT_ALTMODE (pg - 0x75) && h.on TCP.STAT_PIN_D (pg - 0x75))) (pg - 0x75)).refreshSummary
  else if 0x77 ≤ pg ∧ pg ≤ 0x7B then h.refreshSummary
  else if pg = 0x88 then h.refreshMem
  else if pg = 0xA0 ∨ pg = 0xA2 then h.refreshUp false
  else if 0xB0 ≤ pg ∧ pg ≤ 0xC8 then h.refreshBus
  else h

/-! ### SRST -/

/-- What says how the switch of a clasp port stands and is guarded (R19). -/
def switchFlds : List Fld :=
  [CLP.CFG_GUARD, CLP.STAT_STATE, CLP.STAT_ROLE, CLP.STAT_SW, CLP.STAT_ARMED, CLP.STAT_PG, CLP.STAT_SF_TX, CLP.CONTRACT_ICUR,
   CLP.CONTRACT_ILIM, CLP.hArmed, CLP.hHad]

/-- In SOLITAIRE the switches hold their state and guard mode against commands, an SRST among them (R19, R528): that of page `pg` as it
stood in `old`. -/
def holdSwitch (h old : Hub) (pg : Nat) : Hub :=
  if old.solitaire && decide (0xB0 ≤ pg ∧ pg ≤ 0xB7) then h.each switchFlds fun F h => h.wr F (old.rd F (pg - 0xB0)) (pg - 0xB0) else h

/-- SRST of page `pg` (R9, R13, R717); `busy` is 2 where READY waits for the wipe of R251. A life-cycle change that runs is
not stopped (R656). -/
def softReset (pg busy : Nat) (h : Hub) : Hub :=
  let lcs := h.rd LCS.STAT_DONE
  let h1 := ((h.quiesce pg).dropShadow pg).clearRegs fun k => keyPage k == pg && !softKeeps k
  let h2 := (h1.cfgReset (· == pg)).wr HDR.PSTAT_READY 0 pg |>.wr HDR.hSrstBusy (if pg = 0x48 then 2 else busy) pg
  ((((h2.dropLists pg).when (pg == 0x0B && lcs == 1) fun h => h.wr LCS.STAT_DONE 1)).holdSwitch h pg).afterReset pg

/-- What starts by itself as page `pg` reports READY (R104, R380, R451, R717). -/
def startPage (pg : Nat) (h : Hub) : Hub :=
  if pg = 0x88 then h.refreshMem
  else if pg = 0x01 then h.gateFollow
  else if pg = 0x04 then h.refreshVotes
  else if !h.on HDR.PCTL_EN pg then h
  else if 0x20 ≤ pg ∧ pg ≤ 0x3F then h.laneEnable (pg - 0x20)
  else if 0x71 ≤ pg ∧ pg ≤ 0x74 then h.headEnable (pg - 0x71)
  else h

/-- The soft reset of page `pg` completes (R717). -/
def softDone (pg : Nat) (h : Hub) : Hub :=
  (h.wr HDR.PSTAT_READY 1 pg |>.wr HDR.hSrstBusy 0 pg).startPage pg

/-! ### Domains -/

/-- The pages of domain `d`. -/
def domPages (d : Nat) : List Nat := allPages.filter fun pg => pageDom pg == d

/-- The table windows of domain `d` are zero-filled, but for the access table (R575, R642). -/
def clearTables (h : Hub) (d : Nat) : Hub :=
  (tableRows.filter fun t => t.dom == d && t.base != 0x5C0000).foldl
    (fun (h : Hub) (t : TableRow) => { h with tab := Tab.wipe (t.base / 4) ((t.base + t.stride * t.entries) / 4) h.tab }) h

/-- The contents of domain `d` are lost: its switch opens, or its reset applies (R9, R574, R575, R578). -/
def clearDomain (h : Hub) (d : Nat) : Hub :=
  let h1 := h.clearRegs fun k => pageDom (keyPage k) == d && d != 0 && !domainKeeps k
  let h2 : Hub := { h1 with shadow := h1.shadow.filter fun p => pageDom (keyPage p.1) != d
                            staging := h1.staging.filter fun p => d != 1 && ((tableRows[p.1 % 8]?).map (·.dom)) != some d }
  let h3 := (h2.clearTables d).each (domPages d) dropLists
  let h4 : Hub := if d = 2 then { h3 with opens := [], queues := [], pkts := [], egOut := [], asks := [], txbOut := [] } else h3
  let h5 : Hub := if d = 1 then { h4 with tabLatch := [], latch64 := [], lkQueue := [], ctlOut := [], telOut := [] } else h4
  let h6 : Hub := if d = 1 then { h5 with root := [] } else if d = 8 then { h5 with fmem := [] } else h5
  let h7 : Hub := { h6 with stalled := h6.stalled.filter fun p => d != 2 && pageDom (fifoPage (p.1 + 1)) != d
                            usbOut := if d = 10 then [] else h6.usbOut }
  h7.each (if d = 2 ∨ d = 8 ∨ d = 11 then domPages d else []) afterReset

/-! ### HRST and POR -/

/-- HRST, or POR where `por` is set (R9, R708): every register but those that `hardKeeps` names, every memory on the die,
and the retention memory. The config store and the locket stay; frame memory is not served before its wipe. The start
goes on from PLL_SYS. `cause` is the bit of AON.BOOTCAUSE. -/
def hardReset (h : Hub) (por : Bool) (cause : Nat) : Hub :=
  let regs := h.regs.filter fun p => hardKeeps por p.1
  let h1 : Hub :=
    { regs := regs, cfg := h.cfg, fmem := h.fmem, cyc := h.cyc, freeIx := h.freeIx, lkRing := h.lkRing
      recs := h.recs, marks := h.marks, signers := h.signers, flash := h.flash }
  let h2 := (h1.wr AON.BOOTCAUSE_CAUSE (2 ^ cause) |>.wr CLK.REFSTAT_AON_RC (1 - h1.rd CLK.REFSTAT_XTAL_OK)).each [1, 3, 4, 5] fun pg h => h.wr HDR.PSTAT_READY 1 pg
  (((h2.wr PDM.DOMON_ON 1).refreshCap.refreshLpest).renewNonce LCS.NONCE).renewNonce DBG.NONCE

end Hub

end Sys2Proof.Machine
end

