-- ==== Sys2Proof/Machine/Power.lean ====
section
/-! DEFINITION. Turning domains off and on, retention, SOLITAIRE, node state requests and wake sources (R569 to R604,
R698, R701, R705, R718). -/

namespace Sys2Proof.Machine

namespace Hub

/-! ### Off -/

/-- The Kept fields of domain `d` saved (R12, R579): entries that differ from their reset values; with MGMT, node time and
the AON timer too (R705). -/
def saveKept (h : Hub) (d : Nat) : Hub :=
  let mine := h.regs.filter fun p => keptKey p.1 && pageDom (keyPage p.1) == d
  let ret := mine.foldl (fun m p => Tab.ins p.1 p.2 m) (h.ret.filter fun p => pageDom (keyPage p.1) != d)
  let h1 := ({ h with ret := ret } : Hub).wrBit RET.VALID_DOM d true |>.wr RET.USED_BYTES (Config.packedBytes ret)
    |>.wrFree RET.TIMES_SAVE_US
  h1.when (d == 1) fun h => (h.wr RET.hNs h.now).wr RET.hTick h.aonTimer

/-- The hub ports that are suspended (R599), one bit each from port 1. -/
def suspendedPorts (h : Hub) : Nat :=
  ((List.range 6).map fun i => h.rd USB.PORTSTAT_SUSPEND 0 (i + 1) * 2 ^ i).sum

/-- The PLLs of domain `d` by their bit of PLLEN (R79, R84). -/
def pllsOf (d : Nat) : List Nat :=
  match d with
  | 3 => [5] | 4 => [6] | 5 => [7] | 6 => [8] | 7 => [9, 10, 11, 12] | 8 => [1] | 9 => [2] | 10 => [3, 4] | _ => []

/-- The switch of domain `d` opens (R574), its PLLs stop (R84), and the FIFOs of its attachments are empty. -/
def switchOff (h : Hub) (d : Nat) : Hub :=
  let h1 := h.when (d == 10) fun h => h.wr AON.hUsbSusp h.suspendedPorts
  let h2 := ((h1.each (domPages d) quiesce).clearDomain d).wrBit PDM.DOMON_ON d false |>.wrBit PDM.DOMREADY_READY d false
  let h3 := (h2.wr PDM.hDom 0 0 d).each (pllsOf d) fun n h => h.wrBit CLK.PLLSTAT_LOCK n false |>.wrBit CLK.hUnlocked n false
  h3.each ([8, 9, 10, 11, 12, 13, 14].filter fun a => pageDom (fifoPage a) == d) fun a h => h.wr FIL.hFifo 0 0 a

/-- The drain of domain `d` ends, with the packets `left` in its FIFOs cut off (R226, R574); the Kept fields are saved. -/
def domainOff (h : Hub) (d : Nat) (left : List Nat) : Hub :=
  let h1 := (h.each left fun id h => h.poisonPkt id).when (!left.isEmpty) fun h => h.cnt PDM.CNT_DRAINLOSS_COUNT
  ((h1.saveKept d).switchOff d).refreshDomains

/-! ### On -/

/-- The Kept fields of domain `d` restored, or left at reset where the region fails its CRC (R575, R580, R705). -/
def restoreKept (h : Hub) (d : Nat) (crcOk : Bool) : Hub :=
  if !h.bit RET.VALID_DOM d then h
  else
    let mine := h.ret.filter fun p => pageDom (keyPage p.1) == d
    let rest := h.ret.filter fun p => pageDom (keyPage p.1) != d
    let h1 := ({ h with ret := rest } : Hub).wrBit RET.VALID_DOM d false |>.wr RET.USED_BYTES (Config.packedBytes rest)
      |>.wrFree RET.TIMES_RESTORE_US
    if !crcOk then
      ((h1.cnt RET.CNT_CRC_COUNT).raise 5 0 { lo := d }).when (d == 1) fun h =>
        h.wr TOP.NTIME_LO_NS 0 |>.wr TOP.NTIME_HI_NS 0 |>.wr TOP.hFrac 0
    else
      let h2 : Hub := (mine.filter fun p => !notRestored p.1).foldl (fun (h : Hub) (p : Nat × Nat) =>
        { h with regs := Tab.ins p.1 p.2 h.regs })
        (h1.clearRegs fun k => keptKey k && pageDom (keyPage k) == d && !notRestored k)
      h2.when (d == 1) fun h =>
        let ns := h.rd RET.hNs + (h.aonTimer - h.rd RET.hTick) * 1953125 / 64
        h.wr TOP.NTIME_LO_NS ns |>.wr TOP.NTIME_HI_NS (ns / 2 ^ 32) |>.wr TOP.NTCTL_AONREF 1

/-- Power-good of domain `d` is seen: the domain reset, and the restore (R9, R575). -/
def domainUp (h : Hub) (d : Nat) (crcOk : Bool) : Hub :=
  let h1 := ((h.clearDomain d).cfgReset fun pg => pageDom pg == d).wrBit PDM.DOMON_ON d true |>.wr PDM.hDom 2 0 d
  let h2 := (h1.each (if d = 1 then [0x0B, 0x0C] else []) afterReset).restoreKept d crcOk
  let h3 := h2.when (d == 1) fun h => h.wr TOP.NTCTL_RUN (bnat (h.bit CLK.PLLSTAT_LOCK 0))
  h3.each (domPages d) afterReset

/-- An output with AUTOON leaves OFF as though its enable had been written 1 (R563). -/
def autoOn (n : Nat) (h : Hub) : Hub :=
  h.when (h.up (0xC0 + n) && h.on LPO.CFG_AUTOON n && !h.on HDR.PCTL_EN (0xC0 + n)) fun h =>
    (h.wr HDR.PCTL_EN 1 (0xC0 + n)).lpoEnable n true

/-- Domain `d` is released from isolation (R575, R563, R587, R597, R599, R676, R707). -/
def domainOn (h : Hub) (d : Nat) : Hub :=
  let pgs := (domPages d).filter fun pg => !(pg == 0x48 && h.on SWB.hWiping)
  let h1 := (h.wr PDM.hDom 0 0 d |>.wrBit PDM.DOMREADY_READY d true).each pgs fun pg h =>
    h.wr HDR.PSTAT_READY 1 pg |>.wr HDR.hSrstBusy 0 pg
  let h2 := h1.each pgs startPage
  let h3 :=
    if d = 1 then
      let h2 := (h2.when (h2.on AON.hMgpWake) fun h => h.cnt MGP.CNT_WAKE_COUNT).wr AON.hMgpWake 0
      if h2.rd PDM.STATE_CURRENT = 3 then h2.wr AON.BOOTCAUSE_CAUSE 16
      else h2.when (h2.rd PDM.STATE_CURRENT == 0 && !h2.on PDM.STATE_BUSY) fun h => h.wr TOP.RAILS_MAIN_EN 1
    else if d = 8 then h2.when (h2.effState == 1) fun h => (h.wr MEM.STAT_SR 1).refreshMem
    else if d = 10 then
      let h4 := (h2.refreshUp false).when (h2.on AON.hUsbHeld) fun h =>
        ((h.wr AON.hUsbHeld 0).wr AON.hUsbSusp 0).heldResume
      h4.when h4.solitaire fun h => h.each (List.range 8) fun p h => h.lumeMode p true
    else if d = 11 then h2.when (h2.on UPD.hBoot) fun h => h.each (List.range 8) autoOn
    else h2
  h3.refreshDomains

/-! ### SOLITAIRE -/

/-- Entry into SOLITAIRE (R19, R560, R583, R588, R589): no drain and no save. A node that is there already stays. -/
def enterSolitaire (h : Hub) : Hub :=
  if h.rd PDM.STATE_CURRENT = 2 then h
  else
    let h1 := h.when (h.on PDM.STATE_BUSY) fun h => (h.cnt PDM.CNT_ABORT_COUNT).raise 4 1
    let h2 := h1.wr PDM.STATE_CURRENT 2 |>.wr PDM.STATE_BUSY 0 |>.wr PDM.STATE_PENDING 0 |>.wr PDM.STATE_LATCHED 0
      |>.wr TOP.RAILS_MAIN_EN 0 |>.wr AON.REGSTAT_LP 0 |>.wr PDM.hVotes h1.votes |>.refreshMasks
    let h3 := h2.each [2, 3, 4, 5, 6, 7, 8, 9] fun d h => h.when (h.domOn d || !h.settled d) fun h => h.switchOff d
    let h4 := h3.each [1, 10] fun d h => h.when (h.rd PDM.hDom 0 d == 3) fun h => h.wr PDM.hDom 0 0 d
    let h5 := (h4.wr CLK.GATE_ETH 0 |>.wr CLK.GATE_USB 0).each [7, 8, 9] fun b h =>
      h.wrBit CLK.GSTAT_RUN b false |>.wrBit CLK.hStopping b false
    let h6 := h5.when (h5.up 0x92) fun h => h.each (List.range 8) fun p h => h.lumeMode p true
    let h7 := h6.refreshEmerg.refreshDomains
    h7.when h7.fwOn fun h => let (v, h') := h.free; h'.locketPut { typ := 3, detail := v % 2 ^ 32 }

/-! ### Wake -/

/-- FUNC of ball `i` (R711): while MGMT is off, as it was saved. -/
def ballFunc (h : Hub) (i : Nat) : Nat :=
  if h.domOn 1 then h.rd GPX.BFUNC_FUNC 0 i else Tab.get 0 (GPX.BFUNC_FUNC.key 0 i) h.ret

/-- A beacon recognised on lane `l` (R125, R126, R131): SEEN, and in OFF or in L2, where no exit runs, the interrupt, the wake,
the vote for the lane's domain, and the exit from L2. -/
def beaconIn (h : Hub) (l : Nat) : Hub :=
  let d := 3 + l / 8
  let p := l / 4
  let h0 := h.when (h.up (0x20 + l)) fun h => h.wr OLN.BEACON_SEEN 1 l
  if !(h.lane l == 0 || (h.lane l == 8 && !h.on OPT.hExit p)) then h0
  else
    let h1 := ((h0.when (h0.up (0x20 + l)) fun h => h.irq (0x20 + l) 1).wake 1 l).when (!h.domOn d) fun h =>
      (h.wrBit PDM.VOTE_FW_DOM d true).refreshVotes
    h1.when (h1.up (0x10 + p) && h1.rd OPT.STAT_STATE p == 4) fun h => h.startExit p

/-- POR by the always-on brown-out or at power-on (R9, R594). -/
def powerOn (h : Hub) (brownout : Bool) : Hub := h.hardReset true (if brownout then 3 else 0)

end Hub

/-- The vote register of a client (R570). -/
def voteFld (client : Fin 6) : Fld :=
  match client with
  | 0 => PDM.VOTE_FW_DOM | 1 => PDM.VOTE_HOST_DOM | 2 => PDM.VOTE_CROWN_DOM | 3 => PDM.VOTE_MGP_DOM
  | 4 => PDM.VOTE_LUME_DOM | 5 => PDM.VOTE_USB_DOM

/-! ### Commands -/

/-- VOTE_WRITE (R570, R573, R582): while PDM is not READY the vote is only written, and acts at READY (R717). -/
def execVoteWrite (r : Req) (client : Fin 6) (v : Nat) (s : State) : Host.Outcome State Fault Refusal :=
  s.act fun h => h.asReg r (voteFld client) 0 fun h =>
    if client.val < 4 ∧ masterNum r.master = client.val then
      if h.up 4 then h.setVote client (voteFld client) v else h.wr (voteFld client) v
    else h.raise 4 2 (Hub.regCap r (voteFld client) 0)

/-- HARDWARE_VOTE (R570). -/
def execHardwareVote (s : State) : Host.Outcome State Fault Refusal :=
  s.act fun h => (h.setVote 4 PDM.VOTE_LUME_DOM h.hwVotes.1).setVote 5 PDM.VOTE_USB_DOM h.hwVotes.2

/-- DRAIN_TIMEOUT (R574): the drain of domain `d` ends, with the packets `left` not drained. -/
def execDrainTimeout (d : Fin 12) (left : List Nat) (s : State) : Host.Outcome State Fault Refusal :=
  s.act fun h => h.when (h.rd PDM.hDom 0 d == 3) fun h => h.domainOff d left

/-- DOMAIN_RESET (R9, R575, R580). -/
def execDomainReset (d : Fin 12) (crcOk : Bool) (s : State) : Host.Outcome State Fault Refusal :=
  s.act fun h => h.when (h.rd PDM.hDom 0 d == 1) fun h => h.domainUp d crcOk

/-- DOMAIN_READY (R575). -/
def execDomainReady (d : Fin 12) (s : State) : Host.Outcome State Fault Refusal :=
  s.act fun h => h.when (h.rd PDM.hDom 0 d == 2) fun h => h.domainOn d

/-- DOMAIN_FAIL (R575, R588). -/
def execDomainFail (d : Fin 12) (s : State) : Host.Outcome State Fault Refusal :=
  s.act fun h => h.when (h.rd PDM.hDom 0 d == 1) fun h =>
    ((h.wr PDM.hDom 4 0 d).raise 4 3 { lo := d }).when (d.val == 2) fun h => h.enterSolitaire

/-- STATE_REQUEST (R581, R582). -/
def execStateRequest (r : Req) (target : Nat) (s : State) : Host.Outcome State Fault Refusal :=
  s.act fun h => h.asGo r PDM.STATE_TARGET 0 fun h => h.askState r.master (target % 8) (Hub.regCap r PDM.STATE_TARGET 0)

/-- TRANSITION_DONE (R585 to R587). -/
def execTransitionDone (us : Nat) (s : State) : Host.Outcome State Fault Refusal :=
  s.act fun h => h.when h.transitionOver fun h => h.endTransition us

/-- MAIN_PG_RISE (R587, R698). -/
def execMainPgRise (s : State) : Host.Outcome State Fault Refusal :=
  s.act fun h => (h.wr TOP.RAILS_MAIN_PG 1).when (h.on TOP.RAILS_MAIN_EN) fun h => h.refreshDomains

/-- MAIN_PG_LOSS (R588, R698): while MAIN_EN is low, MAIN_PG is ignored. -/
def execMainPgLoss (s : State) : Host.Outcome State Fault Refusal :=
  s.act fun h => (h.wr TOP.RAILS_MAIN_PG 0).when (h.on TOP.RAILS_MAIN_EN) fun h => h.enterSolitaire

/-- CORE_PG_LOSS (R588). -/
def execCorePgLoss (s : State) : Host.Outcome State Fault Refusal :=
  s.act fun h => h.when (h.domOn 2) fun h => h.enterSolitaire

/-- THERMAL_TRIP (R588, R701). -/
def execThermalTrip (s : State) : Host.Outcome State Fault Refusal :=
  s.act fun h => ((h.wr TOP.RAILS_THERM_TRIP 1).raise 0 4).enterSolitaire

/-- AON_BROWNOUT (R594, R662): the mark, and POR. -/
def execAonBrownout (s : State) : Host.Outcome State Fault Refusal :=
  s.act fun h =>
    (h.wr LKT.MARK_LO_TICK h.aonTimer |>.wr LKT.MARK_HI_TICK (h.aonTimer / 2 ^ 32) |>.wr LKT.MARK_HI_VALID 1).powerOn true

/-- MGP_ADDRESS_MATCH (R595, R596): a match while MGMT is on is no wake. -/
def execMgpAddressMatch (addr : Nat) (s : State) : Host.Outcome State Fault Refusal :=
  s.act fun h => h.when (!h.domOn 1 && h.on AON.MGPWAKE_EN && addr == 0x58 + h.rd TOP.STRAPS_MGP_A) fun h =>
    (h.wr AON.hMgpWake 1).wake 0 0

/-- BEACON_DETECT (R125, R595). -/
def execBeaconDetect (l : Fin 32) (s : State) : Host.Outcome State Fault Refusal :=
  s.act fun h => h.when (h.on AON.hBeaconEn 0 l) fun h => h.beaconIn l

/-- GPIO_WAKE (R595, R711). -/
def execGpioWake (i : Fin 8) (s : State) : Host.Outcome State Fault Refusal :=
  s.act fun h => h.when (h.bit AON.GPIOWAKE_EN i && h.ballFunc i == 2) fun h => h.wake 3 i

/-- AON_TIMER_MATCH (R598): the count equals TCMP. -/
def execAonTimerMatch (s : State) : Host.Outcome State Fault Refusal :=
  s.act fun h => h.when (h.on AON.TCTL_EN && h.aonTimer == h.rd AON.TCMP_HI_COUNT * 2 ^ 32 + h.rd AON.TCMP_LO_COUNT) fun h =>
    h.wake 4 0

/-- USB_RESUME_DETECT (R595, R599). -/
def execUsbResumeDetect (p : Fin 6) (s : State) : Host.Outcome State Fault Refusal :=
  s.act fun h => h.when ((if h.domOn 10 then h.suspendedPorts else h.rd AON.hUsbSusp).testBit p) fun h =>
    (h.when (!h.domOn 10) fun h => h.wrBit AON.hUsbHeld p true).wake 5 (p + 1)

end Sys2Proof.Machine
end

