-- ==== Sys2Proof/Machine/Keys.lean ====
section
/-! DEFINITION. The key engine: slots, derivation, measurements and sealed records (R605 to R623, R638, R639). The
cryptographic functions of the standards stand in Config without a body. -/

namespace Sys2Proof.Machine

/-- The ASCII bytes of a text. -/
def ascii (t : String) : Bytes := t.toList.map fun c => BitVec.ofNat 8 c.toNat

/-- Bytes `i` to `i + n - 1` of a byte string. -/
def sliceOf (i n : Nat) (bs : Bytes) : Bytes := (bs.drop i).take n

namespace Hub

/-! ### Slots -/

/-- Whether an engine may read slot `s` at any moment (R617). -/
def slotInUse (h : Hub) (s : Nat) : Bool :=
  ((List.range 8).any fun p =>
    let st := h.rd OPT.STAT_STATE p
    (st == 2 || ((st == 3 || st == 4) && h.on OPT.STAT_ENC p)) &&
      (h.rd (if h.on OPT.STAT_TXPH p then OPT.KEYSEL_TX1 else OPT.KEYSEL_TX0) p == s ||
        h.rd (if h.on OPT.STAT_RXPH p then OPT.KEYSEL_RX1 else OPT.KEYSEL_RX0) p == s)) ||
  (h.on MEM.CFG_EN && (h.rd MEM.XTS_SLOT1 == s || h.rd MEM.XTS_SLOT2 == s)) ||
  ((h.rd UPD.STAT_STATE == 1 || h.rd UPD.BLKSTAT_DONE == 1) && h.rd UPD.TKEY_SLOT == s)

/-- SATTR.INUSE, LOCKED and VALIDMAP as the slots have them (R638). -/
def refreshSlots (h : Hub) : Hub :=
  let map (F : Fld) : Nat := ((List.range 32).map fun s => h.rd F 0 s * 2 ^ s).sum
  ((h.each (List.range 32) fun s h => h.wr KEY.SATTR_INUSE (bnat (h.slotInUse s)) 0 s).wr KEY.LOCKED_SLOTS
    (map KEY.SATTR_LOCKED)).wr KEY.VALIDMAP_SLOTS (map KEY.SATTR_VALID)

/-- Slot `s` filled with a key (R164, R613). -/
def fillSlot (h : Hub) (s recip sealed : Nat) (k : Bytes) : Hub :=
  let h1 : Hub := { h with keys := Tab.ins s (padTo 32 k) h.keys }
  ((h1.wr KEY.SATTR_RECIPIENT recip 0 s |>.wr KEY.SATTR_VALID 1 0 s |>.wr KEY.SATTR_SEALED sealed 0 s).each (List.range 8)
    fun p h => h.wr KEY.hFresh (h.rd KEY.hFresh 0 p ||| 2 ^ s) 0 p).refreshSlots

/-- Slot `s` emptied (R613, R615). -/
def emptySlot (h : Hub) (s : Nat) : Hub :=
  let h1 : Hub := { h with keys := Tab.del s h.keys }
  (h1.wr KEY.SATTR_RECIPIENT 0 0 s |>.wr KEY.SATTR_VALID 0 0 s |>.wr KEY.SATTR_SEALED 0 0 s
    |>.wr KEY.SATTR_LOCKED 0 0 s).refreshSlots

/-- The key in slot `s`. -/
def keyOf (h : Hub) (s : Nat) : Bytes := Tab.get [] s h.keys

/-! ### Measurements and derivation -/

/-- Measurement register `i` (R608). -/
def meas (h : Hub) (i : Nat) : Bytes := ofWords ((List.range 12).map fun j => h.rd (KEY.MVAL.word j) 0 i)

/-- Measurement register `i` extended with a digest (R608). -/
def extend (h : Hub) (i : Nat) (d : Bytes) : Hub :=
  h.each ((toWords 12 (padTo 48 (Config.sha384 (h.meas i ++ padTo 48 d)))).zipIdx) fun (w, j) h =>
    h.wr (KEY.MVAL.word j) w 0 i

/-- The life-cycle byte (R610). -/
def lcByte (h : Hub) : Byte := BitVec.ofNat 8 (h.rd LCS.STATE_LC)

/-- The input key material of a derivation under a mask (R610). -/
def ikmOf (h : Hub) (mask : Nat) (agree : Bool) : Bytes :=
  h.lcByte :: (((List.range 6).filter mask.testBit).flatMap h.meas) ++ if agree then padTo 48 h.agree else []

/-- The private key of the static pair (R611). -/
def staticKey (h : Hub) : Bytes := Config.scalar (padTo 32 (Config.hkdf h.root (h.ikmOf 0 false) (ascii "STATIC")))

/-- The 64 bytes of KEY.DATA. -/
def keyData (h : Hub) : Bytes := h.bufBytes KEY.DATA 64

/-! ### Sealed records -/

/-- K_seal of a record under a mask (R620). -/
def sealKey (h : Hub) (record mask : Nat) : Bytes :=
  padTo 32 (Config.hkdf h.root (h.ikmOf mask false) (ascii "SEAL" ++ natLe 1 record))

/-- The nonce of a copy (R620). -/
def sealNonce (record copy seq : Nat) : Bytes := natLe 1 record ++ natLe 1 copy ++ natLe 4 seq ++ natLe 6 0

/-- The marker of a record (R620): VALID, COPY and SEQ. -/
def marker (h : Hub) (record : Nat) : Nat := Tab.get 0 record h.marks

/-- A copy of a record as SEAL writes it (R620, R621). -/
def sealCopy (h : Hub) (record copy seq recip mask : Nat) (k : Bytes) : Bytes :=
  let aad := natLe 4 seq ++ natLe 1 recip ++ natLe 1 mask ++ natLe 2 0
  let key := h.sealKey record mask
  let n := sealNonce record copy seq
  let ct := padTo 32 (Config.gcmCrypt key n k)
  aad ++ ct ++ padTo 16 (Config.gcmTag key n aad ct) ++ natLe 8 0

/-- Whether a copy carries its marker's SEQ and its tag holds (R623). -/
def copyHolds (h : Hub) (record copy seq : Nat) (c : Bytes) : Bool :=
  leAt c 0 4 == seq &&
    padTo 16 (Config.gcmTag (h.sealKey record (leAt c 5 1)) (sealNonce record copy seq) (c.take 8) (sliceOf 8 32 c)) ==
      sliceOf 40 16 c

/-! ### Operations -/

/-- The end of an operation (R614, R639). -/
def keyEnd (h : Hub) (code : Nat) : Hub :=
  ((h.wr KEY.CSTAT_DONE (if code = 0 then 2 else 3) |>.wr KEY.CSTAT_CODE code |>.cnt KEY.CNT_OP_COUNT).when (code != 0)
    fun h => h.cnt KEY.CNT_FAIL_COUNT).irq 0xE 0

/-- A write of CMD with GO (R613): only MCPU's, and while one runs the next is not taken. -/
def keyGo (h : Hub) (m : MasterId) (op v : Nat) (c : Cap := {}) : Hub :=
  if m ≠ .mcpu then h.raise 0xE 1 c
  else if h.rd KEY.CSTAT_DONE = 1 then h
  else
    let w := setBits v 0 4 op % 2 ^ 31
    let h1 := [KEY.CMD_OP, KEY.CMD_DST, KEY.CMD_SRC, KEY.CMD_SRCSEL, KEY.CMD_RECIP, KEY.CMD_SEALED, KEY.CMD_USE_AGREE,
      KEY.CMD_STATIC].foldl (fun (h : Hub) (F : Fld) => h.wr F (bits w F.lo F.w)) h
    h1.wr KEY.hCmd w |>.wr KEY.hParam
        (h1.rd KEY.PARAM_MASK + h1.rd KEY.PARAM_INFOLEN * 2 ^ 8 + h1.rd KEY.PARAM_RECORD * 2 ^ 16)
      |>.wr KEY.CSTAT_DONE 1 |>.wr KEY.CSTAT_CODE 0

/-- The first check of R614 that fails, of those that need no record of the config store and no peer's point; 0 where none
does. -/
def keyCheck (h : Hub) (op dst src srcsel recip infolen : Nat) (useStatic : Bool) : Nat :=
  let fills := op == 1 || op == 2 || op == 5 || op == 7
  let needDst := fills || op == 8
  let srcBad :=
    (op == 2 && srcsel == 0 && !(h.on KEY.SATTR_VALID 0 src && h.rd KEY.SATTR_RECIPIENT 0 src == 7)) ||
    (op == 5 && !(h.on KEY.SATTR_VALID 0 src && h.rd KEY.SATTR_RECIPIENT 0 src == 3)) ||
    (op == 6 && !(h.on KEY.SATTR_VALID 0 src && h.on KEY.SATTR_SEALED 0 src))
  let needRoot := (op == 2 && srcsel == 1) || ((op == 3 || op == 4) && useStatic) || op == 6 || op == 7
  let d := h.keyData
  if needDst && h.on KEY.SATTR_LOCKED 0 dst then 1
  else if needDst && h.slotInUse dst then 2
  else if srcBad then 3
  else if needRoot && !h.on KEY.ROOT_OK then 4
  else if op == 5 && padTo 16 (Config.gcmTag (h.keyOf src) (d.take 12) (sliceOf 60 4 d) (sliceOf 12 32 d)) != sliceOf 44 16 d
    then 5
  else if (op == 0 || decide (9 < op)) || ((op == 1 || op == 2 || op == 5) && recip == 0) ||
      (op == 2 && (decide (64 < infolen) || srcsel == 3)) then 7
  else 0

/-- The operation whose checks hold so far (R610, R611, R613, R614, R621, R623). -/
def keyRun (h : Hub) (op dst src srcsel recip sealed mask infolen record : Nat) (agree useStatic storeOk : Bool) : Hub :=
  let d := h.keyData
  match op with
  | 1 =>
    let k := ofWords ((List.range 8).map fun j => Config.free (h.freeIx + j) % 2 ^ 32)
    (({ h with freeIx := h.freeIx + 8 } : Hub).fillSlot dst recip sealed k).keyEnd 0
  | 2 =>
    let salt := if srcsel = 0 then h.keyOf src else if srcsel = 1 then h.root else List.replicate 48 0
    (h.fillSlot dst recip sealed (Config.hkdf salt (h.ikmOf mask agree) (d.take infolen))).keyEnd 0
  | 3 =>
    if useStatic then (h.setBuf KEY.PUB (padTo 49 (Config.p384Pub h.staticKey))).keyEnd 0
    else
      let k := Config.scalar (ofWords ((List.range 8).map fun j => Config.free (h.freeIx + j) % 2 ^ 32))
      (({ h with freeIx := h.freeIx + 8, ephemeral := k } : Hub).setBuf KEY.PUB (padTo 49 (Config.p384Pub k))).keyEnd 0
  | 4 =>
    let peer := d.take 49
    let priv := if useStatic then h.staticKey else h.ephemeral
    if !Config.onCurve peer || (!useStatic && h.ephemeral.isEmpty) then h.keyEnd 9
    else ({ h with agree := padTo 48 (Config.ecdh priv peer), ephemeral := [] } : Hub).keyEnd 0
  | 5 =>
    (h.fillSlot dst recip sealed (Config.gcmDecrypt (h.keyOf src) (d.take 12) (sliceOf 12 32 d))).keyEnd 0
  | 6 =>
    if !storeOk then h.keyEnd 8
    else
      let m := h.marker record
      let copy := 1 - bits m 32 1
      let seq := (m + 1) % 2 ^ 32
      ({ h with
          recs := Tab.ins (2 * record + copy) (h.sealCopy record copy seq (h.rd KEY.SATTR_RECIPIENT 0 src) mask (h.keyOf src)) h.recs
          marks := Tab.ins record (2 ^ 63 + copy * 2 ^ 32 + seq) h.marks } : Hub).keyEnd 0
  | 7 =>
    let m := h.marker record
    let copy := bits m 32 1
    let c := Tab.get [] (2 * record + copy) h.recs
    if !m.testBit 63 then h.keyEnd 6
    else if !h.copyHolds record copy (m % 2 ^ 32) c then (h.raise 0xE 3 { lo := record }).keyEnd 5
    else
      (h.fillSlot dst (leAt c 4 1) 1
        (Config.gcmDecrypt (h.sealKey record (leAt c 5 1)) (sealNonce record copy (m % 2 ^ 32)) (sliceOf 8 32 c))).keyEnd 0
  | 8 => (h.emptySlot dst).keyEnd 0
  | _ =>
    let m := h.marker record
    if !m.testBit 63 then h.keyEnd 6
    else if !storeOk then h.keyEnd 8
    else ({ h with marks := Tab.ins record (m % 2 ^ 63) h.marks } : Hub).keyEnd 0

/-- The operation under way ends (R614). -/
def keyDone (h : Hub) (storeOk : Bool) : Hub :=
  let w := h.rd KEY.hCmd
  let p := h.rd KEY.hParam
  let f (F : Fld) : Nat := bits w F.lo F.w
  match h.keyCheck (f KEY.CMD_OP) (f KEY.CMD_DST) (f KEY.CMD_SRC) (f KEY.CMD_SRCSEL) (f KEY.CMD_RECIP) (bits p 8 7)
      (f KEY.CMD_STATIC == 1) with
  | 0 => h.keyRun (f KEY.CMD_OP) (f KEY.CMD_DST) (f KEY.CMD_SRC) (f KEY.CMD_SRCSEL) (f KEY.CMD_RECIP) (f KEY.CMD_SEALED)
      (bits p 0 6) (bits p 8 7) (bits p 16 6) (f KEY.CMD_USE_AGREE == 1) (f KEY.CMD_STATIC == 1) storeOk
  | c => h.keyEnd c

/-- LOCKSET written (R615). -/
def lockSlots (h : Hub) (v : Nat) : Hub :=
  (h.each ((List.range 32).filter v.testBit) fun s h => h.wr KEY.SATTR_LOCKED 1 0 s).refreshSlots

end Hub

/-! ### Commands -/

/-- A write of CMD with GO for operation `op` (R613). -/
def Hub.keyCmd (h : Hub) (r : Req) (op v : Nat) : Hub :=
  h.asReg r KEY.CMD_OP 0 fun h => h.when (h.up 0xE || r.master != .mcpu) fun h => h.keyGo r.master op v (Hub.regCap r KEY.CMD_OP 0)

/-- KEY_GEN (R613). -/
def execKeyGen (r : Req) (v : Nat) (s : State) : Host.Outcome State Fault Refusal := s.act fun h => h.keyCmd r 1 v

/-- DERIVE (R610, R613). -/
def execDerive (r : Req) (v : Nat) (s : State) : Host.Outcome State Fault Refusal := s.act fun h => h.keyCmd r 2 v

/-- ECDH_GEN (R611, R613). -/
def execEcdhGen (r : Req) (v : Nat) (s : State) : Host.Outcome State Fault Refusal := s.act fun h => h.keyCmd r 3 v

/-- ECDH (R613). -/
def execEcdh (r : Req) (v : Nat) (s : State) : Host.Outcome State Fault Refusal := s.act fun h => h.keyCmd r 4 v

/-- UNWRAP (R613). -/
def execUnwrap (r : Req) (v : Nat) (s : State) : Host.Outcome State Fault Refusal := s.act fun h => h.keyCmd r 5 v

/-- SEAL (R621). -/
def execSeal (r : Req) (v : Nat) (s : State) : Host.Outcome State Fault Refusal := s.act fun h => h.keyCmd r 6 v

/-- UNSEAL (R623). -/
def execUnseal (r : Req) (v : Nat) (s : State) : Host.Outcome State Fault Refusal := s.act fun h => h.keyCmd r 7 v

/-- KEY_CLEAR (R613). -/
def execKeyClear (r : Req) (v : Nat) (s : State) : Host.Outcome State Fault Refusal := s.act fun h => h.keyCmd r 8 v

/-- ERASE (R621). -/
def execErase (r : Req) (v : Nat) (s : State) : Host.Outcome State Fault Refusal := s.act fun h => h.keyCmd r 9 v

/-- KEY_OP_DONE (R614). -/
def execKeyOpDone (storeOk : Bool) (s : State) : Host.Outcome State Fault Refusal :=
  s.act fun h => h.when (h.up 0xE && h.rd KEY.CSTAT_DONE == 1) fun h => h.keyDone storeOk

/-- SLOT_LOCK (R615). -/
def execSlotLock (r : Req) (v : Nat) (s : State) : Host.Outcome State Fault Refusal :=
  s.act fun h => h.asGo r KEY.LOCKSET_SLOTS 0 fun h => h.lockSlots v

/-- MEASUREMENT_EXTEND (R608, R609). -/
def execMeasurementExtend (r : Req) (s : State) : Host.Outcome State Fault Refusal :=
  s.act fun h => h.asGo r KEY.MEXT_GO 0 fun h =>
    if r.master = .mcpu then h.extend 5 (h.keyData.take 48) else h.raise 0xE 2 (Hub.regCap r KEY.MEXT_GO 0)

end Sys2Proof.Machine
end

