-- ==== Sys2Proof/Machine/Update.lean ====
section
/-! DEFINITION. The boot ROM, the landing, verification and activation of images and bundles, and the bundle decrypt engine
(R22, R563, R605 to R609, R624 to R637, R640, R641, R658). A start runs in one step; the copy of R631 within it too. -/

namespace Sys2Proof.Machine

/-- Whether the signer hash of index `k` is accepted in a life cycle (R624). -/
def signerAccepted (lc k : Nat) (bundle : Bool) : Bool :=
  (match lc, bundle with
   | 1, _ => [0]
   | 2, _ => [0, 1]
   | 3, false => [0, 1, 2, 3]
   | 3, true => [2, 3]
   | 4, false => [0, 2]
   | 4, true => [2]
   | 5, _ => [0, 1]
   | _, _ => []).contains k

/-- One section of a bundle (R635): its 8-byte header and its content. -/
structure Section where
  head : Bytes
  body : Bytes
  deriving DecidableEq, Repr

/-- TYPE of a section. -/
def sectionType (c : Section) : Nat := leAt c.head 0 2

/-- ENC of a section. -/
def sectionEnc (c : Section) : Bool := (leAt c.head 2 2).testBit 0

/-- The sections of a payload, each padded to 8 bytes (R635); at most `fuel` of them. -/
def sectionsOf : Nat → Bytes → List Section
  | 0, _ => []
  | fuel + 1, bs =>
    if bs.length < 8 then []
    else
      let n := leAt bs 4 4
      { head := bs.take 8, body := sliceOf 8 n bs } :: sectionsOf fuel (bs.drop (8 + ceilDiv n 8 * 8))

/-- The last rules of R636: what the sections may set. -/
def sectionsHold (encrypted : Bool) (cs : List Section) : Bool :=
  cs.all fun c => !(sectionType c == 1 && sectionEnc c) && (encrypted || (!sectionEnc c && sectionType c != 5))

namespace Hub

/-! ### The flash and the bundle copies -/

/-- `n` bytes of an area from offset `off` (R627, R629). -/
def flashBytes (h : Hub) (area off n : Nat) : Bytes := Tab.getRun 0xFF (area * 2 ^ 26 + off) n h.flash

/-- Bytes programmed into an area from offset `off`. -/
def program (h : Hub) (area off : Nat) (bs : Bytes) : Hub :=
  { h with flash := Tab.putRun 0xFF (area * 2 ^ 26 + off) bs h.flash }

/-- The active bank erased and programmed from the staging bank (R631). -/
def copyBank (h : Hub) : Hub :=
  let lo := h.flash.filter fun p => 2 ^ 26 ≤ p.1 && p.1 < 2 ^ 27
  { h with flash := lo.map (fun p => (p.1 - 2 ^ 26, p.2)) ++ h.flash.filter fun p => 2 ^ 26 ≤ p.1 }

/-- The area that holds the active bundle. -/
def bundleArea (h : Hub) : Nat := h.rd UPD.hBundle + 1

/-- The area of the inactive bundle copy (R629). -/
def spareArea (h : Hub) : Nat := if h.rd UPD.hBundle = 1 then 3 else 2

/-! ### Checks -/

/-- Whether the key index is accepted and the public key has its hash (R624, R625). -/
def keyHolds (h : Hub) (k : Nat) (pub : Bytes) (bundle : Bool) : Bool :=
  signerAccepted (h.rd LCS.STATE_LC) k bundle && h.bit KEY.FUSE_KEYPRES k && !h.bit KEY.FUSE_KEYREV k &&
    padTo 48 (Config.sha384 pub) == Tab.get [] k h.signers

/-- The checks of steps 5 and 6 of R625 on an image, with those of R630 and R633: 0, or the code of the first that fails. -/
def imageCheck (h : Hub) (area : Nat) : Nat :=
  let hd := h.flashBytes area 0 512
  let len := leAt hd 8 4
  let svn := leAt hd 12 1
  if leAt hd 0 4 ≠ 0x53524A46 ∨ leAt hd 4 2 ≠ 1 then 1
  else if !h.keyHolds (leAt hd 6 1) (sliceOf 32 97 hd) false then 2
  else if !Config.ecdsaOk (sliceOf 32 97 hd) (hd.take 256) (sliceOf 256 96 hd) then 3
  else if padTo 48 (Config.sha384 (h.flashBytes area 4096 len)) ≠ sliceOf 136 48 hd then 4
  else if svn < h.rd KEY.FUSE_SVN ∨ svn < h.rd UPD.FLOOR_SVN ∨ 96 < svn then 5
  else if 2 ^ 25 < len ∨ Config.bankBytes < len + 4096 then 6
  else 0

/-- The payload of a bundle. -/
def payload (h : Hub) (area : Nat) : Bytes := h.flashBytes area 512 (leAt (h.flashBytes area 0 512) 24 4)

/-- The sections of a bundle. -/
def bundleSections (h : Hub) (area : Nat) : List Section :=
  let p := h.payload area
  sectionsOf (p.length / 8) p

/-- The checks of R636: 0, the code of R630 of the first that fails, or 7 for those that R630 gives no code. The active
bundle is not held against its own BSEQ. -/
def bundleCheck (h : Hub) (area : Nat) (newer : Bool) : Nat :=
  let hd := h.flashBytes area 0 512
  let target := leAt hd 8 8
  if leAt hd 0 4 ≠ 0x424C4E4A ∨ leAt hd 4 2 ≠ 1 then 1
  else if !h.keyHolds (leAt hd 6 1) (sliceOf 32 97 hd) true then 2
  else if !Config.ecdsaOk (sliceOf 32 97 hd) (hd.take 320) (sliceOf 320 96 hd) then 3
  else if padTo 48 (Config.sha384 (h.payload area)) ≠ sliceOf 136 48 hd then 4
  else if (target = 0 ∨ target = h.rd KEY.DEVID_LO_ID + h.rd KEY.DEVID_HI_ID * 2 ^ 32) ∧
      (leAt hd 16 1).testBit (h.rd LCS.STATE_LC) = true ∧ (newer = false ∨ h.rd UPD.BSEQ_SEQ < leAt hd 20 4) ∧
      sectionsHold ((leAt hd 7 1).testBit 0) (h.bundleSections area) = true then 0
  else 7

/-! ### The config store -/

/-- WIPE of R657: settings, sealed records, bundles and the update record, with the locket region where the life cycle is
SCRAPPED; the stamp last. -/
def wipeStore (h : Hub) : Hub :=
  let h1 : Hub := { h with recs := [], marks := [], cfg := [], flash := h.flash.filter fun p => p.1 < 2 ^ 27 }
  let h2 := h1.wr UPD.COPY_STATE 0 |>.wr UPD.hBundle 0 |>.wr UPD.hNewBundle 0 |>.wr UPD.BSEQ_SEQ 0 |>.wr UPD.hSfmt 0
  let h3 := h2.when (h2.rd LCS.STATE_LC == 6) fun h =>
    ({ h with lkRing := [] } : Hub).wr LKT.OLDEST_SEQ (h.rd LKT.HEAD_SEQ) |>.wr LKT.BOOT_COUNT 0
  h3.wr LCS.hStamp (h3.rd LCS.STATE_LC)

/-- A setting that a bundle carries, where it names a CFG field (R48); CRYPT 3 is taken as 2 (R149). -/
def setting (p : Nat × Nat) : Option (Nat × Nat) :=
  match fieldOf p.1 with
  | some F =>
    if F.src = .cfg then
      let v := p.2 % 2 ^ F.w
      some (p.1, if isFld p.1 [OPT.CFG_CRYPT, OPT.CFG_WIDTH] = true ∧ v = 3 then 2 else v)
    else none
  | none => none

/-- The CFG fields loaded from the config store (R48, R625), locked ones too; R22 on the role. -/
def loadCfg (h : Hub) : Hub :=
  let h1 : Hub := h.cfg.foldl (fun (h : Hub) (p : Nat × Nat) =>
    match fieldOf p.1 with
    | some F => { h with regs := Tab.put (F.dflt (keyBank p.1)) p.1 p.2 h.regs }
    | none => h) h
  let bad := h1.rd TOP.NODECFG_ROLE == 3 || (h1.rd TOP.NODECFG_ROLE == 2 && h1.on TOP.NODECFG_CROWN_OK)
  let h2 := h1.when bad fun h => h.wr TOP.NODECFG_ROLE 2 |>.wr TOP.NODECFG_CROWN_OK 0
  (h2.wr AON.hRole (h2.rd TOP.NODECFG_ROLE + 4 * h2.rd TOP.NODECFG_CROWN_OK + 8)).pciRole.each ([0xA0, 0xC8].filter h1.up) afterReset

/-! ### Boot -/

/-- Whether a start follows POR or HRST, and not a wake of MGMT (R23, R587). -/
def coldStart (h : Hub) : Bool := !h.bit AON.hRole 3

/-- A record of Fjarosh or the boot ROM whose DETAIL the spec does not state. -/
def locketOpen (h : Hub) (typ : Nat) : Hub :=
  let (v, h') := h.free
  h'.locketPut { typ := typ, detail := v % 2 ^ 32 }

/-- Steps 1 and 2 of R625 (R606 to R608, R658): the life cycle, the root, M0 and M1. -/
def bootRoot (h : Hub) (pufOk : Bool) (corr : Nat) : Hub :=
  let h0 := h.when (h.rd LCS.hStamp != h.rd LCS.STATE_LC) wipeStore
  let lc := h0.rd LCS.STATE_LC
  let st := if lc = 1 ∨ lc = 2 ∨ lc = 3 ∨ lc = 5 then 1 else 0
  let h1 := h0.when (h0.rd DBG.STAT_STATE != 2 && h0.rd DBG.STAT_STATE != st) fun h => (h.wr DBG.STAT_STATE st).irq 0xC 0
  let h2 :=
    if pufOk then
      ({ h1 with root := padTo 32 (Config.hkdf (List.replicate 48 0) Config.rootSecret (ascii "ALS9640 ROOT")) } : Hub).wr
        KEY.ROOT_OK 1 |>.wr KEY.ROOT_PUF_CORR corr
    else h1.raise 0xE 0
  (h2.extend 0 Config.romDigest).extend 1 (Config.fuseDigest lc (h2.rd KEY.FUSE_KEYPRES) (h2.rd KEY.FUSE_KEYREV))

/-- Step 3 of R625: the active bundle, M4, and after POR and HRST the CFG fields and the outputs with AUTOON. -/
def bootBundle (h : Hub) : Hub :=
  let ok := h.on UPD.hBundle && h.bundleCheck h.bundleArea false == 0
  let hd := h.flashBytes h.bundleArea 0 512
  let h1 := h.when ok fun h =>
    let set := (Config.bundleSettings (h.payload h.bundleArea)).filterMap setting
    (h.when h.coldStart fun h => { h with cfg := set.foldl (fun m p => Tab.ins p.1 p.2 m) h.cfg }).wr UPD.BSEQ_SEQ (leAt hd 20 4)
  let h2 := h1.extend 4 (if ok then sliceOf 136 48 hd else List.replicate 48 0)
  h2.when h2.coldStart fun h => h.loadCfg.each (List.range 8) autoOn

/-- Step 4 of R625 (R631, R632): the copy, where the update record holds PENDING or COPYING. -/
def bootCopy (h : Hub) : Hub :=
  if h.rd UPD.COPY_STATE ≠ 1 ∧ h.rd UPD.COPY_STATE ≠ 2 then h
  else if h.imageCheck 1 ≠ 0 then (h.wr UPD.COPY_STATE 0).raise 0xF 2
  else
    (h.copyBank).wr UPD.FLOOR_SVN (leAt (h.flashBytes 1 12 1) 0 1) |>.wr UPD.COPY_STATE 3 |>.wr UPD.COPY_PCT 100

/-- RECOVERY entered (R626); `badRole` says that the configured role was one of R22's. -/
def enterRecovery (h : Hub) (badRole : Bool) : Hub :=
  ((h.wr UPD.STAT_RECOVERY 1).locketOpen 6).when badRole fun h => h.locketOpen 7

/-- The hash of an OEMKEY section blown (R624, R635, R636), at the first start after the bundle's activation and in TEST alone.
DESIGN CHOICE, log 170: byte 0 of the content is the index and its last 48 bytes are the hash, where the spec gives no offsets. -/
def blowOem (h : Hub) (content : Bytes) : Hub :=
  let k := leAt content 0 1
  h.when (h.rd UPD.hNewBundle == 2 && h.rd LCS.STATE_LC == 2 && (k == 2 || k == 3) && decide (49 ≤ content.length) &&
      !h.bit KEY.FUSE_KEYPRES k) fun h =>
    ({ h with signers := Tab.ins k (content.drop (content.length - 48)) h.signers } : Hub).wrBit KEY.FUSE_KEYPRES k true

/-- The first start after the activation of a bundle (R636): the OEMKEY sections that set no ENC are blown. Those that do are
blown as the engine of R637 has decrypted them. -/
def firstStart (h : Hub) : Hub :=
  let h1 := h.wr UPD.hNewBundle (if h.rd UPD.hNewBundle = 1 then 2 else 0)
  h1.when (h1.rd UPD.hNewBundle == 2 && h1.bundleCheck h1.bundleArea false == 0) fun h => h.each (h.bundleSections h.bundleArea) fun c h =>
    h.when (sectionType c == 6 && !sectionEnc c) fun h => h.blowOem c.body

/-- Fjarosh starts (R22, R607, R609, R625, R634, R636, R660, R662): the image measured, MLOCK set, and its records written. `badRole`
says that the configured role was one of R22's. -/
def startFirmware (h : Hub) (badRole : Bool) : Hub :=
  let hd := h.flashBytes 0 0 512
  let h1 := (h.extend 2 (Config.sha384 (sliceOf 32 97 hd))).extend 3 (sliceOf 136 48 hd)
  let h2 := h1.wr UPD.ACTIVE_SVN (leAt hd 12 1) |>.wr UPD.ACTIVE_SFMT (leAt hd 13 1) |>.wr UPD.ACT_BUILD_BUILD (leAt hd 16 4)
    |>.wr KEY.MLOCK_LOCKED 1 |>.wr UPD.hFw 1
  let h3 := h2.locketPut { typ := 4, detail := h2.rd AON.BOOTCAUSE_CAUSE }
  let h4 := (h3.when (h3.on LKT.MARK_HI_VALID) fun h => h.locketOpen 5).when (!h3.on KEY.ROOT_OK) fun h => h.locketOpen 10
  let h5 := h4.when badRole fun h => h.locketOpen 7
  let h6 := h5.when (h5.on UPD.hBundle) firstStart
  h6.when (h6.rd UPD.hSfmt != h6.rd UPD.ACTIVE_SFMT) fun h =>
    let set := if h.on UPD.BSEQ_SEQ then (Config.bundleSettings (h.payload h.bundleArea)).filterMap setting else []
    (({ h with cfg := set.foldl (fun m p => Tab.ins p.1 p.2 m) [] } : Hub).wr UPD.hSfmt (h.rd UPD.ACTIVE_SFMT)).locketOpen 7

/-- Whether the settings ask for a role that R22 does not allow. -/
def roleBad (h : Hub) : Bool :=
  let v (F : Fld) : Nat := Tab.get 0 (F.key 0 0) h.cfg
  v TOP.NODECFG_ROLE == 3 || (v TOP.NODECFG_ROLE == 2 && v TOP.NODECFG_CROWN_OK != 0)

/-- The boot ROM runs (R625); RECOV_N as R693 says. -/
def boot (h : Hub) (pufOk : Bool) (corr : Nat) : Hub :=
  let h1 := ((h.wr UPD.hBoot 1).wr LKT.BOOT_COUNT (h.rd LKT.BOOT_COUNT + 1)).when (h.on LKT.MARK_HI_VALID) fun h => h.raise 0xA 2
  let h2 := (h1.bootRoot pufOk corr).bootBundle
  let badRole := h1.coldStart && h2.roleBad
  let lc := h2.rd LCS.STATE_LC
  if lc = 6 ∨ ((lc = 1 ∨ lc = 2 ∨ lc = 3 ∨ lc = 5) ∧ h2.on TOP.STRAPS_RECOV_N = false) then h2.enterRecovery badRole
  else
    let h3 := h2.bootCopy
    if h3.imageCheck 0 = 0 then h3.startFirmware badRole else h3.enterRecovery badRole

/-! ### Landing -/

/-- STAT.STATE set; every change sets ISTAT.STATE (R641). -/
def setUpd (h : Hub) (st : Nat) : Hub :=
  if h.rd UPD.STAT_STATE = st then h else ((h.wr UPD.STAT_STATE st).irq 0xF 1).refreshSlots

/-- An armed update record cleared (R633). -/
def clearRecord (h : Hub) : Hub := h.when (h.rd UPD.COPY_STATE == 1) fun h => h.wr UPD.COPY_STATE 0

/-- CTL.START (R629, R633). -/
def updStart (h : Hub) (bundle : Bool) : Hub :=
  let h1 := (h.clearRecord).wr UPD.hArea (if bundle then h.spareArea else 1) |>.wr UPD.LANDED_COUNT 0
  ({ h1 with landed := [] } : Hub).setUpd 1

/-- How many blocks the staged header asks for (R627, R635). -/
def blocksDue (h : Hub) : Nat :=
  let len := h.rd UPD.HDR_LEN_BYTES
  if h.rd UPD.hArea = 1 then 1 + ceilDiv len 4096 else ceilDiv (512 + len) 4096

/-- BLK.GO for block `num` (R629, R640). -/
def blockGo (h : Hub) (num : Nat) (c : Cap := {}) : Hub :=
  let st := h.rd UPD.STAT_STATE
  let n := h.rd UPD.BLKSTAT_WORDS
  let ws := h.blk
  let h1 := ({ h with blk := [] } : Hub).wr UPD.BLKSTAT_WORDS 0
  if h.rd UPD.BLKSTAT_DONE = 1 then h1
  else
    if n ≠ 1024 then (h1.wr UPD.BLKSTAT_DONE 3 |>.wr UPD.BLKSTAT_CODE 5).raise 0xF 0 { c with lo := some num }
    else if st ≠ 1 ∧ st ≠ 2 then h1
    else
      ({ h1 with landing := ws } : Hub).wr UPD.hBlk num |>.wr UPD.hCrcBad (bnat (crc32c (ofWords ws) != h.rd UPD.BLKCRC_CRC))
        |>.wr UPD.BLKSTAT_DONE 1 |>.wr UPD.BLKSTAT_CODE 0

/-- The landing of a block fails (R629, R641). -/
def blockFail (h : Hub) (code : Nat) : Hub :=
  (h.wr UPD.BLKSTAT_DONE 3 |>.wr UPD.BLKSTAT_CODE code).raise 0xF 0 { lo := h.rd UPD.hBlk }

/-- The key of a slot, where the slot holds one for recipient `r` (R612). -/
def keyFor (h : Hub) (slot r : Nat) : Bytes :=
  if h.on KEY.SATTR_VALID 0 slot && h.rd KEY.SATTR_RECIPIENT 0 slot == r then h.keyOf slot else []

/-- The bytes of a block as they are programmed: decrypted where the header says so (R627). -/
def blockPlain (h : Hub) (num : Nat) : Bytes :=
  let bs := padTo 4096 (ofWords h.landing)
  if h.rd UPD.hArea = 1 ∧ 1 ≤ num ∧ (leAt (h.flashBytes 1 7 1) 0 1).testBit 0 = true then
    padTo 4096 (Config.ctr (h.keyFor (h.rd UPD.TKEY_SLOT) 2)
      (natLe 16 ((leNat (h.flashBytes 1 184 16) + num) % 2 ^ 128)) bs)
  else bs

/-- The landing of a block ends (R627 to R629, R640, R641). -/
def blockDone (h : Hub) (flashOk : Bool) : Hub :=
  let num := h.rd UPD.hBlk
  let area := h.rd UPD.hArea
  if h.on UPD.hCrcBad then (h.cnt UPD.CNT_CRC_COUNT).blockFail 1
  else if num ≠ 0 ∧ Tab.has 0 h.landed = false then h.blockFail 4
  else if num ≠ 0 ∧ h.blocksDue ≤ num then h.blockFail 3
  else if !flashOk then
    let bs := (List.range 4096).map fun i => BitVec.ofNat 8 (Config.free (h.freeIx + i))
    ((({ h with freeIx := h.freeIx + 4096 } : Hub).program area (num * 4096) bs).blockFail 2).when (area == 1) fun h =>
      h.raise 0xF 3
  else
    let bs := h.blockPlain num
    let h1 := h.program area (num * 4096) bs
    let h2 := h1.when (num == 0) fun h =>
      if area = 1 then h.wr UPD.HDR_SVN (leAt bs 12 1) |>.wr UPD.HDR_SFMT (leAt bs 13 1) |>.wr UPD.HDR_LEN_BYTES (leAt bs 8 4)
      else h.wr UPD.HDR_LEN_BYTES (leAt bs 24 4)
    let h3 : Hub := { h2 with landed := Tab.ins num 1 h2.landed }
    let h4 := (h3.wr UPD.LANDED_COUNT h3.landed.length |>.wr UPD.BLKSTAT_DONE 2 |>.cnt UPD.CNT_BLK_COUNT).irq 0xF 0
    h4.when (h4.rd UPD.STAT_STATE == 1 && (List.range h4.blocksDue).all fun b => Tab.has b h4.landed) fun h => h.setUpd 2

/-! ### Verification and activation -/

/-- The end of a verification (R630, R636, R641). -/
def verifyEnd (h : Hub) : Hub :=
  let area := h.rd UPD.hArea
  match if area = 1 then h.imageCheck 1 else h.bundleCheck area true with
  | 0 => (h.wr UPD.STAT_CODE 0).setUpd 4
  | 7 => ((h.wrFree UPD.STAT_CODE).raise 0xF 1).setUpd 6
  | c => ((h.wr UPD.STAT_CODE c).raise 0xF 1).setUpd 6

/-- CTL.ACTIVATE (R631). -/
def activateGo (h : Hub) : Hub :=
  if h.rd UPD.hArea = 1 then (h.wr UPD.COPY_STATE 1).setUpd 5 else h.wr UPD.hBundle (h.rd UPD.hArea - 1) |>.wr UPD.hNewBundle 1

/-! ### The bundle decrypt engine -/

/-- BCLEAR shows part WOFF of the clear buffer (R637, R640). -/
def refreshClear (h : Hub) : Hub :=
  h.setBuf UPD.BCLEAR (padTo 2048 (h.clear.drop (h.rd UPD.BDEC_WOFF * 2048)))

/-- BDEC.GO (R637). -/
def bdecGo (h : Hub) (v : Nat) : Hub :=
  let h1 := [UPD.BDEC_SECTION, UPD.BDEC_SLOT, UPD.BDEC_WOFF].foldl (fun (h : Hub) (F : Fld) => h.wr F (bits v F.lo F.w)) h
  if h.rd UPD.BDEC_DONE = 1 then h1.refreshClear
  else
    (({ h1 with clear := [] } : Hub).wr UPD.hBdec (bits v 0 6 + bits v 8 5 * 64) |>.wr UPD.BDEC_DONE 1
      |>.wr UPD.BDEC_CODE 0).refreshClear

/-- The decryption ends (R637): the last 16 bytes of a section are its tag. -/
def bdecDone (h : Hub) : Hub :=
  let w := h.rd UPD.hBdec
  let slot := w / 64 % 32
  let fail (c : Nat) : Hub := (({ h with clear := [] } : Hub).wr UPD.BDEC_DONE 3 |>.wr UPD.BDEC_CODE c).refreshClear
  match if h.on UPD.hBundle then (h.bundleSections h.bundleArea)[w % 64]? else none with
  | none => fail 5
  | some c =>
    let n := c.body.length - 16
    let ct := c.body.take n
    let nonce := natLe 2 (w % 64) ++ List.replicate 10 0
    let key := h.keyFor slot 3
    if !sectionEnc c then fail 4
    else if !(h.on KEY.SATTR_VALID 0 slot && h.rd KEY.SATTR_RECIPIENT 0 slot == 3) then fail 3
    else if 32768 < n then fail 2
    else if c.body.length < 16 ∨ padTo 16 (Config.gcmTag key nonce c.head ct) ≠ c.body.drop n then fail 1
    else
      let text := padTo n (Config.gcmDecrypt key nonce ct)
      ((({ h with clear := text } : Hub).wr UPD.BDEC_DONE 2 |>.wr UPD.BDEC_CODE 0 |>.wr UPD.BDLEN_BYTES n).refreshClear).when
        (sectionType c == 6) fun h => h.blowOem text

end Hub

/-! ### Commands -/

/-- BOOT_START (R625): MGMT is ready, and the boot ROM runs once. -/
def execBootStart (pufOk : Bool) (corr : Nat) (s : State) : Host.Outcome State Fault Refusal :=
  s.act fun h => h.when (h.up 0xE && !h.on UPD.hBoot) fun h => h.boot pufOk corr

/-- A write of CTL in UPD, which acts by `f` where the block is up. -/
def Hub.updCtl (h : Hub) (r : Req) (f : Hub → Hub) : Hub :=
  h.asReg r UPD.CTL_START 0 fun h => h.when (h.up 0xF) f

/-- UPDATE_START (R629, R633). -/
def execUpdateStart (r : Req) (bundle : Bool) (s : State) : Host.Outcome State Fault Refusal :=
  s.act fun h => h.updCtl r fun h => (h.wr UPD.CTL_TARGET (bnat bundle)).updStart bundle

/-- BLOCK_DATA_WRITE (R629, R640). -/
def execBlockDataWrite (r : Req) (v : Nat) (s : State) : Host.Outcome State Fault Refusal :=
  s.act fun h => h.asReg r UPD.BLKDATA_DATA 0 fun h =>
    h.when (h.up 0xF && decide (h.rd UPD.BLKSTAT_WORDS < 1024)) fun h =>
      ({ h with blk := h.blk ++ [v % 2 ^ 32] } : Hub).wr UPD.BLKSTAT_WORDS (h.rd UPD.BLKSTAT_WORDS + 1)

/-- BLOCK_LAND (R629, R640). -/
def execBlockLand (r : Req) (num : Nat) (s : State) : Host.Outcome State Fault Refusal :=
  s.act fun h => h.asReg r UPD.BLK_NUM 0 fun h => h.when (h.up 0xF) fun h =>
    (h.wr UPD.BLK_NUM num).blockGo (num % 2 ^ 14) (Hub.regCap r UPD.BLK_NUM 0)

/-- BLOCK_LAND_DONE (R629). -/
def execBlockLandDone (flashOk : Bool) (s : State) : Host.Outcome State Fault Refusal :=
  s.act fun h => h.when (h.up 0xF && h.rd UPD.BLKSTAT_DONE == 1) fun h => h.blockDone flashOk

/-- VERIFY (R630). -/
def execVerify (r : Req) (s : State) : Host.Outcome State Fault Refusal :=
  s.act fun h => h.updCtl r fun h => h.when (h.rd UPD.STAT_STATE == 2) fun h => h.setUpd 3

/-- VERIFY_DONE (R630). -/
def execVerifyDone (s : State) : Host.Outcome State Fault Refusal :=
  s.act fun h => h.when (h.up 0xF && h.rd UPD.STAT_STATE == 3) fun h => h.verifyEnd

/-- ACTIVATE (R631). -/
def execActivate (r : Req) (s : State) : Host.Outcome State Fault Refusal :=
  s.act fun h => h.updCtl r fun h => h.when (h.rd UPD.STAT_STATE == 4) fun h => h.activateGo

/-- UPDATE_ABORT (R633). -/
def execUpdateAbort (r : Req) (s : State) : Host.Outcome State Fault Refusal :=
  s.act fun h => h.updCtl r fun h => (h.clearRecord).setUpd 0

/-- SVNCOMMIT (R633). -/
def execSvncommit (r : Req) (s : State) : Host.Outcome State Fault Refusal :=
  s.act fun h => h.updCtl r fun h => h.wr KEY.FUSE_SVN (max (h.rd KEY.FUSE_SVN) (min 96 (h.rd UPD.ACTIVE_SVN)))

/-- BUNDLE_DECRYPT (R637). -/
def execBundleDecrypt (r : Req) (v : Nat) (s : State) : Host.Outcome State Fault Refusal :=
  s.act fun h => h.asReg r UPD.BDEC_GO 0 fun h => h.when (h.up 0xF) fun h => h.bdecGo v

/-- BUNDLE_DECRYPT_DONE (R637). -/
def execBundleDecryptDone (s : State) : Host.Outcome State Fault Refusal :=
  s.act fun h => h.when (h.up 0xF && h.rd UPD.BDEC_DONE == 1) fun h => h.bdecDone

/-- BDEC_CLR (R637). -/
def execBdecClr (r : Req) (s : State) : Host.Outcome State Fault Refusal :=
  s.act fun h => h.asReg r UPD.BDEC_CLR 0 fun h => h.when (h.up 0xF) fun h => ({ h with clear := [] } : Hub).refreshClear

end Sys2Proof.Machine
end

