-- ==== Sys2Proof/Machine/Protect.lean ====
section
/-! DEFINITION. The access table's entries, debug, fault injection, the life cycle, the locket and escalation (R642, R643,
R648 to R663, R666, R667 to R671). -/

namespace Sys2Proof.Machine

namespace Hub

/-! ### The locket -/

/-- Bytes 0 to 47 of a record (R660). -/
def recordBytes (h : Hub) (r : LkRec) (isSealed : Bool) : Bytes :=
  natLe 4 (h.rd LKT.HEAD_SEQ) ++ natLe 2 (h.rd LKT.BOOT_COUNT) ++ natLe 1 r.typ ++
    natLe 1 (bnat isSealed + 2 * bnat r.timeAon) ++ natLe 8 r.time ++
    match r.own with
    | some bs => padTo 32 bs
    | none =>
      natLe 2 (r.page % 2 ^ 12) ++ natLe 1 r.lc ++ natLe 1 r.stage ++ natLe 4 r.estat ++ natLe 4 r.info ++ natLe 8 r.addr ++
        natLe 8 r.etime ++ natLe 4 r.detail

/-- Whether the slot that SEALSLOT names holds a key of recipient 5 (R661). -/
def canSeal (h : Hub) : Bool :=
  h.on KEY.SATTR_VALID 0 (h.rd LKT.CFG_SEALSLOT) && h.rd KEY.SATTR_RECIPIENT 0 (h.rd LKT.CFG_SEALSLOT) == 5

/-- The tag of a record (R661): nonce SEQ and 8 zero bytes. -/
def recordTag (h : Hub) (seq : Nat) (bs : Bytes) : Bytes :=
  padTo 16 (Config.gmac (h.keyOf (h.rd LKT.CFG_SEALSLOT)) (natLe 4 seq ++ natLe 8 0) bs)

/-- A record written into the ring of 16,384 (R660, R661). -/
def writeRecord (h : Hub) (r : LkRec) : Hub :=
  let seq := h.rd LKT.HEAD_SEQ
  let bs := h.recordBytes r h.canSeal
  let tag := if h.canSeal then h.recordTag seq bs else List.replicate 16 0
  let ring := Tab.ins seq (bs ++ tag) h.lkRing
  let h1 : Hub := { h with lkRing := if 16384 ≤ seq then Tab.del (seq - 16384) ring else ring }
  h1.wr LKT.HEAD_SEQ (seq + 1) |>.wr LKT.OLDEST_SEQ (max (h.rd LKT.OLDEST_SEQ) (seq + 1 - 16384))

/-- The front record of the writer's queue goes to the ring, or is lost where the store fails (R661, R669). -/
def locketWrite (h : Hub) (storeOk : Bool) : Hub :=
  match h.lkQueue with
  | [] => h
  | r :: rs =>
    let h1 : Hub := { h with lkQueue := rs }
    if storeOk then h1.writeRecord r else h1.raise 0xA 1

/-- Every record that waits is written: an action waits for its record (R653, R657). -/
def locketFlush (h : Hub) : Hub := h.each h.lkQueue fun _ h => h.locketWrite true

/-- The state of a record's tag (R663): 0 unsealed, 1 verified, 2 failed, 3 sealed in another life cycle. A record of
Fjarosh's own types carries no life cycle. -/
def tagState (h : Hub) (seq : Nat) (bs : Bytes) : Nat :=
  if (leAt bs 7 1).testBit 0 = false then 0
  else if leAt bs 6 1 < 128 ∧ leAt bs 18 1 ≠ h.rd LCS.STATE_LC then 3
  else if h.canSeal && h.recordTag seq (bs.take 48) == sliceOf 48 16 bs then 1
  else 2

/-- A record loaded into RDATA (R663). -/
def locketLoad (h : Hub) (seq : Nat) : Hub :=
  let h1 := h.wr LKT.RSEQ_SEQ seq
  match Tab.find (seq % 2 ^ 32) h.lkRing with
  | none => h1.wr LKT.RSTAT_ABSENT 1 |>.wr LKT.RSTAT_TAG 0
  | some bs =>
    (h1.setBuf LKT.RDATA (padTo 64 bs)).wr LKT.RSTAT_ABSENT 0 |>.wr LKT.RSTAT_TAG (h.tagState (seq % 2 ^ 32) bs)

/-! ### The access table -/

/-- The defined bits of word `w` of an entry (R642). -/
def actMask (w : Nat) : Nat := [0xFFFFFFF, 0xFFFFFFF, 0x303FF, 0x3BFFF, 0xF, 0, 0, 0xFF07].getD w 0

/-- Whether the words of an entry break a limit of R643. -/
def actBad (ws : List Nat) : Bool :=
  let w (i : Nat) : Nat := ws.getD i 0
  (w 7).testBit 0 &&
    (decide (w 1 < w 0) || bits (w 3) 16 2 == 3 || bits (w 4) 2 2 == 3 || bits (w 2) 0 10 == 0 ||
      (bits (w 3) 16 2 == 0 && decide (0x7FF < w 1)))

/-- A write of `v` to EW7 (R643, R648, R667). -/
def actWrite (h : Hub) (v : Nat) (c : Cap := {}) : Hub :=
  let e := h.rd ACT.ESEL_ENTRY
  let ws := (List.range 8).map fun w => (if w = 7 then v else h.rd (ACT.EW.word w)) &&& actMask w
  let h1 := h.wr ACT.EW7_DATA v
  if h.actLocked e then h1.raise 8 1 { c with lo := some e }
  else if actBad ws then h1.raise 8 2 { c with lo := some e }
  else
    let h2 := h1.setTwords (0x5C0000 + 32 * e) ws
    h2.wr ACT.STAT_ENABLED (h.rd ACT.STAT_ENABLED + bnat (h2.actEn e) - bnat (h.actEn e))
      |>.wr ACT.STAT_LOCKED (h.rd ACT.STAT_LOCKED + bnat (h2.actLocked e)) |>.wr ACT.SYNC_WRITES (h.rd ACT.SYNC_WRITES + 1)

/-! ### Debug -/

/-- STAT.STATE of DBG set; every change sets ISTAT.STATE (R671). -/
def setDbg (h : Hub) (st : Nat) : Hub :=
  if h.rd DBG.STAT_STATE = st then h else (h.wr DBG.STAT_STATE st).irq 0xC 0

/-- Whether the token in AUTHPUB and AUTHSIG holds: by the key of signer hash `k`, over a tag, the device ID, further bytes
and a nonce (R650, R656). -/
def tokenHolds (h : Hub) (pub sig nonce : Fld) (k : Nat) (tag : String) (more : Bytes) : Bool :=
  let key := h.bufBytes pub 97
  (k == 0 || k == 2) && h.bit KEY.FUSE_KEYPRES k && !h.bit KEY.FUSE_KEYREV k &&
    padTo 48 (Config.sha384 key) == Tab.get [] k h.signers &&
    Config.ecdsaOk key (ascii tag ++ natLe 8 h.deviceId ++ more ++ h.bufBytes nonce 32) (h.bufBytes sig 96)

/-- CTL.UNLOCK (R650). -/
def unlock (h : Hub) (c : Cap := {}) : Hub :=
  if h.on DBG.STAT_LOCKOUT then h
  else if h.tokenHolds DBG.AUTHPUB DBG.AUTHSIG DBG.NONCE (h.rd DBG.AUTHKEY_INDEX) "DBG1" [] then
    ((renewNonce DBG.NONCE h).setDbg 2).locketOpen 0x0B
  else
    let n := h.rd DBG.STAT_FAILS + 1
    ((renewNonce DBG.NONCE h).wr DBG.STAT_FAILS (min 3 n) |>.wr DBG.STAT_LOCKOUT (bnat (decide (3 ≤ n)))).raise 0xC 1 c

/-- One injected fault (R655). -/
def injectFault (h : Hub) (kind bit page : Nat) : Hub :=
  let h1 := h.cnt DBG.CNT_FI_COUNT
  match kind with
  | 0 => h1.when (pageRow? page).isSome fun h => h.raise page bit
  | 1 => h1.wr SWB.hFlip 1
  | 2 => h1.wr SWB.hFlip 2
  | 3 => h1.wr OPT.hBadCrc 1 (page % 8)
  | 4 => h1.wrBit FIL.hParity (page % 16) true
  | _ => h

/-- A write of `v` to DBG.FI with GO (R655). -/
def faultGo (h : Hub) (v : Nat) (c : Cap := {}) : Hub :=
  if h.rd LCS.STATE_LC ≠ 2 then h.raise 0xC 0 c
  else
    (h.wr DBG.FI_KIND (bits v 0 3) |>.wr DBG.FI_BIT (bits v 3 5) |>.wr DBG.FI_PAGE (bits v 8 12)).injectFault
      (bits v 0 3) (bits v 3 5) (bits v 8 12)

/-! ### The life cycle -/

/-- Whether a change of the life cycle exists (R656). -/
def lcAllowed (lc new : Nat) : Bool :=
  (lc == 1 && new == 2) || (lc == 2 && (new == 3 || new == 4)) || (lc == 3 && (new == 4 || new == 5)) || (lc == 4 && new == 5) ||
    (lc != 6 && new == 6)

/-- CTL.GO of LCS (R656, R657). -/
def lcGo (h : Hub) : Hub :=
  let new := h.rd LCS.TARGET_LC
  let refuse (c : Nat) (h : Hub) : Hub := h.wr LCS.STAT_DONE 3 |>.wr LCS.STAT_CODE c
  if h.rd LCS.STAT_DONE = 1 then h
  else if !lcAllowed (h.rd LCS.STATE_LC) new then refuse 1 h
  else if h.rd LCS.CONFIRM_VALUE ≠ h.rd KEY.DEVID_LO_ID then refuse 2 h
  else
    let h1 := if new = 5 then renewNonce LCS.NONCE h else h
    if new = 5 ∧ (h.rd LCS.AUTHKEY_INDEX ≠ 0 ∨ h.tokenHolds LCS.AUTHPUB LCS.AUTHSIG LCS.NONCE 0 "LCS1" (natLe 1 new) = false) then
      refuse 3 h1
    else if h.rd UPD.STAT_STATE = 5 then refuse 4 h1
    else (h1.wr LCS.STAT_DONE 1 |>.wr LCS.STAT_CODE 0 |>.wr LCS.hTo new).locketOpen 8

/-- STRAPS as sampled, and MGP.ADDR with them (R674, R693). -/
def setStraps (h : Hub) (v : Nat) : Hub :=
  h.wr TOP.STRAPS_MGP_A (bits v 0 3) |>.wr MGP.ADDR_ADDR (0x58 + bits v 0 3) |>.wr TOP.STRAPS_QSPI_TWIN (bits v 3 1)
    |>.wr TOP.STRAPS_RECOV_N (bits v 4 1) |>.wr TOP.hStraps (bits v 0 5)

/-- HRST that no ball brings, by the bit `cause` of BOOTCAUSE (R9, R693): the straps are sampled anew, at the levels that their
resistors hold. -/
def hrst (h : Hub) (cause : Nat) : Hub := let h1 := h.hardReset false cause; h1.setStraps (h1.rd TOP.hStraps)

/-- Steps 3 to 5 of R657: the fuses, the wipe, and HRST. -/
def lcDone (h : Hub) (fuseOk : Bool) (straps : Nat) : Hub :=
  if !fuseOk then h.wr LCS.STAT_DONE 3 |>.wr LCS.STAT_CODE 5
  else (((h.locketFlush.wr LCS.STATE_LC (h.rd LCS.hTo)).wipeStore).hardReset false 6).setStraps straps

/-! ### Escalation -/

/-- The stage of the class of error bit `n` of page `pg` (R651). -/
def escClass (pg n : Nat) : Nat :=
  match pg, n with
  | 2, 3 => 2 | 2, 5 => 2 | 1, 1 => 2 | 0x48, 1 => 1 | 0x4B, 0 => 1 | 0x88, 2 => 2 | 0x89, 0 => 1 | 0x81, 1 => 1 | 8, 3 => 3
  | _, _ => 0

/-- The stage that page `pg` takes at expiry (R652): 1 s is 4 × 10^8 CD2 cycles (R78). ESC.TIME 0 disables escalation (R36). -/
def escStage (h : Hub) (pg : Nat) : Nat :=
  if h.rd HDR.ESC_TIME pg = 0 then 0
  else
  let set := h.rd HDR.ESTAT pg &&& h.rd HDR.EEN pg
  let s := (((List.range 32).filter set.testBit).map (escClass pg)).foldl max 0
  let last := h.rd HDR.hEscStage pg
  let again := last != 0 && h.on HDR.hEscAgain pg && decide (h.cyc - h.rd HDR.hEscAt pg ≤ 400000000)
  min (h.rd HDR.ESC_CEIL pg) (if again then max s (last + 1) else s)

/-- The escalation timer of page `pg` expires (R651 to R653, R672). -/
def escalate (h : Hub) (pg : Nat) : Hub :=
  let h0 := h.wr HDR.hEscRun 0 pg
  let s0 := h.escStage pg
  let s := if s0 = 2 ∧ h.rd PDM.STATE_CURRENT = 2 then 1 else s0
  if s = 0 then h0
  else
    let h1 := (h0.locketPut (h0.pageRec 2 pg s)).locketFlush
    let h2 := h1.wr HDR.hEscStage s pg |>.wr HDR.hEscAt h.cyc pg |>.wr HDR.hEscAgain 0 pg
    if s = 3 then h2.hrst 5
    else
      let h3 := (h2.cnt (if s = 1 then TEL.ESCCNT_STAGE1 else TEL.ESCCNT_STAGE2)).wr TEL.ESCLAST_PAGE pg
        |>.wr TEL.ESCLAST_STAGE s |>.wr TEL.ESCLAST_VALID 1
      if s = 2 then h3.enterSolitaire
      else if 0x48 ≤ pg ∧ pg ≤ 0x4B then h3.each [0x49, 0x4A, 0x4B, 0x48] fun q h => h.softReset q 2
      else h3.softReset pg 1

end Hub

/-! ### Commands -/

/-- ACCESS_ENTRY_WRITE (R643). -/
def execAccessEntryWrite (r : Req) (v : Nat) (s : State) : Host.Outcome State Fault Refusal :=
  s.act fun h => h.asReg r ACT.EW7_DATA 0 fun h => h.actWrite v (Hub.regCap r ACT.EW7_DATA 0)

/-- ACCESS_SYNC (R648): in this model no access is under way between two commands, so the read returns at once. -/
def execAccessSync (r : Req) (s : State) : Host.Outcome State Fault Refusal :=
  s.act fun h => h.asRead r 0x8108 4 fun h => ([h.rd ACT.SYNC_WRITES], h)

/-- DEBUG_UNLOCK (R650). -/
def execDebugUnlock (r : Req) (s : State) : Host.Outcome State Fault Refusal :=
  s.act fun h => h.asReg r DBG.CTL_UNLOCK 0 fun h => h.when (h.up 0xC) fun h => h.unlock (Hub.regCap r DBG.CTL_UNLOCK 0)

/-- RELOCK (R650). -/
def execRelock (r : Req) (s : State) : Host.Outcome State Fault Refusal :=
  s.act fun h => h.asReg r DBG.CTL_RELOCK 0 fun h => h.when (h.up 0xC && h.rd DBG.STAT_STATE == 2) fun h =>
    let lc := h.rd LCS.STATE_LC
    h.setDbg (if lc = 1 ∨ lc = 2 ∨ lc = 3 ∨ lc = 5 then 1 else 0)

/-- FAULT_INJECT (R655). -/
def execFaultInject (r : Req) (v : Nat) (s : State) : Host.Outcome State Fault Refusal :=
  s.act fun h => h.asReg r DBG.FI_GO 0 fun h => h.when (h.up 0xC) fun h => h.faultGo v (Hub.regCap r DBG.FI_GO 0)

/-- LIFE_CYCLE_CHANGE (R656, R657). -/
def execLifeCycleChange (r : Req) (s : State) : Host.Outcome State Fault Refusal :=
  s.act fun h => h.asReg r LCS.CTL_GO 0 fun h => h.when (h.up 0xB) fun h => h.lcGo

/-- LIFE_CYCLE_WIPE_DONE (R657). -/
def execLifeCycleWipeDone (fuseOk : Bool) (straps : Nat) (s : State) : Host.Outcome State Fault Refusal :=
  s.act fun h => h.when (h.domOn 1 && h.rd LCS.STAT_DONE == 1) fun h => h.lcDone fuseOk straps

/-- LOCKET_WRITE (R661). -/
def execLocketWrite (storeOk : Bool) (s : State) : Host.Outcome State Fault Refusal :=
  s.act fun h => h.when (h.up 0xA) fun h => h.locketWrite storeOk

/-- LOCKET_FIRMWARE_RECORD (R660, R669): WCTL written with GO. -/
def execLocketFirmwareRecord (r : Req) (v : Nat) (s : State) : Host.Outcome State Fault Refusal :=
  s.act fun h => h.asReg r LKT.WCTL_GO 0 fun h => h.when (h.up 0xA) fun h =>
    (h.wr LKT.WCTL_TYPE v).locketPut { typ := v % 256, own := some (h.bufBytes LKT.WDATA 32) }

/-- LOCKET_READ (R663). -/
def execLocketRead (r : Req) (seq : Nat) (s : State) : Host.Outcome State Fault Refusal :=
  s.act fun h => h.asReg r LKT.RSEQ_SEQ 0 fun h => h.when (h.up 0xA) fun h => h.locketLoad seq

/-- MARKCLR (R662). -/
def execMarkclr (r : Req) (s : State) : Host.Outcome State Fault Refusal :=
  s.act fun h => h.asReg r LKT.CTL_MARKCLR 0 fun h => h.when (h.up 0xA) fun h =>
    h.wr LKT.MARK_LO_TICK 0 |>.wr LKT.MARK_HI_TICK 0 |>.wr LKT.MARK_HI_VALID 0

/-- LKT_RD (R666): LKT_RSP carries the record as the packet's second cell. -/
def execLktRd (src tok seq : Nat) (s : State) : Host.Outcome State Fault Refusal :=
  s.act fun h => h.when (h.up 0xA && h.domOn 2) fun h =>
    let (st, tag, bs) : Nat × Nat × Bytes :=
      if !h.isCrown src then (3, 0, [])
      else
        match Tab.find (seq % 2 ^ 32) h.lkRing with
        | none => (1, 0, [])
        | some bs => (0, h.tagState (seq % 2 ^ 32) bs, padTo 64 bs)
    h.ctlSend { typ := 0x63, resp := true, dst := src, tok := tok, body := padTo 56 (natLe 1 st ++ natLe 1 tag) ++ bs }

/-- ESCALATION_EXPIRY (R652, R653): the timer of page `pg` expires. -/
def execEscalationExpiry (pg : Nat) (s : State) : Host.Outcome State Fault Refusal :=
  s.act fun h => h.when (h.domOn (pageDom pg) && (pageRow? pg).isSome && !noIrq pg && h.on HDR.hEscRun pg) fun h => h.escalate pg

end Sys2Proof.Machine
end

