-- ==== Sys2Proof/Machine/Telemetry.lean ====
section
/-! DEFINITION. What a read finds in registers that follow the moment, and the telemetry engine (R664 to R666, R672). -/

namespace Sys2Proof.Machine

namespace Hub

/-- Registers of page `pg` that follow the moment brought up to date before a read at offset `off`: meter and shaper
buckets (R296, R304), KEY.RAND and slot attributes (R638), RET.NEED (R579), the pixels that a head's FIFO holds in the active area, which hang on
the fetch (R397), the counts of a PCI Express link and its WAKE# (R433, R449, R450), of FEC blocks and of symbol errors (R469, R471), the refresh and the wipe of frame memory, each as a
free value (R443, R445), the mode of the last transfer of the management port, which no command names (R673, R689), the candidate flag and the crown's open intents (R318, R329). -/
def fresh (h : Hub) (pg off : Nat) : Hub :=
  if pg = 0x60 then h.when h.mselOk fun h => h.meterSet (h.rd MTR.MSEL_METER) (h.meterNow (h.rd MTR.MSEL_METER))
  else if 0x50 ≤ pg ∧ pg ≤ 0x5D then
    let c := h.rd SCH.QSEL_CLASS (pg - 0x50)
    (h.shaperSet (pg - 0x50) c (h.shaperNow (pg - 0x50) c)).when (off == 0x118) fun h =>
      h.showHead (pg - 0x50) c ((h.heads (pg - 0x50)).find? fun x => x.cls == c)
  else if pg = 0x0E then (h.when (off == 0x208) fun h => h.wrFree KEY.RAND_DATA).refreshSlots
  else if pg = 0x05 then h.refreshNeed
  else if pg = 0x0D then
    h.when (off == 0x118 && (h.on MGP.AUTHCTL_PENDING || !h.mgpResp.isEmpty)) fun h =>
      let (v, h') := h.free
      h'.wr MGP.BUS_MODE (v % 3)
  else if pg = 0x68 then
    (h.wr CAS.STAT_CAND (bnat h.isCandidate)).when (h.rd CAS.STAT_CROLE == 1) fun h => h.wr CAS.HBSTAT_OPEN h.openIntents
  else if pg = 0x80 then h.when (off == 0x1C0) seeWake
  else if pg = 0x81 then
    (h.when (off == 0x128 && h.on PCI.LSTAT_DL_UP) (linkErrors PCI.CNT_REPLAY_COUNT 0)).when (off == 0x12C && h.on PCI.LSTAT_DL_UP)
      (linkErrors PCI.CNT_RXERR_COUNT 0)
  else if pg = 0x82 then
    h.when (off == 0x110 && h.up 0x81 && h.on PCI.LSTAT_DL_UP) (linkErrors PPH.LERR_COUNT (h.rd PPH.LSEL_LANE))
  else if pg = 0x90 ∨ pg = 0x91 then
    h.when (off == 0x148 && h.on ETH.STAT_LINK (pg - 0x90) && h.on ETH.CFG_FEC (pg - 0x90)) fun h =>
      let (v, h') := h.free
      (h'.cntN ETH.CNT_FEC_CE (v % 2 ^ 16) (pg - 0x90)).cntN ETH.CNT_FEC_UE (v / 2 ^ 16) (pg - 0x90)
  else if pg = 0xA0 then
    h.when (off == 0x11C && h.on USB.STAT_UPACT) (linkErrors USB.CNT_TTERR_COUNT 0)
  else if 0x93 ≤ pg ∧ pg ≤ 0x9A then
    h.when (off == 0x108 && h.on LMP.STAT_LINK (pg - 0x93)) fun h =>
      let (v, h') := h.free
      h'.cntN LMP.CNT_SYM_COUNT v (pg - 0x93)
  else if pg = 0x88 then
    (h.when (off == 0x118 && h.memReady) fun h =>
      let (v, h') := h.free
      h'.wr MEM.HOLDMAX_NS (max (h.rd MEM.HOLDMAX_NS) (v % 1201))).when (off == 0x108 && h.on MEM.WIPE_BUSY) fun h =>
        let (v, h') := h.free
        h'.wr MEM.WIPE_PCT (max (h.rd MEM.WIPE_PCT) (v % 100))
  else if 0x71 ≤ pg ∧ pg ≤ 0x74 then
    h.when (off == 0x144 && h.head (pg - 0x71) == 3 && !h.on DHD.STAT_VBLANK (pg - 0x71) && !h.on DHD.hUnder (pg - 0x71)) fun h =>
      let (v, h') := h.free
      h'.wr DHD.FIFO_LEVEL (v % 16385) (pg - 0x71)
  else if 0xB0 ≤ pg ∧ pg ≤ 0xB7 then h.when (off == 0x128 || off == 0x12C) fun h => h.claspMeasure (pg - 0xB0)
  else if 0xB8 ≤ pg ∧ pg ≤ 0xB9 then
    (h.when (off == 0x118 || off == 0x11C) fun h => h.pdMeasure (pg - 0xB8)).when (off == 0x128 && h.on TCP.STAT_ATTACHED (pg - 0xB8))
      (linkErrors TCP.CNT_MSGERR_COUNT (pg - 0xB8))
  else if 0xC0 ≤ pg ∧ pg ≤ 0xC7 then h.when (off == 0x120 || off == 0x124) fun h => h.lpoMeasure (pg - 0xC0)
  else if 0x20 ≤ pg ∧ pg ≤ 0x3F then
    h.when ((off == 0x118 || off == 0x11C) && h.tracks (pg - 0x20) && !h.on OLN.RXCTL_FREEZE (pg - 0x20)) (adapt (pg - 0x20))
  else h

/-- One word of a page as a snapshot finds it; of a page whose domain is off, a value that the spec leaves open. -/
def snapWord (h : Hub) (pg off : Nat) : Nat × Hub :=
  if h.domOn (pageDom pg) then
    let h' := h.fresh pg off
    (h'.readReg pg off, h')
  else
    let (v, h') := h.free
    (v % 2 ^ 32, h')

/-- Source `i` copied to the snapshot from word `pos` (R664): the position after it, and the node. -/
def snapSource (c : Cap) (p : Nat × Hub) (i : Nat) : Nat × Hub :=
  let (pos, h) := p
  let pg := h.rd TEL.SRC_PAGE 0 i
  let n := h.rd TEL.SRC_COUNT 0 i
  if n = 0 then p
  else if (pageRow? pg).isNone || decide (64 < n) || decide (956 < pos + n) then (pos, h.raise 6 0 c)
  else
    (pos + n, (h.wr TEL.SRCPOS_WORD pos 0 i).each (List.range n) fun j h =>
      let (v, h') := h.snapWord pg (h.rd TEL.SRC_OFFSET 0 i / 4 * 4 + 4 * j)
      h'.wr (TEL.SNAPDATA.word (pos + j)) v)

/-- A snapshot (R664, R665): taken, and sent where CFG.SEND is 1 and TID names a tunnel. The status is that of R666. -/
def snapshot (h : Hub) (c : Cap := {}) : Nat × Hub :=
  let num := h.rd TEL.SNAPNUM_NUM + 1
  let h1 := h.wr TEL.SNAPNUM_NUM num |>.wr TEL.SNAPTIME_LO_NS h.now |>.wr TEL.SNAPTIME_HI_NS (h.now / 2 ^ 32)
  let q := (List.range 64).foldl (snapSource c) (0, h1)
  let h3 := (q.2.cnt TEL.CNT_SNAP_COUNT).irq 6 0
  let bs := natLe 2 1 ++ natLe 2 (h3.rd CAS.NODEID_ID) ++ natLe 4 num ++ natLe 8 h.now ++ h3.bufBytes TEL.SNAPDATA (4 * q.1)
  if h.on TEL.SSTAT_BUSY then (1, h.raise 6 1 c)
  else if !h3.on TEL.CFG_SEND then (0, h3)
  else if (h3.tunFind (h3.rd TEL.TID_TID)).isNone then (2, h3)
  else
    (0, ({ h3 with telOut := h3.telOut ++ [(h3.rd TEL.TID_TID, bs)] } : Hub).wr TEL.SSTAT_BUSY 1 |>.cnt TEL.CNT_SENT_COUNT)

end Hub

/-! ### Commands -/

/-- TELEMETRY_SNAPSHOT (R664). -/
def execTelemetrySnapshot (r : Req) (s : State) : Host.Outcome State Fault Refusal :=
  s.act fun h => h.asReg r TEL.SNAP_GO 0 fun h => h.when (h.up 6) fun h => (h.snapshot (Hub.regCap r TEL.SNAP_GO 0)).2

/-- TELEMETRY_PERIOD (R664): a period of CFG.PERIOD_MS ends. -/
def execTelemetryPeriod (s : State) : Host.Outcome State Fault Refusal :=
  s.act fun h => h.when (h.up 6 && h.on TEL.CFG_PERIOD_MS) fun h => h.snapshot.2

/-- TEL_SNAP (R666). -/
def execTelSnap (src tok : Nat) (s : State) : Host.Outcome State Fault Refusal :=
  s.act fun h => h.when (h.up 6 && h.domOn 2) fun h =>
    let (st, h1) := if h.isCrown src then h.snapshot else (3, h)
    h1.ctlSend { typ := 0x61, resp := true, dst := src, tok := tok, body := natLe 4 st ++ natLe 4 (h1.rd TEL.SNAPNUM_NUM) }

end Sys2Proof.Machine
end

