-- ==== Sys2Proof/Machine/Mgp.lean ====
section
/-! DEFINITION. The management port and Tsudy (R673 to R690), but for the register accesses of RD, WR and WRF, which stand in
Machine/Window.lean. The SMBus layer appears as the requests, the Block Read and the timeout of the table of commands. -/

namespace Sys2Proof.Machine

namespace Hub

/-- Whether the port takes a request: MGMT is up and no request runs (R680). -/
def mgpFree (h : Hub) : Bool := h.up 0xD && !h.on MGP.AUTHCTL_PENDING

/-- A response without TAG ready (R677, R680). -/
def mgpReply (h : Hub) (status op seq : Nat) (data : Bytes) : Hub :=
  { h with mgpResp := natLe 1 status ++ natLe 1 op ++ natLe 2 seq ++ data }

/-- The key of the session (R678). -/
def sessKey (h : Hub) : Bytes := h.keyFor (h.rd MGP.CFG_KSLOT) 4

/-- TAG of a block (R678); `d` is 0 for a request and 1 for a response. -/
def tsudyTag (h : Hub) (d seq : Nat) (block : Bytes) : Bytes :=
  padTo 8 (Config.gmac h.sessKey (natLe 4 (h.rd MGP.SID_SID) ++ natLe 1 d ++ natLe 5 0 ++ natLe 2 seq) block)

/-- A response with TAG ready. -/
def mgpTagged (h : Hub) (status op seq : Nat) (data : Bytes) : Hub :=
  let b := natLe 1 status ++ natLe 1 op ++ natLe 2 seq ++ data
  { h with mgpResp := b ++ h.tsudyTag 1 seq b }

/-- The session closes (R684, R688). -/
def closeSession (h : Hub) : Hub :=
  if !h.on MGP.SESS_OPEN then h
  else
    (((h.wr MGP.SESS_OPEN 0).wr MGP.hTagFails 0).irq 0xD 0).when (h.on MGP.CLAIM_HELD && h.rd MGP.CLAIM_OWNER == 3) fun h =>
      (h.wr MGP.CLAIM_HELD 0).irq 0xD 2

/-- A session request (R677, R678, R681, R682): `op` with its parameters, the block count `len` against the one the OP needs,
and what it does where it is carried out: a status, response data and the node. -/
def sessionReq (h : Hub) (op : Nat) (f : TsudyFrame) (params : Bytes) (need : Nat) (run : Hub → Nat × Bytes × Hub) : Hub :=
  if !h.on MGP.SESS_OPEN then h.mgpReply 6 op f.seq []
  else if padTo 8 f.tag ≠ h.tsudyTag 0 f.seq (natLe 1 op ++ natLe 2 f.seq ++ params) then
    let n := h.rd MGP.hTagFails + 1
    let h1 := (((h.wr MGP.hTagFails n).cnt MGP.CNT_AUTH_TAG).raise 0xD 2 { lo := some (f.seq % 2 ^ 16) }).mgpReply 7 op f.seq []
    h1.when (decide (4 ≤ n)) closeSession
  else if f.seq % 2 ^ 16 ≠ (h.rd MGP.SESS_SEQ + 1) % 2 ^ 16 then
    (((h.wr MGP.hTagFails 0).cnt MGP.CNT_SEQ_COUNT).raise 0xD 4).mgpReply 8 op f.seq []
  else
    let h1 := (h.wr MGP.hTagFails 0 |>.wr MGP.SESS_SEQ f.seq).cnt MGP.CNT_REQ_COUNT
    let (st, data, h2) := if f.len = need then run h1 else (5, [], h1)
    h2.when (h2.up 0xD) fun h => h.mgpTagged st op f.seq (if f.len ≠ need ∧ op ≠ 6 then natLe 1 0 else data)

/-- An OP served by MCPU awaits it (R679, R680, R690). -/
def mgpPend (h : Hub) (op seq : Nat) : Hub :=
  (((({ h with mgpResp := [] } : Hub).cnt MGP.CNT_REQ_COUNT).wr MGP.AUTHCTL_PENDING 1).wr MGP.AUTHCTL_OP op
    |>.wr MGP.hSeq seq).irq 0xD 1

/-- Bytes stored in AUTHBUF from byte `at_` (R689). -/
def authStore (h : Hub) (at_ : Nat) (bs : Bytes) : Hub :=
  let old := h.bufBytes MGP.AUTHBUF 256
  h.setBuf MGP.AUTHBUF (old.take at_ ++ bs ++ old.drop (at_ + bs.length))

/-- AUTHCTL.ACCEPT (R683, R689). -/
def mgpAccept (h : Hub) : Hub :=
  let op := h.rd MGP.AUTHCTL_OP
  let seq := h.rd MGP.hSeq
  let h1 := h.wr MGP.AUTHCTL_PENDING 0
  if op = 2 then h1.mgpReply 0 op seq (h.bufBytes MGP.REPLY 49)
  else if op = 3 then
    (h1.wr MGP.SID_SID (h.rd (MGP.REPLY.word 0)) |>.wr MGP.SESS_AUTHING 1 |>.wr MGP.SESS_KEYIDX
      (h.rd (MGP.AUTHBUF.word 0) % 256)).mgpReply 0 op seq (h.bufBytes MGP.REPLY 53)
  else
    ((h1.wr MGP.SESS_OPEN 1 |>.wr MGP.SESS_AUTHING 0 |>.wr MGP.SESS_SEQ 0 |>.wr MGP.hTagFails 0).irq 0xD 0).mgpReply 0 op seq []

/-- AUTHCTL.REJECT (R683, R689). -/
def mgpReject (h : Hub) : Hub :=
  let op := h.rd MGP.AUTHCTL_OP
  let h1 := h.wr MGP.AUTHCTL_PENDING 0
  if op = 5 then
    (((h1.cnt MGP.CNT_AUTH_AUTHFAIL).raise 0xD 1).wr MGP.SID_SID 0 |>.wr MGP.SESS_AUTHING 0).mgpReply 11 op (h.rd MGP.hSeq) []
  else h1.mgpReply 2 op (h.rd MGP.hSeq) []

/-- The response data of IDENT (R679). -/
def identData (h : Hub) : Bytes :=
  natLe 8 h.deviceId ++ [h.lcByte] ++ natLe 1 (h.rd TOP.NODECFG_ROLE) ++ natLe 2 (h.rd CAS.NODEID_ID) ++
    natLe 1 (h.rd PDM.STATE_CURRENT) ++ natLe 1 (h.rd AON.BOOTCAUSE_CAUSE) ++
    natLe 1 (bnat (h.on UPD.STAT_RECOVERY) + 2 * bnat (h.on MGP.SESS_OPEN) + 4 * bnat (h.on ACT.CFG_LOADED))

/-- What a Block Read returns (R680). -/
def mgpShown (h : Hub) : Bytes :=
  if h.on MGP.AUTHCTL_PENDING then natLe 1 9 ++ natLe 1 (h.rd MGP.AUTHCTL_OP) ++ natLe 2 (h.rd MGP.hSeq) else h.mgpResp

end Hub

/-! ### Commands -/

/-- IDENT (R679). -/
def execIdent (seq : Nat) (s : State) : Host.Outcome State Fault Refusal :=
  s.act fun h => h.when h.mgpFree fun h => (h.cnt MGP.CNT_REQ_COUNT).mgpReply 0 1 seq h.identData

/-- GETKEY (R679, R680). -/
def execGetkey (seq : Nat) (s : State) : Host.Outcome State Fault Refusal :=
  s.act fun h => h.when h.mgpFree fun h => h.mgpPend 2 seq

/-- OPEN (R679, R681, R683, R684). -/
def execOpenSess (seq keyIdx : Nat) (toolKey : Bytes) (s : State) : Host.Outcome State Fault Refusal :=
  s.act fun h => h.when h.mgpFree fun h =>
    if toolKey.length ≠ 49 then h.mgpReply 5 3 seq []
    else
      let h1 := h.closeSession
      if h1.rd LCS.STATE_LC = 6 then (h1.cnt MGP.CNT_REQ_COUNT).mgpReply 2 3 seq []
      else (h1.authStore 0 (natLe 1 keyIdx ++ toolKey)).mgpPend 3 seq

/-- AUTH (R679, R681, R683, R689): up to 48 bytes of SIG ‖ PUB. -/
def execAuth (seq chunk : Nat) (data : Bytes) (s : State) : Host.Outcome State Fault Refusal :=
  s.act fun h => h.when h.mgpFree fun h =>
    if 4 < chunk ∨ (if chunk = 4 then 1 else 48) < data.length then h.mgpReply 5 4 seq []
    else ((h.cnt MGP.CNT_REQ_COUNT).authStore (0x38 + 48 * chunk) data).mgpReply 0 4 seq []

/-- AUTH_GO (R679, R683). -/
def execAuthGo (seq : Nat) (s : State) : Host.Outcome State Fault Refusal :=
  s.act fun h => h.when h.mgpFree fun h => h.mgpPend 5 seq

/-- CLOSE (R679, R684): its response carries the TAG of the session that it closes. -/
def execClose (f : TsudyFrame) (s : State) : Host.Outcome State Fault Refusal :=
  s.act fun h => h.when h.mgpFree fun h =>
    let h1 := h.sessionReq 6 f [] 11 fun h => (0, [], h)
    h1.when (h1.mgpResp.take 1 == natLe 1 0) fun h => h.closeSession

/-- RESPONSE_READ (R680). -/
def execResponseRead (s : State) : Host.Outcome State Fault Refusal :=
  s.act fun h => h.when (h.up 0xD) fun h => { h with mgpRead := h.mgpShown }

/-- SMBUS_TIMEOUT (R673, R690). -/
def execSmbusTimeout (s : State) : Host.Outcome State Fault Refusal :=
  s.act fun h => h.when (h.up 0xD) fun h => (h.cnt MGP.CNT_TIMEOUT_COUNT).raise 0xD 3

/-- MCPU_OP_TIMEOUT (R680, R681). -/
def execMcpuOpTimeout (s : State) : Host.Outcome State Fault Refusal :=
  s.act fun h => h.when (h.up 0xD && h.on MGP.AUTHCTL_PENDING) fun h =>
    (h.wr MGP.AUTHCTL_PENDING 0).mgpReply 10 (h.rd MGP.AUTHCTL_OP) (h.rd MGP.hSeq) []

/-- SESSION_IDLE (R684): CFG.IDLE_S seconds have passed without an accepted request. -/
def execSessionIdle (s : State) : Host.Outcome State Fault Refusal :=
  s.act fun h => h.when (h.up 0xD) fun h => h.closeSession

/-- SESSION_CLOSE (R684): CTL.CLOSE. -/
def execSessionClose (r : Req) (s : State) : Host.Outcome State Fault Refusal :=
  s.act fun h => h.asReg r MGP.CTL_CLOSE 0 fun h => h.when (h.up 0xD) fun h => h.closeSession

/-- AUTH_ACCEPT (R683, R689). -/
def execAuthAccept (r : Req) (s : State) : Host.Outcome State Fault Refusal :=
  s.act fun h => h.asReg r MGP.AUTHCTL_ACCEPT 0 fun h => h.when (h.up 0xD && h.on MGP.AUTHCTL_PENDING) fun h => h.mgpAccept

/-- AUTH_REJECT (R683, R689). -/
def execAuthReject (r : Req) (s : State) : Host.Outcome State Fault Refusal :=
  s.act fun h => h.asReg r MGP.AUTHCTL_REJECT 0 fun h => h.when (h.up 0xD && h.on MGP.AUTHCTL_PENDING) fun h => h.mgpReject

/-- CLAIM_TAKE (R688). -/
def execClaimTake (r : Req) (s : State) : Host.Outcome State Fault Refusal :=
  s.act fun h => h.asReg r MGP.CLAIM_TAKE 0 fun h => h.when (h.up 0xD && !h.on MGP.CLAIM_HELD) fun h =>
    ((h.wr MGP.CLAIM_OWNER (masterNum r.master)).wr MGP.CLAIM_HELD 1).irq 0xD 2

/-- CLAIM_RELEASE (R688). -/
def execClaimRelease (r : Req) (s : State) : Host.Outcome State Fault Refusal :=
  s.act fun h => h.asReg r MGP.CLAIM_RELEASE 0 fun h =>
    h.when (h.up 0xD && h.on MGP.CLAIM_HELD && h.rd MGP.CLAIM_OWNER == masterNum r.master) fun h =>
      (h.wr MGP.CLAIM_HELD 0).irq 0xD 2

end Sys2Proof.Machine
end

