-- ==== Sys2Proof/Machine/System.lean ====
section
/-! DEFINITION. Resets, the header's commands, PLLs, node time, balls and general timers (R9 to R13, R36 to R47, R84, R693,
R705 to R717). -/

namespace Sys2Proof.Machine

/-- The counters that CNTCLR of a page clears, by the first page of its block: offsets from, to. -/
def cntRanges (first : Nat) : List (Nat × Nat) :=
  match first with
  | 0x20 => [(0x130, 0x140)] | 0x10 => [(0x240, 0x264)] | 0x40 => [(0x110, 0x12C)] | 0x41 => [(0x110, 0x11C)]
  | 0x48 => [(0x130, 0x150)] | 0x49 => [(0x10C, 0x110), (0x134, 0x134)] | 0x4A => [(0x108, 0x108), (0x114, 0x118)]
  | 0x4B => [(0x100, 0x114)] | 0x61 => [(0x160, 0x17C)] | 0x50 => [(0x128, 0x12C), (0x140, 0x150)] | 0x60 => [(0x140, 0x144)]
  | 0x68 => [(0x160, 0x16C)] | 0x75 => [(0x118, 0x124)] | 0x77 => [(0x12C, 0x140), (0x1A0, 0x1B4), (0x1C0, 0x1C8)]
  | 0x71 => [(0x148, 0x154)] | 0x78 => [(0x140, 0x148)] | 0x80 => [(0x1E0, 0x200)] | 0x81 => [(0x128, 0x130)]
  | 0x82 => [(0x110, 0x110)] | 0x88 => [(0x118, 0x118), (0x120, 0x12C)] | 0x90 => [(0x120, 0x148)] | 0x92 => [(0x114, 0x124)]
  | 0x93 => [(0x108, 0x10C)] | 0xA0 => [(0x110, 0x11C)] | 0xA1 => [(0x124, 0x12C)] | 0xA2 => [(0x140, 0x150)]
  | 0xB0 => [(0x140, 0x14C)] | 0xB8 => [(0x124, 0x128)] | 0xC0 => [(0x140, 0x148)] | 0xC8 => [(0x120, 0x124)]
  | 0x04 => [(0x140, 0x14C)] | 0x05 => [(0x114, 0x114)] | 0x0E => [(0x220, 0x224)] | 0x0F => [(0x190, 0x194)]
  | 0x08 => [(0x114, 0x114)] | 0x0D => [(0x120, 0x134)]
  | _ => []

/-- The offset of CNTCLR in the pages of a block, if the block has one. -/
def cntOffset (first : Nat) : Option Nat :=
  ((pageFields first).find? fun p =>
    p.1.acc == .w1s && p.1.lo == 0 &&
      [OLN.CNTCLR_GO, OPT.CNTCLR_GO, TUN.CNTCLR_GO, RTE.CNTCLR_GO, SWB.CNTCLR_GO, THR.CNTCLR_GO, AGE.CNTCLR_GO, MCR.CNTCLR_GO,
        CRT.CNTCLR_GO, SCH.CNTCLR_GO, MTR.CNTCLR_GO, CAS.CNTCLR_GO, DCP.CNTCLR_GO, DTL.CNTCLR_GO, DHD.CNTCLR_GO, DPT.CNTCLR_GO,
        TXB.CNTCLR_GO, PCI.CNTCLR_GO, PPH.CNTCLR_GO, MEM.CNTCLR_GO, ETH.CNTCLR_GO, LMD.P_CNTCLR_GO, LMP.CNTCLR_GO, USB.CNTCLR_GO,
        UDF.CNTCLR_GO, RHA.CNTCLR_GO, CLP.CNTCLR_GO, TCP.CNTCLR_GO, LPO.CNTCLR_GO, BUS.CNTCLR_GO, PDM.CNTCLR_GO, RET.CNTCLR_GO,
        KEY.CNTCLR_GO, UPD.CNTCLR_GO, ACT.CNTCLR_GO, MGP.CNTCLR_GO].contains p.1).map (·.1.off)

namespace Hub

/-! ### The header -/

/-- The counters of page `pg` cleared, of every instance that a selector reaches, or on the lume page of the port selected
(R254, R256, R258, R260, R309, R383, R408, R450, R451, R470, R567). -/
def clearCounts (pg : Nat) (h : Hub) : Hub :=
  let first := ((pageRow? pg).map (·.first)).getD pg
  let rs := cntRanges first
  let bank (k : Nat) : Bool := first != 0x92 || keyBank k == h.rd LMD.PSEL_PORT
  let h1 := h.clearRegs fun k =>
    keyPage k == pg && bank k && rs.any fun (lo, hi) => lo ≤ keyOff k && keyOff k ≤ hi
  if first = 0x48 then h1.wr SWB.MINFREE_COUNT (h.rd SWB.FREE_COUNT)
  else if first = 0x4B then h1.wr MCR.INFLIGHT_PEAKREF 0
  else if first = 0x71 then h1.wr DHD.FIFO_LOW 16384 (pg - 0x71)
  else if first = 0xC8 then h1.wr BUS.VMIN_MV (h.rd BUS.VBUS_MV)
  else h1

/-- PCTL.EN of page `pg` written (R36), and what starts or stops with it (R104, R145, R391, R503, R517, R544). -/
def enable (pg : Nat) (en : Bool) (h : Hub) (c : Cap := {}) : Hub :=
  let h1 := h.wr HDR.PCTL_EN (bnat en) pg
  if 0x10 ≤ pg ∧ pg ≤ 0x17 then (if en then h1.tryForm (pg - 0x10) else h1.portDown (pg - 0x10) (some 6))
  else if 0x20 ≤ pg ∧ pg ≤ 0x3F then
    if en then h1.when (h1.up pg && !h.on HDR.PCTL_EN pg) fun h =>
      (h.when (h.lane (pg - 0x20) == 10) fun h => h.setLane (pg - 0x20) 0).laneEnable (pg - 0x20) c
    else h1.laneOff (pg - 0x20)
  else if 0x71 ≤ pg ∧ pg ≤ 0x74 then
    if en then h1.when (h1.up pg && !h.on HDR.PCTL_EN pg) fun h => h.headEnable (pg - 0x71) c else h1.headDisable (pg - 0x71)
  else if 0xB0 ≤ pg ∧ pg ≤ 0xB7 then
    if en then h1.when (h1.up pg && !h.on HDR.PCTL_EN pg) fun h => h.claspEnable (pg - 0xB0) true
    else h1.claspEnable (pg - 0xB0) false
  else if 0xC0 ≤ pg ∧ pg ≤ 0xC7 then
    if en then h1.when (h1.up pg && !h.on HDR.PCTL_EN pg) fun h => h.lpoEnable (pg - 0xC0) true
    else h1.lpoEnable (pg - 0xC0) false
  else if pg = 0xB8 ∧ en = false then h1.pdDetach 0
  else if pg = 0xB9 ∧ en = false then h1.pdDetach 1
  else h1

/-- What an error that occurs in the cycle of a clear captures, as far as its bit says: the code of a window error, a table write of
TABLE_RO and a register write of SHADOW_BUSY and VSET_REFUSED (R37, R42, R43, R75); a free value stands for the rest. -/
def newCap (pg n : Nat) : Cap :=
  { code := if pg = 0 ∧ n < 4 then some (n + 1) else if pg = 2 ∧ n = 2 then some 1 else none
    atype := if pg = 0 ∧ n = 3 then some 3 else if n = 31 ∨ (pg = 2 ∧ n = 2) then some 1 else none }

/-- An error that occurs in the cycle of a clear (R41): its capture and the timer are its own where it sets its bit. -/
def newError (pg n : Nat) (h : Hub) : Hub :=
  if secondPage pg then h
  else if h.bit HDR.EEN n pg && !h.bit HDR.ESTAT n pg then
    (h.wr HDR.ECAP_VALID 0 pg |>.wr HDR.hEscRun 0 pg).raise pg n (newCap pg n)
  else h.raise pg n (newCap pg n)

/-- A write of `v` to ESTAT of page `pg`, with the errors of mask `newErr` in the same cycle (R39, R41, R652); where the write
clears no bit, they act under R38. A write that clears every bit set releases the capture, although an error that is not enabled sets
its bit in the same cycle (DESIGN CHOICE, log entry 153). -/
def estatWrite (h : Hub) (pg v newErr : Nat) : Hub :=
  if secondPage pg then h
  else
    (h.clearEstat pg v).each ((List.range 32).filter newErr.testBit) fun n g =>
      if h.rd HDR.ESTAT pg &&& v = 0 then g.raise pg n (newCap pg n) else newError pg n g

/-- The commit point of page `pg` (R43, R44): a scheduler's, a head's that does not run, and that of every page whose chapter
names none. A lane's commit has a command of its own, and a stream's STID takes effect at the start of its frame. -/
def commitAt (h : Hub) (pg : Nat) : Hub :=
  if !h.up pg || !h.on HDR.PSTAT_CPEND pg then h
  else if 0x50 ≤ pg ∧ pg ≤ 0x5D then h.when (h.noSelection (pg - 0x50)) fun h => h.schCommit (pg - 0x50)
  else if 0x71 ≤ pg ∧ pg ≤ 0x74 then h.when (h.head (pg - 0x71) != 3) (headCommit (pg - 0x71))
  else if (0x20 ≤ pg ∧ pg ≤ 0x3F ∨ pg = 0x77) ∧ (h.shadow.any fun p => keyPage p.1 == pg) = true then h
  else h.commitPage pg

/-- A commit of page `pg` asked for (R43); a lane in OFF, RETIRED or FAULT applies it at once (R101). -/
def askCommit (pg : Nat) (h : Hub) : Hub :=
  let idle := decide (0x20 ≤ pg ∧ pg ≤ 0x3F) && (h.lane (pg - 0x20) == 0 || h.lane (pg - 0x20) == 9 || h.lane (pg - 0x20) == 10)
  (h.wr HDR.PSTAT_CPEND 1 pg).when idle (txCommit (pg - 0x20))

/-! ### PLLs -/

/-- Whether PLL `n` may run (R84): its enable is set, its domain is on, and a lane PLL has a lane to serve (R121). -/
def pllMayRun (h : Hub) (n : Nat) : Bool :=
  h.bit CLK.PLLEN_EN n && (n == 0 || (List.range 12).any fun d => (pllsOf d).contains n && h.domOn d) && !h.on AON.hHeld &&
    !(5 ≤ n && n ≤ 8 && h.lanesIdle (n - 5))

/-- PLL `n` reaches lock (R84, R391, R705, R707); with PLL_SYS, REF_OK reads 1 (log entry 94), and with PLL_PIXn a head in LOCK goes on. -/
def pllLocked (h : Hub) (n : Nat) : Hub :=
  let h1 := h.wrBit CLK.PLLSTAT_LOCK n true
  (h1.when (n == 0) fun h => ((h.wr TOP.NTCTL_RUN 1).wr CLK.REFSTAT_REF_OK 1).refreshDomains).when
    (decide (9 ≤ n ∧ n ≤ 12) && h1.head (n - 9) == 1) fun h => (h.setHead (n - 9) 2).waitLink (n - 9)

/-! ### Balls -/

/-- A write of `v` to BFUNC of the ball selected (R712). -/
def ballWrite (h : Hub) (v : Nat) (c : Cap := {}) : Hub :=
  let b := h.rd GPX.BSEL_BALL
  let f := bits v 0 2
  let held := h.rd GPX.BFUNC_FUNC 0 b
  if 24 ≤ b then h
  else if f ≠ 0 ∧ held ≠ 0 ∧ held ≠ f then
    (h.when (!h.on GPX.CONFLICT_VALID) fun h =>
      h.wr GPX.CONFLICT_BALL b |>.wr GPX.CONFLICT_ASKED f |>.wr GPX.CONFLICT_HELD held |>.wr GPX.CONFLICT_VALID 1).raise 0xD0 0 c
  else
    [GPX.BFUNC_FUNC, GPX.BFUNC_DIR, GPX.BFUNC_OUT, GPX.BFUNC_PULL, GPX.BFUNC_DRIVE, GPX.BFUNC_AONHOLD].foldl
      (fun (h : Hub) (F : Fld) => h.wr F (bits v F.lo F.w) 0 b) h

/-- Whether a ball carries the signal of timer `t` (R711). -/
def timerBall (h : Hub) (t : Nat) : Bool := [t, t + 16].any fun b => decide (b < 24) && h.rd GPX.BFUNC_FUNC 0 b == 3

/-! ### General timers -/

/-- TCLAIM.CLAIM (R713). -/
def timerTake (h : Hub) (m : MasterId) (owner : Nat) (c : Cap := {}) : Hub :=
  let t := h.rd TMR.TSEL_TIMER
  if h.on TMR.TCLAIM_HELD 0 t then h.raise 0xD1 0 { c with lo := some t }
  else
    (h.wr TMR.TCLAIM_OWNER owner 0 t |>.wr TMR.TCLAIM_MASTER (masterNum m) 0 t |>.wr TMR.TCLAIM_HELD 1 0 t).wrBit
      TMR.HELDMAP_TIMERS t true

/-- Whether master `m` holds timer `t` (R713). -/
def timerHeld (h : Hub) (m : MasterId) (t : Nat) : Bool :=
  h.on TMR.TCLAIM_HELD 0 t && h.rd TMR.TCLAIM_MASTER 0 t == masterNum m

/-- A write to a timer by a master that does not hold it (R713). -/
def notOwner (h : Hub) (c : Cap := {}) : Hub := h.raise 0xD1 1 c

/-- TCLAIM.RELEASE (R713). -/
def timerGive (h : Hub) (m : MasterId) (c : Cap := {}) : Hub :=
  let t := h.rd TMR.TSEL_TIMER
  if !h.timerHeld m t then h.notOwner c
  else (h.wr TMR.TCLAIM_HELD 0 0 t |>.wr TMR.TCFG_EN 0 0 t).wrBit TMR.HELDMAP_TIMERS t false

/-- A timer reaches 0 (R714). -/
def timerExpire (h : Hub) (t : Nat) : Hub :=
  let h1 := (h.irq 0xD1 t).when (h.on TMR.TCFG_OUTEN 0 t) fun h => h.wr TMR.hOut (1 - h.rd TMR.hOut 0 t) 0 t
  if h.rd TMR.TCFG_MODE 0 t = 1 then h1.wr TMR.TCOUNT_COUNT (h.rd TMR.TLOAD_COUNT 0 t) 0 t
  else h1.wr TMR.TCOUNT_COUNT 0 0 t |>.wr TMR.hStop 1 0 t

/-! ### Reset balls -/

/-- HRST_N (R9, R706, R709). -/
def hrstBall (h : Hub) (low : Bool) (straps : Nat) : Hub :=
  if low then (h.hardReset false 1).wr AON.hHeld 1
  else h.when (h.on AON.hHeld) fun h => (h.wr AON.hHeld 0).setStraps straps

end Hub

/-! ### Commands -/

/-- POWER_ON_RESET (R9, R594). -/
def execPowerOnReset (brownout : Bool) (s : State) : Host.Outcome State Fault Refusal := s.act fun h => h.powerOn brownout

/-- POR_RELEASE (R693, R707): only before PLL_SYS has locked. -/
def execPorRelease (straps : Nat) (s : State) : Host.Outcome State Fault Refusal :=
  s.act fun h => h.when (!h.bit CLK.PLLSTAT_LOCK 0 && !h.domOn 1) fun h =>
    (h.setStraps straps).when (h.bit AON.BOOTCAUSE_CAUSE 3) fun h => h.raise 3 0

/-- HRST_N (R706). -/
def execHrstN (low : Bool) (straps : Nat) (s : State) : Host.Outcome State Fault Refusal := s.act fun h => h.hrstBall low straps

/-- RSTCMD (R710). -/
def execRstcmd (r : Req) (v : Nat) (s : State) : Host.Outcome State Fault Refusal :=
  s.act fun h => h.asReg r TOP.RSTCMD_KEY 0 fun h => h.when (v % 2 ^ 16 == 0xC1A5) fun h => h.hrst 2

/-- SOFT_RESET (R9, R36): PCTL written with SRST. -/
def execSoftReset (r : Req) (pg : Nat) (s : State) : Host.Outcome State Fault Refusal :=
  s.act fun h => h.asWrite r (pg * 4096 + 8) 4 fun h => h.softReset pg 1

/-- SOFT_RESET_DONE (R717). -/
def execSoftResetDone (pg : Nat) (s : State) : Host.Outcome State Fault Refusal :=
  s.act fun h => h.when (h.domOn (pageDom pg) && h.rd HDR.hSrstBusy pg == 1) fun h => h.softDone pg

/-- BLOCK_ENABLE (R36): PCTL written without SRST. -/
def execBlockEnable (r : Req) (pg : Nat) (en : Bool) (s : State) : Host.Outcome State Fault Refusal :=
  s.act fun h => h.asWrite r (pg * 4096 + 8) 4 fun h => h.enable pg en (Hub.accCap r true (pg * 4096 + 8))

/-- ESTAT_CLEAR (R39, R41). -/
def execEstatClear (r : Req) (pg v newErr : Nat) (s : State) : Host.Outcome State Fault Refusal :=
  s.act fun h => h.asWrite r (pg * 4096 + 0x10) 4 fun h => h.estatWrite pg v newErr

/-- COMMIT (R43). -/
def execCommit (r : Req) (pg : Nat) (s : State) : Host.Outcome State Fault Refusal :=
  s.act fun h => h.asWrite r (pg * 4096 + 0x3C) 4 (Hub.askCommit pg)

/-- COMMIT_POINT (R43, R44). -/
def execCommitPoint (pg : Nat) (s : State) : Host.Outcome State Fault Refusal := s.act fun h => h.commitAt pg

/-- CNTCLR (R254): nothing on a page that has none. -/
def execCntclr (r : Req) (pg : Nat) (s : State) : Host.Outcome State Fault Refusal :=
  s.act fun h =>
    match (pageRow? pg).bind fun p => (if secondPage pg then none else cntOffset p.first) with
    | some off => h.asWrite r (pg * 4096 + off) 4 (Hub.clearCounts pg)
    | none => h

/-- NODE_TIME_SET (R705): NTSET is loaded at the next CD2 cycle. -/
def execNodeTimeSet (r : Req) (s : State) : Host.Outcome State Fault Refusal :=
  s.act fun h => h.asGo r TOP.NTCTL_SET 0 fun h => h.wr TOP.hSetNow 1

/-- BALL_FUNCTION_WRITE (R712). -/
def execBallFunctionWrite (r : Req) (v : Nat) (s : State) : Host.Outcome State Fault Refusal :=
  s.act fun h => h.asReg r GPX.BFUNC_FUNC 0 fun h => h.ballWrite v (Hub.regCap r GPX.BFUNC_FUNC 0)

/-- TIMER_CLAIM (R713). -/
def execTimerClaim (r : Req) (v : Nat) (s : State) : Host.Outcome State Fault Refusal :=
  s.act fun h => h.asGo r TMR.TCLAIM_CLAIM 0 fun h => h.timerTake r.master (v % 256) (Hub.regCap r TMR.TCLAIM_CLAIM 0)

/-- TIMER_RELEASE (R713). -/
def execTimerRelease (r : Req) (s : State) : Host.Outcome State Fault Refusal :=
  s.act fun h => h.asGo r TMR.TCLAIM_RELEASE 0 fun h => h.timerGive r.master (Hub.regCap r TMR.TCLAIM_RELEASE 0)

/-- TIMER_EXPIRY (R714). -/
def execTimerExpiry (t : Fin 16) (s : State) : Host.Outcome State Fault Refusal :=
  s.act fun h => h.when (h.up 0xD1 && h.on TMR.TCFG_EN 0 t && h.rd TMR.TCFG_MODE 0 t != 2 && !h.on TMR.hStop 0 t) fun h =>
    h.timerExpire t

/-- TIMER_CAPTURE (R711, R714): the timer sees an edge only of a ball that carries its function. -/
def execTimerCapture (t : Fin 16) (s : State) : Host.Outcome State Fault Refusal :=
  s.act fun h => h.when (h.up 0xD1 && h.on TMR.TCFG_EN 0 t && h.rd TMR.TCFG_MODE 0 t == 2 && h.timerBall t) fun h =>
    (h.wr TMR.TCAP_COUNT (h.rd TMR.TCOUNT_COUNT 0 t) 0 t).irq 0xD1 t

/-- PLL_LOCK (R84, R705, R707). -/
def execPllLock (pll : Fin 13) (s : State) : Host.Outcome State Fault Refusal :=
  s.act fun h => h.when (h.pllMayRun pll && !h.bit CLK.PLLSTAT_LOCK pll && !h.bit CLK.hUnlocked pll) fun h => h.pllLocked pll

end Sys2Proof.Machine
end

