-- ==== Sys2Proof/Machine/Packets.lean ====
section
/-! DEFINITION. The packets of the local blocks as cells, and their way into the core (R25, R172, R217): CONTROL messages (R187),
transaction packets (R415, R416), USB packets (R483), tile packets (R360 to R365) and telemetry (R665). -/

namespace Sys2Proof.Machine

/-- A flag at bit `i` of a header byte. -/
def bitAt (b : Bool) (i : Nat) : Nat := bnat b * 2 ^ i

/-- A CONTROL message as the management CPU injects it (R187): SRC_NODE is overwritten as it enters the core. -/
def ctlCells (m : CtlMsg) : List Cell :=
  let bs := natLe 1 m.typ ++ natLe 1 (bnat m.resp) ++ natLe 2 0 ++ natLe 2 m.dst ++ natLe 2 m.tok ++ m.body
  packetCells m.dst 0 0 false (padTo (ceilDiv bs.length 64 * 64) bs)

/-- The 16-byte transaction header (R415). -/
def txbHeader (t : TxbHdr) : Bytes :=
  let b6 := if t.op = 1 then natLe 2 t.pwseq
    else if t.op = 2 ∨ t.op = 3 then natLe 1 t.status ++ natLe 1 (bnat t.last)
    else if t.op = 4 then natLe 1 t.status ++ [0] else [0, 0]
  let b8 := if t.op = 0 ∨ t.op = 1 ∨ t.op = 4 then natLe 8 t.addr else if t.op = 2 then natLe 8 t.offset else natLe 8 0
  natLe 1 (t.op + bitAt t.ro 4 + bitAt t.ns 5) ++ natLe 1 t.win ++ natLe 2 t.tag ++ natLe 2 t.len ++ b6 ++ b8

/-- The virtual channel of a transaction packet, by its operation (R412, R416). -/
def txbVc (op : Nat) : Nat := if op = 0 then 1 else if op = 1 ∨ op = 5 then 2 else 3

/-- A USB tunnel packet (R483). -/
def usbBytes : UsbPkt → Bytes
  | .req q data =>
    natLe 1 1 ++ natLe 1 q.ring ++ natLe 1 q.slot ++ natLe 1 (bitAt q.treset 0 + bitAt q.zlp 1) ++ natLe 2 q.len ++ natLe 2 q.reqseq ++
      natLe 1 q.devaddr ++ natLe 1 (q.ep % 16 + bitAt q.isIn 4 + q.xtype % 4 * 32) ++ natLe 2 (q.mps % 2048 + q.speed % 4 * 4096) ++
      natLe 1 q.port ++ natLe 1 q.interval ++ natLe 2 q.tmoMs ++ padTo 8 q.setup ++ data
  | .cancel ring slot seq => natLe 1 2 ++ natLe 1 ring ++ natLe 4 slot ++ natLe 2 seq ++ natLe 8 0
  | .busctl op => natLe 1 3 ++ natLe 1 op ++ natLe 6 0 ++ natLe 8 0
  | .cpl c data =>
    natLe 1 4 ++ natLe 1 c.ring ++ natLe 1 c.slot ++ natLe 1 c.status ++ natLe 2 c.actual ++ natLe 2 c.reqseq ++ natLe 2 (bnat c.toggle) ++
      natLe 2 c.naks ++ natLe 4 c.frame ++ data
  | .event ev bus wake oldest =>
    natLe 1 5 ++ natLe 1 ev ++ natLe 1 bus ++ natLe 1 (bnat wake) ++ natLe 2 0 ++ natLe 2 oldest ++ natLe 8 0

/-- The 16 bytes of a tile header (R360). -/
def tileHeader (t : TilePkt) : Bytes :=
  natLe 1 (t.typ % 4 + bitAt t.full 2 + bitAt t.forced 3 + t.ver * 16) ++ natLe 1 0 ++ natLe 2 t.frame ++ natLe 2 t.tile ++
    natLe 2 t.ord ++ natLe 4 t.sig ++ natLe 4 (if t.typ = 1 then t.colour else if t.typ = 2 then t.src else 0)

/-- How many cells a tile packet takes (R361). -/
def tileCells (t : TilePkt) : Nat := if t.typ = 0 then 256 else 1

/-- Cell `j` of a tile packet on tunnel `tid` (R361): the header stands in the X bytes of a RAW packet's first cell. -/
def tileCell (tid : Nat) (t : TilePkt) (j : Nat) : Cell :=
  if t.typ = 0 then
    let px := (t.pixels.drop (64 * j)).take 64
    { tid := tid, kind := 2, vc := 1, sop := j == 0, eop := j == 255
      payload := (List.range 64).map fun i =>
        if i % 4 = 3 then (if j = 0 then (tileHeader t).getD (i / 4) 0 else 0) else px.getD i 0 }
  else { tid := tid, kind := 2, vc := 1, sop := true, eop := true, fill := 16, payload := padTo 64 (tileHeader t) }

namespace Hub

/-- The tunnel on which a transaction packet goes (R412, R416): its own, or the reverse of the ordered tunnel, on which a posted write
itself came, or which is that of a request's link. -/
def txbTid (h : Hub) (m : TxbMsg) : Nat :=
  if !m.rev then m.tid else if m.h.op = 4 then h.pairOf m.tid else (h.linkOf m.tid).2

/-- The cells of a transaction packet. -/
def txbCells (h : Hub) (m : TxbMsg) : List Cell := packetCells (h.txbTid m) 3 (txbVc m.h.op) false (txbHeader m.h ++ m.data)

/-- The packets that a block holds for ingress point `pt`, offered in order while its clock runs and its FIFO has room (R79); how many
have gone. -/
def offerAt (pt : Nat) : List (List Cell) → Hub → Hub × Nat
  | [], h => (h, 0)
  | cs :: rest, h =>
    if h.domOn 2 && h.islandRuns (pt + 1) && h.roomIn pt then
      let (h1, n) := offerAt pt rest (h.inject pt cs)
      (h1, n + 1)
    else (h, 0)

/-- The packets that the management CPU, the bridge and the USB block hold go into their FIFOs toward the core (R79, R217). -/
def offer (h : Hub) : Hub :=
  let ctl := h.ctlOut
  let tel := h.telOut
  let (h1, n) := offerAt 13 (ctl.map ctlCells ++ tel.map fun (p : Nat × Bytes) => packetCells p.1 6 1 false p.2) { h with ctlOut := [], telOut := [] }
  let h2 : Hub := { h1 with ctlOut := ctl.drop n ++ h1.ctlOut, telOut := tel.drop (n - ctl.length) ++ h1.telOut }
  let txb := h2.txbOut
  let (h3, m) := offerAt 9 (txb.map h2.txbCells) { h2 with txbOut := [] }
  let h4 : Hub := { h3 with txbOut := txb.drop m ++ h3.txbOut }
  let usb := h4.usbOut
  let (h5, k) := offerAt 11 (usb.map fun (p : Nat × UsbPkt) => packetCells p.1 4 1 false (usbBytes p.2)) { h4 with usbOut := [] }
  { h5 with usbOut := usb.drop k ++ h5.usbOut }

/-- One CD2 cycle of send stream `s` (R362, R365): a cell of its packet is offered where its pace has earned one, the attachment has
bandwidth, and no packet of another stream is open on it. -/
def streamCycle (s : Nat) (h : Hub) : Hub :=
  match Tab.get [] s h.tileOut with
  | [] => h
  | t :: rest =>
    let tok := h.rd DTL.hPace 0 s + h.rd DTL.SPACE_PACE 0 s
    let a := s % 2
    let owner := h.rd DTL.hOwner 0 a
    let free := decide (h.rd DTL.hAttach 0 a ≤ h.cyc * 10) && (owner == 0 || owner == s + 1)
    if tok < 2048 || !h.mayEnter 8 || !free then h.wr DTL.hPace (min 2048 tok) 0 s
    else
      let j := h.rd DTL.hCell 0 s
      let h1 := (h.wr DTL.hPace (min 2048 (tok - 2048)) 0 s |>.wr DTL.hAttach (max (h.rd DTL.hAttach 0 a + 16) (h.cyc * 10)) 0 a).cellIn 8 false
        (tileCell (h.rd DTL.STID_TID 0 s) t j)
      if j + 1 < tileCells t then h1.wr DTL.hCell (j + 1) 0 s |>.wr DTL.hOwner (s + 1) 0 a
      else
        ({ h1 with tileOut := Tab.put [] s rest h1.tileOut }.wr DTL.hCell 0 0 s |>.wr DTL.hOwner 0 0 a).when (t.typ == 3) fun h =>
          h.sendEnd s

end Hub

end Sys2Proof.Machine
end

