-- ==== Sys2Proof/Machine/Time.lean ====
section
/-! DEFINITION. One CD2 cycle of 2.5 ns (R78): what moves by itself while no command waits. Events that fall due have commands
of their own; here the counts that software reads run on. -/

namespace Sys2Proof.Machine

namespace Hub

/-- Node time advances (R332, R705), in units of 2^-32 ns: the cycle with FADJ, and this cycle's share of a slew. -/
def tickTime (h : Hub) : Hub :=
  if h.on TOP.hSetNow then
    h.wr TOP.hSetNow 0 |>.wr TOP.NTIME_LO_NS (h.rd TOP.NTSET_LO_NS) |>.wr TOP.NTIME_HI_NS (h.rd TOP.NTSET_HI_NS)
      |>.wr TOP.hFrac 0
  else if !h.on TOP.NTCTL_RUN then h
  else
    let step : Int := 10737418240 + 10737418240 * toSigned 32 (h.rd CAS.FADJ_PPB) / 1024000000000
    let left := h.rd CAS.hSlewFor
    let slew := toSigned 64 (h.rd CAS.hSlew)
    let part := if left = 0 then 0 else slew / (left : Int)
    let t : Int := (h.now : Int) * 2 ^ 32 + h.rd TOP.hFrac + step + part
    let n := ofSigned 96 t
    let h1 := h.wr TOP.hFrac (n % 2 ^ 32) |>.wr TOP.NTIME_LO_NS (n / 2 ^ 32) |>.wr TOP.NTIME_HI_NS (n / 2 ^ 64)
    if left = 0 then h1 else h1.wr CAS.hSlew (ofSigned 64 (slew - part)) |>.wr CAS.hSlewFor (left - 1)

/-- The AON timer counts at 32.768 kHz (R598): 32 ticks in 390,625 CD2 cycles. -/
def tickAon (h : Hub) : Hub :=
  if (h.cyc + 1) * 32 / 390625 = h.cyc * 32 / 390625 then h
  else
    let t := h.aonTimer + 1
    h.wr AON.TIMER_LO_COUNT t |>.wr AON.TIMER_HI_COUNT (t / 2 ^ 32)

/-- General timer `t` counts at 200 MHz / 2^PRESC (R713, R714); the expiry at 0 is a command. -/
def tickTimer (t : Nat) (h : Hub) : Hub :=
  h.when (h.on TMR.TCFG_EN 0 t && !h.on TMR.hStop 0 t && (h.cyc + 1) % (2 * 2 ^ h.rd TMR.TCFG_PRESC 0 t) == 0) fun h =>
    if h.rd TMR.TCFG_MODE 0 t = 2 then h.wr TMR.TCOUNT_COUNT (h.rd TMR.TCOUNT_COUNT 0 t + 1) 0 t
    else h.dec TMR.TCOUNT_COUNT 1 0 t

/-- The raster of head `n` in RUN (R391, R392, R407): it counts in units of 10^-7 pixel, PCLK_KHZ × 25 a cycle, waits at the
start of vertical blanking for the flip, and wraps at VTOTAL. It stands while its clock is stopped or its PLL is unlocked (R82).
A head in OFF may go to LOCK. -/
def tickHead (n : Nat) (h : Hub) : Hub :=
  let line := h.rd DHD.HTIM_HTOTAL n * 10000000
  let stop := h.rd DHD.VTIM_VACT n * line
  let full := h.rd DHD.VTIM_VTOTAL n * line
  if h.head n = 0 then lateHead n h
  else if h.head n ≠ 3 ∨ line = 0 ∨ full = 0 ∨ h.clockRuns (0x71 + n) = false then h
  else
    let p := h.rd DHD.hRaster n
    let q := p + h.rd DHD.PCLK_KHZ n * 25
    let q1 := if p < stop ∧ stop ≤ q then stop - 1 else q % full
    let h1 := h.wr DHD.hRaster q1 n |>.wr DHD.STAT_LINE (q1 / line) n
    let h2 := h1.when (!h1.memReady && !h1.on DHD.hNoMem n) (lackMem n 2)
    if q1 < stop then (h2.wr DHD.STAT_VBLANK 0 n).wrBit DSP.VBSTAT_VBLANK n false else h2

/-- What counts milliseconds: the heartbeat's age (R331), the reservations' hold times (R275), the eye of each lane (R103), and what
the crown decides. -/
def tickMs (h : Hub) : Hub :=
  if (h.cyc + 1) % 400000 ≠ 0 then h
  else
    let h1 := h.when (h.up 0x68 && h.on CAS.CROWN_VALID) fun h => h.cnt CAS.HBSTAT_AGE_MS
    let held := h1.regs.filter fun p => keyOff p.1 == CRT.RHOLD_MS.off && keyPage p.1 == 0x61
    (h1.each held fun p h => h.wr CRT.RHOLD_MS (h.rd CRT.RHOLD_MS 0 (keyBank p.1) - 1) 0 (keyBank p.1)).each
      (List.range 32) measureEye |>.crownWork

/-- The sending of a snapshot ends at a moment that the spec leaves open (R665). -/
def tickTel (h : Hub) : Hub := h.when (h.on TEL.SSTAT_BUSY) fun h => let (v, h') := h.free; h'.wr TEL.SSTAT_BUSY (v % 2)

/-- The agent's bus runs again 20 ms after a RESUME, and where a reset ends (R495). -/
def tickBus (h : Hub) : Hub := h.when (decide (2 ≤ h.rd RHA.STAT_BUS) && decide (h.rd RHA.hResume ≤ h.cyc)) fun h => h.wr RHA.STAT_BUS 0

/-- CA of a clasp hard reset ends (R530). -/
def tickCa (n : Nat) (h : Hub) : Hub :=
  h.when (h.on CLP.STAT_CA_TX n && decide (h.rd CLP.hCa n ≤ h.cyc)) fun h => h.wr CLP.STAT_CA_TX 0 n

/-- One CD2 cycle. -/
def tick (h : Hub) : Hub :=
  let h1 := (((((h.tickTime.tickAon).when (h.up 0xD1) fun h => h.each (List.range 16) tickTimer).when (h.domOn 7) fun h =>
    h.each (List.range 4) tickHead).tickMs).tickTel.tickBus.each (List.range 8) tickCa).each [8, 9, 10, 11, 12, 13, 14] fifoDrain
    |>.each [9, 10, 11, 12, 13] feed |>.offer |>.each ((Tab.keys h.tileOut).filter fun _ => h.up 0x77) streamCycle |>.each (List.range 32) laneCycle
  { h1 with cyc := h.cyc + 1 }

end Hub

end Sys2Proof.Machine
end

