-- ==== Sys2Proof/Machine/Window.lean ====
section
/-! DEFINITION. The register window as a whole (chapter 2): what a write to any word does, what a read returns, and the
accesses of the register agent, the management port and the debug port (R189 to R191, R679, R682, R715). -/

namespace Sys2Proof.Machine

/-- The fields whose Meaning column says what a value outside a range reads as: the range, and that value. Of a field that names
a range alone, such as TRAIN.LIMIT_MS, it says nothing: the value written stands, the model's choice (log entry 159). -/
def readsAs : List (Fld × Nat × Nat × Nat) :=
  [(FIL.VSLEW_STEP_US, 1, 255, 1), (OPT.CFG_WIDTH, 0, 2, 2), (OPT.CFG_CRYPT, 0, 2, 2), (SWB.SCRUB_PERIOD_US, 1, 255, 1),
   (SCH.QMODE_WEIGHT, 1, 255, 1), (SCH.SHCFG_BURST, 1, 65535, 1),
   (AGE.SWEEP_PERIOD_US, 10, 255, 10), (CRT.CFG_HOLD_MS, 1, 1023, 1), (SCH.AGEPRI_SPACING, 1, 15, 1),
   (MTR.MCBS_UNITS, 1, 65535, 1), (MTR.MPBS_UNITS, 1, 65535, 1), (CAS.DISC_SETTLE_MS, 1, 255, 1), (CAS.DISC_NBR_MS, 1, 255, 1),
   (CAS.HB_PERIOD_MS, 1, 255, 1), (CAS.HB_MISS, 1, 15, 1), (DHD.FRZ_DMIN, 1, 16383, 1), (TXB.OW_CFG_TAGLIM, 1, 1023, 1),
   (TXB.CTO_UNITS, 1, 65535, 1), (TXB.POLL_PERIOD_US, 10, 65535, 10), (PPH.EQCFG_PRESET, 0, 10, 4),
   (MEM.PRIO_PROMOTE_US, 1, 65535, 1), (ETH.VSEL_V, 0, 4094, 0), (LMD.SCLEN_BYTES, 64, 511, 0), (LMD.P_CFG_PERIOD_MS, 1, 65535, 1),
   (USB.CFG_SWITCH_MS, 10, 255, 10), (USB.PSEL_PORT, 1, 7, 1), (RHA.CFG_ALIVE_MS, 1, 255, 1), (RHA.CFG_LOST_MS, 1, 65535, 1),
   (CLP.IMAX_OFFER, 0, 500, 500), (CLP.FS_VFS_DV, 380, 440, 400), (TCP.PDOI_A_I5, 0, 500, 500), (LPO.RAMP_DVDT, 1, 63, 1),
   (MGP.CFG_IDLE_S, 1, 65535, 1)]

/-- The low words of the 64-bit registers (R32): the first page of the block and the offset. -/
def low64 : List (Nat × Nat) :=
  [(3, 0x118), (3, 0x120), (0x68, 0x124), (0x77, 0x100), (2, 0x130), (0xE, 0x20C), (0xA, 0x110), (0xC0, 0x130), (0x10, 0x10C),
   (0x10, 0x158), (0x10, 0x160), (0x10, 0x168), (0x10, 0x170), (0x10, 0x144), (0x81, 0x118), (0, 0x118), (0, 0x120), (0x80, 0x1CC), (0x80, 0x10C), (0x80, 0x120), (0x80, 0x194),
   (0x80, 0x148), (0xA1, 0x108)]

/-- Whether offset `off` of page `pg` is the low word of a 64-bit register. -/
def isLow64 (pg off : Nat) : Bool :=
  off == 0x18 || off == 0x24 || (pg == 7 && off == 0x108) ||
    (!secondPage pg && low64.contains ((((pageRow? pg).map (·.first)).getD pg), off))

/-- What a command does to the node, as one step of a larger access. -/
def asCmd (f : State → Host.Outcome State Fault Refusal) (h : Hub) : Hub :=
  match f { hub := h } with
  | .next s => s.hub
  | _ => h

namespace Hub

/-! ### Writing one word -/

/-- The action of W1S bit `b`, where the value written sets it. -/
def go (h : Hub) (v b : Nat) (f : State → Host.Outcome State Fault Refusal) : Hub := h.when (v.testBit b) (asCmd f)

/-- The fields of a word written under their access codes (R7), and values outside a field's range replaced by what
they read as; `c` is what an error of the write captures. -/
def fieldsWrite (h : Hub) (pg off v : Nat) (c : Cap := {}) : Hub :=
  match h.bankOf pg off with
  | none => h
  | some b =>
    (h.writeReg pg off v c).each ((fieldsAt pg off).filter fun p => !secondPage pg && decide (0x100 ≤ off) && p.1.acc != .ro)
      fun p h =>
        match readsAs.find? fun q => q.1 == p.1 with
        | some (_, lo, hi, d) =>
          let out (x : Nat) : Bool := decide (x < lo ∨ hi < x)
          if p.1.acc = .rws then
            h.when (out (h.rdShadow p.1 p.2 b)) fun h => { h with shadow := Tab.ins (p.1.key p.2 b) d h.shadow }
          else h.when (out (h.rd p.1 p.2 b)) fun h => h.wr p.1 d p.2 b
        | none => h

/-- A word of the common header written (R36, R39, R43, R47). ESC of a display page ignores writes (R402). -/
def headerWrite (h : Hub) (pg off v : Nat) (c : Cap := {}) : Hub :=
  if off = 0x2C ∧ 0x70 ≤ pg ∧ pg ≤ 0x7B then h
  else if off = 8 then
    if v.testBit 1 then (h.wr HDR.PCTL_EN (v % 2) pg).softReset pg 1 else h.enable pg (v.testBit 0) c
  else if off = 0x10 then h.estatWrite pg v 0
  else if off = 0x3C then h.when (v.testBit 0) (askCommit pg)
  else h.writeReg pg off v c

/-- The enable bits of the writers `ws` written with the bits of `v`, from bit 0 (R349, R362, R384). -/
def ringBits (h : Hub) (ws : List Writer) (v : Nat) (c : Cap := {}) : Hub :=
  h.each ws.zipIdx fun p h =>
    if v.testBit p.2 then h.enableRing p.1 c
    else h.when (h.ringEn p.1) fun h =>
      match p.1 with
      | .capture d => (h.setRingEn p.1 false).captureCause d 2 0 0 0
      | .send _ => h.setRingEn p.1 false
      | .receive r => ((h.setRingEn p.1 false).abortSlot p.1).rxClosed r
      | .hostWin _ => (h.setRingEn p.1 false).abortSlot p.1

/-- PLLEN (R83, R84): bit 0 stays set, bits 12 to 9 ignore the write, and a PLL disabled loses lock. -/
def pllenWrite (h : Hub) (v : Nat) : Hub :=
  let old := h.rd CLK.PLLEN_EN
  let new := setBits (setBits v 0 1 1 % 2 ^ 13) 9 4 (old / 2 ^ 9)
  (h.wr CLK.PLLEN_EN new).each ((List.range 9).filter fun n => old.testBit n && !new.testBit n) fun n h =>
    (h.wrBit CLK.PLLSTAT_LOCK n false).wrBit CLK.hUnlocked n false

/-- GATE (R81, R83): each bit that changes stops or starts its clock. -/
def gateWrite (h : Hub) (v : Nat) : Hub :=
  h.each (List.range 13) fun n h =>
    let (F, i) := gateFld n
    h.when (h.bit F i != v.testBit n) fun h => h.gateSet n (v.testBit n)

/-- TCFG of the timer selected (R713, R714): its holder writes it, and EN from 0 to 1 starts the count. -/
def tcfgWrite (h : Hub) (m : MasterId) (v : Nat) (c : Cap := {}) : Hub :=
  let t := h.rd TMR.TSEL_TIMER
  if !h.timerHeld m t then h.notOwner c
  else
    let mode := if bits v 1 2 = 3 then 0 else bits v 1 2
    let starts := v.testBit 0 && !h.on TMR.TCFG_EN 0 t
    (h.wr TMR.TCFG_EN v 0 t |>.wr TMR.TCFG_MODE mode 0 t |>.wr TMR.TCFG_OUTEN (bits v 3 1) 0 t
      |>.wr TMR.TCFG_PRESC (bits v 4 4) 0 t).when starts fun h =>
        (h.wr TMR.TCOUNT_COUNT (if mode = 2 then 0 else h.rd TMR.TLOAD_COUNT 0 t) 0 t).wr TMR.hStop 0 0 t

/-- A meter's registers written (R304, R307): what it has earned so far is settled first. -/
def meterWrite (h : Hub) (off v : Nat) (c : Cap := {}) : Hub :=
  h.when h.mselOk fun h =>
    let m := h.rd MTR.MSEL_METER
    let h1 := h.meterSet m (h.meterNow m)
    if off = MTR.MCIR_CT.off then h1.setMcir m (bits v 0 12)
    else let h2 := h1.fieldsWrite 0x60 off v c; h2.meterSet m (h2.meterNow m)

/-- CFG of a lane (R125, R127, R128). -/
def laneCfg (h : Hub) (l v : Nat) (c : Cap := {}) : Hub :=
  let old := h.rd OLN.CFG_CLASS l
  let h1 := h.fieldsWrite (0x20 + l) OLN.CFG_CLASS.off v c
  ((h1.when (h1.rd OLN.CFG_CLASS l != old) fun h => h.seqDefault l).refreshTx l).wr AON.hBeaconEn
    (h1.rd OLN.CFG_BEACON_EN l) 0 l |>.refreshLpest

/-- A write to the pages of the node's core and its lanes and ports (chapters 3 to 10); `g` is the node with the fields
of the word written. -/
def coreWrite (r : Req) (first i off v : Nat) (c : Cap) (h g : Hub) : Hub :=
  let p : Fin 8 := Fin.ofNat 8 i
  let l : Fin 32 := Fin.ofNat 32 i
  match first with
  | 0x01 =>
    if off = CLK.PLLEN_EN.off then h.pllenWrite v
    else if off = CLK.GATE_HEAD.off then h.gateWrite v
    else if off = CLK.AONCLK_FORCE_RC.off then
      g.wr CLK.REFSTAT_AON_RC (bnat (g.on CLK.AONCLK_FORCE_RC || !g.on CLK.REFSTAT_XTAL_OK))
    else g
  | 0x02 =>
    if off = FIL.VSET_CODE.off then h.when (h.up 2) fun h => h.vsetWrite r v
    else if off = FIL.HOLD_CT.off then g.refreshCap
    else if off = FIL.SNAP_GO.off then g.go v 0 (execFilSnap r)
    else g
  | 0x10 =>
    if off = OPT.CTL_DOWN.off then g.go v 0 (execPortDownCmd r p)
    else if off = OPT.WIDTH_GO.off then g.go v 4 (execWidthRequest r p)
    else if off = OPT.PM_GO.off then (g.go v 4 (execPmRequest r p)).go v 5 (execPmExit (some r) p)
    else if off = OPT.CRYPT_ARM.off then (g.go v 0 (execCryptArm r p)).go v 1 (execCryptRoll r p)
    else if off = OPT.TIME_GO.off then g.go v 16 (execTimeMarker (some r) p)
    else if off = OPT.MBX_TXC_GO.off then g.go v 16 (execMailboxSend r p)
    else g
  | 0x20 =>
    if off = OLN.CTL_RETRAIN.off then g.go v 0 (execRetrain r l)
    else if off = OLN.CFG_CLASS.off then (h.laneCfg i v c).noPower (i / 4)
    else if off = OLN.BEACON_SEND.off then g.go v 0 (execBeaconSend r l)
    else if off = OLN.RXCTL_FREEZE.off then (if v.testBit 0 then h.holdAdapted l else h).fieldsWrite (0x20 + l) off v c
    else g
  | 0x40 => if off = TUN.RRQ_CTL_GO.off then if v.testBit 0 then asCmd (execRrqSend r v) h else g else g
  | 0x41 => if off = RTE.UPLINK_PRIMARY.off then g.refreshPoints else g
  | 0x49 =>
    if off = THR.QSEL_POINT.off then g.when (14 ≤ g.rd THR.QSEL_POINT) fun h => h.raise 0x49 1 c
    else if off = THR.QCFG_ALPHA.off then h.qcfgWrite v c
    else if off = THR.HEADROOM_CELLS.off then g.refreshThr
    else g
  | 0x50 => if off = SCH.WHEEL_GRAN.off then h.granWrite i (bits v 0 4) c else g
  | 0x60 =>
    if off = MTR.MSEL_METER.off then g.when (!g.mselOk) fun h => h.raise 0x60 0 c
    else if MTR.MCFG_AWARE.off ≤ off ∧ off ≤ MTR.MPBS_UNITS.off then h.meterWrite off v c
    else if off = MTR.MINIT_GO.off then g.go v 0 (execMeterInit r)
    else if off = MTR.MCLR_GO.off then g.go v 0 (execMeterClear r)
    else g
  | 0x61 =>
    if off = CRT.PSEL_POINT.off then g.when (14 ≤ g.rd CRT.PSEL_POINT) fun h => h.raise 0x61 4 c
    else if off = CRT.PCAP_CT.off then if h.rd CRT.PSEL_POINT < 8 then h else g.refreshPoint (g.rd CRT.PSEL_POINT)
    else g
  | 0x68 =>
    if off = CAS.CFG_PRIO.off then if h.casOn then (h.nbrChange fun _ => g.refreshBest.refreshTier).recount h.countSum else g
    else if off = CAS.CTL_REDISCOVER.off then (g.go v 0 (execRediscover r)).go v 1 (execYield r) else g
  | 0x69 => if off = TWN.CCTL_INIT.off then g.go v 0 (execMergeInit r) else g
  | _ => g

/-- A write to the pages of the display engine, the bridge and the data ports (chapters 11 to 15). -/
def dataWrite (r : Req) (first i off v : Nat) (c : Cap) (h g : Hub) : Hub :=
  let n : Fin 4 := Fin.ofNat 4 i
  match first with
  | 0x75 =>
    if off = DCP.CTL_HPD.off then (h.hpdWrite i (v.testBit 0)).ringBits [.capture (Fin.ofNat 2 i)] (v / 2) c
    else if off = DCP.RING_FIRST.off then g.refreshFit i
    else g
  | 0x77 =>
    if off = DTL.WINEN_LO_EN.off then h.ringBits ((List.range 32).map fun k => .hostWin (Fin.ofNat 64 k)) v c
    else if off = DTL.WINEN_HI_EN.off then h.ringBits ((List.range 32).map fun k => .hostWin (Fin.ofNat 64 (32 + k))) v c
    else if off = DTL.SCTL_EN.off then
      let s := h.rd DTL.SSEL_STREAM
      ((h.wr DTL.SCTL_COPY_EN (bits v 2 1) 0 s).ringBits [.send (Fin.ofNat 64 s)] v c).go v 1 (execSendFull r)
    else if off = DTL.RCTL_EN.off then h.ringBits [.receive (Fin.ofNat 8 (h.rd DTL.RSEL_STREAM))] v c
    else if off = DTL.REPAIR_FIRST.off then h.repairWrite v c
    else if off = DTL.RGAPPOP_GO.off then g.go v 0 (execGapPop r)
    else g
  | 0x78 =>
    if off = DPT.CFG_RATE.off then
      if h.rd DPT.STAT_STATE i = 1 then h
      else if bits v 0 3 = 0 ∨ bits v 0 3 = 7 then h.raise (0x78 + i) 0 c
      else g
    else if off = DPT.CTL_TRAIN.off then (g.go v 0 (execDpTrain r n)).go v 1 (execDpDown r n)
    else if off = DPT.AUXCTL_GO.off then h.auxWrite i v
    else g
  | 0x80 => if off = TXB.PFPOP_GO.off then g.go v 0 (execPfpop r) else g
  | 0x81 =>
    if off = PCI.MSIXREQ_GO.off then asCmd (execMsixSend r v) h
    else if 0x800 ≤ off then g.msixFlush
    else g
  | 0x88 =>
    if off = MEM.CFG_EN.off then
      let was := h.rd MEM.CFG_EN
      (g.wr MEM.CFG_EN was).memSetEn (v.testBit 0) c
    else g
  | 0x89 => if off = MPH.TRAIN_GO.off then g.go v 0 (execMemTrain r) else g
  | 0x90 =>
    if off = ETH.VMAP_A_ITID.off then h.vmapStage i v else if off = ETH.VMAP_B_ETID.off then h.vmapApply i v c else g
  | 0x92 =>
    if off = LMD.P_MAP_ITID.off then h.pmapStage v else if off = LMD.P_ETID_ETID.off then h.pmapApply v c else g
  | 0xA0 => if off = USB.CFG_UPSEL.off then g.portsPresent.refreshUp false else g
  | 0xA1 =>
    if off = UDF.CTL_CONNECT.off then
      (g.wr UDF.CTL_CONNECT (h.rd UDF.CTL_CONNECT)).when (h.up 0xA1 && h.on UDF.CTL_CONNECT != v.testBit 0) fun h => h.udfConnect (v.testBit 0)
    else if off = UDF.EP0CTL_GO.off then
      ((g.go v 8 (execEp0Go r (bits v 0 7))).go v 9 (execEp0Stall r)).go v 10 (execStatusGo r)
    else if off = UDF.EP1CTL_INGO.off then g.go v 12 (execEp1Ingo r (bits v 0 10))
    else if off = UDF.EP2CTL_GO.off then g.go v 8 (execEp2Go r (bits v 0 7))
    else if off = UDF.WAKE_REQ.off then g.go v 0 (execWakeReq r)
    else g
  | 0xA2 =>
    if off = RHA.CFG_MODE.off then (g.wr RHA.CFG_MODE (h.rd RHA.CFG_MODE)).rhaMode v c
    else if off = RHA.RCFG_DEVADDR.off then h.rcfgWrite v c
    else if off = RHA.DB_RING.off then asCmd (execDoorbell r (Fin.ofNat 256 v)) h
    else if off = RHA.CANCEL_GO.off then asCmd (execCancel r v) h
    else if off = RHA.BUSCTL_GO.off then asCmd (execBusctl r v) h
    else g
  | _ => g

/-- A write to the pages of power, wake, and the node's balls and timers (chapters 16 to 18 and 22). -/
def powerWrite (r : Req) (first i off v : Nat) (c : Cap) (h g : Hub) : Hub :=
  let p : Fin 8 := Fin.ofNat 8 i
  let k : Fin 2 := Fin.ofNat 2 i
  match first with
  | 0x00 =>
    if off = TOP.RSTCMD_KEY.off then asCmd (execRstcmd r v) h
    else if off = TOP.NTCTL_SET.off then g.go v 0 (execNodeTimeSet r)
    else g
  | 0x03 =>
    if off = AON.WAKESRC_SEEN.off then g.when (!g.on AON.WAKESRC_SEEN) fun h => h.wr AON.WAKEFIRST_VALID 0 else g.refreshLpest
  | 0x04 =>
    if off = PDM.STATE_TARGET.off then asCmd (execStateRequest r (v % 8)) h
    else
      match (List.finRange 6).find? fun c => (voteFld c).off == off with
      | some c => asCmd (execVoteWrite r c v) h
      | none => g
  | 0xB0 =>
    if off = CLP.CTL_HRESET.off then
      (((g.go v 0 (execClaspHardReset (some r) p)).go v 1 (execClaspSwap r p)).go v 2 (execReneg r p)).go v 3 (execContractOpen r p)
    else (g.when g.solitaire fun g => g.wr CLP.CFG_GUARD (h.rd CLP.CFG_GUARD i) i).claspFollow i (h.imaxOffer i)
  | 0xB8 =>
    if off = TCP.CTL_HARDRESET.off then (g.go v 0 (execPdHardreset r k)).go v 1 (execTypecDetach r k) else g.pdConfig k
  | 0xC0 =>
    if off = LPO.ILIM_MA10.off then h.fuseWrite i false v c
    else if off = LPO.TIMER_FAULT_US.off then h.fuseWrite i true v c
    else if off = LPO.CNTCLR_GO.off then g.go v 1 (execEnergyClear r p)
    else (g.refreshCpwr i).refreshEmerg
  | 0xC8 => g.refreshBus
  | 0xD0 => if off = GPX.BFUNC_FUNC.off then h.ballWrite v c else g
  | 0xD1 =>
    let t := h.rd TMR.TSEL_TIMER
    if off = TMR.TCLAIM_CLAIM.off then
      (h.when (h.up 0xD1 && v.testBit 8) fun h => h.timerTake r.master (v % 256) c).when (h.up 0xD1 && v.testBit 9) fun h =>
        h.timerGive r.master c
    else if off = TMR.TCFG_EN.off then h.tcfgWrite r.master v c
    else if off = TMR.TLOAD_COUNT.off then if h.timerHeld r.master t then g else h.notOwner c
    else g
  | _ => g

/-- A write to the pages of keys, update, protection, telemetry and the management port (chapters 19 to 21). -/
def guardWrite (r : Req) (first off v : Nat) (c : Cap) (h g : Hub) : Hub :=
  match first with
  | 0x06 => if off = TEL.SNAP_GO.off then g.go v 0 (execTelemetrySnapshot r) else g
  | 0x0A =>
    if off = LKT.CTL_MARKCLR.off then g.go v 0 (execMarkclr r)
    else if off = LKT.WCTL_TYPE.off then g.go v 31 (execLocketFirmwareRecord r v)
    else if off = LKT.RSEQ_SEQ.off then asCmd (execLocketRead r v) h
    else g
  | 0x0B => if off = LCS.CTL_GO.off then g.go v 0 (execLifeCycleChange r) else g
  | 0x0C =>
    if off = DBG.CTL_UNLOCK.off then (g.go v 0 (execDebugUnlock r)).go v 1 (execRelock r)
    else if off = DBG.FI_GO.off then g.go v 31 (execFaultInject r v)
    else g
  | 0x0D =>
    if off = MGP.CTL_CLOSE.off then g.go v 0 (execSessionClose r)
    else if off = MGP.CLAIM_TAKE.off then (g.go v 0 (execClaimTake r)).go v 1 (execClaimRelease r)
    else if off = MGP.AUTHCTL_ACCEPT.off then (g.go v 0 (execAuthAccept r)).go v 1 (execAuthReject r)
    else g
  | 0x0E =>
    if off = KEY.CMD_OP.off then
      if v.testBit 31 ∨ r.master ≠ .mcpu then
        h.when (h.up 0xE || r.master != .mcpu) fun h => h.keyGo r.master (bits v 0 4) v c
      else g
    else if off = KEY.LOCKSET_SLOTS.off then h.when (h.up 0xE) fun h => h.lockSlots v
    else if off = KEY.MEXT_GO.off then g.go v 0 (execMeasurementExtend r)
    else g
  | 0x0F =>
    if off = UPD.CTL_START.off then
      ((((g.go v 0 (execUpdateStart r (v.testBit 8))).go v 1 (execVerify r)).go v 2 (execActivate r)).go v 3
        (execUpdateAbort r)).go v 4 (execSvncommit r)
    else if off = UPD.BLK_NUM.off then g.go v 31 (execBlockLand r (v % 2 ^ 14))
    else if off = UPD.BLKDATA_DATA.off then asCmd (execBlockDataWrite r v) h
    else if off = UPD.BDEC_GO.off then
      ((g.go v 24 (execBundleDecrypt r v)).go v 25 (execBdecClr r)).refreshClear
    else g
  | _ => g

/-- Whether a write to the word at offset `off` of page `pg` is ignored whole (R6 to R8): no field of the word may be written, or a
lock covers those that may. -/
def ignored (h : Hub) (pg off : Nat) : Bool :=
  (fieldsAt pg off).all fun p => p.1.acc == .ro || (p.1.acc == .rwl && h.on HDR.LOCK_LCFG pg)

/-- A write of `v` to the word at offset `off` of page `pg` that has passed the window's checks: the header, the
fields under their access codes, and what the word's block does with it. -/
def wordWrite (h : Hub) (r : Req) (pg off v : Nat) : Hub :=
  let c := Hub.accCap r true (pg * 4096 + off)
  if off < 0x100 then h.headerWrite pg off v c
  else if secondPage pg then
    if pg = ACT.EW7_DATA.pg ∧ off = ACT.EW7_DATA.off then asCmd (execAccessEntryWrite r v) h else h.fieldsWrite pg off v c
  else if h.ignored pg off then h
  else
    let first := ((pageRow? pg).map (·.first)).getD pg
    let i := pg - first
    let g := h.fieldsWrite pg off v c
    if cntOffset first = some off ∧ first ≠ 0xC0 then h.when (v.testBit 0) (clearCounts pg)
    else
      match first with
      | 0x00 | 0x03 | 0x04 | 0xB0 | 0xB8 | 0xC8 | 0xD0 | 0xD1 => h.powerWrite r first i off v c g
      | 0xC0 =>
        (h.powerWrite r first i off v c g).when (cntOffset first == some off && v.testBit 0) (clearCounts pg)
      | 0x06 | 0x0A | 0x0B | 0x0C | 0x0D | 0x0E | 0x0F => h.guardWrite r first off v c g
      | 0x75 | 0x77 | 0x78 | 0x80 | 0x81 | 0x88 | 0x89 | 0x90 | 0x92 | 0xA0 | 0xA1 | 0xA2 => h.dataWrite r first i off v c g
      | _ => h.coreWrite r first i off v c g

/-! ### Table windows -/

/-- Entry `e` of table `t` replaced by `ws` (R51, R53). -/
def entryReplace (h : Hub) (t : Nat) (row : TableRow) (e : Nat) (ws : List Nat) (c : Cap := {}) : Hub :=
  if t = 0 then h.tunReplace e ws c
  else if t = 2 then h.slotReplace e ws c
  else h.setTwords (row.base + row.stride * e) (maskWords t e ws)

/-- A word of a table window written (R51): a lower word is staged, the highest replaces the entry. -/
def tableWrite (h : Hub) (r : Req) (t : Nat) (row : TableRow) (addr v : Nat) : Hub :=
  let m := r.master
  let e := (addr - row.base) / row.stride
  let w := (addr - row.base) % row.stride / 4
  if w + 1 = row.stride / 4 then (h.entryReplace t row e (h.stagedWords m t row e (v % 2 ^ 32)) (Hub.accCap r true addr)).clearStaging m t
  else h.stage m t e w (v % 2 ^ 32)

/-- A word of a table window read (R52). -/
def tableRead (h : Hub) (m : MasterId) (row : TableRow) (addr : Nat) : Nat × Hub :=
  let base := addr - (addr - row.base) % row.stride
  let w := (addr - base) / 4
  if w = 0 then
    let l : TabLatch := { valid := true, addr := base, words := h.twords base (row.stride / 4) }
    (h.tword addr, { h with tabLatch := Tab.ins (masterNum m) l h.tabLatch })
  else
    let l := Tab.get {} (masterNum m) h.tabLatch
    (if l.valid && l.addr == base then l.words.getD w 0 else h.tword addr, h)

/-! ### Accesses -/

/-- One word written after the checks. -/
def putWord (h : Hub) (r : Req) (addr v : Nat) : Hub :=
  match tableAt addr with
  | some (t, row) => h.tableWrite r t row addr v
  | none => h.wordWrite r (addr / 4096) (addr % 4096) (v % 2 ^ 32)

/-- One word read after the checks; `l` is the master's 64-bit latch as the access found it (R32). -/
def getWord (h : Hub) (r : Req) (l : Latch64) (addr : Nat) : Nat × Hub :=
  match tableAt addr with
  | some (_, row) => h.tableRead r.master row addr
  | none =>
    let pg := addr / 4096
    let h1 := h.fresh pg (addr % 4096)
    let w := h1.readReg pg (addr % 4096)
    if isLow64 pg (addr % 4096) then
      let n : Latch64 := { valid := true, addr := addr + 4, high := h1.readReg pg (addr % 4096 + 4) }
      (w, { h1 with latch64 := Tab.ins (masterNum r.master) n h1.latch64 })
    else if l.valid && l.addr == addr then (l.high, h1)
    else (w, h1)

/-- A write of `size` bytes: the low word, then the high word (R31). -/
def winWrite (h : Hub) (r : Req) (addr size v : Nat) : Hub :=
  h.asWrite r addr size fun h =>
    let h1 := h.putWord r addr (v % 2 ^ 32)
    if size = 8 then h1.putWord r (addr + 4) (v / 2 ^ 32) else h1

/-- A read of `size` bytes: the low word, then the high word (R31, R32). -/
def winRead (h : Hub) (r : Req) (addr size : Nat) : Hub :=
  let l := Tab.get {} (masterNum r.master) h.latch64
  h.asRead r addr size fun h =>
    let (a, h1) := h.getWord r l addr
    if size = 8 then
      let l1 := Tab.get {} (masterNum r.master) h1.latch64
      let (b, h2) := (h1.dropLatch r.master).getWord r l1 (addr + 4)
      ([a, b], h2)
    else ([a], h1)

/-- One 32-bit access of the register agent or of the management port: a read, or a write of `v`. Its status as R190 or
R681 codes it, and the word read. -/
def oneWord (h : Hub) (r : Req) (addr : Nat) (v : Option Nat) : (Nat × Nat) × Hub :=
  let h1 := match v with
    | some x => h.winWrite r addr 4 x
    | none => h.winRead r addr 4
  (match Tab.get Resp.none (masterNum r.master) h1.resp with
    | .ok d => (0, d.headD 0)
    | .fabric st _ => (st, 0xFFFFFFFF)
    | .tsudy st _ => (st, 0xFFFFFFFF)
    | _ => (1, 0xFFFFFFFF), h1)

/-- Accesses in order, each checked by itself (R190, R682). -/
def manyWords (r : Req) : List (Nat × Option Nat) → Hub → List (Nat × Nat) × Hub
  | [], h => ([], h)
  | (addr, v) :: rest, h =>
    let (x, h1) := h.oneWord r addr v
    let (xs, h2) := manyWords r rest h1
    (x :: xs, h2)

end Hub

/-- The first status other than OK of a request's words, 0 where none is. -/
def firstStatus (l : List (Nat × Nat)) : Nat := ((l.map (·.1)).find? (· != 0)).getD 0

/-- FAILIDX (R189): the first word whose status is not OK, or the count where every word is OK. -/
def failIdx (l : List (Nat × Nat)) : Nat := l.findIdx fun x => x.1 != 0

/-- Whether a request for `count` words at `addr` is carried out at all (R190, R681). -/
def countOk (addr count : Nat) : Bool :=
  decide (1 ≤ count ∧ count ≤ 12) && decide (addr % 4096 + 4 * count ≤ 4096)

namespace Hub

/-- REG_RSP sent to `src` (R189, R191). -/
def regRspSend (h : Hub) (src tok status failidx count : Nat) (data : List Nat) : Hub :=
  h.ctlSend { typ := 3, resp := true, dst := src, tok := tok,
              body := natLe 1 status ++ natLe 1 failidx ++ natLe 1 count ++ List.replicate 5 0 ++ ofWords data }

/-- The register agent on one request (R190, R191): `ws` gives the words to write, `none` where it reads. -/
def agentGo (h : Hub) (src tok addr count : Nat) (ws : Option (List Nat)) : Hub :=
  let a := addr % 2 ^ 24
  let n := count % 16
  if !countOk a n then h.regRspSend src tok 5 0 n []
  else
    let (xs, h2) := manyWords { master := .fabric, node := src % 2 ^ 14 }
      ((List.range n).map fun k => (a + 4 * k, ws.map fun l => l.getD k 0)) (h.cnt TUN.RRA_CNT_EXEC)
    h2.when (h2.up 0x40) fun h =>
      h.regRspSend src tok (firstStatus xs) (failIdx xs) n (if ws.isNone then xs.map (·.2) else [])

/-- The words of a session request (R682): status, response data, and the node. -/
def sessionWords (f : TsudyFrame) (write fixed : Bool) (h : Hub) : Nat × Bytes × Hub :=
  let a := f.off % 2 ^ 24
  if !(if fixed then countOk 0 f.count else countOk a f.count) then (5, natLe 1 0, h)
  else
    let (xs, h1) := manyWords { master := .mgp }
      ((List.range f.count).map fun k => (if fixed then a else a + 4 * k, if write then some (f.words.getD k 0) else none)) h
    (firstStatus xs, natLe 1 (failIdx xs) ++ (if write then [] else ofWords (xs.map (·.2))), h1)

/-- The parameters of RD, WR and WRF (R679). -/
def sessionParams (f : TsudyFrame) (write : Bool) : Bytes :=
  natLe 3 f.off ++ natLe 1 f.count ++ (if write then ofWords (f.words.map (· % 2 ^ 32)) else [])

end Hub

/-! ### Commands -/

/-- REGISTER_WRITE (R6, R7, R31, R716). -/
def execRegisterWrite (r : Req) (addr size v : Nat) (s : State) : Host.Outcome State Fault Refusal :=
  s.act fun h => h.winWrite r addr size v

/-- LOW_WORD_READ (R31, R32): a read at `addr`, of the size that the request gives. -/
def execLowWordRead (r : Req) (addr : Nat) (s : State) : Host.Outcome State Fault Refusal := s.act fun h => h.winRead r addr r.size

/-- TABLE_LOWEST_WORD_READ (R31, R52): a read at `addr`, of the size that the request gives. -/
def execTableLowestWordRead (r : Req) (addr : Nat) (s : State) : Host.Outcome State Fault Refusal :=
  s.act fun h => h.winRead r addr r.size

/-- TABLE_WORD_WRITE (R51): a write of 32 bits at `addr`. -/
def execTableWordWrite (r : Req) (addr v : Nat) (s : State) : Host.Outcome State Fault Refusal :=
  s.act fun h => h.winWrite r addr 4 v

/-- TABLE_ENTRY_WRITE (R51): a write of 32 bits at `addr`. -/
def execTableEntryWrite (r : Req) (addr v : Nat) (s : State) : Host.Outcome State Fault Refusal :=
  s.act fun h => h.winWrite r addr 4 v

/-- REG_RD (R189 to R191). -/
def execRegRd (src tok addr count : Nat) (s : State) : Host.Outcome State Fault Refusal :=
  s.act fun h => h.when (h.up 0x40) fun h => h.agentGo src tok addr count none

/-- REG_WR (R189 to R191). -/
def execRegWr (src tok addr count : Nat) (data : List Nat) (s : State) : Host.Outcome State Fault Refusal :=
  s.act fun h => h.when (h.up 0x40) fun h => h.agentGo src tok addr count (some data)

/-- DEBUG_ACCESS (R649, R715). -/
def execDebugAccess (write : Bool) (addr size v : Nat) (s : State) : Host.Outcome State Fault Refusal :=
  s.act fun h => if write then h.winWrite { master := .dbg } addr size v else h.winRead { master := .dbg } addr size

/-- RD (R679, R682). -/
def execRd (f : TsudyFrame) (s : State) : Host.Outcome State Fault Refusal :=
  s.act fun h => h.when h.mgpFree fun h =>
    h.sessionReq 0x10 f (Hub.sessionParams f false) 15 (Hub.sessionWords f false false)

/-- WR (R679, R682). -/
def execWr (f : TsudyFrame) (s : State) : Host.Outcome State Fault Refusal :=
  s.act fun h => h.when h.mgpFree fun h =>
    h.sessionReq 0x11 f (Hub.sessionParams f true) (15 + 4 * f.count) (Hub.sessionWords f true false)

/-- WRF (R679, R682): every word goes to the one offset. -/
def execWrf (f : TsudyFrame) (s : State) : Host.Outcome State Fault Refusal :=
  s.act fun h => h.when h.mgpFree fun h =>
    h.sessionReq 0x12 f (Hub.sessionParams f true) (15 + 4 * f.count) (Hub.sessionWords f true true)

end Sys2Proof.Machine
end

