-- ==== Sys2Proof/Machine/Dispatch.lean ====
section
/-! DEFINITION. The dispatcher: one arm for each constructor of `Instr`, each a direct call of its meaning. -/

namespace Sys2Proof.Machine

/-- The effect of a command on everything but the queue. -/
def exec (i : Instr) (s : State) : Host.Outcome State Fault Refusal :=
  match i with
  | .powerOnReset brownout => Sys2Proof.Machine.execPowerOnReset brownout s
  | .porRelease straps => Sys2Proof.Machine.execPorRelease straps s
  | .hrstN low straps => Sys2Proof.Machine.execHrstN low straps s
  | .rstcmd r v => Sys2Proof.Machine.execRstcmd r v s
  | .softReset r pg => Sys2Proof.Machine.execSoftReset r pg s
  | .softResetDone pg => Sys2Proof.Machine.execSoftResetDone pg s
  | .blockEnable r pg en => Sys2Proof.Machine.execBlockEnable r pg en s
  | .registerWrite r addr size v => Sys2Proof.Machine.execRegisterWrite r addr size v s
  | .lowWordRead r addr => Sys2Proof.Machine.execLowWordRead r addr s
  | .tableLowestWordRead r addr => Sys2Proof.Machine.execTableLowestWordRead r addr s
  | .tableWordWrite r addr v => Sys2Proof.Machine.execTableWordWrite r addr v s
  | .tableEntryWrite r addr v => Sys2Proof.Machine.execTableEntryWrite r addr v s
  | .tunnelEntryWrite r idx v => Sys2Proof.Machine.execTunnelEntryWrite r idx v s
  | .slotEntryWrite r idx v => Sys2Proof.Machine.execSlotEntryWrite r idx v s
  | .estatClear r pg v newErr => Sys2Proof.Machine.execEstatClear r pg v newErr s
  | .commit r pg => Sys2Proof.Machine.execCommit r pg s
  | .commitPoint pg => Sys2Proof.Machine.execCommitPoint pg s
  | .txcoefCommit l => Sys2Proof.Machine.execTxcoefCommit l s
  | .cntclr r pg => Sys2Proof.Machine.execCntclr r pg s
  | .escalationExpiry pg => Sys2Proof.Machine.execEscalationExpiry pg s
  | .vsetWrite r v => Sys2Proof.Machine.execVsetWrite r v s
  | .vidStep => Sys2Proof.Machine.execVidStep s
  | .hsrateUpdate rate => Sys2Proof.Machine.execHsrateUpdate rate s
  | .vmeasUpdate mv minMv => Sys2Proof.Machine.execVmeasUpdate mv minMv s
  | .tjUpdate temp => Sys2Proof.Machine.execTjUpdate temp s
  | .filSnap r => Sys2Proof.Machine.execFilSnap r s
  | .clockGateOff r bit => Sys2Proof.Machine.execClockGateOff r bit s
  | .clockStop bit => Sys2Proof.Machine.execClockStop bit s
  | .gateTimeout bit => Sys2Proof.Machine.execGateTimeout bit s
  | .clockGateOn r bit => Sys2Proof.Machine.execClockGateOn r bit s
  | .pllUnlock pll => Sys2Proof.Machine.execPllUnlock pll s
  | .pllRelock pll => Sys2Proof.Machine.execPllRelock pll s
  | .refLoss => Sys2Proof.Machine.execRefLoss s
  | .xtalLoss => Sys2Proof.Machine.execXtalLoss s
  | .signalDetect l => Sys2Proof.Machine.execSignalDetect l s
  | .signalAbsent l => Sys2Proof.Machine.execSignalAbsent l s
  | .trainTimeout l => Sys2Proof.Machine.execTrainTimeout l s
  | .attemptEnd l => Sys2Proof.Machine.execAttemptEnd l s
  | .presetStep l => Sys2Proof.Machine.execPresetStep l s
  | .tsReceived l inverted block lag => Sys2Proof.Machine.execTsReceived l inverted block lag s
  | .portFormTimer p => Sys2Proof.Machine.execPortFormTimer p s
  | .skipReceived p level => Sys2Proof.Machine.execSkipReceived p level s
  | .amReceived l block inPlace lag => Sys2Proof.Machine.execAmReceived l block inPlace lag s
  | .blockLockLoss l => Sys2Proof.Machine.execBlockLockLoss l s
  | .cdrLockLoss l => Sys2Proof.Machine.execCdrLockLoss l s
  | .syncLimit l n => Sys2Proof.Machine.execSyncLimit l n s
  | .retrain r l => Sys2Proof.Machine.execRetrain r l s
  | .retireSend p => Sys2Proof.Machine.execRetireSend p s
  | .retireReceived p block => Sys2Proof.Machine.execRetireReceived p block s
  | .eidleSend p => Sys2Proof.Machine.execEidleSend p s
  | .eidleReceived p l2 => Sys2Proof.Machine.execEidleReceived p l2 s
  | .ftsReceived p frameLock => Sys2Proof.Machine.execFtsReceived p frameLock s
  | .beaconSend r l => Sys2Proof.Machine.execBeaconSend r l s
  | .beaconBurst p => Sys2Proof.Machine.execBeaconBurst p s
  | .beaconDetect l => Sys2Proof.Machine.execBeaconDetect l s
  | .linkFrameReceived p phys f => Sys2Proof.Machine.execLinkFrameReceived p phys f s
  | .frameGroupSend p => Sys2Proof.Machine.execFrameGroupSend p s
  | .replayTimeout p => Sys2Proof.Machine.execReplayTimeout p s
  | .cap p tok payload => Sys2Proof.Machine.execCap p tok payload s
  | .capack p tok => Sys2Proof.Machine.execCapack p tok s
  | .capRepeat p => Sys2Proof.Machine.execCapRepeat p s
  | .capxTimeout p => Sys2Proof.Machine.execCapxTimeout p s
  | .keyingTimeout p => Sys2Proof.Machine.execKeyingTimeout p s
  | .portDownCmd r p => Sys2Proof.Machine.execPortDownCmd r p s
  | .mailboxSend r p => Sys2Proof.Machine.execMailboxSend r p s
  | .mailbox p typ len payload => Sys2Proof.Machine.execMailbox p typ len payload s
  | .widthRequest r p => Sys2Proof.Machine.execWidthRequest r p s
  | .widthReq p tok mask => Sys2Proof.Machine.execWidthReq p tok mask s
  | .widthAck p tok status => Sys2Proof.Machine.execWidthAck p tok status s
  | .widthTimeout p => Sys2Proof.Machine.execWidthTimeout p s
  | .pmRequest r p => Sys2Proof.Machine.execPmRequest r p s
  | .pmReqSend p => Sys2Proof.Machine.execPmReqSend p s
  | .pmReq p tok l2 => Sys2Proof.Machine.execPmReq p tok l2 s
  | .pmAckSend p => Sys2Proof.Machine.execPmAckSend p s
  | .pmAck p tok status state => Sys2Proof.Machine.execPmAck p tok status state s
  | .pmTimeout p => Sys2Proof.Machine.execPmTimeout p s
  | .pmExit r p => Sys2Proof.Machine.execPmExit r p s
  | .timeMarker r p => Sys2Proof.Machine.execTimeMarker r p s
  | .time p payload => Sys2Proof.Machine.execTime p payload s
  | .cryptArm r p => Sys2Proof.Machine.execCryptArm r p s
  | .key p tok phase span => Sys2Proof.Machine.execKey p tok phase span s
  | .keyack p tok phase status => Sys2Proof.Machine.execKeyack p tok phase status s
  | .cryptRoll r p => Sys2Proof.Machine.execCryptRoll r p s
  | .tag p bytes => Sys2Proof.Machine.execTag p bytes s
  | .cellIngress pt parityErr c => Sys2Proof.Machine.execCellIngress pt parityErr c s
  | .egressSelect pt => Sys2Proof.Machine.execEgressSelect pt s
  | .regRd src tok addr count => Sys2Proof.Machine.execRegRd src tok addr count s
  | .regWr src tok addr count data => Sys2Proof.Machine.execRegWr src tok addr count data s
  | .regRsp src tok status failidx count data => Sys2Proof.Machine.execRegRsp src tok status failidx count data s
  | .rrqSend r v => Sys2Proof.Machine.execRrqSend r v s
  | .rrqTimeout => Sys2Proof.Machine.execRrqTimeout s
  | .tunSetup src tok entry => Sys2Proof.Machine.execTunSetup src tok entry s
  | .tunOpen src tok tid => Sys2Proof.Machine.execTunOpen src tok tid s
  | .tunClose src tok tid => Sys2Proof.Machine.execTunClose src tok tid s
  | .tunAck src tok status typ tid idx => Sys2Proof.Machine.execTunAck src tok status typ tid idx s
  | .tunnelMsgRetry tok => Sys2Proof.Machine.execTunnelMsgRetry tok s
  | .pendingTimeout idx => Sys2Proof.Machine.execPendingTimeout idx s
  | .drainingTimeout idx => Sys2Proof.Machine.execDrainingTimeout idx s
  | .orphanRelease idx => Sys2Proof.Machine.execOrphanRelease idx s
  | .routeGenSwitch r v => Sys2Proof.Machine.execRouteGenSwitch r v s
  | .mergeInit r => Sys2Proof.Machine.execMergeInit r s
  | .pathSilent ctx pathB => Sys2Proof.Machine.execPathSilent ctx pathB s
  | .ageSweep => Sys2Proof.Machine.execAgeSweep s
  | .scrubSlot bank idle flips writtenMeanwhile => Sys2Proof.Machine.execScrubSlot bank idle flips writtenMeanwhile s
  | .scrubForcedEntry bank => Sys2Proof.Machine.execScrubForcedEntry bank s
  | .bufferWipeDone => Sys2Proof.Machine.execBufferWipeDone s
  | .qcfgWrite r v => Sys2Proof.Machine.execQcfgWrite r v s
  | .reserve src tok tid txn amount egress => Sys2Proof.Machine.execReserve src tok tid txn amount egress s
  | .caratCommit src tok tid txn => Sys2Proof.Machine.execCaratCommit src tok tid txn s
  | .abort src tok tid txn => Sys2Proof.Machine.execAbort src tok tid txn s
  | .decrease src tok tid txn amount => Sys2Proof.Machine.execDecrease src tok tid txn amount s
  | .release src tok tid txn => Sys2Proof.Machine.execRelease src tok tid txn s
  | .crtAck src tok status typ tid txn committed => Sys2Proof.Machine.execCrtAck src tok status typ tid txn committed s
  | .caratMsgRetry tok => Sys2Proof.Machine.execCaratMsgRetry tok s
  | .holdExpiry idx => Sys2Proof.Machine.execHoldExpiry idx s
  | .wheelSlot pt => Sys2Proof.Machine.execWheelSlot pt s
  | .wheelGranWrite r pt v => Sys2Proof.Machine.execWheelGranWrite r pt v s
  | .meterInit r => Sys2Proof.Machine.execMeterInit r s
  | .meterClear r => Sys2Proof.Machine.execMeterClear r s
  | .neighbourSend => Sys2Proof.Machine.execNeighbourSend s
  | .neighbour p payload => Sys2Proof.Machine.execNeighbour p payload s
  | .crownDeclare => Sys2Proof.Machine.execCrownDeclare s
  | .countSend => Sys2Proof.Machine.execCountSend s
  | .count p n epoch => Sys2Proof.Machine.execCount p n epoch s
  | .grant p first size tier epoch => Sys2Proof.Machine.execGrant p first size tier epoch s
  | .crownHbSend => Sys2Proof.Machine.execCrownHbSend s
  | .crownHb src tok epoch yields openIntents timeNs => Sys2Proof.Machine.execCrownHb src tok epoch yields openIntents timeNs s
  | .hbTimeout => Sys2Proof.Machine.execHbTimeout s
  | .nodeReady src tok info => Sys2Proof.Machine.execNodeReady src tok info s
  | .linkEvent src tok event port partner tid partnerId cnt => Sys2Proof.Machine.execLinkEvent src tok event port partner tid partnerId cnt s
  | .standby src tok appoint epoch => Sys2Proof.Machine.execStandby src tok appoint epoch s
  | .routeSet src tok first cnt port down valid tier => Sys2Proof.Machine.execRouteSet src tok first cnt port down valid tier s
  | .idBlock src tok first size port => Sys2Proof.Machine.execIdBlock src tok first size port s
  | .ledger src tok op tid txn before after hops => Sys2Proof.Machine.execLedger src tok op tid txn before after hops s
  | .casAck src tok status typ epoch => Sys2Proof.Machine.execCasAck src tok status typ epoch s
  | .rediscover r => Sys2Proof.Machine.execRediscover r s
  | .yield r => Sys2Proof.Machine.execYield r s
  | .unreconciledCheck => Sys2Proof.Machine.execUnreconciledCheck s
  | .ringEnable r w => Sys2Proof.Machine.execRingEnable r w s
  | .ringFillDone w => Sys2Proof.Machine.execRingFillDone w s
  | .captureFrameStart d => Sys2Proof.Machine.execCaptureFrameStart d s
  | .captureCommit d pixels => Sys2Proof.Machine.execCaptureCommit d pixels s
  | .captureAbort d cause hact vact pclk => Sys2Proof.Machine.execCaptureAbort d cause hact vact pclk s
  | .hostPixelWrite w off data => Sys2Proof.Machine.execHostPixelWrite w off data s
  | .fwEnd w => Sys2Proof.Machine.execFwEnd w s
  | .fwAbort w => Sys2Proof.Machine.execFwAbort w s
  | .signaturesReady w => Sys2Proof.Machine.execSignaturesReady w s
  | .catchupDone w => Sys2Proof.Machine.execCatchupDone w s
  | .streamSendFrame st => Sys2Proof.Machine.execStreamSendFrame st s
  | .repair r v => Sys2Proof.Machine.execRepair r v s
  | .sendFull r => Sys2Proof.Machine.execSendFull r s
  | .tileReceived tid t => Sys2Proof.Machine.execTileReceived tid t s
  | .endReceived tid t => Sys2Proof.Machine.execEndReceived tid t s
  | .gapPop r => Sys2Proof.Machine.execGapPop r s
  | .vblankFlip h => Sys2Proof.Machine.execVblankFlip h s
  | .activeEnd h low => Sys2Proof.Machine.execActiveEnd h low s
  | .underrun h line pixel => Sys2Proof.Machine.execUnderrun h line pixel s
  | .headPllLock h => Sys2Proof.Machine.execHeadPllLock h s
  | .headLockTimeout h => Sys2Proof.Machine.execHeadLockTimeout h s
  | .dpTrain r h => Sys2Proof.Machine.execDpTrain r h s
  | .dpTrainDone h ok rate lanes => Sys2Proof.Machine.execDpTrainDone h ok rate lanes s
  | .dpDown r h => Sys2Proof.Machine.execDpDown r h s
  | .hpdIrq h lostLock retrained => Sys2Proof.Machine.execHpdIrq h lostLock retrained s
  | .hpdLoss h => Sys2Proof.Machine.execHpdLoss h s
  | .hpdArrive h => Sys2Proof.Machine.execHpdArrive h s
  | .auxTransaction r h v => Sys2Proof.Machine.execAuxTransaction r h v s
  | .auxDone h ok reply n data => Sys2Proof.Machine.execAuxDone h ok reply n data s
  | .outboundWrite fromBus addr ro ns data => Sys2Proof.Machine.execOutboundWrite fromBus addr ro ns data s
  | .outboundRead fromBus addr len ro ns => Sys2Proof.Machine.execOutboundRead fromBus addr len ro ns s
  | .mwr tid src h data => Sys2Proof.Machine.execMwr tid src h data s
  | .postedWriteIssue busOk => Sys2Proof.Machine.execPostedWriteIssue busOk s
  | .mrd tid src h => Sys2Proof.Machine.execMrd tid src h s
  | .readIssue => Sys2Proof.Machine.execReadIssue s
  | .pwaitTimeout => Sys2Proof.Machine.execPwaitTimeout s
  | .busCompletion ok data => Sys2Proof.Machine.execBusCompletion ok data s
  | .cpld tid h data => Sys2Proof.Machine.execCpld tid h data s
  | .cpl tid h => Sys2Proof.Machine.execCpl tid h s
  | .perr tid src h => Sys2Proof.Machine.execPerr tid src h s
  | .completionTimeout t => Sys2Proof.Machine.execCompletionTimeout t s
  | .quarantineEnd t => Sys2Proof.Machine.execQuarantineEnd t s
  | .sidebandPoll => Sys2Proof.Machine.execSidebandPoll s
  | .sbrd tid h => Sys2Proof.Machine.execSbrd tid h s
  | .sbrsp tid h sbstat catchBits => Sys2Proof.Machine.execSbrsp tid h sbstat catchBits s
  | .msiCatch addr data => Sys2Proof.Machine.execMsiCatch addr data s
  | .functionLevelReset => Sys2Proof.Machine.execFunctionLevelReset s
  | .pcieLinkChange up speed width ltssm => Sys2Proof.Machine.execPcieLinkChange up speed width ltssm s
  | .msixSend r v => Sys2Proof.Machine.execMsixSend r v s
  | .pfpop r => Sys2Proof.Machine.execPfpop r s
  | .memEnable r en => Sys2Proof.Machine.execMemEnable r en s
  | .memTrain r => Sys2Proof.Machine.execMemTrain r s
  | .memTrainDone chOk => Sys2Proof.Machine.execMemTrainDone chOk s
  | .memWipeDone ms => Sys2Proof.Machine.execMemWipeDone ms s
  | .memPromote level => Sys2Proof.Machine.execMemPromote level s
  | .ethFrameRx m fcsOk room frame => Sys2Proof.Machine.execEthFrameRx m fcsOk room frame s
  | .ethFrameTx tid poison frame => Sys2Proof.Machine.execEthFrameTx tid poison frame s
  | .vmapWrite r m v => Sys2Proof.Machine.execVmapWrite r m v s
  | .ethLinkChange m up blockLock fecLock => Sys2Proof.Machine.execEthLinkChange m up blockLock fecLock s
  | .lumeFrameRx p fcsOk frame => Sys2Proof.Machine.execLumeFrameRx p fcsOk frame s
  | .lumeFrameTx tid frame => Sys2Proof.Machine.execLumeFrameTx tid frame s
  | .portMapWrite r v => Sys2Proof.Machine.execPortMapWrite r v s
  | .sceneEntry p => Sys2Proof.Machine.execSceneEntry p s
  | .sceneRepeat p => Sys2Proof.Machine.execSceneRepeat p s
  | .t1lLinkChange p up hi master sqi anFail => Sys2Proof.Machine.execT1lLinkChange p up hi master sqi anFail s
  | .upstreamChange r v => Sys2Proof.Machine.execUpstreamChange r v s
  | .upstreamAttach hs => Sys2Proof.Machine.execUpstreamAttach hs s
  | .usbOvercurrent p => Sys2Proof.Machine.execUsbOvercurrent p s
  | .hubSuspend => Sys2Proof.Machine.execHubSuspend s
  | .doorbell r ring => Sys2Proof.Machine.execDoorbell r ring s
  | .req tid h data => Sys2Proof.Machine.execReq tid h data s
  | .nakRetry slot => Sys2Proof.Machine.execNakRetry slot s
  | .usbTransferTimeout slot => Sys2Proof.Machine.execUsbTransferTimeout slot s
  | .usbTransferDone slot status actual toggle frame data => Sys2Proof.Machine.execUsbTransferDone slot status actual toggle frame data s
  | .cplReceived tid c data => Sys2Proof.Machine.execCplReceived tid c data s
  | .cancel r v => Sys2Proof.Machine.execCancel r v s
  | .cancelReceived tid ring slot reqseq => Sys2Proof.Machine.execCancelReceived tid ring slot reqseq s
  | .busctl r v => Sys2Proof.Machine.execBusctl r v s
  | .busctlReceived tid op => Sys2Proof.Machine.execBusctlReceived tid op s
  | .event tid ev bus wake oldest => Sys2Proof.Machine.execEvent tid ev bus wake oldest s
  | .alive => Sys2Proof.Machine.execAlive s
  | .agentLost tid => Sys2Proof.Machine.execAgentLost tid s
  | .remoteWake port => Sys2Proof.Machine.execRemoteWake port s
  | .setup bytes => Sys2Proof.Machine.execSetup bytes s
  | .ep0Go r len => Sys2Proof.Machine.execEp0Go r len s
  | .ep0Stall r => Sys2Proof.Machine.execEp0Stall r s
  | .statusGo r => Sys2Proof.Machine.execStatusGo r s
  | .ep0OutPacket data => Sys2Proof.Machine.execEp0OutPacket data s
  | .ep1Ingo r len => Sys2Proof.Machine.execEp1Ingo r len s
  | .ep1OutPacket data => Sys2Proof.Machine.execEp1OutPacket data s
  | .ep2Go r len => Sys2Proof.Machine.execEp2Go r len s
  | .wakeReq r => Sys2Proof.Machine.execWakeReq r s
  | .usbBusReset port => Sys2Proof.Machine.execUsbBusReset port s
  | .hostResume => Sys2Proof.Machine.execHostResume s
  | .detection p r100 accept => Sys2Proof.Machine.execDetection p r100 accept s
  | .claspClosure p => Sys2Proof.Machine.execClaspClosure p s
  | .claspTrip p cause => Sys2Proof.Machine.execClaspTrip p cause s
  | .offer p tok vbus imax pwr => Sys2Proof.Machine.execOffer p tok vbus imax pwr s
  | .request p tok ireq pwr arm => Sys2Proof.Machine.execRequest p tok ireq pwr arm s
  | .accept p tok ireq arm => Sys2Proof.Machine.execAccept p tok ireq arm s
  | .reject p tok reason => Sys2Proof.Machine.execReject p tok reason s
  | .ready p tok icur ilim => Sys2Proof.Machine.execReady p tok icur ilim s
  | .limitLower p => Sys2Proof.Machine.execLimitLower p s
  | .status p tok vbus vcable icable pwr role => Sys2Proof.Machine.execStatus p tok vbus vcable icable pwr role s
  | .statusReq p tok => Sys2Proof.Machine.execStatusReq p tok s
  | .swapReq p tok pwr => Sys2Proof.Machine.execSwapReq p tok pwr s
  | .swapAck p tok pwr => Sys2Proof.Machine.execSwapAck p tok pwr s
  | .swapNak p tok reason => Sys2Proof.Machine.execSwapNak p tok reason s
  | .srcOn p tok fast => Sys2Proof.Machine.execSrcOn p tok fast s
  | .srcOff p tok => Sys2Proof.Machine.execSrcOff p tok s
  | .claspAck p tok ctype => Sys2Proof.Machine.execClaspAck p tok ctype s
  | .claspRetry p => Sys2Proof.Machine.execClaspRetry p s
  | .tSwapExpiry p => Sys2Proof.Machine.execTSwapExpiry p s
  | .claspSwap r p => Sys2Proof.Machine.execClaspSwap r p s
  | .reneg r p => Sys2Proof.Machine.execReneg r p s
  | .contractOpen r p => Sys2Proof.Machine.execContractOpen r p s
  | .sfAssert p => Sys2Proof.Machine.execSfAssert p s
  | .fastSwap p bySf => Sys2Proof.Machine.execFastSwap p bySf s
  | .sfHandover p => Sys2Proof.Machine.execSfHandover p s
  | .claspHardReset r p => Sys2Proof.Machine.execClaspHardReset r p s
  | .hardResetElect p => Sys2Proof.Machine.execHardResetElect p s
  | .bleedTimeout p => Sys2Proof.Machine.execBleedTimeout p s
  | .typecAttach k attached cc2 sink ufp emark5A frsReady => Sys2Proof.Machine.execTypecAttach k attached cc2 sink ufp emark5A frsReady s
  | .fastRoleSwap k => Sys2Proof.Machine.execFastRoleSwap k s
  | .dpConfigure k pinD => Sys2Proof.Machine.execDpConfigure k pinD s
  | .pdHardreset r k => Sys2Proof.Machine.execPdHardreset r k s
  | .typecDetach r k => Sys2Proof.Machine.execTypecDetach r k s
  | .hpdChange r k hpd => Sys2Proof.Machine.execHpdChange r k hpd s
  | .lpoDetect n r100 valid => Sys2Proof.Machine.execLpoDetect n r100 valid s
  | .detectRepeat n => Sys2Proof.Machine.execDetectRepeat n s
  | .classify n cls => Sys2Proof.Machine.execClassify n cls s
  | .rampDone n => Sys2Proof.Machine.execRampDone n s
  | .rampTimeout n => Sys2Proof.Machine.execRampTimeout n s
  | .currentLimit n limiting => Sys2Proof.Machine.execCurrentLimit n limiting s
  | .faultTimerExpiry n => Sys2Proof.Machine.execFaultTimerExpiry n s
  | .hardShort n => Sys2Proof.Machine.execHardShort n s
  | .pgHoldExpiry n => Sys2Proof.Machine.execPgHoldExpiry n s
  | .overloadCheck n pavg vaavg joules => Sys2Proof.Machine.execOverloadCheck n pavg vaavg joules s
  | .fuseLimitWrite r n timer v => Sys2Proof.Machine.execFuseLimitWrite r n timer v s
  | .busUndervolt mv => Sys2Proof.Machine.execBusUndervolt mv s
  | .busOvervolt mv => Sys2Proof.Machine.execBusOvervolt mv s
  | .busOvClear mv => Sys2Proof.Machine.execBusOvClear mv s
  | .busShed mv => Sys2Proof.Machine.execBusShed mv s
  | .shedClear mv => Sys2Proof.Machine.execShedClear mv s
  | .emergencyChange batt => Sys2Proof.Machine.execEmergencyChange batt s
  | .waitExit => Sys2Proof.Machine.execWaitExit s
  | .energyClear r n => Sys2Proof.Machine.execEnergyClear r n s
  | .voteWrite r client v => Sys2Proof.Machine.execVoteWrite r client v s
  | .hardwareVote => Sys2Proof.Machine.execHardwareVote s
  | .drainTimeout d left => Sys2Proof.Machine.execDrainTimeout d left s
  | .domainReset d crcOk => Sys2Proof.Machine.execDomainReset d crcOk s
  | .domainReady d => Sys2Proof.Machine.execDomainReady d s
  | .domainFail d => Sys2Proof.Machine.execDomainFail d s
  | .stateRequest r target => Sys2Proof.Machine.execStateRequest r target s
  | .transitionDone us => Sys2Proof.Machine.execTransitionDone us s
  | .mainPgRise => Sys2Proof.Machine.execMainPgRise s
  | .mainPgLoss => Sys2Proof.Machine.execMainPgLoss s
  | .corePgLoss => Sys2Proof.Machine.execCorePgLoss s
  | .thermalTrip => Sys2Proof.Machine.execThermalTrip s
  | .aonBrownout => Sys2Proof.Machine.execAonBrownout s
  | .mgpAddressMatch addr => Sys2Proof.Machine.execMgpAddressMatch addr s
  | .gpioWake g => Sys2Proof.Machine.execGpioWake g s
  | .aonTimerMatch => Sys2Proof.Machine.execAonTimerMatch s
  | .usbResumeDetect p => Sys2Proof.Machine.execUsbResumeDetect p s
  | .bootStart pufOk corr => Sys2Proof.Machine.execBootStart pufOk corr s
  | .keyGen r v => Sys2Proof.Machine.execKeyGen r v s
  | .derive r v => Sys2Proof.Machine.execDerive r v s
  | .ecdhGen r v => Sys2Proof.Machine.execEcdhGen r v s
  | .ecdh r v => Sys2Proof.Machine.execEcdh r v s
  | .unwrap r v => Sys2Proof.Machine.execUnwrap r v s
  | .seal r v => Sys2Proof.Machine.execSeal r v s
  | .unseal r v => Sys2Proof.Machine.execUnseal r v s
  | .keyClear r v => Sys2Proof.Machine.execKeyClear r v s
  | .erase r v => Sys2Proof.Machine.execErase r v s
  | .keyOpDone storeOk => Sys2Proof.Machine.execKeyOpDone storeOk s
  | .slotLock r v => Sys2Proof.Machine.execSlotLock r v s
  | .measurementExtend r => Sys2Proof.Machine.execMeasurementExtend r s
  | .updateStart r bundle => Sys2Proof.Machine.execUpdateStart r bundle s
  | .blockDataWrite r v => Sys2Proof.Machine.execBlockDataWrite r v s
  | .blockLand r num => Sys2Proof.Machine.execBlockLand r num s
  | .blockLandDone flashOk => Sys2Proof.Machine.execBlockLandDone flashOk s
  | .verify r => Sys2Proof.Machine.execVerify r s
  | .verifyDone => Sys2Proof.Machine.execVerifyDone s
  | .activate r => Sys2Proof.Machine.execActivate r s
  | .updateAbort r => Sys2Proof.Machine.execUpdateAbort r s
  | .svncommit r => Sys2Proof.Machine.execSvncommit r s
  | .bundleDecrypt r v => Sys2Proof.Machine.execBundleDecrypt r v s
  | .bundleDecryptDone => Sys2Proof.Machine.execBundleDecryptDone s
  | .bdecClr r => Sys2Proof.Machine.execBdecClr r s
  | .accessEntryWrite r v => Sys2Proof.Machine.execAccessEntryWrite r v s
  | .accessSync r => Sys2Proof.Machine.execAccessSync r s
  | .debugUnlock r => Sys2Proof.Machine.execDebugUnlock r s
  | .relock r => Sys2Proof.Machine.execRelock r s
  | .faultInject r v => Sys2Proof.Machine.execFaultInject r v s
  | .debugAccess write addr size v => Sys2Proof.Machine.execDebugAccess write addr size v s
  | .lifeCycleChange r => Sys2Proof.Machine.execLifeCycleChange r s
  | .lifeCycleWipeDone fuseOk straps => Sys2Proof.Machine.execLifeCycleWipeDone fuseOk straps s
  | .locketWrite storeOk => Sys2Proof.Machine.execLocketWrite storeOk s
  | .locketFirmwareRecord r v => Sys2Proof.Machine.execLocketFirmwareRecord r v s
  | .locketRead r seq => Sys2Proof.Machine.execLocketRead r seq s
  | .markclr r => Sys2Proof.Machine.execMarkclr r s
  | .telemetrySnapshot r => Sys2Proof.Machine.execTelemetrySnapshot r s
  | .telemetryPeriod => Sys2Proof.Machine.execTelemetryPeriod s
  | .telSnap src tok => Sys2Proof.Machine.execTelSnap src tok s
  | .lktRd src tok seq => Sys2Proof.Machine.execLktRd src tok seq s
  | .ident seq => Sys2Proof.Machine.execIdent seq s
  | .getkey seq => Sys2Proof.Machine.execGetkey seq s
  | .openSess seq keyIdx toolKey => Sys2Proof.Machine.execOpenSess seq keyIdx toolKey s
  | .auth seq chunk data => Sys2Proof.Machine.execAuth seq chunk data s
  | .authGo seq => Sys2Proof.Machine.execAuthGo seq s
  | .close f => Sys2Proof.Machine.execClose f s
  | .rd f => Sys2Proof.Machine.execRd f s
  | .wr f => Sys2Proof.Machine.execWr f s
  | .wrf f => Sys2Proof.Machine.execWrf f s
  | .responseRead => Sys2Proof.Machine.execResponseRead s
  | .smbusTimeout => Sys2Proof.Machine.execSmbusTimeout s
  | .mcpuOpTimeout => Sys2Proof.Machine.execMcpuOpTimeout s
  | .sessionIdle => Sys2Proof.Machine.execSessionIdle s
  | .sessionClose r => Sys2Proof.Machine.execSessionClose r s
  | .authAccept r => Sys2Proof.Machine.execAuthAccept r s
  | .authReject r => Sys2Proof.Machine.execAuthReject r s
  | .claimTake r => Sys2Proof.Machine.execClaimTake r s
  | .claimRelease r => Sys2Proof.Machine.execClaimRelease r s
  | .nodeTimeSet r => Sys2Proof.Machine.execNodeTimeSet r s
  | .ballFunctionWrite r v => Sys2Proof.Machine.execBallFunctionWrite r v s
  | .timerClaim r v => Sys2Proof.Machine.execTimerClaim r v s
  | .timerRelease r => Sys2Proof.Machine.execTimerRelease r s
  | .timerExpiry t => Sys2Proof.Machine.execTimerExpiry t s
  | .timerCapture t => Sys2Proof.Machine.execTimerCapture t s
  | .xtalStart => Sys2Proof.Machine.execXtalStart s
  | .pllLock pll => Sys2Proof.Machine.execPllLock pll s
  | .captureLinkTrain d ok rate lanes hact vact pclk bpc => Sys2Proof.Machine.execCaptureLinkTrain d ok rate lanes hact vact pclk bpc s
  | .pcieMessage m => Sys2Proof.Machine.execPcieMessage m s
  | .hostConfigWrite bme msix => Sys2Proof.Machine.execHostConfigWrite bme msix s
  | .perstChange high => Sys2Proof.Machine.execPerstChange high s
  | .mr4Read code aboveRange => Sys2Proof.Machine.execMr4Read code aboveRange s
  | .wckTracking b rdly wdly vref => Sys2Proof.Machine.execWckTracking b rdly wdly vref s
  | .pdMessage k m => Sys2Proof.Machine.execPdMessage k m s
  | .vbusFault k f => Sys2Proof.Machine.execVbusFault k f s
  | .localSupplyChange pg => Sys2Proof.Machine.execLocalSupplyChange pg s
  | .hubRequest q => Sys2Proof.Machine.execHubRequest q s
  | .deviceConnect port connected speed => Sys2Proof.Machine.execDeviceConnect port connected speed s
  | .inTransaction ep => Sys2Proof.Machine.execInTransaction ep s

end Sys2Proof.Machine
end

