-- ==== Sys2Proof/Machine/Step.lean ====
section
/-! DEFINITION. One step: the command at the front of the queue, or a tick of the clock where none waits. -/

namespace Sys2Proof.Machine

/-- One step: the command at the front of `s.pending` acts with the queue's rest in place; on an empty queue one
CD2 cycle passes (DESIGN CHOICE: the spec's clock runs whatever is commanded, and the table has no row for it). -/
def step (s : State) : Host.Outcome State Fault Refusal :=
  match s.pending with
  | [] => .next { s with hub := s.hub.tick }
  | c :: rest => exec c { s with pending := rest }

/-- `s` with the command that a word spells put at the front of its queue; no row of the table has bits. -/
def State.withFetchWord (s : State) (nbits w : Nat) : State :=
  match decodeTableWord nbits w with
  | some c => { s with pending := c :: s.pending }
  | none => s

end Sys2Proof.Machine
end

