-- ==== Sys2Proof/Safety.lean ====
section
/-! DEFINITION. The terms in which statements are made: the canonical form of the node's tables, the kinds of state and
what two nodes share outside some of them, what it takes for the register window to grant an access, and what it is
for a command to complete. -/

namespace Sys2Proof.Machine

/-- Every sparse table of the register window is in canonical form: keys rise, and no register or table word is listed at what
an unlisted one reads as. The default of a register depends on its field, so of `regs` the order alone is asked. -/
structure Hub.Canon (h : Hub) : Prop where
  regs : Tab.Sorted h.regs
  tab : Tab.Wf 0 h.tab
  fmem : Tab.Wf 0 h.fmem

/-- A state whose node holds its tables in canonical form. -/
def State.Inv (s : State) : Prop := s.hub.Canon

/-- A step that neither faults nor is refused. -/
def Safe (s : State) : Prop := ∃ t, step s = .next t

/-! ### Kinds of state

One number for each kind: for registers what `Fld.kind` gives, for the lists of the node one each. -/

namespace Kind

abbrev top : Nat := 0
abbrev clk : Nat := 1
abbrev fil : Nat := 2
abbrev aon : Nat := 3
abbrev pdm : Nat := 4
abbrev retain : Nat := 5
abbrev tel : Nat := 6
abbrev tel1 : Nat := 7
abbrev act : Nat := 8
abbrev act1 : Nat := 9
abbrev lkt : Nat := 10
abbrev lcs : Nat := 11
abbrev dbg : Nat := 12
abbrev mgp : Nat := 13
abbrev key : Nat := 14
abbrev upd : Nat := 15
abbrev opt : Nat := 16
abbrev oln : Nat := 32
abbrev tun : Nat := 64
abbrev rte : Nat := 65
abbrev swb : Nat := 72
abbrev thr : Nat := 73
abbrev age : Nat := 74
abbrev mcr : Nat := 75
abbrev sch : Nat := 80
abbrev mtr : Nat := 96
abbrev crt : Nat := 97
abbrev cas : Nat := 104
abbrev twn : Nat := 105
abbrev dsp : Nat := 112
abbrev dhd : Nat := 113
abbrev dcp : Nat := 117
abbrev dtl : Nat := 119
abbrev dpt : Nat := 120
abbrev txb : Nat := 128
abbrev pci : Nat := 129
abbrev pph : Nat := 130
abbrev mem : Nat := 136
abbrev mph : Nat := 137
abbrev eth : Nat := 144
abbrev lmd : Nat := 146
abbrev lmp : Nat := 147
abbrev usb : Nat := 160
abbrev udf : Nat := 161
abbrev rha : Nat := 162
abbrev clp : Nat := 176
abbrev tcp : Nat := 184
abbrev lpo : Nat := 192
abbrev bus : Nat := 200
abbrev gpx : Nat := 208
abbrev tmr : Nat := 209
abbrev lifeCycle : Nat := 230
abbrev fuses : Nat := 231
abbrev debugState : Nat := 232
abbrev nodeState : Nat := 233
abbrev domainsOn : Nat := 234
abbrev epoch : Nat := 235
abbrev updateState : Nat := 236
abbrev portState : Nat := 237
abbrev nodeId : Nat := 238
abbrev bootCause : Nat := 239
abbrev headerSettings : Nat := 227
abbrev commitPending : Nat := 228
abbrev headerControl : Nat := 229
abbrev lock : Nat := 240
abbrev errors : Nat := 254
abbrev anyRegister : Nat := 255
abbrev everything : Nat := 511
abbrev shadow : Nat := 301
abbrev ret : Nat := 302
abbrev tab : Nat := 303
abbrev staging : Nat := 304
abbrev latch64 : Nat := 305
abbrev tabLatch : Nat := 306
abbrev resp : Nat := 307
abbrev fmem : Nat := 308
abbrev cfg : Nat := 309
abbrev cyc : Nat := 310
abbrev freeIx : Nat := 311
abbrev filWin : Nat := 312
abbrev lkQueue : Nat := 313
abbrev lkRing : Nat := 314
abbrev ctlOut : Nat := 315
abbrev meters : Nat := 316
abbrev pkts : Nat := 317
abbrev pktNext : Nat := 318
abbrev opens : Nat := 319
abbrev queues : Nat := 320
abbrev egOut : Nat := 321
abbrev shapers : Nat := 322
abbrev asks : Nat := 323
abbrev changes : Nat := 324
abbrev unrec : Nat := 325
abbrev intents : Nat := 326
abbrev lmcQ : Nat := 327
abbrev nbrs : Nat := 328
abbrev granted : Nat := 329
abbrev ready : Nat := 330
abbrev replay : Nat := 331
abbrev spanRx : Nat := 332
abbrev spanTx : Nat := 333
abbrev wire : Nat := 334
abbrev capRx : Nat := 335
abbrev keys : Nat := 336
abbrev gaps : Nat := 337
abbrev repairs : Nat := 338
abbrev tileDone : Nat := 339
abbrev tileOut : Nat := 340
abbrev txbOut : Nat := 341
abbrev tags : Nat := 342
abbrev rdWait : Nat := 343
abbrev reads : Nat := 344
abbrev rdAns : Nat := 345
abbrev land : Nat := 346
abbrev rdIn : Nat := 347
abbrev rdBus : Nat := 348
abbrev pfifo : Nat := 349
abbrev pcieOut : Nat := 350
abbrev msixOut : Nat := 351
abbrev ethOut : Nat := 352
abbrev lumeOut : Nat := 353
abbrev usbOut : Nat := 354
abbrev usbFly : Nat := 355
abbrev usbHeld : Nat := 356
abbrev udfOut : Nat := 357
abbrev claspAsk : Nat := 358
abbrev pdOut : Nat := 359
abbrev root : Nat := 360
abbrev ephemeral : Nat := 361
abbrev agree : Nat := 362
abbrev recs : Nat := 363
abbrev marks : Nat := 364
abbrev signers : Nat := 365
abbrev flash : Nat := 366
abbrev blk : Nat := 367
abbrev landed : Nat := 368
abbrev clear : Nat := 369
abbrev landing : Nat := 370
abbrev telOut : Nat := 371
abbrev mgpResp : Nat := 372
abbrev mgpRead : Nat := 373
abbrev paths : Nat := 374
abbrev settles : Nat := 375
abbrev stalled : Nat := 376

end Kind

/-- The nodes `g` and `h` agree on every kind of state that is not in `ks`: on each register field in every instance and
bank, and on each list. `Kind.anyRegister` in `ks` excepts every register, `Kind.everything` the whole node. -/
def Hub.SameBut (ks : List Nat) (g h : Hub) : Prop :=
  Kind.everything ∉ ks →
    (Kind.anyRegister ∉ ks → ∀ (F : Fld) (i b : Nat), F.kind ∉ ks → h.rd F i b = g.rd F i b) ∧
    (Kind.shadow ∉ ks → h.shadow = g.shadow) ∧
    (Kind.ret ∉ ks → h.ret = g.ret) ∧
    (Kind.tab ∉ ks → h.tab = g.tab) ∧
    (Kind.staging ∉ ks → h.staging = g.staging) ∧
    (Kind.latch64 ∉ ks → h.latch64 = g.latch64) ∧
    (Kind.tabLatch ∉ ks → h.tabLatch = g.tabLatch) ∧
    (Kind.resp ∉ ks → h.resp = g.resp) ∧
    (Kind.fmem ∉ ks → h.fmem = g.fmem) ∧
    (Kind.cfg ∉ ks → h.cfg = g.cfg) ∧
    (Kind.cyc ∉ ks → h.cyc = g.cyc) ∧
    (Kind.freeIx ∉ ks → h.freeIx = g.freeIx) ∧
    (Kind.filWin ∉ ks → h.filWin = g.filWin) ∧
    (Kind.lkQueue ∉ ks → h.lkQueue = g.lkQueue) ∧
    (Kind.lkRing ∉ ks → h.lkRing = g.lkRing) ∧
    (Kind.ctlOut ∉ ks → h.ctlOut = g.ctlOut) ∧
    (Kind.meters ∉ ks → h.meters = g.meters) ∧
    (Kind.pkts ∉ ks → h.pkts = g.pkts) ∧
    (Kind.pktNext ∉ ks → h.pktNext = g.pktNext) ∧
    (Kind.opens ∉ ks → h.opens = g.opens) ∧
    (Kind.queues ∉ ks → h.queues = g.queues) ∧
    (Kind.egOut ∉ ks → h.egOut = g.egOut) ∧
    (Kind.shapers ∉ ks → h.shapers = g.shapers) ∧
    (Kind.asks ∉ ks → h.asks = g.asks) ∧
    (Kind.changes ∉ ks → h.changes = g.changes) ∧
    (Kind.unrec ∉ ks → h.unrec = g.unrec) ∧
    (Kind.intents ∉ ks → h.intents = g.intents) ∧
    (Kind.lmcQ ∉ ks → h.lmcQ = g.lmcQ) ∧
    (Kind.nbrs ∉ ks → h.nbrs = g.nbrs) ∧
    (Kind.granted ∉ ks → h.granted = g.granted) ∧
    (Kind.ready ∉ ks → h.ready = g.ready) ∧
    (Kind.replay ∉ ks → h.replay = g.replay) ∧
    (Kind.spanRx ∉ ks → h.spanRx = g.spanRx) ∧
    (Kind.spanTx ∉ ks → h.spanTx = g.spanTx) ∧
    (Kind.wire ∉ ks → h.wire = g.wire) ∧
    (Kind.capRx ∉ ks → h.capRx = g.capRx) ∧
    (Kind.keys ∉ ks → h.keys = g.keys) ∧
    (Kind.gaps ∉ ks → h.gaps = g.gaps) ∧
    (Kind.repairs ∉ ks → h.repairs = g.repairs) ∧
    (Kind.tileDone ∉ ks → h.tileDone = g.tileDone) ∧
    (Kind.tileOut ∉ ks → h.tileOut = g.tileOut) ∧
    (Kind.txbOut ∉ ks → h.txbOut = g.txbOut) ∧
    (Kind.tags ∉ ks → h.tags = g.tags) ∧
    (Kind.rdWait ∉ ks → h.rdWait = g.rdWait) ∧
    (Kind.reads ∉ ks → h.reads = g.reads) ∧
    (Kind.rdAns ∉ ks → h.rdAns = g.rdAns) ∧
    (Kind.land ∉ ks → h.land = g.land) ∧
    (Kind.rdIn ∉ ks → h.rdIn = g.rdIn) ∧
    (Kind.rdBus ∉ ks → h.rdBus = g.rdBus) ∧
    (Kind.pfifo ∉ ks → h.pfifo = g.pfifo) ∧
    (Kind.pcieOut ∉ ks → h.pcieOut = g.pcieOut) ∧
    (Kind.msixOut ∉ ks → h.msixOut = g.msixOut) ∧
    (Kind.ethOut ∉ ks → h.ethOut = g.ethOut) ∧
    (Kind.lumeOut ∉ ks → h.lumeOut = g.lumeOut) ∧
    (Kind.usbOut ∉ ks → h.usbOut = g.usbOut) ∧
    (Kind.usbFly ∉ ks → h.usbFly = g.usbFly) ∧
    (Kind.usbHeld ∉ ks → h.usbHeld = g.usbHeld) ∧
    (Kind.udfOut ∉ ks → h.udfOut = g.udfOut) ∧
    (Kind.claspAsk ∉ ks → h.claspAsk = g.claspAsk) ∧
    (Kind.pdOut ∉ ks → h.pdOut = g.pdOut) ∧
    (Kind.root ∉ ks → h.root = g.root) ∧
    (Kind.ephemeral ∉ ks → h.ephemeral = g.ephemeral) ∧
    (Kind.agree ∉ ks → h.agree = g.agree) ∧
    (Kind.recs ∉ ks → h.recs = g.recs) ∧
    (Kind.marks ∉ ks → h.marks = g.marks) ∧
    (Kind.signers ∉ ks → h.signers = g.signers) ∧
    (Kind.flash ∉ ks → h.flash = g.flash) ∧
    (Kind.blk ∉ ks → h.blk = g.blk) ∧
    (Kind.landed ∉ ks → h.landed = g.landed) ∧
    (Kind.clear ∉ ks → h.clear = g.clear) ∧
    (Kind.landing ∉ ks → h.landing = g.landing) ∧
    (Kind.telOut ∉ ks → h.telOut = g.telOut) ∧
    (Kind.mgpResp ∉ ks → h.mgpResp = g.mgpResp) ∧
    (Kind.mgpRead ∉ ks → h.mgpRead = g.mgpRead) ∧
    (Kind.paths ∉ ks → h.paths = g.paths) ∧
    (Kind.settles ∉ ks → h.settles = g.settles) ∧
    (Kind.stalled ∉ ks → h.stalled = g.stalled)

open Kind in
/-- The kinds of state that a command may change, whatever the node holds: the registers of these blocks and these lists. -/
def reach : Instr → List Nat
  | .powerOnReset .. | .hrstN .. | .rstcmd .. | .registerWrite .. | .tableWordWrite .. | .tableEntryWrite ..
  | .escalationExpiry .. | .regRd .. | .regWr .. | .aonBrownout .. | .debugAccess .. | .lifeCycleWipeDone ..
  | .rd .. | .wr .. | .wrf .. =>
    [everything]
  | .porRelease .. =>
    [top, lkt, mgp, dsp, errors, freeIx, lkQueue]
  | .softReset .. =>
    [top, clk, fil, aon, pdm, act, lkt, lcs, dbg, key, opt, oln, tun,
    rte, swb, thr, age, mcr, sch, crt, cas, twn, dsp, dhd, dcp, dtl,
    dpt, txb, pci, pph, mem, usb, udf, rha, clp, tcp, lpo, bus,
    commitPending, headerControl, portState, nodeId, errors,
    anyRegister, shadow, tab, latch64, resp, freeIx, filWin, lkQueue,
    ctlOut, meters, pkts, opens, queues, egOut, shapers, asks,
    changes, unrec, intents, lmcQ, nbrs, granted, ready, replay,
    spanRx, spanTx, capRx, keys, gaps, repairs, tileDone, tileOut,
    tags, rdWait, reads, land, rdIn, rdBus, pfifo, usbOut, usbFly,
    usbHeld, claspAsk, ephemeral, agree, blk, landed, clear, landing,
    mgpResp, mgpRead, paths, settles]
  | .softResetDone .. =>
    [clk, pdm, lkt, opt, oln, dsp, dhd, txb, mem, commitPending,
    headerControl, errors, anyRegister, shadow, freeIx, lkQueue]
  | .blockEnable .. =>
    [clk, act, lkt, key, opt, oln, tun, rte, swb, thr, age, mcr, sch,
    crt, cas, twn, dsp, dhd, dcp, dtl, usb, udf, rha, clp, tcp, lpo,
    bus, commitPending, headerControl, portState, nodeId, errors,
    anyRegister, shadow, tab, latch64, resp, freeIx, lkQueue, ctlOut,
    pkts, opens, queues, egOut, shapers, lmcQ, nbrs, replay, spanRx,
    spanTx, capRx, usbOut, usbHeld, claspAsk]
  | .lowWordRead .. | .tableLowestWordRead .. =>
    [retain, act, lkt, mgp, key, oln, sch, mtr, cas, dsp, dhd, txb,
    pci, pph, mem, eth, lmp, usb, clp, tcp, lpo, errors, latch64,
    tabLatch, resp, freeIx, lkQueue, meters, shapers]
  | .tunnelEntryWrite .. =>
    [act, lkt, tun, twn, dsp, errors, tab, staging, latch64, resp,
    freeIx, lkQueue, opens]
  | .slotEntryWrite .. =>
    [act, lkt, dsp, dcp, errors, tab, staging, latch64, resp, freeIx,
    lkQueue]
  | .estatClear .. | .locketFirmwareRecord .. | .locketRead .. | .markclr .. =>
    [act, lkt, dsp, errors, latch64, resp, freeIx, lkQueue]
  | .commit .. =>
    [act, lkt, oln, dsp, commitPending, errors, anyRegister, shadow,
    latch64, resp, freeIx, lkQueue]
  | .commitPoint .. =>
    [clk, lkt, sch, dsp, dhd, dtl, commitPending, errors, anyRegister,
    shadow, tab, freeIx, lkQueue, shapers]
  | .txcoefCommit .. =>
    [lkt, oln, dsp, commitPending, errors, anyRegister, shadow,
    freeIx, lkQueue]
  | .cntclr .. =>
    [act, lkt, swb, mcr, dsp, dhd, bus, errors, anyRegister, latch64,
    resp, freeIx, lkQueue]
  | .vsetWrite .. =>
    [fil, act, lkt, tun, dsp, errors, latch64, resp, freeIx, lkQueue,
    ctlOut]
  | .vidStep .. | .vmeasUpdate .. =>
    [fil, lkt, tun, dsp, errors, freeIx, lkQueue, ctlOut]
  | .hsrateUpdate .. =>
    [fil, lkt, dsp, errors, freeIx, filWin, lkQueue]
  | .tjUpdate .. =>
    [fil, lkt, dsp, errors, freeIx, lkQueue]
  | .filSnap .. =>
    [fil, act, lkt, dsp, errors, latch64, resp, freeIx, lkQueue]
  | .clockGateOff .. | .clockGateOn .. =>
    [clk, act, lkt, dsp, errors, latch64, resp, freeIx, lkQueue]
  | .clockStop .. | .xtalStart .. =>
    [clk]
  | .gateTimeout .. | .refLoss .. | .xtalLoss .. =>
    [clk, lkt, dsp, errors, freeIx, lkQueue]
  | .pllUnlock .. =>
    [top, clk, lkt, dsp, errors, freeIx, lkQueue]
  | .pllRelock .. =>
    [top, clk]
  | .signalDetect .. =>
    [clk, lkt, oln, dsp, commitPending, errors, anyRegister, shadow,
    freeIx, lkQueue]
  | .signalAbsent .. =>
    [clk, lkt, opt, oln, dsp, commitPending, errors, anyRegister,
    shadow, freeIx, lkQueue]
  | .trainTimeout .. =>
    [clk, lkt, key, opt, oln, tun, rte, crt, cas, dsp, commitPending,
    portState, errors, anyRegister, shadow, freeIx, lkQueue, ctlOut,
    lmcQ]
  | .attemptEnd .. | .presetStep .. =>
    [oln]
  | .tsReceived .. =>
    [clk, lkt, key, opt, oln, tun, rte, crt, cas, dsp, clp,
    commitPending, portState, errors, anyRegister, shadow, freeIx,
    lkQueue, ctlOut, egOut, lmcQ, replay, spanRx, spanTx, capRx,
    claspAsk]
  | .portFormTimer .. =>
    [clk, lkt, key, opt, oln, dsp, clp, commitPending, portState,
    errors, anyRegister, shadow, freeIx, lkQueue, egOut, lmcQ, replay,
    spanRx, spanTx, capRx, claspAsk]
  | .skipReceived .. | .widthAck .. =>
    [opt]
  | .amReceived .. | .blockLockLoss .. | .cdrLockLoss .. | .syncLimit .. | .retireReceived ..
  | .linkFrameReceived .. | .replayTimeout .. | .cap .. | .capack .. | .capxTimeout .. | .keyingTimeout ..
  | .tag .. =>
    [clk, lkt, key, opt, oln, tun, rte, swb, thr, age, mcr, sch, crt,
    cas, twn, dsp, commitPending, portState, nodeId, errors,
    anyRegister, shadow, freeIx, lkQueue, ctlOut, pkts, opens, queues,
    egOut, shapers, lmcQ, nbrs, replay, spanRx, spanTx, capRx]
  | .retrain .. | .portDownCmd .. =>
    [clk, act, lkt, key, opt, oln, tun, rte, swb, thr, age, mcr, sch,
    crt, cas, twn, dsp, commitPending, portState, nodeId, errors,
    anyRegister, shadow, latch64, resp, freeIx, lkQueue, ctlOut, pkts,
    opens, queues, egOut, shapers, lmcQ, nbrs, replay, spanRx, spanTx,
    capRx]
  | .retireSend .. | .frameGroupSend .. =>
    [clk, lkt, key, opt, oln, tun, rte, swb, thr, age, mcr, sch, crt,
    cas, twn, dsp, commitPending, portState, nodeId, errors,
    anyRegister, shadow, freeIx, lkQueue, ctlOut, pkts, opens, queues,
    egOut, shapers, lmcQ, nbrs, replay, spanRx, spanTx, wire, capRx]
  | .eidleSend .. =>
    [clk, lkt, key, opt, oln, tun, rte, crt, cas, dsp, commitPending,
    portState, nodeId, errors, anyRegister, shadow, freeIx, lkQueue,
    ctlOut, lmcQ, nbrs, wire]
  | .eidleReceived .. =>
    [clk, lkt, key, opt, oln, tun, rte, crt, cas, dsp, commitPending,
    portState, nodeId, errors, anyRegister, shadow, freeIx, lkQueue,
    ctlOut, lmcQ, nbrs]
  | .ftsReceived .. =>
    [clk, lkt, key, opt, oln, tun, rte, crt, cas, dsp, commitPending,
    portState, errors, anyRegister, shadow, freeIx, lkQueue, ctlOut,
    lmcQ, wire]
  | .beaconSend .. | .pmRequest .. | .timeMarker .. =>
    [act, lkt, opt, dsp, errors, latch64, resp, freeIx, lkQueue]
  | .beaconBurst .. =>
    [lkt, opt, dsp, errors, freeIx, lkQueue, wire]
  | .beaconDetect .. | .hardwareVote .. | .mgpAddressMatch .. | .gpioWake .. | .aonTimerMatch ..
  | .usbResumeDetect .. =>
    [clk, aon, pdm, lkt, opt, oln, dsp, txb, mem, commitPending,
    nodeState, errors, anyRegister, shadow, freeIx, lkQueue, wire]
  | .capRepeat .. | .widthReq .. | .pmReqSend .. | .pmReq .. | .pmAckSend .. =>
    [opt, lmcQ]
  | .mailboxSend .. | .widthRequest .. | .cryptArm .. | .cryptRoll .. =>
    [act, lkt, opt, dsp, errors, latch64, resp, freeIx, lkQueue, lmcQ]
  | .mailbox .. =>
    [opt, clp, errors]
  | .widthTimeout .. =>
    [lkt, opt, dsp, errors, freeIx, lkQueue]
  | .pmAck .. =>
    [pdm, opt, errors]
  | .pmTimeout .. =>
    [pdm, lkt, opt, dsp, errors, freeIx, lkQueue]
  | .pmExit .. =>
    [clk, act, lkt, opt, oln, dsp, commitPending, errors, anyRegister,
    shadow, latch64, resp, freeIx, lkQueue, wire]
  | .time .. =>
    [top, lkt, opt, cas, dsp, errors, freeIx, lkQueue]
  | .key .. | .keyack .. =>
    [lkt, key, opt, tun, rte, crt, cas, dsp, portState, errors,
    freeIx, lkQueue, ctlOut, lmcQ]
  | .cellIngress .. =>
    [fil, lkt, opt, tun, rte, swb, thr, mcr, sch, mtr, cas, twn, dsp,
    errors, tab, freeIx, lkQueue, ctlOut, meters, pkts, pktNext,
    opens, queues, shapers]
  | .egressSelect .. =>
    [fil, lkt, opt, tun, rte, swb, thr, age, mcr, sch, dsp, eth,
    commitPending, errors, anyRegister, shadow, freeIx, lkQueue, pkts,
    queues, egOut, shapers, ethOut]
  | .regRsp .. =>
    [lkt, tun, cas, dsp, errors, freeIx, lkQueue, ctlOut, asks,
    changes, unrec, intents, lmcQ, ready, paths, settles]
  | .rrqSend .. =>
    [act, lkt, tun, dsp, errors, latch64, resp, freeIx, lkQueue,
    ctlOut]
  | .rrqTimeout .. =>
    [lkt, tun, cas, dsp, errors, freeIx, lkQueue, ctlOut, asks,
    changes, unrec, intents, paths, settles]
  | .tunSetup .. | .tunOpen .. =>
    [lkt, tun, twn, dsp, errors, tab, freeIx, lkQueue, ctlOut, opens]
  | .tunClose .. =>
    [tun, twn, tab, ctlOut, opens]
  | .tunAck .. | .casAck .. =>
    [tun, cas, errors, freeIx, ctlOut, asks, changes, lmcQ, ready,
    paths]
  | .tunnelMsgRetry .. | .crtAck .. | .caratMsgRetry .. =>
    [tun, cas, errors, freeIx, ctlOut, asks, changes, unrec, lmcQ,
    ready, paths]
  | .pendingTimeout .. =>
    [tun, twn, errors, tab, opens]
  | .drainingTimeout .. =>
    [tun, twn, tab, opens]
  | .orphanRelease .. | .reserve .. | .caratCommit .. | .abort .. | .decrease .. | .release ..
  | .holdExpiry .. =>
    [fil, lkt, tun, rte, mtr, crt, dsp, errors, freeIx, lkQueue,
    ctlOut, meters]
  | .routeGenSwitch .. =>
    [act, lkt, rte, dsp, errors, latch64, resp, freeIx, lkQueue]
  | .mergeInit .. =>
    [act, lkt, twn, dsp, errors, latch64, resp, freeIx, lkQueue]
  | .pathSilent .. =>
    [tun, cas, twn, errors, ctlOut]
  | .ageSweep .. =>
    [lkt, swb, thr, age, mcr, sch, dsp, errors, freeIx, lkQueue, pkts,
    queues, shapers]
  | .scrubSlot .. =>
    [lkt, swb, thr, mcr, sch, dsp, errors, freeIx, lkQueue, pkts,
    queues, shapers]
  | .scrubForcedEntry .. =>
    [swb]
  | .bufferWipeDone .. =>
    [swb, headerControl, errors]
  | .qcfgWrite .. =>
    [act, lkt, thr, dsp, errors, latch64, resp, freeIx, lkQueue]
  | .wheelSlot .. =>
    [sch]
  | .wheelGranWrite .. =>
    [act, lkt, sch, dsp, errors, latch64, resp, freeIx, lkQueue]
  | .meterInit .. =>
    [act, lkt, mtr, dsp, errors, latch64, resp, freeIx, lkQueue,
    meters]
  | .meterClear .. =>
    [act, lkt, mtr, dsp, errors, latch64, resp, freeIx, lkQueue]
  | .neighbourSend .. =>
    [cas, lmcQ]
  | .neighbour .. =>
    [lkt, tun, rte, crt, cas, twn, dsp, epoch, nodeId, errors, tab,
    freeIx, lkQueue, ctlOut, opens, asks, changes, unrec, intents,
    lmcQ, nbrs, granted, ready, paths, settles]
  | .crownDeclare .. =>
    [lkt, tun, rte, crt, cas, dsp, epoch, nodeId, errors, freeIx,
    lkQueue, ctlOut, lmcQ]
  | .countSend .. | .count .. | .grant .. =>
    [lkt, tun, rte, crt, cas, dsp, nodeId, errors, tab, freeIx,
    lkQueue, ctlOut, lmcQ, granted]
  | .crownHbSend .. =>
    [tun, cas, ctlOut]
  | .crownHb .. | .hbTimeout .. =>
    [lkt, tun, rte, crt, cas, dsp, epoch, nodeId, errors, freeIx,
    lkQueue, ctlOut, asks, lmcQ, settles]
  | .nodeReady .. =>
    [tun, errors, ctlOut, asks, ready]
  | .linkEvent .. =>
    [tun, cas, errors, freeIx, ctlOut, asks, changes, lmcQ, ready]
  | .standby .. =>
    [cas, ctlOut, intents, lmcQ, paths]
  | .routeSet .. =>
    [rte, tab, ctlOut]
  | .idBlock .. =>
    [rte, cas, tab, ctlOut, lmcQ, granted]
  | .ledger .. =>
    [lkt, tun, cas, dsp, errors, freeIx, lkQueue, ctlOut, intents,
    paths, settles]
  | .rediscover .. =>
    [act, lkt, tun, rte, crt, cas, twn, dsp, epoch, nodeId, errors,
    tab, latch64, resp, freeIx, lkQueue, ctlOut, opens, lmcQ, granted,
    ready, paths]
  | .yield .. =>
    [act, lkt, cas, dsp, errors, latch64, resp, freeIx, lkQueue]
  | .unreconciledCheck .. =>
    [lkt, tun, dsp, errors, freeIx, lkQueue, ctlOut, settles]
  | .ringEnable .. =>
    [act, lkt, dsp, dcp, dtl, errors, tab, latch64, resp, freeIx,
    lkQueue]
  | .ringFillDone .. =>
    [dtl, mem, tab, fmem, gaps]
  | .captureFrameStart .. =>
    [lkt, dsp, dcp, dtl, mem, errors, tab, freeIx, lkQueue]
  | .captureCommit .. =>
    [dcp, dtl, mem, tab, fmem]
  | .captureAbort .. | .captureLinkTrain .. =>
    [lkt, dsp, dcp, dtl, errors, tab, freeIx, lkQueue]
  | .hostPixelWrite .. =>
    [act, lkt, dsp, dtl, mem, errors, fmem, freeIx, lkQueue]
  | .fwEnd .. =>
    [dtl]
  | .fwAbort .. =>
    [dtl, tab]
  | .signaturesReady .. =>
    [dtl, mem, tab]
  | .catchupDone .. =>
    [dtl, mem, tab, fmem]
  | .streamSendFrame .. =>
    [dtl, mem, commitPending, shadow, tab, repairs, tileOut]
  | .repair .. =>
    [act, lkt, dsp, dtl, errors, latch64, resp, freeIx, lkQueue,
    repairs]
  | .sendFull .. =>
    [act, lkt, dsp, dtl, errors, latch64, resp, freeIx, lkQueue]
  | .tileReceived .. | .endReceived .. =>
    [lkt, dsp, dtl, mem, errors, tab, fmem, freeIx, lkQueue, gaps,
    tileDone]
  | .gapPop .. =>
    [act, lkt, dsp, dtl, errors, latch64, resp, freeIx, lkQueue, gaps]
  | .vblankFlip .. =>
    [clk, lkt, dsp, dhd, dtl, mem, commitPending, errors, anyRegister,
    shadow, tab, freeIx, lkQueue]
  | .activeEnd .. | .underrun .. =>
    [lkt, dsp, dhd, mem, errors, freeIx, lkQueue]
  | .headPllLock .. | .headLockTimeout .. =>
    [clk, lkt, dsp, dhd, errors, freeIx, lkQueue]
  | .dpTrain .. | .dpDown .. =>
    [clk, act, lkt, dsp, dhd, dpt, errors, latch64, resp, freeIx,
    lkQueue]
  | .dpTrainDone .. | .hpdIrq .. | .hpdLoss .. =>
    [clk, lkt, dsp, dhd, dpt, errors, freeIx, lkQueue]
  | .hpdArrive .. =>
    [dpt]
  | .auxTransaction .. =>
    [act, lkt, dsp, dpt, errors, latch64, resp, freeIx, lkQueue]
  | .auxDone .. =>
    [lkt, dsp, dpt, errors, freeIx, lkQueue]
  | .outboundWrite .. | .sidebandPoll .. | .sbrd .. | .msiCatch .. =>
    [lkt, dsp, txb, pci, errors, freeIx, lkQueue, txbOut, msixOut]
  | .outboundRead .. | .cpld .. | .cpl .. | .completionTimeout .. =>
    [lkt, dsp, txb, pci, errors, freeIx, lkQueue, txbOut, tags,
    rdWait, reads, rdAns, msixOut]
  | .mwr .. =>
    [lkt, dsp, txb, pci, errors, freeIx, lkQueue, txbOut, land, pfifo,
    msixOut]
  | .postedWriteIssue .. =>
    [act, lkt, dsp, dtl, txb, mem, errors, fmem, freeIx, lkQueue,
    txbOut, land, pfifo, pcieOut]
  | .mrd .. =>
    [lkt, dsp, txb, pci, errors, freeIx, lkQueue, txbOut, rdIn,
    msixOut]
  | .readIssue .. =>
    [act, lkt, dsp, dtl, txb, mem, errors, freeIx, lkQueue, txbOut,
    rdIn, rdBus, pcieOut]
  | .pwaitTimeout .. =>
    [act, lkt, dsp, dtl, txb, pci, mem, errors, freeIx, lkQueue,
    txbOut, rdIn, rdBus, pcieOut, msixOut]
  | .busCompletion .. =>
    [txb, txbOut, rdBus]
  | .perr .. | .sbrsp .. =>
    [lkt, dsp, txb, pci, errors, freeIx, lkQueue, msixOut]
  | .quarantineEnd .. =>
    [txb, txbOut, tags, rdWait]
  | .functionLevelReset .. =>
    [lkt, dsp, txb, pci, errors, freeIx, lkQueue, txbOut, tags,
    rdWait, reads]
  | .pcieLinkChange .. | .perstChange .. =>
    [lkt, dsp, txb, pci, pph, errors, freeIx, lkQueue]
  | .msixSend .. =>
    [act, lkt, dsp, pci, errors, latch64, resp, freeIx, lkQueue,
    msixOut]
  | .pfpop .. =>
    [act, lkt, dsp, txb, errors, latch64, resp, freeIx, lkQueue, pfifo]
  | .memEnable .. =>
    [act, lkt, dsp, txb, mem, errors, latch64, resp, fmem, freeIx,
    lkQueue, keys]
  | .memTrain .. =>
    [act, lkt, dsp, txb, mem, mph, errors, latch64, resp, freeIx,
    lkQueue]
  | .memTrainDone .. =>
    [lkt, dsp, txb, mem, mph, errors, freeIx, lkQueue]
  | .memWipeDone .. =>
    [txb, mem, fmem]
  | .memPromote .. =>
    [mem]
  | .ethFrameRx .. =>
    [fil, lkt, tun, rte, swb, thr, mcr, sch, mtr, cas, twn, dsp, eth,
    errors, tab, freeIx, lkQueue, ctlOut, meters, pkts, pktNext,
    opens, queues, shapers, stalled]
  | .ethFrameTx .. =>
    [eth, ethOut]
  | .vmapWrite .. =>
    [act, lkt, dsp, eth, errors, latch64, resp, freeIx, lkQueue]
  | .ethLinkChange .. =>
    [lkt, dsp, eth, errors, freeIx, lkQueue]
  | .lumeFrameRx .. =>
    [fil, lkt, tun, rte, swb, thr, mcr, sch, mtr, cas, twn, dsp, lmd,
    errors, tab, freeIx, lkQueue, ctlOut, meters, pkts, pktNext,
    opens, queues, shapers, stalled]
  | .lumeFrameTx .. =>
    [lmd, errors, lumeOut]
  | .portMapWrite .. =>
    [act, lkt, dsp, lmd, errors, latch64, resp, freeIx, lkQueue]
  | .sceneEntry .. =>
    [lmd, errors]
  | .sceneRepeat .. =>
    [lmd, lumeOut]
  | .t1lLinkChange .. =>
    [lkt, dsp, lmp, errors, freeIx, lkQueue]
  | .upstreamChange .. =>
    [act, lkt, dsp, usb, udf, rha, errors, tab, latch64, resp, freeIx,
    lkQueue, usbOut, usbHeld]
  | .upstreamAttach .. =>
    [usb]
  | .usbOvercurrent .. =>
    [lkt, dsp, usb, errors, freeIx, lkQueue]
  | .hubSuspend .. =>
    [usb, udf, errors]
  | .doorbell .. =>
    [act, lkt, dsp, rha, errors, tab, latch64, resp, freeIx, lkQueue,
    usbOut, usbFly]
  | .req .. =>
    [lkt, dsp, rha, errors, tab, freeIx, lkQueue, usbOut, usbHeld]
  | .nakRetry .. =>
    [rha, usbHeld]
  | .usbTransferTimeout .. | .cancelReceived .. =>
    [rha, tab, freeIx, usbOut, usbHeld]
  | .usbTransferDone .. =>
    [rha, tab, usbOut, usbHeld]
  | .cplReceived .. | .event .. =>
    [lkt, dsp, rha, errors, tab, freeIx, lkQueue, usbOut, usbFly]
  | .cancel .. | .busctl .. =>
    [act, lkt, dsp, rha, errors, latch64, resp, freeIx, lkQueue,
    usbOut]
  | .busctlReceived .. | .usbBusReset .. | .hubRequest .. =>
    [usb, udf, rha, errors, tab, freeIx, usbOut, usbHeld]
  | .alive .. =>
    [usbOut]
  | .agentLost .. =>
    [lkt, dsp, rha, errors, tab, freeIx, lkQueue, usbFly]
  | .remoteWake .. =>
    [usb, udf, rha, errors, usbOut]
  | .setup .. =>
    [udf, errors, freeIx, udfOut]
  | .ep0Go .. | .ep0Stall .. | .statusGo .. | .ep1Ingo .. | .ep2Go .. | .wakeReq .. =>
    [act, lkt, dsp, udf, errors, latch64, resp, freeIx, lkQueue]
  | .ep0OutPacket .. | .ep1OutPacket .. =>
    [udf, errors]
  | .hostResume .. =>
    [usb, udf, errors, freeIx]
  | .detection .. | .claspClosure .. | .offer .. | .request .. | .limitLower .. | .swapReq .. | .srcOn ..
  | .srcOff .. | .claspRetry .. | .fastSwap .. | .hardResetElect .. =>
    [clk, lkt, opt, oln, dsp, clp, tcp, lpo, bus, commitPending,
    errors, anyRegister, shadow, freeIx, lkQueue, lmcQ, wire, claspAsk]
  | .claspTrip .. | .tSwapExpiry .. =>
    [lkt, dsp, clp, tcp, lpo, bus, errors, freeIx, lkQueue, claspAsk]
  | .accept .. =>
    [clp, tcp, lpo, bus, claspAsk]
  | .reject .. | .status .. | .swapNak .. =>
    [clp, claspAsk]
  | .ready .. =>
    [clk, lkt, opt, oln, dsp, clp, tcp, lpo, bus, commitPending,
    errors, anyRegister, shadow, freeIx, lkQueue, lmcQ, wire]
  | .statusReq .. =>
    [clk, lkt, opt, oln, dsp, clp, commitPending, errors, anyRegister,
    shadow, freeIx, lkQueue, lmcQ, wire]
  | .swapAck .. =>
    [clp, tcp, lpo, bus, errors, claspAsk]
  | .claspAck .. =>
    [clk, lkt, opt, oln, dsp, clp, commitPending, errors, anyRegister,
    shadow, freeIx, lkQueue, lmcQ, wire, claspAsk]
  | .claspSwap .. | .reneg .. =>
    [clk, act, lkt, opt, oln, dsp, clp, commitPending, errors,
    anyRegister, shadow, latch64, resp, freeIx, lkQueue, lmcQ, wire,
    claspAsk]
  | .contractOpen .. | .claspHardReset .. =>
    [act, lkt, dsp, clp, tcp, lpo, bus, errors, latch64, resp, freeIx,
    lkQueue, claspAsk]
  | .sfAssert .. =>
    [clp]
  | .sfHandover .. | .busOvClear .. | .localSupplyChange .. =>
    [clp, tcp, lpo, bus]
  | .bleedTimeout .. | .vbusFault .. =>
    [lkt, dsp, errors, freeIx, lkQueue]
  | .typecAttach .. =>
    [clk, aon, pdm, lkt, opt, oln, dsp, dcp, dtl, txb, mem, usb, udf,
    rha, clp, tcp, lpo, bus, commitPending, nodeState, errors,
    anyRegister, shadow, tab, freeIx, lkQueue, wire, usbOut, usbHeld,
    pdOut]
  | .fastRoleSwap .. =>
    [clp, tcp, lpo, bus, errors, freeIx, pdOut]
  | .dpConfigure .. =>
    [dcp, tcp, errors, pdOut]
  | .pdHardreset .. =>
    [act, lkt, dsp, dcp, dtl, usb, udf, rha, clp, tcp, lpo, bus,
    errors, tab, latch64, resp, freeIx, lkQueue, usbOut, usbHeld,
    pdOut]
  | .typecDetach .. =>
    [act, lkt, dsp, dcp, dtl, usb, udf, rha, clp, tcp, lpo, bus,
    errors, tab, latch64, resp, freeIx, lkQueue, usbOut, usbHeld]
  | .hpdChange .. =>
    [act, lkt, dsp, dcp, errors, latch64, resp, freeIx, lkQueue, pdOut]
  | .lpoDetect .. | .classify .. | .rampTimeout .. | .faultTimerExpiry .. | .hardShort .. | .overloadCheck ..
  | .busUndervolt .. | .busOvervolt .. | .waitExit .. =>
    [lkt, dsp, clp, tcp, lpo, bus, errors, freeIx, lkQueue]
  | .detectRepeat .. =>
    [lpo]
  | .rampDone .. | .busShed .. | .shedClear .. | .emergencyChange .. =>
    [clp, tcp, lpo, bus, errors]
  | .currentLimit .. | .pgHoldExpiry .. =>
    [lpo, errors]
  | .fuseLimitWrite .. | .energyClear .. =>
    [act, lkt, dsp, lpo, errors, latch64, resp, freeIx, lkQueue]
  | .voteWrite .. =>
    [clk, aon, pdm, act, lkt, opt, oln, dsp, txb, mem, commitPending,
    nodeState, errors, anyRegister, shadow, latch64, resp, freeIx,
    lkQueue, wire]
  | .drainTimeout .. =>
    [clk, fil, aon, pdm, retain, act, lkt, lcs, dbg, key, opt, oln,
    tun, rte, swb, thr, age, mcr, sch, crt, cas, twn, dsp, dhd, dcp,
    dtl, dpt, txb, pci, pph, mem, usb, udf, rha, clp, tcp, lpo, bus,
    commitPending, domainsOn, portState, nodeId, errors, anyRegister,
    shadow, ret, tab, staging, latch64, tabLatch, fmem, freeIx,
    filWin, lkQueue, ctlOut, meters, pkts, opens, queues, egOut,
    shapers, asks, changes, unrec, intents, lmcQ, nbrs, granted,
    ready, replay, spanRx, spanTx, capRx, keys, gaps, repairs,
    tileDone, tileOut, txbOut, tags, rdWait, reads, land, rdIn, rdBus,
    pfifo, usbOut, usbFly, usbHeld, claspAsk, root, ephemeral, agree,
    blk, landed, clear, landing, telOut, mgpResp, mgpRead, paths,
    settles, stalled]
  | .domainReset .. =>
    [top, clk, fil, aon, pdm, retain, act, lkt, lcs, dbg, oln, tun,
    rte, swb, thr, mcr, sch, dsp, dcp, txb, pci, mem, usb, udf, rha,
    clp, tcp, lpo, bus, domainsOn, errors, anyRegister, shadow, ret,
    tab, staging, latch64, tabLatch, fmem, freeIx, filWin, lkQueue,
    ctlOut, meters, pkts, opens, queues, egOut, shapers, asks,
    changes, unrec, intents, lmcQ, nbrs, granted, ready, replay,
    spanRx, spanTx, capRx, keys, gaps, repairs, tileDone, tileOut,
    txbOut, tags, rdWait, reads, land, rdIn, rdBus, pfifo, usbOut,
    usbFly, usbHeld, claspAsk, root, ephemeral, agree, blk, landed,
    clear, landing, telOut, mgpResp, mgpRead, paths, settles, stalled]
  | .domainReady .. =>
    [top, clk, aon, pdm, lkt, mgp, opt, oln, dsp, dhd, txb, mem, lmd,
    usb, udf, rha, clp, tcp, lpo, bus, commitPending, headerControl,
    bootCause, errors, anyRegister, shadow, tab, freeIx, lkQueue,
    usbOut, usbHeld]
  | .domainFail .. | .mainPgLoss .. | .corePgLoss .. | .thermalTrip .. =>
    [top, clk, fil, aon, pdm, act, lkt, lcs, dbg, key, opt, oln, tun,
    rte, swb, thr, age, mcr, sch, crt, cas, twn, dsp, dhd, dcp, dtl,
    dpt, txb, pci, pph, mem, lmd, usb, udf, rha, clp, tcp, lpo, bus,
    commitPending, nodeState, domainsOn, portState, nodeId, errors,
    anyRegister, shadow, tab, staging, latch64, tabLatch, fmem,
    freeIx, filWin, lkQueue, ctlOut, meters, pkts, opens, queues,
    egOut, shapers, asks, changes, unrec, intents, lmcQ, nbrs,
    granted, ready, replay, spanRx, spanTx, capRx, keys, gaps,
    repairs, tileDone, tileOut, txbOut, tags, rdWait, reads, land,
    rdIn, rdBus, pfifo, usbOut, usbFly, usbHeld, claspAsk, root,
    ephemeral, agree, blk, landed, clear, landing, telOut, mgpResp,
    mgpRead, paths, settles, stalled]
  | .stateRequest .. =>
    [clk, aon, pdm, retain, act, lkt, opt, oln, dsp, txb, mem,
    commitPending, nodeState, errors, anyRegister, shadow, latch64,
    resp, freeIx, lkQueue, wire]
  | .transitionDone .. =>
    [top, clk, aon, pdm, lkt, opt, oln, dsp, txb, mem, commitPending,
    nodeState, errors, anyRegister, shadow, fmem, freeIx, lkQueue,
    wire]
  | .mainPgRise .. =>
    [top, pdm]
  | .bootStart .. =>
    [top, clk, fil, aon, pdm, act, lkt, lcs, dbg, key, upd, oln, tun,
    rte, thr, dsp, dcp, txb, pci, mem, usb, udf, rha, clp, tcp, lpo,
    bus, headerControl, fuses, debugState, updateState, errors,
    anyRegister, tab, cfg, freeIx, lkQueue, lkRing, ctlOut, usbOut,
    usbHeld, root, recs, marks, signers, flash]
  | .keyGen .. | .derive .. | .ecdhGen .. | .ecdh .. | .unwrap .. | .seal .. | .unseal .. | .keyClear ..
  | .erase .. | .slotLock .. | .measurementExtend .. =>
    [act, lkt, key, dsp, errors, latch64, resp, freeIx, lkQueue]
  | .keyOpDone .. =>
    [lkt, key, dsp, errors, freeIx, lkQueue, keys, ephemeral, agree,
    recs, marks]
  | .updateStart .. =>
    [act, lkt, key, upd, dsp, updateState, errors, latch64, resp,
    freeIx, lkQueue, landed]
  | .blockDataWrite .. =>
    [act, lkt, upd, dsp, errors, latch64, resp, freeIx, lkQueue, blk]
  | .blockLand .. =>
    [act, lkt, upd, dsp, errors, latch64, resp, freeIx, lkQueue, blk,
    landing]
  | .blockLandDone .. =>
    [lkt, key, upd, dsp, updateState, errors, freeIx, lkQueue, flash,
    landed]
  | .verify .. =>
    [act, lkt, key, dsp, updateState, errors, latch64, resp, freeIx,
    lkQueue]
  | .verifyDone .. =>
    [lkt, key, dsp, updateState, errors, freeIx, lkQueue]
  | .activate .. | .updateAbort .. =>
    [act, lkt, key, upd, dsp, updateState, errors, latch64, resp,
    freeIx, lkQueue]
  | .svncommit .. =>
    [act, lkt, dsp, fuses, errors, latch64, resp, freeIx, lkQueue]
  | .bundleDecrypt .. | .bdecClr .. =>
    [act, lkt, upd, dsp, errors, latch64, resp, freeIx, lkQueue, clear]
  | .bundleDecryptDone .. =>
    [upd, fuses, signers, clear]
  | .accessEntryWrite .. =>
    [act, act1, lkt, dsp, errors, tab, latch64, resp, freeIx, lkQueue]
  | .accessSync .. =>
    [act, lkt, dsp, pci, errors, latch64, resp, freeIx, lkQueue]
  | .debugUnlock .. =>
    [act, lkt, dbg, dsp, debugState, errors, latch64, resp, freeIx,
    lkQueue]
  | .relock .. =>
    [act, lkt, dsp, debugState, errors, latch64, resp, freeIx, lkQueue]
  | .faultInject .. =>
    [fil, act, lkt, dbg, opt, swb, dsp, errors, latch64, resp, freeIx,
    lkQueue]
  | .lifeCycleChange .. =>
    [act, lkt, lcs, dsp, errors, latch64, resp, freeIx, lkQueue]
  | .locketWrite .. =>
    [lkt, dsp, errors, freeIx, lkQueue, lkRing]
  | .telemetrySnapshot .. =>
    [retain, tel, tel1, act, lkt, mgp, key, oln, sch, mtr, cas, dsp,
    dhd, txb, pci, pph, mem, eth, lmp, usb, clp, tcp, lpo, errors,
    latch64, resp, freeIx, lkQueue, meters, shapers, telOut]
  | .telemetryPeriod .. =>
    [retain, tel, tel1, lkt, mgp, key, oln, sch, mtr, cas, dsp, dhd,
    txb, pci, pph, mem, eth, lmp, usb, clp, tcp, lpo, errors, freeIx,
    lkQueue, meters, shapers, telOut]
  | .telSnap .. =>
    [retain, tel, tel1, lkt, mgp, key, oln, sch, mtr, cas, dsp, dhd,
    txb, pci, pph, mem, eth, lmp, usb, clp, tcp, lpo, errors, freeIx,
    lkQueue, ctlOut, meters, shapers, telOut]
  | .lktRd .. =>
    [ctlOut]
  | .ident .. | .auth .. | .mcpuOpTimeout .. =>
    [mgp, mgpResp]
  | .getkey .. | .openSess .. | .authGo .. =>
    [mgp, errors, mgpResp]
  | .close .. =>
    [lkt, mgp, dsp, errors, freeIx, lkQueue, mgpResp]
  | .responseRead .. =>
    [mgpRead]
  | .smbusTimeout .. =>
    [lkt, mgp, dsp, errors, freeIx, lkQueue]
  | .sessionIdle .. =>
    [mgp, errors]
  | .sessionClose .. | .claimTake .. | .claimRelease .. =>
    [act, lkt, mgp, dsp, errors, latch64, resp, freeIx, lkQueue]
  | .authAccept .. | .authReject .. =>
    [act, lkt, mgp, dsp, errors, latch64, resp, freeIx, lkQueue,
    mgpResp]
  | .nodeTimeSet .. =>
    [top, act, lkt, dsp, errors, latch64, resp, freeIx, lkQueue]
  | .ballFunctionWrite .. =>
    [act, lkt, dsp, gpx, errors, latch64, resp, freeIx, lkQueue]
  | .timerClaim .. | .timerRelease .. =>
    [act, lkt, dsp, tmr, errors, latch64, resp, freeIx, lkQueue]
  | .timerExpiry .. | .timerCapture .. =>
    [tmr, errors]
  | .pllLock .. =>
    [top, clk, pdm, lkt, dsp, dhd, errors, freeIx, lkQueue]
  | .pcieMessage .. =>
    [lkt, dsp, txb, pci, errors, freeIx, lkQueue]
  | .hostConfigWrite .. =>
    [pci, msixOut]
  | .mr4Read .. =>
    [lkt, dsp, mem, errors, freeIx, lkQueue]
  | .wckTracking .. =>
    [lkt, dsp, mph, errors, freeIx, lkQueue]
  | .pdMessage .. =>
    [lkt, dsp, dcp, dtl, usb, udf, rha, clp, tcp, lpo, bus, errors,
    tab, freeIx, lkQueue, usbOut, usbHeld, pdOut]
  | .deviceConnect .. =>
    [usb, errors]
  | .inTransaction .. =>
    [udf, errors, udfOut]

/-! ### Completion -/

/-- The register window grants request `r` a write of the register that holds field `F`, instance `i`: the master has a
path to the window and no check of R716 refuses the access. -/
def Hub.Grants (h : Hub) (r : Req) (F : Fld) (i : Nat) : Prop :=
  h.reaches r.master = true ∧ h.check r true ((F.pg + i) * 4096 + F.off) 4 = none

/-- The same where the write sets the block of that register to work, which the block accepts while READY is 1 (R717). -/
def Hub.Accepts (h : Hub) (r : Req) (F : Fld) (i : Nat) : Prop :=
  h.Grants r F i ∧ h.up (F.pg + i) = true

/-- `Grants` for the word at window offset `addr`. -/
def Hub.GrantsAt (h : Hub) (r : Req) (addr : Nat) : Prop :=
  h.reaches r.master = true ∧ h.check r true addr 4 = none

/-- The register window grants request `r` a read of the word at window offset `addr`. -/
def Hub.GrantsRead (h : Hub) (r : Req) (addr : Nat) : Prop :=
  h.reaches r.master = true ∧ h.check r false addr 4 = none

/-- What a granted write of `r` comes to: the effect `f` on the node, whose 64-bit latch of the master the access has
cleared (R32), and the answer that the master gets (R61). -/
def Hub.written (h : Hub) (r : Req) (f : Hub → Hub) : Hub :=
  (f (h.dropLatch r.master)).answer r.master (if r.master = .pcieHost then .none else .ok [])

/-- Command `c` completes from `s`: a next state with the queue as it stands and a node of which `Q` holds. -/
def Completes (c : Instr) (s : State) (Q : Hub → Prop) : Prop :=
  ∃ t, exec c s = .next t ∧ t.pending = s.pending ∧ Q t.hub

/-! ### Words of the statements -/

/-- Counter `F` one higher, where it is not saturated. -/
def Hub.oneMore (h : Hub) (F : Fld) (i : Nat := 0) (b : Nat := 0) : Nat := min (2 ^ F.w - 1) (h.rd F i b + 1)

/-- Type-C port `k` has sent the Power Delivery messages `l`, in this order. -/
abbrev Hub.PdSends (s g : Hub) (k : Fin 2) (l : List PdOut) : Prop :=
  Tab.get [] k.val g.pdOut = Tab.get [] k.val s.pdOut ++ l

/-- R571: whether the votes, the floor and the ceiling of the node state put domain `d` on. -/
def Hub.toBeOn (h : Hub) (d : Nat) : Bool :=
  ((h.votes ||| floorMask (h.rd PDM.STATE_CURRENT)) &&& ceilMask (h.rd PDM.STATE_CURRENT)).testBit d

/-- R571, R574, R575: in `g` every domain that was at rest in `s` and is to be off drains, and every one that is to be on and may
start has its switch closed; MGMT, which drops last, aside. -/
abbrev Hub.DomainsFollow (s g : Hub) : Prop :=
  ∀ d : Nat, d < 12 → 1 ≤ d → s.settled d = true → d ≠ 1 ∨ g.toBeOn d = true →
    g.rd PDM.hDom 0 d =
      if s.domOn d then if g.toBeOn d then 0 else 3
      else if g.toBeOn d && s.bit CLK.PLLSTAT_LOCK 0 && (s.on TOP.RAILS_MAIN_PG || !mainDom d) then 1 else 0

/-- R595: source `src` acts in the node's state. -/
abbrev Hub.Wakes (h : Hub) (src : Nat) : Prop :=
  h.bit AON.WAKEEN_EN src = true ∧ (h.effState = 1 ∨ h.effState = 3)

/-- R584, R597: source `src` has been recognised: WAKESRC, the first source after the entry with its detail and its time, and
the exit to ACTIVE, latched where a transition runs. -/
abbrev Hub.WokenBy (s g : Hub) (src detail : Nat) : Prop :=
  g.bit AON.WAKESRC_SEEN src = true ∧
  (s.on AON.hFirst = false → g.rd AON.WAKEFIRST_SRC = src ∧ g.rd AON.WAKEFIRST_DETAIL = detail ∧ g.rd AON.WAKEFIRST_VALID = 1 ∧
    g.rd AON.WAKETICK_TICK = s.aonTimer % 2 ^ 32) ∧
  (s.on AON.hFirst = true → g.rd AON.WAKEFIRST_SRC = s.rd AON.WAKEFIRST_SRC ∧ g.rd AON.WAKETICK_TICK = s.rd AON.WAKETICK_TICK) ∧
  (s.on PDM.STATE_BUSY = false → g.rd PDM.STATE_BUSY = 1 ∧ g.rd PDM.hGoal = 0 ∧ g.rd AON.REGSTAT_LP = 0) ∧
  (s.on PDM.STATE_BUSY = true → g.rd PDM.STATE_PENDING = 1 ∧ g.rd PDM.STATE_LATCHED = 0)

/-- R589: `g` is in SOLITAIRE, which `s` has entered unless it was there: the domains outside its ceiling are off with no save, the
main rails are let go, and a running transition is aborted (R583). -/
abbrev Hub.EntersSolitaire (s g : Hub) : Prop :=
  g.rd PDM.STATE_CURRENT = 2 ∧ (s.rd PDM.STATE_CURRENT ≠ 2 →
    g.rd TOP.RAILS_MAIN_EN = 0 ∧ g.rd PDM.STATE_BUSY = 0 ∧ g.rd PDM.STATE_PENDING = 0 ∧ g.ret = s.ret ∧
    g.rd CLK.GATE_ETH = 0 ∧ g.rd CLK.GATE_USB = 0 ∧ (∀ d : Nat, d < 10 → 2 ≤ d → g.domOn d = false) ∧
    (s.on PDM.STATE_BUSY = true → g.bit HDR.ESTAT 1 4 = true ∧ g.rd PDM.CNT_ABORT_COUNT = s.oneMore PDM.CNT_ABORT_COUNT))

/-- R144, R145: port `p` has gone DOWN for `cause`: PORT_DOWN is set, with the cause in its capture, the replay buffer is empty and
the frames it held count as lost, and every working lane is in DETECT. -/
abbrev Hub.WentDown (s g : Hub) (p cause : Nat) : Prop :=
  g.bit HDR.ESTAT 7 (0x10 + p) = true ∧
  (s.bit HDR.ESTAT 7 (0x10 + p) = false → s.bit HDR.EEN 7 (0x10 + p) = true → s.rd HDR.EEN (0x10 + p) = 2 ^ 7 →
    s.on HDR.ECAP_VALID (0x10 + p) = false → g.rd HDR.ECAP_ADDR_LO (0x10 + p) = cause) ∧
  Tab.get [] p g.replay = [] ∧
  g.rd OPT.CNT_LOST_COUNT p = min (2 ^ OPT.CNT_LOST_COUNT.w - 1) (s.rd OPT.CNT_LOST_COUNT p + (Tab.get [] p s.replay).length) ∧
  (∀ k : Nat, k < 4 → 4 ≤ s.lane (4 * p + k) → s.lane (4 * p + k) ≤ 8 → g.lane (4 * p + k) = 1)

/-- Word `w` of entry `e` of table `t`: the one that master `m` has staged for it, or the one present (R51). -/
def Hub.stagedOr (h : Hub) (m : MasterId) (t : Nat) (row : TableRow) (e w : Nat) : Nat :=
  match (if (Tab.get {} (masterNum m * 8 + t) h.staging).entry = e then
      Tab.find w (Tab.get {} (masterNum m * 8 + t) h.staging).words else none) with
  | some x => x
  | none => h.tword (row.base + row.stride * e + 4 * w)

/-- The words that a TUN_SETUP installs (R195): STATE PENDING, TXSEQ and CELLS 0. -/
def pendingEntry (entry : List Nat) : Ent :=
  let w (i : Nat) : Nat := entry.getD i 0 % 2 ^ 32
  [setBits (w 0) 23 2 1, w 1, w 2, w 3, w 4, setBits (w 5) 16 16 0, 0, w 7]

/-- The CRT_ACK of STATUS OK for record `i` of node `g` (R272). -/
def crtOk (g : Hub) (src tok typ tid txn i : Nat) : CtlMsg :=
  { typ := 0x25, resp := true, dst := src, tok := tok,
    body := natLe 1 0 ++ natLe 1 typ ++ natLe 1 15 ++ natLe 1 0 ++ natLe 4 tid ++ natLe 2 txn ++
      natLe 2 (g.rd CRT.RREC_COMMITTED 0 i) ++ natLe 2 (g.rd CRT.RREC_TARGET 0 i) ++ natLe 2 0 }

/-- The CAS_ACK of STATUS OK that node `g` sends (R326). -/
def casOk (g : Hub) (src tok typ : Nat) : CtlMsg :=
  { typ := 0x4F, resp := true, dst := src, tok := tok,
    body := natLe 1 0 ++ natLe 1 typ ++ natLe 2 (g.rd CAS.EPOCH_EPOCH) }

/-- The enable field of a writer or reader and its instance (R349, R362). -/
def ringReg : Writer → Fld × Nat
  | .capture d => (DCP.CTL_CAPEN, d)
  | .hostWin n => (if n.val < 32 then DTL.WINEN_LO_EN else DTL.WINEN_HI_EN, 0)
  | .receive _ => (DTL.RCTL_EN, 0)
  | .send _ => (DTL.SCTL_EN, 0)

/-- The key operation `op` of a write of `v` to KEY.CMD is under way (R613). -/
def Hub.keyStarted (g : Hub) (op v : Nat) : Bool :=
  g.rd KEY.CSTAT_DONE == 1 && g.rd KEY.CSTAT_CODE == 0 && g.rd KEY.CMD_OP == op && g.rd KEY.CMD_DST == bits v 4 5 &&
    g.rd KEY.hCmd % 16 == op

/-- The CPL that `g` sent last (R483). -/
def lastCpl (g : Hub) : Option UsbCpl :=
  match g.usbOut.getLast? with
  | some (_, .cpl c _) => some c
  | _ => none

end Sys2Proof.Machine
end

