-- ==== Sys2Proof/Certificates/Slice0/Obligations.lean ====
section
/-! DEFINITION. The statements for the provers. First, command by command, where each completes and what it leaves, in the
table's order; then what stores leave alone, the rules of the register window and of the table windows as numbered in the
spec, and what every step does. -/

open Sys2Proof Sys2Proof.Machine

/-- Clocks, PLLs and references (R79 to R85), and the FIL commands that keep capacity, voltage and temperature (R66 to R76,
R86, R87): where each completes, and what it leaves. Where the spec leaves a point open, its clauses follow the model's
choices: log entries 82, 93 to 96 and 155. -/
def Obligations.ClockAndCapacityCommandsComplete : Prop :=
  ∀ s : State, s.Inv →
    (∀ r (n : Fin 13), s.hub.Grants r CLK.GATE_HEAD 0 → s.hub.up 1 = true → s.hub.bit CLK.GSTAT_RUN n = true →
      Completes (.clockGateOff r n) s fun g => g.bit (gateFld n).1 (gateFld n).2 = false ∧ g.bit CLK.hStopping n = true) ∧
    (∀ n : Fin 13, s.hub.bit CLK.hStopping n = true → s.hub.islandBusy n = false →
      (∀ a ∈ gateFifos n, s.hub.rd FIL.hFifo 0 a = 0 ∧ Tab.get [] (if a = 8 then 8 else a - 1) s.hub.stalled = []) →
      Completes (.clockStop n) s fun g => g.bit CLK.GSTAT_RUN n = false ∧ g.bit CLK.hStopping n = false) ∧
    (∀ n : Fin 13, s.hub.bit CLK.hStopping n = true →
      Completes (.gateTimeout n) s fun g => g.bit (gateFld n).1 (gateFld n).2 = true ∧ g.bit CLK.hStopping n = false ∧
        g.bit HDR.ESTAT 3 1 = true) ∧
    (∀ r (n : Fin 13), s.hub.Grants r CLK.GATE_HEAD 0 → s.hub.up 1 = true →
      Completes (.clockGateOn r n) s fun g => g.bit (gateFld n).1 (gateFld n).2 = true ∧ g.bit CLK.GSTAT_RUN n = s.hub.gateMayRun n)  ∧
    (∀ n : Fin 13, s.hub.bit CLK.PLLSTAT_LOCK n = true →
      Completes (.pllUnlock n) s fun g => g.bit CLK.PLLSTAT_LOCK n = false ∧ g.bit HDR.ESTAT 0 1 = true ∧
        (n.val = 0 → g.rd TOP.NTCTL_RUN = 0)) ∧
    (∀ n : Fin 13, s.hub.bit CLK.hUnlocked n = true →
      Completes (.pllRelock n) s fun g => g.bit CLK.PLLSTAT_LOCK n = true ∧ (n.val = 0 → g.rd TOP.NTCTL_RUN = 1)) ∧
    (∀ n : Fin 13, s.hub.pllMayRun n = true → s.hub.bit CLK.PLLSTAT_LOCK n = false → s.hub.bit CLK.hUnlocked n = false →
      Completes (.pllLock n) s fun g => g.bit CLK.PLLSTAT_LOCK n = true ∧ (n.val = 0 → g.rd TOP.NTCTL_RUN = 1)) ∧
    Completes .refLoss s (fun g => g.rd CLK.REFSTAT_REF_OK = 0 ∧ g.bit HDR.ESTAT 1 1 = true) ∧
    Completes .xtalLoss s (fun g => g.rd CLK.REFSTAT_XTAL_OK = 0 ∧ g.rd CLK.REFSTAT_AON_RC = 1 ∧ g.bit HDR.ESTAT 2 1 = true) ∧
    Completes .xtalStart s (fun g => g.rd CLK.REFSTAT_XTAL_OK = 1 ∧ g.rd CLK.REFSTAT_AON_RC = s.hub.rd CLK.AONCLK_FORCE_RC % 2) ∧
    (∀ r v, s.hub.Accepts r FIL.VSET_CODE 0 → v % 32 ≤ 16 → v % 32 ≠ s.hub.rd FIL.hVid →
      ((if s.hub.on FIL.VSET_RAMPING then s.hub.rd FIL.hVid else s.hub.rd FIL.VSET_CODE) ≤ v % 32 ∨
        s.hub.rd FIL.ADMLOAD_CT + s.hub.rd FIL.HOLD_CT ≤ gcapCt (v % 32)) →
      Completes (.vsetWrite r v) s fun g => g.rd FIL.VSET_CODE = v % 32 ∧ g.rd FIL.VSET_RAMPING = 1 ∧
        g.rd FIL.EFFCODE_CODE = g.effCode ∧ g.rd FIL.hVid = s.hub.rd FIL.hVid) ∧
    (s.hub.domOn 2 = true → s.hub.on FIL.VSET_RAMPING = true →
      Completes .vidStep s fun g =>
        (s.hub.rd FIL.hVid < s.hub.rd FIL.VSET_CODE → g.rd FIL.hVid = (s.hub.rd FIL.hVid + 1) % 2 ^ 64) ∧
        (s.hub.rd FIL.VSET_CODE < s.hub.rd FIL.hVid → g.rd FIL.hVid = (s.hub.rd FIL.hVid - 1) % 2 ^ 64) ∧
        (s.hub.rd FIL.hVid + 1 = s.hub.rd FIL.VSET_CODE ∨ s.hub.rd FIL.hVid = s.hub.rd FIL.VSET_CODE + 1 →
          g.rd FIL.VSET_RAMPING = 0) ∧ g.rd FIL.EFFCODE_CODE = g.effCode) ∧
    (∀ rate, s.hub.domOn 2 = true →
      Completes (.hsrateUpdate rate) s fun g => g.rd FIL.HSRATE_RATE = rate % 65536 ∧
        (s.hub.rd FIL.hLow = 2 → rate < s.hub.rd FIL.GCAP_OPS_RATE → g.bit HDR.ESTAT 1 2 = true)) ∧
    (∀ mv minMv, s.hub.domOn 2 = true →
      Completes (.vmeasUpdate mv minMv) s fun g => g.rd FIL.VMEAS_MV = mv % 1024 ∧ g.rd FIL.VMEAS_MIN_MV = minMv % 1024 ∧
        g.rd FIL.EFFCODE_CODE = g.effCode ∧ g.rd FIL.GCAP_CT_CT = gcapCt g.effCode ∧
        (minMv < 705 → s.hub.on FIL.hUv = false → g.bit HDR.ESTAT 3 2 = true)) ∧
    (∀ t, s.hub.domOn 2 = true →
      Completes (.tjUpdate t) s fun g => g.rd FIL.TJ_TEMP = t % 1024 ∧
        (580 < t → s.hub.on FIL.hHot = false → g.bit HDR.ESTAT 5 2 = true)) ∧
    (∀ r, s.hub.Accepts r FIL.SNAP_GO 0 →
      Completes (.filSnap r) s fun g => g.rd (FIL.SNAP_DATA.word 0) = s.hub.rd FIL.OPS_LO_COUNT % 2 ^ 32 ∧
        g.rd (FIL.SNAP_DATA.word 1) = s.hub.rd FIL.OPS_HI_COUNT % 2 ^ 32 ∧ g.rd (FIL.SNAP_DATA.word 2) = s.hub.rd FIL.UTIL_PERMILLE % 2 ^ 32 ∧
        g.rd (FIL.SNAP_DATA.word 3) = s.hub.rd FIL.HSRATE_RATE % 2 ^ 32 ∧ g.rd (FIL.SNAP_DATA.word 5) = s.hub.rd FIL.TJ_TEMP % 2 ^ 32)

/-- Resets (R9, R706, R717), and the commands of the common page header: enables, ESTAT clears, commits and counter clears
(R36 to R48). Where the spec leaves a point open, its clauses follow the model's choices: log entries 16, 24, 25, 147, 152 and
154. -/
def Obligations.ResetAndHeaderCommandsComplete : Prop :=
  ∀ s : State, s.Inv →
    (∀ b, Completes (.powerOnReset b) s fun g => g.rd PDM.DOMON_ON = 1 ∧ g.rd AON.BOOTCAUSE_CAUSE = (if b then 8 else 1) ∧
      g.tab = [] ∧ g.pkts = [] ∧ g.keys = [] ∧ g.ret = [] ∧ g.flash = s.hub.flash ∧ g.lkRing = s.hub.lkRing) ∧
    (∀ x, s.hub.bit CLK.PLLSTAT_LOCK 0 = false → s.hub.domOn 1 = false →
      Completes (.porRelease x) s fun g => g.rd TOP.STRAPS_MGP_A = x % 8 ∧ g.rd MGP.ADDR_ADDR = 0x58 + x % 8 ∧
        (s.hub.bit AON.BOOTCAUSE_CAUSE 3 = true → g.bit HDR.ESTAT 0 3 = true)) ∧
    (∀ x, Completes (.hrstN true x) s fun g => g.rd AON.hHeld = 1 ∧ g.rd AON.BOOTCAUSE_CAUSE = 2 ∧ g.rd PDM.DOMON_ON = 1 ∧
      g.tab = [] ∧ g.pkts = [] ∧ g.keys = [] ∧ g.ret = [] ∧ g.flash = s.hub.flash ∧ g.lkRing = s.hub.lkRing) ∧
    (∀ x, s.hub.on AON.hHeld = true →
      Completes (.hrstN false x) s fun g => g.rd AON.hHeld = 0 ∧ g.rd TOP.STRAPS_MGP_A = x % 8) ∧
    (∀ r v, s.hub.Grants r TOP.RSTCMD_KEY 0 → v % 65536 = 0xC1A5 →
      Completes (.rstcmd r v) s fun g => g.rd AON.BOOTCAUSE_CAUSE = 4 ∧ g.rd PDM.DOMON_ON = 1 ∧
        g.tab = [] ∧ g.pkts = [] ∧ g.keys = [] ∧ g.ret = [] ∧ g.flash = s.hub.flash ∧ g.lkRing = s.hub.lkRing) ∧
    (∀ r pg, s.hub.GrantsAt r (pg * 4096 + 8) →
      Completes (.softReset r pg) s fun g => g.rd HDR.PSTAT_READY pg = 0 ∧ g.rd HDR.hSrstBusy pg = if pg = 0x48 then 2 else 1) ∧
    (∀ pg, s.hub.domOn (pageDom pg) = true → s.hub.rd HDR.hSrstBusy pg = 1 →
      Completes (.softResetDone pg) s fun g =>
        g = ((s.hub.wr HDR.PSTAT_READY 1 pg).wr HDR.hSrstBusy 0 pg).startPage pg ∧
        (s.hub.on HDR.PCTL_EN pg = false → g.rd HDR.PSTAT_READY pg = 1 ∧ g.rd HDR.hSrstBusy pg = 0)) ∧
    (∀ r pg en, s.hub.GrantsAt r (pg * 4096 + 8) →
      Completes (.blockEnable r pg en) s fun g => g = s.hub.written r (fun h => h.enable pg en (Hub.accCap r true (pg * 4096 + 8))) ∧
        ((pg < 0x10 ∨ 0x40 ≤ pg) → g.rd HDR.PCTL_EN pg = bnat en)) ∧
    (∀ r pg v, s.hub.GrantsAt r (pg * 4096 + 0x10) → secondPage pg = false →
      Completes (.estatClear r pg v 0) s fun g => g.rd HDR.ESTAT pg = clrMask (s.hub.rd HDR.ESTAT pg) v % 2 ^ 32) ∧
    (∀ r pg v e n, s.hub.GrantsAt r (pg * 4096 + 0x10) → secondPage pg = false → n < 32 → e.testBit n = true →
      Completes (.estatClear r pg v e) s fun g => g.bit HDR.ESTAT n pg = true) ∧
    (∀ r pg, s.hub.GrantsAt r (pg * 4096 + 0x3C) →
      Completes (.commit r pg) s fun g => g.rd HDR.PSTAT_CPEND pg =
        if 0x20 ≤ pg ∧ pg ≤ 0x3F ∧ (s.hub.lane (pg - 0x20) = 0 ∨ s.hub.lane (pg - 0x20) = 9 ∨ s.hub.lane (pg - 0x20) = 10) then 0
        else 1) ∧
    (∀ pg, s.hub.up pg = true → s.hub.on HDR.PSTAT_CPEND pg = true → pg < 0x20 ∨ 0x40 ≤ pg ∧ pg < 0x50 ∨ 0x5E ≤ pg ∧ pg < 0x71 ∨ 0x78 ≤ pg →
      Completes (.commitPoint pg) s fun g => g.rd HDR.PSTAT_CPEND pg = 0) ∧
    (∀ r pg row off, pageRow? pg = some row → secondPage pg = false → cntOffset row.first = some off →
      s.hub.GrantsAt r (pg * 4096 + off) → row.first ∉ [0x48, 0x4B, 0x71, 0x92, 0xC8] →
      Completes (.cntclr r pg) s fun g => ∀ (F : Fld) (i b lo hi : Nat), keyPage (F.key i b) = pg → (lo, hi) ∈ cntRanges row.first →
        lo ≤ keyOff (F.key i b) → keyOff (F.key i b) ≤ hi → g.rd F i b = F.dflt b)

/-- The register window and its table windows (R31, R32, R51 to R53, R181, R348, R643, R648): where a granted access
completes, and what it writes or returns. Where the spec leaves a point open, its clauses follow the model's choices: log
entries 18 to 20. -/
def Obligations.WindowCommandsComplete : Prop :=
  ∀ s : State, s.Inv →
    (∀ r addr size v, s.hub.reaches r.master = true → s.hub.check r true addr size = none →
      Completes (.registerWrite r addr size v) s fun g => g = s.hub.written r fun h =>
        if size = 8 then (h.putWord r addr (v % 2 ^ 32)).putWord r (addr + 4) (v / 2 ^ 32) else h.putWord r addr (v % 2 ^ 32)) ∧
    (∀ r addr, s.hub.reaches r.master = true → s.hub.check r false addr r.size = none → tableAt addr = none →
      isLow64 (addr / 4096) (addr % 4096) = true →
      Completes (.lowWordRead r addr) s fun g =>
        let h := (s.hub.dropLatch r.master).fresh (addr / 4096) (addr % 4096)
        (r.size = 4 →
          Tab.get {} (masterNum r.master) g.latch64 = ⟨true, addr + 4, h.readReg (addr / 4096) (addr % 4096 + 4)⟩ ∧
          Tab.get .none (masterNum r.master) g.resp = .ok [h.readReg (addr / 4096) (addr % 4096)]) ∧
        (r.size = 8 → Tab.get .none (masterNum r.master) g.resp =
          .ok [h.readReg (addr / 4096) (addr % 4096), h.readReg (addr / 4096) (addr % 4096 + 4)])) ∧
    (∀ r addr t row, s.hub.reaches r.master = true → s.hub.check r false addr r.size = none → tableAt addr = some (t, row) →
      (addr - row.base) % row.stride = 0 →
      Completes (.tableLowestWordRead r addr) s fun g =>
        Tab.get {} (masterNum r.master) g.tabLatch = ⟨true, addr, s.hub.twords addr (row.stride / 4)⟩ ∧
        Tab.get .none (masterNum r.master) g.resp = .ok ((List.range (r.size / 4)).map fun k => s.hub.tword (addr + 4 * k)) ∧
        g.tab = s.hub.tab) ∧
    (∀ r addr v t row, s.hub.GrantsAt r addr → tableAt addr = some (t, row) →
      (addr - row.base) % row.stride / 4 + 1 ≠ row.stride / 4 →
      Completes (.tableWordWrite r addr v) s fun g => g.tab = s.hub.tab ∧
        (Tab.get {} (masterNum r.master * 8 + t) g.staging).entry = (addr - row.base) / row.stride ∧
        Tab.find ((addr - row.base) % row.stride / 4) (Tab.get {} (masterNum r.master * 8 + t) g.staging).words =
          some (v % 2 ^ 32)) ∧
    (∀ r addr v t row, s.hub.GrantsAt r addr → tableAt addr = some (t, row) →
      (addr - row.base) % row.stride / 4 + 1 = row.stride / 4 →
      Completes (.tableEntryWrite r addr v) s fun g =>
        (g = s.hub.written r fun h =>
          (h.entryReplace t row ((addr - row.base) / row.stride)
            (h.stagedWords r.master t row ((addr - row.base) / row.stride) (v % 2 ^ 32))
            (Hub.accCap r true addr)).clearStaging r.master t) ∧
        (t ≠ 0 → t ≠ 2 →
          g.twords (row.base + row.stride * ((addr - row.base) / row.stride)) (row.stride / 4) =
            (maskWords t ((addr - row.base) / row.stride)
              (s.hub.stagedWords r.master t row ((addr - row.base) / row.stride) (v % 2 ^ 32))).map (· % 2 ^ 32))) ∧
    (∀ r (idx : Fin 8192) v, s.hub.GrantsAt r (tunAddr idx + 28) →
      s.hub.entBad idx (s.hub.stagedWords r.master 0 ⟨0x400000, 32, 8192, 2, false⟩ idx (v % 2 ^ 32)) = false →
      Completes (.tunnelEntryWrite r idx v) s fun g => ∀ w : Nat, w < 7 → g.tword (tunAddr idx + 4 * w) =
        ((s.hub.stagedWords r.master 0 ⟨0x400000, 32, 8192, 2, false⟩ idx (v % 2 ^ 32)).getD w 0 &&& tableMask 0 w) % 2 ^ 32) ∧
    (∀ r (idx : Fin 256) v, s.hub.GrantsAt r (slotAddr idx 15) →
      s.hub.slotBad idx (s.hub.stagedWords r.master 2 ⟨0x460000, 64, 256, 7, false⟩ idx (v % 2 ^ 32)) = false →
      Completes (.slotEntryWrite r idx v) s fun g => g.twords (slotAddr idx 0) 16 =
        (maskWords 2 idx ((s.hub.stagedWords r.master 2 ⟨0x460000, 64, 256, 7, false⟩ idx (v % 2 ^ 32)).zipIdx.map fun p =>
          if 4 ≤ p.2 ∧ p.2 ≤ 7 then s.hub.slotWord idx p.2 else p.1)).map (· % 2 ^ 32)) ∧
    (∀ r v, s.hub.Grants r ACT.EW7_DATA 0 → s.hub.actLocked (s.hub.rd ACT.ESEL_ENTRY) = false →
      Hub.actBad ((List.range 8).map fun w => (if w = 7 then v else s.hub.rd (ACT.EW.word w)) &&& Hub.actMask w) = false →
      Completes (.accessEntryWrite r v) s fun g => g.twords (0x5C0000 + 32 * s.hub.rd ACT.ESEL_ENTRY) 8 =
        (((List.range 8).map fun w => (if w = 7 then v else s.hub.rd (ACT.EW.word w)) &&& Hub.actMask w).map (· % 2 ^ 32))) ∧
    (∀ r, s.hub.GrantsRead r 0x8108 →
      Completes (.accessSync r) s fun g => Tab.get .none (masterNum r.master) g.resp = .ok [s.hub.rd ACT.SYNC_WRITES])

/-- Lane bring-up and training (R96 to R111, R115, R124): each event of a lane takes it to the state that R104 gives. Where
the spec leaves a point open, its clauses follow the model's choices: log entries 26, 32, 102 to 104 and 156 to 159. -/
def Obligations.LaneCommandsComplete : Prop :=
  ∀ s : State, s.Inv →
    (∀ l : Fin 32, s.hub.up (0x20 + l) = true → s.hub.lane l ≠ 7 → s.hub.lane l ≠ 8 → s.hub.on HDR.PSTAT_CPEND (0x20 + l) = true →
      Completes (.txcoefCommit l) s fun g => g.rd HDR.PSTAT_CPEND (0x20 + l) = 0 ∧
        (coefOk (s.hub.rdShadow OLN.TXCOEF_PRE l) (s.hub.rdShadow OLN.TXCOEF_MAIN l) (s.hub.rdShadow OLN.TXCOEF_POST l) = false →
          g.bit HDR.ESTAT 4 (0x20 + l) = true ∧ g.rd OLN.TXACT_PRE l = s.hub.rd OLN.TXACT_PRE l) ∧
        (coefOk (s.hub.rdShadow OLN.TXCOEF_PRE l) (s.hub.rdShadow OLN.TXCOEF_MAIN l) (s.hub.rdShadow OLN.TXCOEF_POST l) = true →
          g.rd OLN.CFG_TXSRC l = 1 → g.rd OLN.TXACT_PRE l = g.rd OLN.TXCOEF_PRE l % 8 ∧
            g.rd OLN.TXACT_MAIN l = g.rd OLN.TXCOEF_MAIN l % 64 ∧ g.rd OLN.TXACT_POST l = g.rd OLN.TXCOEF_POST l % 16)) ∧
    (∀ l : Fin 32, s.hub.up (0x20 + l) = true → s.hub.lane l = 1 →
      Completes (.signalDetect l) s fun g => g.lane l = 2 ∧ g.rd OLN.RXSTAT_SIGNAL l = 1 ∧
        g.rd OLN.CNT_TRAIN_ATTEMPTS l = min 65535 (s.hub.rd OLN.CNT_TRAIN_ATTEMPTS l + 1)) ∧
    (∀ l : Fin 32, s.hub.up (0x20 + l) = true → s.hub.lane l = 2 →
      Completes (.signalAbsent l) s fun g => g.lane l = 1 ∧ g.rd OLN.RXSTAT_SIGNAL l = 0 ∧ g.rd OLN.hPreIx l = 0) ∧
    (∀ l : Fin 32, s.hub.up (0x20 + l) = true → (s.hub.lane l = 2 ∨ s.hub.lane l = 3) →
      Tab.has (OLN.STAT_STATE.key l 0) s.hub.shadow = false →
      Completes (.trainTimeout l) s fun g => g.lane l = 10 ∧ g.bit HDR.ESTAT 0 (0x20 + l) = true) ∧
    (∀ l : Fin 32, s.hub.up (0x20 + l) = true → s.hub.lane l = 2 → s.hub.on OLN.RXSTAT_BLOCK_LOCK l = false →
      Completes (.attemptEnd l) s fun g => g.rd OLN.RXSTAT_CDR_LOCK l = 0 ∧ g.rd OLN.hTsRun l = 0 ∧
        g.rd OLN.hPreIx l = s.hub.rd OLN.hPreIx l ∧ g.rd OLN.hPreNext l =
          ((if s.hub.on OLN.hPreNext l then s.hub.rd OLN.hPreNext l - 1 else s.hub.rd OLN.hPreIx l) + 1) %
            (s.hub.rd OLN.PRESEQ_LEN l + 1) + 1 ∧
        g.rd OLN.CNT_TRAIN_STEPS l = min 65535 (s.hub.rd OLN.CNT_TRAIN_STEPS l + 1) ∧
        g.rd OLN.CNT_TRAIN_ATTEMPTS l = min 65535 (s.hub.rd OLN.CNT_TRAIN_ATTEMPTS l + 1)) ∧
    (∀ l : Fin 32, s.hub.up (0x20 + l) = true → s.hub.lane l = 2 → s.hub.on OLN.RXSTAT_BLOCK_LOCK l = true →
      s.hub.on OLN.STAT_PARTNER_LOCKED l = false →
      Completes (.presetStep l) s fun g =>
        g.rd OLN.hPreIx l = s.hub.rd OLN.hPreIx l ∧ g.rd OLN.hPreNext l =
          ((if s.hub.on OLN.hPreNext l then s.hub.rd OLN.hPreNext l - 1 else s.hub.rd OLN.hPreIx l) + 1) %
            (s.hub.rd OLN.PRESEQ_LEN l + 1) + 1 ∧
        g.rd OLN.CNT_TRAIN_STEPS l = min 65535 (s.hub.rd OLN.CNT_TRAIN_STEPS l + 1) ∧ g.lane l = 2) ∧
    (∀ (l : Fin 32) inv block lag, s.hub.up (0x20 + l) = true → s.hub.lane l = 2 → s.hub.on OLN.CFG_AUTO_POL l = true →
      s.hub.on OLN.hPolFix l = false → blockOk block = true → block % 256 = 0x1E →
      Completes (.tsReceived l inv block lag) s fun g => g.rd OLN.RXSTAT_POL_INV l = bnat inv ∧
        g.rd OLN.STAT_PARTNER_LANE l = bits block 8 2 ∧ g.rd OLN.STAT_PARTNER_PORT l = bits block 10 3 ∧
        (s.hub.rd OLN.hTsRun l + 1 < 64 → g.rd OLN.hTsRun l = s.hub.rd OLN.hTsRun l + 1 ∧ g.lane l = 2) ∧
        (64 ≤ s.hub.rd OLN.hTsRun l + 1 → g.lane l = 3)) ∧
    (∀ (l : Fin 32) block lag, s.hub.up (0x20 + l) = true → s.hub.lane l = 5 → blockOk block = true →
      (s.hub.rd OLN.hAmNext l = 0 ∨ bits block 16 16 + 1 = s.hub.rd OLN.hAmNext l) →
      Completes (.amReceived l block true lag) s fun g => g.rd OLN.RXSTAT_FRAME_LOCK l = 1 ∧
        g.rd OLN.SKEW_BLOCKS l = min 127 lag ∧ g.rd OLN.hAmNext l = (bits block 16 16 + 1) % 65536 + 1 ∧
        (48 < lag → g.bit HDR.ESTAT 3 (0x20 + l) = true)) ∧
    (∀ l : Fin 32, s.hub.up (0x20 + l) = true → 2 ≤ s.hub.lane l → s.hub.lane l ≤ 6 →
      Completes (.blockLockLoss l) s fun g => g.rd OLN.RXSTAT_BLOCK_LOCK l = 0 ∧
        g.rd OLN.CNT_LOCK_COUNT l = min 65535 (s.hub.rd OLN.CNT_LOCK_COUNT l + 1) ∧
        (s.hub.lane l = 3 → g.lane l = 2) ∧ (5 ≤ s.hub.lane l → g.lane l = 9)) ∧
    (∀ l : Fin 32, s.hub.up (0x20 + l) = true →
      Completes (.cdrLockLoss l) s fun g => g.rd OLN.RXSTAT_CDR_LOCK l = 0 ∧
        (s.hub.lane l = 5 → g.lane l = 9 ∧ g.bit HDR.ESTAT 2 (0x20 + l) = true)) ∧
    (∀ (l : Fin 32) n, s.hub.up (0x20 + l) = true →
      Completes (.syncLimit l n) s fun g =>
        g.rd OLN.CNT_SYNC_COUNT l = min (2 ^ 32 - 1) (s.hub.rd OLN.CNT_SYNC_COUNT l + n) ∧
        (s.hub.lane l = 5 → s.hub.rd OLN.SYNCLIM_LIMIT l ≠ 0 → s.hub.rd OLN.SYNCLIM_LIMIT l < n → g.lane l = 9)) ∧
    (∀ r (l : Fin 32), s.hub.Accepts r OLN.CTL_RETRAIN l → s.hub.lane l ≠ 0 →
      Completes (.retrain r l) s fun g => g.lane l = 1 ∧ g.rd OLN.STORE_VALID l = 0)

/-- Ports form, retire lanes and enter and leave LOWPOWER (R95, R107 to R120, R124, R143, R159). Where the spec leaves a point
open, its clauses follow the model's choices: log entries 33, 64 and 97 to 100. -/
def Obligations.PortLaneSetCommandsComplete : Prop :=
  ∀ s : State, s.Inv →
    (∀ (p : Fin 8) q, s.hub.mayForm p = true → s.hub.on OPT.hReady p = true → (∃ k : Nat, k < 4 ∧ s.hub.lane (4 * p + k) = 4) →
      (∀ k : Nat, k < 4 → s.hub.lane (4 * p + k) = 4 →
        s.hub.rd OLN.STAT_PARTNER_LANE (4 * p + k) = k ∧ s.hub.rd OLN.STAT_PARTNER_PORT (4 * p + k) = q) →
      (∀ k : Nat, k < 4 → ∀ j : Nat, j < 4 → s.hub.lane (4 * p + k) = 4 → s.hub.lane (4 * p + j) = 4 →
        s.hub.rd OLN.hLag (4 * p + k) ≤ s.hub.rd OLN.hLag (4 * p + j) + 48) →
      Completes (.portFormTimer p) s fun g => g.rd OPT.STAT_STATE p = 1 ∧ g.on OPT.hTxSet p = true ∧
        ∀ k : Nat, k < 4 → s.hub.lane (4 * p + k) = 4 → g.lane (4 * p + k) = 5 ∨ g.lane (4 * p + k) = 6) ∧
    (∀ (p : Fin 8) level, s.hub.portOn p = true → s.hub.on OPT.STAT_STATE p = true →
      Completes (.skipReceived p level) s fun g => g.rd OPT.hDeskew p = (if 32 < level then level - 1 else level) % 2 ^ 64) ∧
    (∀ p : Fin 8, s.hub.portOn p = true → s.hub.on OPT.STAT_STATE p = true → s.hub.on OPT.hRetAns p = false →
      s.hub.rd OPT.hRet p = 1 → s.hub.rd OPT.hWidth p ≠ 2 → s.hub.newSet p ≠ [] →
      Completes (.retireSend p) s fun g => g.rd OPT.hRet p = 2 ∧ g.rd OPT.hTxSet p = maskOf (s.hub.newSet p)) ∧
    (∀ (p : Fin 8) block, s.hub.portOn p = true → s.hub.on OPT.STAT_STATE p = true → blockOk block = true → block % 256 = 0x55 →
      block.testBit 16 = true → s.hub.rd OPT.hRet p = 2 →
      Completes (.retireReceived p block) s fun g => g.rd OPT.hRet p = 0 ∧ g.rd OPT.hRetMask p = 0 ∧
        g.rd OPT.hRxSet p = bits block 12 4) ∧
    (∀ (p : Fin 8) block, s.hub.portOn p = true → s.hub.on OPT.STAT_STATE p = true → blockOk block = true → block % 256 = 0x55 →
      block.testBit 16 = false → (∃ k : Nat, k < 4 ∧ k ∈ s.hub.working p ∧ (bits block 8 4).testBit k = false) →
      Completes (.retireReceived p block) s fun g => g.rd OPT.hRetAns p = 1 ∧ g.rd OPT.hRxSet p = bits block 12 4) ∧
    (∀ p : Fin 8, s.hub.portOn p = true → s.hub.rd OPT.STAT_STATE p = 3 → s.hub.rd OPT.hPm p = 3 → s.hub.on OPT.hRet p = false →
      s.hub.on OPT.hRetAns p = false → s.hub.rd OPT.hPmPart p ≠ 1 →
      Completes (.eidleSend p) s fun g => g.rd OPT.STAT_STATE p = 4 ∧
        g.rd OPT.PM_STATE p = (if s.hub.on OPT.hPmL2 p then 3 else 2) ∧ g.bit HDR.ISTAT 6 (0x10 + p) = true) ∧
    (∀ (p : Fin 8) l2, s.hub.portOn p = true → s.hub.rd OPT.STAT_STATE p = 3 → s.hub.rd OPT.hPmPart p = 2 →
      Completes (.eidleReceived p l2) s fun g =>
        if s.hub.rd OPT.hRet p = 0 ∧ s.hub.rd OPT.hRetAns p = 0 then
          g.rd OPT.STAT_STATE p = 4 ∧ g.rd OPT.PM_STATE p = (if l2 then 3 else 2) ∧ g.rd OPT.hPmPart p = 0
        else g.rd OPT.STAT_STATE p = 3 ∧ g.rd OPT.hEidle p = if l2 then 2 else 1) ∧
    (∀ (p : Fin 8) lock, s.hub.portOn p = true → s.hub.rd OPT.STAT_STATE p = 4 → s.hub.rd OPT.PM_STATE p = 2 →
      Completes (.ftsReceived p lock) s fun g =>
        (lock = true →
          (∃ k : Nat, k < 4 ∧ (s.hub.rd OPT.hTxSet p).testBit k = true ∧ (s.hub.lane (s.hub.laneNo p k) = 5 ∨
            s.hub.lane (s.hub.laneNo p k) = 7 ∨ s.hub.lane (s.hub.laneNo p k) = 8)) →
          (∀ k : Nat, k < 4 → (s.hub.rd OPT.hTxSet p).testBit k = true →
            s.hub.lane (s.hub.laneNo p k) = 0 ∨ 5 ≤ s.hub.lane (s.hub.laneNo p k)) →
          g.rd OPT.STAT_STATE p = 3 ∧ g.rd OPT.PM_STATE p = 0) ∧ (lock = false → g.on OPT.hExit p = true)) ∧
    (∀ r (l : Fin 32), s.hub.Accepts r OLN.BEACON_SEND l →
      (s.hub.rd OPT.PM_STATE (l / 4) = 3 ∨ s.hub.rd OPT.STAT_STATE (l / 4) = 0) →
      Completes (.beaconSend r l) s fun g => g.rd OPT.hBcn (l / 4) = l % 4 + 1 ∧ g.rd OPT.hBursts (l / 4) = 0) ∧
    (∀ p : Fin 8, s.hub.portOn p = true → s.hub.on OPT.hBcn p = true →
      Completes (.beaconBurst p) s fun g => g.rd OPT.hBursts p = (s.hub.rd OPT.hBursts p + 1) % 2 ^ 64 ∧
        (32 ≤ s.hub.rd OPT.hBursts p + 1 → g.rd OPT.hBcn p = 0)) ∧
    (∀ p : Fin 8, s.hub.portOn p = true →
      Completes (.pmExit none p) s fun g => s.hub.rd OPT.STAT_STATE p = 4 → g.on OPT.hExit p = true) ∧
    (∀ r (p : Fin 8), s.hub.Accepts r OPT.PM_EXIT p →
      Completes (.pmExit (some r) p) s fun g => s.hub.rd OPT.STAT_STATE p = 4 → g.on OPT.hExit p = true)

/-- Capability exchange, mailbox and width changes of a port (R142 to R149, R157, R158). Where the spec leaves a point open,
its clauses follow the model's choices: log entries 31, 107, 108, 121, 160 to 162 and 164. -/
def Obligations.LinkSetupCommandsComplete : Prop :=
  ∀ s : State, s.Inv →
    (∀ (p : Fin 8) tok payload, s.hub.linkUp p = true →
      Hub.capClash (s.hub.rd OPT.hCrypt p) (bits (leAt (padTo 64 payload) 13 1) 2 2) = false →
      Completes (.cap p tok payload) s fun g => Tab.get [] p.val g.capRx = padTo 64 payload ∧
        ⟨2, tok, [], false⟩ ∈ Tab.get [] p.val g.lmcQ ∧
        (s.hub.rd OPT.STAT_STATE p ≠ 1 → g.rd OPT.STAT_STATE p = s.hub.rd OPT.STAT_STATE p) ∧
        (s.hub.rd OPT.STAT_STATE p = 1 → g.rd OPT.STAT_STATE p = (if s.hub.on OPT.hCapAck p then
          if s.hub.rd OPT.hCrypt p = 0 ∨ bits (leAt (padTo 64 payload) 13 1) 2 2 = 0 then 3 else 2 else 1)) ∧
        (Tab.get [] p.val s.hub.capRx ≠ padTo 64 payload →
          g.rd OPT.PARTNER_NODE p = leAt (padTo 64 payload) 8 2 % 2 ^ 14 ∧
          g.rd OPT.PARTNER_PORT p = leAt (padTo 64 payload) 11 1 % 8 ∧
          g.rd OPT.PARTNER_ID_LO_ID p = leAt (padTo 64 payload) 0 4 % 2 ^ 32 ∧
          g.rd OPT.PARTNER_ID_HI_ID p = leAt (padTo 64 payload) 4 4 % 2 ^ 32 ∧
          (leAt (padTo 64 payload) 13 1 % 4 ≠ s.hub.rd OLN.CFG_CLASS (4 * p) → g.bit HDR.ESTAT 11 (0x10 + p) = true) ∧
          (s.hub.rd OPT.STAT_STATE p = 1 → g.rd OPT.TXCRED_A_VC0 p = leAt (padTo 64 payload) 16 2 ∧
            g.rd OPT.TXCRED_A_VC1 p = leAt (padTo 64 payload) 18 2 ∧ g.rd OPT.TXCRED_B_VC2 p = leAt (padTo 64 payload) 20 2 ∧
            g.rd OPT.TXCRED_B_VC3 p = leAt (padTo 64 payload) 22 2))) ∧
    (∀ (p : Fin 8) tok payload, s.hub.linkUp p = true → Tab.get [] p.val s.hub.capRx ≠ padTo 64 payload →
      Hub.capClash (s.hub.rd OPT.hCrypt p) (bits (leAt (padTo 64 payload) 13 1) 2 2) = true →
      Completes (.cap p tok payload) s fun g => g.rd OPT.STAT_STATE p = 0 ∧ g.bit HDR.ESTAT 1 (0x10 + p) = true) ∧
    (∀ (p : Fin 8) tok, s.hub.portOn p = true → s.hub.rd OPT.STAT_STATE p = 1 → s.hub.rd OPT.hCapTok p = tok →
      Completes (.capack p tok) s fun g =>
        let far := bits (leAt (Tab.get [] p.val s.hub.capRx) 13 1) 2 2
        (Tab.get [] p.val s.hub.capRx = [] → g.rd OPT.hCapAck p = 1 ∧ g.rd OPT.STAT_STATE p = 1) ∧
        (Tab.get [] p.val s.hub.capRx ≠ [] → Hub.capClash (s.hub.rd OPT.hCrypt p) far = false → g.rd OPT.hCapAck p = 1 ∧
          g.rd OPT.STAT_STATE p = if s.hub.rd OPT.hCrypt p = 0 ∨ far = 0 then 3 else 2) ∧
        (Tab.get [] p.val s.hub.capRx ≠ [] → Hub.capClash (s.hub.rd OPT.hCrypt p) far = true →
          g.rd OPT.STAT_STATE p = 0 ∧ g.bit HDR.ESTAT 1 (0x10 + p) = true)) ∧
    (∀ (p : Fin 8) tok, s.hub.rd OPT.STAT_STATE p ≠ 1 ∨ s.hub.rd OPT.hCapTok p ≠ tok →
      Completes (.capack p tok) s fun g => g = s.hub) ∧
    (∀ p : Fin 8, s.hub.portOn p = true → s.hub.rd OPT.STAT_STATE p = 1 → s.hub.on OPT.hCapAck p = false →
      Completes (.capRepeat p) s fun g =>
        let c := (s.hub.wr OPT.hCrypt (s.hub.rd OPT.CFG_CRYPT p) p).capPayload p
        Tab.get [] p.val g.lmcQ = Tab.get [] p.val s.hub.lmcQ ++ [⟨1, s.hub.rd OPT.hCapTok p, c, false⟩] ∧
          leAt c 0 8 = s.hub.deviceId % 2 ^ 64 ∧ leAt c 11 1 = p ∧ leAt c 14 2 = 0x0100 ∧ leAt c 24 2 = 511 ∧
          bits (leAt c 13 1) 2 2 = s.hub.rd OPT.CFG_CRYPT p % 4 ∧ c.length = 64) ∧
    (∀ p : Fin 8, s.hub.rd OPT.STAT_STATE p ≠ 1 ∨ s.hub.on OPT.hCapAck p = true →
      Completes (.capRepeat p) s fun g => g = s.hub) ∧
    (∀ p : Fin 8, s.hub.portOn p = true → s.hub.rd OPT.STAT_STATE p = 1 →
      Completes (.capxTimeout p) s fun g => g.rd OPT.STAT_STATE p = 0 ∧ g.bit HDR.ESTAT 0 (0x10 + p) = true ∧
        Hub.WentDown s.hub g p 1) ∧
    (∀ p : Fin 8, s.hub.portOn p = true → s.hub.rd OPT.STAT_STATE p = 2 →
      Completes (.keyingTimeout p) s fun g => g.rd OPT.STAT_STATE p = 0 ∧ g.bit HDR.ESTAT 2 (0x10 + p) = true ∧
        Hub.WentDown s.hub g p 2) ∧
    (∀ p : Fin 8, s.hub.rd OPT.STAT_STATE p ≠ 1 → Completes (.capxTimeout p) s fun g => g = s.hub) ∧
    (∀ p : Fin 8, s.hub.rd OPT.STAT_STATE p ≠ 2 → Completes (.keyingTimeout p) s fun g => g = s.hub) ∧
    (∀ r (p : Fin 8), s.hub.Accepts r OPT.CTL_DOWN p → s.hub.rd OPT.STAT_STATE p ≠ 0 →
      Completes (.portDownCmd r p) s fun g => g.rd OPT.STAT_STATE p = 0 ∧ Hub.WentDown s.hub g p 5) ∧
    (∀ r (p : Fin 8), s.hub.Accepts r OPT.CTL_DOWN p → s.hub.rd OPT.STAT_STATE p = 0 →
      Completes (.portDownCmd r p) s fun g => g = s.hub.written r id) ∧
    (∀ r (p : Fin 8), s.hub.Accepts r OPT.MBX_TXC_GO p → s.hub.on OPT.MBX_TXC_BUSY p = false → s.hub.on OPT.STAT_STATE p = true →
      Completes (.mailboxSend r p) s fun g => g.rd OPT.MBX_TXC_BUSY p = 1 ∧ Tab.get [] p.val g.lmcQ =
        Tab.get [] p.val s.hub.lmcQ ++ [{ typ := s.hub.rd OPT.MBX_TXC_TYPE p, payload := (ofWords ((List.range 16).map fun j =>
          s.hub.rd (OPT.MBX_TXD.word j) p)).take (s.hub.rd OPT.MBX_TXC_LEN p), mbx := true }]) ∧
    (∀ r (p : Fin 8), s.hub.Accepts r OPT.MBX_TXC_GO p → s.hub.on OPT.MBX_TXC_BUSY p = true ∨ s.hub.on OPT.STAT_STATE p = false →
      Completes (.mailboxSend r p) s fun g => g = s.hub.written r id) ∧
    (∀ (p : Fin 8) len payload, s.hub.linkUp p = true → s.hub.live (0xB0 + p) = true →
      (leAt payload 0 1 = 0 ∨ 13 < leAt payload 0 1) →
      Completes (.mailbox p 0x0B len payload) s fun g =>
        g.rd CLP.CNT_MSG2_BAD p = min 65535 (s.hub.rd CLP.CNT_MSG2_BAD p + 1)) ∧
    (∀ (p : Fin 8) typ len payload, s.hub.linkUp p = true → Hub.lmcReserved typ = true →
      Completes (.mailbox p typ len payload) s fun g =>
        g.rd OPT.CNT_CREDIT_LMC p = min 65535 (s.hub.rd OPT.CNT_CREDIT_LMC p + 1) ∧
        g.rd OPT.MBX_RXC_VALID p = s.hub.rd OPT.MBX_RXC_VALID p) ∧
    (∀ (p : Fin 8) typ len payload, s.hub.linkUp p = true → 0x10 ≤ typ → typ ≤ 0x1F →
      Completes (.mailbox p typ len payload) s fun g =>
        (s.hub.on OPT.MBX_RXC_VALID p = true → g = s.hub.wr OPT.MBX_RXC_OVERRUN 1 p) ∧
        (s.hub.on OPT.MBX_RXC_VALID p = false → g.rd OPT.MBX_RXC_VALID p = 1 ∧ g.rd OPT.MBX_RXC_TYPE p = typ % 256 ∧
          g.rd OPT.MBX_RXC_LEN p = len % 128 ∧ g.bit HDR.ISTAT 1 (0x10 + p) = true ∧
          (∀ j : Nat, j < 16 → g.rd (OPT.MBX_RXD.word j) p = leAt (padTo 64 (payload.take len)) (4 * j) 4))) ∧
    (∀ (p : Fin 8) typ len payload, s.hub.linkUp p = true → 1 ≤ typ → typ ≤ 0x0A →
      Completes (.mailbox p typ len payload) s fun g => g = s.hub) ∧
    (∀ r (p : Fin 8), s.hub.Accepts r OPT.WIDTH_GO p → s.hub.rd OPT.WIDTH_DONE p ≠ 1 → s.hub.rd OPT.STAT_STATE p = 3 →
      Completes (.widthRequest r p) s fun g =>
        let t := lanesOfWidth (s.hub.rd OPT.WIDTH_TARGET p)
        let wide := decide (lanesOfWidth (s.hub.rd OPT.CFG_WIDTH p) < t)
        let narrow := decide (t < lanesOfWidth (s.hub.rd OPT.STAT_WIDTH p) ∧ Hub.widthCt (widthOfLanes t) < s.hub.pres p)
        ((wide || narrow) = true → g.rd OPT.WIDTH_DONE p = 3 ∧ g.bit HDR.ESTAT 8 (0x10 + p) = true ∧
          g.rd OPT.hWidth p = s.hub.rd OPT.hWidth p ∧ g.lmcQ = s.hub.lmcQ) ∧
        ((wide || narrow) = false → g.rd OPT.WIDTH_DONE p = 1 ∧ g.rd OPT.hWidth p = 1 ∧
          Tab.get [] p.val g.lmcQ = Tab.get [] p.val s.hub.lmcQ ++ [⟨3, (s.hub.rd OPT.hTok p + 1) % 2 ^ 16,
            natLe 1 (2 ^ t - 1), false⟩])) ∧
    (∀ r (p : Fin 8), s.hub.Accepts r OPT.WIDTH_GO p → s.hub.rd OPT.WIDTH_DONE p = 1 →
      Completes (.widthRequest r p) s fun g => g = s.hub.written r id) ∧
    (∀ r (p : Fin 8), s.hub.Accepts r OPT.WIDTH_GO p → s.hub.rd OPT.WIDTH_DONE p ≠ 1 → s.hub.rd OPT.STAT_STATE p ≠ 3 →
      Completes (.widthRequest r p) s fun g => g = s.hub.written r fun h => h.wr OPT.WIDTH_DONE 3 p) ∧
    (∀ (p : Fin 8) tok mask, s.hub.portOn p = true → s.hub.rd OPT.STAT_STATE p = 3 →
      Completes (.widthReq p tok mask) s fun g =>
        let bad := !(mask % 16 != 0 && (lanesOf (mask % 16)).all fun k =>
          s.hub.lane (s.hub.laneNo p k) == 5 || s.hub.lane (s.hub.laneNo p k) == 6)
        let wins := s.hub.rd OPT.hWidth p == 1 && s.hub.widthWins p
        Tab.get [] p.val g.lmcQ = Tab.get [] p.val s.hub.lmcQ ++
          [⟨4, tok, natLe 1 (if wins then 2 else if bad then 1 else 0), false⟩] ∧
        (s.hub.rd OPT.hWidth p ≠ 1 ∨ wins = true → g.rd OPT.WIDTH_DONE p = s.hub.rd OPT.WIDTH_DONE p) ∧
        (s.hub.rd OPT.hWidth p = 1 → wins = false → g.rd OPT.WIDTH_DONE p = 3 ∧ g.rd OPT.hWidth p = 0)) ∧
    (∀ (p : Fin 8) tok status, s.hub.portOn p = true → s.hub.rd OPT.STAT_STATE p = 3 → s.hub.rd OPT.hWidth p = 1 →
      s.hub.rd OPT.hWidthTok p = tok + 1 →
      Completes (.widthAck p tok status) s fun g =>
        (status = 0 → g.rd OPT.hWidth p = 2 ∧ g.rd OPT.hRet p = 1 ∧ g.rd OPT.hRetMask p = 0 ∧
          g.rd OPT.hRetSet p = s.hub.rd OPT.hWidthMask p % 2 ^ 64) ∧
        (status ≠ 0 → g.rd OPT.WIDTH_DONE p = 3 ∧ g.rd OPT.hWidth p = 0)) ∧
    (∀ (p : Fin 8) tok status, s.hub.rd OPT.STAT_STATE p ≠ 3 ∨ s.hub.rd OPT.hWidth p ≠ 1 ∨ s.hub.rd OPT.hWidthTok p ≠ tok + 1 →
      Completes (.widthAck p tok status) s fun g => g = s.hub) ∧
    (∀ p : Fin 8, s.hub.portOn p = true → s.hub.rd OPT.hWidth p = 1 →
      Completes (.widthTimeout p) s fun g => g.rd OPT.WIDTH_DONE p = 3 ∧ g.rd OPT.hWidth p = 0 ∧ g.bit HDR.ESTAT 9 (0x10 + p) = true) ∧
    (∀ p : Fin 8, s.hub.rd OPT.hWidth p ≠ 1 → Completes (.widthTimeout p) s fun g => g = s.hub)

/-- Power requests, time transfer and key arming of a port (R159 to R168). Where the spec leaves a point open, its clauses
follow the model's choices: log entries 28 to 30, 106, 109, 111 and 163. -/
def Obligations.LinkPowerTimeKeyCommandsComplete : Prop :=
  ∀ s : State, s.Inv →
    (∀ r (p : Fin 8), s.hub.Accepts r OPT.PM_GO p → s.hub.rd OPT.STAT_STATE p = 3 → s.hub.on OPT.hPm p = false →
      Completes (.pmRequest r p) s fun g => g.rd OPT.hPm p = 1 ∧ g.rd OPT.PM_STATE p = 1 ∧
        g.rd OPT.hPmL2 p = s.hub.rd OPT.PM_TARGET p % 2 ^ 64) ∧
    (∀ p : Fin 8, s.hub.portOn p = true → s.hub.rd OPT.hPm p = 1 → s.hub.drained p = true → s.hub.lanesBusy p = false →
      Completes (.pmReqSend p) s fun g => g.rd OPT.hPm p = 2 ∧ g.rd OPT.hPmTok p = (s.hub.rd OPT.hTok p + 1) % 2 ^ 16 ∧
        Tab.get [] p.val g.lmcQ = Tab.get [] p.val s.hub.lmcQ ++
          [{ typ := 5, tok := (s.hub.rd OPT.hTok p + 1) % 2 ^ 16, payload := natLe 1 (s.hub.rd OPT.hPmL2 p) }]) ∧
    (∀ (p : Fin 8) tok l2, s.hub.portOn p = true → s.hub.rd OPT.STAT_STATE p = 3 →
      Completes (.pmReq p tok l2) s fun g =>
        (s.hub.on (if l2 then OPT.CFG_PM_L2_OK else OPT.CFG_PM_L1_OK) p = true →
          g.rd OPT.hPmPart p = 1 ∧ g.rd OPT.PM_STATE p = 1 ∧ g.rd OPT.hPmPartL2 p = bnat l2) ∧
        (s.hub.on (if l2 then OPT.CFG_PM_L2_OK else OPT.CFG_PM_L1_OK) p = false →
          Tab.get [] p.val g.lmcQ = Tab.get [] p.val s.hub.lmcQ ++
            [{ typ := 6, tok := tok, payload := natLe 1 1 ++ natLe 1 (bnat l2) }])) ∧
    (∀ p : Fin 8, s.hub.portOn p = true → s.hub.rd OPT.hPmPart p = 1 → s.hub.drained p = true → s.hub.lanesBusy p = false →
      Completes (.pmAckSend p) s fun g => g.rd OPT.hPmPart p = 2 ∧ Tab.get [] p.val g.lmcQ = Tab.get [] p.val s.hub.lmcQ ++
        [{ typ := 6, tok := s.hub.rd OPT.hPmPartTok p, payload := natLe 1 0 ++ natLe 1 (s.hub.pmLevel p (s.hub.rd OPT.hPmPartL2 p)) }]) ∧
    (∀ (p : Fin 8) tok status state, s.hub.portOn p = true → s.hub.rd OPT.STAT_STATE p = 3 → s.hub.rd OPT.hPm p = 2 →
      s.hub.rd OPT.hPmTok p = tok →
      Completes (.pmAck p tok status state) s fun g => (status = 0 → g.rd OPT.hPm p = 3) ∧
        (status ≠ 0 → g.rd OPT.hPm p = 0 ∧ g.bit HDR.ISTAT 7 (0x10 + p) = true)) ∧
    (∀ p : Fin 8, s.hub.portOn p = true → s.hub.rd OPT.hPm p = 2 →
      Completes (.pmTimeout p) s fun g => g.rd OPT.hPm p = 0 ∧ g.bit HDR.ESTAT 10 (0x10 + p) = true) ∧
    (∀ r (p : Fin 8), s.hub.Accepts r OPT.TIME_GO p → s.hub.linkUp p = true →
      Completes (.timeMarker (some r) p) s fun g => g.rd OPT.hMarkPend p = 1) ∧
    (∀ p : Fin 8, s.hub.linkUp p = true → s.hub.on OPT.TIME_PERIOD_US p = true →
      Completes (.timeMarker none p) s fun g => g.rd OPT.hMarkPend p = 1) ∧
    (∀ (p : Fin 8) payload, s.hub.linkUp p = true → s.hub.rd OPT.hMarkTime p (leAt (padTo 64 payload) 16 2 % 4096) ≠ 0 →
      s.hub.rd OPT.hRxMarkTime p (leAt (padTo 64 payload) 0 2 % 4096) ≠ 0 →
      Completes (.time p payload) s fun g =>
        let t1 : Int := s.hub.rd OPT.hMarkTime p (leAt (padTo 64 payload) 16 2 % 4096) - 1
        let t2 : Int := leAt (padTo 64 payload) 24 8
        let t3 : Int := leAt (padTo 64 payload) 8 8
        let t4 : Int := s.hub.rd OPT.hRxMarkTime p (leAt (padTo 64 payload) 0 2 % 4096) - 1
        g.rd OPT.OFFSET_NS p = Hub.satSigned32 (((t2 - t1) - (t4 - t3)) / 2) ∧
        g.rd OPT.DELAY_NS p = Hub.satSigned32 (((t2 - t1) + (t4 - t3)) / 2) ∧ g.bit HDR.ISTAT 8 (0x10 + p) = true) ∧
    (∀ r (p : Fin 8), s.hub.Accepts r OPT.CRYPT_ARM p → s.hub.rd OPT.STAT_STATE p = 2 →
      Completes (.cryptArm r p) s fun g =>
        (s.hub.armable p (s.hub.keySlot p true 0) = false → g.bit HDR.ESTAT 3 (0x10 + p) = true) ∧
        (s.hub.armable p (s.hub.keySlot p true 0) = true → g.rd OPT.hKeySpan p = (s.hub.rd OPT.hTxExt p / 16 + 1) % 2 ^ 64 ∧
          g.rd OPT.hKeyTok p = (s.hub.rd OPT.hTok p + 1) % 2 ^ 16 + 1)) ∧
    (∀ (p : Fin 8) tok phase span, s.hub.linkUp p = true → s.hub.armable p (s.hub.keySlot p false (phase % 2)) = true →
      s.hub.rd OPT.hRxExt p ≤ 16 * span →
      Completes (.key p tok phase span) s fun g =>
        (s.hub.on OPT.hRxArm p = true → s.hub.rd OPT.STAT_STATE p = 3 → g.rd OPT.hRxRoll p = (span + 1) % 2 ^ 64) ∧
        (s.hub.on OPT.hRxArm p = false → g.rd OPT.hRxArm p = (span + 1) % 2 ^ 64 ∧ g.rd OPT.STAT_RXPH p = phase % 2)) ∧
    (∀ (p : Fin 8) tok phase status, s.hub.linkUp p = true → s.hub.rd OPT.hKeyTok p = tok + 1 →
      Completes (.keyack p tok phase status) s fun g => g.rd OPT.hKeyTok p = 0 ∧
        (s.hub.on OPT.CRYPT_ROLL_BUSY p = true → status = 0 → g.rd OPT.hRoll p = 1) ∧
        (s.hub.on OPT.CRYPT_ROLL_BUSY p = false → status = 0 → g.rd OPT.hTxArm p = (s.hub.rd OPT.hKeySpan p + 1) % 2 ^ 64) ∧
        (s.hub.on OPT.CRYPT_ROLL_BUSY p = true → status ≠ 0 → g.rd OPT.CRYPT_ROLL_BUSY p = 0)) ∧
    (∀ r (p : Fin 8), s.hub.Accepts r OPT.CRYPT_ROLL p → s.hub.rd OPT.STAT_STATE p = 3 → s.hub.on OPT.STAT_ENC p = true →
      s.hub.on OPT.CRYPT_ROLL_BUSY p = false → s.hub.armable p (s.hub.keySlot p true (1 - s.hub.rd OPT.STAT_TXPH p)) = true →
      Completes (.cryptRoll r p) s fun g => g.rd OPT.CRYPT_ROLL_BUSY p = 1 ∧
        g.rd OPT.hKeySpan p = (s.hub.rd OPT.hTxExt p / 16 + 64) % 2 ^ 64)

/-- Link frames: the frame group, frames received, replay and the span tag (R136, R138, R154, R155, R165). Where the spec
leaves a point open, its clauses follow the model's choices: log entries 27, 28, 32 and 110. -/
def Obligations.LinkFrameCommandsComplete : Prop :=
  ∀ s : State, s.Inv →
    (∀ p : Fin 8, s.hub.portOn p = true → 1 ≤ s.hub.rd OPT.STAT_STATE p → s.hub.rd OPT.STAT_STATE p ≤ 3 →
      s.hub.rd OPT.hTxExt p + 8 < 2 ^ 36 →
      Completes (.frameGroupSend p) s fun g => g.rd OPT.hGroups p = (s.hub.rd OPT.hGroups p + 1) % 2 ^ 64 ∧
        g.rd OPT.STAT_STATE p = s.hub.rd OPT.STAT_STATE p) ∧
    (∀ (p : Fin 8) (k : Fin 4) f, s.hub.portOn p = true → 1 ≤ s.hub.rd OPT.STAT_STATE p → s.hub.rd OPT.STAT_STATE p ≤ 3 →
      (s.hub.rd OPT.hRxSet p).testBit (s.hub.logical p k) = true → (s.hub.lane (4 * p + k) = 5 ∨ s.hub.lane (4 * p + k) = 6) →
      Completes (.linkFrameReceived p k f) s fun g =>
        (frameOk f = false → g.rd OPT.CNT_CRC_COUNT p = min (2 ^ 32 - 1) (s.hub.rd OPT.CNT_CRC_COUNT p + 1) ∧
          (s.hub.rd OPT.hNakFor p ≠ s.hub.rd OPT.hRxExt p + 1 → g.rd OPT.hNakPend p = 1)) ∧
        (frameOk f = true → g.rd OPT.STAT_SF_RX p = bnat f.sf ∧ g.rd OPT.STAT_CA_RX p = bnat f.ca ∧
          (f.ncell ≠ 0 → f.seq % 1024 = s.hub.rd OPT.hRxExt p % 1024 →
            g.rd OPT.CNT_RXFR_COUNT p = min (2 ^ 32 - 1) (s.hub.rd OPT.CNT_RXFR_COUNT p + 1) ∧
            g.rd OPT.hRxExt p = (s.hub.rd OPT.hRxExt p + 1) % 2 ^ 64))) ∧
    (∀ (p : Fin 8) f rest, s.hub.portOn p = true → Tab.get [] p.val s.hub.replay = f :: rest →
      Completes (.replayTimeout p) s fun g => g.rd OPT.hResend p = 1 ∧ g.rd OPT.hResendAt p = f.ext % 2 ^ 64 ∧
        g.rd OPT.CNT_RTO_COUNT p = min (2 ^ 32 - 1) (s.hub.rd OPT.CNT_RTO_COUNT p + 1)) ∧
    (∀ (p : Fin 8) bytes f rest, s.hub.portOn p = true → Tab.get [] p.val s.hub.spanRx = f :: rest →
      16 ≤ ((f :: rest).filter fun x => x.ext / 16 == f.ext / 16).length → s.hub.rd OPT.hTagFail p < 3 →
      Completes (.tag p bytes) s fun g =>
        let fs := (f :: rest).filter fun x => x.ext / 16 == f.ext / 16
        if padTo 16 (Config.gcmTag (s.hub.spanKey p false (f.ext / 16)) (spanIv (s.hub.rd OPT.RXSALT_SALT p) (f.ext / 16))
            (fs.flatMap fun x => frameAad x.ext x.ncell x.lmc) (fs.flatMap fun x => spanBytes x.ext x.slots)) = padTo 16 bytes then
          g.rd OPT.hTagFail p = 0 ∧ g.rd OPT.hAckExt p = (16 * (f.ext / 16) + 16) % 2 ^ 64 ∧ g.rd OPT.hAckPend p = 1
        else
          g.rd OPT.hTagFail p = s.hub.rd OPT.hTagFail p + 1 ∧ g.rd OPT.hRxExt p = 16 * (f.ext / 16) % 2 ^ 64 ∧
            g.rd OPT.CNT_AUTH_COUNT p = min (2 ^ 32 - 1) (s.hub.rd OPT.CNT_AUTH_COUNT p + 1))

/-- Cells, the shared buffer, the schedulers and the meters (R214 to R217, R240, R244, R251, R252, R291, R299, R301, R306,
R311). Where the spec leaves a point open, its clauses follow the model's choices: log entries 35, 96, 134 to 136 and 139. -/
def Obligations.BufferCommandsComplete : Prop :=
  ∀ s : State, s.Inv →
    (∀ (pt : Fin 14) c i t, s.hub.mayEnter pt = true → s.hub.released pt c.vc = true → s.hub.bit FIL.hParity (s.hub.attachIn pt c.tid) = false →
      cellBad c false = false → Tab.find (s.hub.openKey pt c) s.hub.opens = none → 0x4000 ≤ c.tid → c.poison = false →
      s.hub.tunFind c.tid = some i → (s.hub.tun i).state = 2 → (s.hub.tun i).kind = c.kind →
      (s.hub.tun i).ingress.testBit pt = true → (8 ≤ pt.val → (s.hub.tun i).source = false) → (s.hub.tun i).merge = false →
      (s.hub.tun i).meter = 0x1FFF → pointsOf (s.hub.tun i).egress = [t] →
      s.hub.admits c.colour (queueOf t (s.hub.tun i).qclass) = true → s.hub.on SWB.DESC_FREE = true →
      s.hub.on SWB.QENT_FREE = true → s.hub.on SWB.FREE_COUNT = true →
      Completes (.cellIngress pt false c) s fun g =>
        g.pktNext = s.hub.pktNext + 1 ∧ g.rd SWB.DESC_FREE = (s.hub.rd SWB.DESC_FREE - 1) % 2 ^ SWB.DESC_FREE.w ∧
        ((g.pkt s.hub.pktNext).any fun p => p.tid == c.tid && p.kind == c.kind && p.ingress == pt.val &&
          p.cls == (s.hub.tun i).qclass && p.complete == c.eop && p.cells.map (·.data) == [padTo 64 c.payload]) = true ∧
        g.queue (queueOf t (s.hub.tun i).qclass) = s.hub.queue (queueOf t (s.hub.tun i).qclass) ++ [s.hub.pktNext]) ∧
    (∀ (pt : Fin 14) x, s.hub.live (0x50 + pt) = true → s.hub.up 0x48 = true →
      (8 ≤ pt.val ∨ (s.hub.portUp pt = true ∧ s.hub.on OPT.hPmHold pt = false ∧ (Tab.get [] pt.val s.hub.egOut).length < 32)) →
      s.hub.on HDR.PSTAT_CPEND (0x50 + pt) = false →
      (∀ c : Nat, c < 16 → (s.hub.queue (queueOf pt c)).all (fun id => s.hub.targets id pt) = true) → s.hub.cands pt (s.hub.heads pt) = [x] →
      (x.tgt.started = true ∨ (s.hub.tooOld x.pkt = false ∧ (pt.val = 13 → x.pkt.kind ≠ 0))) →
      Completes (.egressSelect pt) s fun g =>
        (Tab.get [] pt.val g.egOut).map (fun c => (c.cls, c.cell.tid, c.cell.kind, c.cell.sop)) =
          (Tab.get [] pt.val s.hub.egOut).map (fun c => (c.cls, c.cell.tid, c.cell.kind, c.cell.sop)) ++
            [(x.cls, x.pkt.tid, x.pkt.kind, !x.tgt.started)] ∧
        (8 ≤ pt.val → g.rd SCH.QCELLS_COUNT pt x.cls = s.hub.oneMore SCH.QCELLS_COUNT pt x.cls)) ∧
    (∀ pt id p, s.hub.up 0x4A = true → p.cls < 16 → s.hub.queues = [(queueOf pt p.cls, [id])] → s.hub.pkt id = some p →
      (p.tgts.any fun t => t.pt == pt) = true → (p.tgts.all fun t => !(t.pt == pt && t.started)) = true →
      s.hub.tooOld p = true →
      Completes .ageSweep s fun g => g.queues = [] ∧ g.bit HDR.ISTAT 1 0x4A = true ∧
        g.rd AGE.LASTDROP_TID = p.tid % 2 ^ AGE.LASTDROP_TID.w ∧
        g.rd AGE.CNT_DROPS_COUNT = s.hub.oneMore AGE.CNT_DROPS_COUNT) ∧
    (∀ (bank : Fin 64) idle flips wm, s.hub.up 0x48 = true → s.hub.on SWB.SCRUB_EN = true →
      s.hub.scrubTakes bank idle = true →
      ((s.hub.holder (s.hub.rd SWB.hScrubRow 0 bank * 64 + bank.val)).any fun x => x.2.1.stuck) = false →
      Completes (.scrubSlot bank idle flips wm) s fun g => (idle = true → g.rd SWB.BSTAT_SCRUB_FORCED 0 bank = 0) ∧
        (bits flips 0 2 = 1 ∧ bits flips 4 2 = 0 → g.rd SWB.CNT_CE_COUNT = s.hub.oneMore SWB.CNT_CE_COUNT) ∧
        (2 ≤ bits flips 0 2 → g.rd SWB.CNT_UE_COUNT = s.hub.oneMore SWB.CNT_UE_COUNT ∧ g.bit HDR.ESTAT 0 0x48 = true) ∧
        (bits flips 0 2 = 0 ∧ s.hub.holder (s.hub.rd SWB.hScrubRow 0 bank * 64 + bank.val) = none ∧ bits flips 4 2 = 1 →
          g.rd SWB.CNT_CE_COUNT = s.hub.oneMore SWB.CNT_CE_COUNT) ∧
        (max (bits flips 2 2) (bnat (decide (2 ≤ bits flips 4 2))) = 1 ∧ bits flips 6 2 = 0 →
          g.rd SWB.CNT_LINK_CE_COUNT = s.hub.oneMore SWB.CNT_LINK_CE_COUNT) ∧
        (2 ≤ bits flips 2 2 → g.bit HDR.ESTAT 1 0x48 = true) ∧
        g.rd SWB.hForeground 0 bank = 0 ∧
        ((List.range 64).any (fun b => b != bank.val && s.hub.rd SWB.hScrubRow 0 b != 6144) = true →
          g.rd SWB.hScrubRow 0 bank = s.hub.rd SWB.hScrubRow 0 bank + 1)) ∧
    (∀ bank : Fin 64, s.hub.up 0x48 = true → s.hub.on SWB.SCRUB_EN = true →
      Completes (.scrubForcedEntry bank) s fun g => g.rd SWB.BSTAT_SCRUB_FORCED 0 bank = 1) ∧
    (s.hub.on SWB.hWiping = true → s.hub.domOn 2 = true →
      Completes .bufferWipeDone s fun g => g.rd SWB.hWiping = 0 ∧ g.rd HDR.PSTAT_READY 0x48 = 1 ∧ g.bit HDR.ISTAT 0 0x48 = true) ∧
    (∀ r v, s.hub.Grants r THR.QCFG_ALPHA 0 → queueOf (s.hub.rd THR.QSEL_POINT) (s.hub.rd THR.QSEL_CLASS) < 224 →
      (bits v 0 4 < 11 ∨ bits v 0 4 = 15) → s.hub.rd THR.RESV_CELLS -
        s.hub.rd THR.QCFG_MIN 0 (queueOf (s.hub.rd THR.QSEL_POINT) (s.hub.rd THR.QSEL_CLASS)) + bits v 16 12 +
        s.hub.rd THR.HEADROOM_CELLS ≤ 196608 →
      Completes (.qcfgWrite r v) s fun g =>
        let q := queueOf (s.hub.rd THR.QSEL_POINT) (s.hub.rd THR.QSEL_CLASS)
        g.rd THR.QCFG_ALPHA 0 q = bits v 0 4 ∧ g.rd THR.QCFG_Y_SHIFT 0 q = bits v 4 3 ∧ g.rd THR.QCFG_R_SHIFT 0 q = bits v 8 3 ∧
        g.rd THR.QCFG_MIN 0 q = bits v 16 12) ∧
    (∀ pt : Fin 14, s.hub.up (0x50 + pt) = true →
      Completes (.wheelSlot pt) s fun g => g.rd SCH.WHEEL_POS pt = (s.hub.rd SCH.WHEEL_POS pt + 1) % 1024 ∧
        (g.rd SCH.WHEEL_POS pt ≠ 0 → ∀ c : Nat, c < 16 → s.hub.rd SCH.NETSLOT_SLOT pt c = g.rd SCH.WHEEL_POS pt →
          g.rd SCH.QSTAT_WHEEL pt c = 0)) ∧
    (∀ r (pt : Fin 14) v, s.hub.Grants r SCH.WHEEL_GRAN pt → s.hub.on HDR.PCTL_EN (0x50 + pt) = false → bits v 0 4 < 11 →
      Completes (.wheelGranWrite r pt v) s fun g => g.rd SCH.WHEEL_GRAN pt = bits v 0 4) ∧
    (∀ r, s.hub.Accepts r MTR.MINIT_GO 0 → s.hub.rd MTR.MSEL_METER < 8191 →
      Completes (.meterInit r) s fun g => Tab.get {} (s.hub.rd MTR.MSEL_METER) g.meters =
        { tc := if s.hub.rd MTR.MCIR_CT 0 (s.hub.rd MTR.MSEL_METER) = 0 then 0 else s.hub.mcbs (s.hub.rd MTR.MSEL_METER),
          tp := s.hub.mpbs (s.hub.rd MTR.MSEL_METER), at_ := s.hub.cyc }) ∧
    (∀ r, s.hub.Accepts r MTR.MCLR_GO 0 → s.hub.rd MTR.MSEL_METER < 8191 →
      Completes (.meterClear r) s fun g => g.rd MTR.MCNT_G_COUNT 0 (s.hub.rd MTR.MSEL_METER) = 0 ∧
        g.rd MTR.MCNT_Y_COUNT 0 (s.hub.rd MTR.MSEL_METER) = 0 ∧ g.rd MTR.MCNT_R_COUNT 0 (s.hub.rd MTR.MSEL_METER) = 0 ∧
        g.rd MTR.MCNT_DROP_COUNT 0 (s.hub.rd MTR.MSEL_METER) = 0)

/-- The tunnel table, the routing generation, merge contexts and remote register access (R186, R192 to R198, R204). Where the
spec leaves a point open, its clauses follow the model's choices: log entries 15, 125 to 128, 130 and 131. -/
def Obligations.TunnelCommandsComplete : Prop :=
  ∀ s : State, s.Inv →
    (∀ src tok entry i, s.hub.fwOn = true → s.hub.up 0x40 = true → s.hub.isCrown src = true →
      s.hub.tunFind (Ent.tid entry) = none →
      (Hub.tunWays (Ent.tid entry)).find? (fun j => (s.hub.tun j).state == 0) = some i →
      s.hub.entBad i (pendingEntry entry) = false → Ent.merge (pendingEntry entry) = false →
      Completes (.tunSetup src tok entry) s fun g => (g.tun i).state = 1 ∧ (g.tun i).tid = Ent.tid entry ∧
        (g.tun i).egress = Ent.egress entry ∧ g.ctlOut = s.hub.ctlOut ++ [⟨0x13, true, src, tok,
          natLe 1 0 ++ natLe 1 0x10 ++ natLe 2 0 ++ natLe 4 (Ent.tid entry) ++ natLe 2 i⟩]) ∧
    (∀ src tok tid i, s.hub.fwOn = true → s.hub.up 0x40 = true → s.hub.isCrown src = true → s.hub.tunFind tid = some i →
      (s.hub.tun i).state = 1 → (s.hub.tun i).egress ≠ 0 → (s.hub.tun i).ingress ≠ 0 →
      Completes (.tunOpen src tok tid) s fun g => (g.tun i).state = 2 ∧ g.ctlOut = s.hub.ctlOut ++ [⟨0x13, true, src, tok,
          natLe 1 0 ++ natLe 1 0x11 ++ natLe 2 0 ++ natLe 4 tid ++ natLe 2 i⟩]) ∧
    (∀ src tok tid i, s.hub.fwOn = true → s.hub.up 0x40 = true → s.hub.isCrown src = true → s.hub.tunFind tid = some i →
      Completes (.tunClose src tok tid) s fun g => ((s.hub.tun i).state = 2 → (g.tun i).state = 3) ∧
        ((s.hub.tun i).state = 1 → (g.tun i).state = 0) ∧ g.ctlOut = s.hub.ctlOut ++ [⟨0x13, true, src, tok,
          natLe 1 0 ++ natLe 1 0x12 ++ natLe 2 0 ++ natLe 4 tid ++ natLe 2 i⟩]) ∧
    (∀ src tok status typ tid idx a, s.hub.fwOn = true → Tab.find tok s.hub.asks = some a → a.msg.dst = src →
      a.msg.typ = typ → a.chg = none →
      Completes (.tunAck src tok status typ tid idx) s fun g =>
        g.asks = if typ = 0x10 ∧ status = 3 ∧ a.tries < 3 then s.hub.asks else Tab.del tok s.hub.asks) ∧
    (∀ tok a, s.hub.fwOn = true → s.hub.domOn 2 = true → Tab.find tok s.hub.asks = some a → a.tries < 3 →
      Completes (.tunnelMsgRetry tok) s fun g => g.ctlOut = s.hub.ctlOut ++ [a.msg] ∧
        Tab.find tok g.asks = some { a with tries := a.tries + 1 }) ∧
    (∀ idx : Fin 8192, s.hub.up 0x40 = true → (s.hub.tun idx).state = 1 →
      Completes (.pendingTimeout idx) s fun g => (g.tun idx).state = 0 ∧ g.bit HDR.ISTAT 1 0x40 = true ∧
        g.rd TUN.CNT_EXPIRE_COUNT = s.hub.oneMore TUN.CNT_EXPIRE_COUNT) ∧
    (∀ idx : Fin 8192, s.hub.up 0x40 = true → (s.hub.tun idx).state = 3 →
      Completes (.drainingTimeout idx) s fun g => (g.tun idx).state = 0) ∧
    (∀ r v, s.hub.Grants r RTE.GEN_CUR 0 →
      Completes (.routeGenSwitch r v) s fun g => g.rd RTE.GEN_CUR = v % 2 ^ 16 ∧ g.tab = s.hub.tab) ∧
    (∀ r, s.hub.Accepts r TWN.CCTL_INIT 0 →
      Completes (.mergeInit r) s fun g => g.rd TWN.CSTAT_FIRST 0 (s.hub.rd TWN.CSEL_CTX) = 1 ∧
        g.rd TWN.CSTAT_INPROG 0 (s.hub.rd TWN.CSEL_CTX) = 0 ∧ g.rd TWN.CNT_A_COUNT 0 (s.hub.rd TWN.CSEL_CTX) = 0 ∧
        g.rd TWN.CNT_B_COUNT 0 (s.hub.rd TWN.CSEL_CTX) = 0 ∧ g.rd TWN.CNT_STALE_COUNT 0 (s.hub.rd TWN.CSEL_CTX) = 0) ∧
    (∀ (ctx : Fin 1024) pathB, s.hub.up 0x69 = true → s.hub.on TWN.CCFG_ACTIVE 0 ctx = true →
      Completes (.pathSilent ctx pathB) s fun g => g.bit TWN.hQuiet (bnat pathB) 0 ctx = true ∧
        (s.hub.bit TWN.hQuiet (bnat (!pathB)) 0 ctx = false → s.hub.bit TWN.hHeard (bnat (!pathB)) 0 ctx = true →
          g.bit HDR.ISTAT 0 0x69 = true ∧ g.rd TWN.SILENT_FIRST_VALID ≠ 0 ∧
          g.rd (if pathB then TWN.CSTAT_B_SILENT else TWN.CSTAT_A_SILENT) 0 ctx = 1)) ∧
    (∀ r v, s.hub.Accepts r TUN.RRQ_CTL_GO 0 → s.hub.rd TUN.RRQ_CTL_DONE ≠ 1 →
      Completes (.rrqSend r v) s fun g => g.rd TUN.RRQ_CTL_DONE = 1 ∧
        g.rd TUN.RRQ_STAT_TOKEN = (s.hub.rd TUN.hTok + 1) % 2 ^ 16 ∧
        g.ctlOut = s.hub.ctlOut ++ [⟨if bits v 1 1 = 1 then 2 else 1, false, s.hub.rd TUN.RRQ_NODE_NODE,
          (s.hub.rd TUN.hTok + 1) % 2 ^ 16, natLe 4 (s.hub.rd TUN.RRQ_ADDR_ADDR + bits v 2 4 * 2 ^ 24) ++ natLe 4 0 ++
          ofWords (if bits v 1 1 = 1 then (List.range 12).map fun i =>
            if i < bits v 2 4 then s.hub.rd (TUN.RRQ_DATA.word i) else 0 else [])⟩]) ∧
    (∀ src tok status failidx count data, s.hub.up 0x40 = true → s.hub.rd TUN.RRQ_CTL_DONE = 1 →
      tok % 2 ^ 16 = s.hub.rd TUN.RRQ_STAT_TOKEN →
      Completes (.regRsp src tok status failidx count data) s fun g =>
        g.rd TUN.RRQ_STAT_STATUS = status % 2 ^ TUN.RRQ_STAT_STATUS.w ∧ g.bit HDR.ISTAT 0 0x40 = true ∧
        (s.hub.settles = [] → g.rd TUN.RRQ_CTL_DONE = if status = 0 then 2 else 3) ∧
        (s.hub.settles = [] → s.hub.on TUN.hRrqWr = false → ∀ k : Nat, k < 12 → k < count → g.rd (TUN.RRQ_DATA.word k) = data.getD k 0 % 2 ^ 32)) ∧
    (s.hub.up 0x40 = true → s.hub.rd TUN.RRQ_CTL_DONE = 1 →
      Completes .rrqTimeout s fun g => (s.hub.settles = [] → g.rd TUN.RRQ_CTL_DONE = 3) ∧ g.rd TUN.RRQ_STAT_STATUS = 0xFF ∧ g.bit HDR.ESTAT 3 0x40 = true)

/-- The carat allotment engine (R266, R270 to R283, R335). Where the spec leaves a point open, its clauses follow the model's
choices: log entries 15, 124, 126, 132 and 149. -/
def Obligations.CaratCommandsComplete : Prop :=
  ∀ s : State, s.Inv →
    (∀ src tok tid txn amount egress i, s.hub.up 0x61 = true → s.hub.isCrown src = true → s.hub.tunFind tid = some i →
      (s.hub.tun i).state ≠ 3 → (egress = 0 ∨ egress = (s.hub.tun i).egress) → s.hub.rd CRT.RREC_COMMITTED 0 i ≤ amount →
      amount ≤ 4095 → s.hub.rd CRT.RREC_STATE 0 i ≠ 2 → s.hub.rd CRT.RTXN_TXN 0 i ≠ txn % 2 ^ 16 →
      (amount ≤ s.hub.rd CRT.RREC_TARGET 0 i ∨ s.hub.fits i (s.hub.rd CRT.RREC_TARGET 0 i) amount = none) →
      Completes (.reserve src tok tid txn amount egress) s fun g => g.rd CRT.RREC_TARGET 0 i = amount ∧
        g.rd CRT.RREC_COMMITTED 0 i = s.hub.rd CRT.RREC_COMMITTED 0 i % 2 ^ CRT.RREC_COMMITTED.w ∧
        g.rd CRT.RTXN_TXN 0 i = txn % 2 ^ 16 ∧ g.rd CRT.CNT_RESERVE_COUNT = s.hub.oneMore CRT.CNT_RESERVE_COUNT ∧
        (amount ≠ s.hub.rd CRT.RREC_COMMITTED 0 i → g.rd CRT.RREC_STATE 0 i = 2) ∧
        g.ctlOut.getLast? = some (crtOk g src tok 0x20 tid txn i)) ∧
    (∀ src tok tid txn i, s.hub.up 0x61 = true → s.hub.isCrown src = true → s.hub.tunFind tid = some i →
      (s.hub.tun i).state ≠ 3 → s.hub.rd CRT.RREC_STATE 0 i = 2 → s.hub.rd CRT.RTXN_TXN 0 i = txn % 2 ^ 16 →
      Completes (.caratCommit src tok tid txn) s fun g => g.rd CRT.RREC_STATE 0 i = 1 ∧
        g.rd CRT.RREC_COMMITTED 0 i = s.hub.rd CRT.RREC_TARGET 0 i % 2 ^ CRT.RREC_COMMITTED.w ∧
        g.rd CRT.CNT_COMMIT_COUNT = s.hub.oneMore CRT.CNT_COMMIT_COUNT ∧
        g.ctlOut.getLast? = some (crtOk g src tok 0x21 tid txn i)) ∧
    (∀ src tok tid txn i, s.hub.up 0x61 = true → s.hub.isCrown src = true → s.hub.tunFind tid = some i →
      s.hub.rd CRT.RREC_STATE 0 i = 2 → s.hub.rd CRT.RTXN_TXN 0 i = txn % 2 ^ 16 →
      Completes (.abort src tok tid txn) s fun g =>
        g.rd CRT.RREC_STATE 0 i = (if s.hub.rd CRT.RREC_COMMITTED 0 i = 0 then 0 else 1) ∧
        g.rd CRT.RREC_TARGET 0 i = s.hub.rd CRT.RREC_COMMITTED 0 i % 2 ^ CRT.RREC_TARGET.w ∧
        g.rd CRT.CNT_ABORT_COUNT = s.hub.oneMore CRT.CNT_ABORT_COUNT ∧
        g.ctlOut.getLast? = some (crtOk g src tok 0x22 tid txn i)) ∧
    (∀ src tok tid txn amount i, s.hub.up 0x61 = true → s.hub.isCrown src = true → s.hub.tunFind tid = some i →
      amount ≤ s.hub.rd CRT.RREC_COMMITTED 0 i →
      Completes (.decrease src tok tid txn amount) s fun g =>
        g.rd CRT.RREC_COMMITTED 0 i = amount % 2 ^ CRT.RREC_COMMITTED.w ∧
        g.rd CRT.RREC_TARGET 0 i = amount % 2 ^ CRT.RREC_TARGET.w ∧ g.rd CRT.RTXN_TXN 0 i = txn % 2 ^ 16 ∧
        g.rd CRT.CNT_DECREASE_COUNT = s.hub.oneMore CRT.CNT_DECREASE_COUNT ∧
        g.ctlOut.getLast? = some (crtOk g src tok 0x23 tid txn i)) ∧
    (∀ src tok tid txn i, s.hub.up 0x61 = true → s.hub.isCrown src = true → s.hub.tunFind tid = some i →
      Completes (.release src tok tid txn) s fun g => g.rd CRT.RREC_COMMITTED 0 i = 0 ∧ g.rd CRT.RREC_TARGET 0 i = 0 ∧
        g.rd CRT.RREC_STATE 0 i = 0 ∧ g.ctlOut.getLast? = some (crtOk g src tok 0x24 tid txn i)) ∧
    (∀ src tok status typ tid txn committed a, s.hub.fwOn = true → Tab.find tok s.hub.asks = some a → a.msg.dst = src →
      a.msg.typ = typ → a.chg = none →
      Completes (.crtAck src tok status typ tid txn committed) s fun g =>
        g.asks = (if typ = 0x10 ∧ status = 3 ∧ a.tries < 3 then s.hub.asks else Tab.del tok s.hub.asks) ∧
        (status = 0 → g.unrec =
          s.hub.unrec.filter fun u => !(u.hop == src && u.typ == typ && u.tid == tid && u.txn == txn))) ∧
    (∀ tok a, s.hub.fwOn = true → s.hub.domOn 2 = true → Tab.find tok s.hub.asks = some a → a.chg = none →
      Completes (.caratMsgRetry tok) s fun g =>
        (a.tries < 3 → g.ctlOut = s.hub.ctlOut ++ [a.msg] ∧ Tab.find tok g.asks = some { a with tries := a.tries + 1 }) ∧
        (3 ≤ a.tries → a.msg.typ = 0x23 ∨ a.msg.typ = 0x24 → g.unrec = s.hub.unrec ++
          [⟨a.msg.dst, a.msg.typ, leAt a.msg.body 0 4, leAt a.msg.body 4 2, leAt a.msg.body 6 2⟩])) ∧
    (∀ idx : Fin 8192, s.hub.up 0x61 = true → s.hub.rd CRT.RREC_STATE 0 idx = 2 →
      Completes (.holdExpiry idx) s fun g =>
        g.rd CRT.RREC_STATE 0 idx = (if s.hub.rd CRT.RREC_COMMITTED 0 idx = 0 then 0 else 1) ∧
        g.rd CRT.RREC_TARGET 0 idx = s.hub.rd CRT.RREC_COMMITTED 0 idx % 2 ^ CRT.RREC_TARGET.w ∧
        g.rd CRT.CNT_EXPIRE_COUNT = s.hub.oneMore CRT.CNT_EXPIRE_COUNT ∧ g.bit HDR.ESTAT 2 0x61 = true ∧
        g.bit HDR.ISTAT 1 0x61 = true) ∧
    (∀ idx : Fin 8192, s.hub.up 0x61 = true → (s.hub.tun idx).state = 0 → s.hub.on CRT.RREC_STATE 0 idx = true →
      Completes (.orphanRelease idx) s fun g => g.rd CRT.RREC_COMMITTED 0 idx = 0 ∧ g.rd CRT.RREC_STATE 0 idx = 0 ∧
        g.rd CRT.CNT_ORPHAN_COUNT = s.hub.oneMore CRT.CNT_ORPHAN_COUNT ∧ g.bit HDR.ESTAT 3 0x61 = true ∧
        g.bit HDR.ISTAT 3 0x61 = true) ∧
    (∀ u, s.hub.fwOn = true → s.hub.rd CAS.STAT_CROLE = 1 → s.hub.unrec = [u] → s.hub.settles = [] → s.hub.up 0x40 = true →
      s.hub.rd TUN.RRQ_CTL_DONE ≠ 1 →
      Completes .unreconciledCheck s fun g => g.unrec = [u] ∧
        g.settles = [{ tid := u.tid, txn := u.txn, src := u.hop, hops := [u.hop], unrec := some u }] ∧
        g.rd TUN.RRQ_CTL_DONE = 1 ∧ g.ctlOut = s.hub.ctlOut ++ [⟨1, false, u.hop % 2 ^ 14, (s.hub.rd TUN.hTok + 1) % 2 ^ 16,
          natLe 4 (tunAddr (4 * tunSet u.tid) + 2 ^ 24) ++ natLe 4 0⟩])

/-- Discovery, the crown and the standby (R317 to R330, R335). Where the spec leaves a point open, its clauses follow the
model's choices: log entries 114 to 116, 118, 132 and 133. -/
def Obligations.CascadeCommandsComplete : Prop :=
  ∀ s : State, s.Inv →
    (∀ p : Nat, s.hub.casOn = true → s.hub.portUp p = true → p < 8 →
      Completes .neighbourSend s fun g => Tab.get [] p s.hub.lmcQ ++ [⟨0x11, 0, s.hub.refreshBest.nbrPayload p, false⟩] <+:
        Tab.get [] p g.lmcQ) ∧
    (∀ (p : Fin 8) payload, s.hub.casOn = true → s.hub.portUp p = true →
      Completes (.neighbour p payload) s fun g => Tab.find p.val g.nbrs = some (parseNbr payload) ∧
        g.rd CAS.NBR_STORED 0 p = 1 ∧ g.rd CAS.NBR_TIER 0 p = (parseNbr payload).tier ∧
        g.rd CAS.NBR_NODE 0 p = (parseNbr payload).node ∧ g.rd CAS.CNT_NBR_COUNT = s.hub.oneMore CAS.CNT_NBR_COUNT) ∧
    (s.hub.casOn = true → s.hub.isCandidate = true → s.hub.rd CAS.STAT_CROLE ≠ 1 → s.hub.rd CAS.EPOCH_EPOCH = 0 →
      s.hub.refreshBest.bestDev = s.hub.deviceId →
      Completes .crownDeclare s fun g => g.rd CAS.EPOCH_EPOCH = (s.hub.rd CAS.hMaxEpoch + 1) % 2 ^ 16 ∧
        g.rd CAS.EPOCH_DGEN = (s.hub.rd CAS.hMaxDgen + 1) % 2 ^ 16 ∧ g.rd CAS.STAT_CROLE = 1 ∧
        g.rd CAS.NODEID_ID = s.hub.rd CAS.DISC_BASE % 2 ^ 14 ∧ g.rd CAS.NODEID_VALID = 1 ∧ g.rd CAS.NODEID_TIER = 0 ∧
        g.rd CAS.CROWN_NODE = s.hub.rd CAS.DISC_BASE % 2 ^ 14 ∧ g.rd CAS.CROWN_VALID = 1) ∧
    (∀ p, s.hub.casOn = true → s.hub.on CAS.EPOCH_EPOCH = true → s.hub.countsIn = true → s.hub.rd CAS.STAT_CROLE ≠ 1 →
      s.hub.relPort 1 = some p →
      Completes .countSend s fun g => (s.hub.rd CAS.STAT_DSTATE ≠ 4 → g.rd CAS.STAT_DSTATE = 3) ∧
        Tab.get [] p g.lmcQ = Tab.get [] p s.hub.lmcQ ++
          [⟨0x12, 0, natLe 2 s.hub.countSum ++ natLe 2 (s.hub.rd CAS.EPOCH_EPOCH), false⟩]) ∧
    (∀ (p : Fin 8) n epoch, s.hub.casOn = true → s.hub.portUp p = true → epoch = s.hub.rd CAS.EPOCH_EPOCH →
      s.hub.on CAS.EPOCH_EPOCH = true →
      Completes (.count p n epoch) s fun g => g.rd CAS.NBRCNT_COUNT 0 p = n % 2 ^ CAS.NBRCNT_COUNT.w ∧
        g.rd CAS.NBRCNT_VALID 0 p = 1) ∧
    (∀ (p : Fin 8) first size tier epoch, s.hub.casOn = true → s.hub.relPort 1 = some p.val →
      epoch = s.hub.rd CAS.EPOCH_EPOCH → s.hub.on CAS.NODEID_VALID = false →
      Completes (.grant p first size tier epoch) s fun g => g.rd CAS.NODEID_ID = first % 2 ^ 14 ∧ g.rd CAS.NODEID_VALID = 1 ∧
        g.rd CAS.BLOCK_FIRST = first % 2 ^ 14 ∧ g.rd CAS.BLOCK_SIZE = size % 2 ^ 15 ∧
        g.rd RTE.GEN_CUR = (s.hub.rd RTE.GEN_CUR + 1) % 2 ^ 16) ∧
    (s.hub.casOn = true → s.hub.rd CAS.STAT_CROLE = 1 → s.hub.on CAS.CROWN_S_VALID = true →
      Completes .crownHbSend s fun g => g.rd CAS.hYield = 0 ∧ g.rd CAS.HBSTAT_AGE_MS = 0 ∧
        g.ctlOut = s.hub.ctlOut ++ [⟨0x40, false, s.hub.rd CAS.CROWN_STANDBY, (s.hub.rd TUN.hTok + 1) % 2 ^ 16,
          natLe 2 (s.hub.rd CAS.EPOCH_EPOCH) ++ natLe 1 (s.hub.rd CAS.hYield) ++ natLe 1 0 ++
            natLe 2 s.hub.openIntents ++ natLe 2 0 ++ natLe 8 s.hub.now⟩]) ∧
    (∀ src tok epoch yields openIntents timeNs, s.hub.casOn = true → s.hub.rd CAS.STAT_CROLE = 2 →
      s.hub.fromCrown src = true → epoch = s.hub.rd CAS.EPOCH_EPOCH →
      Completes (.crownHb src tok epoch yields openIntents timeNs) s fun g => g.rd CAS.HBSTAT_AGE_MS = 0 ∧
        g.rd CAS.HBSTAT_OPEN = openIntents % 2 ^ CAS.HBSTAT_OPEN.w ∧
        (yields = false → g.rd CAS.STAT_CROLE = 2) ∧
        (yields = true → g.rd CAS.STAT_CROLE = 1 ∧ g.rd CAS.EPOCH_EPOCH = (s.hub.rd CAS.EPOCH_EPOCH + 1) % 2 ^ 16)) ∧
    (s.hub.casOn = true → s.hub.rd CAS.STAT_CROLE = 2 →
      Completes .hbTimeout s fun g => g.rd CAS.STAT_CROLE = 1 ∧ g.bit HDR.ESTAT 4 0x68 = true ∧
        g.rd CAS.EPOCH_EPOCH = (s.hub.rd CAS.EPOCH_EPOCH + 1) % 2 ^ 16 ∧ g.rd CAS.NODEID_TIER = 0 ∧
        g.rd CAS.CNT_TAKEOVER_COUNT = s.hub.oneMore CAS.CNT_TAKEOVER_COUNT) ∧
    (∀ src tok info, s.hub.casOn = true → s.hub.on CAS.STAT_CROLE = true →
      Completes (.nodeReady src tok info) s fun g => Tab.find src g.ready = some info ∧ g.bit HDR.ISTAT 3 0x68 = true) ∧
    (∀ src tok event port partner tid partnerId cnt, s.hub.casOn = true → s.hub.on CAS.STAT_CROLE = true →
      Completes (.linkEvent src tok event port partner tid partnerId cnt) s fun g => g.bit HDR.ISTAT 3 0x68 = true ∧
        (s.hub.rd CAS.STAT_CROLE = 1 → event = 5 → cnt ≤ s.hub.rd CAS.POOL_FREE →
          g.rd CAS.POOL_FREE = (s.hub.rd CAS.POOL_FREE - cnt) % 2 ^ CAS.POOL_FREE.w)) ∧
    (∀ src tok appoint epoch, s.hub.casOn = true → s.hub.fromCrown src = true → s.hub.rd CAS.EPOCH_EPOCH ≤ epoch →
      Completes (.standby src tok appoint epoch) s fun g => g.rd CAS.STAT_CROLE = (if appoint then 2 else 0) ∧
        g.rd CAS.HBSTAT_AGE_MS = 0 ∧ g.ctlOut = s.hub.ctlOut ++ [casOk g src tok 0x43]) ∧
    (∀ src tok first cnt port down valid tier, s.hub.casOn = true → s.hub.fromCrown src = true → 0 < cnt →
      first + cnt ≤ 16384 → port < 8 →
      Completes (.routeSet src tok first cnt port down valid tier) s fun g => g.rd RTE.GEN_CUR = (s.hub.rd RTE.GEN_CUR + 1) % 2 ^ 16 ∧
        g.ctlOut = s.hub.ctlOut ++ [casOk g src tok 0x44] ∧ ∀ k : Nat, k < cnt →
          g.tword (0x440000 + 8 * (first + k)) = port + bnat down * 8 + bnat valid * 16 + tier % 16 * 256 ∧
          g.tword (0x440000 + 8 * (first + k) + 4) = (s.hub.rd RTE.GEN_CUR + 1) % 2 ^ 16) ∧
    (∀ src tok first size port, s.hub.casOn = true → s.hub.fromCrown src = true → port < 8 → 0 < size → first + size ≤ 16384 →
      Completes (.idBlock src tok first size port) s fun g => Tab.find port g.granted = some (first, size) ∧
        g.rd RTE.GEN_CUR = (s.hub.rd RTE.GEN_CUR + 1) % 2 ^ 16 ∧ g.ctlOut = s.hub.ctlOut ++ [casOk g src tok 0x45] ∧
        Tab.get [] port g.lmcQ = Tab.get [] port s.hub.lmcQ ++ [⟨0x13, 0, natLe 2 first ++ natLe 2 size ++
          natLe 1 (s.hub.rd CAS.NODEID_TIER + 1) ++ natLe 1 0 ++ natLe 2 (s.hub.rd CAS.EPOCH_EPOCH), false⟩]) ∧
    (∀ src tok op tid txn before after hops, s.hub.casOn = true → s.hub.fromCrown src = true → (op = 1 ∨ op = 2) →
      Completes (.ledger src tok op tid txn before after hops) s fun g =>
        g.intents = (s.hub.intents.filter fun i => !(i.tid == tid && i.txn == txn)) ++
          (if op = 1 then [⟨src, tid, txn, before, after, hops⟩] else []) ∧
        g.rd CAS.HBSTAT_OPEN = g.intents.length % 2 ^ CAS.HBSTAT_OPEN.w ∧
        s.hub.ctlOut ++ [casOk g src tok 0x46] <+: g.ctlOut ∧
        (s.hub.rd CAS.STAT_CROLE ≠ 1 → g.ctlOut = s.hub.ctlOut ++ [casOk g src tok 0x46])) ∧
    (∀ src tok status typ epoch a, s.hub.casOn = true → Tab.find tok s.hub.asks = some a → a.msg.dst = src → a.msg.typ = typ →
      a.chg = none →
      Completes (.casAck src tok status typ epoch) s fun g => g.asks = Tab.del tok s.hub.asks ∧
        (typ = 0x43 → status = 0 → s.hub.rd CAS.STAT_CROLE = 1 →
          g.rd CAS.CROWN_STANDBY = src % 2 ^ 14 ∧ g.rd CAS.CROWN_S_VALID = 1 ∧ g.rd CAS.CROWN_VALID = 1)) ∧
    (∀ r, s.hub.Accepts r CAS.CTL_REDISCOVER 0 → s.hub.rd CAS.STAT_CROLE = 1 →
      Completes (.rediscover r) s fun g =>
        g.rd CAS.EPOCH_DGEN = (max (s.hub.rd CAS.EPOCH_DGEN) (s.hub.rd CAS.hMaxDgen) + 1) % 2 ^ 16 ∧
        g.rd CAS.NODEID_ID = s.hub.rd CAS.DISC_BASE % 2 ^ 14 ∧ g.rd CAS.NODEID_VALID = 1 ∧ g.granted = [] ∧ g.ready = []) ∧
    (∀ r, s.hub.Accepts r CAS.CTL_YIELD 0 → s.hub.rd CAS.STAT_CROLE = 1 →
      Completes (.yield r) s fun g => g.rd CAS.hYield = 1)

/-- Frame writers and tile streams (R349, R353 to R357, R359, R363, R367, R371, R374, R375). Where the spec leaves a point
open, its clauses follow the model's choices: log entries 36 to 39, 117, 141, 144, 145 and 165 to 167. -/
def Obligations.FrameCommandsComplete : Prop :=
  ∀ s : State, s.Inv →
    (∀ r w, s.hub.Grants r (ringReg w).1 (ringReg w).2 → s.hub.up (Hub.writerPage w) = true → s.hub.sourceOk w = true →
      s.hub.ringEn w = false → s.hub.ringOk w = true →
      Completes (.ringEnable r w) s fun g => g.ringEn w = true ∧
        (writerNo w < 74 → g.rd DTL.hFill 0 (writerNo w) = 1 ∧ g.rd DTL.FILLSTAT_BUSY = 1)) ∧
    (∀ w, s.hub.up 0x77 = true → s.hub.on DTL.hFill 0 (writerNo w) = true → s.hub.memReady = true →
      Completes (.ringFillDone w) s fun g => g.rd DTL.hFill 0 (writerNo w) = 0 ∧
        (∀ k ∈ s.hub.ringOf w, ∀ j : Nat, j < s.hub.slotBytes k → Tab.get 0 (s.hub.slotBase k + j) g.fmem = 0) ∧
        (writerNo w < 2 ∨ 66 ≤ writerNo w → ∀ k ∈ s.hub.ringOf w, g.slotState k = 0) ∧
        (2 ≤ writerNo w → writerNo w < 66 → s.hub.ringOf w ≠ [] → s.hub.ringEn w = true → g.on DTL.hSlot 0 (writerNo w) = true)) ∧
    (∀ d : Fin 2, s.hub.up (0x75 + d) = true → s.hub.writerOn (.capture d) = true → s.hub.on DCP.LINK_TRAINED d = true →
      s.hub.on DTL.hSlot 0 d = false → s.hub.memReady = true → s.hub.captureFits d = true →
      Completes (.captureFrameStart d) s fun g =>
        (((s.hub.ringOf (.capture d)).any fun k => s.hub.slotState k == 0) = true → g.rd DCP.CSTAT_WRITING d = 1 ∧
          g.on DTL.hSlot 0 d = true ∧ g.slotState (g.rd DTL.hSlot 0 d - 1) = 1) ∧
        (((s.hub.ringOf (.capture d)).any fun k => s.hub.slotState k == 0) = false →
          g.rd DCP.CNT_NOSLOT_COUNT d = s.hub.oneMore DCP.CNT_NOSLOT_COUNT d)) ∧
    (∀ (d : Fin 2) px k, s.hub.up (0x75 + d) = true → s.hub.rd DTL.hSlot 0 d = k + 1 → s.hub.memReady = true →
      Completes (.captureCommit d px) s fun g => g.slotState k = 2 ∧ g.rd DTL.hSlot 0 d = 0 ∧ g.rd DCP.CSTAT_WRITING d = 0 ∧
        g.slotFrame k = (s.hub.rd DTL.hCount 0 d + 1) % 2 ^ 32 ∧
        g.rd DCP.CNT_FRAMES_COUNT d = s.hub.oneMore DCP.CNT_FRAMES_COUNT d) ∧
    (∀ (d : Fin 2) cause hact vact pclk, s.hub.up (0x75 + d) = true →
      Completes (.captureAbort d cause hact vact pclk) s fun g => g.rd DTL.hSlot 0 d = 0 ∧
        (s.hub.on DTL.hSlot 0 d = true → g.rd DCP.CNT_ABORT_COUNT d = s.hub.oneMore DCP.CNT_ABORT_COUNT d) ∧
        (cause = 0 → g.rd DCP.LINK_TRAINED d = 0 ∧ g.bit HDR.ESTAT 0 (0x75 + d) = true) ∧
        (cause = 1 → g.rd DCP.MODE_HACT d = hact % 2 ^ DCP.MODE_HACT.w ∧ g.rd DCP.MODE_VACT d = vact % 2 ^ DCP.MODE_VACT.w ∧
          g.rd DCP.CNT_MODECHG_COUNT d = s.hub.oneMore DCP.CNT_MODECHG_COUNT d)) ∧
    (∀ (d : Fin 2) ok rate lanes hact vact pclk bpc, s.hub.up (0x75 + d) = true → s.hub.on DCP.CTL_HPD d = true →
      s.hub.on TCP.STAT_ALTMODE d = true →
      Completes (.captureLinkTrain d ok rate lanes hact vact pclk bpc) s fun g =>
        let good := ok && Hub.captureTakes rate lanes hact vact pclk bpc
        g.rd DCP.LINK_TRAINED d = bnat good ∧ (good = true → g.rd DCP.LINK_RATE d = rate % 2 ^ DCP.LINK_RATE.w ∧
          g.rd DCP.MODE_HACT d = hact % 2 ^ DCP.MODE_HACT.w ∧ g.rd DCP.MODE2_PCLK d = pclk % 2 ^ DCP.MODE2_PCLK.w) ∧
        (good = false → g.bit HDR.ESTAT 2 (0x75 + d) = true)) ∧
    (∀ (w : Fin 64) off data k, s.hub.up 0x77 = true → s.hub.hostOn = true → 0x1000000 ≤ off → s.hub.memReady = true →
      s.hub.writerOn (.hostWin w) = true → s.hub.wready w = true → s.hub.rd DTL.hSlot 0 (2 + w) = k + 1 →
      off - 0x1000000 + data.length ≤ s.hub.slotBytes k →
      s.hub.actPages .pcieHost 0 1 (s.hub.slotBase k + (off - 0x1000000)) data.length { write := true } = none →
      Completes (.hostPixelWrite w off data) s fun g => ∀ j : Nat, j < data.length →
        (off - 0x1000000 + j) % 4 ≠ 3 → (off - 0x1000000 + j) % (s.hub.slotTw k * 256) < s.hub.slotW k * 4 →
        (off - 0x1000000 + j) / (s.hub.slotTw k * 256) < s.hub.slotH k →
        Tab.get 0 (s.hub.slotBase k + (off - 0x1000000 + j)) g.fmem = data.getD j 0) ∧
    (∀ w : Fin 64, s.hub.writerOn (.hostWin w) = true → s.hub.hostOn = true → s.hub.wready w = true →
      Completes (.fwEnd w) s fun g => g.rd DTL.hEnd 0 w = 1) ∧
    (∀ (w : Fin 64) k, s.hub.writerOn (.hostWin w) = true → s.hub.hostOn = true → s.hub.rd DTL.hSlot 0 (2 + w) = k + 1 →
      Completes (.fwAbort w) s fun g => g.rd DTL.hEnd 0 w = 0 ∧ g.rd DTL.hExpect 0 (2 + w) = 0 ∧ g.rd DTL.hDisorder 0 w = 0 ∧
        ((s.hub.ringOf (.hostWin w)).contains k = true → g.on DTL.hSlot 0 (2 + w) = true) ∧
        ((s.hub.ringOf (.hostWin w)).contains k = true → g.rd DTL.hSlot 0 (2 + w) ≠ k + 1 → g.slotState k = 0)) ∧
    (∀ (w : Fin 64) k, s.hub.up 0x77 = true → s.hub.on DTL.hEnd 0 w = true → s.hub.rd DTL.hSlot 0 (2 + w) = k + 1 →
      s.hub.memReady = true →
      Completes (.signaturesReady w) s fun g => g.rd DTL.hEnd 0 w = 0 ∧ g.slotState k = 2 ∧
        g.slotFrame k = (s.hub.rd DTL.hCount 0 (2 + w) + 1) % 2 ^ 32) ∧
    (∀ w k q, s.hub.up 0x77 = true → s.hub.memReady = true → s.hub.rd DTL.hSlot 0 (writerNo w) = k + 1 → s.hub.slotFld k 4 7 1 = 1 →
      s.hub.readySlot (s.hub.ringOf w) = some q →
      Completes (.catchupDone w) s fun g => g.slotFld k 4 7 1 = 0 ∧
        (66 ≤ writerNo w → writerNo w < 74 → g.rd DTL.RSTAT_CATCHUP 0 (writerNo w - 66) = 0)) ∧
    (∀ (st : Fin 64) k, s.hub.up 0x77 = true → s.hub.on DTL.SCTL_EN 0 st = true → s.hub.memReady = true →
      s.hub.on DTL.SSTAT_BUSY 0 st = false → s.hub.readySlot (s.hub.ringOf (.send st)) = some k → s.hub.rd DTL.hSent 0 st ≠ s.hub.slotFrame k + 1 →
      Completes (.streamSendFrame st) s fun g => g.rd DTL.hSent 0 st = (s.hub.slotFrame k + 1) % 2 ^ 64 ∧
        g.rd DTL.SSTAT_BUSY 0 st = 1 ∧ g.rd DTL.hSendSlot 0 st = (k + 1) % 2 ^ DTL.hSendSlot.w ∧ g.slotFld k 4 6 1 = 1 ∧
        Tab.get [] st.val g.repairs = [] ∧ g.rd DTL.SSTAT_REPAIRS 0 st = 0 ∧
        ((Tab.get [] st.val g.tileOut).getLast?.map fun p => (p.typ, p.full, p.frame)) =
          some (3, s.hub.on DTL.hFull 0 st, s.hub.slotFrame k % 2 ^ 16)) ∧
    (∀ r v, s.hub.Grants r DTL.REPAIR_FIRST 0 → s.hub.up 0x77 = true → v.testBit 31 = true →
      mergeAny (Tab.get [] (s.hub.rd DTL.SSEL_STREAM) s.hub.repairs) (bits v 0 13, bits v 16 13) = none →
      (Tab.get [] (s.hub.rd DTL.SSEL_STREAM) s.hub.repairs).length < 8 →
      Completes (.repair r v) s fun g => Tab.get [] (s.hub.rd DTL.SSEL_STREAM) g.repairs =
          Tab.get [] (s.hub.rd DTL.SSEL_STREAM) s.hub.repairs ++ [(bits v 0 13, bits v 16 13)] ∧
        g.rd DTL.SSTAT_REPAIRS 0 (s.hub.rd DTL.SSEL_STREAM) =
          (Tab.get [] (s.hub.rd DTL.SSEL_STREAM) s.hub.repairs).length + 1) ∧
    (∀ r, s.hub.Accepts r DTL.SCTL_FULL 0 →
      Completes (.sendFull r) s fun g => g.rd DTL.hFull 0 (s.hub.rd DTL.SSEL_STREAM) = 1) ∧
    (∀ tid t r k, s.hub.up 0x77 = true → s.hub.domOn 2 = true → t.poison = false → s.hub.streamFor tid = some r → s.hub.memReady = true →
      s.hub.on DTL.RSTAT_OPEN 0 r = true → s.hub.rd DTL.hOpen 0 r = t.frame → s.hub.rxSlot r = k + 1 →
      t.tile < s.hub.slotTiles k → s.hub.rd DTL.hOrd 0 r ≤ t.ord →
      Completes (.tileReceived tid t) s fun g => g.rd DTL.hOrd 0 r = (t.ord + 1) % 2 ^ 64 ∧
        g.rd DTL.hTile 0 r = (t.tile + 1) % 2 ^ 64 ∧ g.rd DTL.R_CNT_TILES_COUNT 0 r = s.hub.oneMore DTL.R_CNT_TILES_COUNT 0 r ∧
        (Tab.get [] r g.tileDone).head? = some t.tile ∧ (s.hub.rd DTL.hOrd 0 r < t.ord → g.rd DTL.RSTAT_SYNC 0 r = 0)) ∧
    (∀ tid t r, s.hub.up 0x77 = true → s.hub.domOn 2 = true → t.poison = false → s.hub.streamFor tid = some r → s.hub.memReady = true →
      s.hub.on DTL.RSTAT_OPEN 0 r = true → s.hub.rd DTL.hOpen 0 r = t.frame → s.hub.on DTL.RSTAT_CATCHUP 0 r = false →
      bits t.sig 0 7 = s.hub.slotTw (s.hub.rd DTL.RRING_FIRST 0 r) → bits t.sig 8 7 = s.hub.slotTh (s.hub.rd DTL.RRING_FIRST 0 r) →
      Completes (.endReceived tid t) s fun g => g.rd DTL.RSTAT_OPEN 0 r = 0 ∧
        g.rd DTL.R_CNT_FRAMES_COUNT 0 r = s.hub.oneMore DTL.R_CNT_FRAMES_COUNT 0 r ∧
        (s.hub.on DTL.hSlot 0 (66 + r) = true → g.slotState (s.hub.rd DTL.hSlot 0 (66 + r) - 1) = 2) ∧
        (t.full = true → t.ord ≤ s.hub.rd DTL.hOrd 0 r → s.hub.on DTL.hBad 0 r = false → g.rd DTL.RSTAT_SYNC 0 r = 1)) ∧
    (∀ r, s.hub.Accepts r DTL.RGAPPOP_GO 0 → Tab.Sorted s.hub.gaps →
      Completes (.gapPop r) s fun g => Tab.get [] (s.hub.rd DTL.RSEL_STREAM) g.gaps =
          (Tab.get [] (s.hub.rd DTL.RSEL_STREAM) s.hub.gaps).drop 1 ∧
        g.rd DTL.RSTAT_GAPS 0 (s.hub.rd DTL.RSEL_STREAM) =
          ((Tab.get [] (s.hub.rd DTL.RSEL_STREAM) s.hub.gaps).length - 1) % 2 ^ DTL.RSTAT_GAPS.w)

/-- Display heads and DisplayPort transmitters (R391, R394, R398, R400, R404, R410). Where the spec leaves a point open, its
clauses follow the model's choices: log entries 87, 146 and 150. -/
def Obligations.HeadCommandsComplete : Prop :=
  ∀ s : State, s.Inv →
    (∀ (n : Fin 4) k, s.hub.up (0x71 + n) = true → s.hub.head n = 3 → s.hub.on HDR.PSTAT_CPEND (0x71 + n) = false →
      s.hub.on DHD.SRC_EN n = true → (s.hub.ring (s.hub.rd DHD.SRC_RING n)).bind s.hub.readySlot = some k →
      Completes (.vblankFlip n) s fun g => g.rd DHD.STAT_VBLANK n = 1 ∧ g.bit DSP.VBSTAT_VBLANK n = true ∧
        (s.hub.on DHD.SLOT_VALID n = false ∨ s.hub.rd DHD.SLOT_HELD n ≠ k →
          g.rd DHD.SLOT_HELD n = k % 2 ^ DHD.SLOT_HELD.w ∧ g.rd DHD.SLOT_VALID n = 1 ∧ g.rd DHD.SLOT_AGE_FRAMES n = 0 ∧
          g.rd DHD.CNT_FLIP_COUNT n = s.hub.oneMore DHD.CNT_FLIP_COUNT n) ∧
        (s.hub.on DHD.SLOT_VALID n = true → s.hub.rd DHD.SLOT_HELD n = k →
          g.rd DHD.SLOT_AGE_FRAMES n = s.hub.oneMore DHD.SLOT_AGE_FRAMES n)) ∧
    (∀ (n : Fin 4) low, s.hub.up (0x71 + n) = true → s.hub.head n = 3 → s.hub.memReady = true → s.hub.on DHD.hNoMem n = false →
      Completes (.activeEnd n low) s fun g => g.rd DHD.FIFO_LOW n = min (s.hub.rd DHD.FIFO_LOW n) low % 2 ^ DHD.FIFO_LOW.w ∧
        g.rd DHD.FRAME_COUNT n = (s.hub.rd DHD.FRAME_COUNT n + 1) % 2 ^ 32 ∧
        (s.hub.on DHD.hUnder n = false → g.rd DHD.SOSIG_SIG n = s.hub.frameSig n % 2 ^ 32 ∧
          (s.hub.rd DHD.SOSIG_SIG n ≠ s.hub.frameSig n % 2 ^ 32 → g.rd DHD.FRZRUN_COUNT n = 0 ∧ g.rd DHD.STAT_FROZEN n = 0))) ∧
    (∀ (n : Fin 4) low, s.hub.up (0x71 + n) = true → s.hub.head n = 3 → s.hub.memReady = false ∨ s.hub.on DHD.hNoMem n = true →
      Completes (.activeEnd n low) s fun g => g.rd DHD.FRAME_COUNT n = (s.hub.rd DHD.FRAME_COUNT n + 1) % 2 ^ 32 ∧
        g.on DHD.hUnder n = true ∧ g.rd DHD.SOSIG_SIG n = s.hub.rd DHD.SOSIG_SIG n ∧
        (s.hub.on DHD.hUnder n = false → g.bit HDR.ESTAT 0 (0x71 + n) = true ∧
          g.rd DHD.CNT_UNDERRUN_COUNT n = s.hub.oneMore DHD.CNT_UNDERRUN_COUNT n)) ∧
    (∀ (n : Fin 4) line pixel, s.hub.up (0x71 + n) = true → s.hub.head n = 3 → s.hub.on DHD.hUnder n = false →
      Completes (.underrun n line pixel) s fun g => g.rd DHD.hUnder n = 1 ∧ g.bit HDR.ESTAT 0 (0x71 + n) = true ∧
        g.rd DHD.FIFO_LEVEL n = 0 ∧ g.rd DHD.CNT_UNDERRUN_COUNT n = s.hub.oneMore DHD.CNT_UNDERRUN_COUNT n) ∧
    (∀ n : Fin 4, s.hub.up (0x71 + n) = true → s.hub.head n = 1 →
      Completes (.headPllLock n) s fun g => g.bit CLK.PLLSTAT_LOCK (9 + n) = true ∧ (s.hub.trained n = false → g.head n = 2) ∧
        (s.hub.trained n = true → s.hub.linkCarries n (s.hub.rd DHD.PCLK_KHZ n) = true → g.head n = 3 ∧ g.rd DHD.STAT_VBLANK n = 1) ∧
        (s.hub.trained n = true → s.hub.linkCarries n (s.hub.rd DHD.PCLK_KHZ n) = false →
          g.head n = 2 ∧ g.bit HDR.ESTAT 3 (0x71 + n) = true)) ∧
    (∀ n : Fin 4, s.hub.up (0x71 + n) = true → s.hub.head n = 1 →
      Completes (.headLockTimeout n) s fun g => g.head n = 4 ∧ g.bit HDR.ESTAT 5 (0x71 + n) = true) ∧
    (∀ r (n : Fin 4), s.hub.Accepts r DPT.CTL_TRAIN n → s.hub.rd DPT.CFG_RATE n ≠ 0 → s.hub.rd DPT.CFG_RATE n ≠ 7 →
      s.hub.rd DPT.STAT_STATE n ≠ 1 →
      Completes (.dpTrain r n) s fun g => g.rd DPT.STAT_STATE n = 1 ∧ g.rd DPT.STAT_RATE n = 0 ∧
        (s.hub.head n = 3 → g.head n = 2)) ∧
    (∀ (n : Fin 4) ok rate lanes, s.hub.up (0x78 + n) = true → s.hub.rd DPT.STAT_STATE n = 1 →
      Completes (.dpTrainDone n ok rate lanes) s fun g =>
        let good := ok && s.hub.mayTrain n rate lanes
        (good = true → g.rd DPT.STAT_STATE n = 2 ∧ g.rd DPT.STAT_RATE n = rate % 2 ^ DPT.STAT_RATE.w ∧
          g.rd DPT.STAT_LANES n = lanes % 2 ^ DPT.STAT_LANES.w) ∧
        (good = false → g.rd DPT.STAT_STATE n = 3 ∧ g.bit HDR.ESTAT 0 (0x78 + n) = true ∧
          g.rd DPT.CNT_TRAINFAIL_COUNT n = s.hub.oneMore DPT.CNT_TRAINFAIL_COUNT n)) ∧
    (∀ r (n : Fin 4), s.hub.Accepts r DPT.CTL_DOWN n →
      Completes (.dpDown r n) s fun g => g.rd DPT.STAT_STATE n = 0 ∧ g.rd DPT.STAT_RATE n = 0 ∧ g.rd DPT.STAT_LANES n = 0 ∧
        (s.hub.head n = 3 → g.head n = 2)) ∧
    (∀ (n : Fin 4) lost again, s.hub.up (0x78 + n) = true →
      Completes (.hpdIrq n lost again) s fun g => g.rd DPT.HPDEV_IRQ n = 1 ∧
        (lost = true → s.hub.trained n = true → again = true → g.rd DPT.STAT_STATE n = 2 ∧
          g.rd DPT.STAT_RATE n = s.hub.rd DPT.STAT_RATE n % 2 ^ DPT.STAT_RATE.w) ∧
        (lost = true → s.hub.trained n = true → again = false → g.rd DPT.STAT_STATE n = 3 ∧ g.bit HDR.ESTAT 3 (0x78 + n) = true)) ∧
    (∀ n : Fin 4, s.hub.up (0x78 + n) = true →
      Completes (.hpdLoss n) s fun g => g.rd DPT.HPDEV_LOSS n = 1 ∧ g.rd DPT.STAT_HPD n = 0 ∧ g.rd DPT.STAT_STATE n = 0 ∧
        g.bit HDR.ESTAT 1 (0x78 + n) = true) ∧
    (∀ n : Fin 4, s.hub.up (0x78 + n) = true →
      Completes (.hpdArrive n) s fun g => g.rd DPT.HPDEV_ARRIVE n = 1 ∧ g.rd DPT.STAT_HPD n = 1) ∧
    (∀ r (n : Fin 4) v, s.hub.Grants r DPT.AUXCTL_GO n → s.hub.up (0x78 + n) = true → v.testBit 0 = true → s.hub.rd DPT.AUXSTAT_DONE n ≠ 1 →
      Completes (.auxTransaction r n v) s fun g => g.rd DPT.AUXSTAT_DONE n = 1 ∧ g.rd DPT.AUXCTL_CMD n = bits v 4 4 ∧
        g.rd DPT.AUXCTL_ADDR n = bits v 8 20 ∧ g.rd DPT.AUXCTL_LEN n = bits v 28 4) ∧
    (∀ (n : Fin 4) ok reply count data, s.hub.up (0x78 + n) = true → s.hub.rd DPT.AUXSTAT_DONE n = 1 →
      Completes (.auxDone n ok reply count data) s fun g => g.rd DPT.AUXSTAT_DONE n = (if ok then 2 else 3) ∧
        g.rd DPT.AUXSTAT_REPLY n = reply % 2 ^ DPT.AUXSTAT_REPLY.w ∧ g.rd DPT.AUXSTAT_BYTES n = count % 2 ^ DPT.AUXSTAT_BYTES.w ∧
        (data ≠ [] → ∀ j : Nat, j < 4 → g.rd (DPT.AUXDATA.word j) n = leAt (padTo 16 data) (4 * j) 4) ∧
        (ok = false → g.bit HDR.ESTAT 2 (0x78 + n) = true))

/-- The transaction bridge (R413, R416 to R436). Where the spec leaves a point open, its clauses follow the model's choices:
log entries 40 to 43, 46, 112, 113 and 127. -/
def Obligations.BridgeCommandsComplete : Prop :=
  ∀ s : State, s.Inv →
    (∀ fromBus addr ro ns data w, s.hub.up 0x80 = true → (fromBus = true → s.hub.up 0x81 = true ∧ s.hub.on PCI.LSTAT_DL_UP = true) →
      (fromBus = true → s.hub.rd PCI.MODE_MODE ≠ 2 ∨ data.length ≠ 4 ∨
        addr ≠ s.hub.rd PCI.MSICATCH_HI_ADDR * 2 ^ 32 + s.hub.rd PCI.MSICATCH_LO_ADDR) →
      s.hub.owMatch fromBus addr = some w →
      Completes (.outboundWrite fromBus addr ro ns data) s fun g => g.txbOut = s.hub.txbOut ++
        (cuts (s.hub.owCut w) (s.hub.farOff w addr) data.length).map fun p => (⟨s.hub.rd TXB.OW_ORD_TID 0 w, false,
          ⟨0, ro, ns, s.hub.rd TXB.OW_FAR_WIN 0 w, 0, p.2, 0, false, 0, p.1, 0, false⟩,
          (data.drop (p.1 - s.hub.farOff w addr)).take p.2⟩ : TxbMsg)) ∧
    (∀ fromBus addr len ro ns w, s.hub.up 0x80 = true → 0 < len →
      (fromBus = true → s.hub.up 0x81 = true ∧ s.hub.on PCI.LSTAT_DL_UP = true) → s.hub.owMatch fromBus addr = some w →
      Completes (.outboundRead fromBus addr len ro ns) s fun g =>
        Tab.find (s.hub.rd TXB.hRead) g.reads =
          some ⟨fromBus, addr, (cuts (s.hub.owCut w) (s.hub.farOff w addr) len).length, false, []⟩ ∧
        g.txbOut.length + g.rdWait.length =
          s.hub.txbOut.length + s.hub.rdWait.length + (cuts (s.hub.owCut w) (s.hub.farOff w addr) len).length) ∧
    (∀ tid src c data, s.hub.up 0x80 = true → c.op < 7 → c.poison = false →
      Completes (.mwr tid src c data) s fun g => g.land = s.hub.land ++ [⟨tid, src, c, data⟩] ∧
        g.rd TXB.hLanded 0 tid = (s.hub.rd TXB.hLanded 0 tid + 1) % 65536) ∧
    (∀ busOk m rest, s.hub.up 0x80 = true → s.hub.land = m :: rest → s.hub.on TXB.TW_CFG_EN 0 (m.h.win % 32) = true →
      m.h.addr + m.h.len ≤ 2 ^ s.hub.rd TXB.TW_CFG_SIZE_LOG2 0 (m.h.win % 32) → s.hub.on TXB.TW_CFG_BUS 0 (m.h.win % 32) = true →
      s.hub.farCuts m.h = [(m.h.addr, m.h.len)] → (s.hub.farCheck m.src m.h m.h.addr m.h.len true).1 = 0 →
      Completes (.postedWriteIssue busOk) s fun g => g.land = rest ∧
        g.fget (s.hub.twBase (m.h.win % 32) + m.h.addr) m.h.len = padTo m.h.len m.data) ∧
    (∀ tid src c, s.hub.up 0x80 = true → c.op < 7 → c.poison = false →
      Completes (.mrd tid src c) s fun g => g.rdIn = s.hub.rdIn ++ [⟨tid, src, c, []⟩]) ∧
    (∀ m, s.hub.up 0x80 = true → s.hub.rdIn.find? s.hub.mayIssue = some m →
      (s.hub.farCheck m.src m.h m.h.addr m.h.len false).1 = 0 →
      Completes .readIssue s fun g => g.rdIn = s.hub.rdIn.erase m ∧
        g.rd TXB.CPLBUF_FREE = (s.hub.rd TXB.CPLBUF_FREE - ceilDiv m.h.len 64) % 2 ^ TXB.CPLBUF_FREE.w ∧
        g.rdBus = s.hub.rdBus ++ [⟨m.tid, m.src, m.h, if s.hub.on TXB.TW_CFG_BUS 0 (m.h.win % 32) then
          s.hub.fget (s.hub.twBase (m.h.win % 32) + m.h.addr) m.h.len else []⟩]) ∧
    (∀ m, s.hub.up 0x80 = true → s.hub.rdIn.find? (fun m => !s.hub.writesLanded m) = some m →
      Completes .pwaitTimeout s fun g => g.bit HDR.ESTAT 3 0x80 = true ∧ g.rd TXB.hLanded 0 (s.hub.linkOf m.tid).1 = m.h.pwseq % 65536 ∧
        g.rd TXB.CNT_PWAIT_COUNT = s.hub.oneMore TXB.CNT_PWAIT_COUNT) ∧
    (∀ ok data m rest, s.hub.up 0x80 = true → s.hub.rdBus = m :: rest →
      Completes (.busCompletion ok data) s fun g => g.rdBus = rest ∧
        g.rd TXB.CPLBUF_FREE = (s.hub.rd TXB.CPLBUF_FREE + ceilDiv m.h.len 64) % 2 ^ TXB.CPLBUF_FREE.w ∧
        (ok = true → g.txbOut = s.hub.txbOut ++ (cuts 1024 0 m.h.len).map fun p => (⟨m.tid, true,
          ⟨2, false, false, 0, m.h.tag, p.2, 0, p.1 + p.2 == m.h.len, 0, 0, p.1, false⟩,
          ((padTo m.h.len (if m.data.isEmpty then data else m.data)).drop p.1).take p.2⟩ : TxbMsg)) ∧
        (ok = false → g.txbOut.getLast? = some ⟨m.tid, true, ⟨3, false, false, 0, m.h.tag, 0, 2, true, 0, 0, 0, false⟩, []⟩)) ∧
    (∀ tid c data tg, s.hub.up 0x80 = true → c.op < 7 → s.hub.liveTag tid c.tag = some tg → tg.dead = false →
      c.poison = false → c.offset = tg.got →
      Completes (.cpld tid c data) s fun g =>
        (c.last = false → Tab.find c.tag g.tags = some { tg with got := tg.got + c.len }) ∧
        (c.last = true → s.hub.rdWait = [] → g.tags = Tab.del c.tag s.hub.tags)) ∧
    (∀ tid c tg r, s.hub.up 0x80 = true → c.op < 7 → s.hub.liveTag tid c.tag = some tg → tg.dead = false →
      c.poison = false → Tab.find tg.rd s.hub.reads = some r → r.left = 1 →
      Completes (.cpl tid c) s fun g => g.rdAns = s.hub.rdAns ++ [
        if r.failed = false ∧ c.status = 0 ∧ tg.got = tg.len then ⟨r.fromBus, r.addr, 0, (r.parts.map Prod.snd).flatten⟩
        else ⟨r.fromBus, r.addr, 2, []⟩]) ∧
    (∀ tid src c, s.hub.up 0x80 = true → c.op < 7 → c.poison = false →
      Completes (.perr tid src c) s fun g => g.bit HDR.ESTAT 0 0x80 = true ∧ g.bit HDR.ISTAT 0 0x80 = true ∧
        g.rd TXB.PERRLOG_TID = tid % 2 ^ TXB.PERRLOG_TID.w ∧ g.rd TXB.PERRLOG_STATUS = c.status % 2 ^ TXB.PERRLOG_STATUS.w ∧
        g.rd TXB.CNT_PERR_RX_COUNT = s.hub.oneMore TXB.CNT_PERR_RX_COUNT) ∧
    (∀ (t : Fin 1024) tg, s.hub.up 0x80 = true → Tab.find t.val s.hub.tags = some tg → tg.quar = false →
      Completes (.completionTimeout t) s fun g => Tab.find t.val g.tags = some { tg with quar := true } ∧
        g.bit HDR.ESTAT 1 0x80 = true ∧ g.bit HDR.ISTAT 1 0x80 = true ∧
        g.rd TXB.CNT_CTO_COUNT = s.hub.oneMore TXB.CNT_CTO_COUNT) ∧
    (∀ (t : Fin 1024) tg, s.hub.up 0x80 = true → Tab.find t.val s.hub.tags = some tg → tg.quar = true → s.hub.rdWait = [] →
      Completes (.quarantineEnd t) s fun g => g.tags = Tab.del t.val s.hub.tags) ∧
    (s.hub.up 0x80 = true → s.hub.on TXB.POLL_EN = true →
      Completes .sidebandPoll s fun g => g.rd TXB.hPolls = min 3 (s.hub.rd TXB.hPolls) + 1 ∧
        (3 ≤ s.hub.rd TXB.hPolls → g.bit HDR.ESTAT 4 0x80 = true) ∧
        g.txbOut = s.hub.txbOut ++ [{ tid := s.hub.rd TXB.OW_REQ_TID, h := { op := 5 } }]) ∧
    (∀ tid c, s.hub.up 0x80 = true → c.op < 7 → c.poison = false →
      Completes (.sbrd tid c) s fun g => g.rd TXB.hCatch = 0 ∧ ∃ wake : Bool,
        let sb := if s.hub.up 0x81 = true ∧ s.hub.rd PCI.MODE_MODE = 2 then
          setBits (s.hub.rd TXB.SBLOCAL_BITS) 2 1 (bnat wake) % 2 ^ TXB.SBLOCAL_BITS.w else s.hub.rd TXB.SBLOCAL_BITS
        g.rd TXB.SBLOCAL_BITS = setBits sb 7 4 0 % 2 ^ TXB.SBLOCAL_BITS.w ∧
        g.txbOut = s.hub.txbOut ++ [⟨tid, true, { op := 6, tag := c.tag },
          natLe 4 sb ++ natLe 4 0 ++ natLe 8 (s.hub.rd TXB.hCatch)⟩]) ∧
    (∀ tid c sbstat catchBits, s.hub.up 0x80 = true → c.op < 7 → c.poison = false →
      Completes (.sbrsp tid c sbstat catchBits) s fun g => g.rd TXB.hPolls = 0 ∧ g.rd TXB.SBFAR_BITS = sbstat % 2 ^ 32 ∧
        ((s.hub.rd TXB.SBFAR_BITS ^^^ (sbstat % 2 ^ 32)) &&& s.hub.rd TXB.SBMASK_BITS ≠ 0 → g.bit HDR.ISTAT 2 0x80 = true) ∧
        (s.hub.on TXB.CFG_MSI_FWD = false → s.hub.rd TXB.MSIFAR_LO_BITS = 0 → s.hub.rd TXB.MSIFAR_HI_BITS = 0 →
          g.rd TXB.MSIFAR_LO_BITS = catchBits % 2 ^ 32 ∧ (catchBits % 2 ^ 64 ≠ 0 → g.bit HDR.ISTAT 3 0x80 = true))) ∧
    (∀ addr data, s.hub.up 0x80 = true → s.hub.up 0x81 = true → s.hub.rd PCI.MODE_MODE = 2 → s.hub.on PCI.LSTAT_DL_UP = true →
      addr = s.hub.rd PCI.MSICATCH_HI_ADDR * 2 ^ 32 + s.hub.rd PCI.MSICATCH_LO_ADDR →
      Completes (.msiCatch addr data) s fun g => g.bit TXB.hCatch (data % 64) = true) ∧
    (∀ r, s.hub.Accepts r TXB.PFPOP_GO 0 →
      Completes (.pfpop r) s fun g => g.pfifo = s.hub.pfifo.drop 1 ∧
        g.rd TXB.PFSTAT_COUNT = (s.hub.pfifo.drop 1).length % 2 ^ TXB.PFSTAT_COUNT.w)

/-- PCI Express and the LPDDR5X memory (R433, R437, R440, R442, R444, R445, R449 to R452, R707). Where the spec leaves a point
open, its clauses follow the model's choices: log entries 44, 45, 63, 84 and 142. -/
def Obligations.PcieAndMemoryCommandsComplete : Prop :=
  ∀ s : State, s.Inv →
    (s.hub.up 0x81 = true → s.hub.rd PCI.MODE_MODE = 1 →
      Completes .functionLevelReset s fun g => g.rd PCI.CMDSTAT_BME = 0 ∧ g.rd PCI.CMDSTAT_MSIX_EN = 0 ∧
        g.bit HDR.ESTAT 2 0x81 = true ∧ (∀ j : Nat, j < 256 → g.rd (PCI.MSIX_TABLE.word j) = 0) ∧
        (g.reads.all fun p => !p.2.fromBus) = true) ∧
    (∀ up speed width ltssm, s.hub.up 0x81 = true → (up = true → s.hub.pcieMayTrain = true) →
      Completes (.pcieLinkChange up speed width ltssm) s fun g => g.rd PCI.LSTAT_DL_UP = bnat up ∧
        g.rd PCI.LSTAT_LTSSM = ltssm % 2 ^ PCI.LSTAT_LTSSM.w ∧
        g.rd PCI.LSTAT_SPEED = (if up then min speed (s.hub.rd PCI.MODE_MAXGEN) else 0) % 2 ^ PCI.LSTAT_SPEED.w ∧
        (s.hub.on PCI.LSTAT_DL_UP ≠ up → g.bit HDR.ISTAT 0 0x81 = true) ∧
        (s.hub.on PCI.LSTAT_DL_UP = true → up = false → g.bit HDR.ESTAT 0 0x81 = true)) ∧
    (∀ r v, s.hub.Accepts r PCI.MSIXREQ_GO 0 → v.testBit 8 = true → s.hub.up 0x81 = true → s.hub.rd PCI.MODE_MODE = 1 →
      s.hub.on PCI.CMDSTAT_MSIX_EN = true → (s.hub.rd (PCI.MSIX_TABLE.word (4 * (v % 64) + 3))).testBit 0 = false →
      Completes (.msixSend r v) s fun g => g.msixOut = s.hub.msixOut ++ [v % 64]) ∧
    (∀ m, s.hub.up 0x81 = true → s.hub.rd PCI.MODE_MODE = 2 → s.hub.on PCI.LSTAT_DL_UP = true →
      Completes (.pcieMessage m) s fun g => (m = .aerCor → g.rd PCI.AERRX_COR = 1 ∧ g.bit HDR.ISTAT 1 0x81 = true) ∧
        (m = .aerNonfatal → g.rd PCI.AERRX_NONFATAL = 1 ∧ g.bit HDR.ISTAT 1 0x81 = true) ∧
        (m = .aerFatal → g.rd PCI.AERRX_FATAL = 1 ∧ g.bit HDR.ESTAT 1 0x81 = true) ∧
        (∀ (l : Fin 4) (a : Bool), m = .intx l a → g.bit TXB.SBLOCAL_BITS (3 + l) = a) ∧
        (m = .pme → g.bit TXB.SBLOCAL_BITS 10 = true)) ∧
    (∀ bme msix, s.hub.up 0x81 = true → s.hub.rd PCI.MODE_MODE = 1 →
      Completes (.hostConfigWrite bme msix) s fun g => g.rd PCI.CMDSTAT_BME = bnat bme ∧ g.rd PCI.CMDSTAT_MSIX_EN = bnat msix) ∧
    (∀ high, Completes (.perstChange high) s fun g => g.rd PCI.hPerst = bnat high ∧
      (high = false → s.hub.rd PCI.MODE_MODE = 1 → s.hub.up 0x81 = true → g.rd PCI.LSTAT_DL_UP = 0)) ∧
    (∀ r en, s.hub.Grants r MEM.CFG_EN 0 → (en = true → s.hub.memKeys = true) →
      Completes (.memEnable r en) s fun g => g.rd MEM.CFG_EN = bnat en ∧ (en = false → g.rd MEM.STAT_READY = 0)) ∧
    (∀ r, s.hub.Accepts r MPH.TRAIN_GO 0 →
      Completes (.memTrain r) s fun g => g.rd MPH.TRAIN_DONE = 0 ∧ g.rd MPH.TRAIN_FAIL = 0 ∧ g.rd MEM.STAT_READY = 0) ∧
    (∀ chOk, s.hub.up 0x89 = true → s.hub.on MPH.TRAIN_DONE = false → s.hub.on MPH.TRAIN_FAIL = false →
      Completes (.memTrainDone chOk) s fun g => g.rd MPH.TSTAT_CH_OK = chOk % 2 ^ MPH.TSTAT_CH_OK.w ∧
        (chOk % 16 = 15 → g.rd MPH.TRAIN_DONE = 1 ∧ (s.hub.on MEM.hWipe = true → g.rd MEM.WIPE_BUSY = 1)) ∧
        (chOk % 16 ≠ 15 → g.rd MPH.TRAIN_FAIL = 1 ∧ g.bit HDR.ESTAT 0 0x89 = true)) ∧
    (∀ ms, s.hub.up 0x88 = true → s.hub.on MEM.WIPE_BUSY = true →
      Completes (.memWipeDone ms) s fun g => g.fmem = [] ∧ g.rd MEM.WIPE_BUSY = 0 ∧ g.rd MEM.WIPE_DONE = 1 ∧
        g.rd MEM.WIPE_PCT = 100) ∧
    (∀ level, s.hub.memReady = true → 5 ≤ level → level ≤ 7 →
      Completes (.memPromote level) s fun g => g.rd MEM.CNT_PROMOTE_COUNT = s.hub.oneMore MEM.CNT_PROMOTE_COUNT) ∧
    (∀ code above, s.hub.up 0x88 = true →
      Completes (.mr4Read code above) s fun g => g.rd MEM.STAT_TEMP = code % 2 ^ MEM.STAT_TEMP.w ∧
        (above = true → g.bit HDR.ESTAT 2 0x88 = true)) ∧
    (∀ (b : Fin 8) rdly wdly vref, s.hub.up 0x89 = true → s.hub.on MPH.TRAIN_DONE = true → s.hub.on MPH.TRACK_PERIOD_MS = true →
      Completes (.wckTracking b rdly wdly vref) s fun g => g.rd MPH.BTRIM_RDLY 0 b = rdly % 256 ∧
        g.rd MPH.BTRIM_WDLY 0 b = wdly % 256 ∧ g.rd MPH.BTRIM_VREF 0 b = vref % 256 ∧
        (Hub.drifted (s.hub.rd MPH.BTRIM_RDLY 0 b) (rdly % 256) = true → g.bit HDR.ESTAT 1 0x89 = true))

/-- Ethernet and the lume data ports (R455 to R459, R464 to R469, R471). Where the spec leaves a point open, its clauses
follow the model's choices: log entries 47 to 49, 137, 138 and 140. -/
def Obligations.EthernetAndLumeCommandsComplete : Prop :=
  ∀ s : State, s.Inv →
    (∀ (m : Fin 2) fcsOk room frame, s.hub.up (0x90 + m) = true → frame.length < 64 →
      Completes (.ethFrameRx m fcsOk room frame) s fun g => g = s.hub.cnt ETH.CNT_RXRUNT_COUNT m) ∧
    (∀ (m : Fin 2) fcsOk room frame, s.hub.up (0x90 + m) = true → 64 ≤ frame.length → be16 frame 12 = 0x8808 →
      Completes (.ethFrameRx m fcsOk room frame) s fun g => g = s.hub.cnt ETH.CNT_RXCTL_COUNT m) ∧
    (∀ (m : Fin 2) fcsOk room frame, s.hub.up (0x90 + m) = true → 64 ≤ frame.length → be16 frame 12 ≠ 0x8808 →
      s.hub.on ETH.VMAP_A_EN m (s.hub.vmapIndex m frame) = false →
      Completes (.ethFrameRx m fcsOk room frame) s fun g => g = s.hub.cnt ETH.CNT_NOMAP_COUNT m) ∧
    (∀ (m : Fin 2) fcsOk frame, s.hub.up (0x90 + m) = true → 64 ≤ frame.length → be16 frame 12 ≠ 0x8808 →
      frame.length ≤ s.hub.rd ETH.CFG_MAXLEN m → frame.length ≤ 9216 → s.hub.macHeld m + frame.length ≤ 32768 → s.hub.vmapIndex m frame ≠ 4095 →
      s.hub.on ETH.VMAP_A_EN m (s.hub.vmapIndex m frame) = true →
      Completes (.ethFrameRx m fcsOk none frame) s fun g =>
        g = (s.hub.inject 10 (frameCells (s.hub.rd ETH.VMAP_A_ITID m (s.hub.vmapIndex m frame))
          (if s.hub.on ETH.VMAP_A_KIND m (s.hub.vmapIndex m frame) then 1 else 5) (!fcsOk)
          (if s.hub.vmapIndex m frame ≠ 0 ∧ s.hub.on ETH.VMAP_A_STRIP m (s.hub.vmapIndex m frame) = true then stripTag frame
            else frame))).cnt (if fcsOk then ETH.CNT_RXOK_COUNT else ETH.CNT_RXFCS_COUNT) m) ∧
    (∀ tid poison frame, s.hub.domOn 2 = true → s.hub.up 0x90 = true → s.hub.up 0x91 = true → s.hub.ethMatch tid = none →
      Completes (.ethFrameTx tid poison frame) s fun g => g = s.hub.cnt ETH.CNT_TXNOMAP_COUNT) ∧
    (∀ tid poison frame m v, s.hub.domOn 2 = true → s.hub.up 0x90 = true → s.hub.up 0x91 = true → s.hub.ethMatch tid = some (m, v) →
      s.hub.on ETH.VMAP_A_STRIP m v = false →
      Completes (.ethFrameTx tid poison frame) s fun g =>
        Tab.get [] m g.ethOut = Tab.get [] m s.hub.ethOut ++ [if poison then stomp frame else frame] ∧
        g.rd ETH.CNT_TXSTOMP_COUNT m =
          (if poison then s.hub.oneMore ETH.CNT_TXSTOMP_COUNT m else s.hub.rd ETH.CNT_TXSTOMP_COUNT m) ∧
        g.rd ETH.CNT_TXOK_COUNT m = (if poison then s.hub.rd ETH.CNT_TXOK_COUNT m else s.hub.oneMore ETH.CNT_TXOK_COUNT m)) ∧
    (∀ r (m : Fin 2) a v, s.hub.Grants r ETH.VMAP_B_ETID m → s.hub.rd ETH.hStage m = a + 1 → s.hub.rd ETH.VSEL_V m < 4095 →
      (bits a 31 1 = 0 ∨ assignable (bits a 0 20) = true ∧ assignable (bits v 0 20) = true ∧
        (bits a 21 1 = 1 → s.hub.rd ETH.VSEL_V m ≠ 0) ∧ s.hub.ethMatch (bits v 0 20) = none) →
      Completes (.vmapWrite r m v) s fun g => g.rd ETH.hStage m = 0 ∧
        g.rd ETH.VMAP_A_ITID m (s.hub.rd ETH.VSEL_V m) = bits a 0 20 ∧
        g.rd ETH.VMAP_A_KIND m (s.hub.rd ETH.VSEL_V m) = bits a 20 1 ∧
        g.rd ETH.VMAP_A_STRIP m (s.hub.rd ETH.VSEL_V m) = bits a 21 1 ∧
        g.rd ETH.VMAP_A_PCP m (s.hub.rd ETH.VSEL_V m) = bits a 24 3 ∧
        g.rd ETH.VMAP_A_EN m (s.hub.rd ETH.VSEL_V m) = bits a 31 1 ∧
        g.rd ETH.VMAP_B_ETID m (s.hub.rd ETH.VSEL_V m) = bits v 0 20) ∧
    (∀ (m : Fin 2) up bl fl, s.hub.up (0x90 + m) = true →
      Completes (.ethLinkChange m up bl fl) s fun g => g.rd ETH.STAT_LINK m = bnat up ∧ g.rd ETH.STAT_BLOCK_LOCK m = bnat bl ∧
        g.rd ETH.STAT_FEC_LOCK m = bnat fl ∧ (s.hub.on ETH.STAT_LINK m ≠ up → g.bit HDR.ISTAT 0 (0x90 + m) = true) ∧
        (s.hub.on ETH.STAT_LINK m = true → up = false → g.bit HDR.ESTAT 0 (0x90 + m) = true)) ∧
    (∀ (p : Fin 8) fcsOk frame, s.hub.up 0x92 = true → frame.length < 64 ∨ 1522 < frame.length ∨ fcsOk = false →
      Completes (.lumeFrameRx p fcsOk frame) s fun g => g = s.hub.cnt LMD.P_CNT_RXERR_COUNT 0 p) ∧
    (∀ (p : Fin 8) frame, s.hub.up 0x92 = true → 64 ≤ frame.length → frame.length ≤ 1522 →
      s.hub.on LMD.P_STAT_MODE 0 p = false ∨ s.hub.domOn 2 = true → s.hub.on LMD.P_MAP_EN 0 p = true →
      s.hub.mayEnter 12 = true →
      Completes (.lumeFrameRx p true frame) s fun g =>
        g = (s.hub.inject 12 (frameCells (s.hub.rd LMD.P_MAP_ITID 0 p) 1 false frame)).cnt LMD.P_CNT_RX_COUNT 0 p) ∧
    (∀ tid frame p, s.hub.up 0x92 = true → s.hub.domOn 2 = true → 64 ≤ frame.length → frame.length ≤ 1522 → s.hub.lumeMatch tid = some p →
      Completes (.lumeFrameTx tid frame) s fun g => Tab.get [] p g.lumeOut = Tab.get [] p s.hub.lumeOut ++ [frame] ∧
        g.rd LMD.P_CNT_TX_COUNT 0 p = s.hub.oneMore LMD.P_CNT_TX_COUNT 0 p ∧
        (s.hub.rd PDM.STATE_CURRENT ≠ 2 → g.rd LMD.P_STAT_MODE 0 p = 0)) ∧
    (∀ r v a, s.hub.Grants r LMD.P_ETID_ETID 0 → s.hub.rd LMD.hStage 0 (s.hub.rd LMD.PSEL_PORT) = a + 1 →
      (bits a 31 1 = 0 ∨ assignable (bits a 0 20) = true ∧ assignable (bits v 0 20) = true ∧
        s.hub.lumeMatch (bits v 0 20) = none) →
      Completes (.portMapWrite r v) s fun g => g.rd LMD.P_MAP_ITID 0 (s.hub.rd LMD.PSEL_PORT) = bits a 0 20 ∧
        g.rd LMD.P_MAP_EN 0 (s.hub.rd LMD.PSEL_PORT) = bits a 31 1 ∧
        g.rd LMD.P_ETID_ETID 0 (s.hub.rd LMD.PSEL_PORT) = bits v 0 20) ∧
    (∀ p : Fin 8, s.hub.up 0x92 = true → s.hub.rd PDM.STATE_CURRENT = 2 ∨ s.hub.on LMD.P_CFG_LOSS_MS 0 p = true →
      s.hub.on LMD.P_STAT_MODE 0 p = false →
      Completes (.sceneEntry p) s fun g => g.rd LMD.P_STAT_MODE 0 p = 1 ∧ g.bit HDR.ISTAT 0 0x92 = true) ∧
    (∀ p : Fin 8, s.hub.up 0x92 = true → s.hub.on LMD.P_STAT_MODE 0 p = true →
      Completes (.sceneRepeat p) s fun g => Tab.get [] p.val g.lumeOut = Tab.get [] p.val s.hub.lumeOut ++
        ([0, 1, 2, 3].map (s.hub.sceneFrame p)).filter fun fr => !fr.isEmpty) ∧
    (∀ (p : Fin 8) up hi master sqi anFail, s.hub.up (0x93 + p) = true →
      Completes (.t1lLinkChange p up hi master sqi anFail) s fun g => g.rd LMP.STAT_LINK p = bnat up ∧
        g.rd LMP.STAT_SQI p = (if up then sqi else 0) % 2 ^ LMP.STAT_SQI.w ∧
        (s.hub.on LMP.STAT_LINK p ≠ up → g.bit HDR.ISTAT 0 (0x93 + p) = true) ∧
        (s.hub.on LMP.STAT_LINK p = true → up = false → g.bit HDR.ESTAT 0 (0x93 + p) = true ∧
          g.rd LMP.CNT_LINKLOSS_COUNT p = s.hub.oneMore LMP.CNT_LINKLOSS_COUNT p) ∧
        (s.hub.on LMP.CFG_AN_EN p = true → anFail = true → g.bit HDR.ESTAT 1 (0x93 + p) = true))

/-- The USB hub and the ports of its upstream (R472 to R477, R494 to R498). Where the spec leaves a point open, its clauses
follow the model's choices: log entries 50, 51 and 119. -/
def Obligations.UsbHubCommandsComplete : Prop :=
  ∀ s : State, s.Inv →
    (∀ r v, s.hub.Grants r USB.CFG_UPSEL 0 → s.hub.up 0xA0 = true →
      Completes (.upstreamChange (some r) v) s fun g => g.rd USB.CFG_UPSEL = v % 2 ^ USB.CFG_UPSEL.w ∧
        g.rd USB.STAT_UPACT = (s.hub.wr USB.CFG_UPSEL v).upactOf) ∧
    (∀ v, s.hub.up 0xA0 = true → s.hub.upactOf ≠ s.hub.rd USB.STAT_UPACT →
      Completes (.upstreamChange none v) s fun g => g.rd USB.STAT_UPACT = s.hub.upactOf ∧ g.rd USB.hAttached = 0 ∧
        g.rd USB.STAT_HS = 0 ∧ g.rd UDF.STAT_ADDR = 0 ∧ g.rd UDF.STAT_CONFIGURED = 0 ∧
        (∀ n : Nat, n < 6 → g.rd USB.PORTSTAT_POWER 0 (n + 1) = 0 ∧ g.rd USB.PORTSTAT_CONNECT 0 (n + 1) = 0) ∧
        g.rd USB.CNT_UPCHG_COUNT = s.hub.oneMore USB.CNT_UPCHG_COUNT ∧ g.bit HDR.ISTAT 0 0xA0 = true ∧
        g.bit HDR.ESTAT 1 0xA0 = true) ∧
    (∀ hs, s.hub.up 0xA0 = true → s.hub.on USB.STAT_UPACT = true → s.hub.on USB.hAttached = false →
      Completes (.upstreamAttach hs) s fun g => g.rd USB.hAttached = 1 ∧
        g.rd USB.STAT_HS = bnat (hs || s.hub.rd USB.STAT_UPACT == 1)) ∧
    (∀ p : Fin 4, s.hub.up 0xA0 = true → s.hub.on USB.PORTSTAT_POWER 0 (p + 1) = true →
      Completes (.usbOvercurrent p) s fun g => g.rd USB.PORTSTAT_POWER 0 (p + 1) = 0 ∧ g.rd USB.PORTSTAT_CONNECT 0 (p + 1) = 0 ∧
        g.rd USB.PORTSTAT_ENABLE 0 (p + 1) = 0 ∧ g.rd USB.PORTSTAT_OVERCURRENT 0 (p + 1) = 1 ∧
        g.rd USB.CNT_OC_COUNT = s.hub.oneMore USB.CNT_OC_COUNT ∧ g.bit HDR.ESTAT 0 0xA0 = true) ∧
    (s.hub.up 0xA0 = true → s.hub.on USB.hAttached = true → s.hub.rd USB.STAT_UPACT ≠ 1 ∨ s.hub.rd RHA.STAT_BUS = 1 →
      Completes .hubSuspend s fun g => g.rd USB.STAT_SUSPENDED = 1 ∧
        (s.hub.on UDF.CTL_CONNECT = true → s.hub.on UDF.STAT_SUSPENDED = false →
          g.rd UDF.STAT_SUSPENDED = 1 ∧ g.bit HDR.ISTAT 6 0xA1 = true)) ∧
    (∀ port, s.hub.up 0xA0 = true → 1 ≤ port → port ≤ 7 → s.hub.on USB.hAttached = true →
      s.hub.on USB.STAT_SUSPENDED = true → s.hub.on USB.hWoken = false →
      Completes (.remoteWake port) s fun g => g.rd USB.CNT_WAKE_COUNT = s.hub.oneMore USB.CNT_WAKE_COUNT ∧
        g.bit HDR.ISTAT 2 0xA0 = true ∧
        (s.hub.agent = true → s.hub.rd USB.STAT_UPACT = 1 → s.hub.rd RHA.STAT_BUS = 1 → g.rd RHA.STAT_BUS = 0 ∧
          g.rd USB.STAT_SUSPENDED = 0 ∧ g.usbOut = s.hub.usbOut ++ [(s.hub.rd RHA.A_UTID_TID, .event 3 0 true s.hub.oldest)])) ∧
    (s.hub.up 0xA0 = true →
      Completes (.usbBusReset none) s fun g => g.rd USB.STAT_SUSPENDED = 0 ∧ g.rd USB.STAT_CONFIGURED = 0 ∧
        g.rd UDF.STAT_ADDR = 0 ∧ g.rd UDF.STAT_CONFIGURED = 0 ∧ g.rd UDF.STAT_SUSPENDED = 0 ∧ g.bit HDR.ISTAT 5 0xA1 = true ∧
        (∀ n : Nat, n < 6 → g.rd USB.PORTSTAT_POWER 0 (n + 1) = 0 ∧ g.rd USB.PORTSTAT_CONNECT 0 (n + 1) = 0)) ∧
    (∀ p : Fin 7, s.hub.up 0xA0 = true → s.hub.agent = false →
      Completes (.usbBusReset (some p)) s fun g => (p.val ≠ 6 → g = s.hub) ∧ (p.val = 6 → g = s.hub.udfReset)) ∧
    (s.hub.up 0xA0 = true → s.hub.on USB.STAT_SUSPENDED = true →
      Completes .hostResume s fun g => g.rd USB.STAT_SUSPENDED = 0 ∧ g.rd UDF.STAT_SUSPENDED = 0 ∧
        (s.hub.on UDF.WAKE_PENDING = true → s.hub.on USB.hWoken = false → g.rd UDF.WAKE_PENDING = 0 ∧
          g.rd UDF.WAKE_ABSORBED_COUNT = s.hub.oneMore UDF.WAKE_ABSORBED_COUNT)) ∧
    (∀ p : Fin 8, s.hub.up 0xA0 = true → s.hub.on USB.hAttached = true → 1 ≤ p.val → s.hub.bit USB.CFG_PORTEN (p - 1) = true →
      Completes (.hubRequest (.powerOn p)) s fun g => g.rd USB.PORTSTAT_POWER 0 p = 1 ∧ g.rd USB.PORTSTAT_OVERCURRENT 0 p = 0) ∧
    (∀ p : Fin 8, s.hub.up 0xA0 = true → s.hub.on USB.hAttached = true → 1 ≤ p.val → p.val < 7 →
      s.hub.bit USB.CFG_PORTEN (p - 1) = true →
      Completes (.hubRequest (.powerOff p)) s fun g => g.rd USB.PORTSTAT_POWER 0 p = 0 ∧ g.rd USB.PORTSTAT_CONNECT 0 p = 0) ∧
    (∀ p : Fin 8, s.hub.up 0xA0 = true → s.hub.on USB.hAttached = true → 1 ≤ p.val → s.hub.bit USB.CFG_PORTEN (p - 1) = true →
      s.hub.on USB.PORTSTAT_CONNECT 0 p = true →
      Completes (.hubRequest (.reset p)) s fun g => g.rd USB.PORTSTAT_ENABLE 0 p = 1 ∧ g.rd USB.PORTSTAT_SUSPEND 0 p = 0 ∧
        (p.val = 7 → g.rd UDF.STAT_ADDR = 0)) ∧
    (∀ p : Fin 8, s.hub.up 0xA0 = true → s.hub.on USB.hAttached = true → 1 ≤ p.val → s.hub.bit USB.CFG_PORTEN (p - 1) = true →
      s.hub.on USB.PORTSTAT_ENABLE 0 p = true →
      Completes (.hubRequest (.suspend p)) s fun g => g.rd USB.PORTSTAT_SUSPEND 0 p = 1 ∧
        (p.val = 7 → g.on UDF.STAT_SUSPENDED = true)) ∧
    (∀ (p : Fin 7) speed, s.hub.up 0xA0 = true → p.val ≠ 6 → s.hub.portUsable (p + 1) = true →
      Completes (.deviceConnect p true speed) s fun g => g.rd USB.PORTSTAT_CONNECT 0 (p + 1) = 1 ∧
        g.rd USB.PORTSTAT_ENABLE 0 (p + 1) = 0 ∧ g.rd USB.PORTSTAT_SPEED 0 (p + 1) = speed % 4) ∧
    (∀ (p : Fin 7) speed, s.hub.up 0xA0 = true →
      Completes (.deviceConnect p false speed) s fun g =>
        (p.val ≠ 6 → g.rd USB.PORTSTAT_CONNECT 0 (p + 1) = 0 ∧ g.rd USB.PORTSTAT_ENABLE 0 (p + 1) = 0) ∧
        (p.val = 6 → g = s.hub))

/-- The remote host agent, at the agent and at the session end (R479 to R488, R495, R500). Where the spec leaves a point open,
its clauses follow the model's choices: log entries 52, 53 and 120. -/
def Obligations.UsbAgentCommandsComplete : Prop :=
  ∀ s : State, s.Inv →
    (∀ r (ring : Fin 256), s.hub.Accepts r RHA.DB_RING 0 → s.hub.session = false →
      Completes (.doorbell r ring) s fun g => g.rd RHA.DB_RING = ring ∧ g.usbOut = s.hub.usbOut) ∧
    (∀ r (ring : Fin 256) i w, s.hub.Accepts r RHA.DB_RING 0 → s.hub.session = true → s.hub.on RHA.RCFG_EN 0 ring = true →
      s.hub.rd RHA.RPTR_HEAD 0 ring = i → w = (s.hub.twords (descAddr ring i 0) 8) → (w.getD 0 0).testBit 0 = true →
      s.hub.rd RHA.RPTR_INFLIGHT 0 ring < 16 → bits (w.getD 1 0) 0 13 ≤ 4096 →
      bits (w.getD 1 0) 16 12 + ceilDiv (bits (w.getD 1 0) 0 13) 32 ≤ 4096 →
      (s.hub.usbFly.filter fun x => x.dtid == s.hub.rd RHA.RDTID_TID 0 ring) = [] →
      s.hub.rd RHA.RCFG_XTYPE 0 ring ≠ 0 → s.hub.on RHA.RCFG_IN 0 ring = true →
      Completes (.doorbell r ring) s fun g => (g.usbOut.drop s.hub.usbOut.length).head? = some (s.hub.rd RHA.RDTID_TID 0 ring,
        .req ⟨ring, i, (w.getD 0 0).testBit 3, (w.getD 0 0).testBit 2, bits (w.getD 1 0) 0 13,
          s.hub.rd RHA.hSeq 0 (s.hub.rd RHA.RDTID_TID 0 ring), s.hub.rd RHA.RCFG_DEVADDR 0 ring, s.hub.rd RHA.RCFG_EP 0 ring,
          true, s.hub.rd RHA.RCFG_XTYPE 0 ring, s.hub.rd RHA.RCFG_MPS 0 ring, s.hub.rd RHA.RCFG_SPEED 0 ring,
          s.hub.rd RHA.RCFG_PORT 0 ring, s.hub.rd RHA.RINTV_INTERVAL 0 ring, bits (w.getD 2 0) 0 16, []⟩ [])) ∧
    (∀ tid q data sl, s.hub.agent = true → s.hub.on RHA.A_DTID_VALID = true → s.hub.rd RHA.A_DTID_TID = tid →
      s.hub.domOn 2 = true → s.hub.rd USB.STAT_UPACT = 1 → (List.range 64).find? (fun sl => !Tab.has sl s.hub.usbHeld) = some sl →
      Completes (.req tid q data) s fun g => (Tab.find sl g.usbHeld).map UsbHeld.q = some q ∧
        (Tab.find sl g.usbHeld).map UsbHeld.data = some data ∧ (Tab.find sl g.usbHeld).map UsbHeld.naks = some 0 ∧
        g.rd RHA.CNT_REQ_COUNT = s.hub.oneMore RHA.CNT_REQ_COUNT ∧ g.rd RHA.hNext = (q.reqseq + 1) % 65536) ∧
    (∀ tid q data sl, s.hub.agent = true → s.hub.on RHA.A_DTID_VALID = true → s.hub.rd RHA.A_DTID_TID = tid →
      s.hub.domOn 2 = true → s.hub.rd USB.STAT_UPACT ≠ 1 → (List.range 64).find? (fun sl => !Tab.has sl s.hub.usbHeld) = some sl →
      Completes (.req tid q data) s fun g => (lastCpl g).map UsbCpl.status = some 9 ∧
        (lastCpl g).map UsbCpl.reqseq = some q.reqseq ∧ g.rd RHA.CNT_CPL_COUNT = s.hub.oneMore RHA.CNT_CPL_COUNT) ∧
    (∀ (slot : Fin 64) x, s.hub.agent = true → s.hub.rd RHA.STAT_BUS = 0 → s.hub.heldHead slot = some x →
      Completes (.nakRetry slot) s fun g => Tab.find slot.val g.usbHeld = some { x with naks := min 65535 (x.naks + 1) } ∧
        g.rd RHA.CNT_NAK_COUNT = s.hub.oneMore RHA.CNT_NAK_COUNT) ∧
    (∀ (slot : Fin 64) x, s.hub.agent = true → s.hub.rd RHA.STAT_BUS = 0 → s.hub.heldHead slot = some x → x.q.tmoMs ≠ 0 →
      Completes (.usbTransferTimeout slot) s fun g => (lastCpl g).map UsbCpl.status = some 3 ∧
        (lastCpl g).map UsbCpl.reqseq = some x.q.reqseq ∧ g.usbHeld = Tab.del slot.val s.hub.usbHeld ∧
        g.rd RHA.CNT_CPL_COUNT = s.hub.oneMore RHA.CNT_CPL_COUNT) ∧
    (∀ (slot : Fin 64) status actual toggle frame data x, s.hub.agent = true → s.hub.rd RHA.STAT_BUS = 0 →
      s.hub.heldHead slot = some x →
      Completes (.usbTransferDone slot status actual toggle frame data) s fun g => g.usbHeld = Tab.del slot.val s.hub.usbHeld ∧
        g.usbOut = s.hub.usbOut ++ [(s.hub.rd RHA.A_UTID_TID,
          .cpl ⟨x.q.ring, x.q.slot, status, actual, x.q.reqseq, toggle, x.naks, frame⟩ (if x.q.isIn then data.take actual else []))] ∧
        g.rd RHA.CNT_CPL_COUNT = s.hub.oneMore RHA.CNT_CPL_COUNT) ∧
    (∀ tid c data, s.hub.session = true → s.hub.domOn 2 = true → s.hub.rd RHA.RUTID_TID 0 c.ring ≠ tid →
      Completes (.cplReceived tid c data) s fun g => g.rd RHA.CNT_STRAY_COUNT = s.hub.oneMore RHA.CNT_STRAY_COUNT ∧
        g.bit HDR.ESTAT 3 0xA2 = true) ∧
    (∀ tid c data x, s.hub.session = true → s.hub.domOn 2 = true → s.hub.rd RHA.RUTID_TID 0 c.ring = tid →
      s.hub.usbFly.find? (fun x => x.ring == c.ring && x.slot == c.slot && x.seq == c.reqseq) = some x →
      (∀ k : Nat, k < 256 → s.hub.on RHA.hRung 0 k = false) →
      Completes (.cplReceived tid c data) s fun g => g.usbFly = s.hub.usbFly.erase x ∧
        g.rd RHA.RPTR_DONE 0 x.ring = (s.hub.rd RHA.RPTR_DONE 0 x.ring + 1) % 2 ^ RHA.RPTR_DONE.w ∧
        g.tfld (descAddr x.ring x.slot 0) 0 1 = 0 ∧
        g.tword (descAddr x.ring x.slot 6) = c.status % 256 + c.actual % 8192 * 256 + bnat c.toggle * 2 ^ 24 ∧
        g.rd RHA.CNT_CPL_COUNT = s.hub.oneMore RHA.CNT_CPL_COUNT) ∧
    (∀ r v x, s.hub.Accepts r RHA.CANCEL_GO 0 → v.testBit 16 = true → s.hub.session = true →
      s.hub.usbFly.find? (fun x => x.ring == v % 256 && x.slot == bits v 8 4) = some x →
      Completes (.cancel r v) s fun g => g.rd RHA.CANCEL_RING = v % 256 ∧ g.rd RHA.CANCEL_SLOT = bits v 8 4 ∧
        g.usbOut = s.hub.usbOut ++ [(x.dtid, .cancel x.ring x.slot x.seq)]) ∧
    (∀ tid ring slot reqseq sl x, s.hub.agent = true → s.hub.domOn 2 = true → s.hub.on RHA.A_DTID_VALID = true → s.hub.rd RHA.A_DTID_TID = tid →
      (s.hub.heldList.filter fun p => p.2.q.ring == ring && p.2.q.slot == slot && p.2.q.reqseq == reqseq) = [(sl, x)] →
      Completes (.cancelReceived tid ring slot reqseq) s fun g => g.usbHeld = Tab.del sl s.hub.usbHeld ∧
        (lastCpl g).map UsbCpl.status = some 6 ∧ (lastCpl g).map UsbCpl.reqseq = some reqseq) ∧
    (∀ r v, s.hub.Accepts r RHA.BUSCTL_GO 0 → v.testBit 4 = true → v % 4 ≠ 0 → s.hub.session = true →
      Completes (.busctl r v) s fun g => g.rd RHA.BUSCTL_OP = v % 2 ^ RHA.BUSCTL_OP.w ∧
        g.usbOut = s.hub.usbOut ++ [(s.hub.rd RHA.RDTID_TID 0 (s.hub.rd RHA.RSEL_RING), .busctl (v % 4))]) ∧
    (∀ tid op, s.hub.agent = true → s.hub.domOn 2 = true → s.hub.on RHA.A_DTID_VALID = true → s.hub.rd RHA.A_DTID_TID = tid → 1 ≤ op → op ≤ 3 →
      Completes (.busctlReceived tid op) s fun g => g.rd RHA.STAT_BUS = (if op = 1 then 3 else op - 1) ∧
        g.usbOut.getLast? = some (s.hub.rd RHA.A_UTID_TID, .event 2 (if op = 1 then 3 else op - 1) false g.oldest) ∧
        (s.hub.rd USB.STAT_UPACT = 1 →
          (op = 1 → g.rd UDF.STAT_ADDR = 0) ∧ (op = 3 → g.rd USB.STAT_SUSPENDED = 0))) ∧
    (∀ tid ev bus wake oldest, s.hub.session = true → s.hub.domOn 2 = true → ev ≠ 1 →
      Completes (.event tid ev bus wake oldest) s fun g => g.rd RHA.EVLOG_TID = tid % 2 ^ RHA.EVLOG_TID.w ∧
        g.rd RHA.EVLOG_EVENT = ev % 2 ^ RHA.EVLOG_EVENT.w ∧ g.rd RHA.EVLOG_BUS = bus % 2 ^ RHA.EVLOG_BUS.w ∧
        g.rd RHA.EVLOG_WAKE = bnat wake ∧ g.bit HDR.ISTAT 1 0xA2 = true) ∧
    (∀ tid bus wake oldest x, s.hub.session = true → s.hub.domOn 2 = true →
      (s.hub.usbFly.filter fun x => x.utid == tid && decide ((oldest + 65535 - x.seq) % 65536 < 32768)) = [x] →
      Completes (.event tid 1 bus wake oldest) s fun g => g.rd RHA.CNT_LOST_COUNT = s.hub.oneMore RHA.CNT_LOST_COUNT ∧
        g.bit HDR.ESTAT 2 0xA2 = true) ∧
    (s.hub.agent = true → s.hub.usbHeld ≠ [] ∨ s.hub.on RHA.A_DTID_VALID = true →
      Completes .alive s fun g => g.usbOut = s.hub.usbOut ++
        [(s.hub.rd RHA.A_UTID_TID, .event 1 (s.hub.rd RHA.STAT_BUS) false s.hub.oldest)]) ∧
    (∀ tid (ring : Fin 256), s.hub.session = true → s.hub.on RHA.RCFG_EN 0 ring = true → s.hub.rd RHA.RUTID_TID 0 ring = tid →
      Completes (.agentLost tid) s fun g => g.bit HDR.ESTAT 1 0xA2 = true ∧ g.bit HDR.ISTAT 2 0xA2 = true ∧
        (g.usbFly.all fun x => x.utid != tid) = true)

/-- The device function (R489 to R493). Where the spec leaves a point open, its clauses follow the model's choices: log entry
50. -/
def Obligations.UsbDeviceCommandsComplete : Prop :=
  ∀ s : State, s.Inv →
    (∀ bytes : Bytes, s.hub.udfLive = true → bytes.getD 0 0 = 0 → bytes.getD 1 0 = 5 →
      Completes (.setup bytes) s fun g => g.rd UDF.STAT_ADDR = leAt bytes 2 2 % 128) ∧
    (∀ bytes : Bytes, s.hub.udfLive = true → bytes.getD 0 0 = 0 → bytes.getD 1 0 = 9 →
      Completes (.setup bytes) s fun g => g.rd UDF.STAT_CONFIGURED = (if leAt bytes 2 2 = 0 then 0 else 1) ∧
        g.rd UDF.SETUP_LO_DATA = leAt bytes 0 4 ∧ g.rd UDF.SETUP_HI_DATA = leAt bytes 4 4 ∧ g.bit HDR.ISTAT 0 0xA1 = true) ∧
    (∀ bytes : Bytes, s.hub.udfLive = true → 9 < (bytes.getD 1 0).toNat →
      Completes (.setup bytes) s fun g => g.rd UDF.SETUP_LO_DATA = leAt bytes 0 4 ∧ g.rd UDF.SETUP_HI_DATA = leAt bytes 4 4 ∧
        g.rd UDF.STAT_CSTATE = (if leAt bytes 6 2 = 0 then 3 else if 128 ≤ (bytes.getD 0 0).toNat then 1 else 2) ∧
        g.rd UDF.CNT_SETUP_COUNT = s.hub.oneMore UDF.CNT_SETUP_COUNT ∧ g.bit HDR.ISTAT 0 0xA1 = true ∧
        (s.hub.on UDF.STAT_CSTATE = true → g.rd UDF.STAT_CTRL_ABORT_SETUP = 1 ∧
          g.rd UDF.CNT_ABORT_COUNT = s.hub.oneMore UDF.CNT_ABORT_COUNT)) ∧
    (∀ r len, s.hub.Accepts r UDF.EP0CTL_GO 0 →
      Completes (.ep0Go r len) s fun g => g.rd UDF.EP0CTL_LEN = len % 2 ^ UDF.EP0CTL_LEN.w ∧
        (s.hub.rd UDF.STAT_CSTATE = 1 ∨ s.hub.rd UDF.STAT_CSTATE = 2 → g.rd UDF.EP0CTL_BUSY = 1)) ∧
    (∀ r, s.hub.Accepts r UDF.EP0CTL_STALL 0 →
      Completes (.ep0Stall r) s fun g => g.rd UDF.STAT_CSTATE = 0 ∧ g.rd UDF.EP0CTL_BUSY = 0 ∧ g.rd UDF.hStall = 1) ∧
    (∀ r, s.hub.Accepts r UDF.EP0CTL_STATUS_GO 0 → s.hub.on UDF.hIn = false →
      Completes (.statusGo r) s fun g => g.rd UDF.STAT_CSTATE = 0) ∧
    (∀ data, s.hub.udfLive = true → s.hub.on UDF.hStall = false → s.hub.on UDF.hIn = false → s.hub.rd UDF.STAT_CSTATE = 2 →
      s.hub.on UDF.EP0CTL_BUSY = true →
      Completes (.ep0OutPacket data) s fun g => g.rd UDF.EP0CTL_LEN = min 64 data.length ∧ g.rd UDF.EP0CTL_BUSY = 0 ∧
        g.bit HDR.ISTAT 1 0xA1 = true ∧ g.bufBytes UDF.EP0BUF (min 64 data.length) = data.take 64) ∧
    (∀ r len, s.hub.Accepts r UDF.EP1CTL_INGO 0 →
      Completes (.ep1Ingo r len) s fun g => g.rd UDF.EP1CTL_INLEN = len % 2 ^ UDF.EP1CTL_INLEN.w ∧ g.rd UDF.EP1CTL_INBUSY = 1) ∧
    (∀ data, s.hub.udfLive = true → s.hub.on UDF.CTL_EP1_EN = true → s.hub.on UDF.STAT_CONFIGURED = true →
      s.hub.on UDF.EP1CTL_OUTFULL = false → s.hub.on UDF.EP1CTL_HALT_OUT = false →
      Completes (.ep1OutPacket data) s fun g => g.rd UDF.EP1CTL_OUTLEN = min 512 data.length ∧ g.rd UDF.EP1CTL_OUTFULL = 1 ∧
        g.bit HDR.ISTAT 3 0xA1 = true ∧ g.bufBytes UDF.EP1OUT (min 512 data.length) = data.take 512) ∧
    (∀ r len, s.hub.Accepts r UDF.EP2CTL_GO 0 →
      Completes (.ep2Go r len) s fun g => g.rd UDF.EP2CTL_LEN = len % 2 ^ UDF.EP2CTL_LEN.w ∧ g.rd UDF.EP2CTL_BUSY = 1) ∧
    (s.hub.udfLive = true → s.hub.on UDF.hStall = false → s.hub.rd UDF.STAT_CSTATE = 1 → s.hub.on UDF.EP0CTL_BUSY = true →
      Completes (.inTransaction 0) s fun g => g.udfOut = s.hub.udfOut ++ [(0, s.hub.bufBytes UDF.EP0BUF
          (min 64 (s.hub.rd UDF.EP0CTL_LEN)))] ∧ g.rd UDF.EP0CTL_BUSY = 0 ∧ g.bit HDR.ISTAT 1 0xA1 = true ∧
        g.rd UDF.STAT_CSTATE = (if s.hub.rd UDF.EP0CTL_LEN < 64 then 3 else 1)) ∧
    (s.hub.udfLive = true → s.hub.on UDF.CTL_EP1_EN = true → s.hub.on UDF.STAT_CONFIGURED = true →
      s.hub.on UDF.EP1CTL_INBUSY = true → s.hub.on UDF.EP1CTL_HALT_IN = false →
      Completes (.inTransaction 1) s fun g => g.udfOut = s.hub.udfOut ++ [(1, s.hub.bufBytes UDF.EP1IN
          (min 512 (s.hub.rd UDF.EP1CTL_INLEN)))] ∧ g.rd UDF.EP1CTL_INBUSY = 0 ∧ g.bit HDR.ISTAT 2 0xA1 = true) ∧
    (s.hub.udfLive = true → s.hub.on UDF.CTL_EP2_EN = true → s.hub.on UDF.STAT_CONFIGURED = true →
      s.hub.on UDF.EP2CTL_BUSY = true → s.hub.on UDF.hHalt2 = false →
      Completes (.inTransaction 2) s fun g => g.udfOut = s.hub.udfOut ++ [(2, s.hub.bufBytes UDF.EP2IN
          (min 64 (s.hub.rd UDF.EP2CTL_LEN)))] ∧ g.rd UDF.EP2CTL_BUSY = 0 ∧ g.bit HDR.ISTAT 4 0xA1 = true) ∧
    (∀ r, s.hub.Accepts r UDF.WAKE_REQ 0 →
      Completes (.wakeReq r) s fun g =>
        (s.hub.on UDF.STAT_SUSPENDED = true → s.hub.on UDF.STAT_RWAKE_EN = true → g.rd UDF.WAKE_PENDING = 1) ∧
        (s.hub.on UDF.STAT_RWAKE_EN = false ∨ s.hub.on UDF.STAT_SUSPENDED = false ∧ s.hub.resuming = false →
          g.bit HDR.ESTAT 0 0xA1 = true) ∧
        (s.hub.on UDF.STAT_RWAKE_EN = true → s.hub.on UDF.STAT_SUSPENDED = false → s.hub.resuming = true →
          g.rd UDF.WAKE_ABSORBED_COUNT = s.hub.oneMore UDF.WAKE_ABSORBED_COUNT))

/-- The contracts on Ocael cables (R501 to R532, R538, R539). Where the spec leaves a point open, its clauses follow the
model's choices: log entries 55, 56, 122, 123 and 143. -/
def Obligations.ClaspCommandsComplete : Prop :=
  ∀ s : State, s.Inv →
    (∀ (p : Fin 8) r100 acc, s.hub.live (0xB0 + p) = true → s.hub.solitaire = false → s.hub.rd CLP.STAT_STATE p = 1 → s.hub.rd CLP.STAT_SW p = 0 →
      s.hub.on CLP.CFG_PREF p = true → s.hub.on CLP.CFG_SRC_CAP p = true → s.hub.on CLP.STAT_POWER_OK p = true →
      s.hub.bootFed = false →
      Completes (.detection p r100 acc) s fun g => g.rd CLP.DET_R_100 p = min 1023 r100 ∧
        g.rd CLP.DET_PASS p = bnat (Hub.detPass r100 acc) ∧
        (Hub.detPass r100 acc = true → g.rd CLP.STAT_SW p = 1 ∧ g.rd CLP.STAT_ROLE p = 1 ∧ g.rd CLP.STAT_STATE p = 3 ∧
          g.rd CLP.CONTRACT_ILIM p = 75) ∧
        (Hub.detPass r100 acc = false → g.bit HDR.ESTAT 7 (0xB0 + p) = true ∧ g.rd CLP.STAT_SW p = 0)) ∧
    (∀ p : Fin 8, s.hub.live (0xB0 + p) = true → s.hub.solitaire = false → s.hub.rd CLP.hWant p = 1 →
      Completes (.claspClosure p) s fun g => g.rd CLP.STAT_SW p = 1 ∧ g.rd CLP.hWant p = 0 ∧
        (s.hub.rd CLP.STAT_STATE p = 5 → g.rd CLP.STAT_ROLE p = 1)) ∧
    (∀ p : Fin 8, s.hub.live (0xB0 + p) = true → s.hub.solitaire = false → s.hub.rd CLP.hWant p = 2 →
      Completes (.claspClosure p) s fun g => g.rd CLP.STAT_SW p = 2 ∧ g.rd CLP.hWant p = 0 ∧
        (s.hub.rd CLP.STAT_STATE p = 5 → g.rd CLP.STAT_ROLE p = 2)) ∧
    (∀ p : Fin 8, s.hub.live (0xB0 + p) = true → s.hub.solitaire = false → s.hub.rd CLP.hWant p = 0 → s.hub.rd CLP.STAT_STATE p = 1 →
      s.hub.rd CLP.CFG_PREF p = 0 → s.hub.on CLP.CFG_SNK_CAP p = true →
      Completes (.claspClosure p) s fun g => g.rd CLP.STAT_SW p = 2 ∧ g.rd CLP.STAT_ROLE p = 2 ∧ g.rd CLP.STAT_STATE p = 3) ∧
    (∀ (p : Fin 8) c, s.hub.up (0xB0 + p) = true → s.hub.on CLP.STAT_SW p = true →
      Completes (.claspTrip p c) s fun g => g.rd CLP.STAT_STATE p = 7 ∧ g.rd CLP.STAT_SW p = 0 ∧ g.rd CLP.STAT_ROLE p = 0 ∧
        g.rd CLP.CNT_TRIP_COUNT p = s.hub.oneMore CLP.CNT_TRIP_COUNT p ∧
        g.bit HDR.ESTAT (match c with | .overVoltage => 0 | .overCurrent => 1 | .short => 2 | .reverse => 3) (0xB0 + p) = true) ∧
    (∀ (p : Fin 8) tok vbus imax pwr, s.hub.claspOn p = true →
      Completes (.offer p tok vbus imax pwr) s fun g => g.rd CLP.PARTNER_IMAX p = imax % 2 ^ CLP.PARTNER_IMAX.w ∧
        g.rd CLP.PARTNER_SPRIO p = pwr % 16 ∧ g.rd CLP.PARTNER_POWER_OK p = bits pwr 4 1 ∧ g.rd CLP.PARTNER_VALID p = 1 ∧
        g.rd CLP.CNT_MSG_RX p = s.hub.oneMore CLP.CNT_MSG_RX p ∧
        (s.hub.rd CLP.STAT_ROLE p = 2 → Tab.get [] p.val g.lmcQ = Tab.get [] p.val s.hub.lmcQ ++ [⟨0x0B, tok,
          Hub.claspBody 2 [(4, 2, s.hub.rd CLP.REQ_IREQ p), (10, 1, s.hub.pwrOf p), (11, 1, s.hub.rd CLP.REQ_ARM p)], false⟩])) ∧
    (∀ (p : Fin 8) tok ireq pwr arm, s.hub.claspOn p = true → s.hub.rd CLP.STAT_ROLE p = 1 → s.hub.rd CLP.STAT_STATE p ≠ 5 →
      s.hub.rd CLP.STAT_STATE p ≠ 6 → s.hub.imaxOffer p < ireq →
      Completes (.request p tok ireq pwr arm) s fun g => Tab.get [] p.val g.lmcQ = Tab.get [] p.val s.hub.lmcQ ++
        [⟨0x0B, tok, Hub.claspBody 4 [(4, 1, 1)], false⟩] ∧ g.rd CLP.CONTRACT_ICUR p = s.hub.rd CLP.CONTRACT_ICUR p) ∧
    (∀ (p : Fin 8) tok ireq pwr arm, s.hub.claspOn p = true → s.hub.rd CLP.STAT_ROLE p = 1 → s.hub.rd CLP.STAT_STATE p ≠ 5 →
      s.hub.rd CLP.STAT_STATE p ≠ 6 → ireq ≤ s.hub.imaxOffer p → ireq < s.hub.rd CLP.CONTRACT_ICUR p →
      Completes (.request p tok ireq pwr arm) s fun g => Tab.get [] p.val g.lmcQ = Tab.get [] p.val s.hub.lmcQ ++
        [⟨0x0B, tok, Hub.claspBody 3 [(4, 2, ireq),
          (11, 1, bnat (arm && s.hub.on CLP.CFG_FS_EN p && s.hub.on CLP.CFG_GUARD p))], false⟩] ∧
        g.rd CLP.hLower p = 1 ∧ g.rd CLP.hPend p = (ireq + 1) % 2 ^ 64) ∧
    (∀ (p : Fin 8) tok ireq pwr arm, s.hub.claspOn p = true → s.hub.rd CLP.STAT_ROLE p = 1 → s.hub.rd CLP.STAT_STATE p = 4 →
      ireq ≤ s.hub.imaxOffer p → s.hub.rd CLP.CONTRACT_ICUR p ≤ ireq →
      Completes (.request p tok ireq pwr arm) s fun g => g.rd CLP.CONTRACT_ICUR p = ireq % 2 ^ CLP.CONTRACT_ICUR.w ∧
        g.rd CLP.CONTRACT_ILIM p = iLimOf ireq % 2 ^ CLP.CONTRACT_ILIM.w ∧ g.rd CLP.STAT_STATE p = 4) ∧
    (∀ (p : Fin 8) tok ireq arm, s.hub.claspOn p = true → s.hub.asked p 2 tok = true →
      Completes (.accept p tok ireq arm) s fun g => g.claspAsk = Tab.del p.val s.hub.claspAsk ∧
        g.rd CLP.hPend p = (ireq + 1) % 2 ^ 64 ∧
        (s.hub.rd CLP.STAT_SW p = 2 ∨ s.hub.on CLP.CFG_GUARD p = true → g.rd CLP.STAT_SW p = 2) ∧
        (s.hub.rd CLP.STAT_SW p ≠ 2 → s.hub.on CLP.CFG_GUARD p = false → g.rd CLP.hWant p = 2)) ∧
    (∀ (p : Fin 8) tok reason, s.hub.claspOn p = true → s.hub.asked p 2 tok = true →
      Completes (.reject p tok reason) s fun g => g.claspAsk = Tab.del p.val s.hub.claspAsk ∧
        g.rd CLP.CONTRACT_ICUR p = s.hub.rd CLP.CONTRACT_ICUR p ∧ g.rd CLP.CNT_MSG_RX p = s.hub.oneMore CLP.CNT_MSG_RX p) ∧
    (∀ (p : Fin 8) tok icur ilim, s.hub.claspOn p = true → s.hub.rd CLP.STAT_ROLE p = 2 →
      Completes (.ready p tok icur ilim) s fun g => g.rd CLP.CONTRACT_ICUR p = icur % 2 ^ CLP.CONTRACT_ICUR.w ∧
        g.rd CLP.CONTRACT_ILIM p = ilim % 2 ^ CLP.CONTRACT_ILIM.w ∧ g.rd CLP.STAT_STATE p = 4 ∧
        g.bit HDR.ISTAT 1 (0xB0 + p) = true ∧ Tab.get [] p.val g.lmcQ = Tab.get [] p.val s.hub.lmcQ ++
          [⟨0x0B, tok, Hub.claspBody 13 [(4, 1, 5)], false⟩]) ∧
    (∀ p : Fin 8, s.hub.live (0xB0 + p) = true → s.hub.on CLP.hLower p = true → s.hub.rd CLP.STAT_ROLE p = 1 →
      Completes (.limitLower p) s fun g => g.rd CLP.CONTRACT_ICUR p = (s.hub.rd CLP.hPend p - 1) % 2 ^ CLP.CONTRACT_ICUR.w ∧
        g.rd CLP.CONTRACT_ILIM p = iLimOf (s.hub.rd CLP.hPend p - 1) % 2 ^ CLP.CONTRACT_ILIM.w ∧ g.rd CLP.STAT_STATE p = 4 ∧
        g.rd CLP.hLower p = 0) ∧
    (∀ (p : Fin 8) tok vbus vcable icable pwr role, s.hub.claspOn p = true →
      Completes (.status p tok vbus vcable icable pwr role) s fun g => g.rd CLP.PARTNER_SPRIO p = pwr % 16 ∧
        g.rd CLP.PARTNER_TRACK p = bits pwr 5 1 ∧ g.rd CLP.PARTNER_FS_CAP p = bits pwr 6 1 ∧ g.rd CLP.PARTNER_VALID p = 1 ∧
        g.rd CLP.hFar p = role % 4) ∧
    (∀ (p : Fin 8) tok, s.hub.claspOn p = true →
      Completes (.statusReq p tok) s fun g => g.rd CLP.CNT_MSG_TX p = s.hub.oneMore CLP.CNT_MSG_TX p ∧
        (Tab.get [] p.val g.lmcQ).length = (Tab.get [] p.val s.hub.lmcQ).length + 1 ∧
        (Tab.get [] p.val g.lmcQ).getLast?.map (fun m => (m.tok, m.payload.getD 0 0)) = some (tok, 6)) ∧
    (∀ (p : Fin 8) tok pwr, s.hub.claspOn p = true → (Tab.find p.val s.hub.claspAsk).map ClaspAsk.ctype ≠ some 8 →
      s.hub.swapRefusal p pwr = 0 →
      Completes (.swapReq p tok pwr) s fun g => g.rd CLP.STAT_STATE p = 5 ∧ g.rd CLP.CONTRACT_ICUR p = 0 ∧
        g.rd CLP.CONTRACT_ILIM p = s.hub.rd CLP.CONTRACT_ILIM p % 2 ^ CLP.CONTRACT_ILIM.w ∧
        Tab.get [] p.val g.lmcQ = Tab.get [] p.val s.hub.lmcQ ++ [⟨0x0B, tok, Hub.claspBody 9 [(10, 1, s.hub.pwrOf p)], false⟩]) ∧
    (∀ (p : Fin 8) tok pwr, s.hub.claspOn p = true → (Tab.find p.val s.hub.claspAsk).map ClaspAsk.ctype ≠ some 8 →
      s.hub.swapRefusal p pwr ≠ 0 →
      Completes (.swapReq p tok pwr) s fun g => g.rd CLP.STAT_STATE p = s.hub.rd CLP.STAT_STATE p ∧
        Tab.get [] p.val g.lmcQ = Tab.get [] p.val s.hub.lmcQ ++
          [⟨0x0B, tok, Hub.claspBody 10 [(4, 1, s.hub.swapRefusal p pwr)], false⟩]) ∧
    (∀ (p : Fin 8) tok pwr, s.hub.claspOn p = true → s.hub.asked p 8 tok = true →
      Completes (.swapAck p tok pwr) s fun g => g.rd CLP.STAT_STATE p = 5 ∧ g.rd CLP.CONTRACT_ICUR p = 0) ∧
    (∀ (p : Fin 8) tok reason, s.hub.claspOn p = true →
      Completes (.swapNak p tok reason) s fun g => g.rd CLP.CNT_EVT_NAK p = s.hub.oneMore CLP.CNT_EVT_NAK p ∧
        (s.hub.asked p 8 tok = true → g.claspAsk = Tab.del p.val s.hub.claspAsk)) ∧
    (∀ (p : Fin 8) tok, s.hub.claspOn p = true → s.hub.rd CLP.STAT_STATE p = 5 →
      Completes (.srcOn p tok false) s fun g => g.rd CLP.STAT_STATE p = 3 ∧ g.bit HDR.ISTAT 2 (0xB0 + p) = true ∧
        g.rd CLP.CNT_EVT_SWAP p = s.hub.oneMore CLP.CNT_EVT_SWAP p ∧
        (s.hub.rd CLP.STAT_ROLE p = 1 → g.rd CLP.STAT_ROLE p = 2 ∧ g.rd CLP.STAT_SW p = 2)) ∧
    (∀ (p : Fin 8) tok, s.hub.claspOn p = true →
      Completes (.srcOn p tok true) s fun g => Tab.get [] p.val g.lmcQ = Tab.get [] p.val s.hub.lmcQ ++
        [⟨0x0B, tok, Hub.claspBody 13 [(4, 1, 11)], false⟩] ∧ g.rd CLP.STAT_STATE p = s.hub.rd CLP.STAT_STATE p) ∧
    (∀ (p : Fin 8) tok, s.hub.claspOn p = true → s.hub.rd CLP.STAT_STATE p = 5 →
      Completes (.srcOff p tok) s fun g => g.rd CLP.STAT_STATE p = 3 ∧ g.rd CLP.STAT_ROLE p = 1 ∧
        (s.hub.rd CLP.STAT_ROLE p ≠ 1 → g.rd CLP.STAT_SW p = 1)) ∧
    (∀ (p : Fin 8) tok ctype, s.hub.claspOn p = true → s.hub.asked p ctype tok = true → ctype ≠ 11 →
      Completes (.claspAck p tok ctype) s fun g => g.claspAsk = Tab.del p.val s.hub.claspAsk ∧
        g.rd CLP.CNT_MSG_RX p = s.hub.oneMore CLP.CNT_MSG_RX p) ∧
    (∀ (p : Fin 8) tok, s.hub.claspOn p = true → s.hub.asked p 11 tok = true → s.hub.on CLP.hFast p = true →
      Completes (.claspAck p tok 11) s fun g => g.rd CLP.hFast p = 0 ∧ (Tab.find p.val g.claspAsk).map ClaspAsk.ctype = some 1) ∧
    (∀ (p : Fin 8) a, s.hub.live (0xB0 + p) = true → Tab.find p.val s.hub.claspAsk = some a → a.tries < 3 →
      Completes (.claspRetry p) s fun g => (Tab.find p.val g.claspAsk).map ClaspAsk.tries = some (a.tries + 1) ∧
        (s.hub.claspFlows p = true → Tab.get [] p.val g.lmcQ = Tab.get [] p.val s.hub.lmcQ ++
          [⟨0x0B, a.tok, a.payload, false⟩])) ∧
    (∀ (p : Fin 8) a, s.hub.live (0xB0 + p) = true → Tab.find p.val s.hub.claspAsk = some a → 3 ≤ a.tries →
      Completes (.claspRetry p) s fun g => g.bit HDR.ESTAT 5 (0xB0 + p) = true ∧
        g.rd CLP.CNT_MSG2_TMO p = s.hub.oneMore CLP.CNT_MSG2_TMO p) ∧
    (∀ p : Fin 8, s.hub.live (0xB0 + p) = true → s.hub.rd CLP.STAT_STATE p = 5 →
      Completes (.tSwapExpiry p) s fun g => g.rd CLP.STAT_STATE p = 6 ∧ g.rd CLP.STAT_SW p = 0 ∧ g.rd CLP.STAT_CA_TX p = 1 ∧
        g.bit HDR.ESTAT 6 (0xB0 + p) = true ∧ g.rd CLP.CNT_EVT_HRESET p = s.hub.oneMore CLP.CNT_EVT_HRESET p) ∧
    (∀ r (p : Fin 8), s.hub.Grants r CLP.CTL_SWAP p → s.hub.live (0xB0 + p) = true → s.hub.on CLP.STAT_ROLE p = true →
      Completes (.claspSwap r p) s fun g => (Tab.find p.val g.claspAsk).map ClaspAsk.ctype = some 8) ∧
    (∀ r (p : Fin 8), s.hub.Grants r CLP.CTL_RENEG p → s.hub.live (0xB0 + p) = true →
      Completes (.reneg r p) s fun g =>
        (s.hub.rd CLP.STAT_ROLE p = 1 → (Tab.find p.val g.claspAsk).map ClaspAsk.ctype = some 1) ∧
        (s.hub.rd CLP.STAT_ROLE p = 2 → (Tab.find p.val g.claspAsk).map ClaspAsk.ctype = some 2)) ∧
    (∀ r (p : Fin 8), s.hub.Grants r CLP.CTL_OPEN p → s.hub.live (0xB0 + p) = true → s.hub.solitaire = false →
      s.hub.rd CLP.STAT_STATE p = 3 ∨ s.hub.rd CLP.STAT_STATE p = 4 →
      Completes (.contractOpen r p) s fun g => g.rd CLP.STAT_STATE p = 1 ∧ g.rd CLP.STAT_SW p = 0 ∧ g.rd CLP.STAT_ROLE p = 0 ∧
        g.rd CLP.CONTRACT_ICUR p = 0) ∧
    (∀ p : Fin 8, s.hub.live (0xB0 + p) = true → s.hub.rd CLP.STAT_ROLE p = 1 →
      Completes (.sfAssert p) s fun g =>
        (s.hub.rd BUS.VBUS_MV < s.hub.rd CLP.FS_SF_DV p * 100 → g.rd CLP.STAT_SF_TX p = 1) ∧
        (s.hub.rd CLP.FS_SF_DV p * 100 + 1000 < s.hub.rd BUS.VBUS_MV → g.rd CLP.STAT_SF_TX p = 0)) ∧
    (∀ (p : Fin 8) bySf, s.hub.live (0xB0 + p) = true → s.hub.on CLP.STAT_ARMED p = true →
      (if bySf = true then s.hub.on OPT.STAT_SF_RX p = true else s.hub.rd OPT.STAT_STATE p = 0 ∨ s.hub.rd OPT.STAT_STATE p = 4) →
      Completes (.fastSwap p bySf) s fun g => g.rd CLP.STAT_SW p = 1 ∧ g.rd CLP.STAT_ROLE p = 1 ∧ g.rd CLP.STAT_ARMED p = 0 ∧
        g.rd CLP.CNT_EVT_FSWAP p = s.hub.oneMore CLP.CNT_EVT_FSWAP p ∧ g.bit HDR.ISTAT 3 (0xB0 + p) = true ∧
        g.rd CLP.CONTRACT_ILIM p = s.hub.rd CLP.CONTRACT_ILIM p ∧ (Tab.find p.val g.claspAsk).map ClaspAsk.ctype = some 11) ∧
    (∀ p : Fin 8, s.hub.live (0xB0 + p) = true → s.hub.on CLP.STAT_SF_TX p = true → s.hub.rd CLP.STAT_ROLE p = 1 →
      s.hub.on CLP.hArmed p = true →
      Completes (.sfHandover p) s fun g => g.rd CLP.STAT_SW p = (if s.hub.on CLP.CFG_GUARD p = true then 2 else 0) ∧ g.rd CLP.STAT_ROLE p = 2 ∧ g.rd CLP.STAT_SF_TX p = 0) ∧
    (∀ r (p : Fin 8), s.hub.Grants r CLP.CTL_HRESET p → s.hub.live (0xB0 + p) = true → s.hub.solitaire = false → 1 ≤ s.hub.rd CLP.STAT_STATE p →
      s.hub.rd CLP.STAT_STATE p ≤ 5 →
      Completes (.claspHardReset (some r) p) s fun g => g.rd CLP.STAT_STATE p = 6 ∧ g.rd CLP.STAT_SW p = 0 ∧
        g.rd CLP.STAT_CA_TX p = 1 ∧ g.bit HDR.ESTAT 6 (0xB0 + p) = true) ∧
    (∀ p : Fin 8, s.hub.live (0xB0 + p) = true → s.hub.on OPT.STAT_CA_RX p = true → 1 ≤ s.hub.rd CLP.STAT_STATE p →
      s.hub.rd CLP.STAT_STATE p ≤ 5 →
      Completes (.claspHardReset none p) s fun g => g.rd CLP.STAT_STATE p = 6 ∧ g.rd CLP.STAT_SW p = 0 ∧
        g.rd CLP.STAT_CA_TX p = 1 ∧ g.bit HDR.ESTAT 6 (0xB0 + p) = true) ∧
    (∀ p : Fin 8, s.hub.live (0xB0 + p) = true → s.hub.rd CLP.STAT_STATE p = 6 →
      Completes (.hardResetElect p) s fun g =>
        (s.hub.electRole p = 1 → g.rd CLP.STAT_CA_TX p = s.hub.rd CLP.STAT_CA_TX p ∧ g.rd CLP.STAT_STATE p = 3 ∧ g.rd CLP.STAT_ROLE p = 1 ∧ g.rd CLP.STAT_SW p = 1) ∧
        (s.hub.electRole p = 2 → s.hub.on CLP.CFG_SNK_CAP p = true →
          g.rd CLP.STAT_STATE p = 3 ∧ g.rd CLP.STAT_ROLE p = 2 ∧ g.rd CLP.STAT_SW p = 2) ∧
        (s.hub.electRole p = 0 → g.rd CLP.STAT_STATE p = 1 ∧ g.rd CLP.STAT_ROLE p = 0 ∧ g.rd CLP.STAT_SW p = 0)) ∧
    (∀ p : Fin 8, s.hub.live (0xB0 + p) = true → s.hub.rd CLP.STAT_STATE p = 6 →
      Completes (.bleedTimeout p) s fun g => g.bit HDR.ESTAT 4 (0xB0 + p) = true)

/-- The Type-C ports (R533 to R537, R540, R541). Where the spec leaves a point open, its clauses follow the model's choices:
log entries 59 and 60. -/
def Obligations.TypeCCommandsComplete : Prop :=
  ∀ s : State, s.Inv →
    (∀ (k : Fin 2) cc2 sink ufp em frs, s.hub.up (0xB8 + k) = true → s.hub.on TCP.CFG_PROLE k = true →
      s.hub.rd TCP.hAway k ≤ s.hub.cyc → (sink = true → s.hub.rd TCP.CFG_PROLE k = 2) →
      Completes (.typecAttach k true cc2 sink ufp em frs) s fun g => g.rd TCP.STAT_ATTACHED k = 1 ∧
        g.rd TCP.STAT_POLARITY k = bnat cc2 ∧ g.rd TCP.STAT_PROLE k = bnat sink ∧ g.rd TCP.STAT_DROLE k = bnat ufp ∧
        g.rd TCP.STAT_VCONN_ON k = bnat (!sink && s.hub.on TCP.CFG_VCONN_EN k) ∧
        g.rd TCP.STAT_EMARK_5A k = bnat em ∧ g.rd TCP.STAT_FRS_READY k = bnat frs ∧ g.rd TCP.STAT_CONTRACT k = 0 ∧
        g.rd TCP.STAT_ALTMODE k = 0 ∧
        Hub.PdSends s.hub g k (if g.on TCP.hVen k then [.sourceCaps (g.pdOffer k)] else []) ∧
        (s.hub.on TCP.STAT_ATTACHED k = false → g.bit HDR.ISTAT 0 (0xB8 + k) = true ∧
          (s.hub.Wakes 2 → g.bit AON.WAKESRC_SEEN 2 = true))) ∧
    (∀ (k : Fin 2) cc2 sink ufp em frs, s.hub.on TCP.CFG_PROLE k = false ∨ s.hub.cyc < s.hub.rd TCP.hAway k ∨
        sink = true ∧ s.hub.rd TCP.CFG_PROLE k ≠ 2 →
      Completes (.typecAttach k true cc2 sink ufp em frs) s fun g => g = s.hub) ∧
    (∀ (k : Fin 2) cc2 sink ufp em frs, s.hub.up (0xB8 + k) = true → s.hub.on TCP.STAT_ATTACHED k = true →
      Completes (.typecAttach k false cc2 sink ufp em frs) s fun g => g.rd TCP.STAT_ATTACHED k = 0 ∧
        g.rd TCP.STAT_CONTRACT k = 0 ∧ g.rd TCP.STAT_ALTMODE k = 0 ∧ g.rd TCP.STAT_VCONN_ON k = 0 ∧
        g.bit HDR.ISTAT 0 (0xB8 + k) = true) ∧
    (∀ (k : Fin 2) cc2 sink ufp em frs, s.hub.on TCP.STAT_ATTACHED k = false →
      Completes (.typecAttach k false cc2 sink ufp em frs) s fun g => g = s.hub) ∧
    (∀ k : Fin 2, s.hub.up (0xB8 + k) = true → s.hub.on TCP.STAT_ATTACHED k = true → s.hub.rd TCP.STAT_PROLE k = 0 →
      s.hub.on TCP.hCut k = false → s.hub.rd PDM.STATE_CURRENT = 2 ∨ s.hub.rd BUS.VBUS_MV < s.hub.rd CLP.FS_SF_DV * 100 →
      Completes (.fastRoleSwap k) s fun g => g.rd TCP.STAT_CONTRACT k = 0 ∧
        (s.hub.on TCP.CFG_FRS_EN k = true → s.hub.on TCP.STAT_FRS_READY k = true → g.rd TCP.STAT_PROLE k = 1 ∧
          g.rd TCP.CNT_A_FRS k = s.hub.oneMore TCP.CNT_A_FRS k ∧ g.bit HDR.ISTAT 3 (0xB8 + k) = true ∧
          Hub.PdSends s.hub g k [.fastRoleSwap]) ∧
        (s.hub.on TCP.CFG_FRS_EN k = false ∨ s.hub.on TCP.STAT_FRS_READY k = false →
          g.rd TCP.hCut k = 1 ∧ g.rd TCP.hVen k = 0 ∧ g.pdOut = s.hub.pdOut)) ∧
    (∀ k : Fin 2, s.hub.on TCP.STAT_ATTACHED k = false ∨ s.hub.rd TCP.STAT_PROLE k ≠ 0 ∨ s.hub.on TCP.hCut k = true ∨
        s.hub.rd PDM.STATE_CURRENT ≠ 2 ∧ s.hub.rd CLP.FS_SF_DV * 100 ≤ s.hub.rd BUS.VBUS_MV →
      Completes (.fastRoleSwap k) s fun g => g = s.hub) ∧
    (∀ (k : Fin 2) pinD, s.hub.up (0xB8 + k) = true → s.hub.on TCP.STAT_ATTACHED k = true →
      Completes (.dpConfigure k pinD) s fun g =>
        (s.hub.on TCP.hMode k = true → s.hub.on TCP.CFG_ALTMODE_EN k = true → g.rd TCP.STAT_ALTMODE k = 1 ∧
          g.rd TCP.STAT_PIN_D k = bnat pinD ∧ g.bit HDR.ISTAT 2 (0xB8 + k) = true ∧
          (s.hub.up (0x75 + k) = true → g.rd DCP.LINK_PIN_D k = bnat pinD) ∧
          Hub.PdSends s.hub g k [.vdmAck]) ∧
        (s.hub.on TCP.hMode k = false ∨ s.hub.on TCP.CFG_ALTMODE_EN k = false →
          Hub.SameBut [Kind.pdOut] s.hub g ∧ Hub.PdSends s.hub g k [.vdmNak])) ∧
    (∀ r (k : Fin 2), s.hub.Grants r TCP.CTL_HARDRESET k → s.hub.up (0xB8 + k) = true → s.hub.on TCP.STAT_ATTACHED k = true →
      Completes (.pdHardreset r k) s fun g => g.rd TCP.STAT_CONTRACT k = 0 ∧ g.rd TCP.STAT_ALTMODE k = 0 ∧
        g.rd TCP.STAT_DROLE k = s.hub.rd TCP.STAT_PROLE k % 2 ∧ g.rd TCP.CNT_A_HRESET k = s.hub.oneMore TCP.CNT_A_HRESET k ∧
        g.bit HDR.ISTAT 4 (0xB8 + k) = true ∧
        Hub.PdSends s.hub g k (.hardReset :: (if g.on TCP.hVen k then [.sourceCaps (g.pdOffer k)] else []))) ∧
    (∀ r (k : Fin 2), s.hub.Grants r TCP.CTL_HARDRESET k → s.hub.on TCP.STAT_ATTACHED k = false →
      Completes (.pdHardreset r k) s fun g => g = s.hub.written r id) ∧
    (∀ r (k : Fin 2), s.hub.Grants r TCP.CTL_DETACH k → s.hub.up (0xB8 + k) = true →
      Completes (.typecDetach r k) s fun g => g.rd TCP.STAT_ATTACHED k = 0 ∧
        g.rd TCP.hAway k = (s.hub.cyc + 400000000) % 2 ^ TCP.hAway.w ∧
        (s.hub.on TCP.STAT_ATTACHED k = true → g.rd TCP.STAT_CONTRACT k = 0 ∧ g.bit HDR.ISTAT 0 (0xB8 + k) = true)) ∧
    (∀ r (k : Fin 2) hpd, s.hub.Grants r DCP.CTL_HPD k →
      Completes (.hpdChange r k hpd) s fun g => g.rd DCP.CTL_HPD k = bnat hpd ∧
        Hub.PdSends s.hub g k (if s.hub.on DCP.CTL_HPD k != hpd && s.hub.on TCP.STAT_ALTMODE k then [.dpStatus hpd] else [])) ∧
    (∀ (k : Fin 2) pdo ma, s.hub.up (0xB8 + k) = true → s.hub.on TCP.STAT_ATTACHED k = true →
      Completes (.pdMessage k (.request pdo ma)) s fun g =>
        let fits := s.hub.on TCP.hVen k && decide (1 ≤ pdo ∧ pdo ≤ 4) && s.hub.bit TCP.PDO_EN (pdo - 1) k &&
          decide (ma ≤ 10 * s.hub.pdoCur k (pdo - 1))
        (s.hub.rd TCP.STAT_PROLE k = 0 → fits = true → g.rd TCP.STAT_CONTRACT k = 1 ∧
          g.rd TCP.RDO_PDO k = pdo ∧ g.rd TCP.RDO_CUR k = ceilDiv ma 10 % 2 ^ TCP.RDO_CUR.w ∧
          g.bit HDR.ISTAT 1 (0xB8 + k) = true ∧ Hub.PdSends s.hub g k [.accept]) ∧
        (s.hub.rd TCP.STAT_PROLE k = 0 → fits = false → Hub.SameBut [Kind.pdOut] s.hub g ∧
          Hub.PdSends s.hub g k [.reject]) ∧
        (s.hub.rd TCP.STAT_PROLE k ≠ 0 → Hub.SameBut [Kind.pdOut] s.hub g ∧
          Hub.PdSends s.hub g k [.notSupported])) ∧
    (∀ k : Fin 2, s.hub.up (0xB8 + k) = true → s.hub.on TCP.STAT_ATTACHED k = true →
      Completes (.pdMessage k .hardReset) s fun g => g.rd TCP.STAT_CONTRACT k = 0 ∧ g.rd TCP.STAT_ALTMODE k = 0 ∧
        g.rd TCP.STAT_DROLE k = s.hub.rd TCP.STAT_PROLE k % 2 ∧
        g.rd TCP.CNT_A_HRESET k = s.hub.oneMore TCP.CNT_A_HRESET k ∧ g.bit HDR.ISTAT 4 (0xB8 + k) = true) ∧
    (∀ k : Fin 2, s.hub.up (0xB8 + k) = true → s.hub.on TCP.STAT_ATTACHED k = true →
      Completes (.pdMessage k .drSwap) s fun g =>
        (s.hub.on TCP.hMode k = true → g.rd TCP.CNT_A_HRESET k = s.hub.oneMore TCP.CNT_A_HRESET k ∧
          g.rd TCP.STAT_DROLE k = s.hub.rd TCP.STAT_PROLE k % 2) ∧
        (s.hub.on TCP.hMode k = false → s.hub.rd TCP.STAT_DROLE k = 1 → g.rd TCP.STAT_DROLE k = 0 ∧
          Hub.PdSends s.hub g k [.accept]) ∧
        (s.hub.on TCP.hMode k = false → s.hub.rd TCP.STAT_DROLE k ≠ 1 → s.hub.on TCP.CFG_DR_ACCEPT k = true →
          g.rd TCP.STAT_DROLE k = 1 ∧ Hub.PdSends s.hub g k [.accept]) ∧
        (s.hub.on TCP.hMode k = false → s.hub.rd TCP.STAT_DROLE k ≠ 1 → s.hub.on TCP.CFG_DR_ACCEPT k = false →
          Hub.SameBut [Kind.pdOut] s.hub g ∧ Hub.PdSends s.hub g k [.reject])) ∧
    (∀ k : Fin 2, s.hub.up (0xB8 + k) = true → s.hub.on TCP.STAT_ATTACHED k = true →
      Completes (.pdMessage k .prSwap) s fun g =>
        (s.hub.rd TCP.STAT_PROLE k ≠ 0 → s.hub.bootFed = false → g.rd TCP.STAT_PROLE k = 0 ∧ g.rd TCP.STAT_CONTRACT k = 0 ∧
          Hub.PdSends s.hub g k (.accept :: (if g.on TCP.hVen k then [.sourceCaps (g.pdOffer k)] else []))) ∧
        (s.hub.rd TCP.STAT_PROLE k = 0 ∨ s.hub.bootFed = true → Hub.SameBut [Kind.pdOut] s.hub g ∧
          Hub.PdSends s.hub g k [.reject])) ∧
    (∀ k : Fin 2, s.hub.up (0xB8 + k) = true → s.hub.on TCP.STAT_ATTACHED k = true →
      Completes (.pdMessage k .vconnSwap) s fun g =>
        let ok := s.hub.on TCP.STAT_VCONN_ON k || s.hub.on TCP.CFG_VCONN_EN k
        (ok = true → g.rd TCP.STAT_VCONN_ON k = bnat (!s.hub.on TCP.STAT_VCONN_ON k)) ∧
        (ok = false → g.rd TCP.STAT_VCONN_ON k = s.hub.rd TCP.STAT_VCONN_ON k) ∧
        Hub.PdSends s.hub g k [if ok then .accept else .reject]) ∧
    (∀ k : Fin 2, s.hub.up (0xB8 + k) = true → s.hub.on TCP.STAT_ATTACHED k = true →
      Completes (.pdMessage k .sourceCaps) s fun g =>
        (s.hub.rd TCP.STAT_PROLE k ≠ 0 → g.rd TCP.STAT_CONTRACT k = 1 ∧ g.rd TCP.RDO_PDO k = 1 ∧ g.rd TCP.RDO_CUR k = 10 ∧
          g.bit HDR.ISTAT 1 (0xB8 + k) = true ∧ Hub.PdSends s.hub g k [.request 100]) ∧
        (s.hub.rd TCP.STAT_PROLE k = 0 → Hub.SameBut [Kind.pdOut] s.hub g ∧
          Hub.PdSends s.hub g k [.notSupported])) ∧
    (∀ k : Fin 2, s.hub.up (0xB8 + k) = true → s.hub.on TCP.STAT_ATTACHED k = true →
      Completes (.pdMessage k .getSourceCap) s fun g => Hub.SameBut [Kind.pdOut] s.hub g ∧
        Hub.PdSends s.hub g k [if s.hub.rd TCP.STAT_PROLE k = 0 then .sourceCaps (s.hub.pdOffer k) else .notSupported]) ∧
    (∀ k : Fin 2, s.hub.up (0xB8 + k) = true → s.hub.on TCP.STAT_ATTACHED k = true →
      Completes (.pdMessage k .softReset) s fun g => Hub.SameBut [Kind.pdOut] s.hub g ∧
        Hub.PdSends s.hub g k (.accept ::
          (if s.hub.rd TCP.STAT_PROLE k = 0 ∧ s.hub.on TCP.hVen k = true then [.sourceCaps (s.hub.pdOffer k)] else []))) ∧
    (∀ k : Fin 2, s.hub.up (0xB8 + k) = true → s.hub.on TCP.STAT_ATTACHED k = true →
      Completes (.pdMessage k .vdmDiscover) s fun g => Hub.SameBut [Kind.pdOut] s.hub g ∧
        Hub.PdSends s.hub g k [if s.hub.on TCP.CFG_ALTMODE_EN k then .modes 0xFF01 true true else .vdmNak]) ∧
    (∀ k : Fin 2, s.hub.up (0xB8 + k) = true → s.hub.on TCP.STAT_ATTACHED k = true →
      Completes (.pdMessage k .enterMode) s fun g =>
        g.rd TCP.hMode k = (if s.hub.on TCP.CFG_ALTMODE_EN k then 1 else s.hub.rd TCP.hMode k) ∧
        Hub.PdSends s.hub g k [if s.hub.on TCP.CFG_ALTMODE_EN k then .vdmAck else .vdmNak]) ∧
    (∀ k : Fin 2, s.hub.up (0xB8 + k) = true → s.hub.on TCP.STAT_ATTACHED k = true →
      Completes (.pdMessage k .exitMode) s fun g =>
        (s.hub.on TCP.hMode k = true → g.rd TCP.STAT_ALTMODE k = 0 ∧ g.rd TCP.hMode k = 0) ∧
        Hub.PdSends s.hub g k [if s.hub.on TCP.hMode k then .vdmAck else .vdmNak]) ∧
    (∀ (k : Fin 2) five, s.hub.up (0xB8 + k) = true → s.hub.on TCP.STAT_ATTACHED k = true →
      Completes (.pdMessage k (.emarker five)) s fun g => g = s.hub.wr TCP.STAT_EMARK_5A (bnat five) k) ∧
    (∀ k : Fin 2, s.hub.up (0xB8 + k) = true → s.hub.on TCP.STAT_ATTACHED k = true →
      Completes (.pdMessage k .unsupported) s fun g => Hub.SameBut [Kind.pdOut] s.hub g ∧
        Hub.PdSends s.hub g k [.notSupported]) ∧
    (∀ (k : Fin 2) m, s.hub.on TCP.STAT_ATTACHED k = false →
      Completes (.pdMessage k m) s fun g => g = s.hub) ∧
    (∀ (k : Fin 2) f, s.hub.up (0xB8 + k) = true →
      Completes (.vbusFault k f) s fun g => g.bit HDR.ESTAT (match f with
        | .overVoltage => 0 | .overCurrent => 1 | .vconnOverCurrent => 2 | .ccOverVoltage => 3 | .converter => 4) (0xB8 + k) = true)

/-- The lume power outputs and the node bus (R542 to R568). Where the spec leaves a point open, its clauses follow the model's
choices: log entries 61 and 62. -/
def Obligations.PowerOutputCommandsComplete : Prop :=
  ∀ s : State, s.Inv →
    (∀ (n : Fin 8) r100 valid, s.hub.live (0xC0 + n) = true → s.hub.rd LPO.STAT_STATE n = 2 → s.hub.on LPO.hRepeat n = false →
      Completes (.lpoDetect n r100 valid) s fun g => g.rd LPO.DET_R_100 n = min 1023 r100 ∧ g.rd LPO.DET_PASS n = bnat valid ∧
        (valid = false → g.rd LPO.STAT_STATE n = 2 ∧ g.rd LPO.hRepeat n = 1 ∧ g.bit HDR.ESTAT 4 (0xC0 + n) = true ∧
          g.rd LPO.CNT_DET_FAIL n = s.hub.oneMore LPO.CNT_DET_FAIL n) ∧
        (valid = true → s.hub.on LPO.CFG_MODE n = true → g.rd LPO.STAT_STATE n = 4 ∧
          g.rd LPO.CPWR_CW n = s.hub.rd LPO.PLIM_CW n % 2 ^ LPO.CPWR_CW.w) ∧
        (valid = true → s.hub.on LPO.CFG_MODE n = false → g.rd LPO.STAT_STATE n = 3)) ∧
    (∀ n : Fin 8, s.hub.live (0xC0 + n) = true → s.hub.rd LPO.STAT_STATE n = 2 →
      Completes (.detectRepeat n) s fun g => g.rd LPO.hRepeat n = 0 ∧ g.rd LPO.STAT_STATE n = 2) ∧
    (∀ (n : Fin 8) c, s.hub.live (0xC0 + n) = true → s.hub.rd LPO.STAT_STATE n = 3 → 13 ≤ c → c ≤ 15 →
      Completes (.classify n (some c)) s fun g => g.rd LPO.STAT_STATE n = 4 ∧ g.rd LPO.STAT_CLASS n = c ∧
        g.rd LPO.STAT_CLASS_VALID n = 1 ∧
        g.rd LPO.CPWR_CW n = min (s.hub.rd LPO.PLIM_CW n) (Config.podlPower c) % 2 ^ LPO.CPWR_CW.w) ∧
    (∀ n : Fin 8, s.hub.live (0xC0 + n) = true → s.hub.rd LPO.STAT_STATE n = 3 →
      Completes (.classify n none) s fun g => g.rd LPO.STAT_STATE n = 7 ∧ g.rd LPO.STAT_CLASS_VALID n = 0 ∧
        g.bit HDR.ESTAT 5 (0xC0 + n) = true ∧ g.rd LPO.CNT_DET_REFUSED n = s.hub.oneMore LPO.CNT_DET_REFUSED n) ∧
    (∀ n : Fin 8, s.hub.live (0xC0 + n) = true → s.hub.rd LPO.STAT_STATE n = 4 →
      Completes (.rampDone n) s fun g => g.rd LPO.STAT_STATE n = 5 ∧ g.bit HDR.ISTAT 0 (0xC0 + n) = true ∧
        g.on LPO.STAT_PG n = !s.hub.on LPO.hLimit n) ∧
    (∀ n : Fin 8, s.hub.live (0xC0 + n) = true → s.hub.rd LPO.STAT_STATE n = 4 →
      Completes (.rampTimeout n) s fun g => g.rd LPO.STAT_STATE n = 6 ∧ g.rd LPO.STAT_LATCHED n = 1 ∧ g.rd LPO.STAT_PG n = 0 ∧
        g.bit HDR.ESTAT 3 (0xC0 + n) = true ∧ g.rd LPO.CNT_TRIP_RAMP n = s.hub.oneMore LPO.CNT_TRIP_RAMP n) ∧
    (∀ (n : Fin 8) lim, s.hub.live (0xC0 + n) = true → s.hub.lpoClosed n = true →
      Completes (.currentLimit n lim) s fun g => g.rd LPO.hLimit n = bnat lim ∧
        (lim = false → s.hub.rd LPO.STAT_STATE n = 5 → g.on LPO.STAT_PG n = true)) ∧
    (∀ n : Fin 8, s.hub.live (0xC0 + n) = true → s.hub.lpoClosed n = true → s.hub.on LPO.hLimit n = true →
      Completes (.faultTimerExpiry n) s fun g => g.rd LPO.STAT_STATE n = 6 ∧ g.rd LPO.STAT_LATCHED n = 1 ∧ g.rd LPO.STAT_PG n = 0 ∧
        g.bit HDR.ESTAT 0 (0xC0 + n) = true ∧ g.rd LPO.CNT_TRIP_OC n = s.hub.oneMore LPO.CNT_TRIP_OC n) ∧
    (∀ n : Fin 8, s.hub.live (0xC0 + n) = true → s.hub.lpoClosed n = true →
      Completes (.hardShort n) s fun g => g.rd LPO.STAT_STATE n = 6 ∧ g.rd LPO.STAT_LATCHED n = 1 ∧ g.rd LPO.STAT_PG n = 0 ∧
        g.bit HDR.ESTAT 1 (0xC0 + n) = true ∧ g.rd LPO.CNT_TRIP_SHORT n = s.hub.oneMore LPO.CNT_TRIP_SHORT n) ∧
    (∀ n : Fin 8, s.hub.live (0xC0 + n) = true → s.hub.rd LPO.STAT_STATE n = 5 → s.hub.on LPO.hLimit n = true →
      Completes (.pgHoldExpiry n) s fun g => g.rd LPO.STAT_PG n = 0 ∧ g.rd LPO.STAT_STATE n = 5) ∧
    (∀ (n : Fin 8) pavg vaavg joules, s.hub.live (0xC0 + n) = true →
      Completes (.overloadCheck n pavg vaavg joules) s fun g => g.rd LPO.PAVG_CW n = min 16383 pavg ∧
        g.rd LPO.PAVG_VA10 n = min 16383 vaavg ∧
        (s.hub.lpoClosed n = true → min (s.hub.rd LPO.PLIM_CW n) (s.hub.rd LPO.CPWR_CW n) < pavg ∨
          s.hub.rd LPO.PLIM_VA10 n < vaavg → g.rd LPO.STAT_STATE n = 6 ∧ g.bit HDR.ESTAT 2 (0xC0 + n) = true) ∧
        (pavg ≤ min (s.hub.rd LPO.PLIM_CW n) (s.hub.rd LPO.CPWR_CW n) → vaavg ≤ s.hub.rd LPO.PLIM_VA10 n →
          g.rd LPO.STAT_STATE n = s.hub.rd LPO.STAT_STATE n)) ∧
    (∀ r (n : Fin 8) v, s.hub.Grants r LPO.ILIM_MA10 n →
      Completes (.fuseLimitWrite r n false v) s fun g =>
        (10 ≤ bits v 0 9 → bits v 0 9 ≤ 250 →
          Hub.eBound (bits v 0 9) (s.hub.rd LPO.TIMER_FAULT_US n) ≤ s.hub.rd LPO.ELIM_MJ n * 1000000 →
          g.rd LPO.ILIM_MA10 n = bits v 0 9) ∧
        (s.hub.rd LPO.ELIM_MJ n * 1000000 < Hub.eBound (bits v 0 9) (s.hub.rd LPO.TIMER_FAULT_US n) →
          g.bit HDR.ESTAT 6 (0xC0 + n) = true ∧ g.rd LPO.ILIM_MA10 n = s.hub.rd LPO.ILIM_MA10 n)) ∧
    (∀ r (n : Fin 8) v, s.hub.Grants r LPO.TIMER_FAULT_US n → 10 ≤ s.hub.rd LPO.ILIM_MA10 n → s.hub.rd LPO.ILIM_MA10 n ≤ 250 →
      Completes (.fuseLimitWrite r n true v) s fun g =>
        (Hub.eBound (s.hub.rd LPO.ILIM_MA10 n) (bits v 0 14) ≤ s.hub.rd LPO.ELIM_MJ n * 1000000 →
          g.rd LPO.TIMER_FAULT_US n = bits v 0 14 ∧ g.rd LPO.TIMER_PG_HOLD_US n = bits v 16 14) ∧
        (s.hub.rd LPO.ELIM_MJ n * 1000000 < Hub.eBound (s.hub.rd LPO.ILIM_MA10 n) (bits v 0 14) →
          g.bit HDR.ESTAT 6 (0xC0 + n) = true ∧ g.rd LPO.TIMER_FAULT_US n = s.hub.rd LPO.TIMER_FAULT_US n)) ∧
    (∀ mv, s.hub.up 0xC8 = true → mv < s.hub.rd BUS.CFG_UV_DV * 100 →
      Completes (.busUndervolt mv) s fun g => g.rd BUS.VBUS_MV = min 65535 mv % 2 ^ BUS.VBUS_MV.w ∧ g.rd BUS.STAT_UV = 1 ∧
        g.bit HDR.ESTAT 0 0xC8 = true ∧ g.rd BUS.CNT_UV_COUNT = s.hub.oneMore BUS.CNT_UV_COUNT) ∧
    (∀ mv, s.hub.up 0xC8 = true → s.hub.rd BUS.CFG_OV_DV * 100 < mv →
      Completes (.busOvervolt mv) s fun g => g.rd BUS.STAT_OV = 1 ∧ g.bit HDR.ESTAT 1 0xC8 = true ∧
        g.rd BUS.CNT_OV_COUNT = s.hub.oneMore BUS.CNT_OV_COUNT ∧
        (∀ n : Nat, n < 8 → 2 ≤ s.hub.rd LPO.STAT_STATE n → s.hub.rd LPO.STAT_STATE n ≤ 5 → g.rd LPO.STAT_STATE n = 1 ∧
          g.rd LPO.CNT_SHED_COUNT n = s.hub.oneMore LPO.CNT_SHED_COUNT n)) ∧
    (∀ mv, s.hub.up 0xC8 = true → s.hub.on BUS.STAT_OV = true → mv + 1000 < s.hub.rd BUS.CFG_OV_DV * 100 →
      Completes (.busOvClear mv) s fun g => g.rd BUS.STAT_OV = 0) ∧
    (∀ mv, s.hub.up 0xC8 = true → mv < s.hub.rd BUS.SHED_SHED_DV * 100 →
      Completes (.busShed mv) s fun g => g.on BUS.STAT_SHEDDING = true ∧
        (∀ n : Nat, n < 8 → 2 ≤ s.hub.rd LPO.STAT_STATE n → s.hub.rd LPO.STAT_STATE n ≤ 5 → s.hub.on LPO.CFG_SHED n = true →
          s.hub.on LPO.CFG_EMERG n = false → g.rd LPO.STAT_STATE n = 1) ∧
        (∀ n : Nat, n < 8 → s.hub.on LPO.CFG_SHED n = false ∨ s.hub.on LPO.CFG_EMERG n = true →
          g.rd LPO.STAT_STATE n = s.hub.rd LPO.STAT_STATE n)) ∧
    (∀ mv, s.hub.up 0xC8 = true → s.hub.on BUS.STAT_SHEDDING = true → s.hub.rd BUS.SHED_SHED_DV * 100 + 1000 < mv →
      Completes (.shedClear mv) s fun g => g.rd BUS.STAT_SHEDDING = 0 ∧ g.bit HDR.ISTAT 1 0xC8 = true) ∧
    (∀ batt, s.hub.up 0xC8 = true →
      Completes (.emergencyChange batt) s fun g => g.on BUS.STAT_BATT = batt ∧
        (s.hub.on BUS.STAT_BATT ≠ batt → g.bit HDR.ISTAT 0 0xC8 = true) ∧
        g.on BUS.STAT_EMERG = (batt || s.hub.rd PDM.STATE_CURRENT == 2) ∧
        (batt = true → ∀ n : Nat, n < 8 → 2 ≤ s.hub.rd LPO.STAT_STATE n → s.hub.rd LPO.STAT_STATE n ≤ 5 →
          s.hub.on LPO.CFG_EMERG n = false → g.rd LPO.STAT_STATE n = 1)) ∧
    (∀ pg, s.hub.up 0xC8 = true →
      Completes (.localSupplyChange pg) s fun g => g = (s.hub.wr BUS.STAT_LOCAL (bnat pg)).refreshBus ∧
        g.rd BUS.STAT_LOCAL = bnat pg) ∧
    (∀ n : Fin 8, s.hub.up 0xC8 = true → s.hub.live (0xC0 + n) = true → s.hub.rd LPO.STAT_STATE n = 1 →
      s.hub.refreshBus.on LPO.STAT_WAITCAUSE n = false → (∀ k : Nat, k < n.val → s.hub.rd LPO.STAT_STATE k ≠ 1) →
      s.hub.refreshBus.rd BUS.ALLOC_LUME * 100 + s.hub.rd LPO.PLIM_CW n + s.hub.refreshBus.rd BUS.ALLOC_OTHER * 100 ≤
        s.hub.rd BUS.BUDGET_W * 100 →
      Completes .waitExit s fun g => g.rd LPO.STAT_STATE n = 2 ∧ g.bit HDR.ISTAT 0 (0xC0 + n) = true) ∧
    (∀ r (n : Fin 8), s.hub.Accepts r LPO.CNTCLR_ECLR n →
      Completes (.energyClear r n) s fun g => g.rd LPO.ENERGY_LO_J n = 0 ∧ g.rd LPO.ENERGY_HI_J n = 0)

/-- Domains, node states and wake sources (R569 to R604, R698, R701, R718). Where the spec leaves a point open, its clauses
follow the model's choices: log entries 54 and 65 to 68. -/
def Obligations.PowerCommandsComplete : Prop :=
  ∀ s : State, s.Inv →
    (∀ r (c : Fin 6) v, s.hub.Accepts r (voteFld c) 0 → c.val < 4 → masterNum r.master = c.val →
      Completes (.voteWrite r c v) s fun g => g.rd (voteFld c) = v % 4096 ∧
        (s.hub.rd PDM.STATE_BUSY = 0 → s.hub.rd PDM.STATE_CURRENT % 2 = 0 → Hub.DomainsFollow s.hub g) ∧
        ((∀ d : Nat, d < 12 → 1 ≤ d → v.testBit d = true → s.hub.bit (voteFld c) d = false → (ceilMask s.hub.effState).testBit d = true) →
          g.rd AON.WAKESRC_SEEN = s.hub.rd AON.WAKESRC_SEEN) ∧
        (∀ d : Nat, d < 12 → 1 ≤ d → v.testBit d = true → s.hub.bit (voteFld c) d = false →
          (ceilMask s.hub.effState).testBit d = false → s.hub.Wakes 6 → Hub.WokenBy s.hub g 6 c)) ∧
    (∀ r (c : Fin 6) v, s.hub.Grants r (voteFld c) 0 → 4 ≤ c.val ∨ masterNum r.master ≠ c.val →
      Completes (.voteWrite r c v) s fun g => g.votes = s.hub.votes ∧ g.bit HDR.ESTAT 2 4 = true ∧
        (s.hub.bit HDR.ESTAT 2 4 = false → s.hub.bit HDR.EEN 2 4 = true → s.hub.on HDR.ECAP_VALID 4 = false →
          g.rd HDR.ECAP_MASTER 4 = masterNum r.master)) ∧
    Completes .hardwareVote s (fun g =>
      g.rd PDM.VOTE_LUME_DOM = (if (List.range 8).any (fun n => s.hub.on HDR.PCTL_EN (0xB0 + n) || s.hub.on HDR.PCTL_EN (0xC0 + n))
        then 2048 else 0) ∧
      g.rd PDM.VOTE_USB_DOM = (if s.hub.on USB.STAT_UPACT && !s.hub.on USB.STAT_SUSPENDED || s.hub.on UDF.WAKE_PENDING
        then 1024 else 0) ∧
      (s.hub.rd PDM.STATE_BUSY = 0 → s.hub.rd PDM.STATE_CURRENT % 2 = 0 → Hub.DomainsFollow s.hub g)) ∧
    (∀ (d : Fin 12) left, s.hub.rd PDM.hDom 0 d = 3 → d.val ≠ 0 →
      Completes (.drainTimeout d left) s fun g => g.domOn d = false ∧ g.bit PDM.DOMREADY_READY d = false ∧
        g.bit RET.VALID_DOM d = true ∧
        (left = [] → g.rd PDM.CNT_DRAINLOSS_COUNT = s.hub.rd PDM.CNT_DRAINLOSS_COUNT ∧
          ∀ e ∈ s.hub.regs, keptKey e.1 = true → pageDom (keyPage e.1) = d → Tab.find e.1 g.ret = some e.2) ∧
        (left ≠ [] → g.rd PDM.CNT_DRAINLOSS_COUNT = s.hub.oneMore PDM.CNT_DRAINLOSS_COUNT)) ∧
    (∀ (d : Fin 12) crcOk, s.hub.rd PDM.hDom 0 d = 1 → d.val ≠ 0 →
      Completes (.domainReset d crcOk) s fun g => g.domOn d = true ∧ g.rd PDM.hDom 0 d = 2 ∧
        (s.hub.bit RET.VALID_DOM d = true → g.bit RET.VALID_DOM d = false ∧
          (crcOk = true → g.rd RET.CNT_CRC_COUNT = s.hub.rd RET.CNT_CRC_COUNT) ∧
          (crcOk = false → g.rd RET.CNT_CRC_COUNT = s.hub.oneMore RET.CNT_CRC_COUNT ∧ g.bit HDR.ESTAT 0 5 = true))) ∧
    (∀ d : Fin 12, s.hub.rd PDM.hDom 0 d = 2 → d.val ≠ 0 →
      Completes (.domainReady d) s fun g => g.bit PDM.DOMREADY_READY d = true ∧
        (∀ pg ∈ Hub.domPages d, pg ≠ 0x48 → g.rd HDR.PSTAT_READY pg = 1)) ∧
    (∀ d : Fin 12, s.hub.rd PDM.hDom 0 d = 1 →
      Completes (.domainFail d) s fun g => g.bit HDR.ESTAT 3 4 = true ∧
        (s.hub.bit HDR.ESTAT 3 4 = false → s.hub.bit HDR.EEN 3 4 = true → s.hub.on HDR.ECAP_VALID 4 = false →
          g.rd HDR.ECAP_ADDR_LO 4 = d) ∧
        (d.val ≠ 2 → g.domOn d = s.hub.domOn d ∧ g.rd PDM.hDom 0 d = 4) ∧
        (d.val = 2 → Hub.EntersSolitaire s.hub g)) ∧
    (∀ r target, s.hub.Accepts r PDM.STATE_TARGET 0 →
      Completes (.stateRequest r target) s fun g =>
        let t := target % 8
        let held := [(1, PDM.VOTE_HOST_DOM), (2, PDM.VOTE_CROWN_DOM), (3, PDM.VOTE_MGP_DOM), (4, PDM.VOTE_LUME_DOM),
          (5, PDM.VOTE_USB_DOM)].find? fun (p : Nat × Fld) => clrMask (s.hub.rd p.2) (ceilMask t) / 2 != 0
        let reason : Nat :=
          if ¬ (r.master = .mcpu ∨ r.master = .pcieHost ∨ r.master = .fabric ∨ r.master = .mgp) then 6
          else if t = 2 ∨ 4 ≤ t then 5
          else if s.hub.rd PDM.STATE_CURRENT = 2 then 4
          else match held with
            | some p => 1 + 16 * p.1
            | none =>
              if t = 3 ∧ 65536 < s.hub.refreshNeed.rd RET.NEED_BYTES then 2
              else if t = 3 ∧ 270 < s.hub.rd AON.REGSTAT_LPEST then 3 else 0
        (reason ≠ 0 → g.rd PDM.STATE_TARGET = s.hub.rd PDM.STATE_TARGET ∧ g.rd PDM.STATE_BUSY = s.hub.rd PDM.STATE_BUSY ∧
          g.rd PDM.STATE_PENDING = s.hub.rd PDM.STATE_PENDING ∧ g.bit HDR.ESTAT 0 4 = true ∧
          g.rd PDM.CNT_REFUSE_COUNT = s.hub.oneMore PDM.CNT_REFUSE_COUNT ∧
          (s.hub.bit HDR.ESTAT 0 4 = false → s.hub.bit HDR.EEN 0 4 = true → s.hub.on HDR.ECAP_VALID 4 = false →
            g.rd HDR.ECAP_ADDR_LO 4 = reason ∧ g.rd HDR.ECAP_MASTER 4 = masterNum r.master)) ∧
        (reason = 0 → g.rd PDM.STATE_TARGET = t ∧ g.rd PDM.CNT_REFUSE_COUNT = s.hub.rd PDM.CNT_REFUSE_COUNT ∧
          (s.hub.on PDM.STATE_BUSY = true → g.rd PDM.STATE_LATCHED = t ∧ g.rd PDM.STATE_PENDING = 1 ∧
            g.rd PDM.STATE_BUSY = s.hub.rd PDM.STATE_BUSY ∧ g.rd PDM.hGoal = s.hub.rd PDM.hGoal) ∧
          (s.hub.on PDM.STATE_BUSY = false → t = s.hub.rd PDM.STATE_CURRENT → g.rd PDM.STATE_BUSY = 0) ∧
          (s.hub.on PDM.STATE_BUSY = false → t ≠ s.hub.rd PDM.STATE_CURRENT → g.rd PDM.STATE_BUSY = 1 ∧
            (s.hub.rd PDM.STATE_CURRENT = 0 ∨ t = 0 → g.rd PDM.hGoal = t) ∧
            (s.hub.rd PDM.STATE_CURRENT ≠ 0 → t ≠ 0 → g.rd PDM.hGoal = 0 ∧ g.rd PDM.STATE_LATCHED = t ∧ g.rd PDM.STATE_PENDING = 1) ∧
            (s.hub.rd PDM.STATE_CURRENT = 0 → t = 3 → g.rd PDM.VOTE_FW_DOM = s.hub.rd PDM.VOTE_FW_DOM &&& ceilMask 3) ∧
            (s.hub.rd PDM.STATE_CURRENT = 0 → t = 1 → g.rd PDM.VOTE_FW_DOM = s.hub.rd PDM.VOTE_FW_DOM)))) ∧
    (∀ us, s.hub.transitionOver = true →
      Completes (.transitionDone us) s fun g =>
        let goal := s.hub.rd PDM.hGoal % 2 ^ PDM.STATE_CURRENT.w
        g.rd PDM.STATE_CURRENT = goal ∧ g.rd PDM.LAST_TO = goal ∧ g.rd PDM.LAST_FROM = s.hub.rd PDM.STATE_CURRENT % 2 ^ PDM.LAST_FROM.w ∧
        g.rd PDM.LAST_US_US = us % 2 ^ PDM.LAST_US_US.w ∧ g.rd PDM.CNT_TRANS_COUNT = s.hub.oneMore PDM.CNT_TRANS_COUNT ∧
        g.bit HDR.ISTAT 0 4 = true ∧
        (goal = 0 → g.rd TOP.RAILS_MAIN_EN = 1 ∧ (s.hub.on PDM.hWake = true → g.bit HDR.ISTAT 1 4 = true)) ∧
        (goal = 3 → g.fmem = [] ∧ g.rd TOP.RAILS_MAIN_EN = 0) ∧
        (s.hub.on PDM.STATE_PENDING = false → g.rd PDM.STATE_BUSY = 0) ∧
        (s.hub.on PDM.STATE_PENDING = true → s.hub.rd PDM.STATE_LATCHED = goal → g.rd PDM.STATE_BUSY = 0 ∧ g.rd PDM.STATE_PENDING = 0) ∧
        (s.hub.on PDM.STATE_PENDING = true → s.hub.rd PDM.STATE_LATCHED ≠ goal → g.rd PDM.STATE_BUSY = 1 ∧
          g.rd PDM.hGoal = (if goal = 0 then s.hub.rd PDM.STATE_LATCHED else 0)) ∧
        (goal ≠ 3 → s.hub.on PDM.STATE_PENDING = false → goal % 2 = 0 → Hub.DomainsFollow s.hub g)) ∧
    Completes .mainPgRise s (fun g => g.rd TOP.RAILS_MAIN_PG = 1 ∧ (s.hub.on TOP.RAILS_MAIN_EN = true →
      ∀ d : Nat, d < 10 → 2 ≤ d ∧ s.hub.wanted d = true ∧ s.hub.domOn d = false ∧ s.hub.settled d = true ∧
        s.hub.bit CLK.PLLSTAT_LOCK 0 = true → g.rd PDM.hDom 0 d = 1)) ∧
    Completes .mainPgLoss s (fun g => g.rd TOP.RAILS_MAIN_PG = 0 ∧
      (s.hub.on TOP.RAILS_MAIN_EN = true → Hub.EntersSolitaire s.hub g) ∧
      (s.hub.on TOP.RAILS_MAIN_EN = false → g = s.hub.wr TOP.RAILS_MAIN_PG 0)) ∧
    (s.hub.domOn 2 = true → Completes .corePgLoss s fun g => Hub.EntersSolitaire s.hub g) ∧
    Completes .thermalTrip s (fun g => g.rd TOP.RAILS_THERM_TRIP = 1 ∧ g.bit HDR.ESTAT 4 0 = true ∧ Hub.EntersSolitaire s.hub g) ∧
    Completes .aonBrownout s (fun g => g.rd AON.BOOTCAUSE_CAUSE = 8 ∧ g.rd PDM.DOMON_ON = 1 ∧ g.rd LKT.MARK_HI_VALID = 1 ∧
      g.rd LKT.MARK_LO_TICK = s.hub.aonTimer % 2 ^ 32 ∧ g.tab = [] ∧ g.pkts = [] ∧ g.keys = [] ∧ g.flash = s.hub.flash) ∧
    (∀ addr, s.hub.domOn 1 = false → s.hub.on AON.MGPWAKE_EN = true → addr = 0x58 + s.hub.rd TOP.STRAPS_MGP_A →
      Completes (.mgpAddressMatch addr) s fun g => g.rd AON.hMgpWake = 1 ∧ (s.hub.Wakes 0 → Hub.WokenBy s.hub g 0 0)) ∧
    (∀ addr, s.hub.domOn 1 = true ∨ s.hub.on AON.MGPWAKE_EN = false ∨ addr ≠ 0x58 + s.hub.rd TOP.STRAPS_MGP_A →
      Completes (.mgpAddressMatch addr) s fun g => g = s.hub) ∧
    (∀ l : Fin 32, s.hub.on AON.hBeaconEn 0 l = true → s.hub.lane l = 0 ∨ s.hub.lane l = 8 ∧ s.hub.on OPT.hExit (l / 4) = false →
      Completes (.beaconDetect l) s fun g => (s.hub.Wakes 1 → Hub.WokenBy s.hub g 1 l) ∧
        (s.hub.domOn (3 + l / 8) = false → g.bit PDM.VOTE_FW_DOM (3 + l / 8) = true) ∧
        (s.hub.up (0x20 + l) = true → g.rd OLN.BEACON_SEEN l = 1 ∧ g.bit HDR.ISTAT 1 (0x20 + l) = true) ∧
        (s.hub.up (0x10 + l / 4) = true → s.hub.rd OPT.STAT_STATE (l / 4) = 4 → g.rd OPT.hExit (l / 4) = 1)) ∧
    (∀ l : Fin 32, s.hub.on AON.hBeaconEn 0 l = true →
      (s.hub.lane l ≠ 0 ∧ s.hub.lane l ≠ 8 ∨ s.hub.lane l = 8 ∧ s.hub.on OPT.hExit (l / 4) = true) →
      Completes (.beaconDetect l) s fun g => g = if s.hub.up (0x20 + l) then s.hub.wr OLN.BEACON_SEEN 1 l else s.hub) ∧
    (∀ l : Fin 32, s.hub.on AON.hBeaconEn 0 l = false → Completes (.beaconDetect l) s fun g => g = s.hub) ∧
    (∀ i : Fin 8, s.hub.bit AON.GPIOWAKE_EN i = true → s.hub.ballFunc i = 2 → s.hub.Wakes 3 →
      Completes (.gpioWake i) s fun g => Hub.WokenBy s.hub g 3 i) ∧
    (∀ i : Fin 8, s.hub.bit AON.GPIOWAKE_EN i = false ∨ s.hub.ballFunc i ≠ 2 →
      Completes (.gpioWake i) s fun g => g = s.hub) ∧
    (s.hub.on AON.TCTL_EN = true → s.hub.aonTimer = s.hub.rd AON.TCMP_HI_COUNT * 2 ^ 32 + s.hub.rd AON.TCMP_LO_COUNT →
      s.hub.Wakes 4 → Completes .aonTimerMatch s fun g => Hub.WokenBy s.hub g 4 0) ∧
    (s.hub.on AON.TCTL_EN = false ∨ s.hub.aonTimer ≠ s.hub.rd AON.TCMP_HI_COUNT * 2 ^ 32 + s.hub.rd AON.TCMP_LO_COUNT →
      Completes .aonTimerMatch s fun g => g = s.hub) ∧
    (∀ p : Fin 6, s.hub.domOn 10 = false → s.hub.bit AON.hUsbSusp p = true →
      Completes (.usbResumeDetect p) s fun g => g.bit AON.hUsbHeld p = true ∧
        (s.hub.Wakes 5 → Hub.WokenBy s.hub g 5 (p + 1))) ∧
    (∀ p : Fin 6, s.hub.domOn 10 = false → s.hub.bit AON.hUsbSusp p = false →
      Completes (.usbResumeDetect p) s fun g => g = s.hub) ∧
    (∀ p : Fin 6, s.hub.domOn 10 = true → s.hub.on USB.PORTSTAT_SUSPEND 0 (p + 1) = true → s.hub.Wakes 5 →
      Completes (.usbResumeDetect p) s fun g => Hub.WokenBy s.hub g 5 (p + 1))

/-- The key engine (R606 to R623). Where the spec leaves a point open, its clauses follow the model's choices: log entries 69
and 70. -/
def Obligations.KeyCommandsComplete : Prop :=
  ∀ s : State, s.Inv →
    (∀ r v, s.hub.Grants r KEY.CMD_OP 0 → r.master = .mcpu → s.hub.up 0xE = true → s.hub.rd KEY.CSTAT_DONE ≠ 1 →
      Completes (.keyGen r v) s fun g => g.keyStarted 1 v = true) ∧
    (∀ r v, s.hub.Grants r KEY.CMD_OP 0 → r.master = .mcpu → s.hub.up 0xE = true → s.hub.rd KEY.CSTAT_DONE ≠ 1 →
      Completes (.derive r v) s fun g => g.keyStarted 2 v = true) ∧
    (∀ r v, s.hub.Grants r KEY.CMD_OP 0 → r.master = .mcpu → s.hub.up 0xE = true → s.hub.rd KEY.CSTAT_DONE ≠ 1 →
      Completes (.ecdhGen r v) s fun g => g.keyStarted 3 v = true) ∧
    (∀ r v, s.hub.Grants r KEY.CMD_OP 0 → r.master = .mcpu → s.hub.up 0xE = true → s.hub.rd KEY.CSTAT_DONE ≠ 1 →
      Completes (.ecdh r v) s fun g => g.keyStarted 4 v = true) ∧
    (∀ r v, s.hub.Grants r KEY.CMD_OP 0 → r.master = .mcpu → s.hub.up 0xE = true → s.hub.rd KEY.CSTAT_DONE ≠ 1 →
      Completes (.unwrap r v) s fun g => g.keyStarted 5 v = true) ∧
    (∀ r v, s.hub.Grants r KEY.CMD_OP 0 → r.master = .mcpu → s.hub.up 0xE = true → s.hub.rd KEY.CSTAT_DONE ≠ 1 →
      Completes (.seal r v) s fun g => g.keyStarted 6 v = true) ∧
    (∀ r v, s.hub.Grants r KEY.CMD_OP 0 → r.master = .mcpu → s.hub.up 0xE = true → s.hub.rd KEY.CSTAT_DONE ≠ 1 →
      Completes (.unseal r v) s fun g => g.keyStarted 7 v = true) ∧
    (∀ r v, s.hub.Grants r KEY.CMD_OP 0 → r.master = .mcpu → s.hub.up 0xE = true → s.hub.rd KEY.CSTAT_DONE ≠ 1 →
      Completes (.keyClear r v) s fun g => g.keyStarted 8 v = true) ∧
    (∀ r v, s.hub.Grants r KEY.CMD_OP 0 → r.master = .mcpu → s.hub.up 0xE = true → s.hub.rd KEY.CSTAT_DONE ≠ 1 →
      Completes (.erase r v) s fun g => g.keyStarted 9 v = true) ∧
    (∀ r v, s.hub.Grants r KEY.CMD_OP 0 → r.master ≠ .mcpu →
      Completes (.keyGen r v) s fun g => g.rd KEY.CSTAT_DONE = s.hub.rd KEY.CSTAT_DONE ∧ g.bit HDR.ESTAT 1 0xE = true) ∧
    (∀ ok, s.hub.up 0xE = true → s.hub.rd KEY.CSTAT_DONE = 1 →
      Completes (.keyOpDone ok) s fun g => g.rd KEY.CSTAT_DONE = (if g.rd KEY.CSTAT_CODE = 0 then 2 else 3) ∧
        g.rd KEY.CNT_OP_COUNT = s.hub.oneMore KEY.CNT_OP_COUNT ∧ g.bit HDR.ISTAT 0 0xE = true ∧
        (g.rd KEY.CSTAT_CODE ≠ 0 → g.rd KEY.CNT_FAIL_COUNT = s.hub.oneMore KEY.CNT_FAIL_COUNT)) ∧
    (∀ ok, s.hub.up 0xE = true → s.hub.rd KEY.CSTAT_DONE = 1 → s.hub.rd KEY.hCmd % 16 = 1 ∨ s.hub.rd KEY.hCmd % 16 = 8 →
      s.hub.on KEY.SATTR_LOCKED 0 (bits (s.hub.rd KEY.hCmd) 4 5) = true →
      Completes (.keyOpDone ok) s fun g => g.rd KEY.CSTAT_CODE = 1 ∧ g.keys = s.hub.keys) ∧
    (∀ ok, s.hub.up 0xE = true → s.hub.rd KEY.CSTAT_DONE = 1 → s.hub.rd KEY.hCmd % 16 = 1 →
      s.hub.on KEY.SATTR_LOCKED 0 (bits (s.hub.rd KEY.hCmd) 4 5) = false → s.hub.slotInUse (bits (s.hub.rd KEY.hCmd) 4 5) = false →
      bits (s.hub.rd KEY.hCmd) KEY.CMD_RECIP.lo KEY.CMD_RECIP.w ≠ 0 →
      Completes (.keyOpDone ok) s fun g => g.rd KEY.CSTAT_DONE = 2 ∧ g.rd KEY.SATTR_VALID 0 (bits (s.hub.rd KEY.hCmd) 4 5) = 1 ∧
        g.rd KEY.SATTR_RECIPIENT 0 (bits (s.hub.rd KEY.hCmd) 4 5) = bits (s.hub.rd KEY.hCmd) KEY.CMD_RECIP.lo KEY.CMD_RECIP.w ∧
        (Tab.get [] (bits (s.hub.rd KEY.hCmd) 4 5) g.keys).length = 32) ∧
    (∀ ok, s.hub.up 0xE = true → s.hub.rd KEY.CSTAT_DONE = 1 → s.hub.rd KEY.hCmd % 16 = 8 →
      s.hub.on KEY.SATTR_LOCKED 0 (bits (s.hub.rd KEY.hCmd) 4 5) = false → s.hub.slotInUse (bits (s.hub.rd KEY.hCmd) 4 5) = false →
      Completes (.keyOpDone ok) s fun g => g.rd KEY.CSTAT_DONE = 2 ∧ g.rd KEY.SATTR_VALID 0 (bits (s.hub.rd KEY.hCmd) 4 5) = 0 ∧
        g.keys = Tab.del (bits (s.hub.rd KEY.hCmd) 4 5) s.hub.keys) ∧
    (∀ r v, s.hub.Accepts r KEY.LOCKSET_SLOTS 0 →
      Completes (.slotLock r v) s fun g => ∀ k : Nat, k < 32 → v.testBit k = true → g.rd KEY.SATTR_LOCKED 0 k = 1) ∧
    (∀ r, s.hub.Accepts r KEY.MEXT_GO 0 →
      Completes (.measurementExtend r) s fun g =>
        (r.master = .mcpu → ∀ j : Nat, j < 12 → g.rd (KEY.MVAL.word j) 0 5 =
          leAt (padTo 48 (Config.sha384 (s.hub.meas 5 ++ padTo 48 (s.hub.keyData.take 48)))) (4 * j) 4) ∧
        (r.master ≠ .mcpu → g.meas 5 = s.hub.meas 5 ∧ g.bit HDR.ESTAT 2 0xE = true))

/-- Boot, images and bundles (R624 to R637). Where the spec leaves a point open, its clauses follow the model's choices: log
entries 71 to 75. -/
def Obligations.UpdateCommandsComplete : Prop :=
  ∀ s : State, s.Inv →
    (∀ pufOk corr, s.hub.up 0xE = true → s.hub.on UPD.hBoot = false → s.hub.rd LCS.hStamp = s.hub.rd LCS.STATE_LC → s.hub.cfg = [] →
      s.hub.on UPD.hBundle = false →
      Completes (.bootStart pufOk corr) s fun g => g.rd UPD.hBoot = 1 ∧
        g.rd LKT.BOOT_COUNT = (s.hub.rd LKT.BOOT_COUNT + 1) % 2 ^ LKT.BOOT_COUNT.w ∧
        (s.hub.on LKT.MARK_HI_VALID = true → g.bit HDR.ESTAT 2 0xA = true) ∧
        (pufOk = true → g.rd KEY.ROOT_OK = 1 ∧ g.rd KEY.ROOT_PUF_CORR = corr % 2 ^ KEY.ROOT_PUF_CORR.w ∧ g.root.length = 32) ∧
        (pufOk = false → g.bit HDR.ESTAT 0 0xE = true) ∧ (s.hub.rd LCS.STATE_LC = 6 → g.rd UPD.STAT_RECOVERY = 1)) ∧
    (∀ r bundle, s.hub.Grants r UPD.CTL_START 0 → s.hub.up 0xF = true →
      Completes (.updateStart r bundle) s fun g => g.rd UPD.STAT_STATE = 1 ∧ g.rd UPD.LANDED_COUNT = 0 ∧ g.landed = [] ∧
        g.rd UPD.CTL_TARGET = bnat bundle ∧ g.rd UPD.hArea = (if bundle then s.hub.spareArea else 1) ∧
        (s.hub.rd UPD.COPY_STATE = 1 → g.rd UPD.COPY_STATE = 0)) ∧
    (∀ r v, s.hub.Grants r UPD.BLKDATA_DATA 0 → s.hub.up 0xF = true → s.hub.rd UPD.BLKSTAT_WORDS < 1024 →
      Completes (.blockDataWrite r v) s fun g => g.blk = s.hub.blk ++ [v % 2 ^ 32] ∧
        g.rd UPD.BLKSTAT_WORDS = s.hub.rd UPD.BLKSTAT_WORDS + 1) ∧
    (∀ r num, s.hub.Grants r UPD.BLK_NUM 0 → s.hub.up 0xF = true → s.hub.rd UPD.STAT_STATE = 1 ∨ s.hub.rd UPD.STAT_STATE = 2 →
      s.hub.rd UPD.BLKSTAT_DONE ≠ 1 →
      Completes (.blockLand r num) s fun g => g.rd UPD.BLKSTAT_WORDS = 0 ∧ g.blk = [] ∧
        (s.hub.rd UPD.BLKSTAT_WORDS = 1024 → g.rd UPD.BLKSTAT_DONE = 1 ∧ g.landing = s.hub.blk ∧ g.rd UPD.hBlk = num % 2 ^ 14) ∧
        (s.hub.rd UPD.BLKSTAT_WORDS ≠ 1024 → g.rd UPD.BLKSTAT_DONE = 3 ∧ g.rd UPD.BLKSTAT_CODE = 5 ∧
          g.bit HDR.ESTAT 0 0xF = true)) ∧
    (∀ ok, s.hub.up 0xF = true → s.hub.rd UPD.BLKSTAT_DONE = 1 → s.hub.on UPD.hCrcBad = true →
      Completes (.blockLandDone ok) s fun g => g.rd UPD.BLKSTAT_DONE = 3 ∧ g.rd UPD.BLKSTAT_CODE = 1 ∧
        g.bit HDR.ESTAT 0 0xF = true ∧ g.rd UPD.CNT_CRC_COUNT = s.hub.oneMore UPD.CNT_CRC_COUNT ∧ g.flash = s.hub.flash) ∧
    (s.hub.up 0xF = true → s.hub.rd UPD.BLKSTAT_DONE = 1 → s.hub.on UPD.hCrcBad = false → s.hub.rd UPD.hBlk = 0 →
      Completes (.blockLandDone true) s fun g => g.rd UPD.BLKSTAT_DONE = 2 ∧ g.bit HDR.ISTAT 0 0xF = true ∧
        g.rd UPD.CNT_BLK_COUNT = s.hub.oneMore UPD.CNT_BLK_COUNT ∧ Tab.has 0 g.landed = true ∧
        g.flash = Tab.putRun 0xFF (s.hub.rd UPD.hArea * 2 ^ 26) (s.hub.blockPlain 0) s.hub.flash) ∧
    (∀ r, s.hub.Grants r UPD.CTL_START 0 → s.hub.up 0xF = true → s.hub.rd UPD.STAT_STATE = 2 →
      Completes (.verify r) s fun g => g.rd UPD.STAT_STATE = 3 ∧ g.bit HDR.ISTAT 1 0xF = true) ∧
    (s.hub.up 0xF = true → s.hub.rd UPD.STAT_STATE = 3 → s.hub.rd UPD.hArea = 1 →
      Completes .verifyDone s fun g => (s.hub.imageCheck 1 = 0 → g.rd UPD.STAT_STATE = 4 ∧ g.rd UPD.STAT_CODE = 0) ∧
        (s.hub.imageCheck 1 ≠ 0 → g.rd UPD.STAT_STATE = 6 ∧ g.rd UPD.STAT_CODE = s.hub.imageCheck 1 ∧
          g.bit HDR.ESTAT 1 0xF = true)) ∧
    (∀ r, s.hub.Grants r UPD.CTL_START 0 → s.hub.up 0xF = true → s.hub.rd UPD.STAT_STATE = 4 →
      Completes (.activate r) s fun g =>
        (s.hub.rd UPD.hArea = 1 → g.rd UPD.COPY_STATE = 1 ∧ g.rd UPD.STAT_STATE = 5) ∧
        (s.hub.rd UPD.hArea ≠ 1 → g.rd UPD.hBundle = (s.hub.rd UPD.hArea - 1) % 2 ^ 64)) ∧
    (∀ r, s.hub.Grants r UPD.CTL_START 0 → s.hub.up 0xF = true →
      Completes (.updateAbort r) s fun g => g.rd UPD.STAT_STATE = 0 ∧ (s.hub.rd UPD.COPY_STATE = 1 → g.rd UPD.COPY_STATE = 0)) ∧
    (∀ r, s.hub.Grants r UPD.CTL_START 0 → s.hub.up 0xF = true →
      Completes (.svncommit r) s fun g => g.rd KEY.FUSE_SVN =
        max (s.hub.rd KEY.FUSE_SVN) (min 96 (s.hub.rd UPD.ACTIVE_SVN)) % 2 ^ KEY.FUSE_SVN.w) ∧
    (∀ r v, s.hub.Grants r UPD.BDEC_GO 0 → s.hub.up 0xF = true → s.hub.rd UPD.BDEC_DONE ≠ 1 →
      Completes (.bundleDecrypt r v) s fun g => g.rd UPD.BDEC_DONE = 1 ∧ g.rd UPD.BDEC_CODE = 0 ∧ g.clear = []) ∧
    (s.hub.up 0xF = true → s.hub.rd UPD.BDEC_DONE = 1 → s.hub.on UPD.hBundle = false →
      Completes .bundleDecryptDone s fun g => g.rd UPD.BDEC_DONE = 3 ∧ g.rd UPD.BDEC_CODE = 5 ∧ g.clear = []) ∧
    (∀ c slot, s.hub.up 0xF = true → s.hub.rd UPD.BDEC_DONE = 1 → s.hub.on UPD.hBundle = true →
      (s.hub.bundleSections s.hub.bundleArea)[s.hub.rd UPD.hBdec % 64]? = some c → s.hub.rd UPD.hBdec / 64 % 32 = slot →
      sectionEnc c = true → s.hub.on KEY.SATTR_VALID 0 slot = true → s.hub.rd KEY.SATTR_RECIPIENT 0 slot = 3 →
      16 ≤ c.body.length → c.body.length ≤ 32784 →
      Completes .bundleDecryptDone s fun g =>
        (padTo 16 (Config.gcmTag (s.hub.keyOf slot) (natLe 2 (s.hub.rd UPD.hBdec % 64) ++ List.replicate 10 0) c.head
            (c.body.take (c.body.length - 16))) = c.body.drop (c.body.length - 16) →
          g.rd UPD.BDEC_DONE = 2 ∧ g.rd UPD.BDEC_CODE = 0 ∧ g.clear = padTo (c.body.length - 16) (Config.gcmDecrypt (s.hub.keyOf slot)
            (natLe 2 (s.hub.rd UPD.hBdec % 64) ++ List.replicate 10 0) (c.body.take (c.body.length - 16)))) ∧
        (padTo 16 (Config.gcmTag (s.hub.keyOf slot) (natLe 2 (s.hub.rd UPD.hBdec % 64) ++ List.replicate 10 0) c.head
            (c.body.take (c.body.length - 16))) ≠ c.body.drop (c.body.length - 16) →
          g.rd UPD.BDEC_DONE = 3 ∧ g.rd UPD.BDEC_CODE = 1 ∧ g.clear = [])) ∧
    (∀ r, s.hub.Grants r UPD.BDEC_CLR 0 → s.hub.up 0xF = true →
      Completes (.bdecClr r) s fun g => g.clear = [] ∧ ∀ j : Nat, j < 512 → g.rd (UPD.BCLEAR.word j) = 0)

/-- The window's remote and debug accesses (R189 to R191, R649, R679, R682, R715). Where the spec leaves a point open, its
clauses follow the model's choices: log entry 81. -/
def Obligations.RemoteAccessCommandsComplete : Prop :=
  ∀ s : State, s.Inv →
    (∀ src tok addr count, s.hub.up 0x40 = true → countOk (addr % 2 ^ 24) (count % 16) = false →
      Completes (.regRd src tok addr count) s fun g => g = s.hub.ctlSend
        ⟨3, true, src, tok, natLe 1 5 ++ natLe 1 0 ++ natLe 1 (count % 16) ++ List.replicate 5 0⟩) ∧
    (∀ src tok addr count t row, s.hub.up 0x40 = true → s.hub.GrantsRead ⟨.fabric, src % 2 ^ 14, 4⟩ (addr % 2 ^ 24) →
      count % 16 = 1 → tableAt (addr % 2 ^ 24) = some (t, row) → (addr % 2 ^ 24 - row.base) % row.stride = 0 →
      Completes (.regRd src tok addr count) s fun g => g.rd TUN.RRA_CNT_EXEC = s.hub.oneMore TUN.RRA_CNT_EXEC ∧
        g.ctlOut = s.hub.ctlOut ++ [⟨3, true, src, tok, natLe 1 0 ++ natLe 1 1 ++ natLe 1 1 ++ List.replicate 5 0 ++
          natLe 4 (s.hub.tword (addr % 2 ^ 24))⟩]) ∧
    (∀ src tok addr count data t row, s.hub.up 0x40 = true → s.hub.GrantsAt ⟨.fabric, src % 2 ^ 14, 4⟩ (addr % 2 ^ 24) →
      count % 16 = 1 → tableAt (addr % 2 ^ 24) = some (t, row) →
      (addr % 2 ^ 24 - row.base) % row.stride / 4 + 1 ≠ row.stride / 4 →
      Completes (.regWr src tok addr count data) s fun g =>
        (Tab.get {} (masterNum .fabric * 8 + t) g.staging).entry = (addr % 2 ^ 24 - row.base) / row.stride ∧
        Tab.find ((addr % 2 ^ 24 - row.base) % row.stride / 4) (Tab.get {} (masterNum .fabric * 8 + t) g.staging).words =
          some (data.getD 0 0 % 2 ^ 32) ∧
        g.ctlOut = s.hub.ctlOut ++ [⟨3, true, src, tok, natLe 1 0 ++ natLe 1 1 ++ natLe 1 1 ++ List.replicate 5 0⟩]) ∧
    (∀ addr size v, s.hub.reaches .dbg = true → s.hub.check ⟨.dbg, 0, 4⟩ true addr size = none →
      Completes (.debugAccess true addr size v) s fun g => g = s.hub.written ⟨.dbg, 0, 4⟩ fun h =>
        if size = 8 then (h.putWord ⟨.dbg, 0, 4⟩ addr (v % 2 ^ 32)).putWord ⟨.dbg, 0, 4⟩ (addr + 4) (v / 2 ^ 32)
        else h.putWord ⟨.dbg, 0, 4⟩ addr (v % 2 ^ 32)) ∧
    (∀ addr v t row, s.hub.GrantsRead ⟨.dbg, 0, 4⟩ addr → tableAt addr = some (t, row) → (addr - row.base) % row.stride = 0 →
      Completes (.debugAccess false addr 4 v) s fun g =>
        Tab.get .none (masterNum .dbg) g.resp = .ok [s.hub.tword addr] ∧ g.tab = s.hub.tab) ∧
    (∀ f : TsudyFrame, s.hub.mgpFree = true → s.hub.on MGP.SESS_OPEN = true →
      Completes (.rd f) s fun g =>
        (padTo 8 f.tag ≠ s.hub.tsudyTag 0 f.seq (natLe 1 0x10 ++ natLe 2 f.seq ++ Hub.sessionParams f false) →
          g.mgpResp = natLe 1 7 ++ natLe 1 0x10 ++ natLe 2 f.seq ∧ g.bit HDR.ESTAT 2 0xD = true ∧
          g.rd MGP.CNT_AUTH_TAG = s.hub.oneMore MGP.CNT_AUTH_TAG) ∧
        (padTo 8 f.tag = s.hub.tsudyTag 0 f.seq (natLe 1 0x10 ++ natLe 2 f.seq ++ Hub.sessionParams f false) →
          f.seq % 2 ^ 16 ≠ (s.hub.rd MGP.SESS_SEQ + 1) % 2 ^ 16 →
          g.mgpResp = natLe 1 8 ++ natLe 1 0x10 ++ natLe 2 f.seq ∧ g.bit HDR.ESTAT 4 0xD = true ∧
          g.rd MGP.CNT_SEQ_COUNT = s.hub.oneMore MGP.CNT_SEQ_COUNT) ∧
        (padTo 8 f.tag = s.hub.tsudyTag 0 f.seq (natLe 1 0x10 ++ natLe 2 f.seq ++ Hub.sessionParams f false) →
          f.seq % 2 ^ 16 = (s.hub.rd MGP.SESS_SEQ + 1) % 2 ^ 16 →
          g.rd MGP.SESS_SEQ = f.seq % 2 ^ 16 ∧ g.rd MGP.CNT_REQ_COUNT = s.hub.oneMore MGP.CNT_REQ_COUNT ∧
          (f.len ≠ 15 → g.mgpResp.take 5 = natLe 1 5 ++ natLe 1 0x10 ++ natLe 2 f.seq ++ natLe 1 0))) ∧
    (∀ (f : TsudyFrame) t row, s.hub.mgpFree = true → s.hub.GrantsRead ⟨.mgp, 0, 4⟩ (f.off % 2 ^ 24) → f.len = 15 → f.count = 1 →
      tableAt (f.off % 2 ^ 24) = some (t, row) → (f.off % 2 ^ 24 - row.base) % row.stride = 0 →
      Completes (.rd f) s fun g =>
        (padTo 8 f.tag = s.hub.tsudyTag 0 f.seq (natLe 1 0x10 ++ natLe 2 f.seq ++ Hub.sessionParams f false) →
          f.seq % 2 ^ 16 = (s.hub.rd MGP.SESS_SEQ + 1) % 2 ^ 16 →
          g.mgpResp.take 9 = natLe 1 0 ++ natLe 1 0x10 ++ natLe 2 f.seq ++ natLe 1 1 ++ natLe 4 (s.hub.tword (f.off % 2 ^ 24)))) ∧
    (∀ (f : TsudyFrame) t row, s.hub.mgpFree = true → s.hub.GrantsAt ⟨.mgp, 0, 4⟩ (f.off % 2 ^ 24) → f.len = 19 → f.count = 1 →
      tableAt (f.off % 2 ^ 24) = some (t, row) → (f.off % 2 ^ 24 - row.base) % row.stride / 4 + 1 ≠ row.stride / 4 →
      Completes (.wr f) s fun g =>
        (padTo 8 f.tag ≠ s.hub.tsudyTag 0 f.seq (natLe 1 0x11 ++ natLe 2 f.seq ++ Hub.sessionParams f true) →
          g.mgpResp = natLe 1 7 ++ natLe 1 0x11 ++ natLe 2 f.seq ∧ g.staging = s.hub.staging) ∧
        (padTo 8 f.tag = s.hub.tsudyTag 0 f.seq (natLe 1 0x11 ++ natLe 2 f.seq ++ Hub.sessionParams f true) →
          f.seq % 2 ^ 16 = (s.hub.rd MGP.SESS_SEQ + 1) % 2 ^ 16 →
          g.mgpResp.take 5 = natLe 1 0 ++ natLe 1 0x11 ++ natLe 2 f.seq ++ natLe 1 1 ∧
          Tab.find ((f.off % 2 ^ 24 - row.base) % row.stride / 4) (Tab.get {} (masterNum .mgp * 8 + t) g.staging).words =
            some (f.words.getD 0 0 % 2 ^ 32))) ∧
    (∀ (f : TsudyFrame) t row, s.hub.mgpFree = true → s.hub.GrantsAt ⟨.mgp, 0, 4⟩ (f.off % 2 ^ 24) → f.len = 23 → f.count = 2 →
      tableAt (f.off % 2 ^ 24) = some (t, row) → (f.off % 2 ^ 24 - row.base) % row.stride / 4 + 1 ≠ row.stride / 4 →
      Completes (.wrf f) s fun g =>
        (padTo 8 f.tag = s.hub.tsudyTag 0 f.seq (natLe 1 0x12 ++ natLe 2 f.seq ++ Hub.sessionParams f true) →
          f.seq % 2 ^ 16 = (s.hub.rd MGP.SESS_SEQ + 1) % 2 ^ 16 →
          g.mgpResp.take 5 = natLe 1 0 ++ natLe 1 0x12 ++ natLe 2 f.seq ++ natLe 1 2 ∧
          Tab.find ((f.off % 2 ^ 24 - row.base) % row.stride / 4) (Tab.get {} (masterNum .mgp * 8 + t) g.staging).words =
            some (f.words.getD 1 0 % 2 ^ 32)))

/-- The management port (R673 to R690). Where the spec leaves a point open, its clauses follow the model's choices: log
entries 80 and 81. -/
def Obligations.ManagementPortCommandsComplete : Prop :=
  ∀ s : State, s.Inv →
    (∀ seq, s.hub.mgpFree = true →
      Completes (.ident seq) s fun g => g.mgpResp = natLe 1 0 ++ natLe 1 1 ++ natLe 2 seq ++ s.hub.identData ∧
        g.rd MGP.CNT_REQ_COUNT = s.hub.oneMore MGP.CNT_REQ_COUNT) ∧
    (∀ seq, s.hub.mgpFree = true →
      Completes (.getkey seq) s fun g => g.rd MGP.AUTHCTL_PENDING = 1 ∧ g.rd MGP.AUTHCTL_OP = 2 ∧ g.bit HDR.ISTAT 1 0xD = true ∧
        g.rd MGP.hSeq = seq % 2 ^ 64 ∧ g.rd MGP.CNT_REQ_COUNT = s.hub.oneMore MGP.CNT_REQ_COUNT) ∧
    (∀ seq k toolKey, s.hub.mgpFree = true → toolKey.length = 49 → s.hub.rd LCS.STATE_LC ≠ 6 →
      Completes (.openSess seq k toolKey) s fun g => g.rd MGP.SESS_OPEN = 0 ∧ g.rd MGP.AUTHCTL_PENDING = 1 ∧
        g.rd MGP.AUTHCTL_OP = 3 ∧ g.bit HDR.ISTAT 1 0xD = true ∧ g.bufBytes MGP.AUTHBUF 50 = natLe 1 k ++ toolKey) ∧
    (∀ seq k toolKey, s.hub.mgpFree = true → toolKey.length ≠ 49 →
      Completes (.openSess seq k toolKey) s fun g => g.mgpResp = natLe 1 5 ++ natLe 1 3 ++ natLe 2 seq ∧
        g.rd MGP.SESS_OPEN = s.hub.rd MGP.SESS_OPEN) ∧
    (∀ seq chunk data, s.hub.mgpFree = true → chunk < 4 → data.length ≤ 48 →
      Completes (.auth seq chunk data) s fun g => g.mgpResp = natLe 1 0 ++ natLe 1 4 ++ natLe 2 seq ∧
        ((g.bufBytes MGP.AUTHBUF 256).drop (0x38 + 48 * chunk)).take data.length = data) ∧
    (∀ seq, s.hub.mgpFree = true →
      Completes (.authGo seq) s fun g => g.rd MGP.AUTHCTL_PENDING = 1 ∧ g.rd MGP.AUTHCTL_OP = 5 ∧ g.bit HDR.ISTAT 1 0xD = true) ∧
    (∀ f : TsudyFrame, s.hub.mgpFree = true → s.hub.on MGP.SESS_OPEN = true → f.len = 11 →
      Completes (.close f) s fun g =>
        (padTo 8 f.tag = s.hub.tsudyTag 0 f.seq (natLe 1 6 ++ natLe 2 f.seq ++ []) →
          f.seq % 2 ^ 16 = (s.hub.rd MGP.SESS_SEQ + 1) % 2 ^ 16 →
          g.rd MGP.SESS_OPEN = 0 ∧ g.bit HDR.ISTAT 0 0xD = true ∧ g.mgpResp.take 4 = natLe 1 0 ++ natLe 1 6 ++ natLe 2 f.seq) ∧
        (padTo 8 f.tag ≠ s.hub.tsudyTag 0 f.seq (natLe 1 6 ++ natLe 2 f.seq ++ []) →
          g.mgpResp = natLe 1 7 ++ natLe 1 6 ++ natLe 2 f.seq)) ∧
    (s.hub.up 0xD = true → Completes .responseRead s fun g => g = { s.hub with mgpRead := s.hub.mgpShown }) ∧
    (s.hub.up 0xD = true → Completes .smbusTimeout s fun g => g.bit HDR.ESTAT 3 0xD = true ∧
      g.rd MGP.CNT_TIMEOUT_COUNT = s.hub.oneMore MGP.CNT_TIMEOUT_COUNT) ∧
    (s.hub.up 0xD = true → s.hub.on MGP.AUTHCTL_PENDING = true →
      Completes .mcpuOpTimeout s fun g => g.rd MGP.AUTHCTL_PENDING = 0 ∧
        g.mgpResp = natLe 1 10 ++ natLe 1 (s.hub.rd MGP.AUTHCTL_OP) ++ natLe 2 (s.hub.rd MGP.hSeq)) ∧
    (s.hub.up 0xD = true → s.hub.on MGP.SESS_OPEN = true →
      Completes .sessionIdle s fun g => g.rd MGP.SESS_OPEN = 0 ∧ g.bit HDR.ISTAT 0 0xD = true ∧
        (s.hub.on MGP.CLAIM_HELD = true → s.hub.rd MGP.CLAIM_OWNER = 3 → g.rd MGP.CLAIM_HELD = 0 ∧ g.bit HDR.ISTAT 2 0xD = true)) ∧
    (∀ r, s.hub.Grants r MGP.CTL_CLOSE 0 → s.hub.up 0xD = true → s.hub.on MGP.SESS_OPEN = true →
      Completes (.sessionClose r) s fun g => g.rd MGP.SESS_OPEN = 0 ∧ g.bit HDR.ISTAT 0 0xD = true) ∧
    (∀ r, s.hub.Grants r MGP.AUTHCTL_ACCEPT 0 → s.hub.up 0xD = true → s.hub.on MGP.AUTHCTL_PENDING = true →
      Completes (.authAccept r) s fun g => g.rd MGP.AUTHCTL_PENDING = 0 ∧
        (s.hub.rd MGP.AUTHCTL_OP = 2 → g.mgpResp = natLe 1 0 ++ natLe 1 2 ++ natLe 2 (s.hub.rd MGP.hSeq) ++ s.hub.bufBytes MGP.REPLY 49) ∧
        (s.hub.rd MGP.AUTHCTL_OP = 3 → g.rd MGP.SESS_AUTHING = 1 ∧ g.rd MGP.SID_SID = s.hub.rd (MGP.REPLY.word 0) % 2 ^ 32) ∧
        (s.hub.rd MGP.AUTHCTL_OP = 5 → g.rd MGP.SESS_OPEN = 1 ∧ g.rd MGP.SESS_AUTHING = 0 ∧ g.rd MGP.SESS_SEQ = 0 ∧
          g.bit HDR.ISTAT 0 0xD = true)) ∧
    (∀ r, s.hub.Grants r MGP.AUTHCTL_REJECT 0 → s.hub.up 0xD = true → s.hub.on MGP.AUTHCTL_PENDING = true →
      Completes (.authReject r) s fun g => g.rd MGP.AUTHCTL_PENDING = 0 ∧
        (s.hub.rd MGP.AUTHCTL_OP = 5 → g.mgpResp = natLe 1 11 ++ natLe 1 5 ++ natLe 2 (s.hub.rd MGP.hSeq) ∧ g.rd MGP.SID_SID = 0 ∧
          g.bit HDR.ESTAT 1 0xD = true ∧ g.rd MGP.CNT_AUTH_AUTHFAIL = s.hub.oneMore MGP.CNT_AUTH_AUTHFAIL) ∧
        (s.hub.rd MGP.AUTHCTL_OP ≠ 5 → g.mgpResp = natLe 1 2 ++ natLe 1 (s.hub.rd MGP.AUTHCTL_OP) ++ natLe 2 (s.hub.rd MGP.hSeq))) ∧
    (∀ r, s.hub.Grants r MGP.CLAIM_TAKE 0 → s.hub.up 0xD = true → s.hub.on MGP.CLAIM_HELD = false →
      Completes (.claimTake r) s fun g => g.rd MGP.CLAIM_HELD = 1 ∧ g.rd MGP.CLAIM_OWNER = masterNum r.master ∧
        g.bit HDR.ISTAT 2 0xD = true) ∧
    (∀ r, s.hub.Grants r MGP.CLAIM_RELEASE 0 → s.hub.up 0xD = true → s.hub.on MGP.CLAIM_HELD = true →
      s.hub.rd MGP.CLAIM_OWNER = masterNum r.master →
      Completes (.claimRelease r) s fun g => g.rd MGP.CLAIM_HELD = 0 ∧ g.bit HDR.ISTAT 2 0xD = true)

/-- Debug, the life cycle, the locket, escalation and telemetry (R648 to R672). Where the spec leaves a point open, its
clauses follow the model's choices: log entries 76 to 79 and 151. -/
def Obligations.ProtectionCommandsComplete : Prop :=
  ∀ s : State, s.Inv →
    (∀ r, s.hub.Grants r DBG.CTL_UNLOCK 0 → s.hub.up 0xC = true → s.hub.on DBG.STAT_LOCKOUT = false →
      Completes (.debugUnlock r) s fun g =>
        (s.hub.tokenHolds DBG.AUTHPUB DBG.AUTHSIG DBG.NONCE (s.hub.rd DBG.AUTHKEY_INDEX) "DBG1" [] = true →
          g.rd DBG.STAT_STATE = 2) ∧
        (s.hub.tokenHolds DBG.AUTHPUB DBG.AUTHSIG DBG.NONCE (s.hub.rd DBG.AUTHKEY_INDEX) "DBG1" [] = false →
          g.bit HDR.ESTAT 1 0xC = true ∧ g.rd DBG.STAT_FAILS = min 3 (s.hub.rd DBG.STAT_FAILS + 1) ∧
          g.on DBG.STAT_LOCKOUT = decide (2 ≤ s.hub.rd DBG.STAT_FAILS))) ∧
    (∀ r, s.hub.Grants r DBG.CTL_RELOCK 0 → s.hub.up 0xC = true → s.hub.rd DBG.STAT_STATE = 2 →
      Completes (.relock r) s fun g => g.rd DBG.STAT_STATE = (if s.hub.rd LCS.STATE_LC ∈ [1, 2, 3, 5] then 1 else 0) ∧
        g.bit HDR.ISTAT 0 0xC = true) ∧
    (∀ r v, s.hub.Grants r DBG.FI_GO 0 → s.hub.up 0xC = true →
      Completes (.faultInject r v) s fun g => (s.hub.rd LCS.STATE_LC ≠ 2 → g.bit HDR.ESTAT 0 0xC = true) ∧
        (s.hub.rd LCS.STATE_LC = 2 → bits v 0 3 < 5 → g.rd DBG.CNT_FI_COUNT = s.hub.oneMore DBG.CNT_FI_COUNT ∧
          (bits v 0 3 = 0 → (pageRow? (bits v 8 12)).isSome = true → secondPage (bits v 8 12) = false →
            g.bit HDR.ESTAT (bits v 3 5) (bits v 8 12) = true))) ∧
    (∀ r, s.hub.Grants r LCS.CTL_GO 0 → s.hub.up 0xB = true → s.hub.rd LCS.STAT_DONE ≠ 1 →
      Completes (.lifeCycleChange r) s fun g =>
        (Hub.lcAllowed (s.hub.rd LCS.STATE_LC) (s.hub.rd LCS.TARGET_LC) = false → g.rd LCS.STAT_DONE = 3 ∧ g.rd LCS.STAT_CODE = 1) ∧
        (Hub.lcAllowed (s.hub.rd LCS.STATE_LC) (s.hub.rd LCS.TARGET_LC) = true →
          s.hub.rd LCS.CONFIRM_VALUE ≠ s.hub.rd KEY.DEVID_LO_ID → g.rd LCS.STAT_DONE = 3 ∧ g.rd LCS.STAT_CODE = 2) ∧
        (Hub.lcAllowed (s.hub.rd LCS.STATE_LC) (s.hub.rd LCS.TARGET_LC) = true →
          s.hub.rd LCS.CONFIRM_VALUE = s.hub.rd KEY.DEVID_LO_ID ∧ s.hub.rd LCS.TARGET_LC ≠ 5 ∧ s.hub.rd UPD.STAT_STATE ≠ 5 →
          g.rd LCS.STAT_DONE = 1 ∧ g.rd LCS.hTo = s.hub.rd LCS.TARGET_LC % 2 ^ 64)) ∧
    (∀ straps, s.hub.domOn 1 = true → s.hub.rd LCS.STAT_DONE = 1 →
      Completes (.lifeCycleWipeDone false straps) s fun g => g.rd LCS.STAT_DONE = 3 ∧ g.rd LCS.STAT_CODE = 5 ∧
        g.rd LCS.STATE_LC = s.hub.rd LCS.STATE_LC) ∧
    (∀ straps, s.hub.domOn 1 = true → s.hub.rd LCS.STAT_DONE = 1 →
      Completes (.lifeCycleWipeDone true straps) s fun g => g.rd LCS.STATE_LC = s.hub.rd LCS.hTo % 2 ^ LCS.STATE_LC.w ∧
        g.recs = [] ∧ g.marks = [] ∧ g.cfg = [] ∧ g.tab = [] ∧ g.keys = [] ∧ g.rd PDM.DOMON_ON = 1 ∧
        g.rd TOP.STRAPS_MGP_A = straps % 8) ∧
    (∀ rec rest, s.hub.up 0xA = true → s.hub.lkQueue = rec :: rest →
      Completes (.locketWrite true) s fun g => g.lkQueue = rest ∧
        g.rd LKT.HEAD_SEQ = (s.hub.rd LKT.HEAD_SEQ + 1) % 2 ^ 32 ∧
        (s.hub.rd LKT.HEAD_SEQ < 16384 → (Tab.get [] (s.hub.rd LKT.HEAD_SEQ) g.lkRing).take 48 =
          s.hub.recordBytes rec s.hub.canSeal)) ∧
    (∀ rec rest, s.hub.up 0xA = true → s.hub.lkQueue = rec :: rest →
      Completes (.locketWrite false) s fun g => g.lkQueue = rest ∧ g.lkRing = s.hub.lkRing ∧ g.bit HDR.ESTAT 1 0xA = true ∧
        g.rd LKT.HEAD_SEQ = s.hub.rd LKT.HEAD_SEQ) ∧
    (∀ r v, s.hub.Grants r LKT.WCTL_GO 0 → s.hub.up 0xA = true →
      Completes (.locketFirmwareRecord r v) s fun g =>
        (s.hub.lkQueue.length < 8 → g.lkQueue.dropLast = s.hub.lkQueue ∧
          g.lkQueue.getLast?.map LkRec.typ = some (v % 256) ∧
          g.lkQueue.getLast?.bind LkRec.own = some (s.hub.bufBytes LKT.WDATA 32)) ∧
        (8 ≤ s.hub.lkQueue.length → g.rd LKT.CNT_LOST_COUNT = s.hub.oneMore LKT.CNT_LOST_COUNT ∧
          g.lkQueue = s.hub.lkQueue ∧ g.bit HDR.ESTAT 0 0xA = true)) ∧
    (∀ r seq, s.hub.Grants r LKT.RSEQ_SEQ 0 → s.hub.up 0xA = true → Tab.find (seq % 2 ^ 32) s.hub.lkRing = none →
      Completes (.locketRead r seq) s fun g => g.rd LKT.RSEQ_SEQ = seq % 2 ^ 32 ∧ g.rd LKT.RSTAT_ABSENT = 1) ∧
    (∀ r seq bs, s.hub.Grants r LKT.RSEQ_SEQ 0 → s.hub.up 0xA = true → Tab.find (seq % 2 ^ 32) s.hub.lkRing = some bs →
      Completes (.locketRead r seq) s fun g => g.rd LKT.RSEQ_SEQ = seq % 2 ^ 32 ∧ g.rd LKT.RSTAT_ABSENT = 0 ∧
        g.bufBytes LKT.RDATA 64 = padTo 64 bs ∧ g.rd LKT.RSTAT_TAG = s.hub.tagState (seq % 2 ^ 32) bs) ∧
    (∀ r, s.hub.Grants r LKT.CTL_MARKCLR 0 → s.hub.up 0xA = true →
      Completes (.markclr r) s fun g => g.rd LKT.MARK_LO_TICK = 0 ∧ g.rd LKT.MARK_HI_TICK = 0 ∧ g.rd LKT.MARK_HI_VALID = 0) ∧
    (∀ src tok seq, s.hub.up 0xA = true → s.hub.domOn 2 = true →
      Completes (.lktRd src tok seq) s fun g => g.ctlOut = s.hub.ctlOut ++ [⟨0x63, true, src, tok,
        if s.hub.isCrown src = false then padTo 56 (natLe 1 3)
        else match Tab.find (seq % 2 ^ 32) s.hub.lkRing with
          | none => padTo 56 (natLe 1 1)
          | some bs => padTo 56 (natLe 1 0 ++ natLe 1 (s.hub.tagState (seq % 2 ^ 32) bs)) ++ padTo 64 bs⟩]) ∧
    (∀ pg, s.hub.domOn (pageDom pg) = true → (pageRow? pg).isSome = true → noIrq pg = false → s.hub.on HDR.hEscRun pg = true →
      pg ≠ 6 →
      Completes (.escalationExpiry pg) s fun g =>
        (s.hub.escStage pg = 0 → g = s.hub.wr HDR.hEscRun 0 pg) ∧
        (s.hub.escStage pg = 1 → g.rd TEL.ESCCNT_STAGE1 = s.hub.oneMore TEL.ESCCNT_STAGE1 ∧
          g.rd TEL.ESCLAST_PAGE = pg % 2 ^ TEL.ESCLAST_PAGE.w ∧ g.rd TEL.ESCLAST_STAGE = 1 ∧ g.rd HDR.PSTAT_READY pg = 0) ∧
        (s.hub.escStage pg = 2 → s.hub.rd PDM.STATE_CURRENT ≠ 2 → g.rd TEL.ESCCNT_STAGE2 = s.hub.oneMore TEL.ESCCNT_STAGE2 ∧
          g.rd TEL.ESCLAST_STAGE = 2 ∧ g.rd PDM.STATE_CURRENT = 2) ∧
        (s.hub.escStage pg = 3 → g.rd PDM.DOMON_ON = 1 ∧ g.tab = [] ∧ g.keys = [])) ∧
    (∀ r, s.hub.Grants r TEL.SNAP_GO 0 → s.hub.up 6 = true → s.hub.on TEL.SSTAT_BUSY = false →
      Completes (.telemetrySnapshot r) s fun g => g.rd TEL.SNAPNUM_NUM = (s.hub.rd TEL.SNAPNUM_NUM + 1) % 2 ^ 32 ∧
        g.rd TEL.SNAPTIME_LO_NS = s.hub.now % 2 ^ 32 ∧ g.rd TEL.CNT_SNAP_COUNT = s.hub.oneMore TEL.CNT_SNAP_COUNT ∧
        g.bit HDR.ISTAT 0 6 = true) ∧
    (∀ r, s.hub.Grants r TEL.SNAP_GO 0 → s.hub.up 6 = true → s.hub.on TEL.SSTAT_BUSY = true →
      Completes (.telemetrySnapshot r) s fun g => g.rd TEL.SNAPNUM_NUM = s.hub.rd TEL.SNAPNUM_NUM ∧ g.bit HDR.ESTAT 1 6 = true) ∧
    (s.hub.up 6 = true → s.hub.on TEL.CFG_PERIOD_MS = true → s.hub.on TEL.SSTAT_BUSY = false →
      Completes .telemetryPeriod s fun g => g.rd TEL.SNAPNUM_NUM = (s.hub.rd TEL.SNAPNUM_NUM + 1) % 2 ^ 32 ∧
        g.rd TEL.CNT_SNAP_COUNT = s.hub.oneMore TEL.CNT_SNAP_COUNT ∧ g.bit HDR.ISTAT 0 6 = true) ∧
    (∀ src tok, s.hub.up 6 = true → s.hub.domOn 2 = true →
      Completes (.telSnap src tok) s fun g =>
        (s.hub.isCrown src = false → g.ctlOut = s.hub.ctlOut ++ [⟨0x61, true, src, tok,
          natLe 4 3 ++ natLe 4 (s.hub.rd TEL.SNAPNUM_NUM)⟩]) ∧
        (s.hub.isCrown src = true → s.hub.on TEL.CFG_SEND = false → g.ctlOut = s.hub.ctlOut ++ [⟨0x61, true, src, tok,
          natLe 4 0 ++ natLe 4 ((s.hub.rd TEL.SNAPNUM_NUM + 1) % 2 ^ 32)⟩]))

/-- Node time, balls and general timers (R705, R711 to R714). Where the spec leaves a point open, its clauses follow the
model's choices: log entries 82 and 83. -/
def Obligations.TimerAndBallCommandsComplete : Prop :=
  ∀ s : State, s.Inv →
    (∀ r, s.hub.Accepts r TOP.NTCTL_SET 0 →
      Completes (.nodeTimeSet r) s fun g => g.rd TOP.hSetNow = 1) ∧
    (∀ r v b, s.hub.Grants r GPX.BFUNC_FUNC 0 → s.hub.rd GPX.BSEL_BALL = b → b < 24 →
      bits v 0 2 = 0 ∨ s.hub.rd GPX.BFUNC_FUNC 0 b = 0 ∨ s.hub.rd GPX.BFUNC_FUNC 0 b = bits v 0 2 →
      Completes (.ballFunctionWrite r v) s fun g => g.rd GPX.BFUNC_FUNC 0 b = bits v 0 2 ∧
        g.rd GPX.BFUNC_DIR 0 b = bits v GPX.BFUNC_DIR.lo GPX.BFUNC_DIR.w ∧
        g.rd GPX.BFUNC_OUT 0 b = bits v GPX.BFUNC_OUT.lo GPX.BFUNC_OUT.w) ∧
    (∀ r v b, s.hub.Grants r GPX.BFUNC_FUNC 0 → s.hub.rd GPX.BSEL_BALL = b → b < 24 →
      bits v 0 2 ≠ 0 → s.hub.rd GPX.BFUNC_FUNC 0 b ≠ 0 → s.hub.rd GPX.BFUNC_FUNC 0 b ≠ bits v 0 2 →
      Completes (.ballFunctionWrite r v) s fun g => g.rd GPX.BFUNC_FUNC 0 b = s.hub.rd GPX.BFUNC_FUNC 0 b ∧
        g.bit HDR.ESTAT 0 0xD0 = true ∧ (s.hub.on GPX.CONFLICT_VALID = false →
          g.rd GPX.CONFLICT_VALID = 1 ∧ g.rd GPX.CONFLICT_BALL = b ∧ g.rd GPX.CONFLICT_ASKED = bits v 0 2)) ∧
    (∀ r v t, s.hub.Accepts r TMR.TCLAIM_CLAIM 0 → s.hub.rd TMR.TSEL_TIMER = t →
      Completes (.timerClaim r v) s fun g =>
        (s.hub.on TMR.TCLAIM_HELD 0 t = false → g.rd TMR.TCLAIM_HELD 0 t = 1 ∧ g.rd TMR.TCLAIM_OWNER 0 t = v % 256 ∧
          g.rd TMR.TCLAIM_MASTER 0 t = masterNum r.master) ∧
        (s.hub.on TMR.TCLAIM_HELD 0 t = true → g.bit HDR.ESTAT 0 0xD1 = true ∧
          g.rd TMR.TCLAIM_OWNER 0 t = s.hub.rd TMR.TCLAIM_OWNER 0 t)) ∧
    (∀ r t, s.hub.Accepts r TMR.TCLAIM_RELEASE 0 → s.hub.rd TMR.TSEL_TIMER = t →
      Completes (.timerRelease r) s fun g =>
        (s.hub.timerHeld r.master t = true → g.rd TMR.TCLAIM_HELD 0 t = 0 ∧ g.rd TMR.TCFG_EN 0 t = 0) ∧
        (s.hub.timerHeld r.master t = false → g.bit HDR.ESTAT 1 0xD1 = true ∧
          g.rd TMR.TCLAIM_HELD 0 t = s.hub.rd TMR.TCLAIM_HELD 0 t)) ∧
    (∀ t : Fin 16, s.hub.up 0xD1 = true → s.hub.on TMR.TCFG_EN 0 t = true → s.hub.rd TMR.TCFG_MODE 0 t ≠ 2 →
      s.hub.on TMR.hStop 0 t = false →
      Completes (.timerExpiry t) s fun g => g.bit HDR.ISTAT t 0xD1 = true ∧
        (s.hub.rd TMR.TCFG_MODE 0 t = 1 → g.rd TMR.TCOUNT_COUNT 0 t = s.hub.rd TMR.TLOAD_COUNT 0 t % 2 ^ 32) ∧
        (s.hub.rd TMR.TCFG_MODE 0 t ≠ 1 → g.rd TMR.TCOUNT_COUNT 0 t = 0 ∧ g.rd TMR.hStop 0 t = 1) ∧
        (s.hub.on TMR.TCFG_OUTEN 0 t = true → g.rd TMR.hOut 0 t = 1 - s.hub.rd TMR.hOut 0 t)) ∧
    (∀ t : Fin 16, s.hub.up 0xD1 = true → s.hub.on TMR.TCFG_EN 0 t = true → s.hub.rd TMR.TCFG_MODE 0 t = 2 →
      s.hub.timerBall t = true →
      Completes (.timerCapture t) s fun g => g.rd TMR.TCAP_COUNT 0 t = s.hub.rd TMR.TCOUNT_COUNT 0 t % 2 ^ 32 ∧
        g.bit HDR.ISTAT t 0xD1 = true)

/-- Frame memory: what each command that stores to it leaves alone, byte for byte. A fill and a capture store inside the
slots of their ring, a host write inside its own run of the slot's raster, a received packet inside the slots of its
stream's ring, a catch-up inside the slot it fills, and a landed write inside its target window's run (R349, R354, R355,
R359, R371, R374, R429). Every command that is not named here and does not reset or wipe the memory leaves all of it
alone: `Obligations.CommandsKeepTheirFrame`. -/
def Obligations.FrameMemoryStoresStayInPlace : Prop :=
  ∀ s : State, s.Inv →
    (∀ w a, (∀ k ∈ s.hub.ringOf w, k < 256 ∧ (a < s.hub.slotBase k ∨ s.hub.slotBase k + s.hub.slotBytes k ≤ a)) →
      Completes (.ringFillDone w) s fun g => Tab.get 0 a g.fmem = Tab.get 0 a s.hub.fmem) ∧
    (∀ (d : Fin 2) px a, (∀ k : Nat, k < 256 → s.hub.rd DTL.hSlot 0 d = k + 1 →
        a < s.hub.slotBase k ∨ s.hub.slotBase k + s.hub.slotBytes k ≤ a) → s.hub.rd DTL.hSlot 0 d ≤ 256 →
      Completes (.captureCommit d px) s fun g => Tab.get 0 a g.fmem = Tab.get 0 a s.hub.fmem) ∧
    (∀ (w : Fin 64) off data a, (0 < s.hub.rd DTL.hSlot 0 (2 + w) →
        a < s.hub.slotBase (s.hub.rd DTL.hSlot 0 (2 + w) - 1) + (off - 0x1000000) ∨
        s.hub.slotBase (s.hub.rd DTL.hSlot 0 (2 + w) - 1) + (off - 0x1000000) + data.length ≤ a) →
      Completes (.hostPixelWrite w off data) s fun g => Tab.get 0 a g.fmem = Tab.get 0 a s.hub.fmem) ∧
    (∀ tid t a, (∀ r : Nat, r < 8 → s.hub.streamFor tid = some r → s.hub.rd DTL.hSlot 0 (66 + r) ≤ 256 ∧
        (0 < s.hub.rd DTL.hSlot 0 (66 + r) → a < s.hub.slotBase (s.hub.rd DTL.hSlot 0 (66 + r) - 1) ∨
          s.hub.slotBase (s.hub.rd DTL.hSlot 0 (66 + r) - 1) + s.hub.slotBytes (s.hub.rd DTL.hSlot 0 (66 + r) - 1) ≤ a) ∧
        (∀ k ∈ s.hub.ringOf (.receive (Fin.ofNat 8 r)), k < 256 ∧
          (a < s.hub.slotBase k ∨ s.hub.slotBase k + s.hub.slotBytes k ≤ a))) →
      Completes (.tileReceived tid t) s fun g => Tab.get 0 a g.fmem = Tab.get 0 a s.hub.fmem) ∧
    (∀ tid t a, (∀ r : Nat, r < 8 → s.hub.streamFor tid = some r → s.hub.rd DTL.hSlot 0 (66 + r) ≤ 256 ∧
        (0 < s.hub.rd DTL.hSlot 0 (66 + r) → a < s.hub.slotBase (s.hub.rd DTL.hSlot 0 (66 + r) - 1) ∨
          s.hub.slotBase (s.hub.rd DTL.hSlot 0 (66 + r) - 1) + s.hub.slotBytes (s.hub.rd DTL.hSlot 0 (66 + r) - 1) ≤ a) ∧
        (∀ k ∈ s.hub.ringOf (.receive (Fin.ofNat 8 r)), k < 256 ∧
          (a < s.hub.slotBase k ∨ s.hub.slotBase k + s.hub.slotBytes k ≤ a))) →
      Completes (.endReceived tid t) s fun g => Tab.get 0 a g.fmem = Tab.get 0 a s.hub.fmem) ∧
    (∀ w a, s.hub.rd DTL.hSlot 0 (writerNo w) ≤ 256 → (0 < s.hub.rd DTL.hSlot 0 (writerNo w) →
        a < s.hub.slotBase (s.hub.rd DTL.hSlot 0 (writerNo w) - 1) ∨
        s.hub.slotBase (s.hub.rd DTL.hSlot 0 (writerNo w) - 1) + s.hub.slotBytes (s.hub.rd DTL.hSlot 0 (writerNo w) - 1) ≤ a) →
      Completes (.catchupDone w) s fun g => Tab.get 0 a g.fmem = Tab.get 0 a s.hub.fmem) ∧
    (∀ busOk a, (∀ m ∈ s.hub.land.take 1, a < s.hub.twBase (m.h.win % 32) + m.h.addr ∨
        s.hub.twBase (m.h.win % 32) + m.h.addr + m.h.len ≤ a) →
      Completes (.postedWriteIssue busOk) s fun g => Tab.get 0 a g.fmem = Tab.get 0 a s.hub.fmem)

/-- The table windows: what a write of an entry leaves alone, word for word, granted or refused (R51, R181, R348, R643). The
words that change are those of the entry written; a lower word changes none. -/
def Obligations.TableWritesStayInTheirEntry : Prop :=
  ∀ s : State, s.Inv →
    (∀ r addr v t row a, tableAt addr = some (t, row) → t ≠ 0 → t ≠ 2 →
      (a < row.base + row.stride * ((addr - row.base) / row.stride) ∨
        row.base + row.stride * ((addr - row.base) / row.stride) + row.stride ≤ a) →
      Completes (.tableEntryWrite r addr v) s fun g => g.tword a = s.hub.tword a) ∧
    (∀ r addr v t row, tableAt addr = some (t, row) → (addr - row.base) % row.stride / 4 + 1 ≠ row.stride / 4 →
      Completes (.tableWordWrite r addr v) s fun g => g.tab = s.hub.tab) ∧
    (∀ r (idx : Fin 8192) v a, (a < tunAddr idx ∨ tunAddr idx + 32 ≤ a) →
      Completes (.tunnelEntryWrite r idx v) s fun g => g.tword a = s.hub.tword a) ∧
    (∀ r (idx : Fin 256) v a, (a < slotAddr idx 0 ∨ slotAddr idx 16 ≤ a ∨ slotAddr idx 4 ≤ a ∧ a < slotAddr idx 8) →
      Completes (.slotEntryWrite r idx v) s fun g => g.tword a = s.hub.tword a) ∧
    (∀ r v a, (a < 0x5C0000 + 32 * s.hub.rd ACT.ESEL_ENTRY ∨ 0x5C0020 + 32 * s.hub.rd ACT.ESEL_ENTRY ≤ a) →
      Completes (.accessEntryWrite r v) s fun g => g.tword a = s.hub.tword a)

/-- R38: the one operation by which every command raises an error. The bit is set whether or not EEN enables it; an enabled
error that takes its bit from 0 to 1 loads ECAP where none is held, sets ISTAT.ERR and starts the escalation timer; a
recurrence does nothing; a write to EEN does none of these. The second page of a block has no errors (R35), a display page
no interrupt (R40), and an ESC.TIME of 0 disables the timer. -/
def Obligations.ErrorsAreCapturedOnce : Prop :=
  ∀ s : State, s.Inv →
    (∀ (pg n : Nat) (c : Cap), secondPage pg = false → n < 32 → (s.hub.raise pg n c).bit HDR.ESTAT n pg = true) ∧
    (∀ (pg n : Nat) (c : Cap), s.hub.bit HDR.ESTAT n pg = true → s.hub.raise pg n c = s.hub) ∧
    (∀ (pg n : Nat) (c : Cap), pg ≠ 0xA → s.hub.bit HDR.EEN n pg = false →
      (∀ F ∈ [HDR.ECAP_ADDR_LO, HDR.ECAP_ADDR_HI, HDR.ECAP_MASTER, HDR.ECAP_ATYPE, HDR.ECAP_CODE, HDR.ECAP_VALID,
        HDR.ECAP_TIME_LO, HDR.ECAP_TIME_HI, HDR.ISTAT, HDR.hEscRun], (s.hub.raise pg n c).rd F pg = s.hub.rd F pg)) ∧
    (∀ (pg n lo hi m a k : Nat), secondPage pg = false → n < 32 → s.hub.bit HDR.ESTAT n pg = false →
      s.hub.bit HDR.EEN n pg = true → s.hub.on HDR.ECAP_VALID pg = false →
      (fun g : Hub => g.rd HDR.ECAP_VALID pg = 1 ∧ g.rd HDR.ECAP_ADDR_LO pg = lo % 2 ^ HDR.ECAP_ADDR_LO.w ∧
        g.rd HDR.ECAP_ADDR_HI pg = hi % 2 ^ HDR.ECAP_ADDR_HI.w ∧ g.rd HDR.ECAP_MASTER pg = m % 2 ^ HDR.ECAP_MASTER.w ∧
        g.rd HDR.ECAP_ATYPE pg = a % 2 ^ HDR.ECAP_ATYPE.w ∧ g.rd HDR.ECAP_CODE pg = k % 2 ^ HDR.ECAP_CODE.w ∧
        g.rd HDR.ECAP_TIME_LO pg = s.hub.now % 2 ^ 32 ∧ g.rd HDR.ECAP_TIME_HI pg = s.hub.now / 2 ^ 32 % 2 ^ 32)
        (s.hub.raise pg n ⟨some lo, some hi, some m, some a, some k⟩)) ∧
    (∀ (pg n : Nat) (c : Cap), s.hub.bit HDR.EEN n pg = true → s.hub.on HDR.ECAP_VALID pg = true → pg ≠ 0xA →
      (∀ F ∈ [HDR.ECAP_ADDR_LO, HDR.ECAP_ADDR_HI, HDR.ECAP_MASTER, HDR.ECAP_ATYPE, HDR.ECAP_CODE, HDR.ECAP_VALID,
        HDR.ECAP_TIME_LO, HDR.ECAP_TIME_HI], (s.hub.raise pg n c).rd F pg = s.hub.rd F pg)) ∧
    (∀ (pg n : Nat) (c : Cap), noIrq pg = false → n < 32 → s.hub.bit HDR.ESTAT n pg = false → s.hub.bit HDR.EEN n pg = true →
      (s.hub.raise pg n c).bit HDR.ISTAT 31 pg = true ∧
        (s.hub.on HDR.ESC_TIME pg = true → (s.hub.raise pg n c).rd HDR.hEscRun pg = 1) ∧
        (s.hub.on HDR.ESC_TIME pg = false → (s.hub.raise pg n c).rd HDR.hEscRun pg = s.hub.rd HDR.hEscRun pg)) ∧
    (∀ (r : Req) (pg v : Nat), s.hub.GrantsAt r (pg * 4096 + 0x14) →
      Completes (.registerWrite r (pg * 4096 + 0x14) 4 v) s fun g =>
        (∀ F ∈ [HDR.ESTAT, HDR.ECAP_ADDR_LO, HDR.ECAP_ADDR_HI, HDR.ECAP_MASTER, HDR.ECAP_ATYPE, HDR.ECAP_CODE, HDR.ECAP_VALID,
          HDR.ECAP_TIME_LO, HDR.ECAP_TIME_HI, HDR.ISTAT, HDR.hEscRun], g.rd F pg = s.hub.rd F pg))

/-- R39: a write that leaves every bit of ESTAT at 0 clears ECAP_INFO.VALID, and the next enabled error is captured; a write
that leaves a bit set keeps the capture. R41: where a write to ESTAT clears a bit in the cycle in which an enabled error
sets that bit or another, the bit reads 1 after the write, ECAP holds the new error's capture, taken now, VALID is 1, and
the escalation timer runs for it. -/
def Obligations.ClearedEstatReleasesTheCapture : Prop :=
  ∀ s : State, s.Inv →
    (∀ r pg v, s.hub.GrantsAt r (pg * 4096 + 0x10) → secondPage pg = false → clrMask (s.hub.rd HDR.ESTAT pg) v = 0 →
      Completes (.estatClear r pg v 0) s fun g => g.rd HDR.ESTAT pg = 0 ∧ g.rd HDR.ECAP_VALID pg = 0 ∧
        (∀ n : Nat, n < 32 → s.hub.bit HDR.EEN n pg = true →
          (g.raise pg n ⟨some 5, some 6, some 1, some 1, some 9⟩).rd HDR.ECAP_VALID pg = 1 ∧
          (g.raise pg n ⟨some 5, some 6, some 1, some 1, some 9⟩).rd HDR.ECAP_ADDR_LO pg = 5)) ∧
    (∀ r pg v, s.hub.GrantsAt r (pg * 4096 + 0x10) → secondPage pg = false → clrMask (s.hub.rd HDR.ESTAT pg) v ≠ 0 →
      Completes (.estatClear r pg v 0) s fun g => (∀ F ∈ [HDR.ECAP_ADDR_LO, HDR.ECAP_ADDR_HI, HDR.ECAP_MASTER, HDR.ECAP_ATYPE,
        HDR.ECAP_CODE, HDR.ECAP_VALID, HDR.ECAP_TIME_LO, HDR.ECAP_TIME_HI], g.rd F pg = s.hub.rd F pg)) ∧
    (∀ r pg v n, s.hub.GrantsAt r (pg * 4096 + 0x10) → secondPage pg = false → n < 32 → s.hub.rd HDR.ESTAT pg &&& v ≠ 0 →
      s.hub.bit HDR.EEN n pg = true → (s.hub.bit HDR.ESTAT n pg && !v.testBit n) = false →
      Completes (.estatClear r pg v (2 ^ n)) s fun g => g.bit HDR.ESTAT n pg = true ∧ g.rd HDR.ECAP_VALID pg = 1 ∧
        g.rd HDR.ECAP_TIME_LO pg = s.hub.now % 2 ^ 32 ∧ g.rd HDR.ECAP_TIME_HI pg = s.hub.now / 2 ^ 32 % 2 ^ 32 ∧
        (noIrq pg = false → s.hub.on HDR.ESC_TIME pg = true → g.rd HDR.hEscRun pg = 1))

/-- R33: an access to an index that no map lists. A read returns all ones with an error response in the form of the
master's path (R61), a write is dropped, TOP.ESTAT bit 0 is set, and the node keeps all else but that capture and the
master's 64-bit latch. -/
def Obligations.UnpopulatedIndexIsRefused : Prop :=
  ∀ s : State, s.Inv →
    (∀ (r : Req) addr v, s.hub.reaches r.master = true → addr % 4 = 0 → pageRow? (addr / 4096) = none → tableAt addr = none →
      Completes (.registerWrite r addr 4 v) s fun g => g.bit HDR.ESTAT 0 0 = true ∧
        Hub.SameBut [Kind.errors, Kind.latch64, Kind.resp] s.hub g ∧
        Tab.get .none (masterNum r.master) g.resp = (match r.master with
          | .mcpu => .busError [] | .pcieHost => .dropped | .fabric => .fabric 3 [] | .mgp => .tsudy 3 []
          | .dbg => .debug 1 [] | _ => .none)) ∧
    (∀ (r : Req) addr, s.hub.reaches r.master = true → addr % 4 = 0 → pageRow? (addr / 4096) = none → tableAt addr = none →
      (r.size = 4 ∨ r.size = 8 ∧ addr % 8 = 0 ∧ (r.master = .mcpu ∨ r.master = .pcieHost)) →
      Completes (.lowWordRead r addr) s fun g => g.bit HDR.ESTAT 0 0 = true ∧
        Hub.SameBut [Kind.errors, Kind.latch64, Kind.resp, Kind.pci] s.hub g ∧
        Tab.get .none (masterNum r.master) g.resp = (match r.master with
          | .mcpu => .busError (List.replicate (r.size / 4) 0xFFFFFFFF) | .pcieHost => .unsupported | .fabric => .fabric 3 [0xFFFFFFFF]
          | .mgp => .tsudy 3 [0xFFFFFFFF] | .dbg => .debug 1 [0xFFFFFFFF] | _ => .none))

/-- R31: the sizes and the alignment that the window accepts, each refusal of another with SIZE_ALIGN, and a 64-bit
access carried out as its low word, then its high word. -/
def Obligations.WindowTakesAlignedWords : Prop :=
  ∀ s : State, s.Inv →
    (∀ (r : Req) (w : Bool) addr size, s.hub.check r w addr size = some .sizeAlign ↔
      ¬ (size = 4 ∧ addr % 4 = 0 ∨ size = 8 ∧ addr % 8 = 0 ∧ (r.master = .mcpu ∨ r.master = .pcieHost))) ∧
    (∀ (r : Req) addr size v, s.hub.reaches r.master = true →
      ¬ (size = 4 ∧ addr % 4 = 0 ∨ size = 8 ∧ addr % 8 = 0 ∧ (r.master = .mcpu ∨ r.master = .pcieHost)) →
      Completes (.registerWrite r addr size v) s fun g => g.bit HDR.ESTAT 1 0 = true ∧
        Hub.SameBut [Kind.errors, Kind.latch64, Kind.resp] s.hub g) ∧
    (∀ addr size v, s.hub.reaches .dbg = true → ¬ (size = 4 ∧ addr % 4 = 0) →
      Completes (.debugAccess false addr size v) s fun g => g.bit HDR.ESTAT 1 0 = true ∧
        Hub.SameBut [Kind.errors, Kind.latch64, Kind.resp] s.hub g) ∧
    (∀ (r : Req) addr v, s.hub.reaches r.master = true → s.hub.check r true addr 8 = none →
      Completes (.registerWrite r addr 8 v) s fun g => g = s.hub.written r fun h =>
        (h.putWord r addr (v % 2 ^ 32)).putWord r (addr + 4) (v / 2 ^ 32)) ∧
    (∀ (r : Req) addr, s.hub.reaches r.master = true →
      ¬ (r.size = 4 ∧ addr % 4 = 0 ∨ r.size = 8 ∧ addr % 8 = 0 ∧ (r.master = .mcpu ∨ r.master = .pcieHost)) →
      Completes (.lowWordRead r addr) s fun g => g.bit HDR.ESTAT 1 0 = true ∧
        Hub.SameBut [Kind.errors, Kind.latch64, Kind.resp, Kind.pci] s.hub g) ∧
    (∀ (r : Req) addr, s.hub.reaches r.master = true →
      ¬ (r.size = 4 ∧ addr % 4 = 0 ∨ r.size = 8 ∧ addr % 8 = 0 ∧ (r.master = .mcpu ∨ r.master = .pcieHost)) →
      Completes (.tableLowestWordRead r addr) s fun g => g.bit HDR.ESTAT 1 0 = true ∧
        Hub.SameBut [Kind.errors, Kind.latch64, Kind.resp, Kind.pci] s.hub g) ∧
    (∀ (r : Req) addr, r.size = 8 → s.hub.reaches r.master = true → s.hub.check r false addr 8 = none → tableAt addr = none →
      isLow64 (addr / 4096) (addr % 4096) = true →
      Completes (.lowWordRead r addr) s fun g => (Tab.get {} (masterNum r.master) g.latch64).valid = false ∧
        Tab.get .none (masterNum r.master) g.resp =
          .ok [((s.hub.dropLatch r.master).fresh (addr / 4096) (addr % 4096)).readReg (addr / 4096) (addr % 4096),
            ((s.hub.dropLatch r.master).fresh (addr / 4096) (addr % 4096)).readReg (addr / 4096) (addr % 4096 + 4)]) ∧
    (∀ (r : Req) addr, r.size = 8 → s.hub.reaches r.master = true → s.hub.check r false addr 8 = none → tableAt addr = none →
      isLow64 (addr / 4096) (addr % 4096) = false → isLow64 (addr / 4096) (addr % 4096 + 4) = false →
      (Tab.get {} (masterNum r.master) s.hub.latch64).valid = false → Tab.Sorted s.hub.latch64 →
      Completes (.lowWordRead r addr) s fun g => Tab.get .none (masterNum r.master) g.resp =
          .ok [((s.hub.dropLatch r.master).fresh (addr / 4096) (addr % 4096)).readReg (addr / 4096) (addr % 4096),
            ((((s.hub.dropLatch r.master).fresh (addr / 4096) (addr % 4096)).dropLatch r.master).fresh (addr / 4096)
              (addr % 4096 + 4)).readReg (addr / 4096) (addr % 4096 + 4)]) ∧
    (∀ (r : Req) addr t row, r.size = 8 → s.hub.reaches r.master = true → s.hub.check r false addr 8 = none →
      tableAt addr = some (t, row) → (addr - row.base) % row.stride = 0 →
      Completes (.tableLowestWordRead r addr) s fun g =>
        Tab.get {} (masterNum r.master) g.tabLatch = ⟨true, addr, s.hub.twords addr (row.stride / 4)⟩ ∧
        Tab.get .none (masterNum r.master) g.resp =
          .ok [(s.hub.twords addr (row.stride / 4)).getD 0 0, (s.hub.twords addr (row.stride / 4)).getD 1 0])

/-- R42: each refusal by the window sets its bit of TOP.ESTAT, and the first one is captured in TOP.ECAP under its code,
with the window offset and the master. What causes UNPOPULATED and TABLE_RO is stated here, SIZE_ALIGN in
`Obligations.WindowTakesAlignedWords` and DOMAIN_OFF in `Obligations.PoweredOffBlocksRefuseAccesses`. -/
def Obligations.WindowRefusalsAreCapturedInTop : Prop :=
  ∀ s : State, s.Inv →
    (∀ (r : Req) (w : Bool) addr, addr % 4 = 0 →
      (s.hub.check r w addr 4 = some .unpopulated ↔ pageRow? (addr / 4096) = none ∧ tableAt addr = none)) ∧
    (∀ (r : Req) addr t row, addr % 4 = 0 → tableAt addr = some (t, row) → row.readOnly = true →
      s.hub.check r true addr 4 = some .tableRo) ∧
    (∀ (r : Req) addr size v (e : AccErr) (n : Nat), s.hub.reaches r.master = true → s.hub.check r true addr size = some e →
      (e, n) ∈ [(.unpopulated, 0), (.sizeAlign, 1), (.domainOff, 2), (.tableRo, 3)] →
      Completes (.registerWrite r addr size v) s fun g => g.bit HDR.ESTAT n 0 = true ∧
        (s.hub.bit HDR.EEN n 0 = true ∧ s.hub.bit HDR.ESTAT n 0 = false ∧ s.hub.on HDR.ECAP_VALID 0 = false →
          g.rd HDR.ECAP_CODE 0 = n + 1 ∧ g.rd HDR.ECAP_ADDR_LO 0 = addr % 2 ^ 32 ∧ g.rd HDR.ECAP_MASTER 0 = masterNum r.master ∧
          g.rd HDR.ECAP_VALID 0 = 1)) ∧
    (∀ (r : Req) addr (e : AccErr) (n : Nat), s.hub.reaches r.master = true → s.hub.check r false addr r.size = some e →
      (e, n) ∈ [(.unpopulated, 0), (.sizeAlign, 1), (.domainOff, 2)] →
      Completes (.tableLowestWordRead r addr) s fun g => g.bit HDR.ESTAT n 0 = true ∧
        (s.hub.bit HDR.EEN n 0 = true ∧ s.hub.bit HDR.ESTAT n 0 = false ∧ s.hub.on HDR.ECAP_VALID 0 = false →
          g.rd HDR.ECAP_CODE 0 = n + 1 ∧ g.rd HDR.ECAP_ADDR_LO 0 = addr % 2 ^ 32 ∧ g.rd HDR.ECAP_MASTER 0 = masterNum r.master ∧
          g.rd HDR.ECAP_VALID 0 = 1))

/-- R45: a write to a word of RWS fields while CPEND is 1 is dropped and sets ESTAT.SHADOW_BUSY, for every page that has
such fields; a field whose Meaning column gives its range holds a value inside it. -/
def Obligations.ShadowWriteWhilePendingIsDropped : Prop :=
  ∀ s : State, s.Inv →
    (∀ (r : Req) pg off v b F i, s.hub.GrantsAt r (pg * 4096 + off) → off < 4096 → s.hub.bankOf pg off = some b →
      (F, i) ∈ fieldsAt pg off → F.acc = .rws → s.hub.on HDR.PSTAT_CPEND pg = true →
      (∀ q ∈ readsAs, q.1 = F → q.2.1 ≤ s.hub.rdShadow F i b ∧ s.hub.rdShadow F i b ≤ q.2.2.1) →
      Completes (.registerWrite r (pg * 4096 + off) 4 v) s fun g => g.bit HDR.ESTAT 31 pg = true ∧
        g.rdShadow F i b = s.hub.rdShadow F i b ∧ g.rd F i b = s.hub.rd F i b)

/-- R43, R44: a write to RWS fields while CPEND is 0 goes into their shadows and leaves the active values; COMMIT.GO sets
CPEND, and written again while CPEND is 1 it has no further effect; at the commit point of a scheduler page every shadow
of the page is the active value, and CPEND clears. -/
def Obligations.ShadowsTakeEffectAtTheCommitPoint : Prop :=
  ∀ s : State, s.Inv →
    (∀ (r : Req) pg off v b F i, s.hub.GrantsAt r (pg * 4096 + off) → off < 4096 → s.hub.bankOf pg off = some b →
      (F, i) ∈ fieldsAt pg off → F.acc = .rws → s.hub.on HDR.PSTAT_CPEND pg = false →
      (∀ q ∈ readsAs, q.1 = F → q.2.1 ≤ bits v F.lo F.w ∧ bits v F.lo F.w ≤ q.2.2.1) →
      Completes (.registerWrite r (pg * 4096 + off) 4 v) s fun g =>
        g.rdShadow F i b = bits v F.lo F.w ∧ g.rd F i b = s.hub.rd F i b) ∧
    (∀ r pg, s.hub.GrantsAt r (pg * 4096 + 0x3C) → s.hub.rd HDR.PSTAT_CPEND pg = 1 →
      Completes (.commit r pg) s fun g => Hub.SameBut [Kind.latch64, Kind.resp] s.hub g) ∧
    (∀ pg, s.hub.up pg = true → s.hub.on HDR.PSTAT_CPEND pg = true → 0x50 ≤ pg → pg ≤ 0x5D → s.hub.noSelection (pg - 0x50) = true →
      Tab.Sorted s.hub.shadow →
      Completes (.commitPoint pg) s fun g => g.rd HDR.PSTAT_CPEND pg = 0 ∧
        (∀ F ∈ [SCH.QMODE_STRICT, SCH.QMODE_WEIGHT, SCH.SHAPE_RATE, SCH.SHCFG_BURST, SCH.SHCFG_LMODE, SCH.SHCFG_OVH],
          ∀ b : Nat, b < 16 → g.rd F (pg - 0x50) b = s.hub.rdShadow F (pg - 0x50) b))

/-- R51: a lower word is staged, and staging for another entry of the table is discarded; the highest word replaces the
entry by the words staged, the words present where none is staged, and itself, the bits that the entry's map reserves left at 0 (R6); the master's
staging in that table clears and all other staging stays. An entry that R181 or R348 refuses is the subject of those rules, and so are the words that
hardware keeps: word 7 of a tunnel entry holds its time stamp, words 4 to 7 of a slot its state. -/
def Obligations.TableEntriesChangeAtTheirHighestWord : Prop :=
  ∀ s : State, s.Inv →
    (∀ (r : Req) addr v t row, s.hub.GrantsAt r addr → tableAt addr = some (t, row) →
      (addr - row.base) % row.stride / 4 + 1 ≠ row.stride / 4 →
      Completes (.tableWordWrite r addr v) s fun g => g.tab = s.hub.tab ∧
        (Tab.get {} (masterNum r.master * 8 + t) g.staging).entry = (addr - row.base) / row.stride ∧
        (∀ w : Nat, w < 16 → Tab.find w (Tab.get {} (masterNum r.master * 8 + t) g.staging).words =
          if w = (addr - row.base) % row.stride / 4 then some (v % 2 ^ 32)
          else if (Tab.get {} (masterNum r.master * 8 + t) s.hub.staging).entry = (addr - row.base) / row.stride then
            Tab.find w (Tab.get {} (masterNum r.master * 8 + t) s.hub.staging).words
          else none) ∧
        (∀ k : Nat, k < 80 → k ≠ masterNum r.master * 8 + t → Tab.get {} k g.staging = Tab.get {} k s.hub.staging)) ∧
    (∀ (r : Req) addr v t row, s.hub.GrantsAt r addr → tableAt addr = some (t, row) → Tab.Sorted s.hub.staging →
      (addr - row.base) % row.stride / 4 + 1 = row.stride / 4 →
      (t = 0 → s.hub.entBad ((addr - row.base) / row.stride)
        (s.hub.stagedWords r.master t row ((addr - row.base) / row.stride) (v % 2 ^ 32)) = false) →
      (t = 2 → s.hub.slotBad ((addr - row.base) / row.stride)
        (s.hub.stagedWords r.master t row ((addr - row.base) / row.stride) (v % 2 ^ 32)) = false) →
      Completes (.tableEntryWrite r addr v) s fun g =>
        (∀ w : Nat, w < row.stride / 4 → (t ≠ 0 ∨ w ≠ 7) → (t ≠ 2 ∨ w < 4 ∨ 7 < w) →
          g.tword (row.base + row.stride * ((addr - row.base) / row.stride) + 4 * w) =
            (if w + 1 = row.stride / 4 then v else s.hub.stagedOr r.master t row ((addr - row.base) / row.stride) w) &&&
              tableMask (if t = 4 ∧ 4096 ≤ (addr - row.base) / row.stride then 5 else t) w) ∧
        Tab.get {} (masterNum r.master * 8 + t) g.staging = {} ∧
        (∀ k : Nat, k < 80 → k ≠ masterNum r.master * 8 + t → Tab.get {} k g.staging = Tab.get {} k s.hub.staging))

/-- R52: a read of an entry's lowest word copies the whole entry into the master's read latch; its reads of the entry's other
words return the latch and leave it as it is. -/
def Obligations.TableReadsReturnTheLatchedEntry : Prop :=
  ∀ s : State, s.Inv →
    (∀ (r : Req) addr t row, s.hub.GrantsRead r addr → r.size = 4 → tableAt addr = some (t, row) →
      (addr - row.base) % row.stride = 0 →
      Completes (.tableLowestWordRead r addr) s fun g =>
        Tab.get {} (masterNum r.master) g.tabLatch = ⟨true, addr, s.hub.twords addr (row.stride / 4)⟩ ∧
        (∀ m : Nat, m < 10 → m ≠ masterNum r.master → Tab.get {} m g.tabLatch = Tab.get {} m s.hub.tabLatch)) ∧
    (∀ (r : Req) addr t row, s.hub.GrantsRead r addr → r.size = 4 → tableAt addr = some (t, row) →
      (addr - row.base) % row.stride ≠ 0 →
      Tab.get {} (masterNum r.master) s.hub.tabLatch = ⟨true, addr - (addr - row.base) % row.stride,
        (Tab.get {} (masterNum r.master) s.hub.tabLatch).words⟩ →
      Completes (.lowWordRead r addr) s fun g => g.tabLatch = s.hub.tabLatch ∧
        Tab.get .none (masterNum r.master) g.resp =
          .ok [(Tab.get {} (masterNum r.master) s.hub.tabLatch).words.getD ((addr - row.base) % row.stride / 4) 0])

/-- R32: reading the low word of a 64-bit register latches its high word for the master; its next read of the high word
returns the latched value; any other access of that master clears the latch. -/
def Obligations.LowWordReadLatchesTheHighWord : Prop :=
  ∀ s : State, s.Inv →
    (∀ (r : Req) addr, s.hub.GrantsRead r addr → r.size = 4 → tableAt addr = none →
      isLow64 (addr / 4096) (addr % 4096) = true →
      Completes (.lowWordRead r addr) s fun g => Tab.get {} (masterNum r.master) g.latch64 =
        ⟨true, addr + 4, ((s.hub.dropLatch r.master).fresh (addr / 4096) (addr % 4096)).readReg (addr / 4096) (addr % 4096 + 4)⟩) ∧
    (∀ (r : Req) addr x, s.hub.GrantsRead r addr → r.size = 4 → tableAt addr = none →
      isLow64 (addr / 4096) (addr % 4096) = false →
      Tab.get {} (masterNum r.master) s.hub.latch64 = ⟨true, addr, x⟩ →
      Completes (.lowWordRead r addr) s fun g => Tab.get .none (masterNum r.master) g.resp = .ok [x]) ∧
    (∀ (r : Req) addr, s.hub.reaches r.master = true → (tableAt addr ≠ none ∨ isLow64 (addr / 4096) (addr % 4096) = false) →
      Tab.Sorted s.hub.latch64 →
      Completes (.lowWordRead r addr) s fun g => (Tab.get {} (masterNum r.master) g.latch64).valid = false) ∧
    (∀ (r : Req) addr size v, s.hub.reaches r.master = true → s.hub.check r true addr size ≠ none → Tab.Sorted s.hub.latch64 →
      Completes (.registerWrite r addr size v) s fun g => (Tab.get {} (masterNum r.master) g.latch64).valid = false) ∧
    (∀ (r : Req) addr size (f : Hub → Hub), s.hub.reaches r.master = true → Tab.Sorted s.hub.latch64 →
      (∀ h : Hub, Tab.get {} (masterNum r.master) (f h).latch64 = Tab.get {} (masterNum r.master) h.latch64) →
      (Tab.get {} (masterNum r.master) (s.hub.asWrite r addr size f).latch64).valid = false)

/-- R75: a write to FIL.VSET.CODE is refused above code 16, or below the present code where GCAP of the code less HOLD falls
below ADMLOAD; VSET then stays, ESTAT.VSET_REFUSED is set and the value written is captured with code 1. Every other write
takes effect, a raise always. The present code is the one that the FILIGREE last reached while a ramp runs. -/
def Obligations.VoltageWriteRefusedBelowTheAdmittedLoad : Prop :=
  ∀ s : State, s.Inv →
    (∀ (r : Req) v present, s.hub.Accepts r FIL.VSET_CODE 0 →
      present = (if s.hub.on FIL.VSET_RAMPING then s.hub.rd FIL.hVid else s.hub.rd FIL.VSET_CODE) →
      (16 < v % 32 ∨ v % 32 < present ∧ gcapCt (v % 32) < s.hub.rd FIL.ADMLOAD_CT + s.hub.rd FIL.HOLD_CT) →
      Completes (.vsetWrite r v) s fun g => g.rd FIL.VSET_CODE = s.hub.rd FIL.VSET_CODE ∧
        g.rd FIL.VSET_RAMPING = s.hub.rd FIL.VSET_RAMPING ∧ g.bit HDR.ESTAT 2 2 = true ∧
        (s.hub.bit HDR.EEN 2 2 = true ∧ s.hub.bit HDR.ESTAT 2 2 = false ∧ s.hub.on HDR.ECAP_VALID 2 = false →
          g.rd HDR.ECAP_ADDR_LO 2 % 32 = v % 32 ∧ g.rd HDR.ECAP_CODE 2 = 1)) ∧
    (∀ (r : Req) v present, s.hub.Accepts r FIL.VSET_CODE 0 →
      present = (if s.hub.on FIL.VSET_RAMPING then s.hub.rd FIL.hVid else s.hub.rd FIL.VSET_CODE) → v % 32 ≤ 16 →
      (present ≤ v % 32 ∨ s.hub.rd FIL.ADMLOAD_CT + s.hub.rd FIL.HOLD_CT ≤ gcapCt (v % 32)) →
      Completes (.vsetWrite r v) s fun g => g.rd FIL.VSET_CODE = v % 32)

/-- R643: the write of EW7 applies the entry that ESEL names, staged by EW0 to EW6, in one step; it is refused, the entry and
every other word of the access table unchanged, where the entry held is locked (LOCKED_WRITE) or the new one is enabled
and breaks a limit (ENTRY_INVALID), and the entry index is captured. Reserved bits of an entry stay 0. -/
def Obligations.AccessEntriesAreAppliedOrRefusedWhole : Prop :=
  ∀ s : State, s.Inv →
    (∀ (r : Req) v, s.hub.Grants r ACT.EW7_DATA 0 → s.hub.actLocked (s.hub.rd ACT.ESEL_ENTRY) = true →
      Completes (.accessEntryWrite r v) s fun g => g.tab = s.hub.tab ∧ g.bit HDR.ESTAT 1 8 = true ∧
        (s.hub.bit HDR.EEN 1 8 = true ∧ s.hub.bit HDR.ESTAT 1 8 = false ∧ s.hub.on HDR.ECAP_VALID 8 = false →
          g.rd HDR.ECAP_ADDR_LO 8 = s.hub.rd ACT.ESEL_ENTRY % 2 ^ 32)) ∧
    (∀ (r : Req) v (ws : List Nat), s.hub.Grants r ACT.EW7_DATA 0 → s.hub.actLocked (s.hub.rd ACT.ESEL_ENTRY) = false →
      ws = ((List.range 8).map fun w => (if w = 7 then v else s.hub.rd (ACT.EW.word w)) &&& Hub.actMask w) →
      (ws.getD 7 0).testBit 0 = true →
      (ws.getD 1 0 < ws.getD 0 0 ∨ bits (ws.getD 3 0) 16 2 = 3 ∨ bits (ws.getD 4 0) 2 2 = 3 ∨ bits (ws.getD 2 0) 0 10 = 0 ∨
        bits (ws.getD 3 0) 16 2 = 0 ∧ 0x7FF < ws.getD 1 0) →
      Completes (.accessEntryWrite r v) s fun g => g.tab = s.hub.tab ∧ g.bit HDR.ESTAT 2 8 = true ∧
        (s.hub.bit HDR.EEN 2 8 = true ∧ s.hub.bit HDR.ESTAT 2 8 = false ∧ s.hub.on HDR.ECAP_VALID 8 = false →
          g.rd HDR.ECAP_ADDR_LO 8 = s.hub.rd ACT.ESEL_ENTRY % 2 ^ 32)) ∧
    (∀ (r : Req) v (ws : List Nat), s.hub.Grants r ACT.EW7_DATA 0 → s.hub.actLocked (s.hub.rd ACT.ESEL_ENTRY) = false →
      ws = ((List.range 8).map fun w => (if w = 7 then v else s.hub.rd (ACT.EW.word w)) &&& Hub.actMask w) →
      ((ws.getD 7 0).testBit 0 = false ∨ ws.getD 0 0 ≤ ws.getD 1 0 ∧ bits (ws.getD 3 0) 16 2 ≠ 3 ∧ bits (ws.getD 4 0) 2 2 ≠ 3 ∧
        bits (ws.getD 2 0) 0 10 ≠ 0 ∧ (bits (ws.getD 3 0) 16 2 ≠ 0 ∨ ws.getD 1 0 ≤ 0x7FF)) →
      Completes (.accessEntryWrite r v) s fun g =>
        g.twords (0x5C0000 + 32 * s.hub.rd ACT.ESEL_ENTRY) 8 = ws.map (· % 2 ^ 32))

/-- R688: TAKE records the writer where the claim is free, RELEASE by its owner frees it, any other write of either changes
nothing; a claim that MGP holds is released when its session closes; each change sets ISTAT.CLAIM; and no access of the
register window depends on the claim. -/
def Obligations.ClaimBindsItsOwnerAlone : Prop :=
  ∀ s : State, s.Inv →
    (∀ r, s.hub.Grants r MGP.CLAIM_TAKE 0 → s.hub.up 0xD = true → s.hub.on MGP.CLAIM_HELD = false →
      Completes (.claimTake r) s fun g => g.rd MGP.CLAIM_OWNER = masterNum r.master ∧ g.rd MGP.CLAIM_HELD = 1 ∧
        g.bit HDR.ISTAT 2 0xD = true) ∧
    (∀ r, s.hub.Grants r MGP.CLAIM_TAKE 0 → s.hub.on MGP.CLAIM_HELD = true →
      Completes (.claimTake r) s fun g => Hub.SameBut [Kind.latch64, Kind.resp] s.hub g) ∧
    (∀ r, s.hub.Grants r MGP.CLAIM_RELEASE 0 → s.hub.up 0xD = true → s.hub.on MGP.CLAIM_HELD = true →
      s.hub.rd MGP.CLAIM_OWNER = masterNum r.master →
      Completes (.claimRelease r) s fun g => g.rd MGP.CLAIM_HELD = 0 ∧ g.bit HDR.ISTAT 2 0xD = true) ∧
    (∀ r, s.hub.Grants r MGP.CLAIM_RELEASE 0 → s.hub.rd MGP.CLAIM_OWNER ≠ masterNum r.master →
      Completes (.claimRelease r) s fun g => Hub.SameBut [Kind.latch64, Kind.resp] s.hub g) ∧
    (∀ r, s.hub.Grants r MGP.CTL_CLOSE 0 → s.hub.up 0xD = true → s.hub.on MGP.SESS_OPEN = true → s.hub.on MGP.CLAIM_HELD = true →
      s.hub.rd MGP.CLAIM_OWNER = 3 →
      Completes (.sessionClose r) s fun g => g.rd MGP.CLAIM_HELD = 0 ∧ g.bit HDR.ISTAT 2 0xD = true) ∧
    (∀ (r : Req) (w : Bool) addr size held owner,
      ((s.hub.wr MGP.CLAIM_HELD held).wr MGP.CLAIM_OWNER owner).check r w addr size = s.hub.check r w addr size)

/-- R8: a write that R7 ignores, because every field of the word is RO, or because a lock covers every field of it, or because
the word is RWO (LOCK of a page, ACT.CFG.LOADED) and has had its first write, completes with a normal response, raises no error and changes nothing; a write to a block whose power domain is off is refused with
DOMAIN_OFF (R59), and nothing but that refusal is recorded. -/
def Obligations.IgnoredWritesChangeNothing : Prop :=
  ∀ s : State, s.Inv →
    (∀ (r : Req) pg off v, s.hub.GrantsAt r (pg * 4096 + off) → off < 4096 → pg < 0x400 → off ∉ [8, 0x10, 0x38, 0x3C] →
      (∀ p ∈ fieldsAt pg off, p.1.acc = .ro ∨ p.1.acc = .rwl ∧ s.hub.on HDR.LOCK_LCFG pg = true) →
      (pg, off) ∉ [(9, 0x104), (9, 0x108)] →
      Completes (.registerWrite r (pg * 4096 + off) 4 v) s fun g => Hub.SameBut [Kind.latch64, Kind.resp] s.hub g ∧
        Tab.get .none (masterNum r.master) g.resp = if r.master = .pcieHost then .none else .ok []) ∧
    (∀ (r : Req) pg v, s.hub.GrantsAt r (pg * 4096 + 0x38) → s.hub.on HDR.hLockSet pg = true →
      Completes (.registerWrite r (pg * 4096 + 0x38) 4 v) s fun g => Hub.SameBut [Kind.latch64, Kind.resp] s.hub g) ∧
    (∀ (r : Req) v, s.hub.Grants r ACT.CFG_LOADED 0 → s.hub.on ACT.hLoadedSet = true →
      Completes (.registerWrite r 0x8100 4 v) s fun g => Hub.SameBut [Kind.latch64, Kind.resp] s.hub g) ∧
    (∀ (r : Req) pg off v, s.hub.reaches r.master = true → s.hub.check r true (pg * 4096 + off) 4 = some .domainOff →
      Completes (.registerWrite r (pg * 4096 + off) 4 v) s fun g => g.bit HDR.ESTAT 2 0 = true ∧
        Hub.SameBut [Kind.errors, Kind.latch64, Kind.resp] s.hub g)

/-- R47: the first write to LOCK after POR or HRST fixes every lock bit of the page, for every master; a later one changes
none. Under LOCK.LCFG the RWL fields of the page ignore writes, and under LOCK.LHDR EEN, ESC and IEN do. -/
def Obligations.LocksHoldAfterTheirFirstWrite : Prop :=
  ∀ s : State, s.Inv →
    (∀ (r : Req) pg v, s.hub.GrantsAt r (pg * 4096 + 0x38) → s.hub.on HDR.hLockSet pg = false →
      Completes (.registerWrite r (pg * 4096 + 0x38) 4 v) s fun g => g.rd HDR.LOCK_LCFG pg = bits v 0 1 ∧
        g.rd HDR.LOCK_LHDR pg = bits v 1 1 ∧ g.rd HDR.LOCK_LBLK pg = bits v 2 14 ∧ g.on HDR.hLockSet pg = true) ∧
    (∀ (r : Req) pg v, s.hub.GrantsAt r (pg * 4096 + 0x38) → s.hub.on HDR.hLockSet pg = true →
      Completes (.registerWrite r (pg * 4096 + 0x38) 4 v) s fun g => Hub.SameBut [Kind.latch64, Kind.resp] s.hub g) ∧
    (∀ (r : Req) pg off v F i b, s.hub.GrantsAt r (pg * 4096 + off) → off < 4096 → 0x100 ≤ off → s.hub.on HDR.LOCK_LCFG pg = true →
      (F, i) ∈ fieldsAt pg off → F.acc = .rwl →
      (∀ q ∈ readsAs, q.1 = F → q.2.1 ≤ s.hub.rd F i b ∧ s.hub.rd F i b ≤ q.2.2.1) →
      Completes (.registerWrite r (pg * 4096 + off) 4 v) s fun g => g.rd F i b = s.hub.rd F i b) ∧
    (∀ (r : Req) pg off v, s.hub.GrantsAt r (pg * 4096 + off) → off ∈ [0x14, 0x2C, 0x34] → s.hub.on HDR.LOCK_LHDR pg = true →
      Completes (.registerWrite r (pg * 4096 + off) 4 v) s fun g => Hub.SameBut [Kind.latch64, Kind.resp] s.hub g)

/-- R10: neither a soft reset of any page nor a domain reset clears a LOCK bit, an RWL field or an RWO field; no command that
cannot reset the whole node moves a LOCK bit; POR and HRST return them to their reset values. -/
def Obligations.LocksOutlastSoftAndDomainResets : Prop :=
  ∀ s : State, s.Inv →
    (∀ r q pg, Completes (.softReset r q) s fun g => ∀ F ∈ [HDR.LOCK_LCFG, HDR.LOCK_LHDR, HDR.LOCK_LBLK, HDR.hLockSet],
      g.rd F pg = s.hub.rd F pg) ∧
    (∀ r q (F : Fld) (n : Nat) row i b, row ∈ pageIndex → (F, n) ∈ pageFields row.first → (F.acc = .rwl ∨ F.acc = .rwo) →
      i < row.count → secondPage (F.pg + i) = false →
      Completes (.softReset r q) s fun g => g.rd F i b = s.hub.rd F i b) ∧
    (∀ (d : Fin 12) ok pg, Completes (.domainReset d ok) s fun g =>
      ∀ F ∈ [HDR.LOCK_LCFG, HDR.LOCK_LHDR, HDR.LOCK_LBLK, HDR.hLockSet], g.rd F pg = s.hub.rd F pg) ∧
    (∀ (d : Fin 12) ok (F : Fld) (n : Nat) row i b, row ∈ pageIndex → (F, n) ∈ pageFields row.first →
      (F.acc = .rwl ∨ F.acc = .rwo) → i < row.count → secondPage (F.pg + i) = false →
      Completes (.domainReset d ok) s fun g => g.rd F i b = s.hub.rd F i b) ∧
    (∀ b pg, Completes (.powerOnReset b) s fun g => ∀ F ∈ [HDR.LOCK_LCFG, HDR.LOCK_LHDR, HDR.LOCK_LBLK, HDR.hLockSet],
      g.rd F pg = 0) ∧
    (∀ x pg, Completes (.hrstN true x) s fun g => ∀ F ∈ [HDR.LOCK_LCFG, HDR.LOCK_LHDR, HDR.LOCK_LBLK, HDR.hLockSet],
      g.rd F pg = 0)

/-- R13: a soft reset of a page with a commit pending discards the pending shadow values; afterwards the RWS fields of a
scheduler, a head, a lane or the tile engine hold their reset values, and CPEND is 0. -/
def Obligations.SoftResetDiscardsPendingShadows : Prop :=
  ∀ s : State, s.Inv →
    (∀ r pg (F : Fld) i b off, s.hub.GrantsAt r (pg * 4096 + 8) → s.hub.on HDR.PSTAT_CPEND pg = true → (F, i) ∈ fieldsAt pg off →
      F.acc = .rws →
      Completes (.softReset r pg) s fun g => g.rd F i b = F.dflt b ∧ g.rdShadow F i b = F.dflt b ∧
        g.rd HDR.PSTAT_CPEND pg = 0 ∧ (∀ p ∈ g.shadow, keyPage p.1 ≠ pg))

/-- R59, R60: an access that passes the access table to a block whose domain is off, or above the header to one whose clock
is stopped, is refused with DOMAIN_OFF and moves nothing but that record: it wakes no domain; the header of a block whose
domain is on is reached whether its clock runs or not. -/
def Obligations.PoweredOffBlocksRefuseAccesses : Prop :=
  ∀ s : State, s.Inv →
    (∀ (r : Req) (w : Bool) addr, addr % 4 = 0 → (pageRow? (addr / 4096)).isSome = true →
      tableAt addr = none → s.hub.fixedRefuses r w (addr / 4096) = false →
      s.hub.actCheck r.master r.node 0 (addr / 4096) { write := w } = none →
      (s.hub.domOn (pageDom (addr / 4096)) = false ∨ 0x100 ≤ addr % 4096 ∧ s.hub.clockRuns (addr / 4096) = false) →
      s.hub.check r w addr 4 = some .domainOff) ∧
    (∀ (r : Req) (w : Bool) addr, addr % 4 = 0 → (pageRow? (addr / 4096)).isSome = true →
      tableAt addr = none → s.hub.fixedRefuses r w (addr / 4096) = false →
      s.hub.actCheck r.master r.node 0 (addr / 4096) { write := w } = none →
      s.hub.domOn (pageDom (addr / 4096)) = true → (addr % 4096 < 0x100 ∨ s.hub.clockRuns (addr / 4096) = true) →
      s.hub.check r w addr 4 = none) ∧
    (∀ (r : Req) addr v, s.hub.reaches r.master = true → s.hub.check r true addr 4 = some .domainOff →
      Completes (.registerWrite r addr 4 v) s fun g => Hub.SameBut [Kind.errors, Kind.latch64, Kind.resp] s.hub g ∧
        (s.hub.bit HDR.EEN 2 0 = true ∧ s.hub.bit HDR.ESTAT 2 0 = false ∧ s.hub.on HDR.ECAP_VALID 0 = false →
          g.rd HDR.ECAP_CODE 0 = 3)) ∧
    (∀ (r : Req) addr, s.hub.reaches r.master = true → s.hub.check r false addr r.size = some .domainOff →
      Completes (.lowWordRead r addr) s fun g => Hub.SameBut [Kind.errors, Kind.latch64, Kind.resp, Kind.pci] s.hub g ∧
        (r.master = .mcpu → Tab.get .none 0 g.resp = .busError (List.replicate (r.size / 4) 0xFFFFFFFF)) ∧
        (s.hub.bit HDR.EEN 2 0 = true ∧ s.hub.bit HDR.ESTAT 2 0 = false ∧ s.hub.on HDR.ECAP_VALID 0 = false →
          g.rd HDR.ECAP_CODE 0 = 3))

/-- R646: an access that the access table or a fixed limit refuses is dropped; the master is answered in the form of its path,
ACT.ESTAT.VIOLATION is set, CNT_VIOL counts it, LASTVIOL holds it, and the first one is captured. -/
def Obligations.ViolationsAreRecorded : Prop :=
  ∀ s : State, s.Inv →
    (∀ (r : Req) addr v code e, s.hub.reaches r.master = true → s.hub.check r true addr 4 = some (.viol code e) →
      Completes (.registerWrite r addr 4 v) s fun g => Hub.SameBut [Kind.errors, Kind.act, Kind.latch64, Kind.resp] s.hub g ∧
        g.bit HDR.ESTAT 0 8 = true ∧ g.rd ACT.CNT_VIOL_COUNT = s.hub.oneMore ACT.CNT_VIOL_COUNT ∧
        g.rd ACT.LASTVIOL_MASTER = masterNum r.master ∧ g.rd ACT.LASTVIOL_CODE = code % 2 ^ ACT.LASTVIOL_CODE.w ∧
        g.rd ACT.LASTVIOL_ENTRY = e.getD 0 % 2 ^ ACT.LASTVIOL_ENTRY.w ∧
        Tab.get .none (masterNum r.master) g.resp = (match r.master with
          | .mcpu => .busError [] | .pcieHost => .dropped | .fabric => .fabric 2 [] | .mgp => .tsudy 2 []
          | .dbg => .debug code [] | _ => .none) ∧
        (s.hub.bit HDR.EEN 0 8 = true ∧ s.hub.bit HDR.ESTAT 0 8 = false ∧ s.hub.on HDR.ECAP_VALID 8 = false →
          g.rd HDR.ECAP_CODE 8 = code % 2 ^ HDR.ECAP_CODE.w ∧ g.rd HDR.ECAP_ADDR_LO 8 = addr % 2 ^ 32 ∧
          g.rd HDR.ECAP_ATYPE 8 = (if (tableAt addr).isSome then 3 else 1) ∧ g.rd ACT.VIOL_ENTRY = e.getD 0 % 2 ^ ACT.VIOL_ENTRY.w ∧
          g.rd ACT.VIOL_NONE = bnat e.isNone))

/-- R7 on the pages of the shared buffer, AGE and the multicast replicator, whose registers hold no more than settings: a granted
write sets each RW field of the word, and moves no register of another page, no table and no list. -/
def Obligations.PlainRegisterWritesStayInTheirPage : Prop :=
  ∀ s : State, s.Inv →
    (∀ (r : Req) pg off v, s.hub.GrantsAt r (pg * 4096 + off) → pg ∈ [0x48, 0x4A, 0x4B] → 0x100 ≤ off → off < 4096 →
      cntOffset pg ≠ some off →
      Completes (.registerWrite r (pg * 4096 + off) 4 v) s fun g => Hub.SameBut [pg, Kind.latch64, Kind.resp] s.hub g) ∧
    (∀ (r : Req) pg off v F i b, s.hub.GrantsAt r (pg * 4096 + off) → pg ∈ [0x48, 0x4A, 0x4B] → 0x100 ≤ off → off < 4096 →
      cntOffset pg ≠ some off → s.hub.bankOf pg off = some b → (F, i) ∈ fieldsAt pg off → F.acc = .rw →
      (∀ q ∈ readsAs, q.1 ≠ F) →
      Completes (.registerWrite r (pg * 4096 + off) 4 v) s fun g => g.rd F i b = bits v F.lo F.w)

/-- A step with command `c` at the front of the queue is `exec c` with the queue's rest in place. -/
def Obligations.StepRunsTheFrontCommand : Prop :=
  ∀ (s : State) (c : Instr) (rest : List Instr), step { s with pending := c :: rest } = exec c { s with pending := rest }

/-- A step on an empty queue lets one clock tick pass: the model's choice (log entry 10), since the table has no row for a
tick. It answers a next state, and the queue stays empty. -/
def Obligations.IdleStepTicksTheClock : Prop :=
  ∀ s : State, s.pending = [] → step s = .next { s with hub := s.hub.tick }

/-- The opcode table gives no row any bits, so no word spells a command, and no word changes a state. -/
def Obligations.NoWordSpellsACommand : Prop :=
  ∀ (s : State) (nbits w : Nat), decodeTableWord nbits w = none ∧ s.withFetchWord nbits w = s

/-- The state after reset holds its tables in canonical form, and no command waits. -/
def Obligations.ResetMeetsTheInvariant : Prop := State.reset.Inv ∧ State.reset.pending = []

/-- Every step, of a command or of the idle clock, keeps the tables of the node in canonical form: the registers and the words of
the table windows and of frame memory each at one place, in rising order, and none listed at what an unlisted one reads as. -/
def Obligations.StepsKeepTheInvariant : Prop := ∀ s t : State, s.Inv → step s = .next t → t.Inv

/-- The frame of every command, in every state: the command answers a next state in which the queue, every register outside
the kinds of `reach c`, and every list, table and memory outside them are as before. -/
def Obligations.CommandsKeepTheirFrame : Prop :=
  ∀ (c : Instr) (s : State), ∃ t, exec c s = .next t ∧ t.pending = s.pending ∧ Hub.SameBut (reach c) s.hub t.hub

/-- What only a few commands may move, besides those that can reset the whole node or carry any window write, and, for
registers, those whose effect is a page's commit, a reset of a page or a domain, or a link that comes up (the commands that
`reach` gives any register): the LOCK bits and the life cycle none, the signer hashes a new bundle's decryption and the boot, the fuse count of the SVN its commit,
the debug state an unlock, a relock and the boot, the flash a landed block and the boot, the locket's ring a written record
and the boot, the key records a key operation and the boot. -/
def Obligations.ProtectedStateMovesOnlyByItsCommands : Prop :=
  ∀ (c : Instr) (s t : State), exec c s = .next t → Kind.everything ∉ reach c →
    (Kind.anyRegister ∉ reach c →
      (∀ F ∈ [HDR.LOCK_LCFG, HDR.LOCK_LHDR, HDR.LOCK_LBLK], ∀ pg, t.hub.rd F pg = s.hub.rd F pg) ∧
      t.hub.rd LCS.STATE_LC = s.hub.rd LCS.STATE_LC ∧
      (t.hub.rd KEY.FUSE_SVN ≠ s.hub.rd KEY.FUSE_SVN → ∃ r, c = .svncommit r) ∧
      (t.hub.rd DBG.STAT_STATE ≠ s.hub.rd DBG.STAT_STATE → ∃ r, c = .debugUnlock r ∨ c = .relock r)) ∧
    (t.hub.signers ≠ s.hub.signers → c = .bundleDecryptDone ∨ ∃ ok corr, c = .bootStart ok corr) ∧
    (t.hub.flash ≠ s.hub.flash → (∃ ok, c = .blockLandDone ok) ∨ ∃ ok corr, c = .bootStart ok corr) ∧
    (t.hub.lkRing ≠ s.hub.lkRing → (∃ ok, c = .locketWrite ok) ∨ ∃ ok corr, c = .bootStart ok corr) ∧
    (t.hub.recs ≠ s.hub.recs → (∃ ok, c = .keyOpDone ok) ∨ ∃ ok corr, c = .bootStart ok corr)

/-- R9, R11: what the Reset column gives. At the state after reset, and after a power-on reset of any state, every field of the
page index whose Reset column is a number holds it, in its first instance's bank and every other; after HRST so does every
one but those that R9 lets keep their values (AON.TIMER, WAKESRC, WAKEFIRST, WAKETICK), which keep them, and TOP.STRAPS,
which is loaded as HRST_N rises. -/
def Obligations.ResetColumnHoldsAfterReset : Prop :=
  (∀ row ∈ pageIndex, ∀ p ∈ pageFields row.first, p.1.src = .num → ∀ i b, State.reset.hub.rd p.1 i b = p.1.rst) ∧
  (∀ s : State, s.Inv → ∀ brownOut, ∃ t, exec (.powerOnReset brownOut) s = .next t ∧ t.pending = s.pending ∧
    ∀ row ∈ pageIndex, ∀ p ∈ pageFields row.first, p.1.src = .num → ∀ i, i < row.count → secondPage (p.1.pg + i) = false →
      t.hub.rd p.1 i 0 = p.1.rst) ∧
  (∀ s : State, s.Inv → ∀ straps, ∃ t, exec (.hrstN true straps) s = .next t ∧ t.pending = s.pending ∧
    ∀ row ∈ pageIndex, ∀ p ∈ pageFields row.first, p.1.src = .num → ∀ i, i < row.count → secondPage (p.1.pg + i) = false →
      (p.1.pg, p.1.off) ∉ [(0, 0x110), (3, 0x104), (3, 0x108), (3, 0x10C), (3, 0x118), (3, 0x11C)] →
      t.hub.rd p.1 i 0 = p.1.rst) ∧
  (∀ s : State, s.Inv → ∀ straps, ∃ t, exec (.hrstN true straps) s = .next t ∧
    ∀ F ∈ [AON.WAKESRC_SEEN, AON.WAKEFIRST_SRC, AON.WAKEFIRST_DETAIL, AON.WAKEFIRST_VALID, AON.WAKETICK_TICK,
      AON.TIMER_LO_COUNT, AON.TIMER_HI_COUNT], t.hub.rd F = s.hub.rd F)
end

