-- ==== Sys2Proof/Laws/Tab.lean ====
section
/-! SUPPORT. Laws of sparse tables: a read after a write, and every operation keeps the canonical form. -/

namespace Sys2Proof.Machine

variable {α : Type}

/-! ### The keys -/

theorem Tab.keys_ins (k : Nat) (v : α) (m : Tab α) : ∀ x ∈ Tab.keys (Tab.ins k v m), x = k ∨ x ∈ Tab.keys m := by
  induction m with
  | nil => intro x; simp [Tab.ins, Tab.keys]
  | cons p m ih =>
    obtain ⟨k', v'⟩ := p
    intro x hx
    simp only [Tab.ins] at hx
    split at hx
    · simpa [Tab.keys] using hx
    · split at hx
      · simp only [Tab.keys, List.map_cons, List.mem_cons] at hx ⊢
        rcases hx with h | h
        · exact .inl h
        · exact .inr (.inr h)
      · simp only [Tab.keys, List.map_cons, List.mem_cons] at hx ih ⊢
        rcases hx with h | h
        · exact .inr (.inl h)
        · rcases ih x h with h | h
          · exact .inl h
          · exact .inr (.inr h)

theorem Tab.keys_del (k : Nat) (m : Tab α) : List.Sublist (Tab.keys (Tab.del k m)) (Tab.keys m) := by
  induction m with
  | nil => exact List.Sublist.slnil
  | cons p m ih =>
    obtain ⟨k', v'⟩ := p
    simp only [Tab.del]
    split
    · simp [Tab.keys]
    · exact List.Sublist.cons_cons _ ih

theorem Tab.ins_sorted (k : Nat) (v : α) {m : Tab α} (H : Tab.Sorted m) : Tab.Sorted (Tab.ins k v m) := by
  induction m with
  | nil => simp [Tab.ins, Tab.Sorted, Tab.keys]
  | cons p m ih =>
    obtain ⟨k', v'⟩ := p
    rw [Tab.Sorted, Tab.keys, List.map_cons, List.pairwise_cons] at H
    simp only [Tab.ins]
    split
    · rename_i h
      rw [Tab.Sorted, Tab.keys, List.map_cons, List.map_cons, List.pairwise_cons, List.pairwise_cons]
      refine ⟨?_, H⟩
      intro x hx
      rcases List.mem_cons.1 hx with rfl | hx
      · exact h
      · exact Nat.lt_trans h (H.1 x hx)
    · split
      · rename_i h; subst h
        rw [Tab.Sorted, Tab.keys, List.map_cons, List.pairwise_cons]; exact H
      · rename_i h1 h2
        rw [Tab.Sorted, Tab.keys, List.map_cons, List.pairwise_cons]
        refine ⟨?_, ih H.2⟩
        intro x hx
        rcases Tab.keys_ins k v m x hx with rfl | hx
        · show k' < x; omega
        · exact H.1 x hx

theorem Tab.del_sorted (k : Nat) {m : Tab α} (H : Tab.Sorted m) : Tab.Sorted (Tab.del k m) :=
  List.Pairwise.sublist (Tab.keys_del k m) H

theorem Tab.filter_sorted (p : Nat × α → Bool) {m : Tab α} (H : Tab.Sorted m) : Tab.Sorted (m.filter p) :=
  List.Pairwise.sublist (List.filter_sublist.map _) H

theorem Tab.wipe_sorted (lo hi : Nat) {m : Tab α} (H : Tab.Sorted m) : Tab.Sorted (Tab.wipe lo hi m) :=
  Tab.filter_sorted _ H

theorem Tab.put_sorted [DecidableEq α] (d : α) (k : Nat) (v : α) {m : Tab α} (H : Tab.Sorted m) :
    Tab.Sorted (Tab.put d k v m) := by
  unfold Tab.put
  split
  · exact Tab.del_sorted k H
  · exact Tab.ins_sorted k v H

/-! ### The canonical form -/

theorem Tab.mem_ins (k : Nat) (v : α) (m : Tab α) : ∀ p ∈ Tab.ins k v m, p = (k, v) ∨ p ∈ m := by
  induction m with
  | nil => intro p; simp [Tab.ins]
  | cons q m ih =>
    obtain ⟨k', v'⟩ := q
    intro p hp
    simp only [Tab.ins] at hp
    split at hp
    · simpa using hp
    · split at hp
      · rcases List.mem_cons.1 hp with h | h
        · exact .inl h
        · exact .inr (List.mem_cons_of_mem _ h)
      · rcases List.mem_cons.1 hp with h | h
        · exact .inr (h ▸ List.mem_cons_self)
        · rcases ih p h with h | h
          · exact .inl h
          · exact .inr (List.mem_cons_of_mem _ h)

theorem Tab.del_sublist (k : Nat) (m : Tab α) : List.Sublist (Tab.del k m) m := by
  induction m with
  | nil => exact List.Sublist.slnil
  | cons p m ih =>
    obtain ⟨k', v'⟩ := p
    simp only [Tab.del]
    split
    · simp
    · exact List.Sublist.cons_cons _ ih

theorem Tab.nil_wf (d : α) : Tab.Wf d ([] : Tab α) := ⟨List.Pairwise.nil, fun _ h => nomatch h⟩

theorem Tab.put_wf [DecidableEq α] (d : α) (k : Nat) (v : α) {m : Tab α} (H : Tab.Wf d m) :
    Tab.Wf d (Tab.put d k v m) := by
  refine ⟨Tab.put_sorted d k v H.1, ?_⟩
  unfold Tab.put
  split
  · exact fun p hp => H.2 p ((Tab.del_sublist k m).subset hp)
  · rename_i h
    intro p hp
    rcases Tab.mem_ins k v m p hp with rfl | hp
    · exact h
    · exact H.2 p hp

theorem Tab.filter_wf (d : α) (p : Nat × α → Bool) {m : Tab α} (H : Tab.Wf d m) : Tab.Wf d (m.filter p) :=
  ⟨Tab.filter_sorted p H.1, fun q hq => H.2 q (List.mem_filter.1 hq).1⟩

theorem Tab.wipe_wf (d : α) (lo hi : Nat) {m : Tab α} (H : Tab.Wf d m) : Tab.Wf d (Tab.wipe lo hi m) :=
  Tab.filter_wf d _ H

theorem Tab.putRun_wf [DecidableEq α] (d : α) (vs : List α) :
    ∀ (k : Nat) {m : Tab α}, Tab.Wf d m → Tab.Wf d (Tab.putRun d k vs m) := by
  induction vs with
  | nil => exact fun _ _ H => H
  | cons v vs ih => exact fun k _ H => ih (k + 1) (Tab.put_wf d k v H)

/-! ### Reads and writes -/

theorem Tab.get_absent (d : α) (k : Nat) {m : Tab α} (H : ∀ x ∈ Tab.keys m, k < x) : Tab.get d k m = d := by
  induction m with
  | nil => rfl
  | cons p m ih =>
    obtain ⟨k', v'⟩ := p
    have h : k < k' := H k' (by simp [Tab.keys])
    simp only [Tab.get, if_neg (Nat.ne_of_gt h)]
    exact ih fun x hx => H x (List.mem_cons_of_mem _ hx)

theorem Tab.get_ins_same (d : α) (k : Nat) (v : α) (m : Tab α) : Tab.get d k (Tab.ins k v m) = v := by
  induction m with
  | nil => simp [Tab.ins, Tab.get]
  | cons p m ih =>
    obtain ⟨k', v'⟩ := p
    simp only [Tab.ins]
    split
    · simp [Tab.get]
    · split
      · simp [Tab.get]
      · rename_i h
        simp only [Tab.get, if_neg (Ne.symm h)]
        exact ih

theorem Tab.get_ins_ne (d : α) {k j : Nat} (h : k ≠ j) (v : α) (m : Tab α) :
    Tab.get d j (Tab.ins k v m) = Tab.get d j m := by
  induction m with
  | nil => simp [Tab.ins, Tab.get, h]
  | cons p m ih =>
    obtain ⟨k', v'⟩ := p
    simp only [Tab.ins]
    split
    · simp [Tab.get, h]
    · split
      · rename_i e; subst e; simp [Tab.get, h]
      · simp only [Tab.get, ih]

theorem Tab.get_del_same (d : α) (k : Nat) {m : Tab α} (H : Tab.Sorted m) : Tab.get d k (Tab.del k m) = d := by
  induction m with
  | nil => rfl
  | cons p m ih =>
    obtain ⟨k', v'⟩ := p
    rw [Tab.Sorted, Tab.keys, List.map_cons, List.pairwise_cons] at H
    simp only [Tab.del]
    split
    · rename_i e
      exact Tab.get_absent d k fun x hx => e ▸ H.1 x hx
    · rename_i e
      simp only [Tab.get, if_neg e]
      exact ih H.2

theorem Tab.get_del_ne (d : α) {k j : Nat} (h : k ≠ j) (m : Tab α) : Tab.get d j (Tab.del k m) = Tab.get d j m := by
  induction m with
  | nil => rfl
  | cons p m ih =>
    obtain ⟨k', v'⟩ := p
    simp only [Tab.del]
    split
    · rename_i e; subst e; simp [Tab.get, h]
    · simp only [Tab.get, ih]

theorem Tab.get_put_same [DecidableEq α] (d : α) (k : Nat) (v : α) {m : Tab α} (H : Tab.Sorted m) :
    Tab.get d k (Tab.put d k v m) = v := by
  unfold Tab.put
  split
  · rename_i e; rw [Tab.get_del_same d k H, e]
  · exact Tab.get_ins_same d k v m

theorem Tab.get_put_ne [DecidableEq α] (d e : α) {k j : Nat} (h : k ≠ j) (v : α) (m : Tab α) :
    Tab.get e j (Tab.put d k v m) = Tab.get e j m := by
  unfold Tab.put
  split
  · exact Tab.get_del_ne e h m
  · exact Tab.get_ins_ne e h v m

theorem Tab.get_putRun_below [DecidableEq α] (d : α) (vs : List α) :
    ∀ {k j : Nat} (m : Tab α), j < k → Tab.get d j (Tab.putRun d k vs m) = Tab.get d j m := by
  induction vs with
  | nil => exact fun _ _ => rfl
  | cons v vs ih =>
    intro k j m h
    rw [Tab.putRun, ih _ (by omega), Tab.get_put_ne d d (by omega)]

theorem Tab.get_putRun_above [DecidableEq α] (d : α) (vs : List α) :
    ∀ {k j : Nat} (m : Tab α), k + vs.length ≤ j → Tab.get d j (Tab.putRun d k vs m) = Tab.get d j m := by
  induction vs with
  | nil => exact fun _ _ => rfl
  | cons v vs ih =>
    intro k j m h
    simp only [List.length_cons] at h
    rw [Tab.putRun, ih _ (by omega), Tab.get_put_ne d d (by omega)]

theorem Tab.getRun_length (d : α) (m : Tab α) : ∀ n k, (Tab.getRun d k n m).length = n
  | 0, _ => rfl
  | n + 1, k => by simp [Tab.getRun, Tab.getRun_length d m n]

/-- A run of words read back after it is written gives the words. -/
theorem Tab.getRun_putRun_same [DecidableEq α] (d : α) (vs : List α) :
    ∀ (k : Nat) {m : Tab α}, Tab.Sorted m → Tab.getRun d k vs.length (Tab.putRun d k vs m) = vs := by
  induction vs with
  | nil => exact fun _ _ _ => rfl
  | cons v vs ih =>
    intro k m H
    simp only [Tab.putRun, List.length_cons, Tab.getRun]
    rw [Tab.get_putRun_below d vs _ (by omega), Tab.get_put_same d k v H, ih (k + 1) (Tab.put_sorted d k v H)]

end Sys2Proof.Machine
end

