-- ==== Sys2Proof/Laws/Keep.lean ====
section
/-! SUPPORT. What an operation keeps. `P` is a property of the node and `m` a set of kinds of state, as the bits of a
number. `P` bears the changes of `m`; every operation that stays within `m` keeps `P`, and the lemma of the
operation names the kinds that it may change. The canonical form is such a property for every `m`, and so is agreement
with a fixed node outside `m`. -/

namespace Sys2Proof.Machine

variable {P : Hub → Prop}

/-- Every bit of `a` is a bit of `m`. -/
def Sub (a m : Nat) : Prop := a &&& m = a

theorem Sub.bit {a m k : Nat} (w : Sub a m) (h : a.testBit k = true) : m.testBit k = true := by
  have e : (a &&& m).testBit k = true := by rw [w]; exact h
  rw [Nat.testBit_and, Bool.and_eq_true] at e
  exact e.2

theorem Sub.bitAt {a m k n : Nat} (w : Sub a m) (e : k = n) (h : a.testBit n = true) : m.testBit k = true :=
  e ▸ w.bit h

theorem Sub.sub {a m c : Nat} (w : Sub a m) (h : c &&& a = c) : Sub c m := by
  unfold Sub at *
  rw [← h, Nat.and_assoc, w]

theorem Sub.refl (a : Nat) : Sub a a := Nat.and_self a

theorem kind_ite {c : Prop} [Decidable c] {m : Nat} {F G : Fld} (hF : m.testBit F.kind = true) (hG : m.testBit G.kind = true) :
    m.testBit (if c then F else G).kind = true := by
  split
  · exact hF
  · exact hG

/-! ### Kinds of registers -/

theorem keyKind_key (F : Fld) (i b : Nat) : keyKind (F.key i b) = F.kind := by
  have h1 : F.key i b / 2 ^ 18 % 1024 = F.key 0 0 / 2 ^ 18 % 1024 := by unfold Fld.key; omega
  have h2 : F.key i b / 32 % 8192 = F.key 0 0 / 32 % 8192 := by unfold Fld.key; omega
  have h3 : F.key i b % 32 = F.key 0 0 % 32 := by unfold Fld.key; omega
  unfold Fld.kind keyKind
  rw [h1, h2, h3]

/-- Registers of different kinds have different keys. -/
theorem key_ne_of_kind {F G : Fld} (h : F.kind ≠ G.kind) (i b j c : Nat) : F.key i b ≠ G.key j c := by
  intro e
  apply h
  rw [← keyKind_key F i b, e, keyKind_key]

theorem beq_off {a b : Nat} (h : a ≠ b) : Nat.beq a b = false := by
  cases e : Nat.beq a b with
  | false => rfl
  | true => exact absurd (Nat.eq_of_beq_eq_true e) h

theorem kind_word {F : Fld} (j : Nat) (h1 : F.pg < 1024) (h2 : F.pg ≠ 0) (h3 : F.off < 4096) (h4 : F.lo < 32)
    (h5 : ∀ q ∈ [(0xB, 0x100), (0xE, 0x204), (0xC, 0x104), (4, 0x100), (4, 0x120), (0x68, 0x11C), (0xF, 0x104), (0x10, 0x108),
      (0x68, 0x110), (3, 0x130)], F.pg = q.1 → F.off + 4 * (j % 1024) ≠ q.2) : (F.word j).kind = F.pg := by
  have e1 : (F.word j).key 0 0 / 2 ^ 18 % 1024 = F.pg := by unfold Fld.key Fld.word; simp only; omega
  have e2 : (F.word j).key 0 0 / 32 % 8192 = F.off + 4 * (j % 1024) := by unfold Fld.key Fld.word; simp only; omega
  have q : ∀ p o, (p, o) ∈ [(0xB, 0x100), (0xE, 0x204), (0xC, 0x104), (4, 0x100), (4, 0x120), (0x68, 0x11C), (0xF, 0x104),
      (0x10, 0x108), (0x68, 0x110), (3, 0x130)] → (Nat.beq F.pg p && Nat.beq (F.off + 4 * (j % 1024)) o) = false := by
    intro p o hm
    have hp := h5 (p, o) hm
    by_cases k : F.pg = p
    · have : (F.off + 4 * (j % 1024)).beq o = false := beq_off (hp k)
      rw [this, Bool.and_false]
    · have : F.pg.beq p = false := beq_off k
      rw [this, Bool.false_and]
  have z : F.pg.beq 0 = false := beq_off h2
  unfold Fld.kind keyKind
  rw [e1, e2]
  show (bif F.pg.beq 0 && _ then _ else _) = _
  rw [z, q 0xB 0x100 (by decide), q 0xE 0x204 (by decide), q 0xC 0x104 (by decide), q 4 0x120 (by decide),
    q 4 0x100 (by decide), q 0x68 0x11C (by decide), q 0xF 0x104 (by decide), q 0x10 0x108 (by decide),
    q 0x68 0x110 (by decide), q 3 0x130 (by decide)]
  simp only [Bool.false_and, cond_false]

theorem kind_word_above {F : Fld} (j : Nat) (h1 : F.pg < 1024) (h2 : F.pg ≠ 0) (h3 : F.off < 4096) (h4 : F.lo < 32)
    (h5 : ∀ q ∈ [(0xB, 0x100), (0xE, 0x204), (0xC, 0x104), (4, 0x100), (4, 0x120), (0x68, 0x11C), (0xF, 0x104), (0x10, 0x108),
      (0x68, 0x110), (3, 0x130)], F.pg = q.1 → q.2 < F.off) : (F.word j).kind = F.pg :=
  kind_word j h1 h2 h3 h4 fun q hq e => by
    have := h5 q hq e
    omega

theorem kind_word_DBG_NONCE (j : Nat) : (DBG.NONCE.word j).kind = 0xc :=
  kind_word_above j (by decide) (by decide) (by decide) (by decide) (by decide)
theorem kind_word_DPT_AUXDATA (j : Nat) : (DPT.AUXDATA.word j).kind = 0x78 :=
  kind_word_above j (by decide) (by decide) (by decide) (by decide) (by decide)
theorem kind_word_FIL_SNAP_DATA (j : Nat) : (FIL.SNAP_DATA.word j).kind = 0x2 :=
  kind_word_above j (by decide) (by decide) (by decide) (by decide) (by decide)
theorem kind_word_KEY_MVAL {j : Nat} (h : j < 13) : (KEY.MVAL.word j).kind = 0xe := by
  have : ∀ j < 13, (KEY.MVAL.word j).kind = 0xe := by decide
  exact this j h
theorem kind_word_KEY_PUB {j : Nat} (h : j < 13) : (KEY.PUB.word j).kind = 0xe := by
  have : ∀ j < 13, (KEY.PUB.word j).kind = 0xe := by decide
  exact this j h
theorem kind_word_LCS_NONCE (j : Nat) : (LCS.NONCE.word j).kind = 0xb :=
  kind_word_above j (by decide) (by decide) (by decide) (by decide) (by decide)
theorem kind_word_LKT_RDATA (j : Nat) : (LKT.RDATA.word j).kind = 0xa :=
  kind_word_above j (by decide) (by decide) (by decide) (by decide) (by decide)
theorem kind_word_MGP_AUTHBUF (j : Nat) : (MGP.AUTHBUF.word j).kind = 0xd :=
  kind_word_above j (by decide) (by decide) (by decide) (by decide) (by decide)
theorem kind_word_OPT_MBX_RXD (j : Nat) : (OPT.MBX_RXD.word j).kind = 0x10 :=
  kind_word_above j (by decide) (by decide) (by decide) (by decide) (by decide)
theorem kind_word_OPT_T (j : Nat) : (OPT.T.word j).kind = 0x10 :=
  kind_word_above j (by decide) (by decide) (by decide) (by decide) (by decide)
theorem kind_word_PCI_MSIX_PBA (j : Nat) : (PCI.MSIX_PBA.word j).kind = 0x81 :=
  kind_word_above j (by decide) (by decide) (by decide) (by decide) (by decide)
theorem kind_word_PCI_MSIX_TABLE (j : Nat) : (PCI.MSIX_TABLE.word j).kind = 0x81 :=
  kind_word_above j (by decide) (by decide) (by decide) (by decide) (by decide)
theorem kind_word_TEL_SNAPDATA (j : Nat) : (TEL.SNAPDATA.word j).kind = 0x7 :=
  kind_word_above j (by decide) (by decide) (by decide) (by decide) (by decide)
theorem kind_word_TUN_RRQ_DATA (j : Nat) : (TUN.RRQ_DATA.word j).kind = 0x40 :=
  kind_word_above j (by decide) (by decide) (by decide) (by decide) (by decide)
theorem kind_word_UDF_EP0BUF (j : Nat) : (UDF.EP0BUF.word j).kind = 0xa1 :=
  kind_word_above j (by decide) (by decide) (by decide) (by decide) (by decide)
theorem kind_word_UDF_EP1OUT (j : Nat) : (UDF.EP1OUT.word j).kind = 0xa1 :=
  kind_word_above j (by decide) (by decide) (by decide) (by decide) (by decide)
theorem kind_word_UPD_BCLEAR (j : Nat) : (UPD.BCLEAR.word j).kind = 0xf :=
  kind_word_above j (by decide) (by decide) (by decide) (by decide) (by decide)

theorem toWords_length : ∀ (n : Nat) (bs : Bytes), (toWords n bs).length = n
  | 0, _ => rfl
  | n + 1, bs => by simp [toWords, toWords_length n]

theorem zipIdx_lt {n : Nat} {bs : Bytes} {x j : Nat} (h : (x, j) ∈ (toWords n bs).zipIdx) : j < n := by
  have := (List.mem_zipIdx h).2.1
  rw [toWords_length] at this
  omega

theorem padTo_length (n : Nat) (bs : Bytes) : (padTo n bs).length = n := by
  simp only [padTo, List.length_take, List.length_append, List.length_replicate]
  omega

theorem pub_words {bs : Bytes} {j : Nat} (h : j < ceilDiv (padTo 49 bs).length 4) : j < 13 := by
  rw [padTo_length] at h
  exact h

theorem voteFld_kind (c : Fin 6) : (voteFld c).kind = 4 := by
  revert c; decide

theorem gateFld_kind (n : Nat) : (gateFld n).1.kind = 1 := by
  have q : ∀ F ∈ [CLK.GATE_HEAD, CLK.GATE_CAP, CLK.GATE_TILE, CLK.GATE_ETH, CLK.GATE_USB, CLK.GATE_LUME, CLK.GATE_PCIE,
    CLK.GATE_MEM], F.kind = 1 := by decide
  apply q
  unfold gateFld
  repeat' split
  all_goals simp

theorem credFld_kind (v : Nat) : (Hub.credFld v).kind = 0x10 := by
  unfold Hub.credFld
  repeat' split
  all_goals decide

/-! ### What a property bears -/

/-- `P` bears every change of the kinds of state in `m`. -/
structure Hub.Bears (m : Nat) (P : Hub → Prop) : Prop where
  wr : ∀ {h : Hub} {F : Fld} {v i b : Nat}, m.testBit F.kind = true → P h → P (h.wr F v i b)
  regs : ∀ {h : Hub} {r : Tab Nat}, m.testBit 255 = true → P h → (Tab.Sorted h.regs → Tab.Sorted r) →
    P { h with regs := r }
  tab : ∀ {h : Hub} {r : Tab Nat}, m.testBit 303 = true → P h → (Tab.Wf 0 h.tab → Tab.Wf 0 r) → P { h with tab := r }
  fmem : ∀ {h : Hub} {r : Tab Byte}, m.testBit 308 = true → P h → (Tab.Wf 0 h.fmem → Tab.Wf 0 r) →
    P { h with fmem := r }
  all : ∀ {g h : Hub}, m.testBit 511 = true → P g → (g.Canon → h.Canon) → P h
  shadow : ∀ {h : Hub} {x : Tab Nat}, m.testBit 301 = true → P h → P { h with shadow := x }
  ret : ∀ {h : Hub} {x : Tab Nat}, m.testBit 302 = true → P h → P { h with ret := x }
  staging : ∀ {h : Hub} {x : Tab Staging}, m.testBit 304 = true → P h → P { h with staging := x }
  latch64 : ∀ {h : Hub} {x : Tab Latch64}, m.testBit 305 = true → P h → P { h with latch64 := x }
  tabLatch : ∀ {h : Hub} {x : Tab TabLatch}, m.testBit 306 = true → P h → P { h with tabLatch := x }
  resp : ∀ {h : Hub} {x : Tab Resp}, m.testBit 307 = true → P h → P { h with resp := x }
  cfg : ∀ {h : Hub} {x : Tab Nat}, m.testBit 309 = true → P h → P { h with cfg := x }
  cyc : ∀ {h : Hub} {x : Nat}, m.testBit 310 = true → P h → P { h with cyc := x }
  freeIx : ∀ {h : Hub} {x : Nat}, m.testBit 311 = true → P h → P { h with freeIx := x }
  filWin : ∀ {h : Hub} {x : List (Nat × Nat)}, m.testBit 312 = true → P h → P { h with filWin := x }
  lkQueue : ∀ {h : Hub} {x : List LkRec}, m.testBit 313 = true → P h → P { h with lkQueue := x }
  lkRing : ∀ {h : Hub} {x : Tab Bytes}, m.testBit 314 = true → P h → P { h with lkRing := x }
  ctlOut : ∀ {h : Hub} {x : List CtlMsg}, m.testBit 315 = true → P h → P { h with ctlOut := x }
  meters : ∀ {h : Hub} {x : Tab Meter}, m.testBit 316 = true → P h → P { h with meters := x }
  pkts : ∀ {h : Hub} {x : Tab Pkt}, m.testBit 317 = true → P h → P { h with pkts := x }
  pktNext : ∀ {h : Hub} {x : Nat}, m.testBit 318 = true → P h → P { h with pktNext := x }
  opens : ∀ {h : Hub} {x : Tab OpenPk}, m.testBit 319 = true → P h → P { h with opens := x }
  queues : ∀ {h : Hub} {x : Tab (List Nat)}, m.testBit 320 = true → P h → P { h with queues := x }
  egOut : ∀ {h : Hub} {x : Tab (List OutCell)}, m.testBit 321 = true → P h → P { h with egOut := x }
  shapers : ∀ {h : Hub} {x : Tab Shaper}, m.testBit 322 = true → P h → P { h with shapers := x }
  asks : ∀ {h : Hub} {x : Tab Ask}, m.testBit 323 = true → P h → P { h with asks := x }
  changes : ∀ {h : Hub} {x : Tab Change}, m.testBit 324 = true → P h → P { h with changes := x }
  unrec : ∀ {h : Hub} {x : List Unrec}, m.testBit 325 = true → P h → P { h with unrec := x }
  intents : ∀ {h : Hub} {x : List Intent}, m.testBit 326 = true → P h → P { h with intents := x }
  lmcQ : ∀ {h : Hub} {x : Tab (List Lmc)}, m.testBit 327 = true → P h → P { h with lmcQ := x }
  nbrs : ∀ {h : Hub} {x : Tab Nbr}, m.testBit 328 = true → P h → P { h with nbrs := x }
  granted : ∀ {h : Hub} {x : Tab (Nat × Nat)}, m.testBit 329 = true → P h → P { h with granted := x }
  ready : ∀ {h : Hub} {x : Tab NodeInfo}, m.testBit 330 = true → P h → P { h with ready := x }
  replay : ∀ {h : Hub} {x : Tab (List RFrame)}, m.testBit 331 = true → P h → P { h with replay := x }
  spanRx : ∀ {h : Hub} {x : Tab (List RFrame)}, m.testBit 332 = true → P h → P { h with spanRx := x }
  spanTx : ∀ {h : Hub} {x : Tab (Bytes × Bytes)}, m.testBit 333 = true → P h → P { h with spanTx := x }
  wire : ∀ {h : Hub} {x : Tab (List Wire)}, m.testBit 334 = true → P h → P { h with wire := x }
  capRx : ∀ {h : Hub} {x : Tab Bytes}, m.testBit 335 = true → P h → P { h with capRx := x }
  keys : ∀ {h : Hub} {x : Tab Bytes}, m.testBit 336 = true → P h → P { h with keys := x }
  gaps : ∀ {h : Hub} {x : Tab (List (Nat × Nat))}, m.testBit 337 = true → P h → P { h with gaps := x }
  repairs : ∀ {h : Hub} {x : Tab (List (Nat × Nat))}, m.testBit 338 = true → P h → P { h with repairs := x }
  tileDone : ∀ {h : Hub} {x : Tab (List Nat)}, m.testBit 339 = true → P h → P { h with tileDone := x }
  tileOut : ∀ {h : Hub} {x : Tab (List TilePkt)}, m.testBit 340 = true → P h → P { h with tileOut := x }
  txbOut : ∀ {h : Hub} {x : List TxbMsg}, m.testBit 341 = true → P h → P { h with txbOut := x }
  tags : ∀ {h : Hub} {x : Tab TxbTag}, m.testBit 342 = true → P h → P { h with tags := x }
  rdWait : ∀ {h : Hub} {x : List TxbPiece}, m.testBit 343 = true → P h → P { h with rdWait := x }
  reads : ∀ {h : Hub} {x : Tab TxbRead}, m.testBit 344 = true → P h → P { h with reads := x }
  rdAns : ∀ {h : Hub} {x : List TxbAns}, m.testBit 345 = true → P h → P { h with rdAns := x }
  land : ∀ {h : Hub} {x : List TxbIn}, m.testBit 346 = true → P h → P { h with land := x }
  rdIn : ∀ {h : Hub} {x : List TxbIn}, m.testBit 347 = true → P h → P { h with rdIn := x }
  rdBus : ∀ {h : Hub} {x : List TxbIn}, m.testBit 348 = true → P h → P { h with rdBus := x }
  pfifo : ∀ {h : Hub} {x : List TxbErr}, m.testBit 349 = true → P h → P { h with pfifo := x }
  pcieOut : ∀ {h : Hub} {x : List PcieReq}, m.testBit 350 = true → P h → P { h with pcieOut := x }
  msixOut : ∀ {h : Hub} {x : List Nat}, m.testBit 351 = true → P h → P { h with msixOut := x }
  ethOut : ∀ {h : Hub} {x : Tab (List Bytes)}, m.testBit 352 = true → P h → P { h with ethOut := x }
  lumeOut : ∀ {h : Hub} {x : Tab (List Bytes)}, m.testBit 353 = true → P h → P { h with lumeOut := x }
  usbOut : ∀ {h : Hub} {x : List (Nat × UsbPkt)}, m.testBit 354 = true → P h → P { h with usbOut := x }
  usbFly : ∀ {h : Hub} {x : List UsbFlight}, m.testBit 355 = true → P h → P { h with usbFly := x }
  usbHeld : ∀ {h : Hub} {x : Tab UsbHeld}, m.testBit 356 = true → P h → P { h with usbHeld := x }
  udfOut : ∀ {h : Hub} {x : List (Nat × Bytes)}, m.testBit 357 = true → P h → P { h with udfOut := x }
  claspAsk : ∀ {h : Hub} {x : Tab ClaspAsk}, m.testBit 358 = true → P h → P { h with claspAsk := x }
  pdOut : ∀ {h : Hub} {x : Tab (List PdOut)}, m.testBit 359 = true → P h → P { h with pdOut := x }
  root : ∀ {h : Hub} {x : Bytes}, m.testBit 360 = true → P h → P { h with root := x }
  ephemeral : ∀ {h : Hub} {x : Bytes}, m.testBit 361 = true → P h → P { h with ephemeral := x }
  agree : ∀ {h : Hub} {x : Bytes}, m.testBit 362 = true → P h → P { h with agree := x }
  recs : ∀ {h : Hub} {x : Tab Bytes}, m.testBit 363 = true → P h → P { h with recs := x }
  marks : ∀ {h : Hub} {x : Tab Nat}, m.testBit 364 = true → P h → P { h with marks := x }
  signers : ∀ {h : Hub} {x : Tab Bytes}, m.testBit 365 = true → P h → P { h with signers := x }
  flash : ∀ {h : Hub} {x : Tab Byte}, m.testBit 366 = true → P h → P { h with flash := x }
  blk : ∀ {h : Hub} {x : List Nat}, m.testBit 367 = true → P h → P { h with blk := x }
  landed : ∀ {h : Hub} {x : Tab Nat}, m.testBit 368 = true → P h → P { h with landed := x }
  clear : ∀ {h : Hub} {x : Bytes}, m.testBit 369 = true → P h → P { h with clear := x }
  landing : ∀ {h : Hub} {x : List Nat}, m.testBit 370 = true → P h → P { h with landing := x }
  telOut : ∀ {h : Hub} {x : List (Nat × Bytes)}, m.testBit 371 = true → P h → P { h with telOut := x }
  mgpResp : ∀ {h : Hub} {x : Bytes}, m.testBit 372 = true → P h → P { h with mgpResp := x }
  mgpRead : ∀ {h : Hub} {x : Bytes}, m.testBit 373 = true → P h → P { h with mgpRead := x }
  paths : ∀ {h : Hub} {x : Tab Path}, m.testBit 374 = true → P h → P { h with paths := x }
  settles : ∀ {h : Hub} {x : List Settle}, m.testBit 375 = true → P h → P { h with settles := x }
  stalled : ∀ {h : Hub} {x : Tab (List Cell)}, m.testBit 376 = true → P h → P { h with stalled := x }

/-! ### The shapes of a definition -/

theorem keep_ite {c : Prop} [Decidable c] {a b : Hub} (ha : P a) (hb : P b) : P (if c then a else b) := by
  split <;> assumption

theorem keep_dite {c : Prop} [Decidable c] {a : c → Hub} {b : ¬c → Hub} (ha : ∀ e, P (a e)) (hb : ∀ e, P (b e)) :
    P (if e : c then a e else b e) := by
  split
  · exact ha _
  · exact hb _

theorem keep_when {h : Hub} {c : Bool} {f : Hub → Hub} (hf : ∀ h, P h → P (f h)) (H : P h) : P (h.when c f) := by
  unfold Hub.when
  exact keep_ite (hf h H) H

theorem keep_foldl {α : Type} {f : Hub → α → Hub} {l : List α} (hf : ∀ h a, P h → P (f h a)) :
    ∀ {h : Hub}, P h → P (l.foldl f h) := by
  induction l with
  | nil => exact fun H => H
  | cons a l ih => exact fun H => ih (hf _ a H)

theorem keep_foldl_snd {α β : Type} {f : β × Hub → α → β × Hub} {l : List α} (hf : ∀ p a, P p.2 → P (f p a).2) :
    ∀ {p : β × Hub}, P p.2 → P (l.foldl f p).2 := by
  induction l with
  | nil => exact fun H => H
  | cons a l ih => exact fun H => ih (hf _ a H)

theorem keep_each {α : Type} {h : Hub} {l : List α} {f : α → Hub → Hub} (hf : ∀ a h, P h → P (f a h)) (H : P h) :
    P (h.each l f) := keep_foldl (fun h a => hf a h) H

theorem keep_p1 {α : Type} {h : Hub} {a : α} (H : P h) : P (h, a).1 := H

theorem keep_p2 {α : Type} {h : Hub} {a : α} (H : P h) : P (a, h).2 := H

theorem keep_p22 {α β : Type} {h : Hub} {a : α} {b : β} (H : P h) : P (a, b, h).2.2 := H

theorem keep_fst {α : Type} {p : Hub × α} {h : Hub} {a : α} (e : p = (h, a)) (H : P p.1) : P h := by
  subst e; exact H

theorem keep_snd {α : Type} {p : α × Hub} {a : α} {h : Hub} (e : p = (a, h)) (H : P p.2) : P h := by
  subst e; exact H

theorem keep_snd2 {α β : Type} {p : α × β × Hub} {a : α} {b : β} {h : Hub} (e : p = (a, b, h)) (H : P p.2.2) :
    P h := by
  subst e; exact H

theorem act_keeps {s t : State} {f : Hub → Hub} (e : s.act f = .next t) (H : P s.hub) (hf : ∀ h, P h → P (f h)) :
    P t.hub := by
  unfold State.act at e
  cases e
  exact hf _ H

theorem keep_foldl_mem {α : Type} {f : Hub → α → Hub} {l : List α} (hf : ∀ h, ∀ a ∈ l, P h → P (f h a)) :
    ∀ {h : Hub}, P h → P (l.foldl f h) := by
  induction l with
  | nil => exact fun H => H
  | cons a l ih =>
    exact fun H => ih (fun h b hb => hf h b (List.mem_cons_of_mem a hb)) (hf _ a List.mem_cons_self H)

theorem keep_each_mem {α : Type} {h : Hub} {l : List α} {f : α → Hub → Hub} (hf : ∀ a ∈ l, ∀ h, P h → P (f a h)) (H : P h) :
    P (h.each l f) := keep_foldl_mem (fun h a ha => hf a ha h) H

theorem Hub.Bears.wrAny {m : Nat} (B : Hub.Bears m P) {h : Hub} {F : Fld} {v i b : Nat} (e : m.testBit 255 = true) (H : P h) :
    P (h.wr F v i b) := by
  unfold Hub.wr
  exact B.regs e H fun S => Tab.put_sorted _ _ _ S

theorem Hub.Bears.setTword {m : Nat} (B : Hub.Bears m P) {h : Hub} {a v : Nat} (e : m.testBit 303 = true) (H : P h) :
    P (h.setTword a v) := by
  unfold Hub.setTword
  exact B.tab e H fun W => Tab.put_wf _ _ _ W

theorem Hub.Bears.setTwords {m : Nat} (B : Hub.Bears m P) {h : Hub} {a : Nat} {ws : List Nat} (e : m.testBit 303 = true)
    (H : P h) : P (h.setTwords a ws) := by
  unfold Hub.setTwords
  exact B.tab e H fun W => Tab.putRun_wf _ _ _ W

/-! ### The two properties -/

/-- The canonical form bears every change. -/
theorem bears_canon (m : Nat) : Hub.Bears m Hub.Canon where
  wr _ H := ⟨Tab.put_sorted _ _ _ H.regs, H.tab, H.fmem⟩
  regs _ H f := ⟨f H.regs, H.tab, H.fmem⟩
  tab _ H f := ⟨H.regs, f H.tab, H.fmem⟩
  fmem _ H f := ⟨H.regs, H.tab, f H.fmem⟩
  all _ H f := f H
  shadow _ H := ⟨H.regs, H.tab, H.fmem⟩
  ret _ H := ⟨H.regs, H.tab, H.fmem⟩
  staging _ H := ⟨H.regs, H.tab, H.fmem⟩
  latch64 _ H := ⟨H.regs, H.tab, H.fmem⟩
  tabLatch _ H := ⟨H.regs, H.tab, H.fmem⟩
  resp _ H := ⟨H.regs, H.tab, H.fmem⟩
  cfg _ H := ⟨H.regs, H.tab, H.fmem⟩
  cyc _ H := ⟨H.regs, H.tab, H.fmem⟩
  freeIx _ H := ⟨H.regs, H.tab, H.fmem⟩
  filWin _ H := ⟨H.regs, H.tab, H.fmem⟩
  lkQueue _ H := ⟨H.regs, H.tab, H.fmem⟩
  lkRing _ H := ⟨H.regs, H.tab, H.fmem⟩
  ctlOut _ H := ⟨H.regs, H.tab, H.fmem⟩
  meters _ H := ⟨H.regs, H.tab, H.fmem⟩
  pkts _ H := ⟨H.regs, H.tab, H.fmem⟩
  pktNext _ H := ⟨H.regs, H.tab, H.fmem⟩
  opens _ H := ⟨H.regs, H.tab, H.fmem⟩
  queues _ H := ⟨H.regs, H.tab, H.fmem⟩
  egOut _ H := ⟨H.regs, H.tab, H.fmem⟩
  shapers _ H := ⟨H.regs, H.tab, H.fmem⟩
  asks _ H := ⟨H.regs, H.tab, H.fmem⟩
  changes _ H := ⟨H.regs, H.tab, H.fmem⟩
  unrec _ H := ⟨H.regs, H.tab, H.fmem⟩
  intents _ H := ⟨H.regs, H.tab, H.fmem⟩
  lmcQ _ H := ⟨H.regs, H.tab, H.fmem⟩
  nbrs _ H := ⟨H.regs, H.tab, H.fmem⟩
  granted _ H := ⟨H.regs, H.tab, H.fmem⟩
  ready _ H := ⟨H.regs, H.tab, H.fmem⟩
  replay _ H := ⟨H.regs, H.tab, H.fmem⟩
  spanRx _ H := ⟨H.regs, H.tab, H.fmem⟩
  spanTx _ H := ⟨H.regs, H.tab, H.fmem⟩
  wire _ H := ⟨H.regs, H.tab, H.fmem⟩
  capRx _ H := ⟨H.regs, H.tab, H.fmem⟩
  keys _ H := ⟨H.regs, H.tab, H.fmem⟩
  gaps _ H := ⟨H.regs, H.tab, H.fmem⟩
  repairs _ H := ⟨H.regs, H.tab, H.fmem⟩
  tileDone _ H := ⟨H.regs, H.tab, H.fmem⟩
  tileOut _ H := ⟨H.regs, H.tab, H.fmem⟩
  txbOut _ H := ⟨H.regs, H.tab, H.fmem⟩
  tags _ H := ⟨H.regs, H.tab, H.fmem⟩
  rdWait _ H := ⟨H.regs, H.tab, H.fmem⟩
  reads _ H := ⟨H.regs, H.tab, H.fmem⟩
  rdAns _ H := ⟨H.regs, H.tab, H.fmem⟩
  land _ H := ⟨H.regs, H.tab, H.fmem⟩
  rdIn _ H := ⟨H.regs, H.tab, H.fmem⟩
  rdBus _ H := ⟨H.regs, H.tab, H.fmem⟩
  pfifo _ H := ⟨H.regs, H.tab, H.fmem⟩
  pcieOut _ H := ⟨H.regs, H.tab, H.fmem⟩
  msixOut _ H := ⟨H.regs, H.tab, H.fmem⟩
  ethOut _ H := ⟨H.regs, H.tab, H.fmem⟩
  lumeOut _ H := ⟨H.regs, H.tab, H.fmem⟩
  usbOut _ H := ⟨H.regs, H.tab, H.fmem⟩
  usbFly _ H := ⟨H.regs, H.tab, H.fmem⟩
  usbHeld _ H := ⟨H.regs, H.tab, H.fmem⟩
  udfOut _ H := ⟨H.regs, H.tab, H.fmem⟩
  claspAsk _ H := ⟨H.regs, H.tab, H.fmem⟩
  pdOut _ H := ⟨H.regs, H.tab, H.fmem⟩
  root _ H := ⟨H.regs, H.tab, H.fmem⟩
  ephemeral _ H := ⟨H.regs, H.tab, H.fmem⟩
  agree _ H := ⟨H.regs, H.tab, H.fmem⟩
  recs _ H := ⟨H.regs, H.tab, H.fmem⟩
  marks _ H := ⟨H.regs, H.tab, H.fmem⟩
  signers _ H := ⟨H.regs, H.tab, H.fmem⟩
  flash _ H := ⟨H.regs, H.tab, H.fmem⟩
  blk _ H := ⟨H.regs, H.tab, H.fmem⟩
  landed _ H := ⟨H.regs, H.tab, H.fmem⟩
  clear _ H := ⟨H.regs, H.tab, H.fmem⟩
  landing _ H := ⟨H.regs, H.tab, H.fmem⟩
  telOut _ H := ⟨H.regs, H.tab, H.fmem⟩
  mgpResp _ H := ⟨H.regs, H.tab, H.fmem⟩
  mgpRead _ H := ⟨H.regs, H.tab, H.fmem⟩
  paths _ H := ⟨H.regs, H.tab, H.fmem⟩
  settles _ H := ⟨H.regs, H.tab, H.fmem⟩
  stalled _ H := ⟨H.regs, H.tab, H.fmem⟩
theorem Hub.Bears.set_cfg_recs_marks_flash {m : Nat} (B : Hub.Bears m P) {h : Hub}
    {x_cfg : Tab Nat} {x_recs : Tab Bytes} {x_marks : Tab Nat} {x_flash : Tab Byte}
    (e_cfg : m.testBit 309 = true) (e_recs : m.testBit 363 = true) (e_marks : m.testBit 364 = true) (e_flash : m.testBit 366 = true)
    (H : P h) : P { h with cfg := x_cfg, recs := x_recs, marks := x_marks, flash := x_flash } :=
  B.flash (x := x_flash) e_flash (B.marks (x := x_marks) e_marks (B.recs (x := x_recs) e_recs (B.cfg (x := x_cfg) e_cfg H)))

theorem Hub.Bears.set_asks_changes_paths_settles_unrec {m : Nat} (B : Hub.Bears m P) {h : Hub}
    {x_asks : Tab Ask} {x_changes : Tab Change} {x_paths : Tab Path} {x_settles : List Settle} {x_unrec : List Unrec}
    (e_asks : m.testBit 323 = true) (e_changes : m.testBit 324 = true) (e_paths : m.testBit 374 = true) (e_settles : m.testBit 375 = true) (e_unrec : m.testBit 325 = true)
    (H : P h) : P { h with asks := x_asks, changes := x_changes, paths := x_paths, settles := x_settles, unrec := x_unrec } :=
  B.unrec (x := x_unrec) e_unrec (B.settles (x := x_settles) e_settles (B.paths (x := x_paths) e_paths (B.changes (x := x_changes) e_changes (B.asks (x := x_asks) e_asks H))))

theorem Hub.Bears.set_asks_changes_paths_settles_unrec_intents_nbrs_granted_ready {m : Nat} (B : Hub.Bears m P) {h : Hub}
    {x_asks : Tab Ask} {x_changes : Tab Change} {x_paths : Tab Path} {x_settles : List Settle} {x_unrec : List Unrec} {x_intents : List Intent} {x_nbrs : Tab Nbr} {x_granted : Tab (Nat × Nat)} {x_ready : Tab NodeInfo}
    (e_asks : m.testBit 323 = true) (e_changes : m.testBit 324 = true) (e_paths : m.testBit 374 = true) (e_settles : m.testBit 375 = true) (e_unrec : m.testBit 325 = true) (e_intents : m.testBit 326 = true) (e_nbrs : m.testBit 328 = true) (e_granted : m.testBit 329 = true) (e_ready : m.testBit 330 = true)
    (H : P h) : P { h with asks := x_asks, changes := x_changes, paths := x_paths, settles := x_settles, unrec := x_unrec, intents := x_intents, nbrs := x_nbrs, granted := x_granted, ready := x_ready } :=
  B.ready (x := x_ready) e_ready (B.granted (x := x_granted) e_granted (B.nbrs (x := x_nbrs) e_nbrs (B.intents (x := x_intents) e_intents (B.unrec (x := x_unrec) e_unrec (B.settles (x := x_settles) e_settles (B.paths (x := x_paths) e_paths (B.changes (x := x_changes) e_changes (B.asks (x := x_asks) e_asks H))))))))

theorem Hub.Bears.set_ctlOut_telOut {m : Nat} (B : Hub.Bears m P) {h : Hub}
    {x_ctlOut : List CtlMsg} {x_telOut : List (Nat × Bytes)}
    (e_ctlOut : m.testBit 315 = true) (e_telOut : m.testBit 371 = true)
    (H : P h) : P { h with ctlOut := x_ctlOut, telOut := x_telOut } :=
  B.telOut (x := x_telOut) e_telOut (B.ctlOut (x := x_ctlOut) e_ctlOut H)

theorem Hub.Bears.set_paths_intents {m : Nat} (B : Hub.Bears m P) {h : Hub}
    {x_paths : Tab Path} {x_intents : List Intent}
    (e_paths : m.testBit 374 = true) (e_intents : m.testBit 326 = true)
    (H : P h) : P { h with paths := x_paths, intents := x_intents } :=
  B.intents (x := x_intents) e_intents (B.paths (x := x_paths) e_paths H)

theorem Hub.Bears.set_asks_changes_paths_settles_unrec_intents {m : Nat} (B : Hub.Bears m P) {h : Hub}
    {x_asks : Tab Ask} {x_changes : Tab Change} {x_paths : Tab Path} {x_settles : List Settle} {x_unrec : List Unrec} {x_intents : List Intent}
    (e_asks : m.testBit 323 = true) (e_changes : m.testBit 324 = true) (e_paths : m.testBit 374 = true) (e_settles : m.testBit 375 = true) (e_unrec : m.testBit 325 = true) (e_intents : m.testBit 326 = true)
    (H : P h) : P { h with asks := x_asks, changes := x_changes, paths := x_paths, settles := x_settles, unrec := x_unrec, intents := x_intents } :=
  B.intents (x := x_intents) e_intents (B.unrec (x := x_unrec) e_unrec (B.settles (x := x_settles) e_settles (B.paths (x := x_paths) e_paths (B.changes (x := x_changes) e_changes (B.asks (x := x_asks) e_asks H)))))

theorem Hub.Bears.set_gaps_repairs_tileDone_tileOut {m : Nat} (B : Hub.Bears m P) {h : Hub}
    {x_gaps : Tab (List (Nat × Nat))} {x_repairs : Tab (List (Nat × Nat))} {x_tileDone : Tab (List Nat)} {x_tileOut : Tab (List TilePkt)}
    (e_gaps : m.testBit 337 = true) (e_repairs : m.testBit 338 = true) (e_tileDone : m.testBit 339 = true) (e_tileOut : m.testBit 340 = true)
    (H : P h) : P { h with gaps := x_gaps, repairs := x_repairs, tileDone := x_tileDone, tileOut := x_tileOut } :=
  B.tileOut (x := x_tileOut) e_tileOut (B.tileDone (x := x_tileDone) e_tileDone (B.repairs (x := x_repairs) e_repairs (B.gaps (x := x_gaps) e_gaps H)))

theorem Hub.Bears.set_opens_queues_pkts_egOut_asks_txbOut {m : Nat} (B : Hub.Bears m P) {h : Hub}
    {x_opens : Tab OpenPk} {x_queues : Tab (List Nat)} {x_pkts : Tab Pkt} {x_egOut : Tab (List OutCell)} {x_asks : Tab Ask} {x_txbOut : List TxbMsg}
    (e_opens : m.testBit 319 = true) (e_queues : m.testBit 320 = true) (e_pkts : m.testBit 317 = true) (e_egOut : m.testBit 321 = true) (e_asks : m.testBit 323 = true) (e_txbOut : m.testBit 341 = true)
    (H : P h) : P { h with opens := x_opens, queues := x_queues, pkts := x_pkts, egOut := x_egOut, asks := x_asks, txbOut := x_txbOut } :=
  B.txbOut (x := x_txbOut) e_txbOut (B.asks (x := x_asks) e_asks (B.egOut (x := x_egOut) e_egOut (B.pkts (x := x_pkts) e_pkts (B.queues (x := x_queues) e_queues (B.opens (x := x_opens) e_opens H)))))

theorem Hub.Bears.set_stalled_usbOut {m : Nat} (B : Hub.Bears m P) {h : Hub}
    {x_stalled : Tab (List Cell)} {x_usbOut : List (Nat × UsbPkt)}
    (e_stalled : m.testBit 376 = true) (e_usbOut : m.testBit 354 = true)
    (H : P h) : P { h with stalled := x_stalled, usbOut := x_usbOut } :=
  B.usbOut (x := x_usbOut) e_usbOut (B.stalled (x := x_stalled) e_stalled H)

theorem Hub.Bears.set_tabLatch_latch64_lkQueue_ctlOut_telOut {m : Nat} (B : Hub.Bears m P) {h : Hub}
    {x_tabLatch : Tab TabLatch} {x_latch64 : Tab Latch64} {x_lkQueue : List LkRec} {x_ctlOut : List CtlMsg} {x_telOut : List (Nat × Bytes)}
    (e_tabLatch : m.testBit 306 = true) (e_latch64 : m.testBit 305 = true) (e_lkQueue : m.testBit 313 = true) (e_ctlOut : m.testBit 315 = true) (e_telOut : m.testBit 371 = true)
    (H : P h) : P { h with tabLatch := x_tabLatch, latch64 := x_latch64, lkQueue := x_lkQueue, ctlOut := x_ctlOut, telOut := x_telOut } :=
  B.telOut (x := x_telOut) e_telOut (B.ctlOut (x := x_ctlOut) e_ctlOut (B.lkQueue (x := x_lkQueue) e_lkQueue (B.latch64 (x := x_latch64) e_latch64 (B.tabLatch (x := x_tabLatch) e_tabLatch H))))

theorem Hub.Bears.set_granted_ready_paths {m : Nat} (B : Hub.Bears m P) {h : Hub}
    {x_granted : Tab (Nat × Nat)} {x_ready : Tab NodeInfo} {x_paths : Tab Path}
    (e_granted : m.testBit 329 = true) (e_ready : m.testBit 330 = true) (e_paths : m.testBit 374 = true)
    (H : P h) : P { h with granted := x_granted, ready := x_ready, paths := x_paths } :=
  B.paths (x := x_paths) e_paths (B.ready (x := x_ready) e_ready (B.granted (x := x_granted) e_granted H))

theorem Hub.Bears.set_asks_changes {m : Nat} (B : Hub.Bears m P) {h : Hub}
    {x_asks : Tab Ask} {x_changes : Tab Change}
    (e_asks : m.testBit 323 = true) (e_changes : m.testBit 324 = true)
    (H : P h) : P { h with asks := x_asks, changes := x_changes } :=
  B.changes (x := x_changes) e_changes (B.asks (x := x_asks) e_asks H)

theorem Hub.Bears.set_asks_changes_unrec_intents_nbrs_granted_ready {m : Nat} (B : Hub.Bears m P) {h : Hub}
    {x_asks : Tab Ask} {x_changes : Tab Change} {x_unrec : List Unrec} {x_intents : List Intent} {x_nbrs : Tab Nbr} {x_granted : Tab (Nat × Nat)} {x_ready : Tab NodeInfo}
    (e_asks : m.testBit 323 = true) (e_changes : m.testBit 324 = true) (e_unrec : m.testBit 325 = true) (e_intents : m.testBit 326 = true) (e_nbrs : m.testBit 328 = true) (e_granted : m.testBit 329 = true) (e_ready : m.testBit 330 = true)
    (H : P h) : P { h with asks := x_asks, changes := x_changes, unrec := x_unrec, intents := x_intents, nbrs := x_nbrs, granted := x_granted, ready := x_ready } :=
  B.ready (x := x_ready) e_ready (B.granted (x := x_granted) e_granted (B.nbrs (x := x_nbrs) e_nbrs (B.intents (x := x_intents) e_intents (B.unrec (x := x_unrec) e_unrec (B.changes (x := x_changes) e_changes (B.asks (x := x_asks) e_asks H))))))

theorem Hub.Bears.set_blk_landed_clear_landing {m : Nat} (B : Hub.Bears m P) {h : Hub}
    {x_blk : List Nat} {x_landed : Tab Nat} {x_clear : Bytes} {x_landing : List Nat}
    (e_blk : m.testBit 367 = true) (e_landed : m.testBit 368 = true) (e_clear : m.testBit 369 = true) (e_landing : m.testBit 370 = true)
    (H : P h) : P { h with blk := x_blk, landed := x_landed, clear := x_clear, landing := x_landing } :=
  B.landing (x := x_landing) e_landing (B.clear (x := x_clear) e_clear (B.landed (x := x_landed) e_landed (B.blk (x := x_blk) e_blk H)))

theorem Hub.Bears.set_cfg_recs_marks {m : Nat} (B : Hub.Bears m P) {h : Hub}
    {x_cfg : Tab Nat} {x_recs : Tab Bytes} {x_marks : Tab Nat}
    (e_cfg : m.testBit 309 = true) (e_recs : m.testBit 363 = true) (e_marks : m.testBit 364 = true)
    (H : P h) : P { h with cfg := x_cfg, recs := x_recs, marks := x_marks } :=
  B.marks (x := x_marks) e_marks (B.recs (x := x_recs) e_recs (B.cfg (x := x_cfg) e_cfg H))

theorem Hub.Bears.set_egOut_lmcQ_replay_spanRx_spanTx_capRx {m : Nat} (B : Hub.Bears m P) {h : Hub}
    {x_egOut : Tab (List OutCell)} {x_lmcQ : Tab (List Lmc)} {x_replay : Tab (List RFrame)} {x_spanRx : Tab (List RFrame)} {x_spanTx : Tab (Bytes × Bytes)} {x_capRx : Tab Bytes}
    (e_egOut : m.testBit 321 = true) (e_lmcQ : m.testBit 327 = true) (e_replay : m.testBit 331 = true) (e_spanRx : m.testBit 332 = true) (e_spanTx : m.testBit 333 = true) (e_capRx : m.testBit 335 = true)
    (H : P h) : P { h with egOut := x_egOut, lmcQ := x_lmcQ, replay := x_replay, spanRx := x_spanRx, spanTx := x_spanTx, capRx := x_capRx } :=
  B.capRx (x := x_capRx) e_capRx (B.spanTx (x := x_spanTx) e_spanTx (B.spanRx (x := x_spanRx) e_spanRx (B.replay (x := x_replay) e_replay (B.lmcQ (x := x_lmcQ) e_lmcQ (B.egOut (x := x_egOut) e_egOut H)))))

theorem Hub.Bears.set_ephemeral_agree {m : Nat} (B : Hub.Bears m P) {h : Hub}
    {x_ephemeral : Bytes} {x_agree : Bytes}
    (e_ephemeral : m.testBit 361 = true) (e_agree : m.testBit 362 = true)
    (H : P h) : P { h with ephemeral := x_ephemeral, agree := x_agree } :=
  B.agree (x := x_agree) e_agree (B.ephemeral (x := x_ephemeral) e_ephemeral H)

theorem Hub.Bears.set_freeIx_ephemeral {m : Nat} (B : Hub.Bears m P) {h : Hub}
    {x_freeIx : Nat} {x_ephemeral : Bytes}
    (e_freeIx : m.testBit 311 = true) (e_ephemeral : m.testBit 361 = true)
    (H : P h) : P { h with freeIx := x_freeIx, ephemeral := x_ephemeral } :=
  B.ephemeral (x := x_ephemeral) e_ephemeral (B.freeIx (x := x_freeIx) e_freeIx H)

theorem Hub.Bears.set_gaps_repairs_tileDone {m : Nat} (B : Hub.Bears m P) {h : Hub}
    {x_gaps : Tab (List (Nat × Nat))} {x_repairs : Tab (List (Nat × Nat))} {x_tileDone : Tab (List Nat)}
    (e_gaps : m.testBit 337 = true) (e_repairs : m.testBit 338 = true) (e_tileDone : m.testBit 339 = true)
    (H : P h) : P { h with gaps := x_gaps, repairs := x_repairs, tileDone := x_tileDone } :=
  B.tileDone (x := x_tileDone) e_tileDone (B.repairs (x := x_repairs) e_repairs (B.gaps (x := x_gaps) e_gaps H))

theorem Hub.Bears.set_granted_ready {m : Nat} (B : Hub.Bears m P) {h : Hub}
    {x_granted : Tab (Nat × Nat)} {x_ready : Tab NodeInfo}
    (e_granted : m.testBit 329 = true) (e_ready : m.testBit 330 = true)
    (H : P h) : P { h with granted := x_granted, ready := x_ready } :=
  B.ready (x := x_ready) e_ready (B.granted (x := x_granted) e_granted H)

theorem Hub.Bears.set_keys_ephemeral_agree {m : Nat} (B : Hub.Bears m P) {h : Hub}
    {x_keys : Tab Bytes} {x_ephemeral : Bytes} {x_agree : Bytes}
    (e_keys : m.testBit 336 = true) (e_ephemeral : m.testBit 361 = true) (e_agree : m.testBit 362 = true)
    (H : P h) : P { h with keys := x_keys, ephemeral := x_ephemeral, agree := x_agree } :=
  B.agree (x := x_agree) e_agree (B.ephemeral (x := x_ephemeral) e_ephemeral (B.keys (x := x_keys) e_keys H))

theorem Hub.Bears.set_latch64_tabLatch_lkQueue {m : Nat} (B : Hub.Bears m P) {h : Hub}
    {x_latch64 : Tab Latch64} {x_tabLatch : Tab TabLatch} {x_lkQueue : List LkRec}
    (e_latch64 : m.testBit 305 = true) (e_tabLatch : m.testBit 306 = true) (e_lkQueue : m.testBit 313 = true)
    (H : P h) : P { h with latch64 := x_latch64, tabLatch := x_tabLatch, lkQueue := x_lkQueue } :=
  B.lkQueue (x := x_lkQueue) e_lkQueue (B.tabLatch (x := x_tabLatch) e_tabLatch (B.latch64 (x := x_latch64) e_latch64 H))

theorem Hub.Bears.set_lmcQ_replay_spanRx_spanTx_capRx {m : Nat} (B : Hub.Bears m P) {h : Hub}
    {x_lmcQ : Tab (List Lmc)} {x_replay : Tab (List RFrame)} {x_spanRx : Tab (List RFrame)} {x_spanTx : Tab (Bytes × Bytes)} {x_capRx : Tab Bytes}
    (e_lmcQ : m.testBit 327 = true) (e_replay : m.testBit 331 = true) (e_spanRx : m.testBit 332 = true) (e_spanTx : m.testBit 333 = true) (e_capRx : m.testBit 335 = true)
    (H : P h) : P { h with lmcQ := x_lmcQ, replay := x_replay, spanRx := x_spanRx, spanTx := x_spanTx, capRx := x_capRx } :=
  B.capRx (x := x_capRx) e_capRx (B.spanTx (x := x_spanTx) e_spanTx (B.spanRx (x := x_spanRx) e_spanRx (B.replay (x := x_replay) e_replay (B.lmcQ (x := x_lmcQ) e_lmcQ H))))

theorem Hub.Bears.set_lmcQ_replay_spanTx {m : Nat} (B : Hub.Bears m P) {h : Hub}
    {x_lmcQ : Tab (List Lmc)} {x_replay : Tab (List RFrame)} {x_spanTx : Tab (Bytes × Bytes)}
    (e_lmcQ : m.testBit 327 = true) (e_replay : m.testBit 331 = true) (e_spanTx : m.testBit 333 = true)
    (H : P h) : P { h with lmcQ := x_lmcQ, replay := x_replay, spanTx := x_spanTx } :=
  B.spanTx (x := x_spanTx) e_spanTx (B.replay (x := x_replay) e_replay (B.lmcQ (x := x_lmcQ) e_lmcQ H))

theorem Hub.Bears.set_mgpResp_mgpRead {m : Nat} (B : Hub.Bears m P) {h : Hub}
    {x_mgpResp : Bytes} {x_mgpRead : Bytes}
    (e_mgpResp : m.testBit 372 = true) (e_mgpRead : m.testBit 373 = true)
    (H : P h) : P { h with mgpResp := x_mgpResp, mgpRead := x_mgpRead } :=
  B.mgpRead (x := x_mgpRead) e_mgpRead (B.mgpResp (x := x_mgpResp) e_mgpResp H)

theorem Hub.Bears.set_pkts_opens_queues_egOut {m : Nat} (B : Hub.Bears m P) {h : Hub}
    {x_pkts : Tab Pkt} {x_opens : Tab OpenPk} {x_queues : Tab (List Nat)} {x_egOut : Tab (List OutCell)}
    (e_pkts : m.testBit 317 = true) (e_opens : m.testBit 319 = true) (e_queues : m.testBit 320 = true) (e_egOut : m.testBit 321 = true)
    (H : P h) : P { h with pkts := x_pkts, opens := x_opens, queues := x_queues, egOut := x_egOut } :=
  B.egOut (x := x_egOut) e_egOut (B.queues (x := x_queues) e_queues (B.opens (x := x_opens) e_opens (B.pkts (x := x_pkts) e_pkts H)))

theorem Hub.Bears.set_pkts_opens_queues_egOut_asks {m : Nat} (B : Hub.Bears m P) {h : Hub}
    {x_pkts : Tab Pkt} {x_opens : Tab OpenPk} {x_queues : Tab (List Nat)} {x_egOut : Tab (List OutCell)} {x_asks : Tab Ask}
    (e_pkts : m.testBit 317 = true) (e_opens : m.testBit 319 = true) (e_queues : m.testBit 320 = true) (e_egOut : m.testBit 321 = true) (e_asks : m.testBit 323 = true)
    (H : P h) : P { h with pkts := x_pkts, opens := x_opens, queues := x_queues, egOut := x_egOut, asks := x_asks } :=
  B.asks (x := x_asks) e_asks (B.egOut (x := x_egOut) e_egOut (B.queues (x := x_queues) e_queues (B.opens (x := x_opens) e_opens (B.pkts (x := x_pkts) e_pkts H))))

theorem Hub.Bears.set_rdBus_pcieOut {m : Nat} (B : Hub.Bears m P) {h : Hub}
    {x_rdBus : List TxbIn} {x_pcieOut : List PcieReq}
    (e_rdBus : m.testBit 348 = true) (e_pcieOut : m.testBit 350 = true)
    (H : P h) : P { h with rdBus := x_rdBus, pcieOut := x_pcieOut } :=
  B.pcieOut (x := x_pcieOut) e_pcieOut (B.rdBus (x := x_rdBus) e_rdBus H)

theorem Hub.Bears.set_rdWait_reads {m : Nat} (B : Hub.Bears m P) {h : Hub}
    {x_rdWait : List TxbPiece} {x_reads : Tab TxbRead}
    (e_rdWait : m.testBit 343 = true) (e_reads : m.testBit 344 = true)
    (H : P h) : P { h with rdWait := x_rdWait, reads := x_reads } :=
  B.reads (x := x_reads) e_reads (B.rdWait (x := x_rdWait) e_rdWait H)

theorem Hub.Bears.set_recs_marks {m : Nat} (B : Hub.Bears m P) {h : Hub}
    {x_recs : Tab Bytes} {x_marks : Tab Nat}
    (e_recs : m.testBit 363 = true) (e_marks : m.testBit 364 = true)
    (H : P h) : P { h with recs := x_recs, marks := x_marks } :=
  B.marks (x := x_marks) e_marks (B.recs (x := x_recs) e_recs H)

theorem Hub.Bears.set_repairs_tileOut {m : Nat} (B : Hub.Bears m P) {h : Hub}
    {x_repairs : Tab (List (Nat × Nat))} {x_tileOut : Tab (List TilePkt)}
    (e_repairs : m.testBit 338 = true) (e_tileOut : m.testBit 340 = true)
    (H : P h) : P { h with repairs := x_repairs, tileOut := x_tileOut } :=
  B.tileOut (x := x_tileOut) e_tileOut (B.repairs (x := x_repairs) e_repairs H)

theorem Hub.Bears.set_shadow_staging {m : Nat} (B : Hub.Bears m P) {h : Hub}
    {x_shadow : Tab Nat} {x_staging : Tab Staging}
    (e_shadow : m.testBit 301 = true) (e_staging : m.testBit 304 = true)
    (H : P h) : P { h with shadow := x_shadow, staging := x_staging } :=
  B.staging (x := x_staging) e_staging (B.shadow (x := x_shadow) e_shadow H)

theorem Hub.Bears.set_tags_rdWait_reads {m : Nat} (B : Hub.Bears m P) {h : Hub}
    {x_tags : Tab TxbTag} {x_rdWait : List TxbPiece} {x_reads : Tab TxbRead}
    (e_tags : m.testBit 342 = true) (e_rdWait : m.testBit 343 = true) (e_reads : m.testBit 344 = true)
    (H : P h) : P { h with tags := x_tags, rdWait := x_rdWait, reads := x_reads } :=
  B.reads (x := x_reads) e_reads (B.rdWait (x := x_rdWait) e_rdWait (B.tags (x := x_tags) e_tags H))

theorem Hub.Bears.set_tags_rdWait_reads_land_rdIn_rdBus_pfifo {m : Nat} (B : Hub.Bears m P) {h : Hub}
    {x_tags : Tab TxbTag} {x_rdWait : List TxbPiece} {x_reads : Tab TxbRead} {x_land : List TxbIn} {x_rdIn : List TxbIn} {x_rdBus : List TxbIn} {x_pfifo : List TxbErr}
    (e_tags : m.testBit 342 = true) (e_rdWait : m.testBit 343 = true) (e_reads : m.testBit 344 = true) (e_land : m.testBit 346 = true) (e_rdIn : m.testBit 347 = true) (e_rdBus : m.testBit 348 = true) (e_pfifo : m.testBit 349 = true)
    (H : P h) : P { h with tags := x_tags, rdWait := x_rdWait, reads := x_reads, land := x_land, rdIn := x_rdIn, rdBus := x_rdBus, pfifo := x_pfifo } :=
  B.pfifo (x := x_pfifo) e_pfifo (B.rdBus (x := x_rdBus) e_rdBus (B.rdIn (x := x_rdIn) e_rdIn (B.land (x := x_land) e_land (B.reads (x := x_reads) e_reads (B.rdWait (x := x_rdWait) e_rdWait (B.tags (x := x_tags) e_tags H))))))

theorem Hub.Bears.set_usbFly_usbHeld {m : Nat} (B : Hub.Bears m P) {h : Hub}
    {x_usbFly : List UsbFlight} {x_usbHeld : Tab UsbHeld}
    (e_usbFly : m.testBit 355 = true) (e_usbHeld : m.testBit 356 = true)
    (H : P h) : P { h with usbFly := x_usbFly, usbHeld := x_usbHeld } :=
  B.usbHeld (x := x_usbHeld) e_usbHeld (B.usbFly (x := x_usbFly) e_usbFly H)


/-- Agreement with the node `g` outside the kinds of `m`. -/
structure Hub.Same (m : Nat) (g h : Hub) : Prop where
  rd : m.testBit 255 = false → ∀ (F : Fld) (i b : Nat), m.testBit F.kind = false → h.rd F i b = g.rd F i b
  shadow : m.testBit 301 = false → h.shadow = g.shadow
  ret : m.testBit 302 = false → h.ret = g.ret
  tab : m.testBit 303 = false → h.tab = g.tab
  staging : m.testBit 304 = false → h.staging = g.staging
  latch64 : m.testBit 305 = false → h.latch64 = g.latch64
  tabLatch : m.testBit 306 = false → h.tabLatch = g.tabLatch
  resp : m.testBit 307 = false → h.resp = g.resp
  fmem : m.testBit 308 = false → h.fmem = g.fmem
  cfg : m.testBit 309 = false → h.cfg = g.cfg
  cyc : m.testBit 310 = false → h.cyc = g.cyc
  freeIx : m.testBit 311 = false → h.freeIx = g.freeIx
  filWin : m.testBit 312 = false → h.filWin = g.filWin
  lkQueue : m.testBit 313 = false → h.lkQueue = g.lkQueue
  lkRing : m.testBit 314 = false → h.lkRing = g.lkRing
  ctlOut : m.testBit 315 = false → h.ctlOut = g.ctlOut
  meters : m.testBit 316 = false → h.meters = g.meters
  pkts : m.testBit 317 = false → h.pkts = g.pkts
  pktNext : m.testBit 318 = false → h.pktNext = g.pktNext
  opens : m.testBit 319 = false → h.opens = g.opens
  queues : m.testBit 320 = false → h.queues = g.queues
  egOut : m.testBit 321 = false → h.egOut = g.egOut
  shapers : m.testBit 322 = false → h.shapers = g.shapers
  asks : m.testBit 323 = false → h.asks = g.asks
  changes : m.testBit 324 = false → h.changes = g.changes
  unrec : m.testBit 325 = false → h.unrec = g.unrec
  intents : m.testBit 326 = false → h.intents = g.intents
  lmcQ : m.testBit 327 = false → h.lmcQ = g.lmcQ
  nbrs : m.testBit 328 = false → h.nbrs = g.nbrs
  granted : m.testBit 329 = false → h.granted = g.granted
  ready : m.testBit 330 = false → h.ready = g.ready
  replay : m.testBit 331 = false → h.replay = g.replay
  spanRx : m.testBit 332 = false → h.spanRx = g.spanRx
  spanTx : m.testBit 333 = false → h.spanTx = g.spanTx
  wire : m.testBit 334 = false → h.wire = g.wire
  capRx : m.testBit 335 = false → h.capRx = g.capRx
  keys : m.testBit 336 = false → h.keys = g.keys
  gaps : m.testBit 337 = false → h.gaps = g.gaps
  repairs : m.testBit 338 = false → h.repairs = g.repairs
  tileDone : m.testBit 339 = false → h.tileDone = g.tileDone
  tileOut : m.testBit 340 = false → h.tileOut = g.tileOut
  txbOut : m.testBit 341 = false → h.txbOut = g.txbOut
  tags : m.testBit 342 = false → h.tags = g.tags
  rdWait : m.testBit 343 = false → h.rdWait = g.rdWait
  reads : m.testBit 344 = false → h.reads = g.reads
  rdAns : m.testBit 345 = false → h.rdAns = g.rdAns
  land : m.testBit 346 = false → h.land = g.land
  rdIn : m.testBit 347 = false → h.rdIn = g.rdIn
  rdBus : m.testBit 348 = false → h.rdBus = g.rdBus
  pfifo : m.testBit 349 = false → h.pfifo = g.pfifo
  pcieOut : m.testBit 350 = false → h.pcieOut = g.pcieOut
  msixOut : m.testBit 351 = false → h.msixOut = g.msixOut
  ethOut : m.testBit 352 = false → h.ethOut = g.ethOut
  lumeOut : m.testBit 353 = false → h.lumeOut = g.lumeOut
  usbOut : m.testBit 354 = false → h.usbOut = g.usbOut
  usbFly : m.testBit 355 = false → h.usbFly = g.usbFly
  usbHeld : m.testBit 356 = false → h.usbHeld = g.usbHeld
  udfOut : m.testBit 357 = false → h.udfOut = g.udfOut
  claspAsk : m.testBit 358 = false → h.claspAsk = g.claspAsk
  pdOut : m.testBit 359 = false → h.pdOut = g.pdOut
  root : m.testBit 360 = false → h.root = g.root
  ephemeral : m.testBit 361 = false → h.ephemeral = g.ephemeral
  agree : m.testBit 362 = false → h.agree = g.agree
  recs : m.testBit 363 = false → h.recs = g.recs
  marks : m.testBit 364 = false → h.marks = g.marks
  signers : m.testBit 365 = false → h.signers = g.signers
  flash : m.testBit 366 = false → h.flash = g.flash
  blk : m.testBit 367 = false → h.blk = g.blk
  landed : m.testBit 368 = false → h.landed = g.landed
  clear : m.testBit 369 = false → h.clear = g.clear
  landing : m.testBit 370 = false → h.landing = g.landing
  telOut : m.testBit 371 = false → h.telOut = g.telOut
  mgpResp : m.testBit 372 = false → h.mgpResp = g.mgpResp
  mgpRead : m.testBit 373 = false → h.mgpRead = g.mgpRead
  paths : m.testBit 374 = false → h.paths = g.paths
  settles : m.testBit 375 = false → h.settles = g.settles
  stalled : m.testBit 376 = false → h.stalled = g.stalled

theorem Hub.Same.refl (m : Nat) (g : Hub) : Hub.Same m g g where
  rd _ _ _ _ _ := rfl
  shadow _ := rfl
  ret _ := rfl
  tab _ := rfl
  staging _ := rfl
  latch64 _ := rfl
  tabLatch _ := rfl
  resp _ := rfl
  fmem _ := rfl
  cfg _ := rfl
  cyc _ := rfl
  freeIx _ := rfl
  filWin _ := rfl
  lkQueue _ := rfl
  lkRing _ := rfl
  ctlOut _ := rfl
  meters _ := rfl
  pkts _ := rfl
  pktNext _ := rfl
  opens _ := rfl
  queues _ := rfl
  egOut _ := rfl
  shapers _ := rfl
  asks _ := rfl
  changes _ := rfl
  unrec _ := rfl
  intents _ := rfl
  lmcQ _ := rfl
  nbrs _ := rfl
  granted _ := rfl
  ready _ := rfl
  replay _ := rfl
  spanRx _ := rfl
  spanTx _ := rfl
  wire _ := rfl
  capRx _ := rfl
  keys _ := rfl
  gaps _ := rfl
  repairs _ := rfl
  tileDone _ := rfl
  tileOut _ := rfl
  txbOut _ := rfl
  tags _ := rfl
  rdWait _ := rfl
  reads _ := rfl
  rdAns _ := rfl
  land _ := rfl
  rdIn _ := rfl
  rdBus _ := rfl
  pfifo _ := rfl
  pcieOut _ := rfl
  msixOut _ := rfl
  ethOut _ := rfl
  lumeOut _ := rfl
  usbOut _ := rfl
  usbFly _ := rfl
  usbHeld _ := rfl
  udfOut _ := rfl
  claspAsk _ := rfl
  pdOut _ := rfl
  root _ := rfl
  ephemeral _ := rfl
  agree _ := rfl
  recs _ := rfl
  marks _ := rfl
  signers _ := rfl
  flash _ := rfl
  blk _ := rfl
  landed _ := rfl
  clear _ := rfl
  landing _ := rfl
  telOut _ := rfl
  mgpResp _ := rfl
  mgpRead _ := rfl
  paths _ := rfl
  settles _ := rfl
  stalled _ := rfl

theorem rd_wr_key {h : Hub} {F G : Fld} {v i b j c : Nat} (e : F.key i b ≠ G.key j c) :
    (h.wr F v i b).rd G j c = h.rd G j c := by
  unfold Hub.rd Hub.wr
  exact Tab.get_put_ne _ _ e _ _

theorem off_of_on {m k : Nat} (h : m.testBit k = true) (e : m.testBit k = false) : False := by
  rw [h] at e; cases e

/-- Agreement outside `m`, unless `m` holds everything, bears every change of `m`. -/
theorem bears_same (m : Nat) (g : Hub) : Hub.Bears m (fun h => m.testBit 511 = false → Hub.Same m g h) where
  wr {h F v i b} k H z :=
    { H z with
      rd := fun e G j c n => by
        rw [rd_wr_key]
        · exact (H z).rd e G j c n
        · apply key_ne_of_kind
          intro q
          rw [q] at k
          exact off_of_on k n }
  regs k H f z := { H z with rd := fun e => (off_of_on k e).elim }
  tab k H f z := { H z with tab := fun e => (off_of_on k e).elim, rd := (H z).rd }
  fmem k H f z := { H z with fmem := fun e => (off_of_on k e).elim, rd := (H z).rd }
  all k H f z := (off_of_on k z).elim
  shadow k H z := { H z with shadow := fun e => (off_of_on k e).elim, rd := (H z).rd }
  ret k H z := { H z with ret := fun e => (off_of_on k e).elim, rd := (H z).rd }
  staging k H z := { H z with staging := fun e => (off_of_on k e).elim, rd := (H z).rd }
  latch64 k H z := { H z with latch64 := fun e => (off_of_on k e).elim, rd := (H z).rd }
  tabLatch k H z := { H z with tabLatch := fun e => (off_of_on k e).elim, rd := (H z).rd }
  resp k H z := { H z with resp := fun e => (off_of_on k e).elim, rd := (H z).rd }
  cfg k H z := { H z with cfg := fun e => (off_of_on k e).elim, rd := (H z).rd }
  cyc k H z := { H z with cyc := fun e => (off_of_on k e).elim, rd := (H z).rd }
  freeIx k H z := { H z with freeIx := fun e => (off_of_on k e).elim, rd := (H z).rd }
  filWin k H z := { H z with filWin := fun e => (off_of_on k e).elim, rd := (H z).rd }
  lkQueue k H z := { H z with lkQueue := fun e => (off_of_on k e).elim, rd := (H z).rd }
  lkRing k H z := { H z with lkRing := fun e => (off_of_on k e).elim, rd := (H z).rd }
  ctlOut k H z := { H z with ctlOut := fun e => (off_of_on k e).elim, rd := (H z).rd }
  meters k H z := { H z with meters := fun e => (off_of_on k e).elim, rd := (H z).rd }
  pkts k H z := { H z with pkts := fun e => (off_of_on k e).elim, rd := (H z).rd }
  pktNext k H z := { H z with pktNext := fun e => (off_of_on k e).elim, rd := (H z).rd }
  opens k H z := { H z with opens := fun e => (off_of_on k e).elim, rd := (H z).rd }
  queues k H z := { H z with queues := fun e => (off_of_on k e).elim, rd := (H z).rd }
  egOut k H z := { H z with egOut := fun e => (off_of_on k e).elim, rd := (H z).rd }
  shapers k H z := { H z with shapers := fun e => (off_of_on k e).elim, rd := (H z).rd }
  asks k H z := { H z with asks := fun e => (off_of_on k e).elim, rd := (H z).rd }
  changes k H z := { H z with changes := fun e => (off_of_on k e).elim, rd := (H z).rd }
  unrec k H z := { H z with unrec := fun e => (off_of_on k e).elim, rd := (H z).rd }
  intents k H z := { H z with intents := fun e => (off_of_on k e).elim, rd := (H z).rd }
  lmcQ k H z := { H z with lmcQ := fun e => (off_of_on k e).elim, rd := (H z).rd }
  nbrs k H z := { H z with nbrs := fun e => (off_of_on k e).elim, rd := (H z).rd }
  granted k H z := { H z with granted := fun e => (off_of_on k e).elim, rd := (H z).rd }
  ready k H z := { H z with ready := fun e => (off_of_on k e).elim, rd := (H z).rd }
  replay k H z := { H z with replay := fun e => (off_of_on k e).elim, rd := (H z).rd }
  spanRx k H z := { H z with spanRx := fun e => (off_of_on k e).elim, rd := (H z).rd }
  spanTx k H z := { H z with spanTx := fun e => (off_of_on k e).elim, rd := (H z).rd }
  wire k H z := { H z with wire := fun e => (off_of_on k e).elim, rd := (H z).rd }
  capRx k H z := { H z with capRx := fun e => (off_of_on k e).elim, rd := (H z).rd }
  keys k H z := { H z with keys := fun e => (off_of_on k e).elim, rd := (H z).rd }
  gaps k H z := { H z with gaps := fun e => (off_of_on k e).elim, rd := (H z).rd }
  repairs k H z := { H z with repairs := fun e => (off_of_on k e).elim, rd := (H z).rd }
  tileDone k H z := { H z with tileDone := fun e => (off_of_on k e).elim, rd := (H z).rd }
  tileOut k H z := { H z with tileOut := fun e => (off_of_on k e).elim, rd := (H z).rd }
  txbOut k H z := { H z with txbOut := fun e => (off_of_on k e).elim, rd := (H z).rd }
  tags k H z := { H z with tags := fun e => (off_of_on k e).elim, rd := (H z).rd }
  rdWait k H z := { H z with rdWait := fun e => (off_of_on k e).elim, rd := (H z).rd }
  reads k H z := { H z with reads := fun e => (off_of_on k e).elim, rd := (H z).rd }
  rdAns k H z := { H z with rdAns := fun e => (off_of_on k e).elim, rd := (H z).rd }
  land k H z := { H z with land := fun e => (off_of_on k e).elim, rd := (H z).rd }
  rdIn k H z := { H z with rdIn := fun e => (off_of_on k e).elim, rd := (H z).rd }
  rdBus k H z := { H z with rdBus := fun e => (off_of_on k e).elim, rd := (H z).rd }
  pfifo k H z := { H z with pfifo := fun e => (off_of_on k e).elim, rd := (H z).rd }
  pcieOut k H z := { H z with pcieOut := fun e => (off_of_on k e).elim, rd := (H z).rd }
  msixOut k H z := { H z with msixOut := fun e => (off_of_on k e).elim, rd := (H z).rd }
  ethOut k H z := { H z with ethOut := fun e => (off_of_on k e).elim, rd := (H z).rd }
  lumeOut k H z := { H z with lumeOut := fun e => (off_of_on k e).elim, rd := (H z).rd }
  usbOut k H z := { H z with usbOut := fun e => (off_of_on k e).elim, rd := (H z).rd }
  usbFly k H z := { H z with usbFly := fun e => (off_of_on k e).elim, rd := (H z).rd }
  usbHeld k H z := { H z with usbHeld := fun e => (off_of_on k e).elim, rd := (H z).rd }
  udfOut k H z := { H z with udfOut := fun e => (off_of_on k e).elim, rd := (H z).rd }
  claspAsk k H z := { H z with claspAsk := fun e => (off_of_on k e).elim, rd := (H z).rd }
  pdOut k H z := { H z with pdOut := fun e => (off_of_on k e).elim, rd := (H z).rd }
  root k H z := { H z with root := fun e => (off_of_on k e).elim, rd := (H z).rd }
  ephemeral k H z := { H z with ephemeral := fun e => (off_of_on k e).elim, rd := (H z).rd }
  agree k H z := { H z with agree := fun e => (off_of_on k e).elim, rd := (H z).rd }
  recs k H z := { H z with recs := fun e => (off_of_on k e).elim, rd := (H z).rd }
  marks k H z := { H z with marks := fun e => (off_of_on k e).elim, rd := (H z).rd }
  signers k H z := { H z with signers := fun e => (off_of_on k e).elim, rd := (H z).rd }
  flash k H z := { H z with flash := fun e => (off_of_on k e).elim, rd := (H z).rd }
  blk k H z := { H z with blk := fun e => (off_of_on k e).elim, rd := (H z).rd }
  landed k H z := { H z with landed := fun e => (off_of_on k e).elim, rd := (H z).rd }
  clear k H z := { H z with clear := fun e => (off_of_on k e).elim, rd := (H z).rd }
  landing k H z := { H z with landing := fun e => (off_of_on k e).elim, rd := (H z).rd }
  telOut k H z := { H z with telOut := fun e => (off_of_on k e).elim, rd := (H z).rd }
  mgpResp k H z := { H z with mgpResp := fun e => (off_of_on k e).elim, rd := (H z).rd }
  mgpRead k H z := { H z with mgpRead := fun e => (off_of_on k e).elim, rd := (H z).rd }
  paths k H z := { H z with paths := fun e => (off_of_on k e).elim, rd := (H z).rd }
  settles k H z := { H z with settles := fun e => (off_of_on k e).elim, rd := (H z).rd }
  stalled k H z := { H z with stalled := fun e => (off_of_on k e).elim, rd := (H z).rd }

/-- The kinds of a list as the bits of a number. -/
def kindMask (ks : List Nat) : Nat := ks.foldr (fun k m => m ||| 2 ^ k) 0

theorem testBit_kindMask (ks : List Nat) (k : Nat) : (kindMask ks).testBit k = decide (k ∈ ks) := by
  induction ks with
  | nil => simp [kindMask]
  | cons a ks ih =>
    have e : kindMask (a :: ks) = kindMask ks ||| 2 ^ a := rfl
    rw [e, Nat.testBit_or, ih, Nat.testBit_two_pow]
    simp only [List.mem_cons, Bool.decide_or, eq_comm, Bool.or_comm]

theorem Hub.Same.sameBut {ks : List Nat} {g h : Hub} (H : (kindMask ks).testBit 511 = false → Hub.Same (kindMask ks) g h) :
    Hub.SameBut ks g h := by
  intro z
  have q : ∀ k, k ∉ ks → (kindMask ks).testBit k = false := fun k n => by
    rw [testBit_kindMask]; exact decide_eq_false n
  have S := H (q _ z)
  exact ⟨fun e F i b n => S.rd (q _ e) F i b (q _ n), fun e => S.shadow (q _ e), fun e => S.ret (q _ e), fun e => S.tab (q _ e), fun e => S.staging (q _ e), fun e => S.latch64 (q _ e), fun e => S.tabLatch (q _ e), fun e => S.resp (q _ e), fun e => S.fmem (q _ e), fun e => S.cfg (q _ e), fun e => S.cyc (q _ e), fun e => S.freeIx (q _ e), fun e => S.filWin (q _ e), fun e => S.lkQueue (q _ e), fun e => S.lkRing (q _ e), fun e => S.ctlOut (q _ e), fun e => S.meters (q _ e), fun e => S.pkts (q _ e), fun e => S.pktNext (q _ e), fun e => S.opens (q _ e), fun e => S.queues (q _ e), fun e => S.egOut (q _ e), fun e => S.shapers (q _ e), fun e => S.asks (q _ e), fun e => S.changes (q _ e), fun e => S.unrec (q _ e), fun e => S.intents (q _ e), fun e => S.lmcQ (q _ e), fun e => S.nbrs (q _ e), fun e => S.granted (q _ e), fun e => S.ready (q _ e), fun e => S.replay (q _ e), fun e => S.spanRx (q _ e), fun e => S.spanTx (q _ e), fun e => S.wire (q _ e), fun e => S.capRx (q _ e), fun e => S.keys (q _ e), fun e => S.gaps (q _ e), fun e => S.repairs (q _ e), fun e => S.tileDone (q _ e), fun e => S.tileOut (q _ e), fun e => S.txbOut (q _ e), fun e => S.tags (q _ e), fun e => S.rdWait (q _ e), fun e => S.reads (q _ e), fun e => S.rdAns (q _ e), fun e => S.land (q _ e), fun e => S.rdIn (q _ e), fun e => S.rdBus (q _ e), fun e => S.pfifo (q _ e), fun e => S.pcieOut (q _ e), fun e => S.msixOut (q _ e), fun e => S.ethOut (q _ e), fun e => S.lumeOut (q _ e), fun e => S.usbOut (q _ e), fun e => S.usbFly (q _ e), fun e => S.usbHeld (q _ e), fun e => S.udfOut (q _ e), fun e => S.claspAsk (q _ e), fun e => S.pdOut (q _ e), fun e => S.root (q _ e), fun e => S.ephemeral (q _ e), fun e => S.agree (q _ e), fun e => S.recs (q _ e), fun e => S.marks (q _ e), fun e => S.signers (q _ e), fun e => S.flash (q _ e), fun e => S.blk (q _ e), fun e => S.landed (q _ e), fun e => S.clear (q _ e), fun e => S.landing (q _ e), fun e => S.telOut (q _ e), fun e => S.mgpResp (q _ e), fun e => S.mgpRead (q _ e), fun e => S.paths (q _ e), fun e => S.settles (q _ e), fun e => S.stalled (q _ e)⟩

end Sys2Proof.Machine
end

