-- ==== Sys2Proof/Laws/KeepsA.lean ====
section
/-! SUPPORT. What each operation and each command keeps (part 1 of 6): one lemma per operation, which names the kinds of state
that it may change, as the bits of a number (Laws/Keep.lean). Each follows the shape of the operation's definition. -/

set_option linter.unusedVariables false

namespace Sys2Proof.Machine

open Sys2Proof

variable {P : Hub → Prop}

theorem Hub.setTword_keeps {km : Nat} (B : Hub.Bears km P) (wk : Sub 0x8000000000000000000000000000000000000000000000000000000000000000000000000000 km) {h : Hub} {a v : Nat} (Hh : P h) : P (h.setTword a v) := B.setTword (wk.bit (by decide)) Hh

theorem Hub.setTfld_keeps {km : Nat} (B : Hub.Bears km P) (wk : Sub 0x8000000000000000000000000000000000000000000000000000000000000000000000000000 km) {h : Hub} {a : ℕ} {lo : ℕ} {w : ℕ} {v : ℕ} (Hh : P h) : P (Hub.setTfld h a lo w v) := by
  unfold Hub.setTfld
  exact (Hub.setTword_keeps B (wk.sub (by decide)) Hh)

theorem Hub.setSlot_keeps {km : Nat} (B : Hub.Bears km P) (wk : Sub 0x8000000000000000000000000000000000000000000000000000000000000000000000000000 km) {h : Hub} {k : ℕ} {w : ℕ} {lo : ℕ} {n : ℕ} {v : ℕ} (Hh : P h) : P (Hub.setSlot h k w lo n v) := by
  unfold Hub.setSlot
  exact (Hub.setTfld_keeps B (wk.sub (by decide)) Hh)

theorem Hub.setState_keeps {km : Nat} (B : Hub.Bears km P) (wk : Sub 0x8000000000000000000000000000000000000000000000000000000000000000000000000000 km) {h : Hub} {k : ℕ} {st : ℕ} (Hh : P h) : P (Hub.setState h k st) := by
  unfold Hub.setState
  exact (Hub.setSlot_keeps B (wk.sub (by decide)) Hh)

theorem Hub.abortSlot_keeps {km : Nat} (B : Hub.Bears km P) (wk : Sub 0x8000000000000000000000000000000000000000000000800000000000000000000000000000 km) {h : Hub} {w : Writer} (Hh : P h) : P (Hub.abortSlot h w) := by
  unfold Hub.abortSlot
  split
  · rename_i a1 e2
    exact Hh
  · rename_i a3 a4 e5
    exact (B.wr (wk.bit (by decide)) (Hub.setSlot_keeps B (wk.sub (by decide)) (Hub.setState_keeps B (wk.sub (by decide)) Hh)))

theorem Hub.txbSend_keeps {km : Nat} (B : Hub.Bears km P) (wk : Sub 0x20000000000000000000000000000000000000000000000000000000000000000000000000000000000000 km) {h : Hub} {m : TxbMsg} (Hh : P h) : P (Hub.txbSend h m) := by
  unfold Hub.txbSend
  exact (B.txbOut (wk.bit (by decide)) Hh)

theorem Hub.cntN_keeps {km : Nat} (B : Hub.Bears km P) {h : Hub} {F : Fld} {n : ℕ} {i : optParam ℕ 0} {b : optParam ℕ 0} (wF : km.testBit F.kind = true) (Hh : P h) : P (Hub.cntN h F n i b) := by
  unfold Hub.cntN
  exact (B.wr wF Hh)

theorem Hub.cnt_keeps {km : Nat} (B : Hub.Bears km P) {h : Hub} {F : Fld} {i : optParam ℕ 0} {b : optParam ℕ 0} (wF : km.testBit F.kind = true) (Hh : P h) : P (Hub.cnt h F i b) := by
  unfold Hub.cnt
  exact (Hub.cntN_keeps B wF Hh)

theorem Hub.refreshTags_keeps {km : Nat} (B : Hub.Bears km P) (wk : Sub 0x100000000000000000000000000000000 km) {h : Hub} (Hh : P h) : P (Hub.refreshTags h) := by
  unfold Hub.refreshTags
  extract_lets +onlyGivenNames v1
  clear_value v1
  exact (B.wr (wk.bit (by decide)) (B.wr (wk.bit (by decide)) Hh))

theorem Hub.sendReads_keeps {km : Nat} (B : Hub.Bears km P) (wk : Sub 0xe0000000000000000000000000000000000000000000000000000100000000000000000000000000000000 km) {l : List TxbPiece} :
    ∀ {stuck : List Nat} {h : Hub}, P h → P (Hub.sendReads stuck l h) := by
  induction l with
  | nil => exact fun H => Hub.refreshTags_keeps B (wk.sub (by decide)) H
  | cons p ps ih =>
    intro stuck h H
    simp only [Hub.sendReads]
    refine keep_ite (ih (B.rdWait (wk.bit (by decide)) H)) ?_
    split
    · exact ih (B.rdWait (wk.bit (by decide)) H)
    · exact ih (Hub.cnt_keeps B (wk.bit (by decide)) (Hub.txbSend_keeps B (wk.sub (by decide)) (B.tags (wk.bit (by decide)) H)))

theorem Hub.retryReads_keeps {km : Nat} (B : Hub.Bears km P) (wk : Sub 0xe0000000000000000000000000000000000000000000000000000100000000000000000000000000000000 km) {h : Hub} (Hh : P h) : P (Hub.retryReads h) := by
  unfold Hub.retryReads
  exact (Hub.sendReads_keeps B (wk.sub (by decide)) (B.rdWait (wk.bit (by decide)) Hh))

theorem Hub.answerRead_keeps {km : Nat} (B : Hub.Bears km P) (wk : Sub 0x200000000000000000000000000000000000000000000000000000200000000000000000000000000000000 km) {h : Hub} {a : TxbAns} (Hh : P h) : P (Hub.answerRead h a) := by
  unfold Hub.answerRead
  exact (keep_when (fun _ H2 => (Hub.cnt_keeps B (wk.bit (by decide)) H2)) (B.rdAns (wk.bit (by decide)) Hh))

theorem Hub.pieceDone_keeps {km : Nat} (B : Hub.Bears km P) (wk : Sub 0x300000000000000000000000000000000000000000000000000000200000000000000000000000000000000 km) {h : Hub} {id : Nat} {ok : Bool} (Hh : P h) : P (h.pieceDone id ok) := by
  unfold Hub.pieceDone
  split
  · exact Hh
  · extract_lets +onlyGivenNames r
    exact keep_ite (Hub.answerRead_keeps B (wk.sub (by decide)) (B.reads (wk.bit (by decide)) Hh)) (B.reads (wk.bit (by decide)) Hh)

theorem Hub.endTag_keeps {km : Nat} (B : Hub.Bears km P) (wk : Sub 0x3e0000000000000000000000000000000000000000000000000000300000000000000000000000000000000 km) {h : Hub} {t : ℕ} {tg : TxbTag} {ok : Bool} (Hh : P h) : P (Hub.endTag h t tg ok) := by
  unfold Hub.endTag
  extract_lets +onlyGivenNames v1
  have H2 : P v1 := (B.tags (wk.bit (by decide)) Hh)
  clear_value v1
  exact (Hub.retryReads_keeps B (wk.sub (by decide)) (keep_ite H2 (Hub.pieceDone_keeps B (wk.sub (by decide)) H2)))

theorem Hub.abortTag_keeps {km : Nat} (B : Hub.Bears km P) (wk : Sub 0x3e0000000000000000000000000000000000000000000000000000300000000000000000000000000000000 km) {h : Hub} {t : ℕ} {tg : TxbTag} {last : Bool} (Hh : P h) : P (Hub.abortTag h t tg last) := by
  unfold Hub.abortTag
  refine keep_ite ?_ ?_
  · exact (Hub.endTag_keeps B (wk.sub (by decide)) Hh)
  · exact (keep_ite Hh (Hub.pieceDone_keeps B (wk.sub (by decide)) (B.tags (wk.bit (by decide)) Hh)))

theorem Hub.rollRx_keeps {km : Nat} (B : Hub.Bears km P) (wk : Sub 0x200000000000000000000000000000000000000000000000000000010000 km) {h : Hub} {p : ℕ} (Hh : P h) : P (Hub.rollRx h p) := by
  unfold Hub.rollRx
  extract_lets +onlyGivenNames v1
  clear_value v1
  exact (keep_when (fun _ H3 => (B.wr (wk.bit (by decide)) (B.wr (wk.bit (by decide)) (B.wr (wk.bit (by decide)) H3)))) Hh)

theorem Hub.wrBit_keeps {km : Nat} (B : Hub.Bears km P) {h : Hub} {F : Fld} {n : ℕ} {v : Bool} {i : optParam ℕ 0} {b : optParam ℕ 0} (wF : km.testBit F.kind = true) (Hh : P h) : P (Hub.wrBit h F n v i b) := by
  unfold Hub.wrBit
  exact (B.wr wF Hh)

theorem Hub.startEsc_keeps {km : Nat} (B : Hub.Bears km P) (wk : Sub 0x4000000000000000000000000000000000000000000000000000000000000000 km) {h : Hub} {pg : ℕ} (Hh : P h) : P (Hub.startEsc h pg) := by
  unfold Hub.startEsc
  exact (keep_ite Hh (B.wr (wk.bit (by decide)) (B.wr (wk.bit (by decide)) Hh)))

theorem Hub.irq_keeps {km : Nat} (B : Hub.Bears km P) (wk : Sub 0x4000000000000000000000000000000000000000000000000000000000000000 km) {h : Hub} {pg : ℕ} {n : ℕ} (Hh : P h) : P (Hub.irq h pg n) := by
  unfold Hub.irq
  exact (keep_ite Hh (Hub.wrBit_keeps B (wk.bit (by decide)) Hh))

theorem Hub.wrFree_keeps {km : Nat} (B : Hub.Bears km P) (wk : Sub 0x800000000000000000000000000000000000000000000000000000000000000000000000000000 km) {h : Hub} {F : Fld} {i : optParam ℕ 0} {b : optParam ℕ 0} (wF : km.testBit F.kind = true) (Hh : P h) : P (Hub.wrFree h F i b) := by
  unfold Hub.wrFree
  exact (B.wr wF (B.freeIx (wk.bit (by decide)) Hh))

theorem Hub.wrOpen_keeps {km : Nat} (B : Hub.Bears km P) (wk : Sub 0x800000000000000000000000000000000000000000000000000000000000000000000000000000 km) {h : Hub} {F : Fld} {o : Option ℕ} {pg : ℕ} (wF : km.testBit F.kind = true) (Hh : P h) : P (Hub.wrOpen h F o pg) := by
  unfold Hub.wrOpen
  split
  · rename_i a1 a2
    exact (B.wr wF Hh)
  · rename_i a3
    exact (Hub.wrFree_keeps B (wk.sub (by decide)) wF Hh)

theorem Hub.capture_keeps {km : Nat} (B : Hub.Bears km P) (wk : Sub 0x800000000000004000000000000000000000000000000000000000000000000000000000000000 km) {h : Hub} {pg : ℕ} {c : Cap} (Hh : P h) : P (Hub.capture h pg c) := by
  unfold Hub.capture
  exact (keep_ite Hh (B.wr (wk.bit (by decide)) (B.wr (wk.bit (by decide)) (B.wr (wk.bit (by decide)) (Hub.wrOpen_keeps B (wk.sub (by decide)) (wk.bit (by decide)) (Hub.wrOpen_keeps B (wk.sub (by decide)) (wk.bit (by decide)) (Hub.wrOpen_keeps B (wk.sub (by decide)) (wk.bit (by decide)) (Hub.wrOpen_keeps B (wk.sub (by decide)) (wk.bit (by decide)) (Hub.wrOpen_keeps B (wk.sub (by decide)) (wk.bit (by decide)) Hh)))))))))

theorem Hub.raiseBit_keeps {km : Nat} (B : Hub.Bears km P) (wk : Sub 0x800000000000004000000000000000000000000000000000000000000000000000000000000000 km) {h : Hub} {pg : ℕ} {n : ℕ} {c : Cap} (Hh : P h) : P (Hub.raiseBit h pg n c) := by
  unfold Hub.raiseBit
  extract_lets +onlyGivenNames v1
  have H2 : P v1 := (Hub.wrBit_keeps B (wk.bit (by decide)) Hh)
  clear_value v1
  exact (keep_ite (Hub.startEsc_keeps B (wk.sub (by decide)) (Hub.irq_keeps B (wk.sub (by decide)) (Hub.capture_keeps B (wk.sub (by decide)) H2))) H2)

theorem Hub.refreshSummary_keeps {km : Nat} (B : Hub.Bears km P) (wk : Sub 0x10000000000000000000000000000 km) {h : Hub} (Hh : P h) : P (Hub.refreshSummary h) := by
  unfold Hub.refreshSummary
  extract_lets +onlyGivenNames v1
  clear_value v1
  exact (B.wr (wk.bit (by decide)) (B.wr (wk.bit (by decide)) (B.wr (wk.bit (by decide)) (B.wr (wk.bit (by decide)) (B.wr (wk.bit (by decide)) Hh)))))

theorem Hub.locketPut_keeps {km : Nat} (B : Hub.Bears km P) (wk : Sub 0x2800000000000004000000000000000000000000000000000000000000000000000000000000400 km) {h : Hub} {r : LkRec} (Hh : P h) : P (Hub.locketPut h r) := by
  unfold Hub.locketPut
  refine keep_ite ?_ ?_
  · exact (B.lkQueue (wk.bit (by decide)) Hh)
  · extract_lets +onlyGivenNames v1
    have H2 : P v1 := (Hub.cnt_keeps B (wk.bit (by decide)) Hh)
    clear_value v1
    exact (keep_ite H2 (Hub.raiseBit_keeps B (wk.sub (by decide)) H2))

theorem Hub.raise_keeps {km : Nat} (B : Hub.Bears km P) (wk : Sub 0x2800000000000004000000000000000000000000000000000010000000000000000000000000400 km) {h : Hub} {pg : ℕ} {n : ℕ} {c : optParam Cap { }} (Hh : P h) : P (Hub.raise h pg n c) := by
  unfold Hub.raise
  refine keep_ite ?_ ?_
  · exact Hh
  · extract_lets +onlyGivenNames v1
    have H2 : P v1 := (Hub.raiseBit_keeps B (wk.sub (by decide)) Hh)
    clear_value v1
    refine keep_ite ?_ ?_
    · extract_lets +onlyGivenNames v3
      have H4 : P v3 := (Hub.refreshSummary_keeps B (wk.sub (by decide)) H2)
      clear_value v3
      exact (keep_ite (Hub.locketPut_keeps B (wk.sub (by decide)) H4) H4)
    · exact H2

theorem Hub.takeFrame_keeps {km : Nat} (B : Hub.Bears km P) (wk : Sub 0x2800000000000004000000000000000000000000000000000010000000000000000000000010400 km) {p : ℕ} {f : RFrame} {h : Hub} (Hh : P h) : P (Hub.takeFrame p f h) := by
  unfold Hub.takeFrame
  extract_lets +onlyGivenNames v1
  have H2 : P v1 := (keep_when (fun _ H4 => (Hub.cnt_keeps B (wk.bit (by decide)) H4)) Hh)
  clear_value v1
  exact (keep_when (fun _ H6 => (keep_each (fun _ _ H9 => (by
    extract_lets +onlyGivenNames v10
    clear_value v10
    exact (keep_ite (Hub.raise_keeps B (wk.sub (by decide)) (Hub.cnt_keeps B (wk.bit (by decide)) H9)) (B.wr (wk.bit (by decide)) H9)))) H6)) H2)

theorem Hub.acceptFrame_keeps {km : Nat} (B : Hub.Bears km P) (wk : Sub 0x100002800000000000004000200000000000000000000000000000010000000000000000000000010400 km) {h : Hub} {p : ℕ} {l : ℕ} {f : LinkFrame} (Hh : P h) : P (Hub.acceptFrame h p l f) := by
  unfold Hub.acceptFrame
  extract_lets +onlyGivenNames v1
  have H2 : P v1 := (Hub.rollRx_keeps B (wk.sub (by decide)) Hh)
  clear_value v1
  extract_lets +onlyGivenNames v3
  clear_value v3
  extract_lets +onlyGivenNames v4
  clear_value v4
  extract_lets +onlyGivenNames v5
  have H6 : P v5 := (B.wr (wk.bit (by decide)) (B.wr (wk.bit (by decide)) (Hub.cnt_keeps B (wk.bit (by decide)) H2)))
  clear_value v5
  exact (keep_ite (B.spanRx (wk.bit (by decide)) H6) (Hub.takeFrame_keeps B (wk.sub (by decide)) (B.wr (wk.bit (by decide)) H6)))

theorem Hub.unask_keeps {km : Nat} (B : Hub.Bears km P) (wk : Sub 0x400000000000000000000000000000000000000000000000000000000000000000000000000000000000000000 km) {h : Hub} {n : ℕ} (Hh : P h) : P (Hub.unask h n) := by
  unfold Hub.unask
  exact (B.claspAsk (wk.bit (by decide)) Hh)

theorem Hub.refreshArmed_keeps {km : Nat} (B : Hub.Bears km P) (wk : Sub 0x100000000000000000000000000000000000000000000 km) {n : ℕ} {h : Hub} (Hh : P h) : P (Hub.refreshArmed n h) := by
  unfold Hub.refreshArmed
  exact (B.wr (wk.bit (by decide)) Hh)

theorem Hub.refreshAlloc_keeps {km : Nat} (B : Hub.Bears km P) (wk : Sub 0x100000000000000000000000000000000000000000000000000 km) {h : Hub} (Hh : P h) : P (Hub.refreshAlloc h) := by
  unfold Hub.refreshAlloc
  extract_lets +onlyGivenNames v1
  clear_value v1
  extract_lets +onlyGivenNames v2
  clear_value v2
  exact (B.wr (wk.bit (by decide)) (B.wr (wk.bit (by decide)) Hh))

theorem Hub.refreshVen_keeps {km : Nat} (B : Hub.Bears km P) (wk : Sub 0x10000000000000000000000000000000000000000000000 km) {k : ℕ} {h : Hub} (Hh : P h) : P (Hub.refreshVen k h) := by
  unfold Hub.refreshVen
  extract_lets +onlyGivenNames v1
  clear_value v1
  extract_lets +onlyGivenNames v2
  clear_value v2
  exact (keep_when (fun _ H4 => (B.wr (wk.bit (by decide)) (B.wr (wk.bit (by decide)) (B.wr (wk.bit (by decide)) H4)))) (B.wr (wk.bit (by decide)) Hh))

theorem Hub.refreshCause_keeps {km : Nat} (B : Hub.Bears km P) (wk : Sub 0x1000000000000000000000000000000000000000000000000 km) {n : ℕ} {h : Hub} (Hh : P h) : P (Hub.refreshCause n h) := by
  unfold Hub.refreshCause
  extract_lets +onlyGivenNames v1
  have H2 : P v1 := (keep_when (fun _ H4 => (B.wr (wk.bit (by decide)) H4)) Hh)
  clear_value v1
  extract_lets +onlyGivenNames v5
  clear_value v5
  extract_lets +onlyGivenNames v6
  clear_value v6
  exact (B.wr (wk.bit (by decide)) H2)

theorem Hub.refreshBus_keeps {km : Nat} (B : Hub.Bears km P) (wk : Sub 0x101010100000000000000000000000000000000000000000000 km) {h : Hub} (Hh : P h) : P (Hub.refreshBus h) := by
  unfold Hub.refreshBus
  extract_lets +onlyGivenNames v1
  clear_value v1
  extract_lets +onlyGivenNames v2
  clear_value v2
  extract_lets +onlyGivenNames v3
  have H4 : P v3 := (keep_each (fun _ _ H7 => (Hub.refreshArmed_keeps B (wk.sub (by decide)) (B.wr (wk.bit (by decide)) (B.wr (wk.bit (by decide)) H7)))) Hh)
  clear_value v3
  exact (keep_each (fun _ _ H10 => (Hub.refreshCause_keeps B (wk.sub (by decide)) H10)) (Hub.refreshAlloc_keeps B (wk.sub (by decide)) (Hub.refreshVen_keeps B (wk.sub (by decide)) (Hub.refreshVen_keeps B (wk.sub (by decide)) H4))))

theorem Hub.setSw_keeps {km : Nat} (B : Hub.Bears km P) (wk : Sub 0x100000000000000000000000000000000000000000000 km) {h : Hub} {n : ℕ} {sw : ℕ} (Hh : P h) : P (Hub.setSw h n sw) := by
  unfold Hub.setSw
  exact (B.wr (wk.bit (by decide)) (B.wr (wk.bit (by decide)) (B.wr (wk.bit (by decide)) Hh)))

theorem Hub.acceptIn_keeps {km : Nat} (B : Hub.Bears km P) (wk : Sub 0x400000000000000000000000000000000000000101010100000000000000000000000000000000000000000000 km) {h : Hub} {n : ℕ} {tok : ℕ} {ireq : ℕ} {arm : Bool} (Hh : P h) : P (Hub.acceptIn h n tok ireq arm) := by
  unfold Hub.acceptIn
  refine keep_ite ?_ ?_
  · exact Hh
  · extract_lets +onlyGivenNames v1
    have H2 : P v1 := (B.wr (wk.bit (by decide)) (B.wr (wk.bit (by decide)) (Hub.unask_keeps B (wk.sub (by decide)) Hh)))
    clear_value v1
    refine keep_ite ?_ ?_
    · exact (Hub.refreshBus_keeps B (wk.sub (by decide)) H2)
    · exact (keep_ite (Hub.refreshBus_keeps B (wk.sub (by decide)) (Hub.setSw_keeps B (wk.sub (by decide)) H2)) (B.wr (wk.bit (by decide)) H2))

theorem Hub.ackField_keeps {km : Nat} (B : Hub.Bears km P) (wk : Sub 0x10000 km) {h : Hub} {p : ℕ} (Hh : P h) : P (Hub.ackField h p).2.2 := by
  unfold Hub.ackField
  exact (keep_p22 (B.wr (wk.bit (by decide)) (B.wr (wk.bit (by decide)) Hh)))

theorem Hub.rollDone_keeps {km : Nat} (B : Hub.Bears km P) (wk : Sub 0x4000000000000000000000000000000000000000000000000000000000010000 km) {h : Hub} {p : ℕ} (Hh : P h) : P (Hub.rollDone h p) := by
  unfold Hub.rollDone
  exact (keep_when (fun _ H2 => (Hub.irq_keeps B (wk.sub (by decide)) (B.wr (wk.bit (by decide)) (B.wr (wk.bit (by decide)) H2)))) Hh)

theorem Hub.ackIn_keeps {km : Nat} (B : Hub.Bears km P) (wk : Sub 0x80000000000000000004000000000000000000000000000000000000000000000000000000100010000 km) {h : Hub} {p : ℕ} {v : ℕ} (Hh : P h) : P (Hub.ackIn h p v) := by
  unfold Hub.ackIn
  extract_lets +onlyGivenNames v1
  clear_value v1
  extract_lets +onlyGivenNames v2
  clear_value v2
  extract_lets +onlyGivenNames v3
  clear_value v3
  extract_lets +onlyGivenNames v4
  clear_value v4
  refine keep_ite ?_ ?_
  · exact Hh
  · extract_lets +onlyGivenNames v5
    have H6 : P v5 := (B.wr (wk.bit (by decide)) (B.replay (wk.bit (by decide)) Hh))
    clear_value v5
    extract_lets +onlyGivenNames v7
    have H8 : P v7 := (keep_each (fun _ _ H11 => (B.wr (wk.bit (by decide)) H11)) H6)
    clear_value v7
    exact (Hub.rollDone_keeps B (wk.sub (by decide)) (keep_when (fun _ H13 => (Hub.irq_keeps B (wk.sub (by decide)) (B.wr (wk.bit (by decide)) H13))) H8))

theorem Hub.setTwords_keeps {km : Nat} (B : Hub.Bears km P) (wk : Sub 0x8000000000000000000000000000000000000000000000000000000000000000000000000000 km) {h : Hub} {a : Nat} {ws : List Nat} (Hh : P h) : P (h.setTwords a ws) := B.setTwords (wk.bit (by decide)) Hh

theorem Hub.actWrite_keeps {km : Nat} (B : Hub.Bears km P) (wk : Sub 0x2808000000000004000000000000000000000000000000000010000000000000000000000000700 km) {h : Hub} {v : ℕ} {c : optParam Cap { }} (Hh : P h) : P (Hub.actWrite h v c) := by
  unfold Hub.actWrite
  extract_lets +onlyGivenNames v1
  clear_value v1
  extract_lets +onlyGivenNames v2
  clear_value v2
  extract_lets +onlyGivenNames v3
  have H4 : P v3 := (B.wr (wk.bit (by decide)) Hh)
  clear_value v3
  refine keep_ite ?_ ?_
  · exact (Hub.raise_keeps B (wk.sub (by decide)) H4)
  · refine keep_ite ?_ ?_
    · exact (Hub.raise_keeps B (wk.sub (by decide)) H4)
    · extract_lets +onlyGivenNames v5
      have H6 : P v5 := (Hub.setTwords_keeps B (wk.sub (by decide)) H4)
      clear_value v5
      exact (B.wr (wk.bit (by decide)) (B.wr (wk.bit (by decide)) (B.wr (wk.bit (by decide)) H6)))

theorem Hub.refreshSlots_keeps {km : Nat} (B : Hub.Bears km P) (wk : Sub 0x4000 km) {h : Hub} (Hh : P h) : P (Hub.refreshSlots h) := by
  unfold Hub.refreshSlots
  extract_lets +onlyGivenNames v1
  clear_value v1
  exact (B.wr (wk.bit (by decide)) (B.wr (wk.bit (by decide)) (keep_each (fun _ _ H4 => (B.wr (wk.bit (by decide)) H4)) Hh)))

theorem Hub.setUpd_keeps {km : Nat} (B : Hub.Bears km P) (wk : Sub 0x4000100000000000000000000000000000000000000000000000000000004000 km) {h : Hub} {st : ℕ} (Hh : P h) : P (Hub.setUpd h st) := by
  unfold Hub.setUpd
  exact (keep_ite Hh (Hub.refreshSlots_keeps B (wk.sub (by decide)) (Hub.irq_keeps B (wk.sub (by decide)) (B.wr (wk.bit (by decide)) Hh))))

theorem Hub.activateGo_keeps {km : Nat} (B : Hub.Bears km P) (wk : Sub 0x400010000000000000000000000000000000000000000000000000000000c000 km) {h : Hub} (Hh : P h) : P (Hub.activateGo h) := by
  unfold Hub.activateGo
  exact (keep_ite (Hub.setUpd_keeps B (wk.sub (by decide)) (B.wr (wk.bit (by decide)) Hh)) (B.wr (wk.bit (by decide)) (B.wr (wk.bit (by decide)) Hh)))

theorem Hub.countRd_keeps {km : Nat} (B : Hub.Bears km P) (wk : Sub 0x10000000000000000000000000000000000 km) {h : Hub} {a : ℕ} {n : ℕ} (Hh : P h) : P (Hub.countRd h a n) := by
  unfold Hub.countRd
  exact (B.wr (wk.bit (by decide)) Hh)

theorem Hub.fetched_keeps {km : Nat} (B : Hub.Bears km P) (wk : Sub 0x10000000000000000000000000000000000 km) {h : Hub} {n : ℕ} {bytes : ℕ} (Hh : P h) : P (Hub.fetched h n bytes) := by
  unfold Hub.fetched
  extract_lets +onlyGivenNames v1
  clear_value v1
  exact (keep_when (fun _ H3 => (Hub.countRd_keeps B (wk.sub (by decide)) H3)) Hh)

theorem Hub.headUnderrun_keeps {km : Nat} (B : Hub.Bears km P) (wk : Sub 0x2800000000000004000000000000000000000000000010000030000000000000000000000000400 km) {h : Hub} {n : ℕ} {line : ℕ} {pixel : ℕ} (Hh : P h) : P (Hub.headUnderrun h n line pixel) := by
  unfold Hub.headUnderrun
  refine keep_ite ?_ ?_
  · exact Hh
  · extract_lets +onlyGivenNames v1
    clear_value v1
    exact (Hub.raise_keeps B (wk.sub (by decide)) (Hub.cnt_keeps B (wk.bit (by decide)) (B.wr (wk.bit (by decide)) (B.wr (wk.bit (by decide)) (B.wr (wk.bit (by decide)) (B.wr (wk.bit (by decide)) (Hub.fetched_keeps B (wk.sub (by decide)) Hh)))))))

theorem Hub.free_keeps {km : Nat} (B : Hub.Bears km P) (wk : Sub 0x800000000000000000000000000000000000000000000000000000000000000000000000000000 km) {h : Hub} (Hh : P h) : P (Hub.free h).2 := by
  unfold Hub.free
  exact (keep_p2 (B.freeIx (wk.bit (by decide)) Hh))

theorem Hub.starve_keeps {km : Nat} (B : Hub.Bears km P) (wk : Sub 0x2800000000000004000000000000000000000000000010000030000000000000000000000000400 km) {n : ℕ} {h : Hub} (Hh : P h) : P (Hub.starve n h) := by
  unfold Hub.starve
  refine keep_ite ?_ ?_
  · exact Hh
  · refine keep_ite ?_ ?_
    · exact (Hub.headUnderrun_keeps B (wk.sub (by decide)) Hh)
    · split
      · rename_i a1 a2 a3 e4
        have H5 := keep_snd e4 (Hub.free_keeps B (wk.sub (by decide)) Hh)
        exact (Hub.headUnderrun_keeps B (wk.sub (by decide)) H5)

theorem Hub.notReady_keeps {km : Nat} (B : Hub.Bears km P) (wk : Sub 0x10000000000000000000000000000000000 km) {h : Hub} (Hh : P h) : P (Hub.notReady h) := by
  unfold Hub.notReady
  exact (keep_when (fun _ H2 => (Hub.cnt_keeps B (wk.bit (by decide)) H2)) Hh)

theorem Hub.lackMem_keeps {km : Nat} (B : Hub.Bears km P) (wk : Sub 0x2800000000000004000000000000000000000000000010000030000000000000000000000000400 km) {n : ℕ} {since : ℕ} {h : Hub} (Hh : P h) : P (Hub.lackMem n since h) := by
  unfold Hub.lackMem
  exact (Hub.notReady_keeps B (wk.sub (by decide)) (keep_when (fun _ H2 => (Hub.raise_keeps B (wk.sub (by decide)) H2)) (B.wr (wk.bit (by decide)) Hh)))

theorem Hub.activeEnd_keeps {km : Nat} (B : Hub.Bears km P) (wk : Sub 0x2800000000000004000000000000000000000000000010000030000000000000000000000000400 km) {h0 : Hub} {n : ℕ} {low : ℕ} (Hh0 : P h0) : P (Hub.activeEnd h0 n low) := by
  unfold Hub.activeEnd
  extract_lets +onlyGivenNames v1
  have H2 : P v1 := (Hub.starve_keeps B (wk.sub (by decide)) (keep_when (fun _ H4 => (Hub.lackMem_keeps B (wk.sub (by decide)) H4)) (B.wr (wk.bit (by decide)) Hh0)))
  clear_value v1
  extract_lets +onlyGivenNames v5
  clear_value v5
  extract_lets +onlyGivenNames v6
  clear_value v6
  extract_lets +onlyGivenNames v7
  have H8 : P v7 := (Hub.wrBit_keeps B (wk.bit (by decide)) (B.wr (wk.bit (by decide)) H2))
  clear_value v7
  refine keep_ite ?_ ?_
  · exact H8
  · extract_lets +onlyGivenNames v9
    have H10 : P v9 := (Hub.fetched_keeps B (wk.sub (by decide)) H8)
    clear_value v9
    extract_lets +onlyGivenNames v11
    clear_value v11
    extract_lets +onlyGivenNames v12
    clear_value v12
    extract_lets +onlyGivenNames v13
    have H14 : P v13 := (B.wr (wk.bit (by decide)) (B.wr (wk.bit (by decide)) H10))
    clear_value v13
    exact (keep_ite (B.wr (wk.bit (by decide)) H14) (keep_when (fun _ H16 => (Hub.raise_keeps B (wk.sub (by decide)) (Hub.cnt_keeps B (wk.bit (by decide)) (B.wr (wk.bit (by decide)) H16)))) H14))

theorem Hub.adapt_keeps {km : Nat} (B : Hub.Bears km P) (wk : Sub 0x800000000000000000000000000000000000000000000000000000000000000000000100000000 km) {l : ℕ} {h : Hub} (Hh : P h) : P (Hub.adapt l h) := by
  unfold Hub.adapt
  split
  · rename_i a1 a2 a3 e4
    have H5 := keep_snd e4 (Hub.free_keeps B (wk.sub (by decide)) Hh)
    extract_lets +onlyGivenNames v6
    have H7 : P v6 := (Hub.wrFree_keeps B (wk.sub (by decide)) (wk.bit (by decide)) (Hub.wrFree_keeps B (wk.sub (by decide)) (wk.bit (by decide)) (Hub.wrFree_keeps B (wk.sub (by decide)) (wk.bit (by decide)) (Hub.wrFree_keeps B (wk.sub (by decide)) (wk.bit (by decide)) (Hub.wrFree_keeps B (wk.sub (by decide)) (wk.bit (by decide)) (Hub.wrFree_keeps B (wk.sub (by decide)) (wk.bit (by decide)) (Hub.wrFree_keeps B (wk.sub (by decide)) (wk.bit (by decide)) (B.wr (wk.bit (by decide)) H5))))))))
    clear_value v6
    exact (keep_when (fun _ H9 => (B.wr (wk.bit (by decide)) (B.wr (wk.bit (by decide)) (B.wr (wk.bit (by decide)) (B.wr (wk.bit (by decide)) (B.wr (wk.bit (by decide)) (B.wr (wk.bit (by decide)) H9))))))) H7)

theorem Hub.refreshGap_keeps {km : Nat} (B : Hub.Bears km P) (wk : Sub 0x800000000000000000000000000000 km) {h : Hub} {r : ℕ} (Hh : P h) : P (Hub.refreshGap h r) := by
  unfold Hub.refreshGap
  extract_lets +onlyGivenNames v1
  clear_value v1
  split
  · rename_i a2 a3 a4 e5
    exact (B.wr (wk.bit (by decide)) (B.wr (wk.bit (by decide)) (B.wr (wk.bit (by decide)) (B.wr (wk.bit (by decide)) Hh))))

theorem Hub.addGap_keeps {km : Nat} (B : Hub.Bears km P) (wk : Sub 0x2000000000000000000000000000000000000000000000000000000800000000000000000000000000000 km) {h : Hub} {r : ℕ} {a : ℕ} {b : ℕ} (Hh : P h) : P (Hub.addGap h r a b) := by
  unfold Hub.addGap
  refine keep_ite ?_ ?_
  · exact Hh
  · extract_lets +onlyGivenNames v1
    clear_value v1
    split
    · rename_i a2 a3 e4
      exact (Hub.refreshGap_keeps B (wk.sub (by decide)) (B.gaps (wk.bit (by decide)) Hh))
    · rename_i a5 e6
      refine keep_ite ?_ ?_
      · exact (Hub.refreshGap_keeps B (wk.sub (by decide)) (B.gaps (wk.bit (by decide)) Hh))
      · extract_lets +onlyGivenNames v7
        clear_value v7
        exact (B.wr (wk.bit (by decide)) (Hub.refreshGap_keeps B (wk.sub (by decide)) (B.gaps (wk.bit (by decide)) Hh)))

theorem Hub.addRounds_keeps {km : Nat} (B : Hub.Bears km P) (wk : Sub 0x100000000000000000000 km) {h : Hub} {e : ℕ} {cs : List Head} (Hh : P h) : P (Hub.addRounds h e cs) := by
  unfold Hub.addRounds
  extract_lets +onlyGivenNames v1
  clear_value v1
  exact (keep_ite Hh (keep_each (fun _ _ H4 => (keep_when (fun _ H6 => (B.wr (wk.bit (by decide)) H6)) H4)) Hh))

theorem Hub.admitTargets_keeps {km : Nat} (B : Hub.Bears km P) (wk : Sub 0x2000000000000000000 km) {h : Hub} {k : ℕ} {cls : ℕ} {ts : List ℕ} (Hh : P h) : P (Hub.admitTargets h k cls ts).1 := by
  unfold Hub.admitTargets
  extract_lets +onlyGivenNames v1
  clear_value v1
  exact (keep_p1 (keep_each (fun _ _ H4 => (Hub.cnt_keeps B (wk.bit (by decide)) (Hub.cnt_keeps B (wk.bit (by decide)) H4))) Hh))

theorem Hub.shaperSet_keeps {km : Nat} (B : Hub.Bears km P) (wk : Sub 0x400000000000000000000000000000000000000000000000000000000000100000000000000000000 km) {h : Hub} {e : ℕ} {c : ℕ} {b : Shaper} (Hh : P h) : P (Hub.shaperSet h e c b) := by
  unfold Hub.shaperSet
  exact (B.wr (wk.bit (by decide)) (B.shapers (wk.bit (by decide)) Hh))

theorem Hub.wheelEnter_keeps {km : Nat} (B : Hub.Bears km P) (wk : Sub 0x100000000000000000000 km) {h : Hub} {e : ℕ} {c : ℕ} {net : ℕ} (Hh : P h) : P (Hub.wheelEnter h e c net) := by
  unfold Hub.wheelEnter
  exact (keep_ite (Hub.wrBit_keeps B (wk.bit (by decide)) (B.wr (wk.bit (by decide)) (B.wr (wk.bit (by decide)) (B.wr (wk.bit (by decide)) Hh)))) (Hub.cnt_keeps B (wk.bit (by decide)) (Hub.wrBit_keeps B (wk.bit (by decide)) (B.wr (wk.bit (by decide)) (B.wr (wk.bit (by decide)) (B.wr (wk.bit (by decide)) Hh))))))

theorem Hub.shaperEnd_keeps {km : Nat} (B : Hub.Bears km P) (wk : Sub 0x400000000000000000000000000000000000000000000000000000000000100000000000000000000 km) {h : Hub} {e : ℕ} {c : ℕ} (Hh : P h) : P (Hub.shaperEnd h e c) := by
  unfold Hub.shaperEnd
  extract_lets +onlyGivenNames v1
  clear_value v1
  extract_lets +onlyGivenNames v2
  clear_value v2
  exact (keep_when (fun _ H4 => (Hub.wheelEnter_keeps B (wk.sub (by decide)) (Hub.shaperSet_keeps B (wk.sub (by decide)) H4))) Hh)

theorem Hub.afterCell_keeps {km : Nat} (B : Hub.Bears km P) (wk : Sub 0x400000000000000000000000000000000000000000000000000000000000100000000000000000000 km) {h : Hub} {e : ℕ} {x : Head} {charge : ℤ} {shaped : Bool} {last : Bool} (Hh : P h) : P (Hub.afterCell h e x charge shaped last) := by
  unfold Hub.afterCell
  extract_lets +onlyGivenNames v1
  clear_value v1
  extract_lets +onlyGivenNames v2
  have H3 : P v2 := (keep_when (fun _ H5 => (B.wr (wk.bit (by decide)) H5)) Hh)
  clear_value v2
  extract_lets +onlyGivenNames v6
  have H7 : P v6 := (keep_when (fun _ H9 => (by
      extract_lets +onlyGivenNames v10
      clear_value v10
      exact (Hub.shaperSet_keeps B (wk.sub (by decide)) H9))) H3)
  clear_value v6
  exact (keep_ite (Hub.shaperEnd_keeps B (wk.sub (by decide)) H7) H7)

theorem Hub.ctlSend_keeps {km : Nat} (B : Hub.Bears km P) (wk : Sub 0x8000000000000000000000000000000000000000000000000000000000000000000000000000000 km) {h : Hub} {m : CtlMsg} (Hh : P h) : P (Hub.ctlSend h m) := by
  unfold Hub.ctlSend
  exact (keep_when (fun _ H2 => (B.ctlOut (wk.bit (by decide)) H2)) Hh)

theorem Hub.ctlAsk_keeps {km : Nat} (B : Hub.Bears km P) (wk : Sub 0x8000000000000000000000000000000000000000000000000000000000000010000000000000000 km) {h : Hub} {typ : ℕ} {dst : ℕ} {body : Bytes} (Hh : P h) : P (Hub.ctlAsk h typ dst body) := by
  unfold Hub.ctlAsk
  extract_lets +onlyGivenNames v1
  clear_value v1
  exact (Hub.ctlSend_keeps B (wk.sub (by decide)) (B.wr (wk.bit (by decide)) Hh))

theorem Hub.toCrowns_keeps {km : Nat} (B : Hub.Bears km P) (wk : Sub 0x8000000000000000000000000000000000000000000000000000000000000010000000000000000 km) {h : Hub} {typ : ℕ} {body : Bytes} (Hh : P h) : P (Hub.toCrowns h typ body) := by
  unfold Hub.toCrowns
  exact (keep_when (fun _ H2 => (Hub.ctlAsk_keeps B (wk.sub (by decide)) H2)) (keep_when (fun _ H4 => (Hub.ctlAsk_keeps B (wk.sub (by decide)) H4)) Hh))

theorem Hub.crtNotice_keeps {km : Nat} (B : Hub.Bears km P) (wk : Sub 0x8000000000000000000000000000000000000000000000000000000000000010000000000000000 km) {h : Hub} {event : ℕ} {point : ℕ} {tid : ℕ} {cap : ℕ} {total : ℕ} (Hh : P h) : P (Hub.crtNotice h event point tid cap total) := by
  unfold Hub.crtNotice
  exact (keep_when (fun _ H2 => (Hub.toCrowns_keeps B (wk.sub (by decide)) H2)) Hh)

theorem Hub.refreshCap_keeps {km : Nat} (B : Hub.Bears km P) (wk : Sub 0xa800000000000004000000000000000000000000000000000010000000000010000000000000404 km) {h : Hub} (Hh : P h) : P (Hub.refreshCap h) := by
  unfold Hub.refreshCap
  extract_lets +onlyGivenNames v1
  clear_value v1
  extract_lets +onlyGivenNames v2
  clear_value v2
  extract_lets +onlyGivenNames v3
  clear_value v3
  extract_lets +onlyGivenNames v4
  have H5 : P v4 := (B.wr (wk.bit (by decide)) (B.wr (wk.bit (by decide)) (B.wr (wk.bit (by decide)) (B.wr (wk.bit (by decide)) (B.wr (wk.bit (by decide)) Hh)))))
  clear_value v4
  exact (keep_ite (Hub.crtNotice_keeps B (wk.sub (by decide)) (Hub.raise_keeps B (wk.sub (by decide)) H5)) H5)

theorem Hub.refreshLpest_keeps {km : Nat} (B : Hub.Bears km P) (wk : Sub 0x2800000000000004000000000000000000000000000000000010000000000000000000000000408 km) {h : Hub} (Hh : P h) : P (Hub.refreshLpest h) := by
  unfold Hub.refreshLpest
  extract_lets +onlyGivenNames v1
  clear_value v1
  extract_lets +onlyGivenNames v2
  clear_value v2
  exact (keep_when (fun _ H4 => (Hub.raise_keeps B (wk.sub (by decide)) H4)) (B.wr (wk.bit (by decide)) Hh))

theorem Hub.moveDomain_keeps {km : Nat} (B : Hub.Bears km P) (wk : Sub 0x10 km) {d : ℕ} {h : Hub} (Hh : P h) : P (Hub.moveDomain d h) := by
  unfold Hub.moveDomain
  refine keep_ite ?_ ?_
  · exact (keep_when (fun _ H2 => (B.wr (wk.bit (by decide)) H2)) Hh)
  · refine keep_ite ?_ ?_
    · exact Hh
    · exact (keep_ite (B.wr (wk.bit (by decide)) Hh) (keep_when (fun _ H4 => (B.wr (wk.bit (by decide)) H4)) Hh))

theorem Hub.refreshDomains_keeps {km : Nat} (B : Hub.Bears km P) (wk : Sub 0x10 km) {h : Hub} (Hh : P h) : P (Hub.refreshDomains h) := by
  unfold Hub.refreshDomains
  exact (keep_each (fun _ _ H3 => (Hub.moveDomain_keeps B (wk.sub (by decide)) H3)) Hh)

theorem Hub.refreshVotes_keeps {km : Nat} (B : Hub.Bears km P) (wk : Sub 0x10 km) {h : Hub} (Hh : P h) : P (Hub.refreshVotes h) := by
  unfold Hub.refreshVotes
  exact (keep_ite Hh (Hub.refreshDomains_keeps B (wk.sub (by decide)) (B.wr (wk.bit (by decide)) Hh)))

theorem Hub.refreshActs_keeps {km : Nat} (B : Hub.Bears km P) (wk : Sub 0x100 km) {h : Hub} (Hh : P h) : P (Hub.refreshActs h) := by
  unfold Hub.refreshActs
  exact (B.wr (wk.bit (by decide)) (B.wr (wk.bit (by decide)) Hh))

theorem Hub.renewNonce_keeps {km : Nat} (B : Hub.Bears km P) (wk : Sub 0x800000000000000000000000000000000000000000000000000000000000000000000000000000 km) {F : Fld} {h : Hub} (wF : ∀ j, km.testBit (F.word j).kind = true) (Hh : P h) : P (Hub.renewNonce F h) := by
  unfold Hub.renewNonce
  exact (keep_each (fun _ _ H1 => (Hub.wrFree_keeps B (wk.sub (by decide)) (wF _) H1)) Hh)

theorem Hub.refreshFree_keeps {km : Nat} (B : Hub.Bears km P) (wk : Sub 0x10000000000000000 km) {h : Hub} (Hh : P h) : P (Hub.refreshFree h) := by
  unfold Hub.refreshFree
  exact (B.wr (wk.bit (by decide)) Hh)

theorem Hub.refreshUpstat_keeps {km : Nat} (B : Hub.Bears km P) (wk : Sub 0x20000000000000000 km) {h : Hub} (Hh : P h) : P (Hub.refreshUpstat h) := by
  unfold Hub.refreshUpstat
  exact (B.wr (wk.bit (by decide)) (B.wr (wk.bit (by decide)) Hh))

theorem Hub.refreshThr_keeps {km : Nat} (B : Hub.Bears km P) (wk : Sub 0x2000000000000000000 km) {h : Hub} (Hh : P h) : P (Hub.refreshThr h) := by
  unfold Hub.refreshThr
  extract_lets +onlyGivenNames v1
  clear_value v1
  extract_lets +onlyGivenNames v2
  clear_value v2
  exact (B.wr (wk.bit (by decide)) (B.wr (wk.bit (by decide)) (B.wr (wk.bit (by decide)) Hh)))

theorem Hub.refreshTx_keeps {km : Nat} (B : Hub.Bears km P) (wk : Sub 0x100000000 km) {l : ℕ} {h : Hub} (Hh : P h) : P (Hub.refreshTx l h) := by
  unfold Hub.refreshTx
  extract_lets +onlyGivenNames v1
  clear_value v1
  split
  · rename_i a2 a3 a4 a5 e6
    exact (B.wr (wk.bit (by decide)) (B.wr (wk.bit (by decide)) (B.wr (wk.bit (by decide)) (B.wr (wk.bit (by decide)) (B.wr (wk.bit (by decide)) Hh)))))

theorem Hub.refreshBudget_keeps {km : Nat} (B : Hub.Bears km P) (wk : Sub 0x10000000000000000000000000000 km) {h : Hub} (Hh : P h) : P (Hub.refreshBudget h) := by
  unfold Hub.refreshBudget
  exact (B.wr (wk.bit (by decide)) Hh)

theorem Hub.refreshVb_keeps {km : Nat} (B : Hub.Bears km P) (wk : Sub 0x10000000000000000000000000000 km) {n : ℕ} {h : Hub} (Hh : P h) : P (Hub.refreshVb n h) := by
  unfold Hub.refreshVb
  exact (Hub.wrBit_keeps B (wk.bit (by decide)) (Hub.wrBit_keeps B (wk.bit (by decide)) Hh))

theorem Hub.refreshMem_keeps {km : Nat} (B : Hub.Bears km P) (wk : Sub 0x10100000000000000000000000000000000 km) {h : Hub} (Hh : P h) : P (Hub.refreshMem h) := by
  unfold Hub.refreshMem
  extract_lets +onlyGivenNames v1
  clear_value v1
  exact (Hub.wrBit_keeps B (wk.bit (by decide)) (B.wr (wk.bit (by decide)) Hh))

theorem Hub.setPortStat_keeps {km : Nat} (B : Hub.Bears km P) (wk : Sub 0x4000000000000000000000010000000000000000000000000000000000000000 km) {h : Hub} {n v : Nat} (Hh : P h) : P (h.setPortStat n v) := by
  unfold Hub.setPortStat
  extract_lets +onlyGivenNames h1
  have H1 : P h1 := keep_each_mem (fun F hF _ H => B.wr (wk.bit ((by decide : ∀ F ∈ [USB.PORTSTAT_CONNECT, USB.PORTSTAT_ENABLE,
    USB.PORTSTAT_SUSPEND, USB.PORTSTAT_OVERCURRENT, USB.PORTSTAT_POWER, USB.PORTSTAT_SPEED, USB.PORTSTAT_L1],
    Nat.testBit 0x4000000000000000000000010000000000000000000000000000000000000000 F.kind = true) F hF)) H) Hh
  clear_value h1
  exact keep_when (fun _ H => Hub.irq_keeps B (wk.sub (by decide)) H) H1

theorem Hub.portEmpty_keeps {km : Nat} (B : Hub.Bears km P) (wk : Sub 0x4000000000000000000000010000000000000000000000000000000000000000 km) {h : Hub} {n : ℕ} (Hh : P h) : P (Hub.portEmpty h n) := by
  unfold Hub.portEmpty
  exact (Hub.setPortStat_keeps B (wk.sub (by decide)) Hh)

theorem Hub.udfDefault_keeps {km : Nat} (B : Hub.Bears km P) (wk : Sub 0x20000000000000000000000000000000000000000 km) {h : Hub} (Hh : P h) : P (Hub.udfDefault h) := by
  unfold Hub.udfDefault
  exact (B.wr (wk.bit (by decide)) (B.wr (wk.bit (by decide)) (B.wr (wk.bit (by decide)) (B.wr (wk.bit (by decide)) (B.wr (wk.bit (by decide)) (B.wr (wk.bit (by decide)) Hh))))))

theorem Hub.ep0Drop_keeps {km : Nat} (B : Hub.Bears km P) (wk : Sub 0x20000000000000000000000000000000000000000 km) {h : Hub} (Hh : P h) : P (Hub.ep0Drop h) := by
  unfold Hub.ep0Drop
  exact (B.wr (wk.bit (by decide)) (B.wr (wk.bit (by decide)) (B.wr (wk.bit (by decide)) Hh)))

theorem Hub.udfReset_keeps {km : Nat} (B : Hub.Bears km P) (wk : Sub 0x4000000000000000000000020000000000000000000000000000000000000000 km) {h : Hub} (Hh : P h) : P (Hub.udfReset h) := by
  unfold Hub.udfReset
  extract_lets +onlyGivenNames v1
  have H2 : P v1 := (keep_when (fun _ H4 => (Hub.cnt_keeps B (wk.bit (by decide)) (B.wr (wk.bit (by decide)) H4))) Hh)
  clear_value v1
  exact (Hub.irq_keeps B (wk.sub (by decide)) (B.wr (wk.bit (by decide)) (B.wr (wk.bit (by decide)) (Hub.udfDefault_keeps B (wk.sub (by decide)) (Hub.ep0Drop_keeps B (wk.sub (by decide)) H2)))))

theorem Hub.hubReset_keeps {km : Nat} (B : Hub.Bears km P) (wk : Sub 0x4000000000000000000000030000000000000000000000000000000000000000 km) {h : Hub} (Hh : P h) : P (Hub.hubReset h) := by
  unfold Hub.hubReset
  extract_lets +onlyGivenNames v1
  have H2 : P v1 := (keep_each (fun _ _ H5 => (Hub.setPortStat_keeps B (wk.sub (by decide)) H5)) Hh)
  clear_value v1
  exact (B.wr (wk.bit (by decide)) (B.wr (wk.bit (by decide)) (B.wr (wk.bit (by decide)) (B.wr (wk.bit (by decide)) (Hub.udfReset_keeps B (wk.sub (by decide)) (Hub.setPortStat_keeps B (wk.sub (by decide)) H2))))))

theorem Hub.usbSend_keeps {km : Nat} (B : Hub.Bears km P) (wk : Sub 0x40000000000000000000000000000000000000000000000000000000000000000000000000000000000000000 km) {h : Hub} {tid : ℕ} {p : UsbPkt} (Hh : P h) : P (Hub.usbSend h tid p) := by
  unfold Hub.usbSend
  exact (B.usbOut (wk.bit (by decide)) Hh)

theorem Hub.refreshHeld_keeps {km : Nat} (B : Hub.Bears km P) (wk : Sub 0x40000000000000000000000000000000000000000 km) {h : Hub} (Hh : P h) : P (Hub.refreshHeld h) := by
  unfold Hub.refreshHeld
  exact (B.wr (wk.bit (by decide)) Hh)

theorem Hub.heldDone_keeps {km : Nat} (B : Hub.Bears km P) (wk : Sub 0x140000000000008000000000000000000000000000000000040000000000000000000000000000000000000000 km) {h : Hub} {sl : ℕ} {x : UsbHeld} {status : ℕ} {actual : ℕ} {frame : ℕ} {toggle : Bool} {data : Bytes} (Hh : P h) : P (Hub.heldDone h sl x status actual frame toggle data) := by
  unfold Hub.heldDone
  extract_lets +onlyGivenNames v1
  clear_value v1
  extract_lets +onlyGivenNames v2
  have H3 : P v2 := (keep_when (fun _ H5 => (Hub.setTwords_keeps B (wk.sub (by decide)) H5)) Hh)
  clear_value v2
  extract_lets +onlyGivenNames v6
  have H7 : P v6 := (Hub.usbSend_keeps B (wk.sub (by decide)) (B.usbHeld (wk.bit (by decide)) H3))
  clear_value v6
  exact (Hub.setTfld_keeps B (wk.sub (by decide)) (Hub.refreshHeld_keeps B (wk.sub (by decide)) (B.wr (wk.bit (by decide)) (Hub.cnt_keeps B (wk.bit (by decide)) H7))))

theorem Hub.heldEnd_keeps {km : Nat} (B : Hub.Bears km P) (wk : Sub 0x140000000000808000000000000000000000000000000000040000000000000000000000000000000000000000 km) {status : ℕ} {p : ℕ × UsbHeld} {h : Hub} (Hh : P h) : P (Hub.heldEnd status p h) := by
  unfold Hub.heldEnd
  split
  · rename_i a1 a2 a3 e4
    have H5 := keep_snd e4 (Hub.free_keeps B (wk.sub (by decide)) Hh)
    split
    · rename_i a6 a7 a8 e9
      have H10 := keep_snd e9 (Hub.free_keeps B (wk.sub (by decide)) H5)
      exact (Hub.heldDone_keeps B (wk.sub (by decide)) H10)

theorem Hub.heldEndAll_keeps {km : Nat} (B : Hub.Bears km P) (wk : Sub 0x140000000000808000000000000000000000000000000000040000000000000000000000000000000000000000 km) {h : Hub} {status : ℕ} {c : UsbHeld → Bool} (Hh : P h) : P (Hub.heldEndAll h status c) := by
  unfold Hub.heldEndAll
  exact (keep_each (fun _ _ H3 => (Hub.heldEnd_keeps B (wk.sub (by decide)) H3)) Hh)

theorem Hub.refreshUp_keeps {km : Nat} (B : Hub.Bears km P) (wk : Sub 0x140000000002808000000000004000000000000000000000070000000000010000000000000000000000000400 km) {h : Hub} {detach : Bool} (Hh : P h) : P (Hub.refreshUp h detach) := by
  unfold Hub.refreshUp
  extract_lets +onlyGivenNames v1
  clear_value v1
  extract_lets +onlyGivenNames v2
  clear_value v2
  refine keep_ite ?_ ?_
  · exact Hh
  · extract_lets +onlyGivenNames v3
    have H4 : P v3 := (B.wr (wk.bit (by decide)) Hh)
    clear_value v3
    extract_lets +onlyGivenNames v5
    have H6 : P v5 := (keep_each (fun _ _ H9 => (keep_when (fun _ H11 => (Hub.portEmpty_keeps B (wk.sub (by decide)) H11)) H9)) H4)
    clear_value v5
    refine keep_ite ?_ ?_
    · exact H6
    · extract_lets +onlyGivenNames v12
      have H13 : P v12 := (B.wr (wk.bit (by decide)) (B.wr (wk.bit (by decide)) (Hub.hubReset_keeps B (wk.sub (by decide)) H6)))
      clear_value v12
      extract_lets +onlyGivenNames v14
      have H15 : P v14 := (keep_when (fun _ H17 => (Hub.heldEndAll_keeps B (wk.sub (by decide)) H17)) H13)
      clear_value v14
      exact (keep_when (fun _ H19 => (Hub.raise_keeps B (wk.sub (by decide)) H19)) (Hub.irq_keeps B (wk.sub (by decide)) (Hub.cnt_keeps B (wk.bit (by decide)) H15)))

theorem Hub.afterReset_keeps {km : Nat} (B : Hub.Bears km P) (wk : Sub 0x14000000000a808000000000004000000000000101010100070000010100210000000002030000000100001d1e km) {pg : ℕ} {h : Hub} (Hh : P h) : P (Hub.afterReset pg h) := by
  unfold Hub.afterReset
  refine keep_ite ?_ ?_
  · exact (keep_each (fun _ _ H3 => (Hub.wrBit_keeps B (wk.bit (by decide)) H3)) (keep_each (fun _ _ H6 => (Hub.wrBit_keeps B (wk.bit (by decide)) H6)) (B.wr (wk.bit (by decide)) Hh)))
  · refine keep_ite ?_ ?_
    · exact (Hub.refreshCap_keeps B (wk.sub (by decide)) (B.wr (wk.bit (by decide)) (B.wr (wk.bit (by decide)) Hh)))
    · refine keep_ite ?_ ?_
      · exact (Hub.refreshLpest_keeps B (wk.sub (by decide)) Hh)
      · refine keep_ite ?_ ?_
        · exact (Hub.refreshVotes_keeps B (wk.sub (by decide)) Hh)
        · refine keep_ite ?_ ?_
          · exact (Hub.refreshActs_keeps B (wk.sub (by decide)) Hh)
          · refine keep_ite ?_ ?_
            · exact (Hub.renewNonce_keeps B (wk.sub (by decide)) (fun _ => (wk.bitAt (kind_word_LCS_NONCE _) (by decide))) Hh)
            · refine keep_ite ?_ ?_
              · exact (Hub.renewNonce_keeps B (wk.sub (by decide)) (fun _ => (wk.bitAt (kind_word_DBG_NONCE _) (by decide))) Hh)
              · refine keep_ite ?_ ?_
                · exact (Hub.refreshFree_keeps B (wk.sub (by decide)) Hh)
                · refine keep_ite ?_ ?_
                  · exact (Hub.refreshUpstat_keeps B (wk.sub (by decide)) Hh)
                  · refine keep_ite ?_ ?_
                    · exact (Hub.refreshThr_keeps B (wk.sub (by decide)) Hh)
                    · refine keep_ite ?_ ?_
                      · exact (Hub.refreshLpest_keeps B (wk.sub (by decide)) (B.wr (wk.bit (by decide)) (Hub.refreshTx_keeps B (wk.sub (by decide)) Hh)))
                      · refine keep_ite ?_ ?_
                        · exact (Hub.refreshSummary_keeps B (wk.sub (by decide)) (Hub.refreshBudget_keeps B (wk.sub (by decide)) (keep_each (fun _ _ H9 => (Hub.refreshVb_keeps B (wk.sub (by decide)) H9)) Hh)))
                        · refine keep_ite ?_ ?_
                          · exact (Hub.refreshSummary_keeps B (wk.sub (by decide)) (B.wr (wk.bit (by decide)) Hh))
                          · refine keep_ite ?_ ?_
                            · exact (Hub.refreshSummary_keeps B (wk.sub (by decide)) Hh)
                            · refine keep_ite ?_ ?_
                              · exact (Hub.refreshMem_keeps B (wk.sub (by decide)) Hh)
                              · refine keep_ite ?_ ?_
                                · exact (Hub.refreshUp_keeps B (wk.sub (by decide)) Hh)
                                · exact (keep_ite (Hub.refreshBus_keeps B (wk.sub (by decide)) Hh) Hh)

theorem Hub.askFor_keeps {km : Nat} (B : Hub.Bears km P) (wk : Sub 0x808000000000000000000000000000000000000000000000000000000000000010000000000000000 km) {h : Hub} {g : Option ℕ} {typ : ℕ} {dst : ℕ} {body : Bytes} (Hh : P h) : P (Hub.askFor h g typ dst body) := by
  unfold Hub.askFor
  extract_lets +onlyGivenNames v1
  clear_value v1
  extract_lets +onlyGivenNames v2
  clear_value v2
  extract_lets +onlyGivenNames v3
  have H4 : P v3 := (Hub.ctlSend_keeps B (wk.sub (by decide)) (B.wr (wk.bit (by decide)) Hh))
  clear_value v3
  exact (B.asks (wk.bit (by decide)) H4)

theorem Hub.appoint_keeps {km : Nat} (B : Hub.Bears km P) (wk : Sub 0x808000000000000000000000000000000000000000000000000000000000000010000000000000000 km) {h : Hub} (Hh : P h) : P (Hub.appoint h) := by
  unfold Hub.appoint
  split
  · rename_i a1 a2 e3
    exact (Hub.askFor_keeps B (wk.sub (by decide)) Hh)
  · rename_i a4 e5
    exact Hh

theorem Hub.afterSettling_keeps {km : Nat} (B : Hub.Bears km P) (wk : Sub 0x808000000000000000000000000000000000000000000000000000000000000010000000000000000 km) {h : Hub} (Hh : P h) : P (Hub.afterSettling h) := by
  unfold Hub.afterSettling
  exact (keep_when (fun _ H2 => (Hub.appoint_keeps B (wk.sub (by decide)) H2)) Hh)

theorem Hub.setPkt_keeps {km : Nat} (B : Hub.Bears km P) (wk : Sub 0x20000000000000000000000000000000000000000000000000000000000000000000000000000000 km) {h : Hub} {id : ℕ} {p : Pkt} (Hh : P h) : P (Hub.setPkt h id p) := by
  unfold Hub.setPkt
  exact (B.pkts (wk.bit (by decide)) Hh)

theorem Hub.dec_keeps {km : Nat} (B : Hub.Bears km P) {h : Hub} {F : Fld} {n : ℕ} {i : optParam ℕ 0} {b : optParam ℕ 0} (wF : km.testBit F.kind = true) (Hh : P h) : P (Hub.dec h F n i b) := by
  unfold Hub.dec
  exact (B.wr wF Hh)

theorem Hub.setQueue_keeps {km : Nat} (B : Hub.Bears km P) (wk : Sub 0x100000000000000000000000000000000000000000000000000000000000100000000000000000000 km) {h : Hub} {q : ℕ} {l : List ℕ} (Hh : P h) : P (Hub.setQueue h q l) := by
  unfold Hub.setQueue
  extract_lets +onlyGivenNames v1
  have H2 : P v1 := (B.wr (wk.bit (by decide)) (B.queues (wk.bit (by decide)) Hh))
  clear_value v1
  exact (keep_ite (B.wr (wk.bit (by decide)) (B.wr (wk.bit (by decide)) H2)) H2)

theorem Hub.strand_keeps {km : Nat} (B : Hub.Bears km P) (wk : Sub 0x52000000000000000000000000000000000000000000000000000000000010a000000000000000000 km) {h : Hub} {id : ℕ} {p : Pkt} (Hh : P h) : P (Hub.strand h id p) := by
  unfold Hub.strand
  exact (Hub.setPkt_keeps B (wk.sub (by decide)) (keep_each (fun _ _ H3 => (by
    extract_lets +onlyGivenNames v4
    clear_value v4
    extract_lets +onlyGivenNames v5
    have H6 : P v5 := (Hub.dec_keeps B (wk.bit (by decide)) (Hub.setQueue_keeps B (wk.sub (by decide)) H3))
    clear_value v5
    exact (keep_when (fun _ H8 => (Hub.shaperEnd_keeps B (wk.sub (by decide)) H8)) (keep_when (fun _ H10 => (Hub.cnt_keeps B (wk.bit (by decide)) H10)) H6)))) Hh))

theorem Hub.refFault_keeps {km : Nat} (B : Hub.Bears km P) (wk : Sub 0x52280000000000000400000000000000000000000000000000001000000010a000000000000000400 km) {id : ℕ} {h : Hub} (Hh : P h) : P (Hub.refFault id h) := by
  unfold Hub.refFault
  extract_lets +onlyGivenNames v1
  have H2 : P v1 := (by
      unfold v1
      split
      · rename_i a3 a4 e5
        exact (Hub.raise_keeps B (wk.sub (by decide)) (Hub.strand_keeps B (wk.sub (by decide)) Hh))
      · rename_i a6 e7
        exact (Hub.raise_keeps B (wk.sub (by decide)) Hh))
  clear_value v1
  exact (keep_each (fun _ _ H10 => (keep_when (fun _ H12 => (Hub.setQueue_keeps B (wk.sub (by decide)) H12)) H10)) H2)

theorem Hub.giveCell_keeps {km : Nat} (B : Hub.Bears km P) (wk : Sub 0x3000000000000000000 km) {q : ℕ} {c : PCell} {h : Hub} (Hh : P h) : P (Hub.giveCell q c h) := by
  unfold Hub.giveCell
  extract_lets +onlyGivenNames v1
  clear_value v1
  extract_lets +onlyGivenNames v2
  have H3 : P v2 := (B.wr (wk.bit (by decide)) (B.wr (wk.bit (by decide)) (B.wr (wk.bit (by decide)) Hh)))
  clear_value v2
  refine keep_ite ?_ ?_
  · extract_lets +onlyGivenNames v4
    clear_value v4
    exact (B.wr (wk.bit (by decide)) (B.wr (wk.bit (by decide)) H3))
  · exact (keep_ite (B.wr (wk.bit (by decide)) H3) H3)

theorem Hub.freePkt_keeps {km : Nat} (B : Hub.Bears km P) (wk : Sub 0x2000000000000000000000000000000000000000000000000000000000000b000000000000000000 km) {h : Hub} {id : ℕ} {p : Pkt} (Hh : P h) : P (Hub.freePkt h id p) := by
  unfold Hub.freePkt
  refine keep_ite ?_ ?_
  · exact (Hub.setPkt_keeps B (wk.sub (by decide)) Hh)
  · extract_lets +onlyGivenNames v1
    have H2 : P v1 := (keep_each (fun _ _ H5 => (Hub.giveCell_keeps B (wk.sub (by decide)) H5)) Hh)
    clear_value v1
    extract_lets +onlyGivenNames v6
    have H7 : P v6 := (B.wr (wk.bit (by decide)) (B.wr (wk.bit (by decide)) (B.pkts (wk.bit (by decide)) H2)))
    clear_value v6
    exact (keep_ite (Hub.dec_keeps B (wk.bit (by decide)) H7) H7)

theorem Hub.leave_keeps {km : Nat} (B : Hub.Bears km P) (wk : Sub 0x52280000000000000400000000000000000000000000000000001000000010b000000000000000400 km) {h : Hub} {id : ℕ} {pt : ℕ} (Hh : P h) : P (Hub.leave h id pt) := by
  unfold Hub.leave
  split
  · rename_i a1 e2
    exact (Hub.refFault_keeps B (wk.sub (by decide)) Hh)
  · rename_i a3 a4 e5
    refine keep_ite ?_ ?_
    · extract_lets +onlyGivenNames v6
      clear_value v6
      extract_lets +onlyGivenNames v7
      clear_value v7
      extract_lets +onlyGivenNames v8
      have H9 : P v8 := (Hub.dec_keeps B (wk.bit (by decide)) (Hub.setQueue_keeps B (wk.sub (by decide)) Hh))
      clear_value v8
      refine keep_ite ?_ ?_
      · exact (Hub.setPkt_keeps B (wk.sub (by decide)) H9)
      · exact (keep_ite (Hub.refFault_keeps B (wk.sub (by decide)) (Hub.setPkt_keeps B (wk.sub (by decide)) H9)) (Hub.freePkt_keeps B (wk.sub (by decide)) H9))
    · exact (Hub.refFault_keeps B (wk.sub (by decide)) Hh)

theorem Hub.discard_keeps {km : Nat} (B : Hub.Bears km P) (wk : Sub 0x52280000000000000400000000000000000000000000000000001000000010b000000000000000400 km) {h : Hub} {id : ℕ} {pt : ℕ} (Hh : P h) : P (Hub.discard h id pt) := by
  unfold Hub.discard
  split
  · rename_i a1 e2
    exact Hh
  · rename_i a3 a4 e5
    exact (keep_when (fun _ H7 => (Hub.shaperEnd_keeps B (wk.sub (by decide)) H7)) (Hub.leave_keeps B (wk.sub (by decide)) (keep_when (fun _ H9 => (Hub.cnt_keeps B (wk.bit (by decide)) H9)) Hh)))

theorem Hub.ageDrop_keeps {km : Nat} (B : Hub.Bears km P) (wk : Sub 0x52280000000000000400000000000000000000000000000000001000000010f000000000000000400 km) {h : Hub} {id : ℕ} {pt : ℕ} {p : Pkt} (Hh : P h) : P (Hub.ageDrop h id pt p) := by
  unfold Hub.ageDrop
  extract_lets +onlyGivenNames v1
  have H2 : P v1 := (B.wr (wk.bit (by decide)) (B.wr (wk.bit (by decide)) (B.wr (wk.bit (by decide)) (Hub.cnt_keeps B (wk.bit (by decide)) (Hub.cnt_keeps B (wk.bit (by decide)) Hh)))))
  clear_value v1
  exact (Hub.discard_keeps B (wk.sub (by decide)) (Hub.irq_keeps B (wk.sub (by decide)) (Hub.raise_keeps B (wk.sub (by decide)) H2)))

theorem Hub.ageFields_keeps {km : Nat} (B : Hub.Bears km P) (wk : Sub 0x10000 km) {p : ℕ} {h : Hub} (Hh : P h) : P (Hub.ageFields p h) := by
  unfold Hub.ageFields
  exact (keep_each (fun _ _ H3 => (B.wr (wk.bit (by decide)) H3)) (B.wr (wk.bit (by decide)) Hh))

theorem Hub.purge_keeps {km : Nat} (B : Hub.Bears km P) (wk : Sub 0x52280000000000000400000000000000000000000000000000001000000010a000000000000000400 km) {h : Hub} {e : ℕ} (Hh : P h) : P (Hub.purge h e) := by
  unfold Hub.purge
  exact (keep_each (fun _ _ H3 => (Hub.refFault_keeps B (wk.sub (by decide)) H3)) Hh)

theorem Hub.sweepQueue_keeps {km : Nat} (B : Hub.Bears km P) (wk : Sub 0x52280000000000000400000000000000000000000000000000001000000010f000000000000000400 km) {q n : Nat} : ∀ {h : Hub}, P h → P (h.sweepQueue q n) := by
  induction n with
  | zero => exact fun H => H
  | succ n ih =>
    intro h H
    rw [Hub.sweepQueue]
    split
    · exact H
    · split
      · exact ih (Hub.purge_keeps B (wk.sub (by decide)) H)
      · exact keep_ite H (ih (Hub.ageDrop_keeps B (wk.sub (by decide)) H))

theorem Hub.ageSweep_keeps {km : Nat} (B : Hub.Bears km P) (wk : Sub 0x52280000000000000400000000000000000000000000000000001000000010f000000000000000400 km) {h : Hub} (Hh : P h) : P (Hub.ageSweep h) := by
  unfold Hub.ageSweep
  exact (keep_each (fun _ _ H3 => (Hub.sweepQueue_keeps B (wk.sub (by decide)) H3)) Hh)

theorem Hub.regRspSend_keeps {km : Nat} (B : Hub.Bears km P) (wk : Sub 0x8000000000000000000000000000000000000000000000000000000000000000000000000000000 km) {h : Hub} {src : ℕ} {tok : ℕ} {status : ℕ} {failidx : ℕ} {count : ℕ} {data : List ℕ} (Hh : P h) : P (Hub.regRspSend h src tok status failidx count data) := by
  unfold Hub.regRspSend
  exact (Hub.ctlSend_keeps B (wk.sub (by decide)) Hh)

theorem Hub.answer_keeps {km : Nat} (B : Hub.Bears km P) (wk : Sub 0x80000000000000000000000000000000000000000000000000000000000000000000000000000 km) {h : Hub} {m : MasterId} {a : Resp} (Hh : P h) : P (Hub.answer h m a) := by
  unfold Hub.answer
  exact (B.resp (wk.bit (by decide)) Hh)

theorem Hub.violation_keeps {km : Nat} (B : Hub.Bears km P) (wk : Sub 0x2800000000000004000000000000000000000000000000000010000000000000000000000000500 km) {h : Hub} {c : Cap} {m : ℕ} {code : ℕ} {node : ℕ} {entry : Option ℕ} (Hh : P h) : P (Hub.violation h c m code node entry) := by
  unfold Hub.violation
  extract_lets +onlyGivenNames v1
  clear_value v1
  extract_lets +onlyGivenNames v2
  have H3 : P v2 := (Hub.irq_keeps B (wk.sub (by decide)) (Hub.raise_keeps B (wk.sub (by decide)) Hh))
  clear_value v2
  extract_lets +onlyGivenNames v4
  have H5 : P v4 := (B.wr (wk.bit (by decide)) (B.wr (wk.bit (by decide)) (B.wr (wk.bit (by decide)) (Hub.cnt_keeps B (wk.bit (by decide)) H3))))
  clear_value v4
  exact (keep_ite (B.wr (wk.bit (by decide)) (B.wr (wk.bit (by decide)) (B.wr (wk.bit (by decide)) H5))) H5)

theorem Hub.recordRefusal_keeps {km : Nat} (B : Hub.Bears km P) (wk : Sub 0x2800000000000004000000000000000000000000000000000010000000000000000000000000500 km) {h : Hub} {r : Req} {write : Bool} {addr : ℕ} {e : AccErr} (Hh : P h) : P (Hub.recordRefusal h r write addr e) := by
  unfold Hub.recordRefusal
  split
  · rename_i a1
    exact (Hub.raise_keeps B (wk.sub (by decide)) Hh)
  · rename_i a2
    exact (Hub.raise_keeps B (wk.sub (by decide)) Hh)
  · rename_i a3
    exact (Hub.raise_keeps B (wk.sub (by decide)) Hh)
  · rename_i a4
    exact (Hub.raise_keeps B (wk.sub (by decide)) Hh)
  · rename_i a5 a6 a7
    exact (Hub.violation_keeps B (wk.sub (by decide)) Hh)

theorem Hub.dropLatch_keeps {km : Nat} (B : Hub.Bears km P) (wk : Sub 0x20000000000000000000000000000000000000000000000000000000000000000000000000000 km) {h : Hub} {m : MasterId} (Hh : P h) : P (Hub.dropLatch h m) := by
  unfold Hub.dropLatch
  exact (B.latch64 (wk.bit (by decide)) Hh)

theorem Hub.asWrite_keeps {km : Nat} (B : Hub.Bears km P) (wk : Sub 0x28a0000000000004000000000000000000000000000000000010000000000000000000000000500 km) {h : Hub} {r : Req} {addr : ℕ} {size : ℕ} {f : Hub → Hub} (Hh : P h) (Hf : ∀ a0, P a0 → P (f a0)) : P (Hub.asWrite h r addr size f) := by
  unfold Hub.asWrite
  refine keep_ite ?_ ?_
  · exact Hh
  · split
    · rename_i a1 a2 e3
      exact (Hub.answer_keeps B (wk.sub (by decide)) (Hub.recordRefusal_keeps B (wk.sub (by decide)) (Hub.dropLatch_keeps B (wk.sub (by decide)) Hh)))
    · rename_i a4 e5
      exact (Hub.answer_keeps B (wk.sub (by decide)) (Hf _ (Hub.dropLatch_keeps B (wk.sub (by decide)) Hh)))

theorem Hub.clearStaging_keeps {km : Nat} (B : Hub.Bears km P) (wk : Sub 0x10000000000000000000000000000000000000000000000000000000000000000000000000000 km) {h : Hub} {m : MasterId} {t : ℕ} (Hh : P h) : P (Hub.clearStaging h m t) := by
  unfold Hub.clearStaging
  exact (B.staging (wk.bit (by decide)) Hh)

theorem Hub.freeContext_keeps {km : Nat} (B : Hub.Bears km P) (wk : Sub 0x80000000000000000000000000000000000000000000000000000200000000000000000000000000 km) {h : Hub} {ctx : ℕ} (Hh : P h) : P (Hub.freeContext h ctx) := by
  unfold Hub.freeContext
  exact (B.wr (wk.bit (by decide)) (B.wr (wk.bit (by decide)) (B.opens (wk.bit (by decide)) Hh)))

theorem Hub.tunReplace_keeps {km : Nat} (B : Hub.Bears km P) (wk : Sub 0x82808000000000004000000000000000000000000000000000010200000000010000000000000400 km) {h : Hub} {i : ℕ} {ws : Ent} {c : optParam Cap { }} (Hh : P h) : P (Hub.tunReplace h i ws c) := by
  unfold Hub.tunReplace
  refine keep_ite ?_ ?_
  · exact (Hub.raise_keeps B (wk.sub (by decide)) Hh)
  · extract_lets +onlyGivenNames v1
    clear_value v1
    extract_lets +onlyGivenNames v2
    have H3 : P v2 := (Hub.setTwords_keeps B (wk.sub (by decide)) Hh)
    clear_value v2
    refine keep_ite ?_ ?_
    · exact (Hub.setTfld_keeps B (wk.sub (by decide)) H3)
    · extract_lets +onlyGivenNames v4
      have H5 : P v4 := (B.wr (wk.bit (by decide)) (Hub.setTfld_keeps B (wk.sub (by decide)) H3))
      clear_value v4
      exact (keep_ite (Hub.freeContext_keeps B (wk.sub (by decide)) H5) H5)

theorem Hub.refreshFit_keeps {km : Nat} (B : Hub.Bears km P) (wk : Sub 0x2800000000000004000000000000000000000000000000000210000000000000000000000000400 km) {h : Hub} {d : ℕ} (Hh : P h) : P (Hub.refreshFit h d) := by
  unfold Hub.refreshFit
  extract_lets +onlyGivenNames v1
  clear_value v1
  exact (keep_when (fun _ H3 => (Hub.raise_keeps B (wk.sub (by decide)) H3)) (B.wr (wk.bit (by decide)) Hh))

theorem Hub.slotReplace_keeps {km : Nat} (B : Hub.Bears km P) (wk : Sub 0x2808000000000004000000000000000000000000000000000210000000000000000000000000400 km) {h : Hub} {k : ℕ} {ws : List ℕ} {c : optParam Cap { }} (Hh : P h) : P (Hub.slotReplace h k ws c) := by
  unfold Hub.slotReplace
  exact (keep_ite (Hub.raise_keeps B (wk.sub (by decide)) Hh) (keep_each (fun _ _ H3 => (Hub.refreshFit_keeps B (wk.sub (by decide)) H3)) (Hub.setTwords_keeps B (wk.sub (by decide)) Hh)))

theorem Hub.entryReplace_keeps {km : Nat} (B : Hub.Bears km P) (wk : Sub 0x82808000000000004000000000000000000000000000000000210200000000010000000000000400 km) {h : Hub} {t : ℕ} {row : TableRow} {e : ℕ} {ws : List ℕ} {c : optParam Cap { }} (Hh : P h) : P (Hub.entryReplace h t row e ws c) := by
  unfold Hub.entryReplace
  refine keep_ite ?_ ?_
  · exact (Hub.tunReplace_keeps B (wk.sub (by decide)) Hh)
  · exact (keep_ite (Hub.slotReplace_keeps B (wk.sub (by decide)) Hh) (Hub.setTwords_keeps B (wk.sub (by decide)) Hh))

theorem Hub.stage_keeps {km : Nat} (B : Hub.Bears km P) (wk : Sub 0x10000000000000000000000000000000000000000000000000000000000000000000000000000 km) {h : Hub} {m : MasterId} {t : ℕ} {e : ℕ} {w : ℕ} {v : ℕ} (Hh : P h) : P (Hub.stage h m t e w v) := by
  unfold Hub.stage
  extract_lets +onlyGivenNames v1
  clear_value v1
  extract_lets +onlyGivenNames v2
  clear_value v2
  exact (B.staging (wk.bit (by decide)) Hh)

theorem Hub.tableWrite_keeps {km : Nat} (B : Hub.Bears km P) (wk : Sub 0x82818000000000004000000000000000000000000000000000210200000000010000000000000400 km) {h : Hub} {r : Req} {t : ℕ} {row : TableRow} {addr : ℕ} {v : ℕ} (Hh : P h) : P (Hub.tableWrite h r t row addr v) := by
  unfold Hub.tableWrite
  extract_lets +onlyGivenNames v1
  clear_value v1
  extract_lets +onlyGivenNames v2
  clear_value v2
  extract_lets +onlyGivenNames v3
  clear_value v3
  exact (keep_ite (Hub.clearStaging_keeps B (wk.sub (by decide)) (Hub.entryReplace_keeps B (wk.sub (by decide)) Hh)) (Hub.stage_keeps B (wk.sub (by decide)) Hh))

theorem Hub.clearRegs_keeps {km : Nat} (B : Hub.Bears km P) (wk : Sub 0x8000000000000000000000000000000000000000000000000000000000000000 km) {h : Hub} {c : Nat → Bool} (Hh : P h) : P (h.clearRegs c) := by
  unfold Hub.clearRegs
  exact B.regs (wk.bit (by decide)) Hh fun S => Tab.filter_sorted _ S

theorem Hub.dropShadow_keeps {km : Nat} (B : Hub.Bears km P) (wk : Sub 0x2000000000000000001000000000000000000000000000000000000000000000000000000000 km) {h : Hub} {pg : ℕ} (Hh : P h) : P (Hub.dropShadow h pg) := by
  unfold Hub.dropShadow
  exact (B.wr (wk.bit (by decide)) (B.shadow (wk.bit (by decide)) Hh))

theorem Hub.endWidth_keeps {km : Nat} (B : Hub.Bears km P) (wk : Sub 0x10000 km) {h : Hub} {p : ℕ} {done : ℕ} (Hh : P h) : P (Hub.endWidth h p done) := by
  unfold Hub.endWidth
  exact (B.wr (wk.bit (by decide)) (B.wr (wk.bit (by decide)) (B.wr (wk.bit (by decide)) Hh)))

theorem Hub.setPort_keeps {km : Nat} (B : Hub.Bears km P) (wk : Sub 0x4000200000000000000000000000000000000000000000000000000000004000 km) {h : Hub} {p : ℕ} {s : ℕ} (Hh : P h) : P (Hub.setPort h p s) := by
  unfold Hub.setPort
  extract_lets +onlyGivenNames v1
  clear_value v1
  exact (keep_ite Hh (keep_when (fun _ H3 => (B.wr (wk.bit (by decide)) H3)) (Hub.irq_keeps B (wk.sub (by decide)) (B.wr (wk.bit (by decide)) Hh))))

theorem Hub.clearLink_keeps {km : Nat} (B : Hub.Bears km P) (wk : Sub 0xb88200000000000000000000200000000000000000000000000000000000000000000000000100010000 km) {h : Hub} {p : Nat} (Hh : P h) : P (h.clearLink p) := by
  unfold Hub.clearLink
  extract_lets +onlyGivenNames h1
  have H1 : P h1 := keep_each_mem (fun F hF _ H => B.wr (wk.bit ((by decide : ∀ F ∈ linkFields,
    Nat.testBit 0xb88200000000000000000000200000000000000000000000000000000000000000000000000100010000 F.kind = true) F hF)) H) Hh
  clear_value h1
  extract_lets +onlyGivenNames h2
  have H2 : P h2 := keep_each_mem (fun F hF _ H => keep_each (fun _ _ H => B.wr (wk.bit ((by decide : ∀ F ∈ [OPT.hFreed,
    OPT.hHeld, OPT.hCredSent, OPT.hCredLast, OPT.hAdv, OPT.hCredAge], Nat.testBit 0xb88200000000000000000000200000000000000000000000000000000000000000000000000100010000 F.kind = true) F hF)) H) H) H1
  clear_value h2
  extract_lets +onlyGivenNames h3
  have H3 : P h3 := keep_each (fun _ _ H => B.wr (wk.bit (by decide)) H) H2
  clear_value h3
  exact B.set_egOut_lmcQ_replay_spanRx_spanTx_capRx (wk.bit (by decide)) (wk.bit (by decide)) (wk.bit (by decide)) (wk.bit (by decide)) (wk.bit (by decide)) (wk.bit (by decide)) H3

theorem Hub.endPm_keeps {km : Nat} (B : Hub.Bears km P) (wk : Sub 0x10000 km) {h : Hub} {p : ℕ} {st : ℕ} (Hh : P h) : P (Hub.endPm h p st) := by
  unfold Hub.endPm
  exact (B.wr (wk.bit (by decide)) (B.wr (wk.bit (by decide)) (B.wr (wk.bit (by decide)) (B.wr (wk.bit (by decide)) Hh))))

theorem Hub.holdAdapted_keeps {km : Nat} (B : Hub.Bears km P) (wk : Sub 0x800000000000000000000000000000000000000000000000000000000000000000000100000000 km) {l : ℕ} {h : Hub} (Hh : P h) : P (Hub.holdAdapted l h) := by
  unfold Hub.holdAdapted
  exact (keep_when (fun _ H2 => (Hub.adapt_keeps B (wk.sub (by decide)) H2)) Hh)

theorem Hub.freshLock_keeps {km : Nat} (B : Hub.Bears km P) (wk : Sub 0x100000000 km) {l : ℕ} {h : Hub} (Hh : P h) : P (Hub.freshLock l h) := by
  unfold Hub.freshLock
  exact (B.wr (wk.bit (by decide)) (B.wr (wk.bit (by decide)) (B.wr (wk.bit (by decide)) (B.wr (wk.bit (by decide)) (B.wr (wk.bit (by decide)) Hh)))))

theorem Hub.refreshLanePll_keeps {km : Nat} (B : Hub.Bears km P) (wk : Sub 0x2 km) {h : Hub} {k : ℕ} (Hh : P h) : P (Hub.refreshLanePll h k) := by
  unfold Hub.refreshLanePll
  exact (keep_when (fun _ H2 => (Hub.wrBit_keeps B (wk.bit (by decide)) (Hub.wrBit_keeps B (wk.bit (by decide)) H2))) Hh)

theorem Hub.commitPage_keeps {km : Nat} (B : Hub.Bears km P) (wk : Sub 0x2000000000008000001000000000000000000000000000000000000000000000000000000000 km) {h : Hub} {pg : Nat} (Hh : P h) : P (h.commitPage pg) := by
  unfold Hub.commitPage
  extract_lets mine h1
  have H1 : P h1 := keep_foldl (fun h p H => by
    split
    · exact B.regs (wk.bit (by decide)) H fun S => Tab.put_sorted _ _ _ S
    · exact H) Hh
  clear_value h1
  exact B.wr (wk.bit (by decide)) (B.shadow (wk.bit (by decide)) H1)

theorem Hub.txCommit_keeps {km : Nat} (B : Hub.Bears km P) (wk : Sub 0x280200000000000c000001000000000000000000000000000010000000000000000000100000400 km) {l : ℕ} {h : Hub} (Hh : P h) : P (Hub.txCommit l h) := by
  unfold Hub.txCommit
  refine keep_ite ?_ ?_
  · exact Hh
  · exact (keep_ite (Hub.refreshTx_keeps B (wk.sub (by decide)) (Hub.commitPage_keeps B (wk.sub (by decide)) Hh)) (Hub.raise_keeps B (wk.sub (by decide)) (Hub.dropShadow_keeps B (wk.sub (by decide)) Hh)))

theorem Hub.setLane_keeps {km : Nat} (B : Hub.Bears km P) (wk : Sub 0x280200000000000c000001000000000000000000000000000010000000000000000000100000402 km) {h0 : Hub} {l : ℕ} {s : ℕ} (Hh0 : P h0) : P (Hub.setLane h0 l s) := by
  unfold Hub.setLane
  refine keep_ite ?_ ?_
  · exact Hh0
  · extract_lets +onlyGivenNames v1
    have H2 : P v1 := (keep_when (fun _ H4 => (Hub.holdAdapted_keeps B (wk.sub (by decide)) H4)) Hh0)
    clear_value v1
    extract_lets +onlyGivenNames v5
    have H6 : P v5 := (Hub.irq_keeps B (wk.sub (by decide)) (B.wr (wk.bit (by decide)) H2))
    clear_value v5
    extract_lets +onlyGivenNames v7
    have H8 : P v7 := (keep_when (fun _ H10 => (B.wr (wk.bit (by decide)) H10)) H6)
    clear_value v7
    extract_lets +onlyGivenNames v11
    have H12 : P v11 := (keep_when (fun _ H14 => (B.wr (wk.bit (by decide)) (B.wr (wk.bit (by decide)) (Hub.freshLock_keeps B (wk.sub (by decide)) (B.wr (wk.bit (by decide)) H14))))) H8)
    clear_value v11
    extract_lets +onlyGivenNames v15
    have H16 : P v15 := (keep_when (fun _ H18 => (B.wr (wk.bit (by decide)) H18)) H12)
    clear_value v15
    exact (Hub.refreshLanePll_keeps B (wk.sub (by decide)) (keep_when (fun _ H20 => (Hub.txCommit_keeps B (wk.sub (by decide)) H20)) H16))

theorem Hub.drawTie_keeps {km : Nat} (B : Hub.Bears km P) (wk : Sub 0x800000000000000000000000000000000000000000000000000000000000000000000100010000 km) {h : Hub} {p : ℕ} (Hh : P h) : P (Hub.drawTie h p) := by
  unfold Hub.drawTie
  split
  · rename_i a1 a2 a3 e4
    have H5 := keep_snd e4 (Hub.free_keeps B (wk.sub (by decide)) Hh)
    exact (keep_each (fun _ _ H8 => (B.wr (wk.bit (by decide)) H8)) (B.wr (wk.bit (by decide)) H5))

theorem Hub.toDetect_keeps {km : Nat} (B : Hub.Bears km P) (wk : Sub 0x280200000000000c000001000000000000000000000000000010000000000000000000100010402 km) {h : Hub} {l : ℕ} (Hh : P h) : P (Hub.toDetect h l) := by
  unfold Hub.toDetect
  extract_lets +onlyGivenNames v1
  clear_value v1
  extract_lets +onlyGivenNames v2
  clear_value v2
  exact (Hub.refreshTx_keeps B (wk.sub (by decide)) (B.wr (wk.bit (by decide)) (B.wr (wk.bit (by decide)) (B.wr (wk.bit (by decide)) (B.wr (wk.bit (by decide)) (B.wr (wk.bit (by decide)) (B.wr (wk.bit (by decide)) (Hub.setLane_keeps B (wk.sub (by decide)) (keep_when (fun _ H4 => (Hub.drawTie_keeps B (wk.sub (by decide)) H4)) Hh)))))))))

theorem Hub.settlePoison_keeps {km : Nat} (B : Hub.Bears km P) (wk : Sub 0x52280000000000000400000000000000000000000000000000001000000010b000000000000000400 km) {h : Hub} {id : ℕ} (Hh : P h) : P (Hub.settlePoison h id) := by
  unfold Hub.settlePoison
  split
  · rename_i a1 e2
    exact Hh
  · rename_i a3 a4 e5
    exact (keep_ite (keep_each (fun _ _ H8 => (Hub.discard_keeps B (wk.sub (by decide)) (Hub.cnt_keeps B (wk.bit (by decide)) H8))) Hh) Hh)

theorem Hub.completePkt_keeps {km : Nat} (B : Hub.Bears km P) (wk : Sub 0x52280000000000000400000000000000000000000000000000001000000010b000000000000000400 km) {h : Hub} {id : ℕ} (Hh : P h) : P (Hub.completePkt h id) := by
  unfold Hub.completePkt
  split
  · rename_i a1 e2
    exact Hh
  · rename_i a3 a4 e5
    exact (Hub.settlePoison_keeps B (wk.sub (by decide)) (Hub.cntN_keeps B (wk.bit (by decide)) (Hub.setPkt_keeps B (wk.sub (by decide)) Hh)))

theorem Hub.poisonPkt_keeps {km : Nat} (B : Hub.Bears km P) (wk : Sub 0x52280000000000000400000000000000000000000000000000001000000010b000000000000000400 km) {h : Hub} {id : ℕ} (Hh : P h) : P (Hub.poisonPkt h id) := by
  unfold Hub.poisonPkt
  split
  · rename_i a1 e2
    exact Hh
  · rename_i a3 a4 e5
    exact (keep_ite Hh (Hub.settlePoison_keeps B (wk.sub (by decide)) (Hub.cnt_keeps B (wk.bit (by decide)) (Hub.setPkt_keeps B (wk.sub (by decide)) Hh))))

theorem Hub.endEarly_keeps {km : Nat} (B : Hub.Bears km P) (wk : Sub 0x52280000000000000400000000000000000000000000000000001000000010b000000000000000400 km) {h : Hub} {id : ℕ} (Hh : P h) : P (Hub.endEarly h id) := by
  unfold Hub.endEarly
  split
  · rename_i a1 e2
    exact Hh
  · rename_i a3 a4 e5
    exact (keep_ite Hh (Hub.completePkt_keeps B (wk.sub (by decide)) (Hub.poisonPkt_keeps B (wk.sub (by decide)) (Hub.setPkt_keeps B (wk.sub (by decide)) Hh))))

theorem Hub.copyEnd_keeps {km : Nat} (B : Hub.Bears km P) (wk : Sub 0x200000000000000000000000000 km) {h : Hub} {c : Copy} {poison : Bool} (Hh : P h) : P (Hub.copyEnd h c poison) := by
  unfold Hub.copyEnd
  extract_lets +onlyGivenNames v1
  have H2 : P v1 := (B.wr (wk.bit (by decide)) Hh)
  clear_value v1
  exact (keep_ite (Hub.cnt_keeps B (wk.bit (by decide)) H2) (Hub.cnt_keeps B (kind_ite (wk.bit (by decide)) (wk.bit (by decide))) (B.wr (wk.bit (by decide)) (B.wr (wk.bit (by decide)) H2))))

theorem Hub.closeOpen_keeps {km : Nat} (B : Hub.Bears km P) (wk : Sub 0x5a280000000000000400000000000000000000000000000000001020000010b000000000000000400 km) {h : Hub} {k : ℕ} (Hh : P h) : P (Hub.closeOpen h k) := by
  unfold Hub.closeOpen
  split
  · rename_i a1 e2
    exact Hh
  · rename_i a3 a4 e5
    extract_lets +onlyGivenNames v6
    have H7 : P v6 := (B.opens (wk.bit (by decide)) Hh)
    clear_value v6
    extract_lets +onlyGivenNames v8
    have H9 : P v8 := (by
        unfold v8
        split
        · rename_i a10 a11 e12
          exact (Hub.endEarly_keeps B (wk.sub (by decide)) H7)
        · rename_i a13 e14
          exact H7)
    clear_value v8
    split
    · rename_i a15 a16 e17
      exact (Hub.copyEnd_keeps B (wk.sub (by decide)) H9)
    · rename_i a18 e19
      exact H9

theorem Hub.closeIngress_keeps {km : Nat} (B : Hub.Bears km P) (wk : Sub 0x5a280000000000000400000000000000000000000000000000001020000010b000000000000000400 km) {h : Hub} {pt : ℕ} (Hh : P h) : P (Hub.closeIngress h pt) := by
  unfold Hub.closeIngress
  exact (keep_each (fun _ _ H3 => (Hub.closeOpen_keeps B (wk.sub (by decide)) H3)) Hh)

theorem Hub.flushPoint_keeps {km : Nat} (B : Hub.Bears km P) (wk : Sub 0x72280000000000000400000000000000000000000000000000001000000010f000000000000000400 km) {h : Hub} {pt : ℕ} (Hh : P h) : P (Hub.flushPoint h pt) := by
  unfold Hub.flushPoint
  extract_lets +onlyGivenNames v1
  clear_value v1
  extract_lets +onlyGivenNames v2
  have H3 : P v2 := (keep_each (fun _ _ H6 => (Hub.discard_keeps B (wk.sub (by decide)) (Hub.cnt_keeps B (wk.bit (by decide)) H6))) Hh)
  clear_value v2
  exact (Hub.irq_keeps B (wk.sub (by decide)) (B.egOut (wk.bit (by decide)) H3))

theorem Hub.refreshPoint_keeps {km : Nat} (B : Hub.Bears km P) (wk : Sub 0xa800000000000004000000000000000000000000000000000010002000000010000000000000400 km) {e : ℕ} {h : Hub} (Hh : P h) : P (Hub.refreshPoint e h) := by
  unfold Hub.refreshPoint
  extract_lets +onlyGivenNames v1
  clear_value v1
  extract_lets +onlyGivenNames v2
  clear_value v2
  extract_lets +onlyGivenNames v3
  clear_value v3
  extract_lets +onlyGivenNames v4
  have H5 : P v4 := (Hub.wrBit_keeps B (wk.bit (by decide)) (B.wr (wk.bit (by decide)) (B.wr (wk.bit (by decide)) (keep_ite (B.wr (wk.bit (by decide)) Hh) Hh))))
  clear_value v4
  exact (keep_ite (Hub.crtNotice_keeps B (wk.sub (by decide)) (Hub.irq_keeps B (wk.sub (by decide)) (Hub.raise_keeps B (wk.sub (by decide)) H5))) H5)

theorem Hub.refreshPoints_keeps {km : Nat} (B : Hub.Bears km P) (wk : Sub 0xa800000000000004000000000000000000000000000000000010002000000030000000000000400 km) {h : Hub} (Hh : P h) : P (Hub.refreshPoints h) := by
  unfold Hub.refreshPoints
  exact (keep_when (fun _ H2 => (keep_each (fun _ _ H5 => (Hub.refreshPoint_keeps B (wk.sub (by decide)) H5)) (Hub.refreshUpstat_keeps B (wk.sub (by decide)) H2))) Hh)

theorem Hub.lmcSend_keeps {km : Nat} (B : Hub.Bears km P) (wk : Sub 0x8000000000000000000000000000000000000000000000000000000000000000000000000000000000 km) {h : Hub} {p : ℕ} {typ : ℕ} {tok : ℕ} {payload : Bytes} (Hh : P h) : P (Hub.lmcSend h p typ tok payload) := by
  unfold Hub.lmcSend
  exact (B.lmcQ (wk.bit (by decide)) Hh)

theorem Hub.countUp_keeps {km : Nat} (B : Hub.Bears km P) (wk : Sub 0x8000000000000000000000000000000000000000000000000000000000000000000000000000000000 km) {h : Hub} (Hh : P h) : P (Hub.countUp h) := by
  unfold Hub.countUp
  split
  · rename_i a1 a2 e3
    exact (Hub.lmcSend_keeps B (wk.sub (by decide)) Hh)
  · rename_i a4 e5
    exact Hh

theorem Hub.recount_keeps {km : Nat} (B : Hub.Bears km P) (wk : Sub 0x8000000000000000000000000000000000000000000000000000000000000000000000000000000000 km) {h : Hub} {old : ℕ} (Hh : P h) : P (Hub.recount h old) := by
  unfold Hub.recount
  exact (keep_when (fun _ H2 => (Hub.countUp_keeps B (wk.sub (by decide)) H2)) Hh)

theorem Hub.nbrSend_keeps {km : Nat} (B : Hub.Bears km P) (wk : Sub 0x8000000000000000000000000000000000000000000000000000000000000000000000000000000000 km) {p : ℕ} {h : Hub} (Hh : P h) : P (Hub.nbrSend p h) := by
  unfold Hub.nbrSend
  exact (Hub.lmcSend_keeps B (wk.sub (by decide)) Hh)

theorem Hub.nbrChange_keeps {km : Nat} (B : Hub.Bears km P) (wk : Sub 0x8000000000000000000000000000000000000000000000000000000000000000000000000000000000 km) {h : Hub} {f : Hub → Hub} (Hh : P h) (Hf : ∀ a0, P a0 → P (f a0)) : P (Hub.nbrChange h f) := by
  unfold Hub.nbrChange
  extract_lets +onlyGivenNames v1
  have H2 : P v1 := (Hf _ Hh)
  clear_value v1
  exact (keep_each (fun _ _ H5 => (Hub.nbrSend_keeps B (wk.sub (by decide)) H5)) H2)

theorem Hub.refreshBest_keeps {km : Nat} (B : Hub.Bears km P) (wk : Sub 0x100000000000000000000000000 km) {h : Hub} (Hh : P h) : P (Hub.refreshBest h) := by
  unfold Hub.refreshBest
  extract_lets +onlyGivenNames v1
  clear_value v1
  split
  · rename_i a2 a3 a4 a5 e6
    extract_lets +onlyGivenNames v7
    have H8 : P v7 := (B.wr (wk.bit (by decide)) Hh)
    clear_value v7
    exact (keep_ite H8 (B.wr (wk.bit (by decide)) (B.wr (wk.bit (by decide)) (B.wr (wk.bit (by decide)) (B.wr (wk.bit (by decide)) H8)))))

theorem Hub.linkEvent_keeps {km : Nat} (B : Hub.Bears km P) (wk : Sub 0x8000000000000000000000000000000000000000000000000000100000000010000000000000000 km) {h : Hub} {event : ℕ} {port : ℕ} {partner : ℕ} {tid : ℕ} {device : ℕ} {count : ℕ} (Hh : P h) : P (Hub.linkEvent h event port partner tid device count) := by
  unfold Hub.linkEvent
  exact (Hub.toCrowns_keeps B (wk.sub (by decide)) (keep_when (fun _ H2 => (Hub.cnt_keeps B (wk.bit (by decide)) H2)) Hh))

theorem Hub.refreshSource_keeps {km : Nat} (B : Hub.Bears km P) (wk : Sub 0x100000000000000000000000000 km) {h : Hub} (Hh : P h) : P (Hub.refreshSource h) := by
  unfold Hub.refreshSource
  extract_lets +onlyGivenNames v1
  clear_value v1
  split
  · rename_i a2 a3
    exact (B.wr (wk.bit (by decide)) (B.wr (wk.bit (by decide)) (B.wr (wk.bit (by decide)) Hh)))
  · rename_i a4
    exact (B.wr (wk.bit (by decide)) (B.wr (wk.bit (by decide)) Hh))

theorem Hub.writeUplink_keeps {km : Nat} (B : Hub.Bears km P) (wk : Sub 0xa800000000000004000000000000000000000000000000000010002000000030000000000000400 km) {h : Hub} (Hh : P h) : P (Hub.writeUplink h) := by
  unfold Hub.writeUplink
  extract_lets +onlyGivenNames v1
  have H2 : P v1 := (by
      unfold v1
      split
      · rename_i a3 a4 e5
        exact (B.wr (wk.bit (by decide)) (B.wr (wk.bit (by decide)) Hh))
      · rename_i a6 e7
        exact (B.wr (wk.bit (by decide)) Hh))
  clear_value v1
  exact (Hub.refreshPoints_keeps B (wk.sub (by decide)) (by
    split
    · rename_i a8 a9 e10
      exact (B.wr (wk.bit (by decide)) (B.wr (wk.bit (by decide)) H2))
    · rename_i a11 e12
      exact (B.wr (wk.bit (by decide)) H2)))

theorem Hub.uplinkChange_keeps {km : Nat} (B : Hub.Bears km P) (wk : Sub 0xa800000000000004000000000000000000000000000000000010002000000030000000000000400 km) {h : Hub} {f : Hub → Hub} (Hh : P h) (Hf : ∀ a0, P a0 → P (f a0)) : P (Hub.uplinkChange h f) := by
  unfold Hub.uplinkChange
  extract_lets +onlyGivenNames v1
  have H2 : P v1 := (Hf _ Hh)
  clear_value v1
  exact (keep_when (fun _ H4 => (Hub.writeUplink_keeps B (wk.sub (by decide)) H4)) H2)

theorem Hub.setRels_keeps {km : Nat} (B : Hub.Bears km P) (wk : Sub 0x100000000000000000000000000 km) {h : Hub} {parent : Option ℕ} {sparent : Option ℕ} (Hh : P h) : P (Hub.setRels h parent sparent) := by
  unfold Hub.setRels
  exact (keep_each (fun _ _ H3 => (by
    extract_lets +onlyGivenNames v4
    clear_value v4
    extract_lets +onlyGivenNames v5
    clear_value v5
    exact (B.wr (wk.bit (by decide)) H3))) Hh)

theorem Hub.setNodeId_keeps {km : Nat} (B : Hub.Bears km P) (wk : Sub 0x4000400000000000000000000000000000000000000000000000000000000000 km) {h : Hub} {id : ℕ} {valid : ℕ} {tier : ℕ} (Hh : P h) : P (Hub.setNodeId h id valid tier) := by
  unfold Hub.setNodeId
  extract_lets +onlyGivenNames v1
  clear_value v1
  exact (keep_when (fun _ H3 => (Hub.irq_keeps B (wk.sub (by decide)) H3)) (B.wr (wk.bit (by decide)) (B.wr (wk.bit (by decide)) (B.wr (wk.bit (by decide)) Hh))))

theorem Hub.noId_keeps {km : Nat} (B : Hub.Bears km P) (wk : Sub 0x4000400000000000000000000000000000000100000000000000000000000000 km) {h : Hub} (Hh : P h) : P (Hub.noId h) := by
  unfold Hub.noId
  exact (Hub.setNodeId_keeps B (wk.sub (by decide)) (B.wr (wk.bit (by decide)) (B.wr (wk.bit (by decide)) (B.wr (wk.bit (by decide)) (B.wr (wk.bit (by decide)) (Hub.setRels_keeps B (wk.sub (by decide)) Hh))))))

theorem Hub.refreshTier_keeps {km : Nat} (B : Hub.Bears km P) (wk : Sub 0xa800000000000004000400000000000000000000000000000010102000000030000000000000400 km) {h0 : Hub} (Hh0 : P h0) : P (Hub.refreshTier h0) := by
  unfold Hub.refreshTier
  exact (Hub.uplinkChange_keeps B (wk.sub (by decide)) Hh0 (fun _ H2 => (by
    extract_lets +onlyGivenNames v3
    clear_value v3
    extract_lets +onlyGivenNames v4
    clear_value v4
    refine keep_ite ?_ ?_
    · exact (Hub.refreshSource_keeps B (wk.sub (by decide)) (Hub.setRels_keeps B (wk.sub (by decide)) H2))
    · refine keep_ite ?_ ?_
      · exact (Hub.refreshSource_keeps B (wk.sub (by decide)) (keep_ite (Hub.setRels_keeps B (wk.sub (by decide)) H2) (Hub.noId_keeps B (wk.sub (by decide)) H2)))
      · extract_lets +onlyGivenNames v5
        clear_value v5
        refine keep_ite ?_ ?_
        · exact (Hub.refreshSource_keeps B (wk.sub (by decide)) (keep_when (fun _ H7 => (Hub.linkEvent_keeps B (wk.sub (by decide)) (Hub.raise_keeps B (wk.sub (by decide)) H7))) (B.wr (wk.bit (by decide)) (Hub.noId_keeps B (wk.sub (by decide)) H2))))
        · extract_lets +onlyGivenNames v8
          clear_value v8
          extract_lets +onlyGivenNames v9
          have H10 : P v9 := (B.wr (wk.bit (by decide)) (Hub.setRels_keeps B (wk.sub (by decide)) H2))
          clear_value v9
          extract_lets +onlyGivenNames v11
          have H12 : P v11 := (keep_when (fun _ H14 => (B.wr (wk.bit (by decide)) (B.wr (wk.bit (by decide)) H14))) H10)
          clear_value v11
          exact (Hub.refreshSource_keeps B (wk.sub (by decide)) (Hub.setNodeId_keeps B (wk.sub (by decide)) H12)))))

theorem Hub.casPortLost_keeps {km : Nat} (B : Hub.Bears km P) (wk : Sub 0x1800a800000000000004000400000000000000000000000000000010102000000030000000000000400 km) {h0 : Hub} {p : ℕ} {down : optParam Bool true} (Hh0 : P h0) : P (Hub.casPortLost h0 p down) := by
  unfold Hub.casPortLost
  extract_lets +onlyGivenNames v1
  clear_value v1
  extract_lets +onlyGivenNames v2
  clear_value v2
  extract_lets +onlyGivenNames v3
  clear_value v3
  extract_lets +onlyGivenNames v4
  clear_value v4
  extract_lets +onlyGivenNames v5
  have H6 : ∀ a0, P a0 → P (v5 a0) := (fun _ H8 => (B.wr (wk.bit (by decide)) (B.wr (wk.bit (by decide)) (B.wr (wk.bit (by decide)) (B.wr (wk.bit (by decide)) (B.wr (wk.bit (by decide)) (B.wr (wk.bit (by decide)) (B.nbrs (wk.bit (by decide)) H8))))))))
  clear_value v5
  exact (keep_ite (H6 _ Hh0) (Hub.recount_keeps B (wk.sub (by decide)) (Hub.nbrChange_keeps B (wk.sub (by decide)) Hh0 (fun _ H10 => (by
    extract_lets +onlyGivenNames v11
    have H12 : P v11 := (Hub.refreshBest_keeps B (wk.sub (by decide)) (keep_when (fun _ H14 => (Hub.linkEvent_keeps B (wk.sub (by decide)) H14)) (H6 _ H10)))
    clear_value v11
    refine keep_ite ?_ ?_
    · split
      · rename_i a15 a16
        extract_lets +onlyGivenNames v17
        have H18 : P v17 := (Hub.refreshSource_keeps B (wk.sub (by decide)) (Hub.writeUplink_keeps B (wk.sub (by decide)) (B.wr (wk.bit (by decide)) H12)))
        clear_value v17
        exact (Hub.refreshTier_keeps B (wk.sub (by decide)) (Hub.linkEvent_keeps B (wk.sub (by decide)) H18))
      · rename_i a19
        extract_lets +onlyGivenNames v20
        have H21 : P v20 := (Hub.writeUplink_keeps B (wk.sub (by decide)) (Hub.refreshTier_keeps B (wk.sub (by decide)) H12))
        clear_value v20
        exact (keep_when (fun _ H23 => (Hub.raise_keeps B (wk.sub (by decide)) (B.wr (wk.bit (by decide)) (B.wr (wk.bit (by decide)) H23)))) H21)
    · exact (keep_ite (Hub.writeUplink_keeps B (wk.sub (by decide)) (Hub.refreshTier_keeps B (wk.sub (by decide)) H12)) (Hub.refreshPoints_keeps B (wk.sub (by decide)) H12)))))))

theorem Hub.portDown_keeps {km : Nat} (B : Hub.Bears km P) (wk : Sub 0xb987aa80200000000000c00060100000000000000000000000000001030200010f030000000100014402 km) {h : Hub} {p : ℕ} {cause : Option ℕ} (Hh : P h) : P (Hub.portDown h p cause) := by
  unfold Hub.portDown
  extract_lets +onlyGivenNames v1
  clear_value v1
  refine keep_ite ?_ ?_
  · exact Hh
  · extract_lets +onlyGivenNames v2
    clear_value v2
    extract_lets +onlyGivenNames v3
    have H4 : P v3 := (Hub.cntN_keeps B (wk.bit (by decide)) Hh)
    clear_value v3
    extract_lets +onlyGivenNames v5
    have H6 : P v5 := (by
        unfold v5
        split
        · rename_i a7 a8
          exact (Hub.raise_keeps B (wk.sub (by decide)) H4)
        · rename_i a9
          exact H4)
    clear_value v5
    extract_lets +onlyGivenNames v10
    have H11 : P v10 := (keep_when (fun _ H13 => (Hub.endWidth_keeps B (wk.sub (by decide)) H13)) H6)
    clear_value v10
    extract_lets +onlyGivenNames v14
    have H15 : P v14 := (Hub.setPort_keeps B (wk.sub (by decide)) (Hub.clearLink_keeps B (wk.sub (by decide)) (B.wr (wk.bit (by decide)) (Hub.endPm_keeps B (wk.sub (by decide)) H11))))
    clear_value v14
    extract_lets +onlyGivenNames v16
    have H17 : P v16 := (keep_each (fun _ _ H20 => (by
        extract_lets +onlyGivenNames v21
        clear_value v21
        exact (keep_when (fun _ H23 => (Hub.toDetect_keeps B (wk.sub (by decide)) H23)) H20))) H15)
    clear_value v16
    extract_lets +onlyGivenNames v24
    have H25 : P v24 := (B.wr (wk.bit (by decide)) (B.wr (wk.bit (by decide)) H17))
    clear_value v24
    extract_lets +onlyGivenNames v26
    have H27 : P v26 := (keep_when (fun _ H29 => (keep_when (fun _ H31 => (Hub.flushPoint_keeps B (wk.sub (by decide)) H31)) (Hub.closeIngress_keeps B (wk.sub (by decide)) H29))) H25)
    clear_value v26
    exact (Hub.refreshPoints_keeps B (wk.sub (by decide)) (keep_when (fun _ H33 => (Hub.casPortLost_keeps B (wk.sub (by decide)) H33)) H27))

theorem Hub.nextTok_keeps {km : Nat} (B : Hub.Bears km P) (wk : Sub 0x10000 km) {h : Hub} {p : ℕ} (Hh : P h) : P (Hub.nextTok h p).2 := by
  unfold Hub.nextTok
  extract_lets +onlyGivenNames v1
  clear_value v1
  exact (keep_p2 (B.wr (wk.bit (by decide)) Hh))

theorem Hub.claspFlush_keeps {km : Nat} (B : Hub.Bears km P) (wk : Sub 0x400000008000000000000000000000000000000000000100000000000000000000000000000000000000000000 km) {h : Hub} {p : ℕ} (Hh : P h) : P (Hub.claspFlush h p) := by
  unfold Hub.claspFlush
  split
  · rename_i a1 a2 e3
    exact (keep_ite Hh (Hub.cnt_keeps B (wk.bit (by decide)) (Hub.lmcSend_keeps B (wk.sub (by decide)) (B.claspAsk (wk.bit (by decide)) Hh))))
  · rename_i a4 e5
    exact Hh

theorem Hub.sendCap_keeps {km : Nat} (B : Hub.Bears km P) (wk : Sub 0x8000000000000000000000000000000000000000000000000000000000000000000000000000010000 km) {h : Hub} {p : ℕ} (Hh : P h) : P (Hub.sendCap h p) := by
  unfold Hub.sendCap
  extract_lets +onlyGivenNames v1
  have H2 : P v1 := (B.wr (wk.bit (by decide)) Hh)
  clear_value v1
  exact (Hub.lmcSend_keeps B (wk.sub (by decide)) H2)

theorem Hub.enterCapx_keeps {km : Nat} (B : Hub.Bears km P) (wk : Sub 0x400000b88200000000000000004000200000000000000100000000000000000000000000000000000100014000 km) {h : Hub} {p : ℕ} {m : ℕ} (Hh : P h) : P (Hub.enterCapx h p m) := by
  unfold Hub.enterCapx
  extract_lets +onlyGivenNames v1
  clear_value v1
  extract_lets +onlyGivenNames v2
  have H3 : P v2 := (Hub.setPort_keeps B (wk.sub (by decide)) (B.wr (wk.bit (by decide)) (B.wr (wk.bit (by decide)) (B.wr (wk.bit (by decide)) (B.wr (wk.bit (by decide)) (B.wr (wk.bit (by decide)) (B.wr (wk.bit (by decide)) (B.wr (wk.bit (by decide)) (Hub.clearLink_keeps B (wk.sub (by decide)) Hh)))))))))
  clear_value v2
  split
  · rename_i a4 a5 a6 e7
    have H8 := keep_snd e7 (Hub.nextTok_keeps B (wk.sub (by decide)) H3)
    exact (Hub.claspFlush_keeps B (wk.sub (by decide)) (Hub.sendCap_keeps B (wk.sub (by decide)) (B.wr (wk.bit (by decide)) H8)))

theorem Hub.refreshPortLanes_keeps {km : Nat} (B : Hub.Bears km P) (wk : Sub 0x200000000000000000000000000000000000000000000000000000000000 km) {h : Hub} {p : ℕ} (Hh : P h) : P (Hub.refreshPortLanes h p) := by
  unfold Hub.refreshPortLanes
  extract_lets +onlyGivenNames v1
  clear_value v1
  exact (B.wr (wk.bit (by decide)) (B.wr (wk.bit (by decide)) Hh))

theorem Hub.formPort_keeps {km : Nat} (B : Hub.Bears km P) (wk : Sub 0x400000b8820280200000000000c000201000000000000100000000000000010000000000000000000100014402 km) {h : Hub} {p : ℕ} (Hh : P h) : P (Hub.formPort h p) := by
  unfold Hub.formPort
  extract_lets +onlyGivenNames v1
  clear_value v1
  extract_lets +onlyGivenNames v2
  clear_value v2
  extract_lets +onlyGivenNames v3
  clear_value v3
  extract_lets +onlyGivenNames v4
  clear_value v4
  extract_lets +onlyGivenNames v5
  clear_value v5
  extract_lets +onlyGivenNames v6
  clear_value v6
  extract_lets +onlyGivenNames v7
  have H8 : P v7 := (keep_each (fun _ _ H11 => (Hub.raise_keeps B (wk.sub (by decide)) H11)) Hh)
  clear_value v7
  extract_lets +onlyGivenNames v12
  clear_value v12
  extract_lets +onlyGivenNames v13
  clear_value v13
  refine keep_ite ?_ ?_
  · exact H8
  · refine keep_ite ?_ ?_
    · exact (Hub.drawTie_keeps B (wk.sub (by decide)) H8)
    · extract_lets +onlyGivenNames v14
      clear_value v14
      extract_lets +onlyGivenNames v15
      have H16 : P v15 := (B.wr (wk.bit (by decide)) (B.wr (wk.bit (by decide)) (B.wr (wk.bit (by decide)) H8)))
      clear_value v15
      extract_lets +onlyGivenNames v17
      clear_value v17
      extract_lets +onlyGivenNames v18
      clear_value v18
      extract_lets +onlyGivenNames v19
      clear_value v19
      extract_lets +onlyGivenNames v20
      have H21 : P v20 := (keep_each (fun _ _ H24 => (keep_when (fun _ H26 => (Hub.raise_keeps B (wk.sub (by decide)) H26)) (B.wr (wk.bit (by decide)) H24))) H16)
      clear_value v20
      extract_lets +onlyGivenNames v27
      have H28 : P v27 := (keep_each (fun _ _ H31 => (Hub.setLane_keeps B (wk.sub (by decide)) H31)) H21)
      clear_value v27
      exact (Hub.enterCapx_keeps B (wk.sub (by decide)) (Hub.refreshPortLanes_keeps B (wk.sub (by decide)) (B.wr (wk.bit (by decide)) H28)))

theorem Hub.tryForm_keeps {km : Nat} (B : Hub.Bears km P) (wk : Sub 0x400000b8820280200000000000c000201000000000000100000000000000010000000000000000000100014402 km) {p : ℕ} {h : Hub} (Hh : P h) : P (Hub.tryForm p h) := by
  unfold Hub.tryForm
  extract_lets +onlyGivenNames v1
  clear_value v1
  exact (keep_when (fun _ H3 => (Hub.formPort_keeps B (wk.sub (by decide)) H3)) Hh)

theorem Hub.askRetire_keeps {km : Nat} (B : Hub.Bears km P) (wk : Sub 0x10000 km) {h : Hub} {k : ℕ} {p : ℕ} (Hh : P h) : P (Hub.askRetire h k p) := by
  unfold Hub.askRetire
  exact (keep_when (fun _ H2 => (Hub.endWidth_keeps B (wk.sub (by decide)) H2)) (B.wr (wk.bit (by decide)) (B.wr (wk.bit (by decide)) (B.wr (wk.bit (by decide)) (B.wr (wk.bit (by decide)) Hh)))))

theorem Hub.lostLane_keeps {km : Nat} (B : Hub.Bears km P) (wk : Sub 0xb987aa80200000000000c00060100000000000000000000000000001030200010f030000000100014402 km) {k : ℕ} {p : ℕ} {h : Hub} (Hh : P h) : P (Hub.lostLane k p h) := by
  unfold Hub.lostLane
  exact (keep_ite (Hub.portDown_keeps B (wk.sub (by decide)) Hh) (Hub.askRetire_keeps B (wk.sub (by decide)) Hh))

theorem Hub.laneOff_keeps {km : Nat} (B : Hub.Bears km P) (wk : Sub 0x400000b987aa80200000000000c00060100000000000010000000000000001030200010f030000000100014402 km) {l : ℕ} {h : Hub} (Hh : P h) : P (Hub.laneOff l h) := by
  unfold Hub.laneOff
  extract_lets +onlyGivenNames v1
  clear_value v1
  extract_lets +onlyGivenNames v2
  clear_value v2
  exact (Hub.tryForm_keeps B (wk.sub (by decide)) (keep_when (fun _ H4 => (Hub.lostLane_keeps B (wk.sub (by decide)) H4)) (Hub.refreshPortLanes_keeps B (wk.sub (by decide)) (Hub.setLane_keeps B (wk.sub (by decide)) Hh))))

theorem Hub.setHead_keeps {km : Nat} (B : Hub.Bears km P) (wk : Sub 0x30000000000000000000000000002 km) {h : Hub} {n : ℕ} {st : ℕ} (Hh : P h) : P (Hub.setHead h n st) := by
  unfold Hub.setHead
  extract_lets +onlyGivenNames v1
  have H2 : P v1 := (keep_when (fun _ H4 => (Hub.wrBit_keeps B (wk.bit (by decide)) (Hub.wrBit_keeps B (wk.bit (by decide)) H4))) (Hub.wrBit_keeps B (wk.bit (by decide)) Hh))
  clear_value v1
  extract_lets +onlyGivenNames v5
  have H6 : P v5 := (B.wr (wk.bit (by decide)) H2)
  clear_value v5
  exact (Hub.refreshBudget_keeps B (wk.sub (by decide)) (keep_when (fun _ H8 => (B.wr (wk.bit (by decide)) (Hub.wrBit_keeps B (wk.bit (by decide)) (B.wr (wk.bit (by decide)) H8)))) H6))

theorem Hub.beginFrame_keeps {km : Nat} (B : Hub.Bears km P) (wk : Sub 0x8000000000000000000000000000000000000000000000800000000000000000000000000000 km) {h : Hub} {w : Writer} (Hh : P h) : P (Hub.beginFrame h w) := by
  unfold Hub.beginFrame
  extract_lets +onlyGivenNames v1
  clear_value v1
  extract_lets +onlyGivenNames v2
  clear_value v2
  extract_lets +onlyGivenNames v3
  clear_value v3
  extract_lets +onlyGivenNames v4
  clear_value v4
  split
  · rename_i a5 e6
    exact (B.wr (wk.bit (by decide)) Hh)
  · rename_i a7 a8 e9
    exact (Hub.setSlot_keeps B (wk.sub (by decide)) (B.wr (wk.bit (by decide)) (Hub.setState_keeps B (wk.sub (by decide)) Hh)))

theorem Hub.nextHostFrame_keeps {km : Nat} (B : Hub.Bears km P) (wk : Sub 0x8000000000000000000000000000000000000000000000800000000000000000000000000000 km) {h : Hub} {n : Fin 64} (Hh : P h) : P (Hub.nextHostFrame h n) := by
  unfold Hub.nextHostFrame
  exact (Hub.beginFrame_keeps B (wk.sub (by decide)) (B.wr (wk.bit (by decide)) (B.wr (wk.bit (by decide)) Hh)))

theorem Hub.hold_keeps {km : Nat} (B : Hub.Bears km P) (wk : Sub 0x8000000000000000000000000000000000000000000000800000000000000000000000000000 km) {h : Hub} {k : ℕ} {bit : ℕ} {v : Bool} (Hh : P h) : P (Hub.hold h k bit v) := by
  unfold Hub.hold
  extract_lets +onlyGivenNames v1
  have H2 : P v1 := (Hub.setSlot_keeps B (wk.sub (by decide)) Hh)
  clear_value v1
  exact (keep_when (fun _ H4 => (by
    extract_lets +onlyGivenNames v5
    clear_value v5
    exact (keep_when (fun _ H7 => (Hub.nextHostFrame_keeps B (wk.sub (by decide)) H7)) (Hub.setState_keeps B (wk.sub (by decide)) H4)))) H2)

theorem Hub.releaseHead_keeps {km : Nat} (B : Hub.Bears km P) (wk : Sub 0x8000000000000000000000000000000000000000000000820000000000000000000000000000 km) {h : Hub} {n : ℕ} (Hh : P h) : P (Hub.releaseHead h n) := by
  unfold Hub.releaseHead
  exact (keep_ite (B.wr (wk.bit (by decide)) (B.wr (wk.bit (by decide)) (Hub.hold_keeps B (wk.sub (by decide)) Hh))) Hh)

theorem Hub.headDisable_keeps {km : Nat} (B : Hub.Bears km P) (wk : Sub 0x8000000000000000000000000000000000000000000000830000000000000000000000000002 km) {n : ℕ} {h : Hub} (Hh : P h) : P (Hub.headDisable n h) := by
  unfold Hub.headDisable
  exact (Hub.setHead_keeps B (wk.sub (by decide)) (Hub.releaseHead_keeps B (wk.sub (by decide)) Hh))

theorem Hub.captureDrop_keeps {km : Nat} (B : Hub.Bears km P) (wk : Sub 0x8000000000000000000000000000000000000000000000a00000000000000000000000000000 km) {h : Hub} {d : Fin 2} (Hh : P h) : P (Hub.captureDrop h d) := by
  unfold Hub.captureDrop
  exact (keep_ite (B.wr (wk.bit (by decide)) (Hub.cnt_keeps B (wk.bit (by decide)) (Hub.abortSlot_keeps B (wk.sub (by decide)) Hh))) Hh)

theorem Hub.setLink_keeps {km : Nat} (B : Hub.Bears km P) (wk : Sub 0x1030000000000000000000000000002 km) {h : Hub} {n : ℕ} {st : ℕ} (Hh : P h) : P (Hub.setLink h n st) := by
  unfold Hub.setLink
  extract_lets +onlyGivenNames v1
  have H2 : P v1 := (B.wr (wk.bit (by decide)) Hh)
  clear_value v1
  extract_lets +onlyGivenNames v3
  have H4 : P v3 := (keep_when (fun _ H6 => (B.wr (wk.bit (by decide)) (B.wr (wk.bit (by decide)) H6))) H2)
  clear_value v3
  exact (keep_when (fun _ H8 => (Hub.setHead_keeps B (wk.sub (by decide)) H8)) H4)

theorem Hub.pcieTrained_keeps {km : Nat} (B : Hub.Bears km P) (wk : Sub 0x2800000000000004000000000000000000000000000000600010000000000000000000000000400 km) {h : Hub} (Hh : P h) : P (Hub.pcieTrained h) := by
  unfold Hub.pcieTrained
  split
  · rename_i a1 a2 a3 e4
    have H5 := keep_snd e4 (Hub.free_keeps B (wk.sub (by decide)) (Hub.wrFree_keeps B (wk.sub (by decide)) (wk.bit (by decide)) (Hub.wrFree_keeps B (wk.sub (by decide)) (wk.bit (by decide)) Hh)))
    extract_lets +onlyGivenNames v6
    have H7 : P v6 := (B.wr (wk.bit (by decide)) H5)
    clear_value v6
    exact (keep_each (fun _ _ H10 => (Hub.wrFree_keeps B (wk.sub (by decide)) (wk.bit (by decide)) (Hub.wrFree_keeps B (wk.sub (by decide)) (wk.bit (by decide)) H10))) (keep_when (fun _ H12 => (Hub.raise_keeps B (wk.sub (by decide)) H12)) H7))

theorem Hub.pcieLink_keeps {km : Nat} (B : Hub.Bears km P) (wk : Sub 0x2800000000000004000000000000000000000000000000700010000000000000000000000000400 km) {h : Hub} {up : Bool} {speed : ℕ} {width : ℕ} {ltssm : ℕ} (Hh : P h) : P (Hub.pcieLink h up speed width ltssm) := by
  unfold Hub.pcieLink
  extract_lets +onlyGivenNames v1
  clear_value v1
  extract_lets +onlyGivenNames v2
  have H3 : P v2 := (Hub.wrBit_keeps B (wk.bit (by decide)) (Hub.wrBit_keeps B (wk.bit (by decide)) (B.wr (wk.bit (by decide)) (B.wr (wk.bit (by decide)) (B.wr (wk.bit (by decide)) (B.wr (wk.bit (by decide)) Hh))))))
  clear_value v2
  extract_lets +onlyGivenNames v4
  have H5 : P v4 := (keep_when (fun _ H7 => (Hub.irq_keeps B (wk.sub (by decide)) H7)) H3)
  clear_value v4
  extract_lets +onlyGivenNames v8
  have H9 : P v8 := (keep_when (fun _ H11 => (Hub.raise_keeps B (wk.sub (by decide)) H11)) H5)
  clear_value v8
  exact (keep_when (fun _ H13 => (keep_when (fun _ H15 => (Hub.raise_keeps B (wk.sub (by decide)) H15)) (Hub.pcieTrained_keeps B (wk.sub (by decide)) H13))) H9)

theorem Hub.setClp_keeps {km : Nat} (B : Hub.Bears km P) (wk : Sub 0x4000000000000101010100000000000000000000000000000000000000000000 km) {h : Hub} {n : ℕ} {st : ℕ} (Hh : P h) : P (Hub.setClp h n st) := by
  unfold Hub.setClp
  exact (Hub.refreshBus_keeps B (wk.sub (by decide)) (keep_ite Hh (Hub.irq_keeps B (wk.sub (by decide)) (B.wr (wk.bit (by decide)) Hh))))

theorem Hub.endContract_keeps {km : Nat} (B : Hub.Bears km P) (wk : Sub 0x400000000000000000000000000000000000000000000100000000000000000000000000000000000000000000 km) {h : Hub} {n : ℕ} (Hh : P h) : P (Hub.endContract h n) := by
  unfold Hub.endContract
  exact (B.wr (wk.bit (by decide)) (B.wr (wk.bit (by decide)) (B.wr (wk.bit (by decide)) (B.wr (wk.bit (by decide)) (B.wr (wk.bit (by decide)) (B.wr (wk.bit (by decide)) (B.wr (wk.bit (by decide)) (B.wr (wk.bit (by decide)) (B.claspAsk (wk.bit (by decide)) Hh)))))))))

theorem Hub.openClp_keeps {km : Nat} (B : Hub.Bears km P) (wk : Sub 0x400000000000000000000000004000000000000101010100000000000000000000000000000000000000000000 km) {h : Hub} {n : ℕ} {st : ℕ} (Hh : P h) : P (Hub.openClp h n st) := by
  unfold Hub.openClp
  exact (Hub.setClp_keeps B (wk.sub (by decide)) (B.wr (wk.bit (by decide)) (B.wr (wk.bit (by decide)) (B.wr (wk.bit (by decide)) (Hub.setSw_keeps B (wk.sub (by decide)) (Hub.endContract_keeps B (wk.sub (by decide)) Hh))))))

theorem Hub.pdDrop_keeps {km : Nat} (B : Hub.Bears km P) (wk : Sub 0x10000000000000000000000000000000000000000000000 km) {h : Hub} {k : ℕ} (Hh : P h) : P (Hub.pdDrop h k) := by
  unfold Hub.pdDrop
  exact (B.wr (wk.bit (by decide)) (B.wr (wk.bit (by decide)) (B.wr (wk.bit (by decide)) Hh)))

theorem Hub.pdFollow_keeps {km : Nat} (B : Hub.Bears km P) (wk : Sub 0x140000000002808000000000004000000000000101010100070000000000010000000000000000000000000400 km) {h : Hub} {detach : Bool} (Hh : P h) : P (Hub.pdFollow h detach) := by
  unfold Hub.pdFollow
  exact (Hub.refreshUp_keeps B (wk.sub (by decide)) (Hub.refreshBus_keeps B (wk.sub (by decide)) Hh))

theorem Hub.pdMeasure_keeps {km : Nat} (B : Hub.Bears km P) (wk : Sub 0x800000000000000000000000000000010000000000000000000000000000000000000000000000 km) {h : Hub} {k : ℕ} (Hh : P h) : P (Hub.pdMeasure h k) := by
  unfold Hub.pdMeasure
  exact (Hub.wrFree_keeps B (wk.sub (by decide)) (wk.bit (by decide)) (Hub.wrFree_keeps B (wk.sub (by decide)) (wk.bit (by decide)) Hh))

theorem Hub.captureCause_keeps {km : Nat} (B : Hub.Bears km P) (wk : Sub 0x2808000000000004000000000000000000000000000000000a10000000000000000000000000400 km) {h : Hub} {d : Fin 2} {cause : ℕ} {hact : ℕ} {vact : ℕ} {pclk : ℕ} (Hh : P h) : P (Hub.captureCause h d cause hact vact pclk) := by
  unfold Hub.captureCause
  extract_lets +onlyGivenNames v1
  have H2 : P v1 := (Hub.captureDrop_keeps B (wk.sub (by decide)) Hh)
  clear_value v1
  refine keep_ite ?_ ?_
  · exact (Hub.raise_keeps B (wk.sub (by decide)) (B.wr (wk.bit (by decide)) (B.wr (wk.bit (by decide)) (B.wr (wk.bit (by decide)) H2))))
  · exact (keep_ite (Hub.refreshFit_keeps B (wk.sub (by decide)) (Hub.cnt_keeps B (wk.bit (by decide)) (B.wr (wk.bit (by decide)) (B.wr (wk.bit (by decide)) (B.wr (wk.bit (by decide)) H2))))) H2)

theorem Hub.altExit_keeps {km : Nat} (B : Hub.Bears km P) (wk : Sub 0x2808000000000004000000000000000010000000000000000a10000000000000000000000000400 km) {h : Hub} {k : Fin 2} (Hh : P h) : P (Hub.altExit h k) := by
  unfold Hub.altExit
  extract_lets +onlyGivenNames v1
  clear_value v1
  exact (keep_when (fun _ H3 => (keep_when (fun _ H5 => (Hub.captureCause_keeps B (wk.sub (by decide)) H5)) (B.wr (wk.bit (by decide)) H3))) (B.wr (wk.bit (by decide)) (B.wr (wk.bit (by decide)) (B.wr (wk.bit (by decide)) Hh))))

theorem Hub.pdDetach_keeps {km : Nat} (B : Hub.Bears km P) (wk : Sub 0x140000000002808000000000004000000000000101010100070000000000a10000000000000000000000000400 km) {h : Hub} {k : Fin 2} (Hh : P h) : P (Hub.pdDetach h k) := by
  unfold Hub.pdDetach
  refine keep_ite ?_ ?_
  · exact Hh
  · extract_lets +onlyGivenNames v1
    have H2 : P v1 := (Hub.pdDrop_keeps B (wk.sub (by decide)) (B.wr (wk.bit (by decide)) (B.wr (wk.bit (by decide)) (B.wr (wk.bit (by decide)) (B.wr (wk.bit (by decide)) (B.wr (wk.bit (by decide)) (B.wr (wk.bit (by decide)) (B.wr (wk.bit (by decide)) (B.wr (wk.bit (by decide)) Hh)))))))))
    clear_value v1
    exact (Hub.irq_keeps B (wk.sub (by decide)) (Hub.pdFollow_keeps B (wk.sub (by decide)) (Hub.pdMeasure_keeps B (wk.sub (by decide)) (Hub.altExit_keeps B (wk.sub (by decide)) H2))))

theorem Hub.setLpo_keeps {km : Nat} (B : Hub.Bears km P) (wk : Sub 0x4000000000000101010100000000000000000000000000000000000000000000 km) {h : Hub} {n : ℕ} {st : ℕ} (Hh : P h) : P (Hub.setLpo h n st) := by
  unfold Hub.setLpo
  exact (Hub.refreshBus_keeps B (wk.sub (by decide)) (keep_ite Hh (Hub.irq_keeps B (wk.sub (by decide)) (B.wr (wk.bit (by decide)) Hh))))

theorem Hub.setLpoPg_keeps {km : Nat} (B : Hub.Bears km P) (wk : Sub 0x4000000000000001000000000000000000000000000000000000000000000000 km) {h : Hub} {n : ℕ} {pg : Bool} (Hh : P h) : P (Hub.setLpoPg h n pg) := by
  unfold Hub.setLpoPg
  exact (keep_ite Hh (Hub.irq_keeps B (wk.sub (by decide)) (B.wr (wk.bit (by decide)) Hh)))

theorem Hub.lpoOff_keeps {km : Nat} (B : Hub.Bears km P) (wk : Sub 0x4000000000000101010100000000000000000000000000000000000000000000 km) {h : Hub} {n : ℕ} {st : ℕ} (Hh : P h) : P (Hub.lpoOff h n st) := by
  unfold Hub.lpoOff
  exact (Hub.setLpo_keeps B (wk.sub (by decide)) (Hub.setLpoPg_keeps B (wk.sub (by decide)) (B.wr (wk.bit (by decide)) (B.wr (wk.bit (by decide)) Hh))))

theorem Hub.quiesce_keeps {km : Nat} (B : Hub.Bears km P) (wk : Sub 0x540000b987aa80a00000000000c000601000000101010100070000000701a3030200010f030000000100014402 km) {pg : ℕ} {h : Hub} (Hh : P h) : P (Hub.quiesce pg h) := by
  unfold Hub.quiesce
  refine keep_ite ?_ ?_
  · exact (Hub.portDown_keeps B (wk.sub (by decide)) Hh)
  · refine keep_ite ?_ ?_
    · exact (Hub.laneOff_keeps B (wk.sub (by decide)) Hh)
    · refine keep_ite ?_ ?_
      · exact (Hub.headDisable_keeps B (wk.sub (by decide)) Hh)
      · refine keep_ite ?_ ?_
        · exact (Hub.captureDrop_keeps B (wk.sub (by decide)) Hh)
        · refine keep_ite ?_ ?_
          · exact (Hub.captureDrop_keeps B (wk.sub (by decide)) Hh)
          · refine keep_ite ?_ ?_
            · exact (keep_each (fun _ _ H3 => (Hub.hold_keeps B (wk.sub (by decide)) H3)) (keep_each (fun _ _ H6 => (Hub.abortSlot_keeps B (wk.sub (by decide)) H6)) (Hub.captureDrop_keeps B (wk.sub (by decide)) (Hub.captureDrop_keeps B (wk.sub (by decide)) (B.wr (wk.bit (by decide)) (B.wr (wk.bit (by decide)) Hh))))))
            · refine keep_ite ?_ ?_
              · exact (Hub.setLink_keeps B (wk.sub (by decide)) Hh)
              · refine keep_ite ?_ ?_
                · exact (Hub.pcieLink_keeps B (wk.sub (by decide)) Hh)
                · refine keep_ite ?_ ?_
                  · exact (keep_ite Hh (Hub.openClp_keeps B (wk.sub (by decide)) Hh))
                  · refine keep_ite ?_ ?_
                    · exact (Hub.pdDetach_keeps B (wk.sub (by decide)) Hh)
                    · refine keep_ite ?_ ?_
                      · exact (Hub.pdDetach_keeps B (wk.sub (by decide)) Hh)
                      · exact (keep_ite (Hub.lpoOff_keeps B (wk.sub (by decide)) (B.wr (wk.bit (by decide)) Hh)) Hh)

theorem Hub.pciRole_keeps {km : Nat} (B : Hub.Bears km P) (wk : Sub 0x200000000000000000000000000000000 km) {h : Hub} (Hh : P h) : P (Hub.pciRole h) := by
  unfold Hub.pciRole
  exact (keep_when (fun _ H2 => (B.wr (wk.bit (by decide)) H2)) Hh)

theorem Hub.seqDefault_keeps {km : Nat} (B : Hub.Bears km P) (wk : Sub 0x100000000 km) {l : ℕ} {h : Hub} (Hh : P h) : P (Hub.seqDefault l h) := by
  unfold Hub.seqDefault
  refine keep_ite ?_ ?_
  · exact Hh
  · split
    · rename_i a1 a2 a3 e4
      exact (B.wr (wk.bit (by decide)) (B.wr (wk.bit (by decide)) Hh))

theorem Hub.cfgReset_keeps {km : Nat} (B : Hub.Bears km P) (wk : Sub 0x8000000000000000000000000000000200000000000000000000000100000001 km) {h : Hub} {c : Nat → Bool} (Hh : P h) : P (h.cfgReset c) := by
  unfold Hub.cfgReset
  extract_lets h1
  have H1 : P h1 := keep_foldl (fun h p H => by
    split
    · exact B.regs (wk.bit (by decide)) H fun S => Tab.put_sorted _ _ _ S
    · exact H) Hh
  clear_value h1
  exact keep_each (fun _ _ H => Hub.seqDefault_keeps B (wk.sub (by decide)) H)
    (keep_when (fun _ H => Hub.pciRole_keeps B (wk.sub (by decide)) H)
    (keep_when (fun _ H => B.wr (wk.bit (by decide)) (B.wr (wk.bit (by decide)) H)) H1))

theorem Hub.holdSwitch_keeps {km : Nat} (B : Hub.Bears km P) (wk : Sub 0x100000000000000000000000000000000000000000000 km) {h old : Hub} {pg : Nat} (Hh : P h) (_ : P old) : P (h.holdSwitch old pg) := by
  unfold Hub.holdSwitch
  exact keep_ite (keep_each_mem (fun F hF _ H => B.wr (wk.bit ((by decide : ∀ F ∈ Hub.switchFlds,
    Nat.testBit 0x100000000000000000000000000000000000000000000 F.kind = true) F hF)) H) Hh) Hh

theorem Hub.clearBuffer_keeps {km : Nat} (B : Hub.Bears km P) (wk : Sub 0x3a000000000000000000000000000000000000000000000000000000000010b000000000000000000 km) {h : Hub} (Hh : P h) : P (Hub.clearBuffer h) := by
  unfold Hub.clearBuffer
  extract_lets +onlyGivenNames v1
  have H2 : P v1 := (B.set_pkts_opens_queues_egOut (wk.bit (by decide)) (wk.bit (by decide)) (wk.bit (by decide)) (wk.bit (by decide)) Hh)
  clear_value v1
  extract_lets +onlyGivenNames v3
  have H4 : P v3 := (B.wr (wk.bit (by decide)) (B.wr (wk.bit (by decide)) (B.wr (wk.bit (by decide)) (B.wr (wk.bit (by decide)) (B.wr (wk.bit (by decide)) (B.wr (wk.bit (by decide)) H2))))))
  clear_value v3
  extract_lets +onlyGivenNames v5
  have H6 : P v5 := (keep_each (fun _ _ H9 => (B.wr (wk.bit (by decide)) H9)) H4)
  clear_value v5
  extract_lets +onlyGivenNames v10
  have H11 : P v10 := (keep_each (fun _ _ H14 => (B.wr (wk.bit (by decide)) (B.wr (wk.bit (by decide)) (B.wr (wk.bit (by decide)) (B.wr (wk.bit (by decide)) (B.wr (wk.bit (by decide)) H14)))))) H6)
  clear_value v10
  exact (Hub.refreshThr_keeps B (wk.sub (by decide)) H11)

theorem Hub.dropLists_keeps {km : Nat} (B : Hub.Bears km P) (wk : Sub 0xf786583ddfbfffb100000000000000000000000000000000000000000000000000000000010b000000000000000000 km) {pg : ℕ} {h : Hub} (Hh : P h) : P (Hub.dropLists pg h) := by
  unfold Hub.dropLists
  refine keep_ite ?_ ?_
  · exact (B.filWin (wk.bit (by decide)) Hh)
  · refine keep_ite ?_ ?_
    · exact (B.set_mgpResp_mgpRead (wk.bit (by decide)) (wk.bit (by decide)) Hh)
    · refine keep_ite ?_ ?_
      · exact (B.set_keys_ephemeral_agree (wk.bit (by decide)) (wk.bit (by decide)) (wk.bit (by decide)) Hh)
      · refine keep_ite ?_ ?_
        · exact (B.set_blk_landed_clear_landing (wk.bit (by decide)) (wk.bit (by decide)) (wk.bit (by decide)) (wk.bit (by decide)) Hh)
        · refine keep_ite ?_ ?_
          · extract_lets +onlyGivenNames v1
            clear_value v1
            exact (B.set_lmcQ_replay_spanRx_spanTx_capRx (wk.bit (by decide)) (wk.bit (by decide)) (wk.bit (by decide)) (wk.bit (by decide)) (wk.bit (by decide)) Hh)
          · refine keep_ite ?_ ?_
            · exact (B.wr (wk.bit (by decide)) (Hub.clearBuffer_keeps B (wk.sub (by decide)) Hh))
            · refine keep_ite ?_ ?_
              · exact (B.shapers (wk.bit (by decide)) Hh)
              · refine keep_ite ?_ ?_
                · exact (B.meters (wk.bit (by decide)) Hh)
                · refine keep_ite ?_ ?_
                  · exact (B.set_asks_changes_paths_settles_unrec_intents_nbrs_granted_ready (wk.bit (by decide)) (wk.bit (by decide)) (wk.bit (by decide)) (wk.bit (by decide)) (wk.bit (by decide)) (wk.bit (by decide)) (wk.bit (by decide)) (wk.bit (by decide)) (wk.bit (by decide)) Hh)
                  · refine keep_ite ?_ ?_
                    · exact (B.set_gaps_repairs_tileDone_tileOut (wk.bit (by decide)) (wk.bit (by decide)) (wk.bit (by decide)) (wk.bit (by decide)) Hh)
                    · refine keep_ite ?_ ?_
                      · exact (B.set_tags_rdWait_reads_land_rdIn_rdBus_pfifo (wk.bit (by decide)) (wk.bit (by decide)) (wk.bit (by decide)) (wk.bit (by decide)) (wk.bit (by decide)) (wk.bit (by decide)) (wk.bit (by decide)) Hh)
                      · refine keep_ite ?_ ?_
                        · exact (B.set_usbFly_usbHeld (wk.bit (by decide)) (wk.bit (by decide)) Hh)
                        · exact (keep_ite (B.claspAsk (wk.bit (by decide)) Hh) Hh)

theorem Hub.softReset_keeps {km : Nat} (B : Hub.Bears km P) (wk : Sub 0xf7865c3ddfbfffbb80a00000000000c000603000000101010100070000010701a3030200010f030000000100015d1f km) {pg : ℕ} {busy : ℕ} {h : Hub} (Hh : P h) : P (Hub.softReset pg busy h) := by
  unfold Hub.softReset
  extract_lets +onlyGivenNames v1
  clear_value v1
  extract_lets +onlyGivenNames v2
  have H3 : P v2 := (Hub.clearRegs_keeps B (wk.sub (by decide)) (Hub.dropShadow_keeps B (wk.sub (by decide)) (Hub.quiesce_keeps B (wk.sub (by decide)) Hh)))
  clear_value v2
  extract_lets +onlyGivenNames v4
  have H5 : P v4 := (B.wr (wk.bit (by decide)) (B.wr (wk.bit (by decide)) (Hub.cfgReset_keeps B (wk.sub (by decide)) H3)))
  clear_value v4
  exact (Hub.afterReset_keeps B (wk.sub (by decide)) (Hub.holdSwitch_keeps B (wk.sub (by decide)) (keep_when (fun _ H7 => (B.wr (wk.bit (by decide)) H7)) (Hub.dropLists_keeps B (wk.sub (by decide)) H5)) Hh))

theorem Hub.laneEnable_keeps {km : Nat} (B : Hub.Bears km P) (wk : Sub 0x280200000000000c000001000000000000000000000000000010000000000000000000100010402 km) {l : ℕ} {h : Hub} {c : optParam Cap { }} (Hh : P h) : P (Hub.laneEnable l h c) := by
  unfold Hub.laneEnable
  refine keep_ite ?_ ?_
  · exact Hh
  · exact (keep_ite (Hub.raise_keeps B (wk.sub (by decide)) Hh) (Hub.toDetect_keeps B (wk.sub (by decide)) Hh))

theorem Hub.refuseMode_keeps {km : Nat} (B : Hub.Bears km P) (wk : Sub 0x2800000000000004000000000000000000000000000000000030000000000000000000000000400 km) {h : Hub} {n : ℕ} {bits : List ℕ} {c : optParam Cap { }} (Hh : P h) : P (Hub.refuseMode h n bits c) := by
  unfold Hub.refuseMode
  exact (keep_each (fun _ _ H3 => (Hub.raise_keeps B (wk.sub (by decide)) H3)) (Hub.cnt_keeps B (wk.bit (by decide)) Hh))

theorem Hub.headEnable_keeps {km : Nat} (B : Hub.Bears km P) (wk : Sub 0x2800000000000004000000000000000000000000000000000030000000000000000000000000402 km) {n : ℕ} {h : Hub} {c : optParam Cap { }} (Hh : P h) : P (Hub.headEnable n h c) := by
  unfold Hub.headEnable
  refine keep_ite ?_ ?_
  · exact Hh
  · extract_lets +onlyGivenNames v1
    clear_value v1
    exact (keep_ite (Hub.setHead_keeps B (wk.sub (by decide)) Hh) (Hub.refuseMode_keeps B (wk.sub (by decide)) Hh))

theorem Hub.claspEnable_keeps {km : Nat} (B : Hub.Bears km P) (wk : Sub 0x400000000000000000000000004000000000000101010100000000000000000000000000000000000000000000 km) {h : Hub} {n : ℕ} {en : Bool} (Hh : P h) : P (Hub.claspEnable h n en) := by
  unfold Hub.claspEnable
  refine keep_ite ?_ ?_
  · exact Hh
  · refine keep_ite ?_ ?_
    · exact (Hub.openClp_keeps B (wk.sub (by decide)) Hh)
    · exact (keep_ite Hh (Hub.setClp_keeps B (wk.sub (by decide)) Hh))

theorem Hub.lpoEnable_keeps {km : Nat} (B : Hub.Bears km P) (wk : Sub 0x4000000000000101010100000000000000000000000000000000000000000000 km) {h : Hub} {n : ℕ} {en : Bool} (Hh : P h) : P (Hub.lpoEnable h n en) := by
  unfold Hub.lpoEnable
  refine keep_ite ?_ ?_
  · exact (Hub.lpoOff_keeps B (wk.sub (by decide)) (B.wr (wk.bit (by decide)) Hh))
  · exact (keep_ite Hh (Hub.setLpo_keeps B (wk.sub (by decide)) (B.wr (wk.bit (by decide)) Hh)))

end Sys2Proof.Machine
end

