-- ==== Sys2Proof/Laws/KeepsB.lean ====
section
/-! SUPPORT. What each operation and each command keeps (part 2 of 6): one lemma per operation, which names the kinds of state
that it may change, as the bits of a number (Laws/Keep.lean). Each follows the shape of the operation's definition. -/

set_option linter.unusedVariables false

namespace Sys2Proof.Machine

open Sys2Proof

variable {P : Hub → Prop}

theorem Hub.enable_keeps {km : Nat} (B : Hub.Bears km P) (wk : Sub 0x540000b987aa80a00000000000c000603000000101010100070000000000a3030200010f030000000100014402 km) {pg : ℕ} {en : Bool} {h : Hub} {c : optParam Cap { }} (Hh : P h) : P (Hub.enable pg en h c) := by
  unfold Hub.enable
  extract_lets +onlyGivenNames v1
  have H2 : P v1 := (B.wr (wk.bit (by decide)) Hh)
  clear_value v1
  refine keep_ite ?_ ?_
  · exact (keep_ite (Hub.tryForm_keeps B (wk.sub (by decide)) H2) (Hub.portDown_keeps B (wk.sub (by decide)) H2))
  · refine keep_ite ?_ ?_
    · exact (keep_ite (keep_when (fun _ H4 => (Hub.laneEnable_keeps B (wk.sub (by decide)) (keep_when (fun _ H6 => (Hub.setLane_keeps B (wk.sub (by decide)) H6)) H4))) H2) (Hub.laneOff_keeps B (wk.sub (by decide)) H2))
    · refine keep_ite ?_ ?_
      · exact (keep_ite (keep_when (fun _ H8 => (Hub.headEnable_keeps B (wk.sub (by decide)) H8)) H2) (Hub.headDisable_keeps B (wk.sub (by decide)) H2))
      · refine keep_ite ?_ ?_
        · exact (keep_ite (keep_when (fun _ H10 => (Hub.claspEnable_keeps B (wk.sub (by decide)) H10)) H2) (Hub.claspEnable_keeps B (wk.sub (by decide)) H2))
        · refine keep_ite ?_ ?_
          · exact (keep_ite (keep_when (fun _ H12 => (Hub.lpoEnable_keeps B (wk.sub (by decide)) H12)) H2) (Hub.lpoEnable_keeps B (wk.sub (by decide)) H2))
          · refine keep_ite ?_ ?_
            · exact (Hub.pdDetach_keeps B (wk.sub (by decide)) H2)
            · exact (keep_ite (Hub.pdDetach_keeps B (wk.sub (by decide)) H2) H2)

theorem Hub.clearEstat_keeps {km : Nat} (B : Hub.Bears km P) (wk : Sub 0x4000000000000000000000000000000000010000000000000000000000000000 km) {h : Hub} {pg : ℕ} {v : ℕ} (Hh : P h) : P (Hub.clearEstat h pg v) := by
  unfold Hub.clearEstat
  extract_lets +onlyGivenNames v1
  clear_value v1
  extract_lets +onlyGivenNames v2
  have H3 : P v2 := (B.wr (wk.bit (by decide)) Hh)
  clear_value v2
  extract_lets +onlyGivenNames v4
  have H5 : P v4 := (keep_ite (B.wr (wk.bit (by decide)) H3) H3)
  clear_value v4
  extract_lets +onlyGivenNames v6
  have H7 : P v6 := (keep_ite (Hub.refreshSummary_keeps B (wk.sub (by decide)) H5) H5)
  clear_value v6
  exact (keep_ite (B.wr (wk.bit (by decide)) H7) H7)

theorem Hub.newError_keeps {km : Nat} (B : Hub.Bears km P) (wk : Sub 0x2800000000000004000000000000000000000000000000000010000000000000000000000000400 km) {pg : ℕ} {n : ℕ} {h : Hub} (Hh : P h) : P (Hub.newError pg n h) := by
  unfold Hub.newError
  refine keep_ite ?_ ?_
  · exact Hh
  · exact (keep_ite (Hub.raise_keeps B (wk.sub (by decide)) (B.wr (wk.bit (by decide)) (B.wr (wk.bit (by decide)) Hh))) (Hub.raise_keeps B (wk.sub (by decide)) Hh))

theorem Hub.estatWrite_keeps {km : Nat} (B : Hub.Bears km P) (wk : Sub 0x2800000000000004000000000000000000000000000000000010000000000000000000000000400 km) {h : Hub} {pg : ℕ} {v : ℕ} {newErr : ℕ} (Hh : P h) : P (Hub.estatWrite h pg v newErr) := by
  unfold Hub.estatWrite
  exact (keep_ite Hh (keep_each (fun _ _ H3 => (keep_ite (Hub.raise_keeps B (wk.sub (by decide)) H3) (Hub.newError_keeps B (wk.sub (by decide)) H3))) (Hub.clearEstat_keeps B (wk.sub (by decide)) Hh)))

theorem Hub.askCommit_keeps {km : Nat} (B : Hub.Bears km P) (wk : Sub 0x280200000000000c000001000000000000000000000000000010000000000000000000100000400 km) {pg : ℕ} {h : Hub} (Hh : P h) : P (Hub.askCommit pg h) := by
  unfold Hub.askCommit
  extract_lets +onlyGivenNames v1
  clear_value v1
  exact (keep_when (fun _ H3 => (Hub.txCommit_keeps B (wk.sub (by decide)) H3)) (B.wr (wk.bit (by decide)) Hh))

theorem Hub.writeLock_keeps {km : Nat} (B : Hub.Bears km P) (wk : Sub 0x1000000000000000000000000000000000000000000000000000000000000 km) {h : Hub} {pg : ℕ} {v : ℕ} (Hh : P h) : P (Hub.writeLock h pg v) := by
  unfold Hub.writeLock
  exact (keep_ite Hh (B.wr (wk.bit (by decide)) (B.wr (wk.bit (by decide)) (B.wr (wk.bit (by decide)) (B.wr (wk.bit (by decide)) Hh)))))

theorem Hub.writeFld_keeps {km : Nat} (B : Hub.Bears km P) (wk : Sub 0x280200000000000c000000000000000000000000000000000010000000000000000000000000400 km) {h : Hub} {F : Fld} {v i b : Nat} {c : Cap} (Hh : P h) : P (h.writeFld F v i b c) := by
  unfold Hub.writeFld
  extract_lets +onlyGivenNames pg
  split
  · exact B.wrAny (wk.bit (by decide)) Hh
  · exact B.wrAny (wk.bit (by decide)) Hh
  · exact B.wrAny (wk.bit (by decide)) Hh
  · exact keep_ite Hh (B.wrAny (wk.bit (by decide)) Hh)
  · exact keep_ite (Hub.raise_keeps B (wk.sub (by decide)) Hh) (B.shadow (wk.bit (by decide)) Hh)
  · exact Hh

theorem Hub.writeReg_keeps {km : Nat} (B : Hub.Bears km P) (wk : Sub 0x280200000000000c001000000000000000000000000000000010000000000000000000000000500 km) {h : Hub} {pg : ℕ} {off : ℕ} {v : ℕ} {c : Cap} (Hh : P h) : P (Hub.writeReg h pg off v c) := by
  unfold Hub.writeReg
  refine keep_ite ?_ ?_
  · refine keep_ite ?_ ?_
    · exact Hh
    · refine keep_ite ?_ ?_
      · exact Hh
      · refine keep_ite ?_ ?_
        · exact (Hub.writeLock_keeps B (wk.sub (by decide)) Hh)
        · refine keep_ite ?_ ?_
          · exact (Hub.clearEstat_keeps B (wk.sub (by decide)) Hh)
          · exact (keep_ite Hh (keep_foldl (fun _ _ H1 => (Hub.writeFld_keeps B (wk.sub (by decide)) H1)) Hh))
  · refine keep_ite ?_ ?_
    · exact (keep_ite Hh (B.wr (wk.bit (by decide)) (B.wr (wk.bit (by decide)) Hh)))
    · split
      · exact Hh
      · exact (keep_foldl (fun _ _ H2 => (Hub.writeFld_keeps B (wk.sub (by decide)) H2)) Hh)

theorem Hub.headerWrite_keeps {km : Nat} (B : Hub.Bears km P) (wk : Sub 0xf7865c3ddfbfffbb80a00000000000c001603000000101010100070000010701a3030200010f030000000100015d1f km) {h : Hub} {pg : ℕ} {off : ℕ} {v : ℕ} {c : optParam Cap { }} (Hh : P h) : P (Hub.headerWrite h pg off v c) := by
  unfold Hub.headerWrite
  refine keep_ite ?_ ?_
  · exact Hh
  · refine keep_ite ?_ ?_
    · exact (keep_ite (Hub.softReset_keeps B (wk.sub (by decide)) (B.wr (wk.bit (by decide)) Hh)) (Hub.enable_keeps B (wk.sub (by decide)) Hh))
    · refine keep_ite ?_ ?_
      · exact (Hub.estatWrite_keeps B (wk.sub (by decide)) Hh)
      · exact (keep_ite (keep_when (fun _ H2 => (Hub.askCommit_keeps B (wk.sub (by decide)) H2)) Hh) (Hub.writeReg_keeps B (wk.sub (by decide)) Hh))

theorem asCmd_keeps {km : Nat} (B : Hub.Bears km P) {f : State → Host.Outcome State Fault Refusal} {h : Hub}
    (Hf : ∀ s t, f s = .next t → P s.hub → P t.hub) (Hh : P h) : P (asCmd f h) := by
  unfold asCmd
  split
  · rename_i s e
    exact Hf _ _ e Hh
  · exact Hh

theorem Hub.asReg_keeps {km : Nat} (B : Hub.Bears km P) (wk : Sub 0x28a0000000000004000000000000000000000000000000000010000000000000000000000000500 km) {h : Hub} {r : Req} {F : Fld} {i : ℕ} {f : Hub → Hub} (Hh : P h) (Hf : ∀ a0, P a0 → P (f a0)) : P (Hub.asReg h r F i f) := by
  unfold Hub.asReg
  exact (Hub.asWrite_keeps B (wk.sub (by decide)) Hh Hf)

theorem execAccessEntryWrite_keeps {km : Nat} (B : Hub.Bears km P) (wk : Sub 0x28a8000000000004000000000000000000000000000000000010000000000000000000000000700 km) {r : Req} {v : ℕ} {s : State} {z : State} (e : (execAccessEntryWrite r v s) = .next z) (H : P s.hub) : P z.hub :=
  act_keeps e H (fun _ H2 => (Hub.asReg_keeps B (wk.sub (by decide)) H2 (fun _ H4 => (Hub.actWrite_keeps B (wk.sub (by decide)) H4))))

theorem Hub.fieldsWrite_keeps {km : Nat} (B : Hub.Bears km P) (wk : Sub 0x280200000000000c001000000000000000000000000000000010000000000000000000000000500 km) {h : Hub} {pg : ℕ} {off : ℕ} {v : ℕ} {c : Cap} (Hh : P h) : P (Hub.fieldsWrite h pg off v c) := by
  unfold Hub.fieldsWrite
  split
  · exact Hh
  · exact (keep_each (fun _ _ H1 => (by
  split
  · extract_lets +onlyGivenNames v2
    clear_value v2
    exact (keep_ite (keep_when (fun _ H3 => (B.shadow (wk.bit (by decide)) H3)) H1) (keep_when (fun _ H4 => (B.wrAny (wk.bit (by decide)) H4)) H1))
  · exact H1)) (Hub.writeReg_keeps B (wk.sub (by decide)) Hh))

theorem Hub.clearCounts_keeps {km : Nat} (B : Hub.Bears km P) (wk : Sub 0x8000000000000100000000000000000000020000000009000000000000000000 km) {pg : ℕ} {h : Hub} (Hh : P h) : P (Hub.clearCounts pg h) := by
  unfold Hub.clearCounts
  extract_lets +onlyGivenNames v1
  clear_value v1
  extract_lets +onlyGivenNames v2
  clear_value v2
  extract_lets +onlyGivenNames v3
  clear_value v3
  extract_lets +onlyGivenNames v4
  have H5 : P v4 := (Hub.clearRegs_keeps B (wk.sub (by decide)) Hh)
  clear_value v4
  refine keep_ite ?_ ?_
  · exact (B.wr (wk.bit (by decide)) H5)
  · refine keep_ite ?_ ?_
    · exact (B.wr (wk.bit (by decide)) H5)
    · refine keep_ite ?_ ?_
      · exact (B.wr (wk.bit (by decide)) H5)
      · exact (keep_ite (B.wr (wk.bit (by decide)) H5) H5)

theorem Hub.hardReset_keeps {km : Nat} (B : Hub.Bears km P) (wk : Sub 0x80000000000000000000000000000000003f87fffffffffffb8fe00000000000c000842000000000000000000000000000010000000000010000000000001c0e km) {h : Hub} {por : Bool} {cause : Nat} (Hh : P h) : P (h.hardReset por cause) := by
  unfold Hub.hardReset
  extract_lets +onlyGivenNames regs h1
  have H1 : P h1 := B.all (wk.bit (by decide)) Hh fun C => ⟨Tab.filter_sorted _ C.regs, Tab.nil_wf 0, C.fmem⟩
  clear_value h1
  extract_lets +onlyGivenNames h2
  have H2 : P h2 := keep_each (fun _ _ H => B.wr (wk.bit (by decide)) H)
    (B.wr (wk.bit (by decide)) (B.wr (wk.bit (by decide)) H1))
  clear_value h2
  exact Hub.renewNonce_keeps B (wk.sub (by decide)) (fun _ => wk.bitAt (kind_word_DBG_NONCE _) (by decide))
    (Hub.renewNonce_keeps B (wk.sub (by decide)) (fun _ => wk.bitAt (kind_word_LCS_NONCE _) (by decide))
    (Hub.refreshLpest_keeps B (wk.sub (by decide)) (Hub.refreshCap_keeps B (wk.sub (by decide)) (B.wr (wk.bit (by decide)) H2))))

theorem Hub.setStraps_keeps {km : Nat} (B : Hub.Bears km P) (wk : Sub 0x2001 km) {h : Hub} {v : ℕ} (Hh : P h) : P (Hub.setStraps h v) := by
  unfold Hub.setStraps
  exact (B.wr (wk.bit (by decide)) (B.wr (wk.bit (by decide)) (B.wr (wk.bit (by decide)) (B.wr (wk.bit (by decide)) (B.wr (wk.bit (by decide)) Hh)))))

theorem Hub.hrst_keeps {km : Nat} (B : Hub.Bears km P) (wk : Sub 0x80000000000000000000000000000000003f87fffffffffffb8fe00000000000c000842000000000000000000000000000010000000000010000000000003c0f km) {h : Hub} {cause : ℕ} (Hh : P h) : P (Hub.hrst h cause) := by
  unfold Hub.hrst
  extract_lets +onlyGivenNames v1
  have H2 : P v1 := (Hub.hardReset_keeps B (wk.sub (by decide)) Hh)
  clear_value v1
  exact (Hub.setStraps_keeps B (wk.sub (by decide)) H2)

theorem execRstcmd_keeps {km : Nat} (B : Hub.Bears km P) (wk : Sub 0x80000000000000000000000000000000003f87fffffffffffb8fe00000000000c000842000000000000000000000000000010000000000010000000000003d0f km) {r : Req} {v : ℕ} {s : State} {z : State} (e : (execRstcmd r v s) = .next z) (H : P s.hub) : P z.hub :=
  act_keeps e H (fun _ H2 => (Hub.asReg_keeps B (wk.sub (by decide)) H2 (fun _ H4 => (keep_when (fun _ H6 => (Hub.hrst_keeps B (wk.sub (by decide)) H6)) H4))))

theorem Hub.go_keeps {km : Nat} (B : Hub.Bears km P) {h : Hub} {v b : Nat} {f : State → Host.Outcome State Fault Refusal} (Hh : P h)
    (Hf : ∀ s t, f s = .next t → P s.hub → P t.hub) : P (h.go v b f) := by
  unfold Hub.go
  exact keep_when (fun _ H => asCmd_keeps B Hf H) Hh

theorem Hub.asGo_keeps {km : Nat} (B : Hub.Bears km P) (wk : Sub 0x28a0000000000004000000000000000000000000000000000010000000000000000000000000500 km) {h : Hub} {r : Req} {F : Fld} {i : ℕ} {f : Hub → Hub} (Hh : P h) (Hf : ∀ a0, P a0 → P (f a0)) : P (Hub.asGo h r F i f) := by
  unfold Hub.asGo
  exact (Hub.asReg_keeps B (wk.sub (by decide)) Hh (fun _ H2 => (keep_when Hf H2)))

theorem execNodeTimeSet_keeps {km : Nat} (B : Hub.Bears km P) (wk : Sub 0x28a0000000000004000000000000000000000000000000000010000000000000000000000000501 km) {r : Req} {s : State} {z : State} (e : (execNodeTimeSet r s) = .next z) (H : P s.hub) : P z.hub :=
  act_keeps e H (fun _ H2 => (Hub.asGo_keeps B (wk.sub (by decide)) H2 (fun _ H4 => (B.wr (wk.bit (by decide)) H4))))

theorem Hub.refreshNeed_keeps {km : Nat} (B : Hub.Bears km P) (wk : Sub 0x20 km) {h : Hub} (Hh : P h) : P (Hub.refreshNeed h) := by
  unfold Hub.refreshNeed
  extract_lets +onlyGivenNames v1
  clear_value v1
  exact (B.wr (wk.bit (by decide)) Hh)

theorem Hub.refuseState_keeps {km : Nat} (B : Hub.Bears km P) (wk : Sub 0x2800000000000004000000000000000000000000000000000010000000000000000000000000410 km) {h : Hub} {reason : ℕ} {client : ℕ} {c : Cap} (Hh : P h) : P (Hub.refuseState h reason client c) := by
  unfold Hub.refuseState
  exact (Hub.raise_keeps B (wk.sub (by decide)) (Hub.cnt_keeps B (wk.bit (by decide)) Hh))

theorem Hub.pmGo_keeps {km : Nat} (B : Hub.Bears km P) (wk : Sub 0x10000 km) {h : Hub} {p : ℕ} {l2 : ℕ} (Hh : P h) : P (Hub.pmGo h p l2) := by
  unfold Hub.pmGo
  exact (keep_when (fun _ H2 => (B.wr (wk.bit (by decide)) (B.wr (wk.bit (by decide)) (B.wr (wk.bit (by decide)) (B.wr (wk.bit (by decide)) H2))))) Hh)

theorem Hub.beginStandby_keeps {km : Nat} (B : Hub.Bears km P) (wk : Sub 0x10100000000000000000000000000010010 km) {h : Hub} (Hh : P h) : P (Hub.beginStandby h) := by
  unfold Hub.beginStandby
  extract_lets +onlyGivenNames v1
  clear_value v1
  extract_lets +onlyGivenNames v2
  clear_value v2
  extract_lets +onlyGivenNames v3
  have H4 : P v3 := (keep_each (fun _ _ H7 => (Hub.pmGo_keeps B (wk.sub (by decide)) H7)) Hh)
  clear_value v3
  exact (keep_when (fun _ H9 => (Hub.refreshMem_keeps B (wk.sub (by decide)) (B.wr (wk.bit (by decide)) H9))) (B.wr (wk.bit (by decide)) (B.wr (wk.bit (by decide)) H4)))

theorem Hub.wirePut_keeps {km : Nat} (B : Hub.Bears km P) (wk : Sub 0x400000000000000000000000000000000000000000000000000000000000000000000000000000000000 km) {h : Hub} {l : ℕ} {w : Wire} (Hh : P h) : P (Hub.wirePut h l w) := by
  unfold Hub.wirePut
  exact (B.wire (wk.bit (by decide)) Hh)

theorem Hub.ctlPut_keeps {km : Nat} (B : Hub.Bears km P) (wk : Sub 0x400000000000000000000000000000000000000000000000000000000000000000000000000000000000 km) {h : Hub} {l : ℕ} {v : ℕ} (Hh : P h) : P (Hub.ctlPut h l v) := by
  unfold Hub.ctlPut
  exact (Hub.wirePut_keeps B (wk.sub (by decide)) Hh)

theorem Hub.startExit_keeps {km : Nat} (B : Hub.Bears km P) (wk : Sub 0x40000280200000000000c000001000000000000000000000000000010000000000000000000100010402 km) {h : Hub} {p : ℕ} (Hh : P h) : P (Hub.startExit h p) := by
  unfold Hub.startExit
  refine keep_ite ?_ ?_
  · exact Hh
  · extract_lets +onlyGivenNames v1
    have H2 : P v1 := (B.wr (wk.bit (by decide)) Hh)
    clear_value v1
    exact (keep_each (fun _ _ H5 => (by
      extract_lets +onlyGivenNames v6
      clear_value v6
      refine keep_ite ?_ ?_
      · exact (Hub.ctlPut_keeps B (wk.sub (by decide)) H5)
      · refine keep_ite ?_ ?_
        · exact (keep_ite (Hub.toDetect_keeps B (wk.sub (by decide)) H5) (B.wr (wk.bit (by decide)) H5))
        · exact H5)) H2)

theorem Hub.beginTransition_keeps {km : Nat} (B : Hub.Bears km P) (wk : Sub 0x40000280200000000000c00002100000000000000000000001010001000000000000000000010001041a km) {h : Hub} {goal : ℕ} (Hh : P h) : P (Hub.beginTransition h goal) := by
  unfold Hub.beginTransition
  extract_lets +onlyGivenNames v1
  have H2 : P v1 := (keep_when (fun _ H4 => (B.wr (wk.bit (by decide)) H4)) (B.wr (wk.bit (by decide)) (B.wr (wk.bit (by decide)) (B.wr (wk.bit (by decide)) Hh))))
  clear_value v1
  extract_lets +onlyGivenNames v5
  clear_value v5
  extract_lets +onlyGivenNames v6
  have H7 : P v6 := (B.wr (wk.bit (by decide)) H2)
  clear_value v6
  extract_lets +onlyGivenNames v8
  have H9 : P v8 := (keep_ite (Hub.beginStandby_keeps B (wk.sub (by decide)) H2) (keep_ite (B.wr (wk.bit (by decide)) H7) (keep_each (fun _ _ H12 => (Hub.startExit_keeps B (wk.sub (by decide)) H12)) (Hub.refreshMem_keeps B (wk.sub (by decide)) (B.wr (wk.bit (by decide)) (B.wr (wk.bit (by decide)) H2))))))
  clear_value v8
  exact (Hub.refreshDomains_keeps B (wk.sub (by decide)) H9)

theorem Hub.askState_keeps {km : Nat} (B : Hub.Bears km P) (wk : Sub 0x40000280200000000000c00002100000000000000000000001010001000000000000000000010001043a km) {h : Hub} {m : MasterId} {target : ℕ} {c : optParam Cap { }} (Hh : P h) : P (Hub.askState h m target c) := by
  unfold Hub.askState
  extract_lets +onlyGivenNames v1
  have H2 : P v1 := (Hub.refreshNeed_keeps B (wk.sub (by decide)) Hh)
  clear_value v1
  extract_lets +onlyGivenNames v3
  clear_value v3
  extract_lets +onlyGivenNames v4
  clear_value v4
  extract_lets +onlyGivenNames v5
  have H6 : ∀ a0 a1, P (v5 a0 a1) := (fun _ _ => (Hub.refuseState_keeps B (wk.sub (by decide)) H2))
  clear_value v5
  refine keep_ite ?_ ?_
  · exact (H6 _ _)
  · refine keep_ite ?_ ?_
    · exact (H6 _ _)
    · refine keep_ite ?_ ?_
      · exact (H6 _ _)
      · split
        · rename_i a9 a10
          exact (H6 _ _)
        · rename_i a11
          refine keep_ite ?_ ?_
          · exact (H6 _ _)
          · refine keep_ite ?_ ?_
            · exact (H6 _ _)
            · extract_lets +onlyGivenNames v12
              have H13 : P v12 := (B.wr (wk.bit (by decide)) H2)
              clear_value v12
              refine keep_ite ?_ ?_
              · exact (B.wr (wk.bit (by decide)) (B.wr (wk.bit (by decide)) H13))
              · refine keep_ite ?_ ?_
                · exact H13
                · exact (keep_ite (Hub.beginTransition_keeps B (wk.sub (by decide)) H13) (Hub.beginTransition_keeps B (wk.sub (by decide)) (B.wr (wk.bit (by decide)) (B.wr (wk.bit (by decide)) H13))))

theorem execStateRequest_keeps {km : Nat} (B : Hub.Bears km P) (wk : Sub 0x4000028a200000000000c00002100000000000000000000001010001000000000000000000010001053a km) {r : Req} {target : ℕ} {s : State} {z : State} (e : (execStateRequest r target s) = .next z) (H : P s.hub) : P z.hub :=
  act_keeps e H (fun _ H2 => (Hub.asGo_keeps B (wk.sub (by decide)) H2 (fun _ H4 => (Hub.askState_keeps B (wk.sub (by decide)) H4))))

theorem Hub.wake_keeps {km : Nat} (B : Hub.Bears km P) (wk : Sub 0x40000280200000000000c00002100000000000000000000001010001000000000000000000010001041a km) {h : Hub} {src : ℕ} {detail : ℕ} (Hh : P h) : P (Hub.wake h src detail) := by
  unfold Hub.wake
  extract_lets +onlyGivenNames v1
  clear_value v1
  refine keep_ite ?_ ?_
  · exact (keep_when (fun _ H3 => (B.wr (wk.bit (by decide)) (Hub.wrBit_keeps B (wk.bit (by decide)) H3))) Hh)
  · extract_lets +onlyGivenNames v4
    have H5 : P v4 := (B.wr (wk.bit (by decide)) (Hub.wrBit_keeps B (wk.bit (by decide)) Hh))
    clear_value v4
    extract_lets +onlyGivenNames v6
    have H7 : P v6 := (keep_when (fun _ H9 => (B.wr (wk.bit (by decide)) (B.wr (wk.bit (by decide)) (B.wr (wk.bit (by decide)) (B.wr (wk.bit (by decide)) (B.wr (wk.bit (by decide)) H9)))))) H5)
    clear_value v6
    exact (keep_ite (B.wr (wk.bit (by decide)) (B.wr (wk.bit (by decide)) H7)) (Hub.beginTransition_keeps B (wk.sub (by decide)) H7))

theorem Hub.setVote_keeps {km : Nat} (B : Hub.Bears km P) (wk : Sub 0x40000280200000000000c00002100000000000000000000001010001000000000000000000010001041a km) {h : Hub} {client : ℕ} {F : Fld} {v : ℕ} (wF : km.testBit F.kind = true) (Hh : P h) : P (Hub.setVote h client F v) := by
  unfold Hub.setVote
  extract_lets +onlyGivenNames v1
  clear_value v1
  exact (Hub.refreshVotes_keeps B (wk.sub (by decide)) (keep_when (fun _ H3 => (Hub.wake_keeps B (wk.sub (by decide)) H3)) (B.wr wF Hh)))

theorem execVoteWrite_keeps {km : Nat} (B : Hub.Bears km P) (wk : Sub 0x4000028a200000000000c00002100000000000000000000001010001000000000000000000010001051a km) {r : Req} {client : Fin 6} {v : ℕ} {s : State} {z : State} (e : (execVoteWrite r client v s) = .next z) (H : P s.hub) : P z.hub :=
  act_keeps e H (fun _ H2 => (Hub.asReg_keeps B (wk.sub (by decide)) H2 (fun _ H4 => (keep_ite (keep_ite (Hub.setVote_keeps B (wk.sub (by decide)) (wk.bitAt (voteFld_kind _) (by decide)) H4) (B.wr (wk.bitAt (voteFld_kind _) (by decide)) H4)) (Hub.raise_keeps B (wk.sub (by decide)) H4)))))

theorem Hub.claspHardReset_keeps {km : Nat} (B : Hub.Bears km P) (wk : Sub 0x400000000002800000000000004000000000000101010100000000000000010000000000000000000000000400 km) {h : Hub} {n : ℕ} (Hh : P h) : P (Hub.claspHardReset h n) := by
  unfold Hub.claspHardReset
  extract_lets +onlyGivenNames v1
  clear_value v1
  refine keep_ite ?_ ?_
  · exact Hh
  · extract_lets +onlyGivenNames v2
    clear_value v2
    split
    · rename_i a3 a4 a5 e6
      have H7 := keep_snd e6 (Hub.free_keeps B (wk.sub (by decide)) Hh)
      exact (Hub.setClp_keeps B (wk.sub (by decide)) (Hub.irq_keeps B (wk.sub (by decide)) (Hub.raise_keeps B (wk.sub (by decide)) (Hub.cnt_keeps B (wk.bit (by decide)) (B.wr (wk.bit (by decide)) (B.wr (wk.bit (by decide)) (B.wr (wk.bit (by decide)) (Hub.setSw_keeps B (wk.sub (by decide)) (Hub.endContract_keeps B (wk.sub (by decide)) H7)))))))))

theorem execClaspHardReset_keeps {km : Nat} (B : Hub.Bears km P) (wk : Sub 0x4000000000028a0000000000004000000000000101010100000000000000010000000000000000000000000500 km) {r : Option Req} {p : Fin 8} {s : State} {z : State} (e : (execClaspHardReset r p s) = .next z) (H : P s.hub) : P z.hub :=
  act_keeps e H (fun _ H2 => (by
    split
    · rename_i a3 a4
      exact (Hub.asReg_keeps B (wk.sub (by decide)) H2 (fun _ H6 => (keep_when (fun _ H8 => (Hub.claspHardReset_keeps B (wk.sub (by decide)) H8)) H6)))
    · rename_i a9
      exact (keep_when (fun _ H11 => (Hub.claspHardReset_keeps B (wk.sub (by decide)) H11)) H2)))

theorem Hub.claspSay_keeps {km : Nat} (B : Hub.Bears km P) (wk : Sub 0x40800280200000000000c000001000000000000100000000000000010000000000000000000100010402 km) {h : Hub} {n : ℕ} {tok : ℕ} {ctype : ℕ} {fs : List (ℕ × ℕ × ℕ)} (Hh : P h) : P (Hub.claspSay h n tok ctype fs) := by
  unfold Hub.claspSay
  refine keep_ite ?_ ?_
  · exact (Hub.cnt_keeps B (wk.bit (by decide)) (Hub.lmcSend_keeps B (wk.sub (by decide)) Hh))
  · exact (keep_ite (Hub.startExit_keeps B (wk.sub (by decide)) (Hub.cnt_keeps B (wk.bit (by decide)) (Hub.lmcSend_keeps B (wk.sub (by decide)) Hh))) Hh)

theorem Hub.claspAskTok_keeps {km : Nat} (B : Hub.Bears km P) (wk : Sub 0x40000040800280200000000000c000001000000000000100000000000000010000000000000000000100010402 km) {h : Hub} {n : ℕ} {tok : ℕ} {ctype : ℕ} {fs : List (ℕ × ℕ × ℕ)} (Hh : P h) : P (Hub.claspAskTok h n tok ctype fs) := by
  unfold Hub.claspAskTok
  extract_lets +onlyGivenNames v1
  clear_value v1
  exact (Hub.claspSay_keeps B (wk.sub (by decide)) (B.claspAsk (wk.bit (by decide)) Hh))

theorem Hub.claspRequest_keeps {km : Nat} (B : Hub.Bears km P) (wk : Sub 0x40000040800280200000000000c000001000000000000100000000000000010000000000000000000100010402 km) {h : Hub} {n : ℕ} {ctype : ℕ} {fs : List (ℕ × ℕ × ℕ)} (Hh : P h) : P (Hub.claspRequest h n ctype fs) := by
  unfold Hub.claspRequest
  split
  · rename_i a1 a2 a3 e4
    have H5 := keep_snd e4 (Hub.nextTok_keeps B (wk.sub (by decide)) Hh)
    exact (Hub.claspAskTok_keeps B (wk.sub (by decide)) H5)

theorem execClaspSwap_keeps {km : Nat} (B : Hub.Bears km P) (wk : Sub 0x4000004080028a200000000000c000001000000000000100000000000000010000000000000000000100010502 km) {r : Req} {p : Fin 8} {s : State} {z : State} (e : (execClaspSwap r p s) = .next z) (H : P s.hub) : P z.hub :=
  act_keeps e H (fun _ H2 => (Hub.asReg_keeps B (wk.sub (by decide)) H2 (fun _ H4 => (keep_when (fun _ H6 => (Hub.claspRequest_keeps B (wk.sub (by decide)) H6)) H4))))

theorem Hub.sendOffer_keeps {km : Nat} (B : Hub.Bears km P) (wk : Sub 0x40000040800280200000000000c000001000000000000100000000000000010000000000000000000100010402 km) {h : Hub} {n : ℕ} (Hh : P h) : P (Hub.sendOffer h n) := by
  unfold Hub.sendOffer
  exact (Hub.claspRequest_keeps B (wk.sub (by decide)) Hh)

theorem Hub.renegotiate_keeps {km : Nat} (B : Hub.Bears km P) (wk : Sub 0x40000040800280200000000000c000001000000000000100000000000000010000000000000000000100010402 km) {h : Hub} {n : ℕ} (Hh : P h) : P (Hub.renegotiate h n) := by
  unfold Hub.renegotiate
  refine keep_ite ?_ ?_
  · exact (Hub.sendOffer_keeps B (wk.sub (by decide)) Hh)
  · exact (keep_ite (Hub.claspRequest_keeps B (wk.sub (by decide)) (B.wr (wk.bit (by decide)) Hh)) Hh)

theorem execReneg_keeps {km : Nat} (B : Hub.Bears km P) (wk : Sub 0x4000004080028a200000000000c000001000000000000100000000000000010000000000000000000100010502 km) {r : Req} {p : Fin 8} {s : State} {z : State} (e : (execReneg r p s) = .next z) (H : P s.hub) : P z.hub :=
  act_keeps e H (fun _ H2 => (Hub.asReg_keeps B (wk.sub (by decide)) H2 (fun _ H4 => (keep_when (fun _ H6 => (Hub.renegotiate_keeps B (wk.sub (by decide)) H6)) H4))))

theorem execContractOpen_keeps {km : Nat} (B : Hub.Bears km P) (wk : Sub 0x4000000000028a0000000000004000000000000101010100000000000000010000000000000000000000000500 km) {r : Req} {p : Fin 8} {s : State} {z : State} (e : (execContractOpen r p s) = .next z) (H : P s.hub) : P z.hub :=
  act_keeps e H (fun _ H2 => (Hub.asReg_keeps B (wk.sub (by decide)) H2 (fun _ H4 => (keep_when (fun _ H6 => (Hub.openClp_keeps B (wk.sub (by decide)) H6)) H4))))

theorem Hub.noPower_keeps {km : Nat} (B : Hub.Bears km P) (wk : Sub 0x400000000000000000000000004000000000000101010100000000000000000000000000000000000000000000 km) {h : Hub} {n : ℕ} (Hh : P h) : P (Hub.noPower h n) := by
  unfold Hub.noPower
  extract_lets +onlyGivenNames v1
  clear_value v1
  refine keep_ite ?_ ?_
  · exact Hh
  · refine keep_ite ?_ ?_
    · exact (keep_ite Hh (Hub.setClp_keeps B (wk.sub (by decide)) Hh))
    · exact (keep_ite (Hub.openClp_keeps B (wk.sub (by decide)) Hh) Hh)

theorem Hub.claspFollow_keeps {km : Nat} (B : Hub.Bears km P) (wk : Sub 0x40000040800280200000000000c000001000000101010100000000000000010000000000000000000100010402 km) {h : Hub} {n : ℕ} {old : ℕ} (Hh : P h) : P (Hub.claspFollow h n old) := by
  unfold Hub.claspFollow
  exact (keep_when (fun _ H2 => (Hub.sendOffer_keeps B (wk.sub (by decide)) H2)) (Hub.noPower_keeps B (wk.sub (by decide)) (Hub.refreshBus_keeps B (wk.sub (by decide)) (Hub.refreshArmed_keeps B (wk.sub (by decide)) Hh))))

theorem Hub.pdSend_keeps {km : Nat} (B : Hub.Bears km P) (wk : Sub 0x800000000000000000000000000000000000000000000000000000000000000000000000000000000000000000 km) {h : Hub} {k : ℕ} {m : PdOut} (Hh : P h) : P (Hub.pdSend h k m) := by
  unfold Hub.pdSend
  exact (B.pdOut (wk.bit (by decide)) Hh)

theorem Hub.pdReset_keeps {km : Nat} (B : Hub.Bears km P) (wk : Sub 0x940000000002808000000000004000000000000101010100070000000000a10000000000000000000000000400 km) {h : Hub} {k : Fin 2} (Hh : P h) : P (Hub.pdReset h k) := by
  unfold Hub.pdReset
  extract_lets +onlyGivenNames v1
  have H2 : P v1 := (Hub.pdDrop_keeps B (wk.sub (by decide)) (Hub.irq_keeps B (wk.sub (by decide)) (Hub.cnt_keeps B (wk.bit (by decide)) Hh)))
  clear_value v1
  extract_lets +onlyGivenNames v3
  have H4 : P v3 := (Hub.altExit_keeps B (wk.sub (by decide)) (B.wr (wk.bit (by decide)) H2))
  clear_value v3
  extract_lets +onlyGivenNames v5
  have H6 : P v5 := (Hub.pdFollow_keeps B (wk.sub (by decide)) (Hub.pdMeasure_keeps B (wk.sub (by decide)) H4))
  clear_value v5
  exact (keep_when (fun _ H8 => (Hub.pdSend_keeps B (wk.sub (by decide)) H8)) H6)

theorem execPdHardreset_keeps {km : Nat} (B : Hub.Bears km P) (wk : Sub 0x9400000000028a8000000000004000000000000101010100070000000000a10000000000000000000000000500 km) {r : Req} {k : Fin 2} {s : State} {z : State} (e : (execPdHardreset r k s) = .next z) (H : P s.hub) : P z.hub :=
  act_keeps e H (fun _ H2 => (Hub.asReg_keeps B (wk.sub (by decide)) H2 (fun _ H4 => (keep_when (fun _ H6 => (Hub.pdReset_keeps B (wk.sub (by decide)) (Hub.pdSend_keeps B (wk.sub (by decide)) H6))) H4))))

theorem execTypecDetach_keeps {km : Nat} (B : Hub.Bears km P) (wk : Sub 0x1400000000028a8000000000004000000000000101010100070000000000a10000000000000000000000000500 km) {r : Req} {k : Fin 2} {s : State} {z : State} (e : (execTypecDetach r k s) = .next z) (H : P s.hub) : P z.hub :=
  act_keeps e H (fun _ H2 => (Hub.asReg_keeps B (wk.sub (by decide)) H2 (fun _ H4 => (keep_when (fun _ H6 => (Hub.pdDetach_keeps B (wk.sub (by decide)) (B.wr (wk.bit (by decide)) H6))) H4))))

theorem Hub.pdConfig_keeps {km : Nat} (B : Hub.Bears km P) (wk : Sub 0x140000000002808000000000004000000000000101010100070000000000a10000000000000000000000000400 km) {h : Hub} {k : Fin 2} (Hh : P h) : P (Hub.pdConfig h k) := by
  unfold Hub.pdConfig
  extract_lets +onlyGivenNames v1
  clear_value v1
  exact (Hub.refreshBus_keeps B (wk.sub (by decide)) (keep_when (fun _ H3 => (Hub.pdDetach_keeps B (wk.sub (by decide)) H3)) (keep_when (fun _ H5 => (B.wr (wk.bit (by decide)) H5)) Hh)))

theorem Hub.fuseWrite_keeps {km : Nat} (B : Hub.Bears km P) (wk : Sub 0x2800000000000004000000000000001000000000000000000010000000000000000000000000400 km) {h : Hub} {n : ℕ} {timer : Bool} {v : ℕ} {c : optParam Cap { }} (Hh : P h) : P (Hub.fuseWrite h n timer v c) := by
  unfold Hub.fuseWrite
  extract_lets +onlyGivenNames v1
  clear_value v1
  extract_lets +onlyGivenNames v2
  clear_value v2
  refine keep_ite ?_ ?_
  · exact (Hub.raise_keeps B (wk.sub (by decide)) Hh)
  · exact (keep_ite (B.wr (wk.bit (by decide)) (B.wr (wk.bit (by decide)) Hh)) (B.wr (wk.bit (by decide)) Hh))

theorem execEnergyClear_keeps {km : Nat} (B : Hub.Bears km P) (wk : Sub 0x28a0000000000004000000000000001000000000000000000010000000000000000000000000500 km) {r : Req} {n : Fin 8} {s : State} {z : State} (e : (execEnergyClear r n s) = .next z) (H : P s.hub) : P z.hub :=
  act_keeps e H (fun _ H2 => (Hub.asGo_keeps B (wk.sub (by decide)) H2 (fun _ H4 => (B.wr (wk.bit (by decide)) (B.wr (wk.bit (by decide)) H4)))))

theorem Hub.lpoShed_keeps {km : Nat} (B : Hub.Bears km P) (wk : Sub 0x4000000000000101010100000000000000000000000000000000000000000000 km) {p : ℕ → Hub → Bool} {n : ℕ} {h : Hub} (Hh : P h) : P (Hub.lpoShed p n h) := by
  unfold Hub.lpoShed
  exact (keep_when (fun _ H2 => (Hub.lpoOff_keeps B (wk.sub (by decide)) (Hub.cnt_keeps B (wk.bit (by decide)) H2))) Hh)

theorem Hub.shedAll_keeps {km : Nat} (B : Hub.Bears km P) (wk : Sub 0x4000000000000101010100000000000000000000000000000000000000000000 km) {h : Hub} {p : ℕ → Hub → Bool} (Hh : P h) : P (Hub.shedAll h p) := by
  unfold Hub.shedAll
  exact (keep_each (fun _ _ H3 => (Hub.lpoShed_keeps B (wk.sub (by decide)) H3)) Hh)

theorem Hub.refreshEmerg_keeps {km : Nat} (B : Hub.Bears km P) (wk : Sub 0x4000000000000101010100000000000000000000000000000000000000000000 km) {h : Hub} (Hh : P h) : P (Hub.refreshEmerg h) := by
  unfold Hub.refreshEmerg
  extract_lets +onlyGivenNames v1
  clear_value v1
  extract_lets +onlyGivenNames v2
  have H3 : P v2 := (keep_ite Hh (Hub.irq_keeps B (wk.sub (by decide)) (B.wr (wk.bit (by decide)) Hh)))
  clear_value v2
  exact (Hub.refreshBus_keeps B (wk.sub (by decide)) (keep_when (fun _ H5 => (Hub.shedAll_keeps B (wk.sub (by decide)) H5)) H3))

theorem Hub.refreshCpwr_keeps {km : Nat} (B : Hub.Bears km P) (wk : Sub 0x1000000000000000000000000000000000000000000000000 km) {h : Hub} {n : ℕ} (Hh : P h) : P (Hub.refreshCpwr h n) := by
  unfold Hub.refreshCpwr
  exact (keep_when (fun _ H2 => (B.wr (wk.bit (by decide)) H2)) Hh)

theorem Hub.ballWrite_keeps {km : Nat} (B : Hub.Bears km P) (wk : Sub 0x2800000000000004000000000010000000000000000000000010000000000000000000000000400 km) {h : Hub} {v : Nat} {c : Cap} (Hh : P h) : P (h.ballWrite v c) := by
  unfold Hub.ballWrite
  extract_lets +onlyGivenNames b f held
  refine keep_ite Hh (keep_ite (Hub.raise_keeps B (wk.sub (by decide)) (keep_when (fun _ H => B.wr (wk.bit (by decide)) (B.wr (wk.bit (by decide))
    (B.wr (wk.bit (by decide)) (B.wr (wk.bit (by decide)) H)))) Hh)) ?_)
  exact keep_foldl_mem (fun _ F hF H => B.wr (wk.bit ((by decide : ∀ F ∈ [GPX.BFUNC_FUNC, GPX.BFUNC_DIR, GPX.BFUNC_OUT,
    GPX.BFUNC_PULL, GPX.BFUNC_DRIVE, GPX.BFUNC_AONHOLD], Nat.testBit 0x2800000000000004000000000010000000000000000000000010000000000000000000000000400 F.kind = true) F hF)) H) Hh

theorem Hub.timerTake_keeps {km : Nat} (B : Hub.Bears km P) (wk : Sub 0x2800000000000004000000000020000000000000000000000010000000000000000000000000400 km) {h : Hub} {m : MasterId} {owner : ℕ} {c : optParam Cap { }} (Hh : P h) : P (Hub.timerTake h m owner c) := by
  unfold Hub.timerTake
  extract_lets +onlyGivenNames v1
  clear_value v1
  exact (keep_ite (Hub.raise_keeps B (wk.sub (by decide)) Hh) (Hub.wrBit_keeps B (wk.bit (by decide)) (B.wr (wk.bit (by decide)) (B.wr (wk.bit (by decide)) (B.wr (wk.bit (by decide)) Hh)))))

theorem Hub.notOwner_keeps {km : Nat} (B : Hub.Bears km P) (wk : Sub 0x2800000000000004000000000000000000000000000000000010000000000000000000000000400 km) {h : Hub} {c : optParam Cap { }} (Hh : P h) : P (Hub.notOwner h c) := by
  unfold Hub.notOwner
  exact (Hub.raise_keeps B (wk.sub (by decide)) Hh)

theorem Hub.timerGive_keeps {km : Nat} (B : Hub.Bears km P) (wk : Sub 0x2800000000000004000000000020000000000000000000000010000000000000000000000000400 km) {h : Hub} {m : MasterId} {c : optParam Cap { }} (Hh : P h) : P (Hub.timerGive h m c) := by
  unfold Hub.timerGive
  extract_lets +onlyGivenNames v1
  clear_value v1
  exact (keep_ite (Hub.notOwner_keeps B (wk.sub (by decide)) Hh) (Hub.wrBit_keeps B (wk.bit (by decide)) (B.wr (wk.bit (by decide)) (B.wr (wk.bit (by decide)) Hh))))

theorem Hub.tcfgWrite_keeps {km : Nat} (B : Hub.Bears km P) (wk : Sub 0x2800000000000004000000000020000000000000000000000010000000000000000000000000400 km) {h : Hub} {m : MasterId} {v : ℕ} {c : optParam Cap { }} (Hh : P h) : P (Hub.tcfgWrite h m v c) := by
  unfold Hub.tcfgWrite
  extract_lets +onlyGivenNames v1
  clear_value v1
  refine keep_ite ?_ ?_
  · exact (Hub.notOwner_keeps B (wk.sub (by decide)) Hh)
  · extract_lets +onlyGivenNames v2
    clear_value v2
    extract_lets +onlyGivenNames v3
    clear_value v3
    exact (keep_when (fun _ H5 => (B.wr (wk.bit (by decide)) (B.wr (wk.bit (by decide)) H5))) (B.wr (wk.bit (by decide)) (B.wr (wk.bit (by decide)) (B.wr (wk.bit (by decide)) (B.wr (wk.bit (by decide)) Hh)))))

theorem Hub.powerWrite_keeps {km : Nat} (B : Hub.Bears km P) (wk : Sub 0x80000000000000000000000000000000003f87fffffffffffb8fe00000000000c000863000030101010100070000010100a10000000000010000000100013d3f km) {r : Req} {first : ℕ} {i : ℕ} {off : ℕ} {v : ℕ} {c : Cap} {h : Hub} {g : Hub} (Hh : P h) (Hg : P g) : P (Hub.powerWrite r first i off v c h g) := by
  unfold Hub.powerWrite
  extract_lets +onlyGivenNames v1
  clear_value v1
  extract_lets +onlyGivenNames v2
  clear_value v2
  split
  · rename_i a3
    refine keep_ite ?_ ?_
    · exact (asCmd_keeps B (fun _ _ e H => execRstcmd_keeps B (wk.sub (by decide)) e H) Hh)
    · exact (keep_ite (Hub.go_keeps B Hg (fun _ _ e H => execNodeTimeSet_keeps B (wk.sub (by decide)) e H)) Hg)
  · rename_i a4
    exact (keep_ite (keep_when (fun _ H6 => (B.wr (wk.bit (by decide)) H6)) Hg) (Hub.refreshLpest_keeps B (wk.sub (by decide)) Hg))
  · rename_i a7
    refine keep_ite ?_ ?_
    · exact (asCmd_keeps B (fun _ _ e H => execStateRequest_keeps B (wk.sub (by decide)) e H) Hh)
    · split
      · rename_i a8 a9 e10
        exact (asCmd_keeps B (fun _ _ e H => execVoteWrite_keeps B (wk.sub (by decide)) e H) Hh)
      · rename_i a11 e12
        exact Hg
  · rename_i a13
    exact (keep_ite (Hub.go_keeps B (Hub.go_keeps B (Hub.go_keeps B (Hub.go_keeps B Hg (fun _ _ e H => execClaspHardReset_keeps B (wk.sub (by decide)) e H)) (fun _ _ e H => execClaspSwap_keeps B (wk.sub (by decide)) e H)) (fun _ _ e H => execReneg_keeps B (wk.sub (by decide)) e H)) (fun _ _ e H => execContractOpen_keeps B (wk.sub (by decide)) e H)) (Hub.claspFollow_keeps B (wk.sub (by decide)) (keep_when (fun _ H15 => (B.wr (wk.bit (by decide)) H15)) Hg)))
  · rename_i a16
    exact (keep_ite (Hub.go_keeps B (Hub.go_keeps B Hg (fun _ _ e H => execPdHardreset_keeps B (wk.sub (by decide)) e H)) (fun _ _ e H => execTypecDetach_keeps B (wk.sub (by decide)) e H)) (Hub.pdConfig_keeps B (wk.sub (by decide)) Hg))
  · rename_i a17
    refine keep_ite ?_ ?_
    · exact (Hub.fuseWrite_keeps B (wk.sub (by decide)) Hh)
    · refine keep_ite ?_ ?_
      · exact (Hub.fuseWrite_keeps B (wk.sub (by decide)) Hh)
      · exact (keep_ite (Hub.go_keeps B Hg (fun _ _ e H => execEnergyClear_keeps B (wk.sub (by decide)) e H)) (Hub.refreshEmerg_keeps B (wk.sub (by decide)) (Hub.refreshCpwr_keeps B (wk.sub (by decide)) Hg)))
  · rename_i a18
    exact (Hub.refreshBus_keeps B (wk.sub (by decide)) Hg)
  · rename_i a19
    exact (keep_ite (Hub.ballWrite_keeps B (wk.sub (by decide)) Hh) Hg)
  · rename_i a20
    extract_lets +onlyGivenNames v21
    clear_value v21
    refine keep_ite ?_ ?_
    · exact (keep_when (fun _ H23 => (Hub.timerGive_keeps B (wk.sub (by decide)) H23)) (keep_when (fun _ H25 => (Hub.timerTake_keeps B (wk.sub (by decide)) H25)) Hh))
    · refine keep_ite ?_ ?_
      · exact (Hub.tcfgWrite_keeps B (wk.sub (by decide)) Hh)
      · refine keep_ite ?_ ?_
        · exact (keep_ite Hg (Hub.notOwner_keeps B (wk.sub (by decide)) Hh))
        · exact Hg
  · rename_i a26 e27 e28 e29 e30 e31 e32 e33 e34 e35
    exact Hg

theorem Hub.meterSet_keeps {km : Nat} (B : Hub.Bears km P) (wk : Sub 0x10000000000000000000000000000000000000000000000000000001000000000000000000000000 km) {h : Hub} {m : ℕ} {b : Meter} (Hh : P h) : P (Hub.meterSet h m b) := by
  unfold Hub.meterSet
  exact (B.wr (wk.bit (by decide)) (B.wr (wk.bit (by decide)) (B.meters (wk.bit (by decide)) Hh)))

theorem Hub.showHead_keeps {km : Nat} (B : Hub.Bears km P) (wk : Sub 0x100000000000000000000 km) {h : Hub} {e : ℕ} {c : ℕ} {x : Option Head} (Hh : P h) : P (Hub.showHead h e c x) := by
  unfold Hub.showHead
  extract_lets +onlyGivenNames v1
  clear_value v1
  exact (B.wr (wk.bit (by decide)) (B.wr (wk.bit (by decide)) (B.wr (wk.bit (by decide)) Hh)))

theorem Hub.seeWake_keeps {km : Nat} (B : Hub.Bears km P) (wk : Sub 0x800000000000000000000000000000000000000000000100000000000000000000000000000000 km) {h : Hub} (Hh : P h) : P (Hub.seeWake h) := by
  unfold Hub.seeWake
  exact (keep_when (fun _ H2 => (by
    split
    · rename_i a3 a4 a5 e6
      have H7 := keep_snd e6 (Hub.free_keeps B (wk.sub (by decide)) H2)
      exact (Hub.wrBit_keeps B (wk.bit (by decide)) H7))) Hh)

theorem Hub.linkErrors_keeps {km : Nat} (B : Hub.Bears km P) (wk : Sub 0x800000000000000000000000000000000000000000000000000000000000000000000000000000 km) {F : Fld} {b : ℕ} {h : Hub} (wF : km.testBit F.kind = true) (Hh : P h) : P (Hub.linkErrors F b h) := by
  unfold Hub.linkErrors
  split
  · rename_i a1 a2 a3 e4
    have H5 := keep_snd e4 (Hub.free_keeps B (wk.sub (by decide)) Hh)
    exact (Hub.cntN_keeps B wF H5)

theorem Hub.claspMeasure_keeps {km : Nat} (B : Hub.Bears km P) (wk : Sub 0x800000000000000000000000000000000100000000000000000000000000000000000000000000 km) {h : Hub} {n : ℕ} (Hh : P h) : P (Hub.claspMeasure h n) := by
  unfold Hub.claspMeasure
  exact (Hub.wrFree_keeps B (wk.sub (by decide)) (wk.bit (by decide)) (Hub.wrFree_keeps B (wk.sub (by decide)) (wk.bit (by decide)) Hh))

theorem Hub.lpoMeasure_keeps {km : Nat} (B : Hub.Bears km P) (wk : Sub 0x800000000000000000000000000001000000000000000000000000000000000000000000000000 km) {h : Hub} {n : ℕ} (Hh : P h) : P (Hub.lpoMeasure h n) := by
  unfold Hub.lpoMeasure
  exact (Hub.wrFree_keeps B (wk.sub (by decide)) (wk.bit (by decide)) (Hub.wrFree_keeps B (wk.sub (by decide)) (wk.bit (by decide)) Hh))

theorem Hub.fresh_keeps {km : Nat} (B : Hub.Bears km P) (wk : Sub 0x410800000000000000000000000000001010100010009010700020101000100000000000100006020 km) {h : Hub} {pg : ℕ} {off : ℕ} (Hh : P h) : P (Hub.fresh h pg off) := by
  unfold Hub.fresh
  refine keep_ite ?_ ?_
  · exact (keep_when (fun _ H2 => (Hub.meterSet_keeps B (wk.sub (by decide)) H2)) Hh)
  · refine keep_ite ?_ ?_
    · extract_lets +onlyGivenNames v3
      clear_value v3
      exact (keep_when (fun _ H5 => (Hub.showHead_keeps B (wk.sub (by decide)) H5)) (Hub.shaperSet_keeps B (wk.sub (by decide)) Hh))
    · refine keep_ite ?_ ?_
      · exact (Hub.refreshSlots_keeps B (wk.sub (by decide)) (keep_when (fun _ H7 => (Hub.wrFree_keeps B (wk.sub (by decide)) (wk.bit (by decide)) H7)) Hh))
      · refine keep_ite ?_ ?_
        · exact (Hub.refreshNeed_keeps B (wk.sub (by decide)) Hh)
        · refine keep_ite ?_ ?_
          · exact (keep_when (fun _ H9 => (by
              split
              · rename_i a10 a11 a12 e13
                have H14 := keep_snd e13 (Hub.free_keeps B (wk.sub (by decide)) H9)
                exact (B.wr (wk.bit (by decide)) H14))) Hh)
          · refine keep_ite ?_ ?_
            · exact (keep_when (fun _ H16 => (B.wr (wk.bit (by decide)) H16)) (B.wr (wk.bit (by decide)) Hh))
            · refine keep_ite ?_ ?_
              · exact (keep_when (fun _ H18 => (Hub.seeWake_keeps B (wk.sub (by decide)) H18)) Hh)
              · refine keep_ite ?_ ?_
                · exact (keep_when (fun _ H20 => (Hub.linkErrors_keeps B (wk.sub (by decide)) (wk.bit (by decide)) H20)) (keep_when (fun _ H22 => (Hub.linkErrors_keeps B (wk.sub (by decide)) (wk.bit (by decide)) H22)) Hh))
                · refine keep_ite ?_ ?_
                  · exact (keep_when (fun _ H24 => (Hub.linkErrors_keeps B (wk.sub (by decide)) (wk.bit (by decide)) H24)) Hh)
                  · refine keep_ite ?_ ?_
                    · exact (keep_when (fun _ H26 => (by
                        split
                        · rename_i a27 a28 a29 e30
                          have H31 := keep_snd e30 (Hub.free_keeps B (wk.sub (by decide)) H26)
                          exact (Hub.cntN_keeps B (wk.bit (by decide)) (Hub.cntN_keeps B (wk.bit (by decide)) H31)))) Hh)
                    · refine keep_ite ?_ ?_
                      · exact (keep_when (fun _ H33 => (Hub.linkErrors_keeps B (wk.sub (by decide)) (wk.bit (by decide)) H33)) Hh)
                      · refine keep_ite ?_ ?_
                        · exact (keep_when (fun _ H35 => (by
                            split
                            · rename_i a36 a37 a38 e39
                              have H40 := keep_snd e39 (Hub.free_keeps B (wk.sub (by decide)) H35)
                              exact (Hub.cntN_keeps B (wk.bit (by decide)) H40))) Hh)
                        · refine keep_ite ?_ ?_
                          · exact (keep_when (fun _ H42 => (by
                              split
                              · rename_i a43 a44 a45 e46
                                have H47 := keep_snd e46 (Hub.free_keeps B (wk.sub (by decide)) H42)
                                exact (B.wr (wk.bit (by decide)) H47))) (keep_when (fun _ H49 => (by
                              split
                              · rename_i a50 a51 a52 e53
                                have H54 := keep_snd e53 (Hub.free_keeps B (wk.sub (by decide)) H49)
                                exact (B.wr (wk.bit (by decide)) H54))) Hh))
                          · refine keep_ite ?_ ?_
                            · exact (keep_when (fun _ H56 => (by
                                split
                                · rename_i a57 a58 a59 e60
                                  have H61 := keep_snd e60 (Hub.free_keeps B (wk.sub (by decide)) H56)
                                  exact (B.wr (wk.bit (by decide)) H61))) Hh)
                            · refine keep_ite ?_ ?_
                              · exact (keep_when (fun _ H63 => (Hub.claspMeasure_keeps B (wk.sub (by decide)) H63)) Hh)
                              · refine keep_ite ?_ ?_
                                · exact (keep_when (fun _ H65 => (Hub.linkErrors_keeps B (wk.sub (by decide)) (wk.bit (by decide)) H65)) (keep_when (fun _ H67 => (Hub.pdMeasure_keeps B (wk.sub (by decide)) H67)) Hh))
                                · refine keep_ite ?_ ?_
                                  · exact (keep_when (fun _ H69 => (Hub.lpoMeasure_keeps B (wk.sub (by decide)) H69)) Hh)
                                  · exact (keep_ite (keep_when (fun _ H71 => (Hub.adapt_keeps B (wk.sub (by decide)) H71)) Hh) Hh)

theorem Hub.snapWord_keeps {km : Nat} (B : Hub.Bears km P) (wk : Sub 0x410800000000000000000000000000001010100010009010700020101000100000000000100006020 km) {h : Hub} {pg : ℕ} {off : ℕ} (Hh : P h) : P (Hub.snapWord h pg off).2 := by
  unfold Hub.snapWord
  split
  · rename_i e1
    extract_lets +onlyGivenNames v2
    have H3 : P v2 := (Hub.fresh_keeps B (wk.sub (by decide)) Hh)
    clear_value v2
    exact (keep_p2 H3)
  · rename_i e4
    split
    · rename_i a5 a6 a7 e8
      have H9 := keep_snd e8 (Hub.free_keeps B (wk.sub (by decide)) Hh)
      exact (keep_p2 H9)

theorem Hub.snapSource_keeps {km : Nat} (B : Hub.Bears km P) (wk : Sub 0x4128000000000000040000000000000010101000100090107000301010001000000000001000064e0 km) {c : Cap} {p : Nat × Hub} {i : Nat} (Hp : P p.2) : P (Hub.snapSource c p i).2 := by
  obtain ⟨pos, h⟩ := p
  have H : P h := Hp
  simp only [Hub.snapSource]
  split
  · exact H
  · split
    · exact (Hub.raise_keeps B (wk.sub (by decide)) H)
    · exact (keep_each (fun _ _ H => B.wr (wk.bitAt (kind_word_TEL_SNAPDATA _) (by decide)) (Hub.snapWord_keeps B (wk.sub (by decide)) H)) (B.wr (wk.bit (by decide)) H))

theorem Hub.snapshot_keeps {km : Nat} (B : Hub.Bears km P) (wk : Sub 0x8000000000004128000000000000040000000000000010101000100090107000301010001000000000001000064e0 km) {h : Hub} {c : Cap} (Hh : P h) : P (h.snapshot c).2 := by
  unfold Hub.snapshot
  extract_lets +onlyGivenNames num h1 q h3 bs
  have H1 : P h1 := B.wr (wk.bit (by decide)) (B.wr (wk.bit (by decide)) (B.wr (wk.bit (by decide)) Hh))
  clear_value h1
  have Q : P q.2 := keep_foldl_snd (fun _ _ H => Hub.snapSource_keeps B (wk.sub (by decide)) H) H1
  clear_value q
  have H3 : P h3 := Hub.irq_keeps B (wk.sub (by decide)) (Hub.cnt_keeps B (wk.bit (by decide)) Q)
  clear_value h3
  clear_value bs
  split
  · exact keep_p2 (Hub.raise_keeps B (wk.sub (by decide)) Hh)
  split
  · exact keep_p2 H3
  split
  · exact keep_p2 H3
  · exact keep_p2 (Hub.cnt_keeps B (wk.bit (by decide)) (B.wr (wk.bit (by decide)) (B.telOut (wk.bit (by decide)) H3)))

theorem execTelemetrySnapshot_keeps {km : Nat} (B : Hub.Bears km P) (wk : Sub 0x8000000000004128a00000000000040000000000000010101000100090107000301010001000000000001000065e0 km) {r : Req} {s : State} {z : State} (e : (execTelemetrySnapshot r s) = .next z) (H : P s.hub) : P z.hub :=
  act_keeps e H (fun _ H2 => (Hub.asReg_keeps B (wk.sub (by decide)) H2 (fun _ H4 => (keep_when (fun _ H6 => (Hub.snapshot_keeps B (wk.sub (by decide)) H6)) H4))))

theorem execMarkclr_keeps {km : Nat} (B : Hub.Bears km P) (wk : Sub 0x28a0000000000004000000000000000000000000000000000010000000000000000000000000500 km) {r : Req} {s : State} {z : State} (e : (execMarkclr r s) = .next z) (H : P s.hub) : P z.hub :=
  act_keeps e H (fun _ H2 => (Hub.asReg_keeps B (wk.sub (by decide)) H2 (fun _ H4 => (keep_when (fun _ H6 => (B.wr (wk.bit (by decide)) (B.wr (wk.bit (by decide)) (B.wr (wk.bit (by decide)) H6)))) H4))))

theorem execLocketFirmwareRecord_keeps {km : Nat} (B : Hub.Bears km P) (wk : Sub 0x28a0000000000004000000000000000000000000000000000010000000000000000000000000500 km) {r : Req} {v : ℕ} {s : State} {z : State} (e : (execLocketFirmwareRecord r v s) = .next z) (H : P s.hub) : P z.hub :=
  act_keeps e H (fun _ H2 => (Hub.asReg_keeps B (wk.sub (by decide)) H2 (fun _ H4 => (keep_when (fun _ H6 => (Hub.locketPut_keeps B (wk.sub (by decide)) (B.wr (wk.bit (by decide)) H6))) H4))))

theorem Hub.setBuf_keeps {km : Nat} (B : Hub.Bears km P) {h : Hub} {F : Fld} {bs : Bytes}
    (wF : ∀ j, j < ceilDiv bs.length 4 → km.testBit (F.word j).kind = true) (Hh : P h) : P (Hub.setBuf h F bs) := by
  unfold Hub.setBuf
  refine keep_each_mem (fun p hp _ H => ?_) Hh
  obtain ⟨x, j⟩ := p
  exact B.wr (wF j (zipIdx_lt hp)) H

theorem Hub.locketLoad_keeps {km : Nat} (B : Hub.Bears km P) (wk : Sub 0x400 km) {h : Hub} {seq : ℕ} (Hh : P h) : P (Hub.locketLoad h seq) := by
  unfold Hub.locketLoad
  extract_lets +onlyGivenNames v1
  have H2 : P v1 := (B.wr (wk.bit (by decide)) Hh)
  clear_value v1
  split
  · rename_i a3 e4
    exact (B.wr (wk.bit (by decide)) (B.wr (wk.bit (by decide)) H2))
  · rename_i a5 a6 e7
    exact (B.wr (wk.bit (by decide)) (B.wr (wk.bit (by decide)) (Hub.setBuf_keeps B (fun _ _ => (wk.bitAt (kind_word_LKT_RDATA _) (by decide))) H2)))

theorem execLocketRead_keeps {km : Nat} (B : Hub.Bears km P) (wk : Sub 0x28a0000000000004000000000000000000000000000000000010000000000000000000000000500 km) {r : Req} {seq : ℕ} {s : State} {z : State} (e : (execLocketRead r seq s) = .next z) (H : P s.hub) : P z.hub :=
  act_keeps e H (fun _ H2 => (Hub.asReg_keeps B (wk.sub (by decide)) H2 (fun _ H4 => (keep_when (fun _ H6 => (Hub.locketLoad_keeps B (wk.sub (by decide)) H6)) H4))))

theorem Hub.locketOpen_keeps {km : Nat} (B : Hub.Bears km P) (wk : Sub 0x2800000000000004000000000000000000000000000000000000000000000000000000000000400 km) {h : Hub} {typ : ℕ} (Hh : P h) : P (Hub.locketOpen h typ) := by
  unfold Hub.locketOpen
  split
  · rename_i a1 a2 a3 e4
    have H5 := keep_snd e4 (Hub.free_keeps B (wk.sub (by decide)) Hh)
    exact (Hub.locketPut_keeps B (wk.sub (by decide)) H5)

theorem Hub.lcGo_keeps {km : Nat} (B : Hub.Bears km P) (wk : Sub 0x2800000000000004000000000000000000000000000000000000000000000000000000000000c00 km) {h : Hub} (Hh : P h) : P (Hub.lcGo h) := by
  unfold Hub.lcGo
  extract_lets +onlyGivenNames v1
  clear_value v1
  extract_lets +onlyGivenNames v2
  have H3 : ∀ a0 a1, P a1 → P (v2 a0 a1) := (fun _ _ H6 => (B.wr (wk.bit (by decide)) (B.wr (wk.bit (by decide)) H6)))
  clear_value v2
  refine keep_ite ?_ ?_
  · exact Hh
  · refine keep_ite ?_ ?_
    · exact (H3 _ _ Hh)
    · refine keep_ite ?_ ?_
      · exact (H3 _ _ Hh)
      · extract_lets +onlyGivenNames v7
        have H8 : P v7 := (keep_ite (Hub.renewNonce_keeps B (wk.sub (by decide)) (fun _ => (wk.bitAt (kind_word_LCS_NONCE _) (by decide))) Hh) Hh)
        clear_value v7
        refine keep_ite ?_ ?_
        · exact (H3 _ _ H8)
        · exact (keep_ite (H3 _ _ H8) (Hub.locketOpen_keeps B (wk.sub (by decide)) (B.wr (wk.bit (by decide)) (B.wr (wk.bit (by decide)) (B.wr (wk.bit (by decide)) H8)))))

theorem execLifeCycleChange_keeps {km : Nat} (B : Hub.Bears km P) (wk : Sub 0x28a0000000000004000000000000000000000000000000000010000000000000000000000000d00 km) {r : Req} {s : State} {z : State} (e : (execLifeCycleChange r s) = .next z) (H : P s.hub) : P z.hub :=
  act_keeps e H (fun _ H2 => (Hub.asReg_keeps B (wk.sub (by decide)) H2 (fun _ H4 => (keep_when (fun _ H6 => (Hub.lcGo_keeps B (wk.sub (by decide)) H6)) H4))))

theorem Hub.setDbg_keeps {km : Nat} (B : Hub.Bears km P) (wk : Sub 0x4000010000000000000000000000000000000000000000000000000000000000 km) {h : Hub} {st : ℕ} (Hh : P h) : P (Hub.setDbg h st) := by
  unfold Hub.setDbg
  exact (keep_ite Hh (Hub.irq_keeps B (wk.sub (by decide)) (B.wr (wk.bit (by decide)) Hh)))

theorem Hub.unlock_keeps {km : Nat} (B : Hub.Bears km P) (wk : Sub 0x2800000000000004000010000000000000000000000000000010000000000000000000000001400 km) {h : Hub} {c : optParam Cap { }} (Hh : P h) : P (Hub.unlock h c) := by
  unfold Hub.unlock
  refine keep_ite ?_ ?_
  · exact Hh
  · refine keep_ite ?_ ?_
    · exact (Hub.locketOpen_keeps B (wk.sub (by decide)) (Hub.setDbg_keeps B (wk.sub (by decide)) (Hub.renewNonce_keeps B (wk.sub (by decide)) (fun _ => (wk.bitAt (kind_word_DBG_NONCE _) (by decide))) Hh)))
    · extract_lets +onlyGivenNames v1
      clear_value v1
      exact (Hub.raise_keeps B (wk.sub (by decide)) (B.wr (wk.bit (by decide)) (B.wr (wk.bit (by decide)) (Hub.renewNonce_keeps B (wk.sub (by decide)) (fun _ => (wk.bitAt (kind_word_DBG_NONCE _) (by decide))) Hh))))

theorem execDebugUnlock_keeps {km : Nat} (B : Hub.Bears km P) (wk : Sub 0x28a0000000000004000010000000000000000000000000000010000000000000000000000001500 km) {r : Req} {s : State} {z : State} (e : (execDebugUnlock r s) = .next z) (H : P s.hub) : P z.hub :=
  act_keeps e H (fun _ H2 => (Hub.asReg_keeps B (wk.sub (by decide)) H2 (fun _ H4 => (keep_when (fun _ H6 => (Hub.unlock_keeps B (wk.sub (by decide)) H6)) H4))))

theorem execRelock_keeps {km : Nat} (B : Hub.Bears km P) (wk : Sub 0x28a0000000000004000010000000000000000000000000000010000000000000000000000000500 km) {r : Req} {s : State} {z : State} (e : (execRelock r s) = .next z) (H : P s.hub) : P z.hub :=
  act_keeps e H (fun _ H2 => (Hub.asReg_keeps B (wk.sub (by decide)) H2 (fun _ H4 => (keep_when (fun _ H6 => (by
    extract_lets +onlyGivenNames v7
    clear_value v7
    exact (Hub.setDbg_keeps B (wk.sub (by decide)) H6))) H4))))

theorem Hub.injectFault_keeps {km : Nat} (B : Hub.Bears km P) (wk : Sub 0x2800000000000004000000000000000000000000000000000010000000001000000000000011404 km) {h : Hub} {kind : ℕ} {bit : ℕ} {page : ℕ} (Hh : P h) : P (Hub.injectFault h kind bit page) := by
  unfold Hub.injectFault
  extract_lets +onlyGivenNames v1
  have H2 : P v1 := (Hub.cnt_keeps B (wk.bit (by decide)) Hh)
  clear_value v1
  split
  · rename_i a3
    exact (keep_when (fun _ H5 => (Hub.raise_keeps B (wk.sub (by decide)) H5)) H2)
  · rename_i a6
    exact (B.wr (wk.bit (by decide)) H2)
  · rename_i a7
    exact (B.wr (wk.bit (by decide)) H2)
  · rename_i a8
    exact (B.wr (wk.bit (by decide)) H2)
  · rename_i a9
    exact (Hub.wrBit_keeps B (wk.bit (by decide)) H2)
  · rename_i a10 e11 e12 e13 e14 e15
    exact Hh

theorem Hub.faultGo_keeps {km : Nat} (B : Hub.Bears km P) (wk : Sub 0x2800000000000004000000000000000000000000000000000010000000001000000000000011404 km) {h : Hub} {v : ℕ} {c : optParam Cap { }} (Hh : P h) : P (Hub.faultGo h v c) := by
  unfold Hub.faultGo
  exact (keep_ite (Hub.raise_keeps B (wk.sub (by decide)) Hh) (Hub.injectFault_keeps B (wk.sub (by decide)) (B.wr (wk.bit (by decide)) (B.wr (wk.bit (by decide)) (B.wr (wk.bit (by decide)) Hh)))))

theorem execFaultInject_keeps {km : Nat} (B : Hub.Bears km P) (wk : Sub 0x28a0000000000004000000000000000000000000000000000010000000001000000000000011504 km) {r : Req} {v : ℕ} {s : State} {z : State} (e : (execFaultInject r v s) = .next z) (H : P s.hub) : P z.hub :=
  act_keeps e H (fun _ H2 => (Hub.asReg_keeps B (wk.sub (by decide)) H2 (fun _ H4 => (keep_when (fun _ H6 => (Hub.faultGo_keeps B (wk.sub (by decide)) H6)) H4))))

theorem Hub.closeSession_keeps {km : Nat} (B : Hub.Bears km P) (wk : Sub 0x4000000000000000000000000000000000000000000000000000000000002000 km) {h : Hub} (Hh : P h) : P (Hub.closeSession h) := by
  unfold Hub.closeSession
  exact (keep_ite Hh (keep_when (fun _ H2 => (Hub.irq_keeps B (wk.sub (by decide)) (B.wr (wk.bit (by decide)) H2))) (Hub.irq_keeps B (wk.sub (by decide)) (B.wr (wk.bit (by decide)) (B.wr (wk.bit (by decide)) Hh)))))

theorem execSessionClose_keeps {km : Nat} (B : Hub.Bears km P) (wk : Sub 0x28a0000000000004000000000000000000000000000000000010000000000000000000000002500 km) {r : Req} {s : State} {z : State} (e : (execSessionClose r s) = .next z) (H : P s.hub) : P z.hub :=
  act_keeps e H (fun _ H2 => (Hub.asReg_keeps B (wk.sub (by decide)) H2 (fun _ H4 => (keep_when (fun _ H6 => (Hub.closeSession_keeps B (wk.sub (by decide)) H6)) H4))))

theorem execClaimTake_keeps {km : Nat} (B : Hub.Bears km P) (wk : Sub 0x28a0000000000004000000000000000000000000000000000010000000000000000000000002500 km) {r : Req} {s : State} {z : State} (e : (execClaimTake r s) = .next z) (H : P s.hub) : P z.hub :=
  act_keeps e H (fun _ H2 => (Hub.asReg_keeps B (wk.sub (by decide)) H2 (fun _ H4 => (keep_when (fun _ H6 => (Hub.irq_keeps B (wk.sub (by decide)) (B.wr (wk.bit (by decide)) (B.wr (wk.bit (by decide)) H6)))) H4))))

theorem execClaimRelease_keeps {km : Nat} (B : Hub.Bears km P) (wk : Sub 0x28a0000000000004000000000000000000000000000000000010000000000000000000000002500 km) {r : Req} {s : State} {z : State} (e : (execClaimRelease r s) = .next z) (H : P s.hub) : P z.hub :=
  act_keeps e H (fun _ H2 => (Hub.asReg_keeps B (wk.sub (by decide)) H2 (fun _ H4 => (keep_when (fun _ H6 => (Hub.irq_keeps B (wk.sub (by decide)) (B.wr (wk.bit (by decide)) H6))) H4))))

theorem Hub.mgpReply_keeps {km : Nat} (B : Hub.Bears km P) (wk : Sub 0x1000000000000000000000000000000000000000000000000000000000000000000000000000000000000000000000 km) {h : Hub} {status : ℕ} {op : ℕ} {seq : ℕ} {data : Bytes} (Hh : P h) : P (Hub.mgpReply h status op seq data) := by
  unfold Hub.mgpReply
  exact (B.mgpResp (wk.bit (by decide)) Hh)

theorem Hub.mgpAccept_keeps {km : Nat} (B : Hub.Bears km P) (wk : Sub 0x1000000000000000000000000000004000000000000000000000000000000000000000000000000000000000002000 km) {h : Hub} (Hh : P h) : P (Hub.mgpAccept h) := by
  unfold Hub.mgpAccept
  extract_lets +onlyGivenNames v1
  clear_value v1
  extract_lets +onlyGivenNames v2
  clear_value v2
  extract_lets +onlyGivenNames v3
  have H4 : P v3 := (B.wr (wk.bit (by decide)) Hh)
  clear_value v3
  refine keep_ite ?_ ?_
  · exact (Hub.mgpReply_keeps B (wk.sub (by decide)) H4)
  · exact (keep_ite (Hub.mgpReply_keeps B (wk.sub (by decide)) (B.wr (wk.bit (by decide)) (B.wr (wk.bit (by decide)) (B.wr (wk.bit (by decide)) H4)))) (Hub.mgpReply_keeps B (wk.sub (by decide)) (Hub.irq_keeps B (wk.sub (by decide)) (B.wr (wk.bit (by decide)) (B.wr (wk.bit (by decide)) (B.wr (wk.bit (by decide)) (B.wr (wk.bit (by decide)) H4)))))))

theorem execAuthAccept_keeps {km : Nat} (B : Hub.Bears km P) (wk : Sub 0x10000000000000028a0000000000004000000000000000000000000000000000010000000000000000000000002500 km) {r : Req} {s : State} {z : State} (e : (execAuthAccept r s) = .next z) (H : P s.hub) : P z.hub :=
  act_keeps e H (fun _ H2 => (Hub.asReg_keeps B (wk.sub (by decide)) H2 (fun _ H4 => (keep_when (fun _ H6 => (Hub.mgpAccept_keeps B (wk.sub (by decide)) H6)) H4))))

theorem Hub.mgpReject_keeps {km : Nat} (B : Hub.Bears km P) (wk : Sub 0x1000000000000002800000000000004000000000000000000000000000000000010000000000000000000000002400 km) {h : Hub} (Hh : P h) : P (Hub.mgpReject h) := by
  unfold Hub.mgpReject
  extract_lets +onlyGivenNames v1
  clear_value v1
  extract_lets +onlyGivenNames v2
  have H3 : P v2 := (B.wr (wk.bit (by decide)) Hh)
  clear_value v2
  exact (keep_ite (Hub.mgpReply_keeps B (wk.sub (by decide)) (B.wr (wk.bit (by decide)) (B.wr (wk.bit (by decide)) (Hub.raise_keeps B (wk.sub (by decide)) (Hub.cnt_keeps B (wk.bit (by decide)) H3))))) (Hub.mgpReply_keeps B (wk.sub (by decide)) H3))

theorem execAuthReject_keeps {km : Nat} (B : Hub.Bears km P) (wk : Sub 0x10000000000000028a0000000000004000000000000000000000000000000000010000000000000000000000002500 km) {r : Req} {s : State} {z : State} (e : (execAuthReject r s) = .next z) (H : P s.hub) : P z.hub :=
  act_keeps e H (fun _ H2 => (Hub.asReg_keeps B (wk.sub (by decide)) H2 (fun _ H4 => (keep_when (fun _ H6 => (Hub.mgpReject_keeps B (wk.sub (by decide)) H6)) H4))))

theorem Hub.keyGo_keeps {km : Nat} (B : Hub.Bears km P) (wk : Sub 0x2800000000000004000000000000000000000000000000000010000000000000000000000004400 km) {h : Hub} {k : MasterId} {op v : Nat} {c : Cap} (Hh : P h) : P (h.keyGo k op v c) := by
  unfold Hub.keyGo
  refine keep_ite (Hub.raise_keeps B (wk.sub (by decide)) Hh) (keep_ite Hh ?_)
  extract_lets +onlyGivenNames x h1
  have H1 : P h1 := keep_foldl_mem (fun _ F hF H => B.wr (wk.bit ((by decide : ∀ F ∈ [KEY.CMD_OP, KEY.CMD_DST, KEY.CMD_SRC,
    KEY.CMD_SRCSEL, KEY.CMD_RECIP, KEY.CMD_SEALED, KEY.CMD_USE_AGREE, KEY.CMD_STATIC],
    Nat.testBit 0x2800000000000004000000000000000000000000000000000010000000000000000000000004400 F.kind = true) F hF)) H) Hh
  clear_value h1
  exact B.wr (wk.bit (by decide)) (B.wr (wk.bit (by decide)) (B.wr (wk.bit (by decide)) (B.wr (wk.bit (by decide)) H1)))

theorem Hub.lockSlots_keeps {km : Nat} (B : Hub.Bears km P) (wk : Sub 0x4000 km) {h : Hub} {v : ℕ} (Hh : P h) : P (Hub.lockSlots h v) := by
  unfold Hub.lockSlots
  exact (Hub.refreshSlots_keeps B (wk.sub (by decide)) (keep_each (fun _ _ H3 => (B.wr (wk.bit (by decide)) H3)) Hh))

theorem Hub.extend_keeps {km : Nat} (B : Hub.Bears km P) (wk : Sub 0x4000 km) {h : Hub} {i : Nat} {d : Bytes} (Hh : P h) : P (Hub.extend h i d) := by
  unfold Hub.extend
  refine keep_each_mem (fun p hp _ H => ?_) Hh
  obtain ⟨x, j⟩ := p
  have hj := zipIdx_lt hp
  exact B.wr (wk.bitAt (kind_word_KEY_MVAL (Nat.lt_succ_of_lt hj)) (by decide)) H

theorem execMeasurementExtend_keeps {km : Nat} (B : Hub.Bears km P) (wk : Sub 0x28a0000000000004000000000000000000000000000000000010000000000000000000000004500 km) {r : Req} {s : State} {z : State} (e : (execMeasurementExtend r s) = .next z) (H : P s.hub) : P z.hub :=
  act_keeps e H (fun _ H2 => (Hub.asGo_keeps B (wk.sub (by decide)) H2 (fun _ H4 => (keep_ite (Hub.extend_keeps B (wk.sub (by decide)) H4) (Hub.raise_keeps B (wk.sub (by decide)) H4)))))

theorem Hub.updCtl_keeps {km : Nat} (B : Hub.Bears km P) (wk : Sub 0x28a0000000000004000000000000000000000000000000000010000000000000000000000000500 km) {h : Hub} {r : Req} {f : Hub → Hub} (Hh : P h) (Hf : ∀ a0, P a0 → P (f a0)) : P (Hub.updCtl h r f) := by
  unfold Hub.updCtl
  exact (Hub.asReg_keeps B (wk.sub (by decide)) Hh (fun _ H2 => (keep_when Hf H2)))

theorem Hub.clearRecord_keeps {km : Nat} (B : Hub.Bears km P) (wk : Sub 0x8000 km) {h : Hub} (Hh : P h) : P (Hub.clearRecord h) := by
  unfold Hub.clearRecord
  exact (keep_when (fun _ H2 => (B.wr (wk.bit (by decide)) H2)) Hh)

theorem Hub.updStart_keeps {km : Nat} (B : Hub.Bears km P) (wk : Sub 0x10000000000000000000000000000400010000000000000000000000000000000000000000000000000000000c000 km) {h : Hub} {bundle : Bool} (Hh : P h) : P (Hub.updStart h bundle) := by
  unfold Hub.updStart
  extract_lets +onlyGivenNames v1
  have H2 : P v1 := (B.wr (wk.bit (by decide)) (B.wr (wk.bit (by decide)) (Hub.clearRecord_keeps B (wk.sub (by decide)) Hh)))
  clear_value v1
  exact (Hub.setUpd_keeps B (wk.sub (by decide)) (B.landed (wk.bit (by decide)) H2))

theorem execUpdateStart_keeps {km : Nat} (B : Hub.Bears km P) (wk : Sub 0x1000000000000028a000000000000400010000000000000000000000000000001000000000000000000000000c500 km) {r : Req} {bundle : Bool} {s : State} {z : State} (e : (execUpdateStart r bundle s) = .next z) (H : P s.hub) : P z.hub :=
  act_keeps e H (fun _ H2 => (Hub.updCtl_keeps B (wk.sub (by decide)) H2 (fun _ H4 => (Hub.updStart_keeps B (wk.sub (by decide)) (B.wr (wk.bit (by decide)) H4)))))

theorem execVerify_keeps {km : Nat} (B : Hub.Bears km P) (wk : Sub 0x28a0000000000004000100000000000000000000000000000010000000000000000000000004500 km) {r : Req} {s : State} {z : State} (e : (execVerify r s) = .next z) (H : P s.hub) : P z.hub :=
  act_keeps e H (fun _ H2 => (Hub.updCtl_keeps B (wk.sub (by decide)) H2 (fun _ H4 => (keep_when (fun _ H6 => (Hub.setUpd_keeps B (wk.sub (by decide)) H6)) H4))))

theorem execActivate_keeps {km : Nat} (B : Hub.Bears km P) (wk : Sub 0x28a000000000000400010000000000000000000000000000001000000000000000000000000c500 km) {r : Req} {s : State} {z : State} (e : (execActivate r s) = .next z) (H : P s.hub) : P z.hub :=
  act_keeps e H (fun _ H2 => (Hub.updCtl_keeps B (wk.sub (by decide)) H2 (fun _ H4 => (keep_when (fun _ H6 => (Hub.activateGo_keeps B (wk.sub (by decide)) H6)) H4))))

theorem execUpdateAbort_keeps {km : Nat} (B : Hub.Bears km P) (wk : Sub 0x28a000000000000400010000000000000000000000000000001000000000000000000000000c500 km) {r : Req} {s : State} {z : State} (e : (execUpdateAbort r s) = .next z) (H : P s.hub) : P z.hub :=
  act_keeps e H (fun _ H2 => (Hub.updCtl_keeps B (wk.sub (by decide)) H2 (fun _ H4 => (Hub.setUpd_keeps B (wk.sub (by decide)) (Hub.clearRecord_keeps B (wk.sub (by decide)) H4)))))

theorem execSvncommit_keeps {km : Nat} (B : Hub.Bears km P) (wk : Sub 0x28a0000000000004000008000000000000000000000000000010000000000000000000000000500 km) {r : Req} {s : State} {z : State} (e : (execSvncommit r s) = .next z) (H : P s.hub) : P z.hub :=
  act_keeps e H (fun _ H2 => (Hub.updCtl_keeps B (wk.sub (by decide)) H2 (fun _ H4 => (B.wr (wk.bit (by decide)) H4))))

theorem Hub.blockGo_keeps {km : Nat} (B : Hub.Bears km P) (wk : Sub 0x480000000000002800000000000004000000000000000000000000000000000010000000000000000000000008400 km) {h : Hub} {num : ℕ} {c : optParam Cap { }} (Hh : P h) : P (Hub.blockGo h num c) := by
  unfold Hub.blockGo
  extract_lets +onlyGivenNames v1
  clear_value v1
  extract_lets +onlyGivenNames v2
  clear_value v2
  extract_lets +onlyGivenNames v3
  clear_value v3
  extract_lets +onlyGivenNames v4
  have H5 : P v4 := (B.wr (wk.bit (by decide)) (B.blk (wk.bit (by decide)) Hh))
  clear_value v4
  refine keep_ite ?_ ?_
  · exact H5
  · refine keep_ite ?_ ?_
    · exact (Hub.raise_keeps B (wk.sub (by decide)) (B.wr (wk.bit (by decide)) (B.wr (wk.bit (by decide)) H5)))
    · exact (keep_ite H5 (B.wr (wk.bit (by decide)) (B.wr (wk.bit (by decide)) (B.wr (wk.bit (by decide)) (B.wr (wk.bit (by decide)) (B.landing (wk.bit (by decide)) H5))))))

theorem execBlockLand_keeps {km : Nat} (B : Hub.Bears km P) (wk : Sub 0x4800000000000028a0000000000004000000000000000000000000000000000010000000000000000000000008500 km) {r : Req} {num : ℕ} {s : State} {z : State} (e : (execBlockLand r num s) = .next z) (H : P s.hub) : P z.hub :=
  act_keeps e H (fun _ H2 => (Hub.asReg_keeps B (wk.sub (by decide)) H2 (fun _ H4 => (keep_when (fun _ H6 => (Hub.blockGo_keeps B (wk.sub (by decide)) (B.wr (wk.bit (by decide)) H6))) H4))))

theorem execBlockDataWrite_keeps {km : Nat} (B : Hub.Bears km P) (wk : Sub 0x800000000000028a0000000000004000000000000000000000000000000000010000000000000000000000008500 km) {r : Req} {v : ℕ} {s : State} {z : State} (e : (execBlockDataWrite r v s) = .next z) (H : P s.hub) : P z.hub :=
  act_keeps e H (fun _ H2 => (Hub.asReg_keeps B (wk.sub (by decide)) H2 (fun _ H4 => (keep_when (fun _ H6 => (B.wr (wk.bit (by decide)) (B.blk (wk.bit (by decide)) H6))) H4))))

theorem Hub.refreshClear_keeps {km : Nat} (B : Hub.Bears km P) (wk : Sub 0x8000 km) {h : Hub} (Hh : P h) : P (Hub.refreshClear h) := by
  unfold Hub.refreshClear
  exact (Hub.setBuf_keeps B (fun _ _ => (wk.bitAt (kind_word_UPD_BCLEAR _) (by decide))) Hh)

theorem Hub.bdecGo_keeps {km : Nat} (B : Hub.Bears km P) (wk : Sub 0x200000000000000000000000000000000000000000000000000000000000000000000000000000000000000008000 km) {h : Hub} {v : Nat} (Hh : P h) : P (h.bdecGo v) := by
  unfold Hub.bdecGo
  extract_lets +onlyGivenNames h1
  have H1 : P h1 := keep_foldl_mem (fun _ F hF H => B.wr (wk.bit ((by decide : ∀ F ∈ [UPD.BDEC_SECTION, UPD.BDEC_SLOT,
    UPD.BDEC_WOFF], Nat.testBit 0x200000000000000000000000000000000000000000000000000000000000000000000000000000000000000008000 F.kind = true) F hF)) H) Hh
  clear_value h1
  exact keep_ite (Hub.refreshClear_keeps B (wk.sub (by decide)) H1) (Hub.refreshClear_keeps B (wk.sub (by decide))
    (B.wr (wk.bit (by decide)) (B.wr (wk.bit (by decide)) (B.wr (wk.bit (by decide)) (B.clear (wk.bit (by decide)) H1)))))

theorem execBundleDecrypt_keeps {km : Nat} (B : Hub.Bears km P) (wk : Sub 0x2000000000000028a0000000000004000000000000000000000000000000000010000000000000000000000008500 km) {r : Req} {v : ℕ} {s : State} {z : State} (e : (execBundleDecrypt r v s) = .next z) (H : P s.hub) : P z.hub :=
  act_keeps e H (fun _ H2 => (Hub.asReg_keeps B (wk.sub (by decide)) H2 (fun _ H4 => (keep_when (fun _ H6 => (Hub.bdecGo_keeps B (wk.sub (by decide)) H6)) H4))))

theorem execBdecClr_keeps {km : Nat} (B : Hub.Bears km P) (wk : Sub 0x2000000000000028a0000000000004000000000000000000000000000000000010000000000000000000000008500 km) {r : Req} {s : State} {z : State} (e : (execBdecClr r s) = .next z) (H : P s.hub) : P z.hub :=
  act_keeps e H (fun _ H2 => (Hub.asReg_keeps B (wk.sub (by decide)) H2 (fun _ H4 => (keep_when (fun _ H6 => (Hub.refreshClear_keeps B (wk.sub (by decide)) (B.clear (wk.bit (by decide)) H6))) H4))))

theorem Hub.guardWrite_keeps {km : Nat} (B : Hub.Bears km P) (wk : Sub 0x1f800000000004128a000000000000400011800000000101010001000901070003010100010100000000010001fde4 km) {r : Req} {first : ℕ} {off : ℕ} {v : ℕ} {c : Cap} {h : Hub} {g : Hub} (Hh : P h) (Hg : P g) : P (Hub.guardWrite r first off v c h g) := by
  unfold Hub.guardWrite
  split
  · rename_i a1
    exact (keep_ite (Hub.go_keeps B Hg (fun _ _ e H => execTelemetrySnapshot_keeps B (wk.sub (by decide)) e H)) Hg)
  · rename_i a2
    refine keep_ite ?_ ?_
    · exact (Hub.go_keeps B Hg (fun _ _ e H => execMarkclr_keeps B (wk.sub (by decide)) e H))
    · refine keep_ite ?_ ?_
      · exact (Hub.go_keeps B Hg (fun _ _ e H => execLocketFirmwareRecord_keeps B (wk.sub (by decide)) e H))
      · exact (keep_ite (asCmd_keeps B (fun _ _ e H => execLocketRead_keeps B (wk.sub (by decide)) e H) Hh) Hg)
  · rename_i a3
    exact (keep_ite (Hub.go_keeps B Hg (fun _ _ e H => execLifeCycleChange_keeps B (wk.sub (by decide)) e H)) Hg)
  · rename_i a4
    refine keep_ite ?_ ?_
    · exact (Hub.go_keeps B (Hub.go_keeps B Hg (fun _ _ e H => execDebugUnlock_keeps B (wk.sub (by decide)) e H)) (fun _ _ e H => execRelock_keeps B (wk.sub (by decide)) e H))
    · exact (keep_ite (Hub.go_keeps B Hg (fun _ _ e H => execFaultInject_keeps B (wk.sub (by decide)) e H)) Hg)
  · rename_i a5
    refine keep_ite ?_ ?_
    · exact (Hub.go_keeps B Hg (fun _ _ e H => execSessionClose_keeps B (wk.sub (by decide)) e H))
    · refine keep_ite ?_ ?_
      · exact (Hub.go_keeps B (Hub.go_keeps B Hg (fun _ _ e H => execClaimTake_keeps B (wk.sub (by decide)) e H)) (fun _ _ e H => execClaimRelease_keeps B (wk.sub (by decide)) e H))
      · exact (keep_ite (Hub.go_keeps B (Hub.go_keeps B Hg (fun _ _ e H => execAuthAccept_keeps B (wk.sub (by decide)) e H)) (fun _ _ e H => execAuthReject_keeps B (wk.sub (by decide)) e H)) Hg)
  · rename_i a6
    refine keep_ite ?_ ?_
    · exact (keep_ite (keep_when (fun _ H8 => (Hub.keyGo_keeps B (wk.sub (by decide)) H8)) Hh) Hg)
    · refine keep_ite ?_ ?_
      · exact (keep_when (fun _ H10 => (Hub.lockSlots_keeps B (wk.sub (by decide)) H10)) Hh)
      · exact (keep_ite (Hub.go_keeps B Hg (fun _ _ e H => execMeasurementExtend_keeps B (wk.sub (by decide)) e H)) Hg)
  · rename_i a11
    refine keep_ite ?_ ?_
    · exact (Hub.go_keeps B (Hub.go_keeps B (Hub.go_keeps B (Hub.go_keeps B (Hub.go_keeps B Hg (fun _ _ e H => execUpdateStart_keeps B (wk.sub (by decide)) e H)) (fun _ _ e H => execVerify_keeps B (wk.sub (by decide)) e H)) (fun _ _ e H => execActivate_keeps B (wk.sub (by decide)) e H)) (fun _ _ e H => execUpdateAbort_keeps B (wk.sub (by decide)) e H)) (fun _ _ e H => execSvncommit_keeps B (wk.sub (by decide)) e H))
    · refine keep_ite ?_ ?_
      · exact (Hub.go_keeps B Hg (fun _ _ e H => execBlockLand_keeps B (wk.sub (by decide)) e H))
      · refine keep_ite ?_ ?_
        · exact (asCmd_keeps B (fun _ _ e H => execBlockDataWrite_keeps B (wk.sub (by decide)) e H) Hh)
        · exact (keep_ite (Hub.refreshClear_keeps B (wk.sub (by decide)) (Hub.go_keeps B (Hub.go_keeps B Hg (fun _ _ e H => execBundleDecrypt_keeps B (wk.sub (by decide)) e H)) (fun _ _ e H => execBdecClr_keeps B (wk.sub (by decide)) e H))) Hg)
  · rename_i a12 e13 e14 e15 e16 e17 e18 e19
    exact Hg

theorem Hub.setRingEn_keeps {km : Nat} (B : Hub.Bears km P) (wk : Sub 0xa00000000000000000000000000000 km) {h : Hub} {w : Writer} {v : Bool} (Hh : P h) : P (Hub.setRingEn h w v) := by
  unfold Hub.setRingEn
  split
  · rename_i a1 a2
    exact (B.wr (wk.bit (by decide)) Hh)
  · rename_i a3 a4
    exact (keep_ite (Hub.wrBit_keeps B (wk.bit (by decide)) Hh) (Hub.wrBit_keeps B (wk.bit (by decide)) Hh))
  · rename_i a5 a6
    exact (B.wr (wk.bit (by decide)) Hh)
  · rename_i a7 a8
    exact (B.wr (wk.bit (by decide)) Hh)

theorem Hub.enableRing_keeps {km : Nat} (B : Hub.Bears km P) (wk : Sub 0x2808000000000004000000000000000000000000000000000a10000000000000000000000000400 km) {h : Hub} {w : Writer} {c : optParam Cap { }} (Hh : P h) : P (Hub.enableRing h w c) := by
  unfold Hub.enableRing
  refine keep_ite ?_ ?_
  · exact Hh
  · refine keep_ite ?_ ?_
    · split
      · rename_i a1 a2
        exact (Hub.raise_keeps B (wk.sub (by decide)) Hh)
      · rename_i a3 a4
        exact (Hub.raise_keeps B (wk.sub (by decide)) Hh)
      · rename_i a5 a6
        exact (Hub.raise_keeps B (wk.sub (by decide)) Hh)
      · rename_i a7 a8
        exact (Hub.raise_keeps B (wk.sub (by decide)) Hh)
    · split
      · rename_i a9 a10
        extract_lets +onlyGivenNames v11
        clear_value v11
        extract_lets +onlyGivenNames v12
        clear_value v12
        exact (B.wr (wk.bit (by decide)) (B.wr (wk.bit (by decide)) (keep_each (fun _ _ H15 => (Hub.setTword_keeps B (wk.sub (by decide)) H15)) (Hub.setRingEn_keeps B (wk.sub (by decide)) Hh))))
      · rename_i a16 e17
        extract_lets +onlyGivenNames v18
        have H19 : P v18 := (B.wr (wk.bit (by decide)) (B.wr (wk.bit (by decide)) (Hub.setRingEn_keeps B (wk.sub (by decide)) Hh)))
        clear_value v18
        split
        · rename_i a20 a21
          exact (Hub.refreshFit_keeps B (wk.sub (by decide)) H19)
        · rename_i a22 a23
          exact (B.wr (wk.bit (by decide)) H19)
        · rename_i a24 e25 e26
          exact H19

theorem Hub.rxClosed_keeps {km : Nat} (B : Hub.Bears km P) (wk : Sub 0x800000000000000000000000000000 km) {h : Hub} {r : ℕ} (Hh : P h) : P (Hub.rxClosed h r) := by
  unfold Hub.rxClosed
  exact (B.wr (wk.bit (by decide)) (B.wr (wk.bit (by decide)) (B.wr (wk.bit (by decide)) Hh)))

theorem Hub.ringBits_keeps {km : Nat} (B : Hub.Bears km P) (wk : Sub 0x2808000000000004000000000000000000000000000000000a10000000000000000000000000400 km) {h : Hub} {ws : List Writer} {v : ℕ} {c : optParam Cap { }} (Hh : P h) : P (Hub.ringBits h ws v c) := by
  unfold Hub.ringBits
  exact (keep_each (fun _ _ H3 => (keep_ite (Hub.enableRing_keeps B (wk.sub (by decide)) H3) (keep_when (fun _ H5 => (by
    split
    · rename_i a6 a7 e8
      exact (Hub.captureCause_keeps B (wk.sub (by decide)) (Hub.setRingEn_keeps B (wk.sub (by decide)) H5))
    · rename_i a9 a10 e11
      exact (Hub.setRingEn_keeps B (wk.sub (by decide)) H5)
    · rename_i a12 a13 e14
      exact (Hub.rxClosed_keeps B (wk.sub (by decide)) (Hub.abortSlot_keeps B (wk.sub (by decide)) (Hub.setRingEn_keeps B (wk.sub (by decide)) H5)))
    · rename_i a15 a16 e17
      exact (Hub.abortSlot_keeps B (wk.sub (by decide)) (Hub.setRingEn_keeps B (wk.sub (by decide)) H5)))) H3))) Hh)

theorem Hub.hpdWrite_keeps {km : Nat} (B : Hub.Bears km P) (wk : Sub 0x800000000000000000000000000000000000000000000000000000000000200000000000000000000000000000 km) {h : Hub} {k : ℕ} {hpd : Bool} (Hh : P h) : P (Hub.hpdWrite h k hpd) := by
  unfold Hub.hpdWrite
  extract_lets +onlyGivenNames v1
  clear_value v1
  exact (keep_when (fun _ H3 => (Hub.pdSend_keeps B (wk.sub (by decide)) H3)) (B.wr (wk.bit (by decide)) Hh))

theorem execSendFull_keeps {km : Nat} (B : Hub.Bears km P) (wk : Sub 0x28a0000000000004000000000000000000000000000000000810000000000000000000000000500 km) {r : Req} {s : State} {z : State} (e : (execSendFull r s) = .next z) (H : P s.hub) : P z.hub :=
  act_keeps e H (fun _ H2 => (Hub.asGo_keeps B (wk.sub (by decide)) H2 (fun _ H4 => (B.wr (wk.bit (by decide)) H4))))

theorem Hub.repairWrite_keeps {km : Nat} (B : Hub.Bears km P) (wk : Sub 0x4000002800000000000004000000000000000000000000000000000810000000000000000000000000400 km) {h : Hub} {v : ℕ} {c : optParam Cap { }} (Hh : P h) : P (Hub.repairWrite h v c) := by
  unfold Hub.repairWrite
  extract_lets +onlyGivenNames v1
  clear_value v1
  extract_lets +onlyGivenNames v2
  have H3 : P v2 := (B.wr (wk.bit (by decide)) (B.wr (wk.bit (by decide)) Hh))
  clear_value v2
  refine keep_ite ?_ ?_
  · exact H3
  · extract_lets +onlyGivenNames v4
    clear_value v4
    extract_lets +onlyGivenNames v5
    clear_value v5
    split
    · rename_i a6 a7 e8
      exact (B.wr (wk.bit (by decide)) (B.repairs (wk.bit (by decide)) H3))
    · rename_i a9 e10
      exact (keep_ite (B.wr (wk.bit (by decide)) (B.repairs (wk.bit (by decide)) H3)) (Hub.raise_keeps B (wk.sub (by decide)) (B.wr (wk.bit (by decide)) (B.wr (wk.bit (by decide)) H3))))

theorem execGapPop_keeps {km : Nat} (B : Hub.Bears km P) (wk : Sub 0x20000028a0000000000004000000000000000000000000000000000810000000000000000000000000500 km) {r : Req} {s : State} {z : State} (e : (execGapPop r s) = .next z) (H : P s.hub) : P z.hub :=
  act_keeps e H (fun _ H2 => (Hub.asGo_keeps B (wk.sub (by decide)) H2 (fun _ H4 => (by
    extract_lets +onlyGivenNames v5
    clear_value v5
    exact (Hub.refreshGap_keeps B (wk.sub (by decide)) (B.gaps (wk.bit (by decide)) H4))))))

theorem Hub.dpTrain_keeps {km : Nat} (B : Hub.Bears km P) (wk : Sub 0x2800000000000004000000000000000000000000000000001030000000000000000000000000402 km) {h : Hub} {n : ℕ} {c : optParam Cap { }} (Hh : P h) : P (Hub.dpTrain h n c) := by
  unfold Hub.dpTrain
  extract_lets +onlyGivenNames v1
  clear_value v1
  refine keep_ite ?_ ?_
  · exact (Hub.raise_keeps B (wk.sub (by decide)) Hh)
  · exact (keep_ite Hh (Hub.setLink_keeps B (wk.sub (by decide)) Hh))

theorem execDpTrain_keeps {km : Nat} (B : Hub.Bears km P) (wk : Sub 0x28a0000000000004000000000000000000000000000000001030000000000000000000000000502 km) {r : Req} {h : Fin 4} {s : State} {z : State} (e : (execDpTrain r h s) = .next z) (H : P s.hub) : P z.hub :=
  act_keeps e H (fun _ H2 => (Hub.asGo_keeps B (wk.sub (by decide)) H2 (fun _ H4 => (Hub.dpTrain_keeps B (wk.sub (by decide)) H4))))

theorem execDpDown_keeps {km : Nat} (B : Hub.Bears km P) (wk : Sub 0x28a0000000000004000000000000000000000000000000001030000000000000000000000000502 km) {r : Req} {h : Fin 4} {s : State} {z : State} (e : (execDpDown r h s) = .next z) (H : P s.hub) : P z.hub :=
  act_keeps e H (fun _ H2 => (Hub.asGo_keeps B (wk.sub (by decide)) H2 (fun _ H4 => (Hub.setLink_keeps B (wk.sub (by decide)) H4))))

theorem Hub.auxWrite_keeps {km : Nat} (B : Hub.Bears km P) (wk : Sub 0x1000000000000000000000000000000 km) {h : Hub} {n : ℕ} {v : ℕ} (Hh : P h) : P (Hub.auxWrite h n v) := by
  unfold Hub.auxWrite
  extract_lets +onlyGivenNames v1
  have H2 : P v1 := (B.wr (wk.bit (by decide)) (B.wr (wk.bit (by decide)) (B.wr (wk.bit (by decide)) Hh)))
  clear_value v1
  exact (keep_when (fun _ H4 => (B.wr (wk.bit (by decide)) H4)) H2)

theorem Hub.refreshPf_keeps {km : Nat} (B : Hub.Bears km P) (wk : Sub 0x100000000000000000000000000000000 km) {h : Hub} (Hh : P h) : P (Hub.refreshPf h) := by
  unfold Hub.refreshPf
  extract_lets +onlyGivenNames v1
  clear_value v1
  exact (B.wr (wk.bit (by decide)) (B.wr (wk.bit (by decide)) (B.wr (wk.bit (by decide)) (B.wr (wk.bit (by decide)) (B.wr (wk.bit (by decide)) (B.wr (wk.bit (by decide)) (B.wr (wk.bit (by decide)) Hh)))))))

theorem execPfpop_keeps {km : Nat} (B : Hub.Bears km P) (wk : Sub 0x20000000028a0000000000004000000000000000000000000000000100010000000000000000000000000500 km) {r : Req} {s : State} {z : State} (e : (execPfpop r s) = .next z) (H : P s.hub) : P z.hub :=
  act_keeps e H (fun _ H2 => (Hub.asGo_keeps B (wk.sub (by decide)) H2 (fun _ H4 => (Hub.refreshPf_keeps B (wk.sub (by decide)) (B.pfifo (wk.bit (by decide)) H4)))))

theorem Hub.msix_keeps {km : Nat} (B : Hub.Bears km P) (wk : Sub 0x8000000000000000000000000000000000000000000000000000000200000000000000000000000000000000 km) {h : Hub} {v : ℕ} (Hh : P h) : P (Hub.msix h v) := by
  unfold Hub.msix
  refine keep_ite ?_ ?_
  · exact (keep_ite (Hub.wrBit_keeps B (wk.bitAt (kind_word_PCI_MSIX_PBA _) (by decide)) Hh) (B.msixOut (wk.bit (by decide)) Hh))
  · exact Hh

theorem execMsixSend_keeps {km : Nat} (B : Hub.Bears km P) (wk : Sub 0x80000000028a0000000000004000000000000000000000000000000200010000000000000000000000000500 km) {r : Req} {v : ℕ} {s : State} {z : State} (e : (execMsixSend r v s) = .next z) (H : P s.hub) : P z.hub :=
  act_keeps e H (fun _ H2 => (Hub.asGo_keeps B (wk.sub (by decide)) H2 (fun _ H4 => (keep_when (fun _ H6 => (Hub.msix_keeps B (wk.sub (by decide)) H6)) (B.wr (wk.bit (by decide)) H4)))))

theorem Hub.msixFlush_keeps {km : Nat} (B : Hub.Bears km P) (wk : Sub 0x8000000000000000000000000000000000000000000000000000000200000000000000000000000000000000 km) {h : Hub} (Hh : P h) : P (Hub.msixFlush h) := by
  unfold Hub.msixFlush
  exact (keep_each (fun _ _ H3 => (keep_when (fun _ H5 => (Hub.msix_keeps B (wk.sub (by decide)) (Hub.wrBit_keeps B (wk.bitAt (kind_word_PCI_MSIX_PBA _) (by decide)) H5))) H3)) Hh)

theorem Hub.fput_keeps {km : Nat} (B : Hub.Bears km P) (wk : Sub 0x100000000000000000000000000000000000000000000000000000000000000000000000000000 km) {h : Hub} {a : Nat} {bs : Bytes} (Hh : P h) : P (h.fput a bs) := by
  unfold Hub.fput
  exact B.fmem (wk.bit (by decide)) Hh fun W => Tab.putRun_wf _ _ _ W

theorem Hub.takeXtsKey_keeps {km : Nat} (B : Hub.Bears km P) (wk : Sub 0x1000000100000000000000000000000000000000000000000000000000000000000000000000000000000 km) {h : Hub} (Hh : P h) : P (Hub.takeXtsKey h) := by
  unfold Hub.takeXtsKey
  extract_lets +onlyGivenNames v1
  clear_value v1
  extract_lets +onlyGivenNames v2
  clear_value v2
  refine keep_ite ?_ ?_
  · exact Hh
  · extract_lets +onlyGivenNames v3
    have H4 : P v3 := (keep_each (fun _ _ H7 => (Hub.fput_keeps B (wk.sub (by decide)) H7)) Hh)
    clear_value v3
    exact (B.keys (wk.bit (by decide)) H4)

theorem Hub.memSetEn_keeps {km : Nat} (B : Hub.Bears km P) (wk : Sub 0x1000002900000000000004000000000000000000000000000010100010000000000000000000000000400 km) {h : Hub} {en : Bool} {c : optParam Cap { }} (Hh : P h) : P (Hub.memSetEn h en c) := by
  unfold Hub.memSetEn
  refine keep_ite ?_ ?_
  · exact (Hub.refreshMem_keeps B (wk.sub (by decide)) (B.wr (wk.bit (by decide)) Hh))
  · exact (keep_ite (Hub.raise_keeps B (wk.sub (by decide)) Hh) (Hub.refreshMem_keeps B (wk.sub (by decide)) (B.wr (wk.bit (by decide)) (Hub.takeXtsKey_keeps B (wk.sub (by decide)) Hh))))

theorem Hub.memTrain_keeps {km : Nat} (B : Hub.Bears km P) (wk : Sub 0x30100000000000000000000000000000000 km) {h : Hub} (Hh : P h) : P (Hub.memTrain h) := by
  unfold Hub.memTrain
  exact (Hub.refreshMem_keeps B (wk.sub (by decide)) (B.wr (wk.bit (by decide)) (B.wr (wk.bit (by decide)) (B.wr (wk.bit (by decide)) Hh))))

theorem execMemTrain_keeps {km : Nat} (B : Hub.Bears km P) (wk : Sub 0x28a0000000000004000000000000000000000000000030100010000000000000000000000000500 km) {r : Req} {s : State} {z : State} (e : (execMemTrain r s) = .next z) (H : P s.hub) : P z.hub :=
  act_keeps e H (fun _ H2 => (Hub.asGo_keeps B (wk.sub (by decide)) H2 (fun _ H4 => (Hub.memTrain_keeps B (wk.sub (by decide)) H4))))

theorem Hub.vmapStage_keeps {km : Nat} (B : Hub.Bears km P) (wk : Sub 0x1000000000000000000000000000000000000 km) {h : Hub} {m : ℕ} {v : ℕ} (Hh : P h) : P (Hub.vmapStage h m v) := by
  unfold Hub.vmapStage
  exact (B.wr (wk.bit (by decide)) Hh)

theorem Hub.vmapApply_keeps {km : Nat} (B : Hub.Bears km P) (wk : Sub 0x2800000000000004000000000000000000000000001000000010000000000000000000000000400 km) {h : Hub} {m : ℕ} {v : ℕ} {c : optParam Cap { }} (Hh : P h) : P (Hub.vmapApply h m v c) := by
  unfold Hub.vmapApply
  extract_lets +onlyGivenNames v1
  clear_value v1
  extract_lets +onlyGivenNames v2
  clear_value v2
  extract_lets +onlyGivenNames v3
  clear_value v3
  extract_lets +onlyGivenNames v4
  clear_value v4
  extract_lets +onlyGivenNames v5
  clear_value v5
  extract_lets +onlyGivenNames v6
  clear_value v6
  extract_lets +onlyGivenNames v7
  have H8 : P v7 := (B.wr (wk.bit (by decide)) Hh)
  clear_value v7
  exact (keep_ite (Hub.raise_keeps B (wk.sub (by decide)) H8) (B.wr (wk.bit (by decide)) (B.wr (wk.bit (by decide)) (B.wr (wk.bit (by decide)) (B.wr (wk.bit (by decide)) (B.wr (wk.bit (by decide)) (B.wr (wk.bit (by decide)) H8)))))))

theorem Hub.pmapStage_keeps {km : Nat} (B : Hub.Bears km P) (wk : Sub 0x4000000000000000000000000000000000000 km) {h : Hub} {v : ℕ} (Hh : P h) : P (Hub.pmapStage h v) := by
  unfold Hub.pmapStage
  exact (B.wr (wk.bit (by decide)) Hh)

theorem Hub.pmapApply_keeps {km : Nat} (B : Hub.Bears km P) (wk : Sub 0x2800000000000004000000000000000000000000004000000010000000000000000000000000400 km) {h : Hub} {v : ℕ} {c : optParam Cap { }} (Hh : P h) : P (Hub.pmapApply h v c) := by
  unfold Hub.pmapApply
  extract_lets +onlyGivenNames v1
  clear_value v1
  extract_lets +onlyGivenNames v2
  clear_value v2
  extract_lets +onlyGivenNames v3
  clear_value v3
  extract_lets +onlyGivenNames v4
  clear_value v4
  extract_lets +onlyGivenNames v5
  have H6 : P v5 := (B.wr (wk.bit (by decide)) Hh)
  clear_value v5
  exact (keep_ite (Hub.raise_keeps B (wk.sub (by decide)) H6) (B.wr (wk.bit (by decide)) (B.wr (wk.bit (by decide)) (B.wr (wk.bit (by decide)) H6))))

theorem Hub.portsPresent_keeps {km : Nat} (B : Hub.Bears km P) (wk : Sub 0x4000000000000000000000010000000000000000000000000000000000000000 km) {h : Hub} (Hh : P h) : P (Hub.portsPresent h) := by
  unfold Hub.portsPresent
  exact (keep_when (fun _ H2 => (Hub.setPortStat_keeps B (wk.sub (by decide)) H2)) (keep_each (fun _ _ H5 => (keep_ite (Hub.portEmpty_keeps B (wk.sub (by decide)) H5) (Hub.setPortStat_keeps B (wk.sub (by decide)) H5))) Hh))

theorem Hub.udfConnect_keeps {km : Nat} (B : Hub.Bears km P) (wk : Sub 0x4000000000000000000000030000000000000000000000000000000000000000 km) {h : Hub} {v : Bool} (Hh : P h) : P (Hub.udfConnect h v) := by
  unfold Hub.udfConnect
  extract_lets +onlyGivenNames v1
  have H2 : P v1 := (B.wr (wk.bit (by decide)) Hh)
  clear_value v1
  exact (keep_ite (keep_when (fun _ H4 => (Hub.setPortStat_keeps B (wk.sub (by decide)) H4)) H2) (Hub.udfDefault_keeps B (wk.sub (by decide)) (Hub.ep0Drop_keeps B (wk.sub (by decide)) (Hub.portEmpty_keeps B (wk.sub (by decide)) H2))))

theorem execEp0Go_keeps {km : Nat} (B : Hub.Bears km P) (wk : Sub 0x28a0000000000004000000000000000000000020000000000010000000000000000000000000500 km) {r : Req} {len : ℕ} {s : State} {z : State} (e : (execEp0Go r len s) = .next z) (H : P s.hub) : P z.hub :=
  act_keeps e H (fun _ H2 => (Hub.asGo_keeps B (wk.sub (by decide)) H2 (fun _ H4 => (keep_when (fun _ H6 => (B.wr (wk.bit (by decide)) H6)) (B.wr (wk.bit (by decide)) H4)))))

theorem execEp0Stall_keeps {km : Nat} (B : Hub.Bears km P) (wk : Sub 0x28a0000000000004000000000000000000000020000000000010000000000000000000000000500 km) {r : Req} {s : State} {z : State} (e : (execEp0Stall r s) = .next z) (H : P s.hub) : P z.hub :=
  act_keeps e H (fun _ H2 => (Hub.asGo_keeps B (wk.sub (by decide)) H2 (fun _ H4 => (B.wr (wk.bit (by decide)) (Hub.ep0Drop_keeps B (wk.sub (by decide)) H4)))))

theorem execStatusGo_keeps {km : Nat} (B : Hub.Bears km P) (wk : Sub 0x28a0000000000004000000000000000000000020000000000010000000000000000000000000500 km) {r : Req} {s : State} {z : State} (e : (execStatusGo r s) = .next z) (H : P s.hub) : P z.hub :=
  act_keeps e H (fun _ H2 => (Hub.asGo_keeps B (wk.sub (by decide)) H2 (fun _ H4 => (keep_when (fun _ H6 => (Hub.ep0Drop_keeps B (wk.sub (by decide)) H6)) H4))))

theorem execEp1Ingo_keeps {km : Nat} (B : Hub.Bears km P) (wk : Sub 0x28a0000000000004000000000000000000000020000000000010000000000000000000000000500 km) {r : Req} {len : ℕ} {s : State} {z : State} (e : (execEp1Ingo r len s) = .next z) (H : P s.hub) : P z.hub :=
  act_keeps e H (fun _ H2 => (Hub.asGo_keeps B (wk.sub (by decide)) H2 (fun _ H4 => (B.wr (wk.bit (by decide)) (B.wr (wk.bit (by decide)) H4)))))

theorem execEp2Go_keeps {km : Nat} (B : Hub.Bears km P) (wk : Sub 0x28a0000000000004000000000000000000000020000000000010000000000000000000000000500 km) {r : Req} {len : ℕ} {s : State} {z : State} (e : (execEp2Go r len s) = .next z) (H : P s.hub) : P z.hub :=
  act_keeps e H (fun _ H2 => (Hub.asGo_keeps B (wk.sub (by decide)) H2 (fun _ H4 => (B.wr (wk.bit (by decide)) (B.wr (wk.bit (by decide)) H4)))))

theorem Hub.wakeAbsorbed_keeps {km : Nat} (B : Hub.Bears km P) (wk : Sub 0x20000000000000000000000000000000000000000 km) {h : Hub} (Hh : P h) : P (Hub.wakeAbsorbed h) := by
  unfold Hub.wakeAbsorbed
  exact (Hub.cnt_keeps B (wk.bit (by decide)) (B.wr (wk.bit (by decide)) Hh))

theorem execWakeReq_keeps {km : Nat} (B : Hub.Bears km P) (wk : Sub 0x28a0000000000004000000000000000000000020000000000010000000000000000000000000500 km) {r : Req} {s : State} {z : State} (e : (execWakeReq r s) = .next z) (H : P s.hub) : P z.hub :=
  act_keeps e H (fun _ H2 => (Hub.asGo_keeps B (wk.sub (by decide)) H2 (fun _ H4 => (keep_ite (B.wr (wk.bit (by decide)) H4) (keep_ite (Hub.wakeAbsorbed_keeps B (wk.sub (by decide)) H4) (Hub.raise_keeps B (wk.sub (by decide)) H4))))))

theorem Hub.rhaMode_keeps {km : Nat} (B : Hub.Bears km P) (wk : Sub 0x140000000002808000000000004000000000000000000000070000000000010000000000000000000000000400 km) {h : Hub} {v : ℕ} {c : optParam Cap { }} (Hh : P h) : P (Hub.rhaMode h v c) := by
  unfold Hub.rhaMode
  refine keep_ite ?_ ?_
  · exact Hh
  · exact (keep_ite (Hub.raise_keeps B (wk.sub (by decide)) Hh) (Hub.refreshUp_keeps B (wk.sub (by decide)) (B.wr (wk.bit (by decide)) Hh)))

theorem Hub.rcfgWrite_keeps {km : Nat} (B : Hub.Bears km P) (wk : Sub 0x2800000000000004000000000000000000000040000000000010000000000000000000000000400 km) {h : Hub} {v : ℕ} {c : optParam Cap { }} (Hh : P h) : P (Hub.rcfgWrite h v c) := by
  unfold Hub.rcfgWrite
  extract_lets +onlyGivenNames v1
  clear_value v1
  extract_lets +onlyGivenNames v2
  clear_value v2
  exact (keep_ite (Hub.raise_keeps B (wk.sub (by decide)) Hh) (B.wr (wk.bit (by decide)) (B.wr (wk.bit (by decide)) (B.wr (wk.bit (by decide)) (B.wr (wk.bit (by decide)) (B.wr (wk.bit (by decide)) (B.wr (wk.bit (by decide)) (B.wr (wk.bit (by decide)) (B.wr (wk.bit (by decide)) Hh)))))))))

theorem Hub.descDone_keeps {km : Nat} (B : Hub.Bears km P) (wk : Sub 0x8000000000004000000000000000000000040000000000000000000000000000000000000000 km) {h : Hub} {r : ℕ} {i : ℕ} {status : ℕ} {actual : ℕ} {naks : ℕ} {frame : ℕ} {toggle : Bool} (Hh : P h) : P (Hub.descDone h r i status actual naks frame toggle) := by
  unfold Hub.descDone
  extract_lets +onlyGivenNames v1
  have H2 : P v1 := (Hub.setTwords_keeps B (wk.sub (by decide)) Hh)
  clear_value v1
  extract_lets +onlyGivenNames v3
  have H4 : P v3 := (Hub.setTfld_keeps B (wk.sub (by decide)) H2)
  clear_value v3
  exact (keep_when (fun _ H6 => (Hub.irq_keeps B (wk.sub (by decide)) H6)) (B.wr (wk.bit (by decide)) H4))

theorem Hub.descFail_keeps {km : Nat} (B : Hub.Bears km P) (wk : Sub 0x808000000000004000000000000000000000040000000000000000000000000000000000000000 km) {h : Hub} {r : ℕ} {i : ℕ} {status : ℕ} {actual : ℕ} {naks : ℕ} (Hh : P h) : P (Hub.descFail h r i status actual naks) := by
  unfold Hub.descFail
  split
  · rename_i a1 a2 a3 e4
    have H5 := keep_snd e4 (Hub.free_keeps B (wk.sub (by decide)) Hh)
    split
    · rename_i a6 a7 a8 e9
      have H10 := keep_snd e9 (Hub.free_keeps B (wk.sub (by decide)) H5)
      exact (Hub.cnt_keeps B (wk.bit (by decide)) (Hub.descDone_keeps B (wk.sub (by decide)) H10))

theorem Hub.ringStep_keeps {km : Nat} (B : Hub.Bears km P) (wk : Sub 0xc0000000000808000000000004000000000000000000000040000000000000000000000000000000000000000 km) {h : Hub} {r : Nat} (Hh : P h) : ∀ g, h.ringStep r = some g → P g := by
  unfold Hub.ringStep
  extract_lets +onlyGivenNames i w len buf
  clear_value i w len buf
  intro g e
  split at e
  · cases e
  · extract_lets +onlyGivenNames h1 at e
    have H1 : P h1 := B.wr (wk.bit (by decide)) Hh
    clear_value h1
    split at e
    · cases e
      exact Hub.descFail_keeps B (wk.sub (by decide)) H1
    · extract_lets +onlyGivenNames dtid mine at e
      split at e
      · cases e
      · extract_lets +onlyGivenNames control isIn seq q data x h2 at e
        have H2 : P h2 := (B.usbFly (wk.bit (by decide)) H1)
        clear_value h2
        cases e
        exact Hub.refreshHeld_keeps B (wk.sub (by decide)) (Hub.cnt_keeps B (wk.bit (by decide)) (B.wr (wk.bit (by decide)) (B.wr (wk.bit (by decide)) (Hub.usbSend_keeps B (wk.sub (by decide)) H2))))

theorem Hub.ringSend_keeps {km : Nat} (B : Hub.Bears km P) (wk : Sub 0xc0000000000808000000000004000000000000000000000040000000000000000000000000000000000000000 km) {r n : Nat} : ∀ {h : Hub}, P h → P (Hub.ringSend r n h) := by
  induction n with
  | zero => exact fun H => H
  | succ n ih =>
    intro h H
    rw [Hub.ringSend]
    split
    · rename_i h1 e
      exact ih (Hub.ringStep_keeps B (wk.sub (by decide)) H _ e)
    · exact H

theorem execDoorbell_keeps {km : Nat} (B : Hub.Bears km P) (wk : Sub 0xc00000000028a8000000000004000000000000000000000040000000000010000000000000000000000000500 km) {r : Req} {ring : Fin 256} {s : State} {z : State} (e : (execDoorbell r ring s) = .next z) (H : P s.hub) : P z.hub :=
  act_keeps e H (fun _ H2 => (Hub.asGo_keeps B (wk.sub (by decide)) H2 (fun _ H4 => (keep_when (fun _ H6 => (Hub.ringSend_keeps B (wk.sub (by decide)) (B.wr (wk.bit (by decide)) H6))) (B.wr (wk.bit (by decide)) H4)))))

theorem execCancel_keeps {km : Nat} (B : Hub.Bears km P) (wk : Sub 0x400000000028a0000000000004000000000000000000000040000000000010000000000000000000000000500 km) {r : Req} {v : ℕ} {s : State} {z : State} (e : (execCancel r v s) = .next z) (H : P s.hub) : P z.hub :=
  act_keeps e H (fun _ H2 => (Hub.asGo_keeps B (wk.sub (by decide)) H2 (fun _ H4 => (by
    extract_lets +onlyGivenNames v5
    have H6 : P v5 := (B.wr (wk.bit (by decide)) (B.wr (wk.bit (by decide)) H4))
    clear_value v5
    refine keep_ite ?_ ?_
    · split
      · rename_i a7 a8 e9
        exact (Hub.usbSend_keeps B (wk.sub (by decide)) H6)
      · rename_i a10 e11
        exact H6
    · exact H6))))

theorem execBusctl_keeps {km : Nat} (B : Hub.Bears km P) (wk : Sub 0x400000000028a0000000000004000000000000000000000040000000000010000000000000000000000000500 km) {r : Req} {v : ℕ} {s : State} {z : State} (e : (execBusctl r v s) = .next z) (H : P s.hub) : P z.hub :=
  act_keeps e H (fun _ H2 => (Hub.asGo_keeps B (wk.sub (by decide)) H2 (fun _ H4 => (keep_when (fun _ H6 => (Hub.usbSend_keeps B (wk.sub (by decide)) H6)) (B.wr (wk.bit (by decide)) H4)))))

theorem Hub.dataWrite_keeps {km : Nat} (B : Hub.Bears km P) (wk : Sub 0x9ca0070000029a8000000000004000000000000000000000070005030301a30000000000000000000000000502 km) {r : Req} {first : ℕ} {i : ℕ} {off : ℕ} {v : ℕ} {c : Cap} {h : Hub} {g : Hub} (Hh : P h) (Hg : P g) : P (Hub.dataWrite r first i off v c h g) := by
  unfold Hub.dataWrite
  extract_lets +onlyGivenNames v1
  clear_value v1
  split
  · rename_i a2
    refine keep_ite ?_ ?_
    · exact (Hub.ringBits_keeps B (wk.sub (by decide)) (Hub.hpdWrite_keeps B (wk.sub (by decide)) Hh))
    · exact (keep_ite (Hub.refreshFit_keeps B (wk.sub (by decide)) Hg) Hg)
  · rename_i a3
    refine keep_ite ?_ ?_
    · exact (Hub.ringBits_keeps B (wk.sub (by decide)) Hh)
    · refine keep_ite ?_ ?_
      · exact (Hub.ringBits_keeps B (wk.sub (by decide)) Hh)
      · refine keep_ite ?_ ?_
        · extract_lets +onlyGivenNames v4
          clear_value v4
          exact (Hub.go_keeps B (Hub.ringBits_keeps B (wk.sub (by decide)) (B.wr (wk.bit (by decide)) Hh)) (fun _ _ e H => execSendFull_keeps B (wk.sub (by decide)) e H))
        · refine keep_ite ?_ ?_
          · exact (Hub.ringBits_keeps B (wk.sub (by decide)) Hh)
          · refine keep_ite ?_ ?_
            · exact (Hub.repairWrite_keeps B (wk.sub (by decide)) Hh)
            · exact (keep_ite (Hub.go_keeps B Hg (fun _ _ e H => execGapPop_keeps B (wk.sub (by decide)) e H)) Hg)
  · rename_i a5
    refine keep_ite ?_ ?_
    · refine keep_ite ?_ ?_
      · exact Hh
      · exact (keep_ite (Hub.raise_keeps B (wk.sub (by decide)) Hh) Hg)
    · refine keep_ite ?_ ?_
      · exact (Hub.go_keeps B (Hub.go_keeps B Hg (fun _ _ e H => execDpTrain_keeps B (wk.sub (by decide)) e H)) (fun _ _ e H => execDpDown_keeps B (wk.sub (by decide)) e H))
      · exact (keep_ite (Hub.auxWrite_keeps B (wk.sub (by decide)) Hh) Hg)
  · rename_i a6
    exact (keep_ite (Hub.go_keeps B Hg (fun _ _ e H => execPfpop_keeps B (wk.sub (by decide)) e H)) Hg)
  · rename_i a7
    refine keep_ite ?_ ?_
    · exact (asCmd_keeps B (fun _ _ e H => execMsixSend_keeps B (wk.sub (by decide)) e H) Hh)
    · exact (keep_ite (Hub.msixFlush_keeps B (wk.sub (by decide)) Hg) Hg)
  · rename_i a8
    refine keep_ite ?_ ?_
    · extract_lets +onlyGivenNames v9
      clear_value v9
      exact (Hub.memSetEn_keeps B (wk.sub (by decide)) (B.wr (wk.bit (by decide)) Hg))
    · exact Hg
  · rename_i a10
    exact (keep_ite (Hub.go_keeps B Hg (fun _ _ e H => execMemTrain_keeps B (wk.sub (by decide)) e H)) Hg)
  · rename_i a11
    refine keep_ite ?_ ?_
    · exact (Hub.vmapStage_keeps B (wk.sub (by decide)) Hh)
    · exact (keep_ite (Hub.vmapApply_keeps B (wk.sub (by decide)) Hh) Hg)
  · rename_i a12
    refine keep_ite ?_ ?_
    · exact (Hub.pmapStage_keeps B (wk.sub (by decide)) Hh)
    · exact (keep_ite (Hub.pmapApply_keeps B (wk.sub (by decide)) Hh) Hg)
  · rename_i a13
    exact (keep_ite (Hub.refreshUp_keeps B (wk.sub (by decide)) (Hub.portsPresent_keeps B (wk.sub (by decide)) Hg)) Hg)
  · rename_i a14
    refine keep_ite ?_ ?_
    · exact (keep_when (fun _ H16 => (Hub.udfConnect_keeps B (wk.sub (by decide)) H16)) (B.wr (wk.bit (by decide)) Hg))
    · refine keep_ite ?_ ?_
      · exact (Hub.go_keeps B (Hub.go_keeps B (Hub.go_keeps B Hg (fun _ _ e H => execEp0Go_keeps B (wk.sub (by decide)) e H)) (fun _ _ e H => execEp0Stall_keeps B (wk.sub (by decide)) e H)) (fun _ _ e H => execStatusGo_keeps B (wk.sub (by decide)) e H))
      · refine keep_ite ?_ ?_
        · exact (Hub.go_keeps B Hg (fun _ _ e H => execEp1Ingo_keeps B (wk.sub (by decide)) e H))
        · refine keep_ite ?_ ?_
          · exact (Hub.go_keeps B Hg (fun _ _ e H => execEp2Go_keeps B (wk.sub (by decide)) e H))
          · exact (keep_ite (Hub.go_keeps B Hg (fun _ _ e H => execWakeReq_keeps B (wk.sub (by decide)) e H)) Hg)
  · rename_i a17
    refine keep_ite ?_ ?_
    · exact (Hub.rhaMode_keeps B (wk.sub (by decide)) (B.wr (wk.bit (by decide)) Hg))
    · refine keep_ite ?_ ?_
      · exact (Hub.rcfgWrite_keeps B (wk.sub (by decide)) Hh)
      · refine keep_ite ?_ ?_
        · exact (asCmd_keeps B (fun _ _ e H => execDoorbell_keeps B (wk.sub (by decide)) e H) Hh)
        · refine keep_ite ?_ ?_
          · exact (asCmd_keeps B (fun _ _ e H => execCancel_keeps B (wk.sub (by decide)) e H) Hh)
          · exact (keep_ite (asCmd_keeps B (fun _ _ e H => execBusctl_keeps B (wk.sub (by decide)) e H) Hh) Hg)
  · rename_i a18 e19 e20 e21 e22 e23 e24 e25 e26 e27 e28 e29 e30
    exact Hg

theorem Hub.pllenWrite_keeps {km : Nat} (B : Hub.Bears km P) (wk : Sub 0x2 km) {h : Hub} {v : ℕ} (Hh : P h) : P (Hub.pllenWrite h v) := by
  unfold Hub.pllenWrite
  extract_lets +onlyGivenNames v1
  clear_value v1
  extract_lets +onlyGivenNames v2
  clear_value v2
  exact (keep_each (fun _ _ H5 => (Hub.wrBit_keeps B (wk.bit (by decide)) (Hub.wrBit_keeps B (wk.bit (by decide)) H5))) (B.wr (wk.bit (by decide)) Hh))

theorem Hub.gateOn_keeps {km : Nat} (B : Hub.Bears km P) (wk : Sub 0x2 km) {h : Hub} {n : Nat} (Hh : P h) : P (h.gateOn n) := by
  unfold Hub.gateOn
  exact Hub.wrBit_keeps B (wk.bit (by decide)) (Hub.wrBit_keeps B (wk.bit (by decide)) (Hub.wrBit_keeps B (wk.bitAt (gateFld_kind _) (by decide)) Hh))

theorem Hub.gateOff_keeps {km : Nat} (B : Hub.Bears km P) (wk : Sub 0x2 km) {h : Hub} {n : Nat} (Hh : P h) : P (h.gateOff n) := by
  unfold Hub.gateOff
  exact keep_ite (Hub.wrBit_keeps B (wk.bit (by decide)) (Hub.wrBit_keeps B (wk.bitAt (gateFld_kind _) (by decide)) Hh))
    (Hub.wrBit_keeps B (wk.bitAt (gateFld_kind _) (by decide)) Hh)

theorem Hub.gateSet_keeps {km : Nat} (B : Hub.Bears km P) (wk : Sub 0x2 km) {h : Hub} {n : ℕ} {run : Bool} (Hh : P h) : P (Hub.gateSet h n run) := by
  unfold Hub.gateSet
  refine keep_ite ?_ ?_
  · exact (Hub.wrBit_keeps B (wk.bitAt (gateFld_kind _) (by decide)) Hh)
  · exact (keep_ite (Hub.gateOn_keeps B (wk.sub (by decide)) Hh) (Hub.gateOff_keeps B (wk.sub (by decide)) Hh))

theorem Hub.gateWrite_keeps {km : Nat} (B : Hub.Bears km P) (wk : Sub 0x2 km) {h : Hub} {v : ℕ} (Hh : P h) : P (Hub.gateWrite h v) := by
  unfold Hub.gateWrite
  exact (keep_each (fun _ _ H3 => (by
    split
    · rename_i a4 a5 a6 e7
      exact (keep_when (fun _ H9 => (Hub.gateSet_keeps B (wk.sub (by decide)) H9)) H3))) Hh)

theorem Hub.vsetWrite_keeps {km : Nat} (B : Hub.Bears km P) (wk : Sub 0xa800000000000004000000000000000000000000000000000010000000000010000000000000404 km) {h : Hub} {r : Req} {v : ℕ} (Hh : P h) : P (Hub.vsetWrite h r v) := by
  unfold Hub.vsetWrite
  extract_lets +onlyGivenNames v1
  clear_value v1
  extract_lets +onlyGivenNames v2
  clear_value v2
  refine keep_ite ?_ ?_
  · exact (Hub.raise_keeps B (wk.sub (by decide)) Hh)
  · exact (keep_ite (Hub.refreshCap_keeps B (wk.sub (by decide)) (B.wr (wk.bit (by decide)) (B.wr (wk.bit (by decide)) (B.wr (wk.bit (by decide)) Hh)))) (Hub.refreshCap_keeps B (wk.sub (by decide)) (B.wr (wk.bit (by decide)) (B.wr (wk.bit (by decide)) (B.wr (wk.bit (by decide)) Hh)))))

theorem Hub.filSnap_keeps {km : Nat} (B : Hub.Bears km P) (wk : Sub 0x4 km) {h : Hub} (Hh : P h) : P (Hub.filSnap h) := by
  unfold Hub.filSnap
  exact (B.wr (wk.bitAt (kind_word_FIL_SNAP_DATA _) (by decide)) (B.wr (wk.bitAt (kind_word_FIL_SNAP_DATA _) (by decide)) (B.wr (wk.bitAt (kind_word_FIL_SNAP_DATA _) (by decide)) (B.wr (wk.bitAt (kind_word_FIL_SNAP_DATA _) (by decide)) (B.wr (wk.bitAt (kind_word_FIL_SNAP_DATA _) (by decide)) (B.wr (wk.bitAt (kind_word_FIL_SNAP_DATA _) (by decide)) Hh))))))

theorem execFilSnap_keeps {km : Nat} (B : Hub.Bears km P) (wk : Sub 0x28a0000000000004000000000000000000000000000000000010000000000000000000000000504 km) {r : Req} {s : State} {z : State} (e : (execFilSnap r s) = .next z) (H : P s.hub) : P z.hub :=
  act_keeps e H (fun _ H2 => (Hub.asGo_keeps B (wk.sub (by decide)) H2 (fun _ H4 => (Hub.filSnap_keeps B (wk.sub (by decide)) H4))))

theorem execPortDownCmd_keeps {km : Nat} (B : Hub.Bears km P) (wk : Sub 0xb987aa8a200000000000c00060100000000000000000000000000001030200010f030000000100014502 km) {r : Req} {p : Fin 8} {s : State} {z : State} (e : (execPortDownCmd r p s) = .next z) (H : P s.hub) : P z.hub :=
  act_keeps e H (fun _ H2 => (Hub.asGo_keeps B (wk.sub (by decide)) H2 (fun _ H4 => (Hub.portDown_keeps B (wk.sub (by decide)) H4))))

theorem Hub.widthGo_keeps {km : Nat} (B : Hub.Bears km P) (wk : Sub 0x8002800000000000004000000000000000000000000000000000010000000000000000000000010400 km) {h : Hub} {p : ℕ} {c : optParam Cap { }} (Hh : P h) : P (Hub.widthGo h p c) := by
  unfold Hub.widthGo
  extract_lets +onlyGivenNames v1
  clear_value v1
  extract_lets +onlyGivenNames v2
  clear_value v2
  refine keep_ite ?_ ?_
  · exact Hh
  · refine keep_ite ?_ ?_
    · exact (B.wr (wk.bit (by decide)) Hh)
    · refine keep_ite ?_ ?_
      · exact (Hub.raise_keeps B (wk.sub (by decide)) (B.wr (wk.bit (by decide)) Hh))
      · split
        · rename_i a3 a4 a5 e6
          have H7 := keep_snd e6 (Hub.nextTok_keeps B (wk.sub (by decide)) Hh)
          exact (Hub.lmcSend_keeps B (wk.sub (by decide)) (B.wr (wk.bit (by decide)) (B.wr (wk.bit (by decide)) (B.wr (wk.bit (by decide)) (B.wr (wk.bit (by decide)) H7)))))

theorem execWidthRequest_keeps {km : Nat} (B : Hub.Bears km P) (wk : Sub 0x80028a0000000000004000000000000000000000000000000000010000000000000000000000010500 km) {r : Req} {p : Fin 8} {s : State} {z : State} (e : (execWidthRequest r p s) = .next z) (H : P s.hub) : P z.hub :=
  act_keeps e H (fun _ H2 => (Hub.asGo_keeps B (wk.sub (by decide)) H2 (fun _ H4 => (Hub.widthGo_keeps B (wk.sub (by decide)) H4))))

theorem execPmRequest_keeps {km : Nat} (B : Hub.Bears km P) (wk : Sub 0x28a0000000000004000000000000000000000000000000000010000000000000000000000010500 km) {r : Req} {p : Fin 8} {s : State} {z : State} (e : (execPmRequest r p s) = .next z) (H : P s.hub) : P z.hub :=
  act_keeps e H (fun _ H2 => (Hub.asGo_keeps B (wk.sub (by decide)) H2 (fun _ H4 => (Hub.pmGo_keeps B (wk.sub (by decide)) H4))))

theorem execPmExit_keeps {km : Nat} (B : Hub.Bears km P) (wk : Sub 0x4000028a200000000000c000001000000000000000000000000000010000000000000000000100010502 km) {r : Option Req} {p : Fin 8} {s : State} {z : State} (e : (execPmExit r p s) = .next z) (H : P s.hub) : P z.hub :=
  act_keeps e H (fun _ H2 => (by
    split
    · rename_i a3 a4
      exact (Hub.asGo_keeps B (wk.sub (by decide)) H2 (fun _ H6 => (Hub.startExit_keeps B (wk.sub (by decide)) H6)))
    · rename_i a7
      exact (keep_when (fun _ H9 => (Hub.startExit_keeps B (wk.sub (by decide)) H9)) H2)))

theorem Hub.keySend_keeps {km : Nat} (B : Hub.Bears km P) (wk : Sub 0x8000000000000000000000000000000000000000000000000000000000000000000000000000010000 km) {h : Hub} {p : ℕ} {phase : ℕ} {span : ℕ} (Hh : P h) : P (Hub.keySend h p phase span) := by
  unfold Hub.keySend
  split
  · rename_i a1 a2 a3 e4
    have H5 := keep_snd e4 (Hub.nextTok_keeps B (wk.sub (by decide)) Hh)
    exact (Hub.lmcSend_keeps B (wk.sub (by decide)) (B.wr (wk.bit (by decide)) (B.wr (wk.bit (by decide)) H5)))

theorem Hub.armGo_keeps {km : Nat} (B : Hub.Bears km P) (wk : Sub 0x8002800000000000004000000000000000000000000000000000010000000000000000000000010400 km) {h : Hub} {p : ℕ} {c : optParam Cap { }} (Hh : P h) : P (Hub.armGo h p c) := by
  unfold Hub.armGo
  refine keep_ite ?_ ?_
  · exact Hh
  · exact (keep_ite (Hub.raise_keeps B (wk.sub (by decide)) Hh) (Hub.keySend_keeps B (wk.sub (by decide)) Hh))

theorem execCryptArm_keeps {km : Nat} (B : Hub.Bears km P) (wk : Sub 0x80028a0000000000004000000000000000000000000000000000010000000000000000000000010500 km) {r : Req} {p : Fin 8} {s : State} {z : State} (e : (execCryptArm r p s) = .next z) (H : P s.hub) : P z.hub :=
  act_keeps e H (fun _ H2 => (Hub.asGo_keeps B (wk.sub (by decide)) H2 (fun _ H4 => (Hub.armGo_keeps B (wk.sub (by decide)) H4))))

theorem Hub.rollGo_keeps {km : Nat} (B : Hub.Bears km P) (wk : Sub 0x8002800000000000004000000000000000000000000000000000010000000000000000000000010400 km) {h : Hub} {p : ℕ} {c : optParam Cap { }} (Hh : P h) : P (Hub.rollGo h p c) := by
  unfold Hub.rollGo
  extract_lets +onlyGivenNames v1
  clear_value v1
  refine keep_ite ?_ ?_
  · exact Hh
  · exact (keep_ite (Hub.raise_keeps B (wk.sub (by decide)) Hh) (Hub.keySend_keeps B (wk.sub (by decide)) (B.wr (wk.bit (by decide)) Hh)))

theorem execCryptRoll_keeps {km : Nat} (B : Hub.Bears km P) (wk : Sub 0x80028a0000000000004000000000000000000000000000000000010000000000000000000000010500 km) {r : Req} {p : Fin 8} {s : State} {z : State} (e : (execCryptRoll r p s) = .next z) (H : P s.hub) : P z.hub :=
  act_keeps e H (fun _ H2 => (Hub.asGo_keeps B (wk.sub (by decide)) H2 (fun _ H4 => (Hub.rollGo_keeps B (wk.sub (by decide)) H4))))

theorem execTimeMarker_keeps {km : Nat} (B : Hub.Bears km P) (wk : Sub 0x28a0000000000004000000000000000000000000000000000010000000000000000000000010500 km) {r : Option Req} {p : Fin 8} {s : State} {z : State} (e : (execTimeMarker r p s) = .next z) (H : P s.hub) : P z.hub :=
  act_keeps e H (fun _ H2 => (by
    split
    · rename_i a3 a4
      exact (Hub.asGo_keeps B (wk.sub (by decide)) H2 (fun _ H6 => (keep_when (fun _ H8 => (B.wr (wk.bit (by decide)) H8)) H6)))
    · rename_i a9
      exact (keep_when (fun _ H11 => (B.wr (wk.bit (by decide)) H11)) H2)))

theorem Hub.mbxSend_keeps {km : Nat} (B : Hub.Bears km P) (wk : Sub 0x8000000000000000000000000000000000000000000000000000000000000000000000000000010000 km) {h : Hub} {p : ℕ} (Hh : P h) : P (Hub.mbxSend h p) := by
  unfold Hub.mbxSend
  extract_lets +onlyGivenNames v1
  clear_value v1
  refine keep_ite ?_ ?_
  · exact Hh
  · extract_lets +onlyGivenNames v2
    clear_value v2
    extract_lets +onlyGivenNames v3
    clear_value v3
    exact (B.wr (wk.bit (by decide)) (B.lmcQ (wk.bit (by decide)) Hh))

theorem execMailboxSend_keeps {km : Nat} (B : Hub.Bears km P) (wk : Sub 0x80028a0000000000004000000000000000000000000000000000010000000000000000000000010500 km) {r : Req} {p : Fin 8} {s : State} {z : State} (e : (execMailboxSend r p s) = .next z) (H : P s.hub) : P z.hub :=
  act_keeps e H (fun _ H2 => (Hub.asGo_keeps B (wk.sub (by decide)) H2 (fun _ H4 => (Hub.mbxSend_keeps B (wk.sub (by decide)) H4))))

theorem Hub.retireLane_keeps {km : Nat} (B : Hub.Bears km P) (wk : Sub 0xb987aa80200000000000c00060100000000000000000000000000001030200010f030000000100014402 km) {h : Hub} {l : ℕ} {cause : ℕ} (Hh : P h) : P (Hub.retireLane h l cause) := by
  unfold Hub.retireLane
  extract_lets +onlyGivenNames v1
  clear_value v1
  extract_lets +onlyGivenNames v2
  clear_value v2
  extract_lets +onlyGivenNames v3
  have H4 : P v3 := (keep_when (fun _ H6 => (Hub.dropShadow_keeps B (wk.sub (by decide)) H6)) Hh)
  clear_value v3
  extract_lets +onlyGivenNames v7
  have H8 : P v7 := (Hub.irq_keeps B (wk.sub (by decide)) (Hub.raise_keeps B (wk.sub (by decide)) (Hub.setLane_keeps B (wk.sub (by decide)) H4)))
  clear_value v7
  extract_lets +onlyGivenNames v9
  have H10 : P v9 := (Hub.refreshPortLanes_keeps B (wk.sub (by decide)) H8)
  clear_value v9
  exact (keep_when (fun _ H12 => (Hub.lostLane_keeps B (wk.sub (by decide)) H12)) H10)

theorem Hub.retrainLane_keeps {km : Nat} (B : Hub.Bears km P) (wk : Sub 0xb987aa80200000000000c00060100000000000000000000000000001030200010f030000000100014402 km) {h : Hub} {l : ℕ} (Hh : P h) : P (Hub.retrainLane h l) := by
  unfold Hub.retrainLane
  extract_lets +onlyGivenNames v1
  have H2 : P v1 := (B.wr (wk.bit (by decide)) Hh)
  clear_value v1
  exact (keep_ite H2 (Hub.refreshPortLanes_keeps B (wk.sub (by decide)) (Hub.toDetect_keeps B (wk.sub (by decide)) (keep_when (fun _ H4 => (Hub.retireLane_keeps B (wk.sub (by decide)) H4)) H2))))

theorem execRetrain_keeps {km : Nat} (B : Hub.Bears km P) (wk : Sub 0xb987aa8a200000000000c00060100000000000000000000000000001030200010f030000000100014502 km) {r : Req} {l : Fin 32} {s : State} {z : State} (e : (execRetrain r l s) = .next z) (H : P s.hub) : P z.hub :=
  act_keeps e H (fun _ H2 => (Hub.asGo_keeps B (wk.sub (by decide)) H2 (fun _ H4 => (Hub.retrainLane_keeps B (wk.sub (by decide)) H4))))

end Sys2Proof.Machine
end

