-- ==== Sys2Proof/Laws/KeepsC.lean ====
section
/-! SUPPORT. What each operation and each command keeps (part 3 of 6): one lemma per operation, which names the kinds of state
that it may change, as the bits of a number (Laws/Keep.lean). Each follows the shape of the operation's definition. -/

set_option linter.unusedVariables false

namespace Sys2Proof.Machine

open Sys2Proof

variable {P : Hub → Prop}

theorem Hub.laneCfg_keeps {km : Nat} (B : Hub.Bears km P) (wk : Sub 0x280200000000000c001000000000000000000000000000000010000000000000000000100000508 km) {h : Hub} {l : ℕ} {v : ℕ} {c : optParam Cap { }} (Hh : P h) : P (Hub.laneCfg h l v c) := by
  unfold Hub.laneCfg
  extract_lets +onlyGivenNames v1
  clear_value v1
  extract_lets +onlyGivenNames v2
  have H3 : P v2 := (Hub.fieldsWrite_keeps B (wk.sub (by decide)) Hh)
  clear_value v2
  exact (Hub.refreshLpest_keeps B (wk.sub (by decide)) (B.wr (wk.bit (by decide)) (Hub.refreshTx_keeps B (wk.sub (by decide)) (keep_when (fun _ H5 => (Hub.seqDefault_keeps B (wk.sub (by decide)) H5)) H3))))

theorem Hub.startBeacon_keeps {km : Nat} (B : Hub.Bears km P) (wk : Sub 0x10000 km) {h : Hub} {l : ℕ} (Hh : P h) : P (Hub.startBeacon h l) := by
  unfold Hub.startBeacon
  extract_lets +onlyGivenNames v1
  clear_value v1
  exact (keep_when (fun _ H3 => (B.wr (wk.bit (by decide)) (B.wr (wk.bit (by decide)) H3))) Hh)

theorem execBeaconSend_keeps {km : Nat} (B : Hub.Bears km P) (wk : Sub 0x28a0000000000004000000000000000000000000000000000010000000000000000000000010500 km) {r : Req} {l : Fin 32} {s : State} {z : State} (e : (execBeaconSend r l s) = .next z) (H : P s.hub) : P z.hub :=
  act_keeps e H (fun _ H2 => (Hub.asGo_keeps B (wk.sub (by decide)) H2 (fun _ H4 => (Hub.startBeacon_keeps B (wk.sub (by decide)) H4))))

theorem Hub.rrqSend_keeps {km : Nat} (B : Hub.Bears km P) (wk : Sub 0xa800000000000004000000000000000000000000000000000010000000000010000000000000400 km) {h : Hub} {c : optParam Cap { }} (Hh : P h) : P (Hub.rrqSend h c) := by
  unfold Hub.rrqSend
  refine keep_ite ?_ ?_
  · exact (Hub.raise_keeps B (wk.sub (by decide)) Hh)
  · extract_lets +onlyGivenNames v1
    clear_value v1
    extract_lets +onlyGivenNames v2
    clear_value v2
    extract_lets +onlyGivenNames v3
    clear_value v3
    extract_lets +onlyGivenNames v4
    have H5 : P v4 := (Hub.ctlAsk_keeps B (wk.sub (by decide)) Hh)
    clear_value v4
    exact (B.wr (wk.bit (by decide)) (B.wr (wk.bit (by decide)) (B.wr (wk.bit (by decide)) (B.wr (wk.bit (by decide)) H5))))

theorem execRrqSend_keeps {km : Nat} (B : Hub.Bears km P) (wk : Sub 0xa8a0000000000004000000000000000000000000000000000010000000000010000000000000500 km) {r : Req} {v : ℕ} {s : State} {z : State} (e : (execRrqSend r v s) = .next z) (H : P s.hub) : P z.hub :=
  act_keeps e H (fun _ H2 => (Hub.asGo_keeps B (wk.sub (by decide)) H2 (fun _ H4 => (Hub.rrqSend_keeps B (wk.sub (by decide)) (B.wr (wk.bit (by decide)) (B.wr (wk.bit (by decide)) H4))))))

theorem Hub.qcfgWrite_keeps {km : Nat} (B : Hub.Bears km P) (wk : Sub 0x2800000000000004000000000000000000000000000000000010000000002000000000000000400 km) {h : Hub} {v : ℕ} {c : optParam Cap { }} (Hh : P h) : P (Hub.qcfgWrite h v c) := by
  unfold Hub.qcfgWrite
  extract_lets +onlyGivenNames v1
  clear_value v1
  extract_lets +onlyGivenNames v2
  clear_value v2
  extract_lets +onlyGivenNames v3
  clear_value v3
  refine keep_ite ?_ ?_
  · exact Hh
  · refine keep_ite ?_ ?_
    · exact (keep_when (fun _ H5 => (Hub.raise_keeps B (wk.sub (by decide)) H5)) (Hub.raise_keeps B (wk.sub (by decide)) Hh))
    · exact (keep_ite (Hub.raise_keeps B (wk.sub (by decide)) Hh) (Hub.refreshThr_keeps B (wk.sub (by decide)) (B.wr (wk.bit (by decide)) (B.wr (wk.bit (by decide)) (B.wr (wk.bit (by decide)) (B.wr (wk.bit (by decide)) Hh))))))

theorem Hub.granWrite_keeps {km : Nat} (B : Hub.Bears km P) (wk : Sub 0x2800000000000004000000000000000000000000000000000010000000100000000000000000400 km) {h : Hub} {e : ℕ} {v : ℕ} {c : optParam Cap { }} (Hh : P h) : P (Hub.granWrite h e v c) := by
  unfold Hub.granWrite
  refine keep_ite ?_ ?_
  · exact (Hub.raise_keeps B (wk.sub (by decide)) Hh)
  · exact (keep_ite (Hub.raise_keeps B (wk.sub (by decide)) Hh) (B.wr (wk.bit (by decide)) Hh))

theorem Hub.setMcir_keeps {km : Nat} (B : Hub.Bears km P) (wk : Sub 0x10000000000000000000000000000000000000000000000000000001000000000000000000000000 km) {h : Hub} {m : ℕ} {v : ℕ} (Hh : P h) : P (Hub.setMcir h m v) := by
  unfold Hub.setMcir
  extract_lets +onlyGivenNames v1
  clear_value v1
  extract_lets +onlyGivenNames v2
  clear_value v2
  exact (Hub.meterSet_keeps B (wk.sub (by decide)) (B.wr (wk.bit (by decide)) Hh))

theorem Hub.meterWrite_keeps {km : Nat} (B : Hub.Bears km P) (wk : Sub 0x1280200000000000c001000000000000000000000000000000010001000000000000000000000500 km) {h : Hub} {off : ℕ} {v : ℕ} {c : optParam Cap { }} (Hh : P h) : P (Hub.meterWrite h off v c) := by
  unfold Hub.meterWrite
  exact (keep_when (fun _ H2 => (by
    extract_lets +onlyGivenNames v3
    clear_value v3
    extract_lets +onlyGivenNames v4
    have H5 : P v4 := (Hub.meterSet_keeps B (wk.sub (by decide)) H2)
    clear_value v4
    refine keep_ite ?_ ?_
    · exact (Hub.setMcir_keeps B (wk.sub (by decide)) H5)
    · extract_lets +onlyGivenNames v6
      have H7 : P v6 := (Hub.fieldsWrite_keeps B (wk.sub (by decide)) H5)
      clear_value v6
      exact (Hub.meterSet_keeps B (wk.sub (by decide)) H7))) Hh)

theorem Hub.meterFill_keeps {km : Nat} (B : Hub.Bears km P) (wk : Sub 0x10000000000000000000000000000000000000000000000000000001000000000000000000000000 km) {h : Hub} {m : ℕ} (Hh : P h) : P (Hub.meterFill h m) := by
  unfold Hub.meterFill
  exact (Hub.meterSet_keeps B (wk.sub (by decide)) Hh)

theorem execMeterInit_keeps {km : Nat} (B : Hub.Bears km P) (wk : Sub 0x128a0000000000004000000000000000000000000000000000010001000000000000000000000500 km) {r : Req} {s : State} {z : State} (e : (execMeterInit r s) = .next z) (H : P s.hub) : P z.hub :=
  act_keeps e H (fun _ H2 => (Hub.asGo_keeps B (wk.sub (by decide)) H2 (fun _ H4 => (keep_when (fun _ H6 => (Hub.meterFill_keeps B (wk.sub (by decide)) H6)) H4))))

theorem Hub.meterClear_keeps {km : Nat} (B : Hub.Bears km P) (wk : Sub 0x1000000000000000000000000 km) {h : Hub} {m : ℕ} (Hh : P h) : P (Hub.meterClear h m) := by
  unfold Hub.meterClear
  exact (B.wr (wk.bit (by decide)) (B.wr (wk.bit (by decide)) (B.wr (wk.bit (by decide)) (B.wr (wk.bit (by decide)) Hh))))

theorem execMeterClear_keeps {km : Nat} (B : Hub.Bears km P) (wk : Sub 0x28a0000000000004000000000000000000000000000000000010001000000000000000000000500 km) {r : Req} {s : State} {z : State} (e : (execMeterClear r s) = .next z) (H : P s.hub) : P z.hub :=
  act_keeps e H (fun _ H2 => (Hub.asGo_keeps B (wk.sub (by decide)) H2 (fun _ H4 => (keep_when (fun _ H6 => (Hub.meterClear_keeps B (wk.sub (by decide)) H6)) H4))))

theorem Hub.setCrown_keeps {km : Nat} (B : Hub.Bears km P) (wk : Sub 0x4000000000000000000000000000000000000100000000000000000000000000 km) {h : Hub} {node : ℕ} {valid : ℕ} {standby : ℕ} {sValid : ℕ} (Hh : P h) : P (Hub.setCrown h node valid standby sValid) := by
  unfold Hub.setCrown
  extract_lets +onlyGivenNames v1
  clear_value v1
  extract_lets +onlyGivenNames v2
  have H3 : P v2 := (keep_when (fun _ H5 => (B.wr (wk.bit (by decide)) (B.wr (wk.bit (by decide)) H5))) Hh)
  clear_value v2
  exact (keep_when (fun _ H7 => (Hub.irq_keeps B (wk.sub (by decide)) H7)) (B.wr (wk.bit (by decide)) (B.wr (wk.bit (by decide)) (B.wr (wk.bit (by decide)) (B.wr (wk.bit (by decide)) H3)))))

theorem Hub.crownPlace_keeps {km : Nat} (B : Hub.Bears km P) (wk : Sub 0xa800000000000004000400000000000000000000000000000010102000000030000000000000400 km) {h : Hub} (Hh : P h) : P (Hub.crownPlace h) := by
  unfold Hub.crownPlace
  extract_lets +onlyGivenNames v1
  clear_value v1
  exact (Hub.refreshTier_keeps B (wk.sub (by decide)) (Hub.setCrown_keeps B (wk.sub (by decide)) (Hub.setNodeId_keeps B (wk.sub (by decide)) Hh)))

theorem Hub.tunState_keeps {km : Nat} (B : Hub.Bears km P) (wk : Sub 0x80008000000000000000000000000000000000000000000000000200000000010000000000000000 km) {h : Hub} {i : ℕ} {st : ℕ} (Hh : P h) : P (Hub.tunState h i st) := by
  unfold Hub.tunState
  extract_lets +onlyGivenNames v1
  clear_value v1
  refine keep_ite ?_ ?_
  · exact Hh
  · extract_lets +onlyGivenNames v2
    have H3 : P v2 := (Hub.setTfld_keeps B (wk.sub (by decide)) (Hub.setTfld_keeps B (wk.sub (by decide)) Hh))
    clear_value v2
    extract_lets +onlyGivenNames v4
    have H5 : P v4 := (B.wr (wk.bit (by decide)) H3)
    clear_value v4
    exact (keep_ite (Hub.freeContext_keeps B (wk.sub (by decide)) H5) H5)

theorem Hub.clearDiscovery_keeps {km : Nat} (B : Hub.Bears km P) (wk : Sub 0x4000000000060080008000000000004000400000000000000000000000000000000300000000030000000000000000 km) {h : Hub} (Hh : P h) : P h.clearDiscovery := by
  unfold Hub.clearDiscovery
  extract_lets +onlyGivenNames gone h1 h2 h3
  have H1 : P h1 := B.wr (wk.bit (by decide)) (B.wr (wk.bit (by decide)) (B.wr (wk.bit (by decide)) (B.wr (wk.bit (by decide)) (B.wr (wk.bit (by decide)) (B.wr (wk.bit (by decide)) (Hub.setNodeId_keeps B (wk.sub (by decide)) (B.set_granted_ready_paths (wk.bit (by decide)) (wk.bit (by decide)) (wk.bit (by decide)) Hh)))))))
  clear_value h1
  have H2 : P h2 := keep_each (fun _ _ H => B.wr (wk.bit (by decide)) H) H1
  clear_value h2
  have H3 : P h3 := B.tab (wk.bit (by decide)) H2 fun W => Tab.wipe_wf _ _ _ W
  clear_value h3
  extract_lets idxs
  exact keep_each (fun _ _ H => Hub.tunState_keeps B (wk.sub (by decide)) H) H3

theorem Hub.rediscover_keeps {km : Nat} (B : Hub.Bears km P) (wk : Sub 0x400000000006808a808000000000004000480000000000000000000000000000010302000000030000000000000400 km) {h : Hub} (Hh : P h) : P (Hub.rediscover h) := by
  unfold Hub.rediscover
  exact (keep_when (fun _ H2 => (Hub.nbrChange_keeps B (wk.sub (by decide)) H2 (fun _ H4 => (by
    extract_lets +onlyGivenNames v5
    clear_value v5
    exact (Hub.crownPlace_keeps B (wk.sub (by decide)) (Hub.clearDiscovery_keeps B (wk.sub (by decide)) (B.wr (wk.bit (by decide)) (B.wr (wk.bit (by decide)) H4)))))))) Hh)

theorem execRediscover_keeps {km : Nat} (B : Hub.Bears km P) (wk : Sub 0x400000000006808a8a8000000000004000480000000000000000000000000000010302000000030000000000000500 km) {r : Req} {s : State} {z : State} (e : (execRediscover r s) = .next z) (H : P s.hub) : P z.hub :=
  act_keeps e H (fun _ H2 => (Hub.asGo_keeps B (wk.sub (by decide)) H2 (fun _ H4 => (Hub.rediscover_keeps B (wk.sub (by decide)) H4))))

theorem execYield_keeps {km : Nat} (B : Hub.Bears km P) (wk : Sub 0x28a0000000000004000000000000000000000000000000000010100000000000000000000000500 km) {r : Req} {s : State} {z : State} (e : (execYield r s) = .next z) (H : P s.hub) : P z.hub :=
  act_keeps e H (fun _ H2 => (Hub.asGo_keeps B (wk.sub (by decide)) H2 (fun _ H4 => (keep_when (fun _ H6 => (B.wr (wk.bit (by decide)) H6)) H4))))

theorem Hub.initContext_keeps {km : Nat} (B : Hub.Bears km P) (wk : Sub 0x200000000000000000000000000 km) {h : Hub} {ctx : ℕ} (Hh : P h) : P (Hub.initContext h ctx) := by
  unfold Hub.initContext
  exact (B.wr (wk.bit (by decide)) (B.wr (wk.bit (by decide)) (B.wr (wk.bit (by decide)) (B.wr (wk.bit (by decide)) (B.wr (wk.bit (by decide)) (B.wr (wk.bit (by decide)) (B.wr (wk.bit (by decide)) (B.wr (wk.bit (by decide)) (B.wr (wk.bit (by decide)) (B.wr (wk.bit (by decide)) Hh))))))))))

theorem execMergeInit_keeps {km : Nat} (B : Hub.Bears km P) (wk : Sub 0x28a0000000000004000000000000000000000000000000000010200000000000000000000000500 km) {r : Req} {s : State} {z : State} (e : (execMergeInit r s) = .next z) (H : P s.hub) : P z.hub :=
  act_keeps e H (fun _ H2 => (Hub.asGo_keeps B (wk.sub (by decide)) H2 (fun _ H4 => (Hub.initContext_keeps B (wk.sub (by decide)) H4))))

theorem Hub.coreWrite_keeps {km : Nat} (B : Hub.Bears km P) (wk : Sub 0x4000400000ff87ba8aa00000000000c00168100000010101010000000000000001030300010f03000000010001450e km) {r : Req} {first : ℕ} {i : ℕ} {off : ℕ} {v : ℕ} {c : Cap} {h : Hub} {g : Hub} (Hh : P h) (Hg : P g) : P (Hub.coreWrite r first i off v c h g) := by
  unfold Hub.coreWrite
  extract_lets +onlyGivenNames v1
  clear_value v1
  extract_lets +onlyGivenNames v2
  clear_value v2
  split
  · rename_i a3
    refine keep_ite ?_ ?_
    · exact (Hub.pllenWrite_keeps B (wk.sub (by decide)) Hh)
    · refine keep_ite ?_ ?_
      · exact (Hub.gateWrite_keeps B (wk.sub (by decide)) Hh)
      · exact (keep_ite (B.wr (wk.bit (by decide)) Hg) Hg)
  · rename_i a4
    refine keep_ite ?_ ?_
    · exact (keep_when (fun _ H6 => (Hub.vsetWrite_keeps B (wk.sub (by decide)) H6)) Hh)
    · refine keep_ite ?_ ?_
      · exact (Hub.refreshCap_keeps B (wk.sub (by decide)) Hg)
      · exact (keep_ite (Hub.go_keeps B Hg (fun _ _ e H => execFilSnap_keeps B (wk.sub (by decide)) e H)) Hg)
  · rename_i a7
    refine keep_ite ?_ ?_
    · exact (Hub.go_keeps B Hg (fun _ _ e H => execPortDownCmd_keeps B (wk.sub (by decide)) e H))
    · refine keep_ite ?_ ?_
      · exact (Hub.go_keeps B Hg (fun _ _ e H => execWidthRequest_keeps B (wk.sub (by decide)) e H))
      · refine keep_ite ?_ ?_
        · exact (Hub.go_keeps B (Hub.go_keeps B Hg (fun _ _ e H => execPmRequest_keeps B (wk.sub (by decide)) e H)) (fun _ _ e H => execPmExit_keeps B (wk.sub (by decide)) e H))
        · refine keep_ite ?_ ?_
          · exact (Hub.go_keeps B (Hub.go_keeps B Hg (fun _ _ e H => execCryptArm_keeps B (wk.sub (by decide)) e H)) (fun _ _ e H => execCryptRoll_keeps B (wk.sub (by decide)) e H))
          · refine keep_ite ?_ ?_
            · exact (Hub.go_keeps B Hg (fun _ _ e H => execTimeMarker_keeps B (wk.sub (by decide)) e H))
            · exact (keep_ite (Hub.go_keeps B Hg (fun _ _ e H => execMailboxSend_keeps B (wk.sub (by decide)) e H)) Hg)
  · rename_i a8
    refine keep_ite ?_ ?_
    · exact (Hub.go_keeps B Hg (fun _ _ e H => execRetrain_keeps B (wk.sub (by decide)) e H))
    · refine keep_ite ?_ ?_
      · exact (Hub.noPower_keeps B (wk.sub (by decide)) (Hub.laneCfg_keeps B (wk.sub (by decide)) Hh))
      · refine keep_ite ?_ ?_
        · exact (Hub.go_keeps B Hg (fun _ _ e H => execBeaconSend_keeps B (wk.sub (by decide)) e H))
        · exact (keep_ite (Hub.fieldsWrite_keeps B (wk.sub (by decide)) (keep_ite (Hub.holdAdapted_keeps B (wk.sub (by decide)) Hh) Hh)) Hg)
  · rename_i a9
    refine keep_ite ?_ ?_
    · exact (keep_ite (asCmd_keeps B (fun _ _ e H => execRrqSend_keeps B (wk.sub (by decide)) e H) Hh) Hg)
    · exact Hg
  · rename_i a10
    exact (keep_ite (Hub.refreshPoints_keeps B (wk.sub (by decide)) Hg) Hg)
  · rename_i a11
    refine keep_ite ?_ ?_
    · exact (keep_when (fun _ H13 => (Hub.raise_keeps B (wk.sub (by decide)) H13)) Hg)
    · refine keep_ite ?_ ?_
      · exact (Hub.qcfgWrite_keeps B (wk.sub (by decide)) Hh)
      · exact (keep_ite (Hub.refreshThr_keeps B (wk.sub (by decide)) Hg) Hg)
  · rename_i a14
    exact (keep_ite (Hub.granWrite_keeps B (wk.sub (by decide)) Hh) Hg)
  · rename_i a15
    refine keep_ite ?_ ?_
    · exact (keep_when (fun _ H17 => (Hub.raise_keeps B (wk.sub (by decide)) H17)) Hg)
    · refine keep_ite ?_ ?_
      · exact (Hub.meterWrite_keeps B (wk.sub (by decide)) Hh)
      · refine keep_ite ?_ ?_
        · exact (Hub.go_keeps B Hg (fun _ _ e H => execMeterInit_keeps B (wk.sub (by decide)) e H))
        · exact (keep_ite (Hub.go_keeps B Hg (fun _ _ e H => execMeterClear_keeps B (wk.sub (by decide)) e H)) Hg)
  · rename_i a18
    refine keep_ite ?_ ?_
    · exact (keep_when (fun _ H20 => (Hub.raise_keeps B (wk.sub (by decide)) H20)) Hg)
    · refine keep_ite ?_ ?_
      · exact (keep_ite Hh (Hub.refreshPoint_keeps B (wk.sub (by decide)) Hg))
      · exact Hg
  · rename_i a21
    refine keep_ite ?_ ?_
    · exact (keep_ite (Hub.recount_keeps B (wk.sub (by decide)) (Hub.nbrChange_keeps B (wk.sub (by decide)) Hh (fun _ H23 => (Hub.refreshTier_keeps B (wk.sub (by decide)) (Hub.refreshBest_keeps B (wk.sub (by decide)) Hg))))) Hg)
    · exact (keep_ite (Hub.go_keeps B (Hub.go_keeps B Hg (fun _ _ e H => execRediscover_keeps B (wk.sub (by decide)) e H)) (fun _ _ e H => execYield_keeps B (wk.sub (by decide)) e H)) Hg)
  · rename_i a24
    exact (keep_ite (Hub.go_keeps B Hg (fun _ _ e H => execMergeInit_keeps B (wk.sub (by decide)) e H)) Hg)
  · rename_i a25 e26 e27 e28 e29 e30 e31 e32 e33 e34 e35 e36 e37
    exact Hg

theorem Hub.wordWrite_keeps {km : Nat} (B : Hub.Bears km P) (wk : Sub 0x8000000000000000000000000000000000ff87fffffffffffb9fe00000000000c001ffb00003010101010007000d030701a3030300010f03000000010001ffff km) {h : Hub} {r : Req} {pg : ℕ} {off : ℕ} {v : ℕ} (Hh : P h) : P (Hub.wordWrite h r pg off v) := by
  unfold Hub.wordWrite
  extract_lets +onlyGivenNames v1
  clear_value v1
  refine keep_ite ?_ ?_
  · exact (Hub.headerWrite_keeps B (wk.sub (by decide)) Hh)
  · refine keep_ite ?_ ?_
    · exact (keep_ite (asCmd_keeps B (fun _ _ e H => execAccessEntryWrite_keeps B (wk.sub (by decide)) e H) Hh) (Hub.fieldsWrite_keeps B (wk.sub (by decide)) Hh))
    · refine keep_ite ?_ ?_
      · exact Hh
      · extract_lets +onlyGivenNames v2
        clear_value v2
        extract_lets +onlyGivenNames v3
        clear_value v3
        extract_lets +onlyGivenNames v4
        have H5 : P v4 := (Hub.fieldsWrite_keeps B (wk.sub (by decide)) Hh)
        clear_value v4
        refine keep_ite ?_ ?_
        · exact (keep_when (fun _ H7 => (Hub.clearCounts_keeps B (wk.sub (by decide)) H7)) Hh)
        · split
          · rename_i a8
            exact (Hub.powerWrite_keeps B (wk.sub (by decide)) Hh H5)
          · rename_i a9
            exact (Hub.powerWrite_keeps B (wk.sub (by decide)) Hh H5)
          · rename_i a10
            exact (Hub.powerWrite_keeps B (wk.sub (by decide)) Hh H5)
          · rename_i a11
            exact (Hub.powerWrite_keeps B (wk.sub (by decide)) Hh H5)
          · rename_i a12
            exact (Hub.powerWrite_keeps B (wk.sub (by decide)) Hh H5)
          · rename_i a13
            exact (Hub.powerWrite_keeps B (wk.sub (by decide)) Hh H5)
          · rename_i a14
            exact (Hub.powerWrite_keeps B (wk.sub (by decide)) Hh H5)
          · rename_i a15
            exact (Hub.powerWrite_keeps B (wk.sub (by decide)) Hh H5)
          · rename_i a16
            exact (keep_when (fun _ H18 => (Hub.clearCounts_keeps B (wk.sub (by decide)) H18)) (Hub.powerWrite_keeps B (wk.sub (by decide)) Hh H5))
          · rename_i a19
            exact (Hub.guardWrite_keeps B (wk.sub (by decide)) Hh H5)
          · rename_i a20
            exact (Hub.guardWrite_keeps B (wk.sub (by decide)) Hh H5)
          · rename_i a21
            exact (Hub.guardWrite_keeps B (wk.sub (by decide)) Hh H5)
          · rename_i a22
            exact (Hub.guardWrite_keeps B (wk.sub (by decide)) Hh H5)
          · rename_i a23
            exact (Hub.guardWrite_keeps B (wk.sub (by decide)) Hh H5)
          · rename_i a24
            exact (Hub.guardWrite_keeps B (wk.sub (by decide)) Hh H5)
          · rename_i a25
            exact (Hub.guardWrite_keeps B (wk.sub (by decide)) Hh H5)
          · rename_i a26
            exact (Hub.dataWrite_keeps B (wk.sub (by decide)) Hh H5)
          · rename_i a27
            exact (Hub.dataWrite_keeps B (wk.sub (by decide)) Hh H5)
          · rename_i a28
            exact (Hub.dataWrite_keeps B (wk.sub (by decide)) Hh H5)
          · rename_i a29
            exact (Hub.dataWrite_keeps B (wk.sub (by decide)) Hh H5)
          · rename_i a30
            exact (Hub.dataWrite_keeps B (wk.sub (by decide)) Hh H5)
          · rename_i a31
            exact (Hub.dataWrite_keeps B (wk.sub (by decide)) Hh H5)
          · rename_i a32
            exact (Hub.dataWrite_keeps B (wk.sub (by decide)) Hh H5)
          · rename_i a33
            exact (Hub.dataWrite_keeps B (wk.sub (by decide)) Hh H5)
          · rename_i a34
            exact (Hub.dataWrite_keeps B (wk.sub (by decide)) Hh H5)
          · rename_i a35
            exact (Hub.dataWrite_keeps B (wk.sub (by decide)) Hh H5)
          · rename_i a36
            exact (Hub.dataWrite_keeps B (wk.sub (by decide)) Hh H5)
          · rename_i a37
            exact (Hub.dataWrite_keeps B (wk.sub (by decide)) Hh H5)
          · rename_i a38 e39 e40 e41 e42 e43 e44 e45 e46 e47 e48 e49 e50 e51 e52 e53 e54 e55 e56 e57 e58 e59 e60 e61 e62 e63 e64 e65 e66
            exact (Hub.coreWrite_keeps B (wk.sub (by decide)) Hh H5)

theorem Hub.putWord_keeps {km : Nat} (B : Hub.Bears km P) (wk : Sub 0x8000000000000000000000000000000000ff87fffffffffffb9fe00000000000c001ffb00003010101010007000d030701a3030300010f03000000010001ffff km) {h : Hub} {r : Req} {addr : ℕ} {v : ℕ} (Hh : P h) : P (Hub.putWord h r addr v) := by
  unfold Hub.putWord
  split
  · rename_i a1 a2 a3 e4
    exact (Hub.tableWrite_keeps B (wk.sub (by decide)) Hh)
  · rename_i a5 e6
    exact (Hub.wordWrite_keeps B (wk.sub (by decide)) Hh)

theorem Hub.winWrite_keeps {km : Nat} (B : Hub.Bears km P) (wk : Sub 0x8000000000000000000000000000000000ff87fffffffffffb9fe00000000000c001ffb00003010101010007000d030701a3030300010f03000000010001ffff km) {h : Hub} {r : Req} {addr : ℕ} {size : ℕ} {v : ℕ} (Hh : P h) : P (Hub.winWrite h r addr size v) := by
  unfold Hub.winWrite
  exact (Hub.asWrite_keeps B (wk.sub (by decide)) Hh (fun _ H2 => (by
    extract_lets +onlyGivenNames v3
    have H4 : P v3 := (Hub.putWord_keeps B (wk.sub (by decide)) H2)
    clear_value v3
    exact (keep_ite (Hub.putWord_keeps B (wk.sub (by decide)) H4) H4))))

theorem Hub.asRead_keeps {km : Nat} (B : Hub.Bears km P) (wk : Sub 0x28a0000000000004000000000000000000000000000000200010000000000000000000000000500 km) {h : Hub} {r : Req} {addr : ℕ} {size : ℕ} {f : Hub → List ℕ × Hub} (Hh : P h) (Hf : ∀ a0, P a0 → P (f a0).2) : P (Hub.asRead h r addr size f) := by
  unfold Hub.asRead
  refine keep_ite ?_ ?_
  · exact Hh
  · split
    · rename_i a1 a2 e3
      exact (Hub.answer_keeps B (wk.sub (by decide)) (keep_when (fun _ H5 => (Hub.cnt_keeps B (wk.bit (by decide)) H5)) (Hub.recordRefusal_keeps B (wk.sub (by decide)) (Hub.dropLatch_keeps B (wk.sub (by decide)) Hh))))
    · rename_i a6 e7
      split
      · rename_i a8 a9 a10 e11
        have H12 := keep_snd e11 (Hf _ (Hub.dropLatch_keeps B (wk.sub (by decide)) Hh))
        exact (Hub.answer_keeps B (wk.sub (by decide)) H12)

theorem Hub.tableRead_keeps {km : Nat} (B : Hub.Bears km P) (wk : Sub 0x40000000000000000000000000000000000000000000000000000000000000000000000000000 km) {h : Hub} {m : MasterId} {row : TableRow} {addr : ℕ} (Hh : P h) : P (Hub.tableRead h m row addr).2 := by
  unfold Hub.tableRead
  extract_lets +onlyGivenNames v1
  clear_value v1
  extract_lets +onlyGivenNames v2
  clear_value v2
  split
  · rename_i e3
    extract_lets +onlyGivenNames v4
    clear_value v4
    exact (keep_p2 (B.tabLatch (wk.bit (by decide)) Hh))
  · rename_i e5
    extract_lets +onlyGivenNames v6
    clear_value v6
    exact (keep_p2 Hh)

theorem Hub.getWord_keeps {km : Nat} (B : Hub.Bears km P) (wk : Sub 0x410860000000000000000000000000001010100010009010700020101000100000000000100006020 km) {h : Hub} {r : Req} {l : Latch64} {addr : ℕ} (Hh : P h) : P (Hub.getWord h r l addr).2 := by
  unfold Hub.getWord
  split
  · rename_i a1 a2 a3 e4
    exact (Hub.tableRead_keeps B (wk.sub (by decide)) Hh)
  · rename_i a5 e6
    extract_lets +onlyGivenNames v7
    clear_value v7
    extract_lets +onlyGivenNames v8
    have H9 : P v8 := (Hub.fresh_keeps B (wk.sub (by decide)) Hh)
    clear_value v8
    extract_lets +onlyGivenNames v10
    clear_value v10
    split
    · rename_i e11
      extract_lets +onlyGivenNames v12
      clear_value v12
      exact (keep_p2 (B.latch64 (wk.bit (by decide)) H9))
    · rename_i e13
      split
      · rename_i e14
        exact (keep_p2 H9)
      · rename_i e15
        exact (keep_p2 H9)

theorem Hub.winRead_keeps {km : Nat} (B : Hub.Bears km P) (wk : Sub 0x4128e0000000000004000000000000001010100010009010700030101000100000000000100006520 km) {h : Hub} {r : Req} {addr : ℕ} {size : ℕ} (Hh : P h) : P (Hub.winRead h r addr size) := by
  unfold Hub.winRead
  extract_lets +onlyGivenNames v1
  clear_value v1
  exact (Hub.asRead_keeps B (wk.sub (by decide)) Hh (fun _ H3 => (by
    split
    · rename_i a4 a5 a6 e7
      have H8 := keep_snd e7 (Hub.getWord_keeps B (wk.sub (by decide)) H3)
      split
      · rename_i e9
        extract_lets +onlyGivenNames v10
        clear_value v10
        split
        · rename_i a11 a12 a13 e14
          have H15 := keep_snd e14 (Hub.getWord_keeps B (wk.sub (by decide)) (Hub.dropLatch_keeps B (wk.sub (by decide)) H8))
          exact (keep_p2 H15)
      · rename_i e16
        exact (keep_p2 H8))))

theorem Hub.oneWord_keeps {km : Nat} (B : Hub.Bears km P) (wk : Sub 0x8000000000000000000000000000000000ff87fffffffffffb9fe00000000000c001ffb00003010101010007000d030701a3030300010f03000000010001ffff km) {h : Hub} {r : Req} {addr : ℕ} {v : Option ℕ} (Hh : P h) : P (Hub.oneWord h r addr v).2 := by
  unfold Hub.oneWord
  extract_lets +onlyGivenNames v1
  have H2 : P v1 := (by
      unfold v1
      split
      · rename_i a3 a4
        exact (Hub.winWrite_keeps B (wk.sub (by decide)) Hh)
      · rename_i a5
        exact (Hub.winRead_keeps B (wk.sub (by decide)) Hh))
  clear_value v1
  exact (keep_p2 H2)

theorem Hub.manyWords_keeps {km : Nat} (B : Hub.Bears km P) (wk : Sub 0x8000000000000000000000000000000000ff87fffffffffffb9fe00000000000c001ffb00003010101010007000d030701a3030300010f03000000010001ffff km) {r : Req} {l : List (Nat × Option Nat)} :
    ∀ {h : Hub}, P h → P (Hub.manyWords r l h).2 := by
  induction l with
  | nil => exact fun H => H
  | cons x ps ih =>
    obtain ⟨a, v⟩ := x
    intro h H
    rw [Hub.manyWords]
    exact ih (Hub.oneWord_keeps B (wk.sub (by decide)) H)

theorem Hub.agentGo_keeps {km : Nat} (B : Hub.Bears km P) (wk : Sub 0x8000000000000000000000000000000000ff87fffffffffffb9fe00000000000c001ffb00003010101010007000d030701a3030300010f03000000010001ffff km) {h : Hub} {src : ℕ} {tok : ℕ} {addr : ℕ} {count : ℕ} {ws : Option (List ℕ)} (Hh : P h) : P (Hub.agentGo h src tok addr count ws) := by
  unfold Hub.agentGo
  extract_lets +onlyGivenNames v1
  clear_value v1
  extract_lets +onlyGivenNames v2
  clear_value v2
  refine keep_ite ?_ ?_
  · exact (Hub.regRspSend_keeps B (wk.sub (by decide)) Hh)
  · split
    · rename_i a3 a4 a5 e6
      have H7 := keep_snd e6 (Hub.manyWords_keeps B (wk.sub (by decide)) (Hub.cnt_keeps B (wk.bit (by decide)) Hh))
      exact (keep_when (fun _ H9 => (Hub.regRspSend_keeps B (wk.sub (by decide)) H9)) H7)

theorem Hub.lockLoss_keeps {km : Nat} (B : Hub.Bears km P) (wk : Sub 0xb987aa80200000000000c00060100000000000000000000000000001030200010f030000000100014402 km) {h : Hub} {l : ℕ} (Hh : P h) : P (Hub.lockLoss h l) := by
  unfold Hub.lockLoss
  extract_lets +onlyGivenNames v1
  have H2 : P v1 := (Hub.raise_keeps B (wk.sub (by decide)) (Hub.freshLock_keeps B (wk.sub (by decide)) (Hub.cnt_keeps B (wk.bit (by decide)) Hh)))
  clear_value v1
  extract_lets +onlyGivenNames v3
  clear_value v3
  refine keep_ite ?_ ?_
  · exact (Hub.retireLane_keeps B (wk.sub (by decide)) H2)
  · exact (keep_ite (Hub.setLane_keeps B (wk.sub (by decide)) (Hub.cnt_keeps B (wk.bit (by decide)) (B.wr (wk.bit (by decide)) H2))) H2)

theorem Hub.amIn_keeps {km : Nat} (B : Hub.Bears km P) (wk : Sub 0xb987aa80200000000000c00060100000000000000000000000000001030200010f030000000100014402 km) {h : Hub} {l : ℕ} {block : ℕ} {inPlace : Bool} {lag : ℕ} (Hh : P h) : P (Hub.amIn h l block inPlace lag) := by
  unfold Hub.amIn
  refine keep_ite ?_ ?_
  · exact (Hub.cnt_keeps B (wk.bit (by decide)) Hh)
  · extract_lets +onlyGivenNames v1
    clear_value v1
    extract_lets +onlyGivenNames v2
    clear_value v2
    extract_lets +onlyGivenNames v3
    clear_value v3
    extract_lets +onlyGivenNames v4
    have H5 : P v4 := (keep_when (fun _ H7 => (Hub.raise_keeps B (wk.sub (by decide)) H7)) (B.wr (wk.bit (by decide)) (B.wr (wk.bit (by decide)) Hh)))
    clear_value v4
    refine keep_ite ?_ ?_
    · exact (B.wr (wk.bit (by decide)) (B.wr (wk.bit (by decide)) H5))
    · extract_lets +onlyGivenNames v8
      have H9 : P v8 := (B.wr (wk.bit (by decide)) (Hub.cnt_keeps B (wk.bit (by decide)) H5))
      clear_value v8
      exact (keep_ite (Hub.lockLoss_keeps B (wk.sub (by decide)) (B.wr (wk.bit (by decide)) H9)) (B.wr (wk.bit (by decide)) H9))

theorem Hub.endChange_keeps {km : Nat} (B : Hub.Bears km P) (wk : Sub 0x1800000000000000000000000000000000000000000000000000000000000000000000000000000000 km) {h : Hub} {g : ℕ} (Hh : P h) : P (Hub.endChange h g) := by
  unfold Hub.endChange
  exact (B.set_asks_changes (wk.bit (by decide)) (wk.bit (by decide)) Hh)

theorem Hub.recordLegs_keeps {km : Nat} (B : Hub.Bears km P) (wk : Sub 0x4000000000000000000000000000000000000000000000000000000000000000000000000000000000000000000000 km) {h : Hub} {c : Change} (Hh : P h) : P (Hub.recordLegs h c) := by
  unfold Hub.recordLegs
  extract_lets +onlyGivenNames v1
  clear_value v1
  exact (keep_each (fun _ _ H4 => (by
    extract_lets +onlyGivenNames v5
    clear_value v5
    split
    · rename_i a6 a7
      exact (B.paths (wk.bit (by decide)) H4)
    · rename_i a8
      exact H4)) Hh)

theorem Hub.drawTid_keeps {km : Nat} (B : Hub.Bears km P) (wk : Sub 0x800000000000000000000000000000000000000000000000000000000000000000000000000000 km) {h : Hub} {avoid : List ℕ} (Hh : P h) : P (Hub.drawTid h avoid).2 := by
  unfold Hub.drawTid
  split
  · rename_i a1 a2 a3 e4
    have H5 := keep_snd e4 (Hub.free_keeps B (wk.sub (by decide)) Hh)
    extract_lets +onlyGivenNames v6
    clear_value v6
    extract_lets +onlyGivenNames v7
    clear_value v7
    exact (keep_p2 H5)

theorem Hub.renamed_keeps {km : Nat} (B : Hub.Bears km P) (wk : Sub 0x800000000000000000000000000000000000000000000000000000000000000000000000000000 km) {h : Hub} {ls : List Leg} (Hh : P h) : P (Hub.renamed h ls).2 := by
  unfold Hub.renamed
  split
  · rename_i a1 a2
    split
    · rename_i a3 a4 a5 e6
      have H7 := keep_snd e6 (Hub.drawTid_keeps B (wk.sub (by decide)) Hh)
      exact (keep_p2 H7)
  · rename_i a8 a9 a10
    split
    · rename_i a11 a12 a13 e14
      have H15 := keep_snd e14 (Hub.drawTid_keeps B (wk.sub (by decide)) Hh)
      split
      · rename_i a16 a17 a18 e19
        have H20 := keep_snd e19 (Hub.drawTid_keeps B (wk.sub (by decide)) H15)
        exact (keep_p2 H20)
  · rename_i a21 e22 e23
    exact (keep_p2 Hh)

theorem Hub.numbered_keeps {km : Nat} (B : Hub.Bears km P) (wk : Sub 0x100000000000000000000000000 km) {h : Hub} {x : List Leg} (Hh : P h) : P (h.numbered x).2 := by
  induction x generalizing h with
  | nil => exact Hh
  | cons l ls ih => exact ih (B.wr (wk.bit (by decide)) Hh)

theorem Hub.sendStep_keeps {km : Nat} (B : Hub.Bears km P) (wk : Sub 0x1808000000000000000000000000000000000000000000000000000000000000010000000000000000 km) {h : Hub} {g : ℕ} {c : Change} (Hh : P h) : P (Hub.sendStep h g c) := by
  unfold Hub.sendStep
  split
  · rename_i a1 e2
    exact Hh
  · rename_i a3 a4 a5 e6
    exact (keep_each (fun _ _ H9 => (Hub.askFor_keeps B (wk.sub (by decide)) H9)) (B.changes (wk.bit (by decide)) Hh))

theorem Hub.openChange_keeps {km : Nat} (B : Hub.Bears km P) (wk : Sub 0x1808000000000000000000000000000000000000000000000000000000000000010000000000000000 km) {h : Hub} {c : Change} (Hh : P h) : P (Hub.openChange h c) := by
  unfold Hub.openChange
  extract_lets +onlyGivenNames v1
  clear_value v1
  refine keep_ite ?_ ?_
  · exact Hh
  · exact (keep_ite (keep_each (fun _ _ H4 => (Hub.askFor_keeps B (wk.sub (by decide)) H4)) (B.changes (wk.bit (by decide)) Hh)) (Hub.sendStep_keeps B (wk.sub (by decide)) Hh))

theorem Hub.beginSetup_keeps {km : Nat} (B : Hub.Bears km P) (wk : Sub 0x1808000000000000000000000000000000000000000000000000000100000000010000000000000000 km) {h : Hub} {legs : List Leg} {moves : List (ℕ × ℕ × ℕ)} {old : Option ℕ} (Hh : P h) : P (Hub.beginSetup h legs moves old) := by
  unfold Hub.beginSetup
  split
  · rename_i a1 a2 a3 e4
    have H5 := keep_snd e4 (Hub.numbered_keeps B (wk.sub (by decide)) Hh)
    exact (Hub.openChange_keeps B (wk.sub (by decide)) H5)

theorem Hub.beginTear_keeps {km : Nat} (B : Hub.Bears km P) (wk : Sub 0x1808000000000000000000000000000000000000000000000000000100000000010000000000000000 km) {h : Hub} {tid : ℕ} (Hh : P h) : P (Hub.beginTear h tid) := by
  unfold Hub.beginTear
  split
  · rename_i a1 e2
    exact Hh
  · rename_i a3 a4 e5
    extract_lets +onlyGivenNames v6
    clear_value v6
    refine keep_ite ?_ ?_
    · exact Hh
    · split
      · rename_i a7 a8 a9 e10
        have H11 := keep_snd e10 (Hub.numbered_keeps B (wk.sub (by decide)) Hh)
        exact (Hub.openChange_keeps B (wk.sub (by decide)) H11)

theorem Hub.finish_keeps {km : Nat} (B : Hub.Bears km P) (wk : Sub 0x4000000000001808800000000000000000000000000000000000000000000000000100000000010000000000000000 km) {h : Hub} {g : ℕ} {c : Change} (Hh : P h) : P (Hub.finish h g c) := by
  unfold Hub.finish
  extract_lets +onlyGivenNames v1
  have H2 : P v1 := (Hub.endChange_keeps B (wk.sub (by decide)) Hh)
  clear_value v1
  extract_lets +onlyGivenNames v3
  have H4 : P v3 := (keep_when (fun _ H6 => (keep_each (fun _ _ H9 => (Hub.askFor_keeps B (wk.sub (by decide)) H9)) H6)) H2)
  clear_value v3
  extract_lets +onlyGivenNames v10
  have H11 : P v10 := (Hub.recordLegs_keeps B (wk.sub (by decide)) H4)
  clear_value v10
  split
  · rename_i a12 e13
    refine keep_ite ?_ ?_
    · refine keep_ite ?_ ?_
      · split
        · rename_i a14 a15 a16 e17
          have H18 := keep_snd e17 (Hub.renamed_keeps B (wk.sub (by decide)) H11)
          exact (Hub.beginSetup_keeps B (wk.sub (by decide)) H18)
      · exact H11
    · split
      · rename_i a19 a20 e21
        exact (Hub.beginTear_keeps B (wk.sub (by decide)) H11)
      · rename_i a22 e23
        exact H11
  · rename_i a24 e25
    exact (Hub.afterSettling_keeps B (wk.sub (by decide)) H11)
  · rename_i a26 e27 e28
    exact H11

theorem Hub.startStep_keeps {km : Nat} (B : Hub.Bears km P) (wk : Sub 0x4000000000001808800000000000000000000000000000000000000000000000000100000000010000000000000000 km) {h : Hub} {g : ℕ} {c : Change} (Hh : P h) : P (Hub.startStep h g c) := by
  unfold Hub.startStep
  exact (keep_ite (Hub.finish_keeps B (wk.sub (by decide)) Hh) (Hub.sendStep_keeps B (wk.sub (by decide)) Hh))

theorem Hub.undoBy_keeps {km : Nat} (B : Hub.Bears km P) (wk : Sub 0x4000000000001808800000000000000000000000000000000000000000000000000100000000010000000000000000 km) {h : Hub} {g : ℕ} {c : Change} {steps : List ChgStep} (Hh : P h) : P (Hub.undoBy h g c steps) := by
  unfold Hub.undoBy
  extract_lets +onlyGivenNames v1
  clear_value v1
  exact (Hub.startStep_keeps B (wk.sub (by decide)) Hh)

theorem Hub.failChange_keeps {km : Nat} (B : Hub.Bears km P) (wk : Sub 0x4000000000001808800000000000000000000000000000000000000000000000000100000000010000000000000000 km) {h : Hub} {g : ℕ} {c : Change} {typ : ℕ} (Hh : P h) : P (Hub.failChange h g c typ) := by
  unfold Hub.failChange
  extract_lets +onlyGivenNames v1
  clear_value v1
  extract_lets +onlyGivenNames v2
  clear_value v2
  extract_lets +onlyGivenNames v3
  clear_value v3
  extract_lets +onlyGivenNames v4
  clear_value v4
  refine keep_ite ?_ ?_
  · exact (Hub.undoBy_keeps B (wk.sub (by decide)) Hh)
  · refine keep_ite ?_ ?_
    · exact (Hub.undoBy_keeps B (wk.sub (by decide)) Hh)
    · refine keep_ite ?_ ?_
      · exact (keep_ite (Hub.undoBy_keeps B (wk.sub (by decide)) Hh) (Hub.undoBy_keeps B (wk.sub (by decide)) Hh))
      · refine keep_ite ?_ ?_
        · exact (keep_ite (Hub.startStep_keeps B (wk.sub (by decide)) Hh) (Hub.finish_keeps B (wk.sub (by decide)) Hh))
        · refine keep_ite ?_ ?_
          · exact (Hub.startStep_keeps B (wk.sub (by decide)) Hh)
          · exact (keep_ite (Hub.startStep_keeps B (wk.sub (by decide)) Hh) (Hub.undoBy_keeps B (wk.sub (by decide)) Hh))

theorem Hub.answered_keeps {km : Nat} (B : Hub.Bears km P) (wk : Sub 0x4000000000001808800000000000000000000000000000000000000000000000000100000000010000000000000000 km) {h : Hub} {g : ℕ} {hop : ℕ} {tid : ℕ} {typ : ℕ} {status : ℕ} (Hh : P h) : P (Hub.answered h g hop tid typ status) := by
  unfold Hub.answered
  split
  · rename_i a1 e2
    exact Hh
  · rename_i a3 a4 e5
    extract_lets +onlyGivenNames v6
    clear_value v6
    extract_lets +onlyGivenNames v7
    have H8 : P v7 := (B.changes (wk.bit (by decide)) Hh)
    clear_value v7
    refine keep_ite ?_ ?_
    · exact H8
    · exact (keep_ite (Hub.failChange_keeps B (wk.sub (by decide)) H8) (Hub.startStep_keeps B (wk.sub (by decide)) H8))

theorem Hub.applyPreset_keeps {km : Nat} (B : Hub.Bears km P) (wk : Sub 0x100000000 km) {l : ℕ} {h : Hub} (Hh : P h) : P (Hub.applyPreset l h) := by
  unfold Hub.applyPreset
  exact (keep_when (fun _ H2 => (Hub.refreshTx_keeps B (wk.sub (by decide)) (B.wr (wk.bit (by decide)) (B.wr (wk.bit (by decide)) H2)))) Hh)

theorem Hub.applySet_keeps {km : Nat} (B : Hub.Bears km P) (wk : Sub 0xa80200000000000c000201000000000000000000000000000010002000000030000000100010402 km) {h : Hub} {p : ℕ} {m : ℕ} (Hh : P h) : P (Hub.applySet h p m) := by
  unfold Hub.applySet
  extract_lets +onlyGivenNames v1
  have H2 : P v1 := (keep_each (fun _ _ H5 => (by
      extract_lets +onlyGivenNames v6
      clear_value v6
      exact (keep_ite (Hub.setLane_keeps B (wk.sub (by decide)) (keep_when (fun _ H8 => (Hub.txCommit_keeps B (wk.sub (by decide)) H8)) H5)) (Hub.setLane_keeps B (wk.sub (by decide)) H5)))) Hh)
  clear_value v1
  exact (Hub.refreshPoints_keeps B (wk.sub (by decide)) (Hub.refreshPortLanes_keeps B (wk.sub (by decide)) (B.wr (wk.bit (by decide)) (B.wr (wk.bit (by decide)) H2))))

theorem Hub.casPortUp_keeps {km : Nat} (B : Hub.Bears km P) (wk : Sub 0x8008000000000000000000000000000000000000000000000000000100000000010000000000000000 km) {h : Hub} {p : ℕ} (Hh : P h) : P (Hub.casPortUp h p) := by
  unfold Hub.casPortUp
  exact (keep_when (fun _ H2 => (Hub.linkEvent_keeps B (wk.sub (by decide)) (Hub.nbrSend_keeps B (wk.sub (by decide)) (keep_when (fun _ H4 => (B.wr (wk.bit (by decide)) H4)) H2)))) Hh)

theorem Hub.goUp_keeps {km : Nat} (B : Hub.Bears km P) (wk : Sub 0x800a800000000000004000200000000000000000000000000000010102000000030000000000004400 km) {h : Hub} {p : ℕ} (Hh : P h) : P (Hub.goUp h p) := by
  unfold Hub.goUp
  exact (Hub.casPortUp_keeps B (wk.sub (by decide)) (Hub.refreshPoints_keeps B (wk.sub (by decide)) (Hub.setPort_keeps B (wk.sub (by decide)) Hh)))

theorem Hub.armed_keeps {km : Nat} (B : Hub.Bears km P) (wk : Sub 0x800a800000000000004000200000000000000000000000000000010102000000030000000000004400 km) {h : Hub} {p : ℕ} (Hh : P h) : P (Hub.armed h p) := by
  unfold Hub.armed
  exact (keep_when (fun _ H2 => (Hub.goUp_keeps B (wk.sub (by decide)) (B.wr (wk.bit (by decide)) H2))) Hh)

theorem Hub.authStore_keeps {km : Nat} (B : Hub.Bears km P) (wk : Sub 0x2000 km) {h : Hub} {at_ : ℕ} {bs : Bytes} (Hh : P h) : P (Hub.authStore h at_ bs) := by
  unfold Hub.authStore
  extract_lets +onlyGivenNames v1
  clear_value v1
  exact (Hub.setBuf_keeps B (fun _ _ => (wk.bitAt (kind_word_MGP_AUTHBUF _) (by decide))) Hh)

theorem Hub.autoOn_keeps {km : Nat} (B : Hub.Bears km P) (wk : Sub 0x4000002000000101010100000000000000000000000000000000000000000000 km) {n : ℕ} {h : Hub} (Hh : P h) : P (Hub.autoOn n h) := by
  unfold Hub.autoOn
  exact (keep_when (fun _ H2 => (Hub.lpoEnable_keeps B (wk.sub (by decide)) (B.wr (wk.bit (by decide)) H2))) Hh)

theorem Hub.auxEnd_keeps {km : Nat} (B : Hub.Bears km P) (wk : Sub 0x2800000000000004000000000000000000000000000000001010000000000000000000000000400 km) {h : Hub} {n : ℕ} {ok : Bool} {reply : ℕ} {bytes : ℕ} {data : Bytes} (Hh : P h) : P (Hub.auxEnd h n ok reply bytes data) := by
  unfold Hub.auxEnd
  extract_lets +onlyGivenNames v1
  have H2 : P v1 := (B.wr (wk.bit (by decide)) (B.wr (wk.bit (by decide)) (B.wr (wk.bit (by decide)) Hh)))
  clear_value v1
  extract_lets +onlyGivenNames v3
  have H4 : P v3 := (keep_when (fun _ H6 => (keep_each (fun _ _ H9 => (by
      split
      · rename_i a10 a11 a12
        exact (B.wr (wk.bitAt (kind_word_DPT_AUXDATA _) (by decide)) H9))) H6)) H2)
  clear_value v3
  exact (keep_when (fun _ H14 => (Hub.raise_keeps B (wk.sub (by decide)) (Hub.cnt_keeps B (wk.bit (by decide)) H14))) H4)

theorem Hub.backUp_keeps {km : Nat} (B : Hub.Bears km P) (wk : Sub 0x800a800000000000004000200000000000000000000000000000010102000000030000000000014400 km) {h : Hub} {p : ℕ} (Hh : P h) : P (Hub.backUp h p) := by
  unfold Hub.backUp
  extract_lets +onlyGivenNames v1
  clear_value v1
  extract_lets +onlyGivenNames v2
  clear_value v2
  exact (keep_when (fun _ H4 => (Hub.casPortUp_keeps B (wk.sub (by decide)) (Hub.refreshPoints_keeps B (wk.sub (by decide)) (Hub.setPort_keeps B (wk.sub (by decide)) (B.wr (wk.bit (by decide)) (B.wr (wk.bit (by decide)) (Hub.refreshPortLanes_keeps B (wk.sub (by decide)) H4))))))) Hh)

theorem Hub.badOp_keeps {km : Nat} (B : Hub.Bears km P) (wk : Sub 0x2800000000000004000000000000000000000000000000100010000000000000000000000000400 km) {h : Hub} (Hh : P h) : P (Hub.badOp h) := by
  unfold Hub.badOp
  exact (Hub.raise_keeps B (wk.sub (by decide)) (Hub.cnt_keeps B (wk.bit (by decide)) Hh))

theorem Hub.countOps_keeps {km : Nat} (B : Hub.Bears km P) (wk : Sub 0x4 km) {h : Hub} {n : ℕ} (Hh : P h) : P (Hub.countOps h n) := by
  unfold Hub.countOps
  extract_lets +onlyGivenNames v1
  clear_value v1
  exact (B.wr (wk.bit (by decide)) (B.wr (wk.bit (by decide)) Hh))

theorem Hub.bankOp_keeps {km : Nat} (B : Hub.Bears km P) (wk : Sub 0x1000000000000000004 km) {b : ℕ} {h : Hub} (Hh : P h) : P (Hub.bankOp b h) := by
  unfold Hub.bankOp
  exact (B.wr (wk.bit (by decide)) (Hub.countOps_keeps B (wk.sub (by decide)) Hh))

theorem Hub.blowOem_keeps {km : Nat} (B : Hub.Bears km P) (wk : Sub 0x20000000000000000000000000000000008000000000000000000000000000000000000000000000000000000000 km) {h : Hub} {content : Bytes} (Hh : P h) : P (Hub.blowOem h content) := by
  unfold Hub.blowOem
  extract_lets +onlyGivenNames v1
  clear_value v1
  exact (keep_when (fun _ H3 => (Hub.wrBit_keeps B (wk.bit (by decide)) (B.signers (wk.bit (by decide)) H3))) Hh)

theorem Hub.bdecDone_keeps {km : Nat} (B : Hub.Bears km P) (wk : Sub 0x220000000000000000000000000000000008000000000000000000000000000000000000000000000000000008000 km) {h : Hub} (Hh : P h) : P (Hub.bdecDone h) := by
  unfold Hub.bdecDone
  extract_lets +onlyGivenNames v1
  clear_value v1
  extract_lets +onlyGivenNames v2
  clear_value v2
  extract_lets +onlyGivenNames v3
  have H4 : ∀ a0, P (v3 a0) := (fun _ => (Hub.refreshClear_keeps B (wk.sub (by decide)) (B.wr (wk.bit (by decide)) (B.wr (wk.bit (by decide)) (B.clear (wk.bit (by decide)) Hh)))))
  clear_value v3
  split
  · rename_i a6 e7
    exact (H4 _)
  · rename_i a8 a9 e10
    extract_lets +onlyGivenNames v11
    clear_value v11
    extract_lets +onlyGivenNames v12
    clear_value v12
    extract_lets +onlyGivenNames v13
    clear_value v13
    extract_lets +onlyGivenNames v14
    clear_value v14
    refine keep_ite ?_ ?_
    · exact (H4 _)
    · refine keep_ite ?_ ?_
      · exact (H4 _)
      · refine keep_ite ?_ ?_
        · exact (H4 _)
        · refine keep_ite ?_ ?_
          · exact (H4 _)
          · extract_lets +onlyGivenNames v15
            clear_value v15
            exact (keep_when (fun _ H17 => (Hub.blowOem_keeps B (wk.sub (by decide)) H17)) (Hub.refreshClear_keeps B (wk.sub (by decide)) (B.wr (wk.bit (by decide)) (B.wr (wk.bit (by decide)) (B.wr (wk.bit (by decide)) (B.clear (wk.bit (by decide)) Hh))))))

theorem Hub.beaconIn_keeps {km : Nat} (B : Hub.Bears km P) (wk : Sub 0x40000280200000000000c00002100000000000000000000001010001000000000000000000010001041a km) {h : Hub} {l : ℕ} (Hh : P h) : P (Hub.beaconIn h l) := by
  unfold Hub.beaconIn
  extract_lets +onlyGivenNames v1
  clear_value v1
  extract_lets +onlyGivenNames v2
  clear_value v2
  extract_lets +onlyGivenNames v3
  have H4 : P v3 := (keep_when (fun _ H6 => (B.wr (wk.bit (by decide)) H6)) Hh)
  clear_value v3
  refine keep_ite ?_ ?_
  · exact H4
  · extract_lets +onlyGivenNames v7
    have H8 : P v7 := (keep_when (fun _ H10 => (Hub.refreshVotes_keeps B (wk.sub (by decide)) (Hub.wrBit_keeps B (wk.bit (by decide)) H10))) (Hub.wake_keeps B (wk.sub (by decide)) (keep_when (fun _ H12 => (Hub.irq_keeps B (wk.sub (by decide)) H12)) H4)))
    clear_value v7
    exact (keep_when (fun _ H14 => (Hub.startExit_keeps B (wk.sub (by decide)) H14)) H8)

theorem Hub.beginAmount_keeps {km : Nat} (B : Hub.Bears km P) (wk : Sub 0x1808000000000000000000000000000000000000000000000000000100000000010000000000000000 km) {h : Hub} {tid : ℕ} {ct : ℕ} (Hh : P h) : P (Hub.beginAmount h tid ct) := by
  unfold Hub.beginAmount
  split
  · rename_i a1 e2
    exact Hh
  · rename_i a3 a4 e5
    refine keep_ite ?_ ?_
    · exact Hh
    · split
      · rename_i a6 a7 a8 e9
        have H10 := keep_snd e9 (Hub.numbered_keeps B (wk.sub (by decide)) Hh)
        exact (Hub.openChange_keeps B (wk.sub (by decide)) H10)

theorem Hub.blockFail_keeps {km : Nat} (B : Hub.Bears km P) (wk : Sub 0x2800000000000004000000000000000000000000000000000010000000000000000000000008400 km) {h : Hub} {code : ℕ} (Hh : P h) : P (Hub.blockFail h code) := by
  unfold Hub.blockFail
  exact (Hub.raise_keeps B (wk.sub (by decide)) (B.wr (wk.bit (by decide)) (B.wr (wk.bit (by decide)) Hh)))

theorem Hub.program_keeps {km : Nat} (B : Hub.Bears km P) (wk : Sub 0x40000000000000000000000000000000000000000000000000000000000000000000000000000000000000000000 km) {h : Hub} {area : ℕ} {off : ℕ} {bs : Bytes} (Hh : P h) : P (Hub.program h area off bs) := by
  unfold Hub.program
  exact (B.flash (wk.bit (by decide)) Hh)

theorem Hub.blockDone_keeps {km : Nat} (B : Hub.Bears km P) (wk : Sub 0x14000000000000280000000000000400010000000000000000000000000000001000000000000000000000000c400 km) {h : Hub} {flashOk : Bool} (Hh : P h) : P (Hub.blockDone h flashOk) := by
  unfold Hub.blockDone
  extract_lets +onlyGivenNames v1
  clear_value v1
  extract_lets +onlyGivenNames v2
  clear_value v2
  refine keep_ite ?_ ?_
  · exact (Hub.blockFail_keeps B (wk.sub (by decide)) (Hub.cnt_keeps B (wk.bit (by decide)) Hh))
  · refine keep_ite ?_ ?_
    · exact (Hub.blockFail_keeps B (wk.sub (by decide)) Hh)
    · refine keep_ite ?_ ?_
      · exact (Hub.blockFail_keeps B (wk.sub (by decide)) Hh)
      · refine keep_ite ?_ ?_
        · extract_lets +onlyGivenNames v3
          clear_value v3
          exact (keep_when (fun _ H5 => (Hub.raise_keeps B (wk.sub (by decide)) H5)) (Hub.blockFail_keeps B (wk.sub (by decide)) (Hub.program_keeps B (wk.sub (by decide)) (B.freeIx (wk.bit (by decide)) Hh))))
        · extract_lets +onlyGivenNames v6
          clear_value v6
          extract_lets +onlyGivenNames v7
          have H8 : P v7 := (Hub.program_keeps B (wk.sub (by decide)) Hh)
          clear_value v7
          extract_lets +onlyGivenNames v9
          have H10 : P v9 := (keep_when (fun _ H12 => (keep_ite (B.wr (wk.bit (by decide)) (B.wr (wk.bit (by decide)) (B.wr (wk.bit (by decide)) H12))) (B.wr (wk.bit (by decide)) H12))) H8)
          clear_value v9
          extract_lets +onlyGivenNames v13
          have H14 : P v13 := (B.landed (wk.bit (by decide)) H10)
          clear_value v13
          extract_lets +onlyGivenNames v15
          have H16 : P v15 := (Hub.irq_keeps B (wk.sub (by decide)) (Hub.cnt_keeps B (wk.bit (by decide)) (B.wr (wk.bit (by decide)) (B.wr (wk.bit (by decide)) H14))))
          clear_value v15
          exact (keep_when (fun _ H18 => (Hub.setUpd_keeps B (wk.sub (by decide)) H18)) H16)

theorem Hub.setRoute_keeps {km : Nat} (B : Hub.Bears km P) (wk : Sub 0x8000000000000000000000000000000000000000000000000000000000000000000000000000 km) {h : Hub} {d : ℕ} {port : ℕ} {down : Bool} {valid : Bool} {tier : ℕ} {gen : ℕ} (Hh : P h) : P (Hub.setRoute h d port down valid tier gen) := by
  unfold Hub.setRoute
  exact (Hub.setTword_keeps B (wk.sub (by decide)) (Hub.setTword_keeps B (wk.sub (by decide)) Hh))

theorem Hub.blockRoutes_keeps {km : Nat} (B : Hub.Bears km P) (wk : Sub 0x8000000000000000000000000000000000000000000000000000000000000000000000000000 km) {h : Hub} {port : ℕ} {first : ℕ} {size : ℕ} {tier : ℕ} {gen : ℕ} (Hh : P h) : P (Hub.blockRoutes h port first size tier gen) := by
  unfold Hub.blockRoutes
  exact (keep_each (fun _ _ H3 => (Hub.setRoute_keeps B (wk.sub (by decide)) H3)) Hh)

theorem Hub.loadCfg_keeps {km : Nat} (B : Hub.Bears km P) (wk : Sub 0x14000000000a80800000000000c000000000000101010100070000010300210000000002030000000100001d1f km) {h : Hub} (Hh : P h) : P h.loadCfg := by
  unfold Hub.loadCfg
  extract_lets +onlyGivenNames h1
  have H1 : P h1 := keep_foldl (fun h p H => by
    split
    · exact B.regs (wk.bit (by decide)) H fun S => Tab.put_sorted _ _ _ S
    · exact H) Hh
  clear_value h1
  extract_lets +onlyGivenNames bad h2
  have H2 : P h2 := keep_when (fun _ H => B.wr (wk.bit (by decide)) (B.wr (wk.bit (by decide)) H)) H1
  clear_value h2
  exact keep_each (fun _ _ H => Hub.afterReset_keeps B (wk.sub (by decide)) H)
    (Hub.pciRole_keeps B (wk.sub (by decide)) (B.wr (wk.bit (by decide)) H2))

theorem Hub.bootBundle_keeps {km : Nat} (B : Hub.Bears km P) (wk : Sub 0x14000000000aa0800000000000c00000200000010101010007000001030021000000000203000000010000dd1f km) {h : Hub} (Hh : P h) : P (Hub.bootBundle h) := by
  unfold Hub.bootBundle
  extract_lets +onlyGivenNames v1
  clear_value v1
  extract_lets +onlyGivenNames v2
  clear_value v2
  extract_lets +onlyGivenNames v3
  have H4 : P v3 := (keep_when (fun _ H6 => (by
      extract_lets +onlyGivenNames v7
      clear_value v7
      exact (B.wr (wk.bit (by decide)) (keep_when (fun _ H9 => (B.cfg (wk.bit (by decide)) H9)) H6)))) Hh)
  clear_value v3
  extract_lets +onlyGivenNames v10
  have H11 : P v10 := (Hub.extend_keeps B (wk.sub (by decide)) H4)
  clear_value v10
  exact (keep_when (fun _ H13 => (keep_each (fun _ _ H16 => (Hub.autoOn_keeps B (wk.sub (by decide)) H16)) (Hub.loadCfg_keeps B (wk.sub (by decide)) H13))) H11)

theorem Hub.wipeStore_keeps {km : Nat} (B : Hub.Bears km P) (wk : Sub 0x58000000000004200000000000000000000000000000000000000000000000000000000000000000000000008c00 km) {h : Hub} (Hh : P h) : P (Hub.wipeStore h) := by
  unfold Hub.wipeStore
  extract_lets +onlyGivenNames v1
  have H2 : P v1 := (B.set_cfg_recs_marks_flash (wk.bit (by decide)) (wk.bit (by decide)) (wk.bit (by decide)) (wk.bit (by decide)) Hh)
  clear_value v1
  extract_lets +onlyGivenNames v3
  have H4 : P v3 := (B.wr (wk.bit (by decide)) (B.wr (wk.bit (by decide)) (B.wr (wk.bit (by decide)) (B.wr (wk.bit (by decide)) (B.wr (wk.bit (by decide)) H2)))))
  clear_value v3
  extract_lets +onlyGivenNames v5
  have H6 : P v5 := (keep_when (fun _ H8 => (B.wr (wk.bit (by decide)) (B.wr (wk.bit (by decide)) (B.lkRing (wk.bit (by decide)) H8)))) H4)
  clear_value v5
  exact (B.wr (wk.bit (by decide)) H6)

theorem Hub.bootRoot_keeps {km : Nat} (B : Hub.Bears km P) (wk : Sub 0x59000000000006a0000000000000400001000000000000000000000000000001000000000000000000000000cc00 km) {h : Hub} {pufOk : Bool} {corr : ℕ} (Hh : P h) : P (Hub.bootRoot h pufOk corr) := by
  unfold Hub.bootRoot
  extract_lets +onlyGivenNames v1
  have H2 : P v1 := (keep_when (fun _ H4 => (Hub.wipeStore_keeps B (wk.sub (by decide)) H4)) Hh)
  clear_value v1
  extract_lets +onlyGivenNames v5
  clear_value v5
  extract_lets +onlyGivenNames v6
  clear_value v6
  extract_lets +onlyGivenNames v7
  have H8 : P v7 := (keep_when (fun _ H10 => (Hub.irq_keeps B (wk.sub (by decide)) (B.wr (wk.bit (by decide)) H10))) H2)
  clear_value v7
  extract_lets +onlyGivenNames v11
  have H12 : P v11 := (keep_ite (B.wr (wk.bit (by decide)) (B.wr (wk.bit (by decide)) (B.root (wk.bit (by decide)) H8))) (Hub.raise_keeps B (wk.sub (by decide)) H8))
  clear_value v11
  exact (Hub.extend_keeps B (wk.sub (by decide)) (Hub.extend_keeps B (wk.sub (by decide)) H12))

theorem Hub.enterRecovery_keeps {km : Nat} (B : Hub.Bears km P) (wk : Sub 0x2800000000000004000100000000000000000000000000000000000000000000000000000000400 km) {h : Hub} {badRole : Bool} (Hh : P h) : P (Hub.enterRecovery h badRole) := by
  unfold Hub.enterRecovery
  exact (keep_when (fun _ H2 => (Hub.locketOpen_keeps B (wk.sub (by decide)) H2)) (Hub.locketOpen_keeps B (wk.sub (by decide)) (B.wr (wk.bit (by decide)) Hh)))

theorem Hub.copyBank_keeps {km : Nat} (B : Hub.Bears km P) (wk : Sub 0x40000000000000000000000000000000000000000000000000000000000000000000000000000000000000000000 km) {h : Hub} (Hh : P h) : P (Hub.copyBank h) := by
  unfold Hub.copyBank
  extract_lets +onlyGivenNames v1
  clear_value v1
  exact (B.flash (wk.bit (by decide)) Hh)

theorem Hub.bootCopy_keeps {km : Nat} (B : Hub.Bears km P) (wk : Sub 0x40000000000002800000000000004000000000000000000000000000000000010000000000000000000000008400 km) {h : Hub} (Hh : P h) : P (Hub.bootCopy h) := by
  unfold Hub.bootCopy
  refine keep_ite ?_ ?_
  · exact Hh
  · exact (keep_ite (Hub.raise_keeps B (wk.sub (by decide)) (B.wr (wk.bit (by decide)) Hh)) (B.wr (wk.bit (by decide)) (B.wr (wk.bit (by decide)) (B.wr (wk.bit (by decide)) (Hub.copyBank_keeps B (wk.sub (by decide)) Hh)))))

theorem Hub.firstStart_keeps {km : Nat} (B : Hub.Bears km P) (wk : Sub 0x20000000000000000000000000000000008000000000000000000000000000000000000000000000000000008000 km) {h : Hub} (Hh : P h) : P (Hub.firstStart h) := by
  unfold Hub.firstStart
  extract_lets +onlyGivenNames v1
  have H2 : P v1 := (B.wr (wk.bit (by decide)) Hh)
  clear_value v1
  exact (keep_when (fun _ H4 => (keep_each (fun _ _ H7 => (keep_when (fun _ H9 => (Hub.blowOem_keeps B (wk.sub (by decide)) H9)) H7)) H4)) H2)

theorem Hub.startFirmware_keeps {km : Nat} (B : Hub.Bears km P) (wk : Sub 0x20000000000002a0000000000000400000800000000000000000000000000000000000000000000000000000c400 km) {h : Hub} {badRole : Bool} (Hh : P h) : P (Hub.startFirmware h badRole) := by
  unfold Hub.startFirmware
  extract_lets +onlyGivenNames v1
  clear_value v1
  extract_lets +onlyGivenNames v2
  have H3 : P v2 := (Hub.extend_keeps B (wk.sub (by decide)) (Hub.extend_keeps B (wk.sub (by decide)) Hh))
  clear_value v2
  extract_lets +onlyGivenNames v4
  have H5 : P v4 := (B.wr (wk.bit (by decide)) (B.wr (wk.bit (by decide)) (B.wr (wk.bit (by decide)) (B.wr (wk.bit (by decide)) (B.wr (wk.bit (by decide)) H3)))))
  clear_value v4
  extract_lets +onlyGivenNames v6
  have H7 : P v6 := (Hub.locketPut_keeps B (wk.sub (by decide)) H5)
  clear_value v6
  extract_lets +onlyGivenNames v8
  have H9 : P v8 := (keep_when (fun _ H11 => (Hub.locketOpen_keeps B (wk.sub (by decide)) H11)) (keep_when (fun _ H13 => (Hub.locketOpen_keeps B (wk.sub (by decide)) H13)) H7))
  clear_value v8
  extract_lets +onlyGivenNames v14
  have H15 : P v14 := (keep_when (fun _ H17 => (Hub.locketOpen_keeps B (wk.sub (by decide)) H17)) H9)
  clear_value v14
  extract_lets +onlyGivenNames v18
  have H19 : P v18 := (keep_when (fun _ H21 => (Hub.firstStart_keeps B (wk.sub (by decide)) H21)) H15)
  clear_value v18
  exact (keep_when (fun _ H23 => (by
    extract_lets +onlyGivenNames v24
    clear_value v24
    exact (Hub.locketOpen_keeps B (wk.sub (by decide)) (B.wr (wk.bit (by decide)) (B.cfg (wk.bit (by decide)) H23))))) H19)

theorem Hub.boot_keeps {km : Nat} (B : Hub.Bears km P) (wk : Sub 0x7914000000000ea0800000000000c00011a00000010101010007000001030021000000000203000000010000dd1f km) {h : Hub} {pufOk : Bool} {corr : ℕ} (Hh : P h) : P (Hub.boot h pufOk corr) := by
  unfold Hub.boot
  extract_lets +onlyGivenNames v1
  have H2 : P v1 := (keep_when (fun _ H4 => (Hub.raise_keeps B (wk.sub (by decide)) H4)) (B.wr (wk.bit (by decide)) (B.wr (wk.bit (by decide)) Hh)))
  clear_value v1
  extract_lets +onlyGivenNames v5
  have H6 : P v5 := (Hub.bootBundle_keeps B (wk.sub (by decide)) (Hub.bootRoot_keeps B (wk.sub (by decide)) H2))
  clear_value v5
  extract_lets +onlyGivenNames v7
  clear_value v7
  extract_lets +onlyGivenNames v8
  clear_value v8
  refine keep_ite ?_ ?_
  · exact (Hub.enterRecovery_keeps B (wk.sub (by decide)) H6)
  · extract_lets +onlyGivenNames v9
    have H10 : P v9 := (Hub.bootCopy_keeps B (wk.sub (by decide)) H6)
    clear_value v9
    exact (keep_ite (Hub.startFirmware_keeps B (wk.sub (by decide)) H10) (Hub.enterRecovery_keeps B (wk.sub (by decide)) H10))

theorem Hub.bootSource_keeps {km : Nat} (B : Hub.Bears km P) (wk : Sub 0x40000040800280200000000000c000001000000101010100000000000000010000000000000000000100010402 km) {h : Hub} {n : ℕ} {ilim : ℕ} (Hh : P h) : P (Hub.bootSource h n ilim) := by
  unfold Hub.bootSource
  exact (Hub.sendOffer_keeps B (wk.sub (by decide)) (Hub.setClp_keeps B (wk.sub (by decide)) (B.wr (wk.bit (by decide)) (B.wr (wk.bit (by decide)) (Hub.setSw_keeps B (wk.sub (by decide)) Hh)))))

theorem Hub.burstOut_keeps {km : Nat} (B : Hub.Bears km P) (wk : Sub 0x400002800000000000004000000000000000000000000000000000010000000000000000000000010400 km) {h : Hub} {p : ℕ} (Hh : P h) : P (Hub.burstOut h p) := by
  unfold Hub.burstOut
  extract_lets +onlyGivenNames v1
  clear_value v1
  extract_lets +onlyGivenNames v2
  have H3 : P v2 := (keep_each (fun _ _ H6 => (Hub.wirePut_keeps B (wk.sub (by decide)) H6)) (B.wr (wk.bit (by decide)) Hh))
  clear_value v2
  exact (keep_ite (Hub.raise_keeps B (wk.sub (by decide)) (B.wr (wk.bit (by decide)) H3)) H3)

theorem Hub.cplSend_keeps {km : Nat} (B : Hub.Bears km P) (wk : Sub 0x20000000000000000000000000000000000000000000000000000000000000000000000000000000000000 km) {h : Hub} {m : TxbIn} {status : ℕ} (Hh : P h) : P (Hub.cplSend h m status) := by
  unfold Hub.cplSend
  exact (Hub.txbSend_keeps B (wk.sub (by decide)) Hh)

theorem Hub.busDone_keeps {km : Nat} (B : Hub.Bears km P) (wk : Sub 0x1020000000000000000000000000000000000000000000000000000100000000000000000000000000000000 km) {h : Hub} {ok : Bool} {data : Bytes} (Hh : P h) : P (Hub.busDone h ok data) := by
  unfold Hub.busDone
  split
  · rename_i a1 e2
    exact Hh
  · rename_i a3 a4 a5 e6
    extract_lets +onlyGivenNames v7
    clear_value v7
    extract_lets +onlyGivenNames v8
    clear_value v8
    extract_lets +onlyGivenNames v9
    clear_value v9
    extract_lets +onlyGivenNames v10
    have H11 : P v10 := (B.rdBus (wk.bit (by decide)) Hh)
    clear_value v10
    extract_lets +onlyGivenNames v12
    have H13 : P v12 := (keep_each (fun _ _ H16 => (by
        split
        · rename_i a17 a18 a19
          exact (Hub.txbSend_keeps B (wk.sub (by decide)) H16))) (B.wr (wk.bit (by decide)) H11))
    clear_value v12
    exact (keep_ite H13 (Hub.cplSend_keeps B (wk.sub (by decide)) H13))

theorem Hub.busMeasure_keeps {km : Nat} (B : Hub.Bears km P) (wk : Sub 0x100000000000000000000000000000000000000000000000000 km) {h : Hub} {mv : ℕ} (Hh : P h) : P (Hub.busMeasure h mv) := by
  unfold Hub.busMeasure
  extract_lets +onlyGivenNames v1
  clear_value v1
  exact (keep_when (fun _ H3 => (B.wr (wk.bit (by decide)) H3)) (B.wr (wk.bit (by decide)) (B.wr (wk.bit (by decide)) (B.wr (wk.bit (by decide)) Hh))))

theorem Hub.udfSuspend_keeps {km : Nat} (B : Hub.Bears km P) (wk : Sub 0x4000000000000000000000020000000000000000000000000000000000000000 km) {h : Hub} {v : Bool} (Hh : P h) : P (Hub.udfSuspend h v) := by
  unfold Hub.udfSuspend
  refine keep_ite ?_ ?_
  · exact Hh
  · extract_lets +onlyGivenNames v1
    have H2 : P v1 := (Hub.irq_keeps B (wk.sub (by decide)) (B.wr (wk.bit (by decide)) Hh))
    clear_value v1
    exact (keep_when (fun _ H4 => (B.wr (wk.bit (by decide)) H4)) H2)

theorem Hub.busResume_keeps {km : Nat} (B : Hub.Bears km P) (wk : Sub 0x4000000000000000000000030000000000000000000000000000000000000000 km) {h : Hub} (Hh : P h) : P (Hub.busResume h) := by
  unfold Hub.busResume
  extract_lets +onlyGivenNames v1
  have H2 : P v1 := (keep_when (fun _ H4 => (Hub.wakeAbsorbed_keeps B (wk.sub (by decide)) H4)) Hh)
  clear_value v1
  exact (B.wr (wk.bit (by decide)) (B.wr (wk.bit (by decide)) (Hub.udfSuspend_keeps B (wk.sub (by decide)) H2)))

theorem Hub.txbDo_keeps {km : Nat} (B : Hub.Bears km P) (wk : Sub 0x8000000000000000000000000000000000000000000000000000000200000000000000000000000000000000 km) {h : Hub} {f : Hub → Hub} (Hh : P h) (Hf : ∀ a0, P a0 → P (f a0)) : P (Hub.txbDo h f) := by
  unfold Hub.txbDo
  extract_lets +onlyGivenNames v1
  have H2 : P v1 := (Hf _ Hh)
  clear_value v1
  exact (keep_when (fun _ H4 => (Hub.msix_keeps B (wk.sub (by decide)) H4)) H2)

theorem Hub.outWrite_keeps {km : Nat} (B : Hub.Bears km P) (wk : Sub 0x20000002800000000000004000000000000000000000000000000100010000000000000000000000000400 km) {h : Hub} {fromBus : Bool} {addr : ℕ} {ro : Bool} {ns : Bool} {data : Bytes} (Hh : P h) : P (Hub.outWrite h fromBus addr ro ns data) := by
  unfold Hub.outWrite
  split
  · rename_i a1 e2
    exact (Hub.raise_keeps B (wk.sub (by decide)) Hh)
  · rename_i a3 a4 e5
    extract_lets +onlyGivenNames v6
    clear_value v6
    extract_lets +onlyGivenNames v7
    clear_value v7
    extract_lets +onlyGivenNames v8
    clear_value v8
    extract_lets +onlyGivenNames v9
    have H10 : P v9 := (keep_each (fun _ _ H13 => (by
        split
        · rename_i a14 a15 a16
          exact (Hub.txbSend_keeps B (wk.sub (by decide)) H13))) Hh)
    clear_value v9
    exact (B.wr (wk.bit (by decide)) (Hub.cntN_keeps B (wk.bit (by decide)) (Hub.cntN_keeps B (wk.bit (by decide)) H10)))

theorem Hub.busWrite_keeps {km : Nat} (B : Hub.Bears km P) (wk : Sub 0x8020000002800000000000004000000000000000000000000000000300010000000000000000000000000400 km) {h : Hub} {addr : ℕ} {ro : Bool} {ns : Bool} {data : Bytes} (Hh : P h) : P (Hub.busWrite h addr ro ns data) := by
  unfold Hub.busWrite
  exact (keep_ite (Hub.wrBit_keeps B (wk.bit (by decide)) Hh) (Hub.txbDo_keeps B (wk.sub (by decide)) Hh (fun _ H2 => (Hub.outWrite_keeps B (wk.sub (by decide)) H2))))

theorem Hub.usbReset_keeps {km : Nat} (B : Hub.Bears km P) (wk : Sub 0x140000000000808000000000004000000000000000000000070000000000000000000000000000000000000000 km) {h : Hub} {n : ℕ} (Hh : P h) : P (Hub.usbReset h n) := by
  unfold Hub.usbReset
  extract_lets +onlyGivenNames v1
  have H2 : P v1 := (keep_ite (Hub.hubReset_keeps B (wk.sub (by decide)) Hh) (keep_ite (Hub.udfReset_keeps B (wk.sub (by decide)) Hh) Hh))
  clear_value v1
  exact (keep_when (fun _ H4 => (Hub.heldEndAll_keeps B (wk.sub (by decide)) H4)) H2)

theorem Hub.eventSend_keeps {km : Nat} (B : Hub.Bears km P) (wk : Sub 0x40000000000000000000000000000000000000000000000000000000000000000000000000000000000000000 km) {h : Hub} {ev : ℕ} {wake : Bool} (Hh : P h) : P (Hub.eventSend h ev wake) := by
  unfold Hub.eventSend
  exact (Hub.usbSend_keeps B (wk.sub (by decide)) Hh)

theorem Hub.busctlIn_keeps {km : Nat} (B : Hub.Bears km P) (wk : Sub 0x140000000000808000000000004000000000000000000000070000000000000000000000000000000000000000 km) {h : Hub} {op : ℕ} (Hh : P h) : P (Hub.busctlIn h op) := by
  unfold Hub.busctlIn
  extract_lets +onlyGivenNames v1
  clear_value v1
  extract_lets +onlyGivenNames v2
  have H3 : P v2 := (keep_ite (by
      split
      · rename_i a4 a5 a6 e7
        have H8 := keep_snd e7 (Hub.free_keeps B (wk.sub (by decide)) Hh)
        exact (B.wr (wk.bit (by decide)) (B.wr (wk.bit (by decide)) (keep_when (fun _ H10 => (Hub.usbReset_keeps B (wk.sub (by decide)) H10)) H8)))) (keep_ite (B.wr (wk.bit (by decide)) Hh) (keep_when (fun _ H12 => (Hub.busResume_keeps B (wk.sub (by decide)) H12)) (B.wr (wk.bit (by decide)) (B.wr (wk.bit (by decide)) Hh)))))
  clear_value v2
  exact (Hub.eventSend_keeps B (wk.sub (by decide)) H3)

theorem Hub.capMismatch_keeps {km : Nat} (B : Hub.Bears km P) (wk : Sub 0xb987aa80200000000000c00060100000000000000000000000000001030200010f030000000100014402 km) {h : Hub} {p : ℕ} (Hh : P h) : P (Hub.capMismatch h p) := by
  unfold Hub.capMismatch
  exact (Hub.portDown_keeps B (wk.sub (by decide)) (Hub.raise_keeps B (wk.sub (by decide)) Hh))

theorem Hub.capDone_keeps {km : Nat} (B : Hub.Bears km P) (wk : Sub 0xb987aa80200000000000c00060100000000000000000000000000001030200010f030000000100014402 km) {h : Hub} {p : ℕ} (Hh : P h) : P (Hub.capDone h p) := by
  unfold Hub.capDone
  extract_lets +onlyGivenNames v1
  clear_value v1
  extract_lets +onlyGivenNames v2
  clear_value v2
  extract_lets +onlyGivenNames v3
  clear_value v3
  refine keep_ite ?_ ?_
  · refine keep_ite ?_ ?_
    · exact (Hub.capMismatch_keeps B (wk.sub (by decide)) Hh)
    · exact (keep_ite (Hub.goUp_keeps B (wk.sub (by decide)) Hh) (Hub.setPort_keeps B (wk.sub (by decide)) Hh))
  · exact Hh

theorem Hub.capIn_keeps {km : Nat} (B : Hub.Bears km P) (wk : Sub 0xb987aa80200000000000c00060100000000000000000000000000001030200010f030000000100014402 km) {h : Hub} {p : ℕ} {tok : ℕ} {payload : Bytes} (Hh : P h) : P (Hub.capIn h p tok payload) := by
  unfold Hub.capIn
  extract_lets +onlyGivenNames v1
  clear_value v1
  extract_lets +onlyGivenNames v2
  clear_value v2
  extract_lets +onlyGivenNames v3
  have H4 : P v3 := (Hub.lmcSend_keeps B (wk.sub (by decide)) Hh)
  clear_value v3
  refine keep_ite ?_ ?_
  · exact (Hub.capDone_keeps B (wk.sub (by decide)) H4)
  · extract_lets +onlyGivenNames v5
    have H6 : P v5 := (B.wr (wk.bit (by decide)) (B.wr (wk.bit (by decide)) (B.wr (wk.bit (by decide)) (B.wr (wk.bit (by decide)) (B.wr (wk.bit (by decide)) (B.wr (wk.bit (by decide)) (B.wr (wk.bit (by decide)) (B.capRx (wk.bit (by decide)) H4))))))))
    clear_value v5
    extract_lets +onlyGivenNames v7
    have H8 : P v7 := (keep_when (fun _ H10 => (B.wr (wk.bit (by decide)) (B.wr (wk.bit (by decide)) (B.wr (wk.bit (by decide)) (B.wr (wk.bit (by decide)) H10))))) H6)
    clear_value v7
    extract_lets +onlyGivenNames v11
    have H12 : P v11 := (Hub.refreshPoints_keeps B (wk.sub (by decide)) (keep_when (fun _ H14 => (Hub.raise_keeps B (wk.sub (by decide)) H14)) H8))
    clear_value v11
    exact (keep_ite (Hub.capMismatch_keeps B (wk.sub (by decide)) H12) (Hub.capDone_keeps B (wk.sub (by decide)) H12))

theorem Hub.countWr_keeps {km : Nat} (B : Hub.Bears km P) (wk : Sub 0x10000000000000000000000000000000000 km) {h : Hub} {a : ℕ} {n : ℕ} (Hh : P h) : P (Hub.countWr h a n) := by
  unfold Hub.countWr
  exact (B.wr (wk.bit (by decide)) Hh)

theorem Hub.putTile_keeps {km : Nat} (B : Hub.Bears km P) (wk : Sub 0x100000000000000000000000000000000000000000010000000000000000000000000000000000 km) {h : Hub} {k : ℕ} {t : ℕ} {px : Bytes} (Hh : P h) : P (Hub.putTile h k t px) := by
  unfold Hub.putTile
  split
  · rename_i a1 a2 a3 e4
    extract_lets +onlyGivenNames v5
    clear_value v5
    exact (keep_each (fun _ _ H8 => (Hub.countWr_keeps B (wk.sub (by decide)) (Hub.fput_keeps B (wk.sub (by decide)) H8))) Hh)

theorem Hub.retire_keeps {km : Nat} (B : Hub.Bears km P) (wk : Sub 0x8000000000000000000000000000000000000000000000000000000000000000000000000000 km) {h : Hub} {k : ℕ} (Hh : P h) : P (Hub.retire h k) := by
  unfold Hub.retire
  exact (Hub.setState_keeps B (wk.sub (by decide)) Hh)

theorem Hub.commitSlot_keeps {km : Nat} (B : Hub.Bears km P) (wk : Sub 0x8000000000000000000000000000000000000000000000800000000000000000000000000000 km) {h : Hub} {w : Writer} {err : ℕ} {incomplete : Bool} (Hh : P h) : P (Hub.commitSlot h w err incomplete) := by
  unfold Hub.commitSlot
  extract_lets +onlyGivenNames v1
  clear_value v1
  split
  · rename_i a2 e3
    exact Hh
  · rename_i a4 a5 e6
    extract_lets +onlyGivenNames v7
    clear_value v7
    extract_lets +onlyGivenNames v8
    clear_value v8
    extract_lets +onlyGivenNames v9
    have H10 : P v9 := (by
        unfold v9
        split
        · rename_i a11 a12
          exact (Hub.retire_keeps B (wk.sub (by decide)) Hh)
        · rename_i a13
          exact Hh)
    clear_value v9
    extract_lets +onlyGivenNames v14
    clear_value v14
    exact (B.wr (wk.bit (by decide)) (B.wr (wk.bit (by decide)) (B.wr (wk.bit (by decide)) (Hub.setTword_keeps B (wk.sub (by decide)) (Hub.setTword_keeps B (wk.sub (by decide)) (Hub.setTword_keeps B (wk.sub (by decide)) (Hub.setState_keeps B (wk.sub (by decide)) H10)))))))

theorem Hub.setSig_keeps {km : Nat} (B : Hub.Bears km P) (wk : Sub 0x8000000000000000000000000000000000000000000000000000000000000000000000000000 km) {h : Hub} {k : ℕ} {t : ℕ} {v : ℕ} (Hh : P h) : P (Hub.setSig h k t v) := by
  unfold Hub.setSig
  exact (keep_when (fun _ H2 => (Hub.setTword_keeps B (wk.sub (by decide)) H2)) Hh)

theorem Hub.signTile_keeps {km : Nat} (B : Hub.Bears km P) (wk : Sub 0x8000000000000000000000000000000000000000000000000000000000000000000000000000 km) {k : ℕ} {t : ℕ} {h : Hub} (Hh : P h) : P (Hub.signTile k t h) := by
  unfold Hub.signTile
  exact (Hub.setSig_keeps B (wk.sub (by decide)) Hh)

theorem Hub.captureCommit_keeps {km : Nat} (B : Hub.Bears km P) (wk : Sub 0x108000000000000000000000000000000000000000010000a00000000000000000000000000000 km) {h : Hub} {d : Fin 2} {px : List TilePix} (Hh : P h) : P (Hub.captureCommit h d px) := by
  unfold Hub.captureCommit
  split
  · rename_i a1 e2
    exact Hh
  · rename_i a3 a4 e5
    extract_lets +onlyGivenNames v6
    have H7 : P v6 := (keep_each (fun _ _ H10 => (Hub.putTile_keeps B (wk.sub (by decide)) H10)) Hh)
    clear_value v6
    extract_lets +onlyGivenNames v11
    have H12 : P v11 := (Hub.commitSlot_keeps B (wk.sub (by decide)) (keep_each (fun _ _ H15 => (Hub.signTile_keeps B (wk.sub (by decide)) H15)) H7))
    clear_value v11
    exact (B.wr (wk.bit (by decide)) (B.wr (wk.bit (by decide)) (Hub.cnt_keeps B (wk.bit (by decide)) H12)))

theorem Hub.captureStart_keeps {km : Nat} (B : Hub.Bears km P) (wk : Sub 0x2808000000000004000000000000000000000000000000000a10000000000000000000000000400 km) {h : Hub} {d : Fin 2} (Hh : P h) : P (Hub.captureStart h d) := by
  unfold Hub.captureStart
  extract_lets +onlyGivenNames v1
  have H2 : P v1 := (Hub.refreshFit_keeps B (wk.sub (by decide)) Hh)
  clear_value v1
  refine keep_ite ?_ ?_
  · exact H2
  · extract_lets +onlyGivenNames v3
    have H4 : P v3 := (Hub.beginFrame_keeps B (wk.sub (by decide)) H2)
    clear_value v3
    exact (keep_ite (B.wr (wk.bit (by decide)) H4) (Hub.cnt_keeps B (wk.bit (by decide)) H4))

theorem Hub.captureTrain_keeps {km : Nat} (B : Hub.Bears km P) (wk : Sub 0x2808000000000004000000000000000000000000000000000a10000000000000000000000000400 km) {h : Hub} {d : Fin 2} {ok : Bool} {rate : ℕ} {lanes : ℕ} {hact : ℕ} {vact : ℕ} {pclk : ℕ} {bpc : ℕ} (Hh : P h) : P (Hub.captureTrain h d ok rate lanes hact vact pclk bpc) := by
  unfold Hub.captureTrain
  refine keep_ite ?_ ?_
  · extract_lets +onlyGivenNames v1
    clear_value v1
    extract_lets +onlyGivenNames v2
    have H3 : P v2 := (keep_when (fun _ H5 => (keep_when (fun _ H7 => (Hub.cnt_keeps B (wk.bit (by decide)) H7)) (Hub.captureDrop_keeps B (wk.sub (by decide)) H5))) Hh)
    clear_value v2
    exact (Hub.refreshFit_keeps B (wk.sub (by decide)) (B.wr (wk.bit (by decide)) (B.wr (wk.bit (by decide)) (B.wr (wk.bit (by decide)) (B.wr (wk.bit (by decide)) (B.wr (wk.bit (by decide)) (B.wr (wk.bit (by decide)) (B.wr (wk.bit (by decide)) H3))))))))
  · exact (Hub.raise_keeps B (wk.sub (by decide)) (B.wr (wk.bit (by decide)) (B.wr (wk.bit (by decide)) (B.wr (wk.bit (by decide)) (Hub.captureDrop_keeps B (wk.sub (by decide)) Hh)))))

theorem Hub.carryOut_keeps {km : Nat} (B : Hub.Bears km P) (wk : Sub 0x1808000000000000000000000000000000000000000000000000000100000000010000000000000000 km) {h : Hub} {w : Wish} (Hh : P h) : P (Hub.carryOut h w) := by
  unfold Hub.carryOut
  split
  · rename_i a1
    exact Hh
  · rename_i a2 a3 a4 a5
    exact (keep_when (fun _ H7 => (Hub.beginSetup_keeps B (wk.sub (by decide)) H7)) Hh)
  · rename_i a8 a9
    exact (Hub.beginTear_keeps B (wk.sub (by decide)) Hh)
  · rename_i a10 a11 a12
    exact (keep_when (fun _ H14 => (Hub.beginAmount_keeps B (wk.sub (by decide)) H14)) Hh)

theorem Hub.carryRoutes_keeps {km : Nat} (B : Hub.Bears km P) (wk : Sub 0x8000000000000000000000000000000000000000000000000000000000000000000000000000 km) {h : Hub} {gen : ℕ} (Hh : P h) : P (Hub.carryRoutes h gen) := by
  unfold Hub.carryRoutes
  extract_lets +onlyGivenNames v1
  clear_value v1
  extract_lets +onlyGivenNames v2
  clear_value v2
  exact (keep_each (fun _ _ H5 => (Hub.setTword_keeps B (wk.sub (by decide)) H5)) Hh)

theorem Hub.casAck_keeps {km : Nat} (B : Hub.Bears km P) (wk : Sub 0x8000000000000000000000000000000000000000000000000000000000000000000000000000000 km) {h : Hub} {src : ℕ} {tok : ℕ} {status : ℕ} {typ : ℕ} (Hh : P h) : P (Hub.casAck h src tok status typ) := by
  unfold Hub.casAck
  exact (Hub.ctlSend_keeps B (wk.sub (by decide)) Hh)

theorem Hub.catchUp_keeps {km : Nat} (B : Hub.Bears km P) (wk : Sub 0x108000000000000000000000000000000000000000010000000000000000000000000000000000 km) {h : Hub} {w : Writer} {skip : List ℕ} (Hh : P h) : P (Hub.catchUp h w skip) := by
  unfold Hub.catchUp
  split
  · rename_i a1 a2 a3 a4 e5 e6
    exact (keep_ite Hh (Hub.setSlot_keeps B (wk.sub (by decide)) (keep_each (fun _ _ H9 => (Hub.setSig_keeps B (wk.sub (by decide)) (Hub.putTile_keeps B (wk.sub (by decide)) H9))) Hh)))
  · rename_i a10 a11 e12
    exact Hh

theorem Hub.rxCommit_keeps {km : Nat} (B : Hub.Bears km P) (wk : Sub 0x108000000000000000000000000000000000000000010000800000000000000000000000000000 km) {h : Hub} {r : Fin 8} {incomplete : Bool} {full : Bool} (Hh : P h) : P (Hub.rxCommit h r incomplete full) := by
  unfold Hub.rxCommit
  extract_lets +onlyGivenNames v1
  have H2 : P v1 := (B.wr (wk.bit (by decide)) (Hub.catchUp_keeps B (wk.sub (by decide)) Hh))
  clear_value v1
  extract_lets +onlyGivenNames v3
  have H4 : P v3 := (Hub.cnt_keeps B (wk.bit (by decide)) (B.wr (wk.bit (by decide)) (B.wr (wk.bit (by decide)) (keep_when (fun _ H6 => (Hub.commitSlot_keeps B (wk.sub (by decide)) H6)) H2))))
  clear_value v3
  exact (keep_ite (Hub.cnt_keeps B (wk.bit (by decide)) H4) (keep_when (fun _ H8 => (B.wr (wk.bit (by decide)) H8)) H4))

theorem Hub.catchupEnd_keeps {km : Nat} (B : Hub.Bears km P) (wk : Sub 0x108000000000000000000000000000000000000000010000800000000000000000000000000000 km) {h : Hub} {w : Writer} (Hh : P h) : P (Hub.catchupEnd h w) := by
  unfold Hub.catchupEnd
  split
  · rename_i a1 a2
    extract_lets +onlyGivenNames v3
    have H4 : P v3 := (B.wr (wk.bit (by decide)) (Hub.catchUp_keeps B (wk.sub (by decide)) Hh))
    clear_value v3
    exact (keep_when (fun _ H6 => (Hub.rxCommit_keeps B (wk.sub (by decide)) H6)) H4)
  · rename_i a7 e8
    exact (Hub.catchUp_keeps B (wk.sub (by decide)) Hh)

theorem Hub.kindMismatch_keeps {km : Nat} (B : Hub.Bears km P) (wk : Sub 0x2800000000000004000000000000000000000000000000000010000000000010000000000000400 km) {h : Hub} {tid : ℕ} (Hh : P h) : P (Hub.kindMismatch h tid) := by
  unfold Hub.kindMismatch
  exact (Hub.raise_keeps B (wk.sub (by decide)) (Hub.cnt_keeps B (wk.bit (by decide)) Hh))

theorem Hub.route_keeps {km : Nat} (B : Hub.Bears km P) (wk : Sub 0x2800000000000004000000000000000000000000000000000010000000000020000000000000400 km) {h : Hub} {pt : Nat} {c : Cell} (Hh : P h) : ∀ g, h.route pt c = .inl g → P g := by
  have N : P ((h.cnt RTE.CNT_NOROUTE_COUNT).raise 0x41 1 { lo := c.tid }) := Hub.raise_keeps B (wk.sub (by decide)) (Hub.cnt_keeps B (wk.bit (by decide)) Hh)
  have D : P ((h.cnt RTE.CNT_UPDOWN_COUNT).raise 0x41 0 { lo := c.tid }) := Hub.raise_keeps B (wk.sub (by decide)) (Hub.cnt_keeps B (wk.bit (by decide)) Hh)
  unfold Hub.route
  intro g
  extract_lets +onlyGivenNames d nr e0 v
  intro e
  split at e
  · exact Sum.inl.inj e ▸ N
  split at e
  · cases e
  split at e
  · split at e
    · cases e
    · exact Sum.inl.inj e ▸ N
  split at e
  · exact Sum.inl.inj e ▸ D
  split at e
  · cases e
  split at e
  · cases e
  · exact Sum.inl.inj e ▸ N

theorem Hub.lookup_keeps {km : Nat} (B : Hub.Bears km P) (wk : Sub 0x2808000000000004000000000000000000000000000000000010000000000030000000000000400 km) {h : Hub} {pt : Nat} {c0 : Cell} (Hh : P h) : P (h.lookup pt c0).1 := by
  unfold Hub.lookup
  extract_lets +onlyGivenNames c age
  clear_value c age
  split
  · split
    · exact Hub.kindMismatch_keeps B (wk.sub (by decide)) Hh
    · split
      · rename_i h' e
        exact Hub.route_keeps B (wk.sub (by decide)) Hh _ e
      · exact Hh
  · split
    · exact Hub.cnt_keeps B (wk.bit (by decide)) Hh
    · extract_lets +onlyGivenNames e
      clear_value e
      split
      · exact Hub.cnt_keeps B (wk.bit (by decide)) Hh
      · split
        · exact Hub.kindMismatch_keeps B (wk.sub (by decide)) Hh
        · split
          · exact Hub.cnt_keeps B (wk.bit (by decide)) Hh
          · extract_lets +onlyGivenNames inj
            split
            · exact Hh
            · extract_lets +onlyGivenNames stamp c1 h1
              exact keep_ite (Hub.setTfld_keeps B (wk.sub (by decide)) Hh) Hh

theorem Hub.meterSop_keeps {km : Nat} (B : Hub.Bears km P) (wk : Sub 0x4000000000000000000000000000000000000001000000000000000000000000 km) {h : Hub} {pt : ℕ} {p : Plan} (Hh : P h) : P (Hub.meterSop h pt p).1 := by
  unfold Hub.meterSop
  extract_lets +onlyGivenNames v1
  clear_value v1
  extract_lets +onlyGivenNames v2
  have H3 : P v2 := (Hub.cnt_keeps B (kind_ite (wk.bit (by decide)) (kind_ite (wk.bit (by decide)) (wk.bit (by decide)))) Hh)
  clear_value v2
  split
  · rename_i e4
    exact (keep_p1 Hh)
  · rename_i e5
    split
    · rename_i e6
      split
      · rename_i e7
        exact (keep_p1 (Hub.cnt_keeps B (wk.bit (by decide)) Hh))
      · rename_i e8
        exact (keep_p1 Hh)
    · rename_i e9
      split
      · rename_i e10
        exact (keep_p1 (Hub.irq_keeps B (wk.sub (by decide)) (Hub.cnt_keeps B (wk.bit (by decide)) (Hub.cnt_keeps B (wk.bit (by decide)) H3))))
      · rename_i e11
        exact (keep_p1 H3)

theorem Hub.refuseAll_keeps {km : Nat} (B : Hub.Bears km P) (wk : Sub 0x8000000000000000000 km) {h : Hub} {multi : Bool} {ts : List ℕ} (Hh : P h) : P (Hub.refuseAll h multi ts) := by
  unfold Hub.refuseAll
  exact (keep_when (fun _ H2 => (Hub.cntN_keeps B (wk.bit (by decide)) (Hub.cnt_keeps B (wk.bit (by decide)) H2))) Hh)

theorem Hub.meterCharge_keeps {km : Nat} (B : Hub.Bears km P) (wk : Sub 0x30000000000000000000000000000000000000000000000000000001000000000000000000000000 km) {h : Hub} {id : ℕ} {eop : Bool} {fill : ℕ} (Hh : P h) : P (Hub.meterCharge h id eop fill) := by
  unfold Hub.meterCharge
  split
  · rename_i a1 e2
    exact Hh
  · rename_i a3 a4 e5
    refine keep_ite ?_ ?_
    · exact Hh
    · extract_lets +onlyGivenNames v6
      clear_value v6
      extract_lets +onlyGivenNames v7
      clear_value v7
      extract_lets +onlyGivenNames v8
      clear_value v8
      exact (Hub.meterSet_keeps B (wk.sub (by decide)) (Hub.setPkt_keeps B (wk.sub (by decide)) Hh))

theorem Hub.takeCell_keeps {km : Nat} (B : Hub.Bears km P) (wk : Sub 0x2800000000000004000000000000000000000000000000000010000000003000000000000000400 km) {h : Hub} {q : ℕ} {b : ℕ} {pool : ℕ} (Hh : P h) : P (Hub.takeCell h q b pool) := by
  unfold Hub.takeCell
  extract_lets +onlyGivenNames v1
  clear_value v1
  extract_lets +onlyGivenNames v2
  have H3 : P v2 := (B.wr (wk.bit (by decide)) (B.wr (wk.bit (by decide)) (B.wr (wk.bit (by decide)) (B.wr (wk.bit (by decide)) Hh))))
  clear_value v2
  extract_lets +onlyGivenNames v4
  have H5 : P v4 := (keep_ite (B.wr (wk.bit (by decide)) (B.wr (wk.bit (by decide)) H3)) (keep_ite (Hub.raise_keeps B (wk.sub (by decide)) (B.wr (wk.bit (by decide)) H3)) H3))
  clear_value v4
  exact (keep_ite (Hub.irq_keeps B (wk.sub (by decide)) H5) H5)

theorem Hub.occUp_keeps {km : Nat} (B : Hub.Bears km P) (wk : Sub 0x2000000000000000000 km) {n : ℕ} {q : ℕ} {h : Hub} (Hh : P h) : P (Hub.occUp n q h) := by
  unfold Hub.occUp
  extract_lets +onlyGivenNames v1
  clear_value v1
  exact (B.wr (wk.bit (by decide)) (B.wr (wk.bit (by decide)) Hh))

theorem Hub.writeCell_keeps {km : Nat} (B : Hub.Bears km P) (wk : Sub 0x22800000000000004000000000000000000000000000000000010000000003000000000000000404 km) {h : Hub} {id : ℕ} {c : Cell} (Hh : P h) : P (Hub.writeCell h id c) := by
  unfold Hub.writeCell
  split
  · rename_i a1 e2
    exact Hh
  · rename_i a3 a4 e5
    extract_lets +onlyGivenNames v6
    clear_value v6
    extract_lets +onlyGivenNames v7
    clear_value v7
    split
    · rename_i a8 a9 a10 e11
      have H12 := keep_snd e11 (Hub.free_keeps B (wk.sub (by decide)) Hh)
      extract_lets +onlyGivenNames v13
      clear_value v13
      extract_lets +onlyGivenNames v14
      clear_value v14
      extract_lets +onlyGivenNames v15
      have H16 : P v15 := (B.wr (wk.bit (by decide)) (B.wr (wk.bit (by decide)) (Hub.takeCell_keeps B (wk.sub (by decide)) H12)))
      clear_value v15
      exact (Hub.bankOp_keeps B (wk.sub (by decide)) (keep_each (fun _ _ H19 => (Hub.occUp_keeps B (wk.sub (by decide)) H19)) (Hub.setPkt_keeps B (wk.sub (by decide)) H16)))

theorem Hub.takeIn_keeps {km : Nat} (B : Hub.Bears km P) (wk : Sub 0x57280000000000000400000000000000000000000000000000001000100010b000000000000000404 km) {h : Hub} {pt : ℕ} {par : Bool} {p : Plan} (Hh : P h) : P (Hub.takeIn h pt par p).1 := by
  unfold Hub.takeIn
  split
  · rename_i a1 a2 e3
    have H4 := keep_fst e3 (Hub.meterSop_keeps B (wk.sub (by decide)) Hh)
    exact (keep_p1 H4)
  · rename_i a5 a6 a7 e8
    have H9 := keep_fst e8 (Hub.meterSop_keeps B (wk.sub (by decide)) Hh)
    extract_lets +onlyGivenNames v10
    clear_value v10
    extract_lets +onlyGivenNames v11
    clear_value v11
    extract_lets +onlyGivenNames v12
    clear_value v12
    extract_lets +onlyGivenNames v13
    have H14 : P v13 := (Hub.cntN_keeps B (wk.bit (by decide)) H9)
    clear_value v13
    split
    · rename_i a15 a16 a17 e18
      have H19 := keep_fst e18 (Hub.admitTargets_keeps B (wk.sub (by decide)) H14)
      split
      · rename_i e20
        exact (keep_p1 (Hub.refuseAll_keeps B (wk.sub (by decide)) H19))
      · rename_i e21
        split
        · rename_i e22
          exact (keep_p1 (Hub.refuseAll_keeps B (wk.sub (by decide)) (Hub.raise_keeps B (wk.sub (by decide)) (Hub.cnt_keeps B (wk.bit (by decide)) H19))))
        · rename_i e23
          split
          · rename_i e24
            exact (keep_p1 (Hub.refuseAll_keeps B (wk.sub (by decide)) (Hub.raise_keeps B (wk.sub (by decide)) (Hub.cnt_keeps B (wk.bit (by decide)) H19))))
          · rename_i e25
            extract_lets +onlyGivenNames v26
            clear_value v26
            extract_lets +onlyGivenNames v27
            clear_value v27
            extract_lets +onlyGivenNames v28
            clear_value v28
            split
            · rename_i a29 a30 a31 e32
              have H33 := keep_snd e32 (Hub.free_keeps B (wk.sub (by decide)) H19)
              extract_lets +onlyGivenNames v34
              clear_value v34
              extract_lets +onlyGivenNames v35
              have H36 : P v35 := (B.wr (wk.bit (by decide)) (B.wr (wk.bit (by decide)) (Hub.setPkt_keeps B (wk.sub (by decide)) (B.pktNext (wk.bit (by decide)) H33))))
              clear_value v35
              extract_lets +onlyGivenNames v37
              have H38 : P v37 := (keep_when (fun _ H40 => (Hub.cnt_keeps B (wk.bit (by decide)) H40)) H36)
              clear_value v37
              extract_lets +onlyGivenNames v41
              have H42 : P v41 := (keep_when (fun _ H44 => (B.wr (wk.bit (by decide)) (Hub.cntN_keeps B (wk.bit (by decide)) (Hub.cntN_keeps B (wk.bit (by decide)) (Hub.cnt_keeps B (wk.bit (by decide)) H44))))) H38)
              clear_value v41
              extract_lets +onlyGivenNames v45
              have H46 : P v45 := (Hub.meterCharge_keeps B (wk.sub (by decide)) (Hub.writeCell_keeps B (wk.sub (by decide)) (B.wr (wk.bit (by decide)) H42)))
              clear_value v45
              extract_lets +onlyGivenNames v47
              have H48 : P v47 := (keep_each (fun _ _ H51 => (Hub.setQueue_keeps B (wk.sub (by decide)) H51)) H46)
              clear_value v47
              exact (keep_p1 (keep_ite (Hub.completePkt_keeps B (wk.sub (by decide)) H48) H48))

theorem Hub.silence_keeps {km : Nat} (B : Hub.Bears km P) (wk : Sub 0x8000000000000004000000000000000000000000000000000000300000000010000000000000000 km) {h : Hub} {ctx : ℕ} {pathB : Bool} (Hh : P h) : P (Hub.silence h ctx pathB) := by
  unfold Hub.silence
  extract_lets +onlyGivenNames v1
  have H2 : P v1 := (Hub.irq_keeps B (wk.sub (by decide)) (B.wr (kind_ite (wk.bit (by decide)) (wk.bit (by decide))) Hh))
  clear_value v1
  extract_lets +onlyGivenNames v3
  have H4 : P v3 := (keep_when (fun _ H6 => (B.wr (wk.bit (by decide)) (B.wr (wk.bit (by decide)) H6))) H2)
  clear_value v3
  exact (Hub.linkEvent_keeps B (wk.sub (by decide)) H4)

theorem Hub.pathDelivers_keeps {km : Nat} (B : Hub.Bears km P) (wk : Sub 0x8000000000000004000000000000000000000000000000000000300000000010000000000000000 km) {h : Hub} {ctx : ℕ} {pathB : Bool} (Hh : P h) : P (Hub.pathDelivers h ctx pathB) := by
  unfold Hub.pathDelivers
  extract_lets +onlyGivenNames v1
  have H2 : P v1 := (Hub.wrBit_keeps B (wk.bit (by decide)) (Hub.wrBit_keeps B (wk.bit (by decide)) (B.wr (kind_ite (wk.bit (by decide)) (wk.bit (by decide))) Hh)))
  clear_value v1
  exact (keep_when (fun _ H4 => (Hub.silence_keeps B (wk.sub (by decide)) H4)) H2)

theorem Hub.mergeSop_keeps {km : Nat} (B : Hub.Bears km P) (wk : Sub 0xa800000000000004000000000000000000000000000000000010300000000010000000000000400 km) {h : Hub} {pt : ℕ} {ctx : ℕ} {c : Cell} (Hh : P h) : P (Hub.mergeSop h pt ctx c).1 := by
  unfold Hub.mergeSop
  extract_lets +onlyGivenNames v1
  clear_value v1
  extract_lets +onlyGivenNames v2
  clear_value v2
  split
  · rename_i e3
    exact (keep_p1 (Hub.cnt_keeps B (wk.bit (by decide)) (Hub.raise_keeps B (wk.sub (by decide)) Hh)))
  · rename_i e4
    split
    · rename_i e5
      exact (keep_p1 (Hub.cnt_keeps B (wk.bit (by decide)) Hh))
    · rename_i e6
      split
      · rename_i e7
        exact (keep_p1 (Hub.cnt_keeps B (wk.bit (by decide)) Hh))
      · rename_i e8
        extract_lets +onlyGivenNames v9
        clear_value v9
        extract_lets +onlyGivenNames v10
        have H11 : P v10 := (Hub.pathDelivers_keeps B (wk.sub (by decide)) Hh)
        clear_value v10
        split
        · rename_i e12
          exact (keep_p1 (B.wr (wk.bit (by decide)) H11))
        · rename_i e13
          exact (keep_p1 (Hub.cnt_keeps B (wk.bit (by decide)) H11))

theorem Hub.copyDrop_keeps {km : Nat} (B : Hub.Bears km P) (wk : Sub 0x200000000000000000000000000 km) {h : Hub} {c : Option Copy} (Hh : P h) : P (Hub.copyDrop h c) := by
  unfold Hub.copyDrop
  split
  · rename_i a1 a2
    exact (B.wr (wk.bit (by decide)) Hh)
  · rename_i a3
    exact Hh

theorem Hub.countCell_keeps {km : Nat} (B : Hub.Bears km P) (wk : Sub 0x8000000000000000000000000000000000000000000000000000000000000000000000000000 km) {h : Hub} {o : OpenPk} (Hh : P h) : P (Hub.countCell h o) := by
  unfold Hub.countCell
  split
  · rename_i a1 a2 e3
    exact (Hub.setTword_keeps B (wk.sub (by decide)) Hh)
  · rename_i a4 e5
    exact Hh

theorem Hub.copyEop_keeps {km : Nat} (B : Hub.Bears km P) (wk : Sub 0x200000000000000000000000000 km) {h : Hub} {o : OpenPk} {poison : Bool} (Hh : P h) : P (Hub.copyEop h o poison) := by
  unfold Hub.copyEop
  split
  · rename_i a1 e2
    exact Hh
  · rename_i a3 a4 e5
    extract_lets +onlyGivenNames v6
    clear_value v6
    exact (Hub.copyEnd_keeps B (wk.sub (by decide)) Hh)

theorem Hub.sopCell_keeps {km : Nat} (B : Hub.Bears km P) (wk : Sub 0x5fa80800000000000400000000000000000000000000000000001030100010b030000000000000404 km) {h : Hub} {pt : ℕ} {par : Bool} {c : Cell} (Hh : P h) : P (Hub.sopCell h pt par c) := by
  unfold Hub.sopCell
  extract_lets +onlyGivenNames v1
  clear_value v1
  split
  · rename_i a2 a3 a4 e5
    have H6 := keep_fst e5 (Hub.lookup_keeps B (wk.sub (by decide)) Hh)
    split
    · rename_i a7 a8 a9 a10 e11
      have H12 := keep_fst e11 (by
          split
          · rename_i a13
            exact (keep_p1 H6)
          · rename_i a14 a15
            split
            · rename_i a16 e17
              split
              · rename_i a18 a19 a20 e21
                have H22 := keep_fst e21 (Hub.takeIn_keeps B (wk.sub (by decide)) H6)
                exact (keep_p1 H22)
            · rename_i a23 a24 e25
              split
              · rename_i a26 a27 e28
                have H29 := keep_fst e28 (Hub.mergeSop_keeps B (wk.sub (by decide)) H6)
                exact (keep_p1 H29)
              · rename_i a30 a31 a32 e33
                have H34 := keep_fst e33 (Hub.mergeSop_keeps B (wk.sub (by decide)) H6)
                split
                · rename_i a35 a36 a37 e38
                  have H39 := keep_fst e38 (Hub.takeIn_keeps B (wk.sub (by decide)) H34)
                  exact (keep_p1 H39)
                · rename_i a40 a41 e42
                  have H43 := keep_fst e42 (Hub.takeIn_keeps B (wk.sub (by decide)) H34)
                  exact (keep_p1 (Hub.copyDrop_keeps B (wk.sub (by decide)) H43)))
      extract_lets +onlyGivenNames v44
      clear_value v44
      extract_lets +onlyGivenNames v45
      have H46 : P v45 := (Hub.countCell_keeps B (wk.sub (by decide)) H12)
      clear_value v45
      exact (keep_ite (Hub.copyEop_keeps B (wk.sub (by decide)) H46) (B.opens (wk.bit (by decide)) H46))

theorem Hub.nextCell_keeps {km : Nat} (B : Hub.Bears km P) (wk : Sub 0x5b280800000000000400000000000000000000000000000000001020100010b010000000000000404 km) {h : Hub} {k : ℕ} {par : Bool} {c : Cell} {o : OpenPk} (Hh : P h) : P (Hub.nextCell h k par c o) := by
  unfold Hub.nextCell
  extract_lets +onlyGivenNames v1
  clear_value v1
  extract_lets +onlyGivenNames v2
  clear_value v2
  extract_lets +onlyGivenNames v3
  have H4 : P v3 := (keep_ite (Hub.raise_keeps B (wk.sub (by decide)) (Hub.cnt_keeps B (wk.bit (by decide)) Hh)) Hh)
  clear_value v3
  extract_lets +onlyGivenNames v5
  have H6 : P v5 := (Hub.countCell_keeps B (wk.sub (by decide)) H4)
  clear_value v5
  extract_lets +onlyGivenNames v7
  clear_value v7
  extract_lets +onlyGivenNames v8
  clear_value v8
  extract_lets +onlyGivenNames v9
  clear_value v9
  extract_lets +onlyGivenNames v10
  clear_value v10
  extract_lets +onlyGivenNames v11
  clear_value v11
  extract_lets +onlyGivenNames v12
  have H13 : P v12 := (by
      unfold v12
      split
      · rename_i a14 a15 a16 a17 e18
        refine keep_ite ?_ ?_
        · exact (Hub.endEarly_keeps B (wk.sub (by decide)) (Hub.raise_keeps B (wk.sub (by decide)) (Hub.cnt_keeps B (wk.bit (by decide)) H6)))
        · extract_lets +onlyGivenNames v19
          have H20 : P v19 := (keep_when (fun _ H22 => (Hub.poisonPkt_keeps B (wk.sub (by decide)) H22)) H6)
          clear_value v19
          extract_lets +onlyGivenNames v23
          have H24 : P v23 := (keep_when (fun _ H26 => (Hub.setPkt_keeps B (wk.sub (by decide)) H26)) H20)
          clear_value v23
          extract_lets +onlyGivenNames v27
          have H28 : P v27 := (Hub.meterCharge_keeps B (wk.sub (by decide)) (Hub.writeCell_keeps B (wk.sub (by decide)) H24))
          clear_value v27
          exact (keep_ite (Hub.completePkt_keeps B (wk.sub (by decide)) H28) H28)
      · rename_i a29 a30 a31 e32
        exact H6)
  clear_value v12
  extract_lets +onlyGivenNames v33
  have H34 : P v33 := (keep_ite (Hub.copyEop_keeps B (wk.sub (by decide)) H13) H13)
  clear_value v33
  extract_lets +onlyGivenNames v35
  clear_value v35
  exact (B.opens (wk.bit (by decide)) H34)

theorem Hub.cellIn_keeps {km : Nat} (B : Hub.Bears km P) (wk : Sub 0x5fa80800000000000400000000000000000000000000000000001030100010b030000000000000404 km) {h : Hub} {pt : ℕ} {parityErr : Bool} {c : Cell} (Hh : P h) : P (Hub.cellIn h pt parityErr c) := by
  unfold Hub.cellIn
  extract_lets +onlyGivenNames v1
  clear_value v1
  extract_lets +onlyGivenNames v2
  clear_value v2
  extract_lets +onlyGivenNames v3
  have H4 : P v3 := (keep_when (fun _ H6 => (Hub.raise_keeps B (wk.sub (by decide)) (Hub.wrBit_keeps B (wk.bit (by decide)) H6))) Hh)
  clear_value v3
  extract_lets +onlyGivenNames v7
  clear_value v7
  extract_lets +onlyGivenNames v8
  clear_value v8
  extract_lets +onlyGivenNames v9
  clear_value v9
  refine keep_ite ?_ ?_
  · exact (keep_when (fun _ H11 => (Hub.closeOpen_keeps B (wk.sub (by decide)) H11)) (Hub.raise_keeps B (wk.sub (by decide)) (Hub.cnt_keeps B (wk.bit (by decide)) H4)))
  · split
    · rename_i a12
      exact (Hub.sopCell_keeps B (wk.sub (by decide)) H4)
    · rename_i a13 a14
      refine keep_ite ?_ ?_
      · exact (keep_ite (Hub.sopCell_keeps B (wk.sub (by decide)) (B.opens (wk.bit (by decide)) H4)) H4)
      · refine keep_ite ?_ ?_
        · extract_lets +onlyGivenNames v15
          have H16 : P v15 := (Hub.closeOpen_keeps B (wk.sub (by decide)) (Hub.cnt_keeps B (wk.bit (by decide)) H4))
          clear_value v15
          exact (keep_ite (Hub.sopCell_keeps B (wk.sub (by decide)) H16) H16)
        · exact (Hub.nextCell_keeps B (wk.sub (by decide)) H4)

theorem Hub.choose_keeps {km : Nat} (B : Hub.Bears km P) (wk : Sub 0x100000000000000000000 km) {h : Hub} {e : ℕ} {cs : List Head} (Hh : P h) : P (Hub.choose h e cs).1 := by
  unfold Hub.choose
  split
  · rename_i a1 a2 e3
    exact (keep_p1 Hh)
  · rename_i a4 e5
    split
    · rename_i a6 a7 e8
      exact (keep_p1 Hh)
    · rename_i a9 e10
      split
      · rename_i a11 a12 e13
        exact (keep_p1 Hh)
      · rename_i a14 e15
        extract_lets +onlyGivenNames v16
        clear_value v16
        extract_lets +onlyGivenNames v17
        clear_value v17
        extract_lets +onlyGivenNames v18
        have H19 : P v18 := (Hub.addRounds_keeps B (wk.sub (by decide)) Hh)
        clear_value v18
        exact (keep_p1 H19)

theorem Hub.claspRetry_keeps {km : Nat} (B : Hub.Bears km P) (wk : Sub 0x40000040800280200000000000c000001000000101010100000000000000010000000000000000000100010402 km) {h : Hub} {n : ℕ} (Hh : P h) : P (Hub.claspRetry h n) := by
  unfold Hub.claspRetry
  split
  · rename_i a1 a2 e3
    refine keep_ite ?_ ?_
    · exact Hh
    · refine keep_ite ?_ ?_
      · exact (keep_when (fun _ H5 => (Hub.cnt_keeps B (wk.bit (by decide)) (Hub.lmcSend_keeps B (wk.sub (by decide)) H5))) (B.claspAsk (wk.bit (by decide)) Hh))
      · extract_lets +onlyGivenNames v6
        have H7 : P v6 := (Hub.raise_keeps B (wk.sub (by decide)) (Hub.cnt_keeps B (wk.bit (by decide)) (Hub.unask_keeps B (wk.sub (by decide)) Hh)))
        clear_value v6
        split
        · rename_i a8 e9
          exact (B.wr (wk.bit (by decide)) H7)
        · rename_i a10 e11
          exact (Hub.claspHardReset_keeps B (wk.sub (by decide)) H7)
        · rename_i a12 e13 e14
          exact H7
  · rename_i a15 e16
    exact (keep_when (fun _ H18 => (Hub.renegotiate_keeps B (wk.sub (by decide)) (B.wr (wk.bit (by decide)) H18))) Hh)

theorem Hub.claspTrip_keeps {km : Nat} (B : Hub.Bears km P) (wk : Sub 0x400000000002800000000000004000000000000101010100000000000000010000000000000000000000000400 km) {h : Hub} {n : ℕ} {c : TripCause} (Hh : P h) : P (Hub.claspTrip h n c) := by
  unfold Hub.claspTrip
  extract_lets +onlyGivenNames v1
  have H2 : P v1 := (Hub.claspMeasure_keeps B (wk.sub (by decide)) Hh)
  clear_value v1
  extract_lets +onlyGivenNames v3
  clear_value v3
  exact (Hub.raise_keeps B (wk.sub (by decide)) (Hub.cnt_keeps B (wk.bit (by decide)) (Hub.openClp_keeps B (wk.sub (by decide)) H2)))

theorem Hub.clearConfig_keeps {km : Nat} (B : Hub.Bears km P) (wk : Sub 0x200000000000000000000000000000000 km) {h : Hub} (Hh : P h) : P (Hub.clearConfig h) := by
  unfold Hub.clearConfig
  exact (keep_each (fun _ _ H3 => (keep_ite (B.wr (wk.bitAt (kind_word_PCI_MSIX_TABLE _) (by decide)) H3) (B.wr (wk.bitAt (kind_word_PCI_MSIX_PBA _) (by decide)) H3))) (B.wr (wk.bit (by decide)) (B.wr (wk.bit (by decide)) Hh)))

theorem Hub.clearTables_keeps {km : Nat} (B : Hub.Bears km P) (wk : Sub 0x8000000000000000000000000000000000000000000000000000000000000000000000000000 km) {h : Hub} {d : Nat} (Hh : P h) : P (h.clearTables d) := by
  unfold Hub.clearTables
  exact keep_foldl (fun _ _ H => B.tab (wk.bit (by decide)) H fun W => Tab.wipe_wf _ _ _ W) Hh

theorem Hub.clearDomain_keeps {km : Nat} (B : Hub.Bears km P) (wk : Sub 0x1ff875c3dffbfffbb97a00000000000c00000000000010101010007000001010021000000010b030000000100001d1e km) {h : Hub} {d : Nat} (Hh : P h) : P (h.clearDomain d) := by
  unfold Hub.clearDomain
  extract_lets +onlyGivenNames h1 h2 h3 h4 h5 h6 h7
  have H1 : P h1 := Hub.clearRegs_keeps B (wk.sub (by decide)) Hh
  clear_value h1
  have H2 : P h2 := (B.set_shadow_staging (wk.bit (by decide)) (wk.bit (by decide)) H1)
  clear_value h2
  have H3 : P h3 := keep_each (fun _ _ H => Hub.dropLists_keeps B (wk.sub (by decide)) H) (Hub.clearTables_keeps B (wk.sub (by decide)) H2)
  clear_value h3
  have H4 : P h4 := keep_ite (B.set_opens_queues_pkts_egOut_asks_txbOut (wk.bit (by decide)) (wk.bit (by decide)) (wk.bit (by decide)) (wk.bit (by decide)) (wk.bit (by decide)) (wk.bit (by decide)) H3) H3
  clear_value h4
  have H5 : P h5 := keep_ite (B.set_tabLatch_latch64_lkQueue_ctlOut_telOut (wk.bit (by decide)) (wk.bit (by decide)) (wk.bit (by decide)) (wk.bit (by decide)) (wk.bit (by decide)) H4) H4
  clear_value h5
  have H6 : P h6 := keep_ite (B.root (wk.bit (by decide)) H5) (keep_ite (B.fmem (wk.bit (by decide)) H5 fun _ => Tab.nil_wf 0) H5)
  clear_value h6
  have H7 : P h7 := B.set_stalled_usbOut (wk.bit (by decide)) (wk.bit (by decide)) H6
  clear_value h7
  exact keep_each (fun _ _ H => Hub.afterReset_keeps B (wk.sub (by decide)) H) H7

theorem Hub.inForce_keeps {km : Nat} (B : Hub.Bears km P) (wk : Sub 0x4000000000000101010100000000000000000000000000000000000000000000 km) {h : Hub} {n : ℕ} {icur : ℕ} {ilim : ℕ} (Hh : P h) : P (Hub.inForce h n icur ilim) := by
  unfold Hub.inForce
  exact (Hub.setClp_keeps B (wk.sub (by decide)) (Hub.irq_keeps B (wk.sub (by decide)) (B.wr (wk.bit (by decide)) (B.wr (wk.bit (by decide)) (B.wr (wk.bit (by decide)) (B.wr (wk.bit (by decide)) (B.wr (wk.bit (by decide)) Hh)))))))

theorem Hub.sourceReady_keeps {km : Nat} (B : Hub.Bears km P) (wk : Sub 0x40000040800280200000000000c000001000000101010100000000000000010000000000000000000100010402 km) {h : Hub} {n : ℕ} (Hh : P h) : P (Hub.sourceReady h n) := by
  unfold Hub.sourceReady
  extract_lets +onlyGivenNames v1
  clear_value v1
  exact (Hub.claspRequest_keeps B (wk.sub (by decide)) (Hub.inForce_keeps B (wk.sub (by decide)) Hh))

theorem Hub.closure_keeps {km : Nat} (B : Hub.Bears km P) (wk : Sub 0x40000040800280200000000000c000001000000101010100000000000000010000000000000000000100010402 km) {h : Hub} {n : ℕ} (Hh : P h) : P (Hub.closure h n) := by
  unfold Hub.closure
  extract_lets +onlyGivenNames v1
  clear_value v1
  split
  · rename_i a2 e3
    extract_lets +onlyGivenNames v4
    have H5 : P v4 := (Hub.setSw_keeps B (wk.sub (by decide)) Hh)
    clear_value v4
    refine keep_ite ?_ ?_
    · exact (Hub.claspRequest_keeps B (wk.sub (by decide)) (Hub.refreshBus_keeps B (wk.sub (by decide)) (B.wr (wk.bit (by decide)) (B.wr (wk.bit (by decide)) H5))))
    · exact (keep_ite (Hub.sourceReady_keeps B (wk.sub (by decide)) H5) (Hub.refreshBus_keeps B (wk.sub (by decide)) H5))
  · rename_i a6 e7
    extract_lets +onlyGivenNames v8
    have H9 : P v8 := (Hub.refreshBus_keeps B (wk.sub (by decide)) (Hub.setSw_keeps B (wk.sub (by decide)) Hh))
    clear_value v8
    exact (keep_ite (Hub.claspRequest_keeps B (wk.sub (by decide)) (Hub.refreshBus_keeps B (wk.sub (by decide)) (B.wr (wk.bit (by decide)) H9))) H9)
  · rename_i a10 e11 e12
    exact (keep_when (fun _ H14 => (Hub.setClp_keeps B (wk.sub (by decide)) (B.wr (wk.bit (by decide)) (Hub.setSw_keeps B (wk.sub (by decide)) H14)))) Hh)

theorem Hub.schCommit_keeps {km : Nat} (B : Hub.Bears km P) (wk : Sub 0x400002000000000008000001000000000000000000000000000000000000100000000000000000000 km) {h : Hub} {e : ℕ} (Hh : P h) : P (Hub.schCommit h e) := by
  unfold Hub.schCommit
  refine keep_ite ?_ ?_
  · extract_lets +onlyGivenNames v1
    have H2 : P v1 := (keep_each (fun _ _ H5 => (Hub.shaperSet_keeps B (wk.sub (by decide)) H5)) Hh)
    clear_value v1
    extract_lets +onlyGivenNames v6
    have H7 : P v6 := (Hub.commitPage_keeps B (wk.sub (by decide)) H2)
    clear_value v6
    exact (keep_each (fun _ _ H10 => (by
      extract_lets +onlyGivenNames v11
      have H12 : P v11 := (keep_when (fun _ H14 => (B.wr (wk.bit (by decide)) H14)) H10)
      clear_value v11
      exact (keep_ite (Hub.shaperSet_keeps B (wk.sub (by decide)) H12) (Hub.shaperSet_keeps B (wk.sub (by decide)) H12)))) H7)
  · exact Hh

theorem Hub.headCommit_keeps {km : Nat} (B : Hub.Bears km P) (wk : Sub 0x280a00000000000c000001000000000000000000000000000830000000000000000000000000402 km) {n : ℕ} {h : Hub} (Hh : P h) : P (Hub.headCommit n h) := by
  unfold Hub.headCommit
  extract_lets +onlyGivenNames v1
  clear_value v1
  refine keep_ite ?_ ?_
  · exact Hh
  · extract_lets +onlyGivenNames v2
    clear_value v2
    extract_lets +onlyGivenNames v3
    clear_value v3
    refine keep_ite ?_ ?_
    · exact (Hub.refuseMode_keeps B (wk.sub (by decide)) (Hub.dropShadow_keeps B (wk.sub (by decide)) Hh))
    · extract_lets +onlyGivenNames v4
      clear_value v4
      extract_lets +onlyGivenNames v5
      have H6 : P v5 := (Hub.refreshBudget_keeps B (wk.sub (by decide)) (Hub.commitPage_keeps B (wk.sub (by decide)) Hh))
      clear_value v5
      extract_lets +onlyGivenNames v7
      have H8 : P v7 := (keep_when (fun _ H10 => (Hub.releaseHead_keeps B (wk.sub (by decide)) H10)) H6)
      clear_value v7
      exact (keep_ite (Hub.setHead_keeps B (wk.sub (by decide)) H8) H8)

theorem Hub.commitAt_keeps {km : Nat} (B : Hub.Bears km P) (wk : Sub 0x40280a00000000000c000001000000000000000000000000000830000000100000000000000000402 km) {h : Hub} {pg : ℕ} (Hh : P h) : P (Hub.commitAt h pg) := by
  unfold Hub.commitAt
  refine keep_ite ?_ ?_
  · exact Hh
  · refine keep_ite ?_ ?_
    · exact (keep_when (fun _ H2 => (Hub.schCommit_keeps B (wk.sub (by decide)) H2)) Hh)
    · refine keep_ite ?_ ?_
      · exact (keep_when (fun _ H4 => (Hub.headCommit_keeps B (wk.sub (by decide)) H4)) Hh)
      · exact (keep_ite Hh (Hub.commitPage_keeps B (wk.sub (by decide)) Hh))

theorem Hub.corrected_keeps {km : Nat} (B : Hub.Bears km P) (wk : Sub 0x1000000000000000000 km) {num : ℕ} {h : Hub} (Hh : P h) : P (Hub.corrected num h) := by
  unfold Hub.corrected
  exact (B.wr (wk.bit (by decide)) (Hub.cnt_keeps B (wk.bit (by decide)) Hh))

theorem Hub.grantSend_keeps {km : Nat} (B : Hub.Bears km P) (wk : Sub 0x8000000000000000000000000000000000000000000000000000000000000000000000000000000000 km) {p : ℕ} {h : Hub} (Hh : P h) : P (Hub.grantSend p h) := by
  unfold Hub.grantSend
  split
  · rename_i a1 a2 e3
    exact (Hub.lmcSend_keeps B (wk.sub (by decide)) Hh)
  · rename_i a4 e5
    exact Hh

theorem Hub.reroute_keeps {km : Nat} (B : Hub.Bears km P) (wk : Sub 0x8000000000000000000000000000000000000000000000000000000000020000000000000000 km) {h : Hub} {f : ℕ → Hub → Hub} (Hh : P h) (Hf : ∀ a0 a1, P a1 → P (f a0 a1)) : P (Hub.reroute h f) := by
  unfold Hub.reroute
  extract_lets +onlyGivenNames v1
  clear_value v1
  exact (B.wr (wk.bit (by decide)) (Hf _ _ (Hub.carryRoutes_keeps B (wk.sub (by decide)) Hh)))

theorem Hub.lateChild_keeps {km : Nat} (B : Hub.Bears km P) (wk : Sub 0x2800a808000000000004000000000000000000000000000000000010100000000030000000000000400 km) {h : Hub} {p : ℕ} {n : ℕ} (Hh : P h) : P (Hub.lateChild h p n) := by
  unfold Hub.lateChild
  extract_lets +onlyGivenNames v1
  clear_value v1
  split
  · rename_i a2 a3 a4 e5
    refine keep_ite ?_ ?_
    · exact (Hub.grantSend_keeps B (wk.sub (by decide)) Hh)
    · refine keep_ite ?_ ?_
      · extract_lets +onlyGivenNames v6
        clear_value v6
        extract_lets +onlyGivenNames v7
        have H8 : P v7 := (B.wr (wk.bit (by decide)) (B.wr (wk.bit (by decide)) (B.wr (wk.bit (by decide)) (B.granted (wk.bit (by decide)) Hh))))
        clear_value v7
        exact (Hub.grantSend_keeps B (wk.sub (by decide)) (Hub.reroute_keeps B (wk.sub (by decide)) H8 (fun _ _ H11 => (Hub.blockRoutes_keeps B (wk.sub (by decide)) H11))))
      · exact (Hub.linkEvent_keeps B (wk.sub (by decide)) (Hub.raise_keeps B (wk.sub (by decide)) Hh))

theorem Hub.nodeReadySend_keeps {km : Nat} (B : Hub.Bears km P) (wk : Sub 0x8000000000000000000000000000000000000000000000000000000000000010000000000000000 km) {h : Hub} (Hh : P h) : P (Hub.nodeReadySend h) := by
  unfold Hub.nodeReadySend
  extract_lets +onlyGivenNames v1
  clear_value v1
  extract_lets +onlyGivenNames v2
  clear_value v2
  exact (Hub.toCrowns_keeps B (wk.sub (by decide)) Hh)

theorem Hub.takeBlock_keeps {km : Nat} (B : Hub.Bears km P) (wk : Sub 0x2800a808000000000004000400000000000000000000000000000010102000000030000000000000400 km) {h : Hub} {first size : Nat} (Hh : P h) : P (h.takeBlock first size) := by
  unfold Hub.takeBlock
  extract_lets +onlyGivenNames spare h1
  have H1 : P h1 := B.wr (wk.bit (by decide)) (B.wr (wk.bit (by decide)) (B.wr (wk.bit (by decide)) (B.wr (wk.bit (by decide)) (B.wr (wk.bit (by decide)) (Hub.setNodeId_keeps B (wk.sub (by decide)) Hh)))))
  clear_value h1
  extract_lets +onlyGivenNames h2
  have H2 : P h2 := keep_when (fun _ H => Hub.setCrown_keeps B (wk.sub (by decide)) H) H1
  clear_value h2
  extract_lets +onlyGivenNames blocks h3
  have A : P { h2 with tab := Tab.wipe (0x440000 / 4) (0x460000 / 4) h2.tab } := B.tab (wk.bit (by decide)) H2 fun W => Tab.wipe_wf _ _ _ W
  have H3 : P h3 := (B.granted (wk.bit (by decide)) A)
  clear_value h3
  extract_lets +onlyGivenNames g h4
  have H4 : P h4 := B.wr (wk.bit (by decide)) (keep_each (fun _ _ H => Hub.blockRoutes_keeps B (wk.sub (by decide)) H) H3)
  clear_value h4
  extract_lets +onlyGivenNames h5
  have H5 : P h5 := keep_each (fun _ _ H => B.wr (wk.bit (by decide)) H) (Hub.refreshTier_keeps B (wk.sub (by decide)) (Hub.writeUplink_keeps B (wk.sub (by decide)) H4))
  clear_value h5
  exact Hub.nodeReadySend_keeps B (wk.sub (by decide)) (keep_each (fun _ _ H => Hub.nbrSend_keeps B (wk.sub (by decide)) H) (keep_each (fun _ _ H => Hub.grantSend_keeps B (wk.sub (by decide)) H) H5))

theorem Hub.crownGrant_keeps {km : Nat} (B : Hub.Bears km P) (wk : Sub 0x2800a808000000000004000400000000000000000000000000000010102000000030000000000000400 km) {h : Hub} (Hh : P h) : P (Hub.crownGrant h) := by
  unfold Hub.crownGrant
  extract_lets +onlyGivenNames v1
  clear_value v1
  refine keep_ite ?_ ?_
  · exact Hh
  · exact (keep_ite (Hub.takeBlock_keeps B (wk.sub (by decide)) Hh) (Hub.raise_keeps B (wk.sub (by decide)) (B.wr (wk.bit (by decide)) Hh)))

theorem Hub.countIn_keeps {km : Nat} (B : Hub.Bears km P) (wk : Sub 0x2800a808000000000004000400000000000000000000000000000010102000000030000000000000400 km) {h : Hub} {p : ℕ} {n : ℕ} (Hh : P h) : P (Hub.countIn h p n) := by
  unfold Hub.countIn
  extract_lets +onlyGivenNames v1
  have H2 : P v1 := (B.wr (wk.bit (by decide)) (B.wr (wk.bit (by decide)) Hh))
  clear_value v1
  refine keep_ite ?_ ?_
  · exact (Hub.lateChild_keeps B (wk.sub (by decide)) H2)
  · exact (keep_ite (Hub.crownGrant_keeps B (wk.sub (by decide)) H2) (Hub.recount_keeps B (wk.sub (by decide)) H2))

theorem Hub.countSent_keeps {km : Nat} (B : Hub.Bears km P) (wk : Sub 0x100000000000000000000 km) {e : ℕ} {x : OutCell} {h : Hub} (Hh : P h) : P (Hub.countSent e x h) := by
  unfold Hub.countSent
  exact (keep_when (fun _ H2 => (Hub.cnt_keeps B (wk.bit (by decide)) H2)) (Hub.cnt_keeps B (kind_ite (wk.bit (by decide)) (kind_ite (wk.bit (by decide)) (wk.bit (by decide)))) (Hub.cnt_keeps B (wk.bit (by decide)) Hh)))

theorem Hub.stray_keeps {km : Nat} (B : Hub.Bears km P) (wk : Sub 0x2800000000000004000000000000000000000040000000000010000000000000000000000000400 km) {h : Hub} (Hh : P h) : P (Hub.stray h) := by
  unfold Hub.stray
  exact (Hub.raise_keeps B (wk.sub (by decide)) (Hub.cnt_keeps B (wk.bit (by decide)) Hh))

theorem Hub.ringsGo_keeps {km : Nat} (B : Hub.Bears km P) (wk : Sub 0xc0000000000808000000000004000000000000000000000040000000000000000000000000000000000000000 km) {h : Hub} (Hh : P h) : P (Hub.ringsGo h) := by
  unfold Hub.ringsGo
  exact (keep_each (fun _ _ H3 => (Hub.ringSend_keeps B (wk.sub (by decide)) H3)) Hh)

theorem Hub.cplIn_keeps {km : Nat} (B : Hub.Bears km P) (wk : Sub 0xc0000000002808000000000004000000000000000000000040000000000010000000000000000000000000400 km) {h : Hub} {tid : ℕ} {c : UsbCpl} {data : Bytes} (Hh : P h) : P (Hub.cplIn h tid c data) := by
  unfold Hub.cplIn
  refine keep_ite ?_ ?_
  · exact (Hub.stray_keeps B (wk.sub (by decide)) Hh)
  · split
    · rename_i a1 e2
      exact Hh
    · rename_i a3 a4 e5
      extract_lets +onlyGivenNames v6
      clear_value v6
      extract_lets +onlyGivenNames v7
      clear_value v7
      extract_lets +onlyGivenNames v8
      clear_value v8
      extract_lets +onlyGivenNames v9
      have H10 : P v9 := (keep_when (fun _ H12 => (Hub.setTwords_keeps B (wk.sub (by decide)) H12)) Hh)
      clear_value v9
      extract_lets +onlyGivenNames v13
      have H14 : P v13 := (B.usbFly (wk.bit (by decide)) H10)
      clear_value v13
      exact (Hub.ringsGo_keeps B (wk.sub (by decide)) (Hub.refreshHeld_keeps B (wk.sub (by decide)) (Hub.cnt_keeps B (wk.bit (by decide)) (Hub.descDone_keeps B (wk.sub (by decide)) (Hub.dec_keeps B (wk.bit (by decide)) H14)))))

theorem Hub.cpldIn_keeps {km : Nat} (B : Hub.Bears km P) (wk : Sub 0x3e0000000000000000000000000000000000000000000000000000300000000000000000000000000000000 km) {h : Hub} {tid : ℕ} {c : TxbHdr} {data : Bytes} (Hh : P h) : P (Hub.cpldIn h tid c data) := by
  unfold Hub.cpldIn
  split
  · rename_i a1 e2
    exact (Hub.cnt_keeps B (wk.bit (by decide)) Hh)
  · rename_i a3 a4 e5
    refine keep_ite ?_ ?_
    · exact (Hub.abortTag_keeps B (wk.sub (by decide)) Hh)
    · extract_lets +onlyGivenNames v6
      clear_value v6
      extract_lets +onlyGivenNames v7
      clear_value v7
      extract_lets +onlyGivenNames v8
      have H9 : P v8 := (by
          unfold v8
          split
          · rename_i a10 a11 e12
            exact (B.reads (wk.bit (by decide)) Hh)
          · rename_i a13 e14
            exact Hh)
      clear_value v8
      exact (keep_ite (Hub.endTag_keeps B (wk.sub (by decide)) H9) (B.tags (wk.bit (by decide)) H9))

end Sys2Proof.Machine
end

