-- ==== Sys2Proof/Laws/KeepsD.lean ====
section
/-! SUPPORT. What each operation and each command keeps (part 4 of 6): one lemma per operation, which names the kinds of state
that it may change, as the bits of a number (Laws/Keep.lean). Each follows the shape of the operation's definition. -/

set_option linter.unusedVariables false

namespace Sys2Proof.Machine

open Sys2Proof

variable {P : Hub → Prop}

theorem Hub.creditIn_keeps {km : Nat} (B : Hub.Bears km P) (wk : Sub 0x10000 km) {h : Hub} {p : ℕ} {v : ℕ} (Hh : P h) : P (Hub.creditIn h p v) := by
  unfold Hub.creditIn
  extract_lets +onlyGivenNames v1
  clear_value v1
  extract_lets +onlyGivenNames v2
  clear_value v2
  extract_lets +onlyGivenNames v3
  clear_value v3
  exact (B.wr (wk.bitAt (credFld_kind _) (by decide)) (B.wr (wk.bit (by decide)) Hh))

theorem Hub.crownWork_keeps {km : Nat} (B : Hub.Bears km P) (wk : Sub 0x1808800000000000000000000000000000000000000000000000000100000000010000000000000000 km) {h : Hub} (Hh : P h) : P (Hub.crownWork h) := by
  unfold Hub.crownWork
  exact (keep_when (fun _ H2 => (Hub.carryOut_keeps B (wk.sub (by decide)) (B.freeIx (wk.bit (by decide)) H2))) Hh)

theorem Hub.crtAnswer_keeps {km : Nat} (B : Hub.Bears km P) (wk : Sub 0xa800000000000004000000000000000000000000000000000010002000000000000000000000400 km) {h : Hub} {src : ℕ} {tok : ℕ} {typ : ℕ} {tid : ℕ} {txn : ℕ} {a : CrtAns} (Hh : P h) : P (Hub.crtAnswer h src tok typ tid txn a) := by
  unfold Hub.crtAnswer
  extract_lets +onlyGivenNames v1
  have H2 : P v1 := (keep_ite (Hub.raise_keeps B (wk.sub (by decide)) Hh) Hh)
  clear_value v1
  extract_lets +onlyGivenNames v3
  have H4 : P v3 := (keep_ite (B.wr (wk.bit (by decide)) (B.wr (wk.bit (by decide)) (B.wr (wk.bit (by decide)) (Hub.irq_keeps B (wk.sub (by decide)) (Hub.cnt_keeps B (wk.bit (by decide)) H2))))) (keep_ite (Hub.cnt_keeps B (wk.bit (by decide)) H2) H2))
  clear_value v3
  extract_lets +onlyGivenNames v5
  clear_value v5
  extract_lets +onlyGivenNames v6
  clear_value v6
  extract_lets +onlyGivenNames v7
  clear_value v7
  exact (Hub.ctlSend_keeps B (wk.sub (by decide)) H4)

theorem Hub.depose_keeps {km : Nat} (B : Hub.Bears km P) (wk : Sub 0xc00000000000780a800000000000004000000000000000000000000000000000010100000000010000000000000400 km) {h : Hub} (Hh : P h) : P (Hub.depose h) := by
  unfold Hub.depose
  extract_lets +onlyGivenNames v1
  clear_value v1
  extract_lets +onlyGivenNames v2
  have H3 : P v2 := (Hub.locketPut_keeps B (wk.sub (by decide)) (Hub.raise_keeps B (wk.sub (by decide)) (B.wr (wk.bit (by decide)) Hh)))
  clear_value v2
  exact (keep_each (fun _ _ H6 => (Hub.askFor_keeps B (wk.sub (by decide)) H6)) (B.set_asks_changes_paths_settles_unrec_intents (wk.bit (by decide)) (wk.bit (by decide)) (wk.bit (by decide)) (wk.bit (by decide)) (wk.bit (by decide)) (wk.bit (by decide)) H3))

theorem Hub.switchOff_keeps {km : Nat} (B : Hub.Bears km P) (wk : Sub 0x1ff875c3dffbfffbb97a00000000000c000641000000101010100070000010701a3030200010f030000000100015d1e km) {h : Hub} {d : ℕ} (Hh : P h) : P (Hub.switchOff h d) := by
  unfold Hub.switchOff
  extract_lets +onlyGivenNames v1
  have H2 : P v1 := (keep_when (fun _ H4 => (B.wr (wk.bit (by decide)) H4)) Hh)
  clear_value v1
  extract_lets +onlyGivenNames v5
  have H6 : P v5 := (Hub.wrBit_keeps B (wk.bit (by decide)) (Hub.wrBit_keeps B (wk.bit (by decide)) (Hub.clearDomain_keeps B (wk.sub (by decide)) (keep_each (fun _ _ H9 => (Hub.quiesce_keeps B (wk.sub (by decide)) H9)) H2))))
  clear_value v5
  extract_lets +onlyGivenNames v10
  have H11 : P v10 := (keep_each (fun _ _ H14 => (Hub.wrBit_keeps B (wk.bit (by decide)) (Hub.wrBit_keeps B (wk.bit (by decide)) H14))) (B.wr (wk.bit (by decide)) H6))
  clear_value v10
  exact (keep_each (fun _ _ H17 => (B.wr (wk.bit (by decide)) H17)) H11)

theorem Hub.saveKept_keeps {km : Nat} (B : Hub.Bears km P) (wk : Sub 0x804000000000000000000000000000000000000000000000000000000000000000000000000020 km) {h : Hub} {d : ℕ} (Hh : P h) : P (Hub.saveKept h d) := by
  unfold Hub.saveKept
  extract_lets +onlyGivenNames v1
  clear_value v1
  extract_lets +onlyGivenNames v2
  clear_value v2
  extract_lets +onlyGivenNames v3
  have H4 : P v3 := (Hub.wrFree_keeps B (wk.sub (by decide)) (wk.bit (by decide)) (B.wr (wk.bit (by decide)) (Hub.wrBit_keeps B (wk.bit (by decide)) (B.ret (wk.bit (by decide)) Hh))))
  clear_value v3
  exact (keep_when (fun _ H6 => (B.wr (wk.bit (by decide)) (B.wr (wk.bit (by decide)) H6))) H4)

theorem Hub.domainOff_keeps {km : Nat} (B : Hub.Bears km P) (wk : Sub 0x1ff875c3dffbfffbb97e00000000000c000641000000101010100070000010701a3030200010f030000000100015d3e km) {h : Hub} {d : ℕ} {left : List ℕ} (Hh : P h) : P (Hub.domainOff h d left) := by
  unfold Hub.domainOff
  extract_lets +onlyGivenNames v1
  have H2 : P v1 := (keep_when (fun _ H4 => (Hub.cnt_keeps B (wk.bit (by decide)) H4)) (keep_each (fun _ _ H7 => (Hub.poisonPkt_keeps B (wk.sub (by decide)) H7)) Hh))
  clear_value v1
  exact (Hub.refreshDomains_keeps B (wk.sub (by decide)) (Hub.switchOff_keeps B (wk.sub (by decide)) (Hub.saveKept_keeps B (wk.sub (by decide)) H2)))

theorem Hub.gateFollow_keeps {km : Nat} (B : Hub.Bears km P) (wk : Sub 0x2 km) {h : Hub} (Hh : P h) : P (Hub.gateFollow h) := by
  unfold Hub.gateFollow
  exact (keep_each (fun _ _ H3 => (by
    extract_lets +onlyGivenNames v4
    clear_value v4
    exact (keep_when (fun _ H6 => (Hub.gateSet_keeps B (wk.sub (by decide)) H6)) H3))) Hh)

theorem Hub.startPage_keeps {km : Nat} (B : Hub.Bears km P) (wk : Sub 0x280200000000000c000001000000000000000000000010100030000000000000000000100010412 km) {pg : ℕ} {h : Hub} (Hh : P h) : P (Hub.startPage pg h) := by
  unfold Hub.startPage
  refine keep_ite ?_ ?_
  · exact (Hub.refreshMem_keeps B (wk.sub (by decide)) Hh)
  · refine keep_ite ?_ ?_
    · exact (Hub.gateFollow_keeps B (wk.sub (by decide)) Hh)
    · refine keep_ite ?_ ?_
      · exact (Hub.refreshVotes_keeps B (wk.sub (by decide)) Hh)
      · refine keep_ite ?_ ?_
        · exact Hh
        · refine keep_ite ?_ ?_
          · exact (Hub.laneEnable_keeps B (wk.sub (by decide)) Hh)
          · exact (keep_ite (Hub.headEnable_keeps B (wk.sub (by decide)) Hh) Hh)

theorem Hub.heldResume_keeps {km : Nat} (B : Hub.Bears km P) (wk : Sub 0x40000000000000000000000004000000000000000000000010000000000000000000000000000000000000000 km) {h : Hub} (Hh : P h) : P (Hub.heldResume h) := by
  unfold Hub.heldResume
  extract_lets +onlyGivenNames v1
  have H2 : P v1 := (Hub.irq_keeps B (wk.sub (by decide)) (Hub.cnt_keeps B (wk.bit (by decide)) Hh))
  clear_value v1
  exact (keep_when (fun _ H4 => (Hub.eventSend_keeps B (wk.sub (by decide)) H4)) H2)

theorem Hub.lumeMode_keeps {km : Nat} (B : Hub.Bears km P) (wk : Sub 0x4000000000000000000000000004000000000000000000000000000000000000 km) {h : Hub} {p : ℕ} {scene : Bool} (Hh : P h) : P (Hub.lumeMode h p scene) := by
  unfold Hub.lumeMode
  exact (keep_ite Hh (Hub.irq_keeps B (wk.sub (by decide)) (B.wr (wk.bit (by decide)) Hh)))

theorem Hub.domainOn_keeps {km : Nat} (B : Hub.Bears km P) (wk : Sub 0x14000000000280a00000000000c00080300000010101010007000401010003000000000000000000010001241b km) {h : Hub} {d : ℕ} (Hh : P h) : P (Hub.domainOn h d) := by
  unfold Hub.domainOn
  extract_lets +onlyGivenNames v1
  clear_value v1
  extract_lets +onlyGivenNames v2
  have H3 : P v2 := (keep_each (fun _ _ H6 => (B.wr (wk.bit (by decide)) (B.wr (wk.bit (by decide)) H6))) (Hub.wrBit_keeps B (wk.bit (by decide)) (B.wr (wk.bit (by decide)) Hh)))
  clear_value v2
  extract_lets +onlyGivenNames v7
  have H8 : P v7 := (keep_each (fun _ _ H11 => (Hub.startPage_keeps B (wk.sub (by decide)) H11)) H3)
  clear_value v7
  extract_lets +onlyGivenNames v12
  have H13 : P v12 := (B.wr (wk.bit (by decide)) (keep_when (fun _ H15 => (Hub.cnt_keeps B (wk.bit (by decide)) H15)) H8))
  clear_value v12
  extract_lets +onlyGivenNames v16
  have H17 : P v16 := (keep_when (fun _ H19 => (Hub.heldResume_keeps B (wk.sub (by decide)) (B.wr (wk.bit (by decide)) (B.wr (wk.bit (by decide)) H19)))) (Hub.refreshUp_keeps B (wk.sub (by decide)) H8))
  clear_value v16
  extract_lets +onlyGivenNames v20
  have H21 : P v20 := (keep_ite (keep_ite (B.wr (wk.bit (by decide)) H13) (keep_when (fun _ H23 => (B.wr (wk.bit (by decide)) H23)) H13)) (keep_ite (keep_when (fun _ H25 => (Hub.refreshMem_keeps B (wk.sub (by decide)) (B.wr (wk.bit (by decide)) H25))) H8) (keep_ite (keep_when (fun _ H27 => (keep_each (fun _ _ H30 => (Hub.lumeMode_keeps B (wk.sub (by decide)) H30)) H27)) H17) (keep_ite (keep_when (fun _ H32 => (keep_each (fun _ _ H35 => (Hub.autoOn_keeps B (wk.sub (by decide)) H35)) H32)) H8) H8))))
  clear_value v20
  exact (Hub.refreshDomains_keeps B (wk.sub (by decide)) H21)

theorem Hub.restoreKept_keeps {km : Nat} (B : Hub.Bears km P) (wk : Sub 0x280400000000000c000000000000000000000000000000000010000000000000000000000000421 km) {h : Hub} {d : Nat} {crcOk : Bool} (Hh : P h) : P (h.restoreKept d crcOk) := by
  unfold Hub.restoreKept
  refine keep_ite Hh ?_
  extract_lets +onlyGivenNames mine rest h1
  have H1 : P h1 := Hub.wrFree_keeps B (wk.sub (by decide)) (wk.bit (by decide)) (B.wr (wk.bit (by decide)) (Hub.wrBit_keeps B (wk.bit (by decide)) (B.ret (wk.bit (by decide)) Hh)))
  clear_value h1
  refine keep_ite (keep_when (fun _ H => B.wr (wk.bit (by decide)) (B.wr (wk.bit (by decide)) (B.wr (wk.bit (by decide)) H))) (Hub.raise_keeps B (wk.sub (by decide)) (Hub.cnt_keeps B (wk.bit (by decide)) H1))) ?_
  extract_lets +onlyGivenNames h2
  have H2 : P h2 := keep_foldl (fun _ _ H => B.regs (wk.bit (by decide)) H fun S => Tab.ins_sorted _ _ S) (Hub.clearRegs_keeps B (wk.sub (by decide)) H1)
  clear_value h2
  refine keep_when (fun h H => ?_) H2
  extract_lets +onlyGivenNames ns
  exact B.wr (wk.bit (by decide)) (B.wr (wk.bit (by decide)) (B.wr (wk.bit (by decide)) H))

theorem Hub.domainUp_keeps {km : Nat} (B : Hub.Bears km P) (wk : Sub 0x1ff875c3dffbfffbb97e00000000000c00004000000010101010007000001030021000000010b030000000100001d3f km) {h : Hub} {d : ℕ} {crcOk : Bool} (Hh : P h) : P (Hub.domainUp h d crcOk) := by
  unfold Hub.domainUp
  extract_lets +onlyGivenNames v1
  have H2 : P v1 := (B.wr (wk.bit (by decide)) (Hub.wrBit_keeps B (wk.bit (by decide)) (Hub.cfgReset_keeps B (wk.sub (by decide)) (Hub.clearDomain_keeps B (wk.sub (by decide)) Hh))))
  clear_value v1
  extract_lets +onlyGivenNames v3
  have H4 : P v3 := (Hub.restoreKept_keeps B (wk.sub (by decide)) (keep_each (fun _ _ H7 => (Hub.afterReset_keeps B (wk.sub (by decide)) H7)) H2))
  clear_value v3
  extract_lets +onlyGivenNames v8
  have H9 : P v8 := (keep_when (fun _ H11 => (B.wr (wk.bit (by decide)) H11)) H4)
  clear_value v8
  exact (keep_each (fun _ _ H14 => (Hub.afterReset_keeps B (wk.sub (by decide)) H14)) H9)

theorem Hub.dpConfigure_keeps {km : Nat} (B : Hub.Bears km P) (wk : Sub 0x800000000000000000000000004000000000000000010000000000000000200000000000000000000000000000 km) {h : Hub} {k : Fin 2} {pinD : Bool} (Hh : P h) : P (Hub.dpConfigure h k pinD) := by
  unfold Hub.dpConfigure
  exact (keep_when (fun _ H2 => (B.wr (wk.bit (by decide)) H2)) (Hub.irq_keeps B (wk.sub (by decide)) (B.wr (wk.bit (by decide)) (B.wr (wk.bit (by decide)) (Hub.pdSend_keeps B (wk.sub (by decide)) Hh)))))

theorem Hub.waitLink_keeps {km : Nat} (B : Hub.Bears km P) (wk : Sub 0x2800000000000004000000000000000000000000000000000030000000000000000000000000402 km) {h : Hub} {n : ℕ} (Hh : P h) : P (Hub.waitLink h n) := by
  unfold Hub.waitLink
  refine keep_ite ?_ ?_
  · exact Hh
  · refine keep_ite ?_ ?_
    · extract_lets +onlyGivenNames v1
      clear_value v1
      exact (B.wr (wk.bit (by decide)) (B.wr (wk.bit (by decide)) (Hub.wrBit_keeps B (wk.bit (by decide)) (B.wr (wk.bit (by decide)) (Hub.setHead_keeps B (wk.sub (by decide)) Hh)))))
    · exact (Hub.raise_keeps B (wk.sub (by decide)) Hh)

theorem Hub.dpTrainDone_keeps {km : Nat} (B : Hub.Bears km P) (wk : Sub 0x2800000000000004000000000000000000000000000000001030000000000000000000000000402 km) {h : Hub} {n : ℕ} {ok : Bool} {rate : ℕ} {lanes : ℕ} (Hh : P h) : P (Hub.dpTrainDone h n ok rate lanes) := by
  unfold Hub.dpTrainDone
  exact (keep_ite (Hub.waitLink_keeps B (wk.sub (by decide)) (Hub.setLink_keeps B (wk.sub (by decide)) (Hub.wrFree_keeps B (wk.sub (by decide)) (wk.bit (by decide)) (B.wr (wk.bit (by decide)) (B.wr (wk.bit (by decide)) Hh))))) (Hub.raise_keeps B (wk.sub (by decide)) (Hub.cnt_keeps B (wk.bit (by decide)) (Hub.setLink_keeps B (wk.sub (by decide)) Hh))))

theorem Hub.dropHostReads_keeps {km : Nat} (B : Hub.Bears km P) (wk : Sub 0x1e0000000000000000000000000000000000000000000000000000100000000000000000000000000000000 km) {h : Hub} (Hh : P h) : P (Hub.dropHostReads h) := by
  unfold Hub.dropHostReads
  extract_lets +onlyGivenNames v1
  clear_value v1
  exact (Hub.retryReads_keeps B (wk.sub (by decide)) (B.set_tags_rdWait_reads (wk.bit (by decide)) (wk.bit (by decide)) (wk.bit (by decide)) Hh))

theorem Hub.loadMeter_keeps {km : Nat} (B : Hub.Bears km P) (wk : Sub 0x12800000000000004000000000000000000000000000000000010001000000000000000000000400 km) {h : Hub} {i : ℕ} (Hh : P h) : P (Hub.loadMeter h i) := by
  unfold Hub.loadMeter
  extract_lets +onlyGivenNames v1
  clear_value v1
  refine keep_ite ?_ ?_
  · exact Hh
  · extract_lets +onlyGivenNames v2
    clear_value v2
    extract_lets +onlyGivenNames v3
    have H4 : P v3 := (Hub.setMcir_keeps B (wk.sub (by decide)) Hh)
    clear_value v3
    exact (keep_when (fun _ H6 => (Hub.raise_keeps B (wk.sub (by decide)) H6)) H4)

theorem Hub.setRec_keeps {km : Nat} (B : Hub.Bears km P) (wk : Sub 0x1a800000000000004000000000000000000000000000000000010003000000030000000000000404 km) {h : Hub} {i : ℕ} {committed : ℕ} {target : ℕ} {state : ℕ} (Hh : P h) : P (Hub.setRec h i committed target state) := by
  unfold Hub.setRec
  extract_lets +onlyGivenNames v1
  clear_value v1
  extract_lets +onlyGivenNames v2
  clear_value v2
  extract_lets +onlyGivenNames v3
  clear_value v3
  extract_lets +onlyGivenNames v4
  clear_value v4
  extract_lets +onlyGivenNames v5
  have H6 : P v5 := (B.wr (wk.bit (by decide)) Hh)
  clear_value v5
  extract_lets +onlyGivenNames v7
  have H8 : P v7 := (keep_each (fun _ _ H11 => (B.wr (wk.bit (by decide)) (B.wr (wk.bit (by decide)) H11))) H6)
  clear_value v7
  extract_lets +onlyGivenNames v12
  have H13 : P v12 := (B.wr (wk.bit (by decide)) (B.wr (wk.bit (by decide)) (B.wr (wk.bit (by decide)) (B.wr (wk.bit (by decide)) (B.wr (wk.bit (by decide)) H8)))))
  clear_value v12
  extract_lets +onlyGivenNames v14
  have H15 : P v14 := (Hub.refreshPoints_keeps B (wk.sub (by decide)) (Hub.refreshCap_keeps B (wk.sub (by decide)) H13))
  clear_value v14
  exact (keep_ite H15 (Hub.loadMeter_keeps B (wk.sub (by decide)) H15))

theorem Hub.setTxn_keeps {km : Nat} (B : Hub.Bears km P) (wk : Sub 0x2000000000000000000000000 km) {h : Hub} {i : ℕ} {txn : ℕ} {src : ℕ} (Hh : P h) : P (Hub.setTxn h i txn src) := by
  unfold Hub.setTxn
  exact (B.wr (wk.bit (by decide)) (B.wr (wk.bit (by decide)) Hh))

theorem Hub.lowerTo_keeps {km : Nat} (B : Hub.Bears km P) (wk : Sub 0x1a800000000000004000000000000000000000000000000000010003000000030000000000000404 km) {h : Hub} {src : ℕ} {txn : ℕ} {amount : ℕ} {i : ℕ} (Hh : P h) : P (Hub.lowerTo h src txn amount i) := by
  unfold Hub.lowerTo
  exact (Hub.cnt_keeps B (wk.bit (by decide)) (Hub.setRec_keeps B (wk.sub (by decide)) (Hub.setTxn_keeps B (wk.sub (by decide)) Hh)))

theorem Hub.dropRec_keeps {km : Nat} (B : Hub.Bears km P) (wk : Sub 0x1a800000000000004000000000000000000000000000000000010003000000030000000000000404 km) {h : Hub} {src : ℕ} {txn : ℕ} {tid : ℕ} (Hh : P h) : P (Hub.dropRec h src txn tid) := by
  unfold Hub.dropRec
  split
  · rename_i a1 a2 e3
    exact (Hub.lowerTo_keeps B (wk.sub (by decide)) Hh)
  · rename_i a4 e5
    exact Hh

theorem Hub.fifoParity_keeps {km : Nat} (B : Hub.Bears km P) (wk : Sub 0x52280000000000000400000000000000000000000000000000001000000010b000000000000000404 km) {h : Hub} {a : ℕ} {id : ℕ} (Hh : P h) : P (Hub.fifoParity h a id) := by
  unfold Hub.fifoParity
  exact (keep_when (fun _ H2 => (Hub.poisonPkt_keeps B (wk.sub (by decide)) (Hub.raise_keeps B (wk.sub (by decide)) (Hub.wrBit_keeps B (wk.bit (by decide)) H2)))) Hh)

theorem Hub.mapTgt_keeps {km : Nat} (B : Hub.Bears km P) (wk : Sub 0x20000000000000000000000000000000000000000000000000000000000000000000000000000000 km) {h : Hub} {id : ℕ} {e : ℕ} {f : Tgt → Tgt} (Hh : P h) : P (Hub.mapTgt h id e f) := by
  unfold Hub.mapTgt
  split
  · rename_i a1 a2 e3
    exact (Hub.setPkt_keeps B (wk.sub (by decide)) Hh)
  · rename_i a4 e5
    exact Hh

theorem Hub.readCell_keeps {km : Nat} (B : Hub.Bears km P) (wk : Sub 0x52280000000000000400000000000000000000000000000000001000000010b000000000000000400 km) {h : Hub} {id : ℕ} {c : PCell} (Hh : P h) : P (Hub.readCell h id c).1 := by
  unfold Hub.readCell
  split
  · rename_i e1
    exact (keep_p1 Hh)
  · rename_i e2
    split
    · rename_i e3
      exact (keep_p1 (Hub.corrected_keeps B (wk.sub (by decide)) Hh))
    · rename_i e4
      split
      · rename_i a5 a6 a7 e8
        have H9 := keep_snd e8 (Hub.free_keeps B (wk.sub (by decide)) Hh)
        exact (keep_p1 (Hub.poisonPkt_keeps B (wk.sub (by decide)) (Hub.raise_keeps B (wk.sub (by decide)) (Hub.cnt_keeps B (wk.bit (by decide)) H9))))

theorem Hub.macPut_keeps {km : Nat} (B : Hub.Bears km P) (wk : Sub 0x1000000000000000000000000000000000000 km) {h : Hub} {m : ℕ} {n : ℕ} {eop : Bool} (Hh : P h) : P (Hub.macPut h m n eop) := by
  unfold Hub.macPut
  extract_lets +onlyGivenNames v1
  clear_value v1
  exact (keep_ite (B.wr (wk.bit (by decide)) (B.wr (wk.bit (by decide)) (B.wr (wk.bit (by decide)) Hh))) (B.wr (wk.bit (by decide)) Hh))

theorem Hub.output_keeps {km : Nat} (B : Hub.Bears km P) (wk : Sub 0x200000000000000000000000000000000000000000001000000000000000100020000000000010004 km) {h : Hub} {e : ℕ} {a : ℕ} {cls : ℕ} {c : Cell} (Hh : P h) : P (Hub.output h e a cls c) := by
  unfold Hub.output
  extract_lets +onlyGivenNames v1
  have H2 : P v1 := (B.egOut (wk.bit (by decide)) Hh)
  clear_value v1
  extract_lets +onlyGivenNames v3
  have H4 : P v3 := (keep_ite (B.wr (wk.bitAt (credFld_kind _) (by decide)) H2) (Hub.countSent_keeps B (wk.sub (by decide)) (B.wr (wk.bit (by decide)) H2)))
  clear_value v3
  extract_lets +onlyGivenNames v5
  have H6 : P v5 := (keep_ite (by
      split
      · rename_i a7 a8 a9 e10
        exact (Hub.macPut_keeps B (wk.sub (by decide)) H4)
      · rename_i a11 e12
        exact H4) H4)
  clear_value v5
  refine keep_ite ?_ ?_
  · refine keep_ite ?_ ?_
    · exact (Hub.cnt_keeps B (wk.bit (by decide)) H6)
    · exact (keep_ite (Hub.cnt_keeps B (wk.bit (by decide)) H6) H6)
  · exact H6

theorem Hub.emit_keeps {km : Nat} (B : Hub.Bears km P) (wk : Sub 0x72280000000000000400000000000000000000000000100000001000000010b020000000000010404 km) {h : Hub} {e : ℕ} {x : Head} (Hh : P h) : P (Hub.emit h e x) := by
  unfold Hub.emit
  extract_lets +onlyGivenNames v1
  clear_value v1
  extract_lets +onlyGivenNames v2
  clear_value v2
  extract_lets +onlyGivenNames v3
  clear_value v3
  extract_lets +onlyGivenNames v4
  clear_value v4
  extract_lets +onlyGivenNames v5
  clear_value v5
  extract_lets +onlyGivenNames v6
  clear_value v6
  extract_lets +onlyGivenNames v7
  clear_value v7
  extract_lets +onlyGivenNames v8
  clear_value v8
  extract_lets +onlyGivenNames v9
  have H10 : P v9 := (Hub.fifoParity_keeps B (wk.sub (by decide)) (Hub.mapTgt_keeps B (wk.sub (by decide)) Hh))
  clear_value v9
  split
  · rename_i a11 a12 a13 a14 e15
    have H16 := keep_fst e15 (by
        split
        · rename_i a17 a18 e19
          split
          · rename_i a20 a21 a22 e23
            have H24 := keep_fst e23 (Hub.readCell_keeps B (wk.sub (by decide)) H10)
            exact (keep_p1 (Hub.bankOp_keeps B (wk.sub (by decide)) H24))
        · rename_i a25 e26
          exact (keep_p1 H10))
    extract_lets +onlyGivenNames v27
    clear_value v27
    extract_lets +onlyGivenNames v28
    clear_value v28
    extract_lets +onlyGivenNames v29
    clear_value v29
    extract_lets +onlyGivenNames v30
    clear_value v30
    extract_lets +onlyGivenNames v31
    clear_value v31
    extract_lets +onlyGivenNames v32
    have H33 : P v32 := (Hub.output_keeps B (wk.sub (by decide)) (Hub.mapTgt_keeps B (wk.sub (by decide)) H16))
    clear_value v32
    exact (Hub.afterCell_keeps B (wk.sub (by decide)) (keep_when (fun _ H35 => (Hub.leave_keeps B (wk.sub (by decide)) H35)) (B.wr (wk.bit (by decide)) H33)))

theorem Hub.showHeads_keeps {km : Nat} (B : Hub.Bears km P) (wk : Sub 0x100000000000000000000 km) {h : Hub} {e : ℕ} {hs : List Head} {cs : List Head} (Hh : P h) : P (Hub.showHeads h e hs cs) := by
  unfold Hub.showHeads
  exact (keep_each (fun _ _ H3 => (Hub.showHead_keeps B (wk.sub (by decide)) (B.wr (wk.bit (by decide)) H3))) Hh)

theorem Hub.underrun_keeps {km : Nat} (B : Hub.Bears km P) (wk : Sub 0x1000000052280000000000000400000000000000000000000000100000001000000010b000000000000000400 km) {h : Hub} {hs : List Head} (Hh : P h) : P (Hub.underrun h hs) := by
  unfold Hub.underrun
  split
  · rename_i a1 e2
    exact Hh
  · rename_i a3 a4 e5
    split
    · rename_i a6 e7
      exact Hh
    · rename_i a8 a9 a10 e11
      exact (keep_when (fun _ H13 => (by
        extract_lets +onlyGivenNames v14
        clear_value v14
        extract_lets +onlyGivenNames v15
        clear_value v15
        extract_lets +onlyGivenNames v16
        have H17 : P v16 := (B.wr (wk.bit (by decide)) (Hub.cnt_keeps B (wk.bit (by decide)) (B.ethOut (wk.bit (by decide)) H13)))
        clear_value v16
        exact (Hub.discard_keeps B (wk.sub (by decide)) (Hub.cnt_keeps B (wk.bit (by decide)) H17)))) Hh)

theorem Hub.selectFrom_keeps {km : Nat} (B : Hub.Bears km P) (wk : Sub 0x1000000072280000000000000400000000000000000000000000100000001000000010f030000000000010404 km) {e n : Nat} : ∀ {h : Hub}, P h → P (h.selectFrom e n) := by
  induction n with
  | zero => exact fun H => H
  | succ n ih =>
    intro h H
    unfold Hub.selectFrom
    extract_lets +onlyGivenNames hs cs
    split
    · rename_i h1 e1
      have H1 : P h1 := keep_fst e1 (Hub.choose_keeps B (wk.sub (by decide)) H)
      exact keep_when (fun _ H => Hub.underrun_keeps B (wk.sub (by decide)) H) (Hub.showHeads_keeps B (wk.sub (by decide)) H1)
    · rename_i h1 tier x e1
      have H1 : P h1 := keep_fst e1 (Hub.choose_keeps B (wk.sub (by decide)) H)
      refine keep_ite (ih (Hub.ageDrop_keeps B (wk.sub (by decide)) H1)) (keep_ite (ih (Hub.leave_keeps B (wk.sub (by decide)) (Hub.cnt_keeps B (wk.bit (by decide)) H1))) ?_)
      extract_lets +onlyGivenNames h2
      have H2 : P h2 := keep_ite (B.wr (wk.bit (by decide)) (Hub.cnt_keeps B (wk.bit (by decide)) H1)) (B.wr (wk.bit (by decide)) H1)
      clear_value h2
      exact Hub.emit_keeps B (wk.sub (by decide)) (Hub.showHeads_keeps B (wk.sub (by decide)) H2)

theorem Hub.egressSelect_keeps {km : Nat} (B : Hub.Bears km P) (wk : Sub 0x1000000072280200000000000c00000100000000000000000000100000001000000010f030000000000010404 km) {h : Hub} {e : ℕ} (Hh : P h) : P (Hub.egressSelect h e) := by
  unfold Hub.egressSelect
  exact (keep_when (fun _ H2 => (by
    extract_lets +onlyGivenNames v3
    have H4 : P v3 := (Hub.purge_keeps B (wk.sub (by decide)) (Hub.schCommit_keeps B (wk.sub (by decide)) H2))
    clear_value v3
    exact (Hub.selectFrom_keeps B (wk.sub (by decide)) H4))) Hh)

theorem Hub.saveLane_keeps {km : Nat} (B : Hub.Bears km P) (wk : Sub 0x100000000 km) {l : ℕ} {h : Hub} (Hh : P h) : P (Hub.saveLane l h) := by
  unfold Hub.saveLane
  exact (B.wr (wk.bit (by decide)) (keep_each (fun _ _ H3 => (B.wr (wk.bit (by decide)) H3)) Hh))

theorem Hub.enterLow_keeps {km : Nat} (B : Hub.Bears km P) (wk : Sub 0x1800a80200000000000c000601000000000000000000000000000010102000000030000000100014402 km) {h : Hub} {p : ℕ} {l2 : Bool} (Hh : P h) : P (Hub.enterLow h p l2) := by
  unfold Hub.enterLow
  extract_lets +onlyGivenNames v1
  have H2 : P v1 := (keep_each (fun _ _ H5 => (by
      extract_lets +onlyGivenNames v6
      clear_value v6
      exact (keep_when (fun _ H8 => (Hub.saveLane_keeps B (wk.sub (by decide)) H8)) (Hub.setLane_keeps B (wk.sub (by decide)) H5)))) Hh)
  clear_value v1
  exact (Hub.refreshPoints_keeps B (wk.sub (by decide)) (Hub.casPortLost_keeps B (wk.sub (by decide)) (Hub.irq_keeps B (wk.sub (by decide)) (Hub.setPort_keeps B (wk.sub (by decide)) (B.wr (wk.bit (by decide)) (B.wr (wk.bit (by decide)) (Hub.endPm_keeps B (wk.sub (by decide)) H2)))))))

theorem Hub.eidleDue_keeps {km : Nat} (B : Hub.Bears km P) (wk : Sub 0x1800a80200000000000c000601000000000000000000000000000010102000000030000000100014402 km) {p : ℕ} {h : Hub} (Hh : P h) : P (Hub.eidleDue p h) := by
  unfold Hub.eidleDue
  exact (keep_when (fun _ H2 => (Hub.enterLow_keeps B (wk.sub (by decide)) H2)) Hh)

theorem Hub.elect_keeps {km : Nat} (B : Hub.Bears km P) (wk : Sub 0x40000040800280200000000000c000001000000101010100000000000000010000000000000000000100010402 km) {h : Hub} {n : ℕ} (Hh : P h) : P (Hub.elect h n) := by
  unfold Hub.elect
  split
  · rename_i a1 e2
    exact (Hub.bootSource_keeps B (wk.sub (by decide)) Hh)
  · rename_i a3 e4
    exact (keep_ite (Hub.setClp_keeps B (wk.sub (by decide)) (B.wr (wk.bit (by decide)) (Hub.setSw_keeps B (wk.sub (by decide)) Hh))) (Hub.openClp_keeps B (wk.sub (by decide)) Hh))
  · rename_i a5 e6 e7
    exact (Hub.openClp_keeps B (wk.sub (by decide)) Hh)

theorem Hub.emptySlot_keeps {km : Nat} (B : Hub.Bears km P) (wk : Sub 0x1000000000000000000000000000000000000000000000000000000000000000000000000000000004000 km) {h : Hub} {s : ℕ} (Hh : P h) : P (Hub.emptySlot h s) := by
  unfold Hub.emptySlot
  extract_lets +onlyGivenNames v1
  have H2 : P v1 := (B.keys (wk.bit (by decide)) Hh)
  clear_value v1
  exact (Hub.refreshSlots_keeps B (wk.sub (by decide)) (B.wr (wk.bit (by decide)) (B.wr (wk.bit (by decide)) (B.wr (wk.bit (by decide)) (B.wr (wk.bit (by decide)) H2)))))

theorem Hub.endReserve_keeps {km : Nat} (B : Hub.Bears km P) (wk : Sub 0x1a800000000000004000000000000000000000000000000000010003000000030000000000000404 km) {h : Hub} {i : ℕ} (Hh : P h) : P (Hub.endReserve h i) := by
  unfold Hub.endReserve
  extract_lets +onlyGivenNames v1
  clear_value v1
  exact (Hub.setRec_keeps B (wk.sub (by decide)) Hh)

theorem Hub.refreshMasks_keeps {km : Nat} (B : Hub.Bears km P) (wk : Sub 0x10 km) {h : Hub} (Hh : P h) : P (Hub.refreshMasks h) := by
  unfold Hub.refreshMasks
  exact (B.wr (wk.bit (by decide)) (B.wr (wk.bit (by decide)) Hh))

theorem Hub.nextTransition_keeps {km : Nat} (B : Hub.Bears km P) (wk : Sub 0x40000280200000000000c00002100000000000000000000001010001000000000000000000010001041a km) {h : Hub} (Hh : P h) : P (Hub.nextTransition h) := by
  unfold Hub.nextTransition
  refine keep_ite ?_ ?_
  · exact (Hub.refreshVotes_keeps B (wk.sub (by decide)) Hh)
  · extract_lets +onlyGivenNames v1
    clear_value v1
    extract_lets +onlyGivenNames v2
    clear_value v2
    refine keep_ite ?_ ?_
    · exact (Hub.refreshVotes_keeps B (wk.sub (by decide)) (B.wr (wk.bit (by decide)) (B.wr (wk.bit (by decide)) Hh)))
    · exact (keep_ite (Hub.beginTransition_keeps B (wk.sub (by decide)) (B.wr (wk.bit (by decide)) (B.wr (wk.bit (by decide)) Hh))) (Hub.beginTransition_keeps B (wk.sub (by decide)) Hh))

theorem Hub.endTransition_keeps {km : Nat} (B : Hub.Bears km P) (wk : Sub 0x40000290200000000000c00002100000000000000000000001010001000000000000000000010001041b km) {h : Hub} {us : Nat} (Hh : P h) : P (h.endTransition us) := by
  unfold Hub.endTransition
  extract_lets +onlyGivenNames old goal h1
  have H1 : P h1 := Hub.refreshMasks_keeps B (wk.sub (by decide)) (Hub.irq_keeps B (wk.sub (by decide)) (Hub.cnt_keeps B (wk.bit (by decide)) (B.wr (wk.bit (by decide)) (B.wr (wk.bit (by decide)) (B.wr (wk.bit (by decide)) (B.wr (wk.bit (by decide)) (B.wr (wk.bit (by decide)) Hh)))))))
  clear_value h1
  extract_lets +onlyGivenNames h2
  have H2 : P h2 := by
    refine keep_ite H1 (keep_ite ?_ ?_)
    · have A : P { h1 with fmem := [] } := B.fmem (wk.bit (by decide)) H1 fun _ => Tab.nil_wf 0
      exact B.wr (wk.bit (by decide)) (B.wr (wk.bit (by decide)) (B.wr (wk.bit (by decide)) (B.wr (wk.bit (by decide)) (B.wr (wk.bit (by decide)) A))))
    · exact keep_when (fun _ H => Hub.irq_keeps B (wk.sub (by decide)) (B.wr (wk.bit (by decide)) H)) (B.wr (wk.bit (by decide)) H1)
  clear_value h2
  exact Hub.nextTransition_keeps B (wk.sub (by decide)) H2

theorem Hub.enterSolitaire_keeps {km : Nat} (B : Hub.Bears km P) (wk : Sub 0x1ff875c3dffbfffbb97a00000000000c000661000000101010100070004010701a3030200010f030000000100015d1f km) {h : Hub} (Hh : P h) : P (Hub.enterSolitaire h) := by
  unfold Hub.enterSolitaire
  refine keep_ite ?_ ?_
  · exact Hh
  · extract_lets +onlyGivenNames v1
    have H2 : P v1 := (keep_when (fun _ H4 => (Hub.raise_keeps B (wk.sub (by decide)) (Hub.cnt_keeps B (wk.bit (by decide)) H4))) Hh)
    clear_value v1
    extract_lets +onlyGivenNames v5
    have H6 : P v5 := (Hub.refreshMasks_keeps B (wk.sub (by decide)) (B.wr (wk.bit (by decide)) (B.wr (wk.bit (by decide)) (B.wr (wk.bit (by decide)) (B.wr (wk.bit (by decide)) (B.wr (wk.bit (by decide)) (B.wr (wk.bit (by decide)) (B.wr (wk.bit (by decide)) H2))))))))
    clear_value v5
    extract_lets +onlyGivenNames v7
    have H8 : P v7 := (keep_each (fun _ _ H11 => (keep_when (fun _ H13 => (Hub.switchOff_keeps B (wk.sub (by decide)) H13)) H11)) H6)
    clear_value v7
    extract_lets +onlyGivenNames v14
    have H15 : P v14 := (keep_each (fun _ _ H18 => (keep_when (fun _ H20 => (B.wr (wk.bit (by decide)) H20)) H18)) H8)
    clear_value v14
    extract_lets +onlyGivenNames v21
    have H22 : P v21 := (keep_each (fun _ _ H25 => (Hub.wrBit_keeps B (wk.bit (by decide)) (Hub.wrBit_keeps B (wk.bit (by decide)) H25))) (B.wr (wk.bit (by decide)) (B.wr (wk.bit (by decide)) H15)))
    clear_value v21
    extract_lets +onlyGivenNames v26
    have H27 : P v26 := (keep_when (fun _ H29 => (keep_each (fun _ _ H32 => (Hub.lumeMode_keeps B (wk.sub (by decide)) H32)) H29)) H22)
    clear_value v26
    extract_lets +onlyGivenNames v33
    have H34 : P v33 := (Hub.refreshDomains_keeps B (wk.sub (by decide)) (Hub.refreshEmerg_keeps B (wk.sub (by decide)) H27))
    clear_value v33
    exact (keep_when (fun _ H36 => (by
      split
      · rename_i a37 a38 a39 e40
        have H41 := keep_snd e40 (Hub.free_keeps B (wk.sub (by decide)) H36)
        exact (Hub.locketPut_keeps B (wk.sub (by decide)) H41))) H34)

theorem Hub.ep0Out_keeps {km : Nat} (B : Hub.Bears km P) (wk : Sub 0x4000000000000000000000020000000000000000000000000000000000000000 km) {h : Hub} {data : Bytes} (Hh : P h) : P (Hub.ep0Out h data) := by
  unfold Hub.ep0Out
  refine keep_ite ?_ ?_
  · exact Hh
  · refine keep_ite ?_ ?_
    · exact (Hub.ep0Drop_keeps B (wk.sub (by decide)) Hh)
    · exact (keep_ite (Hub.irq_keeps B (wk.sub (by decide)) (B.wr (wk.bit (by decide)) (B.wr (wk.bit (by decide)) (Hub.setBuf_keeps B (fun _ _ => (wk.bitAt (kind_word_UDF_EP0BUF _) (by decide))) Hh)))) Hh)

theorem Hub.writeRecord_keeps {km : Nat} (B : Hub.Bears km P) (wk : Sub 0x4000000000000000000000000000000000000000000000000000000000000000000000000000400 km) {h : Hub} {r : LkRec} (Hh : P h) : P (Hub.writeRecord h r) := by
  unfold Hub.writeRecord
  extract_lets +onlyGivenNames v1
  clear_value v1
  extract_lets +onlyGivenNames v2
  clear_value v2
  extract_lets +onlyGivenNames v3
  clear_value v3
  extract_lets +onlyGivenNames v4
  clear_value v4
  extract_lets +onlyGivenNames v5
  have H6 : P v5 := (B.lkRing (wk.bit (by decide)) Hh)
  clear_value v5
  exact (B.wr (wk.bit (by decide)) (B.wr (wk.bit (by decide)) H6))

theorem Hub.locketWrite_keeps {km : Nat} (B : Hub.Bears km P) (wk : Sub 0x6800000000000004000000000000000000000000000000000010000000000000000000000000400 km) {h : Hub} {storeOk : Bool} (Hh : P h) : P (Hub.locketWrite h storeOk) := by
  unfold Hub.locketWrite
  split
  · rename_i a1 e2
    exact Hh
  · rename_i a3 a4 a5 e6
    extract_lets +onlyGivenNames v7
    have H8 : P v7 := (B.lkQueue (wk.bit (by decide)) Hh)
    clear_value v7
    exact (keep_ite (Hub.writeRecord_keeps B (wk.sub (by decide)) H8) (Hub.raise_keeps B (wk.sub (by decide)) H8))

theorem Hub.locketFlush_keeps {km : Nat} (B : Hub.Bears km P) (wk : Sub 0x6800000000000004000000000000000000000000000000000010000000000000000000000000400 km) {h : Hub} (Hh : P h) : P (Hub.locketFlush h) := by
  unfold Hub.locketFlush
  exact (keep_each (fun _ _ H3 => (Hub.locketWrite_keeps B (wk.sub (by decide)) H3)) Hh)

theorem Hub.escalate_keeps {km : Nat} (B : Hub.Bears km P) (wk : Sub 0x8000000000000000000000000000000001ff87ffffffffffff9fe00000000000c000e63000000101010100070004010701a3030200010f030000000100017d5f km) {h : Hub} {pg : ℕ} (Hh : P h) : P (Hub.escalate h pg) := by
  unfold Hub.escalate
  extract_lets +onlyGivenNames v1
  have H2 : P v1 := (B.wr (wk.bit (by decide)) Hh)
  clear_value v1
  extract_lets +onlyGivenNames v3
  clear_value v3
  extract_lets +onlyGivenNames v4
  clear_value v4
  refine keep_ite ?_ ?_
  · exact H2
  · extract_lets +onlyGivenNames v5
    have H6 : P v5 := (Hub.locketFlush_keeps B (wk.sub (by decide)) (Hub.locketPut_keeps B (wk.sub (by decide)) H2))
    clear_value v5
    extract_lets +onlyGivenNames v7
    have H8 : P v7 := (B.wr (wk.bit (by decide)) (B.wr (wk.bit (by decide)) (B.wr (wk.bit (by decide)) H6)))
    clear_value v7
    refine keep_ite ?_ ?_
    · exact (Hub.hrst_keeps B (wk.sub (by decide)) H8)
    · extract_lets +onlyGivenNames v9
      have H10 : P v9 := (B.wr (wk.bit (by decide)) (B.wr (wk.bit (by decide)) (B.wr (wk.bit (by decide)) (Hub.cnt_keeps B (kind_ite (wk.bit (by decide)) (wk.bit (by decide))) H8))))
      clear_value v9
      refine keep_ite ?_ ?_
      · exact (Hub.enterSolitaire_keeps B (wk.sub (by decide)) H10)
      · exact (keep_ite (keep_each (fun _ _ H13 => (Hub.softReset_keeps B (wk.sub (by decide)) H13)) H10) (Hub.softReset_keeps B (wk.sub (by decide)) H10))

theorem Hub.ethLink_keeps {km : Nat} (B : Hub.Bears km P) (wk : Sub 0x2800000000000004000000000000000000000000001000000010000000000000000000000000400 km) {h : Hub} {m : ℕ} {up : Bool} {block : Bool} {fec : Bool} (Hh : P h) : P (Hub.ethLink h m up block fec) := by
  unfold Hub.ethLink
  extract_lets +onlyGivenNames v1
  clear_value v1
  extract_lets +onlyGivenNames v2
  have H3 : P v2 := (B.wr (wk.bit (by decide)) (B.wr (wk.bit (by decide)) (B.wr (wk.bit (by decide)) Hh)))
  clear_value v2
  exact (keep_when (fun _ H5 => (Hub.raise_keeps B (wk.sub (by decide)) H5)) (keep_when (fun _ H7 => (Hub.irq_keeps B (wk.sub (by decide)) H7)) H3))

theorem Hub.feed_keeps {km : Nat} (B : Hub.Bears km P) (wk : Sub 0x100000000000005fa80800000000000400000000000000000000000000000000001030100010b030000000000000404 km) {pt : ℕ} {h : Hub} (Hh : P h) : P (Hub.feed pt h) := by
  unfold Hub.feed
  extract_lets +onlyGivenNames v1
  clear_value v1
  exact (keep_when (fun _ H3 => (keep_each (fun _ _ H6 => (Hub.cellIn_keeps B (wk.sub (by decide)) H6)) (B.stalled (wk.bit (by decide)) H3))) Hh)

theorem Hub.inject_keeps {km : Nat} (B : Hub.Bears km P) (wk : Sub 0x100000000000005fa80800000000000400000000000000000000000000000000001030100010b030000000000000404 km) {h : Hub} {pt : ℕ} {cs : List Cell} (Hh : P h) : P (Hub.inject h pt cs) := by
  unfold Hub.inject
  exact (Hub.feed_keeps B (wk.sub (by decide)) (B.stalled (wk.bit (by decide)) Hh))

theorem Hub.ethRx_keeps {km : Nat} (B : Hub.Bears km P) (wk : Sub 0x100000000000005fa80800000000000400000000000000000000000000100000001030100010b030000000000000404 km) {h : Hub} {m : ℕ} {fcsOk : Bool} {full : Option ℕ} {fr : Bytes} (Hh : P h) : P (Hub.ethRx h m fcsOk full fr) := by
  unfold Hub.ethRx
  extract_lets +onlyGivenNames v1
  have H2 : ∀ a0, P a0 → P (v1 a0) := (fun _ H4 => (Hub.raise_keeps B (wk.sub (by decide)) (Hub.cnt_keeps B (wk.bit (by decide)) H4)))
  clear_value v1
  extract_lets +onlyGivenNames v5
  clear_value v5
  extract_lets +onlyGivenNames v6
  clear_value v6
  extract_lets +onlyGivenNames v7
  clear_value v7
  extract_lets +onlyGivenNames v8
  clear_value v8
  extract_lets +onlyGivenNames v9
  clear_value v9
  refine keep_ite ?_ ?_
  · exact (Hub.cnt_keeps B (wk.bit (by decide)) Hh)
  · refine keep_ite ?_ ?_
    · exact (Hub.cnt_keeps B (wk.bit (by decide)) Hh)
    · refine keep_ite ?_ ?_
      · exact (Hub.cnt_keeps B (wk.bit (by decide)) Hh)
      · split
        · rename_i a10 a11
          refine keep_ite ?_ ?_
          · exact (H2 _ Hh)
          · extract_lets +onlyGivenNames v12
            clear_value v12
            exact (H2 _ (Hub.inject_keeps B (wk.sub (by decide)) Hh))
        · rename_i a13
          extract_lets +onlyGivenNames v14
          clear_value v14
          extract_lets +onlyGivenNames v15
          clear_value v15
          extract_lets +onlyGivenNames v16
          clear_value v16
          extract_lets +onlyGivenNames v17
          have H18 : P v17 := (Hub.inject_keeps B (wk.sub (by decide)) Hh)
          clear_value v17
          refine keep_ite ?_ ?_
          · exact (Hub.cnt_keeps B (wk.bit (by decide)) H18)
          · exact (keep_ite (Hub.cnt_keeps B (wk.bit (by decide)) H18) (Hub.cnt_keeps B (wk.bit (by decide)) H18))

theorem Hub.ethTx_keeps {km : Nat} (B : Hub.Bears km P) (wk : Sub 0x10000000000000000000000000000000000000000000000000001000000000000000000000000000000000000 km) {h : Hub} {tid : ℕ} {poison : Bool} {fr : Bytes} (Hh : P h) : P (Hub.ethTx h tid poison fr) := by
  unfold Hub.ethTx
  split
  · rename_i a1 e2
    exact (keep_when (fun _ H4 => (Hub.cnt_keeps B (wk.bit (by decide)) H4)) Hh)
  · rename_i a5 a6 a7 e8
    exact (keep_when (fun _ H10 => (by
      extract_lets +onlyGivenNames v11
      clear_value v11
      extract_lets +onlyGivenNames v12
      clear_value v12
      exact (Hub.cnt_keeps B (kind_ite (wk.bit (by decide)) (wk.bit (by decide))) (B.ethOut (wk.bit (by decide)) H10)))) Hh)

theorem Hub.flyFail_keeps {km : Nat} (B : Hub.Bears km P) (wk : Sub 0x80000000000808000000000004000000000000000000000040000000000000000000000000000000000000000 km) {status : ℕ} {x : UsbFlight} {h : Hub} (Hh : P h) : P (Hub.flyFail status x h) := by
  unfold Hub.flyFail
  split
  · rename_i a1 a2 a3 e4
    have H5 := keep_snd e4 (Hub.free_keeps B (wk.sub (by decide)) Hh)
    split
    · rename_i a6 a7 a8 e9
      have H10 := keep_snd e9 (Hub.free_keeps B (wk.sub (by decide)) H5)
      extract_lets +onlyGivenNames v11
      have H12 : P v11 := (B.usbFly (wk.bit (by decide)) H10)
      clear_value v11
      exact (Hub.refreshHeld_keeps B (wk.sub (by decide)) (Hub.descFail_keeps B (wk.sub (by decide)) (Hub.dec_keeps B (wk.bit (by decide)) H12)))

theorem Hub.eventIn_keeps {km : Nat} (B : Hub.Bears km P) (wk : Sub 0xc0000000002808000000000004000000000000000000000040000000000010000000000000000000000000400 km) {h : Hub} {tid : ℕ} {ev : ℕ} {bus : ℕ} {wake : Bool} {old : ℕ} (Hh : P h) : P (Hub.eventIn h tid ev bus wake old) := by
  unfold Hub.eventIn
  extract_lets +onlyGivenNames v1
  have H2 : P v1 := (keep_when (fun _ H4 => (Hub.irq_keeps B (wk.sub (by decide)) (B.wr (wk.bit (by decide)) (B.wr (wk.bit (by decide)) (B.wr (wk.bit (by decide)) (B.wr (wk.bit (by decide)) H4)))))) Hh)
  clear_value v1
  extract_lets +onlyGivenNames v5
  clear_value v5
  exact (Hub.ringsGo_keeps B (wk.sub (by decide)) (keep_each (fun _ _ H8 => (Hub.raise_keeps B (wk.sub (by decide)) (Hub.cnt_keeps B (wk.bit (by decide)) (Hub.flyFail_keeps B (wk.sub (by decide)) H8)))) H2))

theorem Hub.restoreLane_keeps {km : Nat} (B : Hub.Bears km P) (wk : Sub 0x100000000 km) {l : Nat} {h : Hub} (Hh : P h) : P (Hub.restoreLane l h) := by
  unfold Hub.restoreLane
  exact keep_each_mem (fun p hp _ H => B.wr (wk.bit ((by decide : ∀ p ∈ Hub.savedFlds.zipIdx,
    Nat.testBit 0x100000000 p.1.kind = true) p hp)) H) Hh

theorem Hub.exitLow_keeps {km : Nat} (B : Hub.Bears km P) (wk : Sub 0x800a80200000000000c000201000000000000000000000000000010102000000030000000100014402 km) {h : Hub} {p : ℕ} (Hh : P h) : P (Hub.exitLow h p) := by
  unfold Hub.exitLow
  extract_lets +onlyGivenNames v1
  clear_value v1
  extract_lets +onlyGivenNames v2
  have H3 : P v2 := (keep_each (fun _ _ H6 => (by
      extract_lets +onlyGivenNames v7
      clear_value v7
      exact (keep_when (fun _ H9 => (B.wr (wk.bit (by decide)) (B.wr (wk.bit (by decide)) (B.wr (wk.bit (by decide)) (B.wr (wk.bit (by decide)) (Hub.setLane_keeps B (wk.sub (by decide)) (keep_when (fun _ H11 => (Hub.restoreLane_keeps B (wk.sub (by decide)) H11)) H9))))))) H6))) Hh)
  clear_value v2
  exact (Hub.backUp_keeps B (wk.sub (by decide)) (B.wr (wk.bit (by decide)) (Hub.refreshPortLanes_keeps B (wk.sub (by decide)) H3)))

theorem Hub.memViolation_keeps {km : Nat} (B : Hub.Bears km P) (wk : Sub 0x2800000000000004000000000000000000000000000000000010000000000000000000000000500 km) {h : Hub} {m : MasterId} {node : ℕ} {addr : ℕ} {write : Bool} {code : ℕ} {e : Option ℕ} (Hh : P h) : P (Hub.memViolation h m node addr write code e) := by
  unfold Hub.memViolation
  exact (Hub.violation_keeps B (wk.sub (by decide)) Hh)

theorem Hub.guardDrop_keeps {km : Nat} (B : Hub.Bears km P) (wk : Sub 0x2800000000000004000000000000000000000000000000000810000000000000000000000000400 km) {h : Hub} {a : ℕ} {master : ℕ} (Hh : P h) : P (Hub.guardDrop h a master) := by
  unfold Hub.guardDrop
  exact (Hub.raise_keeps B (wk.sub (by decide)) (Hub.cnt_keeps B (wk.bit (by decide)) Hh))

theorem Hub.farCheck_keeps {km : Nat} (B : Hub.Bears km P) (wk : Sub 0x2800000000000004000000000000000000000000000010000810000000000000000000000000500 km) {h : Hub} {src : ℕ} {t : TxbHdr} {off : ℕ} {n : ℕ} {write : Bool} (Hh : P h) : P (Hub.farCheck h src t off n write).2 := by
  unfold Hub.farCheck
  extract_lets +onlyGivenNames v1
  clear_value v1
  extract_lets +onlyGivenNames v2
  clear_value v2
  extract_lets +onlyGivenNames v3
  clear_value v3
  split
  · rename_i e4
    exact (keep_p2 Hh)
  · rename_i e5
    split
    · rename_i a6 a7 a8 e9
      exact (keep_p2 (Hub.memViolation_keeps B (wk.sub (by decide)) Hh))
    · rename_i a10 e11
      split
      · rename_i e12
        split
        · rename_i e13
          exact (keep_p2 (Hub.notReady_keeps B (wk.sub (by decide)) Hh))
        · rename_i e14
          split
          · rename_i e15
            exact (keep_p2 (Hub.raise_keeps B (wk.sub (by decide)) Hh))
          · rename_i e16
            split
            · rename_i e17
              exact (keep_p2 (Hub.guardDrop_keeps B (wk.sub (by decide)) Hh))
            · rename_i e18
              exact (keep_p2 Hh)
      · rename_i e19
        exact (keep_p2 Hh)

theorem Hub.fastRoleSwap_keeps {km : Nat} (B : Hub.Bears km P) (wk : Sub 0x800000000000800000000000004000000000000101010100000000000000000000000000000000000000000000 km) {h : Hub} {k : Fin 2} (Hh : P h) : P (Hub.fastRoleSwap h k) := by
  unfold Hub.fastRoleSwap
  extract_lets +onlyGivenNames v1
  have H2 : P v1 := (Hub.pdDrop_keeps B (wk.sub (by decide)) Hh)
  clear_value v1
  extract_lets +onlyGivenNames v3
  have H4 : P v3 := (keep_ite (B.wr (wk.bit (by decide)) (Hub.irq_keeps B (wk.sub (by decide)) (Hub.cnt_keeps B (wk.bit (by decide)) (Hub.pdSend_keeps B (wk.sub (by decide)) H2)))) (B.wr (wk.bit (by decide)) H2))
  clear_value v3
  exact (Hub.refreshBus_keeps B (wk.sub (by decide)) (Hub.pdMeasure_keeps B (wk.sub (by decide)) H4))

theorem Hub.fastSwap_keeps {km : Nat} (B : Hub.Bears km P) (wk : Sub 0x40000040800280200000000000c000001000000101010100000000000000010000000000000000000100010402 km) {h : Hub} {n : ℕ} (Hh : P h) : P (Hub.fastSwap h n) := by
  unfold Hub.fastSwap
  extract_lets +onlyGivenNames v1
  have H2 : P v1 := (Hub.irq_keeps B (wk.sub (by decide)) (Hub.cnt_keeps B (wk.bit (by decide)) (B.wr (wk.bit (by decide)) (B.wr (wk.bit (by decide)) (B.wr (wk.bit (by decide)) (Hub.setSw_keeps B (wk.sub (by decide)) Hh))))))
  clear_value v1
  exact (Hub.claspRequest_keeps B (wk.sub (by decide)) (Hub.refreshBus_keeps B (wk.sub (by decide)) H2))

theorem Hub.fifoDrain_keeps {km : Nat} (B : Hub.Bears km P) (wk : Sub 0x800000000000000000000000000000000000000000000000000000000000000000000000000004 km) {a : ℕ} {h : Hub} (Hh : P h) : P (Hub.fifoDrain a h) := by
  unfold Hub.fifoDrain
  exact (keep_when (fun _ H2 => (by
    split
    · rename_i a3 a4 a5 e6
      have H7 := keep_snd e6 (Hub.free_keeps B (wk.sub (by decide)) H2)
      exact (Hub.dec_keeps B (wk.bit (by decide)) H7))) Hh)

theorem Hub.fillDone_keeps {km : Nat} (B : Hub.Bears km P) (wk : Sub 0x2000000108000000000000000000000000000000000000000000000800000000000000000000000000000 km) {h : Hub} {w : Writer} (Hh : P h) : P (h.fillDone w) := by
  unfold Hub.fillDone
  extract_lets +onlyGivenNames n h1
  have H1 : P h1 := keep_each (fun k h H => by
    extract_lets +onlyGivenNames g
    have G : P g := B.fmem (wk.bit (by decide)) H fun W => Tab.wipe_wf _ _ _ W
    clear_value g
    exact Hub.setSlot_keeps B (wk.sub (by decide)) (Hub.setState_keeps B (wk.sub (by decide))
      (keep_each (fun _ _ H => Hub.setSig_keeps B (wk.sub (by decide)) H) G))) Hh
  clear_value h1
  extract_lets +onlyGivenNames h2
  have H2 : P h2 := B.wr (wk.bit (by decide)) (B.wr (wk.bit (by decide)) (B.wr (wk.bit (by decide)) H1))
  clear_value h2
  extract_lets +onlyGivenNames h3
  have H3 : P h3 := B.wr (wk.bit (by decide)) H2
  clear_value h3
  split
  · exact keep_when (fun _ H => Hub.nextHostFrame_keeps B (wk.sub (by decide)) H) H3
  · exact Hub.rxClosed_keeps B (wk.sub (by decide)) (Hub.refreshGap_keeps B (wk.sub (by decide)) (B.gaps (wk.bit (by decide)) H3))
  · exact H3

theorem Hub.fillSlot_keeps {km : Nat} (B : Hub.Bears km P) (wk : Sub 0x1000000000000000000000000000000000000000000000000000000000000000000000000000000004000 km) {h : Hub} {s : ℕ} {recip : ℕ} {sealed : ℕ} {k : Bytes} (Hh : P h) : P (Hub.fillSlot h s recip sealed k) := by
  unfold Hub.fillSlot
  extract_lets +onlyGivenNames v1
  have H2 : P v1 := (B.keys (wk.bit (by decide)) Hh)
  clear_value v1
  exact (Hub.refreshSlots_keeps B (wk.sub (by decide)) (keep_each (fun _ _ H5 => (B.wr (wk.bit (by decide)) H5)) (B.wr (wk.bit (by decide)) (B.wr (wk.bit (by decide)) (B.wr (wk.bit (by decide)) H2)))))

theorem Hub.findPolarity_keeps {km : Nat} (B : Hub.Bears km P) (wk : Sub 0x100000000 km) {h : Hub} {l : ℕ} {inverted : Bool} {valid : Bool} (Hh : P h) : P (Hub.findPolarity h l inverted valid) := by
  unfold Hub.findPolarity
  refine keep_ite ?_ ?_
  · exact Hh
  · exact (keep_ite (keep_when (fun _ H2 => (B.wr (wk.bit (by decide)) H2)) Hh) (B.wr (wk.bit (by decide)) Hh))

theorem Hub.flip_keeps {km : Nat} (B : Hub.Bears km P) (wk : Sub 0x8000000000000000000000000000000000000000000000820000000000000000000000000000 km) {h : Hub} {n : ℕ} (Hh : P h) : P (Hub.flip h n) := by
  unfold Hub.flip
  extract_lets +onlyGivenNames v1
  clear_value v1
  extract_lets +onlyGivenNames v2
  clear_value v2
  extract_lets +onlyGivenNames v3
  have H4 : ∀ a0, P a0 → P (v3 a0) := (fun _ H6 => (Hub.cnt_keeps B (wk.bit (by decide)) H6))
  clear_value v3
  refine keep_ite ?_ ?_
  · exact (B.wr (wk.bit (by decide)) (Hub.releaseHead_keeps B (wk.sub (by decide)) Hh))
  · split
    · rename_i a7 a8
      exact (keep_ite (B.wr (wk.bit (by decide)) (H4 _ Hh)) (B.wr (wk.bit (by decide)) (Hub.cnt_keeps B (wk.bit (by decide)) (B.wr (wk.bit (by decide)) (B.wr (wk.bit (by decide)) (B.wr (wk.bit (by decide)) (Hub.releaseHead_keeps B (wk.sub (by decide)) (Hub.hold_keeps B (wk.sub (by decide)) Hh))))))))
    · rename_i a9
      extract_lets +onlyGivenNames v10
      clear_value v10
      exact (B.wr (wk.bit (by decide)) (keep_when (fun _ H12 => (Hub.releaseHead_keeps B (wk.sub (by decide)) H12)) (H4 _ Hh)))

theorem Hub.raiseNak_keeps {km : Nat} (B : Hub.Bears km P) (wk : Sub 0x10000 km) {h : Hub} {p : ℕ} (Hh : P h) : P (Hub.raiseNak h p) := by
  unfold Hub.raiseNak
  extract_lets +onlyGivenNames v1
  clear_value v1
  exact (keep_when (fun _ H3 => (B.wr (wk.bit (by decide)) (B.wr (wk.bit (by decide)) H3))) Hh)

theorem Hub.resendFrom_keeps {km : Nat} (B : Hub.Bears km P) (wk : Sub 0xb987aa80200000000000c00060100000000000000000000000000001030200010f030000000100014402 km) {h : Hub} {p : ℕ} {f : RFrame} {charge : Bool} (Hh : P h) : P (Hub.resendFrom h p f charge) := by
  unfold Hub.resendFrom
  extract_lets +onlyGivenNames v1
  have H2 : P v1 := (B.wr (wk.bit (by decide)) (B.wr (wk.bit (by decide)) Hh))
  clear_value v1
  refine keep_ite ?_ ?_
  · exact H2
  · extract_lets +onlyGivenNames v3
    clear_value v3
    extract_lets +onlyGivenNames v4
    have H5 : P v4 := (B.wr (wk.bit (by decide)) H2)
    clear_value v4
    exact (keep_ite (Hub.retireLane_keeps B (wk.sub (by decide)) (Hub.raise_keeps B (wk.sub (by decide)) (B.wr (wk.bit (by decide)) H5))) H5)

theorem Hub.nakIn_keeps {km : Nat} (B : Hub.Bears km P) (wk : Sub 0xb987aa80200000000000c00060100000000000000000000000000001030200010f030000000100014402 km) {h : Hub} {p : ℕ} {v : ℕ} (Hh : P h) : P (Hub.nakIn h p v) := by
  unfold Hub.nakIn
  extract_lets +onlyGivenNames v1
  have H2 : P v1 := (Hub.cnt_keeps B (wk.bit (by decide)) Hh)
  clear_value v1
  split
  · rename_i a3 e4
    exact H2
  · rename_i a5 a6 e7
    extract_lets +onlyGivenNames v8
    clear_value v8
    exact (Hub.resendFrom_keeps B (wk.sub (by decide)) H2)

theorem Hub.frameIn_keeps {km : Nat} (B : Hub.Bears km P) (wk : Sub 0xb987aa80200000000000c00060100000000000000000000000000001030200010f030000000100014402 km) {g : Hub} {p : ℕ} {l : ℕ} {f : LinkFrame} (Hg : P g) : P (Hub.frameIn g p l f) := by
  unfold Hub.frameIn
  extract_lets +onlyGivenNames v1
  have H2 : P v1 := (keep_when (fun _ H4 => (B.wr (wk.bit (by decide)) H4)) Hg)
  clear_value v1
  refine keep_ite ?_ ?_
  · exact (Hub.raiseNak_keeps B (wk.sub (by decide)) (Hub.cnt_keeps B (wk.bit (by decide)) H2))
  · extract_lets +onlyGivenNames v5
    have H6 : P v5 := (keep_when (fun _ H8 => (Hub.irq_keeps B (wk.sub (by decide)) H8)) H2)
    clear_value v5
    extract_lets +onlyGivenNames v9
    have H10 : P v9 := (B.wr (wk.bit (by decide)) (B.wr (wk.bit (by decide)) H6))
    clear_value v9
    extract_lets +onlyGivenNames v11
    have H12 : P v11 := (keep_ite (Hub.ackIn_keeps B (wk.sub (by decide)) H10) (keep_ite (Hub.nakIn_keeps B (wk.sub (by decide)) H10) (keep_ite (Hub.creditIn_keeps B (wk.sub (by decide)) H10) (keep_ite (B.wr (wk.bit (by decide)) (B.wr (wk.bit (by decide)) H10)) H10))))
    clear_value v11
    refine keep_ite ?_ ?_
    · exact H12
    · extract_lets +onlyGivenNames v13
      clear_value v13
      refine keep_ite ?_ ?_
      · exact (Hub.acceptFrame_keeps B (wk.sub (by decide)) H12)
      · exact (keep_ite (Hub.raiseNak_keeps B (wk.sub (by decide)) (Hub.cnt_keeps B (wk.bit (by decide)) H12)) (Hub.cnt_keeps B (wk.bit (by decide)) H12))

theorem Hub.framePut_keeps {km : Nat} (B : Hub.Bears km P) (wk : Sub 0x400000000000000000000000000000000000000000000000000000000000000000000000000100000000 km) {h : Hub} {l : ℕ} {f : LinkFrame} (Hh : P h) : P (Hub.framePut h l f) := by
  unfold Hub.framePut
  extract_lets +onlyGivenNames v1
  clear_value v1
  exact (B.wr (wk.bit (by decide)) (B.wire (wk.bit (by decide)) Hh))

theorem Hub.freeCredit_keeps {km : Nat} (B : Hub.Bears km P) (wk : Sub 0x10000 km) {h : Hub} {pt : ℕ} {vc : ℕ} (Hh : P h) : P (Hub.freeCredit h pt vc) := by
  unfold Hub.freeCredit
  exact (keep_when (fun _ H2 => (B.wr (wk.bit (by decide)) (B.wr (wk.bit (by decide)) H2))) Hh)

theorem Hub.freeOfCharge_keeps {km : Nat} (B : Hub.Bears km P) (wk : Sub 0x10000 km) {p : ℕ} {h : Hub} (Hh : P h) : P (Hub.freeOfCharge p h) := by
  unfold Hub.freeOfCharge
  exact (keep_when (fun _ H2 => (B.wr (wk.bit (by decide)) H2)) Hh)

theorem Hub.hdrsHeard_keeps {km : Nat} (B : Hub.Bears km P) (wk : Sub 0x100000000 km) {h : Hub} {l : ℕ} (Hh : P h) : P (Hub.hdrsHeard h l) := by
  unfold Hub.hdrsHeard
  exact (keep_when (fun _ H2 => (by
    extract_lets +onlyGivenNames v3
    clear_value v3
    exact (keep_when (fun _ H5 => (B.wr (wk.bit (by decide)) (B.wr (wk.bit (by decide)) H5))) (B.wr (wk.bit (by decide)) H2)))) Hh)

theorem Hub.hearNbr_keeps {km : Nat} (B : Hub.Bears km P) (wk : Sub 0xc00000000006788a808000000000004000480000000000000000000000000000010302000000030000000000000400 km) {h : Hub} {p : ℕ} {n : Nbr} (Hh : P h) : P (Hub.hearNbr h p n) := by
  unfold Hub.hearNbr
  extract_lets +onlyGivenNames v1
  clear_value v1
  extract_lets +onlyGivenNames v2
  clear_value v2
  extract_lets +onlyGivenNames v3
  clear_value v3
  extract_lets +onlyGivenNames v4
  clear_value v4
  extract_lets +onlyGivenNames v5
  have H6 : P v5 := (keep_when (fun _ H8 => (B.wr (wk.bit (by decide)) (B.wr (wk.bit (by decide)) H8))) Hh)
  clear_value v5
  refine keep_ite ?_ ?_
  · exact H6
  · extract_lets +onlyGivenNames v9
    clear_value v9
    extract_lets +onlyGivenNames v10
    have H11 : P v10 := (keep_when (fun _ H13 => (Hub.setCrown_keeps B (wk.sub (by decide)) (B.wr (wk.bit (by decide)) H13))) H6)
    clear_value v10
    extract_lets +onlyGivenNames v14
    have H15 : P v14 := (keep_when (fun _ H17 => (Hub.depose_keeps B (wk.sub (by decide)) H17)) H11)
    clear_value v14
    extract_lets +onlyGivenNames v18
    have H19 : P v18 := (keep_when (fun _ H21 => (B.wr (wk.bit (by decide)) H21)) H15)
    clear_value v18
    exact (keep_when (fun _ H23 => (keep_when (fun _ H25 => (Hub.crownPlace_keeps B (wk.sub (by decide)) H25)) (Hub.clearDiscovery_keeps B (wk.sub (by decide)) (B.wr (wk.bit (by decide)) H23)))) H19)

theorem Hub.hostCommit_keeps {km : Nat} (B : Hub.Bears km P) (wk : Sub 0x8000000000000000000000000000000000000000000000800000000000000000000000000000 km) {h : Hub} {n : Fin 64} (Hh : P h) : P (Hub.hostCommit h n) := by
  unfold Hub.hostCommit
  split
  · rename_i a1 e2
    exact (B.wr (wk.bit (by decide)) Hh)
  · rename_i a3 a4 e5
    extract_lets +onlyGivenNames v6
    have H7 : P v6 := (keep_each (fun _ _ H10 => (Hub.signTile_keeps B (wk.sub (by decide)) H10)) Hh)
    clear_value v6
    exact (Hub.nextHostFrame_keeps B (wk.sub (by decide)) (Hub.commitSlot_keeps B (wk.sub (by decide)) (B.wr (wk.bit (by decide)) H7)))

theorem Hub.putRaster_keeps {km : Nat} (B : Hub.Bears km P) (wk : Sub 0x100000000000000000000000000000000000000000000000000000000000000000000000000000 km) {k : ℕ} {rel : ℕ} {b : Byte} {h : Hub} (Hh : P h) : P (Hub.putRaster k rel b h) := by
  unfold Hub.putRaster
  extract_lets +onlyGivenNames v1
  clear_value v1
  refine keep_ite ?_ ?_
  · exact Hh
  · exact (keep_ite Hh (Hub.fput_keeps B (wk.sub (by decide)) Hh))

theorem Hub.hostWrite_keeps {km : Nat} (B : Hub.Bears km P) (wk : Sub 0x2900000000000004000000000000000000000000000010000810000000000000000000000000500 km) {h : Hub} {n : Fin 64} {off : ℕ} {data : Bytes} (Hh : P h) : P (Hub.hostWrite h n off data) := by
  unfold Hub.hostWrite
  extract_lets +onlyGivenNames v1
  have H2 : ∀ a0, P a0 → P (v1 a0) := (fun _ H4 => (B.wr (wk.bit (by decide)) H4))
  clear_value v1
  refine keep_ite ?_ ?_
  · exact Hh
  · refine keep_ite ?_ ?_
    · exact (H2 _ (Hub.notReady_keeps B (wk.sub (by decide)) Hh))
    · refine keep_ite ?_ ?_
      · exact (H2 _ Hh)
      · extract_lets +onlyGivenNames v5
        clear_value v5
        extract_lets +onlyGivenNames v6
        clear_value v6
        extract_lets +onlyGivenNames v7
        clear_value v7
        extract_lets +onlyGivenNames v8
        clear_value v8
        refine keep_ite ?_ ?_
        · exact (keep_when (fun _ H10 => (Hub.guardDrop_keeps B (wk.sub (by decide)) H10)) (H2 _ Hh))
        · split
          · rename_i a11 a12 a13 e14
            exact (Hub.memViolation_keeps B (wk.sub (by decide)) (H2 _ Hh))
          · rename_i a15 e16
            extract_lets +onlyGivenNames v17
            have H18 : P v17 := (Hub.countWr_keeps B (wk.sub (by decide)) (keep_each (fun _ _ H21 => (by
                split
                · rename_i a22 a23 a24
                  exact (Hub.putRaster_keeps B (wk.sub (by decide)) H21))) Hh))
            clear_value v17
            refine keep_ite ?_ ?_
            · exact H18
            · extract_lets +onlyGivenNames v25
              have H26 : P v25 := (keep_when (fun _ H28 => (Hub.cnt_keeps B (wk.bit (by decide)) (B.wr (wk.bit (by decide)) H28))) H18)
              clear_value v25
              exact (B.wr (wk.bit (by decide)) H26)

theorem Hub.hpdIrq_keeps {km : Nat} (B : Hub.Bears km P) (wk : Sub 0x2800000000000004000000000000000000000000000000001030000000000000000000000000402 km) {h : Hub} {n : ℕ} {lostLock : Bool} {retrained : Bool} (Hh : P h) : P (Hub.hpdIrq h n lostLock retrained) := by
  unfold Hub.hpdIrq
  extract_lets +onlyGivenNames v1
  have H2 : P v1 := (B.wr (wk.bit (by decide)) Hh)
  clear_value v1
  refine keep_ite ?_ ?_
  · exact H2
  · extract_lets +onlyGivenNames v3
    clear_value v3
    extract_lets +onlyGivenNames v4
    clear_value v4
    exact (keep_ite (Hub.waitLink_keeps B (wk.sub (by decide)) (Hub.setLink_keeps B (wk.sub (by decide)) (B.wr (wk.bit (by decide)) (B.wr (wk.bit (by decide)) (Hub.setLink_keeps B (wk.sub (by decide)) H2))))) (Hub.raise_keeps B (wk.sub (by decide)) (Hub.cnt_keeps B (wk.bit (by decide)) (Hub.setLink_keeps B (wk.sub (by decide)) H2))))

theorem Hub.hpdLost_keeps {km : Nat} (B : Hub.Bears km P) (wk : Sub 0x2800000000000004000000000000000000000000000000001030000000000000000000000000402 km) {h : Hub} {n : ℕ} (Hh : P h) : P (Hub.hpdLost h n) := by
  unfold Hub.hpdLost
  exact (Hub.raise_keeps B (wk.sub (by decide)) (Hub.setLink_keeps B (wk.sub (by decide)) (Hub.cnt_keeps B (wk.bit (by decide)) (B.wr (wk.bit (by decide)) (B.wr (wk.bit (by decide)) Hh)))))

theorem Hub.hrstBall_keeps {km : Nat} (B : Hub.Bears km P) (wk : Sub 0x80000000000000000000000000000000003f87fffffffffffb8fe00000000000c000842000000000000000000000000000010000000000010000000000003c0f km) {h : Hub} {low : Bool} {straps : ℕ} (Hh : P h) : P (Hub.hrstBall h low straps) := by
  unfold Hub.hrstBall
  exact (keep_ite (B.wr (wk.bit (by decide)) (Hub.hardReset_keeps B (wk.sub (by decide)) Hh)) (keep_when (fun _ H2 => (Hub.setStraps_keeps B (wk.sub (by decide)) (B.wr (wk.bit (by decide)) H2))) Hh))

theorem Hub.hsrateUpdate_keeps {km : Nat} (B : Hub.Bears km P) (wk : Sub 0x3800000000000004000000000000000000000000000000000010000000000000000000000000404 km) {h : Hub} {rate : ℕ} (Hh : P h) : P (Hub.hsrateUpdate h rate) := by
  unfold Hub.hsrateUpdate
  extract_lets +onlyGivenNames v1
  clear_value v1
  extract_lets +onlyGivenNames v2
  clear_value v2
  extract_lets +onlyGivenNames v3
  clear_value v3
  extract_lets +onlyGivenNames v4
  clear_value v4
  extract_lets +onlyGivenNames v5
  clear_value v5
  extract_lets +onlyGivenNames v6
  clear_value v6
  extract_lets +onlyGivenNames v7
  have H8 : P v7 := (B.wr (wk.bit (by decide)) (B.wr (wk.bit (by decide)) (B.wr (wk.bit (by decide)) (B.filWin (wk.bit (by decide)) Hh))))
  clear_value v7
  exact (keep_ite (Hub.raise_keeps B (wk.sub (by decide)) H8) H8)

theorem Hub.hubReq_keeps {km : Nat} (B : Hub.Bears km P) (wk : Sub 0x140000000000808000000000004000000000000000000000070000000000000000000000000000000000000000 km) {h : Hub} {q : HubReq} (Hh : P h) : P (Hub.hubReq h q) := by
  unfold Hub.hubReq
  extract_lets +onlyGivenNames v1
  clear_value v1
  split
  · rename_i a2 a3
    exact (keep_when (fun _ H5 => (Hub.setPortStat_keeps B (wk.sub (by decide)) H5)) Hh)
  · rename_i a6 a7
    exact (keep_when (fun _ H9 => (Hub.setPortStat_keeps B (wk.sub (by decide)) H9)) Hh)
  · rename_i a10 a11
    exact (keep_when (fun _ H13 => (Hub.setPortStat_keeps B (wk.sub (by decide)) H13)) Hh)
  · rename_i a14 a15
    exact (keep_when (fun _ H17 => (Hub.setPortStat_keeps B (wk.sub (by decide)) H17)) Hh)
  · rename_i a18 a19
    exact (keep_when (fun _ H21 => (Hub.setPortStat_keeps B (wk.sub (by decide)) H21)) Hh)
  · rename_i a22 a23
    exact (keep_when (fun _ H25 => (Hub.usbReset_keeps B (wk.sub (by decide)) (Hub.setPortStat_keeps B (wk.sub (by decide)) H25))) Hh)
  · rename_i a26 a27
    exact (keep_when (fun _ H29 => (keep_when (fun _ H31 => (Hub.udfSuspend_keeps B (wk.sub (by decide)) H31)) (Hub.setPortStat_keeps B (wk.sub (by decide)) H29))) Hh)
  · rename_i a32 a33
    exact (keep_when (fun _ H35 => (keep_when (fun _ H37 => (Hub.udfSuspend_keeps B (wk.sub (by decide)) H37)) (Hub.setPortStat_keeps B (wk.sub (by decide)) H35))) Hh)

theorem Hub.inToken_keeps {km : Nat} (B : Hub.Bears km P) (wk : Sub 0x200000000000000000000000004000000000000000000000020000000000000000000000000000000000000000 km) {h : Hub} {ep : ℕ} (Hh : P h) : P (Hub.inToken h ep) := by
  unfold Hub.inToken
  refine keep_ite ?_ ?_
  · refine keep_ite ?_ ?_
    · exact Hh
    · refine keep_ite ?_ ?_
      · exact (B.wr (wk.bit (by decide)) (B.wr (wk.bit (by decide)) Hh))
      · refine keep_ite ?_ ?_
        · extract_lets +onlyGivenNames v1
          clear_value v1
          extract_lets +onlyGivenNames v2
          have H3 : P v2 := (B.udfOut (wk.bit (by decide)) Hh)
          clear_value v2
          exact (keep_when (fun _ H5 => (B.wr (wk.bit (by decide)) H5)) (Hub.irq_keeps B (wk.sub (by decide)) (B.wr (wk.bit (by decide)) H3)))
        · exact Hh
  · exact (keep_ite (keep_when (fun _ H7 => (Hub.irq_keeps B (wk.sub (by decide)) (B.wr (wk.bit (by decide)) (B.udfOut (wk.bit (by decide)) H7)))) Hh) (keep_when (fun _ H9 => (Hub.irq_keeps B (wk.sub (by decide)) (B.wr (wk.bit (by decide)) (B.udfOut (wk.bit (by decide)) H9)))) Hh))

theorem Hub.infoField_keeps {km : Nat} (B : Hub.Bears km P) (wk : Sub 0x10000 km) {h : Hub} {p : ℕ} {lowest : Bool} (Hh : P h) : P (Hub.infoField h p lowest).2.2 := by
  unfold Hub.infoField
  split
  · rename_i e1
    exact (keep_p22 (Hub.cnt_keeps B (wk.bit (by decide)) (B.wr (wk.bit (by decide)) (B.wr (wk.bit (by decide)) Hh))))
  · rename_i e2
    split
    · rename_i e3
      exact (Hub.ackField_keeps B (wk.sub (by decide)) Hh)
    · rename_i e4
      split
      · rename_i a5 a6 e7
        extract_lets +onlyGivenNames v8
        clear_value v8
        exact (keep_p22 (B.wr (wk.bit (by decide)) (B.wr (wk.bit (by decide)) Hh)))
      · rename_i a9 e10
        split
        · rename_i e11
          exact (Hub.ackField_keeps B (wk.sub (by decide)) Hh)
        · rename_i e12
          split
          · rename_i e13
            extract_lets +onlyGivenNames v14
            clear_value v14
            exact (keep_p22 (B.wr (wk.bit (by decide)) (B.wr (wk.bit (by decide)) (B.wr (wk.bit (by decide)) Hh))))
          · rename_i e15
            exact (keep_p22 Hh)

theorem Hub.standbyLost_keeps {km : Nat} (B : Hub.Bears km P) (wk : Sub 0x40808000000000000004000000000000000000000000000000000000100000000010000000000000000 km) {h : Hub} (Hh : P h) : P (Hub.standbyLost h) := by
  unfold Hub.standbyLost
  extract_lets +onlyGivenNames v1
  clear_value v1
  exact (Hub.appoint_keeps B (wk.sub (by decide)) (Hub.irq_keeps B (wk.sub (by decide)) (B.wr (wk.bit (by decide)) (B.wr (wk.bit (by decide)) (B.ready (wk.bit (by decide)) Hh)))))

theorem Hub.intentAcked_keeps {km : Nat} (B : Hub.Bears km P) (wk : Sub 0x49808000000000000004000000000000000000000000000000000000100000000010000000000000000 km) {h : Hub} {g : ℕ} {status : ℕ} (Hh : P h) : P (Hub.intentAcked h g status) := by
  unfold Hub.intentAcked
  split
  · rename_i a1 e2
    exact Hh
  · rename_i a3 a4 e5
    refine keep_ite ?_ ?_
    · extract_lets +onlyGivenNames v6
      have H7 : P v6 := (Hub.endChange_keeps B (wk.sub (by decide)) Hh)
      clear_value v6
      refine keep_ite ?_ ?_
      · exact H7
      · exact (keep_ite (Hub.nbrChange_keeps B (wk.sub (by decide)) H7 (fun _ H9 => (Hub.standbyLost_keeps B (wk.sub (by decide)) H9))) (keep_each (fun _ _ H12 => (Hub.askFor_keeps B (wk.sub (by decide)) H12)) H7))
    · exact (keep_ite (Hub.sendStep_keeps B (wk.sub (by decide)) Hh) (B.changes (wk.bit (by decide)) Hh))

theorem Hub.issuePieces_keeps {km : Nat} (B : Hub.Bears km P) (wk : Sub 0x4000000002900000000000004000000000000000000000000000010000810000000000000000000000000500 km) {m : TxbIn} {busOk : Bool} {l : List (Nat × Nat)} :
    ∀ {h : Hub}, P h → P (h.issuePieces m busOk l).2 := by
  induction l with
  | nil => exact fun H => H
  | cons x ps ih =>
    obtain ⟨off, n⟩ := x
    intro h H
    rw [Hub.issuePieces]
    split
    rename_i st h1 e
    have H1 : P h1 := keep_snd e (Hub.farCheck_keeps B (wk.sub (by decide)) H)
    extract_lets mem st' a bs
    split
    · exact H1
    · exact ih (keep_ite (Hub.countWr_keeps B (wk.sub (by decide)) (Hub.fput_keeps B (wk.sub (by decide)) H1)) (B.pcieOut (wk.bit (by decide)) H1))

theorem Hub.issueRead_keeps {km : Nat} (B : Hub.Bears km P) (wk : Sub 0x5020000002800000000000004000000000000000000000000000010100810000000000000000000000000500 km) {h : Hub} {m : TxbIn} (Hh : P h) : P (Hub.issueRead h m) := by
  unfold Hub.issueRead
  split
  · rename_i a1 a2 a3 e4
    have H5 := keep_snd e4 (Hub.farCheck_keeps B (wk.sub (by decide)) Hh)
    refine keep_ite ?_ ?_
    · exact (Hub.cplSend_keeps B (wk.sub (by decide)) H5)
    · extract_lets +onlyGivenNames v6
      clear_value v6
      extract_lets +onlyGivenNames v7
      have H8 : P v7 := (Hub.dec_keeps B (wk.bit (by decide)) H5)
      clear_value v7
      exact (keep_ite (Hub.countRd_keeps B (wk.sub (by decide)) (B.rdBus (wk.bit (by decide)) H8)) (B.set_rdBus_pcieOut (wk.bit (by decide)) (wk.bit (by decide)) H8))

theorem Hub.refreshLand_keeps {km : Nat} (B : Hub.Bears km P) (wk : Sub 0x100000000000000000000000000000000 km) {h : Hub} (Hh : P h) : P (Hub.refreshLand h) := by
  unfold Hub.refreshLand
  exact (B.wr (wk.bit (by decide)) Hh)

theorem Hub.postError_keeps {km : Nat} (B : Hub.Bears km P) (wk : Sub 0x2020000000000000000000000000000000000000000000000000000100000000000000000000000000000000 km) {h : Hub} {m : TxbIn} {status : ℕ} (Hh : P h) : P (Hub.postError h m status) := by
  unfold Hub.postError
  extract_lets +onlyGivenNames v1
  clear_value v1
  extract_lets +onlyGivenNames v2
  have H3 : P v2 := (keep_ite (Hub.refreshPf_keeps B (wk.sub (by decide)) (B.pfifo (wk.bit (by decide)) Hh)) (B.wr (wk.bit (by decide)) Hh))
  clear_value v2
  exact (Hub.cnt_keeps B (wk.bit (by decide)) (Hub.txbSend_keeps B (wk.sub (by decide)) H3))

theorem Hub.issueWrite_keeps {km : Nat} (B : Hub.Bears km P) (wk : Sub 0x6420000002900000000000004000000000000000000000000000010100810000000000000000000000000500 km) {h : Hub} {busOk : Bool} (Hh : P h) : P (Hub.issueWrite h busOk) := by
  unfold Hub.issueWrite
  split
  · rename_i a1 e2
    exact Hh
  · rename_i a3 a4 a5 e6
    extract_lets +onlyGivenNames v7
    have H8 : P v7 := (Hub.refreshLand_keeps B (wk.sub (by decide)) (B.land (wk.bit (by decide)) Hh))
    clear_value v7
    extract_lets +onlyGivenNames v9
    clear_value v9
    split
    · rename_i a10 a11 a12 e13
      have H14 := keep_snd e13 (by
          split
          · rename_i e15
            exact (Hub.issuePieces_keeps B (wk.sub (by decide)) H8)
          · rename_i e16
            exact (keep_p2 H8))
      exact (keep_ite H14 (Hub.postError_keeps B (wk.sub (by decide)) H14))

theorem Hub.keyCmd_keeps {km : Nat} (B : Hub.Bears km P) (wk : Sub 0x28a0000000000004000000000000000000000000000000000010000000000000000000000004500 km) {h : Hub} {r : Req} {op : ℕ} {v : ℕ} (Hh : P h) : P (Hub.keyCmd h r op v) := by
  unfold Hub.keyCmd
  exact (Hub.asReg_keeps B (wk.sub (by decide)) Hh (fun _ H2 => (keep_when (fun _ H4 => (Hub.keyGo_keeps B (wk.sub (by decide)) H4)) H2)))

theorem Hub.keyEnd_keeps {km : Nat} (B : Hub.Bears km P) (wk : Sub 0x4000000000000000000000000000000000000000000000000000000000004000 km) {h : Hub} {code : ℕ} (Hh : P h) : P (Hub.keyEnd h code) := by
  unfold Hub.keyEnd
  exact (Hub.irq_keeps B (wk.sub (by decide)) (keep_when (fun _ H2 => (Hub.cnt_keeps B (wk.bit (by decide)) H2)) (Hub.cnt_keeps B (wk.bit (by decide)) (B.wr (wk.bit (by decide)) (B.wr (wk.bit (by decide)) Hh)))))

theorem Hub.keyRun_keeps {km : Nat} (B : Hub.Bears km P) (wk : Sub 0x1e000001000002800000000000004000000000000000000000000000000000010000000000000000000000004400 km) {h : Hub} {op : ℕ} {dst : ℕ} {src : ℕ} {srcsel : ℕ} {recip : ℕ} {sealed : ℕ} {mask : ℕ} {infolen : ℕ} {record : ℕ} {agree : Bool} {useStatic : Bool} {storeOk : Bool} (Hh : P h) : P (Hub.keyRun h op dst src srcsel recip sealed mask infolen record agree useStatic storeOk) := by
  unfold Hub.keyRun
  extract_lets +onlyGivenNames v1
  clear_value v1
  split
  · extract_lets +onlyGivenNames v2
    clear_value v2
    exact (Hub.keyEnd_keeps B (wk.sub (by decide)) (Hub.fillSlot_keeps B (wk.sub (by decide)) (B.freeIx (wk.bit (by decide)) Hh)))
  · extract_lets +onlyGivenNames v3
    clear_value v3
    exact (Hub.keyEnd_keeps B (wk.sub (by decide)) (Hub.fillSlot_keeps B (wk.sub (by decide)) Hh))
  · refine keep_ite ?_ ?_
    · exact (Hub.keyEnd_keeps B (wk.sub (by decide)) (Hub.setBuf_keeps B (fun _ hj => wk.bitAt (kind_word_KEY_PUB (pub_words hj)) (by decide)) Hh))
    · extract_lets +onlyGivenNames v4
      clear_value v4
      exact (Hub.keyEnd_keeps B (wk.sub (by decide)) (Hub.setBuf_keeps B (fun _ hj => wk.bitAt (kind_word_KEY_PUB (pub_words hj)) (by decide)) (B.set_freeIx_ephemeral (wk.bit (by decide)) (wk.bit (by decide)) Hh)))
  · extract_lets +onlyGivenNames v5
    clear_value v5
    extract_lets +onlyGivenNames v6
    clear_value v6
    exact (keep_ite (Hub.keyEnd_keeps B (wk.sub (by decide)) Hh) (Hub.keyEnd_keeps B (wk.sub (by decide)) (B.set_ephemeral_agree (wk.bit (by decide)) (wk.bit (by decide)) Hh)))
  · exact (Hub.keyEnd_keeps B (wk.sub (by decide)) (Hub.fillSlot_keeps B (wk.sub (by decide)) Hh))
  · refine keep_ite ?_ ?_
    · exact (Hub.keyEnd_keeps B (wk.sub (by decide)) Hh)
    · extract_lets +onlyGivenNames v10
      clear_value v10
      extract_lets +onlyGivenNames v11
      clear_value v11
      extract_lets +onlyGivenNames v12
      clear_value v12
      exact (Hub.keyEnd_keeps B (wk.sub (by decide)) (B.set_recs_marks (wk.bit (by decide)) (wk.bit (by decide)) Hh))
  · extract_lets +onlyGivenNames v13
    clear_value v13
    extract_lets +onlyGivenNames v14
    clear_value v14
    extract_lets +onlyGivenNames v15
    clear_value v15
    refine keep_ite ?_ ?_
    · exact (Hub.keyEnd_keeps B (wk.sub (by decide)) Hh)
    · exact (keep_ite (Hub.keyEnd_keeps B (wk.sub (by decide)) (Hub.raise_keeps B (wk.sub (by decide)) Hh)) (Hub.keyEnd_keeps B (wk.sub (by decide)) (Hub.fillSlot_keeps B (wk.sub (by decide)) Hh)))
  · exact (Hub.keyEnd_keeps B (wk.sub (by decide)) (Hub.emptySlot_keeps B (wk.sub (by decide)) Hh))
  · extract_lets +onlyGivenNames v16
    clear_value v16
    refine keep_ite ?_ ?_
    · exact (Hub.keyEnd_keeps B (wk.sub (by decide)) Hh)
    · exact (keep_ite (Hub.keyEnd_keeps B (wk.sub (by decide)) Hh) (Hub.keyEnd_keeps B (wk.sub (by decide)) (B.marks (wk.bit (by decide)) Hh)))

theorem Hub.keyDone_keeps {km : Nat} (B : Hub.Bears km P) (wk : Sub 0x1e000001000002800000000000004000000000000000000000000000000000010000000000000000000000004400 km) {h : Hub} {storeOk : Bool} (Hh : P h) : P (Hub.keyDone h storeOk) := by
  unfold Hub.keyDone
  extract_lets +onlyGivenNames v1
  clear_value v1
  extract_lets +onlyGivenNames v2
  clear_value v2
  extract_lets +onlyGivenNames v3
  clear_value v3
  split
  · rename_i a4 e5
    exact (Hub.keyRun_keeps B (wk.sub (by decide)) Hh)
  · rename_i a6 e7
    exact (Hub.keyEnd_keeps B (wk.sub (by decide)) Hh)

theorem Hub.keyIn_keeps {km : Nat} (B : Hub.Bears km P) (wk : Sub 0x800a800000000000004000200000000000000000000000000000010102000000030000000000014400 km) {h : Hub} {p : ℕ} {tok : ℕ} {phase : ℕ} {span : ℕ} (Hh : P h) : P (Hub.keyIn h p tok phase span) := by
  unfold Hub.keyIn
  extract_lets +onlyGivenNames v1
  clear_value v1
  extract_lets +onlyGivenNames v2
  clear_value v2
  extract_lets +onlyGivenNames v3
  have H4 : P v3 := (Hub.lmcSend_keeps B (wk.sub (by decide)) Hh)
  clear_value v3
  refine keep_ite ?_ ?_
  · exact (keep_when (fun _ H6 => (Hub.raise_keeps B (wk.sub (by decide)) H6)) H4)
  · exact (keep_ite (B.wr (wk.bit (by decide)) H4) (Hub.armed_keeps B (wk.sub (by decide)) (B.wr (wk.bit (by decide)) (B.wr (wk.bit (by decide)) (B.wr (wk.bit (by decide)) H4)))))

theorem Hub.keyackIn_keeps {km : Nat} (B : Hub.Bears km P) (wk : Sub 0x800a800000000000004000200000000000000000000000000000010102000000030000000000014400 km) {h : Hub} {p : ℕ} {tok : ℕ} {status : ℕ} (Hh : P h) : P (Hub.keyackIn h p tok status) := by
  unfold Hub.keyackIn
  refine keep_ite ?_ ?_
  · exact Hh
  · extract_lets +onlyGivenNames v1
    have H2 : P v1 := (B.wr (wk.bit (by decide)) Hh)
    clear_value v1
    refine keep_ite ?_ ?_
    · exact (keep_ite (B.wr (wk.bit (by decide)) H2) (B.wr (wk.bit (by decide)) H2))
    · exact (keep_ite (Hub.armed_keeps B (wk.sub (by decide)) (B.wr (wk.bit (by decide)) (B.wr (wk.bit (by decide)) H2))) H2)

theorem Hub.scrPut_keeps {km : Nat} (B : Hub.Bears km P) (wk : Sub 0x400000000000000000000000000000000000000000000000000000000000000000000000000100000000 km) {h : Hub} {l : ℕ} {hdr : ℕ} {v : ℕ} (Hh : P h) : P (Hub.scrPut h l hdr v) := by
  unfold Hub.scrPut
  split
  · rename_i a1 a2 a3 e4
    exact (B.wr (wk.bit (by decide)) (Hub.wirePut_keeps B (wk.sub (by decide)) Hh))

theorem Hub.trainPut_keeps {km : Nat} (B : Hub.Bears km P) (wk : Sub 0x400000000000000000000000000000000000000000000000000000000000000000000000000100000000 km) {h : Hub} {l : ℕ} (Hh : P h) : P (Hub.trainPut h l) := by
  unfold Hub.trainPut
  extract_lets +onlyGivenNames v1
  clear_value v1
  exact (B.wr (wk.bit (by decide)) (keep_ite (Hub.applyPreset_keeps B (wk.sub (by decide)) (Hub.ctlPut_keeps B (wk.sub (by decide)) Hh)) (Hub.scrPut_keeps B (wk.sub (by decide)) Hh)))

theorem Hub.laneCycle_keeps {km : Nat} (B : Hub.Bears km P) (wk : Sub 0x400000000000000000000000000000000000000000000000000000000000000000000000000100000000 km) {l : ℕ} {h : Hub} (Hh : P h) : P (Hub.laneCycle l h) := by
  unfold Hub.laneCycle
  extract_lets +onlyGivenNames v1
  clear_value v1
  extract_lets +onlyGivenNames v2
  clear_value v2
  refine keep_ite ?_ ?_
  · exact Hh
  · exact (keep_ite (Hub.ctlPut_keeps B (wk.sub (by decide)) Hh) (Hub.trainPut_keeps B (wk.sub (by decide)) Hh))

theorem Hub.lateReady_keeps {km : Nat} (B : Hub.Bears km P) (wk : Sub 0x800a80200000000000c000201000000000000000000000000000010102000000030000000100014402 km) {h : Hub} {l : ℕ} (Hh : P h) : P (Hub.lateReady h l) := by
  unfold Hub.lateReady
  extract_lets +onlyGivenNames v1
  clear_value v1
  refine keep_ite ?_ ?_
  · exact (Hub.raise_keeps B (wk.sub (by decide)) Hh)
  · extract_lets +onlyGivenNames v2
    clear_value v2
    extract_lets +onlyGivenNames v3
    clear_value v3
    extract_lets +onlyGivenNames v4
    have H5 : P v4 := (keep_when (fun _ H7 => (Hub.raise_keeps B (wk.sub (by decide)) H7)) (B.wr (wk.bit (by decide)) Hh))
    clear_value v4
    extract_lets +onlyGivenNames v8
    clear_value v8
    exact (Hub.backUp_keeps B (wk.sub (by decide)) (Hub.refreshPortLanes_keeps B (wk.sub (by decide)) (Hub.setLane_keeps B (wk.sub (by decide)) H5)))

theorem Hub.laneReady_keeps {km : Nat} (B : Hub.Bears km P) (wk : Sub 0x400000b8820a80200000000000c000201000000000000100000000000000010102000000030000000100014402 km) {h : Hub} {l : ℕ} (Hh : P h) : P (Hub.laneReady h l) := by
  unfold Hub.laneReady
  extract_lets +onlyGivenNames v1
  clear_value v1
  exact (keep_ite (Hub.tryForm_keeps B (wk.sub (by decide)) (B.wr (wk.bit (by decide)) Hh)) (Hub.lateReady_keeps B (wk.sub (by decide)) Hh))

theorem Hub.lateHead_keeps {km : Nat} (B : Hub.Bears km P) (wk : Sub 0x30000000000000000000000000002 km) {n : ℕ} {h : Hub} (Hh : P h) : P (Hub.lateHead n h) := by
  unfold Hub.lateHead
  exact (keep_when (fun _ H2 => (Hub.setHead_keeps B (wk.sub (by decide)) H2)) Hh)

theorem Hub.lcDone_keeps {km : Nat} (B : Hub.Bears km P) (wk : Sub 0x80000000000000000000000000000000003fdfffffffffffffafe00000000000c00084600000000000000000000000000001000000000001000000000000bc0f km) {h : Hub} {fuseOk : Bool} {straps : ℕ} (Hh : P h) : P (Hub.lcDone h fuseOk straps) := by
  unfold Hub.lcDone
  exact (keep_ite (B.wr (wk.bit (by decide)) (B.wr (wk.bit (by decide)) Hh)) (Hub.setStraps_keeps B (wk.sub (by decide)) (Hub.hardReset_keeps B (wk.sub (by decide)) (Hub.wipeStore_keeps B (wk.sub (by decide)) (B.wr (wk.bit (by decide)) (Hub.locketFlush_keeps B (wk.sub (by decide)) Hh))))))

theorem Hub.learnDone_keeps {km : Nat} (B : Hub.Bears km P) (wk : Sub 0x4000000000000000000000000000000000000000000000000000000000000000000000000000000000000000000000 km) {h : Hub} {i : Option Intent} (Hh : P h) : P (Hub.learnDone h i) := by
  unfold Hub.learnDone
  split
  · rename_i a1
    exact Hh
  · rename_i a2 a3
    extract_lets +onlyGivenNames v4
    clear_value v4
    exact (B.paths (wk.bit (by decide)) Hh)

theorem Hub.loadPwr_keeps {km : Nat} (B : Hub.Bears km P) (wk : Sub 0x100000000000000000000000000000000000000000000 km) {h : Hub} {n : ℕ} {pwr : ℕ} (Hh : P h) : P (Hub.loadPwr h n pwr) := by
  unfold Hub.loadPwr
  exact (B.wr (wk.bit (by decide)) (B.wr (wk.bit (by decide)) (B.wr (wk.bit (by decide)) (B.wr (wk.bit (by decide)) (B.wr (wk.bit (by decide)) Hh)))))

theorem Hub.lpoClassify_keeps {km : Nat} (B : Hub.Bears km P) (wk : Sub 0x2800000000000004000000000000101010100000000000000010000000000000000000000000400 km) {h : Hub} {n : ℕ} {cls : Option ℕ} (Hh : P h) : P (Hub.lpoClassify h n cls) := by
  unfold Hub.lpoClassify
  extract_lets +onlyGivenNames v1
  have H2 : P v1 := (by
      unfold v1
      split
      · rename_i a3 a4
        exact (B.wr (wk.bit (by decide)) (B.wr (wk.bit (by decide)) Hh))
      · rename_i a5
        exact (B.wr (wk.bit (by decide)) Hh))
  clear_value v1
  split
  · rename_i a6 a7
    exact (keep_ite (Hub.setLpo_keeps B (wk.sub (by decide)) (B.wr (wk.bit (by decide)) H2)) (Hub.lpoOff_keeps B (wk.sub (by decide)) (Hub.raise_keeps B (wk.sub (by decide)) (Hub.cnt_keeps B (wk.bit (by decide)) H2))))
  · rename_i a8
    exact (Hub.lpoOff_keeps B (wk.sub (by decide)) (Hub.raise_keeps B (wk.sub (by decide)) (Hub.cnt_keeps B (wk.bit (by decide)) H2)))

theorem Hub.lpoDetect_keeps {km : Nat} (B : Hub.Bears km P) (wk : Sub 0x2800000000000004000000000000101010100000000000000010000000000000000000000000400 km) {h : Hub} {n : ℕ} {r100 : ℕ} {valid : Bool} (Hh : P h) : P (Hub.lpoDetect h n r100 valid) := by
  unfold Hub.lpoDetect
  extract_lets +onlyGivenNames v1
  have H2 : P v1 := (B.wr (wk.bit (by decide)) (B.wr (wk.bit (by decide)) Hh))
  clear_value v1
  refine keep_ite ?_ ?_
  · exact (B.wr (wk.bit (by decide)) (Hub.raise_keeps B (wk.sub (by decide)) (Hub.cnt_keeps B (wk.bit (by decide)) H2)))
  · exact (keep_ite (Hub.setLpo_keeps B (wk.sub (by decide)) (B.wr (wk.bit (by decide)) H2)) (Hub.setLpo_keeps B (wk.sub (by decide)) H2))

theorem Hub.lpoLeave_keeps {km : Nat} (B : Hub.Bears km P) (wk : Sub 0x2800000000000004000000000000101010100000000000000010000000000000000000000000400 km) {n : Nat} {p : Bool × Hub} (Hp : P p.2) : P (Hub.lpoLeave n p).2 := by
  obtain ⟨left, h⟩ := p
  have H : P h := Hp
  simp only [Hub.lpoLeave]
  split
  · exact H
  · split
    · exact keep_p2 (Hub.refreshBus_keeps B (wk.sub (by decide)) (Hub.raise_keeps B (wk.sub (by decide)) (B.wr (wk.bit (by decide)) H)))
    · exact keep_p2 (Hub.setLpo_keeps B (wk.sub (by decide)) H)

theorem Hub.lpoTrip_keeps {km : Nat} (B : Hub.Bears km P) (wk : Sub 0x2800000000000004000000000000101010100000000000000010000000000000000000000000400 km) {h : Hub} {n : ℕ} {bit : ℕ} {F : Fld} (wF : km.testBit F.kind = true) (Hh : P h) : P (Hub.lpoTrip h n bit F) := by
  unfold Hub.lpoTrip
  extract_lets +onlyGivenNames v1
  have H2 : P v1 := (Hub.lpoMeasure_keeps B (wk.sub (by decide)) Hh)
  clear_value v1
  exact (Hub.lpoOff_keeps B (wk.sub (by decide)) (Hub.raise_keeps B (wk.sub (by decide)) (Hub.cnt_keeps B wF (B.wr (wk.bit (by decide)) H2))))

theorem Hub.lumeRx_keeps {km : Nat} (B : Hub.Bears km P) (wk : Sub 0x100000000000005fa80800000000000400000000000000000000000000400000001030100010b030000000000000404 km) {h : Hub} {p : ℕ} {fcsOk : Bool} {fr : Bytes} (Hh : P h) : P (Hub.lumeRx h p fcsOk fr) := by
  unfold Hub.lumeRx
  refine keep_ite ?_ ?_
  · exact (Hub.cnt_keeps B (wk.bit (by decide)) Hh)
  · refine keep_ite ?_ ?_
    · exact (Hub.cnt_keeps B (wk.bit (by decide)) Hh)
    · exact (keep_ite Hh (Hub.cnt_keeps B (wk.bit (by decide)) (Hub.inject_keeps B (wk.sub (by decide)) Hh)))

theorem Hub.lumeSend_keeps {km : Nat} (B : Hub.Bears km P) (wk : Sub 0x20000000000000000000000000000000000000000000000000000000000000000000000000000000000000000 km) {p : ℕ} {fr : Bytes} {h : Hub} (Hh : P h) : P (Hub.lumeSend p fr h) := by
  unfold Hub.lumeSend
  exact (B.lumeOut (wk.bit (by decide)) Hh)

theorem Hub.lumeTx_keeps {km : Nat} (B : Hub.Bears km P) (wk : Sub 0x20000000000000000000000004000000000000000000000000004000000000000000000000000000000000000 km) {h : Hub} {tid : ℕ} {fr : Bytes} (Hh : P h) : P (Hub.lumeTx h tid fr) := by
  unfold Hub.lumeTx
  split
  · rename_i a1 e2
    exact (Hub.cnt_keeps B (wk.bit (by decide)) Hh)
  · rename_i a3 a4 e5
    exact (keep_when (fun _ H7 => (Hub.lumeMode_keeps B (wk.sub (by decide)) H7)) (keep_ite (Hub.cnt_keeps B (wk.bit (by decide)) Hh) (Hub.cnt_keeps B (wk.bit (by decide)) (Hub.lumeSend_keeps B (wk.sub (by decide)) Hh))))

theorem Hub.mbxIn_keeps {km : Nat} (B : Hub.Bears km P) (wk : Sub 0x4000000000000000000000000000000000000000000000000000000000010000 km) {h : Hub} {p : ℕ} {typ : ℕ} {len : ℕ} {payload : Bytes} (Hh : P h) : P (Hub.mbxIn h p typ len payload) := by
  unfold Hub.mbxIn
  refine keep_ite ?_ ?_
  · exact (B.wr (wk.bit (by decide)) Hh)
  · extract_lets +onlyGivenNames v1
    have H2 : P v1 := (B.wr (wk.bit (by decide)) (B.wr (wk.bit (by decide)) (B.wr (wk.bit (by decide)) Hh)))
    clear_value v1
    exact (Hub.irq_keeps B (wk.sub (by decide)) (keep_each (fun _ _ H5 => (by
      split
      · rename_i a6 a7 a8
        exact (B.wr (wk.bitAt (kind_word_OPT_MBX_RXD _) (by decide)) H5))) H2))

theorem Hub.measureEye_keeps {km : Nat} (B : Hub.Bears km P) (wk : Sub 0x800000000000000000000000000000000000000000000000000000000000000000000100000000 km) {l : ℕ} {h : Hub} (Hh : P h) : P (Hub.measureEye l h) := by
  unfold Hub.measureEye
  exact (keep_when (fun _ H2 => (Hub.wrFree_keeps B (wk.sub (by decide)) (wk.bit (by decide)) (Hub.wrFree_keeps B (wk.sub (by decide)) (wk.bit (by decide)) H2))) Hh)

theorem Hub.memTrained_keeps {km : Nat} (B : Hub.Bears km P) (wk : Sub 0x2800000000000004000000000000000000000000000030100010000000000000000000000000400 km) {h : Hub} {chOk : ℕ} (Hh : P h) : P (Hub.memTrained h chOk) := by
  unfold Hub.memTrained
  extract_lets +onlyGivenNames v1
  have H2 : P v1 := (keep_each (fun _ _ H5 => (Hub.wrFree_keeps B (wk.sub (by decide)) (wk.bit (by decide)) (Hub.wrFree_keeps B (wk.sub (by decide)) (wk.bit (by decide)) (Hub.wrFree_keeps B (wk.sub (by decide)) (wk.bit (by decide)) H5)))) (B.wr (wk.bit (by decide)) Hh))
  clear_value v1
  exact (keep_ite (Hub.refreshMem_keeps B (wk.sub (by decide)) (keep_when (fun _ H7 => (B.wr (wk.bit (by decide)) (B.wr (wk.bit (by decide)) (B.wr (wk.bit (by decide)) H7)))) (B.wr (wk.bit (by decide)) H2))) (Hub.refreshMem_keeps B (wk.sub (by decide)) (Hub.raise_keeps B (wk.sub (by decide)) (B.wr (wk.bit (by decide)) H2))))

theorem Hub.memWiped_keeps {km : Nat} (B : Hub.Bears km P) (wk : Sub 0x100000000000000000000000000000000000000000010100000000000000000000000000000000 km) {h : Hub} {ms : Nat} (Hh : P h) : P (h.memWiped ms) := by
  unfold Hub.memWiped
  have A : P { h with fmem := [] } := B.fmem (wk.bit (by decide)) Hh fun _ => Tab.nil_wf 0
  exact Hub.refreshMem_keeps B (wk.sub (by decide)) (B.wr (wk.bit (by decide)) (B.wr (wk.bit (by decide)) (B.wr (wk.bit (by decide)) (B.wr (wk.bit (by decide)) (B.wr (wk.bit (by decide)) A)))))

theorem Hub.mgpPend_keeps {km : Nat} (B : Hub.Bears km P) (wk : Sub 0x1000000000000000000000000000004000000000000000000000000000000000000000000000000000000000002000 km) {h : Hub} {op : ℕ} {seq : ℕ} (Hh : P h) : P (Hub.mgpPend h op seq) := by
  unfold Hub.mgpPend
  exact (Hub.irq_keeps B (wk.sub (by decide)) (B.wr (wk.bit (by decide)) (B.wr (wk.bit (by decide)) (B.wr (wk.bit (by decide)) (Hub.cnt_keeps B (wk.bit (by decide)) (B.mgpResp (wk.bit (by decide)) Hh))))))

theorem Hub.mgpTagged_keeps {km : Nat} (B : Hub.Bears km P) (wk : Sub 0x1000000000000000000000000000000000000000000000000000000000000000000000000000000000000000000000 km) {h : Hub} {status : ℕ} {op : ℕ} {seq : ℕ} {data : Bytes} (Hh : P h) : P (Hub.mgpTagged h status op seq data) := by
  unfold Hub.mgpTagged
  extract_lets +onlyGivenNames v1
  clear_value v1
  exact (B.mgpResp (wk.bit (by decide)) Hh)

theorem Hub.mwrIn_keeps {km : Nat} (B : Hub.Bears km P) (wk : Sub 0x2420000000000000000000000000000000000000000000000000000100000000000000000000000000000000 km) {h : Hub} {m : TxbIn} (Hh : P h) : P (Hub.mwrIn h m) := by
  unfold Hub.mwrIn
  extract_lets +onlyGivenNames v1
  have H2 : P v1 := (B.wr (wk.bit (by decide)) Hh)
  clear_value v1
  exact (keep_ite (Hub.postError_keeps B (wk.sub (by decide)) (Hub.cnt_keeps B (wk.bit (by decide)) H2)) (Hub.refreshLand_keeps B (wk.sub (by decide)) (B.land (wk.bit (by decide)) H2)))

theorem Hub.neighbourIn_keeps {km : Nat} (B : Hub.Bears km P) (wk : Sub 0xc00000000007788a808000000000004000480000000000000000000000000000010302000000030000000000000400 km) {h : Hub} {p : ℕ} {payload : Bytes} (Hh : P h) : P (Hub.neighbourIn h p payload) := by
  unfold Hub.neighbourIn
  extract_lets +onlyGivenNames v1
  clear_value v1
  extract_lets +onlyGivenNames v2
  have H3 : P v2 := (B.wr (wk.bit (by decide)) (B.wr (wk.bit (by decide)) (B.wr (wk.bit (by decide)) (B.wr (wk.bit (by decide)) (B.wr (wk.bit (by decide)) (B.wr (wk.bit (by decide)) (Hub.cnt_keeps B (wk.bit (by decide)) (B.nbrs (wk.bit (by decide)) Hh))))))))
  clear_value v2
  extract_lets +onlyGivenNames v4
  have H5 : P v4 := (keep_when (fun _ H7 => (B.wr (wk.bit (by decide)) H7)) H3)
  clear_value v4
  extract_lets +onlyGivenNames v8
  have H9 : P v8 := (Hub.refreshTier_keeps B (wk.sub (by decide)) (Hub.refreshBest_keeps B (wk.sub (by decide)) (Hub.hearNbr_keeps B (wk.sub (by decide)) H5)))
  clear_value v8
  exact (Hub.refreshPoints_keeps B (wk.sub (by decide)) (keep_when (fun _ H11 => (B.wr (wk.bit (by decide)) H11)) H9))

theorem Hub.rollTx_keeps {km : Nat} (B : Hub.Bears km P) (wk : Sub 0x4000200000000000000000000000000000000000000000000000000000010000 km) {h : Hub} {p : ℕ} (Hh : P h) : P (Hub.rollTx h p) := by
  unfold Hub.rollTx
  extract_lets +onlyGivenNames v1
  clear_value v1
  extract_lets +onlyGivenNames v2
  have H3 : P v2 := (keep_when (fun _ H5 => (B.wr (wk.bit (by decide)) (B.wr (wk.bit (by decide)) (B.wr (wk.bit (by decide)) H5)))) Hh)
  clear_value v2
  exact (keep_when (fun _ H7 => (Hub.irq_keeps B (wk.sub (by decide)) H7)) H3)

theorem Hub.takeCells_keeps {km : Nat} (B : Hub.Bears km P) (wk : Sub 0x200000000000000000000000000000000000000000000000000000000000100000000000000000000 km) {h : Hub} {p : ℕ} {n : ℕ} (Hh : P h) : P (Hub.takeCells h p n).2 := by
  unfold Hub.takeCells
  extract_lets +onlyGivenNames v1
  clear_value v1
  extract_lets +onlyGivenNames v2
  clear_value v2
  exact (keep_p2 (keep_each (fun _ _ H5 => (Hub.countSent_keeps B (wk.sub (by decide)) H5)) (B.egOut (wk.bit (by decide)) Hh)))

theorem Hub.newFrame_keeps {km : Nat} (B : Hub.Bears km P) (wk : Sub 0x288200000000000000004000200000000000000000000000000000000000000100000000000000010000 km) {h0 : Hub} {p : ℕ} {l : ℕ} (Hh0 : P h0) : P (Hub.newFrame h0 p l).2 := by
  unfold Hub.newFrame
  extract_lets +onlyGivenNames v1
  have H2 : P v1 := (Hub.rollTx_keeps B (wk.sub (by decide)) Hh0)
  clear_value v1
  extract_lets +onlyGivenNames v3
  clear_value v3
  extract_lets +onlyGivenNames v4
  clear_value v4
  extract_lets +onlyGivenNames v5
  clear_value v5
  extract_lets +onlyGivenNames v6
  clear_value v6
  extract_lets +onlyGivenNames v7
  clear_value v7
  split
  · rename_i a8 a9 a10 e11
    have H12 := keep_snd e11 (by
        split
        · rename_i e13
          exact (Hub.takeCells_keeps B (wk.sub (by decide)) H2)
        · rename_i e14
          exact (keep_p2 H2))
    split
    · rename_i e15
      exact (keep_p2 H2)
    · rename_i e16
      extract_lets +onlyGivenNames v17
      clear_value v17
      extract_lets +onlyGivenNames v18
      clear_value v18
      extract_lets +onlyGivenNames v19
      clear_value v19
      extract_lets +onlyGivenNames v20
      clear_value v20
      extract_lets +onlyGivenNames v21
      clear_value v21
      extract_lets +onlyGivenNames v22
      clear_value v22
      split
      · rename_i a23 a24 a25 e26
        extract_lets +onlyGivenNames v27
        clear_value v27
        extract_lets +onlyGivenNames v28
        clear_value v28
        extract_lets +onlyGivenNames v29
        clear_value v29
        extract_lets +onlyGivenNames v30
        clear_value v30
        extract_lets +onlyGivenNames v31
        clear_value v31
        extract_lets +onlyGivenNames v32
        have H33 : P v32 := (B.set_lmcQ_replay_spanTx (wk.bit (by decide)) (wk.bit (by decide)) (wk.bit (by decide)) H12)
        clear_value v32
        extract_lets +onlyGivenNames v34
        clear_value v34
        exact (keep_p2 (B.wr (wk.bit (by decide)) (B.wr (wk.bit (by decide)) (B.wr (wk.bit (by decide)) (B.wr (wk.bit (by decide)) H33)))))

theorem Hub.offerAt_keeps {km : Nat} (B : Hub.Bears km P) (wk : Sub 0x100000000000005fa80800000000000400000000000000000000000000000000001030100010b030000000000000404 km) {pt : Nat} {l : List (List Cell)} :
    ∀ {h : Hub}, P h → P (Hub.offerAt pt l h).1 := by
  induction l with
  | nil => exact fun H => H
  | cons x ps ih =>
    intro h H
    rw [Hub.offerAt]
    split
    · exact ih (Hub.inject_keeps B (wk.sub (by decide)) H)
    · exact H

theorem Hub.offer_keeps {km : Nat} (B : Hub.Bears km P) (wk : Sub 0x108000400200005fa80800000000000400000000000000000000000000000000001030100010b030000000000000404 km) {h : Hub} (Hh : P h) : P (Hub.offer h) := by
  unfold Hub.offer
  extract_lets +onlyGivenNames v1
  clear_value v1
  extract_lets +onlyGivenNames v2
  clear_value v2
  split
  · rename_i a3 a4 a5 e6
    have H7 := keep_fst e6 (Hub.offerAt_keeps B (wk.sub (by decide)) (B.set_ctlOut_telOut (wk.bit (by decide)) (wk.bit (by decide)) Hh))
    extract_lets +onlyGivenNames v8
    have H9 : P v8 := (B.set_ctlOut_telOut (wk.bit (by decide)) (wk.bit (by decide)) H7)
    clear_value v8
    extract_lets +onlyGivenNames v10
    clear_value v10
    split
    · rename_i a11 a12 a13 e14
      have H15 := keep_fst e14 (Hub.offerAt_keeps B (wk.sub (by decide)) (B.txbOut (wk.bit (by decide)) H9))
      extract_lets +onlyGivenNames v16
      have H17 : P v16 := (B.txbOut (wk.bit (by decide)) H15)
      clear_value v16
      extract_lets +onlyGivenNames v18
      clear_value v18
      split
      · rename_i a19 a20 a21 e22
        have H23 := keep_fst e22 (Hub.offerAt_keeps B (wk.sub (by decide)) (B.usbOut (wk.bit (by decide)) H17))
        exact (B.usbOut (wk.bit (by decide)) H23)

theorem Hub.offerIn_keeps {km : Nat} (B : Hub.Bears km P) (wk : Sub 0x40000040800280200000000000c000001000000101010100000000000000010000000000000000000100010402 km) {h : Hub} {n : ℕ} {tok : ℕ} {imax : ℕ} {pwr : ℕ} (Hh : P h) : P (Hub.offerIn h n tok imax pwr) := by
  unfold Hub.offerIn
  extract_lets +onlyGivenNames v1
  have H2 : P v1 := (B.wr (wk.bit (by decide)) (Hub.loadPwr_keeps B (wk.sub (by decide)) Hh))
  clear_value v1
  extract_lets +onlyGivenNames v3
  have H4 : P v3 := (keep_when (fun _ H6 => (Hub.setClp_keeps B (wk.sub (by decide)) (B.wr (wk.bit (by decide)) H6))) H2)
  clear_value v3
  exact (keep_ite (Hub.claspAskTok_keeps B (wk.sub (by decide)) (B.wr (wk.bit (by decide)) H4)) H4)

theorem Hub.outRead_keeps {km : Nat} (B : Hub.Bears km P) (wk : Sub 0x3e0000002800000000000004000000000000000000000000000000300010000000000000000000000000400 km) {h : Hub} {fromBus : Bool} {addr : ℕ} {len : ℕ} {ro : Bool} {ns : Bool} (Hh : P h) : P (Hub.outRead h fromBus addr len ro ns) := by
  unfold Hub.outRead
  split
  · rename_i a1 e2
    exact (Hub.answerRead_keeps B (wk.sub (by decide)) (Hub.raise_keeps B (wk.sub (by decide)) Hh))
  · rename_i a3 a4 e5
    extract_lets +onlyGivenNames v6
    clear_value v6
    extract_lets +onlyGivenNames v7
    clear_value v7
    extract_lets +onlyGivenNames v8
    clear_value v8
    extract_lets +onlyGivenNames v9
    have H10 : P v9 := (B.set_rdWait_reads (wk.bit (by decide)) (wk.bit (by decide)) Hh)
    clear_value v9
    exact (Hub.retryReads_keeps B (wk.sub (by decide)) (Hub.cntN_keeps B (wk.bit (by decide)) (B.wr (wk.bit (by decide)) H10)))

theorem Hub.overloadCheck_keeps {km : Nat} (B : Hub.Bears km P) (wk : Sub 0x2800000000000004000000000000101010100000000000000010000000000000000000000000400 km) {h : Hub} {n : ℕ} {pavg : ℕ} {vaavg : ℕ} {joules : ℕ} (Hh : P h) : P (Hub.overloadCheck h n pavg vaavg joules) := by
  unfold Hub.overloadCheck
  extract_lets +onlyGivenNames v1
  clear_value v1
  extract_lets +onlyGivenNames v2
  have H3 : P v2 := (B.wr (wk.bit (by decide)) (B.wr (wk.bit (by decide)) (B.wr (wk.bit (by decide)) (B.wr (wk.bit (by decide)) (Hub.lpoMeasure_keeps B (wk.sub (by decide)) Hh)))))
  clear_value v2
  exact (keep_when (fun _ H5 => (Hub.lpoTrip_keeps B (wk.sub (by decide)) (wk.bit (by decide)) H5)) H3)

theorem Hub.pathSilent_keeps {km : Nat} (B : Hub.Bears km P) (wk : Sub 0x8000000000000004000000000000000000000000000000000000300000000010000000000000000 km) {h : Hub} {ctx : ℕ} {pathB : Bool} (Hh : P h) : P (Hub.pathSilent h ctx pathB) := by
  unfold Hub.pathSilent
  exact (keep_when (fun _ H2 => (Hub.silence_keeps B (wk.sub (by decide)) H2)) (Hub.wrBit_keeps B (wk.bit (by decide)) Hh))

theorem Hub.pcieHold_keeps {km : Nat} (B : Hub.Bears km P) (wk : Sub 0x2800000000000004000000000000000000000000000000700010000000000000000000000000400 km) {h : Hub} (Hh : P h) : P (Hub.pcieHold h) := by
  unfold Hub.pcieHold
  exact (keep_when (fun _ H2 => (Hub.pcieLink_keeps B (wk.sub (by decide)) H2)) Hh)

theorem Hub.pcieMsg_keeps {km : Nat} (B : Hub.Bears km P) (wk : Sub 0x2800000000000004000000000000000000000000000000300010000000000000000000000000400 km) {h : Hub} {m : PcieMsg} (Hh : P h) : P (Hub.pcieMsg h m) := by
  unfold Hub.pcieMsg
  split
  · rename_i a1
    exact (Hub.wrBit_keeps B (wk.bit (by decide)) (Hub.irq_keeps B (wk.sub (by decide)) (B.wr (wk.bit (by decide)) Hh)))
  · rename_i a2
    exact (Hub.wrBit_keeps B (wk.bit (by decide)) (Hub.irq_keeps B (wk.sub (by decide)) (B.wr (wk.bit (by decide)) Hh)))
  · rename_i a3
    exact (Hub.raise_keeps B (wk.sub (by decide)) (Hub.wrBit_keeps B (wk.bit (by decide)) (Hub.irq_keeps B (wk.sub (by decide)) (B.wr (wk.bit (by decide)) Hh))))
  · rename_i a4 a5 a6
    exact (Hub.wrBit_keeps B (wk.bit (by decide)) Hh)
  · rename_i a7
    exact (Hub.wrBit_keeps B (wk.bit (by decide)) Hh)

theorem Hub.pdAttach_keeps {km : Nat} (B : Hub.Bears km P) (wk : Sub 0x94000040000280a00000000000c000021000000101010100070000010100a1000000000000000000010001041a km) {h : Hub} {k : Fin 2} {cc2 : Bool} {sink : Bool} {ufp : Bool} {emark5A : Bool} {frsReady : Bool} (Hh : P h) : P (Hub.pdAttach h k cc2 sink ufp emark5A frsReady) := by
  unfold Hub.pdAttach
  extract_lets +onlyGivenNames v1
  clear_value v1
  extract_lets +onlyGivenNames v2
  have H3 : P v2 := (Hub.pdDrop_keeps B (wk.sub (by decide)) (B.wr (wk.bit (by decide)) (B.wr (wk.bit (by decide)) (B.wr (wk.bit (by decide)) (B.wr (wk.bit (by decide)) (B.wr (wk.bit (by decide)) (B.wr (wk.bit (by decide)) (B.wr (wk.bit (by decide)) (B.wr (wk.bit (by decide)) Hh)))))))))
  clear_value v2
  extract_lets +onlyGivenNames v4
  have H5 : P v4 := (Hub.pdFollow_keeps B (wk.sub (by decide)) (Hub.pdMeasure_keeps B (wk.sub (by decide)) (Hub.altExit_keeps B (wk.sub (by decide)) H3)))
  clear_value v4
  extract_lets +onlyGivenNames v6
  have H7 : P v6 := (keep_when (fun _ H9 => (Hub.pdSend_keeps B (wk.sub (by decide)) H9)) H5)
  clear_value v6
  exact (keep_ite H7 (Hub.wake_keeps B (wk.sub (by decide)) (Hub.irq_keeps B (wk.sub (by decide)) H7)))

theorem Hub.pdContract_keeps {km : Nat} (B : Hub.Bears km P) (wk : Sub 0x800000000000004000000000000000010000000000000000000000000000000000000000000000 km) {h : Hub} {k : ℕ} {pdo : ℕ} {cur : ℕ} (Hh : P h) : P (Hub.pdContract h k pdo cur) := by
  unfold Hub.pdContract
  exact (Hub.pdMeasure_keeps B (wk.sub (by decide)) (Hub.irq_keeps B (wk.sub (by decide)) (B.wr (wk.bit (by decide)) (B.wr (wk.bit (by decide)) (B.wr (wk.bit (by decide)) Hh)))))

theorem Hub.pdRequest_keeps {km : Nat} (B : Hub.Bears km P) (wk : Sub 0x800000000000800000000000004000000000000000010000000000000000000000000000000000000000000000 km) {h : Hub} {k : ℕ} {pdo : ℕ} {ma : ℕ} (Hh : P h) : P (Hub.pdRequest h k pdo ma) := by
  unfold Hub.pdRequest
  exact (keep_ite (Hub.pdContract_keeps B (wk.sub (by decide)) (Hub.pdSend_keeps B (wk.sub (by decide)) Hh)) (Hub.pdSend_keeps B (wk.sub (by decide)) Hh))

theorem Hub.pdMessage_keeps {km : Nat} (B : Hub.Bears km P) (wk : Sub 0x940000000002808000000000004000000000000101010100070000000000a10000000000000000000000000400 km) {h : Hub} {k : Fin 2} {m : PdMsg} (Hh : P h) : P (Hub.pdMessage h k m) := by
  unfold Hub.pdMessage
  extract_lets +onlyGivenNames v1
  clear_value v1
  split
  · rename_i a2 a3 a4
    exact (keep_ite (Hub.pdRequest_keeps B (wk.sub (by decide)) Hh) (Hub.pdSend_keeps B (wk.sub (by decide)) Hh))
  · rename_i a5
    refine keep_ite ?_ ?_
    · exact (Hub.pdReset_keeps B (wk.sub (by decide)) (Hub.pdSend_keeps B (wk.sub (by decide)) Hh))
    · refine keep_ite ?_ ?_
      · exact (Hub.pdFollow_keeps B (wk.sub (by decide)) (B.wr (wk.bit (by decide)) (Hub.pdSend_keeps B (wk.sub (by decide)) Hh)))
      · exact (keep_ite (Hub.pdFollow_keeps B (wk.sub (by decide)) (B.wr (wk.bit (by decide)) (Hub.pdSend_keeps B (wk.sub (by decide)) Hh))) (Hub.pdSend_keeps B (wk.sub (by decide)) Hh))
  · rename_i a6
    refine keep_ite ?_ ?_
    · exact (Hub.pdSend_keeps B (wk.sub (by decide)) Hh)
    · extract_lets +onlyGivenNames v7
      have H8 : P v7 := (Hub.pdFollow_keeps B (wk.sub (by decide)) (Hub.pdMeasure_keeps B (wk.sub (by decide)) (Hub.pdDrop_keeps B (wk.sub (by decide)) (B.wr (wk.bit (by decide)) (Hub.pdSend_keeps B (wk.sub (by decide)) Hh)))))
      clear_value v7
      exact (keep_when (fun _ H10 => (Hub.pdSend_keeps B (wk.sub (by decide)) H10)) H8)
  · rename_i a11
    refine keep_ite ?_ ?_
    · exact (B.wr (wk.bit (by decide)) (Hub.pdSend_keeps B (wk.sub (by decide)) Hh))
    · exact (keep_ite (B.wr (wk.bit (by decide)) (Hub.pdSend_keeps B (wk.sub (by decide)) Hh)) (Hub.pdSend_keeps B (wk.sub (by decide)) Hh))
  · rename_i a12
    exact (keep_ite (Hub.pdSend_keeps B (wk.sub (by decide)) Hh) (Hub.pdContract_keeps B (wk.sub (by decide)) (Hub.pdSend_keeps B (wk.sub (by decide)) Hh)))
  · rename_i a13
    exact (Hub.pdSend_keeps B (wk.sub (by decide)) Hh)
  · rename_i a14
    exact (keep_when (fun _ H16 => (Hub.pdSend_keeps B (wk.sub (by decide)) H16)) (Hub.pdSend_keeps B (wk.sub (by decide)) Hh))
  · rename_i a17
    exact (Hub.pdReset_keeps B (wk.sub (by decide)) Hh)
  · rename_i a18
    exact (Hub.pdSend_keeps B (wk.sub (by decide)) Hh)
  · rename_i a19
    exact (keep_ite (B.wr (wk.bit (by decide)) (Hub.pdSend_keeps B (wk.sub (by decide)) Hh)) (Hub.pdSend_keeps B (wk.sub (by decide)) Hh))
  · rename_i a20
    exact (keep_ite (Hub.altExit_keeps B (wk.sub (by decide)) (Hub.pdSend_keeps B (wk.sub (by decide)) Hh)) (Hub.pdSend_keeps B (wk.sub (by decide)) Hh))
  · rename_i a21 a22
    exact (B.wr (wk.bit (by decide)) Hh)
  · rename_i a23
    exact (Hub.pdSend_keeps B (wk.sub (by decide)) Hh)

theorem Hub.perrIn_keeps {km : Nat} (B : Hub.Bears km P) (wk : Sub 0x2800000000000004000000000000000000000000000000100010000000000000000000000000400 km) {h : Hub} {tid : ℕ} {src : ℕ} {c : TxbHdr} (Hh : P h) : P (Hub.perrIn h tid src c) := by
  unfold Hub.perrIn
  extract_lets +onlyGivenNames v1
  clear_value v1
  extract_lets +onlyGivenNames v2
  clear_value v2
  extract_lets +onlyGivenNames v3
  clear_value v3
  exact (B.wr (wk.bit (by decide)) (B.wr (wk.bit (by decide)) (B.wr (wk.bit (by decide)) (Hub.cnt_keeps B (wk.bit (by decide)) (Hub.irq_keeps B (wk.sub (by decide)) (Hub.raise_keeps B (wk.sub (by decide)) Hh))))))

theorem Hub.pllLocked_keeps {km : Nat} (B : Hub.Bears km P) (wk : Sub 0x2800000000000004000000000000000000000000000000000030000000000000000000000000413 km) {h : Hub} {n : ℕ} (Hh : P h) : P (Hub.pllLocked h n) := by
  unfold Hub.pllLocked
  extract_lets +onlyGivenNames v1
  have H2 : P v1 := (Hub.wrBit_keeps B (wk.bit (by decide)) Hh)
  clear_value v1
  exact (keep_when (fun _ H4 => (Hub.waitLink_keeps B (wk.sub (by decide)) (Hub.setHead_keeps B (wk.sub (by decide)) H4))) (keep_when (fun _ H6 => (Hub.refreshDomains_keeps B (wk.sub (by decide)) (B.wr (wk.bit (by decide)) (B.wr (wk.bit (by decide)) H6)))) H2))

theorem Hub.pmResume_keeps {km : Nat} (B : Hub.Bears km P) (wk : Sub 0x10000 km) {h : Hub} {p : ℕ} (Hh : P h) : P (Hub.pmResume h p) := by
  unfold Hub.pmResume
  exact (keep_when (fun _ H2 => (B.wr (wk.bit (by decide)) (B.wr (wk.bit (by decide)) H2))) (B.wr (wk.bit (by decide)) Hh))

theorem Hub.pmRefused_keeps {km : Nat} (B : Hub.Bears km P) (wk : Sub 0x10010 km) {h : Hub} {p : ℕ} (Hh : P h) : P (Hub.pmRefused h p) := by
  unfold Hub.pmRefused
  exact (keep_when (fun _ H2 => (B.wr (wk.bit (by decide)) H2)) (Hub.pmResume_keeps B (wk.sub (by decide)) Hh))

theorem Hub.pmAckIn_keeps {km : Nat} (B : Hub.Bears km P) (wk : Sub 0x4000000000000000000000000000000000000000000000000000000000010010 km) {h : Hub} {p : ℕ} {tok : ℕ} {status : ℕ} {state : ℕ} (Hh : P h) : P (Hub.pmAckIn h p tok status state) := by
  unfold Hub.pmAckIn
  refine keep_ite ?_ ?_
  · refine keep_ite ?_ ?_
    · exact (Hub.irq_keeps B (wk.sub (by decide)) (Hub.pmRefused_keeps B (wk.sub (by decide)) Hh))
    · extract_lets +onlyGivenNames v1
      clear_value v1
      extract_lets +onlyGivenNames v2
      clear_value v2
      exact (B.wr (wk.bit (by decide)) (B.wr (wk.bit (by decide)) Hh))
  · exact Hh

theorem Hub.pmAckOut_keeps {km : Nat} (B : Hub.Bears km P) (wk : Sub 0x8000000000000000000000000000000000000000000000000000000000000000000000000000010000 km) {h : Hub} {p : ℕ} (Hh : P h) : P (Hub.pmAckOut h p) := by
  unfold Hub.pmAckOut
  extract_lets +onlyGivenNames v1
  clear_value v1
  exact (Hub.lmcSend_keeps B (wk.sub (by decide)) (B.wr (wk.bit (by decide)) Hh))

theorem Hub.pmReqIn_keeps {km : Nat} (B : Hub.Bears km P) (wk : Sub 0x8000000000000000000000000000000000000000000000000000000000000000000000000000010000 km) {h : Hub} {p : ℕ} {tok : ℕ} {l2 : Bool} (Hh : P h) : P (Hub.pmReqIn h p tok l2) := by
  unfold Hub.pmReqIn
  exact (keep_ite (B.wr (wk.bit (by decide)) (B.wr (wk.bit (by decide)) (B.wr (wk.bit (by decide)) (B.wr (wk.bit (by decide)) (B.wr (wk.bit (by decide)) Hh))))) (Hub.lmcSend_keeps B (wk.sub (by decide)) Hh))

theorem Hub.pmSend_keeps {km : Nat} (B : Hub.Bears km P) (wk : Sub 0x8000000000000000000000000000000000000000000000000000000000000000000000000000010000 km) {h : Hub} {p : ℕ} (Hh : P h) : P (Hub.pmSend h p) := by
  unfold Hub.pmSend
  split
  · rename_i a1 a2 a3 e4
    have H5 := keep_snd e4 (Hub.nextTok_keeps B (wk.sub (by decide)) Hh)
    exact (Hub.lmcSend_keeps B (wk.sub (by decide)) (B.wr (wk.bit (by decide)) (B.wr (wk.bit (by decide)) H5)))

theorem Hub.pollIn_keeps {km : Nat} (B : Hub.Bears km P) (wk : Sub 0x20000000800000000000000000000000000000000000000000000100000000000000000000000000000000 km) {h0 : Hub} {tid : ℕ} {c : TxbHdr} (Hh0 : P h0) : P (Hub.pollIn h0 tid c) := by
  unfold Hub.pollIn
  extract_lets +onlyGivenNames v1
  have H2 : P v1 := (Hub.seeWake_keeps B (wk.sub (by decide)) Hh0)
  clear_value v1
  extract_lets +onlyGivenNames v3
  clear_value v3
  extract_lets +onlyGivenNames v4
  clear_value v4
  exact (B.wr (wk.bit (by decide)) (B.wr (wk.bit (by decide)) (Hub.txbSend_keeps B (wk.sub (by decide)) H2)))

theorem Hub.pollReply_keeps {km : Nat} (B : Hub.Bears km P) (wk : Sub 0x8000000000000000000000004000000000000000000000000000000300000000000000000000000000000000 km) {h : Hub} {sb : ℕ} {catchBits : ℕ} (Hh : P h) : P (Hub.pollReply h sb catchBits) := by
  unfold Hub.pollReply
  extract_lets +onlyGivenNames v1
  clear_value v1
  extract_lets +onlyGivenNames v2
  clear_value v2
  extract_lets +onlyGivenNames v3
  clear_value v3
  extract_lets +onlyGivenNames v4
  clear_value v4
  extract_lets +onlyGivenNames v5
  have H6 : P v5 := (keep_when (fun _ H8 => (Hub.irq_keeps B (wk.sub (by decide)) H8)) (B.wr (wk.bit (by decide)) (B.wr (wk.bit (by decide)) Hh)))
  clear_value v5
  extract_lets +onlyGivenNames v9
  have H10 : P v9 := (B.wr (wk.bit (by decide)) (B.wr (wk.bit (by decide)) H6))
  clear_value v9
  refine keep_ite ?_ ?_
  · exact (keep_when (fun _ H12 => (Hub.irq_keeps B (wk.sub (by decide)) H12)) H10)
  · refine keep_ite ?_ ?_
    · extract_lets +onlyGivenNames v13
      have H14 : P v13 := (keep_each (fun _ _ H17 => (Hub.msix_keeps B (wk.sub (by decide)) H17)) H10)
      clear_value v13
      exact (B.wr (wk.bit (by decide)) (B.wr (wk.bit (by decide)) H14))
    · exact H10

theorem Hub.pollSend_keeps {km : Nat} (B : Hub.Bears km P) (wk : Sub 0x8020000002800000000000004000000000000000000000000000000300010000000000000000000000000400 km) {h : Hub} (Hh : P h) : P (Hub.pollSend h) := by
  unfold Hub.pollSend
  exact (Hub.txbDo_keeps B (wk.sub (by decide)) Hh (fun _ H2 => (B.wr (wk.bit (by decide)) (Hub.txbSend_keeps B (wk.sub (by decide)) (keep_when (fun _ H4 => (Hub.raise_keeps B (wk.sub (by decide)) H4)) H2)))))

theorem Hub.powerOn_keeps {km : Nat} (B : Hub.Bears km P) (wk : Sub 0x80000000000000000000000000000000003f87fffffffffffb8fe00000000000c000842000000000000000000000000000010000000000010000000000001c0e km) {h : Hub} {brownout : Bool} (Hh : P h) : P (Hub.powerOn h brownout) := by
  unfold Hub.powerOn
  exact (Hub.hardReset_keeps B (wk.sub (by decide)) Hh)

theorem Hub.readyIn_keeps {km : Nat} (B : Hub.Bears km P) (wk : Sub 0x40800280200000000000c000001000000101010100000000000000010000000000000000000100010402 km) {h : Hub} {n : ℕ} {tok : ℕ} {icur : ℕ} {ilim : ℕ} (Hh : P h) : P (Hub.readyIn h n tok icur ilim) := by
  unfold Hub.readyIn
  extract_lets +onlyGivenNames v1
  have H2 : P v1 := (Hub.claspSay_keeps B (wk.sub (by decide)) Hh)
  clear_value v1
  exact (keep_when (fun _ H4 => (Hub.inForce_keeps B (wk.sub (by decide)) H4)) H2)

theorem Hub.refreshSf_keeps {km : Nat} (B : Hub.Bears km P) (wk : Sub 0x100000000000000000000000000000000000000000000 km) {h : Hub} {n : ℕ} (Hh : P h) : P (Hub.refreshSf h n) := by
  unfold Hub.refreshSf
  extract_lets +onlyGivenNames v1
  clear_value v1
  extract_lets +onlyGivenNames v2
  clear_value v2
  refine keep_ite ?_ ?_
  · exact (B.wr (wk.bit (by decide)) Hh)
  · refine keep_ite ?_ ?_
    · exact (B.wr (wk.bit (by decide)) Hh)
    · exact (keep_ite (B.wr (wk.bit (by decide)) Hh) Hh)

theorem Hub.remoteWake_keeps {km : Nat} (B : Hub.Bears km P) (wk : Sub 0x40000000000000000000000004000000000000000000000070000000000000000000000000000000000000000 km) {h : Hub} (Hh : P h) : P (Hub.remoteWake h) := by
  unfold Hub.remoteWake
  refine keep_ite ?_ ?_
  · exact Hh
  · extract_lets +onlyGivenNames v1
    have H2 : P v1 := (Hub.irq_keeps B (wk.sub (by decide)) (Hub.cnt_keeps B (wk.bit (by decide)) Hh))
    clear_value v1
    exact (keep_ite (Hub.eventSend_keeps B (wk.sub (by decide)) (B.wr (wk.bit (by decide)) (Hub.udfSuspend_keeps B (wk.sub (by decide)) (B.wr (wk.bit (by decide)) H2)))) (B.wr (wk.bit (by decide)) H2))

theorem Hub.routeStep_keeps {km : Nat} (B : Hub.Bears km P) (wk : Sub 0x800000000000000000000000000000000000000000000000000000000000000000000000000000 km) {h : Hub} {known : List (ℕ × ℕ)} {node : ℕ} {first : ℕ} {size : ℕ} {valid : Bool} {next : ℕ} (Hh : P h) : P (Hub.routeStep h known node first size valid next).2 := by
  unfold Hub.routeStep
  extract_lets +onlyGivenNames v1
  clear_value v1
  split
  · rename_i a2 a3 a4 e5
    have H6 := keep_snd e5 (Hub.free_keeps B (wk.sub (by decide)) Hh)
    extract_lets +onlyGivenNames v7
    clear_value v7
    exact (keep_p2 H6)

theorem Hub.routeSteps_keeps {km : Nat} (B : Hub.Bears km P) (wk : Sub 0x800000000000000000000000000000000000000000000000000000000000000000000000000000 km) {known : List (Nat × Nat)} {first size : Nat} {valid : Bool} {l : List Nat} :
    ∀ {below : Nat} {h : Hub}, P h → P (h.routeSteps known first size valid below l).2 := by
  induction l with
  | nil => exact fun H => H
  | cons n l ih =>
    intro below h H
    rw [Hub.routeSteps]
    exact ih (Hub.routeStep_keeps B (wk.sub (by decide)) H)

theorem Hub.repairEvent_keeps {km : Nat} (B : Hub.Bears km P) (wk : Sub 0x49808800000000000004000000000000000000000000000000000000100000000010000000000000000 km) {h : Hub} {src : ℕ} {event : ℕ} {port : ℕ} {partner : ℕ} {count : ℕ} (Hh : P h) : P (Hub.repairEvent h src event port partner count) := by
  unfold Hub.repairEvent
  refine keep_ite ?_ ?_
  · extract_lets +onlyGivenNames v1
    clear_value v1
    extract_lets +onlyGivenNames v2
    clear_value v2
    refine keep_ite ?_ ?_
    · extract_lets +onlyGivenNames v3
      have H4 : P v3 := (B.wr (wk.bit (by decide)) (B.wr (wk.bit (by decide)) Hh))
      clear_value v3
      split
      · rename_i a5 a6 a7 e8
        have H9 := keep_snd e8 (Hub.routeSteps_keeps B (wk.sub (by decide)) H4)
        exact (Hub.openChange_keeps B (wk.sub (by decide)) H9)
    · exact Hh
  · refine keep_ite ?_ ?_
    · split
      · rename_i a10 e11
        exact Hh
      · rename_i a12 a13 e14
        extract_lets +onlyGivenNames v15
        clear_value v15
        extract_lets +onlyGivenNames v16
        have H17 : P v16 := (B.ready (wk.bit (by decide)) Hh)
        clear_value v16
        extract_lets +onlyGivenNames v18
        clear_value v18
        extract_lets +onlyGivenNames v19
        clear_value v19
        split
        · rename_i a20 a21 a22 e23
          have H24 := keep_snd e23 (Hub.routeSteps_keeps B (wk.sub (by decide)) H17)
          split
          · rename_i a25 a26 a27 e28
            have H29 := keep_snd e28 (Hub.routeSteps_keeps B (wk.sub (by decide)) H24)
            exact (Hub.openChange_keeps B (wk.sub (by decide)) H29)
    · refine keep_ite ?_ ?_
      · exact (Hub.cnt_keeps B (wk.bit (by decide)) Hh)
      · refine keep_ite ?_ ?_
        · split
          · rename_i a30 a31 e32
            extract_lets +onlyGivenNames v33
            clear_value v33
            extract_lets +onlyGivenNames v34
            have H35 : P v34 := (B.ready (wk.bit (by decide)) Hh)
            clear_value v34
            exact (keep_ite (Hub.nbrChange_keeps B (wk.sub (by decide)) H35 (fun _ H37 => (Hub.standbyLost_keeps B (wk.sub (by decide)) H37))) H35)
          · rename_i a38 e39
            exact Hh
        · exact Hh

end Sys2Proof.Machine
end

