-- ==== Sys2Proof/Laws/KeepsE.lean ====
section
/-! SUPPORT. What each operation and each command keeps (part 5 of 6): one lemma per operation, which names the kinds of state
that it may change, as the bits of a number (Laws/Keep.lean). Each follows the shape of the operation's definition. -/

set_option linter.unusedVariables false

namespace Sys2Proof.Machine

open Sys2Proof

variable {P : Hub → Prop}

theorem Hub.reqIn_keeps {km : Nat} (B : Hub.Bears km P) (wk : Sub 0x140000000000808000000000000000000000000000000000040000000000000000000000000000000000000000 km) {h : Hub} {q : UsbReq} {data : Bytes} (Hh : P h) : P (Hub.reqIn h q data) := by
  unfold Hub.reqIn
  split
  · rename_i a1 e2
    exact Hh
  · rename_i a3 a4 e5
    extract_lets +onlyGivenNames v6
    clear_value v6
    split
    · rename_i a7 a8 a9 e10
      have H11 := keep_snd e10 (Hub.free_keeps B (wk.sub (by decide)) Hh)
      extract_lets +onlyGivenNames v12
      clear_value v12
      extract_lets +onlyGivenNames v13
      clear_value v13
      extract_lets +onlyGivenNames v14
      have H15 : P v14 := (keep_when (fun _ H17 => (Hub.setTwords_keeps B (wk.sub (by decide)) H17)) (Hub.setTwords_keeps B (wk.sub (by decide)) (B.usbHeld (wk.bit (by decide)) H11)))
      clear_value v14
      extract_lets +onlyGivenNames v18
      have H19 : P v18 := (Hub.refreshHeld_keeps B (wk.sub (by decide)) (Hub.cnt_keeps B (wk.bit (by decide)) (B.wr (wk.bit (by decide)) H15)))
      clear_value v18
      extract_lets +onlyGivenNames v20
      have H21 : P v20 := (keep_when (fun _ H23 => (B.wr (wk.bit (by decide)) H23)) H19)
      clear_value v20
      exact (keep_ite H21 (Hub.heldEnd_keeps B (wk.sub (by decide)) H21))

theorem Hub.sourceChange_keeps {km : Nat} (B : Hub.Bears km P) (wk : Sub 0x40000040800280200000000000c000001000000101010100000000000000010000000000000000000100010402 km) {h : Hub} {n : ℕ} {ireq : ℕ} (Hh : P h) : P (Hub.sourceChange h n ireq) := by
  unfold Hub.sourceChange
  extract_lets +onlyGivenNames v1
  have H2 : P v1 := (B.wr (wk.bit (by decide)) Hh)
  clear_value v1
  refine keep_ite ?_ ?_
  · exact (B.wr (wk.bit (by decide)) H2)
  · exact (keep_ite (Hub.sourceReady_keeps B (wk.sub (by decide)) H2) (B.wr (wk.bit (by decide)) (Hub.setSw_keeps B (wk.sub (by decide)) H2)))

theorem Hub.requestIn_keeps {km : Nat} (B : Hub.Bears km P) (wk : Sub 0x40000040800280200000000000c000001000000101010100000000000000010000000000000000000100010402 km) {h : Hub} {n : ℕ} {tok : ℕ} {ireq : ℕ} {pwr : ℕ} {arm : Bool} (Hh : P h) : P (Hub.requestIn h n tok ireq pwr arm) := by
  unfold Hub.requestIn
  extract_lets +onlyGivenNames v1
  have H2 : P v1 := (keep_when (fun _ H4 => (Hub.unask_keeps B (wk.sub (by decide)) H4)) (Hub.loadPwr_keeps B (wk.sub (by decide)) Hh))
  clear_value v1
  refine keep_ite ?_ ?_
  · exact H2
  · refine keep_ite ?_ ?_
    · exact (Hub.claspSay_keeps B (wk.sub (by decide)) H2)
    · refine keep_ite ?_ ?_
      · exact (Hub.claspSay_keeps B (wk.sub (by decide)) H2)
      · extract_lets +onlyGivenNames v5
        clear_value v5
        exact (Hub.sourceChange_keeps B (wk.sub (by decide)) (Hub.claspSay_keeps B (wk.sub (by decide)) (B.wr (wk.bit (by decide)) H2)))

theorem Hub.reserveAt_keeps {km : Nat} (B : Hub.Bears km P) (wk : Sub 0x1a800000000000004000000000000000000000000000000000010003000000030000000000000404 km) {h : Hub} {src : ℕ} {txn : ℕ} {amount : ℕ} {egress : ℕ} {i : ℕ} (Hh : P h) : P (Hub.reserveAt h src txn amount egress i).1 := by
  unfold Hub.reserveAt
  extract_lets +onlyGivenNames v1
  clear_value v1
  extract_lets +onlyGivenNames v2
  clear_value v2
  extract_lets +onlyGivenNames v3
  clear_value v3
  extract_lets +onlyGivenNames v4
  clear_value v4
  split
  · rename_i e5
    exact (keep_p1 Hh)
  · rename_i e6
    split
    · rename_i e7
      exact (keep_p1 Hh)
    · rename_i e8
      split
      · rename_i e9
        exact (keep_p1 Hh)
      · rename_i e10
        split
        · rename_i e11
          exact (keep_p1 Hh)
        · rename_i e12
          split
          · rename_i a13 a14 e15
            exact (keep_p1 Hh)
          · rename_i a16 e17
            exact (keep_p1 (Hub.cnt_keeps B (wk.bit (by decide)) (Hub.setRec_keeps B (wk.sub (by decide)) (Hub.setTxn_keeps B (wk.sub (by decide)) Hh))))

theorem Hub.retireTold_keeps {km : Nat} (B : Hub.Bears km P) (wk : Sub 0x280200000000000c000201000000000000000000000000000010000000000000000000100000402 km) {h : Hub} {p : ℕ} {mask : ℕ} (Hh : P h) : P (Hub.retireTold h p mask) := by
  unfold Hub.retireTold
  exact (Hub.refreshPortLanes_keeps B (wk.sub (by decide)) (keep_each (fun _ _ H3 => (by
    extract_lets +onlyGivenNames v4
    clear_value v4
    exact (keep_when (fun _ H6 => (Hub.irq_keeps B (wk.sub (by decide)) (Hub.setLane_keeps B (wk.sub (by decide)) (keep_when (fun _ H8 => (Hub.dropShadow_keeps B (wk.sub (by decide)) H8)) H6)))) H3))) Hh))

theorem Hub.retireIn_keeps {km : Nat} (B : Hub.Bears km P) (wk : Sub 0xb987aa80200000000000c00060100000000000000000000000000001030200010f030000000100014402 km) {h : Hub} {p : ℕ} {block : ℕ} (Hh : P h) : P (Hub.retireIn h p block) := by
  unfold Hub.retireIn
  extract_lets +onlyGivenNames v1
  clear_value v1
  extract_lets +onlyGivenNames v2
  clear_value v2
  extract_lets +onlyGivenNames v3
  have H4 : P v3 := (B.wr (wk.bit (by decide)) (Hub.retireTold_keeps B (wk.sub (by decide)) Hh))
  clear_value v3
  extract_lets +onlyGivenNames v5
  have H6 : P v5 := (keep_when (fun _ H8 => (keep_when (fun _ H10 => (Hub.endWidth_keeps B (wk.sub (by decide)) (keep_when (fun _ H12 => (B.wr (wk.bit (by decide)) H12)) H10))) (B.wr (wk.bit (by decide)) H8))) H4)
  clear_value v5
  refine keep_ite ?_ ?_
  · exact (keep_ite (keep_when (fun _ H14 => (Hub.irq_keeps B (wk.sub (by decide)) (Hub.endWidth_keeps B (wk.sub (by decide)) H14))) (B.wr (wk.bit (by decide)) (B.wr (wk.bit (by decide)) (B.wr (wk.bit (by decide)) H6)))) H6)
  · extract_lets +onlyGivenNames v15
    clear_value v15
    extract_lets +onlyGivenNames v16
    have H17 : P v16 := (B.wr (wk.bit (by decide)) (B.wr (wk.bit (by decide)) (B.wr (wk.bit (by decide)) H6)))
    clear_value v16
    exact (keep_ite (Hub.portDown_keeps B (wk.sub (by decide)) H17) H17)

theorem Hub.settleAsk_keeps {km : Nat} (B : Hub.Bears km P) (wk : Sub 0x4000000000049808800000000000004000000000000000000000000000000000000100000000010000000000000000 km) {h : Hub} {a : Ask} {status : ℕ} (Hh : P h) : P (Hub.settleAsk h a status) := by
  unfold Hub.settleAsk
  split
  · rename_i a1 e2
    exact Hh
  · rename_i a3 a4 e5
    exact (keep_ite (Hub.intentAcked_keeps B (wk.sub (by decide)) Hh) (Hub.answered_keeps B (wk.sub (by decide)) Hh))

theorem Hub.retryAsk_keeps {km : Nat} (B : Hub.Bears km P) (wk : Sub 0x400000000004b808800000000000004000000000000000000000000000000000000100000000010000000000000000 km) {h : Hub} {tok : ℕ} (Hh : P h) : P (Hub.retryAsk h tok) := by
  unfold Hub.retryAsk
  split
  · rename_i a1 e2
    exact Hh
  · rename_i a3 a4 e5
    refine keep_ite ?_ ?_
    · extract_lets +onlyGivenNames v6
      have H7 : P v6 := (Hub.ctlSend_keeps B (wk.sub (by decide)) Hh)
      clear_value v6
      exact (B.asks (wk.bit (by decide)) H7)
    · extract_lets +onlyGivenNames v8
      have H9 : P v8 := (B.asks (wk.bit (by decide)) Hh)
      clear_value v8
      extract_lets +onlyGivenNames v10
      have H11 : P v10 := (keep_ite (B.unrec (wk.bit (by decide)) H9) H9)
      clear_value v10
      exact (Hub.settleAsk_keeps B (wk.sub (by decide)) H11)

theorem Hub.rxSupersede_keeps {km : Nat} (B : Hub.Bears km P) (wk : Sub 0x108000000000000000000000000000000000000000010000800000000000000000000000000000 km) {h : Hub} {r : Fin 8} (Hh : P h) : P (Hub.rxSupersede h r) := by
  unfold Hub.rxSupersede
  exact (Hub.rxCommit_keeps B (wk.sub (by decide)) Hh)

theorem Hub.rxError_keeps {km : Nat} (B : Hub.Bears km P) (wk : Sub 0x800000000000000000000000000000 km) {h : Hub} {r : ℕ} (Hh : P h) : P (Hub.rxError h r) := by
  unfold Hub.rxError
  exact (B.wr (wk.bit (by decide)) (B.wr (wk.bit (by decide)) Hh))

theorem Hub.rxOpen_keeps {km : Nat} (B : Hub.Bears km P) (wk : Sub 0xa000000008000000000000000000000000000000000000000000000800000000000000000000000000000 km) {h : Hub} {r : Fin 8} {frame : ℕ} (Hh : P h) : P (Hub.rxOpen h r frame) := by
  unfold Hub.rxOpen
  extract_lets +onlyGivenNames v1
  have H2 : P v1 := (B.wr (wk.bit (by decide)) (B.wr (wk.bit (by decide)) (B.wr (wk.bit (by decide)) (B.wr (wk.bit (by decide)) (B.wr (wk.bit (by decide)) (B.wr (wk.bit (by decide)) (B.wr (wk.bit (by decide)) (Hub.beginFrame_keeps B (wk.sub (by decide)) (B.tileDone (wk.bit (by decide)) Hh)))))))))
  clear_value v1
  split
  · rename_i a3 e4
    extract_lets +onlyGivenNames v5
    clear_value v5
    exact (Hub.rxError_keeps B (wk.sub (by decide)) (Hub.cnt_keeps B (wk.bit (by decide)) (Hub.addGap_keeps B (wk.sub (by decide)) H2)))
  · rename_i a6 a7 e8
    exact (B.wr (wk.bit (by decide)) H2)

theorem Hub.rxFrame_keeps {km : Nat} (B : Hub.Bears km P) (wk : Sub 0xa000000108000000000000000000000000000000000000000010000800000000000000000000000000000 km) {h : Hub} {r : Fin 8} {frame : ℕ} (Hh : P h) : P (Hub.rxFrame h r frame) := by
  unfold Hub.rxFrame
  extract_lets +onlyGivenNames v1
  have H2 : P v1 := (B.wr (wk.bit (by decide)) Hh)
  clear_value v1
  refine keep_ite ?_ ?_
  · exact (Hub.rxOpen_keeps B (wk.sub (by decide)) H2)
  · exact (keep_ite H2 (Hub.rxOpen_keeps B (wk.sub (by decide)) (Hub.rxSupersede_keeps B (wk.sub (by decide)) H2)))

theorem Hub.rxEnd_keeps {km : Nat} (B : Hub.Bears km P) (wk : Sub 0xa000002908000000000004000000000000000000000000000010000810000000000000000000000000400 km) {h : Hub} {r : Fin 8} {t : TilePkt} (Hh : P h) : P (Hub.rxEnd h r t) := by
  unfold Hub.rxEnd
  extract_lets +onlyGivenNames v1
  clear_value v1
  extract_lets +onlyGivenNames v2
  have H3 : P v2 := (keep_when (fun _ H5 => (Hub.rxSupersede_keeps B (wk.sub (by decide)) H5)) Hh)
  clear_value v2
  refine keep_ite ?_ ?_
  · exact (Hub.cnt_keeps B (wk.bit (by decide)) (B.wr (wk.bit (by decide)) H3))
  · extract_lets +onlyGivenNames v6
    have H7 : P v6 := (Hub.rxFrame_keeps B (wk.sub (by decide)) H3)
    clear_value v6
    extract_lets +onlyGivenNames v8
    clear_value v8
    extract_lets +onlyGivenNames v9
    clear_value v9
    extract_lets +onlyGivenNames v10
    have H11 : P v10 := (keep_when (fun _ H13 => (Hub.rxError_keeps B (wk.sub (by decide)) (Hub.addGap_keeps B (wk.sub (by decide)) H13))) H7)
    clear_value v10
    refine keep_ite ?_ ?_
    · exact (Hub.raise_keeps B (wk.sub (by decide)) (Hub.rxClosed_keeps B (wk.sub (by decide)) (Hub.rxError_keeps B (wk.sub (by decide)) (Hub.abortSlot_keeps B (wk.sub (by decide)) H11))))
    · exact (keep_ite (B.wr (wk.bit (by decide)) H11) (Hub.rxCommit_keeps B (wk.sub (by decide)) H11))

theorem Hub.rxWrite_keeps {km : Nat} (B : Hub.Bears km P) (wk : Sub 0xa000002908000000000004000000000000000000000000000010000810000000000000000000000000400 km) {h : Hub} {r : Fin 8} {k : ℕ} {t : TilePkt} (Hh : P h) : P (Hub.rxWrite h r k t) := by
  unfold Hub.rxWrite
  extract_lets +onlyGivenNames v1
  clear_value v1
  split
  · rename_i a2 a3 a4 e5
    have H6 := keep_fst e5 (by
        split
        · rename_i e7
          exact (keep_p1 (Hub.putTile_keeps B (wk.sub (by decide)) Hh))
        · rename_i e8
          split
          · rename_i e9
            exact (keep_p1 (Hub.putTile_keeps B (wk.sub (by decide)) Hh))
          · rename_i e10
            split
            · rename_i a11 a12
              exact (keep_p1 (Hub.putTile_keeps B (wk.sub (by decide)) Hh))
            · rename_i a13
              exact (keep_p1 Hh))
    extract_lets +onlyGivenNames v14
    have H15 : P v14 := (B.tileDone (wk.bit (by decide)) H6)
    clear_value v14
    extract_lets +onlyGivenNames v16
    have H17 : P v16 := (Hub.cnt_keeps B (wk.bit (by decide)) (Hub.setSig_keeps B (wk.sub (by decide)) H15))
    clear_value v16
    exact (keep_ite (Hub.raise_keeps B (wk.sub (by decide)) (Hub.rxError_keeps B (wk.sub (by decide)) (B.wr (wk.bit (by decide)) (Hub.cnt_keeps B (wk.bit (by decide)) (Hub.addGap_keeps B (wk.sub (by decide)) H17))))) H17)

theorem Hub.rxTile_keeps {km : Nat} (B : Hub.Bears km P) (wk : Sub 0xa000002908000000000004000000000000000000000000000010000810000000000000000000000000400 km) {h : Hub} {r : Fin 8} {t : TilePkt} (Hh : P h) : P (Hub.rxTile h r t) := by
  unfold Hub.rxTile
  extract_lets +onlyGivenNames v1
  have H2 : P v1 := (Hub.rxFrame_keeps B (wk.sub (by decide)) Hh)
  clear_value v1
  split
  · rename_i a3 e4
    exact H2
  · rename_i a5 a6 e7
    refine keep_ite ?_ ?_
    · exact (Hub.raise_keeps B (wk.sub (by decide)) (Hub.rxError_keeps B (wk.sub (by decide)) H2))
    · extract_lets +onlyGivenNames v8
      clear_value v8
      extract_lets +onlyGivenNames v9
      have H10 : P v9 := (keep_when (fun _ H12 => (Hub.rxError_keeps B (wk.sub (by decide)) (Hub.cntN_keeps B (wk.bit (by decide)) (keep_when (fun _ H14 => (Hub.addGap_keeps B (wk.sub (by decide)) H14)) H12)))) H2)
      clear_value v9
      exact (keep_ite H10 (B.wr (wk.bit (by decide)) (B.wr (wk.bit (by decide)) (Hub.rxWrite_keeps B (wk.sub (by decide)) H10))))

theorem Hub.sceneSend_keeps {km : Nat} (B : Hub.Bears km P) (wk : Sub 0x20000000000000000000000000000000000000000000000000004000000000000000000000000000000000000 km) {h : Hub} {p : ℕ} (Hh : P h) : P (Hub.sceneSend h p) := by
  unfold Hub.sceneSend
  exact (keep_each (fun _ _ H3 => (Hub.cnt_keeps B (wk.bit (by decide)) (Hub.lumeSend_keeps B (wk.sub (by decide)) H3))) Hh)

theorem Hub.scrubLink_keeps {km : Nat} (B : Hub.Bears km P) (wk : Sub 0x52280000000000000400000000000000000000000000000000001000000010b000000000000000400 km) {h : Hub} {num : ℕ} {lo : ℕ} {link : ℕ} (Hh : P h) : P (Hub.scrubLink h num lo link) := by
  unfold Hub.scrubLink
  refine keep_ite ?_ ?_
  · exact Hh
  · refine keep_ite ?_ ?_
    · exact (Hub.cnt_keeps B (wk.bit (by decide)) Hh)
    · extract_lets +onlyGivenNames v1
      have H2 : P v1 := (Hub.raise_keeps B (wk.sub (by decide)) Hh)
      clear_value v1
      split
      · rename_i a3 a4 e5
        exact (Hub.strand_keeps B (wk.sub (by decide)) H2)
      · rename_i a6 e7
        exact H2

theorem Hub.scrubPass_keeps {km : Nat} (B : Hub.Bears km P) (wk : Sub 0x1000000000000000000 km) {h : Hub} {b : ℕ} (Hh : P h) : P (Hub.scrubPass h b) := by
  unfold Hub.scrubPass
  extract_lets +onlyGivenNames v1
  have H2 : P v1 := (keep_when (fun _ H4 => (B.wr (wk.bit (by decide)) H4)) Hh)
  clear_value v1
  extract_lets +onlyGivenNames v5
  have H6 : P v5 := (B.wr (wk.bit (by decide)) H2)
  clear_value v5
  exact (keep_ite (B.wr (wk.bit (by decide)) (B.wr (wk.bit (by decide)) (B.wr (wk.bit (by decide)) (keep_each (fun _ _ H9 => (B.wr (wk.bit (by decide)) H9)) H6)))) H6)

theorem Hub.setFlips_keeps {km : Nat} (B : Hub.Bears km P) (wk : Sub 0x20000000000000000000000000000000000000000000000000000000000000000000000000000000 km) {h : Hub} {num : ℕ} {n : ℕ} (Hh : P h) : P (Hub.setFlips h num n) := by
  unfold Hub.setFlips
  split
  · rename_i a1 a2 a3 a4 e5
    exact (Hub.setPkt_keeps B (wk.sub (by decide)) Hh)
  · rename_i a6 e7
    exact Hh

theorem Hub.scrubWord_keeps {km : Nat} (B : Hub.Bears km P) (wk : Sub 0x52280000000000000400000000000000000000000000000000001000000010b000000000000000400 km) {h : Hub} {num : ℕ} {flips : ℕ} {writtenMeanwhile : Bool} (Hh : P h) : P (Hub.scrubWord h num flips writtenMeanwhile) := by
  unfold Hub.scrubWord
  refine keep_ite ?_ ?_
  · exact Hh
  · refine keep_ite ?_ ?_
    · exact (keep_when (fun _ H2 => (Hub.setFlips_keeps B (wk.sub (by decide)) H2)) (Hub.corrected_keeps B (wk.sub (by decide)) Hh))
    · extract_lets +onlyGivenNames v3
      have H4 : P v3 := (keep_when (fun _ H6 => (Hub.setFlips_keeps B (wk.sub (by decide)) H6)) (Hub.raise_keeps B (wk.sub (by decide)) (Hub.cnt_keeps B (wk.bit (by decide)) Hh)))
      clear_value v3
      split
      · rename_i a7 a8 e9
        exact (Hub.poisonPkt_keeps B (wk.sub (by decide)) H4)
      · rename_i a10 e11
        exact H4

theorem Hub.scrubRead_keeps {km : Nat} (B : Hub.Bears km P) (wk : Sub 0x52280000000000000400000000000000000000000000000000001000000010b000000000000000400 km) {h : Hub} {b : ℕ} {found : ℕ} {writtenMeanwhile : Bool} (Hh : P h) : P (Hub.scrubRead h b found writtenMeanwhile) := by
  unfold Hub.scrubRead
  extract_lets +onlyGivenNames v1
  clear_value v1
  extract_lets +onlyGivenNames v2
  clear_value v2
  refine keep_ite ?_ ?_
  · exact Hh
  · extract_lets +onlyGivenNames v3
    clear_value v3
    extract_lets +onlyGivenNames v4
    clear_value v4
    extract_lets +onlyGivenNames v5
    have H6 : P v5 := (Hub.scrubWord_keeps B (wk.sub (by decide)) Hh)
    clear_value v5
    extract_lets +onlyGivenNames v7
    have H8 : P v7 := (keep_when (fun _ H10 => (Hub.corrected_keeps B (wk.sub (by decide)) H10)) H6)
    clear_value v7
    extract_lets +onlyGivenNames v11
    have H12 : P v11 := (Hub.scrubLink_keeps B (wk.sub (by decide)) H8)
    clear_value v11
    split
    · rename_i a13 a14
      exact (Hub.scrubLink_keeps B (wk.sub (by decide)) H12)
    · rename_i a15
      exact H12

theorem Hub.sendBlock_keeps {km : Nat} (B : Hub.Bears km P) (wk : Sub 0x400000000000000000000000000000000000000000000000000000000000000000000000000000000000 km) {h : Hub} {p : ℕ} {ks : List ℕ} {v : ℕ} (Hh : P h) : P (Hub.sendBlock h p ks v) := by
  unfold Hub.sendBlock
  exact (keep_each (fun _ _ H3 => (Hub.ctlPut_keeps B (wk.sub (by decide)) H3)) Hh)

theorem Hub.sendEidle_keeps {km : Nat} (B : Hub.Bears km P) (wk : Sub 0x41800a80200000000000c000601000000000000000000000000000010102000000030000000100014402 km) {h : Hub} {p : ℕ} (Hh : P h) : P (Hub.sendEidle h p) := by
  unfold Hub.sendEidle
  extract_lets +onlyGivenNames v1
  clear_value v1
  exact (Hub.enterLow_keeps B (wk.sub (by decide)) (Hub.sendBlock_keeps B (wk.sub (by decide)) Hh))

theorem Hub.sendEnd_keeps {km : Nat} (B : Hub.Bears km P) (wk : Sub 0x8000000000000000000000000000000000000000000000800000000000000000000000000000 km) {h : Hub} {s : ℕ} (Hh : P h) : P (Hub.sendEnd h s) := by
  unfold Hub.sendEnd
  extract_lets +onlyGivenNames v1
  clear_value v1
  extract_lets +onlyGivenNames v2
  have H3 : P v2 := (B.wr (wk.bit (by decide)) (B.wr (wk.bit (by decide)) (B.wr (wk.bit (by decide)) (Hub.cnt_keeps B (wk.bit (by decide)) Hh))))
  clear_value v2
  exact (keep_when (fun _ H5 => (Hub.hold_keeps B (wk.sub (by decide)) H5)) (keep_when (fun _ H7 => (B.wr (wk.bit (by decide)) H7)) H3))

theorem Hub.sendFrame_keeps {km : Nat} (B : Hub.Bears km P) (wk : Sub 0x688200800000000000004000200000000000000000000000000000000000000100000000000100010000 km) {h : Hub} {p : ℕ} {k : ℕ} {lowest : Bool} (Hh : P h) : P (Hub.sendFrame h p k lowest) := by
  unfold Hub.sendFrame
  extract_lets +onlyGivenNames v1
  clear_value v1
  extract_lets +onlyGivenNames v2
  clear_value v2
  split
  · rename_i a3 a4 a5 e6
    have H7 := keep_snd e6 (by
        split
        · rename_i a8 a9
          exact (keep_p2 (B.wr (wk.bit (by decide)) (B.replay (wk.bit (by decide)) Hh)))
        · rename_i a10
          exact (Hub.newFrame_keeps B (wk.sub (by decide)) (B.wr (wk.bit (by decide)) Hh)))
    split
    · rename_i a11 a12 a13 a14 e15
      have H16 := keep_snd2 e15 (Hub.infoField_keeps B (wk.sub (by decide)) H7)
      extract_lets +onlyGivenNames v17
      clear_value v17
      extract_lets +onlyGivenNames v18
      have H19 : P v18 := (keep_when (fun _ H21 => (Hub.cnt_keeps B (wk.bit (by decide)) H21)) H16)
      clear_value v18
      refine keep_ite ?_ ?_
      · split
        · rename_i a22 a23 a24 e25
          have H26 := keep_snd e25 (Hub.free_keeps B (wk.sub (by decide)) (B.wr (wk.bit (by decide)) H19))
          exact (Hub.framePut_keeps B (wk.sub (by decide)) H26)
      · exact (Hub.framePut_keeps B (wk.sub (by decide)) H19)

theorem Hub.stidCommit_keeps {km : Nat} (B : Hub.Bears km P) (wk : Sub 0x2000000000000000001000000000000000000000000000800000000000000000000000000000 km) {h : Hub} {s : ℕ} (Hh : P h) : P (Hub.stidCommit h s) := by
  unfold Hub.stidCommit
  extract_lets +onlyGivenNames v1
  clear_value v1
  refine keep_ite ?_ ?_
  · extract_lets +onlyGivenNames v2
    have H3 : P v2 := (B.wr (wk.bit (by decide)) (B.shadow (wk.bit (by decide)) Hh))
    clear_value v2
    exact (keep_when (fun _ H5 => (B.wr (wk.bit (by decide)) H5)) H3)
  · exact Hh

theorem Hub.sendFrameOf_keeps {km : Nat} (B : Hub.Bears km P) (wk : Sub 0x1400000000a000000000000000001000000000000000000000000000800000000000000000000000000000 km) {h0 : Hub} {s : ℕ} {k : ℕ} (Hh0 : P h0) : P (Hub.sendFrameOf h0 s k) := by
  unfold Hub.sendFrameOf
  extract_lets +onlyGivenNames v1
  have H2 : P v1 := (Hub.stidCommit_keeps B (wk.sub (by decide)) Hh0)
  clear_value v1
  extract_lets +onlyGivenNames v3
  clear_value v3
  extract_lets +onlyGivenNames v4
  clear_value v4
  extract_lets +onlyGivenNames v5
  clear_value v5
  extract_lets +onlyGivenNames v6
  clear_value v6
  extract_lets +onlyGivenNames v7
  clear_value v7
  extract_lets +onlyGivenNames v8
  clear_value v8
  extract_lets +onlyGivenNames v9
  clear_value v9
  extract_lets +onlyGivenNames v10
  clear_value v10
  extract_lets +onlyGivenNames v11
  clear_value v11
  extract_lets +onlyGivenNames v12
  clear_value v12
  extract_lets +onlyGivenNames v13
  clear_value v13
  extract_lets +onlyGivenNames v14
  clear_value v14
  extract_lets +onlyGivenNames v15
  clear_value v15
  extract_lets +onlyGivenNames v16
  clear_value v16
  extract_lets +onlyGivenNames v17
  clear_value v17
  extract_lets +onlyGivenNames v18
  clear_value v18
  extract_lets +onlyGivenNames v19
  have H20 : P v19 := (B.set_repairs_tileOut (wk.bit (by decide)) (wk.bit (by decide)) H2)
  clear_value v19
  extract_lets +onlyGivenNames v21
  have H22 : P v21 := (Hub.hold_keeps B (wk.sub (by decide)) (keep_each (fun _ _ H25 => (Hub.setTword_keeps B (wk.sub (by decide)) H25)) H20))
  clear_value v21
  extract_lets +onlyGivenNames v26
  clear_value v26
  extract_lets +onlyGivenNames v27
  clear_value v27
  exact (B.wr (wk.bit (by decide)) (B.wr (wk.bit (by decide)) (B.wr (wk.bit (by decide)) (B.wr (wk.bit (by decide)) (Hub.cntN_keeps B (wk.bit (by decide)) (Hub.cntN_keeps B (wk.bit (by decide)) (Hub.cntN_keeps B (wk.bit (by decide)) (Hub.cntN_keeps B (wk.bit (by decide)) (Hub.cntN_keeps B (wk.bit (by decide)) (B.wr (wk.bit (by decide)) (B.wr (wk.bit (by decide)) H22)))))))))))

theorem Hub.timeOut_keeps {km : Nat} (B : Hub.Bears km P) (wk : Sub 0x8000000000000000000000000000000000000000000000000000000000000000000000000000010000 km) {p : ℕ} {h : Hub} (Hh : P h) : P (Hub.timeOut p h) := by
  unfold Hub.timeOut
  exact (keep_when (fun _ H2 => (by
    extract_lets +onlyGivenNames v3
    clear_value v3
    extract_lets +onlyGivenNames v4
    clear_value v4
    exact (Hub.lmcSend_keeps B (wk.sub (by decide)) (B.wr (wk.bit (by decide)) H2)))) Hh)

theorem Hub.sendGroup_keeps {km : Nat} (B : Hub.Bears km P) (wk : Sub 0xf987aa80200000000000c00060100000000000000000000000000001030200010f030000000100014402 km) {h : Hub} {p : ℕ} (Hh : P h) : P (Hub.sendGroup h p) := by
  unfold Hub.sendGroup
  extract_lets +onlyGivenNames v1
  clear_value v1
  extract_lets +onlyGivenNames v2
  have H3 : P v2 := (Hub.ageFields_keeps B (wk.sub (by decide)) (Hub.timeOut_keeps B (wk.sub (by decide)) (keep_each (fun _ _ H6 => (Hub.sendFrame_keeps B (wk.sub (by decide)) H6)) Hh)))
  clear_value v2
  extract_lets +onlyGivenNames v7
  clear_value v7
  extract_lets +onlyGivenNames v8
  have H9 : P v8 := (B.wr (wk.bit (by decide)) H3)
  clear_value v8
  extract_lets +onlyGivenNames v10
  clear_value v10
  extract_lets +onlyGivenNames v11
  have H12 : P v11 := (keep_ite (keep_each (fun _ _ H15 => (Hub.ctlPut_keeps B (wk.sub (by decide)) H15)) (B.wr (wk.bit (by decide)) H9)) (keep_ite (Hub.sendBlock_keeps B (wk.sub (by decide)) H9) H9))
  clear_value v11
  exact (keep_when (fun _ H17 => (Hub.portDown_keeps B (wk.sub (by decide)) H17)) H12)

theorem Hub.sendNext_keeps {km : Nat} (B : Hub.Bears km P) (wk : Sub 0x1400000000a000000000000000001000000000000000000000000000800000000000000000000000000000 km) {h : Hub} {s : Fin 64} (Hh : P h) : P (Hub.sendNext h s) := by
  unfold Hub.sendNext
  split
  · rename_i a1 a2 e3
    exact (keep_ite Hh (Hub.sendFrameOf_keeps B (wk.sub (by decide)) Hh))
  · rename_i a4 e5
    exact Hh

theorem Hub.sendRetire_keeps {km : Nat} (B : Hub.Bears km P) (wk : Sub 0xf987aa80200000000000c00060100000000000000000000000000001030200010f030000000100014402 km) {h : Hub} {p : ℕ} (Hh : P h) : P (Hub.sendRetire h p) := by
  unfold Hub.sendRetire
  extract_lets +onlyGivenNames v1
  clear_value v1
  extract_lets +onlyGivenNames v2
  clear_value v2
  refine keep_ite ?_ ?_
  · extract_lets +onlyGivenNames v3
    clear_value v3
    extract_lets +onlyGivenNames v4
    clear_value v4
    exact (keep_ite (Hub.portDown_keeps B (wk.sub (by decide)) Hh) (B.wr (wk.bit (by decide)) (B.wr (wk.bit (by decide)) (B.wr (wk.bit (by decide)) (Hub.applySet_keeps B (wk.sub (by decide)) (Hub.freeOfCharge_keeps B (wk.sub (by decide)) (Hub.sendBlock_keeps B (wk.sub (by decide)) Hh)))))))
  · refine keep_ite ?_ ?_
    · extract_lets +onlyGivenNames v5
      clear_value v5
      exact (keep_ite (Hub.portDown_keeps B (wk.sub (by decide)) Hh) (Hub.applySet_keeps B (wk.sub (by decide)) (Hub.freeOfCharge_keeps B (wk.sub (by decide)) (B.wr (wk.bit (by decide)) (Hub.sendBlock_keeps B (wk.sub (by decide)) Hh)))))
    · exact Hh

theorem Hub.sessionReq_keeps {km : Nat} (B : Hub.Bears km P) (wk : Sub 0x1000000000000002800000000000004000000000000000000000000000000000010000000000000000000000002400 km) {h : Hub} {op : ℕ} {f : TsudyFrame} {params : Bytes} {need : ℕ} {run : Hub → ℕ × Bytes × Hub} (Hh : P h) (Hrun : ∀ a0, P a0 → P (run a0).2.2) : P (Hub.sessionReq h op f params need run) := by
  unfold Hub.sessionReq
  refine keep_ite ?_ ?_
  · exact (Hub.mgpReply_keeps B (wk.sub (by decide)) Hh)
  · refine keep_ite ?_ ?_
    · extract_lets +onlyGivenNames v1
      clear_value v1
      extract_lets +onlyGivenNames v2
      have H3 : P v2 := (Hub.mgpReply_keeps B (wk.sub (by decide)) (Hub.raise_keeps B (wk.sub (by decide)) (Hub.cnt_keeps B (wk.bit (by decide)) (B.wr (wk.bit (by decide)) Hh))))
      clear_value v2
      exact (keep_when (fun _ H5 => (Hub.closeSession_keeps B (wk.sub (by decide)) H5)) H3)
    · refine keep_ite ?_ ?_
      · exact (Hub.mgpReply_keeps B (wk.sub (by decide)) (Hub.raise_keeps B (wk.sub (by decide)) (Hub.cnt_keeps B (wk.bit (by decide)) (B.wr (wk.bit (by decide)) Hh))))
      · extract_lets +onlyGivenNames v6
        have H7 : P v6 := (Hub.cnt_keeps B (wk.bit (by decide)) (B.wr (wk.bit (by decide)) (B.wr (wk.bit (by decide)) Hh)))
        clear_value v6
        split
        · rename_i a8 a9 a10 a11 e12
          have H13 := keep_snd2 e12 (by
              split
              · rename_i e14
                exact (Hrun _ H7)
              · rename_i e15
                exact (keep_p22 H7))
          exact (keep_when (fun _ H17 => (Hub.mgpTagged_keeps B (wk.sub (by decide)) H17)) H13)

theorem Hub.sessionWords_keeps {km : Nat} (B : Hub.Bears km P) (wk : Sub 0x8000000000000000000000000000000000ff87fffffffffffb9fe00000000000c001ffb00003010101010007000d030701a3030300010f03000000010001ffff km) {f : TsudyFrame} {write : Bool} {fixed : Bool} {h : Hub} (Hh : P h) : P (Hub.sessionWords f write fixed h).2.2 := by
  unfold Hub.sessionWords
  extract_lets +onlyGivenNames v1
  clear_value v1
  split
  · rename_i e2
    split
    · rename_i e3
      exact (keep_p22 Hh)
    · rename_i e4
      split
      · rename_i a5 a6 a7 e8
        have H9 := keep_snd e8 (Hub.manyWords_keeps B (wk.sub (by decide)) Hh)
        exact (keep_p22 H9)
  · rename_i e10
    split
    · rename_i e11
      exact (keep_p22 Hh)
    · rename_i e12
      split
      · rename_i a13 a14 a15 e16
        have H17 := keep_snd e16 (Hub.manyWords_keeps B (wk.sub (by decide)) Hh)
        exact (keep_p22 H17)

theorem Hub.settleGo_keeps {km : Nat} (B : Hub.Bears km P) (wk : Sub 0xa800000000000004000000000000000000000000000000000010000000000010000000000000400 km) {h : Hub} (Hh : P h) : P (Hub.settleGo h) := by
  unfold Hub.settleGo
  split
  · rename_i a1 e2
    exact Hh
  · rename_i a3 a4 a5 e6
    exact (keep_when (fun _ H8 => (by
      split
      · rename_i a9 a10 a11 a12 e13
        exact (B.wr (wk.bit (by decide)) (Hub.rrqSend_keeps B (wk.sub (by decide)) (B.wr (wk.bitAt (kind_word_TUN_RRQ_DATA _) (by decide)) (B.wr (wk.bit (by decide)) (B.wr (wk.bit (by decide)) (B.wr (wk.bit (by decide)) (B.wr (wk.bit (by decide)) H8))))))))) Hh)

theorem Hub.settleAll_keeps {km : Nat} (B : Hub.Bears km P) (wk : Sub 0x800000000000000a800000000000004000000000000000000000000000000000010000000000010000000000000400 km) {h : Hub} {l : List Settle} (Hh : P h) : P (Hub.settleAll h l) := by
  unfold Hub.settleAll
  exact (Hub.settleGo_keeps B (wk.sub (by decide)) (B.settles (wk.bit (by decide)) Hh))

theorem Hub.settleEnd.resend_keeps {km : Nat} (B : Hub.Bears km P) (wk : Sub 0x808000000000000000000000000000000000000000000000000000000000000010000000000000000 km) {h : Hub} {u : Unrec} (Hh : P h) : P (Hub.settleEnd.resend h u) := by
  unfold Hub.settleEnd.resend
  exact (Hub.askFor_keeps B (wk.sub (by decide)) Hh)

theorem Hub.settleEnd_keeps {km : Nat} (B : Hub.Bears km P) (wk : Sub 0x4000000000007808000000000000000000000000000000000000000000000000000100000000010000000000000000 km) {h : Hub} {s : Settle} (Hh : P h) : P (Hub.settleEnd h s) := by
  unfold Hub.settleEnd
  split
  · rename_i a1 a2 e3
    split
    · rename_i a4 a5 a6 a7 e8
      exact (keep_ite (B.unrec (wk.bit (by decide)) Hh) (Hub.settleEnd.resend_keeps B (wk.sub (by decide)) Hh))
    · rename_i a9 e10
      exact (Hub.settleEnd.resend_keeps B (wk.sub (by decide)) Hh)
  · rename_i a11 e12
    extract_lets +onlyGivenNames v13
    have H14 : P v13 := (B.intents (wk.bit (by decide)) Hh)
    clear_value v13
    split
    · rename_i a15 a16 a17 a18 e19
      extract_lets +onlyGivenNames v20
      clear_value v20
      split
      · rename_i a21 a22 a23 e24
        have H25 := keep_snd e24 (Hub.numbered_keeps B (wk.sub (by decide)) H14)
        extract_lets +onlyGivenNames v26
        clear_value v26
        exact (keep_ite (Hub.recordLegs_keeps B (wk.sub (by decide)) H25) (Hub.openChange_keeps B (wk.sub (by decide)) H25))
    · rename_i a27 e28
      exact H14

theorem Hub.settleIn_keeps {km : Nat} (B : Hub.Bears km P) (wk : Sub 0xc00000000000780a800000000000004000000000000000000000000000000000010100000000010000000000000400 km) {h : Hub} {ok : Bool} {v : ℕ} (Hh : P h) : P (Hub.settleIn h ok v) := by
  unfold Hub.settleIn
  split
  · rename_i a1 e2
    exact Hh
  · rename_i a3 a4 a5 e6
    extract_lets +onlyGivenNames v7
    clear_value v7
    exact (keep_ite (Hub.settleGo_keeps B (wk.sub (by decide)) (Hub.afterSettling_keeps B (wk.sub (by decide)) (Hub.settleEnd_keeps B (wk.sub (by decide)) (B.settles (wk.bit (by decide)) Hh)))) (Hub.settleGo_keeps B (wk.sub (by decide)) (B.settles (wk.bit (by decide)) Hh)))

theorem Hub.setup_keeps {km : Nat} (B : Hub.Bears km P) (wk : Sub 0x82808000000000004000000000000000000000000000000000010200000000010000000000000400 km) {h : Hub} {src : ℕ} {entry : Ent} (Hh : P h) : P (Hub.setup h src entry).2.2 := by
  unfold Hub.setup
  extract_lets +onlyGivenNames v1
  clear_value v1
  extract_lets +onlyGivenNames v2
  clear_value v2
  extract_lets +onlyGivenNames v3
  clear_value v3
  split
  · rename_i e4
    exact (keep_p22 Hh)
  · rename_i e5
    split
    · rename_i a6 a7 e8
      split
      · rename_i e9
        exact (keep_p22 Hh)
      · rename_i e10
        exact (keep_p22 Hh)
    · rename_i a11 e12
      split
      · rename_i a13 e14
        exact (keep_p22 Hh)
      · rename_i a15 a16 e17
        split
        · rename_i e18
          split
          · rename_i a19 e20
            exact (keep_p22 Hh)
          · rename_i a21 a22 e23
            extract_lets +onlyGivenNames v24
            clear_value v24
            extract_lets +onlyGivenNames v25
            have H26 : P v25 := (Hub.initContext_keeps B (wk.sub (by decide)) Hh)
            clear_value v25
            split
            · rename_i e27
              exact (keep_p22 (Hub.tunReplace_keeps B (wk.sub (by decide)) H26))
            · rename_i e28
              extract_lets +onlyGivenNames v29
              clear_value v29
              extract_lets +onlyGivenNames v30
              have H31 : P v30 := (B.wr (wk.bit (by decide)) (B.wr (wk.bit (by decide)) (B.wr (wk.bit (by decide)) H26)))
              clear_value v30
              exact (keep_p22 (Hub.tunReplace_keeps B (wk.sub (by decide)) H31))
        · rename_i e32
          exact (keep_p22 (Hub.tunReplace_keeps B (wk.sub (by decide)) Hh))

theorem Hub.setupIn_keeps {km : Nat} (B : Hub.Bears km P) (wk : Sub 0x200000000000800000000000004000000000000000000000020000000000000000000000000000000000000000 km) {h : Hub} {bs : Bytes} (Hh : P h) : P (Hub.setupIn h bs) := by
  unfold Hub.setupIn
  extract_lets +onlyGivenNames v1
  clear_value v1
  extract_lets +onlyGivenNames v2
  clear_value v2
  extract_lets +onlyGivenNames v3
  clear_value v3
  extract_lets +onlyGivenNames v4
  clear_value v4
  extract_lets +onlyGivenNames v5
  clear_value v5
  extract_lets +onlyGivenNames v6
  have H7 : P v6 := (B.wr (wk.bit (by decide)) (keep_when (fun _ H9 => (Hub.cnt_keeps B (wk.bit (by decide)) (B.wr (wk.bit (by decide)) (Hub.ep0Drop_keeps B (wk.sub (by decide)) H9)))) Hh))
  clear_value v6
  extract_lets +onlyGivenNames v10
  clear_value v10
  extract_lets +onlyGivenNames v11
  clear_value v11
  extract_lets +onlyGivenNames v12
  have H13 : ∀ a0, P a0 → P (v12 a0) := (fun _ H15 => (Hub.irq_keeps B (wk.sub (by decide)) (Hub.cnt_keeps B (wk.bit (by decide)) (B.wr (wk.bit (by decide)) (B.wr (wk.bit (by decide)) (B.wr (wk.bit (by decide)) (B.wr (wk.bit (by decide)) (B.wr (wk.bit (by decide)) H15))))))))
  clear_value v12
  extract_lets +onlyGivenNames v16
  have H17 : ∀ a0 a1, P a0 → P (v16 a0 a1) := (fun _ _ H19 => (B.udfOut (wk.bit (by decide)) H19))
  clear_value v16
  split
  · rename_i a21 a22
    exact (B.wr (wk.bit (by decide)) H7)
  · rename_i a23 a24
    exact (H13 _ (B.wr (wk.bit (by decide)) H7))
  · rename_i a25 a26
    split
    · rename_i a27 a28 a29 e30
      have H31 := keep_snd e30 (Hub.free_keeps B (wk.sub (by decide)) H7)
      exact (H17 _ _ H31)
  · rename_i a32 a33
    exact (H17 _ _ H7)
  · rename_i a34 a35
    exact (H17 _ _ H7)
  · rename_i a36 a37 e38 e39
    exact (keep_ite (B.wr (wk.bit (by decide)) H7) (H13 _ H7))
  · rename_i a40 a41
    refine keep_ite ?_ ?_
    · refine keep_ite ?_ ?_
      · exact (B.wr (wk.bit (by decide)) H7)
      · refine keep_ite ?_ ?_
        · exact (B.wr (wk.bit (by decide)) H7)
        · exact (keep_ite (B.wr (wk.bit (by decide)) H7) H7)
    · exact (H13 _ H7)
  · rename_i a42 a43 e44 e45 e46 e47 e48 e49 e50
    exact (H13 _ H7)

theorem Hub.softDone_keeps {km : Nat} (B : Hub.Bears km P) (wk : Sub 0x280200000000000c000003000000000000000000000010100030000000000000000000100010412 km) {pg : ℕ} {h : Hub} (Hh : P h) : P (Hub.softDone pg h) := by
  unfold Hub.softDone
  exact (Hub.startPage_keeps B (wk.sub (by decide)) (B.wr (wk.bit (by decide)) (B.wr (wk.bit (by decide)) Hh)))

theorem Hub.swapDone_keeps {km : Nat} (B : Hub.Bears km P) (wk : Sub 0x4000000000000101010100000000000000000000000000000000000000000000 km) {h : Hub} {n : ℕ} (Hh : P h) : P (Hub.swapDone h n) := by
  unfold Hub.swapDone
  exact (Hub.setClp_keeps B (wk.sub (by decide)) (Hub.irq_keeps B (wk.sub (by decide)) (Hub.cnt_keeps B (wk.bit (by decide)) Hh)))

theorem Hub.srcOffIn_keeps {km : Nat} (B : Hub.Bears km P) (wk : Sub 0x40000040800280200000000000c000001000000101010100000000000000010000000000000000000100010402 km) {h : Hub} {n : ℕ} {tok : ℕ} (Hh : P h) : P (Hub.srcOffIn h n tok) := by
  unfold Hub.srcOffIn
  extract_lets +onlyGivenNames v1
  have H2 : P v1 := (Hub.claspSay_keeps B (wk.sub (by decide)) Hh)
  clear_value v1
  refine keep_ite ?_ ?_
  · exact H2
  · refine keep_ite ?_ ?_
    · exact (Hub.sendOffer_keeps B (wk.sub (by decide)) (Hub.swapDone_keeps B (wk.sub (by decide)) H2))
    · extract_lets +onlyGivenNames v3
      have H4 : P v3 := (B.wr (wk.bit (by decide)) (B.wr (wk.bit (by decide)) (Hub.setSw_keeps B (wk.sub (by decide)) H2)))
      clear_value v3
      split
      · rename_i a5 a6 a7 e8
        have H9 := keep_snd e8 (Hub.nextTok_keeps B (wk.sub (by decide)) H4)
        exact (Hub.sendOffer_keeps B (wk.sub (by decide)) (Hub.swapDone_keeps B (wk.sub (by decide)) (Hub.claspSay_keeps B (wk.sub (by decide)) H9)))

theorem Hub.yieldCable_keeps {km : Nat} (B : Hub.Bears km P) (wk : Sub 0x101010100000000000000000000000000000000000000000000 km) {h : Hub} {n : ℕ} (Hh : P h) : P (Hub.yieldCable h n) := by
  unfold Hub.yieldCable
  exact (Hub.refreshBus_keeps B (wk.sub (by decide)) (B.wr (wk.bit (by decide)) (B.wr (wk.bit (by decide)) (B.wr (wk.bit (by decide)) (Hub.setSw_keeps B (wk.sub (by decide)) Hh)))))

theorem Hub.srcOnIn_keeps {km : Nat} (B : Hub.Bears km P) (wk : Sub 0x40000040800280200000000000c000001000000101010100000000000000010000000000000000000100010402 km) {h : Hub} {n : ℕ} {tok : ℕ} {fast : Bool} (Hh : P h) : P (Hub.srcOnIn h n tok fast) := by
  unfold Hub.srcOnIn
  extract_lets +onlyGivenNames v1
  have H2 : P v1 := (Hub.claspSay_keeps B (wk.sub (by decide)) Hh)
  clear_value v1
  refine keep_ite ?_ ?_
  · exact (keep_when (fun _ H4 => (Hub.yieldCable_keeps B (wk.sub (by decide)) H4)) H2)
  · refine keep_ite ?_ ?_
    · exact H2
    · exact (keep_ite (Hub.swapDone_keeps B (wk.sub (by decide)) (Hub.claspRequest_keeps B (wk.sub (by decide)) (B.wr (wk.bit (by decide)) (Hub.setSw_keeps B (wk.sub (by decide)) H2)))) (Hub.swapDone_keeps B (wk.sub (by decide)) H2))

theorem Hub.stepTime_keeps {km : Nat} (B : Hub.Bears km P) (wk : Sub 0x1 km) {h : Hub} {d : ℤ} (Hh : P h) : P (Hub.stepTime h d) := by
  unfold Hub.stepTime
  extract_lets +onlyGivenNames v1
  clear_value v1
  exact (B.wr (wk.bit (by decide)) (B.wr (wk.bit (by decide)) Hh))

theorem Hub.steer_keeps {km : Nat} (B : Hub.Bears km P) (wk : Sub 0x2800000000000004000000000000000000000000000000000010100000000000000000000000401 km) {h : Hub} {offset : ℤ} {period : ℕ} (Hh : P h) : P (Hub.steer h offset period) := by
  unfold Hub.steer
  extract_lets +onlyGivenNames v1
  clear_value v1
  extract_lets +onlyGivenNames v2
  clear_value v2
  extract_lets +onlyGivenNames v3
  clear_value v3
  extract_lets +onlyGivenNames v4
  clear_value v4
  extract_lets +onlyGivenNames v5
  have H6 : P v5 := (keep_when (fun _ H8 => (Hub.irq_keeps B (wk.sub (by decide)) H8)) (B.wr (wk.bit (by decide)) (B.wr (wk.bit (by decide)) (B.wr (wk.bit (by decide)) (B.wr (wk.bit (by decide)) Hh)))))
  clear_value v5
  refine keep_ite ?_ ?_
  · exact (Hub.raise_keeps B (wk.sub (by decide)) (Hub.cnt_keeps B (wk.bit (by decide)) (Hub.stepTime_keeps B (wk.sub (by decide)) H6)))
  · extract_lets +onlyGivenNames v9
    clear_value v9
    extract_lets +onlyGivenNames v10
    clear_value v10
    exact (B.wr (wk.bit (by decide)) (B.wr (wk.bit (by decide)) (B.wr (wk.bit (by decide)) H6)))

theorem Hub.stepPreset_keeps {km : Nat} (B : Hub.Bears km P) (wk : Sub 0x100000000 km) {h : Hub} {l : ℕ} (Hh : P h) : P (Hub.stepPreset h l) := by
  unfold Hub.stepPreset
  extract_lets +onlyGivenNames v1
  clear_value v1
  exact (Hub.cnt_keeps B (wk.bit (by decide)) (B.wr (wk.bit (by decide)) Hh))

theorem Hub.streamCycle_keeps {km : Nat} (B : Hub.Bears km P) (wk : Sub 0x100005fa80800000000000400000000000000000000000000000000081030100010b030000000000000404 km) {s : ℕ} {h : Hub} (Hh : P h) : P (Hub.streamCycle s h) := by
  unfold Hub.streamCycle
  split
  · rename_i a1 e2
    exact Hh
  · rename_i a3 a4 a5 e6
    extract_lets +onlyGivenNames v7
    clear_value v7
    extract_lets +onlyGivenNames v8
    clear_value v8
    extract_lets +onlyGivenNames v9
    clear_value v9
    extract_lets +onlyGivenNames v10
    clear_value v10
    refine keep_ite ?_ ?_
    · exact (B.wr (wk.bit (by decide)) Hh)
    · extract_lets +onlyGivenNames v11
      clear_value v11
      extract_lets +onlyGivenNames v12
      have H13 : P v12 := (Hub.cellIn_keeps B (wk.sub (by decide)) (B.wr (wk.bit (by decide)) (B.wr (wk.bit (by decide)) Hh)))
      clear_value v12
      exact (keep_ite (B.wr (wk.bit (by decide)) (B.wr (wk.bit (by decide)) H13)) (keep_when (fun _ H15 => (Hub.sendEnd_keeps B (wk.sub (by decide)) H15)) (B.wr (wk.bit (by decide)) (B.wr (wk.bit (by decide)) (B.tileOut (wk.bit (by decide)) H13)))))

theorem Hub.swapStart_keeps {km : Nat} (B : Hub.Bears km P) (wk : Sub 0x400000000000000000000000004000000000000101010100000000000000000000000000000000000000000000 km) {h : Hub} {n : ℕ} (Hh : P h) : P (Hub.swapStart h n) := by
  unfold Hub.swapStart
  extract_lets +onlyGivenNames v1
  clear_value v1
  extract_lets +onlyGivenNames v2
  have H3 : P v2 := (Hub.setClp_keeps B (wk.sub (by decide)) (B.wr (wk.bit (by decide)) (Hub.endContract_keeps B (wk.sub (by decide)) Hh)))
  clear_value v2
  exact (keep_ite (keep_when (fun _ H5 => (B.wr (wk.bit (by decide)) H5)) H3) (keep_when (fun _ H7 => (B.wr (wk.bit (by decide)) (Hub.setSw_keeps B (wk.sub (by decide)) H7))) H3))

theorem Hub.swapReqIn_keeps {km : Nat} (B : Hub.Bears km P) (wk : Sub 0x40000040800280200000000000c000001000000101010100000000000000010000000000000000000100010402 km) {h : Hub} {n : ℕ} {tok : ℕ} {pwr : ℕ} (Hh : P h) : P (Hub.swapReqIn h n tok pwr) := by
  unfold Hub.swapReqIn
  extract_lets +onlyGivenNames v1
  clear_value v1
  extract_lets +onlyGivenNames v2
  have H3 : P v2 := (Hub.loadPwr_keeps B (wk.sub (by decide)) Hh)
  clear_value v2
  refine keep_ite ?_ ?_
  · exact (Hub.claspSay_keeps B (wk.sub (by decide)) H3)
  · extract_lets +onlyGivenNames v4
    have H5 : P v4 := (keep_when (fun _ H7 => (Hub.unask_keeps B (wk.sub (by decide)) H7)) H3)
    clear_value v4
    split
    · rename_i a8 e9
      exact (Hub.swapStart_keeps B (wk.sub (by decide)) (Hub.claspSay_keeps B (wk.sub (by decide)) H5))
    · rename_i a10 e11
      exact (Hub.claspSay_keeps B (wk.sub (by decide)) H5)

theorem Hub.tagIn_keeps {km : Nat} (B : Hub.Bears km P) (wk : Sub 0xb987aa80200000000000c00060100000000000000000000000000001030200010f030000000100014402 km) {h : Hub} {p : ℕ} {tag : Bytes} (Hh : P h) : P (Hub.tagIn h p tag) := by
  unfold Hub.tagIn
  extract_lets +onlyGivenNames v1
  clear_value v1
  split
  · rename_i a2
    exact Hh
  · rename_i a3 a4 a5
    extract_lets +onlyGivenNames v6
    clear_value v6
    extract_lets +onlyGivenNames v7
    clear_value v7
    refine keep_ite ?_ ?_
    · exact Hh
    · extract_lets +onlyGivenNames v8
      clear_value v8
      extract_lets +onlyGivenNames v9
      clear_value v9
      extract_lets +onlyGivenNames v10
      clear_value v10
      extract_lets +onlyGivenNames v11
      clear_value v11
      refine keep_ite ?_ ?_
      · extract_lets +onlyGivenNames v12
        have H13 : P v12 := (B.wr (wk.bit (by decide)) (B.wr (wk.bit (by decide)) (B.wr (wk.bit (by decide)) (B.spanRx (wk.bit (by decide)) Hh))))
        clear_value v12
        exact (keep_each (fun _ _ H16 => (Hub.takeFrame_keeps B (wk.sub (by decide)) H16)) H13)
      · extract_lets +onlyGivenNames v17
        clear_value v17
        extract_lets +onlyGivenNames v18
        have H19 : P v18 := (B.wr (wk.bit (by decide)) (Hub.cnt_keeps B (wk.bit (by decide)) Hh))
        clear_value v18
        exact (keep_ite (Hub.portDown_keeps B (wk.sub (by decide)) (Hub.raise_keeps B (wk.sub (by decide)) H19)) (B.wr (wk.bit (by decide)) (B.wr (wk.bit (by decide)) (B.wr (wk.bit (by decide)) (B.spanRx (wk.bit (by decide)) H19)))))

theorem Hub.takeAnswer_keeps {km : Nat} (B : Hub.Bears km P) (wk : Sub 0x4000000000049808800000000000004000000000000000000000000000000000000100000000010000000000000000 km) {h : Hub} {src : ℕ} {tok : ℕ} {status : ℕ} {typ : ℕ} (Hh : P h) : P (Hub.takeAnswer h src tok status typ) := by
  unfold Hub.takeAnswer
  split
  · rename_i a1 e2
    exact Hh
  · rename_i a3 a4 e5
    exact (keep_ite Hh (Hub.settleAsk_keeps B (wk.sub (by decide)) (B.asks (wk.bit (by decide)) Hh)))

theorem Hub.takeRead_keeps {km : Nat} (B : Hub.Bears km P) (wk : Sub 0x800000000000000000000000000000000000000000000000000000000000000000000000000000000000000 km) {h : Hub} {p : TxbIn → Bool} (Hh : P h) : ∀ m g, h.takeRead p = some (m, g) → P g := by
  unfold Hub.takeRead
  intro m g e
  split at e
  · cases e
    exact (B.rdIn (wk.bit (by decide)) Hh)
  · cases e

theorem Hub.takeover_keeps {km : Nat} (B : Hub.Bears km P) (wk : Sub 0x800000000000880a800000000000004000480000000000000000000000000000010102000000030000000000000400 km) {h : Hub} (Hh : P h) : P (Hub.takeover h) := by
  unfold Hub.takeover
  extract_lets +onlyGivenNames v1
  have H2 : P v1 := (Hub.nbrChange_keeps B (wk.sub (by decide)) Hh (fun _ H4 => (by
      extract_lets +onlyGivenNames v5
      clear_value v5
      extract_lets +onlyGivenNames v6
      have H7 : P v6 := (Hub.cnt_keeps B (wk.bit (by decide)) (B.wr (wk.bit (by decide)) (B.wr (wk.bit (by decide)) (B.wr (wk.bit (by decide)) (B.wr (wk.bit (by decide)) H4)))))
      clear_value v6
      exact (Hub.refreshTier_keeps B (wk.sub (by decide)) (Hub.setNodeId_keeps B (wk.sub (by decide)) (Hub.setCrown_keeps B (wk.sub (by decide)) H7))))))
  clear_value v1
  exact (Hub.afterSettling_keeps B (wk.sub (by decide)) (Hub.settleAll_keeps B (wk.sub (by decide)) H2))

theorem Hub.tickBus_keeps {km : Nat} (B : Hub.Bears km P) (wk : Sub 0x40000000000000000000000000000000000000000 km) {h : Hub} (Hh : P h) : P (Hub.tickBus h) := by
  unfold Hub.tickBus
  exact (keep_when (fun _ H2 => (B.wr (wk.bit (by decide)) H2)) Hh)

theorem Hub.tickTel_keeps {km : Nat} (B : Hub.Bears km P) (wk : Sub 0x800000000000000000000000000000000000000000000000000000000000000000000000000040 km) {h : Hub} (Hh : P h) : P (Hub.tickTel h) := by
  unfold Hub.tickTel
  exact (keep_when (fun _ H2 => (by
    split
    · rename_i a3 a4 a5 e6
      have H7 := keep_snd e6 (Hub.free_keeps B (wk.sub (by decide)) H2)
      exact (B.wr (wk.bit (by decide)) H7))) Hh)

theorem Hub.tickMs_keeps {km : Nat} (B : Hub.Bears km P) (wk : Sub 0x1808800000000000000000000000000000000000000000000000000102000000010000000100000000 km) {h : Hub} (Hh : P h) : P (Hub.tickMs h) := by
  unfold Hub.tickMs
  refine keep_ite ?_ ?_
  · exact Hh
  · extract_lets +onlyGivenNames v1
    have H2 : P v1 := (keep_when (fun _ H4 => (Hub.cnt_keeps B (wk.bit (by decide)) H4)) Hh)
    clear_value v1
    extract_lets +onlyGivenNames v5
    clear_value v5
    exact (Hub.crownWork_keeps B (wk.sub (by decide)) (keep_each (fun _ _ H8 => (Hub.measureEye_keeps B (wk.sub (by decide)) H8)) (keep_each (fun _ _ H11 => (B.wr (wk.bit (by decide)) H11)) H2)))

theorem Hub.tickAon_keeps {km : Nat} (B : Hub.Bears km P) (wk : Sub 0x8 km) {h : Hub} (Hh : P h) : P (Hub.tickAon h) := by
  unfold Hub.tickAon
  refine keep_ite ?_ ?_
  · exact Hh
  · extract_lets +onlyGivenNames v1
    clear_value v1
    exact (B.wr (wk.bit (by decide)) (B.wr (wk.bit (by decide)) Hh))

theorem Hub.tickTime_keeps {km : Nat} (B : Hub.Bears km P) (wk : Sub 0x100000000000000000000000001 km) {h : Hub} (Hh : P h) : P (Hub.tickTime h) := by
  unfold Hub.tickTime
  refine keep_ite ?_ ?_
  · exact (B.wr (wk.bit (by decide)) (B.wr (wk.bit (by decide)) (B.wr (wk.bit (by decide)) (B.wr (wk.bit (by decide)) Hh))))
  · refine keep_ite ?_ ?_
    · exact Hh
    · extract_lets +onlyGivenNames v1
      clear_value v1
      extract_lets +onlyGivenNames v2
      clear_value v2
      extract_lets +onlyGivenNames v3
      clear_value v3
      extract_lets +onlyGivenNames v4
      clear_value v4
      extract_lets +onlyGivenNames v5
      clear_value v5
      extract_lets +onlyGivenNames v6
      clear_value v6
      extract_lets +onlyGivenNames v7
      have H8 : P v7 := (B.wr (wk.bit (by decide)) (B.wr (wk.bit (by decide)) (B.wr (wk.bit (by decide)) Hh)))
      clear_value v7
      exact (keep_ite H8 (B.wr (wk.bit (by decide)) (B.wr (wk.bit (by decide)) H8)))

theorem Hub.tickTimer_keeps {km : Nat} (B : Hub.Bears km P) (wk : Sub 0x20000000000000000000000000000000000000000000000000000 km) {t : ℕ} {h : Hub} (Hh : P h) : P (Hub.tickTimer t h) := by
  unfold Hub.tickTimer
  exact (keep_when (fun _ H2 => (keep_ite (B.wr (wk.bit (by decide)) H2) (Hub.dec_keeps B (wk.bit (by decide)) H2))) Hh)

theorem Hub.tickHead_keeps {km : Nat} (B : Hub.Bears km P) (wk : Sub 0x2800000000000004000000000000000000000000000010000030000000000000000000000000402 km) {n : ℕ} {h : Hub} (Hh : P h) : P (Hub.tickHead n h) := by
  unfold Hub.tickHead
  extract_lets +onlyGivenNames v1
  clear_value v1
  extract_lets +onlyGivenNames v2
  clear_value v2
  extract_lets +onlyGivenNames v3
  clear_value v3
  refine keep_ite ?_ ?_
  · exact (Hub.lateHead_keeps B (wk.sub (by decide)) Hh)
  · refine keep_ite ?_ ?_
    · exact Hh
    · extract_lets +onlyGivenNames v4
      clear_value v4
      extract_lets +onlyGivenNames v5
      clear_value v5
      extract_lets +onlyGivenNames v6
      clear_value v6
      extract_lets +onlyGivenNames v7
      have H8 : P v7 := (B.wr (wk.bit (by decide)) (B.wr (wk.bit (by decide)) Hh))
      clear_value v7
      extract_lets +onlyGivenNames v9
      have H10 : P v9 := (keep_when (fun _ H12 => (Hub.lackMem_keeps B (wk.sub (by decide)) H12)) H8)
      clear_value v9
      exact (keep_ite (Hub.wrBit_keeps B (wk.bit (by decide)) (B.wr (wk.bit (by decide)) H10)) H10)

theorem Hub.tickCa_keeps {km : Nat} (B : Hub.Bears km P) (wk : Sub 0x100000000000000000000000000000000000000000000 km) {n : ℕ} {h : Hub} (Hh : P h) : P (Hub.tickCa n h) := by
  unfold Hub.tickCa
  exact (keep_when (fun _ H2 => (B.wr (wk.bit (by decide)) H2)) Hh)

theorem Hub.tick_keeps {km : Nat} (B : Hub.Bears km P) (wk : Sub 0x10800040030401dfac0800000000000400000000002000000010004000001000083030300010b03000000010000044f km) {h : Hub} (Hh : P h) : P (Hub.tick h) := by
  unfold Hub.tick
  extract_lets +onlyGivenNames v1
  have H2 : P v1 := (keep_each (fun _ _ H5 => (Hub.laneCycle_keeps B (wk.sub (by decide)) H5)) (keep_each (fun _ _ H8 => (Hub.streamCycle_keeps B (wk.sub (by decide)) H8)) (Hub.offer_keeps B (wk.sub (by decide)) (keep_each (fun _ _ H11 => (Hub.feed_keeps B (wk.sub (by decide)) H11)) (keep_each (fun _ _ H14 => (Hub.fifoDrain_keeps B (wk.sub (by decide)) H14)) (keep_each (fun _ _ H17 => (Hub.tickCa_keeps B (wk.sub (by decide)) H17)) (Hub.tickBus_keeps B (wk.sub (by decide)) (Hub.tickTel_keeps B (wk.sub (by decide)) (Hub.tickMs_keeps B (wk.sub (by decide)) (keep_when (fun _ H19 => (keep_each (fun _ _ H22 => (Hub.tickHead_keeps B (wk.sub (by decide)) H22)) H19)) (keep_when (fun _ H24 => (keep_each (fun _ _ H27 => (Hub.tickTimer_keeps B (wk.sub (by decide)) H27)) H24)) (Hub.tickAon_keeps B (wk.sub (by decide)) (Hub.tickTime_keeps B (wk.sub (by decide)) Hh)))))))))))))
  clear_value v1
  exact (B.cyc (wk.bit (by decide)) H2)

theorem Hub.timeIn_keeps {km : Nat} (B : Hub.Bears km P) (wk : Sub 0x2800000000000004000000000000000000000000000000000010100000000000000000000010401 km) {h : Hub} {p : ℕ} {payload : Bytes} (Hh : P h) : P (Hub.timeIn h p payload) := by
  unfold Hub.timeIn
  extract_lets +onlyGivenNames v1
  clear_value v1
  extract_lets +onlyGivenNames v2
  clear_value v2
  extract_lets +onlyGivenNames v3
  clear_value v3
  refine keep_ite ?_ ?_
  · exact Hh
  · extract_lets +onlyGivenNames v4
    clear_value v4
    extract_lets +onlyGivenNames v5
    clear_value v5
    extract_lets +onlyGivenNames v6
    clear_value v6
    extract_lets +onlyGivenNames v7
    clear_value v7
    extract_lets +onlyGivenNames v8
    clear_value v8
    extract_lets +onlyGivenNames v9
    clear_value v9
    extract_lets +onlyGivenNames v10
    clear_value v10
    extract_lets +onlyGivenNames v11
    have H12 : P v11 := (keep_each (fun _ _ H15 => (by
        split
        · rename_i a16 a17 a18
          exact (B.wr (wk.bitAt (kind_word_OPT_T _) (by decide)) (B.wr (wk.bitAt (kind_word_OPT_T _) (by decide)) H15)))) Hh)
    clear_value v11
    extract_lets +onlyGivenNames v19
    have H20 : P v19 := (Hub.irq_keeps B (wk.sub (by decide)) (B.wr (wk.bit (by decide)) (B.wr (wk.bit (by decide)) H12)))
    clear_value v19
    exact (keep_when (fun _ H22 => (Hub.steer_keeps B (wk.sub (by decide)) H22)) H20)

theorem Hub.timerExpire_keeps {km : Nat} (B : Hub.Bears km P) (wk : Sub 0x4000000000020000000000000000000000000000000000000000000000000000 km) {h : Hub} {t : ℕ} (Hh : P h) : P (Hub.timerExpire h t) := by
  unfold Hub.timerExpire
  extract_lets +onlyGivenNames v1
  have H2 : P v1 := (keep_when (fun _ H4 => (B.wr (wk.bit (by decide)) H4)) (Hub.irq_keeps B (wk.sub (by decide)) Hh))
  clear_value v1
  exact (keep_ite (B.wr (wk.bit (by decide)) H2) (B.wr (wk.bit (by decide)) (B.wr (wk.bit (by decide)) H2)))

theorem Hub.tjUpdate_keeps {km : Nat} (B : Hub.Bears km P) (wk : Sub 0x2800000000000004000000000000000000000000000000000010000000000000000000000000404 km) {h : Hub} {t : ℕ} (Hh : P h) : P (Hub.tjUpdate h t) := by
  unfold Hub.tjUpdate
  extract_lets +onlyGivenNames v1
  clear_value v1
  extract_lets +onlyGivenNames v2
  have H3 : P v2 := (B.wr (wk.bit (by decide)) (B.wr (wk.bit (by decide)) Hh))
  clear_value v2
  exact (keep_ite (Hub.raise_keeps B (wk.sub (by decide)) H3) H3)

theorem Hub.tsHeard_keeps {km : Nat} (B : Hub.Bears km P) (wk : Sub 0x100010000 km) {h : Hub} {l : ℕ} {block : ℕ} {lag : ℕ} (Hh : P h) : P (Hub.tsHeard h l block lag) := by
  unfold Hub.tsHeard
  extract_lets +onlyGivenNames v1
  clear_value v1
  extract_lets +onlyGivenNames v2
  have H3 : P v2 := (B.wr (wk.bit (by decide)) (B.wr (wk.bit (by decide)) (B.wr (wk.bit (by decide)) (B.wr (wk.bit (by decide)) (B.wr (wk.bit (by decide)) Hh)))))
  clear_value v2
  exact (B.wr (wk.bit (by decide)) (keep_each (fun _ _ H6 => (by
    extract_lets +onlyGivenNames v7
    clear_value v7
    exact (keep_when (fun _ H9 => (B.wr (wk.bit (by decide)) H9)) H6))) H3))

theorem Hub.tsIn_keeps {km : Nat} (B : Hub.Bears km P) (wk : Sub 0x400000b8820a80200000000000c000201000000000000100000000000000010102000000030000000100014402 km) {h0 : Hub} {l : ℕ} {inverted : Bool} {block : ℕ} {lag : ℕ} (Hh0 : P h0) : P (Hub.tsIn h0 l inverted block lag) := by
  unfold Hub.tsIn
  extract_lets +onlyGivenNames v1
  clear_value v1
  extract_lets +onlyGivenNames v2
  clear_value v2
  extract_lets +onlyGivenNames v3
  have H4 : P v3 := (keep_when (fun _ H6 => (B.wr (wk.bit (by decide)) H6)) (Hub.hdrsHeard_keeps B (wk.sub (by decide)) (Hub.findPolarity_keeps B (wk.sub (by decide)) Hh0)))
  clear_value v3
  refine keep_ite ?_ ?_
  · exact Hh0
  · refine keep_ite ?_ ?_
    · exact (B.wr (wk.bit (by decide)) (B.wr (wk.bit (by decide)) H4))
    · refine keep_ite ?_ ?_
      · exact (B.wr (wk.bit (by decide)) (B.wr (wk.bit (by decide)) (Hub.cnt_keeps B (wk.bit (by decide)) H4)))
      · refine keep_ite ?_ ?_
        · exact (B.wr (wk.bit (by decide)) (B.wr (wk.bit (by decide)) H4))
        · extract_lets +onlyGivenNames v7
          have H8 : P v7 := (Hub.tsHeard_keeps B (wk.sub (by decide)) H4)
          clear_value v7
          refine keep_ite ?_ ?_
          · exact (keep_when (fun _ H10 => (Hub.setLane_keeps B (wk.sub (by decide)) (B.wr (wk.bit (by decide)) (B.wr (wk.bit (by decide)) (B.wr (wk.bit (by decide)) H10))))) H8)
          · refine keep_ite ?_ ?_
            · extract_lets +onlyGivenNames v11
              clear_value v11
              extract_lets +onlyGivenNames v12
              have H13 : P v12 := (B.wr (wk.bit (by decide)) H8)
              clear_value v12
              exact (keep_ite (Hub.laneReady_keeps B (wk.sub (by decide)) (Hub.setLane_keeps B (wk.sub (by decide)) H13)) H13)
            · refine keep_ite ?_ ?_
              · exact (Hub.tryForm_keeps B (wk.sub (by decide)) H8)
              · exact (keep_ite (Hub.exitLow_keeps B (wk.sub (by decide)) H8) H8)

theorem Hub.tunAck_keeps {km : Nat} (B : Hub.Bears km P) (wk : Sub 0x8000000000000000000000000000000000000000000000000000000000000000000000000000000 km) {h : Hub} {src : ℕ} {tok : ℕ} {status : ℕ} {typ : ℕ} {tid : ℕ} {idx : ℕ} (Hh : P h) : P (Hub.tunAck h src tok status typ tid idx) := by
  unfold Hub.tunAck
  exact (Hub.ctlSend_keeps B (wk.sub (by decide)) Hh)

theorem Hub.unlessPoison_keeps {km : Nat} (B : Hub.Bears km P) (wk : Sub 0x2800000000000004000000000000000000000000000000100010000000000000000000000000400 km) {h : Hub} {c : TxbHdr} {f : Hub → Hub} (Hh : P h) (Hf : ∀ a0, P a0 → P (f a0)) : P (Hub.unlessPoison h c f) := by
  unfold Hub.unlessPoison
  refine keep_ite ?_ ?_
  · exact (Hub.badOp_keeps B (wk.sub (by decide)) Hh)
  · exact (keep_ite (Hub.cnt_keeps B (wk.bit (by decide)) Hh) (Hf _ Hh))

theorem Hub.vblank_keeps {km : Nat} (B : Hub.Bears km P) (wk : Sub 0x280a00000000000c000001000000000000000000000010000830000000000000000000000000402 km) {h : Hub} {n : ℕ} (Hh : P h) : P (Hub.vblank h n) := by
  unfold Hub.vblank
  extract_lets +onlyGivenNames v1
  have H2 : P v1 := (Hub.flip_keeps B (wk.sub (by decide)) (Hub.headCommit_keeps B (wk.sub (by decide)) Hh))
  clear_value v1
  refine keep_ite ?_ ?_
  · exact H2
  · extract_lets +onlyGivenNames v3
    clear_value v3
    extract_lets +onlyGivenNames v4
    have H5 : P v4 := (B.wr (wk.bit (by decide)) (B.wr (wk.bit (by decide)) (B.wr (wk.bit (by decide)) (B.wr (wk.bit (by decide)) (Hub.wrBit_keeps B (wk.bit (by decide)) (B.wr (wk.bit (by decide)) H2))))))
    clear_value v4
    exact (keep_when (fun _ H7 => (Hub.lackMem_keeps B (wk.sub (by decide)) H7)) (B.wr (wk.bit (by decide)) H5))

theorem Hub.vbusFault_keeps {km : Nat} (B : Hub.Bears km P) (wk : Sub 0x2800000000000004000000000000000000000000000000000010000000000000000000000000400 km) {h : Hub} {k : ℕ} {f : VbusFault} (Hh : P h) : P (Hub.vbusFault h k f) := by
  unfold Hub.vbusFault
  exact (Hub.raise_keeps B (wk.sub (by decide)) Hh)

theorem Hub.verifyEnd_keeps {km : Nat} (B : Hub.Bears km P) (wk : Sub 0x2800000000000004000100000000000000000000000000000010000000000000000000000004400 km) {h : Hub} (Hh : P h) : P (Hub.verifyEnd h) := by
  unfold Hub.verifyEnd
  extract_lets +onlyGivenNames v1
  clear_value v1
  split
  · rename_i a2 e3
    exact (Hub.setUpd_keeps B (wk.sub (by decide)) (B.wr (wk.bit (by decide)) Hh))
  · rename_i a4 e5
    exact (Hub.setUpd_keeps B (wk.sub (by decide)) (Hub.raise_keeps B (wk.sub (by decide)) (Hub.wrFree_keeps B (wk.sub (by decide)) (wk.bit (by decide)) Hh)))
  · rename_i a6 e7 e8
    exact (Hub.setUpd_keeps B (wk.sub (by decide)) (Hub.raise_keeps B (wk.sub (by decide)) (B.wr (wk.bit (by decide)) Hh)))

theorem Hub.vidStep_keeps {km : Nat} (B : Hub.Bears km P) (wk : Sub 0xa800000000000004000000000000000000000000000000000010000000000010000000000000404 km) {h : Hub} (Hh : P h) : P (Hub.vidStep h) := by
  unfold Hub.vidStep
  refine keep_ite ?_ ?_
  · extract_lets +onlyGivenNames v1
    clear_value v1
    extract_lets +onlyGivenNames v2
    clear_value v2
    extract_lets +onlyGivenNames v3
    clear_value v3
    extract_lets +onlyGivenNames v4
    have H5 : P v4 := (B.wr (wk.bit (by decide)) Hh)
    clear_value v4
    exact (Hub.refreshCap_keeps B (wk.sub (by decide)) (keep_ite (B.wr (wk.bit (by decide)) (B.wr (wk.bit (by decide)) H5)) H5))
  · exact Hh

theorem Hub.vmeasUpdate_keeps {km : Nat} (B : Hub.Bears km P) (wk : Sub 0xa800000000000004000000000000000000000000000000000010000000000010000000000000404 km) {h : Hub} {mv : ℕ} {minMv : ℕ} (Hh : P h) : P (Hub.vmeasUpdate h mv minMv) := by
  unfold Hub.vmeasUpdate
  extract_lets +onlyGivenNames v1
  clear_value v1
  extract_lets +onlyGivenNames v2
  have H3 : P v2 := (B.wr (wk.bit (by decide)) (B.wr (wk.bit (by decide)) (B.wr (wk.bit (by decide)) Hh)))
  clear_value v2
  exact (Hub.refreshCap_keeps B (wk.sub (by decide)) (keep_ite (Hub.raise_keeps B (wk.sub (by decide)) H3) H3))

theorem Hub.waitExit_keeps {km : Nat} (B : Hub.Bears km P) (wk : Sub 0x2800000000000004000000000000101010100000000000000010000000000000000000000000400 km) {h : Hub} (Hh : P h) : P (Hub.waitExit h) := by
  unfold Hub.waitExit
  exact (keep_foldl_snd (fun _ _ H2 => (Hub.lpoLeave_keeps B (wk.sub (by decide)) H2)) (keep_p2 Hh))

theorem Hub.wckTrack_keeps {km : Nat} (B : Hub.Bears km P) (wk : Sub 0x2800000000000004000000000000000000000000000020000010000000000000000000000000400 km) {h : Hub} {b : ℕ} {rdly : ℕ} {wdly : ℕ} {vref : ℕ} (Hh : P h) : P (Hub.wckTrack h b rdly wdly vref) := by
  unfold Hub.wckTrack
  extract_lets +onlyGivenNames v1
  clear_value v1
  exact (keep_when (fun _ H3 => (Hub.raise_keeps B (wk.sub (by decide)) H3)) (B.wr (wk.bit (by decide)) (B.wr (wk.bit (by decide)) (B.wr (wk.bit (by decide)) Hh))))

theorem Hub.wheelStep_keeps {km : Nat} (B : Hub.Bears km P) (wk : Sub 0x100000000000000000000 km) {h : Hub} {e : ℕ} (Hh : P h) : P (Hub.wheelStep h e) := by
  unfold Hub.wheelStep
  extract_lets +onlyGivenNames v1
  clear_value v1
  extract_lets +onlyGivenNames v2
  have H3 : P v2 := (keep_each (fun _ _ H6 => (keep_when (fun _ H8 => (B.wr (wk.bit (by decide)) H8)) H6)) (B.wr (wk.bit (by decide)) Hh))
  clear_value v2
  exact (keep_ite (keep_each (fun _ _ H11 => (keep_when (fun _ H13 => (Hub.wheelEnter_keeps B (wk.sub (by decide)) H13)) H11)) H3) H3)

theorem Hub.widthAckIn_keeps {km : Nat} (B : Hub.Bears km P) (wk : Sub 0x10000 km) {h : Hub} {p : ℕ} {tok : ℕ} {status : ℕ} (Hh : P h) : P (Hub.widthAckIn h p tok status) := by
  unfold Hub.widthAckIn
  refine keep_ite ?_ ?_
  · exact (keep_ite (B.wr (wk.bit (by decide)) (B.wr (wk.bit (by decide)) (B.wr (wk.bit (by decide)) (B.wr (wk.bit (by decide)) (B.wr (wk.bit (by decide)) Hh))))) (Hub.endWidth_keeps B (wk.sub (by decide)) Hh))
  · exact Hh

theorem Hub.widthReqIn_keeps {km : Nat} (B : Hub.Bears km P) (wk : Sub 0x8000000000000000000000000000000000000000000000000000000000000000000000000000010000 km) {h : Hub} {p : ℕ} {tok : ℕ} {mask : ℕ} (Hh : P h) : P (Hub.widthReqIn h p tok mask) := by
  unfold Hub.widthReqIn
  extract_lets +onlyGivenNames v1
  clear_value v1
  extract_lets +onlyGivenNames v2
  clear_value v2
  exact (keep_ite (Hub.lmcSend_keeps B (wk.sub (by decide)) Hh) (Hub.lmcSend_keeps B (wk.sub (by decide)) (keep_when (fun _ H4 => (Hub.endWidth_keeps B (wk.sub (by decide)) H4)) Hh)))

theorem Hub.written_keeps {km : Nat} (B : Hub.Bears km P) (wk : Sub 0xa0000000000000000000000000000000000000000000000000000000000000000000000000000 km) {h : Hub} {r : Req} {f : Hub → Hub} (Hh : P h) (Hf : ∀ a0, P a0 → P (f a0)) : P (Hub.written h r f) := by
  unfold Hub.written
  exact (Hub.answer_keeps B (wk.sub (by decide)) (Hf _ (Hub.dropLatch_keeps B (wk.sub (by decide)) Hh)))

theorem execAbort_keeps {km : Nat} (B : Hub.Bears km P) (wk : Sub 0x1a800000000000004000000000000000000000000000000000010003000000030000000000000404 km) {src : ℕ} {tok : ℕ} {tid : ℕ} {txn : ℕ} {s : State} {z : State} (e : (execAbort src tok tid txn s) = .next z) (H : P s.hub) : P z.hub :=
  act_keeps e H (fun _ H2 => (keep_when (fun _ H4 => (by
    split
    · rename_i a5 a6 a7 e8
      have H9 := keep_fst e8 (by
          split
          · rename_i e10
            exact (keep_p1 H4)
          · rename_i e11
            split
            · rename_i a12 e13
              exact (keep_p1 H4)
            · rename_i a14 a15 e16
              split
              · rename_i e17
                exact (keep_p1 H4)
              · rename_i e18
                split
                · rename_i e19
                  exact (keep_p1 (Hub.cnt_keeps B (wk.bit (by decide)) (Hub.endReserve_keeps B (wk.sub (by decide)) (Hub.setTxn_keeps B (wk.sub (by decide)) H4))))
                · rename_i e20
                  exact (keep_p1 H4))
      exact (Hub.crtAnswer_keeps B (wk.sub (by decide)) H9))) H2))

theorem execAccept_keeps {km : Nat} (B : Hub.Bears km P) (wk : Sub 0x400000000000000000000000000000000000000101010100000000000000000000000000000000000000000000 km) {p : Fin 8} {tok : ℕ} {ireq : ℕ} {arm : Bool} {s : State} {z : State} (e : (execAccept p tok ireq arm s) = .next z) (H : P s.hub) : P z.hub :=
  act_keeps e H (fun _ H2 => (keep_when (fun _ H4 => (Hub.acceptIn_keeps B (wk.sub (by decide)) (Hub.cnt_keeps B (wk.bit (by decide)) H4))) H2))

theorem execAccessSync_keeps {km : Nat} (B : Hub.Bears km P) (wk : Sub 0x28a0000000000004000000000000000000000000000000200010000000000000000000000000500 km) {r : Req} {s : State} {z : State} (e : (execAccessSync r s) = .next z) (H : P s.hub) : P z.hub :=
  act_keeps e H (fun _ H2 => (Hub.asRead_keeps B (wk.sub (by decide)) H2 (fun _ H4 => (keep_p2 H4))))

theorem execActiveEnd_keeps {km : Nat} (B : Hub.Bears km P) (wk : Sub 0x2800000000000004000000000000000000000000000010000030000000000000000000000000400 km) {h : Fin 4} {low : ℕ} {s : State} {z : State} (e : (execActiveEnd h low s) = .next z) (H : P s.hub) : P z.hub :=
  act_keeps e H (fun _ H2 => (keep_when (fun _ H4 => (Hub.activeEnd_keeps B (wk.sub (by decide)) H4)) H2))

theorem execAgeSweep_keeps {km : Nat} (B : Hub.Bears km P) (wk : Sub 0x52280000000000000400000000000000000000000000000000001000000010f000000000000000400 km) {s : State} {z : State} (e : (execAgeSweep s) = .next z) (H : P s.hub) : P z.hub :=
  act_keeps e H (fun _ H2 => (keep_when (fun _ H4 => (Hub.ageSweep_keeps B (wk.sub (by decide)) H4)) H2))

theorem execAgentLost_keeps {km : Nat} (B : Hub.Bears km P) (wk : Sub 0x80000000002808000000000004000000000000000000000040000000000010000000000000000000000000400 km) {tid : ℕ} {s : State} {z : State} (e : (execAgentLost tid s) = .next z) (H : P s.hub) : P z.hub :=
  act_keeps e H (fun _ H2 => (keep_when (fun _ H4 => (Hub.irq_keeps B (wk.sub (by decide)) (Hub.raise_keeps B (wk.sub (by decide)) (keep_each (fun _ _ H7 => (Hub.flyFail_keeps B (wk.sub (by decide)) H7)) H4)))) H2))

theorem execAlive_keeps {km : Nat} (B : Hub.Bears km P) (wk : Sub 0x40000000000000000000000000000000000000000000000000000000000000000000000000000000000000000 km) {s : State} {z : State} (e : (execAlive s) = .next z) (H : P s.hub) : P z.hub :=
  act_keeps e H (fun _ H2 => (keep_when (fun _ H4 => (Hub.eventSend_keeps B (wk.sub (by decide)) H4)) H2))

theorem execAmReceived_keeps {km : Nat} (B : Hub.Bears km P) (wk : Sub 0xb987aa80200000000000c00060100000000000000000000000000001030200010f030000000100014402 km) {l : Fin 32} {block : ℕ} {inPlace : Bool} {lag : ℕ} {s : State} {z : State} (e : (execAmReceived l block inPlace lag s) = .next z) (H : P s.hub) : P z.hub :=
  act_keeps e H (fun _ H2 => (keep_when (fun _ H4 => (Hub.amIn_keeps B (wk.sub (by decide)) H4)) H2))

theorem execAonBrownout_keeps {km : Nat} (B : Hub.Bears km P) (wk : Sub 0x80000000000000000000000000000000003f87fffffffffffb8fe00000000000c000842000000000000000000000000000010000000000010000000000001c0e km) {s : State} {z : State} (e : (execAonBrownout s) = .next z) (H : P s.hub) : P z.hub :=
  act_keeps e H (fun _ H2 => (Hub.powerOn_keeps B (wk.sub (by decide)) (B.wr (wk.bit (by decide)) (B.wr (wk.bit (by decide)) (B.wr (wk.bit (by decide)) H2)))))

theorem execAonTimerMatch_keeps {km : Nat} (B : Hub.Bears km P) (wk : Sub 0x40000280200000000000c00002100000000000000000000001010001000000000000000000010001041a km) {s : State} {z : State} (e : (execAonTimerMatch s) = .next z) (H : P s.hub) : P z.hub :=
  act_keeps e H (fun _ H2 => (keep_when (fun _ H4 => (Hub.wake_keeps B (wk.sub (by decide)) H4)) H2))

theorem execAttemptEnd_keeps {km : Nat} (B : Hub.Bears km P) (wk : Sub 0x100000000 km) {l : Fin 32} {s : State} {z : State} (e : (execAttemptEnd l s) = .next z) (H : P s.hub) : P z.hub :=
  act_keeps e H (fun _ H2 => (keep_when (fun _ H4 => (B.wr (wk.bit (by decide)) (B.wr (wk.bit (by decide)) (B.wr (wk.bit (by decide)) (Hub.cnt_keeps B (wk.bit (by decide)) (Hub.stepPreset_keeps B (wk.sub (by decide)) H4)))))) H2))

theorem execAuth_keeps {km : Nat} (B : Hub.Bears km P) (wk : Sub 0x1000000000000000000000000000000000000000000000000000000000000000000000000000000000000000002000 km) {seq : ℕ} {chunk : ℕ} {data : Bytes} {s : State} {z : State} (e : (execAuth seq chunk data s) = .next z) (H : P s.hub) : P z.hub :=
  act_keeps e H (fun _ H2 => (keep_when (fun _ H4 => (keep_ite (Hub.mgpReply_keeps B (wk.sub (by decide)) H4) (Hub.mgpReply_keeps B (wk.sub (by decide)) (Hub.authStore_keeps B (wk.sub (by decide)) (Hub.cnt_keeps B (wk.bit (by decide)) H4))))) H2))

theorem execAuthGo_keeps {km : Nat} (B : Hub.Bears km P) (wk : Sub 0x1000000000000000000000000000004000000000000000000000000000000000000000000000000000000000002000 km) {seq : ℕ} {s : State} {z : State} (e : (execAuthGo seq s) = .next z) (H : P s.hub) : P z.hub :=
  act_keeps e H (fun _ H2 => (keep_when (fun _ H4 => (Hub.mgpPend_keeps B (wk.sub (by decide)) H4)) H2))

theorem execAuxDone_keeps {km : Nat} (B : Hub.Bears km P) (wk : Sub 0x2800000000000004000000000000000000000000000000001010000000000000000000000000400 km) {h : Fin 4} {ok : Bool} {reply : ℕ} {n : ℕ} {data : Bytes} {s : State} {z : State} (e : (execAuxDone h ok reply n data s) = .next z) (H : P s.hub) : P z.hub :=
  act_keeps e H (fun _ H2 => (keep_when (fun _ H4 => (Hub.auxEnd_keeps B (wk.sub (by decide)) H4)) H2))

theorem execAuxTransaction_keeps {km : Nat} (B : Hub.Bears km P) (wk : Sub 0x28a0000000000004000000000000000000000000000000001010000000000000000000000000500 km) {r : Req} {h : Fin 4} {v : ℕ} {s : State} {z : State} (e : (execAuxTransaction r h v s) = .next z) (H : P s.hub) : P z.hub :=
  act_keeps e H (fun _ H2 => (Hub.asReg_keeps B (wk.sub (by decide)) H2 (fun _ H4 => (Hub.auxWrite_keeps B (wk.sub (by decide)) H4))))

theorem execBallFunctionWrite_keeps {km : Nat} (B : Hub.Bears km P) (wk : Sub 0x28a0000000000004000000000010000000000000000000000010000000000000000000000000500 km) {r : Req} {v : ℕ} {s : State} {z : State} (e : (execBallFunctionWrite r v s) = .next z) (H : P s.hub) : P z.hub :=
  act_keeps e H (fun _ H2 => (Hub.asReg_keeps B (wk.sub (by decide)) H2 (fun _ H4 => (Hub.ballWrite_keeps B (wk.sub (by decide)) H4))))

theorem execBeaconBurst_keeps {km : Nat} (B : Hub.Bears km P) (wk : Sub 0x400002800000000000004000000000000000000000000000000000010000000000000000000000010400 km) {p : Fin 8} {s : State} {z : State} (e : (execBeaconBurst p s) = .next z) (H : P s.hub) : P z.hub :=
  act_keeps e H (fun _ H2 => (keep_when (fun _ H4 => (Hub.burstOut_keeps B (wk.sub (by decide)) H4)) H2))

theorem execBeaconDetect_keeps {km : Nat} (B : Hub.Bears km P) (wk : Sub 0x40000280200000000000c00002100000000000000000000001010001000000000000000000010001041a km) {l : Fin 32} {s : State} {z : State} (e : (execBeaconDetect l s) = .next z) (H : P s.hub) : P z.hub :=
  act_keeps e H (fun _ H2 => (keep_when (fun _ H4 => (Hub.beaconIn_keeps B (wk.sub (by decide)) H4)) H2))

theorem execBleedTimeout_keeps {km : Nat} (B : Hub.Bears km P) (wk : Sub 0x2800000000000004000000000000000000000000000000000010000000000000000000000000400 km) {p : Fin 8} {s : State} {z : State} (e : (execBleedTimeout p s) = .next z) (H : P s.hub) : P z.hub :=
  act_keeps e H (fun _ H2 => (keep_when (fun _ H4 => (Hub.raise_keeps B (wk.sub (by decide)) H4)) H2))

theorem execBlockEnable_keeps {km : Nat} (B : Hub.Bears km P) (wk : Sub 0x540000b987aa8aa00000000000c000603000000101010100070000000000a3030200010f030000000100014502 km) {r : Req} {pg : ℕ} {en : Bool} {s : State} {z : State} (e : (execBlockEnable r pg en s) = .next z) (H : P s.hub) : P z.hub :=
  act_keeps e H (fun _ H2 => (Hub.asWrite_keeps B (wk.sub (by decide)) H2 (fun _ H4 => (Hub.enable_keeps B (wk.sub (by decide)) H4))))

theorem execBlockLandDone_keeps {km : Nat} (B : Hub.Bears km P) (wk : Sub 0x14000000000000280000000000000400010000000000000000000000000000001000000000000000000000000c400 km) {flashOk : Bool} {s : State} {z : State} (e : (execBlockLandDone flashOk s) = .next z) (H : P s.hub) : P z.hub :=
  act_keeps e H (fun _ H2 => (keep_when (fun _ H4 => (Hub.blockDone_keeps B (wk.sub (by decide)) H4)) H2))

theorem execBlockLockLoss_keeps {km : Nat} (B : Hub.Bears km P) (wk : Sub 0xb987aa80200000000000c00060100000000000000000000000000001030200010f030000000100014402 km) {l : Fin 32} {s : State} {z : State} (e : (execBlockLockLoss l s) = .next z) (H : P s.hub) : P z.hub :=
  act_keeps e H (fun _ H2 => (keep_when (fun _ H4 => (Hub.lockLoss_keeps B (wk.sub (by decide)) (Hub.cntN_keeps B (wk.bit (by decide)) H4))) H2))

theorem execBootStart_keeps {km : Nat} (B : Hub.Bears km P) (wk : Sub 0x7914000000000ea0800000000000c00011a00000010101010007000001030021000000000203000000010000dd1f km) {pufOk : Bool} {corr : ℕ} {s : State} {z : State} (e : (execBootStart pufOk corr s) = .next z) (H : P s.hub) : P z.hub :=
  act_keeps e H (fun _ H2 => (keep_when (fun _ H4 => (Hub.boot_keeps B (wk.sub (by decide)) H4)) H2))

theorem execBufferWipeDone_keeps {km : Nat} (B : Hub.Bears km P) (wk : Sub 0x4000002000000000000000000000000000000000000001000000000000000000 km) {s : State} {z : State} (e : (execBufferWipeDone s) = .next z) (H : P s.hub) : P z.hub :=
  act_keeps e H (fun _ H2 => (keep_when (fun _ H4 => (Hub.irq_keeps B (wk.sub (by decide)) (keep_each (fun _ _ H7 => (keep_when (fun _ H9 => (B.wr (wk.bit (by decide)) (B.wr (wk.bit (by decide)) H9))) H7)) (B.wr (wk.bit (by decide)) (B.wr (wk.bit (by decide)) (B.wr (wk.bit (by decide)) H4)))))) H2))

theorem execBundleDecryptDone_keeps {km : Nat} (B : Hub.Bears km P) (wk : Sub 0x220000000000000000000000000000000008000000000000000000000000000000000000000000000000000008000 km) {s : State} {z : State} (e : (execBundleDecryptDone s) = .next z) (H : P s.hub) : P z.hub :=
  act_keeps e H (fun _ H2 => (keep_when (fun _ H4 => (Hub.bdecDone_keeps B (wk.sub (by decide)) H4)) H2))

theorem execBusCompletion_keeps {km : Nat} (B : Hub.Bears km P) (wk : Sub 0x1020000000000000000000000000000000000000000000000000000100000000000000000000000000000000 km) {ok : Bool} {data : Bytes} {s : State} {z : State} (e : (execBusCompletion ok data s) = .next z) (H : P s.hub) : P z.hub :=
  act_keeps e H (fun _ H2 => (keep_when (fun _ H4 => (Hub.busDone_keeps B (wk.sub (by decide)) H4)) H2))

theorem execBusOvClear_keeps {km : Nat} (B : Hub.Bears km P) (wk : Sub 0x101010100000000000000000000000000000000000000000000 km) {mv : ℕ} {s : State} {z : State} (e : (execBusOvClear mv s) = .next z) (H : P s.hub) : P z.hub :=
  act_keeps e H (fun _ H2 => (keep_when (fun _ H4 => (Hub.refreshBus_keeps B (wk.sub (by decide)) (B.wr (wk.bit (by decide)) (Hub.busMeasure_keeps B (wk.sub (by decide)) H4)))) H2))

theorem execBusOvervolt_keeps {km : Nat} (B : Hub.Bears km P) (wk : Sub 0x2800000000000004000000000000101010100000000000000010000000000000000000000000400 km) {mv : ℕ} {s : State} {z : State} (e : (execBusOvervolt mv s) = .next z) (H : P s.hub) : P z.hub :=
  act_keeps e H (fun _ H2 => (keep_when (fun _ H4 => (Hub.refreshBus_keeps B (wk.sub (by decide)) (Hub.shedAll_keeps B (wk.sub (by decide)) (Hub.raise_keeps B (wk.sub (by decide)) (Hub.cnt_keeps B (wk.bit (by decide)) (B.wr (wk.bit (by decide)) (Hub.busMeasure_keeps B (wk.sub (by decide)) H4))))))) H2))

theorem execBusShed_keeps {km : Nat} (B : Hub.Bears km P) (wk : Sub 0x4000000000000101010100000000000000000000000000000000000000000000 km) {mv : ℕ} {s : State} {z : State} (e : (execBusShed mv s) = .next z) (H : P s.hub) : P z.hub :=
  act_keeps e H (fun _ H2 => (keep_when (fun _ H4 => (by
    extract_lets +onlyGivenNames v5
    have H6 : P v5 := (Hub.busMeasure_keeps B (wk.sub (by decide)) H4)
    clear_value v5
    extract_lets +onlyGivenNames v7
    have H8 : P v7 := (keep_ite H6 (Hub.irq_keeps B (wk.sub (by decide)) (B.wr (wk.bit (by decide)) H6)))
    clear_value v7
    exact (Hub.refreshBus_keeps B (wk.sub (by decide)) (Hub.shedAll_keeps B (wk.sub (by decide)) H8)))) H2))

theorem execBusUndervolt_keeps {km : Nat} (B : Hub.Bears km P) (wk : Sub 0x2800000000000004000000000000101010100000000000000010000000000000000000000000400 km) {mv : ℕ} {s : State} {z : State} (e : (execBusUndervolt mv s) = .next z) (H : P s.hub) : P z.hub :=
  act_keeps e H (fun _ H2 => (keep_when (fun _ H4 => (Hub.refreshBus_keeps B (wk.sub (by decide)) (Hub.raise_keeps B (wk.sub (by decide)) (Hub.cnt_keeps B (wk.bit (by decide)) (B.wr (wk.bit (by decide)) (Hub.busMeasure_keeps B (wk.sub (by decide)) H4)))))) H2))

theorem execBusctlReceived_keeps {km : Nat} (B : Hub.Bears km P) (wk : Sub 0x140000000000808000000000004000000000000000000000070000000000000000000000000000000000000000 km) {tid : ℕ} {op : ℕ} {s : State} {z : State} (e : (execBusctlReceived tid op s) = .next z) (H : P s.hub) : P z.hub :=
  act_keeps e H (fun _ H2 => (keep_when (fun _ H4 => (Hub.busctlIn_keeps B (wk.sub (by decide)) H4)) H2))

theorem execCancelReceived_keeps {km : Nat} (B : Hub.Bears km P) (wk : Sub 0x140000000000808000000000000000000000000000000000040000000000000000000000000000000000000000 km) {tid : ℕ} {ring : ℕ} {slot : ℕ} {reqseq : ℕ} {s : State} {z : State} (e : (execCancelReceived tid ring slot reqseq s) = .next z) (H : P s.hub) : P z.hub :=
  act_keeps e H (fun _ H2 => (keep_when (fun _ H4 => (Hub.heldEndAll_keeps B (wk.sub (by decide)) H4)) H2))

theorem execCap_keeps {km : Nat} (B : Hub.Bears km P) (wk : Sub 0xb987aa80200000000000c00060100000000000000000000000000001030200010f030000000100014402 km) {p : Fin 8} {tok : ℕ} {payload : Bytes} {s : State} {z : State} (e : (execCap p tok payload s) = .next z) (H : P s.hub) : P z.hub :=
  act_keeps e H (fun _ H2 => (keep_when (fun _ H4 => (Hub.capIn_keeps B (wk.sub (by decide)) H4)) H2))

theorem execCapRepeat_keeps {km : Nat} (B : Hub.Bears km P) (wk : Sub 0x8000000000000000000000000000000000000000000000000000000000000000000000000000010000 km) {p : Fin 8} {s : State} {z : State} (e : (execCapRepeat p s) = .next z) (H : P s.hub) : P z.hub :=
  act_keeps e H (fun _ H2 => (keep_when (fun _ H4 => (Hub.sendCap_keeps B (wk.sub (by decide)) H4)) H2))

theorem execCapack_keeps {km : Nat} (B : Hub.Bears km P) (wk : Sub 0xb987aa80200000000000c00060100000000000000000000000000001030200010f030000000100014402 km) {p : Fin 8} {tok : ℕ} {s : State} {z : State} (e : (execCapack p tok s) = .next z) (H : P s.hub) : P z.hub :=
  act_keeps e H (fun _ H2 => (keep_when (fun _ H4 => (Hub.capDone_keeps B (wk.sub (by decide)) (B.wr (wk.bit (by decide)) H4))) H2))

theorem execCaptureAbort_keeps {km : Nat} (B : Hub.Bears km P) (wk : Sub 0x2808000000000004000000000000000000000000000000000a10000000000000000000000000400 km) {d : Fin 2} {cause : ℕ} {hact : ℕ} {vact : ℕ} {pclk : ℕ} {s : State} {z : State} (e : (execCaptureAbort d cause hact vact pclk s) = .next z) (H : P s.hub) : P z.hub :=
  act_keeps e H (fun _ H2 => (keep_when (fun _ H4 => (Hub.captureCause_keeps B (wk.sub (by decide)) H4)) H2))

theorem execCaptureCommit_keeps {km : Nat} (B : Hub.Bears km P) (wk : Sub 0x108000000000000000000000000000000000000000010000a00000000000000000000000000000 km) {d : Fin 2} {pixels : List TilePix} {s : State} {z : State} (e : (execCaptureCommit d pixels s) = .next z) (H : P s.hub) : P z.hub :=
  act_keeps e H (fun _ H2 => (keep_when (fun _ H4 => (keep_ite (Hub.captureCommit_keeps B (wk.sub (by decide)) H4) (Hub.notReady_keeps B (wk.sub (by decide)) (Hub.captureDrop_keeps B (wk.sub (by decide)) H4)))) H2))

theorem execCaptureFrameStart_keeps {km : Nat} (B : Hub.Bears km P) (wk : Sub 0x2808000000000004000000000000000000000000000010000a10000000000000000000000000400 km) {d : Fin 2} {s : State} {z : State} (e : (execCaptureFrameStart d s) = .next z) (H : P s.hub) : P z.hub :=
  act_keeps e H (fun _ H2 => (keep_when (fun _ H4 => (keep_ite (Hub.captureStart_keeps B (wk.sub (by decide)) H4) (Hub.notReady_keeps B (wk.sub (by decide)) H4))) H2))

theorem execCaptureLinkTrain_keeps {km : Nat} (B : Hub.Bears km P) (wk : Sub 0x2808000000000004000000000000000000000000000000000a10000000000000000000000000400 km) {d : Fin 2} {ok : Bool} {rate : ℕ} {lanes : ℕ} {hact : ℕ} {vact : ℕ} {pclk : ℕ} {bpc : ℕ} {s : State} {z : State} (e : (execCaptureLinkTrain d ok rate lanes hact vact pclk bpc s) = .next z) (H : P s.hub) : P z.hub :=
  act_keeps e H (fun _ H2 => (keep_when (fun _ H4 => (Hub.captureTrain_keeps B (wk.sub (by decide)) H4)) H2))

theorem execCapxTimeout_keeps {km : Nat} (B : Hub.Bears km P) (wk : Sub 0xb987aa80200000000000c00060100000000000000000000000000001030200010f030000000100014402 km) {p : Fin 8} {s : State} {z : State} (e : (execCapxTimeout p s) = .next z) (H : P s.hub) : P z.hub :=
  act_keeps e H (fun _ H2 => (keep_when (fun _ H4 => (Hub.portDown_keeps B (wk.sub (by decide)) (Hub.raise_keeps B (wk.sub (by decide)) H4))) H2))

theorem execCaratCommit_keeps {km : Nat} (B : Hub.Bears km P) (wk : Sub 0x1a800000000000004000000000000000000000000000000000010003000000030000000000000404 km) {src : ℕ} {tok : ℕ} {tid : ℕ} {txn : ℕ} {s : State} {z : State} (e : (execCaratCommit src tok tid txn s) = .next z) (H : P s.hub) : P z.hub :=
  act_keeps e H (fun _ H2 => (keep_when (fun _ H4 => (by
    split
    · rename_i a5 a6 a7 e8
      have H9 := keep_fst e8 (by
          split
          · rename_i e10
            exact (keep_p1 H4)
          · rename_i e11
            split
            · rename_i a12 e13
              exact (keep_p1 H4)
            · rename_i a14 a15 e16
              split
              · rename_i e17
                exact (keep_p1 H4)
              · rename_i e18
                split
                · rename_i e19
                  exact (keep_p1 H4)
                · rename_i e20
                  split
                  · rename_i e21
                    extract_lets +onlyGivenNames v22
                    clear_value v22
                    exact (keep_p1 (Hub.cnt_keeps B (wk.bit (by decide)) (Hub.setRec_keeps B (wk.sub (by decide)) (Hub.setTxn_keeps B (wk.sub (by decide)) H4))))
                  · rename_i e23
                    exact (keep_p1 H4))
      exact (Hub.crtAnswer_keeps B (wk.sub (by decide)) H9))) H2))

theorem execCaratMsgRetry_keeps {km : Nat} (B : Hub.Bears km P) (wk : Sub 0x400000000004b808800000000000004000000000000000000000000000000000000100000000010000000000000000 km) {tok : ℕ} {s : State} {z : State} (e : (execCaratMsgRetry tok s) = .next z) (H : P s.hub) : P z.hub :=
  act_keeps e H (fun _ H2 => (keep_when (fun _ H4 => (Hub.retryAsk_keeps B (wk.sub (by decide)) H4)) H2))

theorem execCasAck_keeps {km : Nat} (B : Hub.Bears km P) (wk : Sub 0x4000000000049808800000000000004000000000000000000000000000000000000100000000010000000000000000 km) {src : ℕ} {tok : ℕ} {status : ℕ} {typ : ℕ} {_epoch : ℕ} {s : State} {z : State} (e : (execCasAck src tok status typ _epoch s) = .next z) (H : P s.hub) : P z.hub :=
  act_keeps e H (fun _ H2 => (keep_when (fun _ H4 => (by
    extract_lets +onlyGivenNames v5
    clear_value v5
    extract_lets +onlyGivenNames v6
    have H7 : P v6 := (Hub.takeAnswer_keeps B (wk.sub (by decide)) H4)
    clear_value v6
    exact (keep_when (fun _ H9 => (Hub.nbrChange_keeps B (wk.sub (by decide)) H9 (fun _ H11 => (Hub.setCrown_keeps B (wk.sub (by decide)) H11)))) H7))) H2))

theorem execCatchupDone_keeps {km : Nat} (B : Hub.Bears km P) (wk : Sub 0x108000000000000000000000000000000000000000010000800000000000000000000000000000 km) {w : Writer} {s : State} {z : State} (e : (execCatchupDone w s) = .next z) (H : P s.hub) : P z.hub :=
  act_keeps e H (fun _ H2 => (keep_when (fun _ H4 => (keep_ite (Hub.catchupEnd_keeps B (wk.sub (by decide)) H4) (Hub.notReady_keeps B (wk.sub (by decide)) H4))) H2))

theorem execCdrLockLoss_keeps {km : Nat} (B : Hub.Bears km P) (wk : Sub 0xb987aa80200000000000c00060100000000000000000000000000001030200010f030000000100014402 km) {l : Fin 32} {s : State} {z : State} (e : (execCdrLockLoss l s) = .next z) (H : P s.hub) : P z.hub :=
  act_keeps e H (fun _ H2 => (keep_when (fun _ H4 => (keep_when (fun _ H6 => (Hub.retireLane_keeps B (wk.sub (by decide)) H6)) (B.wr (wk.bit (by decide)) H4))) H2))

theorem execCellIngress_keeps {km : Nat} (B : Hub.Bears km P) (wk : Sub 0x5fa80800000000000400000000000000000000000000000000001030100010b030000000000010404 km) {pt : Fin 14} {parityErr : Bool} {c : Cell} {s : State} {z : State} (e : (execCellIngress pt parityErr c s) = .next z) (H : P s.hub) : P z.hub :=
  act_keeps e H (fun _ H2 => (keep_when (fun _ H4 => (Hub.freeCredit_keeps B (wk.sub (by decide)) (Hub.cellIn_keeps B (wk.sub (by decide)) H4))) H2))

theorem execClaspAck_keeps {km : Nat} (B : Hub.Bears km P) (wk : Sub 0x40000040800280200000000000c000001000000000000100000000000000010000000000000000000100010402 km) {p : Fin 8} {tok : ℕ} {ctype : ℕ} {s : State} {z : State} (e : (execClaspAck p tok ctype s) = .next z) (H : P s.hub) : P z.hub :=
  act_keeps e H (fun _ H2 => (keep_when (fun _ H4 => (keep_when (fun _ H6 => (keep_when (fun _ H8 => (Hub.sendOffer_keeps B (wk.sub (by decide)) (B.wr (wk.bit (by decide)) H8))) (Hub.unask_keeps B (wk.sub (by decide)) H6))) (Hub.cnt_keeps B (wk.bit (by decide)) H4))) H2))

theorem execClaspClosure_keeps {km : Nat} (B : Hub.Bears km P) (wk : Sub 0x40000040800280200000000000c000001000000101010100000000000000010000000000000000000100010402 km) {p : Fin 8} {s : State} {z : State} (e : (execClaspClosure p s) = .next z) (H : P s.hub) : P z.hub :=
  act_keeps e H (fun _ H2 => (keep_when (fun _ H4 => (Hub.closure_keeps B (wk.sub (by decide)) H4)) H2))

theorem execClaspRetry_keeps {km : Nat} (B : Hub.Bears km P) (wk : Sub 0x40000040800280200000000000c000001000000101010100000000000000010000000000000000000100010402 km) {p : Fin 8} {s : State} {z : State} (e : (execClaspRetry p s) = .next z) (H : P s.hub) : P z.hub :=
  act_keeps e H (fun _ H2 => (keep_when (fun _ H4 => (Hub.claspRetry_keeps B (wk.sub (by decide)) H4)) H2))

theorem execClaspTrip_keeps {km : Nat} (B : Hub.Bears km P) (wk : Sub 0x400000000002800000000000004000000000000101010100000000000000010000000000000000000000000400 km) {p : Fin 8} {cause : TripCause} {s : State} {z : State} (e : (execClaspTrip p cause s) = .next z) (H : P s.hub) : P z.hub :=
  act_keeps e H (fun _ H2 => (keep_when (fun _ H4 => (Hub.claspTrip_keeps B (wk.sub (by decide)) H4)) H2))

theorem execClassify_keeps {km : Nat} (B : Hub.Bears km P) (wk : Sub 0x2800000000000004000000000000101010100000000000000010000000000000000000000000400 km) {n : Fin 8} {cls : Option ℕ} {s : State} {z : State} (e : (execClassify n cls s) = .next z) (H : P s.hub) : P z.hub :=
  act_keeps e H (fun _ H2 => (keep_when (fun _ H4 => (Hub.lpoClassify_keeps B (wk.sub (by decide)) H4)) H2))

theorem execClockGateOff_keeps {km : Nat} (B : Hub.Bears km P) (wk : Sub 0x28a0000000000004000000000000000000000000000000000010000000000000000000000000502 km) {r : Req} {bit : Fin 13} {s : State} {z : State} (e : (execClockGateOff r bit s) = .next z) (H : P s.hub) : P z.hub :=
  act_keeps e H (fun _ H2 => (Hub.asReg_keeps B (wk.sub (by decide)) H2 (fun _ H4 => (Hub.gateSet_keeps B (wk.sub (by decide)) H4))))

theorem execClockGateOn_keeps {km : Nat} (B : Hub.Bears km P) (wk : Sub 0x28a0000000000004000000000000000000000000000000000010000000000000000000000000502 km) {r : Req} {bit : Fin 13} {s : State} {z : State} (e : (execClockGateOn r bit s) = .next z) (H : P s.hub) : P z.hub :=
  act_keeps e H (fun _ H2 => (Hub.asReg_keeps B (wk.sub (by decide)) H2 (fun _ H4 => (Hub.gateSet_keeps B (wk.sub (by decide)) H4))))

theorem execClockStop_keeps {km : Nat} (B : Hub.Bears km P) (wk : Sub 0x2 km) {bit : Fin 13} {s : State} {z : State} (e : (execClockStop bit s) = .next z) (H : P s.hub) : P z.hub :=
  act_keeps e H (fun _ H2 => (keep_when (fun _ H4 => (Hub.wrBit_keeps B (wk.bit (by decide)) (Hub.wrBit_keeps B (wk.bit (by decide)) H4))) H2))

theorem execClose_keeps {km : Nat} (B : Hub.Bears km P) (wk : Sub 0x1000000000000002800000000000004000000000000000000000000000000000010000000000000000000000002400 km) {f : TsudyFrame} {s : State} {z : State} (e : (execClose f s) = .next z) (H : P s.hub) : P z.hub :=
  act_keeps e H (fun _ H2 => (keep_when (fun _ H4 => (by
    extract_lets +onlyGivenNames v5
    have H6 : P v5 := (Hub.sessionReq_keeps B (wk.sub (by decide)) H4 (fun _ H8 => (keep_p22 H8)))
    clear_value v5
    exact (keep_when (fun _ H10 => (Hub.closeSession_keeps B (wk.sub (by decide)) H10)) H6))) H2))

theorem execCntclr_keeps {km : Nat} (B : Hub.Bears km P) (wk : Sub 0x28a000000000000c000000000000100000000000000000000030000000009000000000000000500 km) {r : Req} {pg : ℕ} {s : State} {z : State} (e : (execCntclr r pg s) = .next z) (H : P s.hub) : P z.hub :=
  act_keeps e H (fun _ H2 => (by
    split
    · rename_i a3 a4 e5
      exact (Hub.asWrite_keeps B (wk.sub (by decide)) H2 (fun _ H7 => (Hub.clearCounts_keeps B (wk.sub (by decide)) H7)))
    · rename_i a8 e9
      exact H2))

theorem execCommit_keeps {km : Nat} (B : Hub.Bears km P) (wk : Sub 0x28a200000000000c000001000000000000000000000000000010000000000000000000100000500 km) {r : Req} {pg : ℕ} {s : State} {z : State} (e : (execCommit r pg s) = .next z) (H : P s.hub) : P z.hub :=
  act_keeps e H (fun _ H2 => (Hub.asWrite_keeps B (wk.sub (by decide)) H2 (fun _ H4 => (Hub.askCommit_keeps B (wk.sub (by decide)) H4))))

theorem execCommitPoint_keeps {km : Nat} (B : Hub.Bears km P) (wk : Sub 0x40280a00000000000c000001000000000000000000000000000830000000100000000000000000402 km) {pg : ℕ} {s : State} {z : State} (e : (execCommitPoint pg s) = .next z) (H : P s.hub) : P z.hub :=
  act_keeps e H (fun _ H2 => (Hub.commitAt_keeps B (wk.sub (by decide)) H2))

theorem execCompletionTimeout_keeps {km : Nat} (B : Hub.Bears km P) (wk : Sub 0x83e0000002800000000000004000000000000000000000000000000300010000000000000000000000000400 km) {t : Fin 1024} {s : State} {z : State} (e : (execCompletionTimeout t s) = .next z) (H : P s.hub) : P z.hub :=
  act_keeps e H (fun _ H2 => (keep_when (fun _ H4 => (by
    split
    · rename_i a5 e6
      exact H4
    · rename_i a7 a8 e9
      exact (keep_ite H4 (Hub.txbDo_keeps B (wk.sub (by decide)) H4 (fun _ H11 => (by
        extract_lets +onlyGivenNames v12
        have H13 : P v12 := (B.tags (wk.bit (by decide)) H11)
        clear_value v12
        exact (Hub.retryReads_keeps B (wk.sub (by decide)) (keep_when (fun _ H15 => (Hub.pieceDone_keeps B (wk.sub (by decide)) H15)) (Hub.irq_keeps B (wk.sub (by decide)) (Hub.raise_keeps B (wk.sub (by decide)) (Hub.cnt_keeps B (wk.bit (by decide)) H13))))))))))) H2))

theorem execCorePgLoss_keeps {km : Nat} (B : Hub.Bears km P) (wk : Sub 0x1ff875c3dffbfffbb97a00000000000c000661000000101010100070004010701a3030200010f030000000100015d1f km) {s : State} {z : State} (e : (execCorePgLoss s) = .next z) (H : P s.hub) : P z.hub :=
  act_keeps e H (fun _ H2 => (keep_when (fun _ H4 => (Hub.enterSolitaire_keeps B (wk.sub (by decide)) H4)) H2))

theorem execCount_keeps {km : Nat} (B : Hub.Bears km P) (wk : Sub 0x2800a808000000000004000400000000000000000000000000000010102000000030000000000000400 km) {p : Fin 8} {n : ℕ} {epoch : ℕ} {s : State} {z : State} (e : (execCount p n epoch s) = .next z) (H : P s.hub) : P z.hub :=
  act_keeps e H (fun _ H2 => (keep_when (fun _ H4 => (Hub.countIn_keeps B (wk.sub (by decide)) H4)) H2))

theorem execCountSend_keeps {km : Nat} (B : Hub.Bears km P) (wk : Sub 0x2800a808000000000004000400000000000000000000000000000010102000000030000000000000400 km) {s : State} {z : State} (e : (execCountSend s) = .next z) (H : P s.hub) : P z.hub :=
  act_keeps e H (fun _ H2 => (keep_when (fun _ H4 => (keep_ite (Hub.crownGrant_keeps B (wk.sub (by decide)) H4) (by
    split
    · rename_i a5 a6 e7
      exact (Hub.countUp_keeps B (wk.sub (by decide)) (keep_when (fun _ H9 => (B.wr (wk.bit (by decide)) H9)) H4))
    · rename_i a10 e11
      exact H4))) H2))

theorem execCpl_keeps {km : Nat} (B : Hub.Bears km P) (wk : Sub 0x83e0000002800000000000004000000000000000000000000000000300010000000000000000000000000400 km) {tid : ℕ} {c : TxbHdr} {s : State} {z : State} (e : (execCpl tid c s) = .next z) (H : P s.hub) : P z.hub :=
  act_keeps e H (fun _ H2 => (keep_when (fun _ H4 => (Hub.txbDo_keeps B (wk.sub (by decide)) H4 (fun _ H6 => (Hub.unlessPoison_keeps B (wk.sub (by decide)) H6 (fun _ H8 => (by
    split
    · rename_i a9 e10
      exact (Hub.cnt_keeps B (wk.bit (by decide)) H8)
    · rename_i a11 a12 e13
      exact (Hub.endTag_keeps B (wk.sub (by decide)) H8))))))) H2))

theorem execCplReceived_keeps {km : Nat} (B : Hub.Bears km P) (wk : Sub 0xc0000000002808000000000004000000000000000000000040000000000010000000000000000000000000400 km) {tid : ℕ} {c : UsbCpl} {data : Bytes} {s : State} {z : State} (e : (execCplReceived tid c data s) = .next z) (H : P s.hub) : P z.hub :=
  act_keeps e H (fun _ H2 => (keep_when (fun _ H4 => (Hub.cplIn_keeps B (wk.sub (by decide)) H4)) H2))

theorem execCpld_keeps {km : Nat} (B : Hub.Bears km P) (wk : Sub 0x83e0000002800000000000004000000000000000000000000000000300010000000000000000000000000400 km) {tid : ℕ} {c : TxbHdr} {data : Bytes} {s : State} {z : State} (e : (execCpld tid c data s) = .next z) (H : P s.hub) : P z.hub :=
  act_keeps e H (fun _ H2 => (keep_when (fun _ H4 => (Hub.txbDo_keeps B (wk.sub (by decide)) H4 (fun _ H6 => (keep_ite (Hub.badOp_keeps B (wk.sub (by decide)) H6) (Hub.cpldIn_keeps B (wk.sub (by decide)) (keep_when (fun _ H8 => (Hub.cnt_keeps B (wk.bit (by decide)) H8)) H6)))))) H2))

theorem execCrownDeclare_keeps {km : Nat} (B : Hub.Bears km P) (wk : Sub 0x800a800000000000004000480000000000000000000000000000010102000000030000000000000400 km) {s : State} {z : State} (e : (execCrownDeclare s) = .next z) (H : P s.hub) : P z.hub :=
  act_keeps e H (fun _ H2 => (by
    extract_lets +onlyGivenNames v3
    have H4 : P v3 := (keep_when (fun _ H6 => (Hub.nbrChange_keeps B (wk.sub (by decide)) H6 (fun _ H8 => (Hub.refreshBest_keeps B (wk.sub (by decide)) H8)))) H2)
    clear_value v3
    exact (keep_when (fun _ H10 => (Hub.nbrChange_keeps B (wk.sub (by decide)) H10 (fun _ H12 => (by
      extract_lets +onlyGivenNames v13
      clear_value v13
      extract_lets +onlyGivenNames v14
      clear_value v14
      exact (Hub.crownPlace_keeps B (wk.sub (by decide)) (B.wr (wk.bit (by decide)) (B.wr (wk.bit (by decide)) (B.wr (wk.bit (by decide)) (B.wr (wk.bit (by decide)) (B.wr (wk.bit (by decide)) (B.wr (wk.bit (by decide)) H12))))))))))) H4)))

theorem execCrownHb_keeps {km : Nat} (B : Hub.Bears km P) (wk : Sub 0x800000000000880a800000000000004000480000000000000000000000000000010102000000030000000000000400 km) {src : ℕ} {_tok : ℕ} {epoch : ℕ} {yields : Bool} {openIntents : ℕ} {_timeNs : ℕ} {s : State} {z : State} (e : (execCrownHb src _tok epoch yields openIntents _timeNs s) = .next z) (H : P s.hub) : P z.hub :=
  act_keeps e H (fun _ H2 => (keep_when (fun _ H4 => (by
    extract_lets +onlyGivenNames v5
    have H6 : P v5 := (B.wr (wk.bit (by decide)) (B.wr (wk.bit (by decide)) H4))
    clear_value v5
    exact (keep_ite (Hub.takeover_keeps B (wk.sub (by decide)) H6) H6))) H2))

theorem execCrownHbSend_keeps {km : Nat} (B : Hub.Bears km P) (wk : Sub 0x8000000000000000000000000000000000000000000000000000100000000010000000000000000 km) {s : State} {z : State} (e : (execCrownHbSend s) = .next z) (H : P s.hub) : P z.hub :=
  act_keeps e H (fun _ H2 => (keep_when (fun _ H4 => (by
    extract_lets +onlyGivenNames v5
    clear_value v5
    extract_lets +onlyGivenNames v6
    have H7 : P v6 := (Hub.ctlAsk_keeps B (wk.sub (by decide)) H4)
    clear_value v6
    exact (B.wr (wk.bit (by decide)) (B.wr (wk.bit (by decide)) (B.wr (wk.bit (by decide)) H7))))) H2))

theorem execCrtAck_keeps {km : Nat} (B : Hub.Bears km P) (wk : Sub 0x400000000004b808800000000000004000000000000000000000000000000000000100000000010000000000000000 km) {src : ℕ} {tok : ℕ} {status : ℕ} {typ : ℕ} {tid : ℕ} {txn : ℕ} {_committed : ℕ} {s : State} {z : State} (e : (execCrtAck src tok status typ tid txn _committed s) = .next z) (H : P s.hub) : P z.hub :=
  act_keeps e H (fun _ H2 => (keep_when (fun _ H4 => (by
    extract_lets +onlyGivenNames v5
    have H6 : P v5 := (Hub.takeAnswer_keeps B (wk.sub (by decide)) H4)
    clear_value v5
    exact (keep_ite (B.unrec (wk.bit (by decide)) H6) H6))) H2))

theorem execCurrentLimit_keeps {km : Nat} (B : Hub.Bears km P) (wk : Sub 0x4000000000000001000000000000000000000000000000000000000000000000 km) {n : Fin 8} {limiting : Bool} {s : State} {z : State} (e : (execCurrentLimit n limiting s) = .next z) (H : P s.hub) : P z.hub :=
  act_keeps e H (fun _ H2 => (keep_when (fun _ H4 => (keep_when (fun _ H6 => (Hub.setLpoPg_keeps B (wk.sub (by decide)) H6)) (B.wr (wk.bit (by decide)) H4))) H2))

theorem execDebugAccess_keeps {km : Nat} (B : Hub.Bears km P) (wk : Sub 0x8000000000000000000000000000000000ff87fffffffffffb9fe00000000000c001ffb00003010101010007000d030701a3030300010f03000000010001ffff km) {write : Bool} {addr : ℕ} {size : ℕ} {v : ℕ} {s : State} {z : State} (e : (execDebugAccess write addr size v s) = .next z) (H : P s.hub) : P z.hub :=
  act_keeps e H (fun _ H2 => (keep_ite (Hub.winWrite_keeps B (wk.sub (by decide)) H2) (Hub.winRead_keeps B (wk.sub (by decide)) H2)))

theorem execDecrease_keeps {km : Nat} (B : Hub.Bears km P) (wk : Sub 0x1a800000000000004000000000000000000000000000000000010003000000030000000000000404 km) {src : ℕ} {tok : ℕ} {tid : ℕ} {txn : ℕ} {amount : ℕ} {s : State} {z : State} (e : (execDecrease src tok tid txn amount s) = .next z) (H : P s.hub) : P z.hub :=
  act_keeps e H (fun _ H2 => (keep_when (fun _ H4 => (by
    split
    · rename_i a5 a6 a7 e8
      have H9 := keep_fst e8 (by
          split
          · rename_i e10
            exact (keep_p1 H4)
          · rename_i e11
            split
            · rename_i a12 e13
              exact (keep_p1 (Hub.dropRec_keeps B (wk.sub (by decide)) H4))
            · rename_i a14 a15 e16
              split
              · rename_i e17
                exact (keep_p1 H4)
              · rename_i e18
                exact (keep_p1 (Hub.lowerTo_keeps B (wk.sub (by decide)) H4)))
      exact (Hub.crtAnswer_keeps B (wk.sub (by decide)) H9))) H2))

theorem execDerive_keeps {km : Nat} (B : Hub.Bears km P) (wk : Sub 0x28a0000000000004000000000000000000000000000000000010000000000000000000000004500 km) {r : Req} {v : ℕ} {s : State} {z : State} (e : (execDerive r v s) = .next z) (H : P s.hub) : P z.hub :=
  act_keeps e H (fun _ H2 => (Hub.keyCmd_keeps B (wk.sub (by decide)) H2))

theorem execDetectRepeat_keeps {km : Nat} (B : Hub.Bears km P) (wk : Sub 0x1000000000000000000000000000000000000000000000000 km) {n : Fin 8} {s : State} {z : State} (e : (execDetectRepeat n s) = .next z) (H : P s.hub) : P z.hub :=
  act_keeps e H (fun _ H2 => (keep_when (fun _ H4 => (B.wr (wk.bit (by decide)) H4)) H2))

theorem execDetection_keeps {km : Nat} (B : Hub.Bears km P) (wk : Sub 0x40000040800280200000000000c000001000000101010100000000000000010000000000000000000100010402 km) {p : Fin 8} {r100 : ℕ} {accept : Bool} {s : State} {z : State} (e : (execDetection p r100 accept s) = .next z) (H : P s.hub) : P z.hub :=
  act_keeps e H (fun _ H2 => (keep_when (fun _ H4 => (by
    extract_lets +onlyGivenNames v5
    clear_value v5
    extract_lets +onlyGivenNames v6
    have H7 : P v6 := (B.wr (wk.bit (by decide)) (B.wr (wk.bit (by decide)) H4))
    clear_value v6
    exact (keep_ite (Hub.bootSource_keeps B (wk.sub (by decide)) H7) (Hub.raise_keeps B (wk.sub (by decide)) H7)))) H2))

theorem execDeviceConnect_keeps {km : Nat} (B : Hub.Bears km P) (wk : Sub 0x4000000000000000000000010000000000000000000000000000000000000000 km) {port : Fin 7} {connected : Bool} {speed : ℕ} {s : State} {z : State} (e : (execDeviceConnect port connected speed s) = .next z) (H : P s.hub) : P z.hub :=
  act_keeps e H (fun _ H2 => (keep_when (fun _ H4 => (keep_ite (keep_when (fun _ H6 => (Hub.setPortStat_keeps B (wk.sub (by decide)) H6)) H4) (Hub.portEmpty_keeps B (wk.sub (by decide)) H4))) H2))

theorem execDomainFail_keeps {km : Nat} (B : Hub.Bears km P) (wk : Sub 0x1ff875c3dffbfffbb97a00000000000c000661000000101010100070004010701a3030200010f030000000100015d1f km) {d : Fin 12} {s : State} {z : State} (e : (execDomainFail d s) = .next z) (H : P s.hub) : P z.hub :=
  act_keeps e H (fun _ H2 => (keep_when (fun _ H4 => (keep_when (fun _ H6 => (Hub.enterSolitaire_keeps B (wk.sub (by decide)) H6)) (Hub.raise_keeps B (wk.sub (by decide)) (B.wr (wk.bit (by decide)) H4)))) H2))

theorem execDomainReady_keeps {km : Nat} (B : Hub.Bears km P) (wk : Sub 0x14000000000280a00000000000c00080300000010101010007000401010003000000000000000000010001241b km) {d : Fin 12} {s : State} {z : State} (e : (execDomainReady d s) = .next z) (H : P s.hub) : P z.hub :=
  act_keeps e H (fun _ H2 => (keep_when (fun _ H4 => (Hub.domainOn_keeps B (wk.sub (by decide)) H4)) H2))

theorem execDomainReset_keeps {km : Nat} (B : Hub.Bears km P) (wk : Sub 0x1ff875c3dffbfffbb97e00000000000c00004000000010101010007000001030021000000010b030000000100001d3f km) {d : Fin 12} {crcOk : Bool} {s : State} {z : State} (e : (execDomainReset d crcOk s) = .next z) (H : P s.hub) : P z.hub :=
  act_keeps e H (fun _ H2 => (keep_when (fun _ H4 => (Hub.domainUp_keeps B (wk.sub (by decide)) H4)) H2))

theorem execDpConfigure_keeps {km : Nat} (B : Hub.Bears km P) (wk : Sub 0x800000000000000000000000004000000000000000010000000000000000200000000000000000000000000000 km) {k : Fin 2} {pinD : Bool} {s : State} {z : State} (e : (execDpConfigure k pinD s) = .next z) (H : P s.hub) : P z.hub :=
  act_keeps e H (fun _ H2 => (keep_when (fun _ H4 => (keep_ite (Hub.dpConfigure_keeps B (wk.sub (by decide)) H4) (Hub.pdSend_keeps B (wk.sub (by decide)) H4))) H2))

theorem execDpTrainDone_keeps {km : Nat} (B : Hub.Bears km P) (wk : Sub 0x2800000000000004000000000000000000000000000000001030000000000000000000000000402 km) {h : Fin 4} {ok : Bool} {rate : ℕ} {lanes : ℕ} {s : State} {z : State} (e : (execDpTrainDone h ok rate lanes s) = .next z) (H : P s.hub) : P z.hub :=
  act_keeps e H (fun _ H2 => (keep_when (fun _ H4 => (Hub.dpTrainDone_keeps B (wk.sub (by decide)) H4)) H2))

theorem execDrainTimeout_keeps {km : Nat} (B : Hub.Bears km P) (wk : Sub 0x1ff875c3dffbfffbb97e00000000000c000641000000101010100070000010701a3030200010f030000000100015d3e km) {d : Fin 12} {left : List ℕ} {s : State} {z : State} (e : (execDrainTimeout d left s) = .next z) (H : P s.hub) : P z.hub :=
  act_keeps e H (fun _ H2 => (keep_when (fun _ H4 => (Hub.domainOff_keeps B (wk.sub (by decide)) H4)) H2))

theorem execDrainingTimeout_keeps {km : Nat} (B : Hub.Bears km P) (wk : Sub 0x80008000000000000000000000000000000000000000000000000200000000010000000000000000 km) {idx : Fin 8192} {s : State} {z : State} (e : (execDrainingTimeout idx s) = .next z) (H : P s.hub) : P z.hub :=
  act_keeps e H (fun _ H2 => (keep_when (fun _ H4 => (Hub.tunState_keeps B (wk.sub (by decide)) H4)) H2))

theorem execEcdh_keeps {km : Nat} (B : Hub.Bears km P) (wk : Sub 0x28a0000000000004000000000000000000000000000000000010000000000000000000000004500 km) {r : Req} {v : ℕ} {s : State} {z : State} (e : (execEcdh r v s) = .next z) (H : P s.hub) : P z.hub :=
  act_keeps e H (fun _ H2 => (Hub.keyCmd_keeps B (wk.sub (by decide)) H2))

theorem execEcdhGen_keeps {km : Nat} (B : Hub.Bears km P) (wk : Sub 0x28a0000000000004000000000000000000000000000000000010000000000000000000000004500 km) {r : Req} {v : ℕ} {s : State} {z : State} (e : (execEcdhGen r v s) = .next z) (H : P s.hub) : P z.hub :=
  act_keeps e H (fun _ H2 => (Hub.keyCmd_keeps B (wk.sub (by decide)) H2))

theorem execEgressSelect_keeps {km : Nat} (B : Hub.Bears km P) (wk : Sub 0x1000000072280200000000000c00000100000000000000000000100000001000000010f030000000000010404 km) {pt : Fin 14} {s : State} {z : State} (e : (execEgressSelect pt s) = .next z) (H : P s.hub) : P z.hub :=
  act_keeps e H (fun _ H2 => (Hub.egressSelect_keeps B (wk.sub (by decide)) H2))

theorem execEidleReceived_keeps {km : Nat} (B : Hub.Bears km P) (wk : Sub 0x1800a80200000000000c000601000000000000000000000000000010102000000030000000100014402 km) {p : Fin 8} {l2 : Bool} {s : State} {z : State} (e : (execEidleReceived p l2 s) = .next z) (H : P s.hub) : P z.hub :=
  act_keeps e H (fun _ H2 => (keep_when (fun _ H4 => (Hub.eidleDue_keeps B (wk.sub (by decide)) (B.wr (wk.bit (by decide)) H4))) H2))

theorem execEidleSend_keeps {km : Nat} (B : Hub.Bears km P) (wk : Sub 0x41800a80200000000000c000601000000000000000000000000000010102000000030000000100014402 km) {p : Fin 8} {s : State} {z : State} (e : (execEidleSend p s) = .next z) (H : P s.hub) : P z.hub :=
  act_keeps e H (fun _ H2 => (keep_when (fun _ H4 => (Hub.sendEidle_keeps B (wk.sub (by decide)) H4)) H2))

theorem execEmergencyChange_keeps {km : Nat} (B : Hub.Bears km P) (wk : Sub 0x4000000000000101010100000000000000000000000000000000000000000000 km) {batt : Bool} {s : State} {z : State} (e : (execEmergencyChange batt s) = .next z) (H : P s.hub) : P z.hub :=
  act_keeps e H (fun _ H2 => (keep_when (fun _ H4 => (Hub.refreshEmerg_keeps B (wk.sub (by decide)) (keep_ite H4 (Hub.irq_keeps B (wk.sub (by decide)) (B.wr (wk.bit (by decide)) H4))))) H2))

theorem execEndReceived_keeps {km : Nat} (B : Hub.Bears km P) (wk : Sub 0xa000002908000000000004000000000000000000000000000010000810000000000000000000000000400 km) {tid : ℕ} {t : TilePkt} {s : State} {z : State} (e : (execEndReceived tid t s) = .next z) (H : P s.hub) : P z.hub :=
  act_keeps e H (fun _ H2 => (keep_when (fun _ H4 => (by
    split
    · rename_i a5 e6
      exact (Hub.cnt_keeps B (wk.bit (by decide)) H4)
    · rename_i a7 a8 e9
      exact (keep_ite (Hub.rxEnd_keeps B (wk.sub (by decide)) H4) (Hub.notReady_keeps B (wk.sub (by decide)) H4)))) H2))

theorem execEp0OutPacket_keeps {km : Nat} (B : Hub.Bears km P) (wk : Sub 0x4000000000000000000000020000000000000000000000000000000000000000 km) {data : Bytes} {s : State} {z : State} (e : (execEp0OutPacket data s) = .next z) (H : P s.hub) : P z.hub :=
  act_keeps e H (fun _ H2 => (keep_when (fun _ H4 => (Hub.ep0Out_keeps B (wk.sub (by decide)) H4)) H2))

theorem execEp1OutPacket_keeps {km : Nat} (B : Hub.Bears km P) (wk : Sub 0x4000000000000000000000020000000000000000000000000000000000000000 km) {data : Bytes} {s : State} {z : State} (e : (execEp1OutPacket data s) = .next z) (H : P s.hub) : P z.hub :=
  act_keeps e H (fun _ H2 => (keep_when (fun _ H4 => (Hub.irq_keeps B (wk.sub (by decide)) (B.wr (wk.bit (by decide)) (B.wr (wk.bit (by decide)) (Hub.setBuf_keeps B (fun _ _ => (wk.bitAt (kind_word_UDF_EP1OUT _) (by decide))) H4))))) H2))

theorem execErase_keeps {km : Nat} (B : Hub.Bears km P) (wk : Sub 0x28a0000000000004000000000000000000000000000000000010000000000000000000000004500 km) {r : Req} {v : ℕ} {s : State} {z : State} (e : (execErase r v s) = .next z) (H : P s.hub) : P z.hub :=
  act_keeps e H (fun _ H2 => (Hub.keyCmd_keeps B (wk.sub (by decide)) H2))

theorem execEscalationExpiry_keeps {km : Nat} (B : Hub.Bears km P) (wk : Sub 0x8000000000000000000000000000000001ff87ffffffffffff9fe00000000000c000e63000000101010100070004010701a3030200010f030000000100017d5f km) {pg : ℕ} {s : State} {z : State} (e : (execEscalationExpiry pg s) = .next z) (H : P s.hub) : P z.hub :=
  act_keeps e H (fun _ H2 => (keep_when (fun _ H4 => (Hub.escalate_keeps B (wk.sub (by decide)) H4)) H2))

theorem execEstatClear_keeps {km : Nat} (B : Hub.Bears km P) (wk : Sub 0x28a0000000000004000000000000000000000000000000000010000000000000000000000000500 km) {r : Req} {pg : ℕ} {v : ℕ} {newErr : ℕ} {s : State} {z : State} (e : (execEstatClear r pg v newErr s) = .next z) (H : P s.hub) : P z.hub :=
  act_keeps e H (fun _ H2 => (Hub.asWrite_keeps B (wk.sub (by decide)) H2 (fun _ H4 => (Hub.estatWrite_keeps B (wk.sub (by decide)) H4))))

theorem execEthFrameRx_keeps {km : Nat} (B : Hub.Bears km P) (wk : Sub 0x100000000000005fa80800000000000400000000000000000000000000100000001030100010b030000000000000404 km) {m : Fin 2} {fcsOk : Bool} {room : Option ℕ} {frame : Bytes} {s : State} {z : State} (e : (execEthFrameRx m fcsOk room frame s) = .next z) (H : P s.hub) : P z.hub :=
  act_keeps e H (fun _ H2 => (keep_when (fun _ H4 => (Hub.ethRx_keeps B (wk.sub (by decide)) H4)) H2))

theorem execEthFrameTx_keeps {km : Nat} (B : Hub.Bears km P) (wk : Sub 0x10000000000000000000000000000000000000000000000000001000000000000000000000000000000000000 km) {tid : ℕ} {poison : Bool} {frame : Bytes} {s : State} {z : State} (e : (execEthFrameTx tid poison frame s) = .next z) (H : P s.hub) : P z.hub :=
  act_keeps e H (fun _ H2 => (keep_when (fun _ H4 => (Hub.ethTx_keeps B (wk.sub (by decide)) H4)) H2))

theorem execEthLinkChange_keeps {km : Nat} (B : Hub.Bears km P) (wk : Sub 0x2800000000000004000000000000000000000000001000000010000000000000000000000000400 km) {m : Fin 2} {up : Bool} {blockLock : Bool} {fecLock : Bool} {s : State} {z : State} (e : (execEthLinkChange m up blockLock fecLock s) = .next z) (H : P s.hub) : P z.hub :=
  act_keeps e H (fun _ H2 => (keep_when (fun _ H4 => (Hub.ethLink_keeps B (wk.sub (by decide)) H4)) H2))

theorem execEvent_keeps {km : Nat} (B : Hub.Bears km P) (wk : Sub 0xc0000000002808000000000004000000000000000000000040000000000010000000000000000000000000400 km) {tid : ℕ} {ev : ℕ} {bus : ℕ} {wake : Bool} {oldest : ℕ} {s : State} {z : State} (e : (execEvent tid ev bus wake oldest s) = .next z) (H : P s.hub) : P z.hub :=
  act_keeps e H (fun _ H2 => (keep_when (fun _ H4 => (Hub.eventIn_keeps B (wk.sub (by decide)) H4)) H2))

theorem execFastRoleSwap_keeps {km : Nat} (B : Hub.Bears km P) (wk : Sub 0x800000000000800000000000004000000000000101010100000000000000000000000000000000000000000000 km) {k : Fin 2} {s : State} {z : State} (e : (execFastRoleSwap k s) = .next z) (H : P s.hub) : P z.hub :=
  act_keeps e H (fun _ H2 => (keep_when (fun _ H4 => (Hub.fastRoleSwap_keeps B (wk.sub (by decide)) H4)) H2))

theorem execFastSwap_keeps {km : Nat} (B : Hub.Bears km P) (wk : Sub 0x40000040800280200000000000c000001000000101010100000000000000010000000000000000000100010402 km) {p : Fin 8} {bySf : Bool} {s : State} {z : State} (e : (execFastSwap p bySf s) = .next z) (H : P s.hub) : P z.hub :=
  act_keeps e H (fun _ H2 => (keep_when (fun _ H4 => (Hub.fastSwap_keeps B (wk.sub (by decide)) H4)) H2))

theorem execFaultTimerExpiry_keeps {km : Nat} (B : Hub.Bears km P) (wk : Sub 0x2800000000000004000000000000101010100000000000000010000000000000000000000000400 km) {n : Fin 8} {s : State} {z : State} (e : (execFaultTimerExpiry n s) = .next z) (H : P s.hub) : P z.hub :=
  act_keeps e H (fun _ H2 => (keep_when (fun _ H4 => (Hub.lpoTrip_keeps B (wk.sub (by decide)) (wk.bit (by decide)) H4)) H2))

end Sys2Proof.Machine
end

