-- ==== Sys2Proof/Laws/KeepsF.lean ====
section
/-! SUPPORT. What each operation and each command keeps (part 6 of 6): one lemma per operation, which names the kinds of state
that it may change, as the bits of a number (Laws/Keep.lean). Each follows the shape of the operation's definition. -/

set_option linter.unusedVariables false

namespace Sys2Proof.Machine

open Sys2Proof

variable {P : Hub → Prop}

theorem execFrameGroupSend_keeps {km : Nat} (B : Hub.Bears km P) (wk : Sub 0xf987aa80200000000000c00060100000000000000000000000000001030200010f030000000100014402 km) {p : Fin 8} {s : State} {z : State} (e : (execFrameGroupSend p s) = .next z) (H : P s.hub) : P z.hub :=
  act_keeps e H (fun _ H2 => (keep_when (fun _ H4 => (Hub.sendGroup_keeps B (wk.sub (by decide)) H4)) H2))

theorem execFtsReceived_keeps {km : Nat} (B : Hub.Bears km P) (wk : Sub 0x40800a80200000000000c000201000000000000000000000000000010102000000030000000100014402 km) {p : Fin 8} {frameLock : Bool} {s : State} {z : State} (e : (execFtsReceived p frameLock s) = .next z) (H : P s.hub) : P z.hub :=
  act_keeps e H (fun _ H2 => (keep_when (fun _ H4 => (keep_ite (Hub.exitLow_keeps B (wk.sub (by decide)) H4) (Hub.startExit_keeps B (wk.sub (by decide)) (keep_each (fun _ _ H7 => (keep_when (fun _ H9 => (B.wr (wk.bit (by decide)) H9)) H7)) H4)))) H2))

theorem execFunctionLevelReset_keeps {km : Nat} (B : Hub.Bears km P) (wk : Sub 0x1e0000002800000000000004000000000000000000000000000000300010000000000000000000000000400 km) {s : State} {z : State} (e : (execFunctionLevelReset s) = .next z) (H : P s.hub) : P z.hub :=
  act_keeps e H (fun _ H2 => (keep_when (fun _ H4 => (Hub.raise_keeps B (wk.sub (by decide)) (Hub.dropHostReads_keeps B (wk.sub (by decide)) (Hub.clearConfig_keeps B (wk.sub (by decide)) H4)))) H2))

theorem execFuseLimitWrite_keeps {km : Nat} (B : Hub.Bears km P) (wk : Sub 0x28a0000000000004000000000000001000000000000000000010000000000000000000000000500 km) {r : Req} {n : Fin 8} {timer : Bool} {v : ℕ} {s : State} {z : State} (e : (execFuseLimitWrite r n timer v s) = .next z) (H : P s.hub) : P z.hub :=
  act_keeps e H (fun _ H2 => (Hub.asReg_keeps B (wk.sub (by decide)) H2 (fun _ H4 => (Hub.fuseWrite_keeps B (wk.sub (by decide)) H4))))

theorem execFwAbort_keeps {km : Nat} (B : Hub.Bears km P) (wk : Sub 0x8000000000000000000000000000000000000000000000800000000000000000000000000000 km) {w : Fin 64} {s : State} {z : State} (e : (execFwAbort w s) = .next z) (H : P s.hub) : P z.hub :=
  act_keeps e H (fun _ H2 => (keep_when (fun _ H4 => (Hub.nextHostFrame_keeps B (wk.sub (by decide)) (B.wr (wk.bit (by decide)) (Hub.abortSlot_keeps B (wk.sub (by decide)) H4)))) H2))

theorem execFwEnd_keeps {km : Nat} (B : Hub.Bears km P) (wk : Sub 0x800000000000000000000000000000 km) {w : Fin 64} {s : State} {z : State} (e : (execFwEnd w s) = .next z) (H : P s.hub) : P z.hub :=
  act_keeps e H (fun _ H2 => (keep_when (fun _ H4 => (B.wr (wk.bit (by decide)) H4)) H2))

theorem execGateTimeout_keeps {km : Nat} (B : Hub.Bears km P) (wk : Sub 0x2800000000000004000000000000000000000000000000000010000000000000000000000000402 km) {bit : Fin 13} {s : State} {z : State} (e : (execGateTimeout bit s) = .next z) (H : P s.hub) : P z.hub :=
  act_keeps e H (fun _ H2 => (keep_when (fun _ H4 => (Hub.raise_keeps B (wk.sub (by decide)) (Hub.wrBit_keeps B (wk.bit (by decide)) (Hub.wrBit_keeps B (wk.bitAt (gateFld_kind _) (by decide)) H4)))) H2))

theorem execGetkey_keeps {km : Nat} (B : Hub.Bears km P) (wk : Sub 0x1000000000000000000000000000004000000000000000000000000000000000000000000000000000000000002000 km) {seq : ℕ} {s : State} {z : State} (e : (execGetkey seq s) = .next z) (H : P s.hub) : P z.hub :=
  act_keeps e H (fun _ H2 => (keep_when (fun _ H4 => (Hub.mgpPend_keeps B (wk.sub (by decide)) H4)) H2))

theorem execGpioWake_keeps {km : Nat} (B : Hub.Bears km P) (wk : Sub 0x40000280200000000000c00002100000000000000000000001010001000000000000000000010001041a km) {i : Fin 8} {s : State} {z : State} (e : (execGpioWake i s) = .next z) (H : P s.hub) : P z.hub :=
  act_keeps e H (fun _ H2 => (keep_when (fun _ H4 => (Hub.wake_keeps B (wk.sub (by decide)) H4)) H2))

theorem execGrant_keeps {km : Nat} (B : Hub.Bears km P) (wk : Sub 0x2800a808000000000004000400000000000000000000000000000010102000000030000000000000400 km) {p : Fin 8} {first : ℕ} {size : ℕ} {tier : ℕ} {epoch : ℕ} {s : State} {z : State} (e : (execGrant p first size tier epoch s) = .next z) (H : P s.hub) : P z.hub :=
  act_keeps e H (fun _ H2 => (keep_when (fun _ H4 => (Hub.takeBlock_keeps B (wk.sub (by decide)) (B.wr (wk.bit (by decide)) H4))) H2))

theorem execHardResetElect_keeps {km : Nat} (B : Hub.Bears km P) (wk : Sub 0x40000040800280200000000000c000001000000101010100000000000000010000000000000000000100010402 km) {p : Fin 8} {s : State} {z : State} (e : (execHardResetElect p s) = .next z) (H : P s.hub) : P z.hub :=
  act_keeps e H (fun _ H2 => (keep_when (fun _ H4 => (Hub.elect_keeps B (wk.sub (by decide)) H4)) H2))

theorem execHardShort_keeps {km : Nat} (B : Hub.Bears km P) (wk : Sub 0x2800000000000004000000000000101010100000000000000010000000000000000000000000400 km) {n : Fin 8} {s : State} {z : State} (e : (execHardShort n s) = .next z) (H : P s.hub) : P z.hub :=
  act_keeps e H (fun _ H2 => (keep_when (fun _ H4 => (Hub.lpoTrip_keeps B (wk.sub (by decide)) (wk.bit (by decide)) H4)) H2))

theorem execHardwareVote_keeps {km : Nat} (B : Hub.Bears km P) (wk : Sub 0x40000280200000000000c00002100000000000000000000001010001000000000000000000010001041a km) {s : State} {z : State} (e : (execHardwareVote s) = .next z) (H : P s.hub) : P z.hub :=
  act_keeps e H (fun _ H2 => (Hub.setVote_keeps B (wk.sub (by decide)) (wk.bit (by decide)) (Hub.setVote_keeps B (wk.sub (by decide)) (wk.bit (by decide)) H2)))

theorem execHbTimeout_keeps {km : Nat} (B : Hub.Bears km P) (wk : Sub 0x800000000000880a800000000000004000480000000000000000000000000000010102000000030000000000000400 km) {s : State} {z : State} (e : (execHbTimeout s) = .next z) (H : P s.hub) : P z.hub :=
  act_keeps e H (fun _ H2 => (keep_when (fun _ H4 => (Hub.raise_keeps B (wk.sub (by decide)) (Hub.takeover_keeps B (wk.sub (by decide)) H4))) H2))

theorem execHeadLockTimeout_keeps {km : Nat} (B : Hub.Bears km P) (wk : Sub 0x2800000000000004000000000000000000000000000000000030000000000000000000000000402 km) {h : Fin 4} {s : State} {z : State} (e : (execHeadLockTimeout h s) = .next z) (H : P s.hub) : P z.hub :=
  act_keeps e H (fun _ H2 => (keep_when (fun _ H4 => (Hub.raise_keeps B (wk.sub (by decide)) (Hub.setHead_keeps B (wk.sub (by decide)) H4))) H2))

theorem execHeadPllLock_keeps {km : Nat} (B : Hub.Bears km P) (wk : Sub 0x2800000000000004000000000000000000000000000000000030000000000000000000000000402 km) {h : Fin 4} {s : State} {z : State} (e : (execHeadPllLock h s) = .next z) (H : P s.hub) : P z.hub :=
  act_keeps e H (fun _ H2 => (keep_when (fun _ H4 => (Hub.waitLink_keeps B (wk.sub (by decide)) (Hub.wrBit_keeps B (wk.bit (by decide)) (Hub.setHead_keeps B (wk.sub (by decide)) H4)))) H2))

theorem execHoldExpiry_keeps {km : Nat} (B : Hub.Bears km P) (wk : Sub 0x1a800000000000004000000000000000000000000000000000010003000000030000000000000404 km) {idx : Fin 8192} {s : State} {z : State} (e : (execHoldExpiry idx s) = .next z) (H : P s.hub) : P z.hub :=
  act_keeps e H (fun _ H2 => (keep_when (fun _ H4 => (Hub.irq_keeps B (wk.sub (by decide)) (Hub.raise_keeps B (wk.sub (by decide)) (Hub.cnt_keeps B (wk.bit (by decide)) (Hub.endReserve_keeps B (wk.sub (by decide)) H4))))) H2))

theorem execHostConfigWrite_keeps {km : Nat} (B : Hub.Bears km P) (wk : Sub 0x8000000000000000000000000000000000000000000000000000000200000000000000000000000000000000 km) {bme : Bool} {msix : Bool} {s : State} {z : State} (e : (execHostConfigWrite bme msix s) = .next z) (H : P s.hub) : P z.hub :=
  act_keeps e H (fun _ H2 => (keep_when (fun _ H4 => (Hub.msixFlush_keeps B (wk.sub (by decide)) (B.wr (wk.bit (by decide)) (B.wr (wk.bit (by decide)) H4)))) H2))

theorem execHostPixelWrite_keeps {km : Nat} (B : Hub.Bears km P) (wk : Sub 0x2900000000000004000000000000000000000000000010000810000000000000000000000000500 km) {w : Fin 64} {off : ℕ} {data : Bytes} {s : State} {z : State} (e : (execHostPixelWrite w off data s) = .next z) (H : P s.hub) : P z.hub :=
  act_keeps e H (fun _ H2 => (keep_when (fun _ H4 => (Hub.hostWrite_keeps B (wk.sub (by decide)) H4)) H2))

theorem execHostResume_keeps {km : Nat} (B : Hub.Bears km P) (wk : Sub 0x800000000000004000000000000000000000030000000000000000000000000000000000000000 km) {s : State} {z : State} (e : (execHostResume s) = .next z) (H : P s.hub) : P z.hub :=
  act_keeps e H (fun _ H2 => (keep_when (fun _ H4 => (by
    split
    · rename_i a5 a6 a7 e8
      have H9 := keep_snd e8 (Hub.free_keeps B (wk.sub (by decide)) H4)
      exact (Hub.busResume_keeps B (wk.sub (by decide)) (B.wr (wk.bit (by decide)) H9)))) H2))

theorem execHpdArrive_keeps {km : Nat} (B : Hub.Bears km P) (wk : Sub 0x1000000000000000000000000000000 km) {h : Fin 4} {s : State} {z : State} (e : (execHpdArrive h s) = .next z) (H : P s.hub) : P z.hub :=
  act_keeps e H (fun _ H2 => (keep_when (fun _ H4 => (B.wr (wk.bit (by decide)) (B.wr (wk.bit (by decide)) H4))) H2))

theorem execHpdChange_keeps {km : Nat} (B : Hub.Bears km P) (wk : Sub 0x8000000000028a0000000000004000000000000000000000000000000000210000000000000000000000000500 km) {r : Req} {k : Fin 2} {hpd : Bool} {s : State} {z : State} (e : (execHpdChange r k hpd s) = .next z) (H : P s.hub) : P z.hub :=
  act_keeps e H (fun _ H2 => (Hub.asReg_keeps B (wk.sub (by decide)) H2 (fun _ H4 => (Hub.hpdWrite_keeps B (wk.sub (by decide)) H4))))

theorem execHpdIrq_keeps {km : Nat} (B : Hub.Bears km P) (wk : Sub 0x2800000000000004000000000000000000000000000000001030000000000000000000000000402 km) {h : Fin 4} {lostLock : Bool} {retrained : Bool} {s : State} {z : State} (e : (execHpdIrq h lostLock retrained s) = .next z) (H : P s.hub) : P z.hub :=
  act_keeps e H (fun _ H2 => (keep_when (fun _ H4 => (Hub.hpdIrq_keeps B (wk.sub (by decide)) H4)) H2))

theorem execHpdLoss_keeps {km : Nat} (B : Hub.Bears km P) (wk : Sub 0x2800000000000004000000000000000000000000000000001030000000000000000000000000402 km) {h : Fin 4} {s : State} {z : State} (e : (execHpdLoss h s) = .next z) (H : P s.hub) : P z.hub :=
  act_keeps e H (fun _ H2 => (keep_when (fun _ H4 => (Hub.hpdLost_keeps B (wk.sub (by decide)) H4)) H2))

theorem execHrstN_keeps {km : Nat} (B : Hub.Bears km P) (wk : Sub 0x80000000000000000000000000000000003f87fffffffffffb8fe00000000000c000842000000000000000000000000000010000000000010000000000003c0f km) {low : Bool} {straps : ℕ} {s : State} {z : State} (e : (execHrstN low straps s) = .next z) (H : P s.hub) : P z.hub :=
  act_keeps e H (fun _ H2 => (Hub.hrstBall_keeps B (wk.sub (by decide)) H2))

theorem execHsrateUpdate_keeps {km : Nat} (B : Hub.Bears km P) (wk : Sub 0x3800000000000004000000000000000000000000000000000010000000000000000000000000404 km) {rate : ℕ} {s : State} {z : State} (e : (execHsrateUpdate rate s) = .next z) (H : P s.hub) : P z.hub :=
  act_keeps e H (fun _ H2 => (keep_when (fun _ H4 => (Hub.hsrateUpdate_keeps B (wk.sub (by decide)) H4)) H2))

theorem execHubRequest_keeps {km : Nat} (B : Hub.Bears km P) (wk : Sub 0x140000000000808000000000004000000000000000000000070000000000000000000000000000000000000000 km) {q : HubReq} {s : State} {z : State} (e : (execHubRequest q s) = .next z) (H : P s.hub) : P z.hub :=
  act_keeps e H (fun _ H2 => (keep_when (fun _ H4 => (Hub.hubReq_keeps B (wk.sub (by decide)) (B.wr (wk.bit (by decide)) H4))) H2))

theorem execHubSuspend_keeps {km : Nat} (B : Hub.Bears km P) (wk : Sub 0x4000000000000000000000030000000000000000000000000000000000000000 km) {s : State} {z : State} (e : (execHubSuspend s) = .next z) (H : P s.hub) : P z.hub :=
  act_keeps e H (fun _ H2 => (keep_when (fun _ H4 => (keep_when (fun _ H6 => (Hub.udfSuspend_keeps B (wk.sub (by decide)) H6)) (B.wr (wk.bit (by decide)) H4))) H2))

theorem execIdBlock_keeps {km : Nat} (B : Hub.Bears km P) (wk : Sub 0x28008008000000000000000000000000000000000000000000000000100000000020000000000000000 km) {src : ℕ} {tok : ℕ} {first : ℕ} {size : ℕ} {port : ℕ} {s : State} {z : State} (e : (execIdBlock src tok first size port s) = .next z) (H : P s.hub) : P z.hub :=
  act_keeps e H (fun _ H2 => (keep_when (fun _ H4 => (keep_ite (Hub.casAck_keeps B (wk.sub (by decide)) H4) (keep_ite (Hub.casAck_keeps B (wk.sub (by decide)) H4) (by
    extract_lets +onlyGivenNames v5
    have H6 : P v5 := (B.wr (wk.bit (by decide)) (B.granted (wk.bit (by decide)) H4))
    clear_value v5
    exact (Hub.casAck_keeps B (wk.sub (by decide)) (Hub.grantSend_keeps B (wk.sub (by decide)) (Hub.reroute_keeps B (wk.sub (by decide)) H6 (fun _ _ H9 => (Hub.blockRoutes_keeps B (wk.sub (by decide)) H9))))))))) H2))

theorem execIdent_keeps {km : Nat} (B : Hub.Bears km P) (wk : Sub 0x1000000000000000000000000000000000000000000000000000000000000000000000000000000000000000002000 km) {seq : ℕ} {s : State} {z : State} (e : (execIdent seq s) = .next z) (H : P s.hub) : P z.hub :=
  act_keeps e H (fun _ H2 => (keep_when (fun _ H4 => (Hub.mgpReply_keeps B (wk.sub (by decide)) (Hub.cnt_keeps B (wk.bit (by decide)) H4))) H2))

theorem execInTransaction_keeps {km : Nat} (B : Hub.Bears km P) (wk : Sub 0x200000000000000000000000004000000000000000000000020000000000000000000000000000000000000000 km) {ep : Fin 3} {s : State} {z : State} (e : (execInTransaction ep s) = .next z) (H : P s.hub) : P z.hub :=
  act_keeps e H (fun _ H2 => (keep_when (fun _ H4 => (Hub.inToken_keeps B (wk.sub (by decide)) H4)) H2))

theorem execKey_keeps {km : Nat} (B : Hub.Bears km P) (wk : Sub 0x800a800000000000004000200000000000000000000000000000010102000000030000000000014400 km) {p : Fin 8} {tok : ℕ} {phase : ℕ} {span : ℕ} {s : State} {z : State} (e : (execKey p tok phase span s) = .next z) (H : P s.hub) : P z.hub :=
  act_keeps e H (fun _ H2 => (keep_when (fun _ H4 => (Hub.keyIn_keeps B (wk.sub (by decide)) H4)) H2))

theorem execKeyClear_keeps {km : Nat} (B : Hub.Bears km P) (wk : Sub 0x28a0000000000004000000000000000000000000000000000010000000000000000000000004500 km) {r : Req} {v : ℕ} {s : State} {z : State} (e : (execKeyClear r v s) = .next z) (H : P s.hub) : P z.hub :=
  act_keeps e H (fun _ H2 => (Hub.keyCmd_keeps B (wk.sub (by decide)) H2))

theorem execKeyGen_keeps {km : Nat} (B : Hub.Bears km P) (wk : Sub 0x28a0000000000004000000000000000000000000000000000010000000000000000000000004500 km) {r : Req} {v : ℕ} {s : State} {z : State} (e : (execKeyGen r v s) = .next z) (H : P s.hub) : P z.hub :=
  act_keeps e H (fun _ H2 => (Hub.keyCmd_keeps B (wk.sub (by decide)) H2))

theorem execKeyOpDone_keeps {km : Nat} (B : Hub.Bears km P) (wk : Sub 0x1e000001000002800000000000004000000000000000000000000000000000010000000000000000000000004400 km) {storeOk : Bool} {s : State} {z : State} (e : (execKeyOpDone storeOk s) = .next z) (H : P s.hub) : P z.hub :=
  act_keeps e H (fun _ H2 => (keep_when (fun _ H4 => (Hub.keyDone_keeps B (wk.sub (by decide)) H4)) H2))

theorem execKeyack_keeps {km : Nat} (B : Hub.Bears km P) (wk : Sub 0x800a800000000000004000200000000000000000000000000000010102000000030000000000014400 km) {p : Fin 8} {tok : ℕ} {_phase : ℕ} {status : ℕ} {s : State} {z : State} (e : (execKeyack p tok _phase status s) = .next z) (H : P s.hub) : P z.hub :=
  act_keeps e H (fun _ H2 => (keep_when (fun _ H4 => (Hub.keyackIn_keeps B (wk.sub (by decide)) H4)) H2))

theorem execKeyingTimeout_keeps {km : Nat} (B : Hub.Bears km P) (wk : Sub 0xb987aa80200000000000c00060100000000000000000000000000001030200010f030000000100014402 km) {p : Fin 8} {s : State} {z : State} (e : (execKeyingTimeout p s) = .next z) (H : P s.hub) : P z.hub :=
  act_keeps e H (fun _ H2 => (keep_when (fun _ H4 => (Hub.portDown_keeps B (wk.sub (by decide)) (Hub.raise_keeps B (wk.sub (by decide)) H4))) H2))

theorem execLedger_keeps {km : Nat} (B : Hub.Bears km P) (wk : Sub 0xc00000000000400a800000000000004000000000000000000000000000000000010100000000010000000000000400 km) {src : ℕ} {tok : ℕ} {op : ℕ} {tid : ℕ} {txn : ℕ} {before : ℕ} {after : ℕ} {hops : List ℕ} {s : State} {z : State} (e : (execLedger src tok op tid txn before after hops s) = .next z) (H : P s.hub) : P z.hub :=
  act_keeps e H (fun _ H2 => (keep_when (fun _ H4 => (by
    extract_lets +onlyGivenNames v5
    clear_value v5
    extract_lets +onlyGivenNames v6
    clear_value v6
    refine keep_ite ?_ ?_
    · exact (Hub.casAck_keeps B (wk.sub (by decide)) H4)
    · refine keep_ite ?_ ?_
      · extract_lets +onlyGivenNames v7
        clear_value v7
        extract_lets +onlyGivenNames v8
        clear_value v8
        exact (keep_when (fun _ H10 => (Hub.settleAll_keeps B (wk.sub (by decide)) H10)) (Hub.casAck_keeps B (wk.sub (by decide)) (B.wr (wk.bit (by decide)) (B.intents (wk.bit (by decide)) H4))))
      · refine keep_ite ?_ ?_
        · extract_lets +onlyGivenNames v11
          clear_value v11
          exact (Hub.casAck_keeps B (wk.sub (by decide)) (B.wr (wk.bit (by decide)) (by
            extract_lets +onlyGivenNames v12
            have H13 : P v12 := (Hub.learnDone_keeps B (wk.sub (by decide)) H4)
            clear_value v12
            exact (B.intents (wk.bit (by decide)) H13))))
        · exact (Hub.casAck_keeps B (wk.sub (by decide)) H4))) H2))

theorem execLifeCycleWipeDone_keeps {km : Nat} (B : Hub.Bears km P) (wk : Sub 0x80000000000000000000000000000000003fdfffffffffffffafe00000000000c00084600000000000000000000000000001000000000001000000000000bc0f km) {fuseOk : Bool} {straps : ℕ} {s : State} {z : State} (e : (execLifeCycleWipeDone fuseOk straps s) = .next z) (H : P s.hub) : P z.hub :=
  act_keeps e H (fun _ H2 => (keep_when (fun _ H4 => (Hub.lcDone_keeps B (wk.sub (by decide)) H4)) H2))

theorem execLimitLower_keeps {km : Nat} (B : Hub.Bears km P) (wk : Sub 0x40000040800280200000000000c000001000000101010100000000000000010000000000000000000100010402 km) {p : Fin 8} {s : State} {z : State} (e : (execLimitLower p s) = .next z) (H : P s.hub) : P z.hub :=
  act_keeps e H (fun _ H2 => (keep_when (fun _ H4 => (Hub.sourceReady_keeps B (wk.sub (by decide)) H4)) H2))

theorem execLinkEvent_keeps {km : Nat} (B : Hub.Bears km P) (wk : Sub 0x49808800000000000004000000000000000000000000000000000000100000000010000000000000000 km) {src : ℕ} {_tok : ℕ} {event : ℕ} {port : ℕ} {partner : ℕ} {_tid : ℕ} {_partnerId : ℕ} {cnt : ℕ} {s : State} {z : State} (e : (execLinkEvent src _tok event port partner _tid _partnerId cnt s) = .next z) (H : P s.hub) : P z.hub :=
  act_keeps e H (fun _ H2 => (keep_when (fun _ H4 => (keep_when (fun _ H6 => (Hub.repairEvent_keeps B (wk.sub (by decide)) H6)) (Hub.irq_keeps B (wk.sub (by decide)) H4))) H2))

theorem execLinkFrameReceived_keeps {km : Nat} (B : Hub.Bears km P) (wk : Sub 0xb987aa80200000000000c00060100000000000000000000000000001030200010f030000000100014402 km) {p : Fin 8} {phys : Fin 4} {f : LinkFrame} {s : State} {z : State} (e : (execLinkFrameReceived p phys f s) = .next z) (H : P s.hub) : P z.hub :=
  act_keeps e H (fun _ H2 => (keep_when (fun _ H4 => (Hub.frameIn_keeps B (wk.sub (by decide)) H4)) H2))

theorem execLktRd_keeps {km : Nat} (B : Hub.Bears km P) (wk : Sub 0x8000000000000000000000000000000000000000000000000000000000000000000000000000000 km) {src : ℕ} {tok : ℕ} {seq : ℕ} {s : State} {z : State} (e : (execLktRd src tok seq s) = .next z) (H : P s.hub) : P z.hub :=
  act_keeps e H (fun _ H2 => (keep_when (fun _ H4 => (by
    split
    · rename_i a5 a6 a7 a8 e9
      exact (Hub.ctlSend_keeps B (wk.sub (by decide)) H4))) H2))

theorem execLocalSupplyChange_keeps {km : Nat} (B : Hub.Bears km P) (wk : Sub 0x101010100000000000000000000000000000000000000000000 km) {pg : Bool} {s : State} {z : State} (e : (execLocalSupplyChange pg s) = .next z) (H : P s.hub) : P z.hub :=
  act_keeps e H (fun _ H2 => (keep_when (fun _ H4 => (Hub.refreshBus_keeps B (wk.sub (by decide)) (B.wr (wk.bit (by decide)) H4))) H2))

theorem execLocketWrite_keeps {km : Nat} (B : Hub.Bears km P) (wk : Sub 0x6800000000000004000000000000000000000000000000000010000000000000000000000000400 km) {storeOk : Bool} {s : State} {z : State} (e : (execLocketWrite storeOk s) = .next z) (H : P s.hub) : P z.hub :=
  act_keeps e H (fun _ H2 => (keep_when (fun _ H4 => (Hub.locketWrite_keeps B (wk.sub (by decide)) H4)) H2))

theorem execLowWordRead_keeps {km : Nat} (B : Hub.Bears km P) (wk : Sub 0x4128e0000000000004000000000000001010100010009010700030101000100000000000100006520 km) {r : Req} {addr : ℕ} {s : State} {z : State} (e : (execLowWordRead r addr s) = .next z) (H : P s.hub) : P z.hub :=
  act_keeps e H (fun _ H2 => (Hub.winRead_keeps B (wk.sub (by decide)) H2))

theorem execLpoDetect_keeps {km : Nat} (B : Hub.Bears km P) (wk : Sub 0x2800000000000004000000000000101010100000000000000010000000000000000000000000400 km) {n : Fin 8} {r100 : ℕ} {valid : Bool} {s : State} {z : State} (e : (execLpoDetect n r100 valid s) = .next z) (H : P s.hub) : P z.hub :=
  act_keeps e H (fun _ H2 => (keep_when (fun _ H4 => (Hub.lpoDetect_keeps B (wk.sub (by decide)) H4)) H2))

theorem execLumeFrameRx_keeps {km : Nat} (B : Hub.Bears km P) (wk : Sub 0x100000000000005fa80800000000000400000000000000000000000000400000001030100010b030000000000000404 km) {p : Fin 8} {fcsOk : Bool} {frame : Bytes} {s : State} {z : State} (e : (execLumeFrameRx p fcsOk frame s) = .next z) (H : P s.hub) : P z.hub :=
  act_keeps e H (fun _ H2 => (keep_when (fun _ H4 => (Hub.lumeRx_keeps B (wk.sub (by decide)) H4)) H2))

theorem execLumeFrameTx_keeps {km : Nat} (B : Hub.Bears km P) (wk : Sub 0x20000000000000000000000004000000000000000000000000004000000000000000000000000000000000000 km) {tid : ℕ} {frame : Bytes} {s : State} {z : State} (e : (execLumeFrameTx tid frame s) = .next z) (H : P s.hub) : P z.hub :=
  act_keeps e H (fun _ H2 => (keep_when (fun _ H4 => (Hub.lumeTx_keeps B (wk.sub (by decide)) H4)) H2))

theorem execMailbox_keeps {km : Nat} (B : Hub.Bears km P) (wk : Sub 0x4000000000000000000100000000000000000000000000000000000000010000 km) {p : Fin 8} {typ : ℕ} {len : ℕ} {payload : Bytes} {s : State} {z : State} (e : (execMailbox p typ len payload s) = .next z) (H : P s.hub) : P z.hub :=
  act_keeps e H (fun _ H2 => (keep_when (fun _ H4 => (keep_ite (keep_when (fun _ H6 => (Hub.cnt_keeps B (wk.bit (by decide)) H6)) H4) (keep_ite (Hub.mbxIn_keeps B (wk.sub (by decide)) H4) (keep_when (fun _ H8 => (Hub.cnt_keeps B (wk.bit (by decide)) H8)) H4)))) H2))

theorem execMainPgLoss_keeps {km : Nat} (B : Hub.Bears km P) (wk : Sub 0x1ff875c3dffbfffbb97a00000000000c000661000000101010100070004010701a3030200010f030000000100015d1f km) {s : State} {z : State} (e : (execMainPgLoss s) = .next z) (H : P s.hub) : P z.hub :=
  act_keeps e H (fun _ H2 => (keep_when (fun _ H4 => (Hub.enterSolitaire_keeps B (wk.sub (by decide)) H4)) (B.wr (wk.bit (by decide)) H2)))

theorem execMainPgRise_keeps {km : Nat} (B : Hub.Bears km P) (wk : Sub 0x11 km) {s : State} {z : State} (e : (execMainPgRise s) = .next z) (H : P s.hub) : P z.hub :=
  act_keeps e H (fun _ H2 => (keep_when (fun _ H4 => (Hub.refreshDomains_keeps B (wk.sub (by decide)) H4)) (B.wr (wk.bit (by decide)) H2)))

theorem execMcpuOpTimeout_keeps {km : Nat} (B : Hub.Bears km P) (wk : Sub 0x1000000000000000000000000000000000000000000000000000000000000000000000000000000000000000002000 km) {s : State} {z : State} (e : (execMcpuOpTimeout s) = .next z) (H : P s.hub) : P z.hub :=
  act_keeps e H (fun _ H2 => (keep_when (fun _ H4 => (Hub.mgpReply_keeps B (wk.sub (by decide)) (B.wr (wk.bit (by decide)) H4))) H2))

theorem execMemEnable_keeps {km : Nat} (B : Hub.Bears km P) (wk : Sub 0x10000029a0000000000004000000000000000000000000000010100010000000000000000000000000500 km) {r : Req} {en : Bool} {s : State} {z : State} (e : (execMemEnable r en s) = .next z) (H : P s.hub) : P z.hub :=
  act_keeps e H (fun _ H2 => (Hub.asReg_keeps B (wk.sub (by decide)) H2 (fun _ H4 => (Hub.memSetEn_keeps B (wk.sub (by decide)) H4))))

theorem execMemPromote_keeps {km : Nat} (B : Hub.Bears km P) (wk : Sub 0x10000000000000000000000000000000000 km) {level : ℕ} {s : State} {z : State} (e : (execMemPromote level s) = .next z) (H : P s.hub) : P z.hub :=
  act_keeps e H (fun _ H2 => (keep_when (fun _ H4 => (Hub.cnt_keeps B (wk.bit (by decide)) H4)) H2))

theorem execMemTrainDone_keeps {km : Nat} (B : Hub.Bears km P) (wk : Sub 0x2800000000000004000000000000000000000000000030100010000000000000000000000000400 km) {chOk : ℕ} {s : State} {z : State} (e : (execMemTrainDone chOk s) = .next z) (H : P s.hub) : P z.hub :=
  act_keeps e H (fun _ H2 => (keep_when (fun _ H4 => (Hub.memTrained_keeps B (wk.sub (by decide)) H4)) H2))

theorem execMemWipeDone_keeps {km : Nat} (B : Hub.Bears km P) (wk : Sub 0x100000000000000000000000000000000000000000010100000000000000000000000000000000 km) {ms : ℕ} {s : State} {z : State} (e : (execMemWipeDone ms s) = .next z) (H : P s.hub) : P z.hub :=
  act_keeps e H (fun _ H2 => (keep_when (fun _ H4 => (Hub.memWiped_keeps B (wk.sub (by decide)) H4)) H2))

theorem execMgpAddressMatch_keeps {km : Nat} (B : Hub.Bears km P) (wk : Sub 0x40000280200000000000c00002100000000000000000000001010001000000000000000000010001041a km) {addr : ℕ} {s : State} {z : State} (e : (execMgpAddressMatch addr s) = .next z) (H : P s.hub) : P z.hub :=
  act_keeps e H (fun _ H2 => (keep_when (fun _ H4 => (Hub.wake_keeps B (wk.sub (by decide)) (B.wr (wk.bit (by decide)) H4))) H2))

theorem execMr4Read_keeps {km : Nat} (B : Hub.Bears km P) (wk : Sub 0x2800000000000004000000000000000000000000000010000010000000000000000000000000400 km) {code : ℕ} {aboveRange : Bool} {s : State} {z : State} (e : (execMr4Read code aboveRange s) = .next z) (H : P s.hub) : P z.hub :=
  act_keeps e H (fun _ H2 => (keep_when (fun _ H4 => (keep_when (fun _ H6 => (Hub.raise_keeps B (wk.sub (by decide)) H6)) (B.wr (wk.bit (by decide)) H4))) H2))

theorem execMrd_keeps {km : Nat} (B : Hub.Bears km P) (wk : Sub 0x8820000002800000000000004000000000000000000000000000000300010000000000000000000000000400 km) {tid : ℕ} {src : ℕ} {c : TxbHdr} {s : State} {z : State} (e : (execMrd tid src c s) = .next z) (H : P s.hub) : P z.hub :=
  act_keeps e H (fun _ H2 => (keep_when (fun _ H4 => (Hub.txbDo_keeps B (wk.sub (by decide)) H4 (fun _ H6 => (by
    extract_lets +onlyGivenNames v7
    clear_value v7
    refine keep_ite ?_ ?_
    · exact (Hub.badOp_keeps B (wk.sub (by decide)) H6)
    · exact (keep_ite (Hub.cplSend_keeps B (wk.sub (by decide)) (Hub.cnt_keeps B (wk.bit (by decide)) H6)) (B.rdIn (wk.bit (by decide)) H6)))))) H2))

theorem execMsiCatch_keeps {km : Nat} (B : Hub.Bears km P) (wk : Sub 0x8020000002800000000000004000000000000000000000000000000300010000000000000000000000000400 km) {addr : ℕ} {data : ℕ} {s : State} {z : State} (e : (execMsiCatch addr data s) = .next z) (H : P s.hub) : P z.hub :=
  act_keeps e H (fun _ H2 => (keep_when (fun _ H4 => (Hub.busWrite_keeps B (wk.sub (by decide)) H4)) H2))

theorem execMwr_keeps {km : Nat} (B : Hub.Bears km P) (wk : Sub 0xa420000002800000000000004000000000000000000000000000000300010000000000000000000000000400 km) {tid : ℕ} {src : ℕ} {c : TxbHdr} {data : Bytes} {s : State} {z : State} (e : (execMwr tid src c data s) = .next z) (H : P s.hub) : P z.hub :=
  act_keeps e H (fun _ H2 => (keep_when (fun _ H4 => (Hub.txbDo_keeps B (wk.sub (by decide)) H4 (fun _ H6 => (keep_ite (Hub.badOp_keeps B (wk.sub (by decide)) H6) (Hub.mwrIn_keeps B (wk.sub (by decide)) H6))))) H2))

theorem execNakRetry_keeps {km : Nat} (B : Hub.Bears km P) (wk : Sub 0x100000000000000000000000000000000000000000000000040000000000000000000000000000000000000000 km) {slot : Fin 64} {s : State} {z : State} (e : (execNakRetry slot s) = .next z) (H : P s.hub) : P z.hub :=
  act_keeps e H (fun _ H2 => (keep_when (fun _ H4 => (by
    split
    · rename_i a5 a6 e7
      exact (Hub.cnt_keeps B (wk.bit (by decide)) (B.usbHeld (wk.bit (by decide)) H4))
    · rename_i a8 e9
      exact H4)) H2))

theorem execNeighbour_keeps {km : Nat} (B : Hub.Bears km P) (wk : Sub 0xc00000000007f88a808000000000004000480000000000000000000000000000010302000000030000000000000400 km) {p : Fin 8} {payload : Bytes} {s : State} {z : State} (e : (execNeighbour p payload s) = .next z) (H : P s.hub) : P z.hub :=
  act_keeps e H (fun _ H2 => (keep_when (fun _ H4 => (Hub.recount_keeps B (wk.sub (by decide)) (Hub.nbrChange_keeps B (wk.sub (by decide)) H4 (fun _ H6 => (Hub.neighbourIn_keeps B (wk.sub (by decide)) H6))))) H2))

theorem execNeighbourSend_keeps {km : Nat} (B : Hub.Bears km P) (wk : Sub 0x8000000000000000000000000000000000000000000000000000000100000000000000000000000000 km) {s : State} {z : State} (e : (execNeighbourSend s) = .next z) (H : P s.hub) : P z.hub :=
  act_keeps e H (fun _ H2 => (keep_when (fun _ H4 => (by
    extract_lets +onlyGivenNames v5
    have H6 : P v5 := (keep_each (fun _ _ H9 => (Hub.nbrSend_keeps B (wk.sub (by decide)) H9)) (Hub.refreshBest_keeps B (wk.sub (by decide)) H4))
    clear_value v5
    extract_lets +onlyGivenNames v10
    have H11 : P v10 := (keep_when (fun _ H13 => (Hub.countUp_keeps B (wk.sub (by decide)) H13)) H6)
    clear_value v10
    exact (keep_each (fun _ _ H16 => (Hub.grantSend_keeps B (wk.sub (by decide)) H16)) H11))) H2))

theorem execNodeReady_keeps {km : Nat} (B : Hub.Bears km P) (wk : Sub 0x40808000000000000004000000000000000000000000000000000000000000000010000000000000000 km) {src : ℕ} {_tok : ℕ} {info : NodeInfo} {s : State} {z : State} (e : (execNodeReady src _tok info s) = .next z) (H : P s.hub) : P z.hub :=
  act_keeps e H (fun _ H2 => (keep_when (fun _ H4 => (by
    extract_lets +onlyGivenNames v5
    have H6 : P v5 := (Hub.irq_keeps B (wk.sub (by decide)) (B.ready (wk.bit (by decide)) H4))
    clear_value v5
    exact (keep_when (fun _ H8 => (Hub.appoint_keeps B (wk.sub (by decide)) H8)) H6))) H2))

theorem execOffer_keeps {km : Nat} (B : Hub.Bears km P) (wk : Sub 0x40000040800280200000000000c000001000000101010100000000000000010000000000000000000100010402 km) {p : Fin 8} {tok : ℕ} {_vbus : ℕ} {imax : ℕ} {pwr : ℕ} {s : State} {z : State} (e : (execOffer p tok _vbus imax pwr s) = .next z) (H : P s.hub) : P z.hub :=
  act_keeps e H (fun _ H2 => (keep_when (fun _ H4 => (Hub.offerIn_keeps B (wk.sub (by decide)) (Hub.cnt_keeps B (wk.bit (by decide)) H4))) H2))

theorem execOpenSess_keeps {km : Nat} (B : Hub.Bears km P) (wk : Sub 0x1000000000000000000000000000004000000000000000000000000000000000000000000000000000000000002000 km) {seq : ℕ} {keyIdx : ℕ} {toolKey : Bytes} {s : State} {z : State} (e : (execOpenSess seq keyIdx toolKey s) = .next z) (H : P s.hub) : P z.hub :=
  act_keeps e H (fun _ H2 => (keep_when (fun _ H4 => (keep_ite (Hub.mgpReply_keeps B (wk.sub (by decide)) H4) (by
    extract_lets +onlyGivenNames v5
    have H6 : P v5 := (Hub.closeSession_keeps B (wk.sub (by decide)) H4)
    clear_value v5
    exact (keep_ite (Hub.mgpReply_keeps B (wk.sub (by decide)) (Hub.cnt_keeps B (wk.bit (by decide)) H6)) (Hub.mgpPend_keeps B (wk.sub (by decide)) (Hub.authStore_keeps B (wk.sub (by decide)) H6)))))) H2))

theorem execOrphanRelease_keeps {km : Nat} (B : Hub.Bears km P) (wk : Sub 0x1a800000000000004000000000000000000000000000000000010003000000030000000000000404 km) {idx : Fin 8192} {s : State} {z : State} (e : (execOrphanRelease idx s) = .next z) (H : P s.hub) : P z.hub :=
  act_keeps e H (fun _ H2 => (keep_when (fun _ H4 => (Hub.crtNotice_keeps B (wk.sub (by decide)) (Hub.irq_keeps B (wk.sub (by decide)) (Hub.raise_keeps B (wk.sub (by decide)) (Hub.cnt_keeps B (wk.bit (by decide)) (Hub.loadMeter_keeps B (wk.sub (by decide)) (Hub.setRec_keeps B (wk.sub (by decide)) H4))))))) H2))

theorem execOutboundRead_keeps {km : Nat} (B : Hub.Bears km P) (wk : Sub 0x83e0000002800000000000004000000000000000000000000000000300010000000000000000000000000400 km) {fromBus : Bool} {addr : ℕ} {len : ℕ} {ro : Bool} {ns : Bool} {s : State} {z : State} (e : (execOutboundRead fromBus addr len ro ns s) = .next z) (H : P s.hub) : P z.hub :=
  act_keeps e H (fun _ H2 => (keep_when (fun _ H4 => (Hub.txbDo_keeps B (wk.sub (by decide)) H4 (fun _ H6 => (Hub.outRead_keeps B (wk.sub (by decide)) H6)))) H2))

theorem execOutboundWrite_keeps {km : Nat} (B : Hub.Bears km P) (wk : Sub 0x8020000002800000000000004000000000000000000000000000000300010000000000000000000000000400 km) {fromBus : Bool} {addr : ℕ} {ro : Bool} {ns : Bool} {data : Bytes} {s : State} {z : State} (e : (execOutboundWrite fromBus addr ro ns data s) = .next z) (H : P s.hub) : P z.hub :=
  act_keeps e H (fun _ H2 => (keep_when (fun _ H4 => (keep_ite (Hub.busWrite_keeps B (wk.sub (by decide)) H4) (Hub.txbDo_keeps B (wk.sub (by decide)) H4 (fun _ H6 => (Hub.outWrite_keeps B (wk.sub (by decide)) H6))))) H2))

theorem execOverloadCheck_keeps {km : Nat} (B : Hub.Bears km P) (wk : Sub 0x2800000000000004000000000000101010100000000000000010000000000000000000000000400 km) {n : Fin 8} {pavg : ℕ} {vaavg : ℕ} {joules : ℕ} {s : State} {z : State} (e : (execOverloadCheck n pavg vaavg joules s) = .next z) (H : P s.hub) : P z.hub :=
  act_keeps e H (fun _ H2 => (keep_when (fun _ H4 => (Hub.overloadCheck_keeps B (wk.sub (by decide)) H4)) H2))

theorem execPathSilent_keeps {km : Nat} (B : Hub.Bears km P) (wk : Sub 0x8000000000000004000000000000000000000000000000000000300000000010000000000000000 km) {ctx : Fin 1024} {pathB : Bool} {s : State} {z : State} (e : (execPathSilent ctx pathB s) = .next z) (H : P s.hub) : P z.hub :=
  act_keeps e H (fun _ H2 => (keep_when (fun _ H4 => (Hub.pathSilent_keeps B (wk.sub (by decide)) H4)) H2))

theorem execPcieLinkChange_keeps {km : Nat} (B : Hub.Bears km P) (wk : Sub 0x2800000000000004000000000000000000000000000000700010000000000000000000000000400 km) {up : Bool} {speed : ℕ} {width : ℕ} {ltssm : ℕ} {s : State} {z : State} (e : (execPcieLinkChange up speed width ltssm s) = .next z) (H : P s.hub) : P z.hub :=
  act_keeps e H (fun _ H2 => (keep_when (fun _ H4 => (Hub.pcieLink_keeps B (wk.sub (by decide)) H4)) H2))

theorem execPcieMessage_keeps {km : Nat} (B : Hub.Bears km P) (wk : Sub 0x2800000000000004000000000000000000000000000000300010000000000000000000000000400 km) {m : PcieMsg} {s : State} {z : State} (e : (execPcieMessage m s) = .next z) (H : P s.hub) : P z.hub :=
  act_keeps e H (fun _ H2 => (keep_when (fun _ H4 => (Hub.pcieMsg_keeps B (wk.sub (by decide)) H4)) H2))

theorem execPdMessage_keeps {km : Nat} (B : Hub.Bears km P) (wk : Sub 0x940000000002808000000000004000000000000101010100070000000000a10000000000000000000000000400 km) {k : Fin 2} {m : PdMsg} {s : State} {z : State} (e : (execPdMessage k m s) = .next z) (H : P s.hub) : P z.hub :=
  act_keeps e H (fun _ H2 => (keep_when (fun _ H4 => (Hub.pdMessage_keeps B (wk.sub (by decide)) H4)) H2))

theorem execPendingTimeout_keeps {km : Nat} (B : Hub.Bears km P) (wk : Sub 0x80008000000000004000000000000000000000000000000000000200000000010000000000000000 km) {idx : Fin 8192} {s : State} {z : State} (e : (execPendingTimeout idx s) = .next z) (H : P s.hub) : P z.hub :=
  act_keeps e H (fun _ H2 => (keep_when (fun _ H4 => (Hub.irq_keeps B (wk.sub (by decide)) (Hub.cnt_keeps B (wk.bit (by decide)) (Hub.tunState_keeps B (wk.sub (by decide)) H4)))) H2))

theorem execPerr_keeps {km : Nat} (B : Hub.Bears km P) (wk : Sub 0x8000000002800000000000004000000000000000000000000000000300010000000000000000000000000400 km) {tid : ℕ} {src : ℕ} {c : TxbHdr} {s : State} {z : State} (e : (execPerr tid src c s) = .next z) (H : P s.hub) : P z.hub :=
  act_keeps e H (fun _ H2 => (keep_when (fun _ H4 => (Hub.txbDo_keeps B (wk.sub (by decide)) H4 (fun _ H6 => (Hub.unlessPoison_keeps B (wk.sub (by decide)) H6 (fun _ H8 => (Hub.perrIn_keeps B (wk.sub (by decide)) H8)))))) H2))

theorem execPerstChange_keeps {km : Nat} (B : Hub.Bears km P) (wk : Sub 0x2800000000000004000000000000000000000000000000700010000000000000000000000000400 km) {high : Bool} {s : State} {z : State} (e : (execPerstChange high s) = .next z) (H : P s.hub) : P z.hub :=
  act_keeps e H (fun _ H2 => (keep_when (fun _ H4 => (Hub.pcieHold_keeps B (wk.sub (by decide)) H4)) (B.wr (wk.bit (by decide)) H2)))

theorem execPgHoldExpiry_keeps {km : Nat} (B : Hub.Bears km P) (wk : Sub 0x4000000000000001000000000000000000000000000000000000000000000000 km) {n : Fin 8} {s : State} {z : State} (e : (execPgHoldExpiry n s) = .next z) (H : P s.hub) : P z.hub :=
  act_keeps e H (fun _ H2 => (keep_when (fun _ H4 => (Hub.setLpoPg_keeps B (wk.sub (by decide)) H4)) H2))

theorem execPllLock_keeps {km : Nat} (B : Hub.Bears km P) (wk : Sub 0x2800000000000004000000000000000000000000000000000030000000000000000000000000413 km) {pll : Fin 13} {s : State} {z : State} (e : (execPllLock pll s) = .next z) (H : P s.hub) : P z.hub :=
  act_keeps e H (fun _ H2 => (keep_when (fun _ H4 => (Hub.pllLocked_keeps B (wk.sub (by decide)) H4)) H2))

theorem execPllRelock_keeps {km : Nat} (B : Hub.Bears km P) (wk : Sub 0x3 km) {pll : Fin 13} {s : State} {z : State} (e : (execPllRelock pll s) = .next z) (H : P s.hub) : P z.hub :=
  act_keeps e H (fun _ H2 => (keep_when (fun _ H4 => (keep_when (fun _ H6 => (B.wr (wk.bit (by decide)) H6)) (B.wr (wk.bit (by decide)) (Hub.wrBit_keeps B (wk.bit (by decide)) (Hub.wrBit_keeps B (wk.bit (by decide)) H4))))) H2))

theorem execPllUnlock_keeps {km : Nat} (B : Hub.Bears km P) (wk : Sub 0x2800000000000004000000000000000000000000000000000010000000000000000000000000403 km) {pll : Fin 13} {s : State} {z : State} (e : (execPllUnlock pll s) = .next z) (H : P s.hub) : P z.hub :=
  act_keeps e H (fun _ H2 => (keep_when (fun _ H4 => (keep_when (fun _ H6 => (B.wr (wk.bit (by decide)) H6)) (Hub.raise_keeps B (wk.sub (by decide)) (Hub.wrBit_keeps B (wk.bit (by decide)) (Hub.wrBit_keeps B (wk.bit (by decide)) H4))))) H2))

theorem execPmAck_keeps {km : Nat} (B : Hub.Bears km P) (wk : Sub 0x4000000000000000000000000000000000000000000000000000000000010010 km) {p : Fin 8} {tok : ℕ} {status : ℕ} {state : ℕ} {s : State} {z : State} (e : (execPmAck p tok status state s) = .next z) (H : P s.hub) : P z.hub :=
  act_keeps e H (fun _ H2 => (keep_when (fun _ H4 => (Hub.pmAckIn_keeps B (wk.sub (by decide)) H4)) H2))

theorem execPmAckSend_keeps {km : Nat} (B : Hub.Bears km P) (wk : Sub 0x8000000000000000000000000000000000000000000000000000000000000000000000000000010000 km) {p : Fin 8} {s : State} {z : State} (e : (execPmAckSend p s) = .next z) (H : P s.hub) : P z.hub :=
  act_keeps e H (fun _ H2 => (keep_when (fun _ H4 => (Hub.pmAckOut_keeps B (wk.sub (by decide)) H4)) H2))

theorem execPmReq_keeps {km : Nat} (B : Hub.Bears km P) (wk : Sub 0x8000000000000000000000000000000000000000000000000000000000000000000000000000010000 km) {p : Fin 8} {tok : ℕ} {l2 : Bool} {s : State} {z : State} (e : (execPmReq p tok l2 s) = .next z) (H : P s.hub) : P z.hub :=
  act_keeps e H (fun _ H2 => (keep_when (fun _ H4 => (Hub.pmReqIn_keeps B (wk.sub (by decide)) H4)) H2))

theorem execPmReqSend_keeps {km : Nat} (B : Hub.Bears km P) (wk : Sub 0x8000000000000000000000000000000000000000000000000000000000000000000000000000010000 km) {p : Fin 8} {s : State} {z : State} (e : (execPmReqSend p s) = .next z) (H : P s.hub) : P z.hub :=
  act_keeps e H (fun _ H2 => (keep_when (fun _ H4 => (Hub.pmSend_keeps B (wk.sub (by decide)) H4)) H2))

theorem execPmTimeout_keeps {km : Nat} (B : Hub.Bears km P) (wk : Sub 0x2800000000000004000000000000000000000000000000000010000000000000000000000010410 km) {p : Fin 8} {s : State} {z : State} (e : (execPmTimeout p s) = .next z) (H : P s.hub) : P z.hub :=
  act_keeps e H (fun _ H2 => (keep_when (fun _ H4 => (Hub.raise_keeps B (wk.sub (by decide)) (Hub.pmRefused_keeps B (wk.sub (by decide)) H4))) H2))

theorem execPorRelease_keeps {km : Nat} (B : Hub.Bears km P) (wk : Sub 0x2800000000000004000000000000000000000000000000000010000000000000000000000002401 km) {straps : ℕ} {s : State} {z : State} (e : (execPorRelease straps s) = .next z) (H : P s.hub) : P z.hub :=
  act_keeps e H (fun _ H2 => (keep_when (fun _ H4 => (keep_when (fun _ H6 => (Hub.raise_keeps B (wk.sub (by decide)) H6)) (Hub.setStraps_keeps B (wk.sub (by decide)) H4))) H2))

theorem execPortFormTimer_keeps {km : Nat} (B : Hub.Bears km P) (wk : Sub 0x400000b8820280200000000000c000201000000000000100000000000000010000000000000000000100014402 km) {p : Fin 8} {s : State} {z : State} (e : (execPortFormTimer p s) = .next z) (H : P s.hub) : P z.hub :=
  act_keeps e H (fun _ H2 => (keep_when (fun _ H4 => (Hub.tryForm_keeps B (wk.sub (by decide)) (B.wr (wk.bit (by decide)) H4))) H2))

theorem execPortMapWrite_keeps {km : Nat} (B : Hub.Bears km P) (wk : Sub 0x28a0000000000004000000000000000000000000004000000010000000000000000000000000500 km) {r : Req} {v : ℕ} {s : State} {z : State} (e : (execPortMapWrite r v s) = .next z) (H : P s.hub) : P z.hub :=
  act_keeps e H (fun _ H2 => (Hub.asReg_keeps B (wk.sub (by decide)) H2 (fun _ H4 => (Hub.pmapApply_keeps B (wk.sub (by decide)) H4))))

theorem execPostedWriteIssue_keeps {km : Nat} (B : Hub.Bears km P) (wk : Sub 0x6420000002900000000000004000000000000000000000000000010100810000000000000000000000000500 km) {busOk : Bool} {s : State} {z : State} (e : (execPostedWriteIssue busOk s) = .next z) (H : P s.hub) : P z.hub :=
  act_keeps e H (fun _ H2 => (keep_when (fun _ H4 => (Hub.issueWrite_keeps B (wk.sub (by decide)) H4)) H2))

theorem execPowerOnReset_keeps {km : Nat} (B : Hub.Bears km P) (wk : Sub 0x80000000000000000000000000000000003f87fffffffffffb8fe00000000000c000842000000000000000000000000000010000000000010000000000001c0e km) {brownout : Bool} {s : State} {z : State} (e : (execPowerOnReset brownout s) = .next z) (H : P s.hub) : P z.hub :=
  act_keeps e H (fun _ H2 => (Hub.powerOn_keeps B (wk.sub (by decide)) H2))

theorem execPresetStep_keeps {km : Nat} (B : Hub.Bears km P) (wk : Sub 0x100000000 km) {l : Fin 32} {s : State} {z : State} (e : (execPresetStep l s) = .next z) (H : P s.hub) : P z.hub :=
  act_keeps e H (fun _ H2 => (keep_when (fun _ H4 => (Hub.stepPreset_keeps B (wk.sub (by decide)) H4)) H2))

theorem execPwaitTimeout_keeps {km : Nat} (B : Hub.Bears km P) (wk : Sub 0xd820000002800000000000004000000000000000000000000000010300810000000000000000000000000500 km) {s : State} {z : State} (e : (execPwaitTimeout s) = .next z) (H : P s.hub) : P z.hub :=
  act_keeps e H (fun _ H2 => (keep_when (fun _ H4 => (by
    split
    · rename_i a5 e6
      exact H4
    · rename_i a7 a8 e9
      exact (Hub.txbDo_keeps B (wk.sub (by decide)) H4 (fun _ H11 => (by
        extract_lets +onlyGivenNames v12
        have H13 : P v12 := (Hub.raise_keeps B (wk.sub (by decide)) (Hub.cnt_keeps B (wk.bit (by decide)) (B.wr (wk.bit (by decide)) H11)))
        clear_value v12
        exact (keep_ite (Hub.issueRead_keeps B (wk.sub (by decide)) (B.rdIn (wk.bit (by decide)) H13)) H13)))))) H2))

theorem execQcfgWrite_keeps {km : Nat} (B : Hub.Bears km P) (wk : Sub 0x28a0000000000004000000000000000000000000000000000010000000002000000000000000500 km) {r : Req} {v : ℕ} {s : State} {z : State} (e : (execQcfgWrite r v s) = .next z) (H : P s.hub) : P z.hub :=
  act_keeps e H (fun _ H2 => (Hub.asReg_keeps B (wk.sub (by decide)) H2 (fun _ H4 => (Hub.qcfgWrite_keeps B (wk.sub (by decide)) H4))))

theorem execQuarantineEnd_keeps {km : Nat} (B : Hub.Bears km P) (wk : Sub 0xe0000000000000000000000000000000000000000000000000000100000000000000000000000000000000 km) {t : Fin 1024} {s : State} {z : State} (e : (execQuarantineEnd t s) = .next z) (H : P s.hub) : P z.hub :=
  act_keeps e H (fun _ H2 => (keep_when (fun _ H4 => (by
    split
    · rename_i a5 a6 e7
      exact (keep_ite (Hub.retryReads_keeps B (wk.sub (by decide)) (B.tags (wk.bit (by decide)) H4)) H4)
    · rename_i a8 e9
      exact H4)) H2))

theorem execRampDone_keeps {km : Nat} (B : Hub.Bears km P) (wk : Sub 0x4000000000000101010100000000000000000000000000000000000000000000 km) {n : Fin 8} {s : State} {z : State} (e : (execRampDone n s) = .next z) (H : P s.hub) : P z.hub :=
  act_keeps e H (fun _ H2 => (keep_when (fun _ H4 => (Hub.setLpoPg_keeps B (wk.sub (by decide)) (Hub.setLpo_keeps B (wk.sub (by decide)) H4))) H2))

theorem execRampTimeout_keeps {km : Nat} (B : Hub.Bears km P) (wk : Sub 0x2800000000000004000000000000101010100000000000000010000000000000000000000000400 km) {n : Fin 8} {s : State} {z : State} (e : (execRampTimeout n s) = .next z) (H : P s.hub) : P z.hub :=
  act_keeps e H (fun _ H2 => (keep_when (fun _ H4 => (Hub.lpoTrip_keeps B (wk.sub (by decide)) (wk.bit (by decide)) H4)) H2))

theorem execRd_keeps {km : Nat} (B : Hub.Bears km P) (wk : Sub 0x8000000000000000000000000000000000ff87fffffffffffb9fe00000000000c001ffb00003010101010007000d030701a3030300010f03000000010001ffff km) {f : TsudyFrame} {s : State} {z : State} (e : (execRd f s) = .next z) (H : P s.hub) : P z.hub :=
  act_keeps e H (fun _ H2 => (keep_when (fun _ H4 => (Hub.sessionReq_keeps B (wk.sub (by decide)) H4 (fun _ H6 => (Hub.sessionWords_keeps B (wk.sub (by decide)) H6)))) H2))

theorem execReadIssue_keeps {km : Nat} (B : Hub.Bears km P) (wk : Sub 0x5820000002800000000000004000000000000000000000000000010100810000000000000000000000000500 km) {s z : State} (e : execReadIssue s = .next z) (H : P s.hub) : P z.hub :=
  act_keeps e H fun _ H => keep_when (fun _ H => by
    split
    · rename_i m h1 e
      exact Hub.issueRead_keeps B (wk.sub (by decide)) (Hub.takeRead_keeps B (wk.sub (by decide)) H _ _ e)
    · exact H) H

theorem execReady_keeps {km : Nat} (B : Hub.Bears km P) (wk : Sub 0x40800280200000000000c000001000000101010100000000000000010000000000000000000100010402 km) {p : Fin 8} {tok : ℕ} {icur : ℕ} {ilim : ℕ} {s : State} {z : State} (e : (execReady p tok icur ilim s) = .next z) (H : P s.hub) : P z.hub :=
  act_keeps e H (fun _ H2 => (keep_when (fun _ H4 => (Hub.readyIn_keeps B (wk.sub (by decide)) (Hub.cnt_keeps B (wk.bit (by decide)) H4))) H2))

theorem execRefLoss_keeps {km : Nat} (B : Hub.Bears km P) (wk : Sub 0x2800000000000004000000000000000000000000000000000010000000000000000000000000402 km) {s : State} {z : State} (e : (execRefLoss s) = .next z) (H : P s.hub) : P z.hub :=
  act_keeps e H (fun _ H2 => (Hub.raise_keeps B (wk.sub (by decide)) (B.wr (wk.bit (by decide)) H2)))

theorem execRegRd_keeps {km : Nat} (B : Hub.Bears km P) (wk : Sub 0x8000000000000000000000000000000000ff87fffffffffffb9fe00000000000c001ffb00003010101010007000d030701a3030300010f03000000010001ffff km) {src : ℕ} {tok : ℕ} {addr : ℕ} {count : ℕ} {s : State} {z : State} (e : (execRegRd src tok addr count s) = .next z) (H : P s.hub) : P z.hub :=
  act_keeps e H (fun _ H2 => (keep_when (fun _ H4 => (Hub.agentGo_keeps B (wk.sub (by decide)) H4)) H2))

theorem execRegRsp_keeps {km : Nat} (B : Hub.Bears km P) (wk : Sub 0xc00000000004f80a800000000000004000000000000000000000000000000000010100000000010000000000000400 km) {src : ℕ} {tok : ℕ} {status : ℕ} {failidx : ℕ} {count : ℕ} {data : List ℕ} {s : State} {z : State} (e : (execRegRsp src tok status failidx count data s) = .next z) (H : P s.hub) : P z.hub :=
  act_keeps e H (fun _ H2 => (keep_when (fun _ H4 => (keep_ite (by
    extract_lets +onlyGivenNames v5
    have H6 : P v5 := (B.wr (wk.bit (by decide)) (B.wr (wk.bit (by decide)) H4))
    clear_value v5
    extract_lets +onlyGivenNames v7
    have H8 : P v7 := (keep_when (fun _ H10 => (keep_each (fun _ _ H13 => (B.wr (wk.bitAt (kind_word_TUN_RRQ_DATA _) (by decide)) H13)) H10)) H6)
    clear_value v7
    extract_lets +onlyGivenNames v14
    have H15 : P v14 := (Hub.irq_keeps B (wk.sub (by decide)) (B.wr (wk.bit (by decide)) H8))
    clear_value v14
    exact (keep_ite (Hub.settleIn_keeps B (wk.sub (by decide)) (B.wr (wk.bit (by decide)) H15)) (Hub.settleGo_keeps B (wk.sub (by decide)) H15))) (keep_ite (Hub.takeAnswer_keeps B (wk.sub (by decide)) H4) (Hub.cnt_keeps B (wk.bit (by decide)) H4)))) H2))

theorem execRegWr_keeps {km : Nat} (B : Hub.Bears km P) (wk : Sub 0x8000000000000000000000000000000000ff87fffffffffffb9fe00000000000c001ffb00003010101010007000d030701a3030300010f03000000010001ffff km) {src : ℕ} {tok : ℕ} {addr : ℕ} {count : ℕ} {data : List ℕ} {s : State} {z : State} (e : (execRegWr src tok addr count data s) = .next z) (H : P s.hub) : P z.hub :=
  act_keeps e H (fun _ H2 => (keep_when (fun _ H4 => (Hub.agentGo_keeps B (wk.sub (by decide)) H4)) H2))

theorem execRegisterWrite_keeps {km : Nat} (B : Hub.Bears km P) (wk : Sub 0x8000000000000000000000000000000000ff87fffffffffffb9fe00000000000c001ffb00003010101010007000d030701a3030300010f03000000010001ffff km) {r : Req} {addr : ℕ} {size : ℕ} {v : ℕ} {s : State} {z : State} (e : (execRegisterWrite r addr size v s) = .next z) (H : P s.hub) : P z.hub :=
  act_keeps e H (fun _ H2 => (Hub.winWrite_keeps B (wk.sub (by decide)) H2))

theorem execReject_keeps {km : Nat} (B : Hub.Bears km P) (wk : Sub 0x400000000000000000000000000000000000000000000100000000000000000000000000000000000000000000 km) {p : Fin 8} {tok : ℕ} {_reason : ℕ} {s : State} {z : State} (e : (execReject p tok _reason s) = .next z) (H : P s.hub) : P z.hub :=
  act_keeps e H (fun _ H2 => (keep_when (fun _ H4 => (keep_when (fun _ H6 => (Hub.unask_keeps B (wk.sub (by decide)) H6)) (Hub.cnt_keeps B (wk.bit (by decide)) H4))) H2))

theorem execRelease_keeps {km : Nat} (B : Hub.Bears km P) (wk : Sub 0x1a800000000000004000000000000000000000000000000000010003000000030000000000000404 km) {src : ℕ} {tok : ℕ} {tid : ℕ} {txn : ℕ} {s : State} {z : State} (e : (execRelease src tok tid txn s) = .next z) (H : P s.hub) : P z.hub :=
  act_keeps e H (fun _ H2 => (keep_when (fun _ H4 => (by
    split
    · rename_i a5 a6 a7 e8
      have H9 := keep_fst e8 (by
          split
          · rename_i e10
            exact (keep_p1 H4)
          · rename_i e11
            split
            · rename_i a12 e13
              exact (keep_p1 (Hub.dropRec_keeps B (wk.sub (by decide)) H4))
            · rename_i a14 a15 e16
              exact (keep_p1 (Hub.lowerTo_keeps B (wk.sub (by decide)) H4)))
      exact (Hub.crtAnswer_keeps B (wk.sub (by decide)) H9))) H2))

theorem execRemoteWake_keeps {km : Nat} (B : Hub.Bears km P) (wk : Sub 0x40000000000000000000000004000000000000000000000070000000000000000000000000000000000000000 km) {port : ℕ} {s : State} {z : State} (e : (execRemoteWake port s) = .next z) (H : P s.hub) : P z.hub :=
  act_keeps e H (fun _ H2 => (keep_when (fun _ H4 => (Hub.remoteWake_keeps B (wk.sub (by decide)) H4)) H2))

theorem execRepair_keeps {km : Nat} (B : Hub.Bears km P) (wk : Sub 0x40000028a0000000000004000000000000000000000000000000000810000000000000000000000000500 km) {r : Req} {v : ℕ} {s : State} {z : State} (e : (execRepair r v s) = .next z) (H : P s.hub) : P z.hub :=
  act_keeps e H (fun _ H2 => (Hub.asReg_keeps B (wk.sub (by decide)) H2 (fun _ H4 => (Hub.repairWrite_keeps B (wk.sub (by decide)) H4))))

theorem execReplayTimeout_keeps {km : Nat} (B : Hub.Bears km P) (wk : Sub 0xb987aa80200000000000c00060100000000000000000000000000001030200010f030000000100014402 km) {p : Fin 8} {s : State} {z : State} (e : (execReplayTimeout p s) = .next z) (H : P s.hub) : P z.hub :=
  act_keeps e H (fun _ H2 => (keep_when (fun _ H4 => (by
    split
    · rename_i a5 e6
      exact H4
    · rename_i a7 a8 a9 e10
      exact (Hub.resendFrom_keeps B (wk.sub (by decide)) (Hub.cnt_keeps B (wk.bit (by decide)) H4)))) H2))

theorem execReq_keeps {km : Nat} (B : Hub.Bears km P) (wk : Sub 0x140000000002808000000000004000000000000000000000040000000000010000000000000000000000000400 km) {tid : ℕ} {q : UsbReq} {data : Bytes} {s : State} {z : State} (e : (execReq tid q data s) = .next z) (H : P s.hub) : P z.hub :=
  act_keeps e H (fun _ H2 => (keep_when (fun _ H4 => (keep_ite (Hub.stray_keeps B (wk.sub (by decide)) H4) (keep_when (fun _ H6 => (Hub.reqIn_keeps B (wk.sub (by decide)) H6)) H4))) H2))

theorem execRequest_keeps {km : Nat} (B : Hub.Bears km P) (wk : Sub 0x40000040800280200000000000c000001000000101010100000000000000010000000000000000000100010402 km) {p : Fin 8} {tok : ℕ} {ireq : ℕ} {pwr : ℕ} {arm : Bool} {s : State} {z : State} (e : (execRequest p tok ireq pwr arm s) = .next z) (H : P s.hub) : P z.hub :=
  act_keeps e H (fun _ H2 => (keep_when (fun _ H4 => (Hub.requestIn_keeps B (wk.sub (by decide)) (Hub.cnt_keeps B (wk.bit (by decide)) H4))) H2))

theorem execReserve_keeps {km : Nat} (B : Hub.Bears km P) (wk : Sub 0x1a800000000000004000000000000000000000000000000000010003000000030000000000000404 km) {src : ℕ} {tok : ℕ} {tid : ℕ} {txn : ℕ} {amount : ℕ} {egress : ℕ} {s : State} {z : State} (e : (execReserve src tok tid txn amount egress s) = .next z) (H : P s.hub) : P z.hub :=
  act_keeps e H (fun _ H2 => (keep_when (fun _ H4 => (by
    split
    · rename_i a5 a6 a7 e8
      have H9 := keep_fst e8 (by
          split
          · rename_i e10
            exact (keep_p1 H4)
          · rename_i e11
            split
            · rename_i a12 e13
              exact (keep_p1 H4)
            · rename_i a14 a15 e16
              split
              · rename_i e17
                exact (keep_p1 H4)
              · rename_i e18
                exact (Hub.reserveAt_keeps B (wk.sub (by decide)) H4))
      exact (Hub.crtAnswer_keeps B (wk.sub (by decide)) H9))) H2))

theorem execResponseRead_keeps {km : Nat} (B : Hub.Bears km P) (wk : Sub 0x2000000000000000000000000000000000000000000000000000000000000000000000000000000000000000000000 km) {s : State} {z : State} (e : (execResponseRead s) = .next z) (H : P s.hub) : P z.hub :=
  act_keeps e H (fun _ H2 => (keep_when (fun _ H4 => (B.mgpRead (wk.bit (by decide)) H4)) H2))

theorem execRetireReceived_keeps {km : Nat} (B : Hub.Bears km P) (wk : Sub 0xb987aa80200000000000c00060100000000000000000000000000001030200010f030000000100014402 km) {p : Fin 8} {block : ℕ} {s : State} {z : State} (e : (execRetireReceived p block s) = .next z) (H : P s.hub) : P z.hub :=
  act_keeps e H (fun _ H2 => (keep_when (fun _ H4 => (keep_ite (Hub.eidleDue_keeps B (wk.sub (by decide)) (Hub.retireIn_keeps B (wk.sub (by decide)) H4)) (Hub.cnt_keeps B (wk.bit (by decide)) H4))) H2))

theorem execRetireSend_keeps {km : Nat} (B : Hub.Bears km P) (wk : Sub 0xf987aa80200000000000c00060100000000000000000000000000001030200010f030000000100014402 km) {p : Fin 8} {s : State} {z : State} (e : (execRetireSend p s) = .next z) (H : P s.hub) : P z.hub :=
  act_keeps e H (fun _ H2 => (keep_when (fun _ H4 => (Hub.eidleDue_keeps B (wk.sub (by decide)) (Hub.sendRetire_keeps B (wk.sub (by decide)) H4))) H2))

theorem execRingEnable_keeps {km : Nat} (B : Hub.Bears km P) (wk : Sub 0x28a8000000000004000000000000000000000000000000000a10000000000000000000000000500 km) {r : Req} {w : Writer} {s : State} {z : State} (e : (execRingEnable r w s) = .next z) (H : P s.hub) : P z.hub :=
  act_keeps e H (fun _ H2 => (by
    split
    · rename_i a3 a4
      exact (Hub.asReg_keeps B (wk.sub (by decide)) H2 (fun _ H6 => (Hub.enableRing_keeps B (wk.sub (by decide)) H6)))
    · rename_i a7 a8
      extract_lets +onlyGivenNames v9
      have w10 : km.testBit v9.kind = true := (kind_ite (wk.bit (by decide)) (wk.bit (by decide)))
      clear_value v9
      exact (Hub.asReg_keeps B (wk.sub (by decide)) H2 (fun _ H12 => (Hub.enableRing_keeps B (wk.sub (by decide)) H12)))
    · rename_i a13 a14
      exact (Hub.asReg_keeps B (wk.sub (by decide)) H2 (fun _ H16 => (Hub.enableRing_keeps B (wk.sub (by decide)) H16)))
    · rename_i a17 a18
      exact (Hub.asReg_keeps B (wk.sub (by decide)) H2 (fun _ H20 => (Hub.enableRing_keeps B (wk.sub (by decide)) H20)))))

theorem execRingFillDone_keeps {km : Nat} (B : Hub.Bears km P) (wk : Sub 0x2000000108000000000000000000000000000000000000000010000800000000000000000000000000000 km) {w : Writer} {s : State} {z : State} (e : (execRingFillDone w s) = .next z) (H : P s.hub) : P z.hub :=
  act_keeps e H (fun _ H2 => (keep_when (fun _ H4 => (keep_ite (Hub.fillDone_keeps B (wk.sub (by decide)) H4) (Hub.notReady_keeps B (wk.sub (by decide)) H4))) H2))

theorem execRouteGenSwitch_keeps {km : Nat} (B : Hub.Bears km P) (wk : Sub 0x28a0000000000004000000000000000000000000000000000010000000000020000000000000500 km) {r : Req} {v : ℕ} {s : State} {z : State} (e : (execRouteGenSwitch r v s) = .next z) (H : P s.hub) : P z.hub :=
  act_keeps e H (fun _ H2 => (Hub.asReg_keeps B (wk.sub (by decide)) H2 (fun _ H4 => (B.wr (wk.bit (by decide)) H4))))

theorem execRouteSet_keeps {km : Nat} (B : Hub.Bears km P) (wk : Sub 0x8008000000000000000000000000000000000000000000000000000000000020000000000000000 km) {src : ℕ} {tok : ℕ} {first : ℕ} {cnt : ℕ} {port : ℕ} {down : Bool} {valid : Bool} {tier : ℕ} {s : State} {z : State} (e : (execRouteSet src tok first cnt port down valid tier s) = .next z) (H : P s.hub) : P z.hub :=
  act_keeps e H (fun _ H2 => (keep_when (fun _ H4 => (keep_ite (Hub.casAck_keeps B (wk.sub (by decide)) H4) (keep_ite (Hub.casAck_keeps B (wk.sub (by decide)) H4) (Hub.casAck_keeps B (wk.sub (by decide)) (Hub.reroute_keeps B (wk.sub (by decide)) H4 (fun _ _ H7 => (keep_each (fun _ _ H10 => (Hub.setRoute_keeps B (wk.sub (by decide)) H10)) H7))))))) H2))

theorem execRrqTimeout_keeps {km : Nat} (B : Hub.Bears km P) (wk : Sub 0xc00000000000780a800000000000004000000000000000000000000000000000010100000000010000000000000400 km) {s : State} {z : State} (e : (execRrqTimeout s) = .next z) (H : P s.hub) : P z.hub :=
  act_keeps e H (fun _ H2 => (keep_when (fun _ H4 => (by
    extract_lets +onlyGivenNames v5
    have H6 : P v5 := (Hub.raise_keeps B (wk.sub (by decide)) (B.wr (wk.bit (by decide)) (B.wr (wk.bit (by decide)) H4)))
    clear_value v5
    exact (keep_ite (Hub.settleIn_keeps B (wk.sub (by decide)) (B.wr (wk.bit (by decide)) H6)) (Hub.settleGo_keeps B (wk.sub (by decide)) H6)))) H2))

theorem execSbrd_keeps {km : Nat} (B : Hub.Bears km P) (wk : Sub 0x8020000002800000000000004000000000000000000000000000000300010000000000000000000000000400 km) {tid : ℕ} {c : TxbHdr} {s : State} {z : State} (e : (execSbrd tid c s) = .next z) (H : P s.hub) : P z.hub :=
  act_keeps e H (fun _ H2 => (keep_when (fun _ H4 => (Hub.txbDo_keeps B (wk.sub (by decide)) H4 (fun _ H6 => (Hub.unlessPoison_keeps B (wk.sub (by decide)) H6 (fun _ H8 => (Hub.pollIn_keeps B (wk.sub (by decide)) H8)))))) H2))

theorem execSbrsp_keeps {km : Nat} (B : Hub.Bears km P) (wk : Sub 0x8000000002800000000000004000000000000000000000000000000300010000000000000000000000000400 km) {_tid : ℕ} {c : TxbHdr} {sbstat : ℕ} {catchBits : ℕ} {s : State} {z : State} (e : (execSbrsp _tid c sbstat catchBits s) = .next z) (H : P s.hub) : P z.hub :=
  act_keeps e H (fun _ H2 => (keep_when (fun _ H4 => (Hub.txbDo_keeps B (wk.sub (by decide)) H4 (fun _ H6 => (Hub.unlessPoison_keeps B (wk.sub (by decide)) H6 (fun _ H8 => (Hub.pollReply_keeps B (wk.sub (by decide)) H8)))))) H2))

theorem execSceneEntry_keeps {km : Nat} (B : Hub.Bears km P) (wk : Sub 0x4000000000000000000000000004000000000000000000000000000000000000 km) {p : Fin 8} {s : State} {z : State} (e : (execSceneEntry p s) = .next z) (H : P s.hub) : P z.hub :=
  act_keeps e H (fun _ H2 => (keep_when (fun _ H4 => (Hub.lumeMode_keeps B (wk.sub (by decide)) H4)) H2))

theorem execSceneRepeat_keeps {km : Nat} (B : Hub.Bears km P) (wk : Sub 0x20000000000000000000000000000000000000000000000000004000000000000000000000000000000000000 km) {p : Fin 8} {s : State} {z : State} (e : (execSceneRepeat p s) = .next z) (H : P s.hub) : P z.hub :=
  act_keeps e H (fun _ H2 => (keep_when (fun _ H4 => (Hub.sceneSend_keeps B (wk.sub (by decide)) H4)) H2))

theorem execScrubForcedEntry_keeps {km : Nat} (B : Hub.Bears km P) (wk : Sub 0x1000000000000000000 km) {bank : Fin 64} {s : State} {z : State} (e : (execScrubForcedEntry bank s) = .next z) (H : P s.hub) : P z.hub :=
  act_keeps e H (fun _ H2 => (keep_when (fun _ H4 => (B.wr (wk.bit (by decide)) (B.wr (wk.bit (by decide)) H4))) H2))

theorem execScrubSlot_keeps {km : Nat} (B : Hub.Bears km P) (wk : Sub 0x52280000000000000400000000000000000000000000000000001000000010b000000000000000400 km) {bank : Fin 64} {idle : Bool} {flips : ℕ} {writtenMeanwhile : Bool} {s : State} {z : State} (e : (execScrubSlot bank idle flips writtenMeanwhile s) = .next z) (H : P s.hub) : P z.hub :=
  act_keeps e H (fun _ H2 => (keep_when (fun _ H4 => (keep_when (fun _ H6 => (B.wr (wk.bit (by decide)) H6)) (keep_when (fun _ H8 => (Hub.scrubPass_keeps B (wk.sub (by decide)) (Hub.scrubRead_keeps B (wk.sub (by decide)) (B.wr (wk.bit (by decide)) H8)))) H4))) H2))

theorem execSeal_keeps {km : Nat} (B : Hub.Bears km P) (wk : Sub 0x28a0000000000004000000000000000000000000000000000010000000000000000000000004500 km) {r : Req} {v : ℕ} {s : State} {z : State} (e : (execSeal r v s) = .next z) (H : P s.hub) : P z.hub :=
  act_keeps e H (fun _ H2 => (Hub.keyCmd_keeps B (wk.sub (by decide)) H2))

theorem execSessionIdle_keeps {km : Nat} (B : Hub.Bears km P) (wk : Sub 0x4000000000000000000000000000000000000000000000000000000000002000 km) {s : State} {z : State} (e : (execSessionIdle s) = .next z) (H : P s.hub) : P z.hub :=
  act_keeps e H (fun _ H2 => (keep_when (fun _ H4 => (Hub.closeSession_keeps B (wk.sub (by decide)) H4)) H2))

theorem execSetup_keeps {km : Nat} (B : Hub.Bears km P) (wk : Sub 0x200000000000800000000000004000000000000000000000020000000000000000000000000000000000000000 km) {bytes : Bytes} {s : State} {z : State} (e : (execSetup bytes s) = .next z) (H : P s.hub) : P z.hub :=
  act_keeps e H (fun _ H2 => (keep_when (fun _ H4 => (Hub.setupIn_keeps B (wk.sub (by decide)) H4)) H2))

theorem execSfAssert_keeps {km : Nat} (B : Hub.Bears km P) (wk : Sub 0x100000000000000000000000000000000000000000000 km) {p : Fin 8} {s : State} {z : State} (e : (execSfAssert p s) = .next z) (H : P s.hub) : P z.hub :=
  act_keeps e H (fun _ H2 => (keep_when (fun _ H4 => (Hub.refreshSf_keeps B (wk.sub (by decide)) H4)) H2))

theorem execSfHandover_keeps {km : Nat} (B : Hub.Bears km P) (wk : Sub 0x101010100000000000000000000000000000000000000000000 km) {p : Fin 8} {s : State} {z : State} (e : (execSfHandover p s) = .next z) (H : P s.hub) : P z.hub :=
  act_keeps e H (fun _ H2 => (keep_when (fun _ H4 => (Hub.yieldCable_keeps B (wk.sub (by decide)) H4)) H2))

theorem execShedClear_keeps {km : Nat} (B : Hub.Bears km P) (wk : Sub 0x4000000000000101010100000000000000000000000000000000000000000000 km) {mv : ℕ} {s : State} {z : State} (e : (execShedClear mv s) = .next z) (H : P s.hub) : P z.hub :=
  act_keeps e H (fun _ H2 => (keep_when (fun _ H4 => (Hub.refreshBus_keeps B (wk.sub (by decide)) (Hub.irq_keeps B (wk.sub (by decide)) (B.wr (wk.bit (by decide)) (Hub.busMeasure_keeps B (wk.sub (by decide)) H4))))) H2))

theorem execSidebandPoll_keeps {km : Nat} (B : Hub.Bears km P) (wk : Sub 0x8020000002800000000000004000000000000000000000000000000300010000000000000000000000000400 km) {s : State} {z : State} (e : (execSidebandPoll s) = .next z) (H : P s.hub) : P z.hub :=
  act_keeps e H (fun _ H2 => (keep_when (fun _ H4 => (Hub.pollSend_keeps B (wk.sub (by decide)) H4)) H2))

theorem execSignalAbsent_keeps {km : Nat} (B : Hub.Bears km P) (wk : Sub 0x280200000000000c000001000000000000000000000000000010000000000000000000100010402 km) {l : Fin 32} {s : State} {z : State} (e : (execSignalAbsent l s) = .next z) (H : P s.hub) : P z.hub :=
  act_keeps e H (fun _ H2 => (keep_when (fun _ H4 => (Hub.toDetect_keeps B (wk.sub (by decide)) (B.wr (wk.bit (by decide)) H4))) H2))

theorem execSignalDetect_keeps {km : Nat} (B : Hub.Bears km P) (wk : Sub 0x280200000000000c000001000000000000000000000000000010000000000000000000100000402 km) {l : Fin 32} {s : State} {z : State} (e : (execSignalDetect l s) = .next z) (H : P s.hub) : P z.hub :=
  act_keeps e H (fun _ H2 => (keep_when (fun _ H4 => (Hub.setLane_keeps B (wk.sub (by decide)) (Hub.cnt_keeps B (wk.bit (by decide)) (B.wr (wk.bit (by decide)) (Hub.freshLock_keeps B (wk.sub (by decide)) H4))))) H2))

theorem execSignaturesReady_keeps {km : Nat} (B : Hub.Bears km P) (wk : Sub 0x8000000000000000000000000000000000000000010000800000000000000000000000000000 km) {w : Fin 64} {s : State} {z : State} (e : (execSignaturesReady w s) = .next z) (H : P s.hub) : P z.hub :=
  act_keeps e H (fun _ H2 => (keep_when (fun _ H4 => (keep_ite (Hub.hostCommit_keeps B (wk.sub (by decide)) H4) (Hub.notReady_keeps B (wk.sub (by decide)) H4))) H2))

theorem execSkipReceived_keeps {km : Nat} (B : Hub.Bears km P) (wk : Sub 0x10000 km) {p : Fin 8} {level : ℕ} {s : State} {z : State} (e : (execSkipReceived p level s) = .next z) (H : P s.hub) : P z.hub :=
  act_keeps e H (fun _ H2 => (keep_when (fun _ H4 => (B.wr (wk.bit (by decide)) H4)) H2))

theorem execSlotEntryWrite_keeps {km : Nat} (B : Hub.Bears km P) (wk : Sub 0x28b8000000000004000000000000000000000000000000000210000000000000000000000000500 km) {r : Req} {idx : Fin 256} {v : ℕ} {s : State} {z : State} (e : (execSlotEntryWrite r idx v s) = .next z) (H : P s.hub) : P z.hub :=
  act_keeps e H (fun _ H2 => (Hub.asWrite_keeps B (wk.sub (by decide)) H2 (fun _ H4 => (Hub.clearStaging_keeps B (wk.sub (by decide)) (Hub.slotReplace_keeps B (wk.sub (by decide)) H4)))))

theorem execSlotLock_keeps {km : Nat} (B : Hub.Bears km P) (wk : Sub 0x28a0000000000004000000000000000000000000000000000010000000000000000000000004500 km) {r : Req} {v : ℕ} {s : State} {z : State} (e : (execSlotLock r v s) = .next z) (H : P s.hub) : P z.hub :=
  act_keeps e H (fun _ H2 => (Hub.asGo_keeps B (wk.sub (by decide)) H2 (fun _ H4 => (Hub.lockSlots_keeps B (wk.sub (by decide)) H4))))

theorem execSmbusTimeout_keeps {km : Nat} (B : Hub.Bears km P) (wk : Sub 0x2800000000000004000000000000000000000000000000000010000000000000000000000002400 km) {s : State} {z : State} (e : (execSmbusTimeout s) = .next z) (H : P s.hub) : P z.hub :=
  act_keeps e H (fun _ H2 => (keep_when (fun _ H4 => (Hub.raise_keeps B (wk.sub (by decide)) (Hub.cnt_keeps B (wk.bit (by decide)) H4))) H2))

theorem execSoftReset_keeps {km : Nat} (B : Hub.Bears km P) (wk : Sub 0xf7865c3ddfbfffbb8aa00000000000c000603000000101010100070000010701a3030200010f030000000100015d1f km) {r : Req} {pg : ℕ} {s : State} {z : State} (e : (execSoftReset r pg s) = .next z) (H : P s.hub) : P z.hub :=
  act_keeps e H (fun _ H2 => (Hub.asWrite_keeps B (wk.sub (by decide)) H2 (fun _ H4 => (Hub.softReset_keeps B (wk.sub (by decide)) H4))))

theorem execSoftResetDone_keeps {km : Nat} (B : Hub.Bears km P) (wk : Sub 0x280200000000000c000003000000000000000000000010100030000000000000000000100010412 km) {pg : ℕ} {s : State} {z : State} (e : (execSoftResetDone pg s) = .next z) (H : P s.hub) : P z.hub :=
  act_keeps e H (fun _ H2 => (keep_when (fun _ H4 => (Hub.softDone_keeps B (wk.sub (by decide)) H4)) H2))

theorem execSrcOff_keeps {km : Nat} (B : Hub.Bears km P) (wk : Sub 0x40000040800280200000000000c000001000000101010100000000000000010000000000000000000100010402 km) {p : Fin 8} {tok : ℕ} {s : State} {z : State} (e : (execSrcOff p tok s) = .next z) (H : P s.hub) : P z.hub :=
  act_keeps e H (fun _ H2 => (keep_when (fun _ H4 => (Hub.srcOffIn_keeps B (wk.sub (by decide)) (Hub.cnt_keeps B (wk.bit (by decide)) H4))) H2))

theorem execSrcOn_keeps {km : Nat} (B : Hub.Bears km P) (wk : Sub 0x40000040800280200000000000c000001000000101010100000000000000010000000000000000000100010402 km) {p : Fin 8} {tok : ℕ} {fast : Bool} {s : State} {z : State} (e : (execSrcOn p tok fast s) = .next z) (H : P s.hub) : P z.hub :=
  act_keeps e H (fun _ H2 => (keep_when (fun _ H4 => (Hub.srcOnIn_keeps B (wk.sub (by decide)) (Hub.cnt_keeps B (wk.bit (by decide)) H4))) H2))

theorem execStandby_keeps {km : Nat} (B : Hub.Bears km P) (wk : Sub 0x400000000000c008000000000000000000000000000000000000000000000000000100000000000000000000000000 km) {src : ℕ} {tok : ℕ} {appoint : Bool} {epoch : ℕ} {s : State} {z : State} (e : (execStandby src tok appoint epoch s) = .next z) (H : P s.hub) : P z.hub :=
  act_keeps e H (fun _ H2 => (keep_when (fun _ H4 => (keep_ite (Hub.casAck_keeps B (wk.sub (by decide)) H4) (keep_ite (Hub.casAck_keeps B (wk.sub (by decide)) H4) (by
    extract_lets +onlyGivenNames v5
    have H6 : P v5 := (Hub.nbrChange_keeps B (wk.sub (by decide)) H4 (fun _ H8 => (B.wr (wk.bit (by decide)) H8)))
    clear_value v5
    exact (Hub.casAck_keeps B (wk.sub (by decide)) (B.wr (wk.bit (by decide)) (keep_ite H6 (B.set_paths_intents (wk.bit (by decide)) (wk.bit (by decide)) H6)))))))) H2))

theorem execStatus_keeps {km : Nat} (B : Hub.Bears km P) (wk : Sub 0x400000000000000000000000000000000000000000000100000000000000000000000000000000000000000000 km) {p : Fin 8} {tok : ℕ} {_vbus : ℕ} {_vcable : ℕ} {_icable : ℕ} {pwr : ℕ} {role : ℕ} {s : State} {z : State} (e : (execStatus p tok _vbus _vcable _icable pwr role s) = .next z) (H : P s.hub) : P z.hub :=
  act_keeps e H (fun _ H2 => (keep_when (fun _ H4 => (keep_when (fun _ H6 => (Hub.unask_keeps B (wk.sub (by decide)) H6)) (B.wr (wk.bit (by decide)) (Hub.loadPwr_keeps B (wk.sub (by decide)) (Hub.cnt_keeps B (wk.bit (by decide)) H4))))) H2))

theorem execStatusReq_keeps {km : Nat} (B : Hub.Bears km P) (wk : Sub 0x40800280200000000000c000001000000000000100000000000000010000000000000000000100010402 km) {p : Fin 8} {tok : ℕ} {s : State} {z : State} (e : (execStatusReq p tok s) = .next z) (H : P s.hub) : P z.hub :=
  act_keeps e H (fun _ H2 => (keep_when (fun _ H4 => (by
    extract_lets +onlyGivenNames v5
    have H6 : P v5 := (Hub.claspMeasure_keeps B (wk.sub (by decide)) (Hub.cnt_keeps B (wk.bit (by decide)) H4))
    clear_value v5
    exact (Hub.claspSay_keeps B (wk.sub (by decide)) H6))) H2))

theorem execStreamSendFrame_keeps {km : Nat} (B : Hub.Bears km P) (wk : Sub 0x1400000000a000000000000000001000000000000000000000010000800000000000000000000000000000 km) {st : Fin 64} {s : State} {z : State} (e : (execStreamSendFrame st s) = .next z) (H : P s.hub) : P z.hub :=
  act_keeps e H (fun _ H2 => (keep_when (fun _ H4 => (keep_ite (Hub.sendNext_keeps B (wk.sub (by decide)) H4) (Hub.notReady_keeps B (wk.sub (by decide)) H4))) H2))

theorem execSwapAck_keeps {km : Nat} (B : Hub.Bears km P) (wk : Sub 0x400000000000000000000000004000000000000101010100000000000000000000000000000000000000000000 km) {p : Fin 8} {tok : ℕ} {pwr : ℕ} {s : State} {z : State} (e : (execSwapAck p tok pwr s) = .next z) (H : P s.hub) : P z.hub :=
  act_keeps e H (fun _ H2 => (keep_when (fun _ H4 => (keep_when (fun _ H6 => (Hub.swapStart_keeps B (wk.sub (by decide)) (Hub.unask_keeps B (wk.sub (by decide)) H6))) (Hub.loadPwr_keeps B (wk.sub (by decide)) (Hub.cnt_keeps B (wk.bit (by decide)) H4)))) H2))

theorem execSwapNak_keeps {km : Nat} (B : Hub.Bears km P) (wk : Sub 0x400000000000000000000000000000000000000000000100000000000000000000000000000000000000000000 km) {p : Fin 8} {tok : ℕ} {_reason : ℕ} {s : State} {z : State} (e : (execSwapNak p tok _reason s) = .next z) (H : P s.hub) : P z.hub :=
  act_keeps e H (fun _ H2 => (keep_when (fun _ H4 => (keep_when (fun _ H6 => (Hub.unask_keeps B (wk.sub (by decide)) H6)) (Hub.cnt_keeps B (wk.bit (by decide)) (Hub.cnt_keeps B (wk.bit (by decide)) H4)))) H2))

theorem execSwapReq_keeps {km : Nat} (B : Hub.Bears km P) (wk : Sub 0x40000040800280200000000000c000001000000101010100000000000000010000000000000000000100010402 km) {p : Fin 8} {tok : ℕ} {pwr : ℕ} {s : State} {z : State} (e : (execSwapReq p tok pwr s) = .next z) (H : P s.hub) : P z.hub :=
  act_keeps e H (fun _ H2 => (keep_when (fun _ H4 => (Hub.swapReqIn_keeps B (wk.sub (by decide)) (Hub.cnt_keeps B (wk.bit (by decide)) H4))) H2))

theorem execSyncLimit_keeps {km : Nat} (B : Hub.Bears km P) (wk : Sub 0xb987aa80200000000000c00060100000000000000000000000000001030200010f030000000100014402 km) {l : Fin 32} {n : ℕ} {s : State} {z : State} (e : (execSyncLimit l n s) = .next z) (H : P s.hub) : P z.hub :=
  act_keeps e H (fun _ H2 => (keep_when (fun _ H4 => (keep_when (fun _ H6 => (Hub.retireLane_keeps B (wk.sub (by decide)) H6)) (keep_when (fun _ H8 => (B.wr (wk.bit (by decide)) H8)) (Hub.cntN_keeps B (wk.bit (by decide)) H4)))) H2))

theorem execT1lLinkChange_keeps {km : Nat} (B : Hub.Bears km P) (wk : Sub 0x2800000000000004000000000000000000000000008000000010000000000000000000000000400 km) {p : Fin 8} {up : Bool} {hi : Bool} {master : Bool} {sqi : ℕ} {anFail : Bool} {s : State} {z : State} (e : (execT1lLinkChange p up hi master sqi anFail s) = .next z) (H : P s.hub) : P z.hub :=
  act_keeps e H (fun _ H2 => (keep_when (fun _ H4 => (by
    extract_lets +onlyGivenNames v5
    clear_value v5
    extract_lets +onlyGivenNames v6
    clear_value v6
    extract_lets +onlyGivenNames v7
    have H8 : P v7 := (B.wr (wk.bit (by decide)) (B.wr (wk.bit (by decide)) (B.wr (wk.bit (by decide)) (B.wr (wk.bit (by decide)) H4))))
    clear_value v7
    extract_lets +onlyGivenNames v9
    have H10 : P v9 := (keep_when (fun _ H12 => (Hub.raise_keeps B (wk.sub (by decide)) (Hub.cnt_keeps B (wk.bit (by decide)) H12))) (keep_when (fun _ H14 => (Hub.irq_keeps B (wk.sub (by decide)) H14)) H8))
    clear_value v9
    exact (keep_when (fun _ H16 => (Hub.raise_keeps B (wk.sub (by decide)) H16)) H10))) H2))

theorem execTSwapExpiry_keeps {km : Nat} (B : Hub.Bears km P) (wk : Sub 0x400000000002800000000000004000000000000101010100000000000000010000000000000000000000000400 km) {p : Fin 8} {s : State} {z : State} (e : (execTSwapExpiry p s) = .next z) (H : P s.hub) : P z.hub :=
  act_keeps e H (fun _ H2 => (keep_when (fun _ H4 => (Hub.claspHardReset_keeps B (wk.sub (by decide)) H4)) H2))

theorem execTableEntryWrite_keeps {km : Nat} (B : Hub.Bears km P) (wk : Sub 0x8000000000000000000000000000000000ff87fffffffffffb9fe00000000000c001ffb00003010101010007000d030701a3030300010f03000000010001ffff km) {r : Req} {addr : ℕ} {v : ℕ} {s : State} {z : State} (e : (execTableEntryWrite r addr v s) = .next z) (H : P s.hub) : P z.hub :=
  act_keeps e H (fun _ H2 => (Hub.winWrite_keeps B (wk.sub (by decide)) H2))

theorem execTableLowestWordRead_keeps {km : Nat} (B : Hub.Bears km P) (wk : Sub 0x4128e0000000000004000000000000001010100010009010700030101000100000000000100006520 km) {r : Req} {addr : ℕ} {s : State} {z : State} (e : (execTableLowestWordRead r addr s) = .next z) (H : P s.hub) : P z.hub :=
  act_keeps e H (fun _ H2 => (Hub.winRead_keeps B (wk.sub (by decide)) H2))

theorem execTableWordWrite_keeps {km : Nat} (B : Hub.Bears km P) (wk : Sub 0x8000000000000000000000000000000000ff87fffffffffffb9fe00000000000c001ffb00003010101010007000d030701a3030300010f03000000010001ffff km) {r : Req} {addr : ℕ} {v : ℕ} {s : State} {z : State} (e : (execTableWordWrite r addr v s) = .next z) (H : P s.hub) : P z.hub :=
  act_keeps e H (fun _ H2 => (Hub.winWrite_keeps B (wk.sub (by decide)) H2))

theorem execTag_keeps {km : Nat} (B : Hub.Bears km P) (wk : Sub 0xb987aa80200000000000c00060100000000000000000000000000001030200010f030000000100014402 km) {p : Fin 8} {bytes : Bytes} {s : State} {z : State} (e : (execTag p bytes s) = .next z) (H : P s.hub) : P z.hub :=
  act_keeps e H (fun _ H2 => (keep_when (fun _ H4 => (Hub.tagIn_keeps B (wk.sub (by decide)) H4)) H2))

theorem execTelSnap_keeps {km : Nat} (B : Hub.Bears km P) (wk : Sub 0x80000000000041a8000000000000040000000000000010101000100090107000301010001000000000001000064e0 km) {src : ℕ} {tok : ℕ} {s : State} {z : State} (e : (execTelSnap src tok s) = .next z) (H : P s.hub) : P z.hub :=
  act_keeps e H (fun _ H2 => (keep_when (fun _ H4 => (by
    split
    · rename_i a5 a6 a7 e8
      have H9 := keep_snd e8 (by
          split
          · rename_i e10
            exact (Hub.snapshot_keeps B (wk.sub (by decide)) H4)
          · rename_i e11
            exact (keep_p2 H4))
      exact (Hub.ctlSend_keeps B (wk.sub (by decide)) H9))) H2))

theorem execTelemetryPeriod_keeps {km : Nat} (B : Hub.Bears km P) (wk : Sub 0x8000000000004128000000000000040000000000000010101000100090107000301010001000000000001000064e0 km) {s : State} {z : State} (e : (execTelemetryPeriod s) = .next z) (H : P s.hub) : P z.hub :=
  act_keeps e H (fun _ H2 => (keep_when (fun _ H4 => (Hub.snapshot_keeps B (wk.sub (by decide)) H4)) H2))

theorem execThermalTrip_keeps {km : Nat} (B : Hub.Bears km P) (wk : Sub 0x1ff875c3dffbfffbb97a00000000000c000661000000101010100070004010701a3030200010f030000000100015d1f km) {s : State} {z : State} (e : (execThermalTrip s) = .next z) (H : P s.hub) : P z.hub :=
  act_keeps e H (fun _ H2 => (Hub.enterSolitaire_keeps B (wk.sub (by decide)) (Hub.raise_keeps B (wk.sub (by decide)) (B.wr (wk.bit (by decide)) H2))))

theorem execTileReceived_keeps {km : Nat} (B : Hub.Bears km P) (wk : Sub 0xa000002908000000000004000000000000000000000000000010000810000000000000000000000000400 km) {tid : ℕ} {t : TilePkt} {s : State} {z : State} (e : (execTileReceived tid t s) = .next z) (H : P s.hub) : P z.hub :=
  act_keeps e H (fun _ H2 => (keep_when (fun _ H4 => (by
    split
    · rename_i a5 e6
      exact (Hub.cnt_keeps B (wk.bit (by decide)) H4)
    · rename_i a7 a8 e9
      exact (keep_ite (Hub.rxTile_keeps B (wk.sub (by decide)) H4) (Hub.notReady_keeps B (wk.sub (by decide)) H4)))) H2))

theorem execTime_keeps {km : Nat} (B : Hub.Bears km P) (wk : Sub 0x2800000000000004000000000000000000000000000000000010100000000000000000000010401 km) {p : Fin 8} {payload : Bytes} {s : State} {z : State} (e : (execTime p payload s) = .next z) (H : P s.hub) : P z.hub :=
  act_keeps e H (fun _ H2 => (keep_when (fun _ H4 => (Hub.timeIn_keeps B (wk.sub (by decide)) H4)) H2))

theorem execTimerCapture_keeps {km : Nat} (B : Hub.Bears km P) (wk : Sub 0x4000000000020000000000000000000000000000000000000000000000000000 km) {t : Fin 16} {s : State} {z : State} (e : (execTimerCapture t s) = .next z) (H : P s.hub) : P z.hub :=
  act_keeps e H (fun _ H2 => (keep_when (fun _ H4 => (Hub.irq_keeps B (wk.sub (by decide)) (B.wr (wk.bit (by decide)) H4))) H2))

theorem execTimerClaim_keeps {km : Nat} (B : Hub.Bears km P) (wk : Sub 0x28a0000000000004000000000020000000000000000000000010000000000000000000000000500 km) {r : Req} {v : ℕ} {s : State} {z : State} (e : (execTimerClaim r v s) = .next z) (H : P s.hub) : P z.hub :=
  act_keeps e H (fun _ H2 => (Hub.asGo_keeps B (wk.sub (by decide)) H2 (fun _ H4 => (Hub.timerTake_keeps B (wk.sub (by decide)) H4))))

theorem execTimerExpiry_keeps {km : Nat} (B : Hub.Bears km P) (wk : Sub 0x4000000000020000000000000000000000000000000000000000000000000000 km) {t : Fin 16} {s : State} {z : State} (e : (execTimerExpiry t s) = .next z) (H : P s.hub) : P z.hub :=
  act_keeps e H (fun _ H2 => (keep_when (fun _ H4 => (Hub.timerExpire_keeps B (wk.sub (by decide)) H4)) H2))

theorem execTimerRelease_keeps {km : Nat} (B : Hub.Bears km P) (wk : Sub 0x28a0000000000004000000000020000000000000000000000010000000000000000000000000500 km) {r : Req} {s : State} {z : State} (e : (execTimerRelease r s) = .next z) (H : P s.hub) : P z.hub :=
  act_keeps e H (fun _ H2 => (Hub.asGo_keeps B (wk.sub (by decide)) H2 (fun _ H4 => (Hub.timerGive_keeps B (wk.sub (by decide)) H4))))

theorem execTjUpdate_keeps {km : Nat} (B : Hub.Bears km P) (wk : Sub 0x2800000000000004000000000000000000000000000000000010000000000000000000000000404 km) {temp : ℕ} {s : State} {z : State} (e : (execTjUpdate temp s) = .next z) (H : P s.hub) : P z.hub :=
  act_keeps e H (fun _ H2 => (keep_when (fun _ H4 => (Hub.tjUpdate_keeps B (wk.sub (by decide)) H4)) H2))

theorem execTrainTimeout_keeps {km : Nat} (B : Hub.Bears km P) (wk : Sub 0x800a80200000000000c000201000000000000000000000000000010102000000030000000100014402 km) {l : Fin 32} {s : State} {z : State} (e : (execTrainTimeout l s) = .next z) (H : P s.hub) : P z.hub :=
  act_keeps e H (fun _ H2 => (keep_when (fun _ H4 => (Hub.backUp_keeps B (wk.sub (by decide)) (Hub.raise_keeps B (wk.sub (by decide)) (Hub.setLane_keeps B (wk.sub (by decide)) H4)))) H2))

theorem execTransitionDone_keeps {km : Nat} (B : Hub.Bears km P) (wk : Sub 0x40000290200000000000c00002100000000000000000000001010001000000000000000000010001041b km) {us : ℕ} {s : State} {z : State} (e : (execTransitionDone us s) = .next z) (H : P s.hub) : P z.hub :=
  act_keeps e H (fun _ H2 => (keep_when (fun _ H4 => (Hub.endTransition_keeps B (wk.sub (by decide)) H4)) H2))

theorem execTsReceived_keeps {km : Nat} (B : Hub.Bears km P) (wk : Sub 0x400000b8820a80200000000000c000201000000000000100000000000000010102000000030000000100014402 km) {l : Fin 32} {inverted : Bool} {block : ℕ} {lag : ℕ} {s : State} {z : State} (e : (execTsReceived l inverted block lag s) = .next z) (H : P s.hub) : P z.hub :=
  act_keeps e H (fun _ H2 => (keep_when (fun _ H4 => (Hub.tsIn_keeps B (wk.sub (by decide)) H4)) H2))

theorem execTunAck_keeps {km : Nat} (B : Hub.Bears km P) (wk : Sub 0x4000000000049808800000000000004000000000000000000000000000000000000100000000010000000000000000 km) {src : ℕ} {tok : ℕ} {status : ℕ} {typ : ℕ} {_tid : ℕ} {_idx : ℕ} {s : State} {z : State} (e : (execTunAck src tok status typ _tid _idx s) = .next z) (H : P s.hub) : P z.hub :=
  act_keeps e H (fun _ H2 => (keep_when (fun _ H4 => (Hub.takeAnswer_keeps B (wk.sub (by decide)) H4)) H2))

theorem execTunClose_keeps {km : Nat} (B : Hub.Bears km P) (wk : Sub 0x88008000000000000000000000000000000000000000000000000200000000010000000000000000 km) {src : ℕ} {tok : ℕ} {tid : ℕ} {s : State} {z : State} (e : (execTunClose src tok tid s) = .next z) (H : P s.hub) : P z.hub :=
  act_keeps e H (fun _ H2 => (keep_when (fun _ H4 => (keep_ite (Hub.tunAck_keeps B (wk.sub (by decide)) H4) (by
    split
    · rename_i a5 e6
      exact (Hub.tunAck_keeps B (wk.sub (by decide)) H4)
    · rename_i a7 a8 e9
      extract_lets +onlyGivenNames v10
      clear_value v10
      exact (Hub.tunAck_keeps B (wk.sub (by decide)) (keep_ite (Hub.tunState_keeps B (wk.sub (by decide)) H4) (keep_ite (Hub.tunState_keeps B (wk.sub (by decide)) H4) H4)))))) H2))

theorem execTunOpen_keeps {km : Nat} (B : Hub.Bears km P) (wk : Sub 0x8a808000000000004000000000000000000000000000000000010200000000010000000000000400 km) {src : ℕ} {tok : ℕ} {tid : ℕ} {s : State} {z : State} (e : (execTunOpen src tok tid s) = .next z) (H : P s.hub) : P z.hub :=
  act_keeps e H (fun _ H2 => (keep_when (fun _ H4 => (keep_ite (Hub.tunAck_keeps B (wk.sub (by decide)) H4) (by
    split
    · rename_i a5 e6
      exact (Hub.tunAck_keeps B (wk.sub (by decide)) H4)
    · rename_i a7 a8 e9
      extract_lets +onlyGivenNames v10
      clear_value v10
      refine keep_ite ?_ ?_
      · exact (keep_ite (Hub.tunAck_keeps B (wk.sub (by decide)) (Hub.raise_keeps B (wk.sub (by decide)) H4)) (Hub.tunAck_keeps B (wk.sub (by decide)) (Hub.tunState_keeps B (wk.sub (by decide)) H4)))
      · exact (Hub.tunAck_keeps B (wk.sub (by decide)) H4)))) H2))

theorem execTunSetup_keeps {km : Nat} (B : Hub.Bears km P) (wk : Sub 0x8a808000000000004000000000000000000000000000000000010200000000010000000000000400 km) {src : ℕ} {tok : ℕ} {entry : List ℕ} {s : State} {z : State} (e : (execTunSetup src tok entry s) = .next z) (H : P s.hub) : P z.hub :=
  act_keeps e H (fun _ H2 => (keep_when (fun _ H4 => (by
    split
    · rename_i a5 a6 a7 a8 e9
      have H10 := keep_snd2 e9 (Hub.setup_keeps B (wk.sub (by decide)) H4)
      exact (Hub.tunAck_keeps B (wk.sub (by decide)) H10))) H2))

theorem execTunnelEntryWrite_keeps {km : Nat} (B : Hub.Bears km P) (wk : Sub 0x828b8000000000004000000000000000000000000000000000010200000000010000000000000500 km) {r : Req} {idx : Fin 8192} {v : ℕ} {s : State} {z : State} (e : (execTunnelEntryWrite r idx v s) = .next z) (H : P s.hub) : P z.hub :=
  act_keeps e H (fun _ H2 => (Hub.asWrite_keeps B (wk.sub (by decide)) H2 (fun _ H4 => (Hub.clearStaging_keeps B (wk.sub (by decide)) (Hub.tunReplace_keeps B (wk.sub (by decide)) H4)))))

theorem execTunnelMsgRetry_keeps {km : Nat} (B : Hub.Bears km P) (wk : Sub 0x400000000004b808800000000000004000000000000000000000000000000000000100000000010000000000000000 km) {tok : ℕ} {s : State} {z : State} (e : (execTunnelMsgRetry tok s) = .next z) (H : P s.hub) : P z.hub :=
  act_keeps e H (fun _ H2 => (keep_when (fun _ H4 => (Hub.retryAsk_keeps B (wk.sub (by decide)) H4)) H2))

theorem execTxcoefCommit_keeps {km : Nat} (B : Hub.Bears km P) (wk : Sub 0x280200000000000c000001000000000000000000000000000010000000000000000000100000400 km) {l : Fin 32} {s : State} {z : State} (e : (execTxcoefCommit l s) = .next z) (H : P s.hub) : P z.hub :=
  act_keeps e H (fun _ H2 => (keep_when (fun _ H4 => (Hub.txCommit_keeps B (wk.sub (by decide)) H4)) H2))

theorem execTypecAttach_keeps {km : Nat} (B : Hub.Bears km P) (wk : Sub 0x94000040000280a00000000000c000021000000101010100070000010100a1000000000000000000010001041a km) {k : Fin 2} {attached : Bool} {cc2 : Bool} {sink : Bool} {ufp : Bool} {emark5A : Bool} {frsReady : Bool} {s : State} {z : State} (e : (execTypecAttach k attached cc2 sink ufp emark5A frsReady s) = .next z) (H : P s.hub) : P z.hub :=
  act_keeps e H (fun _ H2 => (keep_when (fun _ H4 => (keep_ite (keep_when (fun _ H6 => (Hub.pdAttach_keeps B (wk.sub (by decide)) H6)) H4) (Hub.pdDetach_keeps B (wk.sub (by decide)) H4))) H2))

theorem execUnderrun_keeps {km : Nat} (B : Hub.Bears km P) (wk : Sub 0x2800000000000004000000000000000000000000000010000030000000000000000000000000400 km) {h : Fin 4} {line : ℕ} {pixel : ℕ} {s : State} {z : State} (e : (execUnderrun h line pixel s) = .next z) (H : P s.hub) : P z.hub :=
  act_keeps e H (fun _ H2 => (keep_when (fun _ H4 => (Hub.headUnderrun_keeps B (wk.sub (by decide)) H4)) H2))

theorem execUnreconciledCheck_keeps {km : Nat} (B : Hub.Bears km P) (wk : Sub 0x800000000000000a800000000000004000000000000000000000000000000000010000000000010000000000000400 km) {s : State} {z : State} (e : (execUnreconciledCheck s) = .next z) (H : P s.hub) : P z.hub :=
  act_keeps e H (fun _ H2 => (keep_when (fun _ H4 => (Hub.settleAll_keeps B (wk.sub (by decide)) H4)) H2))

theorem execUnseal_keeps {km : Nat} (B : Hub.Bears km P) (wk : Sub 0x28a0000000000004000000000000000000000000000000000010000000000000000000000004500 km) {r : Req} {v : ℕ} {s : State} {z : State} (e : (execUnseal r v s) = .next z) (H : P s.hub) : P z.hub :=
  act_keeps e H (fun _ H2 => (Hub.keyCmd_keeps B (wk.sub (by decide)) H2))

theorem execUnwrap_keeps {km : Nat} (B : Hub.Bears km P) (wk : Sub 0x28a0000000000004000000000000000000000000000000000010000000000000000000000004500 km) {r : Req} {v : ℕ} {s : State} {z : State} (e : (execUnwrap r v s) = .next z) (H : P s.hub) : P z.hub :=
  act_keeps e H (fun _ H2 => (Hub.keyCmd_keeps B (wk.sub (by decide)) H2))

theorem execUpstreamAttach_keeps {km : Nat} (B : Hub.Bears km P) (wk : Sub 0x10000000000000000000000000000000000000000 km) {hs : Bool} {s : State} {z : State} (e : (execUpstreamAttach hs s) = .next z) (H : P s.hub) : P z.hub :=
  act_keeps e H (fun _ H2 => (keep_when (fun _ H4 => (B.wr (wk.bit (by decide)) (B.wr (wk.bit (by decide)) H4))) H2))

theorem execUpstreamChange_keeps {km : Nat} (B : Hub.Bears km P) (wk : Sub 0x1400000000028a8000000000004000000000000000000000070000000000010000000000000000000000000500 km) {r : Option Req} {v : ℕ} {s : State} {z : State} (e : (execUpstreamChange r v s) = .next z) (H : P s.hub) : P z.hub :=
  act_keeps e H (fun _ H2 => (by
    split
    · rename_i a3 a4
      exact (Hub.asReg_keeps B (wk.sub (by decide)) H2 (fun _ H6 => (Hub.refreshUp_keeps B (wk.sub (by decide)) (B.wr (wk.bit (by decide)) H6))))
    · rename_i a7
      exact (Hub.refreshUp_keeps B (wk.sub (by decide)) H2)))

theorem execUsbBusReset_keeps {km : Nat} (B : Hub.Bears km P) (wk : Sub 0x140000000000808000000000004000000000000000000000070000000000000000000000000000000000000000 km) {port : Option (Fin 7)} {s : State} {z : State} (e : (execUsbBusReset port s) = .next z) (H : P s.hub) : P z.hub :=
  act_keeps e H (fun _ H2 => (keep_when (fun _ H4 => (Hub.usbReset_keeps B (wk.sub (by decide)) H4)) H2))

theorem execUsbOvercurrent_keeps {km : Nat} (B : Hub.Bears km P) (wk : Sub 0x2800000000000004000000000000000000000010000000000010000000000000000000000000400 km) {p : Fin 4} {s : State} {z : State} (e : (execUsbOvercurrent p s) = .next z) (H : P s.hub) : P z.hub :=
  act_keeps e H (fun _ H2 => (keep_when (fun _ H4 => (Hub.raise_keeps B (wk.sub (by decide)) (Hub.cnt_keeps B (wk.bit (by decide)) (Hub.setPortStat_keeps B (wk.sub (by decide)) H4)))) H2))

theorem execUsbResumeDetect_keeps {km : Nat} (B : Hub.Bears km P) (wk : Sub 0x40000280200000000000c00002100000000000000000000001010001000000000000000000010001041a km) {p : Fin 6} {s : State} {z : State} (e : (execUsbResumeDetect p s) = .next z) (H : P s.hub) : P z.hub :=
  act_keeps e H (fun _ H2 => (keep_when (fun _ H4 => (Hub.wake_keeps B (wk.sub (by decide)) (keep_when (fun _ H6 => (Hub.wrBit_keeps B (wk.bit (by decide)) H6)) H4))) H2))

theorem execUsbTransferDone_keeps {km : Nat} (B : Hub.Bears km P) (wk : Sub 0x140000000000008000000000000000000000000000000000040000000000000000000000000000000000000000 km) {slot : Fin 64} {status : ℕ} {actual : ℕ} {toggle : Bool} {frame : ℕ} {data : Bytes} {s : State} {z : State} (e : (execUsbTransferDone slot status actual toggle frame data s) = .next z) (H : P s.hub) : P z.hub :=
  act_keeps e H (fun _ H2 => (keep_when (fun _ H4 => (by
    split
    · rename_i a5 a6 e7
      exact (Hub.heldDone_keeps B (wk.sub (by decide)) H4)
    · rename_i a8 e9
      exact H4)) H2))

theorem execUsbTransferTimeout_keeps {km : Nat} (B : Hub.Bears km P) (wk : Sub 0x140000000000808000000000000000000000000000000000040000000000000000000000000000000000000000 km) {slot : Fin 64} {s : State} {z : State} (e : (execUsbTransferTimeout slot s) = .next z) (H : P s.hub) : P z.hub :=
  act_keeps e H (fun _ H2 => (keep_when (fun _ H4 => (by
    split
    · rename_i a5 a6 e7
      exact (keep_ite H4 (Hub.heldEnd_keeps B (wk.sub (by decide)) H4))
    · rename_i a8 e9
      exact H4)) H2))

theorem execVblankFlip_keeps {km : Nat} (B : Hub.Bears km P) (wk : Sub 0x280a00000000000c000001000000000000000000000010000830000000000000000000000000402 km) {h : Fin 4} {s : State} {z : State} (e : (execVblankFlip h s) = .next z) (H : P s.hub) : P z.hub :=
  act_keeps e H (fun _ H2 => (keep_when (fun _ H4 => (Hub.vblank_keeps B (wk.sub (by decide)) H4)) H2))

theorem execVbusFault_keeps {km : Nat} (B : Hub.Bears km P) (wk : Sub 0x2800000000000004000000000000000000000000000000000010000000000000000000000000400 km) {k : Fin 2} {f : VbusFault} {s : State} {z : State} (e : (execVbusFault k f s) = .next z) (H : P s.hub) : P z.hub :=
  act_keeps e H (fun _ H2 => (keep_when (fun _ H4 => (Hub.vbusFault_keeps B (wk.sub (by decide)) H4)) H2))

theorem execVerifyDone_keeps {km : Nat} (B : Hub.Bears km P) (wk : Sub 0x2800000000000004000100000000000000000000000000000010000000000000000000000004400 km) {s : State} {z : State} (e : (execVerifyDone s) = .next z) (H : P s.hub) : P z.hub :=
  act_keeps e H (fun _ H2 => (keep_when (fun _ H4 => (Hub.verifyEnd_keeps B (wk.sub (by decide)) H4)) H2))

theorem execVidStep_keeps {km : Nat} (B : Hub.Bears km P) (wk : Sub 0xa800000000000004000000000000000000000000000000000010000000000010000000000000404 km) {s : State} {z : State} (e : (execVidStep s) = .next z) (H : P s.hub) : P z.hub :=
  act_keeps e H (fun _ H2 => (keep_when (fun _ H4 => (Hub.vidStep_keeps B (wk.sub (by decide)) H4)) H2))

theorem execVmapWrite_keeps {km : Nat} (B : Hub.Bears km P) (wk : Sub 0x28a0000000000004000000000000000000000000001000000010000000000000000000000000500 km) {r : Req} {m : Fin 2} {v : ℕ} {s : State} {z : State} (e : (execVmapWrite r m v s) = .next z) (H : P s.hub) : P z.hub :=
  act_keeps e H (fun _ H2 => (Hub.asReg_keeps B (wk.sub (by decide)) H2 (fun _ H4 => (Hub.vmapApply_keeps B (wk.sub (by decide)) H4))))

theorem execVmeasUpdate_keeps {km : Nat} (B : Hub.Bears km P) (wk : Sub 0xa800000000000004000000000000000000000000000000000010000000000010000000000000404 km) {mv : ℕ} {minMv : ℕ} {s : State} {z : State} (e : (execVmeasUpdate mv minMv s) = .next z) (H : P s.hub) : P z.hub :=
  act_keeps e H (fun _ H2 => (keep_when (fun _ H4 => (Hub.vmeasUpdate_keeps B (wk.sub (by decide)) H4)) H2))

theorem execVsetWrite_keeps {km : Nat} (B : Hub.Bears km P) (wk : Sub 0xa8a0000000000004000000000000000000000000000000000010000000000010000000000000504 km) {r : Req} {v : ℕ} {s : State} {z : State} (e : (execVsetWrite r v s) = .next z) (H : P s.hub) : P z.hub :=
  act_keeps e H (fun _ H2 => (Hub.asGo_keeps B (wk.sub (by decide)) H2 (fun _ H4 => (Hub.vsetWrite_keeps B (wk.sub (by decide)) H4))))

theorem execWaitExit_keeps {km : Nat} (B : Hub.Bears km P) (wk : Sub 0x2800000000000004000000000000101010100000000000000010000000000000000000000000400 km) {s : State} {z : State} (e : (execWaitExit s) = .next z) (H : P s.hub) : P z.hub :=
  act_keeps e H (fun _ H2 => (keep_when (fun _ H4 => (Hub.waitExit_keeps B (wk.sub (by decide)) (Hub.refreshBus_keeps B (wk.sub (by decide)) H4))) H2))

theorem execWckTracking_keeps {km : Nat} (B : Hub.Bears km P) (wk : Sub 0x2800000000000004000000000000000000000000000020000010000000000000000000000000400 km) {b : Fin 8} {rdly : ℕ} {wdly : ℕ} {vref : ℕ} {s : State} {z : State} (e : (execWckTracking b rdly wdly vref s) = .next z) (H : P s.hub) : P z.hub :=
  act_keeps e H (fun _ H2 => (keep_when (fun _ H4 => (Hub.wckTrack_keeps B (wk.sub (by decide)) H4)) H2))

theorem execWheelGranWrite_keeps {km : Nat} (B : Hub.Bears km P) (wk : Sub 0x28a0000000000004000000000000000000000000000000000010000000100000000000000000500 km) {r : Req} {pt : Fin 14} {v : ℕ} {s : State} {z : State} (e : (execWheelGranWrite r pt v s) = .next z) (H : P s.hub) : P z.hub :=
  act_keeps e H (fun _ H2 => (Hub.asReg_keeps B (wk.sub (by decide)) H2 (fun _ H4 => (Hub.granWrite_keeps B (wk.sub (by decide)) H4))))

theorem execWheelSlot_keeps {km : Nat} (B : Hub.Bears km P) (wk : Sub 0x100000000000000000000 km) {pt : Fin 14} {s : State} {z : State} (e : (execWheelSlot pt s) = .next z) (H : P s.hub) : P z.hub :=
  act_keeps e H (fun _ H2 => (keep_when (fun _ H4 => (Hub.wheelStep_keeps B (wk.sub (by decide)) H4)) H2))

theorem execWidthAck_keeps {km : Nat} (B : Hub.Bears km P) (wk : Sub 0x10000 km) {p : Fin 8} {tok : ℕ} {status : ℕ} {s : State} {z : State} (e : (execWidthAck p tok status s) = .next z) (H : P s.hub) : P z.hub :=
  act_keeps e H (fun _ H2 => (keep_when (fun _ H4 => (Hub.widthAckIn_keeps B (wk.sub (by decide)) H4)) H2))

theorem execWidthReq_keeps {km : Nat} (B : Hub.Bears km P) (wk : Sub 0x8000000000000000000000000000000000000000000000000000000000000000000000000000010000 km) {p : Fin 8} {tok : ℕ} {mask : ℕ} {s : State} {z : State} (e : (execWidthReq p tok mask s) = .next z) (H : P s.hub) : P z.hub :=
  act_keeps e H (fun _ H2 => (keep_when (fun _ H4 => (Hub.widthReqIn_keeps B (wk.sub (by decide)) H4)) H2))

theorem execWidthTimeout_keeps {km : Nat} (B : Hub.Bears km P) (wk : Sub 0x2800000000000004000000000000000000000000000000000010000000000000000000000010400 km) {p : Fin 8} {s : State} {z : State} (e : (execWidthTimeout p s) = .next z) (H : P s.hub) : P z.hub :=
  act_keeps e H (fun _ H2 => (keep_when (fun _ H4 => (Hub.raise_keeps B (wk.sub (by decide)) (Hub.endWidth_keeps B (wk.sub (by decide)) H4))) H2))

theorem execWr_keeps {km : Nat} (B : Hub.Bears km P) (wk : Sub 0x8000000000000000000000000000000000ff87fffffffffffb9fe00000000000c001ffb00003010101010007000d030701a3030300010f03000000010001ffff km) {f : TsudyFrame} {s : State} {z : State} (e : (execWr f s) = .next z) (H : P s.hub) : P z.hub :=
  act_keeps e H (fun _ H2 => (keep_when (fun _ H4 => (Hub.sessionReq_keeps B (wk.sub (by decide)) H4 (fun _ H6 => (Hub.sessionWords_keeps B (wk.sub (by decide)) H6)))) H2))

theorem execWrf_keeps {km : Nat} (B : Hub.Bears km P) (wk : Sub 0x8000000000000000000000000000000000ff87fffffffffffb9fe00000000000c001ffb00003010101010007000d030701a3030300010f03000000010001ffff km) {f : TsudyFrame} {s : State} {z : State} (e : (execWrf f s) = .next z) (H : P s.hub) : P z.hub :=
  act_keeps e H (fun _ H2 => (keep_when (fun _ H4 => (Hub.sessionReq_keeps B (wk.sub (by decide)) H4 (fun _ H6 => (Hub.sessionWords_keeps B (wk.sub (by decide)) H6)))) H2))

theorem execXtalLoss_keeps {km : Nat} (B : Hub.Bears km P) (wk : Sub 0x2800000000000004000000000000000000000000000000000010000000000000000000000000402 km) {s : State} {z : State} (e : (execXtalLoss s) = .next z) (H : P s.hub) : P z.hub :=
  act_keeps e H (fun _ H2 => (Hub.raise_keeps B (wk.sub (by decide)) (B.wr (wk.bit (by decide)) (B.wr (wk.bit (by decide)) H2))))

theorem execXtalStart_keeps {km : Nat} (B : Hub.Bears km P) (wk : Sub 0x2 km) {s : State} {z : State} (e : (execXtalStart s) = .next z) (H : P s.hub) : P z.hub :=
  act_keeps e H (fun _ H2 => (B.wr (wk.bit (by decide)) (B.wr (wk.bit (by decide)) H2)))

end Sys2Proof.Machine
end

