-- ==== Sys2Proof/Laws/Same.lean ====
section
/-! SUPPORT. What the shared operations leave alone, for use at a step: the canonical form, and every register and list outside
the kinds that the operation may change. Each follows from the operation's lemma in Laws/Keeps. -/

set_option linter.unusedVariables false

namespace Sys2Proof.Machine

theorem Hub.setTword_canon {h : Hub} {a v : Nat} (H : Hub.Canon h) : Hub.Canon (h.setTword a v) :=
  Hub.setTword_keeps (bears_canon 0x8000000000000000000000000000000000000000000000000000000000000000000000000000) (Sub.refl _) H

theorem Hub.setTword_same {h : Hub} {a v : Nat} : Hub.Same 0x8000000000000000000000000000000000000000000000000000000000000000000000000000 h (h.setTword a v) :=
  Hub.setTword_keeps (bears_same 0x8000000000000000000000000000000000000000000000000000000000000000000000000000 h) (Sub.refl _) (fun _ => Hub.Same.refl _ _) (by decide)

theorem Hub.setTword_rd {h : Hub} {a v : Nat} {F : Fld} {iF bF : Nat} (eF : Nat.testBit 0x8000000000000000000000000000000000000000000000000000000000000000000000000000 F.kind = false) :
    Hub.rd (h.setTword a v) F iF bF = Hub.rd h F iF bF :=
  Hub.setTword_same.rd (by decide) F iF bF eF

theorem Hub.setTfld_canon {h : Hub} {a : ℕ} {lo : ℕ} {w : ℕ} {v : ℕ} (H : Hub.Canon h) : Hub.Canon (Hub.setTfld h a lo w v) :=
  Hub.setTfld_keeps (bears_canon 0x8000000000000000000000000000000000000000000000000000000000000000000000000000) (Sub.refl _) H

theorem Hub.setTfld_same {h : Hub} {a : ℕ} {lo : ℕ} {w : ℕ} {v : ℕ} : Hub.Same 0x8000000000000000000000000000000000000000000000000000000000000000000000000000 h (Hub.setTfld h a lo w v) :=
  Hub.setTfld_keeps (bears_same 0x8000000000000000000000000000000000000000000000000000000000000000000000000000 h) (Sub.refl _) (fun _ => Hub.Same.refl _ _) (by decide)

theorem Hub.setTfld_rd {h : Hub} {a : ℕ} {lo : ℕ} {w : ℕ} {v : ℕ} {F : Fld} {iF bF : Nat} (eF : Nat.testBit 0x8000000000000000000000000000000000000000000000000000000000000000000000000000 F.kind = false) :
    Hub.rd (Hub.setTfld h a lo w v) F iF bF = Hub.rd h F iF bF :=
  Hub.setTfld_same.rd (by decide) F iF bF eF

theorem Hub.setSlot_canon {h : Hub} {k : ℕ} {w : ℕ} {lo : ℕ} {n : ℕ} {v : ℕ} (H : Hub.Canon h) : Hub.Canon (Hub.setSlot h k w lo n v) :=
  Hub.setSlot_keeps (bears_canon 0x8000000000000000000000000000000000000000000000000000000000000000000000000000) (Sub.refl _) H

theorem Hub.setSlot_same {h : Hub} {k : ℕ} {w : ℕ} {lo : ℕ} {n : ℕ} {v : ℕ} : Hub.Same 0x8000000000000000000000000000000000000000000000000000000000000000000000000000 h (Hub.setSlot h k w lo n v) :=
  Hub.setSlot_keeps (bears_same 0x8000000000000000000000000000000000000000000000000000000000000000000000000000 h) (Sub.refl _) (fun _ => Hub.Same.refl _ _) (by decide)

theorem Hub.setSlot_rd {h : Hub} {k : ℕ} {w : ℕ} {lo : ℕ} {n : ℕ} {v : ℕ} {F : Fld} {iF bF : Nat} (eF : Nat.testBit 0x8000000000000000000000000000000000000000000000000000000000000000000000000000 F.kind = false) :
    Hub.rd (Hub.setSlot h k w lo n v) F iF bF = Hub.rd h F iF bF :=
  Hub.setSlot_same.rd (by decide) F iF bF eF

theorem Hub.setState_canon {h : Hub} {k : ℕ} {st : ℕ} (H : Hub.Canon h) : Hub.Canon (Hub.setState h k st) :=
  Hub.setState_keeps (bears_canon 0x8000000000000000000000000000000000000000000000000000000000000000000000000000) (Sub.refl _) H

theorem Hub.setState_same {h : Hub} {k : ℕ} {st : ℕ} : Hub.Same 0x8000000000000000000000000000000000000000000000000000000000000000000000000000 h (Hub.setState h k st) :=
  Hub.setState_keeps (bears_same 0x8000000000000000000000000000000000000000000000000000000000000000000000000000 h) (Sub.refl _) (fun _ => Hub.Same.refl _ _) (by decide)

theorem Hub.setState_rd {h : Hub} {k : ℕ} {st : ℕ} {F : Fld} {iF bF : Nat} (eF : Nat.testBit 0x8000000000000000000000000000000000000000000000000000000000000000000000000000 F.kind = false) :
    Hub.rd (Hub.setState h k st) F iF bF = Hub.rd h F iF bF :=
  Hub.setState_same.rd (by decide) F iF bF eF

theorem Hub.abortSlot_canon {h : Hub} {w : Writer} (H : Hub.Canon h) : Hub.Canon (Hub.abortSlot h w) :=
  Hub.abortSlot_keeps (bears_canon 0x8000000000000000000000000000000000000000000000800000000000000000000000000000) (Sub.refl _) H

theorem Hub.abortSlot_same {h : Hub} {w : Writer} : Hub.Same 0x8000000000000000000000000000000000000000000000800000000000000000000000000000 h (Hub.abortSlot h w) :=
  Hub.abortSlot_keeps (bears_same 0x8000000000000000000000000000000000000000000000800000000000000000000000000000 h) (Sub.refl _) (fun _ => Hub.Same.refl _ _) (by decide)

theorem Hub.abortSlot_rd {h : Hub} {w : Writer} {F : Fld} {iF bF : Nat} (eF : Nat.testBit 0x8000000000000000000000000000000000000000000000800000000000000000000000000000 F.kind = false) :
    Hub.rd (Hub.abortSlot h w) F iF bF = Hub.rd h F iF bF :=
  Hub.abortSlot_same.rd (by decide) F iF bF eF

theorem Hub.txbSend_canon {h : Hub} {m : TxbMsg} (H : Hub.Canon h) : Hub.Canon (Hub.txbSend h m) :=
  Hub.txbSend_keeps (bears_canon 0x20000000000000000000000000000000000000000000000000000000000000000000000000000000000000) (Sub.refl _) H

theorem Hub.txbSend_same {h : Hub} {m : TxbMsg} : Hub.Same 0x20000000000000000000000000000000000000000000000000000000000000000000000000000000000000 h (Hub.txbSend h m) :=
  Hub.txbSend_keeps (bears_same 0x20000000000000000000000000000000000000000000000000000000000000000000000000000000000000 h) (Sub.refl _) (fun _ => Hub.Same.refl _ _) (by decide)

theorem Hub.txbSend_rd {h : Hub} {m : TxbMsg} {F : Fld} {iF bF : Nat} (eF : Nat.testBit 0x20000000000000000000000000000000000000000000000000000000000000000000000000000000000000 F.kind = false) :
    Hub.rd (Hub.txbSend h m) F iF bF = Hub.rd h F iF bF :=
  Hub.txbSend_same.rd (by decide) F iF bF eF

theorem Hub.refreshTags_canon {h : Hub} (H : Hub.Canon h) : Hub.Canon (Hub.refreshTags h) :=
  Hub.refreshTags_keeps (bears_canon 0x100000000000000000000000000000000) (Sub.refl _) H

theorem Hub.refreshTags_same {h : Hub} : Hub.Same 0x100000000000000000000000000000000 h (Hub.refreshTags h) :=
  Hub.refreshTags_keeps (bears_same 0x100000000000000000000000000000000 h) (Sub.refl _) (fun _ => Hub.Same.refl _ _) (by decide)

theorem Hub.refreshTags_rd {h : Hub} {F : Fld} {iF bF : Nat} (eF : Nat.testBit 0x100000000000000000000000000000000 F.kind = false) :
    Hub.rd (Hub.refreshTags h) F iF bF = Hub.rd h F iF bF :=
  Hub.refreshTags_same.rd (by decide) F iF bF eF

theorem Hub.retryReads_canon {h : Hub} (H : Hub.Canon h) : Hub.Canon (Hub.retryReads h) :=
  Hub.retryReads_keeps (bears_canon 0xe0000000000000000000000000000000000000000000000000000100000000000000000000000000000000) (Sub.refl _) H

theorem Hub.retryReads_same {h : Hub} : Hub.Same 0xe0000000000000000000000000000000000000000000000000000100000000000000000000000000000000 h (Hub.retryReads h) :=
  Hub.retryReads_keeps (bears_same 0xe0000000000000000000000000000000000000000000000000000100000000000000000000000000000000 h) (Sub.refl _) (fun _ => Hub.Same.refl _ _) (by decide)

theorem Hub.retryReads_rd {h : Hub} {F : Fld} {iF bF : Nat} (eF : Nat.testBit 0xe0000000000000000000000000000000000000000000000000000100000000000000000000000000000000 F.kind = false) :
    Hub.rd (Hub.retryReads h) F iF bF = Hub.rd h F iF bF :=
  Hub.retryReads_same.rd (by decide) F iF bF eF

theorem Hub.answerRead_canon {h : Hub} {a : TxbAns} (H : Hub.Canon h) : Hub.Canon (Hub.answerRead h a) :=
  Hub.answerRead_keeps (bears_canon 0x200000000000000000000000000000000000000000000000000000200000000000000000000000000000000) (Sub.refl _) H

theorem Hub.answerRead_same {h : Hub} {a : TxbAns} : Hub.Same 0x200000000000000000000000000000000000000000000000000000200000000000000000000000000000000 h (Hub.answerRead h a) :=
  Hub.answerRead_keeps (bears_same 0x200000000000000000000000000000000000000000000000000000200000000000000000000000000000000 h) (Sub.refl _) (fun _ => Hub.Same.refl _ _) (by decide)

theorem Hub.answerRead_rd {h : Hub} {a : TxbAns} {F : Fld} {iF bF : Nat} (eF : Nat.testBit 0x200000000000000000000000000000000000000000000000000000200000000000000000000000000000000 F.kind = false) :
    Hub.rd (Hub.answerRead h a) F iF bF = Hub.rd h F iF bF :=
  Hub.answerRead_same.rd (by decide) F iF bF eF

theorem Hub.pieceDone_canon {h : Hub} {id : Nat} {ok : Bool} (H : Hub.Canon h) : Hub.Canon (h.pieceDone id ok) :=
  Hub.pieceDone_keeps (bears_canon 0x300000000000000000000000000000000000000000000000000000200000000000000000000000000000000) (Sub.refl _) H

theorem Hub.pieceDone_same {h : Hub} {id : Nat} {ok : Bool} : Hub.Same 0x300000000000000000000000000000000000000000000000000000200000000000000000000000000000000 h (h.pieceDone id ok) :=
  Hub.pieceDone_keeps (bears_same 0x300000000000000000000000000000000000000000000000000000200000000000000000000000000000000 h) (Sub.refl _) (fun _ => Hub.Same.refl _ _) (by decide)

theorem Hub.pieceDone_rd {h : Hub} {id : Nat} {ok : Bool} {F : Fld} {iF bF : Nat} (eF : Nat.testBit 0x300000000000000000000000000000000000000000000000000000200000000000000000000000000000000 F.kind = false) :
    Hub.rd (h.pieceDone id ok) F iF bF = Hub.rd h F iF bF :=
  Hub.pieceDone_same.rd (by decide) F iF bF eF

theorem Hub.endTag_canon {h : Hub} {t : ℕ} {tg : TxbTag} {ok : Bool} (H : Hub.Canon h) : Hub.Canon (Hub.endTag h t tg ok) :=
  Hub.endTag_keeps (bears_canon 0x3e0000000000000000000000000000000000000000000000000000300000000000000000000000000000000) (Sub.refl _) H

theorem Hub.endTag_same {h : Hub} {t : ℕ} {tg : TxbTag} {ok : Bool} : Hub.Same 0x3e0000000000000000000000000000000000000000000000000000300000000000000000000000000000000 h (Hub.endTag h t tg ok) :=
  Hub.endTag_keeps (bears_same 0x3e0000000000000000000000000000000000000000000000000000300000000000000000000000000000000 h) (Sub.refl _) (fun _ => Hub.Same.refl _ _) (by decide)

theorem Hub.endTag_rd {h : Hub} {t : ℕ} {tg : TxbTag} {ok : Bool} {F : Fld} {iF bF : Nat} (eF : Nat.testBit 0x3e0000000000000000000000000000000000000000000000000000300000000000000000000000000000000 F.kind = false) :
    Hub.rd (Hub.endTag h t tg ok) F iF bF = Hub.rd h F iF bF :=
  Hub.endTag_same.rd (by decide) F iF bF eF

theorem Hub.abortTag_canon {h : Hub} {t : ℕ} {tg : TxbTag} {last : Bool} (H : Hub.Canon h) : Hub.Canon (Hub.abortTag h t tg last) :=
  Hub.abortTag_keeps (bears_canon 0x3e0000000000000000000000000000000000000000000000000000300000000000000000000000000000000) (Sub.refl _) H

theorem Hub.abortTag_same {h : Hub} {t : ℕ} {tg : TxbTag} {last : Bool} : Hub.Same 0x3e0000000000000000000000000000000000000000000000000000300000000000000000000000000000000 h (Hub.abortTag h t tg last) :=
  Hub.abortTag_keeps (bears_same 0x3e0000000000000000000000000000000000000000000000000000300000000000000000000000000000000 h) (Sub.refl _) (fun _ => Hub.Same.refl _ _) (by decide)

theorem Hub.abortTag_rd {h : Hub} {t : ℕ} {tg : TxbTag} {last : Bool} {F : Fld} {iF bF : Nat} (eF : Nat.testBit 0x3e0000000000000000000000000000000000000000000000000000300000000000000000000000000000000 F.kind = false) :
    Hub.rd (Hub.abortTag h t tg last) F iF bF = Hub.rd h F iF bF :=
  Hub.abortTag_same.rd (by decide) F iF bF eF

theorem Hub.rollRx_canon {h : Hub} {p : ℕ} (H : Hub.Canon h) : Hub.Canon (Hub.rollRx h p) :=
  Hub.rollRx_keeps (bears_canon 0x200000000000000000000000000000000000000000000000000000010000) (Sub.refl _) H

theorem Hub.rollRx_same {h : Hub} {p : ℕ} : Hub.Same 0x200000000000000000000000000000000000000000000000000000010000 h (Hub.rollRx h p) :=
  Hub.rollRx_keeps (bears_same 0x200000000000000000000000000000000000000000000000000000010000 h) (Sub.refl _) (fun _ => Hub.Same.refl _ _) (by decide)

theorem Hub.rollRx_rd {h : Hub} {p : ℕ} {F : Fld} {iF bF : Nat} (eF : Nat.testBit 0x200000000000000000000000000000000000000000000000000000010000 F.kind = false) :
    Hub.rd (Hub.rollRx h p) F iF bF = Hub.rd h F iF bF :=
  Hub.rollRx_same.rd (by decide) F iF bF eF

theorem Hub.startEsc_canon {h : Hub} {pg : ℕ} (H : Hub.Canon h) : Hub.Canon (Hub.startEsc h pg) :=
  Hub.startEsc_keeps (bears_canon 0x4000000000000000000000000000000000000000000000000000000000000000) (Sub.refl _) H

theorem Hub.startEsc_same {h : Hub} {pg : ℕ} : Hub.Same 0x4000000000000000000000000000000000000000000000000000000000000000 h (Hub.startEsc h pg) :=
  Hub.startEsc_keeps (bears_same 0x4000000000000000000000000000000000000000000000000000000000000000 h) (Sub.refl _) (fun _ => Hub.Same.refl _ _) (by decide)

theorem Hub.startEsc_rd {h : Hub} {pg : ℕ} {F : Fld} {iF bF : Nat} (eF : Nat.testBit 0x4000000000000000000000000000000000000000000000000000000000000000 F.kind = false) :
    Hub.rd (Hub.startEsc h pg) F iF bF = Hub.rd h F iF bF :=
  Hub.startEsc_same.rd (by decide) F iF bF eF

theorem Hub.irq_canon {h : Hub} {pg : ℕ} {n : ℕ} (H : Hub.Canon h) : Hub.Canon (Hub.irq h pg n) :=
  Hub.irq_keeps (bears_canon 0x4000000000000000000000000000000000000000000000000000000000000000) (Sub.refl _) H

theorem Hub.irq_same {h : Hub} {pg : ℕ} {n : ℕ} : Hub.Same 0x4000000000000000000000000000000000000000000000000000000000000000 h (Hub.irq h pg n) :=
  Hub.irq_keeps (bears_same 0x4000000000000000000000000000000000000000000000000000000000000000 h) (Sub.refl _) (fun _ => Hub.Same.refl _ _) (by decide)

theorem Hub.irq_rd {h : Hub} {pg : ℕ} {n : ℕ} {F : Fld} {iF bF : Nat} (eF : Nat.testBit 0x4000000000000000000000000000000000000000000000000000000000000000 F.kind = false) :
    Hub.rd (Hub.irq h pg n) F iF bF = Hub.rd h F iF bF :=
  Hub.irq_same.rd (by decide) F iF bF eF

theorem Hub.capture_canon {h : Hub} {pg : ℕ} {c : Cap} (H : Hub.Canon h) : Hub.Canon (Hub.capture h pg c) :=
  Hub.capture_keeps (bears_canon 0x800000000000004000000000000000000000000000000000000000000000000000000000000000) (Sub.refl _) H

theorem Hub.capture_same {h : Hub} {pg : ℕ} {c : Cap} : Hub.Same 0x800000000000004000000000000000000000000000000000000000000000000000000000000000 h (Hub.capture h pg c) :=
  Hub.capture_keeps (bears_same 0x800000000000004000000000000000000000000000000000000000000000000000000000000000 h) (Sub.refl _) (fun _ => Hub.Same.refl _ _) (by decide)

theorem Hub.capture_rd {h : Hub} {pg : ℕ} {c : Cap} {F : Fld} {iF bF : Nat} (eF : Nat.testBit 0x800000000000004000000000000000000000000000000000000000000000000000000000000000 F.kind = false) :
    Hub.rd (Hub.capture h pg c) F iF bF = Hub.rd h F iF bF :=
  Hub.capture_same.rd (by decide) F iF bF eF

theorem Hub.raiseBit_canon {h : Hub} {pg : ℕ} {n : ℕ} {c : Cap} (H : Hub.Canon h) : Hub.Canon (Hub.raiseBit h pg n c) :=
  Hub.raiseBit_keeps (bears_canon 0x800000000000004000000000000000000000000000000000000000000000000000000000000000) (Sub.refl _) H

theorem Hub.raiseBit_same {h : Hub} {pg : ℕ} {n : ℕ} {c : Cap} : Hub.Same 0x800000000000004000000000000000000000000000000000000000000000000000000000000000 h (Hub.raiseBit h pg n c) :=
  Hub.raiseBit_keeps (bears_same 0x800000000000004000000000000000000000000000000000000000000000000000000000000000 h) (Sub.refl _) (fun _ => Hub.Same.refl _ _) (by decide)

theorem Hub.raiseBit_rd {h : Hub} {pg : ℕ} {n : ℕ} {c : Cap} {F : Fld} {iF bF : Nat} (eF : Nat.testBit 0x800000000000004000000000000000000000000000000000000000000000000000000000000000 F.kind = false) :
    Hub.rd (Hub.raiseBit h pg n c) F iF bF = Hub.rd h F iF bF :=
  Hub.raiseBit_same.rd (by decide) F iF bF eF

theorem Hub.refreshSummary_canon {h : Hub} (H : Hub.Canon h) : Hub.Canon (Hub.refreshSummary h) :=
  Hub.refreshSummary_keeps (bears_canon 0x10000000000000000000000000000) (Sub.refl _) H

theorem Hub.refreshSummary_same {h : Hub} : Hub.Same 0x10000000000000000000000000000 h (Hub.refreshSummary h) :=
  Hub.refreshSummary_keeps (bears_same 0x10000000000000000000000000000 h) (Sub.refl _) (fun _ => Hub.Same.refl _ _) (by decide)

theorem Hub.refreshSummary_rd {h : Hub} {F : Fld} {iF bF : Nat} (eF : Nat.testBit 0x10000000000000000000000000000 F.kind = false) :
    Hub.rd (Hub.refreshSummary h) F iF bF = Hub.rd h F iF bF :=
  Hub.refreshSummary_same.rd (by decide) F iF bF eF

theorem Hub.locketPut_canon {h : Hub} {r : LkRec} (H : Hub.Canon h) : Hub.Canon (Hub.locketPut h r) :=
  Hub.locketPut_keeps (bears_canon 0x2800000000000004000000000000000000000000000000000000000000000000000000000000400) (Sub.refl _) H

theorem Hub.locketPut_same {h : Hub} {r : LkRec} : Hub.Same 0x2800000000000004000000000000000000000000000000000000000000000000000000000000400 h (Hub.locketPut h r) :=
  Hub.locketPut_keeps (bears_same 0x2800000000000004000000000000000000000000000000000000000000000000000000000000400 h) (Sub.refl _) (fun _ => Hub.Same.refl _ _) (by decide)

theorem Hub.locketPut_rd {h : Hub} {r : LkRec} {F : Fld} {iF bF : Nat} (eF : Nat.testBit 0x2800000000000004000000000000000000000000000000000000000000000000000000000000400 F.kind = false) :
    Hub.rd (Hub.locketPut h r) F iF bF = Hub.rd h F iF bF :=
  Hub.locketPut_same.rd (by decide) F iF bF eF

theorem Hub.raise_canon {h : Hub} {pg : ℕ} {n : ℕ} {c : optParam Cap { }} (H : Hub.Canon h) : Hub.Canon (Hub.raise h pg n c) :=
  Hub.raise_keeps (bears_canon 0x2800000000000004000000000000000000000000000000000010000000000000000000000000400) (Sub.refl _) H

theorem Hub.raise_same {h : Hub} {pg : ℕ} {n : ℕ} {c : optParam Cap { }} : Hub.Same 0x2800000000000004000000000000000000000000000000000010000000000000000000000000400 h (Hub.raise h pg n c) :=
  Hub.raise_keeps (bears_same 0x2800000000000004000000000000000000000000000000000010000000000000000000000000400 h) (Sub.refl _) (fun _ => Hub.Same.refl _ _) (by decide)

theorem Hub.raise_rd {h : Hub} {pg : ℕ} {n : ℕ} {c : optParam Cap { }} {F : Fld} {iF bF : Nat} (eF : Nat.testBit 0x2800000000000004000000000000000000000000000000000010000000000000000000000000400 F.kind = false) :
    Hub.rd (Hub.raise h pg n c) F iF bF = Hub.rd h F iF bF :=
  Hub.raise_same.rd (by decide) F iF bF eF

theorem Hub.takeFrame_canon {p : ℕ} {f : RFrame} {h : Hub} (H : Hub.Canon h) : Hub.Canon (Hub.takeFrame p f h) :=
  Hub.takeFrame_keeps (bears_canon 0x2800000000000004000000000000000000000000000000000010000000000000000000000010400) (Sub.refl _) H

theorem Hub.takeFrame_same {p : ℕ} {f : RFrame} {h : Hub} : Hub.Same 0x2800000000000004000000000000000000000000000000000010000000000000000000000010400 h (Hub.takeFrame p f h) :=
  Hub.takeFrame_keeps (bears_same 0x2800000000000004000000000000000000000000000000000010000000000000000000000010400 h) (Sub.refl _) (fun _ => Hub.Same.refl _ _) (by decide)

theorem Hub.takeFrame_rd {p : ℕ} {f : RFrame} {h : Hub} {F : Fld} {iF bF : Nat} (eF : Nat.testBit 0x2800000000000004000000000000000000000000000000000010000000000000000000000010400 F.kind = false) :
    Hub.rd (Hub.takeFrame p f h) F iF bF = Hub.rd h F iF bF :=
  Hub.takeFrame_same.rd (by decide) F iF bF eF

theorem Hub.acceptFrame_canon {h : Hub} {p : ℕ} {l : ℕ} {f : LinkFrame} (H : Hub.Canon h) : Hub.Canon (Hub.acceptFrame h p l f) :=
  Hub.acceptFrame_keeps (bears_canon 0x100002800000000000004000200000000000000000000000000000010000000000000000000000010400) (Sub.refl _) H

theorem Hub.acceptFrame_same {h : Hub} {p : ℕ} {l : ℕ} {f : LinkFrame} : Hub.Same 0x100002800000000000004000200000000000000000000000000000010000000000000000000000010400 h (Hub.acceptFrame h p l f) :=
  Hub.acceptFrame_keeps (bears_same 0x100002800000000000004000200000000000000000000000000000010000000000000000000000010400 h) (Sub.refl _) (fun _ => Hub.Same.refl _ _) (by decide)

theorem Hub.acceptFrame_rd {h : Hub} {p : ℕ} {l : ℕ} {f : LinkFrame} {F : Fld} {iF bF : Nat} (eF : Nat.testBit 0x100002800000000000004000200000000000000000000000000000010000000000000000000000010400 F.kind = false) :
    Hub.rd (Hub.acceptFrame h p l f) F iF bF = Hub.rd h F iF bF :=
  Hub.acceptFrame_same.rd (by decide) F iF bF eF

theorem Hub.unask_canon {h : Hub} {n : ℕ} (H : Hub.Canon h) : Hub.Canon (Hub.unask h n) :=
  Hub.unask_keeps (bears_canon 0x400000000000000000000000000000000000000000000000000000000000000000000000000000000000000000) (Sub.refl _) H

theorem Hub.unask_same {h : Hub} {n : ℕ} : Hub.Same 0x400000000000000000000000000000000000000000000000000000000000000000000000000000000000000000 h (Hub.unask h n) :=
  Hub.unask_keeps (bears_same 0x400000000000000000000000000000000000000000000000000000000000000000000000000000000000000000 h) (Sub.refl _) (fun _ => Hub.Same.refl _ _) (by decide)

theorem Hub.unask_rd {h : Hub} {n : ℕ} {F : Fld} {iF bF : Nat} (eF : Nat.testBit 0x400000000000000000000000000000000000000000000000000000000000000000000000000000000000000000 F.kind = false) :
    Hub.rd (Hub.unask h n) F iF bF = Hub.rd h F iF bF :=
  Hub.unask_same.rd (by decide) F iF bF eF

theorem Hub.refreshArmed_canon {n : ℕ} {h : Hub} (H : Hub.Canon h) : Hub.Canon (Hub.refreshArmed n h) :=
  Hub.refreshArmed_keeps (bears_canon 0x100000000000000000000000000000000000000000000) (Sub.refl _) H

theorem Hub.refreshArmed_same {n : ℕ} {h : Hub} : Hub.Same 0x100000000000000000000000000000000000000000000 h (Hub.refreshArmed n h) :=
  Hub.refreshArmed_keeps (bears_same 0x100000000000000000000000000000000000000000000 h) (Sub.refl _) (fun _ => Hub.Same.refl _ _) (by decide)

theorem Hub.refreshArmed_rd {n : ℕ} {h : Hub} {F : Fld} {iF bF : Nat} (eF : Nat.testBit 0x100000000000000000000000000000000000000000000 F.kind = false) :
    Hub.rd (Hub.refreshArmed n h) F iF bF = Hub.rd h F iF bF :=
  Hub.refreshArmed_same.rd (by decide) F iF bF eF

theorem Hub.refreshAlloc_canon {h : Hub} (H : Hub.Canon h) : Hub.Canon (Hub.refreshAlloc h) :=
  Hub.refreshAlloc_keeps (bears_canon 0x100000000000000000000000000000000000000000000000000) (Sub.refl _) H

theorem Hub.refreshAlloc_same {h : Hub} : Hub.Same 0x100000000000000000000000000000000000000000000000000 h (Hub.refreshAlloc h) :=
  Hub.refreshAlloc_keeps (bears_same 0x100000000000000000000000000000000000000000000000000 h) (Sub.refl _) (fun _ => Hub.Same.refl _ _) (by decide)

theorem Hub.refreshAlloc_rd {h : Hub} {F : Fld} {iF bF : Nat} (eF : Nat.testBit 0x100000000000000000000000000000000000000000000000000 F.kind = false) :
    Hub.rd (Hub.refreshAlloc h) F iF bF = Hub.rd h F iF bF :=
  Hub.refreshAlloc_same.rd (by decide) F iF bF eF

theorem Hub.refreshVen_canon {k : ℕ} {h : Hub} (H : Hub.Canon h) : Hub.Canon (Hub.refreshVen k h) :=
  Hub.refreshVen_keeps (bears_canon 0x10000000000000000000000000000000000000000000000) (Sub.refl _) H

theorem Hub.refreshVen_same {k : ℕ} {h : Hub} : Hub.Same 0x10000000000000000000000000000000000000000000000 h (Hub.refreshVen k h) :=
  Hub.refreshVen_keeps (bears_same 0x10000000000000000000000000000000000000000000000 h) (Sub.refl _) (fun _ => Hub.Same.refl _ _) (by decide)

theorem Hub.refreshVen_rd {k : ℕ} {h : Hub} {F : Fld} {iF bF : Nat} (eF : Nat.testBit 0x10000000000000000000000000000000000000000000000 F.kind = false) :
    Hub.rd (Hub.refreshVen k h) F iF bF = Hub.rd h F iF bF :=
  Hub.refreshVen_same.rd (by decide) F iF bF eF

theorem Hub.refreshCause_canon {n : ℕ} {h : Hub} (H : Hub.Canon h) : Hub.Canon (Hub.refreshCause n h) :=
  Hub.refreshCause_keeps (bears_canon 0x1000000000000000000000000000000000000000000000000) (Sub.refl _) H

theorem Hub.refreshCause_same {n : ℕ} {h : Hub} : Hub.Same 0x1000000000000000000000000000000000000000000000000 h (Hub.refreshCause n h) :=
  Hub.refreshCause_keeps (bears_same 0x1000000000000000000000000000000000000000000000000 h) (Sub.refl _) (fun _ => Hub.Same.refl _ _) (by decide)

theorem Hub.refreshCause_rd {n : ℕ} {h : Hub} {F : Fld} {iF bF : Nat} (eF : Nat.testBit 0x1000000000000000000000000000000000000000000000000 F.kind = false) :
    Hub.rd (Hub.refreshCause n h) F iF bF = Hub.rd h F iF bF :=
  Hub.refreshCause_same.rd (by decide) F iF bF eF

theorem Hub.refreshBus_canon {h : Hub} (H : Hub.Canon h) : Hub.Canon (Hub.refreshBus h) :=
  Hub.refreshBus_keeps (bears_canon 0x101010100000000000000000000000000000000000000000000) (Sub.refl _) H

theorem Hub.refreshBus_same {h : Hub} : Hub.Same 0x101010100000000000000000000000000000000000000000000 h (Hub.refreshBus h) :=
  Hub.refreshBus_keeps (bears_same 0x101010100000000000000000000000000000000000000000000 h) (Sub.refl _) (fun _ => Hub.Same.refl _ _) (by decide)

theorem Hub.refreshBus_rd {h : Hub} {F : Fld} {iF bF : Nat} (eF : Nat.testBit 0x101010100000000000000000000000000000000000000000000 F.kind = false) :
    Hub.rd (Hub.refreshBus h) F iF bF = Hub.rd h F iF bF :=
  Hub.refreshBus_same.rd (by decide) F iF bF eF

theorem Hub.setSw_canon {h : Hub} {n : ℕ} {sw : ℕ} (H : Hub.Canon h) : Hub.Canon (Hub.setSw h n sw) :=
  Hub.setSw_keeps (bears_canon 0x100000000000000000000000000000000000000000000) (Sub.refl _) H

theorem Hub.setSw_same {h : Hub} {n : ℕ} {sw : ℕ} : Hub.Same 0x100000000000000000000000000000000000000000000 h (Hub.setSw h n sw) :=
  Hub.setSw_keeps (bears_same 0x100000000000000000000000000000000000000000000 h) (Sub.refl _) (fun _ => Hub.Same.refl _ _) (by decide)

theorem Hub.setSw_rd {h : Hub} {n : ℕ} {sw : ℕ} {F : Fld} {iF bF : Nat} (eF : Nat.testBit 0x100000000000000000000000000000000000000000000 F.kind = false) :
    Hub.rd (Hub.setSw h n sw) F iF bF = Hub.rd h F iF bF :=
  Hub.setSw_same.rd (by decide) F iF bF eF

theorem Hub.acceptIn_canon {h : Hub} {n : ℕ} {tok : ℕ} {ireq : ℕ} {arm : Bool} (H : Hub.Canon h) : Hub.Canon (Hub.acceptIn h n tok ireq arm) :=
  Hub.acceptIn_keeps (bears_canon 0x400000000000000000000000000000000000000101010100000000000000000000000000000000000000000000) (Sub.refl _) H

theorem Hub.acceptIn_same {h : Hub} {n : ℕ} {tok : ℕ} {ireq : ℕ} {arm : Bool} : Hub.Same 0x400000000000000000000000000000000000000101010100000000000000000000000000000000000000000000 h (Hub.acceptIn h n tok ireq arm) :=
  Hub.acceptIn_keeps (bears_same 0x400000000000000000000000000000000000000101010100000000000000000000000000000000000000000000 h) (Sub.refl _) (fun _ => Hub.Same.refl _ _) (by decide)

theorem Hub.acceptIn_rd {h : Hub} {n : ℕ} {tok : ℕ} {ireq : ℕ} {arm : Bool} {F : Fld} {iF bF : Nat} (eF : Nat.testBit 0x400000000000000000000000000000000000000101010100000000000000000000000000000000000000000000 F.kind = false) :
    Hub.rd (Hub.acceptIn h n tok ireq arm) F iF bF = Hub.rd h F iF bF :=
  Hub.acceptIn_same.rd (by decide) F iF bF eF

theorem Hub.ackField_canon {h : Hub} {p : ℕ} (H : Hub.Canon h) : Hub.Canon (Hub.ackField h p).2.2 :=
  Hub.ackField_keeps (bears_canon 0x10000) (Sub.refl _) H

theorem Hub.ackField_same {h : Hub} {p : ℕ} : Hub.Same 0x10000 h (Hub.ackField h p).2.2 :=
  Hub.ackField_keeps (bears_same 0x10000 h) (Sub.refl _) (fun _ => Hub.Same.refl _ _) (by decide)

theorem Hub.ackField_rd {h : Hub} {p : ℕ} {F : Fld} {iF bF : Nat} (eF : Nat.testBit 0x10000 F.kind = false) :
    Hub.rd (Hub.ackField h p).2.2 F iF bF = Hub.rd h F iF bF :=
  Hub.ackField_same.rd (by decide) F iF bF eF

theorem Hub.rollDone_canon {h : Hub} {p : ℕ} (H : Hub.Canon h) : Hub.Canon (Hub.rollDone h p) :=
  Hub.rollDone_keeps (bears_canon 0x4000000000000000000000000000000000000000000000000000000000010000) (Sub.refl _) H

theorem Hub.rollDone_same {h : Hub} {p : ℕ} : Hub.Same 0x4000000000000000000000000000000000000000000000000000000000010000 h (Hub.rollDone h p) :=
  Hub.rollDone_keeps (bears_same 0x4000000000000000000000000000000000000000000000000000000000010000 h) (Sub.refl _) (fun _ => Hub.Same.refl _ _) (by decide)

theorem Hub.rollDone_rd {h : Hub} {p : ℕ} {F : Fld} {iF bF : Nat} (eF : Nat.testBit 0x4000000000000000000000000000000000000000000000000000000000010000 F.kind = false) :
    Hub.rd (Hub.rollDone h p) F iF bF = Hub.rd h F iF bF :=
  Hub.rollDone_same.rd (by decide) F iF bF eF

theorem Hub.ackIn_canon {h : Hub} {p : ℕ} {v : ℕ} (H : Hub.Canon h) : Hub.Canon (Hub.ackIn h p v) :=
  Hub.ackIn_keeps (bears_canon 0x80000000000000000004000000000000000000000000000000000000000000000000000000100010000) (Sub.refl _) H

theorem Hub.ackIn_same {h : Hub} {p : ℕ} {v : ℕ} : Hub.Same 0x80000000000000000004000000000000000000000000000000000000000000000000000000100010000 h (Hub.ackIn h p v) :=
  Hub.ackIn_keeps (bears_same 0x80000000000000000004000000000000000000000000000000000000000000000000000000100010000 h) (Sub.refl _) (fun _ => Hub.Same.refl _ _) (by decide)

theorem Hub.ackIn_rd {h : Hub} {p : ℕ} {v : ℕ} {F : Fld} {iF bF : Nat} (eF : Nat.testBit 0x80000000000000000004000000000000000000000000000000000000000000000000000000100010000 F.kind = false) :
    Hub.rd (Hub.ackIn h p v) F iF bF = Hub.rd h F iF bF :=
  Hub.ackIn_same.rd (by decide) F iF bF eF

theorem Hub.setTwords_canon {h : Hub} {a : Nat} {ws : List Nat} (H : Hub.Canon h) : Hub.Canon (h.setTwords a ws) :=
  Hub.setTwords_keeps (bears_canon 0x8000000000000000000000000000000000000000000000000000000000000000000000000000) (Sub.refl _) H

theorem Hub.setTwords_same {h : Hub} {a : Nat} {ws : List Nat} : Hub.Same 0x8000000000000000000000000000000000000000000000000000000000000000000000000000 h (h.setTwords a ws) :=
  Hub.setTwords_keeps (bears_same 0x8000000000000000000000000000000000000000000000000000000000000000000000000000 h) (Sub.refl _) (fun _ => Hub.Same.refl _ _) (by decide)

theorem Hub.setTwords_rd {h : Hub} {a : Nat} {ws : List Nat} {F : Fld} {iF bF : Nat} (eF : Nat.testBit 0x8000000000000000000000000000000000000000000000000000000000000000000000000000 F.kind = false) :
    Hub.rd (h.setTwords a ws) F iF bF = Hub.rd h F iF bF :=
  Hub.setTwords_same.rd (by decide) F iF bF eF

theorem Hub.actWrite_canon {h : Hub} {v : ℕ} {c : optParam Cap { }} (H : Hub.Canon h) : Hub.Canon (Hub.actWrite h v c) :=
  Hub.actWrite_keeps (bears_canon 0x2808000000000004000000000000000000000000000000000010000000000000000000000000700) (Sub.refl _) H

theorem Hub.actWrite_same {h : Hub} {v : ℕ} {c : optParam Cap { }} : Hub.Same 0x2808000000000004000000000000000000000000000000000010000000000000000000000000700 h (Hub.actWrite h v c) :=
  Hub.actWrite_keeps (bears_same 0x2808000000000004000000000000000000000000000000000010000000000000000000000000700 h) (Sub.refl _) (fun _ => Hub.Same.refl _ _) (by decide)

theorem Hub.actWrite_rd {h : Hub} {v : ℕ} {c : optParam Cap { }} {F : Fld} {iF bF : Nat} (eF : Nat.testBit 0x2808000000000004000000000000000000000000000000000010000000000000000000000000700 F.kind = false) :
    Hub.rd (Hub.actWrite h v c) F iF bF = Hub.rd h F iF bF :=
  Hub.actWrite_same.rd (by decide) F iF bF eF

theorem Hub.refreshSlots_canon {h : Hub} (H : Hub.Canon h) : Hub.Canon (Hub.refreshSlots h) :=
  Hub.refreshSlots_keeps (bears_canon 0x4000) (Sub.refl _) H

theorem Hub.refreshSlots_same {h : Hub} : Hub.Same 0x4000 h (Hub.refreshSlots h) :=
  Hub.refreshSlots_keeps (bears_same 0x4000 h) (Sub.refl _) (fun _ => Hub.Same.refl _ _) (by decide)

theorem Hub.refreshSlots_rd {h : Hub} {F : Fld} {iF bF : Nat} (eF : Nat.testBit 0x4000 F.kind = false) :
    Hub.rd (Hub.refreshSlots h) F iF bF = Hub.rd h F iF bF :=
  Hub.refreshSlots_same.rd (by decide) F iF bF eF

theorem Hub.setUpd_canon {h : Hub} {st : ℕ} (H : Hub.Canon h) : Hub.Canon (Hub.setUpd h st) :=
  Hub.setUpd_keeps (bears_canon 0x4000100000000000000000000000000000000000000000000000000000004000) (Sub.refl _) H

theorem Hub.setUpd_same {h : Hub} {st : ℕ} : Hub.Same 0x4000100000000000000000000000000000000000000000000000000000004000 h (Hub.setUpd h st) :=
  Hub.setUpd_keeps (bears_same 0x4000100000000000000000000000000000000000000000000000000000004000 h) (Sub.refl _) (fun _ => Hub.Same.refl _ _) (by decide)

theorem Hub.setUpd_rd {h : Hub} {st : ℕ} {F : Fld} {iF bF : Nat} (eF : Nat.testBit 0x4000100000000000000000000000000000000000000000000000000000004000 F.kind = false) :
    Hub.rd (Hub.setUpd h st) F iF bF = Hub.rd h F iF bF :=
  Hub.setUpd_same.rd (by decide) F iF bF eF

theorem Hub.activateGo_canon {h : Hub} (H : Hub.Canon h) : Hub.Canon (Hub.activateGo h) :=
  Hub.activateGo_keeps (bears_canon 0x400010000000000000000000000000000000000000000000000000000000c000) (Sub.refl _) H

theorem Hub.activateGo_same {h : Hub} : Hub.Same 0x400010000000000000000000000000000000000000000000000000000000c000 h (Hub.activateGo h) :=
  Hub.activateGo_keeps (bears_same 0x400010000000000000000000000000000000000000000000000000000000c000 h) (Sub.refl _) (fun _ => Hub.Same.refl _ _) (by decide)

theorem Hub.activateGo_rd {h : Hub} {F : Fld} {iF bF : Nat} (eF : Nat.testBit 0x400010000000000000000000000000000000000000000000000000000000c000 F.kind = false) :
    Hub.rd (Hub.activateGo h) F iF bF = Hub.rd h F iF bF :=
  Hub.activateGo_same.rd (by decide) F iF bF eF

theorem Hub.countRd_canon {h : Hub} {a : ℕ} {n : ℕ} (H : Hub.Canon h) : Hub.Canon (Hub.countRd h a n) :=
  Hub.countRd_keeps (bears_canon 0x10000000000000000000000000000000000) (Sub.refl _) H

theorem Hub.countRd_same {h : Hub} {a : ℕ} {n : ℕ} : Hub.Same 0x10000000000000000000000000000000000 h (Hub.countRd h a n) :=
  Hub.countRd_keeps (bears_same 0x10000000000000000000000000000000000 h) (Sub.refl _) (fun _ => Hub.Same.refl _ _) (by decide)

theorem Hub.countRd_rd {h : Hub} {a : ℕ} {n : ℕ} {F : Fld} {iF bF : Nat} (eF : Nat.testBit 0x10000000000000000000000000000000000 F.kind = false) :
    Hub.rd (Hub.countRd h a n) F iF bF = Hub.rd h F iF bF :=
  Hub.countRd_same.rd (by decide) F iF bF eF

theorem Hub.fetched_canon {h : Hub} {n : ℕ} {bytes : ℕ} (H : Hub.Canon h) : Hub.Canon (Hub.fetched h n bytes) :=
  Hub.fetched_keeps (bears_canon 0x10000000000000000000000000000000000) (Sub.refl _) H

theorem Hub.fetched_same {h : Hub} {n : ℕ} {bytes : ℕ} : Hub.Same 0x10000000000000000000000000000000000 h (Hub.fetched h n bytes) :=
  Hub.fetched_keeps (bears_same 0x10000000000000000000000000000000000 h) (Sub.refl _) (fun _ => Hub.Same.refl _ _) (by decide)

theorem Hub.fetched_rd {h : Hub} {n : ℕ} {bytes : ℕ} {F : Fld} {iF bF : Nat} (eF : Nat.testBit 0x10000000000000000000000000000000000 F.kind = false) :
    Hub.rd (Hub.fetched h n bytes) F iF bF = Hub.rd h F iF bF :=
  Hub.fetched_same.rd (by decide) F iF bF eF

theorem Hub.headUnderrun_canon {h : Hub} {n : ℕ} {line : ℕ} {pixel : ℕ} (H : Hub.Canon h) : Hub.Canon (Hub.headUnderrun h n line pixel) :=
  Hub.headUnderrun_keeps (bears_canon 0x2800000000000004000000000000000000000000000010000030000000000000000000000000400) (Sub.refl _) H

theorem Hub.headUnderrun_same {h : Hub} {n : ℕ} {line : ℕ} {pixel : ℕ} : Hub.Same 0x2800000000000004000000000000000000000000000010000030000000000000000000000000400 h (Hub.headUnderrun h n line pixel) :=
  Hub.headUnderrun_keeps (bears_same 0x2800000000000004000000000000000000000000000010000030000000000000000000000000400 h) (Sub.refl _) (fun _ => Hub.Same.refl _ _) (by decide)

theorem Hub.headUnderrun_rd {h : Hub} {n : ℕ} {line : ℕ} {pixel : ℕ} {F : Fld} {iF bF : Nat} (eF : Nat.testBit 0x2800000000000004000000000000000000000000000010000030000000000000000000000000400 F.kind = false) :
    Hub.rd (Hub.headUnderrun h n line pixel) F iF bF = Hub.rd h F iF bF :=
  Hub.headUnderrun_same.rd (by decide) F iF bF eF

theorem Hub.free_canon {h : Hub} (H : Hub.Canon h) : Hub.Canon (Hub.free h).2 :=
  Hub.free_keeps (bears_canon 0x800000000000000000000000000000000000000000000000000000000000000000000000000000) (Sub.refl _) H

theorem Hub.free_same {h : Hub} : Hub.Same 0x800000000000000000000000000000000000000000000000000000000000000000000000000000 h (Hub.free h).2 :=
  Hub.free_keeps (bears_same 0x800000000000000000000000000000000000000000000000000000000000000000000000000000 h) (Sub.refl _) (fun _ => Hub.Same.refl _ _) (by decide)

theorem Hub.free_rd {h : Hub} {F : Fld} {iF bF : Nat} (eF : Nat.testBit 0x800000000000000000000000000000000000000000000000000000000000000000000000000000 F.kind = false) :
    Hub.rd (Hub.free h).2 F iF bF = Hub.rd h F iF bF :=
  Hub.free_same.rd (by decide) F iF bF eF

theorem Hub.starve_canon {n : ℕ} {h : Hub} (H : Hub.Canon h) : Hub.Canon (Hub.starve n h) :=
  Hub.starve_keeps (bears_canon 0x2800000000000004000000000000000000000000000010000030000000000000000000000000400) (Sub.refl _) H

theorem Hub.starve_same {n : ℕ} {h : Hub} : Hub.Same 0x2800000000000004000000000000000000000000000010000030000000000000000000000000400 h (Hub.starve n h) :=
  Hub.starve_keeps (bears_same 0x2800000000000004000000000000000000000000000010000030000000000000000000000000400 h) (Sub.refl _) (fun _ => Hub.Same.refl _ _) (by decide)

theorem Hub.starve_rd {n : ℕ} {h : Hub} {F : Fld} {iF bF : Nat} (eF : Nat.testBit 0x2800000000000004000000000000000000000000000010000030000000000000000000000000400 F.kind = false) :
    Hub.rd (Hub.starve n h) F iF bF = Hub.rd h F iF bF :=
  Hub.starve_same.rd (by decide) F iF bF eF

theorem Hub.notReady_canon {h : Hub} (H : Hub.Canon h) : Hub.Canon (Hub.notReady h) :=
  Hub.notReady_keeps (bears_canon 0x10000000000000000000000000000000000) (Sub.refl _) H

theorem Hub.notReady_same {h : Hub} : Hub.Same 0x10000000000000000000000000000000000 h (Hub.notReady h) :=
  Hub.notReady_keeps (bears_same 0x10000000000000000000000000000000000 h) (Sub.refl _) (fun _ => Hub.Same.refl _ _) (by decide)

theorem Hub.notReady_rd {h : Hub} {F : Fld} {iF bF : Nat} (eF : Nat.testBit 0x10000000000000000000000000000000000 F.kind = false) :
    Hub.rd (Hub.notReady h) F iF bF = Hub.rd h F iF bF :=
  Hub.notReady_same.rd (by decide) F iF bF eF

theorem Hub.lackMem_canon {n : ℕ} {since : ℕ} {h : Hub} (H : Hub.Canon h) : Hub.Canon (Hub.lackMem n since h) :=
  Hub.lackMem_keeps (bears_canon 0x2800000000000004000000000000000000000000000010000030000000000000000000000000400) (Sub.refl _) H

theorem Hub.lackMem_same {n : ℕ} {since : ℕ} {h : Hub} : Hub.Same 0x2800000000000004000000000000000000000000000010000030000000000000000000000000400 h (Hub.lackMem n since h) :=
  Hub.lackMem_keeps (bears_same 0x2800000000000004000000000000000000000000000010000030000000000000000000000000400 h) (Sub.refl _) (fun _ => Hub.Same.refl _ _) (by decide)

theorem Hub.lackMem_rd {n : ℕ} {since : ℕ} {h : Hub} {F : Fld} {iF bF : Nat} (eF : Nat.testBit 0x2800000000000004000000000000000000000000000010000030000000000000000000000000400 F.kind = false) :
    Hub.rd (Hub.lackMem n since h) F iF bF = Hub.rd h F iF bF :=
  Hub.lackMem_same.rd (by decide) F iF bF eF

theorem Hub.activeEnd_canon {h0 : Hub} {n : ℕ} {low : ℕ} (H : Hub.Canon h0) : Hub.Canon (Hub.activeEnd h0 n low) :=
  Hub.activeEnd_keeps (bears_canon 0x2800000000000004000000000000000000000000000010000030000000000000000000000000400) (Sub.refl _) H

theorem Hub.activeEnd_same {h0 : Hub} {n : ℕ} {low : ℕ} : Hub.Same 0x2800000000000004000000000000000000000000000010000030000000000000000000000000400 h0 (Hub.activeEnd h0 n low) :=
  Hub.activeEnd_keeps (bears_same 0x2800000000000004000000000000000000000000000010000030000000000000000000000000400 h0) (Sub.refl _) (fun _ => Hub.Same.refl _ _) (by decide)

theorem Hub.activeEnd_rd {h0 : Hub} {n : ℕ} {low : ℕ} {F : Fld} {iF bF : Nat} (eF : Nat.testBit 0x2800000000000004000000000000000000000000000010000030000000000000000000000000400 F.kind = false) :
    Hub.rd (Hub.activeEnd h0 n low) F iF bF = Hub.rd h0 F iF bF :=
  Hub.activeEnd_same.rd (by decide) F iF bF eF

theorem Hub.adapt_canon {l : ℕ} {h : Hub} (H : Hub.Canon h) : Hub.Canon (Hub.adapt l h) :=
  Hub.adapt_keeps (bears_canon 0x800000000000000000000000000000000000000000000000000000000000000000000100000000) (Sub.refl _) H

theorem Hub.adapt_same {l : ℕ} {h : Hub} : Hub.Same 0x800000000000000000000000000000000000000000000000000000000000000000000100000000 h (Hub.adapt l h) :=
  Hub.adapt_keeps (bears_same 0x800000000000000000000000000000000000000000000000000000000000000000000100000000 h) (Sub.refl _) (fun _ => Hub.Same.refl _ _) (by decide)

theorem Hub.adapt_rd {l : ℕ} {h : Hub} {F : Fld} {iF bF : Nat} (eF : Nat.testBit 0x800000000000000000000000000000000000000000000000000000000000000000000100000000 F.kind = false) :
    Hub.rd (Hub.adapt l h) F iF bF = Hub.rd h F iF bF :=
  Hub.adapt_same.rd (by decide) F iF bF eF

theorem Hub.refreshGap_canon {h : Hub} {r : ℕ} (H : Hub.Canon h) : Hub.Canon (Hub.refreshGap h r) :=
  Hub.refreshGap_keeps (bears_canon 0x800000000000000000000000000000) (Sub.refl _) H

theorem Hub.refreshGap_same {h : Hub} {r : ℕ} : Hub.Same 0x800000000000000000000000000000 h (Hub.refreshGap h r) :=
  Hub.refreshGap_keeps (bears_same 0x800000000000000000000000000000 h) (Sub.refl _) (fun _ => Hub.Same.refl _ _) (by decide)

theorem Hub.refreshGap_rd {h : Hub} {r : ℕ} {F : Fld} {iF bF : Nat} (eF : Nat.testBit 0x800000000000000000000000000000 F.kind = false) :
    Hub.rd (Hub.refreshGap h r) F iF bF = Hub.rd h F iF bF :=
  Hub.refreshGap_same.rd (by decide) F iF bF eF

theorem Hub.addGap_canon {h : Hub} {r : ℕ} {a : ℕ} {b : ℕ} (H : Hub.Canon h) : Hub.Canon (Hub.addGap h r a b) :=
  Hub.addGap_keeps (bears_canon 0x2000000000000000000000000000000000000000000000000000000800000000000000000000000000000) (Sub.refl _) H

theorem Hub.addGap_same {h : Hub} {r : ℕ} {a : ℕ} {b : ℕ} : Hub.Same 0x2000000000000000000000000000000000000000000000000000000800000000000000000000000000000 h (Hub.addGap h r a b) :=
  Hub.addGap_keeps (bears_same 0x2000000000000000000000000000000000000000000000000000000800000000000000000000000000000 h) (Sub.refl _) (fun _ => Hub.Same.refl _ _) (by decide)

theorem Hub.addGap_rd {h : Hub} {r : ℕ} {a : ℕ} {b : ℕ} {F : Fld} {iF bF : Nat} (eF : Nat.testBit 0x2000000000000000000000000000000000000000000000000000000800000000000000000000000000000 F.kind = false) :
    Hub.rd (Hub.addGap h r a b) F iF bF = Hub.rd h F iF bF :=
  Hub.addGap_same.rd (by decide) F iF bF eF

theorem Hub.addRounds_canon {h : Hub} {e : ℕ} {cs : List Head} (H : Hub.Canon h) : Hub.Canon (Hub.addRounds h e cs) :=
  Hub.addRounds_keeps (bears_canon 0x100000000000000000000) (Sub.refl _) H

theorem Hub.addRounds_same {h : Hub} {e : ℕ} {cs : List Head} : Hub.Same 0x100000000000000000000 h (Hub.addRounds h e cs) :=
  Hub.addRounds_keeps (bears_same 0x100000000000000000000 h) (Sub.refl _) (fun _ => Hub.Same.refl _ _) (by decide)

theorem Hub.addRounds_rd {h : Hub} {e : ℕ} {cs : List Head} {F : Fld} {iF bF : Nat} (eF : Nat.testBit 0x100000000000000000000 F.kind = false) :
    Hub.rd (Hub.addRounds h e cs) F iF bF = Hub.rd h F iF bF :=
  Hub.addRounds_same.rd (by decide) F iF bF eF

theorem Hub.admitTargets_canon {h : Hub} {k : ℕ} {cls : ℕ} {ts : List ℕ} (H : Hub.Canon h) : Hub.Canon (Hub.admitTargets h k cls ts).1 :=
  Hub.admitTargets_keeps (bears_canon 0x2000000000000000000) (Sub.refl _) H

theorem Hub.admitTargets_same {h : Hub} {k : ℕ} {cls : ℕ} {ts : List ℕ} : Hub.Same 0x2000000000000000000 h (Hub.admitTargets h k cls ts).1 :=
  Hub.admitTargets_keeps (bears_same 0x2000000000000000000 h) (Sub.refl _) (fun _ => Hub.Same.refl _ _) (by decide)

theorem Hub.admitTargets_rd {h : Hub} {k : ℕ} {cls : ℕ} {ts : List ℕ} {F : Fld} {iF bF : Nat} (eF : Nat.testBit 0x2000000000000000000 F.kind = false) :
    Hub.rd (Hub.admitTargets h k cls ts).1 F iF bF = Hub.rd h F iF bF :=
  Hub.admitTargets_same.rd (by decide) F iF bF eF

theorem Hub.shaperSet_canon {h : Hub} {e : ℕ} {c : ℕ} {b : Shaper} (H : Hub.Canon h) : Hub.Canon (Hub.shaperSet h e c b) :=
  Hub.shaperSet_keeps (bears_canon 0x400000000000000000000000000000000000000000000000000000000000100000000000000000000) (Sub.refl _) H

theorem Hub.shaperSet_same {h : Hub} {e : ℕ} {c : ℕ} {b : Shaper} : Hub.Same 0x400000000000000000000000000000000000000000000000000000000000100000000000000000000 h (Hub.shaperSet h e c b) :=
  Hub.shaperSet_keeps (bears_same 0x400000000000000000000000000000000000000000000000000000000000100000000000000000000 h) (Sub.refl _) (fun _ => Hub.Same.refl _ _) (by decide)

theorem Hub.shaperSet_rd {h : Hub} {e : ℕ} {c : ℕ} {b : Shaper} {F : Fld} {iF bF : Nat} (eF : Nat.testBit 0x400000000000000000000000000000000000000000000000000000000000100000000000000000000 F.kind = false) :
    Hub.rd (Hub.shaperSet h e c b) F iF bF = Hub.rd h F iF bF :=
  Hub.shaperSet_same.rd (by decide) F iF bF eF

theorem Hub.wheelEnter_canon {h : Hub} {e : ℕ} {c : ℕ} {net : ℕ} (H : Hub.Canon h) : Hub.Canon (Hub.wheelEnter h e c net) :=
  Hub.wheelEnter_keeps (bears_canon 0x100000000000000000000) (Sub.refl _) H

theorem Hub.wheelEnter_same {h : Hub} {e : ℕ} {c : ℕ} {net : ℕ} : Hub.Same 0x100000000000000000000 h (Hub.wheelEnter h e c net) :=
  Hub.wheelEnter_keeps (bears_same 0x100000000000000000000 h) (Sub.refl _) (fun _ => Hub.Same.refl _ _) (by decide)

theorem Hub.wheelEnter_rd {h : Hub} {e : ℕ} {c : ℕ} {net : ℕ} {F : Fld} {iF bF : Nat} (eF : Nat.testBit 0x100000000000000000000 F.kind = false) :
    Hub.rd (Hub.wheelEnter h e c net) F iF bF = Hub.rd h F iF bF :=
  Hub.wheelEnter_same.rd (by decide) F iF bF eF

theorem Hub.shaperEnd_canon {h : Hub} {e : ℕ} {c : ℕ} (H : Hub.Canon h) : Hub.Canon (Hub.shaperEnd h e c) :=
  Hub.shaperEnd_keeps (bears_canon 0x400000000000000000000000000000000000000000000000000000000000100000000000000000000) (Sub.refl _) H

theorem Hub.shaperEnd_same {h : Hub} {e : ℕ} {c : ℕ} : Hub.Same 0x400000000000000000000000000000000000000000000000000000000000100000000000000000000 h (Hub.shaperEnd h e c) :=
  Hub.shaperEnd_keeps (bears_same 0x400000000000000000000000000000000000000000000000000000000000100000000000000000000 h) (Sub.refl _) (fun _ => Hub.Same.refl _ _) (by decide)

theorem Hub.shaperEnd_rd {h : Hub} {e : ℕ} {c : ℕ} {F : Fld} {iF bF : Nat} (eF : Nat.testBit 0x400000000000000000000000000000000000000000000000000000000000100000000000000000000 F.kind = false) :
    Hub.rd (Hub.shaperEnd h e c) F iF bF = Hub.rd h F iF bF :=
  Hub.shaperEnd_same.rd (by decide) F iF bF eF

theorem Hub.afterCell_canon {h : Hub} {e : ℕ} {x : Head} {charge : ℤ} {shaped : Bool} {last : Bool} (H : Hub.Canon h) : Hub.Canon (Hub.afterCell h e x charge shaped last) :=
  Hub.afterCell_keeps (bears_canon 0x400000000000000000000000000000000000000000000000000000000000100000000000000000000) (Sub.refl _) H

theorem Hub.afterCell_same {h : Hub} {e : ℕ} {x : Head} {charge : ℤ} {shaped : Bool} {last : Bool} : Hub.Same 0x400000000000000000000000000000000000000000000000000000000000100000000000000000000 h (Hub.afterCell h e x charge shaped last) :=
  Hub.afterCell_keeps (bears_same 0x400000000000000000000000000000000000000000000000000000000000100000000000000000000 h) (Sub.refl _) (fun _ => Hub.Same.refl _ _) (by decide)

theorem Hub.afterCell_rd {h : Hub} {e : ℕ} {x : Head} {charge : ℤ} {shaped : Bool} {last : Bool} {F : Fld} {iF bF : Nat} (eF : Nat.testBit 0x400000000000000000000000000000000000000000000000000000000000100000000000000000000 F.kind = false) :
    Hub.rd (Hub.afterCell h e x charge shaped last) F iF bF = Hub.rd h F iF bF :=
  Hub.afterCell_same.rd (by decide) F iF bF eF

theorem Hub.ctlSend_canon {h : Hub} {m : CtlMsg} (H : Hub.Canon h) : Hub.Canon (Hub.ctlSend h m) :=
  Hub.ctlSend_keeps (bears_canon 0x8000000000000000000000000000000000000000000000000000000000000000000000000000000) (Sub.refl _) H

theorem Hub.ctlSend_same {h : Hub} {m : CtlMsg} : Hub.Same 0x8000000000000000000000000000000000000000000000000000000000000000000000000000000 h (Hub.ctlSend h m) :=
  Hub.ctlSend_keeps (bears_same 0x8000000000000000000000000000000000000000000000000000000000000000000000000000000 h) (Sub.refl _) (fun _ => Hub.Same.refl _ _) (by decide)

theorem Hub.ctlSend_rd {h : Hub} {m : CtlMsg} {F : Fld} {iF bF : Nat} (eF : Nat.testBit 0x8000000000000000000000000000000000000000000000000000000000000000000000000000000 F.kind = false) :
    Hub.rd (Hub.ctlSend h m) F iF bF = Hub.rd h F iF bF :=
  Hub.ctlSend_same.rd (by decide) F iF bF eF

theorem Hub.ctlAsk_canon {h : Hub} {typ : ℕ} {dst : ℕ} {body : Bytes} (H : Hub.Canon h) : Hub.Canon (Hub.ctlAsk h typ dst body) :=
  Hub.ctlAsk_keeps (bears_canon 0x8000000000000000000000000000000000000000000000000000000000000010000000000000000) (Sub.refl _) H

theorem Hub.ctlAsk_same {h : Hub} {typ : ℕ} {dst : ℕ} {body : Bytes} : Hub.Same 0x8000000000000000000000000000000000000000000000000000000000000010000000000000000 h (Hub.ctlAsk h typ dst body) :=
  Hub.ctlAsk_keeps (bears_same 0x8000000000000000000000000000000000000000000000000000000000000010000000000000000 h) (Sub.refl _) (fun _ => Hub.Same.refl _ _) (by decide)

theorem Hub.ctlAsk_rd {h : Hub} {typ : ℕ} {dst : ℕ} {body : Bytes} {F : Fld} {iF bF : Nat} (eF : Nat.testBit 0x8000000000000000000000000000000000000000000000000000000000000010000000000000000 F.kind = false) :
    Hub.rd (Hub.ctlAsk h typ dst body) F iF bF = Hub.rd h F iF bF :=
  Hub.ctlAsk_same.rd (by decide) F iF bF eF

theorem Hub.toCrowns_canon {h : Hub} {typ : ℕ} {body : Bytes} (H : Hub.Canon h) : Hub.Canon (Hub.toCrowns h typ body) :=
  Hub.toCrowns_keeps (bears_canon 0x8000000000000000000000000000000000000000000000000000000000000010000000000000000) (Sub.refl _) H

theorem Hub.toCrowns_same {h : Hub} {typ : ℕ} {body : Bytes} : Hub.Same 0x8000000000000000000000000000000000000000000000000000000000000010000000000000000 h (Hub.toCrowns h typ body) :=
  Hub.toCrowns_keeps (bears_same 0x8000000000000000000000000000000000000000000000000000000000000010000000000000000 h) (Sub.refl _) (fun _ => Hub.Same.refl _ _) (by decide)

theorem Hub.toCrowns_rd {h : Hub} {typ : ℕ} {body : Bytes} {F : Fld} {iF bF : Nat} (eF : Nat.testBit 0x8000000000000000000000000000000000000000000000000000000000000010000000000000000 F.kind = false) :
    Hub.rd (Hub.toCrowns h typ body) F iF bF = Hub.rd h F iF bF :=
  Hub.toCrowns_same.rd (by decide) F iF bF eF

theorem Hub.crtNotice_canon {h : Hub} {event : ℕ} {point : ℕ} {tid : ℕ} {cap : ℕ} {total : ℕ} (H : Hub.Canon h) : Hub.Canon (Hub.crtNotice h event point tid cap total) :=
  Hub.crtNotice_keeps (bears_canon 0x8000000000000000000000000000000000000000000000000000000000000010000000000000000) (Sub.refl _) H

theorem Hub.crtNotice_same {h : Hub} {event : ℕ} {point : ℕ} {tid : ℕ} {cap : ℕ} {total : ℕ} : Hub.Same 0x8000000000000000000000000000000000000000000000000000000000000010000000000000000 h (Hub.crtNotice h event point tid cap total) :=
  Hub.crtNotice_keeps (bears_same 0x8000000000000000000000000000000000000000000000000000000000000010000000000000000 h) (Sub.refl _) (fun _ => Hub.Same.refl _ _) (by decide)

theorem Hub.crtNotice_rd {h : Hub} {event : ℕ} {point : ℕ} {tid : ℕ} {cap : ℕ} {total : ℕ} {F : Fld} {iF bF : Nat} (eF : Nat.testBit 0x8000000000000000000000000000000000000000000000000000000000000010000000000000000 F.kind = false) :
    Hub.rd (Hub.crtNotice h event point tid cap total) F iF bF = Hub.rd h F iF bF :=
  Hub.crtNotice_same.rd (by decide) F iF bF eF

theorem Hub.refreshCap_canon {h : Hub} (H : Hub.Canon h) : Hub.Canon (Hub.refreshCap h) :=
  Hub.refreshCap_keeps (bears_canon 0xa800000000000004000000000000000000000000000000000010000000000010000000000000404) (Sub.refl _) H

theorem Hub.refreshCap_same {h : Hub} : Hub.Same 0xa800000000000004000000000000000000000000000000000010000000000010000000000000404 h (Hub.refreshCap h) :=
  Hub.refreshCap_keeps (bears_same 0xa800000000000004000000000000000000000000000000000010000000000010000000000000404 h) (Sub.refl _) (fun _ => Hub.Same.refl _ _) (by decide)

theorem Hub.refreshCap_rd {h : Hub} {F : Fld} {iF bF : Nat} (eF : Nat.testBit 0xa800000000000004000000000000000000000000000000000010000000000010000000000000404 F.kind = false) :
    Hub.rd (Hub.refreshCap h) F iF bF = Hub.rd h F iF bF :=
  Hub.refreshCap_same.rd (by decide) F iF bF eF

theorem Hub.refreshLpest_canon {h : Hub} (H : Hub.Canon h) : Hub.Canon (Hub.refreshLpest h) :=
  Hub.refreshLpest_keeps (bears_canon 0x2800000000000004000000000000000000000000000000000010000000000000000000000000408) (Sub.refl _) H

theorem Hub.refreshLpest_same {h : Hub} : Hub.Same 0x2800000000000004000000000000000000000000000000000010000000000000000000000000408 h (Hub.refreshLpest h) :=
  Hub.refreshLpest_keeps (bears_same 0x2800000000000004000000000000000000000000000000000010000000000000000000000000408 h) (Sub.refl _) (fun _ => Hub.Same.refl _ _) (by decide)

theorem Hub.refreshLpest_rd {h : Hub} {F : Fld} {iF bF : Nat} (eF : Nat.testBit 0x2800000000000004000000000000000000000000000000000010000000000000000000000000408 F.kind = false) :
    Hub.rd (Hub.refreshLpest h) F iF bF = Hub.rd h F iF bF :=
  Hub.refreshLpest_same.rd (by decide) F iF bF eF

theorem Hub.moveDomain_canon {d : ℕ} {h : Hub} (H : Hub.Canon h) : Hub.Canon (Hub.moveDomain d h) :=
  Hub.moveDomain_keeps (bears_canon 0x10) (Sub.refl _) H

theorem Hub.moveDomain_same {d : ℕ} {h : Hub} : Hub.Same 0x10 h (Hub.moveDomain d h) :=
  Hub.moveDomain_keeps (bears_same 0x10 h) (Sub.refl _) (fun _ => Hub.Same.refl _ _) (by decide)

theorem Hub.moveDomain_rd {d : ℕ} {h : Hub} {F : Fld} {iF bF : Nat} (eF : Nat.testBit 0x10 F.kind = false) :
    Hub.rd (Hub.moveDomain d h) F iF bF = Hub.rd h F iF bF :=
  Hub.moveDomain_same.rd (by decide) F iF bF eF

theorem Hub.refreshDomains_canon {h : Hub} (H : Hub.Canon h) : Hub.Canon (Hub.refreshDomains h) :=
  Hub.refreshDomains_keeps (bears_canon 0x10) (Sub.refl _) H

theorem Hub.refreshDomains_same {h : Hub} : Hub.Same 0x10 h (Hub.refreshDomains h) :=
  Hub.refreshDomains_keeps (bears_same 0x10 h) (Sub.refl _) (fun _ => Hub.Same.refl _ _) (by decide)

theorem Hub.refreshDomains_rd {h : Hub} {F : Fld} {iF bF : Nat} (eF : Nat.testBit 0x10 F.kind = false) :
    Hub.rd (Hub.refreshDomains h) F iF bF = Hub.rd h F iF bF :=
  Hub.refreshDomains_same.rd (by decide) F iF bF eF

theorem Hub.refreshVotes_canon {h : Hub} (H : Hub.Canon h) : Hub.Canon (Hub.refreshVotes h) :=
  Hub.refreshVotes_keeps (bears_canon 0x10) (Sub.refl _) H

theorem Hub.refreshVotes_same {h : Hub} : Hub.Same 0x10 h (Hub.refreshVotes h) :=
  Hub.refreshVotes_keeps (bears_same 0x10 h) (Sub.refl _) (fun _ => Hub.Same.refl _ _) (by decide)

theorem Hub.refreshVotes_rd {h : Hub} {F : Fld} {iF bF : Nat} (eF : Nat.testBit 0x10 F.kind = false) :
    Hub.rd (Hub.refreshVotes h) F iF bF = Hub.rd h F iF bF :=
  Hub.refreshVotes_same.rd (by decide) F iF bF eF

theorem Hub.refreshFree_canon {h : Hub} (H : Hub.Canon h) : Hub.Canon (Hub.refreshFree h) :=
  Hub.refreshFree_keeps (bears_canon 0x10000000000000000) (Sub.refl _) H

theorem Hub.refreshFree_same {h : Hub} : Hub.Same 0x10000000000000000 h (Hub.refreshFree h) :=
  Hub.refreshFree_keeps (bears_same 0x10000000000000000 h) (Sub.refl _) (fun _ => Hub.Same.refl _ _) (by decide)

theorem Hub.refreshFree_rd {h : Hub} {F : Fld} {iF bF : Nat} (eF : Nat.testBit 0x10000000000000000 F.kind = false) :
    Hub.rd (Hub.refreshFree h) F iF bF = Hub.rd h F iF bF :=
  Hub.refreshFree_same.rd (by decide) F iF bF eF

theorem Hub.refreshUpstat_canon {h : Hub} (H : Hub.Canon h) : Hub.Canon (Hub.refreshUpstat h) :=
  Hub.refreshUpstat_keeps (bears_canon 0x20000000000000000) (Sub.refl _) H

theorem Hub.refreshUpstat_same {h : Hub} : Hub.Same 0x20000000000000000 h (Hub.refreshUpstat h) :=
  Hub.refreshUpstat_keeps (bears_same 0x20000000000000000 h) (Sub.refl _) (fun _ => Hub.Same.refl _ _) (by decide)

theorem Hub.refreshUpstat_rd {h : Hub} {F : Fld} {iF bF : Nat} (eF : Nat.testBit 0x20000000000000000 F.kind = false) :
    Hub.rd (Hub.refreshUpstat h) F iF bF = Hub.rd h F iF bF :=
  Hub.refreshUpstat_same.rd (by decide) F iF bF eF

theorem Hub.refreshThr_canon {h : Hub} (H : Hub.Canon h) : Hub.Canon (Hub.refreshThr h) :=
  Hub.refreshThr_keeps (bears_canon 0x2000000000000000000) (Sub.refl _) H

theorem Hub.refreshThr_same {h : Hub} : Hub.Same 0x2000000000000000000 h (Hub.refreshThr h) :=
  Hub.refreshThr_keeps (bears_same 0x2000000000000000000 h) (Sub.refl _) (fun _ => Hub.Same.refl _ _) (by decide)

theorem Hub.refreshThr_rd {h : Hub} {F : Fld} {iF bF : Nat} (eF : Nat.testBit 0x2000000000000000000 F.kind = false) :
    Hub.rd (Hub.refreshThr h) F iF bF = Hub.rd h F iF bF :=
  Hub.refreshThr_same.rd (by decide) F iF bF eF

theorem Hub.refreshTx_canon {l : ℕ} {h : Hub} (H : Hub.Canon h) : Hub.Canon (Hub.refreshTx l h) :=
  Hub.refreshTx_keeps (bears_canon 0x100000000) (Sub.refl _) H

theorem Hub.refreshTx_same {l : ℕ} {h : Hub} : Hub.Same 0x100000000 h (Hub.refreshTx l h) :=
  Hub.refreshTx_keeps (bears_same 0x100000000 h) (Sub.refl _) (fun _ => Hub.Same.refl _ _) (by decide)

theorem Hub.refreshTx_rd {l : ℕ} {h : Hub} {F : Fld} {iF bF : Nat} (eF : Nat.testBit 0x100000000 F.kind = false) :
    Hub.rd (Hub.refreshTx l h) F iF bF = Hub.rd h F iF bF :=
  Hub.refreshTx_same.rd (by decide) F iF bF eF

theorem Hub.refreshBudget_canon {h : Hub} (H : Hub.Canon h) : Hub.Canon (Hub.refreshBudget h) :=
  Hub.refreshBudget_keeps (bears_canon 0x10000000000000000000000000000) (Sub.refl _) H

theorem Hub.refreshBudget_same {h : Hub} : Hub.Same 0x10000000000000000000000000000 h (Hub.refreshBudget h) :=
  Hub.refreshBudget_keeps (bears_same 0x10000000000000000000000000000 h) (Sub.refl _) (fun _ => Hub.Same.refl _ _) (by decide)

theorem Hub.refreshBudget_rd {h : Hub} {F : Fld} {iF bF : Nat} (eF : Nat.testBit 0x10000000000000000000000000000 F.kind = false) :
    Hub.rd (Hub.refreshBudget h) F iF bF = Hub.rd h F iF bF :=
  Hub.refreshBudget_same.rd (by decide) F iF bF eF

theorem Hub.refreshVb_canon {n : ℕ} {h : Hub} (H : Hub.Canon h) : Hub.Canon (Hub.refreshVb n h) :=
  Hub.refreshVb_keeps (bears_canon 0x10000000000000000000000000000) (Sub.refl _) H

theorem Hub.refreshVb_same {n : ℕ} {h : Hub} : Hub.Same 0x10000000000000000000000000000 h (Hub.refreshVb n h) :=
  Hub.refreshVb_keeps (bears_same 0x10000000000000000000000000000 h) (Sub.refl _) (fun _ => Hub.Same.refl _ _) (by decide)

theorem Hub.refreshVb_rd {n : ℕ} {h : Hub} {F : Fld} {iF bF : Nat} (eF : Nat.testBit 0x10000000000000000000000000000 F.kind = false) :
    Hub.rd (Hub.refreshVb n h) F iF bF = Hub.rd h F iF bF :=
  Hub.refreshVb_same.rd (by decide) F iF bF eF

theorem Hub.refreshMem_canon {h : Hub} (H : Hub.Canon h) : Hub.Canon (Hub.refreshMem h) :=
  Hub.refreshMem_keeps (bears_canon 0x10100000000000000000000000000000000) (Sub.refl _) H

theorem Hub.refreshMem_same {h : Hub} : Hub.Same 0x10100000000000000000000000000000000 h (Hub.refreshMem h) :=
  Hub.refreshMem_keeps (bears_same 0x10100000000000000000000000000000000 h) (Sub.refl _) (fun _ => Hub.Same.refl _ _) (by decide)

theorem Hub.refreshMem_rd {h : Hub} {F : Fld} {iF bF : Nat} (eF : Nat.testBit 0x10100000000000000000000000000000000 F.kind = false) :
    Hub.rd (Hub.refreshMem h) F iF bF = Hub.rd h F iF bF :=
  Hub.refreshMem_same.rd (by decide) F iF bF eF

theorem Hub.setPortStat_canon {h : Hub} {n v : Nat} (H : Hub.Canon h) : Hub.Canon (h.setPortStat n v) :=
  Hub.setPortStat_keeps (bears_canon 0x4000000000000000000000010000000000000000000000000000000000000000) (Sub.refl _) H

theorem Hub.setPortStat_same {h : Hub} {n v : Nat} : Hub.Same 0x4000000000000000000000010000000000000000000000000000000000000000 h (h.setPortStat n v) :=
  Hub.setPortStat_keeps (bears_same 0x4000000000000000000000010000000000000000000000000000000000000000 h) (Sub.refl _) (fun _ => Hub.Same.refl _ _) (by decide)

theorem Hub.setPortStat_rd {h : Hub} {n v : Nat} {F : Fld} {iF bF : Nat} (eF : Nat.testBit 0x4000000000000000000000010000000000000000000000000000000000000000 F.kind = false) :
    Hub.rd (h.setPortStat n v) F iF bF = Hub.rd h F iF bF :=
  Hub.setPortStat_same.rd (by decide) F iF bF eF

theorem Hub.portEmpty_canon {h : Hub} {n : ℕ} (H : Hub.Canon h) : Hub.Canon (Hub.portEmpty h n) :=
  Hub.portEmpty_keeps (bears_canon 0x4000000000000000000000010000000000000000000000000000000000000000) (Sub.refl _) H

theorem Hub.portEmpty_same {h : Hub} {n : ℕ} : Hub.Same 0x4000000000000000000000010000000000000000000000000000000000000000 h (Hub.portEmpty h n) :=
  Hub.portEmpty_keeps (bears_same 0x4000000000000000000000010000000000000000000000000000000000000000 h) (Sub.refl _) (fun _ => Hub.Same.refl _ _) (by decide)

theorem Hub.portEmpty_rd {h : Hub} {n : ℕ} {F : Fld} {iF bF : Nat} (eF : Nat.testBit 0x4000000000000000000000010000000000000000000000000000000000000000 F.kind = false) :
    Hub.rd (Hub.portEmpty h n) F iF bF = Hub.rd h F iF bF :=
  Hub.portEmpty_same.rd (by decide) F iF bF eF

theorem Hub.udfDefault_canon {h : Hub} (H : Hub.Canon h) : Hub.Canon (Hub.udfDefault h) :=
  Hub.udfDefault_keeps (bears_canon 0x20000000000000000000000000000000000000000) (Sub.refl _) H

theorem Hub.udfDefault_same {h : Hub} : Hub.Same 0x20000000000000000000000000000000000000000 h (Hub.udfDefault h) :=
  Hub.udfDefault_keeps (bears_same 0x20000000000000000000000000000000000000000 h) (Sub.refl _) (fun _ => Hub.Same.refl _ _) (by decide)

theorem Hub.udfDefault_rd {h : Hub} {F : Fld} {iF bF : Nat} (eF : Nat.testBit 0x20000000000000000000000000000000000000000 F.kind = false) :
    Hub.rd (Hub.udfDefault h) F iF bF = Hub.rd h F iF bF :=
  Hub.udfDefault_same.rd (by decide) F iF bF eF

theorem Hub.ep0Drop_canon {h : Hub} (H : Hub.Canon h) : Hub.Canon (Hub.ep0Drop h) :=
  Hub.ep0Drop_keeps (bears_canon 0x20000000000000000000000000000000000000000) (Sub.refl _) H

theorem Hub.ep0Drop_same {h : Hub} : Hub.Same 0x20000000000000000000000000000000000000000 h (Hub.ep0Drop h) :=
  Hub.ep0Drop_keeps (bears_same 0x20000000000000000000000000000000000000000 h) (Sub.refl _) (fun _ => Hub.Same.refl _ _) (by decide)

theorem Hub.ep0Drop_rd {h : Hub} {F : Fld} {iF bF : Nat} (eF : Nat.testBit 0x20000000000000000000000000000000000000000 F.kind = false) :
    Hub.rd (Hub.ep0Drop h) F iF bF = Hub.rd h F iF bF :=
  Hub.ep0Drop_same.rd (by decide) F iF bF eF

theorem Hub.udfReset_canon {h : Hub} (H : Hub.Canon h) : Hub.Canon (Hub.udfReset h) :=
  Hub.udfReset_keeps (bears_canon 0x4000000000000000000000020000000000000000000000000000000000000000) (Sub.refl _) H

theorem Hub.udfReset_same {h : Hub} : Hub.Same 0x4000000000000000000000020000000000000000000000000000000000000000 h (Hub.udfReset h) :=
  Hub.udfReset_keeps (bears_same 0x4000000000000000000000020000000000000000000000000000000000000000 h) (Sub.refl _) (fun _ => Hub.Same.refl _ _) (by decide)

theorem Hub.udfReset_rd {h : Hub} {F : Fld} {iF bF : Nat} (eF : Nat.testBit 0x4000000000000000000000020000000000000000000000000000000000000000 F.kind = false) :
    Hub.rd (Hub.udfReset h) F iF bF = Hub.rd h F iF bF :=
  Hub.udfReset_same.rd (by decide) F iF bF eF

theorem Hub.hubReset_canon {h : Hub} (H : Hub.Canon h) : Hub.Canon (Hub.hubReset h) :=
  Hub.hubReset_keeps (bears_canon 0x4000000000000000000000030000000000000000000000000000000000000000) (Sub.refl _) H

theorem Hub.hubReset_same {h : Hub} : Hub.Same 0x4000000000000000000000030000000000000000000000000000000000000000 h (Hub.hubReset h) :=
  Hub.hubReset_keeps (bears_same 0x4000000000000000000000030000000000000000000000000000000000000000 h) (Sub.refl _) (fun _ => Hub.Same.refl _ _) (by decide)

theorem Hub.hubReset_rd {h : Hub} {F : Fld} {iF bF : Nat} (eF : Nat.testBit 0x4000000000000000000000030000000000000000000000000000000000000000 F.kind = false) :
    Hub.rd (Hub.hubReset h) F iF bF = Hub.rd h F iF bF :=
  Hub.hubReset_same.rd (by decide) F iF bF eF

theorem Hub.usbSend_canon {h : Hub} {tid : ℕ} {p : UsbPkt} (H : Hub.Canon h) : Hub.Canon (Hub.usbSend h tid p) :=
  Hub.usbSend_keeps (bears_canon 0x40000000000000000000000000000000000000000000000000000000000000000000000000000000000000000) (Sub.refl _) H

theorem Hub.usbSend_same {h : Hub} {tid : ℕ} {p : UsbPkt} : Hub.Same 0x40000000000000000000000000000000000000000000000000000000000000000000000000000000000000000 h (Hub.usbSend h tid p) :=
  Hub.usbSend_keeps (bears_same 0x40000000000000000000000000000000000000000000000000000000000000000000000000000000000000000 h) (Sub.refl _) (fun _ => Hub.Same.refl _ _) (by decide)

theorem Hub.usbSend_rd {h : Hub} {tid : ℕ} {p : UsbPkt} {F : Fld} {iF bF : Nat} (eF : Nat.testBit 0x40000000000000000000000000000000000000000000000000000000000000000000000000000000000000000 F.kind = false) :
    Hub.rd (Hub.usbSend h tid p) F iF bF = Hub.rd h F iF bF :=
  Hub.usbSend_same.rd (by decide) F iF bF eF

theorem Hub.refreshHeld_canon {h : Hub} (H : Hub.Canon h) : Hub.Canon (Hub.refreshHeld h) :=
  Hub.refreshHeld_keeps (bears_canon 0x40000000000000000000000000000000000000000) (Sub.refl _) H

theorem Hub.refreshHeld_same {h : Hub} : Hub.Same 0x40000000000000000000000000000000000000000 h (Hub.refreshHeld h) :=
  Hub.refreshHeld_keeps (bears_same 0x40000000000000000000000000000000000000000 h) (Sub.refl _) (fun _ => Hub.Same.refl _ _) (by decide)

theorem Hub.refreshHeld_rd {h : Hub} {F : Fld} {iF bF : Nat} (eF : Nat.testBit 0x40000000000000000000000000000000000000000 F.kind = false) :
    Hub.rd (Hub.refreshHeld h) F iF bF = Hub.rd h F iF bF :=
  Hub.refreshHeld_same.rd (by decide) F iF bF eF

theorem Hub.heldDone_canon {h : Hub} {sl : ℕ} {x : UsbHeld} {status : ℕ} {actual : ℕ} {frame : ℕ} {toggle : Bool} {data : Bytes} (H : Hub.Canon h) : Hub.Canon (Hub.heldDone h sl x status actual frame toggle data) :=
  Hub.heldDone_keeps (bears_canon 0x140000000000008000000000000000000000000000000000040000000000000000000000000000000000000000) (Sub.refl _) H

theorem Hub.heldDone_same {h : Hub} {sl : ℕ} {x : UsbHeld} {status : ℕ} {actual : ℕ} {frame : ℕ} {toggle : Bool} {data : Bytes} : Hub.Same 0x140000000000008000000000000000000000000000000000040000000000000000000000000000000000000000 h (Hub.heldDone h sl x status actual frame toggle data) :=
  Hub.heldDone_keeps (bears_same 0x140000000000008000000000000000000000000000000000040000000000000000000000000000000000000000 h) (Sub.refl _) (fun _ => Hub.Same.refl _ _) (by decide)

theorem Hub.heldDone_rd {h : Hub} {sl : ℕ} {x : UsbHeld} {status : ℕ} {actual : ℕ} {frame : ℕ} {toggle : Bool} {data : Bytes} {F : Fld} {iF bF : Nat} (eF : Nat.testBit 0x140000000000008000000000000000000000000000000000040000000000000000000000000000000000000000 F.kind = false) :
    Hub.rd (Hub.heldDone h sl x status actual frame toggle data) F iF bF = Hub.rd h F iF bF :=
  Hub.heldDone_same.rd (by decide) F iF bF eF

theorem Hub.heldEnd_canon {status : ℕ} {p : ℕ × UsbHeld} {h : Hub} (H : Hub.Canon h) : Hub.Canon (Hub.heldEnd status p h) :=
  Hub.heldEnd_keeps (bears_canon 0x140000000000808000000000000000000000000000000000040000000000000000000000000000000000000000) (Sub.refl _) H

theorem Hub.heldEnd_same {status : ℕ} {p : ℕ × UsbHeld} {h : Hub} : Hub.Same 0x140000000000808000000000000000000000000000000000040000000000000000000000000000000000000000 h (Hub.heldEnd status p h) :=
  Hub.heldEnd_keeps (bears_same 0x140000000000808000000000000000000000000000000000040000000000000000000000000000000000000000 h) (Sub.refl _) (fun _ => Hub.Same.refl _ _) (by decide)

theorem Hub.heldEnd_rd {status : ℕ} {p : ℕ × UsbHeld} {h : Hub} {F : Fld} {iF bF : Nat} (eF : Nat.testBit 0x140000000000808000000000000000000000000000000000040000000000000000000000000000000000000000 F.kind = false) :
    Hub.rd (Hub.heldEnd status p h) F iF bF = Hub.rd h F iF bF :=
  Hub.heldEnd_same.rd (by decide) F iF bF eF

theorem Hub.heldEndAll_canon {h : Hub} {status : ℕ} {c : UsbHeld → Bool} (H : Hub.Canon h) : Hub.Canon (Hub.heldEndAll h status c) :=
  Hub.heldEndAll_keeps (bears_canon 0x140000000000808000000000000000000000000000000000040000000000000000000000000000000000000000) (Sub.refl _) H

theorem Hub.heldEndAll_same {h : Hub} {status : ℕ} {c : UsbHeld → Bool} : Hub.Same 0x140000000000808000000000000000000000000000000000040000000000000000000000000000000000000000 h (Hub.heldEndAll h status c) :=
  Hub.heldEndAll_keeps (bears_same 0x140000000000808000000000000000000000000000000000040000000000000000000000000000000000000000 h) (Sub.refl _) (fun _ => Hub.Same.refl _ _) (by decide)

theorem Hub.heldEndAll_rd {h : Hub} {status : ℕ} {c : UsbHeld → Bool} {F : Fld} {iF bF : Nat} (eF : Nat.testBit 0x140000000000808000000000000000000000000000000000040000000000000000000000000000000000000000 F.kind = false) :
    Hub.rd (Hub.heldEndAll h status c) F iF bF = Hub.rd h F iF bF :=
  Hub.heldEndAll_same.rd (by decide) F iF bF eF

theorem Hub.refreshUp_canon {h : Hub} {detach : Bool} (H : Hub.Canon h) : Hub.Canon (Hub.refreshUp h detach) :=
  Hub.refreshUp_keeps (bears_canon 0x140000000002808000000000004000000000000000000000070000000000010000000000000000000000000400) (Sub.refl _) H

theorem Hub.refreshUp_same {h : Hub} {detach : Bool} : Hub.Same 0x140000000002808000000000004000000000000000000000070000000000010000000000000000000000000400 h (Hub.refreshUp h detach) :=
  Hub.refreshUp_keeps (bears_same 0x140000000002808000000000004000000000000000000000070000000000010000000000000000000000000400 h) (Sub.refl _) (fun _ => Hub.Same.refl _ _) (by decide)

theorem Hub.refreshUp_rd {h : Hub} {detach : Bool} {F : Fld} {iF bF : Nat} (eF : Nat.testBit 0x140000000002808000000000004000000000000000000000070000000000010000000000000000000000000400 F.kind = false) :
    Hub.rd (Hub.refreshUp h detach) F iF bF = Hub.rd h F iF bF :=
  Hub.refreshUp_same.rd (by decide) F iF bF eF

theorem Hub.afterReset_canon {pg : ℕ} {h : Hub} (H : Hub.Canon h) : Hub.Canon (Hub.afterReset pg h) :=
  Hub.afterReset_keeps (bears_canon 0x14000000000a808000000000004000000000000101010100070000010100210000000002030000000100001d1e) (Sub.refl _) H

theorem Hub.afterReset_same {pg : ℕ} {h : Hub} : Hub.Same 0x14000000000a808000000000004000000000000101010100070000010100210000000002030000000100001d1e h (Hub.afterReset pg h) :=
  Hub.afterReset_keeps (bears_same 0x14000000000a808000000000004000000000000101010100070000010100210000000002030000000100001d1e h) (Sub.refl _) (fun _ => Hub.Same.refl _ _) (by decide)

theorem Hub.afterReset_rd {pg : ℕ} {h : Hub} {F : Fld} {iF bF : Nat} (eF : Nat.testBit 0x14000000000a808000000000004000000000000101010100070000010100210000000002030000000100001d1e F.kind = false) :
    Hub.rd (Hub.afterReset pg h) F iF bF = Hub.rd h F iF bF :=
  Hub.afterReset_same.rd (by decide) F iF bF eF

theorem Hub.askFor_canon {h : Hub} {g : Option ℕ} {typ : ℕ} {dst : ℕ} {body : Bytes} (H : Hub.Canon h) : Hub.Canon (Hub.askFor h g typ dst body) :=
  Hub.askFor_keeps (bears_canon 0x808000000000000000000000000000000000000000000000000000000000000010000000000000000) (Sub.refl _) H

theorem Hub.askFor_same {h : Hub} {g : Option ℕ} {typ : ℕ} {dst : ℕ} {body : Bytes} : Hub.Same 0x808000000000000000000000000000000000000000000000000000000000000010000000000000000 h (Hub.askFor h g typ dst body) :=
  Hub.askFor_keeps (bears_same 0x808000000000000000000000000000000000000000000000000000000000000010000000000000000 h) (Sub.refl _) (fun _ => Hub.Same.refl _ _) (by decide)

theorem Hub.askFor_rd {h : Hub} {g : Option ℕ} {typ : ℕ} {dst : ℕ} {body : Bytes} {F : Fld} {iF bF : Nat} (eF : Nat.testBit 0x808000000000000000000000000000000000000000000000000000000000000010000000000000000 F.kind = false) :
    Hub.rd (Hub.askFor h g typ dst body) F iF bF = Hub.rd h F iF bF :=
  Hub.askFor_same.rd (by decide) F iF bF eF

theorem Hub.appoint_canon {h : Hub} (H : Hub.Canon h) : Hub.Canon (Hub.appoint h) :=
  Hub.appoint_keeps (bears_canon 0x808000000000000000000000000000000000000000000000000000000000000010000000000000000) (Sub.refl _) H

theorem Hub.appoint_same {h : Hub} : Hub.Same 0x808000000000000000000000000000000000000000000000000000000000000010000000000000000 h (Hub.appoint h) :=
  Hub.appoint_keeps (bears_same 0x808000000000000000000000000000000000000000000000000000000000000010000000000000000 h) (Sub.refl _) (fun _ => Hub.Same.refl _ _) (by decide)

theorem Hub.appoint_rd {h : Hub} {F : Fld} {iF bF : Nat} (eF : Nat.testBit 0x808000000000000000000000000000000000000000000000000000000000000010000000000000000 F.kind = false) :
    Hub.rd (Hub.appoint h) F iF bF = Hub.rd h F iF bF :=
  Hub.appoint_same.rd (by decide) F iF bF eF

theorem Hub.afterSettling_canon {h : Hub} (H : Hub.Canon h) : Hub.Canon (Hub.afterSettling h) :=
  Hub.afterSettling_keeps (bears_canon 0x808000000000000000000000000000000000000000000000000000000000000010000000000000000) (Sub.refl _) H

theorem Hub.afterSettling_same {h : Hub} : Hub.Same 0x808000000000000000000000000000000000000000000000000000000000000010000000000000000 h (Hub.afterSettling h) :=
  Hub.afterSettling_keeps (bears_same 0x808000000000000000000000000000000000000000000000000000000000000010000000000000000 h) (Sub.refl _) (fun _ => Hub.Same.refl _ _) (by decide)

theorem Hub.afterSettling_rd {h : Hub} {F : Fld} {iF bF : Nat} (eF : Nat.testBit 0x808000000000000000000000000000000000000000000000000000000000000010000000000000000 F.kind = false) :
    Hub.rd (Hub.afterSettling h) F iF bF = Hub.rd h F iF bF :=
  Hub.afterSettling_same.rd (by decide) F iF bF eF

theorem Hub.setPkt_canon {h : Hub} {id : ℕ} {p : Pkt} (H : Hub.Canon h) : Hub.Canon (Hub.setPkt h id p) :=
  Hub.setPkt_keeps (bears_canon 0x20000000000000000000000000000000000000000000000000000000000000000000000000000000) (Sub.refl _) H

theorem Hub.setPkt_same {h : Hub} {id : ℕ} {p : Pkt} : Hub.Same 0x20000000000000000000000000000000000000000000000000000000000000000000000000000000 h (Hub.setPkt h id p) :=
  Hub.setPkt_keeps (bears_same 0x20000000000000000000000000000000000000000000000000000000000000000000000000000000 h) (Sub.refl _) (fun _ => Hub.Same.refl _ _) (by decide)

theorem Hub.setPkt_rd {h : Hub} {id : ℕ} {p : Pkt} {F : Fld} {iF bF : Nat} (eF : Nat.testBit 0x20000000000000000000000000000000000000000000000000000000000000000000000000000000 F.kind = false) :
    Hub.rd (Hub.setPkt h id p) F iF bF = Hub.rd h F iF bF :=
  Hub.setPkt_same.rd (by decide) F iF bF eF

theorem Hub.setQueue_canon {h : Hub} {q : ℕ} {l : List ℕ} (H : Hub.Canon h) : Hub.Canon (Hub.setQueue h q l) :=
  Hub.setQueue_keeps (bears_canon 0x100000000000000000000000000000000000000000000000000000000000100000000000000000000) (Sub.refl _) H

theorem Hub.setQueue_same {h : Hub} {q : ℕ} {l : List ℕ} : Hub.Same 0x100000000000000000000000000000000000000000000000000000000000100000000000000000000 h (Hub.setQueue h q l) :=
  Hub.setQueue_keeps (bears_same 0x100000000000000000000000000000000000000000000000000000000000100000000000000000000 h) (Sub.refl _) (fun _ => Hub.Same.refl _ _) (by decide)

theorem Hub.setQueue_rd {h : Hub} {q : ℕ} {l : List ℕ} {F : Fld} {iF bF : Nat} (eF : Nat.testBit 0x100000000000000000000000000000000000000000000000000000000000100000000000000000000 F.kind = false) :
    Hub.rd (Hub.setQueue h q l) F iF bF = Hub.rd h F iF bF :=
  Hub.setQueue_same.rd (by decide) F iF bF eF

theorem Hub.strand_canon {h : Hub} {id : ℕ} {p : Pkt} (H : Hub.Canon h) : Hub.Canon (Hub.strand h id p) :=
  Hub.strand_keeps (bears_canon 0x52000000000000000000000000000000000000000000000000000000000010a000000000000000000) (Sub.refl _) H

theorem Hub.strand_same {h : Hub} {id : ℕ} {p : Pkt} : Hub.Same 0x52000000000000000000000000000000000000000000000000000000000010a000000000000000000 h (Hub.strand h id p) :=
  Hub.strand_keeps (bears_same 0x52000000000000000000000000000000000000000000000000000000000010a000000000000000000 h) (Sub.refl _) (fun _ => Hub.Same.refl _ _) (by decide)

theorem Hub.strand_rd {h : Hub} {id : ℕ} {p : Pkt} {F : Fld} {iF bF : Nat} (eF : Nat.testBit 0x52000000000000000000000000000000000000000000000000000000000010a000000000000000000 F.kind = false) :
    Hub.rd (Hub.strand h id p) F iF bF = Hub.rd h F iF bF :=
  Hub.strand_same.rd (by decide) F iF bF eF

theorem Hub.refFault_canon {id : ℕ} {h : Hub} (H : Hub.Canon h) : Hub.Canon (Hub.refFault id h) :=
  Hub.refFault_keeps (bears_canon 0x52280000000000000400000000000000000000000000000000001000000010a000000000000000400) (Sub.refl _) H

theorem Hub.refFault_same {id : ℕ} {h : Hub} : Hub.Same 0x52280000000000000400000000000000000000000000000000001000000010a000000000000000400 h (Hub.refFault id h) :=
  Hub.refFault_keeps (bears_same 0x52280000000000000400000000000000000000000000000000001000000010a000000000000000400 h) (Sub.refl _) (fun _ => Hub.Same.refl _ _) (by decide)

theorem Hub.refFault_rd {id : ℕ} {h : Hub} {F : Fld} {iF bF : Nat} (eF : Nat.testBit 0x52280000000000000400000000000000000000000000000000001000000010a000000000000000400 F.kind = false) :
    Hub.rd (Hub.refFault id h) F iF bF = Hub.rd h F iF bF :=
  Hub.refFault_same.rd (by decide) F iF bF eF

theorem Hub.giveCell_canon {q : ℕ} {c : PCell} {h : Hub} (H : Hub.Canon h) : Hub.Canon (Hub.giveCell q c h) :=
  Hub.giveCell_keeps (bears_canon 0x3000000000000000000) (Sub.refl _) H

theorem Hub.giveCell_same {q : ℕ} {c : PCell} {h : Hub} : Hub.Same 0x3000000000000000000 h (Hub.giveCell q c h) :=
  Hub.giveCell_keeps (bears_same 0x3000000000000000000 h) (Sub.refl _) (fun _ => Hub.Same.refl _ _) (by decide)

theorem Hub.giveCell_rd {q : ℕ} {c : PCell} {h : Hub} {F : Fld} {iF bF : Nat} (eF : Nat.testBit 0x3000000000000000000 F.kind = false) :
    Hub.rd (Hub.giveCell q c h) F iF bF = Hub.rd h F iF bF :=
  Hub.giveCell_same.rd (by decide) F iF bF eF

theorem Hub.freePkt_canon {h : Hub} {id : ℕ} {p : Pkt} (H : Hub.Canon h) : Hub.Canon (Hub.freePkt h id p) :=
  Hub.freePkt_keeps (bears_canon 0x2000000000000000000000000000000000000000000000000000000000000b000000000000000000) (Sub.refl _) H

theorem Hub.freePkt_same {h : Hub} {id : ℕ} {p : Pkt} : Hub.Same 0x2000000000000000000000000000000000000000000000000000000000000b000000000000000000 h (Hub.freePkt h id p) :=
  Hub.freePkt_keeps (bears_same 0x2000000000000000000000000000000000000000000000000000000000000b000000000000000000 h) (Sub.refl _) (fun _ => Hub.Same.refl _ _) (by decide)

theorem Hub.freePkt_rd {h : Hub} {id : ℕ} {p : Pkt} {F : Fld} {iF bF : Nat} (eF : Nat.testBit 0x2000000000000000000000000000000000000000000000000000000000000b000000000000000000 F.kind = false) :
    Hub.rd (Hub.freePkt h id p) F iF bF = Hub.rd h F iF bF :=
  Hub.freePkt_same.rd (by decide) F iF bF eF

theorem Hub.leave_canon {h : Hub} {id : ℕ} {pt : ℕ} (H : Hub.Canon h) : Hub.Canon (Hub.leave h id pt) :=
  Hub.leave_keeps (bears_canon 0x52280000000000000400000000000000000000000000000000001000000010b000000000000000400) (Sub.refl _) H

theorem Hub.leave_same {h : Hub} {id : ℕ} {pt : ℕ} : Hub.Same 0x52280000000000000400000000000000000000000000000000001000000010b000000000000000400 h (Hub.leave h id pt) :=
  Hub.leave_keeps (bears_same 0x52280000000000000400000000000000000000000000000000001000000010b000000000000000400 h) (Sub.refl _) (fun _ => Hub.Same.refl _ _) (by decide)

theorem Hub.leave_rd {h : Hub} {id : ℕ} {pt : ℕ} {F : Fld} {iF bF : Nat} (eF : Nat.testBit 0x52280000000000000400000000000000000000000000000000001000000010b000000000000000400 F.kind = false) :
    Hub.rd (Hub.leave h id pt) F iF bF = Hub.rd h F iF bF :=
  Hub.leave_same.rd (by decide) F iF bF eF

theorem Hub.discard_canon {h : Hub} {id : ℕ} {pt : ℕ} (H : Hub.Canon h) : Hub.Canon (Hub.discard h id pt) :=
  Hub.discard_keeps (bears_canon 0x52280000000000000400000000000000000000000000000000001000000010b000000000000000400) (Sub.refl _) H

theorem Hub.discard_same {h : Hub} {id : ℕ} {pt : ℕ} : Hub.Same 0x52280000000000000400000000000000000000000000000000001000000010b000000000000000400 h (Hub.discard h id pt) :=
  Hub.discard_keeps (bears_same 0x52280000000000000400000000000000000000000000000000001000000010b000000000000000400 h) (Sub.refl _) (fun _ => Hub.Same.refl _ _) (by decide)

theorem Hub.discard_rd {h : Hub} {id : ℕ} {pt : ℕ} {F : Fld} {iF bF : Nat} (eF : Nat.testBit 0x52280000000000000400000000000000000000000000000000001000000010b000000000000000400 F.kind = false) :
    Hub.rd (Hub.discard h id pt) F iF bF = Hub.rd h F iF bF :=
  Hub.discard_same.rd (by decide) F iF bF eF

theorem Hub.ageDrop_canon {h : Hub} {id : ℕ} {pt : ℕ} {p : Pkt} (H : Hub.Canon h) : Hub.Canon (Hub.ageDrop h id pt p) :=
  Hub.ageDrop_keeps (bears_canon 0x52280000000000000400000000000000000000000000000000001000000010f000000000000000400) (Sub.refl _) H

theorem Hub.ageDrop_same {h : Hub} {id : ℕ} {pt : ℕ} {p : Pkt} : Hub.Same 0x52280000000000000400000000000000000000000000000000001000000010f000000000000000400 h (Hub.ageDrop h id pt p) :=
  Hub.ageDrop_keeps (bears_same 0x52280000000000000400000000000000000000000000000000001000000010f000000000000000400 h) (Sub.refl _) (fun _ => Hub.Same.refl _ _) (by decide)

theorem Hub.ageDrop_rd {h : Hub} {id : ℕ} {pt : ℕ} {p : Pkt} {F : Fld} {iF bF : Nat} (eF : Nat.testBit 0x52280000000000000400000000000000000000000000000000001000000010f000000000000000400 F.kind = false) :
    Hub.rd (Hub.ageDrop h id pt p) F iF bF = Hub.rd h F iF bF :=
  Hub.ageDrop_same.rd (by decide) F iF bF eF

theorem Hub.ageFields_canon {p : ℕ} {h : Hub} (H : Hub.Canon h) : Hub.Canon (Hub.ageFields p h) :=
  Hub.ageFields_keeps (bears_canon 0x10000) (Sub.refl _) H

theorem Hub.ageFields_same {p : ℕ} {h : Hub} : Hub.Same 0x10000 h (Hub.ageFields p h) :=
  Hub.ageFields_keeps (bears_same 0x10000 h) (Sub.refl _) (fun _ => Hub.Same.refl _ _) (by decide)

theorem Hub.ageFields_rd {p : ℕ} {h : Hub} {F : Fld} {iF bF : Nat} (eF : Nat.testBit 0x10000 F.kind = false) :
    Hub.rd (Hub.ageFields p h) F iF bF = Hub.rd h F iF bF :=
  Hub.ageFields_same.rd (by decide) F iF bF eF

theorem Hub.purge_canon {h : Hub} {e : ℕ} (H : Hub.Canon h) : Hub.Canon (Hub.purge h e) :=
  Hub.purge_keeps (bears_canon 0x52280000000000000400000000000000000000000000000000001000000010a000000000000000400) (Sub.refl _) H

theorem Hub.purge_same {h : Hub} {e : ℕ} : Hub.Same 0x52280000000000000400000000000000000000000000000000001000000010a000000000000000400 h (Hub.purge h e) :=
  Hub.purge_keeps (bears_same 0x52280000000000000400000000000000000000000000000000001000000010a000000000000000400 h) (Sub.refl _) (fun _ => Hub.Same.refl _ _) (by decide)

theorem Hub.purge_rd {h : Hub} {e : ℕ} {F : Fld} {iF bF : Nat} (eF : Nat.testBit 0x52280000000000000400000000000000000000000000000000001000000010a000000000000000400 F.kind = false) :
    Hub.rd (Hub.purge h e) F iF bF = Hub.rd h F iF bF :=
  Hub.purge_same.rd (by decide) F iF bF eF

theorem Hub.ageSweep_canon {h : Hub} (H : Hub.Canon h) : Hub.Canon (Hub.ageSweep h) :=
  Hub.ageSweep_keeps (bears_canon 0x52280000000000000400000000000000000000000000000000001000000010f000000000000000400) (Sub.refl _) H

theorem Hub.ageSweep_same {h : Hub} : Hub.Same 0x52280000000000000400000000000000000000000000000000001000000010f000000000000000400 h (Hub.ageSweep h) :=
  Hub.ageSweep_keeps (bears_same 0x52280000000000000400000000000000000000000000000000001000000010f000000000000000400 h) (Sub.refl _) (fun _ => Hub.Same.refl _ _) (by decide)

theorem Hub.ageSweep_rd {h : Hub} {F : Fld} {iF bF : Nat} (eF : Nat.testBit 0x52280000000000000400000000000000000000000000000000001000000010f000000000000000400 F.kind = false) :
    Hub.rd (Hub.ageSweep h) F iF bF = Hub.rd h F iF bF :=
  Hub.ageSweep_same.rd (by decide) F iF bF eF

theorem Hub.regRspSend_canon {h : Hub} {src : ℕ} {tok : ℕ} {status : ℕ} {failidx : ℕ} {count : ℕ} {data : List ℕ} (H : Hub.Canon h) : Hub.Canon (Hub.regRspSend h src tok status failidx count data) :=
  Hub.regRspSend_keeps (bears_canon 0x8000000000000000000000000000000000000000000000000000000000000000000000000000000) (Sub.refl _) H

theorem Hub.regRspSend_same {h : Hub} {src : ℕ} {tok : ℕ} {status : ℕ} {failidx : ℕ} {count : ℕ} {data : List ℕ} : Hub.Same 0x8000000000000000000000000000000000000000000000000000000000000000000000000000000 h (Hub.regRspSend h src tok status failidx count data) :=
  Hub.regRspSend_keeps (bears_same 0x8000000000000000000000000000000000000000000000000000000000000000000000000000000 h) (Sub.refl _) (fun _ => Hub.Same.refl _ _) (by decide)

theorem Hub.regRspSend_rd {h : Hub} {src : ℕ} {tok : ℕ} {status : ℕ} {failidx : ℕ} {count : ℕ} {data : List ℕ} {F : Fld} {iF bF : Nat} (eF : Nat.testBit 0x8000000000000000000000000000000000000000000000000000000000000000000000000000000 F.kind = false) :
    Hub.rd (Hub.regRspSend h src tok status failidx count data) F iF bF = Hub.rd h F iF bF :=
  Hub.regRspSend_same.rd (by decide) F iF bF eF

theorem Hub.violation_canon {h : Hub} {c : Cap} {m : ℕ} {code : ℕ} {node : ℕ} {entry : Option ℕ} (H : Hub.Canon h) : Hub.Canon (Hub.violation h c m code node entry) :=
  Hub.violation_keeps (bears_canon 0x2800000000000004000000000000000000000000000000000010000000000000000000000000500) (Sub.refl _) H

theorem Hub.violation_same {h : Hub} {c : Cap} {m : ℕ} {code : ℕ} {node : ℕ} {entry : Option ℕ} : Hub.Same 0x2800000000000004000000000000000000000000000000000010000000000000000000000000500 h (Hub.violation h c m code node entry) :=
  Hub.violation_keeps (bears_same 0x2800000000000004000000000000000000000000000000000010000000000000000000000000500 h) (Sub.refl _) (fun _ => Hub.Same.refl _ _) (by decide)

theorem Hub.violation_rd {h : Hub} {c : Cap} {m : ℕ} {code : ℕ} {node : ℕ} {entry : Option ℕ} {F : Fld} {iF bF : Nat} (eF : Nat.testBit 0x2800000000000004000000000000000000000000000000000010000000000000000000000000500 F.kind = false) :
    Hub.rd (Hub.violation h c m code node entry) F iF bF = Hub.rd h F iF bF :=
  Hub.violation_same.rd (by decide) F iF bF eF

theorem Hub.recordRefusal_canon {h : Hub} {r : Req} {write : Bool} {addr : ℕ} {e : AccErr} (H : Hub.Canon h) : Hub.Canon (Hub.recordRefusal h r write addr e) :=
  Hub.recordRefusal_keeps (bears_canon 0x2800000000000004000000000000000000000000000000000010000000000000000000000000500) (Sub.refl _) H

theorem Hub.recordRefusal_same {h : Hub} {r : Req} {write : Bool} {addr : ℕ} {e : AccErr} : Hub.Same 0x2800000000000004000000000000000000000000000000000010000000000000000000000000500 h (Hub.recordRefusal h r write addr e) :=
  Hub.recordRefusal_keeps (bears_same 0x2800000000000004000000000000000000000000000000000010000000000000000000000000500 h) (Sub.refl _) (fun _ => Hub.Same.refl _ _) (by decide)

theorem Hub.recordRefusal_rd {h : Hub} {r : Req} {write : Bool} {addr : ℕ} {e : AccErr} {F : Fld} {iF bF : Nat} (eF : Nat.testBit 0x2800000000000004000000000000000000000000000000000010000000000000000000000000500 F.kind = false) :
    Hub.rd (Hub.recordRefusal h r write addr e) F iF bF = Hub.rd h F iF bF :=
  Hub.recordRefusal_same.rd (by decide) F iF bF eF

theorem Hub.clearStaging_canon {h : Hub} {m : MasterId} {t : ℕ} (H : Hub.Canon h) : Hub.Canon (Hub.clearStaging h m t) :=
  Hub.clearStaging_keeps (bears_canon 0x10000000000000000000000000000000000000000000000000000000000000000000000000000) (Sub.refl _) H

theorem Hub.clearStaging_same {h : Hub} {m : MasterId} {t : ℕ} : Hub.Same 0x10000000000000000000000000000000000000000000000000000000000000000000000000000 h (Hub.clearStaging h m t) :=
  Hub.clearStaging_keeps (bears_same 0x10000000000000000000000000000000000000000000000000000000000000000000000000000 h) (Sub.refl _) (fun _ => Hub.Same.refl _ _) (by decide)

theorem Hub.clearStaging_rd {h : Hub} {m : MasterId} {t : ℕ} {F : Fld} {iF bF : Nat} (eF : Nat.testBit 0x10000000000000000000000000000000000000000000000000000000000000000000000000000 F.kind = false) :
    Hub.rd (Hub.clearStaging h m t) F iF bF = Hub.rd h F iF bF :=
  Hub.clearStaging_same.rd (by decide) F iF bF eF

theorem Hub.freeContext_canon {h : Hub} {ctx : ℕ} (H : Hub.Canon h) : Hub.Canon (Hub.freeContext h ctx) :=
  Hub.freeContext_keeps (bears_canon 0x80000000000000000000000000000000000000000000000000000200000000000000000000000000) (Sub.refl _) H

theorem Hub.freeContext_same {h : Hub} {ctx : ℕ} : Hub.Same 0x80000000000000000000000000000000000000000000000000000200000000000000000000000000 h (Hub.freeContext h ctx) :=
  Hub.freeContext_keeps (bears_same 0x80000000000000000000000000000000000000000000000000000200000000000000000000000000 h) (Sub.refl _) (fun _ => Hub.Same.refl _ _) (by decide)

theorem Hub.freeContext_rd {h : Hub} {ctx : ℕ} {F : Fld} {iF bF : Nat} (eF : Nat.testBit 0x80000000000000000000000000000000000000000000000000000200000000000000000000000000 F.kind = false) :
    Hub.rd (Hub.freeContext h ctx) F iF bF = Hub.rd h F iF bF :=
  Hub.freeContext_same.rd (by decide) F iF bF eF

theorem Hub.tunReplace_canon {h : Hub} {i : ℕ} {ws : Ent} {c : optParam Cap { }} (H : Hub.Canon h) : Hub.Canon (Hub.tunReplace h i ws c) :=
  Hub.tunReplace_keeps (bears_canon 0x82808000000000004000000000000000000000000000000000010200000000010000000000000400) (Sub.refl _) H

theorem Hub.tunReplace_same {h : Hub} {i : ℕ} {ws : Ent} {c : optParam Cap { }} : Hub.Same 0x82808000000000004000000000000000000000000000000000010200000000010000000000000400 h (Hub.tunReplace h i ws c) :=
  Hub.tunReplace_keeps (bears_same 0x82808000000000004000000000000000000000000000000000010200000000010000000000000400 h) (Sub.refl _) (fun _ => Hub.Same.refl _ _) (by decide)

theorem Hub.tunReplace_rd {h : Hub} {i : ℕ} {ws : Ent} {c : optParam Cap { }} {F : Fld} {iF bF : Nat} (eF : Nat.testBit 0x82808000000000004000000000000000000000000000000000010200000000010000000000000400 F.kind = false) :
    Hub.rd (Hub.tunReplace h i ws c) F iF bF = Hub.rd h F iF bF :=
  Hub.tunReplace_same.rd (by decide) F iF bF eF

theorem Hub.refreshFit_canon {h : Hub} {d : ℕ} (H : Hub.Canon h) : Hub.Canon (Hub.refreshFit h d) :=
  Hub.refreshFit_keeps (bears_canon 0x2800000000000004000000000000000000000000000000000210000000000000000000000000400) (Sub.refl _) H

theorem Hub.refreshFit_same {h : Hub} {d : ℕ} : Hub.Same 0x2800000000000004000000000000000000000000000000000210000000000000000000000000400 h (Hub.refreshFit h d) :=
  Hub.refreshFit_keeps (bears_same 0x2800000000000004000000000000000000000000000000000210000000000000000000000000400 h) (Sub.refl _) (fun _ => Hub.Same.refl _ _) (by decide)

theorem Hub.refreshFit_rd {h : Hub} {d : ℕ} {F : Fld} {iF bF : Nat} (eF : Nat.testBit 0x2800000000000004000000000000000000000000000000000210000000000000000000000000400 F.kind = false) :
    Hub.rd (Hub.refreshFit h d) F iF bF = Hub.rd h F iF bF :=
  Hub.refreshFit_same.rd (by decide) F iF bF eF

theorem Hub.slotReplace_canon {h : Hub} {k : ℕ} {ws : List ℕ} {c : optParam Cap { }} (H : Hub.Canon h) : Hub.Canon (Hub.slotReplace h k ws c) :=
  Hub.slotReplace_keeps (bears_canon 0x2808000000000004000000000000000000000000000000000210000000000000000000000000400) (Sub.refl _) H

theorem Hub.slotReplace_same {h : Hub} {k : ℕ} {ws : List ℕ} {c : optParam Cap { }} : Hub.Same 0x2808000000000004000000000000000000000000000000000210000000000000000000000000400 h (Hub.slotReplace h k ws c) :=
  Hub.slotReplace_keeps (bears_same 0x2808000000000004000000000000000000000000000000000210000000000000000000000000400 h) (Sub.refl _) (fun _ => Hub.Same.refl _ _) (by decide)

theorem Hub.slotReplace_rd {h : Hub} {k : ℕ} {ws : List ℕ} {c : optParam Cap { }} {F : Fld} {iF bF : Nat} (eF : Nat.testBit 0x2808000000000004000000000000000000000000000000000210000000000000000000000000400 F.kind = false) :
    Hub.rd (Hub.slotReplace h k ws c) F iF bF = Hub.rd h F iF bF :=
  Hub.slotReplace_same.rd (by decide) F iF bF eF

theorem Hub.entryReplace_canon {h : Hub} {t : ℕ} {row : TableRow} {e : ℕ} {ws : List ℕ} {c : optParam Cap { }} (H : Hub.Canon h) : Hub.Canon (Hub.entryReplace h t row e ws c) :=
  Hub.entryReplace_keeps (bears_canon 0x82808000000000004000000000000000000000000000000000210200000000010000000000000400) (Sub.refl _) H

theorem Hub.entryReplace_same {h : Hub} {t : ℕ} {row : TableRow} {e : ℕ} {ws : List ℕ} {c : optParam Cap { }} : Hub.Same 0x82808000000000004000000000000000000000000000000000210200000000010000000000000400 h (Hub.entryReplace h t row e ws c) :=
  Hub.entryReplace_keeps (bears_same 0x82808000000000004000000000000000000000000000000000210200000000010000000000000400 h) (Sub.refl _) (fun _ => Hub.Same.refl _ _) (by decide)

theorem Hub.entryReplace_rd {h : Hub} {t : ℕ} {row : TableRow} {e : ℕ} {ws : List ℕ} {c : optParam Cap { }} {F : Fld} {iF bF : Nat} (eF : Nat.testBit 0x82808000000000004000000000000000000000000000000000210200000000010000000000000400 F.kind = false) :
    Hub.rd (Hub.entryReplace h t row e ws c) F iF bF = Hub.rd h F iF bF :=
  Hub.entryReplace_same.rd (by decide) F iF bF eF

theorem Hub.stage_canon {h : Hub} {m : MasterId} {t : ℕ} {e : ℕ} {w : ℕ} {v : ℕ} (H : Hub.Canon h) : Hub.Canon (Hub.stage h m t e w v) :=
  Hub.stage_keeps (bears_canon 0x10000000000000000000000000000000000000000000000000000000000000000000000000000) (Sub.refl _) H

theorem Hub.stage_same {h : Hub} {m : MasterId} {t : ℕ} {e : ℕ} {w : ℕ} {v : ℕ} : Hub.Same 0x10000000000000000000000000000000000000000000000000000000000000000000000000000 h (Hub.stage h m t e w v) :=
  Hub.stage_keeps (bears_same 0x10000000000000000000000000000000000000000000000000000000000000000000000000000 h) (Sub.refl _) (fun _ => Hub.Same.refl _ _) (by decide)

theorem Hub.stage_rd {h : Hub} {m : MasterId} {t : ℕ} {e : ℕ} {w : ℕ} {v : ℕ} {F : Fld} {iF bF : Nat} (eF : Nat.testBit 0x10000000000000000000000000000000000000000000000000000000000000000000000000000 F.kind = false) :
    Hub.rd (Hub.stage h m t e w v) F iF bF = Hub.rd h F iF bF :=
  Hub.stage_same.rd (by decide) F iF bF eF

theorem Hub.tableWrite_canon {h : Hub} {r : Req} {t : ℕ} {row : TableRow} {addr : ℕ} {v : ℕ} (H : Hub.Canon h) : Hub.Canon (Hub.tableWrite h r t row addr v) :=
  Hub.tableWrite_keeps (bears_canon 0x82818000000000004000000000000000000000000000000000210200000000010000000000000400) (Sub.refl _) H

theorem Hub.tableWrite_same {h : Hub} {r : Req} {t : ℕ} {row : TableRow} {addr : ℕ} {v : ℕ} : Hub.Same 0x82818000000000004000000000000000000000000000000000210200000000010000000000000400 h (Hub.tableWrite h r t row addr v) :=
  Hub.tableWrite_keeps (bears_same 0x82818000000000004000000000000000000000000000000000210200000000010000000000000400 h) (Sub.refl _) (fun _ => Hub.Same.refl _ _) (by decide)

theorem Hub.tableWrite_rd {h : Hub} {r : Req} {t : ℕ} {row : TableRow} {addr : ℕ} {v : ℕ} {F : Fld} {iF bF : Nat} (eF : Nat.testBit 0x82818000000000004000000000000000000000000000000000210200000000010000000000000400 F.kind = false) :
    Hub.rd (Hub.tableWrite h r t row addr v) F iF bF = Hub.rd h F iF bF :=
  Hub.tableWrite_same.rd (by decide) F iF bF eF

theorem Hub.clearRegs_canon {h : Hub} {c : Nat → Bool} (H : Hub.Canon h) : Hub.Canon (h.clearRegs c) :=
  Hub.clearRegs_keeps (bears_canon 0x8000000000000000000000000000000000000000000000000000000000000000) (Sub.refl _) H

theorem Hub.clearRegs_same {h : Hub} {c : Nat → Bool} : Hub.Same 0x8000000000000000000000000000000000000000000000000000000000000000 h (h.clearRegs c) :=
  Hub.clearRegs_keeps (bears_same 0x8000000000000000000000000000000000000000000000000000000000000000 h) (Sub.refl _) (fun _ => Hub.Same.refl _ _) (by decide)

theorem Hub.dropShadow_canon {h : Hub} {pg : ℕ} (H : Hub.Canon h) : Hub.Canon (Hub.dropShadow h pg) :=
  Hub.dropShadow_keeps (bears_canon 0x2000000000000000001000000000000000000000000000000000000000000000000000000000) (Sub.refl _) H

theorem Hub.dropShadow_same {h : Hub} {pg : ℕ} : Hub.Same 0x2000000000000000001000000000000000000000000000000000000000000000000000000000 h (Hub.dropShadow h pg) :=
  Hub.dropShadow_keeps (bears_same 0x2000000000000000001000000000000000000000000000000000000000000000000000000000 h) (Sub.refl _) (fun _ => Hub.Same.refl _ _) (by decide)

theorem Hub.dropShadow_rd {h : Hub} {pg : ℕ} {F : Fld} {iF bF : Nat} (eF : Nat.testBit 0x2000000000000000001000000000000000000000000000000000000000000000000000000000 F.kind = false) :
    Hub.rd (Hub.dropShadow h pg) F iF bF = Hub.rd h F iF bF :=
  Hub.dropShadow_same.rd (by decide) F iF bF eF

theorem Hub.endWidth_canon {h : Hub} {p : ℕ} {done : ℕ} (H : Hub.Canon h) : Hub.Canon (Hub.endWidth h p done) :=
  Hub.endWidth_keeps (bears_canon 0x10000) (Sub.refl _) H

theorem Hub.endWidth_same {h : Hub} {p : ℕ} {done : ℕ} : Hub.Same 0x10000 h (Hub.endWidth h p done) :=
  Hub.endWidth_keeps (bears_same 0x10000 h) (Sub.refl _) (fun _ => Hub.Same.refl _ _) (by decide)

theorem Hub.endWidth_rd {h : Hub} {p : ℕ} {done : ℕ} {F : Fld} {iF bF : Nat} (eF : Nat.testBit 0x10000 F.kind = false) :
    Hub.rd (Hub.endWidth h p done) F iF bF = Hub.rd h F iF bF :=
  Hub.endWidth_same.rd (by decide) F iF bF eF

theorem Hub.setPort_canon {h : Hub} {p : ℕ} {s : ℕ} (H : Hub.Canon h) : Hub.Canon (Hub.setPort h p s) :=
  Hub.setPort_keeps (bears_canon 0x4000200000000000000000000000000000000000000000000000000000004000) (Sub.refl _) H

theorem Hub.setPort_same {h : Hub} {p : ℕ} {s : ℕ} : Hub.Same 0x4000200000000000000000000000000000000000000000000000000000004000 h (Hub.setPort h p s) :=
  Hub.setPort_keeps (bears_same 0x4000200000000000000000000000000000000000000000000000000000004000 h) (Sub.refl _) (fun _ => Hub.Same.refl _ _) (by decide)

theorem Hub.setPort_rd {h : Hub} {p : ℕ} {s : ℕ} {F : Fld} {iF bF : Nat} (eF : Nat.testBit 0x4000200000000000000000000000000000000000000000000000000000004000 F.kind = false) :
    Hub.rd (Hub.setPort h p s) F iF bF = Hub.rd h F iF bF :=
  Hub.setPort_same.rd (by decide) F iF bF eF

theorem Hub.clearLink_canon {h : Hub} {p : Nat} (H : Hub.Canon h) : Hub.Canon (h.clearLink p) :=
  Hub.clearLink_keeps (bears_canon 0xb88200000000000000000000200000000000000000000000000000000000000000000000000100010000) (Sub.refl _) H

theorem Hub.clearLink_same {h : Hub} {p : Nat} : Hub.Same 0xb88200000000000000000000200000000000000000000000000000000000000000000000000100010000 h (h.clearLink p) :=
  Hub.clearLink_keeps (bears_same 0xb88200000000000000000000200000000000000000000000000000000000000000000000000100010000 h) (Sub.refl _) (fun _ => Hub.Same.refl _ _) (by decide)

theorem Hub.clearLink_rd {h : Hub} {p : Nat} {F : Fld} {iF bF : Nat} (eF : Nat.testBit 0xb88200000000000000000000200000000000000000000000000000000000000000000000000100010000 F.kind = false) :
    Hub.rd (h.clearLink p) F iF bF = Hub.rd h F iF bF :=
  Hub.clearLink_same.rd (by decide) F iF bF eF

theorem Hub.endPm_canon {h : Hub} {p : ℕ} {st : ℕ} (H : Hub.Canon h) : Hub.Canon (Hub.endPm h p st) :=
  Hub.endPm_keeps (bears_canon 0x10000) (Sub.refl _) H

theorem Hub.endPm_same {h : Hub} {p : ℕ} {st : ℕ} : Hub.Same 0x10000 h (Hub.endPm h p st) :=
  Hub.endPm_keeps (bears_same 0x10000 h) (Sub.refl _) (fun _ => Hub.Same.refl _ _) (by decide)

theorem Hub.endPm_rd {h : Hub} {p : ℕ} {st : ℕ} {F : Fld} {iF bF : Nat} (eF : Nat.testBit 0x10000 F.kind = false) :
    Hub.rd (Hub.endPm h p st) F iF bF = Hub.rd h F iF bF :=
  Hub.endPm_same.rd (by decide) F iF bF eF

theorem Hub.holdAdapted_canon {l : ℕ} {h : Hub} (H : Hub.Canon h) : Hub.Canon (Hub.holdAdapted l h) :=
  Hub.holdAdapted_keeps (bears_canon 0x800000000000000000000000000000000000000000000000000000000000000000000100000000) (Sub.refl _) H

theorem Hub.holdAdapted_same {l : ℕ} {h : Hub} : Hub.Same 0x800000000000000000000000000000000000000000000000000000000000000000000100000000 h (Hub.holdAdapted l h) :=
  Hub.holdAdapted_keeps (bears_same 0x800000000000000000000000000000000000000000000000000000000000000000000100000000 h) (Sub.refl _) (fun _ => Hub.Same.refl _ _) (by decide)

theorem Hub.holdAdapted_rd {l : ℕ} {h : Hub} {F : Fld} {iF bF : Nat} (eF : Nat.testBit 0x800000000000000000000000000000000000000000000000000000000000000000000100000000 F.kind = false) :
    Hub.rd (Hub.holdAdapted l h) F iF bF = Hub.rd h F iF bF :=
  Hub.holdAdapted_same.rd (by decide) F iF bF eF

theorem Hub.freshLock_canon {l : ℕ} {h : Hub} (H : Hub.Canon h) : Hub.Canon (Hub.freshLock l h) :=
  Hub.freshLock_keeps (bears_canon 0x100000000) (Sub.refl _) H

theorem Hub.freshLock_same {l : ℕ} {h : Hub} : Hub.Same 0x100000000 h (Hub.freshLock l h) :=
  Hub.freshLock_keeps (bears_same 0x100000000 h) (Sub.refl _) (fun _ => Hub.Same.refl _ _) (by decide)

theorem Hub.freshLock_rd {l : ℕ} {h : Hub} {F : Fld} {iF bF : Nat} (eF : Nat.testBit 0x100000000 F.kind = false) :
    Hub.rd (Hub.freshLock l h) F iF bF = Hub.rd h F iF bF :=
  Hub.freshLock_same.rd (by decide) F iF bF eF

theorem Hub.refreshLanePll_canon {h : Hub} {k : ℕ} (H : Hub.Canon h) : Hub.Canon (Hub.refreshLanePll h k) :=
  Hub.refreshLanePll_keeps (bears_canon 0x2) (Sub.refl _) H

theorem Hub.refreshLanePll_same {h : Hub} {k : ℕ} : Hub.Same 0x2 h (Hub.refreshLanePll h k) :=
  Hub.refreshLanePll_keeps (bears_same 0x2 h) (Sub.refl _) (fun _ => Hub.Same.refl _ _) (by decide)

theorem Hub.refreshLanePll_rd {h : Hub} {k : ℕ} {F : Fld} {iF bF : Nat} (eF : Nat.testBit 0x2 F.kind = false) :
    Hub.rd (Hub.refreshLanePll h k) F iF bF = Hub.rd h F iF bF :=
  Hub.refreshLanePll_same.rd (by decide) F iF bF eF

theorem Hub.commitPage_canon {h : Hub} {pg : Nat} (H : Hub.Canon h) : Hub.Canon (h.commitPage pg) :=
  Hub.commitPage_keeps (bears_canon 0x2000000000008000001000000000000000000000000000000000000000000000000000000000) (Sub.refl _) H

theorem Hub.commitPage_same {h : Hub} {pg : Nat} : Hub.Same 0x2000000000008000001000000000000000000000000000000000000000000000000000000000 h (h.commitPage pg) :=
  Hub.commitPage_keeps (bears_same 0x2000000000008000001000000000000000000000000000000000000000000000000000000000 h) (Sub.refl _) (fun _ => Hub.Same.refl _ _) (by decide)

theorem Hub.txCommit_canon {l : ℕ} {h : Hub} (H : Hub.Canon h) : Hub.Canon (Hub.txCommit l h) :=
  Hub.txCommit_keeps (bears_canon 0x280200000000000c000001000000000000000000000000000010000000000000000000100000400) (Sub.refl _) H

theorem Hub.txCommit_same {l : ℕ} {h : Hub} : Hub.Same 0x280200000000000c000001000000000000000000000000000010000000000000000000100000400 h (Hub.txCommit l h) :=
  Hub.txCommit_keeps (bears_same 0x280200000000000c000001000000000000000000000000000010000000000000000000100000400 h) (Sub.refl _) (fun _ => Hub.Same.refl _ _) (by decide)

theorem Hub.setLane_canon {h0 : Hub} {l : ℕ} {s : ℕ} (H : Hub.Canon h0) : Hub.Canon (Hub.setLane h0 l s) :=
  Hub.setLane_keeps (bears_canon 0x280200000000000c000001000000000000000000000000000010000000000000000000100000402) (Sub.refl _) H

theorem Hub.setLane_same {h0 : Hub} {l : ℕ} {s : ℕ} : Hub.Same 0x280200000000000c000001000000000000000000000000000010000000000000000000100000402 h0 (Hub.setLane h0 l s) :=
  Hub.setLane_keeps (bears_same 0x280200000000000c000001000000000000000000000000000010000000000000000000100000402 h0) (Sub.refl _) (fun _ => Hub.Same.refl _ _) (by decide)

theorem Hub.drawTie_canon {h : Hub} {p : ℕ} (H : Hub.Canon h) : Hub.Canon (Hub.drawTie h p) :=
  Hub.drawTie_keeps (bears_canon 0x800000000000000000000000000000000000000000000000000000000000000000000100010000) (Sub.refl _) H

theorem Hub.drawTie_same {h : Hub} {p : ℕ} : Hub.Same 0x800000000000000000000000000000000000000000000000000000000000000000000100010000 h (Hub.drawTie h p) :=
  Hub.drawTie_keeps (bears_same 0x800000000000000000000000000000000000000000000000000000000000000000000100010000 h) (Sub.refl _) (fun _ => Hub.Same.refl _ _) (by decide)

theorem Hub.drawTie_rd {h : Hub} {p : ℕ} {F : Fld} {iF bF : Nat} (eF : Nat.testBit 0x800000000000000000000000000000000000000000000000000000000000000000000100010000 F.kind = false) :
    Hub.rd (Hub.drawTie h p) F iF bF = Hub.rd h F iF bF :=
  Hub.drawTie_same.rd (by decide) F iF bF eF

theorem Hub.toDetect_canon {h : Hub} {l : ℕ} (H : Hub.Canon h) : Hub.Canon (Hub.toDetect h l) :=
  Hub.toDetect_keeps (bears_canon 0x280200000000000c000001000000000000000000000000000010000000000000000000100010402) (Sub.refl _) H

theorem Hub.toDetect_same {h : Hub} {l : ℕ} : Hub.Same 0x280200000000000c000001000000000000000000000000000010000000000000000000100010402 h (Hub.toDetect h l) :=
  Hub.toDetect_keeps (bears_same 0x280200000000000c000001000000000000000000000000000010000000000000000000100010402 h) (Sub.refl _) (fun _ => Hub.Same.refl _ _) (by decide)

theorem Hub.settlePoison_canon {h : Hub} {id : ℕ} (H : Hub.Canon h) : Hub.Canon (Hub.settlePoison h id) :=
  Hub.settlePoison_keeps (bears_canon 0x52280000000000000400000000000000000000000000000000001000000010b000000000000000400) (Sub.refl _) H

theorem Hub.settlePoison_same {h : Hub} {id : ℕ} : Hub.Same 0x52280000000000000400000000000000000000000000000000001000000010b000000000000000400 h (Hub.settlePoison h id) :=
  Hub.settlePoison_keeps (bears_same 0x52280000000000000400000000000000000000000000000000001000000010b000000000000000400 h) (Sub.refl _) (fun _ => Hub.Same.refl _ _) (by decide)

theorem Hub.settlePoison_rd {h : Hub} {id : ℕ} {F : Fld} {iF bF : Nat} (eF : Nat.testBit 0x52280000000000000400000000000000000000000000000000001000000010b000000000000000400 F.kind = false) :
    Hub.rd (Hub.settlePoison h id) F iF bF = Hub.rd h F iF bF :=
  Hub.settlePoison_same.rd (by decide) F iF bF eF

theorem Hub.completePkt_canon {h : Hub} {id : ℕ} (H : Hub.Canon h) : Hub.Canon (Hub.completePkt h id) :=
  Hub.completePkt_keeps (bears_canon 0x52280000000000000400000000000000000000000000000000001000000010b000000000000000400) (Sub.refl _) H

theorem Hub.completePkt_same {h : Hub} {id : ℕ} : Hub.Same 0x52280000000000000400000000000000000000000000000000001000000010b000000000000000400 h (Hub.completePkt h id) :=
  Hub.completePkt_keeps (bears_same 0x52280000000000000400000000000000000000000000000000001000000010b000000000000000400 h) (Sub.refl _) (fun _ => Hub.Same.refl _ _) (by decide)

theorem Hub.completePkt_rd {h : Hub} {id : ℕ} {F : Fld} {iF bF : Nat} (eF : Nat.testBit 0x52280000000000000400000000000000000000000000000000001000000010b000000000000000400 F.kind = false) :
    Hub.rd (Hub.completePkt h id) F iF bF = Hub.rd h F iF bF :=
  Hub.completePkt_same.rd (by decide) F iF bF eF

theorem Hub.poisonPkt_canon {h : Hub} {id : ℕ} (H : Hub.Canon h) : Hub.Canon (Hub.poisonPkt h id) :=
  Hub.poisonPkt_keeps (bears_canon 0x52280000000000000400000000000000000000000000000000001000000010b000000000000000400) (Sub.refl _) H

theorem Hub.poisonPkt_same {h : Hub} {id : ℕ} : Hub.Same 0x52280000000000000400000000000000000000000000000000001000000010b000000000000000400 h (Hub.poisonPkt h id) :=
  Hub.poisonPkt_keeps (bears_same 0x52280000000000000400000000000000000000000000000000001000000010b000000000000000400 h) (Sub.refl _) (fun _ => Hub.Same.refl _ _) (by decide)

theorem Hub.poisonPkt_rd {h : Hub} {id : ℕ} {F : Fld} {iF bF : Nat} (eF : Nat.testBit 0x52280000000000000400000000000000000000000000000000001000000010b000000000000000400 F.kind = false) :
    Hub.rd (Hub.poisonPkt h id) F iF bF = Hub.rd h F iF bF :=
  Hub.poisonPkt_same.rd (by decide) F iF bF eF

theorem Hub.endEarly_canon {h : Hub} {id : ℕ} (H : Hub.Canon h) : Hub.Canon (Hub.endEarly h id) :=
  Hub.endEarly_keeps (bears_canon 0x52280000000000000400000000000000000000000000000000001000000010b000000000000000400) (Sub.refl _) H

theorem Hub.endEarly_same {h : Hub} {id : ℕ} : Hub.Same 0x52280000000000000400000000000000000000000000000000001000000010b000000000000000400 h (Hub.endEarly h id) :=
  Hub.endEarly_keeps (bears_same 0x52280000000000000400000000000000000000000000000000001000000010b000000000000000400 h) (Sub.refl _) (fun _ => Hub.Same.refl _ _) (by decide)

theorem Hub.endEarly_rd {h : Hub} {id : ℕ} {F : Fld} {iF bF : Nat} (eF : Nat.testBit 0x52280000000000000400000000000000000000000000000000001000000010b000000000000000400 F.kind = false) :
    Hub.rd (Hub.endEarly h id) F iF bF = Hub.rd h F iF bF :=
  Hub.endEarly_same.rd (by decide) F iF bF eF

theorem Hub.copyEnd_canon {h : Hub} {c : Copy} {poison : Bool} (H : Hub.Canon h) : Hub.Canon (Hub.copyEnd h c poison) :=
  Hub.copyEnd_keeps (bears_canon 0x200000000000000000000000000) (Sub.refl _) H

theorem Hub.copyEnd_same {h : Hub} {c : Copy} {poison : Bool} : Hub.Same 0x200000000000000000000000000 h (Hub.copyEnd h c poison) :=
  Hub.copyEnd_keeps (bears_same 0x200000000000000000000000000 h) (Sub.refl _) (fun _ => Hub.Same.refl _ _) (by decide)

theorem Hub.copyEnd_rd {h : Hub} {c : Copy} {poison : Bool} {F : Fld} {iF bF : Nat} (eF : Nat.testBit 0x200000000000000000000000000 F.kind = false) :
    Hub.rd (Hub.copyEnd h c poison) F iF bF = Hub.rd h F iF bF :=
  Hub.copyEnd_same.rd (by decide) F iF bF eF

theorem Hub.closeOpen_canon {h : Hub} {k : ℕ} (H : Hub.Canon h) : Hub.Canon (Hub.closeOpen h k) :=
  Hub.closeOpen_keeps (bears_canon 0x5a280000000000000400000000000000000000000000000000001020000010b000000000000000400) (Sub.refl _) H

theorem Hub.closeOpen_same {h : Hub} {k : ℕ} : Hub.Same 0x5a280000000000000400000000000000000000000000000000001020000010b000000000000000400 h (Hub.closeOpen h k) :=
  Hub.closeOpen_keeps (bears_same 0x5a280000000000000400000000000000000000000000000000001020000010b000000000000000400 h) (Sub.refl _) (fun _ => Hub.Same.refl _ _) (by decide)

theorem Hub.closeOpen_rd {h : Hub} {k : ℕ} {F : Fld} {iF bF : Nat} (eF : Nat.testBit 0x5a280000000000000400000000000000000000000000000000001020000010b000000000000000400 F.kind = false) :
    Hub.rd (Hub.closeOpen h k) F iF bF = Hub.rd h F iF bF :=
  Hub.closeOpen_same.rd (by decide) F iF bF eF

theorem Hub.closeIngress_canon {h : Hub} {pt : ℕ} (H : Hub.Canon h) : Hub.Canon (Hub.closeIngress h pt) :=
  Hub.closeIngress_keeps (bears_canon 0x5a280000000000000400000000000000000000000000000000001020000010b000000000000000400) (Sub.refl _) H

theorem Hub.closeIngress_same {h : Hub} {pt : ℕ} : Hub.Same 0x5a280000000000000400000000000000000000000000000000001020000010b000000000000000400 h (Hub.closeIngress h pt) :=
  Hub.closeIngress_keeps (bears_same 0x5a280000000000000400000000000000000000000000000000001020000010b000000000000000400 h) (Sub.refl _) (fun _ => Hub.Same.refl _ _) (by decide)

theorem Hub.closeIngress_rd {h : Hub} {pt : ℕ} {F : Fld} {iF bF : Nat} (eF : Nat.testBit 0x5a280000000000000400000000000000000000000000000000001020000010b000000000000000400 F.kind = false) :
    Hub.rd (Hub.closeIngress h pt) F iF bF = Hub.rd h F iF bF :=
  Hub.closeIngress_same.rd (by decide) F iF bF eF

theorem Hub.flushPoint_canon {h : Hub} {pt : ℕ} (H : Hub.Canon h) : Hub.Canon (Hub.flushPoint h pt) :=
  Hub.flushPoint_keeps (bears_canon 0x72280000000000000400000000000000000000000000000000001000000010f000000000000000400) (Sub.refl _) H

theorem Hub.flushPoint_same {h : Hub} {pt : ℕ} : Hub.Same 0x72280000000000000400000000000000000000000000000000001000000010f000000000000000400 h (Hub.flushPoint h pt) :=
  Hub.flushPoint_keeps (bears_same 0x72280000000000000400000000000000000000000000000000001000000010f000000000000000400 h) (Sub.refl _) (fun _ => Hub.Same.refl _ _) (by decide)

theorem Hub.flushPoint_rd {h : Hub} {pt : ℕ} {F : Fld} {iF bF : Nat} (eF : Nat.testBit 0x72280000000000000400000000000000000000000000000000001000000010f000000000000000400 F.kind = false) :
    Hub.rd (Hub.flushPoint h pt) F iF bF = Hub.rd h F iF bF :=
  Hub.flushPoint_same.rd (by decide) F iF bF eF

theorem Hub.refreshPoint_canon {e : ℕ} {h : Hub} (H : Hub.Canon h) : Hub.Canon (Hub.refreshPoint e h) :=
  Hub.refreshPoint_keeps (bears_canon 0xa800000000000004000000000000000000000000000000000010002000000010000000000000400) (Sub.refl _) H

theorem Hub.refreshPoint_same {e : ℕ} {h : Hub} : Hub.Same 0xa800000000000004000000000000000000000000000000000010002000000010000000000000400 h (Hub.refreshPoint e h) :=
  Hub.refreshPoint_keeps (bears_same 0xa800000000000004000000000000000000000000000000000010002000000010000000000000400 h) (Sub.refl _) (fun _ => Hub.Same.refl _ _) (by decide)

theorem Hub.refreshPoint_rd {e : ℕ} {h : Hub} {F : Fld} {iF bF : Nat} (eF : Nat.testBit 0xa800000000000004000000000000000000000000000000000010002000000010000000000000400 F.kind = false) :
    Hub.rd (Hub.refreshPoint e h) F iF bF = Hub.rd h F iF bF :=
  Hub.refreshPoint_same.rd (by decide) F iF bF eF

theorem Hub.refreshPoints_canon {h : Hub} (H : Hub.Canon h) : Hub.Canon (Hub.refreshPoints h) :=
  Hub.refreshPoints_keeps (bears_canon 0xa800000000000004000000000000000000000000000000000010002000000030000000000000400) (Sub.refl _) H

theorem Hub.refreshPoints_same {h : Hub} : Hub.Same 0xa800000000000004000000000000000000000000000000000010002000000030000000000000400 h (Hub.refreshPoints h) :=
  Hub.refreshPoints_keeps (bears_same 0xa800000000000004000000000000000000000000000000000010002000000030000000000000400 h) (Sub.refl _) (fun _ => Hub.Same.refl _ _) (by decide)

theorem Hub.refreshPoints_rd {h : Hub} {F : Fld} {iF bF : Nat} (eF : Nat.testBit 0xa800000000000004000000000000000000000000000000000010002000000030000000000000400 F.kind = false) :
    Hub.rd (Hub.refreshPoints h) F iF bF = Hub.rd h F iF bF :=
  Hub.refreshPoints_same.rd (by decide) F iF bF eF

theorem Hub.lmcSend_canon {h : Hub} {p : ℕ} {typ : ℕ} {tok : ℕ} {payload : Bytes} (H : Hub.Canon h) : Hub.Canon (Hub.lmcSend h p typ tok payload) :=
  Hub.lmcSend_keeps (bears_canon 0x8000000000000000000000000000000000000000000000000000000000000000000000000000000000) (Sub.refl _) H

theorem Hub.lmcSend_same {h : Hub} {p : ℕ} {typ : ℕ} {tok : ℕ} {payload : Bytes} : Hub.Same 0x8000000000000000000000000000000000000000000000000000000000000000000000000000000000 h (Hub.lmcSend h p typ tok payload) :=
  Hub.lmcSend_keeps (bears_same 0x8000000000000000000000000000000000000000000000000000000000000000000000000000000000 h) (Sub.refl _) (fun _ => Hub.Same.refl _ _) (by decide)

theorem Hub.lmcSend_rd {h : Hub} {p : ℕ} {typ : ℕ} {tok : ℕ} {payload : Bytes} {F : Fld} {iF bF : Nat} (eF : Nat.testBit 0x8000000000000000000000000000000000000000000000000000000000000000000000000000000000 F.kind = false) :
    Hub.rd (Hub.lmcSend h p typ tok payload) F iF bF = Hub.rd h F iF bF :=
  Hub.lmcSend_same.rd (by decide) F iF bF eF

theorem Hub.countUp_canon {h : Hub} (H : Hub.Canon h) : Hub.Canon (Hub.countUp h) :=
  Hub.countUp_keeps (bears_canon 0x8000000000000000000000000000000000000000000000000000000000000000000000000000000000) (Sub.refl _) H

theorem Hub.countUp_same {h : Hub} : Hub.Same 0x8000000000000000000000000000000000000000000000000000000000000000000000000000000000 h (Hub.countUp h) :=
  Hub.countUp_keeps (bears_same 0x8000000000000000000000000000000000000000000000000000000000000000000000000000000000 h) (Sub.refl _) (fun _ => Hub.Same.refl _ _) (by decide)

theorem Hub.countUp_rd {h : Hub} {F : Fld} {iF bF : Nat} (eF : Nat.testBit 0x8000000000000000000000000000000000000000000000000000000000000000000000000000000000 F.kind = false) :
    Hub.rd (Hub.countUp h) F iF bF = Hub.rd h F iF bF :=
  Hub.countUp_same.rd (by decide) F iF bF eF

theorem Hub.recount_canon {h : Hub} {old : ℕ} (H : Hub.Canon h) : Hub.Canon (Hub.recount h old) :=
  Hub.recount_keeps (bears_canon 0x8000000000000000000000000000000000000000000000000000000000000000000000000000000000) (Sub.refl _) H

theorem Hub.recount_same {h : Hub} {old : ℕ} : Hub.Same 0x8000000000000000000000000000000000000000000000000000000000000000000000000000000000 h (Hub.recount h old) :=
  Hub.recount_keeps (bears_same 0x8000000000000000000000000000000000000000000000000000000000000000000000000000000000 h) (Sub.refl _) (fun _ => Hub.Same.refl _ _) (by decide)

theorem Hub.recount_rd {h : Hub} {old : ℕ} {F : Fld} {iF bF : Nat} (eF : Nat.testBit 0x8000000000000000000000000000000000000000000000000000000000000000000000000000000000 F.kind = false) :
    Hub.rd (Hub.recount h old) F iF bF = Hub.rd h F iF bF :=
  Hub.recount_same.rd (by decide) F iF bF eF

theorem Hub.nbrSend_canon {p : ℕ} {h : Hub} (H : Hub.Canon h) : Hub.Canon (Hub.nbrSend p h) :=
  Hub.nbrSend_keeps (bears_canon 0x8000000000000000000000000000000000000000000000000000000000000000000000000000000000) (Sub.refl _) H

theorem Hub.nbrSend_same {p : ℕ} {h : Hub} : Hub.Same 0x8000000000000000000000000000000000000000000000000000000000000000000000000000000000 h (Hub.nbrSend p h) :=
  Hub.nbrSend_keeps (bears_same 0x8000000000000000000000000000000000000000000000000000000000000000000000000000000000 h) (Sub.refl _) (fun _ => Hub.Same.refl _ _) (by decide)

theorem Hub.nbrSend_rd {p : ℕ} {h : Hub} {F : Fld} {iF bF : Nat} (eF : Nat.testBit 0x8000000000000000000000000000000000000000000000000000000000000000000000000000000000 F.kind = false) :
    Hub.rd (Hub.nbrSend p h) F iF bF = Hub.rd h F iF bF :=
  Hub.nbrSend_same.rd (by decide) F iF bF eF

theorem Hub.refreshBest_canon {h : Hub} (H : Hub.Canon h) : Hub.Canon (Hub.refreshBest h) :=
  Hub.refreshBest_keeps (bears_canon 0x100000000000000000000000000) (Sub.refl _) H

theorem Hub.refreshBest_same {h : Hub} : Hub.Same 0x100000000000000000000000000 h (Hub.refreshBest h) :=
  Hub.refreshBest_keeps (bears_same 0x100000000000000000000000000 h) (Sub.refl _) (fun _ => Hub.Same.refl _ _) (by decide)

theorem Hub.refreshBest_rd {h : Hub} {F : Fld} {iF bF : Nat} (eF : Nat.testBit 0x100000000000000000000000000 F.kind = false) :
    Hub.rd (Hub.refreshBest h) F iF bF = Hub.rd h F iF bF :=
  Hub.refreshBest_same.rd (by decide) F iF bF eF

theorem Hub.linkEvent_canon {h : Hub} {event : ℕ} {port : ℕ} {partner : ℕ} {tid : ℕ} {device : ℕ} {count : ℕ} (H : Hub.Canon h) : Hub.Canon (Hub.linkEvent h event port partner tid device count) :=
  Hub.linkEvent_keeps (bears_canon 0x8000000000000000000000000000000000000000000000000000100000000010000000000000000) (Sub.refl _) H

theorem Hub.linkEvent_same {h : Hub} {event : ℕ} {port : ℕ} {partner : ℕ} {tid : ℕ} {device : ℕ} {count : ℕ} : Hub.Same 0x8000000000000000000000000000000000000000000000000000100000000010000000000000000 h (Hub.linkEvent h event port partner tid device count) :=
  Hub.linkEvent_keeps (bears_same 0x8000000000000000000000000000000000000000000000000000100000000010000000000000000 h) (Sub.refl _) (fun _ => Hub.Same.refl _ _) (by decide)

theorem Hub.linkEvent_rd {h : Hub} {event : ℕ} {port : ℕ} {partner : ℕ} {tid : ℕ} {device : ℕ} {count : ℕ} {F : Fld} {iF bF : Nat} (eF : Nat.testBit 0x8000000000000000000000000000000000000000000000000000100000000010000000000000000 F.kind = false) :
    Hub.rd (Hub.linkEvent h event port partner tid device count) F iF bF = Hub.rd h F iF bF :=
  Hub.linkEvent_same.rd (by decide) F iF bF eF

theorem Hub.refreshSource_canon {h : Hub} (H : Hub.Canon h) : Hub.Canon (Hub.refreshSource h) :=
  Hub.refreshSource_keeps (bears_canon 0x100000000000000000000000000) (Sub.refl _) H

theorem Hub.refreshSource_same {h : Hub} : Hub.Same 0x100000000000000000000000000 h (Hub.refreshSource h) :=
  Hub.refreshSource_keeps (bears_same 0x100000000000000000000000000 h) (Sub.refl _) (fun _ => Hub.Same.refl _ _) (by decide)

theorem Hub.refreshSource_rd {h : Hub} {F : Fld} {iF bF : Nat} (eF : Nat.testBit 0x100000000000000000000000000 F.kind = false) :
    Hub.rd (Hub.refreshSource h) F iF bF = Hub.rd h F iF bF :=
  Hub.refreshSource_same.rd (by decide) F iF bF eF

theorem Hub.writeUplink_canon {h : Hub} (H : Hub.Canon h) : Hub.Canon (Hub.writeUplink h) :=
  Hub.writeUplink_keeps (bears_canon 0xa800000000000004000000000000000000000000000000000010002000000030000000000000400) (Sub.refl _) H

theorem Hub.writeUplink_same {h : Hub} : Hub.Same 0xa800000000000004000000000000000000000000000000000010002000000030000000000000400 h (Hub.writeUplink h) :=
  Hub.writeUplink_keeps (bears_same 0xa800000000000004000000000000000000000000000000000010002000000030000000000000400 h) (Sub.refl _) (fun _ => Hub.Same.refl _ _) (by decide)

theorem Hub.writeUplink_rd {h : Hub} {F : Fld} {iF bF : Nat} (eF : Nat.testBit 0xa800000000000004000000000000000000000000000000000010002000000030000000000000400 F.kind = false) :
    Hub.rd (Hub.writeUplink h) F iF bF = Hub.rd h F iF bF :=
  Hub.writeUplink_same.rd (by decide) F iF bF eF

theorem Hub.setRels_canon {h : Hub} {parent : Option ℕ} {sparent : Option ℕ} (H : Hub.Canon h) : Hub.Canon (Hub.setRels h parent sparent) :=
  Hub.setRels_keeps (bears_canon 0x100000000000000000000000000) (Sub.refl _) H

theorem Hub.setRels_same {h : Hub} {parent : Option ℕ} {sparent : Option ℕ} : Hub.Same 0x100000000000000000000000000 h (Hub.setRels h parent sparent) :=
  Hub.setRels_keeps (bears_same 0x100000000000000000000000000 h) (Sub.refl _) (fun _ => Hub.Same.refl _ _) (by decide)

theorem Hub.setRels_rd {h : Hub} {parent : Option ℕ} {sparent : Option ℕ} {F : Fld} {iF bF : Nat} (eF : Nat.testBit 0x100000000000000000000000000 F.kind = false) :
    Hub.rd (Hub.setRels h parent sparent) F iF bF = Hub.rd h F iF bF :=
  Hub.setRels_same.rd (by decide) F iF bF eF

theorem Hub.setNodeId_canon {h : Hub} {id : ℕ} {valid : ℕ} {tier : ℕ} (H : Hub.Canon h) : Hub.Canon (Hub.setNodeId h id valid tier) :=
  Hub.setNodeId_keeps (bears_canon 0x4000400000000000000000000000000000000000000000000000000000000000) (Sub.refl _) H

theorem Hub.setNodeId_same {h : Hub} {id : ℕ} {valid : ℕ} {tier : ℕ} : Hub.Same 0x4000400000000000000000000000000000000000000000000000000000000000 h (Hub.setNodeId h id valid tier) :=
  Hub.setNodeId_keeps (bears_same 0x4000400000000000000000000000000000000000000000000000000000000000 h) (Sub.refl _) (fun _ => Hub.Same.refl _ _) (by decide)

theorem Hub.setNodeId_rd {h : Hub} {id : ℕ} {valid : ℕ} {tier : ℕ} {F : Fld} {iF bF : Nat} (eF : Nat.testBit 0x4000400000000000000000000000000000000000000000000000000000000000 F.kind = false) :
    Hub.rd (Hub.setNodeId h id valid tier) F iF bF = Hub.rd h F iF bF :=
  Hub.setNodeId_same.rd (by decide) F iF bF eF

theorem Hub.noId_canon {h : Hub} (H : Hub.Canon h) : Hub.Canon (Hub.noId h) :=
  Hub.noId_keeps (bears_canon 0x4000400000000000000000000000000000000100000000000000000000000000) (Sub.refl _) H

theorem Hub.noId_same {h : Hub} : Hub.Same 0x4000400000000000000000000000000000000100000000000000000000000000 h (Hub.noId h) :=
  Hub.noId_keeps (bears_same 0x4000400000000000000000000000000000000100000000000000000000000000 h) (Sub.refl _) (fun _ => Hub.Same.refl _ _) (by decide)

theorem Hub.noId_rd {h : Hub} {F : Fld} {iF bF : Nat} (eF : Nat.testBit 0x4000400000000000000000000000000000000100000000000000000000000000 F.kind = false) :
    Hub.rd (Hub.noId h) F iF bF = Hub.rd h F iF bF :=
  Hub.noId_same.rd (by decide) F iF bF eF

theorem Hub.refreshTier_canon {h0 : Hub} (H : Hub.Canon h0) : Hub.Canon (Hub.refreshTier h0) :=
  Hub.refreshTier_keeps (bears_canon 0xa800000000000004000400000000000000000000000000000010102000000030000000000000400) (Sub.refl _) H

theorem Hub.refreshTier_same {h0 : Hub} : Hub.Same 0xa800000000000004000400000000000000000000000000000010102000000030000000000000400 h0 (Hub.refreshTier h0) :=
  Hub.refreshTier_keeps (bears_same 0xa800000000000004000400000000000000000000000000000010102000000030000000000000400 h0) (Sub.refl _) (fun _ => Hub.Same.refl _ _) (by decide)

theorem Hub.refreshTier_rd {h0 : Hub} {F : Fld} {iF bF : Nat} (eF : Nat.testBit 0xa800000000000004000400000000000000000000000000000010102000000030000000000000400 F.kind = false) :
    Hub.rd (Hub.refreshTier h0) F iF bF = Hub.rd h0 F iF bF :=
  Hub.refreshTier_same.rd (by decide) F iF bF eF

theorem Hub.casPortLost_canon {h0 : Hub} {p : ℕ} {down : optParam Bool true} (H : Hub.Canon h0) : Hub.Canon (Hub.casPortLost h0 p down) :=
  Hub.casPortLost_keeps (bears_canon 0x1800a800000000000004000400000000000000000000000000000010102000000030000000000000400) (Sub.refl _) H

theorem Hub.casPortLost_same {h0 : Hub} {p : ℕ} {down : optParam Bool true} : Hub.Same 0x1800a800000000000004000400000000000000000000000000000010102000000030000000000000400 h0 (Hub.casPortLost h0 p down) :=
  Hub.casPortLost_keeps (bears_same 0x1800a800000000000004000400000000000000000000000000000010102000000030000000000000400 h0) (Sub.refl _) (fun _ => Hub.Same.refl _ _) (by decide)

theorem Hub.casPortLost_rd {h0 : Hub} {p : ℕ} {down : optParam Bool true} {F : Fld} {iF bF : Nat} (eF : Nat.testBit 0x1800a800000000000004000400000000000000000000000000000010102000000030000000000000400 F.kind = false) :
    Hub.rd (Hub.casPortLost h0 p down) F iF bF = Hub.rd h0 F iF bF :=
  Hub.casPortLost_same.rd (by decide) F iF bF eF

theorem Hub.portDown_canon {h : Hub} {p : ℕ} {cause : Option ℕ} (H : Hub.Canon h) : Hub.Canon (Hub.portDown h p cause) :=
  Hub.portDown_keeps (bears_canon 0xb987aa80200000000000c00060100000000000000000000000000001030200010f030000000100014402) (Sub.refl _) H

theorem Hub.portDown_same {h : Hub} {p : ℕ} {cause : Option ℕ} : Hub.Same 0xb987aa80200000000000c00060100000000000000000000000000001030200010f030000000100014402 h (Hub.portDown h p cause) :=
  Hub.portDown_keeps (bears_same 0xb987aa80200000000000c00060100000000000000000000000000001030200010f030000000100014402 h) (Sub.refl _) (fun _ => Hub.Same.refl _ _) (by decide)

theorem Hub.nextTok_canon {h : Hub} {p : ℕ} (H : Hub.Canon h) : Hub.Canon (Hub.nextTok h p).2 :=
  Hub.nextTok_keeps (bears_canon 0x10000) (Sub.refl _) H

theorem Hub.nextTok_same {h : Hub} {p : ℕ} : Hub.Same 0x10000 h (Hub.nextTok h p).2 :=
  Hub.nextTok_keeps (bears_same 0x10000 h) (Sub.refl _) (fun _ => Hub.Same.refl _ _) (by decide)

theorem Hub.nextTok_rd {h : Hub} {p : ℕ} {F : Fld} {iF bF : Nat} (eF : Nat.testBit 0x10000 F.kind = false) :
    Hub.rd (Hub.nextTok h p).2 F iF bF = Hub.rd h F iF bF :=
  Hub.nextTok_same.rd (by decide) F iF bF eF

theorem Hub.claspFlush_canon {h : Hub} {p : ℕ} (H : Hub.Canon h) : Hub.Canon (Hub.claspFlush h p) :=
  Hub.claspFlush_keeps (bears_canon 0x400000008000000000000000000000000000000000000100000000000000000000000000000000000000000000) (Sub.refl _) H

theorem Hub.claspFlush_same {h : Hub} {p : ℕ} : Hub.Same 0x400000008000000000000000000000000000000000000100000000000000000000000000000000000000000000 h (Hub.claspFlush h p) :=
  Hub.claspFlush_keeps (bears_same 0x400000008000000000000000000000000000000000000100000000000000000000000000000000000000000000 h) (Sub.refl _) (fun _ => Hub.Same.refl _ _) (by decide)

theorem Hub.claspFlush_rd {h : Hub} {p : ℕ} {F : Fld} {iF bF : Nat} (eF : Nat.testBit 0x400000008000000000000000000000000000000000000100000000000000000000000000000000000000000000 F.kind = false) :
    Hub.rd (Hub.claspFlush h p) F iF bF = Hub.rd h F iF bF :=
  Hub.claspFlush_same.rd (by decide) F iF bF eF

theorem Hub.sendCap_canon {h : Hub} {p : ℕ} (H : Hub.Canon h) : Hub.Canon (Hub.sendCap h p) :=
  Hub.sendCap_keeps (bears_canon 0x8000000000000000000000000000000000000000000000000000000000000000000000000000010000) (Sub.refl _) H

theorem Hub.sendCap_same {h : Hub} {p : ℕ} : Hub.Same 0x8000000000000000000000000000000000000000000000000000000000000000000000000000010000 h (Hub.sendCap h p) :=
  Hub.sendCap_keeps (bears_same 0x8000000000000000000000000000000000000000000000000000000000000000000000000000010000 h) (Sub.refl _) (fun _ => Hub.Same.refl _ _) (by decide)

theorem Hub.sendCap_rd {h : Hub} {p : ℕ} {F : Fld} {iF bF : Nat} (eF : Nat.testBit 0x8000000000000000000000000000000000000000000000000000000000000000000000000000010000 F.kind = false) :
    Hub.rd (Hub.sendCap h p) F iF bF = Hub.rd h F iF bF :=
  Hub.sendCap_same.rd (by decide) F iF bF eF

theorem Hub.enterCapx_canon {h : Hub} {p : ℕ} {m : ℕ} (H : Hub.Canon h) : Hub.Canon (Hub.enterCapx h p m) :=
  Hub.enterCapx_keeps (bears_canon 0x400000b88200000000000000004000200000000000000100000000000000000000000000000000000100014000) (Sub.refl _) H

theorem Hub.enterCapx_same {h : Hub} {p : ℕ} {m : ℕ} : Hub.Same 0x400000b88200000000000000004000200000000000000100000000000000000000000000000000000100014000 h (Hub.enterCapx h p m) :=
  Hub.enterCapx_keeps (bears_same 0x400000b88200000000000000004000200000000000000100000000000000000000000000000000000100014000 h) (Sub.refl _) (fun _ => Hub.Same.refl _ _) (by decide)

theorem Hub.enterCapx_rd {h : Hub} {p : ℕ} {m : ℕ} {F : Fld} {iF bF : Nat} (eF : Nat.testBit 0x400000b88200000000000000004000200000000000000100000000000000000000000000000000000100014000 F.kind = false) :
    Hub.rd (Hub.enterCapx h p m) F iF bF = Hub.rd h F iF bF :=
  Hub.enterCapx_same.rd (by decide) F iF bF eF

theorem Hub.refreshPortLanes_canon {h : Hub} {p : ℕ} (H : Hub.Canon h) : Hub.Canon (Hub.refreshPortLanes h p) :=
  Hub.refreshPortLanes_keeps (bears_canon 0x200000000000000000000000000000000000000000000000000000000000) (Sub.refl _) H

theorem Hub.refreshPortLanes_same {h : Hub} {p : ℕ} : Hub.Same 0x200000000000000000000000000000000000000000000000000000000000 h (Hub.refreshPortLanes h p) :=
  Hub.refreshPortLanes_keeps (bears_same 0x200000000000000000000000000000000000000000000000000000000000 h) (Sub.refl _) (fun _ => Hub.Same.refl _ _) (by decide)

theorem Hub.refreshPortLanes_rd {h : Hub} {p : ℕ} {F : Fld} {iF bF : Nat} (eF : Nat.testBit 0x200000000000000000000000000000000000000000000000000000000000 F.kind = false) :
    Hub.rd (Hub.refreshPortLanes h p) F iF bF = Hub.rd h F iF bF :=
  Hub.refreshPortLanes_same.rd (by decide) F iF bF eF

theorem Hub.formPort_canon {h : Hub} {p : ℕ} (H : Hub.Canon h) : Hub.Canon (Hub.formPort h p) :=
  Hub.formPort_keeps (bears_canon 0x400000b8820280200000000000c000201000000000000100000000000000010000000000000000000100014402) (Sub.refl _) H

theorem Hub.formPort_same {h : Hub} {p : ℕ} : Hub.Same 0x400000b8820280200000000000c000201000000000000100000000000000010000000000000000000100014402 h (Hub.formPort h p) :=
  Hub.formPort_keeps (bears_same 0x400000b8820280200000000000c000201000000000000100000000000000010000000000000000000100014402 h) (Sub.refl _) (fun _ => Hub.Same.refl _ _) (by decide)

theorem Hub.tryForm_canon {p : ℕ} {h : Hub} (H : Hub.Canon h) : Hub.Canon (Hub.tryForm p h) :=
  Hub.tryForm_keeps (bears_canon 0x400000b8820280200000000000c000201000000000000100000000000000010000000000000000000100014402) (Sub.refl _) H

theorem Hub.tryForm_same {p : ℕ} {h : Hub} : Hub.Same 0x400000b8820280200000000000c000201000000000000100000000000000010000000000000000000100014402 h (Hub.tryForm p h) :=
  Hub.tryForm_keeps (bears_same 0x400000b8820280200000000000c000201000000000000100000000000000010000000000000000000100014402 h) (Sub.refl _) (fun _ => Hub.Same.refl _ _) (by decide)

theorem Hub.askRetire_canon {h : Hub} {k : ℕ} {p : ℕ} (H : Hub.Canon h) : Hub.Canon (Hub.askRetire h k p) :=
  Hub.askRetire_keeps (bears_canon 0x10000) (Sub.refl _) H

theorem Hub.askRetire_same {h : Hub} {k : ℕ} {p : ℕ} : Hub.Same 0x10000 h (Hub.askRetire h k p) :=
  Hub.askRetire_keeps (bears_same 0x10000 h) (Sub.refl _) (fun _ => Hub.Same.refl _ _) (by decide)

theorem Hub.askRetire_rd {h : Hub} {k : ℕ} {p : ℕ} {F : Fld} {iF bF : Nat} (eF : Nat.testBit 0x10000 F.kind = false) :
    Hub.rd (Hub.askRetire h k p) F iF bF = Hub.rd h F iF bF :=
  Hub.askRetire_same.rd (by decide) F iF bF eF

theorem Hub.lostLane_canon {k : ℕ} {p : ℕ} {h : Hub} (H : Hub.Canon h) : Hub.Canon (Hub.lostLane k p h) :=
  Hub.lostLane_keeps (bears_canon 0xb987aa80200000000000c00060100000000000000000000000000001030200010f030000000100014402) (Sub.refl _) H

theorem Hub.lostLane_same {k : ℕ} {p : ℕ} {h : Hub} : Hub.Same 0xb987aa80200000000000c00060100000000000000000000000000001030200010f030000000100014402 h (Hub.lostLane k p h) :=
  Hub.lostLane_keeps (bears_same 0xb987aa80200000000000c00060100000000000000000000000000001030200010f030000000100014402 h) (Sub.refl _) (fun _ => Hub.Same.refl _ _) (by decide)

theorem Hub.laneOff_canon {l : ℕ} {h : Hub} (H : Hub.Canon h) : Hub.Canon (Hub.laneOff l h) :=
  Hub.laneOff_keeps (bears_canon 0x400000b987aa80200000000000c00060100000000000010000000000000001030200010f030000000100014402) (Sub.refl _) H

theorem Hub.laneOff_same {l : ℕ} {h : Hub} : Hub.Same 0x400000b987aa80200000000000c00060100000000000010000000000000001030200010f030000000100014402 h (Hub.laneOff l h) :=
  Hub.laneOff_keeps (bears_same 0x400000b987aa80200000000000c00060100000000000010000000000000001030200010f030000000100014402 h) (Sub.refl _) (fun _ => Hub.Same.refl _ _) (by decide)

theorem Hub.setHead_canon {h : Hub} {n : ℕ} {st : ℕ} (H : Hub.Canon h) : Hub.Canon (Hub.setHead h n st) :=
  Hub.setHead_keeps (bears_canon 0x30000000000000000000000000002) (Sub.refl _) H

theorem Hub.setHead_same {h : Hub} {n : ℕ} {st : ℕ} : Hub.Same 0x30000000000000000000000000002 h (Hub.setHead h n st) :=
  Hub.setHead_keeps (bears_same 0x30000000000000000000000000002 h) (Sub.refl _) (fun _ => Hub.Same.refl _ _) (by decide)

theorem Hub.setHead_rd {h : Hub} {n : ℕ} {st : ℕ} {F : Fld} {iF bF : Nat} (eF : Nat.testBit 0x30000000000000000000000000002 F.kind = false) :
    Hub.rd (Hub.setHead h n st) F iF bF = Hub.rd h F iF bF :=
  Hub.setHead_same.rd (by decide) F iF bF eF

theorem Hub.beginFrame_canon {h : Hub} {w : Writer} (H : Hub.Canon h) : Hub.Canon (Hub.beginFrame h w) :=
  Hub.beginFrame_keeps (bears_canon 0x8000000000000000000000000000000000000000000000800000000000000000000000000000) (Sub.refl _) H

theorem Hub.beginFrame_same {h : Hub} {w : Writer} : Hub.Same 0x8000000000000000000000000000000000000000000000800000000000000000000000000000 h (Hub.beginFrame h w) :=
  Hub.beginFrame_keeps (bears_same 0x8000000000000000000000000000000000000000000000800000000000000000000000000000 h) (Sub.refl _) (fun _ => Hub.Same.refl _ _) (by decide)

theorem Hub.beginFrame_rd {h : Hub} {w : Writer} {F : Fld} {iF bF : Nat} (eF : Nat.testBit 0x8000000000000000000000000000000000000000000000800000000000000000000000000000 F.kind = false) :
    Hub.rd (Hub.beginFrame h w) F iF bF = Hub.rd h F iF bF :=
  Hub.beginFrame_same.rd (by decide) F iF bF eF

theorem Hub.nextHostFrame_canon {h : Hub} {n : Fin 64} (H : Hub.Canon h) : Hub.Canon (Hub.nextHostFrame h n) :=
  Hub.nextHostFrame_keeps (bears_canon 0x8000000000000000000000000000000000000000000000800000000000000000000000000000) (Sub.refl _) H

theorem Hub.nextHostFrame_same {h : Hub} {n : Fin 64} : Hub.Same 0x8000000000000000000000000000000000000000000000800000000000000000000000000000 h (Hub.nextHostFrame h n) :=
  Hub.nextHostFrame_keeps (bears_same 0x8000000000000000000000000000000000000000000000800000000000000000000000000000 h) (Sub.refl _) (fun _ => Hub.Same.refl _ _) (by decide)

theorem Hub.nextHostFrame_rd {h : Hub} {n : Fin 64} {F : Fld} {iF bF : Nat} (eF : Nat.testBit 0x8000000000000000000000000000000000000000000000800000000000000000000000000000 F.kind = false) :
    Hub.rd (Hub.nextHostFrame h n) F iF bF = Hub.rd h F iF bF :=
  Hub.nextHostFrame_same.rd (by decide) F iF bF eF

theorem Hub.hold_canon {h : Hub} {k : ℕ} {bit : ℕ} {v : Bool} (H : Hub.Canon h) : Hub.Canon (Hub.hold h k bit v) :=
  Hub.hold_keeps (bears_canon 0x8000000000000000000000000000000000000000000000800000000000000000000000000000) (Sub.refl _) H

theorem Hub.hold_same {h : Hub} {k : ℕ} {bit : ℕ} {v : Bool} : Hub.Same 0x8000000000000000000000000000000000000000000000800000000000000000000000000000 h (Hub.hold h k bit v) :=
  Hub.hold_keeps (bears_same 0x8000000000000000000000000000000000000000000000800000000000000000000000000000 h) (Sub.refl _) (fun _ => Hub.Same.refl _ _) (by decide)

theorem Hub.hold_rd {h : Hub} {k : ℕ} {bit : ℕ} {v : Bool} {F : Fld} {iF bF : Nat} (eF : Nat.testBit 0x8000000000000000000000000000000000000000000000800000000000000000000000000000 F.kind = false) :
    Hub.rd (Hub.hold h k bit v) F iF bF = Hub.rd h F iF bF :=
  Hub.hold_same.rd (by decide) F iF bF eF

theorem Hub.releaseHead_canon {h : Hub} {n : ℕ} (H : Hub.Canon h) : Hub.Canon (Hub.releaseHead h n) :=
  Hub.releaseHead_keeps (bears_canon 0x8000000000000000000000000000000000000000000000820000000000000000000000000000) (Sub.refl _) H

theorem Hub.releaseHead_same {h : Hub} {n : ℕ} : Hub.Same 0x8000000000000000000000000000000000000000000000820000000000000000000000000000 h (Hub.releaseHead h n) :=
  Hub.releaseHead_keeps (bears_same 0x8000000000000000000000000000000000000000000000820000000000000000000000000000 h) (Sub.refl _) (fun _ => Hub.Same.refl _ _) (by decide)

theorem Hub.releaseHead_rd {h : Hub} {n : ℕ} {F : Fld} {iF bF : Nat} (eF : Nat.testBit 0x8000000000000000000000000000000000000000000000820000000000000000000000000000 F.kind = false) :
    Hub.rd (Hub.releaseHead h n) F iF bF = Hub.rd h F iF bF :=
  Hub.releaseHead_same.rd (by decide) F iF bF eF

theorem Hub.headDisable_canon {n : ℕ} {h : Hub} (H : Hub.Canon h) : Hub.Canon (Hub.headDisable n h) :=
  Hub.headDisable_keeps (bears_canon 0x8000000000000000000000000000000000000000000000830000000000000000000000000002) (Sub.refl _) H

theorem Hub.headDisable_same {n : ℕ} {h : Hub} : Hub.Same 0x8000000000000000000000000000000000000000000000830000000000000000000000000002 h (Hub.headDisable n h) :=
  Hub.headDisable_keeps (bears_same 0x8000000000000000000000000000000000000000000000830000000000000000000000000002 h) (Sub.refl _) (fun _ => Hub.Same.refl _ _) (by decide)

theorem Hub.headDisable_rd {n : ℕ} {h : Hub} {F : Fld} {iF bF : Nat} (eF : Nat.testBit 0x8000000000000000000000000000000000000000000000830000000000000000000000000002 F.kind = false) :
    Hub.rd (Hub.headDisable n h) F iF bF = Hub.rd h F iF bF :=
  Hub.headDisable_same.rd (by decide) F iF bF eF

theorem Hub.captureDrop_canon {h : Hub} {d : Fin 2} (H : Hub.Canon h) : Hub.Canon (Hub.captureDrop h d) :=
  Hub.captureDrop_keeps (bears_canon 0x8000000000000000000000000000000000000000000000a00000000000000000000000000000) (Sub.refl _) H

theorem Hub.captureDrop_same {h : Hub} {d : Fin 2} : Hub.Same 0x8000000000000000000000000000000000000000000000a00000000000000000000000000000 h (Hub.captureDrop h d) :=
  Hub.captureDrop_keeps (bears_same 0x8000000000000000000000000000000000000000000000a00000000000000000000000000000 h) (Sub.refl _) (fun _ => Hub.Same.refl _ _) (by decide)

theorem Hub.captureDrop_rd {h : Hub} {d : Fin 2} {F : Fld} {iF bF : Nat} (eF : Nat.testBit 0x8000000000000000000000000000000000000000000000a00000000000000000000000000000 F.kind = false) :
    Hub.rd (Hub.captureDrop h d) F iF bF = Hub.rd h F iF bF :=
  Hub.captureDrop_same.rd (by decide) F iF bF eF

theorem Hub.setLink_canon {h : Hub} {n : ℕ} {st : ℕ} (H : Hub.Canon h) : Hub.Canon (Hub.setLink h n st) :=
  Hub.setLink_keeps (bears_canon 0x1030000000000000000000000000002) (Sub.refl _) H

theorem Hub.setLink_same {h : Hub} {n : ℕ} {st : ℕ} : Hub.Same 0x1030000000000000000000000000002 h (Hub.setLink h n st) :=
  Hub.setLink_keeps (bears_same 0x1030000000000000000000000000002 h) (Sub.refl _) (fun _ => Hub.Same.refl _ _) (by decide)

theorem Hub.setLink_rd {h : Hub} {n : ℕ} {st : ℕ} {F : Fld} {iF bF : Nat} (eF : Nat.testBit 0x1030000000000000000000000000002 F.kind = false) :
    Hub.rd (Hub.setLink h n st) F iF bF = Hub.rd h F iF bF :=
  Hub.setLink_same.rd (by decide) F iF bF eF

theorem Hub.pcieTrained_canon {h : Hub} (H : Hub.Canon h) : Hub.Canon (Hub.pcieTrained h) :=
  Hub.pcieTrained_keeps (bears_canon 0x2800000000000004000000000000000000000000000000600010000000000000000000000000400) (Sub.refl _) H

theorem Hub.pcieTrained_same {h : Hub} : Hub.Same 0x2800000000000004000000000000000000000000000000600010000000000000000000000000400 h (Hub.pcieTrained h) :=
  Hub.pcieTrained_keeps (bears_same 0x2800000000000004000000000000000000000000000000600010000000000000000000000000400 h) (Sub.refl _) (fun _ => Hub.Same.refl _ _) (by decide)

theorem Hub.pcieTrained_rd {h : Hub} {F : Fld} {iF bF : Nat} (eF : Nat.testBit 0x2800000000000004000000000000000000000000000000600010000000000000000000000000400 F.kind = false) :
    Hub.rd (Hub.pcieTrained h) F iF bF = Hub.rd h F iF bF :=
  Hub.pcieTrained_same.rd (by decide) F iF bF eF

theorem Hub.pcieLink_canon {h : Hub} {up : Bool} {speed : ℕ} {width : ℕ} {ltssm : ℕ} (H : Hub.Canon h) : Hub.Canon (Hub.pcieLink h up speed width ltssm) :=
  Hub.pcieLink_keeps (bears_canon 0x2800000000000004000000000000000000000000000000700010000000000000000000000000400) (Sub.refl _) H

theorem Hub.pcieLink_same {h : Hub} {up : Bool} {speed : ℕ} {width : ℕ} {ltssm : ℕ} : Hub.Same 0x2800000000000004000000000000000000000000000000700010000000000000000000000000400 h (Hub.pcieLink h up speed width ltssm) :=
  Hub.pcieLink_keeps (bears_same 0x2800000000000004000000000000000000000000000000700010000000000000000000000000400 h) (Sub.refl _) (fun _ => Hub.Same.refl _ _) (by decide)

theorem Hub.pcieLink_rd {h : Hub} {up : Bool} {speed : ℕ} {width : ℕ} {ltssm : ℕ} {F : Fld} {iF bF : Nat} (eF : Nat.testBit 0x2800000000000004000000000000000000000000000000700010000000000000000000000000400 F.kind = false) :
    Hub.rd (Hub.pcieLink h up speed width ltssm) F iF bF = Hub.rd h F iF bF :=
  Hub.pcieLink_same.rd (by decide) F iF bF eF

theorem Hub.setClp_canon {h : Hub} {n : ℕ} {st : ℕ} (H : Hub.Canon h) : Hub.Canon (Hub.setClp h n st) :=
  Hub.setClp_keeps (bears_canon 0x4000000000000101010100000000000000000000000000000000000000000000) (Sub.refl _) H

theorem Hub.setClp_same {h : Hub} {n : ℕ} {st : ℕ} : Hub.Same 0x4000000000000101010100000000000000000000000000000000000000000000 h (Hub.setClp h n st) :=
  Hub.setClp_keeps (bears_same 0x4000000000000101010100000000000000000000000000000000000000000000 h) (Sub.refl _) (fun _ => Hub.Same.refl _ _) (by decide)

theorem Hub.setClp_rd {h : Hub} {n : ℕ} {st : ℕ} {F : Fld} {iF bF : Nat} (eF : Nat.testBit 0x4000000000000101010100000000000000000000000000000000000000000000 F.kind = false) :
    Hub.rd (Hub.setClp h n st) F iF bF = Hub.rd h F iF bF :=
  Hub.setClp_same.rd (by decide) F iF bF eF

theorem Hub.endContract_canon {h : Hub} {n : ℕ} (H : Hub.Canon h) : Hub.Canon (Hub.endContract h n) :=
  Hub.endContract_keeps (bears_canon 0x400000000000000000000000000000000000000000000100000000000000000000000000000000000000000000) (Sub.refl _) H

theorem Hub.endContract_same {h : Hub} {n : ℕ} : Hub.Same 0x400000000000000000000000000000000000000000000100000000000000000000000000000000000000000000 h (Hub.endContract h n) :=
  Hub.endContract_keeps (bears_same 0x400000000000000000000000000000000000000000000100000000000000000000000000000000000000000000 h) (Sub.refl _) (fun _ => Hub.Same.refl _ _) (by decide)

theorem Hub.endContract_rd {h : Hub} {n : ℕ} {F : Fld} {iF bF : Nat} (eF : Nat.testBit 0x400000000000000000000000000000000000000000000100000000000000000000000000000000000000000000 F.kind = false) :
    Hub.rd (Hub.endContract h n) F iF bF = Hub.rd h F iF bF :=
  Hub.endContract_same.rd (by decide) F iF bF eF

theorem Hub.openClp_canon {h : Hub} {n : ℕ} {st : ℕ} (H : Hub.Canon h) : Hub.Canon (Hub.openClp h n st) :=
  Hub.openClp_keeps (bears_canon 0x400000000000000000000000004000000000000101010100000000000000000000000000000000000000000000) (Sub.refl _) H

theorem Hub.openClp_same {h : Hub} {n : ℕ} {st : ℕ} : Hub.Same 0x400000000000000000000000004000000000000101010100000000000000000000000000000000000000000000 h (Hub.openClp h n st) :=
  Hub.openClp_keeps (bears_same 0x400000000000000000000000004000000000000101010100000000000000000000000000000000000000000000 h) (Sub.refl _) (fun _ => Hub.Same.refl _ _) (by decide)

theorem Hub.openClp_rd {h : Hub} {n : ℕ} {st : ℕ} {F : Fld} {iF bF : Nat} (eF : Nat.testBit 0x400000000000000000000000004000000000000101010100000000000000000000000000000000000000000000 F.kind = false) :
    Hub.rd (Hub.openClp h n st) F iF bF = Hub.rd h F iF bF :=
  Hub.openClp_same.rd (by decide) F iF bF eF

theorem Hub.pdDrop_canon {h : Hub} {k : ℕ} (H : Hub.Canon h) : Hub.Canon (Hub.pdDrop h k) :=
  Hub.pdDrop_keeps (bears_canon 0x10000000000000000000000000000000000000000000000) (Sub.refl _) H

theorem Hub.pdDrop_same {h : Hub} {k : ℕ} : Hub.Same 0x10000000000000000000000000000000000000000000000 h (Hub.pdDrop h k) :=
  Hub.pdDrop_keeps (bears_same 0x10000000000000000000000000000000000000000000000 h) (Sub.refl _) (fun _ => Hub.Same.refl _ _) (by decide)

theorem Hub.pdDrop_rd {h : Hub} {k : ℕ} {F : Fld} {iF bF : Nat} (eF : Nat.testBit 0x10000000000000000000000000000000000000000000000 F.kind = false) :
    Hub.rd (Hub.pdDrop h k) F iF bF = Hub.rd h F iF bF :=
  Hub.pdDrop_same.rd (by decide) F iF bF eF

theorem Hub.pdFollow_canon {h : Hub} {detach : Bool} (H : Hub.Canon h) : Hub.Canon (Hub.pdFollow h detach) :=
  Hub.pdFollow_keeps (bears_canon 0x140000000002808000000000004000000000000101010100070000000000010000000000000000000000000400) (Sub.refl _) H

theorem Hub.pdFollow_same {h : Hub} {detach : Bool} : Hub.Same 0x140000000002808000000000004000000000000101010100070000000000010000000000000000000000000400 h (Hub.pdFollow h detach) :=
  Hub.pdFollow_keeps (bears_same 0x140000000002808000000000004000000000000101010100070000000000010000000000000000000000000400 h) (Sub.refl _) (fun _ => Hub.Same.refl _ _) (by decide)

theorem Hub.pdFollow_rd {h : Hub} {detach : Bool} {F : Fld} {iF bF : Nat} (eF : Nat.testBit 0x140000000002808000000000004000000000000101010100070000000000010000000000000000000000000400 F.kind = false) :
    Hub.rd (Hub.pdFollow h detach) F iF bF = Hub.rd h F iF bF :=
  Hub.pdFollow_same.rd (by decide) F iF bF eF

theorem Hub.pdMeasure_canon {h : Hub} {k : ℕ} (H : Hub.Canon h) : Hub.Canon (Hub.pdMeasure h k) :=
  Hub.pdMeasure_keeps (bears_canon 0x800000000000000000000000000000010000000000000000000000000000000000000000000000) (Sub.refl _) H

theorem Hub.pdMeasure_same {h : Hub} {k : ℕ} : Hub.Same 0x800000000000000000000000000000010000000000000000000000000000000000000000000000 h (Hub.pdMeasure h k) :=
  Hub.pdMeasure_keeps (bears_same 0x800000000000000000000000000000010000000000000000000000000000000000000000000000 h) (Sub.refl _) (fun _ => Hub.Same.refl _ _) (by decide)

theorem Hub.pdMeasure_rd {h : Hub} {k : ℕ} {F : Fld} {iF bF : Nat} (eF : Nat.testBit 0x800000000000000000000000000000010000000000000000000000000000000000000000000000 F.kind = false) :
    Hub.rd (Hub.pdMeasure h k) F iF bF = Hub.rd h F iF bF :=
  Hub.pdMeasure_same.rd (by decide) F iF bF eF

theorem Hub.captureCause_canon {h : Hub} {d : Fin 2} {cause : ℕ} {hact : ℕ} {vact : ℕ} {pclk : ℕ} (H : Hub.Canon h) : Hub.Canon (Hub.captureCause h d cause hact vact pclk) :=
  Hub.captureCause_keeps (bears_canon 0x2808000000000004000000000000000000000000000000000a10000000000000000000000000400) (Sub.refl _) H

theorem Hub.captureCause_same {h : Hub} {d : Fin 2} {cause : ℕ} {hact : ℕ} {vact : ℕ} {pclk : ℕ} : Hub.Same 0x2808000000000004000000000000000000000000000000000a10000000000000000000000000400 h (Hub.captureCause h d cause hact vact pclk) :=
  Hub.captureCause_keeps (bears_same 0x2808000000000004000000000000000000000000000000000a10000000000000000000000000400 h) (Sub.refl _) (fun _ => Hub.Same.refl _ _) (by decide)

theorem Hub.captureCause_rd {h : Hub} {d : Fin 2} {cause : ℕ} {hact : ℕ} {vact : ℕ} {pclk : ℕ} {F : Fld} {iF bF : Nat} (eF : Nat.testBit 0x2808000000000004000000000000000000000000000000000a10000000000000000000000000400 F.kind = false) :
    Hub.rd (Hub.captureCause h d cause hact vact pclk) F iF bF = Hub.rd h F iF bF :=
  Hub.captureCause_same.rd (by decide) F iF bF eF

theorem Hub.altExit_canon {h : Hub} {k : Fin 2} (H : Hub.Canon h) : Hub.Canon (Hub.altExit h k) :=
  Hub.altExit_keeps (bears_canon 0x2808000000000004000000000000000010000000000000000a10000000000000000000000000400) (Sub.refl _) H

theorem Hub.altExit_same {h : Hub} {k : Fin 2} : Hub.Same 0x2808000000000004000000000000000010000000000000000a10000000000000000000000000400 h (Hub.altExit h k) :=
  Hub.altExit_keeps (bears_same 0x2808000000000004000000000000000010000000000000000a10000000000000000000000000400 h) (Sub.refl _) (fun _ => Hub.Same.refl _ _) (by decide)

theorem Hub.altExit_rd {h : Hub} {k : Fin 2} {F : Fld} {iF bF : Nat} (eF : Nat.testBit 0x2808000000000004000000000000000010000000000000000a10000000000000000000000000400 F.kind = false) :
    Hub.rd (Hub.altExit h k) F iF bF = Hub.rd h F iF bF :=
  Hub.altExit_same.rd (by decide) F iF bF eF

theorem Hub.pdDetach_canon {h : Hub} {k : Fin 2} (H : Hub.Canon h) : Hub.Canon (Hub.pdDetach h k) :=
  Hub.pdDetach_keeps (bears_canon 0x140000000002808000000000004000000000000101010100070000000000a10000000000000000000000000400) (Sub.refl _) H

theorem Hub.pdDetach_same {h : Hub} {k : Fin 2} : Hub.Same 0x140000000002808000000000004000000000000101010100070000000000a10000000000000000000000000400 h (Hub.pdDetach h k) :=
  Hub.pdDetach_keeps (bears_same 0x140000000002808000000000004000000000000101010100070000000000a10000000000000000000000000400 h) (Sub.refl _) (fun _ => Hub.Same.refl _ _) (by decide)

theorem Hub.pdDetach_rd {h : Hub} {k : Fin 2} {F : Fld} {iF bF : Nat} (eF : Nat.testBit 0x140000000002808000000000004000000000000101010100070000000000a10000000000000000000000000400 F.kind = false) :
    Hub.rd (Hub.pdDetach h k) F iF bF = Hub.rd h F iF bF :=
  Hub.pdDetach_same.rd (by decide) F iF bF eF

theorem Hub.setLpo_canon {h : Hub} {n : ℕ} {st : ℕ} (H : Hub.Canon h) : Hub.Canon (Hub.setLpo h n st) :=
  Hub.setLpo_keeps (bears_canon 0x4000000000000101010100000000000000000000000000000000000000000000) (Sub.refl _) H

theorem Hub.setLpo_same {h : Hub} {n : ℕ} {st : ℕ} : Hub.Same 0x4000000000000101010100000000000000000000000000000000000000000000 h (Hub.setLpo h n st) :=
  Hub.setLpo_keeps (bears_same 0x4000000000000101010100000000000000000000000000000000000000000000 h) (Sub.refl _) (fun _ => Hub.Same.refl _ _) (by decide)

theorem Hub.setLpo_rd {h : Hub} {n : ℕ} {st : ℕ} {F : Fld} {iF bF : Nat} (eF : Nat.testBit 0x4000000000000101010100000000000000000000000000000000000000000000 F.kind = false) :
    Hub.rd (Hub.setLpo h n st) F iF bF = Hub.rd h F iF bF :=
  Hub.setLpo_same.rd (by decide) F iF bF eF

theorem Hub.setLpoPg_canon {h : Hub} {n : ℕ} {pg : Bool} (H : Hub.Canon h) : Hub.Canon (Hub.setLpoPg h n pg) :=
  Hub.setLpoPg_keeps (bears_canon 0x4000000000000001000000000000000000000000000000000000000000000000) (Sub.refl _) H

theorem Hub.setLpoPg_same {h : Hub} {n : ℕ} {pg : Bool} : Hub.Same 0x4000000000000001000000000000000000000000000000000000000000000000 h (Hub.setLpoPg h n pg) :=
  Hub.setLpoPg_keeps (bears_same 0x4000000000000001000000000000000000000000000000000000000000000000 h) (Sub.refl _) (fun _ => Hub.Same.refl _ _) (by decide)

theorem Hub.setLpoPg_rd {h : Hub} {n : ℕ} {pg : Bool} {F : Fld} {iF bF : Nat} (eF : Nat.testBit 0x4000000000000001000000000000000000000000000000000000000000000000 F.kind = false) :
    Hub.rd (Hub.setLpoPg h n pg) F iF bF = Hub.rd h F iF bF :=
  Hub.setLpoPg_same.rd (by decide) F iF bF eF

theorem Hub.lpoOff_canon {h : Hub} {n : ℕ} {st : ℕ} (H : Hub.Canon h) : Hub.Canon (Hub.lpoOff h n st) :=
  Hub.lpoOff_keeps (bears_canon 0x4000000000000101010100000000000000000000000000000000000000000000) (Sub.refl _) H

theorem Hub.lpoOff_same {h : Hub} {n : ℕ} {st : ℕ} : Hub.Same 0x4000000000000101010100000000000000000000000000000000000000000000 h (Hub.lpoOff h n st) :=
  Hub.lpoOff_keeps (bears_same 0x4000000000000101010100000000000000000000000000000000000000000000 h) (Sub.refl _) (fun _ => Hub.Same.refl _ _) (by decide)

theorem Hub.lpoOff_rd {h : Hub} {n : ℕ} {st : ℕ} {F : Fld} {iF bF : Nat} (eF : Nat.testBit 0x4000000000000101010100000000000000000000000000000000000000000000 F.kind = false) :
    Hub.rd (Hub.lpoOff h n st) F iF bF = Hub.rd h F iF bF :=
  Hub.lpoOff_same.rd (by decide) F iF bF eF

theorem Hub.quiesce_canon {pg : ℕ} {h : Hub} (H : Hub.Canon h) : Hub.Canon (Hub.quiesce pg h) :=
  Hub.quiesce_keeps (bears_canon 0x540000b987aa80a00000000000c000601000000101010100070000000701a3030200010f030000000100014402) (Sub.refl _) H

theorem Hub.quiesce_same {pg : ℕ} {h : Hub} : Hub.Same 0x540000b987aa80a00000000000c000601000000101010100070000000701a3030200010f030000000100014402 h (Hub.quiesce pg h) :=
  Hub.quiesce_keeps (bears_same 0x540000b987aa80a00000000000c000601000000101010100070000000701a3030200010f030000000100014402 h) (Sub.refl _) (fun _ => Hub.Same.refl _ _) (by decide)

theorem Hub.pciRole_canon {h : Hub} (H : Hub.Canon h) : Hub.Canon (Hub.pciRole h) :=
  Hub.pciRole_keeps (bears_canon 0x200000000000000000000000000000000) (Sub.refl _) H

theorem Hub.pciRole_same {h : Hub} : Hub.Same 0x200000000000000000000000000000000 h (Hub.pciRole h) :=
  Hub.pciRole_keeps (bears_same 0x200000000000000000000000000000000 h) (Sub.refl _) (fun _ => Hub.Same.refl _ _) (by decide)

theorem Hub.pciRole_rd {h : Hub} {F : Fld} {iF bF : Nat} (eF : Nat.testBit 0x200000000000000000000000000000000 F.kind = false) :
    Hub.rd (Hub.pciRole h) F iF bF = Hub.rd h F iF bF :=
  Hub.pciRole_same.rd (by decide) F iF bF eF

theorem Hub.seqDefault_canon {l : ℕ} {h : Hub} (H : Hub.Canon h) : Hub.Canon (Hub.seqDefault l h) :=
  Hub.seqDefault_keeps (bears_canon 0x100000000) (Sub.refl _) H

theorem Hub.seqDefault_same {l : ℕ} {h : Hub} : Hub.Same 0x100000000 h (Hub.seqDefault l h) :=
  Hub.seqDefault_keeps (bears_same 0x100000000 h) (Sub.refl _) (fun _ => Hub.Same.refl _ _) (by decide)

theorem Hub.seqDefault_rd {l : ℕ} {h : Hub} {F : Fld} {iF bF : Nat} (eF : Nat.testBit 0x100000000 F.kind = false) :
    Hub.rd (Hub.seqDefault l h) F iF bF = Hub.rd h F iF bF :=
  Hub.seqDefault_same.rd (by decide) F iF bF eF

theorem Hub.cfgReset_canon {h : Hub} {c : Nat → Bool} (H : Hub.Canon h) : Hub.Canon (h.cfgReset c) :=
  Hub.cfgReset_keeps (bears_canon 0x8000000000000000000000000000000200000000000000000000000100000001) (Sub.refl _) H

theorem Hub.cfgReset_same {h : Hub} {c : Nat → Bool} : Hub.Same 0x8000000000000000000000000000000200000000000000000000000100000001 h (h.cfgReset c) :=
  Hub.cfgReset_keeps (bears_same 0x8000000000000000000000000000000200000000000000000000000100000001 h) (Sub.refl _) (fun _ => Hub.Same.refl _ _) (by decide)

theorem Hub.clearBuffer_canon {h : Hub} (H : Hub.Canon h) : Hub.Canon (Hub.clearBuffer h) :=
  Hub.clearBuffer_keeps (bears_canon 0x3a000000000000000000000000000000000000000000000000000000000010b000000000000000000) (Sub.refl _) H

theorem Hub.clearBuffer_same {h : Hub} : Hub.Same 0x3a000000000000000000000000000000000000000000000000000000000010b000000000000000000 h (Hub.clearBuffer h) :=
  Hub.clearBuffer_keeps (bears_same 0x3a000000000000000000000000000000000000000000000000000000000010b000000000000000000 h) (Sub.refl _) (fun _ => Hub.Same.refl _ _) (by decide)

theorem Hub.clearBuffer_rd {h : Hub} {F : Fld} {iF bF : Nat} (eF : Nat.testBit 0x3a000000000000000000000000000000000000000000000000000000000010b000000000000000000 F.kind = false) :
    Hub.rd (Hub.clearBuffer h) F iF bF = Hub.rd h F iF bF :=
  Hub.clearBuffer_same.rd (by decide) F iF bF eF

theorem Hub.dropLists_canon {pg : ℕ} {h : Hub} (H : Hub.Canon h) : Hub.Canon (Hub.dropLists pg h) :=
  Hub.dropLists_keeps (bears_canon 0xf786583ddfbfffb100000000000000000000000000000000000000000000000000000000010b000000000000000000) (Sub.refl _) H

theorem Hub.dropLists_same {pg : ℕ} {h : Hub} : Hub.Same 0xf786583ddfbfffb100000000000000000000000000000000000000000000000000000000010b000000000000000000 h (Hub.dropLists pg h) :=
  Hub.dropLists_keeps (bears_same 0xf786583ddfbfffb100000000000000000000000000000000000000000000000000000000010b000000000000000000 h) (Sub.refl _) (fun _ => Hub.Same.refl _ _) (by decide)

theorem Hub.dropLists_rd {pg : ℕ} {h : Hub} {F : Fld} {iF bF : Nat} (eF : Nat.testBit 0xf786583ddfbfffb100000000000000000000000000000000000000000000000000000000010b000000000000000000 F.kind = false) :
    Hub.rd (Hub.dropLists pg h) F iF bF = Hub.rd h F iF bF :=
  Hub.dropLists_same.rd (by decide) F iF bF eF

theorem Hub.softReset_canon {pg : ℕ} {busy : ℕ} {h : Hub} (H : Hub.Canon h) : Hub.Canon (Hub.softReset pg busy h) :=
  Hub.softReset_keeps (bears_canon 0xf7865c3ddfbfffbb80a00000000000c000603000000101010100070000010701a3030200010f030000000100015d1f) (Sub.refl _) H

theorem Hub.softReset_same {pg : ℕ} {busy : ℕ} {h : Hub} : Hub.Same 0xf7865c3ddfbfffbb80a00000000000c000603000000101010100070000010701a3030200010f030000000100015d1f h (Hub.softReset pg busy h) :=
  Hub.softReset_keeps (bears_same 0xf7865c3ddfbfffbb80a00000000000c000603000000101010100070000010701a3030200010f030000000100015d1f h) (Sub.refl _) (fun _ => Hub.Same.refl _ _) (by decide)

theorem Hub.laneEnable_canon {l : ℕ} {h : Hub} {c : optParam Cap { }} (H : Hub.Canon h) : Hub.Canon (Hub.laneEnable l h c) :=
  Hub.laneEnable_keeps (bears_canon 0x280200000000000c000001000000000000000000000000000010000000000000000000100010402) (Sub.refl _) H

theorem Hub.laneEnable_same {l : ℕ} {h : Hub} {c : optParam Cap { }} : Hub.Same 0x280200000000000c000001000000000000000000000000000010000000000000000000100010402 h (Hub.laneEnable l h c) :=
  Hub.laneEnable_keeps (bears_same 0x280200000000000c000001000000000000000000000000000010000000000000000000100010402 h) (Sub.refl _) (fun _ => Hub.Same.refl _ _) (by decide)

theorem Hub.refuseMode_canon {h : Hub} {n : ℕ} {bits : List ℕ} {c : optParam Cap { }} (H : Hub.Canon h) : Hub.Canon (Hub.refuseMode h n bits c) :=
  Hub.refuseMode_keeps (bears_canon 0x2800000000000004000000000000000000000000000000000030000000000000000000000000400) (Sub.refl _) H

theorem Hub.refuseMode_same {h : Hub} {n : ℕ} {bits : List ℕ} {c : optParam Cap { }} : Hub.Same 0x2800000000000004000000000000000000000000000000000030000000000000000000000000400 h (Hub.refuseMode h n bits c) :=
  Hub.refuseMode_keeps (bears_same 0x2800000000000004000000000000000000000000000000000030000000000000000000000000400 h) (Sub.refl _) (fun _ => Hub.Same.refl _ _) (by decide)

theorem Hub.refuseMode_rd {h : Hub} {n : ℕ} {bits : List ℕ} {c : optParam Cap { }} {F : Fld} {iF bF : Nat} (eF : Nat.testBit 0x2800000000000004000000000000000000000000000000000030000000000000000000000000400 F.kind = false) :
    Hub.rd (Hub.refuseMode h n bits c) F iF bF = Hub.rd h F iF bF :=
  Hub.refuseMode_same.rd (by decide) F iF bF eF

theorem Hub.headEnable_canon {n : ℕ} {h : Hub} {c : optParam Cap { }} (H : Hub.Canon h) : Hub.Canon (Hub.headEnable n h c) :=
  Hub.headEnable_keeps (bears_canon 0x2800000000000004000000000000000000000000000000000030000000000000000000000000402) (Sub.refl _) H

theorem Hub.headEnable_same {n : ℕ} {h : Hub} {c : optParam Cap { }} : Hub.Same 0x2800000000000004000000000000000000000000000000000030000000000000000000000000402 h (Hub.headEnable n h c) :=
  Hub.headEnable_keeps (bears_same 0x2800000000000004000000000000000000000000000000000030000000000000000000000000402 h) (Sub.refl _) (fun _ => Hub.Same.refl _ _) (by decide)

theorem Hub.headEnable_rd {n : ℕ} {h : Hub} {c : optParam Cap { }} {F : Fld} {iF bF : Nat} (eF : Nat.testBit 0x2800000000000004000000000000000000000000000000000030000000000000000000000000402 F.kind = false) :
    Hub.rd (Hub.headEnable n h c) F iF bF = Hub.rd h F iF bF :=
  Hub.headEnable_same.rd (by decide) F iF bF eF

theorem Hub.claspEnable_canon {h : Hub} {n : ℕ} {en : Bool} (H : Hub.Canon h) : Hub.Canon (Hub.claspEnable h n en) :=
  Hub.claspEnable_keeps (bears_canon 0x400000000000000000000000004000000000000101010100000000000000000000000000000000000000000000) (Sub.refl _) H

theorem Hub.claspEnable_same {h : Hub} {n : ℕ} {en : Bool} : Hub.Same 0x400000000000000000000000004000000000000101010100000000000000000000000000000000000000000000 h (Hub.claspEnable h n en) :=
  Hub.claspEnable_keeps (bears_same 0x400000000000000000000000004000000000000101010100000000000000000000000000000000000000000000 h) (Sub.refl _) (fun _ => Hub.Same.refl _ _) (by decide)

theorem Hub.claspEnable_rd {h : Hub} {n : ℕ} {en : Bool} {F : Fld} {iF bF : Nat} (eF : Nat.testBit 0x400000000000000000000000004000000000000101010100000000000000000000000000000000000000000000 F.kind = false) :
    Hub.rd (Hub.claspEnable h n en) F iF bF = Hub.rd h F iF bF :=
  Hub.claspEnable_same.rd (by decide) F iF bF eF

theorem Hub.lpoEnable_canon {h : Hub} {n : ℕ} {en : Bool} (H : Hub.Canon h) : Hub.Canon (Hub.lpoEnable h n en) :=
  Hub.lpoEnable_keeps (bears_canon 0x4000000000000101010100000000000000000000000000000000000000000000) (Sub.refl _) H

theorem Hub.lpoEnable_same {h : Hub} {n : ℕ} {en : Bool} : Hub.Same 0x4000000000000101010100000000000000000000000000000000000000000000 h (Hub.lpoEnable h n en) :=
  Hub.lpoEnable_keeps (bears_same 0x4000000000000101010100000000000000000000000000000000000000000000 h) (Sub.refl _) (fun _ => Hub.Same.refl _ _) (by decide)

theorem Hub.lpoEnable_rd {h : Hub} {n : ℕ} {en : Bool} {F : Fld} {iF bF : Nat} (eF : Nat.testBit 0x4000000000000101010100000000000000000000000000000000000000000000 F.kind = false) :
    Hub.rd (Hub.lpoEnable h n en) F iF bF = Hub.rd h F iF bF :=
  Hub.lpoEnable_same.rd (by decide) F iF bF eF

theorem Hub.enable_canon {pg : ℕ} {en : Bool} {h : Hub} {c : optParam Cap { }} (H : Hub.Canon h) : Hub.Canon (Hub.enable pg en h c) :=
  Hub.enable_keeps (bears_canon 0x540000b987aa80a00000000000c000603000000101010100070000000000a3030200010f030000000100014402) (Sub.refl _) H

theorem Hub.enable_same {pg : ℕ} {en : Bool} {h : Hub} {c : optParam Cap { }} : Hub.Same 0x540000b987aa80a00000000000c000603000000101010100070000000000a3030200010f030000000100014402 h (Hub.enable pg en h c) :=
  Hub.enable_keeps (bears_same 0x540000b987aa80a00000000000c000603000000101010100070000000000a3030200010f030000000100014402 h) (Sub.refl _) (fun _ => Hub.Same.refl _ _) (by decide)

theorem Hub.clearEstat_canon {h : Hub} {pg : ℕ} {v : ℕ} (H : Hub.Canon h) : Hub.Canon (Hub.clearEstat h pg v) :=
  Hub.clearEstat_keeps (bears_canon 0x4000000000000000000000000000000000010000000000000000000000000000) (Sub.refl _) H

theorem Hub.clearEstat_same {h : Hub} {pg : ℕ} {v : ℕ} : Hub.Same 0x4000000000000000000000000000000000010000000000000000000000000000 h (Hub.clearEstat h pg v) :=
  Hub.clearEstat_keeps (bears_same 0x4000000000000000000000000000000000010000000000000000000000000000 h) (Sub.refl _) (fun _ => Hub.Same.refl _ _) (by decide)

theorem Hub.clearEstat_rd {h : Hub} {pg : ℕ} {v : ℕ} {F : Fld} {iF bF : Nat} (eF : Nat.testBit 0x4000000000000000000000000000000000010000000000000000000000000000 F.kind = false) :
    Hub.rd (Hub.clearEstat h pg v) F iF bF = Hub.rd h F iF bF :=
  Hub.clearEstat_same.rd (by decide) F iF bF eF

theorem Hub.newError_canon {pg : ℕ} {n : ℕ} {h : Hub} (H : Hub.Canon h) : Hub.Canon (Hub.newError pg n h) :=
  Hub.newError_keeps (bears_canon 0x2800000000000004000000000000000000000000000000000010000000000000000000000000400) (Sub.refl _) H

theorem Hub.newError_same {pg : ℕ} {n : ℕ} {h : Hub} : Hub.Same 0x2800000000000004000000000000000000000000000000000010000000000000000000000000400 h (Hub.newError pg n h) :=
  Hub.newError_keeps (bears_same 0x2800000000000004000000000000000000000000000000000010000000000000000000000000400 h) (Sub.refl _) (fun _ => Hub.Same.refl _ _) (by decide)

theorem Hub.newError_rd {pg : ℕ} {n : ℕ} {h : Hub} {F : Fld} {iF bF : Nat} (eF : Nat.testBit 0x2800000000000004000000000000000000000000000000000010000000000000000000000000400 F.kind = false) :
    Hub.rd (Hub.newError pg n h) F iF bF = Hub.rd h F iF bF :=
  Hub.newError_same.rd (by decide) F iF bF eF

theorem Hub.estatWrite_canon {h : Hub} {pg : ℕ} {v : ℕ} {newErr : ℕ} (H : Hub.Canon h) : Hub.Canon (Hub.estatWrite h pg v newErr) :=
  Hub.estatWrite_keeps (bears_canon 0x2800000000000004000000000000000000000000000000000010000000000000000000000000400) (Sub.refl _) H

theorem Hub.estatWrite_same {h : Hub} {pg : ℕ} {v : ℕ} {newErr : ℕ} : Hub.Same 0x2800000000000004000000000000000000000000000000000010000000000000000000000000400 h (Hub.estatWrite h pg v newErr) :=
  Hub.estatWrite_keeps (bears_same 0x2800000000000004000000000000000000000000000000000010000000000000000000000000400 h) (Sub.refl _) (fun _ => Hub.Same.refl _ _) (by decide)

theorem Hub.estatWrite_rd {h : Hub} {pg : ℕ} {v : ℕ} {newErr : ℕ} {F : Fld} {iF bF : Nat} (eF : Nat.testBit 0x2800000000000004000000000000000000000000000000000010000000000000000000000000400 F.kind = false) :
    Hub.rd (Hub.estatWrite h pg v newErr) F iF bF = Hub.rd h F iF bF :=
  Hub.estatWrite_same.rd (by decide) F iF bF eF

theorem Hub.askCommit_canon {pg : ℕ} {h : Hub} (H : Hub.Canon h) : Hub.Canon (Hub.askCommit pg h) :=
  Hub.askCommit_keeps (bears_canon 0x280200000000000c000001000000000000000000000000000010000000000000000000100000400) (Sub.refl _) H

theorem Hub.askCommit_same {pg : ℕ} {h : Hub} : Hub.Same 0x280200000000000c000001000000000000000000000000000010000000000000000000100000400 h (Hub.askCommit pg h) :=
  Hub.askCommit_keeps (bears_same 0x280200000000000c000001000000000000000000000000000010000000000000000000100000400 h) (Sub.refl _) (fun _ => Hub.Same.refl _ _) (by decide)

theorem Hub.writeLock_canon {h : Hub} {pg : ℕ} {v : ℕ} (H : Hub.Canon h) : Hub.Canon (Hub.writeLock h pg v) :=
  Hub.writeLock_keeps (bears_canon 0x1000000000000000000000000000000000000000000000000000000000000) (Sub.refl _) H

theorem Hub.writeLock_same {h : Hub} {pg : ℕ} {v : ℕ} : Hub.Same 0x1000000000000000000000000000000000000000000000000000000000000 h (Hub.writeLock h pg v) :=
  Hub.writeLock_keeps (bears_same 0x1000000000000000000000000000000000000000000000000000000000000 h) (Sub.refl _) (fun _ => Hub.Same.refl _ _) (by decide)

theorem Hub.writeLock_rd {h : Hub} {pg : ℕ} {v : ℕ} {F : Fld} {iF bF : Nat} (eF : Nat.testBit 0x1000000000000000000000000000000000000000000000000000000000000 F.kind = false) :
    Hub.rd (Hub.writeLock h pg v) F iF bF = Hub.rd h F iF bF :=
  Hub.writeLock_same.rd (by decide) F iF bF eF

theorem Hub.writeFld_canon {h : Hub} {F : Fld} {v i b : Nat} {c : Cap} (H : Hub.Canon h) : Hub.Canon (h.writeFld F v i b c) :=
  Hub.writeFld_keeps (bears_canon 0x280200000000000c000000000000000000000000000000000010000000000000000000000000400) (Sub.refl _) H

theorem Hub.writeFld_same {h : Hub} {F : Fld} {v i b : Nat} {c : Cap} : Hub.Same 0x280200000000000c000000000000000000000000000000000010000000000000000000000000400 h (h.writeFld F v i b c) :=
  Hub.writeFld_keeps (bears_same 0x280200000000000c000000000000000000000000000000000010000000000000000000000000400 h) (Sub.refl _) (fun _ => Hub.Same.refl _ _) (by decide)

theorem Hub.writeReg_canon {h : Hub} {pg : ℕ} {off : ℕ} {v : ℕ} {c : Cap} (H : Hub.Canon h) : Hub.Canon (Hub.writeReg h pg off v c) :=
  Hub.writeReg_keeps (bears_canon 0x280200000000000c001000000000000000000000000000000010000000000000000000000000500) (Sub.refl _) H

theorem Hub.writeReg_same {h : Hub} {pg : ℕ} {off : ℕ} {v : ℕ} {c : Cap} : Hub.Same 0x280200000000000c001000000000000000000000000000000010000000000000000000000000500 h (Hub.writeReg h pg off v c) :=
  Hub.writeReg_keeps (bears_same 0x280200000000000c001000000000000000000000000000000010000000000000000000000000500 h) (Sub.refl _) (fun _ => Hub.Same.refl _ _) (by decide)

theorem Hub.headerWrite_canon {h : Hub} {pg : ℕ} {off : ℕ} {v : ℕ} {c : optParam Cap { }} (H : Hub.Canon h) : Hub.Canon (Hub.headerWrite h pg off v c) :=
  Hub.headerWrite_keeps (bears_canon 0xf7865c3ddfbfffbb80a00000000000c001603000000101010100070000010701a3030200010f030000000100015d1f) (Sub.refl _) H

theorem Hub.headerWrite_same {h : Hub} {pg : ℕ} {off : ℕ} {v : ℕ} {c : optParam Cap { }} : Hub.Same 0xf7865c3ddfbfffbb80a00000000000c001603000000101010100070000010701a3030200010f030000000100015d1f h (Hub.headerWrite h pg off v c) :=
  Hub.headerWrite_keeps (bears_same 0xf7865c3ddfbfffbb80a00000000000c001603000000101010100070000010701a3030200010f030000000100015d1f h) (Sub.refl _) (fun _ => Hub.Same.refl _ _) (by decide)

theorem Hub.fieldsWrite_canon {h : Hub} {pg : ℕ} {off : ℕ} {v : ℕ} {c : Cap} (H : Hub.Canon h) : Hub.Canon (Hub.fieldsWrite h pg off v c) :=
  Hub.fieldsWrite_keeps (bears_canon 0x280200000000000c001000000000000000000000000000000010000000000000000000000000500) (Sub.refl _) H

theorem Hub.fieldsWrite_same {h : Hub} {pg : ℕ} {off : ℕ} {v : ℕ} {c : Cap} : Hub.Same 0x280200000000000c001000000000000000000000000000000010000000000000000000000000500 h (Hub.fieldsWrite h pg off v c) :=
  Hub.fieldsWrite_keeps (bears_same 0x280200000000000c001000000000000000000000000000000010000000000000000000000000500 h) (Sub.refl _) (fun _ => Hub.Same.refl _ _) (by decide)

theorem Hub.clearCounts_canon {pg : ℕ} {h : Hub} (H : Hub.Canon h) : Hub.Canon (Hub.clearCounts pg h) :=
  Hub.clearCounts_keeps (bears_canon 0x8000000000000100000000000000000000020000000009000000000000000000) (Sub.refl _) H

theorem Hub.clearCounts_same {pg : ℕ} {h : Hub} : Hub.Same 0x8000000000000100000000000000000000020000000009000000000000000000 h (Hub.clearCounts pg h) :=
  Hub.clearCounts_keeps (bears_same 0x8000000000000100000000000000000000020000000009000000000000000000 h) (Sub.refl _) (fun _ => Hub.Same.refl _ _) (by decide)

theorem Hub.hardReset_canon {h : Hub} {por : Bool} {cause : Nat} (H : Hub.Canon h) : Hub.Canon (h.hardReset por cause) :=
  Hub.hardReset_keeps (bears_canon 0x80000000000000000000000000000000003f87fffffffffffb8fe00000000000c000842000000000000000000000000000010000000000010000000000001c0e) (Sub.refl _) H

theorem Hub.setStraps_canon {h : Hub} {v : ℕ} (H : Hub.Canon h) : Hub.Canon (Hub.setStraps h v) :=
  Hub.setStraps_keeps (bears_canon 0x2001) (Sub.refl _) H

theorem Hub.setStraps_same {h : Hub} {v : ℕ} : Hub.Same 0x2001 h (Hub.setStraps h v) :=
  Hub.setStraps_keeps (bears_same 0x2001 h) (Sub.refl _) (fun _ => Hub.Same.refl _ _) (by decide)

theorem Hub.setStraps_rd {h : Hub} {v : ℕ} {F : Fld} {iF bF : Nat} (eF : Nat.testBit 0x2001 F.kind = false) :
    Hub.rd (Hub.setStraps h v) F iF bF = Hub.rd h F iF bF :=
  Hub.setStraps_same.rd (by decide) F iF bF eF

theorem Hub.hrst_canon {h : Hub} {cause : ℕ} (H : Hub.Canon h) : Hub.Canon (Hub.hrst h cause) :=
  Hub.hrst_keeps (bears_canon 0x80000000000000000000000000000000003f87fffffffffffb8fe00000000000c000842000000000000000000000000000010000000000010000000000003c0f) (Sub.refl _) H

theorem Hub.refreshNeed_canon {h : Hub} (H : Hub.Canon h) : Hub.Canon (Hub.refreshNeed h) :=
  Hub.refreshNeed_keeps (bears_canon 0x20) (Sub.refl _) H

theorem Hub.refreshNeed_same {h : Hub} : Hub.Same 0x20 h (Hub.refreshNeed h) :=
  Hub.refreshNeed_keeps (bears_same 0x20 h) (Sub.refl _) (fun _ => Hub.Same.refl _ _) (by decide)

theorem Hub.refreshNeed_rd {h : Hub} {F : Fld} {iF bF : Nat} (eF : Nat.testBit 0x20 F.kind = false) :
    Hub.rd (Hub.refreshNeed h) F iF bF = Hub.rd h F iF bF :=
  Hub.refreshNeed_same.rd (by decide) F iF bF eF

theorem Hub.refuseState_canon {h : Hub} {reason : ℕ} {client : ℕ} {c : Cap} (H : Hub.Canon h) : Hub.Canon (Hub.refuseState h reason client c) :=
  Hub.refuseState_keeps (bears_canon 0x2800000000000004000000000000000000000000000000000010000000000000000000000000410) (Sub.refl _) H

theorem Hub.refuseState_same {h : Hub} {reason : ℕ} {client : ℕ} {c : Cap} : Hub.Same 0x2800000000000004000000000000000000000000000000000010000000000000000000000000410 h (Hub.refuseState h reason client c) :=
  Hub.refuseState_keeps (bears_same 0x2800000000000004000000000000000000000000000000000010000000000000000000000000410 h) (Sub.refl _) (fun _ => Hub.Same.refl _ _) (by decide)

theorem Hub.refuseState_rd {h : Hub} {reason : ℕ} {client : ℕ} {c : Cap} {F : Fld} {iF bF : Nat} (eF : Nat.testBit 0x2800000000000004000000000000000000000000000000000010000000000000000000000000410 F.kind = false) :
    Hub.rd (Hub.refuseState h reason client c) F iF bF = Hub.rd h F iF bF :=
  Hub.refuseState_same.rd (by decide) F iF bF eF

theorem Hub.pmGo_canon {h : Hub} {p : ℕ} {l2 : ℕ} (H : Hub.Canon h) : Hub.Canon (Hub.pmGo h p l2) :=
  Hub.pmGo_keeps (bears_canon 0x10000) (Sub.refl _) H

theorem Hub.pmGo_same {h : Hub} {p : ℕ} {l2 : ℕ} : Hub.Same 0x10000 h (Hub.pmGo h p l2) :=
  Hub.pmGo_keeps (bears_same 0x10000 h) (Sub.refl _) (fun _ => Hub.Same.refl _ _) (by decide)

theorem Hub.pmGo_rd {h : Hub} {p : ℕ} {l2 : ℕ} {F : Fld} {iF bF : Nat} (eF : Nat.testBit 0x10000 F.kind = false) :
    Hub.rd (Hub.pmGo h p l2) F iF bF = Hub.rd h F iF bF :=
  Hub.pmGo_same.rd (by decide) F iF bF eF

theorem Hub.beginStandby_canon {h : Hub} (H : Hub.Canon h) : Hub.Canon (Hub.beginStandby h) :=
  Hub.beginStandby_keeps (bears_canon 0x10100000000000000000000000000010010) (Sub.refl _) H

theorem Hub.beginStandby_same {h : Hub} : Hub.Same 0x10100000000000000000000000000010010 h (Hub.beginStandby h) :=
  Hub.beginStandby_keeps (bears_same 0x10100000000000000000000000000010010 h) (Sub.refl _) (fun _ => Hub.Same.refl _ _) (by decide)

theorem Hub.beginStandby_rd {h : Hub} {F : Fld} {iF bF : Nat} (eF : Nat.testBit 0x10100000000000000000000000000010010 F.kind = false) :
    Hub.rd (Hub.beginStandby h) F iF bF = Hub.rd h F iF bF :=
  Hub.beginStandby_same.rd (by decide) F iF bF eF

theorem Hub.wirePut_canon {h : Hub} {l : ℕ} {w : Wire} (H : Hub.Canon h) : Hub.Canon (Hub.wirePut h l w) :=
  Hub.wirePut_keeps (bears_canon 0x400000000000000000000000000000000000000000000000000000000000000000000000000000000000) (Sub.refl _) H

theorem Hub.wirePut_same {h : Hub} {l : ℕ} {w : Wire} : Hub.Same 0x400000000000000000000000000000000000000000000000000000000000000000000000000000000000 h (Hub.wirePut h l w) :=
  Hub.wirePut_keeps (bears_same 0x400000000000000000000000000000000000000000000000000000000000000000000000000000000000 h) (Sub.refl _) (fun _ => Hub.Same.refl _ _) (by decide)

theorem Hub.wirePut_rd {h : Hub} {l : ℕ} {w : Wire} {F : Fld} {iF bF : Nat} (eF : Nat.testBit 0x400000000000000000000000000000000000000000000000000000000000000000000000000000000000 F.kind = false) :
    Hub.rd (Hub.wirePut h l w) F iF bF = Hub.rd h F iF bF :=
  Hub.wirePut_same.rd (by decide) F iF bF eF

theorem Hub.ctlPut_canon {h : Hub} {l : ℕ} {v : ℕ} (H : Hub.Canon h) : Hub.Canon (Hub.ctlPut h l v) :=
  Hub.ctlPut_keeps (bears_canon 0x400000000000000000000000000000000000000000000000000000000000000000000000000000000000) (Sub.refl _) H

theorem Hub.ctlPut_same {h : Hub} {l : ℕ} {v : ℕ} : Hub.Same 0x400000000000000000000000000000000000000000000000000000000000000000000000000000000000 h (Hub.ctlPut h l v) :=
  Hub.ctlPut_keeps (bears_same 0x400000000000000000000000000000000000000000000000000000000000000000000000000000000000 h) (Sub.refl _) (fun _ => Hub.Same.refl _ _) (by decide)

theorem Hub.ctlPut_rd {h : Hub} {l : ℕ} {v : ℕ} {F : Fld} {iF bF : Nat} (eF : Nat.testBit 0x400000000000000000000000000000000000000000000000000000000000000000000000000000000000 F.kind = false) :
    Hub.rd (Hub.ctlPut h l v) F iF bF = Hub.rd h F iF bF :=
  Hub.ctlPut_same.rd (by decide) F iF bF eF

theorem Hub.startExit_canon {h : Hub} {p : ℕ} (H : Hub.Canon h) : Hub.Canon (Hub.startExit h p) :=
  Hub.startExit_keeps (bears_canon 0x40000280200000000000c000001000000000000000000000000000010000000000000000000100010402) (Sub.refl _) H

theorem Hub.startExit_same {h : Hub} {p : ℕ} : Hub.Same 0x40000280200000000000c000001000000000000000000000000000010000000000000000000100010402 h (Hub.startExit h p) :=
  Hub.startExit_keeps (bears_same 0x40000280200000000000c000001000000000000000000000000000010000000000000000000100010402 h) (Sub.refl _) (fun _ => Hub.Same.refl _ _) (by decide)

theorem Hub.beginTransition_canon {h : Hub} {goal : ℕ} (H : Hub.Canon h) : Hub.Canon (Hub.beginTransition h goal) :=
  Hub.beginTransition_keeps (bears_canon 0x40000280200000000000c00002100000000000000000000001010001000000000000000000010001041a) (Sub.refl _) H

theorem Hub.beginTransition_same {h : Hub} {goal : ℕ} : Hub.Same 0x40000280200000000000c00002100000000000000000000001010001000000000000000000010001041a h (Hub.beginTransition h goal) :=
  Hub.beginTransition_keeps (bears_same 0x40000280200000000000c00002100000000000000000000001010001000000000000000000010001041a h) (Sub.refl _) (fun _ => Hub.Same.refl _ _) (by decide)

theorem Hub.askState_canon {h : Hub} {m : MasterId} {target : ℕ} {c : optParam Cap { }} (H : Hub.Canon h) : Hub.Canon (Hub.askState h m target c) :=
  Hub.askState_keeps (bears_canon 0x40000280200000000000c00002100000000000000000000001010001000000000000000000010001043a) (Sub.refl _) H

theorem Hub.askState_same {h : Hub} {m : MasterId} {target : ℕ} {c : optParam Cap { }} : Hub.Same 0x40000280200000000000c00002100000000000000000000001010001000000000000000000010001043a h (Hub.askState h m target c) :=
  Hub.askState_keeps (bears_same 0x40000280200000000000c00002100000000000000000000001010001000000000000000000010001043a h) (Sub.refl _) (fun _ => Hub.Same.refl _ _) (by decide)

theorem Hub.wake_canon {h : Hub} {src : ℕ} {detail : ℕ} (H : Hub.Canon h) : Hub.Canon (Hub.wake h src detail) :=
  Hub.wake_keeps (bears_canon 0x40000280200000000000c00002100000000000000000000001010001000000000000000000010001041a) (Sub.refl _) H

theorem Hub.wake_same {h : Hub} {src : ℕ} {detail : ℕ} : Hub.Same 0x40000280200000000000c00002100000000000000000000001010001000000000000000000010001041a h (Hub.wake h src detail) :=
  Hub.wake_keeps (bears_same 0x40000280200000000000c00002100000000000000000000001010001000000000000000000010001041a h) (Sub.refl _) (fun _ => Hub.Same.refl _ _) (by decide)

theorem Hub.claspHardReset_canon {h : Hub} {n : ℕ} (H : Hub.Canon h) : Hub.Canon (Hub.claspHardReset h n) :=
  Hub.claspHardReset_keeps (bears_canon 0x400000000002800000000000004000000000000101010100000000000000010000000000000000000000000400) (Sub.refl _) H

theorem Hub.claspHardReset_same {h : Hub} {n : ℕ} : Hub.Same 0x400000000002800000000000004000000000000101010100000000000000010000000000000000000000000400 h (Hub.claspHardReset h n) :=
  Hub.claspHardReset_keeps (bears_same 0x400000000002800000000000004000000000000101010100000000000000010000000000000000000000000400 h) (Sub.refl _) (fun _ => Hub.Same.refl _ _) (by decide)

theorem Hub.claspHardReset_rd {h : Hub} {n : ℕ} {F : Fld} {iF bF : Nat} (eF : Nat.testBit 0x400000000002800000000000004000000000000101010100000000000000010000000000000000000000000400 F.kind = false) :
    Hub.rd (Hub.claspHardReset h n) F iF bF = Hub.rd h F iF bF :=
  Hub.claspHardReset_same.rd (by decide) F iF bF eF

theorem Hub.claspSay_canon {h : Hub} {n : ℕ} {tok : ℕ} {ctype : ℕ} {fs : List (ℕ × ℕ × ℕ)} (H : Hub.Canon h) : Hub.Canon (Hub.claspSay h n tok ctype fs) :=
  Hub.claspSay_keeps (bears_canon 0x40800280200000000000c000001000000000000100000000000000010000000000000000000100010402) (Sub.refl _) H

theorem Hub.claspSay_same {h : Hub} {n : ℕ} {tok : ℕ} {ctype : ℕ} {fs : List (ℕ × ℕ × ℕ)} : Hub.Same 0x40800280200000000000c000001000000000000100000000000000010000000000000000000100010402 h (Hub.claspSay h n tok ctype fs) :=
  Hub.claspSay_keeps (bears_same 0x40800280200000000000c000001000000000000100000000000000010000000000000000000100010402 h) (Sub.refl _) (fun _ => Hub.Same.refl _ _) (by decide)

theorem Hub.claspAskTok_canon {h : Hub} {n : ℕ} {tok : ℕ} {ctype : ℕ} {fs : List (ℕ × ℕ × ℕ)} (H : Hub.Canon h) : Hub.Canon (Hub.claspAskTok h n tok ctype fs) :=
  Hub.claspAskTok_keeps (bears_canon 0x40000040800280200000000000c000001000000000000100000000000000010000000000000000000100010402) (Sub.refl _) H

theorem Hub.claspAskTok_same {h : Hub} {n : ℕ} {tok : ℕ} {ctype : ℕ} {fs : List (ℕ × ℕ × ℕ)} : Hub.Same 0x40000040800280200000000000c000001000000000000100000000000000010000000000000000000100010402 h (Hub.claspAskTok h n tok ctype fs) :=
  Hub.claspAskTok_keeps (bears_same 0x40000040800280200000000000c000001000000000000100000000000000010000000000000000000100010402 h) (Sub.refl _) (fun _ => Hub.Same.refl _ _) (by decide)

theorem Hub.claspRequest_canon {h : Hub} {n : ℕ} {ctype : ℕ} {fs : List (ℕ × ℕ × ℕ)} (H : Hub.Canon h) : Hub.Canon (Hub.claspRequest h n ctype fs) :=
  Hub.claspRequest_keeps (bears_canon 0x40000040800280200000000000c000001000000000000100000000000000010000000000000000000100010402) (Sub.refl _) H

theorem Hub.claspRequest_same {h : Hub} {n : ℕ} {ctype : ℕ} {fs : List (ℕ × ℕ × ℕ)} : Hub.Same 0x40000040800280200000000000c000001000000000000100000000000000010000000000000000000100010402 h (Hub.claspRequest h n ctype fs) :=
  Hub.claspRequest_keeps (bears_same 0x40000040800280200000000000c000001000000000000100000000000000010000000000000000000100010402 h) (Sub.refl _) (fun _ => Hub.Same.refl _ _) (by decide)

theorem Hub.sendOffer_canon {h : Hub} {n : ℕ} (H : Hub.Canon h) : Hub.Canon (Hub.sendOffer h n) :=
  Hub.sendOffer_keeps (bears_canon 0x40000040800280200000000000c000001000000000000100000000000000010000000000000000000100010402) (Sub.refl _) H

theorem Hub.sendOffer_same {h : Hub} {n : ℕ} : Hub.Same 0x40000040800280200000000000c000001000000000000100000000000000010000000000000000000100010402 h (Hub.sendOffer h n) :=
  Hub.sendOffer_keeps (bears_same 0x40000040800280200000000000c000001000000000000100000000000000010000000000000000000100010402 h) (Sub.refl _) (fun _ => Hub.Same.refl _ _) (by decide)

theorem Hub.renegotiate_canon {h : Hub} {n : ℕ} (H : Hub.Canon h) : Hub.Canon (Hub.renegotiate h n) :=
  Hub.renegotiate_keeps (bears_canon 0x40000040800280200000000000c000001000000000000100000000000000010000000000000000000100010402) (Sub.refl _) H

theorem Hub.renegotiate_same {h : Hub} {n : ℕ} : Hub.Same 0x40000040800280200000000000c000001000000000000100000000000000010000000000000000000100010402 h (Hub.renegotiate h n) :=
  Hub.renegotiate_keeps (bears_same 0x40000040800280200000000000c000001000000000000100000000000000010000000000000000000100010402 h) (Sub.refl _) (fun _ => Hub.Same.refl _ _) (by decide)

theorem Hub.noPower_canon {h : Hub} {n : ℕ} (H : Hub.Canon h) : Hub.Canon (Hub.noPower h n) :=
  Hub.noPower_keeps (bears_canon 0x400000000000000000000000004000000000000101010100000000000000000000000000000000000000000000) (Sub.refl _) H

theorem Hub.noPower_same {h : Hub} {n : ℕ} : Hub.Same 0x400000000000000000000000004000000000000101010100000000000000000000000000000000000000000000 h (Hub.noPower h n) :=
  Hub.noPower_keeps (bears_same 0x400000000000000000000000004000000000000101010100000000000000000000000000000000000000000000 h) (Sub.refl _) (fun _ => Hub.Same.refl _ _) (by decide)

theorem Hub.noPower_rd {h : Hub} {n : ℕ} {F : Fld} {iF bF : Nat} (eF : Nat.testBit 0x400000000000000000000000004000000000000101010100000000000000000000000000000000000000000000 F.kind = false) :
    Hub.rd (Hub.noPower h n) F iF bF = Hub.rd h F iF bF :=
  Hub.noPower_same.rd (by decide) F iF bF eF

theorem Hub.claspFollow_canon {h : Hub} {n : ℕ} {old : ℕ} (H : Hub.Canon h) : Hub.Canon (Hub.claspFollow h n old) :=
  Hub.claspFollow_keeps (bears_canon 0x40000040800280200000000000c000001000000101010100000000000000010000000000000000000100010402) (Sub.refl _) H

theorem Hub.claspFollow_same {h : Hub} {n : ℕ} {old : ℕ} : Hub.Same 0x40000040800280200000000000c000001000000101010100000000000000010000000000000000000100010402 h (Hub.claspFollow h n old) :=
  Hub.claspFollow_keeps (bears_same 0x40000040800280200000000000c000001000000101010100000000000000010000000000000000000100010402 h) (Sub.refl _) (fun _ => Hub.Same.refl _ _) (by decide)

theorem Hub.pdSend_canon {h : Hub} {k : ℕ} {m : PdOut} (H : Hub.Canon h) : Hub.Canon (Hub.pdSend h k m) :=
  Hub.pdSend_keeps (bears_canon 0x800000000000000000000000000000000000000000000000000000000000000000000000000000000000000000) (Sub.refl _) H

theorem Hub.pdSend_same {h : Hub} {k : ℕ} {m : PdOut} : Hub.Same 0x800000000000000000000000000000000000000000000000000000000000000000000000000000000000000000 h (Hub.pdSend h k m) :=
  Hub.pdSend_keeps (bears_same 0x800000000000000000000000000000000000000000000000000000000000000000000000000000000000000000 h) (Sub.refl _) (fun _ => Hub.Same.refl _ _) (by decide)

theorem Hub.pdSend_rd {h : Hub} {k : ℕ} {m : PdOut} {F : Fld} {iF bF : Nat} (eF : Nat.testBit 0x800000000000000000000000000000000000000000000000000000000000000000000000000000000000000000 F.kind = false) :
    Hub.rd (Hub.pdSend h k m) F iF bF = Hub.rd h F iF bF :=
  Hub.pdSend_same.rd (by decide) F iF bF eF

theorem Hub.pdReset_canon {h : Hub} {k : Fin 2} (H : Hub.Canon h) : Hub.Canon (Hub.pdReset h k) :=
  Hub.pdReset_keeps (bears_canon 0x940000000002808000000000004000000000000101010100070000000000a10000000000000000000000000400) (Sub.refl _) H

theorem Hub.pdReset_same {h : Hub} {k : Fin 2} : Hub.Same 0x940000000002808000000000004000000000000101010100070000000000a10000000000000000000000000400 h (Hub.pdReset h k) :=
  Hub.pdReset_keeps (bears_same 0x940000000002808000000000004000000000000101010100070000000000a10000000000000000000000000400 h) (Sub.refl _) (fun _ => Hub.Same.refl _ _) (by decide)

theorem Hub.pdReset_rd {h : Hub} {k : Fin 2} {F : Fld} {iF bF : Nat} (eF : Nat.testBit 0x940000000002808000000000004000000000000101010100070000000000a10000000000000000000000000400 F.kind = false) :
    Hub.rd (Hub.pdReset h k) F iF bF = Hub.rd h F iF bF :=
  Hub.pdReset_same.rd (by decide) F iF bF eF

theorem Hub.pdConfig_canon {h : Hub} {k : Fin 2} (H : Hub.Canon h) : Hub.Canon (Hub.pdConfig h k) :=
  Hub.pdConfig_keeps (bears_canon 0x140000000002808000000000004000000000000101010100070000000000a10000000000000000000000000400) (Sub.refl _) H

theorem Hub.pdConfig_same {h : Hub} {k : Fin 2} : Hub.Same 0x140000000002808000000000004000000000000101010100070000000000a10000000000000000000000000400 h (Hub.pdConfig h k) :=
  Hub.pdConfig_keeps (bears_same 0x140000000002808000000000004000000000000101010100070000000000a10000000000000000000000000400 h) (Sub.refl _) (fun _ => Hub.Same.refl _ _) (by decide)

theorem Hub.pdConfig_rd {h : Hub} {k : Fin 2} {F : Fld} {iF bF : Nat} (eF : Nat.testBit 0x140000000002808000000000004000000000000101010100070000000000a10000000000000000000000000400 F.kind = false) :
    Hub.rd (Hub.pdConfig h k) F iF bF = Hub.rd h F iF bF :=
  Hub.pdConfig_same.rd (by decide) F iF bF eF

theorem Hub.fuseWrite_canon {h : Hub} {n : ℕ} {timer : Bool} {v : ℕ} {c : optParam Cap { }} (H : Hub.Canon h) : Hub.Canon (Hub.fuseWrite h n timer v c) :=
  Hub.fuseWrite_keeps (bears_canon 0x2800000000000004000000000000001000000000000000000010000000000000000000000000400) (Sub.refl _) H

theorem Hub.fuseWrite_same {h : Hub} {n : ℕ} {timer : Bool} {v : ℕ} {c : optParam Cap { }} : Hub.Same 0x2800000000000004000000000000001000000000000000000010000000000000000000000000400 h (Hub.fuseWrite h n timer v c) :=
  Hub.fuseWrite_keeps (bears_same 0x2800000000000004000000000000001000000000000000000010000000000000000000000000400 h) (Sub.refl _) (fun _ => Hub.Same.refl _ _) (by decide)

theorem Hub.fuseWrite_rd {h : Hub} {n : ℕ} {timer : Bool} {v : ℕ} {c : optParam Cap { }} {F : Fld} {iF bF : Nat} (eF : Nat.testBit 0x2800000000000004000000000000001000000000000000000010000000000000000000000000400 F.kind = false) :
    Hub.rd (Hub.fuseWrite h n timer v c) F iF bF = Hub.rd h F iF bF :=
  Hub.fuseWrite_same.rd (by decide) F iF bF eF

theorem Hub.lpoShed_canon {p : ℕ → Hub → Bool} {n : ℕ} {h : Hub} (H : Hub.Canon h) : Hub.Canon (Hub.lpoShed p n h) :=
  Hub.lpoShed_keeps (bears_canon 0x4000000000000101010100000000000000000000000000000000000000000000) (Sub.refl _) H

theorem Hub.lpoShed_same {p : ℕ → Hub → Bool} {n : ℕ} {h : Hub} : Hub.Same 0x4000000000000101010100000000000000000000000000000000000000000000 h (Hub.lpoShed p n h) :=
  Hub.lpoShed_keeps (bears_same 0x4000000000000101010100000000000000000000000000000000000000000000 h) (Sub.refl _) (fun _ => Hub.Same.refl _ _) (by decide)

theorem Hub.lpoShed_rd {p : ℕ → Hub → Bool} {n : ℕ} {h : Hub} {F : Fld} {iF bF : Nat} (eF : Nat.testBit 0x4000000000000101010100000000000000000000000000000000000000000000 F.kind = false) :
    Hub.rd (Hub.lpoShed p n h) F iF bF = Hub.rd h F iF bF :=
  Hub.lpoShed_same.rd (by decide) F iF bF eF

theorem Hub.shedAll_canon {h : Hub} {p : ℕ → Hub → Bool} (H : Hub.Canon h) : Hub.Canon (Hub.shedAll h p) :=
  Hub.shedAll_keeps (bears_canon 0x4000000000000101010100000000000000000000000000000000000000000000) (Sub.refl _) H

theorem Hub.shedAll_same {h : Hub} {p : ℕ → Hub → Bool} : Hub.Same 0x4000000000000101010100000000000000000000000000000000000000000000 h (Hub.shedAll h p) :=
  Hub.shedAll_keeps (bears_same 0x4000000000000101010100000000000000000000000000000000000000000000 h) (Sub.refl _) (fun _ => Hub.Same.refl _ _) (by decide)

theorem Hub.shedAll_rd {h : Hub} {p : ℕ → Hub → Bool} {F : Fld} {iF bF : Nat} (eF : Nat.testBit 0x4000000000000101010100000000000000000000000000000000000000000000 F.kind = false) :
    Hub.rd (Hub.shedAll h p) F iF bF = Hub.rd h F iF bF :=
  Hub.shedAll_same.rd (by decide) F iF bF eF

theorem Hub.refreshEmerg_canon {h : Hub} (H : Hub.Canon h) : Hub.Canon (Hub.refreshEmerg h) :=
  Hub.refreshEmerg_keeps (bears_canon 0x4000000000000101010100000000000000000000000000000000000000000000) (Sub.refl _) H

theorem Hub.refreshEmerg_same {h : Hub} : Hub.Same 0x4000000000000101010100000000000000000000000000000000000000000000 h (Hub.refreshEmerg h) :=
  Hub.refreshEmerg_keeps (bears_same 0x4000000000000101010100000000000000000000000000000000000000000000 h) (Sub.refl _) (fun _ => Hub.Same.refl _ _) (by decide)

theorem Hub.refreshEmerg_rd {h : Hub} {F : Fld} {iF bF : Nat} (eF : Nat.testBit 0x4000000000000101010100000000000000000000000000000000000000000000 F.kind = false) :
    Hub.rd (Hub.refreshEmerg h) F iF bF = Hub.rd h F iF bF :=
  Hub.refreshEmerg_same.rd (by decide) F iF bF eF

theorem Hub.refreshCpwr_canon {h : Hub} {n : ℕ} (H : Hub.Canon h) : Hub.Canon (Hub.refreshCpwr h n) :=
  Hub.refreshCpwr_keeps (bears_canon 0x1000000000000000000000000000000000000000000000000) (Sub.refl _) H

theorem Hub.refreshCpwr_same {h : Hub} {n : ℕ} : Hub.Same 0x1000000000000000000000000000000000000000000000000 h (Hub.refreshCpwr h n) :=
  Hub.refreshCpwr_keeps (bears_same 0x1000000000000000000000000000000000000000000000000 h) (Sub.refl _) (fun _ => Hub.Same.refl _ _) (by decide)

theorem Hub.refreshCpwr_rd {h : Hub} {n : ℕ} {F : Fld} {iF bF : Nat} (eF : Nat.testBit 0x1000000000000000000000000000000000000000000000000 F.kind = false) :
    Hub.rd (Hub.refreshCpwr h n) F iF bF = Hub.rd h F iF bF :=
  Hub.refreshCpwr_same.rd (by decide) F iF bF eF

theorem Hub.ballWrite_canon {h : Hub} {v : Nat} {c : Cap} (H : Hub.Canon h) : Hub.Canon (h.ballWrite v c) :=
  Hub.ballWrite_keeps (bears_canon 0x2800000000000004000000000010000000000000000000000010000000000000000000000000400) (Sub.refl _) H

theorem Hub.ballWrite_same {h : Hub} {v : Nat} {c : Cap} : Hub.Same 0x2800000000000004000000000010000000000000000000000010000000000000000000000000400 h (h.ballWrite v c) :=
  Hub.ballWrite_keeps (bears_same 0x2800000000000004000000000010000000000000000000000010000000000000000000000000400 h) (Sub.refl _) (fun _ => Hub.Same.refl _ _) (by decide)

theorem Hub.ballWrite_rd {h : Hub} {v : Nat} {c : Cap} {F : Fld} {iF bF : Nat} (eF : Nat.testBit 0x2800000000000004000000000010000000000000000000000010000000000000000000000000400 F.kind = false) :
    Hub.rd (h.ballWrite v c) F iF bF = Hub.rd h F iF bF :=
  Hub.ballWrite_same.rd (by decide) F iF bF eF

theorem Hub.timerTake_canon {h : Hub} {m : MasterId} {owner : ℕ} {c : optParam Cap { }} (H : Hub.Canon h) : Hub.Canon (Hub.timerTake h m owner c) :=
  Hub.timerTake_keeps (bears_canon 0x2800000000000004000000000020000000000000000000000010000000000000000000000000400) (Sub.refl _) H

theorem Hub.timerTake_same {h : Hub} {m : MasterId} {owner : ℕ} {c : optParam Cap { }} : Hub.Same 0x2800000000000004000000000020000000000000000000000010000000000000000000000000400 h (Hub.timerTake h m owner c) :=
  Hub.timerTake_keeps (bears_same 0x2800000000000004000000000020000000000000000000000010000000000000000000000000400 h) (Sub.refl _) (fun _ => Hub.Same.refl _ _) (by decide)

theorem Hub.timerTake_rd {h : Hub} {m : MasterId} {owner : ℕ} {c : optParam Cap { }} {F : Fld} {iF bF : Nat} (eF : Nat.testBit 0x2800000000000004000000000020000000000000000000000010000000000000000000000000400 F.kind = false) :
    Hub.rd (Hub.timerTake h m owner c) F iF bF = Hub.rd h F iF bF :=
  Hub.timerTake_same.rd (by decide) F iF bF eF

theorem Hub.notOwner_canon {h : Hub} {c : optParam Cap { }} (H : Hub.Canon h) : Hub.Canon (Hub.notOwner h c) :=
  Hub.notOwner_keeps (bears_canon 0x2800000000000004000000000000000000000000000000000010000000000000000000000000400) (Sub.refl _) H

theorem Hub.notOwner_same {h : Hub} {c : optParam Cap { }} : Hub.Same 0x2800000000000004000000000000000000000000000000000010000000000000000000000000400 h (Hub.notOwner h c) :=
  Hub.notOwner_keeps (bears_same 0x2800000000000004000000000000000000000000000000000010000000000000000000000000400 h) (Sub.refl _) (fun _ => Hub.Same.refl _ _) (by decide)

theorem Hub.notOwner_rd {h : Hub} {c : optParam Cap { }} {F : Fld} {iF bF : Nat} (eF : Nat.testBit 0x2800000000000004000000000000000000000000000000000010000000000000000000000000400 F.kind = false) :
    Hub.rd (Hub.notOwner h c) F iF bF = Hub.rd h F iF bF :=
  Hub.notOwner_same.rd (by decide) F iF bF eF

theorem Hub.timerGive_canon {h : Hub} {m : MasterId} {c : optParam Cap { }} (H : Hub.Canon h) : Hub.Canon (Hub.timerGive h m c) :=
  Hub.timerGive_keeps (bears_canon 0x2800000000000004000000000020000000000000000000000010000000000000000000000000400) (Sub.refl _) H

theorem Hub.timerGive_same {h : Hub} {m : MasterId} {c : optParam Cap { }} : Hub.Same 0x2800000000000004000000000020000000000000000000000010000000000000000000000000400 h (Hub.timerGive h m c) :=
  Hub.timerGive_keeps (bears_same 0x2800000000000004000000000020000000000000000000000010000000000000000000000000400 h) (Sub.refl _) (fun _ => Hub.Same.refl _ _) (by decide)

theorem Hub.timerGive_rd {h : Hub} {m : MasterId} {c : optParam Cap { }} {F : Fld} {iF bF : Nat} (eF : Nat.testBit 0x2800000000000004000000000020000000000000000000000010000000000000000000000000400 F.kind = false) :
    Hub.rd (Hub.timerGive h m c) F iF bF = Hub.rd h F iF bF :=
  Hub.timerGive_same.rd (by decide) F iF bF eF

theorem Hub.tcfgWrite_canon {h : Hub} {m : MasterId} {v : ℕ} {c : optParam Cap { }} (H : Hub.Canon h) : Hub.Canon (Hub.tcfgWrite h m v c) :=
  Hub.tcfgWrite_keeps (bears_canon 0x2800000000000004000000000020000000000000000000000010000000000000000000000000400) (Sub.refl _) H

theorem Hub.tcfgWrite_same {h : Hub} {m : MasterId} {v : ℕ} {c : optParam Cap { }} : Hub.Same 0x2800000000000004000000000020000000000000000000000010000000000000000000000000400 h (Hub.tcfgWrite h m v c) :=
  Hub.tcfgWrite_keeps (bears_same 0x2800000000000004000000000020000000000000000000000010000000000000000000000000400 h) (Sub.refl _) (fun _ => Hub.Same.refl _ _) (by decide)

theorem Hub.tcfgWrite_rd {h : Hub} {m : MasterId} {v : ℕ} {c : optParam Cap { }} {F : Fld} {iF bF : Nat} (eF : Nat.testBit 0x2800000000000004000000000020000000000000000000000010000000000000000000000000400 F.kind = false) :
    Hub.rd (Hub.tcfgWrite h m v c) F iF bF = Hub.rd h F iF bF :=
  Hub.tcfgWrite_same.rd (by decide) F iF bF eF

theorem Hub.meterSet_canon {h : Hub} {m : ℕ} {b : Meter} (H : Hub.Canon h) : Hub.Canon (Hub.meterSet h m b) :=
  Hub.meterSet_keeps (bears_canon 0x10000000000000000000000000000000000000000000000000000001000000000000000000000000) (Sub.refl _) H

theorem Hub.meterSet_same {h : Hub} {m : ℕ} {b : Meter} : Hub.Same 0x10000000000000000000000000000000000000000000000000000001000000000000000000000000 h (Hub.meterSet h m b) :=
  Hub.meterSet_keeps (bears_same 0x10000000000000000000000000000000000000000000000000000001000000000000000000000000 h) (Sub.refl _) (fun _ => Hub.Same.refl _ _) (by decide)

theorem Hub.meterSet_rd {h : Hub} {m : ℕ} {b : Meter} {F : Fld} {iF bF : Nat} (eF : Nat.testBit 0x10000000000000000000000000000000000000000000000000000001000000000000000000000000 F.kind = false) :
    Hub.rd (Hub.meterSet h m b) F iF bF = Hub.rd h F iF bF :=
  Hub.meterSet_same.rd (by decide) F iF bF eF

theorem Hub.seeWake_canon {h : Hub} (H : Hub.Canon h) : Hub.Canon (Hub.seeWake h) :=
  Hub.seeWake_keeps (bears_canon 0x800000000000000000000000000000000000000000000100000000000000000000000000000000) (Sub.refl _) H

theorem Hub.seeWake_same {h : Hub} : Hub.Same 0x800000000000000000000000000000000000000000000100000000000000000000000000000000 h (Hub.seeWake h) :=
  Hub.seeWake_keeps (bears_same 0x800000000000000000000000000000000000000000000100000000000000000000000000000000 h) (Sub.refl _) (fun _ => Hub.Same.refl _ _) (by decide)

theorem Hub.seeWake_rd {h : Hub} {F : Fld} {iF bF : Nat} (eF : Nat.testBit 0x800000000000000000000000000000000000000000000100000000000000000000000000000000 F.kind = false) :
    Hub.rd (Hub.seeWake h) F iF bF = Hub.rd h F iF bF :=
  Hub.seeWake_same.rd (by decide) F iF bF eF

theorem Hub.claspMeasure_canon {h : Hub} {n : ℕ} (H : Hub.Canon h) : Hub.Canon (Hub.claspMeasure h n) :=
  Hub.claspMeasure_keeps (bears_canon 0x800000000000000000000000000000000100000000000000000000000000000000000000000000) (Sub.refl _) H

theorem Hub.claspMeasure_same {h : Hub} {n : ℕ} : Hub.Same 0x800000000000000000000000000000000100000000000000000000000000000000000000000000 h (Hub.claspMeasure h n) :=
  Hub.claspMeasure_keeps (bears_same 0x800000000000000000000000000000000100000000000000000000000000000000000000000000 h) (Sub.refl _) (fun _ => Hub.Same.refl _ _) (by decide)

theorem Hub.claspMeasure_rd {h : Hub} {n : ℕ} {F : Fld} {iF bF : Nat} (eF : Nat.testBit 0x800000000000000000000000000000000100000000000000000000000000000000000000000000 F.kind = false) :
    Hub.rd (Hub.claspMeasure h n) F iF bF = Hub.rd h F iF bF :=
  Hub.claspMeasure_same.rd (by decide) F iF bF eF

theorem Hub.lpoMeasure_canon {h : Hub} {n : ℕ} (H : Hub.Canon h) : Hub.Canon (Hub.lpoMeasure h n) :=
  Hub.lpoMeasure_keeps (bears_canon 0x800000000000000000000000000001000000000000000000000000000000000000000000000000) (Sub.refl _) H

theorem Hub.lpoMeasure_same {h : Hub} {n : ℕ} : Hub.Same 0x800000000000000000000000000001000000000000000000000000000000000000000000000000 h (Hub.lpoMeasure h n) :=
  Hub.lpoMeasure_keeps (bears_same 0x800000000000000000000000000001000000000000000000000000000000000000000000000000 h) (Sub.refl _) (fun _ => Hub.Same.refl _ _) (by decide)

theorem Hub.lpoMeasure_rd {h : Hub} {n : ℕ} {F : Fld} {iF bF : Nat} (eF : Nat.testBit 0x800000000000000000000000000001000000000000000000000000000000000000000000000000 F.kind = false) :
    Hub.rd (Hub.lpoMeasure h n) F iF bF = Hub.rd h F iF bF :=
  Hub.lpoMeasure_same.rd (by decide) F iF bF eF

theorem Hub.fresh_canon {h : Hub} {pg : ℕ} {off : ℕ} (H : Hub.Canon h) : Hub.Canon (Hub.fresh h pg off) :=
  Hub.fresh_keeps (bears_canon 0x410800000000000000000000000000001010100010009010700020101000100000000000100006020) (Sub.refl _) H

theorem Hub.fresh_same {h : Hub} {pg : ℕ} {off : ℕ} : Hub.Same 0x410800000000000000000000000000001010100010009010700020101000100000000000100006020 h (Hub.fresh h pg off) :=
  Hub.fresh_keeps (bears_same 0x410800000000000000000000000000001010100010009010700020101000100000000000100006020 h) (Sub.refl _) (fun _ => Hub.Same.refl _ _) (by decide)

theorem Hub.fresh_rd {h : Hub} {pg : ℕ} {off : ℕ} {F : Fld} {iF bF : Nat} (eF : Nat.testBit 0x410800000000000000000000000000001010100010009010700020101000100000000000100006020 F.kind = false) :
    Hub.rd (Hub.fresh h pg off) F iF bF = Hub.rd h F iF bF :=
  Hub.fresh_same.rd (by decide) F iF bF eF

theorem Hub.snapWord_canon {h : Hub} {pg : ℕ} {off : ℕ} (H : Hub.Canon h) : Hub.Canon (Hub.snapWord h pg off).2 :=
  Hub.snapWord_keeps (bears_canon 0x410800000000000000000000000000001010100010009010700020101000100000000000100006020) (Sub.refl _) H

theorem Hub.snapWord_same {h : Hub} {pg : ℕ} {off : ℕ} : Hub.Same 0x410800000000000000000000000000001010100010009010700020101000100000000000100006020 h (Hub.snapWord h pg off).2 :=
  Hub.snapWord_keeps (bears_same 0x410800000000000000000000000000001010100010009010700020101000100000000000100006020 h) (Sub.refl _) (fun _ => Hub.Same.refl _ _) (by decide)

theorem Hub.snapWord_rd {h : Hub} {pg : ℕ} {off : ℕ} {F : Fld} {iF bF : Nat} (eF : Nat.testBit 0x410800000000000000000000000000001010100010009010700020101000100000000000100006020 F.kind = false) :
    Hub.rd (Hub.snapWord h pg off).2 F iF bF = Hub.rd h F iF bF :=
  Hub.snapWord_same.rd (by decide) F iF bF eF

theorem Hub.snapshot_canon {h : Hub} {c : Cap} (H : Hub.Canon h) : Hub.Canon (h.snapshot c).2 :=
  Hub.snapshot_keeps (bears_canon 0x8000000000004128000000000000040000000000000010101000100090107000301010001000000000001000064e0) (Sub.refl _) H

theorem Hub.snapshot_same {h : Hub} {c : Cap} : Hub.Same 0x8000000000004128000000000000040000000000000010101000100090107000301010001000000000001000064e0 h (h.snapshot c).2 :=
  Hub.snapshot_keeps (bears_same 0x8000000000004128000000000000040000000000000010101000100090107000301010001000000000001000064e0 h) (Sub.refl _) (fun _ => Hub.Same.refl _ _) (by decide)

theorem Hub.snapshot_rd {h : Hub} {c : Cap} {F : Fld} {iF bF : Nat} (eF : Nat.testBit 0x8000000000004128000000000000040000000000000010101000100090107000301010001000000000001000064e0 F.kind = false) :
    Hub.rd (h.snapshot c).2 F iF bF = Hub.rd h F iF bF :=
  Hub.snapshot_same.rd (by decide) F iF bF eF

theorem Hub.locketLoad_canon {h : Hub} {seq : ℕ} (H : Hub.Canon h) : Hub.Canon (Hub.locketLoad h seq) :=
  Hub.locketLoad_keeps (bears_canon 0x400) (Sub.refl _) H

theorem Hub.locketLoad_same {h : Hub} {seq : ℕ} : Hub.Same 0x400 h (Hub.locketLoad h seq) :=
  Hub.locketLoad_keeps (bears_same 0x400 h) (Sub.refl _) (fun _ => Hub.Same.refl _ _) (by decide)

theorem Hub.locketLoad_rd {h : Hub} {seq : ℕ} {F : Fld} {iF bF : Nat} (eF : Nat.testBit 0x400 F.kind = false) :
    Hub.rd (Hub.locketLoad h seq) F iF bF = Hub.rd h F iF bF :=
  Hub.locketLoad_same.rd (by decide) F iF bF eF

theorem Hub.locketOpen_canon {h : Hub} {typ : ℕ} (H : Hub.Canon h) : Hub.Canon (Hub.locketOpen h typ) :=
  Hub.locketOpen_keeps (bears_canon 0x2800000000000004000000000000000000000000000000000000000000000000000000000000400) (Sub.refl _) H

theorem Hub.locketOpen_same {h : Hub} {typ : ℕ} : Hub.Same 0x2800000000000004000000000000000000000000000000000000000000000000000000000000400 h (Hub.locketOpen h typ) :=
  Hub.locketOpen_keeps (bears_same 0x2800000000000004000000000000000000000000000000000000000000000000000000000000400 h) (Sub.refl _) (fun _ => Hub.Same.refl _ _) (by decide)

theorem Hub.locketOpen_rd {h : Hub} {typ : ℕ} {F : Fld} {iF bF : Nat} (eF : Nat.testBit 0x2800000000000004000000000000000000000000000000000000000000000000000000000000400 F.kind = false) :
    Hub.rd (Hub.locketOpen h typ) F iF bF = Hub.rd h F iF bF :=
  Hub.locketOpen_same.rd (by decide) F iF bF eF

theorem Hub.lcGo_canon {h : Hub} (H : Hub.Canon h) : Hub.Canon (Hub.lcGo h) :=
  Hub.lcGo_keeps (bears_canon 0x2800000000000004000000000000000000000000000000000000000000000000000000000000c00) (Sub.refl _) H

theorem Hub.lcGo_same {h : Hub} : Hub.Same 0x2800000000000004000000000000000000000000000000000000000000000000000000000000c00 h (Hub.lcGo h) :=
  Hub.lcGo_keeps (bears_same 0x2800000000000004000000000000000000000000000000000000000000000000000000000000c00 h) (Sub.refl _) (fun _ => Hub.Same.refl _ _) (by decide)

theorem Hub.lcGo_rd {h : Hub} {F : Fld} {iF bF : Nat} (eF : Nat.testBit 0x2800000000000004000000000000000000000000000000000000000000000000000000000000c00 F.kind = false) :
    Hub.rd (Hub.lcGo h) F iF bF = Hub.rd h F iF bF :=
  Hub.lcGo_same.rd (by decide) F iF bF eF

theorem Hub.setDbg_canon {h : Hub} {st : ℕ} (H : Hub.Canon h) : Hub.Canon (Hub.setDbg h st) :=
  Hub.setDbg_keeps (bears_canon 0x4000010000000000000000000000000000000000000000000000000000000000) (Sub.refl _) H

theorem Hub.setDbg_same {h : Hub} {st : ℕ} : Hub.Same 0x4000010000000000000000000000000000000000000000000000000000000000 h (Hub.setDbg h st) :=
  Hub.setDbg_keeps (bears_same 0x4000010000000000000000000000000000000000000000000000000000000000 h) (Sub.refl _) (fun _ => Hub.Same.refl _ _) (by decide)

theorem Hub.setDbg_rd {h : Hub} {st : ℕ} {F : Fld} {iF bF : Nat} (eF : Nat.testBit 0x4000010000000000000000000000000000000000000000000000000000000000 F.kind = false) :
    Hub.rd (Hub.setDbg h st) F iF bF = Hub.rd h F iF bF :=
  Hub.setDbg_same.rd (by decide) F iF bF eF

theorem Hub.unlock_canon {h : Hub} {c : optParam Cap { }} (H : Hub.Canon h) : Hub.Canon (Hub.unlock h c) :=
  Hub.unlock_keeps (bears_canon 0x2800000000000004000010000000000000000000000000000010000000000000000000000001400) (Sub.refl _) H

theorem Hub.unlock_same {h : Hub} {c : optParam Cap { }} : Hub.Same 0x2800000000000004000010000000000000000000000000000010000000000000000000000001400 h (Hub.unlock h c) :=
  Hub.unlock_keeps (bears_same 0x2800000000000004000010000000000000000000000000000010000000000000000000000001400 h) (Sub.refl _) (fun _ => Hub.Same.refl _ _) (by decide)

theorem Hub.unlock_rd {h : Hub} {c : optParam Cap { }} {F : Fld} {iF bF : Nat} (eF : Nat.testBit 0x2800000000000004000010000000000000000000000000000010000000000000000000000001400 F.kind = false) :
    Hub.rd (Hub.unlock h c) F iF bF = Hub.rd h F iF bF :=
  Hub.unlock_same.rd (by decide) F iF bF eF

theorem Hub.injectFault_canon {h : Hub} {kind : ℕ} {bit : ℕ} {page : ℕ} (H : Hub.Canon h) : Hub.Canon (Hub.injectFault h kind bit page) :=
  Hub.injectFault_keeps (bears_canon 0x2800000000000004000000000000000000000000000000000010000000001000000000000011404) (Sub.refl _) H

theorem Hub.injectFault_same {h : Hub} {kind : ℕ} {bit : ℕ} {page : ℕ} : Hub.Same 0x2800000000000004000000000000000000000000000000000010000000001000000000000011404 h (Hub.injectFault h kind bit page) :=
  Hub.injectFault_keeps (bears_same 0x2800000000000004000000000000000000000000000000000010000000001000000000000011404 h) (Sub.refl _) (fun _ => Hub.Same.refl _ _) (by decide)

theorem Hub.injectFault_rd {h : Hub} {kind : ℕ} {bit : ℕ} {page : ℕ} {F : Fld} {iF bF : Nat} (eF : Nat.testBit 0x2800000000000004000000000000000000000000000000000010000000001000000000000011404 F.kind = false) :
    Hub.rd (Hub.injectFault h kind bit page) F iF bF = Hub.rd h F iF bF :=
  Hub.injectFault_same.rd (by decide) F iF bF eF

theorem Hub.faultGo_canon {h : Hub} {v : ℕ} {c : optParam Cap { }} (H : Hub.Canon h) : Hub.Canon (Hub.faultGo h v c) :=
  Hub.faultGo_keeps (bears_canon 0x2800000000000004000000000000000000000000000000000010000000001000000000000011404) (Sub.refl _) H

theorem Hub.faultGo_same {h : Hub} {v : ℕ} {c : optParam Cap { }} : Hub.Same 0x2800000000000004000000000000000000000000000000000010000000001000000000000011404 h (Hub.faultGo h v c) :=
  Hub.faultGo_keeps (bears_same 0x2800000000000004000000000000000000000000000000000010000000001000000000000011404 h) (Sub.refl _) (fun _ => Hub.Same.refl _ _) (by decide)

theorem Hub.faultGo_rd {h : Hub} {v : ℕ} {c : optParam Cap { }} {F : Fld} {iF bF : Nat} (eF : Nat.testBit 0x2800000000000004000000000000000000000000000000000010000000001000000000000011404 F.kind = false) :
    Hub.rd (Hub.faultGo h v c) F iF bF = Hub.rd h F iF bF :=
  Hub.faultGo_same.rd (by decide) F iF bF eF

theorem Hub.closeSession_canon {h : Hub} (H : Hub.Canon h) : Hub.Canon (Hub.closeSession h) :=
  Hub.closeSession_keeps (bears_canon 0x4000000000000000000000000000000000000000000000000000000000002000) (Sub.refl _) H

theorem Hub.closeSession_same {h : Hub} : Hub.Same 0x4000000000000000000000000000000000000000000000000000000000002000 h (Hub.closeSession h) :=
  Hub.closeSession_keeps (bears_same 0x4000000000000000000000000000000000000000000000000000000000002000 h) (Sub.refl _) (fun _ => Hub.Same.refl _ _) (by decide)

theorem Hub.closeSession_rd {h : Hub} {F : Fld} {iF bF : Nat} (eF : Nat.testBit 0x4000000000000000000000000000000000000000000000000000000000002000 F.kind = false) :
    Hub.rd (Hub.closeSession h) F iF bF = Hub.rd h F iF bF :=
  Hub.closeSession_same.rd (by decide) F iF bF eF

theorem Hub.mgpReply_canon {h : Hub} {status : ℕ} {op : ℕ} {seq : ℕ} {data : Bytes} (H : Hub.Canon h) : Hub.Canon (Hub.mgpReply h status op seq data) :=
  Hub.mgpReply_keeps (bears_canon 0x1000000000000000000000000000000000000000000000000000000000000000000000000000000000000000000000) (Sub.refl _) H

theorem Hub.mgpReply_same {h : Hub} {status : ℕ} {op : ℕ} {seq : ℕ} {data : Bytes} : Hub.Same 0x1000000000000000000000000000000000000000000000000000000000000000000000000000000000000000000000 h (Hub.mgpReply h status op seq data) :=
  Hub.mgpReply_keeps (bears_same 0x1000000000000000000000000000000000000000000000000000000000000000000000000000000000000000000000 h) (Sub.refl _) (fun _ => Hub.Same.refl _ _) (by decide)

theorem Hub.mgpReply_rd {h : Hub} {status : ℕ} {op : ℕ} {seq : ℕ} {data : Bytes} {F : Fld} {iF bF : Nat} (eF : Nat.testBit 0x1000000000000000000000000000000000000000000000000000000000000000000000000000000000000000000000 F.kind = false) :
    Hub.rd (Hub.mgpReply h status op seq data) F iF bF = Hub.rd h F iF bF :=
  Hub.mgpReply_same.rd (by decide) F iF bF eF

theorem Hub.mgpAccept_canon {h : Hub} (H : Hub.Canon h) : Hub.Canon (Hub.mgpAccept h) :=
  Hub.mgpAccept_keeps (bears_canon 0x1000000000000000000000000000004000000000000000000000000000000000000000000000000000000000002000) (Sub.refl _) H

theorem Hub.mgpAccept_same {h : Hub} : Hub.Same 0x1000000000000000000000000000004000000000000000000000000000000000000000000000000000000000002000 h (Hub.mgpAccept h) :=
  Hub.mgpAccept_keeps (bears_same 0x1000000000000000000000000000004000000000000000000000000000000000000000000000000000000000002000 h) (Sub.refl _) (fun _ => Hub.Same.refl _ _) (by decide)

theorem Hub.mgpAccept_rd {h : Hub} {F : Fld} {iF bF : Nat} (eF : Nat.testBit 0x1000000000000000000000000000004000000000000000000000000000000000000000000000000000000000002000 F.kind = false) :
    Hub.rd (Hub.mgpAccept h) F iF bF = Hub.rd h F iF bF :=
  Hub.mgpAccept_same.rd (by decide) F iF bF eF

theorem Hub.mgpReject_canon {h : Hub} (H : Hub.Canon h) : Hub.Canon (Hub.mgpReject h) :=
  Hub.mgpReject_keeps (bears_canon 0x1000000000000002800000000000004000000000000000000000000000000000010000000000000000000000002400) (Sub.refl _) H

theorem Hub.mgpReject_same {h : Hub} : Hub.Same 0x1000000000000002800000000000004000000000000000000000000000000000010000000000000000000000002400 h (Hub.mgpReject h) :=
  Hub.mgpReject_keeps (bears_same 0x1000000000000002800000000000004000000000000000000000000000000000010000000000000000000000002400 h) (Sub.refl _) (fun _ => Hub.Same.refl _ _) (by decide)

theorem Hub.mgpReject_rd {h : Hub} {F : Fld} {iF bF : Nat} (eF : Nat.testBit 0x1000000000000002800000000000004000000000000000000000000000000000010000000000000000000000002400 F.kind = false) :
    Hub.rd (Hub.mgpReject h) F iF bF = Hub.rd h F iF bF :=
  Hub.mgpReject_same.rd (by decide) F iF bF eF

theorem Hub.keyGo_canon {h : Hub} {k : MasterId} {op v : Nat} {c : Cap} (H : Hub.Canon h) : Hub.Canon (h.keyGo k op v c) :=
  Hub.keyGo_keeps (bears_canon 0x2800000000000004000000000000000000000000000000000010000000000000000000000004400) (Sub.refl _) H

theorem Hub.keyGo_same {h : Hub} {k : MasterId} {op v : Nat} {c : Cap} : Hub.Same 0x2800000000000004000000000000000000000000000000000010000000000000000000000004400 h (h.keyGo k op v c) :=
  Hub.keyGo_keeps (bears_same 0x2800000000000004000000000000000000000000000000000010000000000000000000000004400 h) (Sub.refl _) (fun _ => Hub.Same.refl _ _) (by decide)

theorem Hub.keyGo_rd {h : Hub} {k : MasterId} {op v : Nat} {c : Cap} {F : Fld} {iF bF : Nat} (eF : Nat.testBit 0x2800000000000004000000000000000000000000000000000010000000000000000000000004400 F.kind = false) :
    Hub.rd (h.keyGo k op v c) F iF bF = Hub.rd h F iF bF :=
  Hub.keyGo_same.rd (by decide) F iF bF eF

theorem Hub.lockSlots_canon {h : Hub} {v : ℕ} (H : Hub.Canon h) : Hub.Canon (Hub.lockSlots h v) :=
  Hub.lockSlots_keeps (bears_canon 0x4000) (Sub.refl _) H

theorem Hub.lockSlots_same {h : Hub} {v : ℕ} : Hub.Same 0x4000 h (Hub.lockSlots h v) :=
  Hub.lockSlots_keeps (bears_same 0x4000 h) (Sub.refl _) (fun _ => Hub.Same.refl _ _) (by decide)

theorem Hub.lockSlots_rd {h : Hub} {v : ℕ} {F : Fld} {iF bF : Nat} (eF : Nat.testBit 0x4000 F.kind = false) :
    Hub.rd (Hub.lockSlots h v) F iF bF = Hub.rd h F iF bF :=
  Hub.lockSlots_same.rd (by decide) F iF bF eF

theorem Hub.extend_canon {h : Hub} {i : Nat} {d : Bytes} (H : Hub.Canon h) : Hub.Canon (Hub.extend h i d) :=
  Hub.extend_keeps (bears_canon 0x4000) (Sub.refl _) H

theorem Hub.extend_same {h : Hub} {i : Nat} {d : Bytes} : Hub.Same 0x4000 h (Hub.extend h i d) :=
  Hub.extend_keeps (bears_same 0x4000 h) (Sub.refl _) (fun _ => Hub.Same.refl _ _) (by decide)

theorem Hub.extend_rd {h : Hub} {i : Nat} {d : Bytes} {F : Fld} {iF bF : Nat} (eF : Nat.testBit 0x4000 F.kind = false) :
    Hub.rd (Hub.extend h i d) F iF bF = Hub.rd h F iF bF :=
  Hub.extend_same.rd (by decide) F iF bF eF

theorem Hub.clearRecord_canon {h : Hub} (H : Hub.Canon h) : Hub.Canon (Hub.clearRecord h) :=
  Hub.clearRecord_keeps (bears_canon 0x8000) (Sub.refl _) H

theorem Hub.clearRecord_same {h : Hub} : Hub.Same 0x8000 h (Hub.clearRecord h) :=
  Hub.clearRecord_keeps (bears_same 0x8000 h) (Sub.refl _) (fun _ => Hub.Same.refl _ _) (by decide)

theorem Hub.clearRecord_rd {h : Hub} {F : Fld} {iF bF : Nat} (eF : Nat.testBit 0x8000 F.kind = false) :
    Hub.rd (Hub.clearRecord h) F iF bF = Hub.rd h F iF bF :=
  Hub.clearRecord_same.rd (by decide) F iF bF eF

theorem Hub.updStart_canon {h : Hub} {bundle : Bool} (H : Hub.Canon h) : Hub.Canon (Hub.updStart h bundle) :=
  Hub.updStart_keeps (bears_canon 0x10000000000000000000000000000400010000000000000000000000000000000000000000000000000000000c000) (Sub.refl _) H

theorem Hub.updStart_same {h : Hub} {bundle : Bool} : Hub.Same 0x10000000000000000000000000000400010000000000000000000000000000000000000000000000000000000c000 h (Hub.updStart h bundle) :=
  Hub.updStart_keeps (bears_same 0x10000000000000000000000000000400010000000000000000000000000000000000000000000000000000000c000 h) (Sub.refl _) (fun _ => Hub.Same.refl _ _) (by decide)

theorem Hub.updStart_rd {h : Hub} {bundle : Bool} {F : Fld} {iF bF : Nat} (eF : Nat.testBit 0x10000000000000000000000000000400010000000000000000000000000000000000000000000000000000000c000 F.kind = false) :
    Hub.rd (Hub.updStart h bundle) F iF bF = Hub.rd h F iF bF :=
  Hub.updStart_same.rd (by decide) F iF bF eF

theorem Hub.blockGo_canon {h : Hub} {num : ℕ} {c : optParam Cap { }} (H : Hub.Canon h) : Hub.Canon (Hub.blockGo h num c) :=
  Hub.blockGo_keeps (bears_canon 0x480000000000002800000000000004000000000000000000000000000000000010000000000000000000000008400) (Sub.refl _) H

theorem Hub.blockGo_same {h : Hub} {num : ℕ} {c : optParam Cap { }} : Hub.Same 0x480000000000002800000000000004000000000000000000000000000000000010000000000000000000000008400 h (Hub.blockGo h num c) :=
  Hub.blockGo_keeps (bears_same 0x480000000000002800000000000004000000000000000000000000000000000010000000000000000000000008400 h) (Sub.refl _) (fun _ => Hub.Same.refl _ _) (by decide)

theorem Hub.blockGo_rd {h : Hub} {num : ℕ} {c : optParam Cap { }} {F : Fld} {iF bF : Nat} (eF : Nat.testBit 0x480000000000002800000000000004000000000000000000000000000000000010000000000000000000000008400 F.kind = false) :
    Hub.rd (Hub.blockGo h num c) F iF bF = Hub.rd h F iF bF :=
  Hub.blockGo_same.rd (by decide) F iF bF eF

theorem Hub.refreshClear_canon {h : Hub} (H : Hub.Canon h) : Hub.Canon (Hub.refreshClear h) :=
  Hub.refreshClear_keeps (bears_canon 0x8000) (Sub.refl _) H

theorem Hub.refreshClear_same {h : Hub} : Hub.Same 0x8000 h (Hub.refreshClear h) :=
  Hub.refreshClear_keeps (bears_same 0x8000 h) (Sub.refl _) (fun _ => Hub.Same.refl _ _) (by decide)

theorem Hub.refreshClear_rd {h : Hub} {F : Fld} {iF bF : Nat} (eF : Nat.testBit 0x8000 F.kind = false) :
    Hub.rd (Hub.refreshClear h) F iF bF = Hub.rd h F iF bF :=
  Hub.refreshClear_same.rd (by decide) F iF bF eF

theorem Hub.bdecGo_canon {h : Hub} {v : Nat} (H : Hub.Canon h) : Hub.Canon (h.bdecGo v) :=
  Hub.bdecGo_keeps (bears_canon 0x200000000000000000000000000000000000000000000000000000000000000000000000000000000000000008000) (Sub.refl _) H

theorem Hub.bdecGo_same {h : Hub} {v : Nat} : Hub.Same 0x200000000000000000000000000000000000000000000000000000000000000000000000000000000000000008000 h (h.bdecGo v) :=
  Hub.bdecGo_keeps (bears_same 0x200000000000000000000000000000000000000000000000000000000000000000000000000000000000000008000 h) (Sub.refl _) (fun _ => Hub.Same.refl _ _) (by decide)

theorem Hub.bdecGo_rd {h : Hub} {v : Nat} {F : Fld} {iF bF : Nat} (eF : Nat.testBit 0x200000000000000000000000000000000000000000000000000000000000000000000000000000000000000008000 F.kind = false) :
    Hub.rd (h.bdecGo v) F iF bF = Hub.rd h F iF bF :=
  Hub.bdecGo_same.rd (by decide) F iF bF eF

theorem Hub.setRingEn_canon {h : Hub} {w : Writer} {v : Bool} (H : Hub.Canon h) : Hub.Canon (Hub.setRingEn h w v) :=
  Hub.setRingEn_keeps (bears_canon 0xa00000000000000000000000000000) (Sub.refl _) H

theorem Hub.setRingEn_same {h : Hub} {w : Writer} {v : Bool} : Hub.Same 0xa00000000000000000000000000000 h (Hub.setRingEn h w v) :=
  Hub.setRingEn_keeps (bears_same 0xa00000000000000000000000000000 h) (Sub.refl _) (fun _ => Hub.Same.refl _ _) (by decide)

theorem Hub.setRingEn_rd {h : Hub} {w : Writer} {v : Bool} {F : Fld} {iF bF : Nat} (eF : Nat.testBit 0xa00000000000000000000000000000 F.kind = false) :
    Hub.rd (Hub.setRingEn h w v) F iF bF = Hub.rd h F iF bF :=
  Hub.setRingEn_same.rd (by decide) F iF bF eF

theorem Hub.enableRing_canon {h : Hub} {w : Writer} {c : optParam Cap { }} (H : Hub.Canon h) : Hub.Canon (Hub.enableRing h w c) :=
  Hub.enableRing_keeps (bears_canon 0x2808000000000004000000000000000000000000000000000a10000000000000000000000000400) (Sub.refl _) H

theorem Hub.enableRing_same {h : Hub} {w : Writer} {c : optParam Cap { }} : Hub.Same 0x2808000000000004000000000000000000000000000000000a10000000000000000000000000400 h (Hub.enableRing h w c) :=
  Hub.enableRing_keeps (bears_same 0x2808000000000004000000000000000000000000000000000a10000000000000000000000000400 h) (Sub.refl _) (fun _ => Hub.Same.refl _ _) (by decide)

theorem Hub.enableRing_rd {h : Hub} {w : Writer} {c : optParam Cap { }} {F : Fld} {iF bF : Nat} (eF : Nat.testBit 0x2808000000000004000000000000000000000000000000000a10000000000000000000000000400 F.kind = false) :
    Hub.rd (Hub.enableRing h w c) F iF bF = Hub.rd h F iF bF :=
  Hub.enableRing_same.rd (by decide) F iF bF eF

theorem Hub.rxClosed_canon {h : Hub} {r : ℕ} (H : Hub.Canon h) : Hub.Canon (Hub.rxClosed h r) :=
  Hub.rxClosed_keeps (bears_canon 0x800000000000000000000000000000) (Sub.refl _) H

theorem Hub.rxClosed_same {h : Hub} {r : ℕ} : Hub.Same 0x800000000000000000000000000000 h (Hub.rxClosed h r) :=
  Hub.rxClosed_keeps (bears_same 0x800000000000000000000000000000 h) (Sub.refl _) (fun _ => Hub.Same.refl _ _) (by decide)

theorem Hub.rxClosed_rd {h : Hub} {r : ℕ} {F : Fld} {iF bF : Nat} (eF : Nat.testBit 0x800000000000000000000000000000 F.kind = false) :
    Hub.rd (Hub.rxClosed h r) F iF bF = Hub.rd h F iF bF :=
  Hub.rxClosed_same.rd (by decide) F iF bF eF

theorem Hub.ringBits_canon {h : Hub} {ws : List Writer} {v : ℕ} {c : optParam Cap { }} (H : Hub.Canon h) : Hub.Canon (Hub.ringBits h ws v c) :=
  Hub.ringBits_keeps (bears_canon 0x2808000000000004000000000000000000000000000000000a10000000000000000000000000400) (Sub.refl _) H

theorem Hub.ringBits_same {h : Hub} {ws : List Writer} {v : ℕ} {c : optParam Cap { }} : Hub.Same 0x2808000000000004000000000000000000000000000000000a10000000000000000000000000400 h (Hub.ringBits h ws v c) :=
  Hub.ringBits_keeps (bears_same 0x2808000000000004000000000000000000000000000000000a10000000000000000000000000400 h) (Sub.refl _) (fun _ => Hub.Same.refl _ _) (by decide)

theorem Hub.ringBits_rd {h : Hub} {ws : List Writer} {v : ℕ} {c : optParam Cap { }} {F : Fld} {iF bF : Nat} (eF : Nat.testBit 0x2808000000000004000000000000000000000000000000000a10000000000000000000000000400 F.kind = false) :
    Hub.rd (Hub.ringBits h ws v c) F iF bF = Hub.rd h F iF bF :=
  Hub.ringBits_same.rd (by decide) F iF bF eF

theorem Hub.hpdWrite_canon {h : Hub} {k : ℕ} {hpd : Bool} (H : Hub.Canon h) : Hub.Canon (Hub.hpdWrite h k hpd) :=
  Hub.hpdWrite_keeps (bears_canon 0x800000000000000000000000000000000000000000000000000000000000200000000000000000000000000000) (Sub.refl _) H

theorem Hub.hpdWrite_same {h : Hub} {k : ℕ} {hpd : Bool} : Hub.Same 0x800000000000000000000000000000000000000000000000000000000000200000000000000000000000000000 h (Hub.hpdWrite h k hpd) :=
  Hub.hpdWrite_keeps (bears_same 0x800000000000000000000000000000000000000000000000000000000000200000000000000000000000000000 h) (Sub.refl _) (fun _ => Hub.Same.refl _ _) (by decide)

theorem Hub.hpdWrite_rd {h : Hub} {k : ℕ} {hpd : Bool} {F : Fld} {iF bF : Nat} (eF : Nat.testBit 0x800000000000000000000000000000000000000000000000000000000000200000000000000000000000000000 F.kind = false) :
    Hub.rd (Hub.hpdWrite h k hpd) F iF bF = Hub.rd h F iF bF :=
  Hub.hpdWrite_same.rd (by decide) F iF bF eF

theorem Hub.repairWrite_canon {h : Hub} {v : ℕ} {c : optParam Cap { }} (H : Hub.Canon h) : Hub.Canon (Hub.repairWrite h v c) :=
  Hub.repairWrite_keeps (bears_canon 0x4000002800000000000004000000000000000000000000000000000810000000000000000000000000400) (Sub.refl _) H

theorem Hub.repairWrite_same {h : Hub} {v : ℕ} {c : optParam Cap { }} : Hub.Same 0x4000002800000000000004000000000000000000000000000000000810000000000000000000000000400 h (Hub.repairWrite h v c) :=
  Hub.repairWrite_keeps (bears_same 0x4000002800000000000004000000000000000000000000000000000810000000000000000000000000400 h) (Sub.refl _) (fun _ => Hub.Same.refl _ _) (by decide)

theorem Hub.repairWrite_rd {h : Hub} {v : ℕ} {c : optParam Cap { }} {F : Fld} {iF bF : Nat} (eF : Nat.testBit 0x4000002800000000000004000000000000000000000000000000000810000000000000000000000000400 F.kind = false) :
    Hub.rd (Hub.repairWrite h v c) F iF bF = Hub.rd h F iF bF :=
  Hub.repairWrite_same.rd (by decide) F iF bF eF

theorem Hub.dpTrain_canon {h : Hub} {n : ℕ} {c : optParam Cap { }} (H : Hub.Canon h) : Hub.Canon (Hub.dpTrain h n c) :=
  Hub.dpTrain_keeps (bears_canon 0x2800000000000004000000000000000000000000000000001030000000000000000000000000402) (Sub.refl _) H

theorem Hub.dpTrain_same {h : Hub} {n : ℕ} {c : optParam Cap { }} : Hub.Same 0x2800000000000004000000000000000000000000000000001030000000000000000000000000402 h (Hub.dpTrain h n c) :=
  Hub.dpTrain_keeps (bears_same 0x2800000000000004000000000000000000000000000000001030000000000000000000000000402 h) (Sub.refl _) (fun _ => Hub.Same.refl _ _) (by decide)

theorem Hub.dpTrain_rd {h : Hub} {n : ℕ} {c : optParam Cap { }} {F : Fld} {iF bF : Nat} (eF : Nat.testBit 0x2800000000000004000000000000000000000000000000001030000000000000000000000000402 F.kind = false) :
    Hub.rd (Hub.dpTrain h n c) F iF bF = Hub.rd h F iF bF :=
  Hub.dpTrain_same.rd (by decide) F iF bF eF

theorem Hub.auxWrite_canon {h : Hub} {n : ℕ} {v : ℕ} (H : Hub.Canon h) : Hub.Canon (Hub.auxWrite h n v) :=
  Hub.auxWrite_keeps (bears_canon 0x1000000000000000000000000000000) (Sub.refl _) H

theorem Hub.auxWrite_same {h : Hub} {n : ℕ} {v : ℕ} : Hub.Same 0x1000000000000000000000000000000 h (Hub.auxWrite h n v) :=
  Hub.auxWrite_keeps (bears_same 0x1000000000000000000000000000000 h) (Sub.refl _) (fun _ => Hub.Same.refl _ _) (by decide)

theorem Hub.auxWrite_rd {h : Hub} {n : ℕ} {v : ℕ} {F : Fld} {iF bF : Nat} (eF : Nat.testBit 0x1000000000000000000000000000000 F.kind = false) :
    Hub.rd (Hub.auxWrite h n v) F iF bF = Hub.rd h F iF bF :=
  Hub.auxWrite_same.rd (by decide) F iF bF eF

theorem Hub.refreshPf_canon {h : Hub} (H : Hub.Canon h) : Hub.Canon (Hub.refreshPf h) :=
  Hub.refreshPf_keeps (bears_canon 0x100000000000000000000000000000000) (Sub.refl _) H

theorem Hub.refreshPf_same {h : Hub} : Hub.Same 0x100000000000000000000000000000000 h (Hub.refreshPf h) :=
  Hub.refreshPf_keeps (bears_same 0x100000000000000000000000000000000 h) (Sub.refl _) (fun _ => Hub.Same.refl _ _) (by decide)

theorem Hub.refreshPf_rd {h : Hub} {F : Fld} {iF bF : Nat} (eF : Nat.testBit 0x100000000000000000000000000000000 F.kind = false) :
    Hub.rd (Hub.refreshPf h) F iF bF = Hub.rd h F iF bF :=
  Hub.refreshPf_same.rd (by decide) F iF bF eF

theorem Hub.msix_canon {h : Hub} {v : ℕ} (H : Hub.Canon h) : Hub.Canon (Hub.msix h v) :=
  Hub.msix_keeps (bears_canon 0x8000000000000000000000000000000000000000000000000000000200000000000000000000000000000000) (Sub.refl _) H

theorem Hub.msix_same {h : Hub} {v : ℕ} : Hub.Same 0x8000000000000000000000000000000000000000000000000000000200000000000000000000000000000000 h (Hub.msix h v) :=
  Hub.msix_keeps (bears_same 0x8000000000000000000000000000000000000000000000000000000200000000000000000000000000000000 h) (Sub.refl _) (fun _ => Hub.Same.refl _ _) (by decide)

theorem Hub.msix_rd {h : Hub} {v : ℕ} {F : Fld} {iF bF : Nat} (eF : Nat.testBit 0x8000000000000000000000000000000000000000000000000000000200000000000000000000000000000000 F.kind = false) :
    Hub.rd (Hub.msix h v) F iF bF = Hub.rd h F iF bF :=
  Hub.msix_same.rd (by decide) F iF bF eF

theorem Hub.msixFlush_canon {h : Hub} (H : Hub.Canon h) : Hub.Canon (Hub.msixFlush h) :=
  Hub.msixFlush_keeps (bears_canon 0x8000000000000000000000000000000000000000000000000000000200000000000000000000000000000000) (Sub.refl _) H

theorem Hub.msixFlush_same {h : Hub} : Hub.Same 0x8000000000000000000000000000000000000000000000000000000200000000000000000000000000000000 h (Hub.msixFlush h) :=
  Hub.msixFlush_keeps (bears_same 0x8000000000000000000000000000000000000000000000000000000200000000000000000000000000000000 h) (Sub.refl _) (fun _ => Hub.Same.refl _ _) (by decide)

theorem Hub.msixFlush_rd {h : Hub} {F : Fld} {iF bF : Nat} (eF : Nat.testBit 0x8000000000000000000000000000000000000000000000000000000200000000000000000000000000000000 F.kind = false) :
    Hub.rd (Hub.msixFlush h) F iF bF = Hub.rd h F iF bF :=
  Hub.msixFlush_same.rd (by decide) F iF bF eF

theorem Hub.fput_canon {h : Hub} {a : Nat} {bs : Bytes} (H : Hub.Canon h) : Hub.Canon (h.fput a bs) :=
  Hub.fput_keeps (bears_canon 0x100000000000000000000000000000000000000000000000000000000000000000000000000000) (Sub.refl _) H

theorem Hub.fput_same {h : Hub} {a : Nat} {bs : Bytes} : Hub.Same 0x100000000000000000000000000000000000000000000000000000000000000000000000000000 h (h.fput a bs) :=
  Hub.fput_keeps (bears_same 0x100000000000000000000000000000000000000000000000000000000000000000000000000000 h) (Sub.refl _) (fun _ => Hub.Same.refl _ _) (by decide)

theorem Hub.fput_rd {h : Hub} {a : Nat} {bs : Bytes} {F : Fld} {iF bF : Nat} (eF : Nat.testBit 0x100000000000000000000000000000000000000000000000000000000000000000000000000000 F.kind = false) :
    Hub.rd (h.fput a bs) F iF bF = Hub.rd h F iF bF :=
  Hub.fput_same.rd (by decide) F iF bF eF

theorem Hub.takeXtsKey_canon {h : Hub} (H : Hub.Canon h) : Hub.Canon (Hub.takeXtsKey h) :=
  Hub.takeXtsKey_keeps (bears_canon 0x1000000100000000000000000000000000000000000000000000000000000000000000000000000000000) (Sub.refl _) H

theorem Hub.takeXtsKey_same {h : Hub} : Hub.Same 0x1000000100000000000000000000000000000000000000000000000000000000000000000000000000000 h (Hub.takeXtsKey h) :=
  Hub.takeXtsKey_keeps (bears_same 0x1000000100000000000000000000000000000000000000000000000000000000000000000000000000000 h) (Sub.refl _) (fun _ => Hub.Same.refl _ _) (by decide)

theorem Hub.takeXtsKey_rd {h : Hub} {F : Fld} {iF bF : Nat} (eF : Nat.testBit 0x1000000100000000000000000000000000000000000000000000000000000000000000000000000000000 F.kind = false) :
    Hub.rd (Hub.takeXtsKey h) F iF bF = Hub.rd h F iF bF :=
  Hub.takeXtsKey_same.rd (by decide) F iF bF eF

theorem Hub.memSetEn_canon {h : Hub} {en : Bool} {c : optParam Cap { }} (H : Hub.Canon h) : Hub.Canon (Hub.memSetEn h en c) :=
  Hub.memSetEn_keeps (bears_canon 0x1000002900000000000004000000000000000000000000000010100010000000000000000000000000400) (Sub.refl _) H

theorem Hub.memSetEn_same {h : Hub} {en : Bool} {c : optParam Cap { }} : Hub.Same 0x1000002900000000000004000000000000000000000000000010100010000000000000000000000000400 h (Hub.memSetEn h en c) :=
  Hub.memSetEn_keeps (bears_same 0x1000002900000000000004000000000000000000000000000010100010000000000000000000000000400 h) (Sub.refl _) (fun _ => Hub.Same.refl _ _) (by decide)

theorem Hub.memSetEn_rd {h : Hub} {en : Bool} {c : optParam Cap { }} {F : Fld} {iF bF : Nat} (eF : Nat.testBit 0x1000002900000000000004000000000000000000000000000010100010000000000000000000000000400 F.kind = false) :
    Hub.rd (Hub.memSetEn h en c) F iF bF = Hub.rd h F iF bF :=
  Hub.memSetEn_same.rd (by decide) F iF bF eF

theorem Hub.memTrain_canon {h : Hub} (H : Hub.Canon h) : Hub.Canon (Hub.memTrain h) :=
  Hub.memTrain_keeps (bears_canon 0x30100000000000000000000000000000000) (Sub.refl _) H

theorem Hub.memTrain_same {h : Hub} : Hub.Same 0x30100000000000000000000000000000000 h (Hub.memTrain h) :=
  Hub.memTrain_keeps (bears_same 0x30100000000000000000000000000000000 h) (Sub.refl _) (fun _ => Hub.Same.refl _ _) (by decide)

theorem Hub.memTrain_rd {h : Hub} {F : Fld} {iF bF : Nat} (eF : Nat.testBit 0x30100000000000000000000000000000000 F.kind = false) :
    Hub.rd (Hub.memTrain h) F iF bF = Hub.rd h F iF bF :=
  Hub.memTrain_same.rd (by decide) F iF bF eF

theorem Hub.vmapStage_canon {h : Hub} {m : ℕ} {v : ℕ} (H : Hub.Canon h) : Hub.Canon (Hub.vmapStage h m v) :=
  Hub.vmapStage_keeps (bears_canon 0x1000000000000000000000000000000000000) (Sub.refl _) H

theorem Hub.vmapStage_same {h : Hub} {m : ℕ} {v : ℕ} : Hub.Same 0x1000000000000000000000000000000000000 h (Hub.vmapStage h m v) :=
  Hub.vmapStage_keeps (bears_same 0x1000000000000000000000000000000000000 h) (Sub.refl _) (fun _ => Hub.Same.refl _ _) (by decide)

theorem Hub.vmapStage_rd {h : Hub} {m : ℕ} {v : ℕ} {F : Fld} {iF bF : Nat} (eF : Nat.testBit 0x1000000000000000000000000000000000000 F.kind = false) :
    Hub.rd (Hub.vmapStage h m v) F iF bF = Hub.rd h F iF bF :=
  Hub.vmapStage_same.rd (by decide) F iF bF eF

theorem Hub.vmapApply_canon {h : Hub} {m : ℕ} {v : ℕ} {c : optParam Cap { }} (H : Hub.Canon h) : Hub.Canon (Hub.vmapApply h m v c) :=
  Hub.vmapApply_keeps (bears_canon 0x2800000000000004000000000000000000000000001000000010000000000000000000000000400) (Sub.refl _) H

theorem Hub.vmapApply_same {h : Hub} {m : ℕ} {v : ℕ} {c : optParam Cap { }} : Hub.Same 0x2800000000000004000000000000000000000000001000000010000000000000000000000000400 h (Hub.vmapApply h m v c) :=
  Hub.vmapApply_keeps (bears_same 0x2800000000000004000000000000000000000000001000000010000000000000000000000000400 h) (Sub.refl _) (fun _ => Hub.Same.refl _ _) (by decide)

theorem Hub.vmapApply_rd {h : Hub} {m : ℕ} {v : ℕ} {c : optParam Cap { }} {F : Fld} {iF bF : Nat} (eF : Nat.testBit 0x2800000000000004000000000000000000000000001000000010000000000000000000000000400 F.kind = false) :
    Hub.rd (Hub.vmapApply h m v c) F iF bF = Hub.rd h F iF bF :=
  Hub.vmapApply_same.rd (by decide) F iF bF eF

theorem Hub.pmapStage_canon {h : Hub} {v : ℕ} (H : Hub.Canon h) : Hub.Canon (Hub.pmapStage h v) :=
  Hub.pmapStage_keeps (bears_canon 0x4000000000000000000000000000000000000) (Sub.refl _) H

theorem Hub.pmapStage_same {h : Hub} {v : ℕ} : Hub.Same 0x4000000000000000000000000000000000000 h (Hub.pmapStage h v) :=
  Hub.pmapStage_keeps (bears_same 0x4000000000000000000000000000000000000 h) (Sub.refl _) (fun _ => Hub.Same.refl _ _) (by decide)

theorem Hub.pmapStage_rd {h : Hub} {v : ℕ} {F : Fld} {iF bF : Nat} (eF : Nat.testBit 0x4000000000000000000000000000000000000 F.kind = false) :
    Hub.rd (Hub.pmapStage h v) F iF bF = Hub.rd h F iF bF :=
  Hub.pmapStage_same.rd (by decide) F iF bF eF

theorem Hub.pmapApply_canon {h : Hub} {v : ℕ} {c : optParam Cap { }} (H : Hub.Canon h) : Hub.Canon (Hub.pmapApply h v c) :=
  Hub.pmapApply_keeps (bears_canon 0x2800000000000004000000000000000000000000004000000010000000000000000000000000400) (Sub.refl _) H

theorem Hub.pmapApply_same {h : Hub} {v : ℕ} {c : optParam Cap { }} : Hub.Same 0x2800000000000004000000000000000000000000004000000010000000000000000000000000400 h (Hub.pmapApply h v c) :=
  Hub.pmapApply_keeps (bears_same 0x2800000000000004000000000000000000000000004000000010000000000000000000000000400 h) (Sub.refl _) (fun _ => Hub.Same.refl _ _) (by decide)

theorem Hub.pmapApply_rd {h : Hub} {v : ℕ} {c : optParam Cap { }} {F : Fld} {iF bF : Nat} (eF : Nat.testBit 0x2800000000000004000000000000000000000000004000000010000000000000000000000000400 F.kind = false) :
    Hub.rd (Hub.pmapApply h v c) F iF bF = Hub.rd h F iF bF :=
  Hub.pmapApply_same.rd (by decide) F iF bF eF

theorem Hub.portsPresent_canon {h : Hub} (H : Hub.Canon h) : Hub.Canon (Hub.portsPresent h) :=
  Hub.portsPresent_keeps (bears_canon 0x4000000000000000000000010000000000000000000000000000000000000000) (Sub.refl _) H

theorem Hub.portsPresent_same {h : Hub} : Hub.Same 0x4000000000000000000000010000000000000000000000000000000000000000 h (Hub.portsPresent h) :=
  Hub.portsPresent_keeps (bears_same 0x4000000000000000000000010000000000000000000000000000000000000000 h) (Sub.refl _) (fun _ => Hub.Same.refl _ _) (by decide)

theorem Hub.portsPresent_rd {h : Hub} {F : Fld} {iF bF : Nat} (eF : Nat.testBit 0x4000000000000000000000010000000000000000000000000000000000000000 F.kind = false) :
    Hub.rd (Hub.portsPresent h) F iF bF = Hub.rd h F iF bF :=
  Hub.portsPresent_same.rd (by decide) F iF bF eF

theorem Hub.udfConnect_canon {h : Hub} {v : Bool} (H : Hub.Canon h) : Hub.Canon (Hub.udfConnect h v) :=
  Hub.udfConnect_keeps (bears_canon 0x4000000000000000000000030000000000000000000000000000000000000000) (Sub.refl _) H

theorem Hub.udfConnect_same {h : Hub} {v : Bool} : Hub.Same 0x4000000000000000000000030000000000000000000000000000000000000000 h (Hub.udfConnect h v) :=
  Hub.udfConnect_keeps (bears_same 0x4000000000000000000000030000000000000000000000000000000000000000 h) (Sub.refl _) (fun _ => Hub.Same.refl _ _) (by decide)

theorem Hub.udfConnect_rd {h : Hub} {v : Bool} {F : Fld} {iF bF : Nat} (eF : Nat.testBit 0x4000000000000000000000030000000000000000000000000000000000000000 F.kind = false) :
    Hub.rd (Hub.udfConnect h v) F iF bF = Hub.rd h F iF bF :=
  Hub.udfConnect_same.rd (by decide) F iF bF eF

theorem Hub.wakeAbsorbed_canon {h : Hub} (H : Hub.Canon h) : Hub.Canon (Hub.wakeAbsorbed h) :=
  Hub.wakeAbsorbed_keeps (bears_canon 0x20000000000000000000000000000000000000000) (Sub.refl _) H

theorem Hub.wakeAbsorbed_same {h : Hub} : Hub.Same 0x20000000000000000000000000000000000000000 h (Hub.wakeAbsorbed h) :=
  Hub.wakeAbsorbed_keeps (bears_same 0x20000000000000000000000000000000000000000 h) (Sub.refl _) (fun _ => Hub.Same.refl _ _) (by decide)

theorem Hub.wakeAbsorbed_rd {h : Hub} {F : Fld} {iF bF : Nat} (eF : Nat.testBit 0x20000000000000000000000000000000000000000 F.kind = false) :
    Hub.rd (Hub.wakeAbsorbed h) F iF bF = Hub.rd h F iF bF :=
  Hub.wakeAbsorbed_same.rd (by decide) F iF bF eF

theorem Hub.rhaMode_canon {h : Hub} {v : ℕ} {c : optParam Cap { }} (H : Hub.Canon h) : Hub.Canon (Hub.rhaMode h v c) :=
  Hub.rhaMode_keeps (bears_canon 0x140000000002808000000000004000000000000000000000070000000000010000000000000000000000000400) (Sub.refl _) H

theorem Hub.rhaMode_same {h : Hub} {v : ℕ} {c : optParam Cap { }} : Hub.Same 0x140000000002808000000000004000000000000000000000070000000000010000000000000000000000000400 h (Hub.rhaMode h v c) :=
  Hub.rhaMode_keeps (bears_same 0x140000000002808000000000004000000000000000000000070000000000010000000000000000000000000400 h) (Sub.refl _) (fun _ => Hub.Same.refl _ _) (by decide)

theorem Hub.rhaMode_rd {h : Hub} {v : ℕ} {c : optParam Cap { }} {F : Fld} {iF bF : Nat} (eF : Nat.testBit 0x140000000002808000000000004000000000000000000000070000000000010000000000000000000000000400 F.kind = false) :
    Hub.rd (Hub.rhaMode h v c) F iF bF = Hub.rd h F iF bF :=
  Hub.rhaMode_same.rd (by decide) F iF bF eF

theorem Hub.rcfgWrite_canon {h : Hub} {v : ℕ} {c : optParam Cap { }} (H : Hub.Canon h) : Hub.Canon (Hub.rcfgWrite h v c) :=
  Hub.rcfgWrite_keeps (bears_canon 0x2800000000000004000000000000000000000040000000000010000000000000000000000000400) (Sub.refl _) H

theorem Hub.rcfgWrite_same {h : Hub} {v : ℕ} {c : optParam Cap { }} : Hub.Same 0x2800000000000004000000000000000000000040000000000010000000000000000000000000400 h (Hub.rcfgWrite h v c) :=
  Hub.rcfgWrite_keeps (bears_same 0x2800000000000004000000000000000000000040000000000010000000000000000000000000400 h) (Sub.refl _) (fun _ => Hub.Same.refl _ _) (by decide)

theorem Hub.rcfgWrite_rd {h : Hub} {v : ℕ} {c : optParam Cap { }} {F : Fld} {iF bF : Nat} (eF : Nat.testBit 0x2800000000000004000000000000000000000040000000000010000000000000000000000000400 F.kind = false) :
    Hub.rd (Hub.rcfgWrite h v c) F iF bF = Hub.rd h F iF bF :=
  Hub.rcfgWrite_same.rd (by decide) F iF bF eF

theorem Hub.descDone_canon {h : Hub} {r : ℕ} {i : ℕ} {status : ℕ} {actual : ℕ} {naks : ℕ} {frame : ℕ} {toggle : Bool} (H : Hub.Canon h) : Hub.Canon (Hub.descDone h r i status actual naks frame toggle) :=
  Hub.descDone_keeps (bears_canon 0x8000000000004000000000000000000000040000000000000000000000000000000000000000) (Sub.refl _) H

theorem Hub.descDone_same {h : Hub} {r : ℕ} {i : ℕ} {status : ℕ} {actual : ℕ} {naks : ℕ} {frame : ℕ} {toggle : Bool} : Hub.Same 0x8000000000004000000000000000000000040000000000000000000000000000000000000000 h (Hub.descDone h r i status actual naks frame toggle) :=
  Hub.descDone_keeps (bears_same 0x8000000000004000000000000000000000040000000000000000000000000000000000000000 h) (Sub.refl _) (fun _ => Hub.Same.refl _ _) (by decide)

theorem Hub.descDone_rd {h : Hub} {r : ℕ} {i : ℕ} {status : ℕ} {actual : ℕ} {naks : ℕ} {frame : ℕ} {toggle : Bool} {F : Fld} {iF bF : Nat} (eF : Nat.testBit 0x8000000000004000000000000000000000040000000000000000000000000000000000000000 F.kind = false) :
    Hub.rd (Hub.descDone h r i status actual naks frame toggle) F iF bF = Hub.rd h F iF bF :=
  Hub.descDone_same.rd (by decide) F iF bF eF

theorem Hub.descFail_canon {h : Hub} {r : ℕ} {i : ℕ} {status : ℕ} {actual : ℕ} {naks : ℕ} (H : Hub.Canon h) : Hub.Canon (Hub.descFail h r i status actual naks) :=
  Hub.descFail_keeps (bears_canon 0x808000000000004000000000000000000000040000000000000000000000000000000000000000) (Sub.refl _) H

theorem Hub.descFail_same {h : Hub} {r : ℕ} {i : ℕ} {status : ℕ} {actual : ℕ} {naks : ℕ} : Hub.Same 0x808000000000004000000000000000000000040000000000000000000000000000000000000000 h (Hub.descFail h r i status actual naks) :=
  Hub.descFail_keeps (bears_same 0x808000000000004000000000000000000000040000000000000000000000000000000000000000 h) (Sub.refl _) (fun _ => Hub.Same.refl _ _) (by decide)

theorem Hub.descFail_rd {h : Hub} {r : ℕ} {i : ℕ} {status : ℕ} {actual : ℕ} {naks : ℕ} {F : Fld} {iF bF : Nat} (eF : Nat.testBit 0x808000000000004000000000000000000000040000000000000000000000000000000000000000 F.kind = false) :
    Hub.rd (Hub.descFail h r i status actual naks) F iF bF = Hub.rd h F iF bF :=
  Hub.descFail_same.rd (by decide) F iF bF eF

theorem Hub.pllenWrite_canon {h : Hub} {v : ℕ} (H : Hub.Canon h) : Hub.Canon (Hub.pllenWrite h v) :=
  Hub.pllenWrite_keeps (bears_canon 0x2) (Sub.refl _) H

theorem Hub.pllenWrite_same {h : Hub} {v : ℕ} : Hub.Same 0x2 h (Hub.pllenWrite h v) :=
  Hub.pllenWrite_keeps (bears_same 0x2 h) (Sub.refl _) (fun _ => Hub.Same.refl _ _) (by decide)

theorem Hub.pllenWrite_rd {h : Hub} {v : ℕ} {F : Fld} {iF bF : Nat} (eF : Nat.testBit 0x2 F.kind = false) :
    Hub.rd (Hub.pllenWrite h v) F iF bF = Hub.rd h F iF bF :=
  Hub.pllenWrite_same.rd (by decide) F iF bF eF

theorem Hub.gateOn_canon {h : Hub} {n : Nat} (H : Hub.Canon h) : Hub.Canon (h.gateOn n) :=
  Hub.gateOn_keeps (bears_canon 0x2) (Sub.refl _) H

theorem Hub.gateOn_same {h : Hub} {n : Nat} : Hub.Same 0x2 h (h.gateOn n) :=
  Hub.gateOn_keeps (bears_same 0x2 h) (Sub.refl _) (fun _ => Hub.Same.refl _ _) (by decide)

theorem Hub.gateOn_rd {h : Hub} {n : Nat} {F : Fld} {iF bF : Nat} (eF : Nat.testBit 0x2 F.kind = false) :
    Hub.rd (h.gateOn n) F iF bF = Hub.rd h F iF bF :=
  Hub.gateOn_same.rd (by decide) F iF bF eF

theorem Hub.gateOff_canon {h : Hub} {n : Nat} (H : Hub.Canon h) : Hub.Canon (h.gateOff n) :=
  Hub.gateOff_keeps (bears_canon 0x2) (Sub.refl _) H

theorem Hub.gateOff_same {h : Hub} {n : Nat} : Hub.Same 0x2 h (h.gateOff n) :=
  Hub.gateOff_keeps (bears_same 0x2 h) (Sub.refl _) (fun _ => Hub.Same.refl _ _) (by decide)

theorem Hub.gateOff_rd {h : Hub} {n : Nat} {F : Fld} {iF bF : Nat} (eF : Nat.testBit 0x2 F.kind = false) :
    Hub.rd (h.gateOff n) F iF bF = Hub.rd h F iF bF :=
  Hub.gateOff_same.rd (by decide) F iF bF eF

theorem Hub.gateSet_canon {h : Hub} {n : ℕ} {run : Bool} (H : Hub.Canon h) : Hub.Canon (Hub.gateSet h n run) :=
  Hub.gateSet_keeps (bears_canon 0x2) (Sub.refl _) H

theorem Hub.gateSet_same {h : Hub} {n : ℕ} {run : Bool} : Hub.Same 0x2 h (Hub.gateSet h n run) :=
  Hub.gateSet_keeps (bears_same 0x2 h) (Sub.refl _) (fun _ => Hub.Same.refl _ _) (by decide)

theorem Hub.gateSet_rd {h : Hub} {n : ℕ} {run : Bool} {F : Fld} {iF bF : Nat} (eF : Nat.testBit 0x2 F.kind = false) :
    Hub.rd (Hub.gateSet h n run) F iF bF = Hub.rd h F iF bF :=
  Hub.gateSet_same.rd (by decide) F iF bF eF

theorem Hub.gateWrite_canon {h : Hub} {v : ℕ} (H : Hub.Canon h) : Hub.Canon (Hub.gateWrite h v) :=
  Hub.gateWrite_keeps (bears_canon 0x2) (Sub.refl _) H

theorem Hub.gateWrite_same {h : Hub} {v : ℕ} : Hub.Same 0x2 h (Hub.gateWrite h v) :=
  Hub.gateWrite_keeps (bears_same 0x2 h) (Sub.refl _) (fun _ => Hub.Same.refl _ _) (by decide)

theorem Hub.gateWrite_rd {h : Hub} {v : ℕ} {F : Fld} {iF bF : Nat} (eF : Nat.testBit 0x2 F.kind = false) :
    Hub.rd (Hub.gateWrite h v) F iF bF = Hub.rd h F iF bF :=
  Hub.gateWrite_same.rd (by decide) F iF bF eF

theorem Hub.vsetWrite_canon {h : Hub} {r : Req} {v : ℕ} (H : Hub.Canon h) : Hub.Canon (Hub.vsetWrite h r v) :=
  Hub.vsetWrite_keeps (bears_canon 0xa800000000000004000000000000000000000000000000000010000000000010000000000000404) (Sub.refl _) H

theorem Hub.vsetWrite_same {h : Hub} {r : Req} {v : ℕ} : Hub.Same 0xa800000000000004000000000000000000000000000000000010000000000010000000000000404 h (Hub.vsetWrite h r v) :=
  Hub.vsetWrite_keeps (bears_same 0xa800000000000004000000000000000000000000000000000010000000000010000000000000404 h) (Sub.refl _) (fun _ => Hub.Same.refl _ _) (by decide)

theorem Hub.vsetWrite_rd {h : Hub} {r : Req} {v : ℕ} {F : Fld} {iF bF : Nat} (eF : Nat.testBit 0xa800000000000004000000000000000000000000000000000010000000000010000000000000404 F.kind = false) :
    Hub.rd (Hub.vsetWrite h r v) F iF bF = Hub.rd h F iF bF :=
  Hub.vsetWrite_same.rd (by decide) F iF bF eF

theorem Hub.filSnap_canon {h : Hub} (H : Hub.Canon h) : Hub.Canon (Hub.filSnap h) :=
  Hub.filSnap_keeps (bears_canon 0x4) (Sub.refl _) H

theorem Hub.filSnap_same {h : Hub} : Hub.Same 0x4 h (Hub.filSnap h) :=
  Hub.filSnap_keeps (bears_same 0x4 h) (Sub.refl _) (fun _ => Hub.Same.refl _ _) (by decide)

theorem Hub.filSnap_rd {h : Hub} {F : Fld} {iF bF : Nat} (eF : Nat.testBit 0x4 F.kind = false) :
    Hub.rd (Hub.filSnap h) F iF bF = Hub.rd h F iF bF :=
  Hub.filSnap_same.rd (by decide) F iF bF eF

theorem Hub.widthGo_canon {h : Hub} {p : ℕ} {c : optParam Cap { }} (H : Hub.Canon h) : Hub.Canon (Hub.widthGo h p c) :=
  Hub.widthGo_keeps (bears_canon 0x8002800000000000004000000000000000000000000000000000010000000000000000000000010400) (Sub.refl _) H

theorem Hub.widthGo_same {h : Hub} {p : ℕ} {c : optParam Cap { }} : Hub.Same 0x8002800000000000004000000000000000000000000000000000010000000000000000000000010400 h (Hub.widthGo h p c) :=
  Hub.widthGo_keeps (bears_same 0x8002800000000000004000000000000000000000000000000000010000000000000000000000010400 h) (Sub.refl _) (fun _ => Hub.Same.refl _ _) (by decide)

theorem Hub.widthGo_rd {h : Hub} {p : ℕ} {c : optParam Cap { }} {F : Fld} {iF bF : Nat} (eF : Nat.testBit 0x8002800000000000004000000000000000000000000000000000010000000000000000000000010400 F.kind = false) :
    Hub.rd (Hub.widthGo h p c) F iF bF = Hub.rd h F iF bF :=
  Hub.widthGo_same.rd (by decide) F iF bF eF

theorem Hub.keySend_canon {h : Hub} {p : ℕ} {phase : ℕ} {span : ℕ} (H : Hub.Canon h) : Hub.Canon (Hub.keySend h p phase span) :=
  Hub.keySend_keeps (bears_canon 0x8000000000000000000000000000000000000000000000000000000000000000000000000000010000) (Sub.refl _) H

theorem Hub.keySend_same {h : Hub} {p : ℕ} {phase : ℕ} {span : ℕ} : Hub.Same 0x8000000000000000000000000000000000000000000000000000000000000000000000000000010000 h (Hub.keySend h p phase span) :=
  Hub.keySend_keeps (bears_same 0x8000000000000000000000000000000000000000000000000000000000000000000000000000010000 h) (Sub.refl _) (fun _ => Hub.Same.refl _ _) (by decide)

theorem Hub.keySend_rd {h : Hub} {p : ℕ} {phase : ℕ} {span : ℕ} {F : Fld} {iF bF : Nat} (eF : Nat.testBit 0x8000000000000000000000000000000000000000000000000000000000000000000000000000010000 F.kind = false) :
    Hub.rd (Hub.keySend h p phase span) F iF bF = Hub.rd h F iF bF :=
  Hub.keySend_same.rd (by decide) F iF bF eF

theorem Hub.armGo_canon {h : Hub} {p : ℕ} {c : optParam Cap { }} (H : Hub.Canon h) : Hub.Canon (Hub.armGo h p c) :=
  Hub.armGo_keeps (bears_canon 0x8002800000000000004000000000000000000000000000000000010000000000000000000000010400) (Sub.refl _) H

theorem Hub.armGo_same {h : Hub} {p : ℕ} {c : optParam Cap { }} : Hub.Same 0x8002800000000000004000000000000000000000000000000000010000000000000000000000010400 h (Hub.armGo h p c) :=
  Hub.armGo_keeps (bears_same 0x8002800000000000004000000000000000000000000000000000010000000000000000000000010400 h) (Sub.refl _) (fun _ => Hub.Same.refl _ _) (by decide)

theorem Hub.armGo_rd {h : Hub} {p : ℕ} {c : optParam Cap { }} {F : Fld} {iF bF : Nat} (eF : Nat.testBit 0x8002800000000000004000000000000000000000000000000000010000000000000000000000010400 F.kind = false) :
    Hub.rd (Hub.armGo h p c) F iF bF = Hub.rd h F iF bF :=
  Hub.armGo_same.rd (by decide) F iF bF eF

theorem Hub.rollGo_canon {h : Hub} {p : ℕ} {c : optParam Cap { }} (H : Hub.Canon h) : Hub.Canon (Hub.rollGo h p c) :=
  Hub.rollGo_keeps (bears_canon 0x8002800000000000004000000000000000000000000000000000010000000000000000000000010400) (Sub.refl _) H

theorem Hub.rollGo_same {h : Hub} {p : ℕ} {c : optParam Cap { }} : Hub.Same 0x8002800000000000004000000000000000000000000000000000010000000000000000000000010400 h (Hub.rollGo h p c) :=
  Hub.rollGo_keeps (bears_same 0x8002800000000000004000000000000000000000000000000000010000000000000000000000010400 h) (Sub.refl _) (fun _ => Hub.Same.refl _ _) (by decide)

theorem Hub.rollGo_rd {h : Hub} {p : ℕ} {c : optParam Cap { }} {F : Fld} {iF bF : Nat} (eF : Nat.testBit 0x8002800000000000004000000000000000000000000000000000010000000000000000000000010400 F.kind = false) :
    Hub.rd (Hub.rollGo h p c) F iF bF = Hub.rd h F iF bF :=
  Hub.rollGo_same.rd (by decide) F iF bF eF

theorem Hub.mbxSend_canon {h : Hub} {p : ℕ} (H : Hub.Canon h) : Hub.Canon (Hub.mbxSend h p) :=
  Hub.mbxSend_keeps (bears_canon 0x8000000000000000000000000000000000000000000000000000000000000000000000000000010000) (Sub.refl _) H

theorem Hub.mbxSend_same {h : Hub} {p : ℕ} : Hub.Same 0x8000000000000000000000000000000000000000000000000000000000000000000000000000010000 h (Hub.mbxSend h p) :=
  Hub.mbxSend_keeps (bears_same 0x8000000000000000000000000000000000000000000000000000000000000000000000000000010000 h) (Sub.refl _) (fun _ => Hub.Same.refl _ _) (by decide)

theorem Hub.mbxSend_rd {h : Hub} {p : ℕ} {F : Fld} {iF bF : Nat} (eF : Nat.testBit 0x8000000000000000000000000000000000000000000000000000000000000000000000000000010000 F.kind = false) :
    Hub.rd (Hub.mbxSend h p) F iF bF = Hub.rd h F iF bF :=
  Hub.mbxSend_same.rd (by decide) F iF bF eF

theorem Hub.retireLane_canon {h : Hub} {l : ℕ} {cause : ℕ} (H : Hub.Canon h) : Hub.Canon (Hub.retireLane h l cause) :=
  Hub.retireLane_keeps (bears_canon 0xb987aa80200000000000c00060100000000000000000000000000001030200010f030000000100014402) (Sub.refl _) H

theorem Hub.retireLane_same {h : Hub} {l : ℕ} {cause : ℕ} : Hub.Same 0xb987aa80200000000000c00060100000000000000000000000000001030200010f030000000100014402 h (Hub.retireLane h l cause) :=
  Hub.retireLane_keeps (bears_same 0xb987aa80200000000000c00060100000000000000000000000000001030200010f030000000100014402 h) (Sub.refl _) (fun _ => Hub.Same.refl _ _) (by decide)

theorem Hub.retrainLane_canon {h : Hub} {l : ℕ} (H : Hub.Canon h) : Hub.Canon (Hub.retrainLane h l) :=
  Hub.retrainLane_keeps (bears_canon 0xb987aa80200000000000c00060100000000000000000000000000001030200010f030000000100014402) (Sub.refl _) H

theorem Hub.retrainLane_same {h : Hub} {l : ℕ} : Hub.Same 0xb987aa80200000000000c00060100000000000000000000000000001030200010f030000000100014402 h (Hub.retrainLane h l) :=
  Hub.retrainLane_keeps (bears_same 0xb987aa80200000000000c00060100000000000000000000000000001030200010f030000000100014402 h) (Sub.refl _) (fun _ => Hub.Same.refl _ _) (by decide)

theorem Hub.laneCfg_canon {h : Hub} {l : ℕ} {v : ℕ} {c : optParam Cap { }} (H : Hub.Canon h) : Hub.Canon (Hub.laneCfg h l v c) :=
  Hub.laneCfg_keeps (bears_canon 0x280200000000000c001000000000000000000000000000000010000000000000000000100000508) (Sub.refl _) H

theorem Hub.laneCfg_same {h : Hub} {l : ℕ} {v : ℕ} {c : optParam Cap { }} : Hub.Same 0x280200000000000c001000000000000000000000000000000010000000000000000000100000508 h (Hub.laneCfg h l v c) :=
  Hub.laneCfg_keeps (bears_same 0x280200000000000c001000000000000000000000000000000010000000000000000000100000508 h) (Sub.refl _) (fun _ => Hub.Same.refl _ _) (by decide)

theorem Hub.startBeacon_canon {h : Hub} {l : ℕ} (H : Hub.Canon h) : Hub.Canon (Hub.startBeacon h l) :=
  Hub.startBeacon_keeps (bears_canon 0x10000) (Sub.refl _) H

theorem Hub.startBeacon_same {h : Hub} {l : ℕ} : Hub.Same 0x10000 h (Hub.startBeacon h l) :=
  Hub.startBeacon_keeps (bears_same 0x10000 h) (Sub.refl _) (fun _ => Hub.Same.refl _ _) (by decide)

theorem Hub.startBeacon_rd {h : Hub} {l : ℕ} {F : Fld} {iF bF : Nat} (eF : Nat.testBit 0x10000 F.kind = false) :
    Hub.rd (Hub.startBeacon h l) F iF bF = Hub.rd h F iF bF :=
  Hub.startBeacon_same.rd (by decide) F iF bF eF

theorem Hub.rrqSend_canon {h : Hub} {c : optParam Cap { }} (H : Hub.Canon h) : Hub.Canon (Hub.rrqSend h c) :=
  Hub.rrqSend_keeps (bears_canon 0xa800000000000004000000000000000000000000000000000010000000000010000000000000400) (Sub.refl _) H

theorem Hub.rrqSend_same {h : Hub} {c : optParam Cap { }} : Hub.Same 0xa800000000000004000000000000000000000000000000000010000000000010000000000000400 h (Hub.rrqSend h c) :=
  Hub.rrqSend_keeps (bears_same 0xa800000000000004000000000000000000000000000000000010000000000010000000000000400 h) (Sub.refl _) (fun _ => Hub.Same.refl _ _) (by decide)

theorem Hub.rrqSend_rd {h : Hub} {c : optParam Cap { }} {F : Fld} {iF bF : Nat} (eF : Nat.testBit 0xa800000000000004000000000000000000000000000000000010000000000010000000000000400 F.kind = false) :
    Hub.rd (Hub.rrqSend h c) F iF bF = Hub.rd h F iF bF :=
  Hub.rrqSend_same.rd (by decide) F iF bF eF

theorem Hub.qcfgWrite_canon {h : Hub} {v : ℕ} {c : optParam Cap { }} (H : Hub.Canon h) : Hub.Canon (Hub.qcfgWrite h v c) :=
  Hub.qcfgWrite_keeps (bears_canon 0x2800000000000004000000000000000000000000000000000010000000002000000000000000400) (Sub.refl _) H

theorem Hub.qcfgWrite_same {h : Hub} {v : ℕ} {c : optParam Cap { }} : Hub.Same 0x2800000000000004000000000000000000000000000000000010000000002000000000000000400 h (Hub.qcfgWrite h v c) :=
  Hub.qcfgWrite_keeps (bears_same 0x2800000000000004000000000000000000000000000000000010000000002000000000000000400 h) (Sub.refl _) (fun _ => Hub.Same.refl _ _) (by decide)

theorem Hub.qcfgWrite_rd {h : Hub} {v : ℕ} {c : optParam Cap { }} {F : Fld} {iF bF : Nat} (eF : Nat.testBit 0x2800000000000004000000000000000000000000000000000010000000002000000000000000400 F.kind = false) :
    Hub.rd (Hub.qcfgWrite h v c) F iF bF = Hub.rd h F iF bF :=
  Hub.qcfgWrite_same.rd (by decide) F iF bF eF

theorem Hub.granWrite_canon {h : Hub} {e : ℕ} {v : ℕ} {c : optParam Cap { }} (H : Hub.Canon h) : Hub.Canon (Hub.granWrite h e v c) :=
  Hub.granWrite_keeps (bears_canon 0x2800000000000004000000000000000000000000000000000010000000100000000000000000400) (Sub.refl _) H

theorem Hub.granWrite_same {h : Hub} {e : ℕ} {v : ℕ} {c : optParam Cap { }} : Hub.Same 0x2800000000000004000000000000000000000000000000000010000000100000000000000000400 h (Hub.granWrite h e v c) :=
  Hub.granWrite_keeps (bears_same 0x2800000000000004000000000000000000000000000000000010000000100000000000000000400 h) (Sub.refl _) (fun _ => Hub.Same.refl _ _) (by decide)

theorem Hub.granWrite_rd {h : Hub} {e : ℕ} {v : ℕ} {c : optParam Cap { }} {F : Fld} {iF bF : Nat} (eF : Nat.testBit 0x2800000000000004000000000000000000000000000000000010000000100000000000000000400 F.kind = false) :
    Hub.rd (Hub.granWrite h e v c) F iF bF = Hub.rd h F iF bF :=
  Hub.granWrite_same.rd (by decide) F iF bF eF

theorem Hub.setMcir_canon {h : Hub} {m : ℕ} {v : ℕ} (H : Hub.Canon h) : Hub.Canon (Hub.setMcir h m v) :=
  Hub.setMcir_keeps (bears_canon 0x10000000000000000000000000000000000000000000000000000001000000000000000000000000) (Sub.refl _) H

theorem Hub.setMcir_same {h : Hub} {m : ℕ} {v : ℕ} : Hub.Same 0x10000000000000000000000000000000000000000000000000000001000000000000000000000000 h (Hub.setMcir h m v) :=
  Hub.setMcir_keeps (bears_same 0x10000000000000000000000000000000000000000000000000000001000000000000000000000000 h) (Sub.refl _) (fun _ => Hub.Same.refl _ _) (by decide)

theorem Hub.setMcir_rd {h : Hub} {m : ℕ} {v : ℕ} {F : Fld} {iF bF : Nat} (eF : Nat.testBit 0x10000000000000000000000000000000000000000000000000000001000000000000000000000000 F.kind = false) :
    Hub.rd (Hub.setMcir h m v) F iF bF = Hub.rd h F iF bF :=
  Hub.setMcir_same.rd (by decide) F iF bF eF

theorem Hub.meterWrite_canon {h : Hub} {off : ℕ} {v : ℕ} {c : optParam Cap { }} (H : Hub.Canon h) : Hub.Canon (Hub.meterWrite h off v c) :=
  Hub.meterWrite_keeps (bears_canon 0x1280200000000000c001000000000000000000000000000000010001000000000000000000000500) (Sub.refl _) H

theorem Hub.meterWrite_same {h : Hub} {off : ℕ} {v : ℕ} {c : optParam Cap { }} : Hub.Same 0x1280200000000000c001000000000000000000000000000000010001000000000000000000000500 h (Hub.meterWrite h off v c) :=
  Hub.meterWrite_keeps (bears_same 0x1280200000000000c001000000000000000000000000000000010001000000000000000000000500 h) (Sub.refl _) (fun _ => Hub.Same.refl _ _) (by decide)

theorem Hub.meterFill_canon {h : Hub} {m : ℕ} (H : Hub.Canon h) : Hub.Canon (Hub.meterFill h m) :=
  Hub.meterFill_keeps (bears_canon 0x10000000000000000000000000000000000000000000000000000001000000000000000000000000) (Sub.refl _) H

theorem Hub.meterFill_same {h : Hub} {m : ℕ} : Hub.Same 0x10000000000000000000000000000000000000000000000000000001000000000000000000000000 h (Hub.meterFill h m) :=
  Hub.meterFill_keeps (bears_same 0x10000000000000000000000000000000000000000000000000000001000000000000000000000000 h) (Sub.refl _) (fun _ => Hub.Same.refl _ _) (by decide)

theorem Hub.meterFill_rd {h : Hub} {m : ℕ} {F : Fld} {iF bF : Nat} (eF : Nat.testBit 0x10000000000000000000000000000000000000000000000000000001000000000000000000000000 F.kind = false) :
    Hub.rd (Hub.meterFill h m) F iF bF = Hub.rd h F iF bF :=
  Hub.meterFill_same.rd (by decide) F iF bF eF

theorem Hub.meterClear_canon {h : Hub} {m : ℕ} (H : Hub.Canon h) : Hub.Canon (Hub.meterClear h m) :=
  Hub.meterClear_keeps (bears_canon 0x1000000000000000000000000) (Sub.refl _) H

theorem Hub.meterClear_same {h : Hub} {m : ℕ} : Hub.Same 0x1000000000000000000000000 h (Hub.meterClear h m) :=
  Hub.meterClear_keeps (bears_same 0x1000000000000000000000000 h) (Sub.refl _) (fun _ => Hub.Same.refl _ _) (by decide)

theorem Hub.meterClear_rd {h : Hub} {m : ℕ} {F : Fld} {iF bF : Nat} (eF : Nat.testBit 0x1000000000000000000000000 F.kind = false) :
    Hub.rd (Hub.meterClear h m) F iF bF = Hub.rd h F iF bF :=
  Hub.meterClear_same.rd (by decide) F iF bF eF

theorem Hub.setCrown_canon {h : Hub} {node : ℕ} {valid : ℕ} {standby : ℕ} {sValid : ℕ} (H : Hub.Canon h) : Hub.Canon (Hub.setCrown h node valid standby sValid) :=
  Hub.setCrown_keeps (bears_canon 0x4000000000000000000000000000000000000100000000000000000000000000) (Sub.refl _) H

theorem Hub.setCrown_same {h : Hub} {node : ℕ} {valid : ℕ} {standby : ℕ} {sValid : ℕ} : Hub.Same 0x4000000000000000000000000000000000000100000000000000000000000000 h (Hub.setCrown h node valid standby sValid) :=
  Hub.setCrown_keeps (bears_same 0x4000000000000000000000000000000000000100000000000000000000000000 h) (Sub.refl _) (fun _ => Hub.Same.refl _ _) (by decide)

theorem Hub.setCrown_rd {h : Hub} {node : ℕ} {valid : ℕ} {standby : ℕ} {sValid : ℕ} {F : Fld} {iF bF : Nat} (eF : Nat.testBit 0x4000000000000000000000000000000000000100000000000000000000000000 F.kind = false) :
    Hub.rd (Hub.setCrown h node valid standby sValid) F iF bF = Hub.rd h F iF bF :=
  Hub.setCrown_same.rd (by decide) F iF bF eF

theorem Hub.crownPlace_canon {h : Hub} (H : Hub.Canon h) : Hub.Canon (Hub.crownPlace h) :=
  Hub.crownPlace_keeps (bears_canon 0xa800000000000004000400000000000000000000000000000010102000000030000000000000400) (Sub.refl _) H

theorem Hub.crownPlace_same {h : Hub} : Hub.Same 0xa800000000000004000400000000000000000000000000000010102000000030000000000000400 h (Hub.crownPlace h) :=
  Hub.crownPlace_keeps (bears_same 0xa800000000000004000400000000000000000000000000000010102000000030000000000000400 h) (Sub.refl _) (fun _ => Hub.Same.refl _ _) (by decide)

theorem Hub.crownPlace_rd {h : Hub} {F : Fld} {iF bF : Nat} (eF : Nat.testBit 0xa800000000000004000400000000000000000000000000000010102000000030000000000000400 F.kind = false) :
    Hub.rd (Hub.crownPlace h) F iF bF = Hub.rd h F iF bF :=
  Hub.crownPlace_same.rd (by decide) F iF bF eF

theorem Hub.tunState_canon {h : Hub} {i : ℕ} {st : ℕ} (H : Hub.Canon h) : Hub.Canon (Hub.tunState h i st) :=
  Hub.tunState_keeps (bears_canon 0x80008000000000000000000000000000000000000000000000000200000000010000000000000000) (Sub.refl _) H

theorem Hub.tunState_same {h : Hub} {i : ℕ} {st : ℕ} : Hub.Same 0x80008000000000000000000000000000000000000000000000000200000000010000000000000000 h (Hub.tunState h i st) :=
  Hub.tunState_keeps (bears_same 0x80008000000000000000000000000000000000000000000000000200000000010000000000000000 h) (Sub.refl _) (fun _ => Hub.Same.refl _ _) (by decide)

theorem Hub.tunState_rd {h : Hub} {i : ℕ} {st : ℕ} {F : Fld} {iF bF : Nat} (eF : Nat.testBit 0x80008000000000000000000000000000000000000000000000000200000000010000000000000000 F.kind = false) :
    Hub.rd (Hub.tunState h i st) F iF bF = Hub.rd h F iF bF :=
  Hub.tunState_same.rd (by decide) F iF bF eF

theorem Hub.clearDiscovery_canon {h : Hub} (H : Hub.Canon h) : Hub.Canon h.clearDiscovery :=
  Hub.clearDiscovery_keeps (bears_canon 0x4000000000060080008000000000004000400000000000000000000000000000000300000000030000000000000000) (Sub.refl _) H

theorem Hub.clearDiscovery_same {h : Hub} : Hub.Same 0x4000000000060080008000000000004000400000000000000000000000000000000300000000030000000000000000 h h.clearDiscovery :=
  Hub.clearDiscovery_keeps (bears_same 0x4000000000060080008000000000004000400000000000000000000000000000000300000000030000000000000000 h) (Sub.refl _) (fun _ => Hub.Same.refl _ _) (by decide)

theorem Hub.clearDiscovery_rd {h : Hub} {F : Fld} {iF bF : Nat} (eF : Nat.testBit 0x4000000000060080008000000000004000400000000000000000000000000000000300000000030000000000000000 F.kind = false) :
    Hub.rd h.clearDiscovery F iF bF = Hub.rd h F iF bF :=
  Hub.clearDiscovery_same.rd (by decide) F iF bF eF

theorem Hub.rediscover_canon {h : Hub} (H : Hub.Canon h) : Hub.Canon (Hub.rediscover h) :=
  Hub.rediscover_keeps (bears_canon 0x400000000006808a808000000000004000480000000000000000000000000000010302000000030000000000000400) (Sub.refl _) H

theorem Hub.rediscover_same {h : Hub} : Hub.Same 0x400000000006808a808000000000004000480000000000000000000000000000010302000000030000000000000400 h (Hub.rediscover h) :=
  Hub.rediscover_keeps (bears_same 0x400000000006808a808000000000004000480000000000000000000000000000010302000000030000000000000400 h) (Sub.refl _) (fun _ => Hub.Same.refl _ _) (by decide)

theorem Hub.rediscover_rd {h : Hub} {F : Fld} {iF bF : Nat} (eF : Nat.testBit 0x400000000006808a808000000000004000480000000000000000000000000000010302000000030000000000000400 F.kind = false) :
    Hub.rd (Hub.rediscover h) F iF bF = Hub.rd h F iF bF :=
  Hub.rediscover_same.rd (by decide) F iF bF eF

theorem Hub.initContext_canon {h : Hub} {ctx : ℕ} (H : Hub.Canon h) : Hub.Canon (Hub.initContext h ctx) :=
  Hub.initContext_keeps (bears_canon 0x200000000000000000000000000) (Sub.refl _) H

theorem Hub.initContext_same {h : Hub} {ctx : ℕ} : Hub.Same 0x200000000000000000000000000 h (Hub.initContext h ctx) :=
  Hub.initContext_keeps (bears_same 0x200000000000000000000000000 h) (Sub.refl _) (fun _ => Hub.Same.refl _ _) (by decide)

theorem Hub.initContext_rd {h : Hub} {ctx : ℕ} {F : Fld} {iF bF : Nat} (eF : Nat.testBit 0x200000000000000000000000000 F.kind = false) :
    Hub.rd (Hub.initContext h ctx) F iF bF = Hub.rd h F iF bF :=
  Hub.initContext_same.rd (by decide) F iF bF eF

theorem Hub.wordWrite_canon {h : Hub} {r : Req} {pg : ℕ} {off : ℕ} {v : ℕ} (H : Hub.Canon h) : Hub.Canon (Hub.wordWrite h r pg off v) :=
  Hub.wordWrite_keeps (bears_canon 0x8000000000000000000000000000000000ff87fffffffffffb9fe00000000000c001ffb00003010101010007000d030701a3030300010f03000000010001ffff) (Sub.refl _) H

theorem Hub.putWord_canon {h : Hub} {r : Req} {addr : ℕ} {v : ℕ} (H : Hub.Canon h) : Hub.Canon (Hub.putWord h r addr v) :=
  Hub.putWord_keeps (bears_canon 0x8000000000000000000000000000000000ff87fffffffffffb9fe00000000000c001ffb00003010101010007000d030701a3030300010f03000000010001ffff) (Sub.refl _) H

theorem Hub.winWrite_canon {h : Hub} {r : Req} {addr : ℕ} {size : ℕ} {v : ℕ} (H : Hub.Canon h) : Hub.Canon (Hub.winWrite h r addr size v) :=
  Hub.winWrite_keeps (bears_canon 0x8000000000000000000000000000000000ff87fffffffffffb9fe00000000000c001ffb00003010101010007000d030701a3030300010f03000000010001ffff) (Sub.refl _) H

theorem Hub.tableRead_canon {h : Hub} {m : MasterId} {row : TableRow} {addr : ℕ} (H : Hub.Canon h) : Hub.Canon (Hub.tableRead h m row addr).2 :=
  Hub.tableRead_keeps (bears_canon 0x40000000000000000000000000000000000000000000000000000000000000000000000000000) (Sub.refl _) H

theorem Hub.tableRead_same {h : Hub} {m : MasterId} {row : TableRow} {addr : ℕ} : Hub.Same 0x40000000000000000000000000000000000000000000000000000000000000000000000000000 h (Hub.tableRead h m row addr).2 :=
  Hub.tableRead_keeps (bears_same 0x40000000000000000000000000000000000000000000000000000000000000000000000000000 h) (Sub.refl _) (fun _ => Hub.Same.refl _ _) (by decide)

theorem Hub.tableRead_rd {h : Hub} {m : MasterId} {row : TableRow} {addr : ℕ} {F : Fld} {iF bF : Nat} (eF : Nat.testBit 0x40000000000000000000000000000000000000000000000000000000000000000000000000000 F.kind = false) :
    Hub.rd (Hub.tableRead h m row addr).2 F iF bF = Hub.rd h F iF bF :=
  Hub.tableRead_same.rd (by decide) F iF bF eF

theorem Hub.getWord_canon {h : Hub} {r : Req} {l : Latch64} {addr : ℕ} (H : Hub.Canon h) : Hub.Canon (Hub.getWord h r l addr).2 :=
  Hub.getWord_keeps (bears_canon 0x410860000000000000000000000000001010100010009010700020101000100000000000100006020) (Sub.refl _) H

theorem Hub.getWord_same {h : Hub} {r : Req} {l : Latch64} {addr : ℕ} : Hub.Same 0x410860000000000000000000000000001010100010009010700020101000100000000000100006020 h (Hub.getWord h r l addr).2 :=
  Hub.getWord_keeps (bears_same 0x410860000000000000000000000000001010100010009010700020101000100000000000100006020 h) (Sub.refl _) (fun _ => Hub.Same.refl _ _) (by decide)

theorem Hub.getWord_rd {h : Hub} {r : Req} {l : Latch64} {addr : ℕ} {F : Fld} {iF bF : Nat} (eF : Nat.testBit 0x410860000000000000000000000000001010100010009010700020101000100000000000100006020 F.kind = false) :
    Hub.rd (Hub.getWord h r l addr).2 F iF bF = Hub.rd h F iF bF :=
  Hub.getWord_same.rd (by decide) F iF bF eF

theorem Hub.winRead_canon {h : Hub} {r : Req} {addr : ℕ} {size : ℕ} (H : Hub.Canon h) : Hub.Canon (Hub.winRead h r addr size) :=
  Hub.winRead_keeps (bears_canon 0x4128e0000000000004000000000000001010100010009010700030101000100000000000100006520) (Sub.refl _) H

theorem Hub.winRead_same {h : Hub} {r : Req} {addr : ℕ} {size : ℕ} : Hub.Same 0x4128e0000000000004000000000000001010100010009010700030101000100000000000100006520 h (Hub.winRead h r addr size) :=
  Hub.winRead_keeps (bears_same 0x4128e0000000000004000000000000001010100010009010700030101000100000000000100006520 h) (Sub.refl _) (fun _ => Hub.Same.refl _ _) (by decide)

theorem Hub.winRead_rd {h : Hub} {r : Req} {addr : ℕ} {size : ℕ} {F : Fld} {iF bF : Nat} (eF : Nat.testBit 0x4128e0000000000004000000000000001010100010009010700030101000100000000000100006520 F.kind = false) :
    Hub.rd (Hub.winRead h r addr size) F iF bF = Hub.rd h F iF bF :=
  Hub.winRead_same.rd (by decide) F iF bF eF

theorem Hub.oneWord_canon {h : Hub} {r : Req} {addr : ℕ} {v : Option ℕ} (H : Hub.Canon h) : Hub.Canon (Hub.oneWord h r addr v).2 :=
  Hub.oneWord_keeps (bears_canon 0x8000000000000000000000000000000000ff87fffffffffffb9fe00000000000c001ffb00003010101010007000d030701a3030300010f03000000010001ffff) (Sub.refl _) H

theorem Hub.agentGo_canon {h : Hub} {src : ℕ} {tok : ℕ} {addr : ℕ} {count : ℕ} {ws : Option (List ℕ)} (H : Hub.Canon h) : Hub.Canon (Hub.agentGo h src tok addr count ws) :=
  Hub.agentGo_keeps (bears_canon 0x8000000000000000000000000000000000ff87fffffffffffb9fe00000000000c001ffb00003010101010007000d030701a3030300010f03000000010001ffff) (Sub.refl _) H

theorem Hub.lockLoss_canon {h : Hub} {l : ℕ} (H : Hub.Canon h) : Hub.Canon (Hub.lockLoss h l) :=
  Hub.lockLoss_keeps (bears_canon 0xb987aa80200000000000c00060100000000000000000000000000001030200010f030000000100014402) (Sub.refl _) H

theorem Hub.lockLoss_same {h : Hub} {l : ℕ} : Hub.Same 0xb987aa80200000000000c00060100000000000000000000000000001030200010f030000000100014402 h (Hub.lockLoss h l) :=
  Hub.lockLoss_keeps (bears_same 0xb987aa80200000000000c00060100000000000000000000000000001030200010f030000000100014402 h) (Sub.refl _) (fun _ => Hub.Same.refl _ _) (by decide)

theorem Hub.amIn_canon {h : Hub} {l : ℕ} {block : ℕ} {inPlace : Bool} {lag : ℕ} (H : Hub.Canon h) : Hub.Canon (Hub.amIn h l block inPlace lag) :=
  Hub.amIn_keeps (bears_canon 0xb987aa80200000000000c00060100000000000000000000000000001030200010f030000000100014402) (Sub.refl _) H

theorem Hub.amIn_same {h : Hub} {l : ℕ} {block : ℕ} {inPlace : Bool} {lag : ℕ} : Hub.Same 0xb987aa80200000000000c00060100000000000000000000000000001030200010f030000000100014402 h (Hub.amIn h l block inPlace lag) :=
  Hub.amIn_keeps (bears_same 0xb987aa80200000000000c00060100000000000000000000000000001030200010f030000000100014402 h) (Sub.refl _) (fun _ => Hub.Same.refl _ _) (by decide)

theorem Hub.endChange_canon {h : Hub} {g : ℕ} (H : Hub.Canon h) : Hub.Canon (Hub.endChange h g) :=
  Hub.endChange_keeps (bears_canon 0x1800000000000000000000000000000000000000000000000000000000000000000000000000000000) (Sub.refl _) H

theorem Hub.endChange_same {h : Hub} {g : ℕ} : Hub.Same 0x1800000000000000000000000000000000000000000000000000000000000000000000000000000000 h (Hub.endChange h g) :=
  Hub.endChange_keeps (bears_same 0x1800000000000000000000000000000000000000000000000000000000000000000000000000000000 h) (Sub.refl _) (fun _ => Hub.Same.refl _ _) (by decide)

theorem Hub.endChange_rd {h : Hub} {g : ℕ} {F : Fld} {iF bF : Nat} (eF : Nat.testBit 0x1800000000000000000000000000000000000000000000000000000000000000000000000000000000 F.kind = false) :
    Hub.rd (Hub.endChange h g) F iF bF = Hub.rd h F iF bF :=
  Hub.endChange_same.rd (by decide) F iF bF eF

theorem Hub.recordLegs_canon {h : Hub} {c : Change} (H : Hub.Canon h) : Hub.Canon (Hub.recordLegs h c) :=
  Hub.recordLegs_keeps (bears_canon 0x4000000000000000000000000000000000000000000000000000000000000000000000000000000000000000000000) (Sub.refl _) H

theorem Hub.recordLegs_same {h : Hub} {c : Change} : Hub.Same 0x4000000000000000000000000000000000000000000000000000000000000000000000000000000000000000000000 h (Hub.recordLegs h c) :=
  Hub.recordLegs_keeps (bears_same 0x4000000000000000000000000000000000000000000000000000000000000000000000000000000000000000000000 h) (Sub.refl _) (fun _ => Hub.Same.refl _ _) (by decide)

theorem Hub.recordLegs_rd {h : Hub} {c : Change} {F : Fld} {iF bF : Nat} (eF : Nat.testBit 0x4000000000000000000000000000000000000000000000000000000000000000000000000000000000000000000000 F.kind = false) :
    Hub.rd (Hub.recordLegs h c) F iF bF = Hub.rd h F iF bF :=
  Hub.recordLegs_same.rd (by decide) F iF bF eF

theorem Hub.drawTid_canon {h : Hub} {avoid : List ℕ} (H : Hub.Canon h) : Hub.Canon (Hub.drawTid h avoid).2 :=
  Hub.drawTid_keeps (bears_canon 0x800000000000000000000000000000000000000000000000000000000000000000000000000000) (Sub.refl _) H

theorem Hub.drawTid_same {h : Hub} {avoid : List ℕ} : Hub.Same 0x800000000000000000000000000000000000000000000000000000000000000000000000000000 h (Hub.drawTid h avoid).2 :=
  Hub.drawTid_keeps (bears_same 0x800000000000000000000000000000000000000000000000000000000000000000000000000000 h) (Sub.refl _) (fun _ => Hub.Same.refl _ _) (by decide)

theorem Hub.drawTid_rd {h : Hub} {avoid : List ℕ} {F : Fld} {iF bF : Nat} (eF : Nat.testBit 0x800000000000000000000000000000000000000000000000000000000000000000000000000000 F.kind = false) :
    Hub.rd (Hub.drawTid h avoid).2 F iF bF = Hub.rd h F iF bF :=
  Hub.drawTid_same.rd (by decide) F iF bF eF

theorem Hub.renamed_canon {h : Hub} {ls : List Leg} (H : Hub.Canon h) : Hub.Canon (Hub.renamed h ls).2 :=
  Hub.renamed_keeps (bears_canon 0x800000000000000000000000000000000000000000000000000000000000000000000000000000) (Sub.refl _) H

theorem Hub.renamed_same {h : Hub} {ls : List Leg} : Hub.Same 0x800000000000000000000000000000000000000000000000000000000000000000000000000000 h (Hub.renamed h ls).2 :=
  Hub.renamed_keeps (bears_same 0x800000000000000000000000000000000000000000000000000000000000000000000000000000 h) (Sub.refl _) (fun _ => Hub.Same.refl _ _) (by decide)

theorem Hub.renamed_rd {h : Hub} {ls : List Leg} {F : Fld} {iF bF : Nat} (eF : Nat.testBit 0x800000000000000000000000000000000000000000000000000000000000000000000000000000 F.kind = false) :
    Hub.rd (Hub.renamed h ls).2 F iF bF = Hub.rd h F iF bF :=
  Hub.renamed_same.rd (by decide) F iF bF eF

theorem Hub.numbered_canon {h : Hub} {x : List Leg} (H : Hub.Canon h) : Hub.Canon (h.numbered x).2 :=
  Hub.numbered_keeps (bears_canon 0x100000000000000000000000000) (Sub.refl _) H

theorem Hub.numbered_same {h : Hub} {x : List Leg} : Hub.Same 0x100000000000000000000000000 h (h.numbered x).2 :=
  Hub.numbered_keeps (bears_same 0x100000000000000000000000000 h) (Sub.refl _) (fun _ => Hub.Same.refl _ _) (by decide)

theorem Hub.numbered_rd {h : Hub} {x : List Leg} {F : Fld} {iF bF : Nat} (eF : Nat.testBit 0x100000000000000000000000000 F.kind = false) :
    Hub.rd (h.numbered x).2 F iF bF = Hub.rd h F iF bF :=
  Hub.numbered_same.rd (by decide) F iF bF eF

theorem Hub.sendStep_canon {h : Hub} {g : ℕ} {c : Change} (H : Hub.Canon h) : Hub.Canon (Hub.sendStep h g c) :=
  Hub.sendStep_keeps (bears_canon 0x1808000000000000000000000000000000000000000000000000000000000000010000000000000000) (Sub.refl _) H

theorem Hub.sendStep_same {h : Hub} {g : ℕ} {c : Change} : Hub.Same 0x1808000000000000000000000000000000000000000000000000000000000000010000000000000000 h (Hub.sendStep h g c) :=
  Hub.sendStep_keeps (bears_same 0x1808000000000000000000000000000000000000000000000000000000000000010000000000000000 h) (Sub.refl _) (fun _ => Hub.Same.refl _ _) (by decide)

theorem Hub.sendStep_rd {h : Hub} {g : ℕ} {c : Change} {F : Fld} {iF bF : Nat} (eF : Nat.testBit 0x1808000000000000000000000000000000000000000000000000000000000000010000000000000000 F.kind = false) :
    Hub.rd (Hub.sendStep h g c) F iF bF = Hub.rd h F iF bF :=
  Hub.sendStep_same.rd (by decide) F iF bF eF

theorem Hub.openChange_canon {h : Hub} {c : Change} (H : Hub.Canon h) : Hub.Canon (Hub.openChange h c) :=
  Hub.openChange_keeps (bears_canon 0x1808000000000000000000000000000000000000000000000000000000000000010000000000000000) (Sub.refl _) H

theorem Hub.openChange_same {h : Hub} {c : Change} : Hub.Same 0x1808000000000000000000000000000000000000000000000000000000000000010000000000000000 h (Hub.openChange h c) :=
  Hub.openChange_keeps (bears_same 0x1808000000000000000000000000000000000000000000000000000000000000010000000000000000 h) (Sub.refl _) (fun _ => Hub.Same.refl _ _) (by decide)

theorem Hub.openChange_rd {h : Hub} {c : Change} {F : Fld} {iF bF : Nat} (eF : Nat.testBit 0x1808000000000000000000000000000000000000000000000000000000000000010000000000000000 F.kind = false) :
    Hub.rd (Hub.openChange h c) F iF bF = Hub.rd h F iF bF :=
  Hub.openChange_same.rd (by decide) F iF bF eF

theorem Hub.beginSetup_canon {h : Hub} {legs : List Leg} {moves : List (ℕ × ℕ × ℕ)} {old : Option ℕ} (H : Hub.Canon h) : Hub.Canon (Hub.beginSetup h legs moves old) :=
  Hub.beginSetup_keeps (bears_canon 0x1808000000000000000000000000000000000000000000000000000100000000010000000000000000) (Sub.refl _) H

theorem Hub.beginSetup_same {h : Hub} {legs : List Leg} {moves : List (ℕ × ℕ × ℕ)} {old : Option ℕ} : Hub.Same 0x1808000000000000000000000000000000000000000000000000000100000000010000000000000000 h (Hub.beginSetup h legs moves old) :=
  Hub.beginSetup_keeps (bears_same 0x1808000000000000000000000000000000000000000000000000000100000000010000000000000000 h) (Sub.refl _) (fun _ => Hub.Same.refl _ _) (by decide)

theorem Hub.beginSetup_rd {h : Hub} {legs : List Leg} {moves : List (ℕ × ℕ × ℕ)} {old : Option ℕ} {F : Fld} {iF bF : Nat} (eF : Nat.testBit 0x1808000000000000000000000000000000000000000000000000000100000000010000000000000000 F.kind = false) :
    Hub.rd (Hub.beginSetup h legs moves old) F iF bF = Hub.rd h F iF bF :=
  Hub.beginSetup_same.rd (by decide) F iF bF eF

theorem Hub.beginTear_canon {h : Hub} {tid : ℕ} (H : Hub.Canon h) : Hub.Canon (Hub.beginTear h tid) :=
  Hub.beginTear_keeps (bears_canon 0x1808000000000000000000000000000000000000000000000000000100000000010000000000000000) (Sub.refl _) H

theorem Hub.beginTear_same {h : Hub} {tid : ℕ} : Hub.Same 0x1808000000000000000000000000000000000000000000000000000100000000010000000000000000 h (Hub.beginTear h tid) :=
  Hub.beginTear_keeps (bears_same 0x1808000000000000000000000000000000000000000000000000000100000000010000000000000000 h) (Sub.refl _) (fun _ => Hub.Same.refl _ _) (by decide)

theorem Hub.beginTear_rd {h : Hub} {tid : ℕ} {F : Fld} {iF bF : Nat} (eF : Nat.testBit 0x1808000000000000000000000000000000000000000000000000000100000000010000000000000000 F.kind = false) :
    Hub.rd (Hub.beginTear h tid) F iF bF = Hub.rd h F iF bF :=
  Hub.beginTear_same.rd (by decide) F iF bF eF

theorem Hub.finish_canon {h : Hub} {g : ℕ} {c : Change} (H : Hub.Canon h) : Hub.Canon (Hub.finish h g c) :=
  Hub.finish_keeps (bears_canon 0x4000000000001808800000000000000000000000000000000000000000000000000100000000010000000000000000) (Sub.refl _) H

theorem Hub.finish_same {h : Hub} {g : ℕ} {c : Change} : Hub.Same 0x4000000000001808800000000000000000000000000000000000000000000000000100000000010000000000000000 h (Hub.finish h g c) :=
  Hub.finish_keeps (bears_same 0x4000000000001808800000000000000000000000000000000000000000000000000100000000010000000000000000 h) (Sub.refl _) (fun _ => Hub.Same.refl _ _) (by decide)

theorem Hub.finish_rd {h : Hub} {g : ℕ} {c : Change} {F : Fld} {iF bF : Nat} (eF : Nat.testBit 0x4000000000001808800000000000000000000000000000000000000000000000000100000000010000000000000000 F.kind = false) :
    Hub.rd (Hub.finish h g c) F iF bF = Hub.rd h F iF bF :=
  Hub.finish_same.rd (by decide) F iF bF eF

theorem Hub.startStep_canon {h : Hub} {g : ℕ} {c : Change} (H : Hub.Canon h) : Hub.Canon (Hub.startStep h g c) :=
  Hub.startStep_keeps (bears_canon 0x4000000000001808800000000000000000000000000000000000000000000000000100000000010000000000000000) (Sub.refl _) H

theorem Hub.startStep_same {h : Hub} {g : ℕ} {c : Change} : Hub.Same 0x4000000000001808800000000000000000000000000000000000000000000000000100000000010000000000000000 h (Hub.startStep h g c) :=
  Hub.startStep_keeps (bears_same 0x4000000000001808800000000000000000000000000000000000000000000000000100000000010000000000000000 h) (Sub.refl _) (fun _ => Hub.Same.refl _ _) (by decide)

theorem Hub.startStep_rd {h : Hub} {g : ℕ} {c : Change} {F : Fld} {iF bF : Nat} (eF : Nat.testBit 0x4000000000001808800000000000000000000000000000000000000000000000000100000000010000000000000000 F.kind = false) :
    Hub.rd (Hub.startStep h g c) F iF bF = Hub.rd h F iF bF :=
  Hub.startStep_same.rd (by decide) F iF bF eF

theorem Hub.undoBy_canon {h : Hub} {g : ℕ} {c : Change} {steps : List ChgStep} (H : Hub.Canon h) : Hub.Canon (Hub.undoBy h g c steps) :=
  Hub.undoBy_keeps (bears_canon 0x4000000000001808800000000000000000000000000000000000000000000000000100000000010000000000000000) (Sub.refl _) H

theorem Hub.undoBy_same {h : Hub} {g : ℕ} {c : Change} {steps : List ChgStep} : Hub.Same 0x4000000000001808800000000000000000000000000000000000000000000000000100000000010000000000000000 h (Hub.undoBy h g c steps) :=
  Hub.undoBy_keeps (bears_same 0x4000000000001808800000000000000000000000000000000000000000000000000100000000010000000000000000 h) (Sub.refl _) (fun _ => Hub.Same.refl _ _) (by decide)

theorem Hub.undoBy_rd {h : Hub} {g : ℕ} {c : Change} {steps : List ChgStep} {F : Fld} {iF bF : Nat} (eF : Nat.testBit 0x4000000000001808800000000000000000000000000000000000000000000000000100000000010000000000000000 F.kind = false) :
    Hub.rd (Hub.undoBy h g c steps) F iF bF = Hub.rd h F iF bF :=
  Hub.undoBy_same.rd (by decide) F iF bF eF

theorem Hub.failChange_canon {h : Hub} {g : ℕ} {c : Change} {typ : ℕ} (H : Hub.Canon h) : Hub.Canon (Hub.failChange h g c typ) :=
  Hub.failChange_keeps (bears_canon 0x4000000000001808800000000000000000000000000000000000000000000000000100000000010000000000000000) (Sub.refl _) H

theorem Hub.failChange_same {h : Hub} {g : ℕ} {c : Change} {typ : ℕ} : Hub.Same 0x4000000000001808800000000000000000000000000000000000000000000000000100000000010000000000000000 h (Hub.failChange h g c typ) :=
  Hub.failChange_keeps (bears_same 0x4000000000001808800000000000000000000000000000000000000000000000000100000000010000000000000000 h) (Sub.refl _) (fun _ => Hub.Same.refl _ _) (by decide)

theorem Hub.failChange_rd {h : Hub} {g : ℕ} {c : Change} {typ : ℕ} {F : Fld} {iF bF : Nat} (eF : Nat.testBit 0x4000000000001808800000000000000000000000000000000000000000000000000100000000010000000000000000 F.kind = false) :
    Hub.rd (Hub.failChange h g c typ) F iF bF = Hub.rd h F iF bF :=
  Hub.failChange_same.rd (by decide) F iF bF eF

theorem Hub.answered_canon {h : Hub} {g : ℕ} {hop : ℕ} {tid : ℕ} {typ : ℕ} {status : ℕ} (H : Hub.Canon h) : Hub.Canon (Hub.answered h g hop tid typ status) :=
  Hub.answered_keeps (bears_canon 0x4000000000001808800000000000000000000000000000000000000000000000000100000000010000000000000000) (Sub.refl _) H

theorem Hub.answered_same {h : Hub} {g : ℕ} {hop : ℕ} {tid : ℕ} {typ : ℕ} {status : ℕ} : Hub.Same 0x4000000000001808800000000000000000000000000000000000000000000000000100000000010000000000000000 h (Hub.answered h g hop tid typ status) :=
  Hub.answered_keeps (bears_same 0x4000000000001808800000000000000000000000000000000000000000000000000100000000010000000000000000 h) (Sub.refl _) (fun _ => Hub.Same.refl _ _) (by decide)

theorem Hub.answered_rd {h : Hub} {g : ℕ} {hop : ℕ} {tid : ℕ} {typ : ℕ} {status : ℕ} {F : Fld} {iF bF : Nat} (eF : Nat.testBit 0x4000000000001808800000000000000000000000000000000000000000000000000100000000010000000000000000 F.kind = false) :
    Hub.rd (Hub.answered h g hop tid typ status) F iF bF = Hub.rd h F iF bF :=
  Hub.answered_same.rd (by decide) F iF bF eF

theorem Hub.applyPreset_canon {l : ℕ} {h : Hub} (H : Hub.Canon h) : Hub.Canon (Hub.applyPreset l h) :=
  Hub.applyPreset_keeps (bears_canon 0x100000000) (Sub.refl _) H

theorem Hub.applyPreset_same {l : ℕ} {h : Hub} : Hub.Same 0x100000000 h (Hub.applyPreset l h) :=
  Hub.applyPreset_keeps (bears_same 0x100000000 h) (Sub.refl _) (fun _ => Hub.Same.refl _ _) (by decide)

theorem Hub.applyPreset_rd {l : ℕ} {h : Hub} {F : Fld} {iF bF : Nat} (eF : Nat.testBit 0x100000000 F.kind = false) :
    Hub.rd (Hub.applyPreset l h) F iF bF = Hub.rd h F iF bF :=
  Hub.applyPreset_same.rd (by decide) F iF bF eF

theorem Hub.applySet_canon {h : Hub} {p : ℕ} {m : ℕ} (H : Hub.Canon h) : Hub.Canon (Hub.applySet h p m) :=
  Hub.applySet_keeps (bears_canon 0xa80200000000000c000201000000000000000000000000000010002000000030000000100010402) (Sub.refl _) H

theorem Hub.applySet_same {h : Hub} {p : ℕ} {m : ℕ} : Hub.Same 0xa80200000000000c000201000000000000000000000000000010002000000030000000100010402 h (Hub.applySet h p m) :=
  Hub.applySet_keeps (bears_same 0xa80200000000000c000201000000000000000000000000000010002000000030000000100010402 h) (Sub.refl _) (fun _ => Hub.Same.refl _ _) (by decide)

theorem Hub.casPortUp_canon {h : Hub} {p : ℕ} (H : Hub.Canon h) : Hub.Canon (Hub.casPortUp h p) :=
  Hub.casPortUp_keeps (bears_canon 0x8008000000000000000000000000000000000000000000000000000100000000010000000000000000) (Sub.refl _) H

theorem Hub.casPortUp_same {h : Hub} {p : ℕ} : Hub.Same 0x8008000000000000000000000000000000000000000000000000000100000000010000000000000000 h (Hub.casPortUp h p) :=
  Hub.casPortUp_keeps (bears_same 0x8008000000000000000000000000000000000000000000000000000100000000010000000000000000 h) (Sub.refl _) (fun _ => Hub.Same.refl _ _) (by decide)

theorem Hub.casPortUp_rd {h : Hub} {p : ℕ} {F : Fld} {iF bF : Nat} (eF : Nat.testBit 0x8008000000000000000000000000000000000000000000000000000100000000010000000000000000 F.kind = false) :
    Hub.rd (Hub.casPortUp h p) F iF bF = Hub.rd h F iF bF :=
  Hub.casPortUp_same.rd (by decide) F iF bF eF

theorem Hub.goUp_canon {h : Hub} {p : ℕ} (H : Hub.Canon h) : Hub.Canon (Hub.goUp h p) :=
  Hub.goUp_keeps (bears_canon 0x800a800000000000004000200000000000000000000000000000010102000000030000000000004400) (Sub.refl _) H

theorem Hub.goUp_same {h : Hub} {p : ℕ} : Hub.Same 0x800a800000000000004000200000000000000000000000000000010102000000030000000000004400 h (Hub.goUp h p) :=
  Hub.goUp_keeps (bears_same 0x800a800000000000004000200000000000000000000000000000010102000000030000000000004400 h) (Sub.refl _) (fun _ => Hub.Same.refl _ _) (by decide)

theorem Hub.goUp_rd {h : Hub} {p : ℕ} {F : Fld} {iF bF : Nat} (eF : Nat.testBit 0x800a800000000000004000200000000000000000000000000000010102000000030000000000004400 F.kind = false) :
    Hub.rd (Hub.goUp h p) F iF bF = Hub.rd h F iF bF :=
  Hub.goUp_same.rd (by decide) F iF bF eF

theorem Hub.armed_canon {h : Hub} {p : ℕ} (H : Hub.Canon h) : Hub.Canon (Hub.armed h p) :=
  Hub.armed_keeps (bears_canon 0x800a800000000000004000200000000000000000000000000000010102000000030000000000004400) (Sub.refl _) H

theorem Hub.armed_same {h : Hub} {p : ℕ} : Hub.Same 0x800a800000000000004000200000000000000000000000000000010102000000030000000000004400 h (Hub.armed h p) :=
  Hub.armed_keeps (bears_same 0x800a800000000000004000200000000000000000000000000000010102000000030000000000004400 h) (Sub.refl _) (fun _ => Hub.Same.refl _ _) (by decide)

theorem Hub.armed_rd {h : Hub} {p : ℕ} {F : Fld} {iF bF : Nat} (eF : Nat.testBit 0x800a800000000000004000200000000000000000000000000000010102000000030000000000004400 F.kind = false) :
    Hub.rd (Hub.armed h p) F iF bF = Hub.rd h F iF bF :=
  Hub.armed_same.rd (by decide) F iF bF eF

theorem Hub.authStore_canon {h : Hub} {at_ : ℕ} {bs : Bytes} (H : Hub.Canon h) : Hub.Canon (Hub.authStore h at_ bs) :=
  Hub.authStore_keeps (bears_canon 0x2000) (Sub.refl _) H

theorem Hub.authStore_same {h : Hub} {at_ : ℕ} {bs : Bytes} : Hub.Same 0x2000 h (Hub.authStore h at_ bs) :=
  Hub.authStore_keeps (bears_same 0x2000 h) (Sub.refl _) (fun _ => Hub.Same.refl _ _) (by decide)

theorem Hub.authStore_rd {h : Hub} {at_ : ℕ} {bs : Bytes} {F : Fld} {iF bF : Nat} (eF : Nat.testBit 0x2000 F.kind = false) :
    Hub.rd (Hub.authStore h at_ bs) F iF bF = Hub.rd h F iF bF :=
  Hub.authStore_same.rd (by decide) F iF bF eF

theorem Hub.autoOn_canon {n : ℕ} {h : Hub} (H : Hub.Canon h) : Hub.Canon (Hub.autoOn n h) :=
  Hub.autoOn_keeps (bears_canon 0x4000002000000101010100000000000000000000000000000000000000000000) (Sub.refl _) H

theorem Hub.autoOn_same {n : ℕ} {h : Hub} : Hub.Same 0x4000002000000101010100000000000000000000000000000000000000000000 h (Hub.autoOn n h) :=
  Hub.autoOn_keeps (bears_same 0x4000002000000101010100000000000000000000000000000000000000000000 h) (Sub.refl _) (fun _ => Hub.Same.refl _ _) (by decide)

theorem Hub.autoOn_rd {n : ℕ} {h : Hub} {F : Fld} {iF bF : Nat} (eF : Nat.testBit 0x4000002000000101010100000000000000000000000000000000000000000000 F.kind = false) :
    Hub.rd (Hub.autoOn n h) F iF bF = Hub.rd h F iF bF :=
  Hub.autoOn_same.rd (by decide) F iF bF eF

theorem Hub.auxEnd_canon {h : Hub} {n : ℕ} {ok : Bool} {reply : ℕ} {bytes : ℕ} {data : Bytes} (H : Hub.Canon h) : Hub.Canon (Hub.auxEnd h n ok reply bytes data) :=
  Hub.auxEnd_keeps (bears_canon 0x2800000000000004000000000000000000000000000000001010000000000000000000000000400) (Sub.refl _) H

theorem Hub.auxEnd_same {h : Hub} {n : ℕ} {ok : Bool} {reply : ℕ} {bytes : ℕ} {data : Bytes} : Hub.Same 0x2800000000000004000000000000000000000000000000001010000000000000000000000000400 h (Hub.auxEnd h n ok reply bytes data) :=
  Hub.auxEnd_keeps (bears_same 0x2800000000000004000000000000000000000000000000001010000000000000000000000000400 h) (Sub.refl _) (fun _ => Hub.Same.refl _ _) (by decide)

theorem Hub.auxEnd_rd {h : Hub} {n : ℕ} {ok : Bool} {reply : ℕ} {bytes : ℕ} {data : Bytes} {F : Fld} {iF bF : Nat} (eF : Nat.testBit 0x2800000000000004000000000000000000000000000000001010000000000000000000000000400 F.kind = false) :
    Hub.rd (Hub.auxEnd h n ok reply bytes data) F iF bF = Hub.rd h F iF bF :=
  Hub.auxEnd_same.rd (by decide) F iF bF eF

theorem Hub.backUp_canon {h : Hub} {p : ℕ} (H : Hub.Canon h) : Hub.Canon (Hub.backUp h p) :=
  Hub.backUp_keeps (bears_canon 0x800a800000000000004000200000000000000000000000000000010102000000030000000000014400) (Sub.refl _) H

theorem Hub.backUp_same {h : Hub} {p : ℕ} : Hub.Same 0x800a800000000000004000200000000000000000000000000000010102000000030000000000014400 h (Hub.backUp h p) :=
  Hub.backUp_keeps (bears_same 0x800a800000000000004000200000000000000000000000000000010102000000030000000000014400 h) (Sub.refl _) (fun _ => Hub.Same.refl _ _) (by decide)

theorem Hub.backUp_rd {h : Hub} {p : ℕ} {F : Fld} {iF bF : Nat} (eF : Nat.testBit 0x800a800000000000004000200000000000000000000000000000010102000000030000000000014400 F.kind = false) :
    Hub.rd (Hub.backUp h p) F iF bF = Hub.rd h F iF bF :=
  Hub.backUp_same.rd (by decide) F iF bF eF

theorem Hub.badOp_canon {h : Hub} (H : Hub.Canon h) : Hub.Canon (Hub.badOp h) :=
  Hub.badOp_keeps (bears_canon 0x2800000000000004000000000000000000000000000000100010000000000000000000000000400) (Sub.refl _) H

theorem Hub.badOp_same {h : Hub} : Hub.Same 0x2800000000000004000000000000000000000000000000100010000000000000000000000000400 h (Hub.badOp h) :=
  Hub.badOp_keeps (bears_same 0x2800000000000004000000000000000000000000000000100010000000000000000000000000400 h) (Sub.refl _) (fun _ => Hub.Same.refl _ _) (by decide)

theorem Hub.badOp_rd {h : Hub} {F : Fld} {iF bF : Nat} (eF : Nat.testBit 0x2800000000000004000000000000000000000000000000100010000000000000000000000000400 F.kind = false) :
    Hub.rd (Hub.badOp h) F iF bF = Hub.rd h F iF bF :=
  Hub.badOp_same.rd (by decide) F iF bF eF

theorem Hub.countOps_canon {h : Hub} {n : ℕ} (H : Hub.Canon h) : Hub.Canon (Hub.countOps h n) :=
  Hub.countOps_keeps (bears_canon 0x4) (Sub.refl _) H

theorem Hub.countOps_same {h : Hub} {n : ℕ} : Hub.Same 0x4 h (Hub.countOps h n) :=
  Hub.countOps_keeps (bears_same 0x4 h) (Sub.refl _) (fun _ => Hub.Same.refl _ _) (by decide)

theorem Hub.countOps_rd {h : Hub} {n : ℕ} {F : Fld} {iF bF : Nat} (eF : Nat.testBit 0x4 F.kind = false) :
    Hub.rd (Hub.countOps h n) F iF bF = Hub.rd h F iF bF :=
  Hub.countOps_same.rd (by decide) F iF bF eF

theorem Hub.bankOp_canon {b : ℕ} {h : Hub} (H : Hub.Canon h) : Hub.Canon (Hub.bankOp b h) :=
  Hub.bankOp_keeps (bears_canon 0x1000000000000000004) (Sub.refl _) H

theorem Hub.bankOp_same {b : ℕ} {h : Hub} : Hub.Same 0x1000000000000000004 h (Hub.bankOp b h) :=
  Hub.bankOp_keeps (bears_same 0x1000000000000000004 h) (Sub.refl _) (fun _ => Hub.Same.refl _ _) (by decide)

theorem Hub.bankOp_rd {b : ℕ} {h : Hub} {F : Fld} {iF bF : Nat} (eF : Nat.testBit 0x1000000000000000004 F.kind = false) :
    Hub.rd (Hub.bankOp b h) F iF bF = Hub.rd h F iF bF :=
  Hub.bankOp_same.rd (by decide) F iF bF eF

theorem Hub.blowOem_canon {h : Hub} {content : Bytes} (H : Hub.Canon h) : Hub.Canon (Hub.blowOem h content) :=
  Hub.blowOem_keeps (bears_canon 0x20000000000000000000000000000000008000000000000000000000000000000000000000000000000000000000) (Sub.refl _) H

theorem Hub.blowOem_same {h : Hub} {content : Bytes} : Hub.Same 0x20000000000000000000000000000000008000000000000000000000000000000000000000000000000000000000 h (Hub.blowOem h content) :=
  Hub.blowOem_keeps (bears_same 0x20000000000000000000000000000000008000000000000000000000000000000000000000000000000000000000 h) (Sub.refl _) (fun _ => Hub.Same.refl _ _) (by decide)

theorem Hub.blowOem_rd {h : Hub} {content : Bytes} {F : Fld} {iF bF : Nat} (eF : Nat.testBit 0x20000000000000000000000000000000008000000000000000000000000000000000000000000000000000000000 F.kind = false) :
    Hub.rd (Hub.blowOem h content) F iF bF = Hub.rd h F iF bF :=
  Hub.blowOem_same.rd (by decide) F iF bF eF

theorem Hub.bdecDone_canon {h : Hub} (H : Hub.Canon h) : Hub.Canon (Hub.bdecDone h) :=
  Hub.bdecDone_keeps (bears_canon 0x220000000000000000000000000000000008000000000000000000000000000000000000000000000000000008000) (Sub.refl _) H

theorem Hub.bdecDone_same {h : Hub} : Hub.Same 0x220000000000000000000000000000000008000000000000000000000000000000000000000000000000000008000 h (Hub.bdecDone h) :=
  Hub.bdecDone_keeps (bears_same 0x220000000000000000000000000000000008000000000000000000000000000000000000000000000000000008000 h) (Sub.refl _) (fun _ => Hub.Same.refl _ _) (by decide)

theorem Hub.bdecDone_rd {h : Hub} {F : Fld} {iF bF : Nat} (eF : Nat.testBit 0x220000000000000000000000000000000008000000000000000000000000000000000000000000000000000008000 F.kind = false) :
    Hub.rd (Hub.bdecDone h) F iF bF = Hub.rd h F iF bF :=
  Hub.bdecDone_same.rd (by decide) F iF bF eF

theorem Hub.beaconIn_canon {h : Hub} {l : ℕ} (H : Hub.Canon h) : Hub.Canon (Hub.beaconIn h l) :=
  Hub.beaconIn_keeps (bears_canon 0x40000280200000000000c00002100000000000000000000001010001000000000000000000010001041a) (Sub.refl _) H

theorem Hub.beaconIn_same {h : Hub} {l : ℕ} : Hub.Same 0x40000280200000000000c00002100000000000000000000001010001000000000000000000010001041a h (Hub.beaconIn h l) :=
  Hub.beaconIn_keeps (bears_same 0x40000280200000000000c00002100000000000000000000001010001000000000000000000010001041a h) (Sub.refl _) (fun _ => Hub.Same.refl _ _) (by decide)

theorem Hub.beginAmount_canon {h : Hub} {tid : ℕ} {ct : ℕ} (H : Hub.Canon h) : Hub.Canon (Hub.beginAmount h tid ct) :=
  Hub.beginAmount_keeps (bears_canon 0x1808000000000000000000000000000000000000000000000000000100000000010000000000000000) (Sub.refl _) H

theorem Hub.beginAmount_same {h : Hub} {tid : ℕ} {ct : ℕ} : Hub.Same 0x1808000000000000000000000000000000000000000000000000000100000000010000000000000000 h (Hub.beginAmount h tid ct) :=
  Hub.beginAmount_keeps (bears_same 0x1808000000000000000000000000000000000000000000000000000100000000010000000000000000 h) (Sub.refl _) (fun _ => Hub.Same.refl _ _) (by decide)

theorem Hub.beginAmount_rd {h : Hub} {tid : ℕ} {ct : ℕ} {F : Fld} {iF bF : Nat} (eF : Nat.testBit 0x1808000000000000000000000000000000000000000000000000000100000000010000000000000000 F.kind = false) :
    Hub.rd (Hub.beginAmount h tid ct) F iF bF = Hub.rd h F iF bF :=
  Hub.beginAmount_same.rd (by decide) F iF bF eF

theorem Hub.blockFail_canon {h : Hub} {code : ℕ} (H : Hub.Canon h) : Hub.Canon (Hub.blockFail h code) :=
  Hub.blockFail_keeps (bears_canon 0x2800000000000004000000000000000000000000000000000010000000000000000000000008400) (Sub.refl _) H

theorem Hub.blockFail_same {h : Hub} {code : ℕ} : Hub.Same 0x2800000000000004000000000000000000000000000000000010000000000000000000000008400 h (Hub.blockFail h code) :=
  Hub.blockFail_keeps (bears_same 0x2800000000000004000000000000000000000000000000000010000000000000000000000008400 h) (Sub.refl _) (fun _ => Hub.Same.refl _ _) (by decide)

theorem Hub.blockFail_rd {h : Hub} {code : ℕ} {F : Fld} {iF bF : Nat} (eF : Nat.testBit 0x2800000000000004000000000000000000000000000000000010000000000000000000000008400 F.kind = false) :
    Hub.rd (Hub.blockFail h code) F iF bF = Hub.rd h F iF bF :=
  Hub.blockFail_same.rd (by decide) F iF bF eF

theorem Hub.program_canon {h : Hub} {area : ℕ} {off : ℕ} {bs : Bytes} (H : Hub.Canon h) : Hub.Canon (Hub.program h area off bs) :=
  Hub.program_keeps (bears_canon 0x40000000000000000000000000000000000000000000000000000000000000000000000000000000000000000000) (Sub.refl _) H

theorem Hub.program_same {h : Hub} {area : ℕ} {off : ℕ} {bs : Bytes} : Hub.Same 0x40000000000000000000000000000000000000000000000000000000000000000000000000000000000000000000 h (Hub.program h area off bs) :=
  Hub.program_keeps (bears_same 0x40000000000000000000000000000000000000000000000000000000000000000000000000000000000000000000 h) (Sub.refl _) (fun _ => Hub.Same.refl _ _) (by decide)

theorem Hub.program_rd {h : Hub} {area : ℕ} {off : ℕ} {bs : Bytes} {F : Fld} {iF bF : Nat} (eF : Nat.testBit 0x40000000000000000000000000000000000000000000000000000000000000000000000000000000000000000000 F.kind = false) :
    Hub.rd (Hub.program h area off bs) F iF bF = Hub.rd h F iF bF :=
  Hub.program_same.rd (by decide) F iF bF eF

theorem Hub.blockDone_canon {h : Hub} {flashOk : Bool} (H : Hub.Canon h) : Hub.Canon (Hub.blockDone h flashOk) :=
  Hub.blockDone_keeps (bears_canon 0x14000000000000280000000000000400010000000000000000000000000000001000000000000000000000000c400) (Sub.refl _) H

theorem Hub.blockDone_same {h : Hub} {flashOk : Bool} : Hub.Same 0x14000000000000280000000000000400010000000000000000000000000000001000000000000000000000000c400 h (Hub.blockDone h flashOk) :=
  Hub.blockDone_keeps (bears_same 0x14000000000000280000000000000400010000000000000000000000000000001000000000000000000000000c400 h) (Sub.refl _) (fun _ => Hub.Same.refl _ _) (by decide)

theorem Hub.blockDone_rd {h : Hub} {flashOk : Bool} {F : Fld} {iF bF : Nat} (eF : Nat.testBit 0x14000000000000280000000000000400010000000000000000000000000000001000000000000000000000000c400 F.kind = false) :
    Hub.rd (Hub.blockDone h flashOk) F iF bF = Hub.rd h F iF bF :=
  Hub.blockDone_same.rd (by decide) F iF bF eF

theorem Hub.setRoute_canon {h : Hub} {d : ℕ} {port : ℕ} {down : Bool} {valid : Bool} {tier : ℕ} {gen : ℕ} (H : Hub.Canon h) : Hub.Canon (Hub.setRoute h d port down valid tier gen) :=
  Hub.setRoute_keeps (bears_canon 0x8000000000000000000000000000000000000000000000000000000000000000000000000000) (Sub.refl _) H

theorem Hub.setRoute_same {h : Hub} {d : ℕ} {port : ℕ} {down : Bool} {valid : Bool} {tier : ℕ} {gen : ℕ} : Hub.Same 0x8000000000000000000000000000000000000000000000000000000000000000000000000000 h (Hub.setRoute h d port down valid tier gen) :=
  Hub.setRoute_keeps (bears_same 0x8000000000000000000000000000000000000000000000000000000000000000000000000000 h) (Sub.refl _) (fun _ => Hub.Same.refl _ _) (by decide)

theorem Hub.setRoute_rd {h : Hub} {d : ℕ} {port : ℕ} {down : Bool} {valid : Bool} {tier : ℕ} {gen : ℕ} {F : Fld} {iF bF : Nat} (eF : Nat.testBit 0x8000000000000000000000000000000000000000000000000000000000000000000000000000 F.kind = false) :
    Hub.rd (Hub.setRoute h d port down valid tier gen) F iF bF = Hub.rd h F iF bF :=
  Hub.setRoute_same.rd (by decide) F iF bF eF

theorem Hub.blockRoutes_canon {h : Hub} {port : ℕ} {first : ℕ} {size : ℕ} {tier : ℕ} {gen : ℕ} (H : Hub.Canon h) : Hub.Canon (Hub.blockRoutes h port first size tier gen) :=
  Hub.blockRoutes_keeps (bears_canon 0x8000000000000000000000000000000000000000000000000000000000000000000000000000) (Sub.refl _) H

theorem Hub.blockRoutes_same {h : Hub} {port : ℕ} {first : ℕ} {size : ℕ} {tier : ℕ} {gen : ℕ} : Hub.Same 0x8000000000000000000000000000000000000000000000000000000000000000000000000000 h (Hub.blockRoutes h port first size tier gen) :=
  Hub.blockRoutes_keeps (bears_same 0x8000000000000000000000000000000000000000000000000000000000000000000000000000 h) (Sub.refl _) (fun _ => Hub.Same.refl _ _) (by decide)

theorem Hub.blockRoutes_rd {h : Hub} {port : ℕ} {first : ℕ} {size : ℕ} {tier : ℕ} {gen : ℕ} {F : Fld} {iF bF : Nat} (eF : Nat.testBit 0x8000000000000000000000000000000000000000000000000000000000000000000000000000 F.kind = false) :
    Hub.rd (Hub.blockRoutes h port first size tier gen) F iF bF = Hub.rd h F iF bF :=
  Hub.blockRoutes_same.rd (by decide) F iF bF eF

theorem Hub.loadCfg_canon {h : Hub} (H : Hub.Canon h) : Hub.Canon h.loadCfg :=
  Hub.loadCfg_keeps (bears_canon 0x14000000000a80800000000000c000000000000101010100070000010300210000000002030000000100001d1f) (Sub.refl _) H

theorem Hub.loadCfg_same {h : Hub} : Hub.Same 0x14000000000a80800000000000c000000000000101010100070000010300210000000002030000000100001d1f h h.loadCfg :=
  Hub.loadCfg_keeps (bears_same 0x14000000000a80800000000000c000000000000101010100070000010300210000000002030000000100001d1f h) (Sub.refl _) (fun _ => Hub.Same.refl _ _) (by decide)

theorem Hub.bootBundle_canon {h : Hub} (H : Hub.Canon h) : Hub.Canon (Hub.bootBundle h) :=
  Hub.bootBundle_keeps (bears_canon 0x14000000000aa0800000000000c00000200000010101010007000001030021000000000203000000010000dd1f) (Sub.refl _) H

theorem Hub.bootBundle_same {h : Hub} : Hub.Same 0x14000000000aa0800000000000c00000200000010101010007000001030021000000000203000000010000dd1f h (Hub.bootBundle h) :=
  Hub.bootBundle_keeps (bears_same 0x14000000000aa0800000000000c00000200000010101010007000001030021000000000203000000010000dd1f h) (Sub.refl _) (fun _ => Hub.Same.refl _ _) (by decide)

theorem Hub.wipeStore_canon {h : Hub} (H : Hub.Canon h) : Hub.Canon (Hub.wipeStore h) :=
  Hub.wipeStore_keeps (bears_canon 0x58000000000004200000000000000000000000000000000000000000000000000000000000000000000000008c00) (Sub.refl _) H

theorem Hub.wipeStore_same {h : Hub} : Hub.Same 0x58000000000004200000000000000000000000000000000000000000000000000000000000000000000000008c00 h (Hub.wipeStore h) :=
  Hub.wipeStore_keeps (bears_same 0x58000000000004200000000000000000000000000000000000000000000000000000000000000000000000008c00 h) (Sub.refl _) (fun _ => Hub.Same.refl _ _) (by decide)

theorem Hub.wipeStore_rd {h : Hub} {F : Fld} {iF bF : Nat} (eF : Nat.testBit 0x58000000000004200000000000000000000000000000000000000000000000000000000000000000000000008c00 F.kind = false) :
    Hub.rd (Hub.wipeStore h) F iF bF = Hub.rd h F iF bF :=
  Hub.wipeStore_same.rd (by decide) F iF bF eF

theorem Hub.bootRoot_canon {h : Hub} {pufOk : Bool} {corr : ℕ} (H : Hub.Canon h) : Hub.Canon (Hub.bootRoot h pufOk corr) :=
  Hub.bootRoot_keeps (bears_canon 0x59000000000006a0000000000000400001000000000000000000000000000001000000000000000000000000cc00) (Sub.refl _) H

theorem Hub.bootRoot_same {h : Hub} {pufOk : Bool} {corr : ℕ} : Hub.Same 0x59000000000006a0000000000000400001000000000000000000000000000001000000000000000000000000cc00 h (Hub.bootRoot h pufOk corr) :=
  Hub.bootRoot_keeps (bears_same 0x59000000000006a0000000000000400001000000000000000000000000000001000000000000000000000000cc00 h) (Sub.refl _) (fun _ => Hub.Same.refl _ _) (by decide)

theorem Hub.bootRoot_rd {h : Hub} {pufOk : Bool} {corr : ℕ} {F : Fld} {iF bF : Nat} (eF : Nat.testBit 0x59000000000006a0000000000000400001000000000000000000000000000001000000000000000000000000cc00 F.kind = false) :
    Hub.rd (Hub.bootRoot h pufOk corr) F iF bF = Hub.rd h F iF bF :=
  Hub.bootRoot_same.rd (by decide) F iF bF eF

theorem Hub.enterRecovery_canon {h : Hub} {badRole : Bool} (H : Hub.Canon h) : Hub.Canon (Hub.enterRecovery h badRole) :=
  Hub.enterRecovery_keeps (bears_canon 0x2800000000000004000100000000000000000000000000000000000000000000000000000000400) (Sub.refl _) H

theorem Hub.enterRecovery_same {h : Hub} {badRole : Bool} : Hub.Same 0x2800000000000004000100000000000000000000000000000000000000000000000000000000400 h (Hub.enterRecovery h badRole) :=
  Hub.enterRecovery_keeps (bears_same 0x2800000000000004000100000000000000000000000000000000000000000000000000000000400 h) (Sub.refl _) (fun _ => Hub.Same.refl _ _) (by decide)

theorem Hub.enterRecovery_rd {h : Hub} {badRole : Bool} {F : Fld} {iF bF : Nat} (eF : Nat.testBit 0x2800000000000004000100000000000000000000000000000000000000000000000000000000400 F.kind = false) :
    Hub.rd (Hub.enterRecovery h badRole) F iF bF = Hub.rd h F iF bF :=
  Hub.enterRecovery_same.rd (by decide) F iF bF eF

theorem Hub.copyBank_canon {h : Hub} (H : Hub.Canon h) : Hub.Canon (Hub.copyBank h) :=
  Hub.copyBank_keeps (bears_canon 0x40000000000000000000000000000000000000000000000000000000000000000000000000000000000000000000) (Sub.refl _) H

theorem Hub.copyBank_same {h : Hub} : Hub.Same 0x40000000000000000000000000000000000000000000000000000000000000000000000000000000000000000000 h (Hub.copyBank h) :=
  Hub.copyBank_keeps (bears_same 0x40000000000000000000000000000000000000000000000000000000000000000000000000000000000000000000 h) (Sub.refl _) (fun _ => Hub.Same.refl _ _) (by decide)

theorem Hub.copyBank_rd {h : Hub} {F : Fld} {iF bF : Nat} (eF : Nat.testBit 0x40000000000000000000000000000000000000000000000000000000000000000000000000000000000000000000 F.kind = false) :
    Hub.rd (Hub.copyBank h) F iF bF = Hub.rd h F iF bF :=
  Hub.copyBank_same.rd (by decide) F iF bF eF

theorem Hub.bootCopy_canon {h : Hub} (H : Hub.Canon h) : Hub.Canon (Hub.bootCopy h) :=
  Hub.bootCopy_keeps (bears_canon 0x40000000000002800000000000004000000000000000000000000000000000010000000000000000000000008400) (Sub.refl _) H

theorem Hub.bootCopy_same {h : Hub} : Hub.Same 0x40000000000002800000000000004000000000000000000000000000000000010000000000000000000000008400 h (Hub.bootCopy h) :=
  Hub.bootCopy_keeps (bears_same 0x40000000000002800000000000004000000000000000000000000000000000010000000000000000000000008400 h) (Sub.refl _) (fun _ => Hub.Same.refl _ _) (by decide)

theorem Hub.bootCopy_rd {h : Hub} {F : Fld} {iF bF : Nat} (eF : Nat.testBit 0x40000000000002800000000000004000000000000000000000000000000000010000000000000000000000008400 F.kind = false) :
    Hub.rd (Hub.bootCopy h) F iF bF = Hub.rd h F iF bF :=
  Hub.bootCopy_same.rd (by decide) F iF bF eF

theorem Hub.firstStart_canon {h : Hub} (H : Hub.Canon h) : Hub.Canon (Hub.firstStart h) :=
  Hub.firstStart_keeps (bears_canon 0x20000000000000000000000000000000008000000000000000000000000000000000000000000000000000008000) (Sub.refl _) H

theorem Hub.firstStart_same {h : Hub} : Hub.Same 0x20000000000000000000000000000000008000000000000000000000000000000000000000000000000000008000 h (Hub.firstStart h) :=
  Hub.firstStart_keeps (bears_same 0x20000000000000000000000000000000008000000000000000000000000000000000000000000000000000008000 h) (Sub.refl _) (fun _ => Hub.Same.refl _ _) (by decide)

theorem Hub.firstStart_rd {h : Hub} {F : Fld} {iF bF : Nat} (eF : Nat.testBit 0x20000000000000000000000000000000008000000000000000000000000000000000000000000000000000008000 F.kind = false) :
    Hub.rd (Hub.firstStart h) F iF bF = Hub.rd h F iF bF :=
  Hub.firstStart_same.rd (by decide) F iF bF eF

theorem Hub.startFirmware_canon {h : Hub} {badRole : Bool} (H : Hub.Canon h) : Hub.Canon (Hub.startFirmware h badRole) :=
  Hub.startFirmware_keeps (bears_canon 0x20000000000002a0000000000000400000800000000000000000000000000000000000000000000000000000c400) (Sub.refl _) H

theorem Hub.startFirmware_same {h : Hub} {badRole : Bool} : Hub.Same 0x20000000000002a0000000000000400000800000000000000000000000000000000000000000000000000000c400 h (Hub.startFirmware h badRole) :=
  Hub.startFirmware_keeps (bears_same 0x20000000000002a0000000000000400000800000000000000000000000000000000000000000000000000000c400 h) (Sub.refl _) (fun _ => Hub.Same.refl _ _) (by decide)

theorem Hub.startFirmware_rd {h : Hub} {badRole : Bool} {F : Fld} {iF bF : Nat} (eF : Nat.testBit 0x20000000000002a0000000000000400000800000000000000000000000000000000000000000000000000000c400 F.kind = false) :
    Hub.rd (Hub.startFirmware h badRole) F iF bF = Hub.rd h F iF bF :=
  Hub.startFirmware_same.rd (by decide) F iF bF eF

theorem Hub.boot_canon {h : Hub} {pufOk : Bool} {corr : ℕ} (H : Hub.Canon h) : Hub.Canon (Hub.boot h pufOk corr) :=
  Hub.boot_keeps (bears_canon 0x7914000000000ea0800000000000c00011a00000010101010007000001030021000000000203000000010000dd1f) (Sub.refl _) H

theorem Hub.boot_same {h : Hub} {pufOk : Bool} {corr : ℕ} : Hub.Same 0x7914000000000ea0800000000000c00011a00000010101010007000001030021000000000203000000010000dd1f h (Hub.boot h pufOk corr) :=
  Hub.boot_keeps (bears_same 0x7914000000000ea0800000000000c00011a00000010101010007000001030021000000000203000000010000dd1f h) (Sub.refl _) (fun _ => Hub.Same.refl _ _) (by decide)

theorem Hub.bootSource_canon {h : Hub} {n : ℕ} {ilim : ℕ} (H : Hub.Canon h) : Hub.Canon (Hub.bootSource h n ilim) :=
  Hub.bootSource_keeps (bears_canon 0x40000040800280200000000000c000001000000101010100000000000000010000000000000000000100010402) (Sub.refl _) H

theorem Hub.bootSource_same {h : Hub} {n : ℕ} {ilim : ℕ} : Hub.Same 0x40000040800280200000000000c000001000000101010100000000000000010000000000000000000100010402 h (Hub.bootSource h n ilim) :=
  Hub.bootSource_keeps (bears_same 0x40000040800280200000000000c000001000000101010100000000000000010000000000000000000100010402 h) (Sub.refl _) (fun _ => Hub.Same.refl _ _) (by decide)

theorem Hub.burstOut_canon {h : Hub} {p : ℕ} (H : Hub.Canon h) : Hub.Canon (Hub.burstOut h p) :=
  Hub.burstOut_keeps (bears_canon 0x400002800000000000004000000000000000000000000000000000010000000000000000000000010400) (Sub.refl _) H

theorem Hub.burstOut_same {h : Hub} {p : ℕ} : Hub.Same 0x400002800000000000004000000000000000000000000000000000010000000000000000000000010400 h (Hub.burstOut h p) :=
  Hub.burstOut_keeps (bears_same 0x400002800000000000004000000000000000000000000000000000010000000000000000000000010400 h) (Sub.refl _) (fun _ => Hub.Same.refl _ _) (by decide)

theorem Hub.burstOut_rd {h : Hub} {p : ℕ} {F : Fld} {iF bF : Nat} (eF : Nat.testBit 0x400002800000000000004000000000000000000000000000000000010000000000000000000000010400 F.kind = false) :
    Hub.rd (Hub.burstOut h p) F iF bF = Hub.rd h F iF bF :=
  Hub.burstOut_same.rd (by decide) F iF bF eF

theorem Hub.cplSend_canon {h : Hub} {m : TxbIn} {status : ℕ} (H : Hub.Canon h) : Hub.Canon (Hub.cplSend h m status) :=
  Hub.cplSend_keeps (bears_canon 0x20000000000000000000000000000000000000000000000000000000000000000000000000000000000000) (Sub.refl _) H

theorem Hub.cplSend_same {h : Hub} {m : TxbIn} {status : ℕ} : Hub.Same 0x20000000000000000000000000000000000000000000000000000000000000000000000000000000000000 h (Hub.cplSend h m status) :=
  Hub.cplSend_keeps (bears_same 0x20000000000000000000000000000000000000000000000000000000000000000000000000000000000000 h) (Sub.refl _) (fun _ => Hub.Same.refl _ _) (by decide)

theorem Hub.cplSend_rd {h : Hub} {m : TxbIn} {status : ℕ} {F : Fld} {iF bF : Nat} (eF : Nat.testBit 0x20000000000000000000000000000000000000000000000000000000000000000000000000000000000000 F.kind = false) :
    Hub.rd (Hub.cplSend h m status) F iF bF = Hub.rd h F iF bF :=
  Hub.cplSend_same.rd (by decide) F iF bF eF

theorem Hub.busDone_canon {h : Hub} {ok : Bool} {data : Bytes} (H : Hub.Canon h) : Hub.Canon (Hub.busDone h ok data) :=
  Hub.busDone_keeps (bears_canon 0x1020000000000000000000000000000000000000000000000000000100000000000000000000000000000000) (Sub.refl _) H

theorem Hub.busDone_same {h : Hub} {ok : Bool} {data : Bytes} : Hub.Same 0x1020000000000000000000000000000000000000000000000000000100000000000000000000000000000000 h (Hub.busDone h ok data) :=
  Hub.busDone_keeps (bears_same 0x1020000000000000000000000000000000000000000000000000000100000000000000000000000000000000 h) (Sub.refl _) (fun _ => Hub.Same.refl _ _) (by decide)

theorem Hub.busDone_rd {h : Hub} {ok : Bool} {data : Bytes} {F : Fld} {iF bF : Nat} (eF : Nat.testBit 0x1020000000000000000000000000000000000000000000000000000100000000000000000000000000000000 F.kind = false) :
    Hub.rd (Hub.busDone h ok data) F iF bF = Hub.rd h F iF bF :=
  Hub.busDone_same.rd (by decide) F iF bF eF

theorem Hub.busMeasure_canon {h : Hub} {mv : ℕ} (H : Hub.Canon h) : Hub.Canon (Hub.busMeasure h mv) :=
  Hub.busMeasure_keeps (bears_canon 0x100000000000000000000000000000000000000000000000000) (Sub.refl _) H

theorem Hub.busMeasure_same {h : Hub} {mv : ℕ} : Hub.Same 0x100000000000000000000000000000000000000000000000000 h (Hub.busMeasure h mv) :=
  Hub.busMeasure_keeps (bears_same 0x100000000000000000000000000000000000000000000000000 h) (Sub.refl _) (fun _ => Hub.Same.refl _ _) (by decide)

theorem Hub.busMeasure_rd {h : Hub} {mv : ℕ} {F : Fld} {iF bF : Nat} (eF : Nat.testBit 0x100000000000000000000000000000000000000000000000000 F.kind = false) :
    Hub.rd (Hub.busMeasure h mv) F iF bF = Hub.rd h F iF bF :=
  Hub.busMeasure_same.rd (by decide) F iF bF eF

theorem Hub.udfSuspend_canon {h : Hub} {v : Bool} (H : Hub.Canon h) : Hub.Canon (Hub.udfSuspend h v) :=
  Hub.udfSuspend_keeps (bears_canon 0x4000000000000000000000020000000000000000000000000000000000000000) (Sub.refl _) H

theorem Hub.udfSuspend_same {h : Hub} {v : Bool} : Hub.Same 0x4000000000000000000000020000000000000000000000000000000000000000 h (Hub.udfSuspend h v) :=
  Hub.udfSuspend_keeps (bears_same 0x4000000000000000000000020000000000000000000000000000000000000000 h) (Sub.refl _) (fun _ => Hub.Same.refl _ _) (by decide)

theorem Hub.udfSuspend_rd {h : Hub} {v : Bool} {F : Fld} {iF bF : Nat} (eF : Nat.testBit 0x4000000000000000000000020000000000000000000000000000000000000000 F.kind = false) :
    Hub.rd (Hub.udfSuspend h v) F iF bF = Hub.rd h F iF bF :=
  Hub.udfSuspend_same.rd (by decide) F iF bF eF

theorem Hub.busResume_canon {h : Hub} (H : Hub.Canon h) : Hub.Canon (Hub.busResume h) :=
  Hub.busResume_keeps (bears_canon 0x4000000000000000000000030000000000000000000000000000000000000000) (Sub.refl _) H

theorem Hub.busResume_same {h : Hub} : Hub.Same 0x4000000000000000000000030000000000000000000000000000000000000000 h (Hub.busResume h) :=
  Hub.busResume_keeps (bears_same 0x4000000000000000000000030000000000000000000000000000000000000000 h) (Sub.refl _) (fun _ => Hub.Same.refl _ _) (by decide)

theorem Hub.busResume_rd {h : Hub} {F : Fld} {iF bF : Nat} (eF : Nat.testBit 0x4000000000000000000000030000000000000000000000000000000000000000 F.kind = false) :
    Hub.rd (Hub.busResume h) F iF bF = Hub.rd h F iF bF :=
  Hub.busResume_same.rd (by decide) F iF bF eF

theorem Hub.outWrite_canon {h : Hub} {fromBus : Bool} {addr : ℕ} {ro : Bool} {ns : Bool} {data : Bytes} (H : Hub.Canon h) : Hub.Canon (Hub.outWrite h fromBus addr ro ns data) :=
  Hub.outWrite_keeps (bears_canon 0x20000002800000000000004000000000000000000000000000000100010000000000000000000000000400) (Sub.refl _) H

theorem Hub.outWrite_same {h : Hub} {fromBus : Bool} {addr : ℕ} {ro : Bool} {ns : Bool} {data : Bytes} : Hub.Same 0x20000002800000000000004000000000000000000000000000000100010000000000000000000000000400 h (Hub.outWrite h fromBus addr ro ns data) :=
  Hub.outWrite_keeps (bears_same 0x20000002800000000000004000000000000000000000000000000100010000000000000000000000000400 h) (Sub.refl _) (fun _ => Hub.Same.refl _ _) (by decide)

theorem Hub.outWrite_rd {h : Hub} {fromBus : Bool} {addr : ℕ} {ro : Bool} {ns : Bool} {data : Bytes} {F : Fld} {iF bF : Nat} (eF : Nat.testBit 0x20000002800000000000004000000000000000000000000000000100010000000000000000000000000400 F.kind = false) :
    Hub.rd (Hub.outWrite h fromBus addr ro ns data) F iF bF = Hub.rd h F iF bF :=
  Hub.outWrite_same.rd (by decide) F iF bF eF

theorem Hub.busWrite_canon {h : Hub} {addr : ℕ} {ro : Bool} {ns : Bool} {data : Bytes} (H : Hub.Canon h) : Hub.Canon (Hub.busWrite h addr ro ns data) :=
  Hub.busWrite_keeps (bears_canon 0x8020000002800000000000004000000000000000000000000000000300010000000000000000000000000400) (Sub.refl _) H

theorem Hub.busWrite_same {h : Hub} {addr : ℕ} {ro : Bool} {ns : Bool} {data : Bytes} : Hub.Same 0x8020000002800000000000004000000000000000000000000000000300010000000000000000000000000400 h (Hub.busWrite h addr ro ns data) :=
  Hub.busWrite_keeps (bears_same 0x8020000002800000000000004000000000000000000000000000000300010000000000000000000000000400 h) (Sub.refl _) (fun _ => Hub.Same.refl _ _) (by decide)

theorem Hub.busWrite_rd {h : Hub} {addr : ℕ} {ro : Bool} {ns : Bool} {data : Bytes} {F : Fld} {iF bF : Nat} (eF : Nat.testBit 0x8020000002800000000000004000000000000000000000000000000300010000000000000000000000000400 F.kind = false) :
    Hub.rd (Hub.busWrite h addr ro ns data) F iF bF = Hub.rd h F iF bF :=
  Hub.busWrite_same.rd (by decide) F iF bF eF

theorem Hub.usbReset_canon {h : Hub} {n : ℕ} (H : Hub.Canon h) : Hub.Canon (Hub.usbReset h n) :=
  Hub.usbReset_keeps (bears_canon 0x140000000000808000000000004000000000000000000000070000000000000000000000000000000000000000) (Sub.refl _) H

theorem Hub.usbReset_same {h : Hub} {n : ℕ} : Hub.Same 0x140000000000808000000000004000000000000000000000070000000000000000000000000000000000000000 h (Hub.usbReset h n) :=
  Hub.usbReset_keeps (bears_same 0x140000000000808000000000004000000000000000000000070000000000000000000000000000000000000000 h) (Sub.refl _) (fun _ => Hub.Same.refl _ _) (by decide)

theorem Hub.usbReset_rd {h : Hub} {n : ℕ} {F : Fld} {iF bF : Nat} (eF : Nat.testBit 0x140000000000808000000000004000000000000000000000070000000000000000000000000000000000000000 F.kind = false) :
    Hub.rd (Hub.usbReset h n) F iF bF = Hub.rd h F iF bF :=
  Hub.usbReset_same.rd (by decide) F iF bF eF

theorem Hub.eventSend_canon {h : Hub} {ev : ℕ} {wake : Bool} (H : Hub.Canon h) : Hub.Canon (Hub.eventSend h ev wake) :=
  Hub.eventSend_keeps (bears_canon 0x40000000000000000000000000000000000000000000000000000000000000000000000000000000000000000) (Sub.refl _) H

theorem Hub.eventSend_same {h : Hub} {ev : ℕ} {wake : Bool} : Hub.Same 0x40000000000000000000000000000000000000000000000000000000000000000000000000000000000000000 h (Hub.eventSend h ev wake) :=
  Hub.eventSend_keeps (bears_same 0x40000000000000000000000000000000000000000000000000000000000000000000000000000000000000000 h) (Sub.refl _) (fun _ => Hub.Same.refl _ _) (by decide)

theorem Hub.eventSend_rd {h : Hub} {ev : ℕ} {wake : Bool} {F : Fld} {iF bF : Nat} (eF : Nat.testBit 0x40000000000000000000000000000000000000000000000000000000000000000000000000000000000000000 F.kind = false) :
    Hub.rd (Hub.eventSend h ev wake) F iF bF = Hub.rd h F iF bF :=
  Hub.eventSend_same.rd (by decide) F iF bF eF

theorem Hub.busctlIn_canon {h : Hub} {op : ℕ} (H : Hub.Canon h) : Hub.Canon (Hub.busctlIn h op) :=
  Hub.busctlIn_keeps (bears_canon 0x140000000000808000000000004000000000000000000000070000000000000000000000000000000000000000) (Sub.refl _) H

theorem Hub.busctlIn_same {h : Hub} {op : ℕ} : Hub.Same 0x140000000000808000000000004000000000000000000000070000000000000000000000000000000000000000 h (Hub.busctlIn h op) :=
  Hub.busctlIn_keeps (bears_same 0x140000000000808000000000004000000000000000000000070000000000000000000000000000000000000000 h) (Sub.refl _) (fun _ => Hub.Same.refl _ _) (by decide)

theorem Hub.busctlIn_rd {h : Hub} {op : ℕ} {F : Fld} {iF bF : Nat} (eF : Nat.testBit 0x140000000000808000000000004000000000000000000000070000000000000000000000000000000000000000 F.kind = false) :
    Hub.rd (Hub.busctlIn h op) F iF bF = Hub.rd h F iF bF :=
  Hub.busctlIn_same.rd (by decide) F iF bF eF

theorem Hub.capMismatch_canon {h : Hub} {p : ℕ} (H : Hub.Canon h) : Hub.Canon (Hub.capMismatch h p) :=
  Hub.capMismatch_keeps (bears_canon 0xb987aa80200000000000c00060100000000000000000000000000001030200010f030000000100014402) (Sub.refl _) H

theorem Hub.capMismatch_same {h : Hub} {p : ℕ} : Hub.Same 0xb987aa80200000000000c00060100000000000000000000000000001030200010f030000000100014402 h (Hub.capMismatch h p) :=
  Hub.capMismatch_keeps (bears_same 0xb987aa80200000000000c00060100000000000000000000000000001030200010f030000000100014402 h) (Sub.refl _) (fun _ => Hub.Same.refl _ _) (by decide)

theorem Hub.capDone_canon {h : Hub} {p : ℕ} (H : Hub.Canon h) : Hub.Canon (Hub.capDone h p) :=
  Hub.capDone_keeps (bears_canon 0xb987aa80200000000000c00060100000000000000000000000000001030200010f030000000100014402) (Sub.refl _) H

theorem Hub.capDone_same {h : Hub} {p : ℕ} : Hub.Same 0xb987aa80200000000000c00060100000000000000000000000000001030200010f030000000100014402 h (Hub.capDone h p) :=
  Hub.capDone_keeps (bears_same 0xb987aa80200000000000c00060100000000000000000000000000001030200010f030000000100014402 h) (Sub.refl _) (fun _ => Hub.Same.refl _ _) (by decide)

theorem Hub.capIn_canon {h : Hub} {p : ℕ} {tok : ℕ} {payload : Bytes} (H : Hub.Canon h) : Hub.Canon (Hub.capIn h p tok payload) :=
  Hub.capIn_keeps (bears_canon 0xb987aa80200000000000c00060100000000000000000000000000001030200010f030000000100014402) (Sub.refl _) H

theorem Hub.capIn_same {h : Hub} {p : ℕ} {tok : ℕ} {payload : Bytes} : Hub.Same 0xb987aa80200000000000c00060100000000000000000000000000001030200010f030000000100014402 h (Hub.capIn h p tok payload) :=
  Hub.capIn_keeps (bears_same 0xb987aa80200000000000c00060100000000000000000000000000001030200010f030000000100014402 h) (Sub.refl _) (fun _ => Hub.Same.refl _ _) (by decide)

theorem Hub.countWr_canon {h : Hub} {a : ℕ} {n : ℕ} (H : Hub.Canon h) : Hub.Canon (Hub.countWr h a n) :=
  Hub.countWr_keeps (bears_canon 0x10000000000000000000000000000000000) (Sub.refl _) H

theorem Hub.countWr_same {h : Hub} {a : ℕ} {n : ℕ} : Hub.Same 0x10000000000000000000000000000000000 h (Hub.countWr h a n) :=
  Hub.countWr_keeps (bears_same 0x10000000000000000000000000000000000 h) (Sub.refl _) (fun _ => Hub.Same.refl _ _) (by decide)

theorem Hub.countWr_rd {h : Hub} {a : ℕ} {n : ℕ} {F : Fld} {iF bF : Nat} (eF : Nat.testBit 0x10000000000000000000000000000000000 F.kind = false) :
    Hub.rd (Hub.countWr h a n) F iF bF = Hub.rd h F iF bF :=
  Hub.countWr_same.rd (by decide) F iF bF eF

theorem Hub.putTile_canon {h : Hub} {k : ℕ} {t : ℕ} {px : Bytes} (H : Hub.Canon h) : Hub.Canon (Hub.putTile h k t px) :=
  Hub.putTile_keeps (bears_canon 0x100000000000000000000000000000000000000000010000000000000000000000000000000000) (Sub.refl _) H

theorem Hub.putTile_same {h : Hub} {k : ℕ} {t : ℕ} {px : Bytes} : Hub.Same 0x100000000000000000000000000000000000000000010000000000000000000000000000000000 h (Hub.putTile h k t px) :=
  Hub.putTile_keeps (bears_same 0x100000000000000000000000000000000000000000010000000000000000000000000000000000 h) (Sub.refl _) (fun _ => Hub.Same.refl _ _) (by decide)

theorem Hub.putTile_rd {h : Hub} {k : ℕ} {t : ℕ} {px : Bytes} {F : Fld} {iF bF : Nat} (eF : Nat.testBit 0x100000000000000000000000000000000000000000010000000000000000000000000000000000 F.kind = false) :
    Hub.rd (Hub.putTile h k t px) F iF bF = Hub.rd h F iF bF :=
  Hub.putTile_same.rd (by decide) F iF bF eF

theorem Hub.retire_canon {h : Hub} {k : ℕ} (H : Hub.Canon h) : Hub.Canon (Hub.retire h k) :=
  Hub.retire_keeps (bears_canon 0x8000000000000000000000000000000000000000000000000000000000000000000000000000) (Sub.refl _) H

theorem Hub.retire_same {h : Hub} {k : ℕ} : Hub.Same 0x8000000000000000000000000000000000000000000000000000000000000000000000000000 h (Hub.retire h k) :=
  Hub.retire_keeps (bears_same 0x8000000000000000000000000000000000000000000000000000000000000000000000000000 h) (Sub.refl _) (fun _ => Hub.Same.refl _ _) (by decide)

theorem Hub.retire_rd {h : Hub} {k : ℕ} {F : Fld} {iF bF : Nat} (eF : Nat.testBit 0x8000000000000000000000000000000000000000000000000000000000000000000000000000 F.kind = false) :
    Hub.rd (Hub.retire h k) F iF bF = Hub.rd h F iF bF :=
  Hub.retire_same.rd (by decide) F iF bF eF

theorem Hub.commitSlot_canon {h : Hub} {w : Writer} {err : ℕ} {incomplete : Bool} (H : Hub.Canon h) : Hub.Canon (Hub.commitSlot h w err incomplete) :=
  Hub.commitSlot_keeps (bears_canon 0x8000000000000000000000000000000000000000000000800000000000000000000000000000) (Sub.refl _) H

theorem Hub.commitSlot_same {h : Hub} {w : Writer} {err : ℕ} {incomplete : Bool} : Hub.Same 0x8000000000000000000000000000000000000000000000800000000000000000000000000000 h (Hub.commitSlot h w err incomplete) :=
  Hub.commitSlot_keeps (bears_same 0x8000000000000000000000000000000000000000000000800000000000000000000000000000 h) (Sub.refl _) (fun _ => Hub.Same.refl _ _) (by decide)

theorem Hub.commitSlot_rd {h : Hub} {w : Writer} {err : ℕ} {incomplete : Bool} {F : Fld} {iF bF : Nat} (eF : Nat.testBit 0x8000000000000000000000000000000000000000000000800000000000000000000000000000 F.kind = false) :
    Hub.rd (Hub.commitSlot h w err incomplete) F iF bF = Hub.rd h F iF bF :=
  Hub.commitSlot_same.rd (by decide) F iF bF eF

theorem Hub.setSig_canon {h : Hub} {k : ℕ} {t : ℕ} {v : ℕ} (H : Hub.Canon h) : Hub.Canon (Hub.setSig h k t v) :=
  Hub.setSig_keeps (bears_canon 0x8000000000000000000000000000000000000000000000000000000000000000000000000000) (Sub.refl _) H

theorem Hub.setSig_same {h : Hub} {k : ℕ} {t : ℕ} {v : ℕ} : Hub.Same 0x8000000000000000000000000000000000000000000000000000000000000000000000000000 h (Hub.setSig h k t v) :=
  Hub.setSig_keeps (bears_same 0x8000000000000000000000000000000000000000000000000000000000000000000000000000 h) (Sub.refl _) (fun _ => Hub.Same.refl _ _) (by decide)

theorem Hub.setSig_rd {h : Hub} {k : ℕ} {t : ℕ} {v : ℕ} {F : Fld} {iF bF : Nat} (eF : Nat.testBit 0x8000000000000000000000000000000000000000000000000000000000000000000000000000 F.kind = false) :
    Hub.rd (Hub.setSig h k t v) F iF bF = Hub.rd h F iF bF :=
  Hub.setSig_same.rd (by decide) F iF bF eF

theorem Hub.signTile_canon {k : ℕ} {t : ℕ} {h : Hub} (H : Hub.Canon h) : Hub.Canon (Hub.signTile k t h) :=
  Hub.signTile_keeps (bears_canon 0x8000000000000000000000000000000000000000000000000000000000000000000000000000) (Sub.refl _) H

theorem Hub.signTile_same {k : ℕ} {t : ℕ} {h : Hub} : Hub.Same 0x8000000000000000000000000000000000000000000000000000000000000000000000000000 h (Hub.signTile k t h) :=
  Hub.signTile_keeps (bears_same 0x8000000000000000000000000000000000000000000000000000000000000000000000000000 h) (Sub.refl _) (fun _ => Hub.Same.refl _ _) (by decide)

theorem Hub.signTile_rd {k : ℕ} {t : ℕ} {h : Hub} {F : Fld} {iF bF : Nat} (eF : Nat.testBit 0x8000000000000000000000000000000000000000000000000000000000000000000000000000 F.kind = false) :
    Hub.rd (Hub.signTile k t h) F iF bF = Hub.rd h F iF bF :=
  Hub.signTile_same.rd (by decide) F iF bF eF

theorem Hub.captureCommit_canon {h : Hub} {d : Fin 2} {px : List TilePix} (H : Hub.Canon h) : Hub.Canon (Hub.captureCommit h d px) :=
  Hub.captureCommit_keeps (bears_canon 0x108000000000000000000000000000000000000000010000a00000000000000000000000000000) (Sub.refl _) H

theorem Hub.captureCommit_same {h : Hub} {d : Fin 2} {px : List TilePix} : Hub.Same 0x108000000000000000000000000000000000000000010000a00000000000000000000000000000 h (Hub.captureCommit h d px) :=
  Hub.captureCommit_keeps (bears_same 0x108000000000000000000000000000000000000000010000a00000000000000000000000000000 h) (Sub.refl _) (fun _ => Hub.Same.refl _ _) (by decide)

theorem Hub.captureCommit_rd {h : Hub} {d : Fin 2} {px : List TilePix} {F : Fld} {iF bF : Nat} (eF : Nat.testBit 0x108000000000000000000000000000000000000000010000a00000000000000000000000000000 F.kind = false) :
    Hub.rd (Hub.captureCommit h d px) F iF bF = Hub.rd h F iF bF :=
  Hub.captureCommit_same.rd (by decide) F iF bF eF

theorem Hub.captureStart_canon {h : Hub} {d : Fin 2} (H : Hub.Canon h) : Hub.Canon (Hub.captureStart h d) :=
  Hub.captureStart_keeps (bears_canon 0x2808000000000004000000000000000000000000000000000a10000000000000000000000000400) (Sub.refl _) H

theorem Hub.captureStart_same {h : Hub} {d : Fin 2} : Hub.Same 0x2808000000000004000000000000000000000000000000000a10000000000000000000000000400 h (Hub.captureStart h d) :=
  Hub.captureStart_keeps (bears_same 0x2808000000000004000000000000000000000000000000000a10000000000000000000000000400 h) (Sub.refl _) (fun _ => Hub.Same.refl _ _) (by decide)

theorem Hub.captureStart_rd {h : Hub} {d : Fin 2} {F : Fld} {iF bF : Nat} (eF : Nat.testBit 0x2808000000000004000000000000000000000000000000000a10000000000000000000000000400 F.kind = false) :
    Hub.rd (Hub.captureStart h d) F iF bF = Hub.rd h F iF bF :=
  Hub.captureStart_same.rd (by decide) F iF bF eF

theorem Hub.captureTrain_canon {h : Hub} {d : Fin 2} {ok : Bool} {rate : ℕ} {lanes : ℕ} {hact : ℕ} {vact : ℕ} {pclk : ℕ} {bpc : ℕ} (H : Hub.Canon h) : Hub.Canon (Hub.captureTrain h d ok rate lanes hact vact pclk bpc) :=
  Hub.captureTrain_keeps (bears_canon 0x2808000000000004000000000000000000000000000000000a10000000000000000000000000400) (Sub.refl _) H

theorem Hub.captureTrain_same {h : Hub} {d : Fin 2} {ok : Bool} {rate : ℕ} {lanes : ℕ} {hact : ℕ} {vact : ℕ} {pclk : ℕ} {bpc : ℕ} : Hub.Same 0x2808000000000004000000000000000000000000000000000a10000000000000000000000000400 h (Hub.captureTrain h d ok rate lanes hact vact pclk bpc) :=
  Hub.captureTrain_keeps (bears_same 0x2808000000000004000000000000000000000000000000000a10000000000000000000000000400 h) (Sub.refl _) (fun _ => Hub.Same.refl _ _) (by decide)

theorem Hub.captureTrain_rd {h : Hub} {d : Fin 2} {ok : Bool} {rate : ℕ} {lanes : ℕ} {hact : ℕ} {vact : ℕ} {pclk : ℕ} {bpc : ℕ} {F : Fld} {iF bF : Nat} (eF : Nat.testBit 0x2808000000000004000000000000000000000000000000000a10000000000000000000000000400 F.kind = false) :
    Hub.rd (Hub.captureTrain h d ok rate lanes hact vact pclk bpc) F iF bF = Hub.rd h F iF bF :=
  Hub.captureTrain_same.rd (by decide) F iF bF eF

theorem Hub.carryOut_canon {h : Hub} {w : Wish} (H : Hub.Canon h) : Hub.Canon (Hub.carryOut h w) :=
  Hub.carryOut_keeps (bears_canon 0x1808000000000000000000000000000000000000000000000000000100000000010000000000000000) (Sub.refl _) H

theorem Hub.carryOut_same {h : Hub} {w : Wish} : Hub.Same 0x1808000000000000000000000000000000000000000000000000000100000000010000000000000000 h (Hub.carryOut h w) :=
  Hub.carryOut_keeps (bears_same 0x1808000000000000000000000000000000000000000000000000000100000000010000000000000000 h) (Sub.refl _) (fun _ => Hub.Same.refl _ _) (by decide)

theorem Hub.carryOut_rd {h : Hub} {w : Wish} {F : Fld} {iF bF : Nat} (eF : Nat.testBit 0x1808000000000000000000000000000000000000000000000000000100000000010000000000000000 F.kind = false) :
    Hub.rd (Hub.carryOut h w) F iF bF = Hub.rd h F iF bF :=
  Hub.carryOut_same.rd (by decide) F iF bF eF

theorem Hub.carryRoutes_canon {h : Hub} {gen : ℕ} (H : Hub.Canon h) : Hub.Canon (Hub.carryRoutes h gen) :=
  Hub.carryRoutes_keeps (bears_canon 0x8000000000000000000000000000000000000000000000000000000000000000000000000000) (Sub.refl _) H

theorem Hub.carryRoutes_same {h : Hub} {gen : ℕ} : Hub.Same 0x8000000000000000000000000000000000000000000000000000000000000000000000000000 h (Hub.carryRoutes h gen) :=
  Hub.carryRoutes_keeps (bears_same 0x8000000000000000000000000000000000000000000000000000000000000000000000000000 h) (Sub.refl _) (fun _ => Hub.Same.refl _ _) (by decide)

theorem Hub.carryRoutes_rd {h : Hub} {gen : ℕ} {F : Fld} {iF bF : Nat} (eF : Nat.testBit 0x8000000000000000000000000000000000000000000000000000000000000000000000000000 F.kind = false) :
    Hub.rd (Hub.carryRoutes h gen) F iF bF = Hub.rd h F iF bF :=
  Hub.carryRoutes_same.rd (by decide) F iF bF eF

theorem Hub.casAck_canon {h : Hub} {src : ℕ} {tok : ℕ} {status : ℕ} {typ : ℕ} (H : Hub.Canon h) : Hub.Canon (Hub.casAck h src tok status typ) :=
  Hub.casAck_keeps (bears_canon 0x8000000000000000000000000000000000000000000000000000000000000000000000000000000) (Sub.refl _) H

theorem Hub.casAck_same {h : Hub} {src : ℕ} {tok : ℕ} {status : ℕ} {typ : ℕ} : Hub.Same 0x8000000000000000000000000000000000000000000000000000000000000000000000000000000 h (Hub.casAck h src tok status typ) :=
  Hub.casAck_keeps (bears_same 0x8000000000000000000000000000000000000000000000000000000000000000000000000000000 h) (Sub.refl _) (fun _ => Hub.Same.refl _ _) (by decide)

theorem Hub.casAck_rd {h : Hub} {src : ℕ} {tok : ℕ} {status : ℕ} {typ : ℕ} {F : Fld} {iF bF : Nat} (eF : Nat.testBit 0x8000000000000000000000000000000000000000000000000000000000000000000000000000000 F.kind = false) :
    Hub.rd (Hub.casAck h src tok status typ) F iF bF = Hub.rd h F iF bF :=
  Hub.casAck_same.rd (by decide) F iF bF eF

theorem Hub.catchUp_canon {h : Hub} {w : Writer} {skip : List ℕ} (H : Hub.Canon h) : Hub.Canon (Hub.catchUp h w skip) :=
  Hub.catchUp_keeps (bears_canon 0x108000000000000000000000000000000000000000010000000000000000000000000000000000) (Sub.refl _) H

theorem Hub.catchUp_same {h : Hub} {w : Writer} {skip : List ℕ} : Hub.Same 0x108000000000000000000000000000000000000000010000000000000000000000000000000000 h (Hub.catchUp h w skip) :=
  Hub.catchUp_keeps (bears_same 0x108000000000000000000000000000000000000000010000000000000000000000000000000000 h) (Sub.refl _) (fun _ => Hub.Same.refl _ _) (by decide)

theorem Hub.catchUp_rd {h : Hub} {w : Writer} {skip : List ℕ} {F : Fld} {iF bF : Nat} (eF : Nat.testBit 0x108000000000000000000000000000000000000000010000000000000000000000000000000000 F.kind = false) :
    Hub.rd (Hub.catchUp h w skip) F iF bF = Hub.rd h F iF bF :=
  Hub.catchUp_same.rd (by decide) F iF bF eF

theorem Hub.rxCommit_canon {h : Hub} {r : Fin 8} {incomplete : Bool} {full : Bool} (H : Hub.Canon h) : Hub.Canon (Hub.rxCommit h r incomplete full) :=
  Hub.rxCommit_keeps (bears_canon 0x108000000000000000000000000000000000000000010000800000000000000000000000000000) (Sub.refl _) H

theorem Hub.rxCommit_same {h : Hub} {r : Fin 8} {incomplete : Bool} {full : Bool} : Hub.Same 0x108000000000000000000000000000000000000000010000800000000000000000000000000000 h (Hub.rxCommit h r incomplete full) :=
  Hub.rxCommit_keeps (bears_same 0x108000000000000000000000000000000000000000010000800000000000000000000000000000 h) (Sub.refl _) (fun _ => Hub.Same.refl _ _) (by decide)

theorem Hub.rxCommit_rd {h : Hub} {r : Fin 8} {incomplete : Bool} {full : Bool} {F : Fld} {iF bF : Nat} (eF : Nat.testBit 0x108000000000000000000000000000000000000000010000800000000000000000000000000000 F.kind = false) :
    Hub.rd (Hub.rxCommit h r incomplete full) F iF bF = Hub.rd h F iF bF :=
  Hub.rxCommit_same.rd (by decide) F iF bF eF

theorem Hub.catchupEnd_canon {h : Hub} {w : Writer} (H : Hub.Canon h) : Hub.Canon (Hub.catchupEnd h w) :=
  Hub.catchupEnd_keeps (bears_canon 0x108000000000000000000000000000000000000000010000800000000000000000000000000000) (Sub.refl _) H

theorem Hub.catchupEnd_same {h : Hub} {w : Writer} : Hub.Same 0x108000000000000000000000000000000000000000010000800000000000000000000000000000 h (Hub.catchupEnd h w) :=
  Hub.catchupEnd_keeps (bears_same 0x108000000000000000000000000000000000000000010000800000000000000000000000000000 h) (Sub.refl _) (fun _ => Hub.Same.refl _ _) (by decide)

theorem Hub.catchupEnd_rd {h : Hub} {w : Writer} {F : Fld} {iF bF : Nat} (eF : Nat.testBit 0x108000000000000000000000000000000000000000010000800000000000000000000000000000 F.kind = false) :
    Hub.rd (Hub.catchupEnd h w) F iF bF = Hub.rd h F iF bF :=
  Hub.catchupEnd_same.rd (by decide) F iF bF eF

theorem Hub.kindMismatch_canon {h : Hub} {tid : ℕ} (H : Hub.Canon h) : Hub.Canon (Hub.kindMismatch h tid) :=
  Hub.kindMismatch_keeps (bears_canon 0x2800000000000004000000000000000000000000000000000010000000000010000000000000400) (Sub.refl _) H

theorem Hub.kindMismatch_same {h : Hub} {tid : ℕ} : Hub.Same 0x2800000000000004000000000000000000000000000000000010000000000010000000000000400 h (Hub.kindMismatch h tid) :=
  Hub.kindMismatch_keeps (bears_same 0x2800000000000004000000000000000000000000000000000010000000000010000000000000400 h) (Sub.refl _) (fun _ => Hub.Same.refl _ _) (by decide)

theorem Hub.kindMismatch_rd {h : Hub} {tid : ℕ} {F : Fld} {iF bF : Nat} (eF : Nat.testBit 0x2800000000000004000000000000000000000000000000000010000000000010000000000000400 F.kind = false) :
    Hub.rd (Hub.kindMismatch h tid) F iF bF = Hub.rd h F iF bF :=
  Hub.kindMismatch_same.rd (by decide) F iF bF eF

theorem Hub.lookup_canon {h : Hub} {pt : Nat} {c0 : Cell} (H : Hub.Canon h) : Hub.Canon (h.lookup pt c0).1 :=
  Hub.lookup_keeps (bears_canon 0x2808000000000004000000000000000000000000000000000010000000000030000000000000400) (Sub.refl _) H

theorem Hub.lookup_same {h : Hub} {pt : Nat} {c0 : Cell} : Hub.Same 0x2808000000000004000000000000000000000000000000000010000000000030000000000000400 h (h.lookup pt c0).1 :=
  Hub.lookup_keeps (bears_same 0x2808000000000004000000000000000000000000000000000010000000000030000000000000400 h) (Sub.refl _) (fun _ => Hub.Same.refl _ _) (by decide)

theorem Hub.lookup_rd {h : Hub} {pt : Nat} {c0 : Cell} {F : Fld} {iF bF : Nat} (eF : Nat.testBit 0x2808000000000004000000000000000000000000000000000010000000000030000000000000400 F.kind = false) :
    Hub.rd (h.lookup pt c0).1 F iF bF = Hub.rd h F iF bF :=
  Hub.lookup_same.rd (by decide) F iF bF eF

theorem Hub.meterSop_canon {h : Hub} {pt : ℕ} {p : Plan} (H : Hub.Canon h) : Hub.Canon (Hub.meterSop h pt p).1 :=
  Hub.meterSop_keeps (bears_canon 0x4000000000000000000000000000000000000001000000000000000000000000) (Sub.refl _) H

theorem Hub.meterSop_same {h : Hub} {pt : ℕ} {p : Plan} : Hub.Same 0x4000000000000000000000000000000000000001000000000000000000000000 h (Hub.meterSop h pt p).1 :=
  Hub.meterSop_keeps (bears_same 0x4000000000000000000000000000000000000001000000000000000000000000 h) (Sub.refl _) (fun _ => Hub.Same.refl _ _) (by decide)

theorem Hub.meterSop_rd {h : Hub} {pt : ℕ} {p : Plan} {F : Fld} {iF bF : Nat} (eF : Nat.testBit 0x4000000000000000000000000000000000000001000000000000000000000000 F.kind = false) :
    Hub.rd (Hub.meterSop h pt p).1 F iF bF = Hub.rd h F iF bF :=
  Hub.meterSop_same.rd (by decide) F iF bF eF

theorem Hub.refuseAll_canon {h : Hub} {multi : Bool} {ts : List ℕ} (H : Hub.Canon h) : Hub.Canon (Hub.refuseAll h multi ts) :=
  Hub.refuseAll_keeps (bears_canon 0x8000000000000000000) (Sub.refl _) H

theorem Hub.refuseAll_same {h : Hub} {multi : Bool} {ts : List ℕ} : Hub.Same 0x8000000000000000000 h (Hub.refuseAll h multi ts) :=
  Hub.refuseAll_keeps (bears_same 0x8000000000000000000 h) (Sub.refl _) (fun _ => Hub.Same.refl _ _) (by decide)

theorem Hub.refuseAll_rd {h : Hub} {multi : Bool} {ts : List ℕ} {F : Fld} {iF bF : Nat} (eF : Nat.testBit 0x8000000000000000000 F.kind = false) :
    Hub.rd (Hub.refuseAll h multi ts) F iF bF = Hub.rd h F iF bF :=
  Hub.refuseAll_same.rd (by decide) F iF bF eF

theorem Hub.meterCharge_canon {h : Hub} {id : ℕ} {eop : Bool} {fill : ℕ} (H : Hub.Canon h) : Hub.Canon (Hub.meterCharge h id eop fill) :=
  Hub.meterCharge_keeps (bears_canon 0x30000000000000000000000000000000000000000000000000000001000000000000000000000000) (Sub.refl _) H

theorem Hub.meterCharge_same {h : Hub} {id : ℕ} {eop : Bool} {fill : ℕ} : Hub.Same 0x30000000000000000000000000000000000000000000000000000001000000000000000000000000 h (Hub.meterCharge h id eop fill) :=
  Hub.meterCharge_keeps (bears_same 0x30000000000000000000000000000000000000000000000000000001000000000000000000000000 h) (Sub.refl _) (fun _ => Hub.Same.refl _ _) (by decide)

theorem Hub.meterCharge_rd {h : Hub} {id : ℕ} {eop : Bool} {fill : ℕ} {F : Fld} {iF bF : Nat} (eF : Nat.testBit 0x30000000000000000000000000000000000000000000000000000001000000000000000000000000 F.kind = false) :
    Hub.rd (Hub.meterCharge h id eop fill) F iF bF = Hub.rd h F iF bF :=
  Hub.meterCharge_same.rd (by decide) F iF bF eF

theorem Hub.takeCell_canon {h : Hub} {q : ℕ} {b : ℕ} {pool : ℕ} (H : Hub.Canon h) : Hub.Canon (Hub.takeCell h q b pool) :=
  Hub.takeCell_keeps (bears_canon 0x2800000000000004000000000000000000000000000000000010000000003000000000000000400) (Sub.refl _) H

theorem Hub.takeCell_same {h : Hub} {q : ℕ} {b : ℕ} {pool : ℕ} : Hub.Same 0x2800000000000004000000000000000000000000000000000010000000003000000000000000400 h (Hub.takeCell h q b pool) :=
  Hub.takeCell_keeps (bears_same 0x2800000000000004000000000000000000000000000000000010000000003000000000000000400 h) (Sub.refl _) (fun _ => Hub.Same.refl _ _) (by decide)

theorem Hub.takeCell_rd {h : Hub} {q : ℕ} {b : ℕ} {pool : ℕ} {F : Fld} {iF bF : Nat} (eF : Nat.testBit 0x2800000000000004000000000000000000000000000000000010000000003000000000000000400 F.kind = false) :
    Hub.rd (Hub.takeCell h q b pool) F iF bF = Hub.rd h F iF bF :=
  Hub.takeCell_same.rd (by decide) F iF bF eF

theorem Hub.occUp_canon {n : ℕ} {q : ℕ} {h : Hub} (H : Hub.Canon h) : Hub.Canon (Hub.occUp n q h) :=
  Hub.occUp_keeps (bears_canon 0x2000000000000000000) (Sub.refl _) H

theorem Hub.occUp_same {n : ℕ} {q : ℕ} {h : Hub} : Hub.Same 0x2000000000000000000 h (Hub.occUp n q h) :=
  Hub.occUp_keeps (bears_same 0x2000000000000000000 h) (Sub.refl _) (fun _ => Hub.Same.refl _ _) (by decide)

theorem Hub.occUp_rd {n : ℕ} {q : ℕ} {h : Hub} {F : Fld} {iF bF : Nat} (eF : Nat.testBit 0x2000000000000000000 F.kind = false) :
    Hub.rd (Hub.occUp n q h) F iF bF = Hub.rd h F iF bF :=
  Hub.occUp_same.rd (by decide) F iF bF eF

theorem Hub.writeCell_canon {h : Hub} {id : ℕ} {c : Cell} (H : Hub.Canon h) : Hub.Canon (Hub.writeCell h id c) :=
  Hub.writeCell_keeps (bears_canon 0x22800000000000004000000000000000000000000000000000010000000003000000000000000404) (Sub.refl _) H

theorem Hub.writeCell_same {h : Hub} {id : ℕ} {c : Cell} : Hub.Same 0x22800000000000004000000000000000000000000000000000010000000003000000000000000404 h (Hub.writeCell h id c) :=
  Hub.writeCell_keeps (bears_same 0x22800000000000004000000000000000000000000000000000010000000003000000000000000404 h) (Sub.refl _) (fun _ => Hub.Same.refl _ _) (by decide)

theorem Hub.writeCell_rd {h : Hub} {id : ℕ} {c : Cell} {F : Fld} {iF bF : Nat} (eF : Nat.testBit 0x22800000000000004000000000000000000000000000000000010000000003000000000000000404 F.kind = false) :
    Hub.rd (Hub.writeCell h id c) F iF bF = Hub.rd h F iF bF :=
  Hub.writeCell_same.rd (by decide) F iF bF eF

theorem Hub.takeIn_canon {h : Hub} {pt : ℕ} {par : Bool} {p : Plan} (H : Hub.Canon h) : Hub.Canon (Hub.takeIn h pt par p).1 :=
  Hub.takeIn_keeps (bears_canon 0x57280000000000000400000000000000000000000000000000001000100010b000000000000000404) (Sub.refl _) H

theorem Hub.takeIn_same {h : Hub} {pt : ℕ} {par : Bool} {p : Plan} : Hub.Same 0x57280000000000000400000000000000000000000000000000001000100010b000000000000000404 h (Hub.takeIn h pt par p).1 :=
  Hub.takeIn_keeps (bears_same 0x57280000000000000400000000000000000000000000000000001000100010b000000000000000404 h) (Sub.refl _) (fun _ => Hub.Same.refl _ _) (by decide)

theorem Hub.takeIn_rd {h : Hub} {pt : ℕ} {par : Bool} {p : Plan} {F : Fld} {iF bF : Nat} (eF : Nat.testBit 0x57280000000000000400000000000000000000000000000000001000100010b000000000000000404 F.kind = false) :
    Hub.rd (Hub.takeIn h pt par p).1 F iF bF = Hub.rd h F iF bF :=
  Hub.takeIn_same.rd (by decide) F iF bF eF

theorem Hub.silence_canon {h : Hub} {ctx : ℕ} {pathB : Bool} (H : Hub.Canon h) : Hub.Canon (Hub.silence h ctx pathB) :=
  Hub.silence_keeps (bears_canon 0x8000000000000004000000000000000000000000000000000000300000000010000000000000000) (Sub.refl _) H

theorem Hub.silence_same {h : Hub} {ctx : ℕ} {pathB : Bool} : Hub.Same 0x8000000000000004000000000000000000000000000000000000300000000010000000000000000 h (Hub.silence h ctx pathB) :=
  Hub.silence_keeps (bears_same 0x8000000000000004000000000000000000000000000000000000300000000010000000000000000 h) (Sub.refl _) (fun _ => Hub.Same.refl _ _) (by decide)

theorem Hub.silence_rd {h : Hub} {ctx : ℕ} {pathB : Bool} {F : Fld} {iF bF : Nat} (eF : Nat.testBit 0x8000000000000004000000000000000000000000000000000000300000000010000000000000000 F.kind = false) :
    Hub.rd (Hub.silence h ctx pathB) F iF bF = Hub.rd h F iF bF :=
  Hub.silence_same.rd (by decide) F iF bF eF

theorem Hub.pathDelivers_canon {h : Hub} {ctx : ℕ} {pathB : Bool} (H : Hub.Canon h) : Hub.Canon (Hub.pathDelivers h ctx pathB) :=
  Hub.pathDelivers_keeps (bears_canon 0x8000000000000004000000000000000000000000000000000000300000000010000000000000000) (Sub.refl _) H

theorem Hub.pathDelivers_same {h : Hub} {ctx : ℕ} {pathB : Bool} : Hub.Same 0x8000000000000004000000000000000000000000000000000000300000000010000000000000000 h (Hub.pathDelivers h ctx pathB) :=
  Hub.pathDelivers_keeps (bears_same 0x8000000000000004000000000000000000000000000000000000300000000010000000000000000 h) (Sub.refl _) (fun _ => Hub.Same.refl _ _) (by decide)

theorem Hub.pathDelivers_rd {h : Hub} {ctx : ℕ} {pathB : Bool} {F : Fld} {iF bF : Nat} (eF : Nat.testBit 0x8000000000000004000000000000000000000000000000000000300000000010000000000000000 F.kind = false) :
    Hub.rd (Hub.pathDelivers h ctx pathB) F iF bF = Hub.rd h F iF bF :=
  Hub.pathDelivers_same.rd (by decide) F iF bF eF

theorem Hub.mergeSop_canon {h : Hub} {pt : ℕ} {ctx : ℕ} {c : Cell} (H : Hub.Canon h) : Hub.Canon (Hub.mergeSop h pt ctx c).1 :=
  Hub.mergeSop_keeps (bears_canon 0xa800000000000004000000000000000000000000000000000010300000000010000000000000400) (Sub.refl _) H

theorem Hub.mergeSop_same {h : Hub} {pt : ℕ} {ctx : ℕ} {c : Cell} : Hub.Same 0xa800000000000004000000000000000000000000000000000010300000000010000000000000400 h (Hub.mergeSop h pt ctx c).1 :=
  Hub.mergeSop_keeps (bears_same 0xa800000000000004000000000000000000000000000000000010300000000010000000000000400 h) (Sub.refl _) (fun _ => Hub.Same.refl _ _) (by decide)

theorem Hub.mergeSop_rd {h : Hub} {pt : ℕ} {ctx : ℕ} {c : Cell} {F : Fld} {iF bF : Nat} (eF : Nat.testBit 0xa800000000000004000000000000000000000000000000000010300000000010000000000000400 F.kind = false) :
    Hub.rd (Hub.mergeSop h pt ctx c).1 F iF bF = Hub.rd h F iF bF :=
  Hub.mergeSop_same.rd (by decide) F iF bF eF

theorem Hub.copyDrop_canon {h : Hub} {c : Option Copy} (H : Hub.Canon h) : Hub.Canon (Hub.copyDrop h c) :=
  Hub.copyDrop_keeps (bears_canon 0x200000000000000000000000000) (Sub.refl _) H

theorem Hub.copyDrop_same {h : Hub} {c : Option Copy} : Hub.Same 0x200000000000000000000000000 h (Hub.copyDrop h c) :=
  Hub.copyDrop_keeps (bears_same 0x200000000000000000000000000 h) (Sub.refl _) (fun _ => Hub.Same.refl _ _) (by decide)

theorem Hub.copyDrop_rd {h : Hub} {c : Option Copy} {F : Fld} {iF bF : Nat} (eF : Nat.testBit 0x200000000000000000000000000 F.kind = false) :
    Hub.rd (Hub.copyDrop h c) F iF bF = Hub.rd h F iF bF :=
  Hub.copyDrop_same.rd (by decide) F iF bF eF

theorem Hub.countCell_canon {h : Hub} {o : OpenPk} (H : Hub.Canon h) : Hub.Canon (Hub.countCell h o) :=
  Hub.countCell_keeps (bears_canon 0x8000000000000000000000000000000000000000000000000000000000000000000000000000) (Sub.refl _) H

theorem Hub.countCell_same {h : Hub} {o : OpenPk} : Hub.Same 0x8000000000000000000000000000000000000000000000000000000000000000000000000000 h (Hub.countCell h o) :=
  Hub.countCell_keeps (bears_same 0x8000000000000000000000000000000000000000000000000000000000000000000000000000 h) (Sub.refl _) (fun _ => Hub.Same.refl _ _) (by decide)

theorem Hub.countCell_rd {h : Hub} {o : OpenPk} {F : Fld} {iF bF : Nat} (eF : Nat.testBit 0x8000000000000000000000000000000000000000000000000000000000000000000000000000 F.kind = false) :
    Hub.rd (Hub.countCell h o) F iF bF = Hub.rd h F iF bF :=
  Hub.countCell_same.rd (by decide) F iF bF eF

theorem Hub.copyEop_canon {h : Hub} {o : OpenPk} {poison : Bool} (H : Hub.Canon h) : Hub.Canon (Hub.copyEop h o poison) :=
  Hub.copyEop_keeps (bears_canon 0x200000000000000000000000000) (Sub.refl _) H

theorem Hub.copyEop_same {h : Hub} {o : OpenPk} {poison : Bool} : Hub.Same 0x200000000000000000000000000 h (Hub.copyEop h o poison) :=
  Hub.copyEop_keeps (bears_same 0x200000000000000000000000000 h) (Sub.refl _) (fun _ => Hub.Same.refl _ _) (by decide)

theorem Hub.copyEop_rd {h : Hub} {o : OpenPk} {poison : Bool} {F : Fld} {iF bF : Nat} (eF : Nat.testBit 0x200000000000000000000000000 F.kind = false) :
    Hub.rd (Hub.copyEop h o poison) F iF bF = Hub.rd h F iF bF :=
  Hub.copyEop_same.rd (by decide) F iF bF eF

theorem Hub.sopCell_canon {h : Hub} {pt : ℕ} {par : Bool} {c : Cell} (H : Hub.Canon h) : Hub.Canon (Hub.sopCell h pt par c) :=
  Hub.sopCell_keeps (bears_canon 0x5fa80800000000000400000000000000000000000000000000001030100010b030000000000000404) (Sub.refl _) H

theorem Hub.sopCell_same {h : Hub} {pt : ℕ} {par : Bool} {c : Cell} : Hub.Same 0x5fa80800000000000400000000000000000000000000000000001030100010b030000000000000404 h (Hub.sopCell h pt par c) :=
  Hub.sopCell_keeps (bears_same 0x5fa80800000000000400000000000000000000000000000000001030100010b030000000000000404 h) (Sub.refl _) (fun _ => Hub.Same.refl _ _) (by decide)

theorem Hub.sopCell_rd {h : Hub} {pt : ℕ} {par : Bool} {c : Cell} {F : Fld} {iF bF : Nat} (eF : Nat.testBit 0x5fa80800000000000400000000000000000000000000000000001030100010b030000000000000404 F.kind = false) :
    Hub.rd (Hub.sopCell h pt par c) F iF bF = Hub.rd h F iF bF :=
  Hub.sopCell_same.rd (by decide) F iF bF eF

theorem Hub.nextCell_canon {h : Hub} {k : ℕ} {par : Bool} {c : Cell} {o : OpenPk} (H : Hub.Canon h) : Hub.Canon (Hub.nextCell h k par c o) :=
  Hub.nextCell_keeps (bears_canon 0x5b280800000000000400000000000000000000000000000000001020100010b010000000000000404) (Sub.refl _) H

theorem Hub.nextCell_same {h : Hub} {k : ℕ} {par : Bool} {c : Cell} {o : OpenPk} : Hub.Same 0x5b280800000000000400000000000000000000000000000000001020100010b010000000000000404 h (Hub.nextCell h k par c o) :=
  Hub.nextCell_keeps (bears_same 0x5b280800000000000400000000000000000000000000000000001020100010b010000000000000404 h) (Sub.refl _) (fun _ => Hub.Same.refl _ _) (by decide)

theorem Hub.nextCell_rd {h : Hub} {k : ℕ} {par : Bool} {c : Cell} {o : OpenPk} {F : Fld} {iF bF : Nat} (eF : Nat.testBit 0x5b280800000000000400000000000000000000000000000000001020100010b010000000000000404 F.kind = false) :
    Hub.rd (Hub.nextCell h k par c o) F iF bF = Hub.rd h F iF bF :=
  Hub.nextCell_same.rd (by decide) F iF bF eF

theorem Hub.cellIn_canon {h : Hub} {pt : ℕ} {parityErr : Bool} {c : Cell} (H : Hub.Canon h) : Hub.Canon (Hub.cellIn h pt parityErr c) :=
  Hub.cellIn_keeps (bears_canon 0x5fa80800000000000400000000000000000000000000000000001030100010b030000000000000404) (Sub.refl _) H

theorem Hub.cellIn_same {h : Hub} {pt : ℕ} {parityErr : Bool} {c : Cell} : Hub.Same 0x5fa80800000000000400000000000000000000000000000000001030100010b030000000000000404 h (Hub.cellIn h pt parityErr c) :=
  Hub.cellIn_keeps (bears_same 0x5fa80800000000000400000000000000000000000000000000001030100010b030000000000000404 h) (Sub.refl _) (fun _ => Hub.Same.refl _ _) (by decide)

theorem Hub.cellIn_rd {h : Hub} {pt : ℕ} {parityErr : Bool} {c : Cell} {F : Fld} {iF bF : Nat} (eF : Nat.testBit 0x5fa80800000000000400000000000000000000000000000000001030100010b030000000000000404 F.kind = false) :
    Hub.rd (Hub.cellIn h pt parityErr c) F iF bF = Hub.rd h F iF bF :=
  Hub.cellIn_same.rd (by decide) F iF bF eF

theorem Hub.choose_canon {h : Hub} {e : ℕ} {cs : List Head} (H : Hub.Canon h) : Hub.Canon (Hub.choose h e cs).1 :=
  Hub.choose_keeps (bears_canon 0x100000000000000000000) (Sub.refl _) H

theorem Hub.choose_same {h : Hub} {e : ℕ} {cs : List Head} : Hub.Same 0x100000000000000000000 h (Hub.choose h e cs).1 :=
  Hub.choose_keeps (bears_same 0x100000000000000000000 h) (Sub.refl _) (fun _ => Hub.Same.refl _ _) (by decide)

theorem Hub.choose_rd {h : Hub} {e : ℕ} {cs : List Head} {F : Fld} {iF bF : Nat} (eF : Nat.testBit 0x100000000000000000000 F.kind = false) :
    Hub.rd (Hub.choose h e cs).1 F iF bF = Hub.rd h F iF bF :=
  Hub.choose_same.rd (by decide) F iF bF eF

theorem Hub.claspRetry_canon {h : Hub} {n : ℕ} (H : Hub.Canon h) : Hub.Canon (Hub.claspRetry h n) :=
  Hub.claspRetry_keeps (bears_canon 0x40000040800280200000000000c000001000000101010100000000000000010000000000000000000100010402) (Sub.refl _) H

theorem Hub.claspRetry_same {h : Hub} {n : ℕ} : Hub.Same 0x40000040800280200000000000c000001000000101010100000000000000010000000000000000000100010402 h (Hub.claspRetry h n) :=
  Hub.claspRetry_keeps (bears_same 0x40000040800280200000000000c000001000000101010100000000000000010000000000000000000100010402 h) (Sub.refl _) (fun _ => Hub.Same.refl _ _) (by decide)

theorem Hub.claspTrip_canon {h : Hub} {n : ℕ} {c : TripCause} (H : Hub.Canon h) : Hub.Canon (Hub.claspTrip h n c) :=
  Hub.claspTrip_keeps (bears_canon 0x400000000002800000000000004000000000000101010100000000000000010000000000000000000000000400) (Sub.refl _) H

theorem Hub.claspTrip_same {h : Hub} {n : ℕ} {c : TripCause} : Hub.Same 0x400000000002800000000000004000000000000101010100000000000000010000000000000000000000000400 h (Hub.claspTrip h n c) :=
  Hub.claspTrip_keeps (bears_same 0x400000000002800000000000004000000000000101010100000000000000010000000000000000000000000400 h) (Sub.refl _) (fun _ => Hub.Same.refl _ _) (by decide)

theorem Hub.claspTrip_rd {h : Hub} {n : ℕ} {c : TripCause} {F : Fld} {iF bF : Nat} (eF : Nat.testBit 0x400000000002800000000000004000000000000101010100000000000000010000000000000000000000000400 F.kind = false) :
    Hub.rd (Hub.claspTrip h n c) F iF bF = Hub.rd h F iF bF :=
  Hub.claspTrip_same.rd (by decide) F iF bF eF

theorem Hub.clearConfig_canon {h : Hub} (H : Hub.Canon h) : Hub.Canon (Hub.clearConfig h) :=
  Hub.clearConfig_keeps (bears_canon 0x200000000000000000000000000000000) (Sub.refl _) H

theorem Hub.clearConfig_same {h : Hub} : Hub.Same 0x200000000000000000000000000000000 h (Hub.clearConfig h) :=
  Hub.clearConfig_keeps (bears_same 0x200000000000000000000000000000000 h) (Sub.refl _) (fun _ => Hub.Same.refl _ _) (by decide)

theorem Hub.clearConfig_rd {h : Hub} {F : Fld} {iF bF : Nat} (eF : Nat.testBit 0x200000000000000000000000000000000 F.kind = false) :
    Hub.rd (Hub.clearConfig h) F iF bF = Hub.rd h F iF bF :=
  Hub.clearConfig_same.rd (by decide) F iF bF eF

theorem Hub.clearTables_canon {h : Hub} {d : Nat} (H : Hub.Canon h) : Hub.Canon (h.clearTables d) :=
  Hub.clearTables_keeps (bears_canon 0x8000000000000000000000000000000000000000000000000000000000000000000000000000) (Sub.refl _) H

theorem Hub.clearTables_same {h : Hub} {d : Nat} : Hub.Same 0x8000000000000000000000000000000000000000000000000000000000000000000000000000 h (h.clearTables d) :=
  Hub.clearTables_keeps (bears_same 0x8000000000000000000000000000000000000000000000000000000000000000000000000000 h) (Sub.refl _) (fun _ => Hub.Same.refl _ _) (by decide)

theorem Hub.clearTables_rd {h : Hub} {d : Nat} {F : Fld} {iF bF : Nat} (eF : Nat.testBit 0x8000000000000000000000000000000000000000000000000000000000000000000000000000 F.kind = false) :
    Hub.rd (h.clearTables d) F iF bF = Hub.rd h F iF bF :=
  Hub.clearTables_same.rd (by decide) F iF bF eF

theorem Hub.clearDomain_canon {h : Hub} {d : Nat} (H : Hub.Canon h) : Hub.Canon (h.clearDomain d) :=
  Hub.clearDomain_keeps (bears_canon 0x1ff875c3dffbfffbb97a00000000000c00000000000010101010007000001010021000000010b030000000100001d1e) (Sub.refl _) H

theorem Hub.clearDomain_same {h : Hub} {d : Nat} : Hub.Same 0x1ff875c3dffbfffbb97a00000000000c00000000000010101010007000001010021000000010b030000000100001d1e h (h.clearDomain d) :=
  Hub.clearDomain_keeps (bears_same 0x1ff875c3dffbfffbb97a00000000000c00000000000010101010007000001010021000000010b030000000100001d1e h) (Sub.refl _) (fun _ => Hub.Same.refl _ _) (by decide)

theorem Hub.inForce_canon {h : Hub} {n : ℕ} {icur : ℕ} {ilim : ℕ} (H : Hub.Canon h) : Hub.Canon (Hub.inForce h n icur ilim) :=
  Hub.inForce_keeps (bears_canon 0x4000000000000101010100000000000000000000000000000000000000000000) (Sub.refl _) H

theorem Hub.inForce_same {h : Hub} {n : ℕ} {icur : ℕ} {ilim : ℕ} : Hub.Same 0x4000000000000101010100000000000000000000000000000000000000000000 h (Hub.inForce h n icur ilim) :=
  Hub.inForce_keeps (bears_same 0x4000000000000101010100000000000000000000000000000000000000000000 h) (Sub.refl _) (fun _ => Hub.Same.refl _ _) (by decide)

theorem Hub.inForce_rd {h : Hub} {n : ℕ} {icur : ℕ} {ilim : ℕ} {F : Fld} {iF bF : Nat} (eF : Nat.testBit 0x4000000000000101010100000000000000000000000000000000000000000000 F.kind = false) :
    Hub.rd (Hub.inForce h n icur ilim) F iF bF = Hub.rd h F iF bF :=
  Hub.inForce_same.rd (by decide) F iF bF eF

theorem Hub.sourceReady_canon {h : Hub} {n : ℕ} (H : Hub.Canon h) : Hub.Canon (Hub.sourceReady h n) :=
  Hub.sourceReady_keeps (bears_canon 0x40000040800280200000000000c000001000000101010100000000000000010000000000000000000100010402) (Sub.refl _) H

theorem Hub.sourceReady_same {h : Hub} {n : ℕ} : Hub.Same 0x40000040800280200000000000c000001000000101010100000000000000010000000000000000000100010402 h (Hub.sourceReady h n) :=
  Hub.sourceReady_keeps (bears_same 0x40000040800280200000000000c000001000000101010100000000000000010000000000000000000100010402 h) (Sub.refl _) (fun _ => Hub.Same.refl _ _) (by decide)

theorem Hub.closure_canon {h : Hub} {n : ℕ} (H : Hub.Canon h) : Hub.Canon (Hub.closure h n) :=
  Hub.closure_keeps (bears_canon 0x40000040800280200000000000c000001000000101010100000000000000010000000000000000000100010402) (Sub.refl _) H

theorem Hub.closure_same {h : Hub} {n : ℕ} : Hub.Same 0x40000040800280200000000000c000001000000101010100000000000000010000000000000000000100010402 h (Hub.closure h n) :=
  Hub.closure_keeps (bears_same 0x40000040800280200000000000c000001000000101010100000000000000010000000000000000000100010402 h) (Sub.refl _) (fun _ => Hub.Same.refl _ _) (by decide)

theorem Hub.schCommit_canon {h : Hub} {e : ℕ} (H : Hub.Canon h) : Hub.Canon (Hub.schCommit h e) :=
  Hub.schCommit_keeps (bears_canon 0x400002000000000008000001000000000000000000000000000000000000100000000000000000000) (Sub.refl _) H

theorem Hub.schCommit_same {h : Hub} {e : ℕ} : Hub.Same 0x400002000000000008000001000000000000000000000000000000000000100000000000000000000 h (Hub.schCommit h e) :=
  Hub.schCommit_keeps (bears_same 0x400002000000000008000001000000000000000000000000000000000000100000000000000000000 h) (Sub.refl _) (fun _ => Hub.Same.refl _ _) (by decide)

theorem Hub.headCommit_canon {n : ℕ} {h : Hub} (H : Hub.Canon h) : Hub.Canon (Hub.headCommit n h) :=
  Hub.headCommit_keeps (bears_canon 0x280a00000000000c000001000000000000000000000000000830000000000000000000000000402) (Sub.refl _) H

theorem Hub.headCommit_same {n : ℕ} {h : Hub} : Hub.Same 0x280a00000000000c000001000000000000000000000000000830000000000000000000000000402 h (Hub.headCommit n h) :=
  Hub.headCommit_keeps (bears_same 0x280a00000000000c000001000000000000000000000000000830000000000000000000000000402 h) (Sub.refl _) (fun _ => Hub.Same.refl _ _) (by decide)

theorem Hub.commitAt_canon {h : Hub} {pg : ℕ} (H : Hub.Canon h) : Hub.Canon (Hub.commitAt h pg) :=
  Hub.commitAt_keeps (bears_canon 0x40280a00000000000c000001000000000000000000000000000830000000100000000000000000402) (Sub.refl _) H

theorem Hub.commitAt_same {h : Hub} {pg : ℕ} : Hub.Same 0x40280a00000000000c000001000000000000000000000000000830000000100000000000000000402 h (Hub.commitAt h pg) :=
  Hub.commitAt_keeps (bears_same 0x40280a00000000000c000001000000000000000000000000000830000000100000000000000000402 h) (Sub.refl _) (fun _ => Hub.Same.refl _ _) (by decide)

theorem Hub.corrected_canon {num : ℕ} {h : Hub} (H : Hub.Canon h) : Hub.Canon (Hub.corrected num h) :=
  Hub.corrected_keeps (bears_canon 0x1000000000000000000) (Sub.refl _) H

theorem Hub.corrected_same {num : ℕ} {h : Hub} : Hub.Same 0x1000000000000000000 h (Hub.corrected num h) :=
  Hub.corrected_keeps (bears_same 0x1000000000000000000 h) (Sub.refl _) (fun _ => Hub.Same.refl _ _) (by decide)

theorem Hub.corrected_rd {num : ℕ} {h : Hub} {F : Fld} {iF bF : Nat} (eF : Nat.testBit 0x1000000000000000000 F.kind = false) :
    Hub.rd (Hub.corrected num h) F iF bF = Hub.rd h F iF bF :=
  Hub.corrected_same.rd (by decide) F iF bF eF

theorem Hub.grantSend_canon {p : ℕ} {h : Hub} (H : Hub.Canon h) : Hub.Canon (Hub.grantSend p h) :=
  Hub.grantSend_keeps (bears_canon 0x8000000000000000000000000000000000000000000000000000000000000000000000000000000000) (Sub.refl _) H

theorem Hub.grantSend_same {p : ℕ} {h : Hub} : Hub.Same 0x8000000000000000000000000000000000000000000000000000000000000000000000000000000000 h (Hub.grantSend p h) :=
  Hub.grantSend_keeps (bears_same 0x8000000000000000000000000000000000000000000000000000000000000000000000000000000000 h) (Sub.refl _) (fun _ => Hub.Same.refl _ _) (by decide)

theorem Hub.grantSend_rd {p : ℕ} {h : Hub} {F : Fld} {iF bF : Nat} (eF : Nat.testBit 0x8000000000000000000000000000000000000000000000000000000000000000000000000000000000 F.kind = false) :
    Hub.rd (Hub.grantSend p h) F iF bF = Hub.rd h F iF bF :=
  Hub.grantSend_same.rd (by decide) F iF bF eF

theorem Hub.lateChild_canon {h : Hub} {p : ℕ} {n : ℕ} (H : Hub.Canon h) : Hub.Canon (Hub.lateChild h p n) :=
  Hub.lateChild_keeps (bears_canon 0x2800a808000000000004000000000000000000000000000000000010100000000030000000000000400) (Sub.refl _) H

theorem Hub.lateChild_same {h : Hub} {p : ℕ} {n : ℕ} : Hub.Same 0x2800a808000000000004000000000000000000000000000000000010100000000030000000000000400 h (Hub.lateChild h p n) :=
  Hub.lateChild_keeps (bears_same 0x2800a808000000000004000000000000000000000000000000000010100000000030000000000000400 h) (Sub.refl _) (fun _ => Hub.Same.refl _ _) (by decide)

theorem Hub.lateChild_rd {h : Hub} {p : ℕ} {n : ℕ} {F : Fld} {iF bF : Nat} (eF : Nat.testBit 0x2800a808000000000004000000000000000000000000000000000010100000000030000000000000400 F.kind = false) :
    Hub.rd (Hub.lateChild h p n) F iF bF = Hub.rd h F iF bF :=
  Hub.lateChild_same.rd (by decide) F iF bF eF

theorem Hub.nodeReadySend_canon {h : Hub} (H : Hub.Canon h) : Hub.Canon (Hub.nodeReadySend h) :=
  Hub.nodeReadySend_keeps (bears_canon 0x8000000000000000000000000000000000000000000000000000000000000010000000000000000) (Sub.refl _) H

theorem Hub.nodeReadySend_same {h : Hub} : Hub.Same 0x8000000000000000000000000000000000000000000000000000000000000010000000000000000 h (Hub.nodeReadySend h) :=
  Hub.nodeReadySend_keeps (bears_same 0x8000000000000000000000000000000000000000000000000000000000000010000000000000000 h) (Sub.refl _) (fun _ => Hub.Same.refl _ _) (by decide)

theorem Hub.nodeReadySend_rd {h : Hub} {F : Fld} {iF bF : Nat} (eF : Nat.testBit 0x8000000000000000000000000000000000000000000000000000000000000010000000000000000 F.kind = false) :
    Hub.rd (Hub.nodeReadySend h) F iF bF = Hub.rd h F iF bF :=
  Hub.nodeReadySend_same.rd (by decide) F iF bF eF

theorem Hub.takeBlock_canon {h : Hub} {first size : Nat} (H : Hub.Canon h) : Hub.Canon (h.takeBlock first size) :=
  Hub.takeBlock_keeps (bears_canon 0x2800a808000000000004000400000000000000000000000000000010102000000030000000000000400) (Sub.refl _) H

theorem Hub.takeBlock_same {h : Hub} {first size : Nat} : Hub.Same 0x2800a808000000000004000400000000000000000000000000000010102000000030000000000000400 h (h.takeBlock first size) :=
  Hub.takeBlock_keeps (bears_same 0x2800a808000000000004000400000000000000000000000000000010102000000030000000000000400 h) (Sub.refl _) (fun _ => Hub.Same.refl _ _) (by decide)

theorem Hub.takeBlock_rd {h : Hub} {first size : Nat} {F : Fld} {iF bF : Nat} (eF : Nat.testBit 0x2800a808000000000004000400000000000000000000000000000010102000000030000000000000400 F.kind = false) :
    Hub.rd (h.takeBlock first size) F iF bF = Hub.rd h F iF bF :=
  Hub.takeBlock_same.rd (by decide) F iF bF eF

theorem Hub.crownGrant_canon {h : Hub} (H : Hub.Canon h) : Hub.Canon (Hub.crownGrant h) :=
  Hub.crownGrant_keeps (bears_canon 0x2800a808000000000004000400000000000000000000000000000010102000000030000000000000400) (Sub.refl _) H

theorem Hub.crownGrant_same {h : Hub} : Hub.Same 0x2800a808000000000004000400000000000000000000000000000010102000000030000000000000400 h (Hub.crownGrant h) :=
  Hub.crownGrant_keeps (bears_same 0x2800a808000000000004000400000000000000000000000000000010102000000030000000000000400 h) (Sub.refl _) (fun _ => Hub.Same.refl _ _) (by decide)

theorem Hub.crownGrant_rd {h : Hub} {F : Fld} {iF bF : Nat} (eF : Nat.testBit 0x2800a808000000000004000400000000000000000000000000000010102000000030000000000000400 F.kind = false) :
    Hub.rd (Hub.crownGrant h) F iF bF = Hub.rd h F iF bF :=
  Hub.crownGrant_same.rd (by decide) F iF bF eF

theorem Hub.countIn_canon {h : Hub} {p : ℕ} {n : ℕ} (H : Hub.Canon h) : Hub.Canon (Hub.countIn h p n) :=
  Hub.countIn_keeps (bears_canon 0x2800a808000000000004000400000000000000000000000000000010102000000030000000000000400) (Sub.refl _) H

theorem Hub.countIn_same {h : Hub} {p : ℕ} {n : ℕ} : Hub.Same 0x2800a808000000000004000400000000000000000000000000000010102000000030000000000000400 h (Hub.countIn h p n) :=
  Hub.countIn_keeps (bears_same 0x2800a808000000000004000400000000000000000000000000000010102000000030000000000000400 h) (Sub.refl _) (fun _ => Hub.Same.refl _ _) (by decide)

theorem Hub.countIn_rd {h : Hub} {p : ℕ} {n : ℕ} {F : Fld} {iF bF : Nat} (eF : Nat.testBit 0x2800a808000000000004000400000000000000000000000000000010102000000030000000000000400 F.kind = false) :
    Hub.rd (Hub.countIn h p n) F iF bF = Hub.rd h F iF bF :=
  Hub.countIn_same.rd (by decide) F iF bF eF

theorem Hub.countSent_canon {e : ℕ} {x : OutCell} {h : Hub} (H : Hub.Canon h) : Hub.Canon (Hub.countSent e x h) :=
  Hub.countSent_keeps (bears_canon 0x100000000000000000000) (Sub.refl _) H

theorem Hub.countSent_same {e : ℕ} {x : OutCell} {h : Hub} : Hub.Same 0x100000000000000000000 h (Hub.countSent e x h) :=
  Hub.countSent_keeps (bears_same 0x100000000000000000000 h) (Sub.refl _) (fun _ => Hub.Same.refl _ _) (by decide)

theorem Hub.countSent_rd {e : ℕ} {x : OutCell} {h : Hub} {F : Fld} {iF bF : Nat} (eF : Nat.testBit 0x100000000000000000000 F.kind = false) :
    Hub.rd (Hub.countSent e x h) F iF bF = Hub.rd h F iF bF :=
  Hub.countSent_same.rd (by decide) F iF bF eF

theorem Hub.stray_canon {h : Hub} (H : Hub.Canon h) : Hub.Canon (Hub.stray h) :=
  Hub.stray_keeps (bears_canon 0x2800000000000004000000000000000000000040000000000010000000000000000000000000400) (Sub.refl _) H

theorem Hub.stray_same {h : Hub} : Hub.Same 0x2800000000000004000000000000000000000040000000000010000000000000000000000000400 h (Hub.stray h) :=
  Hub.stray_keeps (bears_same 0x2800000000000004000000000000000000000040000000000010000000000000000000000000400 h) (Sub.refl _) (fun _ => Hub.Same.refl _ _) (by decide)

theorem Hub.stray_rd {h : Hub} {F : Fld} {iF bF : Nat} (eF : Nat.testBit 0x2800000000000004000000000000000000000040000000000010000000000000000000000000400 F.kind = false) :
    Hub.rd (Hub.stray h) F iF bF = Hub.rd h F iF bF :=
  Hub.stray_same.rd (by decide) F iF bF eF

theorem Hub.ringsGo_canon {h : Hub} (H : Hub.Canon h) : Hub.Canon (Hub.ringsGo h) :=
  Hub.ringsGo_keeps (bears_canon 0xc0000000000808000000000004000000000000000000000040000000000000000000000000000000000000000) (Sub.refl _) H

theorem Hub.ringsGo_same {h : Hub} : Hub.Same 0xc0000000000808000000000004000000000000000000000040000000000000000000000000000000000000000 h (Hub.ringsGo h) :=
  Hub.ringsGo_keeps (bears_same 0xc0000000000808000000000004000000000000000000000040000000000000000000000000000000000000000 h) (Sub.refl _) (fun _ => Hub.Same.refl _ _) (by decide)

theorem Hub.ringsGo_rd {h : Hub} {F : Fld} {iF bF : Nat} (eF : Nat.testBit 0xc0000000000808000000000004000000000000000000000040000000000000000000000000000000000000000 F.kind = false) :
    Hub.rd (Hub.ringsGo h) F iF bF = Hub.rd h F iF bF :=
  Hub.ringsGo_same.rd (by decide) F iF bF eF

theorem Hub.cplIn_canon {h : Hub} {tid : ℕ} {c : UsbCpl} {data : Bytes} (H : Hub.Canon h) : Hub.Canon (Hub.cplIn h tid c data) :=
  Hub.cplIn_keeps (bears_canon 0xc0000000002808000000000004000000000000000000000040000000000010000000000000000000000000400) (Sub.refl _) H

theorem Hub.cplIn_same {h : Hub} {tid : ℕ} {c : UsbCpl} {data : Bytes} : Hub.Same 0xc0000000002808000000000004000000000000000000000040000000000010000000000000000000000000400 h (Hub.cplIn h tid c data) :=
  Hub.cplIn_keeps (bears_same 0xc0000000002808000000000004000000000000000000000040000000000010000000000000000000000000400 h) (Sub.refl _) (fun _ => Hub.Same.refl _ _) (by decide)

theorem Hub.cplIn_rd {h : Hub} {tid : ℕ} {c : UsbCpl} {data : Bytes} {F : Fld} {iF bF : Nat} (eF : Nat.testBit 0xc0000000002808000000000004000000000000000000000040000000000010000000000000000000000000400 F.kind = false) :
    Hub.rd (Hub.cplIn h tid c data) F iF bF = Hub.rd h F iF bF :=
  Hub.cplIn_same.rd (by decide) F iF bF eF

theorem Hub.cpldIn_canon {h : Hub} {tid : ℕ} {c : TxbHdr} {data : Bytes} (H : Hub.Canon h) : Hub.Canon (Hub.cpldIn h tid c data) :=
  Hub.cpldIn_keeps (bears_canon 0x3e0000000000000000000000000000000000000000000000000000300000000000000000000000000000000) (Sub.refl _) H

theorem Hub.cpldIn_same {h : Hub} {tid : ℕ} {c : TxbHdr} {data : Bytes} : Hub.Same 0x3e0000000000000000000000000000000000000000000000000000300000000000000000000000000000000 h (Hub.cpldIn h tid c data) :=
  Hub.cpldIn_keeps (bears_same 0x3e0000000000000000000000000000000000000000000000000000300000000000000000000000000000000 h) (Sub.refl _) (fun _ => Hub.Same.refl _ _) (by decide)

theorem Hub.cpldIn_rd {h : Hub} {tid : ℕ} {c : TxbHdr} {data : Bytes} {F : Fld} {iF bF : Nat} (eF : Nat.testBit 0x3e0000000000000000000000000000000000000000000000000000300000000000000000000000000000000 F.kind = false) :
    Hub.rd (Hub.cpldIn h tid c data) F iF bF = Hub.rd h F iF bF :=
  Hub.cpldIn_same.rd (by decide) F iF bF eF

theorem Hub.creditIn_canon {h : Hub} {p : ℕ} {v : ℕ} (H : Hub.Canon h) : Hub.Canon (Hub.creditIn h p v) :=
  Hub.creditIn_keeps (bears_canon 0x10000) (Sub.refl _) H

theorem Hub.creditIn_same {h : Hub} {p : ℕ} {v : ℕ} : Hub.Same 0x10000 h (Hub.creditIn h p v) :=
  Hub.creditIn_keeps (bears_same 0x10000 h) (Sub.refl _) (fun _ => Hub.Same.refl _ _) (by decide)

theorem Hub.creditIn_rd {h : Hub} {p : ℕ} {v : ℕ} {F : Fld} {iF bF : Nat} (eF : Nat.testBit 0x10000 F.kind = false) :
    Hub.rd (Hub.creditIn h p v) F iF bF = Hub.rd h F iF bF :=
  Hub.creditIn_same.rd (by decide) F iF bF eF

theorem Hub.crownWork_canon {h : Hub} (H : Hub.Canon h) : Hub.Canon (Hub.crownWork h) :=
  Hub.crownWork_keeps (bears_canon 0x1808800000000000000000000000000000000000000000000000000100000000010000000000000000) (Sub.refl _) H

theorem Hub.crownWork_same {h : Hub} : Hub.Same 0x1808800000000000000000000000000000000000000000000000000100000000010000000000000000 h (Hub.crownWork h) :=
  Hub.crownWork_keeps (bears_same 0x1808800000000000000000000000000000000000000000000000000100000000010000000000000000 h) (Sub.refl _) (fun _ => Hub.Same.refl _ _) (by decide)

theorem Hub.crownWork_rd {h : Hub} {F : Fld} {iF bF : Nat} (eF : Nat.testBit 0x1808800000000000000000000000000000000000000000000000000100000000010000000000000000 F.kind = false) :
    Hub.rd (Hub.crownWork h) F iF bF = Hub.rd h F iF bF :=
  Hub.crownWork_same.rd (by decide) F iF bF eF

theorem Hub.crtAnswer_canon {h : Hub} {src : ℕ} {tok : ℕ} {typ : ℕ} {tid : ℕ} {txn : ℕ} {a : CrtAns} (H : Hub.Canon h) : Hub.Canon (Hub.crtAnswer h src tok typ tid txn a) :=
  Hub.crtAnswer_keeps (bears_canon 0xa800000000000004000000000000000000000000000000000010002000000000000000000000400) (Sub.refl _) H

theorem Hub.crtAnswer_same {h : Hub} {src : ℕ} {tok : ℕ} {typ : ℕ} {tid : ℕ} {txn : ℕ} {a : CrtAns} : Hub.Same 0xa800000000000004000000000000000000000000000000000010002000000000000000000000400 h (Hub.crtAnswer h src tok typ tid txn a) :=
  Hub.crtAnswer_keeps (bears_same 0xa800000000000004000000000000000000000000000000000010002000000000000000000000400 h) (Sub.refl _) (fun _ => Hub.Same.refl _ _) (by decide)

theorem Hub.crtAnswer_rd {h : Hub} {src : ℕ} {tok : ℕ} {typ : ℕ} {tid : ℕ} {txn : ℕ} {a : CrtAns} {F : Fld} {iF bF : Nat} (eF : Nat.testBit 0xa800000000000004000000000000000000000000000000000010002000000000000000000000400 F.kind = false) :
    Hub.rd (Hub.crtAnswer h src tok typ tid txn a) F iF bF = Hub.rd h F iF bF :=
  Hub.crtAnswer_same.rd (by decide) F iF bF eF

theorem Hub.depose_canon {h : Hub} (H : Hub.Canon h) : Hub.Canon (Hub.depose h) :=
  Hub.depose_keeps (bears_canon 0xc00000000000780a800000000000004000000000000000000000000000000000010100000000010000000000000400) (Sub.refl _) H

theorem Hub.depose_same {h : Hub} : Hub.Same 0xc00000000000780a800000000000004000000000000000000000000000000000010100000000010000000000000400 h (Hub.depose h) :=
  Hub.depose_keeps (bears_same 0xc00000000000780a800000000000004000000000000000000000000000000000010100000000010000000000000400 h) (Sub.refl _) (fun _ => Hub.Same.refl _ _) (by decide)

theorem Hub.depose_rd {h : Hub} {F : Fld} {iF bF : Nat} (eF : Nat.testBit 0xc00000000000780a800000000000004000000000000000000000000000000000010100000000010000000000000400 F.kind = false) :
    Hub.rd (Hub.depose h) F iF bF = Hub.rd h F iF bF :=
  Hub.depose_same.rd (by decide) F iF bF eF

theorem Hub.switchOff_canon {h : Hub} {d : ℕ} (H : Hub.Canon h) : Hub.Canon (Hub.switchOff h d) :=
  Hub.switchOff_keeps (bears_canon 0x1ff875c3dffbfffbb97a00000000000c000641000000101010100070000010701a3030200010f030000000100015d1e) (Sub.refl _) H

theorem Hub.switchOff_same {h : Hub} {d : ℕ} : Hub.Same 0x1ff875c3dffbfffbb97a00000000000c000641000000101010100070000010701a3030200010f030000000100015d1e h (Hub.switchOff h d) :=
  Hub.switchOff_keeps (bears_same 0x1ff875c3dffbfffbb97a00000000000c000641000000101010100070000010701a3030200010f030000000100015d1e h) (Sub.refl _) (fun _ => Hub.Same.refl _ _) (by decide)

theorem Hub.saveKept_canon {h : Hub} {d : ℕ} (H : Hub.Canon h) : Hub.Canon (Hub.saveKept h d) :=
  Hub.saveKept_keeps (bears_canon 0x804000000000000000000000000000000000000000000000000000000000000000000000000020) (Sub.refl _) H

theorem Hub.saveKept_same {h : Hub} {d : ℕ} : Hub.Same 0x804000000000000000000000000000000000000000000000000000000000000000000000000020 h (Hub.saveKept h d) :=
  Hub.saveKept_keeps (bears_same 0x804000000000000000000000000000000000000000000000000000000000000000000000000020 h) (Sub.refl _) (fun _ => Hub.Same.refl _ _) (by decide)

theorem Hub.saveKept_rd {h : Hub} {d : ℕ} {F : Fld} {iF bF : Nat} (eF : Nat.testBit 0x804000000000000000000000000000000000000000000000000000000000000000000000000020 F.kind = false) :
    Hub.rd (Hub.saveKept h d) F iF bF = Hub.rd h F iF bF :=
  Hub.saveKept_same.rd (by decide) F iF bF eF

theorem Hub.domainOff_canon {h : Hub} {d : ℕ} {left : List ℕ} (H : Hub.Canon h) : Hub.Canon (Hub.domainOff h d left) :=
  Hub.domainOff_keeps (bears_canon 0x1ff875c3dffbfffbb97e00000000000c000641000000101010100070000010701a3030200010f030000000100015d3e) (Sub.refl _) H

theorem Hub.domainOff_same {h : Hub} {d : ℕ} {left : List ℕ} : Hub.Same 0x1ff875c3dffbfffbb97e00000000000c000641000000101010100070000010701a3030200010f030000000100015d3e h (Hub.domainOff h d left) :=
  Hub.domainOff_keeps (bears_same 0x1ff875c3dffbfffbb97e00000000000c000641000000101010100070000010701a3030200010f030000000100015d3e h) (Sub.refl _) (fun _ => Hub.Same.refl _ _) (by decide)

theorem Hub.gateFollow_canon {h : Hub} (H : Hub.Canon h) : Hub.Canon (Hub.gateFollow h) :=
  Hub.gateFollow_keeps (bears_canon 0x2) (Sub.refl _) H

theorem Hub.gateFollow_same {h : Hub} : Hub.Same 0x2 h (Hub.gateFollow h) :=
  Hub.gateFollow_keeps (bears_same 0x2 h) (Sub.refl _) (fun _ => Hub.Same.refl _ _) (by decide)

theorem Hub.gateFollow_rd {h : Hub} {F : Fld} {iF bF : Nat} (eF : Nat.testBit 0x2 F.kind = false) :
    Hub.rd (Hub.gateFollow h) F iF bF = Hub.rd h F iF bF :=
  Hub.gateFollow_same.rd (by decide) F iF bF eF

theorem Hub.startPage_canon {pg : ℕ} {h : Hub} (H : Hub.Canon h) : Hub.Canon (Hub.startPage pg h) :=
  Hub.startPage_keeps (bears_canon 0x280200000000000c000001000000000000000000000010100030000000000000000000100010412) (Sub.refl _) H

theorem Hub.startPage_same {pg : ℕ} {h : Hub} : Hub.Same 0x280200000000000c000001000000000000000000000010100030000000000000000000100010412 h (Hub.startPage pg h) :=
  Hub.startPage_keeps (bears_same 0x280200000000000c000001000000000000000000000010100030000000000000000000100010412 h) (Sub.refl _) (fun _ => Hub.Same.refl _ _) (by decide)

theorem Hub.heldResume_canon {h : Hub} (H : Hub.Canon h) : Hub.Canon (Hub.heldResume h) :=
  Hub.heldResume_keeps (bears_canon 0x40000000000000000000000004000000000000000000000010000000000000000000000000000000000000000) (Sub.refl _) H

theorem Hub.heldResume_same {h : Hub} : Hub.Same 0x40000000000000000000000004000000000000000000000010000000000000000000000000000000000000000 h (Hub.heldResume h) :=
  Hub.heldResume_keeps (bears_same 0x40000000000000000000000004000000000000000000000010000000000000000000000000000000000000000 h) (Sub.refl _) (fun _ => Hub.Same.refl _ _) (by decide)

theorem Hub.heldResume_rd {h : Hub} {F : Fld} {iF bF : Nat} (eF : Nat.testBit 0x40000000000000000000000004000000000000000000000010000000000000000000000000000000000000000 F.kind = false) :
    Hub.rd (Hub.heldResume h) F iF bF = Hub.rd h F iF bF :=
  Hub.heldResume_same.rd (by decide) F iF bF eF

theorem Hub.lumeMode_canon {h : Hub} {p : ℕ} {scene : Bool} (H : Hub.Canon h) : Hub.Canon (Hub.lumeMode h p scene) :=
  Hub.lumeMode_keeps (bears_canon 0x4000000000000000000000000004000000000000000000000000000000000000) (Sub.refl _) H

theorem Hub.lumeMode_same {h : Hub} {p : ℕ} {scene : Bool} : Hub.Same 0x4000000000000000000000000004000000000000000000000000000000000000 h (Hub.lumeMode h p scene) :=
  Hub.lumeMode_keeps (bears_same 0x4000000000000000000000000004000000000000000000000000000000000000 h) (Sub.refl _) (fun _ => Hub.Same.refl _ _) (by decide)

theorem Hub.lumeMode_rd {h : Hub} {p : ℕ} {scene : Bool} {F : Fld} {iF bF : Nat} (eF : Nat.testBit 0x4000000000000000000000000004000000000000000000000000000000000000 F.kind = false) :
    Hub.rd (Hub.lumeMode h p scene) F iF bF = Hub.rd h F iF bF :=
  Hub.lumeMode_same.rd (by decide) F iF bF eF

theorem Hub.domainOn_canon {h : Hub} {d : ℕ} (H : Hub.Canon h) : Hub.Canon (Hub.domainOn h d) :=
  Hub.domainOn_keeps (bears_canon 0x14000000000280a00000000000c00080300000010101010007000401010003000000000000000000010001241b) (Sub.refl _) H

theorem Hub.domainOn_same {h : Hub} {d : ℕ} : Hub.Same 0x14000000000280a00000000000c00080300000010101010007000401010003000000000000000000010001241b h (Hub.domainOn h d) :=
  Hub.domainOn_keeps (bears_same 0x14000000000280a00000000000c00080300000010101010007000401010003000000000000000000010001241b h) (Sub.refl _) (fun _ => Hub.Same.refl _ _) (by decide)

theorem Hub.restoreKept_canon {h : Hub} {d : Nat} {crcOk : Bool} (H : Hub.Canon h) : Hub.Canon (h.restoreKept d crcOk) :=
  Hub.restoreKept_keeps (bears_canon 0x280400000000000c000000000000000000000000000000000010000000000000000000000000421) (Sub.refl _) H

theorem Hub.restoreKept_same {h : Hub} {d : Nat} {crcOk : Bool} : Hub.Same 0x280400000000000c000000000000000000000000000000000010000000000000000000000000421 h (h.restoreKept d crcOk) :=
  Hub.restoreKept_keeps (bears_same 0x280400000000000c000000000000000000000000000000000010000000000000000000000000421 h) (Sub.refl _) (fun _ => Hub.Same.refl _ _) (by decide)

theorem Hub.domainUp_canon {h : Hub} {d : ℕ} {crcOk : Bool} (H : Hub.Canon h) : Hub.Canon (Hub.domainUp h d crcOk) :=
  Hub.domainUp_keeps (bears_canon 0x1ff875c3dffbfffbb97e00000000000c00004000000010101010007000001030021000000010b030000000100001d3f) (Sub.refl _) H

theorem Hub.domainUp_same {h : Hub} {d : ℕ} {crcOk : Bool} : Hub.Same 0x1ff875c3dffbfffbb97e00000000000c00004000000010101010007000001030021000000010b030000000100001d3f h (Hub.domainUp h d crcOk) :=
  Hub.domainUp_keeps (bears_same 0x1ff875c3dffbfffbb97e00000000000c00004000000010101010007000001030021000000010b030000000100001d3f h) (Sub.refl _) (fun _ => Hub.Same.refl _ _) (by decide)

theorem Hub.dpConfigure_canon {h : Hub} {k : Fin 2} {pinD : Bool} (H : Hub.Canon h) : Hub.Canon (Hub.dpConfigure h k pinD) :=
  Hub.dpConfigure_keeps (bears_canon 0x800000000000000000000000004000000000000000010000000000000000200000000000000000000000000000) (Sub.refl _) H

theorem Hub.dpConfigure_same {h : Hub} {k : Fin 2} {pinD : Bool} : Hub.Same 0x800000000000000000000000004000000000000000010000000000000000200000000000000000000000000000 h (Hub.dpConfigure h k pinD) :=
  Hub.dpConfigure_keeps (bears_same 0x800000000000000000000000004000000000000000010000000000000000200000000000000000000000000000 h) (Sub.refl _) (fun _ => Hub.Same.refl _ _) (by decide)

theorem Hub.dpConfigure_rd {h : Hub} {k : Fin 2} {pinD : Bool} {F : Fld} {iF bF : Nat} (eF : Nat.testBit 0x800000000000000000000000004000000000000000010000000000000000200000000000000000000000000000 F.kind = false) :
    Hub.rd (Hub.dpConfigure h k pinD) F iF bF = Hub.rd h F iF bF :=
  Hub.dpConfigure_same.rd (by decide) F iF bF eF

theorem Hub.waitLink_canon {h : Hub} {n : ℕ} (H : Hub.Canon h) : Hub.Canon (Hub.waitLink h n) :=
  Hub.waitLink_keeps (bears_canon 0x2800000000000004000000000000000000000000000000000030000000000000000000000000402) (Sub.refl _) H

theorem Hub.waitLink_same {h : Hub} {n : ℕ} : Hub.Same 0x2800000000000004000000000000000000000000000000000030000000000000000000000000402 h (Hub.waitLink h n) :=
  Hub.waitLink_keeps (bears_same 0x2800000000000004000000000000000000000000000000000030000000000000000000000000402 h) (Sub.refl _) (fun _ => Hub.Same.refl _ _) (by decide)

theorem Hub.waitLink_rd {h : Hub} {n : ℕ} {F : Fld} {iF bF : Nat} (eF : Nat.testBit 0x2800000000000004000000000000000000000000000000000030000000000000000000000000402 F.kind = false) :
    Hub.rd (Hub.waitLink h n) F iF bF = Hub.rd h F iF bF :=
  Hub.waitLink_same.rd (by decide) F iF bF eF

theorem Hub.dpTrainDone_canon {h : Hub} {n : ℕ} {ok : Bool} {rate : ℕ} {lanes : ℕ} (H : Hub.Canon h) : Hub.Canon (Hub.dpTrainDone h n ok rate lanes) :=
  Hub.dpTrainDone_keeps (bears_canon 0x2800000000000004000000000000000000000000000000001030000000000000000000000000402) (Sub.refl _) H

theorem Hub.dpTrainDone_same {h : Hub} {n : ℕ} {ok : Bool} {rate : ℕ} {lanes : ℕ} : Hub.Same 0x2800000000000004000000000000000000000000000000001030000000000000000000000000402 h (Hub.dpTrainDone h n ok rate lanes) :=
  Hub.dpTrainDone_keeps (bears_same 0x2800000000000004000000000000000000000000000000001030000000000000000000000000402 h) (Sub.refl _) (fun _ => Hub.Same.refl _ _) (by decide)

theorem Hub.dpTrainDone_rd {h : Hub} {n : ℕ} {ok : Bool} {rate : ℕ} {lanes : ℕ} {F : Fld} {iF bF : Nat} (eF : Nat.testBit 0x2800000000000004000000000000000000000000000000001030000000000000000000000000402 F.kind = false) :
    Hub.rd (Hub.dpTrainDone h n ok rate lanes) F iF bF = Hub.rd h F iF bF :=
  Hub.dpTrainDone_same.rd (by decide) F iF bF eF

theorem Hub.dropHostReads_canon {h : Hub} (H : Hub.Canon h) : Hub.Canon (Hub.dropHostReads h) :=
  Hub.dropHostReads_keeps (bears_canon 0x1e0000000000000000000000000000000000000000000000000000100000000000000000000000000000000) (Sub.refl _) H

theorem Hub.dropHostReads_same {h : Hub} : Hub.Same 0x1e0000000000000000000000000000000000000000000000000000100000000000000000000000000000000 h (Hub.dropHostReads h) :=
  Hub.dropHostReads_keeps (bears_same 0x1e0000000000000000000000000000000000000000000000000000100000000000000000000000000000000 h) (Sub.refl _) (fun _ => Hub.Same.refl _ _) (by decide)

theorem Hub.dropHostReads_rd {h : Hub} {F : Fld} {iF bF : Nat} (eF : Nat.testBit 0x1e0000000000000000000000000000000000000000000000000000100000000000000000000000000000000 F.kind = false) :
    Hub.rd (Hub.dropHostReads h) F iF bF = Hub.rd h F iF bF :=
  Hub.dropHostReads_same.rd (by decide) F iF bF eF

theorem Hub.loadMeter_canon {h : Hub} {i : ℕ} (H : Hub.Canon h) : Hub.Canon (Hub.loadMeter h i) :=
  Hub.loadMeter_keeps (bears_canon 0x12800000000000004000000000000000000000000000000000010001000000000000000000000400) (Sub.refl _) H

theorem Hub.loadMeter_same {h : Hub} {i : ℕ} : Hub.Same 0x12800000000000004000000000000000000000000000000000010001000000000000000000000400 h (Hub.loadMeter h i) :=
  Hub.loadMeter_keeps (bears_same 0x12800000000000004000000000000000000000000000000000010001000000000000000000000400 h) (Sub.refl _) (fun _ => Hub.Same.refl _ _) (by decide)

theorem Hub.loadMeter_rd {h : Hub} {i : ℕ} {F : Fld} {iF bF : Nat} (eF : Nat.testBit 0x12800000000000004000000000000000000000000000000000010001000000000000000000000400 F.kind = false) :
    Hub.rd (Hub.loadMeter h i) F iF bF = Hub.rd h F iF bF :=
  Hub.loadMeter_same.rd (by decide) F iF bF eF

theorem Hub.setRec_canon {h : Hub} {i : ℕ} {committed : ℕ} {target : ℕ} {state : ℕ} (H : Hub.Canon h) : Hub.Canon (Hub.setRec h i committed target state) :=
  Hub.setRec_keeps (bears_canon 0x1a800000000000004000000000000000000000000000000000010003000000030000000000000404) (Sub.refl _) H

theorem Hub.setRec_same {h : Hub} {i : ℕ} {committed : ℕ} {target : ℕ} {state : ℕ} : Hub.Same 0x1a800000000000004000000000000000000000000000000000010003000000030000000000000404 h (Hub.setRec h i committed target state) :=
  Hub.setRec_keeps (bears_same 0x1a800000000000004000000000000000000000000000000000010003000000030000000000000404 h) (Sub.refl _) (fun _ => Hub.Same.refl _ _) (by decide)

theorem Hub.setRec_rd {h : Hub} {i : ℕ} {committed : ℕ} {target : ℕ} {state : ℕ} {F : Fld} {iF bF : Nat} (eF : Nat.testBit 0x1a800000000000004000000000000000000000000000000000010003000000030000000000000404 F.kind = false) :
    Hub.rd (Hub.setRec h i committed target state) F iF bF = Hub.rd h F iF bF :=
  Hub.setRec_same.rd (by decide) F iF bF eF

theorem Hub.setTxn_canon {h : Hub} {i : ℕ} {txn : ℕ} {src : ℕ} (H : Hub.Canon h) : Hub.Canon (Hub.setTxn h i txn src) :=
  Hub.setTxn_keeps (bears_canon 0x2000000000000000000000000) (Sub.refl _) H

theorem Hub.setTxn_same {h : Hub} {i : ℕ} {txn : ℕ} {src : ℕ} : Hub.Same 0x2000000000000000000000000 h (Hub.setTxn h i txn src) :=
  Hub.setTxn_keeps (bears_same 0x2000000000000000000000000 h) (Sub.refl _) (fun _ => Hub.Same.refl _ _) (by decide)

theorem Hub.setTxn_rd {h : Hub} {i : ℕ} {txn : ℕ} {src : ℕ} {F : Fld} {iF bF : Nat} (eF : Nat.testBit 0x2000000000000000000000000 F.kind = false) :
    Hub.rd (Hub.setTxn h i txn src) F iF bF = Hub.rd h F iF bF :=
  Hub.setTxn_same.rd (by decide) F iF bF eF

theorem Hub.lowerTo_canon {h : Hub} {src : ℕ} {txn : ℕ} {amount : ℕ} {i : ℕ} (H : Hub.Canon h) : Hub.Canon (Hub.lowerTo h src txn amount i) :=
  Hub.lowerTo_keeps (bears_canon 0x1a800000000000004000000000000000000000000000000000010003000000030000000000000404) (Sub.refl _) H

theorem Hub.lowerTo_same {h : Hub} {src : ℕ} {txn : ℕ} {amount : ℕ} {i : ℕ} : Hub.Same 0x1a800000000000004000000000000000000000000000000000010003000000030000000000000404 h (Hub.lowerTo h src txn amount i) :=
  Hub.lowerTo_keeps (bears_same 0x1a800000000000004000000000000000000000000000000000010003000000030000000000000404 h) (Sub.refl _) (fun _ => Hub.Same.refl _ _) (by decide)

theorem Hub.lowerTo_rd {h : Hub} {src : ℕ} {txn : ℕ} {amount : ℕ} {i : ℕ} {F : Fld} {iF bF : Nat} (eF : Nat.testBit 0x1a800000000000004000000000000000000000000000000000010003000000030000000000000404 F.kind = false) :
    Hub.rd (Hub.lowerTo h src txn amount i) F iF bF = Hub.rd h F iF bF :=
  Hub.lowerTo_same.rd (by decide) F iF bF eF

theorem Hub.dropRec_canon {h : Hub} {src : ℕ} {txn : ℕ} {tid : ℕ} (H : Hub.Canon h) : Hub.Canon (Hub.dropRec h src txn tid) :=
  Hub.dropRec_keeps (bears_canon 0x1a800000000000004000000000000000000000000000000000010003000000030000000000000404) (Sub.refl _) H

theorem Hub.dropRec_same {h : Hub} {src : ℕ} {txn : ℕ} {tid : ℕ} : Hub.Same 0x1a800000000000004000000000000000000000000000000000010003000000030000000000000404 h (Hub.dropRec h src txn tid) :=
  Hub.dropRec_keeps (bears_same 0x1a800000000000004000000000000000000000000000000000010003000000030000000000000404 h) (Sub.refl _) (fun _ => Hub.Same.refl _ _) (by decide)

theorem Hub.dropRec_rd {h : Hub} {src : ℕ} {txn : ℕ} {tid : ℕ} {F : Fld} {iF bF : Nat} (eF : Nat.testBit 0x1a800000000000004000000000000000000000000000000000010003000000030000000000000404 F.kind = false) :
    Hub.rd (Hub.dropRec h src txn tid) F iF bF = Hub.rd h F iF bF :=
  Hub.dropRec_same.rd (by decide) F iF bF eF

theorem Hub.fifoParity_canon {h : Hub} {a : ℕ} {id : ℕ} (H : Hub.Canon h) : Hub.Canon (Hub.fifoParity h a id) :=
  Hub.fifoParity_keeps (bears_canon 0x52280000000000000400000000000000000000000000000000001000000010b000000000000000404) (Sub.refl _) H

theorem Hub.fifoParity_same {h : Hub} {a : ℕ} {id : ℕ} : Hub.Same 0x52280000000000000400000000000000000000000000000000001000000010b000000000000000404 h (Hub.fifoParity h a id) :=
  Hub.fifoParity_keeps (bears_same 0x52280000000000000400000000000000000000000000000000001000000010b000000000000000404 h) (Sub.refl _) (fun _ => Hub.Same.refl _ _) (by decide)

theorem Hub.fifoParity_rd {h : Hub} {a : ℕ} {id : ℕ} {F : Fld} {iF bF : Nat} (eF : Nat.testBit 0x52280000000000000400000000000000000000000000000000001000000010b000000000000000404 F.kind = false) :
    Hub.rd (Hub.fifoParity h a id) F iF bF = Hub.rd h F iF bF :=
  Hub.fifoParity_same.rd (by decide) F iF bF eF

theorem Hub.mapTgt_canon {h : Hub} {id : ℕ} {e : ℕ} {f : Tgt → Tgt} (H : Hub.Canon h) : Hub.Canon (Hub.mapTgt h id e f) :=
  Hub.mapTgt_keeps (bears_canon 0x20000000000000000000000000000000000000000000000000000000000000000000000000000000) (Sub.refl _) H

theorem Hub.mapTgt_same {h : Hub} {id : ℕ} {e : ℕ} {f : Tgt → Tgt} : Hub.Same 0x20000000000000000000000000000000000000000000000000000000000000000000000000000000 h (Hub.mapTgt h id e f) :=
  Hub.mapTgt_keeps (bears_same 0x20000000000000000000000000000000000000000000000000000000000000000000000000000000 h) (Sub.refl _) (fun _ => Hub.Same.refl _ _) (by decide)

theorem Hub.mapTgt_rd {h : Hub} {id : ℕ} {e : ℕ} {f : Tgt → Tgt} {F : Fld} {iF bF : Nat} (eF : Nat.testBit 0x20000000000000000000000000000000000000000000000000000000000000000000000000000000 F.kind = false) :
    Hub.rd (Hub.mapTgt h id e f) F iF bF = Hub.rd h F iF bF :=
  Hub.mapTgt_same.rd (by decide) F iF bF eF

theorem Hub.readCell_canon {h : Hub} {id : ℕ} {c : PCell} (H : Hub.Canon h) : Hub.Canon (Hub.readCell h id c).1 :=
  Hub.readCell_keeps (bears_canon 0x52280000000000000400000000000000000000000000000000001000000010b000000000000000400) (Sub.refl _) H

theorem Hub.readCell_same {h : Hub} {id : ℕ} {c : PCell} : Hub.Same 0x52280000000000000400000000000000000000000000000000001000000010b000000000000000400 h (Hub.readCell h id c).1 :=
  Hub.readCell_keeps (bears_same 0x52280000000000000400000000000000000000000000000000001000000010b000000000000000400 h) (Sub.refl _) (fun _ => Hub.Same.refl _ _) (by decide)

theorem Hub.readCell_rd {h : Hub} {id : ℕ} {c : PCell} {F : Fld} {iF bF : Nat} (eF : Nat.testBit 0x52280000000000000400000000000000000000000000000000001000000010b000000000000000400 F.kind = false) :
    Hub.rd (Hub.readCell h id c).1 F iF bF = Hub.rd h F iF bF :=
  Hub.readCell_same.rd (by decide) F iF bF eF

theorem Hub.macPut_canon {h : Hub} {m : ℕ} {n : ℕ} {eop : Bool} (H : Hub.Canon h) : Hub.Canon (Hub.macPut h m n eop) :=
  Hub.macPut_keeps (bears_canon 0x1000000000000000000000000000000000000) (Sub.refl _) H

theorem Hub.macPut_same {h : Hub} {m : ℕ} {n : ℕ} {eop : Bool} : Hub.Same 0x1000000000000000000000000000000000000 h (Hub.macPut h m n eop) :=
  Hub.macPut_keeps (bears_same 0x1000000000000000000000000000000000000 h) (Sub.refl _) (fun _ => Hub.Same.refl _ _) (by decide)

theorem Hub.macPut_rd {h : Hub} {m : ℕ} {n : ℕ} {eop : Bool} {F : Fld} {iF bF : Nat} (eF : Nat.testBit 0x1000000000000000000000000000000000000 F.kind = false) :
    Hub.rd (Hub.macPut h m n eop) F iF bF = Hub.rd h F iF bF :=
  Hub.macPut_same.rd (by decide) F iF bF eF

theorem Hub.output_canon {h : Hub} {e : ℕ} {a : ℕ} {cls : ℕ} {c : Cell} (H : Hub.Canon h) : Hub.Canon (Hub.output h e a cls c) :=
  Hub.output_keeps (bears_canon 0x200000000000000000000000000000000000000000001000000000000000100020000000000010004) (Sub.refl _) H

theorem Hub.output_same {h : Hub} {e : ℕ} {a : ℕ} {cls : ℕ} {c : Cell} : Hub.Same 0x200000000000000000000000000000000000000000001000000000000000100020000000000010004 h (Hub.output h e a cls c) :=
  Hub.output_keeps (bears_same 0x200000000000000000000000000000000000000000001000000000000000100020000000000010004 h) (Sub.refl _) (fun _ => Hub.Same.refl _ _) (by decide)

theorem Hub.output_rd {h : Hub} {e : ℕ} {a : ℕ} {cls : ℕ} {c : Cell} {F : Fld} {iF bF : Nat} (eF : Nat.testBit 0x200000000000000000000000000000000000000000001000000000000000100020000000000010004 F.kind = false) :
    Hub.rd (Hub.output h e a cls c) F iF bF = Hub.rd h F iF bF :=
  Hub.output_same.rd (by decide) F iF bF eF

theorem Hub.emit_canon {h : Hub} {e : ℕ} {x : Head} (H : Hub.Canon h) : Hub.Canon (Hub.emit h e x) :=
  Hub.emit_keeps (bears_canon 0x72280000000000000400000000000000000000000000100000001000000010b020000000000010404) (Sub.refl _) H

theorem Hub.emit_same {h : Hub} {e : ℕ} {x : Head} : Hub.Same 0x72280000000000000400000000000000000000000000100000001000000010b020000000000010404 h (Hub.emit h e x) :=
  Hub.emit_keeps (bears_same 0x72280000000000000400000000000000000000000000100000001000000010b020000000000010404 h) (Sub.refl _) (fun _ => Hub.Same.refl _ _) (by decide)

theorem Hub.emit_rd {h : Hub} {e : ℕ} {x : Head} {F : Fld} {iF bF : Nat} (eF : Nat.testBit 0x72280000000000000400000000000000000000000000100000001000000010b020000000000010404 F.kind = false) :
    Hub.rd (Hub.emit h e x) F iF bF = Hub.rd h F iF bF :=
  Hub.emit_same.rd (by decide) F iF bF eF

theorem Hub.showHeads_canon {h : Hub} {e : ℕ} {hs : List Head} {cs : List Head} (H : Hub.Canon h) : Hub.Canon (Hub.showHeads h e hs cs) :=
  Hub.showHeads_keeps (bears_canon 0x100000000000000000000) (Sub.refl _) H

theorem Hub.showHeads_same {h : Hub} {e : ℕ} {hs : List Head} {cs : List Head} : Hub.Same 0x100000000000000000000 h (Hub.showHeads h e hs cs) :=
  Hub.showHeads_keeps (bears_same 0x100000000000000000000 h) (Sub.refl _) (fun _ => Hub.Same.refl _ _) (by decide)

theorem Hub.showHeads_rd {h : Hub} {e : ℕ} {hs : List Head} {cs : List Head} {F : Fld} {iF bF : Nat} (eF : Nat.testBit 0x100000000000000000000 F.kind = false) :
    Hub.rd (Hub.showHeads h e hs cs) F iF bF = Hub.rd h F iF bF :=
  Hub.showHeads_same.rd (by decide) F iF bF eF

theorem Hub.underrun_canon {h : Hub} {hs : List Head} (H : Hub.Canon h) : Hub.Canon (Hub.underrun h hs) :=
  Hub.underrun_keeps (bears_canon 0x1000000052280000000000000400000000000000000000000000100000001000000010b000000000000000400) (Sub.refl _) H

theorem Hub.underrun_same {h : Hub} {hs : List Head} : Hub.Same 0x1000000052280000000000000400000000000000000000000000100000001000000010b000000000000000400 h (Hub.underrun h hs) :=
  Hub.underrun_keeps (bears_same 0x1000000052280000000000000400000000000000000000000000100000001000000010b000000000000000400 h) (Sub.refl _) (fun _ => Hub.Same.refl _ _) (by decide)

theorem Hub.underrun_rd {h : Hub} {hs : List Head} {F : Fld} {iF bF : Nat} (eF : Nat.testBit 0x1000000052280000000000000400000000000000000000000000100000001000000010b000000000000000400 F.kind = false) :
    Hub.rd (Hub.underrun h hs) F iF bF = Hub.rd h F iF bF :=
  Hub.underrun_same.rd (by decide) F iF bF eF

theorem Hub.egressSelect_canon {h : Hub} {e : ℕ} (H : Hub.Canon h) : Hub.Canon (Hub.egressSelect h e) :=
  Hub.egressSelect_keeps (bears_canon 0x1000000072280200000000000c00000100000000000000000000100000001000000010f030000000000010404) (Sub.refl _) H

theorem Hub.egressSelect_same {h : Hub} {e : ℕ} : Hub.Same 0x1000000072280200000000000c00000100000000000000000000100000001000000010f030000000000010404 h (Hub.egressSelect h e) :=
  Hub.egressSelect_keeps (bears_same 0x1000000072280200000000000c00000100000000000000000000100000001000000010f030000000000010404 h) (Sub.refl _) (fun _ => Hub.Same.refl _ _) (by decide)

theorem Hub.saveLane_canon {l : ℕ} {h : Hub} (H : Hub.Canon h) : Hub.Canon (Hub.saveLane l h) :=
  Hub.saveLane_keeps (bears_canon 0x100000000) (Sub.refl _) H

theorem Hub.saveLane_same {l : ℕ} {h : Hub} : Hub.Same 0x100000000 h (Hub.saveLane l h) :=
  Hub.saveLane_keeps (bears_same 0x100000000 h) (Sub.refl _) (fun _ => Hub.Same.refl _ _) (by decide)

theorem Hub.saveLane_rd {l : ℕ} {h : Hub} {F : Fld} {iF bF : Nat} (eF : Nat.testBit 0x100000000 F.kind = false) :
    Hub.rd (Hub.saveLane l h) F iF bF = Hub.rd h F iF bF :=
  Hub.saveLane_same.rd (by decide) F iF bF eF

theorem Hub.enterLow_canon {h : Hub} {p : ℕ} {l2 : Bool} (H : Hub.Canon h) : Hub.Canon (Hub.enterLow h p l2) :=
  Hub.enterLow_keeps (bears_canon 0x1800a80200000000000c000601000000000000000000000000000010102000000030000000100014402) (Sub.refl _) H

theorem Hub.enterLow_same {h : Hub} {p : ℕ} {l2 : Bool} : Hub.Same 0x1800a80200000000000c000601000000000000000000000000000010102000000030000000100014402 h (Hub.enterLow h p l2) :=
  Hub.enterLow_keeps (bears_same 0x1800a80200000000000c000601000000000000000000000000000010102000000030000000100014402 h) (Sub.refl _) (fun _ => Hub.Same.refl _ _) (by decide)

theorem Hub.eidleDue_canon {p : ℕ} {h : Hub} (H : Hub.Canon h) : Hub.Canon (Hub.eidleDue p h) :=
  Hub.eidleDue_keeps (bears_canon 0x1800a80200000000000c000601000000000000000000000000000010102000000030000000100014402) (Sub.refl _) H

theorem Hub.eidleDue_same {p : ℕ} {h : Hub} : Hub.Same 0x1800a80200000000000c000601000000000000000000000000000010102000000030000000100014402 h (Hub.eidleDue p h) :=
  Hub.eidleDue_keeps (bears_same 0x1800a80200000000000c000601000000000000000000000000000010102000000030000000100014402 h) (Sub.refl _) (fun _ => Hub.Same.refl _ _) (by decide)

theorem Hub.elect_canon {h : Hub} {n : ℕ} (H : Hub.Canon h) : Hub.Canon (Hub.elect h n) :=
  Hub.elect_keeps (bears_canon 0x40000040800280200000000000c000001000000101010100000000000000010000000000000000000100010402) (Sub.refl _) H

theorem Hub.elect_same {h : Hub} {n : ℕ} : Hub.Same 0x40000040800280200000000000c000001000000101010100000000000000010000000000000000000100010402 h (Hub.elect h n) :=
  Hub.elect_keeps (bears_same 0x40000040800280200000000000c000001000000101010100000000000000010000000000000000000100010402 h) (Sub.refl _) (fun _ => Hub.Same.refl _ _) (by decide)

theorem Hub.emptySlot_canon {h : Hub} {s : ℕ} (H : Hub.Canon h) : Hub.Canon (Hub.emptySlot h s) :=
  Hub.emptySlot_keeps (bears_canon 0x1000000000000000000000000000000000000000000000000000000000000000000000000000000004000) (Sub.refl _) H

theorem Hub.emptySlot_same {h : Hub} {s : ℕ} : Hub.Same 0x1000000000000000000000000000000000000000000000000000000000000000000000000000000004000 h (Hub.emptySlot h s) :=
  Hub.emptySlot_keeps (bears_same 0x1000000000000000000000000000000000000000000000000000000000000000000000000000000004000 h) (Sub.refl _) (fun _ => Hub.Same.refl _ _) (by decide)

theorem Hub.emptySlot_rd {h : Hub} {s : ℕ} {F : Fld} {iF bF : Nat} (eF : Nat.testBit 0x1000000000000000000000000000000000000000000000000000000000000000000000000000000004000 F.kind = false) :
    Hub.rd (Hub.emptySlot h s) F iF bF = Hub.rd h F iF bF :=
  Hub.emptySlot_same.rd (by decide) F iF bF eF

theorem Hub.endReserve_canon {h : Hub} {i : ℕ} (H : Hub.Canon h) : Hub.Canon (Hub.endReserve h i) :=
  Hub.endReserve_keeps (bears_canon 0x1a800000000000004000000000000000000000000000000000010003000000030000000000000404) (Sub.refl _) H

theorem Hub.endReserve_same {h : Hub} {i : ℕ} : Hub.Same 0x1a800000000000004000000000000000000000000000000000010003000000030000000000000404 h (Hub.endReserve h i) :=
  Hub.endReserve_keeps (bears_same 0x1a800000000000004000000000000000000000000000000000010003000000030000000000000404 h) (Sub.refl _) (fun _ => Hub.Same.refl _ _) (by decide)

theorem Hub.endReserve_rd {h : Hub} {i : ℕ} {F : Fld} {iF bF : Nat} (eF : Nat.testBit 0x1a800000000000004000000000000000000000000000000000010003000000030000000000000404 F.kind = false) :
    Hub.rd (Hub.endReserve h i) F iF bF = Hub.rd h F iF bF :=
  Hub.endReserve_same.rd (by decide) F iF bF eF

theorem Hub.refreshMasks_canon {h : Hub} (H : Hub.Canon h) : Hub.Canon (Hub.refreshMasks h) :=
  Hub.refreshMasks_keeps (bears_canon 0x10) (Sub.refl _) H

theorem Hub.refreshMasks_same {h : Hub} : Hub.Same 0x10 h (Hub.refreshMasks h) :=
  Hub.refreshMasks_keeps (bears_same 0x10 h) (Sub.refl _) (fun _ => Hub.Same.refl _ _) (by decide)

theorem Hub.refreshMasks_rd {h : Hub} {F : Fld} {iF bF : Nat} (eF : Nat.testBit 0x10 F.kind = false) :
    Hub.rd (Hub.refreshMasks h) F iF bF = Hub.rd h F iF bF :=
  Hub.refreshMasks_same.rd (by decide) F iF bF eF

theorem Hub.nextTransition_canon {h : Hub} (H : Hub.Canon h) : Hub.Canon (Hub.nextTransition h) :=
  Hub.nextTransition_keeps (bears_canon 0x40000280200000000000c00002100000000000000000000001010001000000000000000000010001041a) (Sub.refl _) H

theorem Hub.nextTransition_same {h : Hub} : Hub.Same 0x40000280200000000000c00002100000000000000000000001010001000000000000000000010001041a h (Hub.nextTransition h) :=
  Hub.nextTransition_keeps (bears_same 0x40000280200000000000c00002100000000000000000000001010001000000000000000000010001041a h) (Sub.refl _) (fun _ => Hub.Same.refl _ _) (by decide)

theorem Hub.endTransition_canon {h : Hub} {us : Nat} (H : Hub.Canon h) : Hub.Canon (h.endTransition us) :=
  Hub.endTransition_keeps (bears_canon 0x40000290200000000000c00002100000000000000000000001010001000000000000000000010001041b) (Sub.refl _) H

theorem Hub.endTransition_same {h : Hub} {us : Nat} : Hub.Same 0x40000290200000000000c00002100000000000000000000001010001000000000000000000010001041b h (h.endTransition us) :=
  Hub.endTransition_keeps (bears_same 0x40000290200000000000c00002100000000000000000000001010001000000000000000000010001041b h) (Sub.refl _) (fun _ => Hub.Same.refl _ _) (by decide)

theorem Hub.enterSolitaire_canon {h : Hub} (H : Hub.Canon h) : Hub.Canon (Hub.enterSolitaire h) :=
  Hub.enterSolitaire_keeps (bears_canon 0x1ff875c3dffbfffbb97a00000000000c000661000000101010100070004010701a3030200010f030000000100015d1f) (Sub.refl _) H

theorem Hub.enterSolitaire_same {h : Hub} : Hub.Same 0x1ff875c3dffbfffbb97a00000000000c000661000000101010100070004010701a3030200010f030000000100015d1f h (Hub.enterSolitaire h) :=
  Hub.enterSolitaire_keeps (bears_same 0x1ff875c3dffbfffbb97a00000000000c000661000000101010100070004010701a3030200010f030000000100015d1f h) (Sub.refl _) (fun _ => Hub.Same.refl _ _) (by decide)

theorem Hub.ep0Out_canon {h : Hub} {data : Bytes} (H : Hub.Canon h) : Hub.Canon (Hub.ep0Out h data) :=
  Hub.ep0Out_keeps (bears_canon 0x4000000000000000000000020000000000000000000000000000000000000000) (Sub.refl _) H

theorem Hub.ep0Out_same {h : Hub} {data : Bytes} : Hub.Same 0x4000000000000000000000020000000000000000000000000000000000000000 h (Hub.ep0Out h data) :=
  Hub.ep0Out_keeps (bears_same 0x4000000000000000000000020000000000000000000000000000000000000000 h) (Sub.refl _) (fun _ => Hub.Same.refl _ _) (by decide)

theorem Hub.ep0Out_rd {h : Hub} {data : Bytes} {F : Fld} {iF bF : Nat} (eF : Nat.testBit 0x4000000000000000000000020000000000000000000000000000000000000000 F.kind = false) :
    Hub.rd (Hub.ep0Out h data) F iF bF = Hub.rd h F iF bF :=
  Hub.ep0Out_same.rd (by decide) F iF bF eF

theorem Hub.writeRecord_canon {h : Hub} {r : LkRec} (H : Hub.Canon h) : Hub.Canon (Hub.writeRecord h r) :=
  Hub.writeRecord_keeps (bears_canon 0x4000000000000000000000000000000000000000000000000000000000000000000000000000400) (Sub.refl _) H

theorem Hub.writeRecord_same {h : Hub} {r : LkRec} : Hub.Same 0x4000000000000000000000000000000000000000000000000000000000000000000000000000400 h (Hub.writeRecord h r) :=
  Hub.writeRecord_keeps (bears_same 0x4000000000000000000000000000000000000000000000000000000000000000000000000000400 h) (Sub.refl _) (fun _ => Hub.Same.refl _ _) (by decide)

theorem Hub.writeRecord_rd {h : Hub} {r : LkRec} {F : Fld} {iF bF : Nat} (eF : Nat.testBit 0x4000000000000000000000000000000000000000000000000000000000000000000000000000400 F.kind = false) :
    Hub.rd (Hub.writeRecord h r) F iF bF = Hub.rd h F iF bF :=
  Hub.writeRecord_same.rd (by decide) F iF bF eF

theorem Hub.locketWrite_canon {h : Hub} {storeOk : Bool} (H : Hub.Canon h) : Hub.Canon (Hub.locketWrite h storeOk) :=
  Hub.locketWrite_keeps (bears_canon 0x6800000000000004000000000000000000000000000000000010000000000000000000000000400) (Sub.refl _) H

theorem Hub.locketWrite_same {h : Hub} {storeOk : Bool} : Hub.Same 0x6800000000000004000000000000000000000000000000000010000000000000000000000000400 h (Hub.locketWrite h storeOk) :=
  Hub.locketWrite_keeps (bears_same 0x6800000000000004000000000000000000000000000000000010000000000000000000000000400 h) (Sub.refl _) (fun _ => Hub.Same.refl _ _) (by decide)

theorem Hub.locketWrite_rd {h : Hub} {storeOk : Bool} {F : Fld} {iF bF : Nat} (eF : Nat.testBit 0x6800000000000004000000000000000000000000000000000010000000000000000000000000400 F.kind = false) :
    Hub.rd (Hub.locketWrite h storeOk) F iF bF = Hub.rd h F iF bF :=
  Hub.locketWrite_same.rd (by decide) F iF bF eF

theorem Hub.locketFlush_canon {h : Hub} (H : Hub.Canon h) : Hub.Canon (Hub.locketFlush h) :=
  Hub.locketFlush_keeps (bears_canon 0x6800000000000004000000000000000000000000000000000010000000000000000000000000400) (Sub.refl _) H

theorem Hub.locketFlush_same {h : Hub} : Hub.Same 0x6800000000000004000000000000000000000000000000000010000000000000000000000000400 h (Hub.locketFlush h) :=
  Hub.locketFlush_keeps (bears_same 0x6800000000000004000000000000000000000000000000000010000000000000000000000000400 h) (Sub.refl _) (fun _ => Hub.Same.refl _ _) (by decide)

theorem Hub.locketFlush_rd {h : Hub} {F : Fld} {iF bF : Nat} (eF : Nat.testBit 0x6800000000000004000000000000000000000000000000000010000000000000000000000000400 F.kind = false) :
    Hub.rd (Hub.locketFlush h) F iF bF = Hub.rd h F iF bF :=
  Hub.locketFlush_same.rd (by decide) F iF bF eF

theorem Hub.escalate_canon {h : Hub} {pg : ℕ} (H : Hub.Canon h) : Hub.Canon (Hub.escalate h pg) :=
  Hub.escalate_keeps (bears_canon 0x8000000000000000000000000000000001ff87ffffffffffff9fe00000000000c000e63000000101010100070004010701a3030200010f030000000100017d5f) (Sub.refl _) H

theorem Hub.ethLink_canon {h : Hub} {m : ℕ} {up : Bool} {block : Bool} {fec : Bool} (H : Hub.Canon h) : Hub.Canon (Hub.ethLink h m up block fec) :=
  Hub.ethLink_keeps (bears_canon 0x2800000000000004000000000000000000000000001000000010000000000000000000000000400) (Sub.refl _) H

theorem Hub.ethLink_same {h : Hub} {m : ℕ} {up : Bool} {block : Bool} {fec : Bool} : Hub.Same 0x2800000000000004000000000000000000000000001000000010000000000000000000000000400 h (Hub.ethLink h m up block fec) :=
  Hub.ethLink_keeps (bears_same 0x2800000000000004000000000000000000000000001000000010000000000000000000000000400 h) (Sub.refl _) (fun _ => Hub.Same.refl _ _) (by decide)

theorem Hub.ethLink_rd {h : Hub} {m : ℕ} {up : Bool} {block : Bool} {fec : Bool} {F : Fld} {iF bF : Nat} (eF : Nat.testBit 0x2800000000000004000000000000000000000000001000000010000000000000000000000000400 F.kind = false) :
    Hub.rd (Hub.ethLink h m up block fec) F iF bF = Hub.rd h F iF bF :=
  Hub.ethLink_same.rd (by decide) F iF bF eF

theorem Hub.feed_canon {pt : ℕ} {h : Hub} (H : Hub.Canon h) : Hub.Canon (Hub.feed pt h) :=
  Hub.feed_keeps (bears_canon 0x100000000000005fa80800000000000400000000000000000000000000000000001030100010b030000000000000404) (Sub.refl _) H

theorem Hub.feed_same {pt : ℕ} {h : Hub} : Hub.Same 0x100000000000005fa80800000000000400000000000000000000000000000000001030100010b030000000000000404 h (Hub.feed pt h) :=
  Hub.feed_keeps (bears_same 0x100000000000005fa80800000000000400000000000000000000000000000000001030100010b030000000000000404 h) (Sub.refl _) (fun _ => Hub.Same.refl _ _) (by decide)

theorem Hub.feed_rd {pt : ℕ} {h : Hub} {F : Fld} {iF bF : Nat} (eF : Nat.testBit 0x100000000000005fa80800000000000400000000000000000000000000000000001030100010b030000000000000404 F.kind = false) :
    Hub.rd (Hub.feed pt h) F iF bF = Hub.rd h F iF bF :=
  Hub.feed_same.rd (by decide) F iF bF eF

theorem Hub.inject_canon {h : Hub} {pt : ℕ} {cs : List Cell} (H : Hub.Canon h) : Hub.Canon (Hub.inject h pt cs) :=
  Hub.inject_keeps (bears_canon 0x100000000000005fa80800000000000400000000000000000000000000000000001030100010b030000000000000404) (Sub.refl _) H

theorem Hub.inject_same {h : Hub} {pt : ℕ} {cs : List Cell} : Hub.Same 0x100000000000005fa80800000000000400000000000000000000000000000000001030100010b030000000000000404 h (Hub.inject h pt cs) :=
  Hub.inject_keeps (bears_same 0x100000000000005fa80800000000000400000000000000000000000000000000001030100010b030000000000000404 h) (Sub.refl _) (fun _ => Hub.Same.refl _ _) (by decide)

theorem Hub.inject_rd {h : Hub} {pt : ℕ} {cs : List Cell} {F : Fld} {iF bF : Nat} (eF : Nat.testBit 0x100000000000005fa80800000000000400000000000000000000000000000000001030100010b030000000000000404 F.kind = false) :
    Hub.rd (Hub.inject h pt cs) F iF bF = Hub.rd h F iF bF :=
  Hub.inject_same.rd (by decide) F iF bF eF

theorem Hub.ethRx_canon {h : Hub} {m : ℕ} {fcsOk : Bool} {full : Option ℕ} {fr : Bytes} (H : Hub.Canon h) : Hub.Canon (Hub.ethRx h m fcsOk full fr) :=
  Hub.ethRx_keeps (bears_canon 0x100000000000005fa80800000000000400000000000000000000000000100000001030100010b030000000000000404) (Sub.refl _) H

theorem Hub.ethRx_same {h : Hub} {m : ℕ} {fcsOk : Bool} {full : Option ℕ} {fr : Bytes} : Hub.Same 0x100000000000005fa80800000000000400000000000000000000000000100000001030100010b030000000000000404 h (Hub.ethRx h m fcsOk full fr) :=
  Hub.ethRx_keeps (bears_same 0x100000000000005fa80800000000000400000000000000000000000000100000001030100010b030000000000000404 h) (Sub.refl _) (fun _ => Hub.Same.refl _ _) (by decide)

theorem Hub.ethRx_rd {h : Hub} {m : ℕ} {fcsOk : Bool} {full : Option ℕ} {fr : Bytes} {F : Fld} {iF bF : Nat} (eF : Nat.testBit 0x100000000000005fa80800000000000400000000000000000000000000100000001030100010b030000000000000404 F.kind = false) :
    Hub.rd (Hub.ethRx h m fcsOk full fr) F iF bF = Hub.rd h F iF bF :=
  Hub.ethRx_same.rd (by decide) F iF bF eF

theorem Hub.ethTx_canon {h : Hub} {tid : ℕ} {poison : Bool} {fr : Bytes} (H : Hub.Canon h) : Hub.Canon (Hub.ethTx h tid poison fr) :=
  Hub.ethTx_keeps (bears_canon 0x10000000000000000000000000000000000000000000000000001000000000000000000000000000000000000) (Sub.refl _) H

theorem Hub.ethTx_same {h : Hub} {tid : ℕ} {poison : Bool} {fr : Bytes} : Hub.Same 0x10000000000000000000000000000000000000000000000000001000000000000000000000000000000000000 h (Hub.ethTx h tid poison fr) :=
  Hub.ethTx_keeps (bears_same 0x10000000000000000000000000000000000000000000000000001000000000000000000000000000000000000 h) (Sub.refl _) (fun _ => Hub.Same.refl _ _) (by decide)

theorem Hub.ethTx_rd {h : Hub} {tid : ℕ} {poison : Bool} {fr : Bytes} {F : Fld} {iF bF : Nat} (eF : Nat.testBit 0x10000000000000000000000000000000000000000000000000001000000000000000000000000000000000000 F.kind = false) :
    Hub.rd (Hub.ethTx h tid poison fr) F iF bF = Hub.rd h F iF bF :=
  Hub.ethTx_same.rd (by decide) F iF bF eF

theorem Hub.flyFail_canon {status : ℕ} {x : UsbFlight} {h : Hub} (H : Hub.Canon h) : Hub.Canon (Hub.flyFail status x h) :=
  Hub.flyFail_keeps (bears_canon 0x80000000000808000000000004000000000000000000000040000000000000000000000000000000000000000) (Sub.refl _) H

theorem Hub.flyFail_same {status : ℕ} {x : UsbFlight} {h : Hub} : Hub.Same 0x80000000000808000000000004000000000000000000000040000000000000000000000000000000000000000 h (Hub.flyFail status x h) :=
  Hub.flyFail_keeps (bears_same 0x80000000000808000000000004000000000000000000000040000000000000000000000000000000000000000 h) (Sub.refl _) (fun _ => Hub.Same.refl _ _) (by decide)

theorem Hub.flyFail_rd {status : ℕ} {x : UsbFlight} {h : Hub} {F : Fld} {iF bF : Nat} (eF : Nat.testBit 0x80000000000808000000000004000000000000000000000040000000000000000000000000000000000000000 F.kind = false) :
    Hub.rd (Hub.flyFail status x h) F iF bF = Hub.rd h F iF bF :=
  Hub.flyFail_same.rd (by decide) F iF bF eF

theorem Hub.eventIn_canon {h : Hub} {tid : ℕ} {ev : ℕ} {bus : ℕ} {wake : Bool} {old : ℕ} (H : Hub.Canon h) : Hub.Canon (Hub.eventIn h tid ev bus wake old) :=
  Hub.eventIn_keeps (bears_canon 0xc0000000002808000000000004000000000000000000000040000000000010000000000000000000000000400) (Sub.refl _) H

theorem Hub.eventIn_same {h : Hub} {tid : ℕ} {ev : ℕ} {bus : ℕ} {wake : Bool} {old : ℕ} : Hub.Same 0xc0000000002808000000000004000000000000000000000040000000000010000000000000000000000000400 h (Hub.eventIn h tid ev bus wake old) :=
  Hub.eventIn_keeps (bears_same 0xc0000000002808000000000004000000000000000000000040000000000010000000000000000000000000400 h) (Sub.refl _) (fun _ => Hub.Same.refl _ _) (by decide)

theorem Hub.eventIn_rd {h : Hub} {tid : ℕ} {ev : ℕ} {bus : ℕ} {wake : Bool} {old : ℕ} {F : Fld} {iF bF : Nat} (eF : Nat.testBit 0xc0000000002808000000000004000000000000000000000040000000000010000000000000000000000000400 F.kind = false) :
    Hub.rd (Hub.eventIn h tid ev bus wake old) F iF bF = Hub.rd h F iF bF :=
  Hub.eventIn_same.rd (by decide) F iF bF eF

theorem Hub.restoreLane_canon {l : Nat} {h : Hub} (H : Hub.Canon h) : Hub.Canon (Hub.restoreLane l h) :=
  Hub.restoreLane_keeps (bears_canon 0x100000000) (Sub.refl _) H

theorem Hub.restoreLane_same {l : Nat} {h : Hub} : Hub.Same 0x100000000 h (Hub.restoreLane l h) :=
  Hub.restoreLane_keeps (bears_same 0x100000000 h) (Sub.refl _) (fun _ => Hub.Same.refl _ _) (by decide)

theorem Hub.restoreLane_rd {l : Nat} {h : Hub} {F : Fld} {iF bF : Nat} (eF : Nat.testBit 0x100000000 F.kind = false) :
    Hub.rd (Hub.restoreLane l h) F iF bF = Hub.rd h F iF bF :=
  Hub.restoreLane_same.rd (by decide) F iF bF eF

theorem Hub.exitLow_canon {h : Hub} {p : ℕ} (H : Hub.Canon h) : Hub.Canon (Hub.exitLow h p) :=
  Hub.exitLow_keeps (bears_canon 0x800a80200000000000c000201000000000000000000000000000010102000000030000000100014402) (Sub.refl _) H

theorem Hub.exitLow_same {h : Hub} {p : ℕ} : Hub.Same 0x800a80200000000000c000201000000000000000000000000000010102000000030000000100014402 h (Hub.exitLow h p) :=
  Hub.exitLow_keeps (bears_same 0x800a80200000000000c000201000000000000000000000000000010102000000030000000100014402 h) (Sub.refl _) (fun _ => Hub.Same.refl _ _) (by decide)

theorem Hub.memViolation_canon {h : Hub} {m : MasterId} {node : ℕ} {addr : ℕ} {write : Bool} {code : ℕ} {e : Option ℕ} (H : Hub.Canon h) : Hub.Canon (Hub.memViolation h m node addr write code e) :=
  Hub.memViolation_keeps (bears_canon 0x2800000000000004000000000000000000000000000000000010000000000000000000000000500) (Sub.refl _) H

theorem Hub.memViolation_same {h : Hub} {m : MasterId} {node : ℕ} {addr : ℕ} {write : Bool} {code : ℕ} {e : Option ℕ} : Hub.Same 0x2800000000000004000000000000000000000000000000000010000000000000000000000000500 h (Hub.memViolation h m node addr write code e) :=
  Hub.memViolation_keeps (bears_same 0x2800000000000004000000000000000000000000000000000010000000000000000000000000500 h) (Sub.refl _) (fun _ => Hub.Same.refl _ _) (by decide)

theorem Hub.memViolation_rd {h : Hub} {m : MasterId} {node : ℕ} {addr : ℕ} {write : Bool} {code : ℕ} {e : Option ℕ} {F : Fld} {iF bF : Nat} (eF : Nat.testBit 0x2800000000000004000000000000000000000000000000000010000000000000000000000000500 F.kind = false) :
    Hub.rd (Hub.memViolation h m node addr write code e) F iF bF = Hub.rd h F iF bF :=
  Hub.memViolation_same.rd (by decide) F iF bF eF

theorem Hub.guardDrop_canon {h : Hub} {a : ℕ} {master : ℕ} (H : Hub.Canon h) : Hub.Canon (Hub.guardDrop h a master) :=
  Hub.guardDrop_keeps (bears_canon 0x2800000000000004000000000000000000000000000000000810000000000000000000000000400) (Sub.refl _) H

theorem Hub.guardDrop_same {h : Hub} {a : ℕ} {master : ℕ} : Hub.Same 0x2800000000000004000000000000000000000000000000000810000000000000000000000000400 h (Hub.guardDrop h a master) :=
  Hub.guardDrop_keeps (bears_same 0x2800000000000004000000000000000000000000000000000810000000000000000000000000400 h) (Sub.refl _) (fun _ => Hub.Same.refl _ _) (by decide)

theorem Hub.guardDrop_rd {h : Hub} {a : ℕ} {master : ℕ} {F : Fld} {iF bF : Nat} (eF : Nat.testBit 0x2800000000000004000000000000000000000000000000000810000000000000000000000000400 F.kind = false) :
    Hub.rd (Hub.guardDrop h a master) F iF bF = Hub.rd h F iF bF :=
  Hub.guardDrop_same.rd (by decide) F iF bF eF

theorem Hub.farCheck_canon {h : Hub} {src : ℕ} {t : TxbHdr} {off : ℕ} {n : ℕ} {write : Bool} (H : Hub.Canon h) : Hub.Canon (Hub.farCheck h src t off n write).2 :=
  Hub.farCheck_keeps (bears_canon 0x2800000000000004000000000000000000000000000010000810000000000000000000000000500) (Sub.refl _) H

theorem Hub.farCheck_same {h : Hub} {src : ℕ} {t : TxbHdr} {off : ℕ} {n : ℕ} {write : Bool} : Hub.Same 0x2800000000000004000000000000000000000000000010000810000000000000000000000000500 h (Hub.farCheck h src t off n write).2 :=
  Hub.farCheck_keeps (bears_same 0x2800000000000004000000000000000000000000000010000810000000000000000000000000500 h) (Sub.refl _) (fun _ => Hub.Same.refl _ _) (by decide)

theorem Hub.farCheck_rd {h : Hub} {src : ℕ} {t : TxbHdr} {off : ℕ} {n : ℕ} {write : Bool} {F : Fld} {iF bF : Nat} (eF : Nat.testBit 0x2800000000000004000000000000000000000000000010000810000000000000000000000000500 F.kind = false) :
    Hub.rd (Hub.farCheck h src t off n write).2 F iF bF = Hub.rd h F iF bF :=
  Hub.farCheck_same.rd (by decide) F iF bF eF

theorem Hub.fastRoleSwap_canon {h : Hub} {k : Fin 2} (H : Hub.Canon h) : Hub.Canon (Hub.fastRoleSwap h k) :=
  Hub.fastRoleSwap_keeps (bears_canon 0x800000000000800000000000004000000000000101010100000000000000000000000000000000000000000000) (Sub.refl _) H

theorem Hub.fastRoleSwap_same {h : Hub} {k : Fin 2} : Hub.Same 0x800000000000800000000000004000000000000101010100000000000000000000000000000000000000000000 h (Hub.fastRoleSwap h k) :=
  Hub.fastRoleSwap_keeps (bears_same 0x800000000000800000000000004000000000000101010100000000000000000000000000000000000000000000 h) (Sub.refl _) (fun _ => Hub.Same.refl _ _) (by decide)

theorem Hub.fastRoleSwap_rd {h : Hub} {k : Fin 2} {F : Fld} {iF bF : Nat} (eF : Nat.testBit 0x800000000000800000000000004000000000000101010100000000000000000000000000000000000000000000 F.kind = false) :
    Hub.rd (Hub.fastRoleSwap h k) F iF bF = Hub.rd h F iF bF :=
  Hub.fastRoleSwap_same.rd (by decide) F iF bF eF

theorem Hub.fastSwap_canon {h : Hub} {n : ℕ} (H : Hub.Canon h) : Hub.Canon (Hub.fastSwap h n) :=
  Hub.fastSwap_keeps (bears_canon 0x40000040800280200000000000c000001000000101010100000000000000010000000000000000000100010402) (Sub.refl _) H

theorem Hub.fastSwap_same {h : Hub} {n : ℕ} : Hub.Same 0x40000040800280200000000000c000001000000101010100000000000000010000000000000000000100010402 h (Hub.fastSwap h n) :=
  Hub.fastSwap_keeps (bears_same 0x40000040800280200000000000c000001000000101010100000000000000010000000000000000000100010402 h) (Sub.refl _) (fun _ => Hub.Same.refl _ _) (by decide)

theorem Hub.fifoDrain_canon {a : ℕ} {h : Hub} (H : Hub.Canon h) : Hub.Canon (Hub.fifoDrain a h) :=
  Hub.fifoDrain_keeps (bears_canon 0x800000000000000000000000000000000000000000000000000000000000000000000000000004) (Sub.refl _) H

theorem Hub.fifoDrain_same {a : ℕ} {h : Hub} : Hub.Same 0x800000000000000000000000000000000000000000000000000000000000000000000000000004 h (Hub.fifoDrain a h) :=
  Hub.fifoDrain_keeps (bears_same 0x800000000000000000000000000000000000000000000000000000000000000000000000000004 h) (Sub.refl _) (fun _ => Hub.Same.refl _ _) (by decide)

theorem Hub.fifoDrain_rd {a : ℕ} {h : Hub} {F : Fld} {iF bF : Nat} (eF : Nat.testBit 0x800000000000000000000000000000000000000000000000000000000000000000000000000004 F.kind = false) :
    Hub.rd (Hub.fifoDrain a h) F iF bF = Hub.rd h F iF bF :=
  Hub.fifoDrain_same.rd (by decide) F iF bF eF

theorem Hub.fillDone_canon {h : Hub} {w : Writer} (H : Hub.Canon h) : Hub.Canon (h.fillDone w) :=
  Hub.fillDone_keeps (bears_canon 0x2000000108000000000000000000000000000000000000000000000800000000000000000000000000000) (Sub.refl _) H

theorem Hub.fillDone_same {h : Hub} {w : Writer} : Hub.Same 0x2000000108000000000000000000000000000000000000000000000800000000000000000000000000000 h (h.fillDone w) :=
  Hub.fillDone_keeps (bears_same 0x2000000108000000000000000000000000000000000000000000000800000000000000000000000000000 h) (Sub.refl _) (fun _ => Hub.Same.refl _ _) (by decide)

theorem Hub.fillDone_rd {h : Hub} {w : Writer} {F : Fld} {iF bF : Nat} (eF : Nat.testBit 0x2000000108000000000000000000000000000000000000000000000800000000000000000000000000000 F.kind = false) :
    Hub.rd (h.fillDone w) F iF bF = Hub.rd h F iF bF :=
  Hub.fillDone_same.rd (by decide) F iF bF eF

theorem Hub.fillSlot_canon {h : Hub} {s : ℕ} {recip : ℕ} {sealed : ℕ} {k : Bytes} (H : Hub.Canon h) : Hub.Canon (Hub.fillSlot h s recip sealed k) :=
  Hub.fillSlot_keeps (bears_canon 0x1000000000000000000000000000000000000000000000000000000000000000000000000000000004000) (Sub.refl _) H

theorem Hub.fillSlot_same {h : Hub} {s : ℕ} {recip : ℕ} {sealed : ℕ} {k : Bytes} : Hub.Same 0x1000000000000000000000000000000000000000000000000000000000000000000000000000000004000 h (Hub.fillSlot h s recip sealed k) :=
  Hub.fillSlot_keeps (bears_same 0x1000000000000000000000000000000000000000000000000000000000000000000000000000000004000 h) (Sub.refl _) (fun _ => Hub.Same.refl _ _) (by decide)

theorem Hub.fillSlot_rd {h : Hub} {s : ℕ} {recip : ℕ} {sealed : ℕ} {k : Bytes} {F : Fld} {iF bF : Nat} (eF : Nat.testBit 0x1000000000000000000000000000000000000000000000000000000000000000000000000000000004000 F.kind = false) :
    Hub.rd (Hub.fillSlot h s recip sealed k) F iF bF = Hub.rd h F iF bF :=
  Hub.fillSlot_same.rd (by decide) F iF bF eF

theorem Hub.findPolarity_canon {h : Hub} {l : ℕ} {inverted : Bool} {valid : Bool} (H : Hub.Canon h) : Hub.Canon (Hub.findPolarity h l inverted valid) :=
  Hub.findPolarity_keeps (bears_canon 0x100000000) (Sub.refl _) H

theorem Hub.findPolarity_same {h : Hub} {l : ℕ} {inverted : Bool} {valid : Bool} : Hub.Same 0x100000000 h (Hub.findPolarity h l inverted valid) :=
  Hub.findPolarity_keeps (bears_same 0x100000000 h) (Sub.refl _) (fun _ => Hub.Same.refl _ _) (by decide)

theorem Hub.findPolarity_rd {h : Hub} {l : ℕ} {inverted : Bool} {valid : Bool} {F : Fld} {iF bF : Nat} (eF : Nat.testBit 0x100000000 F.kind = false) :
    Hub.rd (Hub.findPolarity h l inverted valid) F iF bF = Hub.rd h F iF bF :=
  Hub.findPolarity_same.rd (by decide) F iF bF eF

theorem Hub.flip_canon {h : Hub} {n : ℕ} (H : Hub.Canon h) : Hub.Canon (Hub.flip h n) :=
  Hub.flip_keeps (bears_canon 0x8000000000000000000000000000000000000000000000820000000000000000000000000000) (Sub.refl _) H

theorem Hub.flip_same {h : Hub} {n : ℕ} : Hub.Same 0x8000000000000000000000000000000000000000000000820000000000000000000000000000 h (Hub.flip h n) :=
  Hub.flip_keeps (bears_same 0x8000000000000000000000000000000000000000000000820000000000000000000000000000 h) (Sub.refl _) (fun _ => Hub.Same.refl _ _) (by decide)

theorem Hub.flip_rd {h : Hub} {n : ℕ} {F : Fld} {iF bF : Nat} (eF : Nat.testBit 0x8000000000000000000000000000000000000000000000820000000000000000000000000000 F.kind = false) :
    Hub.rd (Hub.flip h n) F iF bF = Hub.rd h F iF bF :=
  Hub.flip_same.rd (by decide) F iF bF eF

theorem Hub.raiseNak_canon {h : Hub} {p : ℕ} (H : Hub.Canon h) : Hub.Canon (Hub.raiseNak h p) :=
  Hub.raiseNak_keeps (bears_canon 0x10000) (Sub.refl _) H

theorem Hub.raiseNak_same {h : Hub} {p : ℕ} : Hub.Same 0x10000 h (Hub.raiseNak h p) :=
  Hub.raiseNak_keeps (bears_same 0x10000 h) (Sub.refl _) (fun _ => Hub.Same.refl _ _) (by decide)

theorem Hub.raiseNak_rd {h : Hub} {p : ℕ} {F : Fld} {iF bF : Nat} (eF : Nat.testBit 0x10000 F.kind = false) :
    Hub.rd (Hub.raiseNak h p) F iF bF = Hub.rd h F iF bF :=
  Hub.raiseNak_same.rd (by decide) F iF bF eF

theorem Hub.resendFrom_canon {h : Hub} {p : ℕ} {f : RFrame} {charge : Bool} (H : Hub.Canon h) : Hub.Canon (Hub.resendFrom h p f charge) :=
  Hub.resendFrom_keeps (bears_canon 0xb987aa80200000000000c00060100000000000000000000000000001030200010f030000000100014402) (Sub.refl _) H

theorem Hub.resendFrom_same {h : Hub} {p : ℕ} {f : RFrame} {charge : Bool} : Hub.Same 0xb987aa80200000000000c00060100000000000000000000000000001030200010f030000000100014402 h (Hub.resendFrom h p f charge) :=
  Hub.resendFrom_keeps (bears_same 0xb987aa80200000000000c00060100000000000000000000000000001030200010f030000000100014402 h) (Sub.refl _) (fun _ => Hub.Same.refl _ _) (by decide)

theorem Hub.nakIn_canon {h : Hub} {p : ℕ} {v : ℕ} (H : Hub.Canon h) : Hub.Canon (Hub.nakIn h p v) :=
  Hub.nakIn_keeps (bears_canon 0xb987aa80200000000000c00060100000000000000000000000000001030200010f030000000100014402) (Sub.refl _) H

theorem Hub.nakIn_same {h : Hub} {p : ℕ} {v : ℕ} : Hub.Same 0xb987aa80200000000000c00060100000000000000000000000000001030200010f030000000100014402 h (Hub.nakIn h p v) :=
  Hub.nakIn_keeps (bears_same 0xb987aa80200000000000c00060100000000000000000000000000001030200010f030000000100014402 h) (Sub.refl _) (fun _ => Hub.Same.refl _ _) (by decide)

theorem Hub.frameIn_canon {g : Hub} {p : ℕ} {l : ℕ} {f : LinkFrame} (H : Hub.Canon g) : Hub.Canon (Hub.frameIn g p l f) :=
  Hub.frameIn_keeps (bears_canon 0xb987aa80200000000000c00060100000000000000000000000000001030200010f030000000100014402) (Sub.refl _) H

theorem Hub.frameIn_same {g : Hub} {p : ℕ} {l : ℕ} {f : LinkFrame} : Hub.Same 0xb987aa80200000000000c00060100000000000000000000000000001030200010f030000000100014402 g (Hub.frameIn g p l f) :=
  Hub.frameIn_keeps (bears_same 0xb987aa80200000000000c00060100000000000000000000000000001030200010f030000000100014402 g) (Sub.refl _) (fun _ => Hub.Same.refl _ _) (by decide)

theorem Hub.framePut_canon {h : Hub} {l : ℕ} {f : LinkFrame} (H : Hub.Canon h) : Hub.Canon (Hub.framePut h l f) :=
  Hub.framePut_keeps (bears_canon 0x400000000000000000000000000000000000000000000000000000000000000000000000000100000000) (Sub.refl _) H

theorem Hub.framePut_same {h : Hub} {l : ℕ} {f : LinkFrame} : Hub.Same 0x400000000000000000000000000000000000000000000000000000000000000000000000000100000000 h (Hub.framePut h l f) :=
  Hub.framePut_keeps (bears_same 0x400000000000000000000000000000000000000000000000000000000000000000000000000100000000 h) (Sub.refl _) (fun _ => Hub.Same.refl _ _) (by decide)

theorem Hub.framePut_rd {h : Hub} {l : ℕ} {f : LinkFrame} {F : Fld} {iF bF : Nat} (eF : Nat.testBit 0x400000000000000000000000000000000000000000000000000000000000000000000000000100000000 F.kind = false) :
    Hub.rd (Hub.framePut h l f) F iF bF = Hub.rd h F iF bF :=
  Hub.framePut_same.rd (by decide) F iF bF eF

theorem Hub.freeCredit_canon {h : Hub} {pt : ℕ} {vc : ℕ} (H : Hub.Canon h) : Hub.Canon (Hub.freeCredit h pt vc) :=
  Hub.freeCredit_keeps (bears_canon 0x10000) (Sub.refl _) H

theorem Hub.freeCredit_same {h : Hub} {pt : ℕ} {vc : ℕ} : Hub.Same 0x10000 h (Hub.freeCredit h pt vc) :=
  Hub.freeCredit_keeps (bears_same 0x10000 h) (Sub.refl _) (fun _ => Hub.Same.refl _ _) (by decide)

theorem Hub.freeCredit_rd {h : Hub} {pt : ℕ} {vc : ℕ} {F : Fld} {iF bF : Nat} (eF : Nat.testBit 0x10000 F.kind = false) :
    Hub.rd (Hub.freeCredit h pt vc) F iF bF = Hub.rd h F iF bF :=
  Hub.freeCredit_same.rd (by decide) F iF bF eF

theorem Hub.freeOfCharge_canon {p : ℕ} {h : Hub} (H : Hub.Canon h) : Hub.Canon (Hub.freeOfCharge p h) :=
  Hub.freeOfCharge_keeps (bears_canon 0x10000) (Sub.refl _) H

theorem Hub.freeOfCharge_same {p : ℕ} {h : Hub} : Hub.Same 0x10000 h (Hub.freeOfCharge p h) :=
  Hub.freeOfCharge_keeps (bears_same 0x10000 h) (Sub.refl _) (fun _ => Hub.Same.refl _ _) (by decide)

theorem Hub.freeOfCharge_rd {p : ℕ} {h : Hub} {F : Fld} {iF bF : Nat} (eF : Nat.testBit 0x10000 F.kind = false) :
    Hub.rd (Hub.freeOfCharge p h) F iF bF = Hub.rd h F iF bF :=
  Hub.freeOfCharge_same.rd (by decide) F iF bF eF

theorem Hub.hdrsHeard_canon {h : Hub} {l : ℕ} (H : Hub.Canon h) : Hub.Canon (Hub.hdrsHeard h l) :=
  Hub.hdrsHeard_keeps (bears_canon 0x100000000) (Sub.refl _) H

theorem Hub.hdrsHeard_same {h : Hub} {l : ℕ} : Hub.Same 0x100000000 h (Hub.hdrsHeard h l) :=
  Hub.hdrsHeard_keeps (bears_same 0x100000000 h) (Sub.refl _) (fun _ => Hub.Same.refl _ _) (by decide)

theorem Hub.hdrsHeard_rd {h : Hub} {l : ℕ} {F : Fld} {iF bF : Nat} (eF : Nat.testBit 0x100000000 F.kind = false) :
    Hub.rd (Hub.hdrsHeard h l) F iF bF = Hub.rd h F iF bF :=
  Hub.hdrsHeard_same.rd (by decide) F iF bF eF

theorem Hub.hearNbr_canon {h : Hub} {p : ℕ} {n : Nbr} (H : Hub.Canon h) : Hub.Canon (Hub.hearNbr h p n) :=
  Hub.hearNbr_keeps (bears_canon 0xc00000000006788a808000000000004000480000000000000000000000000000010302000000030000000000000400) (Sub.refl _) H

theorem Hub.hearNbr_same {h : Hub} {p : ℕ} {n : Nbr} : Hub.Same 0xc00000000006788a808000000000004000480000000000000000000000000000010302000000030000000000000400 h (Hub.hearNbr h p n) :=
  Hub.hearNbr_keeps (bears_same 0xc00000000006788a808000000000004000480000000000000000000000000000010302000000030000000000000400 h) (Sub.refl _) (fun _ => Hub.Same.refl _ _) (by decide)

theorem Hub.hearNbr_rd {h : Hub} {p : ℕ} {n : Nbr} {F : Fld} {iF bF : Nat} (eF : Nat.testBit 0xc00000000006788a808000000000004000480000000000000000000000000000010302000000030000000000000400 F.kind = false) :
    Hub.rd (Hub.hearNbr h p n) F iF bF = Hub.rd h F iF bF :=
  Hub.hearNbr_same.rd (by decide) F iF bF eF

theorem Hub.hostCommit_canon {h : Hub} {n : Fin 64} (H : Hub.Canon h) : Hub.Canon (Hub.hostCommit h n) :=
  Hub.hostCommit_keeps (bears_canon 0x8000000000000000000000000000000000000000000000800000000000000000000000000000) (Sub.refl _) H

theorem Hub.hostCommit_same {h : Hub} {n : Fin 64} : Hub.Same 0x8000000000000000000000000000000000000000000000800000000000000000000000000000 h (Hub.hostCommit h n) :=
  Hub.hostCommit_keeps (bears_same 0x8000000000000000000000000000000000000000000000800000000000000000000000000000 h) (Sub.refl _) (fun _ => Hub.Same.refl _ _) (by decide)

theorem Hub.hostCommit_rd {h : Hub} {n : Fin 64} {F : Fld} {iF bF : Nat} (eF : Nat.testBit 0x8000000000000000000000000000000000000000000000800000000000000000000000000000 F.kind = false) :
    Hub.rd (Hub.hostCommit h n) F iF bF = Hub.rd h F iF bF :=
  Hub.hostCommit_same.rd (by decide) F iF bF eF

theorem Hub.putRaster_canon {k : ℕ} {rel : ℕ} {b : Byte} {h : Hub} (H : Hub.Canon h) : Hub.Canon (Hub.putRaster k rel b h) :=
  Hub.putRaster_keeps (bears_canon 0x100000000000000000000000000000000000000000000000000000000000000000000000000000) (Sub.refl _) H

theorem Hub.putRaster_same {k : ℕ} {rel : ℕ} {b : Byte} {h : Hub} : Hub.Same 0x100000000000000000000000000000000000000000000000000000000000000000000000000000 h (Hub.putRaster k rel b h) :=
  Hub.putRaster_keeps (bears_same 0x100000000000000000000000000000000000000000000000000000000000000000000000000000 h) (Sub.refl _) (fun _ => Hub.Same.refl _ _) (by decide)

theorem Hub.putRaster_rd {k : ℕ} {rel : ℕ} {b : Byte} {h : Hub} {F : Fld} {iF bF : Nat} (eF : Nat.testBit 0x100000000000000000000000000000000000000000000000000000000000000000000000000000 F.kind = false) :
    Hub.rd (Hub.putRaster k rel b h) F iF bF = Hub.rd h F iF bF :=
  Hub.putRaster_same.rd (by decide) F iF bF eF

theorem Hub.hostWrite_canon {h : Hub} {n : Fin 64} {off : ℕ} {data : Bytes} (H : Hub.Canon h) : Hub.Canon (Hub.hostWrite h n off data) :=
  Hub.hostWrite_keeps (bears_canon 0x2900000000000004000000000000000000000000000010000810000000000000000000000000500) (Sub.refl _) H

theorem Hub.hostWrite_same {h : Hub} {n : Fin 64} {off : ℕ} {data : Bytes} : Hub.Same 0x2900000000000004000000000000000000000000000010000810000000000000000000000000500 h (Hub.hostWrite h n off data) :=
  Hub.hostWrite_keeps (bears_same 0x2900000000000004000000000000000000000000000010000810000000000000000000000000500 h) (Sub.refl _) (fun _ => Hub.Same.refl _ _) (by decide)

theorem Hub.hostWrite_rd {h : Hub} {n : Fin 64} {off : ℕ} {data : Bytes} {F : Fld} {iF bF : Nat} (eF : Nat.testBit 0x2900000000000004000000000000000000000000000010000810000000000000000000000000500 F.kind = false) :
    Hub.rd (Hub.hostWrite h n off data) F iF bF = Hub.rd h F iF bF :=
  Hub.hostWrite_same.rd (by decide) F iF bF eF

theorem Hub.hpdIrq_canon {h : Hub} {n : ℕ} {lostLock : Bool} {retrained : Bool} (H : Hub.Canon h) : Hub.Canon (Hub.hpdIrq h n lostLock retrained) :=
  Hub.hpdIrq_keeps (bears_canon 0x2800000000000004000000000000000000000000000000001030000000000000000000000000402) (Sub.refl _) H

theorem Hub.hpdIrq_same {h : Hub} {n : ℕ} {lostLock : Bool} {retrained : Bool} : Hub.Same 0x2800000000000004000000000000000000000000000000001030000000000000000000000000402 h (Hub.hpdIrq h n lostLock retrained) :=
  Hub.hpdIrq_keeps (bears_same 0x2800000000000004000000000000000000000000000000001030000000000000000000000000402 h) (Sub.refl _) (fun _ => Hub.Same.refl _ _) (by decide)

theorem Hub.hpdIrq_rd {h : Hub} {n : ℕ} {lostLock : Bool} {retrained : Bool} {F : Fld} {iF bF : Nat} (eF : Nat.testBit 0x2800000000000004000000000000000000000000000000001030000000000000000000000000402 F.kind = false) :
    Hub.rd (Hub.hpdIrq h n lostLock retrained) F iF bF = Hub.rd h F iF bF :=
  Hub.hpdIrq_same.rd (by decide) F iF bF eF

theorem Hub.hpdLost_canon {h : Hub} {n : ℕ} (H : Hub.Canon h) : Hub.Canon (Hub.hpdLost h n) :=
  Hub.hpdLost_keeps (bears_canon 0x2800000000000004000000000000000000000000000000001030000000000000000000000000402) (Sub.refl _) H

theorem Hub.hpdLost_same {h : Hub} {n : ℕ} : Hub.Same 0x2800000000000004000000000000000000000000000000001030000000000000000000000000402 h (Hub.hpdLost h n) :=
  Hub.hpdLost_keeps (bears_same 0x2800000000000004000000000000000000000000000000001030000000000000000000000000402 h) (Sub.refl _) (fun _ => Hub.Same.refl _ _) (by decide)

theorem Hub.hpdLost_rd {h : Hub} {n : ℕ} {F : Fld} {iF bF : Nat} (eF : Nat.testBit 0x2800000000000004000000000000000000000000000000001030000000000000000000000000402 F.kind = false) :
    Hub.rd (Hub.hpdLost h n) F iF bF = Hub.rd h F iF bF :=
  Hub.hpdLost_same.rd (by decide) F iF bF eF

theorem Hub.hrstBall_canon {h : Hub} {low : Bool} {straps : ℕ} (H : Hub.Canon h) : Hub.Canon (Hub.hrstBall h low straps) :=
  Hub.hrstBall_keeps (bears_canon 0x80000000000000000000000000000000003f87fffffffffffb8fe00000000000c000842000000000000000000000000000010000000000010000000000003c0f) (Sub.refl _) H

theorem Hub.hsrateUpdate_canon {h : Hub} {rate : ℕ} (H : Hub.Canon h) : Hub.Canon (Hub.hsrateUpdate h rate) :=
  Hub.hsrateUpdate_keeps (bears_canon 0x3800000000000004000000000000000000000000000000000010000000000000000000000000404) (Sub.refl _) H

theorem Hub.hsrateUpdate_same {h : Hub} {rate : ℕ} : Hub.Same 0x3800000000000004000000000000000000000000000000000010000000000000000000000000404 h (Hub.hsrateUpdate h rate) :=
  Hub.hsrateUpdate_keeps (bears_same 0x3800000000000004000000000000000000000000000000000010000000000000000000000000404 h) (Sub.refl _) (fun _ => Hub.Same.refl _ _) (by decide)

theorem Hub.hsrateUpdate_rd {h : Hub} {rate : ℕ} {F : Fld} {iF bF : Nat} (eF : Nat.testBit 0x3800000000000004000000000000000000000000000000000010000000000000000000000000404 F.kind = false) :
    Hub.rd (Hub.hsrateUpdate h rate) F iF bF = Hub.rd h F iF bF :=
  Hub.hsrateUpdate_same.rd (by decide) F iF bF eF

theorem Hub.hubReq_canon {h : Hub} {q : HubReq} (H : Hub.Canon h) : Hub.Canon (Hub.hubReq h q) :=
  Hub.hubReq_keeps (bears_canon 0x140000000000808000000000004000000000000000000000070000000000000000000000000000000000000000) (Sub.refl _) H

theorem Hub.hubReq_same {h : Hub} {q : HubReq} : Hub.Same 0x140000000000808000000000004000000000000000000000070000000000000000000000000000000000000000 h (Hub.hubReq h q) :=
  Hub.hubReq_keeps (bears_same 0x140000000000808000000000004000000000000000000000070000000000000000000000000000000000000000 h) (Sub.refl _) (fun _ => Hub.Same.refl _ _) (by decide)

theorem Hub.hubReq_rd {h : Hub} {q : HubReq} {F : Fld} {iF bF : Nat} (eF : Nat.testBit 0x140000000000808000000000004000000000000000000000070000000000000000000000000000000000000000 F.kind = false) :
    Hub.rd (Hub.hubReq h q) F iF bF = Hub.rd h F iF bF :=
  Hub.hubReq_same.rd (by decide) F iF bF eF

theorem Hub.inToken_canon {h : Hub} {ep : ℕ} (H : Hub.Canon h) : Hub.Canon (Hub.inToken h ep) :=
  Hub.inToken_keeps (bears_canon 0x200000000000000000000000004000000000000000000000020000000000000000000000000000000000000000) (Sub.refl _) H

theorem Hub.inToken_same {h : Hub} {ep : ℕ} : Hub.Same 0x200000000000000000000000004000000000000000000000020000000000000000000000000000000000000000 h (Hub.inToken h ep) :=
  Hub.inToken_keeps (bears_same 0x200000000000000000000000004000000000000000000000020000000000000000000000000000000000000000 h) (Sub.refl _) (fun _ => Hub.Same.refl _ _) (by decide)

theorem Hub.inToken_rd {h : Hub} {ep : ℕ} {F : Fld} {iF bF : Nat} (eF : Nat.testBit 0x200000000000000000000000004000000000000000000000020000000000000000000000000000000000000000 F.kind = false) :
    Hub.rd (Hub.inToken h ep) F iF bF = Hub.rd h F iF bF :=
  Hub.inToken_same.rd (by decide) F iF bF eF

theorem Hub.infoField_canon {h : Hub} {p : ℕ} {lowest : Bool} (H : Hub.Canon h) : Hub.Canon (Hub.infoField h p lowest).2.2 :=
  Hub.infoField_keeps (bears_canon 0x10000) (Sub.refl _) H

theorem Hub.infoField_same {h : Hub} {p : ℕ} {lowest : Bool} : Hub.Same 0x10000 h (Hub.infoField h p lowest).2.2 :=
  Hub.infoField_keeps (bears_same 0x10000 h) (Sub.refl _) (fun _ => Hub.Same.refl _ _) (by decide)

theorem Hub.infoField_rd {h : Hub} {p : ℕ} {lowest : Bool} {F : Fld} {iF bF : Nat} (eF : Nat.testBit 0x10000 F.kind = false) :
    Hub.rd (Hub.infoField h p lowest).2.2 F iF bF = Hub.rd h F iF bF :=
  Hub.infoField_same.rd (by decide) F iF bF eF

theorem Hub.standbyLost_canon {h : Hub} (H : Hub.Canon h) : Hub.Canon (Hub.standbyLost h) :=
  Hub.standbyLost_keeps (bears_canon 0x40808000000000000004000000000000000000000000000000000000100000000010000000000000000) (Sub.refl _) H

theorem Hub.standbyLost_same {h : Hub} : Hub.Same 0x40808000000000000004000000000000000000000000000000000000100000000010000000000000000 h (Hub.standbyLost h) :=
  Hub.standbyLost_keeps (bears_same 0x40808000000000000004000000000000000000000000000000000000100000000010000000000000000 h) (Sub.refl _) (fun _ => Hub.Same.refl _ _) (by decide)

theorem Hub.standbyLost_rd {h : Hub} {F : Fld} {iF bF : Nat} (eF : Nat.testBit 0x40808000000000000004000000000000000000000000000000000000100000000010000000000000000 F.kind = false) :
    Hub.rd (Hub.standbyLost h) F iF bF = Hub.rd h F iF bF :=
  Hub.standbyLost_same.rd (by decide) F iF bF eF

theorem Hub.intentAcked_canon {h : Hub} {g : ℕ} {status : ℕ} (H : Hub.Canon h) : Hub.Canon (Hub.intentAcked h g status) :=
  Hub.intentAcked_keeps (bears_canon 0x49808000000000000004000000000000000000000000000000000000100000000010000000000000000) (Sub.refl _) H

theorem Hub.intentAcked_same {h : Hub} {g : ℕ} {status : ℕ} : Hub.Same 0x49808000000000000004000000000000000000000000000000000000100000000010000000000000000 h (Hub.intentAcked h g status) :=
  Hub.intentAcked_keeps (bears_same 0x49808000000000000004000000000000000000000000000000000000100000000010000000000000000 h) (Sub.refl _) (fun _ => Hub.Same.refl _ _) (by decide)

theorem Hub.intentAcked_rd {h : Hub} {g : ℕ} {status : ℕ} {F : Fld} {iF bF : Nat} (eF : Nat.testBit 0x49808000000000000004000000000000000000000000000000000000100000000010000000000000000 F.kind = false) :
    Hub.rd (Hub.intentAcked h g status) F iF bF = Hub.rd h F iF bF :=
  Hub.intentAcked_same.rd (by decide) F iF bF eF

theorem Hub.issueRead_canon {h : Hub} {m : TxbIn} (H : Hub.Canon h) : Hub.Canon (Hub.issueRead h m) :=
  Hub.issueRead_keeps (bears_canon 0x5020000002800000000000004000000000000000000000000000010100810000000000000000000000000500) (Sub.refl _) H

theorem Hub.issueRead_same {h : Hub} {m : TxbIn} : Hub.Same 0x5020000002800000000000004000000000000000000000000000010100810000000000000000000000000500 h (Hub.issueRead h m) :=
  Hub.issueRead_keeps (bears_same 0x5020000002800000000000004000000000000000000000000000010100810000000000000000000000000500 h) (Sub.refl _) (fun _ => Hub.Same.refl _ _) (by decide)

theorem Hub.issueRead_rd {h : Hub} {m : TxbIn} {F : Fld} {iF bF : Nat} (eF : Nat.testBit 0x5020000002800000000000004000000000000000000000000000010100810000000000000000000000000500 F.kind = false) :
    Hub.rd (Hub.issueRead h m) F iF bF = Hub.rd h F iF bF :=
  Hub.issueRead_same.rd (by decide) F iF bF eF

theorem Hub.refreshLand_canon {h : Hub} (H : Hub.Canon h) : Hub.Canon (Hub.refreshLand h) :=
  Hub.refreshLand_keeps (bears_canon 0x100000000000000000000000000000000) (Sub.refl _) H

theorem Hub.refreshLand_same {h : Hub} : Hub.Same 0x100000000000000000000000000000000 h (Hub.refreshLand h) :=
  Hub.refreshLand_keeps (bears_same 0x100000000000000000000000000000000 h) (Sub.refl _) (fun _ => Hub.Same.refl _ _) (by decide)

theorem Hub.refreshLand_rd {h : Hub} {F : Fld} {iF bF : Nat} (eF : Nat.testBit 0x100000000000000000000000000000000 F.kind = false) :
    Hub.rd (Hub.refreshLand h) F iF bF = Hub.rd h F iF bF :=
  Hub.refreshLand_same.rd (by decide) F iF bF eF

theorem Hub.postError_canon {h : Hub} {m : TxbIn} {status : ℕ} (H : Hub.Canon h) : Hub.Canon (Hub.postError h m status) :=
  Hub.postError_keeps (bears_canon 0x2020000000000000000000000000000000000000000000000000000100000000000000000000000000000000) (Sub.refl _) H

theorem Hub.postError_same {h : Hub} {m : TxbIn} {status : ℕ} : Hub.Same 0x2020000000000000000000000000000000000000000000000000000100000000000000000000000000000000 h (Hub.postError h m status) :=
  Hub.postError_keeps (bears_same 0x2020000000000000000000000000000000000000000000000000000100000000000000000000000000000000 h) (Sub.refl _) (fun _ => Hub.Same.refl _ _) (by decide)

theorem Hub.postError_rd {h : Hub} {m : TxbIn} {status : ℕ} {F : Fld} {iF bF : Nat} (eF : Nat.testBit 0x2020000000000000000000000000000000000000000000000000000100000000000000000000000000000000 F.kind = false) :
    Hub.rd (Hub.postError h m status) F iF bF = Hub.rd h F iF bF :=
  Hub.postError_same.rd (by decide) F iF bF eF

theorem Hub.issueWrite_canon {h : Hub} {busOk : Bool} (H : Hub.Canon h) : Hub.Canon (Hub.issueWrite h busOk) :=
  Hub.issueWrite_keeps (bears_canon 0x6420000002900000000000004000000000000000000000000000010100810000000000000000000000000500) (Sub.refl _) H

theorem Hub.issueWrite_same {h : Hub} {busOk : Bool} : Hub.Same 0x6420000002900000000000004000000000000000000000000000010100810000000000000000000000000500 h (Hub.issueWrite h busOk) :=
  Hub.issueWrite_keeps (bears_same 0x6420000002900000000000004000000000000000000000000000010100810000000000000000000000000500 h) (Sub.refl _) (fun _ => Hub.Same.refl _ _) (by decide)

theorem Hub.issueWrite_rd {h : Hub} {busOk : Bool} {F : Fld} {iF bF : Nat} (eF : Nat.testBit 0x6420000002900000000000004000000000000000000000000000010100810000000000000000000000000500 F.kind = false) :
    Hub.rd (Hub.issueWrite h busOk) F iF bF = Hub.rd h F iF bF :=
  Hub.issueWrite_same.rd (by decide) F iF bF eF

theorem Hub.keyCmd_canon {h : Hub} {r : Req} {op : ℕ} {v : ℕ} (H : Hub.Canon h) : Hub.Canon (Hub.keyCmd h r op v) :=
  Hub.keyCmd_keeps (bears_canon 0x28a0000000000004000000000000000000000000000000000010000000000000000000000004500) (Sub.refl _) H

theorem Hub.keyCmd_same {h : Hub} {r : Req} {op : ℕ} {v : ℕ} : Hub.Same 0x28a0000000000004000000000000000000000000000000000010000000000000000000000004500 h (Hub.keyCmd h r op v) :=
  Hub.keyCmd_keeps (bears_same 0x28a0000000000004000000000000000000000000000000000010000000000000000000000004500 h) (Sub.refl _) (fun _ => Hub.Same.refl _ _) (by decide)

theorem Hub.keyCmd_rd {h : Hub} {r : Req} {op : ℕ} {v : ℕ} {F : Fld} {iF bF : Nat} (eF : Nat.testBit 0x28a0000000000004000000000000000000000000000000000010000000000000000000000004500 F.kind = false) :
    Hub.rd (Hub.keyCmd h r op v) F iF bF = Hub.rd h F iF bF :=
  Hub.keyCmd_same.rd (by decide) F iF bF eF

theorem Hub.keyEnd_canon {h : Hub} {code : ℕ} (H : Hub.Canon h) : Hub.Canon (Hub.keyEnd h code) :=
  Hub.keyEnd_keeps (bears_canon 0x4000000000000000000000000000000000000000000000000000000000004000) (Sub.refl _) H

theorem Hub.keyEnd_same {h : Hub} {code : ℕ} : Hub.Same 0x4000000000000000000000000000000000000000000000000000000000004000 h (Hub.keyEnd h code) :=
  Hub.keyEnd_keeps (bears_same 0x4000000000000000000000000000000000000000000000000000000000004000 h) (Sub.refl _) (fun _ => Hub.Same.refl _ _) (by decide)

theorem Hub.keyEnd_rd {h : Hub} {code : ℕ} {F : Fld} {iF bF : Nat} (eF : Nat.testBit 0x4000000000000000000000000000000000000000000000000000000000004000 F.kind = false) :
    Hub.rd (Hub.keyEnd h code) F iF bF = Hub.rd h F iF bF :=
  Hub.keyEnd_same.rd (by decide) F iF bF eF

theorem Hub.keyRun_canon {h : Hub} {op : ℕ} {dst : ℕ} {src : ℕ} {srcsel : ℕ} {recip : ℕ} {sealed : ℕ} {mask : ℕ} {infolen : ℕ} {record : ℕ} {agree : Bool} {useStatic : Bool} {storeOk : Bool} (H : Hub.Canon h) : Hub.Canon (Hub.keyRun h op dst src srcsel recip sealed mask infolen record agree useStatic storeOk) :=
  Hub.keyRun_keeps (bears_canon 0x1e000001000002800000000000004000000000000000000000000000000000010000000000000000000000004400) (Sub.refl _) H

theorem Hub.keyRun_same {h : Hub} {op : ℕ} {dst : ℕ} {src : ℕ} {srcsel : ℕ} {recip : ℕ} {sealed : ℕ} {mask : ℕ} {infolen : ℕ} {record : ℕ} {agree : Bool} {useStatic : Bool} {storeOk : Bool} : Hub.Same 0x1e000001000002800000000000004000000000000000000000000000000000010000000000000000000000004400 h (Hub.keyRun h op dst src srcsel recip sealed mask infolen record agree useStatic storeOk) :=
  Hub.keyRun_keeps (bears_same 0x1e000001000002800000000000004000000000000000000000000000000000010000000000000000000000004400 h) (Sub.refl _) (fun _ => Hub.Same.refl _ _) (by decide)

theorem Hub.keyRun_rd {h : Hub} {op : ℕ} {dst : ℕ} {src : ℕ} {srcsel : ℕ} {recip : ℕ} {sealed : ℕ} {mask : ℕ} {infolen : ℕ} {record : ℕ} {agree : Bool} {useStatic : Bool} {storeOk : Bool} {F : Fld} {iF bF : Nat} (eF : Nat.testBit 0x1e000001000002800000000000004000000000000000000000000000000000010000000000000000000000004400 F.kind = false) :
    Hub.rd (Hub.keyRun h op dst src srcsel recip sealed mask infolen record agree useStatic storeOk) F iF bF = Hub.rd h F iF bF :=
  Hub.keyRun_same.rd (by decide) F iF bF eF

theorem Hub.keyDone_canon {h : Hub} {storeOk : Bool} (H : Hub.Canon h) : Hub.Canon (Hub.keyDone h storeOk) :=
  Hub.keyDone_keeps (bears_canon 0x1e000001000002800000000000004000000000000000000000000000000000010000000000000000000000004400) (Sub.refl _) H

theorem Hub.keyDone_same {h : Hub} {storeOk : Bool} : Hub.Same 0x1e000001000002800000000000004000000000000000000000000000000000010000000000000000000000004400 h (Hub.keyDone h storeOk) :=
  Hub.keyDone_keeps (bears_same 0x1e000001000002800000000000004000000000000000000000000000000000010000000000000000000000004400 h) (Sub.refl _) (fun _ => Hub.Same.refl _ _) (by decide)

theorem Hub.keyDone_rd {h : Hub} {storeOk : Bool} {F : Fld} {iF bF : Nat} (eF : Nat.testBit 0x1e000001000002800000000000004000000000000000000000000000000000010000000000000000000000004400 F.kind = false) :
    Hub.rd (Hub.keyDone h storeOk) F iF bF = Hub.rd h F iF bF :=
  Hub.keyDone_same.rd (by decide) F iF bF eF

theorem Hub.keyIn_canon {h : Hub} {p : ℕ} {tok : ℕ} {phase : ℕ} {span : ℕ} (H : Hub.Canon h) : Hub.Canon (Hub.keyIn h p tok phase span) :=
  Hub.keyIn_keeps (bears_canon 0x800a800000000000004000200000000000000000000000000000010102000000030000000000014400) (Sub.refl _) H

theorem Hub.keyIn_same {h : Hub} {p : ℕ} {tok : ℕ} {phase : ℕ} {span : ℕ} : Hub.Same 0x800a800000000000004000200000000000000000000000000000010102000000030000000000014400 h (Hub.keyIn h p tok phase span) :=
  Hub.keyIn_keeps (bears_same 0x800a800000000000004000200000000000000000000000000000010102000000030000000000014400 h) (Sub.refl _) (fun _ => Hub.Same.refl _ _) (by decide)

theorem Hub.keyIn_rd {h : Hub} {p : ℕ} {tok : ℕ} {phase : ℕ} {span : ℕ} {F : Fld} {iF bF : Nat} (eF : Nat.testBit 0x800a800000000000004000200000000000000000000000000000010102000000030000000000014400 F.kind = false) :
    Hub.rd (Hub.keyIn h p tok phase span) F iF bF = Hub.rd h F iF bF :=
  Hub.keyIn_same.rd (by decide) F iF bF eF

theorem Hub.keyackIn_canon {h : Hub} {p : ℕ} {tok : ℕ} {status : ℕ} (H : Hub.Canon h) : Hub.Canon (Hub.keyackIn h p tok status) :=
  Hub.keyackIn_keeps (bears_canon 0x800a800000000000004000200000000000000000000000000000010102000000030000000000014400) (Sub.refl _) H

theorem Hub.keyackIn_same {h : Hub} {p : ℕ} {tok : ℕ} {status : ℕ} : Hub.Same 0x800a800000000000004000200000000000000000000000000000010102000000030000000000014400 h (Hub.keyackIn h p tok status) :=
  Hub.keyackIn_keeps (bears_same 0x800a800000000000004000200000000000000000000000000000010102000000030000000000014400 h) (Sub.refl _) (fun _ => Hub.Same.refl _ _) (by decide)

theorem Hub.keyackIn_rd {h : Hub} {p : ℕ} {tok : ℕ} {status : ℕ} {F : Fld} {iF bF : Nat} (eF : Nat.testBit 0x800a800000000000004000200000000000000000000000000000010102000000030000000000014400 F.kind = false) :
    Hub.rd (Hub.keyackIn h p tok status) F iF bF = Hub.rd h F iF bF :=
  Hub.keyackIn_same.rd (by decide) F iF bF eF

theorem Hub.scrPut_canon {h : Hub} {l : ℕ} {hdr : ℕ} {v : ℕ} (H : Hub.Canon h) : Hub.Canon (Hub.scrPut h l hdr v) :=
  Hub.scrPut_keeps (bears_canon 0x400000000000000000000000000000000000000000000000000000000000000000000000000100000000) (Sub.refl _) H

theorem Hub.scrPut_same {h : Hub} {l : ℕ} {hdr : ℕ} {v : ℕ} : Hub.Same 0x400000000000000000000000000000000000000000000000000000000000000000000000000100000000 h (Hub.scrPut h l hdr v) :=
  Hub.scrPut_keeps (bears_same 0x400000000000000000000000000000000000000000000000000000000000000000000000000100000000 h) (Sub.refl _) (fun _ => Hub.Same.refl _ _) (by decide)

theorem Hub.scrPut_rd {h : Hub} {l : ℕ} {hdr : ℕ} {v : ℕ} {F : Fld} {iF bF : Nat} (eF : Nat.testBit 0x400000000000000000000000000000000000000000000000000000000000000000000000000100000000 F.kind = false) :
    Hub.rd (Hub.scrPut h l hdr v) F iF bF = Hub.rd h F iF bF :=
  Hub.scrPut_same.rd (by decide) F iF bF eF

theorem Hub.trainPut_canon {h : Hub} {l : ℕ} (H : Hub.Canon h) : Hub.Canon (Hub.trainPut h l) :=
  Hub.trainPut_keeps (bears_canon 0x400000000000000000000000000000000000000000000000000000000000000000000000000100000000) (Sub.refl _) H

theorem Hub.trainPut_same {h : Hub} {l : ℕ} : Hub.Same 0x400000000000000000000000000000000000000000000000000000000000000000000000000100000000 h (Hub.trainPut h l) :=
  Hub.trainPut_keeps (bears_same 0x400000000000000000000000000000000000000000000000000000000000000000000000000100000000 h) (Sub.refl _) (fun _ => Hub.Same.refl _ _) (by decide)

theorem Hub.trainPut_rd {h : Hub} {l : ℕ} {F : Fld} {iF bF : Nat} (eF : Nat.testBit 0x400000000000000000000000000000000000000000000000000000000000000000000000000100000000 F.kind = false) :
    Hub.rd (Hub.trainPut h l) F iF bF = Hub.rd h F iF bF :=
  Hub.trainPut_same.rd (by decide) F iF bF eF

theorem Hub.laneCycle_canon {l : ℕ} {h : Hub} (H : Hub.Canon h) : Hub.Canon (Hub.laneCycle l h) :=
  Hub.laneCycle_keeps (bears_canon 0x400000000000000000000000000000000000000000000000000000000000000000000000000100000000) (Sub.refl _) H

theorem Hub.laneCycle_same {l : ℕ} {h : Hub} : Hub.Same 0x400000000000000000000000000000000000000000000000000000000000000000000000000100000000 h (Hub.laneCycle l h) :=
  Hub.laneCycle_keeps (bears_same 0x400000000000000000000000000000000000000000000000000000000000000000000000000100000000 h) (Sub.refl _) (fun _ => Hub.Same.refl _ _) (by decide)

theorem Hub.laneCycle_rd {l : ℕ} {h : Hub} {F : Fld} {iF bF : Nat} (eF : Nat.testBit 0x400000000000000000000000000000000000000000000000000000000000000000000000000100000000 F.kind = false) :
    Hub.rd (Hub.laneCycle l h) F iF bF = Hub.rd h F iF bF :=
  Hub.laneCycle_same.rd (by decide) F iF bF eF

theorem Hub.lateReady_canon {h : Hub} {l : ℕ} (H : Hub.Canon h) : Hub.Canon (Hub.lateReady h l) :=
  Hub.lateReady_keeps (bears_canon 0x800a80200000000000c000201000000000000000000000000000010102000000030000000100014402) (Sub.refl _) H

theorem Hub.lateReady_same {h : Hub} {l : ℕ} : Hub.Same 0x800a80200000000000c000201000000000000000000000000000010102000000030000000100014402 h (Hub.lateReady h l) :=
  Hub.lateReady_keeps (bears_same 0x800a80200000000000c000201000000000000000000000000000010102000000030000000100014402 h) (Sub.refl _) (fun _ => Hub.Same.refl _ _) (by decide)

theorem Hub.laneReady_canon {h : Hub} {l : ℕ} (H : Hub.Canon h) : Hub.Canon (Hub.laneReady h l) :=
  Hub.laneReady_keeps (bears_canon 0x400000b8820a80200000000000c000201000000000000100000000000000010102000000030000000100014402) (Sub.refl _) H

theorem Hub.laneReady_same {h : Hub} {l : ℕ} : Hub.Same 0x400000b8820a80200000000000c000201000000000000100000000000000010102000000030000000100014402 h (Hub.laneReady h l) :=
  Hub.laneReady_keeps (bears_same 0x400000b8820a80200000000000c000201000000000000100000000000000010102000000030000000100014402 h) (Sub.refl _) (fun _ => Hub.Same.refl _ _) (by decide)

theorem Hub.lateHead_canon {n : ℕ} {h : Hub} (H : Hub.Canon h) : Hub.Canon (Hub.lateHead n h) :=
  Hub.lateHead_keeps (bears_canon 0x30000000000000000000000000002) (Sub.refl _) H

theorem Hub.lateHead_same {n : ℕ} {h : Hub} : Hub.Same 0x30000000000000000000000000002 h (Hub.lateHead n h) :=
  Hub.lateHead_keeps (bears_same 0x30000000000000000000000000002 h) (Sub.refl _) (fun _ => Hub.Same.refl _ _) (by decide)

theorem Hub.lateHead_rd {n : ℕ} {h : Hub} {F : Fld} {iF bF : Nat} (eF : Nat.testBit 0x30000000000000000000000000002 F.kind = false) :
    Hub.rd (Hub.lateHead n h) F iF bF = Hub.rd h F iF bF :=
  Hub.lateHead_same.rd (by decide) F iF bF eF

theorem Hub.lcDone_canon {h : Hub} {fuseOk : Bool} {straps : ℕ} (H : Hub.Canon h) : Hub.Canon (Hub.lcDone h fuseOk straps) :=
  Hub.lcDone_keeps (bears_canon 0x80000000000000000000000000000000003fdfffffffffffffafe00000000000c00084600000000000000000000000000001000000000001000000000000bc0f) (Sub.refl _) H

theorem Hub.learnDone_canon {h : Hub} {i : Option Intent} (H : Hub.Canon h) : Hub.Canon (Hub.learnDone h i) :=
  Hub.learnDone_keeps (bears_canon 0x4000000000000000000000000000000000000000000000000000000000000000000000000000000000000000000000) (Sub.refl _) H

theorem Hub.learnDone_same {h : Hub} {i : Option Intent} : Hub.Same 0x4000000000000000000000000000000000000000000000000000000000000000000000000000000000000000000000 h (Hub.learnDone h i) :=
  Hub.learnDone_keeps (bears_same 0x4000000000000000000000000000000000000000000000000000000000000000000000000000000000000000000000 h) (Sub.refl _) (fun _ => Hub.Same.refl _ _) (by decide)

theorem Hub.learnDone_rd {h : Hub} {i : Option Intent} {F : Fld} {iF bF : Nat} (eF : Nat.testBit 0x4000000000000000000000000000000000000000000000000000000000000000000000000000000000000000000000 F.kind = false) :
    Hub.rd (Hub.learnDone h i) F iF bF = Hub.rd h F iF bF :=
  Hub.learnDone_same.rd (by decide) F iF bF eF

theorem Hub.loadPwr_canon {h : Hub} {n : ℕ} {pwr : ℕ} (H : Hub.Canon h) : Hub.Canon (Hub.loadPwr h n pwr) :=
  Hub.loadPwr_keeps (bears_canon 0x100000000000000000000000000000000000000000000) (Sub.refl _) H

theorem Hub.loadPwr_same {h : Hub} {n : ℕ} {pwr : ℕ} : Hub.Same 0x100000000000000000000000000000000000000000000 h (Hub.loadPwr h n pwr) :=
  Hub.loadPwr_keeps (bears_same 0x100000000000000000000000000000000000000000000 h) (Sub.refl _) (fun _ => Hub.Same.refl _ _) (by decide)

theorem Hub.loadPwr_rd {h : Hub} {n : ℕ} {pwr : ℕ} {F : Fld} {iF bF : Nat} (eF : Nat.testBit 0x100000000000000000000000000000000000000000000 F.kind = false) :
    Hub.rd (Hub.loadPwr h n pwr) F iF bF = Hub.rd h F iF bF :=
  Hub.loadPwr_same.rd (by decide) F iF bF eF

theorem Hub.lpoClassify_canon {h : Hub} {n : ℕ} {cls : Option ℕ} (H : Hub.Canon h) : Hub.Canon (Hub.lpoClassify h n cls) :=
  Hub.lpoClassify_keeps (bears_canon 0x2800000000000004000000000000101010100000000000000010000000000000000000000000400) (Sub.refl _) H

theorem Hub.lpoClassify_same {h : Hub} {n : ℕ} {cls : Option ℕ} : Hub.Same 0x2800000000000004000000000000101010100000000000000010000000000000000000000000400 h (Hub.lpoClassify h n cls) :=
  Hub.lpoClassify_keeps (bears_same 0x2800000000000004000000000000101010100000000000000010000000000000000000000000400 h) (Sub.refl _) (fun _ => Hub.Same.refl _ _) (by decide)

theorem Hub.lpoClassify_rd {h : Hub} {n : ℕ} {cls : Option ℕ} {F : Fld} {iF bF : Nat} (eF : Nat.testBit 0x2800000000000004000000000000101010100000000000000010000000000000000000000000400 F.kind = false) :
    Hub.rd (Hub.lpoClassify h n cls) F iF bF = Hub.rd h F iF bF :=
  Hub.lpoClassify_same.rd (by decide) F iF bF eF

theorem Hub.lpoDetect_canon {h : Hub} {n : ℕ} {r100 : ℕ} {valid : Bool} (H : Hub.Canon h) : Hub.Canon (Hub.lpoDetect h n r100 valid) :=
  Hub.lpoDetect_keeps (bears_canon 0x2800000000000004000000000000101010100000000000000010000000000000000000000000400) (Sub.refl _) H

theorem Hub.lpoDetect_same {h : Hub} {n : ℕ} {r100 : ℕ} {valid : Bool} : Hub.Same 0x2800000000000004000000000000101010100000000000000010000000000000000000000000400 h (Hub.lpoDetect h n r100 valid) :=
  Hub.lpoDetect_keeps (bears_same 0x2800000000000004000000000000101010100000000000000010000000000000000000000000400 h) (Sub.refl _) (fun _ => Hub.Same.refl _ _) (by decide)

theorem Hub.lpoDetect_rd {h : Hub} {n : ℕ} {r100 : ℕ} {valid : Bool} {F : Fld} {iF bF : Nat} (eF : Nat.testBit 0x2800000000000004000000000000101010100000000000000010000000000000000000000000400 F.kind = false) :
    Hub.rd (Hub.lpoDetect h n r100 valid) F iF bF = Hub.rd h F iF bF :=
  Hub.lpoDetect_same.rd (by decide) F iF bF eF

theorem Hub.lumeRx_canon {h : Hub} {p : ℕ} {fcsOk : Bool} {fr : Bytes} (H : Hub.Canon h) : Hub.Canon (Hub.lumeRx h p fcsOk fr) :=
  Hub.lumeRx_keeps (bears_canon 0x100000000000005fa80800000000000400000000000000000000000000400000001030100010b030000000000000404) (Sub.refl _) H

theorem Hub.lumeRx_same {h : Hub} {p : ℕ} {fcsOk : Bool} {fr : Bytes} : Hub.Same 0x100000000000005fa80800000000000400000000000000000000000000400000001030100010b030000000000000404 h (Hub.lumeRx h p fcsOk fr) :=
  Hub.lumeRx_keeps (bears_same 0x100000000000005fa80800000000000400000000000000000000000000400000001030100010b030000000000000404 h) (Sub.refl _) (fun _ => Hub.Same.refl _ _) (by decide)

theorem Hub.lumeRx_rd {h : Hub} {p : ℕ} {fcsOk : Bool} {fr : Bytes} {F : Fld} {iF bF : Nat} (eF : Nat.testBit 0x100000000000005fa80800000000000400000000000000000000000000400000001030100010b030000000000000404 F.kind = false) :
    Hub.rd (Hub.lumeRx h p fcsOk fr) F iF bF = Hub.rd h F iF bF :=
  Hub.lumeRx_same.rd (by decide) F iF bF eF

theorem Hub.lumeSend_canon {p : ℕ} {fr : Bytes} {h : Hub} (H : Hub.Canon h) : Hub.Canon (Hub.lumeSend p fr h) :=
  Hub.lumeSend_keeps (bears_canon 0x20000000000000000000000000000000000000000000000000000000000000000000000000000000000000000) (Sub.refl _) H

theorem Hub.lumeSend_same {p : ℕ} {fr : Bytes} {h : Hub} : Hub.Same 0x20000000000000000000000000000000000000000000000000000000000000000000000000000000000000000 h (Hub.lumeSend p fr h) :=
  Hub.lumeSend_keeps (bears_same 0x20000000000000000000000000000000000000000000000000000000000000000000000000000000000000000 h) (Sub.refl _) (fun _ => Hub.Same.refl _ _) (by decide)

theorem Hub.lumeSend_rd {p : ℕ} {fr : Bytes} {h : Hub} {F : Fld} {iF bF : Nat} (eF : Nat.testBit 0x20000000000000000000000000000000000000000000000000000000000000000000000000000000000000000 F.kind = false) :
    Hub.rd (Hub.lumeSend p fr h) F iF bF = Hub.rd h F iF bF :=
  Hub.lumeSend_same.rd (by decide) F iF bF eF

theorem Hub.lumeTx_canon {h : Hub} {tid : ℕ} {fr : Bytes} (H : Hub.Canon h) : Hub.Canon (Hub.lumeTx h tid fr) :=
  Hub.lumeTx_keeps (bears_canon 0x20000000000000000000000004000000000000000000000000004000000000000000000000000000000000000) (Sub.refl _) H

theorem Hub.lumeTx_same {h : Hub} {tid : ℕ} {fr : Bytes} : Hub.Same 0x20000000000000000000000004000000000000000000000000004000000000000000000000000000000000000 h (Hub.lumeTx h tid fr) :=
  Hub.lumeTx_keeps (bears_same 0x20000000000000000000000004000000000000000000000000004000000000000000000000000000000000000 h) (Sub.refl _) (fun _ => Hub.Same.refl _ _) (by decide)

theorem Hub.lumeTx_rd {h : Hub} {tid : ℕ} {fr : Bytes} {F : Fld} {iF bF : Nat} (eF : Nat.testBit 0x20000000000000000000000004000000000000000000000000004000000000000000000000000000000000000 F.kind = false) :
    Hub.rd (Hub.lumeTx h tid fr) F iF bF = Hub.rd h F iF bF :=
  Hub.lumeTx_same.rd (by decide) F iF bF eF

theorem Hub.mbxIn_canon {h : Hub} {p : ℕ} {typ : ℕ} {len : ℕ} {payload : Bytes} (H : Hub.Canon h) : Hub.Canon (Hub.mbxIn h p typ len payload) :=
  Hub.mbxIn_keeps (bears_canon 0x4000000000000000000000000000000000000000000000000000000000010000) (Sub.refl _) H

theorem Hub.mbxIn_same {h : Hub} {p : ℕ} {typ : ℕ} {len : ℕ} {payload : Bytes} : Hub.Same 0x4000000000000000000000000000000000000000000000000000000000010000 h (Hub.mbxIn h p typ len payload) :=
  Hub.mbxIn_keeps (bears_same 0x4000000000000000000000000000000000000000000000000000000000010000 h) (Sub.refl _) (fun _ => Hub.Same.refl _ _) (by decide)

theorem Hub.mbxIn_rd {h : Hub} {p : ℕ} {typ : ℕ} {len : ℕ} {payload : Bytes} {F : Fld} {iF bF : Nat} (eF : Nat.testBit 0x4000000000000000000000000000000000000000000000000000000000010000 F.kind = false) :
    Hub.rd (Hub.mbxIn h p typ len payload) F iF bF = Hub.rd h F iF bF :=
  Hub.mbxIn_same.rd (by decide) F iF bF eF

theorem Hub.measureEye_canon {l : ℕ} {h : Hub} (H : Hub.Canon h) : Hub.Canon (Hub.measureEye l h) :=
  Hub.measureEye_keeps (bears_canon 0x800000000000000000000000000000000000000000000000000000000000000000000100000000) (Sub.refl _) H

theorem Hub.measureEye_same {l : ℕ} {h : Hub} : Hub.Same 0x800000000000000000000000000000000000000000000000000000000000000000000100000000 h (Hub.measureEye l h) :=
  Hub.measureEye_keeps (bears_same 0x800000000000000000000000000000000000000000000000000000000000000000000100000000 h) (Sub.refl _) (fun _ => Hub.Same.refl _ _) (by decide)

theorem Hub.measureEye_rd {l : ℕ} {h : Hub} {F : Fld} {iF bF : Nat} (eF : Nat.testBit 0x800000000000000000000000000000000000000000000000000000000000000000000100000000 F.kind = false) :
    Hub.rd (Hub.measureEye l h) F iF bF = Hub.rd h F iF bF :=
  Hub.measureEye_same.rd (by decide) F iF bF eF

theorem Hub.memTrained_canon {h : Hub} {chOk : ℕ} (H : Hub.Canon h) : Hub.Canon (Hub.memTrained h chOk) :=
  Hub.memTrained_keeps (bears_canon 0x2800000000000004000000000000000000000000000030100010000000000000000000000000400) (Sub.refl _) H

theorem Hub.memTrained_same {h : Hub} {chOk : ℕ} : Hub.Same 0x2800000000000004000000000000000000000000000030100010000000000000000000000000400 h (Hub.memTrained h chOk) :=
  Hub.memTrained_keeps (bears_same 0x2800000000000004000000000000000000000000000030100010000000000000000000000000400 h) (Sub.refl _) (fun _ => Hub.Same.refl _ _) (by decide)

theorem Hub.memTrained_rd {h : Hub} {chOk : ℕ} {F : Fld} {iF bF : Nat} (eF : Nat.testBit 0x2800000000000004000000000000000000000000000030100010000000000000000000000000400 F.kind = false) :
    Hub.rd (Hub.memTrained h chOk) F iF bF = Hub.rd h F iF bF :=
  Hub.memTrained_same.rd (by decide) F iF bF eF

theorem Hub.memWiped_canon {h : Hub} {ms : Nat} (H : Hub.Canon h) : Hub.Canon (h.memWiped ms) :=
  Hub.memWiped_keeps (bears_canon 0x100000000000000000000000000000000000000000010100000000000000000000000000000000) (Sub.refl _) H

theorem Hub.memWiped_same {h : Hub} {ms : Nat} : Hub.Same 0x100000000000000000000000000000000000000000010100000000000000000000000000000000 h (h.memWiped ms) :=
  Hub.memWiped_keeps (bears_same 0x100000000000000000000000000000000000000000010100000000000000000000000000000000 h) (Sub.refl _) (fun _ => Hub.Same.refl _ _) (by decide)

theorem Hub.memWiped_rd {h : Hub} {ms : Nat} {F : Fld} {iF bF : Nat} (eF : Nat.testBit 0x100000000000000000000000000000000000000000010100000000000000000000000000000000 F.kind = false) :
    Hub.rd (h.memWiped ms) F iF bF = Hub.rd h F iF bF :=
  Hub.memWiped_same.rd (by decide) F iF bF eF

theorem Hub.mgpPend_canon {h : Hub} {op : ℕ} {seq : ℕ} (H : Hub.Canon h) : Hub.Canon (Hub.mgpPend h op seq) :=
  Hub.mgpPend_keeps (bears_canon 0x1000000000000000000000000000004000000000000000000000000000000000000000000000000000000000002000) (Sub.refl _) H

theorem Hub.mgpPend_same {h : Hub} {op : ℕ} {seq : ℕ} : Hub.Same 0x1000000000000000000000000000004000000000000000000000000000000000000000000000000000000000002000 h (Hub.mgpPend h op seq) :=
  Hub.mgpPend_keeps (bears_same 0x1000000000000000000000000000004000000000000000000000000000000000000000000000000000000000002000 h) (Sub.refl _) (fun _ => Hub.Same.refl _ _) (by decide)

theorem Hub.mgpPend_rd {h : Hub} {op : ℕ} {seq : ℕ} {F : Fld} {iF bF : Nat} (eF : Nat.testBit 0x1000000000000000000000000000004000000000000000000000000000000000000000000000000000000000002000 F.kind = false) :
    Hub.rd (Hub.mgpPend h op seq) F iF bF = Hub.rd h F iF bF :=
  Hub.mgpPend_same.rd (by decide) F iF bF eF

theorem Hub.mgpTagged_canon {h : Hub} {status : ℕ} {op : ℕ} {seq : ℕ} {data : Bytes} (H : Hub.Canon h) : Hub.Canon (Hub.mgpTagged h status op seq data) :=
  Hub.mgpTagged_keeps (bears_canon 0x1000000000000000000000000000000000000000000000000000000000000000000000000000000000000000000000) (Sub.refl _) H

theorem Hub.mgpTagged_same {h : Hub} {status : ℕ} {op : ℕ} {seq : ℕ} {data : Bytes} : Hub.Same 0x1000000000000000000000000000000000000000000000000000000000000000000000000000000000000000000000 h (Hub.mgpTagged h status op seq data) :=
  Hub.mgpTagged_keeps (bears_same 0x1000000000000000000000000000000000000000000000000000000000000000000000000000000000000000000000 h) (Sub.refl _) (fun _ => Hub.Same.refl _ _) (by decide)

theorem Hub.mgpTagged_rd {h : Hub} {status : ℕ} {op : ℕ} {seq : ℕ} {data : Bytes} {F : Fld} {iF bF : Nat} (eF : Nat.testBit 0x1000000000000000000000000000000000000000000000000000000000000000000000000000000000000000000000 F.kind = false) :
    Hub.rd (Hub.mgpTagged h status op seq data) F iF bF = Hub.rd h F iF bF :=
  Hub.mgpTagged_same.rd (by decide) F iF bF eF

theorem Hub.mwrIn_canon {h : Hub} {m : TxbIn} (H : Hub.Canon h) : Hub.Canon (Hub.mwrIn h m) :=
  Hub.mwrIn_keeps (bears_canon 0x2420000000000000000000000000000000000000000000000000000100000000000000000000000000000000) (Sub.refl _) H

theorem Hub.mwrIn_same {h : Hub} {m : TxbIn} : Hub.Same 0x2420000000000000000000000000000000000000000000000000000100000000000000000000000000000000 h (Hub.mwrIn h m) :=
  Hub.mwrIn_keeps (bears_same 0x2420000000000000000000000000000000000000000000000000000100000000000000000000000000000000 h) (Sub.refl _) (fun _ => Hub.Same.refl _ _) (by decide)

theorem Hub.mwrIn_rd {h : Hub} {m : TxbIn} {F : Fld} {iF bF : Nat} (eF : Nat.testBit 0x2420000000000000000000000000000000000000000000000000000100000000000000000000000000000000 F.kind = false) :
    Hub.rd (Hub.mwrIn h m) F iF bF = Hub.rd h F iF bF :=
  Hub.mwrIn_same.rd (by decide) F iF bF eF

theorem Hub.neighbourIn_canon {h : Hub} {p : ℕ} {payload : Bytes} (H : Hub.Canon h) : Hub.Canon (Hub.neighbourIn h p payload) :=
  Hub.neighbourIn_keeps (bears_canon 0xc00000000007788a808000000000004000480000000000000000000000000000010302000000030000000000000400) (Sub.refl _) H

theorem Hub.neighbourIn_same {h : Hub} {p : ℕ} {payload : Bytes} : Hub.Same 0xc00000000007788a808000000000004000480000000000000000000000000000010302000000030000000000000400 h (Hub.neighbourIn h p payload) :=
  Hub.neighbourIn_keeps (bears_same 0xc00000000007788a808000000000004000480000000000000000000000000000010302000000030000000000000400 h) (Sub.refl _) (fun _ => Hub.Same.refl _ _) (by decide)

theorem Hub.neighbourIn_rd {h : Hub} {p : ℕ} {payload : Bytes} {F : Fld} {iF bF : Nat} (eF : Nat.testBit 0xc00000000007788a808000000000004000480000000000000000000000000000010302000000030000000000000400 F.kind = false) :
    Hub.rd (Hub.neighbourIn h p payload) F iF bF = Hub.rd h F iF bF :=
  Hub.neighbourIn_same.rd (by decide) F iF bF eF

theorem Hub.rollTx_canon {h : Hub} {p : ℕ} (H : Hub.Canon h) : Hub.Canon (Hub.rollTx h p) :=
  Hub.rollTx_keeps (bears_canon 0x4000200000000000000000000000000000000000000000000000000000010000) (Sub.refl _) H

theorem Hub.rollTx_same {h : Hub} {p : ℕ} : Hub.Same 0x4000200000000000000000000000000000000000000000000000000000010000 h (Hub.rollTx h p) :=
  Hub.rollTx_keeps (bears_same 0x4000200000000000000000000000000000000000000000000000000000010000 h) (Sub.refl _) (fun _ => Hub.Same.refl _ _) (by decide)

theorem Hub.rollTx_rd {h : Hub} {p : ℕ} {F : Fld} {iF bF : Nat} (eF : Nat.testBit 0x4000200000000000000000000000000000000000000000000000000000010000 F.kind = false) :
    Hub.rd (Hub.rollTx h p) F iF bF = Hub.rd h F iF bF :=
  Hub.rollTx_same.rd (by decide) F iF bF eF

theorem Hub.takeCells_canon {h : Hub} {p : ℕ} {n : ℕ} (H : Hub.Canon h) : Hub.Canon (Hub.takeCells h p n).2 :=
  Hub.takeCells_keeps (bears_canon 0x200000000000000000000000000000000000000000000000000000000000100000000000000000000) (Sub.refl _) H

theorem Hub.takeCells_same {h : Hub} {p : ℕ} {n : ℕ} : Hub.Same 0x200000000000000000000000000000000000000000000000000000000000100000000000000000000 h (Hub.takeCells h p n).2 :=
  Hub.takeCells_keeps (bears_same 0x200000000000000000000000000000000000000000000000000000000000100000000000000000000 h) (Sub.refl _) (fun _ => Hub.Same.refl _ _) (by decide)

theorem Hub.takeCells_rd {h : Hub} {p : ℕ} {n : ℕ} {F : Fld} {iF bF : Nat} (eF : Nat.testBit 0x200000000000000000000000000000000000000000000000000000000000100000000000000000000 F.kind = false) :
    Hub.rd (Hub.takeCells h p n).2 F iF bF = Hub.rd h F iF bF :=
  Hub.takeCells_same.rd (by decide) F iF bF eF

theorem Hub.newFrame_canon {h0 : Hub} {p : ℕ} {l : ℕ} (H : Hub.Canon h0) : Hub.Canon (Hub.newFrame h0 p l).2 :=
  Hub.newFrame_keeps (bears_canon 0x288200000000000000004000200000000000000000000000000000000000000100000000000000010000) (Sub.refl _) H

theorem Hub.newFrame_same {h0 : Hub} {p : ℕ} {l : ℕ} : Hub.Same 0x288200000000000000004000200000000000000000000000000000000000000100000000000000010000 h0 (Hub.newFrame h0 p l).2 :=
  Hub.newFrame_keeps (bears_same 0x288200000000000000004000200000000000000000000000000000000000000100000000000000010000 h0) (Sub.refl _) (fun _ => Hub.Same.refl _ _) (by decide)

theorem Hub.newFrame_rd {h0 : Hub} {p : ℕ} {l : ℕ} {F : Fld} {iF bF : Nat} (eF : Nat.testBit 0x288200000000000000004000200000000000000000000000000000000000000100000000000000010000 F.kind = false) :
    Hub.rd (Hub.newFrame h0 p l).2 F iF bF = Hub.rd h0 F iF bF :=
  Hub.newFrame_same.rd (by decide) F iF bF eF

theorem Hub.offer_canon {h : Hub} (H : Hub.Canon h) : Hub.Canon (Hub.offer h) :=
  Hub.offer_keeps (bears_canon 0x108000400200005fa80800000000000400000000000000000000000000000000001030100010b030000000000000404) (Sub.refl _) H

theorem Hub.offer_same {h : Hub} : Hub.Same 0x108000400200005fa80800000000000400000000000000000000000000000000001030100010b030000000000000404 h (Hub.offer h) :=
  Hub.offer_keeps (bears_same 0x108000400200005fa80800000000000400000000000000000000000000000000001030100010b030000000000000404 h) (Sub.refl _) (fun _ => Hub.Same.refl _ _) (by decide)

theorem Hub.offer_rd {h : Hub} {F : Fld} {iF bF : Nat} (eF : Nat.testBit 0x108000400200005fa80800000000000400000000000000000000000000000000001030100010b030000000000000404 F.kind = false) :
    Hub.rd (Hub.offer h) F iF bF = Hub.rd h F iF bF :=
  Hub.offer_same.rd (by decide) F iF bF eF

theorem Hub.offerIn_canon {h : Hub} {n : ℕ} {tok : ℕ} {imax : ℕ} {pwr : ℕ} (H : Hub.Canon h) : Hub.Canon (Hub.offerIn h n tok imax pwr) :=
  Hub.offerIn_keeps (bears_canon 0x40000040800280200000000000c000001000000101010100000000000000010000000000000000000100010402) (Sub.refl _) H

theorem Hub.offerIn_same {h : Hub} {n : ℕ} {tok : ℕ} {imax : ℕ} {pwr : ℕ} : Hub.Same 0x40000040800280200000000000c000001000000101010100000000000000010000000000000000000100010402 h (Hub.offerIn h n tok imax pwr) :=
  Hub.offerIn_keeps (bears_same 0x40000040800280200000000000c000001000000101010100000000000000010000000000000000000100010402 h) (Sub.refl _) (fun _ => Hub.Same.refl _ _) (by decide)

theorem Hub.outRead_canon {h : Hub} {fromBus : Bool} {addr : ℕ} {len : ℕ} {ro : Bool} {ns : Bool} (H : Hub.Canon h) : Hub.Canon (Hub.outRead h fromBus addr len ro ns) :=
  Hub.outRead_keeps (bears_canon 0x3e0000002800000000000004000000000000000000000000000000300010000000000000000000000000400) (Sub.refl _) H

theorem Hub.outRead_same {h : Hub} {fromBus : Bool} {addr : ℕ} {len : ℕ} {ro : Bool} {ns : Bool} : Hub.Same 0x3e0000002800000000000004000000000000000000000000000000300010000000000000000000000000400 h (Hub.outRead h fromBus addr len ro ns) :=
  Hub.outRead_keeps (bears_same 0x3e0000002800000000000004000000000000000000000000000000300010000000000000000000000000400 h) (Sub.refl _) (fun _ => Hub.Same.refl _ _) (by decide)

theorem Hub.outRead_rd {h : Hub} {fromBus : Bool} {addr : ℕ} {len : ℕ} {ro : Bool} {ns : Bool} {F : Fld} {iF bF : Nat} (eF : Nat.testBit 0x3e0000002800000000000004000000000000000000000000000000300010000000000000000000000000400 F.kind = false) :
    Hub.rd (Hub.outRead h fromBus addr len ro ns) F iF bF = Hub.rd h F iF bF :=
  Hub.outRead_same.rd (by decide) F iF bF eF

theorem Hub.overloadCheck_canon {h : Hub} {n : ℕ} {pavg : ℕ} {vaavg : ℕ} {joules : ℕ} (H : Hub.Canon h) : Hub.Canon (Hub.overloadCheck h n pavg vaavg joules) :=
  Hub.overloadCheck_keeps (bears_canon 0x2800000000000004000000000000101010100000000000000010000000000000000000000000400) (Sub.refl _) H

theorem Hub.overloadCheck_same {h : Hub} {n : ℕ} {pavg : ℕ} {vaavg : ℕ} {joules : ℕ} : Hub.Same 0x2800000000000004000000000000101010100000000000000010000000000000000000000000400 h (Hub.overloadCheck h n pavg vaavg joules) :=
  Hub.overloadCheck_keeps (bears_same 0x2800000000000004000000000000101010100000000000000010000000000000000000000000400 h) (Sub.refl _) (fun _ => Hub.Same.refl _ _) (by decide)

theorem Hub.overloadCheck_rd {h : Hub} {n : ℕ} {pavg : ℕ} {vaavg : ℕ} {joules : ℕ} {F : Fld} {iF bF : Nat} (eF : Nat.testBit 0x2800000000000004000000000000101010100000000000000010000000000000000000000000400 F.kind = false) :
    Hub.rd (Hub.overloadCheck h n pavg vaavg joules) F iF bF = Hub.rd h F iF bF :=
  Hub.overloadCheck_same.rd (by decide) F iF bF eF

theorem Hub.pathSilent_canon {h : Hub} {ctx : ℕ} {pathB : Bool} (H : Hub.Canon h) : Hub.Canon (Hub.pathSilent h ctx pathB) :=
  Hub.pathSilent_keeps (bears_canon 0x8000000000000004000000000000000000000000000000000000300000000010000000000000000) (Sub.refl _) H

theorem Hub.pathSilent_same {h : Hub} {ctx : ℕ} {pathB : Bool} : Hub.Same 0x8000000000000004000000000000000000000000000000000000300000000010000000000000000 h (Hub.pathSilent h ctx pathB) :=
  Hub.pathSilent_keeps (bears_same 0x8000000000000004000000000000000000000000000000000000300000000010000000000000000 h) (Sub.refl _) (fun _ => Hub.Same.refl _ _) (by decide)

theorem Hub.pathSilent_rd {h : Hub} {ctx : ℕ} {pathB : Bool} {F : Fld} {iF bF : Nat} (eF : Nat.testBit 0x8000000000000004000000000000000000000000000000000000300000000010000000000000000 F.kind = false) :
    Hub.rd (Hub.pathSilent h ctx pathB) F iF bF = Hub.rd h F iF bF :=
  Hub.pathSilent_same.rd (by decide) F iF bF eF

theorem Hub.pcieHold_canon {h : Hub} (H : Hub.Canon h) : Hub.Canon (Hub.pcieHold h) :=
  Hub.pcieHold_keeps (bears_canon 0x2800000000000004000000000000000000000000000000700010000000000000000000000000400) (Sub.refl _) H

theorem Hub.pcieHold_same {h : Hub} : Hub.Same 0x2800000000000004000000000000000000000000000000700010000000000000000000000000400 h (Hub.pcieHold h) :=
  Hub.pcieHold_keeps (bears_same 0x2800000000000004000000000000000000000000000000700010000000000000000000000000400 h) (Sub.refl _) (fun _ => Hub.Same.refl _ _) (by decide)

theorem Hub.pcieHold_rd {h : Hub} {F : Fld} {iF bF : Nat} (eF : Nat.testBit 0x2800000000000004000000000000000000000000000000700010000000000000000000000000400 F.kind = false) :
    Hub.rd (Hub.pcieHold h) F iF bF = Hub.rd h F iF bF :=
  Hub.pcieHold_same.rd (by decide) F iF bF eF

theorem Hub.pcieMsg_canon {h : Hub} {m : PcieMsg} (H : Hub.Canon h) : Hub.Canon (Hub.pcieMsg h m) :=
  Hub.pcieMsg_keeps (bears_canon 0x2800000000000004000000000000000000000000000000300010000000000000000000000000400) (Sub.refl _) H

theorem Hub.pcieMsg_same {h : Hub} {m : PcieMsg} : Hub.Same 0x2800000000000004000000000000000000000000000000300010000000000000000000000000400 h (Hub.pcieMsg h m) :=
  Hub.pcieMsg_keeps (bears_same 0x2800000000000004000000000000000000000000000000300010000000000000000000000000400 h) (Sub.refl _) (fun _ => Hub.Same.refl _ _) (by decide)

theorem Hub.pcieMsg_rd {h : Hub} {m : PcieMsg} {F : Fld} {iF bF : Nat} (eF : Nat.testBit 0x2800000000000004000000000000000000000000000000300010000000000000000000000000400 F.kind = false) :
    Hub.rd (Hub.pcieMsg h m) F iF bF = Hub.rd h F iF bF :=
  Hub.pcieMsg_same.rd (by decide) F iF bF eF

theorem Hub.pdAttach_canon {h : Hub} {k : Fin 2} {cc2 : Bool} {sink : Bool} {ufp : Bool} {emark5A : Bool} {frsReady : Bool} (H : Hub.Canon h) : Hub.Canon (Hub.pdAttach h k cc2 sink ufp emark5A frsReady) :=
  Hub.pdAttach_keeps (bears_canon 0x94000040000280a00000000000c000021000000101010100070000010100a1000000000000000000010001041a) (Sub.refl _) H

theorem Hub.pdAttach_same {h : Hub} {k : Fin 2} {cc2 : Bool} {sink : Bool} {ufp : Bool} {emark5A : Bool} {frsReady : Bool} : Hub.Same 0x94000040000280a00000000000c000021000000101010100070000010100a1000000000000000000010001041a h (Hub.pdAttach h k cc2 sink ufp emark5A frsReady) :=
  Hub.pdAttach_keeps (bears_same 0x94000040000280a00000000000c000021000000101010100070000010100a1000000000000000000010001041a h) (Sub.refl _) (fun _ => Hub.Same.refl _ _) (by decide)

theorem Hub.pdContract_canon {h : Hub} {k : ℕ} {pdo : ℕ} {cur : ℕ} (H : Hub.Canon h) : Hub.Canon (Hub.pdContract h k pdo cur) :=
  Hub.pdContract_keeps (bears_canon 0x800000000000004000000000000000010000000000000000000000000000000000000000000000) (Sub.refl _) H

theorem Hub.pdContract_same {h : Hub} {k : ℕ} {pdo : ℕ} {cur : ℕ} : Hub.Same 0x800000000000004000000000000000010000000000000000000000000000000000000000000000 h (Hub.pdContract h k pdo cur) :=
  Hub.pdContract_keeps (bears_same 0x800000000000004000000000000000010000000000000000000000000000000000000000000000 h) (Sub.refl _) (fun _ => Hub.Same.refl _ _) (by decide)

theorem Hub.pdContract_rd {h : Hub} {k : ℕ} {pdo : ℕ} {cur : ℕ} {F : Fld} {iF bF : Nat} (eF : Nat.testBit 0x800000000000004000000000000000010000000000000000000000000000000000000000000000 F.kind = false) :
    Hub.rd (Hub.pdContract h k pdo cur) F iF bF = Hub.rd h F iF bF :=
  Hub.pdContract_same.rd (by decide) F iF bF eF

theorem Hub.pdRequest_canon {h : Hub} {k : ℕ} {pdo : ℕ} {ma : ℕ} (H : Hub.Canon h) : Hub.Canon (Hub.pdRequest h k pdo ma) :=
  Hub.pdRequest_keeps (bears_canon 0x800000000000800000000000004000000000000000010000000000000000000000000000000000000000000000) (Sub.refl _) H

theorem Hub.pdRequest_same {h : Hub} {k : ℕ} {pdo : ℕ} {ma : ℕ} : Hub.Same 0x800000000000800000000000004000000000000000010000000000000000000000000000000000000000000000 h (Hub.pdRequest h k pdo ma) :=
  Hub.pdRequest_keeps (bears_same 0x800000000000800000000000004000000000000000010000000000000000000000000000000000000000000000 h) (Sub.refl _) (fun _ => Hub.Same.refl _ _) (by decide)

theorem Hub.pdRequest_rd {h : Hub} {k : ℕ} {pdo : ℕ} {ma : ℕ} {F : Fld} {iF bF : Nat} (eF : Nat.testBit 0x800000000000800000000000004000000000000000010000000000000000000000000000000000000000000000 F.kind = false) :
    Hub.rd (Hub.pdRequest h k pdo ma) F iF bF = Hub.rd h F iF bF :=
  Hub.pdRequest_same.rd (by decide) F iF bF eF

theorem Hub.pdMessage_canon {h : Hub} {k : Fin 2} {m : PdMsg} (H : Hub.Canon h) : Hub.Canon (Hub.pdMessage h k m) :=
  Hub.pdMessage_keeps (bears_canon 0x940000000002808000000000004000000000000101010100070000000000a10000000000000000000000000400) (Sub.refl _) H

theorem Hub.pdMessage_same {h : Hub} {k : Fin 2} {m : PdMsg} : Hub.Same 0x940000000002808000000000004000000000000101010100070000000000a10000000000000000000000000400 h (Hub.pdMessage h k m) :=
  Hub.pdMessage_keeps (bears_same 0x940000000002808000000000004000000000000101010100070000000000a10000000000000000000000000400 h) (Sub.refl _) (fun _ => Hub.Same.refl _ _) (by decide)

theorem Hub.pdMessage_rd {h : Hub} {k : Fin 2} {m : PdMsg} {F : Fld} {iF bF : Nat} (eF : Nat.testBit 0x940000000002808000000000004000000000000101010100070000000000a10000000000000000000000000400 F.kind = false) :
    Hub.rd (Hub.pdMessage h k m) F iF bF = Hub.rd h F iF bF :=
  Hub.pdMessage_same.rd (by decide) F iF bF eF

theorem Hub.perrIn_canon {h : Hub} {tid : ℕ} {src : ℕ} {c : TxbHdr} (H : Hub.Canon h) : Hub.Canon (Hub.perrIn h tid src c) :=
  Hub.perrIn_keeps (bears_canon 0x2800000000000004000000000000000000000000000000100010000000000000000000000000400) (Sub.refl _) H

theorem Hub.perrIn_same {h : Hub} {tid : ℕ} {src : ℕ} {c : TxbHdr} : Hub.Same 0x2800000000000004000000000000000000000000000000100010000000000000000000000000400 h (Hub.perrIn h tid src c) :=
  Hub.perrIn_keeps (bears_same 0x2800000000000004000000000000000000000000000000100010000000000000000000000000400 h) (Sub.refl _) (fun _ => Hub.Same.refl _ _) (by decide)

theorem Hub.perrIn_rd {h : Hub} {tid : ℕ} {src : ℕ} {c : TxbHdr} {F : Fld} {iF bF : Nat} (eF : Nat.testBit 0x2800000000000004000000000000000000000000000000100010000000000000000000000000400 F.kind = false) :
    Hub.rd (Hub.perrIn h tid src c) F iF bF = Hub.rd h F iF bF :=
  Hub.perrIn_same.rd (by decide) F iF bF eF

theorem Hub.pllLocked_canon {h : Hub} {n : ℕ} (H : Hub.Canon h) : Hub.Canon (Hub.pllLocked h n) :=
  Hub.pllLocked_keeps (bears_canon 0x2800000000000004000000000000000000000000000000000030000000000000000000000000413) (Sub.refl _) H

theorem Hub.pllLocked_same {h : Hub} {n : ℕ} : Hub.Same 0x2800000000000004000000000000000000000000000000000030000000000000000000000000413 h (Hub.pllLocked h n) :=
  Hub.pllLocked_keeps (bears_same 0x2800000000000004000000000000000000000000000000000030000000000000000000000000413 h) (Sub.refl _) (fun _ => Hub.Same.refl _ _) (by decide)

theorem Hub.pllLocked_rd {h : Hub} {n : ℕ} {F : Fld} {iF bF : Nat} (eF : Nat.testBit 0x2800000000000004000000000000000000000000000000000030000000000000000000000000413 F.kind = false) :
    Hub.rd (Hub.pllLocked h n) F iF bF = Hub.rd h F iF bF :=
  Hub.pllLocked_same.rd (by decide) F iF bF eF

theorem Hub.pmResume_canon {h : Hub} {p : ℕ} (H : Hub.Canon h) : Hub.Canon (Hub.pmResume h p) :=
  Hub.pmResume_keeps (bears_canon 0x10000) (Sub.refl _) H

theorem Hub.pmResume_same {h : Hub} {p : ℕ} : Hub.Same 0x10000 h (Hub.pmResume h p) :=
  Hub.pmResume_keeps (bears_same 0x10000 h) (Sub.refl _) (fun _ => Hub.Same.refl _ _) (by decide)

theorem Hub.pmResume_rd {h : Hub} {p : ℕ} {F : Fld} {iF bF : Nat} (eF : Nat.testBit 0x10000 F.kind = false) :
    Hub.rd (Hub.pmResume h p) F iF bF = Hub.rd h F iF bF :=
  Hub.pmResume_same.rd (by decide) F iF bF eF

theorem Hub.pmAckIn_canon {h : Hub} {p : ℕ} {tok : ℕ} {status : ℕ} {state : ℕ} (H : Hub.Canon h) : Hub.Canon (Hub.pmAckIn h p tok status state) :=
  Hub.pmAckIn_keeps (bears_canon 0x4000000000000000000000000000000000000000000000000000000000010010) (Sub.refl _) H

theorem Hub.pmAckIn_same {h : Hub} {p : ℕ} {tok : ℕ} {status : ℕ} {state : ℕ} : Hub.Same 0x4000000000000000000000000000000000000000000000000000000000010010 h (Hub.pmAckIn h p tok status state) :=
  Hub.pmAckIn_keeps (bears_same 0x4000000000000000000000000000000000000000000000000000000000010010 h) (Sub.refl _) (fun _ => Hub.Same.refl _ _) (by decide)

theorem Hub.pmAckIn_rd {h : Hub} {p : ℕ} {tok : ℕ} {status : ℕ} {state : ℕ} {F : Fld} {iF bF : Nat} (eF : Nat.testBit 0x4000000000000000000000000000000000000000000000000000000000010010 F.kind = false) :
    Hub.rd (Hub.pmAckIn h p tok status state) F iF bF = Hub.rd h F iF bF :=
  Hub.pmAckIn_same.rd (by decide) F iF bF eF

theorem Hub.pmAckOut_canon {h : Hub} {p : ℕ} (H : Hub.Canon h) : Hub.Canon (Hub.pmAckOut h p) :=
  Hub.pmAckOut_keeps (bears_canon 0x8000000000000000000000000000000000000000000000000000000000000000000000000000010000) (Sub.refl _) H

theorem Hub.pmAckOut_same {h : Hub} {p : ℕ} : Hub.Same 0x8000000000000000000000000000000000000000000000000000000000000000000000000000010000 h (Hub.pmAckOut h p) :=
  Hub.pmAckOut_keeps (bears_same 0x8000000000000000000000000000000000000000000000000000000000000000000000000000010000 h) (Sub.refl _) (fun _ => Hub.Same.refl _ _) (by decide)

theorem Hub.pmAckOut_rd {h : Hub} {p : ℕ} {F : Fld} {iF bF : Nat} (eF : Nat.testBit 0x8000000000000000000000000000000000000000000000000000000000000000000000000000010000 F.kind = false) :
    Hub.rd (Hub.pmAckOut h p) F iF bF = Hub.rd h F iF bF :=
  Hub.pmAckOut_same.rd (by decide) F iF bF eF

theorem Hub.pmReqIn_canon {h : Hub} {p : ℕ} {tok : ℕ} {l2 : Bool} (H : Hub.Canon h) : Hub.Canon (Hub.pmReqIn h p tok l2) :=
  Hub.pmReqIn_keeps (bears_canon 0x8000000000000000000000000000000000000000000000000000000000000000000000000000010000) (Sub.refl _) H

theorem Hub.pmReqIn_same {h : Hub} {p : ℕ} {tok : ℕ} {l2 : Bool} : Hub.Same 0x8000000000000000000000000000000000000000000000000000000000000000000000000000010000 h (Hub.pmReqIn h p tok l2) :=
  Hub.pmReqIn_keeps (bears_same 0x8000000000000000000000000000000000000000000000000000000000000000000000000000010000 h) (Sub.refl _) (fun _ => Hub.Same.refl _ _) (by decide)

theorem Hub.pmReqIn_rd {h : Hub} {p : ℕ} {tok : ℕ} {l2 : Bool} {F : Fld} {iF bF : Nat} (eF : Nat.testBit 0x8000000000000000000000000000000000000000000000000000000000000000000000000000010000 F.kind = false) :
    Hub.rd (Hub.pmReqIn h p tok l2) F iF bF = Hub.rd h F iF bF :=
  Hub.pmReqIn_same.rd (by decide) F iF bF eF

theorem Hub.pmSend_canon {h : Hub} {p : ℕ} (H : Hub.Canon h) : Hub.Canon (Hub.pmSend h p) :=
  Hub.pmSend_keeps (bears_canon 0x8000000000000000000000000000000000000000000000000000000000000000000000000000010000) (Sub.refl _) H

theorem Hub.pmSend_same {h : Hub} {p : ℕ} : Hub.Same 0x8000000000000000000000000000000000000000000000000000000000000000000000000000010000 h (Hub.pmSend h p) :=
  Hub.pmSend_keeps (bears_same 0x8000000000000000000000000000000000000000000000000000000000000000000000000000010000 h) (Sub.refl _) (fun _ => Hub.Same.refl _ _) (by decide)

theorem Hub.pmSend_rd {h : Hub} {p : ℕ} {F : Fld} {iF bF : Nat} (eF : Nat.testBit 0x8000000000000000000000000000000000000000000000000000000000000000000000000000010000 F.kind = false) :
    Hub.rd (Hub.pmSend h p) F iF bF = Hub.rd h F iF bF :=
  Hub.pmSend_same.rd (by decide) F iF bF eF

theorem Hub.pollIn_canon {h0 : Hub} {tid : ℕ} {c : TxbHdr} (H : Hub.Canon h0) : Hub.Canon (Hub.pollIn h0 tid c) :=
  Hub.pollIn_keeps (bears_canon 0x20000000800000000000000000000000000000000000000000000100000000000000000000000000000000) (Sub.refl _) H

theorem Hub.pollIn_same {h0 : Hub} {tid : ℕ} {c : TxbHdr} : Hub.Same 0x20000000800000000000000000000000000000000000000000000100000000000000000000000000000000 h0 (Hub.pollIn h0 tid c) :=
  Hub.pollIn_keeps (bears_same 0x20000000800000000000000000000000000000000000000000000100000000000000000000000000000000 h0) (Sub.refl _) (fun _ => Hub.Same.refl _ _) (by decide)

theorem Hub.pollIn_rd {h0 : Hub} {tid : ℕ} {c : TxbHdr} {F : Fld} {iF bF : Nat} (eF : Nat.testBit 0x20000000800000000000000000000000000000000000000000000100000000000000000000000000000000 F.kind = false) :
    Hub.rd (Hub.pollIn h0 tid c) F iF bF = Hub.rd h0 F iF bF :=
  Hub.pollIn_same.rd (by decide) F iF bF eF

theorem Hub.pollReply_canon {h : Hub} {sb : ℕ} {catchBits : ℕ} (H : Hub.Canon h) : Hub.Canon (Hub.pollReply h sb catchBits) :=
  Hub.pollReply_keeps (bears_canon 0x8000000000000000000000004000000000000000000000000000000300000000000000000000000000000000) (Sub.refl _) H

theorem Hub.pollReply_same {h : Hub} {sb : ℕ} {catchBits : ℕ} : Hub.Same 0x8000000000000000000000004000000000000000000000000000000300000000000000000000000000000000 h (Hub.pollReply h sb catchBits) :=
  Hub.pollReply_keeps (bears_same 0x8000000000000000000000004000000000000000000000000000000300000000000000000000000000000000 h) (Sub.refl _) (fun _ => Hub.Same.refl _ _) (by decide)

theorem Hub.pollReply_rd {h : Hub} {sb : ℕ} {catchBits : ℕ} {F : Fld} {iF bF : Nat} (eF : Nat.testBit 0x8000000000000000000000004000000000000000000000000000000300000000000000000000000000000000 F.kind = false) :
    Hub.rd (Hub.pollReply h sb catchBits) F iF bF = Hub.rd h F iF bF :=
  Hub.pollReply_same.rd (by decide) F iF bF eF

theorem Hub.pollSend_canon {h : Hub} (H : Hub.Canon h) : Hub.Canon (Hub.pollSend h) :=
  Hub.pollSend_keeps (bears_canon 0x8020000002800000000000004000000000000000000000000000000300010000000000000000000000000400) (Sub.refl _) H

theorem Hub.pollSend_same {h : Hub} : Hub.Same 0x8020000002800000000000004000000000000000000000000000000300010000000000000000000000000400 h (Hub.pollSend h) :=
  Hub.pollSend_keeps (bears_same 0x8020000002800000000000004000000000000000000000000000000300010000000000000000000000000400 h) (Sub.refl _) (fun _ => Hub.Same.refl _ _) (by decide)

theorem Hub.pollSend_rd {h : Hub} {F : Fld} {iF bF : Nat} (eF : Nat.testBit 0x8020000002800000000000004000000000000000000000000000000300010000000000000000000000000400 F.kind = false) :
    Hub.rd (Hub.pollSend h) F iF bF = Hub.rd h F iF bF :=
  Hub.pollSend_same.rd (by decide) F iF bF eF

theorem Hub.powerOn_canon {h : Hub} {brownout : Bool} (H : Hub.Canon h) : Hub.Canon (Hub.powerOn h brownout) :=
  Hub.powerOn_keeps (bears_canon 0x80000000000000000000000000000000003f87fffffffffffb8fe00000000000c000842000000000000000000000000000010000000000010000000000001c0e) (Sub.refl _) H

theorem Hub.readyIn_canon {h : Hub} {n : ℕ} {tok : ℕ} {icur : ℕ} {ilim : ℕ} (H : Hub.Canon h) : Hub.Canon (Hub.readyIn h n tok icur ilim) :=
  Hub.readyIn_keeps (bears_canon 0x40800280200000000000c000001000000101010100000000000000010000000000000000000100010402) (Sub.refl _) H

theorem Hub.readyIn_same {h : Hub} {n : ℕ} {tok : ℕ} {icur : ℕ} {ilim : ℕ} : Hub.Same 0x40800280200000000000c000001000000101010100000000000000010000000000000000000100010402 h (Hub.readyIn h n tok icur ilim) :=
  Hub.readyIn_keeps (bears_same 0x40800280200000000000c000001000000101010100000000000000010000000000000000000100010402 h) (Sub.refl _) (fun _ => Hub.Same.refl _ _) (by decide)

theorem Hub.refreshSf_canon {h : Hub} {n : ℕ} (H : Hub.Canon h) : Hub.Canon (Hub.refreshSf h n) :=
  Hub.refreshSf_keeps (bears_canon 0x100000000000000000000000000000000000000000000) (Sub.refl _) H

theorem Hub.refreshSf_same {h : Hub} {n : ℕ} : Hub.Same 0x100000000000000000000000000000000000000000000 h (Hub.refreshSf h n) :=
  Hub.refreshSf_keeps (bears_same 0x100000000000000000000000000000000000000000000 h) (Sub.refl _) (fun _ => Hub.Same.refl _ _) (by decide)

theorem Hub.refreshSf_rd {h : Hub} {n : ℕ} {F : Fld} {iF bF : Nat} (eF : Nat.testBit 0x100000000000000000000000000000000000000000000 F.kind = false) :
    Hub.rd (Hub.refreshSf h n) F iF bF = Hub.rd h F iF bF :=
  Hub.refreshSf_same.rd (by decide) F iF bF eF

theorem Hub.remoteWake_canon {h : Hub} (H : Hub.Canon h) : Hub.Canon (Hub.remoteWake h) :=
  Hub.remoteWake_keeps (bears_canon 0x40000000000000000000000004000000000000000000000070000000000000000000000000000000000000000) (Sub.refl _) H

theorem Hub.remoteWake_same {h : Hub} : Hub.Same 0x40000000000000000000000004000000000000000000000070000000000000000000000000000000000000000 h (Hub.remoteWake h) :=
  Hub.remoteWake_keeps (bears_same 0x40000000000000000000000004000000000000000000000070000000000000000000000000000000000000000 h) (Sub.refl _) (fun _ => Hub.Same.refl _ _) (by decide)

theorem Hub.remoteWake_rd {h : Hub} {F : Fld} {iF bF : Nat} (eF : Nat.testBit 0x40000000000000000000000004000000000000000000000070000000000000000000000000000000000000000 F.kind = false) :
    Hub.rd (Hub.remoteWake h) F iF bF = Hub.rd h F iF bF :=
  Hub.remoteWake_same.rd (by decide) F iF bF eF

theorem Hub.routeStep_canon {h : Hub} {known : List (ℕ × ℕ)} {node : ℕ} {first : ℕ} {size : ℕ} {valid : Bool} {next : ℕ} (H : Hub.Canon h) : Hub.Canon (Hub.routeStep h known node first size valid next).2 :=
  Hub.routeStep_keeps (bears_canon 0x800000000000000000000000000000000000000000000000000000000000000000000000000000) (Sub.refl _) H

theorem Hub.routeStep_same {h : Hub} {known : List (ℕ × ℕ)} {node : ℕ} {first : ℕ} {size : ℕ} {valid : Bool} {next : ℕ} : Hub.Same 0x800000000000000000000000000000000000000000000000000000000000000000000000000000 h (Hub.routeStep h known node first size valid next).2 :=
  Hub.routeStep_keeps (bears_same 0x800000000000000000000000000000000000000000000000000000000000000000000000000000 h) (Sub.refl _) (fun _ => Hub.Same.refl _ _) (by decide)

theorem Hub.routeStep_rd {h : Hub} {known : List (ℕ × ℕ)} {node : ℕ} {first : ℕ} {size : ℕ} {valid : Bool} {next : ℕ} {F : Fld} {iF bF : Nat} (eF : Nat.testBit 0x800000000000000000000000000000000000000000000000000000000000000000000000000000 F.kind = false) :
    Hub.rd (Hub.routeStep h known node first size valid next).2 F iF bF = Hub.rd h F iF bF :=
  Hub.routeStep_same.rd (by decide) F iF bF eF

theorem Hub.repairEvent_canon {h : Hub} {src : ℕ} {event : ℕ} {port : ℕ} {partner : ℕ} {count : ℕ} (H : Hub.Canon h) : Hub.Canon (Hub.repairEvent h src event port partner count) :=
  Hub.repairEvent_keeps (bears_canon 0x49808800000000000004000000000000000000000000000000000000100000000010000000000000000) (Sub.refl _) H

theorem Hub.repairEvent_same {h : Hub} {src : ℕ} {event : ℕ} {port : ℕ} {partner : ℕ} {count : ℕ} : Hub.Same 0x49808800000000000004000000000000000000000000000000000000100000000010000000000000000 h (Hub.repairEvent h src event port partner count) :=
  Hub.repairEvent_keeps (bears_same 0x49808800000000000004000000000000000000000000000000000000100000000010000000000000000 h) (Sub.refl _) (fun _ => Hub.Same.refl _ _) (by decide)

theorem Hub.repairEvent_rd {h : Hub} {src : ℕ} {event : ℕ} {port : ℕ} {partner : ℕ} {count : ℕ} {F : Fld} {iF bF : Nat} (eF : Nat.testBit 0x49808800000000000004000000000000000000000000000000000000100000000010000000000000000 F.kind = false) :
    Hub.rd (Hub.repairEvent h src event port partner count) F iF bF = Hub.rd h F iF bF :=
  Hub.repairEvent_same.rd (by decide) F iF bF eF

theorem Hub.reqIn_canon {h : Hub} {q : UsbReq} {data : Bytes} (H : Hub.Canon h) : Hub.Canon (Hub.reqIn h q data) :=
  Hub.reqIn_keeps (bears_canon 0x140000000000808000000000000000000000000000000000040000000000000000000000000000000000000000) (Sub.refl _) H

theorem Hub.reqIn_same {h : Hub} {q : UsbReq} {data : Bytes} : Hub.Same 0x140000000000808000000000000000000000000000000000040000000000000000000000000000000000000000 h (Hub.reqIn h q data) :=
  Hub.reqIn_keeps (bears_same 0x140000000000808000000000000000000000000000000000040000000000000000000000000000000000000000 h) (Sub.refl _) (fun _ => Hub.Same.refl _ _) (by decide)

theorem Hub.reqIn_rd {h : Hub} {q : UsbReq} {data : Bytes} {F : Fld} {iF bF : Nat} (eF : Nat.testBit 0x140000000000808000000000000000000000000000000000040000000000000000000000000000000000000000 F.kind = false) :
    Hub.rd (Hub.reqIn h q data) F iF bF = Hub.rd h F iF bF :=
  Hub.reqIn_same.rd (by decide) F iF bF eF

theorem Hub.sourceChange_canon {h : Hub} {n : ℕ} {ireq : ℕ} (H : Hub.Canon h) : Hub.Canon (Hub.sourceChange h n ireq) :=
  Hub.sourceChange_keeps (bears_canon 0x40000040800280200000000000c000001000000101010100000000000000010000000000000000000100010402) (Sub.refl _) H

theorem Hub.sourceChange_same {h : Hub} {n : ℕ} {ireq : ℕ} : Hub.Same 0x40000040800280200000000000c000001000000101010100000000000000010000000000000000000100010402 h (Hub.sourceChange h n ireq) :=
  Hub.sourceChange_keeps (bears_same 0x40000040800280200000000000c000001000000101010100000000000000010000000000000000000100010402 h) (Sub.refl _) (fun _ => Hub.Same.refl _ _) (by decide)

theorem Hub.requestIn_canon {h : Hub} {n : ℕ} {tok : ℕ} {ireq : ℕ} {pwr : ℕ} {arm : Bool} (H : Hub.Canon h) : Hub.Canon (Hub.requestIn h n tok ireq pwr arm) :=
  Hub.requestIn_keeps (bears_canon 0x40000040800280200000000000c000001000000101010100000000000000010000000000000000000100010402) (Sub.refl _) H

theorem Hub.requestIn_same {h : Hub} {n : ℕ} {tok : ℕ} {ireq : ℕ} {pwr : ℕ} {arm : Bool} : Hub.Same 0x40000040800280200000000000c000001000000101010100000000000000010000000000000000000100010402 h (Hub.requestIn h n tok ireq pwr arm) :=
  Hub.requestIn_keeps (bears_same 0x40000040800280200000000000c000001000000101010100000000000000010000000000000000000100010402 h) (Sub.refl _) (fun _ => Hub.Same.refl _ _) (by decide)

theorem Hub.reserveAt_canon {h : Hub} {src : ℕ} {txn : ℕ} {amount : ℕ} {egress : ℕ} {i : ℕ} (H : Hub.Canon h) : Hub.Canon (Hub.reserveAt h src txn amount egress i).1 :=
  Hub.reserveAt_keeps (bears_canon 0x1a800000000000004000000000000000000000000000000000010003000000030000000000000404) (Sub.refl _) H

theorem Hub.reserveAt_same {h : Hub} {src : ℕ} {txn : ℕ} {amount : ℕ} {egress : ℕ} {i : ℕ} : Hub.Same 0x1a800000000000004000000000000000000000000000000000010003000000030000000000000404 h (Hub.reserveAt h src txn amount egress i).1 :=
  Hub.reserveAt_keeps (bears_same 0x1a800000000000004000000000000000000000000000000000010003000000030000000000000404 h) (Sub.refl _) (fun _ => Hub.Same.refl _ _) (by decide)

theorem Hub.reserveAt_rd {h : Hub} {src : ℕ} {txn : ℕ} {amount : ℕ} {egress : ℕ} {i : ℕ} {F : Fld} {iF bF : Nat} (eF : Nat.testBit 0x1a800000000000004000000000000000000000000000000000010003000000030000000000000404 F.kind = false) :
    Hub.rd (Hub.reserveAt h src txn amount egress i).1 F iF bF = Hub.rd h F iF bF :=
  Hub.reserveAt_same.rd (by decide) F iF bF eF

theorem Hub.retireTold_canon {h : Hub} {p : ℕ} {mask : ℕ} (H : Hub.Canon h) : Hub.Canon (Hub.retireTold h p mask) :=
  Hub.retireTold_keeps (bears_canon 0x280200000000000c000201000000000000000000000000000010000000000000000000100000402) (Sub.refl _) H

theorem Hub.retireTold_same {h : Hub} {p : ℕ} {mask : ℕ} : Hub.Same 0x280200000000000c000201000000000000000000000000000010000000000000000000100000402 h (Hub.retireTold h p mask) :=
  Hub.retireTold_keeps (bears_same 0x280200000000000c000201000000000000000000000000000010000000000000000000100000402 h) (Sub.refl _) (fun _ => Hub.Same.refl _ _) (by decide)

theorem Hub.retireIn_canon {h : Hub} {p : ℕ} {block : ℕ} (H : Hub.Canon h) : Hub.Canon (Hub.retireIn h p block) :=
  Hub.retireIn_keeps (bears_canon 0xb987aa80200000000000c00060100000000000000000000000000001030200010f030000000100014402) (Sub.refl _) H

theorem Hub.retireIn_same {h : Hub} {p : ℕ} {block : ℕ} : Hub.Same 0xb987aa80200000000000c00060100000000000000000000000000001030200010f030000000100014402 h (Hub.retireIn h p block) :=
  Hub.retireIn_keeps (bears_same 0xb987aa80200000000000c00060100000000000000000000000000001030200010f030000000100014402 h) (Sub.refl _) (fun _ => Hub.Same.refl _ _) (by decide)

theorem Hub.settleAsk_canon {h : Hub} {a : Ask} {status : ℕ} (H : Hub.Canon h) : Hub.Canon (Hub.settleAsk h a status) :=
  Hub.settleAsk_keeps (bears_canon 0x4000000000049808800000000000004000000000000000000000000000000000000100000000010000000000000000) (Sub.refl _) H

theorem Hub.settleAsk_same {h : Hub} {a : Ask} {status : ℕ} : Hub.Same 0x4000000000049808800000000000004000000000000000000000000000000000000100000000010000000000000000 h (Hub.settleAsk h a status) :=
  Hub.settleAsk_keeps (bears_same 0x4000000000049808800000000000004000000000000000000000000000000000000100000000010000000000000000 h) (Sub.refl _) (fun _ => Hub.Same.refl _ _) (by decide)

theorem Hub.settleAsk_rd {h : Hub} {a : Ask} {status : ℕ} {F : Fld} {iF bF : Nat} (eF : Nat.testBit 0x4000000000049808800000000000004000000000000000000000000000000000000100000000010000000000000000 F.kind = false) :
    Hub.rd (Hub.settleAsk h a status) F iF bF = Hub.rd h F iF bF :=
  Hub.settleAsk_same.rd (by decide) F iF bF eF

theorem Hub.retryAsk_canon {h : Hub} {tok : ℕ} (H : Hub.Canon h) : Hub.Canon (Hub.retryAsk h tok) :=
  Hub.retryAsk_keeps (bears_canon 0x400000000004b808800000000000004000000000000000000000000000000000000100000000010000000000000000) (Sub.refl _) H

theorem Hub.retryAsk_same {h : Hub} {tok : ℕ} : Hub.Same 0x400000000004b808800000000000004000000000000000000000000000000000000100000000010000000000000000 h (Hub.retryAsk h tok) :=
  Hub.retryAsk_keeps (bears_same 0x400000000004b808800000000000004000000000000000000000000000000000000100000000010000000000000000 h) (Sub.refl _) (fun _ => Hub.Same.refl _ _) (by decide)

theorem Hub.retryAsk_rd {h : Hub} {tok : ℕ} {F : Fld} {iF bF : Nat} (eF : Nat.testBit 0x400000000004b808800000000000004000000000000000000000000000000000000100000000010000000000000000 F.kind = false) :
    Hub.rd (Hub.retryAsk h tok) F iF bF = Hub.rd h F iF bF :=
  Hub.retryAsk_same.rd (by decide) F iF bF eF

theorem Hub.rxSupersede_canon {h : Hub} {r : Fin 8} (H : Hub.Canon h) : Hub.Canon (Hub.rxSupersede h r) :=
  Hub.rxSupersede_keeps (bears_canon 0x108000000000000000000000000000000000000000010000800000000000000000000000000000) (Sub.refl _) H

theorem Hub.rxSupersede_same {h : Hub} {r : Fin 8} : Hub.Same 0x108000000000000000000000000000000000000000010000800000000000000000000000000000 h (Hub.rxSupersede h r) :=
  Hub.rxSupersede_keeps (bears_same 0x108000000000000000000000000000000000000000010000800000000000000000000000000000 h) (Sub.refl _) (fun _ => Hub.Same.refl _ _) (by decide)

theorem Hub.rxSupersede_rd {h : Hub} {r : Fin 8} {F : Fld} {iF bF : Nat} (eF : Nat.testBit 0x108000000000000000000000000000000000000000010000800000000000000000000000000000 F.kind = false) :
    Hub.rd (Hub.rxSupersede h r) F iF bF = Hub.rd h F iF bF :=
  Hub.rxSupersede_same.rd (by decide) F iF bF eF

theorem Hub.rxError_canon {h : Hub} {r : ℕ} (H : Hub.Canon h) : Hub.Canon (Hub.rxError h r) :=
  Hub.rxError_keeps (bears_canon 0x800000000000000000000000000000) (Sub.refl _) H

theorem Hub.rxError_same {h : Hub} {r : ℕ} : Hub.Same 0x800000000000000000000000000000 h (Hub.rxError h r) :=
  Hub.rxError_keeps (bears_same 0x800000000000000000000000000000 h) (Sub.refl _) (fun _ => Hub.Same.refl _ _) (by decide)

theorem Hub.rxError_rd {h : Hub} {r : ℕ} {F : Fld} {iF bF : Nat} (eF : Nat.testBit 0x800000000000000000000000000000 F.kind = false) :
    Hub.rd (Hub.rxError h r) F iF bF = Hub.rd h F iF bF :=
  Hub.rxError_same.rd (by decide) F iF bF eF

theorem Hub.rxOpen_canon {h : Hub} {r : Fin 8} {frame : ℕ} (H : Hub.Canon h) : Hub.Canon (Hub.rxOpen h r frame) :=
  Hub.rxOpen_keeps (bears_canon 0xa000000008000000000000000000000000000000000000000000000800000000000000000000000000000) (Sub.refl _) H

theorem Hub.rxOpen_same {h : Hub} {r : Fin 8} {frame : ℕ} : Hub.Same 0xa000000008000000000000000000000000000000000000000000000800000000000000000000000000000 h (Hub.rxOpen h r frame) :=
  Hub.rxOpen_keeps (bears_same 0xa000000008000000000000000000000000000000000000000000000800000000000000000000000000000 h) (Sub.refl _) (fun _ => Hub.Same.refl _ _) (by decide)

theorem Hub.rxOpen_rd {h : Hub} {r : Fin 8} {frame : ℕ} {F : Fld} {iF bF : Nat} (eF : Nat.testBit 0xa000000008000000000000000000000000000000000000000000000800000000000000000000000000000 F.kind = false) :
    Hub.rd (Hub.rxOpen h r frame) F iF bF = Hub.rd h F iF bF :=
  Hub.rxOpen_same.rd (by decide) F iF bF eF

theorem Hub.rxFrame_canon {h : Hub} {r : Fin 8} {frame : ℕ} (H : Hub.Canon h) : Hub.Canon (Hub.rxFrame h r frame) :=
  Hub.rxFrame_keeps (bears_canon 0xa000000108000000000000000000000000000000000000000010000800000000000000000000000000000) (Sub.refl _) H

theorem Hub.rxFrame_same {h : Hub} {r : Fin 8} {frame : ℕ} : Hub.Same 0xa000000108000000000000000000000000000000000000000010000800000000000000000000000000000 h (Hub.rxFrame h r frame) :=
  Hub.rxFrame_keeps (bears_same 0xa000000108000000000000000000000000000000000000000010000800000000000000000000000000000 h) (Sub.refl _) (fun _ => Hub.Same.refl _ _) (by decide)

theorem Hub.rxFrame_rd {h : Hub} {r : Fin 8} {frame : ℕ} {F : Fld} {iF bF : Nat} (eF : Nat.testBit 0xa000000108000000000000000000000000000000000000000010000800000000000000000000000000000 F.kind = false) :
    Hub.rd (Hub.rxFrame h r frame) F iF bF = Hub.rd h F iF bF :=
  Hub.rxFrame_same.rd (by decide) F iF bF eF

theorem Hub.rxEnd_canon {h : Hub} {r : Fin 8} {t : TilePkt} (H : Hub.Canon h) : Hub.Canon (Hub.rxEnd h r t) :=
  Hub.rxEnd_keeps (bears_canon 0xa000002908000000000004000000000000000000000000000010000810000000000000000000000000400) (Sub.refl _) H

theorem Hub.rxEnd_same {h : Hub} {r : Fin 8} {t : TilePkt} : Hub.Same 0xa000002908000000000004000000000000000000000000000010000810000000000000000000000000400 h (Hub.rxEnd h r t) :=
  Hub.rxEnd_keeps (bears_same 0xa000002908000000000004000000000000000000000000000010000810000000000000000000000000400 h) (Sub.refl _) (fun _ => Hub.Same.refl _ _) (by decide)

theorem Hub.rxEnd_rd {h : Hub} {r : Fin 8} {t : TilePkt} {F : Fld} {iF bF : Nat} (eF : Nat.testBit 0xa000002908000000000004000000000000000000000000000010000810000000000000000000000000400 F.kind = false) :
    Hub.rd (Hub.rxEnd h r t) F iF bF = Hub.rd h F iF bF :=
  Hub.rxEnd_same.rd (by decide) F iF bF eF

theorem Hub.rxWrite_canon {h : Hub} {r : Fin 8} {k : ℕ} {t : TilePkt} (H : Hub.Canon h) : Hub.Canon (Hub.rxWrite h r k t) :=
  Hub.rxWrite_keeps (bears_canon 0xa000002908000000000004000000000000000000000000000010000810000000000000000000000000400) (Sub.refl _) H

theorem Hub.rxWrite_same {h : Hub} {r : Fin 8} {k : ℕ} {t : TilePkt} : Hub.Same 0xa000002908000000000004000000000000000000000000000010000810000000000000000000000000400 h (Hub.rxWrite h r k t) :=
  Hub.rxWrite_keeps (bears_same 0xa000002908000000000004000000000000000000000000000010000810000000000000000000000000400 h) (Sub.refl _) (fun _ => Hub.Same.refl _ _) (by decide)

theorem Hub.rxWrite_rd {h : Hub} {r : Fin 8} {k : ℕ} {t : TilePkt} {F : Fld} {iF bF : Nat} (eF : Nat.testBit 0xa000002908000000000004000000000000000000000000000010000810000000000000000000000000400 F.kind = false) :
    Hub.rd (Hub.rxWrite h r k t) F iF bF = Hub.rd h F iF bF :=
  Hub.rxWrite_same.rd (by decide) F iF bF eF

theorem Hub.rxTile_canon {h : Hub} {r : Fin 8} {t : TilePkt} (H : Hub.Canon h) : Hub.Canon (Hub.rxTile h r t) :=
  Hub.rxTile_keeps (bears_canon 0xa000002908000000000004000000000000000000000000000010000810000000000000000000000000400) (Sub.refl _) H

theorem Hub.rxTile_same {h : Hub} {r : Fin 8} {t : TilePkt} : Hub.Same 0xa000002908000000000004000000000000000000000000000010000810000000000000000000000000400 h (Hub.rxTile h r t) :=
  Hub.rxTile_keeps (bears_same 0xa000002908000000000004000000000000000000000000000010000810000000000000000000000000400 h) (Sub.refl _) (fun _ => Hub.Same.refl _ _) (by decide)

theorem Hub.rxTile_rd {h : Hub} {r : Fin 8} {t : TilePkt} {F : Fld} {iF bF : Nat} (eF : Nat.testBit 0xa000002908000000000004000000000000000000000000000010000810000000000000000000000000400 F.kind = false) :
    Hub.rd (Hub.rxTile h r t) F iF bF = Hub.rd h F iF bF :=
  Hub.rxTile_same.rd (by decide) F iF bF eF

theorem Hub.sceneSend_canon {h : Hub} {p : ℕ} (H : Hub.Canon h) : Hub.Canon (Hub.sceneSend h p) :=
  Hub.sceneSend_keeps (bears_canon 0x20000000000000000000000000000000000000000000000000004000000000000000000000000000000000000) (Sub.refl _) H

theorem Hub.sceneSend_same {h : Hub} {p : ℕ} : Hub.Same 0x20000000000000000000000000000000000000000000000000004000000000000000000000000000000000000 h (Hub.sceneSend h p) :=
  Hub.sceneSend_keeps (bears_same 0x20000000000000000000000000000000000000000000000000004000000000000000000000000000000000000 h) (Sub.refl _) (fun _ => Hub.Same.refl _ _) (by decide)

theorem Hub.sceneSend_rd {h : Hub} {p : ℕ} {F : Fld} {iF bF : Nat} (eF : Nat.testBit 0x20000000000000000000000000000000000000000000000000004000000000000000000000000000000000000 F.kind = false) :
    Hub.rd (Hub.sceneSend h p) F iF bF = Hub.rd h F iF bF :=
  Hub.sceneSend_same.rd (by decide) F iF bF eF

theorem Hub.scrubLink_canon {h : Hub} {num : ℕ} {lo : ℕ} {link : ℕ} (H : Hub.Canon h) : Hub.Canon (Hub.scrubLink h num lo link) :=
  Hub.scrubLink_keeps (bears_canon 0x52280000000000000400000000000000000000000000000000001000000010b000000000000000400) (Sub.refl _) H

theorem Hub.scrubLink_same {h : Hub} {num : ℕ} {lo : ℕ} {link : ℕ} : Hub.Same 0x52280000000000000400000000000000000000000000000000001000000010b000000000000000400 h (Hub.scrubLink h num lo link) :=
  Hub.scrubLink_keeps (bears_same 0x52280000000000000400000000000000000000000000000000001000000010b000000000000000400 h) (Sub.refl _) (fun _ => Hub.Same.refl _ _) (by decide)

theorem Hub.scrubLink_rd {h : Hub} {num : ℕ} {lo : ℕ} {link : ℕ} {F : Fld} {iF bF : Nat} (eF : Nat.testBit 0x52280000000000000400000000000000000000000000000000001000000010b000000000000000400 F.kind = false) :
    Hub.rd (Hub.scrubLink h num lo link) F iF bF = Hub.rd h F iF bF :=
  Hub.scrubLink_same.rd (by decide) F iF bF eF

theorem Hub.scrubPass_canon {h : Hub} {b : ℕ} (H : Hub.Canon h) : Hub.Canon (Hub.scrubPass h b) :=
  Hub.scrubPass_keeps (bears_canon 0x1000000000000000000) (Sub.refl _) H

theorem Hub.scrubPass_same {h : Hub} {b : ℕ} : Hub.Same 0x1000000000000000000 h (Hub.scrubPass h b) :=
  Hub.scrubPass_keeps (bears_same 0x1000000000000000000 h) (Sub.refl _) (fun _ => Hub.Same.refl _ _) (by decide)

theorem Hub.scrubPass_rd {h : Hub} {b : ℕ} {F : Fld} {iF bF : Nat} (eF : Nat.testBit 0x1000000000000000000 F.kind = false) :
    Hub.rd (Hub.scrubPass h b) F iF bF = Hub.rd h F iF bF :=
  Hub.scrubPass_same.rd (by decide) F iF bF eF

theorem Hub.setFlips_canon {h : Hub} {num : ℕ} {n : ℕ} (H : Hub.Canon h) : Hub.Canon (Hub.setFlips h num n) :=
  Hub.setFlips_keeps (bears_canon 0x20000000000000000000000000000000000000000000000000000000000000000000000000000000) (Sub.refl _) H

theorem Hub.setFlips_same {h : Hub} {num : ℕ} {n : ℕ} : Hub.Same 0x20000000000000000000000000000000000000000000000000000000000000000000000000000000 h (Hub.setFlips h num n) :=
  Hub.setFlips_keeps (bears_same 0x20000000000000000000000000000000000000000000000000000000000000000000000000000000 h) (Sub.refl _) (fun _ => Hub.Same.refl _ _) (by decide)

theorem Hub.setFlips_rd {h : Hub} {num : ℕ} {n : ℕ} {F : Fld} {iF bF : Nat} (eF : Nat.testBit 0x20000000000000000000000000000000000000000000000000000000000000000000000000000000 F.kind = false) :
    Hub.rd (Hub.setFlips h num n) F iF bF = Hub.rd h F iF bF :=
  Hub.setFlips_same.rd (by decide) F iF bF eF

theorem Hub.scrubWord_canon {h : Hub} {num : ℕ} {flips : ℕ} {writtenMeanwhile : Bool} (H : Hub.Canon h) : Hub.Canon (Hub.scrubWord h num flips writtenMeanwhile) :=
  Hub.scrubWord_keeps (bears_canon 0x52280000000000000400000000000000000000000000000000001000000010b000000000000000400) (Sub.refl _) H

theorem Hub.scrubWord_same {h : Hub} {num : ℕ} {flips : ℕ} {writtenMeanwhile : Bool} : Hub.Same 0x52280000000000000400000000000000000000000000000000001000000010b000000000000000400 h (Hub.scrubWord h num flips writtenMeanwhile) :=
  Hub.scrubWord_keeps (bears_same 0x52280000000000000400000000000000000000000000000000001000000010b000000000000000400 h) (Sub.refl _) (fun _ => Hub.Same.refl _ _) (by decide)

theorem Hub.scrubWord_rd {h : Hub} {num : ℕ} {flips : ℕ} {writtenMeanwhile : Bool} {F : Fld} {iF bF : Nat} (eF : Nat.testBit 0x52280000000000000400000000000000000000000000000000001000000010b000000000000000400 F.kind = false) :
    Hub.rd (Hub.scrubWord h num flips writtenMeanwhile) F iF bF = Hub.rd h F iF bF :=
  Hub.scrubWord_same.rd (by decide) F iF bF eF

theorem Hub.scrubRead_canon {h : Hub} {b : ℕ} {found : ℕ} {writtenMeanwhile : Bool} (H : Hub.Canon h) : Hub.Canon (Hub.scrubRead h b found writtenMeanwhile) :=
  Hub.scrubRead_keeps (bears_canon 0x52280000000000000400000000000000000000000000000000001000000010b000000000000000400) (Sub.refl _) H

theorem Hub.scrubRead_same {h : Hub} {b : ℕ} {found : ℕ} {writtenMeanwhile : Bool} : Hub.Same 0x52280000000000000400000000000000000000000000000000001000000010b000000000000000400 h (Hub.scrubRead h b found writtenMeanwhile) :=
  Hub.scrubRead_keeps (bears_same 0x52280000000000000400000000000000000000000000000000001000000010b000000000000000400 h) (Sub.refl _) (fun _ => Hub.Same.refl _ _) (by decide)

theorem Hub.scrubRead_rd {h : Hub} {b : ℕ} {found : ℕ} {writtenMeanwhile : Bool} {F : Fld} {iF bF : Nat} (eF : Nat.testBit 0x52280000000000000400000000000000000000000000000000001000000010b000000000000000400 F.kind = false) :
    Hub.rd (Hub.scrubRead h b found writtenMeanwhile) F iF bF = Hub.rd h F iF bF :=
  Hub.scrubRead_same.rd (by decide) F iF bF eF

theorem Hub.sendBlock_canon {h : Hub} {p : ℕ} {ks : List ℕ} {v : ℕ} (H : Hub.Canon h) : Hub.Canon (Hub.sendBlock h p ks v) :=
  Hub.sendBlock_keeps (bears_canon 0x400000000000000000000000000000000000000000000000000000000000000000000000000000000000) (Sub.refl _) H

theorem Hub.sendBlock_same {h : Hub} {p : ℕ} {ks : List ℕ} {v : ℕ} : Hub.Same 0x400000000000000000000000000000000000000000000000000000000000000000000000000000000000 h (Hub.sendBlock h p ks v) :=
  Hub.sendBlock_keeps (bears_same 0x400000000000000000000000000000000000000000000000000000000000000000000000000000000000 h) (Sub.refl _) (fun _ => Hub.Same.refl _ _) (by decide)

theorem Hub.sendBlock_rd {h : Hub} {p : ℕ} {ks : List ℕ} {v : ℕ} {F : Fld} {iF bF : Nat} (eF : Nat.testBit 0x400000000000000000000000000000000000000000000000000000000000000000000000000000000000 F.kind = false) :
    Hub.rd (Hub.sendBlock h p ks v) F iF bF = Hub.rd h F iF bF :=
  Hub.sendBlock_same.rd (by decide) F iF bF eF

theorem Hub.sendEidle_canon {h : Hub} {p : ℕ} (H : Hub.Canon h) : Hub.Canon (Hub.sendEidle h p) :=
  Hub.sendEidle_keeps (bears_canon 0x41800a80200000000000c000601000000000000000000000000000010102000000030000000100014402) (Sub.refl _) H

theorem Hub.sendEidle_same {h : Hub} {p : ℕ} : Hub.Same 0x41800a80200000000000c000601000000000000000000000000000010102000000030000000100014402 h (Hub.sendEidle h p) :=
  Hub.sendEidle_keeps (bears_same 0x41800a80200000000000c000601000000000000000000000000000010102000000030000000100014402 h) (Sub.refl _) (fun _ => Hub.Same.refl _ _) (by decide)

theorem Hub.sendEnd_canon {h : Hub} {s : ℕ} (H : Hub.Canon h) : Hub.Canon (Hub.sendEnd h s) :=
  Hub.sendEnd_keeps (bears_canon 0x8000000000000000000000000000000000000000000000800000000000000000000000000000) (Sub.refl _) H

theorem Hub.sendEnd_same {h : Hub} {s : ℕ} : Hub.Same 0x8000000000000000000000000000000000000000000000800000000000000000000000000000 h (Hub.sendEnd h s) :=
  Hub.sendEnd_keeps (bears_same 0x8000000000000000000000000000000000000000000000800000000000000000000000000000 h) (Sub.refl _) (fun _ => Hub.Same.refl _ _) (by decide)

theorem Hub.sendEnd_rd {h : Hub} {s : ℕ} {F : Fld} {iF bF : Nat} (eF : Nat.testBit 0x8000000000000000000000000000000000000000000000800000000000000000000000000000 F.kind = false) :
    Hub.rd (Hub.sendEnd h s) F iF bF = Hub.rd h F iF bF :=
  Hub.sendEnd_same.rd (by decide) F iF bF eF

theorem Hub.sendFrame_canon {h : Hub} {p : ℕ} {k : ℕ} {lowest : Bool} (H : Hub.Canon h) : Hub.Canon (Hub.sendFrame h p k lowest) :=
  Hub.sendFrame_keeps (bears_canon 0x688200800000000000004000200000000000000000000000000000000000000100000000000100010000) (Sub.refl _) H

theorem Hub.sendFrame_same {h : Hub} {p : ℕ} {k : ℕ} {lowest : Bool} : Hub.Same 0x688200800000000000004000200000000000000000000000000000000000000100000000000100010000 h (Hub.sendFrame h p k lowest) :=
  Hub.sendFrame_keeps (bears_same 0x688200800000000000004000200000000000000000000000000000000000000100000000000100010000 h) (Sub.refl _) (fun _ => Hub.Same.refl _ _) (by decide)

theorem Hub.sendFrame_rd {h : Hub} {p : ℕ} {k : ℕ} {lowest : Bool} {F : Fld} {iF bF : Nat} (eF : Nat.testBit 0x688200800000000000004000200000000000000000000000000000000000000100000000000100010000 F.kind = false) :
    Hub.rd (Hub.sendFrame h p k lowest) F iF bF = Hub.rd h F iF bF :=
  Hub.sendFrame_same.rd (by decide) F iF bF eF

theorem Hub.stidCommit_canon {h : Hub} {s : ℕ} (H : Hub.Canon h) : Hub.Canon (Hub.stidCommit h s) :=
  Hub.stidCommit_keeps (bears_canon 0x2000000000000000001000000000000000000000000000800000000000000000000000000000) (Sub.refl _) H

theorem Hub.stidCommit_same {h : Hub} {s : ℕ} : Hub.Same 0x2000000000000000001000000000000000000000000000800000000000000000000000000000 h (Hub.stidCommit h s) :=
  Hub.stidCommit_keeps (bears_same 0x2000000000000000001000000000000000000000000000800000000000000000000000000000 h) (Sub.refl _) (fun _ => Hub.Same.refl _ _) (by decide)

theorem Hub.stidCommit_rd {h : Hub} {s : ℕ} {F : Fld} {iF bF : Nat} (eF : Nat.testBit 0x2000000000000000001000000000000000000000000000800000000000000000000000000000 F.kind = false) :
    Hub.rd (Hub.stidCommit h s) F iF bF = Hub.rd h F iF bF :=
  Hub.stidCommit_same.rd (by decide) F iF bF eF

theorem Hub.sendFrameOf_canon {h0 : Hub} {s : ℕ} {k : ℕ} (H : Hub.Canon h0) : Hub.Canon (Hub.sendFrameOf h0 s k) :=
  Hub.sendFrameOf_keeps (bears_canon 0x1400000000a000000000000000001000000000000000000000000000800000000000000000000000000000) (Sub.refl _) H

theorem Hub.sendFrameOf_same {h0 : Hub} {s : ℕ} {k : ℕ} : Hub.Same 0x1400000000a000000000000000001000000000000000000000000000800000000000000000000000000000 h0 (Hub.sendFrameOf h0 s k) :=
  Hub.sendFrameOf_keeps (bears_same 0x1400000000a000000000000000001000000000000000000000000000800000000000000000000000000000 h0) (Sub.refl _) (fun _ => Hub.Same.refl _ _) (by decide)

theorem Hub.sendFrameOf_rd {h0 : Hub} {s : ℕ} {k : ℕ} {F : Fld} {iF bF : Nat} (eF : Nat.testBit 0x1400000000a000000000000000001000000000000000000000000000800000000000000000000000000000 F.kind = false) :
    Hub.rd (Hub.sendFrameOf h0 s k) F iF bF = Hub.rd h0 F iF bF :=
  Hub.sendFrameOf_same.rd (by decide) F iF bF eF

theorem Hub.timeOut_canon {p : ℕ} {h : Hub} (H : Hub.Canon h) : Hub.Canon (Hub.timeOut p h) :=
  Hub.timeOut_keeps (bears_canon 0x8000000000000000000000000000000000000000000000000000000000000000000000000000010000) (Sub.refl _) H

theorem Hub.timeOut_same {p : ℕ} {h : Hub} : Hub.Same 0x8000000000000000000000000000000000000000000000000000000000000000000000000000010000 h (Hub.timeOut p h) :=
  Hub.timeOut_keeps (bears_same 0x8000000000000000000000000000000000000000000000000000000000000000000000000000010000 h) (Sub.refl _) (fun _ => Hub.Same.refl _ _) (by decide)

theorem Hub.timeOut_rd {p : ℕ} {h : Hub} {F : Fld} {iF bF : Nat} (eF : Nat.testBit 0x8000000000000000000000000000000000000000000000000000000000000000000000000000010000 F.kind = false) :
    Hub.rd (Hub.timeOut p h) F iF bF = Hub.rd h F iF bF :=
  Hub.timeOut_same.rd (by decide) F iF bF eF

theorem Hub.sendGroup_canon {h : Hub} {p : ℕ} (H : Hub.Canon h) : Hub.Canon (Hub.sendGroup h p) :=
  Hub.sendGroup_keeps (bears_canon 0xf987aa80200000000000c00060100000000000000000000000000001030200010f030000000100014402) (Sub.refl _) H

theorem Hub.sendGroup_same {h : Hub} {p : ℕ} : Hub.Same 0xf987aa80200000000000c00060100000000000000000000000000001030200010f030000000100014402 h (Hub.sendGroup h p) :=
  Hub.sendGroup_keeps (bears_same 0xf987aa80200000000000c00060100000000000000000000000000001030200010f030000000100014402 h) (Sub.refl _) (fun _ => Hub.Same.refl _ _) (by decide)

theorem Hub.sendNext_canon {h : Hub} {s : Fin 64} (H : Hub.Canon h) : Hub.Canon (Hub.sendNext h s) :=
  Hub.sendNext_keeps (bears_canon 0x1400000000a000000000000000001000000000000000000000000000800000000000000000000000000000) (Sub.refl _) H

theorem Hub.sendNext_same {h : Hub} {s : Fin 64} : Hub.Same 0x1400000000a000000000000000001000000000000000000000000000800000000000000000000000000000 h (Hub.sendNext h s) :=
  Hub.sendNext_keeps (bears_same 0x1400000000a000000000000000001000000000000000000000000000800000000000000000000000000000 h) (Sub.refl _) (fun _ => Hub.Same.refl _ _) (by decide)

theorem Hub.sendNext_rd {h : Hub} {s : Fin 64} {F : Fld} {iF bF : Nat} (eF : Nat.testBit 0x1400000000a000000000000000001000000000000000000000000000800000000000000000000000000000 F.kind = false) :
    Hub.rd (Hub.sendNext h s) F iF bF = Hub.rd h F iF bF :=
  Hub.sendNext_same.rd (by decide) F iF bF eF

theorem Hub.sendRetire_canon {h : Hub} {p : ℕ} (H : Hub.Canon h) : Hub.Canon (Hub.sendRetire h p) :=
  Hub.sendRetire_keeps (bears_canon 0xf987aa80200000000000c00060100000000000000000000000000001030200010f030000000100014402) (Sub.refl _) H

theorem Hub.sendRetire_same {h : Hub} {p : ℕ} : Hub.Same 0xf987aa80200000000000c00060100000000000000000000000000001030200010f030000000100014402 h (Hub.sendRetire h p) :=
  Hub.sendRetire_keeps (bears_same 0xf987aa80200000000000c00060100000000000000000000000000001030200010f030000000100014402 h) (Sub.refl _) (fun _ => Hub.Same.refl _ _) (by decide)

theorem Hub.settleGo_canon {h : Hub} (H : Hub.Canon h) : Hub.Canon (Hub.settleGo h) :=
  Hub.settleGo_keeps (bears_canon 0xa800000000000004000000000000000000000000000000000010000000000010000000000000400) (Sub.refl _) H

theorem Hub.settleGo_same {h : Hub} : Hub.Same 0xa800000000000004000000000000000000000000000000000010000000000010000000000000400 h (Hub.settleGo h) :=
  Hub.settleGo_keeps (bears_same 0xa800000000000004000000000000000000000000000000000010000000000010000000000000400 h) (Sub.refl _) (fun _ => Hub.Same.refl _ _) (by decide)

theorem Hub.settleGo_rd {h : Hub} {F : Fld} {iF bF : Nat} (eF : Nat.testBit 0xa800000000000004000000000000000000000000000000000010000000000010000000000000400 F.kind = false) :
    Hub.rd (Hub.settleGo h) F iF bF = Hub.rd h F iF bF :=
  Hub.settleGo_same.rd (by decide) F iF bF eF

theorem Hub.settleAll_canon {h : Hub} {l : List Settle} (H : Hub.Canon h) : Hub.Canon (Hub.settleAll h l) :=
  Hub.settleAll_keeps (bears_canon 0x800000000000000a800000000000004000000000000000000000000000000000010000000000010000000000000400) (Sub.refl _) H

theorem Hub.settleAll_same {h : Hub} {l : List Settle} : Hub.Same 0x800000000000000a800000000000004000000000000000000000000000000000010000000000010000000000000400 h (Hub.settleAll h l) :=
  Hub.settleAll_keeps (bears_same 0x800000000000000a800000000000004000000000000000000000000000000000010000000000010000000000000400 h) (Sub.refl _) (fun _ => Hub.Same.refl _ _) (by decide)

theorem Hub.settleAll_rd {h : Hub} {l : List Settle} {F : Fld} {iF bF : Nat} (eF : Nat.testBit 0x800000000000000a800000000000004000000000000000000000000000000000010000000000010000000000000400 F.kind = false) :
    Hub.rd (Hub.settleAll h l) F iF bF = Hub.rd h F iF bF :=
  Hub.settleAll_same.rd (by decide) F iF bF eF

theorem Hub.settleEnd.resend_canon {h : Hub} {u : Unrec} (H : Hub.Canon h) : Hub.Canon (Hub.settleEnd.resend h u) :=
  Hub.settleEnd.resend_keeps (bears_canon 0x808000000000000000000000000000000000000000000000000000000000000010000000000000000) (Sub.refl _) H

theorem Hub.settleEnd.resend_same {h : Hub} {u : Unrec} : Hub.Same 0x808000000000000000000000000000000000000000000000000000000000000010000000000000000 h (Hub.settleEnd.resend h u) :=
  Hub.settleEnd.resend_keeps (bears_same 0x808000000000000000000000000000000000000000000000000000000000000010000000000000000 h) (Sub.refl _) (fun _ => Hub.Same.refl _ _) (by decide)

theorem Hub.settleEnd.resend_rd {h : Hub} {u : Unrec} {F : Fld} {iF bF : Nat} (eF : Nat.testBit 0x808000000000000000000000000000000000000000000000000000000000000010000000000000000 F.kind = false) :
    Hub.rd (Hub.settleEnd.resend h u) F iF bF = Hub.rd h F iF bF :=
  Hub.settleEnd.resend_same.rd (by decide) F iF bF eF

theorem Hub.settleEnd_canon {h : Hub} {s : Settle} (H : Hub.Canon h) : Hub.Canon (Hub.settleEnd h s) :=
  Hub.settleEnd_keeps (bears_canon 0x4000000000007808000000000000000000000000000000000000000000000000000100000000010000000000000000) (Sub.refl _) H

theorem Hub.settleEnd_same {h : Hub} {s : Settle} : Hub.Same 0x4000000000007808000000000000000000000000000000000000000000000000000100000000010000000000000000 h (Hub.settleEnd h s) :=
  Hub.settleEnd_keeps (bears_same 0x4000000000007808000000000000000000000000000000000000000000000000000100000000010000000000000000 h) (Sub.refl _) (fun _ => Hub.Same.refl _ _) (by decide)

theorem Hub.settleEnd_rd {h : Hub} {s : Settle} {F : Fld} {iF bF : Nat} (eF : Nat.testBit 0x4000000000007808000000000000000000000000000000000000000000000000000100000000010000000000000000 F.kind = false) :
    Hub.rd (Hub.settleEnd h s) F iF bF = Hub.rd h F iF bF :=
  Hub.settleEnd_same.rd (by decide) F iF bF eF

theorem Hub.settleIn_canon {h : Hub} {ok : Bool} {v : ℕ} (H : Hub.Canon h) : Hub.Canon (Hub.settleIn h ok v) :=
  Hub.settleIn_keeps (bears_canon 0xc00000000000780a800000000000004000000000000000000000000000000000010100000000010000000000000400) (Sub.refl _) H

theorem Hub.settleIn_same {h : Hub} {ok : Bool} {v : ℕ} : Hub.Same 0xc00000000000780a800000000000004000000000000000000000000000000000010100000000010000000000000400 h (Hub.settleIn h ok v) :=
  Hub.settleIn_keeps (bears_same 0xc00000000000780a800000000000004000000000000000000000000000000000010100000000010000000000000400 h) (Sub.refl _) (fun _ => Hub.Same.refl _ _) (by decide)

theorem Hub.settleIn_rd {h : Hub} {ok : Bool} {v : ℕ} {F : Fld} {iF bF : Nat} (eF : Nat.testBit 0xc00000000000780a800000000000004000000000000000000000000000000000010100000000010000000000000400 F.kind = false) :
    Hub.rd (Hub.settleIn h ok v) F iF bF = Hub.rd h F iF bF :=
  Hub.settleIn_same.rd (by decide) F iF bF eF

theorem Hub.setup_canon {h : Hub} {src : ℕ} {entry : Ent} (H : Hub.Canon h) : Hub.Canon (Hub.setup h src entry).2.2 :=
  Hub.setup_keeps (bears_canon 0x82808000000000004000000000000000000000000000000000010200000000010000000000000400) (Sub.refl _) H

theorem Hub.setup_same {h : Hub} {src : ℕ} {entry : Ent} : Hub.Same 0x82808000000000004000000000000000000000000000000000010200000000010000000000000400 h (Hub.setup h src entry).2.2 :=
  Hub.setup_keeps (bears_same 0x82808000000000004000000000000000000000000000000000010200000000010000000000000400 h) (Sub.refl _) (fun _ => Hub.Same.refl _ _) (by decide)

theorem Hub.setup_rd {h : Hub} {src : ℕ} {entry : Ent} {F : Fld} {iF bF : Nat} (eF : Nat.testBit 0x82808000000000004000000000000000000000000000000000010200000000010000000000000400 F.kind = false) :
    Hub.rd (Hub.setup h src entry).2.2 F iF bF = Hub.rd h F iF bF :=
  Hub.setup_same.rd (by decide) F iF bF eF

theorem Hub.setupIn_canon {h : Hub} {bs : Bytes} (H : Hub.Canon h) : Hub.Canon (Hub.setupIn h bs) :=
  Hub.setupIn_keeps (bears_canon 0x200000000000800000000000004000000000000000000000020000000000000000000000000000000000000000) (Sub.refl _) H

theorem Hub.setupIn_same {h : Hub} {bs : Bytes} : Hub.Same 0x200000000000800000000000004000000000000000000000020000000000000000000000000000000000000000 h (Hub.setupIn h bs) :=
  Hub.setupIn_keeps (bears_same 0x200000000000800000000000004000000000000000000000020000000000000000000000000000000000000000 h) (Sub.refl _) (fun _ => Hub.Same.refl _ _) (by decide)

theorem Hub.setupIn_rd {h : Hub} {bs : Bytes} {F : Fld} {iF bF : Nat} (eF : Nat.testBit 0x200000000000800000000000004000000000000000000000020000000000000000000000000000000000000000 F.kind = false) :
    Hub.rd (Hub.setupIn h bs) F iF bF = Hub.rd h F iF bF :=
  Hub.setupIn_same.rd (by decide) F iF bF eF

theorem Hub.softDone_canon {pg : ℕ} {h : Hub} (H : Hub.Canon h) : Hub.Canon (Hub.softDone pg h) :=
  Hub.softDone_keeps (bears_canon 0x280200000000000c000003000000000000000000000010100030000000000000000000100010412) (Sub.refl _) H

theorem Hub.softDone_same {pg : ℕ} {h : Hub} : Hub.Same 0x280200000000000c000003000000000000000000000010100030000000000000000000100010412 h (Hub.softDone pg h) :=
  Hub.softDone_keeps (bears_same 0x280200000000000c000003000000000000000000000010100030000000000000000000100010412 h) (Sub.refl _) (fun _ => Hub.Same.refl _ _) (by decide)

theorem Hub.swapDone_canon {h : Hub} {n : ℕ} (H : Hub.Canon h) : Hub.Canon (Hub.swapDone h n) :=
  Hub.swapDone_keeps (bears_canon 0x4000000000000101010100000000000000000000000000000000000000000000) (Sub.refl _) H

theorem Hub.swapDone_same {h : Hub} {n : ℕ} : Hub.Same 0x4000000000000101010100000000000000000000000000000000000000000000 h (Hub.swapDone h n) :=
  Hub.swapDone_keeps (bears_same 0x4000000000000101010100000000000000000000000000000000000000000000 h) (Sub.refl _) (fun _ => Hub.Same.refl _ _) (by decide)

theorem Hub.swapDone_rd {h : Hub} {n : ℕ} {F : Fld} {iF bF : Nat} (eF : Nat.testBit 0x4000000000000101010100000000000000000000000000000000000000000000 F.kind = false) :
    Hub.rd (Hub.swapDone h n) F iF bF = Hub.rd h F iF bF :=
  Hub.swapDone_same.rd (by decide) F iF bF eF

theorem Hub.srcOffIn_canon {h : Hub} {n : ℕ} {tok : ℕ} (H : Hub.Canon h) : Hub.Canon (Hub.srcOffIn h n tok) :=
  Hub.srcOffIn_keeps (bears_canon 0x40000040800280200000000000c000001000000101010100000000000000010000000000000000000100010402) (Sub.refl _) H

theorem Hub.srcOffIn_same {h : Hub} {n : ℕ} {tok : ℕ} : Hub.Same 0x40000040800280200000000000c000001000000101010100000000000000010000000000000000000100010402 h (Hub.srcOffIn h n tok) :=
  Hub.srcOffIn_keeps (bears_same 0x40000040800280200000000000c000001000000101010100000000000000010000000000000000000100010402 h) (Sub.refl _) (fun _ => Hub.Same.refl _ _) (by decide)

theorem Hub.yieldCable_canon {h : Hub} {n : ℕ} (H : Hub.Canon h) : Hub.Canon (Hub.yieldCable h n) :=
  Hub.yieldCable_keeps (bears_canon 0x101010100000000000000000000000000000000000000000000) (Sub.refl _) H

theorem Hub.yieldCable_same {h : Hub} {n : ℕ} : Hub.Same 0x101010100000000000000000000000000000000000000000000 h (Hub.yieldCable h n) :=
  Hub.yieldCable_keeps (bears_same 0x101010100000000000000000000000000000000000000000000 h) (Sub.refl _) (fun _ => Hub.Same.refl _ _) (by decide)

theorem Hub.yieldCable_rd {h : Hub} {n : ℕ} {F : Fld} {iF bF : Nat} (eF : Nat.testBit 0x101010100000000000000000000000000000000000000000000 F.kind = false) :
    Hub.rd (Hub.yieldCable h n) F iF bF = Hub.rd h F iF bF :=
  Hub.yieldCable_same.rd (by decide) F iF bF eF

theorem Hub.srcOnIn_canon {h : Hub} {n : ℕ} {tok : ℕ} {fast : Bool} (H : Hub.Canon h) : Hub.Canon (Hub.srcOnIn h n tok fast) :=
  Hub.srcOnIn_keeps (bears_canon 0x40000040800280200000000000c000001000000101010100000000000000010000000000000000000100010402) (Sub.refl _) H

theorem Hub.srcOnIn_same {h : Hub} {n : ℕ} {tok : ℕ} {fast : Bool} : Hub.Same 0x40000040800280200000000000c000001000000101010100000000000000010000000000000000000100010402 h (Hub.srcOnIn h n tok fast) :=
  Hub.srcOnIn_keeps (bears_same 0x40000040800280200000000000c000001000000101010100000000000000010000000000000000000100010402 h) (Sub.refl _) (fun _ => Hub.Same.refl _ _) (by decide)

theorem Hub.stepTime_canon {h : Hub} {d : ℤ} (H : Hub.Canon h) : Hub.Canon (Hub.stepTime h d) :=
  Hub.stepTime_keeps (bears_canon 0x1) (Sub.refl _) H

theorem Hub.stepTime_same {h : Hub} {d : ℤ} : Hub.Same 0x1 h (Hub.stepTime h d) :=
  Hub.stepTime_keeps (bears_same 0x1 h) (Sub.refl _) (fun _ => Hub.Same.refl _ _) (by decide)

theorem Hub.stepTime_rd {h : Hub} {d : ℤ} {F : Fld} {iF bF : Nat} (eF : Nat.testBit 0x1 F.kind = false) :
    Hub.rd (Hub.stepTime h d) F iF bF = Hub.rd h F iF bF :=
  Hub.stepTime_same.rd (by decide) F iF bF eF

theorem Hub.steer_canon {h : Hub} {offset : ℤ} {period : ℕ} (H : Hub.Canon h) : Hub.Canon (Hub.steer h offset period) :=
  Hub.steer_keeps (bears_canon 0x2800000000000004000000000000000000000000000000000010100000000000000000000000401) (Sub.refl _) H

theorem Hub.steer_same {h : Hub} {offset : ℤ} {period : ℕ} : Hub.Same 0x2800000000000004000000000000000000000000000000000010100000000000000000000000401 h (Hub.steer h offset period) :=
  Hub.steer_keeps (bears_same 0x2800000000000004000000000000000000000000000000000010100000000000000000000000401 h) (Sub.refl _) (fun _ => Hub.Same.refl _ _) (by decide)

theorem Hub.steer_rd {h : Hub} {offset : ℤ} {period : ℕ} {F : Fld} {iF bF : Nat} (eF : Nat.testBit 0x2800000000000004000000000000000000000000000000000010100000000000000000000000401 F.kind = false) :
    Hub.rd (Hub.steer h offset period) F iF bF = Hub.rd h F iF bF :=
  Hub.steer_same.rd (by decide) F iF bF eF

theorem Hub.stepPreset_canon {h : Hub} {l : ℕ} (H : Hub.Canon h) : Hub.Canon (Hub.stepPreset h l) :=
  Hub.stepPreset_keeps (bears_canon 0x100000000) (Sub.refl _) H

theorem Hub.stepPreset_same {h : Hub} {l : ℕ} : Hub.Same 0x100000000 h (Hub.stepPreset h l) :=
  Hub.stepPreset_keeps (bears_same 0x100000000 h) (Sub.refl _) (fun _ => Hub.Same.refl _ _) (by decide)

theorem Hub.stepPreset_rd {h : Hub} {l : ℕ} {F : Fld} {iF bF : Nat} (eF : Nat.testBit 0x100000000 F.kind = false) :
    Hub.rd (Hub.stepPreset h l) F iF bF = Hub.rd h F iF bF :=
  Hub.stepPreset_same.rd (by decide) F iF bF eF

theorem Hub.streamCycle_canon {s : ℕ} {h : Hub} (H : Hub.Canon h) : Hub.Canon (Hub.streamCycle s h) :=
  Hub.streamCycle_keeps (bears_canon 0x100005fa80800000000000400000000000000000000000000000000081030100010b030000000000000404) (Sub.refl _) H

theorem Hub.streamCycle_same {s : ℕ} {h : Hub} : Hub.Same 0x100005fa80800000000000400000000000000000000000000000000081030100010b030000000000000404 h (Hub.streamCycle s h) :=
  Hub.streamCycle_keeps (bears_same 0x100005fa80800000000000400000000000000000000000000000000081030100010b030000000000000404 h) (Sub.refl _) (fun _ => Hub.Same.refl _ _) (by decide)

theorem Hub.streamCycle_rd {s : ℕ} {h : Hub} {F : Fld} {iF bF : Nat} (eF : Nat.testBit 0x100005fa80800000000000400000000000000000000000000000000081030100010b030000000000000404 F.kind = false) :
    Hub.rd (Hub.streamCycle s h) F iF bF = Hub.rd h F iF bF :=
  Hub.streamCycle_same.rd (by decide) F iF bF eF

theorem Hub.swapStart_canon {h : Hub} {n : ℕ} (H : Hub.Canon h) : Hub.Canon (Hub.swapStart h n) :=
  Hub.swapStart_keeps (bears_canon 0x400000000000000000000000004000000000000101010100000000000000000000000000000000000000000000) (Sub.refl _) H

theorem Hub.swapStart_same {h : Hub} {n : ℕ} : Hub.Same 0x400000000000000000000000004000000000000101010100000000000000000000000000000000000000000000 h (Hub.swapStart h n) :=
  Hub.swapStart_keeps (bears_same 0x400000000000000000000000004000000000000101010100000000000000000000000000000000000000000000 h) (Sub.refl _) (fun _ => Hub.Same.refl _ _) (by decide)

theorem Hub.swapStart_rd {h : Hub} {n : ℕ} {F : Fld} {iF bF : Nat} (eF : Nat.testBit 0x400000000000000000000000004000000000000101010100000000000000000000000000000000000000000000 F.kind = false) :
    Hub.rd (Hub.swapStart h n) F iF bF = Hub.rd h F iF bF :=
  Hub.swapStart_same.rd (by decide) F iF bF eF

theorem Hub.swapReqIn_canon {h : Hub} {n : ℕ} {tok : ℕ} {pwr : ℕ} (H : Hub.Canon h) : Hub.Canon (Hub.swapReqIn h n tok pwr) :=
  Hub.swapReqIn_keeps (bears_canon 0x40000040800280200000000000c000001000000101010100000000000000010000000000000000000100010402) (Sub.refl _) H

theorem Hub.swapReqIn_same {h : Hub} {n : ℕ} {tok : ℕ} {pwr : ℕ} : Hub.Same 0x40000040800280200000000000c000001000000101010100000000000000010000000000000000000100010402 h (Hub.swapReqIn h n tok pwr) :=
  Hub.swapReqIn_keeps (bears_same 0x40000040800280200000000000c000001000000101010100000000000000010000000000000000000100010402 h) (Sub.refl _) (fun _ => Hub.Same.refl _ _) (by decide)

theorem Hub.tagIn_canon {h : Hub} {p : ℕ} {tag : Bytes} (H : Hub.Canon h) : Hub.Canon (Hub.tagIn h p tag) :=
  Hub.tagIn_keeps (bears_canon 0xb987aa80200000000000c00060100000000000000000000000000001030200010f030000000100014402) (Sub.refl _) H

theorem Hub.tagIn_same {h : Hub} {p : ℕ} {tag : Bytes} : Hub.Same 0xb987aa80200000000000c00060100000000000000000000000000001030200010f030000000100014402 h (Hub.tagIn h p tag) :=
  Hub.tagIn_keeps (bears_same 0xb987aa80200000000000c00060100000000000000000000000000001030200010f030000000100014402 h) (Sub.refl _) (fun _ => Hub.Same.refl _ _) (by decide)

theorem Hub.takeAnswer_canon {h : Hub} {src : ℕ} {tok : ℕ} {status : ℕ} {typ : ℕ} (H : Hub.Canon h) : Hub.Canon (Hub.takeAnswer h src tok status typ) :=
  Hub.takeAnswer_keeps (bears_canon 0x4000000000049808800000000000004000000000000000000000000000000000000100000000010000000000000000) (Sub.refl _) H

theorem Hub.takeAnswer_same {h : Hub} {src : ℕ} {tok : ℕ} {status : ℕ} {typ : ℕ} : Hub.Same 0x4000000000049808800000000000004000000000000000000000000000000000000100000000010000000000000000 h (Hub.takeAnswer h src tok status typ) :=
  Hub.takeAnswer_keeps (bears_same 0x4000000000049808800000000000004000000000000000000000000000000000000100000000010000000000000000 h) (Sub.refl _) (fun _ => Hub.Same.refl _ _) (by decide)

theorem Hub.takeAnswer_rd {h : Hub} {src : ℕ} {tok : ℕ} {status : ℕ} {typ : ℕ} {F : Fld} {iF bF : Nat} (eF : Nat.testBit 0x4000000000049808800000000000004000000000000000000000000000000000000100000000010000000000000000 F.kind = false) :
    Hub.rd (Hub.takeAnswer h src tok status typ) F iF bF = Hub.rd h F iF bF :=
  Hub.takeAnswer_same.rd (by decide) F iF bF eF

theorem Hub.takeover_canon {h : Hub} (H : Hub.Canon h) : Hub.Canon (Hub.takeover h) :=
  Hub.takeover_keeps (bears_canon 0x800000000000880a800000000000004000480000000000000000000000000000010102000000030000000000000400) (Sub.refl _) H

theorem Hub.takeover_same {h : Hub} : Hub.Same 0x800000000000880a800000000000004000480000000000000000000000000000010102000000030000000000000400 h (Hub.takeover h) :=
  Hub.takeover_keeps (bears_same 0x800000000000880a800000000000004000480000000000000000000000000000010102000000030000000000000400 h) (Sub.refl _) (fun _ => Hub.Same.refl _ _) (by decide)

theorem Hub.takeover_rd {h : Hub} {F : Fld} {iF bF : Nat} (eF : Nat.testBit 0x800000000000880a800000000000004000480000000000000000000000000000010102000000030000000000000400 F.kind = false) :
    Hub.rd (Hub.takeover h) F iF bF = Hub.rd h F iF bF :=
  Hub.takeover_same.rd (by decide) F iF bF eF

theorem Hub.tickBus_canon {h : Hub} (H : Hub.Canon h) : Hub.Canon (Hub.tickBus h) :=
  Hub.tickBus_keeps (bears_canon 0x40000000000000000000000000000000000000000) (Sub.refl _) H

theorem Hub.tickBus_same {h : Hub} : Hub.Same 0x40000000000000000000000000000000000000000 h (Hub.tickBus h) :=
  Hub.tickBus_keeps (bears_same 0x40000000000000000000000000000000000000000 h) (Sub.refl _) (fun _ => Hub.Same.refl _ _) (by decide)

theorem Hub.tickBus_rd {h : Hub} {F : Fld} {iF bF : Nat} (eF : Nat.testBit 0x40000000000000000000000000000000000000000 F.kind = false) :
    Hub.rd (Hub.tickBus h) F iF bF = Hub.rd h F iF bF :=
  Hub.tickBus_same.rd (by decide) F iF bF eF

theorem Hub.tickTel_canon {h : Hub} (H : Hub.Canon h) : Hub.Canon (Hub.tickTel h) :=
  Hub.tickTel_keeps (bears_canon 0x800000000000000000000000000000000000000000000000000000000000000000000000000040) (Sub.refl _) H

theorem Hub.tickTel_same {h : Hub} : Hub.Same 0x800000000000000000000000000000000000000000000000000000000000000000000000000040 h (Hub.tickTel h) :=
  Hub.tickTel_keeps (bears_same 0x800000000000000000000000000000000000000000000000000000000000000000000000000040 h) (Sub.refl _) (fun _ => Hub.Same.refl _ _) (by decide)

theorem Hub.tickTel_rd {h : Hub} {F : Fld} {iF bF : Nat} (eF : Nat.testBit 0x800000000000000000000000000000000000000000000000000000000000000000000000000040 F.kind = false) :
    Hub.rd (Hub.tickTel h) F iF bF = Hub.rd h F iF bF :=
  Hub.tickTel_same.rd (by decide) F iF bF eF

theorem Hub.tickMs_canon {h : Hub} (H : Hub.Canon h) : Hub.Canon (Hub.tickMs h) :=
  Hub.tickMs_keeps (bears_canon 0x1808800000000000000000000000000000000000000000000000000102000000010000000100000000) (Sub.refl _) H

theorem Hub.tickMs_same {h : Hub} : Hub.Same 0x1808800000000000000000000000000000000000000000000000000102000000010000000100000000 h (Hub.tickMs h) :=
  Hub.tickMs_keeps (bears_same 0x1808800000000000000000000000000000000000000000000000000102000000010000000100000000 h) (Sub.refl _) (fun _ => Hub.Same.refl _ _) (by decide)

theorem Hub.tickMs_rd {h : Hub} {F : Fld} {iF bF : Nat} (eF : Nat.testBit 0x1808800000000000000000000000000000000000000000000000000102000000010000000100000000 F.kind = false) :
    Hub.rd (Hub.tickMs h) F iF bF = Hub.rd h F iF bF :=
  Hub.tickMs_same.rd (by decide) F iF bF eF

theorem Hub.tickAon_canon {h : Hub} (H : Hub.Canon h) : Hub.Canon (Hub.tickAon h) :=
  Hub.tickAon_keeps (bears_canon 0x8) (Sub.refl _) H

theorem Hub.tickAon_same {h : Hub} : Hub.Same 0x8 h (Hub.tickAon h) :=
  Hub.tickAon_keeps (bears_same 0x8 h) (Sub.refl _) (fun _ => Hub.Same.refl _ _) (by decide)

theorem Hub.tickAon_rd {h : Hub} {F : Fld} {iF bF : Nat} (eF : Nat.testBit 0x8 F.kind = false) :
    Hub.rd (Hub.tickAon h) F iF bF = Hub.rd h F iF bF :=
  Hub.tickAon_same.rd (by decide) F iF bF eF

theorem Hub.tickTime_canon {h : Hub} (H : Hub.Canon h) : Hub.Canon (Hub.tickTime h) :=
  Hub.tickTime_keeps (bears_canon 0x100000000000000000000000001) (Sub.refl _) H

theorem Hub.tickTime_same {h : Hub} : Hub.Same 0x100000000000000000000000001 h (Hub.tickTime h) :=
  Hub.tickTime_keeps (bears_same 0x100000000000000000000000001 h) (Sub.refl _) (fun _ => Hub.Same.refl _ _) (by decide)

theorem Hub.tickTime_rd {h : Hub} {F : Fld} {iF bF : Nat} (eF : Nat.testBit 0x100000000000000000000000001 F.kind = false) :
    Hub.rd (Hub.tickTime h) F iF bF = Hub.rd h F iF bF :=
  Hub.tickTime_same.rd (by decide) F iF bF eF

theorem Hub.tickTimer_canon {t : ℕ} {h : Hub} (H : Hub.Canon h) : Hub.Canon (Hub.tickTimer t h) :=
  Hub.tickTimer_keeps (bears_canon 0x20000000000000000000000000000000000000000000000000000) (Sub.refl _) H

theorem Hub.tickTimer_same {t : ℕ} {h : Hub} : Hub.Same 0x20000000000000000000000000000000000000000000000000000 h (Hub.tickTimer t h) :=
  Hub.tickTimer_keeps (bears_same 0x20000000000000000000000000000000000000000000000000000 h) (Sub.refl _) (fun _ => Hub.Same.refl _ _) (by decide)

theorem Hub.tickTimer_rd {t : ℕ} {h : Hub} {F : Fld} {iF bF : Nat} (eF : Nat.testBit 0x20000000000000000000000000000000000000000000000000000 F.kind = false) :
    Hub.rd (Hub.tickTimer t h) F iF bF = Hub.rd h F iF bF :=
  Hub.tickTimer_same.rd (by decide) F iF bF eF

theorem Hub.tickHead_canon {n : ℕ} {h : Hub} (H : Hub.Canon h) : Hub.Canon (Hub.tickHead n h) :=
  Hub.tickHead_keeps (bears_canon 0x2800000000000004000000000000000000000000000010000030000000000000000000000000402) (Sub.refl _) H

theorem Hub.tickHead_same {n : ℕ} {h : Hub} : Hub.Same 0x2800000000000004000000000000000000000000000010000030000000000000000000000000402 h (Hub.tickHead n h) :=
  Hub.tickHead_keeps (bears_same 0x2800000000000004000000000000000000000000000010000030000000000000000000000000402 h) (Sub.refl _) (fun _ => Hub.Same.refl _ _) (by decide)

theorem Hub.tickHead_rd {n : ℕ} {h : Hub} {F : Fld} {iF bF : Nat} (eF : Nat.testBit 0x2800000000000004000000000000000000000000000010000030000000000000000000000000402 F.kind = false) :
    Hub.rd (Hub.tickHead n h) F iF bF = Hub.rd h F iF bF :=
  Hub.tickHead_same.rd (by decide) F iF bF eF

theorem Hub.tickCa_canon {n : ℕ} {h : Hub} (H : Hub.Canon h) : Hub.Canon (Hub.tickCa n h) :=
  Hub.tickCa_keeps (bears_canon 0x100000000000000000000000000000000000000000000) (Sub.refl _) H

theorem Hub.tickCa_same {n : ℕ} {h : Hub} : Hub.Same 0x100000000000000000000000000000000000000000000 h (Hub.tickCa n h) :=
  Hub.tickCa_keeps (bears_same 0x100000000000000000000000000000000000000000000 h) (Sub.refl _) (fun _ => Hub.Same.refl _ _) (by decide)

theorem Hub.tickCa_rd {n : ℕ} {h : Hub} {F : Fld} {iF bF : Nat} (eF : Nat.testBit 0x100000000000000000000000000000000000000000000 F.kind = false) :
    Hub.rd (Hub.tickCa n h) F iF bF = Hub.rd h F iF bF :=
  Hub.tickCa_same.rd (by decide) F iF bF eF

theorem Hub.tick_canon {h : Hub} (H : Hub.Canon h) : Hub.Canon (Hub.tick h) :=
  Hub.tick_keeps (bears_canon 0x10800040030401dfac0800000000000400000000002000000010004000001000083030300010b03000000010000044f) (Sub.refl _) H

theorem Hub.tick_same {h : Hub} : Hub.Same 0x10800040030401dfac0800000000000400000000002000000010004000001000083030300010b03000000010000044f h (Hub.tick h) :=
  Hub.tick_keeps (bears_same 0x10800040030401dfac0800000000000400000000002000000010004000001000083030300010b03000000010000044f h) (Sub.refl _) (fun _ => Hub.Same.refl _ _) (by decide)

theorem Hub.tick_rd {h : Hub} {F : Fld} {iF bF : Nat} (eF : Nat.testBit 0x10800040030401dfac0800000000000400000000002000000010004000001000083030300010b03000000010000044f F.kind = false) :
    Hub.rd (Hub.tick h) F iF bF = Hub.rd h F iF bF :=
  Hub.tick_same.rd (by decide) F iF bF eF

theorem Hub.timeIn_canon {h : Hub} {p : ℕ} {payload : Bytes} (H : Hub.Canon h) : Hub.Canon (Hub.timeIn h p payload) :=
  Hub.timeIn_keeps (bears_canon 0x2800000000000004000000000000000000000000000000000010100000000000000000000010401) (Sub.refl _) H

theorem Hub.timeIn_same {h : Hub} {p : ℕ} {payload : Bytes} : Hub.Same 0x2800000000000004000000000000000000000000000000000010100000000000000000000010401 h (Hub.timeIn h p payload) :=
  Hub.timeIn_keeps (bears_same 0x2800000000000004000000000000000000000000000000000010100000000000000000000010401 h) (Sub.refl _) (fun _ => Hub.Same.refl _ _) (by decide)

theorem Hub.timeIn_rd {h : Hub} {p : ℕ} {payload : Bytes} {F : Fld} {iF bF : Nat} (eF : Nat.testBit 0x2800000000000004000000000000000000000000000000000010100000000000000000000010401 F.kind = false) :
    Hub.rd (Hub.timeIn h p payload) F iF bF = Hub.rd h F iF bF :=
  Hub.timeIn_same.rd (by decide) F iF bF eF

theorem Hub.timerExpire_canon {h : Hub} {t : ℕ} (H : Hub.Canon h) : Hub.Canon (Hub.timerExpire h t) :=
  Hub.timerExpire_keeps (bears_canon 0x4000000000020000000000000000000000000000000000000000000000000000) (Sub.refl _) H

theorem Hub.timerExpire_same {h : Hub} {t : ℕ} : Hub.Same 0x4000000000020000000000000000000000000000000000000000000000000000 h (Hub.timerExpire h t) :=
  Hub.timerExpire_keeps (bears_same 0x4000000000020000000000000000000000000000000000000000000000000000 h) (Sub.refl _) (fun _ => Hub.Same.refl _ _) (by decide)

theorem Hub.timerExpire_rd {h : Hub} {t : ℕ} {F : Fld} {iF bF : Nat} (eF : Nat.testBit 0x4000000000020000000000000000000000000000000000000000000000000000 F.kind = false) :
    Hub.rd (Hub.timerExpire h t) F iF bF = Hub.rd h F iF bF :=
  Hub.timerExpire_same.rd (by decide) F iF bF eF

theorem Hub.tjUpdate_canon {h : Hub} {t : ℕ} (H : Hub.Canon h) : Hub.Canon (Hub.tjUpdate h t) :=
  Hub.tjUpdate_keeps (bears_canon 0x2800000000000004000000000000000000000000000000000010000000000000000000000000404) (Sub.refl _) H

theorem Hub.tjUpdate_same {h : Hub} {t : ℕ} : Hub.Same 0x2800000000000004000000000000000000000000000000000010000000000000000000000000404 h (Hub.tjUpdate h t) :=
  Hub.tjUpdate_keeps (bears_same 0x2800000000000004000000000000000000000000000000000010000000000000000000000000404 h) (Sub.refl _) (fun _ => Hub.Same.refl _ _) (by decide)

theorem Hub.tjUpdate_rd {h : Hub} {t : ℕ} {F : Fld} {iF bF : Nat} (eF : Nat.testBit 0x2800000000000004000000000000000000000000000000000010000000000000000000000000404 F.kind = false) :
    Hub.rd (Hub.tjUpdate h t) F iF bF = Hub.rd h F iF bF :=
  Hub.tjUpdate_same.rd (by decide) F iF bF eF

theorem Hub.tsHeard_canon {h : Hub} {l : ℕ} {block : ℕ} {lag : ℕ} (H : Hub.Canon h) : Hub.Canon (Hub.tsHeard h l block lag) :=
  Hub.tsHeard_keeps (bears_canon 0x100010000) (Sub.refl _) H

theorem Hub.tsHeard_same {h : Hub} {l : ℕ} {block : ℕ} {lag : ℕ} : Hub.Same 0x100010000 h (Hub.tsHeard h l block lag) :=
  Hub.tsHeard_keeps (bears_same 0x100010000 h) (Sub.refl _) (fun _ => Hub.Same.refl _ _) (by decide)

theorem Hub.tsHeard_rd {h : Hub} {l : ℕ} {block : ℕ} {lag : ℕ} {F : Fld} {iF bF : Nat} (eF : Nat.testBit 0x100010000 F.kind = false) :
    Hub.rd (Hub.tsHeard h l block lag) F iF bF = Hub.rd h F iF bF :=
  Hub.tsHeard_same.rd (by decide) F iF bF eF

theorem Hub.tsIn_canon {h0 : Hub} {l : ℕ} {inverted : Bool} {block : ℕ} {lag : ℕ} (H : Hub.Canon h0) : Hub.Canon (Hub.tsIn h0 l inverted block lag) :=
  Hub.tsIn_keeps (bears_canon 0x400000b8820a80200000000000c000201000000000000100000000000000010102000000030000000100014402) (Sub.refl _) H

theorem Hub.tsIn_same {h0 : Hub} {l : ℕ} {inverted : Bool} {block : ℕ} {lag : ℕ} : Hub.Same 0x400000b8820a80200000000000c000201000000000000100000000000000010102000000030000000100014402 h0 (Hub.tsIn h0 l inverted block lag) :=
  Hub.tsIn_keeps (bears_same 0x400000b8820a80200000000000c000201000000000000100000000000000010102000000030000000100014402 h0) (Sub.refl _) (fun _ => Hub.Same.refl _ _) (by decide)

theorem Hub.tunAck_canon {h : Hub} {src : ℕ} {tok : ℕ} {status : ℕ} {typ : ℕ} {tid : ℕ} {idx : ℕ} (H : Hub.Canon h) : Hub.Canon (Hub.tunAck h src tok status typ tid idx) :=
  Hub.tunAck_keeps (bears_canon 0x8000000000000000000000000000000000000000000000000000000000000000000000000000000) (Sub.refl _) H

theorem Hub.tunAck_same {h : Hub} {src : ℕ} {tok : ℕ} {status : ℕ} {typ : ℕ} {tid : ℕ} {idx : ℕ} : Hub.Same 0x8000000000000000000000000000000000000000000000000000000000000000000000000000000 h (Hub.tunAck h src tok status typ tid idx) :=
  Hub.tunAck_keeps (bears_same 0x8000000000000000000000000000000000000000000000000000000000000000000000000000000 h) (Sub.refl _) (fun _ => Hub.Same.refl _ _) (by decide)

theorem Hub.tunAck_rd {h : Hub} {src : ℕ} {tok : ℕ} {status : ℕ} {typ : ℕ} {tid : ℕ} {idx : ℕ} {F : Fld} {iF bF : Nat} (eF : Nat.testBit 0x8000000000000000000000000000000000000000000000000000000000000000000000000000000 F.kind = false) :
    Hub.rd (Hub.tunAck h src tok status typ tid idx) F iF bF = Hub.rd h F iF bF :=
  Hub.tunAck_same.rd (by decide) F iF bF eF

theorem Hub.vblank_canon {h : Hub} {n : ℕ} (H : Hub.Canon h) : Hub.Canon (Hub.vblank h n) :=
  Hub.vblank_keeps (bears_canon 0x280a00000000000c000001000000000000000000000010000830000000000000000000000000402) (Sub.refl _) H

theorem Hub.vblank_same {h : Hub} {n : ℕ} : Hub.Same 0x280a00000000000c000001000000000000000000000010000830000000000000000000000000402 h (Hub.vblank h n) :=
  Hub.vblank_keeps (bears_same 0x280a00000000000c000001000000000000000000000010000830000000000000000000000000402 h) (Sub.refl _) (fun _ => Hub.Same.refl _ _) (by decide)

theorem Hub.vbusFault_canon {h : Hub} {k : ℕ} {f : VbusFault} (H : Hub.Canon h) : Hub.Canon (Hub.vbusFault h k f) :=
  Hub.vbusFault_keeps (bears_canon 0x2800000000000004000000000000000000000000000000000010000000000000000000000000400) (Sub.refl _) H

theorem Hub.vbusFault_same {h : Hub} {k : ℕ} {f : VbusFault} : Hub.Same 0x2800000000000004000000000000000000000000000000000010000000000000000000000000400 h (Hub.vbusFault h k f) :=
  Hub.vbusFault_keeps (bears_same 0x2800000000000004000000000000000000000000000000000010000000000000000000000000400 h) (Sub.refl _) (fun _ => Hub.Same.refl _ _) (by decide)

theorem Hub.vbusFault_rd {h : Hub} {k : ℕ} {f : VbusFault} {F : Fld} {iF bF : Nat} (eF : Nat.testBit 0x2800000000000004000000000000000000000000000000000010000000000000000000000000400 F.kind = false) :
    Hub.rd (Hub.vbusFault h k f) F iF bF = Hub.rd h F iF bF :=
  Hub.vbusFault_same.rd (by decide) F iF bF eF

theorem Hub.verifyEnd_canon {h : Hub} (H : Hub.Canon h) : Hub.Canon (Hub.verifyEnd h) :=
  Hub.verifyEnd_keeps (bears_canon 0x2800000000000004000100000000000000000000000000000010000000000000000000000004400) (Sub.refl _) H

theorem Hub.verifyEnd_same {h : Hub} : Hub.Same 0x2800000000000004000100000000000000000000000000000010000000000000000000000004400 h (Hub.verifyEnd h) :=
  Hub.verifyEnd_keeps (bears_same 0x2800000000000004000100000000000000000000000000000010000000000000000000000004400 h) (Sub.refl _) (fun _ => Hub.Same.refl _ _) (by decide)

theorem Hub.verifyEnd_rd {h : Hub} {F : Fld} {iF bF : Nat} (eF : Nat.testBit 0x2800000000000004000100000000000000000000000000000010000000000000000000000004400 F.kind = false) :
    Hub.rd (Hub.verifyEnd h) F iF bF = Hub.rd h F iF bF :=
  Hub.verifyEnd_same.rd (by decide) F iF bF eF

theorem Hub.vidStep_canon {h : Hub} (H : Hub.Canon h) : Hub.Canon (Hub.vidStep h) :=
  Hub.vidStep_keeps (bears_canon 0xa800000000000004000000000000000000000000000000000010000000000010000000000000404) (Sub.refl _) H

theorem Hub.vidStep_same {h : Hub} : Hub.Same 0xa800000000000004000000000000000000000000000000000010000000000010000000000000404 h (Hub.vidStep h) :=
  Hub.vidStep_keeps (bears_same 0xa800000000000004000000000000000000000000000000000010000000000010000000000000404 h) (Sub.refl _) (fun _ => Hub.Same.refl _ _) (by decide)

theorem Hub.vidStep_rd {h : Hub} {F : Fld} {iF bF : Nat} (eF : Nat.testBit 0xa800000000000004000000000000000000000000000000000010000000000010000000000000404 F.kind = false) :
    Hub.rd (Hub.vidStep h) F iF bF = Hub.rd h F iF bF :=
  Hub.vidStep_same.rd (by decide) F iF bF eF

theorem Hub.vmeasUpdate_canon {h : Hub} {mv : ℕ} {minMv : ℕ} (H : Hub.Canon h) : Hub.Canon (Hub.vmeasUpdate h mv minMv) :=
  Hub.vmeasUpdate_keeps (bears_canon 0xa800000000000004000000000000000000000000000000000010000000000010000000000000404) (Sub.refl _) H

theorem Hub.vmeasUpdate_same {h : Hub} {mv : ℕ} {minMv : ℕ} : Hub.Same 0xa800000000000004000000000000000000000000000000000010000000000010000000000000404 h (Hub.vmeasUpdate h mv minMv) :=
  Hub.vmeasUpdate_keeps (bears_same 0xa800000000000004000000000000000000000000000000000010000000000010000000000000404 h) (Sub.refl _) (fun _ => Hub.Same.refl _ _) (by decide)

theorem Hub.vmeasUpdate_rd {h : Hub} {mv : ℕ} {minMv : ℕ} {F : Fld} {iF bF : Nat} (eF : Nat.testBit 0xa800000000000004000000000000000000000000000000000010000000000010000000000000404 F.kind = false) :
    Hub.rd (Hub.vmeasUpdate h mv minMv) F iF bF = Hub.rd h F iF bF :=
  Hub.vmeasUpdate_same.rd (by decide) F iF bF eF

theorem Hub.waitExit_canon {h : Hub} (H : Hub.Canon h) : Hub.Canon (Hub.waitExit h) :=
  Hub.waitExit_keeps (bears_canon 0x2800000000000004000000000000101010100000000000000010000000000000000000000000400) (Sub.refl _) H

theorem Hub.waitExit_same {h : Hub} : Hub.Same 0x2800000000000004000000000000101010100000000000000010000000000000000000000000400 h (Hub.waitExit h) :=
  Hub.waitExit_keeps (bears_same 0x2800000000000004000000000000101010100000000000000010000000000000000000000000400 h) (Sub.refl _) (fun _ => Hub.Same.refl _ _) (by decide)

theorem Hub.waitExit_rd {h : Hub} {F : Fld} {iF bF : Nat} (eF : Nat.testBit 0x2800000000000004000000000000101010100000000000000010000000000000000000000000400 F.kind = false) :
    Hub.rd (Hub.waitExit h) F iF bF = Hub.rd h F iF bF :=
  Hub.waitExit_same.rd (by decide) F iF bF eF

theorem Hub.wckTrack_canon {h : Hub} {b : ℕ} {rdly : ℕ} {wdly : ℕ} {vref : ℕ} (H : Hub.Canon h) : Hub.Canon (Hub.wckTrack h b rdly wdly vref) :=
  Hub.wckTrack_keeps (bears_canon 0x2800000000000004000000000000000000000000000020000010000000000000000000000000400) (Sub.refl _) H

theorem Hub.wckTrack_same {h : Hub} {b : ℕ} {rdly : ℕ} {wdly : ℕ} {vref : ℕ} : Hub.Same 0x2800000000000004000000000000000000000000000020000010000000000000000000000000400 h (Hub.wckTrack h b rdly wdly vref) :=
  Hub.wckTrack_keeps (bears_same 0x2800000000000004000000000000000000000000000020000010000000000000000000000000400 h) (Sub.refl _) (fun _ => Hub.Same.refl _ _) (by decide)

theorem Hub.wckTrack_rd {h : Hub} {b : ℕ} {rdly : ℕ} {wdly : ℕ} {vref : ℕ} {F : Fld} {iF bF : Nat} (eF : Nat.testBit 0x2800000000000004000000000000000000000000000020000010000000000000000000000000400 F.kind = false) :
    Hub.rd (Hub.wckTrack h b rdly wdly vref) F iF bF = Hub.rd h F iF bF :=
  Hub.wckTrack_same.rd (by decide) F iF bF eF

theorem Hub.wheelStep_canon {h : Hub} {e : ℕ} (H : Hub.Canon h) : Hub.Canon (Hub.wheelStep h e) :=
  Hub.wheelStep_keeps (bears_canon 0x100000000000000000000) (Sub.refl _) H

theorem Hub.wheelStep_same {h : Hub} {e : ℕ} : Hub.Same 0x100000000000000000000 h (Hub.wheelStep h e) :=
  Hub.wheelStep_keeps (bears_same 0x100000000000000000000 h) (Sub.refl _) (fun _ => Hub.Same.refl _ _) (by decide)

theorem Hub.wheelStep_rd {h : Hub} {e : ℕ} {F : Fld} {iF bF : Nat} (eF : Nat.testBit 0x100000000000000000000 F.kind = false) :
    Hub.rd (Hub.wheelStep h e) F iF bF = Hub.rd h F iF bF :=
  Hub.wheelStep_same.rd (by decide) F iF bF eF

theorem Hub.widthAckIn_canon {h : Hub} {p : ℕ} {tok : ℕ} {status : ℕ} (H : Hub.Canon h) : Hub.Canon (Hub.widthAckIn h p tok status) :=
  Hub.widthAckIn_keeps (bears_canon 0x10000) (Sub.refl _) H

theorem Hub.widthAckIn_same {h : Hub} {p : ℕ} {tok : ℕ} {status : ℕ} : Hub.Same 0x10000 h (Hub.widthAckIn h p tok status) :=
  Hub.widthAckIn_keeps (bears_same 0x10000 h) (Sub.refl _) (fun _ => Hub.Same.refl _ _) (by decide)

theorem Hub.widthAckIn_rd {h : Hub} {p : ℕ} {tok : ℕ} {status : ℕ} {F : Fld} {iF bF : Nat} (eF : Nat.testBit 0x10000 F.kind = false) :
    Hub.rd (Hub.widthAckIn h p tok status) F iF bF = Hub.rd h F iF bF :=
  Hub.widthAckIn_same.rd (by decide) F iF bF eF

theorem Hub.widthReqIn_canon {h : Hub} {p : ℕ} {tok : ℕ} {mask : ℕ} (H : Hub.Canon h) : Hub.Canon (Hub.widthReqIn h p tok mask) :=
  Hub.widthReqIn_keeps (bears_canon 0x8000000000000000000000000000000000000000000000000000000000000000000000000000010000) (Sub.refl _) H

theorem Hub.widthReqIn_same {h : Hub} {p : ℕ} {tok : ℕ} {mask : ℕ} : Hub.Same 0x8000000000000000000000000000000000000000000000000000000000000000000000000000010000 h (Hub.widthReqIn h p tok mask) :=
  Hub.widthReqIn_keeps (bears_same 0x8000000000000000000000000000000000000000000000000000000000000000000000000000010000 h) (Sub.refl _) (fun _ => Hub.Same.refl _ _) (by decide)

theorem Hub.widthReqIn_rd {h : Hub} {p : ℕ} {tok : ℕ} {mask : ℕ} {F : Fld} {iF bF : Nat} (eF : Nat.testBit 0x8000000000000000000000000000000000000000000000000000000000000000000000000000010000 F.kind = false) :
    Hub.rd (Hub.widthReqIn h p tok mask) F iF bF = Hub.rd h F iF bF :=
  Hub.widthReqIn_same.rd (by decide) F iF bF eF

end Sys2Proof.Machine
end

