-- ==== Sys2Proof/Laws/State.lean ====
section
/-! SUPPORT. Laws of the state: what a read gives after each update of one field, all true by unfolding, and a register read
after a register write. -/

namespace Sys2Proof.Machine

/-! ### The state -/

@[simp] theorem State.with_hub_hub (s : State) (h : Hub) : ({ s with hub := h } : State).hub = h := (rfl)
@[simp] theorem State.with_hub_pending (s : State) (h : Hub) : ({ s with hub := h } : State).pending = s.pending := (rfl)
@[simp] theorem State.with_pending_hub (s : State) (q : List Instr) : ({ s with pending := q } : State).hub = s.hub := (rfl)
@[simp] theorem State.with_pending_pending (s : State) (q : List Instr) : ({ s with pending := q } : State).pending = q := (rfl)
@[simp] theorem State.act_eq (s : State) (f : Hub → Hub) : s.act f = .next { s with hub := f s.hub } := (rfl)

/-! ### Lists after a register write -/

@[simp] theorem Hub.wr_shadow (h : Hub) (F : Fld) (v i b : Nat) : (h.wr F v i b).shadow = h.shadow := (rfl)
@[simp] theorem Hub.wr_ret (h : Hub) (F : Fld) (v i b : Nat) : (h.wr F v i b).ret = h.ret := (rfl)
@[simp] theorem Hub.wr_tab (h : Hub) (F : Fld) (v i b : Nat) : (h.wr F v i b).tab = h.tab := (rfl)
@[simp] theorem Hub.wr_staging (h : Hub) (F : Fld) (v i b : Nat) : (h.wr F v i b).staging = h.staging := (rfl)
@[simp] theorem Hub.wr_latch64 (h : Hub) (F : Fld) (v i b : Nat) : (h.wr F v i b).latch64 = h.latch64 := (rfl)
@[simp] theorem Hub.wr_tabLatch (h : Hub) (F : Fld) (v i b : Nat) : (h.wr F v i b).tabLatch = h.tabLatch := (rfl)
@[simp] theorem Hub.wr_resp (h : Hub) (F : Fld) (v i b : Nat) : (h.wr F v i b).resp = h.resp := (rfl)
@[simp] theorem Hub.wr_fmem (h : Hub) (F : Fld) (v i b : Nat) : (h.wr F v i b).fmem = h.fmem := (rfl)
@[simp] theorem Hub.wr_cfg (h : Hub) (F : Fld) (v i b : Nat) : (h.wr F v i b).cfg = h.cfg := (rfl)
@[simp] theorem Hub.wr_cyc (h : Hub) (F : Fld) (v i b : Nat) : (h.wr F v i b).cyc = h.cyc := (rfl)
@[simp] theorem Hub.wr_freeIx (h : Hub) (F : Fld) (v i b : Nat) : (h.wr F v i b).freeIx = h.freeIx := (rfl)
@[simp] theorem Hub.wr_filWin (h : Hub) (F : Fld) (v i b : Nat) : (h.wr F v i b).filWin = h.filWin := (rfl)
@[simp] theorem Hub.wr_lkQueue (h : Hub) (F : Fld) (v i b : Nat) : (h.wr F v i b).lkQueue = h.lkQueue := (rfl)
@[simp] theorem Hub.wr_lkRing (h : Hub) (F : Fld) (v i b : Nat) : (h.wr F v i b).lkRing = h.lkRing := (rfl)
@[simp] theorem Hub.wr_ctlOut (h : Hub) (F : Fld) (v i b : Nat) : (h.wr F v i b).ctlOut = h.ctlOut := (rfl)
@[simp] theorem Hub.wr_meters (h : Hub) (F : Fld) (v i b : Nat) : (h.wr F v i b).meters = h.meters := (rfl)
@[simp] theorem Hub.wr_pkts (h : Hub) (F : Fld) (v i b : Nat) : (h.wr F v i b).pkts = h.pkts := (rfl)
@[simp] theorem Hub.wr_pktNext (h : Hub) (F : Fld) (v i b : Nat) : (h.wr F v i b).pktNext = h.pktNext := (rfl)
@[simp] theorem Hub.wr_opens (h : Hub) (F : Fld) (v i b : Nat) : (h.wr F v i b).opens = h.opens := (rfl)
@[simp] theorem Hub.wr_queues (h : Hub) (F : Fld) (v i b : Nat) : (h.wr F v i b).queues = h.queues := (rfl)
@[simp] theorem Hub.wr_egOut (h : Hub) (F : Fld) (v i b : Nat) : (h.wr F v i b).egOut = h.egOut := (rfl)
@[simp] theorem Hub.wr_shapers (h : Hub) (F : Fld) (v i b : Nat) : (h.wr F v i b).shapers = h.shapers := (rfl)
@[simp] theorem Hub.wr_asks (h : Hub) (F : Fld) (v i b : Nat) : (h.wr F v i b).asks = h.asks := (rfl)
@[simp] theorem Hub.wr_changes (h : Hub) (F : Fld) (v i b : Nat) : (h.wr F v i b).changes = h.changes := (rfl)
@[simp] theorem Hub.wr_unrec (h : Hub) (F : Fld) (v i b : Nat) : (h.wr F v i b).unrec = h.unrec := (rfl)
@[simp] theorem Hub.wr_intents (h : Hub) (F : Fld) (v i b : Nat) : (h.wr F v i b).intents = h.intents := (rfl)
@[simp] theorem Hub.wr_lmcQ (h : Hub) (F : Fld) (v i b : Nat) : (h.wr F v i b).lmcQ = h.lmcQ := (rfl)
@[simp] theorem Hub.wr_nbrs (h : Hub) (F : Fld) (v i b : Nat) : (h.wr F v i b).nbrs = h.nbrs := (rfl)
@[simp] theorem Hub.wr_granted (h : Hub) (F : Fld) (v i b : Nat) : (h.wr F v i b).granted = h.granted := (rfl)
@[simp] theorem Hub.wr_ready (h : Hub) (F : Fld) (v i b : Nat) : (h.wr F v i b).ready = h.ready := (rfl)
@[simp] theorem Hub.wr_replay (h : Hub) (F : Fld) (v i b : Nat) : (h.wr F v i b).replay = h.replay := (rfl)
@[simp] theorem Hub.wr_spanRx (h : Hub) (F : Fld) (v i b : Nat) : (h.wr F v i b).spanRx = h.spanRx := (rfl)
@[simp] theorem Hub.wr_spanTx (h : Hub) (F : Fld) (v i b : Nat) : (h.wr F v i b).spanTx = h.spanTx := (rfl)
@[simp] theorem Hub.wr_wire (h : Hub) (F : Fld) (v i b : Nat) : (h.wr F v i b).wire = h.wire := (rfl)
@[simp] theorem Hub.wr_capRx (h : Hub) (F : Fld) (v i b : Nat) : (h.wr F v i b).capRx = h.capRx := (rfl)
@[simp] theorem Hub.wr_keys (h : Hub) (F : Fld) (v i b : Nat) : (h.wr F v i b).keys = h.keys := (rfl)
@[simp] theorem Hub.wr_gaps (h : Hub) (F : Fld) (v i b : Nat) : (h.wr F v i b).gaps = h.gaps := (rfl)
@[simp] theorem Hub.wr_repairs (h : Hub) (F : Fld) (v i b : Nat) : (h.wr F v i b).repairs = h.repairs := (rfl)
@[simp] theorem Hub.wr_tileDone (h : Hub) (F : Fld) (v i b : Nat) : (h.wr F v i b).tileDone = h.tileDone := (rfl)
@[simp] theorem Hub.wr_tileOut (h : Hub) (F : Fld) (v i b : Nat) : (h.wr F v i b).tileOut = h.tileOut := (rfl)
@[simp] theorem Hub.wr_txbOut (h : Hub) (F : Fld) (v i b : Nat) : (h.wr F v i b).txbOut = h.txbOut := (rfl)
@[simp] theorem Hub.wr_tags (h : Hub) (F : Fld) (v i b : Nat) : (h.wr F v i b).tags = h.tags := (rfl)
@[simp] theorem Hub.wr_rdWait (h : Hub) (F : Fld) (v i b : Nat) : (h.wr F v i b).rdWait = h.rdWait := (rfl)
@[simp] theorem Hub.wr_reads (h : Hub) (F : Fld) (v i b : Nat) : (h.wr F v i b).reads = h.reads := (rfl)
@[simp] theorem Hub.wr_rdAns (h : Hub) (F : Fld) (v i b : Nat) : (h.wr F v i b).rdAns = h.rdAns := (rfl)
@[simp] theorem Hub.wr_land (h : Hub) (F : Fld) (v i b : Nat) : (h.wr F v i b).land = h.land := (rfl)
@[simp] theorem Hub.wr_rdIn (h : Hub) (F : Fld) (v i b : Nat) : (h.wr F v i b).rdIn = h.rdIn := (rfl)
@[simp] theorem Hub.wr_rdBus (h : Hub) (F : Fld) (v i b : Nat) : (h.wr F v i b).rdBus = h.rdBus := (rfl)
@[simp] theorem Hub.wr_pfifo (h : Hub) (F : Fld) (v i b : Nat) : (h.wr F v i b).pfifo = h.pfifo := (rfl)
@[simp] theorem Hub.wr_pcieOut (h : Hub) (F : Fld) (v i b : Nat) : (h.wr F v i b).pcieOut = h.pcieOut := (rfl)
@[simp] theorem Hub.wr_msixOut (h : Hub) (F : Fld) (v i b : Nat) : (h.wr F v i b).msixOut = h.msixOut := (rfl)
@[simp] theorem Hub.wr_ethOut (h : Hub) (F : Fld) (v i b : Nat) : (h.wr F v i b).ethOut = h.ethOut := (rfl)
@[simp] theorem Hub.wr_lumeOut (h : Hub) (F : Fld) (v i b : Nat) : (h.wr F v i b).lumeOut = h.lumeOut := (rfl)
@[simp] theorem Hub.wr_usbOut (h : Hub) (F : Fld) (v i b : Nat) : (h.wr F v i b).usbOut = h.usbOut := (rfl)
@[simp] theorem Hub.wr_usbFly (h : Hub) (F : Fld) (v i b : Nat) : (h.wr F v i b).usbFly = h.usbFly := (rfl)
@[simp] theorem Hub.wr_usbHeld (h : Hub) (F : Fld) (v i b : Nat) : (h.wr F v i b).usbHeld = h.usbHeld := (rfl)
@[simp] theorem Hub.wr_udfOut (h : Hub) (F : Fld) (v i b : Nat) : (h.wr F v i b).udfOut = h.udfOut := (rfl)
@[simp] theorem Hub.wr_claspAsk (h : Hub) (F : Fld) (v i b : Nat) : (h.wr F v i b).claspAsk = h.claspAsk := (rfl)
@[simp] theorem Hub.wr_pdOut (h : Hub) (F : Fld) (v i b : Nat) : (h.wr F v i b).pdOut = h.pdOut := (rfl)
@[simp] theorem Hub.wr_root (h : Hub) (F : Fld) (v i b : Nat) : (h.wr F v i b).root = h.root := (rfl)
@[simp] theorem Hub.wr_ephemeral (h : Hub) (F : Fld) (v i b : Nat) : (h.wr F v i b).ephemeral = h.ephemeral := (rfl)
@[simp] theorem Hub.wr_agree (h : Hub) (F : Fld) (v i b : Nat) : (h.wr F v i b).agree = h.agree := (rfl)
@[simp] theorem Hub.wr_recs (h : Hub) (F : Fld) (v i b : Nat) : (h.wr F v i b).recs = h.recs := (rfl)
@[simp] theorem Hub.wr_marks (h : Hub) (F : Fld) (v i b : Nat) : (h.wr F v i b).marks = h.marks := (rfl)
@[simp] theorem Hub.wr_signers (h : Hub) (F : Fld) (v i b : Nat) : (h.wr F v i b).signers = h.signers := (rfl)
@[simp] theorem Hub.wr_flash (h : Hub) (F : Fld) (v i b : Nat) : (h.wr F v i b).flash = h.flash := (rfl)
@[simp] theorem Hub.wr_blk (h : Hub) (F : Fld) (v i b : Nat) : (h.wr F v i b).blk = h.blk := (rfl)
@[simp] theorem Hub.wr_landed (h : Hub) (F : Fld) (v i b : Nat) : (h.wr F v i b).landed = h.landed := (rfl)
@[simp] theorem Hub.wr_clear (h : Hub) (F : Fld) (v i b : Nat) : (h.wr F v i b).clear = h.clear := (rfl)
@[simp] theorem Hub.wr_landing (h : Hub) (F : Fld) (v i b : Nat) : (h.wr F v i b).landing = h.landing := (rfl)
@[simp] theorem Hub.wr_telOut (h : Hub) (F : Fld) (v i b : Nat) : (h.wr F v i b).telOut = h.telOut := (rfl)
@[simp] theorem Hub.wr_mgpResp (h : Hub) (F : Fld) (v i b : Nat) : (h.wr F v i b).mgpResp = h.mgpResp := (rfl)
@[simp] theorem Hub.wr_mgpRead (h : Hub) (F : Fld) (v i b : Nat) : (h.wr F v i b).mgpRead = h.mgpRead := (rfl)
@[simp] theorem Hub.wr_paths (h : Hub) (F : Fld) (v i b : Nat) : (h.wr F v i b).paths = h.paths := (rfl)
@[simp] theorem Hub.wr_settles (h : Hub) (F : Fld) (v i b : Nat) : (h.wr F v i b).settles = h.settles := (rfl)
@[simp] theorem Hub.wr_stalled (h : Hub) (F : Fld) (v i b : Nat) : (h.wr F v i b).stalled = h.stalled := (rfl)

/-! ### Registers after a change of a list -/

@[simp] theorem Hub.rd_with_shadow (h : Hub) (x : Tab Nat) (F : Fld) (i b : Nat) : ({ h with shadow := x } : Hub).rd F i b = h.rd F i b := (rfl)
@[simp] theorem Hub.rd_with_ret (h : Hub) (x : Tab Nat) (F : Fld) (i b : Nat) : ({ h with ret := x } : Hub).rd F i b = h.rd F i b := (rfl)
@[simp] theorem Hub.rd_with_tab (h : Hub) (x : Tab Nat) (F : Fld) (i b : Nat) : ({ h with tab := x } : Hub).rd F i b = h.rd F i b := (rfl)
@[simp] theorem Hub.rd_with_staging (h : Hub) (x : Tab Staging) (F : Fld) (i b : Nat) : ({ h with staging := x } : Hub).rd F i b = h.rd F i b := (rfl)
@[simp] theorem Hub.rd_with_latch64 (h : Hub) (x : Tab Latch64) (F : Fld) (i b : Nat) : ({ h with latch64 := x } : Hub).rd F i b = h.rd F i b := (rfl)
@[simp] theorem Hub.rd_with_tabLatch (h : Hub) (x : Tab TabLatch) (F : Fld) (i b : Nat) : ({ h with tabLatch := x } : Hub).rd F i b = h.rd F i b := (rfl)
@[simp] theorem Hub.rd_with_resp (h : Hub) (x : Tab Resp) (F : Fld) (i b : Nat) : ({ h with resp := x } : Hub).rd F i b = h.rd F i b := (rfl)
@[simp] theorem Hub.rd_with_fmem (h : Hub) (x : Tab Byte) (F : Fld) (i b : Nat) : ({ h with fmem := x } : Hub).rd F i b = h.rd F i b := (rfl)
@[simp] theorem Hub.rd_with_cfg (h : Hub) (x : Tab Nat) (F : Fld) (i b : Nat) : ({ h with cfg := x } : Hub).rd F i b = h.rd F i b := (rfl)
@[simp] theorem Hub.rd_with_cyc (h : Hub) (x : Nat) (F : Fld) (i b : Nat) : ({ h with cyc := x } : Hub).rd F i b = h.rd F i b := (rfl)
@[simp] theorem Hub.rd_with_freeIx (h : Hub) (x : Nat) (F : Fld) (i b : Nat) : ({ h with freeIx := x } : Hub).rd F i b = h.rd F i b := (rfl)
@[simp] theorem Hub.rd_with_filWin (h : Hub) (x : List (Nat × Nat)) (F : Fld) (i b : Nat) : ({ h with filWin := x } : Hub).rd F i b = h.rd F i b := (rfl)
@[simp] theorem Hub.rd_with_lkQueue (h : Hub) (x : List LkRec) (F : Fld) (i b : Nat) : ({ h with lkQueue := x } : Hub).rd F i b = h.rd F i b := (rfl)
@[simp] theorem Hub.rd_with_lkRing (h : Hub) (x : Tab Bytes) (F : Fld) (i b : Nat) : ({ h with lkRing := x } : Hub).rd F i b = h.rd F i b := (rfl)
@[simp] theorem Hub.rd_with_ctlOut (h : Hub) (x : List CtlMsg) (F : Fld) (i b : Nat) : ({ h with ctlOut := x } : Hub).rd F i b = h.rd F i b := (rfl)
@[simp] theorem Hub.rd_with_meters (h : Hub) (x : Tab Meter) (F : Fld) (i b : Nat) : ({ h with meters := x } : Hub).rd F i b = h.rd F i b := (rfl)
@[simp] theorem Hub.rd_with_pkts (h : Hub) (x : Tab Pkt) (F : Fld) (i b : Nat) : ({ h with pkts := x } : Hub).rd F i b = h.rd F i b := (rfl)
@[simp] theorem Hub.rd_with_pktNext (h : Hub) (x : Nat) (F : Fld) (i b : Nat) : ({ h with pktNext := x } : Hub).rd F i b = h.rd F i b := (rfl)
@[simp] theorem Hub.rd_with_opens (h : Hub) (x : Tab OpenPk) (F : Fld) (i b : Nat) : ({ h with opens := x } : Hub).rd F i b = h.rd F i b := (rfl)
@[simp] theorem Hub.rd_with_queues (h : Hub) (x : Tab (List Nat)) (F : Fld) (i b : Nat) : ({ h with queues := x } : Hub).rd F i b = h.rd F i b := (rfl)
@[simp] theorem Hub.rd_with_egOut (h : Hub) (x : Tab (List OutCell)) (F : Fld) (i b : Nat) : ({ h with egOut := x } : Hub).rd F i b = h.rd F i b := (rfl)
@[simp] theorem Hub.rd_with_shapers (h : Hub) (x : Tab Shaper) (F : Fld) (i b : Nat) : ({ h with shapers := x } : Hub).rd F i b = h.rd F i b := (rfl)
@[simp] theorem Hub.rd_with_asks (h : Hub) (x : Tab Ask) (F : Fld) (i b : Nat) : ({ h with asks := x } : Hub).rd F i b = h.rd F i b := (rfl)
@[simp] theorem Hub.rd_with_changes (h : Hub) (x : Tab Change) (F : Fld) (i b : Nat) : ({ h with changes := x } : Hub).rd F i b = h.rd F i b := (rfl)
@[simp] theorem Hub.rd_with_unrec (h : Hub) (x : List Unrec) (F : Fld) (i b : Nat) : ({ h with unrec := x } : Hub).rd F i b = h.rd F i b := (rfl)
@[simp] theorem Hub.rd_with_intents (h : Hub) (x : List Intent) (F : Fld) (i b : Nat) : ({ h with intents := x } : Hub).rd F i b = h.rd F i b := (rfl)
@[simp] theorem Hub.rd_with_lmcQ (h : Hub) (x : Tab (List Lmc)) (F : Fld) (i b : Nat) : ({ h with lmcQ := x } : Hub).rd F i b = h.rd F i b := (rfl)
@[simp] theorem Hub.rd_with_nbrs (h : Hub) (x : Tab Nbr) (F : Fld) (i b : Nat) : ({ h with nbrs := x } : Hub).rd F i b = h.rd F i b := (rfl)
@[simp] theorem Hub.rd_with_granted (h : Hub) (x : Tab (Nat × Nat)) (F : Fld) (i b : Nat) : ({ h with granted := x } : Hub).rd F i b = h.rd F i b := (rfl)
@[simp] theorem Hub.rd_with_ready (h : Hub) (x : Tab NodeInfo) (F : Fld) (i b : Nat) : ({ h with ready := x } : Hub).rd F i b = h.rd F i b := (rfl)
@[simp] theorem Hub.rd_with_replay (h : Hub) (x : Tab (List RFrame)) (F : Fld) (i b : Nat) : ({ h with replay := x } : Hub).rd F i b = h.rd F i b := (rfl)
@[simp] theorem Hub.rd_with_spanRx (h : Hub) (x : Tab (List RFrame)) (F : Fld) (i b : Nat) : ({ h with spanRx := x } : Hub).rd F i b = h.rd F i b := (rfl)
@[simp] theorem Hub.rd_with_spanTx (h : Hub) (x : Tab (Bytes × Bytes)) (F : Fld) (i b : Nat) : ({ h with spanTx := x } : Hub).rd F i b = h.rd F i b := (rfl)
@[simp] theorem Hub.rd_with_wire (h : Hub) (x : Tab (List Wire)) (F : Fld) (i b : Nat) : ({ h with wire := x } : Hub).rd F i b = h.rd F i b := (rfl)
@[simp] theorem Hub.rd_with_capRx (h : Hub) (x : Tab Bytes) (F : Fld) (i b : Nat) : ({ h with capRx := x } : Hub).rd F i b = h.rd F i b := (rfl)
@[simp] theorem Hub.rd_with_keys (h : Hub) (x : Tab Bytes) (F : Fld) (i b : Nat) : ({ h with keys := x } : Hub).rd F i b = h.rd F i b := (rfl)
@[simp] theorem Hub.rd_with_gaps (h : Hub) (x : Tab (List (Nat × Nat))) (F : Fld) (i b : Nat) : ({ h with gaps := x } : Hub).rd F i b = h.rd F i b := (rfl)
@[simp] theorem Hub.rd_with_repairs (h : Hub) (x : Tab (List (Nat × Nat))) (F : Fld) (i b : Nat) : ({ h with repairs := x } : Hub).rd F i b = h.rd F i b := (rfl)
@[simp] theorem Hub.rd_with_tileDone (h : Hub) (x : Tab (List Nat)) (F : Fld) (i b : Nat) : ({ h with tileDone := x } : Hub).rd F i b = h.rd F i b := (rfl)
@[simp] theorem Hub.rd_with_tileOut (h : Hub) (x : Tab (List TilePkt)) (F : Fld) (i b : Nat) : ({ h with tileOut := x } : Hub).rd F i b = h.rd F i b := (rfl)
@[simp] theorem Hub.rd_with_txbOut (h : Hub) (x : List TxbMsg) (F : Fld) (i b : Nat) : ({ h with txbOut := x } : Hub).rd F i b = h.rd F i b := (rfl)
@[simp] theorem Hub.rd_with_tags (h : Hub) (x : Tab TxbTag) (F : Fld) (i b : Nat) : ({ h with tags := x } : Hub).rd F i b = h.rd F i b := (rfl)
@[simp] theorem Hub.rd_with_rdWait (h : Hub) (x : List TxbPiece) (F : Fld) (i b : Nat) : ({ h with rdWait := x } : Hub).rd F i b = h.rd F i b := (rfl)
@[simp] theorem Hub.rd_with_reads (h : Hub) (x : Tab TxbRead) (F : Fld) (i b : Nat) : ({ h with reads := x } : Hub).rd F i b = h.rd F i b := (rfl)
@[simp] theorem Hub.rd_with_rdAns (h : Hub) (x : List TxbAns) (F : Fld) (i b : Nat) : ({ h with rdAns := x } : Hub).rd F i b = h.rd F i b := (rfl)
@[simp] theorem Hub.rd_with_land (h : Hub) (x : List TxbIn) (F : Fld) (i b : Nat) : ({ h with land := x } : Hub).rd F i b = h.rd F i b := (rfl)
@[simp] theorem Hub.rd_with_rdIn (h : Hub) (x : List TxbIn) (F : Fld) (i b : Nat) : ({ h with rdIn := x } : Hub).rd F i b = h.rd F i b := (rfl)
@[simp] theorem Hub.rd_with_rdBus (h : Hub) (x : List TxbIn) (F : Fld) (i b : Nat) : ({ h with rdBus := x } : Hub).rd F i b = h.rd F i b := (rfl)
@[simp] theorem Hub.rd_with_pfifo (h : Hub) (x : List TxbErr) (F : Fld) (i b : Nat) : ({ h with pfifo := x } : Hub).rd F i b = h.rd F i b := (rfl)
@[simp] theorem Hub.rd_with_pcieOut (h : Hub) (x : List PcieReq) (F : Fld) (i b : Nat) : ({ h with pcieOut := x } : Hub).rd F i b = h.rd F i b := (rfl)
@[simp] theorem Hub.rd_with_msixOut (h : Hub) (x : List Nat) (F : Fld) (i b : Nat) : ({ h with msixOut := x } : Hub).rd F i b = h.rd F i b := (rfl)
@[simp] theorem Hub.rd_with_ethOut (h : Hub) (x : Tab (List Bytes)) (F : Fld) (i b : Nat) : ({ h with ethOut := x } : Hub).rd F i b = h.rd F i b := (rfl)
@[simp] theorem Hub.rd_with_lumeOut (h : Hub) (x : Tab (List Bytes)) (F : Fld) (i b : Nat) : ({ h with lumeOut := x } : Hub).rd F i b = h.rd F i b := (rfl)
@[simp] theorem Hub.rd_with_usbOut (h : Hub) (x : List (Nat × UsbPkt)) (F : Fld) (i b : Nat) : ({ h with usbOut := x } : Hub).rd F i b = h.rd F i b := (rfl)
@[simp] theorem Hub.rd_with_usbFly (h : Hub) (x : List UsbFlight) (F : Fld) (i b : Nat) : ({ h with usbFly := x } : Hub).rd F i b = h.rd F i b := (rfl)
@[simp] theorem Hub.rd_with_usbHeld (h : Hub) (x : Tab UsbHeld) (F : Fld) (i b : Nat) : ({ h with usbHeld := x } : Hub).rd F i b = h.rd F i b := (rfl)
@[simp] theorem Hub.rd_with_udfOut (h : Hub) (x : List (Nat × Bytes)) (F : Fld) (i b : Nat) : ({ h with udfOut := x } : Hub).rd F i b = h.rd F i b := (rfl)
@[simp] theorem Hub.rd_with_claspAsk (h : Hub) (x : Tab ClaspAsk) (F : Fld) (i b : Nat) : ({ h with claspAsk := x } : Hub).rd F i b = h.rd F i b := (rfl)
@[simp] theorem Hub.rd_with_pdOut (h : Hub) (x : Tab (List PdOut)) (F : Fld) (i b : Nat) : ({ h with pdOut := x } : Hub).rd F i b = h.rd F i b := (rfl)
@[simp] theorem Hub.rd_with_root (h : Hub) (x : Bytes) (F : Fld) (i b : Nat) : ({ h with root := x } : Hub).rd F i b = h.rd F i b := (rfl)
@[simp] theorem Hub.rd_with_ephemeral (h : Hub) (x : Bytes) (F : Fld) (i b : Nat) : ({ h with ephemeral := x } : Hub).rd F i b = h.rd F i b := (rfl)
@[simp] theorem Hub.rd_with_agree (h : Hub) (x : Bytes) (F : Fld) (i b : Nat) : ({ h with agree := x } : Hub).rd F i b = h.rd F i b := (rfl)
@[simp] theorem Hub.rd_with_recs (h : Hub) (x : Tab Bytes) (F : Fld) (i b : Nat) : ({ h with recs := x } : Hub).rd F i b = h.rd F i b := (rfl)
@[simp] theorem Hub.rd_with_marks (h : Hub) (x : Tab Nat) (F : Fld) (i b : Nat) : ({ h with marks := x } : Hub).rd F i b = h.rd F i b := (rfl)
@[simp] theorem Hub.rd_with_signers (h : Hub) (x : Tab Bytes) (F : Fld) (i b : Nat) : ({ h with signers := x } : Hub).rd F i b = h.rd F i b := (rfl)
@[simp] theorem Hub.rd_with_flash (h : Hub) (x : Tab Byte) (F : Fld) (i b : Nat) : ({ h with flash := x } : Hub).rd F i b = h.rd F i b := (rfl)
@[simp] theorem Hub.rd_with_blk (h : Hub) (x : List Nat) (F : Fld) (i b : Nat) : ({ h with blk := x } : Hub).rd F i b = h.rd F i b := (rfl)
@[simp] theorem Hub.rd_with_landed (h : Hub) (x : Tab Nat) (F : Fld) (i b : Nat) : ({ h with landed := x } : Hub).rd F i b = h.rd F i b := (rfl)
@[simp] theorem Hub.rd_with_clear (h : Hub) (x : Bytes) (F : Fld) (i b : Nat) : ({ h with clear := x } : Hub).rd F i b = h.rd F i b := (rfl)
@[simp] theorem Hub.rd_with_landing (h : Hub) (x : List Nat) (F : Fld) (i b : Nat) : ({ h with landing := x } : Hub).rd F i b = h.rd F i b := (rfl)
@[simp] theorem Hub.rd_with_telOut (h : Hub) (x : List (Nat × Bytes)) (F : Fld) (i b : Nat) : ({ h with telOut := x } : Hub).rd F i b = h.rd F i b := (rfl)
@[simp] theorem Hub.rd_with_mgpResp (h : Hub) (x : Bytes) (F : Fld) (i b : Nat) : ({ h with mgpResp := x } : Hub).rd F i b = h.rd F i b := (rfl)
@[simp] theorem Hub.rd_with_mgpRead (h : Hub) (x : Bytes) (F : Fld) (i b : Nat) : ({ h with mgpRead := x } : Hub).rd F i b = h.rd F i b := (rfl)
@[simp] theorem Hub.rd_with_paths (h : Hub) (x : Tab Path) (F : Fld) (i b : Nat) : ({ h with paths := x } : Hub).rd F i b = h.rd F i b := (rfl)
@[simp] theorem Hub.rd_with_settles (h : Hub) (x : List Settle) (F : Fld) (i b : Nat) : ({ h with settles := x } : Hub).rd F i b = h.rd F i b := (rfl)
@[simp] theorem Hub.rd_with_stalled (h : Hub) (x : Tab (List Cell)) (F : Fld) (i b : Nat) : ({ h with stalled := x } : Hub).rd F i b = h.rd F i b := (rfl)

/-! ### The answer of the window and the 64-bit latch -/

@[simp] theorem Hub.answer_regs (h : Hub) (m : MasterId) (a : Resp) : (h.answer m a).regs = h.regs := (rfl)
@[simp] theorem Hub.answer_shadow (h : Hub) (m : MasterId) (a : Resp) : (h.answer m a).shadow = h.shadow := (rfl)
@[simp] theorem Hub.answer_ret (h : Hub) (m : MasterId) (a : Resp) : (h.answer m a).ret = h.ret := (rfl)
@[simp] theorem Hub.answer_tab (h : Hub) (m : MasterId) (a : Resp) : (h.answer m a).tab = h.tab := (rfl)
@[simp] theorem Hub.answer_staging (h : Hub) (m : MasterId) (a : Resp) : (h.answer m a).staging = h.staging := (rfl)
@[simp] theorem Hub.answer_latch64 (h : Hub) (m : MasterId) (a : Resp) : (h.answer m a).latch64 = h.latch64 := (rfl)
@[simp] theorem Hub.answer_tabLatch (h : Hub) (m : MasterId) (a : Resp) : (h.answer m a).tabLatch = h.tabLatch := (rfl)
@[simp] theorem Hub.answer_fmem (h : Hub) (m : MasterId) (a : Resp) : (h.answer m a).fmem = h.fmem := (rfl)
@[simp] theorem Hub.answer_cfg (h : Hub) (m : MasterId) (a : Resp) : (h.answer m a).cfg = h.cfg := (rfl)
@[simp] theorem Hub.answer_cyc (h : Hub) (m : MasterId) (a : Resp) : (h.answer m a).cyc = h.cyc := (rfl)
@[simp] theorem Hub.answer_freeIx (h : Hub) (m : MasterId) (a : Resp) : (h.answer m a).freeIx = h.freeIx := (rfl)
@[simp] theorem Hub.answer_filWin (h : Hub) (m : MasterId) (a : Resp) : (h.answer m a).filWin = h.filWin := (rfl)
@[simp] theorem Hub.answer_lkQueue (h : Hub) (m : MasterId) (a : Resp) : (h.answer m a).lkQueue = h.lkQueue := (rfl)
@[simp] theorem Hub.answer_lkRing (h : Hub) (m : MasterId) (a : Resp) : (h.answer m a).lkRing = h.lkRing := (rfl)
@[simp] theorem Hub.answer_ctlOut (h : Hub) (m : MasterId) (a : Resp) : (h.answer m a).ctlOut = h.ctlOut := (rfl)
@[simp] theorem Hub.answer_meters (h : Hub) (m : MasterId) (a : Resp) : (h.answer m a).meters = h.meters := (rfl)
@[simp] theorem Hub.answer_pkts (h : Hub) (m : MasterId) (a : Resp) : (h.answer m a).pkts = h.pkts := (rfl)
@[simp] theorem Hub.answer_pktNext (h : Hub) (m : MasterId) (a : Resp) : (h.answer m a).pktNext = h.pktNext := (rfl)
@[simp] theorem Hub.answer_opens (h : Hub) (m : MasterId) (a : Resp) : (h.answer m a).opens = h.opens := (rfl)
@[simp] theorem Hub.answer_queues (h : Hub) (m : MasterId) (a : Resp) : (h.answer m a).queues = h.queues := (rfl)
@[simp] theorem Hub.answer_egOut (h : Hub) (m : MasterId) (a : Resp) : (h.answer m a).egOut = h.egOut := (rfl)
@[simp] theorem Hub.answer_shapers (h : Hub) (m : MasterId) (a : Resp) : (h.answer m a).shapers = h.shapers := (rfl)
@[simp] theorem Hub.answer_asks (h : Hub) (m : MasterId) (a : Resp) : (h.answer m a).asks = h.asks := (rfl)
@[simp] theorem Hub.answer_changes (h : Hub) (m : MasterId) (a : Resp) : (h.answer m a).changes = h.changes := (rfl)
@[simp] theorem Hub.answer_unrec (h : Hub) (m : MasterId) (a : Resp) : (h.answer m a).unrec = h.unrec := (rfl)
@[simp] theorem Hub.answer_intents (h : Hub) (m : MasterId) (a : Resp) : (h.answer m a).intents = h.intents := (rfl)
@[simp] theorem Hub.answer_lmcQ (h : Hub) (m : MasterId) (a : Resp) : (h.answer m a).lmcQ = h.lmcQ := (rfl)
@[simp] theorem Hub.answer_nbrs (h : Hub) (m : MasterId) (a : Resp) : (h.answer m a).nbrs = h.nbrs := (rfl)
@[simp] theorem Hub.answer_granted (h : Hub) (m : MasterId) (a : Resp) : (h.answer m a).granted = h.granted := (rfl)
@[simp] theorem Hub.answer_ready (h : Hub) (m : MasterId) (a : Resp) : (h.answer m a).ready = h.ready := (rfl)
@[simp] theorem Hub.answer_replay (h : Hub) (m : MasterId) (a : Resp) : (h.answer m a).replay = h.replay := (rfl)
@[simp] theorem Hub.answer_spanRx (h : Hub) (m : MasterId) (a : Resp) : (h.answer m a).spanRx = h.spanRx := (rfl)
@[simp] theorem Hub.answer_spanTx (h : Hub) (m : MasterId) (a : Resp) : (h.answer m a).spanTx = h.spanTx := (rfl)
@[simp] theorem Hub.answer_wire (h : Hub) (m : MasterId) (a : Resp) : (h.answer m a).wire = h.wire := (rfl)
@[simp] theorem Hub.answer_capRx (h : Hub) (m : MasterId) (a : Resp) : (h.answer m a).capRx = h.capRx := (rfl)
@[simp] theorem Hub.answer_keys (h : Hub) (m : MasterId) (a : Resp) : (h.answer m a).keys = h.keys := (rfl)
@[simp] theorem Hub.answer_gaps (h : Hub) (m : MasterId) (a : Resp) : (h.answer m a).gaps = h.gaps := (rfl)
@[simp] theorem Hub.answer_repairs (h : Hub) (m : MasterId) (a : Resp) : (h.answer m a).repairs = h.repairs := (rfl)
@[simp] theorem Hub.answer_tileDone (h : Hub) (m : MasterId) (a : Resp) : (h.answer m a).tileDone = h.tileDone := (rfl)
@[simp] theorem Hub.answer_tileOut (h : Hub) (m : MasterId) (a : Resp) : (h.answer m a).tileOut = h.tileOut := (rfl)
@[simp] theorem Hub.answer_txbOut (h : Hub) (m : MasterId) (a : Resp) : (h.answer m a).txbOut = h.txbOut := (rfl)
@[simp] theorem Hub.answer_tags (h : Hub) (m : MasterId) (a : Resp) : (h.answer m a).tags = h.tags := (rfl)
@[simp] theorem Hub.answer_rdWait (h : Hub) (m : MasterId) (a : Resp) : (h.answer m a).rdWait = h.rdWait := (rfl)
@[simp] theorem Hub.answer_reads (h : Hub) (m : MasterId) (a : Resp) : (h.answer m a).reads = h.reads := (rfl)
@[simp] theorem Hub.answer_rdAns (h : Hub) (m : MasterId) (a : Resp) : (h.answer m a).rdAns = h.rdAns := (rfl)
@[simp] theorem Hub.answer_land (h : Hub) (m : MasterId) (a : Resp) : (h.answer m a).land = h.land := (rfl)
@[simp] theorem Hub.answer_rdIn (h : Hub) (m : MasterId) (a : Resp) : (h.answer m a).rdIn = h.rdIn := (rfl)
@[simp] theorem Hub.answer_rdBus (h : Hub) (m : MasterId) (a : Resp) : (h.answer m a).rdBus = h.rdBus := (rfl)
@[simp] theorem Hub.answer_pfifo (h : Hub) (m : MasterId) (a : Resp) : (h.answer m a).pfifo = h.pfifo := (rfl)
@[simp] theorem Hub.answer_pcieOut (h : Hub) (m : MasterId) (a : Resp) : (h.answer m a).pcieOut = h.pcieOut := (rfl)
@[simp] theorem Hub.answer_msixOut (h : Hub) (m : MasterId) (a : Resp) : (h.answer m a).msixOut = h.msixOut := (rfl)
@[simp] theorem Hub.answer_ethOut (h : Hub) (m : MasterId) (a : Resp) : (h.answer m a).ethOut = h.ethOut := (rfl)
@[simp] theorem Hub.answer_lumeOut (h : Hub) (m : MasterId) (a : Resp) : (h.answer m a).lumeOut = h.lumeOut := (rfl)
@[simp] theorem Hub.answer_usbOut (h : Hub) (m : MasterId) (a : Resp) : (h.answer m a).usbOut = h.usbOut := (rfl)
@[simp] theorem Hub.answer_usbFly (h : Hub) (m : MasterId) (a : Resp) : (h.answer m a).usbFly = h.usbFly := (rfl)
@[simp] theorem Hub.answer_usbHeld (h : Hub) (m : MasterId) (a : Resp) : (h.answer m a).usbHeld = h.usbHeld := (rfl)
@[simp] theorem Hub.answer_udfOut (h : Hub) (m : MasterId) (a : Resp) : (h.answer m a).udfOut = h.udfOut := (rfl)
@[simp] theorem Hub.answer_claspAsk (h : Hub) (m : MasterId) (a : Resp) : (h.answer m a).claspAsk = h.claspAsk := (rfl)
@[simp] theorem Hub.answer_pdOut (h : Hub) (m : MasterId) (a : Resp) : (h.answer m a).pdOut = h.pdOut := (rfl)
@[simp] theorem Hub.answer_root (h : Hub) (m : MasterId) (a : Resp) : (h.answer m a).root = h.root := (rfl)
@[simp] theorem Hub.answer_ephemeral (h : Hub) (m : MasterId) (a : Resp) : (h.answer m a).ephemeral = h.ephemeral := (rfl)
@[simp] theorem Hub.answer_agree (h : Hub) (m : MasterId) (a : Resp) : (h.answer m a).agree = h.agree := (rfl)
@[simp] theorem Hub.answer_recs (h : Hub) (m : MasterId) (a : Resp) : (h.answer m a).recs = h.recs := (rfl)
@[simp] theorem Hub.answer_marks (h : Hub) (m : MasterId) (a : Resp) : (h.answer m a).marks = h.marks := (rfl)
@[simp] theorem Hub.answer_signers (h : Hub) (m : MasterId) (a : Resp) : (h.answer m a).signers = h.signers := (rfl)
@[simp] theorem Hub.answer_flash (h : Hub) (m : MasterId) (a : Resp) : (h.answer m a).flash = h.flash := (rfl)
@[simp] theorem Hub.answer_blk (h : Hub) (m : MasterId) (a : Resp) : (h.answer m a).blk = h.blk := (rfl)
@[simp] theorem Hub.answer_landed (h : Hub) (m : MasterId) (a : Resp) : (h.answer m a).landed = h.landed := (rfl)
@[simp] theorem Hub.answer_clear (h : Hub) (m : MasterId) (a : Resp) : (h.answer m a).clear = h.clear := (rfl)
@[simp] theorem Hub.answer_landing (h : Hub) (m : MasterId) (a : Resp) : (h.answer m a).landing = h.landing := (rfl)
@[simp] theorem Hub.answer_telOut (h : Hub) (m : MasterId) (a : Resp) : (h.answer m a).telOut = h.telOut := (rfl)
@[simp] theorem Hub.answer_mgpResp (h : Hub) (m : MasterId) (a : Resp) : (h.answer m a).mgpResp = h.mgpResp := (rfl)
@[simp] theorem Hub.answer_mgpRead (h : Hub) (m : MasterId) (a : Resp) : (h.answer m a).mgpRead = h.mgpRead := (rfl)
@[simp] theorem Hub.answer_paths (h : Hub) (m : MasterId) (a : Resp) : (h.answer m a).paths = h.paths := (rfl)
@[simp] theorem Hub.answer_settles (h : Hub) (m : MasterId) (a : Resp) : (h.answer m a).settles = h.settles := (rfl)
@[simp] theorem Hub.answer_stalled (h : Hub) (m : MasterId) (a : Resp) : (h.answer m a).stalled = h.stalled := (rfl)
@[simp] theorem Hub.dropLatch_regs (h : Hub) (m : MasterId) : (h.dropLatch m).regs = h.regs := (rfl)
@[simp] theorem Hub.dropLatch_shadow (h : Hub) (m : MasterId) : (h.dropLatch m).shadow = h.shadow := (rfl)
@[simp] theorem Hub.dropLatch_ret (h : Hub) (m : MasterId) : (h.dropLatch m).ret = h.ret := (rfl)
@[simp] theorem Hub.dropLatch_tab (h : Hub) (m : MasterId) : (h.dropLatch m).tab = h.tab := (rfl)
@[simp] theorem Hub.dropLatch_staging (h : Hub) (m : MasterId) : (h.dropLatch m).staging = h.staging := (rfl)
@[simp] theorem Hub.dropLatch_tabLatch (h : Hub) (m : MasterId) : (h.dropLatch m).tabLatch = h.tabLatch := (rfl)
@[simp] theorem Hub.dropLatch_resp (h : Hub) (m : MasterId) : (h.dropLatch m).resp = h.resp := (rfl)
@[simp] theorem Hub.dropLatch_fmem (h : Hub) (m : MasterId) : (h.dropLatch m).fmem = h.fmem := (rfl)
@[simp] theorem Hub.dropLatch_cfg (h : Hub) (m : MasterId) : (h.dropLatch m).cfg = h.cfg := (rfl)
@[simp] theorem Hub.dropLatch_cyc (h : Hub) (m : MasterId) : (h.dropLatch m).cyc = h.cyc := (rfl)
@[simp] theorem Hub.dropLatch_freeIx (h : Hub) (m : MasterId) : (h.dropLatch m).freeIx = h.freeIx := (rfl)
@[simp] theorem Hub.dropLatch_filWin (h : Hub) (m : MasterId) : (h.dropLatch m).filWin = h.filWin := (rfl)
@[simp] theorem Hub.dropLatch_lkQueue (h : Hub) (m : MasterId) : (h.dropLatch m).lkQueue = h.lkQueue := (rfl)
@[simp] theorem Hub.dropLatch_lkRing (h : Hub) (m : MasterId) : (h.dropLatch m).lkRing = h.lkRing := (rfl)
@[simp] theorem Hub.dropLatch_ctlOut (h : Hub) (m : MasterId) : (h.dropLatch m).ctlOut = h.ctlOut := (rfl)
@[simp] theorem Hub.dropLatch_meters (h : Hub) (m : MasterId) : (h.dropLatch m).meters = h.meters := (rfl)
@[simp] theorem Hub.dropLatch_pkts (h : Hub) (m : MasterId) : (h.dropLatch m).pkts = h.pkts := (rfl)
@[simp] theorem Hub.dropLatch_pktNext (h : Hub) (m : MasterId) : (h.dropLatch m).pktNext = h.pktNext := (rfl)
@[simp] theorem Hub.dropLatch_opens (h : Hub) (m : MasterId) : (h.dropLatch m).opens = h.opens := (rfl)
@[simp] theorem Hub.dropLatch_queues (h : Hub) (m : MasterId) : (h.dropLatch m).queues = h.queues := (rfl)
@[simp] theorem Hub.dropLatch_egOut (h : Hub) (m : MasterId) : (h.dropLatch m).egOut = h.egOut := (rfl)
@[simp] theorem Hub.dropLatch_shapers (h : Hub) (m : MasterId) : (h.dropLatch m).shapers = h.shapers := (rfl)
@[simp] theorem Hub.dropLatch_asks (h : Hub) (m : MasterId) : (h.dropLatch m).asks = h.asks := (rfl)
@[simp] theorem Hub.dropLatch_changes (h : Hub) (m : MasterId) : (h.dropLatch m).changes = h.changes := (rfl)
@[simp] theorem Hub.dropLatch_unrec (h : Hub) (m : MasterId) : (h.dropLatch m).unrec = h.unrec := (rfl)
@[simp] theorem Hub.dropLatch_intents (h : Hub) (m : MasterId) : (h.dropLatch m).intents = h.intents := (rfl)
@[simp] theorem Hub.dropLatch_lmcQ (h : Hub) (m : MasterId) : (h.dropLatch m).lmcQ = h.lmcQ := (rfl)
@[simp] theorem Hub.dropLatch_nbrs (h : Hub) (m : MasterId) : (h.dropLatch m).nbrs = h.nbrs := (rfl)
@[simp] theorem Hub.dropLatch_granted (h : Hub) (m : MasterId) : (h.dropLatch m).granted = h.granted := (rfl)
@[simp] theorem Hub.dropLatch_ready (h : Hub) (m : MasterId) : (h.dropLatch m).ready = h.ready := (rfl)
@[simp] theorem Hub.dropLatch_replay (h : Hub) (m : MasterId) : (h.dropLatch m).replay = h.replay := (rfl)
@[simp] theorem Hub.dropLatch_spanRx (h : Hub) (m : MasterId) : (h.dropLatch m).spanRx = h.spanRx := (rfl)
@[simp] theorem Hub.dropLatch_spanTx (h : Hub) (m : MasterId) : (h.dropLatch m).spanTx = h.spanTx := (rfl)
@[simp] theorem Hub.dropLatch_wire (h : Hub) (m : MasterId) : (h.dropLatch m).wire = h.wire := (rfl)
@[simp] theorem Hub.dropLatch_capRx (h : Hub) (m : MasterId) : (h.dropLatch m).capRx = h.capRx := (rfl)
@[simp] theorem Hub.dropLatch_keys (h : Hub) (m : MasterId) : (h.dropLatch m).keys = h.keys := (rfl)
@[simp] theorem Hub.dropLatch_gaps (h : Hub) (m : MasterId) : (h.dropLatch m).gaps = h.gaps := (rfl)
@[simp] theorem Hub.dropLatch_repairs (h : Hub) (m : MasterId) : (h.dropLatch m).repairs = h.repairs := (rfl)
@[simp] theorem Hub.dropLatch_tileDone (h : Hub) (m : MasterId) : (h.dropLatch m).tileDone = h.tileDone := (rfl)
@[simp] theorem Hub.dropLatch_tileOut (h : Hub) (m : MasterId) : (h.dropLatch m).tileOut = h.tileOut := (rfl)
@[simp] theorem Hub.dropLatch_txbOut (h : Hub) (m : MasterId) : (h.dropLatch m).txbOut = h.txbOut := (rfl)
@[simp] theorem Hub.dropLatch_tags (h : Hub) (m : MasterId) : (h.dropLatch m).tags = h.tags := (rfl)
@[simp] theorem Hub.dropLatch_rdWait (h : Hub) (m : MasterId) : (h.dropLatch m).rdWait = h.rdWait := (rfl)
@[simp] theorem Hub.dropLatch_reads (h : Hub) (m : MasterId) : (h.dropLatch m).reads = h.reads := (rfl)
@[simp] theorem Hub.dropLatch_rdAns (h : Hub) (m : MasterId) : (h.dropLatch m).rdAns = h.rdAns := (rfl)
@[simp] theorem Hub.dropLatch_land (h : Hub) (m : MasterId) : (h.dropLatch m).land = h.land := (rfl)
@[simp] theorem Hub.dropLatch_rdIn (h : Hub) (m : MasterId) : (h.dropLatch m).rdIn = h.rdIn := (rfl)
@[simp] theorem Hub.dropLatch_rdBus (h : Hub) (m : MasterId) : (h.dropLatch m).rdBus = h.rdBus := (rfl)
@[simp] theorem Hub.dropLatch_pfifo (h : Hub) (m : MasterId) : (h.dropLatch m).pfifo = h.pfifo := (rfl)
@[simp] theorem Hub.dropLatch_pcieOut (h : Hub) (m : MasterId) : (h.dropLatch m).pcieOut = h.pcieOut := (rfl)
@[simp] theorem Hub.dropLatch_msixOut (h : Hub) (m : MasterId) : (h.dropLatch m).msixOut = h.msixOut := (rfl)
@[simp] theorem Hub.dropLatch_ethOut (h : Hub) (m : MasterId) : (h.dropLatch m).ethOut = h.ethOut := (rfl)
@[simp] theorem Hub.dropLatch_lumeOut (h : Hub) (m : MasterId) : (h.dropLatch m).lumeOut = h.lumeOut := (rfl)
@[simp] theorem Hub.dropLatch_usbOut (h : Hub) (m : MasterId) : (h.dropLatch m).usbOut = h.usbOut := (rfl)
@[simp] theorem Hub.dropLatch_usbFly (h : Hub) (m : MasterId) : (h.dropLatch m).usbFly = h.usbFly := (rfl)
@[simp] theorem Hub.dropLatch_usbHeld (h : Hub) (m : MasterId) : (h.dropLatch m).usbHeld = h.usbHeld := (rfl)
@[simp] theorem Hub.dropLatch_udfOut (h : Hub) (m : MasterId) : (h.dropLatch m).udfOut = h.udfOut := (rfl)
@[simp] theorem Hub.dropLatch_claspAsk (h : Hub) (m : MasterId) : (h.dropLatch m).claspAsk = h.claspAsk := (rfl)
@[simp] theorem Hub.dropLatch_pdOut (h : Hub) (m : MasterId) : (h.dropLatch m).pdOut = h.pdOut := (rfl)
@[simp] theorem Hub.dropLatch_root (h : Hub) (m : MasterId) : (h.dropLatch m).root = h.root := (rfl)
@[simp] theorem Hub.dropLatch_ephemeral (h : Hub) (m : MasterId) : (h.dropLatch m).ephemeral = h.ephemeral := (rfl)
@[simp] theorem Hub.dropLatch_agree (h : Hub) (m : MasterId) : (h.dropLatch m).agree = h.agree := (rfl)
@[simp] theorem Hub.dropLatch_recs (h : Hub) (m : MasterId) : (h.dropLatch m).recs = h.recs := (rfl)
@[simp] theorem Hub.dropLatch_marks (h : Hub) (m : MasterId) : (h.dropLatch m).marks = h.marks := (rfl)
@[simp] theorem Hub.dropLatch_signers (h : Hub) (m : MasterId) : (h.dropLatch m).signers = h.signers := (rfl)
@[simp] theorem Hub.dropLatch_flash (h : Hub) (m : MasterId) : (h.dropLatch m).flash = h.flash := (rfl)
@[simp] theorem Hub.dropLatch_blk (h : Hub) (m : MasterId) : (h.dropLatch m).blk = h.blk := (rfl)
@[simp] theorem Hub.dropLatch_landed (h : Hub) (m : MasterId) : (h.dropLatch m).landed = h.landed := (rfl)
@[simp] theorem Hub.dropLatch_clear (h : Hub) (m : MasterId) : (h.dropLatch m).clear = h.clear := (rfl)
@[simp] theorem Hub.dropLatch_landing (h : Hub) (m : MasterId) : (h.dropLatch m).landing = h.landing := (rfl)
@[simp] theorem Hub.dropLatch_telOut (h : Hub) (m : MasterId) : (h.dropLatch m).telOut = h.telOut := (rfl)
@[simp] theorem Hub.dropLatch_mgpResp (h : Hub) (m : MasterId) : (h.dropLatch m).mgpResp = h.mgpResp := (rfl)
@[simp] theorem Hub.dropLatch_mgpRead (h : Hub) (m : MasterId) : (h.dropLatch m).mgpRead = h.mgpRead := (rfl)
@[simp] theorem Hub.dropLatch_paths (h : Hub) (m : MasterId) : (h.dropLatch m).paths = h.paths := (rfl)
@[simp] theorem Hub.dropLatch_settles (h : Hub) (m : MasterId) : (h.dropLatch m).settles = h.settles := (rfl)
@[simp] theorem Hub.dropLatch_stalled (h : Hub) (m : MasterId) : (h.dropLatch m).stalled = h.stalled := (rfl)
@[simp] theorem Hub.answer_rd (h : Hub) (m : MasterId) (a : Resp) (F : Fld) (i b : Nat) : (h.answer m a).rd F i b = h.rd F i b := (rfl)
@[simp] theorem Hub.dropLatch_rd (h : Hub) (m : MasterId) (F : Fld) (i b : Nat) : (h.dropLatch m).rd F i b = h.rd F i b := (rfl)
@[simp] theorem Hub.written_rd (h : Hub) (r : Req) (f : Hub → Hub) (F : Fld) (i b : Nat) :
    (h.written r f).rd F i b = (f (h.dropLatch r.master)).rd F i b := (rfl)
@[simp] theorem Hub.written_regs (h : Hub) (r : Req) (f : Hub → Hub) : (h.written r f).regs = (f (h.dropLatch r.master)).regs := (rfl)
@[simp] theorem Hub.written_shadow (h : Hub) (r : Req) (f : Hub → Hub) : (h.written r f).shadow = (f (h.dropLatch r.master)).shadow := (rfl)
@[simp] theorem Hub.written_ret (h : Hub) (r : Req) (f : Hub → Hub) : (h.written r f).ret = (f (h.dropLatch r.master)).ret := (rfl)
@[simp] theorem Hub.written_tab (h : Hub) (r : Req) (f : Hub → Hub) : (h.written r f).tab = (f (h.dropLatch r.master)).tab := (rfl)
@[simp] theorem Hub.written_staging (h : Hub) (r : Req) (f : Hub → Hub) : (h.written r f).staging = (f (h.dropLatch r.master)).staging := (rfl)
@[simp] theorem Hub.written_latch64 (h : Hub) (r : Req) (f : Hub → Hub) : (h.written r f).latch64 = (f (h.dropLatch r.master)).latch64 := (rfl)
@[simp] theorem Hub.written_tabLatch (h : Hub) (r : Req) (f : Hub → Hub) : (h.written r f).tabLatch = (f (h.dropLatch r.master)).tabLatch := (rfl)
@[simp] theorem Hub.written_fmem (h : Hub) (r : Req) (f : Hub → Hub) : (h.written r f).fmem = (f (h.dropLatch r.master)).fmem := (rfl)
@[simp] theorem Hub.written_cfg (h : Hub) (r : Req) (f : Hub → Hub) : (h.written r f).cfg = (f (h.dropLatch r.master)).cfg := (rfl)
@[simp] theorem Hub.written_cyc (h : Hub) (r : Req) (f : Hub → Hub) : (h.written r f).cyc = (f (h.dropLatch r.master)).cyc := (rfl)
@[simp] theorem Hub.written_freeIx (h : Hub) (r : Req) (f : Hub → Hub) : (h.written r f).freeIx = (f (h.dropLatch r.master)).freeIx := (rfl)
@[simp] theorem Hub.written_filWin (h : Hub) (r : Req) (f : Hub → Hub) : (h.written r f).filWin = (f (h.dropLatch r.master)).filWin := (rfl)
@[simp] theorem Hub.written_lkQueue (h : Hub) (r : Req) (f : Hub → Hub) : (h.written r f).lkQueue = (f (h.dropLatch r.master)).lkQueue := (rfl)
@[simp] theorem Hub.written_lkRing (h : Hub) (r : Req) (f : Hub → Hub) : (h.written r f).lkRing = (f (h.dropLatch r.master)).lkRing := (rfl)
@[simp] theorem Hub.written_ctlOut (h : Hub) (r : Req) (f : Hub → Hub) : (h.written r f).ctlOut = (f (h.dropLatch r.master)).ctlOut := (rfl)
@[simp] theorem Hub.written_meters (h : Hub) (r : Req) (f : Hub → Hub) : (h.written r f).meters = (f (h.dropLatch r.master)).meters := (rfl)
@[simp] theorem Hub.written_pkts (h : Hub) (r : Req) (f : Hub → Hub) : (h.written r f).pkts = (f (h.dropLatch r.master)).pkts := (rfl)
@[simp] theorem Hub.written_pktNext (h : Hub) (r : Req) (f : Hub → Hub) : (h.written r f).pktNext = (f (h.dropLatch r.master)).pktNext := (rfl)
@[simp] theorem Hub.written_opens (h : Hub) (r : Req) (f : Hub → Hub) : (h.written r f).opens = (f (h.dropLatch r.master)).opens := (rfl)
@[simp] theorem Hub.written_queues (h : Hub) (r : Req) (f : Hub → Hub) : (h.written r f).queues = (f (h.dropLatch r.master)).queues := (rfl)
@[simp] theorem Hub.written_egOut (h : Hub) (r : Req) (f : Hub → Hub) : (h.written r f).egOut = (f (h.dropLatch r.master)).egOut := (rfl)
@[simp] theorem Hub.written_shapers (h : Hub) (r : Req) (f : Hub → Hub) : (h.written r f).shapers = (f (h.dropLatch r.master)).shapers := (rfl)
@[simp] theorem Hub.written_asks (h : Hub) (r : Req) (f : Hub → Hub) : (h.written r f).asks = (f (h.dropLatch r.master)).asks := (rfl)
@[simp] theorem Hub.written_changes (h : Hub) (r : Req) (f : Hub → Hub) : (h.written r f).changes = (f (h.dropLatch r.master)).changes := (rfl)
@[simp] theorem Hub.written_unrec (h : Hub) (r : Req) (f : Hub → Hub) : (h.written r f).unrec = (f (h.dropLatch r.master)).unrec := (rfl)
@[simp] theorem Hub.written_intents (h : Hub) (r : Req) (f : Hub → Hub) : (h.written r f).intents = (f (h.dropLatch r.master)).intents := (rfl)
@[simp] theorem Hub.written_lmcQ (h : Hub) (r : Req) (f : Hub → Hub) : (h.written r f).lmcQ = (f (h.dropLatch r.master)).lmcQ := (rfl)
@[simp] theorem Hub.written_nbrs (h : Hub) (r : Req) (f : Hub → Hub) : (h.written r f).nbrs = (f (h.dropLatch r.master)).nbrs := (rfl)
@[simp] theorem Hub.written_granted (h : Hub) (r : Req) (f : Hub → Hub) : (h.written r f).granted = (f (h.dropLatch r.master)).granted := (rfl)
@[simp] theorem Hub.written_ready (h : Hub) (r : Req) (f : Hub → Hub) : (h.written r f).ready = (f (h.dropLatch r.master)).ready := (rfl)
@[simp] theorem Hub.written_replay (h : Hub) (r : Req) (f : Hub → Hub) : (h.written r f).replay = (f (h.dropLatch r.master)).replay := (rfl)
@[simp] theorem Hub.written_spanRx (h : Hub) (r : Req) (f : Hub → Hub) : (h.written r f).spanRx = (f (h.dropLatch r.master)).spanRx := (rfl)
@[simp] theorem Hub.written_spanTx (h : Hub) (r : Req) (f : Hub → Hub) : (h.written r f).spanTx = (f (h.dropLatch r.master)).spanTx := (rfl)
@[simp] theorem Hub.written_wire (h : Hub) (r : Req) (f : Hub → Hub) : (h.written r f).wire = (f (h.dropLatch r.master)).wire := (rfl)
@[simp] theorem Hub.written_capRx (h : Hub) (r : Req) (f : Hub → Hub) : (h.written r f).capRx = (f (h.dropLatch r.master)).capRx := (rfl)
@[simp] theorem Hub.written_keys (h : Hub) (r : Req) (f : Hub → Hub) : (h.written r f).keys = (f (h.dropLatch r.master)).keys := (rfl)
@[simp] theorem Hub.written_gaps (h : Hub) (r : Req) (f : Hub → Hub) : (h.written r f).gaps = (f (h.dropLatch r.master)).gaps := (rfl)
@[simp] theorem Hub.written_repairs (h : Hub) (r : Req) (f : Hub → Hub) : (h.written r f).repairs = (f (h.dropLatch r.master)).repairs := (rfl)
@[simp] theorem Hub.written_tileDone (h : Hub) (r : Req) (f : Hub → Hub) : (h.written r f).tileDone = (f (h.dropLatch r.master)).tileDone := (rfl)
@[simp] theorem Hub.written_tileOut (h : Hub) (r : Req) (f : Hub → Hub) : (h.written r f).tileOut = (f (h.dropLatch r.master)).tileOut := (rfl)
@[simp] theorem Hub.written_txbOut (h : Hub) (r : Req) (f : Hub → Hub) : (h.written r f).txbOut = (f (h.dropLatch r.master)).txbOut := (rfl)
@[simp] theorem Hub.written_tags (h : Hub) (r : Req) (f : Hub → Hub) : (h.written r f).tags = (f (h.dropLatch r.master)).tags := (rfl)
@[simp] theorem Hub.written_rdWait (h : Hub) (r : Req) (f : Hub → Hub) : (h.written r f).rdWait = (f (h.dropLatch r.master)).rdWait := (rfl)
@[simp] theorem Hub.written_reads (h : Hub) (r : Req) (f : Hub → Hub) : (h.written r f).reads = (f (h.dropLatch r.master)).reads := (rfl)
@[simp] theorem Hub.written_rdAns (h : Hub) (r : Req) (f : Hub → Hub) : (h.written r f).rdAns = (f (h.dropLatch r.master)).rdAns := (rfl)
@[simp] theorem Hub.written_land (h : Hub) (r : Req) (f : Hub → Hub) : (h.written r f).land = (f (h.dropLatch r.master)).land := (rfl)
@[simp] theorem Hub.written_rdIn (h : Hub) (r : Req) (f : Hub → Hub) : (h.written r f).rdIn = (f (h.dropLatch r.master)).rdIn := (rfl)
@[simp] theorem Hub.written_rdBus (h : Hub) (r : Req) (f : Hub → Hub) : (h.written r f).rdBus = (f (h.dropLatch r.master)).rdBus := (rfl)
@[simp] theorem Hub.written_pfifo (h : Hub) (r : Req) (f : Hub → Hub) : (h.written r f).pfifo = (f (h.dropLatch r.master)).pfifo := (rfl)
@[simp] theorem Hub.written_pcieOut (h : Hub) (r : Req) (f : Hub → Hub) : (h.written r f).pcieOut = (f (h.dropLatch r.master)).pcieOut := (rfl)
@[simp] theorem Hub.written_msixOut (h : Hub) (r : Req) (f : Hub → Hub) : (h.written r f).msixOut = (f (h.dropLatch r.master)).msixOut := (rfl)
@[simp] theorem Hub.written_ethOut (h : Hub) (r : Req) (f : Hub → Hub) : (h.written r f).ethOut = (f (h.dropLatch r.master)).ethOut := (rfl)
@[simp] theorem Hub.written_lumeOut (h : Hub) (r : Req) (f : Hub → Hub) : (h.written r f).lumeOut = (f (h.dropLatch r.master)).lumeOut := (rfl)
@[simp] theorem Hub.written_usbOut (h : Hub) (r : Req) (f : Hub → Hub) : (h.written r f).usbOut = (f (h.dropLatch r.master)).usbOut := (rfl)
@[simp] theorem Hub.written_usbFly (h : Hub) (r : Req) (f : Hub → Hub) : (h.written r f).usbFly = (f (h.dropLatch r.master)).usbFly := (rfl)
@[simp] theorem Hub.written_usbHeld (h : Hub) (r : Req) (f : Hub → Hub) : (h.written r f).usbHeld = (f (h.dropLatch r.master)).usbHeld := (rfl)
@[simp] theorem Hub.written_udfOut (h : Hub) (r : Req) (f : Hub → Hub) : (h.written r f).udfOut = (f (h.dropLatch r.master)).udfOut := (rfl)
@[simp] theorem Hub.written_claspAsk (h : Hub) (r : Req) (f : Hub → Hub) : (h.written r f).claspAsk = (f (h.dropLatch r.master)).claspAsk := (rfl)
@[simp] theorem Hub.written_pdOut (h : Hub) (r : Req) (f : Hub → Hub) : (h.written r f).pdOut = (f (h.dropLatch r.master)).pdOut := (rfl)
@[simp] theorem Hub.written_root (h : Hub) (r : Req) (f : Hub → Hub) : (h.written r f).root = (f (h.dropLatch r.master)).root := (rfl)
@[simp] theorem Hub.written_ephemeral (h : Hub) (r : Req) (f : Hub → Hub) : (h.written r f).ephemeral = (f (h.dropLatch r.master)).ephemeral := (rfl)
@[simp] theorem Hub.written_agree (h : Hub) (r : Req) (f : Hub → Hub) : (h.written r f).agree = (f (h.dropLatch r.master)).agree := (rfl)
@[simp] theorem Hub.written_recs (h : Hub) (r : Req) (f : Hub → Hub) : (h.written r f).recs = (f (h.dropLatch r.master)).recs := (rfl)
@[simp] theorem Hub.written_marks (h : Hub) (r : Req) (f : Hub → Hub) : (h.written r f).marks = (f (h.dropLatch r.master)).marks := (rfl)
@[simp] theorem Hub.written_signers (h : Hub) (r : Req) (f : Hub → Hub) : (h.written r f).signers = (f (h.dropLatch r.master)).signers := (rfl)
@[simp] theorem Hub.written_flash (h : Hub) (r : Req) (f : Hub → Hub) : (h.written r f).flash = (f (h.dropLatch r.master)).flash := (rfl)
@[simp] theorem Hub.written_blk (h : Hub) (r : Req) (f : Hub → Hub) : (h.written r f).blk = (f (h.dropLatch r.master)).blk := (rfl)
@[simp] theorem Hub.written_landed (h : Hub) (r : Req) (f : Hub → Hub) : (h.written r f).landed = (f (h.dropLatch r.master)).landed := (rfl)
@[simp] theorem Hub.written_clear (h : Hub) (r : Req) (f : Hub → Hub) : (h.written r f).clear = (f (h.dropLatch r.master)).clear := (rfl)
@[simp] theorem Hub.written_landing (h : Hub) (r : Req) (f : Hub → Hub) : (h.written r f).landing = (f (h.dropLatch r.master)).landing := (rfl)
@[simp] theorem Hub.written_telOut (h : Hub) (r : Req) (f : Hub → Hub) : (h.written r f).telOut = (f (h.dropLatch r.master)).telOut := (rfl)
@[simp] theorem Hub.written_mgpResp (h : Hub) (r : Req) (f : Hub → Hub) : (h.written r f).mgpResp = (f (h.dropLatch r.master)).mgpResp := (rfl)
@[simp] theorem Hub.written_mgpRead (h : Hub) (r : Req) (f : Hub → Hub) : (h.written r f).mgpRead = (f (h.dropLatch r.master)).mgpRead := (rfl)
@[simp] theorem Hub.written_paths (h : Hub) (r : Req) (f : Hub → Hub) : (h.written r f).paths = (f (h.dropLatch r.master)).paths := (rfl)
@[simp] theorem Hub.written_settles (h : Hub) (r : Req) (f : Hub → Hub) : (h.written r f).settles = (f (h.dropLatch r.master)).settles := (rfl)
@[simp] theorem Hub.written_stalled (h : Hub) (r : Req) (f : Hub → Hub) : (h.written r f).stalled = (f (h.dropLatch r.master)).stalled := (rfl)

@[simp] theorem Hub.when_true (h : Hub) (f : Hub → Hub) : h.when true f = f h := (rfl)
@[simp] theorem Hub.when_false (h : Hub) (f : Hub → Hub) : h.when false f = h := (rfl)

/-! ### Registers -/

/-- Where a field lies, whatever its instance and bank: the block's page, the offset and the lowest bit. -/
def Fld.place (F : Fld) : Nat := F.key 0 0 % 2 ^ 28

theorem key_place (F : Fld) (i b : Nat) : F.key i b % 2 ^ 28 = F.place := by
  unfold Fld.place Fld.key
  omega

/-- Fields at different places have different keys. -/
theorem key_ne_of_place {F G : Fld} (h : F.place ≠ G.place) (i b j c : Nat) : F.key i b ≠ G.key j c := by
  have p := key_place F i b
  have q := key_place G j c
  generalize F.key i b = k at p ⊢
  generalize G.key j c = l at q ⊢
  rintro rfl
  exact h (p.symm.trans q)

theorem key_ne_of_word {x y p o l : Nat} (h : x ≠ y) :
    (x * 1024 + p) * 2 ^ 18 + o * 32 + l ≠ (y * 1024 + p) * 2 ^ 18 + o * 32 + l := by omega

/-- Different instances of a field have different keys. -/
theorem key_ne_of_inst {F : Fld} {i b j c : Nat} (h : b * 1024 + i ≠ c * 1024 + j) : F.key i b ≠ F.key j c :=
  key_ne_of_word h

/-- A register read after it is written gives the value, cut to the field. -/
theorem rd_wr_same {h : Hub} (S : Tab.Sorted h.regs) (F : Fld) (v i b : Nat) : (h.wr F v i b).rd F i b = v % 2 ^ F.w := by
  unfold Hub.rd Hub.wr
  exact Tab.get_put_same _ _ _ S

/-- A write leaves the fields at other places alone. -/
theorem rd_wr_place {h : Hub} {F G : Fld} {v i b j c : Nat} (e : F.place ≠ G.place) :
    (h.wr F v i b).rd G j c = h.rd G j c := rd_wr_key (key_ne_of_place e i b j c)

/-- A write leaves the other instances of its field alone. -/
theorem rd_wr_inst {h : Hub} {F : Fld} {v i b j c : Nat} (e : b * 1024 + i ≠ c * 1024 + j) :
    (h.wr F v i b).rd F j c = h.rd F j c := rd_wr_key (key_ne_of_inst e)

theorem sorted_wr {h : Hub} (S : Tab.Sorted h.regs) (F : Fld) (v i b : Nat) : Tab.Sorted (h.wr F v i b).regs :=
  Tab.put_sorted _ _ _ S

/-! ### The access check -/

/-- A granted write carries out its effect. -/
theorem asReg_granted {h : Hub} {r : Req} {F : Fld} {i : Nat} (g : h.Grants r F i) (f : Hub → Hub) :
    h.asReg r F i f = h.written r f := by
  unfold Hub.asReg Hub.asWrite Hub.written
  rw [g.1, g.2]
  rfl

theorem asWrite_granted {h : Hub} {r : Req} {a : Nat} (g : h.GrantsAt r a) (f : Hub → Hub) :
    h.asWrite r a 4 f = h.written r f := by
  unfold Hub.asWrite Hub.written
  rw [g.1, g.2]
  rfl

end Sys2Proof.Machine
end

