-- ==== Sys2Proof/Laws/Complete.lean ====
section
/-! SUPPORT. How a completion is shown: what each shape of a command's meaning comes to, and a register read after the shared
operations that statements speak of. -/

namespace Sys2Proof.Machine

/-! ### Shapes of a meaning -/

theorem completes_act {c : Instr} {s : State} {f : Hub → Hub} {Q : Hub → Prop} (e : exec c s = s.act f) (q : Q (f s.hub)) :
    Completes c s Q := ⟨{ s with hub := f s.hub }, e, rfl, q⟩

theorem completes_when {c : Instr} {s : State} {p : Hub → Bool} {f : Hub → Hub → Hub} {Q : Hub → Prop}
    (e : exec c s = s.act fun h => h.when (p h) (f h)) (hp : p s.hub = true) (q : Q (f s.hub s.hub)) : Completes c s Q :=
  completes_act e (by show Q (s.hub.when (p s.hub) (f s.hub)); rw [hp]; exact q)

theorem completes_reg {c : Instr} {s : State} {r : Req} {F : Fld} {i : Nat} {f : Hub → Hub} {Q : Hub → Prop}
    (e : exec c s = s.act fun h => h.asReg r F i f) (g : s.hub.Grants r F i) (q : Q (s.hub.written r f)) : Completes c s Q :=
  completes_act e (by show Q (s.hub.asReg r F i f); rw [asReg_granted g]; exact q)

theorem completes_write {c : Instr} {s : State} {r : Req} {a : Nat} {f : Hub → Hub} {Q : Hub → Prop}
    (e : exec c s = s.act fun h => h.asWrite r a 4 f) (g : s.hub.GrantsAt r a) (q : Q (s.hub.written r f)) : Completes c s Q :=
  completes_act e (by show Q (s.hub.asWrite r a 4 f); rw [asWrite_granted g]; exact q)

/-- A granted read answers with its words. -/
theorem asRead_granted {h : Hub} {r : Req} {a : Nat} (g : h.GrantsRead r a) (f : Hub → List Nat × Hub) :
    h.asRead r a 4 f = (f (h.dropLatch r.master)).2.answer r.master (.ok (f (h.dropLatch r.master)).1) := by
  unfold Hub.asRead
  rw [g.1, g.2]
  rfl

theorem answer_ok (h : Hub) (m : MasterId) (ws : List Nat) : Tab.get .none (masterNum m) (h.answer m (.ok ws)).resp = .ok ws := by
  unfold Hub.answer Tab.put
  rw [if_neg (by simp)]
  exact Tab.get_ins_same _ _ _ _

/-! ### The canonical form -/

theorem Hub.Canon.wr {h : Hub} (C : h.Canon) {F : Fld} {v i b : Nat} : (h.wr F v i b).Canon :=
  (bears_canon (2 ^ F.kind)).wr (by rw [Nat.testBit_two_pow_self]) C

theorem Hub.Canon.wrBit {h : Hub} (C : h.Canon) {F : Fld} {n : Nat} {v : Bool} {i b : Nat} : (h.wrBit F n v i b).Canon := C.wr
theorem Hub.Canon.cntN {h : Hub} (C : h.Canon) {F : Fld} {n i b : Nat} : (h.cntN F n i b).Canon := C.wr
theorem Hub.Canon.cnt {h : Hub} (C : h.Canon) {F : Fld} {i b : Nat} : (h.cnt F i b).Canon := C.wr
theorem Hub.Canon.dec {h : Hub} (C : h.Canon) {F : Fld} {n i b : Nat} : (h.dec F n i b).Canon := C.wr
theorem Hub.Canon.wrFree {h : Hub} (C : h.Canon) {F : Fld} {i b : Nat} : (h.wrFree F i b).Canon :=
  Hub.Canon.wr (h := { h with freeIx := h.freeIx + 1 }) ⟨C.regs, C.tab, C.fmem⟩
theorem Hub.Canon.dropLatch {h : Hub} (C : h.Canon) {m : MasterId} : (h.dropLatch m).Canon := ⟨C.regs, C.tab, C.fmem⟩

theorem Hub.Canon.answer {h : Hub} (C : h.Canon) {m : MasterId} {a : Resp} : (h.answer m a).Canon := ⟨C.regs, C.tab, C.fmem⟩

theorem Hub.Canon.when {h : Hub} {c : Bool} {f : Hub → Hub} (C : h.Canon) (e : (f h).Canon) : (h.when c f).Canon := by
  cases c
  · exact C
  · exact e

/-! ### Reads -/

theorem Hub.Canon.rd_wr {h : Hub} (C : h.Canon) {F : Fld} {v i b : Nat} : (h.wr F v i b).rd F i b = v % 2 ^ F.w :=
  rd_wr_same C.regs F v i b

theorem Hub.Canon.rd_cntN {h : Hub} (C : h.Canon) {F : Fld} {n i b : Nat} :
    (h.cntN F n i b).rd F i b = min (2 ^ F.w - 1) (h.rd F i b + n) := by
  unfold Hub.cntN
  rw [C.rd_wr]
  exact Nat.mod_eq_of_lt (Nat.lt_of_le_of_lt (Nat.min_le_left _ _) (Nat.sub_lt (Nat.two_pow_pos _) Nat.one_pos))

theorem Hub.Canon.rd_cnt {h : Hub} (C : h.Canon) {F : Fld} {i b : Nat} :
    (h.cnt F i b).rd F i b = min (2 ^ F.w - 1) (h.rd F i b + 1) := C.rd_cntN

theorem rd_cntN_place {h : Hub} {F G : Fld} {n i b j c : Nat} (e : F.place ≠ G.place) :
    (h.cntN F n i b).rd G j c = h.rd G j c := rd_wr_place e
theorem rd_cnt_place {h : Hub} {F G : Fld} {i b j c : Nat} (e : F.place ≠ G.place) :
    (h.cnt F i b).rd G j c = h.rd G j c := rd_wr_place e
theorem rd_dec_place {h : Hub} {F G : Fld} {n i b j c : Nat} (e : F.place ≠ G.place) :
    (h.dec F n i b).rd G j c = h.rd G j c := rd_wr_place e
theorem rd_wrBit_place {h : Hub} {F G : Fld} {n : Nat} {v : Bool} {i b j c : Nat} (e : F.place ≠ G.place) :
    (h.wrBit F n v i b).rd G j c = h.rd G j c := rd_wr_place e
theorem rd_wrFree_place {h : Hub} {F G : Fld} {i b j c : Nat} (e : F.place ≠ G.place) :
    (h.wrFree F i b).rd G j c = h.rd G j c := rd_wr_place (h := { h with freeIx := h.freeIx + 1 }) e

theorem setBits_one_eq (x n w : Nat) : setBits x n 1 w = 2 ^ n * (x / 2 ^ (n + 1) * 2 + w % 2) + x % 2 ^ n := by
  have h1 : bits x n 1 = x / 2 ^ n % 2 := rfl
  have h3 := Nat.div_add_mod x (2 ^ n)
  have h4 := Nat.div_add_mod (x / 2 ^ n) 2
  have h5 : x / 2 ^ (n + 1) = x / 2 ^ n / 2 := by rw [Nat.pow_succ, Nat.div_div_eq_div_mul]
  unfold setBits
  rw [h1, h5, Nat.pow_one]
  generalize hq : x / 2 ^ n = q at *
  generalize hr : x % 2 ^ n = m at *
  generalize 2 ^ n = p at *
  generalize hs : q % 2 = t at *
  generalize q / 2 = u at *
  subst h4
  have h6 : x = 2 * u * p + t * p + m := by rw [← h3]; ring
  rw [h6, show 2 * u * p + t * p + m - t * p = 2 * u * p + m by omega]
  ring

theorem testBit_setBits_one {x n : Nat} {v : Bool} : (setBits x n 1 (bnat v)).testBit n = v := by
  rw [setBits_one_eq, Nat.testBit_two_pow_mul_add _ (Nat.mod_lt _ (Nat.two_pow_pos n)), if_neg (Nat.lt_irrefl n), Nat.sub_self,
    Nat.testBit_zero]
  cases v
  · simp [bnat]
  · simp [bnat, Nat.add_mod]

theorem testBit_setBits_ne {x n m w : Nat} (e : n ≠ m) : (setBits x n 1 w).testBit m = x.testBit m := by
  have hx := Nat.div_add_mod x (2 ^ n)
  conv => rhs; rw [← hx]
  rw [setBits_one_eq, Nat.testBit_two_pow_mul_add _ (Nat.mod_lt _ (Nat.two_pow_pos n)),
    Nat.testBit_two_pow_mul_add _ (Nat.mod_lt _ (Nat.two_pow_pos n))]
  split
  · rfl
  · obtain ⟨k, hk⟩ : ∃ k, m - n = k + 1 := ⟨m - n - 1, by omega⟩
    rw [hk, Nat.testBit_succ, Nat.testBit_succ, Nat.pow_succ, ← Nat.div_div_eq_div_mul]
    congr 1
    omega

theorem Hub.Canon.bit_wrBit {h : Hub} (C : h.Canon) {F : Fld} {n : Nat} {v : Bool} {i b : Nat} (hn : n < F.w) :
    (h.wrBit F n v i b).bit F n i b = v := by
  unfold Hub.bit Hub.wrBit
  rw [C.rd_wr, Nat.testBit_mod_two_pow, testBit_setBits_one]
  simp [hn]

/-- An interrupt bit set reads 1. -/
theorem Hub.Canon.bit_irq {h : Hub} (C : h.Canon) {pg n : Nat} (p : noIrq pg = false) (hn : n < 32) :
    (h.irq pg n).bit HDR.ISTAT n pg = true := by
  unfold Hub.irq
  rw [if_neg (by simp [p])]
  exact C.bit_wrBit hn

theorem rd_irq_place {h : Hub} {G : Fld} {pg n j c : Nat} (e : HDR.ISTAT.place ≠ G.place) :
    (h.irq pg n).rd G j c = h.rd G j c := by
  unfold Hub.irq
  split
  · rfl
  · exact rd_wrBit_place e

/-- A field written with a value or with an open one leaves the fields of every other word alone. -/
theorem rd_wrOpen_place {h : Hub} {F G : Fld} {o : Option Nat} {i j c : Nat} (e : F.place ≠ G.place) :
    (h.wrOpen F o i).rd G j c = h.rd G j c := by
  cases o
  · exact rd_wr_place (h := { h with freeIx := h.freeIx + 1 }) e
  · exact rd_wr_place e

theorem rd_capture_place {h : Hub} {G : Fld} {pg j c : Nat} {x : Cap} (e : HDR.ESTAT = G ∨ HDR.ISTAT = G) :
    (h.capture pg x).rd G j c = h.rd G j c := by
  unfold Hub.capture
  split
  · rfl
  · rcases e with rfl | rfl <;>
    · iterate 3 rw [rd_wr_place (by decide)]
      iterate 5 rw [rd_wrOpen_place (by decide)]

theorem rd_startEsc_place {h : Hub} {G : Fld} {pg j c : Nat} (e : HDR.ESTAT = G ∨ HDR.ISTAT = G) :
    (h.startEsc pg).rd G j c = h.rd G j c := by
  unfold Hub.startEsc
  split
  · rfl
  · rcases e with rfl | rfl <;>
    · iterate 2 rw [rd_wr_place (by decide)]

theorem Hub.Canon.bit_raiseBit {h : Hub} (C : h.Canon) {pg n : Nat} {x : Cap} (hn : n < 32) :
    (h.raiseBit pg n x).bit HDR.ESTAT n pg = true := by
  have e := C.bit_wrBit (F := HDR.ESTAT) (n := n) (v := true) (i := pg) (b := 0) hn
  unfold Hub.raiseBit
  dsimp only
  split
  · unfold Hub.bit at e ⊢
    rw [rd_startEsc_place (.inl rfl), rd_irq_place (by decide), rd_capture_place (.inl rfl)]
    exact e
  · exact e

theorem rd_refreshSummary_place {h : Hub} {G : Fld} {j c : Nat} (e : G.kind ≠ 112) : (h.refreshSummary).rd G j c = h.rd G j c := by
  unfold Hub.refreshSummary
  have k : ∀ F : Fld, F.kind = 112 → F.kind ≠ G.kind := fun F f g => e (g.symm.trans f)
  dsimp only
  rw [rd_wr_key (key_ne_of_kind (k _ (by decide)) _ _ _ _), rd_wr_key (key_ne_of_kind (k _ (by decide)) _ _ _ _),
    rd_wr_key (key_ne_of_kind (k _ (by decide)) _ _ _ _), rd_wr_key (key_ne_of_kind (k _ (by decide)) _ _ _ _),
    rd_wr_key (key_ne_of_kind (k _ (by decide)) _ _ _ _)]

theorem Hub.Canon.bit_wrBit_ne {h : Hub} (C : h.Canon) {F : Fld} {n m : Nat} {v : Bool} {i b : Nat} (e : n ≠ m) (hm : m < F.w) :
    (h.wrBit F n v i b).bit F m i b = h.bit F m i b := by
  unfold Hub.bit Hub.wrBit
  rw [C.rd_wr, Nat.testBit_mod_two_pow, testBit_setBits_ne e]
  simp [hm]

/-- An error bit that is set stays set when another error occurs. -/
theorem Hub.Canon.bit_raiseBit_of_bit {h : Hub} (C : h.Canon) {pg q n m : Nat} {x : Cap} (hm : m < 32) (e : h.bit HDR.ESTAT m q = true) :
    (h.raiseBit pg n x).bit HDR.ESTAT m q = true := by
  have e2 : (h.wrBit HDR.ESTAT n true pg).bit HDR.ESTAT m q = true := by
    by_cases k : pg = q
    · subst k
      by_cases z : n = m
      · subst z; exact C.bit_wrBit hm
      · rw [C.bit_wrBit_ne z hm]; exact e
    · unfold Hub.bit Hub.wrBit
      rw [rd_wr_inst (by omega)]
      exact e
  unfold Hub.raiseBit
  dsimp only
  split
  · unfold Hub.bit at e2 ⊢
    rw [rd_startEsc_place (.inl rfl), rd_irq_place (by decide), rd_capture_place (.inl rfl)]
    exact e2
  · exact e2

theorem bit_locketPut {h : Hub} {r : LkRec} {n pg : Nat} (e : h.bit HDR.ESTAT n pg = true) (C : h.Canon) (hn : n < 32) :
    (h.locketPut r).bit HDR.ESTAT n pg = true := by
  unfold Hub.locketPut
  split
  · exact e
  · have e1 : (h.cnt LKT.CNT_LOST_COUNT).bit HDR.ESTAT n pg = true := by
      unfold Hub.bit
      rw [rd_cnt_place (by decide)]
      exact e
    dsimp only
    split
    · exact e1
    · exact C.cnt.bit_raiseBit_of_bit hn e1

/-- An error bit that occurs reads 1. -/
theorem Hub.Canon.bit_raise {h : Hub} (C : h.Canon) {pg n : Nat} {x : Cap} (p : secondPage pg = false) (hn : n < 32) :
    (h.raise pg n x).bit HDR.ESTAT n pg = true := by
  unfold Hub.raise
  rw [p, Bool.false_or]
  split
  · assumption
  · have e := C.bit_raiseBit (pg := pg) (x := x) hn
    dsimp only
    split
    · have e2 : ((h.raiseBit pg n x).refreshSummary).bit HDR.ESTAT n pg = true := by
        unfold Hub.bit at e ⊢
        rw [rd_refreshSummary_place (by decide)]
        exact e
      split
      · exact bit_locketPut e2 (Hub.refreshSummary_canon (Hub.raiseBit_canon C)) hn
      · exact e2
    · exact e

theorem Hub.Canon.bit_raise_of_bit {h : Hub} (C : h.Canon) {pg q n m : Nat} {x : Cap} (hm : m < 32) (e : h.bit HDR.ESTAT m q = true) :
    (h.raise pg n x).bit HDR.ESTAT m q = true := by
  unfold Hub.raise
  split
  · exact e
  · have e1 := C.bit_raiseBit_of_bit (pg := pg) (n := n) (x := x) hm e
    dsimp only
    split
    · have e2 : ((h.raiseBit pg n x).refreshSummary).bit HDR.ESTAT m q = true := by
        unfold Hub.bit at e1 ⊢
        rw [rd_refreshSummary_place (by decide)]
        exact e1
      split
      · exact bit_locketPut e2 (Hub.refreshSummary_canon (Hub.raiseBit_canon C)) hm
      · exact e2
    · exact e1

end Sys2Proof.Machine
end

