-- ==== Sys2Proof/WellFormed.lean ====
section
/-! DEFINITION. Well-formed commands: every operand within the width that the spec gives its field. Each check is its own
arm, with no wildcard. The machine is total on ill-formed commands as well; they stand for nothing that a node could meet. -/

namespace Sys2Proof

/-- A requester carries a node ID of 14 bits (R55). -/
def Req.wf (r : Req) : Bool := decide (r.node < 16384)

/-- A cell has 64 payload bytes and fields within their widths (R171). -/
def Cell.wf (c : Cell) : Bool :=
  decide (c.tid < 2 ^ 20 ∧ c.kind < 8 ∧ c.vc < 4 ∧ c.colour < 4 ∧ c.seq < 2 ^ 16 ∧ c.fill < 64 ∧ c.age < 2 ^ 12) &&
    c.payload.length == 64

/-- A link frame has eight slots of 72 bytes (R132). -/
def LinkFrame.wf (f : LinkFrame) : Bool := f.slots.length == 8 && f.slots.all fun s => s.length == 72

/-- The fields of NODE_READY within their widths (R326). -/
def NodeInfo.wf (i : NodeInfo) : Bool := decide (i.device < 2 ^ 64 ∧ i.tier < 16 ∧ i.prio < 256 ∧ i.first < 16384 ∧ i.size ≤ 16384)

/-- The fields of a tile packet within their widths (R360). -/
def TilePkt.wf (t : TilePkt) : Bool := decide (t.typ < 256 ∧ t.ver < 256 ∧ t.frame < 2 ^ 32 ∧ t.tile < 2 ^ 16 ∧ t.sig < 2 ^ 32 ∧ t.colour < 2 ^ 32)

/-- The fields of a transaction header within their widths (R415). -/
def TxbHdr.wf (h : TxbHdr) : Bool := decide (h.op < 256 ∧ h.win < 64 ∧ h.tag < 1024 ∧ h.len < 8192 ∧ h.pwseq < 2 ^ 16 ∧ h.addr < 2 ^ 64 ∧ h.offset < 2 ^ 64)

/-- The fields of a USB request header within their widths (R483). -/
def UsbReq.wf (q : UsbReq) : Bool := decide (q.ring < 256 ∧ q.slot < 16 ∧ q.len ≤ 4096 ∧ q.reqseq < 2 ^ 16 ∧ q.devaddr < 128 ∧ q.ep < 16 ∧ q.xtype < 4 ∧ q.mps < 2048)

/-- The fields of a USB completion header within their widths (R483). -/
def UsbCpl.wf (c : UsbCpl) : Bool := decide (c.ring < 256 ∧ c.slot < 16 ∧ c.status < 256 ∧ c.actual ≤ 4096 ∧ c.reqseq < 2 ^ 16)

/-- The fields of a session request within their widths (R677, R679). -/
def TsudyFrame.wf (f : TsudyFrame) : Bool := decide (f.seq < 2 ^ 16 ∧ f.off < 2 ^ 24 ∧ f.count < 256 ∧ f.len < 256) && f.tag.length == 8

/-- A command with every operand within its width. -/
def wellFormed (i : Instr) : Bool :=
  match i with
  | .powerOnReset _ => true
  | .porRelease straps => decide (straps < 2 ^ 16)
  | .hrstN _ straps => decide (straps < 2 ^ 16)
  | .rstcmd r v => r.wf && decide (v < 2 ^ 32)
  | .softReset r pg => r.wf && decide (pg < 4096)
  | .softResetDone pg => decide (pg < 4096)
  | .blockEnable r pg _ => r.wf && decide (pg < 4096)
  | .registerWrite r addr size v => r.wf && decide (addr < 2 ^ 24 ∧ size < 4096 ∧ v < 2 ^ 64)
  | .lowWordRead r addr => r.wf && decide (addr < 2 ^ 24)
  | .tableLowestWordRead r addr => r.wf && decide (addr < 2 ^ 24)
  | .tableWordWrite r addr v => r.wf && decide (addr < 2 ^ 24 ∧ v < 2 ^ 32)
  | .tableEntryWrite r addr v => r.wf && decide (addr < 2 ^ 24 ∧ v < 2 ^ 32)
  | .tunnelEntryWrite r _ v => r.wf && decide (v < 2 ^ 32)
  | .slotEntryWrite r _ v => r.wf && decide (v < 2 ^ 32)
  | .estatClear r pg v newErr => r.wf && decide (pg < 4096 ∧ v < 2 ^ 32 ∧ newErr < 2 ^ 32)
  | .commit r pg => r.wf && decide (pg < 4096)
  | .commitPoint pg => decide (pg < 4096)
  | .txcoefCommit _ => true
  | .cntclr r pg => r.wf && decide (pg < 4096)
  | .escalationExpiry pg => decide (pg < 4096)
  | .vsetWrite r v => r.wf && decide (v < 2 ^ 32)
  | .vidStep => true
  | .hsrateUpdate rate => decide (rate < 2 ^ 16)
  | .vmeasUpdate mv minMv => decide (mv < 2 ^ 16 ∧ minMv < 1024)
  | .tjUpdate temp => decide (temp < 1024)
  | .filSnap r => r.wf
  | .clockGateOff r _ => r.wf
  | .clockStop _ => true
  | .gateTimeout _ => true
  | .clockGateOn r _ => r.wf
  | .pllUnlock _ => true
  | .pllRelock _ => true
  | .refLoss => true
  | .xtalLoss => true
  | .signalDetect _ => true
  | .signalAbsent _ => true
  | .trainTimeout _ => true
  | .attemptEnd _ => true
  | .presetStep _ => true
  | .tsReceived _ _ block lag => decide (block < 2 ^ 32 ∧ lag < 2 ^ 16)
  | .portFormTimer _ => true
  | .skipReceived _ level => decide (level < 256)
  | .amReceived _ block _ lag => decide (block < 2 ^ 32 ∧ lag < 2 ^ 16)
  | .blockLockLoss _ => true
  | .cdrLockLoss _ => true
  | .syncLimit _ n => decide (n < 2 ^ 16)
  | .retrain r _ => r.wf
  | .retireSend _ => true
  | .retireReceived _ block => decide (block < 2 ^ 32)
  | .eidleSend _ => true
  | .eidleReceived _ _ => true
  | .ftsReceived _ _ => true
  | .beaconSend r _ => r.wf
  | .beaconBurst _ => true
  | .beaconDetect _ => true
  | .linkFrameReceived _ _ f => f.wf
  | .frameGroupSend _ => true
  | .replayTimeout _ => true
  | .cap _ tok _ => decide (tok < 2 ^ 16)
  | .capack _ tok => decide (tok < 2 ^ 16)
  | .capRepeat _ => true
  | .capxTimeout _ => true
  | .keyingTimeout _ => true
  | .portDownCmd r _ => r.wf
  | .mailboxSend r _ => r.wf
  | .mailbox _ typ len _ => decide (typ < 256 ∧ len ≤ 64)
  | .widthRequest r _ => r.wf
  | .widthReq _ tok mask => decide (tok < 2 ^ 16 ∧ mask < 16)
  | .widthAck _ tok status => decide (tok < 2 ^ 16 ∧ status < 256)
  | .widthTimeout _ => true
  | .pmRequest r _ => r.wf
  | .pmReqSend _ => true
  | .pmReq _ tok _ => decide (tok < 2 ^ 16)
  | .pmAckSend _ => true
  | .pmAck _ tok status state => decide (tok < 2 ^ 16 ∧ status < 256 ∧ state < 256)
  | .pmTimeout _ => true
  | .pmExit r _ => r.all Req.wf
  | .timeMarker r _ => r.all Req.wf
  | .time _ _ => true
  | .cryptArm r _ => r.wf
  | .key _ tok phase span => decide (tok < 2 ^ 16 ∧ phase < 256 ∧ span < 2 ^ 32)
  | .keyack _ tok phase status => decide (tok < 2 ^ 16 ∧ phase < 256 ∧ status < 256)
  | .cryptRoll r _ => r.wf
  | .tag _ _ => true
  | .cellIngress _ _ c => c.wf
  | .egressSelect _ => true
  | .regRd src tok addr count => decide (src < 16384 ∧ tok < 2 ^ 16 ∧ addr < 2 ^ 24 ∧ count < 16)
  | .regWr src tok addr count data => data.all (decide <| · < 2 ^ 32) && decide (src < 16384 ∧ tok < 2 ^ 16 ∧ addr < 2 ^ 24 ∧ count < 16)
  | .regRsp src tok status failidx count data => data.all (decide <| · < 2 ^ 32) && decide (src < 16384 ∧ tok < 2 ^ 16 ∧ status < 256 ∧ failidx < 256 ∧ count < 16)
  | .rrqSend r v => r.wf && decide (v < 2 ^ 32)
  | .rrqTimeout => true
  | .tunSetup src tok entry => entry.all (decide <| · < 2 ^ 32) && decide (src < 16384 ∧ tok < 2 ^ 16)
  | .tunOpen src tok tid => decide (src < 16384 ∧ tok < 2 ^ 16 ∧ tid < 2 ^ 20)
  | .tunClose src tok tid => decide (src < 16384 ∧ tok < 2 ^ 16 ∧ tid < 2 ^ 20)
  | .tunAck src tok status typ tid idx => decide (src < 16384 ∧ tok < 2 ^ 16 ∧ status < 256 ∧ typ < 256 ∧ tid < 2 ^ 20 ∧ idx < 8192)
  | .tunnelMsgRetry tok => decide (tok < 2 ^ 16)
  | .pendingTimeout _ => true
  | .drainingTimeout _ => true
  | .orphanRelease _ => true
  | .routeGenSwitch r v => r.wf && decide (v < 2 ^ 32)
  | .mergeInit r => r.wf
  | .pathSilent _ _ => true
  | .ageSweep => true
  | .scrubSlot _ _ flips _ => decide (flips % 4 < 3 ∧ flips / 4 < 3)
  | .scrubForcedEntry _ => true
  | .bufferWipeDone => true
  | .qcfgWrite r v => r.wf && decide (v < 2 ^ 32)
  | .reserve src tok tid txn amount egress => decide (src < 16384 ∧ tok < 2 ^ 16 ∧ tid < 2 ^ 20 ∧ txn < 2 ^ 16 ∧ amount < 4096 ∧ egress < 14)
  | .caratCommit src tok tid txn => decide (src < 16384 ∧ tok < 2 ^ 16 ∧ tid < 2 ^ 20 ∧ txn < 2 ^ 16)
  | .abort src tok tid txn => decide (src < 16384 ∧ tok < 2 ^ 16 ∧ tid < 2 ^ 20 ∧ txn < 2 ^ 16)
  | .decrease src tok tid txn amount => decide (src < 16384 ∧ tok < 2 ^ 16 ∧ tid < 2 ^ 20 ∧ txn < 2 ^ 16 ∧ amount < 4096)
  | .release src tok tid txn => decide (src < 16384 ∧ tok < 2 ^ 16 ∧ tid < 2 ^ 20 ∧ txn < 2 ^ 16)
  | .crtAck src tok status typ tid txn committed => decide (src < 16384 ∧ tok < 2 ^ 16 ∧ status < 256 ∧ typ < 256 ∧ tid < 2 ^ 20 ∧ txn < 2 ^ 16 ∧ committed < 4096)
  | .caratMsgRetry tok => decide (tok < 2 ^ 16)
  | .holdExpiry _ => true
  | .wheelSlot _ => true
  | .wheelGranWrite r _ v => r.wf && decide (v < 2 ^ 32)
  | .meterInit r => r.wf
  | .meterClear r => r.wf
  | .neighbourSend => true
  | .neighbour _ _ => true
  | .crownDeclare => true
  | .countSend => true
  | .count _ n epoch => decide (n < 2 ^ 16 ∧ epoch < 2 ^ 16)
  | .grant _ first size tier epoch => decide (first < 16384 ∧ size < 16384 ∧ tier < 16 ∧ epoch < 2 ^ 16)
  | .crownHbSend => true
  | .crownHb src tok epoch _ openIntents timeNs => decide (src < 16384 ∧ tok < 2 ^ 16 ∧ epoch < 2 ^ 16 ∧ openIntents < 2 ^ 16 ∧ timeNs < 2 ^ 64)
  | .hbTimeout => true
  | .nodeReady src tok info => info.wf && decide (src < 16384 ∧ tok < 2 ^ 16)
  | .linkEvent src tok event port partner tid partnerId cnt => decide (src < 16384 ∧ tok < 2 ^ 16 ∧ event < 256 ∧ port < 16 ∧ partner < 16384 ∧ tid < 2 ^ 20 ∧ partnerId < 2 ^ 64 ∧ cnt < 16384)
  | .standby src tok _ epoch => decide (src < 16384 ∧ tok < 2 ^ 16 ∧ epoch < 2 ^ 16)
  | .routeSet src tok first cnt port _ _ tier => decide (src < 16384 ∧ tok < 2 ^ 16 ∧ first < 16384 ∧ cnt < 16384 ∧ port < 16 ∧ tier < 16)
  | .idBlock src tok first size port => decide (src < 16384 ∧ tok < 2 ^ 16 ∧ first < 16384 ∧ size < 16384 ∧ port < 16)
  | .ledger src tok op tid txn before after hops => hops.all (decide <| · < 2 ^ 32) && decide (src < 16384 ∧ tok < 2 ^ 16 ∧ op < 256 ∧ tid < 2 ^ 20 ∧ txn < 2 ^ 16 ∧ before < 4096 ∧ after < 4096)
  | .casAck src tok status typ epoch => decide (src < 16384 ∧ tok < 2 ^ 16 ∧ status < 256 ∧ typ < 256 ∧ epoch < 2 ^ 16)
  | .rediscover r => r.wf
  | .yield r => r.wf
  | .unreconciledCheck => true
  | .ringEnable r _ => r.wf
  | .ringFillDone _ => true
  | .captureFrameStart _ => true
  | .captureCommit _ _ => true
  | .captureAbort _ cause hact vact pclk => decide (cause < 4 ∧ hact < 16384 ∧ vact < 16384 ∧ pclk < 2 ^ 20)
  | .hostPixelWrite _ off _ => decide (off < 2 ^ 28)
  | .fwEnd _ => true
  | .fwAbort _ => true
  | .signaturesReady _ => true
  | .catchupDone _ => true
  | .streamSendFrame _ => true
  | .repair r v => r.wf && decide (v < 2 ^ 32)
  | .sendFull r => r.wf
  | .tileReceived tid t => t.wf && decide (tid < 2 ^ 20)
  | .endReceived tid t => t.wf && decide (tid < 2 ^ 20)
  | .gapPop r => r.wf
  | .vblankFlip _ => true
  | .activeEnd _ low => decide (low ≤ 16384)
  | .underrun _ line pixel => decide (line < 16384 ∧ pixel < 16384)
  | .headPllLock _ => true
  | .headLockTimeout _ => true
  | .dpTrain r _ => r.wf
  | .dpTrainDone _ _ rate lanes => decide (rate < 8 ∧ lanes < 4)
  | .dpDown r _ => r.wf
  | .hpdIrq _ _ _ => true
  | .hpdLoss _ => true
  | .hpdArrive _ => true
  | .auxTransaction r _ v => r.wf && decide (v < 2 ^ 32)
  | .auxDone _ _ reply n _ => decide (reply < 16 ∧ n < 2 ^ 16)
  | .outboundWrite _ addr _ _ _ => decide (addr < 2 ^ 64)
  | .outboundRead _ addr len _ _ => decide (addr < 2 ^ 64 ∧ len < 4097)
  | .mwr tid src h _ => h.wf && decide (tid < 2 ^ 20 ∧ src < 16384)
  | .postedWriteIssue _ => true
  | .mrd tid src h => h.wf && decide (tid < 2 ^ 20 ∧ src < 16384)
  | .readIssue => true
  | .pwaitTimeout => true
  | .busCompletion _ _ => true
  | .cpld tid h _ => h.wf && decide (tid < 2 ^ 20)
  | .cpl tid h => h.wf && decide (tid < 2 ^ 20)
  | .perr tid src h => h.wf && decide (tid < 2 ^ 20 ∧ src < 16384)
  | .completionTimeout _ => true
  | .quarantineEnd _ => true
  | .sidebandPoll => true
  | .sbrd tid h => h.wf && decide (tid < 2 ^ 20)
  | .sbrsp tid h sbstat catchBits => h.wf && decide (tid < 2 ^ 20 ∧ sbstat < 2 ^ 32 ∧ catchBits < 2 ^ 64)
  | .msiCatch addr data => decide (addr < 2 ^ 64 ∧ data < 2 ^ 32)
  | .functionLevelReset => true
  | .pcieLinkChange _ speed width ltssm => decide (speed < 16 ∧ width < 32 ∧ ltssm < 64)
  | .msixSend r v => r.wf && decide (v < 2 ^ 32)
  | .pfpop r => r.wf
  | .memEnable r _ => r.wf
  | .memTrain r => r.wf
  | .memTrainDone chOk => decide (chOk < 16)
  | .memWipeDone ms => decide (ms < 2 ^ 16)
  | .memPromote level => decide (level < 256)
  | .ethFrameRx _ _ room _ => room.all (decide <| · < 2 ^ 20)
  | .ethFrameTx tid _ _ => decide (tid < 2 ^ 20)
  | .vmapWrite r _ v => r.wf && decide (v < 2 ^ 32)
  | .ethLinkChange _ _ _ _ => true
  | .lumeFrameRx _ _ _ => true
  | .lumeFrameTx tid _ => decide (tid < 2 ^ 20)
  | .portMapWrite r v => r.wf && decide (v < 2 ^ 32)
  | .sceneEntry _ => true
  | .sceneRepeat _ => true
  | .t1lLinkChange _ _ _ _ sqi _ => decide (sqi < 8)
  | .upstreamChange r v => r.all Req.wf && decide (v < 2 ^ 32)
  | .upstreamAttach _ => true
  | .usbOvercurrent _ => true
  | .hubSuspend => true
  | .doorbell r _ => r.wf
  | .req tid h _ => h.wf && decide (tid < 2 ^ 20)
  | .nakRetry _ => true
  | .usbTransferTimeout _ => true
  | .usbTransferDone _ status actual _ frame _ => decide (status < 256 ∧ actual < 8192 ∧ frame < 2 ^ 16)
  | .cplReceived tid c _ => c.wf && decide (tid < 2 ^ 20)
  | .cancel r v => r.wf && decide (v < 2 ^ 32)
  | .cancelReceived tid ring slot reqseq => decide (tid < 2 ^ 20 ∧ ring < 256 ∧ slot < 16 ∧ reqseq < 2 ^ 16)
  | .busctl r v => r.wf && decide (v < 2 ^ 32)
  | .busctlReceived tid op => decide (tid < 2 ^ 20 ∧ op < 256)
  | .event tid ev bus _ oldest => decide (tid < 2 ^ 20 ∧ ev < 256 ∧ bus < 8 ∧ oldest < 2 ^ 16)
  | .alive => true
  | .agentLost tid => decide (tid < 2 ^ 20)
  | .remoteWake port => decide (port < 16)
  | .setup _ => true
  | .ep0Go r len => r.wf && decide (len < 8192)
  | .ep0Stall r => r.wf
  | .statusGo r => r.wf
  | .ep0OutPacket _ => true
  | .ep1Ingo r len => r.wf && decide (len < 8192)
  | .ep1OutPacket _ => true
  | .ep2Go r len => r.wf && decide (len < 8192)
  | .wakeReq r => r.wf
  | .usbBusReset _ => true
  | .hostResume => true
  | .detection _ r100 _ => decide (r100 < 2 ^ 20)
  | .claspClosure _ => true
  | .claspTrip _ _ => true
  | .offer _ tok vbus imax pwr => decide (tok < 2 ^ 16 ∧ vbus < 2 ^ 16 ∧ imax < 1024 ∧ pwr < 256)
  | .request _ tok ireq pwr _ => decide (tok < 2 ^ 16 ∧ ireq < 1024 ∧ pwr < 256)
  | .accept _ tok ireq _ => decide (tok < 2 ^ 16 ∧ ireq < 1024)
  | .reject _ tok reason => decide (tok < 2 ^ 16 ∧ reason < 256)
  | .ready _ tok icur ilim => decide (tok < 2 ^ 16 ∧ icur < 1024 ∧ ilim < 1024)
  | .limitLower _ => true
  | .status _ tok vbus vcable icable pwr role => decide (tok < 2 ^ 16 ∧ vbus < 2 ^ 16 ∧ vcable < 2 ^ 16 ∧ icable < 1024 ∧ pwr < 256 ∧ role < 256)
  | .statusReq _ tok => decide (tok < 2 ^ 16)
  | .swapReq _ tok pwr => decide (tok < 2 ^ 16 ∧ pwr < 256)
  | .swapAck _ tok pwr => decide (tok < 2 ^ 16 ∧ pwr < 256)
  | .swapNak _ tok reason => decide (tok < 2 ^ 16 ∧ reason < 256)
  | .srcOn _ tok _ => decide (tok < 2 ^ 16)
  | .srcOff _ tok => decide (tok < 2 ^ 16)
  | .claspAck _ tok ctype => decide (tok < 2 ^ 16 ∧ ctype < 256)
  | .claspRetry _ => true
  | .tSwapExpiry _ => true
  | .claspSwap r _ => r.wf
  | .reneg r _ => r.wf
  | .contractOpen r _ => r.wf
  | .sfAssert _ => true
  | .fastSwap _ _ => true
  | .sfHandover _ => true
  | .claspHardReset r _ => r.all Req.wf
  | .hardResetElect _ => true
  | .bleedTimeout _ => true
  | .typecAttach _ _ _ _ _ _ _ => true
  | .fastRoleSwap _ => true
  | .dpConfigure _ _ => true
  | .pdHardreset r _ => r.wf
  | .typecDetach r _ => r.wf
  | .hpdChange r _ _ => r.wf
  | .lpoDetect _ r100 _ => decide (r100 < 2 ^ 20)
  | .detectRepeat _ => true
  | .classify _ cls => cls.all (decide <| · < 2 ^ 20)
  | .rampDone _ => true
  | .rampTimeout _ => true
  | .currentLimit _ _ => true
  | .faultTimerExpiry _ => true
  | .hardShort _ => true
  | .pgHoldExpiry _ => true
  | .overloadCheck _ pavg vaavg joules => decide (pavg < 2 ^ 14 ∧ vaavg < 2 ^ 14 ∧ joules < 2 ^ 32)
  | .fuseLimitWrite r _ _ v => r.wf && decide (v < 2 ^ 32)
  | .busUndervolt mv => decide (mv < 2 ^ 16)
  | .busOvervolt mv => decide (mv < 2 ^ 16)
  | .busOvClear mv => decide (mv < 2 ^ 16)
  | .busShed mv => decide (mv < 2 ^ 16)
  | .shedClear mv => decide (mv < 2 ^ 16)
  | .emergencyChange _ => true
  | .waitExit => true
  | .energyClear r _ => r.wf
  | .voteWrite r _ v => r.wf && decide (v < 2 ^ 32)
  | .hardwareVote => true
  | .drainTimeout _ left => left.all (decide <| · < 2 ^ 32)
  | .domainReset _ _ => true
  | .domainReady _ => true
  | .domainFail _ => true
  | .stateRequest r target => r.wf && decide (target < 8)
  | .transitionDone us => decide (us < 2 ^ 32)
  | .mainPgRise => true
  | .mainPgLoss => true
  | .corePgLoss => true
  | .thermalTrip => true
  | .aonBrownout => true
  | .mgpAddressMatch addr => decide (addr < 128)
  | .gpioWake _ => true
  | .aonTimerMatch => true
  | .usbResumeDetect _ => true
  | .bootStart _ corr => decide (corr < 256)
  | .keyGen r v => r.wf && decide (v < 2 ^ 32)
  | .derive r v => r.wf && decide (v < 2 ^ 32)
  | .ecdhGen r v => r.wf && decide (v < 2 ^ 32)
  | .ecdh r v => r.wf && decide (v < 2 ^ 32)
  | .unwrap r v => r.wf && decide (v < 2 ^ 32)
  | .seal r v => r.wf && decide (v < 2 ^ 32)
  | .unseal r v => r.wf && decide (v < 2 ^ 32)
  | .keyClear r v => r.wf && decide (v < 2 ^ 32)
  | .erase r v => r.wf && decide (v < 2 ^ 32)
  | .keyOpDone _ => true
  | .slotLock r v => r.wf && decide (v < 2 ^ 32)
  | .measurementExtend r => r.wf
  | .updateStart r _ => r.wf
  | .blockDataWrite r v => r.wf && decide (v < 2 ^ 32)
  | .blockLand r num => r.wf && decide (num < 2 ^ 14)
  | .blockLandDone _ => true
  | .verify r => r.wf
  | .verifyDone => true
  | .activate r => r.wf
  | .updateAbort r => r.wf
  | .svncommit r => r.wf
  | .bundleDecrypt r v => r.wf && decide (v < 2 ^ 32)
  | .bundleDecryptDone => true
  | .bdecClr r => r.wf
  | .accessEntryWrite r v => r.wf && decide (v < 2 ^ 32)
  | .accessSync r => r.wf
  | .debugUnlock r => r.wf
  | .relock r => r.wf
  | .faultInject r v => r.wf && decide (v < 2 ^ 32)
  | .debugAccess _ addr size v => decide (addr < 2 ^ 24 ∧ size < 4096 ∧ v < 2 ^ 64)
  | .lifeCycleChange r => r.wf
  | .lifeCycleWipeDone _ straps => decide (straps < 2 ^ 16)
  | .locketWrite _ => true
  | .locketFirmwareRecord r v => r.wf && decide (v < 2 ^ 32)
  | .locketRead r seq => r.wf && decide (seq < 2 ^ 32)
  | .markclr r => r.wf
  | .telemetrySnapshot r => r.wf
  | .telemetryPeriod => true
  | .telSnap src tok => decide (src < 16384 ∧ tok < 2 ^ 16)
  | .lktRd src tok seq => decide (src < 16384 ∧ tok < 2 ^ 16 ∧ seq < 2 ^ 32)
  | .ident seq => decide (seq < 2 ^ 16)
  | .getkey seq => decide (seq < 2 ^ 16)
  | .openSess seq keyIdx _ => decide (seq < 2 ^ 16 ∧ keyIdx < 256)
  | .auth seq chunk _ => decide (seq < 2 ^ 16 ∧ chunk < 256)
  | .authGo seq => decide (seq < 2 ^ 16)
  | .close f => f.wf
  | .rd f => f.wf
  | .wr f => f.wf
  | .wrf f => f.wf
  | .responseRead => true
  | .smbusTimeout => true
  | .mcpuOpTimeout => true
  | .sessionIdle => true
  | .sessionClose r => r.wf
  | .authAccept r => r.wf
  | .authReject r => r.wf
  | .claimTake r => r.wf
  | .claimRelease r => r.wf
  | .nodeTimeSet r => r.wf
  | .ballFunctionWrite r v => r.wf && decide (v < 2 ^ 32)
  | .timerClaim r v => r.wf && decide (v < 2 ^ 32)
  | .timerRelease r => r.wf
  | .timerExpiry _ => true
  | .timerCapture _ => true
  | .xtalStart => true
  | .pllLock _ => true
  | .captureLinkTrain _ _ rate lanes hact vact pclk bpc => decide (rate < 8 ∧ lanes < 4 ∧ hact < 16384 ∧ vact < 16384 ∧ pclk < 2 ^ 20 ∧ bpc < 16)
  | .pcieMessage _ => true
  | .hostConfigWrite _ _ => true
  | .perstChange _ => true
  | .mr4Read code _ => decide (code < 8)
  | .wckTracking _ rdly wdly vref => decide (rdly < 256 ∧ wdly < 256 ∧ vref < 256)
  | .pdMessage _ _ => true
  | .vbusFault _ _ => true
  | .localSupplyChange _ => true
  | .hubRequest _ => true
  | .deviceConnect _ _ speed => decide (speed < 16)
  | .inTransaction _ => true

end Sys2Proof
end

