-- ==== Sys2Proof/Tests/Slice0.lean ====
section
/-! SUPPORT. Tests: ill-formed commands that the checks refuse, and for every statement a node and operands that meet the
hypotheses of each of its clauses. -/

open Sys2Proof Sys2Proof.Machine

namespace Sys2Proof.Tests

set_option Elab.async false

/-- A node whose domains are all on, whose pages `pgs` are READY, and whose registers `l` (field, instance, bank, value) are written. -/
def node (pgs : List Nat) (l : List (Fld × Nat × Nat × Nat)) (f : Hub → Hub := id) : State :=
  { hub := f (((PDM.DOMON_ON, 0, 0, 4095) :: (pgs.map fun p => (HDR.PSTAT_READY, p, 0, 1)) ++ l).foldl
      (fun (h : Hub) (p : Fld × Nat × Nat × Nat) => h.wr p.1 p.2.2.2 p.2.1 p.2.2.1) State.reset.hub) }

/-- A request of the management CPU. -/
def cpu : Req := { master := .mcpu, node := 0 }

/-- The invariant of a state, as a kernel can evaluate it. -/
theorem inv_of {s : State} (h : Tab.Sorted s.hub.regs ∧ Tab.Wf 0 s.hub.tab ∧ Tab.Wf 0 s.hub.fmem) : s.Inv :=
  ⟨h.1, h.2.1, h.2.2⟩

/-- The invariant of a state beside the hypotheses that one evaluation decides. -/
theorem inv_and {s : State} {P : Prop} (h : (Tab.Sorted s.hub.regs ∧ Tab.Wf 0 s.hub.tab ∧ Tab.Wf 0 s.hub.fmem) ∧ P) :
    s.Inv ∧ P := ⟨inv_of h.1, h.2⟩

/-- A grant, as a kernel can evaluate it. -/
theorem grants_of {h : Hub} {r : Req} {F : Fld} {i : Nat}
    (e : h.reaches r.master = true ∧ h.check r true ((F.pg + i) * 4096 + F.off) 4 = none) : h.Grants r F i := e
theorem grantsAt_of {h : Hub} {r : Req} {a : Nat} (e : h.reaches r.master = true ∧ h.check r true a 4 = none) :
    h.GrantsAt r a := e
theorem grantsRead_of {h : Hub} {r : Req} {a : Nat} (e : h.reaches r.master = true ∧ h.check r false a 4 = none) :
    h.GrantsRead r a := e
theorem accepts_of {h : Hub} {r : Req} {F : Fld} {i : Nat}
    (e : (h.reaches r.master = true ∧ h.check r true ((F.pg + i) * 4096 + F.off) 4 = none) ∧ h.up (F.pg + i) = true) : h.Accepts r F i := e

/-- A node that lists no register of page 0x90 maps no tunnel to Ethernet. -/
theorem eth_none {h : Hub} {tid : Nat} (e : decide (∀ p ∈ h.regs, p.1 / 2 ^ 18 % 1024 ≠ 0x90) = true) : h.ethMatch tid = none := by
  have e := of_decide_eq_true e
  have g : ∀ (d k : Nat) (m : Tab Nat), (∀ p ∈ m, p.1 ≠ k) → Tab.get d k m = d := by
    intro d k m
    induction m with
    | nil => intro _; rfl
    | cons a m ih =>
      intro H
      simp only [Tab.get, H a (by simp), if_false]
      exact ih fun p hp => H p (by simp [hp])
  have z : ∀ i b, h.rd ETH.VMAP_A_EN i b = 0 := by
    intro i b
    refine g _ _ _ fun p hp c => e p hp ?_
    rw [c]
    simp only [Fld.key, ETH.VMAP_A_EN]
    omega
  unfold Hub.ethMatch
  rw [List.findSome?_eq_none_iff]
  intro k _
  simp [Hub.on, z]
/-! ### Well-formed commands -/

/-- A request whose node ID has 15 bits. -/
def badReq : Req := { master := .fabric, node := 16384 }
def okFrame : LinkFrame := ⟨List.replicate 8 (List.replicate 72 0), 0, 0, false, false, 0, false, 0, 0⟩
def okTsudy : TsudyFrame := { seq := 0, tag := List.replicate 8 0, len := 0 }
def okCpl : UsbCpl := ⟨0, 0, 0, 0, 0, false, 0, 0⟩
def okCell : Cell := { tid := 0, kind := 0, sop := true, eop := true, payload := List.replicate 64 0 }
def okTile : TilePkt := { typ := 0 }
def okUsb : UsbReq := ⟨0, 0, false, false, 0, 0, 0, 0, false, 0, 0, 0, 0, 0, 0, []⟩
def okNode : NodeInfo := ⟨0, 0, 0, 0, 0, 0, 0, 0, 0⟩
def okTxb : TxbHdr := { op := 0 }

/-- An operand one above what its field holds: each check refuses it. -/
theorem test_wellFormed_refuses_1 : List.all (α := Instr)
    [.porRelease (2 ^ 16), .hrstN false (2 ^ 16), .rstcmd badReq 0, .rstcmd cpu (2 ^ 32), .softReset badReq 0,
     .softReset cpu 4096, .softResetDone 4096, .blockEnable badReq 0 false, .blockEnable cpu 4096 false,
     .registerWrite badReq 0 0 0, .registerWrite cpu 0 0 (2 ^ 64), .lowWordRead badReq 0, .lowWordRead cpu (2 ^ 24),
     .tableLowestWordRead badReq 0, .tableLowestWordRead cpu (2 ^ 24), .tableWordWrite badReq 0 0,
     .tableWordWrite cpu 0 (2 ^ 32), .tableEntryWrite badReq 0 0, .tableEntryWrite cpu 0 (2 ^ 32),
     .tunnelEntryWrite badReq 0 0, .tunnelEntryWrite cpu 0 (2 ^ 32), .slotEntryWrite badReq 0 0,
     .slotEntryWrite cpu 0 (2 ^ 32), .estatClear badReq 0 0 0, .estatClear cpu 0 0 (2 ^ 32), .commit badReq 0,
     .commit cpu 4096, .commitPoint 4096, .cntclr badReq 0, .cntclr cpu 4096, .escalationExpiry 4096, .vsetWrite badReq 0,
     .vsetWrite cpu (2 ^ 32), .hsrateUpdate (2 ^ 16), .vmeasUpdate 0 1024, .tjUpdate 1024, .filSnap badReq,
     .clockGateOff badReq 0, .clockGateOn badReq 0, .tsReceived 0 false 0 (2 ^ 16), .skipReceived 0 256,
     .amReceived 0 0 false (2 ^ 16), .syncLimit 0 (2 ^ 16), .retrain badReq 0, .retireReceived 0 (2 ^ 32),
     .beaconSend badReq 0, .linkFrameReceived 0 0 { okFrame with slots := [] }, .cap 0 (2 ^ 16) [], .capack 0 (2 ^ 16),
     .portDownCmd badReq 0, .mailboxSend badReq 0, .mailbox 0 0 65 [], .widthRequest badReq 0, .widthReq 0 0 16,
     .widthAck 0 0 256, .pmRequest badReq 0, .pmReq 0 (2 ^ 16) false, .pmAck 0 0 0 256, .pmExit (some badReq) 0,
     .timeMarker (some badReq) 0]
    (fun i => !wellFormed i) = true := by decide +kernel

/-- An operand one above what its field holds: each check refuses it. -/
theorem test_wellFormed_refuses_2 : List.all (α := Instr)
    [.cryptArm badReq 0, .key 0 0 0 (2 ^ 32), .keyack 0 0 0 256, .cryptRoll badReq 0,
     .cellIngress 0 false { okCell with age := 4096 }, .regRd 0 0 0 16, .regWr 0 0 0 0 [2 ^ 64], .regWr 0 0 0 16 [],
     .regRsp 0 0 0 0 0 [2 ^ 64], .regRsp 0 0 0 0 16 [], .rrqSend badReq 0, .rrqSend cpu (2 ^ 32), .tunSetup 0 0 [2 ^ 64],
     .tunSetup 0 (2 ^ 16) [], .tunOpen 0 0 (2 ^ 20), .tunClose 0 0 (2 ^ 20), .tunAck 0 0 0 0 0 8192,
     .tunnelMsgRetry (2 ^ 16), .routeGenSwitch badReq 0, .routeGenSwitch cpu (2 ^ 32), .mergeInit badReq,
     .scrubSlot 0 false 3 false, .qcfgWrite badReq 0, .qcfgWrite cpu (2 ^ 32), .reserve 0 0 0 0 0 14,
     .caratCommit 0 0 0 (2 ^ 16), .abort 0 0 0 (2 ^ 16), .decrease 0 0 0 0 4096, .release 0 0 0 (2 ^ 16),
     .crtAck 0 0 0 0 0 0 4096, .caratMsgRetry (2 ^ 16), .wheelGranWrite badReq 0 0, .wheelGranWrite cpu 0 (2 ^ 32),
     .meterInit badReq, .meterClear badReq, .count 0 0 (2 ^ 16), .grant 0 0 0 0 (2 ^ 16), .crownHb 0 0 0 false 0 (2 ^ 64),
     .nodeReady 0 0 { okNode with tier := 16 }, .nodeReady 0 (2 ^ 16) okNode, .linkEvent 0 0 0 0 0 0 0 16384,
     .standby 0 0 false (2 ^ 16), .routeSet 0 0 0 0 0 false false 16, .idBlock 0 0 0 0 16, .ledger 0 0 0 0 0 0 0 [2 ^ 64],
     .ledger 0 0 0 0 0 0 4096 [], .casAck 0 0 0 0 (2 ^ 16), .rediscover badReq, .yield badReq,
     .ringEnable badReq (.capture 0), .captureAbort 0 0 0 0 (2 ^ 20), .hostPixelWrite 0 (2 ^ 28) [], .repair badReq 0,
     .repair cpu (2 ^ 32), .sendFull badReq, .tileReceived 0 { okTile with typ := 256 }, .tileReceived (2 ^ 20) okTile,
     .endReceived 0 { okTile with typ := 256 }, .endReceived (2 ^ 20) okTile, .gapPop badReq]
    (fun i => !wellFormed i) = true := by decide +kernel

/-- An operand one above what its field holds: each check refuses it. -/
theorem test_wellFormed_refuses_3 : List.all (α := Instr)
    [.activeEnd 0 (2 ^ 32), .underrun 0 0 16384, .dpTrain badReq 0, .dpTrainDone 0 false 0 4, .dpDown badReq 0,
     .auxTransaction badReq 0 0, .auxTransaction cpu 0 (2 ^ 32), .auxDone 0 false 0 (2 ^ 16) [],
     .outboundWrite false (2 ^ 64) false false [], .outboundRead false 0 4097 false false,
     .mwr 0 0 { okTxb with win := 64 } [], .mwr 0 16384 okTxb [], .mrd 0 0 { okTxb with win := 64 }, .mrd 0 16384 okTxb,
     .cpld 0 { okTxb with win := 64 } [], .cpld (2 ^ 20) okTxb [], .cpl 0 { okTxb with win := 64 }, .cpl (2 ^ 20) okTxb,
     .perr 0 0 { okTxb with win := 64 }, .perr 0 16384 okTxb, .sbrd 0 { okTxb with win := 64 }, .sbrd (2 ^ 20) okTxb,
     .sbrsp 0 { okTxb with win := 64 } 0 0, .sbrsp 0 okTxb 0 (2 ^ 64), .msiCatch 0 (2 ^ 32), .pcieLinkChange false 0 0 64,
     .msixSend badReq 0, .msixSend cpu (2 ^ 32), .pfpop badReq, .memEnable badReq false, .memTrain badReq, .memTrainDone 16,
     .memWipeDone (2 ^ 16), .memPromote 256, .ethFrameRx 0 false (some (2 ^ 64)) [], .ethFrameTx (2 ^ 20) false [],
     .vmapWrite badReq 0 0, .vmapWrite cpu 0 (2 ^ 32), .lumeFrameTx (2 ^ 20) [], .portMapWrite badReq 0,
     .portMapWrite cpu (2 ^ 32), .t1lLinkChange 0 false false false 8 false, .upstreamChange (some badReq) 0,
     .upstreamChange none (2 ^ 32), .doorbell badReq 0, .req 0 { okUsb with mps := 2048 } [], .req (2 ^ 20) okUsb [],
     .usbTransferDone 0 0 0 false (2 ^ 16) [], .cplReceived 0 { okCpl with slot := 16 } [], .cplReceived (2 ^ 20) okCpl [],
     .cancel badReq 0, .cancel cpu (2 ^ 32), .cancelReceived 0 0 0 (2 ^ 16), .busctl badReq 0, .busctl cpu (2 ^ 32),
     .busctlReceived 0 256, .event 0 0 0 false (2 ^ 16), .agentLost (2 ^ 20), .remoteWake 16, .ep0Go badReq 0]
    (fun i => !wellFormed i) = true := by decide +kernel

/-- An operand one above what its field holds: each check refuses it. -/
theorem test_wellFormed_refuses_4 : List.all (α := Instr)
    [.ep0Go cpu 8192, .ep0Stall badReq, .statusGo badReq, .ep1Ingo badReq 0, .ep1Ingo cpu 8192, .ep2Go badReq 0,
     .ep2Go cpu 8192, .wakeReq badReq, .detection 0 (2 ^ 20) false, .offer 0 0 0 0 256, .request 0 0 0 256 false,
     .accept 0 0 1024 false, .reject 0 0 256, .ready 0 0 0 1024, .status 0 0 0 0 0 0 256, .statusReq 0 (2 ^ 16),
     .swapReq 0 0 256, .swapAck 0 0 256, .swapNak 0 0 256, .srcOn 0 (2 ^ 16) false, .srcOff 0 (2 ^ 16), .claspAck 0 0 256,
     .claspSwap badReq 0, .reneg badReq 0, .contractOpen badReq 0, .claspHardReset (some badReq) 0, .pdHardreset badReq 0,
     .typecDetach badReq 0, .hpdChange badReq 0 false, .lpoDetect 0 (2 ^ 20) false, .classify 0 (some (2 ^ 64)),
     .overloadCheck 0 0 0 (2 ^ 32), .fuseLimitWrite badReq 0 false 0, .fuseLimitWrite cpu 0 false (2 ^ 32),
     .busUndervolt (2 ^ 16), .busOvervolt (2 ^ 16), .busOvClear (2 ^ 16), .busShed (2 ^ 16), .shedClear (2 ^ 16),
     .energyClear badReq 0, .voteWrite badReq 0 0, .voteWrite cpu 0 (2 ^ 32), .drainTimeout 0 [2 ^ 64],
     .stateRequest badReq 0, .stateRequest cpu 8, .transitionDone (2 ^ 32), .mgpAddressMatch 128, .bootStart false 256,
     .keyGen badReq 0, .keyGen cpu (2 ^ 32), .derive badReq 0, .derive cpu (2 ^ 32), .ecdhGen badReq 0,
     .ecdhGen cpu (2 ^ 32), .ecdh badReq 0, .ecdh cpu (2 ^ 32), .unwrap badReq 0, .unwrap cpu (2 ^ 32), .seal badReq 0,
     .seal cpu (2 ^ 32)]
    (fun i => !wellFormed i) = true := by decide +kernel

/-- An operand one above what its field holds: each check refuses it. -/
theorem test_wellFormed_refuses_5 : List.all (α := Instr)
    [.unseal badReq 0, .unseal cpu (2 ^ 32), .keyClear badReq 0, .keyClear cpu (2 ^ 32), .erase badReq 0,
     .erase cpu (2 ^ 32), .slotLock badReq 0, .slotLock cpu (2 ^ 32), .measurementExtend badReq, .updateStart badReq false,
     .blockDataWrite badReq 0, .blockDataWrite cpu (2 ^ 32), .blockLand badReq 0, .blockLand cpu (2 ^ 14), .verify badReq,
     .activate badReq, .updateAbort badReq, .svncommit badReq, .bundleDecrypt badReq 0, .bundleDecrypt cpu (2 ^ 32),
     .bdecClr badReq, .accessEntryWrite badReq 0, .accessEntryWrite cpu (2 ^ 32), .accessSync badReq, .debugUnlock badReq,
     .relock badReq, .faultInject badReq 0, .faultInject cpu (2 ^ 32), .debugAccess false 0 0 (2 ^ 64),
     .lifeCycleChange badReq, .lifeCycleWipeDone false (2 ^ 16), .locketFirmwareRecord badReq 0,
     .locketFirmwareRecord cpu (2 ^ 32), .locketRead badReq 0, .locketRead cpu (2 ^ 32), .markclr badReq,
     .telemetrySnapshot badReq, .telSnap 0 (2 ^ 16), .lktRd 0 0 (2 ^ 32), .ident (2 ^ 16), .getkey (2 ^ 16),
     .openSess 0 256 [], .auth 0 256 [], .authGo (2 ^ 16), .close { okTsudy with seq := 65536 },
     .rd { okTsudy with seq := 65536 }, .wr { okTsudy with seq := 65536 }, .wrf { okTsudy with seq := 65536 },
     .sessionClose badReq, .authAccept badReq, .authReject badReq, .claimTake badReq, .claimRelease badReq,
     .nodeTimeSet badReq, .ballFunctionWrite badReq 0, .ballFunctionWrite cpu (2 ^ 32), .timerClaim badReq 0,
     .timerClaim cpu (2 ^ 32), .timerRelease badReq, .captureLinkTrain 0 false 0 0 0 0 0 16]
    (fun i => !wellFormed i) = true := by decide +kernel

/-- An operand one above what its field holds: each check refuses it. -/
theorem test_wellFormed_refuses_6 : List.all (α := Instr)
    [.mr4Read 8 false, .wckTracking 0 0 0 256, .deviceConnect 0 false 16]
    (fun i => !wellFormed i) = true := by decide +kernel

/-- The same commands with operands inside their fields. -/
theorem test_wellFormed_accepts_1 : List.all (α := Instr)
    [.porRelease 0, .hrstN false 0, .rstcmd cpu 0, .softReset cpu 0, .softResetDone 0, .blockEnable cpu 0 false,
     .registerWrite cpu 0 0 0, .lowWordRead cpu 0, .tableLowestWordRead cpu 0, .tableWordWrite cpu 0 0,
     .tableEntryWrite cpu 0 0, .tunnelEntryWrite cpu 0 0, .slotEntryWrite cpu 0 0, .estatClear cpu 0 0 0, .commit cpu 0,
     .commitPoint 0, .cntclr cpu 0, .escalationExpiry 0, .vsetWrite cpu 0, .hsrateUpdate 0, .vmeasUpdate 0 0, .tjUpdate 0,
     .filSnap cpu, .clockGateOff cpu 0, .clockGateOn cpu 0, .tsReceived 0 false 0 0, .skipReceived 0 0,
     .amReceived 0 0 false 0, .syncLimit 0 0, .retrain cpu 0, .retireReceived 0 0, .beaconSend cpu 0,
     .linkFrameReceived 0 0 okFrame, .cap 0 0 [], .capack 0 0, .portDownCmd cpu 0, .mailboxSend cpu 0, .mailbox 0 0 0 [],
     .widthRequest cpu 0, .widthReq 0 0 0, .widthAck 0 0 0, .pmRequest cpu 0, .pmReq 0 0 false, .pmAck 0 0 0 0,
     .pmExit none 0, .timeMarker none 0, .cryptArm cpu 0, .key 0 0 0 0, .keyack 0 0 0 0, .cryptRoll cpu 0,
     .cellIngress 0 false okCell, .regRd 0 0 0 0, .regWr 0 0 0 0 [], .regRsp 0 0 0 0 0 [], .rrqSend cpu 0, .tunSetup 0 0 [],
     .tunOpen 0 0 0, .tunClose 0 0 0, .tunAck 0 0 0 0 0 0, .tunnelMsgRetry 0]
    wellFormed = true := by decide +kernel

/-- The same commands with operands inside their fields. -/
theorem test_wellFormed_accepts_2 : List.all (α := Instr)
    [.routeGenSwitch cpu 0, .mergeInit cpu, .scrubSlot 0 false 0 false, .qcfgWrite cpu 0, .reserve 0 0 0 0 0 0,
     .caratCommit 0 0 0 0, .abort 0 0 0 0, .decrease 0 0 0 0 0, .release 0 0 0 0, .crtAck 0 0 0 0 0 0 0, .caratMsgRetry 0,
     .wheelGranWrite cpu 0 0, .meterInit cpu, .meterClear cpu, .count 0 0 0, .grant 0 0 0 0 0, .crownHb 0 0 0 false 0 0,
     .nodeReady 0 0 okNode, .linkEvent 0 0 0 0 0 0 0 0, .standby 0 0 false 0, .routeSet 0 0 0 0 0 false false 0,
     .idBlock 0 0 0 0 0, .ledger 0 0 0 0 0 0 0 [], .casAck 0 0 0 0 0, .rediscover cpu, .yield cpu,
     .ringEnable cpu (.capture 0), .captureAbort 0 0 0 0 0, .hostPixelWrite 0 0 [], .repair cpu 0, .sendFull cpu,
     .tileReceived 0 okTile, .endReceived 0 okTile, .gapPop cpu, .activeEnd 0 0, .underrun 0 0 0, .dpTrain cpu 0,
     .dpTrainDone 0 false 0 0, .dpDown cpu 0, .auxTransaction cpu 0 0, .auxDone 0 false 0 0 [],
     .outboundWrite false 0 false false [], .outboundRead false 0 0 false false, .mwr 0 0 okTxb [], .mrd 0 0 okTxb,
     .cpld 0 okTxb [], .cpl 0 okTxb, .perr 0 0 okTxb, .sbrd 0 okTxb, .sbrsp 0 okTxb 0 0, .msiCatch 0 0,
     .pcieLinkChange false 0 0 0, .msixSend cpu 0, .pfpop cpu, .memEnable cpu false, .memTrain cpu, .memTrainDone 0,
     .memWipeDone 0, .memPromote 0, .ethFrameRx 0 false none []]
    wellFormed = true := by decide +kernel

/-- The same commands with operands inside their fields. -/
theorem test_wellFormed_accepts_3 : List.all (α := Instr)
    [.ethFrameTx 0 false [], .vmapWrite cpu 0 0, .lumeFrameTx 0 [], .portMapWrite cpu 0,
     .t1lLinkChange 0 false false false 0 false, .upstreamChange none 0, .doorbell cpu 0, .req 0 okUsb [],
     .usbTransferDone 0 0 0 false 0 [], .cplReceived 0 okCpl [], .cancel cpu 0, .cancelReceived 0 0 0 0, .busctl cpu 0,
     .busctlReceived 0 0, .event 0 0 0 false 0, .agentLost 0, .remoteWake 0, .ep0Go cpu 0, .ep0Stall cpu, .statusGo cpu,
     .ep1Ingo cpu 0, .ep2Go cpu 0, .wakeReq cpu, .detection 0 0 false, .offer 0 0 0 0 0, .request 0 0 0 0 false,
     .accept 0 0 0 false, .reject 0 0 0, .ready 0 0 0 0, .status 0 0 0 0 0 0 0, .statusReq 0 0, .swapReq 0 0 0,
     .swapAck 0 0 0, .swapNak 0 0 0, .srcOn 0 0 false, .srcOff 0 0, .claspAck 0 0 0, .claspSwap cpu 0, .reneg cpu 0,
     .contractOpen cpu 0, .claspHardReset none 0, .pdHardreset cpu 0, .typecDetach cpu 0, .hpdChange cpu 0 false,
     .lpoDetect 0 0 false, .classify 0 none, .overloadCheck 0 0 0 0, .fuseLimitWrite cpu 0 false 0, .busUndervolt 0,
     .busOvervolt 0, .busOvClear 0, .busShed 0, .shedClear 0, .energyClear cpu 0, .voteWrite cpu 0 0, .drainTimeout 0 [],
     .stateRequest cpu 0, .transitionDone 0, .mgpAddressMatch 0, .bootStart false 0]
    wellFormed = true := by decide +kernel

/-- The same commands with operands inside their fields. -/
theorem test_wellFormed_accepts_4 : List.all (α := Instr)
    [.keyGen cpu 0, .derive cpu 0, .ecdhGen cpu 0, .ecdh cpu 0, .unwrap cpu 0, .seal cpu 0, .unseal cpu 0, .keyClear cpu 0,
     .erase cpu 0, .slotLock cpu 0, .measurementExtend cpu, .updateStart cpu false, .blockDataWrite cpu 0, .blockLand cpu 0,
     .verify cpu, .activate cpu, .updateAbort cpu, .svncommit cpu, .bundleDecrypt cpu 0, .bdecClr cpu,
     .accessEntryWrite cpu 0, .accessSync cpu, .debugUnlock cpu, .relock cpu, .faultInject cpu 0, .debugAccess false 0 0 0,
     .lifeCycleChange cpu, .lifeCycleWipeDone false 0, .locketFirmwareRecord cpu 0, .locketRead cpu 0, .markclr cpu,
     .telemetrySnapshot cpu, .telSnap 0 0, .lktRd 0 0 0, .ident 0, .getkey 0, .openSess 0 0 [], .auth 0 0 [], .authGo 0,
     .close okTsudy, .rd okTsudy, .wr okTsudy, .wrf okTsudy, .sessionClose cpu, .authAccept cpu, .authReject cpu,
     .claimTake cpu, .claimRelease cpu, .nodeTimeSet cpu, .ballFunctionWrite cpu 0, .timerClaim cpu 0, .timerRelease cpu,
     .captureLinkTrain 0 false 0 0 0 0 0 0, .mr4Read 0 false, .wckTracking 0 0 0 0, .deviceConnect 0 false 0]
    wellFormed = true := by decide +kernel


/-! ### Fragment 01 -/

namespace W01

def w1 : State := node [1] []
def w2 : State := node [] [(CLK.hStopping,0,0,8)]
def w3 : State := node [] [(CLK.hStopping,0,0,8)]
def w4 : State := node [1] []
def w5 : State := node [] [(CLK.PLLSTAT_LOCK,0,0,1)]
def w6 : State := node [] [(CLK.hUnlocked,0,0,1)]
def w7 : State := node [] []
def w11 : State := node [2] [(FIL.hVid,0,0,8)]
def w12 : State := node [2] [(FIL.VSET_RAMPING,0,0,1),(FIL.VSET_CODE,0,0,10)]
def w13 : State := node [2] [(FIL.hLow,0,0,2)]
def w14 : State := node [2] []
def w15 : State := node [2] []
def w16 : State := node [2] []

theorem test_witness_ClockAndCapacityCommandsComplete :
    (∃ s : State, ∃ r : Req, ∃ n : Fin 13, s.Inv ∧ (s.hub.Grants r CLK.GATE_HEAD 0) ∧ (s.hub.up 1 = true) ∧ (s.hub.bit CLK.GSTAT_RUN n = true)) ∧
    (∃ s : State, ∃ n : Fin 13, s.Inv ∧ (s.hub.bit CLK.hStopping n = true) ∧ (s.hub.islandBusy n = false) ∧ ((∀ a ∈ gateFifos n, s.hub.rd FIL.hFifo 0 a = 0 ∧ Tab.get [] (if a = 8 then 8 else a - 1) s.hub.stalled = []))) ∧
    (∃ s : State, ∃ n : Fin 13, s.Inv ∧ (s.hub.bit CLK.hStopping n = true)) ∧
    (∃ s : State, ∃ r : Req, s.Inv ∧ (s.hub.Grants r CLK.GATE_HEAD 0) ∧ (s.hub.up 1 = true)) ∧
    (∃ s : State, ∃ n : Fin 13, s.Inv ∧ (s.hub.bit CLK.PLLSTAT_LOCK n = true)) ∧
    (∃ s : State, ∃ n : Fin 13, s.Inv ∧ (s.hub.bit CLK.hUnlocked n = true)) ∧
    (∃ s : State, ∃ n : Fin 13, s.Inv ∧ (s.hub.pllMayRun n = true) ∧ (s.hub.bit CLK.PLLSTAT_LOCK n = false) ∧ (s.hub.bit CLK.hUnlocked n = false)) ∧
    (∃ s : State, ∃ r : Req, ∃ v : Nat, s.Inv ∧ (s.hub.Accepts r FIL.VSET_CODE 0) ∧ (v % 32 ≤ 16) ∧ (v % 32 ≠ s.hub.rd FIL.hVid) ∧ (((if s.hub.on FIL.VSET_RAMPING then s.hub.rd FIL.hVid else s.hub.rd FIL.VSET_CODE) ≤ v % 32 ∨ s.hub.rd FIL.ADMLOAD_CT + s.hub.rd FIL.HOLD_CT ≤ gcapCt (v % 32)))) ∧
    (∃ s : State, s.Inv ∧ (s.hub.domOn 2 = true) ∧ (s.hub.on FIL.VSET_RAMPING = true)) ∧
    (∃ s : State, s.Inv ∧ (s.hub.domOn 2 = true)) ∧
    (∃ s : State, s.Inv ∧ (s.hub.domOn 2 = true)) ∧
    (∃ s : State, s.Inv ∧ (s.hub.domOn 2 = true)) ∧
    (∃ s : State, ∃ r : Req, s.Inv ∧ (s.hub.Accepts r FIL.SNAP_GO 0)) :=
  ⟨⟨w1, cpu, 3, inv_of (by decide +kernel), grants_of (by decide +kernel), by decide +kernel⟩,
   ⟨w2, 3, inv_and (by decide +kernel)⟩,
   ⟨w3, 3, inv_and (by decide +kernel)⟩,
   ⟨w4, cpu, inv_of (by decide +kernel), grants_of (by decide +kernel), by decide +kernel⟩,
   ⟨w5, 0, inv_and (by decide +kernel)⟩,
   ⟨w6, 0, inv_and (by decide +kernel)⟩,
   ⟨w7, 0, inv_and (by decide +kernel)⟩,
   ⟨w11, cpu, 5, inv_of (by decide +kernel), accepts_of (by decide +kernel), by decide +kernel⟩,
   ⟨w12, inv_and (by decide +kernel)⟩,
   ⟨w13, inv_and (by decide +kernel)⟩,
   ⟨w14, inv_and (by decide +kernel)⟩,
   ⟨w15, inv_and (by decide +kernel)⟩,
   ⟨w16, cpu, inv_of (by decide +kernel), accepts_of (by decide +kernel)⟩⟩

end W01

/-! ### Fragment 02 -/

namespace W02

def w2 : State := node [] [(PDM.DOMON_ON,0,0,1),(AON.BOOTCAUSE_CAUSE,0,0,9)]
def w4 : State := node [] [(AON.hHeld,0,0,1)]
def w5 : State := node [] []
def w6 : State := node [] []
def w7 : State := node [] [(HDR.hSrstBusy,0x40,0,1)]
def w8 : State := node [0x49] []
def w9 : State := node [] [(HDR.ESTAT,0x40,0,3)]
def w10 : State := node [] []
def w11 : State := node [] []
def w12 : State := node [0x68] [(HDR.PSTAT_CPEND,0x68,0,1)]
def w13 : State := node [] []

theorem test_witness_ResetAndHeaderCommandsComplete :
    (∃ s : State, s.Inv ∧ (s.hub.bit CLK.PLLSTAT_LOCK 0 = false) ∧ (s.hub.domOn 1 = false)) ∧
    (∃ s : State, s.Inv ∧ (s.hub.on AON.hHeld = true)) ∧
    (∃ s : State, ∃ r : Req, ∃ v : Nat, s.Inv ∧ (s.hub.Grants r TOP.RSTCMD_KEY 0) ∧ (v % 65536 = 0xC1A5)) ∧
    (∃ s : State, ∃ r : Req, ∃ pg : Nat, s.Inv ∧ (s.hub.GrantsAt r (pg * 4096 + 8))) ∧
    (∃ s : State, ∃ pg : Nat, s.Inv ∧ (s.hub.domOn (pageDom pg) = true) ∧ (s.hub.rd HDR.hSrstBusy pg = 1)) ∧
    (∃ s : State, ∃ r : Req, ∃ pg : Nat, s.Inv ∧ (s.hub.GrantsAt r (pg * 4096 + 8))) ∧
    (∃ s : State, ∃ r : Req, ∃ pg : Nat, s.Inv ∧ (s.hub.GrantsAt r (pg * 4096 + 0x10)) ∧ (secondPage pg = false)) ∧
    (∃ s : State, ∃ r : Req, ∃ pg : Nat, ∃ e : Nat, ∃ n, s.Inv ∧ (s.hub.GrantsAt r (pg * 4096 + 0x10)) ∧ (secondPage pg = false) ∧ (n < 32) ∧ (e.testBit n = true)) ∧
    (∃ s : State, ∃ r : Req, ∃ pg : Nat, s.Inv ∧ (s.hub.GrantsAt r (pg * 4096 + 0x3C))) ∧
    (∃ s : State, ∃ pg : Nat, s.Inv ∧ (s.hub.up pg = true) ∧ (s.hub.on HDR.PSTAT_CPEND pg = true) ∧ (pg < 0x20 ∨ 0x40 ≤ pg ∧ pg < 0x50 ∨ 0x5E ≤ pg ∧ pg < 0x71 ∨ 0x78 ≤ pg)) ∧
    (∃ s : State, ∃ r : Req, ∃ pg : Nat, ∃ row, ∃ off, s.Inv ∧ (pageRow? pg = some row) ∧ (secondPage pg = false) ∧ (cntOffset row.first = some off) ∧ (s.hub.GrantsAt r (pg * 4096 + off)) ∧ (row.first ∉ [0x48, 0x4B, 0x71, 0x92, 0xC8])) :=
  ⟨⟨w2, inv_and (by decide +kernel)⟩,
   ⟨w4, inv_and (by decide +kernel)⟩,
   ⟨w5, cpu, 0xC1A5, inv_of (by decide +kernel), grants_of (by decide +kernel), by decide +kernel⟩,
   ⟨w6, cpu, 0x40, inv_of (by decide +kernel), grantsAt_of (by decide +kernel)⟩,
   ⟨w7, 0x40, inv_and (by decide +kernel)⟩,
   ⟨w8, cpu, 0x49, inv_of (by decide +kernel), grantsAt_of (by decide +kernel)⟩,
   ⟨w9, cpu, 0x40, inv_of (by decide +kernel), grantsAt_of (by decide +kernel), by decide +kernel⟩,
   ⟨w10, cpu, 0x40, 8, 3, inv_of (by decide +kernel), grantsAt_of (by decide +kernel), by decide +kernel⟩,
   ⟨w11, cpu, 0x50, inv_of (by decide +kernel), grantsAt_of (by decide +kernel)⟩,
   ⟨w12, 0x68, inv_and (by decide +kernel)⟩,
   ⟨w13, cpu, 0x40, ⟨0x040, 1, 2, 0, none, false, true⟩, 304, inv_of (by decide +kernel), by decide +kernel, by decide +kernel, by decide +kernel, grantsAt_of (by decide +kernel), by decide +kernel⟩⟩

end W02

/-! ### Fragment 04 -/

namespace W04

def w1 : State := node [] []
def w2 : State := node [] []
def w3 : State := node [] []
def w4 : State := node [] []
def w5 : State := node [] []
def w6 : State := node [] []
def w7 : State := node [] []
def w8 : State := node [] []
def w9 : State := node [] []

theorem test_witness_WindowCommandsComplete :
    (∃ s : State, ∃ r : Req, ∃ addr : Nat, ∃ size : Nat, s.Inv ∧ (s.hub.reaches r.master = true) ∧ (s.hub.check r true addr size = none)) ∧
    (∃ s : State, ∃ r : Req, ∃ addr : Nat, s.Inv ∧ (s.hub.reaches r.master = true) ∧ (s.hub.check r false addr r.size = none) ∧ (tableAt addr = none) ∧ (isLow64 (addr / 4096) (addr % 4096) = true)) ∧
    (∃ s : State, ∃ r : Req, ∃ addr : Nat, ∃ t, ∃ row, s.Inv ∧ (s.hub.reaches r.master = true) ∧ (s.hub.check r false addr r.size = none) ∧ (tableAt addr = some (t, row)) ∧ ((addr - row.base) % row.stride = 0)) ∧
    (∃ s : State, ∃ r : Req, ∃ addr : Nat, ∃ t, ∃ row, s.Inv ∧ (s.hub.GrantsAt r addr) ∧ (tableAt addr = some (t, row)) ∧ ((addr - row.base) % row.stride / 4 + 1 ≠ row.stride / 4)) ∧
    (∃ s : State, ∃ r : Req, ∃ addr : Nat, ∃ t, ∃ row, s.Inv ∧ (s.hub.GrantsAt r addr) ∧ (tableAt addr = some (t, row)) ∧ ((addr - row.base) % row.stride / 4 + 1 = row.stride / 4)) ∧
    (∃ s : State, ∃ r : Req, ∃ idx : Fin 8192, ∃ v : Nat, s.Inv ∧ (s.hub.GrantsAt r (tunAddr idx + 28)) ∧ (s.hub.entBad idx (s.hub.stagedWords r.master 0 ⟨0x400000, 32, 8192, 2, false⟩ idx (v % 2 ^ 32)) = false)) ∧
    (∃ s : State, ∃ r : Req, ∃ idx : Fin 256, ∃ v : Nat, s.Inv ∧ (s.hub.GrantsAt r (slotAddr idx 15)) ∧ (s.hub.slotBad idx (s.hub.stagedWords r.master 2 ⟨0x460000, 64, 256, 7, false⟩ idx (v % 2 ^ 32)) = false)) ∧
    (∃ s : State, ∃ r : Req, ∃ v : Nat, s.Inv ∧ (s.hub.Grants r ACT.EW7_DATA 0) ∧ (s.hub.actLocked (s.hub.rd ACT.ESEL_ENTRY) = false) ∧ (Hub.actBad ((List.range 8).map fun w => (if w = 7 then v else s.hub.rd (ACT.EW.word w)) &&& Hub.actMask w) = false)) ∧
    (∃ s : State, ∃ r : Req, s.Inv ∧ (s.hub.GrantsRead r 0x8108)) :=
  ⟨⟨w1, cpu, 0x2104, 4, inv_and (by decide +kernel)⟩,
   ⟨w2, cpu, 0x2130, inv_and (by decide +kernel)⟩,
   ⟨w3, cpu, 0x440000, 1, ⟨0x440000, 8, 16384, 2, false⟩, inv_and (by decide +kernel)⟩,
   ⟨w4, cpu, 0x440000, 1, ⟨0x440000, 8, 16384, 2, false⟩, inv_of (by decide +kernel), grantsAt_of (by decide +kernel), by decide +kernel⟩,
   ⟨w5, cpu, 0x440004, 1, ⟨0x440000, 8, 16384, 2, false⟩, inv_of (by decide +kernel), grantsAt_of (by decide +kernel), by decide +kernel⟩,
   ⟨w6, cpu, 3, 0, inv_of (by decide +kernel), grantsAt_of (by decide +kernel), by decide +kernel⟩,
   ⟨w7, cpu, 3, 0, inv_of (by decide +kernel), grantsAt_of (by decide +kernel), by decide +kernel⟩,
   ⟨w8, cpu, 0, inv_of (by decide +kernel), grants_of (by decide +kernel), by decide +kernel⟩,
   ⟨w9, cpu, inv_of (by decide +kernel), grantsRead_of (by decide +kernel)⟩⟩

end W04

/-! ### Fragment 06 -/

namespace W06

def w1 : State := node [0x22] [(HDR.PSTAT_CPEND,0x22,0,1),(OLN.STAT_STATE,2,0,5)]
def w2 : State := node [0x22] [(OLN.STAT_STATE,2,0,1)]
def w3 : State := node [0x22] [(OLN.STAT_STATE,2,0,2)]
def w4 : State := node [0x22] [(OLN.STAT_STATE,2,0,2)]
def w5 : State := node [0x22] [(OLN.STAT_STATE,2,0,2)]
def w6 : State := node [0x22] [(OLN.STAT_STATE,2,0,2),(OLN.RXSTAT_BLOCK_LOCK,2,0,1)]
def w7 : State := node [0x22] [(OLN.STAT_STATE,2,0,2),(OLN.CFG_AUTO_POL,2,0,1)]
def w8 : State := node [0x22] [(OLN.STAT_STATE,2,0,5)]
def w9 : State := node [0x22] [(OLN.STAT_STATE,2,0,5)]
def w10 : State := node [0x22] [(OLN.STAT_STATE,2,0,5)]
def w11 : State := node [0x22] [(OLN.STAT_STATE,2,0,5)]
def w12 : State := node [0x22] [(OLN.STAT_STATE,2,0,9)]

theorem test_witness_LaneCommandsComplete :
    (∃ s : State, ∃ l : Fin 32, s.Inv ∧ (s.hub.up (0x20 + l) = true) ∧ (s.hub.lane l ≠ 7) ∧ (s.hub.lane l ≠ 8) ∧ (s.hub.on HDR.PSTAT_CPEND (0x20 + l) = true)) ∧
    (∃ s : State, ∃ l : Fin 32, s.Inv ∧ (s.hub.up (0x20 + l) = true) ∧ (s.hub.lane l = 1)) ∧
    (∃ s : State, ∃ l : Fin 32, s.Inv ∧ (s.hub.up (0x20 + l) = true) ∧ (s.hub.lane l = 2)) ∧
    (∃ s : State, ∃ l : Fin 32, s.Inv ∧ (s.hub.up (0x20 + l) = true) ∧ ((s.hub.lane l = 2 ∨ s.hub.lane l = 3)) ∧ (Tab.has (OLN.STAT_STATE.key l 0) s.hub.shadow = false)) ∧
    (∃ s : State, ∃ l : Fin 32, s.Inv ∧ (s.hub.up (0x20 + l) = true) ∧ (s.hub.lane l = 2) ∧ (s.hub.on OLN.RXSTAT_BLOCK_LOCK l = false)) ∧
    (∃ s : State, ∃ l : Fin 32, s.Inv ∧ (s.hub.up (0x20 + l) = true) ∧ (s.hub.lane l = 2) ∧ (s.hub.on OLN.RXSTAT_BLOCK_LOCK l = true) ∧ (s.hub.on OLN.STAT_PARTNER_LOCKED l = false)) ∧
    (∃ s : State, ∃ l : Fin 32, ∃ block : Nat, s.Inv ∧ (s.hub.up (0x20 + l) = true) ∧ (s.hub.lane l = 2) ∧ (s.hub.on OLN.CFG_AUTO_POL l = true) ∧ (s.hub.on OLN.hPolFix l = false) ∧ (blockOk block = true) ∧ (block % 256 = 0x1E)) ∧
    (∃ s : State, ∃ l : Fin 32, ∃ block : Nat, s.Inv ∧ (s.hub.up (0x20 + l) = true) ∧ (s.hub.lane l = 5) ∧ (blockOk block = true) ∧ ((s.hub.rd OLN.hAmNext l = 0 ∨ bits block 16 16 + 1 = s.hub.rd OLN.hAmNext l))) ∧
    (∃ s : State, ∃ l : Fin 32, s.Inv ∧ (s.hub.up (0x20 + l) = true) ∧ (2 ≤ s.hub.lane l) ∧ (s.hub.lane l ≤ 6)) ∧
    (∃ s : State, ∃ l : Fin 32, s.Inv ∧ (s.hub.up (0x20 + l) = true)) ∧
    (∃ s : State, ∃ l : Fin 32, s.Inv ∧ (s.hub.up (0x20 + l) = true)) ∧
    (∃ s : State, ∃ r : Req, ∃ l : Fin 32, s.Inv ∧ (s.hub.Accepts r OLN.CTL_RETRAIN l) ∧ (s.hub.lane l ≠ 0)) :=
  ⟨⟨w1, 2, inv_and (by decide +kernel)⟩,
   ⟨w2, 2, inv_and (by decide +kernel)⟩,
   ⟨w3, 2, inv_and (by decide +kernel)⟩,
   ⟨w4, 2, inv_and (by decide +kernel)⟩,
   ⟨w5, 2, inv_and (by decide +kernel)⟩,
   ⟨w6, 2, inv_and (by decide +kernel)⟩,
   ⟨w7, 2, ctlBlock 0x1E 5, inv_and (by decide +kernel)⟩,
   ⟨w8, 2, ctlBlock 0x4B 5, inv_and (by decide +kernel)⟩,
   ⟨w9, 2, inv_and (by decide +kernel)⟩,
   ⟨w10, 2, inv_and (by decide +kernel)⟩,
   ⟨w11, 2, inv_and (by decide +kernel)⟩,
   ⟨w12, cpu, 2, inv_of (by decide +kernel), accepts_of (by decide +kernel), by decide +kernel⟩⟩

end W06

/-! ### Fragment 07 -/

namespace W07

def w1 : State := node [0x11] [(HDR.PCTL_EN,0x11,0,1),(OPT.hReady,1,0,1),(OLN.STAT_STATE,4,0,4),(OLN.STAT_STATE,5,0,4),(OLN.STAT_PARTNER_LANE,5,0,1),(OLN.STAT_PARTNER_PORT,4,0,2),(OLN.STAT_PARTNER_PORT,5,0,2)]
def w2 : State := node [0x11] [(OPT.STAT_STATE,1,0,3)]
def w3 : State := node [0x11] [(OPT.STAT_STATE,1,0,3),(OPT.hRet,1,0,1),(OLN.STAT_STATE,4,0,5)]
def w4 : State := node [0x11] [(OPT.STAT_STATE,1,0,3),(OPT.hRet,1,0,2)]
def w5 : State := node [0x11] [(OPT.STAT_STATE,1,0,3),(OLN.STAT_STATE,4,0,5)]
def w6 : State := node [0x11] [(OPT.STAT_STATE,1,0,3),(OPT.hPm,1,0,3)]
def w7 : State := node [0x11] [(OPT.STAT_STATE,1,0,3),(OPT.hPmPart,1,0,2)]
def w8 : State := node [0x11] [(OPT.STAT_STATE,1,0,4),(OPT.PM_STATE,1,0,2),(OPT.hTxSet,1,0,1),(OLN.STAT_STATE,4,0,7)]
def w9 : State := node [0x25] [(OPT.PM_STATE,1,0,3)]
def w10 : State := node [0x11] [(OPT.hBcn,1,0,2)]
def w11 : State := node [0x11] [(OPT.STAT_STATE,1,0,4)]
def w12 : State := node [0x11] [(OPT.STAT_STATE,1,0,4)]

theorem test_witness_PortLaneSetCommandsComplete :
    (∃ s : State, ∃ p : Fin 8, ∃ q, s.Inv ∧ (s.hub.mayForm p = true) ∧ (s.hub.on OPT.hReady p = true) ∧ ((∃ k : Nat, k < 4 ∧ s.hub.lane (4 * p + k) = 4)) ∧ ((∀ k : Nat, k < 4 → s.hub.lane (4 * p + k) = 4 → s.hub.rd OLN.STAT_PARTNER_LANE (4 * p + k) = k ∧ s.hub.rd OLN.STAT_PARTNER_PORT (4 * p + k) = q)) ∧ ((∀ k : Nat, k < 4 → ∀ j : Nat, j < 4 → s.hub.lane (4 * p + k) = 4 → s.hub.lane (4 * p + j) = 4 → s.hub.rd OLN.hLag (4 * p + k) ≤ s.hub.rd OLN.hLag (4 * p + j) + 48))) ∧
    (∃ s : State, ∃ p : Fin 8, s.Inv ∧ (s.hub.portOn p = true) ∧ (s.hub.on OPT.STAT_STATE p = true)) ∧
    (∃ s : State, ∃ p : Fin 8, s.Inv ∧ (s.hub.portOn p = true) ∧ (s.hub.on OPT.STAT_STATE p = true) ∧ (s.hub.on OPT.hRetAns p = false) ∧ (s.hub.rd OPT.hRet p = 1) ∧ (s.hub.rd OPT.hWidth p ≠ 2) ∧ (s.hub.newSet p ≠ [])) ∧
    (∃ s : State, ∃ p : Fin 8, ∃ block : Nat, s.Inv ∧ (s.hub.portOn p = true) ∧ (s.hub.on OPT.STAT_STATE p = true) ∧ (blockOk block = true) ∧ (block % 256 = 0x55) ∧ (block.testBit 16 = true) ∧ (s.hub.rd OPT.hRet p = 2)) ∧
    (∃ s : State, ∃ p : Fin 8, ∃ block : Nat, s.Inv ∧ (s.hub.portOn p = true) ∧ (s.hub.on OPT.STAT_STATE p = true) ∧ (blockOk block = true) ∧ (block % 256 = 0x55) ∧ (block.testBit 16 = false) ∧ ((∃ k : Nat, k < 4 ∧ k ∈ s.hub.working p ∧ (bits block 8 4).testBit k = false))) ∧
    (∃ s : State, ∃ p : Fin 8, s.Inv ∧ (s.hub.portOn p = true) ∧ (s.hub.rd OPT.STAT_STATE p = 3) ∧ (s.hub.rd OPT.hPm p = 3) ∧ (s.hub.on OPT.hRet p = false) ∧ (s.hub.on OPT.hRetAns p = false) ∧ (s.hub.rd OPT.hPmPart p ≠ 1)) ∧
    (∃ s : State, ∃ p : Fin 8, s.Inv ∧ (s.hub.portOn p = true) ∧ (s.hub.rd OPT.STAT_STATE p = 3) ∧ (s.hub.rd OPT.hPmPart p = 2)) ∧
    (∃ s : State, ∃ p : Fin 8, s.Inv ∧ (s.hub.portOn p = true) ∧ (s.hub.rd OPT.STAT_STATE p = 4) ∧ (s.hub.rd OPT.PM_STATE p = 2)) ∧
    (∃ s : State, ∃ r : Req, ∃ l : Fin 32, s.Inv ∧ (s.hub.Accepts r OLN.BEACON_SEND l) ∧ ((s.hub.rd OPT.PM_STATE (l / 4) = 3 ∨ s.hub.rd OPT.STAT_STATE (l / 4) = 0))) ∧
    (∃ s : State, ∃ p : Fin 8, s.Inv ∧ (s.hub.portOn p = true) ∧ (s.hub.on OPT.hBcn p = true)) ∧
    (∃ s : State, ∃ p : Fin 8, s.Inv ∧ (s.hub.portOn p = true)) ∧
    (∃ s : State, ∃ r, ∃ p : Fin 8, s.Inv ∧ (s.hub.Accepts r OPT.PM_EXIT p)) :=
  ⟨⟨w1, 1, 2, inv_and (by decide +kernel)⟩,
   ⟨w2, 1, inv_and (by decide +kernel)⟩,
   ⟨w3, 1, inv_and (by decide +kernel)⟩,
   ⟨w4, 1, ctlBlock 0x55 0x110, inv_and (by decide +kernel)⟩,
   ⟨w5, 1, ctlBlock 0x55 0x12, inv_and (by decide +kernel)⟩,
   ⟨w6, 1, inv_and (by decide +kernel)⟩,
   ⟨w7, 1, inv_and (by decide +kernel)⟩,
   ⟨w8, 1, inv_and (by decide +kernel)⟩,
   ⟨w9, cpu, 5, inv_of (by decide +kernel), accepts_of (by decide +kernel), by decide +kernel⟩,
   ⟨w10, 1, inv_and (by decide +kernel)⟩,
   ⟨w11, 1, inv_and (by decide +kernel)⟩,
   ⟨w12, cpu, 1, inv_of (by decide +kernel), accepts_of (by decide +kernel)⟩⟩

end W07

/-! ### Fragment 08 -/

namespace W08

def w1 : State := node [0x11] [(OPT.STAT_STATE,1,0,1)]
def w2 : State := node [0x11] [(OPT.STAT_STATE,1,0,3)]
def w3 : State := node [0x11] [(OPT.STAT_STATE,1,0,1),(OPT.hCapTok,1,0,9)] (fun h => { h with capRx := [(1, [1])] })
def w4 : State := node [0x11] []
def w5 : State := node [0x11] [(OPT.STAT_STATE,1,0,1)]
def w6 : State := node [0x11] []
def w7 : State := node [0x11] [(OPT.STAT_STATE,1,0,1),(OLN.STAT_STATE,4,0,5)]
def w8 : State := node [0x11] [(OPT.STAT_STATE,1,0,2)]
def w9 : State := node [0x11] []
def w10 : State := node [0x11] []
def w11 : State := node [0x11] [(OPT.STAT_STATE,1,0,3)]
def w12 : State := node [0x11] []
def w13 : State := node [0x11] [(OPT.STAT_STATE,1,0,3),(OPT.MBX_TXC_LEN,1,0,3)]
def w14 : State := node [0x11] []
def w15 : State := node [0x11, 0xB1] [(OPT.STAT_STATE,1,0,3),(HDR.PCTL_EN,0xB1,0,1)]
def w16 : State := node [0x11] [(OPT.STAT_STATE,1,0,3)]
def w17 : State := node [0x11] [(OPT.STAT_STATE,1,0,3)]
def w18 : State := node [0x11] [(OPT.STAT_STATE,1,0,3)]
def w19 : State := node [0x11] [(OPT.STAT_STATE,1,0,3),(OPT.CFG_WIDTH,1,0,2),(OPT.WIDTH_TARGET,1,0,1)]
def w20 : State := node [0x11] [(OPT.WIDTH_DONE,1,0,1)]
def w21 : State := node [0x11] []
def w22 : State := node [0x11] [(OPT.STAT_STATE,1,0,3)]
def w23 : State := node [0x11] [(OPT.STAT_STATE,1,0,3),(OPT.hWidth,1,0,1),(OPT.hWidthTok,1,0,5)]
def w24 : State := node [0x11] []
def w25 : State := node [0x11] [(OPT.hWidth,1,0,1)]
def w26 : State := node [0x11] []

theorem test_witness_LinkSetupCommandsComplete :
    (∃ s : State, ∃ p : Fin 8, ∃ payload : Bytes, s.Inv ∧ (s.hub.linkUp p = true) ∧ (Hub.capClash (s.hub.rd OPT.hCrypt p) (bits (leAt (padTo 64 payload) 13 1) 2 2) = false)) ∧
    (∃ s : State, ∃ p : Fin 8, ∃ payload : Bytes, s.Inv ∧ (s.hub.linkUp p = true) ∧ (Tab.get [] p.val s.hub.capRx ≠ padTo 64 payload) ∧ (Hub.capClash (s.hub.rd OPT.hCrypt p) (bits (leAt (padTo 64 payload) 13 1) 2 2) = true)) ∧
    (∃ s : State, ∃ p : Fin 8, ∃ tok : Nat, s.Inv ∧ (s.hub.portOn p = true) ∧ (s.hub.rd OPT.STAT_STATE p = 1) ∧ (s.hub.rd OPT.hCapTok p = tok)) ∧
    (∃ s : State, ∃ p : Fin 8, ∃ tok : Nat, s.Inv ∧ (s.hub.rd OPT.STAT_STATE p ≠ 1 ∨ s.hub.rd OPT.hCapTok p ≠ tok)) ∧
    (∃ s : State, ∃ p : Fin 8, s.Inv ∧ (s.hub.portOn p = true) ∧ (s.hub.rd OPT.STAT_STATE p = 1) ∧ (s.hub.on OPT.hCapAck p = false)) ∧
    (∃ s : State, ∃ p : Fin 8, s.Inv ∧ (s.hub.rd OPT.STAT_STATE p ≠ 1 ∨ s.hub.on OPT.hCapAck p = true)) ∧
    (∃ s : State, ∃ p : Fin 8, s.Inv ∧ (s.hub.portOn p = true) ∧ (s.hub.rd OPT.STAT_STATE p = 1)) ∧
    (∃ s : State, ∃ p : Fin 8, s.Inv ∧ (s.hub.portOn p = true) ∧ (s.hub.rd OPT.STAT_STATE p = 2)) ∧
    (∃ s : State, ∃ p : Fin 8, s.Inv ∧ (s.hub.rd OPT.STAT_STATE p ≠ 1)) ∧
    (∃ s : State, ∃ p : Fin 8, s.Inv ∧ (s.hub.rd OPT.STAT_STATE p ≠ 2)) ∧
    (∃ s : State, ∃ r : Req, ∃ p : Fin 8, s.Inv ∧ (s.hub.Accepts r OPT.CTL_DOWN p) ∧ (s.hub.rd OPT.STAT_STATE p ≠ 0)) ∧
    (∃ s : State, ∃ r : Req, ∃ p : Fin 8, s.Inv ∧ (s.hub.Accepts r OPT.CTL_DOWN p) ∧ (s.hub.rd OPT.STAT_STATE p = 0)) ∧
    (∃ s : State, ∃ r : Req, ∃ p : Fin 8, s.Inv ∧ (s.hub.Accepts r OPT.MBX_TXC_GO p) ∧ (s.hub.on OPT.MBX_TXC_BUSY p = false) ∧ (s.hub.on OPT.STAT_STATE p = true)) ∧
    (∃ s : State, ∃ r : Req, ∃ p : Fin 8, s.Inv ∧ (s.hub.Accepts r OPT.MBX_TXC_GO p) ∧ (s.hub.on OPT.MBX_TXC_BUSY p = true ∨ s.hub.on OPT.STAT_STATE p = false)) ∧
    (∃ s : State, ∃ p : Fin 8, ∃ payload : Bytes, s.Inv ∧ (s.hub.linkUp p = true) ∧ (s.hub.live (0xB0 + p) = true) ∧ ((leAt payload 0 1 = 0 ∨ 13 < leAt payload 0 1))) ∧
    (∃ s : State, ∃ p : Fin 8, ∃ typ : Nat, s.Inv ∧ (s.hub.linkUp p = true) ∧ (Hub.lmcReserved typ = true)) ∧
    (∃ s : State, ∃ p : Fin 8, ∃ typ : Nat, s.Inv ∧ (s.hub.linkUp p = true) ∧ (0x10 ≤ typ) ∧ (typ ≤ 0x1F)) ∧
    (∃ s : State, ∃ p : Fin 8, ∃ typ : Nat, s.Inv ∧ (s.hub.linkUp p = true) ∧ (1 ≤ typ) ∧ (typ ≤ 0x0A)) ∧
    (∃ s : State, ∃ r : Req, ∃ p : Fin 8, s.Inv ∧ (s.hub.Accepts r OPT.WIDTH_GO p) ∧ (s.hub.rd OPT.WIDTH_DONE p ≠ 1) ∧ (s.hub.rd OPT.STAT_STATE p = 3)) ∧
    (∃ s : State, ∃ r : Req, ∃ p : Fin 8, s.Inv ∧ (s.hub.Accepts r OPT.WIDTH_GO p) ∧ (s.hub.rd OPT.WIDTH_DONE p = 1)) ∧
    (∃ s : State, ∃ r : Req, ∃ p : Fin 8, s.Inv ∧ (s.hub.Accepts r OPT.WIDTH_GO p) ∧ (s.hub.rd OPT.WIDTH_DONE p ≠ 1) ∧ (s.hub.rd OPT.STAT_STATE p ≠ 3)) ∧
    (∃ s : State, ∃ p : Fin 8, s.Inv ∧ (s.hub.portOn p = true) ∧ (s.hub.rd OPT.STAT_STATE p = 3)) ∧
    (∃ s : State, ∃ p : Fin 8, ∃ tok : Nat, s.Inv ∧ (s.hub.portOn p = true) ∧ (s.hub.rd OPT.STAT_STATE p = 3) ∧ (s.hub.rd OPT.hWidth p = 1) ∧ (s.hub.rd OPT.hWidthTok p = tok + 1)) ∧
    (∃ s : State, ∃ p : Fin 8, ∃ tok : Nat, s.Inv ∧ (s.hub.rd OPT.STAT_STATE p ≠ 3 ∨ s.hub.rd OPT.hWidth p ≠ 1 ∨ s.hub.rd OPT.hWidthTok p ≠ tok + 1)) ∧
    (∃ s : State, ∃ p : Fin 8, s.Inv ∧ (s.hub.portOn p = true) ∧ (s.hub.rd OPT.hWidth p = 1)) ∧
    (∃ s : State, ∃ p : Fin 8, s.Inv ∧ (s.hub.rd OPT.hWidth p ≠ 1)) :=
  ⟨⟨w1, 1, [1,2,3,4,5,6,7,8,9,1,0,3], inv_and (by decide +kernel)⟩,
   ⟨w2, 1, [1,2,3,4,5,6,7,8,9,1,0,3,0,12], inv_and (by decide +kernel)⟩,
   ⟨w3, 1, 9, inv_and (by decide +kernel)⟩,
   ⟨w4, 1, 9, inv_and (by decide +kernel)⟩,
   ⟨w5, 1, inv_and (by decide +kernel)⟩,
   ⟨w6, 1, inv_and (by decide +kernel)⟩,
   ⟨w7, 1, inv_and (by decide +kernel)⟩,
   ⟨w8, 1, inv_and (by decide +kernel)⟩,
   ⟨w9, 1, inv_and (by decide +kernel)⟩,
   ⟨w10, 1, inv_and (by decide +kernel)⟩,
   ⟨w11, cpu, 1, inv_of (by decide +kernel), accepts_of (by decide +kernel), by decide +kernel⟩,
   ⟨w12, cpu, 1, inv_of (by decide +kernel), accepts_of (by decide +kernel), by decide +kernel⟩,
   ⟨w13, cpu, 1, inv_of (by decide +kernel), accepts_of (by decide +kernel), by decide +kernel⟩,
   ⟨w14, cpu, 1, inv_of (by decide +kernel), accepts_of (by decide +kernel), by decide +kernel⟩,
   ⟨w15, 1, [0, 2], inv_and (by decide +kernel)⟩,
   ⟨w16, 1, 57, inv_and (by decide +kernel)⟩,
   ⟨w17, 1, 0x14, inv_and (by decide +kernel)⟩,
   ⟨w18, 1, 4, inv_and (by decide +kernel)⟩,
   ⟨w19, cpu, 1, inv_of (by decide +kernel), accepts_of (by decide +kernel), by decide +kernel⟩,
   ⟨w20, cpu, 1, inv_of (by decide +kernel), accepts_of (by decide +kernel), by decide +kernel⟩,
   ⟨w21, cpu, 1, inv_of (by decide +kernel), accepts_of (by decide +kernel), by decide +kernel⟩,
   ⟨w22, 1, inv_and (by decide +kernel)⟩,
   ⟨w23, 1, 4, inv_and (by decide +kernel)⟩,
   ⟨w24, 1, 4, inv_and (by decide +kernel)⟩,
   ⟨w25, 1, inv_and (by decide +kernel)⟩,
   ⟨w26, 1, inv_and (by decide +kernel)⟩⟩

end W08

/-! ### Fragment 09 -/

namespace W09

/-- Sixteen frames of one span. -/
def span16 : List RFrame := (List.range 16).map fun k => ⟨32 + k, 0, false, [], 4, false⟩
/-- A link frame with SEQ `n` that passes its checks. -/
def good (n : Nat) : LinkFrame :=
  let f : LinkFrame := { slots := List.replicate 8 (List.replicate 72 0), crc := 0, seq := n, sf := true, ca := false, ncell := 0, lmc := false, value := 0, typ := 0 }
  { f with crc := frameCrc f }

def w1 : State := node [0x11] [(OPT.STAT_STATE,1,0,3)]
def w2 : State := node [0x11] [(OPT.STAT_STATE,1,0,3),(OPT.hPm,1,0,1)]
def w3 : State := node [0x11] [(OPT.STAT_STATE,1,0,3)]
def w4 : State := node [0x11] [(OPT.hPmPart,1,0,1)]
def w5 : State := node [0x11] [(OPT.STAT_STATE,1,0,3),(OPT.hPm,1,0,2),(OPT.hPmTok,1,0,4)]
def w6 : State := node [0x11] [(OPT.hPm,1,0,2)]
def w7 : State := node [0x11] [(OPT.STAT_STATE,1,0,3)]
def w8 : State := node [0x11] [(OPT.STAT_STATE,1,0,3)]
def w9 : State := node [0x11] [(OPT.STAT_STATE,1,0,3),(OPT.hMarkTime,1,9,77),(OPT.hRxMarkTime,1,5,990)]
def w10 : State := node [0x11] [(OPT.STAT_STATE,1,0,2),(KEY.SATTR_VALID,0,0,1),(KEY.SATTR_RECIPIENT,0,0,1),(KEY.hFresh,0,1,1)]
def w11 : State := node [0x11] [(OPT.STAT_STATE,1,0,2),(KEY.SATTR_VALID,0,0,1),(KEY.SATTR_RECIPIENT,0,0,1),(KEY.hFresh,0,1,1)]
def w12 : State := node [0x11] [(OPT.STAT_STATE,1,0,2),(OPT.hKeyTok,1,0,5)]
def w13 : State := node [0x11] [(OPT.STAT_STATE,1,0,3),(OPT.STAT_ENC,1,0,1),(KEY.SATTR_VALID,0,0,1),(KEY.SATTR_RECIPIENT,0,0,1),(KEY.hFresh,0,1,1)]

theorem test_witness_LinkPowerTimeKeyCommandsComplete :
    (∃ s : State, ∃ r : Req, ∃ p : Fin 8, s.Inv ∧ (s.hub.Accepts r OPT.PM_GO p) ∧ (s.hub.rd OPT.STAT_STATE p = 3) ∧ (s.hub.on OPT.hPm p = false)) ∧
    (∃ s : State, ∃ p : Fin 8, s.Inv ∧ (s.hub.portOn p = true) ∧ (s.hub.rd OPT.hPm p = 1) ∧ (s.hub.drained p = true) ∧ (s.hub.lanesBusy p = false)) ∧
    (∃ s : State, ∃ p : Fin 8, s.Inv ∧ (s.hub.portOn p = true) ∧ (s.hub.rd OPT.STAT_STATE p = 3)) ∧
    (∃ s : State, ∃ p : Fin 8, s.Inv ∧ (s.hub.portOn p = true) ∧ (s.hub.rd OPT.hPmPart p = 1) ∧ (s.hub.drained p = true) ∧ (s.hub.lanesBusy p = false)) ∧
    (∃ s : State, ∃ p : Fin 8, ∃ tok : Nat, s.Inv ∧ (s.hub.portOn p = true) ∧ (s.hub.rd OPT.STAT_STATE p = 3) ∧ (s.hub.rd OPT.hPm p = 2) ∧ (s.hub.rd OPT.hPmTok p = tok)) ∧
    (∃ s : State, ∃ p : Fin 8, s.Inv ∧ (s.hub.portOn p = true) ∧ (s.hub.rd OPT.hPm p = 2)) ∧
    (∃ s : State, ∃ r, ∃ p : Fin 8, s.Inv ∧ (s.hub.Accepts r OPT.TIME_GO p) ∧ (s.hub.linkUp p = true)) ∧
    (∃ s : State, ∃ p : Fin 8, s.Inv ∧ (s.hub.linkUp p = true) ∧ (s.hub.on OPT.TIME_PERIOD_US p = true)) ∧
    (∃ s : State, ∃ p : Fin 8, ∃ payload : Bytes, s.Inv ∧ (s.hub.linkUp p = true) ∧ (s.hub.rd OPT.hMarkTime p (leAt (padTo 64 payload) 16 2 % 4096) ≠ 0) ∧ (s.hub.rd OPT.hRxMarkTime p (leAt (padTo 64 payload) 0 2 % 4096) ≠ 0)) ∧
    (∃ s : State, ∃ r : Req, ∃ p : Fin 8, s.Inv ∧ (s.hub.Accepts r OPT.CRYPT_ARM p) ∧ (s.hub.rd OPT.STAT_STATE p = 2)) ∧
    (∃ s : State, ∃ p : Fin 8, ∃ phase : Nat, ∃ span : Nat, s.Inv ∧ (s.hub.linkUp p = true) ∧ (s.hub.armable p (s.hub.keySlot p false (phase % 2)) = true) ∧ (s.hub.rd OPT.hRxExt p ≤ 16 * span)) ∧
    (∃ s : State, ∃ p : Fin 8, ∃ tok : Nat, s.Inv ∧ (s.hub.linkUp p = true) ∧ (s.hub.rd OPT.hKeyTok p = tok + 1)) ∧
    (∃ s : State, ∃ r : Req, ∃ p : Fin 8, s.Inv ∧ (s.hub.Accepts r OPT.CRYPT_ROLL p) ∧ (s.hub.rd OPT.STAT_STATE p = 3) ∧ (s.hub.on OPT.STAT_ENC p = true) ∧ (s.hub.on OPT.CRYPT_ROLL_BUSY p = false) ∧ (s.hub.armable p (s.hub.keySlot p true (1 - s.hub.rd OPT.STAT_TXPH p)) = true)) :=
  ⟨⟨w1, cpu, 1, inv_of (by decide +kernel), accepts_of (by decide +kernel), by decide +kernel⟩,
   ⟨w2, 1, inv_and (by decide +kernel)⟩,
   ⟨w3, 1, inv_and (by decide +kernel)⟩,
   ⟨w4, 1, inv_and (by decide +kernel)⟩,
   ⟨w5, 1, 4, inv_and (by decide +kernel)⟩,
   ⟨w6, 1, inv_and (by decide +kernel)⟩,
   ⟨w7, cpu, 1, inv_of (by decide +kernel), accepts_of (by decide +kernel), by decide +kernel⟩,
   ⟨w8, 1, inv_and (by decide +kernel)⟩,
   ⟨w9, 1, natLe 8 5 ++ natLe 8 1000 ++ natLe 8 9 ++ natLe 8 2000, inv_and (by decide +kernel)⟩,
   ⟨w10, cpu, 1, inv_of (by decide +kernel), accepts_of (by decide +kernel), by decide +kernel⟩,
   ⟨w11, 1, 0, 5, inv_and (by decide +kernel)⟩,
   ⟨w12, 1, 4, inv_and (by decide +kernel)⟩,
   ⟨w13, cpu, 1, inv_of (by decide +kernel), accepts_of (by decide +kernel), by decide +kernel⟩⟩

def w14 : State := node [0x11] [(OPT.STAT_STATE,1,0,3),(OPT.hTxSet,1,0,3)]
def w15 : State := node [0x11] [(OPT.STAT_STATE,1,0,3),(OPT.hRxSet,1,0,3),(OLN.STAT_STATE,5,0,5)]
def w16 : State := node [0x11] [] (fun h => { h with replay := [(1, [⟨5, 0, false, [], 4, false⟩])] })
def w17 : State := node [0x11] [] (fun h => { h with spanRx := [(1, span16)] })

theorem test_witness_LinkFrameCommandsComplete :
    (∃ s : State, ∃ p : Fin 8, s.Inv ∧ (s.hub.portOn p = true) ∧ (1 ≤ s.hub.rd OPT.STAT_STATE p) ∧ (s.hub.rd OPT.STAT_STATE p ≤ 3) ∧ (s.hub.rd OPT.hTxExt p + 8 < 2 ^ 36)) ∧
    (∃ s : State, ∃ p : Fin 8, ∃ k : Fin 4, s.Inv ∧ (s.hub.portOn p = true) ∧ (1 ≤ s.hub.rd OPT.STAT_STATE p) ∧ (s.hub.rd OPT.STAT_STATE p ≤ 3) ∧ ((s.hub.rd OPT.hRxSet p).testBit (s.hub.logical p k) = true) ∧ ((s.hub.lane (4 * p + k) = 5 ∨ s.hub.lane (4 * p + k) = 6))) ∧
    (∃ s : State, ∃ p : Fin 8, ∃ f, ∃ rest, s.Inv ∧ (s.hub.portOn p = true) ∧ (Tab.get [] p.val s.hub.replay = f :: rest)) ∧
    (∃ s : State, ∃ p : Fin 8, ∃ f, ∃ rest, s.Inv ∧ (s.hub.portOn p = true) ∧ (Tab.get [] p.val s.hub.spanRx = f :: rest) ∧ (16 ≤ ((f :: rest).filter fun x => x.ext / 16 == f.ext / 16).length) ∧ (s.hub.rd OPT.hTagFail p < 3)) :=
  ⟨⟨w14, 1, inv_and (by decide +kernel)⟩,
   ⟨w15, 1, 1, inv_and (by decide +kernel)⟩,
   ⟨w16, 1, ⟨5, 0, false, [], 4, false⟩, [], inv_and (by decide +kernel)⟩,
   ⟨w17, 1, ⟨32, 0, false, [], 4, false⟩, span16.drop 1, inv_and (by decide +kernel)⟩⟩

end W09

/-! ### Fragment 10 -/

namespace W10

def ent0 : List Nat := [0x5000 + 0x100000 + 2 * 2^23, 2 + 3 * 65536 + 2^20, 0x3FFF, 0, 0, 0x1FFF, 0, 0]
def tunSt (h : Hub) : Hub := h.setTwords (tunAddr (4 * tunSet 0x5000)) ent0
def cell0 : Cell := { tid := 0x5000, kind := 1, dn := false, vc := 1, colour := 0, sop := true, eop := true, poison := false, twin := false, seq := 0, fill := 0, age := 0, payload := [1,2] }
def tgt0 : Tgt := { pt := 8, ct := false }
def pkt0 : Pkt := { tid := 0x5000, kind := 1, vc := 1, dn := false, twin := false, seq := 0, colour := 0, cls := 3, tgts := [tgt0], ingress := 1, tin := 0, age := 0, complete := true, cells := [⟨7, [1], 0, 0, 0⟩], nq := 1 }
def withP (h : Hub) : Hub := { h with pkts := [(5, pkt0)], queues := [(8 * 16 + 3, [5])] }

def w1 : State := node [0x40,0x41,0x48,0x49,0x4B,0x60,0x69] [(SWB.FREE_COUNT,0,0,5),(THR.SFREE_CELLS,0,0,1000)] tunSt
def w2 : State := node [0x58, 0x48] [(HDR.PCTL_EN,0x58,0,1)] withP
def w3 : State := node [0x4A] [(TOP.NTIME_LO_NS,0,0,0x10000000)] withP
def w4 : State := node [0x48] [(SWB.SCRUB_EN,0,0,1)] withP
def w5 : State := node [0x48] [(SWB.SCRUB_EN,0,0,1)]
def w6 : State := node [0x48] [(SWB.hWiping,0,0,1)]
def w7 : State := node [] [(THR.QSEL_POINT,0,0,2)]
def w8 : State := node [0x51] []
def w9 : State := node [] []
def w10 : State := node [0x60] []
def w11 : State := node [0x60] []

theorem test_witness_BufferCommandsComplete :
    (∃ s : State, ∃ pt : Fin 14, ∃ c : Cell, ∃ i, ∃ t, s.Inv ∧ (s.hub.mayEnter pt = true) ∧ (s.hub.released pt c.vc = true) ∧ (s.hub.bit FIL.hParity (s.hub.attachIn pt c.tid) = false) ∧ (cellBad c false = false) ∧ (Tab.find (s.hub.openKey pt c) s.hub.opens = none) ∧ (0x4000 ≤ c.tid) ∧ (c.poison = false) ∧ (s.hub.tunFind c.tid = some i) ∧ ((s.hub.tun i).state = 2) ∧ ((s.hub.tun i).kind = c.kind) ∧ ((s.hub.tun i).ingress.testBit pt = true) ∧ ((8 ≤ pt.val → (s.hub.tun i).source = false)) ∧ ((s.hub.tun i).merge = false) ∧ ((s.hub.tun i).meter = 0x1FFF) ∧ (pointsOf (s.hub.tun i).egress = [t]) ∧ (s.hub.admits c.colour (queueOf t (s.hub.tun i).qclass) = true) ∧ (s.hub.on SWB.DESC_FREE = true) ∧ (s.hub.on SWB.QENT_FREE = true) ∧ (s.hub.on SWB.FREE_COUNT = true)) ∧
    (∃ s : State, ∃ pt : Fin 14, ∃ x, s.Inv ∧ (s.hub.live (0x50 + pt) = true) ∧ (s.hub.up 0x48 = true) ∧ ((8 ≤ pt.val ∨ (s.hub.portUp pt = true ∧ s.hub.on OPT.hPmHold pt = false ∧ (Tab.get [] pt.val s.hub.egOut).length < 32))) ∧ (s.hub.on HDR.PSTAT_CPEND (0x50 + pt) = false) ∧ ((∀ c : Nat, c < 16 → (s.hub.queue (queueOf pt c)).all (fun id => s.hub.targets id pt) = true)) ∧ (s.hub.cands pt (s.hub.heads pt) = [x]) ∧ ((x.tgt.started = true ∨ (s.hub.tooOld x.pkt = false ∧ (pt.val = 13 → x.pkt.kind ≠ 0))))) ∧
    (∃ s : State, ∃ pt, ∃ id, ∃ p, s.Inv ∧ (s.hub.up 0x4A = true) ∧ (p.cls < 16) ∧ (s.hub.queues = [(queueOf pt p.cls, [id])]) ∧ (s.hub.pkt id = some p) ∧ ((p.tgts.any fun t => t.pt == pt) = true) ∧ ((p.tgts.all fun t => !(t.pt == pt && t.started)) = true) ∧ (s.hub.tooOld p = true)) ∧
    (∃ s : State, ∃ bank : Fin 64, ∃ idle : Bool, s.Inv ∧ (s.hub.up 0x48 = true) ∧ (s.hub.on SWB.SCRUB_EN = true) ∧ (s.hub.scrubTakes bank idle = true) ∧ (((s.hub.holder (s.hub.rd SWB.hScrubRow 0 bank * 64 + bank.val)).any fun x => x.2.1.stuck) = false)) ∧
    (∃ s : State, s.Inv ∧ (s.hub.up 0x48 = true) ∧ (s.hub.on SWB.SCRUB_EN = true)) ∧
    (∃ s : State, s.Inv ∧ (s.hub.on SWB.hWiping = true) ∧ (s.hub.domOn 2 = true)) ∧
    (∃ s : State, ∃ r : Req, ∃ v : Nat, s.Inv ∧ (s.hub.Grants r THR.QCFG_ALPHA 0) ∧ (queueOf (s.hub.rd THR.QSEL_POINT) (s.hub.rd THR.QSEL_CLASS) < 224) ∧ ((bits v 0 4 < 11 ∨ bits v 0 4 = 15)) ∧ (s.hub.rd THR.RESV_CELLS - s.hub.rd THR.QCFG_MIN 0 (queueOf (s.hub.rd THR.QSEL_POINT) (s.hub.rd THR.QSEL_CLASS)) + bits v 16 12 + s.hub.rd THR.HEADROOM_CELLS ≤ 196608)) ∧
    (∃ s : State, ∃ pt : Fin 14, s.Inv ∧ (s.hub.up (0x50 + pt) = true)) ∧
    (∃ s : State, ∃ r : Req, ∃ pt : Fin 14, ∃ v : Nat, s.Inv ∧ (s.hub.Grants r SCH.WHEEL_GRAN pt) ∧ (s.hub.on HDR.PCTL_EN (0x50 + pt) = false) ∧ (bits v 0 4 < 11)) ∧
    (∃ s : State, ∃ r : Req, s.Inv ∧ (s.hub.Accepts r MTR.MINIT_GO 0) ∧ (s.hub.rd MTR.MSEL_METER < 8191)) ∧
    (∃ s : State, ∃ r : Req, s.Inv ∧ (s.hub.Accepts r MTR.MCLR_GO 0) ∧ (s.hub.rd MTR.MSEL_METER < 8191)) :=
  ⟨⟨w1, 13, cell0, 4 * tunSet 0x5000, 1, inv_and (by decide +kernel)⟩,
   ⟨w2, 8, ⟨3, 5, pkt0, tgt0⟩, inv_and (by decide +kernel)⟩,
   ⟨w3, 8, 5, pkt0, inv_and (by decide +kernel)⟩,
   ⟨w4, 3, true, inv_and (by decide +kernel)⟩,
   ⟨w5, inv_and (by decide +kernel)⟩,
   ⟨w6, inv_and (by decide +kernel)⟩,
   ⟨w7, cpu, 0x20103, inv_of (by decide +kernel), grants_of (by decide +kernel), by decide +kernel⟩,
   ⟨w8, 1, inv_and (by decide +kernel)⟩,
   ⟨w9, cpu, 2, 5, inv_of (by decide +kernel), grants_of (by decide +kernel), by decide +kernel⟩,
   ⟨w10, cpu, inv_of (by decide +kernel), accepts_of (by decide +kernel), by decide +kernel⟩,
   ⟨w11, cpu, inv_of (by decide +kernel), accepts_of (by decide +kernel), by decide +kernel⟩⟩

end W10

/-! ### Fragment 11 -/

namespace W11

def mkE (st : Nat) : List Nat := [0x5000 + 0x100000 + st * 2^23, 2 + 3 * 65536 + 2^20, 0x3FFF, 0, 0, 0x1FFF, 0, 0]
def E5 : Nat := 4 * tunSet 0x5000
def withE (st : Nat) (h : Hub) : Hub := h.setTwords (tunAddr E5) (mkE st)
def ask0 : Ask := { msg := { typ := 0x10, dst := 3, tok := 9 } }
def withA (a : Ask) (h : Hub) : Hub := { h with asks := [(9, a)] }
def crown : List (Fld × Nat × Nat × Nat) := [(CAS.CROWN_VALID,0,0,1),(CAS.CROWN_NODE,0,0,3),(UPD.hFw,0,0,1)]

def w1 : State := node [0, 0x40] crown
def w2 : State := node [0, 0x40] crown (withE 1)
def w3 : State := node [0, 0x40] crown (withE 2)
def w4 : State := node [0] crown (withA ask0)
def w5 : State := node [0] crown (withA ask0)
def w6 : State := node [0x40] [] (withE 1)
def w7 : State := node [0x40] [] (withE 3)
def w8 : State := node [] []
def w9 : State := node [0x69] []
def w10 : State := node [0x69] [(TWN.CCFG_ACTIVE,0,3,1),(TWN.hHeard,0,3,3)]
def w11 : State := node [0x40] [(TUN.RRQ_NODE_NODE,0,0,9)]
def w12 : State := node [0x40] [(TUN.RRQ_CTL_DONE,0,0,1),(TUN.RRQ_STAT_TOKEN,0,0,4)]
def w13 : State := node [0x40] [(TUN.RRQ_CTL_DONE,0,0,1)]

theorem test_witness_TunnelCommandsComplete :
    (∃ s : State, ∃ src : Nat, ∃ entry : List Nat, ∃ i, s.Inv ∧ (s.hub.fwOn = true) ∧ (s.hub.up 0x40 = true) ∧ (s.hub.isCrown src = true) ∧ (s.hub.tunFind (Ent.tid entry) = none) ∧ ((Hub.tunWays (Ent.tid entry)).find? (fun j => (s.hub.tun j).state == 0) = some i) ∧ (s.hub.entBad i (pendingEntry entry) = false) ∧ (Ent.merge (pendingEntry entry) = false)) ∧
    (∃ s : State, ∃ src : Nat, ∃ tid : Nat, ∃ i, s.Inv ∧ (s.hub.fwOn = true) ∧ (s.hub.up 0x40 = true) ∧ (s.hub.isCrown src = true) ∧ (s.hub.tunFind tid = some i) ∧ ((s.hub.tun i).state = 1) ∧ ((s.hub.tun i).egress ≠ 0) ∧ ((s.hub.tun i).ingress ≠ 0)) ∧
    (∃ s : State, ∃ src : Nat, ∃ tid : Nat, ∃ i, s.Inv ∧ (s.hub.fwOn = true) ∧ (s.hub.up 0x40 = true) ∧ (s.hub.isCrown src = true) ∧ (s.hub.tunFind tid = some i)) ∧
    (∃ s : State, ∃ src : Nat, ∃ tok : Nat, ∃ typ : Nat, ∃ a, s.Inv ∧ (s.hub.fwOn = true) ∧ (Tab.find tok s.hub.asks = some a) ∧ (a.msg.dst = src) ∧ (a.msg.typ = typ) ∧ (a.chg = none)) ∧
    (∃ s : State, ∃ tok : Nat, ∃ a, s.Inv ∧ (s.hub.fwOn = true) ∧ (s.hub.domOn 2 = true) ∧ (Tab.find tok s.hub.asks = some a) ∧ (a.tries < 3)) ∧
    (∃ s : State, ∃ idx : Fin 8192, s.Inv ∧ (s.hub.up 0x40 = true) ∧ ((s.hub.tun idx).state = 1)) ∧
    (∃ s : State, ∃ idx : Fin 8192, s.Inv ∧ (s.hub.up 0x40 = true) ∧ ((s.hub.tun idx).state = 3)) ∧
    (∃ s : State, ∃ r : Req, s.Inv ∧ (s.hub.Grants r RTE.GEN_CUR 0)) ∧
    (∃ s : State, ∃ r : Req, s.Inv ∧ (s.hub.Accepts r TWN.CCTL_INIT 0)) ∧
    (∃ s : State, ∃ ctx : Fin 1024, s.Inv ∧ (s.hub.up 0x69 = true) ∧ (s.hub.on TWN.CCFG_ACTIVE 0 ctx = true)) ∧
    (∃ s : State, ∃ r : Req, s.Inv ∧ (s.hub.Accepts r TUN.RRQ_CTL_GO 0) ∧ (s.hub.rd TUN.RRQ_CTL_DONE ≠ 1)) ∧
    (∃ s : State, ∃ tok : Nat, s.Inv ∧ (s.hub.up 0x40 = true) ∧ (s.hub.rd TUN.RRQ_CTL_DONE = 1) ∧ (tok % 2 ^ 16 = s.hub.rd TUN.RRQ_STAT_TOKEN)) ∧
    (∃ s : State, s.Inv ∧ (s.hub.up 0x40 = true) ∧ (s.hub.rd TUN.RRQ_CTL_DONE = 1)) :=
  ⟨⟨w1, 3, mkE 0, E5, inv_and (by decide +kernel)⟩,
   ⟨w2, 3, 0x5000, E5, inv_and (by decide +kernel)⟩,
   ⟨w3, 3, 0x5000, E5, inv_and (by decide +kernel)⟩,
   ⟨w4, 3, 9, 0x10, ask0, inv_and (by decide +kernel)⟩,
   ⟨w5, 9, ask0, inv_and (by decide +kernel)⟩,
   ⟨w6, Fin.ofNat 8192 E5, inv_and (by decide +kernel)⟩,
   ⟨w7, Fin.ofNat 8192 E5, inv_and (by decide +kernel)⟩,
   ⟨w8, cpu, inv_of (by decide +kernel), grants_of (by decide +kernel)⟩,
   ⟨w9, cpu, inv_of (by decide +kernel), accepts_of (by decide +kernel)⟩,
   ⟨w10, 3, inv_and (by decide +kernel)⟩,
   ⟨w11, cpu, inv_of (by decide +kernel), accepts_of (by decide +kernel), by decide +kernel⟩,
   ⟨w12, 4, inv_and (by decide +kernel)⟩,
   ⟨w13, inv_and (by decide +kernel)⟩⟩

def w14 : State := node [0x61] (crown ++ [(FIL.GUARD_LIMIT,0,0,4000),(CRT.PCAP_CT,0,1,800),(OPT.STAT_STATE,1,0,3),(OPT.STAT_WIDTH,1,0,2)]) (withE 2)
def w15 : State := node [0x61] (crown ++ [(CRT.RREC_STATE,0,E5,2),(CRT.RTXN_TXN,0,E5,7),(CRT.RREC_TARGET,0,E5,50)]) (withE 2)
def w16 : State := node [0x61] (crown ++ [(CRT.RREC_STATE,0,E5,2),(CRT.RTXN_TXN,0,E5,7),(CRT.RREC_TARGET,0,E5,50)]) (withE 2)
def w17 : State := node [0x61] (crown ++ [(CRT.RREC_STATE,0,E5,1),(CRT.RREC_COMMITTED,0,E5,90)]) (withE 2)
def w18 : State := node [0x61] (crown ++ [(CRT.RREC_STATE,0,E5,1),(CRT.RREC_COMMITTED,0,E5,90)]) (withE 2)
def w19 : State := node [0] crown (withA ask0)
def w20 : State := node [0] crown (withA ask0)
def w21 : State := node [0x61] [(CRT.RREC_STATE,0,4,2),(CRT.RREC_TARGET,0,4,2)]
def w22 : State := node [0x61] [(CRT.RREC_STATE,0,4,1)]
def w23 : State := node [0, 0x40] (crown ++ [(CAS.STAT_CROLE,0,0,1)]) (fun h => { h with unrec := [⟨4, 0x23, 5, 6, 7⟩] })

theorem test_witness_CaratCommandsComplete :
    (∃ s : State, ∃ src : Nat, ∃ tid : Nat, ∃ txn : Nat, ∃ amount : Nat, ∃ egress : Nat, ∃ i, s.Inv ∧ (s.hub.up 0x61 = true) ∧ (s.hub.isCrown src = true) ∧ (s.hub.tunFind tid = some i) ∧ ((s.hub.tun i).state ≠ 3) ∧ ((egress = 0 ∨ egress = (s.hub.tun i).egress)) ∧ (s.hub.rd CRT.RREC_COMMITTED 0 i ≤ amount) ∧ (amount ≤ 4095) ∧ (s.hub.rd CRT.RREC_STATE 0 i ≠ 2) ∧ (s.hub.rd CRT.RTXN_TXN 0 i ≠ txn % 2 ^ 16) ∧ ((amount ≤ s.hub.rd CRT.RREC_TARGET 0 i ∨ s.hub.fits i (s.hub.rd CRT.RREC_TARGET 0 i) amount = none))) ∧
    (∃ s : State, ∃ src : Nat, ∃ tid : Nat, ∃ txn : Nat, ∃ i, s.Inv ∧ (s.hub.up 0x61 = true) ∧ (s.hub.isCrown src = true) ∧ (s.hub.tunFind tid = some i) ∧ ((s.hub.tun i).state ≠ 3) ∧ (s.hub.rd CRT.RREC_STATE 0 i = 2) ∧ (s.hub.rd CRT.RTXN_TXN 0 i = txn % 2 ^ 16)) ∧
    (∃ s : State, ∃ src : Nat, ∃ tid : Nat, ∃ txn : Nat, ∃ i, s.Inv ∧ (s.hub.up 0x61 = true) ∧ (s.hub.isCrown src = true) ∧ (s.hub.tunFind tid = some i) ∧ (s.hub.rd CRT.RREC_STATE 0 i = 2) ∧ (s.hub.rd CRT.RTXN_TXN 0 i = txn % 2 ^ 16)) ∧
    (∃ s : State, ∃ src : Nat, ∃ tid : Nat, ∃ amount : Nat, ∃ i, s.Inv ∧ (s.hub.up 0x61 = true) ∧ (s.hub.isCrown src = true) ∧ (s.hub.tunFind tid = some i) ∧ (amount ≤ s.hub.rd CRT.RREC_COMMITTED 0 i)) ∧
    (∃ s : State, ∃ src : Nat, ∃ tid : Nat, ∃ i, s.Inv ∧ (s.hub.up 0x61 = true) ∧ (s.hub.isCrown src = true) ∧ (s.hub.tunFind tid = some i)) ∧
    (∃ s : State, ∃ src : Nat, ∃ tok : Nat, ∃ typ : Nat, ∃ a, s.Inv ∧ (s.hub.fwOn = true) ∧ (Tab.find tok s.hub.asks = some a) ∧ (a.msg.dst = src) ∧ (a.msg.typ = typ) ∧ (a.chg = none)) ∧
    (∃ s : State, ∃ tok : Nat, ∃ a, s.Inv ∧ (s.hub.fwOn = true) ∧ (s.hub.domOn 2 = true) ∧ (Tab.find tok s.hub.asks = some a) ∧ (a.chg = none)) ∧
    (∃ s : State, ∃ idx : Fin 8192, s.Inv ∧ (s.hub.up 0x61 = true) ∧ (s.hub.rd CRT.RREC_STATE 0 idx = 2)) ∧
    (∃ s : State, ∃ idx : Fin 8192, s.Inv ∧ (s.hub.up 0x61 = true) ∧ ((s.hub.tun idx).state = 0) ∧ (s.hub.on CRT.RREC_STATE 0 idx = true)) ∧
    (∃ s : State, ∃ u, s.Inv ∧ (s.hub.fwOn = true) ∧ (s.hub.rd CAS.STAT_CROLE = 1) ∧ (s.hub.unrec = [u]) ∧ (s.hub.settles = []) ∧ (s.hub.up 0x40 = true) ∧ (s.hub.rd TUN.RRQ_CTL_DONE ≠ 1)) :=
  ⟨⟨w14, 3, 0x5000, 7, 40, 0, E5, inv_and (by decide +kernel)⟩,
   ⟨w15, 3, 0x5000, 7, E5, inv_and (by decide +kernel)⟩,
   ⟨w16, 3, 0x5000, 7, E5, inv_and (by decide +kernel)⟩,
   ⟨w17, 3, 0x5000, 40, E5, inv_and (by decide +kernel)⟩,
   ⟨w18, 3, 0x5000, E5, inv_and (by decide +kernel)⟩,
   ⟨w19, 3, 9, 0x10, ask0, inv_and (by decide +kernel)⟩,
   ⟨w20, 9, ask0, inv_and (by decide +kernel)⟩,
   ⟨w21, 4, inv_and (by decide +kernel)⟩,
   ⟨w22, 4, inv_and (by decide +kernel)⟩,
   ⟨w23, ⟨4, 0x23, 5, 6, 7⟩, inv_and (by decide +kernel)⟩⟩

end W11

/-! ### Fragment 12 -/

namespace W12

def cas0 : List (Fld × Nat × Nat × Nat) := [(CAS.CROWN_VALID,0,0,1),(CAS.CROWN_NODE,0,0,3),(UPD.hFw,0,0,1),(CAS.EPOCH_EPOCH,0,0,4),(OPT.STAT_STATE,1,0,3)]
def par1 : List (Fld × Nat × Nat × Nat) := cas0 ++ [(CAS.NBR_REL,0,1,1)]
def ask0 : Ask := { msg := { typ := 0x43, dst := 3, tok := 9 } }

def w1 : State := node [0, 0x68] cas0
def w2 : State := node [0, 0x68] cas0
def w3 : State := node [0, 0x68] [(UPD.hFw,0,0,1),(TOP.NODECFG_CROWN_OK,0,0,1),(CAS.CFG_PRIO,0,0,5),(KEY.DEVID_LO_ID,0,0,77)]
def w4 : State := node [0, 0x68] par1
def w5 : State := node [0, 0x68] cas0
def w6 : State := node [0, 0x68] par1
def w7 : State := node [0, 0x68] (cas0 ++ [(CAS.STAT_CROLE,0,0,1),(CAS.CROWN_S_VALID,0,0,1)])
def w8 : State := node [0, 0x68] (cas0 ++ [(CAS.STAT_CROLE,0,0,2)])
def w9 : State := node [0, 0x68] (cas0 ++ [(CAS.STAT_CROLE,0,0,2)])
def w10 : State := node [0, 0x68] (cas0 ++ [(CAS.STAT_CROLE,0,0,2)])
def w11 : State := node [0, 0x68] (cas0 ++ [(CAS.STAT_CROLE,0,0,1),(CAS.POOL_FREE,0,0,9)])
def w12 : State := node [0, 0x68] cas0
def w13 : State := node [0, 0x68] cas0
def w14 : State := node [0, 0x68] cas0
def w15 : State := node [0, 0x68] cas0
def w16 : State := node [0, 0x68] cas0 (fun h => { h with asks := [(9, ask0)] })
def w17 : State := node [0x68] [(CAS.STAT_CROLE,0,0,1)]
def w18 : State := node [0x68] [(CAS.STAT_CROLE,0,0,1)]

theorem test_witness_CascadeCommandsComplete :
    (∃ s : State, ∃ p : Nat, s.Inv ∧ (s.hub.casOn = true) ∧ (s.hub.portUp p = true) ∧ (p < 8)) ∧
    (∃ s : State, ∃ p : Fin 8, s.Inv ∧ (s.hub.casOn = true) ∧ (s.hub.portUp p = true)) ∧
    (∃ s : State, s.Inv ∧ (s.hub.casOn = true) ∧ (s.hub.isCandidate = true) ∧ (s.hub.rd CAS.STAT_CROLE ≠ 1) ∧ (s.hub.rd CAS.EPOCH_EPOCH = 0) ∧ (s.hub.refreshBest.bestDev = s.hub.deviceId)) ∧
    (∃ s : State, ∃ p, s.Inv ∧ (s.hub.casOn = true) ∧ (s.hub.on CAS.EPOCH_EPOCH = true) ∧ (s.hub.countsIn = true) ∧ (s.hub.rd CAS.STAT_CROLE ≠ 1) ∧ (s.hub.relPort 1 = some p)) ∧
    (∃ s : State, ∃ p : Fin 8, ∃ epoch : Nat, s.Inv ∧ (s.hub.casOn = true) ∧ (s.hub.portUp p = true) ∧ (epoch = s.hub.rd CAS.EPOCH_EPOCH) ∧ (s.hub.on CAS.EPOCH_EPOCH = true)) ∧
    (∃ s : State, ∃ p : Fin 8, ∃ epoch : Nat, s.Inv ∧ (s.hub.casOn = true) ∧ (s.hub.relPort 1 = some p.val) ∧ (epoch = s.hub.rd CAS.EPOCH_EPOCH) ∧ (s.hub.on CAS.NODEID_VALID = false)) ∧
    (∃ s : State, s.Inv ∧ (s.hub.casOn = true) ∧ (s.hub.rd CAS.STAT_CROLE = 1) ∧ (s.hub.on CAS.CROWN_S_VALID = true)) ∧
    (∃ s : State, ∃ src : Nat, ∃ epoch : Nat, s.Inv ∧ (s.hub.casOn = true) ∧ (s.hub.rd CAS.STAT_CROLE = 2) ∧ (s.hub.fromCrown src = true) ∧ (epoch = s.hub.rd CAS.EPOCH_EPOCH)) ∧
    (∃ s : State, s.Inv ∧ (s.hub.casOn = true) ∧ (s.hub.rd CAS.STAT_CROLE = 2)) ∧
    (∃ s : State, s.Inv ∧ (s.hub.casOn = true) ∧ (s.hub.on CAS.STAT_CROLE = true)) ∧
    (∃ s : State, s.Inv ∧ (s.hub.casOn = true) ∧ (s.hub.on CAS.STAT_CROLE = true)) ∧
    (∃ s : State, ∃ src : Nat, ∃ epoch : Nat, s.Inv ∧ (s.hub.casOn = true) ∧ (s.hub.fromCrown src = true) ∧ (s.hub.rd CAS.EPOCH_EPOCH ≤ epoch)) ∧
    (∃ s : State, ∃ src : Nat, ∃ first : Nat, ∃ cnt : Nat, ∃ port : Nat, s.Inv ∧ (s.hub.casOn = true) ∧ (s.hub.fromCrown src = true) ∧ (0 < cnt) ∧ (first + cnt ≤ 16384) ∧ (port < 8)) ∧
    (∃ s : State, ∃ src : Nat, ∃ first : Nat, ∃ size : Nat, ∃ port : Nat, s.Inv ∧ (s.hub.casOn = true) ∧ (s.hub.fromCrown src = true) ∧ (port < 8) ∧ (0 < size) ∧ (first + size ≤ 16384)) ∧
    (∃ s : State, ∃ src : Nat, ∃ op : Nat, s.Inv ∧ (s.hub.casOn = true) ∧ (s.hub.fromCrown src = true) ∧ ((op = 1 ∨ op = 2))) ∧
    (∃ s : State, ∃ src : Nat, ∃ tok : Nat, ∃ typ : Nat, ∃ a, s.Inv ∧ (s.hub.casOn = true) ∧ (Tab.find tok s.hub.asks = some a) ∧ (a.msg.dst = src) ∧ (a.msg.typ = typ) ∧ (a.chg = none)) ∧
    (∃ s : State, ∃ r : Req, s.Inv ∧ (s.hub.Accepts r CAS.CTL_REDISCOVER 0) ∧ (s.hub.rd CAS.STAT_CROLE = 1)) ∧
    (∃ s : State, ∃ r : Req, s.Inv ∧ (s.hub.Accepts r CAS.CTL_YIELD 0) ∧ (s.hub.rd CAS.STAT_CROLE = 1)) :=
  ⟨⟨w1, 1, inv_and (by decide +kernel)⟩,
   ⟨w2, 1, inv_and (by decide +kernel)⟩,
   ⟨w3, inv_and (by decide +kernel)⟩,
   ⟨w4, 1, inv_and (by decide +kernel)⟩,
   ⟨w5, 1, 4, inv_and (by decide +kernel)⟩,
   ⟨w6, 1, 4, inv_and (by decide +kernel)⟩,
   ⟨w7, inv_and (by decide +kernel)⟩,
   ⟨w8, 3, 4, inv_and (by decide +kernel)⟩,
   ⟨w9, inv_and (by decide +kernel)⟩,
   ⟨w10, inv_and (by decide +kernel)⟩,
   ⟨w11, inv_and (by decide +kernel)⟩,
   ⟨w12, 3, 4, inv_and (by decide +kernel)⟩,
   ⟨w13, 3, 20, 2, 1, inv_and (by decide +kernel)⟩,
   ⟨w14, 3, 20, 2, 1, inv_and (by decide +kernel)⟩,
   ⟨w15, 3, 1, inv_and (by decide +kernel)⟩,
   ⟨w16, 3, 9, 0x43, ask0, inv_and (by decide +kernel)⟩,
   ⟨w17, cpu, inv_of (by decide +kernel), accepts_of (by decide +kernel), by decide +kernel⟩,
   ⟨w18, cpu, inv_of (by decide +kernel), accepts_of (by decide +kernel), by decide +kernel⟩⟩

end W12

/-! ### Fragment 13 -/

namespace W13

/-- two slots 4 and 5 of 64x64, owner (o,i), states st4 st5, sig en, inherit -/
def slots (o i st4 st5 sgl : Nat) (h : Hub) : Hub :=
  (h.setTwords (slotAddr 4 0) [0, 64 + 64 * 65536, 5 + sgl * 65536 + 0 * 256, o + i * 256, st4]).setTwords (slotAddr 5 0) [1, 64 + 64 * 65536, 4 + sgl * 65536 + 1 * 256, o + i * 256, st5]
def memOn : List (Fld × Nat × Nat × Nat) := [(MEM.STAT_READY,0,0,1),(CLK.GSTAT_RUN,0,0,0xFFFFFFFF)]
def cap0 := memOn ++ [(DCP.RING_FIRST,0,0,4),(DCP.MODE_HACT,0,0,64),(DCP.MODE_VACT,0,0,64),(DCP.LINK_TRAINED,0,0,1),(DCP.CTL_CAPEN,0,0,1)]
def host0 := memOn ++ [(PCI.MODE_MODE,0,0,1),(DTL.WINEN_LO_EN,0,0,2),(DTL.hSlot,0,3,5)]
def tile0 : TilePkt := { typ := 0, frame := 3, tile := 0, ord := 0, sig := 0x101, pixels := [1,2,3] }
def rx0 := memOn ++ [(DTL.RCTL_EN,0,2,1),(DTL.RTID0_VALID,0,2,1),(DTL.RTID0_TID,0,2,0x5000),(DTL.RRING_FIRST,0,2,4),(DTL.hSlot,0,68,5),(DTL.RSTAT_OPEN,0,2,1),(DTL.hOpen,0,2,3)]
def P : List Nat := [0x75, 0x77, 0x88]

def PH : List Nat := [0x75, 0x77, 0x80, 0x81, 0x88]

def w1 : State := node P [(DCP.RING_FIRST,0,0,4),(CLK.GSTAT_RUN,0,0,0xFFFFFFFF)] (slots 1 0 0 0 1)
def w2 : State := node P (memOn ++ [(DTL.hFill,0,3,1),(DTL.WINEN_LO_EN,0,0,2)]) (slots 3 1 0 0 1)
def w3 : State := node P cap0 (slots 1 0 0 2 1)
def w4 : State := node P (cap0 ++ [(DTL.hSlot,0,0,5)]) (slots 1 0 1 2 1)
def w5 : State := node P (cap0 ++ [(DTL.hSlot,0,0,5)]) (slots 1 0 1 2 1)
def w6 : State := node P (memOn ++ [(DCP.CTL_HPD,0,0,1),(TCP.STAT_ALTMODE,0,0,1)])
def w7 : State := node PH host0 (fun h => (slots 3 1 1 2 1 h).setTwords 0x5C0000 [0, 0xFFFFFFF, 0x30002, 0x10000, 0, 0, 0, 1])
def w8 : State := node PH host0 (slots 3 1 1 2 1)
def w9 : State := node PH host0 (slots 3 1 1 2 1)
def w10 : State := node P (host0 ++ [(DTL.hEnd,0,1,1)]) (slots 3 1 1 2 1)
def w11 : State := node P (rx0 ++ [(DTL.hWait,0,2,1)]) (slots 4 2 129 2 3)
def w12 : State := node P (memOn ++ [(DTL.SCTL_EN,0,1,1),(DTL.SSRC_FIRST,0,1,4)]) (slots 4 2 2 0 1)
def w13 : State := node P memOn
def w14 : State := node P memOn
def w15 : State := node P rx0 (slots 4 2 1 2 3)
def w16 : State := node P rx0 (slots 4 2 1 2 3)
def w17 : State := node P memOn (fun h => { h with gaps := [(0, [(1,2)])] })

theorem test_witness_FrameCommandsComplete :
    (∃ s : State, ∃ r : Req, ∃ w : Writer, s.Inv ∧ (s.hub.Grants r (ringReg w).1 (ringReg w).2) ∧ (s.hub.up (Hub.writerPage w) = true) ∧ (s.hub.sourceOk w = true) ∧ (s.hub.ringEn w = false) ∧ (s.hub.ringOk w = true)) ∧
    (∃ s : State, ∃ w : Writer, s.Inv ∧ (s.hub.up 0x77 = true) ∧ (s.hub.on DTL.hFill 0 (writerNo w) = true) ∧ (s.hub.memReady = true)) ∧
    (∃ s : State, ∃ d : Fin 2, s.Inv ∧ (s.hub.up (0x75 + d) = true) ∧ (s.hub.writerOn (.capture d) = true) ∧ (s.hub.on DCP.LINK_TRAINED d = true) ∧ (s.hub.on DTL.hSlot 0 d = false) ∧ (s.hub.memReady = true) ∧ (s.hub.captureFits d = true)) ∧
    (∃ s : State, ∃ d : Fin 2, ∃ k, s.Inv ∧ (s.hub.up (0x75 + d) = true) ∧ (s.hub.rd DTL.hSlot 0 d = k + 1) ∧ (s.hub.memReady = true)) ∧
    (∃ s : State, ∃ d : Fin 2, s.Inv ∧ (s.hub.up (0x75 + d) = true)) ∧
    (∃ s : State, ∃ d : Fin 2, s.Inv ∧ (s.hub.up (0x75 + d) = true) ∧ (s.hub.on DCP.CTL_HPD d = true) ∧ (s.hub.on TCP.STAT_ALTMODE d = true)) ∧
    (∃ s : State, ∃ w : Fin 64, ∃ off : Nat, ∃ data : Bytes, ∃ k, s.Inv ∧ (s.hub.up 0x77 = true) ∧ (s.hub.hostOn = true) ∧ (0x1000000 ≤ off) ∧ (s.hub.memReady = true) ∧ (s.hub.writerOn (.hostWin w) = true) ∧ (s.hub.wready w = true) ∧ (s.hub.rd DTL.hSlot 0 (2 + w) = k + 1) ∧ (off - 0x1000000 + data.length ≤ s.hub.slotBytes k) ∧ (s.hub.actPages .pcieHost 0 1 (s.hub.slotBase k + (off - 0x1000000)) data.length { write := true } = none)) ∧
    (∃ s : State, ∃ w : Fin 64, s.Inv ∧ (s.hub.writerOn (.hostWin w) = true) ∧ (s.hub.hostOn = true) ∧ (s.hub.wready w = true)) ∧
    (∃ s : State, ∃ w : Fin 64, ∃ k, s.Inv ∧ (s.hub.writerOn (.hostWin w) = true) ∧ (s.hub.hostOn = true) ∧ (s.hub.rd DTL.hSlot 0 (2 + w) = k + 1)) ∧
    (∃ s : State, ∃ w : Fin 64, ∃ k, s.Inv ∧ (s.hub.up 0x77 = true) ∧ (s.hub.on DTL.hEnd 0 w = true) ∧ (s.hub.rd DTL.hSlot 0 (2 + w) = k + 1) ∧ (s.hub.memReady = true)) ∧
    (∃ s : State, ∃ w : Writer, ∃ k, ∃ q, s.Inv ∧ (s.hub.up 0x77 = true) ∧ (s.hub.memReady = true) ∧ (s.hub.rd DTL.hSlot 0 (writerNo w) = k + 1) ∧ (s.hub.slotFld k 4 7 1 = 1) ∧ (s.hub.readySlot (s.hub.ringOf w) = some q)) ∧
    (∃ s : State, ∃ st : Fin 64, ∃ k, s.Inv ∧ (s.hub.up 0x77 = true) ∧ (s.hub.on DTL.SCTL_EN 0 st = true) ∧ (s.hub.memReady = true) ∧ (s.hub.on DTL.SSTAT_BUSY 0 st = false) ∧ (s.hub.readySlot (s.hub.ringOf (.send st)) = some k) ∧ (s.hub.rd DTL.hSent 0 st ≠ s.hub.slotFrame k + 1)) ∧
    (∃ s : State, ∃ r : Req, ∃ v : Nat, s.Inv ∧ (s.hub.Grants r DTL.REPAIR_FIRST 0) ∧ (s.hub.up 0x77 = true) ∧ (v.testBit 31 = true) ∧ (mergeAny (Tab.get [] (s.hub.rd DTL.SSEL_STREAM) s.hub.repairs) (bits v 0 13, bits v 16 13) = none) ∧ ((Tab.get [] (s.hub.rd DTL.SSEL_STREAM) s.hub.repairs).length < 8)) ∧
    (∃ s : State, ∃ r : Req, s.Inv ∧ (s.hub.Accepts r DTL.SCTL_FULL 0)) ∧
    (∃ s : State, ∃ tid : Nat, ∃ t : TilePkt, ∃ r, ∃ k, s.Inv ∧ (s.hub.up 0x77 = true) ∧ (s.hub.domOn 2 = true) ∧ (t.poison = false) ∧ (s.hub.streamFor tid = some r) ∧ (s.hub.memReady = true) ∧ (s.hub.on DTL.RSTAT_OPEN 0 r = true) ∧ (s.hub.rd DTL.hOpen 0 r = t.frame) ∧ (s.hub.rxSlot r = k + 1) ∧ (t.tile < s.hub.slotTiles k) ∧ (s.hub.rd DTL.hOrd 0 r ≤ t.ord)) ∧
    (∃ s : State, ∃ tid : Nat, ∃ t : TilePkt, ∃ r, s.Inv ∧ (s.hub.up 0x77 = true) ∧ (s.hub.domOn 2 = true) ∧ (t.poison = false) ∧ (s.hub.streamFor tid = some r) ∧ (s.hub.memReady = true) ∧ (s.hub.on DTL.RSTAT_OPEN 0 r = true) ∧ (s.hub.rd DTL.hOpen 0 r = t.frame) ∧ (s.hub.on DTL.RSTAT_CATCHUP 0 r = false) ∧ (bits t.sig 0 7 = s.hub.slotTw (s.hub.rd DTL.RRING_FIRST 0 r)) ∧ (bits t.sig 8 7 = s.hub.slotTh (s.hub.rd DTL.RRING_FIRST 0 r))) ∧
    (∃ s : State, ∃ r : Req, s.Inv ∧ (s.hub.Accepts r DTL.RGAPPOP_GO 0) ∧ (Tab.Sorted s.hub.gaps)) :=
  ⟨⟨w1, cpu, .capture 0, inv_of (by decide +kernel), grants_of (by decide +kernel), by decide +kernel⟩,
   ⟨w2, .hostWin 1, inv_and (by decide +kernel)⟩,
   ⟨w3, 0, inv_and (by decide +kernel)⟩,
   ⟨w4, 0, 4, inv_and (by decide +kernel)⟩,
   ⟨w5, 0, inv_and (by decide +kernel)⟩,
   ⟨w6, 0, inv_and (by decide +kernel)⟩,
   ⟨w7, 1, 0x1000004, [7,8,9,10,11], 4, inv_and (by decide +kernel)⟩,
   ⟨w8, 1, inv_and (by decide +kernel)⟩,
   ⟨w9, 1, 4, inv_and (by decide +kernel)⟩,
   ⟨w10, 1, 4, inv_and (by decide +kernel)⟩,
   ⟨w11, .receive 2, 4, 5, inv_and (by decide +kernel)⟩,
   ⟨w12, 1, 4, inv_and (by decide +kernel)⟩,
   ⟨w13, cpu, 0x80050003, inv_of (by decide +kernel), grants_of (by decide +kernel), by decide +kernel⟩,
   ⟨w14, cpu, inv_of (by decide +kernel), accepts_of (by decide +kernel)⟩,
   ⟨w15, 0x5000, tile0, 2, 4, inv_and (by decide +kernel)⟩,
   ⟨w16, 0x5000, tile0, 2, inv_and (by decide +kernel)⟩,
   ⟨w17, cpu, inv_of (by decide +kernel), accepts_of (by decide +kernel), by decide +kernel⟩⟩

end W13

/-! ### Fragment 14 -/

namespace W14

def clk0 : List (Fld × Nat × Nat × Nat) := [(CLK.GSTAT_RUN,0,0,0xFFFFFFFF)]
def slots (h : Hub) : Hub :=
  (h.setTwords (slotAddr 4 0) [0, 64 + 64 * 65536, 5 + 1 * 65536 + 0 * 256, 4 + 2 * 256, 2]).setTwords (slotAddr 5 0) [1, 64 + 64 * 65536, 4 + 65536 + 1 * 256, 4 + 2 * 256, 0]
def run0 := clk0 ++ [(DHD.STAT_STATE,1,0,3)]
def P := [0x72, 0x79, 0x80, 0x81, 0x88, 0x89]
def hd0 : TxbHdr := { op := 0, win := 1, len := 4, addr := 8, tag := 3 }
def m0 : TxbIn := ⟨7, 5, hd0, [1,2,3,4]⟩
def ow0 := clk0 ++ [(TXB.OW_CFG_EN,0,2,1),(TXB.OW_CFG_SRC_MCPU,0,2,1),(TXB.OW_CFG_SIZE_LOG2,0,2,20),(PCI.LSTAT_DL_UP,0,0,1),(PCI.MODE_MODE,0,0,2)]
def tw0 := clk0 ++ [(TXB.TW_CFG_EN,0,1,1),(TXB.TW_CFG_BUS,0,1,1),(TXB.TW_CFG_SIZE_LOG2,0,1,20),(TXB.TW_CFG_GRAN,0,1,3),(MEM.STAT_READY,0,0,1)]
def acts (h : Hub) : Hub := h.setTwords 0x5C0000 [0, 0xFFFFFFF, 0x303FF, 0x18000, 0, 0, 0, 1]
def tg0 : TxbTag := { win := 2, rd := 9, off := 0, ord := 7, len := 4 }
def tags0 (q : Bool) (h : Hub) : Hub := { h with tags := [(3, { tg0 with quar := q })], reads := [(9, ⟨true, 5, 1, false, []⟩)] }
def hdc : TxbHdr := { op := 2, tag := 3, len := 2 }

def w1 : State := node P (run0 ++ [(DHD.SRC_EN,1,0,1),(DHD.SRC_RING,1,0,4)]) slots
def w2 : State := node P (run0 ++ [(MEM.STAT_READY,0,0,1),(DHD.HTIM_HACT,1,0,4),(DHD.VTIM_VACT,1,0,2)])
def w3 : State := node P (run0 ++ [(DHD.HTIM_HACT,1,0,4),(DHD.VTIM_VACT,1,0,2)])
def w4 : State := node P run0
def w5 : State := node P (clk0 ++ [(DHD.STAT_STATE,1,0,1),(DPT.STAT_STATE,1,0,2),(DPT.STAT_RATE,1,0,3),(DPT.STAT_LANES,1,0,3),(DHD.PCLK_KHZ,1,0,148500)])
def w6 : State := node P (clk0 ++ [(DHD.STAT_STATE,1,0,1)])
def w7 : State := node P (run0 ++ [(DPT.CFG_RATE,1,0,2)])
def w8 : State := node P (clk0 ++ [(DPT.STAT_STATE,1,0,1),(DPT.CFG_RATE,1,0,3),(DPT.CFG_LANES,1,0,2)])
def w9 : State := node P (run0 ++ [(DPT.STAT_STATE,1,0,2)])
def w10 : State := node P (run0 ++ [(DPT.STAT_STATE,1,0,2)])
def w11 : State := node P run0
def w12 : State := node P run0
def w13 : State := node P run0
def w14 : State := node P (clk0 ++ [(DPT.AUXSTAT_DONE,1,0,1)])

theorem test_witness_HeadCommandsComplete :
    (∃ s : State, ∃ n : Fin 4, ∃ k, s.Inv ∧ (s.hub.up (0x71 + n) = true) ∧ (s.hub.head n = 3) ∧ (s.hub.on HDR.PSTAT_CPEND (0x71 + n) = false) ∧ (s.hub.on DHD.SRC_EN n = true) ∧ ((s.hub.ring (s.hub.rd DHD.SRC_RING n)).bind s.hub.readySlot = some k)) ∧
    (∃ s : State, ∃ n : Fin 4, s.Inv ∧ (s.hub.up (0x71 + n) = true) ∧ (s.hub.head n = 3) ∧ (s.hub.memReady = true) ∧ (s.hub.on DHD.hNoMem n = false)) ∧
    (∃ s : State, ∃ n : Fin 4, s.Inv ∧ (s.hub.up (0x71 + n) = true) ∧ (s.hub.head n = 3) ∧ (s.hub.memReady = false ∨ s.hub.on DHD.hNoMem n = true)) ∧
    (∃ s : State, ∃ n : Fin 4, s.Inv ∧ (s.hub.up (0x71 + n) = true) ∧ (s.hub.head n = 3) ∧ (s.hub.on DHD.hUnder n = false)) ∧
    (∃ s : State, ∃ n : Fin 4, s.Inv ∧ (s.hub.up (0x71 + n) = true) ∧ (s.hub.head n = 1)) ∧
    (∃ s : State, ∃ n : Fin 4, s.Inv ∧ (s.hub.up (0x71 + n) = true) ∧ (s.hub.head n = 1)) ∧
    (∃ s : State, ∃ r : Req, ∃ n : Fin 4, s.Inv ∧ (s.hub.Accepts r DPT.CTL_TRAIN n) ∧ (s.hub.rd DPT.CFG_RATE n ≠ 0) ∧ (s.hub.rd DPT.CFG_RATE n ≠ 7) ∧ (s.hub.rd DPT.STAT_STATE n ≠ 1)) ∧
    (∃ s : State, ∃ n : Fin 4, s.Inv ∧ (s.hub.up (0x78 + n) = true) ∧ (s.hub.rd DPT.STAT_STATE n = 1)) ∧
    (∃ s : State, ∃ r : Req, ∃ n : Fin 4, s.Inv ∧ (s.hub.Accepts r DPT.CTL_DOWN n)) ∧
    (∃ s : State, ∃ n : Fin 4, s.Inv ∧ (s.hub.up (0x78 + n) = true)) ∧
    (∃ s : State, ∃ n : Fin 4, s.Inv ∧ (s.hub.up (0x78 + n) = true)) ∧
    (∃ s : State, ∃ n : Fin 4, s.Inv ∧ (s.hub.up (0x78 + n) = true)) ∧
    (∃ s : State, ∃ r : Req, ∃ n : Fin 4, ∃ v : Nat, s.Inv ∧ (s.hub.Grants r DPT.AUXCTL_GO n) ∧ (s.hub.up (0x78 + n) = true) ∧ (v.testBit 0 = true) ∧ (s.hub.rd DPT.AUXSTAT_DONE n ≠ 1)) ∧
    (∃ s : State, ∃ n : Fin 4, s.Inv ∧ (s.hub.up (0x78 + n) = true) ∧ (s.hub.rd DPT.AUXSTAT_DONE n = 1)) :=
  ⟨⟨w1, 1, 4, inv_and (by decide +kernel)⟩,
   ⟨w2, 1, inv_and (by decide +kernel)⟩,
   ⟨w3, 1, inv_and (by decide +kernel)⟩,
   ⟨w4, 1, inv_and (by decide +kernel)⟩,
   ⟨w5, 1, inv_and (by decide +kernel)⟩,
   ⟨w6, 1, inv_and (by decide +kernel)⟩,
   ⟨w7, cpu, 1, inv_of (by decide +kernel), accepts_of (by decide +kernel), by decide +kernel⟩,
   ⟨w8, 1, inv_and (by decide +kernel)⟩,
   ⟨w9, cpu, 1, inv_of (by decide +kernel), accepts_of (by decide +kernel)⟩,
   ⟨w10, 1, inv_and (by decide +kernel)⟩,
   ⟨w11, 1, inv_and (by decide +kernel)⟩,
   ⟨w12, 1, inv_and (by decide +kernel)⟩,
   ⟨w13, cpu, 1, 0x123451, inv_of (by decide +kernel), grants_of (by decide +kernel), by decide +kernel⟩,
   ⟨w14, 1, inv_and (by decide +kernel)⟩⟩

def w15 : State := node P ow0
def w16 : State := node P ow0
def w17 : State := node P ow0
def w18 : State := node P tw0 (fun h => acts { h with land := [m0] })
def w19 : State := node P tw0
def w20 : State := node P tw0 (fun h => acts { h with rdIn := [{ m0 with data := [] }] })
def w21 : State := node P tw0 (fun h => acts { h with rdIn := [{ m0 with h := { hd0 with pwseq := 5 } }] })
def w22 : State := node P tw0 (fun h => { h with rdBus := [m0] })
def w23 : State := node P ow0 (tags0 false)
def w24 : State := node P ow0 (tags0 false)
def w25 : State := node P ow0
def w26 : State := node P ow0 (tags0 false)
def w27 : State := node P ow0 (tags0 true)
def w28 : State := node P (ow0 ++ [(TXB.POLL_EN,0,0,1),(TXB.hPolls,0,0,3)])
def w29 : State := node P ow0
def w30 : State := node P ow0
def w31 : State := node P (ow0 ++ [(PCI.MSICATCH_LO_ADDR,0,0,64)])
def w32 : State := node P ow0

theorem test_witness_BridgeCommandsComplete :
    (∃ s : State, ∃ fromBus : Bool, ∃ addr : Nat, ∃ data : Bytes, ∃ w, s.Inv ∧ (s.hub.up 0x80 = true) ∧ ((fromBus = true → s.hub.up 0x81 = true ∧ s.hub.on PCI.LSTAT_DL_UP = true)) ∧ ((fromBus = true → s.hub.rd PCI.MODE_MODE ≠ 2 ∨ data.length ≠ 4 ∨ addr ≠ s.hub.rd PCI.MSICATCH_HI_ADDR * 2 ^ 32 + s.hub.rd PCI.MSICATCH_LO_ADDR)) ∧ (s.hub.owMatch fromBus addr = some w)) ∧
    (∃ s : State, ∃ fromBus : Bool, ∃ addr : Nat, ∃ len : Nat, ∃ w, s.Inv ∧ (s.hub.up 0x80 = true) ∧ (0 < len) ∧ ((fromBus = true → s.hub.up 0x81 = true ∧ s.hub.on PCI.LSTAT_DL_UP = true)) ∧ (s.hub.owMatch fromBus addr = some w)) ∧
    (∃ s : State, ∃ c : TxbHdr, s.Inv ∧ (s.hub.up 0x80 = true) ∧ (c.op < 7) ∧ (c.poison = false)) ∧
    (∃ s : State, ∃ m, ∃ rest, s.Inv ∧ (s.hub.up 0x80 = true) ∧ (s.hub.land = m :: rest) ∧ (s.hub.on TXB.TW_CFG_EN 0 (m.h.win % 32) = true) ∧ (m.h.addr + m.h.len ≤ 2 ^ s.hub.rd TXB.TW_CFG_SIZE_LOG2 0 (m.h.win % 32)) ∧ (s.hub.on TXB.TW_CFG_BUS 0 (m.h.win % 32) = true) ∧ (s.hub.farCuts m.h = [(m.h.addr, m.h.len)]) ∧ ((s.hub.farCheck m.src m.h m.h.addr m.h.len true).1 = 0)) ∧
    (∃ s : State, ∃ c : TxbHdr, s.Inv ∧ (s.hub.up 0x80 = true) ∧ (c.op < 7) ∧ (c.poison = false)) ∧
    (∃ s : State, ∃ m, s.Inv ∧ (s.hub.up 0x80 = true) ∧ (s.hub.rdIn.find? s.hub.mayIssue = some m) ∧ ((s.hub.farCheck m.src m.h m.h.addr m.h.len false).1 = 0)) ∧
    (∃ s : State, ∃ m, s.Inv ∧ (s.hub.up 0x80 = true) ∧ (s.hub.rdIn.find? (fun m => !s.hub.writesLanded m) = some m)) ∧
    (∃ s : State, ∃ m, ∃ rest, s.Inv ∧ (s.hub.up 0x80 = true) ∧ (s.hub.rdBus = m :: rest)) ∧
    (∃ s : State, ∃ tid : Nat, ∃ c : TxbHdr, ∃ tg, s.Inv ∧ (s.hub.up 0x80 = true) ∧ (c.op < 7) ∧ (s.hub.liveTag tid c.tag = some tg) ∧ (tg.dead = false) ∧ (c.poison = false) ∧ (c.offset = tg.got)) ∧
    (∃ s : State, ∃ tid : Nat, ∃ c : TxbHdr, ∃ tg, ∃ r, s.Inv ∧ (s.hub.up 0x80 = true) ∧ (c.op < 7) ∧ (s.hub.liveTag tid c.tag = some tg) ∧ (tg.dead = false) ∧ (c.poison = false) ∧ (Tab.find tg.rd s.hub.reads = some r) ∧ (r.left = 1)) ∧
    (∃ s : State, ∃ c : TxbHdr, s.Inv ∧ (s.hub.up 0x80 = true) ∧ (c.op < 7) ∧ (c.poison = false)) ∧
    (∃ s : State, ∃ t : Fin 1024, ∃ tg, s.Inv ∧ (s.hub.up 0x80 = true) ∧ (Tab.find t.val s.hub.tags = some tg) ∧ (tg.quar = false)) ∧
    (∃ s : State, ∃ t : Fin 1024, ∃ tg, s.Inv ∧ (s.hub.up 0x80 = true) ∧ (Tab.find t.val s.hub.tags = some tg) ∧ (tg.quar = true) ∧ (s.hub.rdWait = [])) ∧
    (∃ s : State, s.Inv ∧ (s.hub.up 0x80 = true) ∧ (s.hub.on TXB.POLL_EN = true)) ∧
    (∃ s : State, ∃ c : TxbHdr, s.Inv ∧ (s.hub.up 0x80 = true) ∧ (c.op < 7) ∧ (c.poison = false)) ∧
    (∃ s : State, ∃ c : TxbHdr, s.Inv ∧ (s.hub.up 0x80 = true) ∧ (c.op < 7) ∧ (c.poison = false)) ∧
    (∃ s : State, ∃ addr : Nat, s.Inv ∧ (s.hub.up 0x80 = true) ∧ (s.hub.up 0x81 = true) ∧ (s.hub.rd PCI.MODE_MODE = 2) ∧ (s.hub.on PCI.LSTAT_DL_UP = true) ∧ (addr = s.hub.rd PCI.MSICATCH_HI_ADDR * 2 ^ 32 + s.hub.rd PCI.MSICATCH_LO_ADDR)) ∧
    (∃ s : State, ∃ r : Req, s.Inv ∧ (s.hub.Accepts r TXB.PFPOP_GO 0)) :=
  ⟨⟨w15, false, 0x1003, List.replicate 100 7, 2, inv_and (by decide +kernel)⟩,
   ⟨w16, false, 0x1003, 100, 2, inv_and (by decide +kernel)⟩,
   ⟨w17, hd0, inv_and (by decide +kernel)⟩,
   ⟨w18, m0, [], inv_and (by decide +kernel)⟩,
   ⟨w19, hd0, inv_and (by decide +kernel)⟩,
   ⟨w20, { m0 with data := [] }, inv_and (by decide +kernel)⟩,
   ⟨w21, { m0 with h := { hd0 with pwseq := 5 } }, inv_and (by decide +kernel)⟩,
   ⟨w22, m0, [], inv_and (by decide +kernel)⟩,
   ⟨w23, 7, hdc, tg0, inv_and (by decide +kernel)⟩,
   ⟨w24, 7, hdc, tg0, ⟨true, 5, 1, false, []⟩, inv_and (by decide +kernel)⟩,
   ⟨w25, hd0, inv_and (by decide +kernel)⟩,
   ⟨w26, 3, tg0, inv_and (by decide +kernel)⟩,
   ⟨w27, 3, { tg0 with quar := true }, inv_and (by decide +kernel)⟩,
   ⟨w28, inv_and (by decide +kernel)⟩,
   ⟨w29, hd0, inv_and (by decide +kernel)⟩,
   ⟨w30, hd0, inv_and (by decide +kernel)⟩,
   ⟨w31, 64, inv_and (by decide +kernel)⟩,
   ⟨w32, cpu, inv_of (by decide +kernel), accepts_of (by decide +kernel)⟩⟩

def w33 : State := node P (clk0 ++ [(PCI.MODE_MODE,0,0,1)])
def w34 : State := node P (clk0 ++ [(PCI.MODE_MODE,0,0,1),(PCI.hPerst,0,0,1)])
def w35 : State := node P (clk0 ++ [(PCI.MODE_MODE,0,0,1),(PCI.CMDSTAT_MSIX_EN,0,0,1)])
def w36 : State := node P ow0
def w37 : State := node P (clk0 ++ [(PCI.MODE_MODE,0,0,1)])
def w39 : State := node P clk0
def w40 : State := node P clk0
def w41 : State := node P (clk0 ++ [(MEM.hWipe,0,0,1)])
def w42 : State := node P (clk0 ++ [(MEM.WIPE_BUSY,0,0,1)])
def w43 : State := node P tw0
def w44 : State := node P clk0
def w45 : State := node P (clk0 ++ [(MPH.TRAIN_DONE,0,0,1),(MPH.TRACK_PERIOD_MS,0,0,1)])

theorem test_witness_PcieAndMemoryCommandsComplete :
    (∃ s : State, s.Inv ∧ (s.hub.up 0x81 = true) ∧ (s.hub.rd PCI.MODE_MODE = 1)) ∧
    (∃ s : State, ∃ up : Bool, s.Inv ∧ (s.hub.up 0x81 = true) ∧ ((up = true → s.hub.pcieMayTrain = true))) ∧
    (∃ s : State, ∃ r : Req, ∃ v : Nat, s.Inv ∧ (s.hub.Accepts r PCI.MSIXREQ_GO 0) ∧ (v.testBit 8 = true) ∧ (s.hub.up 0x81 = true) ∧ (s.hub.rd PCI.MODE_MODE = 1) ∧ (s.hub.on PCI.CMDSTAT_MSIX_EN = true) ∧ ((s.hub.rd (PCI.MSIX_TABLE.word (4 * (v % 64) + 3))).testBit 0 = false)) ∧
    (∃ s : State, s.Inv ∧ (s.hub.up 0x81 = true) ∧ (s.hub.rd PCI.MODE_MODE = 2) ∧ (s.hub.on PCI.LSTAT_DL_UP = true)) ∧
    (∃ s : State, s.Inv ∧ (s.hub.up 0x81 = true) ∧ (s.hub.rd PCI.MODE_MODE = 1)) ∧
    (∃ s : State, ∃ r : Req, ∃ en : Bool, s.Inv ∧ (s.hub.Grants r MEM.CFG_EN 0) ∧ ((en = true → s.hub.memKeys = true))) ∧
    (∃ s : State, ∃ r : Req, s.Inv ∧ (s.hub.Accepts r MPH.TRAIN_GO 0)) ∧
    (∃ s : State, s.Inv ∧ (s.hub.up 0x89 = true) ∧ (s.hub.on MPH.TRAIN_DONE = false) ∧ (s.hub.on MPH.TRAIN_FAIL = false)) ∧
    (∃ s : State, s.Inv ∧ (s.hub.up 0x88 = true) ∧ (s.hub.on MEM.WIPE_BUSY = true)) ∧
    (∃ s : State, ∃ level : Nat, s.Inv ∧ (s.hub.memReady = true) ∧ (5 ≤ level) ∧ (level ≤ 7)) ∧
    (∃ s : State, s.Inv ∧ (s.hub.up 0x88 = true)) ∧
    (∃ s : State, s.Inv ∧ (s.hub.up 0x89 = true) ∧ (s.hub.on MPH.TRAIN_DONE = true) ∧ (s.hub.on MPH.TRACK_PERIOD_MS = true)) :=
  ⟨⟨w33, inv_and (by decide +kernel)⟩,
   ⟨w34, true, inv_and (by decide +kernel)⟩,
   ⟨w35, cpu, 0x105, inv_of (by decide +kernel), accepts_of (by decide +kernel), by decide +kernel⟩,
   ⟨w36, inv_and (by decide +kernel)⟩,
   ⟨w37, inv_and (by decide +kernel)⟩,
   ⟨w39, cpu, false, inv_of (by decide +kernel), grants_of (by decide +kernel), by decide +kernel⟩,
   ⟨w40, cpu, inv_of (by decide +kernel), accepts_of (by decide +kernel)⟩,
   ⟨w41, inv_and (by decide +kernel)⟩,
   ⟨w42, inv_and (by decide +kernel)⟩,
   ⟨w43, 6, inv_and (by decide +kernel)⟩,
   ⟨w44, inv_and (by decide +kernel)⟩,
   ⟨w45, inv_and (by decide +kernel)⟩⟩

end W14

/-! ### Fragment 15 -/

namespace W15

def clk0 : List (Fld × Nat × Nat × Nat) := [(CLK.GSTAT_RUN,0,0,0xFFFFFFFF)]
def PE := [0x90, 0x91, 0x92, 0x93, 0x94]
def fr (k : Nat) : Bytes := (List.range k).map fun i => BitVec.ofNat 8 (i + 1)
def vm0 := clk0 ++ [(ETH.VMAP_A_EN,1,0,1),(ETH.VMAP_A_ITID,1,0,0x4001),(ETH.VMAP_B_ETID,1,0,0x4005),(ETH.VSEL_V,1,0,5),(ETH.CFG_MAXLEN,1,0,1522),(ETH.TPID_TPID,1,0,0x8100)]
def lm0 := clk0 ++ [(LMD.P_MAP_EN,0,2,1),(LMD.P_MAP_ITID,0,2,0x4001),(LMD.P_ETID_ETID,0,2,0x4005),(LMD.PSEL_PORT,0,0,2)]

def w1 : State := node PE vm0
def w2 : State := node PE vm0
def w3 : State := node PE clk0
def w4 : State := node PE vm0
def w5 : State := node PE clk0
def w6 : State := node PE (clk0 ++ [(ETH.VMAP_A_EN,0,0,1),(ETH.VMAP_B_ETID,0,0,0x4005)])
def w7 : State := node PE (vm0 ++ [(ETH.hStage,1,0,0x4001+1)])
def w8 : State := node PE (vm0 ++ [(ETH.STAT_LINK,1,0,1)])
def w9 : State := node PE lm0
def w10 : State := node (PE ++ [0x40,0x41,0x48,0x49,0x4B,0x60,0x69]) (lm0 ++ [(FIL.GCAP_CT_CT,0,0,100)])
def w11 : State := node PE (lm0 ++ [(LMD.P_STAT_MODE,0,2,1)])
def w12 : State := node PE (lm0 ++ [(LMD.hStage,0,2,0x80004001+1)])
def w13 : State := node PE (lm0 ++ [(LMD.P_CFG_LOSS_MS,0,2,5)])
def w14 : State := node PE (lm0 ++ [(LMD.P_STAT_MODE,0,2,1),(LMD.SCLEN_BYTES,0,9,66)])
def w15 : State := node PE (clk0 ++ [(LMP.STAT_LINK,1,0,1),(LMP.CFG_AN_EN,1,0,1)])

theorem test_witness_EthernetAndLumeCommandsComplete :
    (∃ s : State, ∃ m : Fin 2, ∃ frame : Bytes, s.Inv ∧ (s.hub.up (0x90 + m) = true) ∧ (frame.length < 64)) ∧
    (∃ s : State, ∃ m : Fin 2, ∃ frame : Bytes, s.Inv ∧ (s.hub.up (0x90 + m) = true) ∧ (64 ≤ frame.length) ∧ (be16 frame 12 = 0x8808)) ∧
    (∃ s : State, ∃ m : Fin 2, ∃ frame : Bytes, s.Inv ∧ (s.hub.up (0x90 + m) = true) ∧ (64 ≤ frame.length) ∧ (be16 frame 12 ≠ 0x8808) ∧ (s.hub.on ETH.VMAP_A_EN m (s.hub.vmapIndex m frame) = false)) ∧
    (∃ s : State, ∃ m : Fin 2, ∃ frame : Bytes, s.Inv ∧ (s.hub.up (0x90 + m) = true) ∧ (64 ≤ frame.length) ∧ (be16 frame 12 ≠ 0x8808) ∧ (frame.length ≤ s.hub.rd ETH.CFG_MAXLEN m) ∧ (frame.length ≤ 9216) ∧ (s.hub.macHeld m + frame.length ≤ 32768) ∧ (s.hub.vmapIndex m frame ≠ 4095) ∧ (s.hub.on ETH.VMAP_A_EN m (s.hub.vmapIndex m frame) = true)) ∧
    (∃ s : State, ∃ tid : Nat, s.Inv ∧ (s.hub.domOn 2 = true) ∧ (s.hub.up 0x90 = true) ∧ (s.hub.up 0x91 = true) ∧ (s.hub.ethMatch tid = none)) ∧
    (∃ s : State, ∃ tid : Nat, ∃ m, ∃ v, s.Inv ∧ (s.hub.domOn 2 = true) ∧ (s.hub.up 0x90 = true) ∧ (s.hub.up 0x91 = true) ∧ (s.hub.ethMatch tid = some (m, v)) ∧ (s.hub.on ETH.VMAP_A_STRIP m v = false)) ∧
    (∃ s : State, ∃ r : Req, ∃ m : Fin 2, ∃ a, ∃ v : Nat, s.Inv ∧ (s.hub.Grants r ETH.VMAP_B_ETID m) ∧ (s.hub.rd ETH.hStage m = a + 1) ∧ (s.hub.rd ETH.VSEL_V m < 4095) ∧ ((bits a 31 1 = 0 ∨ assignable (bits a 0 20) = true ∧ assignable (bits v 0 20) = true ∧ (bits a 21 1 = 1 → s.hub.rd ETH.VSEL_V m ≠ 0) ∧ s.hub.ethMatch (bits v 0 20) = none))) ∧
    (∃ s : State, ∃ m : Fin 2, s.Inv ∧ (s.hub.up (0x90 + m) = true)) ∧
    (∃ s : State, ∃ fcsOk : Bool, ∃ frame : Bytes, s.Inv ∧ (s.hub.up 0x92 = true) ∧ (frame.length < 64 ∨ 1522 < frame.length ∨ fcsOk = false)) ∧
    (∃ s : State, ∃ p : Fin 8, ∃ frame : Bytes, s.Inv ∧ (s.hub.up 0x92 = true) ∧ (64 ≤ frame.length) ∧ (frame.length ≤ 1522) ∧ (s.hub.on LMD.P_STAT_MODE 0 p = false ∨ s.hub.domOn 2 = true) ∧ (s.hub.on LMD.P_MAP_EN 0 p = true) ∧ (s.hub.mayEnter 12 = true)) ∧
    (∃ s : State, ∃ tid : Nat, ∃ frame : Bytes, ∃ p, s.Inv ∧ (s.hub.up 0x92 = true) ∧ (s.hub.domOn 2 = true) ∧ (64 ≤ frame.length) ∧ (frame.length ≤ 1522) ∧ (s.hub.lumeMatch tid = some p)) ∧
    (∃ s : State, ∃ r : Req, ∃ v : Nat, ∃ a, s.Inv ∧ (s.hub.Grants r LMD.P_ETID_ETID 0) ∧ (s.hub.rd LMD.hStage 0 (s.hub.rd LMD.PSEL_PORT) = a + 1) ∧ ((bits a 31 1 = 0 ∨ assignable (bits a 0 20) = true ∧ assignable (bits v 0 20) = true ∧ s.hub.lumeMatch (bits v 0 20) = none))) ∧
    (∃ s : State, ∃ p : Fin 8, s.Inv ∧ (s.hub.up 0x92 = true) ∧ (s.hub.rd PDM.STATE_CURRENT = 2 ∨ s.hub.on LMD.P_CFG_LOSS_MS 0 p = true) ∧ (s.hub.on LMD.P_STAT_MODE 0 p = false)) ∧
    (∃ s : State, ∃ p : Fin 8, s.Inv ∧ (s.hub.up 0x92 = true) ∧ (s.hub.on LMD.P_STAT_MODE 0 p = true)) ∧
    (∃ s : State, ∃ p : Fin 8, s.Inv ∧ (s.hub.up (0x93 + p) = true)) :=
  ⟨⟨w1, 1, fr 60, inv_and (by decide +kernel)⟩,
   ⟨w2, 1, (fr 12 ++ [0x88, 0x08] ++ fr 60), inv_and (by decide +kernel)⟩,
   ⟨w3, 1, fr 70, inv_and (by decide +kernel)⟩,
   ⟨w4, 1, fr 70, inv_and (by decide +kernel)⟩,
   ⟨w5, 77, inv_of (by decide +kernel), by decide +kernel, by decide +kernel, by decide +kernel, eth_none (by decide +kernel)⟩,
   ⟨w6, 0x4005, 0, 0, inv_and (by decide +kernel)⟩,
   ⟨w7, cpu, 1, 0x4001, 0x4009, inv_of (by decide +kernel), grants_of (by decide +kernel), by decide +kernel⟩,
   ⟨w8, 1, inv_and (by decide +kernel)⟩,
   ⟨w9, false, fr 70, inv_and (by decide +kernel)⟩,
   ⟨w10, 2, fr 70, inv_and (by decide +kernel)⟩,
   ⟨w11, 0x4005, fr 70, 2, inv_and (by decide +kernel)⟩,
   ⟨w12, cpu, 0x4009, 0x80004001, inv_of (by decide +kernel), grants_of (by decide +kernel), by decide +kernel⟩,
   ⟨w13, 2, inv_and (by decide +kernel)⟩,
   ⟨w14, 2, inv_and (by decide +kernel)⟩,
   ⟨w15, 1, inv_and (by decide +kernel)⟩⟩

end W15

/-! ### Fragment 16 -/

namespace W16

def clk0 : List (Fld × Nat × Nat × Nat) := [(CLK.GSTAT_RUN,0,0,0xFFFFFFFF)]
def PU := [0xA0, 0xA1, 0xA2]
def hu := clk0 ++ [(USB.hAttached,0,0,1),(USB.STAT_UPACT,0,0,2),(USB.CFG_PORTEN,0,0,0x7F),(USB.PORTSTAT_POWER,0,2,1),(USB.PORTSTAT_CONNECT,0,2,1),(USB.PORTSTAT_ENABLE,0,2,1),(USB.PORTSTAT_POWER,0,7,1),(USB.PORTSTAT_CONNECT,0,7,1),(UDF.CTL_CONNECT,0,0,1)]
def ag := hu ++ [(USB.STAT_UPACT,0,0,1),(HDR.PCTL_EN,0xA2,0,1),(RHA.CFG_MODE,0,0,1),(RHA.A_DTID_VALID,0,0,1),(RHA.A_DTID_TID,0,0,0x4001),(RHA.A_UTID_TID,0,0,0x4002)]
def se := hu ++ [(HDR.PCTL_EN,0xA2,0,1),(RHA.CFG_MODE,0,0,2),(RHA.RCFG_EN,0,3,1),(RHA.RCFG_XTYPE,0,3,1),(RHA.RCFG_IN,0,3,1),(RHA.RDTID_TID,0,3,0x4001),(RHA.RUTID_TID,0,3,0x4002),(RHA.RSEL_RING,0,0,3)]
def q0 : UsbReq := { ring := 3, slot := 2, len := 5, reqseq := 9, devaddr := 1, ep := 1, isIn := true, xtype := 1, mps := 64, speed := 1, port := 2, tmoMs := 7 }
def held (h : Hub) : Hub := { h with usbHeld := [(4, ⟨q0, 3, [], 0⟩)] }
def x0 : UsbFlight := ⟨3, 2, 9, 0x4001, 0x4002, 5⟩
def fly (h : Hub) : Hub := { h with usbFly := [x0] }
def c0 : UsbCpl := { ring := 3, slot := 2, status := 0, actual := 5, reqseq := 9 }
def ds (h : Hub) : Hub := h.setTwords (descAddr 3 0 0) [0xD, 5 + 3 * 65536, 8]
def ud := hu ++ [(UDF.STAT_CONFIGURED,0,0,1),(UDF.CTL_EP1_EN,0,0,1),(UDF.CTL_EP2_EN,0,0,1)]

def w1 : State := node PU hu
def w2 : State := node PU hu
def w3 : State := node PU (hu ++ [(USB.hAttached,0,0,0)])
def w4 : State := node PU hu
def w5 : State := node PU hu
def w6 : State := node PU (hu ++ [(USB.STAT_SUSPENDED,0,0,1),(USB.hWoken,0,0,0)])
def w7 : State := node PU hu
def w8 : State := node PU hu
def w9 : State := node PU (hu ++ [(USB.STAT_SUSPENDED,0,0,1),(UDF.WAKE_PENDING,0,0,1)])
def w10 : State := node PU hu
def w11 : State := node PU hu
def w12 : State := node PU hu
def w13 : State := node PU hu
def w14 : State := node PU hu
def w15 : State := node PU hu

theorem test_witness_UsbHubCommandsComplete :
    (∃ s : State, ∃ r, s.Inv ∧ (s.hub.Grants r USB.CFG_UPSEL 0) ∧ (s.hub.up 0xA0 = true)) ∧
    (∃ s : State, s.Inv ∧ (s.hub.up 0xA0 = true) ∧ (s.hub.upactOf ≠ s.hub.rd USB.STAT_UPACT)) ∧
    (∃ s : State, s.Inv ∧ (s.hub.up 0xA0 = true) ∧ (s.hub.on USB.STAT_UPACT = true) ∧ (s.hub.on USB.hAttached = false)) ∧
    (∃ s : State, ∃ p : Fin 4, s.Inv ∧ (s.hub.up 0xA0 = true) ∧ (s.hub.on USB.PORTSTAT_POWER 0 (p + 1) = true)) ∧
    (∃ s : State, s.Inv ∧ (s.hub.up 0xA0 = true) ∧ (s.hub.on USB.hAttached = true) ∧ (s.hub.rd USB.STAT_UPACT ≠ 1 ∨ s.hub.rd RHA.STAT_BUS = 1)) ∧
    (∃ s : State, ∃ port : Nat, s.Inv ∧ (s.hub.up 0xA0 = true) ∧ (1 ≤ port) ∧ (port ≤ 7) ∧ (s.hub.on USB.hAttached = true) ∧ (s.hub.on USB.STAT_SUSPENDED = true) ∧ (s.hub.on USB.hWoken = false)) ∧
    (∃ s : State, s.Inv ∧ (s.hub.up 0xA0 = true)) ∧
    (∃ s : State, s.Inv ∧ (s.hub.up 0xA0 = true) ∧ (s.hub.agent = false)) ∧
    (∃ s : State, s.Inv ∧ (s.hub.up 0xA0 = true) ∧ (s.hub.on USB.STAT_SUSPENDED = true)) ∧
    (∃ s : State, ∃ p : Fin 8, s.Inv ∧ (s.hub.up 0xA0 = true) ∧ (s.hub.on USB.hAttached = true) ∧ (1 ≤ p.val) ∧ (s.hub.bit USB.CFG_PORTEN (p - 1) = true)) ∧
    (∃ s : State, ∃ p : Fin 8, s.Inv ∧ (s.hub.up 0xA0 = true) ∧ (s.hub.on USB.hAttached = true) ∧ (1 ≤ p.val) ∧ (p.val < 7) ∧ (s.hub.bit USB.CFG_PORTEN (p - 1) = true)) ∧
    (∃ s : State, ∃ p : Fin 8, s.Inv ∧ (s.hub.up 0xA0 = true) ∧ (s.hub.on USB.hAttached = true) ∧ (1 ≤ p.val) ∧ (s.hub.bit USB.CFG_PORTEN (p - 1) = true) ∧ (s.hub.on USB.PORTSTAT_CONNECT 0 p = true)) ∧
    (∃ s : State, ∃ p : Fin 8, s.Inv ∧ (s.hub.up 0xA0 = true) ∧ (s.hub.on USB.hAttached = true) ∧ (1 ≤ p.val) ∧ (s.hub.bit USB.CFG_PORTEN (p - 1) = true) ∧ (s.hub.on USB.PORTSTAT_ENABLE 0 p = true)) ∧
    (∃ s : State, ∃ p : Fin 7, s.Inv ∧ (s.hub.up 0xA0 = true) ∧ (p.val ≠ 6) ∧ (s.hub.portUsable (p + 1) = true)) ∧
    (∃ s : State, s.Inv ∧ (s.hub.up 0xA0 = true)) :=
  ⟨⟨w1, cpu, inv_of (by decide +kernel), grants_of (by decide +kernel), by decide +kernel⟩,
   ⟨w2, inv_and (by decide +kernel)⟩,
   ⟨w3, inv_and (by decide +kernel)⟩,
   ⟨w4, 1, inv_and (by decide +kernel)⟩,
   ⟨w5, inv_and (by decide +kernel)⟩,
   ⟨w6, 2, inv_and (by decide +kernel)⟩,
   ⟨w7, inv_and (by decide +kernel)⟩,
   ⟨w8, inv_and (by decide +kernel)⟩,
   ⟨w9, inv_and (by decide +kernel)⟩,
   ⟨w10, 2, inv_and (by decide +kernel)⟩,
   ⟨w11, 2, inv_and (by decide +kernel)⟩,
   ⟨w12, 2, inv_and (by decide +kernel)⟩,
   ⟨w13, 2, inv_and (by decide +kernel)⟩,
   ⟨w14, 1, inv_and (by decide +kernel)⟩,
   ⟨w15, inv_and (by decide +kernel)⟩⟩

def w16 : State := node PU clk0
def w17 : State := node PU se ds
def w18 : State := node PU ag
def w19 : State := node PU (ag ++ [(USB.STAT_UPACT,0,0,2)])
def w20 : State := node PU ag held
def w21 : State := node PU ag held
def w22 : State := node PU ag held
def w23 : State := node PU se
def w24 : State := node PU se fly
def w25 : State := node PU se fly
def w26 : State := node PU ag held
def w27 : State := node PU se
def w28 : State := node PU ag
def w29 : State := node PU se
def w30 : State := node PU se fly
def w31 : State := node PU ag
def w32 : State := node PU se fly

theorem test_witness_UsbAgentCommandsComplete :
    (∃ s : State, ∃ r : Req, s.Inv ∧ (s.hub.Accepts r RHA.DB_RING 0) ∧ (s.hub.session = false)) ∧
    (∃ s : State, ∃ r : Req, ∃ ring : Fin 256, ∃ i, ∃ w, s.Inv ∧ (s.hub.Accepts r RHA.DB_RING 0) ∧ (s.hub.session = true) ∧ (s.hub.on RHA.RCFG_EN 0 ring = true) ∧ (s.hub.rd RHA.RPTR_HEAD 0 ring = i) ∧ (w = (s.hub.twords (descAddr ring i 0) 8)) ∧ ((w.getD 0 0).testBit 0 = true) ∧ (s.hub.rd RHA.RPTR_INFLIGHT 0 ring < 16) ∧ (bits (w.getD 1 0) 0 13 ≤ 4096) ∧ (bits (w.getD 1 0) 16 12 + ceilDiv (bits (w.getD 1 0) 0 13) 32 ≤ 4096) ∧ ((s.hub.usbFly.filter fun x => x.dtid == s.hub.rd RHA.RDTID_TID 0 ring) = []) ∧ (s.hub.rd RHA.RCFG_XTYPE 0 ring ≠ 0) ∧ (s.hub.on RHA.RCFG_IN 0 ring = true)) ∧
    (∃ s : State, ∃ tid : Nat, ∃ sl, s.Inv ∧ (s.hub.agent = true) ∧ (s.hub.on RHA.A_DTID_VALID = true) ∧ (s.hub.rd RHA.A_DTID_TID = tid) ∧ (s.hub.domOn 2 = true) ∧ (s.hub.rd USB.STAT_UPACT = 1) ∧ ((List.range 64).find? (fun sl => !Tab.has sl s.hub.usbHeld) = some sl)) ∧
    (∃ s : State, ∃ tid : Nat, ∃ sl, s.Inv ∧ (s.hub.agent = true) ∧ (s.hub.on RHA.A_DTID_VALID = true) ∧ (s.hub.rd RHA.A_DTID_TID = tid) ∧ (s.hub.domOn 2 = true) ∧ (s.hub.rd USB.STAT_UPACT ≠ 1) ∧ ((List.range 64).find? (fun sl => !Tab.has sl s.hub.usbHeld) = some sl)) ∧
    (∃ s : State, ∃ slot : Fin 64, ∃ x, s.Inv ∧ (s.hub.agent = true) ∧ (s.hub.rd RHA.STAT_BUS = 0) ∧ (s.hub.heldHead slot = some x)) ∧
    (∃ s : State, ∃ slot : Fin 64, ∃ x, s.Inv ∧ (s.hub.agent = true) ∧ (s.hub.rd RHA.STAT_BUS = 0) ∧ (s.hub.heldHead slot = some x) ∧ (x.q.tmoMs ≠ 0)) ∧
    (∃ s : State, ∃ slot : Fin 64, ∃ x, s.Inv ∧ (s.hub.agent = true) ∧ (s.hub.rd RHA.STAT_BUS = 0) ∧ (s.hub.heldHead slot = some x)) ∧
    (∃ s : State, ∃ tid : Nat, ∃ c : UsbCpl, s.Inv ∧ (s.hub.session = true) ∧ (s.hub.domOn 2 = true) ∧ (s.hub.rd RHA.RUTID_TID 0 c.ring ≠ tid)) ∧
    (∃ s : State, ∃ tid : Nat, ∃ c : UsbCpl, ∃ x, s.Inv ∧ (s.hub.session = true) ∧ (s.hub.domOn 2 = true) ∧ (s.hub.rd RHA.RUTID_TID 0 c.ring = tid) ∧ (s.hub.usbFly.find? (fun x => x.ring == c.ring && x.slot == c.slot && x.seq == c.reqseq) = some x) ∧ ((∀ k : Nat, k < 256 → s.hub.on RHA.hRung 0 k = false))) ∧
    (∃ s : State, ∃ r : Req, ∃ v : Nat, ∃ x, s.Inv ∧ (s.hub.Accepts r RHA.CANCEL_GO 0) ∧ (v.testBit 16 = true) ∧ (s.hub.session = true) ∧ (s.hub.usbFly.find? (fun x => x.ring == v % 256 && x.slot == bits v 8 4) = some x)) ∧
    (∃ s : State, ∃ tid : Nat, ∃ ring : Nat, ∃ slot : Nat, ∃ reqseq : Nat, ∃ sl, ∃ x, s.Inv ∧ (s.hub.agent = true) ∧ (s.hub.domOn 2 = true) ∧ (s.hub.on RHA.A_DTID_VALID = true) ∧ (s.hub.rd RHA.A_DTID_TID = tid) ∧ ((s.hub.heldList.filter fun p => p.2.q.ring == ring && p.2.q.slot == slot && p.2.q.reqseq == reqseq) = [(sl, x)])) ∧
    (∃ s : State, ∃ r : Req, ∃ v : Nat, s.Inv ∧ (s.hub.Accepts r RHA.BUSCTL_GO 0) ∧ (v.testBit 4 = true) ∧ (v % 4 ≠ 0) ∧ (s.hub.session = true)) ∧
    (∃ s : State, ∃ tid : Nat, ∃ op : Nat, s.Inv ∧ (s.hub.agent = true) ∧ (s.hub.domOn 2 = true) ∧ (s.hub.on RHA.A_DTID_VALID = true) ∧ (s.hub.rd RHA.A_DTID_TID = tid) ∧ (1 ≤ op) ∧ (op ≤ 3)) ∧
    (∃ s : State, ∃ ev : Nat, s.Inv ∧ (s.hub.session = true) ∧ (s.hub.domOn 2 = true) ∧ (ev ≠ 1)) ∧
    (∃ s : State, ∃ tid : Nat, ∃ oldest : Nat, ∃ x, s.Inv ∧ (s.hub.session = true) ∧ (s.hub.domOn 2 = true) ∧ ((s.hub.usbFly.filter fun x => x.utid == tid && decide ((oldest + 65535 - x.seq) % 65536 < 32768)) = [x])) ∧
    (∃ s : State, s.Inv ∧ (s.hub.agent = true) ∧ (s.hub.usbHeld ≠ [] ∨ s.hub.on RHA.A_DTID_VALID = true)) ∧
    (∃ s : State, ∃ tid : Nat, ∃ ring : Fin 256, s.Inv ∧ (s.hub.session = true) ∧ (s.hub.on RHA.RCFG_EN 0 ring = true) ∧ (s.hub.rd RHA.RUTID_TID 0 ring = tid)) :=
  ⟨⟨w16, cpu, inv_of (by decide +kernel), accepts_of (by decide +kernel), by decide +kernel⟩,
   ⟨w17, cpu, 3, 0, [0xD, 5 + 3 * 65536, 8,0,0,0,0,0], inv_of (by decide +kernel), accepts_of (by decide +kernel), by decide +kernel⟩,
   ⟨w18, 0x4001, 0, inv_and (by decide +kernel)⟩,
   ⟨w19, 0x4001, 0, inv_and (by decide +kernel)⟩,
   ⟨w20, 4, ⟨q0, 3, [], 0⟩, inv_and (by decide +kernel)⟩,
   ⟨w21, 4, ⟨q0, 3, [], 0⟩, inv_and (by decide +kernel)⟩,
   ⟨w22, 4, ⟨q0, 3, [], 0⟩, inv_and (by decide +kernel)⟩,
   ⟨w23, 77, c0, inv_and (by decide +kernel)⟩,
   ⟨w24, 0x4002, c0, x0, inv_and (by decide +kernel)⟩,
   ⟨w25, cpu, 0x10203, x0, inv_of (by decide +kernel), accepts_of (by decide +kernel), by decide +kernel⟩,
   ⟨w26, 0x4001, 3, 2, 9, 4, ⟨q0, 3, [], 0⟩, inv_and (by decide +kernel)⟩,
   ⟨w27, cpu, 0x12, inv_of (by decide +kernel), accepts_of (by decide +kernel), by decide +kernel⟩,
   ⟨w28, 0x4001, 2, inv_and (by decide +kernel)⟩,
   ⟨w29, 2, inv_and (by decide +kernel)⟩,
   ⟨w30, 0x4002, 11, x0, inv_and (by decide +kernel)⟩,
   ⟨w31, inv_and (by decide +kernel)⟩,
   ⟨w32, 0x4002, 3, inv_and (by decide +kernel)⟩⟩

def w33 : State := node PU ud
def w34 : State := node PU ud
def w35 : State := node PU (ud ++ [(UDF.STAT_CSTATE,0,0,1)])
def w36 : State := node PU (ud ++ [(UDF.STAT_CSTATE,0,0,1)])
def w37 : State := node PU (ud ++ [(UDF.STAT_CSTATE,0,0,1)])
def w38 : State := node PU (ud ++ [(UDF.STAT_CSTATE,0,0,2)])
def w39 : State := node PU (ud ++ [(UDF.STAT_CSTATE,0,0,2),(UDF.EP0CTL_BUSY,0,0,1)])
def w40 : State := node PU ud
def w41 : State := node PU ud
def w42 : State := node PU ud
def w43 : State := node PU (ud ++ [(UDF.STAT_CSTATE,0,0,1),(UDF.EP0CTL_BUSY,0,0,1),(UDF.EP0CTL_LEN,0,0,5)])
def w44 : State := node PU (ud ++ [(UDF.EP1CTL_INBUSY,0,0,1)])
def w45 : State := node PU (ud ++ [(UDF.EP2CTL_BUSY,0,0,1)])
def w46 : State := node PU ud

theorem test_witness_UsbDeviceCommandsComplete :
    (∃ s : State, ∃ bytes : Bytes, s.Inv ∧ (s.hub.udfLive = true) ∧ (bytes.getD 0 0 = 0) ∧ (bytes.getD 1 0 = 5)) ∧
    (∃ s : State, ∃ bytes : Bytes, s.Inv ∧ (s.hub.udfLive = true) ∧ (bytes.getD 0 0 = 0) ∧ (bytes.getD 1 0 = 9)) ∧
    (∃ s : State, ∃ bytes : Bytes, s.Inv ∧ (s.hub.udfLive = true) ∧ (9 < (bytes.getD 1 0).toNat)) ∧
    (∃ s : State, ∃ r : Req, s.Inv ∧ (s.hub.Accepts r UDF.EP0CTL_GO 0)) ∧
    (∃ s : State, ∃ r : Req, s.Inv ∧ (s.hub.Accepts r UDF.EP0CTL_STALL 0)) ∧
    (∃ s : State, ∃ r : Req, s.Inv ∧ (s.hub.Accepts r UDF.EP0CTL_STATUS_GO 0) ∧ (s.hub.on UDF.hIn = false)) ∧
    (∃ s : State, s.Inv ∧ (s.hub.udfLive = true) ∧ (s.hub.on UDF.hStall = false) ∧ (s.hub.on UDF.hIn = false) ∧ (s.hub.rd UDF.STAT_CSTATE = 2) ∧ (s.hub.on UDF.EP0CTL_BUSY = true)) ∧
    (∃ s : State, ∃ r : Req, s.Inv ∧ (s.hub.Accepts r UDF.EP1CTL_INGO 0)) ∧
    (∃ s : State, s.Inv ∧ (s.hub.udfLive = true) ∧ (s.hub.on UDF.CTL_EP1_EN = true) ∧ (s.hub.on UDF.STAT_CONFIGURED = true) ∧ (s.hub.on UDF.EP1CTL_OUTFULL = false) ∧ (s.hub.on UDF.EP1CTL_HALT_OUT = false)) ∧
    (∃ s : State, ∃ r : Req, s.Inv ∧ (s.hub.Accepts r UDF.EP2CTL_GO 0)) ∧
    (∃ s : State, s.Inv ∧ (s.hub.udfLive = true) ∧ (s.hub.on UDF.hStall = false) ∧ (s.hub.rd UDF.STAT_CSTATE = 1) ∧ (s.hub.on UDF.EP0CTL_BUSY = true)) ∧
    (∃ s : State, s.Inv ∧ (s.hub.udfLive = true) ∧ (s.hub.on UDF.CTL_EP1_EN = true) ∧ (s.hub.on UDF.STAT_CONFIGURED = true) ∧ (s.hub.on UDF.EP1CTL_INBUSY = true) ∧ (s.hub.on UDF.EP1CTL_HALT_IN = false)) ∧
    (∃ s : State, s.Inv ∧ (s.hub.udfLive = true) ∧ (s.hub.on UDF.CTL_EP2_EN = true) ∧ (s.hub.on UDF.STAT_CONFIGURED = true) ∧ (s.hub.on UDF.EP2CTL_BUSY = true) ∧ (s.hub.on UDF.hHalt2 = false)) ∧
    (∃ s : State, ∃ r : Req, s.Inv ∧ (s.hub.Accepts r UDF.WAKE_REQ 0)) :=
  ⟨⟨w33, [0,5,7,0,0,0,0,0], inv_and (by decide +kernel)⟩,
   ⟨w34, [0,9,1,0,0,0,0,0], inv_and (by decide +kernel)⟩,
   ⟨w35, [0x80,12,7,0,0,0,3,0], inv_and (by decide +kernel)⟩,
   ⟨w36, cpu, inv_of (by decide +kernel), accepts_of (by decide +kernel)⟩,
   ⟨w37, cpu, inv_of (by decide +kernel), accepts_of (by decide +kernel)⟩,
   ⟨w38, cpu, inv_of (by decide +kernel), accepts_of (by decide +kernel), by decide +kernel⟩,
   ⟨w39, inv_and (by decide +kernel)⟩,
   ⟨w40, cpu, inv_of (by decide +kernel), accepts_of (by decide +kernel)⟩,
   ⟨w41, inv_and (by decide +kernel)⟩,
   ⟨w42, cpu, inv_of (by decide +kernel), accepts_of (by decide +kernel)⟩,
   ⟨w43, inv_and (by decide +kernel)⟩,
   ⟨w44, inv_and (by decide +kernel)⟩,
   ⟨w45, inv_and (by decide +kernel)⟩,
   ⟨w46, cpu, inv_of (by decide +kernel), accepts_of (by decide +kernel)⟩⟩

end W16

/-! ### Fragment 17 -/

namespace W17

def PC := [0xB1, 0xB8, 0xC0, 0xC8]
def lv : List (Fld × Nat × Nat × Nat) := [(CLK.GSTAT_RUN,0,0,0xFFFFFFFF),(HDR.PCTL_EN,0xB1,0,1),(OPT.STAT_STATE,1,0,3)]
def cl (st role : Nat) := lv ++ [(CLP.STAT_STATE,1,0,st),(CLP.STAT_ROLE,1,0,role),(CLP.IMAX_OFFER,1,0,300),(CLP.IMAX_CABLE,1,0,500)]
def askd (ct tries : Nat) (h : Hub) : Hub := { h with claspAsk := [(1, ⟨ct, 7, [1,2], tries, true⟩)] }

def w1 : State := node PC (cl 1 0 ++ [(CLP.CFG_PREF,1,0,1),(CLP.CFG_SRC_CAP,1,0,1),(CLP.STAT_POWER_OK,1,0,1)])
def w2 : State := node PC (cl 5 2 ++ [(CLP.hWant,1,0,1)])
def w3 : State := node PC (cl 5 1 ++ [(CLP.hWant,1,0,2)])
def w4 : State := node PC (cl 1 0 ++ [(CLP.CFG_PREF,1,0,0),(CLP.CFG_SNK_CAP,1,0,1)])
def w5 : State := node PC (cl 4 1 ++ [(CLP.STAT_SW,1,0,1)])
def w6 : State := node PC (cl 4 2)
def w7 : State := node PC (cl 4 1)
def w8 : State := node PC (cl 4 1 ++ [(CLP.CONTRACT_ICUR,1,0,200)])
def w9 : State := node PC (cl 4 1 ++ [(CLP.CONTRACT_ICUR,1,0,200)])
def w10 : State := node PC (cl 3 2) (askd 2 0)
def w11 : State := node PC (cl 3 2) (askd 2 0)
def w12 : State := node PC (cl 3 2)
def w13 : State := node PC (cl 4 1 ++ [(CLP.hLower,1,0,1),(CLP.hPend,1,0,101)])
def w14 : State := node PC (cl 4 1)
def w15 : State := node PC (cl 4 1)
def w16 : State := node PC (cl 4 2 ++ [(CLP.STAT_POWER_OK,1,0,1),(CLP.CFG_SPRIO,1,0,3),(CLP.CFG_SRC_CAP,1,0,1)])
def w17 : State := node PC (cl 4 2)
def w18 : State := node PC (cl 4 2) (askd 8 0)
def w19 : State := node PC (cl 4 2) (askd 8 0)
def w20 : State := node PC (cl 5 1)
def w21 : State := node PC (cl 4 1)
def w22 : State := node PC (cl 5 2)
def w23 : State := node PC (cl 4 1) (askd 5 0)
def w24 : State := node PC (cl 4 1 ++ [(CLP.hFast,1,0,1)]) (askd 11 0)
def w25 : State := node PC (cl 4 1) (askd 1 1)
def w26 : State := node PC (cl 4 1) (askd 1 3)
def w27 : State := node PC (cl 5 1)
def w28 : State := node PC (cl 4 1)
def w29 : State := node PC (cl 4 1)
def w30 : State := node PC (cl 4 1)
def w31 : State := node PC (cl 4 1)
def w32 : State := node PC (cl 4 2 ++ [(CLP.STAT_ARMED,1,0,1),(OPT.STAT_SF_RX,1,0,1)])
def w33 : State := node PC (cl 4 1 ++ [(CLP.STAT_SF_TX,1,0,1),(CLP.hArmed,1,0,1)])
def w34 : State := node PC (cl 4 1)
def w35 : State := node PC (cl 4 1 ++ [(OPT.STAT_CA_RX,1,0,1)])
def w36 : State := node PC (cl 6 0)
def w37 : State := node PC (cl 6 0)

theorem test_witness_ClaspCommandsComplete :
    (∃ s : State, ∃ p : Fin 8, s.Inv ∧ (s.hub.live (0xB0 + p) = true) ∧ (s.hub.solitaire = false) ∧ (s.hub.rd CLP.STAT_STATE p = 1) ∧ (s.hub.rd CLP.STAT_SW p = 0) ∧ (s.hub.on CLP.CFG_PREF p = true) ∧ (s.hub.on CLP.CFG_SRC_CAP p = true) ∧ (s.hub.on CLP.STAT_POWER_OK p = true) ∧ (s.hub.bootFed = false)) ∧
    (∃ s : State, ∃ p : Fin 8, s.Inv ∧ (s.hub.live (0xB0 + p) = true) ∧ (s.hub.solitaire = false) ∧ (s.hub.rd CLP.hWant p = 1)) ∧
    (∃ s : State, ∃ p : Fin 8, s.Inv ∧ (s.hub.live (0xB0 + p) = true) ∧ (s.hub.solitaire = false) ∧ (s.hub.rd CLP.hWant p = 2)) ∧
    (∃ s : State, ∃ p : Fin 8, s.Inv ∧ (s.hub.live (0xB0 + p) = true) ∧ (s.hub.solitaire = false) ∧ (s.hub.rd CLP.hWant p = 0) ∧ (s.hub.rd CLP.STAT_STATE p = 1) ∧ (s.hub.rd CLP.CFG_PREF p = 0) ∧ (s.hub.on CLP.CFG_SNK_CAP p = true)) ∧
    (∃ s : State, ∃ p : Fin 8, s.Inv ∧ (s.hub.up (0xB0 + p) = true) ∧ (s.hub.on CLP.STAT_SW p = true)) ∧
    (∃ s : State, ∃ p : Fin 8, s.Inv ∧ (s.hub.claspOn p = true)) ∧
    (∃ s : State, ∃ p : Fin 8, ∃ ireq : Nat, s.Inv ∧ (s.hub.claspOn p = true) ∧ (s.hub.rd CLP.STAT_ROLE p = 1) ∧ (s.hub.rd CLP.STAT_STATE p ≠ 5) ∧ (s.hub.rd CLP.STAT_STATE p ≠ 6) ∧ (s.hub.imaxOffer p < ireq)) ∧
    (∃ s : State, ∃ p : Fin 8, ∃ ireq : Nat, s.Inv ∧ (s.hub.claspOn p = true) ∧ (s.hub.rd CLP.STAT_ROLE p = 1) ∧ (s.hub.rd CLP.STAT_STATE p ≠ 5) ∧ (s.hub.rd CLP.STAT_STATE p ≠ 6) ∧ (ireq ≤ s.hub.imaxOffer p) ∧ (ireq < s.hub.rd CLP.CONTRACT_ICUR p)) ∧
    (∃ s : State, ∃ p : Fin 8, ∃ ireq : Nat, s.Inv ∧ (s.hub.claspOn p = true) ∧ (s.hub.rd CLP.STAT_ROLE p = 1) ∧ (s.hub.rd CLP.STAT_STATE p = 4) ∧ (ireq ≤ s.hub.imaxOffer p) ∧ (s.hub.rd CLP.CONTRACT_ICUR p ≤ ireq)) ∧
    (∃ s : State, ∃ p : Fin 8, ∃ tok : Nat, s.Inv ∧ (s.hub.claspOn p = true) ∧ (s.hub.asked p 2 tok = true)) ∧
    (∃ s : State, ∃ p : Fin 8, ∃ tok : Nat, s.Inv ∧ (s.hub.claspOn p = true) ∧ (s.hub.asked p 2 tok = true)) ∧
    (∃ s : State, ∃ p : Fin 8, s.Inv ∧ (s.hub.claspOn p = true) ∧ (s.hub.rd CLP.STAT_ROLE p = 2)) ∧
    (∃ s : State, ∃ p : Fin 8, s.Inv ∧ (s.hub.live (0xB0 + p) = true) ∧ (s.hub.on CLP.hLower p = true) ∧ (s.hub.rd CLP.STAT_ROLE p = 1)) ∧
    (∃ s : State, ∃ p : Fin 8, s.Inv ∧ (s.hub.claspOn p = true)) ∧
    (∃ s : State, ∃ p : Fin 8, s.Inv ∧ (s.hub.claspOn p = true)) ∧
    (∃ s : State, ∃ p : Fin 8, ∃ pwr : Nat, s.Inv ∧ (s.hub.claspOn p = true) ∧ ((Tab.find p.val s.hub.claspAsk).map ClaspAsk.ctype ≠ some 8) ∧ (s.hub.swapRefusal p pwr = 0)) ∧
    (∃ s : State, ∃ p : Fin 8, ∃ pwr : Nat, s.Inv ∧ (s.hub.claspOn p = true) ∧ ((Tab.find p.val s.hub.claspAsk).map ClaspAsk.ctype ≠ some 8) ∧ (s.hub.swapRefusal p pwr ≠ 0)) ∧
    (∃ s : State, ∃ p : Fin 8, ∃ tok : Nat, s.Inv ∧ (s.hub.claspOn p = true) ∧ (s.hub.asked p 8 tok = true)) ∧
    (∃ s : State, ∃ p : Fin 8, s.Inv ∧ (s.hub.claspOn p = true)) ∧
    (∃ s : State, ∃ p : Fin 8, s.Inv ∧ (s.hub.claspOn p = true) ∧ (s.hub.rd CLP.STAT_STATE p = 5)) ∧
    (∃ s : State, ∃ p : Fin 8, s.Inv ∧ (s.hub.claspOn p = true)) ∧
    (∃ s : State, ∃ p : Fin 8, s.Inv ∧ (s.hub.claspOn p = true) ∧ (s.hub.rd CLP.STAT_STATE p = 5)) ∧
    (∃ s : State, ∃ p : Fin 8, ∃ tok : Nat, ∃ ctype : Nat, s.Inv ∧ (s.hub.claspOn p = true) ∧ (s.hub.asked p ctype tok = true) ∧ (ctype ≠ 11)) ∧
    (∃ s : State, ∃ p : Fin 8, ∃ tok : Nat, s.Inv ∧ (s.hub.claspOn p = true) ∧ (s.hub.asked p 11 tok = true) ∧ (s.hub.on CLP.hFast p = true)) ∧
    (∃ s : State, ∃ p : Fin 8, ∃ a, s.Inv ∧ (s.hub.live (0xB0 + p) = true) ∧ (Tab.find p.val s.hub.claspAsk = some a) ∧ (a.tries < 3)) ∧
    (∃ s : State, ∃ p : Fin 8, ∃ a, s.Inv ∧ (s.hub.live (0xB0 + p) = true) ∧ (Tab.find p.val s.hub.claspAsk = some a) ∧ (3 ≤ a.tries)) ∧
    (∃ s : State, ∃ p : Fin 8, s.Inv ∧ (s.hub.live (0xB0 + p) = true) ∧ (s.hub.rd CLP.STAT_STATE p = 5)) ∧
    (∃ s : State, ∃ r : Req, ∃ p : Fin 8, s.Inv ∧ (s.hub.Grants r CLP.CTL_SWAP p) ∧ (s.hub.live (0xB0 + p) = true) ∧ (s.hub.on CLP.STAT_ROLE p = true)) ∧
    (∃ s : State, ∃ r : Req, ∃ p : Fin 8, s.Inv ∧ (s.hub.Grants r CLP.CTL_RENEG p) ∧ (s.hub.live (0xB0 + p) = true)) ∧
    (∃ s : State, ∃ r : Req, ∃ p : Fin 8, s.Inv ∧ (s.hub.Grants r CLP.CTL_OPEN p) ∧ (s.hub.live (0xB0 + p) = true) ∧ (s.hub.solitaire = false) ∧ (s.hub.rd CLP.STAT_STATE p = 3 ∨ s.hub.rd CLP.STAT_STATE p = 4)) ∧
    (∃ s : State, ∃ p : Fin 8, s.Inv ∧ (s.hub.live (0xB0 + p) = true) ∧ (s.hub.rd CLP.STAT_ROLE p = 1)) ∧
    (∃ s : State, ∃ p : Fin 8, ∃ bySf : Bool, s.Inv ∧ (s.hub.live (0xB0 + p) = true) ∧ (s.hub.on CLP.STAT_ARMED p = true) ∧ ((if bySf = true then s.hub.on OPT.STAT_SF_RX p = true else s.hub.rd OPT.STAT_STATE p = 0 ∨ s.hub.rd OPT.STAT_STATE p = 4))) ∧
    (∃ s : State, ∃ p : Fin 8, s.Inv ∧ (s.hub.live (0xB0 + p) = true) ∧ (s.hub.on CLP.STAT_SF_TX p = true) ∧ (s.hub.rd CLP.STAT_ROLE p = 1) ∧ (s.hub.on CLP.hArmed p = true)) ∧
    (∃ s : State, ∃ r, ∃ p : Fin 8, s.Inv ∧ (s.hub.Grants r CLP.CTL_HRESET p) ∧ (s.hub.live (0xB0 + p) = true) ∧ (s.hub.solitaire = false) ∧ (1 ≤ s.hub.rd CLP.STAT_STATE p) ∧ (s.hub.rd CLP.STAT_STATE p ≤ 5)) ∧
    (∃ s : State, ∃ p : Fin 8, s.Inv ∧ (s.hub.live (0xB0 + p) = true) ∧ (s.hub.on OPT.STAT_CA_RX p = true) ∧ (1 ≤ s.hub.rd CLP.STAT_STATE p) ∧ (s.hub.rd CLP.STAT_STATE p ≤ 5)) ∧
    (∃ s : State, ∃ p : Fin 8, s.Inv ∧ (s.hub.live (0xB0 + p) = true) ∧ (s.hub.rd CLP.STAT_STATE p = 6)) ∧
    (∃ s : State, ∃ p : Fin 8, s.Inv ∧ (s.hub.live (0xB0 + p) = true) ∧ (s.hub.rd CLP.STAT_STATE p = 6)) :=
  ⟨⟨w1, 1, inv_and (by decide +kernel)⟩,
   ⟨w2, 1, inv_and (by decide +kernel)⟩,
   ⟨w3, 1, inv_and (by decide +kernel)⟩,
   ⟨w4, 1, inv_and (by decide +kernel)⟩,
   ⟨w5, 1, inv_and (by decide +kernel)⟩,
   ⟨w6, 1, inv_and (by decide +kernel)⟩,
   ⟨w7, 1, 400, inv_and (by decide +kernel)⟩,
   ⟨w8, 1, 100, inv_and (by decide +kernel)⟩,
   ⟨w9, 1, 250, inv_and (by decide +kernel)⟩,
   ⟨w10, 1, 7, inv_and (by decide +kernel)⟩,
   ⟨w11, 1, 7, inv_and (by decide +kernel)⟩,
   ⟨w12, 1, inv_and (by decide +kernel)⟩,
   ⟨w13, 1, inv_and (by decide +kernel)⟩,
   ⟨w14, 1, inv_and (by decide +kernel)⟩,
   ⟨w15, 1, inv_and (by decide +kernel)⟩,
   ⟨w16, 1, 0x35, inv_and (by decide +kernel)⟩,
   ⟨w17, 1, 0x35, inv_and (by decide +kernel)⟩,
   ⟨w18, 1, 7, inv_and (by decide +kernel)⟩,
   ⟨w19, 1, inv_and (by decide +kernel)⟩,
   ⟨w20, 1, inv_and (by decide +kernel)⟩,
   ⟨w21, 1, inv_and (by decide +kernel)⟩,
   ⟨w22, 1, inv_and (by decide +kernel)⟩,
   ⟨w23, 1, 7, 5, inv_and (by decide +kernel)⟩,
   ⟨w24, 1, 7, inv_and (by decide +kernel)⟩,
   ⟨w25, 1, ⟨1, 7, [1,2], 1, true⟩, inv_and (by decide +kernel)⟩,
   ⟨w26, 1, ⟨1, 7, [1,2], 3, true⟩, inv_and (by decide +kernel)⟩,
   ⟨w27, 1, inv_and (by decide +kernel)⟩,
   ⟨w28, cpu, 1, inv_of (by decide +kernel), grants_of (by decide +kernel), by decide +kernel⟩,
   ⟨w29, cpu, 1, inv_of (by decide +kernel), grants_of (by decide +kernel), by decide +kernel⟩,
   ⟨w30, cpu, 1, inv_of (by decide +kernel), grants_of (by decide +kernel), by decide +kernel⟩,
   ⟨w31, 1, inv_and (by decide +kernel)⟩,
   ⟨w32, 1, true, inv_and (by decide +kernel)⟩,
   ⟨w33, 1, inv_and (by decide +kernel)⟩,
   ⟨w34, cpu, 1, inv_of (by decide +kernel), grants_of (by decide +kernel), by decide +kernel⟩,
   ⟨w35, 1, inv_and (by decide +kernel)⟩,
   ⟨w36, 1, inv_and (by decide +kernel)⟩,
   ⟨w37, 1, inv_and (by decide +kernel)⟩⟩

end W17

/-! ### Fragment 18 -/

namespace W18

def PT := [0xB1, 0xB8, 0xB9, 0xC1, 0xC8, 0xA0, 0x76]
def lt : List (Fld × Nat × Nat × Nat) := [(CLK.GSTAT_RUN,0,0,0xFFFFFFFF),(HDR.PCTL_EN,0xC1,0,1),(TCP.CFG_PROLE,1,0,2),(TCP.STAT_ATTACHED,1,0,1),(TCP.hVen,1,0,1),(TCP.PDO_EN,1,0,15),(TCP.PDOI_A_I9,1,0,300)]
def lo (st : Nat) := lt ++ [(LPO.STAT_STATE,1,0,st),(LPO.ELIM_MJ,1,0,60000),(BUS.CFG_UV_DV,0,0,480),(BUS.CFG_OV_DV,0,0,600),(BUS.SHED_SHED_DV,0,0,500),(BUS.BUDGET_W,0,0,500),(BUS.STAT_LOCAL,0,0,1)]

def w1 : State := node PT lt
def w2 : State := node PT (lt ++ [(TCP.CFG_PROLE,1,0,0)])
def w3 : State := node PT lt
def w4 : State := node PT []
def w5 : State := node PT (lt ++ [(PDM.STATE_CURRENT,0,0,2),(TCP.CFG_FRS_EN,1,0,1),(TCP.STAT_FRS_READY,1,0,1)])
def w6 : State := node PT []
def w7 : State := node PT (lt ++ [(TCP.hMode,1,0,1),(TCP.CFG_ALTMODE_EN,1,0,1)])
def w8 : State := node PT lt
def w9 : State := node PT []
def w10 : State := node PT lt
def w11 : State := node PT (lt ++ [(TCP.STAT_ALTMODE,1,0,1)])
def w12 : State := node PT lt
def w13 : State := node PT lt
def w14 : State := node PT lt
def w15 : State := node PT lt
def w16 : State := node PT lt
def w17 : State := node PT lt
def w18 : State := node PT lt
def w19 : State := node PT lt
def w20 : State := node PT lt
def w21 : State := node PT lt
def w22 : State := node PT lt
def w23 : State := node PT lt
def w24 : State := node PT lt
def w25 : State := node PT []
def w26 : State := node PT lt

theorem test_witness_TypeCCommandsComplete :
    (∃ s : State, ∃ k : Fin 2, ∃ sink : Bool, s.Inv ∧ (s.hub.up (0xB8 + k) = true) ∧ (s.hub.on TCP.CFG_PROLE k = true) ∧ (s.hub.rd TCP.hAway k ≤ s.hub.cyc) ∧ ((sink = true → s.hub.rd TCP.CFG_PROLE k = 2))) ∧
    (∃ s : State, ∃ k : Fin 2, ∃ sink : Bool, s.Inv ∧ (s.hub.on TCP.CFG_PROLE k = false ∨ s.hub.cyc < s.hub.rd TCP.hAway k ∨ sink = true ∧ s.hub.rd TCP.CFG_PROLE k ≠ 2)) ∧
    (∃ s : State, ∃ k : Fin 2, s.Inv ∧ (s.hub.up (0xB8 + k) = true) ∧ (s.hub.on TCP.STAT_ATTACHED k = true)) ∧
    (∃ s : State, ∃ k : Fin 2, s.Inv ∧ (s.hub.on TCP.STAT_ATTACHED k = false)) ∧
    (∃ s : State, ∃ k : Fin 2, s.Inv ∧ (s.hub.up (0xB8 + k) = true) ∧ (s.hub.on TCP.STAT_ATTACHED k = true) ∧ (s.hub.rd TCP.STAT_PROLE k = 0) ∧ (s.hub.on TCP.hCut k = false) ∧ (s.hub.rd PDM.STATE_CURRENT = 2 ∨ s.hub.rd BUS.VBUS_MV < s.hub.rd CLP.FS_SF_DV * 100)) ∧
    (∃ s : State, ∃ k : Fin 2, s.Inv ∧ (s.hub.on TCP.STAT_ATTACHED k = false ∨ s.hub.rd TCP.STAT_PROLE k ≠ 0 ∨ s.hub.on TCP.hCut k = true ∨ s.hub.rd PDM.STATE_CURRENT ≠ 2 ∧ s.hub.rd CLP.FS_SF_DV * 100 ≤ s.hub.rd BUS.VBUS_MV)) ∧
    (∃ s : State, ∃ k : Fin 2, s.Inv ∧ (s.hub.up (0xB8 + k) = true) ∧ (s.hub.on TCP.STAT_ATTACHED k = true)) ∧
    (∃ s : State, ∃ r : Req, ∃ k : Fin 2, s.Inv ∧ (s.hub.Grants r TCP.CTL_HARDRESET k) ∧ (s.hub.up (0xB8 + k) = true) ∧ (s.hub.on TCP.STAT_ATTACHED k = true)) ∧
    (∃ s : State, ∃ r : Req, ∃ k : Fin 2, s.Inv ∧ (s.hub.Grants r TCP.CTL_HARDRESET k) ∧ (s.hub.on TCP.STAT_ATTACHED k = false)) ∧
    (∃ s : State, ∃ r : Req, ∃ k : Fin 2, s.Inv ∧ (s.hub.Grants r TCP.CTL_DETACH k) ∧ (s.hub.up (0xB8 + k) = true)) ∧
    (∃ s : State, ∃ r : Req, ∃ k : Fin 2, s.Inv ∧ (s.hub.Grants r DCP.CTL_HPD k)) ∧
    (∃ s : State, ∃ k : Fin 2, s.Inv ∧ (s.hub.up (0xB8 + k) = true) ∧ (s.hub.on TCP.STAT_ATTACHED k = true)) ∧
    (∃ s : State, ∃ k : Fin 2, s.Inv ∧ (s.hub.up (0xB8 + k) = true) ∧ (s.hub.on TCP.STAT_ATTACHED k = true)) ∧
    (∃ s : State, ∃ k : Fin 2, s.Inv ∧ (s.hub.up (0xB8 + k) = true) ∧ (s.hub.on TCP.STAT_ATTACHED k = true)) ∧
    (∃ s : State, ∃ k : Fin 2, s.Inv ∧ (s.hub.up (0xB8 + k) = true) ∧ (s.hub.on TCP.STAT_ATTACHED k = true)) ∧
    (∃ s : State, ∃ k : Fin 2, s.Inv ∧ (s.hub.up (0xB8 + k) = true) ∧ (s.hub.on TCP.STAT_ATTACHED k = true)) ∧
    (∃ s : State, ∃ k : Fin 2, s.Inv ∧ (s.hub.up (0xB8 + k) = true) ∧ (s.hub.on TCP.STAT_ATTACHED k = true)) ∧
    (∃ s : State, ∃ k : Fin 2, s.Inv ∧ (s.hub.up (0xB8 + k) = true) ∧ (s.hub.on TCP.STAT_ATTACHED k = true)) ∧
    (∃ s : State, ∃ k : Fin 2, s.Inv ∧ (s.hub.up (0xB8 + k) = true) ∧ (s.hub.on TCP.STAT_ATTACHED k = true)) ∧
    (∃ s : State, ∃ k : Fin 2, s.Inv ∧ (s.hub.up (0xB8 + k) = true) ∧ (s.hub.on TCP.STAT_ATTACHED k = true)) ∧
    (∃ s : State, ∃ k : Fin 2, s.Inv ∧ (s.hub.up (0xB8 + k) = true) ∧ (s.hub.on TCP.STAT_ATTACHED k = true)) ∧
    (∃ s : State, ∃ k : Fin 2, s.Inv ∧ (s.hub.up (0xB8 + k) = true) ∧ (s.hub.on TCP.STAT_ATTACHED k = true)) ∧
    (∃ s : State, ∃ k : Fin 2, s.Inv ∧ (s.hub.up (0xB8 + k) = true) ∧ (s.hub.on TCP.STAT_ATTACHED k = true)) ∧
    (∃ s : State, ∃ k : Fin 2, s.Inv ∧ (s.hub.up (0xB8 + k) = true) ∧ (s.hub.on TCP.STAT_ATTACHED k = true)) ∧
    (∃ s : State, ∃ k : Fin 2, s.Inv ∧ (s.hub.on TCP.STAT_ATTACHED k = false)) ∧
    (∃ s : State, ∃ k : Fin 2, s.Inv ∧ (s.hub.up (0xB8 + k) = true)) :=
  ⟨⟨w1, 1, true, inv_and (by decide +kernel)⟩,
   ⟨w2, 1, true, inv_and (by decide +kernel)⟩,
   ⟨w3, 1, inv_and (by decide +kernel)⟩,
   ⟨w4, 1, inv_and (by decide +kernel)⟩,
   ⟨w5, 1, inv_and (by decide +kernel)⟩,
   ⟨w6, 1, inv_and (by decide +kernel)⟩,
   ⟨w7, 1, inv_and (by decide +kernel)⟩,
   ⟨w8, cpu, 1, inv_of (by decide +kernel), grants_of (by decide +kernel), by decide +kernel⟩,
   ⟨w9, cpu, 1, inv_of (by decide +kernel), grants_of (by decide +kernel), by decide +kernel⟩,
   ⟨w10, cpu, 1, inv_of (by decide +kernel), grants_of (by decide +kernel), by decide +kernel⟩,
   ⟨w11, cpu, 1, inv_of (by decide +kernel), grants_of (by decide +kernel)⟩,
   ⟨w12, 1, inv_and (by decide +kernel)⟩,
   ⟨w13, 1, inv_and (by decide +kernel)⟩,
   ⟨w14, 1, inv_and (by decide +kernel)⟩,
   ⟨w15, 1, inv_and (by decide +kernel)⟩,
   ⟨w16, 1, inv_and (by decide +kernel)⟩,
   ⟨w17, 1, inv_and (by decide +kernel)⟩,
   ⟨w18, 1, inv_and (by decide +kernel)⟩,
   ⟨w19, 1, inv_and (by decide +kernel)⟩,
   ⟨w20, 1, inv_and (by decide +kernel)⟩,
   ⟨w21, 1, inv_and (by decide +kernel)⟩,
   ⟨w22, 1, inv_and (by decide +kernel)⟩,
   ⟨w23, 1, inv_and (by decide +kernel)⟩,
   ⟨w24, 1, inv_and (by decide +kernel)⟩,
   ⟨w25, 1, inv_and (by decide +kernel)⟩,
   ⟨w26, 1, inv_and (by decide +kernel)⟩⟩

def w27 : State := node PT (lo 2)
def w28 : State := node PT (lo 2)
def w29 : State := node PT (lo 3)
def w30 : State := node PT (lo 3)
def w31 : State := node PT (lo 4)
def w32 : State := node PT (lo 4)
def w33 : State := node PT (lo 5)
def w34 : State := node PT (lo 5 ++ [(LPO.hLimit,1,0,1)])
def w35 : State := node PT (lo 5)
def w36 : State := node PT (lo 5 ++ [(LPO.hLimit,1,0,1)])
def w37 : State := node PT (lo 5)
def w38 : State := node PT (lo 5)
def w39 : State := node PT (lo 5 ++ [(LPO.ILIM_MA10,1,0,100)])
def w40 : State := node PT (lo 5)
def w41 : State := node PT (lo 5)
def w42 : State := node PT (lo 5 ++ [(BUS.STAT_OV,0,0,1)])
def w43 : State := node PT (lo 5 ++ [(LPO.CFG_SHED,1,0,1)])
def w44 : State := node PT (lo 5 ++ [(BUS.STAT_SHEDDING,0,0,1)])
def w45 : State := node PT (lo 5)
def w46 : State := node PT (lo 5)
def w47 : State := node PT (lo 1)
def w48 : State := node PT (lo 1)

theorem test_witness_PowerOutputCommandsComplete :
    (∃ s : State, ∃ n : Fin 8, s.Inv ∧ (s.hub.live (0xC0 + n) = true) ∧ (s.hub.rd LPO.STAT_STATE n = 2) ∧ (s.hub.on LPO.hRepeat n = false)) ∧
    (∃ s : State, ∃ n : Fin 8, s.Inv ∧ (s.hub.live (0xC0 + n) = true) ∧ (s.hub.rd LPO.STAT_STATE n = 2)) ∧
    (∃ s : State, ∃ n : Fin 8, ∃ c, s.Inv ∧ (s.hub.live (0xC0 + n) = true) ∧ (s.hub.rd LPO.STAT_STATE n = 3) ∧ (13 ≤ c) ∧ (c ≤ 15)) ∧
    (∃ s : State, ∃ n : Fin 8, s.Inv ∧ (s.hub.live (0xC0 + n) = true) ∧ (s.hub.rd LPO.STAT_STATE n = 3)) ∧
    (∃ s : State, ∃ n : Fin 8, s.Inv ∧ (s.hub.live (0xC0 + n) = true) ∧ (s.hub.rd LPO.STAT_STATE n = 4)) ∧
    (∃ s : State, ∃ n : Fin 8, s.Inv ∧ (s.hub.live (0xC0 + n) = true) ∧ (s.hub.rd LPO.STAT_STATE n = 4)) ∧
    (∃ s : State, ∃ n : Fin 8, s.Inv ∧ (s.hub.live (0xC0 + n) = true) ∧ (s.hub.lpoClosed n = true)) ∧
    (∃ s : State, ∃ n : Fin 8, s.Inv ∧ (s.hub.live (0xC0 + n) = true) ∧ (s.hub.lpoClosed n = true) ∧ (s.hub.on LPO.hLimit n = true)) ∧
    (∃ s : State, ∃ n : Fin 8, s.Inv ∧ (s.hub.live (0xC0 + n) = true) ∧ (s.hub.lpoClosed n = true)) ∧
    (∃ s : State, ∃ n : Fin 8, s.Inv ∧ (s.hub.live (0xC0 + n) = true) ∧ (s.hub.rd LPO.STAT_STATE n = 5) ∧ (s.hub.on LPO.hLimit n = true)) ∧
    (∃ s : State, ∃ n : Fin 8, s.Inv ∧ (s.hub.live (0xC0 + n) = true)) ∧
    (∃ s : State, ∃ r : Req, ∃ n : Fin 8, s.Inv ∧ (s.hub.Grants r LPO.ILIM_MA10 n)) ∧
    (∃ s : State, ∃ r : Req, ∃ n : Fin 8, s.Inv ∧ (s.hub.Grants r LPO.TIMER_FAULT_US n) ∧ (10 ≤ s.hub.rd LPO.ILIM_MA10 n) ∧ (s.hub.rd LPO.ILIM_MA10 n ≤ 250)) ∧
    (∃ s : State, ∃ mv : Nat, s.Inv ∧ (s.hub.up 0xC8 = true) ∧ (mv < s.hub.rd BUS.CFG_UV_DV * 100)) ∧
    (∃ s : State, ∃ mv : Nat, s.Inv ∧ (s.hub.up 0xC8 = true) ∧ (s.hub.rd BUS.CFG_OV_DV * 100 < mv)) ∧
    (∃ s : State, ∃ mv : Nat, s.Inv ∧ (s.hub.up 0xC8 = true) ∧ (s.hub.on BUS.STAT_OV = true) ∧ (mv + 1000 < s.hub.rd BUS.CFG_OV_DV * 100)) ∧
    (∃ s : State, ∃ mv : Nat, s.Inv ∧ (s.hub.up 0xC8 = true) ∧ (mv < s.hub.rd BUS.SHED_SHED_DV * 100)) ∧
    (∃ s : State, ∃ mv : Nat, s.Inv ∧ (s.hub.up 0xC8 = true) ∧ (s.hub.on BUS.STAT_SHEDDING = true) ∧ (s.hub.rd BUS.SHED_SHED_DV * 100 + 1000 < mv)) ∧
    (∃ s : State, s.Inv ∧ (s.hub.up 0xC8 = true)) ∧
    (∃ s : State, s.Inv ∧ (s.hub.up 0xC8 = true)) ∧
    (∃ s : State, ∃ n : Fin 8, s.Inv ∧ (s.hub.up 0xC8 = true) ∧ (s.hub.live (0xC0 + n) = true) ∧ (s.hub.rd LPO.STAT_STATE n = 1) ∧ (s.hub.refreshBus.on LPO.STAT_WAITCAUSE n = false) ∧ ((∀ k : Nat, k < n.val → s.hub.rd LPO.STAT_STATE k ≠ 1)) ∧ (s.hub.refreshBus.rd BUS.ALLOC_LUME * 100 + s.hub.rd LPO.PLIM_CW n + s.hub.refreshBus.rd BUS.ALLOC_OTHER * 100 ≤ s.hub.rd BUS.BUDGET_W * 100)) ∧
    (∃ s : State, ∃ r : Req, ∃ n : Fin 8, s.Inv ∧ (s.hub.Accepts r LPO.CNTCLR_ECLR n)) :=
  ⟨⟨w27, 1, inv_and (by decide +kernel)⟩,
   ⟨w28, 1, inv_and (by decide +kernel)⟩,
   ⟨w29, 1, 14, inv_and (by decide +kernel)⟩,
   ⟨w30, 1, inv_and (by decide +kernel)⟩,
   ⟨w31, 1, inv_and (by decide +kernel)⟩,
   ⟨w32, 1, inv_and (by decide +kernel)⟩,
   ⟨w33, 1, inv_and (by decide +kernel)⟩,
   ⟨w34, 1, inv_and (by decide +kernel)⟩,
   ⟨w35, 1, inv_and (by decide +kernel)⟩,
   ⟨w36, 1, inv_and (by decide +kernel)⟩,
   ⟨w37, 1, inv_and (by decide +kernel)⟩,
   ⟨w38, cpu, 1, inv_of (by decide +kernel), grants_of (by decide +kernel)⟩,
   ⟨w39, cpu, 1, inv_of (by decide +kernel), grants_of (by decide +kernel), by decide +kernel⟩,
   ⟨w40, 47000, inv_and (by decide +kernel)⟩,
   ⟨w41, 61000, inv_and (by decide +kernel)⟩,
   ⟨w42, 58000, inv_and (by decide +kernel)⟩,
   ⟨w43, 49000, inv_and (by decide +kernel)⟩,
   ⟨w44, 52000, inv_and (by decide +kernel)⟩,
   ⟨w45, inv_and (by decide +kernel)⟩,
   ⟨w46, inv_and (by decide +kernel)⟩,
   ⟨w47, 1, inv_and (by decide +kernel)⟩,
   ⟨w48, cpu, 1, inv_of (by decide +kernel), accepts_of (by decide +kernel)⟩⟩

end W18

/-! ### Fragment 19 -/

namespace W19

def PP := [4, 5]
def pw : List (Fld × Nat × Nat × Nat) := [(CLK.GSTAT_RUN,0,0,0xFFFFFFFF),(CLK.PLLSTAT_LOCK,0,0,0xFFF)]
def sl := pw ++ [(PDM.STATE_CURRENT,0,0,3),(AON.WAKEEN_EN,0,0,0x7F),(AON.hBeaconEn,0,9,1),(AON.GPIOWAKE_EN,0,0,8),(GPX.BFUNC_FUNC,0,3,2),(AON.TCTL_EN,0,0,1),(AON.MGPWAKE_EN,0,0,1)]

def w1 : State := node PP pw
def w2 : State := node PP pw
def w4 : State := node PP (pw ++ [(PDM.hDom,0,5,3)])
def w5 : State := node PP (pw ++ [(PDM.hDom,0,5,1),(RET.VALID_DOM,0,0,32)])
def w6 : State := node PP (pw ++ [(PDM.hDom,0,5,2)])
def w7 : State := node PP (pw ++ [(PDM.hDom,0,5,1)])
def w8 : State := node PP pw
def w9 : State := node PP (pw ++ [(PDM.STATE_BUSY,0,0,1),(PDM.hGoal,0,0,1),(PDM.DOMON_ON,0,0,0xF7F)])
def w12 : State := node PP pw
def w15 : State := node PP (sl ++ [(PDM.DOMON_ON,0,0,1)])
def w16 : State := node PP pw
def w17 : State := node PP (sl ++ [(PDM.DOMON_ON,0,0,1)])
def w18 : State := node (0x29 :: PP) (sl ++ [(OLN.STAT_STATE,9,0,3)])
def w19 : State := node PP (pw ++ [(AON.hBeaconEn,0,9,0)])
def w20 : State := node PP sl
def w21 : State := node PP pw
def w22 : State := node PP sl
def w23 : State := node PP pw
def w24 : State := node PP (sl ++ [(PDM.DOMON_ON,0,0,1),(AON.hUsbSusp,0,0,4)])
def w25 : State := node PP (sl ++ [(PDM.DOMON_ON,0,0,1)])
def w26 : State := node PP (sl ++ [(USB.PORTSTAT_SUSPEND,0,3,1)])

theorem test_witness_PowerCommandsComplete :
    (∃ s : State, ∃ r : Req, ∃ c : Fin 6, s.Inv ∧ (s.hub.Accepts r (voteFld c) 0) ∧ (c.val < 4) ∧ (masterNum r.master = c.val)) ∧
    (∃ s : State, ∃ r : Req, ∃ c : Fin 6, s.Inv ∧ (s.hub.Grants r (voteFld c) 0) ∧ (4 ≤ c.val ∨ masterNum r.master ≠ c.val)) ∧
    (∃ s : State, ∃ d : Fin 12, s.Inv ∧ (s.hub.rd PDM.hDom 0 d = 3) ∧ (d.val ≠ 0)) ∧
    (∃ s : State, ∃ d : Fin 12, s.Inv ∧ (s.hub.rd PDM.hDom 0 d = 1) ∧ (d.val ≠ 0)) ∧
    (∃ s : State, ∃ d : Fin 12, s.Inv ∧ (s.hub.rd PDM.hDom 0 d = 2) ∧ (d.val ≠ 0)) ∧
    (∃ s : State, ∃ d : Fin 12, s.Inv ∧ (s.hub.rd PDM.hDom 0 d = 1)) ∧
    (∃ s : State, ∃ r : Req, s.Inv ∧ (s.hub.Accepts r PDM.STATE_TARGET 0)) ∧
    (∃ s : State, s.Inv ∧ (s.hub.transitionOver = true)) ∧
    (∃ s : State, s.Inv ∧ (s.hub.domOn 2 = true)) ∧
    (∃ s : State, ∃ addr : Nat, s.Inv ∧ (s.hub.domOn 1 = false) ∧ (s.hub.on AON.MGPWAKE_EN = true) ∧ (addr = 0x58 + s.hub.rd TOP.STRAPS_MGP_A)) ∧
    (∃ s : State, ∃ addr : Nat, s.Inv ∧ (s.hub.domOn 1 = true ∨ s.hub.on AON.MGPWAKE_EN = false ∨ addr ≠ 0x58 + s.hub.rd TOP.STRAPS_MGP_A)) ∧
    (∃ s : State, ∃ l : Fin 32, s.Inv ∧ (s.hub.on AON.hBeaconEn 0 l = true) ∧ (s.hub.lane l = 0 ∨ s.hub.lane l = 8 ∧ s.hub.on OPT.hExit (l / 4) = false)) ∧
    (∃ s : State, ∃ l : Fin 32, s.Inv ∧ (s.hub.on AON.hBeaconEn 0 l = true) ∧ ((s.hub.lane l ≠ 0 ∧ s.hub.lane l ≠ 8 ∨ s.hub.lane l = 8 ∧ s.hub.on OPT.hExit (l / 4) = true))) ∧
    (∃ s : State, ∃ l : Fin 32, s.Inv ∧ (s.hub.on AON.hBeaconEn 0 l = false)) ∧
    (∃ s : State, ∃ i : Fin 8, s.Inv ∧ (s.hub.bit AON.GPIOWAKE_EN i = true) ∧ (s.hub.ballFunc i = 2) ∧ (s.hub.Wakes 3)) ∧
    (∃ s : State, ∃ i : Fin 8, s.Inv ∧ (s.hub.bit AON.GPIOWAKE_EN i = false ∨ s.hub.ballFunc i ≠ 2)) ∧
    (∃ s : State, s.Inv ∧ (s.hub.on AON.TCTL_EN = true) ∧ (s.hub.aonTimer = s.hub.rd AON.TCMP_HI_COUNT * 2 ^ 32 + s.hub.rd AON.TCMP_LO_COUNT) ∧ (s.hub.Wakes 4)) ∧
    (∃ s : State, s.Inv ∧ (s.hub.on AON.TCTL_EN = false ∨ s.hub.aonTimer ≠ s.hub.rd AON.TCMP_HI_COUNT * 2 ^ 32 + s.hub.rd AON.TCMP_LO_COUNT)) ∧
    (∃ s : State, ∃ p : Fin 6, s.Inv ∧ (s.hub.domOn 10 = false) ∧ (s.hub.bit AON.hUsbSusp p = true)) ∧
    (∃ s : State, ∃ p : Fin 6, s.Inv ∧ (s.hub.domOn 10 = false) ∧ (s.hub.bit AON.hUsbSusp p = false)) ∧
    (∃ s : State, ∃ p : Fin 6, s.Inv ∧ (s.hub.domOn 10 = true) ∧ (s.hub.on USB.PORTSTAT_SUSPEND 0 (p + 1) = true) ∧ (s.hub.Wakes 5)) :=
  ⟨⟨w1, cpu, 0, inv_of (by decide +kernel), accepts_of (by decide +kernel), by decide +kernel⟩,
   ⟨w2, cpu, 1, inv_of (by decide +kernel), grants_of (by decide +kernel), by decide +kernel⟩,
   ⟨w4, 5, inv_and (by decide +kernel)⟩,
   ⟨w5, 5, inv_and (by decide +kernel)⟩,
   ⟨w6, 5, inv_and (by decide +kernel)⟩,
   ⟨w7, 5, inv_and (by decide +kernel)⟩,
   ⟨w8, cpu, inv_of (by decide +kernel), accepts_of (by decide +kernel)⟩,
   ⟨w9, inv_and (by decide +kernel)⟩,
   ⟨w12, inv_and (by decide +kernel)⟩,
   ⟨w15, 0x58, inv_and (by decide +kernel)⟩,
   ⟨w16, 0x58, inv_and (by decide +kernel)⟩,
   ⟨w17, 9, inv_and (by decide +kernel)⟩,
   ⟨w18, 9, inv_and (by decide +kernel)⟩,
   ⟨w19, 9, inv_and (by decide +kernel)⟩,
   ⟨w20, 3, inv_and (by decide +kernel)⟩,
   ⟨w21, 3, inv_and (by decide +kernel)⟩,
   ⟨w22, inv_and (by decide +kernel)⟩,
   ⟨w23, inv_and (by decide +kernel)⟩,
   ⟨w24, 2, inv_and (by decide +kernel)⟩,
   ⟨w25, 2, inv_and (by decide +kernel)⟩,
   ⟨w26, 2, inv_and (by decide +kernel)⟩⟩

end W19

/-! ### Fragment 20 -/

namespace W20

def PK := [0xE, 0xF, 0xA, 0xB, 0xC]
def kd (w : Nat) : List (Fld × Nat × Nat × Nat) := [(KEY.CSTAT_DONE,0,0,1),(KEY.hCmd,0,0,w)]
def gen : Nat := 1 + 9 * 16 + 3 * 2 ^ KEY.CMD_RECIP.lo
def bun (h : Hub) : Hub := { h with flash := [(2 * 2^26 + 24, 40),(2 * 2^26 + 25, 0),(2 * 2^26 + 26, 0),(2 * 2^26 + 27, 0),(2 * 2^26 + 512, 3),(2 * 2^26 + 513, 0),(2 * 2^26 + 514, 1),(2 * 2^26 + 515, 0),(2 * 2^26 + 516, 20),(2 * 2^26 + 517, 0),(2 * 2^26 + 518, 0),(2 * 2^26 + 519, 0)] }

def w1 : State := node PK []
def w2 : State := node PK []
def w3 : State := node PK []
def w4 : State := node PK []
def w5 : State := node PK []
def w6 : State := node PK []
def w7 : State := node PK []
def w8 : State := node PK []
def w9 : State := node PK []
def w10 : State := node PK [(MGP.SESS_OPEN,0,0,1)]
def w11 : State := node PK (kd gen)
def w12 : State := node PK (kd gen ++ [(KEY.SATTR_LOCKED,0,9,1)])
def w13 : State := node PK (kd gen)
def w14 : State := node PK (kd (gen + 7)) (fun h => { h with keys := [(9, [1])] })
def w15 : State := node PK []
def w16 : State := node PK []

theorem test_witness_KeyCommandsComplete :
    (∃ s : State, ∃ r : Req, s.Inv ∧ (s.hub.Grants r KEY.CMD_OP 0) ∧ (r.master = .mcpu) ∧ (s.hub.up 0xE = true) ∧ (s.hub.rd KEY.CSTAT_DONE ≠ 1)) ∧
    (∃ s : State, ∃ r : Req, s.Inv ∧ (s.hub.Grants r KEY.CMD_OP 0) ∧ (r.master = .mcpu) ∧ (s.hub.up 0xE = true) ∧ (s.hub.rd KEY.CSTAT_DONE ≠ 1)) ∧
    (∃ s : State, ∃ r : Req, s.Inv ∧ (s.hub.Grants r KEY.CMD_OP 0) ∧ (r.master = .mcpu) ∧ (s.hub.up 0xE = true) ∧ (s.hub.rd KEY.CSTAT_DONE ≠ 1)) ∧
    (∃ s : State, ∃ r : Req, s.Inv ∧ (s.hub.Grants r KEY.CMD_OP 0) ∧ (r.master = .mcpu) ∧ (s.hub.up 0xE = true) ∧ (s.hub.rd KEY.CSTAT_DONE ≠ 1)) ∧
    (∃ s : State, ∃ r : Req, s.Inv ∧ (s.hub.Grants r KEY.CMD_OP 0) ∧ (r.master = .mcpu) ∧ (s.hub.up 0xE = true) ∧ (s.hub.rd KEY.CSTAT_DONE ≠ 1)) ∧
    (∃ s : State, ∃ r : Req, s.Inv ∧ (s.hub.Grants r KEY.CMD_OP 0) ∧ (r.master = .mcpu) ∧ (s.hub.up 0xE = true) ∧ (s.hub.rd KEY.CSTAT_DONE ≠ 1)) ∧
    (∃ s : State, ∃ r : Req, s.Inv ∧ (s.hub.Grants r KEY.CMD_OP 0) ∧ (r.master = .mcpu) ∧ (s.hub.up 0xE = true) ∧ (s.hub.rd KEY.CSTAT_DONE ≠ 1)) ∧
    (∃ s : State, ∃ r : Req, s.Inv ∧ (s.hub.Grants r KEY.CMD_OP 0) ∧ (r.master = .mcpu) ∧ (s.hub.up 0xE = true) ∧ (s.hub.rd KEY.CSTAT_DONE ≠ 1)) ∧
    (∃ s : State, ∃ r : Req, s.Inv ∧ (s.hub.Grants r KEY.CMD_OP 0) ∧ (r.master = .mcpu) ∧ (s.hub.up 0xE = true) ∧ (s.hub.rd KEY.CSTAT_DONE ≠ 1)) ∧
    (∃ s : State, ∃ r : Req, s.Inv ∧ (s.hub.Grants r KEY.CMD_OP 0) ∧ (r.master ≠ .mcpu)) ∧
    (∃ s : State, s.Inv ∧ (s.hub.up 0xE = true) ∧ (s.hub.rd KEY.CSTAT_DONE = 1)) ∧
    (∃ s : State, s.Inv ∧ (s.hub.up 0xE = true) ∧ (s.hub.rd KEY.CSTAT_DONE = 1) ∧ (s.hub.rd KEY.hCmd % 16 = 1 ∨ s.hub.rd KEY.hCmd % 16 = 8) ∧ (s.hub.on KEY.SATTR_LOCKED 0 (bits (s.hub.rd KEY.hCmd) 4 5) = true)) ∧
    (∃ s : State, s.Inv ∧ (s.hub.up 0xE = true) ∧ (s.hub.rd KEY.CSTAT_DONE = 1) ∧ (s.hub.rd KEY.hCmd % 16 = 1) ∧ (s.hub.on KEY.SATTR_LOCKED 0 (bits (s.hub.rd KEY.hCmd) 4 5) = false) ∧ (s.hub.slotInUse (bits (s.hub.rd KEY.hCmd) 4 5) = false) ∧ (bits (s.hub.rd KEY.hCmd) KEY.CMD_RECIP.lo KEY.CMD_RECIP.w ≠ 0)) ∧
    (∃ s : State, s.Inv ∧ (s.hub.up 0xE = true) ∧ (s.hub.rd KEY.CSTAT_DONE = 1) ∧ (s.hub.rd KEY.hCmd % 16 = 8) ∧ (s.hub.on KEY.SATTR_LOCKED 0 (bits (s.hub.rd KEY.hCmd) 4 5) = false) ∧ (s.hub.slotInUse (bits (s.hub.rd KEY.hCmd) 4 5) = false)) ∧
    (∃ s : State, ∃ r : Req, s.Inv ∧ (s.hub.Accepts r KEY.LOCKSET_SLOTS 0)) ∧
    (∃ s : State, ∃ r : Req, s.Inv ∧ (s.hub.Accepts r KEY.MEXT_GO 0)) :=
  ⟨⟨w1, cpu, inv_of (by decide +kernel), grants_of (by decide +kernel), by decide +kernel⟩,
   ⟨w2, cpu, inv_of (by decide +kernel), grants_of (by decide +kernel), by decide +kernel⟩,
   ⟨w3, cpu, inv_of (by decide +kernel), grants_of (by decide +kernel), by decide +kernel⟩,
   ⟨w4, cpu, inv_of (by decide +kernel), grants_of (by decide +kernel), by decide +kernel⟩,
   ⟨w5, cpu, inv_of (by decide +kernel), grants_of (by decide +kernel), by decide +kernel⟩,
   ⟨w6, cpu, inv_of (by decide +kernel), grants_of (by decide +kernel), by decide +kernel⟩,
   ⟨w7, cpu, inv_of (by decide +kernel), grants_of (by decide +kernel), by decide +kernel⟩,
   ⟨w8, cpu, inv_of (by decide +kernel), grants_of (by decide +kernel), by decide +kernel⟩,
   ⟨w9, cpu, inv_of (by decide +kernel), grants_of (by decide +kernel), by decide +kernel⟩,
   ⟨w10, { master := .mgp, node := 0 }, inv_of (by decide +kernel), grants_of (by decide +kernel), by decide +kernel⟩,
   ⟨w11, inv_and (by decide +kernel)⟩,
   ⟨w12, inv_and (by decide +kernel)⟩,
   ⟨w13, inv_and (by decide +kernel)⟩,
   ⟨w14, inv_and (by decide +kernel)⟩,
   ⟨w15, cpu, inv_of (by decide +kernel), accepts_of (by decide +kernel)⟩,
   ⟨w16, cpu, inv_of (by decide +kernel), accepts_of (by decide +kernel)⟩⟩

def w17 : State := node PK [(LCS.hStamp,0,0,State.reset.hub.rd LCS.STATE_LC)]
def w18 : State := node PK [(UPD.COPY_STATE,0,0,1)]
def w19 : State := node PK []
def w20 : State := node PK [(UPD.STAT_STATE,0,0,1),(UPD.BLKSTAT_WORDS,0,0,1024)]
def w21 : State := node PK [(UPD.BLKSTAT_DONE,0,0,1),(UPD.hCrcBad,0,0,1)]
def w22 : State := node PK [(UPD.BLKSTAT_DONE,0,0,1),(UPD.STAT_STATE,0,0,1),(UPD.hArea,0,0,1)] (fun h => { h with landing := [1,2] })
def w23 : State := node PK [(UPD.STAT_STATE,0,0,2)]
def w24 : State := node PK [(UPD.STAT_STATE,0,0,3),(UPD.hArea,0,0,1)]
def w25 : State := node PK [(UPD.STAT_STATE,0,0,4),(UPD.hArea,0,0,1)]
def w26 : State := node PK [(UPD.STAT_STATE,0,0,4)]
def w27 : State := node PK [(UPD.ACTIVE_SVN,0,0,5)]
def w28 : State := node PK []
def w29 : State := node PK [(UPD.BDEC_DONE,0,0,1)]
def w30 : State := node PK [(UPD.BDEC_DONE,0,0,1),(UPD.hBundle,0,0,1),(UPD.hBdec,0,0,64*4),(KEY.SATTR_VALID,0,4,1),(KEY.SATTR_RECIPIENT,0,4,3)] bun
def w31 : State := node PK []

theorem test_witness_UpdateCommandsComplete :
    (∃ s : State, s.Inv ∧ (s.hub.up 0xE = true) ∧ (s.hub.on UPD.hBoot = false) ∧ (s.hub.rd LCS.hStamp = s.hub.rd LCS.STATE_LC) ∧ (s.hub.cfg = []) ∧ (s.hub.on UPD.hBundle = false)) ∧
    (∃ s : State, ∃ r : Req, s.Inv ∧ (s.hub.Grants r UPD.CTL_START 0) ∧ (s.hub.up 0xF = true)) ∧
    (∃ s : State, ∃ r : Req, s.Inv ∧ (s.hub.Grants r UPD.BLKDATA_DATA 0) ∧ (s.hub.up 0xF = true) ∧ (s.hub.rd UPD.BLKSTAT_WORDS < 1024)) ∧
    (∃ s : State, ∃ r : Req, s.Inv ∧ (s.hub.Grants r UPD.BLK_NUM 0) ∧ (s.hub.up 0xF = true) ∧ (s.hub.rd UPD.STAT_STATE = 1 ∨ s.hub.rd UPD.STAT_STATE = 2) ∧ (s.hub.rd UPD.BLKSTAT_DONE ≠ 1)) ∧
    (∃ s : State, s.Inv ∧ (s.hub.up 0xF = true) ∧ (s.hub.rd UPD.BLKSTAT_DONE = 1) ∧ (s.hub.on UPD.hCrcBad = true)) ∧
    (∃ s : State, s.Inv ∧ (s.hub.up 0xF = true) ∧ (s.hub.rd UPD.BLKSTAT_DONE = 1) ∧ (s.hub.on UPD.hCrcBad = false) ∧ (s.hub.rd UPD.hBlk = 0)) ∧
    (∃ s : State, ∃ r : Req, s.Inv ∧ (s.hub.Grants r UPD.CTL_START 0) ∧ (s.hub.up 0xF = true) ∧ (s.hub.rd UPD.STAT_STATE = 2)) ∧
    (∃ s : State, s.Inv ∧ (s.hub.up 0xF = true) ∧ (s.hub.rd UPD.STAT_STATE = 3) ∧ (s.hub.rd UPD.hArea = 1)) ∧
    (∃ s : State, ∃ r : Req, s.Inv ∧ (s.hub.Grants r UPD.CTL_START 0) ∧ (s.hub.up 0xF = true) ∧ (s.hub.rd UPD.STAT_STATE = 4)) ∧
    (∃ s : State, ∃ r : Req, s.Inv ∧ (s.hub.Grants r UPD.CTL_START 0) ∧ (s.hub.up 0xF = true)) ∧
    (∃ s : State, ∃ r : Req, s.Inv ∧ (s.hub.Grants r UPD.CTL_START 0) ∧ (s.hub.up 0xF = true)) ∧
    (∃ s : State, ∃ r : Req, s.Inv ∧ (s.hub.Grants r UPD.BDEC_GO 0) ∧ (s.hub.up 0xF = true) ∧ (s.hub.rd UPD.BDEC_DONE ≠ 1)) ∧
    (∃ s : State, s.Inv ∧ (s.hub.up 0xF = true) ∧ (s.hub.rd UPD.BDEC_DONE = 1) ∧ (s.hub.on UPD.hBundle = false)) ∧
    (∃ s : State, ∃ c, ∃ slot, s.Inv ∧ (s.hub.up 0xF = true) ∧ (s.hub.rd UPD.BDEC_DONE = 1) ∧ (s.hub.on UPD.hBundle = true) ∧ ((s.hub.bundleSections s.hub.bundleArea)[s.hub.rd UPD.hBdec % 64]? = some c) ∧ (s.hub.rd UPD.hBdec / 64 % 32 = slot) ∧ (sectionEnc c = true) ∧ (s.hub.on KEY.SATTR_VALID 0 slot = true) ∧ (s.hub.rd KEY.SATTR_RECIPIENT 0 slot = 3) ∧ (16 ≤ c.body.length) ∧ (c.body.length ≤ 32784)) ∧
    (∃ s : State, ∃ r : Req, s.Inv ∧ (s.hub.Grants r UPD.BDEC_CLR 0) ∧ (s.hub.up 0xF = true)) :=
  ⟨⟨w17, inv_and (by decide +kernel)⟩,
   ⟨w18, cpu, inv_of (by decide +kernel), grants_of (by decide +kernel), by decide +kernel⟩,
   ⟨w19, cpu, inv_of (by decide +kernel), grants_of (by decide +kernel), by decide +kernel⟩,
   ⟨w20, cpu, inv_of (by decide +kernel), grants_of (by decide +kernel), by decide +kernel⟩,
   ⟨w21, inv_and (by decide +kernel)⟩,
   ⟨w22, inv_and (by decide +kernel)⟩,
   ⟨w23, cpu, inv_of (by decide +kernel), grants_of (by decide +kernel), by decide +kernel⟩,
   ⟨w24, inv_and (by decide +kernel)⟩,
   ⟨w25, cpu, inv_of (by decide +kernel), grants_of (by decide +kernel), by decide +kernel⟩,
   ⟨w26, cpu, inv_of (by decide +kernel), grants_of (by decide +kernel), by decide +kernel⟩,
   ⟨w27, cpu, inv_of (by decide +kernel), grants_of (by decide +kernel), by decide +kernel⟩,
   ⟨w28, cpu, inv_of (by decide +kernel), grants_of (by decide +kernel), by decide +kernel⟩,
   ⟨w29, inv_and (by decide +kernel)⟩,
   ⟨w30, ⟨[3,0,1,0,20,0,0,0], List.replicate 20 0xFF⟩, 4, inv_and (by decide +kernel)⟩,
   ⟨w31, cpu, inv_of (by decide +kernel), grants_of (by decide +kernel), by decide +kernel⟩⟩

end W20

/-! ### Fragment 21 -/

namespace W21

def PR := [6, 8, 0xA, 0xB, 0xC, 0xD, 0x40, 0xD0, 0xD1]
def cr : List (Fld × Nat × Nat × Nat) := [(CLK.GSTAT_RUN,0,0,0xFFFFFFFF),(CAS.CROWN_VALID,0,0,1),(CAS.CROWN_NODE,0,0,5),(MGP.SESS_OPEN,0,0,1),(DBG.STAT_ATTACHED,0,0,1),(LCS.STATE_LC,0,0,2)]
def actAll (h : Hub) : Hub := h.setTwords 0x5C0000 [0, 0x7FF, 0x303FF, 0x8000, 0, 0, 0, 1]
def row1 : TableRow := ⟨0x440000, 8, 16384, 2, false⟩
def fr (l c : Nat) : TsudyFrame := { seq := 1, off := 0x440000, count := c, words := [5, 6], tag := [], len := l }
def lkq (h : Hub) : Hub := { h with lkQueue := [{ typ := 4 }], lkRing := [(3, [1,2,3])] }
def R0 : LkRec := { typ := 4 }

def w1 : State := node PR cr
def w2 : State := node PR (cr ++ [(OPT.STAT_STATE,1,0,3)]) actAll
def w3 : State := node PR (cr ++ [(OPT.STAT_STATE,1,0,3)]) actAll
def w4 : State := node PR cr
def w5 : State := node PR cr
def w6 : State := node PR cr
def w7 : State := node PR cr
def w8 : State := node PR cr
def w9 : State := node PR cr

theorem test_witness_RemoteAccessCommandsComplete :
    (∃ s : State, ∃ addr : Nat, ∃ count : Nat, s.Inv ∧ (s.hub.up 0x40 = true) ∧ (countOk (addr % 2 ^ 24) (count % 16) = false)) ∧
    (∃ s : State, ∃ src : Nat, ∃ addr : Nat, ∃ count : Nat, ∃ t, ∃ row, s.Inv ∧ (s.hub.up 0x40 = true) ∧ (s.hub.GrantsRead ⟨.fabric, src % 2 ^ 14, 4⟩ (addr % 2 ^ 24)) ∧ (count % 16 = 1) ∧ (tableAt (addr % 2 ^ 24) = some (t, row)) ∧ ((addr % 2 ^ 24 - row.base) % row.stride = 0)) ∧
    (∃ s : State, ∃ src : Nat, ∃ addr : Nat, ∃ count : Nat, ∃ t, ∃ row, s.Inv ∧ (s.hub.up 0x40 = true) ∧ (s.hub.GrantsAt ⟨.fabric, src % 2 ^ 14, 4⟩ (addr % 2 ^ 24)) ∧ (count % 16 = 1) ∧ (tableAt (addr % 2 ^ 24) = some (t, row)) ∧ ((addr % 2 ^ 24 - row.base) % row.stride / 4 + 1 ≠ row.stride / 4)) ∧
    (∃ s : State, ∃ addr : Nat, ∃ size : Nat, s.Inv ∧ (s.hub.reaches .dbg = true) ∧ (s.hub.check ⟨.dbg, 0, 4⟩ true addr size = none)) ∧
    (∃ s : State, ∃ addr : Nat, ∃ t, ∃ row, s.Inv ∧ (s.hub.GrantsRead ⟨.dbg, 0, 4⟩ addr) ∧ (tableAt addr = some (t, row)) ∧ ((addr - row.base) % row.stride = 0)) ∧
    (∃ s : State, s.Inv ∧ (s.hub.mgpFree = true) ∧ (s.hub.on MGP.SESS_OPEN = true)) ∧
    (∃ s : State, ∃ f : TsudyFrame, ∃ t, ∃ row, s.Inv ∧ (s.hub.mgpFree = true) ∧ (s.hub.GrantsRead ⟨.mgp, 0, 4⟩ (f.off % 2 ^ 24)) ∧ (f.len = 15) ∧ (f.count = 1) ∧ (tableAt (f.off % 2 ^ 24) = some (t, row)) ∧ ((f.off % 2 ^ 24 - row.base) % row.stride = 0)) ∧
    (∃ s : State, ∃ f : TsudyFrame, ∃ t, ∃ row, s.Inv ∧ (s.hub.mgpFree = true) ∧ (s.hub.GrantsAt ⟨.mgp, 0, 4⟩ (f.off % 2 ^ 24)) ∧ (f.len = 19) ∧ (f.count = 1) ∧ (tableAt (f.off % 2 ^ 24) = some (t, row)) ∧ ((f.off % 2 ^ 24 - row.base) % row.stride / 4 + 1 ≠ row.stride / 4)) ∧
    (∃ s : State, ∃ f : TsudyFrame, ∃ t, ∃ row, s.Inv ∧ (s.hub.mgpFree = true) ∧ (s.hub.GrantsAt ⟨.mgp, 0, 4⟩ (f.off % 2 ^ 24)) ∧ (f.len = 23) ∧ (f.count = 2) ∧ (tableAt (f.off % 2 ^ 24) = some (t, row)) ∧ ((f.off % 2 ^ 24 - row.base) % row.stride / 4 + 1 ≠ row.stride / 4)) :=
  ⟨⟨w1, 0x440002, 13, inv_and (by decide +kernel)⟩,
   ⟨w2, 5, 0x440000, 1, 1, row1, inv_of (by decide +kernel), by decide +kernel, grantsRead_of (by decide +kernel), by decide +kernel⟩,
   ⟨w3, 5, 0x440000, 1, 1, row1, inv_of (by decide +kernel), by decide +kernel, grantsAt_of (by decide +kernel), by decide +kernel⟩,
   ⟨w4, 0x2104, 4, inv_and (by decide +kernel)⟩,
   ⟨w5, 0x440000, 1, row1, inv_of (by decide +kernel), grantsRead_of (by decide +kernel), by decide +kernel⟩,
   ⟨w6, inv_and (by decide +kernel)⟩,
   ⟨w7, fr 15 1, 1, row1, inv_of (by decide +kernel), by decide +kernel, grantsRead_of (by decide +kernel), by decide +kernel⟩,
   ⟨w8, fr 19 1, 1, row1, inv_of (by decide +kernel), by decide +kernel, grantsAt_of (by decide +kernel), by decide +kernel⟩,
   ⟨w9, fr 23 2, 1, row1, inv_of (by decide +kernel), by decide +kernel, grantsAt_of (by decide +kernel), by decide +kernel⟩⟩

def w10 : State := node PR cr
def w11 : State := node PR cr
def w12 : State := node PR cr
def w13 : State := node PR cr
def w14 : State := node PR cr
def w15 : State := node PR cr
def w16 : State := node PR cr
def w17 : State := node PR cr
def w18 : State := node PR cr
def w19 : State := node PR (cr ++ [(MGP.AUTHCTL_PENDING,0,0,1)])
def w20 : State := node PR cr
def w21 : State := node PR cr
def w22 : State := node PR (cr ++ [(MGP.AUTHCTL_PENDING,0,0,1),(MGP.AUTHCTL_OP,0,0,5)])
def w23 : State := node PR (cr ++ [(MGP.AUTHCTL_PENDING,0,0,1),(MGP.AUTHCTL_OP,0,0,5)])
def w24 : State := node PR cr
def w25 : State := node PR (cr ++ [(MGP.CLAIM_HELD,0,0,1)])

theorem test_witness_ManagementPortCommandsComplete :
    (∃ s : State, s.Inv ∧ (s.hub.mgpFree = true)) ∧
    (∃ s : State, s.Inv ∧ (s.hub.mgpFree = true)) ∧
    (∃ s : State, ∃ toolKey : Bytes, s.Inv ∧ (s.hub.mgpFree = true) ∧ (toolKey.length = 49) ∧ (s.hub.rd LCS.STATE_LC ≠ 6)) ∧
    (∃ s : State, ∃ toolKey : Bytes, s.Inv ∧ (s.hub.mgpFree = true) ∧ (toolKey.length ≠ 49)) ∧
    (∃ s : State, ∃ chunk : Nat, ∃ data : Bytes, s.Inv ∧ (s.hub.mgpFree = true) ∧ (chunk < 4) ∧ (data.length ≤ 48)) ∧
    (∃ s : State, s.Inv ∧ (s.hub.mgpFree = true)) ∧
    (∃ s : State, ∃ f : TsudyFrame, s.Inv ∧ (s.hub.mgpFree = true) ∧ (s.hub.on MGP.SESS_OPEN = true) ∧ (f.len = 11)) ∧
    (∃ s : State, s.Inv ∧ (s.hub.up 0xD = true)) ∧
    (∃ s : State, s.Inv ∧ (s.hub.up 0xD = true)) ∧
    (∃ s : State, s.Inv ∧ (s.hub.up 0xD = true) ∧ (s.hub.on MGP.AUTHCTL_PENDING = true)) ∧
    (∃ s : State, s.Inv ∧ (s.hub.up 0xD = true) ∧ (s.hub.on MGP.SESS_OPEN = true)) ∧
    (∃ s : State, ∃ r : Req, s.Inv ∧ (s.hub.Grants r MGP.CTL_CLOSE 0) ∧ (s.hub.up 0xD = true) ∧ (s.hub.on MGP.SESS_OPEN = true)) ∧
    (∃ s : State, ∃ r : Req, s.Inv ∧ (s.hub.Grants r MGP.AUTHCTL_ACCEPT 0) ∧ (s.hub.up 0xD = true) ∧ (s.hub.on MGP.AUTHCTL_PENDING = true)) ∧
    (∃ s : State, ∃ r : Req, s.Inv ∧ (s.hub.Grants r MGP.AUTHCTL_REJECT 0) ∧ (s.hub.up 0xD = true) ∧ (s.hub.on MGP.AUTHCTL_PENDING = true)) ∧
    (∃ s : State, ∃ r : Req, s.Inv ∧ (s.hub.Grants r MGP.CLAIM_TAKE 0) ∧ (s.hub.up 0xD = true) ∧ (s.hub.on MGP.CLAIM_HELD = false)) ∧
    (∃ s : State, ∃ r : Req, s.Inv ∧ (s.hub.Grants r MGP.CLAIM_RELEASE 0) ∧ (s.hub.up 0xD = true) ∧ (s.hub.on MGP.CLAIM_HELD = true) ∧ (s.hub.rd MGP.CLAIM_OWNER = masterNum r.master)) :=
  ⟨⟨w10, inv_and (by decide +kernel)⟩,
   ⟨w11, inv_and (by decide +kernel)⟩,
   ⟨w12, (List.replicate 49 7), inv_and (by decide +kernel)⟩,
   ⟨w13, [7], inv_and (by decide +kernel)⟩,
   ⟨w14, 1, [7,8], inv_and (by decide +kernel)⟩,
   ⟨w15, inv_and (by decide +kernel)⟩,
   ⟨w16, fr 11 1, inv_and (by decide +kernel)⟩,
   ⟨w17, inv_and (by decide +kernel)⟩,
   ⟨w18, inv_and (by decide +kernel)⟩,
   ⟨w19, inv_and (by decide +kernel)⟩,
   ⟨w20, inv_and (by decide +kernel)⟩,
   ⟨w21, cpu, inv_of (by decide +kernel), grants_of (by decide +kernel), by decide +kernel⟩,
   ⟨w22, cpu, inv_of (by decide +kernel), grants_of (by decide +kernel), by decide +kernel⟩,
   ⟨w23, cpu, inv_of (by decide +kernel), grants_of (by decide +kernel), by decide +kernel⟩,
   ⟨w24, cpu, inv_of (by decide +kernel), grants_of (by decide +kernel), by decide +kernel⟩,
   ⟨w25, cpu, inv_of (by decide +kernel), grants_of (by decide +kernel), by decide +kernel⟩⟩

def w26 : State := node PR cr
def w27 : State := node PR (cr ++ [(DBG.STAT_STATE,0,0,2)])
def w28 : State := node PR cr
def w29 : State := node PR (cr ++ [(LCS.TARGET_LC,0,0,3),(LCS.CONFIRM_VALUE,0,0,State.reset.hub.rd KEY.DEVID_LO_ID)])
def w30 : State := node PR (cr ++ [(LCS.STAT_DONE,0,0,1),(LCS.hTo,0,0,3)])
def w31 : State := node PR (cr ++ [(LCS.STAT_DONE,0,0,1),(LCS.hTo,0,0,3)])
def w32 : State := node PR cr lkq
def w33 : State := node PR cr lkq
def w34 : State := node PR cr
def w35 : State := node PR cr
def w36 : State := node PR cr lkq
def w37 : State := node PR cr
def w38 : State := node PR cr lkq
def w39 : State := node PR (cr ++ [(HDR.hEscRun,2,0,1),(HDR.ESTAT,2,0,8),(HDR.EEN,2,0,8),(HDR.ESC_CEIL,2,0,2)])
def w40 : State := node PR cr
def w41 : State := node PR (cr ++ [(TEL.CFG_SEND,0,0,1),(TEL.SSTAT_BUSY,0,0,1)])
def w42 : State := node PR (cr ++ [(TEL.CFG_PERIOD_MS,0,0,10)])
def w43 : State := node PR cr

theorem test_witness_ProtectionCommandsComplete :
    (∃ s : State, ∃ r : Req, s.Inv ∧ (s.hub.Grants r DBG.CTL_UNLOCK 0) ∧ (s.hub.up 0xC = true) ∧ (s.hub.on DBG.STAT_LOCKOUT = false)) ∧
    (∃ s : State, ∃ r : Req, s.Inv ∧ (s.hub.Grants r DBG.CTL_RELOCK 0) ∧ (s.hub.up 0xC = true) ∧ (s.hub.rd DBG.STAT_STATE = 2)) ∧
    (∃ s : State, ∃ r : Req, s.Inv ∧ (s.hub.Grants r DBG.FI_GO 0) ∧ (s.hub.up 0xC = true)) ∧
    (∃ s : State, ∃ r : Req, s.Inv ∧ (s.hub.Grants r LCS.CTL_GO 0) ∧ (s.hub.up 0xB = true) ∧ (s.hub.rd LCS.STAT_DONE ≠ 1)) ∧
    (∃ s : State, s.Inv ∧ (s.hub.domOn 1 = true) ∧ (s.hub.rd LCS.STAT_DONE = 1)) ∧
    (∃ s : State, s.Inv ∧ (s.hub.domOn 1 = true) ∧ (s.hub.rd LCS.STAT_DONE = 1)) ∧
    (∃ s : State, ∃ rec, ∃ rest, s.Inv ∧ (s.hub.up 0xA = true) ∧ (s.hub.lkQueue = rec :: rest)) ∧
    (∃ s : State, ∃ rec, ∃ rest, s.Inv ∧ (s.hub.up 0xA = true) ∧ (s.hub.lkQueue = rec :: rest)) ∧
    (∃ s : State, ∃ r : Req, s.Inv ∧ (s.hub.Grants r LKT.WCTL_GO 0) ∧ (s.hub.up 0xA = true)) ∧
    (∃ s : State, ∃ r : Req, ∃ seq : Nat, s.Inv ∧ (s.hub.Grants r LKT.RSEQ_SEQ 0) ∧ (s.hub.up 0xA = true) ∧ (Tab.find (seq % 2 ^ 32) s.hub.lkRing = none)) ∧
    (∃ s : State, ∃ r : Req, ∃ seq : Nat, ∃ bs, s.Inv ∧ (s.hub.Grants r LKT.RSEQ_SEQ 0) ∧ (s.hub.up 0xA = true) ∧ (Tab.find (seq % 2 ^ 32) s.hub.lkRing = some bs)) ∧
    (∃ s : State, ∃ r : Req, s.Inv ∧ (s.hub.Grants r LKT.CTL_MARKCLR 0) ∧ (s.hub.up 0xA = true)) ∧
    (∃ s : State, s.Inv ∧ (s.hub.up 0xA = true) ∧ (s.hub.domOn 2 = true)) ∧
    (∃ s : State, ∃ pg : Nat, s.Inv ∧ (s.hub.domOn (pageDom pg) = true) ∧ ((pageRow? pg).isSome = true) ∧ (noIrq pg = false) ∧ (s.hub.on HDR.hEscRun pg = true) ∧ (pg ≠ 6)) ∧
    (∃ s : State, ∃ r : Req, s.Inv ∧ (s.hub.Grants r TEL.SNAP_GO 0) ∧ (s.hub.up 6 = true) ∧ (s.hub.on TEL.SSTAT_BUSY = false)) ∧
    (∃ s : State, ∃ r : Req, s.Inv ∧ (s.hub.Grants r TEL.SNAP_GO 0) ∧ (s.hub.up 6 = true) ∧ (s.hub.on TEL.SSTAT_BUSY = true)) ∧
    (∃ s : State, s.Inv ∧ (s.hub.up 6 = true) ∧ (s.hub.on TEL.CFG_PERIOD_MS = true) ∧ (s.hub.on TEL.SSTAT_BUSY = false)) ∧
    (∃ s : State, s.Inv ∧ (s.hub.up 6 = true) ∧ (s.hub.domOn 2 = true)) :=
  ⟨⟨w26, cpu, inv_of (by decide +kernel), grants_of (by decide +kernel), by decide +kernel⟩,
   ⟨w27, cpu, inv_of (by decide +kernel), grants_of (by decide +kernel), by decide +kernel⟩,
   ⟨w28, cpu, inv_of (by decide +kernel), grants_of (by decide +kernel), by decide +kernel⟩,
   ⟨w29, cpu, inv_of (by decide +kernel), grants_of (by decide +kernel), by decide +kernel⟩,
   ⟨w30, inv_and (by decide +kernel)⟩,
   ⟨w31, inv_and (by decide +kernel)⟩,
   ⟨w32, R0, [], inv_and (by decide +kernel)⟩,
   ⟨w33, R0, [], inv_and (by decide +kernel)⟩,
   ⟨w34, cpu, inv_of (by decide +kernel), grants_of (by decide +kernel), by decide +kernel⟩,
   ⟨w35, cpu, 3, inv_of (by decide +kernel), grants_of (by decide +kernel), by decide +kernel⟩,
   ⟨w36, cpu, 3, [1,2,3], inv_of (by decide +kernel), grants_of (by decide +kernel), by decide +kernel⟩,
   ⟨w37, cpu, inv_of (by decide +kernel), grants_of (by decide +kernel), by decide +kernel⟩,
   ⟨w38, inv_and (by decide +kernel)⟩,
   ⟨w39, 2, inv_and (by decide +kernel)⟩,
   ⟨w40, cpu, inv_of (by decide +kernel), grants_of (by decide +kernel), by decide +kernel⟩,
   ⟨w41, cpu, inv_of (by decide +kernel), grants_of (by decide +kernel), by decide +kernel⟩,
   ⟨w42, inv_and (by decide +kernel)⟩,
   ⟨w43, inv_and (by decide +kernel)⟩⟩

def w44 : State := node (0 :: PR) cr
def w45 : State := node PR (cr ++ [(GPX.BSEL_BALL,0,0,3)])
def w46 : State := node PR (cr ++ [(GPX.BSEL_BALL,0,0,3),(GPX.BFUNC_FUNC,0,3,1)])
def w47 : State := node PR cr
def w48 : State := node PR (cr ++ [(TMR.TCLAIM_HELD,0,0,1)])
def w49 : State := node PR (cr ++ [(TMR.TCFG_EN,0,3,1)])
def w50 : State := node PR (cr ++ [(TMR.TCFG_EN,0,3,1),(TMR.TCFG_MODE,0,3,2),(GPX.BFUNC_FUNC,0,3,3)])

theorem test_witness_TimerAndBallCommandsComplete :
    (∃ s : State, ∃ r : Req, s.Inv ∧ (s.hub.Accepts r TOP.NTCTL_SET 0)) ∧
    (∃ s : State, ∃ r : Req, ∃ v : Nat, ∃ b, s.Inv ∧ (s.hub.Grants r GPX.BFUNC_FUNC 0) ∧ (s.hub.rd GPX.BSEL_BALL = b) ∧ (b < 24) ∧ (bits v 0 2 = 0 ∨ s.hub.rd GPX.BFUNC_FUNC 0 b = 0 ∨ s.hub.rd GPX.BFUNC_FUNC 0 b = bits v 0 2)) ∧
    (∃ s : State, ∃ r : Req, ∃ v : Nat, ∃ b, s.Inv ∧ (s.hub.Grants r GPX.BFUNC_FUNC 0) ∧ (s.hub.rd GPX.BSEL_BALL = b) ∧ (b < 24) ∧ (bits v 0 2 ≠ 0) ∧ (s.hub.rd GPX.BFUNC_FUNC 0 b ≠ 0) ∧ (s.hub.rd GPX.BFUNC_FUNC 0 b ≠ bits v 0 2)) ∧
    (∃ s : State, ∃ r : Req, ∃ t, s.Inv ∧ (s.hub.Accepts r TMR.TCLAIM_CLAIM 0) ∧ (s.hub.rd TMR.TSEL_TIMER = t)) ∧
    (∃ s : State, ∃ r : Req, ∃ t, s.Inv ∧ (s.hub.Accepts r TMR.TCLAIM_RELEASE 0) ∧ (s.hub.rd TMR.TSEL_TIMER = t)) ∧
    (∃ s : State, ∃ t : Fin 16, s.Inv ∧ (s.hub.up 0xD1 = true) ∧ (s.hub.on TMR.TCFG_EN 0 t = true) ∧ (s.hub.rd TMR.TCFG_MODE 0 t ≠ 2) ∧ (s.hub.on TMR.hStop 0 t = false)) ∧
    (∃ s : State, ∃ t : Fin 16, s.Inv ∧ (s.hub.up 0xD1 = true) ∧ (s.hub.on TMR.TCFG_EN 0 t = true) ∧ (s.hub.rd TMR.TCFG_MODE 0 t = 2) ∧ (s.hub.timerBall t = true)) :=
  ⟨⟨w44, cpu, inv_of (by decide +kernel), accepts_of (by decide +kernel)⟩,
   ⟨w45, cpu, 2, 3, inv_of (by decide +kernel), grants_of (by decide +kernel), by decide +kernel⟩,
   ⟨w46, cpu, 2, 3, inv_of (by decide +kernel), grants_of (by decide +kernel), by decide +kernel⟩,
   ⟨w47, cpu, 0, inv_of (by decide +kernel), accepts_of (by decide +kernel), by decide +kernel⟩,
   ⟨w48, cpu, 0, inv_of (by decide +kernel), accepts_of (by decide +kernel), by decide +kernel⟩,
   ⟨w49, 3, inv_and (by decide +kernel)⟩,
   ⟨w50, 3, inv_and (by decide +kernel)⟩⟩

end W21

/-! ### Fragment 22 -/

namespace W22

/-- two slots 4 and 5 of 64x64, owner (o,i), states st4 st5, sig en, inherit -/
def slots (o i st4 st5 sgl : Nat) (h : Hub) : Hub :=
  (h.setTwords (slotAddr 4 0) [0, 64 + 64 * 65536, 5 + sgl * 65536 + 0 * 256, o + i * 256, st4]).setTwords (slotAddr 5 0) [1, 64 + 64 * 65536, 4 + sgl * 65536 + 1 * 256, o + i * 256, st5]
def memOn : List (Fld × Nat × Nat × Nat) := [(MEM.STAT_READY,0,0,1),(CLK.GSTAT_RUN,0,0,0xFFFFFFFF)]
def cap0 := memOn ++ [(DCP.RING_FIRST,0,0,4),(DCP.MODE_HACT,0,0,64),(DCP.MODE_VACT,0,0,64),(DCP.LINK_TRAINED,0,0,1),(DCP.CTL_CAPEN,0,0,1)]
def host0 := memOn ++ [(DTL.WINEN_LO_EN,0,0,2),(DTL.hSlot,0,3,5)]
def tile0 : TilePkt := { typ := 0, frame := 3, tile := 0, ord := 0, sig := 0x101, pixels := [1,2,3] }
def rx0 := memOn ++ [(DTL.RCTL_EN,0,2,1),(DTL.RTID0_VALID,0,2,1),(DTL.RTID0_TID,0,2,0x5000),(DTL.RRING_FIRST,0,2,4),(DTL.hSlot,0,68,5),(DTL.RSTAT_OPEN,0,2,1),(DTL.hOpen,0,2,3)]
def P : List Nat := [0x75, 0x77, 0x88]
def clk0 : List (Fld × Nat × Nat × Nat) := [(CLK.GSTAT_RUN,0,0,0xFFFFFFFF)]
def hd0 : TxbHdr := { op := 0, win := 1, len := 4, addr := 8, tag := 3 }
def m0 : TxbIn := ⟨7, 5, hd0, [1,2,3,4]⟩
def tw0 := clk0 ++ [(TXB.TW_CFG_EN,0,1,1),(TXB.TW_CFG_BUS,0,1,1),(TXB.TW_CFG_SIZE_LOG2,0,1,20),(TXB.TW_CFG_GRAN,0,1,3),(MEM.STAT_READY,0,0,1)]
def acts (h : Hub) : Hub := h.setTwords 0x5C0000 [0, 0xFFFFFFF, 0x303FF, 0x18000, 0, 0, 0, 1]

def w1 : State := node P (memOn ++ [(DTL.hFill,0,3,1),(DTL.WINEN_LO_EN,0,0,2)]) (fun h => (slots 3 1 0 0 1 h).fput 16370 (List.replicate 40 9))
def w2 : State := node P (cap0 ++ [(DTL.hSlot,0,0,5)]) (fun h => (slots 1 0 1 2 1 h).fput 16370 (List.replicate 40 9))
def w3 : State := node P host0 (fun h => ((slots 3 1 1 2 1 h).fput 16370 (List.replicate 40 9)).setTwords 0x5C0000 [0, 0xFFFFFFF, 0x30002, 0x10000, 0, 0, 0, 1])
def w4 : State := node P rx0 (fun h => (slots 4 2 1 2 3 h).fput 16370 (List.replicate 40 9))
def w5 : State := node P rx0 (fun h => (slots 4 2 1 2 3 h).fput 16370 (List.replicate 40 9))
def w6 : State := node P (rx0 ++ [(DTL.hWait,0,2,1)]) (fun h => (slots 4 2 129 2 3 h).fput 16370 (List.replicate 40 9))
def w7 : State := node [0x80, 0x88] tw0 (fun h => acts { h with land := [m0] })

theorem test_witness_FrameMemoryStoresStayInPlace :
    (∃ s : State, ∃ w : Writer, ∃ a, s.Inv ∧ ((∀ k ∈ s.hub.ringOf w, k < 256 ∧ (a < s.hub.slotBase k ∨ s.hub.slotBase k + s.hub.slotBytes k ≤ a)))) ∧
    (∃ s : State, ∃ d : Fin 2, ∃ a, s.Inv ∧ ((∀ k : Nat, k < 256 → s.hub.rd DTL.hSlot 0 d = k + 1 → a < s.hub.slotBase k ∨ s.hub.slotBase k + s.hub.slotBytes k ≤ a)) ∧ (s.hub.rd DTL.hSlot 0 d ≤ 256)) ∧
    (∃ s : State, ∃ w : Fin 64, ∃ off : Nat, ∃ data : Bytes, ∃ a, s.Inv ∧ ((0 < s.hub.rd DTL.hSlot 0 (2 + w) → a < s.hub.slotBase (s.hub.rd DTL.hSlot 0 (2 + w) - 1) + (off - 0x1000000) ∨ s.hub.slotBase (s.hub.rd DTL.hSlot 0 (2 + w) - 1) + (off - 0x1000000) + data.length ≤ a))) ∧
    (∃ s : State, ∃ tid : Nat, ∃ a, s.Inv ∧ ((∀ r : Nat, r < 8 → s.hub.streamFor tid = some r → s.hub.rd DTL.hSlot 0 (66 + r) ≤ 256 ∧ (0 < s.hub.rd DTL.hSlot 0 (66 + r) → a < s.hub.slotBase (s.hub.rd DTL.hSlot 0 (66 + r) - 1) ∨ s.hub.slotBase (s.hub.rd DTL.hSlot 0 (66 + r) - 1) + s.hub.slotBytes (s.hub.rd DTL.hSlot 0 (66 + r) - 1) ≤ a) ∧ (∀ k ∈ s.hub.ringOf (.receive (Fin.ofNat 8 r)), k < 256 ∧ (a < s.hub.slotBase k ∨ s.hub.slotBase k + s.hub.slotBytes k ≤ a))))) ∧
    (∃ s : State, ∃ tid : Nat, ∃ a, s.Inv ∧ ((∀ r : Nat, r < 8 → s.hub.streamFor tid = some r → s.hub.rd DTL.hSlot 0 (66 + r) ≤ 256 ∧ (0 < s.hub.rd DTL.hSlot 0 (66 + r) → a < s.hub.slotBase (s.hub.rd DTL.hSlot 0 (66 + r) - 1) ∨ s.hub.slotBase (s.hub.rd DTL.hSlot 0 (66 + r) - 1) + s.hub.slotBytes (s.hub.rd DTL.hSlot 0 (66 + r) - 1) ≤ a) ∧ (∀ k ∈ s.hub.ringOf (.receive (Fin.ofNat 8 r)), k < 256 ∧ (a < s.hub.slotBase k ∨ s.hub.slotBase k + s.hub.slotBytes k ≤ a))))) ∧
    (∃ s : State, ∃ w : Writer, ∃ a, s.Inv ∧ (s.hub.rd DTL.hSlot 0 (writerNo w) ≤ 256) ∧ ((0 < s.hub.rd DTL.hSlot 0 (writerNo w) → a < s.hub.slotBase (s.hub.rd DTL.hSlot 0 (writerNo w) - 1) ∨ s.hub.slotBase (s.hub.rd DTL.hSlot 0 (writerNo w) - 1) + s.hub.slotBytes (s.hub.rd DTL.hSlot 0 (writerNo w) - 1) ≤ a))) ∧
    (∃ s : State, ∃ a, s.Inv ∧ ((∀ m ∈ s.hub.land.take 1, a < s.hub.twBase (m.h.win % 32) + m.h.addr ∨ s.hub.twBase (m.h.win % 32) + m.h.addr + m.h.len ≤ a))) :=
  ⟨⟨w1, .hostWin 1, 16385, inv_and (by decide +kernel)⟩,
   ⟨w2, 0, 16385, inv_and (by decide +kernel)⟩,
   ⟨w3, 1, 0x1000004, [7,8,9,10,11], 9, inv_and (by decide +kernel)⟩,
   ⟨w4, 0x5000, 16385, inv_and (by decide +kernel)⟩,
   ⟨w5, 0x5000, 16385, inv_and (by decide +kernel)⟩,
   ⟨w6, .receive 2, 16385, inv_and (by decide +kernel)⟩,
   ⟨w7, 12, inv_and (by decide +kernel)⟩⟩

def w8 : State := node [] []
def w9 : State := node [] []
def w10 : State := node [] []
def w11 : State := node [] []
def w12 : State := node [] []

theorem test_witness_TableWritesStayInTheirEntry :
    (∃ s : State, ∃ addr : Nat, ∃ t, ∃ row, ∃ a, s.Inv ∧ (tableAt addr = some (t, row)) ∧ (t ≠ 0) ∧ (t ≠ 2) ∧ ((a < row.base + row.stride * ((addr - row.base) / row.stride) ∨ row.base + row.stride * ((addr - row.base) / row.stride) + row.stride ≤ a))) ∧
    (∃ s : State, ∃ addr : Nat, ∃ t, ∃ row, s.Inv ∧ (tableAt addr = some (t, row)) ∧ ((addr - row.base) % row.stride / 4 + 1 ≠ row.stride / 4)) ∧
    (∃ s : State, ∃ idx : Fin 8192, ∃ a, s.Inv ∧ ((a < tunAddr idx ∨ tunAddr idx + 32 ≤ a))) ∧
    (∃ s : State, ∃ idx : Fin 256, ∃ a, s.Inv ∧ ((a < slotAddr idx 0 ∨ slotAddr idx 16 ≤ a ∨ slotAddr idx 4 ≤ a ∧ a < slotAddr idx 8))) ∧
    (∃ s : State, ∃ a, s.Inv ∧ ((a < 0x5C0000 + 32 * s.hub.rd ACT.ESEL_ENTRY ∨ 0x5C0020 + 32 * s.hub.rd ACT.ESEL_ENTRY ≤ a))) :=
  ⟨⟨w8, 0x440004, 1, ⟨0x440000, 8, 16384, 2, false⟩, 0x440008, inv_and (by decide +kernel)⟩,
   ⟨w9, 0x440000, 1, ⟨0x440000, 8, 16384, 2, false⟩, inv_and (by decide +kernel)⟩,
   ⟨w10, 3, 0x400080, inv_and (by decide +kernel)⟩,
   ⟨w11, 3, 0x4600D0, inv_and (by decide +kernel)⟩,
   ⟨w12, 0x5C0020, inv_and (by decide +kernel)⟩⟩

end W22

/-! ### Fragment 23 -/

namespace W23

def w1 : State := node [] []
def w2 : State := node [] [(HDR.ESTAT,0x40,0,8)]
def w3 : State := node [] []
def w4 : State := node [] [(HDR.EEN,0x40,0,8)]
def w5 : State := node [] [(HDR.EEN,0x40,0,8),(HDR.ECAP_VALID,0x40,0,1)]
def w6 : State := node [] [(HDR.EEN,0x40,0,8),(HDR.ESC_TIME,0x40,0,5)]
def w7 : State := node [] [(HDR.ESTAT,0x40,0,8)]

theorem test_witness_ErrorsAreCapturedOnce :
    (∃ s : State, ∃ pg : Nat, ∃ n : Nat, s.Inv ∧ (secondPage pg = false) ∧ (n < 32)) ∧
    (∃ s : State, ∃ pg : Nat, ∃ n : Nat, s.Inv ∧ (s.hub.bit HDR.ESTAT n pg = true)) ∧
    (∃ s : State, ∃ pg : Nat, ∃ n : Nat, s.Inv ∧ (pg ≠ 0xA) ∧ (s.hub.bit HDR.EEN n pg = false)) ∧
    (∃ s : State, ∃ pg : Nat, ∃ n : Nat, s.Inv ∧ (secondPage pg = false) ∧ (n < 32) ∧ (s.hub.bit HDR.ESTAT n pg = false) ∧ (s.hub.bit HDR.EEN n pg = true) ∧ (s.hub.on HDR.ECAP_VALID pg = false)) ∧
    (∃ s : State, ∃ pg : Nat, ∃ n : Nat, s.Inv ∧ (s.hub.bit HDR.EEN n pg = true) ∧ (s.hub.on HDR.ECAP_VALID pg = true) ∧ (pg ≠ 0xA)) ∧
    (∃ s : State, ∃ pg : Nat, ∃ n : Nat, s.Inv ∧ (noIrq pg = false) ∧ (n < 32) ∧ (s.hub.bit HDR.ESTAT n pg = false) ∧ (s.hub.bit HDR.EEN n pg = true)) ∧
    (∃ s : State, ∃ r : Req, ∃ pg : Nat, s.Inv ∧ (s.hub.GrantsAt r (pg * 4096 + 0x14))) :=
  ⟨⟨w1, 0x40, 3, inv_and (by decide +kernel)⟩,
   ⟨w2, 0x40, 3, inv_and (by decide +kernel)⟩,
   ⟨w3, 0x40, 3, inv_and (by decide +kernel)⟩,
   ⟨w4, 0x40, 3, inv_and (by decide +kernel)⟩,
   ⟨w5, 0x40, 3, inv_and (by decide +kernel)⟩,
   ⟨w6, 0x40, 3, inv_and (by decide +kernel)⟩,
   ⟨w7, cpu, 0x40, inv_of (by decide +kernel), grantsAt_of (by decide +kernel)⟩⟩

def w8 : State := node [] [(HDR.ESTAT,0x40,0,8),(HDR.ECAP_VALID,0x40,0,1),(HDR.EEN,0x40,0,9)]
def w9 : State := node [] [(HDR.ESTAT,0x40,0,9),(HDR.ECAP_VALID,0x40,0,1),(HDR.EEN,0x40,0,9)]
def w10 : State := node [] [(HDR.ESTAT,0x40,0,9),(HDR.ECAP_VALID,0x40,0,1),(HDR.EEN,0x40,0,9),(HDR.ESC_TIME,0x40,0,5)]

theorem test_witness_ClearedEstatReleasesTheCapture :
    (∃ s : State, ∃ r : Req, ∃ pg : Nat, ∃ v : Nat, s.Inv ∧ (s.hub.GrantsAt r (pg * 4096 + 0x10)) ∧ (secondPage pg = false) ∧ (clrMask (s.hub.rd HDR.ESTAT pg) v = 0)) ∧
    (∃ s : State, ∃ r : Req, ∃ pg : Nat, ∃ v : Nat, s.Inv ∧ (s.hub.GrantsAt r (pg * 4096 + 0x10)) ∧ (secondPage pg = false) ∧ (clrMask (s.hub.rd HDR.ESTAT pg) v ≠ 0)) ∧
    (∃ s : State, ∃ r : Req, ∃ pg : Nat, ∃ v : Nat, ∃ n, s.Inv ∧ (s.hub.GrantsAt r (pg * 4096 + 0x10)) ∧ (secondPage pg = false) ∧ (n < 32) ∧ (s.hub.rd HDR.ESTAT pg &&& v ≠ 0) ∧ (s.hub.bit HDR.EEN n pg = true) ∧ ((s.hub.bit HDR.ESTAT n pg && !v.testBit n) = false)) :=
  ⟨⟨w8, cpu, 0x40, 0xFFFFFFFF, inv_of (by decide +kernel), grantsAt_of (by decide +kernel), by decide +kernel⟩,
   ⟨w9, cpu, 0x40, 8, inv_of (by decide +kernel), grantsAt_of (by decide +kernel), by decide +kernel⟩,
   ⟨w10, cpu, 0x40, 9, 3, inv_of (by decide +kernel), grantsAt_of (by decide +kernel), by decide +kernel⟩⟩

def w11 : State := node [] []
def w12 : State := node [] []

theorem test_witness_UnpopulatedIndexIsRefused :
    (∃ s : State, ∃ r : Req, ∃ addr : Nat, s.Inv ∧ (s.hub.reaches r.master = true) ∧ (addr % 4 = 0) ∧ (pageRow? (addr / 4096) = none) ∧ (tableAt addr = none)) ∧
    (∃ s : State, ∃ r : Req, ∃ addr : Nat, s.Inv ∧ (s.hub.reaches r.master = true) ∧ (addr % 4 = 0) ∧ (pageRow? (addr / 4096) = none) ∧ (tableAt addr = none) ∧ ((r.size = 4 ∨ r.size = 8 ∧ addr % 8 = 0 ∧ (r.master = .mcpu ∨ r.master = .pcieHost)))) :=
  ⟨⟨w11, cpu, 0x900000, inv_and (by decide +kernel)⟩,
   ⟨w12, cpu, 0x900000, inv_and (by decide +kernel)⟩⟩

def w14 : State := node [] []
def w15 : State := node [] [(DBG.STAT_ATTACHED,0,0,1)]
def w16 : State := node [] []
def w17 : State := node [] []
def w18 : State := node [] []
def w19 : State := node [] []
def w20 : State := node [] []
def w21 : State := node [] []

theorem test_witness_WindowTakesAlignedWords :
    (∃ s : State, ∃ r : Req, ∃ addr : Nat, ∃ size : Nat, s.Inv ∧ (s.hub.reaches r.master = true) ∧ (¬ (size = 4 ∧ addr % 4 = 0 ∨ size = 8 ∧ addr % 8 = 0 ∧ (r.master = .mcpu ∨ r.master = .pcieHost)))) ∧
    (∃ s : State, ∃ addr : Nat, ∃ size : Nat, s.Inv ∧ (s.hub.reaches .dbg = true) ∧ (¬ (size = 4 ∧ addr % 4 = 0))) ∧
    (∃ s : State, ∃ r : Req, ∃ addr : Nat, s.Inv ∧ (s.hub.reaches r.master = true) ∧ (s.hub.check r true addr 8 = none)) ∧
    (∃ s : State, ∃ r : Req, ∃ addr : Nat, s.Inv ∧ (s.hub.reaches r.master = true) ∧ (¬ (r.size = 4 ∧ addr % 4 = 0 ∨ r.size = 8 ∧ addr % 8 = 0 ∧ (r.master = .mcpu ∨ r.master = .pcieHost)))) ∧
    (∃ s : State, ∃ r : Req, ∃ addr : Nat, s.Inv ∧ (s.hub.reaches r.master = true) ∧ (¬ (r.size = 4 ∧ addr % 4 = 0 ∨ r.size = 8 ∧ addr % 8 = 0 ∧ (r.master = .mcpu ∨ r.master = .pcieHost)))) ∧
    (∃ s : State, ∃ r : Req, ∃ addr : Nat, s.Inv ∧ (r.size = 8) ∧ (s.hub.reaches r.master = true) ∧ (s.hub.check r false addr 8 = none) ∧ (tableAt addr = none) ∧ (isLow64 (addr / 4096) (addr % 4096) = true)) ∧
    (∃ s : State, ∃ r : Req, ∃ addr : Nat, s.Inv ∧ (r.size = 8) ∧ (s.hub.reaches r.master = true) ∧ (s.hub.check r false addr 8 = none) ∧ (tableAt addr = none) ∧ (isLow64 (addr / 4096) (addr % 4096) = false) ∧ (isLow64 (addr / 4096) (addr % 4096 + 4) = false) ∧ ((Tab.get {} (masterNum r.master) s.hub.latch64).valid = false) ∧ (Tab.Sorted s.hub.latch64)) ∧
    (∃ s : State, ∃ r : Req, ∃ addr : Nat, ∃ t, ∃ row, s.Inv ∧ (r.size = 8) ∧ (s.hub.reaches r.master = true) ∧ (s.hub.check r false addr 8 = none) ∧ (tableAt addr = some (t, row)) ∧ ((addr - row.base) % row.stride = 0)) :=
  ⟨⟨w14, cpu, 0x900002, 4, inv_and (by decide +kernel)⟩,
   ⟨w15, 0x900002, 4, inv_and (by decide +kernel)⟩,
   ⟨w16, cpu, 0x440000, inv_and (by decide +kernel)⟩,
   ⟨w17, ⟨.mcpu, 0, 8⟩, 0x440004, inv_and (by decide +kernel)⟩,
   ⟨w18, ⟨.mcpu, 0, 8⟩, 0x440004, inv_and (by decide +kernel)⟩,
   ⟨w19, ⟨.mcpu, 0, 8⟩, 0x2130, inv_and (by decide +kernel)⟩,
   ⟨w20, ⟨.mcpu, 0, 8⟩, 0x58110, inv_and (by decide +kernel)⟩,
   ⟨w21, ⟨.mcpu, 0, 8⟩, 0x440000, 1, ⟨0x440000, 8, 16384, 2, false⟩, inv_and (by decide +kernel)⟩⟩

def w22 : State := node [] []
def w23 : State := node [] []
def w24 : State := node [] [(HDR.EEN,0,0,15)]
def w25 : State := node [] [(HDR.EEN,0,0,15)]

theorem test_witness_WindowRefusalsAreCapturedInTop :
    (∃ s : State, ∃ addr, s.Inv ∧ (addr % 4 = 0)) ∧
    (∃ s : State, ∃ addr, ∃ t, ∃ row, s.Inv ∧ (addr % 4 = 0) ∧ (tableAt addr = some (t, row)) ∧ (row.readOnly = true)) ∧
    (∃ s : State, ∃ r : Req, ∃ addr : Nat, ∃ size : Nat, ∃ e : AccErr, ∃ n : Nat, s.Inv ∧ (s.hub.reaches r.master = true) ∧ (s.hub.check r true addr size = some e) ∧ ((e, n) ∈ [(.unpopulated, 0), (.sizeAlign, 1), (.domainOff, 2), (.tableRo, 3)])) ∧
    (∃ s : State, ∃ r : Req, ∃ addr : Nat, ∃ e : AccErr, ∃ n : Nat, s.Inv ∧ (s.hub.reaches r.master = true) ∧ (s.hub.check r false addr r.size = some e) ∧ ((e, n) ∈ [(.unpopulated, 0), (.sizeAlign, 1), (.domainOff, 2)])) :=
  ⟨⟨w22, 0x900000, inv_and (by decide +kernel)⟩,
   ⟨w23, 0x480000, 3, ⟨0x480000, 4, 262144, 7, true⟩, inv_and (by decide +kernel)⟩,
   ⟨w24, cpu, 0x900000, 4, .unpopulated, 0, inv_and (by decide +kernel)⟩,
   ⟨w25, cpu, 0x900000, .unpopulated, 0, inv_and (by decide +kernel)⟩⟩

def w26 : State := node [0x58] [(HDR.PSTAT_CPEND,0x58,0,1)]

theorem test_witness_ShadowWriteWhilePendingIsDropped :
    (∃ s : State, ∃ r : Req, ∃ pg, ∃ off, ∃ b, ∃ F, ∃ i, s.Inv ∧ (s.hub.GrantsAt r (pg * 4096 + off)) ∧ (off < 4096) ∧ (s.hub.bankOf pg off = some b) ∧ ((F, i) ∈ fieldsAt pg off) ∧ (F.acc = .rws) ∧ (s.hub.on HDR.PSTAT_CPEND pg = true) ∧ ((∀ q ∈ readsAs, q.1 = F → q.2.1 ≤ s.hub.rdShadow F i b ∧ s.hub.rdShadow F i b ≤ q.2.2.1))) :=
  ⟨w26, cpu, 0x58, 0x110, 0, SCH.SHAPE_RATE, 8, inv_of (by decide +kernel), grantsAt_of (by decide +kernel), by decide +kernel⟩

def w27 : State := node [0x58] []
def w28 : State := node [0x58] [(HDR.PSTAT_CPEND,0x58,0,1)]
def w29 : State := node [0x58] [(HDR.PSTAT_CPEND,0x58,0,1)] (fun h => { h with shadow := [(SCH.SHAPE_RATE.key 8 3, 77)] })

theorem test_witness_ShadowsTakeEffectAtTheCommitPoint :
    (∃ s : State, ∃ r : Req, ∃ pg, ∃ off, ∃ v : Nat, ∃ b, ∃ F, ∃ i, s.Inv ∧ (s.hub.GrantsAt r (pg * 4096 + off)) ∧ (off < 4096) ∧ (s.hub.bankOf pg off = some b) ∧ ((F, i) ∈ fieldsAt pg off) ∧ (F.acc = .rws) ∧ (s.hub.on HDR.PSTAT_CPEND pg = false) ∧ ((∀ q ∈ readsAs, q.1 = F → q.2.1 ≤ bits v F.lo F.w ∧ bits v F.lo F.w ≤ q.2.2.1))) ∧
    (∃ s : State, ∃ r : Req, ∃ pg : Nat, s.Inv ∧ (s.hub.GrantsAt r (pg * 4096 + 0x3C)) ∧ (s.hub.rd HDR.PSTAT_CPEND pg = 1)) ∧
    (∃ s : State, ∃ pg : Nat, s.Inv ∧ (s.hub.up pg = true) ∧ (s.hub.on HDR.PSTAT_CPEND pg = true) ∧ (0x50 ≤ pg) ∧ (pg ≤ 0x5D) ∧ (s.hub.noSelection (pg - 0x50) = true) ∧ (Tab.Sorted s.hub.shadow)) :=
  ⟨⟨w27, cpu, 0x58, 0x110, 7, 0, SCH.SHAPE_RATE, 8, inv_of (by decide +kernel), grantsAt_of (by decide +kernel), by decide +kernel⟩,
   ⟨w28, cpu, 0x58, inv_of (by decide +kernel), grantsAt_of (by decide +kernel), by decide +kernel⟩,
   ⟨w29, 0x58, inv_and (by decide +kernel)⟩⟩

def w30 : State := node [] [] (fun h => { h with staging := [(1, ⟨0, [(0, 5)]⟩), (4, ⟨0, [(0, 5)]⟩)] })
def w31 : State := node [] [] (fun h => { h with staging := [(1, ⟨0, [(0, 5)]⟩), (4, ⟨0, [(0, 5)]⟩)] })

theorem test_witness_TableEntriesChangeAtTheirHighestWord :
    (∃ s : State, ∃ r : Req, ∃ addr : Nat, ∃ t, ∃ row, s.Inv ∧ (s.hub.GrantsAt r addr) ∧ (tableAt addr = some (t, row)) ∧ ((addr - row.base) % row.stride / 4 + 1 ≠ row.stride / 4)) ∧
    (∃ s : State, ∃ r : Req, ∃ addr : Nat, ∃ v : Nat, ∃ t, ∃ row, s.Inv ∧ (s.hub.GrantsAt r addr) ∧ (tableAt addr = some (t, row)) ∧ (Tab.Sorted s.hub.staging) ∧ ((addr - row.base) % row.stride / 4 + 1 = row.stride / 4) ∧ ((t = 0 → s.hub.entBad ((addr - row.base) / row.stride) (s.hub.stagedWords r.master t row ((addr - row.base) / row.stride) (v % 2 ^ 32)) = false)) ∧ ((t = 2 → s.hub.slotBad ((addr - row.base) / row.stride) (s.hub.stagedWords r.master t row ((addr - row.base) / row.stride) (v % 2 ^ 32)) = false))) :=
  ⟨⟨w30, cpu, 0x580004, 4, ⟨0x580000, 32, 8192, 10, false⟩, inv_of (by decide +kernel), grantsAt_of (by decide +kernel), by decide +kernel⟩,
   ⟨w31, cpu, 0x440004, 7, 1, ⟨0x440000, 8, 16384, 2, false⟩, inv_of (by decide +kernel), grantsAt_of (by decide +kernel), by decide +kernel⟩⟩

def w32 : State := node [] [] (fun h => { h with tabLatch := [(0, ⟨true, 0x440000, [1,2]⟩)] })
def w33 : State := node [] [] (fun h => { h with tabLatch := [(0, ⟨true, 0x440000, [1,2]⟩)] })

theorem test_witness_TableReadsReturnTheLatchedEntry :
    (∃ s : State, ∃ r : Req, ∃ addr : Nat, ∃ t, ∃ row, s.Inv ∧ (s.hub.GrantsRead r addr) ∧ (r.size = 4) ∧ (tableAt addr = some (t, row)) ∧ ((addr - row.base) % row.stride = 0)) ∧
    (∃ s : State, ∃ r : Req, ∃ addr : Nat, ∃ t, ∃ row, s.Inv ∧ (s.hub.GrantsRead r addr) ∧ (r.size = 4) ∧ (tableAt addr = some (t, row)) ∧ ((addr - row.base) % row.stride ≠ 0) ∧ (Tab.get {} (masterNum r.master) s.hub.tabLatch = ⟨true, addr - (addr - row.base) % row.stride, (Tab.get {} (masterNum r.master) s.hub.tabLatch).words⟩)) :=
  ⟨⟨w32, cpu, 0x440000, 1, ⟨0x440000, 8, 16384, 2, false⟩, inv_of (by decide +kernel), grantsRead_of (by decide +kernel), by decide +kernel⟩,
   ⟨w33, cpu, 0x440004, 1, ⟨0x440000, 8, 16384, 2, false⟩, inv_of (by decide +kernel), grantsRead_of (by decide +kernel), by decide +kernel⟩⟩

def w34 : State := node [] [] (fun h => { h with latch64 := [(0, ⟨true, 0x2130, 5⟩)] })
def w35 : State := node [] [] (fun h => { h with latch64 := [(0, ⟨true, 0x2134, 5⟩)] })
def w36 : State := node [] [] (fun h => { h with latch64 := [(0, ⟨true, 0x2130, 5⟩)] })
def w37 : State := node [] [] (fun h => { h with latch64 := [(0, ⟨true, 0x2130, 5⟩)] })
def w38 : State := node [] []

theorem test_witness_LowWordReadLatchesTheHighWord :
    (∃ s : State, ∃ r : Req, ∃ addr : Nat, s.Inv ∧ (s.hub.GrantsRead r addr) ∧ (r.size = 4) ∧ (tableAt addr = none) ∧ (isLow64 (addr / 4096) (addr % 4096) = true)) ∧
    (∃ s : State, ∃ r : Req, ∃ addr : Nat, ∃ x, s.Inv ∧ (s.hub.GrantsRead r addr) ∧ (r.size = 4) ∧ (tableAt addr = none) ∧ (isLow64 (addr / 4096) (addr % 4096) = false) ∧ (Tab.get {} (masterNum r.master) s.hub.latch64 = ⟨true, addr, x⟩)) ∧
    (∃ s : State, ∃ r : Req, ∃ addr : Nat, s.Inv ∧ (s.hub.reaches r.master = true) ∧ ((tableAt addr ≠ none ∨ isLow64 (addr / 4096) (addr % 4096) = false)) ∧ (Tab.Sorted s.hub.latch64)) ∧
    (∃ s : State, ∃ r : Req, ∃ addr : Nat, ∃ size : Nat, s.Inv ∧ (s.hub.reaches r.master = true) ∧ (s.hub.check r true addr size ≠ none) ∧ (Tab.Sorted s.hub.latch64)) ∧
    (∃ s : State, ∃ r : Req, ∃ f : Hub → Hub, s.Inv ∧ (s.hub.reaches r.master = true) ∧ (Tab.Sorted s.hub.latch64) ∧ ((∀ h : Hub, Tab.get {} (masterNum r.master) (f h).latch64 = Tab.get {} (masterNum r.master) h.latch64))) :=
  ⟨⟨w34, cpu, 0x2130, inv_of (by decide +kernel), grantsRead_of (by decide +kernel), by decide +kernel⟩,
   ⟨w35, cpu, 0x2134, 5, inv_of (by decide +kernel), grantsRead_of (by decide +kernel), by decide +kernel⟩,
   ⟨w36, cpu, 0x2134, inv_and (by decide +kernel)⟩,
   ⟨w37, cpu, 0x900000, 4, inv_and (by decide +kernel)⟩,
   ⟨w38, cpu, id, inv_of (by decide +kernel), by decide +kernel, by decide +kernel, fun _ => rfl⟩⟩

end W23

/-! ### Fragment 24 -/

namespace W24

def w1 : State := node [2] [(FIL.ADMLOAD_CT,0,0,60000),(FIL.VSET_CODE,0,0,9),(HDR.EEN,2,0,4)]
def w2 : State := node [2] [(FIL.VSET_CODE,0,0,9)]

theorem test_witness_VoltageWriteRefusedBelowTheAdmittedLoad :
    (∃ s : State, ∃ r : Req, ∃ v : Nat, ∃ present, s.Inv ∧ (s.hub.Accepts r FIL.VSET_CODE 0) ∧ (present = (if s.hub.on FIL.VSET_RAMPING then s.hub.rd FIL.hVid else s.hub.rd FIL.VSET_CODE)) ∧ ((16 < v % 32 ∨ v % 32 < present ∧ gcapCt (v % 32) < s.hub.rd FIL.ADMLOAD_CT + s.hub.rd FIL.HOLD_CT))) ∧
    (∃ s : State, ∃ r : Req, ∃ v : Nat, ∃ present, s.Inv ∧ (s.hub.Accepts r FIL.VSET_CODE 0) ∧ (present = (if s.hub.on FIL.VSET_RAMPING then s.hub.rd FIL.hVid else s.hub.rd FIL.VSET_CODE)) ∧ (v % 32 ≤ 16) ∧ ((present ≤ v % 32 ∨ s.hub.rd FIL.ADMLOAD_CT + s.hub.rd FIL.HOLD_CT ≤ gcapCt (v % 32)))) :=
  ⟨⟨w1, cpu, 3, 9, inv_of (by decide +kernel), accepts_of (by decide +kernel), by decide +kernel⟩,
   ⟨w2, cpu, 12, 9, inv_of (by decide +kernel), accepts_of (by decide +kernel), by decide +kernel⟩⟩

def w3 : State := node [] [(HDR.EEN,8,0,6)] (fun h => h.setTwords 0x5C0000 [0,0,0,0,0,0,0,2])
def w4 : State := node [] [(HDR.EEN,8,0,6)]
def w5 : State := node [] []

theorem test_witness_AccessEntriesAreAppliedOrRefusedWhole :
    (∃ s : State, ∃ r : Req, s.Inv ∧ (s.hub.Grants r ACT.EW7_DATA 0) ∧ (s.hub.actLocked (s.hub.rd ACT.ESEL_ENTRY) = true)) ∧
    (∃ s : State, ∃ r : Req, ∃ v : Nat, ∃ ws : List Nat, s.Inv ∧ (s.hub.Grants r ACT.EW7_DATA 0) ∧ (s.hub.actLocked (s.hub.rd ACT.ESEL_ENTRY) = false) ∧ (ws = ((List.range 8).map fun w => (if w = 7 then v else s.hub.rd (ACT.EW.word w)) &&& Hub.actMask w)) ∧ ((ws.getD 7 0).testBit 0 = true) ∧ ((ws.getD 1 0 < ws.getD 0 0 ∨ bits (ws.getD 3 0) 16 2 = 3 ∨ bits (ws.getD 4 0) 2 2 = 3 ∨ bits (ws.getD 2 0) 0 10 = 0 ∨ bits (ws.getD 3 0) 16 2 = 0 ∧ 0x7FF < ws.getD 1 0))) ∧
    (∃ s : State, ∃ r : Req, ∃ v : Nat, ∃ ws : List Nat, s.Inv ∧ (s.hub.Grants r ACT.EW7_DATA 0) ∧ (s.hub.actLocked (s.hub.rd ACT.ESEL_ENTRY) = false) ∧ (ws = ((List.range 8).map fun w => (if w = 7 then v else s.hub.rd (ACT.EW.word w)) &&& Hub.actMask w)) ∧ (((ws.getD 7 0).testBit 0 = false ∨ ws.getD 0 0 ≤ ws.getD 1 0 ∧ bits (ws.getD 3 0) 16 2 ≠ 3 ∧ bits (ws.getD 4 0) 2 2 ≠ 3 ∧ bits (ws.getD 2 0) 0 10 ≠ 0 ∧ (bits (ws.getD 3 0) 16 2 ≠ 0 ∨ ws.getD 1 0 ≤ 0x7FF)))) :=
  ⟨⟨w3, cpu, inv_of (by decide +kernel), grants_of (by decide +kernel), by decide +kernel⟩,
   ⟨w4, cpu, 1, [0,0,0,0,0,0,0,1], inv_of (by decide +kernel), grants_of (by decide +kernel), by decide +kernel⟩,
   ⟨w5, cpu, 0, [0,0,0,0,0,0,0,0], inv_of (by decide +kernel), grants_of (by decide +kernel), by decide +kernel⟩⟩

def w6 : State := node [0xD] []
def w7 : State := node [0xD] [(MGP.CLAIM_HELD,0,0,1)]
def w8 : State := node [0xD] [(MGP.CLAIM_HELD,0,0,1)]
def w9 : State := node [0xD] [(MGP.CLAIM_HELD,0,0,1),(MGP.CLAIM_OWNER,0,0,2)]
def w10 : State := node [0xD] [(MGP.CLAIM_HELD,0,0,1),(MGP.CLAIM_OWNER,0,0,3),(MGP.SESS_OPEN,0,0,1)]

theorem test_witness_ClaimBindsItsOwnerAlone :
    (∃ s : State, ∃ r : Req, s.Inv ∧ (s.hub.Grants r MGP.CLAIM_TAKE 0) ∧ (s.hub.up 0xD = true) ∧ (s.hub.on MGP.CLAIM_HELD = false)) ∧
    (∃ s : State, ∃ r : Req, s.Inv ∧ (s.hub.Grants r MGP.CLAIM_TAKE 0) ∧ (s.hub.on MGP.CLAIM_HELD = true)) ∧
    (∃ s : State, ∃ r : Req, s.Inv ∧ (s.hub.Grants r MGP.CLAIM_RELEASE 0) ∧ (s.hub.up 0xD = true) ∧ (s.hub.on MGP.CLAIM_HELD = true) ∧ (s.hub.rd MGP.CLAIM_OWNER = masterNum r.master)) ∧
    (∃ s : State, ∃ r : Req, s.Inv ∧ (s.hub.Grants r MGP.CLAIM_RELEASE 0) ∧ (s.hub.rd MGP.CLAIM_OWNER ≠ masterNum r.master)) ∧
    (∃ s : State, ∃ r : Req, s.Inv ∧ (s.hub.Grants r MGP.CTL_CLOSE 0) ∧ (s.hub.up 0xD = true) ∧ (s.hub.on MGP.SESS_OPEN = true) ∧ (s.hub.on MGP.CLAIM_HELD = true) ∧ (s.hub.rd MGP.CLAIM_OWNER = 3)) :=
  ⟨⟨w6, cpu, inv_of (by decide +kernel), grants_of (by decide +kernel), by decide +kernel⟩,
   ⟨w7, cpu, inv_of (by decide +kernel), grants_of (by decide +kernel), by decide +kernel⟩,
   ⟨w8, cpu, inv_of (by decide +kernel), grants_of (by decide +kernel), by decide +kernel⟩,
   ⟨w9, cpu, inv_of (by decide +kernel), grants_of (by decide +kernel), by decide +kernel⟩,
   ⟨w10, cpu, inv_of (by decide +kernel), grants_of (by decide +kernel), by decide +kernel⟩⟩

def w12 : State := node [] []
def w13 : State := node [] [(HDR.hLockSet,0x40,0,1)]
def w14 : State := node [] [(ACT.hLoadedSet,0,0,1)]
def w15 : State := node [] [(PDM.DOMON_ON,0,0,1)]

theorem test_witness_IgnoredWritesChangeNothing :
    (∃ s : State, ∃ r : Req, ∃ pg, ∃ off, s.Inv ∧ (s.hub.GrantsAt r (pg * 4096 + off)) ∧ (off < 4096) ∧ (pg < 0x400) ∧ (off ∉ [8, 0x10, 0x38, 0x3C]) ∧ ((∀ p ∈ fieldsAt pg off, p.1.acc = .ro ∨ p.1.acc = .rwl ∧ s.hub.on HDR.LOCK_LCFG pg = true)) ∧ ((pg, off) ∉ [(9, 0x104), (9, 0x108)])) ∧
    (∃ s : State, ∃ r : Req, ∃ pg, s.Inv ∧ (s.hub.GrantsAt r (pg * 4096 + 0x38)) ∧ (s.hub.on HDR.hLockSet pg = true)) ∧
    (∃ s : State, ∃ r : Req, s.Inv ∧ (s.hub.Grants r ACT.CFG_LOADED 0) ∧ (s.hub.on ACT.hLoadedSet = true)) ∧
    (∃ s : State, ∃ r : Req, ∃ pg, ∃ off, s.Inv ∧ (s.hub.reaches r.master = true) ∧ (s.hub.check r true (pg * 4096 + off) 4 = some .domainOff)) :=
  ⟨⟨w12, cpu, 5, 0x100, inv_of (by decide +kernel), grantsAt_of (by decide +kernel), by decide +kernel⟩,
   ⟨w13, cpu, 0x40, inv_of (by decide +kernel), grantsAt_of (by decide +kernel), by decide +kernel⟩,
   ⟨w14, cpu, inv_of (by decide +kernel), grants_of (by decide +kernel), by decide +kernel⟩,
   ⟨w15, cpu, 0x40, 0x100, inv_and (by decide +kernel)⟩⟩

def w16 : State := node [] []
def w17 : State := node [] [(HDR.hLockSet,0x40,0,1)]
def w18 : State := node [] [(HDR.LOCK_LCFG,0x2,0,1)]
def w19 : State := node [] [(HDR.LOCK_LHDR,0x40,0,1)]

theorem test_witness_LocksHoldAfterTheirFirstWrite :
    (∃ s : State, ∃ r : Req, ∃ pg, s.Inv ∧ (s.hub.GrantsAt r (pg * 4096 + 0x38)) ∧ (s.hub.on HDR.hLockSet pg = false)) ∧
    (∃ s : State, ∃ r : Req, ∃ pg, s.Inv ∧ (s.hub.GrantsAt r (pg * 4096 + 0x38)) ∧ (s.hub.on HDR.hLockSet pg = true)) ∧
    (∃ s : State, ∃ r : Req, ∃ pg, ∃ off, ∃ F, ∃ i, ∃ b, s.Inv ∧ (s.hub.GrantsAt r (pg * 4096 + off)) ∧ (off < 4096) ∧ (0x100 ≤ off) ∧ (s.hub.on HDR.LOCK_LCFG pg = true) ∧ ((F, i) ∈ fieldsAt pg off) ∧ (F.acc = .rwl) ∧ ((∀ q ∈ readsAs, q.1 = F → q.2.1 ≤ s.hub.rd F i b ∧ s.hub.rd F i b ≤ q.2.2.1))) ∧
    (∃ s : State, ∃ r : Req, ∃ pg, ∃ off, s.Inv ∧ (s.hub.GrantsAt r (pg * 4096 + off)) ∧ (off ∈ [0x14, 0x2C, 0x34]) ∧ (s.hub.on HDR.LOCK_LHDR pg = true)) :=
  ⟨⟨w16, cpu, 0x40, inv_of (by decide +kernel), grantsAt_of (by decide +kernel), by decide +kernel⟩,
   ⟨w17, cpu, 0x40, inv_of (by decide +kernel), grantsAt_of (by decide +kernel), by decide +kernel⟩,
   ⟨w18, cpu, 2, 0x124, FIL.HOLD_CT, 0, 0, inv_of (by decide +kernel), grantsAt_of (by decide +kernel), by decide +kernel⟩,
   ⟨w19, cpu, 0x40, 0x14, inv_of (by decide +kernel), grantsAt_of (by decide +kernel), by decide +kernel⟩⟩

def w21 : State := node [] [(FIL.HOLD_CT,0,0,5)]
def w23 : State := node [] [(FIL.HOLD_CT,0,0,5),(PDM.hDom,0,2,1)]

theorem test_witness_LocksOutlastSoftAndDomainResets :
    (∃ s : State, ∃ F : Fld, ∃ n : Nat, ∃ row, ∃ i, s.Inv ∧ (row ∈ pageIndex) ∧ ((F, n) ∈ pageFields row.first) ∧ ((F.acc = .rwl ∨ F.acc = .rwo)) ∧ (i < row.count) ∧ (secondPage (F.pg + i) = false)) ∧
    (∃ s : State, ∃ F : Fld, ∃ n : Nat, ∃ row, ∃ i, s.Inv ∧ (row ∈ pageIndex) ∧ ((F, n) ∈ pageFields row.first) ∧ ((F.acc = .rwl ∨ F.acc = .rwo)) ∧ (i < row.count) ∧ (secondPage (F.pg + i) = false)) :=
  ⟨⟨w21, FIL.HOLD_CT, 1, ⟨0x002, 1, 2, 0, none, false, true⟩, 0, inv_and (by decide +kernel)⟩,
   ⟨w23, FIL.HOLD_CT, 1, ⟨0x002, 1, 2, 0, none, false, true⟩, 0, inv_and (by decide +kernel)⟩⟩

def w26 : State := node [0x58] [(HDR.PSTAT_CPEND,0x58,0,1),(SCH.SHAPE_RATE,8,3,9)] (fun h => { h with shadow := [(SCH.SHAPE_RATE.key 8 3, 77)] })

theorem test_witness_SoftResetDiscardsPendingShadows :
    (∃ s : State, ∃ r : Req, ∃ pg : Nat, ∃ F : Fld, ∃ i, ∃ off, s.Inv ∧ (s.hub.GrantsAt r (pg * 4096 + 8)) ∧ (s.hub.on HDR.PSTAT_CPEND pg = true) ∧ ((F, i) ∈ fieldsAt pg off) ∧ (F.acc = .rws)) :=
  ⟨w26, cpu, 0x58, SCH.SHAPE_RATE, 8, 0x110, inv_of (by decide +kernel), grantsAt_of (by decide +kernel), by decide +kernel⟩

def w27 : State := node [] [(PDM.DOMON_ON,0,0,1)]
def w28 : State := node [] []
def w29 : State := node [] [(PDM.DOMON_ON,0,0,1),(HDR.EEN,0,0,4)]
def w30 : State := node [] [(PDM.DOMON_ON,0,0,1),(HDR.EEN,0,0,4)]

theorem test_witness_PoweredOffBlocksRefuseAccesses :
    (∃ s : State, ∃ r : Req, ∃ w : Bool, ∃ addr, s.Inv ∧ (addr % 4 = 0) ∧ ((pageRow? (addr / 4096)).isSome = true) ∧ (tableAt addr = none) ∧ (s.hub.fixedRefuses r w (addr / 4096) = false) ∧ (s.hub.actCheck r.master r.node 0 (addr / 4096) { write := w } = none) ∧ ((s.hub.domOn (pageDom (addr / 4096)) = false ∨ 0x100 ≤ addr % 4096 ∧ s.hub.clockRuns (addr / 4096) = false))) ∧
    (∃ s : State, ∃ r : Req, ∃ w : Bool, ∃ addr, s.Inv ∧ (addr % 4 = 0) ∧ ((pageRow? (addr / 4096)).isSome = true) ∧ (tableAt addr = none) ∧ (s.hub.fixedRefuses r w (addr / 4096) = false) ∧ (s.hub.actCheck r.master r.node 0 (addr / 4096) { write := w } = none) ∧ (s.hub.domOn (pageDom (addr / 4096)) = true) ∧ ((addr % 4096 < 0x100 ∨ s.hub.clockRuns (addr / 4096) = true))) ∧
    (∃ s : State, ∃ r : Req, ∃ addr : Nat, s.Inv ∧ (s.hub.reaches r.master = true) ∧ (s.hub.check r true addr 4 = some .domainOff)) ∧
    (∃ s : State, ∃ r : Req, ∃ addr : Nat, s.Inv ∧ (s.hub.reaches r.master = true) ∧ (s.hub.check r false addr r.size = some .domainOff)) :=
  ⟨⟨w27, cpu, true, 0x40100, inv_and (by decide +kernel)⟩,
   ⟨w28, cpu, true, 0x40100, inv_and (by decide +kernel)⟩,
   ⟨w29, cpu, 0x40100, inv_and (by decide +kernel)⟩,
   ⟨w30, cpu, 0x40100, inv_and (by decide +kernel)⟩⟩

def w31 : State := node [] [(PCI.MODE_MODE,0,0,1),(HDR.EEN,8,0,1)]

theorem test_witness_ViolationsAreRecorded :
    (∃ s : State, ∃ r : Req, ∃ addr : Nat, ∃ code, ∃ e, s.Inv ∧ (s.hub.reaches r.master = true) ∧ (s.hub.check r true addr 4 = some (.viol code e))) :=
  ⟨w31, ⟨.pcieHost, 0, 4⟩, 0x8104, 4, none, inv_and (by decide +kernel)⟩

def w32 : State := node [0x4A] []
def w33 : State := node [0x4A] []

theorem test_witness_PlainRegisterWritesStayInTheirPage :
    (∃ s : State, ∃ r : Req, ∃ pg, ∃ off, s.Inv ∧ (s.hub.GrantsAt r (pg * 4096 + off)) ∧ (pg ∈ [0x48, 0x4A, 0x4B]) ∧ (0x100 ≤ off) ∧ (off < 4096) ∧ (cntOffset pg ≠ some off)) ∧
    (∃ s : State, ∃ r : Req, ∃ pg, ∃ off, ∃ F, ∃ i, ∃ b, s.Inv ∧ (s.hub.GrantsAt r (pg * 4096 + off)) ∧ (pg ∈ [0x48, 0x4A, 0x4B]) ∧ (0x100 ≤ off) ∧ (off < 4096) ∧ (cntOffset pg ≠ some off) ∧ (s.hub.bankOf pg off = some b) ∧ ((F, i) ∈ fieldsAt pg off) ∧ (F.acc = .rw) ∧ ((∀ q ∈ readsAs, q.1 ≠ F))) :=
  ⟨⟨w32, cpu, 0x4A, 0x104, inv_of (by decide +kernel), grantsAt_of (by decide +kernel), by decide +kernel⟩,
   ⟨w33, cpu, 0x4A, 0x100, AGE.CSEL_CLASS, 0, 0, inv_of (by decide +kernel), grantsAt_of (by decide +kernel), by decide +kernel⟩⟩

end W24

end Sys2Proof.Tests
end

section
/-! PROOFS. What every command keeps: the canonical form of the node's tables, and all that lies outside the kinds of state that
`reach` gives the command. Each command's own lemma stands in Laws/Keeps; here they are brought together over `exec`. -/

namespace Sys2Proof.Machine

open Sys2Proof

variable {P : Hub → Prop}

/-- The kinds that a command may change, as the bits of a number: every kind where it may change the whole node. -/
def reachMask (c : Instr) : Nat :=
  bif (reach c).elem Kind.everything then 2 ^ 512 - 1 else kindMask (reach c)

theorem reachMask_of_everything_notMem {c : Instr} (h : Kind.everything ∉ reach c) : reachMask c = kindMask (reach c) := by
  have e : (reach c).elem Kind.everything = false := by simpa using h
  rw [reachMask, e, cond_false]

/-- A property that bears the kinds of `reach c` is kept by command `c`. -/
theorem exec_keeps {km : Nat} {c : Instr} (B : Hub.Bears km P) (wk : Sub (reachMask c) km) {s t : State}
    (e : exec c s = .next t) (H : P s.hub) : P t.hub := by
  unfold reachMask at wk
  cases c <;> dsimp only [reach] at wk
  case powerOnReset => exact execPowerOnReset_keeps B (wk.sub (by decide +kernel)) e H
  case porRelease => exact execPorRelease_keeps B (wk.sub (by decide +kernel)) e H
  case hrstN => exact execHrstN_keeps B (wk.sub (by decide +kernel)) e H
  case rstcmd => exact execRstcmd_keeps B (wk.sub (by decide +kernel)) e H
  case softReset => exact execSoftReset_keeps B (wk.sub (by decide +kernel)) e H
  case softResetDone => exact execSoftResetDone_keeps B (wk.sub (by decide +kernel)) e H
  case blockEnable => exact execBlockEnable_keeps B (wk.sub (by decide +kernel)) e H
  case registerWrite => exact execRegisterWrite_keeps B (wk.sub (by decide +kernel)) e H
  case lowWordRead => exact execLowWordRead_keeps B (wk.sub (by decide +kernel)) e H
  case tableLowestWordRead => exact execTableLowestWordRead_keeps B (wk.sub (by decide +kernel)) e H
  case tableWordWrite => exact execTableWordWrite_keeps B (wk.sub (by decide +kernel)) e H
  case tableEntryWrite => exact execTableEntryWrite_keeps B (wk.sub (by decide +kernel)) e H
  case tunnelEntryWrite => exact execTunnelEntryWrite_keeps B (wk.sub (by decide +kernel)) e H
  case slotEntryWrite => exact execSlotEntryWrite_keeps B (wk.sub (by decide +kernel)) e H
  case estatClear => exact execEstatClear_keeps B (wk.sub (by decide +kernel)) e H
  case commit => exact execCommit_keeps B (wk.sub (by decide +kernel)) e H
  case commitPoint => exact execCommitPoint_keeps B (wk.sub (by decide +kernel)) e H
  case txcoefCommit => exact execTxcoefCommit_keeps B (wk.sub (by decide +kernel)) e H
  case cntclr => exact execCntclr_keeps B (wk.sub (by decide +kernel)) e H
  case escalationExpiry => exact execEscalationExpiry_keeps B (wk.sub (by decide +kernel)) e H
  case vsetWrite => exact execVsetWrite_keeps B (wk.sub (by decide +kernel)) e H
  case vidStep => exact execVidStep_keeps B (wk.sub (by decide +kernel)) e H
  case hsrateUpdate => exact execHsrateUpdate_keeps B (wk.sub (by decide +kernel)) e H
  case vmeasUpdate => exact execVmeasUpdate_keeps B (wk.sub (by decide +kernel)) e H
  case tjUpdate => exact execTjUpdate_keeps B (wk.sub (by decide +kernel)) e H
  case filSnap => exact execFilSnap_keeps B (wk.sub (by decide +kernel)) e H
  case clockGateOff => exact execClockGateOff_keeps B (wk.sub (by decide +kernel)) e H
  case clockStop => exact execClockStop_keeps B (wk.sub (by decide +kernel)) e H
  case gateTimeout => exact execGateTimeout_keeps B (wk.sub (by decide +kernel)) e H
  case clockGateOn => exact execClockGateOn_keeps B (wk.sub (by decide +kernel)) e H
  case pllUnlock => exact execPllUnlock_keeps B (wk.sub (by decide +kernel)) e H
  case pllRelock => exact execPllRelock_keeps B (wk.sub (by decide +kernel)) e H
  case refLoss => exact execRefLoss_keeps B (wk.sub (by decide +kernel)) e H
  case xtalLoss => exact execXtalLoss_keeps B (wk.sub (by decide +kernel)) e H
  case signalDetect => exact execSignalDetect_keeps B (wk.sub (by decide +kernel)) e H
  case signalAbsent => exact execSignalAbsent_keeps B (wk.sub (by decide +kernel)) e H
  case trainTimeout => exact execTrainTimeout_keeps B (wk.sub (by decide +kernel)) e H
  case attemptEnd => exact execAttemptEnd_keeps B (wk.sub (by decide +kernel)) e H
  case presetStep => exact execPresetStep_keeps B (wk.sub (by decide +kernel)) e H
  case tsReceived => exact execTsReceived_keeps B (wk.sub (by decide +kernel)) e H
  case portFormTimer => exact execPortFormTimer_keeps B (wk.sub (by decide +kernel)) e H
  case skipReceived => exact execSkipReceived_keeps B (wk.sub (by decide +kernel)) e H
  case amReceived => exact execAmReceived_keeps B (wk.sub (by decide +kernel)) e H
  case blockLockLoss => exact execBlockLockLoss_keeps B (wk.sub (by decide +kernel)) e H
  case cdrLockLoss => exact execCdrLockLoss_keeps B (wk.sub (by decide +kernel)) e H
  case syncLimit => exact execSyncLimit_keeps B (wk.sub (by decide +kernel)) e H
  case retrain => exact execRetrain_keeps B (wk.sub (by decide +kernel)) e H
  case retireSend => exact execRetireSend_keeps B (wk.sub (by decide +kernel)) e H
  case retireReceived => exact execRetireReceived_keeps B (wk.sub (by decide +kernel)) e H
  case eidleSend => exact execEidleSend_keeps B (wk.sub (by decide +kernel)) e H
  case eidleReceived => exact execEidleReceived_keeps B (wk.sub (by decide +kernel)) e H
  case ftsReceived => exact execFtsReceived_keeps B (wk.sub (by decide +kernel)) e H
  case beaconSend => exact execBeaconSend_keeps B (wk.sub (by decide +kernel)) e H
  case beaconBurst => exact execBeaconBurst_keeps B (wk.sub (by decide +kernel)) e H
  case beaconDetect => exact execBeaconDetect_keeps B (wk.sub (by decide +kernel)) e H
  case linkFrameReceived => exact execLinkFrameReceived_keeps B (wk.sub (by decide +kernel)) e H
  case frameGroupSend => exact execFrameGroupSend_keeps B (wk.sub (by decide +kernel)) e H
  case replayTimeout => exact execReplayTimeout_keeps B (wk.sub (by decide +kernel)) e H
  case cap => exact execCap_keeps B (wk.sub (by decide +kernel)) e H
  case capack => exact execCapack_keeps B (wk.sub (by decide +kernel)) e H
  case capRepeat => exact execCapRepeat_keeps B (wk.sub (by decide +kernel)) e H
  case capxTimeout => exact execCapxTimeout_keeps B (wk.sub (by decide +kernel)) e H
  case keyingTimeout => exact execKeyingTimeout_keeps B (wk.sub (by decide +kernel)) e H
  case portDownCmd => exact execPortDownCmd_keeps B (wk.sub (by decide +kernel)) e H
  case mailboxSend => exact execMailboxSend_keeps B (wk.sub (by decide +kernel)) e H
  case mailbox => exact execMailbox_keeps B (wk.sub (by decide +kernel)) e H
  case widthRequest => exact execWidthRequest_keeps B (wk.sub (by decide +kernel)) e H
  case widthReq => exact execWidthReq_keeps B (wk.sub (by decide +kernel)) e H
  case widthAck => exact execWidthAck_keeps B (wk.sub (by decide +kernel)) e H
  case widthTimeout => exact execWidthTimeout_keeps B (wk.sub (by decide +kernel)) e H
  case pmRequest => exact execPmRequest_keeps B (wk.sub (by decide +kernel)) e H
  case pmReqSend => exact execPmReqSend_keeps B (wk.sub (by decide +kernel)) e H
  case pmReq => exact execPmReq_keeps B (wk.sub (by decide +kernel)) e H
  case pmAckSend => exact execPmAckSend_keeps B (wk.sub (by decide +kernel)) e H
  case pmAck => exact execPmAck_keeps B (wk.sub (by decide +kernel)) e H
  case pmTimeout => exact execPmTimeout_keeps B (wk.sub (by decide +kernel)) e H
  case pmExit => exact execPmExit_keeps B (wk.sub (by decide +kernel)) e H
  case timeMarker => exact execTimeMarker_keeps B (wk.sub (by decide +kernel)) e H
  case time => exact execTime_keeps B (wk.sub (by decide +kernel)) e H
  case cryptArm => exact execCryptArm_keeps B (wk.sub (by decide +kernel)) e H
  case key => exact execKey_keeps B (wk.sub (by decide +kernel)) e H
  case keyack _ _ phase _ => exact execKeyack_keeps (_phase := phase) B (wk.sub (by decide +kernel)) e H
  case cryptRoll => exact execCryptRoll_keeps B (wk.sub (by decide +kernel)) e H
  case tag => exact execTag_keeps B (wk.sub (by decide +kernel)) e H
  case cellIngress => exact execCellIngress_keeps B (wk.sub (by decide +kernel)) e H
  case egressSelect => exact execEgressSelect_keeps B (wk.sub (by decide +kernel)) e H
  case regRd => exact execRegRd_keeps B (wk.sub (by decide +kernel)) e H
  case regWr => exact execRegWr_keeps B (wk.sub (by decide +kernel)) e H
  case regRsp => exact execRegRsp_keeps B (wk.sub (by decide +kernel)) e H
  case rrqSend => exact execRrqSend_keeps B (wk.sub (by decide +kernel)) e H
  case rrqTimeout => exact execRrqTimeout_keeps B (wk.sub (by decide +kernel)) e H
  case tunSetup => exact execTunSetup_keeps B (wk.sub (by decide +kernel)) e H
  case tunOpen => exact execTunOpen_keeps B (wk.sub (by decide +kernel)) e H
  case tunClose => exact execTunClose_keeps B (wk.sub (by decide +kernel)) e H
  case tunAck _ _ _ _ tid idx => exact execTunAck_keeps (_tid := tid) (_idx := idx) B (wk.sub (by decide +kernel)) e H
  case tunnelMsgRetry => exact execTunnelMsgRetry_keeps B (wk.sub (by decide +kernel)) e H
  case pendingTimeout => exact execPendingTimeout_keeps B (wk.sub (by decide +kernel)) e H
  case drainingTimeout => exact execDrainingTimeout_keeps B (wk.sub (by decide +kernel)) e H
  case orphanRelease => exact execOrphanRelease_keeps B (wk.sub (by decide +kernel)) e H
  case routeGenSwitch => exact execRouteGenSwitch_keeps B (wk.sub (by decide +kernel)) e H
  case mergeInit => exact execMergeInit_keeps B (wk.sub (by decide +kernel)) e H
  case pathSilent => exact execPathSilent_keeps B (wk.sub (by decide +kernel)) e H
  case ageSweep => exact execAgeSweep_keeps B (wk.sub (by decide +kernel)) e H
  case scrubSlot => exact execScrubSlot_keeps B (wk.sub (by decide +kernel)) e H
  case scrubForcedEntry => exact execScrubForcedEntry_keeps B (wk.sub (by decide +kernel)) e H
  case bufferWipeDone => exact execBufferWipeDone_keeps B (wk.sub (by decide +kernel)) e H
  case qcfgWrite => exact execQcfgWrite_keeps B (wk.sub (by decide +kernel)) e H
  case reserve => exact execReserve_keeps B (wk.sub (by decide +kernel)) e H
  case caratCommit => exact execCaratCommit_keeps B (wk.sub (by decide +kernel)) e H
  case abort => exact execAbort_keeps B (wk.sub (by decide +kernel)) e H
  case decrease => exact execDecrease_keeps B (wk.sub (by decide +kernel)) e H
  case release => exact execRelease_keeps B (wk.sub (by decide +kernel)) e H
  case crtAck _ _ _ _ _ _ committed => exact execCrtAck_keeps (_committed := committed) B (wk.sub (by decide +kernel)) e H
  case caratMsgRetry => exact execCaratMsgRetry_keeps B (wk.sub (by decide +kernel)) e H
  case holdExpiry => exact execHoldExpiry_keeps B (wk.sub (by decide +kernel)) e H
  case wheelSlot => exact execWheelSlot_keeps B (wk.sub (by decide +kernel)) e H
  case wheelGranWrite => exact execWheelGranWrite_keeps B (wk.sub (by decide +kernel)) e H
  case meterInit => exact execMeterInit_keeps B (wk.sub (by decide +kernel)) e H
  case meterClear => exact execMeterClear_keeps B (wk.sub (by decide +kernel)) e H
  case neighbourSend => exact execNeighbourSend_keeps B (wk.sub (by decide +kernel)) e H
  case neighbour => exact execNeighbour_keeps B (wk.sub (by decide +kernel)) e H
  case crownDeclare => exact execCrownDeclare_keeps B (wk.sub (by decide +kernel)) e H
  case countSend => exact execCountSend_keeps B (wk.sub (by decide +kernel)) e H
  case count => exact execCount_keeps B (wk.sub (by decide +kernel)) e H
  case grant => exact execGrant_keeps B (wk.sub (by decide +kernel)) e H
  case crownHbSend => exact execCrownHbSend_keeps B (wk.sub (by decide +kernel)) e H
  case crownHb _ tok _ _ _ timeNs => exact execCrownHb_keeps (_tok := tok) (_timeNs := timeNs) B (wk.sub (by decide +kernel)) e H
  case hbTimeout => exact execHbTimeout_keeps B (wk.sub (by decide +kernel)) e H
  case nodeReady _ tok _ => exact execNodeReady_keeps (_tok := tok) B (wk.sub (by decide +kernel)) e H
  case linkEvent _ tok _ _ _ tid partnerId _ => exact execLinkEvent_keeps (_tok := tok) (_tid := tid) (_partnerId := partnerId) B (wk.sub (by decide +kernel)) e H
  case standby => exact execStandby_keeps B (wk.sub (by decide +kernel)) e H
  case routeSet => exact execRouteSet_keeps B (wk.sub (by decide +kernel)) e H
  case idBlock => exact execIdBlock_keeps B (wk.sub (by decide +kernel)) e H
  case ledger => exact execLedger_keeps B (wk.sub (by decide +kernel)) e H
  case casAck _ _ _ _ epoch => exact execCasAck_keeps (_epoch := epoch) B (wk.sub (by decide +kernel)) e H
  case rediscover => exact execRediscover_keeps B (wk.sub (by decide +kernel)) e H
  case yield => exact execYield_keeps B (wk.sub (by decide +kernel)) e H
  case unreconciledCheck => exact execUnreconciledCheck_keeps B (wk.sub (by decide +kernel)) e H
  case ringEnable => exact execRingEnable_keeps B (wk.sub (by decide +kernel)) e H
  case ringFillDone => exact execRingFillDone_keeps B (wk.sub (by decide +kernel)) e H
  case captureFrameStart => exact execCaptureFrameStart_keeps B (wk.sub (by decide +kernel)) e H
  case captureCommit => exact execCaptureCommit_keeps B (wk.sub (by decide +kernel)) e H
  case captureAbort => exact execCaptureAbort_keeps B (wk.sub (by decide +kernel)) e H
  case hostPixelWrite => exact execHostPixelWrite_keeps B (wk.sub (by decide +kernel)) e H
  case fwEnd => exact execFwEnd_keeps B (wk.sub (by decide +kernel)) e H
  case fwAbort => exact execFwAbort_keeps B (wk.sub (by decide +kernel)) e H
  case signaturesReady => exact execSignaturesReady_keeps B (wk.sub (by decide +kernel)) e H
  case catchupDone => exact execCatchupDone_keeps B (wk.sub (by decide +kernel)) e H
  case streamSendFrame => exact execStreamSendFrame_keeps B (wk.sub (by decide +kernel)) e H
  case repair => exact execRepair_keeps B (wk.sub (by decide +kernel)) e H
  case sendFull => exact execSendFull_keeps B (wk.sub (by decide +kernel)) e H
  case tileReceived => exact execTileReceived_keeps B (wk.sub (by decide +kernel)) e H
  case endReceived => exact execEndReceived_keeps B (wk.sub (by decide +kernel)) e H
  case gapPop => exact execGapPop_keeps B (wk.sub (by decide +kernel)) e H
  case vblankFlip => exact execVblankFlip_keeps B (wk.sub (by decide +kernel)) e H
  case activeEnd => exact execActiveEnd_keeps B (wk.sub (by decide +kernel)) e H
  case underrun => exact execUnderrun_keeps B (wk.sub (by decide +kernel)) e H
  case headPllLock => exact execHeadPllLock_keeps B (wk.sub (by decide +kernel)) e H
  case headLockTimeout => exact execHeadLockTimeout_keeps B (wk.sub (by decide +kernel)) e H
  case dpTrain => exact execDpTrain_keeps B (wk.sub (by decide +kernel)) e H
  case dpTrainDone => exact execDpTrainDone_keeps B (wk.sub (by decide +kernel)) e H
  case dpDown => exact execDpDown_keeps B (wk.sub (by decide +kernel)) e H
  case hpdIrq => exact execHpdIrq_keeps B (wk.sub (by decide +kernel)) e H
  case hpdLoss => exact execHpdLoss_keeps B (wk.sub (by decide +kernel)) e H
  case hpdArrive => exact execHpdArrive_keeps B (wk.sub (by decide +kernel)) e H
  case auxTransaction => exact execAuxTransaction_keeps B (wk.sub (by decide +kernel)) e H
  case auxDone => exact execAuxDone_keeps B (wk.sub (by decide +kernel)) e H
  case outboundWrite => exact execOutboundWrite_keeps B (wk.sub (by decide +kernel)) e H
  case outboundRead => exact execOutboundRead_keeps B (wk.sub (by decide +kernel)) e H
  case mwr => exact execMwr_keeps B (wk.sub (by decide +kernel)) e H
  case postedWriteIssue => exact execPostedWriteIssue_keeps B (wk.sub (by decide +kernel)) e H
  case mrd => exact execMrd_keeps B (wk.sub (by decide +kernel)) e H
  case readIssue => exact execReadIssue_keeps B (wk.sub (by decide +kernel)) e H
  case pwaitTimeout => exact execPwaitTimeout_keeps B (wk.sub (by decide +kernel)) e H
  case busCompletion => exact execBusCompletion_keeps B (wk.sub (by decide +kernel)) e H
  case cpld => exact execCpld_keeps B (wk.sub (by decide +kernel)) e H
  case cpl => exact execCpl_keeps B (wk.sub (by decide +kernel)) e H
  case perr => exact execPerr_keeps B (wk.sub (by decide +kernel)) e H
  case completionTimeout => exact execCompletionTimeout_keeps B (wk.sub (by decide +kernel)) e H
  case quarantineEnd => exact execQuarantineEnd_keeps B (wk.sub (by decide +kernel)) e H
  case sidebandPoll => exact execSidebandPoll_keeps B (wk.sub (by decide +kernel)) e H
  case sbrd => exact execSbrd_keeps B (wk.sub (by decide +kernel)) e H
  case sbrsp tid _ _ _ => exact execSbrsp_keeps (_tid := tid) B (wk.sub (by decide +kernel)) e H
  case msiCatch => exact execMsiCatch_keeps B (wk.sub (by decide +kernel)) e H
  case functionLevelReset => exact execFunctionLevelReset_keeps B (wk.sub (by decide +kernel)) e H
  case pcieLinkChange => exact execPcieLinkChange_keeps B (wk.sub (by decide +kernel)) e H
  case msixSend => exact execMsixSend_keeps B (wk.sub (by decide +kernel)) e H
  case pfpop => exact execPfpop_keeps B (wk.sub (by decide +kernel)) e H
  case memEnable => exact execMemEnable_keeps B (wk.sub (by decide +kernel)) e H
  case memTrain => exact execMemTrain_keeps B (wk.sub (by decide +kernel)) e H
  case memTrainDone => exact execMemTrainDone_keeps B (wk.sub (by decide +kernel)) e H
  case memWipeDone => exact execMemWipeDone_keeps B (wk.sub (by decide +kernel)) e H
  case memPromote => exact execMemPromote_keeps B (wk.sub (by decide +kernel)) e H
  case ethFrameRx => exact execEthFrameRx_keeps B (wk.sub (by decide +kernel)) e H
  case ethFrameTx => exact execEthFrameTx_keeps B (wk.sub (by decide +kernel)) e H
  case vmapWrite => exact execVmapWrite_keeps B (wk.sub (by decide +kernel)) e H
  case ethLinkChange => exact execEthLinkChange_keeps B (wk.sub (by decide +kernel)) e H
  case lumeFrameRx => exact execLumeFrameRx_keeps B (wk.sub (by decide +kernel)) e H
  case lumeFrameTx => exact execLumeFrameTx_keeps B (wk.sub (by decide +kernel)) e H
  case portMapWrite => exact execPortMapWrite_keeps B (wk.sub (by decide +kernel)) e H
  case sceneEntry => exact execSceneEntry_keeps B (wk.sub (by decide +kernel)) e H
  case sceneRepeat => exact execSceneRepeat_keeps B (wk.sub (by decide +kernel)) e H
  case t1lLinkChange => exact execT1lLinkChange_keeps B (wk.sub (by decide +kernel)) e H
  case upstreamChange => exact execUpstreamChange_keeps B (wk.sub (by decide +kernel)) e H
  case upstreamAttach => exact execUpstreamAttach_keeps B (wk.sub (by decide +kernel)) e H
  case usbOvercurrent => exact execUsbOvercurrent_keeps B (wk.sub (by decide +kernel)) e H
  case hubSuspend => exact execHubSuspend_keeps B (wk.sub (by decide +kernel)) e H
  case doorbell => exact execDoorbell_keeps B (wk.sub (by decide +kernel)) e H
  case req => exact execReq_keeps B (wk.sub (by decide +kernel)) e H
  case nakRetry => exact execNakRetry_keeps B (wk.sub (by decide +kernel)) e H
  case usbTransferTimeout => exact execUsbTransferTimeout_keeps B (wk.sub (by decide +kernel)) e H
  case usbTransferDone => exact execUsbTransferDone_keeps B (wk.sub (by decide +kernel)) e H
  case cplReceived => exact execCplReceived_keeps B (wk.sub (by decide +kernel)) e H
  case cancel => exact execCancel_keeps B (wk.sub (by decide +kernel)) e H
  case cancelReceived => exact execCancelReceived_keeps B (wk.sub (by decide +kernel)) e H
  case busctl => exact execBusctl_keeps B (wk.sub (by decide +kernel)) e H
  case busctlReceived => exact execBusctlReceived_keeps B (wk.sub (by decide +kernel)) e H
  case event => exact execEvent_keeps B (wk.sub (by decide +kernel)) e H
  case alive => exact execAlive_keeps B (wk.sub (by decide +kernel)) e H
  case agentLost => exact execAgentLost_keeps B (wk.sub (by decide +kernel)) e H
  case remoteWake => exact execRemoteWake_keeps B (wk.sub (by decide +kernel)) e H
  case setup => exact execSetup_keeps B (wk.sub (by decide +kernel)) e H
  case ep0Go => exact execEp0Go_keeps B (wk.sub (by decide +kernel)) e H
  case ep0Stall => exact execEp0Stall_keeps B (wk.sub (by decide +kernel)) e H
  case statusGo => exact execStatusGo_keeps B (wk.sub (by decide +kernel)) e H
  case ep0OutPacket => exact execEp0OutPacket_keeps B (wk.sub (by decide +kernel)) e H
  case ep1Ingo => exact execEp1Ingo_keeps B (wk.sub (by decide +kernel)) e H
  case ep1OutPacket => exact execEp1OutPacket_keeps B (wk.sub (by decide +kernel)) e H
  case ep2Go => exact execEp2Go_keeps B (wk.sub (by decide +kernel)) e H
  case wakeReq => exact execWakeReq_keeps B (wk.sub (by decide +kernel)) e H
  case usbBusReset => exact execUsbBusReset_keeps B (wk.sub (by decide +kernel)) e H
  case hostResume => exact execHostResume_keeps B (wk.sub (by decide +kernel)) e H
  case detection => exact execDetection_keeps B (wk.sub (by decide +kernel)) e H
  case claspClosure => exact execClaspClosure_keeps B (wk.sub (by decide +kernel)) e H
  case claspTrip => exact execClaspTrip_keeps B (wk.sub (by decide +kernel)) e H
  case offer _ _ vbus _ _ => exact execOffer_keeps (_vbus := vbus) B (wk.sub (by decide +kernel)) e H
  case request => exact execRequest_keeps B (wk.sub (by decide +kernel)) e H
  case accept => exact execAccept_keeps B (wk.sub (by decide +kernel)) e H
  case reject _ _ reason => exact execReject_keeps (_reason := reason) B (wk.sub (by decide +kernel)) e H
  case ready => exact execReady_keeps B (wk.sub (by decide +kernel)) e H
  case limitLower => exact execLimitLower_keeps B (wk.sub (by decide +kernel)) e H
  case status _ _ vbus vcable icable _ _ => exact execStatus_keeps (_vbus := vbus) (_vcable := vcable) (_icable := icable) B (wk.sub (by decide +kernel)) e H
  case statusReq => exact execStatusReq_keeps B (wk.sub (by decide +kernel)) e H
  case swapReq => exact execSwapReq_keeps B (wk.sub (by decide +kernel)) e H
  case swapAck => exact execSwapAck_keeps B (wk.sub (by decide +kernel)) e H
  case swapNak _ _ reason => exact execSwapNak_keeps (_reason := reason) B (wk.sub (by decide +kernel)) e H
  case srcOn => exact execSrcOn_keeps B (wk.sub (by decide +kernel)) e H
  case srcOff => exact execSrcOff_keeps B (wk.sub (by decide +kernel)) e H
  case claspAck => exact execClaspAck_keeps B (wk.sub (by decide +kernel)) e H
  case claspRetry => exact execClaspRetry_keeps B (wk.sub (by decide +kernel)) e H
  case tSwapExpiry => exact execTSwapExpiry_keeps B (wk.sub (by decide +kernel)) e H
  case claspSwap => exact execClaspSwap_keeps B (wk.sub (by decide +kernel)) e H
  case reneg => exact execReneg_keeps B (wk.sub (by decide +kernel)) e H
  case contractOpen => exact execContractOpen_keeps B (wk.sub (by decide +kernel)) e H
  case sfAssert => exact execSfAssert_keeps B (wk.sub (by decide +kernel)) e H
  case fastSwap => exact execFastSwap_keeps B (wk.sub (by decide +kernel)) e H
  case sfHandover => exact execSfHandover_keeps B (wk.sub (by decide +kernel)) e H
  case claspHardReset => exact execClaspHardReset_keeps B (wk.sub (by decide +kernel)) e H
  case hardResetElect => exact execHardResetElect_keeps B (wk.sub (by decide +kernel)) e H
  case bleedTimeout => exact execBleedTimeout_keeps B (wk.sub (by decide +kernel)) e H
  case typecAttach => exact execTypecAttach_keeps B (wk.sub (by decide +kernel)) e H
  case fastRoleSwap => exact execFastRoleSwap_keeps B (wk.sub (by decide +kernel)) e H
  case dpConfigure => exact execDpConfigure_keeps B (wk.sub (by decide +kernel)) e H
  case pdHardreset => exact execPdHardreset_keeps B (wk.sub (by decide +kernel)) e H
  case typecDetach => exact execTypecDetach_keeps B (wk.sub (by decide +kernel)) e H
  case hpdChange => exact execHpdChange_keeps B (wk.sub (by decide +kernel)) e H
  case lpoDetect => exact execLpoDetect_keeps B (wk.sub (by decide +kernel)) e H
  case detectRepeat => exact execDetectRepeat_keeps B (wk.sub (by decide +kernel)) e H
  case classify => exact execClassify_keeps B (wk.sub (by decide +kernel)) e H
  case rampDone => exact execRampDone_keeps B (wk.sub (by decide +kernel)) e H
  case rampTimeout => exact execRampTimeout_keeps B (wk.sub (by decide +kernel)) e H
  case currentLimit => exact execCurrentLimit_keeps B (wk.sub (by decide +kernel)) e H
  case faultTimerExpiry => exact execFaultTimerExpiry_keeps B (wk.sub (by decide +kernel)) e H
  case hardShort => exact execHardShort_keeps B (wk.sub (by decide +kernel)) e H
  case pgHoldExpiry => exact execPgHoldExpiry_keeps B (wk.sub (by decide +kernel)) e H
  case overloadCheck => exact execOverloadCheck_keeps B (wk.sub (by decide +kernel)) e H
  case fuseLimitWrite => exact execFuseLimitWrite_keeps B (wk.sub (by decide +kernel)) e H
  case busUndervolt => exact execBusUndervolt_keeps B (wk.sub (by decide +kernel)) e H
  case busOvervolt => exact execBusOvervolt_keeps B (wk.sub (by decide +kernel)) e H
  case busOvClear => exact execBusOvClear_keeps B (wk.sub (by decide +kernel)) e H
  case busShed => exact execBusShed_keeps B (wk.sub (by decide +kernel)) e H
  case shedClear => exact execShedClear_keeps B (wk.sub (by decide +kernel)) e H
  case emergencyChange => exact execEmergencyChange_keeps B (wk.sub (by decide +kernel)) e H
  case waitExit => exact execWaitExit_keeps B (wk.sub (by decide +kernel)) e H
  case energyClear => exact execEnergyClear_keeps B (wk.sub (by decide +kernel)) e H
  case voteWrite => exact execVoteWrite_keeps B (wk.sub (by decide +kernel)) e H
  case hardwareVote => exact execHardwareVote_keeps B (wk.sub (by decide +kernel)) e H
  case drainTimeout => exact execDrainTimeout_keeps B (wk.sub (by decide +kernel)) e H
  case domainReset => exact execDomainReset_keeps B (wk.sub (by decide +kernel)) e H
  case domainReady => exact execDomainReady_keeps B (wk.sub (by decide +kernel)) e H
  case domainFail => exact execDomainFail_keeps B (wk.sub (by decide +kernel)) e H
  case stateRequest => exact execStateRequest_keeps B (wk.sub (by decide +kernel)) e H
  case transitionDone => exact execTransitionDone_keeps B (wk.sub (by decide +kernel)) e H
  case mainPgRise => exact execMainPgRise_keeps B (wk.sub (by decide +kernel)) e H
  case mainPgLoss => exact execMainPgLoss_keeps B (wk.sub (by decide +kernel)) e H
  case corePgLoss => exact execCorePgLoss_keeps B (wk.sub (by decide +kernel)) e H
  case thermalTrip => exact execThermalTrip_keeps B (wk.sub (by decide +kernel)) e H
  case aonBrownout => exact execAonBrownout_keeps B (wk.sub (by decide +kernel)) e H
  case mgpAddressMatch => exact execMgpAddressMatch_keeps B (wk.sub (by decide +kernel)) e H
  case gpioWake => exact execGpioWake_keeps B (wk.sub (by decide +kernel)) e H
  case aonTimerMatch => exact execAonTimerMatch_keeps B (wk.sub (by decide +kernel)) e H
  case usbResumeDetect => exact execUsbResumeDetect_keeps B (wk.sub (by decide +kernel)) e H
  case bootStart => exact execBootStart_keeps B (wk.sub (by decide +kernel)) e H
  case keyGen => exact execKeyGen_keeps B (wk.sub (by decide +kernel)) e H
  case derive => exact execDerive_keeps B (wk.sub (by decide +kernel)) e H
  case ecdhGen => exact execEcdhGen_keeps B (wk.sub (by decide +kernel)) e H
  case ecdh => exact execEcdh_keeps B (wk.sub (by decide +kernel)) e H
  case unwrap => exact execUnwrap_keeps B (wk.sub (by decide +kernel)) e H
  case keyClear => exact execKeyClear_keeps B (wk.sub (by decide +kernel)) e H
  case erase => exact execErase_keeps B (wk.sub (by decide +kernel)) e H
  case keyOpDone => exact execKeyOpDone_keeps B (wk.sub (by decide +kernel)) e H
  case slotLock => exact execSlotLock_keeps B (wk.sub (by decide +kernel)) e H
  case measurementExtend => exact execMeasurementExtend_keeps B (wk.sub (by decide +kernel)) e H
  case updateStart => exact execUpdateStart_keeps B (wk.sub (by decide +kernel)) e H
  case blockDataWrite => exact execBlockDataWrite_keeps B (wk.sub (by decide +kernel)) e H
  case blockLand => exact execBlockLand_keeps B (wk.sub (by decide +kernel)) e H
  case blockLandDone => exact execBlockLandDone_keeps B (wk.sub (by decide +kernel)) e H
  case verify => exact execVerify_keeps B (wk.sub (by decide +kernel)) e H
  case verifyDone => exact execVerifyDone_keeps B (wk.sub (by decide +kernel)) e H
  case activate => exact execActivate_keeps B (wk.sub (by decide +kernel)) e H
  case updateAbort => exact execUpdateAbort_keeps B (wk.sub (by decide +kernel)) e H
  case svncommit => exact execSvncommit_keeps B (wk.sub (by decide +kernel)) e H
  case bundleDecrypt => exact execBundleDecrypt_keeps B (wk.sub (by decide +kernel)) e H
  case bundleDecryptDone => exact execBundleDecryptDone_keeps B (wk.sub (by decide +kernel)) e H
  case bdecClr => exact execBdecClr_keeps B (wk.sub (by decide +kernel)) e H
  case accessEntryWrite => exact execAccessEntryWrite_keeps B (wk.sub (by decide +kernel)) e H
  case accessSync => exact execAccessSync_keeps B (wk.sub (by decide +kernel)) e H
  case debugUnlock => exact execDebugUnlock_keeps B (wk.sub (by decide +kernel)) e H
  case relock => exact execRelock_keeps B (wk.sub (by decide +kernel)) e H
  case faultInject => exact execFaultInject_keeps B (wk.sub (by decide +kernel)) e H
  case debugAccess => exact execDebugAccess_keeps B (wk.sub (by decide +kernel)) e H
  case lifeCycleChange => exact execLifeCycleChange_keeps B (wk.sub (by decide +kernel)) e H
  case lifeCycleWipeDone => exact execLifeCycleWipeDone_keeps B (wk.sub (by decide +kernel)) e H
  case locketWrite => exact execLocketWrite_keeps B (wk.sub (by decide +kernel)) e H
  case locketFirmwareRecord => exact execLocketFirmwareRecord_keeps B (wk.sub (by decide +kernel)) e H
  case locketRead => exact execLocketRead_keeps B (wk.sub (by decide +kernel)) e H
  case markclr => exact execMarkclr_keeps B (wk.sub (by decide +kernel)) e H
  case telemetrySnapshot => exact execTelemetrySnapshot_keeps B (wk.sub (by decide +kernel)) e H
  case telemetryPeriod => exact execTelemetryPeriod_keeps B (wk.sub (by decide +kernel)) e H
  case telSnap => exact execTelSnap_keeps B (wk.sub (by decide +kernel)) e H
  case lktRd => exact execLktRd_keeps B (wk.sub (by decide +kernel)) e H
  case ident => exact execIdent_keeps B (wk.sub (by decide +kernel)) e H
  case getkey => exact execGetkey_keeps B (wk.sub (by decide +kernel)) e H
  case openSess => exact execOpenSess_keeps B (wk.sub (by decide +kernel)) e H
  case auth => exact execAuth_keeps B (wk.sub (by decide +kernel)) e H
  case authGo => exact execAuthGo_keeps B (wk.sub (by decide +kernel)) e H
  case close => exact execClose_keeps B (wk.sub (by decide +kernel)) e H
  case rd => exact execRd_keeps B (wk.sub (by decide +kernel)) e H
  case wr => exact execWr_keeps B (wk.sub (by decide +kernel)) e H
  case wrf => exact execWrf_keeps B (wk.sub (by decide +kernel)) e H
  case responseRead => exact execResponseRead_keeps B (wk.sub (by decide +kernel)) e H
  case smbusTimeout => exact execSmbusTimeout_keeps B (wk.sub (by decide +kernel)) e H
  case mcpuOpTimeout => exact execMcpuOpTimeout_keeps B (wk.sub (by decide +kernel)) e H
  case sessionIdle => exact execSessionIdle_keeps B (wk.sub (by decide +kernel)) e H
  case sessionClose => exact execSessionClose_keeps B (wk.sub (by decide +kernel)) e H
  case authAccept => exact execAuthAccept_keeps B (wk.sub (by decide +kernel)) e H
  case authReject => exact execAuthReject_keeps B (wk.sub (by decide +kernel)) e H
  case claimTake => exact execClaimTake_keeps B (wk.sub (by decide +kernel)) e H
  case claimRelease => exact execClaimRelease_keeps B (wk.sub (by decide +kernel)) e H
  case nodeTimeSet => exact execNodeTimeSet_keeps B (wk.sub (by decide +kernel)) e H
  case ballFunctionWrite => exact execBallFunctionWrite_keeps B (wk.sub (by decide +kernel)) e H
  case timerClaim => exact execTimerClaim_keeps B (wk.sub (by decide +kernel)) e H
  case timerRelease => exact execTimerRelease_keeps B (wk.sub (by decide +kernel)) e H
  case timerExpiry => exact execTimerExpiry_keeps B (wk.sub (by decide +kernel)) e H
  case timerCapture => exact execTimerCapture_keeps B (wk.sub (by decide +kernel)) e H
  case xtalStart => exact execXtalStart_keeps B (wk.sub (by decide +kernel)) e H
  case pllLock => exact execPllLock_keeps B (wk.sub (by decide +kernel)) e H
  case captureLinkTrain => exact execCaptureLinkTrain_keeps B (wk.sub (by decide +kernel)) e H
  case pcieMessage => exact execPcieMessage_keeps B (wk.sub (by decide +kernel)) e H
  case hostConfigWrite => exact execHostConfigWrite_keeps B (wk.sub (by decide +kernel)) e H
  case perstChange => exact execPerstChange_keeps B (wk.sub (by decide +kernel)) e H
  case mr4Read => exact execMr4Read_keeps B (wk.sub (by decide +kernel)) e H
  case wckTracking => exact execWckTracking_keeps B (wk.sub (by decide +kernel)) e H
  case pdMessage => exact execPdMessage_keeps B (wk.sub (by decide +kernel)) e H
  case vbusFault => exact execVbusFault_keeps B (wk.sub (by decide +kernel)) e H
  case localSupplyChange => exact execLocalSupplyChange_keeps B (wk.sub (by decide +kernel)) e H
  case hubRequest => exact execHubRequest_keeps B (wk.sub (by decide +kernel)) e H
  case deviceConnect => exact execDeviceConnect_keeps B (wk.sub (by decide +kernel)) e H
  case inTransaction => exact execInTransaction_keeps B (wk.sub (by decide +kernel)) e H
  -- What is left are SEAL and UNSEAL: Lean reserves both words, so no `case` can name them.
  · exact execSeal_keeps B (wk.sub (by decide +kernel)) e H
  · exact execUnseal_keeps B (wk.sub (by decide +kernel)) e H

/-- No command is refused or faults, and none touches the queue. -/
theorem exec_next (c : Instr) (s : State) : ∃ t, exec c s = .next t ∧ t.pending = s.pending := by
  cases c <;> exact ⟨_, rfl, rfl⟩

theorem exec_inv {c : Instr} {s t : State} (e : exec c s = .next t) (I : s.Inv) : t.Inv :=
  exec_keeps (bears_canon (reachMask c)) (Sub.refl _) e I

theorem testBit_kindMask_of_notMem {ks : List Nat} {k : Nat} (h : k ∉ ks) : (kindMask ks).testBit k = false := by
  rw [testBit_kindMask]
  exact decide_eq_false h

theorem exec_same {c : Instr} {s t : State} (e : exec c s = .next t) (z : Kind.everything ∉ reach c) :
    Hub.Same (kindMask (reach c)) s.hub t.hub :=
  exec_keeps (bears_same (kindMask (reach c)) s.hub) (reachMask_of_everything_notMem z ▸ Sub.refl _) e
    (fun _ => Hub.Same.refl _ _) (testBit_kindMask_of_notMem z)

theorem exec_sameBut {c : Instr} {s t : State} (e : exec c s = .next t) : Hub.SameBut (reach c) s.hub t.hub := by
  by_cases z : Kind.everything ∈ reach c
  · exact fun n => absurd z n
  · exact Hub.Same.sameBut fun _ => exec_same e z

theorem exec_rd {c : Instr} {s t : State} (e : exec c s = .next t) (z : Kind.everything ∉ reach c) (a : Kind.anyRegister ∉ reach c)
    {F : Fld} {n i b : Nat} (hF : F.kind = n) (k : n ∉ reach c) : t.hub.rd F i b = s.hub.rd F i b :=
  (exec_same e z).rd (testBit_kindMask_of_notMem a) F i b (testBit_kindMask_of_notMem (hF ▸ k))

/-- The kind of a register that a command has moved stands in its `reach`, where that does not name every register. -/
theorem mem_reach_of_rd_ne {c : Instr} {s t : State} (e : exec c s = .next t) (z : Kind.everything ∉ reach c)
    (a : Kind.anyRegister ∉ reach c) {F : Fld} {n i b : Nat} (hF : F.kind = n) (m : t.hub.rd F i b ≠ s.hub.rd F i b) :
    n ∈ reach c := not_not.1 fun k => m (exec_rd e z a hF k)

theorem mem_reach_of_ne {α : Type} {c : Instr} {n : Nat} {x y : α} (same : (kindMask (reach c)).testBit n = false → x = y)
    (m : x ≠ y) : n ∈ reach c := not_not.1 fun k => m (same (testBit_kindMask_of_notMem k))

/-! ### The kinds that `reach` gives to few commands -/

theorem lock_notMem_reach (c : Instr) : Kind.lock ∉ reach c := by
  cases c <;> dsimp only [reach] <;> decide

theorem lifeCycle_notMem_reach (c : Instr) : Kind.lifeCycle ∉ reach c := by
  cases c <;> dsimp only [reach] <;> decide

theorem svncommit_or_decrypt_of_fuses {c : Instr} (h : Kind.fuses ∈ reach c ∧ Kind.anyRegister ∉ reach c) :
    (∃ r, c = .svncommit r) ∨ c = .bundleDecryptDone := by
  cases c
  case svncommit r => exact .inl ⟨r, rfl⟩
  case bundleDecryptDone => exact .inr rfl
  all_goals exact absurd h (by dsimp only [reach]; decide)

theorem unlock_of_debugState {c : Instr} (h : Kind.debugState ∈ reach c ∧ Kind.anyRegister ∉ reach c) :
    ∃ r, c = .debugUnlock r ∨ c = .relock r := by
  cases c
  case debugUnlock r => exact ⟨r, .inl rfl⟩
  case relock r => exact ⟨r, .inr rfl⟩
  all_goals exact absurd h (by dsimp only [reach]; decide)

theorem decrypt_or_boot_of_signers {c : Instr} (h : Kind.signers ∈ reach c) :
    c = .bundleDecryptDone ∨ ∃ ok corr, c = .bootStart ok corr := by
  cases c
  case bundleDecryptDone => exact .inl rfl
  case bootStart ok corr => exact .inr ⟨ok, corr, rfl⟩
  all_goals exact absurd h (by dsimp only [reach]; decide)

theorem land_or_boot_of_flash {c : Instr} (h : Kind.flash ∈ reach c) :
    (∃ ok, c = .blockLandDone ok) ∨ ∃ ok corr, c = .bootStart ok corr := by
  cases c
  case blockLandDone ok => exact .inl ⟨ok, rfl⟩
  case bootStart ok corr => exact .inr ⟨ok, corr, rfl⟩
  all_goals exact absurd h (by dsimp only [reach]; decide)

theorem locketWrite_or_boot_of_lkRing {c : Instr} (h : Kind.lkRing ∈ reach c) :
    (∃ ok, c = .locketWrite ok) ∨ ∃ ok corr, c = .bootStart ok corr := by
  cases c
  case locketWrite ok => exact .inl ⟨ok, rfl⟩
  case bootStart ok corr => exact .inr ⟨ok, corr, rfl⟩
  all_goals exact absurd h (by dsimp only [reach]; decide)

theorem keyOp_or_boot_of_recs {c : Instr} (h : Kind.recs ∈ reach c) :
    (∃ ok, c = .keyOpDone ok) ∨ ∃ ok corr, c = .bootStart ok corr := by
  cases c
  case keyOpDone ok => exact .inl ⟨ok, rfl⟩
  case bootStart ok corr => exact .inr ⟨ok, corr, rfl⟩
  all_goals exact absurd h (by dsimp only [reach]; decide)

/-! ### The fuse count of the SVN -/

theorem rd_when_of_rd {h : Hub} {c : Bool} {f : Hub → Hub} {F : Fld} {i b : Nat} (e : (f h).rd F i b = h.rd F i b) :
    (h.when c f).rd F i b = h.rd F i b := by
  cases c
  · rfl
  · exact e

theorem rd_blowOem_fuseSvn (h : Hub) (content : Bytes) : (h.blowOem content).rd KEY.FUSE_SVN = h.rd KEY.FUSE_SVN :=
  rd_when_of_rd (rd_wrBit_place (by decide))

/-- A decryption that ends writes the engine's own registers, and of the fuses the mark of an OEM key alone (R637). -/
theorem rd_bdecDone_fuseSvn (h : Hub) : (h.bdecDone).rd KEY.FUSE_SVN = h.rd KEY.FUSE_SVN := by
  have fail (c : Nat) : ((({ h with clear := [] } : Hub).wr UPD.BDEC_DONE 3 |>.wr UPD.BDEC_CODE c).refreshClear).rd KEY.FUSE_SVN =
      h.rd KEY.FUSE_SVN := by
    rw [Hub.refreshClear_rd (by decide), rd_wr_place (by decide), rd_wr_place (by decide), Hub.rd_with_clear]
  unfold Hub.bdecDone
  dsimp only
  split
  · exact fail 5
  · repeat' split
    iterate 4 exact fail _
    refine (rd_when_of_rd (f := fun h => h.blowOem _) (rd_blowOem_fuseSvn _ _)).trans ?_
    rw [Hub.refreshClear_rd (by decide), rd_wr_place (by decide), rd_wr_place (by decide),
      rd_wr_place (by decide), Hub.rd_with_clear]

end Sys2Proof.Machine

open Sys2Proof Sys2Proof.Machine

/-- Settles O56: the five registers that `State.reset` lists stand in rising order, and its other tables are empty. -/
theorem resetMeetsTheInvariant : Obligations.ResetMeetsTheInvariant :=
  ⟨⟨by decide, Tab.nil_wf 0, Tab.nil_wf 0⟩, rfl⟩

/-- Settles O57: a command keeps the canonical form by its frame lemma, and so does a tick of the clock. -/
theorem stepsKeepTheInvariant : Obligations.StepsKeepTheInvariant := by
  intro s t I e
  unfold step at e
  split at e
  · obtain rfl := Host.Outcome.next.inj e
    exact Hub.tick_canon I
  · exact exec_inv e I

/-- Settles O58. -/
theorem commandsKeepTheirFrame : Obligations.CommandsKeepTheirFrame := by
  intro c s
  obtain ⟨t, e, q⟩ := exec_next c s
  exact ⟨t, e, q, exec_sameBut e⟩

theorem lockBit_kind : ∀ F ∈ [HDR.LOCK_LCFG, HDR.LOCK_LHDR, HDR.LOCK_LBLK], F.kind = Kind.lock := by decide

/-- Settles O59: what a command moves is of a kind in its `reach`, and each of these kinds is in that of few commands. -/
theorem protectedStateMovesOnlyByItsCommands : Obligations.ProtectedStateMovesOnlyByItsCommands := by
  intro c s t e z
  have S := exec_same e z
  refine ⟨fun a => ⟨?locks, ?lifeCycle, ?fuses, ?debug⟩, ?signers, ?flash, ?ring, ?recs⟩
  case locks => exact fun F hF pg => exec_rd e z a (lockBit_kind F hF) (lock_notMem_reach c)
  case lifeCycle => exact exec_rd e z a (by decide : LCS.STATE_LC.kind = Kind.lifeCycle) (lifeCycle_notMem_reach c)
  case fuses =>
    intro n
    have k := mem_reach_of_rd_ne e z a (by decide : KEY.FUSE_SVN.kind = Kind.fuses) n
    rcases svncommit_or_decrypt_of_fuses ⟨k, a⟩ with r | rfl
    · exact r
    · obtain rfl := Host.Outcome.next.inj e
      exact absurd (rd_when_of_rd (rd_bdecDone_fuseSvn _)) n
  case debug =>
    exact fun n => unlock_of_debugState ⟨mem_reach_of_rd_ne e z a (by decide : DBG.STAT_STATE.kind = Kind.debugState) n, a⟩
  case signers => exact fun n => decrypt_or_boot_of_signers (mem_reach_of_ne S.signers n)
  case flash => exact fun n => land_or_boot_of_flash (mem_reach_of_ne S.flash n)
  case ring => exact fun n => locketWrite_or_boot_of_lkRing (mem_reach_of_ne S.lkRing n)
  case recs => exact fun n => keyOp_or_boot_of_recs (mem_reach_of_ne S.recs n)
end

section
/-! PROOFS. Resets and the commands of the common page header (R9, R36 to R48, R706, R717): what each leaves in the registers that
the statement names, and where it completes. -/

namespace Sys2Proof.Machine

open Sys2Proof

/-! ### Registers that a filter of the table removes -/

theorem Tab.get_filter_of_not {α : Type} (d : α) (k : Nat) {p : Nat × α → Bool} (h : ∀ v, p (k, v) = false) (m : Tab α) :
    Tab.get d k (m.filter p) = d := by
  induction m with
  | nil => rfl
  | cons q m ih =>
    obtain ⟨k', v⟩ := q
    rw [List.filter_cons]
    split
    · rename_i e
      have n : k' ≠ k := by rintro rfl; rw [h v] at e; cases e
      rw [Tab.get, if_neg n, ih]
    · exact ih

/-- A register whose entry is cleared reads as its Reset column says. -/
theorem rd_clearRegs {h : Hub} {c : Nat → Bool} {F : Fld} {i b : Nat} (e : c (F.key i b) = true) :
    (h.clearRegs c).rd F i b = F.dflt b :=
  Tab.get_filter_of_not _ _ (fun _ => by simp [e]) _

/-! ### Hard resets -/

/-- What POR and HRST leave of a node `old` (R9): MGMT and AON alone are up, for the cause given, the memories on the die are empty,
and flash and locket are as they were. -/
structure Hub.Restarted (old : Hub) (cause : Nat) (g : Hub) : Prop where
  domOn : g.rd PDM.DOMON_ON = 1
  bootCause : g.rd AON.BOOTCAUSE_CAUSE = 2 ^ cause
  memories : g.tab = [] ∧ g.pkts = [] ∧ g.keys = [] ∧ g.ret = [] ∧ g.flash = old.flash ∧ g.lkRing = old.lkRing

/-- Changes of other kinds do not bear on it. -/
theorem Hub.Restarted.of_same {old g g' : Hub} {cause m : Nat} (R : old.Restarted cause g) (S : Hub.Same m g g')
    (hm : ∀ k ∈ [255, Kind.domainsOn, Kind.bootCause, Kind.tab, Kind.pkts, Kind.keys, Kind.ret, Kind.flash, Kind.lkRing],
      m.testBit k = false) : old.Restarted cause g' where
  domOn := by rw [S.rd (hm _ (by decide)) _ _ _ (hm _ (by decide)), R.domOn]
  bootCause := by rw [S.rd (hm _ (by decide)) _ _ _ (hm _ (by decide)), R.bootCause]
  memories := by
    rw [S.tab (hm _ (by decide)), S.pkts (hm _ (by decide)), S.keys (hm _ (by decide)), S.ret (hm _ (by decide)),
      S.flash (hm _ (by decide)), S.lkRing (hm _ (by decide))]
    exact R.memories

/-- The node of a hard reset before the registers that follow others are brought up to date. -/
def Hub.restart (h : Hub) (por : Bool) (cause : Nat) : Hub :=
  let h1 : Hub :=
    { regs := h.regs.filter fun p => hardKeeps por p.1, cfg := h.cfg, fmem := h.fmem, cyc := h.cyc, freeIx := h.freeIx
      lkRing := h.lkRing, recs := h.recs, marks := h.marks, signers := h.signers, flash := h.flash }
  ((h1.wr AON.BOOTCAUSE_CAUSE (2 ^ cause) |>.wr CLK.REFSTAT_AON_RC (1 - h1.rd CLK.REFSTAT_XTAL_OK)).each [1, 3, 4, 5]
    fun pg h => h.wr HDR.PSTAT_READY 1 pg).wr PDM.DOMON_ON 1

theorem hardReset_eq (h : Hub) (por : Bool) (cause : Nat) : h.hardReset por cause =
    (((h.restart por cause).refreshCap.refreshLpest).renewNonce LCS.NONCE).renewNonce DBG.NONCE := rfl

theorem restart_restarted {h : Hub} (C : h.Canon) {por : Bool} {cause : Nat} (hc : cause < 4) :
    h.Restarted cause (h.restart por cause) where
  domOn := rd_wr_same (sorted_wr (sorted_wr (sorted_wr (sorted_wr (sorted_wr (sorted_wr (Tab.filter_sorted _ C.regs)
    _ _ _ _) _ _ _ _) _ _ _ _) _ _ _ _) _ _ _ _) _ _ _ _) _ _ _ _
  bootCause := by
    have w : 2 ^ cause % 2 ^ AON.BOOTCAUSE_CAUSE.w = 2 ^ cause :=
      Nat.mod_eq_of_lt (Nat.pow_lt_pow_right (by decide) (Nat.lt_of_lt_of_le hc (by decide)))
    simp only [Hub.restart, Hub.each, List.foldl]
    iterate 6 rw [rd_wr_place (by decide)]
    rw [rd_wr_same (Tab.filter_sorted _ C.regs), w]
  memories := ⟨rfl, rfl, rfl, rfl, rfl, rfl⟩

/-- The kinds of what follows a hard reset: FIL, the latent errors of R403, and the nonces of R670 and R671. -/
def restartMask : Nat := 0xa800000000000004000000000000000000000000000000000010000000000010000000000001c0c

theorem hardReset_same (h : Hub) (por : Bool) (cause : Nat) :
    Hub.Same restartMask (h.restart por cause) (h.hardReset por cause) := by
  have B := bears_same restartMask (h.restart por cause)
  have wk := Sub.refl restartMask
  rw [hardReset_eq]
  refine Hub.renewNonce_keeps B (wk.sub (by decide)) (fun j => by rw [kind_word_DBG_NONCE]; decide) ?_ (by decide)
  refine Hub.renewNonce_keeps B (wk.sub (by decide)) (fun j => by rw [kind_word_LCS_NONCE]; decide) ?_
  exact Hub.refreshLpest_keeps B (wk.sub (by decide)) (Hub.refreshCap_keeps B (wk.sub (by decide)) fun _ => Hub.Same.refl _ _)

theorem hardReset_restarted {h : Hub} (C : h.Canon) {por : Bool} {cause : Nat} (hc : cause < 4) :
    h.Restarted cause (h.hardReset por cause) :=
  (restart_restarted C hc).of_same (hardReset_same h por cause) (by decide)

theorem Hub.Restarted.wr_aon {old g : Hub} {cause v : Nat} {F : Fld} (R : old.Restarted cause g) (e : F.kind = Kind.aon) :
    old.Restarted cause (g.wr F v) :=
  R.of_same ((bears_same 8 g).wr (by rw [e]; decide) (fun _ => Hub.Same.refl _ _) (by decide)) (by decide)

theorem Hub.Restarted.written {h : Hub} {r : Req} {f : Hub → Hub} {cause : Nat}
    (R : (h.dropLatch r.master).Restarted cause (f (h.dropLatch r.master))) : h.Restarted cause (h.written r f) :=
  ⟨R.domOn, R.bootCause, R.memories⟩

/-- A sample of the straps (R706) leaves the state of the restart alone. -/
theorem Hub.Restarted.setStraps {old g : Hub} {cause x : Nat} (R : old.Restarted cause g) :
    old.Restarted cause (g.setStraps x) := R.of_same Hub.setStraps_same (by decide)

theorem hrst_restarted {h : Hub} (C : h.Canon) {cause : Nat} (hc : cause < 4) : h.Restarted cause (h.hrst cause) :=
  (hardReset_restarted C hc).setStraps

theorem rd_setStraps_mgpA {h : Hub} (C : h.Canon) (x : Nat) : (h.setStraps x).rd TOP.STRAPS_MGP_A = x % 8 := by
  unfold Hub.setStraps
  iterate 4 rw [rd_wr_place (by decide)]
  rw [C.rd_wr, show bits x 0 3 = x % 8 by simp [bits]]
  exact Nat.mod_mod _ _

theorem rd_setStraps_addr {h : Hub} (C : h.Canon) (x : Nat) : (h.setStraps x).rd MGP.ADDR_ADDR = 0x58 + x % 8 := by
  unfold Hub.setStraps
  iterate 3 rw [rd_wr_place (by decide)]
  rw [C.wr.rd_wr, show bits x 0 3 = x % 8 by simp [bits]]
  exact Nat.mod_eq_of_lt (by simp only [MGP.ADDR_ADDR]; omega)

/-! ### Soft resets -/

theorem rd_holdSwitch {h old : Hub} {pg : Nat} {F : Fld} {i b : Nat} (e : F.kind ≠ Kind.clp) :
    (h.holdSwitch old pg).rd F i b = h.rd F i b := by
  have k : ∀ G ∈ Hub.switchFlds, G.kind = Kind.clp := by decide
  have wr (G : Fld) (hG : G ∈ Hub.switchFlds) (g : Hub) (v j : Nat) : (g.wr G v j).rd F i b = g.rd F i b :=
    rd_wr_key (key_ne_of_kind (by rw [k G hG]; exact e.symm) _ _ _ _)
  unfold Hub.holdSwitch
  exact keep_ite (P := fun g => g.rd F i b = h.rd F i b)
    (keep_each_mem (fun G hG g w => (wr G hG g _ _).trans w) rfl) rfl

/-- A soft reset as far as the registers of its page are at their reset values. -/
def Hub.softCleared (h : Hub) (pg : Nat) : Hub :=
  (((h.quiesce pg).dropShadow pg).clearRegs fun k => keyPage k == pg && !softKeeps k).cfgReset (· == pg)

theorem softCleared_canon {h : Hub} (C : h.Canon) (pg : Nat) : (h.softCleared pg).Canon :=
  Hub.cfgReset_canon (Hub.clearRegs_canon (Hub.dropShadow_canon (Hub.quiesce_canon C)))

/-- The header's record of a soft reset under way stands through what follows it: READY 0, and what READY waits for (R717). -/
theorem rd_softReset_headerControl (h : Hub) (pg busy : Nat) {F : Fld} {i b : Nat} (e : F.kind = Kind.headerControl) :
    (h.softReset pg busy).rd F i b =
      (((h.softCleared pg).wr HDR.PSTAT_READY 0 pg).wr HDR.hSrstBusy (if pg = 0x48 then 2 else busy) pg).rd F i b := by
  show (Hub.afterReset _ _).rd F i b = _
  have k : LCS.STAT_DONE.kind ≠ F.kind := by rw [e]; decide
  rw [Hub.afterReset_rd (by rw [e]; decide), rd_holdSwitch (by rw [e]; decide),
    rd_when_of_rd (rd_wr_key (key_ne_of_kind k _ _ _ _)), Hub.dropLists_rd (by rw [e]; decide)]
  rfl

theorem rd_softReset_ready {h : Hub} (C : h.Canon) (pg busy : Nat) : (h.softReset pg busy).rd HDR.PSTAT_READY pg = 0 := by
  rw [rd_softReset_headerControl h pg busy (by decide), rd_wr_place (by decide), (softCleared_canon C pg).rd_wr]
  rfl

theorem rd_softReset_busy {h : Hub} (C : h.Canon) (pg : Nat) :
    (h.softReset pg 1).rd HDR.hSrstBusy pg = if pg = 0x48 then 2 else 1 := by
  rw [rd_softReset_headerControl h pg 1 (by decide), (softCleared_canon C pg).wr.rd_wr]
  split <;> rfl

/-- A page that is not enabled starts nothing as it reports READY. -/
theorem rd_startPage_headerControl {h : Hub} {pg : Nat} (e : h.on HDR.PCTL_EN pg = false) {F : Fld} (k : F.kind = Kind.headerControl)
    {i b : Nat} : (h.startPage pg).rd F i b = h.rd F i b := by
  unfold Hub.startPage
  split
  · exact Hub.refreshMem_rd (by rw [k]; decide)
  · split
    · exact Hub.gateFollow_rd (by rw [k]; decide)
    · split
      · exact Hub.refreshVotes_rd (by rw [k]; decide)
      · rw [e]
        rfl

/-! ### Enables -/

/-- Outside lanes and ports, what an enable starts or stops leaves PCTL as it is written. -/
theorem rd_enable_en {h : Hub} (C : h.Canon) {pg : Nat} (hp : pg < 0x10 ∨ 0x40 ≤ pg) (en : Bool) (c : Cap) :
    (h.enable pg en c).rd HDR.PCTL_EN pg = bnat en := by
  have e : (h.wr HDR.PCTL_EN (bnat en) pg).rd HDR.PCTL_EN pg = bnat en := by
    rw [C.rd_wr]
    cases en <;> rfl
  unfold Hub.enable
  dsimp only
  generalize h.wr HDR.PCTL_EN (bnat en) pg = h1 at e ⊢
  rw [if_neg (by omega), if_neg (by omega)]
  split
  · split
    · exact Eq.trans (rd_when_of_rd (f := fun h => h.headEnable (pg - 0x71) c) (Hub.headEnable_rd (by decide))) e
    · exact Eq.trans (Hub.headDisable_rd (by decide)) e
  split
  · split
    · exact Eq.trans (rd_when_of_rd (f := fun h => h.claspEnable (pg - 0xB0) true) (Hub.claspEnable_rd (by decide))) e
    · exact Eq.trans (Hub.claspEnable_rd (by decide)) e
  split
  · split
    · exact Eq.trans (rd_when_of_rd (f := fun h => h.lpoEnable (pg - 0xC0) true) (Hub.lpoEnable_rd (by decide))) e
    · exact Eq.trans (Hub.lpoEnable_rd (by decide)) e
  split
  · exact Eq.trans (Hub.pdDetach_rd (by decide)) e
  split
  · exact Eq.trans (Hub.pdDetach_rd (by decide)) e
  · exact e

/-! ### ESTAT -/

theorem rd_clearEstat {h : Hub} (C : h.Canon) (pg v : Nat) :
    (h.clearEstat pg v).rd HDR.ESTAT pg = clrMask (h.rd HDR.ESTAT pg) v % 2 ^ 32 := by
  have stays {g : Hub} {F : Fld} {c : Prop} [Decidable c] (e : F.place ≠ HDR.ESTAT.place) :
      (if c then g.wr F 0 pg else g).rd HDR.ESTAT pg = g.rd HDR.ESTAT pg := by
    split
    · exact rd_wr_place e
    · rfl
  have summary {g : Hub} {c : Prop} [Decidable c] : (if c then g.refreshSummary else g).rd HDR.ESTAT pg = g.rd HDR.ESTAT pg := by
    split
    · exact rd_refreshSummary_place (by decide)
    · rfl
  unfold Hub.clearEstat
  dsimp only
  rw [stays (by decide), summary, stays (by decide)]
  exact C.rd_wr

/-- An error in the cycle of a clear sets its bit (R41). -/
theorem bit_newError {h : Hub} (C : h.Canon) {pg n : Nat} (p : secondPage pg = false) (hn : n < 32) :
    (Hub.newError pg n h).bit HDR.ESTAT n pg = true := by
  unfold Hub.newError
  rw [if_neg (by simp [p])]
  split
  · exact C.wr.wr.bit_raise p hn
  · exact C.bit_raise p hn

theorem bit_newError_of_bit {h : Hub} (C : h.Canon) {pg n m : Nat} (hm : m < 32) (e : h.bit HDR.ESTAT m pg = true) :
    (Hub.newError pg n h).bit HDR.ESTAT m pg = true := by
  have e2 : ((h.wr HDR.ECAP_VALID 0 pg).wr HDR.hEscRun 0 pg).bit HDR.ESTAT m pg = true := by
    unfold Hub.bit
    rw [rd_wr_place (by decide), rd_wr_place (by decide)]
    exact e
  unfold Hub.newError
  split
  · exact e
  · split
    · exact C.wr.wr.bit_raise_of_bit hm e2
    · exact C.bit_raise_of_bit hm e

/-- A change that, for each entry of a list, keeps a bit that is set, and for one entry sets it, leaves it set at the end. -/
theorem bit_foldl_of_mem {f : Hub → Nat → Hub} {F : Fld} {i m n : Nat} (canon : ∀ g k, g.Canon → (f g k).Canon)
    (keep : ∀ g k, g.Canon → g.bit F m i = true → (f g k).bit F m i = true)
    (set : ∀ g, g.Canon → (f g n).bit F m i = true) {l : List Nat} {g : Hub} (C : g.Canon) (hn : n ∈ l) :
    (l.foldl f g).bit F m i = true := by
  have stays : ∀ (l : List Nat) (g : Hub), g.Canon ∧ g.bit F m i = true → (l.foldl f g).Canon ∧ (l.foldl f g).bit F m i = true :=
    fun l _ H => keep_foldl (P := fun g => g.Canon ∧ g.bit F m i = true) (fun g k Q => ⟨canon g k Q.1, keep g k Q.1 Q.2⟩) H
  induction l generalizing g with
  | nil => cases hn
  | cons k l ih =>
    rcases List.mem_cons.1 hn with rfl | hl
    · exact (stays l _ ⟨canon g n C, set g C⟩).2
    · exact ih (canon g k C) hl

theorem bit_estatWrite_of_newErr {h : Hub} (C : h.Canon) {pg v e n : Nat} (p : secondPage pg = false) (hn : n < 32)
    (he : e.testBit n = true) : (h.estatWrite pg v e).bit HDR.ESTAT n pg = true := by
  unfold Hub.estatWrite
  rw [if_neg (by simp [p])]
  refine bit_foldl_of_mem (n := n) (fun g k Cg => ?_) (fun g k Cg b => ?_) (fun g Cg => ?_) (Hub.clearEstat_canon C)
    (List.mem_filter.2 ⟨List.mem_range.2 hn, he⟩)
  · exact keep_ite (Hub.raise_canon Cg) (Hub.newError_canon Cg)
  · split
    · exact Cg.bit_raise_of_bit hn b
    · exact bit_newError_of_bit Cg hn b
  · split
    · exact Cg.bit_raise p hn
    · exact bit_newError Cg p hn

/-! ### Commits -/

/-- The pending values of a page written to their registers (R43). -/
theorem rd_commitPage_pending {h : Hub} (C : h.Canon) (pg : Nat) : (h.commitPage pg).rd HDR.PSTAT_CPEND pg = 0 := by
  unfold Hub.commitPage
  dsimp only
  refine (rd_wr_same ?_ _ _ _ _).trans rfl
  refine keep_foldl (P := fun g => Tab.Sorted g.regs) (fun g p S => ?_) C.regs
  split
  · exact Tab.put_sorted _ _ _ S
  · exact S

theorem rd_dropShadow_pending {h : Hub} (C : h.Canon) (pg : Nat) : (h.dropShadow pg).rd HDR.PSTAT_CPEND pg = 0 :=
  (rd_wr_same C.regs _ _ _ _).trans rfl

theorem rd_txCommit_pending {h : Hub} (C : h.Canon) (l : Nat) : (Hub.txCommit l h).rd HDR.PSTAT_CPEND (0x20 + l) = 0 := by
  unfold Hub.txCommit
  split
  · rename_i e
    simpa [Hub.on] using e
  · split
    · exact (Hub.refreshTx_rd (by decide)).trans (rd_commitPage_pending C _)
    · exact (Hub.raise_rd (by decide)).trans (rd_dropShadow_pending C _)

/-- A commit asked for is pending, but for a lane in OFF, RETIRED or FAULT, which applies it at once (R43, R101). -/
theorem rd_askCommit_pending {h : Hub} (C : h.Canon) (pg : Nat) : (Hub.askCommit pg h).rd HDR.PSTAT_CPEND pg =
    if 0x20 ≤ pg ∧ pg ≤ 0x3F ∧ (h.lane (pg - 0x20) = 0 ∨ h.lane (pg - 0x20) = 9 ∨ h.lane (pg - 0x20) = 10) then 0 else 1 := by
  have e : (decide (0x20 ≤ pg ∧ pg ≤ 0x3F) && (h.lane (pg - 0x20) == 0 || h.lane (pg - 0x20) == 9 || h.lane (pg - 0x20) == 10)) =
      decide (0x20 ≤ pg ∧ pg ≤ 0x3F ∧ (h.lane (pg - 0x20) = 0 ∨ h.lane (pg - 0x20) = 9 ∨ h.lane (pg - 0x20) = 10)) := by
    simp only [Bool.decide_and, Bool.decide_or, Bool.and_assoc, Bool.or_assoc, beq_eq_decide]
  unfold Hub.askCommit
  dsimp only
  rw [e]
  split
  · rename_i q
    have t := rd_txCommit_pending (C.wr (F := HDR.PSTAT_CPEND) (v := 1) (i := pg) (b := 0)) (pg - 0x20)
    rw [Nat.add_sub_cancel' q.1] at t
    rw [decide_eq_true q]
    exact t
  · rename_i q
    rw [decide_eq_false q]
    exact C.rd_wr

theorem commitAt_eq_commitPage {h : Hub} {pg : Nat} (up : h.up pg = true) (c : h.on HDR.PSTAT_CPEND pg = true)
    (hp : pg < 0x20 ∨ 0x40 ≤ pg ∧ pg < 0x50 ∨ 0x5E ≤ pg ∧ pg < 0x71 ∨ 0x78 ≤ pg) : h.commitAt pg = h.commitPage pg := by
  unfold Hub.commitAt
  rw [up, c, if_neg (by simp), if_neg (by omega), if_neg (by omega), if_neg fun q => by have := q.1; omega]

/-! ### Counters -/

/-- A counter in a range that CNTCLR clears reads as its Reset column says; the pages whose counters hold a moving mark, and the lume
page with its port, aside (R254). -/
theorem rd_clearCounts {h : Hub} {pg first lo hi : Nat} {row : PageRow} {F : Fld} {i b : Nat} (hrow : pageRow? pg = some row)
    (hf : row.first = first) (hn : first ∉ [0x48, 0x4B, 0x71, 0x92, 0xC8]) (hk : keyPage (F.key i b) = pg)
    (hr : (lo, hi) ∈ cntRanges first) (h1 : lo ≤ keyOff (F.key i b)) (h2 : keyOff (F.key i b) ≤ hi) :
    (Hub.clearCounts pg h).rd F i b = F.dflt b := by
  subst hf
  simp only [List.mem_cons, List.not_mem_nil, or_false, not_or] at hn
  obtain ⟨n1, n2, n3, n4, n5⟩ := hn
  unfold Hub.clearCounts
  simp only [hrow, Option.map_some, Option.getD_some, if_neg n1, if_neg n2, if_neg n3, if_neg n5]
  refine rd_clearRegs ?_
  simp only [Bool.and_eq_true, beq_iff_eq, List.any_eq_true, decide_eq_true_eq, bne_iff_ne, Bool.or_eq_true]
  exact ⟨⟨hk, .inl n4⟩, (lo, hi), hr, h1, h2⟩

end Sys2Proof.Machine

open Sys2Proof Sys2Proof.Machine

/-- Settles O2, clause by clause, from what each operation leaves in the registers named. -/
theorem resetAndHeaderCommandsComplete : Obligations.ResetAndHeaderCommandsComplete := by
  intro s I
  have C : s.hub.Canon := I
  have CL (m : MasterId) : (s.hub.dropLatch m).Canon := C.dropLatch
  refine ⟨?por, ?release, ?hrstLow, ?hrstHigh, ?rstcmd, ?softReset, ?softDone, ?enable, ?clear, ?clearNew, ?commit, ?commitPoint,
    ?cntclr⟩
  case por =>
    intro b
    have R := hardReset_restarted C (por := true) (show (if b then 3 else 0) < 4 by split <;> decide)
    refine completes_act (f := fun h => h.powerOn b) rfl ⟨R.domOn, R.bootCause.trans ?_, R.memories⟩
    split <;> rfl
  case release =>
    intro x lock off
    refine completes_when (p := fun h => !h.bit CLK.PLLSTAT_LOCK 0 && !h.domOn 1)
      (f := fun _ h => (h.setStraps x).when (h.bit AON.BOOTCAUSE_CAUSE 3) fun h => h.raise 3 0) rfl (by rw [lock, off]; rfl)
      ⟨?_, ?_, fun c => ?_⟩
    · exact (rd_when_of_rd (f := fun h => h.raise 3 0) (Hub.raise_rd (by decide))).trans (rd_setStraps_mgpA C x)
    · exact (rd_when_of_rd (f := fun h => h.raise 3 0) (Hub.raise_rd (by decide))).trans (rd_setStraps_addr C x)
    · rw [c, Hub.when_true]
      exact (Hub.setStraps_canon C).bit_raise rfl (by decide)
  case hrstLow =>
    intro x
    have R := (hardReset_restarted C (por := false) (show 1 < 4 by decide)).wr_aon (F := AON.hHeld) (v := 1) (by decide)
    exact completes_act (f := fun h => h.hrstBall true x) rfl ⟨(Hub.hardReset_canon C).rd_wr, R.bootCause, R.domOn, R.memories⟩
  case hrstHigh =>
    intro x held
    refine completes_when (p := fun h => h.on AON.hHeld) (f := fun _ h => (h.wr AON.hHeld 0).setStraps x) rfl held
      ⟨?_, rd_setStraps_mgpA C.wr x⟩
    exact (Hub.setStraps_rd (by decide)).trans C.rd_wr
  case rstcmd =>
    intro r v G k
    have R : s.hub.Restarted 2 (s.hub.written r fun h => h.hrst 2) :=
      Hub.Restarted.written (f := fun h => h.hrst 2) (hrst_restarted (CL r.master) (show 2 < 4 by decide))
    refine completes_reg (f := fun h => h.when (v % 2 ^ 16 == 0xC1A5) fun h => h.hrst 2) rfl G ?_
    have e : (s.hub.written r fun h => h.when (v % 2 ^ 16 == 0xC1A5) fun h => h.hrst 2) = s.hub.written r fun h => h.hrst 2 := by
      rw [show (v % 2 ^ 16 == 0xC1A5) = true from beq_iff_eq.2 k]
      rfl
    rw [e]
    exact ⟨R.bootCause, R.domOn, R.memories⟩
  case softReset =>
    exact fun r pg G => completes_write (f := fun h => h.softReset pg 1) rfl G
      ⟨rd_softReset_ready (CL _) pg 1, rd_softReset_busy (CL _) pg⟩
  case softDone =>
    intro pg on busy
    refine completes_when (p := fun h => h.domOn (pageDom pg) && h.rd HDR.hSrstBusy pg == 1) (f := fun _ h => h.softDone pg) rfl
      (by rw [on, busy]; rfl) ⟨rfl, fun en => ?_⟩
    have en1 : ((s.hub.wr HDR.PSTAT_READY 1 pg).wr HDR.hSrstBusy 0 pg).on HDR.PCTL_EN pg = false := by
      unfold Hub.on
      rw [rd_wr_place (by decide), rd_wr_place (by decide)]
      exact en
    constructor
    · rw [Hub.softDone, rd_startPage_headerControl en1 (by decide), rd_wr_place (by decide)]
      exact C.rd_wr
    · rw [Hub.softDone, rd_startPage_headerControl en1 (by decide)]
      exact C.wr.rd_wr
  case enable =>
    exact fun r pg en G => completes_write (f := fun h => h.enable pg en (Hub.accCap r true (pg * 4096 + 8))) rfl G
      ⟨rfl, fun hp => rd_enable_en (CL _) hp en _⟩
  case clear =>
    intro r pg v G p
    refine completes_write (f := fun h => h.estatWrite pg v 0) rfl G ?_
    have e : (s.hub.dropLatch r.master).estatWrite pg v 0 = (s.hub.dropLatch r.master).clearEstat pg v := by
      unfold Hub.estatWrite
      rw [if_neg (by simp [p])]
      rfl
    rw [Hub.written_rd, e]
    exact rd_clearEstat (CL _) pg v
  case clearNew =>
    exact fun r pg v e n G p hn he => completes_write (f := fun h => h.estatWrite pg v e) rfl G (bit_estatWrite_of_newErr (CL _) p hn he)
  case commit => exact fun r pg G => completes_write (f := Hub.askCommit pg) rfl G (rd_askCommit_pending (CL _) pg)
  case commitPoint =>
    intro pg up c hp
    refine completes_act (f := fun h => h.commitAt pg) rfl ?_
    rw [commitAt_eq_commitPage up c hp]
    exact rd_commitPage_pending C pg
  case cntclr =>
    intro r pg row off hrow p hoff G hn
    have e : ((pageRow? pg).bind fun q => if secondPage pg then none else cntOffset q.first) = some off := by
      rw [hrow, Option.bind_some, p]
      exact hoff
    refine completes_write (f := Hub.clearCounts pg) ?_ G ?_
    · show execCntclr r pg s = _
      simp only [execCntclr, e]
    exact fun F i b lo hi hk hr h1 h2 => rd_clearCounts hrow rfl hn hk hr h1 h2
end

section
/-! PROOFS. A granted write of one word of a register page (R7), and the pages that hold no more than settings. -/

namespace Sys2Proof.Machine

open Sys2Proof

variable {P : Hub → Prop}

/-! ### From the window to the word -/

/-- No table window lies among the register pages (R30, R50). -/
theorem tableAt_page {pg off : Nat} (hp : pg < 0x400) (ho : off < 4096) : tableAt (pg * 4096 + off) = none := by
  have low : ∀ p ∈ (List.range 6).zip tableRows, 0x400000 ≤ p.2.base := by decide
  refine List.find?_eq_none.2 fun p h => ?_
  have := low p h
  simp only [Bool.and_eq_true, decide_eq_true_eq, not_and]
  omega

theorem putWord_page (h : Hub) (r : Req) {pg off : Nat} (v : Nat) (hp : pg < 0x400) (ho : off < 4096) :
    h.putWord r (pg * 4096 + off) v = h.wordWrite r pg off (v % 2 ^ 32) := by
  have e1 : (pg * 4096 + off) / 4096 = pg := by omega
  have e2 : (pg * 4096 + off) % 4096 = off := by omega
  unfold Hub.putWord
  rw [tableAt_page hp ho]
  dsimp only
  rw [e1, e2]

theorem exec_registerWrite (r : Req) (addr v : Nat) (s : State) : exec (.registerWrite r addr 4 v) s =
    s.act fun h => h.asWrite r addr 4 fun h => h.putWord r addr (v % 2 ^ 32) := rfl

/-- A granted write of 4 bytes to a register page completes with what the word does. -/
theorem completes_registerWrite {s : State} {r : Req} {pg off v : Nat} {Q : Hub → Prop} (G : s.hub.GrantsAt r (pg * 4096 + off))
    (hp : pg < 0x400) (ho : off < 4096) (q : Q (s.hub.written r fun h => h.wordWrite r pg off (v % 2 ^ 32))) :
    Completes (.registerWrite r (pg * 4096 + off) 4 v) s Q := by
  refine completes_write (exec_registerWrite r _ v s) G ?_
  have e : (fun h : Hub => h.putWord r (pg * 4096 + off) (v % 2 ^ 32)) = fun h => h.wordWrite r pg off (v % 2 ^ 32) := by
    funext h
    rw [putWord_page h r _ hp ho, Nat.mod_mod]
  rw [e]
  exact q

/-! ### The fields of a word -/

/-- A field of a word above the header is one of the page's fields, moved to the word. -/
theorem mem_fieldsAt {pg off : Nat} {p : Fld × Nat} (ho : 0x100 ≤ off) (h : p ∈ fieldsAt pg off) :
    ∃ row F n, pageRow? pg = some row ∧ (F, n) ∈ pageFields row.first ∧ p.1 = { F with off := off } ∧ F.pg + p.2 = pg ∧
      F.off ≤ off ∧ off < F.off + 4 * n := by
  unfold fieldsAt at h
  rw [if_neg (Nat.not_lt.2 ho)] at h
  split at h
  · cases h
  · rename_i row hrow
    obtain ⟨⟨F, n⟩, hF, e⟩ := List.mem_filterMap.1 h
    dsimp only at e
    generalize (if (secondPage pg || decide (F.pg ≠ row.first)) = true then 0 else pg - row.first) = i at e
    obtain ⟨c, e⟩ := Option.ite_none_right_eq_some.1 e
    cases e
    simp only [Bool.and_eq_true, decide_eq_true_eq] at c
    obtain ⟨⟨⟨hi, lo⟩, hi'⟩, -⟩ := c
    exact ⟨row, F, n, hrow, hF, rfl, hi, lo, hi'⟩

/-- Any field but a shadowed one is written in place, or not at all. -/
theorem writeFld_keeps_of_unshadowed {km : Nat} (B : Hub.Bears km P) {h : Hub} {F : Fld} {v i b : Nat} {c : Cap} (ha : F.acc ≠ .rws)
    (k : km.testBit F.kind = true) (H : P h) : P (h.writeFld F v i b c) := by
  unfold Hub.writeFld
  cases e : F.acc
  case rws => exact absurd e ha
  case rwl => exact keep_ite H (B.wr k H)
  case rw | wo | w1c => exact B.wr k H
  all_goals exact H

theorem fieldsWrite_keeps_of_unshadowed {km : Nat} (B : Hub.Bears km P) {h : Hub} {pg off v : Nat} {c : Cap} (hp : pg ≠ 8)
    (ho : 0x100 ≤ off) (hF : ∀ p ∈ fieldsAt pg off, p.1.acc ≠ .rws ∧ km.testBit p.1.kind = true) (H : P h) :
    P (h.fieldsWrite pg off v c) := by
  unfold Hub.fieldsWrite
  split
  · exact H
  · rename_i b hb
    refine keep_each_mem (fun p m g Hg => ?_) ?_
    · obtain ⟨a, k⟩ := hF p (List.mem_filter.1 m).1
      split
      · rw [if_neg a]
        exact keep_when (fun g Hg => B.wr k Hg) Hg
      · exact Hg
    · unfold Hub.writeReg
      rw [if_neg (Nat.not_lt.2 ho), if_neg (by simp [hp]), hb]
      exact keep_foldl_mem (fun g p m Hg => writeFld_keeps_of_unshadowed B (hF p m).1 (hF p m).2 Hg) H

/-! ### Pages of settings -/

/-- The pages of the shared buffer, of AGE and of the multicast replicator. -/
def plainPages : List Nat := [0x48, 0x4A, 0x4B]

theorem pageRow_plain : ∀ pg ∈ plainPages, (pageRow? pg).map (·.first) = some pg ∧ secondPage pg = false := by decide

/-- Their fields are not shadowed, lie in their page, and no two of them share a lowest bit and a word. -/
theorem pageFields_plain : ∀ pg ∈ plainPages, ∀ p ∈ pageFields pg, p.1.acc ≠ .rws ∧ p.1.pg = pg ∧ p.1.lo + p.1.w ≤ 32 ∧
    p.1.lo < 32 ∧ ∀ q ∈ pageFields pg, p.1.lo = q.1.lo → p = q ∨ p.1.off + 4 * p.2 ≤ q.1.off ∨ q.1.off + 4 * q.2 ≤ p.1.off := by
  decide

/-- A word of these pages: its fields are not shadowed, and lie in bits of their own. -/
theorem mem_fieldsAt_plain {pg off : Nat} {p : Fld × Nat} (hp : pg ∈ plainPages) (ho : 0x100 ≤ off) (h : p ∈ fieldsAt pg off) :
    p.1.acc ≠ .rws ∧ p.1.pg = pg ∧ p.1.off = off ∧ p.1.lo + p.1.w ≤ 32 ∧ p.1.lo < 32 ∧
      ∀ q ∈ fieldsAt pg off, p.1.lo = q.1.lo → p = q := by
  have first : ∀ row, pageRow? pg = some row → row.first = pg := fun row e => by
    have := (pageRow_plain pg hp).1
    rw [e] at this
    exact Option.some.inj this
  obtain ⟨row, F, n, hrow, hF, e, hi, lo, up⟩ := mem_fieldsAt ho h
  rw [first row hrow] at hF
  obtain ⟨hacc, hpg, hw, hlo, hown⟩ := pageFields_plain pg hp _ hF
  rw [e]
  refine ⟨hacc, hpg, rfl, hw, hlo, fun q hq same => ?_⟩
  obtain ⟨row', G, m, hrow', hG, e', hj, lo', up'⟩ := mem_fieldsAt ho hq
  rw [first row' hrow'] at hG
  obtain ⟨-, hpg', -, -, -⟩ := pageFields_plain pg hp _ hG
  rw [e'] at same
  rcases hown _ hG same with x | x | x
  · cases x
    exact Prod.ext (e.trans e'.symm) (by omega)
  · dsimp only at x
    omega
  · dsimp only at x
    omega

theorem kind_of_plain {pg : Nat} {F : Fld} (hp : pg ∈ plainPages) (e : F.pg = pg) (ho : F.off < 4096) (hl : F.lo < 32) :
    F.kind = pg := by
  subst e
  have page : ∀ pg ∈ plainPages, pg < 1024 ∧ pg ≠ 0 ∧ ∀ q ∈ [(0xB, 0x100), (0xE, 0x204), (0xC, 0x104), (4, 0x100), (4, 0x120),
      (0x68, 0x11C), (0xF, 0x104), (0x10, 0x108), (0x68, 0x110), (3, 0x130)], pg ≠ q.1 := by decide
  obtain ⟨small, pos, other⟩ := page _ hp
  exact kind_word (F := F) 0 small pos ho hl fun q hq e => absurd e (other q hq)

/-- A word of these pages does no more than hold its fields. -/
theorem wordWrite_plain (h : Hub) (r : Req) {pg off : Nat} (v : Nat) (hp : pg ∈ plainPages) (ho : 0x100 ≤ off)
    (hc : cntOffset pg ≠ some off) : h.wordWrite r pg off v =
      if h.ignored pg off then h else h.fieldsWrite pg off v (Hub.accCap r true (pg * 4096 + off)) := by
  obtain ⟨row, second⟩ := pageRow_plain pg hp
  unfold Hub.wordWrite
  rw [if_neg (Nat.not_lt.2 ho), second, row, if_neg Bool.false_ne_true]
  refine if_congr Iff.rfl rfl ?_
  dsimp only [Option.getD]
  rw [if_neg fun q => hc q.1]
  simp only [plainPages, List.mem_cons, List.not_mem_nil, or_false] at hp
  rcases hp with rfl | rfl | rfl <;> rfl

theorem wordWrite_plain_keeps {km : Nat} (B : Hub.Bears km P) {h : Hub} {r : Req} {pg off v : Nat} (hp : pg ∈ plainPages)
    (ho : 0x100 ≤ off) (ho' : off < 4096) (hc : cntOffset pg ≠ some off) (k : km.testBit pg = true) (H : P h) :
    P (h.wordWrite r pg off v) := by
  rw [wordWrite_plain h r v hp ho hc]
  refine keep_ite H (fieldsWrite_keeps_of_unshadowed B ?_ ho (fun p hm => ?_) H)
  · rintro rfl
    exact absurd hp (by decide)
  · obtain ⟨hacc, hpg, hoff, -, hlo, -⟩ := mem_fieldsAt_plain hp ho hm
    exact ⟨hacc, by rw [kind_of_plain hp hpg (hoff ▸ ho') hlo]; exact k⟩

/-! ### The value of a field written -/

/-- A change that makes `Q` true for one entry of a list, and for no other entry undoes it, leaves it true at the end. -/
theorem keep_foldl_of_mem {α : Type} {C Q : Hub → Prop} {f : Hub → α → Hub} {l : List α} {a : α}
    (inv : ∀ g, ∀ x ∈ l, C g → C (f g x)) (keep : ∀ g, ∀ x ∈ l, x ≠ a → C g → Q g → Q (f g x)) (set : ∀ g, C g → Q (f g a))
    {g : Hub} (H : C g) (ha : a ∈ l) : C (l.foldl f g) ∧ Q (l.foldl f g) := by
  obtain ⟨l₁, l₂, rfl⟩ := List.append_of_mem ha
  rw [List.foldl_append, List.foldl_cons]
  have H₁ : C (l₁.foldl f g) := keep_foldl_mem (P := C) (fun g x m Hg => inv g x (List.mem_append_left _ m) Hg) H
  refine keep_foldl_mem (P := fun g => C g ∧ Q g) (fun g x m Hg => ?_) ⟨inv _ a ha H₁, set _ H₁⟩
  have m' : x ∈ l₁ ++ a :: l₂ := List.mem_append_right _ (List.mem_cons_of_mem _ m)
  refine ⟨inv g x m' Hg.1, ?_⟩
  by_cases e : x = a
  · exact e ▸ set g Hg.1
  · exact keep g x m' e Hg.1 Hg.2

theorem Hub.Canon.writeFld {h : Hub} (C : h.Canon) {F : Fld} {v i b : Nat} {c : Cap} (ha : F.acc ≠ .rws) :
    (h.writeFld F v i b c).Canon :=
  writeFld_keeps_of_unshadowed (bears_canon (2 ^ F.kind)) ha (by rw [Nat.testBit_two_pow_self]) C

theorem rd_writeFld_place {h : Hub} {F G : Fld} {v i b j c : Nat} {x : Cap} (ha : F.acc ≠ .rws) (e : F.place ≠ G.place) :
    (h.writeFld F v i b x).rd G j c = h.rd G j c := by
  unfold Hub.writeFld
  cases ha' : F.acc
  case rws => exact absurd ha' ha
  case rwl => dsimp only; split; exacts [rfl, rd_wr_place e]
  case rw | wo | w1c => exact rd_wr_place e
  all_goals rfl

theorem place_ne_of_lo {F G : Fld} (hp : F.pg = G.pg) (ho : F.off = G.off) (hF : F.lo < 32) (hG : G.lo < 32) (e : F.lo ≠ G.lo) :
    F.place ≠ G.place := by
  unfold Fld.place Fld.key
  omega

theorem bits_mod_word {v lo w : Nat} (h : lo + w ≤ 32) : bits (v % 2 ^ 32) lo w = bits v lo w := by
  refine Nat.eq_of_testBit_eq fun j => ?_
  simp only [bits, Nat.testBit_mod_two_pow, Nat.testBit_div_two_pow]
  by_cases hj : j < w
  · simp [hj, show j + lo < 32 by omega]
  · simp [hj]

/-- The fields of a word written (R7): one that software may write holds its bits of the value. -/
theorem rd_fieldsWrite_rw {h : Hub} (C : h.Canon) {pg off v b i : Nat} {F : Fld} {c : Cap} (hp : pg ∈ plainPages)
    (ho : 0x100 ≤ off) (hb : h.bankOf pg off = some b) (hF : (F, i) ∈ fieldsAt pg off) (ha : F.acc = .rw)
    (hr : ∀ q ∈ readsAs, q.1 ≠ F) : (h.fieldsWrite pg off v c).rd F i b = bits v F.lo F.w := by
  obtain ⟨-, hpg, hoff, -, hlo, own⟩ := mem_fieldsAt_plain hp ho hF
  have apart : ∀ p ∈ fieldsAt pg off, p ≠ (F, i) → p.1.acc ≠ .rws ∧ p.1.place ≠ F.place := fun p m n => by
    obtain ⟨a, g, o, -, l, -⟩ := mem_fieldsAt_plain hp ho m
    exact ⟨a, place_ne_of_lo (g.trans hpg.symm) (o.trans hoff.symm) l hlo fun e => n (own p m e.symm).symm⟩
  have n8 : pg ≠ 8 := by rintro rfl; exact absurd hp (by decide)
  have W : (h.writeReg pg off v c).rd F i b = bits v F.lo F.w := by
    unfold Hub.writeReg
    rw [if_neg (Nat.not_lt.2 ho), if_neg (by simp [n8]), hb]
    refine (keep_foldl_of_mem (C := Hub.Canon) (Q := fun g => g.rd F i b = bits v F.lo F.w) (fun g p m Cg => ?_)
      (fun g p m n _ Qg => ?_) (fun g Cg => ?_) C hF).2
    · exact Cg.writeFld (mem_fieldsAt_plain hp ho m).1
    · obtain ⟨a, e⟩ := apart p m n
      exact (rd_writeFld_place a e).trans Qg
    · unfold Hub.writeFld
      rw [ha]
      exact Cg.rd_wr.trans (Nat.mod_mod _ _)
  unfold Hub.fieldsWrite
  rw [hb]
  refine keep_each_mem (P := fun g => g.rd F i b = bits v F.lo F.w) (fun p m g Qg => ?_) W
  have m' := (List.mem_filter.1 m).1
  split
  · rename_i q lo hi d e
    have n : p ≠ (F, i) := by
      rintro rfl
      exact hr _ (List.mem_of_find?_eq_some e) (by simpa using List.find?_some e)
    obtain ⟨a, e⟩ := apart p m' n
    rw [if_neg a]
    exact keep_when (P := fun g => g.rd F i b = bits v F.lo F.w) (fun _ Hg => (rd_wr_place e).trans Hg) Qg
  · exact Qg

theorem written_sub_plain : ∀ pg ∈ plainPages,
    Sub 0xa0000000000000000000000000000000000000000000000000000000000000000000000000000 (kindMask [pg, Kind.latch64, Kind.resp]) := by
  unfold Sub
  decide +kernel

/-- Settles O52: a word of these pages holds its fields and does nothing else, and the fields of a word have places of
their own. -/
theorem plainRegisterWritesStayInTheirPage : Obligations.PlainRegisterWritesStayInTheirPage := by
  have page : ∀ pg ∈ plainPages, pg < 0x400 := by decide
  intro s I
  constructor
  · intro r pg off v G hp ho ho' hc
    refine completes_registerWrite G (page pg hp) ho' (Hub.Same.sameBut ?_)
    refine Hub.written_keeps (bears_same _ s.hub) (written_sub_plain pg hp) (fun _ => Hub.Same.refl _ _) fun g H => ?_
    exact wordWrite_plain_keeps (bears_same _ s.hub) hp ho ho' hc (by simp [testBit_kindMask]) H
  · intro r pg off v F i b G hp ho ho' hc hb hF ha hr
    have live : (s.hub.dropLatch r.master).ignored pg off = false := List.all_eq_false.2 ⟨(F, i), hF, by simp [ha]⟩
    obtain ⟨-, -, -, width, -, -⟩ := mem_fieldsAt_plain hp ho hF
    refine completes_registerWrite G (page pg hp) ho' ?_
    show ((s.hub.dropLatch r.master).wordWrite r pg off (v % 2 ^ 32)).rd F i b = bits v F.lo F.w
    rw [wordWrite_plain _ r _ hp ho hc, live, if_neg Bool.false_ne_true,
      rd_fieldsWrite_rw I.dropLatch hp ho hb hF ha hr, bits_mod_word width]

end Sys2Proof.Machine
end

section
/-! PROOFS. Three statements that the model does not meet, each with the node that shows it. -/

namespace Sys2Proof.Machine

open Sys2Proof

/-- What a granted write completes with. -/
theorem of_completes_write {c : Instr} {s : State} {r : Req} {a : Nat} {f : Hub → Hub} {Q : Hub → Prop}
    (e : exec c s = s.act fun h => h.asWrite r a 4 f) (g : s.hub.GrantsAt r a) (H : Completes c s Q) : Q (s.hub.written r f) := by
  obtain ⟨t, next, -, q⟩ := H
  have st : { s with hub := s.hub.asWrite r a 4 f } = t := Host.Outcome.next.inj (e.symm.trans next)
  rw [← asWrite_granted g]
  subst st
  exact q

theorem exec_softReset (r : Req) (pg : Nat) (s : State) :
    exec (.softReset r pg) s = s.act fun h => h.asWrite r (pg * 4096 + 8) 4 (Hub.softReset pg 1) := rfl

/-- Node `h` with the config store `cfg` in place of its own. -/
def Hub.withConfig (h : Hub) (cfg : Tab Nat) : Hub := { h with cfg := cfg }

theorem Hub.Canon.withConfig {h : Hub} (C : h.Canon) {cfg : Tab Nat} : (h.withConfig cfg).Canon := ⟨C.regs, C.tab, C.fmem⟩

/-- Node `h` with the registers of `l` (field, number and value) written. -/
def Hub.withRegs (h : Hub) (l : List (Fld × Nat × Nat)) : Hub := l.foldl (fun h p => h.wr p.1 p.2.2 p.2.1) h

theorem Hub.Canon.withRegs {h : Hub} (C : h.Canon) {l : List (Fld × Nat × Nat)} : (h.withRegs l).Canon :=
  keep_foldl (P := Hub.Canon) (fun _ _ C => C.wr) C

/-- The node after reset, then with all its domains on, the registers of `l` written, and the config store `cfg`. -/
def poweredNode (l : List (Fld × Nat × Nat)) (cfg : Tab Nat) : State :=
  { hub := (State.reset.hub.withRegs ((PDM.DOMON_ON, 0, 4095) :: l)).withConfig cfg }

theorem poweredNode_inv (l : List (Fld × Nat × Nat)) (cfg : Tab Nat) : (poweredNode l cfg).Inv :=
  have reset : State.reset.hub.Canon := resetMeetsTheInvariant.1
  reset.withRegs.withConfig

/-- A request of the management CPU. -/
def ofMcpu : Req := { master := .mcpu, node := 0 }

/-- A node whose mark of a first write to LOCK is set at page index 0x400, where the first table window begins. -/
def lockMarkAtWindow : State := poweredNode [(HDR.hLockSet, 0x400, 1)] []

/-- Refutes O46: the clause on a second write to LOCK does not ask that `pg` be a register page. At index 0x400 the offset lies in
a table window, and the write stages a word of an entry. -/
theorem not_ignoredWritesChangeNothing : ¬ Obligations.IgnoredWritesChangeNothing := by
  intro h
  obtain ⟨-, second, -⟩ := h lockMarkAtWindow (poweredNode_inv _ _)
  have grant : lockMarkAtWindow.hub.GrantsAt ofMcpu (0x400 * 4096 + 0x38) := ⟨by decide +kernel, by decide +kernel⟩
  have H := of_completes_write (exec_registerWrite _ _ _ _) grant (second ofMcpu 0x400 0 grant (by decide +kernel))
  obtain ⟨-, -, -, -, staging, -⟩ := H (by decide)
  exact absurd (congrArg List.length (staging (by decide))) (by decide +kernel)

/-- A node whose port 0 is UP at two lanes, so that the reservation point of that port has the capacity of two lanes. -/
def portUpNode : State := poweredNode [(OPT.STAT_STATE, 0, 3), (OPT.STAT_WIDTH, 0, 2), (CRT.PCAP_CT, 0, 864)] []

/-- Refutes O48: PCAP.CT is an RWL field, and of a port's point it follows the port. A soft reset of the port's page takes the port
DOWN, and the capacity goes to 0. -/
theorem not_locksOutlastSoftAndDomainResets : ¬ Obligations.LocksOutlastSoftAndDomainResets := by
  intro h
  obtain ⟨-, soft, -⟩ := h portUpNode (poweredNode_inv _ _)
  have grant : portUpNode.hub.GrantsAt ofMcpu (0x10 * 4096 + 8) := ⟨by decide +kernel, by decide +kernel⟩
  have H := of_completes_write (exec_softReset _ _ _) grant
    (soft ofMcpu 0x10 CRT.PCAP_CT 1 { first := 0x61, count := 1, dom := 2 } 0 0 (by decide) (by decide) (by decide) (by decide)
      (by decide))
  exact absurd H (by decide +kernel)

/-- A node whose config store lists a shadowed field of the first scheduler, which has a commit pending. -/
def shadowInConfig : State := poweredNode [(HDR.PSTAT_CPEND, 0x50, 1)] [(SCH.SHAPE_RATE.key 0 0, 5)]

/-- Refutes O49: the config store of a state may list the key of any field, and the page's reset puts each back to the value listed,
here a shadowed field whose reset value is 0. -/
theorem not_softResetDiscardsPendingShadows : ¬ Obligations.SoftResetDiscardsPendingShadows := by
  intro h
  have grant : shadowInConfig.hub.GrantsAt ofMcpu (0x50 * 4096 + 8) := ⟨by decide +kernel, by decide +kernel⟩
  obtain ⟨active, -⟩ := of_completes_write (exec_softReset _ _ _) grant
    (h shadowInConfig (poweredNode_inv _ _) ofMcpu 0x50 SCH.SHAPE_RATE 0 0 SCH.SHAPE_RATE.off grant (by decide +kernel)
      (by decide) (by decide))
  exact absurd active (by decide +kernel)

end Sys2Proof.Machine
end

section
/-! PROOFS. Clocks, PLLs and references, and what FIL holds of capacity, voltage and temperature (R64 to R87, R704). -/

namespace Sys2Proof.Machine

open Sys2Proof

/-! ### Shared shapes -/

/-- A granted write that sets a block to work, which the block accepts, carries out its effect (R717). -/
theorem completes_go {c : Instr} {s : State} {r : Req} {F : Fld} {i : Nat} {f : Hub → Hub} {Q : Hub → Prop}
    (e : exec c s = s.act fun h => h.asGo r F i f) (g : s.hub.Accepts r F i) (q : Q (s.hub.written r f)) : Completes c s Q := by
  obtain ⟨grant, up⟩ := g
  have up' : (s.hub.dropLatch r.master).up (F.pg + i) = true := up
  refine completes_reg (f := fun h => h.when (h.up (F.pg + i)) f) e grant ?_
  have w : (s.hub.written r fun h => h.when (h.up (F.pg + i)) f) = s.hub.written r f := by
    unfold Hub.written
    dsimp only
    rw [up', Hub.when_true]
  rw [w]
  exact q

theorem bit_of_rd {g h : Hub} {F : Fld} {n i b : Nat} (e : g.rd F i b = h.rd F i b) : g.bit F n i b = h.bit F n i b :=
  congrArg (Nat.testBit · n) e

theorem bit_wrBit_place {h : Hub} {F G : Fld} {n m : Nat} {v : Bool} {i b j c : Nat} (e : F.place ≠ G.place) :
    (h.wrBit F n v i b).bit G m j c = h.bit G m j c := bit_of_rd (rd_wrBit_place e)

/-- A first, enabled error of a page that is no display page loads the capture, sets ISTAT.ERR and starts the escalation (R38). -/
theorem raise_of_first {h : Hub} {pg n : Nat} {x : Cap} (p : secondPage pg = false) (new : h.bit HDR.ESTAT n pg = false)
    (en : h.bit HDR.EEN n pg = true) (nd : pg < 0x70 ∨ 0x7B < pg) :
    h.raise pg n x = (((h.wrBit HDR.ESTAT n true pg).capture pg x).irq pg 31).startEsc pg := by
  unfold Hub.raise Hub.raiseBit
  rw [p, new, en, if_neg (by simp), if_neg (by simp only [Bool.and_eq_true, decide_eq_true_eq]; omega), if_pos rfl]

theorem rd_startEsc {h : Hub} {G : Fld} {pg j c : Nat} (e1 : HDR.hEscRun.place ≠ G.place) (e2 : HDR.hEscAgain.place ≠ G.place) :
    (h.startEsc pg).rd G j c = h.rd G j c := by
  unfold Hub.startEsc
  split
  · rfl
  · rw [rd_wr_place e2, rd_wr_place e1]

theorem Hub.Canon.wrOpen {h : Hub} (C : h.Canon) {F : Fld} {o : Option Nat} {pg : Nat} : (h.wrOpen F o pg).Canon := by
  cases o
  · exact C.wrFree
  · exact C.wr

/-- The capture holds the address, where the error gives one. -/
theorem Hub.Canon.rd_capture_addrLo {h : Hub} (C : h.Canon) {pg a : Nat} {x : Cap} (free : h.on HDR.ECAP_VALID pg = false)
    (ha : x.lo = some a) : (h.capture pg x).rd HDR.ECAP_ADDR_LO pg = a % 2 ^ 32 := by
  unfold Hub.capture
  rw [free, if_neg Bool.false_ne_true, ha]
  iterate 3 rw [rd_wr_place (by decide)]
  iterate 4 rw [rd_wrOpen_place (by decide)]
  exact C.rd_wr

/-- The capture holds the code, where the error gives one. -/
theorem Hub.Canon.rd_capture_code {h : Hub} (C : h.Canon) {pg a : Nat} {x : Cap} (free : h.on HDR.ECAP_VALID pg = false)
    (ha : x.code = some a) : (h.capture pg x).rd HDR.ECAP_CODE pg = a % 2 ^ 8 := by
  unfold Hub.capture
  rw [free, if_neg Bool.false_ne_true, ha]
  iterate 3 rw [rd_wr_place (by decide)]
  exact C.wrOpen.wrOpen.wrOpen.wrOpen.rd_wr

/-- What a first, enabled error captures, read back from the page's ECAP fields (R38). -/
theorem Hub.Canon.rd_raise_capture {h : Hub} (C : h.Canon) {pg n a k : Nat} {x : Cap} (p : secondPage pg = false)
    (nd : pg < 0x70 ∨ 0x7B < pg) (en : h.bit HDR.EEN n pg = true) (new : h.bit HDR.ESTAT n pg = false)
    (free : h.on HDR.ECAP_VALID pg = false) (ha : x.lo = some a) (hk : x.code = some k) :
    (h.raise pg n x).rd HDR.ECAP_ADDR_LO pg = a % 2 ^ 32 ∧ (h.raise pg n x).rd HDR.ECAP_CODE pg = k % 2 ^ 8 := by
  have free' : (h.wrBit HDR.ESTAT n true pg).on HDR.ECAP_VALID pg = false := by
    unfold Hub.on
    rw [rd_wrBit_place (by decide)]
    exact free
  rw [raise_of_first p new en nd]
  iterate 2 rw [rd_startEsc (by decide) (by decide), rd_irq_place (by decide)]
  exact ⟨C.wrBit.rd_capture_addrLo free' ha, C.wrBit.rd_capture_code free' hk⟩

/-! ### Gates (R81, R83) -/

/-- A bit of CLK.GATE lies in its field, and the fields of CLK.GATE lie apart from GSTAT and from the mark of a gate that waits. -/
theorem gateFld_place (n : Fin 13) : (gateFld n).2 < (gateFld n).1.w ∧ (gateFld n).1.place ≠ CLK.hStopping.place ∧
    (gateFld n).1.place ≠ CLK.GSTAT_RUN.place := by
  revert n
  decide

/-- A gate closed while its clock runs waits for the clock to stop. -/
theorem Hub.Canon.bit_gateOff {h : Hub} (C : h.Canon) (n : Fin 13) (run : h.bit CLK.GSTAT_RUN n = true) :
    (h.gateOff n).bit (gateFld n).1 (gateFld n).2 = false ∧ (h.gateOff n).bit CLK.hStopping n = true := by
  obtain ⟨inFld, stopping, -⟩ := gateFld_place n
  have e : h.gateOff n = (h.wrBit (gateFld n).1 (gateFld n).2 false).wrBit CLK.hStopping n true := by
    unfold Hub.gateOff
    rw [run]
    rfl
  rw [e]
  exact ⟨(bit_wrBit_place stopping.symm).trans (C.bit_wrBit inFld), C.wrBit.bit_wrBit (n.isLt.trans (by decide))⟩

/-- A gate opened lets its clock run, unless the node state holds it off. -/
theorem Hub.Canon.bit_gateOn {h : Hub} (C : h.Canon) (n : Fin 13) :
    (h.gateOn n).bit (gateFld n).1 (gateFld n).2 = true ∧ (h.gateOn n).bit CLK.GSTAT_RUN n = h.gateMayRun n := by
  obtain ⟨inFld, stopping, gstat⟩ := gateFld_place n
  unfold Hub.gateOn
  dsimp only
  constructor
  · rw [bit_wrBit_place gstat.symm, bit_wrBit_place stopping.symm]
    exact C.bit_wrBit inFld
  · exact C.wrBit.wrBit.bit_wrBit n.isLt

theorem gateSet_of_up {h : Hub} {n : Nat} {run : Bool} (up : h.up 1 = true) :
    h.gateSet n run = if run then h.gateOn n else h.gateOff n := by
  unfold Hub.gateSet
  rw [up]
  rfl

/-! ### PLLs (R82, R84) -/

/-- A head that goes on from LOCK keeps its PLL's lock. -/
theorem rd_setHead_pllLock {h : Hub} {n st : Nat} (e : 2 ≤ st) : (h.setHead n st).rd CLK.PLLSTAT_LOCK = h.rd CLK.PLLSTAT_LOCK := by
  unfold Hub.setHead
  dsimp only
  rw [Hub.refreshBudget_rd (by decide), show decide (st < 2) = false from decide_eq_false (by omega), Hub.when_false]
  refine (rd_when_of_rd (f := fun h => ((h.wr DHD.STAT_VBLANK 0 n).wrBit DSP.VBSTAT_VBLANK n false).wr DHD.FIFO_LEVEL 0 n) ?_).trans ?_
  · rw [rd_wr_place (by decide), rd_wrBit_place (by decide), rd_wr_place (by decide)]
  · rw [rd_wr_place (by decide), rd_wrBit_place (by decide)]

theorem rd_waitLink_pllLock (h : Hub) (n : Nat) : (h.waitLink n).rd CLK.PLLSTAT_LOCK = h.rd CLK.PLLSTAT_LOCK := by
  unfold Hub.waitLink
  split
  · rfl
  · split
    · dsimp only
      rw [rd_wr_place (by decide), rd_wr_place (by decide), rd_wrBit_place (by decide), rd_wr_place (by decide),
        rd_setHead_pllLock (by decide)]
    · exact Hub.raise_rd (by decide)

/-- The head that a pixel PLL's lock lets go on leaves the PLLs' lock and node time alone. -/
theorem rd_headGoesOn {h : Hub} {n : Nat} {F : Fld} (e : F = CLK.PLLSTAT_LOCK ∨ F = TOP.NTCTL_RUN) :
    ((h.setHead n 2).waitLink n).rd F = h.rd F := by
  rcases e with rfl | rfl
  · rw [rd_waitLink_pllLock, rd_setHead_pllLock (by decide)]
  · rw [Hub.waitLink_rd (by decide), Hub.setHead_rd (by decide)]

/-- A PLL that reaches lock shows it, and with PLL_SYS node time runs (R705). -/
theorem Hub.Canon.lock_pllLocked {h : Hub} (C : h.Canon) (n : Fin 13) :
    (h.pllLocked n).bit CLK.PLLSTAT_LOCK n = true ∧ (n.val = 0 → (h.pllLocked n).rd TOP.NTCTL_RUN = 1) := by
  have onward {c : Bool} {g : Hub} {k : Nat} {F : Fld} (e : F = CLK.PLLSTAT_LOCK ∨ F = TOP.NTCTL_RUN) :
      (g.when c fun h => (h.setHead k 2).waitLink k).rd F = g.rd F :=
    rd_when_of_rd (f := fun h => (h.setHead k 2).waitLink k) (rd_headGoesOn e)
  unfold Hub.pllLocked
  dsimp only
  constructor
  · rw [bit_of_rd (onward (.inl rfl)), bit_of_rd (rd_when_of_rd ?_)]
    · exact C.bit_wrBit n.isLt
    · rw [Hub.refreshDomains_rd (by decide), rd_wr_place (by decide), rd_wr_place (by decide)]
  · intro z
    rw [onward (.inr rfl), z, show ((0 : Nat) == 0) = true from rfl, Hub.when_true, Hub.refreshDomains_rd (by decide),
      rd_wr_place (by decide), C.wrBit.rd_wr]
    rfl

/-! ### Capacity (R64 to R66, R72) -/

theorem effCode_le (h : Hub) : h.effCode ≤ 16 := by
  have band : ∀ mv, bandCode mv ≤ 16 := fun mv => Nat.min_le_left _ _
  have base := (Nat.min_le_right (h.rd FIL.VSET_CODE) _).trans (band (h.rd FIL.VMEAS_MIN_MV))
  unfold Hub.effCode
  dsimp only
  split
  · exact (Nat.min_le_left _ _).trans base
  · exact base

theorem gcapCt_lt {n : Nat} (h : n ≤ 16) : gcapCt n < 2 ^ 18 := by
  have : ∀ n < 17, gcapCt n < 2 ^ 18 := by decide
  exact this n (by omega)

theorem effCode_of_rd {g h : Hub} (e : ∀ F ∈ [FIL.VSET_CODE, FIL.VMEAS_MIN_MV, FIL.VSET_RAMPING, FIL.hStart], g.rd F = h.rd F) :
    g.effCode = h.effCode := by
  unfold Hub.effCode Hub.on
  rw [e FIL.VSET_CODE (by decide), e FIL.VMEAS_MIN_MV (by decide), e FIL.VSET_RAMPING (by decide), e FIL.hStart (by decide)]

/-- EFFCODE, GCAP and GUARD written as they follow their inputs: what `refreshCap` does before it looks at CAP_SHORT. -/
def Hub.capFollow (h : Hub) : Hub :=
  h.wr FIL.EFFCODE_CODE h.effCode |>.wr FIL.GCAP_OPS_RATE (gcapOps h.effCode) |>.wr FIL.GCAP_CT_CT (gcapCt h.effCode)
    |>.wr FIL.GUARD_LIMIT (gcapCt h.effCode - h.rd FIL.HOLD_CT)
    |>.wr FIL.hShort (bnat (decide (gcapCt h.effCode - h.rd FIL.HOLD_CT < h.rd FIL.ADMLOAD_CT)))

/-- The fields that `capFollow` writes. -/
def capFlds : List Fld := [FIL.EFFCODE_CODE, FIL.GCAP_OPS_RATE, FIL.GCAP_CT_CT, FIL.GUARD_LIMIT, FIL.hShort]

theorem rd_capFollow_place {h : Hub} {F : Fld} {i b : Nat} (e : ∀ G ∈ capFlds, G.place ≠ F.place) :
    h.capFollow.rd F i b = h.rd F i b := by
  simp only [capFlds, List.forall_mem_cons] at e
  obtain ⟨e1, e2, e3, e4, e5, -⟩ := e
  unfold Hub.capFollow
  rw [rd_wr_place e5, rd_wr_place e4, rd_wr_place e3, rd_wr_place e2, rd_wr_place e1]

/-- CAP_SHORT is an error of page 2 and a notice to the crowns, on a fresh entry into its condition (R74, R268). -/
theorem refreshCap_eq (h : Hub) : ∃ (short : Bool) (lim load : Nat), h.refreshCap =
    h.capFollow.when short fun g => (g.raise 2 0).crtNotice 2 14 0 lim load :=
  ⟨decide (gcapCt h.effCode - h.rd FIL.HOLD_CT < h.rd FIL.ADMLOAD_CT) && !h.on FIL.hShort, _, _, rfl⟩

theorem rd_refreshCap {h : Hub} {F : Fld} (k : F.kind = Kind.fil) {i b : Nat} : h.refreshCap.rd F i b = h.capFollow.rd F i b := by
  obtain ⟨short, lim, load, e⟩ := refreshCap_eq h
  rw [e]
  refine rd_when_of_rd (f := fun g => (g.raise 2 0).crtNotice 2 14 0 lim load) ?_
  rw [Hub.crtNotice_rd (by rw [k]; decide), Hub.raise_rd (by rw [k]; decide)]

theorem rd_refreshCap_place {h : Hub} {F : Fld} (k : F.kind = Kind.fil) (e : ∀ G ∈ capFlds, G.place ≠ F.place) {i b : Nat} :
    h.refreshCap.rd F i b = h.rd F i b := (rd_refreshCap k).trans (rd_capFollow_place e)

theorem effCode_refreshCap (h : Hub) : h.refreshCap.effCode = h.effCode :=
  effCode_of_rd fun F hF => by
    have input : ∀ F ∈ [FIL.VSET_CODE, FIL.VMEAS_MIN_MV, FIL.VSET_RAMPING, FIL.hStart],
        F.kind = Kind.fil ∧ ∀ G ∈ capFlds, G.place ≠ F.place := by decide
    exact rd_refreshCap_place (input F hF).1 (input F hF).2

/-- EFFCODE and GCAP read as the code in effect gives them. -/
theorem Hub.Canon.rd_refreshCap_code {h : Hub} (C : h.Canon) : h.refreshCap.rd FIL.EFFCODE_CODE = h.refreshCap.effCode ∧
    h.refreshCap.rd FIL.GCAP_CT_CT = gcapCt h.refreshCap.effCode := by
  have le := effCode_le h
  rw [effCode_refreshCap, rd_refreshCap (by decide), rd_refreshCap (by decide)]
  unfold Hub.capFollow
  constructor
  · iterate 4 rw [rd_wr_place (by decide)]
    rw [C.rd_wr]
    exact Nat.mod_eq_of_lt (by simp only [FIL.EFFCODE_CODE]; omega)
  · iterate 2 rw [rd_wr_place (by decide)]
    rw [C.wr.wr.rd_wr]
    exact Nat.mod_eq_of_lt (gcapCt_lt le)

/-- An error bit that is set stays set as capacity follows. -/
theorem Hub.Canon.bit_refreshCap_of_bit {h : Hub} (C : h.Canon) {m q : Nat} (hm : m < 32) (e : h.bit HDR.ESTAT m q = true) :
    h.refreshCap.bit HDR.ESTAT m q = true := by
  have follow : h.capFollow.bit HDR.ESTAT m q = true := (bit_of_rd (rd_capFollow_place (by decide))).trans e
  obtain ⟨short, lim, load, eq⟩ := refreshCap_eq h
  rw [eq]
  cases short
  · exact follow
  · rw [Hub.when_true, bit_of_rd (Hub.crtNotice_rd (by decide))]
    exact Hub.Canon.bit_raise_of_bit C.wr.wr.wr.wr.wr hm follow

/-! ### The voltage (R75, R76) -/

/-- The present code: the one that the ramp last reached, while one runs (R76). -/
def Hub.vsetPresent (h : Hub) : Nat := if h.on FIL.VSET_RAMPING then h.rd FIL.hVid else h.rd FIL.VSET_CODE

/-- A write of `v` to VSET asks for a code above 16, or lowers the voltage below what the load admitted needs (R75). -/
def Hub.vsetRefuses (h : Hub) (v : Nat) : Prop :=
  16 < v % 32 ∨ v % 32 < h.vsetPresent ∧ gcapCt (v % 32) < h.rd FIL.ADMLOAD_CT + h.rd FIL.HOLD_CT

theorem not_vsetRefuses {h : Hub} {v : Nat} (top : v % 32 ≤ 16)
    (load : h.vsetPresent ≤ v % 32 ∨ h.rd FIL.ADMLOAD_CT + h.rd FIL.HOLD_CT ≤ gcapCt (v % 32)) : ¬ h.vsetRefuses v := by
  unfold Hub.vsetRefuses
  omega

/-- What a refused write of `v` to VSET captures. -/
def vsetCap (r : Req) (v : Nat) : Cap :=
  { lo := some (v % 32), master := some (masterNum r.master), atype := some 1, code := some 1,
    hi := some (if r.master = .fabric then r.node % 2 ^ 14 else 0) }

theorem vsetWrite_of_refuses {h : Hub} {v : Nat} (x : h.vsetRefuses v) (r : Req) :
    h.vsetWrite r v = h.raise 2 2 (vsetCap r v) := by
  unfold Hub.vsetWrite
  rw [show bits v 0 5 = v % 32 by simp [bits]]
  exact if_pos (by simpa [Hub.vsetRefuses, Hub.vsetPresent] using x)

theorem vsetWrite_of_not_refuses {h : Hub} {v : Nat} (x : ¬ h.vsetRefuses v) (r : Req) : h.vsetWrite r v =
    if v % 32 = h.rd FIL.hVid then ((h.wr FIL.VSET_CODE (v % 32)).wr FIL.VSET_RAMPING 0 |>.wr FIL.hStart (v % 32)).refreshCap
    else ((h.wr FIL.hStart (h.rd FIL.hVid)).wr FIL.VSET_CODE (v % 32) |>.wr FIL.VSET_RAMPING 1).refreshCap := by
  unfold Hub.vsetWrite
  rw [show bits v 0 5 = v % 32 by simp [bits]]
  exact if_neg (by simpa [Hub.vsetRefuses, Hub.vsetPresent] using x)

/-- A write of VSET that is not refused takes effect. -/
theorem Hub.Canon.rd_vsetWrite_code {h : Hub} (C : h.Canon) {v : Nat} (x : ¬ h.vsetRefuses v) (r : Req) :
    (h.vsetWrite r v).rd FIL.VSET_CODE = v % 32 := by
  rw [vsetWrite_of_not_refuses x]
  split
  · rw [rd_refreshCap_place (by decide) (by decide), rd_wr_place (by decide), rd_wr_place (by decide), C.rd_wr]
    exact Nat.mod_mod _ _
  · rw [rd_refreshCap_place (by decide) (by decide), rd_wr_place (by decide), C.wr.rd_wr]
    exact Nat.mod_mod _ _

/-- A write of another code than the regulator's present one starts a ramp from there. -/
theorem Hub.Canon.vsetWrite_ramp {h : Hub} (C : h.Canon) {v : Nat} (x : ¬ h.vsetRefuses v) (r : Req) (ne : v % 32 ≠ h.rd FIL.hVid) :
    (h.vsetWrite r v).rd FIL.VSET_RAMPING = 1 ∧ (h.vsetWrite r v).rd FIL.EFFCODE_CODE = (h.vsetWrite r v).effCode ∧
      (h.vsetWrite r v).rd FIL.hVid = h.rd FIL.hVid := by
  rw [vsetWrite_of_not_refuses x, if_neg ne]
  refine ⟨?_, C.wr.wr.wr.rd_refreshCap_code.1, ?_⟩
  · rw [rd_refreshCap_place (by decide) (by decide), C.wr.wr.rd_wr]
    rfl
  · rw [rd_refreshCap_place (by decide) (by decide)]
    iterate 3 rw [rd_wr_place (by decide)]

/-- The code that the next step of a ramp reaches. -/
def Hub.vidNext (h : Hub) : Nat := if h.rd FIL.hVid < h.rd FIL.VSET_CODE then h.rd FIL.hVid + 1 else h.rd FIL.hVid - 1

theorem vidStep_of_ramping {h : Hub} (e : h.on FIL.VSET_RAMPING = true) : h.vidStep =
    (if h.vidNext = h.rd FIL.VSET_CODE then (h.wr FIL.hVid h.vidNext).wr FIL.VSET_RAMPING 0 |>.wr FIL.hStart (h.rd FIL.VSET_CODE)
      else h.wr FIL.hVid h.vidNext).refreshCap := if_pos e

theorem Hub.Canon.rd_vidStep_vid {h : Hub} (C : h.Canon) (e : h.on FIL.VSET_RAMPING = true) :
    h.vidStep.rd FIL.hVid = h.vidNext % 2 ^ 64 := by
  rw [vidStep_of_ramping e, rd_refreshCap_place (by decide) (by decide)]
  split
  · rw [rd_wr_place (by decide), rd_wr_place (by decide)]
    exact C.rd_wr
  · exact C.rd_wr

theorem Hub.Canon.rd_vidStep_effCode {h : Hub} (C : h.Canon) (e : h.on FIL.VSET_RAMPING = true) :
    h.vidStep.rd FIL.EFFCODE_CODE = h.vidStep.effCode := by
  rw [vidStep_of_ramping e]
  split
  · exact C.wr.wr.wr.rd_refreshCap_code.1
  · exact C.wr.rd_refreshCap_code.1

/-- The step that reaches the code asked for ends the ramp. -/
theorem Hub.Canon.rd_vidStep_ramping {h : Hub} (C : h.Canon) (e : h.on FIL.VSET_RAMPING = true)
    (last : h.vidNext = h.rd FIL.VSET_CODE) : h.vidStep.rd FIL.VSET_RAMPING = 0 := by
  rw [vidStep_of_ramping e, if_pos last, rd_refreshCap_place (by decide) (by decide), rd_wr_place (by decide), C.wr.rd_wr]
  rfl

/-! ### Measurements (R66, R68, R70, R87) -/

theorem Hub.Canon.rd_hsrateUpdate {h : Hub} (C : h.Canon) (rate : Nat) : (h.hsrateUpdate rate).rd FIL.HSRATE_RATE = rate % 65536 := by
  unfold Hub.hsrateUpdate
  extract_lets n ops win done room util g
  have e : g.rd FIL.HSRATE_RATE = rate % 65536 := by
    show (((_ : Hub).wr FIL.hLow n).wr FIL.UTIL_PERMILLE util).rd FIL.HSRATE_RATE = _
    rw [rd_wr_place (by decide), rd_wr_place (by decide)]
    exact rd_wr_same (h := { h with filWin := win }) C.regs _ _ _ _
  split
  · rw [Hub.raise_rd (by decide)]
    exact e
  · exact e

/-- The third update in a row below GCAP_OPS is RATE_LOW. -/
theorem Hub.Canon.bit_hsrateUpdate_rateLow {h : Hub} (C : h.Canon) {rate : Nat} (two : h.rd FIL.hLow = 2)
    (low : rate < h.rd FIL.GCAP_OPS_RATE) : (h.hsrateUpdate rate).bit HDR.ESTAT 1 2 = true := by
  unfold Hub.hsrateUpdate
  extract_lets n ops win done room util g
  have third : n = 3 := by
    show (if rate < h.rd FIL.GCAP_OPS_RATE then h.rd FIL.hLow + 1 else 0) = 3
    rw [if_pos low, two]
  have Cwin : ({ h with filWin := win } : Hub).Canon := ⟨C.regs, C.tab, C.fmem⟩
  rw [if_pos third]
  exact Hub.Canon.bit_raise Cwin.wr.wr.wr rfl (by decide)

/-- A measurement recorded, with UNDERVOLT on a fresh entry below the lowest band. -/
def Hub.vmeasured (h : Hub) (mv minMv : Nat) : Hub :=
  ((h.wr FIL.VMEAS_MV mv).wr FIL.VMEAS_MIN_MV minMv |>.wr FIL.hUv (bnat (decide (minMv < 705)))).when
    (decide (minMv < 705) && !h.on FIL.hUv) fun g => g.raise 2 3

theorem vmeasUpdate_eq (h : Hub) (mv minMv : Nat) : h.vmeasUpdate mv minMv = (h.vmeasured mv minMv).refreshCap := rfl

theorem Hub.Canon.vmeasured {h : Hub} (C : h.Canon) (mv minMv : Nat) : (h.vmeasured mv minMv).Canon :=
  Hub.Canon.when C.wr.wr.wr (Hub.raise_canon C.wr.wr.wr)

theorem rd_vmeasured {h : Hub} {mv minMv : Nat} {F : Fld} (k : F.kind = Kind.fil) : (h.vmeasured mv minMv).rd F =
    ((h.wr FIL.VMEAS_MV mv).wr FIL.VMEAS_MIN_MV minMv |>.wr FIL.hUv (bnat (decide (minMv < 705)))).rd F :=
  rd_when_of_rd (f := fun g => g.raise 2 3) (Hub.raise_rd (by rw [k]; decide))

theorem Hub.Canon.rd_vmeasUpdate {h : Hub} (C : h.Canon) (mv minMv : Nat) :
    (h.vmeasUpdate mv minMv).rd FIL.VMEAS_MV = mv % 1024 ∧ (h.vmeasUpdate mv minMv).rd FIL.VMEAS_MIN_MV = minMv % 1024 := by
  rw [vmeasUpdate_eq]
  constructor
  · rw [rd_refreshCap_place (by decide) (by decide), rd_vmeasured (by decide), rd_wr_place (by decide), rd_wr_place (by decide)]
    exact C.rd_wr
  · rw [rd_refreshCap_place (by decide) (by decide), rd_vmeasured (by decide), rd_wr_place (by decide)]
    exact C.wr.rd_wr

theorem Hub.Canon.bit_vmeasUpdate_undervolt {h : Hub} (C : h.Canon) (mv : Nat) {minMv : Nat} (low : minMv < 705)
    (fresh : h.on FIL.hUv = false) : (h.vmeasUpdate mv minMv).bit HDR.ESTAT 3 2 = true := by
  rw [vmeasUpdate_eq]
  refine (C.vmeasured mv minMv).bit_refreshCap_of_bit (by decide) ?_
  unfold Hub.vmeasured
  rw [decide_eq_true low, fresh]
  exact Hub.Canon.bit_raise C.wr.wr.wr rfl (by decide)

theorem tjUpdate_eq (h : Hub) (t : Nat) : h.tjUpdate t =
    ((h.wr FIL.TJ_TEMP t).wr FIL.hHot (bnat (decide (t > 580)))).when (decide (t > 580) && !h.on FIL.hHot) fun g => g.raise 2 5 := rfl

theorem Hub.Canon.rd_tjUpdate {h : Hub} (C : h.Canon) (t : Nat) : (h.tjUpdate t).rd FIL.TJ_TEMP = t % 1024 := by
  rw [tjUpdate_eq, rd_when_of_rd (f := fun g => g.raise 2 5) (Hub.raise_rd (by decide)), rd_wr_place (by decide)]
  exact C.rd_wr

theorem Hub.Canon.bit_tjUpdate_hot {h : Hub} (C : h.Canon) {t : Nat} (hot : 580 < t) (fresh : h.on FIL.hHot = false) :
    (h.tjUpdate t).bit HDR.ESTAT 5 2 = true := by
  rw [tjUpdate_eq, decide_eq_true hot, fresh]
  exact Hub.Canon.bit_raise C.wr.wr rfl (by decide)

/-- SNAP holds the counts, the utilisation, the replica rate and the temperature of the moment, one word each. -/
theorem Hub.Canon.rd_filSnap {h : Hub} (C : h.Canon) :
    h.filSnap.rd (FIL.SNAP_DATA.word 0) = h.rd FIL.OPS_LO_COUNT % 2 ^ 32 ∧
    h.filSnap.rd (FIL.SNAP_DATA.word 1) = h.rd FIL.OPS_HI_COUNT % 2 ^ 32 ∧
    h.filSnap.rd (FIL.SNAP_DATA.word 2) = h.rd FIL.UTIL_PERMILLE % 2 ^ 32 ∧
    h.filSnap.rd (FIL.SNAP_DATA.word 3) = h.rd FIL.HSRATE_RATE % 2 ^ 32 ∧
    h.filSnap.rd (FIL.SNAP_DATA.word 5) = h.rd FIL.TJ_TEMP % 2 ^ 32 := by
  unfold Hub.filSnap
  refine ⟨?_, ?_, ?_, ?_, C.wr.wr.wr.wr.wr.rd_wr⟩
  · iterate 5 rw [rd_wr_place (by decide)]
    exact C.rd_wr
  · iterate 4 rw [rd_wr_place (by decide)]
    exact C.wr.rd_wr
  · iterate 3 rw [rd_wr_place (by decide)]
    exact C.wr.wr.rd_wr
  · iterate 2 rw [rd_wr_place (by decide)]
    exact C.wr.wr.wr.rd_wr

end Sys2Proof.Machine

open Sys2Proof Sys2Proof.Machine

/-- Settles O43: a write that `vsetRefuses` says is refused comes to error 2 of page 2 alone, and any other takes effect. -/
theorem voltageWriteRefusedBelowTheAdmittedLoad : Obligations.VoltageWriteRefusedBelowTheAdmittedLoad := by
  intro s I
  have CL (m : MasterId) : (s.hub.dropLatch m).Canon := Hub.Canon.dropLatch I
  constructor
  · rintro r v _ A rfl refuse
    have x : (s.hub.dropLatch r.master).vsetRefuses v := refuse
    refine completes_go (f := fun h => h.vsetWrite r v) rfl A ?_
    unfold Hub.bit
    simp only [Hub.written_rd, vsetWrite_of_refuses x]
    refine ⟨Hub.raise_rd (by decide), Hub.raise_rd (by decide), (CL _).bit_raise rfl (by decide), ?_⟩
    rintro ⟨en, new, free⟩
    obtain ⟨lo, code⟩ := (CL r.master).rd_raise_capture (pg := 2) (n := 2) (x := vsetCap r v) rfl (by decide) en new free rfl rfl
    exact ⟨by rw [lo]; omega, code⟩
  · rintro r v _ A rfl top load
    exact completes_go (f := fun h => h.vsetWrite r v) rfl A
      ((CL _).rd_vsetWrite_code (not_vsetRefuses (h := s.hub.dropLatch r.master) top load) r)

/-- Settles O1, clause by clause, from what each operation leaves in the registers named. -/
theorem clockAndCapacityCommandsComplete : Obligations.ClockAndCapacityCommandsComplete := by
  intro s I
  have C : s.hub.Canon := I
  have CL (m : MasterId) : (s.hub.dropLatch m).Canon := C.dropLatch
  refine ⟨?gateOff, ?stop, ?timeout, ?gateOn, ?unlock, ?relock, ?lock, ?refLoss, ?xtalLoss, ?xtalStart, ?vset, ?vid, ?hsrate, ?vmeas,
    ?tj, ?snap⟩
  case gateOff =>
    intro r n G up run
    refine completes_reg (f := fun h => h.gateSet n false) rfl G ?_
    have e : (s.hub.dropLatch r.master).gateSet n false = (s.hub.dropLatch r.master).gateOff n := gateSet_of_up up
    unfold Hub.bit
    simp only [Hub.written_rd, e]
    exact (CL r.master).bit_gateOff n run
  case stop =>
    intro n stopping idle empty
    refine completes_when (p := fun h => h.bit CLK.hStopping n && !h.islandBusy n && (gateFifos n).all fun a =>
        !h.on FIL.hFifo 0 a && (Tab.get [] (if a = 8 then 8 else a - 1) h.stalled).isEmpty)
      (f := fun _ h => (h.wrBit CLK.hStopping n false).wrBit CLK.GSTAT_RUN n false) rfl ?_ ⟨C.wrBit.bit_wrBit n.isLt, ?_⟩
    · rw [stopping, idle, List.all_eq_true.2 fun a ha => ?_]
      · rfl
      · obtain ⟨fifo, stalled⟩ := empty a ha
        rw [stalled, Hub.on, fifo]
        rfl
    · exact (bit_wrBit_place (by decide)).trans (C.bit_wrBit (n.isLt.trans (by decide)))
  case timeout =>
    intro n stopping
    obtain ⟨inFld, apart, -⟩ := gateFld_place n
    refine completes_when (p := fun h => h.bit CLK.hStopping n)
      (f := fun _ h => ((h.wrBit (gateFld n).1 (gateFld n).2 true).wrBit CLK.hStopping n false).raise 1 3 { lo := some (2 ^ n.val) })
      rfl stopping ⟨?_, ?_, Hub.Canon.bit_raise C.wrBit.wrBit rfl (by decide)⟩
    · rw [bit_of_rd (Hub.raise_rd (by rw [gateFld_kind]; decide)), bit_wrBit_place apart.symm]
      exact C.bit_wrBit inFld
    · rw [bit_of_rd (Hub.raise_rd (by decide))]
      exact C.wrBit.bit_wrBit (n.isLt.trans (by decide))
  case gateOn =>
    intro r n G up
    refine completes_reg (f := fun h => h.gateSet n true) rfl G ?_
    have e : (s.hub.dropLatch r.master).gateSet n true = (s.hub.dropLatch r.master).gateOn n := gateSet_of_up up
    unfold Hub.bit
    simp only [Hub.written_rd, e]
    exact (CL r.master).bit_gateOn n
  case unlock =>
    intro n locked
    refine completes_when (p := fun h => h.bit CLK.PLLSTAT_LOCK n)
      (f := fun _ h => ((h.wrBit CLK.PLLSTAT_LOCK n false |>.wrBit CLK.hUnlocked n true).raise 1 0 { lo := some (2 ^ n.val) }).when
        (n.val == 0) fun h => h.wr TOP.NTCTL_RUN 0) rfl locked ⟨?_, ?_, fun z => ?_⟩
    · rw [bit_of_rd (rd_when_of_rd (f := fun h => h.wr TOP.NTCTL_RUN 0) (rd_wr_place (by decide))),
        bit_of_rd (Hub.raise_rd (by decide)), bit_wrBit_place (by decide)]
      exact C.bit_wrBit n.isLt
    · rw [bit_of_rd (rd_when_of_rd (f := fun h => h.wr TOP.NTCTL_RUN 0) (rd_wr_place (by decide)))]
      exact Hub.Canon.bit_raise C.wrBit.wrBit rfl (by decide)
    · rw [show (n.val == 0) = true from beq_iff_eq.2 z]
      exact (Hub.raise_canon C.wrBit.wrBit).rd_wr
  case relock =>
    intro n lost
    refine completes_when (p := fun h => h.bit CLK.hUnlocked n)
      (f := fun _ h => (h.wrBit CLK.PLLSTAT_LOCK n true |>.wrBit CLK.hUnlocked n false |>.wr CLK.REFSTAT_REF_OK 1).when
        (n.val == 0) fun h => h.wr TOP.NTCTL_RUN 1) rfl lost ⟨?_, fun z => ?_⟩
    · rw [bit_of_rd (rd_when_of_rd (f := fun h => h.wr TOP.NTCTL_RUN 1) (rd_wr_place (by decide))),
        bit_of_rd (rd_wr_place (by decide)), bit_wrBit_place (by decide)]
      exact C.bit_wrBit n.isLt
    · rw [show (n.val == 0) = true from beq_iff_eq.2 z]
      exact C.wrBit.wrBit.wr.rd_wr
  case lock =>
    intro n may unlocked held
    exact completes_when (p := fun h => h.pllMayRun n && !h.bit CLK.PLLSTAT_LOCK n && !h.bit CLK.hUnlocked n)
      (f := fun _ h => h.pllLocked n) rfl (by rw [may, unlocked, held]; rfl) (C.lock_pllLocked n)
  case refLoss =>
    exact completes_act (f := fun h => (h.wr CLK.REFSTAT_REF_OK 0).raise 1 1) rfl
      ⟨(Hub.raise_rd (by decide)).trans C.rd_wr, C.wr.bit_raise rfl (by decide)⟩
  case xtalLoss =>
    exact completes_act (f := fun h => ((h.wr CLK.REFSTAT_XTAL_OK 0).wr CLK.REFSTAT_AON_RC 1).raise 1 2) rfl
      ⟨(Hub.raise_rd (by decide)).trans ((rd_wr_place (by decide)).trans C.rd_wr), (Hub.raise_rd (by decide)).trans C.wr.rd_wr,
        C.wr.wr.bit_raise rfl (by decide)⟩
  case xtalStart =>
    exact completes_act (f := fun h => (h.wr CLK.REFSTAT_XTAL_OK 1).wr CLK.REFSTAT_AON_RC (h.rd CLK.AONCLK_FORCE_RC)) rfl
      ⟨(rd_wr_place (by decide)).trans C.rd_wr, C.wr.rd_wr⟩
  case vset =>
    intro r v A top ne load
    have x : ¬ (s.hub.dropLatch r.master).vsetRefuses v := not_vsetRefuses top load
    exact completes_go (f := fun h => h.vsetWrite r v) rfl A ⟨(CL _).rd_vsetWrite_code x r, (CL _).vsetWrite_ramp x r ne⟩
  case vid =>
    intro on ramping
    refine completes_when (p := fun h => h.domOn 2) (f := fun _ h => h.vidStep) rfl on
      ⟨fun up => ?_, fun down => ?_, fun last => C.rd_vidStep_ramping ramping ?_, C.rd_vidStep_effCode ramping⟩
    · rw [C.rd_vidStep_vid ramping, Hub.vidNext, if_pos up]
    · rw [C.rd_vidStep_vid ramping, Hub.vidNext, if_neg (by omega)]
    · unfold Hub.vidNext
      split <;> omega
  case hsrate =>
    exact fun rate on => completes_when (p := fun h => h.domOn 2) (f := fun _ h => h.hsrateUpdate rate) rfl on
      ⟨C.rd_hsrateUpdate rate, C.bit_hsrateUpdate_rateLow⟩
  case vmeas =>
    intro mv minMv on
    obtain ⟨rdMv, rdMin⟩ := C.rd_vmeasUpdate mv minMv
    obtain ⟨eff, cap⟩ := (C.vmeasured mv minMv).rd_refreshCap_code
    exact completes_when (p := fun h => h.domOn 2) (f := fun _ h => h.vmeasUpdate mv minMv) rfl on
      ⟨rdMv, rdMin, eff, cap, C.bit_vmeasUpdate_undervolt mv⟩
  case tj =>
    exact fun t on => completes_when (p := fun h => h.domOn 2) (f := fun _ h => h.tjUpdate t) rfl on
      ⟨C.rd_tjUpdate t, C.bit_tjUpdate_hot⟩
  case snap => exact fun r A => completes_go (f := Hub.filSnap) rfl A (CL _).rd_filSnap
end

section
/-! PROOFS. Two statements on lanes and ports that the model does not meet, each with the node that shows it: counts that the
invariant lets stand at values where the model's numbers run out (R104, R110). -/

namespace Sys2Proof.Machine

open Sys2Proof

/-- What a command that always completes completes with. -/
theorem of_completes_act {c : Instr} {s : State} {f : Hub → Hub} {Q : Hub → Prop} (e : exec c s = s.act f)
    (H : Completes c s Q) : Q (f s.hub) := by
  obtain ⟨t, next, -, q⟩ := H
  have st : { s with hub := f s.hub } = t := Host.Outcome.next.inj (e.symm.trans next)
  subst st
  exact q

theorem exec_tsReceived (l : Fin 32) (inverted : Bool) (block lag : Nat) (s : State) : exec (.tsReceived l inverted block lag) s =
    s.act fun h => h.when (h.up (0x20 + l)) fun h => h.tsIn l inverted block lag := rfl

theorem exec_portFormTimer (p : Fin 8) (s : State) : exec (.portFormTimer p) s =
    s.act fun h => h.when (h.portOn p && h.rd OPT.STAT_STATE p == 0 && h.on OPT.hReady p) fun h =>
      (h.wr OPT.hFormDue 1 p).tryForm p := rfl

/-- A node whose lane 0 is in ACQUIRE and finds its polarity, with the count of consecutive valid TS at its highest value. -/
def tsCountAtTop : State :=
  poweredNode [(HDR.PSTAT_READY, 0x20, 1), (OLN.STAT_STATE, 0, 2), (OLN.CFG_AUTO_POL, 0, 1), (OLN.hTsRun, 0, 2 ^ 64 - 1)] []

/-- One more valid TS takes the count to 0, and the lane stays in ACQUIRE. -/
theorem lane_tsIn_tsCountAtTop : (tsCountAtTop.hub.tsIn 0 false (ctlBlock 0x1E 0) 0).lane 0 = 2 := by decide +kernel

/-- Refutes O4: the count of consecutive valid TS is held in 64 bits, and the invariant does not keep it below 64. From 2^64 - 1 the next
valid TS wraps it to 0, where the clause on `tsReceived` has the lane in CONFIRM. -/
theorem not_laneCommandsComplete : ¬ Obligations.LaneCommandsComplete := by
  intro h
  obtain ⟨-, -, -, -, -, -, ts, -⟩ := h tsCountAtTop (poweredNode_inv _ _)
  have up : tsCountAtTop.hub.up 0x20 = true := by decide +kernel
  have H := of_completes_act (exec_tsReceived _ _ _ _ _)
    (ts 0 false (ctlBlock 0x1E 0) 0 up (by decide +kernel) (by decide +kernel) (by decide +kernel) (by decide) (by decide))
  obtain ⟨-, -, -, -, confirm⟩ := H
  have lane : (tsCountAtTop.hub.when (tsCountAtTop.hub.up 0x20) fun h => h.tsIn 0 false (ctlBlock 0x1E 0) 0).lane 0 = 3 :=
    confirm (by decide +kernel)
  rw [up, Hub.when_true, lane_tsIn_tsCountAtTop] at lane
  exact absurd lane (by decide)

/-- A node whose port 0 is DOWN, enabled and ready, with lane 0 alone in READY and a lag of 2^32 + 49 blocks recorded for it. -/
def lagOutOfRange : State :=
  poweredNode [(HDR.PSTAT_READY, 0x10, 1), (HDR.PCTL_EN, 0x10, 1), (OPT.hReady, 0, 1), (OLN.STAT_STATE, 0, 4),
    (OLN.hLag, 0, 2 ^ 32 + 49)] []

/-- The port forms with no lane selected: the lane lies more than 48 blocks behind 2^32, where `earliest` begins. -/
theorem on_txSet_tryForm_lagOutOfRange : ((lagOutOfRange.hub.wr OPT.hFormDue 1 0).tryForm 0).on OPT.hTxSet 0 = false := by
  decide +kernel

/-- Lane 0 is the only one of port 0 that is READY. -/
theorem eq_zero_of_ready_lagOutOfRange : ∀ k < 4, lagOutOfRange.hub.lane (4 * 0 + k) = 4 → k = 0 := by decide +kernel

/-- Refutes O5: the clause on `portFormTimer` compares the READY lanes' lags with each other alone, while `earliest` starts from
2^32. A single lane whose lag is above 2^32 + 48 is not selected, and the port forms without a lane to transmit on. -/
theorem not_portLaneSetCommandsComplete : ¬ Obligations.PortLaneSetCommandsComplete := by
  intro h
  obtain ⟨form, -⟩ := h lagOutOfRange (poweredNode_inv _ _)
  have due : (lagOutOfRange.hub.portOn 0 && lagOutOfRange.hub.rd OPT.STAT_STATE 0 == 0 && lagOutOfRange.hub.on OPT.hReady 0) = true := by
    decide +kernel
  have partner : ∀ k : Nat, k < 4 → lagOutOfRange.hub.lane (4 * 0 + k) = 4 →
      lagOutOfRange.hub.rd OLN.STAT_PARTNER_LANE (4 * 0 + k) = k ∧ lagOutOfRange.hub.rd OLN.STAT_PARTNER_PORT (4 * 0 + k) = 0 := by
    decide +kernel
  have close : ∀ k : Nat, k < 4 → ∀ j : Nat, j < 4 → lagOutOfRange.hub.lane (4 * 0 + k) = 4 → lagOutOfRange.hub.lane (4 * 0 + j) = 4 →
      lagOutOfRange.hub.rd OLN.hLag (4 * 0 + k) ≤ lagOutOfRange.hub.rd OLN.hLag (4 * 0 + j) + 48 := by
    intro k hk j hj rk rj
    obtain rfl := eq_zero_of_ready_lagOutOfRange k hk rk
    obtain rfl := eq_zero_of_ready_lagOutOfRange j hj rj
    exact Nat.le_add_right _ _
  have H := of_completes_act (exec_portFormTimer _ _)
    (form 0 0 (by decide +kernel) (by decide +kernel) ⟨0, by decide, by decide +kernel⟩ partner close)
  obtain ⟨-, txSet, -⟩ := H
  have on : ((lagOutOfRange.hub.when (lagOutOfRange.hub.portOn 0 && lagOutOfRange.hub.rd OPT.STAT_STATE 0 == 0 &&
      lagOutOfRange.hub.on OPT.hReady 0) fun h => (h.wr OPT.hFormDue 1 0).tryForm 0)).on OPT.hTxSet 0 = true := txSet
  rw [due, Hub.when_true, on_txSet_tryForm_lagOutOfRange] at on
  exact absurd on Bool.false_ne_true

end Sys2Proof.Machine
end

section
/-! PROOFS. Two statements on the link layer that the model does not meet, each with the node that shows it (R146, R150, R155). -/

namespace Sys2Proof.Machine

open Sys2Proof

theorem exec_cap (p : Fin 8) (tok : Nat) (payload : Bytes) (s : State) : exec (.cap p tok payload) s =
    s.act fun h => h.when (h.linkUp p) fun h => h.capIn p tok payload := rfl

/-- A node whose port 0 is in CAPX. -/
def capxNode : State := poweredNode [(HDR.PSTAT_READY, 0x10, 1), (OPT.STAT_STATE, 0, 1)] []

/-- A CAP payload that advertises 2^16 - 1 credits on VC0 and reports 0 otherwise. -/
def fullCredits : Bytes := List.replicate 16 0 ++ [0xFF, 0xFF]

/-- TXCRED keeps the low 12 bits of the credits advertised. -/
theorem rd_capIn_fullCredits : (capxNode.hub.capIn 0 0 fullCredits).rd OPT.TXCRED_A_VC0 0 = 2 ^ 12 - 1 := by decide +kernel

/-- Refutes O6: a CAP advertises credits in 16 bits, and the clause on `cap` has TXCRED take them whole, but a field of TXCRED has 12
bits. Of 2^16 - 1 credits on VC0 the port takes over 2^12 - 1. -/
theorem not_linkSetupCommandsComplete : ¬ Obligations.LinkSetupCommandsComplete := by
  intro h
  obtain ⟨cap, -⟩ := h capxNode (poweredNode_inv _ _)
  have linkUp : capxNode.hub.linkUp 0 = true := by decide +kernel
  obtain ⟨-, -, -, -, partner⟩ := of_completes_act (exec_cap _ _ _ _) (cap 0 0 fullCredits linkUp (by decide +kernel))
  obtain ⟨-, -, -, -, -, credits⟩ := partner (by decide +kernel)
  obtain ⟨vc0, -⟩ := credits (by decide +kernel)
  have taken : (capxNode.hub.when (capxNode.hub.linkUp 0) fun h => h.capIn 0 0 fullCredits).rd OPT.TXCRED_A_VC0 0 =
      leAt (padTo 64 fullCredits) 16 2 := vc0
  rw [linkUp, Hub.when_true, rd_capIn_fullCredits] at taken
  exact absurd taken (by decide)

theorem exec_replayTimeout (p : Fin 8) (s : State) : exec (.replayTimeout p) s = s.act fun h => h.when (h.portOn p) fun h =>
    match Tab.get [] p.val h.replay with
    | [] => h
    | f :: _ => (h.cnt OPT.CNT_RTO_COUNT p).resendFrom p f true := rfl

/-- A frame that lane 0 carried last. -/
def unackedFrame : RFrame := { ext := 5, ncell := 1, lmc := false, slots := [], lane := 0 }

/-- Node `h` with one frame of port 0 not acknowledged. -/
def Hub.awaitingAck (h : Hub) : Hub := { h with replay := [(0, [unackedFrame])] }

theorem Hub.Canon.awaitingAck {h : Hub} (C : h.Canon) : h.awaitingAck.Canon := ⟨C.regs, C.tab, C.fmem⟩

/-- A node whose port 0 is UP on lane 0 alone, to which 63 resends are charged. The lane's receiver is frozen, so that it adapts to
no open values as it is retired. -/
def lastLaneCharged : State :=
  { hub := (poweredNode [(HDR.PSTAT_READY, 0x10, 1), (OPT.STAT_STATE, 0, 3), (OLN.STAT_STATE, 0, 5), (OLN.RXCTL_FREEZE, 0, 1),
      (OLN.hCharge, 0, 63)] []).hub.awaitingAck }

theorem lastLaneCharged_inv : lastLaneCharged.Inv := Hub.Canon.awaitingAck (poweredNode_inv _ _)

/-- The 64th charge retires lane 0 and takes the port DOWN, which ends the resend. -/
theorem rd_resendFrom_lastLaneCharged :
    ((lastLaneCharged.hub.cnt OPT.CNT_RTO_COUNT 0).resendFrom 0 unackedFrame true).rd OPT.hResend 0 = 0 := by decide +kernel

/-- Refutes O8: the clause on `replayTimeout` has a resend under way at the end, but the resend is charged to the lane that last
carried the frame, and the 64th charge retires it. Where it is the port's last lane the port goes DOWN, and the resend ends
with the link state (R145, R155, R156). -/
theorem not_linkFrameCommandsComplete : ¬ Obligations.LinkFrameCommandsComplete := by
  intro h
  obtain ⟨-, -, timeout, -⟩ := h lastLaneCharged lastLaneCharged_inv
  have on : lastLaneCharged.hub.portOn 0 = true := by decide +kernel
  obtain ⟨resend, -⟩ := of_completes_act (exec_replayTimeout _ _) (timeout 0 unackedFrame [] on rfl)
  have due : (lastLaneCharged.hub.when (lastLaneCharged.hub.portOn 0) fun h =>
      (h.cnt OPT.CNT_RTO_COUNT 0).resendFrom 0 unackedFrame true).rd OPT.hResend 0 = 1 := resend
  rw [on, Hub.when_true, rd_resendFrom_lastLaneCharged] at due
  exact absurd due (by decide)

end Sys2Proof.Machine
end

section
/-! PROOFS. Power requests, time transfer and key arming of a port (R159 to R168): what each leaves in the registers and the queue
named. -/

namespace Sys2Proof.Machine

open Sys2Proof

/-! ### Link management cells (R141) -/

/-- A cell raised joins the port's queue at its end. -/
theorem lmcQ_lmcSend (h : Hub) (p typ tok : Nat) (payload : Bytes) : Tab.get [] p (h.lmcSend p typ tok payload).lmcQ =
    Tab.get [] p h.lmcQ ++ [{ typ := typ, tok := tok, payload := payload }] :=
  Tab.get_ins_same _ _ _ _

theorem rd_lmcSend (h : Hub) (p typ tok : Nat) (payload : Bytes) (F : Fld) (i b : Nat) :
    (h.lmcSend p typ tok payload).rd F i b = h.rd F i b := rfl

/-- The next TOKEN of port `p`. -/
def Hub.tokAfter (h : Hub) (p : Nat) : Nat := (h.rd OPT.hTok p + 1) % 2 ^ 16

theorem tokAfter_lt (h : Hub) (p : Nat) : h.tokAfter p < 2 ^ 16 := Nat.mod_lt _ (by decide)

theorem nextTok_eq (h : Hub) (p : Nat) : h.nextTok p = (h.tokAfter p, h.wr OPT.hTok (h.tokAfter p) p) := rfl

/-! ### Power requests (R159, R160) -/

theorem Hub.Canon.rd_pmGo {h : Hub} (C : h.Canon) {p l2 : Nat} (up : h.rd OPT.STAT_STATE p = 3) (idle : h.on OPT.hPm p = false) :
    (h.pmGo p l2).rd OPT.hPm p = 1 ∧ (h.pmGo p l2).rd OPT.PM_STATE p = 1 ∧ (h.pmGo p l2).rd OPT.hPmL2 p = l2 % 2 ^ 64 := by
  have e : h.pmGo p l2 = (((h.wr OPT.hPm 1 p).wr OPT.hPmHold 1 p).wr OPT.PM_STATE 1 p).wr OPT.hPmL2 l2 p := by
    unfold Hub.pmGo
    rw [up, idle]
    rfl
  rw [e]
  refine ⟨?_, ?_, C.wr.wr.wr.rd_wr⟩
  · rw [rd_wr_place (by decide), rd_wr_place (by decide), rd_wr_place (by decide)]
    exact C.rd_wr
  · rw [rd_wr_place (by decide)]
    exact C.wr.wr.rd_wr

theorem pmSend_eq (h : Hub) (p : Nat) : h.pmSend p = (((h.wr OPT.hTok (h.tokAfter p) p).wr OPT.hPm 2 p).wr OPT.hPmTok (h.tokAfter p) p).lmcSend
    p 5 (h.tokAfter p) (natLe 1 (h.rd OPT.hPmL2 p)) := rfl

theorem Hub.Canon.rd_pmSend {h : Hub} (C : h.Canon) (p : Nat) :
    (h.pmSend p).rd OPT.hPm p = 2 ∧ (h.pmSend p).rd OPT.hPmTok p = h.tokAfter p := by
  rw [pmSend_eq, rd_lmcSend, rd_lmcSend]
  refine ⟨?_, C.wr.wr.rd_wr.trans (Nat.mod_eq_of_lt ((tokAfter_lt h p).trans (by decide)))⟩
  rw [rd_wr_place (by decide)]
  exact C.wr.rd_wr

/-- A request for a state that the port takes part in holds the port. -/
theorem Hub.Canon.rd_pmReqIn {h : Hub} (C : h.Canon) {p tok : Nat} {l2 : Bool}
    (ok : h.on (if l2 then OPT.CFG_PM_L2_OK else OPT.CFG_PM_L1_OK) p = true) :
    (h.pmReqIn p tok l2).rd OPT.hPmPart p = 1 ∧ (h.pmReqIn p tok l2).rd OPT.PM_STATE p = 1 ∧
      (h.pmReqIn p tok l2).rd OPT.hPmPartL2 p = bnat l2 := by
  unfold Hub.pmReqIn
  rw [if_pos ok]
  refine ⟨?_, C.wr.wr.wr.wr.rd_wr, ?_⟩
  · rw [rd_wr_place (by decide), rd_wr_place (by decide), rd_wr_place (by decide), rd_wr_place (by decide)]
    exact C.rd_wr
  · rw [rd_wr_place (by decide), rd_wr_place (by decide)]
    exact C.wr.wr.rd_wr.trans (by cases l2 <;> rfl)

theorem pmReqIn_of_off {h : Hub} {p tok : Nat} {l2 : Bool}
    (off : h.on (if l2 then OPT.CFG_PM_L2_OK else OPT.CFG_PM_L1_OK) p = false) :
    h.pmReqIn p tok l2 = h.lmcSend p 6 tok (natLe 1 1 ++ natLe 1 (bnat l2)) := by
  unfold Hub.pmReqIn
  rw [if_neg (by rw [off]; decide)]

theorem Hub.Canon.rd_pmAckOut {h : Hub} (C : h.Canon) (p : Nat) : (h.pmAckOut p).rd OPT.hPmPart p = 2 :=
  C.rd_wr (F := OPT.hPmPart) (v := 2)

/-- A request refused or timed out is over. -/
theorem Hub.Canon.rd_pmRefused {h : Hub} (C : h.Canon) (p : Nat) : (h.pmRefused p).rd OPT.hPm p = 0 := by
  unfold Hub.pmRefused Hub.pmResume
  rw [rd_when_of_rd (rd_wr_place (by decide)), rd_when_of_rd]
  · exact C.rd_wr
  · rw [rd_wr_place (by decide), rd_wr_place (by decide)]

theorem Hub.Canon.pmRefused {h : Hub} (C : h.Canon) (p : Nat) : (h.pmRefused p).Canon :=
  Hub.pmRefused_keeps (bears_canon 0x10010) (Sub.refl _) C

theorem Hub.Canon.rd_pmAckIn_accepted {h : Hub} (C : h.Canon) {p tok state : Nat} (sent : h.rd OPT.hPm p = 2)
    (token : h.rd OPT.hPmTok p = tok) : (h.pmAckIn p tok 0 state).rd OPT.hPm p = 3 := by
  unfold Hub.pmAckIn
  rw [if_pos ⟨sent, token⟩, if_neg (by decide)]
  dsimp only
  rw [rd_wr_place (by decide)]
  exact C.rd_wr

theorem pmAckIn_of_refused {h : Hub} {p tok status state : Nat} (sent : h.rd OPT.hPm p = 2) (token : h.rd OPT.hPmTok p = tok)
    (refused : status ≠ 0) : h.pmAckIn p tok status state = (h.pmRefused p).irq (0x10 + p) 7 := by
  unfold Hub.pmAckIn
  rw [if_pos ⟨sent, token⟩, if_pos refused]

/-! ### Port pages -/

/-- A port's page raises interrupts. -/
theorem noIrq_port (p : Fin 8) : noIrq (0x10 + p) = false := by
  revert p; decide

/-- A port's page is not the second of a block. -/
theorem secondPage_port (p : Fin 8) : secondPage (0x10 + p) = false := by
  revert p; decide

/-! ### Interrupts of other pages -/

theorem rd_irq_inst {h : Hub} {pg n q : Nat} (e : pg ≠ q) : (h.irq pg n).rd HDR.ISTAT q = h.rd HDR.ISTAT q := by
  unfold Hub.irq
  split
  · rfl
  · exact rd_wr_inst (by omega)

/-- An error of a page that is no display page leaves the interrupts of every other page alone. -/
theorem rd_raise_inst {h : Hub} {pg n q : Nat} {x : Cap} (nd : pg < 0x70 ∨ 0x7B < pg) (e : pg ≠ q) :
    (h.raise pg n x).rd HDR.ISTAT q = h.rd HDR.ISTAT q := by
  unfold Hub.raise
  split
  · rfl
  · dsimp only
    rw [if_neg (by simp only [Bool.and_eq_true, decide_eq_true_eq]; omega)]
    unfold Hub.raiseBit
    dsimp only
    split
    · rw [rd_startEsc_place (.inr rfl), rd_irq_inst e, rd_capture_place (.inr rfl), rd_wrBit_place (by decide)]
    · exact rd_wrBit_place (by decide)

theorem rd_steer_inst {h : Hub} {offset : Int} {period q : Nat} (e : 0x68 ≠ q) :
    (h.steer offset period).rd HDR.ISTAT q = h.rd HDR.ISTAT q := by
  unfold Hub.steer Hub.stepTime
  dsimp only
  split
  · rw [rd_raise_inst (by decide) e, rd_cnt_place (by decide), rd_wr_place (by decide), rd_wr_place (by decide),
      rd_when_of_rd (rd_irq_inst e), rd_wr_place (by decide), rd_wr_place (by decide), rd_wr_place (by decide),
      rd_wr_place (by decide)]
  · rw [rd_wr_place (by decide), rd_wr_place (by decide), rd_wr_place (by decide), rd_when_of_rd (rd_irq_inst e),
      rd_wr_place (by decide), rd_wr_place (by decide), rd_wr_place (by decide), rd_wr_place (by decide)]

/-! ### Time (R161, R162) -/

theorem satSigned32_lt (z : Int) : Hub.satSigned32 z < 2 ^ 32 := by
  unfold Hub.satSigned32 ofSigned
  omega

/-- The offset and the delay that four times give (R162). -/
def offsetOf (t1 t2 t3 t4 : Int) : Int := ((t2 - t1) - (t4 - t3)) / 2
def delayOf (t1 t2 t3 t4 : Int) : Int := ((t2 - t1) + (t4 - t3)) / 2

/-- The four times, the offset and the delay shown at port `p`, and the interrupt raised. -/
def Hub.showTime (h : Hub) (p t1 t2 t3 t4 : Nat) : Hub :=
  (((h.each ((List.range 4).zip [t1, t2, t3, t4]) fun (j, t) h =>
      h.wr (OPT.T.word (2 * j)) (t % 2 ^ 32) p |>.wr (OPT.T.word (2 * j + 1)) (t / 2 ^ 32) p).wr
    OPT.OFFSET_NS (Hub.satSigned32 (offsetOf t1 t2 t3 t4)) p).wr OPT.DELAY_NS (Hub.satSigned32 (delayOf t1 t2 t3 t4)) p).irq (0x10 + p) 8

/-- Whether port `p` is the port that node time follows (R332). -/
def Hub.timeSource (h : Hub) (p : Nat) : Bool :=
  h.casOn && h.on CAS.TSTAT_SRC_VALID && h.rd CAS.TSTAT_SRCPORT == p && h.rd CAS.STAT_CROLE != 1

/-- A TIME cell between two markers whose times are known shows its result, which steers node time on the source port. -/
theorem timeIn_eq_of_known {h : Hub} {p t1 t4 : Nat} {payload : Bytes}
    (own : h.rd OPT.hMarkTime p (leAt (padTo 64 payload) 16 2 % 4096) = t1 + 1)
    (far : h.rd OPT.hRxMarkTime p (leAt (padTo 64 payload) 0 2 % 4096) = t4 + 1) :
    h.timeIn p payload = (h.showTime p t1 (leAt (padTo 64 payload) 24 8) (leAt (padTo 64 payload) 8 8) t4).when (h.timeSource p)
      fun g => g.steer (offsetOf t1 (leAt (padTo 64 payload) 24 8) (leAt (padTo 64 payload) 8 8) t4) (g.rd OPT.TIME_PERIOD_US p) := by
  unfold Hub.timeIn
  dsimp only
  rw [own, far, if_neg (by omega)]
  rfl

/-- The registers and the interrupt of a result stand after it has steered node time. -/
theorem Hub.Canon.rd_timeIn_of_known {h : Hub} (C : h.Canon) {p : Fin 8} {t1 t4 : Nat} {payload : Bytes}
    (own : h.rd OPT.hMarkTime p (leAt (padTo 64 payload) 16 2 % 4096) = t1 + 1)
    (far : h.rd OPT.hRxMarkTime p (leAt (padTo 64 payload) 0 2 % 4096) = t4 + 1) :
    let g := h.timeIn p payload
    let t2 := leAt (padTo 64 payload) 24 8
    let t3 := leAt (padTo 64 payload) 8 8
    g.rd OPT.OFFSET_NS p = Hub.satSigned32 (offsetOf t1 t2 t3 t4) ∧ g.rd OPT.DELAY_NS p = Hub.satSigned32 (delayOf t1 t2 t3 t4) ∧
      g.bit HDR.ISTAT 8 (0x10 + p) = true := by
  dsimp only
  rw [timeIn_eq_of_known own far]
  generalize leAt (padTo 64 payload) 24 8 = t2
  generalize leAt (padTo 64 payload) 8 8 = t3
  have CT : (h.each ((List.range 4).zip [t1, t2, t3, t4]) fun (j, t) h =>
      h.wr (OPT.T.word (2 * j)) (t % 2 ^ 32) p |>.wr (OPT.T.word (2 * j + 1)) (t / 2 ^ 32) p).Canon :=
    keep_each (fun _ _ C => C.wr.wr) C
  have other : 0x68 ≠ 0x10 + p.val := by omega
  refine ⟨?_, ?_, ?_⟩
  · rw [rd_when_of_rd (Hub.steer_rd (by decide)), Hub.showTime, rd_irq_place (by decide), rd_wr_place (by decide), CT.rd_wr]
    exact Nat.mod_eq_of_lt (satSigned32_lt _)
  · rw [rd_when_of_rd (Hub.steer_rd (by decide)), Hub.showTime, rd_irq_place (by decide), CT.wr.rd_wr]
    exact Nat.mod_eq_of_lt (satSigned32_lt _)
  · rw [bit_of_rd (rd_when_of_rd (rd_steer_inst other))]
    exact CT.wr.wr.bit_irq (noIrq_port p) (by decide)

/-! ### Keys (R164, R166) -/

theorem keySend_eq (h : Hub) (p phase span : Nat) : h.keySend p phase span =
    (((h.wr OPT.hTok (h.tokAfter p) p).wr OPT.hKeyTok (h.tokAfter p + 1) p).wr OPT.hKeySpan span p).lmcSend p 7 (h.tokAfter p)
      (natLe 8 phase ++ natLe 8 span) := rfl

theorem Hub.Canon.rd_keySend {h : Hub} (C : h.Canon) (p phase span : Nat) :
    (h.keySend p phase span).rd OPT.hKeySpan p = span % 2 ^ 64 ∧ (h.keySend p phase span).rd OPT.hKeyTok p = h.tokAfter p + 1 := by
  rw [keySend_eq, rd_lmcSend, rd_lmcSend]
  refine ⟨C.wr.wr.rd_wr, ?_⟩
  rw [rd_wr_place (by decide), C.wr.rd_wr]
  exact Nat.mod_eq_of_lt (Nat.lt_of_le_of_lt (tokAfter_lt h p) (by decide))

theorem armGo_of_not_armable {h : Hub} {p : Nat} {c : Cap} (keying : h.rd OPT.STAT_STATE p = 2)
    (bad : h.armable p (h.keySlot p true 0) = false) : h.armGo p c = h.raise (0x10 + p) 3 c := by
  unfold Hub.armGo
  rw [if_neg (by simp [keying]), if_pos (by simp [bad])]

theorem armGo_of_armable {h : Hub} {p : Nat} {c : Cap} (keying : h.rd OPT.STAT_STATE p = 2)
    (good : h.armable p (h.keySlot p true 0) = true) : h.armGo p c = h.keySend p 0 (h.rd OPT.hTxExt p / 16 + 1) := by
  unfold Hub.armGo
  rw [if_neg (by simp [keying]), if_neg (by simp [good])]

/-- A rollover begins with a KEY for the other phase. -/
theorem rollGo_of_armable {h : Hub} {p : Nat} {c : Cap} (up : h.rd OPT.STAT_STATE p = 3) (enc : h.on OPT.STAT_ENC p = true)
    (idle : h.on OPT.CRYPT_ROLL_BUSY p = false) (good : h.armable p (h.keySlot p true (1 - h.rd OPT.STAT_TXPH p)) = true) :
    h.rollGo p c = (h.wr OPT.CRYPT_ROLL_BUSY 1 p).keySend p (1 - h.rd OPT.STAT_TXPH p) (h.rd OPT.hTxExt p / 16 + 64) := by
  unfold Hub.rollGo
  dsimp only
  rw [if_neg (by simp [up, enc, idle]), if_neg (by simp [good])]

/-- The receive phase stands as KEYING ends. -/
theorem rd_armed_rxPhase (h : Hub) (p : Nat) : (h.armed p).rd OPT.STAT_RXPH p = h.rd OPT.STAT_RXPH p := by
  unfold Hub.armed Hub.goUp Hub.setPort
  refine rd_when_of_rd ?_
  rw [Hub.casPortUp_rd (by decide), Hub.refreshPoints_rd (by decide)]
  dsimp only
  split
  · exact rd_wr_place (by decide)
  · rw [rd_when_of_rd (rd_wr_place (by decide)), rd_irq_place (by decide), rd_wr_place (by decide), rd_wr_place (by decide)]

/-- A KEY in UP, once the direction is armed, agrees the span at which the receiver goes over to the other phase. -/
theorem Hub.Canon.rd_keyIn_armed {h : Hub} (C : h.Canon) {p tok phase span : Nat}
    (good : h.armable p (h.keySlot p false (phase % 2)) = true) (ahead : h.rd OPT.hRxExt p ≤ 16 * span)
    (arm : h.on OPT.hRxArm p = true) (up : h.rd OPT.STAT_STATE p = 3) :
    (h.keyIn p tok phase span).rd OPT.hRxRoll p = (span + 1) % 2 ^ 64 := by
  unfold Hub.keyIn
  dsimp only
  rw [good, decide_eq_true ahead, arm, up]
  exact Hub.Canon.rd_wr (Hub.lmcSend_canon C)

/-- The first KEY arms the direction. -/
theorem Hub.Canon.rd_keyIn_unarmed {h : Hub} (C : h.Canon) {p tok phase span : Nat}
    (good : h.armable p (h.keySlot p false (phase % 2)) = true) (ahead : h.rd OPT.hRxExt p ≤ 16 * span)
    (arm : h.on OPT.hRxArm p = false) :
    (h.keyIn p tok phase span).rd OPT.hRxArm p = (span + 1) % 2 ^ 64 ∧ (h.keyIn p tok phase span).rd OPT.STAT_RXPH p = phase % 2 := by
  have CK (payload : Bytes) : (h.lmcSend p 8 tok payload).Canon := Hub.lmcSend_canon C
  unfold Hub.keyIn
  dsimp only
  rw [good, decide_eq_true ahead, arm]
  constructor
  · refine (Hub.armed_rd (by decide)).trans ?_
    rw [rd_wr_place (by decide), rd_wr_place (by decide)]
    exact (CK _).rd_wr
  · exact (rd_armed_rxPhase _ p).trans (CK _).wr.wr.rd_wr

/-- An answer to the KEY sent ends the wait for it (R164, R166). -/
theorem Hub.Canon.rd_keyackIn {h : Hub} (C : h.Canon) {p tok status : Nat} (token : h.rd OPT.hKeyTok p = tok + 1) :
    let g := h.keyackIn p tok status
    g.rd OPT.hKeyTok p = 0 ∧ (h.on OPT.CRYPT_ROLL_BUSY p = true → status = 0 → g.rd OPT.hRoll p = 1) ∧
      (h.on OPT.CRYPT_ROLL_BUSY p = false → status = 0 → g.rd OPT.hTxArm p = (h.rd OPT.hKeySpan p + 1) % 2 ^ 64) ∧
      (h.on OPT.CRYPT_ROLL_BUSY p = true → status ≠ 0 → g.rd OPT.CRYPT_ROLL_BUSY p = 0) := by
  unfold Hub.keyackIn
  dsimp only
  rw [if_neg (not_not_intro token)]
  have ended : (h.wr OPT.hKeyTok 0 p).rd OPT.hKeyTok p = 0 := C.rd_wr
  cases busy : h.on OPT.CRYPT_ROLL_BUSY p <;> by_cases ok : status = 0
  · rw [if_neg Bool.false_ne_true, if_pos ok]
    refine ⟨?_, nofun, fun _ _ => ?_, nofun⟩
    · rw [Hub.armed_rd (by decide), rd_wr_place (by decide), rd_wr_place (by decide), ended]
    · rw [Hub.armed_rd (by decide), rd_wr_place (by decide)]
      exact C.wr.rd_wr
  · rw [if_neg Bool.false_ne_true, if_neg ok]
    exact ⟨ended, nofun, fun _ e => absurd e ok, nofun⟩
  · rw [if_pos rfl, if_pos ok]
    exact ⟨(rd_wr_place (by decide)).trans ended, fun _ _ => C.wr.rd_wr, nofun, fun _ e => absurd ok e⟩
  · rw [if_pos rfl, if_neg ok]
    exact ⟨(rd_wr_place (by decide)).trans ended, fun _ e => absurd e ok, nofun, fun _ _ => C.wr.rd_wr⟩

end Sys2Proof.Machine

open Sys2Proof Sys2Proof.Machine

/-- Settles O7, clause by clause, from what each operation leaves in the registers and the queue named. -/
theorem linkPowerTimeKeyCommandsComplete : Obligations.LinkPowerTimeKeyCommandsComplete := by
  intro s I
  have C : s.hub.Canon := I
  have CL (m : MasterId) : (s.hub.dropLatch m).Canon := C.dropLatch
  refine ⟨?pmRequest, ?pmReqSend, ?pmReq, ?pmAckSend, ?pmAck, ?pmTimeout, ?timeGo, ?timePeriod, ?time, ?cryptArm, ?key, ?keyack,
    ?cryptRoll⟩
  case pmRequest =>
    exact fun r p A up idle => completes_go (f := fun h => h.pmGo p (h.rd OPT.PM_TARGET p)) rfl A ((CL r.master).rd_pmGo up idle)
  case pmReqSend =>
    intro p on sent drained idle
    refine completes_when (p := fun h => h.portOn p && h.rd OPT.hPm p == 1 && h.drained p && !h.lanesBusy p)
      (f := fun _ h => h.pmSend p) rfl (by rw [on, sent, drained, idle]; rfl) ?_
    obtain ⟨pm, tok⟩ := C.rd_pmSend p
    exact ⟨pm, tok, lmcQ_lmcSend _ _ _ _ _⟩
  case pmReq =>
    intro p tok l2 on up
    refine completes_when (p := fun h => h.portOn p && h.rd OPT.STAT_STATE p == 3) (f := fun _ h => h.pmReqIn p tok l2) rfl
      (by rw [on, up]; rfl) ⟨C.rd_pmReqIn, fun off => ?_⟩
    rw [pmReqIn_of_off off]
    exact lmcQ_lmcSend _ _ _ _ _
  case pmAckSend =>
    exact fun p on asked drained idle => completes_when
      (p := fun h => h.portOn p && h.rd OPT.hPmPart p == 1 && h.drained p && !h.lanesBusy p) (f := fun _ h => h.pmAckOut p) rfl
      (by rw [on, asked, drained, idle]; rfl) ⟨C.rd_pmAckOut p, lmcQ_lmcSend _ _ _ _ _⟩
  case pmAck =>
    intro p tok status state on up sent token
    refine completes_when (p := fun h => h.portOn p && h.rd OPT.STAT_STATE p == 3) (f := fun _ h => h.pmAckIn p tok status state) rfl
      (by rw [on, up]; rfl) ⟨?_, fun refused => ?_⟩
    · rintro rfl
      exact C.rd_pmAckIn_accepted sent token
    · rw [pmAckIn_of_refused sent token refused, rd_irq_place (by decide)]
      exact ⟨C.rd_pmRefused p, (C.pmRefused p).bit_irq (noIrq_port p) (by decide)⟩
  case pmTimeout =>
    intro p on sent
    refine completes_when (p := fun h => h.portOn p && h.rd OPT.hPm p == 2) (f := fun _ h => (h.pmRefused p).raise (0x10 + p) 10) rfl
      (by rw [on, sent]; rfl) ⟨?_, (C.pmRefused p).bit_raise (secondPage_port p) (by decide)⟩
    rw [Hub.raise_rd (by decide)]
    exact C.rd_pmRefused p
  case timeGo =>
    intro r p A up
    refine completes_go (f := fun h => h.when (h.linkUp p) fun h => h.wr OPT.hMarkPend 1 p) rfl A ?_
    have up' : (s.hub.dropLatch r.master).linkUp p = true := up
    rw [Hub.written_rd, up', Hub.when_true]
    exact (CL r.master).rd_wr
  case timePeriod =>
    exact fun p up period => completes_when (p := fun h => h.linkUp p && h.on OPT.TIME_PERIOD_US p)
      (f := fun _ h => h.wr OPT.hMarkPend 1 p) rfl (by rw [up, period]; rfl) C.rd_wr
  case time =>
    intro p payload up own far
    obtain ⟨t1, e1⟩ := Nat.exists_eq_succ_of_ne_zero own
    obtain ⟨t4, e4⟩ := Nat.exists_eq_succ_of_ne_zero far
    refine completes_when (p := fun h => h.linkUp p) (f := fun _ h => h.timeIn p payload) rfl up ?_
    rw [e1, e4]
    have i1 : ((t1 + 1 : Nat) : Int) - 1 = t1 := by omega
    have i4 : ((t4 + 1 : Nat) : Int) - 1 = t4 := by omega
    dsimp only
    rw [Nat.succ_eq_add_one, Nat.succ_eq_add_one, i1, i4]
    exact C.rd_timeIn_of_known e1 e4
  case cryptArm =>
    intro r p A keying
    refine completes_go (f := fun h => h.armGo p (Hub.regCap r OPT.CRYPT_ARM p)) rfl A ⟨fun bad => ?_, fun good => ?_⟩
    · unfold Hub.bit
      rw [Hub.written_rd, armGo_of_not_armable (h := s.hub.dropLatch r.master) keying bad]
      exact (CL r.master).bit_raise (secondPage_port p) (by decide)
    · rw [Hub.written_rd, Hub.written_rd, armGo_of_armable (h := s.hub.dropLatch r.master) keying good]
      exact (CL r.master).rd_keySend p 0 _
  case key =>
    exact fun p tok phase span up good ahead => completes_when (p := fun h => h.linkUp p) (f := fun _ h => h.keyIn p tok phase span) rfl
      up ⟨C.rd_keyIn_armed good ahead, C.rd_keyIn_unarmed good ahead⟩
  case keyack =>
    exact fun p tok phase status up token => completes_when (p := fun h => h.linkUp p) (f := fun _ h => h.keyackIn p tok status) rfl up
      (C.rd_keyackIn token)
  case cryptRoll =>
    intro r p A up enc idle good
    refine completes_go (f := fun h => h.rollGo p (Hub.regCap r OPT.CRYPT_ROLL p)) rfl A ?_
    rw [Hub.written_rd, Hub.written_rd, rollGo_of_armable (h := s.hub.dropLatch r.master) up enc idle good]
    refine ⟨?_, ((CL r.master).wr.rd_keySend p _ _).1⟩
    rw [keySend_eq, rd_lmcSend, rd_wr_place (by decide), rd_wr_place (by decide), rd_wr_place (by decide)]
    exact (CL r.master).rd_wr
end

section
/-! PROOFS. The tunnel table, merge contexts and remote register access (R180 to R206): what each operation leaves in the words,
the registers and the lists that the statement names. -/

namespace Sys2Proof.Machine

open Sys2Proof

/-! ### Lists and tables -/

theorem Tab.find_ins_same {α : Type} (k : Nat) (v : α) (m : Tab α) : Tab.find k (Tab.ins k v m) = some v := by
  induction m with
  | nil => simp [Tab.ins, Tab.find]
  | cons p m ih =>
    obtain ⟨k', v'⟩ := p
    rw [Tab.ins]
    split
    · simp [Tab.find]
    · split
      · simp [Tab.find]
      · next h => rw [Tab.find, if_neg (Ne.symm h), ih]

theorem Tab.getD_getRun {α : Type} (d : α) (m : Tab α) : ∀ {n j : Nat} (k : Nat), j < n →
    (Tab.getRun d k n m).getD j d = Tab.get d (k + j) m
  | n + 1, 0, _, _ => rfl
  | n + 1, j + 1, k, h => by
    rw [Tab.getRun, List.getD_cons_succ, Tab.getD_getRun d m (k + 1) (Nat.lt_of_succ_lt_succ h)]
    congr 1
    omega

/-! ### Blocks and what they send -/

/-- A block that accepts work has its domain on. -/
theorem domOn_of_up {h : Hub} {pg : Nat} (up : h.up pg = true) : h.domOn (pageDom pg) = true := by
  unfold Hub.up at up
  simp only [Bool.and_eq_true] at up
  obtain ⟨⟨⟨on, -⟩, -⟩, -⟩ := up
  exact on

theorem ctlSend_of_domOn {h : Hub} (on : h.domOn 2 = true) (m : CtlMsg) : h.ctlSend m = { h with ctlOut := h.ctlOut ++ [m] } := by
  unfold Hub.ctlSend
  rw [on, Hub.when_true]

/-! ### Words of table entries (R50, R180) -/

theorem getD_tun (h : Hub) (i : Nat) {w : Nat} (hw : w < 8) : (h.tun i).getD w 0 = h.tword (tunAddr i + 4 * w) := by
  unfold Hub.tun Hub.twords Hub.tword
  rw [Tab.getD_getRun 0 h.tab _ hw]
  congr 1
  unfold tunAddr
  omega

theorem Hub.Canon.setTword {h : Hub} (C : h.Canon) {a v : Nat} : (h.setTword a v).Canon := ⟨C.regs, Tab.put_wf _ _ _ C.tab, C.fmem⟩
theorem Hub.Canon.setTfld {h : Hub} (C : h.Canon) {a lo w v : Nat} : (h.setTfld a lo w v).Canon := C.setTword
theorem Hub.Canon.setTwords {h : Hub} (C : h.Canon) {a : Nat} {ws : List Nat} : (h.setTwords a ws).Canon :=
  ⟨C.regs, Tab.putRun_wf _ _ _ C.tab, C.fmem⟩

theorem Hub.Canon.tword_setTword {h : Hub} (C : h.Canon) (a v : Nat) : (h.setTword a v).tword a = v % 2 ^ 32 :=
  Tab.get_put_same _ _ _ C.tab.1

theorem tword_setTword_ne {h : Hub} {a b v : Nat} (e : a / 4 ≠ b / 4) : (h.setTword a v).tword b = h.tword b :=
  Tab.get_put_ne _ _ e _ _

theorem rd_setTfld (h : Hub) (a lo w v : Nat) (F : Fld) (i b : Nat) : (h.setTfld a lo w v).rd F i b = h.rd F i b :=
  Hub.rd_with_tab _ _ _ _ _

theorem tword_wr (h : Hub) (F : Fld) (v i b a : Nat) : (h.wr F v i b).tword a = h.tword a := rfl

theorem Hub.Canon.tun_setTwords {h : Hub} (C : h.Canon) {i : Nat} {ws : List Nat} (len : ws.length = 8) :
    (h.setTwords (tunAddr i) ws).tun i = ws.map (· % 2 ^ 32) := by
  have run := Tab.getRun_putRun_same 0 (ws.map (· % 2 ^ 32)) (tunAddr i / 4) C.tab.1
  rw [List.length_map, len] at run
  exact run

/-- A field of `w` bits at bit `lo` that is written anew reads as the value. -/
theorem bits_setBits_same {x lo w v : Nat} : bits (setBits x lo w v) lo w = v % 2 ^ w := by
  have x1 := Nat.div_add_mod x (2 ^ lo)
  have x2 := Nat.div_add_mod (x / 2 ^ lo) (2 ^ w)
  have e : setBits x lo w v = 2 ^ lo * (2 ^ w * (x / 2 ^ lo / 2 ^ w) + v % 2 ^ w) + x % 2 ^ lo := by
    unfold setBits bits
    generalize x / 2 ^ lo = q at *
    generalize x % 2 ^ lo = m at *
    generalize 2 ^ lo = p at *
    generalize q % 2 ^ w = t at *
    generalize q / 2 ^ w = u at *
    subst x1
    rw [← x2, show p * (2 ^ w * u + t) + m = (p * (2 ^ w * u) + m) + t * p by ring, Nat.add_sub_cancel]
    ring
  unfold bits
  rw [e, Nat.mul_add_div (Nat.two_pow_pos lo), Nat.div_eq_of_lt (Nat.mod_lt x (Nat.two_pow_pos lo)), Nat.add_zero,
    Nat.mul_add_mod, Nat.mod_mod]

/-- A field within a mask reads as it did before. -/
theorem bits_masked {x m lo w : Nat} (e : bits m lo w = 2 ^ w - 1) (le : lo + w ≤ 32) :
    bits ((x &&& m) % 2 ^ 32) lo w = bits x lo w := by
  rw [bits_mod_word le]
  unfold bits at *
  rw [Nat.and_div_two_pow, Nat.and_mod_two_pow, e, Nat.and_two_pow_sub_one_eq_mod, Nat.mod_mod]

/-- A word that is not the last of its entry stays as a new time stamp is taken. -/
theorem tword_setTfld_stamp (h : Hub) (i v : Nat) {w : Nat} (hw : w < 7) :
    (h.setTfld (tunAddr i + 28) 8 16 v).tword (tunAddr i + 4 * w) = h.tword (tunAddr i + 4 * w) :=
  tword_setTword_ne (by unfold tunAddr; omega)

/-! ### Entries of the tunnel table (R181, R195, R196) -/

theorem state_tun (h : Hub) (i : Nat) : (h.tun i).state = bits (h.tword (tunAddr i)) 23 2 := by
  unfold Ent.state
  rw [getD_tun h i (by decide)]
  rfl

theorem tunState_of_ne {h : Hub} {i st : Nat} (ne : (h.tun i).state ≠ st) : h.tunState i st =
    (((h.setTfld (tunAddr i) 23 2 st).setTfld (tunAddr i + 28) 8 16 h.stampMs).wr TUN.FREE_COUNT
      (h.rd TUN.FREE_COUNT + bnat (st == 0) - bnat ((h.tun i).state == 0))).when (st = 0 && (h.tun i).merge) fun g =>
        g.freeContext (h.tun i).twnctx := by
  unfold Hub.tunState
  dsimp only
  rw [if_neg ne]
  rfl

theorem tab_when_freeContext (h : Hub) (c : Bool) (ctx : Nat) : (h.when c fun g => g.freeContext ctx).tab = h.tab := by
  cases c <;> rfl

theorem tun_of_tab {g h : Hub} (e : g.tab = h.tab) (i : Nat) : g.tun i = h.tun i := by
  unfold Hub.tun Hub.twords
  rw [e]

/-- An entry moved to a state is in it. -/
theorem Hub.Canon.state_tunState {h : Hub} (C : h.Canon) (i : Nat) {st : Nat} (hst : st < 4) : ((h.tunState i st).tun i).state = st := by
  by_cases e : (h.tun i).state = st
  · unfold Hub.tunState
    dsimp only
    rw [if_pos e, e]
  · rw [tunState_of_ne e, tun_of_tab (tab_when_freeContext _ _ _), state_tun, tword_wr]
    have first : ((h.setTfld (tunAddr i) 23 2 st).setTfld (tunAddr i + 28) 8 16 h.stampMs).tword (tunAddr i) =
        (h.setTfld (tunAddr i) 23 2 st).tword (tunAddr i) := tword_setTfld_stamp _ i _ (w := 0) (by decide)
    rw [first, Hub.setTfld, C.tword_setTword, bits_mod_word (by decide), bits_setBits_same]
    exact Nat.mod_eq_of_lt hst

theorem rd_freeContext_tun {h : Hub} {ctx : Nat} {F : Fld} {i b : Nat} (k : F.kind = Kind.tun) :
    (h.freeContext ctx).rd F i b = h.rd F i b := Hub.freeContext_rd (by rw [k]; decide)

/-- Of the tunnel page, an entry that changes state moves TUN.FREE alone. -/
theorem rd_tunState {h : Hub} {i st : Nat} {F : Fld} {j b : Nat} (k : F.kind = Kind.tun) (e : TUN.FREE_COUNT.place ≠ F.place) :
    (h.tunState i st).rd F j b = h.rd F j b := by
  by_cases s : (h.tun i).state = st
  · unfold Hub.tunState
    dsimp only
    rw [if_pos s]
  · rw [tunState_of_ne s, rd_when_of_rd (rd_freeContext_tun k), rd_wr_place e, rd_setTfld, rd_setTfld]

theorem ctlOut_tunState (h : Hub) (i st : Nat) : (h.tunState i st).ctlOut = h.ctlOut := Hub.tunState_same.ctlOut (by decide)

theorem domOn_tunState (h : Hub) (i st d : Nat) : (h.tunState i st).domOn d = h.domOn d := bit_of_rd (Hub.tunState_rd (by decide))

/-- An entry that passes the checks and takes the place of a FREE one stands as written, its reserved bits at 0. -/
theorem tunReplace_of_free {h : Hub} {i : Nat} {ws : Ent} {c : Cap} (good : h.entBad i ws = false) (free : (h.tun i).state = 0)
    (used : ws.state ≠ 0) : h.tunReplace i ws c =
      ((h.setTwords (tunAddr i) (maskWords 0 i ws)).setTfld (tunAddr i + 28) 8 16 h.stampMs).wr TUN.FREE_COUNT
        (h.rd TUN.FREE_COUNT + bnat (ws.state == 0) - bnat ((h.tun i).state == 0)) := by
  have z : (decide (ws.state = 0) && Ent.merge (h.tun i)) = false := by rw [decide_eq_false used, Bool.false_and]
  unfold Hub.tunReplace
  dsimp only
  rw [good, if_neg Bool.false_ne_true, if_neg (free ▸ used.symm), z, if_neg Bool.false_ne_true]

theorem Hub.Canon.getD_tunReplace_of_free {h : Hub} (C : h.Canon) {i : Nat} {ws : Ent} {c : Cap} (good : h.entBad i ws = false)
    (free : (h.tun i).state = 0) (used : ws.state ≠ 0) (len : ws.length = 8) {w : Nat} (hw : w < 7) :
    ((h.tunReplace i ws c).tun i).getD w 0 = (ws.getD w 0 &&& tableMask 0 w) % 2 ^ 32 := by
  have len' : (maskWords 0 i ws).length = 8 := by simp [maskWords, len]
  rw [tunReplace_of_free good free used, getD_tun _ i (by omega), tword_wr, tword_setTfld_stamp _ i _ hw, ← getD_tun _ i (by omega),
    C.tun_setTwords len']
  have hw8 : w < ws.length := by omega
  simp [maskWords, List.getD_eq_getElem?_getD, hw8]

theorem length_pendingEntry (entry : List Nat) : (pendingEntry entry).length = 8 := rfl

theorem getD_pendingEntry (entry : List Nat) : (pendingEntry entry).getD 0 0 = setBits (entry.getD 0 0 % 2 ^ 32) 23 2 1 ∧
    (pendingEntry entry).getD 1 0 = entry.getD 1 0 % 2 ^ 32 := by
  simp only [pendingEntry, List.getD_cons_zero, List.getD_cons_succ, and_self]

theorem state_pendingEntry (entry : List Nat) : (pendingEntry entry).state = 1 := by
  rw [Ent.state, (getD_pendingEntry entry).1, bits_setBits_same]
  rfl

theorem tid_pendingEntry (entry : List Nat) : (pendingEntry entry).tid = Ent.tid entry := by
  rw [Ent.tid, (getD_pendingEntry entry).1, Ent.tid]
  generalize entry.getD 0 0 = x
  unfold setBits bits
  omega

theorem egress_pendingEntry (entry : List Nat) : (pendingEntry entry).egress = Ent.egress entry := by
  rw [Ent.egress, (getD_pendingEntry entry).2, bits_mod_word (by decide), Ent.egress]

/-- The entry that a set-up installs in place of a FREE one. -/
theorem Hub.Canon.tun_tunReplace_pendingEntry {h : Hub} (C : h.Canon) {i : Nat} {entry : Ent} (c : Cap)
    (good : h.entBad i (pendingEntry entry) = false) (free : (h.tun i).state = 0) :
    let e := (h.tunReplace i (pendingEntry entry) c).tun i
    e.state = 1 ∧ e.tid = Ent.tid entry ∧ e.egress = Ent.egress entry := by
  have used : (pendingEntry entry).state ≠ 0 := by rw [state_pendingEntry]; decide
  have word {w : Nat} (hw : w < 7) := C.getD_tunReplace_of_free (c := c) good free used (length_pendingEntry entry) hw
  refine ⟨?_, ?_, ?_⟩
  · rw [Ent.state, word (by decide), bits_masked (by decide) (by decide)]
    exact state_pendingEntry entry
  · rw [Ent.tid, word (by decide), bits_masked (by decide) (by decide)]
    exact tid_pendingEntry entry
  · rw [Ent.egress, word (by decide), bits_masked (by decide) (by decide)]
    exact egress_pendingEntry entry

/-- A set-up that nothing stands against installs its entry as PENDING (R195). -/
theorem setup_of_free {h : Hub} {src i : Nat} {entry : Ent} (crown : h.isCrown src = true) (new : h.tunFind (Ent.tid entry) = none)
    (way : (Hub.tunWays (Ent.tid entry)).find? (fun j => (h.tun j).state == 0) = some i)
    (good : h.entBad i (pendingEntry entry) = false) (plain : Ent.merge (pendingEntry entry) = false) :
    h.setup src entry = (0, i, h.tunReplace i (pendingEntry entry) Hub.fwTabCap) := by
  have tid := tid_pendingEntry entry
  rw [← tid] at new way
  unfold Hub.setup
  dsimp only
  show (if (!h.isCrown src) = true then _ else match h.tunFind (pendingEntry entry).tid with
    | some i => _
    | none => match (Hub.tunWays (pendingEntry entry).tid).find? fun i => (h.tun i).state == 0 with
      | none => _
      | some i => if (pendingEntry entry).merge = true then _
        else (if h.entBad i (pendingEntry entry) = true then 2 else 0, i, h.tunReplace i (pendingEntry entry) Hub.fwTabCap)) = _
  rw [crown, new, way]
  simp [plain, good]

/-! ### Answers of the tunnel table (R194) -/

theorem tunAck_of_domOn {h : Hub} (on : h.domOn 2 = true) (src tok st typ tid idx : Nat) : h.tunAck src tok st typ tid idx =
    { h with ctlOut := h.ctlOut ++ [⟨0x13, true, src, tok,
      natLe 1 st ++ natLe 1 typ ++ natLe 2 0 ++ natLe 4 tid ++ natLe 2 idx⟩] } := ctlSend_of_domOn on _

theorem ctlOut_tunAck {h : Hub} (on : h.domOn 2 = true) (src tok st typ tid idx : Nat) : (h.tunAck src tok st typ tid idx).ctlOut =
    h.ctlOut ++ [⟨0x13, true, src, tok, natLe 1 st ++ natLe 1 typ ++ natLe 2 0 ++ natLe 4 tid ++ natLe 2 idx⟩] := by
  rw [tunAck_of_domOn on]

theorem tun_tunAck (h : Hub) (src tok st typ tid idx i : Nat) : (h.tunAck src tok st typ tid idx).tun i = h.tun i :=
  tun_of_tab (Hub.ctlSend_same.tab (by decide)) i

/-! ### Answers to the crown's requests (R197, R198) -/

/-- An answer that belongs to no change takes its request off the list, but for an EXISTS that is asked again (R201). -/
theorem asks_takeAnswer {h : Hub} {tok status typ : Nat} {a : Ask} (sent : Tab.find tok h.asks = some a) (htyp : a.msg.typ = typ)
    (alone : a.chg = none) : (h.takeAnswer a.msg.dst tok status typ).asks =
      if typ = 0x10 ∧ status = 3 ∧ a.tries < 3 then h.asks else Tab.del tok h.asks := by
  unfold Hub.takeAnswer
  rw [sent]
  dsimp only
  by_cases again : typ = 0x10 ∧ status = 3 ∧ a.tries < 3
  · rw [if_pos (.inr (.inr again)), if_pos again]
  · rw [if_neg (by rintro (n | n | n); exacts [n rfl, n htyp, again n]), if_neg again]
    unfold Hub.settleAsk
    rw [alone]

theorem retryAsk_of_tries {h : Hub} {tok : Nat} {a : Ask} (sent : Tab.find tok h.asks = some a) (few : a.tries < 3) :
    h.retryAsk tok = { h.ctlSend a.msg with asks := Tab.ins tok { a with tries := a.tries + 1 } h.asks } := by
  unfold Hub.retryAsk
  rw [sent]
  dsimp only
  rw [if_pos few]

/-! ### Merge contexts (R204) -/

theorem Hub.Canon.rd_initContext {h : Hub} (C : h.Canon) (ctx : Nat) :
    let g := h.initContext ctx
    g.rd TWN.CSTAT_FIRST 0 ctx = 1 ∧ g.rd TWN.CSTAT_INPROG 0 ctx = 0 ∧ g.rd TWN.CNT_A_COUNT 0 ctx = 0 ∧
      g.rd TWN.CNT_B_COUNT 0 ctx = 0 ∧ g.rd TWN.CNT_STALE_COUNT 0 ctx = 0 := by
  dsimp only
  unfold Hub.initContext
  refine ⟨?_, ?_, ?_, ?_, ?_⟩
  · iterate 9 rw [rd_wr_place (by decide)]
    exact C.rd_wr
  · iterate 8 rw [rd_wr_place (by decide)]
    exact C.wr.rd_wr
  · iterate 7 rw [rd_wr_place (by decide)]
    exact C.wr.wr.rd_wr
  · iterate 6 rw [rd_wr_place (by decide)]
    exact C.wr.wr.wr.rd_wr
  · iterate 5 rw [rd_wr_place (by decide)]
    exact C.wr.wr.wr.wr.rd_wr

/-- The silence flag of a path. -/
def silentFld (pathB : Bool) : Fld := if pathB then TWN.CSTAT_B_SILENT else TWN.CSTAT_A_SILENT

/-- The record of the context where a path was silent first, with its interrupt and its flag, before the crowns hear of it. -/
def Hub.markSilent (h : Hub) (ctx : Nat) (pathB : Bool) : Hub :=
  let h1 := (h.wr (silentFld pathB) 1 0 ctx).irq 0x69 0
  h1.when (!h1.on TWN.SILENT_FIRST_VALID) fun h => h.wr TWN.SILENT_FIRST_CTX ctx |>.wr TWN.SILENT_FIRST_VALID 1

theorem rd_silence {h : Hub} {ctx : Nat} {pathB : Bool} {F : Fld} {i b : Nat} (k : F.kind = Kind.twn ∨ F.kind = Kind.errors) :
    (h.silence ctx pathB).rd F i b = (h.markSilent ctx pathB).rd F i b :=
  Hub.linkEvent_rd (by rcases k with k | k <;> (rw [k]; decide))

theorem silentFld_place (pathB : Bool) : (silentFld pathB).place ≠ TWN.hQuiet.place ∧
    (silentFld pathB).kind = Kind.twn ∧ (silentFld pathB).w = 1 ∧ TWN.SILENT_FIRST_VALID.place ≠ (silentFld pathB).place ∧
    TWN.SILENT_FIRST_CTX.place ≠ (silentFld pathB).place ∧ HDR.ISTAT.place ≠ (silentFld pathB).place := by
  revert pathB
  decide

theorem rd_markSilent_place {h : Hub} {ctx : Nat} {pathB : Bool} {F : Fld} {i b : Nat} (e1 : TWN.SILENT_FIRST_VALID.place ≠ F.place)
    (e2 : TWN.SILENT_FIRST_CTX.place ≠ F.place) :
    (h.markSilent ctx pathB).rd F i b = ((h.wr (silentFld pathB) 1 0 ctx).irq 0x69 0).rd F i b := by
  refine rd_when_of_rd ?_
  rw [rd_wr_place e1, rd_wr_place e2]

theorem rd_silence_quiet (h : Hub) (ctx : Nat) (pathB : Bool) :
    (h.silence ctx pathB).rd TWN.hQuiet 0 ctx = h.rd TWN.hQuiet 0 ctx := by
  obtain ⟨quiet, -⟩ := silentFld_place pathB
  rw [rd_silence (.inl (by decide)), rd_markSilent_place (by decide) (by decide), rd_irq_place (by decide), rd_wr_place quiet]

/-- A path that is silent while the other delivers is shown, with its context where no other is (R204). -/
theorem Hub.Canon.rd_silence {h : Hub} (C : h.Canon) (ctx : Nat) (pathB : Bool) :
    let g := h.silence ctx pathB
    g.bit HDR.ISTAT 0 0x69 = true ∧ g.rd TWN.SILENT_FIRST_VALID ≠ 0 ∧ g.rd (silentFld pathB) 0 ctx = 1 := by
  obtain ⟨-, kind, one, valid, first, istat⟩ := silentFld_place pathB
  refine ⟨?_, ?_, ?_⟩
  · rw [bit_of_rd (Sys2Proof.Machine.rd_silence (.inr (by decide))), bit_of_rd (rd_markSilent_place (by decide) (by decide))]
    exact C.wr.bit_irq (by decide) (by decide)
  · rw [Sys2Proof.Machine.rd_silence (.inl (by decide)), Hub.markSilent]
    have C1 : ((h.wr (silentFld pathB) 1 0 ctx).irq 0x69 0).Canon := Hub.irq_canon C.wr
    generalize (h.wr (silentFld pathB) 1 0 ctx).irq 0x69 0 = g at C1
    by_cases v : g.rd TWN.SILENT_FIRST_VALID = 0
    · rw [show (!g.on TWN.SILENT_FIRST_VALID) = true by simp [Hub.on, v], Hub.when_true, C1.wr.rd_wr]
      decide
    · rw [show (!g.on TWN.SILENT_FIRST_VALID) = false by simp [Hub.on, v], Hub.when_false]
      exact v
  · rw [Sys2Proof.Machine.rd_silence (.inl kind), rd_markSilent_place valid first, rd_irq_place istat, C.rd_wr, one]
    rfl

theorem Hub.Canon.pathSilent_shows {h : Hub} (C : h.Canon) (ctx : Nat) (pathB : Bool) :
    let g := h.pathSilent ctx pathB
    g.bit TWN.hQuiet (bnat pathB) 0 ctx = true ∧
      (h.bit TWN.hQuiet (bnat (!pathB)) 0 ctx = false → h.bit TWN.hHeard (bnat (!pathB)) 0 ctx = true →
        g.bit HDR.ISTAT 0 0x69 = true ∧ g.rd TWN.SILENT_FIRST_VALID ≠ 0 ∧ g.rd (silentFld pathB) 0 ctx = 1) := by
  have lt (p : Bool) : bnat p < TWN.hQuiet.w := by cases p <;> decide
  have F := rd_when_of_rd (h := h.wrBit TWN.hQuiet (bnat pathB) true 0 ctx) (f := fun g => g.silence ctx pathB)
    (c := !h.bit TWN.hQuiet (bnat !pathB) 0 ctx && h.bit TWN.hHeard (bnat !pathB) 0 ctx) (rd_silence_quiet _ ctx pathB)
  refine ⟨(bit_of_rd F).trans (C.bit_wrBit (lt pathB)), fun quiet heard => ?_⟩
  have e : h.pathSilent ctx pathB = (h.wrBit TWN.hQuiet (bnat pathB) true 0 ctx).silence ctx pathB := by
    unfold Hub.pathSilent
    rw [quiet, heard, Bool.not_false, Bool.and_self, Hub.when_true]
  rw [e]
  exact C.wrBit.rd_silence ctx pathB

/-! ### Requests of the crown and of the requester (R192, R280) -/

/-- The registers that a reading of reservation records writes as it goes on, with the requests that it leads to. -/
def readingFlds : List Fld :=
  [TUN.hTok, CAS.hTxn, TUN.hSettle, TUN.hRrqWr, TUN.RRQ_NODE_NODE, TUN.RRQ_ADDR_ADDR, TUN.RRQ_CTL_WRITE, TUN.RRQ_CTL_COUNT,
    TUN.RRQ_CTL_DONE, TUN.RRQ_STAT_TOKEN, TUN.RRQ_DATA.word 0]

/-- The TOKEN of the node's next request. -/
def Hub.ctlTok (h : Hub) : Nat := (h.rd TUN.hTok + 1) % 2 ^ 16

/-- The data words of the request that the requester's registers describe. -/
def Hub.rrqData (h : Hub) : List Nat :=
  if h.on TUN.RRQ_CTL_WRITE then
    (List.range 12).map fun i => if i < h.rd TUN.RRQ_CTL_COUNT then h.rd (TUN.RRQ_DATA.word i) else 0 else []

/-- The request that the requester's registers describe. -/
def Hub.rrqMsg (h : Hub) : CtlMsg :=
  { typ := if h.on TUN.RRQ_CTL_WRITE then 2 else 1, dst := h.rd TUN.RRQ_NODE_NODE, tok := h.ctlTok,
    body := natLe 4 (h.rd TUN.RRQ_ADDR_ADDR + h.rd TUN.RRQ_CTL_COUNT * 2 ^ 24) ++ natLe 4 0 ++ ofWords h.rrqData }

/-- An idle requester sends its request with the next TOKEN and is busy from then on (R192). -/
theorem rrqSend_of_idle {h : Hub} (idle : h.rd TUN.RRQ_CTL_DONE ≠ 1) (c : Cap) : h.rrqSend c =
    let g := (h.wr TUN.hTok h.ctlTok).ctlSend h.rrqMsg
    (((g.wr TUN.RRQ_STAT_TOKEN (g.rd TUN.hTok)).wr TUN.hRrqWr (bnat (h.on TUN.RRQ_CTL_WRITE))).wr TUN.hSettle 0).wr
      TUN.RRQ_CTL_DONE 1 := by
  unfold Hub.rrqSend
  rw [if_neg idle]
  rfl

theorem rd_ctlSend (h : Hub) (m : CtlMsg) (F : Fld) (i b : Nat) : (h.ctlSend m).rd F i b = h.rd F i b := by
  unfold Hub.ctlSend
  exact rd_when_of_rd rfl

theorem Hub.Canon.rd_rrqSend {h : Hub} (C : h.Canon) (idle : h.rd TUN.RRQ_CTL_DONE ≠ 1) (c : Cap) :
    (h.rrqSend c).rd TUN.RRQ_CTL_DONE = 1 ∧ (h.rrqSend c).rd TUN.RRQ_STAT_TOKEN = h.ctlTok := by
  have lt : h.ctlTok < 2 ^ 16 := Nat.mod_lt _ (by decide)
  have C1 : ((h.wr TUN.hTok h.ctlTok).ctlSend h.rrqMsg).Canon := Hub.ctlSend_canon C.wr
  rw [rrqSend_of_idle idle]
  refine ⟨C1.wr.wr.wr.rd_wr, ?_⟩
  iterate 3 rw [rd_wr_place (by decide)]
  rw [C1.rd_wr, rd_ctlSend, C.rd_wr]
  show h.ctlTok % 2 ^ 64 % 2 ^ 16 = h.ctlTok
  omega

theorem ctlOut_rrqSend {h : Hub} (idle : h.rd TUN.RRQ_CTL_DONE ≠ 1) (on : h.domOn 2 = true) (c : Cap) :
    (h.rrqSend c).ctlOut = h.ctlOut ++ [h.rrqMsg] := by
  have on' : (h.wr TUN.hTok h.ctlTok).domOn 2 = true := (bit_of_rd (rd_wr_place (by decide))).trans on
  rw [rrqSend_of_idle idle]
  dsimp only
  rw [ctlSend_of_domOn on']
  rfl

section Reading

variable {F : Fld} {i b : Nat} (apart : ∀ G ∈ readingFlds, G.place ≠ F.place)
include apart

theorem rd_askFor (h : Hub) (g : Option Nat) (typ dst : Nat) (body : Bytes) :
    (h.askFor g typ dst body).rd F i b = h.rd F i b :=
  (rd_ctlSend _ _ F i b).trans (rd_wr_place (apart _ (by decide)))

theorem rd_each_askFor {α : Type} (h : Hub) (l : List α) (g : α → Option Nat) (typ : α → Nat) (dst : α → Hub → Nat)
    (body : α → Bytes) : (h.each l fun a h => h.askFor (g a) (typ a) (dst a h) (body a)).rd F i b = h.rd F i b :=
  keep_each (P := fun k => k.rd F i b = h.rd F i b) (fun _ k e => (rd_askFor apart k _ _ _ _).trans e) rfl

theorem rd_numbered (h : Hub) (ls : List Leg) : (h.numbered ls).2.rd F i b = h.rd F i b := by
  induction ls generalizing h with
  | nil => rfl
  | cons l ls ih => exact (ih _).trans (rd_wr_place (apart _ (by decide)))

theorem rd_sendStep (h : Hub) (g : Nat) (c : Change) : (h.sendStep g c).rd F i b = h.rd F i b := by
  unfold Hub.sendStep
  split
  · rfl
  · exact rd_each_askFor apart _ _ _ _ _ _

theorem rd_openChange (h : Hub) (c : Change) : (h.openChange c).rd F i b = h.rd F i b := by
  unfold Hub.openChange
  dsimp only
  split
  · rfl
  · split
    · exact rd_each_askFor apart _ _ _ _ _ _
    · exact rd_sendStep apart h _ c

omit apart in
theorem rd_recordLegs (h : Hub) (c : Change) : (h.recordLegs c).rd F i b = h.rd F i b := by
  refine keep_each (P := fun k => k.rd F i b = h.rd F i b) (fun l k e => ?_) rfl
  dsimp only
  split <;> exact e

theorem rd_afterSettling (h : Hub) : h.afterSettling.rd F i b = h.rd F i b := by
  refine rd_when_of_rd ?_
  unfold Hub.appoint
  split
  · exact rd_askFor apart h _ _ _ _
  · rfl

/-- What a reading that has ended leads to writes TOKENs and TXNs alone. -/
theorem rd_settleEnd (h : Hub) (s : Settle) : (h.settleEnd s).rd F i b = h.rd F i b := by
  unfold Hub.settleEnd
  split
  · split
    · split
      · rfl
      · exact rd_askFor apart h _ _ _ _
    · exact rd_askFor apart h _ _ _ _
  · dsimp only
    split
    · split
      · exact (rd_recordLegs _ _).trans (rd_numbered apart _ _)
      · exact (rd_openChange apart _ _).trans (rd_numbered apart _ _)
    · rfl

theorem rd_rrqSend {h : Hub} (idle : h.rd TUN.RRQ_CTL_DONE ≠ 1) (c : Cap) : (h.rrqSend c).rd F i b = h.rd F i b := by
  rw [rrqSend_of_idle idle, rd_wr_place (apart _ (by decide)), rd_wr_place (apart _ (by decide)), rd_wr_place (apart _ (by decide)),
    rd_wr_place (apart _ (by decide)), rd_ctlSend, rd_wr_place (apart _ (by decide))]

theorem rd_settleGo (h : Hub) : h.settleGo.rd F i b = h.rd F i b := by
  unfold Hub.settleGo
  split
  · rfl
  · by_cases idle : h.rd TUN.RRQ_CTL_DONE = 1
    · rw [show (h.up 0x40 && h.rd TUN.RRQ_CTL_DONE != 1) = false by simp [idle], Hub.when_false]
    · refine rd_when_of_rd ?_
      dsimp only
      rw [rd_wr_place (apart _ (by decide)), rd_rrqSend apart]
      · iterate 5 rw [rd_wr_place (apart _ (by decide))]
      · iterate 5 rw [rd_wr_place (by decide)]
        exact idle

theorem rd_settleIn (h : Hub) (ok : Bool) (v : Nat) : (h.settleIn ok v).rd F i b = h.rd F i b := by
  unfold Hub.settleIn
  split
  · rfl
  · dsimp only
    split
    · exact (rd_settleGo apart _).trans ((rd_afterSettling apart _).trans (rd_settleEnd apart _ _))
    · exact rd_settleGo apart _

end Reading

/-- What follows the requester's answer (R192, R280): the reading that the request belonged to goes on, or the next begins. -/
def Hub.readOn (h : Hub) (reading ok : Bool) (v : Nat) : Hub :=
  if reading then (h.wr TUN.hSettle 0).settleIn ok v else h.settleGo

theorem rd_readOn {h : Hub} {reading ok : Bool} {v : Nat} {F : Fld} {i b : Nat} (apart : ∀ G ∈ readingFlds, G.place ≠ F.place) :
    (h.readOn reading ok v).rd F i b = h.rd F i b := by
  unfold Hub.readOn
  split
  · exact (rd_settleIn apart _ ok v).trans (rd_wr_place (apart _ (by decide)))
  · exact rd_settleGo apart h

/-- With no reading under way, an answer leads to nothing more. -/
theorem rd_readOn_of_idle {h : Hub} {reading ok : Bool} {v : Nat} {F : Fld} {i b : Nat} (none : h.settles = [])
    (e : TUN.hSettle.place ≠ F.place) : (h.readOn reading ok v).rd F i b = h.rd F i b := by
  unfold Hub.readOn Hub.settleIn Hub.settleGo
  split
  · rw [Hub.wr_settles, none]
    exact rd_wr_place e
  · rw [none]

/-! ### Answers to the requester (R192, R193) -/

/-- The registers of an answer that the requester takes: its status, its words where the request reads, and its interrupt. -/
def Hub.answerIn (h : Hub) (status failidx count : Nat) (data : List Nat) : Hub :=
  (((h.wr TUN.RRQ_STAT_STATUS status |>.wr TUN.RRQ_STAT_FAILIDX failidx).when (!h.on TUN.hRrqWr) fun h =>
    h.each (List.range (min 12 count)) fun i h => h.wr (TUN.RRQ_DATA.word i) (data.getD i 0)).wr
      TUN.RRQ_CTL_DONE (if status = 0 then 2 else 3)).irq 0x40 0

theorem rrqData_place : ∀ k < 12, (TUN.RRQ_DATA.word k).place ≠ TUN.RRQ_STAT_STATUS.place ∧
    TUN.RRQ_CTL_DONE.place ≠ (TUN.RRQ_DATA.word k).place ∧ HDR.ISTAT.place ≠ (TUN.RRQ_DATA.word k).place ∧
    TUN.hSettle.place ≠ (TUN.RRQ_DATA.word k).place ∧ TUN.RRQ_CTL_WRITE.place ≠ (TUN.RRQ_DATA.word k).place ∧
    TUN.RRQ_CTL_COUNT.place ≠ (TUN.RRQ_DATA.word k).place := by decide

theorem rrqData_place_ne : ∀ j < 12, ∀ k < 12, j ≠ k → (TUN.RRQ_DATA.word j).place ≠ (TUN.RRQ_DATA.word k).place := by decide

theorem Hub.Canon.each_rrqData {h : Hub} (C : h.Canon) (n : Nat) (data : List Nat) :
    (h.each (List.range n) fun i h => h.wr (TUN.RRQ_DATA.word i) (data.getD i 0)).Canon := keep_each (fun _ _ C => C.wr) C

theorem Hub.Canon.rd_each_rrqData {h : Hub} (C : h.Canon) {n k : Nat} (hk : k < n) (hn : n ≤ 12) (data : List Nat) :
    (h.each (List.range n) fun i h => h.wr (TUN.RRQ_DATA.word i) (data.getD i 0)).rd (TUN.RRQ_DATA.word k) = data.getD k 0 % 2 ^ 32 :=
  (keep_foldl_of_mem (C := Hub.Canon) (Q := fun g => g.rd (TUN.RRQ_DATA.word k) = data.getD k 0 % 2 ^ 32)
    (f := fun g i => g.wr (TUN.RRQ_DATA.word i) (data.getD i 0)) (fun _ _ _ C => C.wr)
    (fun _ j hj ne _ e => (rd_wr_place (rrqData_place_ne j ((List.mem_range.1 hj).trans_le hn) k (hk.trans_le hn) ne)).trans e)
    (fun _ C => C.rd_wr) C (List.mem_range.2 hk)).2

theorem Hub.Canon.rd_answerIn {h : Hub} (C : h.Canon) (status failidx count : Nat) (data : List Nat) :
    let g := h.answerIn status failidx count data
    g.rd TUN.RRQ_STAT_STATUS = status % 2 ^ TUN.RRQ_STAT_STATUS.w ∧ g.bit HDR.ISTAT 0 0x40 = true ∧
      g.rd TUN.RRQ_CTL_DONE = (if status = 0 then 2 else 3) ∧
      (h.on TUN.hRrqWr = false → ∀ k < 12, k < count → g.rd (TUN.RRQ_DATA.word k) = data.getD k 0 % 2 ^ 32) := by
  have C2 : ((h.wr TUN.RRQ_STAT_STATUS status |>.wr TUN.RRQ_STAT_FAILIDX failidx).when (!h.on TUN.hRrqWr) fun h =>
      h.each (List.range (min 12 count)) fun i h => h.wr (TUN.RRQ_DATA.word i) (data.getD i 0)).Canon :=
    C.wr.wr.when (C.wr.wr.each_rrqData _ data)
  refine ⟨?_, C2.wr.bit_irq (by decide) (by decide), ?_, fun reads k hk hc => ?_⟩
  · rw [Hub.answerIn, rd_irq_place (by decide), rd_wr_place (by decide), rd_when_of_rd, rd_wr_place (by decide), C.rd_wr]
    refine keep_each_mem (P := fun g => g.rd TUN.RRQ_STAT_STATUS = _) (fun j hj g e => ?_) rfl
    have hj12 : j < 12 := by have := List.mem_range.1 hj; omega
    exact (rd_wr_place (rrqData_place j hj12).1).trans e
  · rw [Hub.answerIn, rd_irq_place (by decide), C2.rd_wr]
    split <;> rfl
  · obtain ⟨-, done, istat, -⟩ := rrqData_place k hk
    rw [Hub.answerIn, rd_irq_place istat, rd_wr_place done, reads, Bool.not_false, Hub.when_true]
    exact C.wr.wr.rd_each_rrqData (by omega) (by omega) data

theorem settles_answerIn (h : Hub) (status failidx count : Nat) (data : List Nat) :
    (h.answerIn status failidx count data).settles = h.settles := by
  have words (g : Hub) : (g.each (List.range (min 12 count)) fun i h => h.wr (TUN.RRQ_DATA.word i) (data.getD i 0)).settles = g.settles :=
    keep_each (P := fun k => k.settles = g.settles) (fun _ _ e => e) rfl
  unfold Hub.answerIn
  cases h.on TUN.hRrqWr
  · exact words _
  · rfl

theorem Hub.Canon.rd_rrqLate {h : Hub} (C : h.Canon) :
    let g := (h.wr TUN.RRQ_CTL_DONE 3 |>.wr TUN.RRQ_STAT_STATUS 0xFF).raise 0x40 3
    g.rd TUN.RRQ_CTL_DONE = 3 ∧ g.rd TUN.RRQ_STAT_STATUS = 0xFF ∧ g.bit HDR.ESTAT 3 0x40 = true := by
  refine ⟨?_, ?_, C.wr.wr.bit_raise (by decide) (by decide)⟩
  · rw [Hub.raise_rd (by decide), rd_wr_place (by decide)]
    exact C.rd_wr
  · rw [Hub.raise_rd (by decide)]
    exact C.wr.rd_wr

/-- A response that the requester awaits is taken, and the readings go on from it (R192). -/
theorem exec_regRsp_of_busy {s : State} {tok : Nat} (up : s.hub.up 0x40 = true) (busy : s.hub.rd TUN.RRQ_CTL_DONE = 1)
    (token : tok % 2 ^ 16 = s.hub.rd TUN.RRQ_STAT_TOKEN) (src status failidx count : Nat) (data : List Nat) :
    exec (.regRsp src tok status failidx count data) s = s.act fun h =>
      (h.answerIn status failidx count data).readOn (h.on TUN.hSettle) (status == 0) (data.getD 0 0) := by
  show execRegRsp src tok status failidx count data s = _
  unfold execRegRsp
  rw [State.act_eq, State.act_eq]
  dsimp only
  rw [up, Hub.when_true, if_pos ⟨busy, token⟩]
  rfl

/-- The requester's registers as a write of `v` to RRQ_CTL leaves them (R192). -/
def Hub.rrqCtl (h : Hub) (v : Nat) : Hub := h.wr TUN.RRQ_CTL_WRITE (bits v 1 1) |>.wr TUN.RRQ_CTL_COUNT (bits v 2 4)

theorem Hub.Canon.rrqCtl {h : Hub} (C : h.Canon) (v : Nat) : (h.rrqCtl v).Canon := C.wr.wr

theorem rd_rrqCtl {h : Hub} {v : Nat} {F : Fld} {i b : Nat} (e1 : TUN.RRQ_CTL_WRITE.place ≠ F.place)
    (e2 : TUN.RRQ_CTL_COUNT.place ≠ F.place) : (h.rrqCtl v).rd F i b = h.rd F i b := (rd_wr_place e2).trans (rd_wr_place e1)

theorem Hub.Canon.on_rrqCtl_write {h : Hub} (C : h.Canon) (v : Nat) : (h.rrqCtl v).on TUN.RRQ_CTL_WRITE = decide (bits v 1 1 = 1) := by
  have e : (h.rrqCtl v).rd TUN.RRQ_CTL_WRITE = bits v 1 1 :=
    (rd_wr_place (by decide)).trans (C.rd_wr.trans (Nat.mod_mod _ _))
  have lt : bits v 1 1 < 2 ^ 1 := Nat.mod_lt _ (by decide)
  rw [Hub.on, e]
  generalize bits v 1 1 = x at lt
  obtain rfl | rfl : x = 0 ∨ x = 1 := by omega
  · rfl
  · rfl

theorem Hub.Canon.rd_rrqCtl_count {h : Hub} (C : h.Canon) (v : Nat) : (h.rrqCtl v).rd TUN.RRQ_CTL_COUNT = bits v 2 4 :=
  C.wr.rd_wr.trans (Nat.mod_mod _ _)

theorem Hub.Canon.rrqData_rrqCtl {h : Hub} (C : h.Canon) (v : Nat) : (h.rrqCtl v).rrqData =
    if bits v 1 1 = 1 then (List.range 12).map fun i => if i < bits v 2 4 then h.rd (TUN.RRQ_DATA.word i) else 0 else [] := by
  simp only [Hub.rrqData, C.on_rrqCtl_write, C.rd_rrqCtl_count, decide_eq_true_eq]
  split
  · refine List.map_congr_left fun i hi => ?_
    obtain ⟨-, -, -, -, write, count⟩ := rrqData_place i (List.mem_range.1 hi)
    rw [rd_rrqCtl write count]
  · rfl

/-- The request that a write to RRQ_CTL sends. -/
theorem Hub.Canon.rrqMsg_rrqCtl {h : Hub} (C : h.Canon) (v : Nat) : (h.rrqCtl v).rrqMsg =
    ⟨if bits v 1 1 = 1 then 2 else 1, false, h.rd TUN.RRQ_NODE_NODE, h.ctlTok,
      natLe 4 (h.rd TUN.RRQ_ADDR_ADDR + bits v 2 4 * 2 ^ 24) ++ natLe 4 0 ++
        ofWords (if bits v 1 1 = 1 then (List.range 12).map fun i =>
          if i < bits v 2 4 then h.rd (TUN.RRQ_DATA.word i) else 0 else [])⟩ := by
  simp only [Hub.rrqMsg, Hub.ctlTok, C.on_rrqCtl_write, C.rd_rrqCtl_count, C.rrqData_rrqCtl, decide_eq_true_eq]
  rw [rd_rrqCtl (by decide) (by decide), rd_rrqCtl (by decide) (by decide), rd_rrqCtl (by decide) (by decide)]

/-- A PENDING entry that names where its cells come from and go to opens (R195). -/
theorem exec_tunOpen_of_pending {s : State} {src tid i : Nat} (fw : s.hub.fwOn = true) (up : s.hub.up 0x40 = true)
    (crown : s.hub.isCrown src = true) (found : s.hub.tunFind tid = some i) (pending : (s.hub.tun i).state = 1)
    (egress : (s.hub.tun i).egress ≠ 0) (ingress : (s.hub.tun i).ingress ≠ 0) (tok : Nat) :
    exec (.tunOpen src tok tid) s = s.act fun h => (h.tunState i 2).tunAck src tok 0 0x11 tid i := by
  show execTunOpen src tok tid s = _
  unfold execTunOpen
  rw [State.act_eq, State.act_eq]
  dsimp only
  rw [fw, up, Bool.and_self, Hub.when_true, crown, found]
  dsimp only
  rw [if_pos pending, if_neg (not_or.2 ⟨egress, ingress⟩)]
  rfl

/-- The node with entry `i` closed (R195): DRAINING where it was OPEN, FREE where it was PENDING. -/
def Hub.tunClosed (h : Hub) (i : Nat) : Hub :=
  if (h.tun i).state = 2 then h.tunState i 3 else if (h.tun i).state = 1 then h.tunState i 0 else h

theorem ctlOut_tunClosed (h : Hub) (i : Nat) : (h.tunClosed i).ctlOut = h.ctlOut := by
  unfold Hub.tunClosed
  split
  · exact ctlOut_tunState h i 3
  · split
    · exact ctlOut_tunState h i 0
    · rfl

theorem domOn_tunClosed (h : Hub) (i d : Nat) : (h.tunClosed i).domOn d = h.domOn d := by
  unfold Hub.tunClosed
  split
  · exact domOn_tunState h i 3 d
  · split
    · exact domOn_tunState h i 0 d
    · rfl

theorem exec_tunClose_of_found {s : State} {src tid i : Nat} (fw : s.hub.fwOn = true) (up : s.hub.up 0x40 = true)
    (crown : s.hub.isCrown src = true) (found : s.hub.tunFind tid = some i) (tok : Nat) :
    exec (.tunClose src tok tid) s = s.act fun h => (h.tunClosed i).tunAck src tok 0 0x12 tid i := by
  show execTunClose src tok tid s = _
  unfold execTunClose
  rw [State.act_eq, State.act_eq]
  dsimp only
  rw [fw, up, Bool.and_self, Hub.when_true, crown, found]
  rfl

end Sys2Proof.Machine

open Sys2Proof Sys2Proof.Machine

/-- Settles O10, clause by clause, from what each operation leaves in the words, registers and lists named. -/
theorem tunnelCommandsComplete : Obligations.TunnelCommandsComplete := by
  intro s I
  have C : s.hub.Canon := I
  have CL (m : MasterId) : (s.hub.dropLatch m).Canon := C.dropLatch
  refine ⟨?setUp, ?opens, ?closes, ?ack, ?retry, ?pending, ?draining, ?route, ?merge, ?silent, ?send, ?response, ?timeout⟩
  case setUp =>
    intro src tok entry i fw up crown new way good plain
    have on : s.hub.domOn 2 = true := domOn_of_up up
    have free : (s.hub.tun i).state = 0 := beq_iff_eq.1 (List.find?_some (p := fun j => (s.hub.tun j).state == 0) way)
    have on' : (s.hub.tunReplace i (pendingEntry entry) Hub.fwTabCap).domOn 2 = true :=
      (bit_of_rd (Hub.tunReplace_rd (by decide))).trans on
    have out : (s.hub.tunReplace i (pendingEntry entry) Hub.fwTabCap).ctlOut = s.hub.ctlOut := Hub.tunReplace_same.ctlOut (by decide)
    refine completes_when (p := fun h => h.fwOn && h.up 0x40) (f := fun _ h =>
      let (st, i, h1) := h.setup src entry
      h1.tunAck src tok st 0x10 (Ent.tid entry) i) rfl (by rw [fw, up]; rfl) ?_
    rw [setup_of_free crown new way good plain]
    dsimp only
    rw [tun_tunAck, ctlOut_tunAck on', out]
    obtain ⟨state, tid, egress⟩ := C.tun_tunReplace_pendingEntry Hub.fwTabCap good free
    exact ⟨state, tid, egress, rfl⟩
  case opens =>
    intro src tok tid i fw up crown found pending egress ingress
    have on : (s.hub.tunState i 2).domOn 2 = true := (domOn_tunState _ _ _ _).trans (domOn_of_up up)
    refine completes_act (f := fun h => (h.tunState i 2).tunAck src tok 0 0x11 tid i)
      (exec_tunOpen_of_pending fw up crown found pending egress ingress tok) ⟨?_, ?_⟩
    · rw [tun_tunAck]
      exact C.state_tunState i (by decide)
    · rw [ctlOut_tunAck on, ctlOut_tunState]
  case closes =>
    intro src tok tid i fw up crown found
    have on : (s.hub.tunClosed i).domOn 2 = true := (domOn_tunClosed _ _ _).trans (domOn_of_up up)
    refine completes_act (f := fun h => (h.tunClosed i).tunAck src tok 0 0x12 tid i) (exec_tunClose_of_found fw up crown found tok)
      ⟨fun st => ?_, fun st => ?_, ?_⟩
    · rw [tun_tunAck, Hub.tunClosed, if_pos st]
      exact C.state_tunState i (by decide)
    · rw [tun_tunAck, Hub.tunClosed, if_neg (by omega), if_pos st]
      exact C.state_tunState i (by decide)
    · rw [ctlOut_tunAck on, ctlOut_tunClosed]
  case ack =>
    rintro src tok status typ tid idx a fw sent rfl htyp alone
    exact completes_when (p := fun h => h.fwOn) (f := fun _ h => h.takeAnswer a.msg.dst tok status typ) rfl fw
      (asks_takeAnswer sent htyp alone)
  case retry =>
    intro tok a fw on sent few
    refine completes_when (p := fun h => h.fwOn) (f := fun _ h => h.retryAsk tok) rfl fw ?_
    rw [retryAsk_of_tries sent few, ctlSend_of_domOn on]
    exact ⟨rfl, Tab.find_ins_same _ _ _⟩
  case pending =>
    intro idx up pending
    have CT : (s.hub.tunState idx 0).Canon := Hub.tunState_canon C
    refine completes_when (p := fun h => h.up 0x40 && (h.tun idx).state == 1)
      (f := fun _ h => ((h.tunState idx 0).cnt TUN.CNT_EXPIRE_COUNT).irq 0x40 1) rfl (by rw [up, pending]; rfl)
      ⟨?_, CT.cnt.bit_irq (by decide) (by decide), ?_⟩
    · exact C.state_tunState idx (by decide)
    · rw [rd_irq_place (by decide), CT.rd_cnt, rd_tunState (by decide) (by decide)]
      rfl
  case draining =>
    exact fun idx up draining => completes_when (p := fun h => h.up 0x40 && (h.tun idx).state == 3) (f := fun _ h => h.tunState idx 0)
      rfl (by rw [up, draining]; rfl) (C.state_tunState idx (by decide))
  case route => exact fun r v G => completes_reg (f := fun h => h.wr RTE.GEN_CUR v) rfl G ⟨(CL r.master).rd_wr, rfl⟩
  case merge =>
    intro r A
    refine completes_go (f := fun h => h.initContext (h.rd TWN.CSEL_CTX)) rfl A ?_
    simp only [Hub.written_rd]
    exact (CL r.master).rd_initContext _
  case silent =>
    exact fun ctx pathB up active => completes_when (p := fun h => h.up 0x69 && h.on TWN.CCFG_ACTIVE 0 ctx)
      (f := fun _ h => h.pathSilent ctx pathB) rfl (by rw [up, active]; rfl) (C.pathSilent_shows ctx pathB)
  case send =>
    intro r v A idle
    have CD := CL r.master
    have idle' : ((s.hub.dropLatch r.master).rrqCtl v).rd TUN.RRQ_CTL_DONE ≠ 1 := by
      rw [rd_rrqCtl (by decide) (by decide)]
      exact idle
    have on : ((s.hub.dropLatch r.master).rrqCtl v).domOn 2 = true :=
      (bit_of_rd (rd_rrqCtl (by decide) (by decide))).trans (domOn_of_up A.2)
    obtain ⟨done, token⟩ := (CD.rrqCtl v).rd_rrqSend idle' (Hub.regCap r TUN.RRQ_CTL_GO 0)
    refine completes_go (f := fun h => (h.rrqCtl v).rrqSend (Hub.regCap r TUN.RRQ_CTL_GO 0)) rfl A ⟨done, token.trans ?_, ?_⟩
    · rw [Hub.ctlTok, rd_rrqCtl (by decide) (by decide)]
      rfl
    · rw [Hub.written_ctlOut, ctlOut_rrqSend idle' on, CD.rrqMsg_rrqCtl]
      rfl
  case response =>
    intro src tok status failidx count data up busy token
    obtain ⟨answered, irq, done, words⟩ := C.rd_answerIn status failidx count data
    refine completes_act (f := fun h => (h.answerIn status failidx count data).readOn (h.on TUN.hSettle) (status == 0) (data.getD 0 0))
      (exec_regRsp_of_busy up busy token src status failidx count data) ⟨?_, ?_, fun none => ?_, fun none reads k hk hc => ?_⟩
    · rw [rd_readOn (by decide)]
      exact answered
    · rw [bit_of_rd (rd_readOn (by decide))]
      exact irq
    · rw [rd_readOn_of_idle ((settles_answerIn _ _ _ _ _).trans none) (by decide)]
      exact done
    · obtain ⟨-, -, -, settle, -⟩ := rrqData_place k hk
      rw [rd_readOn_of_idle ((settles_answerIn _ _ _ _ _).trans none) settle]
      exact words reads k hk hc
  case timeout =>
    intro up busy
    obtain ⟨done, late, err⟩ := C.rd_rrqLate
    have settles : ((s.hub.wr TUN.RRQ_CTL_DONE 3 |>.wr TUN.RRQ_STAT_STATUS 0xFF).raise 0x40 3).settles = s.hub.settles :=
      Hub.raise_same.settles (by decide)
    refine completes_when (p := fun h => h.up 0x40 && h.rd TUN.RRQ_CTL_DONE == 1) (f := fun h0 h =>
      ((h.wr TUN.RRQ_CTL_DONE 3 |>.wr TUN.RRQ_STAT_STATUS 0xFF).raise 0x40 3).readOn (h0.on TUN.hSettle) false 0) rfl
      (by rw [up, busy]; rfl) ⟨fun none => ?_, ?_, ?_⟩
    · rw [rd_readOn_of_idle (settles.trans none) (by decide)]
      exact done
    · rw [rd_readOn (by decide)]
      exact late
    · rw [bit_of_rd (rd_readOn (by decide))]
      exact err
end

section
/-! PROOFS. Accesses of the register agent, the debugger and the management port (R189 to R191, R649, R682, R715): what a granted
word of a table gives, and the request around it. -/

namespace Sys2Proof.Machine

open Sys2Proof

/-! ### What the checks of an access rest on (R716) -/

/-- Where the fields lie that a request of the register agent or of the management port writes as it is taken. -/
def requestPlaces : List Nat := [MGP.hTagFails, MGP.SESS_SEQ, MGP.CNT_REQ_COUNT, TUN.RRA_CNT_EXEC].map Fld.place

/-- Node `g` has the tables of `h`, and its registers but for those of a request that is taken. -/
structure Hub.SameAccess (g h : Hub) : Prop where
  tab : g.tab = h.tab
  rd : ∀ F : Fld, F.place ∉ requestPlaces → ∀ i b, g.rd F i b = h.rd F i b

namespace Hub.SameAccess

variable {g h k : Hub}

theorem trans (a : g.SameAccess h) (b : h.SameAccess k) : g.SameAccess k :=
  ⟨a.tab.trans b.tab, fun F hF i c => (a.rd F hF i c).trans (b.rd F hF i c)⟩

theorem wr (h : Hub) {F : Fld} {v i b : Nat} (m : F.place ∈ requestPlaces) : (h.wr F v i b).SameAccess h :=
  ⟨rfl, fun _ hG _ _ => rd_wr_place fun e => hG (e ▸ m)⟩

theorem of_regs (t : g.tab = h.tab) (r : g.regs = h.regs) : g.SameAccess h :=
  ⟨t, fun F _ i b => congrArg (Tab.get (F.dflt b) (F.key i b)) r⟩

theorem tword (e : g.SameAccess h) (a : Nat) : g.tword a = h.tword a := congrArg (Tab.get 0 (a / 4)) e.tab

theorem on (e : g.SameAccess h) {F : Fld} (hF : F.place ∉ requestPlaces) (i b : Nat) : g.on F i b = h.on F i b := by
  unfold Hub.on
  rw [e.rd F hF]

theorem bit (e : g.SameAccess h) {F : Fld} (hF : F.place ∉ requestPlaces) (n i b : Nat) : g.bit F n i b = h.bit F n i b := by
  unfold Hub.bit
  rw [e.rd F hF]

theorem domOn (e : g.SameAccess h) (d : Nat) : g.domOn d = h.domOn d := e.bit (by decide) _ _ _

theorem clockRuns (e : g.SameAccess h) (pg : Nat) : g.clockRuns pg = h.clockRuns pg := by
  unfold Hub.clockRuns
  simp only [e.bit (F := CLK.GSTAT_RUN) (by decide), e.bit (F := CLK.hUnlocked) (by decide), e.rd CLK.hUnlocked (by decide),
    e.rd CLK.PLLEN_EN (by decide)]

theorem up (e : g.SameAccess h) (pg : Nat) : g.up pg = h.up pg := by
  unfold Hub.up
  rw [e.domOn, e.rd PDM.hDom (by decide), e.on (F := HDR.PSTAT_READY) (by decide), e.clockRuns]

theorem reaches (e : g.SameAccess h) (m : MasterId) : g.reaches m = h.reaches m := by
  unfold Hub.reaches
  simp only [e.rd TOP.NODECFG_ROLE (by decide), e.rd PCI.MODE_MODE (by decide), e.domOn, e.rd OPT.STAT_STATE (by decide),
    e.on (F := MGP.SESS_OPEN) (by decide), e.on (F := DBG.STAT_ATTACHED) (by decide)]

theorem actWord (e : g.SameAccess h) : g.actWord = h.actWord := funext fun _ => funext fun _ => e.tword _

theorem actEn (e : g.SameAccess h) : g.actEn = h.actEn := by
  unfold Hub.actEn
  rw [e.actWord]

theorem actMatch (e : g.SameAccess h) : g.actMatch = h.actMatch := by
  unfold Hub.actMatch Hub.actLocked
  rw [e.actWord]

theorem actCheck (e : g.SameAccess h) : g.actCheck = h.actCheck := by
  unfold Hub.actCheck Hub.actHolds Hub.actFits Hub.actPermits Hub.actLocked
  rw [e.actMatch, e.actWord, e.actEn, e.rd LCS.STATE_LC (by decide), e.rd DBG.STAT_STATE (by decide), e.rd ACT.CFG_LOADED (by decide)]

theorem fixedRefuses (e : g.SameAccess h) : g.fixedRefuses = h.fixedRefuses := by
  unfold Hub.fixedRefuses
  rw [e.actWord, e.actEn, e.rd CAS.CROWN_NODE (by decide), e.rd CAS.CROWN_STANDBY (by decide), e.rd LCS.STAT_DONE (by decide),
    e.on (F := CAS.CROWN_VALID) (by decide), e.on (F := CAS.CROWN_S_VALID) (by decide)]

theorem check (e : g.SameAccess h) (r : Req) (write : Bool) (addr size : Nat) :
    g.check r write addr size = h.check r write addr size := by
  unfold Hub.check
  simp only [e.fixedRefuses, e.actCheck, e.domOn, e.clockRuns]

theorem grantsAt (e : g.SameAccess h) {r : Req} {a : Nat} (G : h.GrantsAt r a) : g.GrantsAt r a :=
  ⟨(e.reaches _).trans G.1, (e.check _ _ _ _).trans G.2⟩

theorem grantsRead (e : g.SameAccess h) {r : Req} {a : Nat} (G : h.GrantsRead r a) : g.GrantsRead r a :=
  ⟨(e.reaches _).trans G.1, (e.check _ _ _ _).trans G.2⟩

end Hub.SameAccess

/-! ### Granted accesses to a table (R51, R52) -/

/-- An access that passes the checks starts at a multiple of four. -/
theorem mod_four_of_check {h : Hub} {r : Req} {w : Bool} {a : Nat} (ok : h.check r w a 4 = none) : a % 4 = 0 := by
  unfold Hub.check at ok
  by_contra n
  have bad : (!(((4 : Nat) == 4 && a % 4 == 0) ||
      ((4 : Nat) == 8 && a % 8 == 0 && (r.master == .mcpu || r.master == .pcieHost)))) = true := by simp [n]
  rw [if_pos bad] at ok
  cases ok

/-- One word at such an address stays within its page. -/
theorem countOk_one {a : Nat} (al : a % 4 = 0) : countOk a 1 = true := by
  simp only [countOk, Bool.and_eq_true, decide_eq_true_eq]
  omega

/-- A master's copy of the entry at `a` (R52). -/
def Hub.rowCopy (h : Hub) (row : TableRow) (a : Nat) : TabLatch :=
  { valid := true, addr := a, words := h.twords a (row.stride / 4) }

/-- A read of the lowest word of an entry answers with it and takes the entry into the master's copy. -/
theorem getWord_lowest {h : Hub} {r : Req} {l : Latch64} {a t : Nat} {row : TableRow} (tab : tableAt a = some (t, row))
    (low : (a - row.base) % row.stride = 0) : h.getWord r l a =
      (h.tword a, { h with tabLatch := Tab.ins (masterNum r.master) (h.rowCopy row a) h.tabLatch }) := by
  unfold Hub.getWord Hub.tableRead
  rw [tab]
  dsimp only
  rw [low, Nat.sub_zero, Nat.sub_self]
  rfl

/-- The node after such a read. -/
def Hub.rowRead (h : Hub) (m : MasterId) (row : TableRow) (a : Nat) : Hub :=
  ({ h.dropLatch m with tabLatch := Tab.ins (masterNum m) (h.rowCopy row a) h.tabLatch } : Hub).answer m (.ok [h.tword a])

theorem winRead_lowest {h : Hub} {r : Req} {a t : Nat} {row : TableRow} (G : h.GrantsRead r a) (tab : tableAt a = some (t, row))
    (low : (a - row.base) % row.stride = 0) : h.winRead r a 4 = h.rowRead r.master row a := by
  unfold Hub.winRead
  dsimp only
  rw [asRead_granted G, getWord_lowest tab low]
  rfl

theorem oneWord_lowest {h : Hub} {r : Req} {a t : Nat} {row : TableRow} (G : h.GrantsRead r a) (tab : tableAt a = some (t, row))
    (low : (a - row.base) % row.stride = 0) : h.oneWord r a none = ((0, h.tword a), h.rowRead r.master row a) := by
  unfold Hub.oneWord
  dsimp only
  rw [winRead_lowest G tab low, Hub.rowRead, answer_ok]
  rfl

/-- The node after a write of a lower word, which is staged. -/
def Hub.rowStaged (h : Hub) (r : Req) (t : Nat) (row : TableRow) (a v : Nat) : Hub :=
  h.written r fun g => g.stage r.master t ((a - row.base) / row.stride) ((a - row.base) % row.stride / 4) (v % 2 ^ 32)

theorem putWord_lower {h : Hub} {r : Req} {a v t : Nat} {row : TableRow} (tab : tableAt a = some (t, row))
    (lower : (a - row.base) % row.stride / 4 + 1 ≠ row.stride / 4) : h.putWord r a v =
      h.stage r.master t ((a - row.base) / row.stride) ((a - row.base) % row.stride / 4) (v % 2 ^ 32) := by
  unfold Hub.putWord Hub.tableWrite
  rw [tab]
  dsimp only
  rw [if_neg lower]

theorem winWrite_lower {h : Hub} {r : Req} {a t : Nat} {row : TableRow} (G : h.GrantsAt r a) (tab : tableAt a = some (t, row))
    (lower : (a - row.base) % row.stride / 4 + 1 ≠ row.stride / 4) (v : Nat) : h.winWrite r a 4 v = h.rowStaged r t row a v := by
  unfold Hub.winWrite
  rw [asWrite_granted G]
  simp only [putWord_lower tab lower, Nat.mod_mod, if_neg (show ¬ (4 : Nat) = 8 by decide)]
  rfl

theorem oneWord_lower {h : Hub} {r : Req} {a t : Nat} {row : TableRow} (G : h.GrantsAt r a) (m : r.master ≠ .pcieHost)
    (tab : tableAt a = some (t, row)) (lower : (a - row.base) % row.stride / 4 + 1 ≠ row.stride / 4) (v : Nat) :
    h.oneWord r a (some v) = ((0, 0), h.rowStaged r t row a v) := by
  unfold Hub.oneWord
  dsimp only
  rw [winWrite_lower G tab lower, Hub.rowStaged, Hub.written, if_neg m, answer_ok]
  rfl

theorem sameAccess_rowRead (h : Hub) (m : MasterId) (row : TableRow) (a : Nat) : (h.rowRead m row a).SameAccess h := .of_regs rfl rfl

theorem sameAccess_rowStaged (h : Hub) (r : Req) (t : Nat) (row : TableRow) (a v : Nat) : (h.rowStaged r t row a v).SameAccess h :=
  .of_regs rfl rfl

/-- What is staged after a lower word is written: its entry, and the word. -/
theorem staging_rowStaged (h : Hub) (r : Req) (t : Nat) (row : TableRow) (a v : Nat) :
    let st := Tab.get {} (masterNum r.master * 8 + t) (h.rowStaged r t row a v).staging
    st.entry = (a - row.base) / row.stride ∧ Tab.find ((a - row.base) % row.stride / 4) st.words = some (v % 2 ^ 32) := by
  dsimp only
  rw [Hub.rowStaged, Hub.written_staging, Hub.stage]
  dsimp only
  rw [Tab.get_ins_same]
  exact ⟨rfl, Tab.find_ins_same _ _ _⟩

/-! ### The register agent (R189 to R191) -/

theorem agentGo_of_bad {h : Hub} {src tok addr count : Nat} (bad : countOk (addr % 2 ^ 24) (count % 16) = false)
    (ws : Option (List Nat)) : h.agentGo src tok addr count ws =
      h.ctlSend ⟨3, true, src, tok, natLe 1 5 ++ natLe 1 0 ++ natLe 1 (count % 16) ++ List.replicate 5 0⟩ := by
  unfold Hub.agentGo
  dsimp only
  rw [bad, Bool.not_false, if_pos rfl, Hub.regRspSend, ofWords, List.flatMap_nil, List.append_nil]

/-- A request for one word that the window grants is one access and its answer. -/
theorem agentGo_one {h g : Hub} {src tok addr count x : Nat} {ws : Option (List Nat)} (fits : countOk (addr % 2 ^ 24) 1 = true)
    (one : count % 16 = 1) (e : (h.cnt TUN.RRA_CNT_EXEC).oneWord ⟨.fabric, src % 2 ^ 14, 4⟩ (addr % 2 ^ 24) (ws.map (·.getD 0 0)) =
      ((0, x), g)) (up : g.up 0x40 = true) : h.agentGo src tok addr count ws = { g with ctlOut := g.ctlOut ++
        [⟨3, true, src, tok, natLe 1 0 ++ natLe 1 1 ++ natLe 1 1 ++ List.replicate 5 0 ++
          ofWords (if ws.isNone then [x] else [])⟩] } := by
  have run : Hub.manyWords ⟨.fabric, src % 2 ^ 14, 4⟩ ((List.range 1).map fun k => (addr % 2 ^ 24 + 4 * k, ws.map fun l => l.getD k 0))
      (h.cnt TUN.RRA_CNT_EXEC) = ([(0, x)], g) := by
    rw [List.range_one, List.map_singleton, Nat.mul_zero, Nat.add_zero, Hub.manyWords, e]
    rfl
  unfold Hub.agentGo
  dsimp only
  rw [one, fits, Bool.not_true, if_neg Bool.false_ne_true, run]
  dsimp only
  rw [up, Hub.when_true, Hub.regRspSend, ctlSend_of_domOn (domOn_of_up up)]
  rfl

/-! ### A read leaves the session as it is (R682) -/

theorem rd_ite {c : Prop} [Decidable c] {x y : Hub} {F : Fld} {i b v : Nat} (hx : x.rd F i b = v) (hy : y.rd F i b = v) :
    (if c then x else y).rd F i b = v := keep_ite (P := fun g => g.rd F i b = v) hx hy

/-- Of the management port's registers, what a read brings up to date is BUS.MODE alone. -/
theorem rd_fresh_mgp {h : Hub} {pg off : Nat} {F : Fld} {i b : Nat} (k : F.kind = Kind.mgp) (e : MGP.BUS_MODE.place ≠ F.place) :
    (h.fresh pg off).rd F i b = h.rd F i b := by
  have other {G : Fld} {g : Hub} {v j c : Nat} (hG : G.kind ≠ Kind.mgp) : (g.wr G v j c).rd F i b = g.rd F i b :=
    rd_wr_key (key_ne_of_kind (by rw [k]; exact hG) _ _ _ _)
  have counted {G : Fld} {g : Hub} {c : Nat} (hG : G.kind ≠ Kind.mgp) : (Hub.linkErrors G c g).rd F i b = g.rd F i b :=
    Eq.trans (other (g := { g with freeIx := g.freeIx + 1 }) hG) (Hub.rd_with_freeIx g _ F i b)
  unfold Hub.fresh
  refine rd_ite ?_ (rd_ite ?_ (rd_ite ?_ (rd_ite ?_ (rd_ite ?_ (rd_ite ?_ (rd_ite ?_ (rd_ite ?_ (rd_ite ?_
    (rd_ite ?_ (rd_ite ?_ (rd_ite ?_ (rd_ite ?_ (rd_ite ?_ (rd_ite ?_ (rd_ite ?_ (rd_ite ?_ (rd_ite ?_ ?_)))))))))))))))))
  · exact rd_when_of_rd (Hub.meterSet_rd (by rw [k]; decide))
  · exact (rd_when_of_rd (f := fun h => Hub.showHead h _ _ _)
      ((other (by decide)).trans ((other (by decide)).trans (other (by decide))))).trans (Hub.shaperSet_rd (by rw [k]; decide))
  · exact (Hub.refreshSlots_rd (by rw [k]; decide)).trans (rd_when_of_rd ((other (by decide)).trans rfl))
  · exact Hub.refreshNeed_rd (by rw [k]; decide)
  · exact rd_when_of_rd ((rd_wr_place e).trans rfl)
  · exact (rd_when_of_rd (other (by decide))).trans (other (by decide))
  · exact rd_when_of_rd (Hub.seeWake_rd (by rw [k]; decide))
  · exact (rd_when_of_rd (counted (by decide))).trans (rd_when_of_rd (counted (by decide)))
  · exact rd_when_of_rd (counted (by decide))
  · exact rd_when_of_rd ((other (by decide)).trans ((other (by decide)).trans rfl))
  · exact rd_when_of_rd (counted (by decide))
  · exact rd_when_of_rd ((other (by decide)).trans rfl)
  · exact (rd_when_of_rd ((other (by decide)).trans rfl)).trans (rd_when_of_rd ((other (by decide)).trans rfl))
  · exact rd_when_of_rd ((other (by decide)).trans rfl)
  · exact rd_when_of_rd (Hub.claspMeasure_rd (by rw [k]; decide))
  · exact (rd_when_of_rd (counted (by decide))).trans (rd_when_of_rd (Hub.pdMeasure_rd (by rw [k]; decide)))
  · exact rd_when_of_rd (Hub.lpoMeasure_rd (by rw [k]; decide))
  · exact rd_when_of_rd (Hub.adapt_rd (by rw [k]; decide))
  · rfl

theorem rd_getWord_mgp {h : Hub} {r : Req} {l : Latch64} {a : Nat} {F : Fld} {i b : Nat} (k : F.kind = Kind.mgp)
    (e : MGP.BUS_MODE.place ≠ F.place) : (h.getWord r l a).2.rd F i b = h.rd F i b := by
  unfold Hub.getWord
  split
  · exact Hub.tableRead_rd (by rw [k]; decide)
  · dsimp only
    split
    · exact rd_fresh_mgp k e
    · split
      · exact rd_fresh_mgp k e
      · exact rd_fresh_mgp k e

theorem rd_winRead_mgp {h : Hub} {r : Req} {a : Nat} {F : Fld} {i b : Nat} (k : F.kind = Kind.mgp)
    (e : MGP.BUS_MODE.place ≠ F.place) : (h.winRead r a 4).rd F i b = h.rd F i b := by
  unfold Hub.winRead Hub.asRead
  refine rd_ite rfl ?_
  split
  case h_1 c _ =>
    exact (rd_when_of_rd (f := fun h => h.cnt PCI.CNT_UR_COUNT) (rd_wr_key (key_ne_of_kind (by rw [k]; decide) _ _ _ _))).trans
      (Hub.recordRefusal_rd (by rw [k]; decide))
  case h_2 => exact rd_getWord_mgp k e

theorem rd_oneWord_mgp {h : Hub} {r : Req} {a : Nat} {F : Fld} {i b : Nat} (k : F.kind = Kind.mgp)
    (e : MGP.BUS_MODE.place ≠ F.place) : (h.oneWord r a none).2.rd F i b = h.rd F i b := rd_winRead_mgp k e

theorem rd_manyWords_mgp {r : Req} {F : Fld} {i b : Nat} (k : F.kind = Kind.mgp) (e : MGP.BUS_MODE.place ≠ F.place) (l : List Nat) :
    ∀ h : Hub, (Hub.manyWords r (l.map fun a => (a, none)) h).2.rd F i b = h.rd F i b := by
  induction l with
  | nil => exact fun _ => rfl
  | cons a l ih => exact fun h => (ih _).trans (rd_oneWord_mgp k e)

/-- The words that RD reads leave the session as it is. -/
theorem rd_sessionWords_mgp {f : TsudyFrame} {h : Hub} {F : Fld} {i b : Nat} (k : F.kind = Kind.mgp) (e : MGP.BUS_MODE.place ≠ F.place) :
    (Hub.sessionWords f false false h).2.2.rd F i b = h.rd F i b := by
  unfold Hub.sessionWords
  dsimp only
  rw [if_neg Bool.false_ne_true]
  split
  · rfl
  · have many := rd_manyWords_mgp (r := ⟨.mgp, 0, 4⟩) (i := i) (b := b) k e ((List.range f.count).map fun j => f.off % 2 ^ 24 + 4 * j) h
    rw [List.map_map] at many
    exact many

/-! ### Requests of a session (R677, R678, R681, R682) -/

/-- The tag that a session request carries where it is the tool's own. -/
abbrev Hub.TagOk (h : Hub) (op : Nat) (f : TsudyFrame) (params : Bytes) : Prop :=
  padTo 8 f.tag = h.tsudyTag 0 f.seq (natLe 1 op ++ natLe 2 f.seq ++ params)

/-- The record of a request whose tag is wrong. -/
def Hub.tagRefused (h : Hub) (op : Nat) (f : TsudyFrame) : Hub :=
  (((h.wr MGP.hTagFails (h.rd MGP.hTagFails + 1)).cnt MGP.CNT_AUTH_TAG).raise 0xD 2 { lo := some (f.seq % 2 ^ 16) }).mgpReply
    7 op f.seq []

/-- The record of a request out of sequence. -/
def Hub.seqRefused (h : Hub) (op : Nat) (f : TsudyFrame) : Hub :=
  (((h.wr MGP.hTagFails 0).cnt MGP.CNT_SEQ_COUNT).raise 0xD 4).mgpReply 8 op f.seq []

/-- The session as a request in order leaves it, before the request is carried out. -/
def Hub.sessionTaken (h : Hub) (f : TsudyFrame) : Hub := (h.wr MGP.hTagFails 0 |>.wr MGP.SESS_SEQ f.seq).cnt MGP.CNT_REQ_COUNT

section
variable {h : Hub} {op need : Nat} {f : TsudyFrame} {params : Bytes} {run : Hub → Nat × Bytes × Hub}

theorem sessionReq_of_tag (opened : h.on MGP.SESS_OPEN = true) (bad : ¬ h.TagOk op f params) : h.sessionReq op f params need run =
    (h.tagRefused op f).when (decide (4 ≤ h.rd MGP.hTagFails + 1)) Hub.closeSession := by
  unfold Hub.sessionReq
  rw [opened, Bool.not_true, if_neg Bool.false_ne_true, if_pos bad]
  rfl

theorem sessionReq_of_seq (opened : h.on MGP.SESS_OPEN = true) (tag : h.TagOk op f params)
    (bad : f.seq % 2 ^ 16 ≠ (h.rd MGP.SESS_SEQ + 1) % 2 ^ 16) : h.sessionReq op f params need run = h.seqRefused op f := by
  unfold Hub.sessionReq
  rw [opened, Bool.not_true, if_neg Bool.false_ne_true, if_neg (not_not.2 tag), if_pos bad]
  rfl

/-- A request of another length than its operation needs is answered BAD_REQUEST. -/
theorem sessionReq_of_len (opened : h.on MGP.SESS_OPEN = true) (tag : h.TagOk op f params)
    (seq : f.seq % 2 ^ 16 = (h.rd MGP.SESS_SEQ + 1) % 2 ^ 16) (len : f.len ≠ need) (other : op ≠ 6) :
    h.sessionReq op f params need run = (h.sessionTaken f).when ((h.sessionTaken f).up 0xD) fun g =>
      g.mgpTagged 5 op f.seq (natLe 1 0) := by
  unfold Hub.sessionReq
  rw [opened, Bool.not_true, if_neg Bool.false_ne_true, if_neg (not_not.2 tag), if_neg (not_not.2 seq)]
  dsimp only
  rw [if_neg len, if_pos ⟨len, other⟩]
  rfl

theorem sessionReq_of_good (opened : h.on MGP.SESS_OPEN = true) (tag : h.TagOk op f params)
    (seq : f.seq % 2 ^ 16 = (h.rd MGP.SESS_SEQ + 1) % 2 ^ 16) (len : f.len = need) :
    h.sessionReq op f params need run = (run (h.sessionTaken f)).2.2.when ((run (h.sessionTaken f)).2.2.up 0xD) fun g =>
      g.mgpTagged (run (h.sessionTaken f)).1 op f.seq (run (h.sessionTaken f)).2.1 := by
  unfold Hub.sessionReq
  rw [opened, Bool.not_true, if_neg Bool.false_ne_true, if_neg (not_not.2 tag), if_neg (not_not.2 seq)]
  dsimp only
  rw [if_pos len, if_neg fun n => n.1 len]
  rfl

end

theorem sameAccess_sessionTaken (h : Hub) (f : TsudyFrame) : (h.sessionTaken f).SameAccess h :=
  (Hub.SameAccess.wr _ (by decide)).trans ((Hub.SameAccess.wr _ (by decide)).trans (.wr _ (by decide)))

theorem Hub.Canon.rd_sessionTaken {h : Hub} (C : h.Canon) (f : TsudyFrame) : (h.sessionTaken f).rd MGP.SESS_SEQ = f.seq % 2 ^ 16 ∧
    (h.sessionTaken f).rd MGP.CNT_REQ_COUNT = h.oneMore MGP.CNT_REQ_COUNT := by
  constructor
  · exact (rd_cnt_place (by decide)).trans C.wr.rd_wr
  · rw [Hub.sessionTaken, C.wr.wr.rd_cnt, rd_wr_place (by decide), rd_wr_place (by decide)]
    rfl

theorem rd_closeSession_place {h : Hub} {F : Fld} {i b : Nat}
    (e : F.place ∉ [MGP.SESS_OPEN, MGP.hTagFails, HDR.ISTAT, MGP.CLAIM_HELD].map Fld.place) :
    h.closeSession.rd F i b = h.rd F i b := by
  simp only [List.map_cons, List.map_nil, List.mem_cons, List.not_mem_nil, or_false, not_or] at e
  obtain ⟨opens, fails, istat, held⟩ := e
  unfold Hub.closeSession
  refine rd_ite rfl (Eq.trans (rd_when_of_rd ?_) ?_)
  · rw [rd_irq_place (Ne.symm istat), rd_wr_place (Ne.symm held)]
  · rw [rd_irq_place (Ne.symm istat), rd_wr_place (Ne.symm fails), rd_wr_place (Ne.symm opens)]

/-- What a request whose tag is wrong leaves, the session closed or not. -/
theorem Hub.Canon.rd_tagRefused {h : Hub} (C : h.Canon) (op : Nat) (f : TsudyFrame) (c : Bool) :
    let g := (h.tagRefused op f).when c Hub.closeSession
    g.mgpResp = natLe 1 7 ++ natLe 1 op ++ natLe 2 f.seq ∧ g.bit HDR.ESTAT 2 0xD = true ∧
      g.rd MGP.CNT_AUTH_TAG = h.oneMore MGP.CNT_AUTH_TAG ∧ g.staging = h.staging := by
  have resp : (h.tagRefused op f).mgpResp = natLe 1 7 ++ natLe 1 op ++ natLe 2 f.seq := List.append_nil _
  have err : (h.tagRefused op f).bit HDR.ESTAT 2 0xD = true := C.wr.cnt.bit_raise (by decide) (by decide)
  have count : (h.tagRefused op f).rd MGP.CNT_AUTH_TAG = h.oneMore MGP.CNT_AUTH_TAG := by
    rw [Hub.tagRefused, Hub.mgpReply_rd (by decide), Hub.raise_rd (by decide), C.wr.rd_cnt, rd_wr_place (by decide)]
    rfl
  have staging : (h.tagRefused op f).staging = h.staging := Hub.raise_same.staging (by decide)
  cases c
  · exact ⟨resp, err, count, staging⟩
  · exact ⟨(Hub.closeSession_same.mgpResp (by decide)).trans resp, (bit_of_rd (rd_closeSession_place (by decide))).trans err,
      (rd_closeSession_place (by decide)).trans count, (Hub.closeSession_same.staging (by decide)).trans staging⟩

theorem Hub.Canon.rd_seqRefused {h : Hub} (C : h.Canon) (op : Nat) (f : TsudyFrame) :
    (h.seqRefused op f).mgpResp = natLe 1 8 ++ natLe 1 op ++ natLe 2 f.seq ∧ (h.seqRefused op f).bit HDR.ESTAT 4 0xD = true ∧
      (h.seqRefused op f).rd MGP.CNT_SEQ_COUNT = h.oneMore MGP.CNT_SEQ_COUNT := by
  refine ⟨List.append_nil _, C.wr.cnt.bit_raise (by decide) (by decide), ?_⟩
  rw [Hub.seqRefused, Hub.mgpReply_rd (by decide), Hub.raise_rd (by decide), C.wr.rd_cnt, rd_wr_place (by decide)]
  rfl

/-! ### Responses -/

theorem length_natLe (n v : Nat) : (natLe n v).length = n := by
  induction n generalizing v with
  | zero => rfl
  | succ n ih => rw [natLe, List.length_cons, ih]

theorem ofWords_one (x : Nat) : ofWords [x] = natLe 4 x := List.append_nil _

/-- A response begins with its status, its operation, its number and its data. -/
theorem take_mgpTagged (h : Hub) (st op seq : Nat) {data : Bytes} {n : Nat} (len : 4 + data.length = n) :
    (h.mgpTagged st op seq data).mgpResp.take n = natLe 1 st ++ natLe 1 op ++ natLe 2 seq ++ data := by
  unfold Hub.mgpTagged
  refine List.take_left' ?_
  simp only [List.length_append, length_natLe]
  omega

/-! ### Words of a session request (R682) -/

/-- RD of the lowest word of an entry, which the window grants. -/
theorem sessionWords_read {h : Hub} {f : TsudyFrame} {t : Nat} {row : TableRow} (G : h.GrantsRead ⟨.mgp, 0, 4⟩ (f.off % 2 ^ 24))
    (one : f.count = 1) (tab : tableAt (f.off % 2 ^ 24) = some (t, row)) (low : (f.off % 2 ^ 24 - row.base) % row.stride = 0) :
    Hub.sessionWords f false false h =
      (0, natLe 1 1 ++ natLe 4 (h.tword (f.off % 2 ^ 24)), h.rowRead .mgp row (f.off % 2 ^ 24)) := by
  have fits : countOk (f.off % 2 ^ 24) 1 = true := countOk_one (mod_four_of_check G.2)
  unfold Hub.sessionWords
  dsimp only
  simp only [one, fits, Bool.not_true, Bool.false_eq_true, if_false, List.range_one, List.map_singleton, Nat.mul_zero, Nat.add_zero,
    Hub.manyWords, oneWord_lowest G tab low, ofWords_one]
  rfl

/-- WR of a lower word of an entry, which the window grants. -/
theorem sessionWords_write {h : Hub} {f : TsudyFrame} {t : Nat} {row : TableRow} (G : h.GrantsAt ⟨.mgp, 0, 4⟩ (f.off % 2 ^ 24))
    (one : f.count = 1) (tab : tableAt (f.off % 2 ^ 24) = some (t, row))
    (lower : (f.off % 2 ^ 24 - row.base) % row.stride / 4 + 1 ≠ row.stride / 4) : Hub.sessionWords f true false h =
      (0, natLe 1 1, h.rowStaged ⟨.mgp, 0, 4⟩ t row (f.off % 2 ^ 24) (f.words.getD 0 0)) := by
  have fits : countOk (f.off % 2 ^ 24) 1 = true := countOk_one (mod_four_of_check G.2)
  unfold Hub.sessionWords
  dsimp only
  simp only [one, fits, Bool.not_true, Bool.false_eq_true, if_false, if_true, List.range_one, List.map_singleton, Nat.mul_zero,
    Nat.add_zero, Hub.manyWords, oneWord_lower (r := ⟨.mgp, 0, 4⟩) G (by decide) tab lower]
  rfl

/-- WRF of two words to a lower word of an entry: the second follows the first to the same place. -/
theorem sessionWords_writeFixed {h : Hub} {f : TsudyFrame} {t : Nat} {row : TableRow} (G : h.GrantsAt ⟨.mgp, 0, 4⟩ (f.off % 2 ^ 24))
    (two : f.count = 2) (tab : tableAt (f.off % 2 ^ 24) = some (t, row))
    (lower : (f.off % 2 ^ 24 - row.base) % row.stride / 4 + 1 ≠ row.stride / 4) : Hub.sessionWords f true true h =
      (0, natLe 1 2, (h.rowStaged ⟨.mgp, 0, 4⟩ t row (f.off % 2 ^ 24) (f.words.getD 0 0)).rowStaged ⟨.mgp, 0, 4⟩ t row
        (f.off % 2 ^ 24) (f.words.getD 1 0)) := by
  have G1 := (sameAccess_rowStaged h ⟨.mgp, 0, 4⟩ t row (f.off % 2 ^ 24) (f.words.getD 0 0)).grantsAt G
  have fits : countOk 0 2 = true := by decide
  have pair : List.range 2 = [0, 1] := by decide
  unfold Hub.sessionWords
  dsimp only
  simp only [two, fits, Bool.not_true, Bool.false_eq_true, if_false, if_true, pair, List.map_cons, List.map_nil, Hub.manyWords,
    oneWord_lower (r := ⟨.mgp, 0, 4⟩) G (by decide) tab lower, oneWord_lower (r := ⟨.mgp, 0, 4⟩) G1 (by decide) tab lower]
  rfl

/-- A session request that is carried out is answered with what its words gave. -/
theorem sessionReq_of_run {h g : Hub} {op need st : Nat} {f : TsudyFrame} {params data : Bytes} {run : Hub → Nat × Bytes × Hub}
    (opened : h.on MGP.SESS_OPEN = true) (up : h.up 0xD = true) (tag : h.TagOk op f params)
    (seq : f.seq % 2 ^ 16 = (h.rd MGP.SESS_SEQ + 1) % 2 ^ 16) (len : f.len = need) (e : run (h.sessionTaken f) = (st, data, g))
    (same : g.SameAccess (h.sessionTaken f)) : h.sessionReq op f params need run = g.mgpTagged st op f.seq data := by
  have up' : g.up 0xD = true := ((same.trans (sameAccess_sessionTaken h f)).up _).trans up
  rw [sessionReq_of_good opened tag seq len, e]
  dsimp only
  rw [up', Hub.when_true]

/-! ### The port free of a request (R680) -/

theorem up_of_mgpFree {h : Hub} (free : h.mgpFree = true) : h.up 0xD = true := by
  unfold Hub.mgpFree at free
  exact (Bool.and_eq_true _ _ ▸ free).1

end Sys2Proof.Machine

open Sys2Proof Sys2Proof.Machine

/-- Settles O27, clause by clause: a request that is taken moves nothing that the checks of its words ask for. -/
theorem remoteAccessCommandsComplete : Obligations.RemoteAccessCommandsComplete := by
  intro s I
  have C : s.hub.Canon := I
  refine ⟨?badCount, ?regRd, ?regWr, ?debugWrite, ?debugRead, ?session, ?rd, ?wr, ?wrf⟩
  case badCount =>
    exact fun src tok addr count up bad => completes_when (p := fun h => h.up 0x40) (f := fun _ h => h.agentGo src tok addr count none)
      rfl up (agentGo_of_bad bad none)
  case regRd =>
    intro src tok addr count t row up G one tab low
    have same : (s.hub.cnt TUN.RRA_CNT_EXEC).SameAccess s.hub := .wr _ (by decide)
    have G1 := same.grantsRead G
    have word := oneWord_lowest G1 tab low
    refine completes_when (p := fun h => h.up 0x40) (f := fun _ h => h.agentGo src tok addr count none) rfl up ?_
    rw [agentGo_one (ws := none) (countOk_one (mod_four_of_check G.2)) one word
      (((sameAccess_rowRead _ _ _ _).trans same).up _ |>.trans up)]
    refine ⟨C.rd_cnt, ?_⟩
    rw [same.tword, Option.isNone_none, if_pos rfl, ofWords_one]
    rfl
  case regWr =>
    intro src tok addr count data t row up G one tab lower
    have same : (s.hub.cnt TUN.RRA_CNT_EXEC).SameAccess s.hub := .wr _ (by decide)
    have word := oneWord_lower (same.grantsAt G) (show MasterId.fabric ≠ .pcieHost by decide) tab lower (data.getD 0 0)
    refine completes_when (p := fun h => h.up 0x40) (f := fun _ h => h.agentGo src tok addr count (some data)) rfl up ?_
    rw [agentGo_one (ws := some data) (countOk_one (mod_four_of_check G.2)) one word
      (((sameAccess_rowStaged _ _ _ _ _ _).trans same).up _ |>.trans up)]
    obtain ⟨entry, staged⟩ := staging_rowStaged (s.hub.cnt TUN.RRA_CNT_EXEC) ⟨.fabric, src % 2 ^ 14, 4⟩ t row
      (addr % 2 ^ 24) (data.getD 0 0)
    exact ⟨entry, staged, rfl⟩
  case debugWrite =>
    intro addr size v reaches ok
    refine completes_act (f := fun h => h.winWrite ⟨.dbg, 0, 4⟩ addr size v) rfl ?_
    unfold Hub.winWrite Hub.asWrite
    rw [reaches, ok]
    rfl
  case debugRead =>
    intro addr v t row G tab low
    refine completes_act (f := fun h => h.winRead ⟨.dbg, 0, 4⟩ addr 4) rfl ?_
    rw [winRead_lowest G tab low]
    exact ⟨answer_ok _ _ _, rfl⟩
  case session =>
    intro f free opened
    refine completes_when (p := fun h => h.mgpFree) (f := fun _ h =>
      h.sessionReq 0x10 f (Hub.sessionParams f false) 15 (Hub.sessionWords f false false)) rfl free
      ⟨fun bad => ?_, fun tag bad => ?_, fun tag seq => ?_⟩
    · obtain ⟨resp, err, count, -⟩ := C.rd_tagRefused 0x10 f (decide (4 ≤ s.hub.rd MGP.hTagFails + 1))
      rw [sessionReq_of_tag opened bad]
      exact ⟨resp, err, count⟩
    · rw [sessionReq_of_seq opened tag bad]
      exact C.rd_seqRefused 0x10 f
    · obtain ⟨number, count⟩ := C.rd_sessionTaken f
      by_cases len : f.len = 15
      · have kept {F : Fld} (k : F.kind = Kind.mgp) (e : MGP.BUS_MODE.place ≠ F.place) :
            (s.hub.sessionReq 0x10 f (Hub.sessionParams f false) 15 (Hub.sessionWords f false false)).rd F =
              (s.hub.sessionTaken f).rd F := by
          rw [sessionReq_of_good opened tag seq len]
          exact (rd_when_of_rd rfl).trans (rd_sessionWords_mgp k e)
        exact ⟨(kept (by decide) (by decide)).trans number, (kept (by decide) (by decide)).trans count, fun n => absurd len n⟩
      · have up : (s.hub.sessionTaken f).up 0xD = true := ((sameAccess_sessionTaken _ _).up _).trans (up_of_mgpFree free)
        rw [sessionReq_of_len opened tag seq len (by decide), up, Hub.when_true]
        exact ⟨number, count, fun _ => take_mgpTagged _ _ _ _ rfl⟩
  case rd =>
    intro f t row free G len one tab low
    refine completes_when (p := fun h => h.mgpFree) (f := fun _ h =>
      h.sessionReq 0x10 f (Hub.sessionParams f false) 15 (Hub.sessionWords f false false)) rfl free fun tag seq => ?_
    have same := sameAccess_sessionTaken s.hub f
    rw [sessionReq_of_run G.1 (up_of_mgpFree free) tag seq len (sessionWords_read (same.grantsRead G) one tab low)
      (sameAccess_rowRead _ _ _ _), take_mgpTagged _ _ _ _ (n := 9) rfl, same.tword]
    simp only [List.append_assoc]
  case wr =>
    intro f t row free G len one tab lower
    refine completes_when (p := fun h => h.mgpFree) (f := fun _ h =>
      h.sessionReq 0x11 f (Hub.sessionParams f true) (15 + 4 * f.count) (Hub.sessionWords f true false)) rfl free
      ⟨fun bad => ?_, fun tag seq => ?_⟩
    · obtain ⟨resp, -, -, staging⟩ := C.rd_tagRefused 0x11 f (decide (4 ≤ s.hub.rd MGP.hTagFails + 1))
      rw [sessionReq_of_tag G.1 bad]
      exact ⟨resp, staging⟩
    · have same := sameAccess_sessionTaken s.hub f
      rw [sessionReq_of_run G.1 (up_of_mgpFree free) tag seq (by rw [len, one]) (sessionWords_write (same.grantsAt G) one tab lower)
        (sameAccess_rowStaged _ _ _ _ _ _)]
      exact ⟨take_mgpTagged _ _ _ _ rfl, (staging_rowStaged _ ⟨.mgp, 0, 4⟩ t row _ _).2⟩
  case wrf =>
    intro f t row free G len two tab lower
    refine completes_when (p := fun h => h.mgpFree) (f := fun _ h =>
      h.sessionReq 0x12 f (Hub.sessionParams f true) (15 + 4 * f.count) (Hub.sessionWords f true true)) rfl free fun tag seq => ?_
    have same := sameAccess_sessionTaken s.hub f
    rw [sessionReq_of_run G.1 (up_of_mgpFree free) tag seq (by rw [len, two]) (sessionWords_writeFixed (same.grantsAt G) two tab lower)
      ((sameAccess_rowStaged _ _ _ _ _ _).trans (sameAccess_rowStaged _ _ _ _ _ _))]
    exact ⟨take_mgpTagged _ _ _ _ rfl, (staging_rowStaged _ ⟨.mgp, 0, 4⟩ t row _ _).2⟩
end

section
/-! PROOFS. A statement on cells and the shared buffer that the model does not meet, with the node that shows it (R187, R217). -/

namespace Sys2Proof.Machine

open Sys2Proof

/-- What a command completes with whose condition holds. -/
theorem of_completes_when {c : Instr} {s : State} {p : Hub → Bool} {f : Hub → Hub} {Q : Hub → Prop}
    (e : exec c s = s.act fun h => h.when (p h) f) (holds : p s.hub = true) (H : Completes c s Q) : Q (f s.hub) := by
  have q : Q (s.hub.when (p s.hub) f) := of_completes_act e H
  rwa [holds, Hub.when_true] at q

theorem exec_cellIngress (pt : Fin 14) (par : Bool) (c : Cell) (s : State) : exec (.cellIngress pt par c) s =
    s.act fun h => h.when (h.mayEnter pt && h.released pt c.vc) fun h => (h.cellIn pt par c).freeCredit pt c.vc := rfl

/-- An OPEN tunnel of KIND CONTROL on VC0 (R180, R181): TID 0x5000, in class 3 to egress point 1, from any ingress point, unmetered. -/
def controlTunnel : List Nat := [0x5000 + 2 * 2 ^ 23, 2 + 3 * 2 ^ 16, 0x3FFF, 0, 0, 0x1FFF, 0, 0]

/-- A CONTROL packet of one cell on that tunnel, all zeros. -/
def controlCell : Cell := { tid := 0x5000, kind := 0, sop := true, eop := true, payload := List.replicate 64 0 }

/-- A node of node ID 5 whose core takes cells, and which holds the tunnel of `controlTunnel`. -/
def controlTunnelNode : State :=
  { hub := (poweredNode ([0x40, 0x41, 0x48, 0x49, 0x4B, 0x60, 0x69].map (fun pg => (HDR.PSTAT_READY, pg, 1)) ++
      [(SWB.FREE_COUNT, 0, 5), (THR.SFREE_CELLS, 0, 1000), (CAS.NODEID_ID, 0, 5)]) []).hub.setTwords
        (tunAddr (4 * tunSet 0x5000)) controlTunnel }

theorem controlTunnelNode_inv : controlTunnelNode.Inv := Hub.setTwords_canon (poweredNode_inv _ _)

/-- The buffer holds the cell with the node's own ID in SRC_NODE (R187). -/
theorem data_cellIn_controlTunnelNode : (((controlTunnelNode.hub.cellIn 13 false controlCell).freeCredit 13 0).pkt
    controlTunnelNode.hub.pktNext).map (fun p => p.cells.map (·.data)) = some [padTo 64 [0, 0, 5, 0]] := by decide +kernel

/-- Refutes O9: the clause on `cellIngress` has the buffer hold the payload that the cell brings, but in a CONTROL packet from the
management CPU (ingress point 13) the core overwrites SRC_NODE with the node's own ID, on a tunnel as on a route (R187). -/
theorem not_bufferCommandsComplete : ¬ Obligations.BufferCommandsComplete := by
  intro h
  obtain ⟨ingress, -⟩ := h controlTunnelNode controlTunnelNode_inv
  have enters : (controlTunnelNode.hub.mayEnter 13 && controlTunnelNode.hub.released 13 0) = true := by decide +kernel
  obtain ⟨mayEnter, released⟩ := Bool.and_eq_true_iff.mp enters
  -- The clause's further hypotheses are facts of this node and this cell, which evaluation decides.
  obtain ⟨-, -, held, -⟩ := of_completes_when (exec_cellIngress _ _ _ _) enters
    (ingress 13 controlCell (4 * tunSet 0x5000) 1 mayEnter released (by decide +kernel) (by decide) (by decide +kernel) (by decide) rfl
      (by decide +kernel) (by decide +kernel) (by decide +kernel) (by decide +kernel) (by decide +kernel) (by decide +kernel)
      (by decide +kernel) (by decide +kernel) (by decide +kernel) (by decide +kernel) (by decide +kernel) (by decide +kernel))
  obtain ⟨p, found, same⟩ := (Option.any_eq_true _ _).mp held
  obtain ⟨-, unchanged⟩ := Bool.and_eq_true_iff.mp same
  have stamped : some (p.cells.map (·.data)) = some [padTo 64 [0, 0, 5, 0]] :=
    (congrArg (Option.map fun p : Pkt => p.cells.map PCell.data) found).symm.trans data_cellIn_controlTunnelNode
  exact absurd ((Option.some.inj stamped).symm.trans (eq_of_beq unchanged)) (by decide)

end Sys2Proof.Machine
end

section
/-! PROOFS. Reservation records (R262 to R283, R335): what a change of one leaves in its registers, its counters and the answer
that follows, and how the crown reads the record of an unreconciled hop. -/

namespace Sys2Proof.Machine

open Sys2Proof

/-! ### The ledgers of the egress points (R263 to R268) -/

/-- The registers that show the ledger of an egress point. -/
def ledgerFlds : List Fld :=
  [CRT.PCAP_CT, CRT.PFLOOR_CT, CRT.PRES_CT, CRT.PSHORT_POINTS, CRT.PCOMMIT_CT, CRT.PPEND_CT]

section Apart

variable {F : Fld} {i b : Nat} (crt : F.kind = Kind.crt) (apart : ∀ G ∈ ledgerFlds, G.place ≠ F.place)
include crt apart

theorem rd_refreshPoint (e : Nat) (h : Hub) : (h.refreshPoint e).rd F i b = h.rd F i b := by
  have ledger (cap floor tot : Nat) (short : Bool) :
      ((((if e < 8 then h.wr CRT.PCAP_CT cap 0 e else h).wr CRT.PFLOOR_CT floor 0 e).wr CRT.PRES_CT tot 0 e).wrBit
        CRT.PSHORT_POINTS e short).rd F i b = h.rd F i b := by
    rw [rd_wrBit_place (apart _ (by decide)), rd_wr_place (apart _ (by decide)), rd_wr_place (apart _ (by decide))]
    split
    · exact rd_wr_place (apart _ (by decide))
    · rfl
  unfold Hub.refreshPoint
  dsimp only
  split
  · rw [Hub.crtNotice_rd (by rw [crt]; decide), Hub.irq_rd (by rw [crt]; decide), Hub.raise_rd (by rw [crt]; decide), ledger]
  · exact ledger _ _ _ _

theorem rd_refreshPoints (h : Hub) : h.refreshPoints.rd F i b = h.rd F i b := by
  refine rd_when_of_rd ?_
  exact (keep_each (P := fun g => g.rd F i b = h.refreshUpstat.rd F i b)
    (fun e g same => (rd_refreshPoint crt apart e g).trans same) rfl).trans (Hub.refreshUpstat_rd (by rw [crt]; decide))

end Apart

/-! ### Records (R265, R269 to R271) -/

/-- The registers of the records: what is held for one, and how many there are. -/
def recordFlds : List Fld := [CRT.RECS_COUNT, CRT.RREC_COMMITTED, CRT.RREC_TARGET, CRT.RREC_STATE, CRT.RHOLD_MS]

/-- What record `i` shows, each value cut to its field. -/
structure Hub.RecordIs (g : Hub) (i committed target state : Nat) : Prop where
  committed : g.rd CRT.RREC_COMMITTED 0 i = committed % 2 ^ CRT.RREC_COMMITTED.w
  target : g.rd CRT.RREC_TARGET 0 i = target % 2 ^ CRT.RREC_TARGET.w
  state : g.rd CRT.RREC_STATE 0 i = state % 2 ^ CRT.RREC_STATE.w

theorem Hub.RecordIs.of_rd {g h : Hub} {i c t st : Nat} (R : h.RecordIs i c t st)
    (same : ∀ F ∈ [CRT.RREC_COMMITTED, CRT.RREC_TARGET, CRT.RREC_STATE], g.rd F 0 i = h.rd F 0 i) : g.RecordIs i c t st where
  committed := (same _ (by decide)).trans R.committed
  target := (same _ (by decide)).trans R.target
  state := (same _ (by decide)).trans R.state

/-- The charge of record `i` to the core and to the points of its entry moved to `committed` and `target`. -/
def Hub.chargeRec (h : Hub) (i committed target : Nat) : Hub :=
  let es := pointsOf (h.tun i).egress
  (h.wr FIL.ADMLOAD_CT (h.rd FIL.ADMLOAD_CT + coreCharge target es.length - coreCharge (h.rd CRT.RREC_TARGET 0 i) es.length)).each es
    fun e g => g.wr CRT.PCOMMIT_CT (g.rd CRT.PCOMMIT_CT 0 e + committed - h.rd CRT.RREC_COMMITTED 0 i) 0 e
      |>.wr CRT.PPEND_CT (g.rd CRT.PPEND_CT 0 e + (target - committed) -
        (h.rd CRT.RREC_TARGET 0 i - h.rd CRT.RREC_COMMITTED 0 i)) 0 e

/-- The registers of record `i` written, once its charge has moved. -/
def Hub.writeRec (h : Hub) (i committed target state : Nat) : Hub :=
  let g := h.chargeRec i committed target
  g.wr CRT.RECS_COUNT (h.rd CRT.RECS_COUNT + bnat (state != 0) - bnat (h.rd CRT.RREC_STATE 0 i != 0))
    |>.wr CRT.RREC_COMMITTED committed 0 i |>.wr CRT.RREC_TARGET target 0 i |>.wr CRT.RREC_STATE state 0 i
    |>.wr CRT.RHOLD_MS (if state = 2 then max 1 (h.rd CRT.CFG_HOLD_MS) else 0) 0 i

/-- The order of R276: the charge, the record, what follows from them, and then the meter. -/
theorem setRec_eq (h : Hub) (i committed target state : Nat) : h.setRec i committed target state =
    let g := (h.writeRec i committed target state).refreshCap.refreshPoints
    if committed = h.rd CRT.RREC_COMMITTED 0 i then g else g.loadMeter i := rfl

theorem Hub.Canon.chargeRec {h : Hub} (C : h.Canon) (i committed target : Nat) : (h.chargeRec i committed target).Canon :=
  keep_each (fun _ _ C => C.wr.wr) C.wr

theorem rd_chargeRec {F : Fld} {j b : Nat} (crt : F.kind = Kind.crt) (apart : ∀ G ∈ ledgerFlds, G.place ≠ F.place) (h : Hub)
    (i committed target : Nat) : (h.chargeRec i committed target).rd F j b = h.rd F j b := by
  refine keep_each (P := fun g => g.rd F j b = h.rd F j b) (fun e g same => ?_) ?_
  · rw [rd_wr_place (apart _ (by decide)), rd_wr_place (apart _ (by decide)), same]
  · exact rd_wr_key (key_ne_of_kind (by rw [crt]; decide) _ _ _ _)

/-- What follows from a record that is written moves, of the engine's registers, the ledgers alone. -/
theorem rd_setRec {F : Fld} {j b : Nat} (crt : F.kind = Kind.crt) (apart : ∀ G ∈ ledgerFlds, G.place ≠ F.place) (h : Hub)
    (i committed target state : Nat) :
    (h.setRec i committed target state).rd F j b = (h.writeRec i committed target state).rd F j b := by
  have shown : (h.writeRec i committed target state).refreshCap.refreshPoints.rd F j b =
      (h.writeRec i committed target state).rd F j b :=
    (rd_refreshPoints crt apart _).trans (Hub.refreshCap_rd (by rw [crt]; decide))
  rw [setRec_eq]
  dsimp only
  split
  · exact shown
  · exact (Hub.loadMeter_rd (by rw [crt]; decide)).trans shown

/-- A record that changes leaves the registers alone that are neither its own nor a ledger's. -/
theorem rd_setRec_apart {F : Fld} {j b : Nat} (crt : F.kind = Kind.crt) (apart : ∀ G ∈ ledgerFlds ++ recordFlds, G.place ≠ F.place)
    (h : Hub) (i committed target state : Nat) : (h.setRec i committed target state).rd F j b = h.rd F j b := by
  have ledgers : ∀ G ∈ ledgerFlds, G.place ≠ F.place := fun G m => apart G (List.mem_append_left _ m)
  rw [rd_setRec crt ledgers, Hub.writeRec]
  iterate 5 rw [rd_wr_place (apart _ (by decide))]
  exact rd_chargeRec crt ledgers h i committed target

theorem Hub.Canon.recordIs_setRec {h : Hub} (C : h.Canon) (i committed target state : Nat) :
    (h.setRec i committed target state).RecordIs i committed target state := by
  have CC := C.chargeRec i committed target
  refine ⟨?_, ?_, ?_⟩
  · rw [Sys2Proof.Machine.rd_setRec (by decide) (by decide), Hub.writeRec]
    iterate 3 rw [rd_wr_place (by decide)]
    exact CC.wr.rd_wr
  · rw [Sys2Proof.Machine.rd_setRec (by decide) (by decide), Hub.writeRec]
    iterate 2 rw [rd_wr_place (by decide)]
    exact CC.wr.wr.rd_wr
  · rw [Sys2Proof.Machine.rd_setRec (by decide) (by decide), Hub.writeRec, rd_wr_place (by decide)]
    exact CC.wr.wr.wr.rd_wr

/-! ### Counted changes (R270, R288) -/

/-- The counters of the changes of a record. -/
def recordCounters : List Fld :=
  [CRT.CNT_RESERVE_COUNT, CRT.CNT_COMMIT_COUNT, CRT.CNT_ABORT_COUNT, CRT.CNT_DECREASE_COUNT, CRT.CNT_EXPIRE_COUNT,
    CRT.CNT_ORPHAN_COUNT]

theorem recordCounters_place : ∀ F ∈ recordCounters, F.kind = Kind.crt ∧ (∀ G ∈ ledgerFlds ++ recordFlds, G.place ≠ F.place) ∧
    (∀ G ∈ CRT.RTXN_TXN :: CRT.RTXN_CROWN :: PDM.DOMON_ON :: recordFlds, F.place ≠ G.place) := by decide

theorem Hub.RecordIs.cnt {h : Hub} {i c t st : Nat} (R : h.RecordIs i c t st) {F : Fld} (counter : F ∈ recordCounters) :
    (h.cnt F).RecordIs i c t st := by
  obtain ⟨-, -, apart⟩ := recordCounters_place F counter
  refine R.of_rd fun G m => rd_cnt_place (apart G ?_)
  revert G m
  decide

theorem Hub.Canon.rd_cnt_setRec {h : Hub} (C : h.Canon) {F : Fld} (counter : F ∈ recordCounters) (i committed target state : Nat) :
    ((h.setRec i committed target state).cnt F).rd F = h.oneMore F := by
  obtain ⟨crt, apart, -⟩ := recordCounters_place F counter
  rw [(Hub.setRec_canon C).rd_cnt, rd_setRec_apart crt apart]
  rfl

/-- Record `i` changed by a message of `src` under `txn`, which becomes its last, and counted in `F`. -/
def Hub.moveRec (h : Hub) (F : Fld) (i txn src committed target state : Nat) : Hub :=
  ((h.setTxn i txn src).setRec i committed target state).cnt F

theorem Hub.Canon.setTxn {h : Hub} (C : h.Canon) (i txn src : Nat) : (h.setTxn i txn src).Canon := C.wr.wr

theorem rd_setTxn_place {h : Hub} {i txn src : Nat} {F : Fld} {j b : Nat} (e1 : CRT.RTXN_TXN.place ≠ F.place)
    (e2 : CRT.RTXN_CROWN.place ≠ F.place) : (h.setTxn i txn src).rd F j b = h.rd F j b := (rd_wr_place e2).trans (rd_wr_place e1)

theorem tab_moveRec (h : Hub) (F : Fld) (i txn src committed target state : Nat) :
    (h.moveRec F i txn src committed target state).tab = h.tab := Hub.setRec_same.tab (by decide)

section Counted

variable {F : Fld} (counter : F ∈ recordCounters)
include counter

theorem domOn_moveRec (h : Hub) (i txn src committed target state d : Nat) :
    (h.moveRec F i txn src committed target state).domOn d = h.domOn d := by
  obtain ⟨-, -, apart⟩ := recordCounters_place F counter
  refine bit_of_rd ?_
  rw [Hub.moveRec, rd_cnt_place (apart _ (by decide)), Hub.setRec_rd (by decide), Hub.setTxn_rd (by decide)]

theorem Hub.Canon.recordIs_moveRec {h : Hub} (C : h.Canon) (i txn src committed target state : Nat) :
    (h.moveRec F i txn src committed target state).RecordIs i committed target state :=
  ((C.setTxn i txn src).recordIs_setRec i committed target state).cnt counter

theorem Hub.Canon.rd_moveRec_txn {h : Hub} (C : h.Canon) (i txn src committed target state : Nat) :
    (h.moveRec F i txn src committed target state).rd CRT.RTXN_TXN 0 i = txn % 2 ^ 16 := by
  obtain ⟨-, -, apart⟩ := recordCounters_place F counter
  rw [Hub.moveRec, rd_cnt_place (apart _ (by decide)), rd_setRec_apart (by decide) (by decide), Hub.setTxn, rd_wr_place (by decide)]
  exact C.rd_wr

theorem Hub.Canon.rd_moveRec_count {h : Hub} (C : h.Canon) (i txn src committed target state : Nat) :
    (h.moveRec F i txn src committed target state).rd F = h.oneMore F := by
  rw [Hub.moveRec, (C.setTxn i txn src).rd_cnt_setRec counter, Hub.oneMore, Hub.oneMore, rd_setTxn_place]
  · revert F
    decide
  · revert F
    decide

end Counted

/-! ### Messages about records and their answers (R271 to R275, R281) -/

theorem tunFind_of_tab {g h : Hub} (e : g.tab = h.tab) (tid : Nat) : g.tunFind tid = h.tunFind tid := by
  unfold Hub.tunFind
  simp only [tun_of_tab e]

theorem recFind_of_tunFind {h : Hub} {tid i : Nat} (found : h.tunFind tid = some i) : h.recFind tid = some i := by
  unfold Hub.recFind
  rw [found]

/-- A message answered OK is counted in none of the refusals, and its CRT_ACK shows the record (R272, R273). -/
theorem crtAnswer_of_ok {h : Hub} {tid i : Nat} (on : h.domOn 2 = true) (found : h.tunFind tid = some i) (src tok typ txn : Nat) :
    h.crtAnswer src tok typ tid txn { status := 0, idx := some i } =
      { h with ctlOut := h.ctlOut ++ [crtOk h src tok typ tid txn i] } := by
  unfold Hub.crtAnswer
  dsimp only
  rw [if_neg (by decide), if_neg (by decide), if_neg (by decide), recFind_of_tunFind found]
  exact ctlSend_of_domOn on _

/-- What a command completes with that changes a record of the tunnel and is answered OK. -/
theorem completes_moveRec {c : Instr} {s : State} {F : Fld} {src tok typ tid txn i : Nat} {committed target state : Hub → Nat}
    {Q : Hub → Prop}
    (e : exec c s = s.act fun h =>
      (h.moveRec F i txn src (committed h) (target h) (state h)).crtAnswer src tok typ tid txn { status := 0, idx := some i })
    (counter : F ∈ recordCounters) (up : s.hub.up 0x61 = true) (found : s.hub.tunFind tid = some i)
    (q : let g := s.hub.moveRec F i txn src (committed s.hub) (target s.hub) (state s.hub)
      Q { g with ctlOut := g.ctlOut ++ [crtOk g src tok typ tid txn i] }) : Completes c s Q := by
  have on := (domOn_moveRec counter s.hub i txn src (committed s.hub) (target s.hub) (state s.hub) 2).trans (domOn_of_up up)
  have found' := (tunFind_of_tab (tab_moveRec s.hub F i txn src (committed s.hub) (target s.hub) (state s.hub)) tid).trans found
  refine completes_act e ?_
  rw [crtAnswer_of_ok on found']
  exact q

/-- An increase that meets no refusal is reserved: TARGET moves, and COMMITTED waits for COMMIT (R266, R274). -/
theorem reserveAt_of_fit {h : Hub} {txn amount egress i : Nat} (points : egress = 0 ∨ egress = (h.tun i).egress)
    (least : h.rd CRT.RREC_COMMITTED 0 i ≤ amount) (most : amount ≤ 4095) (unheld : h.rd CRT.RREC_STATE 0 i ≠ 2)
    (new : h.rd CRT.RTXN_TXN 0 i ≠ txn % 2 ^ 16)
    (fit : amount ≤ h.rd CRT.RREC_TARGET 0 i ∨ h.fits i (h.rd CRT.RREC_TARGET 0 i) amount = none) (src : Nat) :
    h.reserveAt src txn amount egress i =
      (h.moveRec CRT.CNT_RESERVE_COUNT i txn src (h.rd CRT.RREC_COMMITTED 0 i) amount
        (if amount = h.rd CRT.RREC_COMMITTED 0 i then bnat (h.rd CRT.RREC_COMMITTED 0 i != 0) else 2),
        { status := 0, idx := some i }) := by
  have agrees : (egress ≠ 0 && egress ≠ (h.tun i).egress) = false := by rcases points with rfl | rfl <;> simp
  have other : (h.rd CRT.RTXN_TXN 0 i == txn % 2 ^ 16) = false := beq_false_of_ne new
  have fits : (if amount ≤ h.rd CRT.RREC_TARGET 0 i then none else h.fits i (h.rd CRT.RREC_TARGET 0 i) amount) = none := by
    split
    · rfl
    · next more => exact fit.resolve_left more
  unfold Hub.reserveAt
  dsimp only
  rw [agrees, other, fits, if_neg Bool.false_ne_true, if_neg (by omega), if_neg (by simp [unheld]), if_neg (by simp)]
  rfl

section Messages

variable {s : State} {src tid txn i : Nat} (up : s.hub.up 0x61 = true) (crown : s.hub.isCrown src = true)
  (found : s.hub.tunFind tid = some i)
include up crown found

theorem exec_reserve_of_fit {amount egress : Nat} (kept : (s.hub.tun i).state ≠ 3)
    (points : egress = 0 ∨ egress = (s.hub.tun i).egress) (least : s.hub.rd CRT.RREC_COMMITTED 0 i ≤ amount) (most : amount ≤ 4095)
    (unheld : s.hub.rd CRT.RREC_STATE 0 i ≠ 2) (new : s.hub.rd CRT.RTXN_TXN 0 i ≠ txn % 2 ^ 16)
    (fit : amount ≤ s.hub.rd CRT.RREC_TARGET 0 i ∨ s.hub.fits i (s.hub.rd CRT.RREC_TARGET 0 i) amount = none) (tok : Nat) :
    exec (.reserve src tok tid txn amount egress) s = s.act fun h =>
      (h.moveRec CRT.CNT_RESERVE_COUNT i txn src (h.rd CRT.RREC_COMMITTED 0 i) amount
        (if amount = h.rd CRT.RREC_COMMITTED 0 i then bnat (h.rd CRT.RREC_COMMITTED 0 i != 0) else 2)).crtAnswer
        src tok 0x20 tid txn { status := 0, idx := some i } := by
  show execReserve src tok tid txn amount egress s = _
  unfold execReserve
  rw [State.act_eq, State.act_eq]
  dsimp only
  rw [up, Hub.when_true, crown, Bool.not_true, if_neg Bool.false_ne_true, found]
  dsimp only
  rw [if_neg kept, reserveAt_of_fit points least most unheld new fit]

theorem exec_caratCommit_of_reserved (kept : (s.hub.tun i).state ≠ 3) (reserved : s.hub.rd CRT.RREC_STATE 0 i = 2)
    (last : s.hub.rd CRT.RTXN_TXN 0 i = txn % 2 ^ 16) (tok : Nat) :
    exec (.caratCommit src tok tid txn) s = s.act fun h =>
      (h.moveRec CRT.CNT_COMMIT_COUNT i txn src (h.rd CRT.RREC_TARGET 0 i) (h.rd CRT.RREC_TARGET 0 i) 1).crtAnswer
        src tok 0x21 tid txn { status := 0, idx := some i } := by
  show execCaratCommit src tok tid txn s = _
  unfold execCaratCommit
  rw [State.act_eq, State.act_eq]
  dsimp only
  rw [up, Hub.when_true, crown, Bool.not_true, if_neg Bool.false_ne_true, found]
  dsimp only
  rw [if_neg kept, if_neg (not_not.2 last), if_pos reserved]
  rfl

theorem exec_abort_of_reserved (reserved : s.hub.rd CRT.RREC_STATE 0 i = 2) (last : s.hub.rd CRT.RTXN_TXN 0 i = txn % 2 ^ 16)
    (tok : Nat) :
    exec (.abort src tok tid txn) s = s.act fun h =>
      (h.moveRec CRT.CNT_ABORT_COUNT i txn src (h.rd CRT.RREC_COMMITTED 0 i) (h.rd CRT.RREC_COMMITTED 0 i)
        (if h.rd CRT.RREC_COMMITTED 0 i = 0 then 0 else 1)).crtAnswer src tok 0x22 tid txn { status := 0, idx := some i } := by
  show execAbort src tok tid txn s = _
  unfold execAbort
  rw [State.act_eq, State.act_eq]
  dsimp only
  rw [up, Hub.when_true, crown, Bool.not_true, if_neg Bool.false_ne_true, recFind_of_tunFind found]
  dsimp only
  rw [if_neg (not_not.2 last), if_pos reserved]
  dsimp only
  rw [Hub.endReserve, rd_setTxn_place (by decide) (by decide)]
  rfl

theorem exec_decrease_of_found {amount : Nat} (le : amount ≤ s.hub.rd CRT.RREC_COMMITTED 0 i) (tok : Nat) :
    exec (.decrease src tok tid txn amount) s = s.act fun h =>
      (h.moveRec CRT.CNT_DECREASE_COUNT i txn src amount amount (bnat (amount != 0))).crtAnswer
        src tok 0x23 tid txn { status := 0, idx := some i } := by
  show execDecrease src tok tid txn amount s = _
  unfold execDecrease
  rw [State.act_eq, State.act_eq]
  dsimp only
  rw [up, Hub.when_true, crown, Bool.not_true, if_neg Bool.false_ne_true, found]
  dsimp only
  rw [if_neg (Nat.not_lt.2 le)]
  rfl

theorem exec_release_of_found (tok : Nat) :
    exec (.release src tok tid txn) s = s.act fun h =>
      (h.moveRec CRT.CNT_DECREASE_COUNT i txn src 0 0 0).crtAnswer src tok 0x24 tid txn { status := 0, idx := some i } := by
  show execRelease src tok tid txn s = _
  unfold execRelease
  rw [State.act_eq, State.act_eq]
  dsimp only
  rw [up, Hub.when_true, crown, Bool.not_true, if_neg Bool.false_ne_true, found]
  rfl

end Messages

/-! ### Records that end by themselves (R271, R283) -/

/-- Past its hold, a record returns to what it has committed, which is counted and shown. -/
theorem Hub.Canon.holdExpiry_shows {h : Hub} (C : h.Canon) (i : Nat) (x : Cap) :
    let c := h.rd CRT.RREC_COMMITTED 0 i
    let g := (((h.endReserve i).cnt CRT.CNT_EXPIRE_COUNT).raise 0x61 2 x).irq 0x61 1
    g.RecordIs i c c (if c = 0 then 0 else 1) ∧ g.rd CRT.CNT_EXPIRE_COUNT = h.oneMore CRT.CNT_EXPIRE_COUNT ∧
      g.bit HDR.ESTAT 2 0x61 = true ∧ g.bit HDR.ISTAT 1 0x61 = true := by
  dsimp only
  have CE : ((h.endReserve i).cnt CRT.CNT_EXPIRE_COUNT).Canon := (Hub.endReserve_canon C).cnt
  have same {F : Fld} {j b : Nat} (crt : F.kind = Kind.crt) :
      ((((h.endReserve i).cnt CRT.CNT_EXPIRE_COUNT).raise 0x61 2 x).irq 0x61 1).rd F j b =
        ((h.endReserve i).cnt CRT.CNT_EXPIRE_COUNT).rd F j b :=
    (Hub.irq_rd (by rw [crt]; decide)).trans (Hub.raise_rd (by rw [crt]; decide))
  refine ⟨((C.recordIs_setRec i _ _ _).cnt (by decide)).of_rd fun F m => same ?_, ?_, ?_, ?_⟩
  · revert F
    decide
  · rw [same (by decide)]
    exact C.rd_cnt_setRec (by decide) i _ _ _
  · rw [bit_of_rd (rd_irq_place (by decide))]
    exact CE.bit_raise (by decide) (by decide)
  · exact (Hub.raise_canon CE).bit_irq (by decide) (by decide)

/-- The record that an entry left behind in FREE is released, which is counted and shown. -/
theorem Hub.Canon.orphanRelease_shows {h : Hub} (C : h.Canon) (i tid : Nat) (x : Cap) :
    let g := (((((h.setRec i 0 0 0).loadMeter i).cnt CRT.CNT_ORPHAN_COUNT).raise 0x61 3 x).irq 0x61 3).crtNotice 3 0 tid 0 0
    g.RecordIs i 0 0 0 ∧ g.rd CRT.CNT_ORPHAN_COUNT = h.oneMore CRT.CNT_ORPHAN_COUNT ∧
      g.bit HDR.ESTAT 3 0x61 = true ∧ g.bit HDR.ISTAT 3 0x61 = true := by
  dsimp only
  have CL : ((h.setRec i 0 0 0).loadMeter i).Canon := Hub.loadMeter_canon (Hub.setRec_canon C)
  have same {F : Fld} {j b : Nat} (crt : F.kind = Kind.crt) :
      ((((((h.setRec i 0 0 0).loadMeter i).cnt CRT.CNT_ORPHAN_COUNT).raise 0x61 3 x).irq 0x61 3).crtNotice 3 0 tid 0 0).rd F j b =
        (((h.setRec i 0 0 0).loadMeter i).cnt CRT.CNT_ORPHAN_COUNT).rd F j b :=
    (Hub.crtNotice_rd (by rw [crt]; decide)).trans
      ((Hub.irq_rd (by rw [crt]; decide)).trans (Hub.raise_rd (by rw [crt]; decide)))
  have loaded : ((h.setRec i 0 0 0).loadMeter i).RecordIs i 0 0 0 :=
    (C.recordIs_setRec i 0 0 0).of_rd fun F m => Hub.loadMeter_rd (by revert F; decide)
  refine ⟨(loaded.cnt (by decide)).of_rd fun F m => same ?_, ?_, ?_, ?_⟩
  · revert F
    decide
  · rw [same (by decide), CL.rd_cnt, Hub.loadMeter_rd (by decide), rd_setRec_apart (by decide) (by decide)]
    rfl
  · rw [bit_of_rd (Hub.crtNotice_rd (by decide)), bit_of_rd (rd_irq_place (by decide))]
    exact CL.cnt.bit_raise (by decide) (by decide)
  · rw [bit_of_rd (Hub.crtNotice_rd (by decide))]
    exact (Hub.raise_canon CL.cnt).bit_irq (by decide) (by decide)

/-! ### Unreconciled hops (R279, R335) -/

theorem unrec_takeAnswer {h : Hub} {tok : Nat} {a : Ask} (sent : Tab.find tok h.asks = some a) (alone : a.chg = none)
    (src status typ : Nat) : (h.takeAnswer src tok status typ).unrec = h.unrec := by
  unfold Hub.takeAnswer
  rw [sent]
  dsimp only
  split
  · rfl
  · unfold Hub.settleAsk
    rw [alone]

/-- A DECREASE or RELEASE that three sendings have left unanswered makes its hop unreconciled (R279). -/
theorem unrec_retryAsk_of_tries {h : Hub} {tok : Nat} {a : Ask} (sent : Tab.find tok h.asks = some a) (alone : a.chg = none)
    (spent : 3 ≤ a.tries) (lowers : a.msg.typ = 0x23 ∨ a.msg.typ = 0x24) : (h.retryAsk tok).unrec =
      h.unrec ++ [⟨a.msg.dst, a.msg.typ, leAt a.msg.body 0 4, leAt a.msg.body 4 2, leAt a.msg.body 6 2⟩] := by
  unfold Hub.retryAsk
  rw [sent]
  dsimp only
  rw [if_neg (Nat.not_lt.2 spent), if_pos lowers, Hub.settleAsk, alone]

/-- The requester's registers set to read the word at window offset `addr` of node `node` (R192). -/
def Hub.askWord (h : Hub) (node addr : Nat) : Hub :=
  h.wr TUN.RRQ_NODE_NODE node |>.wr TUN.RRQ_ADDR_ADDR addr |>.wr TUN.RRQ_CTL_WRITE (bnat false) |>.wr TUN.RRQ_CTL_COUNT 1
    |>.wr (TUN.RRQ_DATA.word 0) 0

theorem Hub.Canon.askWord {h : Hub} (C : h.Canon) (node addr : Nat) : (h.askWord node addr).Canon := C.wr.wr.wr.wr.wr

theorem rd_askWord {h : Hub} {node addr : Nat} {F : Fld} {i b : Nat} (apart : ∀ G ∈ [TUN.RRQ_NODE_NODE, TUN.RRQ_ADDR_ADDR,
    TUN.RRQ_CTL_WRITE, TUN.RRQ_CTL_COUNT, TUN.RRQ_DATA.word 0], G.place ≠ F.place) :
    (h.askWord node addr).rd F i b = h.rd F i b := by
  unfold Hub.askWord
  iterate 5 rw [rd_wr_place (apart _ (by decide))]

theorem Hub.Canon.rrqMsg_askWord {h : Hub} (C : h.Canon) (node : Nat) {addr : Nat} (lt : addr < 2 ^ 24) :
    (h.askWord node addr).rrqMsg =
      ⟨1, false, node % 2 ^ 14, h.ctlTok, natLe 4 (addr + 2 ^ 24) ++ natLe 4 0⟩ := by
  have dst : (h.askWord node addr).rd TUN.RRQ_NODE_NODE = node % 2 ^ 14 := by
    unfold Hub.askWord
    iterate 4 rw [rd_wr_place (by decide)]
    exact C.rd_wr
  have off : (h.askWord node addr).rd TUN.RRQ_ADDR_ADDR = addr := by
    unfold Hub.askWord
    iterate 3 rw [rd_wr_place (by decide)]
    exact C.wr.rd_wr.trans (Nat.mod_eq_of_lt lt)
  have reads : (h.askWord node addr).on TUN.RRQ_CTL_WRITE = false := by
    unfold Hub.on Hub.askWord
    iterate 2 rw [rd_wr_place (by decide)]
    rw [C.wr.wr.rd_wr]
    rfl
  have one : (h.askWord node addr).rd TUN.RRQ_CTL_COUNT = 1 := by
    unfold Hub.askWord
    rw [rd_wr_place (by decide)]
    exact C.wr.wr.wr.rd_wr
  unfold Hub.rrqMsg Hub.rrqData Hub.ctlTok
  rw [dst, off, reads, one, rd_askWord (by decide)]
  simp [ofWords]

theorem tunSet_lt (tid : Nat) : tunSet tid < 2 ^ 11 := by
  unfold tunSet bits
  exact Nat.xor_lt_two_pow (by omega) (by omega)

/-- The first access of a reading: the word of the first way of the tunnel's set, at the first hop (R280). -/
theorem settleGo_of_new {h : Hub} {r : Settle} {l : List Settle} (first : h.settles = r :: l) (new : r.stage = 0)
    (up : h.up 0x40 = true) (idle : h.rd TUN.RRQ_CTL_DONE ≠ 1) :
    h.settleGo = ((h.askWord (r.hops.headD 0) (tunAddr (4 * tunSet r.tid))).rrqSend).wr TUN.hSettle 1 := by
  have free : (h.rd TUN.RRQ_CTL_DONE != 1) = true := bne_iff_ne.2 idle
  unfold Hub.settleGo
  rw [first]
  dsimp only
  rw [up, free, Bool.and_self, Hub.when_true, Hub.settleAccess, new]
  rfl

/-- The reading of the record of an unreconciled hop. -/
def readingOf (u : Unrec) : Settle := { tid := u.tid, txn := u.txn, src := u.hop, hops := [u.hop], unrec := some u }

/-- With no other reading under way, the record of the one unreconciled hop is read (R335 step 5). -/
theorem exec_unreconciledCheck_of_one {s : State} {u : Unrec} (fw : s.hub.fwOn = true) (crown : s.hub.rd CAS.STAT_CROLE = 1)
    (one : s.hub.unrec = [u]) (none : s.hub.settles = []) : exec .unreconciledCheck s = s.act fun h =>
      ({ h with settles := [readingOf u] } : Hub).settleGo := by
  show execUnreconciledCheck s = _
  unfold execUnreconciledCheck
  rw [State.act_eq, State.act_eq]
  rw [fw, crown, beq_self_eq_true, Bool.and_self, Hub.when_true, Hub.settleAll, one, none]
  rfl

theorem Hub.Canon.settleGo_shows {h : Hub} (C : h.Canon) {r : Settle} {l : List Settle} (first : h.settles = r :: l)
    (new : r.stage = 0) (up : h.up 0x40 = true) (idle : h.rd TUN.RRQ_CTL_DONE ≠ 1) :
    h.settleGo.rd TUN.RRQ_CTL_DONE = 1 ∧ h.settleGo.ctlOut = h.ctlOut ++ [⟨1, false, r.hops.headD 0 % 2 ^ 14, h.ctlTok,
      natLe 4 (tunAddr (4 * tunSet r.tid) + 2 ^ 24) ++ natLe 4 0⟩] := by
  have lt : tunAddr (4 * tunSet r.tid) < 2 ^ 24 := by
    have := tunSet_lt r.tid
    unfold tunAddr
    omega
  have idle' : (h.askWord (r.hops.headD 0) (tunAddr (4 * tunSet r.tid))).rd TUN.RRQ_CTL_DONE ≠ 1 := by
    rw [rd_askWord (by decide)]
    exact idle
  have on : (h.askWord (r.hops.headD 0) (tunAddr (4 * tunSet r.tid))).domOn 2 = true :=
    (bit_of_rd (rd_askWord (by decide))).trans (domOn_of_up up)
  obtain ⟨done, -⟩ := (C.askWord _ _).rd_rrqSend idle' {}
  rw [settleGo_of_new first new up idle]
  refine ⟨(rd_wr_place (by decide)).trans done, ?_⟩
  rw [Hub.wr_ctlOut, ctlOut_rrqSend idle' on, C.rrqMsg_askWord _ lt]
  rfl

end Sys2Proof.Machine

open Sys2Proof Sys2Proof.Machine

/-- Settles O11, clause by clause: a message about a record comes to one change of that record and an answer that shows it. -/
theorem caratCommandsComplete : Obligations.CaratCommandsComplete := by
  intro s I
  have C : s.hub.Canon := I
  refine ⟨?reserve, ?commit, ?abort, ?decrease, ?release, ?ack, ?retry, ?expiry, ?orphan, ?unreconciled⟩
  case reserve =>
    intro src tok tid txn amount egress i up crown found kept points least most unheld new fit
    have counter : CRT.CNT_RESERVE_COUNT ∈ recordCounters := by decide
    refine completes_moveRec (exec_reserve_of_fit up crown found kept points least most unheld new fit tok) counter up found ?_
    have R := C.recordIs_moveRec counter i txn src (s.hub.rd CRT.RREC_COMMITTED 0 i) amount
      (if amount = s.hub.rd CRT.RREC_COMMITTED 0 i then bnat (s.hub.rd CRT.RREC_COMMITTED 0 i != 0) else 2)
    refine ⟨R.target.trans (Nat.mod_eq_of_lt (Nat.lt_succ_of_le most)), R.committed, C.rd_moveRec_txn counter i txn src _ _ _,
      C.rd_moveRec_count counter i txn src _ _ _, fun more => ?_, List.getLast?_concat⟩
    refine R.state.trans ?_
    rw [if_neg more]
    rfl
  case commit =>
    intro src tok tid txn i up crown found kept reserved last
    have counter : CRT.CNT_COMMIT_COUNT ∈ recordCounters := by decide
    have R := C.recordIs_moveRec counter i txn src (s.hub.rd CRT.RREC_TARGET 0 i) (s.hub.rd CRT.RREC_TARGET 0 i) 1
    exact completes_moveRec (exec_caratCommit_of_reserved up crown found kept reserved last tok) counter up found
      ⟨R.state, R.committed, C.rd_moveRec_count counter i txn src _ _ _, List.getLast?_concat⟩
  case abort =>
    intro src tok tid txn i up crown found reserved last
    have counter : CRT.CNT_ABORT_COUNT ∈ recordCounters := by decide
    have R := C.recordIs_moveRec counter i txn src (s.hub.rd CRT.RREC_COMMITTED 0 i) (s.hub.rd CRT.RREC_COMMITTED 0 i)
      (if s.hub.rd CRT.RREC_COMMITTED 0 i = 0 then 0 else 1)
    exact completes_moveRec (exec_abort_of_reserved up crown found reserved last tok) counter up found
      ⟨R.state.trans (by split <;> rfl), R.target, C.rd_moveRec_count counter i txn src _ _ _, List.getLast?_concat⟩
  case decrease =>
    intro src tok tid txn amount i up crown found le
    have counter : CRT.CNT_DECREASE_COUNT ∈ recordCounters := by decide
    have R := C.recordIs_moveRec counter i txn src amount amount (bnat (amount != 0))
    exact completes_moveRec (exec_decrease_of_found up crown found le tok) counter up found
      ⟨R.committed, R.target, C.rd_moveRec_txn counter i txn src _ _ _, C.rd_moveRec_count counter i txn src _ _ _,
        List.getLast?_concat⟩
  case release =>
    intro src tok tid txn i up crown found
    have counter : CRT.CNT_DECREASE_COUNT ∈ recordCounters := by decide
    have R := C.recordIs_moveRec counter i txn src 0 0 0
    exact completes_moveRec (exec_release_of_found up crown found tok) counter up found
      ⟨R.committed, R.target, R.state, List.getLast?_concat⟩
  case ack =>
    rintro src tok status typ tid txn committed a fw sent rfl htyp alone
    have asks := asks_takeAnswer (status := status) sent htyp alone
    have unrec := unrec_takeAnswer sent alone a.msg.dst status typ
    refine completes_when (p := fun h => h.fwOn) (f := fun _ h =>
      let h1 := h.takeAnswer a.msg.dst tok status typ
      if status = 0 then
        { h1 with unrec := h1.unrec.filter fun u => !(u.hop == a.msg.dst && u.typ == typ && u.tid == tid && u.txn == txn) }
      else h1) rfl fw ?_
    dsimp only
    by_cases ok : status = 0
    · rw [if_pos ok]
      exact ⟨asks, fun _ => by rw [unrec]⟩
    · rw [if_neg ok]
      exact ⟨asks, fun ok' => absurd ok' ok⟩
  case retry =>
    intro tok a fw on sent alone
    refine completes_when (p := fun h => h.fwOn) (f := fun _ h => h.retryAsk tok) rfl fw ⟨fun few => ?_, fun spent lowers => ?_⟩
    · rw [retryAsk_of_tries sent few, ctlSend_of_domOn on]
      exact ⟨rfl, Tab.find_ins_same _ _ _⟩
    · exact unrec_retryAsk_of_tries sent alone spent lowers
  case expiry =>
    intro idx up reserved
    obtain ⟨R, count, err, irq⟩ := C.holdExpiry_shows idx { lo := (s.hub.tun idx).tid }
    exact completes_when (p := fun h => h.up 0x61 && h.rd CRT.RREC_STATE 0 idx == 2) (f := fun _ h =>
      (((h.endReserve idx).cnt CRT.CNT_EXPIRE_COUNT).raise 0x61 2 { lo := (h.tun idx).tid }).irq 0x61 1) rfl
      (by rw [up, reserved]; rfl) ⟨R.state.trans (by split <;> rfl), R.target, count, err, irq⟩
  case orphan =>
    intro idx up free held
    have held' : (s.hub.rd CRT.RREC_STATE 0 idx != 0) = true := held
    obtain ⟨R, count, err, irq⟩ := C.orphanRelease_shows idx (s.hub.tun idx).tid { lo := (s.hub.tun idx).tid }
    exact completes_when (p := fun h => h.up 0x61 && (h.tun idx).state == 0 && h.rd CRT.RREC_STATE 0 idx != 0) (f := fun _ h =>
      (((((h.setRec idx 0 0 0).loadMeter idx).cnt CRT.CNT_ORPHAN_COUNT).raise 0x61 3 { lo := (h.tun idx).tid }).irq 0x61 3).crtNotice
        3 0 (h.tun idx).tid 0 0) rfl (by rw [up, free, held']; rfl) ⟨R.committed, R.state, count, err, irq⟩
  case unreconciled =>
    intro u fw crown one none up idle
    have CS : ({ s.hub with settles := [readingOf u] } : Hub).Canon := ⟨C.regs, C.tab, C.fmem⟩
    obtain ⟨busy, out⟩ := CS.settleGo_shows rfl rfl up idle
    exact completes_act (exec_unreconciledCheck_of_one fw crown one none)
      ⟨(Hub.settleGo_same.unrec (by decide)).trans one, Hub.settleGo_same.settles (by decide), busy, out⟩
end

section
/-! PROOFS. A statement on the cascade that the model does not meet, with the node that shows it (R198, R201, R329). -/

namespace Sys2Proof.Machine

open Sys2Proof

/-- A CAS_ACK that answers no STANDBY does what any answer does, and announces no standby crown (R328, R329). -/
theorem exec_casAck_of_ne_standby {typ : Nat} (other : typ ≠ 0x43) (src tok status epoch : Nat) (s : State) :
    exec (.casAck src tok status typ epoch) s = s.act fun h => h.when h.casOn fun h => h.takeAnswer src tok status typ := by
  have named : (typ == 0x43) = false := beq_eq_false_iff_ne.mpr other
  show execCasAck src tok status typ epoch s = _
  unfold execCasAck
  congr 1
  funext h
  congr 1
  funext h
  cases Tab.find tok h.asks with
  | none => rfl
  | some a => simp only [named, Bool.and_false, Bool.false_and, Hub.when_false]

/-- A TUN_SETUP sent once to node 3, under no change. -/
def setupAsk : Ask := { msg := { typ := 0x10, dst := 3, tok := 9 } }

/-- Node `h` with that request alone unanswered. -/
def Hub.awaitingSetup (h : Hub) : Hub := { h with asks := [(9, setupAsk)] }

theorem Hub.Canon.awaitingSetup {h : Hub} (C : h.Canon) : h.awaitingSetup.Canon := ⟨C.regs, C.tab, C.fmem⟩

/-- A node on which cascade runs, and whose TUN_SETUP awaits its answer. -/
def setupAskNode : State :=
  { hub := (poweredNode [(HDR.PSTAT_READY, 0, 1), (HDR.PSTAT_READY, 0x68, 1), (UPD.hFw, 0, 1)] []).hub.awaitingSetup }

theorem setupAskNode_inv : setupAskNode.Inv := Hub.Canon.awaitingSetup (poweredNode_inv _ _)

theorem find_asks_setupAskNode : Tab.find 9 setupAskNode.hub.asks = some setupAsk := rfl

/-- Status 3 in answer to the TUN_SETUP leaves it waiting. -/
theorem asks_takeAnswer_setupAskNode : (setupAskNode.hub.takeAnswer 3 9 3 0x10).asks = setupAskNode.hub.asks :=
  (asks_takeAnswer find_asks_setupAskNode rfl rfl).trans (if_pos (by decide))

/-- Refutes O12: the clause on `casAck` has every request that is answered taken off the list, whatever its TYPE. The model reads
status 3 to a TUN_SETUP as EXISTS, in a CAS_ACK as in any other answer, and keeps the request to be sent again (R201, log
entry 130). -/
theorem not_cascadeCommandsComplete : ¬ Obligations.CascadeCommandsComplete := by
  intro h
  obtain ⟨-, -, -, -, -, -, -, -, -, -, -, -, -, -, -, ack, -⟩ := h setupAskNode setupAskNode_inv
  have on : setupAskNode.hub.casOn = true := by decide +kernel
  obtain ⟨taken, -⟩ := of_completes_when (p := Hub.casOn) (exec_casAck_of_ne_standby (by decide) _ _ _ _ _) on
    (ack 3 9 3 0x10 0 setupAsk on find_asks_setupAskNode rfl rfl rfl)
  rw [asks_takeAnswer_setupAskNode] at taken
  exact absurd (taken : [(9, setupAsk)] = []) (List.cons_ne_nil _ _)

end Sys2Proof.Machine
end

section
/-! PROOFS. Stores to frame memory (R349, R354, R355, R359, R371, R374, R429): which bytes each leaves alone. -/

namespace Sys2Proof.Machine

open Sys2Proof

/-! ### The slots (R347) -/

/-- Byte `a` of frame memory lies outside slot `k`. -/
def Hub.Outside (h : Hub) (k a : Nat) : Prop := a < h.slotBase k ∨ h.slotBase k + h.slotBytes k ≤ a

/-- `g` has the slots of `h`: words 0 to 3 of every entry, which hardware does not write, read the same. -/
def Hub.SameSlots (h g : Hub) : Prop := ∀ k < 256, ∀ w < 4, g.slotWord k w = h.slotWord k w

namespace Hub.SameSlots

variable {h g : Hub} {k : Nat}

theorem refl (h : Hub) : h.SameSlots h := fun _ _ _ _ => rfl

theorem trans {g' : Hub} (e : h.SameSlots g) (e' : g.SameSlots g') : h.SameSlots g' :=
  fun k hk w hw => (e' k hk w hw).trans (e k hk w hw)

theorem of_tab (e : g.tab = h.tab) : h.SameSlots g := fun _ _ _ _ => congrArg (Tab.get 0 _) e

theorem slotFld (e : h.SameSlots g) (hk : k < 256) {w : Nat} (hw : w < 4) (lo n : Nat) : g.slotFld k w lo n = h.slotFld k w lo n :=
  congrArg (bits · lo n) (e k hk w hw)

theorem slotTiles (e : h.SameSlots g) (hk : k < 256) : g.slotTiles k = h.slotTiles k := by
  unfold Hub.slotTiles Hub.slotTw Hub.slotTh Hub.slotW Hub.slotH
  rw [e.slotFld hk (by decide), e.slotFld hk (by decide)]

theorem outside_iff (e : h.SameSlots g) (hk : k < 256) {a : Nat} : g.Outside k a ↔ h.Outside k a := by
  unfold Hub.Outside Hub.slotBytes Hub.slotBase
  rw [e.slotTiles hk, e.slotFld hk (by decide)]

theorem setTword (e : h.SameSlots g) {a v : Nat} (far : ∀ k < 256, ∀ w < 4, a / 4 ≠ slotAddr k w / 4) :
    h.SameSlots (g.setTword a v) :=
  fun k hk w hw => (tword_setTword_ne (far k hk w hw)).trans (e k hk w hw)

/-- Hardware writes words 4 to 15 of an entry alone. -/
theorem setTwordSlot (e : h.SameSlots g) {w v : Nat} (h4 : 4 ≤ w) (h16 : w < 16) : h.SameSlots (g.setTword (slotAddr k w) v) :=
  e.setTword fun j _ x _ => by unfold slotAddr; omega

theorem setSlot (e : h.SameSlots g) {w lo n v : Nat} (h4 : 4 ≤ w) (h16 : w < 16) : h.SameSlots (g.setSlot k w lo n v) :=
  e.setTwordSlot h4 h16

theorem wr (e : h.SameSlots g) {F : Fld} {v i b : Nat} : h.SameSlots (g.wr F v i b) := e

theorem setState (e : h.SameSlots g) {st : Nat} : h.SameSlots (g.setState k st) := e.setSlot (by decide) (by decide)

theorem retire (e : h.SameSlots g) : h.SameSlots (g.retire k) := e.setState

/-- The signatures lie above the slot table (R50). -/
theorem setSig (e : h.SameSlots g) {t v : Nat} : h.SameSlots (g.setSig k t v) := by
  refine keep_when (P := h.SameSlots) (fun g e => e.setTword fun j hj x hx => ?_) e
  unfold slotAddr sigAddr
  omega

end Hub.SameSlots

/-! ### Rings (R349) -/

/-- NEXT of a slot has 8 bits, so what no slot's number is begins no ring. -/
theorem ring_eq_none {h : Hub} {first : Nat} (big : 256 ≤ first) : h.ring first = none := by
  unfold Hub.ring
  dsimp only
  rw [List.find?_eq_none.2]
  intro n hn
  rw [List.mem_range] at hn
  rcases n with _ | n
  · simp
  · have small : h.slotFld (Nat.repeat (fun k => h.slotFld k 2 0 8) n first) 2 0 8 < 256 := Nat.mod_lt _ (by decide)
    simp only [List.getD_eq_getElem?_getD, List.getElem?_map, List.getElem?_range hn, Option.map_some, Option.getD_some,
      Nat.repeat, Bool.and_eq_true, beq_iff_eq, not_and]
    omega

theorem Hub.SameSlots.ring {h g : Hub} (e : h.SameSlots g) (first : Nat) : g.ring first = h.ring first := by
  by_cases big : 256 ≤ first
  · rw [ring_eq_none big, ring_eq_none big]
  have walk (n : Nat) : Nat.repeat (fun k => h.slotFld k 2 0 8) n first < 256 ∧
      Nat.repeat (fun k => g.slotFld k 2 0 8) n first = Nat.repeat (fun k => h.slotFld k 2 0 8) n first := by
    induction n with
    | zero => exact ⟨Nat.lt_of_not_le big, rfl⟩
    | succ n ih =>
      obtain ⟨small, same⟩ := ih
      refine ⟨Nat.mod_lt _ (by decide), ?_⟩
      rw [Nat.repeat, Nat.repeat, same]
      exact e.slotFld small (by decide) 0 8
  unfold Hub.ring
  dsimp only
  rw [funext fun n => (walk n).2]

/-! ### Bytes -/

theorem get_wipe_of_outside {α : Type} (d : α) {lo hi a : Nat} (out : a < lo ∨ hi ≤ a) (m : Tab α) :
    Tab.get d a (Tab.wipe lo hi m) = Tab.get d a m := by
  induction m with
  | nil => rfl
  | cons p m ih =>
    obtain ⟨k, v⟩ := p
    unfold Tab.wipe at ih ⊢
    rw [List.filter_cons]
    split
    · simp only [Tab.get, ih]
    · rename_i c
      have ne : k ≠ a := by
        rintro rfl
        simp at c
        omega
      simp only [Tab.get, if_neg ne, ih]

theorem get_fput {h : Hub} {b a : Nat} {bs : Bytes} (out : a < b ∨ b + bs.length ≤ a) :
    Tab.get 0 a (h.fput b bs).fmem = Tab.get 0 a h.fmem :=
  out.elim (Tab.get_putRun_below 0 bs _) (Tab.get_putRun_above 0 bs _)

/-- From `h` to `g` byte `a` of frame memory stands, and so does the slot table. -/
structure Hub.Untouched (a : Nat) (h g : Hub) : Prop where
  byte : Tab.get 0 a g.fmem = Tab.get 0 a h.fmem
  tab : g.tab = h.tab

namespace Hub.Untouched

variable {h g : Hub} {a : Nat}

theorem refl (a : Nat) (h : Hub) : Hub.Untouched a h h := ⟨rfl, rfl⟩

theorem wr (U : Hub.Untouched a h g) {F : Fld} {v i b : Nat} : Hub.Untouched a h (g.wr F v i b) := ⟨U.byte, U.tab⟩

/-- Changes that reach no table and no frame memory. -/
theorem of_same {g' : Hub} {m : Nat} (U : Hub.Untouched a h g) (S : Hub.Same m g g')
    (e : ∀ k ∈ [Kind.tab, Kind.fmem], m.testBit k = false := by decide) : Hub.Untouched a h g' :=
  ⟨(congrArg (Tab.get 0 a) (S.fmem (e _ (by decide)))).trans U.byte, (S.tab (e _ (by decide))).trans U.tab⟩

theorem fput (U : Hub.Untouched a h g) {b : Nat} {bs : Bytes} (out : a < b ∨ b + bs.length ≤ a) :
    Hub.Untouched a h (g.fput b bs) :=
  ⟨(get_fput out).trans U.byte, U.tab⟩

end Hub.Untouched

/-! ### Tiles (R342) -/

/-- The rows of a tile lie in its slot. -/
theorem tileRow_mem_slot {h : Hub} {k t y : Nat} (ht : t < h.slotTiles k) (hy : y < 64) :
    h.slotBase k ≤ h.tileRow k t y ∧ h.tileRow k t y + 256 ≤ h.slotBase k + h.slotBytes k := by
  unfold Hub.slotBytes Hub.tileRow
  dsimp only
  unfold Hub.slotTiles at ht ⊢
  generalize h.slotTw k = tw at ht ⊢
  generalize h.slotTh k = th at ht ⊢
  have pos : 0 < tw := Nat.pos_of_mul_pos_right (Nat.zero_lt_of_lt ht)
  have col : t % tw + 1 ≤ tw := Nat.mod_lt t pos
  have row : t / tw * 64 + y + 1 ≤ th * 64 := by
    have : t / tw < th := Nat.div_lt_of_lt_mul ht
    omega
  have fits : (t / tw * 64 + y) * (tw * 256) + (t % tw + 1) * 256 ≤ tw * th * 16384 :=
    calc (t / tw * 64 + y) * (tw * 256) + (t % tw + 1) * 256
        ≤ (t / tw * 64 + y) * (tw * 256) + tw * 256 := Nat.add_le_add_left (Nat.mul_le_mul_right _ col) _
      _ = (t / tw * 64 + y + 1) * (tw * 256) := by ring
      _ ≤ th * 64 * (tw * 256) := Nat.mul_le_mul_right _ row
      _ = tw * th * 16384 := by ring
  omega

/-- A tile of slot `k` is written inside the slot. -/
theorem Hub.Untouched.putTile {h g : Hub} {a k t : Nat} (U : Hub.Untouched a h g) {px : Bytes} (ht : t < h.slotTiles k)
    (out : h.Outside k a) : Hub.Untouched a h (g.putTile k t px) := by
  have row (y : Nat) {g' : Hub} (e : g'.tab = h.tab) : g'.tileRow k t y = h.tileRow k t y := by
    unfold Hub.tileRow Hub.slotBase Hub.slotTw Hub.slotW Hub.slotFld Hub.slotWord Hub.tword
    rw [e]
  unfold Hub.putTile
  refine keep_each_mem (P := Hub.Untouched a h) (fun y hy g' U' => ?_) U
  have hy64 : y < 64 := Nat.lt_of_lt_of_le (List.mem_range.1 hy) (Nat.min_le_left _ _)
  have inSlot := tileRow_mem_slot ht hy64
  refine ⟨(U'.fput ?_).byte, U'.tab⟩
  rw [row y U'.tab, List.length_take]
  have width : (g.tileVis k t).1 ≤ 256 := Nat.min_le_left _ _
  unfold Hub.Outside at out
  omega

end Sys2Proof.Machine
end

section
/-! PROOFS. Stores to frame memory: what a frame writer's commit, catch-up and next frame leave alone (R350, R355). -/

namespace Sys2Proof.Machine

open Sys2Proof

/-- From `h` to `g` byte `a` of frame memory stands, and so do the slots. -/
structure Hub.Stays (a : Nat) (h g : Hub) : Prop where
  byte : Tab.get 0 a g.fmem = Tab.get 0 a h.fmem
  slots : h.SameSlots g

theorem Hub.Stays.refl (a : Nat) (h : Hub) : Hub.Stays a h h := ⟨rfl, .refl h⟩

/-! ### Slots after a step of a frame writer -/

variable {h : Hub} {w : Writer}

/-- A writer begins a frame in a slot of its ring, or has none. -/
theorem beginFrame_cases (h : Hub) (w : Writer) :
    h.beginFrame w = h.wr DTL.hSlot 0 0 (writerNo w) ∨
      ∃ k ∈ h.ringOf w, ∃ x, h.beginFrame w = ((h.setState k 1).wr DTL.hSlot (k + 1) 0 (writerNo w)).setSlot k 4 7 1 x := by
  unfold Hub.beginFrame
  dsimp only
  split
  · exact .inl rfl
  · rename_i k found
    refine .inr ⟨k, ?_, _, rfl⟩
    have mem := List.mem_of_find?_eq_some found
    split at mem
    · rw [List.mem_append] at mem
      exact mem.elim List.mem_of_mem_drop List.mem_of_mem_take
    · exact mem

theorem sameSlots_beginFrame : h.SameSlots (h.beginFrame w) := by
  rcases beginFrame_cases h w with e | ⟨k, -, x, e⟩ <;> rw [e]
  · exact (Hub.SameSlots.refl h).wr
  · exact (Hub.SameSlots.refl h).setState.wr.setSlot (by decide) (by decide)

theorem sameSlots_abortSlot : h.SameSlots (h.abortSlot w) := by
  unfold Hub.abortSlot
  split
  · exact .refl h
  · exact ((Hub.SameSlots.refl h).setState.setSlot (by decide) (by decide)).wr

theorem sameSlots_commitSlot {err : Nat} {incomplete : Bool} : h.SameSlots (h.commitSlot w err incomplete) := by
  have retired (o : Option Nat) : h.SameSlots (match o with | some q => h.retire q | none => h) := by
    cases o
    · exact .refl h
    · exact (Hub.SameSlots.refl h).retire
  unfold Hub.commitSlot
  dsimp only
  split
  · exact .refl h
  · exact ((((retired _).setState.setTwordSlot (by decide) (by decide)).setTwordSlot (by decide) (by decide)).setTwordSlot
      (by decide) (by decide)).wr.wr.wr

theorem rd_setTword {a v : Nat} {F : Fld} {i b : Nat} : (h.setTword a v).rd F i b = h.rd F i b := rfl

theorem rd_setState {k st : Nat} {F : Fld} {i b : Nat} : (h.setState k st).rd F i b = h.rd F i b := rfl

theorem rd_abortSlot_place {G : Fld} {i b : Nat} (e : DTL.hSlot.place ≠ G.place) : (h.abortSlot w).rd G i b = h.rd G i b := by
  unfold Hub.abortSlot
  split
  · rfl
  · exact rd_wr_place e

/-- A commit ends the frame. -/
theorem Hub.Canon.rd_commitSlot_slot (C : h.Canon) {err : Nat} {incomplete : Bool} :
    (h.commitSlot w err incomplete).rd DTL.hSlot 0 (writerNo w) = 0 := by
  have retired (o : Option Nat) : (match o with | some q => h.retire q | none => h).Canon := by
    cases o
    · exact C
    · exact Hub.retire_canon C
  unfold Hub.commitSlot
  dsimp only
  split
  · assumption
  · exact (Hub.setState_canon (retired _)).setTword.setTword.setTword.wr.wr.rd_wr

theorem rd_commitSlot_place {err : Nat} {incomplete : Bool} {G : Fld} {i b : Nat}
    (e : DTL.hCount.place ≠ G.place ∧ DTL.hLast.place ≠ G.place ∧ DTL.hSlot.place ≠ G.place) :
    (h.commitSlot w err incomplete).rd G i b = h.rd G i b := by
  unfold Hub.commitSlot
  dsimp only
  split
  · rfl
  · rw [rd_wr_place e.2.2, rd_wr_place e.2.1, rd_wr_place e.1, rd_setTword, rd_setTword, rd_setTword, rd_setState]
    split
    · exact rd_setState
    · rfl

/-! ### Catch-up (R355) -/

/-- A catch-up stores in the slot that it fills. -/
theorem stays_catchUp {a : Nat} {skip : List Nat} (small : h.rd DTL.hSlot 0 (writerNo w) ≤ 256)
    (out : 0 < h.rd DTL.hSlot 0 (writerNo w) → h.Outside (h.rd DTL.hSlot 0 (writerNo w) - 1) a) :
    Hub.Stays a h (h.catchUp w skip) := by
  unfold Hub.catchUp
  split
  · rename_i k q slot _
    rw [slot] at small out
    split
    · exact .refl a h
    · have copies {t : Nat} (ht : t < h.slotTiles k) {g : Hub} (S : Hub.Stays a h g) :
          Hub.Stays a h ((g.putTile k t (g.tileBytes q t)).setSig k t (g.sig q t)) := by
        have U := (Hub.Untouched.refl a g).putTile (px := g.tileBytes q t) ((S.slots.slotTiles small).symm ▸ ht)
          ((S.slots.outside_iff small).2 (out (Nat.succ_pos k)))
        refine ⟨?_, (S.slots.trans (.of_tab U.tab)).setSig⟩
        rw [Hub.setSig_same.fmem (by decide), U.byte, S.byte]
      have S := keep_each_mem (P := Hub.Stays a h) (l := (List.range (h.slotTiles k)).filter fun t =>
          h.sig k t != h.sig q t && !skip.contains t)
        (fun t ht _ => copies (List.mem_range.1 (List.mem_filter.1 ht).1)) (.refl a h)
      refine ⟨?_, S.slots.setSlot (by decide) (by decide)⟩
      rw [Hub.setSlot_same.fmem (by decide)]
      exact S.byte
  · exact .refl a h

end Sys2Proof.Machine
end

section
/-! PROOFS. Stores to frame memory: a receive stream stores in the slot of its open frame and in those of its ring (R371, R374). -/

namespace Sys2Proof.Machine

open Sys2Proof

/-- The tiles between the last one that arrived and packet `t` are gaps, and the packets from number `ord` to `t` are lost (R373): the
step of `rxTile` that precedes the tile. -/
def Hub.skipTo (h : Hub) (r : Fin 8) (t : TilePkt) (ord : Nat) : Hub :=
  ((h.when (decide (h.rd DTL.hTile 0 r < t.tile)) fun h => h.addGap r (h.rd DTL.hTile 0 r) (t.tile - 1)).cntN
    DTL.R_CNT_LOST_COUNT (t.ord - ord) 0 r).rxError r

theorem tab_skipTo {h : Hub} {r : Fin 8} {t : TilePkt} {ord : Nat} : (h.skipTo r t ord).tab = h.tab :=
  keep_when (P := fun g => g.tab = h.tab) (c := decide (h.rd DTL.hTile 0 r < t.tile))
    (fun _ e => (Hub.addGap_same.tab (by decide)).trans e) rfl

/-- Byte `a` reads `v` and lies outside the slots that receive stream `r` may come to write: the slot of its open frame and
those of its ring. -/
structure Hub.ReceiveAvoids (r : Fin 8) (a : Nat) (v : Byte) (h : Hub) : Prop where
  canon : h.Canon
  byte : Tab.get 0 a h.fmem = v
  small : h.rxSlot r ≤ 256
  slot : 0 < h.rxSlot r → h.Outside (h.rxSlot r - 1) a
  ring : ∀ k ∈ h.ringOf (.receive r), k < 256 ∧ h.Outside k a

namespace Hub.ReceiveAvoids

variable {r : Fin 8} {a : Nat} {v : Byte} {h g : Hub}

/-- It stands where byte and slots do, and the stream goes on in its slot, leaves it, or takes one of its ring. -/
theorem of_stays (H : Hub.ReceiveAvoids r a v h) (C : g.Canon) (S : Hub.Stays a h g)
    (first : g.rd DTL.RRING_FIRST 0 r = h.rd DTL.RRING_FIRST 0 r)
    (slot : g.rxSlot r = h.rxSlot r ∨ g.rxSlot r = 0 ∨ ∃ k ∈ h.ringOf (.receive r), g.rxSlot r = k + 1) :
    Hub.ReceiveAvoids r a v g := by
  have ring : g.ringOf (.receive r) = h.ringOf (.receive r) := by
    unfold Hub.ringOf Hub.ringFirst
    dsimp only
    rw [first, S.slots.ring]
  have inRing : ∀ k ∈ g.ringOf (.receive r), k < 256 ∧ g.Outside k a := fun k hk => by
    obtain ⟨small, out⟩ := H.ring k (ring ▸ hk)
    exact ⟨small, (S.slots.outside_iff small).2 out⟩
  have inSlot : g.rxSlot r ≤ 256 ∧ (0 < g.rxSlot r → g.Outside (g.rxSlot r - 1) a) := by
    rcases slot with same | none | ⟨k, hk, taken⟩
    · rw [same]
      refine ⟨H.small, fun pos => (S.slots.outside_iff ?_).2 (H.slot pos)⟩
      have := H.small
      omega
    · rw [none]
      exact ⟨Nat.zero_le _, fun pos => absurd pos (Nat.lt_irrefl 0)⟩
    · rw [taken]
      obtain ⟨small, out⟩ := inRing k (ring.symm ▸ hk)
      exact ⟨small, fun _ => out⟩
  exact ⟨C, S.byte.trans H.byte, inSlot.1, inSlot.2, inRing⟩

/-- A register that names neither the stream's slot nor its ring. -/
theorem wr (H : Hub.ReceiveAvoids r a v h) {F : Fld} {x i b : Nat}
    (e : F.place ≠ DTL.hSlot.place ∧ F.place ≠ DTL.RRING_FIRST.place := by decide) : Hub.ReceiveAvoids r a v (h.wr F x i b) :=
  H.of_stays H.canon.wr ⟨rfl, (Hub.SameSlots.refl h).wr⟩ (rd_wr_place e.2) (.inl (rd_wr_place e.1))

theorem cnt (H : Hub.ReceiveAvoids r a v h) {F : Fld} {i b : Nat}
    (e : F.place ≠ DTL.hSlot.place ∧ F.place ≠ DTL.RRING_FIRST.place := by decide) : Hub.ReceiveAvoids r a v (h.cnt F i b) :=
  H.wr e

theorem cntN (H : Hub.ReceiveAvoids r a v h) {F : Fld} {n i b : Nat}
    (e : F.place ≠ DTL.hSlot.place ∧ F.place ≠ DTL.RRING_FIRST.place := by decide) : Hub.ReceiveAvoids r a v (h.cntN F n i b) :=
  H.wr e

/-- Changes that reach no register of DTL, no table and no frame memory. -/
theorem of_same {m : Nat} (H : Hub.ReceiveAvoids r a v h) (C : g.Canon) (S : Hub.Same m h g)
    (e : ∀ k ∈ [255, Kind.dtl, Kind.tab, Kind.fmem], m.testBit k = false := by decide) : Hub.ReceiveAvoids r a v g :=
  H.of_stays C ⟨congrArg (Tab.get 0 a) (S.fmem (e _ (by decide))), .of_tab (S.tab (e _ (by decide)))⟩
    (S.rd (e _ (by decide)) _ _ _ (e _ (by decide))) (.inl (S.rd (e _ (by decide)) _ _ _ (e _ (by decide))))

theorem raise (H : Hub.ReceiveAvoids r a v h) {pg n : Nat} {c : Cap} : Hub.ReceiveAvoids r a v (h.raise pg n c) :=
  H.of_same (Hub.raise_canon H.canon) Hub.raise_same

/-! #### Gaps and errors (R373 to R375) -/

theorem refreshGap (H : Hub.ReceiveAvoids r a v h) {i : Nat} : Hub.ReceiveAvoids r a v (h.refreshGap i) := H.wr.wr.wr.wr

theorem setGaps (H : Hub.ReceiveAvoids r a v h) {x : Tab (List (Nat × Nat))} : Hub.ReceiveAvoids r a v { h with gaps := x } :=
  ⟨⟨H.canon.regs, H.canon.tab, H.canon.fmem⟩, H.byte, H.small, H.slot, H.ring⟩

theorem setTileDone (H : Hub.ReceiveAvoids r a v h) {x : Tab (List Nat)} : Hub.ReceiveAvoids r a v { h with tileDone := x } :=
  ⟨⟨H.canon.regs, H.canon.tab, H.canon.fmem⟩, H.byte, H.small, H.slot, H.ring⟩

theorem addGap (H : Hub.ReceiveAvoids r a v h) {i x y : Nat} : Hub.ReceiveAvoids r a v (h.addGap i x y) := by
  unfold Hub.addGap
  dsimp only
  split
  · exact H
  split
  · exact H.setGaps.refreshGap
  split
  · exact H.setGaps.refreshGap
  · exact H.setGaps.refreshGap.wr

theorem rxError (H : Hub.ReceiveAvoids r a v h) {i : Nat} : Hub.ReceiveAvoids r a v (h.rxError i) := H.wr.wr

theorem rxClosed (H : Hub.ReceiveAvoids r a v h) {i : Nat} : Hub.ReceiveAvoids r a v (h.rxClosed i) := H.wr.wr.wr

/-! #### Slots (R350, R352, R355) -/

theorem beginFrame (H : Hub.ReceiveAvoids r a v h) : Hub.ReceiveAvoids r a v (h.beginFrame (.receive r)) := by
  have S : Hub.Stays a h (h.beginFrame (.receive r)) :=
    ⟨congrArg (Tab.get 0 a) (Hub.beginFrame_same.fmem (by decide)), sameSlots_beginFrame⟩
  rcases beginFrame_cases h (.receive r) with e | ⟨k, hk, x, e⟩
  · refine H.of_stays (Hub.beginFrame_canon H.canon) S ?_ (.inr (.inl ?_)) <;> rw [e]
    · exact rd_wr_place (by decide)
    · exact H.canon.rd_wr
  · refine H.of_stays (Hub.beginFrame_canon H.canon) S ?_ (.inr (.inr ⟨k, hk, ?_⟩)) <;> rw [e]
    · exact (Hub.setSlot_rd (by decide)).trans ((rd_wr_place (by decide)).trans (Hub.setState_rd (by decide)))
    · have small := (H.ring k hk).1
      refine (Hub.setSlot_rd (by decide)).trans ((Hub.setState_canon H.canon).rd_wr.trans (Nat.mod_eq_of_lt ?_))
      have : (2 : Nat) ^ DTL.hSlot.w = 18446744073709551616 := by decide
      omega

theorem abortSlot (H : Hub.ReceiveAvoids r a v h) : Hub.ReceiveAvoids r a v (h.abortSlot (.receive r)) := by
  have S : Hub.Stays a h (h.abortSlot (.receive r)) :=
    ⟨congrArg (Tab.get 0 a) (Hub.abortSlot_same.fmem (by decide)), sameSlots_abortSlot⟩
  have slot : (h.abortSlot (.receive r)).rxSlot r = h.rxSlot r ∨ (h.abortSlot (.receive r)).rxSlot r = 0 := by
    unfold Hub.abortSlot
    split
    · exact .inl rfl
    · exact .inr (Hub.setSlot_canon (Hub.setState_canon H.canon)).rd_wr
  exact H.of_stays (Hub.abortSlot_canon H.canon) S (rd_abortSlot_place (by decide)) (slot.imp_right .inl)

theorem commitSlot (H : Hub.ReceiveAvoids r a v h) {err : Nat} {incomplete : Bool} :
    Hub.ReceiveAvoids r a v (h.commitSlot (.receive r) err incomplete) :=
  H.of_stays (Hub.commitSlot_canon H.canon) ⟨congrArg (Tab.get 0 a) (Hub.commitSlot_same.fmem (by decide)), sameSlots_commitSlot⟩
    (rd_commitSlot_place (by decide)) (.inr (.inl H.canon.rd_commitSlot_slot))

theorem catchUp (H : Hub.ReceiveAvoids r a v h) {skip : List Nat} : Hub.ReceiveAvoids r a v (h.catchUp (.receive r) skip) :=
  H.of_stays (Hub.catchUp_canon H.canon) (stays_catchUp H.small H.slot) (Hub.catchUp_rd (by decide)) (.inl (Hub.catchUp_rd (by decide)))

theorem setSig (H : Hub.ReceiveAvoids r a v h) {k t x : Nat} : Hub.ReceiveAvoids r a v (h.setSig k t x) :=
  H.of_stays (Hub.setSig_canon H.canon) ⟨congrArg (Tab.get 0 a) (Hub.setSig_same.fmem (by decide)), (Hub.SameSlots.refl h).setSig⟩
    (Hub.setSig_rd (by decide)) (.inl (Hub.setSig_rd (by decide)))

theorem putTile (H : Hub.ReceiveAvoids r a v h) {k t : Nat} {px : Bytes} (ht : t < h.slotTiles k) (out : h.Outside k a) :
    Hub.ReceiveAvoids r a v (h.putTile k t px) :=
  have U := (Hub.Untouched.refl a h).putTile (px := px) ht out
  H.of_stays (Hub.putTile_canon H.canon) ⟨U.byte, .of_tab U.tab⟩ (Hub.putTile_rd (by decide)) (.inl (Hub.putTile_rd (by decide)))

/-! #### Frames (R371, R374) -/

theorem rxOpen (H : Hub.ReceiveAvoids r a v h) {frame : Nat} : Hub.ReceiveAvoids r a v (h.rxOpen r frame) := by
  have opened := (H.setTileDone (x := Tab.del r.val h.tileDone)).beginFrame.wr (F := DTL.hOpen) (x := frame) (i := 0) (b := r)
    |>.wr (F := DTL.hOrd) (x := 0) (i := 0) (b := r) |>.wr (F := DTL.hTile) (x := 0) (i := 0) (b := r)
    |>.wr (F := DTL.hErr) (x := 0) (i := 0) (b := r) |>.wr (F := DTL.hBad) (x := 0) (i := 0) (b := r)
    |>.wr (F := DTL.hWait) (x := 0) (i := 0) (b := r) |>.wr (F := DTL.RSTAT_OPEN) (x := 1) (i := 0) (b := r)
  unfold Hub.rxOpen
  dsimp only
  split
  · exact opened.addGap.cnt.rxError
  · exact opened.wr

theorem rxCommit (H : Hub.ReceiveAvoids r a v h) {incomplete full : Bool} :
    Hub.ReceiveAvoids r a v (h.rxCommit r incomplete full) := by
  unfold Hub.rxCommit
  dsimp only
  have committed := (keep_when (P := Hub.ReceiveAvoids r a v)
    (c := ((h.catchUp (.receive r) (Tab.get [] r.val h.tileDone)).wr DTL.RSTAT_CATCHUP 0 0 r).rxSlot r != 0)
    (fun h H => H.commitSlot (err := h.rd DTL.hErr 0 r) (incomplete := incomplete))
    ((H.catchUp (skip := Tab.get [] r.val h.tileDone)).wr (F := DTL.RSTAT_CATCHUP) (x := 0) (i := 0) (b := r)))
  have closed := committed.wr (F := DTL.RSTAT_OPEN) (x := 0) (i := 0) (b := r) |>.wr (F := DTL.hWait) (x := 0) (i := 0) (b := r)
    |>.cnt (F := DTL.R_CNT_FRAMES_COUNT) (i := 0) (b := r)
  split
  · exact closed.cnt
  · exact keep_when (fun _ H => H.wr) closed

theorem rxSupersede (H : Hub.ReceiveAvoids r a v h) : Hub.ReceiveAvoids r a v (h.rxSupersede r) := H.rxCommit

theorem rxFrame (H : Hub.ReceiveAvoids r a v h) {frame : Nat} : Hub.ReceiveAvoids r a v (h.rxFrame r frame) := by
  have told := H.wr (F := DTL.RSTAT_FRAME) (x := frame) (i := 0) (b := r)
  unfold Hub.rxFrame
  dsimp only
  split
  · exact told.rxOpen
  split
  · exact told
  · exact told.rxSupersede.rxOpen

/-! #### Packets (R371 to R374) -/

theorem rxWrite (H : Hub.ReceiveAvoids r a v h) {k : Nat} {t : TilePkt} (ht : t.tile < h.slotTiles k) (out : h.Outside k a) :
    Hub.ReceiveAvoids r a v (h.rxWrite r k t) := by
  have stored {g : Hub} (G : Hub.ReceiveAvoids r a v g) {x : Tab (List Nat)} :
      Hub.ReceiveAvoids r a v ((Hub.setSig { g with tileDone := x } k t.tile t.sig).cnt DTL.R_CNT_TILES_COUNT 0 r) :=
    G.setTileDone.setSig.cnt
  have faulty {g : Hub} (G : Hub.ReceiveAvoids r a v g) {bad : Bool} : Hub.ReceiveAvoids r a v
      (if bad then ((((g.addGap r t.tile t.tile).cnt DTL.R_CNT_SIGERR_COUNT 0 r).wr DTL.hErr (g.rd DTL.hErr 0 r + 1) 0 r).rxError
        r).raise 0x77 3 else g) :=
    keep_ite G.addGap.cnt.wr.rxError.raise G
  unfold Hub.rxWrite
  dsimp only
  split
  · exact faulty (stored (H.putTile ht out))
  split
  · exact faulty (stored (H.putTile ht out))
  split
  · exact faulty (stored (H.putTile ht out))
  · exact faulty (stored H)

theorem skipTo (H : Hub.ReceiveAvoids r a v h) {t : TilePkt} {ord : Nat} : Hub.ReceiveAvoids r a v (h.skipTo r t ord) :=
  (keep_when (fun _ H => H.addGap) H).cntN.rxError

theorem rxTile (H : Hub.ReceiveAvoids r a v h) {t : TilePkt} : Hub.ReceiveAvoids r a v (h.rxTile r t) := by
  have F := H.rxFrame (frame := t.frame)
  unfold Hub.rxTile
  dsimp only
  generalize h.rxFrame r t.frame = g at F ⊢
  split
  · exact F
  rename_i k slot
  split
  · exact F.rxError.raise
  rename_i inside
  have out : g.Outside k a := by simpa [slot] using F.slot
  have skips (g' : Hub) (G : Hub.ReceiveAvoids r a v g' ∧ g'.tab = g.tab) :
      Hub.ReceiveAvoids r a v (g'.skipTo r t (g.rd DTL.hOrd 0 r)) ∧ (g'.skipTo r t (g.rd DTL.hOrd 0 r)).tab = g.tab :=
    ⟨G.1.skipTo, tab_skipTo.trans G.2⟩
  obtain ⟨S, tab⟩ := keep_when (c := decide (g.rd DTL.hOrd 0 r < t.ord)) skips ⟨F, rfl⟩
  split
  · exact S
  · have slots := Hub.SameSlots.of_tab tab
    have small : k < 256 := Nat.le_trans (Nat.le_of_eq slot.symm) F.small
    refine (S.rxWrite ?_ ((slots.outside_iff small).2 out)).wr.wr
    exact Nat.lt_of_not_le ((slots.slotTiles small).symm ▸ inside)

theorem rxEnd (H : Hub.ReceiveAvoids r a v h) {t : TilePkt} : Hub.ReceiveAvoids r a v (h.rxEnd r t) := by
  have current := keep_when (c := h.on DTL.RSTAT_OPEN 0 r && h.rd DTL.hOpen 0 r != t.frame) (fun _ H => H.rxSupersede) H
  unfold Hub.rxEnd
  dsimp only
  generalize h.when _ _ = g at current ⊢
  split
  · exact current.wr.cnt
  have F := current.rxFrame (frame := t.frame)
  generalize g.rxFrame r t.frame = g at F ⊢
  have gap := keep_when (c := decide (g.rd DTL.hOrd 0 r < t.ord)) (fun h H => (H.addGap (i := r) (x := h.rd DTL.hTile 0 r)
    (y := g.slotTiles (g.rd DTL.RRING_FIRST 0 r) - 1)).rxError (i := r)) F
  generalize g.when _ _ = g' at gap ⊢
  split
  · exact gap.abortSlot.rxError.rxClosed.raise
  split
  · exact gap.wr
  · exact gap.rxCommit

end Hub.ReceiveAvoids

end Sys2Proof.Machine
end

section
/-! PROOFS. Stores to frame memory: fills, captured frames, host writes, the ends of catch-ups and landed writes, and with the
packets of receive streams the statement on them all (R349, R354, R355, R359, R371, R374, R429). -/

namespace Sys2Proof.Machine

open Sys2Proof

variable {h : Hub} {a : Nat}

/-! ### Fills (R349) -/

/-- Slot `k` cleared and signed: the step of `fillDone` for one slot of the ring. -/
def Hub.clearSlot (k : Nat) (h : Hub) : Hub :=
  ((Hub.each { h with fmem := Tab.wipe (h.slotBase k) (h.slotBase k + h.slotBytes k) h.fmem } (List.range (h.slotTiles k)) fun t h =>
    h.setSig k t zeroSig).setState k 0).setSlot k 4 7 1 0

theorem Hub.Stays.clearSlot {g : Hub} {k : Nat} (S : Hub.Stays a h g) (hk : k < 256) (out : h.Outside k a) :
    Hub.Stays a h (g.clearSlot k) := by
  have cleared : Hub.Stays a h { g with fmem := Tab.wipe (g.slotBase k) (g.slotBase k + g.slotBytes k) g.fmem } :=
    ⟨(get_wipe_of_outside 0 ((S.slots.outside_iff hk).2 out) g.fmem).trans S.byte, S.slots⟩
  have signed (n : Nat) := keep_each (P := Hub.Stays a h) (l := List.range n) (f := fun t h => h.setSig k t zeroSig)
    (fun _ _ S => ⟨(congrArg (Tab.get 0 a) (Hub.setSig_same.fmem (by decide))).trans S.byte, S.slots.setSig⟩) cleared
  refine ⟨?_, (signed _).slots.setState.setSlot (by decide) (by decide)⟩
  unfold Hub.clearSlot
  rw [Hub.setSlot_same.fmem (by decide), Hub.setState_same.fmem (by decide)]
  exact (signed _).byte

/-- A fill clears the slots of its ring. -/
theorem get_fmem_fillDone {w : Writer} (out : ∀ k ∈ h.ringOf w, k < 256 ∧ h.Outside k a) :
    Tab.get 0 a (h.fillDone w).fmem = Tab.get 0 a h.fmem := by
  have S : Hub.Stays a h (h.each (h.ringOf w) Hub.clearSlot) :=
    keep_each_mem (fun k hk _ S => S.clearSlot (out k hk).1 (out k hk).2) (.refl a h)
  unfold Hub.fillDone
  unfold Hub.clearSlot at S
  dsimp only at S ⊢
  generalize h.each (h.ringOf w) _ = g at S ⊢
  rw [← S.byte]
  congr 1
  split
  · refine keep_when (P := fun g' => g'.fmem = g.fmem) (fun _ e => (Hub.nextHostFrame_same.fmem (by decide)).trans e) ?_
    simp only [Hub.wr_fmem]
  · rw [Hub.rxClosed_same.fmem (by decide), Hub.refreshGap_same.fmem (by decide)]
    simp only [Hub.wr_fmem]
  · simp only [Hub.wr_fmem]

/-! ### Captured frames (R354) -/

theorem get_fmem_captureCommit {d : Fin 2} {px : List TilePix}
    (out : ∀ k, h.rd DTL.hSlot 0 d = k + 1 → h.Outside k a) :
    Tab.get 0 a (h.captureCommit d px).fmem = Tab.get 0 a h.fmem := by
  unfold Hub.captureCommit
  split
  · rfl
  · rename_i k slot
    have stored := keep_each_mem (P := Hub.Untouched a h) (l := px.filter fun t => decide (t.tile < h.slotTiles k))
      (f := fun t h => h.putTile k t.tile (if h.rd DCP.MODE2_BPC d = 6 then t.pixels.map widen6 else t.pixels))
      (fun t ht g U => U.putTile (by simpa using (List.mem_filter.1 ht).2) (out k slot)) (.refl a h)
    have signed (n : Nat) := keep_each (P := fun g => Tab.get 0 a g.fmem = Tab.get 0 a h.fmem) (l := List.range n)
      (f := fun t h => Hub.signTile k t h) (fun _ _ e => (congrArg (Tab.get 0 a) (Hub.signTile_same.fmem (by decide))).trans e)
      stored.byte
    dsimp only
    rw [Hub.wr_fmem, Hub.wr_fmem, Hub.cnt, Hub.cntN, Hub.wr_fmem, Hub.commitSlot_same.fmem (by decide)]
    exact signed _

/-! ### Host writes (R359) -/

theorem Hub.Untouched.putRaster {g : Hub} (U : Hub.Untouched a h g) {k rel : Nat} {b : Byte} (ne : a ≠ h.slotBase k + rel) :
    Hub.Untouched a h (Hub.putRaster k rel b g) := by
  have base : g.slotBase k = h.slotBase k := congrArg (fun m => bits (Tab.get 0 _ m) 0 18 * 65536) U.tab
  unfold Hub.putRaster
  dsimp only
  refine keep_ite U (keep_ite U (U.fput ?_))
  rw [base, List.length_singleton]
  omega

/-- A host write stores in its own run of the slot's raster. -/
theorem untouched_hostWrite {n : Fin 64} {off : Nat} {data : Bytes} (out : 0 < h.rd DTL.hSlot 0 (2 + n) →
      a < h.slotBase (h.rd DTL.hSlot 0 (2 + n) - 1) + (off - 0x1000000) ∨
      h.slotBase (h.rd DTL.hSlot 0 (2 + n) - 1) + (off - 0x1000000) + data.length ≤ a) :
    Hub.Untouched a h (h.hostWrite n off data) := by
  unfold Hub.hostWrite
  extract_lets +onlyGivenNames drop
  have dropped (g : Hub) (U : Hub.Untouched a h g) : Hub.Untouched a h (drop g) := U.wr
  clear_value drop
  have start := Hub.Untouched.refl a h
  split
  · exact start
  split
  · exact dropped _ (start.of_same Hub.notReady_same)
  split
  · exact dropped _ start
  rename_i serves
  have slot : 0 < h.rd DTL.hSlot 0 (2 + n) := by
    refine Nat.pos_of_ne_zero fun none => serves ?_
    simp [Hub.wready, none]
  extract_lets +onlyGivenNames k rel b fin
  have run : a < h.slotBase k + rel ∨ h.slotBase k + rel + data.length ≤ a := out slot
  split
  · exact keep_when (fun _ U => U.of_same Hub.guardDrop_same) (dropped _ start)
  split
  · exact (dropped _ start).of_same Hub.memViolation_same
  have stored := keep_each_mem (P := Hub.Untouched a h) (l := data.zipIdx) (f := fun p h => Hub.putRaster k (rel + p.2) p.1 h)
    (fun p hp g U => U.putRaster ?_) start
  · extract_lets +onlyGivenNames h1
    have counted : Hub.Untouched a h h1 := stored.wr
    exact keep_ite counted (keep_when (fun _ U => U.wr.wr) counted).wr
  · have := (List.mem_zipIdx hp).2.1
    omega

/-! ### Landed writes (R429) -/

/-- The pieces of a cut lie in the run that is cut. -/
theorem mem_cuts {step b n : Nat} {p : Nat × Nat} (hp : p ∈ cuts step b n) : b ≤ p.1 ∧ p.1 + p.2 ≤ b + n := by
  obtain ⟨k, -, piece⟩ := List.mem_filterMap.1 hp
  dsimp only at piece
  split at piece
  · obtain rfl := Option.some.inj piece
    dsimp only
    omega
  · cases piece

/-- The base of a target window is read from registers of the bridge. -/
theorem twBase_of_same {m w : Nat} {g g' : Hub} (S : Hub.Same m g g')
    (e : ∀ k ∈ [255, Kind.txb], m.testBit k = false := by decide) : g'.twBase w = g.twBase w := by
  unfold Hub.twBase
  rw [S.rd (e _ (by decide)) _ _ _ (e _ (by decide)), S.rd (e _ (by decide)) _ _ _ (e _ (by decide))]

/-- The pieces of a landed write are stored where they lie from the base of its window on. -/
theorem Hub.Untouched.issuePieces {m : TxbIn} {busOk : Bool} {base : Nat} {ps : List (Nat × Nat)}
    (out : ∀ p ∈ ps, a < base + p.1 ∨ base + p.1 + p.2 ≤ a) :
    ∀ {g : Hub}, Hub.Untouched a h g → g.twBase (m.h.win % 32) = base → Hub.Untouched a h (Hub.issuePieces m busOk ps g).2 := by
  induction ps with
  | nil => exact fun U _ => U
  | cons p ps ih =>
    intro g U hb
    obtain ⟨off, n⟩ := p
    have here : a < base + off ∨ base + off + n ≤ a := out _ List.mem_cons_self
    have checked := Hub.farCheck_same (h := g) (src := m.src) (t := m.h) (off := off) (n := n) (write := true)
    unfold Hub.issuePieces
    generalize g.farCheck m.src m.h off n true = c at checked ⊢
    obtain ⟨st, g1⟩ := c
    have U1 : Hub.Untouched a h g1 := U.of_same checked
    have hb1 : g1.twBase (m.h.win % 32) = base := (twBase_of_same checked).trans hb
    have go (st : Nat) {g2 : Hub} (U2 : Hub.Untouched a h g2) (hb2 : g2.twBase (m.h.win % 32) = base) :
        Hub.Untouched a h (if st ≠ 0 then (st, g1) else Hub.issuePieces m busOk ps g2).2 := by
      split
      · exact U1
      · exact ih (fun p hp => out p (List.mem_cons_of_mem _ hp)) U2 hb2
    refine go _ (keep_ite (U1.fput ?_).wr ⟨U1.byte, U1.tab⟩) (keep_ite (P := fun g2 => g2.twBase (m.h.win % 32) = base) ?_ hb1)
    · rw [hb1, List.length_take]
      omega
    · exact (twBase_of_same Hub.countWr_same).trans ((twBase_of_same Hub.fput_same).trans hb1)

/-- A landed write stores in its run of its target window. -/
theorem untouched_issueWrite {busOk : Bool} (out : ∀ m ∈ h.land.take 1, a < h.twBase (m.h.win % 32) + m.h.addr ∨
      h.twBase (m.h.win % 32) + m.h.addr + m.h.len ≤ a) : Hub.Untouched a h (h.issueWrite busOk) := by
  unfold Hub.issueWrite
  split
  · exact .refl a h
  · rename_i m rest land
    have run := out m (by simp [land])
    have start : Hub.Untouched a h ({ h with land := rest }.refreshLand) := ⟨rfl, rfl⟩
    have base : ({ h with land := rest }.refreshLand).twBase (m.h.win % 32) = h.twBase (m.h.win % 32) := by
      unfold Hub.twBase Hub.refreshLand
      rw [rd_wr_place (by decide), rd_wr_place (by decide)]
      rfl
    extract_lets +onlyGivenNames h0 inWin
    have pieces : ∀ p ∈ h0.farCuts m.h, a < h.twBase (m.h.win % 32) + p.1 ∨ h.twBase (m.h.win % 32) + p.1 + p.2 ≤ a := by
      intro p hp
      obtain ⟨⟨lo, n⟩, hq, rfl⟩ := List.mem_map.1 hp
      have inRun := mem_cuts hq
      rw [base] at inRun ⊢
      dsimp only at inRun ⊢
      omega
    have issued : Hub.Untouched a h (if inWin then Hub.issuePieces m busOk (h0.farCuts m.h) h0 else (1, h0)).2 := by
      split
      · exact start.issuePieces pieces base
      · exact start
    generalize (if inWin then Hub.issuePieces m busOk (h0.farCuts m.h) h0 else (1, h0)) = c at issued ⊢
    obtain ⟨st, h1⟩ := c
    exact keep_ite issued (issued.of_same Hub.postError_same)

/-! ### The ends of catch-ups (R355, R374) -/

/-- The slot of a writer's open frame, if any, is one of the table, and byte `a` lies outside it. -/
def Hub.OutsideFrame (h : Hub) (w : Writer) (a : Nat) : Prop :=
  h.rd DTL.hSlot 0 (writerNo w) ≤ 256 ∧
    (0 < h.rd DTL.hSlot 0 (writerNo w) → h.Outside (h.rd DTL.hSlot 0 (writerNo w) - 1) a)

theorem Hub.OutsideFrame.catchUp {w : Writer} {skip : List Nat} (out : h.OutsideFrame w a) : (h.catchUp w skip).OutsideFrame w a := by
  obtain ⟨small, outside⟩ := out
  unfold Hub.OutsideFrame
  rw [Hub.catchUp_rd (by decide)]
  exact ⟨small, fun pos => ((stays_catchUp small outside).slots.outside_iff (by omega)).2 (outside pos)⟩

/-- A frame commits after its catch-up has stored what it has to store. -/
theorem fmem_rxCommit (h : Hub) (r : Fin 8) (incomplete full : Bool) :
    (h.rxCommit r incomplete full).fmem = (h.catchUp (.receive r) (Tab.get [] r.val h.tileDone)).fmem := by
  unfold Hub.rxCommit
  dsimp only
  generalize h.catchUp (.receive r) _ = g
  have closed := keep_when (P := fun g' => g'.fmem = g.fmem) (c := (g.wr DTL.RSTAT_CATCHUP 0 0 r).rxSlot r != 0)
    (h := g.wr DTL.RSTAT_CATCHUP 0 0 r) (f := fun h => h.commitSlot (.receive r) (h.rd DTL.hErr 0 r) incomplete)
    (fun _ e => (Hub.commitSlot_same.fmem (by decide)).trans e) rfl
  split
  · rw [Hub.cnt, Hub.cnt, Hub.cntN, Hub.cntN, Hub.wr_fmem, Hub.wr_fmem, Hub.wr_fmem, Hub.wr_fmem]
    exact closed
  · exact keep_when (P := fun g' => g'.fmem = g.fmem) (fun _ e => e) closed

theorem get_fmem_catchupEnd {w : Writer} (out : h.OutsideFrame w a) :
    Tab.get 0 a (h.catchupEnd w).fmem = Tab.get 0 a h.fmem := by
  have stored (skip : List Nat) := (stays_catchUp (skip := skip) out.1 out.2).byte
  unfold Hub.catchupEnd
  split
  · rename_i r
    dsimp only
    have again : ((h.catchUp (.receive r) (Tab.get [] r.val h.tileDone)).wr DTL.RSTAT_CATCHUP 0 0 r).OutsideFrame (.receive r) a := by
      unfold Hub.OutsideFrame
      rw [rd_wr_place (by decide)]
      exact out.catchUp
    generalize on : ((h.catchUp (.receive r) (Tab.get [] r.val h.tileDone)).wr DTL.RSTAT_CATCHUP 0 0 r).on DTL.hWait 0 r = c
    cases c
    · exact stored _
    · rw [Hub.when_true, fmem_rxCommit, (stays_catchUp again.1 again.2).byte]
      exact stored _
  · exact stored []

/-! ### Received packets (R371, R374) -/

/-- A packet that arrives on tunnel `tid` does `f` at the stream that accepts it (R370), while frame memory is served: what
TILE_RECEIVED and END_RECEIVED have in common. -/
def Hub.received (h : Hub) (tid : Nat) (f : Fin 8 → Hub → Hub) : Hub :=
  match h.streamFor tid with
  | none => h.cnt DTL.CNT_NOSTREAM_COUNT
  | some r => if h.memReady then f (Fin.ofNat 8 r) h else h.notReady

theorem get_fmem_received {f : Fin 8 → Hub → Hub}
    (keeps : ∀ {r v} {g : Hub}, Hub.ReceiveAvoids r a v g → Hub.ReceiveAvoids r a v (f r g))
    {tid : Nat} (C : h.Canon)
    (out : ∀ r : Nat, r < 8 → h.streamFor tid = some r → h.rd DTL.hSlot 0 (66 + r) ≤ 256 ∧
      (0 < h.rd DTL.hSlot 0 (66 + r) → h.Outside (h.rd DTL.hSlot 0 (66 + r) - 1) a) ∧
      ∀ k ∈ h.ringOf (.receive (Fin.ofNat 8 r)), k < 256 ∧ h.Outside k a) :
    Tab.get 0 a (h.received tid f).fmem = Tab.get 0 a h.fmem := by
  unfold Hub.received
  split
  · rfl
  · rename_i r accepts
    have hr : r < 8 := List.mem_range.1 (List.mem_of_find?_eq_some accepts)
    obtain ⟨small, slot, ring⟩ := out r hr accepts
    have e : (Fin.ofNat 8 r).val = r := Nat.mod_eq_of_lt hr
    have avoids : Hub.ReceiveAvoids (Fin.ofNat 8 r) a (Tab.get 0 a h.fmem) h :=
      ⟨C, rfl, by rw [e]; exact small, by rw [e]; exact slot, ring⟩
    split
    · exact (keeps avoids).byte
    · rw [Hub.notReady_same.fmem (by decide)]

/-! ### Completion -/

/-- What the display engine does while frame memory is served, and a refusal counted where it is not (R444). -/
theorem get_fmem_served {g : Hub} (served : Tab.get 0 a g.fmem = Tab.get 0 a h.fmem) :
    Tab.get 0 a (if h.memReady then g else h.notReady).fmem = Tab.get 0 a h.fmem := by
  split
  · exact served
  · rw [Hub.notReady_same.fmem (by decide)]

/-- A command keeps a byte that what it does under its condition keeps. -/
theorem completes_keeping_byte {c : Instr} {s : State} {p : Hub → Bool} {f : Hub → Hub}
    (e : exec c s = s.act fun h => h.when (p h) f) (kept : Tab.get 0 a (f s.hub).fmem = Tab.get 0 a s.hub.fmem) :
    Completes c s fun g => Tab.get 0 a g.fmem = Tab.get 0 a s.hub.fmem := by
  refine completes_act e ?_
  cases p s.hub
  · rfl
  · exact kept

theorem exec_ringFillDone (w : Writer) (s : State) : exec (.ringFillDone w) s =
    s.act fun h => h.when (h.up 0x77 && h.on DTL.hFill 0 (writerNo w)) fun h =>
      if h.memReady then h.fillDone w else h.notReady := rfl

theorem exec_captureCommit (d : Fin 2) (px : List TilePix) (s : State) : exec (.captureCommit d px) s =
    s.act fun h => h.when (h.up (0x75 + d) && h.on DTL.hSlot 0 d) fun h =>
      if h.memReady then h.captureCommit d px else (h.captureDrop d).notReady := rfl

theorem exec_hostPixelWrite (w : Fin 64) (off : Nat) (data : Bytes) (s : State) : exec (.hostPixelWrite w off data) s =
    s.act fun h => h.when (h.up 0x77 && h.hostOn) fun h => h.hostWrite w off data := rfl

theorem exec_tileReceived (tid : Nat) (t : TilePkt) (s : State) : exec (.tileReceived tid t) s =
    s.act fun h => h.when (h.up 0x77 && h.domOn 2 && !t.poison) fun h => h.received tid fun r h => h.rxTile r t := rfl

theorem exec_endReceived (tid : Nat) (t : TilePkt) (s : State) : exec (.endReceived tid t) s =
    s.act fun h => h.when (h.up 0x77 && h.domOn 2 && !t.poison) fun h => h.received tid fun r h => h.rxEnd r t := rfl

theorem exec_catchupDone (w : Writer) (s : State) : exec (.catchupDone w) s =
    s.act fun h => h.when (h.up 0x77) fun h => if h.memReady then h.catchupEnd w else h.notReady := rfl

theorem exec_postedWriteIssue (busOk : Bool) (s : State) : exec (.postedWriteIssue busOk) s =
    s.act fun h => h.when (h.up 0x80) fun h => h.issueWrite busOk := rfl

end Sys2Proof.Machine

open Sys2Proof Sys2Proof.Machine

/-- Settles O31, command by command, from the bytes that each store leaves alone. Where frame memory is not served, no command of
these stores at all. -/
theorem frameMemoryStoresStayInPlace : Obligations.FrameMemoryStoresStayInPlace := by
  intro s C
  refine ⟨?fill, ?capture, ?host, ?tile, ?frameEnd, ?catchup, ?landed⟩
  case fill => exact fun w a out => completes_keeping_byte (exec_ringFillDone w s) (get_fmem_served (get_fmem_fillDone out))
  case capture =>
    intro d px a out small
    refine completes_keeping_byte (exec_captureCommit d px s) ?_
    split
    · exact get_fmem_captureCommit fun k slot => out k (by omega) slot
    · rw [Hub.notReady_same.fmem (by decide), Hub.captureDrop_same.fmem (by decide)]
  case host =>
    exact fun w off data a out => completes_keeping_byte (exec_hostPixelWrite w off data s) (untouched_hostWrite out).byte
  case tile =>
    exact fun tid t a out => completes_keeping_byte (exec_tileReceived tid t s) (get_fmem_received (fun H => H.rxTile) C out)
  case frameEnd =>
    exact fun tid t a out => completes_keeping_byte (exec_endReceived tid t s) (get_fmem_received (fun H => H.rxEnd) C out)
  case catchup =>
    exact fun w a small out => completes_keeping_byte (exec_catchupDone w s) (get_fmem_served (get_fmem_catchupEnd ⟨small, out⟩))
  case landed =>
    exact fun busOk a out => completes_keeping_byte (exec_postedWriteIssue busOk s) (untouched_issueWrite out).byte
end

section
/-! PROOFS. A statement on frame writers and tile streams that the model does not meet, with the node that shows it (R363, R367). -/

namespace Sys2Proof.Machine

open Sys2Proof

theorem exec_streamSendFrame (st : Fin 64) (s : State) : exec (.streamSendFrame st) s =
    s.act fun h => h.when (h.up 0x77 && h.on DTL.SCTL_EN 0 st) fun h => if h.memReady then h.sendNext st else h.notReady := rfl

/-- Node `h` whose list of repairs has two entries for send stream 0. -/
def Hub.repairsListedTwice (h : Hub) : Hub := { h with repairs := [(0, [(0, 0)]), (0, [(5, 5)])] }

theorem Hub.Canon.repairsListedTwice {h : Hub} (C : h.Canon) : h.repairsListedTwice.Canon := ⟨C.regs, C.tab, C.fmem⟩

/-- A slot of 64 × 64 pixels that keeps signatures, whose NEXT is slot `next`, in STATE `st`. -/
def tileSlot (next st : Nat) : List Nat := [next, 64 + 64 * 2 ^ 16, next + 2 ^ 16, 0, st]

/-- A node on which send stream 0 is enabled on the ring of slots 4 and 5, and slot 4 is READY. -/
def readyToSend : State :=
  { hub := (((poweredNode [(HDR.PSTAT_READY, 0x77, 1), (HDR.PSTAT_READY, 0x88, 1), (CLK.GSTAT_RUN, 0, 2 ^ 32 - 1),
      (MEM.STAT_READY, 0, 1), (DTL.SCTL_EN, 0, 1), (DTL.SSRC_FIRST, 0, 4)] []).hub.setTwords (slotAddr 4 0) (tileSlot 5 2)).setTwords
        (slotAddr 5 0) (tileSlot 4 0)).repairsListedTwice }

theorem readyToSend_inv : readyToSend.Inv :=
  Hub.Canon.repairsListedTwice (Hub.setTwords_canon (Hub.setTwords_canon (poweredNode_inv _ _)))

/-- The stream takes its first entry off the list, and reads the second. -/
theorem repairs_sendNext_readyToSend : Tab.get [] 0 (readyToSend.hub.sendNext 0).repairs = [(5, 5)] := by decide +kernel

/-- Refutes O13: the clause on `streamSendFrame` has no repair range left at the stream, but the invariant does not ask that the
list of repairs be sorted. `Tab.del` removes one entry, and a second one for the same stream shows. -/
theorem not_frameCommandsComplete : ¬ Obligations.FrameCommandsComplete := by
  intro h
  obtain ⟨-, -, -, -, -, -, -, -, -, -, -, send, -⟩ := h readyToSend readyToSend_inv
  have on : (readyToSend.hub.up 0x77 && readyToSend.hub.on DTL.SCTL_EN 0 0) = true := by decide +kernel
  have served : readyToSend.hub.memReady = true := by decide +kernel
  obtain ⟨-, -, -, -, noRepairs, -⟩ := of_completes_when (exec_streamSendFrame 0 readyToSend) on
    (send 0 4 (by decide +kernel) (by decide +kernel) served (by decide +kernel) (by decide +kernel) (by decide +kernel))
  rw [served, if_pos rfl] at noRepairs
  exact List.cons_ne_nil _ _ (repairs_sendNext_readyToSend.symm.trans noRepairs)

end Sys2Proof.Machine
end

section
/-! PROOFS. Display heads and DisplayPort transmitters: the states of a head and of its link (R391, R404, R405, R410, R411). -/

namespace Sys2Proof.Machine

open Sys2Proof

/-! ### Pages -/

/-- A head's page is not the second of a block. -/
theorem secondPage_head (n : Fin 4) : secondPage (0x71 + n) = false := by
  revert n; decide

/-- A transmitter's page is not the second of a block. -/
theorem secondPage_transmitter (n : Fin 4) : secondPage (0x78 + n) = false := by
  revert n; decide

/-- An error leaves the blanking bits alone, though DSP.SUMMARY, of the same page, follows it. -/
theorem rd_raise_vbstat (h : Hub) (pg m : Nat) (x : Cap) : (h.raise pg m x).rd DSP.VBSTAT_VBLANK = h.rd DSP.VBSTAT_VBLANK := by
  have summary : ((h.raiseBit pg m x).refreshSummary).rd DSP.VBSTAT_VBLANK = h.rd DSP.VBSTAT_VBLANK := by
    unfold Hub.refreshSummary
    dsimp only
    iterate 5 rw [rd_wr_place (by decide)]
    exact Hub.raiseBit_rd (by decide)
  unfold Hub.raise
  dsimp only
  refine rd_ite rfl (rd_ite (rd_ite ?_ summary) (Hub.raiseBit_rd (by decide)))
  exact (Hub.locketPut_rd (by decide)).trans summary

/-! ### The state of a head (R391) -/

/-- What a change of a head's state writes of the head's page. -/
def headStateFlds : List Fld := [DHD.STAT_STATE, DHD.STAT_VBLANK, DHD.FIFO_LEVEL]

theorem rd_setHead_apart {h : Hub} {n st i b : Nat} {F : Fld} (dhd : F.kind = Kind.dhd)
    (apart : ∀ G ∈ headStateFlds, G.place ≠ F.place) : (h.setHead n st).rd F i b = h.rd F i b := by
  have other {G : Fld} {g : Hub} {m : Nat} {v : Bool} (e : G.kind ≠ Kind.dhd) : (g.wrBit G m v).rd F i b = g.rd F i b :=
    rd_wr_key (key_ne_of_kind (by rw [dhd]; exact e) _ _ _ _)
  unfold Hub.setHead
  dsimp only
  rw [Hub.refreshBudget_rd (by rw [dhd]; decide), rd_when_of_rd, rd_wr_place (apart _ (by decide)), rd_when_of_rd, other (by decide)]
  · rw [other (by decide), other (by decide)]
  · rw [rd_wr_place (apart _ (by decide)), other (by decide), rd_wr_place (apart _ (by decide))]

theorem Hub.Canon.head_setHead {h : Hub} (C : h.Canon) {n st : Nat} (hst : st < 8) : (h.setHead n st).head n = st := by
  unfold Hub.head Hub.setHead
  dsimp only
  rw [Hub.refreshBudget_rd (by decide), rd_when_of_rd, Hub.Canon.rd_wr]
  · exact Nat.mod_eq_of_lt hst
  · exact C.wrBit.when C.wrBit.wrBit.wrBit
  · rw [rd_wr_place (by decide), rd_wrBit_place (by decide), rd_wr_place (by decide)]

theorem trained_setHead (h : Hub) (n st m : Nat) : (h.setHead n st).trained m = h.trained m := by
  unfold Hub.trained
  rw [Hub.setHead_rd (by decide)]

/-! ### WAIT_LINK (R391) -/

theorem waitLink_of_untrained {h : Hub} {n : Nat} (untrained : h.trained n = false) : h.waitLink n = h := by
  unfold Hub.waitLink
  rw [if_pos (.inr untrained)]

theorem waitLink_of_short {h : Hub} {n : Nat} (waits : h.head n = 2) (trained : h.trained n = true)
    (short : h.linkCarries n (h.rd DHD.PCLK_KHZ n) = false) : h.waitLink n = h.raise (0x71 + n) 3 := by
  unfold Hub.waitLink
  rw [if_neg (by simp [waits, trained]), short, if_neg Bool.false_ne_true]

/-- A head whose link carries its mode goes to RUN, where its raster starts in vertical blanking. -/
theorem Hub.Canon.runs_waitLink {h : Hub} (C : h.Canon) {n : Nat} (waits : h.head n = 2) (trained : h.trained n = true)
    (carries : h.linkCarries n (h.rd DHD.PCLK_KHZ n) = true) :
    (h.waitLink n).head n = 3 ∧ (h.waitLink n).rd DHD.STAT_VBLANK n = 1 := by
  have CH : (h.setHead n 3).Canon := Hub.setHead_canon C
  unfold Hub.waitLink
  rw [if_neg (by simp [waits, trained]), if_pos carries]
  dsimp only
  constructor
  · unfold Hub.head
    rw [rd_wr_place (by decide), rd_wr_place (by decide), rd_wrBit_place (by decide), rd_wr_place (by decide)]
    exact C.head_setHead (by decide)
  · rw [rd_wr_place (by decide), rd_wr_place (by decide), rd_wrBit_place (by decide), CH.rd_wr]
    rfl

/-- A head that waits for its link leaves the transmitter alone. -/
theorem rd_waitLink_dpt {h : Hub} {n i b : Nat} {F : Fld} (dpt : F.kind = Kind.dpt) : (h.waitLink n).rd F i b = h.rd F i b :=
  Hub.waitLink_rd (by rw [dpt]; decide)

/-- The node once the PLL of head `n` in LOCK has locked, before the head looks at its transmitter. -/
def Hub.headLocked (h : Hub) (n : Nat) : Hub := (h.setHead n 2).wrBit CLK.PLLSTAT_LOCK (9 + n) true

theorem Hub.Canon.headLocked {h : Hub} (C : h.Canon) (n : Nat) : (h.headLocked n).Canon := (Hub.setHead_canon C).wrBit

theorem Hub.Canon.head_headLocked {h : Hub} (C : h.Canon) (n : Nat) : (h.headLocked n).head n = 2 := by
  unfold Hub.head Hub.headLocked
  rw [rd_wrBit_place (by decide)]
  exact C.head_setHead (by decide)

theorem trained_headLocked (h : Hub) (n : Nat) : (h.headLocked n).trained n = h.trained n := by
  rw [← trained_setHead h n 2]
  unfold Hub.trained Hub.headLocked
  rw [rd_wrBit_place (by decide)]

theorem linkCarries_headLocked (h : Hub) (n : Nat) :
    (h.headLocked n).linkCarries n ((h.headLocked n).rd DHD.PCLK_KHZ n) = h.linkCarries n (h.rd DHD.PCLK_KHZ n) := by
  have dpt {F : Fld} (k : F.kind = Kind.dpt) (e : CLK.PLLSTAT_LOCK.place ≠ F.place) : (h.headLocked n).rd F n = h.rd F n :=
    (rd_wrBit_place e).trans (Hub.setHead_rd (by rw [k]; decide))
  have pclk : (h.headLocked n).rd DHD.PCLK_KHZ n = h.rd DHD.PCLK_KHZ n :=
    (rd_wrBit_place (by decide)).trans (rd_setHead_apart (by decide) (by decide))
  unfold Hub.linkCarries
  rw [pclk, dpt (by decide) (by decide), dpt (by decide) (by decide)]

/-- What a head does whose pixel PLL locks (R391). -/
theorem Hub.Canon.headLocked_shows {h : Hub} (C : h.Canon) (n : Fin 4) :
    let g := (h.headLocked n).waitLink n
    g.bit CLK.PLLSTAT_LOCK (9 + n) = true ∧ (h.trained n = false → g.head n = 2) ∧
      (h.trained n = true → h.linkCarries n (h.rd DHD.PCLK_KHZ n) = true → g.head n = 3 ∧ g.rd DHD.STAT_VBLANK n = 1) ∧
      (h.trained n = true → h.linkCarries n (h.rd DHD.PCLK_KHZ n) = false → g.head n = 2 ∧ g.bit HDR.ESTAT 3 (0x71 + n) = true) := by
  have CL := C.headLocked n
  have waits := C.head_headLocked n
  have lock : 9 + n.val < CLK.PLLSTAT_LOCK.w := by have := n.isLt; show 9 + n.val < 13; omega
  rw [← trained_headLocked h n, ← linkCarries_headLocked h n]
  refine ⟨?_, fun untrained => ?_, fun trained carries => CL.runs_waitLink waits trained carries, fun trained short => ?_⟩
  · rw [bit_of_rd (rd_waitLink_pllLock _ _)]
    exact (Hub.setHead_canon C).bit_wrBit lock
  · rw [waitLink_of_untrained untrained]
    exact waits
  · rw [waitLink_of_short waits trained short]
    exact ⟨(Hub.raise_rd (by decide)).trans waits, CL.bit_raise (secondPage_head n) (by decide)⟩

/-! ### Links (R410) -/

/-- The state of a link as the transmitter shows it. -/
def linkFlds : List Fld := [DPT.STAT_STATE, DPT.STAT_RATE, DPT.STAT_LANES]

theorem rd_setLink_apart {h : Hub} {n st i b : Nat} {F : Fld} (dpt : F.kind = Kind.dpt)
    (apart : ∀ G ∈ linkFlds, G.place ≠ F.place) : (h.setLink n st).rd F i b = h.rd F i b := by
  unfold Hub.setLink
  dsimp only
  rw [rd_when_of_rd (Hub.setHead_rd (by rw [dpt]; decide)), rd_when_of_rd, rd_wr_place (apart _ (by decide))]
  rw [rd_wr_place (apart _ (by decide)), rd_wr_place (apart _ (by decide))]

/-- A link out of TRAINED has no rate and no lanes, and its head in RUN goes to WAIT_LINK (R391, R405). -/
theorem Hub.Canon.setLink_shows {h : Hub} (C : h.Canon) {n st : Nat} (hst : st < 4) (down : st ≠ 2) :
    let g := h.setLink n st
    g.rd DPT.STAT_STATE n = st ∧ g.rd DPT.STAT_RATE n = 0 ∧ g.rd DPT.STAT_LANES n = 0 ∧ (h.head n = 3 → g.head n = 2) := by
  have out : (st != 2) = true := bne_iff_ne.2 down
  have dpt {g : Hub} {c : Bool} {F : Fld} (k : F.kind = Kind.dpt) : (g.when c fun h => h.setHead n 2).rd F n = g.rd F n :=
    rd_when_of_rd (Hub.setHead_rd (by rw [k]; decide))
  have CG : ((h.wr DPT.STAT_STATE st n).wr DPT.STAT_RATE 0 n |>.wr DPT.STAT_LANES 0 n).Canon := C.wr.wr.wr
  have head : ((h.wr DPT.STAT_STATE st n).wr DPT.STAT_RATE 0 n |>.wr DPT.STAT_LANES 0 n).head n = h.head n := by
    unfold Hub.head
    rw [rd_wr_place (by decide), rd_wr_place (by decide), rd_wr_place (by decide)]
  unfold Hub.setLink
  dsimp only
  rw [out, Hub.when_true, Bool.true_and, dpt (by decide), dpt (by decide), dpt (by decide)]
  refine ⟨?_, ?_, C.wr.wr.rd_wr, fun run => ?_⟩
  · rw [rd_wr_place (by decide), rd_wr_place (by decide), C.rd_wr]
    exact Nat.mod_eq_of_lt hst
  · rw [rd_wr_place (by decide)]
    exact C.wr.rd_wr
  · rw [head, run]
    exact CG.head_setHead (by decide)

/-! ### Training (R404, R410, R411) -/

theorem dpTrain_eq {h : Hub} {n : Nat} {c : Cap} (rate : h.rd DPT.CFG_RATE n ≠ 0) (rate' : h.rd DPT.CFG_RATE n ≠ 7)
    (idle : h.rd DPT.STAT_STATE n ≠ 1) : h.dpTrain n c = h.setLink n 1 := by
  unfold Hub.dpTrain
  dsimp only
  rw [if_neg (not_or.2 ⟨rate, rate'⟩), if_neg idle]

/-- The link of transmitter `n` fails, which is counted and raises error `bit`. -/
def Hub.linkFails (h : Hub) (n bit : Nat) : Hub := ((h.setLink n 3).cnt DPT.CNT_TRAINFAIL_COUNT n).raise (0x78 + n) bit

theorem Hub.Canon.linkFails_shows {h : Hub} (C : h.Canon) (n : Fin 4) {bit : Nat} (hbit : bit < 32) :
    let g := h.linkFails n bit
    g.rd DPT.STAT_STATE n = 3 ∧ g.bit HDR.ESTAT bit (0x78 + n) = true ∧
      g.rd DPT.CNT_TRAINFAIL_COUNT n = h.oneMore DPT.CNT_TRAINFAIL_COUNT n := by
  have CS : (h.setLink n 3).Canon := Hub.setLink_canon C
  refine ⟨?_, CS.cnt.bit_raise (secondPage_transmitter n) hbit, ?_⟩
  · rw [Hub.linkFails, Hub.raise_rd (by decide), rd_cnt_place (by decide)]
    exact (C.setLink_shows (by decide) (by decide)).1
  · rw [Hub.linkFails, Hub.raise_rd (by decide), CS.rd_cnt, rd_setLink_apart (by decide) (by decide)]
    rfl

/-- Training that ends well at a rate and a lane count that the transmitter tries leaves it TRAINED; any other end is a failure (log
entry 165). -/
theorem dpTrainDone_eq (h : Hub) (n : Nat) (ok : Bool) (rate lanes : Nat) : h.dpTrainDone n ok rate lanes =
    if ok && h.mayTrain n rate lanes then
      ((((h.wr DPT.STAT_RATE rate n).wr DPT.STAT_LANES lanes n).wrFree DPT.TXEQ_LANE n).wr DPT.STAT_STATE 2 n).waitLink n
    else h.linkFails n 0 := rfl

theorem Hub.Canon.dpTrainDone_good {h : Hub} (C : h.Canon) {n rate lanes : Nat} {ok : Bool}
    (good : (ok && h.mayTrain n rate lanes) = true) :
    let g := h.dpTrainDone n ok rate lanes
    g.rd DPT.STAT_STATE n = 2 ∧ g.rd DPT.STAT_RATE n = rate % 2 ^ DPT.STAT_RATE.w ∧
      g.rd DPT.STAT_LANES n = lanes % 2 ^ DPT.STAT_LANES.w := by
  rw [dpTrainDone_eq, if_pos good]
  refine ⟨?_, ?_, ?_⟩
  · rw [rd_waitLink_dpt (by decide)]
    exact C.wr.wr.wrFree.rd_wr
  · rw [rd_waitLink_dpt (by decide), rd_wr_place (by decide), rd_wrFree_place (by decide), rd_wr_place (by decide)]
    exact C.rd_wr
  · rw [rd_waitLink_dpt (by decide), rd_wr_place (by decide), rd_wrFree_place (by decide)]
    exact C.wr.rd_wr

theorem trained_wr_event (h : Hub) (n : Nat) : (h.wr DPT.HPDEV_IRQ 1 n).trained n = h.trained n := by
  unfold Hub.trained
  rw [rd_wr_place (by decide)]

/-- IRQ_HPD on a link that keeps its lock, or has none, sets the event alone. -/
theorem hpdIrq_of_kept {h : Hub} {n : Nat} {lost again : Bool} (kept : lost = false ∨ h.trained n = false) :
    h.hpdIrq n lost again = h.wr DPT.HPDEV_IRQ 1 n := by
  unfold Hub.hpdIrq
  dsimp only
  rw [trained_wr_event, if_pos (by rcases kept with e | e <;> simp [e])]

/-- IRQ_HPD on a link that has lost lock: it is trained once more as it was, or fails. -/
theorem hpdIrq_of_lost {h : Hub} {n : Nat} (trained : h.trained n = true) (again : Bool) : h.hpdIrq n true again =
    let g := h.wr DPT.HPDEV_IRQ 1 n
    if again then (((g.setLink n 1).wr DPT.STAT_RATE (g.rd DPT.STAT_RATE n) n |>.wr DPT.STAT_LANES (g.rd DPT.STAT_LANES n) n).wr
      DPT.STAT_STATE 2 n).waitLink n
    else g.linkFails n 3 := by
  unfold Hub.hpdIrq
  dsimp only
  rw [trained_wr_event, trained, if_neg (by decide)]
  rfl

theorem Hub.Canon.hpdIrq_again {h : Hub} (C : h.Canon) {n : Nat} (trained : h.trained n = true) :
    let g := h.hpdIrq n true true
    g.rd DPT.HPDEV_IRQ n = 1 ∧ g.rd DPT.STAT_STATE n = 2 ∧ g.rd DPT.STAT_RATE n = h.rd DPT.STAT_RATE n % 2 ^ DPT.STAT_RATE.w := by
  have CS : ((h.wr DPT.HPDEV_IRQ 1 n).setLink n 1).Canon := Hub.setLink_canon C.wr
  rw [hpdIrq_of_lost trained]
  dsimp only
  rw [if_pos rfl, rd_waitLink_dpt (by decide), rd_waitLink_dpt (by decide), rd_waitLink_dpt (by decide)]
  refine ⟨?_, CS.wr.wr.rd_wr, ?_⟩
  · rw [rd_wr_place (by decide), rd_wr_place (by decide), rd_wr_place (by decide), rd_setLink_apart (by decide) (by decide)]
    exact C.rd_wr
  · rw [rd_wr_place (by decide), rd_wr_place (by decide), CS.rd_wr, rd_wr_place (by decide)]

theorem Hub.Canon.hpdIrq_fails {h : Hub} (C : h.Canon) {n : Fin 4} (trained : h.trained n = true) :
    let g := h.hpdIrq n true false
    g.rd DPT.HPDEV_IRQ n = 1 ∧ g.rd DPT.STAT_STATE n = 3 ∧ g.bit HDR.ESTAT 3 (0x78 + n) = true := by
  obtain ⟨state, err, -⟩ := (C.wr (F := DPT.HPDEV_IRQ) (v := 1) (i := n) (b := 0)).linkFails_shows n (bit := 3) (by decide)
  rw [hpdIrq_of_lost trained]
  refine ⟨?_, state, err⟩
  dsimp only
  rw [if_neg Bool.false_ne_true, Hub.linkFails, Hub.raise_rd (by decide), rd_cnt_place (by decide),
    rd_setLink_apart (by decide) (by decide)]
  exact C.rd_wr

/-- What IRQ_HPD shows (R404). -/
theorem Hub.Canon.hpdIrq_shows {h : Hub} (C : h.Canon) (n : Fin 4) (lost again : Bool) :
    let g := h.hpdIrq n lost again
    g.rd DPT.HPDEV_IRQ n = 1 ∧
      (lost = true → h.trained n = true → again = true → g.rd DPT.STAT_STATE n = 2 ∧
        g.rd DPT.STAT_RATE n = h.rd DPT.STAT_RATE n % 2 ^ DPT.STAT_RATE.w) ∧
      (lost = true → h.trained n = true → again = false → g.rd DPT.STAT_STATE n = 3 ∧ g.bit HDR.ESTAT 3 (0x78 + n) = true) := by
  have kept (e : lost = false ∨ h.trained n = false) : (h.hpdIrq n lost again).rd DPT.HPDEV_IRQ n = 1 := by
    rw [hpdIrq_of_kept e]
    exact C.rd_wr
  rcases lost with _ | _
  · exact ⟨kept (.inl rfl), nofun, nofun⟩
  cases trained : h.trained n
  · exact ⟨kept (.inr trained), nofun, nofun⟩
  cases again
  · obtain ⟨event, failed⟩ := C.hpdIrq_fails trained
    exact ⟨event, nofun, fun _ _ _ => failed⟩
  · obtain ⟨event, retrained⟩ := C.hpdIrq_again trained
    exact ⟨event, fun _ _ _ => retrained, nofun⟩

/-- Hot-plug lost takes the link down (R404, R411). -/
theorem Hub.Canon.hpdLost_shows {h : Hub} (C : h.Canon) (n : Fin 4) :
    let g := h.hpdLost n
    g.rd DPT.HPDEV_LOSS n = 1 ∧ g.rd DPT.STAT_HPD n = 0 ∧ g.rd DPT.STAT_STATE n = 0 ∧ g.bit HDR.ESTAT 1 (0x78 + n) = true := by
  have CS : (((h.wr DPT.HPDEV_LOSS 1 n |>.wr DPT.STAT_HPD 0 n).cnt DPT.CNT_HPDLOSS_COUNT n).setLink n 0).Canon :=
    Hub.setLink_canon C.wr.wr.cnt
  unfold Hub.hpdLost
  refine ⟨?_, ?_, ?_, CS.bit_raise (secondPage_transmitter n) (by decide)⟩
  · rw [Hub.raise_rd (by decide), rd_setLink_apart (by decide) (by decide), rd_cnt_place (by decide), rd_wr_place (by decide)]
    exact C.rd_wr
  · rw [Hub.raise_rd (by decide), rd_setLink_apart (by decide) (by decide), rd_cnt_place (by decide)]
    exact C.wr.rd_wr
  · rw [Hub.raise_rd (by decide)]
    exact (C.wr.wr.cnt.setLink_shows (by decide) (by decide)).1

end Sys2Proof.Machine
end

section
/-! PROOFS. DisplayPort transmitters: AUX transactions (R410, R411). -/

namespace Sys2Proof.Machine

open Sys2Proof

/-! ### Words of a byte string -/

theorem leNat_lt (bs : Bytes) : leNat bs < 256 ^ bs.length := by
  induction bs with
  | nil => exact Nat.one_pos
  | cons b bs ih =>
    have byte : b.toNat < 256 := b.isLt
    rw [leNat, List.length_cons, Nat.pow_succ]
    omega

theorem leAt_lt (bs : Bytes) (i n : Nat) : leAt bs i n < 256 ^ n :=
  (leNat_lt _).trans_le (Nat.pow_le_pow_right (by decide) (List.length_take_le n _))

theorem toWords_eq (n : Nat) (bs : Bytes) : toWords n bs = (List.range n).map fun j => leAt bs (4 * j) 4 := by
  induction n generalizing bs with
  | zero => rfl
  | succ n ih =>
    rw [toWords, ih, List.range_succ_eq_map, List.map_cons, List.map_map]
    refine congrArg (leNat (bs.take 4) :: ·) (List.map_congr_left fun j _ => ?_)
    show leAt (bs.drop 4) (4 * j) 4 = leAt bs (4 * (j + 1)) 4
    rw [leAt, List.drop_drop, Nat.mul_succ, Nat.add_comm 4, leAt]

/-! ### AUX transactions (R410, R411) -/

/-- A transaction starts with the command, the address and the length written. -/
theorem Hub.Canon.auxWrite_shows {h : Hub} (C : h.Canon) {n : Fin 4} {v : Nat} (go : v.testBit 0 = true) (up : h.up (0x78 + n) = true)
    (idle : h.rd DPT.AUXSTAT_DONE n ≠ 1) :
    let g := h.auxWrite n v
    g.rd DPT.AUXSTAT_DONE n = 1 ∧ g.rd DPT.AUXCTL_CMD n = bits v 4 4 ∧ g.rd DPT.AUXCTL_ADDR n = bits v 8 20 ∧
      g.rd DPT.AUXCTL_LEN n = bits v 28 4 := by
  have starts : (v.testBit 0 && h.up (0x78 + n) && h.rd DPT.AUXSTAT_DONE n != 1) = true := by
    rw [go, up, bne_iff_ne.2 idle]
    rfl
  unfold Hub.auxWrite
  dsimp only
  rw [starts, Hub.when_true]
  refine ⟨C.wr.wr.wr.rd_wr, ?_, ?_, ?_⟩
  · rw [rd_wr_place (by decide), rd_wr_place (by decide), rd_wr_place (by decide), C.rd_wr]
    exact Nat.mod_mod _ _
  · rw [rd_wr_place (by decide), rd_wr_place (by decide), C.wr.rd_wr]
    exact Nat.mod_mod _ _
  · rw [rd_wr_place (by decide), C.wr.wr.rd_wr]
    exact Nat.mod_mod _ _

/-- The words of AUXDATA lie on the transmitter's page, apart from each other and from the count of failures. -/
theorem auxData_place : ∀ j < 4, (∀ k < 4, k ≠ j → (DPT.AUXDATA.word k).place ≠ (DPT.AUXDATA.word j).place) ∧
    DPT.CNT_AUXERR_COUNT.place ≠ (DPT.AUXDATA.word j).place ∧ (DPT.AUXDATA.word j).kind = Kind.dpt := by decide

/-- The data of a transaction in AUXDATA. -/
def Hub.auxTake (h : Hub) (n : Nat) (data : Bytes) : Hub :=
  h.each ((List.range 4).map fun j => (j, leAt (padTo 16 data) (4 * j) 4)) fun (j, w) h => h.wr (DPT.AUXDATA.word j) w n

theorem Hub.Canon.auxTake {h : Hub} (C : h.Canon) (n : Nat) (data : Bytes) : (h.auxTake n data).Canon :=
  keep_each (fun _ _ C => C.wr) C

theorem rd_auxTake {h : Hub} {n i b : Nat} {data : Bytes} {F : Fld} (apart : ∀ j < 4, (DPT.AUXDATA.word j).place ≠ F.place) :
    (h.auxTake n data).rd F i b = h.rd F i b := by
  refine keep_each_mem (P := fun g => g.rd F i b = h.rd F i b) (fun p hp g same => ?_) rfl
  obtain ⟨j, hj, rfl⟩ := List.mem_map.1 hp
  exact (rd_wr_place (apart j (List.mem_range.1 hj))).trans same

theorem Hub.Canon.rd_auxTake_word {h : Hub} (C : h.Canon) (n : Nat) (data : Bytes) {j : Nat} (hj : j < 4) :
    (h.auxTake n data).rd (DPT.AUXDATA.word j) n = leAt (padTo 16 data) (4 * j) 4 := by
  obtain ⟨apart, -⟩ := auxData_place j hj
  refine (keep_foldl_of_mem (C := Hub.Canon) (Q := fun g => g.rd (DPT.AUXDATA.word j) n = leAt (padTo 16 data) (4 * j) 4)
    (f := fun g p => g.wr (DPT.AUXDATA.word p.1) p.2 n) (a := (j, leAt (padTo 16 data) (4 * j) 4))
    (fun _ _ _ C => C.wr) (fun g p hp ne _ e => ?_) (fun _ C => C.rd_wr.trans ?_) C
    (List.mem_map_of_mem (f := fun j => (j, leAt (padTo 16 data) (4 * j) 4)) (List.mem_range.2 hj))).2
  · obtain ⟨k, hk, rfl⟩ := List.mem_map.1 hp
    exact (rd_wr_place (apart k (List.mem_range.1 hk) fun e => ne (e ▸ rfl))).trans e
  · exact Nat.mod_eq_of_lt (leAt_lt (padTo 16 data) (4 * j) 4)

theorem auxEnd_eq (h : Hub) (n : Nat) (ok : Bool) (reply bytes : Nat) (data : Bytes) : h.auxEnd n ok reply bytes data =
    ((h.wr DPT.AUXSTAT_REPLY reply n |>.wr DPT.AUXSTAT_BYTES bytes n |>.wr DPT.AUXSTAT_DONE (if ok then 2 else 3) n).when
      (!data.isEmpty) fun g => g.auxTake n data).when (!ok) fun g => (g.cnt DPT.CNT_AUXERR_COUNT n).raise (0x78 + n) 2 := by
  have words : (List.range 4).zip (toWords 4 (padTo 16 data)) =
      (List.range 4).map fun j => (j, leAt (padTo 16 data) (4 * j) 4) := by
    rw [toWords_eq]
    exact (congrArg (List.zip · _) (List.map_id _)).symm.trans List.zip_map'
  unfold Hub.auxEnd Hub.auxTake
  dsimp only
  rw [words]

/-- What the end of a transaction shows. -/
theorem Hub.Canon.auxEnd_shows {h : Hub} (C : h.Canon) (n : Fin 4) (ok : Bool) (reply bytes : Nat) (data : Bytes) :
    let g := h.auxEnd n ok reply bytes data
    g.rd DPT.AUXSTAT_DONE n = (if ok then 2 else 3) ∧ g.rd DPT.AUXSTAT_REPLY n = reply % 2 ^ DPT.AUXSTAT_REPLY.w ∧
      g.rd DPT.AUXSTAT_BYTES n = bytes % 2 ^ DPT.AUXSTAT_BYTES.w ∧
      (data ≠ [] → ∀ j : Nat, j < 4 → g.rd (DPT.AUXDATA.word j) n = leAt (padTo 16 data) (4 * j) 4) ∧
      (ok = false → g.bit HDR.ESTAT 2 (0x78 + n) = true) := by
  have refusal {g : Hub} {F : Fld} (k : F.kind = Kind.dpt) (e : DPT.CNT_AUXERR_COUNT.place ≠ F.place) :
      (g.when (!ok) fun g => (g.cnt DPT.CNT_AUXERR_COUNT n).raise (0x78 + n) 2).rd F n = g.rd F n :=
    rd_when_of_rd ((Hub.raise_rd (by rw [k]; decide)).trans (rd_cnt_place e))
  have taken {g : Hub} {F : Fld} (e : ∀ j < 4, (DPT.AUXDATA.word j).place ≠ F.place) :
      (g.when (!data.isEmpty) fun g => g.auxTake n data).rd F n = g.rd F n := rd_when_of_rd (rd_auxTake e)
  rw [auxEnd_eq]
  refine ⟨?_, ?_, ?_, fun some j hj => ?_, fun failed => ?_⟩
  · rw [refusal (by decide) (by decide), taken (by decide), C.wr.wr.rd_wr]
    cases ok <;> rfl
  · rw [refusal (by decide) (by decide), taken (by decide), rd_wr_place (by decide), rd_wr_place (by decide)]
    exact C.rd_wr
  · rw [refusal (by decide) (by decide), taken (by decide), rd_wr_place (by decide)]
    exact C.wr.rd_wr
  · obtain ⟨-, cnt, dpt⟩ := auxData_place j hj
    rw [refusal dpt cnt, show (!data.isEmpty) = true by simpa using some, Hub.when_true]
    exact C.wr.wr.wr.rd_auxTake_word n data hj
  · rw [failed, Bool.not_false, Hub.when_true]
    exact Hub.Canon.bit_raise (Hub.Canon.cnt (C.wr.wr.wr.when (C.wr.wr.wr.auxTake n data))) (secondPage_transmitter n) (by decide)

end Sys2Proof.Machine
end

section
/-! PROOFS. Display heads: underruns, and the end of the active area (R397, R398, R400, R401, R407). -/

namespace Sys2Proof.Machine

open Sys2Proof

/-! ### Signatures (R400) -/

theorem crcBit_lt {c : Nat} (hc : c < 2 ^ 32) : crcBit c < 2 ^ 32 := by
  have half : c / 2 < 2 ^ 32 := (Nat.div_le_self c 2).trans_lt hc
  unfold crcBit
  split
  · exact Nat.xor_lt_two_pow half (by decide)
  · exact half

theorem crcByte_lt {c : Nat} (hc : c < 2 ^ 32) (b : Byte) : crcByte c b < 2 ^ 32 := by
  have bits (n : Nat) {x : Nat} (hx : x < 2 ^ 32) : Nat.repeat crcBit n x < 2 ^ 32 := by
    induction n with
    | zero => exact hx
    | succ n ih => exact crcBit_lt ih
  exact bits 8 (Nat.xor_lt_two_pow hc (b.isLt.trans (by decide)))

theorem crc32c_lt (bs : Bytes) : crc32c bs < 2 ^ 32 := by
  have fold {c : Nat} (hc : c < 2 ^ 32) : bs.foldl crcByte c < 2 ^ 32 := by
    induction bs generalizing c with
    | nil => exact hc
    | cons b bs ih => exact ih (crcByte_lt hc b)
  exact Nat.xor_lt_two_pow (fold (by decide)) (by decide)

/-- What a frame's signature rests on, of the head's registers. -/
def pixelFlds : List Fld :=
  [DHD.VTIM_VACT, DHD.HTIM_HACT, DHD.SLOT_HELD, DHD.SLOT_VALID, DHD.ORG_ORGX, DHD.ORG_ORGY, DHD.hUnder, DHD.hUnderAt,
    DHD.UCOLOUR_RGB, DHD.BORDER_RGB]

theorem frameSig_wr {h : Hub} {F : Fld} {v i b n : Nat} (apart : ∀ G ∈ pixelFlds, F.place ≠ G.place) :
    (h.wr F v i b).frameSig n = h.frameSig n := by
  have rd (G : Fld) (hG : G ∈ pixelFlds) : (h.wr F v i b).rd G n = h.rd G n := rd_wr_place (apart G hG)
  have on (G : Fld) (hG : G ∈ pixelFlds) : (h.wr F v i b).on G n = h.on G n := by rw [Hub.on, rd G hG, Hub.on]
  have pixel (x y : Nat) : (h.wr F v i b).headPixel n x y = h.headPixel n x y := by
    unfold Hub.headPixel
    dsimp only
    rw [rd DHD.SLOT_HELD (by decide), rd DHD.ORG_ORGX (by decide), rd DHD.ORG_ORGY (by decide), on DHD.hUnder (by decide),
      rd DHD.hUnderAt (by decide), rd DHD.UCOLOUR_RGB (by decide), on DHD.SLOT_VALID (by decide), rd DHD.BORDER_RGB (by decide)]
    rfl
  unfold Hub.frameSig
  rw [rd DHD.VTIM_VACT (by decide), rd DHD.HTIM_HACT (by decide)]
  simp only [pixel]

/-! ### Underruns (R398, R407) -/

/-- What an underrun writes of the head's page. -/
def underrunFlds : List Fld := [DHD.hUnder, DHD.hUnderAt, DHD.FIFO_LEVEL, DHD.FIFO_LOW, DHD.CNT_UNDERRUN_COUNT]

theorem headUnderrun_of_on {h : Hub} {n : Nat} (under : h.on DHD.hUnder n = true) (line pixel : Nat) :
    h.headUnderrun n line pixel = h := by
  unfold Hub.headUnderrun
  rw [if_pos under]

theorem rd_headUnderrun_apart {h : Hub} {n line pixel i b : Nat} {F : Fld} (dhd : F.kind = Kind.dhd)
    (apart : ∀ G ∈ underrunFlds, G.place ≠ F.place) : (h.headUnderrun n line pixel).rd F i b = h.rd F i b := by
  unfold Hub.headUnderrun
  refine rd_ite rfl ?_
  rw [Hub.raise_rd (by rw [dhd]; decide), rd_cnt_place (apart _ (by decide)), rd_wr_place (apart _ (by decide)),
    rd_wr_place (apart _ (by decide)), rd_wr_place (apart _ (by decide)), rd_wr_place (apart _ (by decide)),
    Hub.fetched_rd (by rw [dhd]; decide)]

/-- The first underrun of a frame. -/
theorem Hub.Canon.headUnderrun_shows {h : Hub} (C : h.Canon) (n : Fin 4) (first : h.on DHD.hUnder n = false) (line pixel : Nat) :
    let g := h.headUnderrun n line pixel
    g.rd DHD.hUnder n = 1 ∧ g.bit HDR.ESTAT 0 (0x71 + n) = true ∧ g.rd DHD.FIFO_LEVEL n = 0 ∧
      g.rd DHD.CNT_UNDERRUN_COUNT n = h.oneMore DHD.CNT_UNDERRUN_COUNT n := by
  have CF (bytes : Nat) : (h.fetched n bytes).Canon := Hub.fetched_canon C
  unfold Hub.headUnderrun
  rw [first, if_neg Bool.false_ne_true]
  dsimp only
  refine ⟨?_, (CF _).wr.wr.wr.wr.cnt.bit_raise (secondPage_head n) (by decide), ?_, ?_⟩
  · rw [Hub.raise_rd (by decide), rd_cnt_place (by decide), rd_wr_place (by decide), rd_wr_place (by decide), rd_wr_place (by decide),
      (CF _).rd_wr]
    rfl
  · rw [Hub.raise_rd (by decide), rd_cnt_place (by decide), rd_wr_place (by decide)]
    exact (CF _).wr.wr.rd_wr
  · rw [Hub.raise_rd (by decide), (CF _).wr.wr.wr.wr.rd_cnt, rd_wr_place (by decide), rd_wr_place (by decide),
      rd_wr_place (by decide), rd_wr_place (by decide), Hub.fetched_rd (by decide)]
    rfl

/-- A frame that lacked memory underruns at a pixel: its first, or one that a free value gives. -/
theorem starve_of_lack {h : Hub} {n : Nat} (lack : h.on DHD.hNoMem n = true) :
    ∃ x line pixel, Hub.starve n h = ({ h with freeIx := x } : Hub).headUnderrun n line pixel := by
  have some : h.rd DHD.hNoMem n ≠ 0 := bne_iff_ne.1 lack
  unfold Hub.starve
  rw [if_neg some]
  split
  · exact ⟨h.freeIx, 0, 0, rfl⟩
  · exact ⟨h.freeIx + 1, _, _, rfl⟩

theorem starve_of_fed {h : Hub} {n : Nat} (fed : h.on DHD.hNoMem n = false) : Hub.starve n h = h := by
  have none : h.rd DHD.hNoMem n = 0 := by simpa [Hub.on] using fed
  unfold Hub.starve
  rw [if_pos none]

/-- Memory that fails moves, of the head's page, its own mark alone. -/
theorem rd_lackMem_apart {h : Hub} {n since i b : Nat} {F : Fld} (dhd : F.kind = Kind.dhd) (apart : DHD.hNoMem.place ≠ F.place) :
    (Hub.lackMem n since h).rd F i b = h.rd F i b := by
  unfold Hub.lackMem
  rw [Hub.notReady_rd (by rw [dhd]; decide), rd_when_of_rd (Hub.raise_rd (by rw [dhd]; decide)), rd_wr_place apart]

theorem rd_lackMem_vbstat (h : Hub) (n since : Nat) : (Hub.lackMem n since h).rd DSP.VBSTAT_VBLANK = h.rd DSP.VBSTAT_VBLANK := by
  unfold Hub.lackMem
  rw [Hub.notReady_rd (by decide), rd_when_of_rd (rd_raise_vbstat _ _ _ _), rd_wr_place (by decide)]

theorem Hub.Canon.rd_lackMem {h : Hub} (C : h.Canon) (n since : Nat) :
    (Hub.lackMem n since h).rd DHD.hNoMem n = since % 2 ^ 64 := by
  unfold Hub.lackMem
  rw [Hub.notReady_rd (by decide), rd_when_of_rd (Hub.raise_rd (by decide))]
  exact C.rd_wr

/-! ### The end of the active area (R397, R400, R401, R407) -/

/-- The FIFO of head `n` down to `low` pixels, and a lack of memory that shows only now. -/
def Hub.fifoDrained (h : Hub) (n low : Nat) : Hub :=
  (h.wr DHD.FIFO_LOW (min (h.rd DHD.FIFO_LOW n) low) n).when (!h.memReady && !h.on DHD.hNoMem n) (Hub.lackMem n 2)

/-- Head `n` at the end of its active area, with the underrun of a frame that lacked memory. -/
def Hub.activeLeft (h : Hub) (n low : Nat) : Hub := Hub.starve n (h.fifoDrained n low)

theorem Hub.Canon.fifoDrained {h : Hub} (C : h.Canon) (n low : Nat) : (h.fifoDrained n low).Canon :=
  C.wr.when (Hub.lackMem_canon C.wr)

theorem rd_fifoDrained_apart {h : Hub} {n low i b : Nat} {F : Fld} (dhd : F.kind = Kind.dhd)
    (apart : ∀ G ∈ [DHD.FIFO_LOW, DHD.hNoMem], G.place ≠ F.place) : (h.fifoDrained n low).rd F i b = h.rd F i b :=
  (rd_when_of_rd (rd_lackMem_apart dhd (apart _ (by decide)))).trans (rd_wr_place (apart _ (by decide)))

/-- Where memory is not served, or has not been since the frame began, the frame lacks it. -/
theorem Hub.Canon.lack_fifoDrained {h : Hub} (C : h.Canon) {n : Nat} (low : Nat)
    (lack : h.memReady = false ∨ h.on DHD.hNoMem n = true) : (h.fifoDrained n low).on DHD.hNoMem n = true := by
  unfold Hub.fifoDrained
  cases marked : h.on DHD.hNoMem n
  · have unserved : h.memReady = false := lack.resolve_right (by simp [marked])
    rw [unserved, Bool.not_false, Bool.and_self, Hub.when_true, Hub.on, C.wr.rd_lackMem]
    rfl
  · rw [Bool.not_true, Bool.and_false, Hub.when_false, Hub.on, rd_wr_place (by decide)]
    exact marked

/-- The frame of head `n` counted. -/
def Hub.frameCounted (h : Hub) (n : Nat) : Hub :=
  (h.wr DHD.FRAME_COUNT ((h.rd DHD.FRAME_COUNT n + 1) % 2 ^ 32) n).wrBit DSP.VBSTAT_ODD n ((h.rd DHD.FRAME_COUNT n + 1) % 2 ^ 32 % 2 == 1)

/-- The frozen frames in a row of head `n`, after a frame of signature `sig`. -/
def Hub.frozenRun (h : Hub) (n sig : Nat) : Nat :=
  if h.rd DHD.SOSIG_SIG n != sig then 0
  else if h.on DHD.hDamage n then min 255 (h.rd DHD.FRZRUN_COUNT n + 1) else h.rd DHD.FRZRUN_COUNT n

/-- A frame of signature `sig` that head `n` has sent whole. -/
def Hub.frameSigned (h : Hub) (n sig : Nat) : Hub :=
  let h1 := h.fetched n (h.slotBytes (h.rd DHD.SLOT_HELD n))
  let h2 := h1.wr DHD.SOSIG_SIG sig n |>.wr DHD.FRZRUN_COUNT (h1.frozenRun n sig) n
  if h1.rd DHD.SOSIG_SIG n != sig then h2.wr DHD.STAT_FROZEN 0 n
  else
    h2.when (h2.on DHD.FRZ_THRESH n && decide (h2.rd DHD.FRZ_THRESH n ≤ h1.frozenRun n sig) && !h2.on DHD.STAT_FROZEN n) fun h =>
      ((h.wr DHD.STAT_FROZEN 1 n).cnt DHD.CNT_FROZEN_COUNT n).raise (0x71 + n) 4

theorem activeEnd_eq (h : Hub) (n low : Nat) : h.activeEnd n low =
    if ((h.activeLeft n low).frameCounted n).on DHD.hUnder n then (h.activeLeft n low).frameCounted n
    else ((h.activeLeft n low).frameCounted n).frameSigned n ((h.activeLeft n low).frameSig n) := rfl

theorem rd_frameCounted_apart {h : Hub} {n i b : Nat} {F : Fld} (dhd : F.kind = Kind.dhd) (apart : DHD.FRAME_COUNT.place ≠ F.place) :
    (h.frameCounted n).rd F i b = h.rd F i b := by
  unfold Hub.frameCounted
  rw [Hub.wrBit, rd_wr_key (key_ne_of_kind (by rw [dhd]; decide) _ _ _ _), rd_wr_place apart]

theorem rd_frameCounted_estat (h : Hub) (n pg : Nat) : (h.frameCounted n).rd HDR.ESTAT pg = h.rd HDR.ESTAT pg :=
  (rd_wrBit_place (by decide)).trans (rd_wr_place (by decide))

theorem Hub.Canon.frameCounted {h : Hub} (C : h.Canon) (n : Nat) : (h.frameCounted n).Canon := C.wr.wrBit

theorem Hub.Canon.rd_frameCounted {h : Hub} (C : h.Canon) (n : Nat) :
    (h.frameCounted n).rd DHD.FRAME_COUNT n = (h.rd DHD.FRAME_COUNT n + 1) % 2 ^ 32 := by
  unfold Hub.frameCounted
  rw [rd_wrBit_place (by decide), C.rd_wr]
  exact Nat.mod_mod _ _

/-- What the signature of a frame moves of the head's page. -/
def signedFlds : List Fld := [DHD.SOSIG_SIG, DHD.FRZRUN_COUNT, DHD.STAT_FROZEN, DHD.CNT_FROZEN_COUNT]

/-- FROZEN and its count aside, the head's page stands as the signature and the run are written. -/
theorem rd_frameSigned_apart_frozen {h : Hub} {n sig i b : Nat} {F : Fld} (dhd : F.kind = Kind.dhd)
    (apart : ∀ G ∈ [DHD.STAT_FROZEN, DHD.CNT_FROZEN_COUNT], G.place ≠ F.place) : (h.frameSigned n sig).rd F i b =
      ((h.fetched n (h.slotBytes (h.rd DHD.SLOT_HELD n))).wr DHD.SOSIG_SIG sig n |>.wr DHD.FRZRUN_COUNT
        ((h.fetched n (h.slotBytes (h.rd DHD.SLOT_HELD n))).frozenRun n sig) n).rd F i b := by
  unfold Hub.frameSigned
  dsimp only
  refine rd_ite (rd_wr_place (apart _ (by decide))) (rd_when_of_rd ?_)
  rw [Hub.raise_rd (by rw [dhd]; decide), rd_cnt_place (apart _ (by decide)), rd_wr_place (apart _ (by decide))]

theorem rd_frameSigned_apart {h : Hub} {n sig i b : Nat} {F : Fld} (dhd : F.kind = Kind.dhd)
    (apart : ∀ G ∈ signedFlds, G.place ≠ F.place) : (h.frameSigned n sig).rd F i b = h.rd F i b := by
  rw [rd_frameSigned_apart_frozen dhd fun G m => apart G (List.mem_cons_of_mem _ (List.mem_cons_of_mem _ m)),
    rd_wr_place (apart _ (by decide)), rd_wr_place (apart _ (by decide)), Hub.fetched_rd (by rw [dhd]; decide)]

theorem Hub.Canon.frameSigned_shows {h : Hub} (C : h.Canon) (n sig : Nat) :
    let g := h.frameSigned n sig
    g.rd DHD.SOSIG_SIG n = sig % 2 ^ 32 ∧
      (h.rd DHD.SOSIG_SIG n ≠ sig → g.rd DHD.FRZRUN_COUNT n = 0 ∧ g.rd DHD.STAT_FROZEN n = 0) := by
  have CF : (h.fetched n (h.slotBytes (h.rd DHD.SLOT_HELD n))).Canon := Hub.fetched_canon C
  refine ⟨?_, fun changed => ?_⟩
  · rw [rd_frameSigned_apart_frozen (by decide) (by decide), rd_wr_place (by decide)]
    exact CF.rd_wr
  · have differs : ((h.fetched n (h.slotBytes (h.rd DHD.SLOT_HELD n))).rd DHD.SOSIG_SIG n != sig) = true := by
      rw [Hub.fetched_rd (by decide)]
      exact bne_iff_ne.2 changed
    constructor
    · rw [rd_frameSigned_apart_frozen (by decide) (by decide), CF.wr.rd_wr, Hub.frozenRun, if_pos differs]
      rfl
    · unfold Hub.frameSigned
      dsimp only
      rw [if_pos differs]
      exact CF.wr.wr.rd_wr

/-- The end of a frame whose pixels have all been fetched. -/
theorem Hub.Canon.activeEnd_fed {h : Hub} (C : h.Canon) (n low : Nat) (served : h.memReady = true) (fed : h.on DHD.hNoMem n = false) :
    let g := h.activeEnd n low
    g.rd DHD.FIFO_LOW n = min (h.rd DHD.FIFO_LOW n) low % 2 ^ DHD.FIFO_LOW.w ∧
      g.rd DHD.FRAME_COUNT n = (h.rd DHD.FRAME_COUNT n + 1) % 2 ^ 32 ∧
      (h.on DHD.hUnder n = false → g.rd DHD.SOSIG_SIG n = h.frameSig n % 2 ^ 32 ∧
        (h.rd DHD.SOSIG_SIG n ≠ h.frameSig n % 2 ^ 32 → g.rd DHD.FRZRUN_COUNT n = 0 ∧ g.rd DHD.STAT_FROZEN n = 0)) := by
  have left : h.activeLeft n low = h.wr DHD.FIFO_LOW (min (h.rd DHD.FIFO_LOW n) low) n := by
    unfold Hub.activeLeft Hub.fifoDrained
    rw [served, Bool.not_true, Bool.false_and, Hub.when_false]
    refine starve_of_fed ?_
    rw [Hub.on, rd_wr_place (by decide)]
    exact fed
  have CL : (h.activeLeft n low).Canon := left ▸ C.wr
  have under : ((h.activeLeft n low).frameCounted n).on DHD.hUnder n = h.on DHD.hUnder n := by
    rw [Hub.on, rd_frameCounted_apart (by decide) (by decide), left, rd_wr_place (by decide), Hub.on]
  have count : ((h.activeLeft n low).frameCounted n).rd DHD.FRAME_COUNT n = (h.rd DHD.FRAME_COUNT n + 1) % 2 ^ 32 := by
    rw [CL.rd_frameCounted, left, rd_wr_place (by decide)]
  have fifo : ((h.activeLeft n low).frameCounted n).rd DHD.FIFO_LOW n = min (h.rd DHD.FIFO_LOW n) low % 2 ^ DHD.FIFO_LOW.w := by
    rw [rd_frameCounted_apart (by decide) (by decide), left]
    exact C.rd_wr
  rw [activeEnd_eq]
  refine ⟨rd_ite fifo ?_, rd_ite count ?_, fun whole => ?_⟩
  · exact (rd_frameSigned_apart (by decide) (by decide)).trans fifo
  · exact (rd_frameSigned_apart (by decide) (by decide)).trans count
  · have sig : (h.activeLeft n low).frameSig n = h.frameSig n := by rw [left, frameSig_wr (by decide)]
    have last : ((h.activeLeft n low).frameCounted n).rd DHD.SOSIG_SIG n = h.rd DHD.SOSIG_SIG n := by
      rw [rd_frameCounted_apart (by decide) (by decide), left, rd_wr_place (by decide)]
    have sigFits : h.frameSig n % 2 ^ 32 = h.frameSig n := Nat.mod_eq_of_lt (crc32c_lt _)
    rw [under, whole, if_neg Bool.false_ne_true, sig]
    obtain ⟨shown, changed⟩ := (CL.frameCounted n).frameSigned_shows n (h.frameSig n)
    rw [sigFits, ← last]
    exact ⟨shown.trans sigFits, changed⟩

/-- The end of a frame that lacked memory: it has underrun, and leaves the last signature (R400, R407). -/
theorem Hub.Canon.activeEnd_starved {h : Hub} (C : h.Canon) (n : Fin 4) (low : Nat)
    (lack : h.memReady = false ∨ h.on DHD.hNoMem n = true) :
    let g := h.activeEnd n low
    g.rd DHD.FRAME_COUNT n = (h.rd DHD.FRAME_COUNT n + 1) % 2 ^ 32 ∧ g.on DHD.hUnder n = true ∧
      g.rd DHD.SOSIG_SIG n = h.rd DHD.SOSIG_SIG n ∧
      (h.on DHD.hUnder n = false → g.bit HDR.ESTAT 0 (0x71 + n) = true ∧
        g.rd DHD.CNT_UNDERRUN_COUNT n = h.oneMore DHD.CNT_UNDERRUN_COUNT n) := by
  have CD : (h.fifoDrained n low).Canon := C.fifoDrained n low
  have drained {F : Fld} (dhd : F.kind = Kind.dhd) (apart : ∀ G ∈ [DHD.FIFO_LOW, DHD.hNoMem], G.place ≠ F.place) :
      (h.fifoDrained n low).rd F n = h.rd F n := rd_fifoDrained_apart dhd apart
  obtain ⟨x, line, pixel, (left : h.activeLeft n low = _)⟩ := starve_of_lack (C.lack_fifoDrained low lack)
  generalize h.fifoDrained n low = d at CD drained left
  have CX : ({ d with freeIx := x } : Hub).Canon := ⟨CD.regs, CD.tab, CD.fmem⟩
  have first : ({ d with freeIx := x } : Hub).on DHD.hUnder n = h.on DHD.hUnder n := by
    rw [Hub.on, Hub.rd_with_freeIx, drained (by decide) (by decide), Hub.on]
  have under : (h.activeLeft n low).on DHD.hUnder n = true := by
    cases e : h.on DHD.hUnder n
    · rw [left, Hub.on, (CX.headUnderrun_shows n (first.trans e) line pixel).1]
      rfl
    · rw [left, headUnderrun_of_on (first.trans e)]
      exact first.trans e
  have apart {F : Fld} (dhd : F.kind = Kind.dhd) (e : ∀ G ∈ underrunFlds ++ [DHD.hNoMem], G.place ≠ F.place) :
      (h.activeLeft n low).rd F n = h.rd F n := by
    rw [left, rd_headUnderrun_apart dhd fun G m => e G (List.mem_append_left _ m), Hub.rd_with_freeIx, drained dhd]
    exact fun G m => e G (by revert G; decide)
  have under' : ((h.activeLeft n low).frameCounted n).on DHD.hUnder n = true := by
    rw [Hub.on, rd_frameCounted_apart (by decide) (by decide)]
    exact under
  rw [activeEnd_eq, if_pos under']
  refine ⟨?_, under', ?_, fun whole => ?_⟩
  · rw [Hub.Canon.rd_frameCounted (left ▸ Hub.headUnderrun_canon CX), apart (by decide) (by decide)]
  · rw [rd_frameCounted_apart (by decide) (by decide), apart (by decide) (by decide)]
  · obtain ⟨-, err, -, count⟩ := CX.headUnderrun_shows n (first.trans whole) line pixel
    rw [← left] at err count
    constructor
    · exact (bit_of_rd (rd_frameCounted_estat _ _ _)).trans err
    · rw [rd_frameCounted_apart (by decide) (by decide), count, Hub.oneMore, Hub.rd_with_freeIx, drained (by decide) (by decide)]
      rfl

end Sys2Proof.Machine
end

section
/-! PROOFS. Display heads: flips and vertical blanking, and the statement on heads and transmitters (R391 to R411). -/

namespace Sys2Proof.Machine

open Sys2Proof

/-! ### Flips (R394 to R396) -/

/-- The hold of a head released moves, of the head's page, the slot shown alone. -/
theorem rd_releaseHead_apart {h : Hub} {n i b : Nat} {F : Fld} (dhd : F.kind = Kind.dhd)
    (apart : ∀ G ∈ [DHD.SLOT_VALID, DHD.SLOT_HELD], G.place ≠ F.place) : (h.releaseHead n).rd F i b = h.rd F i b := by
  unfold Hub.releaseHead
  refine rd_ite ?_ rfl
  rw [rd_wr_place (apart _ (by decide)), rd_wr_place (apart _ (by decide)), Hub.hold_rd (by rw [dhd]; decide)]

/-- Whether head `n` shows slot `k`. -/
def Hub.showsSlot (h : Hub) (n k : Nat) : Bool := h.on DHD.SLOT_VALID n && h.rd DHD.SLOT_HELD n == k

/-- The slot of the frame before shown again. -/
def Hub.repeatSlot (h : Hub) (n : Nat) : Hub := (h.cnt DHD.SLOT_AGE_FRAMES n).wr DHD.hDamage 0 n

/-- Slot `k` taken. -/
def Hub.takeSlot (h : Hub) (n k : Nat) : Hub :=
  (((h.hold k (2 + n) true).releaseHead n).wr DHD.SLOT_HELD k n |>.wr DHD.SLOT_VALID 1 n
    |>.wr DHD.SLOT_AGE_FRAMES 0 n |>.cnt DHD.CNT_FLIP_COUNT n).wr DHD.hDamage
      (bnat (decide (max 1 (h.rd DHD.FRZ_DMIN n) ≤ h.slotFld k 6 0 14))) n

theorem flip_of_ready {h : Hub} {n k : Nat} (on : h.on DHD.SRC_EN n = true)
    (ready : (h.ring (h.rd DHD.SRC_RING n)).bind h.readySlot = some k) :
    h.flip n = if h.showsSlot n k then h.repeatSlot n else h.takeSlot n k := by
  unfold Hub.flip
  dsimp only
  rw [on, if_neg (by decide), if_pos rfl, ready]
  rfl

theorem Hub.Canon.takeSlot_shows {h : Hub} (C : h.Canon) (n k : Nat) :
    let g := h.takeSlot n k
    g.rd DHD.SLOT_HELD n = k % 2 ^ DHD.SLOT_HELD.w ∧ g.rd DHD.SLOT_VALID n = 1 ∧ g.rd DHD.SLOT_AGE_FRAMES n = 0 ∧
      g.rd DHD.CNT_FLIP_COUNT n = h.oneMore DHD.CNT_FLIP_COUNT n := by
  have CR : ((h.hold k (2 + n) true).releaseHead n).Canon := Hub.releaseHead_canon (Hub.hold_canon C)
  unfold Hub.takeSlot
  dsimp only
  refine ⟨?_, ?_, ?_, ?_⟩
  · rw [rd_wr_place (by decide), rd_cnt_place (by decide), rd_wr_place (by decide), rd_wr_place (by decide)]
    exact CR.rd_wr
  · rw [rd_wr_place (by decide), rd_cnt_place (by decide), rd_wr_place (by decide)]
    exact CR.wr.rd_wr
  · rw [rd_wr_place (by decide), rd_cnt_place (by decide)]
    exact CR.wr.wr.rd_wr
  · rw [rd_wr_place (by decide), CR.wr.wr.wr.rd_cnt, rd_wr_place (by decide), rd_wr_place (by decide), rd_wr_place (by decide),
      rd_releaseHead_apart (by decide) (by decide), Hub.hold_rd (by decide)]
    rfl

theorem Hub.Canon.rd_repeatSlot_age {h : Hub} (C : h.Canon) (n : Nat) :
    (h.repeatSlot n).rd DHD.SLOT_AGE_FRAMES n = h.oneMore DHD.SLOT_AGE_FRAMES n := by
  unfold Hub.repeatSlot
  rw [rd_wr_place (by decide)]
  exact C.rd_cnt

/-- A flip leaves the head in its state. -/
theorem head_flip_of_ready {h : Hub} {n k : Nat} (on : h.on DHD.SRC_EN n = true)
    (ready : (h.ring (h.rd DHD.SRC_RING n)).bind h.readySlot = some k) : (h.flip n).head n = h.head n := by
  rw [flip_of_ready on ready]
  refine rd_ite ?_ ?_
  · unfold Hub.repeatSlot
    rw [rd_wr_place (by decide), rd_cnt_place (by decide)]
    rfl
  · unfold Hub.takeSlot
    rw [rd_wr_place (by decide), rd_cnt_place (by decide), rd_wr_place (by decide), rd_wr_place (by decide), rd_wr_place (by decide),
      rd_releaseHead_apart (by decide) (by decide), Hub.hold_rd (by decide)]
    rfl

/-! ### Vertical blanking (R392, R395, R407) -/

theorem headCommit_of_idle {h : Hub} {n : Nat} (idle : h.on HDR.PSTAT_CPEND (0x71 + n) = false) : h.headCommit n = h := by
  unfold Hub.headCommit
  dsimp only
  rw [idle, Bool.not_false, if_pos rfl]

/-- Vertical blanking of head `n` as it starts. -/
def Hub.blanked (h : Hub) (n : Nat) : Hub :=
  ((h.wr DHD.STAT_VBLANK 1 n).wrBit DSP.VBSTAT_VBLANK n true).wr DHD.STAT_LINE (h.rd DHD.VTIM_VACT n) n
    |>.wr DHD.hRaster (h.rd DHD.VTIM_VACT n * h.rd DHD.HTIM_HTOTAL n * 10000000) n |>.wr DHD.hUnder 0 n |>.wr DHD.FIFO_LEVEL 16384 n

theorem vblank_of_run {h : Hub} {n : Nat} (idle : h.on HDR.PSTAT_CPEND (0x71 + n) = false) (run : (h.flip n).head n = 3) :
    h.vblank n = (((h.flip n).blanked n).wr DHD.hNoMem 0 n).when (!((h.flip n).blanked n).memReady) (Hub.lackMem n 1) := by
  unfold Hub.vblank
  dsimp only
  rw [headCommit_of_idle idle, if_neg (not_not_intro run)]
  rfl

/-- What the start of blanking writes of the head's page. -/
def blankFlds : List Fld := [DHD.STAT_VBLANK, DHD.STAT_LINE, DHD.hRaster, DHD.hUnder, DHD.FIFO_LEVEL, DHD.hNoMem]

section Run

variable {h : Hub} {n : Fin 4} (idle : h.on HDR.PSTAT_CPEND (0x71 + n) = false) (run : (h.flip n).head n = 3)
include idle run

theorem rd_vblank_apart {F : Fld} {i b : Nat} (dhd : F.kind = Kind.dhd) (apart : ∀ G ∈ blankFlds, G.place ≠ F.place) :
    (h.vblank n).rd F i b = (h.flip n).rd F i b := by
  rw [vblank_of_run idle run, rd_when_of_rd (rd_lackMem_apart dhd (apart _ (by decide))), rd_wr_place (apart _ (by decide)), Hub.blanked]
  iterate 4 rw [rd_wr_place (apart _ (by decide))]
  rw [Hub.wrBit, rd_wr_key (key_ne_of_kind (by rw [dhd]; decide) _ _ _ _), rd_wr_place (apart _ (by decide))]

theorem Hub.Canon.vblank_shows (C : h.Canon) : (h.vblank n).rd DHD.STAT_VBLANK n = 1 ∧ (h.vblank n).bit DSP.VBSTAT_VBLANK n = true := by
  have CF : (h.flip n).Canon := Hub.flip_canon C
  rw [vblank_of_run idle run]
  constructor
  · rw [rd_when_of_rd (rd_lackMem_apart (by decide) (by decide)), rd_wr_place (by decide), Hub.blanked]
    iterate 4 rw [rd_wr_place (by decide)]
    rw [rd_wrBit_place (by decide), CF.rd_wr]
    rfl
  · rw [bit_of_rd (rd_when_of_rd (rd_lackMem_vbstat _ _ _)), bit_of_rd (rd_wr_place (by decide)), Hub.blanked]
    iterate 4 rw [bit_of_rd (rd_wr_place (by decide))]
    exact CF.wr.bit_wrBit n.isLt

end Run

end Sys2Proof.Machine

open Sys2Proof Sys2Proof.Machine

/-- Settles O14, clause by clause, from what each operation leaves in the registers named. -/
theorem headCommandsComplete : Obligations.HeadCommandsComplete := by
  intro s I
  have C : s.hub.Canon := I
  have CL (m : MasterId) : (s.hub.dropLatch m).Canon := C.dropLatch
  refine ⟨?flip, ?fed, ?starved, ?underrun, ?pllLock, ?lockTimeout, ?train, ?trainDone, ?down, ?irq, ?loss, ?arrive, ?aux, ?auxDone⟩
  case flip =>
    intro n k up run idle on ready
    have run' : (s.hub.flip n).head n = 3 := (head_flip_of_ready on ready).trans run
    have flipped {F : Fld} (dhd : F.kind = Kind.dhd) (apart : ∀ G ∈ blankFlds, G.place ≠ F.place) :
        (s.hub.vblank n).rd F n = (s.hub.flip n).rd F n := rd_vblank_apart idle run' dhd apart
    obtain ⟨vblank, vbstat⟩ := C.vblank_shows idle run'
    refine completes_when (p := fun h => h.up (0x71 + n) && h.head n == 3) (f := fun _ h => h.vblank n) rfl (by rw [up, run]; rfl)
      ⟨vblank, vbstat, fun other => ?_, fun valid same => ?_⟩
    · have new : s.hub.showsSlot n k = false := by
        unfold Hub.showsSlot
        rcases other with off | ne
        · rw [off, Bool.false_and]
        · rw [beq_eq_false_iff_ne.2 ne, Bool.and_false]
      rw [flipped (by decide) (by decide), flipped (by decide) (by decide), flipped (by decide) (by decide),
        flipped (by decide) (by decide), flip_of_ready on ready, new, if_neg Bool.false_ne_true]
      exact C.takeSlot_shows n k
    · have shown : s.hub.showsSlot n k = true := by
        unfold Hub.showsSlot
        rw [valid, same, beq_self_eq_true]
        rfl
      rw [flipped (by decide) (by decide), flip_of_ready on ready, shown, if_pos rfl]
      exact C.rd_repeatSlot_age n
  case fed =>
    exact fun n low up run served fed => completes_when (p := fun h => h.up (0x71 + n) && h.head n == 3)
      (f := fun _ h => h.activeEnd n low) rfl (by rw [up, run]; rfl) (C.activeEnd_fed n low served fed)
  case starved =>
    exact fun n low up run lack => completes_when (p := fun h => h.up (0x71 + n) && h.head n == 3)
      (f := fun _ h => h.activeEnd n low) rfl (by rw [up, run]; rfl) (C.activeEnd_starved n low lack)
  case underrun =>
    exact fun n line pixel up run first => completes_when (p := fun h => h.up (0x71 + n) && h.head n == 3)
      (f := fun _ h => h.headUnderrun n line pixel) rfl (by rw [up, run]; rfl) (C.headUnderrun_shows n first line pixel)
  case pllLock =>
    exact fun n up locking => completes_when (p := fun h => h.up (0x71 + n) && h.head n == 1)
      (f := fun _ h => (h.headLocked n).waitLink n) rfl (by rw [up, locking]; rfl) (C.headLocked_shows n)
  case lockTimeout =>
    exact fun n up locking => completes_when (p := fun h => h.up (0x71 + n) && h.head n == 1)
      (f := fun _ h => (h.setHead n 4).raise (0x71 + n) 5) rfl (by rw [up, locking]; rfl)
      ⟨(Hub.raise_rd (by decide)).trans (C.head_setHead (by decide)),
        (Hub.setHead_canon C).bit_raise (secondPage_head n) (by decide)⟩
  case train =>
    intro r n A rate rate' idle
    obtain ⟨state, rate0, -, waits⟩ := (CL r.master).setLink_shows (n := n) (st := 1) (by decide) (by decide)
    refine completes_go (f := fun h => h.dpTrain n (Hub.regCap r DPT.CTL_TRAIN n)) rfl A ?_
    unfold Hub.head
    rw [Hub.written_rd, Hub.written_rd, Hub.written_rd, dpTrain_eq (h := s.hub.dropLatch r.master) rate rate' idle]
    exact ⟨state, rate0, waits⟩
  case trainDone =>
    intro n ok rate lanes up training
    refine completes_when (p := fun h => h.up (0x78 + n) && h.rd DPT.STAT_STATE n == 1) (f := fun _ h => h.dpTrainDone n ok rate lanes)
      rfl (by rw [up, training]; rfl) ⟨C.dpTrainDone_good, fun bad => ?_⟩
    rw [dpTrainDone_eq, bad, if_neg Bool.false_ne_true]
    exact C.linkFails_shows n (by decide)
  case down =>
    exact fun r n A => completes_go (f := fun h => h.setLink n 0) rfl A ((CL r.master).setLink_shows (by decide) (by decide))
  case irq =>
    exact fun n lost again up => completes_when (p := fun h => h.up (0x78 + n)) (f := fun _ h => h.hpdIrq n lost again) rfl up
      (C.hpdIrq_shows n lost again)
  case loss =>
    exact fun n up => completes_when (p := fun h => h.up (0x78 + n)) (f := fun _ h => h.hpdLost n) rfl up (C.hpdLost_shows n)
  case arrive =>
    exact fun n up => completes_when (p := fun h => h.up (0x78 + n)) (f := fun _ h => h.wr DPT.HPDEV_ARRIVE 1 n |>.wr DPT.STAT_HPD 1 n)
      rfl up ⟨(rd_wr_place (by decide)).trans C.rd_wr, C.wr.rd_wr⟩
  case aux =>
    exact fun r n v G up go idle => completes_reg (f := fun h => h.auxWrite n v) rfl G
      (Hub.Canon.auxWrite_shows (CL r.master) go up idle)
  case auxDone =>
    exact fun n ok reply count data up busy => completes_when (p := fun h => h.up (0x78 + n) && h.rd DPT.AUXSTAT_DONE n == 1)
      (f := fun _ h => h.auxEnd n ok reply count data) rfl (by rw [up, busy]; rfl) (C.auxEnd_shows n ok reply count data)
end

section
/-! PROOFS. What a step is: the command at the queue's front, or one tick of the clock; and no word that spells a command. -/

open Sys2Proof Sys2Proof.Machine

/-- Settles O53: a step is defined so. -/
theorem stepRunsTheFrontCommand : Obligations.StepRunsTheFrontCommand := fun _ _ _ => rfl

/-- Settles O54: with no command at the front, a step is the tick. -/
theorem idleStepTicksTheClock : Obligations.IdleStepTicksTheClock := by
  rintro ⟨hub, pending⟩ idle
  obtain rfl : pending = [] := idle
  rfl

/-- Settles O55: the table has no row with bits to match. -/
theorem noWordSpellsACommand : Obligations.NoWordSpellsACommand := fun _ _ _ => ⟨rfl, rfl⟩
end

section
/-! PROOFS. Node time, the functions of balls, and general timers (R705, R711 to R714). -/

namespace Sys2Proof.Machine

open Sys2Proof

/-! ### Bits that a write elsewhere leaves alone -/

theorem bit_wr_place {h : Hub} {F G : Fld} {v n i b j c : Nat} (e : F.place ≠ G.place) :
    (h.wr F v i b).bit G n j c = h.bit G n j c := bit_of_rd (rd_wr_place e)

theorem bit_cnt_place {h : Hub} {F G : Fld} {n i b j c : Nat} (e : F.place ≠ G.place) :
    (h.cnt F i b).bit G n j c = h.bit G n j c := bit_of_rd (rd_cnt_place e)

/-! ### Balls (R712) -/

/-- The function that a ball is given stands, where the ball is free or has it. -/
theorem Hub.Canon.ballWrite_given {h : Hub} (C : h.Canon) {v b : Nat} (x : Cap) (sel : h.rd GPX.BSEL_BALL = b) (small : b < 24)
    (free : bits v 0 2 = 0 ∨ h.rd GPX.BFUNC_FUNC 0 b = 0 ∨ h.rd GPX.BFUNC_FUNC 0 b = bits v 0 2) :
    let g := h.ballWrite v x
    g.rd GPX.BFUNC_FUNC 0 b = bits v 0 2 ∧ g.rd GPX.BFUNC_DIR 0 b = bits v GPX.BFUNC_DIR.lo GPX.BFUNC_DIR.w ∧
      g.rd GPX.BFUNC_OUT 0 b = bits v GPX.BFUNC_OUT.lo GPX.BFUNC_OUT.w := by
  have given : ¬(bits v 0 2 ≠ 0 ∧ h.rd GPX.BFUNC_FUNC 0 b ≠ 0 ∧ h.rd GPX.BFUNC_FUNC 0 b ≠ bits v 0 2) :=
    fun ⟨a, b, c⟩ => free.elim a fun d => d.elim b c
  unfold Hub.ballWrite
  rw [sel, if_neg (Nat.not_le.2 small), if_neg given]
  simp +decide only [List.foldl_cons, List.foldl_nil, rd_wr_place, C.rd_wr, C.wr.rd_wr, C.wr.wr.rd_wr]
  exact ⟨Nat.mod_mod _ _, Nat.mod_mod _ _, Nat.mod_mod _ _⟩

/-- A ball that has another function keeps it, and the first conflict is recorded. -/
theorem Hub.Canon.ballWrite_refused {h : Hub} (C : h.Canon) {v b : Nat} (x : Cap) (sel : h.rd GPX.BSEL_BALL = b) (small : b < 24)
    (asked : bits v 0 2 ≠ 0) (held : h.rd GPX.BFUNC_FUNC 0 b ≠ 0) (other : h.rd GPX.BFUNC_FUNC 0 b ≠ bits v 0 2) :
    let g := h.ballWrite v x
    g.rd GPX.BFUNC_FUNC 0 b = h.rd GPX.BFUNC_FUNC 0 b ∧ g.bit HDR.ESTAT 0 0xD0 = true ∧
      (h.on GPX.CONFLICT_VALID = false →
        g.rd GPX.CONFLICT_VALID = 1 ∧ g.rd GPX.CONFLICT_BALL = b ∧ g.rd GPX.CONFLICT_ASKED = bits v 0 2) := by
  unfold Hub.ballWrite
  rw [sel, if_neg (Nat.not_le.2 small), if_pos ⟨asked, held, other⟩]
  refine ⟨?_, Hub.Canon.bit_raise (C.when C.wr.wr.wr.wr) rfl (by decide), fun first => ?_⟩
  · rw [Hub.raise_rd (by decide)]
    refine rd_when_of_rd ?_
    simp +decide only [rd_wr_place]
  · rw [first, Bool.not_false, Hub.when_true]
    simp +decide only [Hub.raise_rd, rd_wr_place, C.rd_wr, C.wr.rd_wr, C.wr.wr.wr.rd_wr]
    exact ⟨trivial, Nat.mod_eq_of_lt (Nat.lt_trans small (by decide)), Nat.mod_mod _ _⟩

/-! ### General timers (R713, R714) -/

theorem Hub.Canon.timerTake_shows {h : Hub} (C : h.Canon) {t : Nat} (m : MasterId) (v : Nat) (x : Cap) (sel : h.rd TMR.TSEL_TIMER = t) :
    let g := h.timerTake m (v % 256) x
    (h.on TMR.TCLAIM_HELD 0 t = false → g.rd TMR.TCLAIM_HELD 0 t = 1 ∧ g.rd TMR.TCLAIM_OWNER 0 t = v % 256 ∧
      g.rd TMR.TCLAIM_MASTER 0 t = masterNum m) ∧
    (h.on TMR.TCLAIM_HELD 0 t = true → g.bit HDR.ESTAT 0 0xD1 = true ∧ g.rd TMR.TCLAIM_OWNER 0 t = h.rd TMR.TCLAIM_OWNER 0 t) := by
  unfold Hub.timerTake
  rw [sel]
  dsimp only
  constructor <;> intro held
  · rw [held, if_neg Bool.false_ne_true]
    simp +decide only [rd_wrBit_place, rd_wr_place, C.rd_wr, C.wr.rd_wr, C.wr.wr.rd_wr]
    exact ⟨trivial, Nat.mod_mod _ _, by cases m <;> rfl⟩
  · rw [held, if_pos rfl]
    exact ⟨C.bit_raise rfl (by decide), Hub.raise_rd (by decide)⟩

theorem Hub.Canon.timerGive_shows {h : Hub} (C : h.Canon) {t : Nat} (m : MasterId) (x : Cap) (sel : h.rd TMR.TSEL_TIMER = t) :
    let g := h.timerGive m x
    (h.timerHeld m t = true → g.rd TMR.TCLAIM_HELD 0 t = 0 ∧ g.rd TMR.TCFG_EN 0 t = 0) ∧
    (h.timerHeld m t = false → g.bit HDR.ESTAT 1 0xD1 = true ∧ g.rd TMR.TCLAIM_HELD 0 t = h.rd TMR.TCLAIM_HELD 0 t) := by
  unfold Hub.timerGive
  rw [sel]
  dsimp only
  constructor <;> intro held
  · rw [held, Bool.not_true, if_neg Bool.false_ne_true]
    simp +decide only [rd_wrBit_place, rd_wr_place, C.rd_wr, C.wr.rd_wr, Nat.zero_mod, and_self]
  · rw [held, Bool.not_false, if_pos rfl]
    exact ⟨C.bit_raise rfl (by decide), Hub.raise_rd (by decide)⟩

/-- The interrupt and the output of timer `t` at 0. -/
def Hub.timerRings (h : Hub) (t : Nat) : Hub :=
  (h.irq 0xD1 t).when (h.on TMR.TCFG_OUTEN 0 t) fun h => h.wr TMR.hOut (1 - h.rd TMR.hOut 0 t) 0 t

theorem timerExpire_eq (h : Hub) (t : Nat) : h.timerExpire t =
    if h.rd TMR.TCFG_MODE 0 t = 1 then (h.timerRings t).wr TMR.TCOUNT_COUNT (h.rd TMR.TLOAD_COUNT 0 t) 0 t
    else (h.timerRings t).wr TMR.TCOUNT_COUNT 0 0 t |>.wr TMR.hStop 1 0 t := rfl

theorem Hub.Canon.timerRings {h : Hub} (C : h.Canon) {t : Nat} : (h.timerRings t).Canon :=
  Hub.Canon.when (Hub.irq_canon C) (Hub.irq_canon C).wr

theorem Hub.Canon.bit_timerRings {h : Hub} (C : h.Canon) {t : Nat} (small : t < 16) : (h.timerRings t).bit HDR.ISTAT t 0xD1 = true :=
  (bit_of_rd (rd_when_of_rd (rd_wr_place (by decide)))).trans (C.bit_irq rfl (by omega))

/-- An output that is enabled changes its level. -/
theorem Hub.Canon.rd_timerRings {h : Hub} (C : h.Canon) {t : Nat} (out : h.on TMR.TCFG_OUTEN 0 t = true) :
    (h.timerRings t).rd TMR.hOut 0 t = 1 - h.rd TMR.hOut 0 t := by
  unfold Hub.timerRings
  rw [out, Hub.when_true, (Hub.irq_canon C).rd_wr, rd_irq_place (by decide)]
  exact Nat.mod_eq_of_lt (Nat.lt_of_le_of_lt (Nat.sub_le _ _) (by decide))

theorem Hub.Canon.timerExpire_shows {h : Hub} (C : h.Canon) (t : Fin 16) :
    let g := h.timerExpire t
    g.bit HDR.ISTAT t 0xD1 = true ∧
      (h.rd TMR.TCFG_MODE 0 t = 1 → g.rd TMR.TCOUNT_COUNT 0 t = h.rd TMR.TLOAD_COUNT 0 t % 2 ^ 32) ∧
      (h.rd TMR.TCFG_MODE 0 t ≠ 1 → g.rd TMR.TCOUNT_COUNT 0 t = 0 ∧ g.rd TMR.hStop 0 t = 1) ∧
      (h.on TMR.TCFG_OUTEN 0 t = true → g.rd TMR.hOut 0 t = 1 - h.rd TMR.hOut 0 t) := by
  have C' : (h.timerRings t).Canon := C.timerRings
  rw [timerExpire_eq]
  by_cases reload : h.rd TMR.TCFG_MODE 0 t = 1
  · rw [if_pos reload]
    refine ⟨(bit_wr_place (by decide)).trans (C.bit_timerRings t.isLt), fun _ => C'.rd_wr, fun once => absurd reload once, fun out => ?_⟩
    rw [rd_wr_place (by decide), C.rd_timerRings out]
  · rw [if_neg reload]
    refine ⟨?_, fun again => absurd again reload, fun _ => ⟨(rd_wr_place (by decide)).trans C'.rd_wr, C'.wr.rd_wr⟩, fun out => ?_⟩
    · rw [bit_wr_place (by decide), bit_wr_place (by decide), C.bit_timerRings t.isLt]
    · rw [rd_wr_place (by decide), rd_wr_place (by decide), C.rd_timerRings out]

end Sys2Proof.Machine

open Sys2Proof Sys2Proof.Machine

/-- Settles O30, clause by clause, from what each operation leaves in the registers named. -/
theorem timerAndBallCommandsComplete : Obligations.TimerAndBallCommandsComplete := by
  intro s I
  have C : s.hub.Canon := I
  have CL (m : MasterId) : (s.hub.dropLatch m).Canon := C.dropLatch
  refine ⟨?set, ?given, ?refused, ?claim, ?release, ?expiry, ?capture⟩
  case set =>
    exact fun r A => completes_go (f := fun h => h.wr TOP.hSetNow 1) rfl A
      ((CL r.master).rd_wr (v := 1))
  case given =>
    exact fun r v b G sel small free => completes_reg (f := fun h => h.ballWrite v (Hub.regCap r GPX.BFUNC_FUNC 0)) rfl G
      ((CL r.master).ballWrite_given _ sel small free)
  case refused =>
    exact fun r v b G sel small asked held other =>
      completes_reg (f := fun h => h.ballWrite v (Hub.regCap r GPX.BFUNC_FUNC 0)) rfl G
        ((CL r.master).ballWrite_refused _ sel small asked held other)
  case claim =>
    exact fun r v t A sel => completes_go (f := fun h => h.timerTake r.master (v % 256) (Hub.regCap r TMR.TCLAIM_CLAIM 0)) rfl A
      ((CL r.master).timerTake_shows _ _ _ sel)
  case release =>
    exact fun r t A sel => completes_go (f := fun h => h.timerGive r.master (Hub.regCap r TMR.TCLAIM_RELEASE 0)) rfl A
      ((CL r.master).timerGive_shows _ _ sel)
  case expiry =>
    exact fun t up en mode go => completes_when
      (p := fun h => h.up 0xD1 && h.on TMR.TCFG_EN 0 t && h.rd TMR.TCFG_MODE 0 t != 2 && !h.on TMR.hStop 0 t)
      (f := fun _ h => h.timerExpire t) rfl (by rw [up, en, go, bne_iff_ne.2 mode]; rfl) (C.timerExpire_shows t)
  case capture =>
    exact fun t up en mode ball => completes_when
      (p := fun h => h.up 0xD1 && h.on TMR.TCFG_EN 0 t && h.rd TMR.TCFG_MODE 0 t == 2 && h.timerBall t)
      (f := fun _ h => (h.wr TMR.TCAP_COUNT (h.rd TMR.TCOUNT_COUNT 0 t) 0 t).irq 0xD1 t) rfl (by rw [up, en, mode, ball]; rfl)
      ⟨(rd_irq_place (by decide)).trans C.rd_wr, C.wr.bit_irq rfl (by omega)⟩
end

section
/-! PROOFS. Buffers in the register window: the words of a byte string written to a run of registers, and read back. -/

namespace Sys2Proof.Machine

open Sys2Proof

/-! ### Words and bytes -/

theorem padTo_self (bs : Bytes) : padTo bs.length bs = bs := by
  simp [padTo]

theorem padTo_of_le {n : Nat} {bs : Bytes} (h : bs.length ≤ n) : padTo n bs = bs ++ List.replicate (n - bs.length) 0 :=
  List.take_of_length_le (by simp; omega)

theorem take_padTo {n : Nat} {bs : Bytes} (h : bs.length ≤ n) : (padTo n bs).take bs.length = bs := by
  rw [padTo_of_le h, List.take_append_of_le_length le_rfl, List.take_length]

theorem padTo_cons (n : Nat) (b : Byte) (bs : Bytes) : padTo (n + 1) (b :: bs) = b :: padTo n bs := by
  simp [padTo]

theorem padTo_nil_succ (n : Nat) : padTo (n + 1) [] = 0 :: padTo n [] := by
  simp [padTo, List.replicate_succ]

theorem natLe_leNat (n : Nat) (bs : Bytes) : natLe n (leNat bs) = padTo n bs := by
  induction n generalizing bs with
  | zero => simp [natLe, padTo]
  | succ n ih =>
    cases bs with
    | nil => rw [padTo_nil_succ, ← ih]; rfl
    | cons b bs =>
      have byte : b.toNat < 256 := b.isLt
      rw [padTo_cons, ← ih, leNat, natLe]
      congr 1
      · exact BitVec.eq_of_toNat_eq (by rw [BitVec.toNat_ofNat]; omega)
      · rw [show (b.toNat + 256 * leNat bs) / 256 = leNat bs by omega]

theorem padTo_take (n : Nat) (bs : Bytes) : padTo n (bs.take n) = padTo n bs := by
  rcases le_total n bs.length with h | h
  · simp [padTo, h]
  · rw [List.take_of_length_le h]

theorem padTo_add (m n : Nat) (bs : Bytes) : padTo m bs ++ padTo n (bs.drop m) = padTo (m + n) bs := by
  induction m generalizing bs with
  | zero => simp [padTo]
  | succ m ih =>
    rw [Nat.succ_add]
    cases bs with
    | nil => rw [padTo_nil_succ, padTo_nil_succ, ← ih, List.drop_nil, List.drop_nil]; rfl
    | cons b bs => rw [padTo_cons, padTo_cons, ← ih, List.drop_succ_cons]; rfl

/-- The words of a byte string spell it. -/
theorem ofWords_toWords (n : Nat) (bs : Bytes) : ofWords (toWords n bs) = padTo (4 * n) bs := by
  induction n generalizing bs with
  | zero => simp [toWords, ofWords, padTo]
  | succ n ih =>
    rw [toWords, ofWords, List.flatMap_cons, ← ofWords, ih, natLe_leNat, padTo_take, padTo_add, Nat.mul_succ, Nat.add_comm 4]

theorem length_ofWords (ws : List Nat) : (ofWords ws).length = 4 * ws.length := by
  induction ws with
  | nil => rfl
  | cons w ws ih =>
    rw [ofWords, List.flatMap_cons, ← ofWords, List.length_append, ih, length_natLe, List.length_cons]
    omega

theorem le_four_ceilDiv (n : Nat) : n ≤ 4 * ceilDiv n 4 := by
  unfold ceilDiv
  omega

theorem length_bufBytes (h : Hub) (F : Fld) (n : Nat) : (h.bufBytes F n).length = n := by
  rw [Hub.bufBytes, List.length_take, length_ofWords, List.length_map, List.length_range]
  exact min_eq_left (le_four_ceilDiv n)

/-! ### The words of a buffer -/

/-- Different words of a buffer have places of their own. -/
theorem word_place_ne {F : Fld} {j k : Nat} (hj : j < 1024) (hk : k < 1024) (e : j ≠ k) : (F.word j).place ≠ (F.word k).place := by
  unfold Fld.place Fld.key Fld.word
  dsimp only
  rw [Nat.mod_eq_of_lt hj, Nat.mod_eq_of_lt hk]
  omega

/-- Field `G` lies outside the first `n` words of buffer `F`. -/
abbrev Fld.Outside (G F : Fld) (n : Nat) : Prop :=
  n ≤ 1024 ∧ F.pg < 1024 ∧ G.pg < 1024 ∧ F.off + 4 * n ≤ 8192 ∧ G.off < 8192 ∧ F.lo = 0 ∧ G.lo < 32 ∧
    (F.pg ≠ G.pg ∨ G.off < F.off ∨ F.off + 4 * n ≤ G.off)

theorem place_ne_of_outside {F G : Fld} {n j : Nat} (out : G.Outside F n) (hj : j < n) : (F.word j).place ≠ G.place := by
  obtain ⟨small, hF, hG, fits, hoff, lo, hlo, apart⟩ := out
  have inside : j < 1024 := by omega
  unfold Fld.place Fld.key Fld.word
  dsimp only
  rw [Nat.mod_eq_of_lt inside, lo]
  omega

/-- The words of a byte string, each with its number. -/
theorem zipIdx_toWords (n : Nat) (bs : Bytes) : (toWords n bs).zipIdx = (List.range n).map fun j => (leAt bs (4 * j) 4, j) := by
  rw [toWords_eq, List.zipIdx_eq_zip_range', List.length_map, List.length_range, ← List.range_eq_range']
  exact (congrArg (List.zip (List.map (fun j => leAt bs (4 * j) 4) (List.range n))) (List.map_id _).symm).trans List.zip_map'

/-- A buffer is written word by word. -/
theorem setBuf_eq (h : Hub) (F : Fld) (bs : Bytes) :
    h.setBuf F bs = h.each (List.range (ceilDiv bs.length 4)) fun j h => h.wr (F.word j) (leAt bs (4 * j) 4) := by
  unfold Hub.setBuf Hub.each
  rw [zipIdx_toWords, List.foldl_map]

theorem Hub.Canon.setBuf {h : Hub} (C : h.Canon) {F : Fld} {bs : Bytes} : (h.setBuf F bs).Canon := by
  rw [setBuf_eq]
  exact keep_each (fun _ _ C => C.wr) C

theorem rd_setBuf_apart {h : Hub} {F G : Fld} {bs : Bytes} {i b : Nat}
    (apart : ∀ j < ceilDiv bs.length 4, (F.word j).place ≠ G.place) : (h.setBuf F bs).rd G i b = h.rd G i b := by
  rw [setBuf_eq]
  exact keep_each_mem (P := fun g => g.rd G i b = h.rd G i b)
    (fun j hj g same => (rd_wr_place (apart j (List.mem_range.1 hj))).trans same) rfl

theorem rd_setBuf_outside {h : Hub} {F G : Fld} {bs : Bytes} {n i b : Nat} (len : bs.length ≤ 4 * n) (out : G.Outside F n) :
    (h.setBuf F bs).rd G i b = h.rd G i b :=
  rd_setBuf_apart fun j hj => place_ne_of_outside out (lt_of_lt_of_le hj (by unfold ceilDiv; omega))

/-- A word written reads as its four bytes. -/
theorem Hub.Canon.rd_setBuf {h : Hub} (C : h.Canon) {F : Fld} (w : F.w = 32) {bs : Bytes} (len : bs.length ≤ 4096) {j : Nat}
    (hj : j < ceilDiv bs.length 4) : (h.setBuf F bs).rd (F.word j) = leAt bs (4 * j) 4 := by
  have small : ceilDiv bs.length 4 ≤ 1024 := by unfold ceilDiv; omega
  rw [setBuf_eq]
  refine (keep_foldl_of_mem (C := Hub.Canon) (Q := fun g => g.rd (F.word j) = leAt bs (4 * j) 4)
    (fun _ _ _ C => C.wr) (fun g k hk ne _ e => ?_) (fun _ C => C.rd_wr.trans ?_) C (List.mem_range.2 hj)).2
  · exact (rd_wr_place (word_place_ne ((List.mem_range.1 hk).trans_le small) (hj.trans_le small) ne)).trans e
  · show leAt bs (4 * j) 4 % 2 ^ F.w = _
    rw [w]
    exact Nat.mod_eq_of_lt (leAt_lt bs (4 * j) 4)

/-- A buffer reads as the bytes written to it. -/
theorem Hub.Canon.bufBytes_setBuf {h : Hub} (C : h.Canon) {F : Fld} (w : F.w = 32) {bs : Bytes} (len : bs.length ≤ 4096) {n : Nat}
    (le : n ≤ bs.length) : (h.setBuf F bs).bufBytes F n = bs.take n := by
  have words : (List.range (ceilDiv n 4)).map (fun j => (h.setBuf F bs).rd (F.word j)) = toWords (ceilDiv n 4) bs := by
    rw [toWords_eq]
    refine List.map_congr_left fun j hj => C.rd_setBuf w len (lt_of_lt_of_le (List.mem_range.1 hj) ?_)
    unfold ceilDiv
    omega
  rw [Hub.bufBytes, words, ofWords_toWords]
  rcases le_total (4 * ceilDiv n 4) bs.length with h4 | h4
  · rw [padTo, List.take_take, min_eq_left (le_four_ceilDiv n), List.take_append_of_le_length le]
  · rw [padTo_of_le h4, List.take_append_of_le_length le]

/-- A buffer none of whose words moves reads as before. -/
theorem bufBytes_congr {g h : Hub} {F : Fld} {n : Nat} (same : ∀ j < ceilDiv n 4, g.rd (F.word j) = h.rd (F.word j)) :
    g.bufBytes F n = h.bufBytes F n := by
  unfold Hub.bufBytes
  rw [List.map_congr_left fun j hj => same j (List.mem_range.1 hj)]

end Sys2Proof.Machine
end

section
/-! PROOFS. Register commands whose effect waits on a condition, and bits that stay set. -/

namespace Sys2Proof.Machine

open Sys2Proof

/-- A granted register command whose effect waits on `p`. -/
theorem completes_reg_when {c : Instr} {s : State} {r : Req} {F : Fld} {i : Nat} {p : Hub → Bool} {f : Hub → Hub → Hub}
    {Q : Hub → Prop} (e : exec c s = s.act fun h => h.asReg r F i fun h => h.when (p h) (f h)) (g : s.hub.Grants r F i)
    (hp : p (s.hub.dropLatch r.master) = true) (q : Q (s.hub.written r fun h => f h h)) : Completes c s Q := by
  refine completes_reg e g ?_
  unfold Hub.written at q ⊢
  dsimp only
  rw [hp, Hub.when_true]
  exact q

/-- The same where the condition fails. -/
theorem completes_reg_idle {c : Instr} {s : State} {r : Req} {F : Fld} {i : Nat} {p : Hub → Bool} {f : Hub → Hub → Hub}
    {Q : Hub → Prop} (e : exec c s = s.act fun h => h.asReg r F i fun h => h.when (p h) (f h)) (g : s.hub.Grants r F i)
    (hp : p (s.hub.dropLatch r.master) = false) (q : Q (s.hub.written r id)) : Completes c s Q := by
  refine completes_reg e g ?_
  unfold Hub.written at q ⊢
  dsimp only
  rw [hp, Hub.when_false]
  exact q

/-- A granted register command whose effect on the writer's node is known. -/
theorem completes_reg_to {c : Instr} {s : State} {r : Req} {F : Fld} {i : Nat} {f : Hub → Hub} {k : Hub} {Q : Hub → Prop}
    (e : exec c s = s.act fun h => h.asReg r F i f) (g : s.hub.Grants r F i) (step : f (s.hub.dropLatch r.master) = k)
    (q : Q (s.hub.written r fun _ => k)) : Completes c s Q := by
  refine completes_reg e g ?_
  unfold Hub.written at q ⊢
  rw [step]
  exact q

/-- A bit that is set stays set where bits of its register are set. -/
theorem Hub.Canon.bit_wrBit_of_bit {h : Hub} (C : h.Canon) {F : Fld} {n m i j : Nat} (hm : m < F.w) (e : h.bit F m j = true) :
    (h.wrBit F n true i).bit F m j = true := by
  by_cases k : i = j
  · subst k
    by_cases z : n = m
    · subst z; exact C.bit_wrBit hm
    · rw [C.bit_wrBit_ne z hm]; exact e
  · unfold Hub.bit Hub.wrBit
    rw [rd_wr_inst (by omega)]
    exact e

/-- An interrupt bit that is set stays set when another event occurs. -/
theorem Hub.Canon.bit_irq_of_bit {h : Hub} (C : h.Canon) {pg q n m : Nat} (hm : m < 32) (e : h.bit HDR.ISTAT m q = true) :
    (h.irq pg n).bit HDR.ISTAT m q = true := by
  unfold Hub.irq
  split
  · exact e
  · exact C.bit_wrBit_of_bit hm e

theorem bit_when_of_bit {h : Hub} {c : Bool} {f : Hub → Hub} {F : Fld} {n i : Nat} (e : h.bit F n i = true)
    (e' : (f h).bit F n i = true) : (h.when c f).bit F n i = true := by
  cases c
  · exact e
  · exact e'

end Sys2Proof.Machine
end

section
/-! PROOFS. The access table's entries, and the claim of the node (R643, R688). -/

namespace Sys2Proof.Machine

open Sys2Proof

/-! ### Entries of the access table (R643) -/

/-- A first, enabled error captures its address (R38). -/
theorem Hub.Canon.rd_raise_addrLo {h : Hub} (C : h.Canon) {pg n a : Nat} {x : Cap} (p : secondPage pg = false)
    (nd : pg < 0x70 ∨ 0x7B < pg) (en : h.bit HDR.EEN n pg = true) (new : h.bit HDR.ESTAT n pg = false)
    (free : h.on HDR.ECAP_VALID pg = false) (ha : x.lo = some a) : (h.raise pg n x).rd HDR.ECAP_ADDR_LO pg = a % 2 ^ 32 := by
  have free' : (h.wrBit HDR.ESTAT n true pg).on HDR.ECAP_VALID pg = false := by
    unfold Hub.on
    rw [rd_wrBit_place (by decide)]
    exact free
  rw [raise_of_first p new en nd, rd_startEsc (by decide) (by decide), rd_irq_place (by decide)]
  exact C.wrBit.rd_capture_addrLo free' ha

/-- The entry that a write of `v` to EW7 would apply: the words staged, without their reserved bits. -/
def Hub.actStaged (h : Hub) (v : Nat) : List Nat :=
  (List.range 8).map fun w => (if w = 7 then v else h.rd (ACT.EW.word w)) &&& Hub.actMask w

/-- An error of the access table that refuses an entry: its bit, and the entry's number where it is captured. -/
theorem Hub.Canon.actRefuse_shows {h : Hub} (C : h.Canon) {n e : Nat} (v : Nat) (x : Cap) (hn : n < 32) :
    let g := (h.wr ACT.EW7_DATA v).raise 8 n { x with lo := some e }
    g.tab = h.tab ∧ g.bit HDR.ESTAT n 8 = true ∧
      (h.bit HDR.EEN n 8 = true ∧ h.bit HDR.ESTAT n 8 = false ∧ h.on HDR.ECAP_VALID 8 = false →
        g.rd HDR.ECAP_ADDR_LO 8 = e % 2 ^ 32) := by
  refine ⟨Hub.raise_same.tab (by decide), C.wr.bit_raise rfl hn, fun ⟨en, new, free⟩ => ?_⟩
  have same {F : Fld} (apart : ACT.EW7_DATA.place ≠ F.place) : (h.wr ACT.EW7_DATA v).rd F 8 = h.rd F 8 := rd_wr_place apart
  refine C.wr.rd_raise_addrLo rfl (by decide) ((bit_of_rd (same (by decide))).trans en) ((bit_of_rd (same (by decide))).trans new) ?_ rfl
  rw [Hub.on, same (by decide)]
  exact free

theorem actWrite_of_locked {h : Hub} {v : Nat} {x : Cap} (locked : h.actLocked (h.rd ACT.ESEL_ENTRY) = true) :
    h.actWrite v x = (h.wr ACT.EW7_DATA v).raise 8 1 { x with lo := some (h.rd ACT.ESEL_ENTRY) } := by
  unfold Hub.actWrite
  dsimp only
  rw [locked, if_pos rfl]

theorem actWrite_of_bad {h : Hub} {v : Nat} {x : Cap} (unlocked : h.actLocked (h.rd ACT.ESEL_ENTRY) = false)
    (bad : Hub.actBad (h.actStaged v) = true) :
    h.actWrite v x = (h.wr ACT.EW7_DATA v).raise 8 2 { x with lo := some (h.rd ACT.ESEL_ENTRY) } := by
  unfold Hub.actStaged at bad
  unfold Hub.actWrite
  dsimp only
  rw [unlocked, if_neg Bool.false_ne_true, bad, if_pos rfl]

/-- An entry that breaks no limit is applied whole. -/
theorem Hub.Canon.twords_actWrite {h : Hub} (C : h.Canon) {v : Nat} (x : Cap) (unlocked : h.actLocked (h.rd ACT.ESEL_ENTRY) = false)
    (good : Hub.actBad (h.actStaged v) = false) :
    (h.actWrite v x).twords (0x5C0000 + 32 * h.rd ACT.ESEL_ENTRY) 8 = (h.actStaged v).map (· % 2 ^ 32) := by
  have run := Tab.getRun_putRun_same 0 ((h.actStaged v).map (· % 2 ^ 32)) ((0x5C0000 + 32 * h.rd ACT.ESEL_ENTRY) / 4) C.tab.1
  unfold Hub.actStaged at good run ⊢
  rw [List.length_map, List.length_map, List.length_range] at run
  unfold Hub.actWrite
  dsimp only
  rw [unlocked, if_neg Bool.false_ne_true, good, if_neg Bool.false_ne_true]
  exact run

/-- The limits of an entry that is enabled (R643). -/
abbrev actBreaks (ws : List Nat) : Prop :=
  ws.getD 1 0 < ws.getD 0 0 ∨ bits (ws.getD 3 0) 16 2 = 3 ∨ bits (ws.getD 4 0) 2 2 = 3 ∨ bits (ws.getD 2 0) 0 10 = 0 ∨
    bits (ws.getD 3 0) 16 2 = 0 ∧ 0x7FF < ws.getD 1 0

theorem actBad_iff (ws : List Nat) : Hub.actBad ws = true ↔ (ws.getD 7 0).testBit 0 = true ∧ actBreaks ws := by
  simp only [Hub.actBad, actBreaks, Bool.and_eq_true, Bool.or_eq_true, beq_iff_eq, decide_eq_true_eq, or_assoc]

end Sys2Proof.Machine

open Sys2Proof Sys2Proof.Machine

/-- Settles O44, from the three ways that a write of EW7 ends. -/
theorem accessEntriesAreAppliedOrRefusedWhole : Obligations.AccessEntriesAreAppliedOrRefusedWhole := by
  intro s I
  have C : s.hub.Canon := I
  have CL (m : MasterId) : (s.hub.dropLatch m).Canon := C.dropLatch
  refine ⟨?locked, ?bad, ?good⟩
  case locked =>
    intro r v G locked
    exact completes_reg_to (f := fun h => h.actWrite v (Hub.regCap r ACT.EW7_DATA 0)) rfl G (actWrite_of_locked locked)
      ((CL r.master).actRefuse_shows v (Hub.regCap r ACT.EW7_DATA 0) (by decide))
  case bad =>
    rintro r v ws G unlocked rfl enabled breaks
    exact completes_reg_to (f := fun h => h.actWrite v (Hub.regCap r ACT.EW7_DATA 0)) rfl G
      (actWrite_of_bad unlocked ((actBad_iff _).2 ⟨enabled, breaks⟩))
      ((CL r.master).actRefuse_shows v (Hub.regCap r ACT.EW7_DATA 0) (by decide))
  case good =>
    rintro r v ws G unlocked rfl holds
    refine completes_reg (f := fun h => h.actWrite v (Hub.regCap r ACT.EW7_DATA 0)) rfl G
      ((CL r.master).twords_actWrite _ unlocked (Bool.eq_false_iff.2 fun bad => ?_))
    obtain ⟨enabled, breaks⟩ := (actBad_iff _).1 bad
    rcases holds with disabled | ⟨range, r3, r4, r2, low⟩
    · exact absurd enabled (by rw [Bool.eq_false_iff] at disabled; exact disabled)
    · rcases breaks with b | b | b | b | ⟨b, above⟩
      · exact absurd b (Nat.not_lt.2 range)
      · exact r3 b
      · exact r4 b
      · exact r2 b
      · rcases low with z | le
        · exact z b
        · exact absurd above (Nat.not_lt.2 le)
end

section
/-! PROOFS. The claim (R688): what its commands leave, and that no access rests on it (R716). -/

namespace Sys2Proof.Machine

open Sys2Proof

/-! ### What the checks of an access rest on -/

/-- The registers that the checks of an access read. -/
def checkFlds : List Fld := [CLK.GSTAT_RUN, CLK.hUnlocked, CLK.PLLEN_EN, PDM.DOMON_ON, LCS.STATE_LC, LCS.STAT_DONE, DBG.STAT_STATE,
  ACT.CFG_LOADED, CAS.CROWN_NODE, CAS.CROWN_STANDBY, CAS.CROWN_VALID, CAS.CROWN_S_VALID]

/-- A write of any other register leaves every check as it is. -/
theorem check_wr {h : Hub} {F : Fld} {v i b : Nat} (apart : ∀ G ∈ checkFlds, F.place ≠ G.place) (r : Req) (w : Bool) (addr size : Nat) :
    (h.wr F v i b).check r w addr size = h.check r w addr size := by
  have rd {G : Fld} (m : G ∈ checkFlds) (j c : Nat) : (h.wr F v i b).rd G j c = h.rd G j c := rd_wr_place (apart G m)
  have on {G : Fld} (m : G ∈ checkFlds) (j c : Nat) : (h.wr F v i b).on G j c = h.on G j c := congrArg (· != 0) (rd m j c)
  have bit {G : Fld} (m : G ∈ checkFlds) (n j c : Nat) : (h.wr F v i b).bit G n j c = h.bit G n j c := bit_of_rd (rd m j c)
  have word : (h.wr F v i b).actWord = h.actWord := rfl
  have match' : (h.wr F v i b).actMatch = h.actMatch := by unfold Hub.actMatch Hub.actLocked; rw [word]
  have dom (d : Nat) : (h.wr F v i b).domOn d = h.domOn d := bit (by decide) _ _ _
  have clock (pg : Nat) : (h.wr F v i b).clockRuns pg = h.clockRuns pg := by
    unfold Hub.clockRuns
    simp only [bit (G := CLK.GSTAT_RUN) (by decide), bit (G := CLK.hUnlocked) (by decide), rd (G := CLK.hUnlocked) (by decide),
      rd (G := CLK.PLLEN_EN) (by decide)]
  have act : (h.wr F v i b).actCheck = h.actCheck := by
    unfold Hub.actCheck Hub.actHolds Hub.actFits Hub.actPermits Hub.actLocked Hub.actEn
    rw [match', word, rd (G := LCS.STATE_LC) (by decide), rd (G := DBG.STAT_STATE) (by decide), rd (G := ACT.CFG_LOADED) (by decide)]
  have fixed : (h.wr F v i b).fixedRefuses = h.fixedRefuses := by
    unfold Hub.fixedRefuses Hub.actEn
    rw [word, rd (G := CAS.CROWN_NODE) (by decide), rd (G := CAS.CROWN_STANDBY) (by decide), rd (G := LCS.STAT_DONE) (by decide),
      on (G := CAS.CROWN_VALID) (by decide), on (G := CAS.CROWN_S_VALID) (by decide)]
  unfold Hub.check
  simp only [fixed, act, dom, clock]

/-! ### The claim and the session (R684, R688) -/

/-- A granted write that does nothing leaves the writer's answer and its latch alone to differ. -/
theorem written_id_sameBut (h : Hub) (r : Req) : Hub.SameBut [Kind.latch64, Kind.resp] h (h.written r id) :=
  Hub.Same.sameBut (Hub.written_keeps (bears_same _ h) (by unfold Sub; decide +kernel) (fun _ => Hub.Same.refl _ _) fun _ H => H)

/-- The claim taken by master `m`. -/
def Hub.claimTaken (h : Hub) (m : MasterId) : Hub :=
  ((h.wr MGP.CLAIM_OWNER (masterNum m)).wr MGP.CLAIM_HELD 1).irq 0xD 2

/-- The claim given up. -/
def Hub.claimFreed (h : Hub) : Hub := (h.wr MGP.CLAIM_HELD 0).irq 0xD 2

theorem Hub.Canon.claimTaken_shows {h : Hub} (C : h.Canon) (m : MasterId) :
    (h.claimTaken m).rd MGP.CLAIM_OWNER = masterNum m ∧ (h.claimTaken m).rd MGP.CLAIM_HELD = 1 ∧
      (h.claimTaken m).bit HDR.ISTAT 2 0xD = true := by
  refine ⟨?_, (rd_irq_place (by decide)).trans C.wr.rd_wr, C.wr.wr.bit_irq rfl (by decide)⟩
  rw [Hub.claimTaken, rd_irq_place (by decide), rd_wr_place (by decide), C.rd_wr]
  cases m <;> rfl

theorem Hub.Canon.claimFreed_shows {h : Hub} (C : h.Canon) :
    h.claimFreed.rd MGP.CLAIM_HELD = 0 ∧ h.claimFreed.bit HDR.ISTAT 2 0xD = true :=
  ⟨(rd_irq_place (by decide)).trans C.rd_wr, C.wr.bit_irq rfl (by decide)⟩

/-- The session as it closes, before its claim goes with it. -/
def Hub.sessionShut (h : Hub) : Hub := ((h.wr MGP.SESS_OPEN 0).wr MGP.hTagFails 0).irq 0xD 0

theorem Hub.Canon.sessionShut {h : Hub} (C : h.Canon) : h.sessionShut.Canon := Hub.irq_canon C.wr.wr

theorem closeSession_of_open {h : Hub} (sess : h.on MGP.SESS_OPEN = true) :
    h.closeSession = h.sessionShut.when (h.on MGP.CLAIM_HELD && h.rd MGP.CLAIM_OWNER == 3) Hub.claimFreed := by
  unfold Hub.closeSession
  rw [sess, if_neg (by decide)]
  rfl

theorem closeSession_of_shut {h : Hub} (sess : h.on MGP.SESS_OPEN = false) : h.closeSession = h := by
  unfold Hub.closeSession
  rw [sess]
  rfl

/-- A session that closes says so, and a claim of the management port goes with it. -/
theorem Hub.Canon.closeSession_shows {h : Hub} (C : h.Canon) (sess : h.on MGP.SESS_OPEN = true) :
    let g := h.closeSession
    g.rd MGP.SESS_OPEN = 0 ∧ g.bit HDR.ISTAT 0 0xD = true ∧
      (h.on MGP.CLAIM_HELD = true → h.rd MGP.CLAIM_OWNER = 3 → g.rd MGP.CLAIM_HELD = 0 ∧ g.bit HDR.ISTAT 2 0xD = true) := by
  have shut : h.sessionShut.rd MGP.SESS_OPEN = 0 := by
    rw [Hub.sessionShut, rd_irq_place (by decide), rd_wr_place (by decide)]
    exact C.rd_wr
  have irq : h.sessionShut.bit HDR.ISTAT 0 0xD = true := C.wr.wr.bit_irq rfl (by decide)
  rw [closeSession_of_open sess]
  refine ⟨(rd_when_of_rd ?_).trans shut, ?_, fun held owner => ?_⟩
  · rw [Hub.claimFreed, rd_irq_place (by decide), rd_wr_place (by decide)]
  · exact bit_when_of_bit irq (C.sessionShut.wr.bit_irq_of_bit (by decide) ((bit_wr_place (by decide)).trans irq))
  · rw [held, owner, beq_self_eq_true, Bool.and_self, Hub.when_true]
    exact C.sessionShut.claimFreed_shows

end Sys2Proof.Machine

open Sys2Proof Sys2Proof.Machine

/-- Settles O45: what each command leaves of the claim, and that no check reads it. -/
theorem claimBindsItsOwnerAlone : Obligations.ClaimBindsItsOwnerAlone := by
  intro s I
  have C : s.hub.Canon := I
  have CL (m : MasterId) : (s.hub.dropLatch m).Canon := C.dropLatch
  refine ⟨?take, ?taken, ?release, ?foreign, ?close, ?check⟩
  case take =>
    exact fun r G up free => completes_reg_when (p := fun h => h.up 0xD && !h.on MGP.CLAIM_HELD)
      (f := fun _ h => h.claimTaken r.master) rfl G (show (s.hub.up 0xD && !s.hub.on MGP.CLAIM_HELD) = true by rw [up, free]; rfl)
      ((CL r.master).claimTaken_shows r.master)
  case taken =>
    exact fun r G held => completes_reg_idle (p := fun h => h.up 0xD && !h.on MGP.CLAIM_HELD)
      (f := fun _ h => h.claimTaken r.master) rfl G
      (show (s.hub.up 0xD && !s.hub.on MGP.CLAIM_HELD) = false by rw [held, Bool.not_true, Bool.and_false]) (written_id_sameBut _ _)
  case release =>
    exact fun r G up held owner => completes_reg_when
      (p := fun h => h.up 0xD && h.on MGP.CLAIM_HELD && h.rd MGP.CLAIM_OWNER == masterNum r.master) (f := fun _ h => h.claimFreed) rfl G
      (show (s.hub.up 0xD && s.hub.on MGP.CLAIM_HELD && s.hub.rd MGP.CLAIM_OWNER == masterNum r.master) = true by
        rw [up, held, beq_iff_eq.2 owner]; rfl)
      (CL r.master).claimFreed_shows
  case foreign =>
    exact fun r G other => completes_reg_idle
      (p := fun h => h.up 0xD && h.on MGP.CLAIM_HELD && h.rd MGP.CLAIM_OWNER == masterNum r.master) (f := fun _ h => h.claimFreed) rfl G
      (show (s.hub.up 0xD && s.hub.on MGP.CLAIM_HELD && s.hub.rd MGP.CLAIM_OWNER == masterNum r.master) = false by
        rw [beq_eq_false_iff_ne.2 other, Bool.and_false])
      (written_id_sameBut _ _)
  case close =>
    intro r G up sess held owner
    obtain ⟨-, -, freed⟩ := (CL r.master).closeSession_shows sess
    exact completes_reg_when (p := fun h => h.up 0xD) (f := fun _ h => h.closeSession) rfl G up (freed held owner)
  case check =>
    exact fun r w addr size held owner => (check_wr (by decide) r w addr size).trans (check_wr (by decide) r w addr size)
end

section
/-! PROOFS. The management port: its requests, its sessions, and the answers of MCPU (R673 to R690). -/

namespace Sys2Proof.Machine

open Sys2Proof

/-! ### Requests that MCPU serves (R679, R680, R683) -/

/-- A request that awaits MCPU. -/
theorem Hub.Canon.mgpPend_shows {h : Hub} (C : h.Canon) {op : Nat} (small : op < 2 ^ MGP.AUTHCTL_OP.w) (seq : Nat) :
    let g := h.mgpPend op seq
    g.rd MGP.AUTHCTL_PENDING = 1 ∧ g.rd MGP.AUTHCTL_OP = op ∧ g.bit HDR.ISTAT 1 0xD = true ∧ g.rd MGP.hSeq = seq % 2 ^ 64 ∧
      g.rd MGP.CNT_REQ_COUNT = h.oneMore MGP.CNT_REQ_COUNT := by
  have C0 : ({ h with mgpResp := [] } : Hub).Canon := ⟨C.regs, C.tab, C.fmem⟩
  unfold Hub.mgpPend
  refine ⟨?_, ?_, C0.cnt.wr.wr.wr.bit_irq rfl (by decide), (rd_irq_place (by decide)).trans C0.cnt.wr.wr.rd_wr, ?_⟩
  · rw [rd_irq_place (by decide), rd_wr_place (by decide), rd_wr_place (by decide)]
    exact C0.cnt.rd_wr
  · rw [rd_irq_place (by decide), rd_wr_place (by decide), C0.cnt.wr.rd_wr, Nat.mod_eq_of_lt small]
  · rw [rd_irq_place (by decide), rd_wr_place (by decide), rd_wr_place (by decide), rd_wr_place (by decide)]
    exact C0.rd_cnt

/-- What a request that awaits MCPU moves. -/
def pendFlds : List Fld := [MGP.CNT_REQ_COUNT, MGP.AUTHCTL_PENDING, MGP.AUTHCTL_OP, MGP.hSeq, HDR.ISTAT]

theorem rd_mgpPend_apart {h : Hub} {op seq i b : Nat} {F : Fld}
    (apart : ∀ G ∈ pendFlds, G.place ≠ F.place) :
    (h.mgpPend op seq).rd F i b = h.rd F i b := by
  unfold Hub.mgpPend
  rw [rd_irq_place (apart _ (by decide)), rd_wr_place (apart _ (by decide)), rd_wr_place (apart _ (by decide)),
    rd_wr_place (apart _ (by decide)), rd_cnt_place (apart _ (by decide))]
  rfl

/-! ### AUTHBUF (R679, R681, R683, R689) -/

theorem outside_authBuf : ∀ G ∈ pendFlds, G.Outside MGP.AUTHBUF 64 := by decide

/-- The bytes of AUTHBUF with `bs` stored from byte `k`. -/
def Hub.authBytes (h : Hub) (k : Nat) (bs : Bytes) : Bytes :=
  (h.bufBytes MGP.AUTHBUF 256).take k ++ bs ++ (h.bufBytes MGP.AUTHBUF 256).drop (k + bs.length)

theorem length_authBytes (h : Hub) {k : Nat} {bs : Bytes} (fits : k + bs.length ≤ 256) : (h.authBytes k bs).length = 256 := by
  rw [Hub.authBytes, List.length_append, List.length_append, List.length_take, List.length_drop, length_bufBytes]
  omega

/-- The bytes stored are those read from where they lie. -/
theorem authBytes_slice (h : Hub) {k : Nat} {bs : Bytes} (fits : k + bs.length ≤ 256) :
    ((h.authBytes k bs).drop k).take bs.length = bs := by
  have len : ((h.bufBytes MGP.AUTHBUF 256).take k).length = k := by
    rw [List.length_take, length_bufBytes]
    omega
  rw [Hub.authBytes, List.append_assoc, List.drop_left' len, List.take_left]

theorem Hub.Canon.authStore {h : Hub} (C : h.Canon) {k : Nat} {bs : Bytes} : (h.authStore k bs).Canon := C.setBuf

theorem Hub.Canon.bufBytes_authStore {h : Hub} (C : h.Canon) {k : Nat} {bs : Bytes} (fits : k + bs.length ≤ 256) {n : Nat}
    (le : n ≤ 256) : (h.authStore k bs).bufBytes MGP.AUTHBUF n = (h.authBytes k bs).take n := by
  have len := length_authBytes h fits
  exact C.bufBytes_setBuf rfl (by rw [← Hub.authBytes, len]; decide) (by rw [← Hub.authBytes, len]; exact le)

theorem rd_authStore {h : Hub} {k : Nat} {bs : Bytes} (fits : k + bs.length ≤ 256) {F : Fld} {i b : Nat}
    (out : F.Outside MGP.AUTHBUF 64) : (h.authStore k bs).rd F i b = h.rd F i b :=
  rd_setBuf_outside (n := 64) (Nat.le_of_eq (length_authBytes h fits)) out

/-! ### OPEN and AUTH (R679, R681, R684) -/

/-- What OPEN does with a key of the right length: a session that is open closes first. -/
theorem Hub.Canon.openSess_shows {h : Hub} (C : h.Canon) (seq k : Nat) {toolKey : Bytes} (len : toolKey.length = 49) :
    let g := (h.closeSession.authStore 0 (natLe 1 k ++ toolKey)).mgpPend 3 seq
    g.rd MGP.SESS_OPEN = 0 ∧ g.rd MGP.AUTHCTL_PENDING = 1 ∧ g.rd MGP.AUTHCTL_OP = 3 ∧ g.bit HDR.ISTAT 1 0xD = true ∧
      g.bufBytes MGP.AUTHBUF 50 = natLe 1 k ++ toolKey := by
  have CS : h.closeSession.Canon := Hub.closeSession_canon C
  have len' : (natLe 1 k ++ toolKey).length = 50 := by
    rw [List.length_append, length_natLe, len]
  obtain ⟨pending, op, irq, -, -⟩ := (CS.authStore (k := 0) (bs := natLe 1 k ++ toolKey)).mgpPend_shows (op := 3) (by decide) seq
  refine ⟨?_, pending, op, irq, ?_⟩
  · rw [rd_mgpPend_apart (by decide), rd_authStore (by rw [len']; decide) (by decide)]
    cases sess : h.on MGP.SESS_OPEN
    · rw [closeSession_of_shut sess]
      simpa [Hub.on] using sess
    · exact (C.closeSession_shows sess).1
  · rw [bufBytes_congr fun j hj => rd_mgpPend_apart fun G m => (place_ne_of_outside (outside_authBuf G m) (hj.trans (by decide))).symm, CS.bufBytes_authStore (by rw [len']; decide) (by decide)]
    have slice := authBytes_slice h.closeSession (k := 0) (bs := natLe 1 k ++ toolKey) (by rw [len']; decide)
    rwa [len', List.drop_zero] at slice

/-- A chunk of SIG and PUB stored: the answer, and where the bytes lie. -/
theorem Hub.Canon.auth_shows {h : Hub} (C : h.Canon) (seq : Nat) {chunk : Nat} {data : Bytes} (small : chunk < 4)
    (len : data.length ≤ 48) :
    let g := ((h.cnt MGP.CNT_REQ_COUNT).authStore (0x38 + 48 * chunk) data).mgpReply 0 4 seq []
    g.mgpResp = natLe 1 0 ++ natLe 1 4 ++ natLe 2 seq ∧
      ((g.bufBytes MGP.AUTHBUF 256).drop (0x38 + 48 * chunk)).take data.length = data := by
  have fits : 0x38 + 48 * chunk + data.length ≤ 256 := by omega
  refine ⟨List.append_nil _, ?_⟩
  show ((((h.cnt MGP.CNT_REQ_COUNT).authStore (0x38 + 48 * chunk) data).bufBytes MGP.AUTHBUF 256).drop (0x38 + 48 * chunk)).take
    data.length = data
  rw [C.cnt.bufBytes_authStore fits le_rfl, List.take_of_length_le (length_authBytes _ fits).le]
  exact authBytes_slice _ fits

/-! ### CLOSE (R678, R684) -/

/-- What CLOSE does: a session request, and the session closed where it is granted. -/
def Hub.closeAsked (h : Hub) (f : TsudyFrame) : Hub :=
  let g := h.sessionReq 6 f [] 11 fun h => (0, [], h)
  g.when (g.mgpResp.take 1 == natLe 1 0) Hub.closeSession

/-- CLOSE with its TAG and in order: its answer, and the session closed. -/
theorem Hub.Canon.close_shows {h : Hub} (C : h.Canon) {f : TsudyFrame} (up : h.up 0xD = true) (sess : h.on MGP.SESS_OPEN = true)
    (tag : h.TagOk 6 f []) (seq : f.seq % 2 ^ 16 = (h.rd MGP.SESS_SEQ + 1) % 2 ^ 16) (len : f.len = 11) :
    let g := h.closeAsked f
    g.rd MGP.SESS_OPEN = 0 ∧ g.bit HDR.ISTAT 0 0xD = true ∧ g.mgpResp.take 4 = natLe 1 0 ++ natLe 1 6 ++ natLe 2 f.seq := by
  have taken : h.sessionReq 6 f [] 11 (fun h => (0, [], h)) = (h.sessionTaken f).mgpTagged 0 6 f.seq [] :=
    sessionReq_of_run sess up tag seq len rfl (Hub.SameAccess.of_regs rfl rfl)
  have head : ((h.sessionTaken f).mgpTagged 0 6 f.seq []).mgpResp.take 4 = natLe 1 0 ++ natLe 1 6 ++ natLe 2 f.seq :=
    (take_mgpTagged (h.sessionTaken f) 0 6 f.seq (data := []) rfl).trans (List.append_nil _)
  have CT : ((h.sessionTaken f).mgpTagged 0 6 f.seq []).Canon := ⟨C.wr.wr.cnt.regs, C.tab, C.fmem⟩
  have sess' : ((h.sessionTaken f).mgpTagged 0 6 f.seq []).on MGP.SESS_OPEN = true := by
    rw [← sess]
    refine congrArg (· != 0) ?_
    show (h.sessionTaken f).rd MGP.SESS_OPEN = _
    rw [Hub.sessionTaken, rd_cnt_place (by decide), rd_wr_place (by decide), rd_wr_place (by decide)]
  have good : (((h.sessionTaken f).mgpTagged 0 6 f.seq []).mgpResp.take 1 == natLe 1 0) = true := rfl
  unfold Hub.closeAsked
  dsimp only
  rw [taken, good, Hub.when_true]
  obtain ⟨shut, irq, -⟩ := CT.closeSession_shows sess'
  exact ⟨shut, irq, (congrArg (List.take 4) (Hub.closeSession_same.mgpResp (by decide))).trans head⟩

/-- CLOSE with a wrong TAG. -/
theorem Hub.Canon.close_badTag {h : Hub} (C : h.Canon) {f : TsudyFrame} (sess : h.on MGP.SESS_OPEN = true) (bad : ¬ h.TagOk 6 f []) :
    (h.closeAsked f).mgpResp = natLe 1 7 ++ natLe 1 6 ++ natLe 2 f.seq := by
  have resp := (C.rd_tagRefused 6 f (decide (4 ≤ h.rd MGP.hTagFails + 1))).1
  unfold Hub.closeAsked
  dsimp only
  rw [sessionReq_of_tag sess bad]
  have other : (((h.tagRefused 6 f).when (decide (4 ≤ h.rd MGP.hTagFails + 1)) Hub.closeSession).mgpResp.take 1 == natLe 1 0) = false := by
    rw [resp]
    rfl
  rw [other, Hub.when_false, resp]

/-! ### The answers of MCPU (R683, R689) -/

theorem Hub.Canon.mgpAccept_shows {h : Hub} (C : h.Canon) :
    let g := h.mgpAccept
    g.rd MGP.AUTHCTL_PENDING = 0 ∧
      (h.rd MGP.AUTHCTL_OP = 2 → g.mgpResp = natLe 1 0 ++ natLe 1 2 ++ natLe 2 (h.rd MGP.hSeq) ++ h.bufBytes MGP.REPLY 49) ∧
      (h.rd MGP.AUTHCTL_OP = 3 → g.rd MGP.SESS_AUTHING = 1 ∧ g.rd MGP.SID_SID = h.rd (MGP.REPLY.word 0) % 2 ^ 32) ∧
      (h.rd MGP.AUTHCTL_OP = 5 → g.rd MGP.SESS_OPEN = 1 ∧ g.rd MGP.SESS_AUTHING = 0 ∧ g.rd MGP.SESS_SEQ = 0 ∧
        g.bit HDR.ISTAT 0 0xD = true) := by
  unfold Hub.mgpAccept
  dsimp only
  by_cases two : h.rd MGP.AUTHCTL_OP = 2
  · rw [if_pos two, two]
    exact ⟨C.rd_wr (F := MGP.AUTHCTL_PENDING) (v := 0), fun _ => rfl, fun three => absurd three (by decide), fun five => absurd five (by decide)⟩
  rw [if_neg two]
  by_cases three : h.rd MGP.AUTHCTL_OP = 3
  · rw [if_pos three, three]
    refine ⟨?_, fun two => absurd two (by decide), fun _ => ⟨?_, ?_⟩, fun five => absurd five (by decide)⟩
    all_goals simp +decide only [Hub.mgpReply_rd, rd_wr_place, C.rd_wr, C.wr.rd_wr, C.wr.wr.rd_wr, Nat.zero_mod]
    rfl
  · rw [if_neg three]
    refine ⟨?_, fun e => absurd e two, fun e => absurd e three, fun _ => ⟨?_, ?_, ?_, C.wr.wr.wr.wr.wr.bit_irq rfl (by decide)⟩⟩
    all_goals simp +decide only [Hub.mgpReply_rd, rd_irq_place, rd_wr_place, C.rd_wr, C.wr.rd_wr, C.wr.wr.rd_wr, C.wr.wr.wr.rd_wr,
      Nat.zero_mod]

theorem Hub.Canon.mgpReject_shows {h : Hub} (C : h.Canon) :
    let g := h.mgpReject
    g.rd MGP.AUTHCTL_PENDING = 0 ∧
      (h.rd MGP.AUTHCTL_OP = 5 → g.mgpResp = natLe 1 11 ++ natLe 1 5 ++ natLe 2 (h.rd MGP.hSeq) ∧ g.rd MGP.SID_SID = 0 ∧
        g.bit HDR.ESTAT 1 0xD = true ∧ g.rd MGP.CNT_AUTH_AUTHFAIL = h.oneMore MGP.CNT_AUTH_AUTHFAIL) ∧
      (h.rd MGP.AUTHCTL_OP ≠ 5 → g.mgpResp = natLe 1 2 ++ natLe 1 (h.rd MGP.AUTHCTL_OP) ++ natLe 2 (h.rd MGP.hSeq)) := by
  unfold Hub.mgpReject
  dsimp only
  by_cases five : h.rd MGP.AUTHCTL_OP = 5
  · have CR : ((h.wr MGP.AUTHCTL_PENDING 0).cnt MGP.CNT_AUTH_AUTHFAIL |>.raise 0xD 1).Canon := Hub.raise_canon C.wr.cnt
    rw [if_pos five, five]
    refine ⟨?_, fun _ => ⟨List.append_nil _, ?_, ?_, ?_⟩, fun other => absurd rfl other⟩
    · simp +decide only [Hub.mgpReply_rd, Hub.raise_rd, rd_cnt_place, rd_wr_place, C.rd_wr, Nat.zero_mod]
    · simp +decide only [Hub.mgpReply_rd, rd_wr_place, CR.rd_wr, Nat.zero_mod]
    · have err : ((h.wr MGP.AUTHCTL_PENDING 0).cnt MGP.CNT_AUTH_AUTHFAIL |>.raise 0xD 1).bit HDR.ESTAT 1 0xD = true :=
        C.wr.cnt.bit_raise rfl (by decide)
      rw [← err]
      refine bit_of_rd ?_
      simp +decide only [Hub.mgpReply_rd, rd_wr_place]
    · simp +decide only [Hub.mgpReply_rd, Hub.raise_rd, rd_wr_place, C.wr.rd_cnt]
      rfl
  · rw [if_neg five]
    exact ⟨C.rd_wr (F := MGP.AUTHCTL_PENDING) (v := 0), fun e => absurd e five, fun _ => List.append_nil _⟩

end Sys2Proof.Machine

open Sys2Proof Sys2Proof.Machine

/-- Settles O28, clause by clause. -/
theorem managementPortCommandsComplete : Obligations.ManagementPortCommandsComplete := by
  intro s I
  have C : s.hub.Canon := I
  have CL (m : MasterId) : (s.hub.dropLatch m).Canon := C.dropLatch
  refine ⟨?ident, ?getkey, ?opens, ?openBad, ?auth, ?authGo, ?close, ?read, ?smbus, ?mcpu, ?idle, ?ctlClose, ?accept, ?reject, ?take,
    ?release⟩
  case ident =>
    exact fun seq free => completes_when (p := Hub.mgpFree) (f := fun _ h => (h.cnt MGP.CNT_REQ_COUNT).mgpReply 0 1 seq h.identData) rfl
      free ⟨rfl, C.rd_cnt⟩
  case getkey =>
    intro seq free
    obtain ⟨pending, op, irq, seq', count⟩ := C.mgpPend_shows (op := 2) (by decide) seq
    exact completes_when (p := Hub.mgpFree) (f := fun _ h => h.mgpPend 2 seq) rfl free ⟨pending, op, irq, seq', count⟩
  case opens =>
    intro seq k toolKey free len lc
    refine completes_when (p := Hub.mgpFree) (f := fun _ h => _) rfl free ?_
    have lc' : s.hub.closeSession.rd LCS.STATE_LC ≠ 6 := by rwa [rd_closeSession_place (by decide)]
    dsimp only
    rw [if_neg (not_not.2 len), if_neg lc']
    exact C.openSess_shows seq k len
  case openBad =>
    intro seq k toolKey free len
    refine completes_when (p := Hub.mgpFree) (f := fun _ h => _) rfl free ?_
    rw [if_pos len]
    exact ⟨List.append_nil _, rfl⟩
  case auth =>
    intro seq chunk data free small len
    refine completes_when (p := Hub.mgpFree) (f := fun _ h => _) rfl free ?_
    rw [if_neg (by rw [if_neg (by omega)]; omega)]
    exact C.auth_shows seq small len
  case authGo =>
    intro seq free
    obtain ⟨pending, op, irq, -, -⟩ := C.mgpPend_shows (op := 5) (by decide) seq
    exact completes_when (p := Hub.mgpFree) (f := fun _ h => h.mgpPend 5 seq) rfl free ⟨pending, op, irq⟩
  case close =>
    exact fun f free sess len => completes_when (p := Hub.mgpFree) (f := fun _ h => h.closeAsked f) rfl free
      ⟨fun tag seq => C.close_shows (up_of_mgpFree free) sess tag seq len, fun bad => C.close_badTag sess bad⟩
  case read => exact fun up => completes_when (p := fun h => h.up 0xD) (f := fun _ h => { h with mgpRead := h.mgpShown }) rfl up rfl
  case smbus =>
    exact fun up => completes_when (p := fun h => h.up 0xD) (f := fun _ h => (h.cnt MGP.CNT_TIMEOUT_COUNT).raise 0xD 3) rfl up
      ⟨C.cnt.bit_raise rfl (by decide), (Hub.raise_rd (by decide)).trans C.rd_cnt⟩
  case mcpu =>
    exact fun up pending => completes_when (p := fun h => h.up 0xD && h.on MGP.AUTHCTL_PENDING) (f := fun _ h =>
      (h.wr MGP.AUTHCTL_PENDING 0).mgpReply 10 (h.rd MGP.AUTHCTL_OP) (h.rd MGP.hSeq) []) rfl (by rw [up, pending]; rfl)
      ⟨C.rd_wr (F := MGP.AUTHCTL_PENDING) (v := 0), List.append_nil _⟩
  case idle =>
    exact fun up sess => completes_when (p := fun h => h.up 0xD) (f := fun _ h => h.closeSession) rfl up (C.closeSession_shows sess)
  case ctlClose =>
    intro r G up sess
    obtain ⟨shut, irq, -⟩ := (CL r.master).closeSession_shows sess
    exact completes_reg_when (p := fun h => h.up 0xD) (f := fun _ h => h.closeSession) rfl G up ⟨shut, irq⟩
  case accept =>
    exact fun r G up pending => completes_reg_when (p := fun h => h.up 0xD && h.on MGP.AUTHCTL_PENDING) (f := fun _ h => h.mgpAccept)
      rfl G (show (s.hub.up 0xD && s.hub.on MGP.AUTHCTL_PENDING) = true by rw [up, pending]; rfl) (CL r.master).mgpAccept_shows
  case reject =>
    exact fun r G up pending => completes_reg_when (p := fun h => h.up 0xD && h.on MGP.AUTHCTL_PENDING) (f := fun _ h => h.mgpReject)
      rfl G (show (s.hub.up 0xD && s.hub.on MGP.AUTHCTL_PENDING) = true by rw [up, pending]; rfl) (CL r.master).mgpReject_shows
  case take =>
    intro r G up free
    obtain ⟨owner, held, irq⟩ := (CL r.master).claimTaken_shows r.master
    exact completes_reg_when (p := fun h => h.up 0xD && !h.on MGP.CLAIM_HELD)
      (f := fun _ h => h.claimTaken r.master) rfl G (show (s.hub.up 0xD && !s.hub.on MGP.CLAIM_HELD) = true by rw [up, free]; rfl)
      ⟨held, owner, irq⟩
  case release => exact (claimBindsItsOwnerAlone s I).2.2.1
end

section
/-! PROOFS. The USB device function: control transfers, its other endpoints, and the wake (R489 to R493). -/

namespace Sys2Proof.Machine

open Sys2Proof

/-! ### Two registers written -/

theorem Hub.Canon.rd_wr_wr {h : Hub} (C : h.Canon) {F G : Fld} {v w i b : Nat} (apart : G.place ≠ F.place) :
    ((h.wr F v i b).wr G w i b).rd F i b = v % 2 ^ F.w ∧ ((h.wr F v i b).wr G w i b).rd G i b = w % 2 ^ G.w :=
  ⟨(rd_wr_place apart).trans C.rd_wr, C.wr.rd_wr⟩

/-! ### Buffers that writes elsewhere leave alone -/

theorem bufBytes_wr {h : Hub} {F G : Fld} {v i b m n : Nat} (out : G.Outside F m) (le : n ≤ 4 * m) :
    (h.wr G v i b).bufBytes F n = h.bufBytes F n :=
  bufBytes_congr fun _ hj => rd_wr_place (place_ne_of_outside out (lt_of_lt_of_le hj (by unfold ceilDiv; omega))).symm

theorem bufBytes_irq {h : Hub} {F : Fld} {pg k m n : Nat} (out : HDR.ISTAT.Outside F m) (le : n ≤ 4 * m) :
    (h.irq pg k).bufBytes F n = h.bufBytes F n :=
  bufBytes_congr fun _ hj => rd_irq_place (place_ne_of_outside out (lt_of_lt_of_le hj (by unfold ceilDiv; omega))).symm

/-- The bytes of a packet that a buffer of `n` takes. -/
theorem Hub.Canon.bufBytes_setBuf_packet {h : Hub} (C : h.Canon) {F : Fld} (w : F.w = 32) (data : Bytes) {n : Nat} (hn : n ≤ 4096) :
    (h.setBuf F (data.take n)).bufBytes F (min n data.length) = data.take n := by
  have len : (data.take n).length = min n data.length := List.length_take
  rw [C.bufBytes_setBuf w (by omega) len.ge, ← len, List.take_length]

/-! ### SETUP (R490, R491) -/

/-- A SETUP packet ends a transfer under way, and a stall. -/
def Hub.setupStart (h : Hub) : Hub :=
  (h.when (h.on UDF.STAT_CSTATE) fun h => (h.ep0Drop.wr UDF.STAT_CTRL_ABORT_SETUP 1).cnt UDF.CNT_ABORT_COUNT).wr UDF.hStall 0

/-- The stage that a SETUP packet of type `typ` with `len` bytes of data starts. -/
def setupStage (typ len : Nat) : Nat := if len = 0 then 3 else if 128 ≤ typ then 1 else 2

/-- A SETUP packet passed on to software. -/
def Hub.setupPass (h : Hub) (bs : Bytes) : Hub :=
  ((h.wr UDF.SETUP_LO_DATA (leAt bs 0 4) |>.wr UDF.SETUP_HI_DATA (leAt bs 4 4)
    |>.wr UDF.STAT_CSTATE (setupStage (bs.getD 0 0).toNat (leAt bs 6 2))
    |>.wr UDF.hIn (bnat (decide (128 ≤ (bs.getD 0 0).toNat) && leAt bs 6 2 != 0))
    |>.wr UDF.EP0CTL_BUSY (bnat (setupStage (bs.getD 0 0).toNat (leAt bs 6 2) == 2))).cnt UDF.CNT_SETUP_COUNT).irq 0xA1 0

theorem setupPass_eq (h : Hub) (bs : Bytes) :
    (let isIn := decide (128 ≤ (bs.getD 0 0).toNat)
      let st := if leAt bs 6 2 = 0 then 3 else if isIn then 1 else 2
      ((h.wr UDF.SETUP_LO_DATA (leAt bs 0 4) |>.wr UDF.SETUP_HI_DATA (leAt bs 4 4) |>.wr UDF.STAT_CSTATE st
        |>.wr UDF.hIn (bnat (isIn && leAt bs 6 2 != 0)) |>.wr UDF.EP0CTL_BUSY (bnat (st == 2))).cnt UDF.CNT_SETUP_COUNT).irq 0xA1 0) =
      h.setupPass bs := by
  simp only [Hub.setupPass, setupStage, decide_eq_true_eq]

theorem setupIn_of_address {h : Hub} {bs : Bytes} (typ : bs.getD 0 0 = 0) (rq : bs.getD 1 0 = 5) :
    h.setupIn bs = h.setupStart.wr UDF.STAT_ADDR (leAt bs 2 2 % 128) := by
  unfold Hub.setupIn
  rw [typ, rq]
  rfl

theorem setupIn_of_configuration {h : Hub} {bs : Bytes} (typ : bs.getD 0 0 = 0) (rq : bs.getD 1 0 = 9) :
    h.setupIn bs = (h.setupStart.wr UDF.STAT_CONFIGURED (bnat (leAt bs 2 2 != 0))).setupPass bs := by
  rw [← setupPass_eq]
  unfold Hub.setupIn
  rw [typ, rq]
  rfl

theorem setupIn_of_other {h : Hub} {bs : Bytes} (rq : 9 < (bs.getD 1 0).toNat) : h.setupIn bs = h.setupStart.setupPass bs := by
  rw [← setupPass_eq]
  unfold Hub.setupIn
  dsimp only
  generalize (bs.getD 1 0).toNat = r at rq
  split
  case h_6 | h_7 =>
    rw [if_neg fun e => by omega]
    rfl
  case h_8 => rfl
  all_goals exact absurd rq (by decide)

/-- What the start of a transfer moves. -/
def setupStartFlds : List Fld := [UDF.STAT_CSTATE, UDF.EP0CTL_BUSY, UDF.EP0CTL_LEN, UDF.STAT_CTRL_ABORT_SETUP, UDF.CNT_ABORT_COUNT, UDF.hStall]

theorem Hub.Canon.ep0Drop {h : Hub} (C : h.Canon) : h.ep0Drop.Canon := C.wr.wr.wr

theorem Hub.Canon.setupStart {h : Hub} (C : h.Canon) : h.setupStart.Canon := (C.when C.ep0Drop.wr.cnt).wr

theorem rd_setupStart_apart {h : Hub} {F : Fld} {i b : Nat} (apart : ∀ G ∈ setupStartFlds, G.place ≠ F.place) :
    h.setupStart.rd F i b = h.rd F i b := by
  unfold Hub.setupStart
  rw [rd_wr_place (apart _ (by decide))]
  refine rd_when_of_rd ?_
  rw [rd_cnt_place (apart _ (by decide)), rd_wr_place (apart _ (by decide)), Hub.ep0Drop, rd_wr_place (apart _ (by decide)),
    rd_wr_place (apart _ (by decide)), rd_wr_place (apart _ (by decide))]

/-- A transfer that a SETUP packet ends is reported and counted. -/
theorem Hub.Canon.setupStart_shows {h : Hub} (C : h.Canon) (busy : h.on UDF.STAT_CSTATE = true) :
    h.setupStart.rd UDF.STAT_CTRL_ABORT_SETUP = 1 ∧ h.setupStart.rd UDF.CNT_ABORT_COUNT = h.oneMore UDF.CNT_ABORT_COUNT := by
  unfold Hub.setupStart
  rw [busy, Hub.when_true, rd_wr_place (by decide), rd_wr_place (by decide), rd_cnt_place (by decide)]
  refine ⟨C.ep0Drop.rd_wr, C.ep0Drop.wr.rd_cnt.trans ?_⟩
  unfold Hub.ep0Drop
  simp +decide only [rd_wr_place]
  rfl

/-- What a SETUP packet passed on moves. -/
def setupPassFlds : List Fld :=
  [UDF.SETUP_LO_DATA, UDF.SETUP_HI_DATA, UDF.STAT_CSTATE, UDF.hIn, UDF.EP0CTL_BUSY, UDF.CNT_SETUP_COUNT, HDR.ISTAT]

theorem rd_setupPass_apart {h : Hub} {bs : Bytes} {F : Fld} {i b : Nat} (apart : ∀ G ∈ setupPassFlds, G.place ≠ F.place) :
    (h.setupPass bs).rd F i b = h.rd F i b := by
  unfold Hub.setupPass
  rw [rd_irq_place (apart _ (by decide)), rd_cnt_place (apart _ (by decide)), rd_wr_place (apart _ (by decide)),
    rd_wr_place (apart _ (by decide)), rd_wr_place (apart _ (by decide)), rd_wr_place (apart _ (by decide)),
    rd_wr_place (apart _ (by decide))]

theorem setupStage_lt (typ len : Nat) : setupStage typ len < 4 := by
  unfold setupStage
  split_ifs <;> decide

theorem Hub.Canon.setupPass_shows {h : Hub} (C : h.Canon) (bs : Bytes) :
    let g := h.setupPass bs
    g.rd UDF.SETUP_LO_DATA = leAt bs 0 4 ∧ g.rd UDF.SETUP_HI_DATA = leAt bs 4 4 ∧
      g.rd UDF.STAT_CSTATE = setupStage (bs.getD 0 0).toNat (leAt bs 6 2) ∧
      g.rd UDF.CNT_SETUP_COUNT = h.oneMore UDF.CNT_SETUP_COUNT ∧ g.bit HDR.ISTAT 0 0xA1 = true := by
  unfold Hub.setupPass
  refine ⟨?_, ?_, ?_, ?_, C.wr.wr.wr.wr.wr.cnt.bit_irq rfl (by decide)⟩
  · simp +decide only [rd_irq_place, rd_cnt_place, rd_wr_place, C.rd_wr]
    exact Nat.mod_eq_of_lt (leAt_lt bs 0 4)
  · simp +decide only [rd_irq_place, rd_cnt_place, rd_wr_place, C.wr.rd_wr]
    exact Nat.mod_eq_of_lt (leAt_lt bs 4 4)
  · simp +decide only [rd_irq_place, rd_cnt_place, rd_wr_place, C.wr.wr.rd_wr]
    exact Nat.mod_eq_of_lt (setupStage_lt _ _)
  · rw [rd_irq_place (by decide), C.wr.wr.wr.wr.wr.rd_cnt]
    simp +decide only [rd_wr_place]
    rfl

/-! ### Endpoint 0 (R491) -/

theorem Hub.Canon.rd_ep0Drop {h : Hub} (C : h.Canon) : h.ep0Drop.rd UDF.STAT_CSTATE = 0 ∧ h.ep0Drop.rd UDF.EP0CTL_BUSY = 0 := by
  unfold Hub.ep0Drop
  simp +decide only [rd_wr_place, C.rd_wr, C.wr.rd_wr, Nat.zero_mod, and_self]

theorem Hub.Canon.ep0Stall_shows {h : Hub} (C : h.Canon) :
    let g := h.ep0Drop.wr UDF.hStall 1
    g.rd UDF.STAT_CSTATE = 0 ∧ g.rd UDF.EP0CTL_BUSY = 0 ∧ g.rd UDF.hStall = 1 :=
  ⟨(rd_wr_place (by decide)).trans C.rd_ep0Drop.1, (rd_wr_place (by decide)).trans C.rd_ep0Drop.2, C.ep0Drop.rd_wr⟩

theorem Hub.Canon.ep0Out_shows {h : Hub} (C : h.Canon) (data : Bytes) (go : h.on UDF.hStall = false) (out : h.on UDF.hIn = false)
    (stage : h.rd UDF.STAT_CSTATE = 2) (busy : h.on UDF.EP0CTL_BUSY = true) :
    let g := h.ep0Out data
    g.rd UDF.EP0CTL_LEN = min 64 data.length ∧ g.rd UDF.EP0CTL_BUSY = 0 ∧ g.bit HDR.ISTAT 1 0xA1 = true ∧
      g.bufBytes UDF.EP0BUF (min 64 data.length) = data.take 64 := by
  have CB : (h.setBuf UDF.EP0BUF (data.take 64)).Canon := C.setBuf
  have small : min 64 data.length ≤ 4 * 16 := min_le_left _ _
  unfold Hub.ep0Out
  rw [go, out, if_neg Bool.false_ne_true, Bool.false_and, Bool.false_and, if_neg Bool.false_ne_true, if_pos ⟨stage, busy⟩]
  refine ⟨?_, (rd_irq_place (by decide)).trans CB.wr.rd_wr, CB.wr.wr.bit_irq rfl (by decide), ?_⟩
  · rw [rd_irq_place (by decide), rd_wr_place (by decide), CB.rd_wr]
    exact Nat.mod_eq_of_lt (lt_of_le_of_lt (min_le_left _ _) (by decide))
  · rw [bufBytes_irq (m := 16) (by decide) small, bufBytes_wr (m := 16) (by decide) small, bufBytes_wr (m := 16) (by decide) small]
    exact C.bufBytes_setBuf_packet rfl data (by decide)

/-- The first `n` bytes of the buffer of endpoint `ep` sent to the host: the endpoint is busy no more, and says so. -/
def Hub.inSent (h : Hub) (ep : Nat) (buf busy : Fld) (n irq : Nat) : Hub :=
  ({ h with udfOut := h.udfOut ++ [(ep, h.bufBytes buf n)] }.wr busy 0).irq 0xA1 irq

theorem Hub.Canon.inSent {h : Hub} (C : h.Canon) {ep n irq : Nat} {buf busy : Fld} : (h.inSent ep buf busy n irq).Canon :=
  have C' : ({ h with udfOut := h.udfOut ++ [(ep, h.bufBytes buf n)] } : Hub).Canon := ⟨C.regs, C.tab, C.fmem⟩
  Hub.irq_canon C'.wr

theorem Hub.Canon.inSent_shows {h : Hub} (C : h.Canon) (ep : Nat) (buf : Fld) {busy : Fld} {n irq : Nat}
    (apart : HDR.ISTAT.place ≠ busy.place) (small : irq < 32) :
    let g := h.inSent ep buf busy n irq
    g.udfOut = h.udfOut ++ [(ep, h.bufBytes buf n)] ∧ g.rd busy = 0 ∧ g.bit HDR.ISTAT irq 0xA1 = true := by
  have C' : ({ h with udfOut := h.udfOut ++ [(ep, h.bufBytes buf n)] } : Hub).Canon := ⟨C.regs, C.tab, C.fmem⟩
  exact ⟨Hub.irq_same.udfOut (by decide), (rd_irq_place apart).trans (C'.rd_wr.trans (Nat.zero_mod _)), C'.wr.bit_irq rfl small⟩

/-- The data that endpoint 0 has ready goes to the host; a short packet ends the stage. -/
theorem Hub.Canon.inToken_zero {h : Hub} (C : h.Canon) (go : h.on UDF.hStall = false) (stage : h.rd UDF.STAT_CSTATE = 1)
    (busy : h.on UDF.EP0CTL_BUSY = true) :
    let g := h.inToken 0
    g.udfOut = h.udfOut ++ [(0, h.bufBytes UDF.EP0BUF (min 64 (h.rd UDF.EP0CTL_LEN)))] ∧ g.rd UDF.EP0CTL_BUSY = 0 ∧
      g.bit HDR.ISTAT 1 0xA1 = true ∧ g.rd UDF.STAT_CSTATE = (if h.rd UDF.EP0CTL_LEN < 64 then 3 else 1) := by
  have e : h.inToken 0 = (h.inSent 0 UDF.EP0BUF UDF.EP0CTL_BUSY (min 64 (h.rd UDF.EP0CTL_LEN)) 1).when
      (decide (min 64 (h.rd UDF.EP0CTL_LEN) < 64)) fun h => h.wr UDF.STAT_CSTATE 3 := by
    unfold Hub.inToken
    rw [if_pos rfl, go, if_neg Bool.false_ne_true, if_neg (by rw [stage]; decide), if_pos ⟨stage, busy⟩]
    rfl
  have CS : (h.inSent 0 UDF.EP0BUF UDF.EP0CTL_BUSY (min 64 (h.rd UDF.EP0CTL_LEN)) 1).Canon :=
    C.inSent
  obtain ⟨out, free, irq⟩ := C.inSent_shows 0 UDF.EP0BUF (busy := UDF.EP0CTL_BUSY) (n := min 64 (h.rd UDF.EP0CTL_LEN)) (irq := 1)
    (by decide) (by decide)
  have stage' : (h.inSent 0 UDF.EP0BUF UDF.EP0CTL_BUSY (min 64 (h.rd UDF.EP0CTL_LEN)) 1).rd UDF.STAT_CSTATE = 1 :=
    ((rd_irq_place (by decide)).trans (rd_wr_place (by decide))).trans stage
  rw [e]
  by_cases short : h.rd UDF.EP0CTL_LEN < 64
  · rw [decide_eq_true (by omega), Hub.when_true, if_pos short]
    exact ⟨out, (rd_wr_place (by decide)).trans free, (bit_wr_place (by decide)).trans irq, CS.rd_wr⟩
  · rw [decide_eq_false (by omega), Hub.when_false, if_neg short]
    exact ⟨out, free, irq, stage'⟩

/-! ### Endpoints 1 and 2 (R492) -/

theorem Hub.Canon.ep1Out_shows {h : Hub} (C : h.Canon) (data : Bytes) :
    let g := ((h.setBuf UDF.EP1OUT (data.take 512)).wr UDF.EP1CTL_OUTLEN (min 512 data.length) |>.wr UDF.EP1CTL_OUTFULL 1).irq 0xA1 3
    g.rd UDF.EP1CTL_OUTLEN = min 512 data.length ∧ g.rd UDF.EP1CTL_OUTFULL = 1 ∧ g.bit HDR.ISTAT 3 0xA1 = true ∧
      g.bufBytes UDF.EP1OUT (min 512 data.length) = data.take 512 := by
  have CB : (h.setBuf UDF.EP1OUT (data.take 512)).Canon := C.setBuf
  have small : min 512 data.length ≤ 4 * 128 := min_le_left _ _
  refine ⟨?_, (rd_irq_place (by decide)).trans CB.wr.rd_wr, CB.wr.wr.bit_irq rfl (by decide), ?_⟩
  · rw [rd_irq_place (by decide), rd_wr_place (by decide), CB.rd_wr]
    exact Nat.mod_eq_of_lt (lt_of_le_of_lt (min_le_left _ _) (by decide))
  · rw [bufBytes_irq (m := 128) (by decide) small, bufBytes_wr (m := 128) (by decide) small, bufBytes_wr (m := 128) (by decide) small]
    exact C.bufBytes_setBuf_packet rfl data (by decide)

theorem inToken_one {h : Hub} (en : h.on UDF.CTL_EP1_EN = true) (conf : h.on UDF.STAT_CONFIGURED = true)
    (busy : h.on UDF.EP1CTL_INBUSY = true) (go : h.on UDF.EP1CTL_HALT_IN = false) :
    h.inToken 1 = h.inSent 1 UDF.EP1IN UDF.EP1CTL_INBUSY (min 512 (h.rd UDF.EP1CTL_INLEN)) 2 := by
  unfold Hub.inToken
  rw [if_neg (by decide), if_pos rfl, en, conf, busy, go]
  rfl

theorem inToken_two {h : Hub} (en : h.on UDF.CTL_EP2_EN = true) (conf : h.on UDF.STAT_CONFIGURED = true)
    (busy : h.on UDF.EP2CTL_BUSY = true) (go : h.on UDF.hHalt2 = false) :
    h.inToken 2 = h.inSent 2 UDF.EP2IN UDF.EP2CTL_BUSY (min 64 (h.rd UDF.EP2CTL_LEN)) 4 := by
  unfold Hub.inToken
  rw [if_neg (by decide), if_neg (by decide), en, conf, busy, go]
  rfl

/-! ### The wake (R493) -/

/-- What WAKE.REQ does. -/
def Hub.wakeAsked (h : Hub) (x : Cap) : Hub :=
  if h.on UDF.STAT_SUSPENDED && h.on UDF.STAT_RWAKE_EN then h.wr UDF.WAKE_PENDING 1
  else if h.on UDF.STAT_RWAKE_EN && h.resuming then h.wakeAbsorbed else h.raise 0xA1 0 x

theorem Hub.Canon.wakeAsked_shows {h : Hub} (C : h.Canon) (x : Cap) :
    let g := h.wakeAsked x
    (h.on UDF.STAT_SUSPENDED = true → h.on UDF.STAT_RWAKE_EN = true → g.rd UDF.WAKE_PENDING = 1) ∧
      (h.on UDF.STAT_RWAKE_EN = false ∨ h.on UDF.STAT_SUSPENDED = false ∧ h.resuming = false → g.bit HDR.ESTAT 0 0xA1 = true) ∧
      (h.on UDF.STAT_RWAKE_EN = true → h.on UDF.STAT_SUSPENDED = false → h.resuming = true →
        g.rd UDF.WAKE_ABSORBED_COUNT = h.oneMore UDF.WAKE_ABSORBED_COUNT) := by
  unfold Hub.wakeAsked
  refine ⟨fun susp en => ?_, fun refused => ?_, fun en awake resuming => ?_⟩
  · rw [susp, en]
    exact C.rd_wr
  · have err : (h.raise 0xA1 0 x).bit HDR.ESTAT 0 0xA1 = true := C.bit_raise rfl (by decide)
    rcases refused with off | ⟨awake, still⟩
    · rw [off, Bool.and_false, Bool.false_and]
      exact err
    · rw [awake, still, Bool.false_and, Bool.and_false]
      exact err
  · rw [en, awake, resuming]
    refine C.wr.rd_cnt.trans ?_
    rw [rd_wr_place (by decide)]
    rfl

end Sys2Proof.Machine

open Sys2Proof Sys2Proof.Machine

/-- Settles O20, clause by clause. -/
theorem usbDeviceCommandsComplete : Obligations.UsbDeviceCommandsComplete := by
  intro s I
  have C : s.hub.Canon := I
  have CL (m : MasterId) : (s.hub.dropLatch m).Canon := C.dropLatch
  have CS : s.hub.setupStart.Canon := C.setupStart
  refine ⟨?address, ?configuration, ?other, ?ep0Go, ?ep0Stall, ?statusGo, ?ep0Out, ?ep1In, ?ep1Out, ?ep2In, ?in0, ?in1, ?in2, ?wake⟩
  case address =>
    intro bytes live typ rq
    refine completes_when (p := Hub.udfLive) (f := fun _ h => h.setupIn bytes) rfl live ?_
    rw [setupIn_of_address typ rq, CS.rd_wr]
    exact Nat.mod_mod _ _
  case configuration =>
    intro bytes live typ rq
    obtain ⟨lo, hi, -, -, irq⟩ := (CS.wr (F := UDF.STAT_CONFIGURED) (v := bnat (leAt bytes 2 2 != 0)) (i := 0) (b := 0)).setupPass_shows
      bytes
    refine completes_when (p := Hub.udfLive) (f := fun _ h => h.setupIn bytes) rfl live ?_
    rw [setupIn_of_configuration typ rq]
    refine ⟨?_, lo, hi, irq⟩
    rw [rd_setupPass_apart (by decide), CS.rd_wr]
    by_cases zero : leAt bytes 2 2 = 0
    · rw [if_pos zero, zero]
      rfl
    · rw [if_neg zero, bne_iff_ne.2 zero]
      rfl
  case other =>
    intro bytes live rq
    obtain ⟨lo, hi, stage, count, irq⟩ := CS.setupPass_shows bytes
    refine completes_when (p := Hub.udfLive) (f := fun _ h => h.setupIn bytes) rfl live ?_
    rw [setupIn_of_other rq]
    refine ⟨lo, hi, stage, ?_, irq, fun busy => ?_⟩
    · rw [count, Hub.oneMore, rd_setupStart_apart (by decide)]
      rfl
    · rw [rd_setupPass_apart (by decide), rd_setupPass_apart (by decide)]
      exact C.setupStart_shows busy
  case ep0Go =>
    intro r len A
    refine completes_go (f := fun h => (h.wr UDF.EP0CTL_LEN len).when (h.rd UDF.STAT_CSTATE == 1 || h.rd UDF.STAT_CSTATE == 2) fun h =>
      h.wr UDF.EP0CTL_BUSY 1) rfl A ⟨?_, fun stage => ?_⟩
    · exact (rd_when_of_rd (rd_wr_place (by decide))).trans (CL r.master).rd_wr
    · have go : (s.hub.rd UDF.STAT_CSTATE == 1 || s.hub.rd UDF.STAT_CSTATE == 2) = true := by
        simpa only [Bool.or_eq_true, beq_iff_eq] using stage
      rw [Hub.written_rd, Hub.dropLatch_rd, go]
      exact (CL r.master).wr.rd_wr
  case ep0Stall =>
    intro r A
    exact completes_go (f := fun h => h.ep0Drop.wr UDF.hStall 1) rfl A (CL r.master).ep0Stall_shows
  case statusGo =>
    intro r A out
    refine completes_go (f := fun h => h.when (!h.on UDF.hIn && h.on UDF.STAT_CSTATE) fun h => h.ep0Drop) rfl A ?_
    have out' : (s.hub.dropLatch r.master).on UDF.hIn = false := out
    rw [Hub.written_rd, out', Bool.not_false, Bool.true_and]
    cases busy : (s.hub.dropLatch r.master).on UDF.STAT_CSTATE
    · rw [Hub.when_false]
      simpa [Hub.on] using busy
    · rw [Hub.when_true]
      exact (CL r.master).rd_ep0Drop.1
  case ep0Out =>
    exact fun data live go out stage busy => completes_when (p := Hub.udfLive) (f := fun _ h => h.ep0Out data) rfl live
      (C.ep0Out_shows data go out stage busy)
  case ep1In =>
    exact fun r len A => completes_go (f := fun h => (h.wr UDF.EP1CTL_INLEN len).wr UDF.EP1CTL_INBUSY 1) rfl A
      ((CL r.master).rd_wr_wr (F := UDF.EP1CTL_INLEN) (G := UDF.EP1CTL_INBUSY) (v := len) (w := 1) (by decide))
  case ep1Out =>
    exact fun data live en conf full go => completes_when (p := fun h => h.udfLive && h.on UDF.CTL_EP1_EN && h.on UDF.STAT_CONFIGURED &&
      !h.on UDF.EP1CTL_OUTFULL && !h.on UDF.EP1CTL_HALT_OUT) (f := fun _ h => ((h.setBuf UDF.EP1OUT (data.take 512)).wr
        UDF.EP1CTL_OUTLEN (min 512 data.length) |>.wr UDF.EP1CTL_OUTFULL 1).irq 0xA1 3) rfl (by rw [live, en, conf, full, go]; rfl)
      (C.ep1Out_shows data)
  case ep2In =>
    exact fun r len A => completes_go (f := fun h => (h.wr UDF.EP2CTL_LEN len).wr UDF.EP2CTL_BUSY 1) rfl A
      ((CL r.master).rd_wr_wr (F := UDF.EP2CTL_LEN) (G := UDF.EP2CTL_BUSY) (v := len) (w := 1) (by decide))
  case in0 =>
    exact fun live go stage busy => completes_when (p := Hub.udfLive) (f := fun _ h => h.inToken 0) rfl live (C.inToken_zero go stage busy)
  case in1 =>
    intro live en conf busy go
    refine completes_when (p := Hub.udfLive) (f := fun _ h => h.inToken 1) rfl live ?_
    rw [inToken_one en conf busy go]
    exact C.inSent_shows 1 UDF.EP1IN (by decide) (by decide)
  case in2 =>
    intro live en conf busy go
    refine completes_when (p := Hub.udfLive) (f := fun _ h => h.inToken 2) rfl live ?_
    rw [inToken_two en conf busy go]
    exact C.inSent_shows 2 UDF.EP2IN (by decide) (by decide)
  case wake =>
    exact fun r A => completes_go (f := fun h => h.wakeAsked (Hub.regCap r UDF.WAKE_REQ 0)) rfl A ((CL r.master).wakeAsked_shows _)
end

section
/-! PROOFS. Alarms: an error or interrupt bit that is set stays set under every operation that only raises others. -/

namespace Sys2Proof.Machine

open Sys2Proof

/-- Bit `m` of the error or interrupt register `F` of page `q` is set. -/
structure Hub.Alarm (F : Fld) (m q : Nat) (h : Hub) : Prop where
  fld : F = HDR.ESTAT ∨ F = HDR.ISTAT
  small : m < 32
  canon : h.Canon
  bit : h.bit F m q = true

namespace Hub.Alarm

variable {F G : Fld} {m q : Nat} {h g : Hub}

theorem of_rd (A : h.Alarm F m q) (C : g.Canon) (e : g.rd F q = h.rd F q) : g.Alarm F m q :=
  ⟨A.fld, A.small, C, (bit_of_rd e).trans A.bit⟩

theorem of_regs (A : h.Alarm F m q) (C : g.Canon) (e : g.regs = h.regs) : g.Alarm F m q :=
  A.of_rd C (congrArg (Tab.get (F.dflt 0) (F.key q 0)) e)

theorem wr (A : h.Alarm F m q) {v i b : Nat} (e : G.place ≠ HDR.ESTAT.place ∧ G.place ≠ HDR.ISTAT.place) : (h.wr G v i b).Alarm F m q :=
  A.of_rd A.canon.wr (rd_wr_place (by rcases A.fld with rfl | rfl; exacts [e.1, e.2]))

theorem cnt (A : h.Alarm F m q) {i b : Nat} (e : G.place ≠ HDR.ESTAT.place ∧ G.place ≠ HDR.ISTAT.place) : (h.cnt G i b).Alarm F m q :=
  A.wr e

theorem wrBit (A : h.Alarm F m q) {n i b : Nat} {v : Bool} (e : G.place ≠ HDR.ESTAT.place ∧ G.place ≠ HDR.ISTAT.place) :
    (h.wrBit G n v i b).Alarm F m q := A.wr e

theorem wrFree (A : h.Alarm F m q) {i b : Nat} (e : G.place ≠ HDR.ESTAT.place ∧ G.place ≠ HDR.ISTAT.place) :
    (h.wrFree G i b).Alarm F m q :=
  A.of_rd A.canon.wrFree (rd_wrFree_place (by rcases A.fld with rfl | rfl; exacts [e.1, e.2]))

theorem when (A : h.Alarm F m q) {c : Bool} {f : Hub → Hub} (e : (f h).Alarm F m q) : (h.when c f).Alarm F m q := by
  cases c
  · exact A
  · exact e

theorem each (A : h.Alarm F m q) {α : Type} {l : List α} {f : α → Hub → Hub} (e : ∀ a g, g.Alarm F m q → (f a g).Alarm F m q) :
    (h.each l f).Alarm F m q := keep_each (P := fun g => g.Alarm F m q) e A

theorem irq (A : h.Alarm F m q) {pg n : Nat} : (h.irq pg n).Alarm F m q := by
  refine ⟨A.fld, A.small, Hub.irq_canon A.canon, ?_⟩
  rcases A.fld with rfl | rfl
  · exact (bit_of_rd (rd_irq_place (by decide))).trans A.bit
  · exact A.canon.bit_irq_of_bit A.small A.bit

/-- An error that occurs sets its bit, and may set ISTAT.ERR. -/
theorem raiseBit (A : h.Alarm F m q) {pg n : Nat} {x : Cap} : (h.raiseBit pg n x).Alarm F m q := by
  refine ⟨A.fld, A.small, Hub.raiseBit_canon A.canon, ?_⟩
  rcases A.fld with rfl | rfl
  · exact A.canon.bit_raiseBit_of_bit A.small A.bit
  · have set : (h.wrBit HDR.ESTAT n true pg).bit HDR.ISTAT m q = true := (bit_wrBit_place (by decide)).trans A.bit
    unfold Hub.raiseBit
    dsimp only
    split
    · refine (bit_of_rd (rd_startEsc_place (.inr rfl))).trans ((Hub.capture_canon A.canon.wrBit).bit_irq_of_bit A.small ?_)
      exact (bit_of_rd (rd_capture_place (.inr rfl))).trans set
    · exact set

theorem locketPut (A : h.Alarm F m q) {r : LkRec} : (h.locketPut r).Alarm F m q := by
  have counted : (h.cnt LKT.CNT_LOST_COUNT).Alarm F m q := A.cnt (by decide)
  refine ⟨A.fld, A.small, Hub.locketPut_canon A.canon, ?_⟩
  unfold Hub.locketPut
  split
  · exact (bit_of_rd (Hub.rd_with_lkQueue _ _ _ _ _)).trans A.bit
  · dsimp only
    split
    · exact counted.bit
    · exact counted.raiseBit.bit

theorem raise (A : h.Alarm F m q) {pg n : Nat} {x : Cap} : (h.raise pg n x).Alarm F m q := by
  have summed : ((h.raiseBit pg n x).refreshSummary).Alarm F m q :=
    A.raiseBit.of_rd (Hub.refreshSummary_canon A.raiseBit.canon)
      (rd_refreshSummary_place (by rcases A.fld with rfl | rfl <;> decide))
  unfold Hub.raise
  split
  · exact A
  · dsimp only
    split
    · split
      · exact summed.locketPut
      · exact summed
    · exact A.raiseBit

end Hub.Alarm

/-- An error that occurs is shown. -/
theorem Hub.Canon.alarm_raise {h : Hub} (C : h.Canon) {pg n : Nat} {x : Cap} (p : secondPage pg = false) (hn : n < 32) :
    (h.raise pg n x).Alarm HDR.ESTAT n pg := ⟨.inl rfl, hn, Hub.raise_canon C, C.bit_raise p hn⟩

/-- An event that occurs is shown. -/
theorem Hub.Canon.alarm_irq {h : Hub} (C : h.Canon) {pg n : Nat} (p : noIrq pg = false) (hn : n < 32) :
    (h.irq pg n).Alarm HDR.ISTAT n pg := ⟨.inr rfl, hn, Hub.irq_canon C, C.bit_irq p hn⟩

end Sys2Proof.Machine
end

section
/-! PROOFS. PCI Express and frame memory: where each command completes (R433, R437 to R452, R707). -/

namespace Sys2Proof.Machine

open Sys2Proof

theorem on_eq_false {h : Hub} {F : Fld} {i b : Nat} (e : h.rd F i b = 0) : h.on F i b = false := by
  unfold Hub.on
  rw [e]
  rfl

/-! ### The endpoint's configuration (R440) -/

/-- Word `j` of what a function-level reset clears: the MSI-X table, and its pending bits behind it. -/
def msixWord (j : Nat) : Fld := if j < 256 then PCI.MSIX_TABLE.word j else PCI.MSIX_PBA.word (j - 256)

theorem clearConfig_eq (h : Hub) : h.clearConfig =
    ((h.wr PCI.CMDSTAT_BME 0).wr PCI.CMDSTAT_MSIX_EN 0).each (List.range 258) fun j h => h.wr (msixWord j) 0 := by
  unfold Hub.clearConfig msixWord
  congr 1
  funext j h
  split_ifs <;> rfl

theorem msixWord_place_ne {j k : Nat} (hj : j < 256) (hk : k < 258) (e : k ≠ j) : (msixWord k).place ≠ (PCI.MSIX_TABLE.word j).place := by
  unfold msixWord
  split_ifs with low
  · exact word_place_ne (by omega) (by omega) e
  · have pba : ∀ i < 2, (PCI.MSIX_PBA.word i).Outside PCI.MSIX_TABLE 256 := by decide
    exact (place_ne_of_outside (pba (k - 256) (by omega)) hj).symm

/-- A register apart from the table and its pending bits. -/
theorem msixWord_place_apart {F : Fld} (table : F.Outside PCI.MSIX_TABLE 256) (pba : F.Outside PCI.MSIX_PBA 2) {k : Nat} (hk : k < 258) :
    (msixWord k).place ≠ F.place := by
  unfold msixWord
  split_ifs with low
  · exact place_ne_of_outside table low
  · exact place_ne_of_outside pba (by omega)

theorem Hub.Canon.clearConfig_shows {h : Hub} (C : h.Canon) :
    h.clearConfig.rd PCI.CMDSTAT_BME = 0 ∧ h.clearConfig.rd PCI.CMDSTAT_MSIX_EN = 0 ∧
      ∀ j : Nat, j < 256 → h.clearConfig.rd (PCI.MSIX_TABLE.word j) = 0 := by
  have keep {F : Fld} (apart : ∀ k < 258, (msixWord k).place ≠ F.place) (g : Hub) :
      (g.each (List.range 258) fun j h => h.wr (msixWord j) 0).rd F = g.rd F :=
    keep_each_mem (P := fun k => k.rd F = g.rd F) (fun j hj k same => (rd_wr_place (apart j (List.mem_range.1 hj))).trans same) rfl
  rw [clearConfig_eq]
  refine ⟨?_, ?_, fun j hj => ?_⟩
  · rw [keep (fun _ => msixWord_place_apart (by decide) (by decide)), rd_wr_place (by decide)]
    exact C.rd_wr
  · rw [keep (fun _ => msixWord_place_apart (by decide) (by decide))]
    exact C.wr.rd_wr
  · refine (keep_foldl_of_mem (C := Hub.Canon) (Q := fun g => g.rd (PCI.MSIX_TABLE.word j) = 0) (fun _ _ _ C => C.wr)
      (fun g k hk ne _ e => ?_) (fun _ C => ?_) C.wr.wr (List.mem_range.2 (by omega : j < 258))).2
    · exact (rd_wr_place (msixWord_place_ne hj (List.mem_range.1 hk) ne)).trans e
    · rw [msixWord, if_pos hj, C.rd_wr, Nat.zero_mod]

theorem reads_dropHostReads (h : Hub) : (h.dropHostReads.reads.all fun p => !p.2.fromBus) = true := by
  have e : h.dropHostReads.reads = h.reads.filter fun p => !p.2.fromBus := Hub.retryReads_same.reads (by decide)
  rw [e, List.all_filter]
  simp

/-- What a function-level reset leaves. -/
theorem Hub.Canon.flr_shows {h : Hub} (C : h.Canon) :
    let g := h.clearConfig.dropHostReads.raise 0x81 2
    g.rd PCI.CMDSTAT_BME = 0 ∧ g.rd PCI.CMDSTAT_MSIX_EN = 0 ∧ g.bit HDR.ESTAT 2 0x81 = true ∧
      (∀ j : Nat, j < 256 → g.rd (PCI.MSIX_TABLE.word j) = 0) ∧ (g.reads.all fun p => !p.2.fromBus) = true := by
  obtain ⟨bme, en, table⟩ := C.clearConfig_shows
  have same {F : Fld} (pci : F.kind = Kind.pci) : (h.clearConfig.dropHostReads.raise 0x81 2).rd F = h.clearConfig.rd F := by
    rw [Hub.raise_rd (by rw [pci]; decide), Hub.dropHostReads_rd (by rw [pci]; decide)]
  have reads : (h.clearConfig.dropHostReads.raise 0x81 2).reads = h.clearConfig.dropHostReads.reads := Hub.raise_same.reads (by decide)
  refine ⟨(same (by decide)).trans bme, (same (by decide)).trans en, ?_, fun j hj => (same (F := PCI.MSIX_TABLE.word j) (kind_word_PCI_MSIX_TABLE j)).trans (table j hj), ?_⟩
  · exact Hub.Canon.bit_raise (Hub.dropHostReads_canon (Hub.clearConfig_canon C)) rfl (by decide)
  · rw [reads]
    exact reads_dropHostReads _

/-! ### The link (R433, R449, R450, R707) -/

/-- The registers of the PHY, and the largest payload, which training finds. -/
def trainedFlds : List Fld := [PPH.LANEMAP_REVERSED, PPH.LANEMAP_POLINV, PCI.hMps, PPH.LEYE_HEIGHT, PPH.LEYE_WIDTH]

theorem rd_pcieTrained_apart {h : Hub} {F : Fld} {i b : Nat} (pci : F.kind = Kind.pci) (apart : ∀ G ∈ trainedFlds, G.place ≠ F.place) :
    h.pcieTrained.rd F i b = h.rd F i b := by
  unfold Hub.pcieTrained
  dsimp only
  refine Eq.trans (keep_each (P := fun k => k.rd F i b = _) (fun l k same => ?_) rfl) ?_
  · exact (rd_wrFree_place (apart _ (by decide))).trans ((rd_wrFree_place (apart _ (by decide))).trans same)
  · refine (rd_when_of_rd (Hub.raise_rd (by rw [pci]; decide))).trans ((rd_wr_place (apart _ (by decide))).trans ?_)
    exact (rd_wrFree_place (apart _ (by decide))).trans (rd_wrFree_place (apart _ (by decide)))

theorem Hub.Alarm.pcieTrained {F : Fld} {m q : Nat} {h : Hub} (A : h.Alarm F m q) : h.pcieTrained.Alarm F m q := by
  have found : (((h.wrFree PPH.LANEMAP_REVERSED).wrFree PPH.LANEMAP_POLINV).free.2).Alarm F m q :=
    ((A.wrFree (by decide)).wrFree (by decide)).of_regs (Hub.free_canon A.canon.wrFree.wrFree) rfl
  exact ((found.wr (by decide)).when (found.wr (by decide)).raise).each fun l g A => (A.wrFree (by decide)).wrFree (by decide)

/-- The registers of a link that comes up or goes down, before training and the errors. -/
def Hub.linkSet (h : Hub) (up : Bool) (speed width ltssm : Nat) : Hub :=
  h.wr PCI.LSTAT_LTSSM ltssm |>.wr PCI.LSTAT_SPEED (if up then min speed (h.rd PCI.MODE_MAXGEN) else 0)
    |>.wr PCI.LSTAT_WIDTH (if up then min width h.pcieLanes else 0) |>.wr PCI.LSTAT_DL_UP (bnat up)
    |>.wrBit TXB.SBLOCAL_BITS 0 up |>.wrBit TXB.SBLOCAL_BITS 1 up

theorem Hub.Canon.linkSet {h : Hub} (C : h.Canon) {up : Bool} {speed width ltssm : Nat} : (h.linkSet up speed width ltssm).Canon :=
  C.wr.wr.wr.wr.wrBit.wrBit

theorem pcieLink_eq (h : Hub) (up : Bool) (speed width ltssm : Nat) : h.pcieLink up speed width ltssm =
    (((h.linkSet up speed width ltssm).when (h.on PCI.LSTAT_DL_UP != up) fun h => h.irq 0x81 0).when
      (h.on PCI.LSTAT_DL_UP && !up) fun h => h.raise 0x81 0).when (up && !h.on PCI.LSTAT_DL_UP) fun g =>
        g.pcieTrained.when (decide (width < g.pcieLanes)) fun h => h.raise 0x82 1 := rfl

/-- The link's own fields stand as they were written before training and the errors. -/
theorem rd_pcieLink {h : Hub} {up : Bool} {speed width ltssm i b : Nat} {F : Fld} (pci : F.kind = Kind.pci)
    (apart : ∀ G ∈ HDR.ISTAT :: trainedFlds, G.place ≠ F.place) :
    (h.pcieLink up speed width ltssm).rd F i b = (h.linkSet up speed width ltssm).rd F i b := by
  have calm (pg n : Nat) (g : Hub) : (g.raise pg n).rd F i b = g.rd F i b := Hub.raise_rd (by rw [pci]; decide)
  have trained (g : Hub) : g.pcieTrained.rd F i b = g.rd F i b :=
    rd_pcieTrained_apart pci fun G m => apart G (List.mem_cons_of_mem _ m)
  rw [pcieLink_eq]
  refine (rd_when_of_rd ?_).trans ?_
  · exact (rd_when_of_rd (calm 0x82 1 _)).trans (trained _)
  exact (rd_when_of_rd (calm _ _ _)).trans (rd_when_of_rd (rd_irq_place (apart _ List.mem_cons_self)))

theorem Hub.Canon.pcieLink_shows {h : Hub} (C : h.Canon) (up : Bool) (speed width ltssm : Nat) :
    let g := h.pcieLink up speed width ltssm
    g.rd PCI.LSTAT_DL_UP = bnat up ∧ g.rd PCI.LSTAT_LTSSM = ltssm % 2 ^ PCI.LSTAT_LTSSM.w ∧
      g.rd PCI.LSTAT_SPEED = (if up then min speed (h.rd PCI.MODE_MAXGEN) else 0) % 2 ^ PCI.LSTAT_SPEED.w ∧
      (h.on PCI.LSTAT_DL_UP ≠ up → g.bit HDR.ISTAT 0 0x81 = true) ∧
      (h.on PCI.LSTAT_DL_UP = true → up = false → g.bit HDR.ESTAT 0 0x81 = true) := by
  have S : (h.linkSet up speed width ltssm).Canon := C.linkSet
  refine ⟨?_, ?_, ?_, fun moved => ?_, fun was down => ?_⟩
  · rw [rd_pcieLink (by decide) (by decide)]
    unfold Hub.linkSet
    simp +decide only [rd_wrBit_place, C.wr.wr.wr.rd_wr]
    cases up <;> rfl
  · rw [rd_pcieLink (by decide) (by decide)]
    unfold Hub.linkSet
    simp +decide only [rd_wrBit_place, rd_wr_place, C.rd_wr]
  · rw [rd_pcieLink (by decide) (by decide)]
    unfold Hub.linkSet
    simp +decide only [rd_wrBit_place, rd_wr_place, C.wr.rd_wr]
  · rw [pcieLink_eq, bne_iff_ne.2 moved, Hub.when_true]
    have A : ((h.linkSet up speed width ltssm).irq 0x81 0).Alarm HDR.ISTAT 0 0x81 := S.alarm_irq rfl (by decide)
    have B {c : Bool} : (((h.linkSet up speed width ltssm).irq 0x81 0).when c fun h => h.raise 0x81 0).Alarm HDR.ISTAT 0 0x81 :=
      A.when A.raise
    refine (B.when ?_).bit
    exact B.pcieTrained.when B.pcieTrained.raise
  · subst down
    rw [pcieLink_eq, was]
    simp only [Bool.bne_false, Bool.not_false, Bool.and_true, Bool.false_and, Hub.when_true, Hub.when_false]
    exact Hub.Canon.bit_raise (Hub.irq_canon S) rfl (by decide)

/-! ### Messages and vectors (R433, R449) -/

/-- The registers that say whether a page accepts work. -/
def upFlds : List Fld := [CLK.GSTAT_RUN, CLK.hUnlocked, CLK.PLLEN_EN, PDM.DOMON_ON, PDM.hDom, HDR.PSTAT_READY]

theorem up_of_rd {g h : Hub} (same : ∀ G ∈ upFlds, ∀ j c, g.rd G j c = h.rd G j c) (pg : Nat) : g.up pg = h.up pg := by
  have clock : g.clockRuns pg = h.clockRuns pg := by
    unfold Hub.clockRuns Hub.bit
    rw [same CLK.hUnlocked (by decide), same CLK.PLLEN_EN (by decide), same CLK.GSTAT_RUN (by decide)]
  unfold Hub.up Hub.domOn Hub.on Hub.bit
  rw [clock, same PDM.DOMON_ON (by decide), same PDM.hDom (by decide), same HDR.PSTAT_READY (by decide)]

theorem up_wr {h : Hub} {F : Fld} {v i b : Nat} (apart : ∀ G ∈ upFlds, F.place ≠ G.place) (pg : Nat) : (h.wr F v i b).up pg = h.up pg :=
  up_of_rd (fun G m _ _ => rd_wr_place (apart G m)) pg

theorem msix_of_open {h : Hub} {v : Nat} (up : h.up 0x81 = true) (mode : h.rd PCI.MODE_MODE = 1)
    (en : h.on PCI.CMDSTAT_MSIX_EN = true) (unmasked : (h.rd (PCI.MSIX_TABLE.word (4 * (v % 64) + 3))).testBit 0 = false) :
    h.msix v = { h with msixOut := h.msixOut ++ [v % 64] } := by
  unfold Hub.msix
  rw [up, mode, en, unmasked]
  rfl

theorem Hub.Canon.pcieMsg_shows {h : Hub} (C : h.Canon) (m : PcieMsg) :
    let g := h.pcieMsg m
    (m = .aerCor → g.rd PCI.AERRX_COR = 1 ∧ g.bit HDR.ISTAT 1 0x81 = true) ∧
      (m = .aerNonfatal → g.rd PCI.AERRX_NONFATAL = 1 ∧ g.bit HDR.ISTAT 1 0x81 = true) ∧
      (m = .aerFatal → g.rd PCI.AERRX_FATAL = 1 ∧ g.bit HDR.ESTAT 1 0x81 = true) ∧
      (∀ (l : Fin 4) (a : Bool), m = .intx l a → g.bit TXB.SBLOCAL_BITS (3 + l) = a) ∧
      (m = .pme → g.bit TXB.SBLOCAL_BITS 10 = true) := by
  refine ⟨?_, ?_, ?_, ?_, ?_⟩
  · rintro rfl
    exact ⟨(rd_wrBit_place (by decide)).trans ((rd_irq_place (by decide)).trans C.rd_wr),
      (bit_wrBit_place (by decide)).trans (C.wr.bit_irq rfl (by decide))⟩
  · rintro rfl
    exact ⟨(rd_wrBit_place (by decide)).trans ((rd_irq_place (by decide)).trans C.rd_wr),
      (bit_wrBit_place (by decide)).trans (C.wr.bit_irq rfl (by decide))⟩
  · rintro rfl
    exact ⟨(Hub.raise_rd (by decide)).trans ((rd_wrBit_place (by decide)).trans ((rd_irq_place (by decide)).trans C.rd_wr)),
      (Hub.irq_canon C.wr).wrBit.bit_raise rfl (by decide)⟩
  · rintro l a rfl
    exact C.bit_wrBit (Nat.lt_of_lt_of_le (Nat.add_lt_add_left l.isLt 3) (by decide))
  · rintro rfl
    exact C.bit_wrBit (by decide)

/-- Sending what is pending moves no register but the pending bits. -/
theorem rd_msixFlush_apart {h : Hub} {F : Fld} {i b : Nat} (pba : F.Outside PCI.MSIX_PBA 2) : h.msixFlush.rd F i b = h.rd F i b := by
  refine keep_each_mem (P := fun k => k.rd F i b = h.rd F i b) (fun v hv k same => ?_) rfl
  have small : v < 64 := List.mem_range.1 hv
  refine (rd_when_of_rd ?_).trans same
  have taken (c : Bool) (w : Nat) (hw : w < 64) (g : Hub) : (g.wrBit (PCI.MSIX_PBA.word (w / 32)) (w % 32) c).rd F i b = g.rd F i b :=
    rd_wrBit_place (place_ne_of_outside pba (by omega))
  unfold Hub.msix
  split_ifs
  · exact (rd_wrBit_place (place_ne_of_outside pba (by omega))).trans (taken _ _ small _)
  · exact taken _ _ small _
  · exact taken _ _ small _

/-! ### PERST (R707) -/

theorem Hub.Canon.pcieHold_down {h : Hub} (C : h.Canon) (mode : h.rd PCI.MODE_MODE = 1) (low : h.on PCI.hPerst = false) :
    h.pcieHold.rd PCI.LSTAT_DL_UP = 0 := by
  have no : h.pcieMayTrain = false := by
    unfold Hub.pcieMayTrain
    rw [mode, low]
    rfl
  unfold Hub.pcieHold
  rw [no, Bool.not_false, Bool.and_true]
  cases link : h.on PCI.LSTAT_DL_UP
  · exact bne_eq_false_iff_eq.1 link
  · exact (C.pcieLink_shows false 0 0 0).1

/-- Holding the link down moves no other register of the controller's page but the link's. -/
theorem rd_pcieHold {h : Hub} {F : Fld} {i b : Nat} (pci : F.kind = Kind.pci)
    (apart : ∀ G ∈ [HDR.ISTAT, PCI.LSTAT_LTSSM, PCI.LSTAT_SPEED, PCI.LSTAT_WIDTH, PCI.LSTAT_DL_UP, TXB.SBLOCAL_BITS] ++ trainedFlds,
      G.place ≠ F.place) : h.pcieHold.rd F i b = h.rd F i b := by
  have base (g : Hub) : (g.linkSet false 0 0 0).rd F i b = g.rd F i b := by
    unfold Hub.linkSet
    rw [rd_wrBit_place (apart _ (by decide)), rd_wrBit_place (apart _ (by decide)), rd_wr_place (apart _ (by decide)),
      rd_wr_place (apart _ (by decide)), rd_wr_place (apart _ (by decide)), rd_wr_place (apart _ (by decide))]
  refine rd_when_of_rd ((rd_pcieLink pci fun G m => apart G ?_).trans (base h))
  rcases List.mem_cons.1 m with rfl | m
  · exact List.mem_append_left _ List.mem_cons_self
  · exact List.mem_append_right _ m

/-! ### Frame memory (R444, R445, R452) -/

/-- Whether the memory is ready moves no register but READY and the bridge's bits. -/
theorem rd_refreshMem_place {h : Hub} {F : Fld} {i b : Nat} (e : MEM.STAT_READY.place ≠ F.place ∧ TXB.SBLOCAL_BITS.place ≠ F.place) :
    h.refreshMem.rd F i b = h.rd F i b := (rd_wrBit_place e.2).trans (rd_wr_place e.1)

/-- A memory that is not enabled, or not trained, is not ready. -/
theorem Hub.Canon.refreshMem_unready {h : Hub} (C : h.Canon) (no : h.on MEM.CFG_EN = false ∨ h.on MPH.TRAIN_DONE = false) :
    h.refreshMem.rd MEM.STAT_READY = 0 := by
  have bad : (h.up 0x88 && h.on MEM.CFG_EN && h.on MPH.TRAIN_DONE && !h.on MEM.WIPE_BUSY) = false := by
    rcases no with no | no <;> rw [no] <;> simp
  unfold Hub.refreshMem
  dsimp only
  rw [bad, rd_wrBit_place (by decide), C.rd_wr]
  rfl

theorem Hub.Alarm.refreshMem {F : Fld} {m q : Nat} {h : Hub} (A : h.Alarm F m q) : h.refreshMem.Alarm F m q :=
  (A.wr (by decide)).wrBit (by decide)

theorem Hub.Canon.memSetEn_shows {h : Hub} (C : h.Canon) {en : Bool} (x : Cap) (keys : en = true → h.memKeys = true) :
    (h.memSetEn en x).rd MEM.CFG_EN = bnat en ∧ (en = false → (h.memSetEn en x).rd MEM.STAT_READY = 0) := by
  cases en
  · exact ⟨(rd_refreshMem_place (by decide)).trans C.rd_wr, fun _ => C.wr.refreshMem_unready (.inl (on_eq_false C.rd_wr))⟩
  · have set : h.memSetEn true x = ((h.takeXtsKey).wr MEM.CFG_EN 1).refreshMem := by
      unfold Hub.memSetEn
      rw [keys rfl]
      rfl
    rw [set]
    exact ⟨(rd_refreshMem_place (by decide)).trans (Hub.takeXtsKey_canon C).rd_wr, fun no => absurd no (by decide)⟩

theorem Hub.Canon.memTrain_shows {h : Hub} (C : h.Canon) :
    h.memTrain.rd MPH.TRAIN_DONE = 0 ∧ h.memTrain.rd MPH.TRAIN_FAIL = 0 ∧ h.memTrain.rd MEM.STAT_READY = 0 := by
  have done : (((h.wr MPH.TRAIN_DONE 0).wr MPH.TRAIN_FAIL 0).wr MPH.TSTAT_CH_OK 0).rd MPH.TRAIN_DONE = 0 := by
    simp +decide only [rd_wr_place, C.rd_wr, Nat.zero_mod]
  refine ⟨(rd_refreshMem_place (by decide)).trans done, ?_, C.wr.wr.wr.refreshMem_unready (.inr (on_eq_false done))⟩
  unfold Hub.memTrain
  rw [rd_refreshMem_place (by decide), rd_wr_place (by decide), C.wr.rd_wr]
  rfl

/-- The trims that training found. -/
def Hub.trimsFound (h : Hub) (chOk : Nat) : Hub :=
  (h.wr MPH.TSTAT_CH_OK chOk).each (List.range 8) fun b h =>
    ((h.wrFree MPH.BTRIM_RDLY 0 b).wrFree MPH.BTRIM_WDLY 0 b).wrFree MPH.BTRIM_VREF 0 b

theorem Hub.Canon.trimsFound {h : Hub} (C : h.Canon) {chOk : Nat} : (h.trimsFound chOk).Canon :=
  keep_each (P := Hub.Canon) (fun _ _ C => C.wrFree.wrFree.wrFree) C.wr

theorem rd_trimsFound_place {h : Hub} {chOk i b : Nat} {F : Fld}
    (e : ∀ G ∈ [MPH.BTRIM_RDLY, MPH.BTRIM_WDLY, MPH.BTRIM_VREF], G.place ≠ F.place) :
    (h.trimsFound chOk).rd F i b = (h.wr MPH.TSTAT_CH_OK chOk).rd F i b :=
  keep_each (P := fun g => g.rd F i b = (h.wr MPH.TSTAT_CH_OK chOk).rd F i b) (fun _ _ same =>
    (rd_wrFree_place (e _ (by decide))).trans ((rd_wrFree_place (e _ (by decide))).trans
      ((rd_wrFree_place (e _ (by decide))).trans same))) rfl

/-- The wipe that is due starts. -/
def Hub.wipeStart (h : Hub) : Hub := h.wr MEM.WIPE_BUSY 1 |>.wr MEM.WIPE_DONE 0 |>.wr MEM.WIPE_PCT 0

theorem memTrained_eq (h : Hub) (chOk : Nat) : h.memTrained chOk =
    if chOk % 16 = 15 then
      (((h.trimsFound chOk).wr MPH.TRAIN_DONE 1).when ((h.trimsFound chOk).on MEM.hWipe) fun h => h.wipeStart).refreshMem
    else (((h.trimsFound chOk).wr MPH.TRAIN_FAIL 1).raise 0x89 0).refreshMem := rfl

theorem Hub.Canon.memTrained_shows {h : Hub} (C : h.Canon) (chOk : Nat) :
    let g := h.memTrained chOk
    g.rd MPH.TSTAT_CH_OK = chOk % 2 ^ MPH.TSTAT_CH_OK.w ∧
      (chOk % 16 = 15 → g.rd MPH.TRAIN_DONE = 1 ∧ (h.on MEM.hWipe = true → g.rd MEM.WIPE_BUSY = 1)) ∧
      (chOk % 16 ≠ 15 → g.rd MPH.TRAIN_FAIL = 1 ∧ g.bit HDR.ESTAT 0 0x89 = true) := by
  have T : (h.trimsFound chOk).Canon := C.trimsFound
  have channels : (h.trimsFound chOk).rd MPH.TSTAT_CH_OK = chOk % 2 ^ MPH.TSTAT_CH_OK.w :=
    (rd_trimsFound_place (by decide)).trans C.rd_wr
  have due : (h.trimsFound chOk).on MEM.hWipe = h.on MEM.hWipe :=
    congrArg (· != 0) ((rd_trimsFound_place (by decide)).trans (rd_wr_place (by decide)))
  have started {F : Fld} {g : Hub} {c : Bool} (e : ∀ G ∈ [MEM.WIPE_BUSY, MEM.WIPE_DONE, MEM.WIPE_PCT], G.place ≠ F.place) :
      (g.when c fun h => h.wipeStart).rd F = g.rd F :=
    rd_when_of_rd ((rd_wr_place (e _ (by decide))).trans ((rd_wr_place (e _ (by decide))).trans (rd_wr_place (e _ (by decide)))))
  rw [memTrained_eq]
  split_ifs with ok
  · refine ⟨?_, fun _ => ⟨?_, fun wipe => ?_⟩, fun bad => absurd ok bad⟩
    · rw [rd_refreshMem_place (by decide), started (by decide), rd_wr_place (by decide), channels]
    · rw [rd_refreshMem_place (by decide), started (by decide), T.rd_wr]
      rfl
    · rw [due, wipe, Hub.when_true, rd_refreshMem_place (by decide)]
      exact (rd_wr_place (by decide)).trans ((rd_wr_place (by decide)).trans T.wr.rd_wr)
  · refine ⟨?_, fun all => absurd all ok, fun _ => ⟨?_, (T.wr.alarm_raise rfl (by decide)).refreshMem.bit⟩⟩
    · rw [rd_refreshMem_place (by decide), Hub.raise_rd (by decide), rd_wr_place (by decide), channels]
    · rw [rd_refreshMem_place (by decide), Hub.raise_rd (by decide), T.rd_wr]
      rfl

theorem Hub.Canon.memWiped_shows {h : Hub} (C : h.Canon) (ms : Nat) :
    let g := h.memWiped ms
    g.fmem = [] ∧ g.rd MEM.WIPE_BUSY = 0 ∧ g.rd MEM.WIPE_DONE = 1 ∧ g.rd MEM.WIPE_PCT = 100 := by
  have E : ({ h with fmem := [] } : Hub).Canon := ⟨C.regs, C.tab, Tab.nil_wf _⟩
  refine ⟨Hub.refreshMem_same.fmem (by decide), ?_, ?_, ?_⟩ <;> unfold Hub.memWiped <;> rw [rd_refreshMem_place (by decide)]
  · simp +decide only [rd_wr_place, E.rd_wr, Nat.zero_mod]
  · simp +decide only [rd_wr_place, E.wr.wr.rd_wr]
  · simp +decide only [rd_wr_place, E.wr.wr.wr.rd_wr]

theorem Hub.Canon.wckTrack_shows {h : Hub} (C : h.Canon) (b rdly wdly vref : Nat) :
    let g := h.wckTrack b rdly wdly vref
    g.rd MPH.BTRIM_RDLY 0 b = rdly % 256 ∧ g.rd MPH.BTRIM_WDLY 0 b = wdly % 256 ∧ g.rd MPH.BTRIM_VREF 0 b = vref % 256 ∧
      (Hub.drifted (h.rd MPH.BTRIM_RDLY 0 b) (rdly % 256) = true → g.bit HDR.ESTAT 1 0x89 = true) := by
  have calm {F : Fld} (e : F.kind = Kind.mph) {c : Bool} {g : Hub} : (g.when c fun h => h.raise 0x89 1).rd F 0 b = g.rd F 0 b :=
    rd_when_of_rd (Hub.raise_rd (by rw [e]; decide))
  unfold Hub.wckTrack
  refine ⟨?_, ?_, ?_, fun far => ?_⟩
  · rw [calm (by decide)]
    simp +decide only [rd_wr_place, C.rd_wr]
    rfl
  · rw [calm (by decide)]
    simp +decide only [rd_wr_place, C.wr.rd_wr]
    rfl
  · rw [calm (by decide)]
    exact C.wr.wr.rd_wr
  · rw [far]
    exact C.wr.wr.wr.bit_raise rfl (by decide)

end Sys2Proof.Machine

open Sys2Proof Sys2Proof.Machine

/-- Settles O16, clause by clause, from what each operation leaves in the registers named. -/
theorem pcieAndMemoryCommandsComplete : Obligations.PcieAndMemoryCommandsComplete := by
  intro s I
  have C : s.hub.Canon := I
  have CL (m : MasterId) : (s.hub.dropLatch m).Canon := C.dropLatch
  refine ⟨?flr, ?link, ?vector, ?message, ?config, ?perst, ?enable, ?train, ?trained, ?wiped, ?promote, ?mr4, ?wck⟩
  case flr =>
    exact fun up mode => completes_when (p := fun h => h.up 0x81 && h.rd PCI.MODE_MODE == 1)
      (f := fun _ h => (h.clearConfig.dropHostReads).raise 0x81 2) rfl (by rw [up, mode]; rfl) C.flr_shows
  case link =>
    exact fun up speed width ltssm run may => completes_when (p := fun h => h.up 0x81 && (!up || h.pcieMayTrain))
      (f := fun _ h => h.pcieLink up speed width ltssm) rfl
      (by rw [run]; cases up; exacts [rfl, may rfl]) (C.pcieLink_shows up speed width ltssm)
  case vector =>
    intro r v A go up mode en unmasked
    refine completes_go (f := fun h => (h.wr PCI.MSIXREQ_VEC v).when (v.testBit 8) fun h => h.msix (v % 64)) rfl A ?_
    have table : PCI.MSIXREQ_VEC.place ≠ (PCI.MSIX_TABLE.word (4 * (v % 64) + 3)).place :=
      (place_ne_of_outside (n := 256) (by decide) (by omega)).symm
    have sent : ((s.hub.dropLatch r.master).wr PCI.MSIXREQ_VEC v).msix (v % 64) =
        { (s.hub.dropLatch r.master).wr PCI.MSIXREQ_VEC v with msixOut := s.hub.msixOut ++ [v % 64 % 64] } := by
      refine msix_of_open ((up_wr (by decide) _).trans up) ((rd_wr_place (by decide)).trans mode)
        ((congrArg (· != 0) (rd_wr_place (by decide))).trans en) ?_
      rw [Nat.mod_mod, rd_wr_place table]
      exact unmasked
    rw [Hub.written_msixOut, go, Hub.when_true, sent, Nat.mod_mod]
  case message =>
    exact fun m up mode link => completes_when (p := fun h => h.up 0x81 && h.rd PCI.MODE_MODE == 2 && h.on PCI.LSTAT_DL_UP)
      (f := fun _ h => h.pcieMsg m) rfl (by rw [up, mode, link]; rfl) (C.pcieMsg_shows m)
  case config =>
    refine fun bme msix up mode => completes_when (p := fun h => h.up 0x81 && h.rd PCI.MODE_MODE == 1)
      (f := fun _ h => ((h.wr PCI.CMDSTAT_BME (bnat bme)).wr PCI.CMDSTAT_MSIX_EN (bnat msix)).msixFlush) rfl
      (by rw [up, mode]; rfl) ⟨?_, ?_⟩
    · rw [rd_msixFlush_apart (by decide), rd_wr_place (by decide), C.rd_wr]
      cases bme <;> rfl
    · rw [rd_msixFlush_apart (by decide), C.wr.rd_wr]
      cases msix <;> rfl
  case perst =>
    refine fun high => completes_act (f := fun h => (h.wr PCI.hPerst (bnat high)).when (h.rd PCI.MODE_MODE == 1 && h.up 0x81)
      fun h => h.pcieHold) rfl ⟨?_, fun low mode up => ?_⟩
    · refine (rd_when_of_rd (rd_pcieHold (by decide) (by decide))).trans (C.rd_wr.trans ?_)
      cases high <;> rfl
    · subst low
      rw [mode, up]
      exact C.wr.pcieHold_down ((rd_wr_place (by decide)).trans mode) (on_eq_false C.rd_wr)
  case enable =>
    exact fun r en G keys => completes_reg (f := fun h => h.memSetEn en (Hub.regCap r MEM.CFG_EN 0)) rfl G
      ((CL r.master).memSetEn_shows _ keys)
  case train => exact fun r A => completes_go (f := fun h => h.memTrain) rfl A (CL r.master).memTrain_shows
  case trained =>
    exact fun chOk up done fail => completes_when (p := fun h => h.up 0x89 && !h.on MPH.TRAIN_DONE && !h.on MPH.TRAIN_FAIL)
      (f := fun _ h => h.memTrained chOk) rfl (by rw [up, done, fail]; rfl) (C.memTrained_shows chOk)
  case wiped =>
    exact fun ms up busy => completes_when (p := fun h => h.up 0x88 && h.on MEM.WIPE_BUSY)
      (f := fun _ h => h.memWiped ms) rfl (by rw [up, busy]; rfl) (C.memWiped_shows ms)
  case promote =>
    exact fun level ready low high => completes_when (p := fun h => h.memReady && decide (5 ≤ level ∧ level ≤ 7))
      (f := fun _ h => h.cnt MEM.CNT_PROMOTE_COUNT) rfl (by rw [ready, decide_eq_true ⟨low, high⟩]; rfl) C.rd_cnt
  case mr4 =>
    refine fun code above up => completes_when (p := fun h => h.up 0x88)
      (f := fun _ h => (h.wr MEM.STAT_TEMP code).when above fun h => h.raise 0x88 2) rfl up ⟨?_, fun high => ?_⟩
    · exact (rd_when_of_rd (Hub.raise_rd (by decide))).trans C.rd_wr
    · rw [high]
      exact C.wr.bit_raise rfl (by decide)
  case wck =>
    exact fun b rdly wdly vref up done track => completes_when
      (p := fun h => h.up 0x89 && h.on MPH.TRAIN_DONE && h.on MPH.TRACK_PERIOD_MS)
      (f := fun _ h => h.wckTrack b rdly wdly vref) rfl (by rw [up, done, track]; rfl) (C.wckTrack_shows b rdly wdly vref)
end

section
/-! PROOFS. Ethernet and the lume data ports: where each command completes (R453 to R471). -/

namespace Sys2Proof.Machine

open Sys2Proof

theorem get_put_concat {α : Type} [DecidableEq α] (k : Nat) (l : List α) (a : α) (t : Tab (List α)) :
    Tab.get [] k (Tab.put [] k (l ++ [a]) t) = l ++ [a] := by
  unfold Tab.put
  rw [if_neg (by simp)]
  exact Tab.get_ins_same _ _ _ _

theorem bits_lt (v lo w : Nat) : bits v lo w < 2 ^ w := Nat.mod_lt _ (Nat.two_pow_pos w)

/-- A field that no error that occurs can move. -/
abbrev Fld.Calm (F : Fld) : Prop :=
  Nat.testBit 0x2800000000000004000000000000000000000000000000000010000000000000000000000000400 F.kind = false

/-! ### Ethernet (R455 to R461, R469) -/

/-- A frame of an admitted length goes into the receive buffer whole. -/
theorem ethRx_whole {h : Hub} {m : Nat} {fcsOk : Bool} {fr : Bytes} (short : 64 ≤ fr.length) (data : be16 fr 12 ≠ 0x8808)
    (max : fr.length ≤ h.rd ETH.CFG_MAXLEN m) (cap : fr.length ≤ 9216) (room : h.macHeld m + fr.length ≤ 32768)
    (mapped : h.vmapIndex m fr ≠ 4095) (en : h.on ETH.VMAP_A_EN m (h.vmapIndex m fr) = true) :
    h.ethRx m fcsOk none fr = (h.inject 10 (frameCells (h.rd ETH.VMAP_A_ITID m (h.vmapIndex m fr))
      (if h.on ETH.VMAP_A_KIND m (h.vmapIndex m fr) then 1 else 5) (!fcsOk)
      (if h.vmapIndex m fr ≠ 0 ∧ h.on ETH.VMAP_A_STRIP m (h.vmapIndex m fr) = true then stripTag fr else fr))).cnt
        (if fcsOk then ETH.CNT_RXOK_COUNT else ETH.CNT_RXFCS_COUNT) m := by
  have fits : ¬32768 - h.macHeld m < fr.length := by omega
  have long : fr.length ≤ min 9216 (h.rd ETH.CFG_MAXLEN m) := Nat.le_min.2 ⟨cap, max⟩
  have strips : (h.vmapIndex m fr != 0 && h.on ETH.VMAP_A_STRIP m (h.vmapIndex m fr)) =
      decide (h.vmapIndex m fr ≠ 0 ∧ h.on ETH.VMAP_A_STRIP m (h.vmapIndex m fr) = true) := by
    rw [Bool.eq_iff_iff]
    simp
  unfold Hub.ethRx
  dsimp only
  rw [if_neg (Nat.not_lt.2 short), if_neg data, if_neg (by rw [en]; simp [mapped]), if_neg fits]
  dsimp only
  rw [List.take_of_length_le long, decide_eq_false (Nat.not_lt.2 long), Bool.false_or, if_neg Bool.false_ne_true, strips]
  cases fcsOk <;> simp

theorem ethRx_unmapped {h : Hub} {m : Nat} {fcsOk : Bool} {room : Option Nat} {fr : Bytes} (short : 64 ≤ fr.length)
    (data : be16 fr 12 ≠ 0x8808) (off : h.on ETH.VMAP_A_EN m (h.vmapIndex m fr) = false) :
    h.ethRx m fcsOk room fr = h.cnt ETH.CNT_NOMAP_COUNT m := by
  unfold Hub.ethRx
  dsimp only
  rw [if_neg (Nat.not_lt.2 short), if_neg data, if_pos (.inr off)]

theorem ethRx_control {h : Hub} {m : Nat} {fcsOk : Bool} {room : Option Nat} {fr : Bytes} (short : 64 ≤ fr.length)
    (control : be16 fr 12 = 0x8808) : h.ethRx m fcsOk room fr = h.cnt ETH.CNT_RXCTL_COUNT m := by
  unfold Hub.ethRx
  dsimp only
  rw [if_neg (Nat.not_lt.2 short), if_pos control]

theorem ethRx_runt {h : Hub} {m : Nat} {fcsOk : Bool} {room : Option Nat} {fr : Bytes} (short : fr.length < 64) :
    h.ethRx m fcsOk room fr = h.cnt ETH.CNT_RXRUNT_COUNT m := by
  unfold Hub.ethRx
  dsimp only
  rw [if_pos short]

theorem lt_of_ethMatch {h : Hub} {tid m v : Nat} (e : h.ethMatch tid = some (m, v)) : m < 2 := by
  obtain ⟨k, hk, e⟩ := List.exists_of_findSome?_eq_some e
  have small : k < 2 * 4095 := List.mem_range.1 hk
  split at e
  · obtain ⟨rfl, -⟩ := Prod.mk.inj (Option.some.inj e)
    omega
  · exact absurd e (by simp)

theorem Hub.Canon.ethTx_shows {h : Hub} (C : h.Canon) {tid m v : Nat} {poison : Bool} {fr : Bytes} (up : h.up (0x90 + m) = true)
    (e : h.ethMatch tid = some (m, v)) (keep : h.on ETH.VMAP_A_STRIP m v = false) :
    let g := h.ethTx tid poison fr
    Tab.get [] m g.ethOut = Tab.get [] m h.ethOut ++ [if poison then stomp fr else fr] ∧
      g.rd ETH.CNT_TXSTOMP_COUNT m = (if poison then h.oneMore ETH.CNT_TXSTOMP_COUNT m else h.rd ETH.CNT_TXSTOMP_COUNT m) ∧
      g.rd ETH.CNT_TXOK_COUNT m = (if poison then h.rd ETH.CNT_TXOK_COUNT m else h.oneMore ETH.CNT_TXOK_COUNT m) := by
  have S (t : Tab (List Bytes)) : ({ h with ethOut := t } : Hub).Canon := ⟨C.regs, C.tab, C.fmem⟩
  unfold Hub.ethTx
  rw [e]
  dsimp only
  rw [up, Hub.when_true, keep, if_neg Bool.false_ne_true]
  refine ⟨get_put_concat _ _ _ _, ?_, ?_⟩ <;> cases poison
  · exact rd_cnt_place (by decide)
  · exact (S _).rd_cnt
  · exact (S _).rd_cnt
  · exact rd_cnt_place (by decide)

/-- An entry that is off, or whose TIDs are assignable and whose ETID is free, is taken. -/
theorem Hub.Canon.vmapApply_shows {h : Hub} (C : h.Canon) {m a v : Nat} {x : Cap} (staged : h.rd ETH.hStage m = a + 1)
    (sel : h.rd ETH.VSEL_V m < 4095) (good : bits a 31 1 = 0 ∨ assignable (bits a 0 20) = true ∧ assignable (bits v 0 20) = true ∧
        (bits a 21 1 = 1 → h.rd ETH.VSEL_V m ≠ 0) ∧ h.ethMatch (bits v 0 20) = none) :
    let g := h.vmapApply m v x
    g.rd ETH.hStage m = 0 ∧ g.rd ETH.VMAP_A_ITID m (h.rd ETH.VSEL_V m) = bits a 0 20 ∧
      g.rd ETH.VMAP_A_KIND m (h.rd ETH.VSEL_V m) = bits a 20 1 ∧ g.rd ETH.VMAP_A_STRIP m (h.rd ETH.VSEL_V m) = bits a 21 1 ∧
      g.rd ETH.VMAP_A_PCP m (h.rd ETH.VSEL_V m) = bits a 24 3 ∧ g.rd ETH.VMAP_A_EN m (h.rd ETH.VSEL_V m) = bits a 31 1 ∧
      g.rd ETH.VMAP_B_ETID m (h.rd ETH.VSEL_V m) = bits v 0 20 := by
  unfold Hub.vmapApply
  dsimp only
  rw [if_neg (Nat.ne_of_lt sel), staged, if_neg (Nat.succ_ne_zero a), Nat.add_sub_cancel, if_neg]
  · simp +decide only [rd_wr_place, C.rd_wr, C.wr.rd_wr, C.wr.wr.rd_wr, C.wr.wr.wr.rd_wr, C.wr.wr.wr.wr.rd_wr,
      C.wr.wr.wr.wr.wr.rd_wr, C.wr.wr.wr.wr.wr.wr.rd_wr]
    exact ⟨trivial, Nat.mod_eq_of_lt (bits_lt a 0 20), Nat.mod_eq_of_lt (bits_lt a 20 1), Nat.mod_eq_of_lt (bits_lt a 21 1),
      Nat.mod_eq_of_lt (bits_lt a 24 3), Nat.mod_eq_of_lt (bits_lt a 31 1), Nat.mod_eq_of_lt (bits_lt v 0 20)⟩
  · rcases good with off | ⟨itid, etid, strip, free⟩
    · rw [off]
      simp
    · rw [itid, etid, free]
      simp only [Bool.not_true, Bool.false_or, Bool.or_false, Bool.and_eq_true, beq_iff_eq]
      exact fun ⟨_, one, zero⟩ => strip one zero

theorem secondPage_mac (m : Fin 2) : secondPage (0x90 + m) = false := by
  revert m; decide

theorem noIrq_mac (m : Fin 2) : noIrq (0x90 + m) = false := by
  revert m; decide

/-- What a link that comes up or goes down raises at its page. -/
theorem Hub.Canon.linkMoved_shows {h : Hub} (C : h.Canon) {pg : Nat} (first : secondPage pg = false) (irq : noIrq pg = false) (was up : Bool) :
    let g := (h.when (was != up) fun h => h.irq pg 0).when (was && !up) fun h => h.raise pg 0
    (was ≠ up → g.bit HDR.ISTAT 0 pg = true) ∧ (was = true → up = false → g.bit HDR.ESTAT 0 pg = true) := by
  refine ⟨fun moved => ?_, ?_⟩
  · rw [bne_iff_ne.2 moved, Hub.when_true]
    have A : (h.irq pg 0).Alarm HDR.ISTAT 0 pg := C.alarm_irq irq (by decide)
    exact (A.when A.raise).bit
  · rintro rfl rfl
    exact Hub.Canon.bit_raise (Hub.irq_canon C) first (by decide)

theorem Hub.Canon.ethLink_shows {h : Hub} (C : h.Canon) (m : Fin 2) (up bl fl : Bool) :
    let g := h.ethLink m up bl fl
    g.rd ETH.STAT_LINK m = bnat up ∧ g.rd ETH.STAT_BLOCK_LOCK m = bnat bl ∧ g.rd ETH.STAT_FEC_LOCK m = bnat fl ∧
      (h.on ETH.STAT_LINK m ≠ up → g.bit HDR.ISTAT 0 (0x90 + m) = true) ∧
      (h.on ETH.STAT_LINK m = true → up = false → g.bit HDR.ESTAT 0 (0x90 + m) = true) := by
  have calm {F : Fld} {g : Hub} {c d : Bool} (e : F.Calm) (apart : HDR.ISTAT.place ≠ F.place) :
      ((g.when c fun h => h.irq (0x90 + m) 0).when d fun h => h.raise (0x90 + m) 0).rd F m = g.rd F m :=
    (rd_when_of_rd (Hub.raise_rd e)).trans (rd_when_of_rd (rd_irq_place apart))
  unfold Hub.ethLink
  refine ⟨?_, ?_, ?_, Hub.Canon.linkMoved_shows C.wr.wr.wr (secondPage_mac m) (noIrq_mac m) _ _⟩
  · refine (calm (by decide) (by decide)).trans ?_
    rw [rd_wr_place (by decide), rd_wr_place (by decide), C.rd_wr]
    cases up <;> rfl
  · refine (calm (by decide) (by decide)).trans ?_
    rw [rd_wr_place (by decide), C.wr.rd_wr]
    cases bl <;> rfl
  · refine (calm (by decide) (by decide)).trans ?_
    rw [C.wr.wr.rd_wr]
    cases fl <;> rfl

/-! ### Lume data (R463 to R468, R471) -/

theorem lumeRx_bad {h : Hub} {p : Nat} {fcsOk : Bool} {fr : Bytes} (bad : fr.length < 64 ∨ 1522 < fr.length ∨ fcsOk = false) :
    h.lumeRx p fcsOk fr = h.cnt LMD.P_CNT_RXERR_COUNT 0 p := if_pos bad

theorem lumeRx_good {h : Hub} {p : Nat} {fr : Bytes} (short : 64 ≤ fr.length) (long : fr.length ≤ 1522) (core : h.domOn 2 = true)
    (en : h.on LMD.P_MAP_EN 0 p = true) :
    h.lumeRx p true fr = (h.inject 12 (frameCells (h.rd LMD.P_MAP_ITID 0 p) 1 false fr)).cnt LMD.P_CNT_RX_COUNT 0 p := by
  have ok : ¬(fr.length < 64 ∨ 1522 < fr.length ∨ true = false) := by
    simp only [Bool.true_eq_false, or_false]
    omega
  unfold Hub.lumeRx
  rw [if_neg ok, core, en]
  rfl

/-- Cells may enter only while the core is on. -/
theorem domOn_of_mayEnter {h : Hub} {pt : Nat} (e : h.mayEnter pt = true) : h.domOn 2 = true := by
  obtain ⟨up, -⟩ := Bool.and_eq_true_iff.1 e
  exact domOn_of_up (List.all_eq_true.1 up 0x40 (by decide))

theorem lt_of_lumeMatch {h : Hub} {tid p : Nat} (e : h.lumeMatch tid = some p) : p < 8 :=
  List.mem_range.1 (List.mem_of_find?_eq_some e)

theorem Hub.Canon.rd_lumeMode_day {h : Hub} (C : h.Canon) (p : Nat) : (h.lumeMode p false).rd LMD.P_STAT_MODE 0 p = 0 := by
  unfold Hub.lumeMode
  split_ifs with same
  · exact bne_eq_false_iff_eq.1 (beq_iff_eq.1 same)
  · rw [rd_irq_place (by decide), C.rd_wr]
    rfl

theorem rd_lumeMode_place {h : Hub} {p i b : Nat} {scene : Bool} {F : Fld}
    (e : LMD.P_STAT_MODE.place ≠ F.place ∧ HDR.ISTAT.place ≠ F.place) : (h.lumeMode p scene).rd F i b = h.rd F i b := by
  unfold Hub.lumeMode
  split_ifs
  · rfl
  · exact (rd_irq_place e.2).trans (rd_wr_place e.1)

theorem lumeMode_lumeOut (h : Hub) (p : Nat) (scene : Bool) : (h.lumeMode p scene).lumeOut = h.lumeOut := by
  unfold Hub.lumeMode
  split_ifs
  · rfl
  · exact Hub.irq_same.lumeOut (by decide)

theorem Hub.Canon.lumeSend {h : Hub} (C : h.Canon) {p : Nat} {fr : Bytes} : (Hub.lumeSend p fr h).Canon := ⟨C.regs, C.tab, C.fmem⟩

theorem rd_lumeSend (h : Hub) (p : Nat) (fr : Bytes) (F : Fld) (i b : Nat) : (Hub.lumeSend p fr h).rd F i b = h.rd F i b := rfl

theorem lumeOut_lumeSend (h : Hub) (p : Nat) (fr : Bytes) :
    Tab.get [] p (Hub.lumeSend p fr h).lumeOut = Tab.get [] p h.lumeOut ++ [fr] := get_put_concat _ _ _ _

theorem lumeTx_eq {h : Hub} {tid p : Nat} {fr : Bytes} (short : 64 ≤ fr.length) (long : fr.length ≤ 1522)
    (e : h.lumeMatch tid = some p) : h.lumeTx tid fr =
      ((Hub.lumeSend p fr h).cnt LMD.P_CNT_TX_COUNT 0 p).when (!h.solitaire) fun h => h.lumeMode p false := by
  have fits : ¬(fr.length < 64 ∨ 1522 < fr.length) := fun bad => bad.elim (Nat.not_lt.2 short) (Nat.not_lt.2 long)
  unfold Hub.lumeTx
  rw [e]
  dsimp only
  rw [if_neg fits]

theorem lumeOut_lumeTx {h : Hub} {tid p : Nat} {fr : Bytes} (short : 64 ≤ fr.length) (long : fr.length ≤ 1522)
    (e : h.lumeMatch tid = some p) : Tab.get [] p (h.lumeTx tid fr).lumeOut = Tab.get [] p h.lumeOut ++ [fr] := by
  have same (g : Hub) (c : Bool) : (g.when c fun h => h.lumeMode p false).lumeOut = g.lumeOut := by
    cases c
    · rfl
    · exact lumeMode_lumeOut _ _ _
  rw [lumeTx_eq short long e, same, Hub.cnt, Hub.cntN, Hub.wr_lumeOut, lumeOut_lumeSend]

theorem Hub.Canon.rd_lumeTx_count {h : Hub} (C : h.Canon) {tid p : Nat} {fr : Bytes} (short : 64 ≤ fr.length) (long : fr.length ≤ 1522)
    (e : h.lumeMatch tid = some p) : (h.lumeTx tid fr).rd LMD.P_CNT_TX_COUNT 0 p = h.oneMore LMD.P_CNT_TX_COUNT 0 p := by
  have counted : ((Hub.lumeSend p fr h).cnt LMD.P_CNT_TX_COUNT 0 p).rd LMD.P_CNT_TX_COUNT 0 p = h.oneMore LMD.P_CNT_TX_COUNT 0 p := by
    rw [C.lumeSend.rd_cnt, rd_lumeSend, Hub.oneMore]
  rw [lumeTx_eq short long e]
  exact (rd_when_of_rd (rd_lumeMode_place (by decide))).trans counted

theorem Hub.Canon.rd_lumeTx_mode {h : Hub} (C : h.Canon) {tid p : Nat} {fr : Bytes} (short : 64 ≤ fr.length) (long : fr.length ≤ 1522)
    (e : h.lumeMatch tid = some p) (state : h.rd PDM.STATE_CURRENT ≠ 2) : (h.lumeTx tid fr).rd LMD.P_STAT_MODE 0 p = 0 := by
  have day : h.solitaire = false := beq_eq_false_iff_ne.2 state
  rw [lumeTx_eq short long e, day, Bool.not_false, Hub.when_true]
  exact C.lumeSend.cnt.rd_lumeMode_day p

/-- An entry that is off, or whose TIDs are assignable and whose ETID is free, is taken. -/
theorem Hub.Canon.pmapApply_shows {h : Hub} (C : h.Canon) {a v : Nat} {x : Cap}
    (staged : h.rd LMD.hStage 0 (h.rd LMD.PSEL_PORT) = a + 1)
    (good : bits a 31 1 = 0 ∨ assignable (bits a 0 20) = true ∧ assignable (bits v 0 20) = true ∧ h.lumeMatch (bits v 0 20) = none) :
    let g := h.pmapApply v x
    g.rd LMD.P_MAP_ITID 0 (h.rd LMD.PSEL_PORT) = bits a 0 20 ∧ g.rd LMD.P_MAP_EN 0 (h.rd LMD.PSEL_PORT) = bits a 31 1 ∧
      g.rd LMD.P_ETID_ETID 0 (h.rd LMD.PSEL_PORT) = bits v 0 20 := by
  unfold Hub.pmapApply
  dsimp only
  rw [staged, if_neg (Nat.succ_ne_zero a), Nat.add_sub_cancel, if_neg]
  · simp +decide only [rd_wr_place, C.wr.rd_wr, C.wr.wr.rd_wr, C.wr.wr.wr.rd_wr]
    exact ⟨Nat.mod_eq_of_lt (bits_lt a 0 20), Nat.mod_eq_of_lt (bits_lt a 31 1), Nat.mod_eq_of_lt (bits_lt v 0 20)⟩
  · rcases good with off | ⟨itid, etid, free⟩
    · rw [off]
      simp
    · rw [itid, etid, free]
      simp

theorem Hub.Canon.lumeMode_enters {h : Hub} (C : h.Canon) {p : Nat} (day : h.on LMD.P_STAT_MODE 0 p = false) :
    (h.lumeMode p true).rd LMD.P_STAT_MODE 0 p = 1 ∧ (h.lumeMode p true).bit HDR.ISTAT 0 0x92 = true := by
  have enters : h.lumeMode p true = (h.wr LMD.P_STAT_MODE (bnat true) 0 p).irq 0x92 0 := by
    unfold Hub.lumeMode
    rw [day]
    rfl
  rw [enters]
  exact ⟨(rd_irq_place (by decide)).trans C.rd_wr, C.wr.bit_irq rfl (by decide)⟩

/-- A frame that is sent and counted leaves every scene as it was. -/
theorem sceneFrame_sent (h : Hub) (p q f : Nat) (fr : Bytes) :
    ((Hub.lumeSend p fr h).cnt LMD.P_CNT_SCENE_COUNT 0 p).sceneFrame q f = h.sceneFrame q f := by
  have len : ((Hub.lumeSend p fr h).cnt LMD.P_CNT_SCENE_COUNT 0 p).rd LMD.SCLEN_BYTES 0 (4 * q + f) =
      h.rd LMD.SCLEN_BYTES 0 (4 * q + f) := rd_cnt_place (by decide)
  have data : ∀ j < 64, ((Hub.lumeSend p fr h).cnt LMD.P_CNT_SCENE_COUNT 0 p).rd (LMD.SCDATA.word j) 0 (4 * q + f) =
      h.rd (LMD.SCDATA.word j) 0 (4 * q + f) := fun j hj => rd_cnt_place (place_ne_of_outside (n := 64) (by decide) hj).symm
  unfold Hub.sceneFrame
  dsimp only
  rw [len, List.map_congr_left fun j hj => data j (List.mem_range.1 hj)]

/-- The scene frames of a list, sent in order. -/
theorem lumeOut_each_scene (p : Nat) (l : List Nat) : ∀ h : Hub,
    Tab.get [] p (h.each l fun f h => (Hub.lumeSend p (h.sceneFrame p f) h).cnt LMD.P_CNT_SCENE_COUNT 0 p).lumeOut =
      Tab.get [] p h.lumeOut ++ l.map (h.sceneFrame p) := by
  induction l with
  | nil => exact fun h => (List.append_nil _).symm
  | cons f l ih =>
    intro h
    refine (ih _).trans ?_
    have out : ((Hub.lumeSend p (h.sceneFrame p f) h).cnt LMD.P_CNT_SCENE_COUNT 0 p).lumeOut =
        (Hub.lumeSend p (h.sceneFrame p f) h).lumeOut := rfl
    have same : ((Hub.lumeSend p (h.sceneFrame p f) h).cnt LMD.P_CNT_SCENE_COUNT 0 p).sceneFrame p = h.sceneFrame p :=
      funext fun _ => sceneFrame_sent _ _ _ _ _
    rw [out, same, List.map_cons]
    exact (congrArg (· ++ _) (lumeOut_lumeSend _ _ _)).trans (List.append_assoc _ _ _)

theorem lumeOut_sceneSend (h : Hub) (p : Nat) : Tab.get [] p (h.sceneSend p).lumeOut =
    Tab.get [] p h.lumeOut ++ ([0, 1, 2, 3].map (h.sceneFrame p)).filter fun fr => !fr.isEmpty := by
  have e : h.sceneSend p = h.each ([0, 1, 2, 3].filter fun f => !(h.sceneFrame p f).isEmpty) fun f h =>
    (Hub.lumeSend p (h.sceneFrame p f) h).cnt LMD.P_CNT_SCENE_COUNT 0 p := rfl
  rw [e, lumeOut_each_scene, List.filter_map]
  rfl

theorem secondPage_pair (p : Fin 8) : secondPage (0x93 + p) = false := by
  revert p; decide

theorem noIrq_pair (p : Fin 8) : noIrq (0x93 + p) = false := by
  revert p; decide

/-- The link fields of a pair that trains or loses its link. -/
def Hub.pairSet (h : Hub) (p : Nat) (up hi master : Bool) (sqi : Nat) : Hub :=
  h.wr LMP.STAT_LINK (bnat up) p |>.wr LMP.STAT_HI (bnat (up && hi)) p |>.wr LMP.STAT_ROLE (bnat (up && master)) p
    |>.wr LMP.STAT_SQI (if up then sqi else 0) p

theorem Hub.Canon.pairSet {h : Hub} (C : h.Canon) {p : Nat} {up hi master : Bool} {sqi : Nat} : (h.pairSet p up hi master sqi).Canon :=
  C.wr.wr.wr.wr

theorem rd_pairSet_place {h : Hub} {p i b : Nat} {up hi master : Bool} {sqi : Nat} {F : Fld}
    (e : ∀ G ∈ [LMP.STAT_LINK, LMP.STAT_HI, LMP.STAT_ROLE, LMP.STAT_SQI], G.place ≠ F.place) :
    (h.pairSet p up hi master sqi).rd F i b = h.rd F i b := by
  unfold Hub.pairSet
  rw [rd_wr_place (e _ (by decide)), rd_wr_place (e _ (by decide)), rd_wr_place (e _ (by decide)), rd_wr_place (e _ (by decide))]

theorem Hub.Canon.pairSet_shows {h : Hub} (C : h.Canon) (p : Nat) (up hi master : Bool) (sqi : Nat) :
    (h.pairSet p up hi master sqi).rd LMP.STAT_LINK p = bnat up ∧
      (h.pairSet p up hi master sqi).rd LMP.STAT_SQI p = (if up then sqi else 0) % 2 ^ LMP.STAT_SQI.w := by
  refine ⟨?_, C.wr.wr.wr.rd_wr⟩
  unfold Hub.pairSet
  rw [rd_wr_place (by decide), rd_wr_place (by decide), rd_wr_place (by decide), C.rd_wr]
  cases up <;> rfl

/-- What such a change raises at the pair's page, and a negotiation that fails. -/
def Hub.pairMoved (h : Hub) (p : Nat) (was up fail : Bool) : Hub :=
  ((h.when (was != up) fun h => h.irq (0x93 + p) 0).when (was && !up) fun h =>
    (h.cnt LMP.CNT_LINKLOSS_COUNT p).raise (0x93 + p) 0).when fail fun h => h.raise (0x93 + p) 1

theorem rd_pairMoved {h : Hub} {p : Nat} {was up fail : Bool} {F : Fld} {i b : Nat} (e : F.Calm) (apart : HDR.ISTAT.place ≠ F.place)
    (other : LMP.CNT_LINKLOSS_COUNT.place ≠ F.place) : (h.pairMoved p was up fail).rd F i b = h.rd F i b := by
  refine (rd_when_of_rd (Hub.raise_rd e)).trans ((rd_when_of_rd ?_).trans (rd_when_of_rd (rd_irq_place apart)))
  exact (Hub.raise_rd e).trans (rd_cnt_place other)

theorem Hub.Canon.pairMoved_shows {h : Hub} (C : h.Canon) (p : Fin 8) (was up fail : Bool) :
    (was ≠ up → (h.pairMoved p was up fail).bit HDR.ISTAT 0 (0x93 + p) = true) ∧
      (was = true → up = false → (h.pairMoved p was up fail).bit HDR.ESTAT 0 (0x93 + p) = true ∧
        (h.pairMoved p was up fail).rd LMP.CNT_LINKLOSS_COUNT p = h.oneMore LMP.CNT_LINKLOSS_COUNT p) ∧
      (fail = true → (h.pairMoved p was up fail).bit HDR.ESTAT 1 (0x93 + p) = true) := by
  have I : (h.irq (0x93 + p) 0).Canon := Hub.irq_canon C
  have W {c : Bool} : (h.when c fun h => h.irq (0x93 + p) 0).Canon := C.when I
  refine ⟨fun moved => ?_, ?_, ?_⟩
  · unfold Hub.pairMoved
    rw [bne_iff_ne.2 moved, Hub.when_true]
    have A : (h.irq (0x93 + p) 0).Alarm HDR.ISTAT 0 (0x93 + p) := C.alarm_irq (noIrq_pair p) (by decide)
    have B : ((h.irq (0x93 + p) 0).when (was && !up) fun h => (h.cnt LMP.CNT_LINKLOSS_COUNT p).raise (0x93 + p) 0).Alarm HDR.ISTAT 0 (0x93 + p) := by
      refine A.when ?_
      exact (A.cnt (by decide)).raise
    exact (B.when B.raise).bit
  · rintro rfl rfl
    have A := I.cnt (F := LMP.CNT_LINKLOSS_COUNT) (i := p) (b := 0) |>.alarm_raise (n := 0) (x := {}) (secondPage_pair p) (by decide)
    refine ⟨(A.when A.raise).bit, (rd_when_of_rd (Hub.raise_rd (by decide))).trans ((Hub.raise_rd (by decide)).trans (I.rd_cnt.trans ?_))⟩
    rw [rd_irq_place (by decide)]
    rfl
  · rintro rfl
    exact Hub.Canon.bit_raise (W.when (Hub.raise_canon W.cnt)) (secondPage_pair p) (by decide)

end Sys2Proof.Machine

open Sys2Proof Sys2Proof.Machine

/-- Settles O17, clause by clause, from what each operation leaves in the registers and on the wires named. -/
theorem ethernetAndLumeCommandsComplete : Obligations.EthernetAndLumeCommandsComplete := by
  intro s I
  have C : s.hub.Canon := I
  have CL (m : MasterId) : (s.hub.dropLatch m).Canon := C.dropLatch
  have rx {m : Fin 2} {fcsOk : Bool} {room : Option Nat} {fr : Bytes} {k : Hub} (up : s.hub.up (0x90 + m) = true)
      (e : s.hub.ethRx m fcsOk room fr = k) : Completes (.ethFrameRx m fcsOk room fr) s fun g => g = k :=
    completes_when (p := fun h => h.up (0x90 + m)) (f := fun _ h => h.ethRx m fcsOk room fr) rfl up e
  have lume {p : Fin 8} {fcsOk : Bool} {fr : Bytes} {k : Hub} (up : s.hub.up 0x92 = true)
      (e : s.hub.lumeRx p fcsOk fr = k) : Completes (.lumeFrameRx p fcsOk fr) s fun g => g = k :=
    completes_when (p := fun h => h.up 0x92) (f := fun _ h => h.lumeRx p fcsOk fr) rfl up e
  refine ⟨?runt, ?control, ?unmapped, ?whole, ?noTunnel, ?sent, ?vmap, ?link, ?lumeBad, ?lumeGood, ?lumeSent, ?pmap, ?scene, ?again, ?pair⟩
  case runt => exact fun m fcsOk room fr up short => rx up (ethRx_runt short)
  case control => exact fun m fcsOk room fr up short control => rx up (ethRx_control short control)
  case unmapped => exact fun m fcsOk room fr up short data off => rx up (ethRx_unmapped short data off)
  case whole => exact fun m fcsOk fr up short data max cap room mapped en => rx up (ethRx_whole short data max cap room mapped en)
  case noTunnel =>
    refine fun tid poison fr core up up' none => completes_when (p := fun h => h.domOn 2) (f := fun _ h => h.ethTx tid poison fr) rfl core ?_
    unfold Hub.ethTx
    rw [none]
    dsimp only
    rw [up, Hub.when_true]
  case sent =>
    intro tid poison fr m v core up up' e keep
    have low : s.hub.up (0x90 + m) = true := by
      have small : m < 2 := lt_of_ethMatch e
      interval_cases m
      exacts [up, up']
    exact completes_when (p := fun h => h.domOn 2) (f := fun _ h => h.ethTx tid poison fr) rfl core (C.ethTx_shows low e keep)
  case vmap =>
    intro r m a v G staged sel good
    have shows := (CL r.master).vmapApply_shows (x := Hub.regCap r ETH.VMAP_B_ETID m) staged sel good
    exact completes_reg (f := fun h => h.vmapApply m v (Hub.regCap r ETH.VMAP_B_ETID m)) rfl G shows
  case link =>
    exact fun m up bl fl run => completes_when (p := fun h => h.up (0x90 + m)) (f := fun _ h => h.ethLink m up bl fl) rfl run
      (C.ethLink_shows m up bl fl)
  case lumeBad => exact fun p fcsOk fr up bad => lume up (lumeRx_bad bad)
  case lumeGood => exact fun p fr up short long _ en enter => lume up (lumeRx_good short long (domOn_of_mayEnter enter) en)
  case lumeSent =>
    exact fun tid fr p up core short long e => completes_when (p := fun h => h.up 0x92 && h.domOn 2) (f := fun _ h => h.lumeTx tid fr) rfl
      (by rw [up, core]; rfl) ⟨lumeOut_lumeTx short long e, C.rd_lumeTx_count short long e, C.rd_lumeTx_mode short long e⟩
  case pmap =>
    exact fun r v a G staged good => completes_reg (f := fun h => h.pmapApply v (Hub.regCap r LMD.P_ETID_ETID 0)) rfl G
      ((CL r.master).pmapApply_shows staged good)
  case scene =>
    refine fun p up may day => completes_when (p := fun h => h.up 0x92 && (h.solitaire || h.on LMD.P_CFG_LOSS_MS 0 p))
      (f := fun _ h => h.lumeMode p true) rfl ?_ (C.lumeMode_enters day)
    rw [up, Bool.true_and, Bool.or_eq_true]
    exact may.imp_left beq_iff_eq.2
  case again =>
    exact fun p up mode => completes_when (p := fun h => h.up 0x92 && h.on LMD.P_STAT_MODE 0 p) (f := fun _ h => h.sceneSend p) rfl
      (by rw [up, mode]; rfl) (lumeOut_sceneSend _ _)
  case pair =>
    refine fun p up hi master sqi anFail run => completes_when (p := fun h => h.up (0x93 + p)) (f := fun _ h =>
      (h.pairSet p up (if h.on LMP.CFG_AN_EN p then hi && h.on LMP.CFG_HI_OK p else h.on LMP.CFG_HI_OK p)
        (if h.on LMP.CFG_AN_EN p then master else h.on LMP.CFG_MASTER p) sqi).pairMoved p (h.on LMP.STAT_LINK p) up
          (h.on LMP.CFG_AN_EN p && anFail)) rfl run ?_
    have W := C.pairSet (p := p) (up := up)
      (hi := if s.hub.on LMP.CFG_AN_EN p then hi && s.hub.on LMP.CFG_HI_OK p else s.hub.on LMP.CFG_HI_OK p)
      (master := if s.hub.on LMP.CFG_AN_EN p then master else s.hub.on LMP.CFG_MASTER p) (sqi := sqi)
    obtain ⟨moved, down, fail⟩ := W.pairMoved_shows p (s.hub.on LMP.STAT_LINK p) up (s.hub.on LMP.CFG_AN_EN p && anFail)
    refine ⟨?_, ?_, moved, fun was gone => ⟨(down was gone).1, (down was gone).2.trans ?_⟩, fun an no => fail (by rw [an, no]; rfl)⟩
    · exact (rd_pairMoved (by decide) (by decide) (by decide)).trans (C.pairSet_shows p up _ _ sqi).1
    · exact (rd_pairMoved (by decide) (by decide) (by decide)).trans (C.pairSet_shows p up _ _ sqi).2
    · unfold Hub.oneMore
      rw [rd_pairSet_place (by decide)]
end

section
/-! PROOFS. The transaction bridge: the vector to the host, waiting reads, and the checks of the far side (R417 to R430). -/

namespace Sys2Proof.Machine

open Sys2Proof

/-! ### Tables by key -/

theorem Tab.find_ins_ne {α : Type} {k j : Nat} (h : k ≠ j) (v : α) (m : Tab α) : Tab.find j (Tab.ins k v m) = Tab.find j m := by
  induction m with
  | nil => exact if_neg h
  | cons p m ih =>
    obtain ⟨k', v'⟩ := p
    unfold Tab.ins
    split_ifs with lt eq
    · exact if_neg h
    · subst eq
      simp only [Tab.find, if_neg h]
    · simp only [Tab.find, ih]

theorem Tab.has_of_find {α : Type} {k : Nat} {v : α} {m : Tab α} (e : Tab.find k m = some v) : Tab.has k m = true := by
  induction m with
  | nil => exact absurd e (by simp [Tab.find])
  | cons p m ih =>
    obtain ⟨k', v'⟩ := p
    unfold Tab.find at e
    unfold Tab.has
    split_ifs at e ⊢
    · rfl
    · exact ih e

/-! ### The vector to the host (R430, R447) -/

/-- What the vector to the host can change after `f`: the bits of vectors that wait, and the vectors sent. -/
theorem txbDo_same (h : Hub) (f : Hub → Hub) : Hub.Same
    0x8000000000000000000000000000000000000000000000000000000200000000000000000000000000000000 (f h) (h.txbDo f) := by
  unfold Hub.txbDo Hub.when
  dsimp only
  split_ifs
  · exact Hub.msix_same
  · exact Hub.Same.refl _ _

theorem rd_txbDo {h : Hub} {f : Hub → Hub} {F : Fld} {i b : Nat} (e : Nat.testBit
    0x8000000000000000000000000000000000000000000000000000000200000000000000000000000000000000 F.kind = false) :
    (h.txbDo f).rd F i b = (f h).rd F i b := (txbDo_same h f).rd (by decide) F i b e

theorem bit_txbDo {h : Hub} {f : Hub → Hub} {F : Fld} {n i b : Nat} (e : Nat.testBit
    0x8000000000000000000000000000000000000000000000000000000200000000000000000000000000000000 F.kind = false) :
    (h.txbDo f).bit F n i b = (f h).bit F n i b := bit_of_rd (rd_txbDo e)

/-! ### Waiting reads (R420, R421) -/

def waitFlds : List Fld := [TXB.TAGS_INUSE, TXB.TAGS_QUAR, TXB.CNT_MRD_COUNT]

theorem rd_refreshTags_place {h : Hub} {F : Fld} {i b : Nat} (e : ∀ G ∈ waitFlds, G.place ≠ F.place) :
    h.refreshTags.rd F i b = h.rd F i b := (rd_wr_place (e _ (by decide))).trans (rd_wr_place (e _ (by decide)))

/-- A piece that waits on. -/
def Hub.waits (h : Hub) (p : TxbPiece) : Hub := { h with rdWait := h.rdWait ++ [p] }

/-- A piece that takes tag `t` and is sent. -/
def Hub.sends (h : Hub) (p : TxbPiece) (t : Nat) : Hub :=
  (({ h with tags := Tab.ins t { win := p.win, rd := p.rd, off := p.off, ord := h.rd TXB.OW_ORD_TID 0 p.win, len := p.h.len } h.tags }
    : Hub).txbSend { tid := p.req, h := { p.h with tag := t, pwseq := h.rd TXB.hSent 0 (h.rd TXB.OW_ORD_TID 0 p.win) } }).cnt
      TXB.CNT_MRD_COUNT

/-- What holds of every node in which waiting pieces may be tried again. -/
theorem sendReads_induct {P : Hub → Prop} (wait : ∀ h p, P h → P (h.waits p)) (send : ∀ h p t, h.freeTag p.win = some t → P h → P (h.sends p t))
    (fresh : ∀ h, P h → P h.refreshTags) (ps : List TxbPiece) : ∀ (stuck : List Nat) (h : Hub), P h → P (Hub.sendReads stuck ps h) := by
  induction ps with
  | nil => exact fun _ h H => fresh h H
  | cons p ps ih =>
    intro stuck h H
    unfold Hub.sendReads
    dsimp only
    split
    · exact ih _ _ (wait h p H)
    · split
      next => exact ih _ _ (wait h p H)
      next t free => exact ih _ _ (send h p t free H)

theorem rd_retryReads_place {h : Hub} {F : Fld} {i b : Nat} (e : ∀ G ∈ waitFlds, G.place ≠ F.place) :
    h.retryReads.rd F i b = h.rd F i b :=
  sendReads_induct (P := fun g => g.rd F i b = h.rd F i b) (fun _ _ same => same)
    (fun _ _ _ _ same => (rd_cnt_place (e _ (by decide))).trans same) (fun _ same => (rd_refreshTags_place e).trans same) _ _ _ rfl

theorem not_has_of_freeTag {h : Hub} {w t : Nat} (e : h.freeTag w = some t) : Tab.has t h.tags = false := by
  unfold Hub.freeTag at e
  split at e
  · have := List.find?_some e
    rwa [Bool.not_eq_true'] at this
  · exact absurd e (by simp)

/-- A tag in use keeps its holder while others are given out. -/
theorem find_retryReads {h : Hub} {t : Nat} {tg : TxbTag} (e : Tab.find t h.tags = some tg) : Tab.find t h.retryReads.tags = some tg := by
  refine sendReads_induct (P := fun g => Tab.find t g.tags = some tg) (fun _ _ same => same) (fun g p t' free same => ?_)
    (fun _ same => same) _ _ _ e
  have other : t' ≠ t := by
    rintro rfl
    exact absurd (Tab.has_of_find same) (by rw [not_has_of_freeTag free]; decide)
  exact (Tab.find_ins_ne other _ _).trans same

/-- Every waiting piece waits on or is sent. -/
theorem length_sendReads (ps : List TxbPiece) : ∀ (stuck : List Nat) (h : Hub),
    (Hub.sendReads stuck ps h).txbOut.length + (Hub.sendReads stuck ps h).rdWait.length =
      h.txbOut.length + h.rdWait.length + ps.length := by
  induction ps with
  | nil => exact fun _ _ => rfl
  | cons p ps ih =>
    intro stuck h
    have wait (l : List Nat) : (Hub.sendReads l ps (h.waits p)).txbOut.length + (Hub.sendReads l ps (h.waits p)).rdWait.length =
        h.txbOut.length + h.rdWait.length + (p :: ps).length := by
      rw [ih]
      simp only [Hub.waits, List.length_append, List.length_cons, List.length_nil]
      omega
    unfold Hub.sendReads
    dsimp only
    split
    · exact wait _
    · split
      · exact wait _
      next t free =>
        refine (ih stuck (h.sends p t)).trans ?_
        have sent : (h.sends p t).txbOut.length = h.txbOut.length + 1 := by
          simp only [Hub.sends, Hub.txbSend, Hub.cnt, Hub.cntN, Hub.wr_txbOut, List.length_append, List.length_cons, List.length_nil]
        have same : (h.sends p t).rdWait = h.rdWait := rfl
        rw [sent, same, List.length_cons]
        omega

theorem length_retryReads (h : Hub) : h.retryReads.txbOut.length + h.retryReads.rdWait.length = h.txbOut.length + h.rdWait.length :=
  (length_sendReads h.rdWait [] { h with rdWait := [] }).trans rfl

theorem retryReads_of_none {h : Hub} (e : h.rdWait = []) : h.retryReads = ({ h with rdWait := [] } : Hub).refreshTags := by
  unfold Hub.retryReads
  rw [e]
  rfl

theorem tags_retryReads_of_none {h : Hub} (e : h.rdWait = []) : h.retryReads.tags = h.tags := by
  rw [retryReads_of_none e]
  rfl

/-! ### The far side's checks (R417, R444, R451, R646) -/

/-- The registers that the far side's checks read. -/
def farFlds : List Fld := upFlds ++ [TXB.TW_CFG_BUS, TXB.TW_CFG_EN, TXB.TW_CFG_SIZE_LOG2, TXB.TW_CFG_GRAN, TXB.TW_BASE_HI_ADDR, TXB.TW_BASE_LO_ADDR,
  LCS.STATE_LC, DBG.STAT_STATE, ACT.CFG_LOADED, MEM.STAT_READY, MEM.STAT_SR, MEM.CFG_CAP, PCI.LSTAT_DL_UP, PCI.MODE_MODE, PCI.CMDSTAT_BME,
  PCI.hMps]

/-- Nodes that those checks do not tell apart. -/
structure Hub.SameFar (g h : Hub) : Prop where
  tab : g.tab = h.tab
  rd : ∀ F ∈ farFlds, ∀ i b, g.rd F i b = h.rd F i b

namespace Hub.SameFar

variable {g h : Hub}

theorem on (e : g.SameFar h) {F : Fld} (m : F ∈ farFlds) (i b : Nat) : g.on F i b = h.on F i b := congrArg (· != 0) (e.rd F m i b)

theorem up (e : g.SameFar h) (pg : Nat) : g.up pg = h.up pg := up_of_rd (fun G m => e.rd G (List.mem_append_left _ m)) pg

theorem tword (e : g.SameFar h) (a : Nat) : g.tword a = h.tword a := congrArg (Tab.get 0 (a / 4)) e.tab

theorem actCheck (e : g.SameFar h) : g.actCheck = h.actCheck := by
  have word : g.actWord = h.actWord := funext fun _ => funext fun _ => e.tword _
  have match' : g.actMatch = h.actMatch := by unfold Hub.actMatch Hub.actLocked; rw [word]
  unfold Hub.actCheck Hub.actHolds Hub.actFits Hub.actPermits Hub.actLocked Hub.actEn
  rw [match', word, e.rd LCS.STATE_LC (by decide), e.rd DBG.STAT_STATE (by decide), e.rd ACT.CFG_LOADED (by decide)]

theorem twBase (e : g.SameFar h) (w : Nat) : g.twBase w = h.twBase w := by
  unfold Hub.twBase
  rw [e.rd TXB.TW_BASE_HI_ADDR (by decide), e.rd TXB.TW_BASE_LO_ADDR (by decide)]

theorem memReady (e : g.SameFar h) : g.memReady = h.memReady := by
  unfold Hub.memReady
  rw [e.up, e.on (F := MEM.STAT_READY) (by decide), e.on (F := MEM.STAT_SR) (by decide)]

theorem pcieOk (e : g.SameFar h) : g.pcieOk = h.pcieOk := by
  unfold Hub.pcieOk
  rw [e.up, e.on (F := PCI.LSTAT_DL_UP) (by decide), e.rd PCI.MODE_MODE (by decide), e.on (F := PCI.CMDSTAT_BME) (by decide)]

theorem guardedSlot (e : g.SameFar h) (a n : Nat) : g.guardedSlot a n = h.guardedSlot a n := by
  have fld (k w lo n : Nat) : g.slotFld k w lo n = h.slotFld k w lo n := congrArg (bits · lo n) (e.tword _)
  unfold Hub.guardedSlot Hub.slotOwner Hub.slotBase Hub.slotBytes Hub.slotTiles Hub.slotTw Hub.slotTh Hub.slotW Hub.slotH
  simp only [fld]

theorem farCuts (e : g.SameFar h) (t : TxbHdr) : g.farCuts t = h.farCuts t := by
  unfold Hub.farCuts
  dsimp only
  rw [e.twBase, e.on (F := TXB.TW_CFG_BUS) (by decide), e.rd TXB.TW_CFG_GRAN (by decide), e.rd PCI.hMps (by decide)]

theorem farStatus (e : g.SameFar h) (src : Nat) (t : TxbHdr) (off n : Nat) (write : Bool) :
    (g.farCheck src t off n write).1 = (h.farCheck src t off n write).1 := by
  have pages : g.actPages = h.actPages := by unfold Hub.actPages; rw [e.actCheck]
  have bytes : g.memBytes = h.memBytes := by unfold Hub.memBytes; rw [e.rd MEM.CFG_CAP (by decide)]
  unfold Hub.farCheck
  dsimp only
  rw [e.on (F := TXB.TW_CFG_EN) (by decide), e.rd TXB.TW_CFG_SIZE_LOG2 (by decide), e.on (F := TXB.TW_CFG_BUS) (by decide), pages,
    e.twBase, e.memReady, bytes, e.guardedSlot, e.pcieOk]
  split
  · rfl
  · generalize h.actPages MasterId.txbIn src _ _ n _ = pages
    cases pages
    case some p => rfl
    case none => dsimp only; split_ifs <;> rfl

end Hub.SameFar

/-- A request that the far side carries out leaves the node as the check found it. -/
theorem farCheck_of_ok {h : Hub} {src : Nat} {t : TxbHdr} {off n : Nat} {write : Bool} (ok : (h.farCheck src t off n write).1 = 0) :
    h.farCheck src t off n write = (0, h) := by
  unfold Hub.farCheck at ok ⊢
  dsimp only at ok ⊢
  split at ok
  · exact absurd ok Nat.one_ne_zero
  next en =>
    rw [if_neg en]
    revert ok
    generalize h.actPages MasterId.txbIn src _ _ n _ = pages
    cases pages
    case some p => exact fun bad => absurd bad (by dsimp only; decide)
    case none =>
      dsimp only
      split_ifs
      · exact fun bad => absurd bad (by decide)
      · exact fun bad => absurd bad (by decide)
      · exact fun bad => absurd bad (by decide)
      · exact fun _ => rfl
      · exact fun _ => rfl
      · exact fun bad => absurd bad (by decide)

end Sys2Proof.Machine
end

section
/-! PROOFS. The transaction bridge: what each operation leaves (R413, R416 to R436). -/

namespace Sys2Proof.Machine

open Sys2Proof

/-! ### Outbound windows (R413, R418) -/

theorem txbOut_each_send {α : Type} {f : α → TxbMsg} {step : α → Hub → Hub} {t : Tab Nat}
    (e : ∀ a h, h.regs = t → step a h = h.txbSend (f a)) (l : List α) :
    ∀ h : Hub, h.regs = t → (h.each l step).txbOut = h.txbOut ++ l.map f := by
  induction l with
  | nil => exact fun h _ => (List.append_nil _).symm
  | cons a l ih =>
    intro h regs
    have one : step a h = h.txbSend (f a) := e a h regs
    have rest : ((h.txbSend (f a)).each l step).txbOut = h.txbOut ++ [f a] ++ l.map f := ih _ regs
    rw [List.map_cons, List.append_cons, ← rest, ← one]
    rfl

theorem rd_of_regs {g h : Hub} (e : g.regs = h.regs) (F : Fld) (i b : Nat) : g.rd F i b = h.rd F i b :=
  congrArg (Tab.get (F.dflt b) (F.key i b)) e

theorem outWrite_txbOut {h : Hub} {fromBus ro ns : Bool} {addr w : Nat} {data : Bytes} (e : h.owMatch fromBus addr = some w) :
    (h.outWrite fromBus addr ro ns data).txbOut = h.txbOut ++
      (cuts (h.owCut w) (h.farOff w addr) data.length).map fun p => (⟨h.rd TXB.OW_ORD_TID 0 w, false,
        ⟨0, ro, ns, h.rd TXB.OW_FAR_WIN 0 w, 0, p.2, 0, false, 0, p.1, 0, false⟩,
        (data.drop (p.1 - h.farOff w addr)).take p.2⟩ : TxbMsg) := by
  unfold Hub.outWrite
  rw [e]
  dsimp only
  rw [Hub.wr_txbOut, Hub.cntN, Hub.wr_txbOut, Hub.cntN, Hub.wr_txbOut]
  refine txbOut_each_send (t := h.regs) (fun p g same => ?_) _ h rfl
  rw [rd_of_regs same TXB.OW_FAR_WIN 0 w]

theorem outRead_shows {h : Hub} {fromBus ro ns : Bool} {addr len w : Nat} (e : h.owMatch fromBus addr = some w) :
    let g := h.outRead fromBus addr len ro ns
    Tab.find (h.rd TXB.hRead) g.reads = some ⟨fromBus, addr, (cuts (h.owCut w) (h.farOff w addr) len).length, false, []⟩ ∧
      g.txbOut.length + g.rdWait.length = h.txbOut.length + h.rdWait.length + (cuts (h.owCut w) (h.farOff w addr) len).length := by
  unfold Hub.outRead
  rw [e]
  refine ⟨?_, ?_⟩
  · rw [Hub.retryReads_same.reads (by decide)]
    exact Tab.find_ins_same _ _ _
  · refine (length_retryReads _).trans ?_
    simp only [Hub.cntN, Hub.wr_txbOut, Hub.wr_rdWait, List.length_append, List.length_map]
    omega

/-! ### Writes that land (R421, R426, R429) -/

theorem Hub.Canon.mwrIn_shows {h : Hub} (C : h.Canon) {m : TxbIn} (sound : m.h.poison = false) :
    (h.mwrIn m).land = h.land ++ [m] ∧ (h.mwrIn m).rd TXB.hLanded 0 m.tid = (h.rd TXB.hLanded 0 m.tid + 1) % 65536 := by
  unfold Hub.mwrIn
  rw [sound]
  refine ⟨rfl, (rd_wr_place (by decide)).trans ?_⟩
  exact C.rd_wr.trans (Nat.mod_eq_of_lt (Nat.lt_of_lt_of_le (Nat.mod_lt _ (by decide)) (by decide)))

theorem Hub.Canon.fget_fput {h : Hub} (C : h.Canon) (a : Nat) (bs : Bytes) : (h.fput a bs).fget a bs.length = bs :=
  Tab.getRun_putRun_same 0 bs a C.fmem.1

/-- The landing buffer without its oldest write. -/
def Hub.afterLand (h : Hub) (rest : List TxbIn) : Hub := ({ h with land := rest } : Hub).refreshLand

theorem sameFar_afterLand (h : Hub) (rest : List TxbIn) : (h.afterLand rest).SameFar h :=
  ⟨rfl, fun F m _ _ => rd_wr_place (h := { h with land := rest })
    ((by decide : ∀ F ∈ farFlds, TXB.LAND_FREE.place ≠ F.place) F m)⟩

theorem Hub.Canon.afterLand {h : Hub} (C : h.Canon) {rest : List TxbIn} : (h.afterLand rest).Canon :=
  Hub.refreshLand_canon (h := { h with land := rest }) ⟨C.regs, C.tab, C.fmem⟩

/-- A landed write of one piece that memory takes. -/
theorem issuePieces_one {h : Hub} {m : TxbIn} {busOk : Bool} (ok : (h.farCheck m.src m.h m.h.addr m.h.len true).1 = 0)
    (mem : h.on TXB.TW_CFG_BUS 0 (m.h.win % 32) = true) : Hub.issuePieces m busOk [(m.h.addr, m.h.len)] h =
      (0, (h.fput (h.twBase (m.h.win % 32) + m.h.addr) (padTo m.h.len m.data)).countWr (h.twBase (m.h.win % 32) + m.h.addr) m.h.len) := by
  unfold Hub.issuePieces
  rw [farCheck_of_ok ok]
  dsimp only
  rw [mem, Nat.sub_self, List.drop_zero, List.take_of_length_le (Nat.le_of_eq (padTo_length _ _))]
  simp [Hub.issuePieces]

theorem Hub.Canon.issueWrite_shows {h : Hub} (C : h.Canon) {busOk : Bool} {m : TxbIn} {rest : List TxbIn} (land : h.land = m :: rest)
    (en : h.on TXB.TW_CFG_EN 0 (m.h.win % 32) = true) (size : m.h.addr + m.h.len ≤ 2 ^ h.rd TXB.TW_CFG_SIZE_LOG2 0 (m.h.win % 32))
    (mem : h.on TXB.TW_CFG_BUS 0 (m.h.win % 32) = true) (one : h.farCuts m.h = [(m.h.addr, m.h.len)])
    (ok : (h.farCheck m.src m.h m.h.addr m.h.len true).1 = 0) :
    (h.issueWrite busOk).land = rest ∧
      (h.issueWrite busOk).fget (h.twBase (m.h.win % 32) + m.h.addr) m.h.len = padTo m.h.len m.data := by
  have S : (h.afterLand rest).SameFar h := sameFar_afterLand h rest
  have inWin : ((h.afterLand rest).on TXB.TW_CFG_EN 0 (m.h.win % 32) &&
      decide (m.h.addr + m.h.len ≤ 2 ^ (h.afterLand rest).rd TXB.TW_CFG_SIZE_LOG2 0 (m.h.win % 32))) = true := by
    rw [S.on (F := TXB.TW_CFG_EN) (by decide), en, S.rd TXB.TW_CFG_SIZE_LOG2 (by decide), decide_eq_true size]
    rfl
  have pieces := issuePieces_one (h := h.afterLand rest) (m := m) (busOk := busOk) ((S.farStatus ..).trans ok)
    ((S.on (F := TXB.TW_CFG_BUS) (by decide) ..).trans mem)
  rw [S.twBase] at pieces
  have issued : h.issueWrite busOk = ((h.afterLand rest).fput (h.twBase (m.h.win % 32) + m.h.addr) (padTo m.h.len m.data)).countWr
      (h.twBase (m.h.win % 32) + m.h.addr) m.h.len := by
    unfold Hub.issueWrite
    rw [land]
    dsimp only
    rw [← Hub.afterLand, if_pos inWin, S.farCuts, one, pieces]
    rfl
  rw [issued]
  refine ⟨rfl, ?_⟩
  have read := C.afterLand (rest := rest) |>.fget_fput (h.twBase (m.h.win % 32) + m.h.addr) (padTo m.h.len m.data)
  rw [padTo_length] at read
  exact read

/-! ### Reads from the far side (R421 to R423) -/

theorem sameFar_rdIn (h : Hub) (l : List TxbIn) : ({ h with rdIn := l } : Hub).SameFar h := ⟨rfl, fun _ _ _ _ => rfl⟩

theorem Hub.Canon.issueRead_shows {h : Hub} (C : h.Canon) {m : TxbIn} (ok : (h.farCheck m.src m.h m.h.addr m.h.len false).1 = 0) :
    (h.issueRead m).rdIn = h.rdIn ∧
      (h.issueRead m).rd TXB.CPLBUF_FREE = (h.rd TXB.CPLBUF_FREE - ceilDiv m.h.len 64) % 2 ^ TXB.CPLBUF_FREE.w ∧
      (h.issueRead m).rdBus = h.rdBus ++ [⟨m.tid, m.src, m.h, if h.on TXB.TW_CFG_BUS 0 (m.h.win % 32) then
        h.fget (h.twBase (m.h.win % 32) + m.h.addr) m.h.len else []⟩] := by
  have bus : (h.dec TXB.CPLBUF_FREE (ceilDiv m.h.len 64)).on TXB.TW_CFG_BUS 0 (m.h.win % 32) = h.on TXB.TW_CFG_BUS 0 (m.h.win % 32) :=
    congrArg (· != 0) (rd_dec_place (by decide))
  unfold Hub.issueRead
  rw [farCheck_of_ok ok]
  dsimp only
  rw [if_neg (fun bad => bad rfl), bus]
  cases mem : h.on TXB.TW_CFG_BUS 0 (m.h.win % 32)
  · exact ⟨rfl, C.rd_wr, rfl⟩
  · exact ⟨rfl, (rd_wr_place (by decide)).trans C.rd_wr, rfl⟩

theorem Hub.Alarm.memViolation {F : Fld} {m q : Nat} {h : Hub} (A : h.Alarm F m q) {x : MasterId} {node addr code : Nat} {write : Bool}
    {e : Option Nat} : (h.memViolation x node addr write code e).Alarm F m q := by
  have recorded {c : Cap} : (((h.raise 8 0 c).irq 8 0).cnt ACT.CNT_VIOL_COUNT |>.wr ACT.LASTVIOL_MASTER (masterNum x)
      |>.wr ACT.LASTVIOL_CODE code |>.wr ACT.LASTVIOL_ENTRY (e.getD 0)).Alarm F m q :=
    (((A.raise.irq.cnt (by decide)).wr (by decide)).wr (by decide)).wr (by decide)
  unfold Hub.memViolation Hub.violation
  dsimp only
  split_ifs
  · exact ((recorded.wr (by decide)).wr (by decide)).wr (by decide)
  · exact recorded

theorem Hub.Alarm.notReady {F : Fld} {m q : Nat} {h : Hub} (A : h.Alarm F m q) : h.notReady.Alarm F m q := by
  refine A.when ?_
  exact A.cnt (by decide)

theorem Hub.Alarm.farCheck {F : Fld} {m q : Nat} {h : Hub} (A : h.Alarm F m q) {src : Nat} {t : TxbHdr} {off n : Nat} {write : Bool} :
    ((h.farCheck src t off n write).2).Alarm F m q := by
  unfold Hub.farCheck
  dsimp only
  split
  · exact A
  · split
    · exact A.memViolation
    · split_ifs
      · exact A.notReady
      · exact A.raise
      · exact (A.cnt (G := DTL.CNT_GUARD_COUNT) (by decide)).raise
      · exact A
      · exact A
      · exact A

theorem Hub.Alarm.issueRead {F : Fld} {m q : Nat} {h : Hub} (A : h.Alarm F m q) {x : TxbIn} : (h.issueRead x).Alarm F m q := by
  have B : ((h.farCheck x.src x.h x.h.addr x.h.len false).2).Alarm F m q := A.farCheck
  unfold Hub.issueRead
  generalize h.farCheck x.src x.h x.h.addr x.h.len false = p at B ⊢
  obtain ⟨st, k⟩ := p
  have C : (k.dec TXB.CPLBUF_FREE (ceilDiv x.h.len 64)).Alarm F m q := B.wr (by decide)
  dsimp only
  split_ifs
  · exact B.of_regs ⟨B.canon.regs, B.canon.tab, B.canon.fmem⟩ rfl
  · unfold Hub.countRd
    refine Hub.Alarm.wr ?_ (by decide)
    exact C.of_regs ⟨C.canon.regs, C.canon.tab, C.canon.fmem⟩ rfl
  · exact C.of_regs ⟨C.canon.regs, C.canon.tab, C.canon.fmem⟩ rfl

/-- A read that is issued moves no count of the bridge but the completion space. -/
theorem rd_issueRead_place {h : Hub} {x : TxbIn} {F : Fld} {i b : Nat} (kind : F.kind = Kind.txb)
    (e : TXB.CPLBUF_FREE.place ≠ F.place ∧ MEM.CNT_RD_COUNT.place ≠ F.place) : (h.issueRead x).rd F i b = h.rd F i b := by
  have far : ((h.farCheck x.src x.h x.h.addr x.h.len false).2).rd F i b = h.rd F i b := Hub.farCheck_rd (by rw [kind]; decide)
  unfold Hub.issueRead
  generalize h.farCheck x.src x.h x.h.addr x.h.len false = p at far ⊢
  obtain ⟨st, k⟩ := p
  have spent : (k.dec TXB.CPLBUF_FREE (ceilDiv x.h.len 64)).rd F i b = h.rd F i b := (rd_dec_place e.1).trans far
  dsimp only
  split_ifs
  · exact far
  · exact (rd_wr_place (h := { k.dec TXB.CPLBUF_FREE (ceilDiv x.h.len 64) with rdBus := _ }) e.2).trans spent
  · exact spent

theorem pieces_of_bytes (bs : Bytes) : (if bs.isEmpty = true then [] else cuts 1024 0 bs.length) = cuts 1024 0 bs.length := by
  cases bs with
  | nil => rfl
  | cons b bs => rfl

/-- The read at the front of the bus is answered, in packets of at most 1,024 bytes or with an error. -/
theorem Hub.Canon.busDone_shows {h : Hub} (C : h.Canon) {ok : Bool} {data : Bytes} {m : TxbIn} {rest : List TxbIn}
    (front : h.rdBus = m :: rest) :
    let g := h.busDone ok data
    g.rdBus = rest ∧ g.rd TXB.CPLBUF_FREE = (h.rd TXB.CPLBUF_FREE + ceilDiv m.h.len 64) % 2 ^ TXB.CPLBUF_FREE.w ∧
      (ok = true → g.txbOut = h.txbOut ++ (cuts 1024 0 m.h.len).map fun p => (⟨m.tid, true,
        ⟨2, false, false, 0, m.h.tag, p.2, 0, p.1 + p.2 == m.h.len, 0, 0, p.1, false⟩,
        ((padTo m.h.len (if m.data.isEmpty then data else m.data)).drop p.1).take p.2⟩ : TxbMsg)) ∧
      (ok = false → g.txbOut.getLast? = some ⟨m.tid, true, ⟨3, false, false, 0, m.h.tag, 0, 2, true, 0, 0, 0, false⟩, []⟩) := by
  have F : ({ h with rdBus := rest } : Hub).Canon := ⟨C.regs, C.tab, C.fmem⟩
  have sent {α : Type} {f : α → TxbMsg} (l : List α) (g : Hub) : (g.each l fun a h => h.txbSend (f a)).regs = g.regs ∧
      (g.each l fun a h => h.txbSend (f a)).rdBus = g.rdBus :=
    keep_each (P := fun k => k.regs = g.regs ∧ k.rdBus = g.rdBus) (fun _ _ same => same) ⟨rfl, rfl⟩
  unfold Hub.busDone
  rw [front]
  dsimp only
  cases ok
  · rw [if_neg Bool.false_ne_true]
    refine ⟨(sent _ _).2, ?_, fun bad => absurd bad (by decide), fun _ => List.getLast?_concat⟩
    exact (rd_of_regs (sent _ _).1 ..).trans F.rd_wr
  · rw [if_pos rfl]
    refine ⟨(sent _ _).2, (rd_of_regs (sent _ _).1 ..).trans F.rd_wr, fun _ => ?_, fun bad => absurd bad (by decide)⟩
    have whole : (if (!m.data.isEmpty) = true then m.data else data) = if m.data.isEmpty = true then data else m.data := by
      cases m.data.isEmpty <;> rfl
    rw [if_pos rfl, whole, pieces_of_bytes, padTo_length]
    exact txbOut_each_send (t := (({ h with rdBus := rest } : Hub).wr TXB.CPLBUF_FREE _).regs) (fun _ _ _ => rfl) _ _ rfl

end Sys2Proof.Machine
end

section
/-! PROOFS. The transaction bridge: tags, completions, notices and the side band, and where each command completes. -/

namespace Sys2Proof.Machine

open Sys2Proof

/-! ### Tags and completions (R420 to R425) -/

theorem endTag_of_live {h : Hub} {t : Nat} {tg : TxbTag} {ok : Bool} (live : tg.dead = false) :
    h.endTag t tg ok = (({ h with tags := Tab.del t h.tags } : Hub).pieceDone tg.rd ok).retryReads := by
  unfold Hub.endTag
  rw [live]
  rfl

theorem endTag_tags {h : Hub} {t : Nat} {tg : TxbTag} {ok : Bool} (live : tg.dead = false) (none : h.rdWait = []) :
    (h.endTag t tg ok).tags = Tab.del t h.tags := by
  have same : ({ h with tags := Tab.del t h.tags } : Hub).Same
    0x300000000000000000000000000000000000000000000000000000200000000000000000000000000000000
    (({ h with tags := Tab.del t h.tags } : Hub).pieceDone tg.rd ok) := Hub.pieceDone_same
  rw [endTag_of_live live, tags_retryReads_of_none ((same.rdWait (by decide)).trans none), same.tags (by decide)]

/-- The last piece of a read answers the requester. -/
theorem pieceDone_last {h : Hub} {id : Nat} {ok : Bool} {r : TxbRead} (e : Tab.find id h.reads = some r) (left : r.left = 1) :
    (h.pieceDone id ok).rdAns = h.rdAns ++ [if r.failed = false ∧ ok = true then ⟨r.fromBus, r.addr, 0, (r.parts.map Prod.snd).flatten⟩
      else ⟨r.fromBus, r.addr, 2, []⟩] := by
  have answered (g : Hub) (a : TxbAns) : (g.answerRead a).rdAns = g.rdAns ++ [a] := by
    unfold Hub.answerRead
    cases a.fromBus && a.status == 1 <;> rfl
  unfold Hub.pieceDone
  rw [e]
  dsimp only
  rw [left, if_pos rfl, answered]
  cases r.failed <;> cases ok <;> rfl

theorem endTag_rdAns {h : Hub} {t : Nat} {tg : TxbTag} {ok : Bool} {r : TxbRead} (live : tg.dead = false)
    (e : Tab.find tg.rd h.reads = some r) (left : r.left = 1) :
    (h.endTag t tg ok).rdAns = h.rdAns ++ [if r.failed = false ∧ ok = true then ⟨r.fromBus, r.addr, 0, (r.parts.map Prod.snd).flatten⟩
      else ⟨r.fromBus, r.addr, 2, []⟩] := by
  rw [endTag_of_live live, Hub.retryReads_same.rdAns (by decide)]
  exact pieceDone_last (h := { h with tags := Tab.del t h.tags }) e left

theorem cpldIn_tags {h : Hub} {tid : Nat} {c : TxbHdr} {data : Bytes} {tg : TxbTag} (e : h.liveTag tid c.tag = some tg)
    (live : tg.dead = false) (sound : c.poison = false) (next : c.offset = tg.got) :
    (c.last = false → Tab.find c.tag (h.cpldIn tid c data).tags = some { tg with got := tg.got + c.len }) ∧
      (c.last = true → h.rdWait = [] → (h.cpldIn tid c data).tags = Tab.del c.tag h.tags) := by
  have go : (tg.dead || c.poison || c.offset != tg.got) = false := by
    rw [live, sound, next, bne_self_eq_false]
    rfl
  unfold Hub.cpldIn
  rw [e]
  dsimp only
  rw [go, if_neg Bool.false_ne_true]
  constructor <;> intro last
  · rw [last, if_neg Bool.false_ne_true]
    exact Tab.find_ins_same _ _ _
  · intro none
    rw [last, if_pos rfl]
    cases Tab.find tg.rd h.reads
    · exact endTag_tags live none
    · exact endTag_tags (h := { h with reads := _ }) live none

/-- The counts and errors of a tag that times out. -/
def Hub.tagLate (h : Hub) (t : Nat) (tg : TxbTag) : Hub :=
  ((({ h with tags := Tab.ins t { tg with quar := true } h.tags } : Hub).cnt TXB.CNT_CTO_COUNT).raise 0x80 1).irq 0x80 1

/-- The timeout of a tag, with its read's end and the reads that wait. -/
def Hub.tagTimeout (h : Hub) (t : Nat) (tg : TxbTag) : Hub :=
  ((h.tagLate t tg).when (!tg.dead) fun h => h.pieceDone tg.rd false).retryReads

theorem Hub.Canon.tagTimeout_shows {h : Hub} (C : h.Canon) (t : Nat) (tg : TxbTag) :
    let g := h.tagTimeout t tg
    Tab.find t g.tags = some { tg with quar := true } ∧ g.bit HDR.ESTAT 1 0x80 = true ∧ g.bit HDR.ISTAT 1 0x80 = true ∧
      g.rd TXB.CNT_CTO_COUNT = h.oneMore TXB.CNT_CTO_COUNT := by
  have F : ({ h with tags := Tab.ins t { tg with quar := true } h.tags } : Hub).Canon := ⟨C.regs, C.tab, C.fmem⟩
  have done : (h.tagLate t tg).Same 0x300000000000000000000000000000000000000000000000000000200000000000000000000000000000000
      ((h.tagLate t tg).when (!tg.dead) fun h => h.pieceDone tg.rd false) := by
    cases tg.dead
    · exact Hub.pieceDone_same
    · exact Hub.Same.refl _ _
  have raised : (h.tagLate t tg).tags = Tab.ins t { tg with quar := true } h.tags :=
    (Hub.irq_same.tags (by decide)).trans (Hub.raise_same.tags (by decide))
  have seen {F : Fld} {i b : Nat} (e : Nat.testBit 0x300000000000000000000000000000000000000000000000000000200000000000000000000000000000000 F.kind = false)
      (apart : ∀ G ∈ waitFlds, G.place ≠ F.place) : (h.tagTimeout t tg).rd F i b = (h.tagLate t tg).rd F i b :=
    (rd_retryReads_place apart).trans (done.rd (by decide) F i b e)
  refine ⟨find_retryReads ?_, ?_, ?_, ?_⟩
  · rw [done.tags (by decide), raised]
    exact Tab.find_ins_same _ _ _
  · refine (bit_of_rd (seen (by decide) (by decide))).trans ((bit_of_rd (rd_irq_place (by decide))).trans ?_)
    exact F.cnt.bit_raise rfl (by decide)
  · exact (bit_of_rd (seen (by decide) (by decide))).trans ((Hub.raise_canon F.cnt).bit_irq rfl (by decide))
  · rw [seen (by decide) (by decide), Hub.tagLate, rd_irq_place (by decide), Hub.raise_rd (by decide), F.rd_cnt]
    rfl

theorem Hub.Alarm.with_rdIn {F : Fld} {m q : Nat} {h : Hub} (A : h.Alarm F m q) {l : List TxbIn} :
    ({ h with rdIn := l } : Hub).Alarm F m q := A.of_regs ⟨A.canon.regs, A.canon.tab, A.canon.fmem⟩ rfl

/-! ### A read whose writes do not come (R421) -/

/-- The count, and the error, of a read that waited for its writes. -/
def Hub.pwaitOver (h : Hub) (m : TxbIn) : Hub :=
  ((h.wr TXB.hLanded (m.h.pwseq % 65536) 0 (h.linkOf m.tid).1).cnt TXB.CNT_PWAIT_COUNT).raise 0x80 3

/-- Such a read is issued after all, where the completion space allows it. -/
def Hub.pwaitIssue (h : Hub) (m : TxbIn) : Hub :=
  if (h.pwaitOver m).cplRoom m then ({ h.pwaitOver m with rdIn := (h.pwaitOver m).rdIn.erase m } : Hub).issueRead m else h.pwaitOver m

theorem Hub.Canon.pwaitIssue_shows {h : Hub} (C : h.Canon) (m : TxbIn) :
    (h.pwaitIssue m).bit HDR.ESTAT 3 0x80 = true ∧ (h.pwaitIssue m).rd TXB.hLanded 0 (h.linkOf m.tid).1 = m.h.pwseq % 65536 ∧
      (h.pwaitIssue m).rd TXB.CNT_PWAIT_COUNT = h.oneMore TXB.CNT_PWAIT_COUNT := by
  have A : (h.pwaitOver m).Alarm HDR.ESTAT 3 0x80 := C.wr.cnt.alarm_raise rfl (by decide)
  have same {F : Fld} {i b : Nat} (kind : F.kind = Kind.txb) (e : TXB.CPLBUF_FREE.place ≠ F.place ∧ MEM.CNT_RD_COUNT.place ≠ F.place) :
      (h.pwaitIssue m).rd F i b = (h.pwaitOver m).rd F i b := by
    unfold Hub.pwaitIssue
    split
    · exact rd_issueRead_place kind e
    · rfl
  refine ⟨?_, ?_, ?_⟩
  · unfold Hub.pwaitIssue
    split
    · exact A.with_rdIn.issueRead.bit
    · exact A.bit
  · rw [same (by decide) (by decide), Hub.pwaitOver, Hub.raise_rd (by decide), rd_cnt_place (by decide), C.rd_wr]
    exact Nat.mod_eq_of_lt (Nat.lt_of_lt_of_le (Nat.mod_lt _ (by decide)) (by decide))
  · rw [same (by decide) (by decide), Hub.pwaitOver, Hub.raise_rd (by decide), C.wr.rd_cnt, rd_wr_place (by decide)]
    rfl

/-! ### Notices (R430, R431) -/

/-- A notice recorded and counted, with what the capture shows. -/
def Hub.perrLogged (h : Hub) (tid src : Nat) (c : TxbHdr) (x : Cap) : Hub :=
  ((h.raise 0x80 0 x).irq 0x80 0).cnt TXB.CNT_PERR_RX_COUNT
    |>.wr TXB.PERRLOG_TID tid |>.wr TXB.PERRLOG_STATUS c.status |>.wr TXB.PERRNODE_NODE src

theorem Hub.Canon.perrLogged_shows {h : Hub} (C : h.Canon) (tid src : Nat) (c : TxbHdr) (x : Cap) :
    let g := h.perrLogged tid src c x
    g.bit HDR.ESTAT 0 0x80 = true ∧ g.bit HDR.ISTAT 0 0x80 = true ∧ g.rd TXB.PERRLOG_TID = tid % 2 ^ TXB.PERRLOG_TID.w ∧
      g.rd TXB.PERRLOG_STATUS = c.status % 2 ^ TXB.PERRLOG_STATUS.w ∧ g.rd TXB.CNT_PERR_RX_COUNT = h.oneMore TXB.CNT_PERR_RX_COUNT := by
  have A : (h.raise 0x80 0 x).Alarm HDR.ESTAT 0 0x80 := C.alarm_raise rfl (by decide)
  have B : ((h.raise 0x80 0 x).irq 0x80 0).Alarm HDR.ISTAT 0 0x80 := A.canon.alarm_irq rfl (by decide)
  have D := B.canon.cnt (F := TXB.CNT_PERR_RX_COUNT) (i := 0) (b := 0)
  refine ⟨((((A.irq.cnt (by decide)).wr (by decide)).wr (by decide)).wr (by decide)).bit,
    ((((B.cnt (by decide)).wr (by decide)).wr (by decide)).wr (by decide)).bit, ?_, ?_, ?_⟩ <;> unfold Hub.perrLogged
  · rw [rd_wr_place (by decide), rd_wr_place (by decide), D.rd_wr]
  · rw [rd_wr_place (by decide), D.wr.rd_wr]
  · rw [rd_wr_place (by decide), rd_wr_place (by decide), rd_wr_place (by decide), B.canon.rd_cnt, rd_irq_place (by decide),
      Hub.raise_rd (by decide)]
    rfl

theorem Hub.Canon.perrIn_shows {h : Hub} (C : h.Canon) (tid src : Nat) (c : TxbHdr) :
    let g := h.perrIn tid src c
    g.bit HDR.ESTAT 0 0x80 = true ∧ g.bit HDR.ISTAT 0 0x80 = true ∧ g.rd TXB.PERRLOG_TID = tid % 2 ^ TXB.PERRLOG_TID.w ∧
      g.rd TXB.PERRLOG_STATUS = c.status % 2 ^ TXB.PERRLOG_STATUS.w ∧ g.rd TXB.CNT_PERR_RX_COUNT = h.oneMore TXB.CNT_PERR_RX_COUNT :=
  C.perrLogged_shows tid src c _

/-! ### Side band (R433 to R436) -/

theorem Hub.Canon.pollSend_shows {h : Hub} (C : h.Canon) :
    h.pollSend.rd TXB.hPolls = min 3 (h.rd TXB.hPolls) + 1 ∧ (3 ≤ h.rd TXB.hPolls → h.pollSend.bit HDR.ESTAT 4 0x80 = true) ∧
      h.pollSend.txbOut = h.txbOut ++ [{ tid := h.rd TXB.OW_REQ_TID, h := { op := 5 } }] := by
  have R {c : Bool} : (h.when c fun h => h.raise 0x80 4).Canon := C.when (Hub.raise_canon C)
  have S {c : Bool} {m : TxbMsg} : ((h.when c fun h => h.raise 0x80 4).txbSend m).Canon := ⟨R.regs, R.tab, R.fmem⟩
  have out {c : Bool} : (h.when c fun h => h.raise 0x80 4).txbOut = h.txbOut := by
    cases c
    · rfl
    · exact Hub.raise_same.txbOut (by decide)
  refine ⟨?_, fun late => ?_, ?_⟩
  · refine (rd_txbDo (by decide)).trans (S.rd_wr.trans (Nat.mod_eq_of_lt (Nat.lt_of_le_of_lt ?_ (by decide : 4 < 2 ^ TXB.hPolls.w))))
    omega
  · refine (bit_txbDo (by decide)).trans ((bit_wr_place (by decide)).trans ?_)
    rw [decide_eq_true late]
    exact C.bit_raise rfl (by decide)
  · refine ((txbDo_same _ _).txbOut (by decide)).trans ?_
    rw [Hub.wr_txbOut]
    exact congrArg (· ++ _) out

/-- What the side band shows once WAKE# has been seen. -/
def Hub.sbSeen (h : Hub) (wake : Bool) : Nat :=
  if h.up 0x81 = true ∧ h.rd PCI.MODE_MODE = 2 then setBits (h.rd TXB.SBLOCAL_BITS) 2 1 (bnat wake) % 2 ^ TXB.SBLOCAL_BITS.w
  else h.rd TXB.SBLOCAL_BITS

theorem Hub.Canon.seeWake {h : Hub} (C : h.Canon) : h.seeWake.Canon := C.when (Hub.free_canon C).wrBit

theorem Hub.Canon.rd_seeWake {h : Hub} (C : h.Canon) : ∃ wake, h.seeWake.rd TXB.SBLOCAL_BITS = h.sbSeen wake := by
  refine ⟨h.free.1 % 2 == 1, ?_⟩
  unfold Hub.seeWake Hub.sbSeen
  by_cases port : h.up 0x81 = true ∧ h.rd PCI.MODE_MODE = 2
  · rw [if_pos port, port.1, port.2]
    exact (Hub.free_canon C).rd_wr
  · have off : (h.up 0x81 && h.rd PCI.MODE_MODE == 2) = false := by
      rw [Bool.eq_false_iff, Ne, Bool.and_eq_true, beq_iff_eq]
      exact port
    rw [if_neg port, off, Hub.when_false]

theorem rd_seeWake_place {h : Hub} {F : Fld} {i b : Nat} (e : TXB.SBLOCAL_BITS.place ≠ F.place) : h.seeWake.rd F i b = h.rd F i b :=
  rd_when_of_rd (rd_wrBit_place (h := h.free.2) e)

theorem seeWake_txbOut (h : Hub) : h.seeWake.txbOut = h.txbOut := by
  unfold Hub.seeWake
  cases h.up 0x81 && h.rd PCI.MODE_MODE == 2 <;> rfl

theorem Hub.Canon.pollIn_shows {h : Hub} (C : h.Canon) (tid : Nat) (c : TxbHdr) :
    (h.pollIn tid c).rd TXB.hCatch = 0 ∧ ∃ wake : Bool,
      (h.pollIn tid c).rd TXB.SBLOCAL_BITS = setBits (h.sbSeen wake) 7 4 0 % 2 ^ TXB.SBLOCAL_BITS.w ∧
      (h.pollIn tid c).txbOut = h.txbOut ++ [⟨tid, true, { op := 6, tag := c.tag },
        natLe 4 (h.sbSeen wake) ++ natLe 4 0 ++ natLe 8 (h.rd TXB.hCatch)⟩] := by
  obtain ⟨wake, sb⟩ := C.rd_seeWake
  have S (m : TxbMsg) : (h.seeWake.txbSend m).Canon := ⟨C.seeWake.regs, C.seeWake.tab, C.seeWake.fmem⟩
  have caught : h.seeWake.rd TXB.hCatch = h.rd TXB.hCatch := rd_seeWake_place (by decide)
  unfold Hub.pollIn
  dsimp only
  rw [sb, caught]
  refine ⟨(rd_wr_place (by decide)).trans (S _).rd_wr, wake, (S _).wr.rd_wr, ?_⟩
  rw [Hub.wr_txbOut, Hub.wr_txbOut]
  exact congrArg (· ++ _) (seeWake_txbOut h)

theorem clrMask_zero (n : Nat) : clrMask n 0 = n := by
  unfold clrMask
  rw [Nat.and_zero, Nat.sub_zero]

/-- A reply before its vectors are told to anyone. -/
def Hub.replySeen (h : Hub) (sb all : Nat) : Hub :=
  (((h.wr TXB.hPolls 0).wr TXB.SBFAR_BITS sb).when ((h.rd TXB.SBFAR_BITS ^^^ (sb % 2 ^ 32)) &&& h.rd TXB.SBMASK_BITS != 0) fun h =>
    h.irq 0x80 2).wr TXB.MSIFAR_LO_BITS all |>.wr TXB.MSIFAR_HI_BITS (all / 2 ^ 32)

/-- The vectors of a reply told to the management CPU, or sent on to the host. -/
def Hub.replyTold (h : Hub) (fwd host : Bool) (all new : Nat) : Hub :=
  if !fwd then h.when (new != 0) fun h => h.irq 0x80 3
  else if host then
    ((h.each ((List.range 64).filter fun k => new.testBit k) fun k h => h.msix k).wr TXB.MSIFAR_LO_BITS (clrMask all new)).wr
      TXB.MSIFAR_HI_BITS (clrMask all new / 2 ^ 32)
  else h

/-- The vectors that a reply brings. -/
def Hub.replyNew (h : Hub) (catchBits : Nat) : Nat :=
  clrMask (catchBits % 2 ^ 64) (h.rd TXB.MSIFAR_HI_BITS * 2 ^ 32 + h.rd TXB.MSIFAR_LO_BITS)

/-- The vectors held and new. -/
def Hub.replyAll (h : Hub) (catchBits : Nat) : Nat :=
  (h.rd TXB.MSIFAR_HI_BITS * 2 ^ 32 + h.rd TXB.MSIFAR_LO_BITS) ||| h.replyNew catchBits

theorem pollReply_eq (h : Hub) (sb catchBits : Nat) : h.pollReply sb catchBits =
    (h.replySeen sb (h.replyAll catchBits)).replyTold (h.on TXB.CFG_MSI_FWD) (decide (h.rd PCI.MODE_MODE = 1)) (h.replyAll catchBits)
      (h.replyNew catchBits) := by
  unfold Hub.pollReply Hub.replyTold
  by_cases host : h.rd PCI.MODE_MODE = 1
  · simp only [host, decide_true]
    rfl
  · simp only [host, decide_false]
    rfl

theorem Hub.Canon.replySeen {h : Hub} (C : h.Canon) {sb all : Nat} : (h.replySeen sb all).Canon := by
  unfold Hub.replySeen
  refine Hub.Canon.wr (Hub.Canon.wr (Hub.Canon.when C.wr.wr ?_))
  exact Hub.irq_canon C.wr.wr

theorem rd_replyTold {h : Hub} {fwd host : Bool} {all new i b : Nat} {F : Fld} (kind : F.kind = Kind.txb)
    (e : ∀ G ∈ [HDR.ISTAT, TXB.MSIFAR_LO_BITS, TXB.MSIFAR_HI_BITS], G.place ≠ F.place) :
    (h.replyTold fwd host all new).rd F i b = h.rd F i b := by
  unfold Hub.replyTold
  split_ifs
  · exact rd_when_of_rd (rd_irq_place (e _ (by decide)))
  · rw [rd_wr_place (e _ (by decide)), rd_wr_place (e _ (by decide))]
    exact keep_each (P := fun g => g.rd F i b = h.rd F i b) (fun _ _ same => (Hub.msix_rd (by rw [kind]; decide)).trans same) rfl
  · rfl

theorem Hub.Alarm.replyTold {F : Fld} {m q : Nat} {h : Hub} (A : h.Alarm F m q) {fwd host : Bool} {all new : Nat} :
    (h.replyTold fwd host all new).Alarm F m q := by
  have sent : (h.each ((List.range 64).filter fun k => new.testBit k) fun k h => h.msix k).Alarm F m q :=
    A.each fun k g B => B.of_rd (Hub.msix_canon B.canon) (by rcases B.fld with rfl | rfl <;> exact Hub.msix_rd (by decide))
  unfold Hub.replyTold
  split_ifs
  · exact A.when A.irq
  · exact (sent.wr (by decide)).wr (by decide)
  · exact A

theorem Hub.Canon.pollReply_shows {h : Hub} (C : h.Canon) (sb catchBits : Nat) :
    let g := h.pollReply sb catchBits
    g.rd TXB.hPolls = 0 ∧ g.rd TXB.SBFAR_BITS = sb % 2 ^ 32 ∧
      ((h.rd TXB.SBFAR_BITS ^^^ (sb % 2 ^ 32)) &&& h.rd TXB.SBMASK_BITS ≠ 0 → g.bit HDR.ISTAT 2 0x80 = true) ∧
      (h.on TXB.CFG_MSI_FWD = false → h.rd TXB.MSIFAR_LO_BITS = 0 → h.rd TXB.MSIFAR_HI_BITS = 0 →
        g.rd TXB.MSIFAR_LO_BITS = catchBits % 2 ^ 32 ∧ (catchBits % 2 ^ 64 ≠ 0 → g.bit HDR.ISTAT 3 0x80 = true)) := by
  have S {all : Nat} : (h.replySeen sb all).Canon := C.replySeen
  have W {c : Bool} : (((h.wr TXB.hPolls 0).wr TXB.SBFAR_BITS sb).when c fun h => h.irq 0x80 2).Canon :=
    Hub.Canon.when C.wr.wr (Hub.irq_canon C.wr.wr)
  have seen {F : Fld} {all : Nat} (e : ∀ G ∈ [HDR.ISTAT, TXB.MSIFAR_LO_BITS, TXB.MSIFAR_HI_BITS], G.place ≠ F.place) :
      (h.replySeen sb all).rd F = ((h.wr TXB.hPolls 0).wr TXB.SBFAR_BITS sb).rd F := by
    unfold Hub.replySeen
    rw [rd_wr_place (e _ (by decide)), rd_wr_place (e _ (by decide))]
    exact rd_when_of_rd (rd_irq_place (e _ (by decide)))
  rw [pollReply_eq]
  refine ⟨?_, ?_, fun diff => ?_, fun fwd lo hi => ?_⟩
  · rw [rd_replyTold (by decide) (by decide), seen (by decide), rd_wr_place (by decide), C.rd_wr]
    rfl
  · rw [rd_replyTold (by decide) (by decide), seen (by decide), C.wr.rd_wr]
    rfl
  · refine Hub.Alarm.bit (Hub.Alarm.replyTold ?_)
    unfold Hub.replySeen
    rw [bne_iff_ne.2 diff, Hub.when_true]
    exact ((C.wr.wr.alarm_irq rfl (by decide)).wr (by decide)).wr (by decide)
  · have new : h.replyNew catchBits = catchBits % 2 ^ 64 := by
      unfold Hub.replyNew
      rw [lo, hi, Nat.zero_mul, clrMask_zero]
    have all : h.replyAll catchBits = catchBits % 2 ^ 64 := by
      unfold Hub.replyAll
      rw [lo, hi, new, Nat.zero_mul, Nat.zero_or]
    rw [new, all, fwd]
    unfold Hub.replyTold
    rw [Bool.not_false, if_pos rfl]
    refine ⟨?_, fun some' => ?_⟩
    · refine (rd_when_of_rd (rd_irq_place (by decide))).trans ((rd_wr_place (by decide)).trans (W.rd_wr.trans ?_))
      exact Nat.mod_mod_of_dvd _ (by decide)
    · rw [bne_iff_ne.2 some', Hub.when_true]
      exact S.bit_irq rfl (by decide)

theorem Hub.Canon.refreshPf_count {h : Hub} (C : h.Canon) : h.refreshPf.rd TXB.PFSTAT_COUNT = h.pfifo.length % 2 ^ TXB.PFSTAT_COUNT.w := by
  unfold Hub.refreshPf
  simp +decide only [rd_wr_place, C.rd_wr]

theorem leNat_natLe (n : Nat) : ∀ v : Nat, leNat (natLe n v) = v % 256 ^ n := by
  induction n with
  | zero => exact fun v => (Nat.mod_one v).symm
  | succ n ih =>
    intro v
    rw [natLe, leNat, ih, BitVec.toNat_ofNat, show 256 ^ (n + 1) = 256 * 256 ^ n from Nat.pow_succ']
    exact Nat.mod_mul.symm

end Sys2Proof.Machine

open Sys2Proof Sys2Proof.Machine

/-- Settles O15, clause by clause, from what each operation leaves in the node and sends. -/
theorem bridgeCommandsComplete : Obligations.BridgeCommandsComplete := by
  intro s I
  have C : s.hub.Canon := I
  have sane {op : Nat} (small : op < 7) : ¬7 ≤ op := Nat.not_le.2 small
  have go {c : TxbHdr} {f : Hub → Hub} (op : c.op < 7) (sound : c.poison = false) : s.hub.unlessPoison c f = f s.hub := by
    unfold Hub.unlessPoison
    rw [if_neg (sane op), sound]
    rfl
  refine ⟨?write, ?read, ?mwr, ?issue, ?mrd, ?readIssue, ?pwait, ?bus, ?cpld, ?cpl, ?perr, ?timeout, ?quar, ?poll, ?sbrd, ?sbrsp, ?msi, ?pfpop⟩
  case write =>
    intro fromBus addr ro ns data w up link other e
    refine completes_when (p := fun h => h.up 0x80 && (!fromBus || (h.up 0x81 && h.on PCI.LSTAT_DL_UP)))
      (f := fun _ h => if fromBus then h.busWrite addr ro ns data else h.txbDo fun h => h.outWrite false addr ro ns data) rfl ?_ ?_
    · cases fromBus
      · rw [up]; rfl
      · rw [up, (link rfl).1, (link rfl).2]; rfl
    · have sent : (if fromBus then s.hub.busWrite addr ro ns data else s.hub.txbDo fun h => h.outWrite false addr ro ns data) =
          s.hub.txbDo fun h => h.outWrite fromBus addr ro ns data := by
        cases fromBus
        · rfl
        · rw [if_pos rfl, Hub.busWrite, if_neg]
          intro bad
          rcases other rfl with mode | len | at'
          · exact mode bad.1
          · exact len bad.2.1
          · exact at' bad.2.2
      rw [sent]
      exact ((txbDo_same _ _).txbOut (by decide)).trans (outWrite_txbOut e)
  case read =>
    intro fromBus addr len ro ns w up some' link e
    refine completes_when (p := fun h => h.up 0x80 && decide (0 < len) && (!fromBus || (h.up 0x81 && h.on PCI.LSTAT_DL_UP)))
      (f := fun _ h => h.txbDo fun h => h.outRead fromBus addr len ro ns) rfl ?_ ?_
    · rw [up, decide_eq_true some']
      cases fromBus
      · rfl
      · rw [(link rfl).1, (link rfl).2]; rfl
    · have same := txbDo_same s.hub fun h => h.outRead fromBus addr len ro ns
      rw [same.reads (by decide), same.txbOut (by decide), same.rdWait (by decide)]
      exact outRead_shows e
  case mwr =>
    intro tid src c data up op sound
    refine completes_when (p := fun h => h.up 0x80)
      (f := fun _ h => h.txbDo fun h => if c.op ≥ 7 then h.badOp else h.mwrIn { tid := tid, src := src, h := c, data := data }) rfl up ?_
    have same := txbDo_same s.hub fun h => if c.op ≥ 7 then h.badOp else h.mwrIn { tid := tid, src := src, h := c, data := data }
    rw [same.land (by decide), same.rd (by decide) _ _ _ (by decide), if_neg (sane op)]
    exact C.mwrIn_shows (m := ⟨tid, src, c, data⟩) sound
  case issue =>
    exact fun busOk m rest up land en size mem one ok => completes_when (p := fun h => h.up 0x80) (f := fun _ h => h.issueWrite busOk) rfl up
      (C.issueWrite_shows land en size mem one ok)
  case mrd =>
    intro tid src c up op sound
    refine completes_when (p := fun h => h.up 0x80) (f := fun _ h => h.txbDo fun h => if c.op ≥ 7 then h.badOp
      else if c.poison then (h.cnt TXB.CNT_POISON_COUNT).cplSend { tid := tid, src := src, h := c } 3
      else { h with rdIn := h.rdIn ++ [{ tid := tid, src := src, h := c }] }) rfl up ?_
    refine ((txbDo_same _ _).rdIn (by decide)).trans ?_
    rw [if_neg (sane op), sound]
    rfl
  case readIssue =>
    intro m up first ok
    refine completes_when (p := fun h => h.up 0x80) (f := fun _ h => match h.takeRead h.mayIssue with
      | some (m, h1) => h1.issueRead m
      | none => h) rfl up ?_
    have taken : s.hub.takeRead s.hub.mayIssue = some (m, { s.hub with rdIn := s.hub.rdIn.erase m }) := by
      unfold Hub.takeRead
      rw [first]
    rw [taken]
    have R : ({ s.hub with rdIn := s.hub.rdIn.erase m } : Hub).Canon := ⟨C.regs, C.tab, C.fmem⟩
    exact R.issueRead_shows (((sameFar_rdIn _ _).farStatus ..).trans ok)
  case pwait =>
    intro m up first
    refine completes_when (p := fun h => h.up 0x80) (f := fun _ h => match h.rdIn.find? fun m => !h.writesLanded m with
      | none => h
      | some m => h.txbDo fun h => h.pwaitIssue m) rfl up ?_
    rw [first]
    dsimp only
    rw [bit_txbDo (by decide), rd_txbDo (by decide), rd_txbDo (by decide)]
    exact C.pwaitIssue_shows m
  case bus =>
    exact fun ok data m rest up front => completes_when (p := fun h => h.up 0x80) (f := fun _ h => h.busDone ok data) rfl up
      (C.busDone_shows front)
  case cpld =>
    intro tid c data tg up op live dead sound next
    refine completes_when (p := fun h => h.up 0x80) (f := fun _ h => h.txbDo fun h =>
      if c.op ≥ 7 then h.badOp else (h.when c.poison fun h => h.cnt TXB.CNT_POISON_COUNT).cpldIn tid c data) rfl up ?_
    have same := txbDo_same s.hub fun h =>
      if c.op ≥ 7 then h.badOp else (h.when c.poison fun h => h.cnt TXB.CNT_POISON_COUNT).cpldIn tid c data
    rw [same.tags (by decide), if_neg (sane op), sound, Hub.when_false]
    exact cpldIn_tags live dead sound next
  case cpl =>
    intro tid c tg rr up op live dead sound e left
    refine completes_when (p := fun h => h.up 0x80) (f := fun _ h => h.txbDo fun h => h.unlessPoison c fun h =>
      match h.liveTag tid c.tag with
      | none => h.cnt TXB.CNT_LATE_COUNT
      | some tg => h.endTag c.tag tg (c.status == 0 && tg.got == tg.len)) rfl up ?_
    refine ((txbDo_same _ _).rdAns (by decide)).trans ?_
    rw [go op sound, live]
    dsimp only
    rw [endTag_rdAns dead e left]
    simp only [Bool.and_eq_true, beq_iff_eq]
  case perr =>
    intro tid src c up op sound
    refine completes_when (p := fun h => h.up 0x80) (f := fun _ h => h.txbDo fun h => h.unlessPoison c fun h => h.perrIn tid src c) rfl up ?_
    rw [bit_txbDo (by decide), bit_txbDo (by decide), rd_txbDo (by decide), rd_txbDo (by decide), rd_txbDo (by decide), go op sound]
    exact C.perrIn_shows tid src c
  case timeout =>
    intro t tg up e fresh
    refine completes_when (p := fun h => h.up 0x80) (f := fun _ h => match Tab.find t.val h.tags with
      | none => h
      | some tg => if tg.quar then h else h.txbDo fun h => h.tagTimeout t tg) rfl up ?_
    rw [e]
    dsimp only
    rw [fresh, if_neg Bool.false_ne_true, (txbDo_same _ _).tags (by decide), bit_txbDo (by decide), bit_txbDo (by decide), rd_txbDo (by decide)]
    exact C.tagTimeout_shows t tg
  case quar =>
    intro t tg up e quar none
    refine completes_when (p := fun h => h.up 0x80) (show execQuarantineEnd t s = _ from rfl) up ?_
    rw [e]
    dsimp only
    rw [quar, if_pos rfl]
    exact tags_retryReads_of_none (h := { s.hub with tags := Tab.del t.val s.hub.tags }) none
  case poll =>
    exact fun up en => completes_when (p := fun h => h.up 0x80 && h.on TXB.POLL_EN) (f := fun _ h => h.pollSend) rfl (by rw [up, en]; rfl)
      C.pollSend_shows
  case sbrd =>
    intro tid c up op sound
    refine completes_when (p := fun h => h.up 0x80) (f := fun _ h => h.txbDo fun h => h.unlessPoison c fun h => h.pollIn tid c) rfl up ?_
    rw [rd_txbDo (by decide), rd_txbDo (by decide), (txbDo_same _ _).txbOut (by decide), go op sound]
    exact C.pollIn_shows tid c
  case sbrsp =>
    intro tid c sb catchBits up op sound
    refine completes_when (p := fun h => h.up 0x80) (f := fun _ h => h.txbDo fun h => h.unlessPoison c fun h => h.pollReply sb catchBits) rfl up ?_
    rw [rd_txbDo (by decide), rd_txbDo (by decide), rd_txbDo (by decide), bit_txbDo (by decide), bit_txbDo (by decide), go op sound]
    exact C.pollReply_shows sb catchBits
  case msi =>
    intro addr data up up' mode link at'
    refine completes_when (p := fun h => h.up 0x80 && h.up 0x81 && h.rd PCI.MODE_MODE == 2 && h.on PCI.LSTAT_DL_UP)
      (f := fun _ h => h.busWrite addr false false (natLe 4 data)) rfl (by rw [up, up', mode, link]; rfl) ?_
    have vector : leAt (natLe 4 data) 0 4 % 64 = data % 64 := by
      rw [leAt, List.drop_zero, List.take_of_length_le (Nat.le_of_eq (length_natLe 4 data)), leNat_natLe]
      exact Nat.mod_mod_of_dvd _ (by decide)
    have caught : s.hub.busWrite addr false false (natLe 4 data) = s.hub.wrBit TXB.hCatch (data % 64) true := by
      unfold Hub.busWrite
      rw [if_pos ⟨mode, length_natLe 4 data, at'⟩, vector]
    rw [caught]
    exact C.bit_wrBit (Nat.mod_lt _ (by decide))
  case pfpop =>
    intro r A
    refine completes_go (f := fun h => ({ h with pfifo := h.pfifo.drop 1 } : Hub).refreshPf) rfl A ⟨rfl, ?_⟩
    have P : ({ s.hub.dropLatch r.master with pfifo := s.hub.pfifo.drop 1 } : Hub).Canon := ⟨C.regs, C.tab, C.fmem⟩
    exact P.refreshPf_count
end

section
/-! PROOFS. The key engine: where each command completes (R606 to R623). -/

namespace Sys2Proof.Machine

open Sys2Proof

/-! ### Slots (R613, R615, R638) -/

def slotShown : List Fld := [KEY.SATTR_INUSE, KEY.LOCKED_SLOTS, KEY.VALIDMAP_SLOTS]

theorem rd_refreshSlots_place {h : Hub} {F : Fld} {i b : Nat} (e : ∀ G ∈ slotShown, G.place ≠ F.place) :
    h.refreshSlots.rd F i b = h.rd F i b := by
  unfold Hub.refreshSlots
  dsimp only
  rw [rd_wr_place (e _ (by decide)), rd_wr_place (e _ (by decide))]
  exact keep_each (P := fun g => g.rd F i b = h.rd F i b) (fun _ _ same => (rd_wr_place (e _ (by decide))).trans same) rfl

/-- The fields of a slot that is filled. -/
def Hub.slotSet (h : Hub) (s recip sealed : Nat) (k : Bytes) : Hub :=
  ({ h with keys := Tab.ins s (padTo 32 k) h.keys } : Hub).wr KEY.SATTR_RECIPIENT recip 0 s |>.wr KEY.SATTR_VALID 1 0 s
    |>.wr KEY.SATTR_SEALED sealed 0 s

theorem rd_fillSlot {h : Hub} {s recip sealed i b : Nat} {k : Bytes} {F : Fld} (e : ∀ G ∈ KEY.hFresh :: slotShown, G.place ≠ F.place) :
    (h.fillSlot s recip sealed k).rd F i b = (h.slotSet s recip sealed k).rd F i b := by
  refine (rd_refreshSlots_place fun G m => e G (List.mem_cons_of_mem _ m)).trans ?_
  exact keep_each (P := fun g => g.rd F i b = (h.slotSet s recip sealed k).rd F i b)
    (fun _ _ same => (rd_wr_place (e _ List.mem_cons_self)).trans same) rfl

theorem rd_slotSet_place {h : Hub} {s recip sealed i b : Nat} {k : Bytes} {F : Fld}
    (e : ∀ G ∈ [KEY.SATTR_RECIPIENT, KEY.SATTR_VALID, KEY.SATTR_SEALED], G.place ≠ F.place) :
    (h.slotSet s recip sealed k).rd F i b = h.rd F i b := by
  unfold Hub.slotSet
  rw [rd_wr_place (e _ (by decide)), rd_wr_place (e _ (by decide)), rd_wr_place (e _ (by decide))]
  rfl

theorem Hub.Canon.fillSlot_shows {h : Hub} (C : h.Canon) (s recip sealed : Nat) (k : Bytes) :
    (h.fillSlot s recip sealed k).rd KEY.SATTR_VALID 0 s = 1 ∧
      (h.fillSlot s recip sealed k).rd KEY.SATTR_RECIPIENT 0 s = recip % 2 ^ KEY.SATTR_RECIPIENT.w ∧
      Tab.get [] s (h.fillSlot s recip sealed k).keys = padTo 32 k := by
  have K : ({ h with keys := Tab.ins s (padTo 32 k) h.keys } : Hub).Canon := ⟨C.regs, C.tab, C.fmem⟩
  refine ⟨?_, ?_, ?_⟩
  · rw [rd_fillSlot (by decide)]
    exact (rd_wr_place (by decide)).trans K.wr.rd_wr
  · rw [rd_fillSlot (by decide)]
    exact (rd_wr_place (by decide)).trans ((rd_wr_place (by decide)).trans K.rd_wr)
  · have same : (h.fillSlot s recip sealed k).keys = Tab.ins s (padTo 32 k) h.keys :=
      (Hub.refreshSlots_same.keys (by decide)).trans
        (keep_each (P := fun g => g.keys = Tab.ins s (padTo 32 k) h.keys) (fun _ _ same => same) rfl)
    rw [same]
    exact Tab.get_ins_same _ _ _ _

/-- The fields of a slot that is emptied. -/
def Hub.slotCleared (h : Hub) (s : Nat) : Hub :=
  ({ h with keys := Tab.del s h.keys } : Hub).wr KEY.SATTR_RECIPIENT 0 0 s |>.wr KEY.SATTR_VALID 0 0 s |>.wr KEY.SATTR_SEALED 0 0 s
    |>.wr KEY.SATTR_LOCKED 0 0 s

theorem rd_emptySlot_place {h : Hub} {s i b : Nat} {F : Fld}
    (e : ∀ G ∈ [KEY.SATTR_RECIPIENT, KEY.SATTR_VALID, KEY.SATTR_SEALED, KEY.SATTR_LOCKED] ++ slotShown, G.place ≠ F.place) :
    (h.emptySlot s).rd F i b = h.rd F i b := by
  refine (rd_refreshSlots_place (h := h.slotCleared s) fun G m => e G (List.mem_append_right _ m)).trans ?_
  unfold Hub.slotCleared
  rw [rd_wr_place (e _ (by decide)), rd_wr_place (e _ (by decide)), rd_wr_place (e _ (by decide)), rd_wr_place (e _ (by decide))]
  rfl

theorem Hub.Canon.emptySlot_shows {h : Hub} (C : h.Canon) (s : Nat) :
    (h.emptySlot s).rd KEY.SATTR_VALID 0 s = 0 ∧ (h.emptySlot s).keys = Tab.del s h.keys := by
  have K : ({ h with keys := Tab.del s h.keys } : Hub).Canon := ⟨C.regs, C.tab, C.fmem⟩
  refine ⟨(rd_refreshSlots_place (h := h.slotCleared s) (by decide)).trans ?_, Hub.refreshSlots_same.keys (by decide)⟩
  unfold Hub.slotCleared
  rw [rd_wr_place (by decide), rd_wr_place (by decide), K.wr.rd_wr]
  rfl

theorem Hub.Canon.lockSlots_shows {h : Hub} (C : h.Canon) {v k : Nat} (small : k < 32) (bit : v.testBit k = true) :
    (h.lockSlots v).rd KEY.SATTR_LOCKED 0 k = 1 := by
  refine (rd_refreshSlots_place (by decide)).trans ?_
  refine (keep_foldl_of_mem (C := Hub.Canon) (Q := fun g => g.rd KEY.SATTR_LOCKED 0 k = 1) (a := k) (fun _ _ _ C => C.wr)
    (fun g j _ ne _ e => ?_) (fun _ C => C.rd_wr) C (List.mem_filter.2 ⟨List.mem_range.2 small, bit⟩)).2
  exact (rd_wr_inst (by omega)).trans e

/-! ### The end of an operation (R614, R639) -/

theorem Hub.Canon.keyEnd_shows {h : Hub} (C : h.Canon) {code : Nat} (small : code < 16) :
    let g := h.keyEnd code
    g.rd KEY.CSTAT_CODE = code ∧ g.rd KEY.CSTAT_DONE = (if code = 0 then 2 else 3) ∧
      g.rd KEY.CNT_OP_COUNT = h.oneMore KEY.CNT_OP_COUNT ∧ g.bit HDR.ISTAT 0 0xE = true ∧
      (code ≠ 0 → g.rd KEY.CNT_FAIL_COUNT = h.oneMore KEY.CNT_FAIL_COUNT) := by
  have D : ((h.wr KEY.CSTAT_DONE (if code = 0 then 2 else 3)).wr KEY.CSTAT_CODE code).Canon := C.wr.wr
  have shut {F : Fld} {g : Hub} (e : HDR.ISTAT.place ≠ F.place ∧ KEY.CNT_FAIL_COUNT.place ≠ F.place) :
      ((g.when (code != 0) fun h => h.cnt KEY.CNT_FAIL_COUNT).irq 0xE 0).rd F = g.rd F :=
    (rd_irq_place e.1).trans (rd_when_of_rd (rd_cnt_place e.2))
  unfold Hub.keyEnd
  refine ⟨?_, ?_, ?_, (D.cnt.when D.cnt.cnt).bit_irq rfl (by decide), fun bad => ?_⟩
  · rw [shut (by decide), rd_cnt_place (by decide), C.wr.rd_wr]
    exact Nat.mod_eq_of_lt small
  · rw [shut (by decide), rd_cnt_place (by decide), rd_wr_place (by decide), C.rd_wr]
    split_ifs <;> rfl
  · rw [shut (by decide), D.rd_cnt, rd_wr_place (by decide), rd_wr_place (by decide)]
    rfl
  · rw [rd_irq_place (by decide), bne_iff_ne.2 bad, Hub.when_true, D.cnt.rd_cnt, rd_cnt_place (by decide), rd_wr_place (by decide),
      rd_wr_place (by decide)]
    rfl

/-- `g` is what the end of an operation with some code leaves, of a node whose counts are those of `h`. -/
def Hub.KeyEnds (h g : Hub) : Prop :=
  ∃ (k : Hub) (c : Nat), g = k.keyEnd c ∧ c < 16 ∧ k.Canon ∧ k.rd KEY.CNT_OP_COUNT = h.rd KEY.CNT_OP_COUNT ∧ k.rd KEY.CNT_FAIL_COUNT = h.rd KEY.CNT_FAIL_COUNT

theorem Hub.Canon.keyEnds {h k : Hub} (C : k.Canon) {c : Nat} (small : c < 16)
    (same : ∀ F ∈ [KEY.CNT_OP_COUNT, KEY.CNT_FAIL_COUNT], k.rd F = h.rd F) : h.KeyEnds (k.keyEnd c) :=
  ⟨k, c, rfl, small, C, same _ (by decide), same _ (by decide)⟩

theorem Hub.Canon.keyEnds_of_regs {h k : Hub} (C : h.Canon) (regs : k.regs = h.regs) (tab : k.tab = h.tab) (fmem : k.fmem = h.fmem)
    {c : Nat} (small : c < 16) : h.KeyEnds (k.keyEnd c) :=
  Hub.Canon.keyEnds ⟨regs ▸ C.regs, tab ▸ C.tab, fmem ▸ C.fmem⟩ small fun F _ => rd_of_regs regs F 0 0

/-- A counter of the engine is no field of a slot. -/
theorem fillSlot_counts (h : Hub) (s recip sealed : Nat) (k : Bytes) :
    ∀ F ∈ [KEY.CNT_OP_COUNT, KEY.CNT_FAIL_COUNT], (h.fillSlot s recip sealed k).rd F = h.rd F := by
  intro F m
  have apart : (∀ G ∈ KEY.hFresh :: slotShown, G.place ≠ F.place) ∧
      ∀ G ∈ [KEY.SATTR_RECIPIENT, KEY.SATTR_VALID, KEY.SATTR_SEALED], G.place ≠ F.place := by
    revert F m; decide
  exact (rd_fillSlot apart.1).trans (rd_slotSet_place apart.2)

theorem pub_counts {k h : Hub} (e : k.regs = h.regs) (bs : Bytes) :
    ∀ F ∈ [KEY.CNT_OP_COUNT, KEY.CNT_FAIL_COUNT], (k.setBuf KEY.PUB (padTo 49 bs)).rd F = h.rd F := fun F m =>
  (rd_setBuf_outside (n := 13) (by rw [padTo_length]; decide)
    ((by decide : ∀ F ∈ [KEY.CNT_OP_COUNT, KEY.CNT_FAIL_COUNT], F.Outside KEY.PUB 13) F m)).trans (rd_of_regs e F 0 0)

theorem Hub.Canon.ephemeral_ends {h : Hub} (C : h.Canon) (n : Nat) (k point : Bytes) :
    h.KeyEnds ((({ h with freeIx := n, ephemeral := k } : Hub).setBuf KEY.PUB (padTo 49 point)).keyEnd 0) := by
  have D : ({ h with freeIx := n, ephemeral := k } : Hub).Canon := ⟨C.regs, C.tab, C.fmem⟩
  exact D.setBuf.keyEnds (by decide) (pub_counts rfl _)

/-- Every operation whose checks hold ends. -/
theorem Hub.Canon.keyRun_ends {h : Hub} (C : h.Canon) (op dst src srcsel recip sealed mask infolen record : Nat)
    (agree useStatic storeOk : Bool) :
    h.KeyEnds (h.keyRun op dst src srcsel recip sealed mask infolen record agree useStatic storeOk) := by
  have same : ∀ F ∈ [KEY.CNT_OP_COUNT, KEY.CNT_FAIL_COUNT], h.rd F = h.rd F := fun _ _ => rfl
  unfold Hub.keyRun
  dsimp only
  split
  case h_1 =>
    have D : ({ h with freeIx := h.freeIx + 8 } : Hub).Canon := ⟨C.regs, C.tab, C.fmem⟩
    exact (Hub.fillSlot_canon D).keyEnds (by decide) (fillSlot_counts { h with freeIx := h.freeIx + 8 } _ _ _ _)
  case h_2 => exact (Hub.fillSlot_canon C).keyEnds (by decide) (fillSlot_counts h _ _ _ _)
  case h_3 =>
    split_ifs
    · exact C.setBuf.keyEnds (by decide) (pub_counts rfl _)
    · exact C.ephemeral_ends _ _ _
  case h_4 =>
    split
    · exact C.keyEnds (by decide) same
    · refine C.keyEnds_of_regs ?_ ?_ ?_ (by decide) <;> rfl
  case h_5 => exact (Hub.fillSlot_canon C).keyEnds (by decide) (fillSlot_counts h _ _ _ _)
  case h_6 =>
    split_ifs
    · exact C.keyEnds (by decide) same
    · refine C.keyEnds_of_regs ?_ ?_ ?_ (by decide) <;> rfl
  case h_7 =>
    split_ifs
    · exact C.keyEnds (by decide) same
    · exact (Hub.raise_canon C).keyEnds (by decide) fun F m =>
        Hub.raise_rd ((by decide : ∀ F ∈ [KEY.CNT_OP_COUNT, KEY.CNT_FAIL_COUNT], F.Calm) F m)
    · exact (Hub.fillSlot_canon C).keyEnds (by decide) (fillSlot_counts h _ _ _ _)
  case h_8 =>
    exact (Hub.emptySlot_canon C).keyEnds (by decide) fun F m => rd_emptySlot_place (by revert F m; decide)
  case h_9 =>
    split_ifs
    · exact C.keyEnds (by decide) same
    · exact C.keyEnds (by decide) same
    · refine C.keyEnds_of_regs ?_ ?_ ?_ (by decide) <;> rfl

theorem keyCheck_lt (h : Hub) (op dst src srcsel recip infolen : Nat) (useStatic : Bool) :
    h.keyCheck op dst src srcsel recip infolen useStatic < 16 := by
  unfold Hub.keyCheck
  dsimp only
  split_ifs <;> decide

theorem Hub.Canon.keyDone_ends {h : Hub} (C : h.Canon) (storeOk : Bool) : h.KeyEnds (h.keyDone storeOk) := by
  unfold Hub.keyDone
  dsimp only
  split
  · exact C.keyRun_ends ..
  · exact C.keyEnds (keyCheck_lt ..) fun _ _ => rfl

theorem Hub.KeyEnds.shows {h g : Hub} (E : h.KeyEnds g) :
    g.rd KEY.CSTAT_DONE = (if g.rd KEY.CSTAT_CODE = 0 then 2 else 3) ∧ g.rd KEY.CNT_OP_COUNT = h.oneMore KEY.CNT_OP_COUNT ∧
      g.bit HDR.ISTAT 0 0xE = true ∧ (g.rd KEY.CSTAT_CODE ≠ 0 → g.rd KEY.CNT_FAIL_COUNT = h.oneMore KEY.CNT_FAIL_COUNT) := by
  obtain ⟨k, c, rfl, small, C, ops, fails⟩ := E
  obtain ⟨code, done, count, irq, failed⟩ := C.keyEnd_shows small
  have more {F : Fld} (e : k.rd F = h.rd F) : k.oneMore F = h.oneMore F := by
    unfold Hub.oneMore
    rw [e]
  rw [code, ← more ops, ← more fails]
  exact ⟨done, count, irq, failed⟩

/-! ### The start of an operation (R613) -/

/-- The fields of CMD that a word gives. -/
def Hub.cmdTaken (h : Hub) (w : Nat) : Hub :=
  [KEY.CMD_OP, KEY.CMD_DST, KEY.CMD_SRC, KEY.CMD_SRCSEL, KEY.CMD_RECIP, KEY.CMD_SEALED, KEY.CMD_USE_AGREE,
    KEY.CMD_STATIC].foldl (fun (h : Hub) (F : Fld) => h.wr F (bits w F.lo F.w)) h

theorem Hub.Canon.cmdTaken {h : Hub} (C : h.Canon) {w : Nat} : (h.cmdTaken w).Canon := keep_foldl (P := Hub.Canon) (fun _ _ C => C.wr) C

theorem Hub.Canon.cmdTaken_shows {h : Hub} (C : h.Canon) (w : Nat) :
    (h.cmdTaken w).rd KEY.CMD_OP = bits w 0 4 ∧ (h.cmdTaken w).rd KEY.CMD_DST = bits w 4 5 := by
  unfold Hub.cmdTaken
  simp +decide only [List.foldl_cons, List.foldl_nil, rd_wr_place, C.rd_wr, C.wr.rd_wr]
  exact ⟨Nat.mod_mod _ _, Nat.mod_mod _ _⟩

/-- A write of CMD with GO starts its operation. -/
theorem Hub.Canon.keyGo_starts {h : Hub} (C : h.Canon) {op v : Nat} (x : Cap) (small : op < 16) (idle : h.rd KEY.CSTAT_DONE ≠ 1) :
    (h.keyGo .mcpu op v x).keyStarted op v = true := by
  have low : setBits v 0 4 op % 2 ^ 31 % 16 = op := by
    unfold setBits bits
    omega
  have code : bits (setBits v 0 4 op % 2 ^ 31) 0 4 = op := by
    unfold bits
    rw [Nat.pow_zero, Nat.div_one]
    exact low
  have dst : bits (setBits v 0 4 op % 2 ^ 31) 4 5 = bits v 4 5 := by
    unfold setBits bits
    omega
  obtain ⟨opTaken, dstTaken⟩ := C.cmdTaken_shows (setBits v 0 4 op % 2 ^ 31)
  have W : (h.cmdTaken (setBits v 0 4 op % 2 ^ 31)).Canon := C.cmdTaken
  unfold Hub.keyGo
  rw [if_neg (fun bad => bad rfl), if_neg idle]
  dsimp only
  rw [← Hub.cmdTaken]
  simp only [Hub.keyStarted, Bool.and_eq_true, beq_iff_eq]
  simp +decide only [rd_wr_place, W.rd_wr, W.wr.wr.rd_wr, W.wr.wr.wr.rd_wr, opTaken, dstTaken, code, dst]
  refine ⟨trivial, ?_⟩
  rw [Nat.mod_eq_of_lt (Nat.lt_of_lt_of_le (Nat.mod_lt _ (by decide)) (by decide : 2 ^ 31 ≤ 2 ^ KEY.hCmd.w))]
  exact low

/-! ### Single operations (R613, R614) -/

theorem bits_low (w : Nat) : bits w KEY.CMD_OP.lo KEY.CMD_OP.w = w % 16 := by
  show w / 2 ^ 0 % 2 ^ 4 = w % 16
  rw [Nat.pow_zero, Nat.div_one]
  rfl

/-- A slot that is locked stops the operations that would write it. -/
theorem keyDone_of_locked {h : Hub} {ok : Bool} (op : h.rd KEY.hCmd % 16 = 1 ∨ h.rd KEY.hCmd % 16 = 8)
    (locked : h.on KEY.SATTR_LOCKED 0 (bits (h.rd KEY.hCmd) 4 5) = true) : h.keyDone ok = h.keyEnd 1 := by
  have check (src srcsel recip len : Nat) (static : Bool) :
      h.keyCheck (h.rd KEY.hCmd % 16) (bits (h.rd KEY.hCmd) 4 5) src srcsel recip len static = 1 := by
    unfold Hub.keyCheck
    rw [locked]
    rcases op with op | op <;> rw [op] <;> rfl
  unfold Hub.keyDone
  dsimp only
  rw [bits_low, show bits (h.rd KEY.hCmd) KEY.CMD_DST.lo KEY.CMD_DST.w = bits (h.rd KEY.hCmd) 4 5 from rfl, check]
  rfl

/-- Filling or emptying a slot that is free and not locked meets no other check. -/
theorem keyCheck_of_free {h : Hub} {op dst src srcsel recip len : Nat} {static : Bool} (kind : op = 1 ∧ recip ≠ 0 ∨ op = 8)
    (unlocked : h.on KEY.SATTR_LOCKED 0 dst = false) (idle : h.slotInUse dst = false) :
    h.keyCheck op dst src srcsel recip len static = 0 := by
  unfold Hub.keyCheck
  rw [unlocked, idle]
  rcases kind with ⟨rfl, given⟩ | rfl
  · have owner : (recip == 0) = false := beq_eq_false_iff_ne.2 given
    simp [owner]
  · simp

theorem keyDone_of_gen {h : Hub} (ok : Bool) (op : h.rd KEY.hCmd % 16 = 1)
    (unlocked : h.on KEY.SATTR_LOCKED 0 (bits (h.rd KEY.hCmd) 4 5) = false) (idle : h.slotInUse (bits (h.rd KEY.hCmd) 4 5) = false)
    (recip : bits (h.rd KEY.hCmd) KEY.CMD_RECIP.lo KEY.CMD_RECIP.w ≠ 0) : ∃ (sealed : Nat) (k : Bytes),
      h.keyDone ok = (({ h with freeIx := h.freeIx + 8 } : Hub).fillSlot (bits (h.rd KEY.hCmd) 4 5)
        (bits (h.rd KEY.hCmd) KEY.CMD_RECIP.lo KEY.CMD_RECIP.w) sealed k).keyEnd 0 := by
  refine ⟨bits (h.rd KEY.hCmd) KEY.CMD_SEALED.lo KEY.CMD_SEALED.w,
    ofWords ((List.range 8).map fun j => Config.free (h.freeIx + j) % 2 ^ 32), ?_⟩
  unfold Hub.keyDone
  dsimp only
  rw [bits_low, op, show bits (h.rd KEY.hCmd) KEY.CMD_DST.lo KEY.CMD_DST.w = bits (h.rd KEY.hCmd) 4 5 from rfl,
    keyCheck_of_free (.inl ⟨rfl, recip⟩) unlocked idle]
  rfl

theorem keyDone_of_clear {h : Hub} (ok : Bool) (op : h.rd KEY.hCmd % 16 = 8)
    (unlocked : h.on KEY.SATTR_LOCKED 0 (bits (h.rd KEY.hCmd) 4 5) = false) (idle : h.slotInUse (bits (h.rd KEY.hCmd) 4 5) = false) :
    h.keyDone ok = (h.emptySlot (bits (h.rd KEY.hCmd) 4 5)).keyEnd 0 := by
  unfold Hub.keyDone
  dsimp only
  rw [bits_low, op, show bits (h.rd KEY.hCmd) KEY.CMD_DST.lo KEY.CMD_DST.w = bits (h.rd KEY.hCmd) 4 5 from rfl,
    keyCheck_of_free (.inr rfl) unlocked idle]
  rfl

/-- The end of an operation leaves the slots. -/
theorem rd_keyEnd_place {h : Hub} {code i b : Nat} {F : Fld}
    (e : ∀ G ∈ [KEY.CSTAT_DONE, KEY.CSTAT_CODE, KEY.CNT_OP_COUNT, KEY.CNT_FAIL_COUNT, HDR.ISTAT], G.place ≠ F.place) :
    (h.keyEnd code).rd F i b = h.rd F i b := by
  refine (rd_irq_place (e _ (by decide))).trans ((rd_when_of_rd (rd_cnt_place (e _ (by decide)))).trans ?_)
  rw [rd_cnt_place (e _ (by decide)), rd_wr_place (e _ (by decide)), rd_wr_place (e _ (by decide))]

theorem Hub.Canon.keyFilled_shows {h : Hub} (C : h.Canon) (s recip sealed : Nat) (k : Bytes) :
    let g := (h.fillSlot s recip sealed k).keyEnd 0
    g.rd KEY.CSTAT_DONE = 2 ∧ g.rd KEY.SATTR_VALID 0 s = 1 ∧ g.rd KEY.SATTR_RECIPIENT 0 s = recip % 2 ^ KEY.SATTR_RECIPIENT.w ∧
      (Tab.get [] s g.keys).length = 32 := by
  obtain ⟨valid, owner, key⟩ := C.fillSlot_shows s recip sealed k
  have same : ((h.fillSlot s recip sealed k).keyEnd 0).keys = (h.fillSlot s recip sealed k).keys := Hub.keyEnd_same.keys (by decide)
  refine ⟨(Hub.Canon.keyEnd_shows (Hub.fillSlot_canon C) (by decide)).2.1, (rd_keyEnd_place (by decide)).trans valid,
    (rd_keyEnd_place (by decide)).trans owner, ?_⟩
  rw [same, key, padTo_length]

theorem Hub.Canon.keyCleared_shows {h : Hub} (C : h.Canon) (s : Nat) :
    let g := (h.emptySlot s).keyEnd 0
    g.rd KEY.CSTAT_DONE = 2 ∧ g.rd KEY.SATTR_VALID 0 s = 0 ∧ g.keys = Tab.del s h.keys := by
  obtain ⟨valid, keys⟩ := C.emptySlot_shows s
  exact ⟨(Hub.Canon.keyEnd_shows (Hub.emptySlot_canon C) (by decide)).2.1, (rd_keyEnd_place (by decide)).trans valid,
    (Hub.keyEnd_same.keys (by decide)).trans keys⟩

/-! ### Measurements (R608) -/

theorem Hub.Canon.extend_shows {h : Hub} (C : h.Canon) (i : Nat) (d : Bytes) {j : Nat} (hj : j < 12) :
    (h.extend i d).rd (KEY.MVAL.word j) 0 i = leAt (padTo 48 (Config.sha384 (h.meas i ++ padTo 48 d))) (4 * j) 4 := by
  unfold Hub.extend Hub.each
  rw [zipIdx_toWords, List.foldl_map]
  generalize padTo 48 (Config.sha384 (h.meas i ++ padTo 48 d)) = bs
  refine (keep_foldl_of_mem (C := Hub.Canon) (Q := fun g => g.rd (KEY.MVAL.word j) 0 i = leAt bs (4 * j) 4) (a := j) (fun _ _ _ C => C.wr)
    (fun g k hk ne _ e => ?_) (fun _ C => C.rd_wr.trans ?_) C (List.mem_range.2 hj)).2
  · exact (rd_wr_place (word_place_ne (by have := List.mem_range.1 hk; omega) (by omega) ne)).trans e
  · exact Nat.mod_eq_of_lt (leAt_lt bs (4 * j) 4)

theorem meas_written (h : Hub) (r : Req) (f : Hub → Hub) (i : Nat) : (h.written r f).meas i = (f (h.dropLatch r.master)).meas i := rfl

/-- A measurement is no error. -/
theorem meas_raise (h : Hub) (pg n i : Nat) (x : Cap) : (h.raise pg n x).meas i = h.meas i := by
  unfold Hub.meas
  congr 1
  refine List.map_congr_left fun j hj => Hub.raise_rd ?_
  rw [kind_word_KEY_MVAL (by have := List.mem_range.1 hj; omega)]
  decide

end Sys2Proof.Machine

open Sys2Proof Sys2Proof.Machine

/-- Settles O25, clause by clause, from what each operation leaves in the engine. -/
theorem keyCommandsComplete : Obligations.KeyCommandsComplete := by
  intro s I
  have C : s.hub.Canon := I
  have CL (m : MasterId) : (s.hub.dropLatch m).Canon := C.dropLatch
  have start {c : Instr} {r : Req} {op v : Nat} (e : exec c s = s.act fun h => h.keyCmd r op v) (small : op < 16)
      (G : s.hub.Grants r KEY.CMD_OP 0) (mcpu : r.master = .mcpu) (up : s.hub.up 0xE = true) (idle : s.hub.rd KEY.CSTAT_DONE ≠ 1) :
      Completes c s fun g => g.keyStarted op v = true := by
    refine completes_reg_when (p := fun h => h.up 0xE || r.master != .mcpu)
      (f := fun _ h => h.keyGo r.master op v (Hub.regCap r KEY.CMD_OP 0)) e G ?_ ?_
    · exact Bool.or_eq_true_iff.2 (.inl up)
    · have started := (CL r.master).keyGo_starts (v := v) (Hub.regCap r KEY.CMD_OP 0) small idle
      rw [← mcpu] at started
      exact started
  have done {ok : Bool} {Q : Hub → Prop} (up : s.hub.up 0xE = true) (busy : s.hub.rd KEY.CSTAT_DONE = 1) (q : Q (s.hub.keyDone ok)) :
      Completes (.keyOpDone ok) s Q :=
    completes_when (p := fun h => h.up 0xE && h.rd KEY.CSTAT_DONE == 1) (f := fun _ h => h.keyDone ok) rfl (by rw [up, busy]; rfl) q
  refine ⟨fun r v => start rfl (by decide), fun r v => start rfl (by decide), fun r v => start rfl (by decide),
    fun r v => start rfl (by decide), fun r v => start rfl (by decide), fun r v => start rfl (by decide),
    fun r v => start rfl (by decide), fun r v => start rfl (by decide), fun r v => start rfl (by decide),
    ?refused, ?ends, ?locked, ?gen, ?clear, ?lock, ?extend⟩
  case refused =>
    intro r v G other
    refine completes_reg_when (p := fun h => h.up 0xE || r.master != .mcpu)
      (f := fun _ h => h.keyGo r.master 1 v (Hub.regCap r KEY.CMD_OP 0)) rfl G ?_ ?_
    · exact Bool.or_eq_true_iff.2 (.inr (bne_iff_ne.2 other))
    · have refused (h : Hub) (x : Cap) : h.keyGo r.master 1 v x = h.raise 0xE 1 x := if_pos other
      rw [Hub.written_rd, refused, Hub.raise_rd (by decide)]
      refine ⟨rfl, (bit_of_rd (Hub.written_rd ..)).trans ?_⟩
      rw [refused]
      exact (CL r.master).bit_raise rfl (by decide)
  case ends => exact fun ok up busy => done up busy (C.keyDone_ends ok).shows
  case locked =>
    intro ok up busy op locked
    have ends : s.hub.keyDone ok = s.hub.keyEnd 1 := keyDone_of_locked op locked
    refine done up busy ?_
    rw [ends]
    exact ⟨(C.keyEnd_shows (by decide)).1, Hub.keyEnd_same.keys (by decide)⟩
  case gen =>
    intro ok up busy op unlocked idle recip
    obtain ⟨sealed, k, ends⟩ := keyDone_of_gen ok op unlocked idle recip
    have D : ({ s.hub with freeIx := s.hub.freeIx + 8 } : Hub).Canon := ⟨C.regs, C.tab, C.fmem⟩
    have shows := D.keyFilled_shows (bits (s.hub.rd KEY.hCmd) 4 5) (bits (s.hub.rd KEY.hCmd) KEY.CMD_RECIP.lo KEY.CMD_RECIP.w) sealed k
    have fits : bits (s.hub.rd KEY.hCmd) KEY.CMD_RECIP.lo KEY.CMD_RECIP.w < 2 ^ KEY.SATTR_RECIPIENT.w := bits_lt _ _ _
    rw [← ends, Nat.mod_eq_of_lt fits] at shows
    exact done up busy shows
  case clear =>
    intro ok up busy op unlocked idle
    have shows := C.keyCleared_shows (bits (s.hub.rd KEY.hCmd) 4 5)
    rw [← keyDone_of_clear ok op unlocked idle] at shows
    exact done up busy shows
  case lock =>
    refine fun r v A => completes_go (f := fun h => h.lockSlots v) rfl A fun k small bit => ?_
    rw [Hub.written_rd]
    exact (CL r.master).lockSlots_shows small bit
  case extend =>
    refine fun r A => completes_go (f := fun h =>
      if r.master = .mcpu then h.extend 5 (h.keyData.take 48) else h.raise 0xE 2 (Hub.regCap r KEY.MEXT_GO 0)) rfl A ⟨fun own j hj => ?_, fun other => ?_⟩
    · rw [Hub.written_rd, if_pos own]
      exact (CL r.master).extend_shows 5 _ hj
    · refine ⟨(meas_written ..).trans ?_, (bit_of_rd (Hub.written_rd ..)).trans ?_⟩
      · rw [if_neg other]
        exact meas_raise (s.hub.dropLatch r.master) ..
      · rw [if_neg other]
        exact (CL r.master).bit_raise rfl (by decide)
end

section
/-! PROOFS. The ports of the USB hub, its resets, and its upstream: the operations that its commands share (R472 to R477, R494 to
R498). -/

namespace Sys2Proof.Machine

open Sys2Proof

/-! ### Bits of a masked number -/

theorem bits_and (x m lo w : Nat) : bits (x &&& m) lo w = bits x lo w &&& bits m lo w := by
  unfold bits
  rw [Nat.and_div_two_pow, Nat.and_mod_two_pow]

theorem bits_or (x m lo w : Nat) : bits (x ||| m) lo w = bits x lo w ||| bits m lo w := by
  unfold bits
  rw [Nat.or_div_two_pow, Nat.or_mod_two_pow]

theorem bits_masked_out {x m lo w : Nat} (e : bits m lo w = 0) : bits (x &&& m) lo w = 0 := by
  rw [bits_and, e, Nat.and_zero]

/-- A bit that is set by a mask. -/
theorem bits_set {x m lo : Nat} (e : bits m lo 1 = 1) : bits (x ||| m) lo 1 = 1 := by
  rw [bits_or, e]
  have small : bits x lo 1 < 2 := Nat.mod_lt _ (by decide)
  interval_cases bits x lo 1 <;> rfl

/-- A part that a second mask does not touch stays masked out. -/
theorem bits_masked_out_or {x m k lo w : Nat} (e : bits m lo w = 0) : bits (x &&& m ||| k) lo w = bits k lo w := by
  rw [bits_or, bits_masked_out e, Nat.zero_or]

/-! ### PORTSTAT (R498) -/

/-- The fields of PORTSTAT. -/
def portFlds : List Fld :=
  [USB.PORTSTAT_CONNECT, USB.PORTSTAT_ENABLE, USB.PORTSTAT_SUSPEND, USB.PORTSTAT_OVERCURRENT, USB.PORTSTAT_POWER, USB.PORTSTAT_SPEED,
    USB.PORTSTAT_L1]

/-- Field `F` is none of PORTSTAT. -/
abbrev Fld.OffPorts (F : Fld) : Prop := (∀ G ∈ portFlds, G.place ≠ F.place) ∧ HDR.ISTAT.place ≠ F.place

theorem portFlds_apart {F G : Fld} (hF : F ∈ portFlds) (hG : G ∈ portFlds) (e : G ≠ F) : G.place ≠ F.place :=
  (by decide : ∀ F ∈ portFlds, ∀ G ∈ portFlds, G ≠ F → G.place ≠ F.place) F hF G hG e

/-- The fields of PORTSTAT of port `n` written. -/
def Hub.portBits (h : Hub) (n v : Nat) : Hub := h.each portFlds fun F h => h.wr F (bits v F.lo F.w) 0 n

theorem setPortStat_eq (h : Hub) (n v : Nat) :
    h.setPortStat n v = (h.portBits n v).when (h.portStat n != v % 256) fun h => h.irq 0xA0 1 := rfl

theorem rd_setPortStat_of_portBits {h : Hub} {n v : Nat} {F : Fld} {i b : Nat} (e : HDR.ISTAT.place ≠ F.place) :
    (h.setPortStat n v).rd F i b = (h.portBits n v).rd F i b := by
  rw [setPortStat_eq]
  exact rd_when_of_rd (rd_irq_place e)

theorem Hub.Canon.rd_setPortStat {h : Hub} (C : h.Canon) (n v : Nat) {F : Fld} (hF : F ∈ portFlds) :
    (h.setPortStat n v).rd F 0 n = bits v F.lo F.w := by
  have apart : HDR.ISTAT.place ≠ F.place := by
    revert F
    decide
  rw [rd_setPortStat_of_portBits apart]
  exact (keep_foldl_of_mem (C := Hub.Canon) (f := fun h F => h.wr F (bits v F.lo F.w) 0 n) (Q := fun g => g.rd F 0 n = bits v F.lo F.w) (fun _ _ _ C => C.wr)
    (fun g G hG ne _ e => (rd_wr_place (portFlds_apart hF hG ne)).trans e) (fun g C => C.rd_wr.trans (Nat.mod_mod _ _)) C hF).2

theorem rd_setPortStat_apart {h : Hub} {n v : Nat} {F : Fld} {i b : Nat} (off : F.OffPorts) : (h.setPortStat n v).rd F i b = h.rd F i b := by
  rw [rd_setPortStat_of_portBits off.2]
  exact keep_each_mem (P := fun g => g.rd F i b = h.rd F i b) (fun G hG g e => (rd_wr_place (off.1 G hG)).trans e) rfl

/-- The other ports keep their PORTSTAT. -/
theorem rd_setPortStat_other {h : Hub} {n v m : Nat} {F : Fld} (hF : F ∈ portFlds) (e : n ≠ m) :
    (h.setPortStat n v).rd F 0 m = h.rd F 0 m := by
  have apart : HDR.ISTAT.place ≠ F.place := by
    revert F
    decide
  rw [rd_setPortStat_of_portBits apart]
  refine keep_each_mem (P := fun g => g.rd F 0 m = h.rd F 0 m) (fun G hG g same => Eq.trans ?_ same) rfl
  by_cases k : G = F
  · subst k
    exact rd_wr_inst (by omega)
  · exact rd_wr_place (portFlds_apart hF hG k)

theorem Hub.Alarm.setPortStat {F : Fld} {m q : Nat} {h : Hub} (A : h.Alarm F m q) {n v : Nat} : (h.setPortStat n v).Alarm F m q := by
  have written : (h.portBits n v).Alarm F m q :=
    keep_each_mem (P := fun g => g.Alarm F m q) (fun G hG g A => A.wr (by revert G; decide)) A
  rw [setPortStat_eq]
  exact written.when written.irq

/-- A port without a device is not connected and not enabled. -/
theorem Hub.Canon.portEmpty_shows {h : Hub} (C : h.Canon) (n : Nat) :
    (h.portEmpty n).rd USB.PORTSTAT_CONNECT 0 n = 0 ∧ (h.portEmpty n).rd USB.PORTSTAT_ENABLE 0 n = 0 := by
  unfold Hub.portEmpty
  rw [C.rd_setPortStat _ _ (by decide), C.rd_setPortStat _ _ (by decide)]
  exact ⟨bits_masked_out rfl, bits_masked_out rfl⟩

/-! ### The device function (R489, R493, R494) -/

theorem Hub.Canon.udfDefault {h : Hub} (C : h.Canon) : h.udfDefault.Canon := C.wr.wr.wr.wr.wr.wr

/-- The abort of a control transfer that a reset ends. -/
def Hub.ctrlAborted (h : Hub) : Hub :=
  h.when (h.on UDF.STAT_CSTATE) fun h => (h.wr UDF.STAT_CTRL_ABORT_RESET 1).cnt UDF.CNT_ABORT_COUNT

theorem udfReset_eq (h : Hub) :
    h.udfReset = ((h.ctrlAborted.ep0Drop.udfDefault.wr UDF.STAT_SUSPENDED 0).wr UDF.hStall 0).irq 0xA1 5 := rfl

theorem Hub.Canon.ctrlAborted {h : Hub} (C : h.Canon) : h.ctrlAborted.Canon := C.when C.wr.cnt

theorem Hub.Canon.udfReset_shows {h : Hub} (C : h.Canon) :
    let g := h.udfReset
    g.rd UDF.STAT_ADDR = 0 ∧ g.rd UDF.STAT_CONFIGURED = 0 ∧ g.rd UDF.STAT_SUSPENDED = 0 ∧ g.Alarm HDR.ISTAT 5 0xA1 := by
  have D : h.ctrlAborted.ep0Drop.Canon := C.ctrlAborted.ep0Drop
  rw [udfReset_eq]
  refine ⟨?_, ?_, ?_, D.udfDefault.wr.wr.alarm_irq rfl (by decide)⟩
  · simp +decide only [Hub.udfDefault, rd_irq_place, rd_wr_place, D.rd_wr]
  · simp +decide only [Hub.udfDefault, rd_irq_place, rd_wr_place, D.wr.rd_wr]
  · simp +decide only [rd_irq_place, rd_wr_place, D.udfDefault.rd_wr]

/-- What a reset of the device function moves. -/
def udfResetFlds : List Fld := [UDF.STAT_CTRL_ABORT_RESET, UDF.CNT_ABORT_COUNT, UDF.STAT_CSTATE, UDF.EP0CTL_BUSY, UDF.EP0CTL_LEN,
  UDF.STAT_ADDR, UDF.STAT_CONFIGURED, UDF.STAT_RWAKE_EN, UDF.EP1CTL_HALT_IN, UDF.EP1CTL_HALT_OUT, UDF.hHalt2, UDF.STAT_SUSPENDED,
  UDF.hStall, HDR.ISTAT]

theorem rd_udfReset_apart {h : Hub} {F : Fld} {i b : Nat} (apart : ∀ G ∈ udfResetFlds, G.place ≠ F.place) :
    h.udfReset.rd F i b = h.rd F i b := by
  have aborted : h.ctrlAborted.rd F i b = h.rd F i b :=
    rd_when_of_rd ((rd_cnt_place (apart _ (by decide))).trans (rd_wr_place (apart _ (by decide))))
  rw [udfReset_eq, rd_irq_place (apart _ (by decide)), rd_wr_place (apart _ (by decide)), rd_wr_place (apart _ (by decide)),
    Hub.udfDefault, rd_wr_place (apart _ (by decide)), rd_wr_place (apart _ (by decide)), rd_wr_place (apart _ (by decide)),
    rd_wr_place (apart _ (by decide)), rd_wr_place (apart _ (by decide)), rd_wr_place (apart _ (by decide)), Hub.ep0Drop,
    rd_wr_place (apart _ (by decide)), rd_wr_place (apart _ (by decide)), rd_wr_place (apart _ (by decide)), aborted]

theorem Hub.Alarm.udfReset {F : Fld} {m q : Nat} {h : Hub} (A : h.Alarm F m q) : h.udfReset.Alarm F m q := by
  have aborted : h.ctrlAborted.Alarm F m q := A.when ((A.wr (by decide)).cnt (by decide))
  have dropped : h.ctrlAborted.ep0Drop.Alarm F m q := ((aborted.wr (by decide)).wr (by decide)).wr (by decide)
  have default : h.ctrlAborted.ep0Drop.udfDefault.Alarm F m q :=
    (((((dropped.wr (by decide)).wr (by decide)).wr (by decide)).wr (by decide)).wr (by decide)).wr (by decide)
  rw [udfReset_eq]
  exact ((default.wr (by decide)).wr (by decide)).irq

theorem udfSuspend_of_ne {h : Hub} {v : Bool} (e : h.on UDF.STAT_SUSPENDED ≠ v) : h.udfSuspend v =
    ((h.wr UDF.STAT_SUSPENDED (bnat v)).irq 0xA1 (if v then 6 else 7)).when (!v) fun h => h.wr UDF.WAKE_PENDING 0 := by
  unfold Hub.udfSuspend
  rw [if_neg (by rwa [beq_iff_eq])]

theorem udfSuspend_of_eq {h : Hub} {v : Bool} (e : h.on UDF.STAT_SUSPENDED = v) : h.udfSuspend v = h := by
  unfold Hub.udfSuspend
  rw [if_pos (by rwa [beq_iff_eq])]

theorem on_wr_place {h : Hub} {F G : Fld} {v i b j c : Nat} (e : F.place ≠ G.place) : (h.wr F v i b).on G j c = h.on G j c := by
  unfold Hub.on
  rw [rd_wr_place e]

theorem on_eq_true {h : Hub} {F : Fld} {i b : Nat} (e : h.rd F i b = 1) : h.on F i b = true := by
  unfold Hub.on
  rw [e]
  rfl

/-- The device function is suspended where the bus is. -/
theorem Hub.Canon.on_udfSuspend {h : Hub} (C : h.Canon) (v : Bool) : (h.udfSuspend v).on UDF.STAT_SUSPENDED = v := by
  by_cases e : h.on UDF.STAT_SUSPENDED = v
  · rwa [udfSuspend_of_eq e]
  · rw [udfSuspend_of_ne e]
    have now : ((h.wr UDF.STAT_SUSPENDED (bnat v)).irq 0xA1 (if v then 6 else 7)).rd UDF.STAT_SUSPENDED = bnat v := by
      rw [rd_irq_place (by decide), C.rd_wr]
      cases v <;> rfl
    cases v
    · exact on_eq_false ((rd_wr_place (by decide)).trans now)
    · exact on_eq_true now

theorem Hub.Canon.udfSuspend_true_shows {h : Hub} (C : h.Canon) (awake : h.on UDF.STAT_SUSPENDED = false) :
    (h.udfSuspend true).rd UDF.STAT_SUSPENDED = 1 ∧ (h.udfSuspend true).Alarm HDR.ISTAT 6 0xA1 := by
  rw [udfSuspend_of_ne (by rw [awake]; decide), Bool.not_true, Hub.when_false]
  exact ⟨(rd_irq_place (by decide)).trans C.rd_wr, C.wr.alarm_irq rfl (by decide)⟩

/-- The device function resumes where the bus does. -/
theorem Hub.Canon.rd_udfSuspend_false {h : Hub} (C : h.Canon) : (h.udfSuspend false).rd UDF.STAT_SUSPENDED = 0 := by
  have off := C.on_udfSuspend false
  unfold Hub.on at off
  rwa [bne_eq_false_iff_eq] at off

theorem rd_udfSuspend_apart {h : Hub} {v : Bool} {F : Fld} {i b : Nat}
    (apart : ∀ G ∈ [UDF.STAT_SUSPENDED, UDF.WAKE_PENDING, HDR.ISTAT], G.place ≠ F.place) : (h.udfSuspend v).rd F i b = h.rd F i b := by
  unfold Hub.udfSuspend
  split
  · rfl
  · dsimp only
    rw [rd_when_of_rd (rd_wr_place (apart _ (by decide))), rd_irq_place (apart _ (by decide)), rd_wr_place (apart _ (by decide))]

/-- A wake that is not pending does not become so. -/
theorem rd_udfSuspend_pending {h : Hub} {v : Bool} (none : h.rd UDF.WAKE_PENDING = 0) (C : h.Canon) : (h.udfSuspend v).rd UDF.WAKE_PENDING = 0 := by
  unfold Hub.udfSuspend
  split
  · exact none
  · cases v <;> dsimp only
    · exact (Hub.irq_canon C.wr).rd_wr
    · rw [Bool.not_true, Hub.when_false]
      exact (rd_irq_place (by decide)).trans ((rd_wr_place (F := UDF.STAT_SUSPENDED) (by decide)).trans none)

theorem Hub.Alarm.udfSuspend {F : Fld} {m q : Nat} {h : Hub} (A : h.Alarm F m q) {v : Bool} : (h.udfSuspend v).Alarm F m q := by
  have told : ((h.wr UDF.STAT_SUSPENDED (bnat v)).irq 0xA1 (if v then 6 else 7)).Alarm F m q := (A.wr (by decide)).irq
  unfold Hub.udfSuspend
  split
  · exact A
  · exact told.when (told.wr (by decide))

/-! ### The reset of the hub (R477) -/

/-- The downstream ports without power. -/
def Hub.portsOff (h : Hub) : Hub := h.each [1, 2, 3, 4, 5, 6] fun n h => h.setPortStat n 0

/-- The ports and the device function of a hub that is reset. -/
def Hub.hubPortsReset (h : Hub) : Hub := (h.portsOff.setPortStat 7 (h.portsOff.portStat 7 &&& 0x51)).udfReset

theorem hubReset_eq (h : Hub) : h.hubReset = (h.hubPortsReset |>.wr USB.STAT_SUSPENDED 0 |>.wr USB.STAT_CONFIGURED 0
    |>.wr USB.hWoken 0 |>.wr USB.hResume 0) := rfl

theorem Hub.Canon.portsOff {h : Hub} (C : h.Canon) : h.portsOff.Canon := keep_each (fun _ _ C => Hub.setPortStat_canon C) C

theorem Hub.Canon.hubPortsReset {h : Hub} (C : h.Canon) : h.hubPortsReset.Canon :=
  Hub.udfReset_canon (Hub.setPortStat_canon C.portsOff)

theorem Hub.Canon.rd_portsOff {h : Hub} (C : h.Canon) {F : Fld} (hF : F ∈ portFlds) {n : Nat} (hn : n < 6) :
    h.portsOff.rd F 0 (n + 1) = 0 :=
  (keep_foldl_of_mem (C := Hub.Canon) (f := fun h n => h.setPortStat n 0) (Q := fun g => g.rd F 0 (n + 1) = 0)
    (fun _ _ _ C => Hub.setPortStat_canon C) (fun g m _ ne _ e => (rd_setPortStat_other hF ne).trans e)
    (fun g C => (C.rd_setPortStat _ 0 hF).trans (by unfold bits; rw [Nat.zero_div, Nat.zero_mod])) C
    (by interval_cases n <;> decide)).2

theorem Hub.Canon.rd_hubPortsReset {h : Hub} (C : h.Canon) {F : Fld} (hF : F ∈ portFlds) {n : Nat} (hn : n < 6) :
    h.hubPortsReset.rd F 0 (n + 1) = 0 := by
  have kind : F.kind = Kind.usb := (by decide : ∀ F ∈ portFlds, F.kind = Kind.usb) F hF
  rw [Hub.hubPortsReset, Hub.udfReset_rd (by rw [kind]; decide), rd_setPortStat_other hF (by omega), C.rd_portsOff hF hn]

/-- What a reset of the hub leaves. -/
theorem Hub.Canon.hubReset_shows {h : Hub} (C : h.Canon) :
    let g := h.hubReset
    g.rd USB.STAT_SUSPENDED = 0 ∧ g.rd USB.STAT_CONFIGURED = 0 ∧ g.rd UDF.STAT_ADDR = 0 ∧ g.rd UDF.STAT_CONFIGURED = 0 ∧
      g.rd UDF.STAT_SUSPENDED = 0 ∧ g.Alarm HDR.ISTAT 5 0xA1 ∧
      ∀ F ∈ portFlds, ∀ n < 6, g.rd F 0 (n + 1) = 0 := by
  obtain ⟨addr, conf, susp, told⟩ := (Hub.setPortStat_canon C.portsOff).udfReset_shows
  have P : h.hubPortsReset.Canon := C.hubPortsReset
  have off {F : Fld} (hF : F ∈ portFlds) {n : Nat} (hn : n < 6) : h.hubPortsReset.rd F 0 (n + 1) = 0 := C.rd_hubPortsReset hF hn
  rw [hubReset_eq]
  refine ⟨?_, ?_, ?_, ?_, ?_, ?_, fun F hF n hn => ?_⟩
  · simp +decide only [rd_wr_place, P.rd_wr]
  · simp +decide only [rd_wr_place, P.wr.rd_wr]
  · simp +decide only [rd_wr_place]
    exact addr
  · simp +decide only [rd_wr_place]
    exact conf
  · simp +decide only [rd_wr_place]
    exact susp
  · exact (((told.wr (by decide)).wr (by decide)).wr (by decide)).wr (by decide)
  · have apart {G : Fld} (hG : G ∈ [USB.STAT_SUSPENDED, USB.STAT_CONFIGURED, USB.hWoken, USB.hResume]) : G.place ≠ F.place :=
      (by decide : ∀ F ∈ portFlds, ∀ G ∈ [USB.STAT_SUSPENDED, USB.STAT_CONFIGURED, USB.hWoken, USB.hResume], G.place ≠ F.place) F hF G hG
    rw [rd_wr_place (apart (by decide)), rd_wr_place (apart (by decide)), rd_wr_place (apart (by decide)),
      rd_wr_place (apart (by decide)), off hF hn]

theorem Hub.Alarm.hubReset {F : Fld} {m q : Nat} {h : Hub} (A : h.Alarm F m q) : h.hubReset.Alarm F m q := by
  have off : h.portsOff.Alarm F m q := A.each fun _ _ A => A.setPortStat
  have reset : h.hubPortsReset.Alarm F m q := off.setPortStat.udfReset
  rw [hubReset_eq]
  exact (((reset.wr (by decide)).wr (by decide)).wr (by decide)).wr (by decide)

/-- A reset of the hub leaves its choice of an upstream alone. -/
theorem rd_hubReset_apart {h : Hub} {F : Fld} {i b : Nat} (k : F.kind = Kind.usb) (off : F.OffPorts)
    (apart : ∀ G ∈ [USB.STAT_SUSPENDED, USB.STAT_CONFIGURED, USB.hWoken, USB.hResume], G.place ≠ F.place) :
    h.hubReset.rd F i b = h.rd F i b := by
  rw [hubReset_eq, rd_wr_place (apart _ (by decide)), rd_wr_place (apart _ (by decide)), rd_wr_place (apart _ (by decide)),
    rd_wr_place (apart _ (by decide)), Hub.hubPortsReset, Hub.udfReset_rd (by rw [k]; decide), rd_setPortStat_apart off]
  exact keep_each (P := fun g => g.rd F i b = h.rd F i b) (fun n g e => (rd_setPortStat_apart off).trans e) rfl

/-! ### The upstream (R474, R476, R477) -/

/-- Requests that end leave the alarms alone. -/
theorem Hub.Alarm.heldEndAll {F : Fld} {m q : Nat} {h : Hub} (A : h.Alarm F m q) {status : Nat} {c : UsbHeld → Bool} :
    (h.heldEndAll status c).Alarm F m q :=
  A.of_rd (Hub.heldEndAll_canon A.canon) (Hub.heldEndAll_rd (by rcases A.fld with rfl | rfl <;> decide))

/-- The upstream chosen is in use, and the ports that it leaves no device are empty. -/
def Hub.upChosen (h : Hub) : Hub :=
  (h.wr USB.STAT_UPACT h.upactOf).each [0, 1] fun k h => h.when (!h.typecDown k) fun h => h.portEmpty (5 + k)

/-- The hub after its upstream changed. -/
def Hub.upReset (h : Hub) : Hub := (h.hubReset.wr USB.hAttached 0).wr USB.STAT_HS 0

/-- The upstream moves on from `old`. -/
def Hub.upMoved (h : Hub) (old : Nat) : Hub :=
  ((h.upReset.when (old == 1) fun h => h.heldEndAll 9 fun _ => true).cnt USB.CNT_UPCHG_COUNT).irq 0xA0 0

theorem refreshUp_eq (h : Hub) (detach : Bool) : h.refreshUp detach =
    if !h.up 0xA0 then h
    else if h.upactOf = h.rd USB.STAT_UPACT then h.upChosen
    else (h.upChosen.upMoved (h.rd USB.STAT_UPACT)).when detach fun h => h.raise 0xA0 1 := rfl

theorem upactOf_lt (h : Hub) : h.upactOf < 4 := by
  unfold Hub.upactOf
  split
  case h_4 => decide
  all_goals split_ifs <;> decide

theorem Hub.Canon.upChosen {h : Hub} (C : h.Canon) : h.upChosen.Canon :=
  keep_each (fun _ _ C => C.when (Hub.portEmpty_canon C)) C.wr

theorem Hub.Canon.upReset {h : Hub} (C : h.Canon) : h.upReset.Canon := (Hub.hubReset_canon C).wr.wr

theorem rd_upChosen_apart {h : Hub} {F : Fld} {i b : Nat} (off : F.OffPorts) :
    h.upChosen.rd F i b = (h.wr USB.STAT_UPACT h.upactOf).rd F i b :=
  keep_each (P := fun g => g.rd F i b = (h.wr USB.STAT_UPACT h.upactOf).rd F i b)
    (fun _ _ e => (rd_when_of_rd (rd_setPortStat_apart off)).trans e) rfl

theorem Hub.Canon.rd_upChosen {h : Hub} (C : h.Canon) : h.upChosen.rd USB.STAT_UPACT = h.upactOf := by
  rw [rd_upChosen_apart (by decide), C.rd_wr]
  exact Nat.mod_eq_of_lt (upactOf_lt h)

theorem rd_upMoved_of_upReset {h : Hub} {old : Nat} {F : Fld} {i b : Nat}
    (k : F.kind = Kind.usb ∨ F.kind = Kind.udf) (e : USB.CNT_UPCHG_COUNT.place ≠ F.place)
    (e' : HDR.ISTAT.place ≠ F.place) : (h.upMoved old).rd F i b = h.upReset.rd F i b := by
  unfold Hub.upMoved
  rw [rd_irq_place e', rd_cnt_place e]
  exact rd_when_of_rd (Hub.heldEndAll_rd (by rcases k with k | k <;> rw [k] <;> decide))

/-- What a change of the upstream leaves. -/
theorem Hub.Canon.upMoved_shows {h : Hub} (C : h.Canon) (old : Nat) :
    let g := h.upMoved old
    g.rd USB.STAT_UPACT = h.rd USB.STAT_UPACT ∧ g.rd USB.hAttached = 0 ∧ g.rd USB.STAT_HS = 0 ∧ g.rd UDF.STAT_ADDR = 0 ∧
      g.rd UDF.STAT_CONFIGURED = 0 ∧
      (∀ n < 6, g.rd USB.PORTSTAT_POWER 0 (n + 1) = 0 ∧ g.rd USB.PORTSTAT_CONNECT 0 (n + 1) = 0) ∧
      g.rd USB.CNT_UPCHG_COUNT = h.oneMore USB.CNT_UPCHG_COUNT ∧ g.Alarm HDR.ISTAT 0 0xA0 := by
  obtain ⟨-, -, addr, conf, -, -, ports⟩ := C.hubReset_shows
  have R : h.upReset.Canon := C.upReset
  have E : (h.upReset.when (old == 1) fun h => h.heldEndAll 9 fun _ => true).Canon := R.when (Hub.heldEndAll_canon R)
  refine ⟨?_, ?_, ?_, ?_, ?_, fun n hn => ⟨?_, ?_⟩, ?_, E.cnt.alarm_irq rfl (by decide)⟩
  · rw [rd_upMoved_of_upReset (.inl (by decide)) (by decide) (by decide), Hub.upReset, rd_wr_place (by decide), rd_wr_place (by decide),
      rd_hubReset_apart (by decide) (by decide) (by decide)]
  · rw [rd_upMoved_of_upReset (.inl (by decide)) (by decide) (by decide), Hub.upReset, rd_wr_place (by decide), (Hub.hubReset_canon C).rd_wr]
    rfl
  · rw [rd_upMoved_of_upReset (.inl (by decide)) (by decide) (by decide), Hub.upReset, (Hub.hubReset_canon C).wr.rd_wr]
    rfl
  · rw [rd_upMoved_of_upReset (.inr (by decide)) (by decide) (by decide), Hub.upReset, rd_wr_place (by decide), rd_wr_place (by decide), addr]
  · rw [rd_upMoved_of_upReset (.inr (by decide)) (by decide) (by decide), Hub.upReset, rd_wr_place (by decide), rd_wr_place (by decide), conf]
  · rw [rd_upMoved_of_upReset (.inl (by decide)) (by decide) (by decide), Hub.upReset, rd_wr_place (by decide), rd_wr_place (by decide),
      ports _ (by decide) n hn]
  · rw [rd_upMoved_of_upReset (.inl (by decide)) (by decide) (by decide), Hub.upReset, rd_wr_place (by decide), rd_wr_place (by decide),
      ports _ (by decide) n hn]
  · have same : (h.upReset.when (old == 1) fun h => h.heldEndAll 9 fun _ => true).rd USB.CNT_UPCHG_COUNT = h.rd USB.CNT_UPCHG_COUNT := by
      rw [rd_when_of_rd (Hub.heldEndAll_rd (by decide)), Hub.upReset, rd_wr_place (by decide), rd_wr_place (by decide),
        rd_hubReset_apart (by decide) (by decide) (by decide)]
    rw [Hub.upMoved, rd_irq_place (by decide), E.rd_cnt, same, Hub.oneMore]

theorem Hub.Alarm.upMoved {F : Fld} {m q old : Nat} {h : Hub} (A : h.Alarm F m q) : (h.upMoved old).Alarm F m q := by
  have reset : h.upReset.Alarm F m q := (A.hubReset.wr (by decide)).wr (by decide)
  exact ((reset.when reset.heldEndAll).cnt (by decide)).irq

theorem Hub.Alarm.upChosen {F : Fld} {m q : Nat} {h : Hub} (A : h.Alarm F m q) : h.upChosen.Alarm F m q :=
  (A.wr (by decide)).each fun _ _ A => A.when A.setPortStat

/-- Alarms outlast a change of the upstream. -/
theorem Hub.Alarm.refreshUp {F : Fld} {m q : Nat} {h : Hub} (A : h.Alarm F m q) {detach : Bool} : (h.refreshUp detach).Alarm F m q := by
  rw [refreshUp_eq]
  split
  · exact A
  · split
    · exact A.upChosen
    · exact A.upChosen.upMoved.when A.upChosen.upMoved.raise

/-- The upstream that is in use is the one chosen. -/
theorem Hub.Canon.rd_refreshUp {h : Hub} (C : h.Canon) (up : h.up 0xA0 = true) (detach : Bool) :
    (h.refreshUp detach).rd USB.STAT_UPACT = h.upactOf := by
  rw [refreshUp_eq, up, Bool.not_true, if_neg Bool.false_ne_true]
  split
  · exact C.rd_upChosen
  · rw [rd_when_of_rd (Hub.raise_rd (by decide)), (C.upChosen.upMoved_shows _).1, C.rd_upChosen]

/-- The choice of an upstream stands when the upstream follows it. -/
theorem rd_refreshUp_upsel (h : Hub) (detach : Bool) : (h.refreshUp detach).rd USB.CFG_UPSEL = h.rd USB.CFG_UPSEL := by
  have chosen : h.upChosen.rd USB.CFG_UPSEL = h.rd USB.CFG_UPSEL := (rd_upChosen_apart (by decide)).trans (rd_wr_place (by decide))
  rw [refreshUp_eq]
  split
  · rfl
  · split
    · exact chosen
    · rw [rd_when_of_rd (Hub.raise_rd (by decide)), rd_upMoved_of_upReset (.inl (by decide)) (by decide) (by decide), Hub.upReset,
        rd_wr_place (by decide), rd_wr_place (by decide), rd_hubReset_apart (by decide) (by decide) (by decide), chosen]

end Sys2Proof.Machine
end

section
/-! PROOFS. The commands of the USB hub and its ports (R472 to R477, R494 to R498). -/

namespace Sys2Proof.Machine

open Sys2Proof

/-! ### The upstream (R476, R477) -/

/-- An upstream that changes by itself. -/
theorem Hub.Canon.refreshUp_shows {h : Hub} (C : h.Canon) (up : h.up 0xA0 = true) (change : h.upactOf ≠ h.rd USB.STAT_UPACT) :
    let g := h.refreshUp true
    g.rd USB.STAT_UPACT = h.upactOf ∧ g.rd USB.hAttached = 0 ∧
      g.rd USB.STAT_HS = 0 ∧ g.rd UDF.STAT_ADDR = 0 ∧ g.rd UDF.STAT_CONFIGURED = 0 ∧
      (∀ n : Nat, n < 6 → g.rd USB.PORTSTAT_POWER 0 (n + 1) = 0 ∧ g.rd USB.PORTSTAT_CONNECT 0 (n + 1) = 0) ∧
      g.rd USB.CNT_UPCHG_COUNT = h.oneMore USB.CNT_UPCHG_COUNT ∧ g.bit HDR.ISTAT 0 0xA0 = true ∧ g.bit HDR.ESTAT 1 0xA0 = true := by
  have D : (h.upChosen.upMoved (h.rd USB.STAT_UPACT)).Canon := ((C.upChosen.upMoved_shows _).2.2.2.2.2.2.2).canon
  obtain ⟨act, att, hs, addr, conf, ports, count, told⟩ := C.upChosen.upMoved_shows (h.rd USB.STAT_UPACT)
  have same {F : Fld} (e : F.Calm) (i b : Nat) : (h.refreshUp true).rd F i b = (h.upChosen.upMoved (h.rd USB.STAT_UPACT)).rd F i b := by
    rw [refreshUp_eq, up, Bool.not_true, if_neg Bool.false_ne_true, if_neg change, Hub.when_true, Hub.raise_rd e]
  have counted : h.upChosen.oneMore USB.CNT_UPCHG_COUNT = h.oneMore USB.CNT_UPCHG_COUNT := by
    rw [Hub.oneMore, rd_upChosen_apart (by decide), rd_wr_place (by decide), Hub.oneMore]
  refine ⟨?_, ?_, ?_, ?_, ?_, fun n hn => ⟨?_, ?_⟩, ?_, ?_, ?_⟩
  · rw [same (by decide), act, C.rd_upChosen]
  · rw [same (by decide), att]
  · rw [same (by decide), hs]
  · rw [same (by decide), addr]
  · rw [same (by decide), conf]
  · rw [same (by decide), (ports n hn).1]
  · rw [same (by decide), (ports n hn).2]
  · rw [same (by decide), count, counted]
  · rw [refreshUp_eq, up, Bool.not_true, if_neg Bool.false_ne_true, if_neg change, Hub.when_true]
    exact told.raise.bit
  · rw [refreshUp_eq, up, Bool.not_true, if_neg Bool.false_ne_true, if_neg change, Hub.when_true]
    exact D.bit_raise rfl (by decide)

/-- UPSEL written: the upstream follows the choice. -/
theorem Hub.Canon.upselWritten_shows {h : Hub} (C : h.Canon) (v : Nat) (up : h.up 0xA0 = true) :
    let g := (h.wr USB.CFG_UPSEL v).refreshUp false
    g.rd USB.CFG_UPSEL = v % 2 ^ USB.CFG_UPSEL.w ∧ g.rd USB.STAT_UPACT = (h.wr USB.CFG_UPSEL v).upactOf :=
  ⟨(rd_refreshUp_upsel _ _).trans C.rd_wr, C.wr.rd_refreshUp ((up_wr (by decide) _).trans up) _⟩

theorem Hub.Canon.attach_shows {h : Hub} (C : h.Canon) (hs : Bool) :
    ((h.wr USB.hAttached 1).wr USB.STAT_HS (bnat hs)).rd USB.hAttached = 1 ∧
      ((h.wr USB.hAttached 1).wr USB.STAT_HS (bnat hs)).rd USB.STAT_HS = bnat hs :=
  ⟨(rd_wr_place (by decide)).trans C.rd_wr, C.wr.rd_wr.trans (by cases hs <;> rfl)⟩

/-! ### Ports (R473, R475, R498) -/

/-- The values of PORTSTAT that a port without power has. -/
theorem bits_zero (lo w : Nat) : bits 0 lo w = 0 := by
  unfold bits
  rw [Nat.zero_div, Nat.zero_mod]

theorem Hub.Canon.overcurrent_shows {h : Hub} (C : h.Canon) (n : Nat) (x : Cap) :
    let g := ((h.setPortStat n 8).cnt USB.CNT_OC_COUNT).raise 0xA0 0 x
    g.rd USB.PORTSTAT_POWER 0 n = 0 ∧ g.rd USB.PORTSTAT_CONNECT 0 n = 0 ∧ g.rd USB.PORTSTAT_ENABLE 0 n = 0 ∧
      g.rd USB.PORTSTAT_OVERCURRENT 0 n = 1 ∧ g.rd USB.CNT_OC_COUNT = h.oneMore USB.CNT_OC_COUNT ∧ g.bit HDR.ESTAT 0 0xA0 = true := by
  have P : (h.setPortStat n 8).Canon := Hub.setPortStat_canon C
  refine ⟨?_, ?_, ?_, ?_, ?_, P.cnt.bit_raise rfl (by decide)⟩
  · rw [Hub.raise_rd (by decide), rd_cnt_place (by decide), C.rd_setPortStat _ _ (by decide)]
    rfl
  · rw [Hub.raise_rd (by decide), rd_cnt_place (by decide), C.rd_setPortStat _ _ (by decide)]
    rfl
  · rw [Hub.raise_rd (by decide), rd_cnt_place (by decide), C.rd_setPortStat _ _ (by decide)]
    rfl
  · rw [Hub.raise_rd (by decide), rd_cnt_place (by decide), C.rd_setPortStat _ _ (by decide)]
    rfl
  · rw [Hub.raise_rd (by decide), P.rd_cnt, rd_setPortStat_apart (by decide), Hub.oneMore]

/-! ### Suspend, resume and wake (R495 to R497) -/

theorem Hub.Canon.hubSuspend_shows {h : Hub} (C : h.Canon) :
    let g := (h.wr USB.STAT_SUSPENDED 1).when (h.on UDF.CTL_CONNECT) fun h => h.udfSuspend true
    g.rd USB.STAT_SUSPENDED = 1 ∧
      (h.on UDF.CTL_CONNECT = true → h.on UDF.STAT_SUSPENDED = false →
        g.rd UDF.STAT_SUSPENDED = 1 ∧ g.bit HDR.ISTAT 6 0xA1 = true) := by
  refine ⟨(rd_when_of_rd (rd_udfSuspend_apart (by decide))).trans C.rd_wr, fun connected awake => ?_⟩
  obtain ⟨susp, told⟩ := C.wr.udfSuspend_true_shows (h := h.wr USB.STAT_SUSPENDED 1) ((on_wr_place (by decide)).trans awake)
  rw [connected, Hub.when_true]
  exact ⟨susp, told.bit⟩

theorem eventSend_out (h : Hub) (ev : Nat) (wake : Bool) :
    (h.eventSend ev wake).usbOut = h.usbOut ++ [(h.rd RHA.A_UTID_TID, .event ev (h.rd RHA.STAT_BUS) wake h.oldest)] := rfl

theorem oldest_congr {g h : Hub} (held : g.usbHeld = h.usbHeld) (next : g.rd RHA.hNext = h.rd RHA.hNext) : g.oldest = h.oldest := by
  unfold Hub.oldest Hub.heldList
  rw [held, next]

/-- A wake that is counted and told. -/
def Hub.wakeTold (h : Hub) : Hub := (h.cnt USB.CNT_WAKE_COUNT).irq 0xA0 2

theorem agent_of_rd {g h : Hub} (same : ∀ G ∈ HDR.PCTL_EN :: RHA.CFG_MODE :: upFlds, ∀ j c, g.rd G j c = h.rd G j c) : g.agent = h.agent := by
  unfold Hub.agent Hub.live Hub.on
  rw [up_of_rd fun G m => same G (List.mem_cons_of_mem _ (List.mem_cons_of_mem _ m)), same HDR.PCTL_EN (by decide),
    same RHA.CFG_MODE (by decide)]

theorem Hub.Canon.remoteWake_shows {h : Hub} (C : h.Canon) (first : h.on USB.hWoken = false) :
    let g := h.remoteWake
    g.rd USB.CNT_WAKE_COUNT = h.oneMore USB.CNT_WAKE_COUNT ∧ g.bit HDR.ISTAT 2 0xA0 = true ∧
      (h.agent = true → h.rd USB.STAT_UPACT = 1 → h.rd RHA.STAT_BUS = 1 → g.rd RHA.STAT_BUS = 0 ∧
        g.rd USB.STAT_SUSPENDED = 0 ∧ g.usbOut = h.usbOut ++ [(h.rd RHA.A_UTID_TID, .event 3 0 true h.oldest)]) := by
  have told : h.wakeTold.Alarm HDR.ISTAT 2 0xA0 := C.cnt.alarm_irq rfl (by decide)
  have count : h.wakeTold.rd USB.CNT_WAKE_COUNT = h.oneMore USB.CNT_WAKE_COUNT := (rd_irq_place (by decide)).trans C.rd_cnt
  have agent : h.wakeTold.agent = h.agent := agent_of_rd fun G m _ _ => by
    have apart := (by decide : ∀ G ∈ HDR.PCTL_EN :: RHA.CFG_MODE :: upFlds,
      HDR.ISTAT.place ≠ G.place ∧ USB.CNT_WAKE_COUNT.place ≠ G.place) G m
    rw [Hub.wakeTold, rd_irq_place apart.1, rd_cnt_place apart.2]
  have upact : h.wakeTold.rd USB.STAT_UPACT = h.rd USB.STAT_UPACT := (rd_irq_place (by decide)).trans (rd_cnt_place (by decide))
  have bus : h.wakeTold.rd RHA.STAT_BUS = h.rd RHA.STAT_BUS := (rd_irq_place (by decide)).trans (rd_cnt_place (by decide))
  have shape : h.remoteWake = if h.agent && h.rd USB.STAT_UPACT == 1 && h.rd RHA.STAT_BUS == 1 then
      (((h.wakeTold.wr RHA.STAT_BUS 0).udfSuspend false).wr USB.STAT_SUSPENDED 0).eventSend 3 true
    else h.wakeTold.wr USB.hWoken 1 := by
    rw [← agent, ← upact, ← bus]
    unfold Hub.remoteWake
    rw [first, if_neg Bool.false_ne_true]
    rfl
  rw [shape]
  refine ⟨?_, ?_, fun ag ua b => ?_⟩
  · split
    · rw [Hub.eventSend_rd (by decide), rd_wr_place (by decide), rd_udfSuspend_apart (by decide), rd_wr_place (by decide), count]
    · rw [rd_wr_place (by decide), count]
  · split
    · have A := ((told.wr (G := RHA.STAT_BUS) (v := 0) (i := 0) (b := 0) (by decide)).udfSuspend (v := false)).wr (G := USB.STAT_SUSPENDED)
        (v := 0) (i := 0) (b := 0) (by decide)
      exact (A.of_rd (Hub.eventSend_canon A.canon) (Hub.eventSend_rd (by decide))).bit
    · exact (told.wr (by decide)).bit
  · have asked : (h.agent && h.rd USB.STAT_UPACT == 1 && h.rd RHA.STAT_BUS == 1) = true := by rw [ag, ua, b]; rfl
    rw [if_pos asked]
    have W : (h.wakeTold.wr RHA.STAT_BUS 0).Canon := told.canon.wr
    have idle : ((((h.wakeTold.wr RHA.STAT_BUS 0).udfSuspend false).wr USB.STAT_SUSPENDED 0)).rd RHA.STAT_BUS = 0 := by
      rw [rd_wr_place (by decide), rd_udfSuspend_apart (by decide), told.canon.rd_wr]
      rfl
    refine ⟨(Hub.eventSend_rd (by decide)).trans idle, (Hub.eventSend_rd (by decide)).trans (Hub.udfSuspend_canon W).rd_wr, ?_⟩
    have held : ((h.wakeTold.wr RHA.STAT_BUS 0).udfSuspend false).usbHeld = h.usbHeld :=
      (Hub.udfSuspend_same.usbHeld (by decide)).trans (Hub.irq_same.usbHeld (by decide))
    have out : ((h.wakeTold.wr RHA.STAT_BUS 0).udfSuspend false).usbOut = h.usbOut :=
      (Hub.udfSuspend_same.usbOut (by decide)).trans (Hub.irq_same.usbOut (by decide))
    have same {F : Fld} (e : ∀ G ∈ [USB.STAT_SUSPENDED, UDF.STAT_SUSPENDED, UDF.WAKE_PENDING, HDR.ISTAT, RHA.STAT_BUS,
        USB.CNT_WAKE_COUNT], G.place ≠ F.place) :
        (((h.wakeTold.wr RHA.STAT_BUS 0).udfSuspend false).wr USB.STAT_SUSPENDED 0).rd F = h.rd F := by
      rw [rd_wr_place (e _ (by decide)), rd_udfSuspend_apart (fun G m => e G ((by decide :
        ∀ G ∈ [UDF.STAT_SUSPENDED, UDF.WAKE_PENDING, HDR.ISTAT], G ∈ [USB.STAT_SUSPENDED, UDF.STAT_SUSPENDED, UDF.WAKE_PENDING,
          HDR.ISTAT, RHA.STAT_BUS, USB.CNT_WAKE_COUNT]) G m)), rd_wr_place (e _ (by decide)), Hub.wakeTold,
        rd_irq_place (e _ (by decide)), rd_cnt_place (e _ (by decide))]
    rw [eventSend_out, idle, same (by decide), Hub.wr_usbOut, out,
      oldest_congr (g := ((h.wakeTold.wr RHA.STAT_BUS 0).udfSuspend false).wr USB.STAT_SUSPENDED 0) held (same (by decide))]

theorem Hub.Canon.wakeAbsorbed {h : Hub} (C : h.Canon) : h.wakeAbsorbed.Canon := C.wr.cnt

theorem Hub.Canon.busResume_shows {h : Hub} (C : h.Canon) :
    let g := h.busResume
    g.rd USB.STAT_SUSPENDED = 0 ∧ g.rd UDF.STAT_SUSPENDED = 0 ∧
      (h.on UDF.WAKE_PENDING = true → h.on USB.hWoken = false → g.rd UDF.WAKE_PENDING = 0 ∧
        g.rd UDF.WAKE_ABSORBED_COUNT = h.oneMore UDF.WAKE_ABSORBED_COUNT) := by
  have D : (h.when (h.on UDF.WAKE_PENDING && !h.on USB.hWoken) Hub.wakeAbsorbed).Canon := C.when C.wakeAbsorbed
  have E := Hub.udfSuspend_canon (v := false) D
  unfold Hub.busResume
  refine ⟨(rd_wr_place (by decide)).trans E.rd_wr, ?_, fun pending fresh => ?_⟩
  · rw [rd_wr_place (by decide), rd_wr_place (by decide), D.rd_udfSuspend_false]
  · have absorbed : h.wakeAbsorbed.rd UDF.WAKE_PENDING = 0 := (rd_cnt_place (by decide)).trans C.rd_wr
    rw [pending, fresh, Bool.not_false, Bool.and_self, Hub.when_true]
    refine ⟨?_, ?_⟩
    · rw [rd_wr_place (by decide), rd_wr_place (by decide), rd_udfSuspend_pending absorbed C.wakeAbsorbed]
    · rw [rd_wr_place (by decide), rd_wr_place (by decide), rd_udfSuspend_apart (by decide), Hub.wakeAbsorbed, C.wr.rd_cnt,
        rd_wr_place (by decide), Hub.oneMore]

/-- A host that drives a resume, for a time that the spec leaves open. -/
def Hub.resumeDriven (h : Hub) : Hub := h.free.2.wr USB.hResume (h.cyc + h.free.1 % 2 ^ 30)

theorem exec_hostResume (s : State) : exec .hostResume s =
    s.act fun h => h.when (h.up 0xA0 && h.on USB.STAT_SUSPENDED) fun h => h.resumeDriven.busResume := rfl

theorem rd_resumeDriven {h : Hub} {F : Fld} {i b : Nat} (apart : USB.hResume.place ≠ F.place) : h.resumeDriven.rd F i b = h.rd F i b :=
  (rd_wr_place apart).trans (rd_of_regs rfl _ _ _)

theorem Hub.Canon.resume_shows {h : Hub} (C : h.Canon) :
    let g := h.resumeDriven.busResume
    g.rd USB.STAT_SUSPENDED = 0 ∧ g.rd UDF.STAT_SUSPENDED = 0 ∧
      (h.on UDF.WAKE_PENDING = true → h.on USB.hWoken = false → g.rd UDF.WAKE_PENDING = 0 ∧
        g.rd UDF.WAKE_ABSORBED_COUNT = h.oneMore UDF.WAKE_ABSORBED_COUNT) := by
  have D : h.resumeDriven.Canon := (Hub.free_canon C).wr
  have shows := D.busResume_shows
  unfold Hub.on Hub.oneMore at shows
  rwa [rd_resumeDriven (by decide), rd_resumeDriven (by decide), rd_resumeDriven (by decide)] at shows

/-! ### Resets of the bus (R494) -/

/-- Where the agent is not this node's upstream, no request ends. -/
theorem usbReset_of_local {h : Hub} {n : Nat} (off : (if n = 0 then h.hubReset else if n = 7 then h.udfReset else h).agent = false) :
    h.usbReset n = if n = 0 then h.hubReset else if n = 7 then h.udfReset else h := by
  unfold Hub.usbReset
  dsimp only
  rw [off, Bool.false_and, Hub.when_false]

theorem agent_udfReset (h : Hub) : h.udfReset.agent = h.agent :=
  agent_of_rd fun G m _ _ => rd_udfReset_apart
    ((by decide : ∀ G ∈ HDR.PCTL_EN :: RHA.CFG_MODE :: upFlds, ∀ F ∈ udfResetFlds, F.place ≠ G.place) G m)

theorem usbReset_port_of_local {h : Hub} (p : Fin 7) (off : h.agent = false) :
    (p.val ≠ 6 → h.usbReset (p + 1) = h) ∧ (p.val = 6 → h.usbReset (p + 1) = h.udfReset) := by
  constructor <;> intro e
  · have other : (if p.val + 1 = 0 then h.hubReset else if p.val + 1 = 7 then h.udfReset else h) = h := by
      rw [if_neg (by omega), if_neg (by omega)]
    rw [usbReset_of_local (by rw [other]; exact off), other]
  · have port : (if p.val + 1 = 0 then h.hubReset else if p.val + 1 = 7 then h.udfReset else h) = h.udfReset := by
      rw [if_neg (by omega), if_pos (by omega)]
    rw [usbReset_of_local (by rw [port, agent_udfReset]; exact off), port]

/-- Requests that end leave what the hub's reset did. -/
theorem rd_usbReset {h : Hub} {n : Nat} {F : Fld} {i b : Nat} (k : F.kind = Kind.usb ∨ F.kind = Kind.udf) :
    (h.usbReset n).rd F i b = (if n = 0 then h.hubReset else if n = 7 then h.udfReset else h).rd F i b :=
  rd_when_of_rd (Hub.heldEndAll_rd (by rcases k with k | k <;> rw [k] <;> decide))

theorem Hub.Canon.usbReset_hub_shows {h : Hub} (C : h.Canon) :
    let g := h.usbReset 0
    g.rd USB.STAT_SUSPENDED = 0 ∧ g.rd USB.STAT_CONFIGURED = 0 ∧ g.rd UDF.STAT_ADDR = 0 ∧ g.rd UDF.STAT_CONFIGURED = 0 ∧
      g.rd UDF.STAT_SUSPENDED = 0 ∧ g.bit HDR.ISTAT 5 0xA1 = true ∧
      (∀ n : Nat, n < 6 → g.rd USB.PORTSTAT_POWER 0 (n + 1) = 0 ∧ g.rd USB.PORTSTAT_CONNECT 0 (n + 1) = 0) := by
  obtain ⟨susp, conf, addr, dconf, dsusp, told, ports⟩ := C.hubReset_shows
  exact ⟨(rd_usbReset (.inl (by decide))).trans susp, (rd_usbReset (.inl (by decide))).trans conf,
    (rd_usbReset (.inr (by decide))).trans addr, (rd_usbReset (.inr (by decide))).trans dconf,
    (rd_usbReset (.inr (by decide))).trans dsusp, (told.when told.heldEndAll).bit,
    fun n hn => ⟨(rd_usbReset (.inl (by decide))).trans (ports _ (by decide) n hn),
      (rd_usbReset (.inl (by decide))).trans (ports _ (by decide) n hn)⟩⟩

/-! ### Requests of the upstream host (R473, R475) -/

/-- A port that the hub has. -/
def Hub.portOk (h : Hub) (n : Nat) : Bool := decide (1 ≤ n ∧ n ≤ 7) && h.bit USB.CFG_PORTEN (n - 1)

theorem portOk_configured {h : Hub} {n : Nat} (low : 1 ≤ n) (high : n ≤ 7) (en : h.bit USB.CFG_PORTEN (n - 1) = true) :
    (h.wr USB.STAT_CONFIGURED 1).portOk n = true := by
  unfold Hub.portOk
  rw [bit_wr_place (by decide), en, decide_eq_true ⟨low, high⟩]
  rfl

theorem Hub.Canon.portReset_shows {h : Hub} (C : h.Canon) (n : Nat) (one : 1 ≤ n) :
    let g := (h.setPortStat n (h.portStat n &&& 0x7B ||| 2)).usbReset n
    g.rd USB.PORTSTAT_ENABLE 0 n = 1 ∧ g.rd USB.PORTSTAT_SUSPEND 0 n = 0 ∧ (n = 7 → g.rd UDF.STAT_ADDR = 0) := by
  have P : (h.setPortStat n (h.portStat n &&& 0x7B ||| 2)).Canon := Hub.setPortStat_canon C
  have kept (F : Fld) (k : F.kind = Kind.usb) : ((h.setPortStat n (h.portStat n &&& 0x7B ||| 2)).usbReset n).rd F 0 n =
      (h.setPortStat n (h.portStat n &&& 0x7B ||| 2)).rd F 0 n := by
    rw [rd_usbReset (.inl k), if_neg (by omega)]
    split
    · exact Hub.udfReset_rd (by rw [k]; decide)
    · rfl
  refine ⟨?_, ?_, fun seven => ?_⟩
  · rw [kept _ (by decide), C.rd_setPortStat _ _ (by decide)]
    exact bits_set rfl
  · rw [kept _ (by decide), C.rd_setPortStat _ _ (by decide)]
    exact (bits_masked_out_or rfl).trans rfl
  · rw [rd_usbReset (.inr (by decide)), if_neg (by omega), if_pos seven]
    exact P.udfReset_shows.1

theorem Hub.Canon.portSuspend_shows {h : Hub} (C : h.Canon) (n : Fin 8) :
    let g := (h.setPortStat n (h.portStat n ||| 4)).when (n == 7) fun h => h.udfSuspend true
    g.rd USB.PORTSTAT_SUSPEND 0 n = 1 ∧ (n.val = 7 → g.on UDF.STAT_SUSPENDED = true) := by
  have P : (h.setPortStat n (h.portStat n ||| 4)).Canon := Hub.setPortStat_canon C
  refine ⟨?_, fun seven => ?_⟩
  · rw [rd_when_of_rd (rd_udfSuspend_apart (by decide)), C.rd_setPortStat _ _ (by decide)]
    exact bits_set rfl
  · rw [beq_iff_eq.2 (Fin.ext seven), Hub.when_true]
    exact P.on_udfSuspend true

/-- The hub that a host's request finds is configured. -/
theorem completes_hubRequest {s : State} {q : HubReq} {f : Hub → Hub} {Q : Hub → Prop} (up : s.hub.up 0xA0 = true)
    (att : s.hub.on USB.hAttached = true) (step : (s.hub.wr USB.STAT_CONFIGURED 1).hubReq q = f (s.hub.wr USB.STAT_CONFIGURED 1))
    (q' : Q (f (s.hub.wr USB.STAT_CONFIGURED 1))) : Completes (.hubRequest q) s Q :=
  completes_when (p := fun h => h.up 0xA0 && h.on USB.hAttached) (f := fun _ h => (h.wr USB.STAT_CONFIGURED 1).hubReq q) rfl
    (by rw [up, att]; rfl) (by rw [step]; exact q')

section

variable {h : Hub} {n : Fin 8}

theorem hubReq_powerOn (ok : h.portOk n = true) : h.hubReq (.powerOn n) = h.setPortStat n (h.portStat n &&& 0xF7 ||| 0x10) := by
  unfold Hub.portOk at ok
  unfold Hub.hubReq
  dsimp only
  rw [ok, Hub.when_true]

theorem hubReq_powerOff (ok : h.portOk n = true) (own : n < 7) : h.hubReq (.powerOff n) = h.setPortStat n 0 := by
  unfold Hub.portOk at ok
  unfold Hub.hubReq
  dsimp only
  rw [ok, bne_iff_ne.2 (ne_of_lt own), Bool.and_self, Hub.when_true]

theorem hubReq_reset (ok : h.portOk n = true) (device : h.on USB.PORTSTAT_CONNECT 0 n = true) :
    h.hubReq (.reset n) = (h.setPortStat n (h.portStat n &&& 0x7B ||| 2)).usbReset n := by
  unfold Hub.portOk at ok
  unfold Hub.hubReq
  dsimp only
  rw [ok, device, Bool.and_self, Hub.when_true]

theorem hubReq_suspend (ok : h.portOk n = true) (en : h.on USB.PORTSTAT_ENABLE 0 n = true) :
    h.hubReq (.suspend n) = (h.setPortStat n (h.portStat n ||| 4)).when (n == 7) fun h => h.udfSuspend true := by
  unfold Hub.portOk at ok
  unfold Hub.hubReq
  dsimp only
  rw [ok, en, Bool.and_self, Hub.when_true]

end

/-! ### Devices (R474, R498) -/

theorem Hub.Canon.deviceConnect_shows {h : Hub} (C : h.Canon) (n speed : Nat) :
    let g := h.setPortStat n (h.portStat n &&& 0x18 ||| 1 ||| (speed % 4 * 32))
    g.rd USB.PORTSTAT_CONNECT 0 n = 1 ∧ g.rd USB.PORTSTAT_ENABLE 0 n = 0 ∧ g.rd USB.PORTSTAT_SPEED 0 n = speed % 4 := by
  have small : speed % 4 < 4 := Nat.mod_lt _ (by decide)
  refine ⟨?_, ?_, ?_⟩
  · rw [C.rd_setPortStat _ _ (by decide), bits_or, bits_masked_out_or rfl]
    interval_cases speed % 4 <;> rfl
  · rw [C.rd_setPortStat _ _ (by decide), bits_or, bits_masked_out_or rfl]
    interval_cases speed % 4 <;> rfl
  · rw [C.rd_setPortStat _ _ (by decide), bits_or, bits_masked_out_or rfl]
    interval_cases speed % 4 <;> rfl

end Sys2Proof.Machine

open Sys2Proof Sys2Proof.Machine

/-- Settles O18, clause by clause: the ports, the device function and the upstream after each command. -/
theorem usbHubCommandsComplete : Obligations.UsbHubCommandsComplete := by
  intro s I
  have C : s.hub.Canon := I
  have CL (m : MasterId) : (s.hub.dropLatch m).Canon := C.dropLatch
  refine ⟨?upsel, ?change, ?attach, ?overcurrent, ?suspend, ?wake, ?reset, ?portReset, ?resume, ?powerOn, ?powerOff, ?hostReset,
    ?hostSuspend, ?connect, ?disconnect⟩
  case upsel =>
    exact fun r v G up => completes_reg (f := fun h => (h.wr USB.CFG_UPSEL v).refreshUp false) rfl G ((CL r.master).upselWritten_shows v up)
  case change => exact fun v up change => completes_act (f := fun h => h.refreshUp true) rfl (C.refreshUp_shows up change)
  case attach =>
    exact fun hs up act att => completes_when (p := fun h => h.up 0xA0 && h.on USB.STAT_UPACT && !h.on USB.hAttached)
      (f := fun _ h => (h.wr USB.hAttached 1).wr USB.STAT_HS (bnat (hs || h.rd USB.STAT_UPACT == 1))) rfl
      (by rw [up, act, att]; rfl) (C.attach_shows _)
  case overcurrent =>
    exact fun p up power => completes_when (p := fun h => h.up 0xA0 && h.on USB.PORTSTAT_POWER 0 (p + 1))
      (f := fun _ h => ((h.setPortStat (p + 1) 8).cnt USB.CNT_OC_COUNT).raise 0xA0 0 { lo := some (p + 1) }) rfl
      (by rw [up, power]; rfl) (C.overcurrent_shows _ _)
  case suspend =>
    exact fun up att idle => completes_when
      (p := fun h => h.up 0xA0 && h.on USB.hAttached && (h.rd USB.STAT_UPACT != 1 || h.rd RHA.STAT_BUS == 1))
      (f := fun _ h => (h.wr USB.STAT_SUSPENDED 1).when (h.on UDF.CTL_CONNECT) fun h => h.udfSuspend true) rfl
      (by rw [up, att, Bool.true_and, Bool.true_and, Bool.or_eq_true, bne_iff_ne, beq_iff_eq]; exact idle) C.hubSuspend_shows
  case wake =>
    exact fun port up low high att susp first => completes_when
      (p := fun h => h.up 0xA0 && decide (1 ≤ port ∧ port ≤ 7) && h.on USB.hAttached &&
        (h.on USB.STAT_SUSPENDED || (h.rd USB.STAT_UPACT == 1 && h.rd RHA.STAT_BUS == 1)))
      (f := fun _ h => h.remoteWake) rfl (by rw [up, decide_eq_true ⟨low, high⟩, att, susp]; rfl) (C.remoteWake_shows first)
  case reset =>
    exact fun up => completes_when (p := fun h => h.up 0xA0) (f := fun _ h => h.usbReset 0) rfl up C.usbReset_hub_shows
  case portReset =>
    exact fun p up off => completes_when (p := fun h => h.up 0xA0) (f := fun _ h => h.usbReset (p + 1)) rfl up
      (usbReset_port_of_local p off)
  case resume => exact fun up susp => completes_when (f := fun _ h => h.resumeDriven.busResume) (exec_hostResume s) (by rw [up, susp]; rfl) C.resume_shows
  case powerOn =>
    exact fun p up att one en => completes_hubRequest (f := fun h => h.setPortStat p (h.portStat p &&& 0xF7 ||| 0x10)) up att
      (hubReq_powerOn (portOk_configured one (by omega) en))
      ⟨(C.wr.rd_setPortStat _ _ (by decide)).trans (bits_set rfl),
        (C.wr.rd_setPortStat _ _ (by decide)).trans ((bits_masked_out_or rfl).trans rfl)⟩
  case powerOff =>
    exact fun p up att one own en => completes_hubRequest (f := fun h => h.setPortStat p 0) up att
      (hubReq_powerOff (portOk_configured one (by omega) en) own)
      ⟨(C.wr.rd_setPortStat _ _ (by decide)).trans rfl, (C.wr.rd_setPortStat _ _ (by decide)).trans rfl⟩
  case hostReset =>
    exact fun p up att one en device => completes_hubRequest
      (f := fun h => (h.setPortStat p (h.portStat p &&& 0x7B ||| 2)).usbReset p) up att
      (hubReq_reset (portOk_configured one (by omega) en) ((on_wr_place (by decide)).trans device)) (C.wr.portReset_shows _ one)
  case hostSuspend =>
    exact fun p up att one en enabled => completes_hubRequest
      (f := fun h => (h.setPortStat p (h.portStat p ||| 4)).when (p == 7) fun h => h.udfSuspend true) up att
      (hubReq_suspend (portOk_configured one (by omega) en) ((on_wr_place (by decide)).trans enabled)) (C.wr.portSuspend_shows _)
  case connect =>
    exact fun p speed up other usable => completes_when (p := fun h => h.up 0xA0 && p != 6)
      (f := fun _ h => h.when (h.portUsable (p + 1)) fun h =>
        h.setPortStat (p + 1) (h.portStat (p + 1) &&& 0x18 ||| 1 ||| (speed % 4 * 32))) rfl
      (by rw [up, bne_iff_ne.2 fun e => other (by rw [e]; rfl)]; rfl) (by
        rw [usable, Hub.when_true]
        exact C.deviceConnect_shows _ _)
  case disconnect =>
    intro p speed up
    by_cases seven : p = 6
    · subst seven
      exact completes_act (f := fun h => h.when (h.up 0xA0 && (6 : Fin 7) != 6) fun h => h.portEmpty 7) rfl
        ⟨fun e => absurd rfl e, fun _ => by rw [bne_self_eq_false, Bool.and_false, Hub.when_false]⟩
    · exact completes_when (p := fun h => h.up 0xA0 && p != 6) (f := fun _ h => h.portEmpty (p + 1)) rfl
        (by rw [up, bne_iff_ne.2 seven]; rfl)
        ⟨fun _ => C.portEmpty_shows _, fun e => absurd (Fin.ext e) seven⟩
end

section
/-! PROOFS. The remote host agent: requests that end at the agent, and the rings at the session end (R479 to R488, R500). -/

namespace Sys2Proof.Machine

open Sys2Proof

/-! ### A held request that ends (R486) -/

/-- The CPL of a held request. -/
def cplOf (x : UsbHeld) (status actual frame : Nat) (toggle : Bool) : UsbCpl :=
  { ring := x.q.ring, slot := x.q.slot, status := status, actual := actual, reqseq := x.q.reqseq, toggle := toggle,
    naks := x.naks, frame := frame }

section

variable {h : Hub} {sl status actual frame : Nat} {x : UsbHeld} {toggle : Bool} {data : Bytes}

theorem heldDone_held : (h.heldDone sl x status actual frame toggle data).usbHeld = Tab.del sl h.usbHeld := rfl

theorem heldDone_out : (h.heldDone sl x status actual frame toggle data).usbOut =
    h.usbOut ++ [(h.rd RHA.A_UTID_TID, .cpl (cplOf x status actual frame toggle) data)] := by
  cases data <;> rfl

theorem Hub.Canon.heldDone_counts (C : h.Canon) : (h.heldDone sl x status actual frame toggle data).rd RHA.CNT_CPL_COUNT =
    h.oneMore RHA.CNT_CPL_COUNT := by
  have D (k : Hub) (e : k.Canon) (same : k.rd RHA.CNT_CPL_COUNT = h.rd RHA.CNT_CPL_COUNT) (a v : Nat) (i b : Nat) :
      (((k.cnt RHA.CNT_CPL_COUNT).wr RHA.hToggle v i b).refreshHeld.setTfld a 0 1 0).rd RHA.CNT_CPL_COUNT = h.oneMore RHA.CNT_CPL_COUNT := by
    rw [rd_setTfld, Hub.refreshHeld, rd_wr_place (by decide), rd_wr_place (by decide), e.rd_cnt, same, Hub.oneMore]
  unfold Hub.heldDone
  dsimp only
  refine D _ ?_ ?_ _ _ _ _
  · obtain ⟨regs, tab, fmem⟩ : (h.when (!data.isEmpty) fun h =>
        h.setTwords (poolAddr (bits (h.tword (descAddr 0 sl 1)) 16 12)) (unitWords data)).Canon := C.when C.setTwords
    exact ⟨regs, tab, fmem⟩
  · exact rd_when_of_rd (rd_of_regs rfl _ _ _)

theorem heldEnd_held : (Hub.heldEnd status (sl, x) h).usbHeld = Tab.del sl h.usbHeld := rfl

/-- The CPL of a request that ends before its transfer does. -/
theorem heldEnd_out : ∃ c, (Hub.heldEnd status (sl, x) h).usbOut = h.usbOut ++ [(h.rd RHA.A_UTID_TID, .cpl c [])] ∧
    c.status = status ∧ c.reqseq = x.q.reqseq := ⟨_, heldDone_out, rfl, rfl⟩

theorem Hub.Canon.heldEnd_counts (C : h.Canon) : (Hub.heldEnd status (sl, x) h).rd RHA.CNT_CPL_COUNT = h.oneMore RHA.CNT_CPL_COUNT :=
  Hub.Canon.heldDone_counts (h := h.free.2.free.2) (Hub.free_canon (Hub.free_canon C))

theorem lastCpl_append {g : Hub} {l : List (Nat × UsbPkt)} {tid : Nat} {c : UsbCpl} {d : Bytes} (e : g.usbOut = l ++ [(tid, .cpl c d)]) :
    lastCpl g = some c := by
  unfold lastCpl
  rw [e, List.getLast?_append, List.getLast?_singleton]
  rfl

/-- The CPL of a request that ends before its transfer does is the last one sent. -/
theorem lastCpl_heldEnd : (lastCpl (Hub.heldEnd status (sl, x) h)).map UsbCpl.status = some status ∧
    (lastCpl (Hub.heldEnd status (sl, x) h)).map UsbCpl.reqseq = some x.q.reqseq := by
  obtain ⟨c, out, st, seq⟩ := heldEnd_out (h := h) (sl := sl) (x := x) (status := status)
  rw [lastCpl_append out, ← st, ← seq]
  exact ⟨rfl, rfl⟩

end

/-! ### Rings at the session end (R482, R486, R488) -/

/-- What descriptors that move write. -/
def ringFlds : List Fld := [RHA.RPTR_HEAD, RHA.RPTR_INFLIGHT, RHA.RPTR_DONE, RHA.CNT_CPL_COUNT, RHA.CNT_REQ_COUNT, RHA.STAT_HELD, RHA.hSeq]

/-- A property that descriptors that move keep. -/
structure RingKeeps (P : Hub → Prop) : Prop where
  canon : ∀ {h}, P h → h.Canon
  wr : ∀ {h F v i b}, F ∈ ringFlds → P h → P (h.wr F v i b)
  irq : ∀ {h}, P h → P (h.irq 0xA2 0)
  regs : ∀ {g h}, P h → g.Canon → g.regs = h.regs → P g

namespace RingKeeps

variable {P : Hub → Prop} {h : Hub}

theorem when (_ : RingKeeps P) {c : Bool} {f : Hub → Hub} (H : P h) (e : P (f h)) : P (h.when c f) := by
  cases c
  · exact H
  · exact e

theorem descDone (K : RingKeeps P) (H : P h) {r i status actual naks frame : Nat} {toggle : Bool} :
    P (h.descDone r i status actual naks frame toggle) := by
  have C := K.canon H
  have filled (a b : Nat) (ws : List Nat) : P ((h.setTwords a ws).setTfld b 0 1 0) := K.regs H C.setTwords.setTfld rfl
  have done (a b : Nat) (ws : List Nat) (v : Nat) : P (((h.setTwords a ws).setTfld b 0 1 0).wr RHA.RPTR_DONE v 0 r) :=
    K.wr (by decide) (filled a b ws)
  unfold Hub.descDone
  dsimp only
  exact K.when (done _ _ _ _) (K.irq (done _ _ _ _))

theorem free (K : RingKeeps P) (H : P h) : P h.free.2 := K.regs H (Hub.free_canon (K.canon H)) rfl

theorem descFail (K : RingKeeps P) (H : P h) {r i status actual naks : Nat} : P (h.descFail r i status actual naks) :=
  K.wr (by decide) (K.descDone (K.free (K.free H)))

theorem refreshHeld (K : RingKeeps P) (H : P h) : P h.refreshHeld := K.wr (by decide) H

theorem erased (K : RingKeeps P) (H : P h) {x : UsbFlight} : P { h with usbFly := h.usbFly.erase x } :=
  have C := K.canon H
  K.regs H ⟨C.regs, C.tab, C.fmem⟩ rfl

theorem flyFail (K : RingKeeps P) (H : P h) {status : Nat} {x : UsbFlight} : P (Hub.flyFail status x h) :=
  K.refreshHeld (K.descFail (K.wr (by decide) (K.erased (K.free (K.free H)))))

theorem ringStep (K : RingKeeps P) (H : P h) {r : Nat} {g : Hub} (e : h.ringStep r = some g) : P g := by
  have moved : P (h.wr RHA.RPTR_HEAD (h.rd RHA.RPTR_HEAD 0 r + 1) 0 r) := K.wr (by decide) H
  have C := K.canon moved
  unfold Hub.ringStep at e
  dsimp only at e
  split at e
  · cases e
  · split at e
    · cases e
      exact K.descFail moved
    · split at e
      · cases e
      · cases e
        exact K.refreshHeld (K.wr (by decide) (K.wr (by decide) (K.wr (by decide) (K.regs moved ⟨C.regs, C.tab, C.fmem⟩ rfl))))

theorem ringSend (K : RingKeeps P) (r : Nat) : ∀ (n : Nat) {h : Hub}, P h → P (Hub.ringSend r n h)
  | 0, _, H => H
  | n + 1, h, H => by
    unfold Hub.ringSend
    split
    · next e => exact ringSend K r n (K.ringStep H e)
    · exact H

theorem ringsGo (K : RingKeeps P) (H : P h) : P h.ringsGo := keep_each (fun _ _ H => K.ringSend _ _ H) H

/-- Descriptors that move leave the other registers alone. -/
theorem of_rd {F : Fld} {i b v : Nat} (apart : ∀ G ∈ HDR.ISTAT :: ringFlds, G.place ≠ F.place) :
    RingKeeps fun g => g.Canon ∧ g.rd F i b = v where
  canon H := H.1
  wr m H := ⟨H.1.wr, (rd_wr_place (apart _ (List.mem_cons_of_mem _ m))).trans H.2⟩
  irq H := ⟨Hub.irq_canon H.1, (rd_irq_place (apart _ List.mem_cons_self)).trans H.2⟩
  regs H C e := ⟨C, (rd_of_regs e F i b).trans H.2⟩

/-- Descriptors that move leave the alarms alone. -/
theorem of_alarm {F : Fld} {m q : Nat} : RingKeeps fun g => g.Alarm F m q where
  canon A := A.canon
  wr m A := A.wr ((by decide : ∀ G ∈ ringFlds, G.place ≠ HDR.ESTAT.place ∧ G.place ≠ HDR.ISTAT.place) _ m)
  irq A := A.irq
  regs A C e := A.of_regs C e

end RingKeeps

theorem descDone_out {h : Hub} {r i status actual naks frame : Nat} {toggle : Bool} :
    (h.descDone r i status actual naks frame toggle).usbOut = h.usbOut := by
  unfold Hub.descDone
  dsimp only
  exact keep_when (P := fun g => g.usbOut = h.usbOut) (fun g e => (Hub.irq_same.usbOut (by decide)).trans e) rfl

theorem descFail_out {h : Hub} {r i status actual naks : Nat} : (h.descFail r i status actual naks).usbOut = h.usbOut :=
  descDone_out (h := h.free.2.free.2)

/-- A ring that sends adds packets to those that were sent. -/
theorem ringStep_out {h g : Hub} {r : Nat} (e : h.ringStep r = some g) : h.usbOut <+: g.usbOut := by
  unfold Hub.ringStep at e
  dsimp only at e
  split at e
  · cases e
  · split at e
    · cases e
      rw [descFail_out]
      exact List.prefix_refl _
    · split at e
      · cases e
      · cases e
        exact List.prefix_append _ _

theorem ringSend_out (r : Nat) : ∀ (n : Nat) (h : Hub), h.usbOut <+: (Hub.ringSend r n h).usbOut
  | 0, _ => List.prefix_refl _
  | n + 1, h => by
    unfold Hub.ringSend
    split
    · next e => exact (ringStep_out e).trans (ringSend_out r n _)
    · exact List.prefix_refl _

/-- The request that ring `r` sends next, an IN of a pipe that is not a control pipe. -/
def Hub.ringReq (h : Hub) (r : Nat) : UsbReq :=
  let i := h.rd RHA.RPTR_HEAD 0 r
  { ring := r, slot := i, treset := (h.tword (descAddr r i 0)).testBit 3, zlp := (h.tword (descAddr r i 0)).testBit 2,
    len := bits (h.tword (descAddr r i 1)) 0 13, reqseq := h.rd RHA.hSeq 0 (h.rd RHA.RDTID_TID 0 r),
    devaddr := h.rd RHA.RCFG_DEVADDR 0 r, ep := h.rd RHA.RCFG_EP 0 r, isIn := true, xtype := h.rd RHA.RCFG_XTYPE 0 r,
    mps := h.rd RHA.RCFG_MPS 0 r, speed := h.rd RHA.RCFG_SPEED 0 r, port := h.rd RHA.RCFG_PORT 0 r,
    interval := h.rd RHA.RINTV_INTERVAL 0 r, tmoMs := bits (h.tword (descAddr r i 2)) 0 16, setup := [] }

theorem ringStep_sends {h : Hub} {r : Nat} (owned : (h.tword (descAddr r (h.rd RHA.RPTR_HEAD 0 r) 0)).testBit 0 = true)
    (room : h.rd RHA.RPTR_INFLIGHT 0 r < 16) (en : h.on RHA.RCFG_EN 0 r = true)
    (len : bits (h.tword (descAddr r (h.rd RHA.RPTR_HEAD 0 r) 1)) 0 13 ≤ 4096)
    (fits : bits (h.tword (descAddr r (h.rd RHA.RPTR_HEAD 0 r) 1)) 16 12 +
      ceilDiv (bits (h.tword (descAddr r (h.rd RHA.RPTR_HEAD 0 r) 1)) 0 13) 32 ≤ 4096)
    (mine : (h.usbFly.filter fun x => x.dtid == h.rd RHA.RDTID_TID 0 r) = []) (bulk : h.rd RHA.RCFG_XTYPE 0 r ≠ 0)
    (dir : h.on RHA.RCFG_IN 0 r = true) :
    ∃ g, h.ringStep r = some g ∧ g.usbOut = h.usbOut ++ [(h.rd RHA.RDTID_TID 0 r, .req (h.ringReq r) [])] := by
  have go : ¬((h.tword (descAddr r (h.rd RHA.RPTR_HEAD 0 r) 0)).testBit 0 = false ∨ 16 ≤ h.rd RHA.RPTR_INFLIGHT 0 r) := by
    rintro (free | full)
    · rw [owned] at free
      cases free
    · exact Nat.not_le.2 room full
  have good : ¬((!h.on RHA.RCFG_EN 0 r || decide (4096 < bits (h.tword (descAddr r (h.rd RHA.RPTR_HEAD 0 r) 1)) 0 13) ||
      decide (4096 < bits (h.tword (descAddr r (h.rd RHA.RPTR_HEAD 0 r) 1)) 16 12 +
        ceilDiv (bits (h.tword (descAddr r (h.rd RHA.RPTR_HEAD 0 r) 1)) 0 13) 32)) = true) := by
    rw [en, decide_eq_false (Nat.not_lt.2 len), decide_eq_false (Nat.not_lt.2 fits)]
    decide
  have window : ¬(64 ≤ ([] : List UsbFlight).length ∨
      65536 < (([] : List UsbFlight).map UsbFlight.len).sum + bits (h.tword (descAddr r (h.rd RHA.RPTR_HEAD 0 r) 1)) 0 13) := by
    simp only [List.length_nil, List.map_nil, List.sum_nil]
    omega
  unfold Hub.ringStep
  dsimp only
  rw [if_neg go, if_neg good, mine, if_neg window]
  refine ⟨_, rfl, ?_⟩
  unfold Hub.ringReq
  rw [beq_eq_false_iff_ne.2 bulk, if_neg Bool.false_ne_true, if_neg Bool.false_ne_true, dir, if_pos rfl]
  rfl

end Sys2Proof.Machine
end

section
/-! PROOFS. The commands of the remote host agent and of its session end (R479 to R488, R495, R500). -/

namespace Sys2Proof.Machine

open Sys2Proof

theorem on_of_rd {g h : Hub} {F : Fld} {i b : Nat} (e : g.rd F i b = h.rd F i b) : g.on F i b = h.on F i b := by
  unfold Hub.on
  rw [e]

/-! ### DOORBELL (R482) -/

/-- The tables of a node under a doorbell. -/
def Hub.rung (h : Hub) (ring : Nat) : Hub := (h.wr RHA.DB_RING ring).wr RHA.hRung 1 0 ring

theorem rd_rung {h : Hub} {ring : Nat} {F : Fld} {i b : Nat} (e : RHA.DB_RING.place ≠ F.place) (e' : RHA.hRung.place ≠ F.place) :
    (h.rung ring).rd F i b = h.rd F i b := (rd_wr_place e').trans (rd_wr_place e)

theorem tword_rung (h : Hub) (ring a : Nat) : (h.rung ring).tword a = h.tword a := rfl

theorem rung_out (h : Hub) (ring : Nat) : (h.rung ring).usbOut = h.usbOut := rfl

theorem ringReq_rung (h : Hub) (ring : Nat) : (h.rung ring).ringReq ring = h.ringReq ring := by
  unfold Hub.ringReq
  simp +decide only [rd_rung, tword_rung]

/-- The first word of a descriptor, and those after it. -/
theorem getD_desc (h : Hub) (r i : Nat) {j : Nat} (hj : j < 8) : (h.twords (descAddr r i 0) 8).getD j 0 = h.tword (descAddr r i j) := by
  unfold Hub.twords Hub.tword
  rw [Tab.getD_getRun 0 h.tab _ hj]
  congr 1
  unfold descAddr
  omega

/-- A ring whose first request can be sent sends it first. -/
theorem ringSend_first {h : Hub} {r n tid : Nat} {q : UsbReq}
    (step : ∃ g, h.ringStep r = some g ∧ g.usbOut = h.usbOut ++ [(tid, .req q [])]) :
    ((Hub.ringSend r (n + 1) h).usbOut.drop h.usbOut.length).head? = some (tid, .req q []) := by
  obtain ⟨g, sent, out⟩ := step
  obtain ⟨rest, more⟩ := ringSend_out r n g
  have shape : Hub.ringSend r (n + 1) h = Hub.ringSend r n g := by rw [Hub.ringSend, sent]
  rw [shape, ← more, out, List.append_assoc, List.drop_left]
  rfl

/-- A doorbell of a ring whose next descriptor can be sent. -/
theorem ringSend_rung {h : Hub} {r : Nat} (owned : (h.tword (descAddr r (h.rd RHA.RPTR_HEAD 0 r) 0)).testBit 0 = true)
    (room : h.rd RHA.RPTR_INFLIGHT 0 r < 16) (en : h.on RHA.RCFG_EN 0 r = true)
    (len : bits (h.tword (descAddr r (h.rd RHA.RPTR_HEAD 0 r) 1)) 0 13 ≤ 4096)
    (fits : bits (h.tword (descAddr r (h.rd RHA.RPTR_HEAD 0 r) 1)) 16 12 +
      ceilDiv (bits (h.tword (descAddr r (h.rd RHA.RPTR_HEAD 0 r) 1)) 0 13) 32 ≤ 4096)
    (mine : (h.usbFly.filter fun x => x.dtid == h.rd RHA.RDTID_TID 0 r) = []) (bulk : h.rd RHA.RCFG_XTYPE 0 r ≠ 0)
    (dir : h.on RHA.RCFG_IN 0 r = true) :
    ((Hub.ringSend r 16 (h.rung r)).usbOut.drop h.usbOut.length).head? = some (h.rd RHA.RDTID_TID 0 r, .req (h.ringReq r) []) := by
  have step := ringStep_sends (h := h.rung r) (r := r)
  rw [rd_rung (by decide) (by decide), rd_rung (by decide) (by decide), rd_rung (by decide) (by decide), rd_rung (by decide) (by decide),
    tword_rung, tword_rung, ringReq_rung] at step
  have en' : (h.rung r).on RHA.RCFG_EN 0 r = true := (on_of_rd (rd_rung (by decide) (by decide))).trans en
  have dir' : (h.rung r).on RHA.RCFG_IN 0 r = true := (on_of_rd (rd_rung (by decide) (by decide))).trans dir
  have first := ringSend_first (n := 15) (step owned room en' len fits mine bulk dir')
  rwa [rung_out] at first

/-! ### CANCEL and BUSCTL at the session end (R487, R495) -/

theorem session_of_rd {g h : Hub} (same : ∀ G ∈ HDR.PCTL_EN :: RHA.CFG_MODE :: upFlds, ∀ j c, g.rd G j c = h.rd G j c) :
    g.session = h.session := by
  unfold Hub.session Hub.live Hub.on
  rw [up_of_rd fun G m => same G (List.mem_cons_of_mem _ (List.mem_cons_of_mem _ m)), same HDR.PCTL_EN (by decide),
    same RHA.CFG_MODE (by decide)]

/-- A write of `v` to CANCEL. -/
def Hub.cancelAsk (h : Hub) (v : Nat) : Hub :=
  let h1 := (h.wr RHA.CANCEL_RING v).wr RHA.CANCEL_SLOT (bits v 8 4)
  if v.testBit 16 && h1.session then
    match h1.usbFly.find? fun x => x.ring == v % 256 && x.slot == bits v 8 4 with
    | some x => h1.usbSend x.dtid (.cancel x.ring x.slot x.seq)
    | none => h1
  else h1

theorem Hub.Canon.cancelAsk_shows {h : Hub} (C : h.Canon) {v : Nat} {x : UsbFlight} (set : v.testBit 16 = true) (mode : h.session = true)
    (fly : h.usbFly.find? (fun x => x.ring == v % 256 && x.slot == bits v 8 4) = some x) :
    let g := h.cancelAsk v
    g.rd RHA.CANCEL_RING = v % 256 ∧ g.rd RHA.CANCEL_SLOT = bits v 8 4 ∧
      g.usbOut = h.usbOut ++ [(x.dtid, .cancel x.ring x.slot x.seq)] := by
  have mode' : ((h.wr RHA.CANCEL_RING v).wr RHA.CANCEL_SLOT (bits v 8 4)).session = true :=
    (session_of_rd fun G m _ _ => by
      obtain ⟨a, b⟩ := (by decide : ∀ G ∈ HDR.PCTL_EN :: RHA.CFG_MODE :: upFlds,
        RHA.CANCEL_RING.place ≠ G.place ∧ RHA.CANCEL_SLOT.place ≠ G.place) G m
      rw [rd_wr_place b, rd_wr_place a]).trans mode
  have fly' : ((h.wr RHA.CANCEL_RING v).wr RHA.CANCEL_SLOT (bits v 8 4)).usbFly.find?
      (fun x => x.ring == v % 256 && x.slot == bits v 8 4) = some x := fly
  have shape : h.cancelAsk v = ((h.wr RHA.CANCEL_RING v).wr RHA.CANCEL_SLOT (bits v 8 4)).usbSend x.dtid (.cancel x.ring x.slot x.seq) := by
    unfold Hub.cancelAsk
    dsimp only
    rw [set, mode', Bool.and_self, if_pos rfl, fly']
  rw [shape]
  exact ⟨(Hub.usbSend_rd (by decide)).trans ((rd_wr_place (by decide)).trans C.rd_wr),
    (Hub.usbSend_rd (by decide)).trans (C.wr.rd_wr.trans (Nat.mod_mod _ _)), rfl⟩

/-- A write of `v` to BUSCTL. -/
def Hub.busAsk (h : Hub) (v : Nat) : Hub :=
  (h.wr RHA.BUSCTL_OP v).when (v.testBit 4 && v % 4 != 0 && h.session) fun h =>
    h.usbSend (h.rd RHA.RDTID_TID 0 (h.rd RHA.RSEL_RING)) (.busctl (v % 4))

theorem Hub.Canon.busAsk_shows {h : Hub} (C : h.Canon) {v : Nat} (go : v.testBit 4 = true) (op : v % 4 ≠ 0) (mode : h.session = true) :
    let g := h.busAsk v
    g.rd RHA.BUSCTL_OP = v % 2 ^ RHA.BUSCTL_OP.w ∧
      g.usbOut = h.usbOut ++ [(h.rd RHA.RDTID_TID 0 (h.rd RHA.RSEL_RING), .busctl (v % 4))] := by
  unfold Hub.busAsk
  rw [go, bne_iff_ne.2 op, mode, Bool.and_self, Bool.and_self, Hub.when_true]
  refine ⟨(Hub.usbSend_rd (by decide)).trans C.rd_wr, ?_⟩
  show h.usbOut ++ [((h.wr RHA.BUSCTL_OP v).rd RHA.RDTID_TID 0 ((h.wr RHA.BUSCTL_OP v).rd RHA.RSEL_RING), UsbPkt.busctl (v % 4))] = _
  rw [rd_wr_place (by decide), rd_wr_place (by decide)]

/-! ### REQ (R483, R484) -/

/-- A request that slot `sl` holds from now on. -/
def Hub.newHeld (h : Hub) (q : UsbReq) (data : Bytes) : UsbHeld :=
  { q := q, ord := (h.heldList.getLast?.map fun p => p.2.ord + 1).getD 0, data := data }

/-- A request written to its slot of the descriptor window, and its data to the pool. -/
def Hub.reqStored (h : Hub) (q : UsbReq) (data : Bytes) (sl : Nat) : Hub :=
  let b := h.free.1 % (2049 - min 2048 (ceilDiv q.len 32))
  let ws : List Nat := [1 + bnat q.zlp * 4 + bnat q.treset * 8, q.len % 8192 + b * 65536, q.tmoMs % 65536, 0,
    leAt q.setup 0 4, leAt q.setup 4 4, 0, 0]
  (({ h.free.2 with usbHeld := Tab.ins sl (h.newHeld q data) h.free.2.usbHeld } : Hub).setTwords (descAddr 0 sl 0) ws).when (!data.isEmpty) fun h =>
    h.setTwords (poolAddr b) (unitWords (data.take q.len))

/-- A request in slot `sl`, before the node looks whether the agent is in use. -/
def Hub.reqHeld (h : Hub) (q : UsbReq) (data : Bytes) (sl : Nat) : Hub :=
  ((((h.reqStored q data sl).wr RHA.hNext ((q.reqseq + 1) % 65536)).cnt RHA.CNT_REQ_COUNT).refreshHeld).when q.treset fun h =>
    h.wr RHA.hToggle 0 0 q.ring

theorem reqIn_eq {h : Hub} {q : UsbReq} {data : Bytes} {sl : Nat}
    (slot : (List.range 64).find? (fun sl => !Tab.has sl h.usbHeld) = some sl) : h.reqIn q data =
      if (h.reqHeld q data sl).rd USB.STAT_UPACT = 1 then h.reqHeld q data sl
      else Hub.heldEnd 9 (sl, h.newHeld q data) (h.reqHeld q data sl) := by
  unfold Hub.reqIn
  rw [slot]
  rfl

section

variable {h : Hub} {q : UsbReq} {data : Bytes} {sl : Nat}

theorem reqStored_held : (h.reqStored q data sl).usbHeld = Tab.ins sl (h.newHeld q data) h.usbHeld := by
  unfold Hub.reqStored
  cases data <;> rfl

theorem rd_reqStored {F : Fld} {i b : Nat} : (h.reqStored q data sl).rd F i b = h.rd F i b :=
  rd_when_of_rd (rd_of_regs rfl _ _ _)

theorem Hub.Canon.reqStored (C : h.Canon) : (h.reqStored q data sl).Canon := by
  have D : ({ h.free.2 with usbHeld := Tab.ins sl (h.newHeld q data) h.free.2.usbHeld } : Hub).Canon := ⟨C.regs, C.tab, C.fmem⟩
  unfold Hub.reqStored
  dsimp only
  refine Hub.Canon.when ?_ ?_
  · exact D.setTwords
  · exact D.setTwords.setTwords

theorem Hub.Canon.reqHeld (C : h.Canon) : (h.reqHeld q data sl).Canon := by
  have D : ((((h.reqStored q data sl).wr RHA.hNext ((q.reqseq + 1) % 65536)).cnt RHA.CNT_REQ_COUNT).refreshHeld).Canon :=
    C.reqStored.wr.cnt.wr
  exact D.when D.wr

theorem reqHeld_held : (h.reqHeld q data sl).usbHeld = Tab.ins sl (h.newHeld q data) h.usbHeld := by
  rw [← reqStored_held]
  unfold Hub.reqHeld
  cases q.treset <;> rfl

theorem rd_reqHeld_apart {F : Fld} {i b : Nat} (apart : ∀ G ∈ [RHA.hNext, RHA.CNT_REQ_COUNT, RHA.STAT_HELD, RHA.hToggle], G.place ≠ F.place) :
    (h.reqHeld q data sl).rd F i b = h.rd F i b := by
  rw [Hub.reqHeld, rd_when_of_rd (rd_wr_place (apart _ (by decide))), Hub.refreshHeld, rd_wr_place (apart _ (by decide)),
    rd_cnt_place (apart _ (by decide)), rd_wr_place (apart _ (by decide)), rd_reqStored]

theorem Hub.Canon.reqHeld_counts (C : h.Canon) : (h.reqHeld q data sl).rd RHA.CNT_REQ_COUNT = h.oneMore RHA.CNT_REQ_COUNT ∧
    (h.reqHeld q data sl).rd RHA.hNext = (q.reqseq + 1) % 65536 := by
  have D : (h.reqStored q data sl).Canon := C.reqStored
  constructor
  · rw [Hub.reqHeld, rd_when_of_rd (rd_wr_place (by decide)), Hub.refreshHeld, rd_wr_place (by decide), D.wr.rd_cnt,
      rd_wr_place (by decide), rd_reqStored, Hub.oneMore]
  · rw [Hub.reqHeld, rd_when_of_rd (rd_wr_place (by decide)), Hub.refreshHeld, rd_wr_place (by decide), rd_cnt_place (by decide), D.rd_wr]
    exact Nat.mod_eq_of_lt (Nat.lt_trans (Nat.mod_lt _ (by decide)) (by decide))

/-- A request that the agent takes is held as it came. -/
theorem Hub.Canon.reqIn_holds (C : h.Canon) (slot : (List.range 64).find? (fun sl => !Tab.has sl h.usbHeld) = some sl)
    (act : h.rd USB.STAT_UPACT = 1) :
    let g := h.reqIn q data
    (Tab.find sl g.usbHeld).map UsbHeld.q = some q ∧ (Tab.find sl g.usbHeld).map UsbHeld.data = some data ∧
      (Tab.find sl g.usbHeld).map UsbHeld.naks = some 0 ∧ g.rd RHA.CNT_REQ_COUNT = h.oneMore RHA.CNT_REQ_COUNT ∧
      g.rd RHA.hNext = (q.reqseq + 1) % 65536 := by
  dsimp only
  rw [reqIn_eq slot, if_pos ((rd_reqHeld_apart (by decide)).trans act), reqHeld_held, Tab.find_ins_same]
  exact ⟨rfl, rfl, rfl, C.reqHeld_counts⟩

/-- A request to an agent that is not the hub's upstream ends at once. -/
theorem Hub.Canon.reqIn_ends (C : h.Canon) (slot : (List.range 64).find? (fun sl => !Tab.has sl h.usbHeld) = some sl)
    (act : h.rd USB.STAT_UPACT ≠ 1) :
    let g := h.reqIn q data
    (lastCpl g).map UsbCpl.status = some 9 ∧ (lastCpl g).map UsbCpl.reqseq = some q.reqseq ∧
      g.rd RHA.CNT_CPL_COUNT = h.oneMore RHA.CNT_CPL_COUNT := by
  rw [reqIn_eq slot, if_neg fun e => act ((rd_reqHeld_apart (by decide)).symm.trans e)]
  obtain ⟨st, seq⟩ := lastCpl_heldEnd (h := h.reqHeld q data sl) (sl := sl) (x := h.newHeld q data) (status := 9)
  refine ⟨st, seq, C.reqHeld.heldEnd_counts.trans ?_⟩
  rw [Hub.oneMore, rd_reqHeld_apart (by decide), Hub.oneMore]

end

/-- A REQ that the agent takes from the tunnel that it listens to. -/
theorem completes_req {s : State} {tid : Nat} {q : UsbReq} {data : Bytes} {Q : Hub → Prop} (ag : s.hub.agent = true)
    (valid : s.hub.on RHA.A_DTID_VALID = true) (from_ : s.hub.rd RHA.A_DTID_TID = tid) (dom : s.hub.domOn 2 = true)
    (post : Q (s.hub.reqIn q data)) : Completes (.req tid q data) s Q := by
  have mode : s.hub.session = false := by
    unfold Hub.agent at ag
    unfold Hub.session
    rw [Bool.and_eq_true, beq_iff_eq] at ag
    rw [ag.2]
    exact Bool.and_false _
  refine completes_when (p := fun h => h.domOn 2) (f := fun _ h => if h.session then h.stray
    else h.when (h.agent && h.on RHA.A_DTID_VALID && h.rd RHA.A_DTID_TID == tid) fun h => h.reqIn q data) rfl dom ?_
  rw [mode, if_neg Bool.false_ne_true, ag, valid, from_, beq_self_eq_true, Bool.and_self, Bool.and_self, Hub.when_true]
  exact post

/-! ### Transfers of a held request (R485, R486) -/

theorem heldHead_found {h : Hub} {sl : Nat} {x : UsbHeld} (e : h.heldHead sl = some x) : Tab.find sl h.usbHeld = some x := by
  unfold Hub.heldHead at e
  split at e
  · cases e
  · next found =>
    split at e
    · cases e
    · cases e
      exact found

/-! ### CPL_RECEIVED (R483, R486) -/

theorem Hub.Canon.stray_shows {h : Hub} (C : h.Canon) :
    h.stray.rd RHA.CNT_STRAY_COUNT = h.oneMore RHA.CNT_STRAY_COUNT ∧ h.stray.bit HDR.ESTAT 3 0xA2 = true :=
  ⟨(Hub.raise_rd (by decide)).trans C.rd_cnt, C.cnt.bit_raise rfl (by decide)⟩

section

variable {h : Hub} {r i status actual naks frame : Nat} {toggle : Bool}

/-- The two words of a descriptor that its completion fills. -/
def descWords (status actual naks frame : Nat) (toggle : Bool) : List Nat :=
  [status % 256 + actual % 8192 * 256 + bnat toggle * 2 ^ 24, min naks 65535 + frame % 65536 * 65536]

/-- A descriptor filled and free for software. -/
def Hub.descFilled (h : Hub) (r i : Nat) (ws : List Nat) : Hub := (h.setTwords (descAddr r i 6) ws).setTfld (descAddr r i 0) 0 1 0

theorem descDone_eq : h.descDone r i status actual naks frame toggle =
    let h2 := h.descFilled r i (descWords status actual naks frame toggle)
    (h2.wr RHA.RPTR_DONE (h2.rd RHA.RPTR_DONE 0 r + 1) 0 r).when (h2.tfld (descAddr r i 0) 1 1 == 1) fun h => h.irq 0xA2 0 := rfl

theorem Hub.Canon.descFilled (C : h.Canon) {ws : List Nat} : (h.descFilled r i ws).Canon := C.setTwords.setTfld

theorem rd_descFilled {ws : List Nat} {F : Fld} {j b : Nat} : (h.descFilled r i ws).rd F j b = h.rd F j b := rd_of_regs rfl F j b

theorem tab_descDone : (h.descDone r i status actual naks frame toggle).tab =
    (h.descFilled r i (descWords status actual naks frame toggle)).tab := by
  rw [descDone_eq]
  exact keep_when (P := fun g => g.tab = (h.descFilled r i (descWords status actual naks frame toggle)).tab)
    (fun g e => (Hub.irq_same.tab (by decide)).trans e) rfl

theorem Hub.Canon.descFilled_tfld (C : h.Canon) {ws : List Nat} : (h.descFilled r i ws).tfld (descAddr r i 0) 0 1 = 0 := by
  unfold Hub.descFilled Hub.tfld Hub.setTfld
  rw [C.setTwords.tword_setTword, bits_mod_word (by decide), bits_setBits_same]
  rfl

theorem Hub.Canon.descFilled_tword (C : h.Canon) {w v : Nat} (small : w < 2 ^ 32) : (h.descFilled r i [w, v]).tword (descAddr r i 6) = w := by
  have run := Tab.getRun_putRun_same 0 [w % 2 ^ 32, v % 2 ^ 32] (descAddr r i 6 / 4) C.tab.1
  have first : (h.setTwords (descAddr r i 6) [w, v]).tword (descAddr r i 6) = w % 2 ^ 32 := (List.cons.inj run).1
  unfold Hub.descFilled Hub.setTfld
  rw [tword_setTword_ne (by unfold descAddr; omega), first, Nat.mod_eq_of_lt small]

theorem Hub.Canon.rd_descDone (C : h.Canon) : (h.descDone r i status actual naks frame toggle).rd RHA.RPTR_DONE 0 r =
    (h.rd RHA.RPTR_DONE 0 r + 1) % 2 ^ RHA.RPTR_DONE.w := by
  rw [descDone_eq, rd_when_of_rd (rd_irq_place (by decide)), C.descFilled.rd_wr, rd_descFilled]

theorem rd_descDone_apart {F : Fld} {j b : Nat} (e : RHA.RPTR_DONE.place ≠ F.place) (e' : HDR.ISTAT.place ≠ F.place) :
    (h.descDone r i status actual naks frame toggle).rd F j b = h.rd F j b := by
  rw [descDone_eq, rd_when_of_rd (rd_irq_place e'), rd_wr_place e, rd_descFilled]

theorem descDone_fly : (h.descDone r i status actual naks frame toggle).usbFly = h.usbFly := by
  rw [descDone_eq]
  exact keep_when (P := fun g => g.usbFly = h.usbFly) (fun g e => (Hub.irq_same.usbFly (by decide)).trans e) rfl

end

/-- A CPL from another tunnel than its ring's is stray. -/
theorem cplIn_stray {h : Hub} {tid : Nat} {c : UsbCpl} {data : Bytes} (other : h.rd RHA.RUTID_TID 0 c.ring ≠ tid) :
    h.cplIn tid c data = h.stray := by
  unfold Hub.cplIn
  rw [if_pos (bne_iff_ne.2 other)]

/-- The data of a CPL stored in the pool. -/
def Hub.cplData (h : Hub) (x : UsbFlight) (c : UsbCpl) (data : Bytes) : Hub :=
  let buf := bits (h.tword (descAddr x.ring x.slot 1)) 16 12
  let n := min c.actual (min x.len data.length)
  let old := ofWords (h.twords (poolAddr buf) (8 * ceilDiv n 32))
  h.when (decide (0 < n)) fun h => h.setTwords (poolAddr buf) (unitWords (data.take n ++ old.drop n))

/-- The data of a CPL stored, and its request in flight no more. -/
def Hub.cplStored (h : Hub) (x : UsbFlight) (c : UsbCpl) (data : Bytes) : Hub :=
  { h.cplData x c data with usbFly := (h.cplData x c data).usbFly.erase x }.dec RHA.RPTR_INFLIGHT 1 0 x.ring

/-- A CPL of a request in flight, before the rings that waited go on. -/
def Hub.cplTaken (h : Hub) (x : UsbFlight) (c : UsbCpl) (data : Bytes) : Hub :=
  (((h.cplStored x c data).descDone x.ring x.slot c.status c.actual c.naks c.frame c.toggle).cnt RHA.CNT_CPL_COUNT).refreshHeld

theorem cplIn_taken {h : Hub} {c : UsbCpl} {data : Bytes} {x : UsbFlight}
    (fly : h.usbFly.find? (fun x => x.ring == c.ring && x.slot == c.slot && x.seq == c.reqseq) = some x) :
    h.cplIn (h.rd RHA.RUTID_TID 0 c.ring) c data = (h.cplTaken x c data).ringsGo := by
  unfold Hub.cplIn
  rw [bne_self_eq_false, if_neg Bool.false_ne_true, fly]
  rfl

section

variable {h : Hub} {x : UsbFlight} {c : UsbCpl} {data : Bytes}

theorem Hub.Canon.cplStored (C : h.Canon) : (h.cplStored x c data).Canon := by
  obtain ⟨regs, tab, fmem⟩ : (h.cplData x c data).Canon := by
    unfold Hub.cplData
    exact C.when C.setTwords
  exact Hub.Canon.dec (h := { h.cplData x c data with usbFly := (h.cplData x c data).usbFly.erase x }) ⟨regs, tab, fmem⟩

theorem cplStored_fly : (h.cplStored x c data).usbFly = h.usbFly.erase x := by
  have same : (h.cplData x c data).usbFly = h.usbFly := keep_when (P := fun g => g.usbFly = h.usbFly) (fun _ e => e) rfl
  exact congrArg (List.erase · x) same

theorem rd_cplStored {F : Fld} {i b : Nat} (e : RHA.RPTR_INFLIGHT.place ≠ F.place) : (h.cplStored x c data).rd F i b = h.rd F i b := by
  have same : (h.cplData x c data).rd F i b = h.rd F i b := rd_when_of_rd (rd_of_regs rfl F i b)
  rw [Hub.cplStored, rd_dec_place e]
  exact same

theorem tab_cplTaken : (h.cplTaken x c data).tab =
    ((h.cplStored x c data).descFilled x.ring x.slot (descWords c.status c.actual c.naks c.frame c.toggle)).tab := tab_descDone

theorem cplTaken_fly : (h.cplTaken x c data).usbFly = h.usbFly.erase x := (descDone_fly (h := h.cplStored x c data)).trans cplStored_fly

theorem descWord_lt (status actual : Nat) (toggle : Bool) : status % 256 + actual % 8192 * 256 + bnat toggle * 2 ^ 24 < 2 ^ 32 := by
  have bit : bnat toggle ≤ 1 := by cases toggle <;> decide
  omega

/-- What a CPL of a request in flight leaves. -/
theorem Hub.Canon.cplTaken_shows (C : h.Canon) :
    let g := h.cplTaken x c data
    g.usbFly = h.usbFly.erase x ∧ g.rd RHA.RPTR_DONE 0 x.ring = (h.rd RHA.RPTR_DONE 0 x.ring + 1) % 2 ^ RHA.RPTR_DONE.w ∧
      g.tfld (descAddr x.ring x.slot 0) 0 1 = 0 ∧
      g.tword (descAddr x.ring x.slot 6) = c.status % 256 + c.actual % 8192 * 256 + bnat c.toggle * 2 ^ 24 ∧
      g.rd RHA.CNT_CPL_COUNT = h.oneMore RHA.CNT_CPL_COUNT := by
  have S : (h.cplStored x c data).Canon := C.cplStored
  refine ⟨cplTaken_fly, ?_, ?_, ?_, ?_⟩
  · rw [Hub.cplTaken, Hub.refreshHeld, rd_wr_place (by decide), rd_cnt_place (by decide), S.rd_descDone, rd_cplStored (by decide)]
  · unfold Hub.tfld Hub.tword
    rw [tab_cplTaken]
    exact S.descFilled_tfld
  · unfold Hub.tword
    rw [tab_cplTaken]
    exact S.descFilled_tword (descWord_lt _ _ _)
  · have D : ((h.cplStored x c data).descDone x.ring x.slot c.status c.actual c.naks c.frame c.toggle).Canon := Hub.descDone_canon S
    rw [Hub.cplTaken, Hub.refreshHeld, rd_wr_place (by decide), D.rd_cnt, rd_descDone_apart (by decide) (by decide),
      rd_cplStored (by decide), Hub.oneMore]

theorem rd_cplTaken_rung {i b : Nat} : (h.cplTaken x c data).rd RHA.hRung i b = h.rd RHA.hRung i b := by
  rw [Hub.cplTaken, Hub.refreshHeld, rd_wr_place (by decide), rd_cnt_place (by decide), rd_descDone_apart (by decide) (by decide),
    rd_cplStored (by decide)]

end

/-- Where no ring waits, none goes on. -/
theorem ringsGo_idle {h : Hub} (idle : ∀ k < 256, h.on RHA.hRung 0 k = false) : h.ringsGo = h := by
  have none : ((List.range 256).filter fun r => h.on RHA.hRung 0 r) = [] :=
    List.filter_eq_nil_iff.2 fun r hr => by rw [idle r (List.mem_range.1 hr)]; exact Bool.false_ne_true
  unfold Hub.ringsGo
  rw [none]
  rfl

/-! ### BUSCTL_RECEIVED (R495) -/

section

variable {h : Hub}

/-- The bus at the agent, before it tells the session end. -/
def Hub.busSet (h : Hub) (op : Nat) : Hub :=
  let mine := h.rd USB.STAT_UPACT == 1
  if op = 1 then
    ((h.free.2.when mine fun h => h.usbReset 0).wr RHA.STAT_BUS 3).wr RHA.hResume (h.cyc + h.free.1 % 2 ^ 30)
  else if op = 2 then h.wr RHA.STAT_BUS 1
  else ((h.wr RHA.STAT_BUS 2).wr RHA.hResume (h.cyc + 8000000)).when mine Hub.busResume

theorem busctlIn_eq (h : Hub) (op : Nat) : h.busctlIn op = (h.busSet op).eventSend 2 false := rfl

/-- What the end of a held request writes. -/
def heldFlds : List Fld := [RHA.CNT_CPL_COUNT, RHA.hToggle, RHA.STAT_HELD]

theorem rd_heldDone_apart {F : Fld} {i b sl status actual frame : Nat} {x : UsbHeld} {toggle : Bool} {data : Bytes}
    (apart : ∀ G ∈ heldFlds, G.place ≠ F.place) : (h.heldDone sl x status actual frame toggle data).rd F i b = h.rd F i b := by
  unfold Hub.heldDone
  dsimp only
  rw [rd_setTfld, Hub.refreshHeld, rd_wr_place (apart _ (by decide)), rd_wr_place (apart _ (by decide)), rd_cnt_place (apart _ (by decide))]
  exact rd_when_of_rd (rd_of_regs rfl F i b)

theorem rd_heldEndAll_apart {F : Fld} {i b status : Nat} {c : UsbHeld → Bool} (apart : ∀ G ∈ heldFlds, G.place ≠ F.place) :
    (h.heldEndAll status c).rd F i b = h.rd F i b :=
  keep_each (P := fun g => g.rd F i b = h.rd F i b) (fun _ _ e => (rd_heldDone_apart apart).trans e) rfl

/-- A reset of the hub, and the requests that it ends, leave the agent's set-up alone. -/
theorem rd_usbReset_rha {F : Fld} {i b : Nat} (k : F.kind = Kind.rha) (apart : ∀ G ∈ heldFlds, G.place ≠ F.place) :
    (h.usbReset 0).rd F i b = h.rd F i b :=
  (rd_when_of_rd (rd_heldEndAll_apart apart)).trans (Hub.hubReset_rd (by rw [k]; decide))

theorem rd_busSet_rha {F : Fld} {i b op : Nat} (k : F.kind = Kind.rha) (apart : ∀ G ∈ RHA.STAT_BUS :: RHA.hResume :: heldFlds, G.place ≠ F.place) :
    (h.busSet op).rd F i b = h.rd F i b := by
  have held : ∀ G ∈ heldFlds, G.place ≠ F.place := fun G m => apart G (List.mem_cons_of_mem _ (List.mem_cons_of_mem _ m))
  unfold Hub.busSet
  dsimp only
  split
  · rw [rd_wr_place (apart _ (by decide)), rd_wr_place (apart _ (by decide)), rd_when_of_rd (rd_usbReset_rha k held)]
    exact rd_of_regs rfl F i b
  · split
    · rw [rd_wr_place (apart _ (by decide))]
    · rw [rd_when_of_rd (Hub.busResume_rd (by rw [k]; decide)), rd_wr_place (apart _ (by decide)), rd_wr_place (apart _ (by decide))]

theorem Hub.Canon.rd_busSet {op : Nat} (C : h.Canon) (low : 1 ≤ op) (high : op ≤ 3) :
    (h.busSet op).rd RHA.STAT_BUS = if op = 1 then 3 else op - 1 := by
  have F : h.free.2.Canon := Hub.free_canon C
  unfold Hub.busSet
  dsimp only
  split
  · rw [rd_wr_place (by decide), (F.when (Hub.usbReset_canon F)).rd_wr]
    rfl
  · split
    · next two => rw [C.rd_wr, two]; rfl
    · rw [rd_when_of_rd (Hub.busResume_rd (by decide)), rd_wr_place (by decide), C.rd_wr, show op = 3 by omega]
      rfl

theorem Hub.Canon.busctlIn_shows {op : Nat} (C : h.Canon) (low : 1 ≤ op) (high : op ≤ 3) :
    let g := h.busctlIn op
    g.rd RHA.STAT_BUS = (if op = 1 then 3 else op - 1) ∧
      g.usbOut.getLast? = some (h.rd RHA.A_UTID_TID, .event 2 (if op = 1 then 3 else op - 1) false g.oldest) ∧
      (h.rd USB.STAT_UPACT = 1 → (op = 1 → g.rd UDF.STAT_ADDR = 0) ∧ (op = 3 → g.rd USB.STAT_SUSPENDED = 0)) := by
  have bus := C.rd_busSet low high
  have F : h.free.2.Canon := Hub.free_canon C
  rw [busctlIn_eq]
  refine ⟨(Hub.eventSend_rd (by decide)).trans bus, ?_, fun mine => ⟨fun one => ?_, fun three => ?_⟩⟩
  · rw [eventSend_out, List.getLast?_append, List.getLast?_singleton, bus, rd_busSet_rha (by decide) (by decide)]
    rfl
  · rw [Hub.eventSend_rd (by decide), Hub.busSet, if_pos one, mine, beq_self_eq_true, Hub.when_true, rd_wr_place (by decide),
      rd_wr_place (by decide)]
    exact F.usbReset_hub_shows.2.2.1
  · rw [Hub.eventSend_rd (by decide), Hub.busSet, if_neg (by omega), if_neg (by omega), mine, beq_self_eq_true, Hub.when_true]
    exact C.wr.wr.busResume_shows.1

end

/-! ### EVENT and AGENT_LOST (R488) -/

section

variable {h : Hub}

/-- An event logged. -/
def Hub.eventLogged (h : Hub) (tid ev bus : Nat) (wake : Bool) : Hub :=
  (h.wr RHA.EVLOG_TID tid |>.wr RHA.EVLOG_EVENT ev |>.wr RHA.EVLOG_BUS bus |>.wr RHA.EVLOG_WAKE (bnat wake)).irq 0xA2 1

/-- A request in flight that an agent does not have any more. -/
def lostFly (x : UsbFlight) (h : Hub) : Hub := ((Hub.flyFail 10 x h).cnt RHA.CNT_LOST_COUNT).raise 0xA2 2

theorem eventIn_eq (h : Hub) (tid ev bus : Nat) (wake : Bool) (old : Nat) : h.eventIn tid ev bus wake old =
    let h1 := h.when (ev != 1) fun h => h.eventLogged tid ev bus wake
    (h1.each (h1.usbFly.filter fun x => x.utid == tid && decide ((old + 65535 - x.seq) % 65536 < 32768)) lostFly).ringsGo := rfl

theorem Hub.Alarm.lostFly {F : Fld} {m q : Nat} (A : h.Alarm F m q) {x : UsbFlight} : (lostFly x h).Alarm F m q :=
  ((RingKeeps.of_alarm.flyFail A).cnt (by decide)).raise

theorem rd_lostFly_apart {F : Fld} {i b : Nat} {x : UsbFlight} (C : h.Canon) (calm : F.Calm)
    (apart : ∀ G ∈ HDR.ISTAT :: ringFlds, G.place ≠ F.place) (lost : RHA.CNT_LOST_COUNT.place ≠ F.place) :
    (lostFly x h).Canon ∧ (lostFly x h).rd F i b = h.rd F i b := by
  obtain ⟨D, same⟩ := (RingKeeps.of_rd (F := F) (i := i) (b := b) (v := h.rd F i b) apart).flyFail (status := 10) (x := x) ⟨C, rfl⟩
  exact ⟨Hub.raise_canon D.cnt, (Hub.raise_rd calm).trans ((rd_cnt_place lost).trans same)⟩

theorem Hub.Canon.eventLogged_shows (C : h.Canon) (tid ev bus : Nat) (wake : Bool) :
    let g := h.eventLogged tid ev bus wake
    g.rd RHA.EVLOG_TID = tid % 2 ^ RHA.EVLOG_TID.w ∧ g.rd RHA.EVLOG_EVENT = ev % 2 ^ RHA.EVLOG_EVENT.w ∧
      g.rd RHA.EVLOG_BUS = bus % 2 ^ RHA.EVLOG_BUS.w ∧ g.rd RHA.EVLOG_WAKE = bnat wake ∧ g.Alarm HDR.ISTAT 1 0xA2 := by
  unfold Hub.eventLogged
  refine ⟨?_, ?_, ?_, ?_, C.wr.wr.wr.wr.alarm_irq rfl (by decide)⟩
  · simp +decide only [rd_irq_place, rd_wr_place, C.rd_wr]
  · simp +decide only [rd_irq_place, rd_wr_place, C.wr.rd_wr]
  · simp +decide only [rd_irq_place, rd_wr_place, C.wr.wr.rd_wr]
  · rw [rd_irq_place (by decide), C.wr.wr.wr.rd_wr]
    cases wake <;> rfl

/-- An event other than ALIVE is logged. -/
theorem Hub.Canon.eventIn_logs (C : h.Canon) (tid ev bus : Nat) (wake : Bool) (old : Nat) (told : ev ≠ 1) :
    let g := h.eventIn tid ev bus wake old
    g.rd RHA.EVLOG_TID = tid % 2 ^ RHA.EVLOG_TID.w ∧ g.rd RHA.EVLOG_EVENT = ev % 2 ^ RHA.EVLOG_EVENT.w ∧
      g.rd RHA.EVLOG_BUS = bus % 2 ^ RHA.EVLOG_BUS.w ∧ g.rd RHA.EVLOG_WAKE = bnat wake ∧ g.bit HDR.ISTAT 1 0xA2 = true := by
  obtain ⟨t, e, b, w, A⟩ := C.eventLogged_shows tid ev bus wake
  have shape : h.eventIn tid ev bus wake old = ((h.eventLogged tid ev bus wake).each ((h.eventLogged tid ev bus wake).usbFly.filter fun x =>
      x.utid == tid && decide ((old + 65535 - x.seq) % 65536 < 32768)) lostFly).ringsGo := by
    rw [eventIn_eq, bne_iff_ne.2 told, Hub.when_true]
  have kept {F : Fld} (calm : F.Calm) (apart : ∀ G ∈ HDR.ISTAT :: ringFlds, G.place ≠ F.place) (lost : RHA.CNT_LOST_COUNT.place ≠ F.place) :
      (h.eventIn tid ev bus wake old).rd F = (h.eventLogged tid ev bus wake).rd F := by
    rw [shape]
    exact ((RingKeeps.of_rd (F := F) apart).ringsGo (keep_each
      (P := fun g => g.Canon ∧ g.rd F = (h.eventLogged tid ev bus wake).rd F)
      (fun x g H => (rd_lostFly_apart (x := x) H.1 calm apart lost).imp_right fun e => e.trans H.2)
      ⟨A.canon, rfl⟩)).2
  refine ⟨(kept (by decide) (by decide) (by decide)).trans t, (kept (by decide) (by decide) (by decide)).trans e,
    (kept (by decide) (by decide) (by decide)).trans b, (kept (by decide) (by decide) (by decide)).trans w, ?_⟩
  rw [shape]
  exact (RingKeeps.of_alarm.ringsGo (A.each fun _ _ A => A.lostFly)).bit

/-- A request that the agent does not have any more is lost. -/
theorem Hub.Canon.eventIn_loses (C : h.Canon) (tid bus : Nat) (wake : Bool) (old : Nat) {x : UsbFlight}
    (one : (h.usbFly.filter fun x => x.utid == tid && decide ((old + 65535 - x.seq) % 65536 < 32768)) = [x]) :
    let g := h.eventIn tid 1 bus wake old
    g.rd RHA.CNT_LOST_COUNT = h.oneMore RHA.CNT_LOST_COUNT ∧ g.bit HDR.ESTAT 2 0xA2 = true := by
  have shape : h.eventIn tid 1 bus wake old = (lostFly x h).ringsGo := by
    rw [eventIn_eq, bne_self_eq_false, Hub.when_false]
    dsimp only
    rw [one]
    rfl
  have apart : ∀ G ∈ HDR.ISTAT :: ringFlds, G.place ≠ RHA.CNT_LOST_COUNT.place := by decide
  obtain ⟨D, same⟩ := (RingKeeps.of_rd (i := 0) (b := 0) (v := h.rd RHA.CNT_LOST_COUNT) apart).flyFail (status := 10) (x := x) ⟨C, rfl⟩
  have lost : (lostFly x h).rd RHA.CNT_LOST_COUNT = h.oneMore RHA.CNT_LOST_COUNT := by
    rw [lostFly, Hub.raise_rd (by decide), D.rd_cnt, same, Hub.oneMore]
  have A : (lostFly x h).Alarm HDR.ESTAT 2 0xA2 := D.cnt.alarm_raise rfl (by decide)
  rw [shape]
  exact ⟨((RingKeeps.of_rd apart).ringsGo ⟨A.canon, lost⟩).2, (RingKeeps.of_alarm.ringsGo A).bit⟩

theorem flyFail_fly {status : Nat} {x : UsbFlight} : (Hub.flyFail status x h).usbFly = h.usbFly.erase x := by
  unfold Hub.flyFail Hub.descFail
  exact descDone_fly

/-- The requests in flight of a silent agent all end. -/
theorem each_flyFail_fly {status : Nat} (l : List UsbFlight) : (h.each l (Hub.flyFail status)).usbFly = h.usbFly.diff l := by
  induction l generalizing h with
  | nil => rfl
  | cons x l ih =>
    rw [List.diff_cons, ← flyFail_fly (status := status)]
    exact ih

theorem mem_diff_filter {l : List UsbFlight} {p : UsbFlight → Bool} {x : UsbFlight} (m : x ∈ l.diff (l.filter p)) : p x = false := by
  by_contra e
  have sat : p x = true := by simpa using e
  have counted : (l.diff (l.filter p)).count x = 0 := by
    rw [List.count_diff, List.count_filter sat, Nat.sub_self]
  exact List.count_pos_iff.2 m |>.ne' counted

theorem Hub.Canon.agentLost_shows (C : h.Canon) (tid : Nat) (c : Cap) :
    let g := ((h.each (h.usbFly.filter fun x => x.utid == tid) (Hub.flyFail 11)).raise 0xA2 1 c).irq 0xA2 2
    g.bit HDR.ESTAT 1 0xA2 = true ∧ g.bit HDR.ISTAT 2 0xA2 = true ∧ (g.usbFly.all fun x => x.utid != tid) = true := by
  have D : (h.each (h.usbFly.filter fun x => x.utid == tid) (Hub.flyFail 11)).Canon := keep_each (fun _ _ C => Hub.flyFail_canon C) C
  refine ⟨(D.alarm_raise rfl (by decide)).irq.bit, (Hub.raise_canon D).bit_irq rfl (by decide), ?_⟩
  rw [Hub.irq_same.usbFly (by decide), Hub.raise_same.usbFly (by decide), each_flyFail_fly, List.all_eq_true]
  intro x m
  have gone := mem_diff_filter (p := fun x => x.utid == tid) m
  exact bne_iff_ne.2 (beq_eq_false_iff_ne.1 gone)

end


theorem exec_agentLost (tid : Nat) (s : State) : exec (.agentLost tid) s = s.act fun h => h.when (h.session &&
    (List.range 256).any fun r => h.on RHA.RCFG_EN 0 r && h.rd RHA.RUTID_TID 0 r == tid) fun h =>
      ((h.each (h.usbFly.filter fun x => x.utid == tid) (Hub.flyFail 11)).raise 0xA2 1 { lo := tid }).irq 0xA2 2 := rfl

end Sys2Proof.Machine

open Sys2Proof Sys2Proof.Machine

/-- Settles O19, clause by clause: what the agent holds and answers, and what the session end sends and gives back. -/
theorem usbAgentCommandsComplete : Obligations.UsbAgentCommandsComplete := by
  intro s I
  have C : s.hub.Canon := I
  have CL (m : MasterId) : (s.hub.dropLatch m).Canon := C.dropLatch
  refine ⟨?idle, ?sends, ?held, ?refused, ?nak, ?timeout, ?done, ?stray, ?taken, ?cancel, ?cancelled, ?busctl, ?bus, ?logged, ?lost,
    ?alive, ?silent⟩
  case idle =>
    intro r ring G off
    refine completes_go (f := fun h => (h.wr RHA.DB_RING ring).when h.session fun h => Hub.ringSend ring 16 (h.wr RHA.hRung 1 0 ring)) rfl G ?_
    have off' : (s.hub.dropLatch r.master).session = false := off
    have shape : (s.hub.written r fun h => (h.wr RHA.DB_RING ring).when h.session fun h => Hub.ringSend ring 16 (h.wr RHA.hRung 1 0 ring)) =
        s.hub.written r fun h => h.wr RHA.DB_RING ring := by
      unfold Hub.written
      dsimp only
      rw [off', Hub.when_false]
    rw [shape]
    exact ⟨(CL r.master).rd_wr.trans (Nat.mod_eq_of_lt ring.isLt), rfl⟩
  case sends =>
    intro r ring i w G mode en head words owned room len fits mine bulk dir
    subst head words
    rw [getD_desc _ _ _ (by decide)] at owned len fits
    have mode' : (s.hub.dropLatch r.master).session = true := mode
    have shape : (s.hub.written r fun h => (h.wr RHA.DB_RING ring).when h.session fun h => Hub.ringSend ring 16 (h.wr RHA.hRung 1 0 ring)) =
        s.hub.written r fun h => Hub.ringSend ring 16 (h.rung ring) := by
      unfold Hub.written
      dsimp only
      rw [mode', Hub.when_true]
      rfl
    refine completes_go (f := fun h => (h.wr RHA.DB_RING ring).when h.session fun h => Hub.ringSend ring 16 (h.wr RHA.hRung 1 0 ring)) rfl G ?_
    rw [shape, getD_desc _ _ _ (by decide), getD_desc _ _ _ (by decide), getD_desc _ _ _ (by decide)]
    exact ringSend_rung (h := s.hub.dropLatch r.master) owned room en len fits mine bulk dir
  case held => exact fun tid q data sl ag valid tun dom act slot => completes_req ag valid tun dom (C.reqIn_holds slot act)
  case refused => exact fun tid q data sl ag valid tun dom act slot => completes_req ag valid tun dom (C.reqIn_ends slot act)
  case nak =>
    intro slot x ag idle head
    refine completes_when (p := fun h => h.agent && h.rd RHA.STAT_BUS == 0) (f := fun _ h => match h.heldHead slot with
      | some x => { h with usbHeld := Tab.ins slot.val { x with naks := min 65535 (x.naks + 1) } h.usbHeld }.cnt RHA.CNT_NAK_COUNT
      | none => h) rfl (by rw [ag, idle]; rfl) ?_
    rw [head]
    exact ⟨Tab.find_ins_same _ _ _, Hub.Canon.rd_cnt (h := { s.hub with usbHeld := _ }) ⟨C.regs, C.tab, C.fmem⟩⟩
  case timeout =>
    intro slot x ag idle head limit
    refine completes_when (p := fun h => h.agent && h.rd RHA.STAT_BUS == 0) (f := fun _ h => match h.heldHead slot with
      | some x => if x.q.tmoMs = 0 then h else Hub.heldEnd 3 (slot.val, x) h
      | none => h) rfl (by rw [ag, idle]; rfl) ?_
    rw [head]
    dsimp only
    rw [if_neg limit]
    exact ⟨lastCpl_heldEnd.1, lastCpl_heldEnd.2, heldEnd_held, C.heldEnd_counts⟩
  case done =>
    intro slot status actual toggle frame data x ag idle head
    refine completes_when (p := fun h => h.agent && h.rd RHA.STAT_BUS == 0) (f := fun _ h => match h.heldHead slot with
      | some x => h.heldDone slot x status actual frame toggle (if x.q.isIn then data.take actual else [])
      | none => h) rfl (by rw [ag, idle]; rfl) ?_
    rw [head]
    exact ⟨heldDone_held, heldDone_out, C.heldDone_counts⟩
  case stray =>
    exact fun tid c data mode dom other => completes_when (p := fun h => h.session && h.domOn 2) (f := fun _ h => h.cplIn tid c data) rfl
      (by rw [mode, dom]; rfl) (by rw [cplIn_stray other]; exact C.stray_shows)
  case taken =>
    intro tid c data x mode dom tun fly idle
    subst tun
    refine completes_when (p := fun h => h.session && h.domOn 2) (f := fun _ h => h.cplIn (s.hub.rd RHA.RUTID_TID 0 c.ring) c data) rfl
      (by rw [mode, dom]; rfl) ?_
    rw [cplIn_taken fly, ringsGo_idle fun k hk => by
      unfold Hub.on
      rw [rd_cplTaken_rung]
      exact idle k hk]
    exact C.cplTaken_shows
  case cancel =>
    exact fun r v x G set mode fly => completes_go (f := fun h => h.cancelAsk v) rfl G ((CL r.master).cancelAsk_shows set mode fly)
  case cancelled =>
    intro tid ring slot reqseq sl x ag dom valid tun one
    refine completes_when (p := fun h => h.agent && h.domOn 2 && h.on RHA.A_DTID_VALID && h.rd RHA.A_DTID_TID == tid)
      (f := fun _ h => h.heldEndAll 6 fun x => x.q.ring == ring && x.q.slot == slot && x.q.reqseq == reqseq) rfl
      (by rw [ag, dom, valid, tun, beq_self_eq_true]; rfl) ?_
    have found : (sl, x) ∈ s.hub.heldList.filter fun p => p.2.q.ring == ring && p.2.q.slot == slot && p.2.q.reqseq == reqseq := by
      rw [one]
      exact List.mem_singleton_self _
    have seq : x.q.reqseq = reqseq := by
      have named := (List.mem_filter.1 found).2
      rw [Bool.and_eq_true, beq_iff_eq] at named
      exact named.2
    have shape : s.hub.heldEndAll 6 (fun x => x.q.ring == ring && x.q.slot == slot && x.q.reqseq == reqseq) = Hub.heldEnd 6 (sl, x) s.hub := by
      unfold Hub.heldEndAll
      rw [one]
      rfl
    rw [shape, ← seq]
    exact ⟨heldEnd_held, lastCpl_heldEnd⟩
  case busctl =>
    exact fun r v G go op mode => completes_go (f := fun h => h.busAsk v) rfl G ((CL r.master).busAsk_shows go op mode)
  case bus =>
    exact fun tid op ag dom valid tun low high => completes_when
      (p := fun h => h.agent && h.domOn 2 && h.on RHA.A_DTID_VALID && h.rd RHA.A_DTID_TID == tid && decide (1 ≤ op ∧ op ≤ 3))
      (f := fun _ h => h.busctlIn op) rfl (by rw [ag, dom, valid, tun, beq_self_eq_true, decide_eq_true ⟨low, high⟩]; rfl)
      (C.busctlIn_shows low high)
  case logged =>
    exact fun tid ev bus wake old mode dom told => completes_when (p := fun h => h.session && h.domOn 2)
      (f := fun _ h => h.eventIn tid ev bus wake old) rfl (by rw [mode, dom]; rfl) (C.eventIn_logs tid ev bus wake old told)
  case lost =>
    exact fun tid bus wake old x mode dom one => completes_when (p := fun h => h.session && h.domOn 2)
      (f := fun _ h => h.eventIn tid 1 bus wake old) rfl (by rw [mode, dom]; rfl) (C.eventIn_loses tid bus wake old one)
  case alive =>
    intro ag some_
    refine completes_when (p := fun h => h.agent && (!h.usbHeld.isEmpty || h.on RHA.A_DTID_VALID)) (f := fun _ h => h.eventSend 1 false) rfl
      ?_ (eventSend_out _ _ _)
    rw [ag, Bool.true_and, Bool.or_eq_true, Bool.not_eq_true', List.isEmpty_eq_false_iff]
    exact some_
  case silent =>
    intro tid ring mode en tun
    refine completes_when (exec_agentLost tid s) ?_ (C.agentLost_shows tid _)
    rw [mode, Bool.true_and, List.any_eq_true]
    exact ⟨ring, List.mem_range.2 ring.isLt, by rw [en, tun, beq_self_eq_true]; rfl⟩
end

section
/-! PROOFS. The Type-C ports: the operations that their commands share (R533 to R536, R540). -/

namespace Sys2Proof.Machine

open Sys2Proof

/-! ### Messages -/

section

variable {h : Hub} {k : Nat} {m : PdOut}

theorem rd_pdSend {F : Fld} {i b : Nat} : (h.pdSend k m).rd F i b = h.rd F i b := rfl

theorem Hub.Canon.pdSend (C : h.Canon) : (h.pdSend k m).Canon := ⟨C.regs, C.tab, C.fmem⟩

theorem pdSend_out : Tab.get [] k (h.pdSend k m).pdOut = Tab.get [] k h.pdOut ++ [m] := get_put_concat _ _ _ _

/-- The messages that a port has sent, and no other state, may differ. -/
abbrev Hub.PdAlone (h g : Hub) : Prop := (kindMask [Kind.pdOut]).testBit 511 = false → Hub.Same (kindMask [Kind.pdOut]) h g

theorem pdAlone_refl (h : Hub) : h.PdAlone h := fun _ => Hub.Same.refl _ _

theorem Hub.PdAlone.pdSend {g : Hub} (A : h.PdAlone g) : h.PdAlone (g.pdSend k m) :=
  Hub.pdSend_keeps (bears_same _ h) (by unfold Sub; decide +kernel) A

/-- A message changes nothing but what the port has sent. -/
theorem pdSend_sameBut : Hub.SameBut [Kind.pdOut] h (h.pdSend k m) :=
  Hub.Same.sameBut (pdAlone_refl h).pdSend

end

/-! ### The bus converters (R509, R535, R536) -/

section

variable {h : Hub}

/-- The bus as its feeds stand. -/
def Hub.busFed (h : Hub) : Hub :=
  let sinks := (List.range 8).filter fun n => h.rd CLP.STAT_ROLE n == 2 && h.on CLP.STAT_SW n
  let inRange := decide (44000 ≤ h.rd BUS.VBUS_MV ∧ h.rd BUS.VBUS_MV ≤ 57000)
  h.each (List.range 8) fun n h =>
    (h.wr CLP.STAT_POWER_OK (bnat (inRange && (h.on BUS.STAT_LOCAL || h.on BUS.STAT_BATT || sinks.any (· != n)))) n
      |>.wr CLP.STAT_UPSTREAM (bnat (h.widthWins n)) n) |> Hub.refreshArmed n

theorem refreshBus_eq (h : Hub) :
    h.refreshBus = ((Hub.refreshVen 1 (Hub.refreshVen 0 h.busFed)).refreshAlloc).each (List.range 8) Hub.refreshCause := rfl

/-- What the converter of a port writes. -/
def venFlds : List Fld := [TCP.hVen, TCP.STAT_CONTRACT, TCP.RDO_PDO, TCP.RDO_CUR]

/-- Field `F` of a Type-C port is none that follows the node bus. -/
abbrev Fld.OffBus (F : Fld) : Prop :=
  F.kind = Kind.tcp ∧ ∀ G ∈ CLP.STAT_POWER_OK :: CLP.STAT_UPSTREAM :: venFlds, G.place ≠ F.place

theorem rd_busFed_tcp {F : Fld} {i b : Nat} (tcp : F.kind = Kind.tcp) (e : CLP.STAT_POWER_OK.place ≠ F.place)
    (e' : CLP.STAT_UPSTREAM.place ≠ F.place) : h.busFed.rd F i b = h.rd F i b := by
  refine keep_each (P := fun g => g.rd F i b = h.rd F i b) (fun n g same => ?_) rfl
  rw [Hub.refreshArmed_rd (by rw [tcp]; decide), rd_wr_place e', rd_wr_place e, same]

theorem Hub.Canon.busFed (C : h.Canon) : h.busFed.Canon := keep_each (fun _ _ C => Hub.refreshArmed_canon C.wr.wr) C

theorem rd_refreshVen_apart {k : Nat} {F : Fld} {i b : Nat} (apart : ∀ G ∈ venFlds, G.place ≠ F.place) :
    (Hub.refreshVen k h).rd F i b = h.rd F i b := by
  unfold Hub.refreshVen
  dsimp only
  rw [rd_when_of_rd, rd_wr_place (apart _ (by decide))]
  rw [rd_wr_place (apart _ (by decide)), rd_wr_place (apart _ (by decide)), rd_wr_place (apart _ (by decide))]

/-- After the converters, what hangs on the bus leaves the ports alone. -/
theorem rd_refreshBus_of_ven {F : Fld} {i b : Nat} (tcp : F.kind = Kind.tcp) :
    h.refreshBus.rd F i b = (Hub.refreshVen 1 (Hub.refreshVen 0 h.busFed)).rd F i b := by
  rw [refreshBus_eq]
  exact keep_each (P := fun g => g.rd F i b = (Hub.refreshVen 1 (Hub.refreshVen 0 h.busFed)).rd F i b)
    (fun n g e => (Hub.refreshCause_rd (by rw [tcp]; decide)).trans e) (Hub.refreshAlloc_rd (by rw [tcp]; decide))

theorem rd_refreshBus_apart {F : Fld} {i b : Nat} (off : F.OffBus) : h.refreshBus.rd F i b = h.rd F i b := by
  obtain ⟨tcp, apart⟩ := off
  have ven : ∀ G ∈ venFlds, G.place ≠ F.place := fun G m => apart G (List.mem_cons_of_mem _ (List.mem_cons_of_mem _ m))
  rw [rd_refreshBus_of_ven tcp, rd_refreshVen_apart ven, rd_refreshVen_apart ven, rd_busFed_tcp tcp (apart _ (by decide)) (apart _ (by decide))]

/-- A contract that has ended does not come back with the bus. -/
theorem Hub.Canon.refreshVen_ended (C : h.Canon) {k : Nat} {i : Nat} (none : h.rd TCP.STAT_CONTRACT i = 0) :
    (Hub.refreshVen k h).rd TCP.STAT_CONTRACT i = 0 := by
  have off {g : Hub} (D : g.Canon) (e : g.rd TCP.STAT_CONTRACT i = 0) : (g.wr TCP.STAT_CONTRACT 0 k).rd TCP.STAT_CONTRACT i = 0 := by
    by_cases q : k = i
    · subst q
      exact D.rd_wr
    · rw [rd_wr_inst (by omega), e]
  have ven (v : Nat) : (h.wr TCP.hVen v k).rd TCP.STAT_CONTRACT i = 0 := (rd_wr_place (by decide)).trans none
  unfold Hub.refreshVen
  dsimp only
  refine keep_when (P := fun g => g.Canon ∧ g.rd TCP.STAT_CONTRACT i = 0) (fun g e => ⟨e.1.wr.wr.wr, ?_⟩) ⟨C.wr, ven _⟩ |>.2
  rw [rd_wr_place (by decide), rd_wr_place (by decide), off e.1 e.2]

theorem Hub.Canon.refreshBus_ended (C : h.Canon) {i : Nat} (none : h.rd TCP.STAT_CONTRACT i = 0) :
    h.refreshBus.rd TCP.STAT_CONTRACT i = 0 := by
  have fed : h.busFed.rd TCP.STAT_CONTRACT i = 0 := (rd_busFed_tcp (by decide) (by decide) (by decide)).trans none
  rw [rd_refreshBus_of_ven (by decide)]
  exact (Hub.refreshVen_canon C.busFed).refreshVen_ended (C.busFed.refreshVen_ended fed)

/-- The converter of a port whose supply was cut is off. -/
theorem Hub.Canon.refreshVen_cut (C : h.Canon) {k : Nat} (cut : h.on TCP.hCut k = true) : (Hub.refreshVen k h).rd TCP.hVen k = 0 := by
  unfold Hub.refreshVen
  dsimp only
  rw [cut, Bool.not_true, Bool.and_false, Bool.false_and]
  have off : (h.wr TCP.hVen (bnat false) k).rd TCP.hVen k = 0 := C.rd_wr
  exact keep_when (P := fun g => g.rd TCP.hVen k = 0)
    (fun g e => (rd_wr_place (by decide)).trans ((rd_wr_place (by decide)).trans ((rd_wr_place (by decide)).trans e))) off

theorem refreshVen_other {k i : Nat} (e : k ≠ i) : (Hub.refreshVen k h).rd TCP.hVen i = h.rd TCP.hVen i := by
  unfold Hub.refreshVen
  dsimp only
  rw [rd_when_of_rd, rd_wr_inst (by omega)]
  rw [rd_wr_place (by decide), rd_wr_place (by decide), rd_wr_place (by decide)]

theorem Hub.Canon.refreshBus_cut (C : h.Canon) (k : Fin 2) (cut : h.on TCP.hCut k = true) : h.refreshBus.rd TCP.hVen k = 0 := by
  have fed : h.busFed.on TCP.hCut k = true := (on_of_rd (rd_busFed_tcp (by decide) (by decide) (by decide))).trans cut
  rw [rd_refreshBus_of_ven (by decide)]
  rcases (by omega : k.val = 0 ∨ k.val = 1) with e | e <;> rw [e] at fed ⊢
  · exact (refreshVen_other (by decide)).trans (C.busFed.refreshVen_cut fed)
  · exact (Hub.refreshVen_canon C.busFed).refreshVen_cut ((on_of_rd (rd_refreshVen_apart (by decide))).trans fed)

/-- What hangs on the node bus leaves the alarms alone. -/
theorem Hub.Alarm.refreshBus {F : Fld} {m q : Nat} (A : h.Alarm F m q) : h.refreshBus.Alarm F m q :=
  A.of_rd (Hub.refreshBus_canon A.canon) (Hub.refreshBus_rd (by rcases A.fld with rfl | rfl <;> decide))

end

/-! ### The partner's contract, modes and role (R533, R537, R540) -/

section

variable {h : Hub} {k : Fin 2}

theorem Hub.Canon.pdDrop (C : h.Canon) {n : Nat} : (h.pdDrop n).Canon := C.wr.wr.wr

theorem Hub.Canon.rd_pdDrop (C : h.Canon) {n : Nat} : (h.pdDrop n).rd TCP.STAT_CONTRACT n = 0 := by
  unfold Hub.pdDrop
  rw [rd_wr_place (by decide), rd_wr_place (by decide), C.rd_wr]
  rfl

theorem rd_pdDrop_apart {n : Nat} {F : Fld} {i b : Nat} (apart : ∀ G ∈ [TCP.STAT_CONTRACT, TCP.RDO_PDO, TCP.RDO_CUR], G.place ≠ F.place) :
    (h.pdDrop n).rd F i b = h.rd F i b := by
  unfold Hub.pdDrop
  rw [rd_wr_place (apart _ (by decide)), rd_wr_place (apart _ (by decide)), rd_wr_place (apart _ (by decide))]

/-- The Alt Mode of port `k` ended at the port. -/
def Hub.altEnded (h : Hub) (k : Fin 2) : Hub := h.wr TCP.STAT_ALTMODE 0 k |>.wr TCP.STAT_PIN_D 0 k |>.wr TCP.hMode 0 k

theorem altExit_eq (h : Hub) (k : Fin 2) : h.altExit k = (h.altEnded k).when (h.on TCP.STAT_ALTMODE k && h.up (0x75 + k)) fun h =>
    (h.wr DCP.LINK_PIN_D 0 k).when (h.on DCP.LINK_TRAINED k) fun h => h.captureCause k 0 0 0 0 := rfl

theorem Hub.Canon.altEnded (C : h.Canon) : (h.altEnded k).Canon := C.wr.wr.wr

theorem rd_altExit_of_ended {F : Fld} {i b : Nat} (tcp : F.kind = Kind.tcp) (e : DCP.LINK_PIN_D.place ≠ F.place) :
    (h.altExit k).rd F i b = (h.altEnded k).rd F i b := by
  rw [altExit_eq]
  refine rd_when_of_rd ((rd_when_of_rd ?_).trans (rd_wr_place e))
  exact Hub.captureCause_rd (by rw [tcp]; decide)

theorem Hub.Canon.rd_altExit (C : h.Canon) : (h.altExit k).rd TCP.STAT_ALTMODE k = 0 ∧ (h.altExit k).rd TCP.hMode k = 0 := by
  rw [rd_altExit_of_ended (by decide) (by decide), rd_altExit_of_ended (by decide) (by decide), Hub.altEnded, rd_wr_place (by decide),
    rd_wr_place (by decide), C.rd_wr, C.wr.wr.rd_wr]
  exact ⟨rfl, rfl⟩

/-- What the end of an Alt Mode writes at the port. -/
def altFlds : List Fld := [TCP.STAT_ALTMODE, TCP.STAT_PIN_D, TCP.hMode]

theorem rd_altExit_apart {F : Fld} {i b : Nat} (tcp : F.kind = Kind.tcp) (apart : ∀ G ∈ DCP.LINK_PIN_D :: altFlds, G.place ≠ F.place) :
    (h.altExit k).rd F i b = h.rd F i b := by
  rw [rd_altExit_of_ended tcp (apart _ (by decide)), Hub.altEnded, rd_wr_place (apart _ (by decide)), rd_wr_place (apart _ (by decide)),
    rd_wr_place (apart _ (by decide))]

/-- A captured link that ends leaves the alarms alone. -/
theorem Hub.Alarm.captureCause {F : Fld} {m q : Nat} (A : h.Alarm F m q) : (h.captureCause k 0 0 0 0).Alarm F m q := by
  have dropped : (h.captureDrop k).Alarm F m q :=
    A.of_rd (Hub.captureDrop_canon A.canon) (Hub.captureDrop_rd (by rcases A.fld with rfl | rfl <;> decide))
  exact (((dropped.wr (by decide)).wr (by decide)).wr (by decide)).raise

theorem Hub.Alarm.altExit {F : Fld} {m q : Nat} (A : h.Alarm F m q) : (h.altExit k).Alarm F m q := by
  have ended : (h.altEnded k).Alarm F m q := ((A.wr (by decide)).wr (by decide)).wr (by decide)
  rw [altExit_eq]
  exact ended.when ((ended.wr (by decide)).when (ended.wr (by decide)).captureCause)

theorem rd_pdMeasure_apart {n : Nat} {F : Fld} {i b : Nat} (apart : ∀ G ∈ [TCP.VBUS_MV, TCP.IBUS_MA], G.place ≠ F.place) :
    (h.pdMeasure n).rd F i b = h.rd F i b :=
  (rd_wrFree_place (apart _ (by decide))).trans (rd_wrFree_place (apart _ (by decide)))

theorem rd_pdFollow_apart {detach : Bool} {F : Fld} {i b : Nat} (off : F.OffBus) : (h.pdFollow detach).rd F i b = h.rd F i b := by
  unfold Hub.pdFollow
  rw [Hub.refreshUp_rd (by rw [off.1]; decide), rd_refreshBus_apart off]

theorem Hub.Alarm.pdFollow {F : Fld} {m q : Nat} (A : h.Alarm F m q) {detach : Bool} : (h.pdFollow detach).Alarm F m q :=
  A.refreshBus.refreshUp

/-! ### What follows every change at a port -/

/-- The port measured anew, and the hub and the node bus as its state is now. -/
def Hub.portFollows (h : Hub) (n : Nat) (detach : Bool) : Hub := (h.pdMeasure n).pdFollow detach

/-- Field `F` of a Type-C port is none that is measured or follows the node bus. -/
abbrev Fld.OffPort (F : Fld) : Prop := F.OffBus ∧ ∀ G ∈ [TCP.VBUS_MV, TCP.IBUS_MA], G.place ≠ F.place

variable {n : Nat} {detach : Bool}

theorem Hub.Canon.portFollows (C : h.Canon) : (h.portFollows n detach).Canon := Hub.pdFollow_canon (Hub.pdMeasure_canon C)

theorem rd_portFollows_apart {F : Fld} {i b : Nat} (off : F.OffPort) : (h.portFollows n detach).rd F i b = h.rd F i b :=
  (rd_pdFollow_apart off.1).trans (rd_pdMeasure_apart off.2)

theorem Hub.Canon.portFollows_ended (C : h.Canon) {i : Nat} (none : h.rd TCP.STAT_CONTRACT i = 0) :
    (h.portFollows n detach).rd TCP.STAT_CONTRACT i = 0 := by
  unfold Hub.portFollows Hub.pdFollow
  rw [Hub.refreshUp_rd (by decide)]
  exact (Hub.pdMeasure_canon C).refreshBus_ended ((rd_pdMeasure_apart (by decide)).trans none)

theorem portFollows_out : (h.portFollows n detach).pdOut = h.pdOut :=
  (Hub.pdFollow_same.pdOut (by decide)).trans (Hub.pdMeasure_same.pdOut (by decide))

theorem Hub.Alarm.portFollows {F : Fld} {m q : Nat} (A : h.Alarm F m q) : (h.portFollows n detach).Alarm F m q :=
  ((A.wrFree (by decide)).wrFree (by decide)).pdFollow

/-- Kinds of state that a change at a Type-C port leaves alone. -/
theorem rd_portFollows_kind {F : Fld} {i b : Nat} (e : F.kind ∈ [Kind.pdm, Kind.nodeState, Kind.aon]) :
    (h.portFollows n detach).rd F i b = h.rd F i b := by
  have off : ∀ m ∈ [0x140000000002808000000000004000000000000101010100070000000000010000000000000000000000000400,
      0x800000000000000000000000000000010000000000000000000000000000000000000000000000], Nat.testBit m F.kind = false :=
    fun m hm => (by decide : ∀ k ∈ [Kind.pdm, Kind.nodeState, Kind.aon], ∀ m ∈
      [0x140000000002808000000000004000000000000101010100070000000000010000000000000000000000000400,
        0x800000000000000000000000000000010000000000000000000000000000000000000000000000], Nat.testBit m k = false) _ e m hm
  exact (Hub.pdFollow_rd (off _ (by decide))).trans (Hub.pdMeasure_rd (off _ (by decide)))

/-- The capabilities that a source tells its partner. -/
def Hub.capsTold (h : Hub) (n : Nat) : Hub := h.when (h.on TCP.hVen n) fun h => h.pdSend n (.sourceCaps (h.pdOffer n))

theorem rd_capsTold {F : Fld} {i b : Nat} : (h.capsTold n).rd F i b = h.rd F i b := rd_when_of_rd rd_pdSend

theorem Hub.Canon.capsTold (C : h.Canon) : (h.capsTold n).Canon := C.when C.pdSend

theorem Hub.Alarm.capsTold {F : Fld} {m q : Nat} (A : h.Alarm F m q) : (h.capsTold n).Alarm F m q :=
  A.of_rd A.canon.capsTold rd_capsTold

theorem capsTold_out : Tab.get [] n (h.capsTold n).pdOut =
    Tab.get [] n h.pdOut ++ (if h.on TCP.hVen n then [.sourceCaps (h.pdOffer n)] else []) := by
  unfold Hub.capsTold
  cases h.on TCP.hVen n
  · rw [Hub.when_false, if_neg Bool.false_ne_true, List.append_nil]
  · exact pdSend_out

/-- The registers that tell what a port offers. -/
def offerFlds : List Fld :=
  [TCP.hVen, TCP.PDO_EN, TCP.STAT_EMARK_5A, TCP.PDOI_A_I5, TCP.PDOI_A_I9, TCP.PDOI_B_I15, TCP.PDOI_B_I20]

/-- What a port offers follows its registers alone. -/
theorem pdOffer_of_rd {g : Hub} (same : ∀ F ∈ offerFlds, ∀ i b, g.rd F i b = h.rd F i b) : g.pdOffer n = h.pdOffer n := by
  have current (i : Nat) : g.pdoCur n i = h.pdoCur n i := by
    have named : [TCP.PDOI_A_I5, TCP.PDOI_A_I9, TCP.PDOI_B_I15, TCP.PDOI_B_I20].getD i TCP.PDOI_A_I5 ∈ offerFlds := by
      rcases i with _ | _ | _ | _ | i
      case succ.succ.succ.succ => exact (by decide : TCP.PDOI_A_I5 ∈ offerFlds)
      all_goals decide
    unfold Hub.pdoCur Hub.on
    rw [same _ named, same TCP.STAT_EMARK_5A (by decide)]
  unfold Hub.pdOffer Hub.on Hub.bit
  simp only [same TCP.hVen (by decide), same TCP.PDO_EN (by decide), current]

end

end Sys2Proof.Machine
end

section
/-! PROOFS. The way back to ACTIVE (R584, R587, R595): what a wake leaves alone. -/

namespace Sys2Proof.Machine

open Sys2Proof

/-- The kinds of state that lanes which leave L2, the domains and the frame memory may move: the clocks, the domains, the node state, ports and
lanes, the memory and its credit, the values drawn, and the wire. -/
def awakeMask : Nat := 0x400000800000000000000000020000000000000000000000010100000000000000000000000100010012

/-- A property that the way back to ACTIVE keeps. -/
structure WakeKeeps (P : Hub → Prop) : Prop where
  canon : ∀ {h}, P h → h.Canon
  wr : ∀ {h F v i b}, awakeMask.testBit F.kind = true → P h → P (h.wr F v i b)
  tick : ∀ {h v}, P h → P (h.wr AON.REGSTAT_LP v)
  irq : ∀ {h pg n}, P h → P (h.irq pg n)
  same : ∀ {h g}, P h → g.Canon → (awakeMask.testBit 511 = false → Hub.Same awakeMask h g) → P g

namespace WakeKeeps

variable {P : Hub → Prop} {h : Hub} {l p : Nat}

theorem when (_ : WakeKeeps P) {c : Bool} {f : Hub → Hub} (H : P h) (e : P (f h)) : P (h.when c f) := by
  cases c
  · exact H
  · exact e

theorem holdAdapted (K : WakeKeeps P) (H : P h) : P (Hub.holdAdapted l h) :=
  K.same H (Hub.holdAdapted_canon (K.canon H))
    (Hub.holdAdapted_keeps (bears_same _ _) (by unfold Sub; decide) fun _ => Hub.Same.refl _ _)

theorem freshLock (K : WakeKeeps P) (H : P h) : P (Hub.freshLock l h) :=
  K.same H (Hub.freshLock_canon (K.canon H))
    (Hub.freshLock_keeps (bears_same _ _) (by unfold Sub; decide) fun _ => Hub.Same.refl _ _)

theorem refreshLanePll (K : WakeKeeps P) (H : P h) : P (h.refreshLanePll l) :=
  K.same H (Hub.refreshLanePll_canon (K.canon H))
    (Hub.refreshLanePll_keeps (bears_same _ _) (by unfold Sub; decide) fun _ => Hub.Same.refl _ _)

theorem refreshTx (K : WakeKeeps P) (H : P h) : P (Hub.refreshTx l h) :=
  K.same H (Hub.refreshTx_canon (K.canon H))
    (Hub.refreshTx_keeps (bears_same _ _) (by unfold Sub; decide) fun _ => Hub.Same.refl _ _)

theorem drawTie (K : WakeKeeps P) (H : P h) : P (h.drawTie p) :=
  K.same H (Hub.drawTie_canon (K.canon H))
    (Hub.drawTie_keeps (bears_same _ _) (by unfold Sub; decide) fun _ => Hub.Same.refl _ _)

theorem ctlPut (K : WakeKeeps P) (H : P h) {v : Nat} : P (h.ctlPut l v) :=
  K.same H (Hub.ctlPut_canon (K.canon H))
    (Hub.ctlPut_keeps (bears_same _ _) (by unfold Sub; decide) fun _ => Hub.Same.refl _ _)

theorem refreshMem (K : WakeKeeps P) (H : P h) : P h.refreshMem :=
  K.same H (Hub.refreshMem_canon (K.canon H))
    (Hub.refreshMem_keeps (bears_same _ _) (by unfold Sub; decide) fun _ => Hub.Same.refl _ _)

theorem refreshDomains (K : WakeKeeps P) (H : P h) : P h.refreshDomains :=
  K.same H (Hub.refreshDomains_canon (K.canon H))
    (Hub.refreshDomains_keeps (bears_same _ _) (by unfold Sub; decide) fun _ => Hub.Same.refl _ _)

/-- A lane that goes into DETECT commits nothing. -/
theorem setLane (K : WakeKeeps P) (H : P h) : P (h.setLane l 1) := by
  unfold Hub.setLane
  split
  · exact H
  · have told : P (((h.when true (Hub.holdAdapted l)).wr OLN.STAT_STATE 1 l).irq (0x20 + l) 0) :=
      K.irq (K.wr (by decide) (K.holdAdapted H))
    have unlocked : P ((((h.when true (Hub.holdAdapted l)).wr OLN.STAT_STATE 1 l).irq (0x20 + l) 0).wr OLN.RXSTAT_CDR_LOCK 0 l
        |> Hub.freshLock l |>.wr OLN.hAmNext 0 l |>.wr OLN.hAmMiss 0 l) :=
      K.wr (by decide) (K.wr (by decide) (K.freshLock (K.wr (by decide) told)))
    exact K.refreshLanePll (K.wr (by decide) unlocked)

theorem toDetect (K : WakeKeeps P) (H : P h) : P (h.toDetect l) := by
  have detect : P ((h.when (!(List.range 4).any fun k => let s := h.lane (4 * (l / 4) + k); decide (1 ≤ s ∧ s ≤ 4)) fun h =>
      h.drawTie (l / 4)).setLane l 1) := K.setLane (K.when H (K.drawTie H))
  exact K.refreshTx (K.wr (by decide) (K.wr (by decide) (K.wr (by decide) (K.wr (by decide)
    (K.wr (by decide) (K.wr (by decide) detect))))))

theorem startExit (K : WakeKeeps P) (H : P h) : P (h.startExit p) := by
  unfold Hub.startExit
  split
  · exact H
  · refine keep_each (fun k g G => ?_) (K.wr (by decide) H)
    dsimp only
    split
    · exact K.ctlPut G
    · split
      · split
        · exact K.toDetect G
        · exact K.wr (by decide) G
      · exact G

/-- A transition to ACTIVE begins. -/
theorem beginTransition (K : WakeKeeps P) (H : P h) : P (h.beginTransition 0) := by
  have busy : P (h.wr PDM.STATE_BUSY 1 |>.wr PDM.hGoal 0 |>.wr PDM.hVotes h.votes) :=
    K.wr (by decide) (K.wr (by decide) (K.wr (by decide) H))
  exact K.refreshDomains (keep_each (fun _ _ G => K.startExit G) (K.refreshMem (K.wr (by decide) (K.tick busy))))

/-- What a wake of a source that acts writes. -/
def wakeFlds : List Fld := [AON.WAKESRC_SEEN, PDM.hWake, AON.hFirst, AON.WAKEFIRST_SRC, AON.WAKEFIRST_DETAIL, AON.WAKEFIRST_VALID,
  AON.WAKETICK_TICK, PDM.STATE_LATCHED, PDM.STATE_PENDING]

theorem wake (K : WakeKeeps P) (note : ∀ {h F v}, F ∈ wakeFlds → P h → P (h.wr F v)) (H : P h) {src detail : Nat} :
    P (h.wake src detail) := by
  have seen {g : Hub} (G : P g) : P ((g.wrBit AON.WAKESRC_SEEN src true).wr PDM.hWake 1) := note (by decide) (note (by decide) G)
  have first : P (((h.wrBit AON.WAKESRC_SEEN src true).wr PDM.hWake 1).when
      (!((h.wrBit AON.WAKESRC_SEEN src true).wr PDM.hWake 1).on AON.hFirst) fun h =>
        h.wr AON.hFirst 1 |>.wr AON.WAKEFIRST_SRC src |>.wr AON.WAKEFIRST_DETAIL detail |>.wr AON.WAKEFIRST_VALID 1
          |>.wr AON.WAKETICK_TICK h.aonTimer) :=
    K.when (seen H) (note (by decide) (note (by decide) (note (by decide) (note (by decide) (note (by decide) (seen H))))))
  unfold Hub.wake
  dsimp only
  split
  · exact K.when H (seen H)
  · split
    · exact note (by decide) (note (by decide) first)
    · exact K.beginTransition first

/-- The way back to ACTIVE leaves the fields of the other kinds alone. -/
theorem of_rd {F : Fld} {i b v : Nat} (k : awakeMask.testBit F.kind = false) (e : AON.REGSTAT_LP.place ≠ F.place)
    (e' : HDR.ISTAT.place ≠ F.place) : WakeKeeps fun g => g.Canon ∧ g.rd F i b = v where
  canon H := H.1
  wr m H := ⟨H.1.wr, (rd_wr_key (key_ne_of_kind (fun q => by rw [q, k] at m; cases m) _ _ _ _)).trans H.2⟩
  tick H := ⟨H.1.wr, (rd_wr_place e).trans H.2⟩
  irq H := ⟨Hub.irq_canon H.1, (rd_irq_place e').trans H.2⟩
  same H C S := ⟨C, ((S (by decide)).rd (by decide) F i b k).trans H.2⟩

/-- The way back to ACTIVE leaves the alarms alone. -/
theorem of_alarm {F : Fld} {m q : Nat} : WakeKeeps fun g => g.Alarm F m q where
  canon A := A.canon
  wr {h G v i b} m A := A.of_rd A.canon.wr (rd_wr_key (key_ne_of_kind (fun q => by
    have off : awakeMask.testBit F.kind = false := by rcases A.fld with rfl | rfl <;> decide
    rw [q, off] at m
    cases m) _ _ _ _))
  tick A := A.wr (by decide)
  irq A := A.irq
  same A C S := A.of_rd C ((S (by decide)).rd (by decide) _ _ _ (by rcases A.fld with rfl | rfl <;> decide))

end WakeKeeps

/-- A wake leaves the Type-C ports alone. -/
theorem Hub.Canon.rd_wake_tcp {h : Hub} (C : h.Canon) {src detail : Nat} {F : Fld} {i b : Nat} (tcp : F.kind = Kind.tcp)
    (apart : ∀ G ∈ AON.REGSTAT_LP :: HDR.ISTAT :: WakeKeeps.wakeFlds, G.place ≠ F.place) : (h.wake src detail).rd F i b = h.rd F i b :=
  ((WakeKeeps.of_rd (v := h.rd F i b) (by rw [tcp]; decide) (apart _ (by decide)) (apart _ (by decide))).wake
    (fun m H => ⟨H.1.wr, (rd_wr_place (apart _ (List.mem_cons_of_mem _ (List.mem_cons_of_mem _ m)))).trans H.2⟩) ⟨C, rfl⟩).2

theorem Hub.Alarm.wake {F : Fld} {m q : Nat} {h : Hub} (A : h.Alarm F m q) {src detail : Nat} : (h.wake src detail).Alarm F m q :=
  WakeKeeps.of_alarm.wake (fun n A => A.wr ((by decide : ∀ G ∈ WakeKeeps.wakeFlds,
    G.place ≠ HDR.ESTAT.place ∧ G.place ≠ HDR.ISTAT.place) _ n)) A

/-- The way back to ACTIVE leaves the sources that were seen alone. -/
theorem Hub.Canon.rd_beginTransition_seen {h : Hub} (C : h.Canon) : (h.beginTransition 0).rd AON.WAKESRC_SEEN = h.rd AON.WAKESRC_SEEN :=
  ((WakeKeeps.of_rd (by decide) (by decide) (by decide)).beginTransition ⟨C, rfl⟩).2

/-- A source that acts is seen. -/
theorem Hub.Canon.wake_seen {h : Hub} (C : h.Canon) {src detail : Nat} (small : src < 7) (W : h.Wakes src) :
    (h.wake src detail).bit AON.WAKESRC_SEEN src = true := by
  obtain ⟨en, low⟩ := W
  have acts : (h.bit AON.WAKEEN_EN src && (h.effState == 1 || h.effState == 3)) = true := by
    rw [en, Bool.true_and, Bool.or_eq_true, beq_iff_eq, beq_iff_eq]
    exact low
  have seen : ((h.wrBit AON.WAKESRC_SEEN src true).wr PDM.hWake 1).bit AON.WAKESRC_SEEN src = true :=
    (bit_wr_place (by decide)).trans (C.bit_wrBit small)
  have D : ((h.wrBit AON.WAKESRC_SEEN src true).wr PDM.hWake 1).Canon := C.wr.wr
  unfold Hub.wake
  dsimp only
  rw [acts, Bool.not_true, if_neg Bool.false_ne_true]
  refine (bit_of_rd ?_).trans seen
  split
  · rw [rd_wr_place (by decide), rd_wr_place (by decide), rd_when_of_rd]
    simp +decide only [rd_wr_place]
  · rw [(D.when D.wr.wr.wr.wr.wr).rd_beginTransition_seen, rd_when_of_rd]
    simp +decide only [rd_wr_place]

end Sys2Proof.Machine
end

section
/-! PROOFS. The commands of the Type-C ports (R533 to R537, R540, R541, R595). -/

namespace Sys2Proof.Machine

open Sys2Proof

/-- A change that leaves the node as it was, where its condition holds or not. -/
theorem when_self {h : Hub} {c : Bool} {f : Hub → Hub} (e : f h = h) : h.when c f = h := by
  cases c
  · rfl
  · exact e

/-- The registers that tell which sources act. -/
def wakesFlds : List Fld := [AON.WAKEEN_EN, PDM.STATE_BUSY, PDM.hGoal, PDM.STATE_CURRENT]

theorem Hub.Wakes.of_rd {g h : Hub} {src : Nat} (W : h.Wakes src) (same : ∀ F ∈ wakesFlds, g.rd F = h.rd F) : g.Wakes src := by
  have state : g.effState = h.effState := by
    unfold Hub.effState Hub.on
    rw [same PDM.STATE_BUSY (by decide), same PDM.hGoal (by decide), same PDM.STATE_CURRENT (by decide)]
  exact ⟨(bit_of_rd (same AON.WAKEEN_EN (by decide))).trans W.1, by rw [state]; exact W.2⟩

/-! ### Attachment (R533) -/

section

variable {h : Hub} {k : Fin 2} {cc2 sink ufp em frs : Bool}

/-- The state of a port whose partner has just come. -/
def Hub.partnerSet (h : Hub) (k : Fin 2) (cc2 sink ufp em frs : Bool) : Hub :=
  (h.wr TCP.STAT_ATTACHED 1 k |>.wr TCP.STAT_POLARITY (bnat cc2) k |>.wr TCP.STAT_PROLE (bnat sink) k
    |>.wr TCP.STAT_DROLE (bnat ufp) k |>.wr TCP.STAT_VCONN_ON (bnat (!sink && h.on TCP.CFG_VCONN_EN k)) k
    |>.wr TCP.STAT_EMARK_5A (bnat em) k |>.wr TCP.STAT_FRS_READY (bnat frs) k |>.wr TCP.hCut 0 k).pdDrop k

/-- A port that has taken up its partner. -/
def Hub.partnerIn (h : Hub) (k : Fin 2) (cc2 sink ufp em frs : Bool) : Hub :=
  (((h.partnerSet k cc2 sink ufp em frs).altExit k).portFollows k false).capsTold k

theorem pdAttach_eq (h : Hub) (k : Fin 2) (cc2 sink ufp em frs : Bool) : h.pdAttach k cc2 sink ufp em frs =
    if h.on TCP.STAT_ATTACHED k then h.partnerIn k cc2 sink ufp em frs
    else ((h.partnerIn k cc2 sink ufp em frs).irq (0xB8 + k) 0).wake 2 k := rfl

theorem Hub.Canon.partnerSet (C : h.Canon) : (h.partnerSet k cc2 sink ufp em frs).Canon :=
  Hub.Canon.pdDrop C.wr.wr.wr.wr.wr.wr.wr.wr

theorem Hub.Canon.partnerIn (C : h.Canon) : (h.partnerIn k cc2 sink ufp em frs).Canon :=
  (Hub.Canon.portFollows (Hub.altExit_canon C.partnerSet)).capsTold

theorem bnat_mod_two (b : Bool) : bnat b % 2 ^ 1 = bnat b := by cases b <;> rfl

theorem Hub.Canon.partnerSet_shows (C : h.Canon) :
    let g := h.partnerSet k cc2 sink ufp em frs
    g.rd TCP.STAT_ATTACHED k = 1 ∧ g.rd TCP.STAT_POLARITY k = bnat cc2 ∧ g.rd TCP.STAT_PROLE k = bnat sink ∧
      g.rd TCP.STAT_DROLE k = bnat ufp ∧ g.rd TCP.STAT_VCONN_ON k = bnat (!sink && h.on TCP.CFG_VCONN_EN k) ∧
      g.rd TCP.STAT_EMARK_5A k = bnat em ∧ g.rd TCP.STAT_FRS_READY k = bnat frs ∧ g.rd TCP.STAT_CONTRACT k = 0 := by
  unfold Hub.partnerSet
  refine ⟨?_, ?_, ?_, ?_, ?_, ?_, ?_, C.wr.wr.wr.wr.wr.wr.wr.wr.rd_pdDrop⟩
  · simp +decide only [rd_pdDrop_apart, rd_wr_place, C.rd_wr]
  · simp +decide only [rd_pdDrop_apart, rd_wr_place, C.wr.rd_wr]
    exact bnat_mod_two _
  · simp +decide only [rd_pdDrop_apart, rd_wr_place, C.wr.wr.rd_wr]
    exact bnat_mod_two _
  · simp +decide only [rd_pdDrop_apart, rd_wr_place, C.wr.wr.wr.rd_wr]
    exact bnat_mod_two _
  · simp +decide only [rd_pdDrop_apart, rd_wr_place, C.wr.wr.wr.wr.rd_wr]
    exact bnat_mod_two _
  · simp +decide only [rd_pdDrop_apart, rd_wr_place, C.wr.wr.wr.wr.wr.rd_wr]
    exact bnat_mod_two _
  · simp +decide only [rd_pdDrop_apart, rd_wr_place, C.wr.wr.wr.wr.wr.wr.rd_wr]
    exact bnat_mod_two _

/-- What taking up a partner leaves of the state that the port has set. -/
theorem rd_partnerIn {F : Fld} {i b : Nat} (off : F.OffPort) (apart : ∀ G ∈ DCP.LINK_PIN_D :: altFlds, G.place ≠ F.place) :
    (h.partnerIn k cc2 sink ufp em frs).rd F i b = (h.partnerSet k cc2 sink ufp em frs).rd F i b := by
  rw [Hub.partnerIn, rd_capsTold, rd_portFollows_apart off, rd_altExit_apart off.1.1 apart]

theorem Hub.Canon.partnerIn_ended (C : h.Canon) : (h.partnerIn k cc2 sink ufp em frs).rd TCP.STAT_CONTRACT k = 0 ∧
    (h.partnerIn k cc2 sink ufp em frs).rd TCP.STAT_ALTMODE k = 0 := by
  have P : (h.partnerSet k cc2 sink ufp em frs).Canon := C.partnerSet
  obtain ⟨-, -, -, -, -, -, -, none⟩ := C.partnerSet_shows (k := k) (cc2 := cc2) (sink := sink) (ufp := ufp) (em := em) (frs := frs)
  unfold Hub.partnerIn
  constructor
  · rw [rd_capsTold]
    exact (Hub.altExit_canon P).portFollows_ended ((rd_altExit_apart (by decide) (by decide)).trans none)
  · rw [rd_capsTold, rd_portFollows_apart (by decide), P.rd_altExit.1]

theorem partnerSet_out : (h.partnerSet k cc2 sink ufp em frs).pdOut = h.pdOut := rfl

theorem partnerIn_out : Tab.get [] k (h.partnerIn k cc2 sink ufp em frs).pdOut = Tab.get [] k h.pdOut ++
    (if (h.partnerIn k cc2 sink ufp em frs).on TCP.hVen k then [.sourceCaps ((h.partnerIn k cc2 sink ufp em frs).pdOffer k)] else []) := by
  have offer : (h.partnerIn k cc2 sink ufp em frs).pdOffer k =
      (((h.partnerSet k cc2 sink ufp em frs).altExit k).portFollows k false).pdOffer k := pdOffer_of_rd fun _ _ _ _ => rd_capsTold
  have ven : (h.partnerIn k cc2 sink ufp em frs).on TCP.hVen k =
      (((h.partnerSet k cc2 sink ufp em frs).altExit k).portFollows k false).on TCP.hVen k := on_of_rd rd_capsTold
  rw [offer, ven, Hub.partnerIn, capsTold_out, portFollows_out, Hub.altExit_same.pdOut (by decide), partnerSet_out]

/-- What a partner that comes sets at its port. -/
def partnerFlds : List Fld := [TCP.STAT_ATTACHED, TCP.STAT_POLARITY, TCP.STAT_PROLE, TCP.STAT_DROLE, TCP.STAT_VCONN_ON,
  TCP.STAT_EMARK_5A, TCP.STAT_FRS_READY, TCP.hCut, TCP.STAT_CONTRACT, TCP.RDO_PDO, TCP.RDO_CUR]

/-- The node's state, and what wakes it, while a partner comes. -/
theorem rd_partnerIn_kind {F : Fld} {i b : Nat} (e : F.kind ∈ [Kind.pdm, Kind.nodeState, Kind.aon])
    (apart : ∀ G ∈ partnerFlds, G.place ≠ F.place) :
    (h.partnerIn k cc2 sink ufp em frs).rd F i b = h.rd F i b := by
  have off : Nat.testBit 0x2808000000000004000000000000000010000000000000000a10000000000000000000000000400 F.kind = false :=
    (by decide : ∀ k ∈ [Kind.pdm, Kind.nodeState, Kind.aon],
      Nat.testBit 0x2808000000000004000000000000000010000000000000000a10000000000000000000000000400 k = false) _ e
  rw [Hub.partnerIn, rd_capsTold, rd_portFollows_kind e, Hub.altExit_rd off, Hub.partnerSet,
    rd_pdDrop_apart fun G m => apart G (by revert m; revert G; decide)]
  rw [rd_wr_place (apart _ (by decide)), rd_wr_place (apart _ (by decide)), rd_wr_place (apart _ (by decide)),
    rd_wr_place (apart _ (by decide)), rd_wr_place (apart _ (by decide)), rd_wr_place (apart _ (by decide)),
    rd_wr_place (apart _ (by decide)), rd_wr_place (apart _ (by decide))]

theorem noIrq_tcp (k : Fin 2) : noIrq (0xB8 + k) = false := by
  revert k
  decide

theorem secondPage_tcp (k : Fin 2) : secondPage (0xB8 + k) = false := by
  revert k
  decide

theorem Hub.Canon.pdAttach_shows (C : h.Canon) :
    let g := h.pdAttach k cc2 sink ufp em frs
    g.rd TCP.STAT_ATTACHED k = 1 ∧ g.rd TCP.STAT_POLARITY k = bnat cc2 ∧ g.rd TCP.STAT_PROLE k = bnat sink ∧
      g.rd TCP.STAT_DROLE k = bnat ufp ∧ g.rd TCP.STAT_VCONN_ON k = bnat (!sink && h.on TCP.CFG_VCONN_EN k) ∧
      g.rd TCP.STAT_EMARK_5A k = bnat em ∧ g.rd TCP.STAT_FRS_READY k = bnat frs ∧ g.rd TCP.STAT_CONTRACT k = 0 ∧
      g.rd TCP.STAT_ALTMODE k = 0 ∧
      Hub.PdSends h g k (if g.on TCP.hVen k then [.sourceCaps (g.pdOffer k)] else []) ∧
      (h.on TCP.STAT_ATTACHED k = false → g.bit HDR.ISTAT 0 (0xB8 + k) = true ∧ (h.Wakes 2 → g.bit AON.WAKESRC_SEEN 2 = true)) := by
  obtain ⟨att, pol, prole, drole, vconn, emark, ready, -⟩ :=
    C.partnerSet_shows (k := k) (cc2 := cc2) (sink := sink) (ufp := ufp) (em := em) (frs := frs)
  obtain ⟨ended, alt⟩ := C.partnerIn_ended (k := k) (cc2 := cc2) (sink := sink) (ufp := ufp) (em := em) (frs := frs)
  have P : (h.partnerIn k cc2 sink ufp em frs).Canon := C.partnerIn
  have same (F : Fld) (tcp : F.kind = Kind.tcp) (wakes : ∀ G ∈ AON.REGSTAT_LP :: HDR.ISTAT :: WakeKeeps.wakeFlds, G.place ≠ F.place)
      (i b : Nat) :
      (h.pdAttach k cc2 sink ufp em frs).rd F i b = (h.partnerIn k cc2 sink ufp em frs).rd F i b := by
    rw [pdAttach_eq]
    split
    · rfl
    · rw [(Hub.irq_canon P).rd_wake_tcp tcp wakes, rd_irq_place (wakes _ (by decide))]
  have out : (h.pdAttach k cc2 sink ufp em frs).pdOut = (h.partnerIn k cc2 sink ufp em frs).pdOut := by
    rw [pdAttach_eq]
    split
    · rfl
    · rw [Hub.wake_same.pdOut (by decide), Hub.irq_same.pdOut (by decide)]
  refine ⟨?_, ?_, ?_, ?_, ?_, ?_, ?_, ?_, ?_, ?_, fun new => ?_⟩
  · rw [same _ (by decide) (by decide), rd_partnerIn (by decide) (by decide), att]
  · rw [same _ (by decide) (by decide), rd_partnerIn (by decide) (by decide), pol]
  · rw [same _ (by decide) (by decide), rd_partnerIn (by decide) (by decide), prole]
  · rw [same _ (by decide) (by decide), rd_partnerIn (by decide) (by decide), drole]
  · rw [same _ (by decide) (by decide), rd_partnerIn (by decide) (by decide), vconn]
  · rw [same _ (by decide) (by decide), rd_partnerIn (by decide) (by decide), emark]
  · rw [same _ (by decide) (by decide), rd_partnerIn (by decide) (by decide), ready]
  · rw [same _ (by decide) (by decide), ended]
  · rw [same _ (by decide) (by decide), alt]
  · have offer : (h.pdAttach k cc2 sink ufp em frs).pdOffer k = (h.partnerIn k cc2 sink ufp em frs).pdOffer k :=
      pdOffer_of_rd fun F m i b => same F ((by decide : ∀ F ∈ offerFlds, F.kind = Kind.tcp) F m)
        ((by decide : ∀ F ∈ offerFlds, ∀ G ∈ AON.REGSTAT_LP :: HDR.ISTAT :: WakeKeeps.wakeFlds, G.place ≠ F.place) F m) i b
    rw [Hub.PdSends, out, offer, on_of_rd (same TCP.hVen (by decide) (by decide) _ _), partnerIn_out]
  · rw [pdAttach_eq, new, if_neg Bool.false_ne_true]
    have A : ((h.partnerIn k cc2 sink ufp em frs).irq (0xB8 + k) 0).Alarm HDR.ISTAT 0 (0xB8 + k) := P.alarm_irq (noIrq_tcp k) (by decide)
    refine ⟨A.wake.bit, fun W => A.canon.wake_seen (by decide) ?_⟩
    exact W.of_rd fun F m => (rd_irq_place ((by decide : ∀ F ∈ wakesFlds, HDR.ISTAT.place ≠ F.place) F m)).trans
      (rd_partnerIn_kind ((by decide : ∀ F ∈ wakesFlds, F.kind ∈ [Kind.pdm, Kind.nodeState, Kind.aon]) F m)
        ((by decide : ∀ F ∈ wakesFlds, ∀ G ∈ partnerFlds, G.place ≠ F.place) F m))

/-- A partner that leaves. -/
def Hub.partnerGone (h : Hub) (k : Fin 2) : Hub :=
  (h.wr TCP.STAT_ATTACHED 0 k |>.wr TCP.STAT_POLARITY 0 k |>.wr TCP.STAT_PROLE 0 k |>.wr TCP.STAT_DROLE 0 k
    |>.wr TCP.STAT_VCONN_ON 0 k |>.wr TCP.STAT_EMARK_5A 0 k |>.wr TCP.STAT_FRS_READY 0 k |>.wr TCP.hCut 0 k).pdDrop k

theorem pdDetach_eq (h : Hub) (k : Fin 2) : h.pdDetach k =
    if !h.on TCP.STAT_ATTACHED k then h else (((h.partnerGone k).altExit k).portFollows k true).irq (0xB8 + k) 0 := rfl

theorem Hub.Canon.partnerGone (C : h.Canon) : (h.partnerGone k).Canon := Hub.Canon.pdDrop C.wr.wr.wr.wr.wr.wr.wr.wr

theorem Hub.Canon.pdDetach_shows (C : h.Canon) (att : h.on TCP.STAT_ATTACHED k = true) :
    let g := h.pdDetach k
    g.rd TCP.STAT_ATTACHED k = 0 ∧ g.rd TCP.STAT_CONTRACT k = 0 ∧ g.rd TCP.STAT_ALTMODE k = 0 ∧ g.rd TCP.STAT_VCONN_ON k = 0 ∧
      g.bit HDR.ISTAT 0 (0xB8 + k) = true := by
  have P : (h.partnerGone k).Canon := C.partnerGone
  have X : ((h.partnerGone k).altExit k).Canon := Hub.altExit_canon P
  rw [pdDetach_eq, att, Bool.not_true, if_neg Bool.false_ne_true]
  refine ⟨?_, ?_, ?_, ?_, X.portFollows.bit_irq (noIrq_tcp k) (by decide)⟩
  · rw [rd_irq_place (by decide), rd_portFollows_apart (by decide), rd_altExit_apart (by decide) (by decide), Hub.partnerGone]
    simp +decide only [rd_pdDrop_apart, rd_wr_place, C.rd_wr]
  · rw [rd_irq_place (by decide)]
    exact X.portFollows_ended ((rd_altExit_apart (by decide) (by decide)).trans C.wr.wr.wr.wr.wr.wr.wr.wr.rd_pdDrop)
  · rw [rd_irq_place (by decide), rd_portFollows_apart (by decide), P.rd_altExit.1]
  · rw [rd_irq_place (by decide), rd_portFollows_apart (by decide), rd_altExit_apart (by decide) (by decide), Hub.partnerGone]
    simp +decide only [rd_pdDrop_apart, rd_wr_place, C.wr.wr.wr.wr.rd_wr]

/-- A port that goes unattached keeps what it was told about its next attachment. -/
theorem rd_pdDetach_away : (h.pdDetach k).rd TCP.hAway k = h.rd TCP.hAway k := by
  rw [pdDetach_eq]
  split
  · rfl
  · rw [rd_irq_place (by decide), rd_portFollows_apart (by decide), rd_altExit_apart (by decide) (by decide), Hub.partnerGone,
      rd_pdDrop_apart (by decide)]
    simp +decide only [rd_wr_place]

theorem pdDetach_of_idle (idle : h.on TCP.STAT_ATTACHED k = false) : h.pdDetach k = h := by
  rw [pdDetach_eq, idle, Bool.not_false, if_pos rfl]

/-- A port that is told to go unattached, and to stay so for a second. -/
def Hub.detachTold (h : Hub) (k : Fin 2) : Hub := (h.wr TCP.hAway (h.cyc + 400000000) k).pdDetach k

theorem exec_typecDetach (r : Req) (k : Fin 2) (s : State) : exec (.typecDetach r k) s =
    s.act fun h => h.asReg r TCP.CTL_DETACH k fun h => h.when (h.up (0xB8 + k)) fun h => h.detachTold k := rfl

theorem Hub.Canon.detachTold_shows (C : h.Canon) :
    let g := h.detachTold k
    g.rd TCP.STAT_ATTACHED k = 0 ∧ g.rd TCP.hAway k = (h.cyc + 400000000) % 2 ^ TCP.hAway.w ∧
      (h.on TCP.STAT_ATTACHED k = true → g.rd TCP.STAT_CONTRACT k = 0 ∧ g.bit HDR.ISTAT 0 (0xB8 + k) = true) := by
  unfold Hub.detachTold
  have same : (h.wr TCP.hAway (h.cyc + 400000000) k).on TCP.STAT_ATTACHED k = h.on TCP.STAT_ATTACHED k := on_of_rd (rd_wr_place (by decide))
  refine ⟨?_, rd_pdDetach_away.trans C.rd_wr, fun att => ?_⟩
  · cases att : h.on TCP.STAT_ATTACHED k
    · rw [pdDetach_of_idle (same.trans att), rd_wr_place (by decide)]
      exact bne_eq_false_iff_eq.1 att
    · exact (C.wr.pdDetach_shows (same.trans att)).1
  · obtain ⟨-, ended, -, -, told⟩ := C.wr.pdDetach_shows (same.trans att)
    exact ⟨ended, told⟩

/-! ### Fast Role Swap (R536) -/

/-- The source's supply given to the partner, or cut. -/
def Hub.frsTurned (h : Hub) (k : Fin 2) : Hub :=
  if h.on TCP.CFG_FRS_EN k && h.on TCP.STAT_FRS_READY k then
    (((h.pdSend k .fastRoleSwap).cnt TCP.CNT_A_FRS k).irq (0xB8 + k) 3).wr TCP.STAT_PROLE 1 k
  else h.wr TCP.hCut 1 k

theorem fastRoleSwap_eq (h : Hub) (k : Fin 2) : h.fastRoleSwap k = (((h.pdDrop k).frsTurned k).pdMeasure k).refreshBus := rfl

theorem Hub.Canon.frsTurned (C : h.Canon) : (h.frsTurned k).Canon := by
  unfold Hub.frsTurned
  split
  · exact (Hub.irq_canon C.pdSend.cnt).wr
  · exact C.wr

theorem Hub.Canon.fastRoleSwap_shows (C : h.Canon) :
    let g := h.fastRoleSwap k
    g.rd TCP.STAT_CONTRACT k = 0 ∧
      (h.on TCP.CFG_FRS_EN k = true → h.on TCP.STAT_FRS_READY k = true → g.rd TCP.STAT_PROLE k = 1 ∧
        g.rd TCP.CNT_A_FRS k = h.oneMore TCP.CNT_A_FRS k ∧ g.bit HDR.ISTAT 3 (0xB8 + k) = true ∧ Hub.PdSends h g k [.fastRoleSwap]) ∧
      (h.on TCP.CFG_FRS_EN k = false ∨ h.on TCP.STAT_FRS_READY k = false →
        g.rd TCP.hCut k = 1 ∧ g.rd TCP.hVen k = 0 ∧ g.pdOut = h.pdOut) := by
  have D : (h.pdDrop k).Canon := C.pdDrop
  have T : ((h.pdDrop k).frsTurned k).Canon := D.frsTurned
  have M : (((h.pdDrop k).frsTurned k).pdMeasure k).Canon := Hub.pdMeasure_canon T
  have en : (h.pdDrop k).on TCP.CFG_FRS_EN k = h.on TCP.CFG_FRS_EN k := on_of_rd (rd_pdDrop_apart (by decide))
  have ready : (h.pdDrop k).on TCP.STAT_FRS_READY k = h.on TCP.STAT_FRS_READY k := on_of_rd (rd_pdDrop_apart (by decide))
  have out : (h.fastRoleSwap k).pdOut = ((h.pdDrop k).frsTurned k).pdOut :=
    (Hub.refreshBus_same.pdOut (by decide)).trans (Hub.pdMeasure_same.pdOut (by decide))
  have same {F : Fld} (off : F.OffPort) (i b : Nat) : (h.fastRoleSwap k).rd F i b = ((h.pdDrop k).frsTurned k).rd F i b := by
    rw [fastRoleSwap_eq, rd_refreshBus_apart off.1, rd_pdMeasure_apart off.2]
  refine ⟨?_, fun e r => ?_, fun off => ?_⟩
  · refine M.refreshBus_ended ((rd_pdMeasure_apart (by decide)).trans ?_)
    unfold Hub.frsTurned
    split
    · rw [rd_wr_place (by decide), rd_irq_place (by decide), rd_cnt_place (by decide), rd_pdSend, C.rd_pdDrop]
    · rw [rd_wr_place (by decide), C.rd_pdDrop]
  · have turned : (h.pdDrop k).frsTurned k =
        ((((h.pdDrop k).pdSend k .fastRoleSwap).cnt TCP.CNT_A_FRS k).irq (0xB8 + k) 3).wr TCP.STAT_PROLE 1 k := by
      rw [Hub.frsTurned, en, ready, e, r, Bool.and_self, if_pos rfl]
    have A : ((h.pdDrop k).frsTurned k).Alarm HDR.ISTAT 3 (0xB8 + k) := by
      rw [turned]
      exact (D.pdSend.cnt.alarm_irq (noIrq_tcp k) (by decide)).wr (by decide)
    refine ⟨?_, ?_, ((A.wrFree (by decide)).wrFree (by decide)).refreshBus.bit, ?_⟩
    · rw [same (by decide), turned, (Hub.irq_canon D.pdSend.cnt).rd_wr]
      rfl
    · rw [same (by decide), turned, rd_wr_place (by decide), rd_irq_place (by decide), D.pdSend.rd_cnt, rd_pdSend,
        rd_pdDrop_apart (by decide), Hub.oneMore]
    · show Tab.get [] k.val (h.fastRoleSwap k).pdOut = _
      rw [out, turned, Hub.wr_pdOut, Hub.irq_same.pdOut (by decide)]
      exact pdSend_out (h := h.pdDrop k)
  · have turned : (h.pdDrop k).frsTurned k = (h.pdDrop k).wr TCP.hCut 1 k := by
      rw [Hub.frsTurned, en, ready, if_neg]
      rcases off with off | off <;> rw [off]
      · exact Bool.false_ne_true
      · rw [Bool.and_false]
        exact Bool.false_ne_true
    have cut : ((h.pdDrop k).frsTurned k).rd TCP.hCut k = 1 := by
      rw [turned, D.rd_wr]
      rfl
    refine ⟨(same (by decide) _ _).trans cut, ?_, ?_⟩
    · exact M.refreshBus_cut k (on_eq_true ((rd_pdMeasure_apart (by decide)).trans cut))
    · rw [out, turned]
      rfl

/-! ### Hard reset (R534, R540) -/

/-- The contract, the modes and the data role at a hard reset. -/
def Hub.roleReset (h : Hub) (k : Fin 2) : Hub :=
  let h1 := ((h.cnt TCP.CNT_A_HRESET k).irq (0xB8 + k) 4).pdDrop k
  h1.wr TCP.STAT_DROLE (h1.rd TCP.STAT_PROLE k) k

theorem pdReset_eq (h : Hub) (k : Fin 2) : h.pdReset k = (((h.roleReset k).altExit k).portFollows k false).capsTold k := rfl

theorem Hub.Canon.roleReset (C : h.Canon) : (h.roleReset k).Canon := (Hub.irq_canon C.cnt).pdDrop.wr

theorem Hub.Canon.pdReset_shows (C : h.Canon) :
    let g := h.pdReset k
    g.rd TCP.STAT_CONTRACT k = 0 ∧ g.rd TCP.STAT_ALTMODE k = 0 ∧ g.rd TCP.STAT_DROLE k = h.rd TCP.STAT_PROLE k % 2 ∧
      g.rd TCP.CNT_A_HRESET k = h.oneMore TCP.CNT_A_HRESET k ∧ g.bit HDR.ISTAT 4 (0xB8 + k) = true ∧
      Hub.PdSends h g k (if g.on TCP.hVen k then [.sourceCaps (g.pdOffer k)] else []) := by
  have I : ((h.cnt TCP.CNT_A_HRESET k).irq (0xB8 + k) 4).Canon := Hub.irq_canon C.cnt
  have R : (h.roleReset k).Canon := C.roleReset
  have X : ((h.roleReset k).altExit k).Canon := Hub.altExit_canon R
  have A : (h.roleReset k).Alarm HDR.ISTAT 4 (0xB8 + k) :=
    ((((C.cnt.alarm_irq (noIrq_tcp k) (by decide)).wr (by decide)).wr (by decide)).wr (by decide)).wr (by decide)
  have same {F : Fld} (off : F.OffPort) (apart : ∀ G ∈ DCP.LINK_PIN_D :: altFlds, G.place ≠ F.place) :
      (h.pdReset k).rd F k = (h.roleReset k).rd F k := by
    rw [pdReset_eq, rd_capsTold, rd_portFollows_apart off, rd_altExit_apart off.1.1 apart]
  refine ⟨?_, ?_, ?_, ?_, A.altExit.portFollows.capsTold.bit, ?_⟩
  · rw [pdReset_eq, rd_capsTold]
    refine X.portFollows_ended ((rd_altExit_apart (by decide) (by decide)).trans ?_)
    rw [Hub.roleReset, rd_wr_place (by decide), I.rd_pdDrop]
  · rw [pdReset_eq, rd_capsTold, rd_portFollows_apart (by decide), R.rd_altExit.1]
  · rw [same (by decide) (by decide), Hub.roleReset, I.pdDrop.rd_wr, rd_pdDrop_apart (by decide), rd_irq_place (by decide),
      rd_cnt_place (by decide)]
    rfl
  · rw [same (by decide) (by decide), Hub.roleReset, rd_wr_place (by decide), rd_pdDrop_apart (by decide), rd_irq_place (by decide),
      C.rd_cnt, Hub.oneMore]
  · have offer : (h.pdReset k).pdOffer k = (((h.roleReset k).altExit k).portFollows k false).pdOffer k :=
      pdOffer_of_rd fun _ _ _ _ => rd_capsTold
    have ven : (h.pdReset k).on TCP.hVen k = (((h.roleReset k).altExit k).portFollows k false).on TCP.hVen k := on_of_rd rd_capsTold
    show Tab.get [] k.val (h.pdReset k).pdOut = _
    rw [offer, ven, pdReset_eq, capsTold_out, portFollows_out, Hub.altExit_same.pdOut (by decide)]
    exact congrArg (Tab.get [] k.val · ++ _) (Hub.irq_same.pdOut (by decide))

end

/-! ### Messages of the partner (R534, R535, R537) -/

section

variable {s : State} {k : Fin 2}

/-- A message of a partner that is there. -/
theorem completes_pdMessage {m : PdMsg} {Q : Hub → Prop} (up : s.hub.up (0xB8 + k) = true) (att : s.hub.on TCP.STAT_ATTACHED k = true)
    (q : Q (s.hub.pdMessage k m)) : Completes (.pdMessage k m) s Q :=
  completes_when (p := fun h => h.up (0xB8 + k) && h.on TCP.STAT_ATTACHED k) (f := fun _ h => h.pdMessage k m) rfl
    (by rw [up, att]; rfl) q

end

section

variable {h : Hub} {k : Fin 2}

theorem pdMessage_request (pdo ma : Nat) : h.pdMessage k (.request pdo ma) =
    if h.rd TCP.STAT_PROLE k == 0 then h.pdRequest k pdo ma else h.pdSend k .notSupported := rfl

/-- A contract in force. -/
theorem Hub.Canon.pdContract_shows (C : h.Canon) (pdo cur : Nat) :
    let g := h.pdContract k pdo cur
    g.rd TCP.STAT_CONTRACT k = 1 ∧ g.rd TCP.RDO_PDO k = pdo % 2 ^ TCP.RDO_PDO.w ∧ g.rd TCP.RDO_CUR k = cur % 2 ^ TCP.RDO_CUR.w ∧
      g.bit HDR.ISTAT 1 (0xB8 + k) = true ∧ g.pdOut = h.pdOut := by
  have A : ((h.wr TCP.STAT_CONTRACT 1 k |>.wr TCP.RDO_PDO pdo k |>.wr TCP.RDO_CUR cur k).irq (0xB8 + k) 1).Alarm HDR.ISTAT 1 (0xB8 + k) :=
    C.wr.wr.wr.alarm_irq (noIrq_tcp k) (by decide)
  unfold Hub.pdContract
  refine ⟨?_, ?_, ?_, ((A.wrFree (by decide)).wrFree (by decide)).bit,
    (Hub.pdMeasure_same.pdOut (by decide)).trans (Hub.irq_same.pdOut (by decide))⟩
  · rw [rd_pdMeasure_apart (by decide), rd_irq_place (by decide), rd_wr_place (by decide), rd_wr_place (by decide), C.rd_wr]
    rfl
  · rw [rd_pdMeasure_apart (by decide), rd_irq_place (by decide), rd_wr_place (by decide), C.wr.rd_wr]
  · rw [rd_pdMeasure_apart (by decide), rd_irq_place (by decide), C.wr.wr.rd_wr]

theorem Hub.Canon.pdMessage_request_shows (C : h.Canon) (pdo ma : Nat) :
    let g := h.pdMessage k (.request pdo ma)
    let fits := h.on TCP.hVen k && decide (1 ≤ pdo ∧ pdo ≤ 4) && h.bit TCP.PDO_EN (pdo - 1) k && decide (ma ≤ 10 * h.pdoCur k (pdo - 1))
    (h.rd TCP.STAT_PROLE k = 0 → fits = true → g.rd TCP.STAT_CONTRACT k = 1 ∧ g.rd TCP.RDO_PDO k = pdo ∧
      g.rd TCP.RDO_CUR k = ceilDiv ma 10 % 2 ^ TCP.RDO_CUR.w ∧ g.bit HDR.ISTAT 1 (0xB8 + k) = true ∧ Hub.PdSends h g k [.accept]) ∧
    (h.rd TCP.STAT_PROLE k = 0 → fits = false → Hub.SameBut [Kind.pdOut] h g ∧ Hub.PdSends h g k [.reject]) ∧
    (h.rd TCP.STAT_PROLE k ≠ 0 → Hub.SameBut [Kind.pdOut] h g ∧ Hub.PdSends h g k [.notSupported]) := by
  dsimp only
  rw [pdMessage_request]
  refine ⟨fun source fits => ?_, fun source fits => ?_, fun sink => ?_⟩
  · obtain ⟨agreed, num, cur, told, out⟩ := (C.pdSend (k := k) (m := .accept)).pdContract_shows (k := k) pdo (ceilDiv ma 10)
    have small : pdo < 2 ^ TCP.RDO_PDO.w := by
      rw [Bool.and_eq_true, Bool.and_eq_true, Bool.and_eq_true, decide_eq_true_eq] at fits
      obtain ⟨⟨⟨-, -, le⟩, -⟩, -⟩ := fits
      exact Nat.lt_of_le_of_lt le (by decide)
    rw [source, beq_self_eq_true, if_pos rfl, Hub.pdRequest, if_pos fits]
    exact ⟨agreed, num.trans (Nat.mod_eq_of_lt small), cur, told, (congrArg (Tab.get [] k.val) out).trans pdSend_out⟩
  · rw [source, beq_self_eq_true, if_pos rfl, Hub.pdRequest, fits, if_neg Bool.false_ne_true]
    exact ⟨pdSend_sameBut, pdSend_out⟩
  · rw [beq_eq_false_iff_ne.2 sink, if_neg Bool.false_ne_true]
    exact ⟨pdSend_sameBut, pdSend_out⟩

theorem Hub.Canon.pdMessage_hardReset_shows (C : h.Canon) :
    let g := h.pdMessage k .hardReset
    g.rd TCP.STAT_CONTRACT k = 0 ∧ g.rd TCP.STAT_ALTMODE k = 0 ∧ g.rd TCP.STAT_DROLE k = h.rd TCP.STAT_PROLE k % 2 ∧
      g.rd TCP.CNT_A_HRESET k = h.oneMore TCP.CNT_A_HRESET k ∧ g.bit HDR.ISTAT 4 (0xB8 + k) = true := by
  obtain ⟨ended, alt, role, count, told, -⟩ := C.pdReset_shows (k := k)
  exact ⟨ended, alt, role, count, told⟩

/-- The data role taken at a swap. -/
theorem Hub.Canon.roleSwapped_shows (C : h.Canon) (v : Nat) (small : v < 2) :
    let g := ((h.pdSend k .accept).wr TCP.STAT_DROLE v k).pdFollow false
    g.rd TCP.STAT_DROLE k = v ∧ Hub.PdSends h g k [.accept] := by
  refine ⟨?_, ?_⟩
  · rw [rd_pdFollow_apart (by decide), C.pdSend.rd_wr]
    exact Nat.mod_eq_of_lt small
  · rw [Hub.PdSends, Hub.pdFollow_same.pdOut (by decide)]
    exact pdSend_out

theorem pdMessage_drSwap : h.pdMessage k .drSwap =
    if h.on TCP.hMode k then (h.pdSend k .hardReset).pdReset k
    else if h.rd TCP.STAT_DROLE k = 1 then ((h.pdSend k .accept).wr TCP.STAT_DROLE 0 k).pdFollow false
    else if h.on TCP.CFG_DR_ACCEPT k then ((h.pdSend k .accept).wr TCP.STAT_DROLE 1 k).pdFollow false
    else h.pdSend k .reject := rfl

theorem Hub.Canon.pdMessage_drSwap_shows (C : h.Canon) :
    let g := h.pdMessage k .drSwap
    (h.on TCP.hMode k = true → g.rd TCP.CNT_A_HRESET k = h.oneMore TCP.CNT_A_HRESET k ∧
      g.rd TCP.STAT_DROLE k = h.rd TCP.STAT_PROLE k % 2) ∧
    (h.on TCP.hMode k = false → h.rd TCP.STAT_DROLE k = 1 → g.rd TCP.STAT_DROLE k = 0 ∧ Hub.PdSends h g k [.accept]) ∧
    (h.on TCP.hMode k = false → h.rd TCP.STAT_DROLE k ≠ 1 → h.on TCP.CFG_DR_ACCEPT k = true →
      g.rd TCP.STAT_DROLE k = 1 ∧ Hub.PdSends h g k [.accept]) ∧
    (h.on TCP.hMode k = false → h.rd TCP.STAT_DROLE k ≠ 1 → h.on TCP.CFG_DR_ACCEPT k = false →
      Hub.SameBut [Kind.pdOut] h g ∧ Hub.PdSends h g k [.reject]) := by
  dsimp only
  rw [pdMessage_drSwap]
  refine ⟨fun mode => ?_, fun none down => ?_, fun none up ok => ?_, fun none up no => ?_⟩
  · rw [mode, if_pos rfl]
    obtain ⟨-, -, role, count, -⟩ := (C.pdSend (k := k) (m := .hardReset)).pdReset_shows (k := k)
    exact ⟨count, role⟩
  · rw [none, if_neg Bool.false_ne_true, if_pos down]
    exact C.roleSwapped_shows 0 (by decide)
  · rw [none, if_neg Bool.false_ne_true, if_neg up, ok, if_pos rfl]
    exact C.roleSwapped_shows 1 (by decide)
  · rw [none, if_neg Bool.false_ne_true, if_neg up, no, if_neg Bool.false_ne_true]
    exact ⟨pdSend_sameBut, pdSend_out⟩

/-- A sink that becomes the source. -/
def Hub.sourceTaken (h : Hub) (k : Fin 2) : Hub := (((h.pdSend k .accept).wr TCP.STAT_PROLE 0 k).pdDrop k).portFollows k false

theorem pdMessage_prSwap : h.pdMessage k .prSwap =
    if h.rd TCP.STAT_PROLE k == 0 || h.bootFed then h.pdSend k .reject else (h.sourceTaken k).capsTold k := rfl

theorem Hub.Canon.pdMessage_prSwap_shows (C : h.Canon) :
    let g := h.pdMessage k .prSwap
    (h.rd TCP.STAT_PROLE k ≠ 0 → h.bootFed = false → g.rd TCP.STAT_PROLE k = 0 ∧ g.rd TCP.STAT_CONTRACT k = 0 ∧
      Hub.PdSends h g k (.accept :: (if g.on TCP.hVen k then [.sourceCaps (g.pdOffer k)] else []))) ∧
    (h.rd TCP.STAT_PROLE k = 0 ∨ h.bootFed = true → Hub.SameBut [Kind.pdOut] h g ∧ Hub.PdSends h g k [.reject]) := by
  dsimp only
  rw [pdMessage_prSwap]
  refine ⟨fun sink fed => ?_, fun no => ?_⟩
  · have W : ((h.pdSend k .accept).wr TCP.STAT_PROLE 0 k).Canon := C.pdSend.wr
    have offer : ((h.sourceTaken k).capsTold k).pdOffer k = (h.sourceTaken k).pdOffer k := pdOffer_of_rd fun _ _ _ _ => rd_capsTold
    have ven : ((h.sourceTaken k).capsTold k).on TCP.hVen k = (h.sourceTaken k).on TCP.hVen k := on_of_rd rd_capsTold
    rw [beq_eq_false_iff_ne.2 sink, fed, Bool.or_self, if_neg Bool.false_ne_true]
    refine ⟨?_, ?_, ?_⟩
    · rw [rd_capsTold, Hub.sourceTaken, rd_portFollows_apart (by decide), rd_pdDrop_apart (by decide), C.pdSend.rd_wr]
      rfl
    · rw [rd_capsTold]
      exact W.pdDrop.portFollows_ended W.rd_pdDrop
    · have out : Tab.get [] k.val (h.sourceTaken k).pdOut = Tab.get [] k.val h.pdOut ++ [.accept] :=
        (congrArg (Tab.get [] k.val) portFollows_out).trans pdSend_out
      rw [Hub.PdSends, offer, ven, capsTold_out, out, List.append_assoc]
      rfl
  · have refused : (h.rd TCP.STAT_PROLE k == 0 || h.bootFed) = true := by
      rw [Bool.or_eq_true, beq_iff_eq]
      exact no
    rw [refused, if_pos rfl]
    exact ⟨pdSend_sameBut, pdSend_out⟩

theorem pdMessage_vconnSwap : h.pdMessage k .vconnSwap =
    if h.on TCP.STAT_VCONN_ON k then (h.pdSend k .accept).wr TCP.STAT_VCONN_ON 0 k
    else if h.on TCP.CFG_VCONN_EN k then (h.pdSend k .accept).wr TCP.STAT_VCONN_ON 1 k
    else h.pdSend k .reject := rfl

theorem Hub.Canon.pdMessage_vconnSwap_shows (C : h.Canon) :
    let g := h.pdMessage k .vconnSwap
    let ok := h.on TCP.STAT_VCONN_ON k || h.on TCP.CFG_VCONN_EN k
    (ok = true → g.rd TCP.STAT_VCONN_ON k = bnat (!h.on TCP.STAT_VCONN_ON k)) ∧
      (ok = false → g.rd TCP.STAT_VCONN_ON k = h.rd TCP.STAT_VCONN_ON k) ∧ Hub.PdSends h g k [if ok then .accept else .reject] := by
  dsimp only
  rw [pdMessage_vconnSwap]
  cases on : h.on TCP.STAT_VCONN_ON k
  · rw [if_neg Bool.false_ne_true]
    cases en : h.on TCP.CFG_VCONN_EN k
    · rw [if_neg Bool.false_ne_true]
      exact ⟨fun no => absurd no (by decide), fun _ => rfl, pdSend_out⟩
    · exact ⟨fun _ => C.pdSend.rd_wr, fun no => absurd no (by decide), pdSend_out⟩
  · exact ⟨fun _ => C.pdSend.rd_wr, fun no => absurd no (by rw [Bool.true_or]; decide), pdSend_out⟩

theorem pdMessage_sourceCaps : h.pdMessage k .sourceCaps =
    if h.rd TCP.STAT_PROLE k == 0 then h.pdSend k .notSupported else (h.pdSend k (.request 100)).pdContract k 1 10 := rfl

theorem Hub.Canon.pdMessage_sourceCaps_shows (C : h.Canon) :
    let g := h.pdMessage k .sourceCaps
    (h.rd TCP.STAT_PROLE k ≠ 0 → g.rd TCP.STAT_CONTRACT k = 1 ∧ g.rd TCP.RDO_PDO k = 1 ∧ g.rd TCP.RDO_CUR k = 10 ∧
      g.bit HDR.ISTAT 1 (0xB8 + k) = true ∧ Hub.PdSends h g k [.request 100]) ∧
    (h.rd TCP.STAT_PROLE k = 0 → Hub.SameBut [Kind.pdOut] h g ∧ Hub.PdSends h g k [.notSupported]) := by
  dsimp only
  rw [pdMessage_sourceCaps]
  refine ⟨fun sink => ?_, fun source => ?_⟩
  · obtain ⟨agreed, num, cur, told, out⟩ := (C.pdSend (k := k) (m := .request 100)).pdContract_shows (k := k) 1 10
    rw [beq_eq_false_iff_ne.2 sink, if_neg Bool.false_ne_true]
    exact ⟨agreed, num, cur, told, (congrArg (Tab.get [] k.val) out).trans pdSend_out⟩
  · rw [source, beq_self_eq_true, if_pos rfl]
    exact ⟨pdSend_sameBut, pdSend_out⟩

theorem pdMessage_getSourceCap : h.pdMessage k .getSourceCap =
    h.pdSend k (if h.rd TCP.STAT_PROLE k == 0 then .sourceCaps (h.pdOffer k) else .notSupported) := rfl

theorem pdMessage_getSourceCap_shows :
    Hub.SameBut [Kind.pdOut] h (h.pdMessage k .getSourceCap) ∧ Hub.PdSends h (h.pdMessage k .getSourceCap) k
      [if h.rd TCP.STAT_PROLE k = 0 then .sourceCaps (h.pdOffer k) else .notSupported] := by
  rw [pdMessage_getSourceCap]
  refine ⟨pdSend_sameBut, pdSend_out.trans ?_⟩
  simp only [beq_iff_eq]

theorem pdMessage_softReset : h.pdMessage k .softReset = (h.pdSend k .accept).when (h.rd TCP.STAT_PROLE k == 0 && h.on TCP.hVen k) fun h =>
    h.pdSend k (.sourceCaps (h.pdOffer k)) := rfl

theorem pdMessage_softReset_shows :
    Hub.SameBut [Kind.pdOut] h (h.pdMessage k .softReset) ∧ Hub.PdSends h (h.pdMessage k .softReset) k
      (.accept :: (if h.rd TCP.STAT_PROLE k = 0 ∧ h.on TCP.hVen k = true then [.sourceCaps (h.pdOffer k)] else [])) := by
  rw [pdMessage_softReset]
  by_cases tells : h.rd TCP.STAT_PROLE k = 0 ∧ h.on TCP.hVen k = true
  · rw [if_pos tells, tells.1, tells.2, beq_self_eq_true, Bool.and_self, Hub.when_true]
    exact ⟨Hub.Same.sameBut (pdAlone_refl h).pdSend.pdSend, pdSend_out.trans (by rw [pdSend_out, List.append_assoc]; rfl)⟩
  · have silent : (h.rd TCP.STAT_PROLE k == 0 && h.on TCP.hVen k) = false := by
      rw [← Bool.not_eq_true, Bool.and_eq_true, beq_iff_eq]
      exact tells
    rw [if_neg tells, silent, Hub.when_false]
    exact ⟨pdSend_sameBut, pdSend_out⟩

theorem pdMessage_enterMode : h.pdMessage k .enterMode =
    if h.on TCP.CFG_ALTMODE_EN k then (h.pdSend k .vdmAck).wr TCP.hMode 1 k else h.pdSend k .vdmNak := rfl

theorem Hub.Canon.pdMessage_enterMode_shows (C : h.Canon) :
    let g := h.pdMessage k .enterMode
    g.rd TCP.hMode k = (if h.on TCP.CFG_ALTMODE_EN k then 1 else h.rd TCP.hMode k) ∧
      Hub.PdSends h g k [if h.on TCP.CFG_ALTMODE_EN k then .vdmAck else .vdmNak] := by
  dsimp only
  rw [pdMessage_enterMode]
  cases h.on TCP.CFG_ALTMODE_EN k
  · exact ⟨rfl, pdSend_out⟩
  · exact ⟨C.pdSend.rd_wr, pdSend_out⟩

theorem pdMessage_exitMode : h.pdMessage k .exitMode =
    if h.on TCP.hMode k then (h.pdSend k .vdmAck).altExit k else h.pdSend k .vdmNak := rfl

theorem Hub.Canon.pdMessage_exitMode_shows (C : h.Canon) :
    let g := h.pdMessage k .exitMode
    (h.on TCP.hMode k = true → g.rd TCP.STAT_ALTMODE k = 0 ∧ g.rd TCP.hMode k = 0) ∧
      Hub.PdSends h g k [if h.on TCP.hMode k then .vdmAck else .vdmNak] := by
  dsimp only
  rw [pdMessage_exitMode]
  cases h.on TCP.hMode k
  · exact ⟨fun no => absurd no Bool.false_ne_true, pdSend_out⟩
  · exact ⟨fun _ => C.pdSend.rd_altExit, (congrArg (Tab.get [] k.val) (Hub.altExit_same.pdOut (by decide))).trans pdSend_out⟩

/-! ### DisplayPort (R381, R537) -/

theorem Hub.Canon.dpConfigure_shows (C : h.Canon) (pinD : Bool) :
    let g := h.dpConfigure k pinD
    g.rd TCP.STAT_ALTMODE k = 1 ∧ g.rd TCP.STAT_PIN_D k = bnat pinD ∧ g.bit HDR.ISTAT 2 (0xB8 + k) = true ∧
      (h.up (0x75 + k) = true → g.rd DCP.LINK_PIN_D k = bnat pinD) ∧ Hub.PdSends h g k [.vdmAck] := by
  have S : (h.pdSend k .vdmAck).Canon := C.pdSend
  have A : (((h.pdSend k .vdmAck).wr TCP.STAT_ALTMODE 1 k |>.wr TCP.STAT_PIN_D (bnat pinD) k).irq (0xB8 + k) 2).Alarm HDR.ISTAT 2 (0xB8 + k) :=
    S.wr.wr.alarm_irq (noIrq_tcp k) (by decide)
  unfold Hub.dpConfigure
  refine ⟨?_, ?_, (A.when (A.wr (by decide))).bit, fun up => ?_, ?_⟩
  · rw [rd_when_of_rd (rd_wr_place (by decide)), rd_irq_place (by decide), rd_wr_place (by decide), S.rd_wr]
    rfl
  · rw [rd_when_of_rd (rd_wr_place (by decide)), rd_irq_place (by decide), S.wr.rd_wr]
    exact bnat_mod_two _
  · rw [up, Hub.when_true, A.canon.rd_wr]
    exact bnat_mod_two _
  · have out : (((h.pdSend k .vdmAck).wr TCP.STAT_ALTMODE 1 k |>.wr TCP.STAT_PIN_D (bnat pinD) k).irq (0xB8 + k) 2).pdOut =
        (h.pdSend k .vdmAck).pdOut := Hub.irq_same.pdOut (by decide)
    have kept := keep_when (P := fun g => g.pdOut = (h.pdSend k .vdmAck).pdOut) (c := h.up (0x75 + k))
      (f := fun h => h.wr DCP.LINK_PIN_D (bnat pinD) k) (fun g e => e) out
    exact (congrArg (Tab.get [] k.val) kept).trans pdSend_out

theorem Hub.Canon.hpdWrite_shows (C : h.Canon) (hpd : Bool) :
    let g := h.hpdWrite k hpd
    g.rd DCP.CTL_HPD k = bnat hpd ∧
      Hub.PdSends h g k (if h.on DCP.CTL_HPD k != hpd && h.on TCP.STAT_ALTMODE k then [.dpStatus hpd] else []) := by
  unfold Hub.hpdWrite
  dsimp only
  refine ⟨(rd_when_of_rd rd_pdSend).trans (C.rd_wr.trans (bnat_mod_two _)), ?_⟩
  cases h.on DCP.CTL_HPD k != hpd && h.on TCP.STAT_ALTMODE k
  · exact (List.append_nil _).symm
  · exact pdSend_out (h := h.wr DCP.CTL_HPD (bnat hpd) k)

/-! ### Faults (R541) -/

theorem Hub.Canon.vbusFault_shows (C : h.Canon) (f : VbusFault) : (h.vbusFault k f).bit HDR.ESTAT (match f with
    | .overVoltage => 0 | .overCurrent => 1 | .vconnOverCurrent => 2 | .ccOverVoltage => 3 | .converter => 4) (0xB8 + k) = true := by
  have small : (match f with
    | .overVoltage => 0 | .overCurrent => 1 | .vconnOverCurrent => 2 | .ccOverVoltage => 3 | .converter => 4) < 32 := by
    cases f <;> decide
  exact C.bit_raise (secondPage_tcp k) small

end

/-! ### The commands as the settling proof meets them -/

theorem exec_typecAttach_gone (k : Fin 2) (cc2 sink ufp em frs : Bool) (s : State) : exec (.typecAttach k false cc2 sink ufp em frs) s =
    s.act fun h => h.when (h.up (0xB8 + k)) fun h => h.pdDetach k := by
  have e : exec (.typecAttach k false cc2 sink ufp em frs) s = s.act fun h => h.when (h.up (0xB8 + k)) fun h => if false then
      h.when (h.on TCP.CFG_PROLE k && decide (h.rd TCP.hAway k ≤ h.cyc) && (!sink || h.rd TCP.CFG_PROLE k == 2)) fun h =>
        h.pdAttach k cc2 sink ufp em frs
      else h.pdDetach k := rfl
  rw [e]
  simp only [Bool.false_eq_true, if_false]

/-- What node `g` is after a hard reset that node `h` sent from port `k`. -/
def Hub.HardResetBy (h g : Hub) (k : Fin 2) : Prop :=
  g.rd TCP.STAT_CONTRACT k = 0 ∧ g.rd TCP.STAT_ALTMODE k = 0 ∧ g.rd TCP.STAT_DROLE k = h.rd TCP.STAT_PROLE k % 2 ∧
    g.rd TCP.CNT_A_HRESET k = h.oneMore TCP.CNT_A_HRESET k ∧ g.bit HDR.ISTAT 4 (0xB8 + k) = true ∧
    Hub.PdSends h g k (.hardReset :: (if g.on TCP.hVen k then [.sourceCaps (g.pdOffer k)] else []))

theorem Hub.Canon.hardReset_shows {h : Hub} {k : Fin 2} (C : h.Canon) : h.HardResetBy ((h.pdSend k .hardReset).pdReset k) k := by
  obtain ⟨ended, alt, role, count, told, out⟩ := (C.pdSend (k := k) (m := .hardReset)).pdReset_shows (k := k)
  refine ⟨ended, alt, role, count, told, out.trans ?_⟩
  rw [pdSend_out, List.append_assoc, List.singleton_append]

/-- A hard reset by a write of the node. -/
theorem hardResetBy_written {h : Hub} {r : Req} {f : Hub → Hub} {k : Fin 2} (e : (h.dropLatch r.master).HardResetBy (f (h.dropLatch r.master)) k) :
    h.HardResetBy (h.written r f) k := e

end Sys2Proof.Machine

open Sys2Proof Sys2Proof.Machine

/-- Settles O22, clause by clause: attachment, swaps, resets, contracts and modes of a Type-C port. -/
theorem typeCCommandsComplete : Obligations.TypeCCommandsComplete := by
  intro s I
  have C : s.hub.Canon := I
  have CL (m : MasterId) : (s.hub.dropLatch m).Canon := C.dropLatch
  refine ⟨?attach, ?attachNot, ?detach, ?detachIdle, ?swap, ?swapNot, ?configure, ?reset, ?resetIdle, ?told, ?hpd, ?request, ?hardReset,
    ?drSwap, ?prSwap, ?vconnSwap, ?sourceCaps, ?getSourceCap, ?softReset, ?discover, ?enter, ?leave, ?emarker, ?unsupported, ?nobody,
    ?fault⟩
  case attach =>
    intro k cc2 sink ufp em frs up role away drp
    refine completes_when (p := fun h => h.up (0xB8 + k)) (f := fun _ h => h.when (h.on TCP.CFG_PROLE k && decide (h.rd TCP.hAway k ≤ h.cyc) &&
      (!sink || h.rd TCP.CFG_PROLE k == 2)) fun h => h.pdAttach k cc2 sink ufp em frs) rfl up ?_
    have may : (!sink || s.hub.rd TCP.CFG_PROLE k == 2) = true := by
      cases sink
      · rfl
      · rw [drp rfl]
        rfl
    rw [role, decide_eq_true away, may, Bool.and_self, Bool.and_self, Hub.when_true]
    exact C.pdAttach_shows
  case attachNot =>
    intro k cc2 sink ufp em frs no
    refine completes_act (f := fun h => h.when (h.up (0xB8 + k)) fun h => h.when (h.on TCP.CFG_PROLE k && decide (h.rd TCP.hAway k ≤ h.cyc) &&
      (!sink || h.rd TCP.CFG_PROLE k == 2)) fun h => h.pdAttach k cc2 sink ufp em frs) rfl ?_
    have refused : (s.hub.on TCP.CFG_PROLE k && decide (s.hub.rd TCP.hAway k ≤ s.hub.cyc) && (!sink || s.hub.rd TCP.CFG_PROLE k == 2)) = false := by
      rcases no with off | early | ⟨asked, only⟩
      · rw [off, Bool.false_and, Bool.false_and]
      · rw [decide_eq_false (Nat.not_le.2 early), Bool.and_false, Bool.false_and]
      · rw [asked, beq_eq_false_iff_ne.2 only, Bool.not_true, Bool.or_self, Bool.and_false]
    exact when_self (by rw [refused, Hub.when_false])
  case detach =>
    exact fun k cc2 sink ufp em frs up att => completes_when (p := fun h => h.up (0xB8 + k)) (f := fun _ h => h.pdDetach k)
      (exec_typecAttach_gone ..) up (C.pdDetach_shows att)
  case detachIdle =>
    intro k cc2 sink ufp em frs idle
    exact completes_act (f := fun h => h.when (h.up (0xB8 + k)) fun h => h.pdDetach k) (exec_typecAttach_gone ..)
      (when_self (pdDetach_of_idle idle))
  case swap =>
    intro k up att source whole falls
    have low : (s.hub.rd PDM.STATE_CURRENT == 2 || decide (s.hub.rd BUS.VBUS_MV < s.hub.rd CLP.FS_SF_DV * 100)) = true := by
      rw [Bool.or_eq_true, beq_iff_eq, decide_eq_true_eq]
      exact falls
    exact completes_when (p := fun h => h.up (0xB8 + k) && h.on TCP.STAT_ATTACHED k && h.rd TCP.STAT_PROLE k == 0 && !h.on TCP.hCut k &&
      (h.rd PDM.STATE_CURRENT == 2 || decide (h.rd BUS.VBUS_MV < h.rd CLP.FS_SF_DV * 100))) (f := fun _ h => h.fastRoleSwap k) rfl
      (by rw [up, att, source, whole, low]; rfl) C.fastRoleSwap_shows
  case swapNot =>
    intro k no
    refine completes_act (f := fun h => h.when (h.up (0xB8 + k) && h.on TCP.STAT_ATTACHED k && h.rd TCP.STAT_PROLE k == 0 &&
      !h.on TCP.hCut k && (h.rd PDM.STATE_CURRENT == 2 || decide (h.rd BUS.VBUS_MV < h.rd CLP.FS_SF_DV * 100))) fun h => h.fastRoleSwap k) rfl ?_
    have refused : (s.hub.up (0xB8 + k) && s.hub.on TCP.STAT_ATTACHED k && s.hub.rd TCP.STAT_PROLE k == 0 && !s.hub.on TCP.hCut k &&
        (s.hub.rd PDM.STATE_CURRENT == 2 || decide (s.hub.rd BUS.VBUS_MV < s.hub.rd CLP.FS_SF_DV * 100))) = false := by
      rcases no with off | sink | cut | ⟨calm, high⟩
      · rw [off, Bool.and_false, Bool.false_and, Bool.false_and, Bool.false_and]
      · rw [beq_eq_false_iff_ne.2 sink, Bool.and_false, Bool.false_and, Bool.false_and]
      · rw [cut, Bool.not_true, Bool.and_false, Bool.false_and]
      · rw [beq_eq_false_iff_ne.2 calm, decide_eq_false (Nat.not_lt.2 high), Bool.or_self, Bool.and_false]
    rw [refused, Hub.when_false]
  case configure =>
    intro k pinD up att
    refine completes_when (p := fun h => h.up (0xB8 + k) && h.on TCP.STAT_ATTACHED k)
      (f := fun _ h => if h.on TCP.hMode k && h.on TCP.CFG_ALTMODE_EN k then h.dpConfigure k pinD else h.pdSend k .vdmNak) rfl
      (by rw [up, att]; rfl) ⟨fun mode en => ?_, fun no => ?_⟩
    · rw [mode, en, Bool.and_self, if_pos rfl]
      exact C.dpConfigure_shows pinD
    · have refused : (s.hub.on TCP.hMode k && s.hub.on TCP.CFG_ALTMODE_EN k) = false := by
        rw [Bool.and_eq_false_iff]
        exact no
      rw [refused, if_neg Bool.false_ne_true]
      exact ⟨pdSend_sameBut, pdSend_out⟩
  case reset =>
    intro r k G up att
    have attempt : ((s.hub.dropLatch r.master).up (0xB8 + k) && (s.hub.dropLatch r.master).on TCP.STAT_ATTACHED k) = true :=
      (congrArg₂ and up att).trans rfl
    refine completes_reg_when (p := fun h => h.up (0xB8 + k) && h.on TCP.STAT_ATTACHED k)
      (f := fun _ h => (h.pdSend k .hardReset).pdReset k) rfl G attempt ?_
    exact hardResetBy_written (CL r.master).hardReset_shows
  case resetIdle =>
    exact fun r k G idle => completes_reg_idle (p := fun h => h.up (0xB8 + k) && h.on TCP.STAT_ATTACHED k)
      (f := fun _ h => (h.pdSend k .hardReset).pdReset k) rfl G ((congrArg (and _) idle).trans (Bool.and_false _)) rfl
  case told =>
    intro r k G up
    have shows := (CL r.master).detachTold_shows (k := k)
    rw [Hub.dropLatch_cyc] at shows
    obtain ⟨gone, away, ended⟩ := shows
    refine completes_reg_when (p := fun h => h.up (0xB8 + k)) (f := fun _ h => h.detachTold k) (exec_typecDetach r k s) G up
      ⟨(Hub.written_rd _ _ _ _ _ _).trans gone, (Hub.written_rd _ _ _ _ _ _).trans away, fun att => ?_⟩
    exact ⟨(Hub.written_rd _ _ _ _ _ _).trans (ended att).1, (bit_of_rd (Hub.written_rd _ _ _ _ _ _)).trans (ended att).2⟩
  case hpd =>
    exact fun r k hpd G => completes_reg (f := fun h => h.hpdWrite k hpd) rfl G ((CL r.master).hpdWrite_shows hpd)
  case request => exact fun k pdo ma up att => completes_pdMessage up att (C.pdMessage_request_shows pdo ma)
  case hardReset => exact fun k up att => completes_pdMessage up att C.pdMessage_hardReset_shows
  case drSwap => exact fun k up att => completes_pdMessage up att C.pdMessage_drSwap_shows
  case prSwap => exact fun k up att => completes_pdMessage up att C.pdMessage_prSwap_shows
  case vconnSwap => exact fun k up att => completes_pdMessage up att C.pdMessage_vconnSwap_shows
  case sourceCaps => exact fun k up att => completes_pdMessage up att C.pdMessage_sourceCaps_shows
  case getSourceCap => exact fun k up att => completes_pdMessage up att pdMessage_getSourceCap_shows
  case softReset => exact fun k up att => completes_pdMessage up att pdMessage_softReset_shows
  case discover => exact fun k up att => completes_pdMessage up att ⟨pdSend_sameBut, pdSend_out⟩
  case enter => exact fun k up att => completes_pdMessage up att C.pdMessage_enterMode_shows
  case leave => exact fun k up att => completes_pdMessage up att C.pdMessage_exitMode_shows
  case emarker => exact fun k five up att => completes_pdMessage up att rfl
  case unsupported => exact fun k up att => completes_pdMessage up att ⟨pdSend_sameBut, pdSend_out⟩
  case nobody =>
    exact fun k m idle => completes_act (f := fun h => h.when (h.up (0xB8 + k) && h.on TCP.STAT_ATTACHED k) fun h => h.pdMessage k m) rfl
      (by rw [idle, Bool.and_false, Hub.when_false])
  case fault =>
    exact fun k f up => completes_when (p := fun h => h.up (0xB8 + k)) (f := fun _ h => h.vbusFault k f) rfl up (C.vbusFault_shows f)
end

section
/-! PROOFS. The boot ROM (R625): what a start leaves alone once the boot is noted and the root is made. -/

namespace Sys2Proof.Machine

open Sys2Proof

/-- What a start writes after its root is made, apart from the measurements. -/
def bootFlds : List Fld := [DBG.STAT_STATE, TOP.NODECFG_ROLE, TOP.NODECFG_CROWN_OK, AON.hRole, PCI.MODE_MODE, HDR.PCTL_EN, LPO.STAT_LATCHED,
  LPO.STAT_STATE, UPD.COPY_STATE, UPD.FLOOR_SVN, UPD.COPY_PCT, UPD.STAT_RECOVERY, UPD.ACTIVE_SVN, UPD.ACTIVE_SFMT, UPD.ACT_BUILD_BUILD,
  UPD.hFw, UPD.hNewBundle, UPD.hSfmt, KEY.MLOCK_LOCKED, KEY.FUSE_KEYPRES]

/-- The kinds of the boot ROM's own fields: the locket, the life cycle, the key engine and the update block. -/
abbrev bootKinds : List Nat := [Kind.lkt, Kind.lcs, Kind.lifeCycle, Kind.key, Kind.upd]

/-- Field `F` of the boot ROM, the life cycle, the locket or the key engine is none that a start writes after its root is made. -/
abbrev Fld.Booted (F : Fld) : Prop :=
  F.kind ∈ bootKinds ∧ (∀ G ∈ HDR.ISTAT :: LKT.CNT_LOST_COUNT :: bootFlds, G.place ≠ F.place) ∧
    ∀ j < 12, (KEY.MVAL.word j).place ≠ F.place

section

variable {h : Hub} {F : Fld} {i b : Nat}

theorem rd_raiseBit_booted (e : F.Booted) {pg n : Nat} {x : Cap} : (h.raiseBit pg n x).rd F i b = h.rd F i b :=
  Hub.raiseBit_rd ((by decide : ∀ k ∈ bootKinds, Nat.testBit 0x800000000000004000000000000000000000000000000000000000000000000000000000000000 k = false) _ e.1)

theorem rd_locketPut_booted (e : F.Booted) {r : LkRec} : (h.locketPut r).rd F i b = h.rd F i b := by
  have counted : (h.cnt LKT.CNT_LOST_COUNT).rd F i b = h.rd F i b := rd_cnt_place (e.2.1 _ (by decide))
  unfold Hub.locketPut
  split
  · exact rd_of_regs rfl F i b
  · dsimp only
    split
    · exact counted
    · exact (rd_raiseBit_booted e).trans counted

theorem rd_raise_booted (e : F.Booted) {pg n : Nat} {x : Cap} : (h.raise pg n x).rd F i b = h.rd F i b := by
  have summed : ((h.raiseBit pg n x).refreshSummary).rd F i b = h.rd F i b :=
    (rd_refreshSummary_place ((by decide : ∀ k ∈ bootKinds, k ≠ 112) _ e.1)).trans (rd_raiseBit_booted e)
  unfold Hub.raise
  split
  · rfl
  · dsimp only
    split
    · split
      · exact (rd_locketPut_booted e).trans summed
      · exact summed
    · exact rd_raiseBit_booted e

theorem rd_extend_booted (e : F.Booted) {k : Nat} {d : Bytes} : (h.extend k d).rd F i b = h.rd F i b := by
  unfold Hub.extend Hub.each
  rw [zipIdx_toWords, List.foldl_map]
  exact keep_foldl_mem (P := fun g => g.rd F i b = h.rd F i b)
    (fun g j m same => (rd_wr_place (e.2.2 j (List.mem_range.1 m))).trans same) rfl

/-- The hub and the upstream are none of the boot ROM's. -/
theorem rd_wr_usb_booted (e : F.Booted) {G : Fld} {v j c : Nat} (usb : G.kind = Kind.usb) : (h.wr G v j c).rd F i b = h.rd F i b := by
  refine rd_wr_key (key_ne_of_kind ?_ _ _ _ _)
  rw [usb]
  exact (by decide : ∀ k ∈ bootKinds, Kind.usb ≠ k) _ e.1

theorem rd_refreshUp_booted (e : F.Booted) : (h.refreshUp false).rd F i b = h.rd F i b := by
  have off (m : Nat) (apart : ∀ k ∈ bootKinds, m.testBit k = false) : m.testBit F.kind = false := apart _ e.1
  have chosen : h.upChosen.rd F i b = h.rd F i b :=
    keep_each (P := fun g => g.rd F i b = h.rd F i b)
      (fun _ _ same => (rd_when_of_rd (Hub.portEmpty_rd (off _ (by decide)))).trans same) (rd_wr_usb_booted e (by decide))
  have reset : h.upChosen.upReset.rd F i b = h.rd F i b :=
    (rd_wr_usb_booted e (G := USB.STAT_HS) (by decide)).trans ((rd_wr_usb_booted e (by decide)).trans ((Hub.hubReset_rd (off _ (by decide))).trans chosen))
  rw [refreshUp_eq]
  split
  · rfl
  · split
    · exact chosen
    · show (h.upChosen.upMoved (h.rd USB.STAT_UPACT)).rd F i b = h.rd F i b
      refine (rd_irq_place (e.2.1 _ (by decide))).trans ((rd_wr_usb_booted e (G := USB.CNT_UPCHG_COUNT) (by decide)).trans ((rd_when_of_rd ?_).trans reset))
      exact Hub.heldEndAll_rd (off _ (by decide))

end

/-! ### The parts of a start -/

/-- The boot noted, with the tamper record held for it. -/
def Hub.bootNoted (h : Hub) : Hub :=
  ((h.wr UPD.hBoot 1).wr LKT.BOOT_COUNT (h.rd LKT.BOOT_COUNT + 1)).when (h.on LKT.MARK_HI_VALID) fun h => h.raise 0xA 2

/-- Debug as the life cycle has it. -/
def Hub.bootDebug (h : Hub) : Hub :=
  let lc := h.rd LCS.STATE_LC
  let st := if lc = 1 ∨ lc = 2 ∨ lc = 3 ∨ lc = 5 then 1 else 0
  h.when (h.rd DBG.STAT_STATE != 2 && h.rd DBG.STAT_STATE != st) fun h => (h.wr DBG.STAT_STATE st).irq 0xC 0

/-- The root made, or its making failed. -/
def Hub.rooted (h : Hub) (pufOk : Bool) (corr : Nat) : Hub :=
  if pufOk then
    ({ h with root := padTo 32 (Config.hkdf (List.replicate 48 0) Config.rootSecret (ascii "ALS9640 ROOT")) } : Hub).wr
      KEY.ROOT_OK 1 |>.wr KEY.ROOT_PUF_CORR corr
  else h.raise 0xE 0

/-- M0 and M1 in a life cycle. -/
def Hub.bootMeasured (h : Hub) (lc : Nat) : Hub :=
  (h.extend 0 Config.romDigest).extend 1 (Config.fuseDigest lc (h.rd KEY.FUSE_KEYPRES) (h.rd KEY.FUSE_KEYREV))

/-- Step 4 of R625: RECOVERY, or the copy and Fjarosh's start. -/
def Hub.bootEnd (h : Hub) (cold : Bool) : Hub :=
  let badRole := cold && h.roleBad
  let lc := h.rd LCS.STATE_LC
  if lc = 6 ∨ ((lc = 1 ∨ lc = 2 ∨ lc = 3 ∨ lc = 5) ∧ h.on TOP.STRAPS_RECOV_N = false) then h.enterRecovery badRole
  else
    let h3 := h.bootCopy
    if h3.imageCheck 0 = 0 then h3.startFirmware badRole else h3.enterRecovery badRole

theorem boot_eq (h : Hub) (pufOk : Bool) (corr : Nat) :
    h.boot pufOk corr = ((h.bootNoted.bootRoot pufOk corr).bootBundle).bootEnd h.bootNoted.coldStart := rfl

/-- A config store of this life cycle is not wiped. -/
theorem bootRoot_of_stamp {h : Hub} (stamp : h.rd LCS.hStamp = h.rd LCS.STATE_LC) (pufOk : Bool) (corr : Nat) :
    h.bootRoot pufOk corr = (h.bootDebug.rooted pufOk corr).bootMeasured (h.rd LCS.STATE_LC) := by
  have kept : (h.when (h.rd LCS.hStamp != h.rd LCS.STATE_LC) Hub.wipeStore) = h := by
    rw [stamp, bne_self_eq_false]
    rfl
  unfold Hub.bootRoot
  rw [kept]
  rfl

/-- A property that a start keeps after its root is made. -/
structure BootKeeps (P : Hub → Prop) : Prop where
  canon : ∀ {h}, P h → h.Canon
  wr : ∀ {h F v i b}, F ∈ bootFlds → P h → P (h.wr F v i b)
  regs : ∀ {g h}, P h → g.Canon → g.regs = h.regs → g.root = h.root → P g
  irq : ∀ {h pg n}, P h → P (h.irq pg n)
  raise : ∀ {h pg n x}, P h → P (h.raise pg n x)
  locketPut : ∀ {h r}, P h → P (h.locketPut r)
  extend : ∀ {h i d}, P h → P (h.extend i d)
  refreshUp : ∀ {h}, P h → P (h.refreshUp false)
  refreshBus : ∀ {h}, P h → P h.refreshBus

/-- The configuration is loaded with no settings stored: the role alone is looked at. -/
theorem loadCfg_of_nil {h : Hub} (nil : h.cfg = []) : h.loadCfg =
    let bad := h.rd TOP.NODECFG_ROLE == 3 || (h.rd TOP.NODECFG_ROLE == 2 && h.on TOP.NODECFG_CROWN_OK)
    let h2 := h.when bad fun h => h.wr TOP.NODECFG_ROLE 2 |>.wr TOP.NODECFG_CROWN_OK 0
    (h2.wr AON.hRole (h2.rd TOP.NODECFG_ROLE + 4 * h2.rd TOP.NODECFG_CROWN_OK + 8)).pciRole.each ([0xA0, 0xC8].filter h.up) Hub.afterReset := by
  unfold Hub.loadCfg
  rw [nil]
  rfl

theorem afterReset_usb (h : Hub) : Hub.afterReset 0xA0 h = h.refreshUp false := by
  unfold Hub.afterReset
  simp

theorem afterReset_bus (h : Hub) : Hub.afterReset 0xC8 h = h.refreshBus := by
  unfold Hub.afterReset
  simp

namespace BootKeeps

variable {P : Hub → Prop} {h : Hub}

theorem when (_ : BootKeeps P) {c : Bool} {f : Hub → Hub} (H : P h) (e : P (f h)) : P (h.when c f) := by
  cases c
  · exact H
  · exact e

theorem locketOpen (K : BootKeeps P) (H : P h) {typ : Nat} : P (h.locketOpen typ) :=
  K.locketPut (K.regs H (Hub.free_canon (K.canon H)) rfl rfl)

theorem pciRole (K : BootKeeps P) (H : P h) : P h.pciRole := K.when H (K.wr (by decide) H)

theorem loadCfg (K : BootKeeps P) (H : P h) (nil : h.cfg = []) : P h.loadCfg := by
  rw [loadCfg_of_nil nil]
  refine keep_each_mem (fun pg m g G => ?_) (K.pciRole (K.wr (by decide) (K.when H (K.wr (by decide) (K.wr (by decide) H)))))
  rcases List.mem_cons.1 (List.mem_filter.1 m).1 with rfl | e
  · exact afterReset_usb g ▸ K.refreshUp G
  · exact (List.mem_singleton.1 e) ▸ afterReset_bus g ▸ K.refreshBus G

theorem setLpo (K : BootKeeps P) (H : P h) {n st : Nat} : P (h.setLpo n st) := by
  refine K.refreshBus ?_
  split
  · exact H
  · exact K.irq (K.wr (by decide) H)

theorem autoOn (K : BootKeeps P) (H : P h) {n : Nat} : P (Hub.autoOn n h) := by
  refine K.when H ?_
  have on : P (h.wr HDR.PCTL_EN 1 (0xC0 + n)) := K.wr (by decide) H
  unfold Hub.lpoEnable
  rw [if_neg (by decide)]
  split
  · exact on
  · exact K.setLpo (K.wr (by decide) on)

/-- Step 3 of R625 where no bundle is active and no settings are stored. -/
theorem bootBundle (K : BootKeeps P) (H : P h) (nil : h.cfg = []) (off : h.on UPD.hBundle = false) : P h.bootBundle := by
  unfold Hub.bootBundle
  rw [off]
  have measured : P (h.extend 4 (List.replicate 48 0)) := K.extend H
  exact K.when measured (keep_each (fun _ _ G => K.autoOn G) (K.loadCfg measured ((Hub.extend_same.cfg (by decide)).trans nil)))

theorem bootCopy (K : BootKeeps P) (H : P h) : P h.bootCopy := by
  have C := K.canon H
  unfold Hub.bootCopy
  split
  · exact H
  · split
    · exact K.raise (K.wr (by decide) H)
    · exact K.wr (by decide) (K.wr (by decide) (K.wr (by decide) (K.regs H ⟨C.regs, C.tab, C.fmem⟩ rfl rfl)))

theorem enterRecovery (K : BootKeeps P) (H : P h) {bad : Bool} : P (h.enterRecovery bad) :=
  K.when (K.locketOpen (K.wr (by decide) H)) (K.locketOpen (K.locketOpen (K.wr (by decide) H)))

theorem blowOem (K : BootKeeps P) (H : P h) {content : Bytes} : P (h.blowOem content) := by
  unfold Hub.blowOem
  dsimp only
  refine keep_when (P := P) (fun g G => ?_) H
  have C := K.canon G
  have signed : P { g with signers := Tab.ins (leAt content 0 1) (content.drop (content.length - 48)) g.signers } :=
    K.regs G ⟨C.regs, C.tab, C.fmem⟩ rfl rfl
  exact K.wr (by decide) signed

theorem firstStart (K : BootKeeps P) (H : P h) : P h.firstStart := by
  have noted : P (h.wr UPD.hNewBundle (if h.rd UPD.hNewBundle = 1 then 2 else 0)) := K.wr (by decide) H
  unfold Hub.firstStart
  dsimp only
  exact keep_when (P := P) (fun _ G => keep_each (fun _ _ G => keep_when (fun _ G => K.blowOem G) G) G) noted

/-- Fjarosh's start writes its version, its state and its records. -/
theorem startFirmware (K : BootKeeps P) (H : P h) {bad : Bool} : P (h.startFirmware bad) := by
  have opened {g : Hub} (c : Bool) (t : Nat) (G : P g) : P (g.when c fun h => h.locketOpen t) := K.when G (K.locketOpen G)
  have shown (a b c : Nat) (d e : Bytes) : P (((h.extend 2 d).extend 3 e).wr UPD.ACTIVE_SVN a |>.wr UPD.ACTIVE_SFMT b
      |>.wr UPD.ACT_BUILD_BUILD c |>.wr KEY.MLOCK_LOCKED 1 |>.wr UPD.hFw 1) :=
    K.wr (by decide) (K.wr (by decide) (K.wr (by decide) (K.wr (by decide) (K.wr (by decide) (K.extend (K.extend H))))))
  have formatted {g : Hub} (l : List (Nat × Nat)) (v : Nat) (G : P g) : P ((({ g with cfg := l } : Hub).wr UPD.hSfmt v).locketOpen 7) := by
    have C := K.canon G
    have set : P { g with cfg := l } := K.regs G ⟨C.regs, C.tab, C.fmem⟩ rfl rfl
    exact K.locketOpen (K.wr (by decide) set)
  unfold Hub.startFirmware
  dsimp only
  refine keep_when (P := P) (fun _ G => formatted _ _ G) (keep_when (P := P) (fun _ G => K.firstStart G) ?_)
  exact opened _ _ (opened _ _ (opened _ _ (K.locketPut (shown _ _ _ _ _))))

theorem bootEnd (K : BootKeeps P) (H : P h) {cold : Bool} : P (h.bootEnd cold) := by
  unfold Hub.bootEnd
  dsimp only
  split
  · exact K.enterRecovery H
  · split
    · exact K.startFirmware (K.bootCopy H)
    · exact K.enterRecovery (K.bootCopy H)

theorem bootMeasured (K : BootKeeps P) (H : P h) {lc : Nat} : P (h.bootMeasured lc) := K.extend (K.extend H)

theorem bootDebug (K : BootKeeps P) (H : P h) : P h.bootDebug :=
  keep_when (fun _ G => K.irq (K.wr (by decide) G)) H

/-! ### What it keeps -/

/-- A start leaves the boot ROM's other fields alone. -/
theorem of_rd {F : Fld} {i b v : Nat} (e : F.Booted) : BootKeeps fun g => g.Canon ∧ g.rd F i b = v where
  canon H := H.1
  wr m H := ⟨H.1.wr, (rd_wr_place (e.2.1 _ (List.mem_cons_of_mem _ (List.mem_cons_of_mem _ m)))).trans H.2⟩
  regs H C same _ := ⟨C, (rd_of_regs same F i b).trans H.2⟩
  irq H := ⟨Hub.irq_canon H.1, (rd_irq_place (e.2.1 _ List.mem_cons_self)).trans H.2⟩
  raise H := ⟨Hub.raise_canon H.1, (rd_raise_booted e).trans H.2⟩
  locketPut H := ⟨Hub.locketPut_canon H.1, (rd_locketPut_booted e).trans H.2⟩
  extend H := ⟨Hub.extend_canon H.1, (rd_extend_booted e).trans H.2⟩
  refreshUp H := ⟨Hub.refreshUp_canon H.1, (rd_refreshUp_booted e).trans H.2⟩
  refreshBus H := ⟨Hub.refreshBus_canon H.1, (Hub.refreshBus_rd
    ((by decide : ∀ k ∈ bootKinds, Nat.testBit 0x101010100000000000000000000000000000000000000000000 k = false) _ e.1)).trans H.2⟩

/-- A start leaves the alarms alone. -/
theorem of_alarm {F : Fld} {m q : Nat} : BootKeeps fun g => g.Alarm F m q where
  canon A := A.canon
  wr m A := A.wr ((by decide : ∀ G ∈ bootFlds, G.place ≠ HDR.ESTAT.place ∧ G.place ≠ HDR.ISTAT.place) _ m)
  regs A C same _ := A.of_regs C same
  irq A := A.irq
  raise A := A.raise
  locketPut A := A.locketPut
  extend A := A.of_rd (Hub.extend_canon A.canon) (Hub.extend_rd (by rcases A.fld with rfl | rfl <;> decide))
  refreshUp A := A.refreshUp
  refreshBus A := A.refreshBus

/-- A start leaves the root alone once it is made. -/
theorem of_root {r : Bytes} : BootKeeps fun g => g.Canon ∧ g.root = r where
  canon H := H.1
  wr _ H := ⟨H.1.wr, H.2⟩
  regs H C _ same := ⟨C, same.trans H.2⟩
  irq H := ⟨Hub.irq_canon H.1, (Hub.irq_same.root (by decide)).trans H.2⟩
  raise H := ⟨Hub.raise_canon H.1, (Hub.raise_same.root (by decide)).trans H.2⟩
  locketPut H := ⟨Hub.locketPut_canon H.1, (Hub.locketPut_same.root (by decide)).trans H.2⟩
  extend H := ⟨Hub.extend_canon H.1, (Hub.extend_same.root (by decide)).trans H.2⟩
  refreshUp H := ⟨Hub.refreshUp_canon H.1, (Hub.refreshUp_same.root (by decide)).trans H.2⟩
  refreshBus H := ⟨Hub.refreshBus_canon H.1, (Hub.refreshBus_same.root (by decide)).trans H.2⟩

end BootKeeps

/-! ### A start with no settings and no bundle -/

section

variable {h : Hub} {pufOk : Bool} {corr : Nat}

theorem Hub.Canon.bootNoted (C : h.Canon) : h.bootNoted.Canon := C.wr.wr.when (Hub.raise_canon C.wr.wr)

theorem Hub.Canon.bootDebug (C : h.Canon) : h.bootDebug.Canon := keep_when (fun _ C => Hub.irq_canon C.wr) C

theorem Hub.Canon.rooted (C : h.Canon) : (h.rooted pufOk corr).Canon := by
  have made (r : Bytes) : ({ h with root := r } : Hub).Canon := ⟨C.regs, C.tab, C.fmem⟩
  unfold Hub.rooted
  split
  · exact (made _).wr.wr
  · exact Hub.raise_canon C

theorem rd_bootNoted {F : Fld} (e : F.Booted) (boot : UPD.hBoot.place ≠ F.place) (count : LKT.BOOT_COUNT.place ≠ F.place) :
    h.bootNoted.rd F = h.rd F :=
  (rd_when_of_rd (rd_raise_booted e)).trans ((rd_wr_place count).trans (rd_wr_place boot))

theorem Hub.Canon.rd_bootDebug (C : h.Canon) {F : Fld} (e : F.Booted) : h.bootDebug.rd F = h.rd F :=
  ((BootKeeps.of_rd e).bootDebug ⟨C, rfl⟩).2

theorem rd_rooted {F : Fld} (e : F.Booted) (ok : KEY.ROOT_OK.place ≠ F.place) (corrs : KEY.ROOT_PUF_CORR.place ≠ F.place) :
    (h.rooted pufOk corr).rd F = h.rd F := by
  unfold Hub.rooted
  split
  · rw [rd_wr_place corrs, rd_wr_place ok]
    rfl
  · exact rd_raise_booted e

theorem cfg_rooted : (h.bootNoted.bootDebug.rooted pufOk corr).cfg = h.cfg := by
  have noted : h.bootNoted.cfg = h.cfg :=
    keep_when (P := fun g => g.cfg = h.cfg) (fun _ e => (Hub.raise_same.cfg (by decide)).trans e) rfl
  have debug : h.bootNoted.bootDebug.cfg = h.cfg :=
    keep_when (P := fun g => g.cfg = h.cfg) (fun _ e => (Hub.irq_same.cfg (by decide)).trans e) noted
  unfold Hub.rooted
  split
  · exact debug
  · exact (Hub.raise_same.cfg (by decide)).trans debug

/-- Steps 1 to 3 of R625. -/
theorem BootKeeps.bundled {P : Hub → Prop} (K : BootKeeps P) (C : h.Canon) (stamp : h.rd LCS.hStamp = h.rd LCS.STATE_LC) (nil : h.cfg = [])
    (off : h.on UPD.hBundle = false) (H : P (h.bootNoted.bootDebug.rooted pufOk corr)) :
    P (h.bootNoted.bootRoot pufOk corr).bootBundle := by
  have noted {F : Fld} (e : F.Booted) (boot : UPD.hBoot.place ≠ F.place) (count : LKT.BOOT_COUNT.place ≠ F.place) :
      h.bootNoted.rd F = h.rd F := rd_bootNoted e boot count
  have same : h.bootNoted.rd LCS.hStamp = h.bootNoted.rd LCS.STATE_LC := by
    rw [noted (by decide) (by decide) (by decide), noted (by decide) (by decide) (by decide), stamp]
  have R : (h.bootNoted.bootDebug.rooted pufOk corr).Canon := C.bootNoted.bootDebug.rooted
  have unbundled (lc : Nat) : ((h.bootNoted.bootDebug.rooted pufOk corr).bootMeasured lc).on UPD.hBundle = false := by
    refine (on_of_rd ?_).trans off
    rw [((BootKeeps.of_rd (by decide)).bootMeasured ⟨R, rfl⟩).2, rd_rooted (by decide) (by decide) (by decide),
      C.bootNoted.rd_bootDebug (by decide), noted (by decide) (by decide) (by decide)]
  have unset (lc : Nat) : ((h.bootNoted.bootDebug.rooted pufOk corr).bootMeasured lc).cfg = [] :=
    (Hub.extend_same.cfg (by decide)).trans ((Hub.extend_same.cfg (by decide)).trans (cfg_rooted.trans nil))
  rw [bootRoot_of_stamp same]
  exact K.bootBundle (K.bootMeasured H) (unset _) (unbundled _)

theorem BootKeeps.boot {P : Hub → Prop} (K : BootKeeps P) (C : h.Canon) (stamp : h.rd LCS.hStamp = h.rd LCS.STATE_LC) (nil : h.cfg = [])
    (off : h.on UPD.hBundle = false) (H : P (h.bootNoted.bootDebug.rooted pufOk corr)) : P (h.boot pufOk corr) := by
  rw [boot_eq]
  exact K.bootEnd (K.bundled C stamp nil off H)

end

end Sys2Proof.Machine
end

section
/-! PROOFS. The commands of boot, images and bundles (R624 to R637). -/

namespace Sys2Proof.Machine

open Sys2Proof

/-! ### Boot (R625) -/

section

variable {h : Hub} {pufOk : Bool} {corr : Nat}

/-- A start that neither loads nor wipes settings leaves what the noting and the root have left. -/
theorem Hub.Canon.boot_shows (C : h.Canon) (stamp : h.rd LCS.hStamp = h.rd LCS.STATE_LC) (nil : h.cfg = [])
    (off : h.on UPD.hBundle = false) :
    let g := h.boot pufOk corr
    g.rd UPD.hBoot = 1 ∧ g.rd LKT.BOOT_COUNT = (h.rd LKT.BOOT_COUNT + 1) % 2 ^ LKT.BOOT_COUNT.w ∧
      (h.on LKT.MARK_HI_VALID = true → g.bit HDR.ESTAT 2 0xA = true) ∧
      (pufOk = true → g.rd KEY.ROOT_OK = 1 ∧ g.rd KEY.ROOT_PUF_CORR = corr % 2 ^ KEY.ROOT_PUF_CORR.w ∧ g.root.length = 32) ∧
      (pufOk = false → g.bit HDR.ESTAT 0 0xE = true) := by
  have N : h.bootNoted.Canon := C.bootNoted
  have D : h.bootNoted.bootDebug.Canon := N.bootDebug
  have R : (h.bootNoted.bootDebug.rooted pufOk corr).Canon := D.rooted
  have made (r : Bytes) : ({ h.bootNoted.bootDebug with root := r } : Hub).Canon := ⟨D.regs, D.tab, D.fmem⟩
  have through {F : Fld} (e : F.Booted) {i b : Nat} :
      (h.boot pufOk corr).rd F i b = (h.bootNoted.bootDebug.rooted pufOk corr).rd F i b :=
    (BootKeeps.boot (BootKeeps.of_rd e) C stamp nil off ⟨R, rfl⟩).2
  have early {F : Fld} (e : F.Booted) (ok : KEY.ROOT_OK.place ≠ F.place) (corrs : KEY.ROOT_PUF_CORR.place ≠ F.place) :
      (h.boot pufOk corr).rd F = h.bootNoted.rd F := by rw [through e, rd_rooted e ok corrs, N.rd_bootDebug e]
  refine ⟨?_, ?_, fun held => ?_, fun ok => ⟨?_, ?_, ?_⟩, fun bad => ?_⟩
  · rw [early (by decide) (by decide) (by decide), Hub.bootNoted, rd_when_of_rd (rd_raise_booted (by decide)), rd_wr_place (by decide), C.rd_wr]
    rfl
  · rw [early (by decide) (by decide) (by decide), Hub.bootNoted, rd_when_of_rd (rd_raise_booted (by decide)), C.wr.rd_wr]
  · have noted : h.bootNoted.Alarm HDR.ESTAT 2 0xA := by
      unfold Hub.bootNoted
      rw [held]
      exact C.wr.wr.alarm_raise rfl (by decide)
    have rooted : (h.bootNoted.bootDebug.rooted pufOk corr).Alarm HDR.ESTAT 2 0xA := by
      have A := BootKeeps.of_alarm.bootDebug noted
      have still (r : Bytes) : ({ h.bootNoted.bootDebug with root := r } : Hub).Alarm HDR.ESTAT 2 0xA := A.of_regs (made r) rfl
      unfold Hub.rooted
      split
      · exact ((still _).wr (by decide)).wr (by decide)
      · exact A.raise
    exact (BootKeeps.boot BootKeeps.of_alarm C stamp nil off rooted).bit
  · subst ok
    rw [through (by decide), Hub.rooted, if_pos rfl, rd_wr_place (by decide), (made _).rd_wr]
    rfl
  · subst ok
    rw [through (by decide), Hub.rooted, if_pos rfl, (made _).wr.rd_wr]
  · subst ok
    rw [(BootKeeps.boot BootKeeps.of_root C stamp nil off ⟨R, rfl⟩).2]
    exact padTo_length _ _
  · subst bad
    exact (BootKeeps.boot BootKeeps.of_alarm C stamp nil off (D.alarm_raise rfl (by decide))).bit

theorem Hub.Canon.enterRecovery_shows (C : h.Canon) {bad : Bool} : (h.enterRecovery bad).rd UPD.STAT_RECOVERY = 1 := by
  have opened {g : Hub} {t : Nat} : (g.locketOpen t).rd UPD.STAT_RECOVERY = g.rd UPD.STAT_RECOVERY :=
    (Hub.locketPut_rd (by decide)).trans (rd_of_regs rfl _ _ _)
  unfold Hub.enterRecovery
  rw [rd_when_of_rd opened, opened, C.rd_wr]
  rfl

/-- A node at the end of its life starts in RECOVERY. -/
theorem Hub.Canon.boot_recovers (C : h.Canon) (stamp : h.rd LCS.hStamp = h.rd LCS.STATE_LC) (nil : h.cfg = [])
    (off : h.on UPD.hBundle = false) (lc : h.rd LCS.STATE_LC = 6) : (h.boot pufOk corr).rd UPD.STAT_RECOVERY = 1 := by
  have R : (h.bootNoted.bootDebug.rooted pufOk corr).Canon := C.bootNoted.bootDebug.rooted
  obtain ⟨B, last⟩ := BootKeeps.bundled (BootKeeps.of_rd (F := LCS.STATE_LC) (i := 0) (b := 0) (by decide)) C stamp nil off ⟨R, rfl⟩
  rw [rd_rooted (by decide) (by decide) (by decide), C.bootNoted.rd_bootDebug (by decide), rd_bootNoted (by decide) (by decide) (by decide)] at last
  rw [boot_eq, Hub.bootEnd]
  dsimp only
  rw [if_pos (.inl (last.trans lc))]
  exact B.enterRecovery_shows

end

end Sys2Proof.Machine
end

section
/-! PROOFS. The landing, verification and activation of images and bundles, and the bundle decrypt engine (R627 to R637). -/

namespace Sys2Proof.Machine

open Sys2Proof

variable {h : Hub}

/-! ### The state of the update block (R641) -/

/-- Field `F` does not follow the state of the update block. -/
abbrev Fld.OffUpd (F : Fld) : Prop := ∀ G ∈ UPD.STAT_STATE :: HDR.ISTAT :: slotShown, G.place ≠ F.place

theorem rd_setUpd_apart {st : Nat} {F : Fld} {i b : Nat} (off : F.OffUpd) : (h.setUpd st).rd F i b = h.rd F i b := by
  unfold Hub.setUpd
  split
  · rfl
  · rw [rd_refreshSlots_place fun G m => off G (List.mem_cons_of_mem _ (List.mem_cons_of_mem _ m)),
      rd_irq_place (off _ (by decide)), rd_wr_place (off _ (by decide))]

theorem Hub.Canon.rd_setUpd (C : h.Canon) {st : Nat} (small : st < 8) : (h.setUpd st).rd UPD.STAT_STATE = st := by
  unfold Hub.setUpd
  split
  · assumption
  · rw [rd_refreshSlots_place (by decide), rd_irq_place (by decide), C.rd_wr]
    exact Nat.mod_eq_of_lt small

theorem Hub.Alarm.refreshSlots {F : Fld} {m q : Nat} (A : h.Alarm F m q) : h.refreshSlots.Alarm F m q :=
  A.of_rd (Hub.refreshSlots_canon A.canon) (Hub.refreshSlots_rd (by rcases A.fld with rfl | rfl <;> decide))

theorem Hub.Alarm.setUpd {F : Fld} {m q st : Nat} (A : h.Alarm F m q) : (h.setUpd st).Alarm F m q := by
  unfold Hub.setUpd
  split
  · exact A
  · exact (A.wr (by decide)).irq.refreshSlots

/-- A change of the state is told. -/
theorem Hub.Canon.setUpd_told (C : h.Canon) {st : Nat} (change : h.rd UPD.STAT_STATE ≠ st) : (h.setUpd st).Alarm HDR.ISTAT 1 0xF := by
  rw [Hub.setUpd, if_neg change]
  exact (C.wr.alarm_irq rfl (by decide)).refreshSlots

/-- An update record that is armed is cleared. -/
theorem Hub.Canon.clearRecord_shows (C : h.Canon) (armed : h.rd UPD.COPY_STATE = 1) : h.clearRecord.rd UPD.COPY_STATE = 0 := by
  rw [Hub.clearRecord, armed]
  exact C.rd_wr

theorem Hub.Canon.clearRecord (C : h.Canon) : h.clearRecord.Canon := C.when C.wr

theorem rd_clearRecord_apart {F : Fld} {i b : Nat} (e : UPD.COPY_STATE.place ≠ F.place) : h.clearRecord.rd F i b = h.rd F i b :=
  rd_when_of_rd (rd_wr_place e)

/-! ### Landing (R627 to R629) -/

theorem spareArea_lt (h : Hub) : h.spareArea < 2 ^ 64 := by
  unfold Hub.spareArea
  split <;> decide

/-- A landing that starts is empty, and aims where it was told. -/
theorem Hub.Canon.updStart_shows (C : h.Canon) (bundle : Bool) :
    let g := h.updStart bundle
    g.rd UPD.STAT_STATE = 1 ∧ g.rd UPD.LANDED_COUNT = 0 ∧ g.landed = [] ∧ g.rd UPD.CTL_TARGET = h.rd UPD.CTL_TARGET ∧
      g.rd UPD.hArea = (if bundle then h.spareArea else 1) ∧ (h.rd UPD.COPY_STATE = 1 → g.rd UPD.COPY_STATE = 0) := by
  have A : (h.clearRecord.wr UPD.hArea (if bundle then h.spareArea else 1)).Canon := C.clearRecord.wr
  have B : (h.clearRecord.wr UPD.hArea (if bundle then h.spareArea else 1) |>.wr UPD.LANDED_COUNT 0).Canon := A.wr
  have E : ({ h.clearRecord.wr UPD.hArea (if bundle then h.spareArea else 1) |>.wr UPD.LANDED_COUNT 0 with landed := [] } : Hub).Canon :=
    ⟨B.regs, B.tab, B.fmem⟩
  have same {F : Fld} (off : F.OffUpd) : (h.updStart bundle).rd F =
      (h.clearRecord.wr UPD.hArea (if bundle then h.spareArea else 1) |>.wr UPD.LANDED_COUNT 0).rd F :=
    (rd_setUpd_apart off).trans (rd_of_regs rfl F 0 0)
  refine ⟨E.rd_setUpd (by decide), ?_, Hub.setUpd_same.landed (by decide), ?_, ?_, fun armed => ?_⟩
  · rw [same (by decide), A.rd_wr]
    rfl
  · rw [same (by decide), rd_wr_place (by decide), rd_wr_place (by decide), rd_clearRecord_apart (by decide)]
  · rw [same (by decide), rd_wr_place (by decide), C.clearRecord.rd_wr]
    refine Nat.mod_eq_of_lt (show _ < 2 ^ 64 from ?_)
    split
    · exact spareArea_lt h
    · decide
  · rw [same (by decide), rd_wr_place (by decide), rd_wr_place (by decide), C.clearRecord_shows armed]

/-- A landing that fails. -/
theorem Hub.Canon.blockFail_shows (C : h.Canon) {code : Nat} (small : code < 16) :
    let g := h.blockFail code
    g.rd UPD.BLKSTAT_DONE = 3 ∧ g.rd UPD.BLKSTAT_CODE = code ∧ g.bit HDR.ESTAT 0 0xF = true ∧ g.flash = h.flash := by
  refine ⟨?_, ?_, C.wr.wr.bit_raise rfl (by decide), Hub.raise_same.flash (by decide)⟩
  · rw [Hub.blockFail, Hub.raise_rd (by decide), rd_wr_place (by decide), C.rd_wr]
    rfl
  · rw [Hub.blockFail, Hub.raise_rd (by decide), C.wr.rd_wr]
    exact Nat.mod_eq_of_lt small

theorem rd_blockFail_apart {code : Nat} {F : Fld} {i b : Nat} (calm : F.Calm) (done : UPD.BLKSTAT_DONE.place ≠ F.place)
    (codes : UPD.BLKSTAT_CODE.place ≠ F.place) : (h.blockFail code).rd F i b = h.rd F i b := by
  rw [Hub.blockFail, Hub.raise_rd calm, rd_wr_place codes, rd_wr_place done]

/-- The block taken from the data port, which is empty after it. -/
def Hub.blockTaken (h : Hub) : Hub := ({ h with blk := [] } : Hub).wr UPD.BLKSTAT_WORDS 0

theorem Hub.Canon.blockTaken (C : h.Canon) : h.blockTaken.Canon := by
  have E : ({ h with blk := [] } : Hub).Canon := ⟨C.regs, C.tab, C.fmem⟩
  exact E.wr

theorem Hub.Canon.rd_blockTaken (C : h.Canon) : h.blockTaken.rd UPD.BLKSTAT_WORDS = 0 := by
  have E : ({ h with blk := [] } : Hub).Canon := ⟨C.regs, C.tab, C.fmem⟩
  exact E.rd_wr

theorem rd_blockTaken_apart {F : Fld} {i b : Nat} (e : UPD.BLKSTAT_WORDS.place ≠ F.place) : h.blockTaken.rd F i b = h.rd F i b :=
  (rd_wr_place e).trans (rd_of_regs rfl F i b)

/-- A whole block in its landing. -/
def Hub.blockLanding (h : Hub) (num : Nat) : Hub :=
  ({ h.blockTaken with landing := h.blk } : Hub).wr UPD.hBlk num
    |>.wr UPD.hCrcBad (bnat (crc32c (ofWords h.blk) != h.rd UPD.BLKCRC_CRC)) |>.wr UPD.BLKSTAT_DONE 1 |>.wr UPD.BLKSTAT_CODE 0

theorem blockGo_of_whole {num : Nat} {x : Cap} (idle : h.rd UPD.BLKSTAT_DONE ≠ 1) (whole : h.rd UPD.BLKSTAT_WORDS = 1024)
    (st : h.rd UPD.STAT_STATE = 1 ∨ h.rd UPD.STAT_STATE = 2) : h.blockGo num x = h.blockLanding num := by
  have open_ : ¬(h.rd UPD.STAT_STATE ≠ 1 ∧ h.rd UPD.STAT_STATE ≠ 2) := by omega
  unfold Hub.blockGo
  dsimp only
  rw [if_neg idle, if_neg (not_not_intro whole), if_neg open_]
  rfl

theorem blockGo_of_part {num : Nat} {x : Cap} (idle : h.rd UPD.BLKSTAT_DONE ≠ 1) (part : h.rd UPD.BLKSTAT_WORDS ≠ 1024) :
    h.blockGo num x = (h.blockTaken.wr UPD.BLKSTAT_DONE 3 |>.wr UPD.BLKSTAT_CODE 5).raise 0xF 0 { x with lo := some num } := by
  unfold Hub.blockGo
  dsimp only
  rw [if_neg idle, if_pos part]
  rfl

/-- BLK.GO with a landing open. -/
theorem Hub.Canon.blockGo_shows (C : h.Canon) {num : Nat} {x : Cap} (small : num < 2 ^ 64) (idle : h.rd UPD.BLKSTAT_DONE ≠ 1)
    (st : h.rd UPD.STAT_STATE = 1 ∨ h.rd UPD.STAT_STATE = 2) :
    let g := h.blockGo num x
    g.rd UPD.BLKSTAT_WORDS = 0 ∧ g.blk = [] ∧
      (h.rd UPD.BLKSTAT_WORDS = 1024 → g.rd UPD.BLKSTAT_DONE = 1 ∧ g.landing = h.blk ∧ g.rd UPD.hBlk = num) ∧
      (h.rd UPD.BLKSTAT_WORDS ≠ 1024 → g.rd UPD.BLKSTAT_DONE = 3 ∧ g.rd UPD.BLKSTAT_CODE = 5 ∧ g.bit HDR.ESTAT 0 0xF = true) := by
  have T : h.blockTaken.Canon := C.blockTaken
  have L : ({ h.blockTaken with landing := h.blk } : Hub).Canon := ⟨T.regs, T.tab, T.fmem⟩
  by_cases whole : h.rd UPD.BLKSTAT_WORDS = 1024
  · rw [blockGo_of_whole idle whole st]
    refine ⟨?_, rfl, fun _ => ⟨?_, rfl, ?_⟩, fun part => absurd whole part⟩
    · rw [Hub.blockLanding, rd_wr_place (by decide), rd_wr_place (by decide), rd_wr_place (by decide), rd_wr_place (by decide)]
      exact C.rd_blockTaken
    · rw [Hub.blockLanding, rd_wr_place (by decide), L.wr.wr.rd_wr]
      rfl
    · rw [Hub.blockLanding, rd_wr_place (by decide), rd_wr_place (by decide), rd_wr_place (by decide), L.rd_wr]
      exact Nat.mod_eq_of_lt small
  · rw [blockGo_of_part idle whole]
    refine ⟨?_, (Hub.raise_same.blk (by decide)).trans rfl, fun w => absurd w whole, fun _ => ⟨?_, ?_, T.wr.wr.bit_raise rfl (by decide)⟩⟩
    · rw [Hub.raise_rd (by decide), rd_wr_place (by decide), rd_wr_place (by decide), C.rd_blockTaken]
    · rw [Hub.raise_rd (by decide), rd_wr_place (by decide), T.rd_wr]
      rfl
    · rw [Hub.raise_rd (by decide), T.wr.rd_wr]
      rfl

end Sys2Proof.Machine
end

section
/-! PROOFS. The end of a landing and of a verification, activation, and the bundle decrypt engine (R629 to R637). -/

namespace Sys2Proof.Machine

open Sys2Proof

variable {h : Hub}

/-! ### The end of a landing (R627 to R629) -/

/-- The first block in the flash, and what its header says shown. -/
def Hub.headerShown (h : Hub) : Hub :=
  let area := h.rd UPD.hArea
  let bs := h.blockPlain 0
  let h1 := h.program area (0 * 4096) bs
  if area = 1 then h1.wr UPD.HDR_SVN (leAt bs 12 1) |>.wr UPD.HDR_SFMT (leAt bs 13 1) |>.wr UPD.HDR_LEN_BYTES (leAt bs 8 4)
  else h1.wr UPD.HDR_LEN_BYTES (leAt bs 24 4)

/-- The first block counted among those that have landed. -/
def Hub.firstLanded (h : Hub) : Hub := { h with landed := Tab.ins 0 1 h.landed }

/-- The end of a landing told. -/
def Hub.landingTold (h : Hub) : Hub :=
  (h.wr UPD.LANDED_COUNT h.landed.length |>.wr UPD.BLKSTAT_DONE 2 |>.cnt UPD.CNT_BLK_COUNT).irq 0xF 0

/-- The whole image may have landed with it. -/
theorem blockDone_of_first (good : h.on UPD.hCrcBad = false) (first : h.rd UPD.hBlk = 0) :
    ∃ whole : Bool, h.blockDone true = h.headerShown.firstLanded.landingTold.when whole fun h => h.setUpd 2 := by
  refine ⟨h.headerShown.firstLanded.landingTold.rd UPD.STAT_STATE == 1 &&
    (List.range h.headerShown.firstLanded.landingTold.blocksDue).all fun b => Tab.has b h.headerShown.firstLanded.landingTold.landed, ?_⟩
  unfold Hub.blockDone
  rw [good, first]
  rfl

theorem blockDone_of_crcBad {ok : Bool} (bad : h.on UPD.hCrcBad = true) : h.blockDone ok = (h.cnt UPD.CNT_CRC_COUNT).blockFail 1 := by
  unfold Hub.blockDone
  rw [bad]
  rfl

theorem Hub.Canon.headerShown (C : h.Canon) : h.headerShown.Canon := by
  have P : (h.program (h.rd UPD.hArea) (0 * 4096) (h.blockPlain 0)).Canon := ⟨C.regs, C.tab, C.fmem⟩
  exact keep_ite P.wr.wr.wr P.wr

theorem rd_headerShown_apart {F : Fld} {i b : Nat} (e : ∀ G ∈ [UPD.HDR_SVN, UPD.HDR_SFMT, UPD.HDR_LEN_BYTES], G.place ≠ F.place) :
    h.headerShown.rd F i b = h.rd F i b := by
  have programmed : (h.program (h.rd UPD.hArea) (0 * 4096) (h.blockPlain 0)).rd F i b = h.rd F i b := rd_of_regs rfl F i b
  unfold Hub.headerShown
  dsimp only
  split
  · rw [rd_wr_place (e _ (by decide)), rd_wr_place (e _ (by decide)), rd_wr_place (e _ (by decide)), programmed]
  · rw [rd_wr_place (e _ (by decide)), programmed]

theorem flash_headerShown : h.headerShown.flash = Tab.putRun 0xFF (h.rd UPD.hArea * 2 ^ 26) (h.blockPlain 0) h.flash := by
  unfold Hub.headerShown
  dsimp only
  split <;> exact congrArg (fun k => Tab.putRun 0xFF k (h.blockPlain 0) h.flash) (by omega)

theorem rd_firstLanded {F : Fld} {i b : Nat} : h.firstLanded.rd F i b = h.rd F i b := rd_of_regs rfl F i b

theorem landed_landingTold : h.landingTold.landed = h.landed := Hub.irq_same.landed (by decide)

theorem flash_landingTold : h.landingTold.flash = h.flash := Hub.irq_same.flash (by decide)

theorem Hub.Canon.landingTold_shows (C : h.Canon) : h.landingTold.rd UPD.BLKSTAT_DONE = 2 ∧
    h.landingTold.rd UPD.CNT_BLK_COUNT = h.oneMore UPD.CNT_BLK_COUNT ∧ h.landingTold.Alarm HDR.ISTAT 0 0xF := by
  refine ⟨?_, ?_, C.wr.wr.cnt.alarm_irq rfl (by decide)⟩
  · rw [Hub.landingTold, rd_irq_place (by decide), rd_cnt_place (by decide), C.wr.rd_wr]
    rfl
  · rw [Hub.landingTold, rd_irq_place (by decide), C.wr.wr.rd_cnt, rd_wr_place (by decide), rd_wr_place (by decide), Hub.oneMore]

/-- The first block of a landing ends up in the flash. -/
theorem Hub.Canon.blockDone_shows (C : h.Canon) (good : h.on UPD.hCrcBad = false) (first : h.rd UPD.hBlk = 0) :
    (h.blockDone true).rd UPD.BLKSTAT_DONE = 2 ∧ (h.blockDone true).bit HDR.ISTAT 0 0xF = true ∧
      (h.blockDone true).rd UPD.CNT_BLK_COUNT = h.oneMore UPD.CNT_BLK_COUNT ∧ Tab.has 0 (h.blockDone true).landed = true ∧
      (h.blockDone true).flash = Tab.putRun 0xFF (h.rd UPD.hArea * 2 ^ 26) (h.blockPlain 0) h.flash := by
  have S : h.headerShown.Canon := C.headerShown
  have E : h.headerShown.firstLanded.Canon := ⟨S.regs, S.tab, S.fmem⟩
  obtain ⟨done, count, told⟩ := E.landingTold_shows
  have counted : h.headerShown.firstLanded.oneMore UPD.CNT_BLK_COUNT = h.oneMore UPD.CNT_BLK_COUNT := by
    rw [Hub.oneMore, rd_firstLanded, rd_headerShown_apart (by decide), Hub.oneMore]
  have landed : Tab.find 0 h.headerShown.firstLanded.landingTold.landed = some 1 := by
    rw [landed_landingTold]
    exact Tab.find_ins_same _ _ _
  have flash : h.headerShown.firstLanded.landingTold.flash = Tab.putRun 0xFF (h.rd UPD.hArea * 2 ^ 26) (h.blockPlain 0) h.flash :=
    flash_landingTold.trans flash_headerShown
  obtain ⟨whole, ends⟩ := blockDone_of_first good first
  rw [ends]
  generalize h.headerShown.firstLanded.landingTold = l at done count told landed flash ⊢
  generalize Tab.putRun 0xFF (h.rd UPD.hArea * 2 ^ 26) (h.blockPlain 0) h.flash = bs at flash ⊢
  cases whole
  · exact ⟨done, told.bit, count.trans counted, Tab.has_of_find landed, flash⟩
  · rw [Hub.when_true]
    exact ⟨(rd_setUpd_apart (by decide)).trans done, told.setUpd.bit, (rd_setUpd_apart (by decide)).trans (count.trans counted),
      Tab.has_of_find ((congrArg (Tab.find 0) (Hub.setUpd_same.landed (by decide))).trans landed),
      (Hub.setUpd_same.flash (by decide)).trans flash⟩

/-! ### Verification and activation (R630, R631) -/

theorem imageCheck_lt (h : Hub) (area : Nat) : h.imageCheck area < 7 := by
  unfold Hub.imageCheck
  dsimp only
  split_ifs <;> decide

theorem Hub.Canon.verifyEnd_good (C : h.Canon) (image : h.rd UPD.hArea = 1) (good : h.imageCheck 1 = 0) :
    h.verifyEnd.rd UPD.STAT_STATE = 4 ∧ h.verifyEnd.rd UPD.STAT_CODE = 0 := by
  have ends : h.verifyEnd = (h.wr UPD.STAT_CODE 0).setUpd 4 := by
    unfold Hub.verifyEnd
    dsimp only
    rw [if_pos image, good]
    rfl
  rw [ends, C.wr.rd_setUpd (by decide), rd_setUpd_apart (by decide), C.rd_wr]
  exact ⟨rfl, rfl⟩

theorem Hub.Canon.verifyEnd_bad (C : h.Canon) (image : h.rd UPD.hArea = 1) (bad : h.imageCheck 1 ≠ 0) :
    h.verifyEnd.rd UPD.STAT_STATE = 6 ∧ h.verifyEnd.rd UPD.STAT_CODE = h.imageCheck 1 ∧ h.verifyEnd.bit HDR.ESTAT 1 0xF = true := by
  have small := imageCheck_lt h 1
  have ends : h.verifyEnd = ((h.wr UPD.STAT_CODE (h.imageCheck 1)).raise 0xF 1).setUpd 6 := by
    unfold Hub.verifyEnd
    dsimp only
    rw [if_pos image]
    split
    · next e => exact absurd e bad
    · next e => omega
    · rfl
  have A : ((h.wr UPD.STAT_CODE (h.imageCheck 1)).raise 0xF 1).Alarm HDR.ESTAT 1 0xF := C.wr.alarm_raise rfl (by decide)
  rw [ends]
  refine ⟨A.canon.rd_setUpd (by decide), ?_, A.setUpd.bit⟩
  rw [rd_setUpd_apart (by decide), Hub.raise_rd (by decide), C.rd_wr]
  exact Nat.mod_eq_of_lt (show _ < 16 by omega)

theorem Hub.Canon.activateGo_shows (C : h.Canon) :
    (h.rd UPD.hArea = 1 → h.activateGo.rd UPD.COPY_STATE = 1 ∧ h.activateGo.rd UPD.STAT_STATE = 5) ∧
      (h.rd UPD.hArea ≠ 1 → h.activateGo.rd UPD.hBundle = (h.rd UPD.hArea - 1) % 2 ^ 64) := by
  refine ⟨fun image => ?_, fun bundle => ?_⟩
  · rw [Hub.activateGo, if_pos image, rd_setUpd_apart (by decide), C.rd_wr, C.wr.rd_setUpd (by decide)]
    exact ⟨rfl, rfl⟩
  · rw [Hub.activateGo, if_neg bundle, rd_wr_place (by decide), C.rd_wr]
    rfl

/-! ### The bundle decrypt engine (R637) -/

theorem rd_refreshClear_apart {F : Fld} {i b : Nat} (out : F.Outside UPD.BCLEAR 512) : h.refreshClear.rd F i b = h.rd F i b :=
  rd_setBuf_outside (by rw [padTo_length]) out

/-- The clear buffer with `bs` in it. -/
def Hub.withClear (h : Hub) (bs : Bytes) : Hub := { h with clear := bs }

theorem Hub.Canon.withClear (C : h.Canon) {bs : Bytes} : (h.withClear bs).Canon := ⟨C.regs, C.tab, C.fmem⟩

theorem leAt_zeros (n a k : Nat) : leAt (List.replicate n 0) a k = 0 := by
  unfold leAt
  rw [List.drop_replicate, List.take_replicate]
  generalize min k (n - a) = m
  induction m with
  | zero => rfl
  | succ m ih => rw [List.replicate_succ, leNat, ih]; rfl

/-- An empty clear buffer shows as zeros. -/
theorem Hub.Canon.rd_cleared (C : h.Canon) {j : Nat} (hj : j < 512) : (h.withClear []).refreshClear.rd (UPD.BCLEAR.word j) = 0 := by
  have zeros : padTo 2048 ((h.withClear []).clear.drop ((h.withClear []).rd UPD.BDEC_WOFF * 2048)) = List.replicate 2048 0 :=
    (congrArg (padTo 2048) List.drop_nil).trans (padTo_of_le (Nat.zero_le _))
  rw [Hub.refreshClear, zeros, C.withClear.rd_setBuf rfl (by rw [List.length_replicate]; decide) (by rw [List.length_replicate]; exact hj)]
  exact leAt_zeros _ _ _

/-- The engine at rest, or at work, with `bs` in its clear buffer. -/
def Hub.bdecAt (h : Hub) (done code : Nat) (bs : Bytes) : Hub := (h.withClear bs).wr UPD.BDEC_DONE done |>.wr UPD.BDEC_CODE code

theorem Hub.Canon.bdecAt_shows (C : h.Canon) {done code : Nat} {bs : Bytes} (d : done < 4) (c : code < 16) :
    (h.bdecAt done code bs).rd UPD.BDEC_DONE = done ∧ (h.bdecAt done code bs).rd UPD.BDEC_CODE = code := by
  refine ⟨?_, ?_⟩
  · rw [Hub.bdecAt, rd_wr_place (by decide), C.withClear.rd_wr]
    exact Nat.mod_eq_of_lt d
  · rw [Hub.bdecAt, C.withClear.wr.rd_wr]
    exact Nat.mod_eq_of_lt c

/-- A decryption that fails leaves no text. -/
theorem Hub.Canon.bdecFail_shows (C : h.Canon) {code : Nat} (c : code < 16) :
    (h.bdecAt 3 code []).refreshClear.rd UPD.BDEC_DONE = 3 ∧ (h.bdecAt 3 code []).refreshClear.rd UPD.BDEC_CODE = code ∧
      (h.bdecAt 3 code []).refreshClear.clear = [] := by
  obtain ⟨done, code'⟩ := C.bdecAt_shows (bs := []) (by decide : 3 < 4) c
  exact ⟨(rd_refreshClear_apart (by decide)).trans done, (rd_refreshClear_apart (by decide)).trans code',
    Hub.refreshClear_same.clear (by decide)⟩

/-- What a decryption asked for is to work on. -/
def Hub.bdecAsked (h : Hub) (v : Nat) : Hub :=
  [UPD.BDEC_SECTION, UPD.BDEC_SLOT, UPD.BDEC_WOFF].foldl (fun (h : Hub) (F : Fld) => h.wr F (bits v F.lo F.w)) h

theorem Hub.Canon.bdecGo_shows (C : h.Canon) {v : Nat} (idle : h.rd UPD.BDEC_DONE ≠ 1) :
    (h.bdecGo v).rd UPD.BDEC_DONE = 1 ∧ (h.bdecGo v).rd UPD.BDEC_CODE = 0 ∧ (h.bdecGo v).clear = [] := by
  have starts : h.bdecGo v = ((((h.bdecAsked v).withClear []).wr UPD.hBdec (bits v 0 6 + bits v 8 5 * 64)).wr UPD.BDEC_DONE 1
      |>.wr UPD.BDEC_CODE 0).refreshClear := if_neg idle
  have A : ((h.bdecAsked v).withClear []).Canon := Hub.Canon.withClear C.wr.wr.wr
  rw [starts]
  refine ⟨?_, ?_, Hub.refreshClear_same.clear (by decide)⟩
  · rw [rd_refreshClear_apart (by decide), rd_wr_place (by decide), A.wr.rd_wr]
    rfl
  · rw [rd_refreshClear_apart (by decide), A.wr.wr.rd_wr]
    rfl

theorem bdecDone_of_none (off : h.on UPD.hBundle = false) : h.bdecDone = (h.bdecAt 3 5 []).refreshClear := by
  unfold Hub.bdecDone
  rw [off]
  rfl

/-- The nonce of a section (R637). -/
def sectionNonce (k : Nat) : Bytes := natLe 2 k ++ List.replicate 10 0

/-- The section of an encrypted bundle that its slot may open: its tag tells whether it is opened. -/
theorem bdecDone_of_section {c : Section} {slot : Nat} (bundle : h.on UPD.hBundle = true)
    (found : (h.bundleSections h.bundleArea)[h.rd UPD.hBdec % 64]? = some c) (from_ : h.rd UPD.hBdec / 64 % 32 = slot)
    (enc : sectionEnc c = true) (valid : h.on KEY.SATTR_VALID 0 slot = true) (recip : h.rd KEY.SATTR_RECIPIENT 0 slot = 3)
    (tagged : 16 ≤ c.body.length) (small : c.body.length ≤ 32784) :
    h.bdecDone =
      let n := c.body.length - 16
      let nonce := sectionNonce (h.rd UPD.hBdec % 64)
      let text := padTo n (Config.gcmDecrypt (h.keyOf slot) nonce (c.body.take n))
      if padTo 16 (Config.gcmTag (h.keyOf slot) nonce c.head (c.body.take n)) ≠ c.body.drop n then (h.bdecAt 3 1 []).refreshClear
      else ((h.bdecAt 2 0 text).wr UPD.BDLEN_BYTES n).refreshClear.when (sectionType c == 6) fun h => h.blowOem text := by
  have key : h.keyFor slot 3 = h.keyOf slot := by
    unfold Hub.keyFor
    rw [valid, recip]
    rfl
  have open_ : (h.on KEY.SATTR_VALID 0 slot && h.rd KEY.SATTR_RECIPIENT 0 slot == 3) = true := by rw [valid, recip]; rfl
  have fits : ¬ 32768 < c.body.length - 16 := by omega
  have long : ¬ c.body.length < 16 := by omega
  unfold Hub.bdecDone
  dsimp only
  rw [bundle, if_pos rfl, found, from_]
  dsimp only
  rw [enc, open_, key, Bool.not_true, if_neg Bool.false_ne_true, if_neg Bool.false_ne_true, if_neg fits]
  simp only [long, false_or]
  rfl

theorem rd_when_blowOem {oem : Bool} {bs : Bytes} {F : Fld} {i b : Nat} (e : Nat.testBit 0x20000000000000000000000000000000008000000000000000000000000000000000000000000000000000000000 F.kind = false) :
    (h.when oem fun h => h.blowOem bs).rd F i b = h.rd F i b :=
  rd_when_of_rd (f := fun h => h.blowOem bs) (Hub.blowOem_rd e)

/-- A section opened. -/
theorem Hub.Canon.bdecOpened_shows (C : h.Canon) {bs : Bytes} {n : Nat} {oem : Bool} :
    let g := ((h.bdecAt 2 0 bs).wr UPD.BDLEN_BYTES n).refreshClear.when oem fun h => h.blowOem bs
    g.rd UPD.BDEC_DONE = 2 ∧ g.rd UPD.BDEC_CODE = 0 ∧ g.clear = bs := by
  obtain ⟨done, code⟩ := C.bdecAt_shows (bs := bs) (by decide : 2 < 4) (by decide : 0 < 16)
  refine ⟨?_, ?_, ?_⟩
  · rw [rd_when_blowOem (by decide), rd_refreshClear_apart (by decide), rd_wr_place (by decide), done]
  · rw [rd_when_blowOem (by decide), rd_refreshClear_apart (by decide), rd_wr_place (by decide), code]
  · exact keep_when (P := fun g => g.clear = bs) (fun _ e => (Hub.blowOem_same.clear (by decide)).trans e)
      (Hub.refreshClear_same.clear (by decide))

end Sys2Proof.Machine

open Sys2Proof Sys2Proof.Machine

/-- Settles O26, clause by clause, from what each operation leaves in the update block. -/
theorem updateCommandsComplete : Obligations.UpdateCommandsComplete := by
  intro s I
  have C : s.hub.Canon := I
  have CL (m : MasterId) : (s.hub.dropLatch m).Canon := C.dropLatch
  have ctl {c : Instr} {r : Req} {f : Hub → Hub} {Q : Hub → Prop} (e : exec c s = s.act fun h => h.updCtl r f)
      (G : s.hub.Grants r UPD.CTL_START 0) (up : s.hub.up 0xF = true) (q : Q (s.hub.written r f)) : Completes c s Q :=
    completes_reg_when (p := fun h => h.up 0xF) (f := fun _ => f) e G up q
  refine ⟨?boot, ?start, ?data, ?land, ?crc, ?landed, ?verify, ?verified, ?activate, ?abort, ?svn, ?decrypt, ?none, ?section_, ?clear⟩
  case boot =>
    intro pufOk corr up fresh stamp nil off
    refine completes_when (p := fun h => h.up 0xE && !h.on UPD.hBoot) (f := fun _ h => h.boot pufOk corr) rfl (by rw [up, fresh]; rfl) ?_
    obtain ⟨noted, count, tamper, root, noRoot⟩ := C.boot_shows (pufOk := pufOk) (corr := corr) stamp nil off
    exact ⟨noted, count, tamper, root, noRoot, C.boot_recovers stamp nil off⟩
  case start =>
    intro r bundle G up
    have W : ((s.hub.dropLatch r.master).wr UPD.CTL_TARGET (bnat bundle)).Canon := (CL r.master).wr
    have spare : ((s.hub.dropLatch r.master).wr UPD.CTL_TARGET (bnat bundle)).spareArea = s.hub.spareArea := by
      unfold Hub.spareArea
      rw [rd_wr_place (by decide), Hub.dropLatch_rd]
    obtain ⟨st, count, landed, target, area, record⟩ := W.updStart_shows bundle
    rw [spare] at area
    exact ctl rfl G up ⟨st, count, landed, target.trans ((CL r.master).rd_wr.trans (bnat_mod_two bundle)), area,
      fun armed => record ((rd_wr_place (by decide)).trans armed)⟩
  case data =>
    intro r v G up room
    refine completes_reg_when (p := fun h => h.up 0xF && decide (h.rd UPD.BLKSTAT_WORDS < 1024))
      (f := fun _ h => ({ h with blk := h.blk ++ [v % 2 ^ 32] } : Hub).wr UPD.BLKSTAT_WORDS (h.rd UPD.BLKSTAT_WORDS + 1)) rfl G ?_ ⟨rfl, ?_⟩
    · exact Bool.and_eq_true_iff.2 ⟨up, decide_eq_true room⟩
    · have E : ({ s.hub.dropLatch r.master with blk := s.hub.blk ++ [v % 2 ^ 32] } : Hub).Canon := ⟨C.regs, C.tab, C.fmem⟩
      have room' : (s.hub.dropLatch r.master).rd UPD.BLKSTAT_WORDS < 1024 := room
      exact E.rd_wr.trans (Nat.mod_eq_of_lt (show _ < 2048 by omega))
  case land =>
    intro r num G up st idle
    have W : ((s.hub.dropLatch r.master).wr UPD.BLK_NUM num).Canon := (CL r.master).wr
    have same {F : Fld} (e : UPD.BLK_NUM.place ≠ F.place) : ((s.hub.dropLatch r.master).wr UPD.BLK_NUM num).rd F = s.hub.rd F :=
      rd_wr_place e
    have small : num % 2 ^ 14 < 2 ^ 64 := by omega
    have shows := W.blockGo_shows (x := Hub.regCap r UPD.BLK_NUM 0) small (by rw [same (by decide)]; exact idle)
      (by rw [same (by decide)]; exact st)
    rw [same (by decide)] at shows
    exact completes_reg_when (p := fun h => h.up 0xF)
      (f := fun _ h => (h.wr UPD.BLK_NUM num).blockGo (num % 2 ^ 14) (Hub.regCap r UPD.BLK_NUM 0)) rfl G up shows
  case crc =>
    intro ok up busy bad
    refine completes_when (p := fun h => h.up 0xF && h.rd UPD.BLKSTAT_DONE == 1) (f := fun _ h => h.blockDone ok) rfl (by rw [up, busy]; rfl) ?_
    rw [blockDone_of_crcBad bad]
    have K : (s.hub.cnt UPD.CNT_CRC_COUNT).Canon := C.cnt
    obtain ⟨done, code, err, flash⟩ := K.blockFail_shows (code := 1) (by decide)
    refine ⟨done, code, err, ?_, flash⟩
    rw [rd_blockFail_apart (by decide) (by decide) (by decide), C.rd_cnt, Hub.oneMore]
  case landed =>
    intro up busy good first
    exact completes_when (p := fun h => h.up 0xF && h.rd UPD.BLKSTAT_DONE == 1) (f := fun _ h => h.blockDone true) rfl
      (by rw [up, busy]; rfl) (C.blockDone_shows good first)
  case verify =>
    intro r G up st
    have before : (s.hub.dropLatch r.master).rd UPD.STAT_STATE = 2 := st
    have ready : ((s.hub.dropLatch r.master).rd UPD.STAT_STATE == 2) = true := by rw [before]; rfl
    refine completes_reg_to (k := (s.hub.dropLatch r.master).setUpd 3) rfl G ?_ ⟨?_, (bit_of_rd (Hub.written_rd ..)).trans ?_⟩
    · have up' : (s.hub.dropLatch r.master).up 0xF = true := up
      rw [up', Hub.when_true, ready, Hub.when_true]
    · exact (Hub.written_rd ..).trans ((CL r.master).rd_setUpd (by decide))
    · exact ((CL r.master).setUpd_told (by rw [before]; decide)).bit
  case verified =>
    intro up st image
    exact completes_when (p := fun h => h.up 0xF && h.rd UPD.STAT_STATE == 3) (f := fun _ h => h.verifyEnd) rfl (by rw [up, st]; rfl)
      ⟨C.verifyEnd_good image, C.verifyEnd_bad image⟩
  case activate =>
    intro r G up st
    have before : (s.hub.dropLatch r.master).rd UPD.STAT_STATE = 4 := st
    have ready : ((s.hub.dropLatch r.master).rd UPD.STAT_STATE == 4) = true := by rw [before]; rfl
    refine completes_reg_to (k := (s.hub.dropLatch r.master).activateGo) rfl G ?_ (CL r.master).activateGo_shows
    have up' : (s.hub.dropLatch r.master).up 0xF = true := up
    rw [up', Hub.when_true, ready, Hub.when_true]
  case abort =>
    intro r G up
    refine ctl rfl G up ⟨?_, fun armed => ?_⟩
    · rw [Hub.written_rd]
      exact (CL r.master).clearRecord.rd_setUpd (by decide)
    · rw [Hub.written_rd, rd_setUpd_apart (by decide)]
      exact (CL r.master).clearRecord_shows armed
  case svn =>
    intro r G up
    refine ctl rfl G up ?_
    rw [Hub.written_rd]
    exact (CL r.master).rd_wr
  case decrypt =>
    intro r v G up idle
    exact completes_reg_when (p := fun h => h.up 0xF) (f := fun _ h => h.bdecGo v) rfl G up ((CL r.master).bdecGo_shows idle)
  case none =>
    intro up busy off
    refine completes_when (p := fun h => h.up 0xF && h.rd UPD.BDEC_DONE == 1) (f := fun _ h => h.bdecDone) rfl (by rw [up, busy]; rfl) ?_
    rw [bdecDone_of_none off]
    exact C.bdecFail_shows (by decide)
  case section_ =>
    intro c slot up busy bundle found from_ enc valid recip tagged small
    refine completes_when (p := fun h => h.up 0xF && h.rd UPD.BDEC_DONE == 1) (f := fun _ h => h.bdecDone) rfl (by rw [up, busy]; rfl) ?_
    have ends := bdecDone_of_section bundle found from_ enc valid recip tagged small
    refine ⟨fun tag => ?_, fun tag => ?_⟩
    · rw [ends.trans (if_neg (not_not_intro tag))]
      exact C.bdecOpened_shows
    · rw [ends.trans (if_pos tag)]
      exact C.bdecFail_shows (by decide)
  case clear =>
    intro r G up
    refine completes_reg_when (p := fun h => h.up 0xF) (f := fun _ h => (h.withClear []).refreshClear) rfl G up
      ⟨Hub.refreshClear_same.clear (by decide), fun j hj => ?_⟩
    rw [Hub.written_rd]
    exact (CL r.master).rd_cleared hj
end

section
/-! PROOFS. Statements on clasp contracts, power outputs, power domains and protection that the model does not meet, each with the
node that shows it (R513, R558, R562, R570, R571, R666). -/

namespace Sys2Proof.Machine

open Sys2Proof

theorem exec_claspRetry (p : Fin 8) (s : State) : exec (.claspRetry p) s =
    s.act fun h => h.when (h.live (0xB0 + p)) fun h => h.claspRetry p := rfl

theorem exec_telSnap (src tok : Nat) (s : State) : exec (.telSnap src tok) s =
    s.act fun h => h.when (h.up 6 && h.domOn 2) fun h =>
      let (st, h1) := if h.isCrown src then h.snapshot else (3, h)
      h1.ctlSend { typ := 0x61, resp := true, dst := src, tok := tok, body := natLe 4 st ++ natLe 4 (h1.rd TEL.SNAPNUM_NUM) } := rfl

theorem exec_hardwareVote (s : State) : exec .hardwareVote s = execHardwareVote s := rfl

theorem exec_waitExit (s : State) : exec .waitExit s = s.act fun h => h.when (h.up 0xC8) fun h => h.refreshBus.waitExit := rfl

/-! ### A clasp request of a port that is DOWN -/

/-- Node `h` on which clasp port 0 has a request that it has not sent. -/
def Hub.withUnsentRequest (h : Hub) : Hub := { h with claspAsk := [(0, { ctype := 1, tok := 0, payload := [], sent := false })] }

theorem Hub.Canon.withUnsentRequest {h : Hub} (C : h.Canon) : h.withUnsentRequest.Canon := ⟨C.regs, C.tab, C.fmem⟩

/-- Clasp port 0 runs, its Ocael port is DOWN, and a request waits for it. -/
def requestAtDownPort : State :=
  { hub := (poweredNode [(HDR.PSTAT_READY, 0xB0, 1), (HDR.PCTL_EN, 0xB0, 1)] []).hub.withUnsentRequest }

theorem requestAtDownPort_inv : requestAtDownPort.Inv := Hub.Canon.withUnsentRequest (poweredNode_inv _ _)

/-- Refutes O21: the clause on `claspRetry` counts a try of every request that has had fewer than three. A request that the port
has not been able to send yet is not tried, and keeps its count (R510, R513). -/
theorem not_claspCommandsComplete : ¬ Obligations.ClaspCommandsComplete := by
  intro h
  obtain ⟨-, -, -, -, -, -, -, -, -, -, -, -, -, -, -, -, -, -, -, -, -, -, -, -, retry, -⟩ :=
    h requestAtDownPort requestAtDownPort_inv
  have live : requestAtDownPort.hub.live (0xB0 + (0 : Fin 8)) = true := by decide +kernel
  obtain ⟨counted, -⟩ := of_completes_when (exec_claspRetry 0 requestAtDownPort) live
    (retry 0 { ctype := 1, tok := 0, payload := [], sent := false } live rfl (by decide))
  have kept : (Tab.find 0 (requestAtDownPort.hub.claspRetry 0).claspAsk).map ClaspAsk.tries = some 0 := by decide +kernel
  exact absurd (kept.symm.trans counted) (by decide)

/-! ### A snapshot that the crown asks for while one is on its way -/

/-- The crown is node 5, and a snapshot is being sent. -/
def snapshotUnderWay : State :=
  poweredNode [(HDR.PSTAT_READY, 6, 1), (CAS.CROWN_VALID, 0, 1), (CAS.CROWN_NODE, 0, 5), (TEL.SSTAT_BUSY, 0, 1)] []

/-- Refutes O29: the clause on `telSnap` has status 0 and a new number for the crown whenever CFG.SEND is 0, but its words leave
out SSTAT.BUSY: while a snapshot is on its way, the response is status 1 with the old number (R664, R666). -/
theorem not_protectionCommandsComplete : ¬ Obligations.ProtectionCommandsComplete := by
  intro h
  obtain ⟨-, -, -, -, -, -, -, -, -, -, -, -, -, -, -, -, -, telSnap⟩ := h snapshotUnderWay (poweredNode_inv _ _)
  have on : (snapshotUnderWay.hub.up 6 && snapshotUnderWay.hub.domOn 2) = true := by decide +kernel
  obtain ⟨-, granted⟩ := of_completes_when (exec_telSnap 5 0 snapshotUnderWay) on
    (telSnap 5 0 (by decide +kernel) (by decide +kernel))
  have sent := granted (by decide +kernel) (by decide +kernel)
  revert sent
  decide +kernel

/-! ### A domain that the first of two votes drains, and the second names -/

/-- Domain USB is on, no vote names it, and the upstream is active: its vote has just become due. -/
def usbVoteDue : State := poweredNode [(PDM.VOTE_FW_DOM, 0, 0), (USB.STAT_UPACT, 0, 1)] []

/-- Refutes O24: the clause on `hardwareVote` has each domain at rest follow the votes as the command leaves them, but the command
writes two votes, and each takes effect by itself. The first, VOTE_LUME, drains the domain that VOTE_USB then names (R570, R571). -/
theorem not_powerCommandsComplete : ¬ Obligations.PowerCommandsComplete := by
  intro h
  obtain ⟨-, -, vote, -⟩ := h usbVoteDue (poweredNode_inv _ _)
  obtain ⟨-, -, follow⟩ := of_completes_act (exec_hardwareVote usbVoteDue) vote
  have followed := follow (by decide +kernel) (by decide +kernel) 10 (by decide) (by decide) (by decide +kernel) (by decide)
  revert followed
  decide +kernel

/-! ### A register that holds more than its field -/

/-- Node `h` whose register `F`, at index `i`, holds `v`, be it wider than the field or not. -/
def Hub.withRawReg (h : Hub) (F : Fld) (i v : Nat) : Hub := { h with regs := Tab.ins (F.key i 0) v h.regs }

theorem Hub.Canon.withRawReg {h : Hub} (C : h.Canon) {F : Fld} {i v : Nat} : (h.withRawReg F i v).Canon :=
  ⟨Tab.ins_sorted _ _ C.regs, C.tab, C.fmem⟩

/-- Output 1 waits, and output 0 is committed to 4096 W, which leaves ALLOC.LUME at 0. -/
def committedPastAlloc : State :=
  { hub := (poweredNode [(HDR.PSTAT_READY, 0xC1, 1), (HDR.PCTL_EN, 0xC1, 1), (HDR.PSTAT_READY, 0xC8, 1), (LPO.STAT_STATE, 0, 2),
      (LPO.STAT_STATE, 1, 1), (BUS.BUDGET_W, 0, 100)] []).hub.withRawReg LPO.PLIM_CW 0 409600 }

theorem committedPastAlloc_inv : committedPastAlloc.Inv := Hub.Canon.withRawReg (poweredNode_inv _ _)

/-- The output that waits stays in WAIT. -/
theorem waitExit_committedPastAlloc : committedPastAlloc.hub.refreshBus.waitExit.rd LPO.STAT_STATE 1 = 1 := by decide +kernel

/-- Refutes O23: the clause on `waitExit` tells the power committed from BUS.ALLOC_LUME, whose 12 bits hold it only modulo
4096 W. The invariant bounds no register by its field, and where PLIM holds more than 14 bits the budget is full although
ALLOC_LUME reads 0 (R558, R562). -/
theorem not_powerOutputCommandsComplete : ¬ Obligations.PowerOutputCommandsComplete := by
  intro h
  obtain ⟨-, -, -, -, -, -, -, -, -, -, -, -, -, -, -, -, -, -, -, -, leave, -⟩ := h committedPastAlloc committedPastAlloc_inv
  have up : committedPastAlloc.hub.up 0xC8 = true := by decide +kernel
  obtain ⟨left, -⟩ := of_completes_when (exec_waitExit committedPastAlloc) up
    (leave 1 up (by decide +kernel) (by decide +kernel) (by decide +kernel) (by decide +kernel) (by decide +kernel))
  exact absurd (waitExit_committedPastAlloc.symm.trans left) (by decide)

end Sys2Proof.Machine
end
